-- ==== Sys2Proof/Word.lean ====
section
/-! DEFINITION. The word types of the part: 32-bit registers, bytes, 4,096-byte sectors and 32-byte digests. -/

namespace Sys2Proof

/-- A register of either register space (R5). -/
abbrev Word := BitVec 32

/-- One byte of a record that the part writes or reads. -/
abbrev Byte := BitVec 8

/-- The 4,096 user bytes of a sector (R4), byte 0 in bits [7:0]. -/
abbrev Sector := BitVec 32768

/-- An SM3 digest (R377, R515), its first byte in the most significant bits. -/
abbrev Digest := BitVec 256

end Sys2Proof
end

