-- ==== Sys2Proof/Config.lean ====
section
/-! DEFINITION. What one part fixes and the spec leaves open: free values without a body, so that nothing can be proved of
their value. -/

namespace Sys2Proof

namespace Config

/-- A free value of the given width: the n-th value that the spec leaves open (assumption log 3). -/
opaque freeValue (w : Nat) : Nat → BitVec w

/-- The key pair, certificate and OTP secrets of each part have no value in the spec (R519, R518): bytes of the device certificate. -/
opaque certificateDer : List Byte

/-- The device certificate, at most 1,024 bytes (R519). -/
def certificate : List Byte := certificateDer.take 1024

/-- CERT_DIGEST of the OTP (R518, R519). -/
opaque certDigest : Digest

/-- ROM_DIGEST of the OTP (R518). -/
opaque romDigest : Digest

/-- The SM2 signature of the device identity over a byte string, for one signing (R519: signatures differ from one
signing to the next). -/
opaque identitySignature : Nat → List Byte → BitVec 512

/-- Whether an SM2 signature with SM3 over a byte string verifies under a public key (R515, R522): an external standard. -/
opaque sm2Verify : BitVec 512 → List Byte → BitVec 512 → Bool

/-- The decryption of a payload with the sealed package key (R515): SM4 in CTR mode with the given initial counter block. -/
opaque sm4Decrypt : BitVec 128 → List Byte → List Byte

/-- The DEFLATE stream of a 64 KiB chunk (R497): the spec does not fix the encoder's choices. -/
opaque deflate : List Sector → List Byte

/-- PKG_KEY_DIGEST_k of the OTP (R518). -/
opaque packageKeyDigest : Fin 4 → Digest

/-- DBG_KEY_DIGEST_k of the OTP (R518). -/
opaque debugKeyDigest : Fin 2 → Digest

/-- The ROM content of the opcode dispatch table beyond what R349, R371 and R393 give: the start address of each opcode's
routine (R450). -/
opaque romOpEntry : Nat → BitVec 16

/-- The ROM event dispatch entry of an event (R451, R453: no reset value is given): enabled, class and start address. -/
opaque romEventEntry : Nat → Bool × Fin 4 × BitVec 16

/-- The microwords of the ROM (R442): the spec gives none. -/
opaque romWord : Nat → BitVec 192

/-- The stamp table entry of a line address (R459): the spec does not fix the hash. -/
opaque stampHash : Nat → Fin 65536

/-- Whether condition COND holds (R442): the spec says what the conditions are drawn from, not which is which. From COND, the ALU
flags, the outstanding tag slots and the instruction served. -/
opaque condition : BitVec 6 → Nat → List Nat → BitVec 512 → Bool

/-- The ALU flags after an operation, from those before it, the operation and its sources (R442): the spec names no flag. -/
opaque aluFlags : Nat → Nat → BitVec 64 → BitVec 64 → Nat

/-- MIN (false) and MAX (true) of two values whose order as signed and as unsigned numbers differs (R442): the spec does not say which
order it takes. -/
opaque openOrder : Bool → BitVec 64 → BitVec 64 → BitVec 64

/-- Whether a CMD of a UNIT is a committed command (R443): fixed in hardware, and not listed. -/
opaque committedCommand : Nat → Nat → Bool

/-- Whether the cosine of an angle in 1/65,536 revolution is rounded up to Q1.31: the spec states no rounding for the transforms of R144 and
R146. -/
opaque roundsUp : Nat → Bool

/-- Tap `j` of the interpolator at phase `p`, in 1/32,768 (R196): the spec gives 8 taps and 64 phases, and no coefficients. -/
opaque interpolator (p j : Nat) : Int

/-- What the equaliser's taps move by for a product of error and input, in 1/2^32 (R197): the spec gives the step and not its scale. -/
opaque lmsScale : Nat

/-- What the Mueller–Müller detector's product counts for, in 1/2^31 of a bit period (R199): the spec gives the gains and not their scale. -/
opaque detectorScale : Nat

/-- Whether 20·log10(a ÷ b) is rounded up to 1/4,096 dB (R191, R335), and what stands for it where a or b is 0: the spec states neither. -/
opaque decibelsUp : Nat → Nat → Bool
opaque openDecibels : Nat → Nat → Int

/-- The light that one servo frame with a front monitor of `m` (Q1.31) has put on the disc, in 1/2^32 µJ: the spec gives the monitor no scale in watts (R265). -/
opaque frameEnergy (m : Int) : Nat

/-- Whether the factor of a fine gain in 1/4,096 dB is rounded up to 1/2^30 (R191): the spec states no rounding. -/
opaque fineUp : Int → Bool

/-- Whether 15·m is rounded up for the magnitude of an LLR of a level (R215, R222): the spec states no rounding. -/
opaque levelUp : Rat → Bool

/-- A magnitude of min-sum decoding once normalised (R223): the spec gives no factor. -/
opaque normalised : Nat → Nat

/-- The quotient of a T sample by a power ratio of 0 (R254), for which the spec states no result. -/
opaque openQuotient : Int → Int

/-- The temperature in °C that a mean of the OPU's temperature input stands for (R271, R278): the spec gives no scale. -/
opaque opuCelsius : Int → Int

/-- A byte of a landing page's slots that are not in use (R287), by the page's SEQ and the byte's place: the spec gives none. -/
opaque unusedSlot : Nat → Nat → Byte

/-- Cruise speed of the move profile of a shuttle in 1/16 rpm (R153): the spec gives no number. -/
opaque shuttleCruise : Nat → Nat

/-- The counts between which a bay's shuttle moves its tray, closed and open, and the positions between which its clamp lift moves, clamped and
released (R395, R398): the spec gives none. -/
opaque trayTarget (bay : Nat) (closed : Bool) : Int
opaque clampTarget (bay : Nat) (clamped : Bool) : Int

/-- Whether a DRAM in configuration M has 16 Gb devices, for 64 GiB, or 8 Gb ones, for 32 GiB (R470): each board fits one. -/
opaque dram16Gb : Bool

/-- The next state of the LFSR of neighbour refresh, and its state at a start, by the start's number (R477): the spec gives neither polynomial
nor seed. -/
opaque pnrNext : BitVec 32 → BitVec 32
opaque pnrSeed : Nat → BitVec 32

/-- The bank and the row that a line of DRAM lies in (R477): the spec maps addresses to channels and ranks alone. -/
opaque dramBank : Nat → Nat
opaque dramRow : Nat → Nat

/-- The activations of a bank after which the devices require an RFM command, where their mode registers do (R477). -/
opaque rfmEvery : Option Nat

end Config

end Sys2Proof
end

