-- ==== Sys2Proof/Syntax.lean ====
section
/-! DEFINITION. The commands of the part: one constructor per row of spec/opcode_table.json, with what the outside world
determines as its operands (a measurement, the contents of host memory or of a disc, the outcome of a flash operation). -/

namespace Sys2Proof

/-- The four masters of R11. Functions are f = 2 × port + function number, 0 Admin and 1 Data (R532). -/
inductive Master where
  /-- A sequencer: secure. -/
  | sequencer
  /-- The debug port: privileged once unlocked. -/
  | debug
  /-- Function f of the ports: privileged when Admin. -/
  | function (f : Fin 4)
deriving DecidableEq, Repr

/-- The outcome of a memory read under its code (R490, R491): no error, a corrected one, an uncorrectable one. -/
inductive Ecc where
  | clean
  | corrected
  | uncorrectable
deriving DecidableEq, Repr

/-! ### Start-up -/

/-- What the flash channels report of one LUN at identification (R281, R282). -/
structure LunId where
  lun : Nat
  pageBytes : Nat
  pagesPerBlock : Nat
  blocks : Nat
  /-- Erase blocks with a factory bad-block mark (R302). -/
  bad : List Nat := []
deriving DecidableEq, Repr

/-- The four sensors of a bay (R533). -/
structure BaySensors where
  disc : Bool
  trayClosed : Bool
  clamped : Bool
  doorClosed : Bool
deriving DecidableEq, Repr

/-- A Ryurik package as a slot holds it: the fields of its header (R514) and its payload. -/
structure Package where
  format : Nat := 1
  hdrLen : Nat := 512
  flags : Nat := 0
  version : Nat := 0
  secVersion : Nat := 0
  stepping : Nat := 0xB0
  keyIndex : Fin 4 := 0
  revoke : Nat := 0
  /-- Whether every zero field of the header is zero. -/
  zerosOk : Bool := true
  iv : BitVec 128 := 0
  payloadDigest : Digest := 0
  plainDigest : Digest := 0
  /-- SECTIONS: kind, first index, count, offset. -/
  sections : List (Nat × Nat × Nat × Nat) := []
  signerKey : BitVec 512 := 0
  signature : BitVec 512 := 0
  payload : List Byte := []
deriving DecidableEq, Repr

/-- What falls into the cycle of a register write (R7, R8): the W1C bits of the register that the part sets in it, and whether another write in
it sets the ENABLE of the register's block. -/
structure SameCycle where
  sets : Nat := 0
  enables : Bool := false
deriving DecidableEq, Repr

/-- A register access. -/
inductive RegOp where
  | read
  | write (v : Word) (same : SameCycle)
deriving DecidableEq, Repr

/-- What the sweeps of one lane on one rank find (R472): the runs of delays, in 1/64 UI, at which reads and at which writes pass, and the range
of reference codes that passes for its device. -/
structure LaneSweep where
  channel : Fin 2
  rank : Fin 2
  lane : Fin 80
  reads : List (Int × Int)
  writes : List (Int × Int)
  vref : Nat × Nat
deriving DecidableEq, Repr

/-- What a boot step finds outside the registers (R506). -/
inductive BootData where
  | none
  /-- Step 6: the VBAT domain (R559). -/
  | calendar (lost low tamper : Bool)
  /-- Step 13: ranks and devices fitted (R471, R472): the configuration code of DRM_STAT.CONFIG, and what the sweeps of training find. -/
  | dram (config : Nat) (sweeps : List LaneSweep)
  /-- Step 17: the LUNs that answered. -/
  | flash (luns : List LunId)
  /-- Step 18: the measured duration in ms (FLZ_START_STAT.TIME_MS). -/
  | recovery (ms : Nat)
  /-- Step 21: the lanes, decoders and outer decoders that fail their tests. -/
  | tests (lanes decoders outers : List Nat)
  /-- Step 22: the sensors of each bay. -/
  | bays (s : List BaySensors)
deriving DecidableEq, Repr

/-- The end of one boot step: the elements whose action failed (R506), its duration in µs and what it found. -/
structure BootReport where
  fail : Nat := 0
  duration : Nat := 0
  data : BootData := .none
deriving DecidableEq, Repr

/-! ### Host memory -/

/-- A scatter-list entry as read from host memory (R348). -/
structure SgEntry where
  addr : Nat
  len : Nat
  link : Bool := false
  last : Bool := false
  reserved : Nat := 0
deriving DecidableEq, Repr

/-- What the DMA of one instruction meets: its scatter list, whether every host access succeeds (R348, DMA_FAULT), the LSAs whose
bytes lay in an uncorrectable word of a data-path buffer, and whether such a word held the instruction or its list (R490). -/
structure HostMem where
  sgl : List SgEntry := []
  ok : Bool := true
  bad : List Nat := []
  lost : Bool := false
deriving DecidableEq, Repr

/-! ### Drives -/

/-- One position of spoke sync in the signal of a channel (R76 to R82): the position in 1/128 of an RF cycle, the signal sliced at the 12
spoke-bit centres from it, spoke bits 24 to 68 from it (bit 24 in bit [44]) and the samples of cells 2 to 9 of bursts A to D. -/
structure SpokeCand where
  pos : Nat
  sync : BitVec 12
  bits : BitVec 45
  burstA : List Int := []
  burstB : List Int := []
  burstC : List Int := []
  burstD : List Int := []
deriving DecidableEq, Repr

/-- A spoke period of an OPU (R76, R86): the candidates on its C channel, what the C channel reads at the flywheel position, bits 24 to 68 as the
I and O channels read them, and the candidates on the T channel with the signal sliced at the 12 sync bits. -/
structure SpokeRead where
  cands : List SpokeCand
  fly : SpokeCand
  inner : Option (BitVec 45) := none
  outer : Option (BitVec 45) := none
  trailing : List (Nat × BitVec 12) := []
deriving DecidableEq, Repr

/-- The servo ADC inputs of one OPU in Q1.31 (R94, R116): quadrants A to D, halves E to H, front monitor, temperature. -/
structure AdcInputs where
  a : Int := 0
  b : Int := 0
  c : Int := 0
  d : Int := 0
  e : Int := 0
  f : Int := 0
  g : Int := 0
  h : Int := 0
  front : Int := 0
  temp : Int := 0
deriving DecidableEq, Repr

/-- The four samples of one OPU's servo ADC inputs in the frame before, at SLOW cycles 0, 8, 16 and 24 (R94). -/
structure AdcFrame where
  s0 : AdcInputs := {}
  s1 : AdcInputs := {}
  s2 : AdcInputs := {}
  s3 : AdcInputs := {}
deriving DecidableEq, Repr

/-- What a frame of a servo engine meets (R94, R107): the ADC samples of its four OPUs, the state of its memories, and whether
its due slots were complete by cycle 383. -/
structure FrameInputs where
  opu0 : AdcFrame := {}
  opu1 : AdcFrame := {}
  opu2 : AdcFrame := {}
  opu3 : AdcFrame := {}
  ecc : Ecc := .clean
  overrun : Bool := false
deriving DecidableEq, Repr

/-- What one PWM period of a motor measures (R146, R155): the two shunt codes, encoder counts as wired, those of them after the counter's peak, the
encoder speed in 1/16 rpm, and the angle and speed that the observer's phase-locked loop tracks. -/
structure PwmSample where
  first : Int
  second : Int
  counts : Int
  afterPeak : Int := 0
  speed : Int
  obsAngle : Nat := 0
  obsSpeed : Int := 0
deriving DecidableEq, Repr

/-- What one field step of the wiring check measures (R157): encoder counts as wired, the three phase currents as a per cent of the expected current, and
the rotor's angle at an index pulse in the step. -/
structure WiringStep where
  counts : Int
  phaseU : Nat
  phaseV : Nat
  phaseW : Nat
  index : Option Nat := none
deriving DecidableEq, Repr

/-- ADC codes of an input in a data interval (R187): the interval by the index of the spoke before it, the number of the first code in the input's
750 MS/s stream, which is its time in RF cycles (R77), and the codes, as the sub-ADCs give them at the PGA's gain. -/
structure IntervalRead where
  spoke : Nat
  first : Nat
  codes : List Int := []
deriving DecidableEq, Repr

/-- What a lane meets in one frame (R191 to R203): whether it is the first after the lanes opened, the codes of the data intervals that it reaches, and
samples lost (R27). Then the frame itself: its place on the disc, the identity that the map gives it, and the classes that need it. -/
structure FrameRead where
  opens : Bool := false
  parts : List IntervalRead := []
  lost : Bool := false
  track : Nat := 0
  sector : Nat := 0
  vol : Nat := 0
  lsa : Nat := 0
  block : Nat := 0
  /-- CHUNK_SECTOR, of a member of a chunk. -/
  member : Option Nat := none
  parity : Bool := false
  needs : List Nat := []
deriving DecidableEq, Repr

/-- A frame that the read-after-write checker judges (R255): a sector of a data track, a relocated copy, a copy of a directory
sector, a copy of a passport record. -/
inductive RawFrame where
  | data (track sector : Nat)
  | relocated (track sector : Nat)
  | directory (copy : Fin 2)
  | passport (copy : Fin 2)
deriving DecidableEq, Repr

/-- What MOUNT finds in the band that one side is to be written in (R66, R68): the user bytes of the two copies of each of its directory sectors, those that
decode, the track offsets and sectors with written marks past the last recorded range, and the data payloads of the block that the range ends in. -/
structure SideFound where
  dirs : List (Option (List Byte) × Option (List Byte)) := []
  marks : List (Nat × Nat) := []
  tail : List (List Byte) := []
deriving DecidableEq, Repr

/-- What MOUNT finds of the disc (R395, R396): whether both OPUs read the wrong side (R84), and of the identity record of each side whose
signature is valid its DISC_ID and whether WRITER names this part. -/
structure MountFound where
  sideMismatch : Bool := false
  /-- Whether the disc's map image is missing from the system area, so that the map is rebuilt from the disc, and the entries that its map
  sectors hold: extent, SEQ of the sector, and the 64 bytes (R319). -/
  imageMissing : Bool := false
  maps : List (Nat × Nat × List Byte) := []
  top : Option (Nat × Bool) := none
  bottom : Option (Nat × Bool) := none
  /-- Records read whose signature is invalid: side and number (R71). -/
  invalid : List (Nat × Nat) := []
  sides : SideFound × SideFound := ({}, {})
deriving DecidableEq, Repr

/-! ### Sequencers and DRAM -/

/-- A fault of a sequencer or of the control store (R448). -/
inductive SeqFaultKind where
  | corrected
  | patchWord
  | romWord
  | threadState
deriving DecidableEq, Repr

/-- The area that a line of DRAM belongs to (R481). -/
inductive DramArea where
  /-- The write cache: SEQs of the sectors that the line holds part of. -/
  | writeCache (seqs : List Nat)
  /-- The decoded-sector and read buffers: the sectors that the line holds part of, as volume and LSA. -/
  | readBuffer (sectors : List (Nat × Nat))
  /-- Retained samples of a frame: OPU, track, sector. -/
  | samples (k : Fin 8) (track sector : Nat)
  /-- The package copy, and whether its slot verifies when it is loaded again. -/
  | package
  | context
  | other
deriving DecidableEq, Repr

/-- An error of a DRAM read (R479, R480): the line, the devices 10s + d of its rank that are in error in it, whether they are so in every line
across four consecutive bursts, and the line's area. -/
structure DramErr where
  line : Nat
  devices : List (Fin 20)
  everyLine : Bool := false
  area : DramArea := .other
deriving DecidableEq, Repr

/-- An error that the scrub of on-chip memories finds (R491). -/
inductive OnchipError where
  | patchRam (addr : Nat) (ecc : Ecc)
  | tables (ecc : Ecc)
  | servo (e : Fin 2) (ecc : Ecc)
deriving DecidableEq, Repr

/-! ### The commands -/

/-- One command for each row of the table. -/
inductive Instr where
  /-- SUPPLIES_WITHIN_LIMITS (R567): Core supplies come within tolerance and the part leaves OFF for RESET. -/
  | suppliesWithinLimits
  /-- SUPPLIES_REMOVED (R30): Core supplies are removed and the part enters OFF from any mode. -/
  | suppliesRemoved
  /-- RAIL_BROWN_OUT (R569): VDD_AON, VDD_CORE or VDD_SRAM stays below 92 % for 1 µs, causing an internal reset with outputs in their RESET states. -/
  | railBrownOut
  /-- JUNCTION_OVER_120 (R571): The junction is above 120 °C for 1 ms, and the part is held in RESET until it falls below 100 °C. -/
  | junctionOver120
  /-- RESET_N_ASSERTED (R43): RESET_N is asserted, the part enters RESET, outputs go to their RESET states within 1 µs and held requests are discarded. -/
  | resetNAsserted
  /-- RESET_N_RELEASED (R30): RESET_N is released with the reference present and SLATH locked; the part enters BOOT and starts the boot steps. -/
  | resetNReleased (reference locked : Bool) (straps : Fin 4)
  /-- BOOT_STEP_END (R506): A boot step ends, its journal entry is programmed and the next step begins. -/
  | bootStepEnd (r : BootReport)
  /-- BOOT_STEP_TIME_LIMIT (R507): A boot step passes its time limit; it fails and HALT, RESTART, CONTINUE or SAFE follows. -/
  | bootStepTimeLimit
  /-- BOOT_WATCHDOG (R508): A boot step runs past four times its limit, and the always-on watchdog resets the part with cause 5. -/
  | bootWatchdog
  /-- SLATH_LOCK_LOST (R16): The reference monitor detects loss of SLATH lock; lasers drop and motor torque is removed without waiting. -/
  | slathLockLost
  /-- SLATH_RELOCKED (R16): SLATH relocks after a loss of lock, and the part enters SAFE. -/
  | slathRelocked
  /-- OSC_TRIM (R15): Once per second, while SLOW runs, the VBAT oscillator is trimmed against SLOW. -/
  | oscTrim (trim : Int)
  /-- THERMAL_SHUTDOWN (R41): The junction has been above 110 °C for 10 ms, and the part enters SAFE. -/
  | thermalShutdown
  /-- DEV_MODE_REQ_WRITE (R31): A write to DEV_MODE_REQ.TARGET requests a mode; it is taken, held or rejected. -/
  | devModeReqWrite (m : Master) (target : BitVec 4)
  /-- SMB_MODE_REQ_WRITE (R31): An SMBus write to SMB_MODE_REQ requests a mode, and in RETENTION a request for PARK or IDLE wakes the part. -/
  | smbModeReqWrite (target : BitVec 4)
  /-- MODE_TRANSITION_END (R32): A mode transition ends and any held request is acted on. -/
  | modeTransitionEnd
  /-- IDLE_DELAY_EXPIRED (R30): Every bay has been EMPTY, LOADED or FAULTED for IDLE_DELAY, and the part goes from ACTIVE to IDLE. -/
  | idleDelayExpired
  /-- BAY_NEEDED (R30): An instruction or the part's own work needs a bay, and the part goes from IDLE to ACTIVE. -/
  | bayNeeded (b : Fin 4)
  /-- PWR_FAIL_N_ASSERTED (R549): PWR_FAIL_N is held low for 0.64 µs; the power-fail logic drops lasers and stops writes, and DRAIN is entered. -/
  | pwrFailNAsserted
  /-- PWR_FAIL_N_DEASSERTED (R39): PWR_FAIL_N is deasserted; DRAIN still completes and then waits for a request for IDLE. -/
  | pwrFailNDeasserted
  /-- DRAIN_COMPLETE (R35): The DRAIN steps end and POWER_OK_TO_REMOVE is asserted. -/
  | drainComplete
  /-- DRAIN_SPIN_TIMEOUT (R38): A spindle still turning 5.5 s after entry into DRAIN has its torque removed and coasts. -/
  | drainSpinTimeout (b : Fin 4)
  /-- DRAIN_DEADLINE (R38): At 6.0 s after entry into DRAIN, POWER_OK_TO_REMOVE is asserted whatever remains unfinished. -/
  | drainDeadline
  /-- L2_HANDSHAKE_TIMEOUT (R434): A port gets no PME_Turn_Off within 10 s and is taken to electrical idle, raising HST_L2_FORCED. -/
  | l2HandshakeTimeout (p : Fin 2)
  /-- SPOKE_RECEIVED (R80): A spoke period ends on an OPU's C channel; sync is searched and the spoke is classed accepted, position-only or missed. -/
  | spokeReceived (k : Fin 8) (x : SpokeRead)
  /-- TRACK_LOST_COUNT (R137): On track stays clear for 64 spokes; TRACK_LOST is raised and PULL_IN runs. -/
  | trackLostCount (k : Fin 8)
  /-- LANDING_TIMEOUT (R178): A landing check does not succeed within 200 spokes, raises STEP_LAND_FAIL and counts as a loss of focus. -/
  | landingTimeout (a : Fin 16)
  /-- SERVO_FRAME (R94): At each 2.56 µs frame the engine snapshots its inputs, executes the due slots and updates its outputs. -/
  | servoFrame (e : Fin 2) (x : FrameInputs)
  /-- ENGINE_FAULT_HOLD_END (R108): After 64 frames of hold, the faulted engine ramps its DACs to retract and zero codes, and motors coast. -/
  | engineFaultHoldEnd (e : Fin 2)
  /-- SRV_SLOT_CTL_WRITE (R95): A write to SRV_SLOT_CTL enables or disables a slot, subject to the MAC budget and the checks of R114. -/
  | srvSlotCtlWrite (m : Master) (e : Fin 2) (j : Fin 64) (v : Word)
  /-- GAIN_SET_WRITE (R102): A write to a gain set named by the region table of an enabled slot is ignored and raises SERVO_GSET_REJECT. -/
  | gainSetWrite (m : Master) (e : Fin 2) (j : Fin 64) (g : Fin 8) (w : Fin 64) (v : Word)
  /-- SLOT_LIMIT_WRITE (R99): A write that would leave SRV_LIM_LO above SRV_LIM_HI is ignored and raises SERVO_CFG_REJECT. -/
  | slotLimitWrite (m : Master) (e : Fin 2) (j : Fin 64) (high : Bool) (v : Word)
  /-- FE_FAULT_CLEAR (R106): Writing 1 to FE_FAULT resumes the slot, and its next execution is a switch. -/
  | feFaultClear (m : Master) (e : Fin 2) (j : Fin 64)
  /-- SRV_TRC_CTL_WRITE (R112): A write to SRV_TRC_k_CTL arms, stops or software-triggers a trace buffer; it is refused while ARMED or TRIGGERED. -/
  | srvTrcCtlWrite (m : Master) (e : Fin 2) (k : Fin 8) (v : Word)
  /-- OPT_ACQUIRE (R125): ACQUIRE enables the laser, sweeps focus, closes on layer 0 and jumps or pulls in to the target. -/
  | optAcquire (k : Fin 8) (layer : Fin 8) (atSpoke : Bool) (spoke : BitVec 10)
  /-- OPT_LAYER_JUMP (R127): LAYER_JUMP hops focus one layer at a time to LAYER, then pulls in to the target track. -/
  | optLayerJump (k : Fin 8) (layer : Fin 8) (atSpoke : Bool) (spoke : BitVec 10)
  /-- OPT_PULL_IN (R129): PULL_IN closes tracking on the nearest track and jumps or seeks to the target. -/
  | optPullIn (k : Fin 8) (atSpoke : Bool) (spoke : BitVec 10)
  /-- OPT_JUMP (R131): JUMP kicks and brakes the tracking actuator by DIST tracks, at once or at spoke SPOKE. -/
  | optJump (k : Fin 8) (dist : BitVec 8) (atSpoke : Bool) (spoke : BitVec 10)
  /-- OPT_RETRACT (R126): RETRACT drops the laser, freezes the focus and tracking slots and ramps focus to the retract code within 0.41 ms. -/
  | optRetract (k : Fin 8)
  /-- FOCUS_REACQUIRE (R136): Two ms after a loss of focus, ACQUIRE is retried, or after the retries FOCUS_ACQ_FAIL faults the bay. -/
  | focusReacquire (k : Fin 8)
  /-- LAYER_HOP_TIMEOUT (R138): A layer hop not complete within 0.95 ms fails, raises LAYER_JUMP_FAIL and counts as a loss of focus. -/
  | layerHopTimeout (k : Fin 8)
  /-- PULL_IN_TIMEOUT (R129): Pull-in does not set on track within 1.2 ms at S4 or 4.8 ms at S1, and fails. -/
  | pullInTimeout (k : Fin 8)
  /-- LASER_TRIP_CLEAR (R134): Writing 1 to LASER_TRIP allows the laser to be enabled again. -/
  | laserTripClear (m : Master) (k : Fin 8)
  /-- ACT_SENSE_SAMPLE (R121): Each ACT_SENSE sample updates the ratio runs and sets LOW or HIGH after 64 qualifying samples. -/
  | actSenseSample (k : Fin 8) (a : Fin 4) (sensed : Int)
  /-- MOT_RUN (R153): RUN sets a spindle target, with a catch window when the spindle is not under control. -/
  | motRun (k : Fin 8) (cls : Fin 4)
  /-- MOT_STOP (R163): STOP brakes a motor to rest, after a catch window if it turns uncontrolled. -/
  | motStop (k : Fin 8)
  /-- MOT_COAST (R148): COAST puts the gates off and lets the motor coast. -/
  | motCoast (k : Fin 8)
  /-- MOT_MOVE (R153): MOVE sends a shuttle to its TARGET count under the move profile. -/
  | motMove (k : Fin 8) (target : Int)
  /-- MOT_CHECK (R157): CHECK runs the wiring check on a motor at rest. -/
  | motCheck (k : Fin 8)
  /-- MOT_ENABLE_WRITE (R164): Setting MOT_k_CTL.ENABLE averages the shunt offset, and clearing it puts the gates off. -/
  | motEnableWrite (m : Master) (k : Fin 8) (on : Bool) (samples : List Int)
  /-- PWM_PERIOD (R147): Each PWM period samples the shunt twice, reconstructs currents, runs the observer and loads the next compare values. -/
  | pwmPeriod (k : Fin 8) (x : PwmSample)
  /-- MOT_PHASE_SHORT (R159): The shunt comparator above I_TRIP puts the gates off, latches SHORT and faults the bay. -/
  | motPhaseShort (k : Fin 8)
  /-- CATCH_WINDOW_END (R153): The 2.0 ms catch window ends and the motor is classified by the start decision table. -/
  | catchWindowEnd (k : Fin 8)
  /-- HOLD_ZERO_END (R153): After the motor has rested in HOLD_ZERO for a further 200 ms, the electrical angle is set. -/
  | holdZeroEnd (k : Fin 8)
  /-- REVERSE_BRAKE_TIMEOUT (R153): Reverse braking exceeds 3 s for a spindle or 1 s for a shuttle; the gates go off and REVERSE_NOT_STOPPED is raised. -/
  | reverseBrakeTimeout (k : Fin 8)
  /-- WIRING_STEP_END (R157): A 100 ms field step of the wiring check ends; currents and encoder movement are judged and corrections set. -/
  | wiringStepEnd (k : Fin 8) (x : WiringStep)
  /-- ENCODER_INDEX (R161): An index pulse sets the encoder angle, checks the count for slip and serves resynchronisation. -/
  | encoderIndex (k : Fin 8)
  /-- INDEX_MISSING (R159): No index arrives in 2 revolutions of counts; NO_INDEX is set. -/
  | indexMissing (k : Fin 8)
  /-- RESYNC_TIMEOUT (R156): No agreeing index within three revolutions after loss of synchronism declares an encoder fault. -/
  | resyncTimeout (k : Fin 8)
  /-- SPINDLE_ENCODER_EVENT (R151): Every 16th encoder count forms a spindle sample event when no spoke sample is in use. -/
  | spindleEncoderEvent (k : Fin 4) (speed : Int)
  /-- SPINDLE_TIMED_EVENT (R151): A timed sample event fires after 1,024 frames with no other event. -/
  | spindleTimedEvent (k : Fin 4) (speed : Int)
  /-- STP_MOVE (R173): MOVE appends a target to the axis's queue and replans the blended junctions. -/
  | stpMove (a : Fin 16) (target : Int) (blend : Bool)
  /-- STP_MOVE_PAIR (R175): MOVE_PAIR appends a paired move to both sled queues, with one planned profile. -/
  | stpMovePair (b : Fin 4) (top bottom : Int) (blend : Bool)
  /-- STP_PAUSE (R176): PAUSE decelerates the axis to rest and keeps its queue and remaining distance. -/
  | stpPause (a : Fin 16)
  /-- STP_RESUME (R176): RESUME replans from rest to the paused target. -/
  | stpResume (a : Fin 16)
  /-- STP_STOP (R176): STOP decelerates the axis to rest and clears its queue. -/
  | stpStop (a : Fin 16)
  /-- STP_HOME (R180): HOME drives the axis into its end stop, sets the position to 0 and sets HOMED. -/
  | stpHome (a : Fin 16)
  /-- STEP_LIMIT (R168): Correction steps stop at an axis limit, setting LIMIT and raising STEP_LIMIT. -/
  | stepLimit (a : Fin 16)
  /-- MOVE_END (R172): A move reaches its target, and the next queued move starts or the seek begins settling. -/
  | moveEnd (a : Fin 16)
  /-- SETTLE_EXPIRY (R178): STP_k_SETTLE.TIME after a seek profile ends, the landing check begins. -/
  | settleExpiry (a : Fin 16)
  /-- STEP_DRV_FAULT (R182): FAULT active for 8 cycles stops the axis, latches DRV_FAULT and faults the bay for a sled or clamp axis. -/
  | stepDrvFault (a : Fin 16)
  /-- BAY_SENSOR_SAMPLE (R573): Bay sensors are sampled every 1 ms and a state is taken after three agreeing samples. -/
  | baySensorSample (b : Fin 4) (x : BaySensors)
  /-- SECTOR_FRAME (R201): A lane searches sector sync and resync marks for a frame and passes the frame with its flags to its consumer. -/
  | sectorFrame (n : Fin 36) (x : FrameRead)
  /-- NO_SIGNAL_CHECK (R195): A revolution after focus lock, an input spanning fewer than 8 codes raises its PGA or sets NO_SIGNAL. -/
  | noSignalCheck (inp : Fin 32) (span : Nat)
  /-- RCH_INPUT_CONFIG_WRITE (R189): A write to an input's map, sub, trims or POL_INV is held or rejected. -/
  | rchInputConfigWrite (m : Master) (inp : Fin 32) (reg : Fin 13) (v : Word)
  /-- HELD_INPUT_CHANGE_APPLY (R189): Held input changes take effect together once every bound lane is suspended or stopped. -/
  | heldInputChangeApply (inp : Fin 32)
  /-- LANE_BIND_WRITE (R205): A write to RCH_LANE_n_BIND enables or disables a lane, refused when the input is taken or the lane FAILED. -/
  | laneBindWrite (m : Master) (n : Fin 36) (v : Word)
  /-- LANE_MEMORY_ERROR (R207): An uncorrectable lane memory error fails the lane and binds its input to a free lane at the next spoke. -/
  | laneMemoryError (n : Fin 36)
  /-- CAPTURE_START (R227): At the start of a triple's capture the OPU switches halves, or stalls a revolution when work is pending. -/
  | captureStart (k : Fin 8) (triple : Nat)
  /-- DECODE_ITERATION_DONE (R223): A decoder ends a global iteration; the frame decodes, iterates again, waits as held-over or fails. -/
  | decodeIterationDone (k : Fin 8) (track sector : Nat)
  /-- DECODER_FAULT (R231): An uncorrectable decoder memory error marks the decoder failed and restarts the work elsewhere. -/
  | decoderFault (outer : Bool) (j : Fin 16)
  /-- RUNG_DONE (R232): A retry-ladder rung ends; the sector recovers, climbs further or is poisoned. -/
  | rungDone (k : Fin 8) (track sector : Nat)
  /-- OUTER_REBUILD_DONE (R234): An outer decoder rebuilds a block from erasures and checks each rebuilt sector's identity. -/
  | outerRebuildDone (k : Fin 8) (j : Fin 4) (track sector : Nat)
  /-- WSL_TRAIN (R245): Writing TRAIN runs the WSL training tests and corrects, retries or fails the link. -/
  | wslTrain (m : Master) (k : Fin 8)
  /-- TRACK_WRITE_START (R251): With all sectors of a track staged, the OPU begins writing the track at its entry sector. -/
  | trackWriteStart (k : Fin 8) (entry : Nat)
  /-- TRACK_WRITE_END (R252): A track's write ends, write power adapts, and a JUMP of +1 starts once the T spot has passed. -/
  | trackWriteEnd (k : Fin 8)
  /-- RAW_VERDICT (R255): The read-after-write checker gives a frame's pass or fail verdict from its syndrome weight. -/
  | rawVerdict (k : Fin 8) (f : RawFrame)
  /-- RAW_BURST_CLEAR (R256): Writing 1 to RAW_BURST allows the OPU's write gate to open again. -/
  | rawBurstClear (m : Master) (k : Fin 8)
  /-- WRITE_STOP_AT_BOUNDARY (R260): A pending stop takes effect at the sector boundary and its skipped run is recorded. -/
  | writeStopAtBoundary (k : Fin 8) (written : Nat)
  /-- WRITE_SESSION_RESUME (R262): Once no higher-class instruction needs the bay, paused seeks are reissued and the session continues. -/
  | writeSessionResume (b : Fin 4)
  /-- DESTAGE_SESSION_START (R322): The part starts a write session on a mounted disc of a volume, or requests a disc. -/
  | destageSessionStart (vol : Nat)
  /-- CALIBRATION_DUE (R271): A scheduled calibration falls due, at mount, on drift or at its period, and its run begins. -/
  | calibrationDue (n : Fin 12) (elem : Nat)
  /-- CAL_ESTIMATE_DONE (R267): An estimate completes; agreeing estimates are applied, or the run fails or takes another estimate. -/
  | calEstimateDone (n : Fin 12) (elem : Nat) (values : List Int)
  /-- SPEED_WINDOW_END (R274): A window of 4,096 needed sectors ends and speed adaptation lowers, raises or holds the class. -/
  | speedWindowEnd (b : Fin 4)
  /-- THERMAL_SAMPLE (R278): The 1 ms average of the hottest junction enters a higher throttle level. -/
  | thermalSample (t : Int)
  /-- THROTTLE_EXIT (R278): After 10 s at 3 °C below a level's entry, the part leaves that throttle level. -/
  | throttleExit (t : Int)
  /-- FLASH_PROGRAM_DONE (R303): A page program ends; a failure retires the erase block and the row is written again. -/
  | flashProgramDone (ok : Bool) (took : Nat)
  /-- FLASH_ERASE_DONE (R303): An erase ends and the block becomes FREE, or is retired on failure. -/
  | flashEraseDone (n : Nat) (failed : List (Fin 16))
  /-- FLASH_READ_DONE (R488): A page read is decoded by BCH and delivered, refreshed or rebuilt from parity. -/
  | flashReadDone (lblock row pos : Nat) (corrected : Option Nat) (rebuilt : Bool)
  /-- IDLE_COLLECTION_START (R298): No host program has arrived for IDLE_MS while F is below HIGH, so idle collection runs. -/
  | idleCollectionStart
  /-- GATED_COMPLETION_POST (R299): A held WRITE completion is posted once its bucket or the DRAM level allows. -/
  | gatedCompletionPost (id : Nat)
  /-- LUN_STATUS_TIMEOUT (R304): A LUN does not answer status within 10 ms, fails, and is served by parity reconstruction. -/
  | lunStatusTimeout (lun : Fin 256) (channel : Bool)
  /-- LUN_REBUILD_DONE (R305): The rebuild of landing blocks holding a failed LUN ends. -/
  | lunRebuildDone (lun : Fin 256)
  /-- DESTAGE_AGE_EXPIRY (R322): A volume's oldest landing data passes DESTAGE_AGE and a session starts. -/
  | destageAgeExpiry (vol : Nat)
  /-- SCRUB_DUE (R333): A disc's scrub falls due, or comes within notice, and is run or its disc requested. -/
  | scrubDue (disc : Nat)
  /-- SCRUB_COMPLETE (R336): A scrub ends; band margins are trended and MIGRATION_NEEDED may be raised. -/
  | scrubComplete (disc : Nat)
  /-- SQ_DOORBELL (R344): A write of a submission tail makes new instructions visible, or is ignored when invalid. -/
  | sqDoorbell (f : Fin 4) (ring : Fin 64) (tail : Word)
  /-- CQ_HEAD_DOORBELL (R344): A write of a completion head frees completion slots and may signal the ring's vector. -/
  | cqHeadDoorbell (f : Fin 4) (ring : Fin 64) (head : Word)
  /-- INSTRUCTION_FETCH (R345): An instruction is fetched into a sequencer queue, and the submission head advances. -/
  | instructionFetch (f : Fin 4) (ring : Fin 64) (desc : BitVec 512) (ok : Bool)
  /-- INSTRUCTION_DISPATCH (R450): A queued instruction is dispatched after the opcode, privilege and mode checks. -/
  | instructionDispatch (id : Nat)
  /-- COMPLETION_POST (R346): A staged completion is written to its completion ring once there is room. -/
  | completionPost (f : Fin 4) (cq : Fin 64) (ok : Bool)
  /-- NOP (R373): NOP completes with SUCCESS and the current attention level. -/
  | nop (id : Nat)
  /-- WRITE (R381): WRITE copies COUNT sectors into the write cache, assigns SEQs, extends the strand and raises GEN. -/
  | write (id : Nat) (mem : HostMem) (data : List Sector)
  /-- READ (R383): READ resolves each sector and delivers it, with poison and salvage handling. -/
  | read (id : Nat) (mem : HostMem)
  /-- VERIFY (R386): VERIFY reads a range as READ would, or its disc copy, without transfer. -/
  | verify (id : Nat)
  /-- FLUSH (R387): FLUSH waits until covered WRITEs are durable at LANDING or DISC scope. -/
  | flush (id : Nat)
  /-- OPEN_STRAND (R375): OPEN_STRAND creates an OPEN strand bound to a volume. -/
  | openStrand (id : Nat)
  /-- OPEN_STRAND_ADOPT (R376): OPEN_STRAND with ADOPT transfers ownership of an open strand. -/
  | openStrandAdopt (id : Nat)
  /-- CLOSE_STRAND (R378): CLOSE_STRAND waits for the strand's data, finalises the digest and writes the summary. -/
  | closeStrand (id : Nat) (mem : HostMem)
  /-- SEAL_STRAND (R379): SEAL_STRAND waits for the strand on disc, then signs and stores the seal record. -/
  | sealStrand (id : Nat) (mem : HostMem)
  /-- QUERY_STRAND (R380): QUERY_STRAND returns the strand record and deferred error, and with RELEASE frees the strand. -/
  | queryStrand (id : Nat) (mem : HostMem)
  /-- CREATE_VOLUME (R388): CREATE_VOLUME creates a volume with its parity, compression default and label. -/
  | createVolume (id : Nat)
  /-- DELETE_VOLUME (R390): DELETE_VOLUME discards the volume's data and strands and frees its discs and number. -/
  | deleteVolume (id : Nat)
  /-- QUERY_VOLUME (R389): QUERY_VOLUME writes the volume record. -/
  | queryVolume (id : Nat) (mem : HostMem)
  /-- RETIRE_RANGE (R391): RETIRE_RANGE clears WRITTEN bits over a range in one commit. -/
  | retireRange (id : Nat)
  /-- MOUNT (R395): MOUNT loads, spins and focuses a disc, verifies identity and loads its map. -/
  | mount (id : Nat) (mem : HostMem) (x : MountFound)
  /-- UNMOUNT (R398): UNMOUNT writes pending records and maps, parks the bay and optionally ejects. -/
  | unmount (id : Nat)
  /-- INIT_DISC (R397): INIT_DISC binds a blank or own disc to a volume through passport records. -/
  | initDisc (id : Nat) (mem : HostMem) (written : List Nat) (fails : Nat × Nat)
  /-- SCRUB_DISC (R401): SCRUB_DISC makes a disc's scrub due at once, optionally restarting it. -/
  | scrubDisc (id : Nat)
  /-- COMPACT (R402): COMPACT copies a disc's live extents into the landing zone for migration. -/
  | compact (id : Nat)
  /-- SPIN (R399): SPIN sets a bay's speed class and ends any hold. -/
  | spin (id : Nat)
  /-- PARK_BAY (R400): PARK_BAY parks a bay to LOADED and marks it held. -/
  | parkBay (id : Nat)
  /-- GET_EVENTS (R403): GET_EVENTS returns queued event records and optionally advances the cursor. -/
  | getEvents (id : Nat) (mem : HostMem)
  /-- GET_LOG (R404): GET_LOG copies part of a log page as one snapshot. -/
  | getLog (id : Nat) (mem : HostMem)
  /-- SET_POLICY (R405): SET_POLICY checks and applies policy entries in one commit. -/
  | setPolicy (id : Nat) (mem : HostMem) (buf : List Byte)
  /-- GET_POLICY (R406): GET_POLICY writes all 46 policy entries. -/
  | getPolicy (id : Nat) (mem : HostMem)
  /-- SET_TIME (R407): SET_TIME loads the calendar and resumes paused stewardship. -/
  | setTime (id : Nat)
  /-- GET_TIME (R408): GET_TIME writes the time record. -/
  | getTime (id : Nat) (mem : HostMem)
  /-- REG_READ (R409): REG_READ reads consecutive parameter-space registers. -/
  | regRead (id : Nat) (mem : HostMem)
  /-- REG_WRITE (R409): REG_WRITE writes consecutive parameter-space registers and counts the ignored writes. -/
  | regWrite (id : Nat) (mem : HostMem) (values : List Word) (env : List Int)
  /-- RESET_RING (R364): RESET with ring scope aborts the ring's uncommitted instructions and empties it. -/
  | resetRing (id : Nat)
  /-- RESET_STRAND (R410): RESET with strand scope frees a strand's context whatever its state. -/
  | resetStrand (id : Nat)
  /-- RESET_BAY (R410): RESET with bay scope drops lasers, stops motion, clears latches and FAULTED and reinitialises the bay. -/
  | resetBay (id : Nat) (x : BaySensors)
  /-- RESET_LANE (R210): RESET with lane scope retests a failed lane or clears a bound lane. -/
  | resetLane (id : Nat) (passes : Bool)
  /-- RESET_FLASH_CHANNEL (R410): RESET with flash channel scope resets and reidentifies the channel's LUNs. -/
  | resetFlashChannel (id : Nat) (luns : List LunId)
  /-- RESET_SERVO_LOOP (R410): RESET with servo loop scope restarts a faulted engine or clears a slot. -/
  | resetServoLoop (id : Nat)
  /-- STAGE_PACKAGE (R412): STAGE_PACKAGE verifies a package and programs it into the non-booted slot. -/
  | stagePackage (id : Nat) (mem : HostMem) (pkg : Package) (programmed : Bool)
  /-- ACTIVATE (R366): ACTIVATE aborts uncommitted work, checkpoints and restarts through BOOT and LOAD with the staged package. -/
  | activate (id : Nat)
  /-- ATTEST_REPORT (R520): ATTEST with KIND 0 writes a signed attestation report over the nonce. -/
  | attestReport (id : Nat) (mem : HostMem)
  /-- ATTEST_CERTIFICATE (R520): ATTEST with KIND 1 writes the device certificate. -/
  | attestCertificate (id : Nat) (mem : HostMem)
  /-- TRACE_ARM (R415): TRACE ARM replaces any capture of a trace buffer and arms it. -/
  | traceArm (id : Nat)
  /-- TRACE_STOP (R415): TRACE STOP writes ARM = 0 to end the capture. -/
  | traceStop (id : Nat)
  /-- TRACE_READ (R415): TRACE READ returns the header and the held samples. -/
  | traceRead (id : Nat) (mem : HostMem) (parity : Nat)
  /-- TRACE_TRIGGER (R415): TRACE TRIGGER sets SW_TRIG from 0 to 1. -/
  | traceTrigger (id : Nat)
  /-- CALIBRATE (R416): CALIBRATE runs a calibration on an element out of schedule. -/
  | calibrate (id : Nat)
  /-- SKIP_IF (R417): SKIP_IF tests the previous chain member and sets or clears the skip state. -/
  | skipIf (id : Nat)
  /-- WAIT (R418): WAIT holds its chain until its condition holds or its timeout expires. -/
  | wait (id : Nat)
  /-- WAIT_CONDITION_MET (R418): A WAIT's condition is found to hold and it completes with SUCCESS. -/
  | waitConditionMet (id : Nat)
  /-- WAIT_TIMEOUT (R418): A WAIT's timeout expires and it completes with WAIT_TIMEOUT. -/
  | waitTimeout (id : Nat)
  /-- CREATE_RING (R419): CREATE_RING registers a submission or completion ring. -/
  | createRing (id : Nat)
  /-- DELETE_RING (R364): DELETE_RING aborts a ring's uncommitted instructions and removes the ring. -/
  | deleteRing (id : Nat)
  /-- HST_FN_CTL_WRITE (R426): Writing ENABLE starts ring 0 of a function, or writing 0 stops it as an FLR does. -/
  | hstFnCtlWrite (m : Master) (f : Fin 4) (v : Word)
  /-- FATAL_CLEAR (R429): Writing 1 to HST_FN_STAT.FATAL clears it so that the function can be enabled. -/
  | fatalClear (m : Master) (f : Fin 4)
  /-- FLR (R365): A Function Level Reset resets all the function's rings and BAR0 registers but keeps its strands. -/
  | flr (f : Fin 4)
  /-- PERST_N_ASSERTED (R423): A port's PERST_N holds its link down and acts as an FLR of both functions. -/
  | perstNAsserted (p : Fin 2)
  /-- PERST_N_RELEASED (R423): PERST_N release brings the link up, or wakes the part from RETENTION. -/
  | perstNReleased (p : Fin 2)
  /-- HST_LINK_UP (R438): A port's link trains, reporting its speed and width. -/
  | hstLinkUp (p : Fin 2) (speed width : Nat)
  /-- HST_LINK_DOWN (R432): A port's link fails; its functions are reset as by FLR and the other port reports level 5. -/
  | hstLinkDown (p : Fin 2)
  /-- PME_TURN_OFF (R435): PME_Turn_Off is acknowledged; L2/L3 Ready on both ports requests DRAIN or continues RETENTION. -/
  | pmeTurnOff (p : Fin 2)
  /-- D3HOT_ENTRY (R433): A function in D3hot stops fetching and signalling. -/
  | d3hotEntry (f : Fin 4)
  /-- D0_RETURN (R433): A function's return from D3hot to D0 acts as an FLR. -/
  | d0Return (f : Fin 4)
  /-- MSIX_UNMASK (R430): Unmasking a vector sends its pending message if the condition still holds. -/
  | msixUnmask (f : Fin 4) (v : Option (Fin 65))
  /-- SMB_ALERT_RESPONSE (R437): A read of the Alert Response Address releases SMB_ALERT_N and returns the part's address. -/
  | smbAlertResponse
  /-- ROUTINE_RESUME (R441): A parked routine resumes on a free thread when its wait ends. -/
  | routineResume (ofEvent : Bool) (n : Nat) (q : Fin 16) (t : Fin 8) (replies : List (Fin 32))
  /-- EVENT_ROUTINE_DISPATCH (R451): A raised event with an enabled dispatch entry queues its routine on an event thread. -/
  | eventRoutineDispatch (q : Fin 16) (t : Fin 8)
  /-- SEQ_FAULT (R448): A control-store or thread-state error restarts the phase, or marks the sequencer failed. -/
  | seqFault (q : Fin 16) (kind : SeqFaultKind) (ofEvent : Bool) (n : Nat) (addr : BitVec 16)
  /-- SEQ_WATCHDOG (R448): 16,384 microwords without a COMMIT, WAIT or END restart the phase once. -/
  | seqWatchdog (ofEvent : Bool) (n : Nat)
  /-- CACHE_ACCESS (R458): A request to the context cache hits, joins a miss or misses, with ECC handling. -/
  | cacheAccess (id line : Nat) (write : Bool) (ecc : Ecc) (state : Bool)
  /-- CACHE_FILL_RETURN (R458): A miss's DRAM fill returns and its waiting requests are served. -/
  | cacheFillReturn (bank : Fin 8) (err : Option DramErr)
  /-- VICTIM_WRITEBACK_DONE (R461): A victim write-back completes, freeing its entry and releasing waiting requests. -/
  | victimWritebackDone (line : Nat)
  /-- CCH_OP_CLEAN (R462): Writing CLEAN to CCH_OP_CTL writes back the dirty lines of a range. -/
  | cchOpClean (m : Master)
  /-- CCH_OP_CLEAN_INVALIDATE (R462): Writing CLEAN_INVALIDATE writes back and invalidates the lines of a range. -/
  | cchOpCleanInvalidate (m : Master)
  /-- CCH_OP_DONE (R463): A range operation ends, OP_BUSY clears and CCH_OP_DONE is raised. -/
  | cchOpDone
  /-- CCH_CTL_WRITE (R464): Writing CCH_CTL.ENABLE enables the cache, or starts a drain when written 0. -/
  | cchCtlWrite (m : Master) (v : Word)
  /-- CCH_DRAIN_DONE (R464): The last drain write-back completes, setting BYPASS. -/
  | cchDrainDone
  /-- DRAM_REFRESH (R476): The refresh interval expires and an all-bank refresh is issued or postponed. -/
  | dramRefresh (c : Fin 2) (postponed : Bool) (steps : List (Fin 80 × Int × Int))
  /-- DRAM_TEMP_POLL (R476): Every 32 ms device temperatures are read and the refresh rate is adjusted. -/
  | dramTempPoll (temps : List Int)
  /-- DRAM_PATROL (R481): The daily patrol reads every line, correcting or acting on uncorrectable errors by area. -/
  | dramPatrol (errors : List DramErr)
  /-- DRAM_RETRAIN (R473): In PARK or IDLE after a 15 °C drift, microcode re-sweeps DRAM delays in configuration L. -/
  | dramRetrain (sweeps : List LaneSweep)
  /-- ONCHIP_SCRUB (R491): Every 100 ms the protected on-chip memories are read and single errors corrected. -/
  | onchipScrub (errors : List OnchipError)
  /-- DBG_CHAL (R522): DBG_CHAL presents a fresh 45-byte challenge, or is refused after lockout. -/
  | dbgChal (key : Nat)
  /-- DBG_RESP (R522): DBG_RESP unlocks the debug port on a valid signature, or counts a failure. -/
  | dbgResp (key : Nat) (pub sig : BitVec 512)
  /-- STRAND_LOG_APPEND (R551): Every second the changed strand contexts and their digest SEQs are appended to the system area. -/
  | strandLogAppend
  /-- LIFE_RECORD_SAVE (R557): Every 600 s of power-on time the life record is saved, alternating copies. -/
  | lifeRecordSave (ok : Bool × Bool)
  /-- OPU_LIFE_WRITE (R558): Every 24 h of laser-on time the OPU life record is written to its EEPROM. -/
  | opuLifeWrite (k : Fin 8)
  /-- VBAT_CHECK (R559): Each hour VBAT is checked and VBAT_LOW is raised below 2.4 V. -/
  | vbatCheck (low : Bool)
  /-- TAMPER_N_ASSERTED (R559): A TAMPER_N pulse sets the tamper latch with its UTC time and raises TAMPER_DETECTED. -/
  | tamperNAsserted
  /-- TAMPER_CLEAR (R559): Writing 1 to LIF_STAT.TAMPER clears the latch. -/
  | tamperClear (m : Master)
  /-- PIN_SHORT_DETECT (R555): A ball whose sensed level differs from its driven level for 1 µs sets its LIF_PIN_SHORT bit. -/
  | pinShortDetect (n : Fin 1024)
  /-- REGISTER_WRITE (R6): A write to a register without its own row acts by its fields' access types, with CFG and fault checks. -/
  | registerWrite (m : Master) (bar : Option (Fin 4)) (addr size : Nat) (op : RegOp) (env : List Int)
  /-- BROWN_OUT_RELEASE (R569): After a brown-out the part leaves RESET once the monitored rails have been within tolerance for 10 ms, and starts with CAUSE 0. -/
  | brownOutRelease
  /-- JUNCTION_BELOW_100 (R571): A junction held in RESET by overtemperature falls below 100 °C, and the hold ends. -/
  | junctionBelow100
  /-- HALT_UART_REPORT (R507): While halted in BOOT, the part writes the step number and failing check to the UART console every second. -/
  | haltUartReport
  /-- ASPM_L1_ENTRY (R433): A port's link enters L1 under ASPM once its function's rings hold no fetched instruction and no DMA is pending. -/
  | aspmL1Entry (p : Fin 2)
deriving DecidableEq, Repr

end Sys2Proof
end

