-- ==== Sys2Proof/Decode.lean ====
section
/-! DEFINITION. The words that spell commands. The part is commanded through its registers, rings, links and pins, and the table of
operations gives no row a bit (every row's list of fields is empty): no word spells a command. -/

namespace Sys2Proof

/-- The command that a word spells by the table's bits: none, for the table gives no row any bits. -/
def decodeTableWord (_nbits _w : Nat) : Option Instr := none

end Sys2Proof
end

