-- ==== Sys2Proof/Machine/Memory.lean ====
section
/-! DEFINITION. Context memory: the bytes of DRAM that the context cache serves (R456, R457), as a list of address and byte pairs in
one canonical form. What an unlisted address reads as is 0 (assumption log 21). -/

namespace Sys2Proof.Machine

/-- Bytes of the part's DRAM address space: PA[36:0] (R456). -/
abbrev memSize : Nat := 2 ^ 37

/-- What an address that is not listed reads as (R479, R506: step 15 writes every line with a valid code). -/
def memDefault : BitVec 8 := 0

/-- One byte of memory. -/
def memRead (m : List Host.Cell) (a : Nat) : BitVec 8 :=
  match m.find? (fun c => c.1 == a) with
  | some c => c.2
  | none => memDefault

/-- Memory without an address. -/
def memErase (m : List Host.Cell) (a : Nat) : List Host.Cell := m.filter (fun c => c.1 != a)

/-- Memory with an address, not listed before, put at its place. -/
def memInsert : List Host.Cell → Nat → BitVec 8 → List Host.Cell
  | [], a, b => [(a, b)]
  | c :: m, a, b => if a < c.1 then (a, b) :: c :: m else c :: memInsert m a b

/-- Memory with one byte written; nothing is listed for a byte at the default. -/
def memWrite (m : List Host.Cell) (a : Nat) (b : BitVec 8) : List Host.Cell :=
  if b = memDefault then memErase m a else memInsert (memErase m a) a b

/-- The canonical form: addresses rise strictly, and no entry equals what an unlisted address reads as. -/
abbrev memWf (m : List Host.Cell) : Prop := (m.map Prod.fst).Pairwise (· < ·) ∧ ∀ c ∈ m, c.2 ≠ memDefault

/-- The `n` bytes from address `a`, little-endian, addresses taken in PA[36:0] (R442: SIZE). -/
def memLoad (m : List Host.Cell) (a : Nat) : Nat → Nat
  | 0 => 0
  | n + 1 => (memRead m (a % memSize)).toNat + 256 * memLoad m (a + 1) n

/-- The `n` bytes from address `a` take the low bytes of `v`. -/
def memStore (m : List Host.Cell) (a : Nat) : Nat → Nat → List Host.Cell
  | 0, _ => m
  | n + 1, v => memStore (memWrite m (a % memSize) (BitVec.ofNat 8 v)) (a + 1) n (v / 256)

end Sys2Proof.Machine
end

