-- ==== Sys2Proof/Machine/Events.lean ====
section
/-! DEFINITION. Event numbers and attention levels (R534, R537). The number of an event is 32 × group + index. -/

namespace Sys2Proof.Machine

/-! ### Device mode codes (R29) -/

abbrev mOFF : Nat := 0
abbrev mRESET : Nat := 1
abbrev mBOOT : Nat := 2
abbrev mLOAD : Nat := 3
abbrev mBRINGUP : Nat := 4
abbrev mIDLE : Nat := 5
abbrev mACTIVE : Nat := 6
abbrev mDRAIN : Nat := 7
abbrev mPARK : Nat := 8
abbrev mRETENTION : Nat := 9
abbrev mSAFE : Nat := 10
abbrev mSERVICE : Nat := 11

/-! ### Bay state codes (R46) -/

abbrev bEMPTY : Nat := 0
abbrev bLOADED : Nat := 1
abbrev bSPINNING : Nat := 2
abbrev bREADY : Nat := 3
abbrev bWRITING : Nat := 4
abbrev bREADING : Nat := 5
abbrev bPARKING : Nat := 6
abbrev bFAULTED : Nat := 7

namespace Ev

/-- The event of index `i` in the group of bay `b` (R534). -/
abbrev bay (b i : Nat) : Nat := 256 + 32 * b + i

/-- The event of index `i` in the group of port `p` (R534). -/
abbrev port (p i : Nat) : Nat := 64 + 32 * p + i

/-- REG_ACCESS_FAULT of a group (R534). -/
abbrev regAccessFault (group : Nat) : Nat := 32 * group + 30

abbrev MODE_CHANGE : Nat := 0
abbrev MODE_REQ_REJECT : Nat := 1
abbrev PWR_FAIL : Nat := 2
abbrev SLATH_LOCK_LOST : Nat := 3
abbrev THERMAL_SHUTDOWN : Nat := 4
abbrev FAULT_OUTSIDE_MODEL : Nat := 5
abbrev SINGLE_FAULT_BEGIN : Nat := 6
abbrev SINGLE_FAULT_END : Nat := 7
abbrev DRAIN_INCOMPLETE : Nat := 8
abbrev DISC_NEEDED : Nat := 9
abbrev UNLOAD_READY : Nat := 10
abbrev VOLUME_SPACE_LOW : Nat := 11

abbrev BOOT_STEP_FAIL : Nat := 32
abbrev BOOT_ALTERNATE : Nat := 33
abbrev BOOT_STEP_SKIPPED : Nat := 34
abbrev PACKAGE_REJECTED : Nat := 35
abbrev PACKAGE_REVERTED : Nat := 36
abbrev ROLLBACK_ADVANCED : Nat := 37
abbrev IDENTITY_UNAVAILABLE : Nat := 38
abbrev SEC_WRITE_IGNORED : Nat := 39
abbrev DEBUG_UNLOCKED : Nat := 40
abbrev DEBUG_UNLOCK_FAIL : Nat := 41

abbrev CS_ECC_CORRECTED : Nat := 128
abbrev CS_UNCORRECTABLE : Nat := 129
abbrev SEQ_RESTART : Nat := 130
abbrev SEQ_WATCHDOG : Nat := 131
abbrev SEQ_FAILED : Nat := 132
abbrev SEQ_MICROCODE_FAULT : Nat := 133
abbrev SEQ_WRITE_IGNORED : Nat := 134
abbrev PATCH_LOADED : Nat := 135
abbrev PATCH_ROM_ONLY : Nat := 136

abbrev CCH_OP_DONE : Nat := 160
abbrev CCH_OP_REJECT : Nat := 161
abbrev CCH_DRAIN_DONE : Nat := 162
abbrev CCH_CFG_REJECT : Nat := 163
abbrev CCH_ECC_CORRECTED : Nat := 164
abbrev CCH_UNCORRECTABLE : Nat := 165
abbrev DRM_TRAIN_FALLBACK : Nat := 166
abbrev DRM_CH_UNAVAILABLE : Nat := 167
abbrev DRM_ECC_CORRECTED : Nat := 168
abbrev DRM_DEVICE_FAILED : Nat := 169
abbrev DRM_UNCORRECTABLE : Nat := 170
abbrev DRM_CFG_REJECT : Nat := 171
abbrev RT_FIFO_FAULT : Nat := 172

abbrev FLZ_SCAN_REBUILD : Nat := 192
abbrev FLZ_FOREGROUND : Nat := 193
abbrev FLZ_BLOCK_RETIRED : Nat := 194
abbrev FLZ_SPARE_LOW : Nat := 195
abbrev FLZ_LUN_FAILED : Nat := 196
abbrev FLZ_REBUILD_DONE : Nat := 197
abbrev FLZ_REBUILD_LOSS : Nat := 198
abbrev FLZ_FROZEN : Nat := 199
abbrev FLZ_CFG_REJECT : Nat := 200
abbrev FLZ_PAGE_REFRESH : Nat := 201
abbrev FLZ_PAGE_UNCORRECTABLE : Nat := 202

abbrev MAP_RECOVERED : Nat := 224
abbrev DATA_POISON_SET : Nat := 225
abbrev DIGEST_POISON : Nat := 226
abbrev CHUNK_DECODE_FAIL : Nat := 227
abbrev TRACE_PARITY : Nat := 228
abbrev DEFERRED_ERROR : Nat := 229
abbrev LOST_WRITE_REPORT : Nat := 230

/-! Indices within the group of a bay. -/

abbrev iBAY_STATE_CHANGE : Nat := 0
abbrev iBAY_SPIN_COAST : Nat := 1
abbrev iSPOKE_LOCK_LOST : Nat := 2
abbrev iSPOKE_INDEX_SLIP : Nat := 3
abbrev iSPOKE_MISMATCH : Nat := 4
abbrev iSPOKE_WRITE_STOP : Nat := 5
abbrev iSERVO_REJECT : Nat := 6
abbrev iSERVO_FE_WARN : Nat := 7
abbrev iSERVO_FE_FAULT : Nat := 8
abbrev iSERVO_ECC_CORRECTED : Nat := 9
abbrev iSERVO_ENGINE_FAULT : Nat := 10
abbrev iCMD_REJECT : Nat := 11
abbrev iFOCUS_LOST : Nat := 12
abbrev iFOCUS_ACQ_FAIL : Nat := 13
abbrev iTRACK_LOST : Nat := 14
abbrev iLAYER_JUMP_FAIL : Nat := 15
abbrev iJUMP_LATE : Nat := 16
abbrev iLASER_OVERPOWER : Nat := 17
abbrev iACT_SENSE : Nat := 18
abbrev iREVERSE_NOT_STOPPED : Nat := 19
abbrev iSPINDLE_SYNC_LOST : Nat := 20
abbrev iMOT_ENCODER_FAULT : Nat := 21
abbrev iMOT_PHASE : Nat := 22
abbrev iMOT_WIRING_CORRECTED : Nat := 23
abbrev iMOT_INDEX : Nat := 24
abbrev iMOT_SAMPLE_STARVED : Nat := 25
abbrev iSTEP_LIMIT : Nat := 26
abbrev iSTEP_SLIP : Nat := 27
abbrev iSTEP_STALL : Nat := 28
abbrev iSTEP_DRV_FAULT : Nat := 29
abbrev iSTEP_LAND_FAIL : Nat := 31

/-! Group 12 (R213), group 13 (R239) and group 14 (R266). -/

abbrev rf (i : Nat) : Nat := 384 + i
abbrev ldp (i : Nat) : Nat := 416 + i
abbrev wrp (i : Nat) : Nat := 448 + i

abbrev CAL_DISAGREE : Nat := 480
abbrev CAL_OUT_OF_RANGE : Nat := 481
abbrev CAL_LASER_SEG_EXHAUSTED : Nat := 482
abbrev ADAPT_CLAMPED : Nat := 483
abbrev THERMAL_THROTTLE : Nat := 484
abbrev COMPACT_CANDIDATE : Nat := 485
abbrev DISC_RETIRED : Nat := 486
abbrev MIGRATION_NEEDED : Nat := 487
abbrev STEWARD_PAUSED : Nat := 488
abbrev PASSPORT_LOW : Nat := 489
abbrev PASSPORT_FULL : Nat := 490
abbrev CALENDAR_INVALID : Nat := 491
abbrev CALENDAR_SET : Nat := 492
abbrev VBAT_LOW : Nat := 493
abbrev TAMPER_DETECTED : Nat := 494
abbrev LIFE_RECORD_SAVE_FAIL : Nat := 495
abbrev CAL_CFG_REJECT : Nat := 496
abbrev EVENT_OVERFLOW : Nat := 511

end Ev

/-- The attention level of each index of one group, in the order of the tables of R537, R527, R438, R213, R239 and R266. -/
def groupLevels (g : Nat) : List Nat :=
  match g with
  | 0 => [1, 2, 2, 6, 7, 7, 6, 1, 2, 4, 4, 2]
  | 1 => [2, 2, 5, 2, 5, 1, 5, 2, 2, 2]
  | 2 => [1, 2, 5, 6, 2, 2, 2]
  | 3 => [1, 2, 5, 6, 2, 2, 2]
  | 4 => [0, 2, 2, 2, 5, 2, 2, 1, 5]
  | 5 => [0, 2, 1, 2, 0, 2, 2, 5, 0, 5, 2, 2, 2]
  | 6 => [1, 1, 1, 2, 5, 1, 2, 5, 2, 0, 2]
  | 7 => [2, 2, 2, 2, 1, 3, 2]
  | 12 => [2, 1, 5, 1, 2, 5, 5, 1, 5, 2]
  | 13 => [0, 5, 5, 1, 2, 2, 2]
  | 14 => [1, 6, 2, 2, 2, 0, 2]
  | 15 => [2, 2, 5, 1, 2, 1, 1, 4, 2, 1, 2, 2, 1, 2, 2, 2, 2]
  | _ => [1, 2, 2, 1, 2, 1, 2, 1, 2, 0, 6, 2, 2, 6, 1, 2, 0, 6, 2, 6, 2, 6, 6, 1, 2, 2, 1, 1, 6, 6]

/-- The attention level of event number `n` raised with SUBCODE `sub` (R534, R537). MOT_INDEX_MISSING and MOT_INDEX_SLIP
share an index at levels 2 and 1; STEP_LAND_FAIL has index 31; REG_ACCESS_FAULT index 30 of every group. -/
def eventLevel (n sub : Nat) : Nat :=
  let g := n / 32
  let i := n % 32
  if i = 30 then 2
  else if n = Ev.EVENT_OVERFLOW then 2
  else if i = 31 then 2
  else if 8 ≤ g ∧ g ≤ 11 ∧ i = Ev.iMOT_INDEX ∧ sub = 1 then 1
  else (groupLevels g).getD i 0

/-- The highest level an event number can be raised with: the test of R540. -/
def eventMaxLevel (n : Nat) : Nat := max (eventLevel n 0) (eventLevel n 1)

end Sys2Proof.Machine
end

