-- ==== Sys2Proof/Machine/Parts.lean ====
section
/-! DEFINITION. The kinds of record that the state of the part holds beside its registers: events, start-up and security,
the landing zone, volumes and strands, rings and instructions. Plain data; a width is that of the spec's record. -/

namespace Sys2Proof.Machine

/-- A field of a register: byte address of the register, lowest bit, width, reset value (R5, R6). -/
structure Fld where
  addr : Nat
  lo : Nat
  w : Nat
  rst : Nat
deriving DecidableEq, Repr

/-- Access types of R6. A read-latch-high counter is a 64-bit field of access `ro` (R9). -/
inductive Access where
  | ro
  | rw
  | cfg
  | w1c
  /-- A write mask: bit n of [31:16] lets bit n of [15:0] be written. -/
  | wm
deriving DecidableEq, Repr

/-- A field in the access map: its access type, and the range a CFG write must keep to. -/
structure FieldSpec where
  fld : Fld
  acc : Access
  min : Nat
  max : Nat
deriving DecidableEq, Repr

/-! ### Events (R403, R535) -/

/-- One record of the event queue. -/
structure EventRec where
  event : Nat
  level : Nat
  serial : Nat := 0
  /-- TIME: UTC seconds, or power-on seconds with bit [63] set. -/
  time : Nat := 0
  subcode : Nat := 0
  inst : Nat := 0
  repeats : Nat := 0
  /-- Bytes 4 to 15 of the PAYLOAD as one little-endian number; for an overflow record the number of records lost. -/
  detail : Nat := 0
  /-- When it was queued, in µs of the model's clock (R536). -/
  queuedAt : Nat := 0
deriving DecidableEq, Repr

/-- The event queue of R403: the records held, oldest first, at most 8,192. -/
structure EventQ where
  /-- Whether step 16 of the start has set the queue up. -/
  ready : Bool := false
  recs : List EventRec := []
  /-- SERIAL of the newest record. -/
  serial : Nat := 0
  /-- SERIAL of the next record unread by the Admin function of each port. -/
  cursor : Vector Nat 2 := #v[1, 1]
  /-- Records lost to each Admin function by overwriting, with SERIAL and TIME of the first and the highest level lost. -/
  lost : Vector Nat 2 := #v[0, 0]
  lostSerial : Vector Nat 2 := #v[0, 0]
  lostTime : Vector Nat 2 := #v[0, 0]
  lostLevel : Vector Nat 2 := #v[0, 0]
  /-- Records raised before step 16, at most 64, and the number not held (R403). -/
  held : List EventRec := []
  heldLost : Nat := 0
deriving DecidableEq, Repr

/-! ### Device mode, supplies and faults -/

/-- Input levels and supplies as the part senses them. -/
structure Pins where
  supplies : Bool := true
  resetN : Bool := true
  brownOut : Bool := false
  hot : Bool := false
  slathLocked : Bool := true
  /-- PERST_N of each port, true while asserted. -/
  perst : Vector Bool 2 := #v[false, false]
  smbAddr : Nat := 0
  /-- SMB_ALERT_N driven low, and the last SMB_ATTN level it reported (R437). -/
  smbAlert : Bool := false
  smbLevel : Nat := 0
deriving DecidableEq, Repr

/-- Progress of DRAIN (R35 to R39). -/
structure Drain where
  active : Bool := false
  enteredAt : Nat := 0
  /-- Entered from BRINGUP, and the flash program that was in progress then has ended (R39). -/
  fromBringup : Bool := false
  lastProgram : Bool := false
  programmed : Bool := false
  parked : Bool := false
  checkpoint : Bool := false
  lifeSaved : Bool := false
  /-- The steps have ended or the deadline of R38 has passed. -/
  done : Bool := false
deriving DecidableEq, Repr

/-- What a mode transition in progress leads to (R32, R47, R40, R366). -/
structure Transition where
  target : Nat
  cause : Nat
deriving DecidableEq, Repr

/-- Elements failed or unavailable, each holding attention level 5 (R351, R545). -/
inductive Degraded where
  | lane (n : Nat)
  | decoder (j : Nat)
  | outer (j : Nat)
  | sequencer (s : Nat)
  | lun (n : Nat)
  | channel (c : Nat)
  | dramDevice (n : Nat)
  | dramChannel (c : Nat)
  | bay (b : Nat)
  | bootStep (k : Nat)
  | port (p : Nat)
  | frozen
  | romOnly
  | identity
  | reverted
  | actuator (k a : Nat)
  | laserSegments (k : Nat)
  | input (i : Nat)
  | opu (k : Nat)
  | subAdc (i : Nat)
  | servoEngine (e : Nat)
deriving DecidableEq, Repr

/-- A fault of R544 in recovery. -/
inductive SingleFault where
  | lane (n : Nat)
  | decoder (j : Nat)
  | outer (j : Nat)
  | sequencer (s : Nat)
  | dramDevice (n : Nat)
  | lun (n : Nat)
  | port (p : Nat)
  | servoEngine (e : Nat)
  | cacheLine
  | buffer
deriving DecidableEq, Repr

/-- The part as a whole. -/
structure Chip where
  pins : Pins := {}
  drain : Drain := {}
  transition : Option Transition := none
  /-- A wake from RETENTION is in progress: BRINGUP ends in PARK (R30). -/
  waking : Bool := false
  /-- SAFE was entered with steps of DRAIN left (R42). -/
  drainInSafe : Bool := false
  recovering : List SingleFault := []
  degraded : List Degraded := []
  /-- Ports that have completed the L2/L3 Ready handshake (R434, R435). -/
  l2Ready : Vector Bool 2 := #v[false, false]
  /-- Whether the request held in DEV_MODE_REQ.TARGET came over SMBus (R33). -/
  heldSmb : Bool := false
  /-- The held request is one for DRAIN that PME_Turn_Off made (R435). -/
  heldPme : Bool := false
  /-- In RETENTION, or on the way into it, until the ports have reached L2/L3 Ready (R40, R434). -/
  retaining : Bool := false
  /-- Event routines queued and not yet dispatched (R451). -/
  routines : List Nat := []
deriving DecidableEq, Repr

/-! ### Start-up and security (R506 to R523) -/

/-- One step entry of a START record (R509). -/
structure StepEntry where
  step : Nat
  state : Nat
  fail : Nat
  alt : Nat
  skip : Nat
  event : Nat
  duration : Nat
deriving DecidableEq, Repr

/-- One record of the boot journal (R509). -/
structure JournalRec where
  kind : Nat
  slot : Nat := 0
  startNum : Nat
  time : Nat
  cause : Nat := 0
  active : Nat := 0
  staged : Nat := 0
  rejected : Nat := 0
  version : Nat := 0
  digest : Digest := 0
  entries : List StepEntry := []
  /-- What the decisions of R511 assigned (R510): key k the elements of step k on their alternate, key 32 + k those skipped. -/
  assigned : List (Nat × Nat) := []
deriving DecidableEq, Repr

/-- The start in progress, or the last one. -/
structure Boot where
  running : Bool := true
  step : Nat := 1
  stepAt : Nat := 0
  /-- CAUSE of the journal header. -/
  cause : Nat := 0
  halted : Option Nat := none
  entries : List StepEntry := []
  /-- Decisions of R511 for the current start: alternate and skipped element masks per step. -/
  altPlan : List (Nat × Nat) := []
  skipPlan : List (Nat × Nat) := []
  /-- Slot loaded by steps 8 to 10: 0 none, 1 A, 2 B; and whether it was the staged one. -/
  slot : Nat := 0
  fromStaged : Bool := false
  unclean : Bool := false
  initialised : Bool := false
  /-- Whether the START record has been appended (step 4). -/
  journalled : Bool := false
  /-- Slot that steps 8 to 10 are to try; 0 when they are skipped (R513). -/
  tried : Nat := 0
  /-- The copy in DRAM of the package loaded (R452). -/
  pkg : Option Package := none
  /-- The policy table in force since step 11 ran its alternate or failed: defaults until SET_POLICY programs again (R506). -/
  policyAlt : Option (List ((Nat × Nat) × Nat)) := none
deriving DecidableEq, Repr

/-- OTP (R518): revocation bits and the anti-rollback counter; the digests are constants of Config. -/
structure Otp where
  counter : Nat := 0
  revoked : Nat := 0
  debugKeys : Nat := 0
  debugDisabled : Bool := false
deriving DecidableEq, Repr

/-- A debug challenge that waits for its response (R522). -/
structure Challenge where
  random : BitVec 256
  key : Nat
  at_ : Nat
deriving DecidableEq, Repr

structure Debug where
  challenge : Option Challenge := none
deriving DecidableEq, Repr

/-! ### Landing zone (R283 to R309) -/

/-- A sector stored in a slot of a landing page (R287), alone or as a member of a compressed or raw chunk (R382, R496). -/
structure Stored where
  vol : Nat
  lsa : Nat
  seq : Nat
  strand : Nat
  data : Sector
  poison : Bool := false
  /-- SEQ of the WRITE that wrote it: SRC_SEQ plus the slot, kept by every copy (R287, R293). -/
  ver : Nat
  /-- Stored sectors of the chunk it belongs to when stored compressed or raw; 0 when stored alone (R496). -/
  chunk : Nat := 0
  /-- When its WRITE committed, in µs of the model's clock (R322). -/
  at_ : Nat := 0
deriving DecidableEq, Repr

/-- A landing page (R287): its header fields and the sectors its slots hold. -/
structure Page where
  lblock : Nat
  row : Nat
  pos : Nat
  /-- 0x00 user, 0x01 pad, 0x02 summary, 0x03 system; 0x10 a parity page, which has no header (R284). -/
  kind : Nat := 0
  seq : Nat := 0
  srcSeq : Nat := 0
  relocated : Bool := false
  /-- Slots in use (R287), and the sectors they hold; the sectors of a chunk are listed on the page of its last piece. -/
  used : Nat := 0
  slots : List Stored := []
  /-- On a page that holds other pieces of a chunk than its last: the sectors of that chunk. -/
  pieces : List Stored := []
  /-- CHUNK_SECTOR of slot 0 of a page of a chunk (R287). -/
  pieceAt : Nat := 0
deriving DecidableEq, Repr

/-- Landing block states (R288). -/
inductive BlockState where
  | free
  | openData
  | openLog
  | closed
  | reclaim
  | erasing
deriving DecidableEq, Repr

/-- A landing block (R284, R288 to R290). -/
structure LBlock where
  num : Nat
  state : BlockState := .free
  /-- LUN and erase block at positions 0 to 15. -/
  members : List (Nat × Nat) := []
  vol : Nat := 0
  strand : Nat := 0
  /-- First extent of the bound run, and the number bound (R289). -/
  base : Nat := 0
  run : Nat := 0
  /-- The data block it serves when it is a log block (R290). -/
  logOf : Option Nat := none
  /-- Next row, and the data pages programmed in it. -/
  row : Nat := 0
  filled : Nat := 0
  lastWrite : Nat := 0
  /-- It closes once its row is complete (R285). -/
  closing : Bool := false
  /-- BCH strength of its pages (R486). -/
  t : Nat := 128
deriving DecidableEq, Repr

/-- A page copy to be made by a merge, collection, refresh or rebuild (R291): source block, row and position, and the block
the copy goes to, none for the collection's own block. -/
structure Copy where
  src : Nat × Nat × Nat
  dst : Option Nat := none
  /-- Its source page must be rebuilt from the row's other pages (R303). -/
  rebuilt : Bool := false
deriving DecidableEq, Repr

/-- Admission bucket of R299, in bytes (negative when a long WRITE was posted). -/
structure Bucket where
  level : Int := 4194304
  at_ : Nat := 0
deriving DecidableEq, Repr

/-- The volatile side of the landing zone. -/
structure Flash where
  /-- LUNs in service and their geometry (R282). -/
  luns : List LunId := []
  blocks : List LBlock := []
  /-- Spare erase blocks per LUN: (LUN, erase block). -/
  spares : List (Nat × Nat) := []
  spareInit : Nat := 0
  /-- Erase blocks in service that belong to no landing block and to no spare pool: not enough LUNs are left over for a block (R284). -/
  loose : List (Nat × Nat) := []
  /-- SPARE_PCT in force, and the erase blocks that a rise of it still has to move into the pools (R302). -/
  sparePct : Nat := 0
  spareRise : Nat := 0
  bucket : Bucket := {}
  volBuckets : List (Nat × Bucket) := []
  /-- Landing capacity freed, and copied as negative amounts: time in µs and bytes (R299). -/
  freed : List (Nat × Int) := []
  /-- Unthrottled program rate of R34 in bytes/s, once measured; the second being measured: its start, bytes programmed, time
  spent programming, end of the last program. -/
  programRate : Option Nat := none
  measure : Nat × Nat × Nat × Nat := (0, 0, 0, 0)
  /-- Landing-zone rate fraction of R278, in quarters, in force during that second (R34). -/
  measureRate : Nat := 4
  /-- A chunk whose pieces are being programmed: volume, first LSA, pieces left (R287, R496). -/
  chunk : Option (Nat × Nat × Nat) := none
  /-- Disc writes that passed, per volume: time in µs and bytes (R308). -/
  discDone : List (Nat × Nat × Nat) := []
  lastHostProgram : Nat := 0
  /-- Rows whose remaining positions are to be padded (R286): (block, row). -/
  padRows : List (Nat × Nat) := []
  copies : List Copy := []
  /-- The block that collection copies into (R298). -/
  gcBlock : Option Nat := none
  /-- Times at which each LUN retired an erase block, in µs (R304). -/
  retiredAt : List (Nat × Nat) := []
  rebuilding : List Nat := []
  /-- Valid pages that the rebuilds in progress had to copy. -/
  rebuildTotal : Nat := 0
deriving DecidableEq, Repr

/-! ### Volumes, strands and discs -/

/-- One sector in the DRAM write cache (R381). -/
structure CacheSector where
  vol : Nat
  lsa : Nat
  seq : Nat
  strand : Nat
  data : Sector
  /-- Commit time in µs of the model's clock (R322). -/
  at_ : Nat
  /-- The WRITE's completion has been posted (R34). -/
  acked : Bool := false
  /-- No longer current: a later WRITE, a retirement or a deletion ended it (R17). -/
  stale : Bool := false
  poison : Bool := false
  /-- Its data has joined the digest of its strand (R377). -/
  digested : Bool := false
  /-- Landing block and row that it has been programmed into; the row counts once it is complete (R286). -/
  row : Option (Nat × Nat) := none
  /-- Class and number of the WRITE that wrote it (R299, R300). -/
  cls : Nat := 1
  inst : Nat := 0
  /-- Read from a disc to be moved into the landing zone, with GEN of its extent at the read (R331). -/
  moved : Option Nat := none
deriving DecidableEq, Repr

/-- An extent map entry (R315) beside what the page index gives. -/
structure Extent where
  vol : Nat
  ext : Nat
  gen : Nat := 0
  parity : Nat := 0
  migrate : Bool := false
  mergeWait : Bool := false
  /-- When MERGE_WAIT was set (R324). -/
  mergeAt : Nat := 0
  /-- Next SEQ when the entry was last logged (R318). -/
  logSeq : Nat := 0
  /-- Disc copy: DISC_ID, band, track, sector; none when not on disc. -/
  disc : Option (Nat × Nat × Nat × Nat) := none
  /-- CHUNK_LEN of chunks 0 to 15. -/
  chunkLen : List Nat := []
  /-- SEQ of each sector on disc: (LSA, SEQ). -/
  onDisc : List (Nat × Nat) := []
  /-- WRITTEN, bit n for sector 256e + n. -/
  written : BitVec 256 := 0
deriving DecidableEq, Repr

/-- A volume (R313, R388). -/
structure Volume where
  num : Nat
  parity : Nat
  compress : Bool
  label : BitVec 128
  createSeq : Nat
  createTime : Nat
  spaceLow : Bool := false
deriving DecidableEq, Repr

/-- Strand states (R374), with the codes of the strand record. -/
inductive StrandState where
  | opened
  | closing
  | closed
  | sealed
deriving DecidableEq, Repr

/-- A running SM3 digest over whole 64-byte blocks (R377). -/
structure Running where
  h : Digest
  blocks : Nat := 0
deriving DecidableEq, Repr

/-- A strand context (R374 to R380). -/
structure Strand where
  num : Nat
  vol : Nat
  state : StrandState := .opened
  owner : Fin 4
  compress : Bool
  digest : Running
  digestPoisoned : Bool := false
  incomplete : Bool := false
  firstSeq : Nat := 0
  lastSeq : Nat := 0
  sectors : Nat := 0
  /-- SEQ up to which the digest has been extended, and up to which the strand log records it (R551). -/
  digestSeq : Nat := 0
  loggedSeq : Nat := 0
  /-- DURABLE_SEQ as the strand log last recorded it (R551, R553). -/
  loggedDurable : Nat := 0
  firstLost : Nat := 0
  lost : Nat := 0
  /-- SEQs of the lost sectors known one by one (R306). -/
  lostSeqs : List Nat := []
  /-- DURABLE_SEQ held down by a loss (R380, R552). -/
  durableCap : Option Nat := none
  stored : Nat := 0
  anyCompressed : Bool := false
  openTime : Nat := 0
  closeTime : Nat := 0
  deferred : Bool := false
  /-- The seal record stored in the system area (R379). -/
  sealRecord : Option (List Byte) := none
  /-- Context changed since the last strand log (R551). -/
  dirty : Bool := true
deriving DecidableEq, Repr

/-- A deferred error kept for a released strand (R352, R380, R410): function, durable SEQ, strand. -/
structure Deferred where
  owner : Fin 4
  strand : Nat
  durable : Nat
  /-- Reported only through GET_EVENTS and attention level 3. -/
  released : Bool
deriving DecidableEq, Repr

/-- Sectors written in a band and not yet recorded by a range entry (R66, R67): first track offset and sector, sectors written (data and
parity), lowest and highest LSA, first and last SEQ. -/
structure Range where
  track : Nat
  sector : Nat
  count : Nat
  lowLsa : Nat
  highLsa : Nat
  firstSeq : Nat
  lastSeq : Nat
deriving DecidableEq, Repr

/-- One band of a disc as its directory and the part's records give it (R65 to R69). -/
structure Band where
  num : Nat
  parity : Nat := 2
  /-- Next track offset to write, and the data sectors laid over the band so far (R55). -/
  track : Nat := 3
  laid : Nat := 0
  /-- Frames that the staged sectors reach, to the end of a track once padded (R323). -/
  frames : Nat := 0
  /-- Spare sectors and directory sectors used (R65, R257). -/
  spares : Nat := 0
  dirs : Nat := 0
  closed : Bool := false
  /-- Relocated copies: track offset and sector, and those of the copy (R66, R257). -/
  relocs : List ((Nat × Nat) × (Nat × Nat)) := []
  /-- Skipped runs: track offset, first sector, reason (R66, R260). -/
  runs : List (Nat × Nat × Nat) := []
  /-- Directory entries that wait for the next directory sector: kind and fields (R66). -/
  pending : List (Nat × List Nat) := []
  /-- The first copy of the present directory sector has passed (R259). -/
  dirPassed : Bool := false
  /-- Of the entries that wait, how many record events before the first of `range` (R66). -/
  earlier : Nat := 0
  /-- Payloads of data sectors whose block's parity is still to be written: data index and payload (R62). -/
  kept : List (Nat × List Byte) := []
  /-- What has been written since the last range entry, the track offset below which everything is recorded, and the last SEQ written
  (R66, R67). -/
  range : Option Range := none
  recorded : Nat := 0
  lastSeq : Nat := 0
deriving DecidableEq, Repr

/-- What a scrub has found of one band so far (R71, R334, R335): sectors read, sectors that needed retries, were rebuilt and were poisoned, and
the SNR of each frame that decoded, in 1/4,096 dB. -/
structure ScrubBand where
  band : Nat
  read : Nat := 0
  retries : Nat := 0
  rebuilt : Nat := 0
  poisoned : Nat := 0
  snrs : List Int := []
deriving DecidableEq, Repr

/-- A disc table entry (R314) with what the part has laid on the disc. -/
structure Disc where
  id : Nat
  vol : Nat
  bay : Option (Fin 4) := none
  nextPair : Nat := 0
  live : Nat := 0
  dead : Nat := 0
  /-- Order of initialisation (R322). -/
  order : Nat := 0
  parity : Nat := 2
  /-- Scrub: running, band pairs done, due time (UTC s), end of the last complete one, INIT_DISC time. -/
  scrubRunning : Bool := false
  scrubPairs : Nat := 0
  scrub : List ScrubBand := []
  scrubDueNow : Bool := false
  lastScrub : Nat := 0
  initTime : Nat := 0
  /-- Band margins of the last three scrubs, newest first: time and (band, margin in 0.01 dB). -/
  margins : List (Nat × List (Nat × Int)) := []
  retired : Bool := false
  compacting : Bool := false
  compactReported : Bool := false
  migrationRequested : Bool := false
  changed : Bool := false
  /-- Extents whose blocks are to be written again in another band: extent, band to avoid (R69, R258). -/
  rewrite : List (Nat × Nat) := []
  /-- Passport records remaining on sides 0 and 1, and pending records. -/
  passportLeft : Nat × Nat := (0, 0)
  /-- Records that wait to be written: side, kind and body (R338). -/
  passportPending : List (Nat × Nat × List Byte) := []
  /-- Next SEQ at the last volume map record, and the map sectors written so far (R319). -/
  mapSeq : Nat := 0
  mapSectors : Nat := 0
  bands : List Band := []
deriving DecidableEq, Repr

/-- A disc request in force: DISC_ID, volume, reason (R320). -/
structure DiscRequest where
  disc : Nat
  vol : Nat
  reason : Nat
deriving DecidableEq, Repr

/-- An extent staged in a write session (R323, R324): its band, its first data sector in it, the stored sectors of its chunks,
the versions it carries and the GEN at staging. -/
structure Staged where
  vol : Nat
  ext : Nat
  band : Nat
  first : Nat
  chunks : List Nat
  /-- Chunks that are stored sector by sector, not compressed or raw (R317). -/
  plain : List Bool
  versions : List (Nat × Nat)
  gen : Nat
  /-- Its written sectors as staged in DRAM: LSA, strand, poison and user bytes. -/
  data : List (Nat × Nat × Bool × Sector) := []
  /-- User bytes of the volume map sectors that stand in the place of an extent (R319); each has its serial number and SEQ in `versions`. -/
  map : List (List Byte) := []
deriving DecidableEq, Repr

/-- A write session on a bay (R322 to R326). -/
structure Session where
  disc : Nat
  vol : Nat
  staged : List Staged := []
  suspended : Bool := false
  /-- Highest SEQ staged. -/
  highSeq : Nat := 0
  /-- For its passport records (R71): the band written on each side and what has been written there, and the write energy before. -/
  wrote : Option (Nat × Range) × Option (Nat × Range) := (none, none)
  energy : Nat × Nat := (0, 0)
deriving DecidableEq, Repr

/-- A disc sector in the decoded-sector buffers (R19, R237): its place, the identity that the map gives it, its payload once decoded, rebuilt or
poisoned, and how it was obtained. -/
structure SectorCopy where
  opu : Nat
  layer : Nat := 0
  track : Nat
  sector : Nat
  vol : Nat := 0
  lsa : Nat := 0
  /-- CHUNK_SECTOR, of a member of a chunk. -/
  member : Option Nat := none
  parity : Bool := false
  /-- It decoded with another identity than that of its place: its levels are known, and no reader is given it (R215, R235). -/
  stray : Bool := false
  payload : List Byte := []
  /-- Poisoned on the disc path, for the classes whose limit has passed, all when none is named (R233, R236). -/
  poison : Bool := false
  classes : List Nat := []
  /-- Highest rung of the ladder it entered, whether the outer code rebuilt it, and when it was stored. -/
  rung : Nat := 0
  rebuilt : Bool := false
  at_ : Nat := 0
  /-- The erasure map and trailer of its salvage record, bytes 4,096 to 4,623. -/
  salvage : List Byte := []
deriving DecidableEq, Repr

/-- A sector in a bay's read-ahead buffer (R328). -/
structure ReadAhead where
  vol : Nat
  lsa : Nat
  gen : Nat
  data : Sector
  /-- A DRAM line of it could not be corrected (R481). -/
  poison : Bool := false
deriving DecidableEq, Repr

/-- A checkpoint (R294): what it records of the blocks, the map and the strands. -/
structure Checkpoint where
  blocks : List LBlock := []
  extents : List Extent := []
  strands : List Strand := []
deriving DecidableEq, Repr

/-- A loss entry of the power-fail record (R550). -/
structure LossEntry where
  strand : Nat
  atRisk : Nat
  lowSeq : Nat
  highSeq : Nat
deriving DecidableEq, Repr

/-- The power-fail record (R550). -/
structure PowerFail where
  seqIssued : Nat
  time : Nat
  entries : List LossEntry
  frozen : Bool
  powerOn : Nat
deriving DecidableEq, Repr

/-- An entry of the lost-write report (R553). -/
structure LostEntry where
  strand : Nat
  vol : Nat
  flags : Nat
  durable : Nat
  firstLost : Nat
  lost : Option Nat
  high : Nat
  atRisk : Nat
deriving DecidableEq, Repr

/-- The lost-write report (R553). -/
structure LostReport where
  flags : Nat := 0
  startNum : Nat := 0
  lossTime : Nat := 0
  seqIssued : Nat := 0
  entries : List LostEntry := []
deriving DecidableEq, Repr

/-- Life record counters beside the register counters (R556). -/
structure Life where
  powerOnBase : Nat := 0
  powerOnAt : Nat := 0
  starts : Nat := 0
  unclean : Nat := 0
  pwrFails : Nat := 0
  drains : Nat := 0
  laserSec : Vector Nat 8 := .replicate 8 0
  /-- Time with the write gate open, in µs. -/
  writeMicros : Vector Nat 8 := .replicate 8 0
  maxTemp : Int := -128
  /-- Time above 95 °C in µs, and when the junction was last sampled above it. -/
  hotMicros : Nat := 0
  hotAt : Option Nat := none
  /-- Register counters as saved: (field key, value). -/
  counters : List (Nat × Nat) := []
  /-- Laser-on seconds, write-gate µs and write energy when each OPU's EEPROM was last written (R558). -/
  opuMark : Vector (Nat × Nat × Nat) 8 := .replicate 8 (0, 0, 0)
  /-- Last time and result of each calibrated element as saved (R269). -/
  calResults : List (Nat × Nat × Nat × Nat) := []
  /-- The registers of those elements, (field key, value), and the calibrated MARK ratios (R273, R506). -/
  calValues : List (Nat × Nat) := []
  calMarks : List (Nat × Nat) := []
  calKappas : List (Nat × List Int) := []
deriving DecidableEq, Repr

/-- An OPU's EEPROM (R558): constants as register images, and the two life record copies. -/
structure Eeprom where
  crcOk : Bool := true
  serial : List Byte := []
  actLim : List Nat := [0, 0, 0, 0]
  laserMax : Nat := 0
  readMax : Nat := 0
  driveCode : Nat := 0
  driveFront : Nat := 0
  trimWin : Nat := 0
  homeOfs : Nat := 0x400
  inhibitTemp : Nat := 0
  /-- Layer hop: kick code, kick length, brake code, brake length (R127). -/
  hop : List Nat := [0, 0, 0, 0]
  kick : Nat := 0
  /-- Kick and brake lengths for distances 1 to 64 (R131). -/
  jumps : List (Nat × Nat) := []
  layers : List (Nat × Nat) := []
  lrefs : List (Nat × Nat) := []
  rdpwr : List Nat := []
  levels : List (Nat × Nat × Nat × Nat) := []
  strategy : List (Nat × Nat) := []
  /-- Life record copies: COUNT, LASER_S, WRITE_S, ENERGY, LAST_TIME. -/
  life : List (List Nat) := []
deriving DecidableEq, Repr

/-- The system area of the landing zone (R294, R308, R314, R318, R550, R551). -/
structure SysArea where
  initialised : Bool := false
  /-- BCH strength in force, the previous one and that of system-area pages; 0 when none (R486). -/
  t : Nat := 0
  tPrev : Nat := 0
  sysT : Nat := 0
  /-- The latest CLEAN or OPEN record: true for CLEAN. -/
  clean : Bool := false
  checkpoint : Checkpoint := {}
  mapLog : List Extent := []
  strandLog : List Strand := []
  powerFail : Option PowerFail := none
  seals : List (Nat × List Byte) := []
  deferred : List Deferred := []
  failedLuns : List Nat := []
  frozen : Bool := false
  life : Life := {}
  lifeCopy : Nat := 0
  retired : List (Nat × Nat) := []
  /-- Erase blocks of the reserved landing blocks and their spares (R302). -/
  reserved : List (Nat × Nat) := []
  /-- The spare pools, their initial size, SPARE_PCT in force, and the LUNs that have been initialised (R302, R309). -/
  spares : List (Nat × Nat) := []
  spareInit : Nat := 0
  sparePct : Nat := 0
  known : List Nat := []
  /-- Erase counts: (LUN, erase block, count). -/
  erases : List (Nat × Nat × Nat) := []
  pages : List Page := []
  /-- The landing blocks that hold pages, as their headers and summary rows tell them (R285, R287, R295). -/
  laid : List LBlock := []
deriving DecidableEq, Repr

/-- Everything that survives the loss of power: SPI NOR, OTP, the VBAT domain, the landing zone and the EEPROMs. -/
structure NonVol where
  journal : List JournalRec := []
  slotA : Option Package := none
  slotB : Option Package := none
  /-- ACTIVE, STAGED, REJECTED in force (R513). -/
  active : Nat := 0
  staged : Nat := 0
  rejected : Nat := 0
  policy : List ((Nat × Nat) × Nat) := []
  /-- Training record (R474): configuration code, and the delay fields as (key, value). -/
  training : Option (Nat × List (Nat × Nat)) := none
  /-- Board configuration record (R565): bays, OPUs, channels fitted. -/
  bays : Nat := 0xF
  opus : Nat := 0xFF
  channels : Nat := 0xFF
  /-- Subsystem Vendor ID and Subsystem ID of the Admin and of the Data functions, where that record holds them (R422). -/
  subsystems : Option (Vector (Nat × Nat) 2) := none
  /-- Calendar (R559): valid, UTC seconds at `utcAt`, VBAT lost; time of the last SET_TIME. -/
  calValid : Bool := false
  utc : Nat := 0
  utcAt : Nat := 0
  lastSet : Nat := 0
  tamper : Option Nat := none
  /-- Trim of the oscillator on VBAT (R15). -/
  oscTrim : Int := 0
  sys : SysArea := {}
  eeproms : Vector Eeprom 8 := .replicate 8 {}
  startNum : Nat := 0
deriving DecidableEq, Repr

/-! ### Rings and instructions (R343 to R362) -/

/-- What a chain keeps between its members (R360, R361, R417): the number of its first member, the skip state, the TAG of the
failed member while it is broken, and code, DW0, ATTN and DEFERRED of the member completed last. -/
structure Chain where
  first : Nat
  skip : Bool := false
  broken : Option Nat := none
  last : Option (Nat × Nat × Nat × Bool) := none
deriving DecidableEq, Repr

/-- A submission ring. -/
structure SubRing where
  num : Nat
  base : Nat
  k : Nat
  cq : Nat
  head : Nat := 0
  tail : Nat := 0
  /-- The chain that the next instruction fetched belongs to. -/
  chain : Option Nat := none
  chains : List Chain := []
deriving DecidableEq, Repr

/-- A completion as staged for its ring (R350). -/
structure Completion where
  code : Nat
  dw0 : Nat
  echo : Nat
  sq : Nat
  tag : Nat
  deferred : Bool := false
  /-- Number of its instruction, and of the first member of its chain. -/
  id : Nat := 0
  chain : Option Nat := none
  ordered : Bool := false
  /-- Strand, first and last SEQ of a WRITE (R34, R363). -/
  wrote : Option (Nat × Nat × Nat) := none
deriving DecidableEq, Repr

/-- A completion ring. -/
structure ComRing where
  num : Nat
  base : Nat
  k : Nat
  poll : Bool := false
  head : Nat := 0
  tail : Nat := 0
  phase : Bool := true
  waiting : List Completion := []
deriving DecidableEq, Repr

/-- Where an instruction stands. -/
inductive Stage where
  /-- In a sequencer's queue. -/
  | queued
  /-- Dispatched, and parked until R358 and R360 let it start (R440). -/
  | held
  /-- Dispatched, checks 1 to 3 passed, not yet executed. -/
  | dispatched
  /-- Executing or parked before its commit point. -/
  | waiting
  /-- Past its commit point, its completion gated or its work going on. -/
  | committed
  /-- Its WRITE data has committed and its completion waits at a gate. -/
  | gated
deriving DecidableEq, Repr

/-- A fetched instruction (R345, R347). -/
structure Inst where
  id : Nat
  fn : Fin 4
  sq : Nat
  cq : Nat
  desc : BitVec 512
  seq : Nat := 0
  stage : Stage := .queued
  /-- Sequencer and thread that hold it. -/
  sequencer : Nat := 0
  /-- CLASS as executed, after R369. -/
  cls : Nat
  demoted : Bool := false
  /-- Number of the first member of its chain (R360). -/
  chain : Option Nat := none
  fetchedAt : Nat := 0
  startedAt : Nat := 0
  /-- Highest commit SEQ covered, and the strands and SEQs a FLUSH covers: (strand, from, to). -/
  covers : List (Nat × Nat × Nat) := []
  /-- Pending DW0 and code for a completion that waits. -/
  code : Nat := 0
  dw0 : Nat := 0
  /-- Whether the FLR of its function has disowned it (R365). -/
  orphan : Bool := false
  /-- Operands an instruction keeps while it waits. -/
  data : List Nat := []
deriving DecidableEq, Repr

/-- A PCIe function (R343, R421 to R430). -/
structure HostFn where
  sqs : List SubRing := []
  cqs : List ComRing := []
  /-- WRITEs whose completions have been posted and whose data is not all on disc: strand, first and last SEQ (R363). -/
  posted : List (Nat × Nat × Nat) := []
  /-- D3hot (R433). -/
  d3 : Bool := false
  relaxed : Bool := false
  /-- MSI-X: mask bits, pending bits and the function mask; vectors 0 to 64. -/
  masked : List Nat := List.range 65
  pending : List Nat := []
  fnMask : Bool := false
  /-- Level that set the pending bit of vector 0 (R541). -/
  pendLevel : Nat := 0
  /-- Message address and data per vector. -/
  table : List (Nat × Nat × Nat) := []
deriving DecidableEq, Repr

/-- Class 0 bucket of a port (R369), in thousandths of an instruction, and when it was last filled. -/
structure Class0 where
  level : Nat := 64000
  at_ : Nat := 0
deriving DecidableEq, Repr

/-- What the balls CK, D0 and D1 of a laser link carry after the rising and after the falling edge of one clock cycle, and CTL after the rising one (R240). -/
structure LinkBalls where
  ck : Bool × Bool
  d0 : Bool × Bool
  d1 : Bool × Bool
  valid : Bool
deriving DecidableEq, Repr

/-- A message or memory write that leaves the part (the model's own record of its outputs, assumption log 6). -/
inductive Output where
  /-- A completion written to host memory: function, ring, slot and the 16 bytes as a number. -/
  | completion (f cq slot : Nat) (value : BitVec 128)
  /-- Bytes written to the buffer of an instruction. -/
  | bytes (id : Nat) (b : List Byte)
  /-- Sectors written to the buffer of an instruction. -/
  | sectors (id : Nat) (s : List Sector)
  /-- An MSI-X message: function and vector. -/
  | msix (f vector : Nat)
  /-- A line on the UART console: step and failing check (R507). -/
  | uart (step check : Nat)
  /-- The address answered on SMBus (R437). -/
  | smbus (addr : Nat)
  /-- What a register access by a master reads: master code, address, value (R5, R9). -/
  | register (master addr value : Nat)
  /-- Bytes shifted out of the debug port (R522). -/
  | debug (b : List Byte)
  /-- A control frame on a laser link, with the gap after it: OPU and the bits that CTL carries on falling edges (R240, R242). -/
  | wsl (k : Nat) (bits : List Bool)
  /-- The symbols of one data interval on a laser link: OPU, the clock cycle of the first, and what the balls carry cycle by cycle (R240, R241, R243). -/
  | symbols (k : Nat) (cycle : Int) (l : List LinkBalls)
  /-- A sector as written outside the data tracks, or relocated: OPU, track, sector and the payload (R64, R65, R70, R257, R319). -/
  | sector (k track sector : Nat) (payload : List Byte)
  /-- A page programmed into the flash: LUN, erase block, page and its bytes (R283 to R287, R485). -/
  | page (lun block page : Nat) (b : List Byte)
  /-- A passport record whose signature is invalid: bay, side and record number (R71). -/
  | badRecord (b side n : Nat)
deriving DecidableEq, Repr

end Sys2Proof.Machine
end

