-- ==== Sys2Proof/Machine/Drives.lean ====
section
/-! DEFINITION. The kinds of record that the state of the bays, their drives, their channels and the engines holds beside
its registers. -/

namespace Sys2Proof.Machine

/-! ### Spokes (R78 to R89) -/

/-- A data interval (R52, R86): the index of the spoke before it, the measured spoke period, where the data lanes and the T lane resume after that
spoke, both in 1/128 of an RF cycle, and its channel bits. -/
structure DataInterval where
  index : Nat
  period : Nat
  dataFrom : Nat
  tFrom : Nat
  bits : Nat
deriving DecidableEq, Repr

/-- The C channel of one OPU beyond its RCH_SPK registers. -/
structure Spoke where
  /-- Last sync position, in 1/128 of an RF cycle (R77, R78). -/
  lastSync : Nat := 0
  /-- Index expected at the next spoke. -/
  index : Nat := 0
  /-- Spokes confirmed in a row (R79). -/
  confirmRun : Nat := 0
  /-- Index difference seen last and how often in a row (R83). -/
  slipDiff : Nat := 0
  slipRun : Nat := 0
  /-- Spokes with valid parity in a row that show the wrong side, and another layer than the focus loop's (R84). -/
  sideRun : Nat := 0
  layerRun : Nat := 0
  /-- A + B and C + D of the last 64 accepted spokes, newest first (R82). -/
  sums : List (Nat × Nat) := []
  /-- Reference sync time of the phase error (R88, R89). -/
  sRef : Nat := 0
  speedErr : Int := 0
  phaseErr : Int := 0
  sampleValid : Bool := false
  /-- Whether the last spoke delivered a position error (R82), and whether it was accepted (region source 13). -/
  pesValid : Bool := false
  accepted : Bool := false
  /-- t_exp: the expected track (R80). -/
  tExp : Nat := 0
  /-- The last 64 data intervals, newest first (R86). -/
  intervals : List DataInterval := []
  /-- Spokes in a row found only in complement, in SEARCH (R194). -/
  invRun : Nat := 0
deriving DecidableEq, Repr

/-! ### Optical sequencers (R116 to R139) -/

/-- Power sent on a laser link. -/
inductive LaserPower where
  | off
  | read
  | write
deriving DecidableEq, Repr

/-- Where a sequence of the optical sequencer stands. -/
inductive OptPhase where
  | idle
  /-- A JUMP with AT_SPOKE waits for its spoke. -/
  | pending
  /-- ACQUIRE sweeps focus; focus is closed and locks; a spoke of layer 0 is awaited. -/
  | sweep
  | locking
  | spokes
  /-- A hop holds tracking; its pulses run; focus is to be closed; focus locks. -/
  | hopHold
  | hopPulse
  | hopCatch
  | hopLock
  /-- A spoke of the target layer is awaited (R127). -/
  | layerSpoke
  /-- Pull-in waits for the radial velocity to fall; waits for on track; waits for a seek. -/
  | velocity
  | settling
  | seeking
  /-- The pulses of a jump run; its landing is awaited. -/
  | jumpPulse
  | landing
  /-- Tilt and SA move to the presets of the layer that spokes have shown, before LAYER_JUMP (R138). -/
  | presets
  /-- The ramp of RETRACT runs; the ramp of an engine fault runs (R108). -/
  | retracting
  | faultRamp
deriving DecidableEq, Repr

/-- One OPU's optical sequencer, laser enable and actuator codes. -/
structure Optic where
  /-- WSL_k_LEN active. -/
  laser : Bool := false
  power : LaserPower := .off
  /-- The OPU's temperature in °C as the servo ADC read it last; none before its first frame (R278). -/
  celsius : Option Int := none
  /-- Write gate open. -/
  gate : Bool := false
  phase : OptPhase := .idle
  /-- Frames spent in this phase. -/
  frames : Nat := 0
  /-- Start of the sequence, hop or pull-in, in µs of the model's clock. -/
  startAt : Nat := 0
  /-- Target layer, jump distance and start spoke of the running sequence; the LAYER that an ACQUIRE leads to, and whether one runs whose
  failure is still to be counted (R125, R136). -/
  layer : Nat := 0
  goal : Nat := 0
  acquiring : Bool := false
  dist : Int := 0
  spoke : Option Nat := none
  /-- A pull-in runs the jump, and is to go on when it has landed. -/
  inPullIn : Bool := false
  /-- S-curves passed, and SUM has reached SUM_MIN in the present one (R125). -/
  curves : Nat := 0
  sumSeen : Bool := false
  prevFe : Int := 0
  focusClosed : Bool := false
  /-- Runs of frames and spokes that set and clear source 6 and source 7 (R118). -/
  lockRun : Nat := 0
  /-- When focus was last locked, in µs of the model's clock (R195). -/
  lockedAt : Nat := 0
  lossRun : Nat := 0
  onRun : Nat := 0
  /-- Spokes since on track cleared while focus stayed locked (R137). -/
  lostRun : Option Nat := none
  pullFails : Nat := 0
  /-- Runs of frames below and above the written threshold, for spots I, C, O (R117). -/
  below : Vector Nat 3 := .replicate 3 0
  above : Vector Nat 3 := .replicate 3 0
  /-- Pulse codes on focus and tracking, and the codes at which a ramp began (R122, R126). -/
  pulseF : Int := 0
  pulseT : Int := 0
  base : Vector Int 4 := .replicate 4 0
  /-- Codes loaded in the actuator DACs: focus, tracking, tilt, SA. -/
  dac : Vector Int 4 := .replicate 4 0
  /-- When focus was lost, and the layer and track it had (R136). -/
  lostAt : Option Nat := none
  backLayer : Nat := 0
  backTrack : Nat := 0
  /-- Times of the last SPOKE_LAYER_MISMATCH (R138). -/
  mismatches : List Nat := []
  /-- Frames in a row with the front monitor above MAX (R134). -/
  overRun : Nat := 0
  /-- Runs of ACT_SENSE samples (R121). -/
  lowRun : Vector Nat 4 := .replicate 4 0
  highRun : Vector Nat 4 := .replicate 4 0
  /-- Tilt and SA preset moves: executions left and target code (R123). -/
  preset : Vector (Nat × Int) 2 := .replicate 2 (0, 0)
  /-- Dither (R130): frame in its cycle of 64, 64 once the cycle is complete and 65 when none runs; sums of SUM over the two halves. -/
  ditherAt : Nat := 65
  sPlus : Int := 0
  sMinus : Int := 0
  /-- Landing spokes confirmed (R131, R132). -/
  landRun : Nat := 0
  landings : Nat := 0
  /-- Position of the last accepted spoke in 1/2^32 track, and the spokes since that were not accepted (R129). -/
  prevPos : Option Int := none
  unread : Nat := 0
  /-- Tracks and slips kept for a seek: target track, correction seeks in a row that slipped (R178, R179). -/
  seekTo : Option Nat := none
  slipSeeks : Nat := 0
  /-- Laser-on and write-gate-open time, in µs, and when they were last counted (R556). -/
  laserSince : Nat := 0
deriving DecidableEq, Repr

/-! ### Servo engines (R92 to R112) -/

/-- What a loop slot keeps from its last execution beside its registers. -/
structure SlotRun where
  /-- It has executed since it was enabled. -/
  ran : Bool := false
  gset : Nat := 0
  /-- It was held: HOLD, FF_ONLY, FREEZE or an action of R106. -/
  held : Bool := false
  high : Bool := false
  low : Bool := false
  warned : Bool := false
  /-- Consecutive executions beyond SRV_FE_LIM, and the actions of R106 taken at the fault that is latched. -/
  excess : Nat := 0
  actions : Nat := 0
  /-- FE_FAULT has been cleared and the next execution is a switch. -/
  resume : Bool := false
deriving DecidableEq, Repr

/-- One servo engine. -/
structure Servo where
  slots : List (Nat × SlotRun) := []
  /-- Events of RATE 3 not yet executed: OPU owners, spindle owners. -/
  pes : Vector Bool 4 := .replicate 4 false
  spin : Vector Bool 2 := .replicate 2 false
  /-- The last frame's ADC means and derived signals of each OPU: FE, TE, SUM, tilt error, SA error. -/
  adc : Vector AdcInputs 4 := .replicate 4 {}
  derived : Vector (List Int) 4 := .replicate 4 [0, 0, 0, 0, 0]
  /-- A fault has stopped it and its hold of 64 frames runs (R108). -/
  holding : Bool := false
deriving DecidableEq, Repr

/-- One trace buffer beyond its registers (R109 to R112). -/
structure Trace where
  n : Nat := 0
  prev : Int := 0
  region : Nat := 0
  /-- Next index to be written, and kept samples held, at most 16,384. -/
  next : Nat := 0
  kept : Nat := 0
  /-- Kept samples still to be stored after the trigger. -/
  left : Nat := 0
  /-- SW_TRIG has changed from 0 to 1, or the buffer TRIG_BUF has triggered, since the last sample. -/
  fire : Bool := false
  /-- Number of the trigger sample. -/
  trigN : Nat := 0
  firstKept : Bool := false
deriving DecidableEq, Repr

/-! ### Motors (R142 to R165) -/

/-- One motor beyond its registers. Speeds in 1/16 rpm. -/
structure Motor where
  /-- Gates switching. -/
  gates : Bool := false
  /-- Zero-current hold (R148). -/
  zeroCurrent : Bool := false
  /-- Commanded target speed, speed reference, and the remainder of its ramp. -/
  target : Int := 0
  ref : Int := 0
  rampRest : Int := 0
  /-- MOVE target of a shuttle. -/
  moveTo : Int := 0
  /-- A STOP waits for the end of a catch window or resynchronisation (R163). -/
  stopLater : Bool := false
  /-- What CHECK or RUN continues with: the wiring check is part of a start. -/
  starting : Bool := false
  angleRef : Bool := false
  catchCounts : Int := 0
  /-- Encoder counts in the present 2.0 ms window and its periods (R148). -/
  restCounts : Nat := 0
  restPeriods : Nat := 0
  atRest : Bool := true
  /-- Reverse braking is under way (row 7 of R153). -/
  reverse : Bool := false
  /-- The motor was caught turning faster than its target and brakes to it (row 5 of R153). -/
  caught : Bool := false
  /-- Count at the index and whether an index has been seen since BRINGUP (R161). -/
  indexSeen : Bool := false
  indexCount : Int := 0
  /-- Counts and forward counts since the last index pulse and revolution. -/
  sinceIndex : Nat := 0
  revCounts : Int := 0
  /-- PWM periods in a row in which the angles disagree, an open phase shows, and no samples were taken. -/
  disagree : Nat := 0
  openRun : Nat := 0
  starved : Nat := 0
  /-- Sample events in a row within 1/64 of the error scale (R152). -/
  steady : Nat := 0
  /-- Index pulses seen while resynchronising (R156). -/
  resync : Nat := 0
  /-- Step of the wiring check, and encoder movement in steps 2 to 4 of the field: net and absolute (R157). -/
  checkStep : Nat := 0
  /-- PWM periods of the wiring check still to come before its field steps: those of step 1, in which the shunt is sampled with the gates off, and the
  one of step 2; the sum of the samples; and whether step 4 still records the angle of the first index. -/
  checkWait : Nat := 0
  checkSum : Int := 0
  indexDue : Bool := false
  checkMove : Int := 0
  checkAbs : Nat := 0
  /-- The direction is to be confirmed at the first motion (R158), and how often it has been corrected. -/
  confirm : Bool := false
  confirmAt : Option Nat := none
  /-- TRAY_CLOSED when the last MOVE began (R158). -/
  trayAt : Nat := 0
  corrected : Nat := 0
  /-- Currents of the last period: i_hi, i_mid, i_lo and i_d, i_q; the compare values in force. -/
  currents : List Int := [0, 0, 0]
  id : Int := 0
  iq : Int := 0
  compare : List (Nat × Nat) := [(768, 768), (768, 768), (768, 768)]
  /-- The duties of U, V and W in force as compare values before the shift of edges, and the voltage vector they stand for (R144, R145). -/
  duty : Nat × Nat × Nat := (768, 768, 768)
  vector : Int × Int := (0, 0)
  /-- Encoder angle latched at the last counter peak (R146). -/
  peakAngle : Nat := 0
  /-- Currents of the last period in the stationary frame, and the back-EMF that the observer finds (R155). -/
  iab : Int × Int := (0, 0)
  bemf : Nat := 0
  /-- Speed and phase values of the last sample event (R151). -/
  speedErr : Int := 0
  phaseErr : Int := 0
  phaseValid : Bool := false
  /-- Encoder events since the last spoke sample (R151). -/
  spokeAge : Nat := 0
deriving DecidableEq, Repr

/-! ### Step axes (R167 to R183) -/

/-- One queued move. -/
structure Move where
  target : Int
  blend : Bool := false
  pair : Bool := false
  /-- Parking move of −HOME_OVER at V_START (R181). -/
  park : Bool := false
deriving DecidableEq, Repr

/-- The profile planned for a move (R171, R174): distance, start, peak and stop speeds in microsteps/s, acceleration and deceleration in
microsteps/s². -/
structure Profile where
  dist : Nat
  vs : Nat
  vp : Nat
  ve : Nat
  acc : Nat
  dec : Nat
deriving DecidableEq, Repr

/-- One axis beyond its registers. -/
structure Axis where
  /-- Queue, the executing move first. -/
  queue : List Move := []
  profile : Option Profile := none
  /-- Position at which the executing move began, and the CTRL cycles it has run; at rest, the profile's last position. -/
  start : Int := 0
  elapsed : Nat := 0
  /-- A pause holds a HOME (R176, R180). -/
  homing : Bool := false
  /-- Velocity correction of its slot in Q1.31, and the fraction bits of the position accumulator, in 1/2^32 microstep (R169). -/
  corr : Int := 0
  frac : Int := 0
  /-- The last step went in the negative direction; CTRL cycles since it, up to 511; those that a reversal still waits for (R169, R174). -/
  back : Bool := false
  age : Nat := 511
  setup : Nat := 0
  /-- The move is part of a sled seek to this track (R177). -/
  seek : Option Nat := none
  settleAt : Nat := 0
  /-- Landing check: spokes seen, spokes in agreement, track of the last (R178). -/
  seen : Nat := 0
  agree : Nat := 0
  last : Option Nat := none
  /-- The clamp move is being repeated, and whether it releases (R179). -/
  repeated : Option Bool := none
deriving DecidableEq, Repr

/-! ### RF inputs and lanes (R186 to R211) -/

/-- A write to an input that is held (R189). -/
inductive HeldChange where
  | map (v : Nat)
  | sub (v : Nat)
  | trim (j v : Nat)
  | polarity (b : Bool)
  | pga (v : Nat)
deriving DecidableEq, Repr

/-- What an input is bound to at its next spoke (R207, R208): a free lane for a failed one, a free lane on trial for a lane, the old lane of a failed
trial. -/
inductive NextLane where
  | takeover (failed : Nat)
  | trial (old : Nat)
  | back
deriving DecidableEq, Repr

/-- One RF input beyond its registers. -/
structure Input where
  held : List HeldChange := []
  /-- Frames in a row with negative correlation (R194). -/
  negRun : Nat := 0
  /-- Codes counted up to a number, those of them in the present data interval and at −128 or 127, and whether the last interval clipped (R192). -/
  counted : Nat := 0
  seen : Nat := 0
  ends : Nat := 0
  clipping : Bool := false
  /-- Last PGA code used on each layer (R193). -/
  pga : Vector Nat 8 := .replicate 8 0x28
  /-- What the end of its next spoke binds it to, and since when that waits (R207, R208). -/
  next : Option (NextLane × Nat) := none
  /-- Trial in progress: old lane, frames the new lane has had (R208), and when a failed trial ended. -/
  trial : Option (Nat × Nat) := none
  trialEnd : Option Nat := none
deriving DecidableEq, Repr

/-- One read lane beyond its registers. -/
structure Lane where
  /-- Its last frames, newest first: the sector, and whether sync was found or could not count (R206). -/
  frames : List (Nat × Bool) := []
  /-- The data interval that it reads, by where it begins, and the channel bits of it taken (R86). -/
  interval : Option Nat := none
  done : Nat := 0
  /-- Interpolated samples of the last 1,024 channel bits, and inputs of the equaliser, both newest first (R196). -/
  window : List Int := []
  delay : List Int := []
  /-- Outputs, each with the inputs that gave it, and bit angles that no frame has taken yet, newest first, and how many of them lie before the next frame's
  flywheel start (R201, R216). -/
  outs : List (Int × List Int) := []
  angles : List Nat := []
  lead : Int := 0
  /-- Time of the next bit from the end of the last spoke, in 1/2^24 RF cycle (R199). -/
  time : Int := 0
  /-- Data bits measured since the last step of the fine gain, and the sum of their magnitudes (R191). -/
  bits : Nat := 0
  sum : Nat := 0
deriving DecidableEq, Repr

/-- What anchors a segment of a frame (R203). -/
inductive Anchor where
  | sync
  | flywheel
  | resync
deriving DecidableEq, Repr

/-- What a lane passes on of one segment (R203): its anchor, its offset from the frame in channel bits, its SLIPPED flag. -/
structure SegFlag where
  anchor : Anchor
  shift : Int := 0
  slipped : Bool := false
deriving DecidableEq, Repr

/-! ### Detection and decoding (R214 to R237) -/

/-- Members of a detection group (R214). -/
inductive MemberRole where
  | heldOver
  | inner
  | centre
  | outer
deriving DecidableEq, Repr

/-- A captured frame in detection, decoding or on the retry ladder. -/
structure FrameWork where
  opu : Nat
  layer : Nat := 0
  track : Nat
  sector : Nat
  role : MemberRole
  /-- The identity the volume map and band directory give: volume, LSA, BLOCK, CHUNK_SECTOR of a chunk's member; whether it is a parity sector. -/
  vol : Nat := 0
  lsa : Nat := 0
  block : Nat := 0
  member : Option Nat := none
  parity : Bool := false
  /-- Classes of the instructions, read-ahead and scrubs that need it; none when nothing does (R223, R233). -/
  needs : List Nat := []
  /-- Half of the retained-sample area that holds its samples, and the triple of its detection group (R214). -/
  half : Bool := false
  group : Nat := 0
  /-- Global iterations done, alignment hypotheses tried in rung 1, captures made in the rung, and whether samples of the rung's last one are to be decoded
  (R204, R232). -/
  g : Nat := 0
  hyp : Nat := 0
  captures : Nat := 0
  fresh : Bool := false
  /-- Rung of the retry ladder it is on, 0 while in the schedule of R223; rungs 4 to 6 run again at a lower speed. -/
  rung : Nat := 0
  top : Nat := 0
  again : Bool := false
  /-- Attempts made, fewest unsatisfied checks, and the a posteriori LLRs of that attempt (R222, R237). -/
  attempts : Nat := 0
  best : Nat := 4160
  post : List Int := []
  /-- Lane outputs while they are live; those retained replace them (R225). -/
  live : List Int := []
  /-- The detector's LLRs, the decoder's extrinsics and hard decisions of the last global iteration, and the expected levels (R222). -/
  llr : List Int := []
  extrinsic : List Int := []
  hard : List Bool := []
  levels : List Int := []
  /-- LDPC decoder that works on it (R230). -/
  decoder : Option Nat := none
  /-- It waits to become a held-over member (R224); it has decoded with another identity (R235). -/
  waiting : Bool := false
  misdirected : Bool := false
deriving DecidableEq, Repr

/-- A frame that one half of an OPU's area retains (R20, R225, R226): its spot, the angle of each bit in 1/2^24 of a spoke interval, the companded lane
outputs, the flags of R203, and whether its samples may be detected at all (R200, R221). -/
structure Retained where
  opu : Nat
  layer : Nat := 0
  track : Nat
  sector : Nat
  spot : Nat
  half : Bool
  angles : List Nat := []
  codes : List (BitVec 5) := []
  found : Bool := true
  score : Nat := 0
  offset : Int := 0
  segs : List SegFlag := []
  timingLimit : Bool := false
  lost : Bool := false
  /-- The payload that it has decoded to, and when (R215, R217). -/
  decoded : Option (List Byte × Nat) := none
deriving DecidableEq, Repr

/-- The detector of one OPU. -/
structure Detector where
  /-- Triple that is being captured, triple captured last in the read, and the half that the last capture fills. -/
  triple : Option Nat := none
  last : Option Nat := none
  half : Bool := false
  /-- When its capture began, whether it is the first triple captured in a read, and whether it is the second capture of a triple (R217, R229, R230). -/
  began : Nat := 0
  first : Bool := false
  second : Bool := false
  /-- Set-point offset of the spoke correction in nm (rung 6), and the JUMP that has put a failed track under spot C (rung 5) (R232). -/
  margin : Int := 0
  centred : Option Int := none
  /-- Spots (0 I, 1 C, 2 O) whose sector in progress has failed, as the C channel entered SEARCH or focus was lost (R86, R136). -/
  cut : List Nat := []
deriving DecidableEq, Repr

/-! ### Writing (R245 to R264) -/

/-- A position on a disc: track within the side and layer, sector. -/
structure Skipped where
  track : Nat
  fromSector : Nat
  reason : Nat
deriving DecidableEq, Repr

/-- A frame that the T lane passes to the checker (R203, R255): its place, its outputs from its first channel bit, sync, TIMING_LIMIT, samples lost. -/
structure TFrame where
  track : Nat
  sector : Nat
  outputs : List Int
  found : Bool
  timingLimit : Bool
  lost : Bool
deriving DecidableEq, Repr

/-- Power ratios in 1/4,096, mean power and write strategy of a layer, as of the start of the track written last (R250). -/
structure Strategy where
  layer : Nat := 0
  space : Nat := 0
  mark : Nat := 0
  cool : Nat := 0
  mean : Nat := 0
  lead : Nat := 0
  trail : Nat := 0
deriving DecidableEq, Repr

/-- A sector that is written by itself (R252): a relocated copy, a copy of a directory sector or of a passport record. -/
structure SectorJob where
  frame : RawFrame
  layer : Nat
  track : Nat
  sector : Nat
  payload : List Byte
  /-- Global sequence number of a relocated copy (R257). -/
  seq : Nat := 0
  /-- Channel bits that STARTs have been sent for; all 57,000 once it is written, or was cut short. -/
  sent : Nat := 0
deriving DecidableEq, Repr

/-- Training of a laser link (R245, R246). -/
structure Training where
  /-- Whether it is the attempt with CLK_INV; the test under way, 0 the reference; its frames so far, and the front monitor summed over the last of
  them. -/
  second : Bool := false
  test : Nat := 0
  frames : Nat := 0
  sum : Int := 0
  /-- The sum of the reference, and the levels read in the tests so far. -/
  reference : Int := 0
  levels : List Nat := []
  /-- Whether the laser was enabled before it. -/
  wasOn : Bool := false
deriving DecidableEq, Repr

/-- One OPU's write path. -/
structure Writer where
  /-- Track being written, its layer, its sectors, the entry sector, the sectors that have had their verdict, and the channel bits from the entry sector on that
  STARTs have been sent for. -/
  track : Nat := 0
  layer : Nat := 0
  spt : Nat := 0
  entry : Nat := 0
  begun : Nat := 0
  reach : Nat := 0
  active : Bool := false
  /-- The START of the present data interval has been sent (R253). -/
  started : Bool := false
  strategy : Option Strategy := none
  /-- The single sector being written, and the copies of the present directory sector or passport record that have had their verdict (R252, R259). -/
  job : Option SectorJob := none
  copies : Nat := 0
  /-- A stop has left entries that the directory takes before the next track (R67, R262). -/
  dirDue : Bool := false
  training : Option Training := none
  /-- Sum and number of the U of R248 sent with the gate open on the present track (R272). -/
  drive : Nat × Nat := (0, 0)
  /-- Light in 1/2^32 µJ that WRP_ENERGY does not show yet (R265). -/
  energy : Nat := 0
  /-- A stop waits for the next sector boundary; with its reason. -/
  stopAt : Option Nat := none
  /-- Skipped runs whose entries are still to be written (R260). -/
  skipped : List Skipped := []
  /-- Verdicts of the last 64 frames, newest first, true for a failure (R256), and asymmetries of the last 64 passing frames. -/
  verdicts : List Bool := []
  asym : List Int := []
  /-- Frames that have passed and are not yet recorded: track and sector (R67, R255). -/
  passed : List (Nat × Nat) := []
  /-- Sectors to be relocated: track, sector, copies that have failed, payload as first written (R257, R258). -/
  relocate : List (Nat × Nat × Nat × List Byte) := []
  trained : Bool := false
  /-- A calibration of write power has been requested (R256). -/
  calRequest : Bool := false
  /-- The sectors that the last write of a track wrote, and whether the T lane runs (R254). -/
  wrote : Nat := 0
  tLane : Bool := false
  /-- The light of the last intervals written, newest first: when its first symbol begins in 1/2^24 RF cycle, the period of a symbol, their levels (R253,
  R254). -/
  light : List (Int × Nat × List Nat) := []
  /-- Frames that the T lane has passed and the checker has not judged (R255). -/
  tFrames : List TFrame := []
  /-- Payloads of the track's sectors, staged with their outer parity (R251). -/
  payloads : List (List Byte) := []
  /-- The passport record being written: its TIME and SEQ, its payload, and whether its first copy has passed (R70, R339). -/
  record : Option (Nat × Nat × List Byte) := none
  recPassed : Bool := false
  /-- The directory sector being written (R65, R259): its band, its payload, the entries that waited and are in it, and whether it holds the
  range entry. -/
  directory : Option (Nat × List Byte × Nat × Bool) := none
deriving DecidableEq, Repr

/-! ### Calibration (R267 to R278) -/

/-- A calibration run on one element. -/
structure CalRun where
  kind : Nat
  elem : Nat
  /-- Estimates taken, newest first, each with one number per value that the calibration sets. -/
  estimates : List (List Int) := []
  /-- Instruction that it runs for (R416). -/
  inst : Option Nat := none
deriving DecidableEq, Repr

/-- The last run of a calibration on an element since BRINGUP or the mount that its schedule counts from (R271): the µs of its bay's reading and writing
up to it, and its OPU's temperature then. -/
structure CalMark where
  kind : Nat
  elem : Nat
  use : Nat
  celsius : Option Int
deriving DecidableEq, Repr

/-- Calibration, speed adaptation and thermal throttling beyond the CAL registers. -/
structure Cal where
  runs : List CalRun := []
  /-- Runs that CALIBRATE asked for and whose conditions did not hold: (n, element) (R416). -/
  requested : List (Nat × Nat) := []
  /-- Last result and time of each element: (n, element, result, time) (R269). -/
  results : List (Nat × Nat × Nat × Nat) := []
  /-- What the schedule counts from, and µs of each bay's reading and writing (R271): up to the present use, and when that began. -/
  done : List CalMark := []
  use : Vector Nat 4 := .replicate 4 0
  useSince : Vector (Option Nat) 4 := .replicate 4 none
  /-- Consecutive runs in which a sub-ADC failed (R190): (calibration, element), count. -/
  subFails : List ((Nat × Nat) × Nat) := []
  /-- Rung-4 entries of the window and windows within UP, per bay (R274). -/
  entries : Vector Nat 4 := .replicate 4 0
  windows : Vector Nat 4 := .replicate 4 0
  /-- Speed classes chosen by adaptation, per bay. -/
  speed : Vector Nat 4 := .replicate 4 3
  /-- κ coefficients of each OPU and layer: (OPU × 8 + layer, six values) (R218). -/
  kappas : List (Nat × List Int) := []
  /-- OPUs whose next capture takes κ coefficients that have been calibrated since the last, and agreed OFFSETs that the next track takes (R268, R271). -/
  kappaDue : Vector Bool 8 := .replicate 8 false
  timing : Vector (Option Int) 8 := .replicate 8 none
  /-- K_IN before calibration 3 scaled it, of gain sets that it has written: (engine, slot, set), K_IN (R271). -/
  nominal : List ((Nat × Nat × Nat) × Int) := []
  /-- Calibrated MARK ratios: (OPU × 8 + layer, ratio) (R273). -/
  marks : List (Nat × Nat) := []
  /-- U of R248 at its mean over the last track written, per OPU (R272); 0 before the first. -/
  uMean : Vector Nat 8 := .replicate 8 0
deriving DecidableEq, Repr

/-! ### Sequencers (R439 to R453) -/

/-- An entry of a thread's pending set (R443). -/
inductive Pend where
  /-- A store of `size` bytes to context memory, or an atomic add. -/
  | store (addr size : Nat) (value : BitVec 64)
  | add (addr size : Nat) (value : BitVec 64)
  /-- An event to be raised (EV_EN), and the completion to be staged (CPL). -/
  | event (n : Nat)
  | complete (code : Nat) (dw0 : Nat)
  /-- A committed engine command: UNIT, CMD and its operands. -/
  | engine (unit cmd : Nat) (args : List (BitVec 64))
deriving DecidableEq, Repr

/-- What a thread keeps at a restart point (R446): registers, return addresses and ALU flags. -/
structure Frame where
  addr : Nat := 0
  /-- GPR_0 to GPR_31 that do not hold zero: (register, value). -/
  regs : List (Nat × BitVec 64) := []
  stack : List Nat := []
  flags : Nat := 0
deriving DecidableEq, Repr

/-- A request that a thread has made of an engine: its tag slot, UNIT, CMD and operands (R439, R446). -/
structure TagReq where
  slot : Nat
  unit : Nat
  cmd : Nat
  args : List (BitVec 64)
deriving DecidableEq, Repr

/-- A routine in execution or parked (R439 to R447). -/
structure Thread where
  seq : Nat
  thread : Nat
  /-- Instruction it serves; none for an event routine, with its event and its class. -/
  inst : Option Nat := none
  event : Option Nat := none
  cls : Nat := 0
  now : Frame := {}
  /-- Restart point of its phase, microwords since then, watchdogs of the phase. -/
  restart : Frame := {}
  words : Nat := 0
  watchdogs : Nat := 0
  /-- The tag slot that it waits on; requests outstanding by tag slot. -/
  waits : Option Nat := none
  tags : List TagReq := []
  /-- The tagged requests of its phase that the engines have answered: their results are kept until it commits (R446). -/
  kept : List TagReq := []
  /-- Pending set, and read set as (line, stamp) (R443, R444, R459). -/
  pend : List Pend := []
  reads : List (Nat × Nat) := []
  /-- Its save area: (byte offset, value) (R441). -/
  save : List (Nat × BitVec 64) := []
  /-- It is past its first COMMIT (R445). -/
  committed : Bool := false
  /-- Sequencer whose fault restarted its phase, until the phase commits or ends (R544). -/
  recovers : Option Nat := none
deriving DecidableEq, Repr

structure Seqs where
  threads : List Thread := []
  /-- Patch RAM words that do not hold zero, by control-store address (R442). -/
  patch : List (Nat × BitVec 192) := []
  /-- Sequencer of each restart within the last second, and its time (R448). -/
  restarts : List (Nat × Nat) := []
  /-- ROM addresses with an uncorrectable error, and its time (R448). -/
  romErrors : List (Nat × Nat) := []
  /-- Raises of each event since its routine was queued or began (R451): (event, count). -/
  raises : List (Nat × Nat) := []
deriving DecidableEq, Repr

/-! ### Context cache and DRAM (R454 to R483) -/

/-- A line of the context cache. -/
structure CacheLine where
  /-- Line address, PA[36:7]. -/
  line : Nat
  way : Nat
  dirty : Bool := false
deriving DecidableEq, Repr

/-- An entry of a victim buffer (R461). -/
structure Victim where
  line : Nat
  inFlight : Bool := false
deriving DecidableEq, Repr

/-- A request to the cache: its number, line, and whether it writes. -/
structure CacheReq where
  id : Nat
  line : Nat
  write : Bool
deriving DecidableEq, Repr

/-- The outstanding miss of a bank, with the way its line takes and the requests that wait for its fill (R458). -/
structure Miss where
  line : Nat
  way : Nat
  waiting : List CacheReq := []
deriving DecidableEq, Repr

structure Cch where
  lines : List CacheLine := []
  /-- Pseudo-LRU trees that are not zero: (set number over all banks, 15 bits) (R457). -/
  trees : List (Nat × Nat) := []
  misses : List Miss := []
  victims : List Victim := []
  /-- Requests that wait in a bank's queue, oldest first (R458, R461). -/
  queue : List CacheReq := []
  /-- The clean line that is fetched again after an uncorrectable error (R466, R544). -/
  refetch : Option Nat := none
  /-- Range operation in progress: first line, lines, invalidate (R462). -/
  op : Option (Nat × Nat × Bool) := none
  /-- Stamp table entries that are not zero, and the serial number of the last commit (R459). -/
  stamps : List (Nat × Nat) := []
  serial : Nat := 0
deriving DecidableEq, Repr

/-- A line in which a device was found in error and corrected: its rank register, the device's bit, the time (R480). -/
structure CorrectedLine where
  rank : Nat
  device : Nat
  line : Nat
  at_ : Nat
deriving DecidableEq, Repr

structure Dram where
  /-- Context memory: bytes that do not hold zero, addresses rising (R456, R479). -/
  mem : List Host.Cell := []
  /-- MiB at the top of the DRAM reserved at BRINGUP for retained samples (R21). -/
  retained : Nat := 0
  /-- Self-refresh (R478); the devices' temperatures at the last poll and at the last sweep, in °C (R473, R476). -/
  selfRefresh : Bool := false
  temps : List Int := []
  swept : List Int := []
  /-- Corrected lines of the last 24 h (R480). -/
  corrected : List CorrectedLine := []
  /-- Neighbour refresh (R477): the LFSR, the rows to be activated before their bank's next refresh, as rank register, bank and row; activations
  of a bank since its last refresh or RFM command, and the RFM commands issued. -/
  lfsr : BitVec 32 := 0
  neighbours : List (Nat × Nat × Nat) := []
  raa : List (Nat × Nat) := []
  rfms : Nat := 0
  /-- The retained samples of every OPU (R20), and the sectors decoded, rebuilt or poisoned that the decoded-sector buffers hold (R19). -/
  samples : List Retained := []
  sectors : List SectorCopy := []
  /-- Decoders at work over the last millisecond, newest first: since when, how many (R238). -/
  load : List (Nat × Nat) := []
deriving DecidableEq, Repr

/-! ### Bays -/

/-- One bay beyond BAY_b_STAT. -/
structure Bay where
  /-- Disc attached but not mounted: its identity when it has one (R396): DISC_ID, FLAGS, WRITER is this part. -/
  attached : Option (Nat × Bool × Bool) := none
  session : Option Session := none
  readAhead : List ReadAhead := []
  /-- OPU_2b+1 supplies the spindle signals (R88). -/
  spindleFromB : Bool := false
  /-- Last three samples of the sensors, newest first (R573). -/
  samples : List BaySensors := []
  /-- The bay is to end in FAULTED once it has parked (R136, R179). -/
  faulting : Bool := false
  /-- It was FAULTED when ACTIVATE restarted the part, and is so again from BRINGUP on (R46, R48). -/
  wasFaulted : Bool := false
  /-- Why the bay parks: eject afterwards (R398). -/
  eject : Bool := false
  /-- Seeks paused for a read of a higher class: OPU, target track, and STP_k_REMAIN (R262). -/
  paused : List (Nat × Nat × Int) := []
  /-- The MOUNT that is bringing the bay to READY (R395). -/
  mounting : Option Nat := none
  /-- It is to park once its write has stopped (R47, R400). -/
  parkLater : Bool := false
deriving DecidableEq, Repr

end Sys2Proof.Machine
end

