-- ==== Sys2Proof/Machine/State.lean ====
section
/-! DEFINITION. The state of the part: its registers, everything the spec gives it beside them, and the queue of commands
that wait. Faults and refusals. The state right after reset. -/

namespace Sys2Proof.Machine

/-- The machine never stops with a fault: every fault of the hardware is an effect on the state (assumption log 1). -/
inductive Fault where
  /-- Raised by nothing: kept so that the type has a value. Safe. -/
  | none
deriving DecidableEq, Repr

/-- Why the machine gives a command no meaning. -/
inductive Refusal where
  /-- The command's meaning is not modelled. Raised by `exec` alone. Safe. -/
  | notModelled (mnemonic : String)
deriving DecidableEq, Repr

/-- The state of the part. -/
structure State where
  /-- Commands that wait, first in, first out. -/
  pending : List Instr := []
  /-- Every register field that does not hold its reset value: key and value, keys rising (R6, R532). -/
  fields : List (Nat × Nat) := []
  /-- The model's clock in µs (assumption log 2). -/
  now : Nat := 0
  /-- Free values used so far (assumption log 3). -/
  free : Nat := 0
  /-- What has left the part (assumption log 6). -/
  out : List Output := []
  /-- RLH shadows: master code, address of the low word, high word latched (R9). -/
  shadows : List ((Nat × Nat) × Nat) := []
  evq : EventQ := {}
  chip : Chip := {}
  boot : Boot := {}
  nv : NonVol := {}
  otp : Otp := {}
  dbg : Debug := {}
  /-- Next global sequence number, and the end of the last recorded grant (R292). -/
  nextSeq : Nat := 1
  grantEnd : Nat := 1
  /-- The DRAM write cache (R17, R381). -/
  cache : List CacheSector := []
  extents : List Extent := []
  volumes : List Volume := []
  strands : List Strand := []
  deferred : List Deferred := []
  discs : List Disc := []
  requests : List DiscRequest := []
  flash : Flash := {}
  life : Life := {}
  lost : LostReport := {}
  fns : Vector HostFn 4 := .replicate 4 {}
  class0 : Vector Class0 2 := .replicate 2 {}
  insts : List Inst := []
  nextId : Nat := 0
  bays : Vector Bay 4 := .replicate 4 {}
  spokes : Vector Spoke 8 := .replicate 8 {}
  optics : Vector Optic 8 := .replicate 8 {}
  servos : Vector Servo 2 := .replicate 2 {}
  traces : Vector Trace 16 := .replicate 16 {}
  motors : Vector Motor 8 := .replicate 8 {}
  axes : Vector Axis 16 := .replicate 16 {}
  inputs : Vector Input 32 := .replicate 32 {}
  lanes : Vector Lane 36 := .replicate 36 {}
  detectors : Vector Detector 8 := .replicate 8 {}
  frames : List FrameWork := []
  writers : Vector Writer 8 := .replicate 8 {}
  cal : Cal := {}
  seqs : Seqs := {}
  cch : Cch := {}
  dram : Dram := {}
deriving DecidableEq, Repr

/-- The part right after RESET_N is released: every register at its reset value, DEV_MODE_STAT at 0x0000_0112 (mode BOOT,
previous mode RESET, a transition in progress), the boot steps about to begin. -/
def State.reset : State := {}

end Sys2Proof.Machine
end

