-- ==== Sys2Proof/Machine/RegMap.lean ====
section
/-! DEFINITION. The registers of the part, field by field: address, bit position, width and reset value as the register
tables of spec/ give them (R6, R33, R90, R113, R140, R164, R184, R212, R238, R265, R279, R311, R425, R453, R467, R483,
R504, R526, R532, R533, R543, R561). A field's name is REGISTER_FIELD, with the spec's names; an index
is taken modulo the number of places, so that every field lies in its window. Reserved bits have no
field: they read as zero and are ignored in a write (R10). A 64-bit counter is one field at its low word's address. -/

namespace Sys2Proof.Machine

namespace F

/-! ### DEV window (R532) -/

/-- Base address of the registers of DEV window (R532). -/
abbrev devBase : Nat := 0x000000

def DEV_ID_ID : Fld := ⟨devBase + 0x0, 0, 32, 0xB0004180⟩
def DEV_MODE_STAT_MODE : Fld := ⟨devBase + 0x100, 0, 4, 2⟩
def DEV_MODE_STAT_PREV_MODE : Fld := ⟨devBase + 0x100, 4, 4, 1⟩
def DEV_MODE_STAT_TRANSITION : Fld := ⟨devBase + 0x100, 8, 1, 1⟩
def DEV_MODE_STAT_OK_TO_REMOVE : Fld := ⟨devBase + 0x100, 9, 1, 0⟩
def DEV_MODE_STAT_PWR_FAIL : Fld := ⟨devBase + 0x100, 10, 1, 0⟩
def DEV_MODE_STAT_CAUSE : Fld := ⟨devBase + 0x100, 16, 8, 0⟩
def DEV_MODE_REQ_TARGET : Fld := ⟨devBase + 0x104, 0, 4, 0⟩
def DEV_TRACE_PAR_CNT_CNT : Fld := ⟨devBase + 0x110, 0, 32, 0⟩

/-! ### EVT window (R543) -/

/-- Base address of the registers of EVT window (R543). -/
abbrev evtBase : Nat := 0x010000

def EVT_STAT_COUNT : Fld := ⟨evtBase + 0x0, 0, 14, 0⟩
def EVT_SERIAL_SERIAL : Fld := ⟨evtBase + 0x4, 0, 32, 0⟩
def EVT_LOST_CNT_CNT : Fld := ⟨evtBase + 0x8, 0, 32, 0⟩
def EVT_LAST_FAULT_ADDR : Fld := ⟨evtBase + 0xC, 0, 32, 0⟩
def EVT_FN_CTL_VEC0_MIN (f : Nat) : Fld := ⟨evtBase + 0x10 + 0x10 * (f % 4), 0, 3, 2⟩
def EVT_FN_CTL_EACH (f : Nat) : Fld := ⟨evtBase + 0x10 + 0x10 * (f % 4), 3, 1, 0⟩
def EVT_FN_STAT_LEVEL (f : Nat) : Fld := ⟨evtBase + 0x14 + 0x10 * (f % 4), 0, 3, 0⟩
def EVT_FN_STAT_SIGNALLED (f : Nat) : Fld := ⟨evtBase + 0x14 + 0x10 * (f % 4), 4, 3, 0⟩
def EVT_FN_STAT_DEFERRED (f : Nat) : Fld := ⟨evtBase + 0x14 + 0x10 * (f % 4), 8, 1, 0⟩
def EVT_FN_STAT_UNREAD (f : Nat) : Fld := ⟨evtBase + 0x14 + 0x10 * (f % 4), 16, 16, 0⟩
def EVT_FN_CURSOR_CURSOR (f : Nat) : Fld := ⟨evtBase + 0x18 + 0x10 * (f % 4), 0, 32, 0⟩
def EVT_MASK_MASK (j : Nat) : Fld := ⟨evtBase + 0x80 + 0x4 * (j % 16), 0, 32, 0⟩
def EVT_COUNT_CNT (n : Nat) : Fld := ⟨evtBase + 0x100 + 0x4 * (n % 512), 0, 32, 0⟩

/-! ### SEQ window (R453) -/

/-- Base address of the registers of SEQ window (R453). -/
abbrev seqBase : Nat := 0x020000

def SEQ_STAT_RUN : Fld := ⟨seqBase + 0x0, 0, 1, 0⟩
def SEQ_STAT_ROM_ONLY : Fld := ⟨seqBase + 0x0, 1, 1, 0⟩
def SEQ_STAT_FAILED_NUM : Fld := ⟨seqBase + 0x0, 2, 5, 0⟩
def SEQ_FAILED_MASK : Fld := ⟨seqBase + 0x4, 0, 16, 0⟩
def SEQ_BUSY_THREADS : Fld := ⟨seqBase + 0x8, 0, 8, 0⟩
def SEQ_BUSY_PARKED : Fld := ⟨seqBase + 0x8, 16, 16, 0⟩
def SEQ_PATCH_STAT_SOURCE : Fld := ⟨seqBase + 0xC, 0, 2, 0⟩
def SEQ_PATCH_STAT_RESULT : Fld := ⟨seqBase + 0xC, 2, 2, 0⟩
def SEQ_PATCH_STAT_WORDS : Fld := ⟨seqBase + 0xC, 8, 15, 0⟩
def SEQ_PATCH_STAT_OVL_USED : Fld := ⟨seqBase + 0xC, 23, 9, 0⟩
def SEQ_PATCH_VER_VER : Fld := ⟨seqBase + 0x10, 0, 32, 0⟩
def SEQ_CS_ECC_CNT_CNT : Fld := ⟨seqBase + 0x14, 0, 32, 0⟩
def SEQ_RESTART_CNT_CNT : Fld := ⟨seqBase + 0x18, 0, 32, 0⟩
def SEQ_CONFLICT_CNT_CNT : Fld := ⟨seqBase + 0x1C, 0, 32, 0⟩
def SEQ_ABANDON_CNT_CNT : Fld := ⟨seqBase + 0x20, 0, 32, 0⟩
def SEQ_COMMIT_CNT_CNT : Fld := ⟨seqBase + 0x28, 0, 64, 0⟩
def SEQ_EV_QUEUED_NUM : Fld := ⟨seqBase + 0x30, 0, 10, 0⟩
def SEQ_DISPATCH_OP_ENTRY (n : Nat) : Fld := ⟨seqBase + 0x400 + 0x4 * (n % 256), 0, 16, 0⟩
def SEQ_DISPATCH_OP_VALID (n : Nat) : Fld := ⟨seqBase + 0x400 + 0x4 * (n % 256), 16, 1, 0⟩
def SEQ_DISPATCH_OP_ADMIN_ONLY (n : Nat) : Fld := ⟨seqBase + 0x400 + 0x4 * (n % 256), 17, 1, 0⟩
def SEQ_DISPATCH_OP_MODES (n : Nat) : Fld := ⟨seqBase + 0x400 + 0x4 * (n % 256), 18, 12, 0⟩
def SEQ_DISPATCH_OP_BOUND (n : Nat) : Fld := ⟨seqBase + 0x400 + 0x4 * (n % 256), 30, 1, 0⟩
def SEQ_DISPATCH_EV_ENTRY (n : Nat) : Fld := ⟨seqBase + 0x800 + 0x4 * (n % 512), 0, 16, 0⟩
def SEQ_DISPATCH_EV_ENABLED (n : Nat) : Fld := ⟨seqBase + 0x800 + 0x4 * (n % 512), 16, 1, 0⟩
def SEQ_DISPATCH_EV_CLASS (n : Nat) : Fld := ⟨seqBase + 0x800 + 0x4 * (n % 512), 17, 2, 0⟩
def SEQ_OVL_MATCH (n : Nat) : Fld := ⟨seqBase + 0x1000 + 0x4 * (n % 1024), 0, 16, 0⟩
def SEQ_OVL_TARGET (n : Nat) : Fld := ⟨seqBase + 0x1000 + 0x4 * (n % 1024), 16, 16, 0⟩

/-! ### CCH window (R467) -/

/-- Base address of the registers of CCH window (R467). -/
abbrev cchBase : Nat := 0x030000

def CCH_CTL_ENABLE : Fld := ⟨cchBase + 0x0, 0, 1, 0⟩
def CCH_STAT_INIT_DONE : Fld := ⟨cchBase + 0x4, 0, 1, 0⟩
def CCH_STAT_DRAINING : Fld := ⟨cchBase + 0x4, 1, 1, 0⟩
def CCH_STAT_OP_BUSY : Fld := ⟨cchBase + 0x4, 2, 1, 0⟩
def CCH_STAT_CFG_REJECT : Fld := ⟨cchBase + 0x4, 3, 1, 0⟩
def CCH_STAT_OP_REJECT : Fld := ⟨cchBase + 0x4, 4, 1, 0⟩
def CCH_STAT_BYPASS : Fld := ⟨cchBase + 0x4, 5, 1, 0⟩
def CCH_REGION_BASE_BASE : Fld := ⟨cchBase + 0x8, 0, 18, 0⟩
def CCH_REGION_SIZE_SIZE : Fld := ⟨cchBase + 0xC, 0, 18, 0⟩
def CCH_OP_CTL_KIND : Fld := ⟨cchBase + 0x10, 0, 2, 0⟩
def CCH_OP_BASE_LO_LO : Fld := ⟨cchBase + 0x14, 7, 25, 0⟩
def CCH_OP_BASE_HI_HI : Fld := ⟨cchBase + 0x18, 0, 5, 0⟩
def CCH_OP_LINES_LINES : Fld := ⟨cchBase + 0x1C, 0, 32, 1⟩
def CCH_HIT_CNT_CNT : Fld := ⟨cchBase + 0x20, 0, 64, 0⟩
def CCH_MISS_CNT_CNT : Fld := ⟨cchBase + 0x28, 0, 64, 0⟩
def CCH_WB_CNT_CNT : Fld := ⟨cchBase + 0x30, 0, 64, 0⟩
def CCH_REINSTATE_CNT_CNT : Fld := ⟨cchBase + 0x38, 0, 32, 0⟩
def CCH_VICT_WAIT_CNT_CNT : Fld := ⟨cchBase + 0x3C, 0, 32, 0⟩
def CCH_ECC_CNT_CNT : Fld := ⟨cchBase + 0x40, 0, 32, 0⟩
def CCH_DIRTY_LINES_NUM : Fld := ⟨cchBase + 0x44, 0, 18, 0⟩

/-! ### DRM window (R483) -/

/-- Base address of the registers of DRM window (R483). -/
abbrev drmBase : Nat := 0x040000

def DRM_CTL_ENABLE : Fld := ⟨drmBase + 0x0, 0, 1, 0⟩
def DRM_CTL_IDLE_CLOSE : Fld := ⟨drmBase + 0x0, 8, 16, 0x40⟩
def DRM_STAT_CONFIG : Fld := ⟨drmBase + 0x4, 0, 2, 0⟩
def DRM_STAT_CH_UP : Fld := ⟨drmBase + 0x4, 2, 2, 0⟩
def DRM_STAT_TRAIN : Fld := ⟨drmBase + 0x4, 4, 2, 0⟩
def DRM_STAT_CFG_REJECT : Fld := ⟨drmBase + 0x4, 6, 1, 0⟩
def DRM_STAT_ERASURE : Fld := ⟨drmBase + 0x4, 7, 1, 0⟩
def DRM_PNR_RATE : Fld := ⟨drmBase + 0x8, 0, 5, 8⟩
def DRM_REF_STAT_DOUBLE : Fld := ⟨drmBase + 0xC, 0, 1, 0⟩
def DRM_REF_STAT_POSTPONED : Fld := ⟨drmBase + 0xC, 4, 4, 0⟩
def DRM_REF_STAT_TEMP : Fld := ⟨drmBase + 0xC, 16, 8, 0⟩
def DRM_ECC_CNT_CNT : Fld := ⟨drmBase + 0x10, 0, 64, 0⟩
def DRM_UE_CNT_CNT : Fld := ⟨drmBase + 0x18, 0, 32, 0⟩
def DRM_PATROL_CNT_CNT : Fld := ⟨drmBase + 0x1C, 0, 32, 0⟩
def DRM_LAST_ERR_LINE : Fld := ⟨drmBase + 0x20, 0, 64, 0⟩
def DRM_DEV_FAILED_MASK (n : Nat) : Fld := ⟨drmBase + 0x28 + 0x4 * (n % 4), 0, 20, 0⟩
def DRM_DELAY_RD (n : Nat) : Fld := ⟨drmBase + 0x1000 + 0x4 * (n % 1024), 0, 8, 0⟩
def DRM_DELAY_WR (n : Nat) : Fld := ⟨drmBase + 0x1000 + 0x4 * (n % 1024), 8, 8, 0⟩
def DRM_DELAY_VREF (n : Nat) : Fld := ⟨drmBase + 0x1000 + 0x4 * (n % 1024), 16, 8, 0⟩

/-! ### FLZ window (R311, R504) -/

/-- Base address of the registers of FLZ window (R311, R504). -/
abbrev flzBase : Nat := 0x050000

def FLZ_CTL_ENABLE : Fld := ⟨flzBase + 0x0, 0, 1, 0⟩
def FLZ_CTL_LOG_MAX : Fld := ⟨flzBase + 0x0, 1, 10, 512⟩
def FLZ_CTL_SPARE_PCT : Fld := ⟨flzBase + 0x0, 11, 4, 4⟩
def FLZ_CTL_IDLE_GC : Fld := ⟨flzBase + 0x0, 15, 1, 1⟩
def FLZ_CTL_OPEN_MAX : Fld := ⟨flzBase + 0x0, 16, 9, 256⟩
def FLZ_STAT_STATE : Fld := ⟨flzBase + 0x4, 0, 2, 0⟩
def FLZ_STAT_REBUILDING : Fld := ⟨flzBase + 0x4, 2, 1, 0⟩
def FLZ_STAT_CFG_REJECT : Fld := ⟨flzBase + 0x4, 3, 1, 0⟩
def FLZ_STAT_DRAM_GATED : Fld := ⟨flzBase + 0x4, 4, 1, 0⟩
def FLZ_STAT_IDLE_GC_RUN : Fld := ⟨flzBase + 0x4, 5, 1, 0⟩
def FLZ_GEOM_LUNS : Fld := ⟨flzBase + 0x8, 0, 9, 0⟩
def FLZ_GEOM_PPB : Fld := ⟨flzBase + 0x8, 16, 13, 0⟩
def FLZ_GC_THR_HIGH : Fld := ⟨flzBase + 0xC, 0, 16, 256⟩
def FLZ_GC_THR_LOW : Fld := ⟨flzBase + 0xC, 16, 16, 64⟩
def FLZ_GC_CTL_CRIT : Fld := ⟨flzBase + 0x10, 0, 16, 16⟩
def FLZ_GC_CTL_IDLE_MS : Fld := ⟨flzBase + 0x10, 16, 8, 100⟩
def FLZ_WL_CTL_WL_DELTA : Fld := ⟨flzBase + 0x14, 0, 16, 500⟩
def FLZ_FREEZE_DRAM_MAX : Fld := ⟨flzBase + 0x18, 0, 16, 256⟩
def FLZ_FREE_NUM : Fld := ⟨flzBase + 0x20, 0, 20, 0⟩
def FLZ_BLOCKS_NUM : Fld := ⟨flzBase + 0x24, 0, 20, 0⟩
def FLZ_SPARE_NUM : Fld := ⟨flzBase + 0x28, 0, 20, 0⟩
def FLZ_LOG_USED_NUM : Fld := ⟨flzBase + 0x2C, 0, 10, 0⟩
def FLZ_ADMIT_RATE : Fld := ⟨flzBase + 0x30, 0, 16, 0xFFFF⟩
def FLZ_ADMIT_GATED : Fld := ⟨flzBase + 0x30, 16, 1, 0⟩
def FLZ_START_STAT_SOURCE : Fld := ⟨flzBase + 0x34, 0, 2, 0⟩
def FLZ_START_STAT_TIME_MS : Fld := ⟨flzBase + 0x34, 8, 24, 0⟩
def FLZ_REBUILD_LUN : Fld := ⟨flzBase + 0x38, 0, 8, 0⟩
def FLZ_REBUILD_ACTIVE : Fld := ⟨flzBase + 0x38, 8, 1, 0⟩
def FLZ_REBUILD_PROGRESS : Fld := ⟨flzBase + 0x38, 16, 16, 0⟩
def FLZ_CH_STAT_FAILED : Fld := ⟨flzBase + 0x3C, 0, 8, 0⟩
def FLZ_PROG_CNT_CNT : Fld := ⟨flzBase + 0x40, 0, 64, 0⟩
def FLZ_ERASE_CNT_CNT : Fld := ⟨flzBase + 0x48, 0, 64, 0⟩
def FLZ_BAD_CNT_CNT : Fld := ⟨flzBase + 0x50, 0, 32, 0⟩
def FLZ_RECON_CNT_CNT : Fld := ⟨flzBase + 0x54, 0, 32, 0⟩
def FLZ_MERGE_CNT (k : Nat) : Fld := ⟨flzBase + 0x58 + 0x4 * (k % 8), 0, 32, 0⟩
def FLZ_LUN_FAILED_MASK (j : Nat) : Fld := ⟨flzBase + 0x80 + 0x4 * (j % 8), 0, 32, 0⟩
def FLZ_ECC_CTL_T : Fld := ⟨flzBase + 0x100, 0, 10, 128⟩
def FLZ_ECC_CTL_REFRESH : Fld := ⟨flzBase + 0x100, 16, 10, 0⟩
def FLZ_ECC_STAT_T_PREV : Fld := ⟨flzBase + 0x104, 0, 10, 0⟩
def FLZ_ECC_STAT_SYS_T : Fld := ⟨flzBase + 0x104, 16, 10, 0⟩
def FLZ_ECC_CORR_CNT_CNT : Fld := ⟨flzBase + 0x108, 0, 64, 0⟩
def FLZ_ECC_REFRESH_CNT_CNT : Fld := ⟨flzBase + 0x110, 0, 32, 0⟩
def FLZ_ECC_UE_CNT_CNT : Fld := ⟨flzBase + 0x114, 0, 32, 0⟩
def FLZ_ECC_MAX_MAX : Fld := ⟨flzBase + 0x118, 0, 10, 0⟩
def FLZ_ECC_OLD_NUM : Fld := ⟨flzBase + 0x11C, 0, 20, 0⟩
def FLZ_CMP_IN_CNT_CNT : Fld := ⟨flzBase + 0x120, 0, 64, 0⟩
def FLZ_CMP_OUT_CNT_CNT : Fld := ⟨flzBase + 0x128, 0, 64, 0⟩
def FLZ_CMP_RAW_CNT_CNT : Fld := ⟨flzBase + 0x130, 0, 32, 0⟩
def FLZ_CMP_ERR_CNT_CNT : Fld := ⟨flzBase + 0x134, 0, 32, 0⟩

/-! ### HST window of function f (R425, R532) -/

/-- Base address of the registers of HST window of function f (R425, R532). -/
abbrev hstBase (f : Nat) : Nat := 0x060000 + 0x100 * (f % 4)

def HST_FN_ID_DEVICE_ID (f : Nat) : Fld := ⟨hstBase f + 0x0, 0, 16, (0x4180 + f % 2)⟩
def HST_FN_ID_PORT (f : Nat) : Fld := ⟨hstBase f + 0x0, 16, 1, (f % 4 / 2)⟩
def HST_FN_ID_ADMIN (f : Nat) : Fld := ⟨hstBase f + 0x0, 17, 1, (1 - f % 2)⟩
def HST_FN_ID_STEPPING (f : Nat) : Fld := ⟨hstBase f + 0x0, 24, 8, 0xB0⟩
def HST_FN_CTL_ENABLE (f : Nat) : Fld := ⟨hstBase f + 0x4, 0, 1, 0⟩
def HST_FN_STAT_READY (f : Nat) : Fld := ⟨hstBase f + 0x8, 0, 1, 0⟩
def HST_FN_STAT_CFG_REJECT (f : Nat) : Fld := ⟨hstBase f + 0x8, 1, 1, 0⟩
def HST_FN_STAT_FATAL (f : Nat) : Fld := ⟨hstBase f + 0x8, 2, 1, 0⟩
def HST_ATTN_STAT_LEVEL (f : Nat) : Fld := ⟨hstBase f + 0xC, 0, 3, 0⟩
def HST_SQ0_BASE_LO_BASE (f : Nat) : Fld := ⟨hstBase f + 0x10, 12, 20, 0⟩
def HST_SQ0_BASE_HI_BASE (f : Nat) : Fld := ⟨hstBase f + 0x14, 0, 32, 0⟩
def HST_CQ0_BASE_LO_BASE (f : Nat) : Fld := ⟨hstBase f + 0x18, 12, 20, 0⟩
def HST_CQ0_BASE_HI_BASE (f : Nat) : Fld := ⟨hstBase f + 0x1C, 0, 32, 0⟩
def HST_RING0_SIZE_SQ_K (f : Nat) : Fld := ⟨hstBase f + 0x20, 0, 5, 4⟩
def HST_RING0_SIZE_CQ_K (f : Nat) : Fld := ⟨hstBase f + 0x20, 8, 5, 4⟩
def HST_LINK_STAT_SPEED (f : Nat) : Fld := ⟨hstBase f + 0x24, 0, 4, 0⟩
def HST_LINK_STAT_WIDTH (f : Nat) : Fld := ⟨hstBase f + 0x24, 4, 5, 0⟩
def HST_LINK_STAT_PSTATE (f : Nat) : Fld := ⟨hstBase f + 0x24, 9, 2, 0⟩

/-! ### SEC window (R526) -/

/-- Base address of the registers of SEC window (R526). -/
abbrev secBase : Nat := 0x070000

def SEC_BOOT_STAT_STEP : Fld := ⟨secBase + 0x0, 0, 5, 0⟩
def SEC_BOOT_STAT_SLOT : Fld := ⟨secBase + 0x0, 5, 2, 0⟩
def SEC_BOOT_STAT_CAUSE : Fld := ⟨secBase + 0x0, 8, 4, 0⟩
def SEC_BOOT_STAT_JOURNAL_OK : Fld := ⟨secBase + 0x0, 12, 1, 0⟩
def SEC_BOOT_STAT_DEGRADED : Fld := ⟨secBase + 0x0, 13, 1, 0⟩
def SEC_BOOT_STAT_IDENTITY_OK : Fld := ⟨secBase + 0x0, 14, 1, 0⟩
def SEC_BOOT_STAT_START_NUM : Fld := ⟨secBase + 0x0, 16, 16, 0⟩
def SEC_SLOT_STAT_ACTIVE : Fld := ⟨secBase + 0x4, 0, 2, 0⟩
def SEC_SLOT_STAT_STAGED : Fld := ⟨secBase + 0x4, 2, 2, 0⟩
def SEC_SLOT_STAT_REJECTED : Fld := ⟨secBase + 0x4, 4, 2, 0⟩
def SEC_PKG_VER_VER : Fld := ⟨secBase + 0x8, 0, 64, 0⟩
def SEC_OTP_STAT_COUNTER : Fld := ⟨secBase + 0x10, 0, 7, 0⟩
def SEC_OTP_STAT_REVOKED : Fld := ⟨secBase + 0x10, 8, 4, 0⟩
def SEC_OTP_STAT_DBG_KEYS : Fld := ⟨secBase + 0x10, 12, 2, 0⟩
def SEC_OTP_STAT_DEBUG_DISABLED : Fld := ⟨secBase + 0x10, 14, 1, 0⟩
def SEC_DBG_STAT_UNLOCKED : Fld := ⟨secBase + 0x14, 0, 1, 0⟩
def SEC_DBG_STAT_FAILS : Fld := ⟨secBase + 0x14, 1, 2, 0⟩
def SEC_DBG_STAT_LOCKOUT : Fld := ⟨secBase + 0x14, 3, 1, 0⟩
def SEC_DBG_STAT_KEY : Fld := ⟨secBase + 0x14, 4, 1, 0⟩

/-! ### LIF window (R561) -/

/-- Base address of the registers of LIF window (R561). -/
abbrev lifBase : Nat := 0x080000

def LIF_STAT_CAL_VALID : Fld := ⟨lifBase + 0x0, 0, 1, 0⟩
def LIF_STAT_VBAT_LOST : Fld := ⟨lifBase + 0x0, 1, 1, 0⟩
def LIF_STAT_VBAT_LOW : Fld := ⟨lifBase + 0x0, 2, 1, 0⟩
def LIF_STAT_TAMPER : Fld := ⟨lifBase + 0x0, 3, 1, 0⟩
def LIF_STAT_SAVE_FAIL : Fld := ⟨lifBase + 0x0, 4, 1, 0⟩
def LIF_STAT_PF_RECORD : Fld := ⟨lifBase + 0x0, 5, 1, 0⟩
def LIF_POWER_ON_SEC : Fld := ⟨lifBase + 0x8, 0, 64, 0⟩
def LIF_UTC_SEC : Fld := ⟨lifBase + 0x10, 0, 64, 0⟩
def LIF_TAMPER_TIME_SEC : Fld := ⟨lifBase + 0x18, 0, 64, 0⟩
def LIF_SAVE_TIME_SEC : Fld := ⟨lifBase + 0x20, 0, 64, 0⟩
def LIF_UNCLEAN_CNT_CNT : Fld := ⟨lifBase + 0x28, 0, 32, 0⟩
def LIF_PIN_SHORT_BITS (j : Nat) : Fld := ⟨lifBase + 0x40 + 0x4 * (j % 32), 0, 32, 0⟩

/-! ### slot j of servo engine e (R113) -/

/-- Base address of the registers of slot j of servo engine e (R113). -/
abbrev srvslotBase (e : Nat) (j : Nat) : Nat := 0x100000 + 0x10000 * (4 * (e % 2) + j % 64 / 16) + 0x8000 + 0x100 * (j % 16)

def SRV_SLOT_CTL_ENABLE (e : Nat) (j : Nat) : Fld := ⟨srvslotBase e j + 0x0, 0, 1, 0⟩
def SRV_SLOT_CTL_RATE (e : Nat) (j : Nat) : Fld := ⟨srvslotBase e j + 0x0, 1, 2, 0⟩
def SRV_SLOT_CTL_PHASE (e : Nat) (j : Nat) : Fld := ⟨srvslotBase e j + 0x0, 3, 6, 0⟩
def SRV_SLOT_CTL_N_SEC (e : Nat) (j : Nat) : Fld := ⟨srvslotBase e j + 0x0, 9, 4, 0⟩
def SRV_SLOT_CTL_BUMP (e : Nat) (j : Nat) : Fld := ⟨srvslotBase e j + 0x0, 13, 4, 0⟩
def SRV_SLOT_CTL_SW_0 (e : Nat) (j : Nat) : Fld := ⟨srvslotBase e j + 0x0, 17, 1, 0⟩
def SRV_SLOT_CTL_SW_1 (e : Nat) (j : Nat) : Fld := ⟨srvslotBase e j + 0x0, 18, 1, 0⟩
def SRV_SLOT_CTL_FREEZE (e : Nat) (j : Nat) : Fld := ⟨srvslotBase e j + 0x0, 19, 1, 0⟩
def SRV_SLOT_CTL_INTEG (e : Nat) (j : Nat) : Fld := ⟨srvslotBase e j + 0x0, 20, 8, 0⟩
def SRV_SLOT_SRC_IN (e : Nat) (j : Nat) : Fld := ⟨srvslotBase e j + 0x4, 0, 7, 0⟩
def SRV_SLOT_SRC_SP (e : Nat) (j : Nat) : Fld := ⟨srvslotBase e j + 0x4, 7, 7, 0⟩
def SRV_SLOT_SRC_FF (e : Nat) (j : Nat) : Fld := ⟨srvslotBase e j + 0x4, 14, 7, 0⟩
def SRV_SLOT_SRC_OWNER (e : Nat) (j : Nat) : Fld := ⟨srvslotBase e j + 0x4, 21, 4, 0⟩
def SRV_SLOT_DEST_KIND (e : Nat) (j : Nat) : Fld := ⟨srvslotBase e j + 0x8, 0, 3, 0⟩
def SRV_SLOT_DEST_DAC (e : Nat) (j : Nat) : Fld := ⟨srvslotBase e j + 0x8, 3, 2, 0⟩
def SRV_SLOT_SP_SP (e : Nat) (j : Nat) : Fld := ⟨srvslotBase e j + 0xC, 0, 32, 0⟩
def SRV_LIM_HI_LIM (e : Nat) (j : Nat) : Fld := ⟨srvslotBase e j + 0x10, 0, 32, 0x7FFFFFFF⟩
def SRV_LIM_LO_LIM (e : Nat) (j : Nat) : Fld := ⟨srvslotBase e j + 0x14, 0, 32, 0x80000000⟩
def SRV_REGION_SEL_SEL (e : Nat) (j : Nat) : Fld := ⟨srvslotBase e j + 0x18, 0, 30, 0⟩
def SRV_FE_WARN_LIM (e : Nat) (j : Nat) : Fld := ⟨srvslotBase e j + 0x1C, 0, 32, 0x7FFFFFFF⟩
def SRV_FE_LIM_LIM (e : Nat) (j : Nat) : Fld := ⟨srvslotBase e j + 0x20, 0, 32, 0x7FFFFFFF⟩
def SRV_FE_CTL_TIME (e : Nat) (j : Nat) : Fld := ⟨srvslotBase e j + 0x24, 0, 16, 0⟩
def SRV_FE_CTL_ACT (e : Nat) (j : Nat) : Fld := ⟨srvslotBase e j + 0x24, 16, 5, 0⟩
def SRV_SLOT_STAT_CFG_REJECT (e : Nat) (j : Nat) : Fld := ⟨srvslotBase e j + 0x28, 0, 1, 0⟩
def SRV_SLOT_STAT_FE_WARN (e : Nat) (j : Nat) : Fld := ⟨srvslotBase e j + 0x28, 1, 1, 0⟩
def SRV_SLOT_STAT_FE_FAULT (e : Nat) (j : Nat) : Fld := ⟨srvslotBase e j + 0x28, 2, 1, 0⟩
def SRV_SLOT_STAT_CLAMP (e : Nat) (j : Nat) : Fld := ⟨srvslotBase e j + 0x28, 3, 1, 0⟩
def SRV_SLOT_STAT_REGION (e : Nat) (j : Nat) : Fld := ⟨srvslotBase e j + 0x28, 4, 6, 0⟩
def SRV_SLOT_STAT_GSET (e : Nat) (j : Nat) : Fld := ⟨srvslotBase e j + 0x28, 10, 3, 0⟩
def SRV_SLOT_OUT_U (e : Nat) (j : Nat) : Fld := ⟨srvslotBase e j + 0x2C, 0, 32, 0⟩
def SRV_SLOT_ERR_E (e : Nat) (j : Nat) : Fld := ⟨srvslotBase e j + 0x30, 0, 32, 0⟩
def SRV_BUMP_OFS_D (e : Nat) (j : Nat) : Fld := ⟨srvslotBase e j + 0x34, 0, 32, 0⟩
def SRV_SAT_CNT_CNT (e : Nat) (j : Nat) : Fld := ⟨srvslotBase e j + 0x38, 0, 32, 0⟩
def SRV_REGION_TBL_ENTRY (e : Nat) (j : Nat) (i : Nat) : Fld := ⟨srvslotBase e j + 0x40 + 0x4 * (i / 4 % 32), 8 * (i % 4), 5, 0⟩

/-! ### engine e (R113) -/

/-- Base address of the registers of engine e (R113). -/
abbrev srvengBase (e : Nat) : Nat := 0x100000 + 0x40000 * (e % 2)

def SRV_BLK_STAT_ENGINE_FAULT (e : Nat) : Fld := ⟨srvengBase e + 0xC000, 0, 1, 0⟩
def SRV_BLK_STAT_CAUSE (e : Nat) : Fld := ⟨srvengBase e + 0xC000, 1, 2, 0⟩
def SRV_FRAME_CNT_CNT (e : Nat) : Fld := ⟨srvengBase e + 0xC008, 0, 64, 0⟩
def SRV_LOAD_LOAD (e : Nat) : Fld := ⟨srvengBase e + 0xC010, 0, 11, 0⟩
def SRV_ECC_CNT_CNT (e : Nat) : Fld := ⟨srvengBase e + 0xC014, 0, 32, 0⟩

/-! ### trace buffer k of engine e (R113) -/

/-- Base address of the registers of trace buffer k of engine e (R113). -/
abbrev srvtrcBase (e : Nat) (k : Nat) : Nat := 0x100000 + 0x40000 * (e % 2) + 0xC100 + 0x20 * (k % 8)

def SRV_TRC_CTL_ARM (e : Nat) (k : Nat) : Fld := ⟨srvtrcBase e k + 0x0, 0, 1, 0⟩
def SRV_TRC_CTL_SW_TRIG (e : Nat) (k : Nat) : Fld := ⟨srvtrcBase e k + 0x0, 1, 1, 0⟩
def SRV_TRC_CTL_SLOT (e : Nat) (k : Nat) : Fld := ⟨srvtrcBase e k + 0x0, 2, 6, 0⟩
def SRV_TRC_CTL_TAP (e : Nat) (k : Nat) : Fld := ⟨srvtrcBase e k + 0x0, 8, 4, 0⟩
def SRV_TRC_CTL_TRIG (e : Nat) (k : Nat) : Fld := ⟨srvtrcBase e k + 0x0, 12, 4, 0⟩
def SRV_TRC_CTL_TRIG_BUF (e : Nat) (k : Nat) : Fld := ⟨srvtrcBase e k + 0x0, 16, 3, 0⟩
def SRV_TRC_CTL_DEC (e : Nat) (k : Nat) : Fld := ⟨srvtrcBase e k + 0x0, 20, 10, 1⟩
def SRV_TRC_LEVEL_LEVEL (e : Nat) (k : Nat) : Fld := ⟨srvtrcBase e k + 0x4, 0, 32, 0⟩
def SRV_TRC_STAT_STATE (e : Nat) (k : Nat) : Fld := ⟨srvtrcBase e k + 0x8, 0, 2, 0⟩
def SRV_TRC_STAT_TRIG_OFFSET (e : Nat) (k : Nat) : Fld := ⟨srvtrcBase e k + 0x8, 2, 10, 0⟩
def SRV_TRC_STAT_START (e : Nat) (k : Nat) : Fld := ⟨srvtrcBase e k + 0x8, 12, 14, 0⟩
def SRV_TRC_PRE_PRE (e : Nat) (k : Nat) : Fld := ⟨srvtrcBase e k + 0xC, 0, 14, 0⟩
def SRV_TRC_PRE_PRE_VALID (e : Nat) (k : Nat) : Fld := ⟨srvtrcBase e k + 0xC, 16, 14, 0⟩
def SRV_TRC_TRIG_FRAME_FRAME (e : Nat) (k : Nat) : Fld := ⟨srvtrcBase e k + 0x10, 0, 64, 0⟩

/-! ### motor k (R164) -/

/-- Base address of the registers of motor k (R164). -/
abbrev motBase (k : Nat) : Nat := 0x180000 + 0x100 * (k % 8)

def MOT_CTL_ENABLE (k : Nat) : Fld := ⟨motBase k + 0x0, 0, 1, 0⟩
def MOT_CTL_POLE_PAIRS (k : Nat) : Fld := ⟨motBase k + 0x0, 1, 4, 4⟩
def MOT_CTL_DEAD (k : Nat) : Fld := ⟨motBase k + 0x0, 8, 8, 0x2D⟩
def MOT_CTL_SETTLE (k : Nat) : Fld := ⟨motBase k + 0x0, 16, 8, 0x96⟩
def MOT_CTL_VMAX (k : Nat) : Fld := ⟨motBase k + 0x0, 24, 8, 0xE6⟩
def MOT_CMD_CMD (k : Nat) : Fld := ⟨motBase k + 0x4, 0, 4, 0⟩
def MOT_CMD_CLASS (k : Nat) : Fld := ⟨motBase k + 0x4, 4, 2, 0⟩
def MOT_CMD_TARGET (k : Nat) : Fld := ⟨motBase k + 0x4, 8, 24, 0⟩
def MOT_STAT_STATE (k : Nat) : Fld := ⟨motBase k + 0x8, 0, 4, 0⟩
def MOT_STAT_RESULT (k : Nat) : Fld := ⟨motBase k + 0x8, 4, 3, 0⟩
def MOT_STAT_SHORT (k : Nat) : Fld := ⟨motBase k + 0x8, 7, 1, 0⟩
def MOT_STAT_OPEN (k : Nat) : Fld := ⟨motBase k + 0x8, 8, 1, 0⟩
def MOT_STAT_ENC_FAULT (k : Nat) : Fld := ⟨motBase k + 0x8, 9, 1, 0⟩
def MOT_STAT_NO_INDEX (k : Nat) : Fld := ⟨motBase k + 0x8, 10, 1, 0⟩
def MOT_STAT_REVERSE_NOT_STOPPED (k : Nat) : Fld := ⟨motBase k + 0x8, 11, 1, 0⟩
def MOT_STAT_SYNC_LOST (k : Nat) : Fld := ⟨motBase k + 0x8, 12, 1, 0⟩
def MOT_STAT_CFG_REJECT (k : Nat) : Fld := ⟨motBase k + 0x8, 13, 1, 0⟩
def MOT_STAT_REVERSE (k : Nat) : Fld := ⟨motBase k + 0x8, 14, 1, 0⟩
def MOT_STAT_LOW_SPEED (k : Nat) : Fld := ⟨motBase k + 0x8, 15, 1, 0⟩
def MOT_STAT_BRAKING (k : Nat) : Fld := ⟨motBase k + 0x8, 16, 1, 0⟩
def MOT_STAT_SKIP_RUN (k : Nat) : Fld := ⟨motBase k + 0x8, 17, 4, 0⟩
def MOT_CUR_I_RATED (k : Nat) : Fld := ⟨motBase k + 0xC, 0, 16, 0x4000⟩
def MOT_CUR_BRAKE (k : Nat) : Fld := ⟨motBase k + 0xC, 16, 8, 0x1E⟩
def MOT_CUR_SOFT (k : Nat) : Fld := ⟨motBase k + 0xC, 24, 8, 0x0A⟩
def MOT_LIM_I_TRIP (k : Nat) : Fld := ⟨motBase k + 0x10, 0, 16, 0xC000⟩
def MOT_LIM_LOW_SPEED (k : Nat) : Fld := ⟨motBase k + 0x10, 16, 16, 0x012C⟩
def MOT_OBS_ANGLE_LIM (k : Nat) : Fld := ⟨motBase k + 0x14, 0, 12, 0x155⟩
def MOT_OBS_TIME (k : Nat) : Fld := ⟨motBase k + 0x14, 12, 12, 0x040⟩
def MOT_OBS_BEMF_MIN (k : Nat) : Fld := ⟨motBase k + 0x14, 24, 8, 0x04⟩
def MOT_RAMP_ACCEL (k : Nat) : Fld := ⟨motBase k + 0x18, 0, 16, 0x07D0⟩
def MOT_RAMP_DECEL (k : Nat) : Fld := ⟨motBase k + 0x18, 16, 16, 0x07D0⟩
def MOT_WIRING_ENC_INV (k : Nat) : Fld := ⟨motBase k + 0x1C, 0, 1, 0⟩
def MOT_WIRING_PH_SWAP (k : Nat) : Fld := ⟨motBase k + 0x1C, 1, 1, 0⟩
def MOT_WIRING_SHUNT_INV (k : Nat) : Fld := ⟨motBase k + 0x1C, 2, 1, 0⟩
def MOT_WIRING_CHECKED (k : Nat) : Fld := ⟨motBase k + 0x1C, 3, 1, 0⟩
def MOT_WIRING_OFS_VALID (k : Nat) : Fld := ⟨motBase k + 0x1C, 4, 1, 0⟩
def MOT_WIRING_INDEX_OFS (k : Nat) : Fld := ⟨motBase k + 0x1C, 5, 16, 0⟩
def MOT_SPEED_RPM (k : Nat) : Fld := ⟨motBase k + 0x20, 0, 32, 0⟩
def MOT_OBS_SPEED_RPM (k : Nat) : Fld := ⟨motBase k + 0x24, 0, 32, 0⟩
def MOT_ANGLE_ENC (k : Nat) : Fld := ⟨motBase k + 0x28, 0, 16, 0⟩
def MOT_ANGLE_OBS (k : Nat) : Fld := ⟨motBase k + 0x28, 16, 16, 0⟩
def MOT_POS_POS (k : Nat) : Fld := ⟨motBase k + 0x2C, 0, 32, 0⟩
def MOT_SHUNT_OFS_OFS (k : Nat) : Fld := ⟨motBase k + 0x30, 0, 14, 0⟩
def MOT_MODEL_RES (k : Nat) : Fld := ⟨motBase k + 0x34, 0, 16, 0⟩
def MOT_MODEL_IND (k : Nat) : Fld := ⟨motBase k + 0x34, 16, 16, 0⟩
def MOT_REV_CNT_CNT (k : Nat) : Fld := ⟨motBase k + 0x38, 0, 64, 0⟩

/-! ### axis k (R184) -/

/-- Base address of the registers of axis k (R184). -/
abbrev stpBase (k : Nat) : Nat := 0x190000 + 0x100 * (k % 16)

def STP_CTL_ENABLE (k : Nat) : Fld := ⟨stpBase k + 0x0, 0, 1, 0⟩
def STP_CTL_DIR_INV (k : Nat) : Fld := ⟨stpBase k + 0x0, 1, 1, 0⟩
def STP_CTL_FAULT_POL (k : Nat) : Fld := ⟨stpBase k + 0x0, 2, 1, 0⟩
def STP_CTL_PULSE_W (k : Nat) : Fld := ⟨stpBase k + 0x0, 8, 8, 0x96⟩
def STP_CTL_DIR_SETUP (k : Nat) : Fld := ⟨stpBase k + 0x0, 16, 8, 0x96⟩
def STP_CMD_CMD (k : Nat) : Fld := ⟨stpBase k + 0x4, 0, 3, 0⟩
def STP_CMD_BLEND (k : Nat) : Fld := ⟨stpBase k + 0x4, 3, 1, 0⟩
def STP_STAT_STATE (k : Nat) : Fld := ⟨stpBase k + 0x8, 0, 3, 0⟩
def STP_STAT_RESULT (k : Nat) : Fld := ⟨stpBase k + 0x8, 3, 3, 0⟩
def STP_STAT_QUEUE (k : Nat) : Fld := ⟨stpBase k + 0x8, 6, 4, 0⟩
def STP_STAT_HOMED (k : Nat) : Fld := ⟨stpBase k + 0x8, 10, 1, 0⟩
def STP_STAT_DRV_FAULT (k : Nat) : Fld := ⟨stpBase k + 0x8, 11, 1, 0⟩
def STP_STAT_SLIP (k : Nat) : Fld := ⟨stpBase k + 0x8, 12, 1, 0⟩
def STP_STAT_LIMIT (k : Nat) : Fld := ⟨stpBase k + 0x8, 13, 1, 0⟩
def STP_STAT_CFG_REJECT (k : Nat) : Fld := ⟨stpBase k + 0x8, 14, 1, 0⟩
def STP_TARGET_POS (k : Nat) : Fld := ⟨stpBase k + 0xC, 0, 32, 0⟩
def STP_VSS_V_START (k : Nat) : Fld := ⟨stpBase k + 0x10, 0, 16, 0x0FA0⟩
def STP_VSS_V_STOP (k : Nat) : Fld := ⟨stpBase k + 0x10, 16, 16, 0x0FA0⟩
def STP_VMAX_V_M (k : Nat) : Fld := ⟨stpBase k + 0x14, 0, 19, 0x61A80⟩
def STP_ACC_A_ACC (k : Nat) : Fld := ⟨stpBase k + 0x18, 0, 16, 0x7D00⟩
def STP_ACC_A_DEC (k : Nat) : Fld := ⟨stpBase k + 0x18, 16, 16, 0x7D00⟩
def STP_LIM_LO_LIM (k : Nat) : Fld := ⟨stpBase k + 0x1C, 0, 32, 0⟩
def STP_LIM_HI_LIM (k : Nat) : Fld := ⟨stpBase k + 0x20, 0, 32, 0x9600⟩
def STP_HOME_HOME_V (k : Nat) : Fld := ⟨stpBase k + 0x24, 0, 16, 0x9C40⟩
def STP_HOME_HOME_OVER (k : Nat) : Fld := ⟨stpBase k + 0x24, 16, 16, 0x0215⟩
def STP_HOME_OFS_OFS (k : Nat) : Fld := ⟨stpBase k + 0x28, 0, 16, 0x0400⟩
def STP_SETTLE_TIME (k : Nat) : Fld := ⟨stpBase k + 0x2C, 0, 16, 0x0190⟩
def STP_SETTLE_SLIP_TOL (k : Nat) : Fld := ⟨stpBase k + 0x2C, 16, 8, 0x10⟩
def STP_SETTLE_LAND_SPOKES (k : Nat) : Fld := ⟨stpBase k + 0x2C, 24, 4, 8⟩
def STP_POS_POS (k : Nat) : Fld := ⟨stpBase k + 0x30, 0, 32, 0⟩
def STP_REMAIN_DIST (k : Nat) : Fld := ⟨stpBase k + 0x34, 0, 32, 0⟩
def STP_LAST_SLIP_SLIP (k : Nat) : Fld := ⟨stpBase k + 0x38, 0, 32, 0⟩
def STP_SLIP_CNT_CNT (k : Nat) : Fld := ⟨stpBase k + 0x3C, 0, 32, 0⟩
def STP_STEP_CNT_CNT (k : Nat) : Fld := ⟨stpBase k + 0x40, 0, 64, 0⟩

/-! ### RF input i = 4k + s (R212) -/

/-- Base address of the registers of RF input i = 4k + s (R212). -/
abbrev rchinBase (i : Nat) : Nat := 0x200000 + 0x10000 * (i % 32 / 4) + 0x100 * (i % 4)

def RCH_IN_CTL_ENABLE (i : Nat) : Fld := ⟨rchinBase i + 0x0, 0, 1, 0⟩
def RCH_IN_CTL_AGC_HOLD (i : Nat) : Fld := ⟨rchinBase i + 0x0, 1, 1, 0⟩
def RCH_IN_CTL_POL_INV (i : Nat) : Fld := ⟨rchinBase i + 0x0, 2, 1, 0⟩
def RCH_IN_CTL_AGC_TARGET (i : Nat) : Fld := ⟨rchinBase i + 0x0, 4, 8, 0x60⟩
def RCH_IN_CTL_AGC_RATE (i : Nat) : Fld := ⟨rchinBase i + 0x0, 12, 4, 6⟩
def RCH_IN_GAIN_PGA (i : Nat) : Fld := ⟨rchinBase i + 0x4, 0, 7, 0x28⟩
def RCH_IN_GAIN_FINE (i : Nat) : Fld := ⟨rchinBase i + 0x4, 16, 14, 0⟩
def RCH_IN_MAP_MAP (i : Nat) : Fld := ⟨rchinBase i + 0x8, 0, 32, 0x76543210⟩
def RCH_IN_SUB_FAILED (i : Nat) : Fld := ⟨rchinBase i + 0xC, 0, 10, 0⟩
def RCH_IN_SUB_SHADOW_A (i : Nat) : Fld := ⟨rchinBase i + 0xC, 16, 3, 0⟩
def RCH_IN_SUB_SHADOW_B (i : Nat) : Fld := ⟨rchinBase i + 0xC, 20, 3, 4⟩
def RCH_IN_STAT_INVERTED (i : Nat) : Fld := ⟨rchinBase i + 0x10, 0, 1, 0⟩
def RCH_IN_STAT_NO_SIGNAL (i : Nat) : Fld := ⟨rchinBase i + 0x10, 1, 1, 0⟩
def RCH_IN_STAT_CLIP (i : Nat) : Fld := ⟨rchinBase i + 0x10, 2, 1, 0⟩
def RCH_IN_STAT_SUB_DEGRADED (i : Nat) : Fld := ⟨rchinBase i + 0x10, 3, 1, 0⟩
def RCH_IN_STAT_CFG_REJECT (i : Nat) : Fld := ⟨rchinBase i + 0x10, 4, 1, 0⟩
def RCH_IN_STAT_BOUND (i : Nat) : Fld := ⟨rchinBase i + 0x10, 5, 1, 0⟩
def RCH_IN_STAT_LANE (i : Nat) : Fld := ⟨rchinBase i + 0x10, 8, 6, 0⟩
def RCH_IN_TRIM_OFFSET (i : Nat) (j : Nat) : Fld := ⟨rchinBase i + 0x40 + 0x4 * (j % 16), 0, 8, 0⟩
def RCH_IN_TRIM_GAIN (i : Nat) (j : Nat) : Fld := ⟨rchinBase i + 0x40 + 0x4 * (j % 16), 8, 12, 0⟩
def RCH_IN_TRIM_SKEW (i : Nat) (j : Nat) : Fld := ⟨rchinBase i + 0x40 + 0x4 * (j % 16), 20, 12, 0⟩

/-! ### RCH window of OPU_k (R90, R212, R238) -/

/-- Base address of the registers of RCH window of OPU_k (R90, R212, R238). -/
abbrev rchBase (k : Nat) : Nat := 0x200000 + 0x10000 * (k % 8)

def RCH_SPK_CTL_SYNC_MIN (k : Nat) : Fld := ⟨rchBase k + 0x800, 0, 4, 0xB⟩
def RCH_SPK_CTL_WIN (k : Nat) : Fld := ⟨rchBase k + 0x800, 4, 4, 4⟩
def RCH_SPK_CTL_CONFIRM (k : Nat) : Fld := ⟨rchBase k + 0x800, 8, 4, 4⟩
def RCH_SPK_CTL_COAST_MAX (k : Nat) : Fld := ⟨rchBase k + 0x800, 12, 4, 8⟩
def RCH_SPK_CTL_TRK_WIN (k : Nat) : Fld := ⟨rchBase k + 0x800, 16, 8, 0x40⟩
def RCH_SPK_WR_OFFTRACK (k : Nat) : Fld := ⟨rchBase k + 0x804, 0, 8, 0x1A⟩
def RCH_SPK_WR_SLIP (k : Nat) : Fld := ⟨rchBase k + 0x804, 8, 4, 2⟩
def RCH_SPK_WR_MISS_MAX (k : Nat) : Fld := ⟨rchBase k + 0x804, 12, 4, 0⟩
def RCH_SPK_STAT_STATE (k : Nat) : Fld := ⟨rchBase k + 0x808, 0, 2, 0⟩
def RCH_SPK_STAT_MISS_RUN (k : Nat) : Fld := ⟨rchBase k + 0x808, 4, 4, 0⟩
def RCH_SPK_STAT_WR_GATE_OK (k : Nat) : Fld := ⟨rchBase k + 0x808, 8, 1, 0⟩
def RCH_SPK_STAT_SIDE_MISMATCH (k : Nat) : Fld := ⟨rchBase k + 0x808, 9, 1, 0⟩
def RCH_SPK_STAT_LAYER_MISMATCH (k : Nat) : Fld := ⟨rchBase k + 0x808, 10, 1, 0⟩
def RCH_SPK_STAT_LAST_INDEX (k : Nat) : Fld := ⟨rchBase k + 0x808, 16, 10, 0⟩
def RCH_SPK_POS_TRACK (k : Nat) : Fld := ⟨rchBase k + 0x80C, 0, 18, 0⟩
def RCH_SPK_POS_FLYWHEEL (k : Nat) : Fld := ⟨rchBase k + 0x80C, 18, 1, 0⟩
def RCH_SPK_POS_SIDE (k : Nat) : Fld := ⟨rchBase k + 0x80C, 19, 1, 0⟩
def RCH_SPK_POS_LAYER (k : Nat) : Fld := ⟨rchBase k + 0x80C, 20, 3, 0⟩
def RCH_SPK_POS_ZONE (k : Nat) : Fld := ⟨rchBase k + 0x80C, 23, 5, 0⟩
def RCH_SPK_PES_PES (k : Nat) : Fld := ⟨rchBase k + 0x810, 0, 32, 0⟩
def RCH_SPK_PERIOD_PERIOD (k : Nat) : Fld := ⟨rchBase k + 0x814, 0, 32, 0⟩
def RCH_SPK_ACC_CNT_CNT (k : Nat) : Fld := ⟨rchBase k + 0x818, 0, 64, 0⟩
def RCH_SPK_POS_CNT_CNT (k : Nat) : Fld := ⟨rchBase k + 0x820, 0, 64, 0⟩
def RCH_SPK_MISS_CNT_CNT (k : Nat) : Fld := ⟨rchBase k + 0x828, 0, 64, 0⟩
def RCH_SYNC_CTL_SYNC_WIN (k : Nat) : Fld := ⟨rchBase k + 0x900, 0, 5, 16⟩
def RCH_SYNC_CTL_SYNC_MIN (k : Nat) : Fld := ⟨rchBase k + 0x900, 5, 6, 40⟩
def RCH_SYNC_CTL_RSYNC_WIN (k : Nat) : Fld := ⟨rchBase k + 0x900, 11, 3, 4⟩
def RCH_SYNC_CTL_RSYNC_MIN (k : Nat) : Fld := ⟨rchBase k + 0x900, 14, 5, 20⟩
def RCH_SYNC_CTL_HYP_MAX (k : Nat) : Fld := ⟨rchBase k + 0x900, 19, 3, 4⟩
def RCH_SYNC_MISS_CNT_CNT (k : Nat) : Fld := ⟨rchBase k + 0x908, 0, 64, 0⟩
def RCH_RSYNC_SLIP_CNT_CNT (k : Nat) : Fld := ⟨rchBase k + 0x910, 0, 64, 0⟩
def RCH_ALIGN_CNT_CNT (k : Nat) : Fld := ⟨rchBase k + 0x918, 0, 64, 0⟩
def RCH_JD_CTL_FLY_SHIFT (k : Nat) : Fld := ⟨rchBase k + 0xA00, 0, 3, 1⟩
def RCH_JD_CTL_SLIP_ERASE (k : Nat) : Fld := ⟨rchBase k + 0xA00, 3, 1, 1⟩
def RCH_JD_STAT_MODE (k : Nat) : Fld := ⟨rchBase k + 0xA04, 0, 2, 0⟩
def RCH_JD_STAT_UNBOUND (k : Nat) : Fld := ⟨rchBase k + 0xA04, 2, 3, 0⟩
def RCH_JD_KAPPA_I_INNER (k : Nat) : Fld := ⟨rchBase k + 0xA10, 0, 16, 0⟩
def RCH_JD_KAPPA_I_OUTER (k : Nat) : Fld := ⟨rchBase k + 0xA10, 16, 16, 0⟩
def RCH_JD_KAPPA_C_INNER (k : Nat) : Fld := ⟨rchBase k + 0xA14, 0, 16, 0⟩
def RCH_JD_KAPPA_C_OUTER (k : Nat) : Fld := ⟨rchBase k + 0xA14, 16, 16, 0⟩
def RCH_JD_KAPPA_O_INNER (k : Nat) : Fld := ⟨rchBase k + 0xA18, 0, 16, 0⟩
def RCH_JD_KAPPA_O_OUTER (k : Nat) : Fld := ⟨rchBase k + 0xA18, 16, 16, 0⟩
def RCH_JD_PROV_FAIL_CNT_CNT (k : Nat) : Fld := ⟨rchBase k + 0xA20, 0, 64, 0⟩
def RCH_JD_REDEC_OK_CNT_CNT (k : Nat) : Fld := ⟨rchBase k + 0xA28, 0, 64, 0⟩
def RCH_JD_STALL_CNT_CNT (k : Nat) : Fld := ⟨rchBase k + 0xA30, 0, 32, 0⟩

/-! ### lane n (R212) -/

/-- Base address of the registers of lane n (R212). -/
abbrev laneBase (n : Nat) : Nat := 0x290000 + 0x40 * (n % 36)

def RCH_LANE_BIND_ENABLE (n : Nat) : Fld := ⟨laneBase n + 0x0, 0, 1, 0⟩
def RCH_LANE_BIND_INPUT (n : Nat) : Fld := ⟨laneBase n + 0x0, 1, 5, (if n < 32 then n else 0)⟩
def RCH_LANE_STAT_STATE (n : Nat) : Fld := ⟨laneBase n + 0x4, 0, 2, 0⟩
def RCH_LANE_STAT_FAILED (n : Nat) : Fld := ⟨laneBase n + 0x4, 2, 1, 0⟩
def RCH_LANE_STAT_CAUSE (n : Nat) : Fld := ⟨laneBase n + 0x4, 3, 2, 0⟩
def RCH_LANE_STAT_TRIAL (n : Nat) : Fld := ⟨laneBase n + 0x4, 5, 1, 0⟩
def RCH_LANE_STAT_TIMING_LIMIT (n : Nat) : Fld := ⟨laneBase n + 0x4, 6, 1, 0⟩
def RCH_LANE_STAT_CFG_REJECT (n : Nat) : Fld := ⟨laneBase n + 0x4, 7, 1, 0⟩
def RCH_LANE_STAT_LAST_SCORE (n : Nat) : Fld := ⟨laneBase n + 0x4, 8, 6, 0⟩
def RCH_LANE_EQ_GAMMA (n : Nat) : Fld := ⟨laneBase n + 0x8, 0, 7, 0x40⟩
def RCH_LANE_EQ_MU (n : Nat) : Fld := ⟨laneBase n + 0x8, 8, 4, 4⟩
def RCH_LANE_EQ_ADAPT_HOLD (n : Nat) : Fld := ⟨laneBase n + 0x8, 12, 1, 0⟩
def RCH_LANE_TIMING_KP_ACQ (n : Nat) : Fld := ⟨laneBase n + 0xC, 0, 4, 3⟩
def RCH_LANE_TIMING_KP_TRK (n : Nat) : Fld := ⟨laneBase n + 0xC, 4, 4, 6⟩
def RCH_LANE_TIMING_KI (n : Nat) : Fld := ⟨laneBase n + 0xC, 8, 4, 0xC⟩
def RCH_LANE_FREQ_FREQ (n : Nat) : Fld := ⟨laneBase n + 0x10, 0, 32, 0⟩
def RCH_LANE_TAPS_EVEN (n : Nat) (i : Nat) : Fld := ⟨laneBase n + 0x20 + 0x4 * (i % 8), 0, 16, 0⟩
def RCH_LANE_TAPS_ODD (n : Nat) (i : Nat) : Fld := ⟨laneBase n + 0x20 + 0x4 * (i % 8), 16, 16, 0⟩

/-! ### lane pool (R212) -/

/-- Base address of the registers of lane pool (R212). -/
abbrev poolBase : Nat := 0x291000

def RCH_POOL_FREE_0_MASK : Fld := ⟨poolBase + 0x0, 0, 32, 0xFFFFFFFF⟩
def RCH_POOL_FREE_1_MASK : Fld := ⟨poolBase + 0x4, 0, 4, 0xF⟩
def RCH_POOL_FAILED_0_MASK : Fld := ⟨poolBase + 0x8, 0, 32, 0⟩
def RCH_POOL_FAILED_1_MASK : Fld := ⟨poolBase + 0xC, 0, 4, 0⟩
def RCH_TAKEOVER_CNT_CNT : Fld := ⟨poolBase + 0x10, 0, 32, 0⟩

/-! ### LDP window (R238) -/

/-- Base address of the registers of LDP window (R238). -/
abbrev ldpBase : Nat := 0x280000

def LDP_CTL_ENABLE : Fld := ⟨ldpBase + 0x0, 0, 1, 0⟩
def LDP_CTL_GLOBAL_MAX : Fld := ⟨ldpBase + 0x0, 1, 2, 3⟩
def LDP_CTL_LOCAL_1 : Fld := ⟨ldpBase + 0x0, 3, 5, 12⟩
def LDP_CTL_LOCAL_2 : Fld := ⟨ldpBase + 0x0, 8, 5, 8⟩
def LDP_CTL_LOCAL_3 : Fld := ⟨ldpBase + 0x0, 13, 5, 8⟩
def LDP_CTL_DEEP_LOCAL : Fld := ⟨ldpBase + 0x0, 18, 5, 24⟩
def LDP_CTL_DEEP_GLOBAL : Fld := ⟨ldpBase + 0x0, 23, 2, 2⟩
def LDP_LADDER_MAX_0 : Fld := ⟨ldpBase + 0x4, 0, 4, 6⟩
def LDP_LADDER_MAX_1 : Fld := ⟨ldpBase + 0x4, 4, 4, 6⟩
def LDP_LADDER_MAX_2 : Fld := ⟨ldpBase + 0x4, 8, 4, 7⟩
def LDP_LADDER_MAX_3 : Fld := ⟨ldpBase + 0x4, 12, 4, 7⟩
def LDP_LADDER_MARGIN_REVS : Fld := ⟨ldpBase + 0x4, 16, 4, 4⟩
def LDP_LADDER_SALVAGE_THR : Fld := ⟨ldpBase + 0x4, 24, 4, 4⟩
def LDP_STAT_DEC_FAILED : Fld := ⟨ldpBase + 0x8, 0, 16, 0⟩
def LDP_STAT_OUTER_FAILED : Fld := ⟨ldpBase + 0x8, 16, 4, 0⟩
def LDP_STAT_STALL : Fld := ⟨ldpBase + 0x8, 20, 1, 0⟩
def LDP_STAT_CFG_REJECT : Fld := ⟨ldpBase + 0x8, 21, 1, 0⟩
def LDP_LOAD_LOAD : Fld := ⟨ldpBase + 0xC, 0, 8, 0⟩
def LDP_CW_CNT_CNT : Fld := ⟨ldpBase + 0x10, 0, 64, 0⟩
def LDP_ITER_CNT_CNT : Fld := ⟨ldpBase + 0x18, 0, 64, 0⟩
def LDP_OUTER_CNT_CNT : Fld := ⟨ldpBase + 0x20, 0, 64, 0⟩
def LDP_POISON_CNT_CNT : Fld := ⟨ldpBase + 0x28, 0, 64, 0⟩
def LDP_RUNG_CNT_CNT (n : Nat) : Fld := ⟨ldpBase + 0x40 + 0x4 * (n % 16), 0, 32, 0⟩

/-! ### WRP window of OPU_k (R265) -/

/-- Base address of the registers of WRP window of OPU_k (R265). -/
abbrev wrpBase (k : Nat) : Nat := 0x300000 + 0x10000 * (k % 8)

def WRP_CTL_ENABLE (k : Nat) : Fld := ⟨wrpBase k + 0x0, 0, 1, 0⟩
def WRP_CTL_COOL_EN (k : Nat) : Fld := ⟨wrpBase k + 0x0, 1, 1, 1⟩
def WRP_CTL_WR_HOLD (k : Nat) : Fld := ⟨wrpBase k + 0x0, 2, 1, 0⟩
def WRP_STAT_STATE (k : Nat) : Fld := ⟨wrpBase k + 0x4, 0, 3, 0⟩
def WRP_STAT_RAW_BURST (k : Nat) : Fld := ⟨wrpBase k + 0x4, 3, 1, 0⟩
def WRP_STAT_WR_DISABLED (k : Nat) : Fld := ⟨wrpBase k + 0x4, 4, 1, 0⟩
def WRP_STAT_CFG_REJECT (k : Nat) : Fld := ⟨wrpBase k + 0x4, 5, 1, 0⟩
def WRP_WSL_CTL_TRAIN (k : Nat) : Fld := ⟨wrpBase k + 0x8, 0, 1, 0⟩
def WRP_WSL_CTL_LAT (k : Nat) : Fld := ⟨wrpBase k + 0x8, 1, 6, 16⟩
def WRP_WSL_CTL_SWAP (k : Nat) : Fld := ⟨wrpBase k + 0x8, 8, 1, 0⟩
def WRP_WSL_CTL_INV_0 (k : Nat) : Fld := ⟨wrpBase k + 0x8, 9, 1, 0⟩
def WRP_WSL_CTL_INV_1 (k : Nat) : Fld := ⟨wrpBase k + 0x8, 10, 1, 0⟩
def WRP_WSL_CTL_CLK_INV (k : Nat) : Fld := ⟨wrpBase k + 0x8, 11, 1, 0⟩
def WRP_WSL_STAT_RESULT (k : Nat) : Fld := ⟨wrpBase k + 0xC, 0, 2, 0⟩
def WRP_WSL_STAT_OBS (k : Nat) : Fld := ⟨wrpBase k + 0xC, 2, 6, 0⟩
def WRP_WSL_STAT_DUTY (k : Nat) : Fld := ⟨wrpBase k + 0xC, 8, 2, 3⟩
def WRP_RAW_CTL_PASS_MAX (k : Nat) : Fld := ⟨wrpBase k + 0x10, 0, 13, 208⟩
def WRP_RAW_CTL_RELOC_MAX (k : Nat) : Fld := ⟨wrpBase k + 0x10, 16, 4, 3⟩
def WRP_RAW_CTL_BURST_LIM (k : Nat) : Fld := ⟨wrpBase k + 0x10, 20, 6, 16⟩
def WRP_RAW_CTL_NORM_DLY (k : Nat) : Fld := ⟨wrpBase k + 0x10, 26, 6, 24⟩
def WRP_WR_TIMING_OFFSET (k : Nat) : Fld := ⟨wrpBase k + 0x14, 0, 12, 0⟩
def WRP_RAW_LAST_WEIGHT (k : Nat) : Fld := ⟨wrpBase k + 0x18, 0, 13, 0⟩
def WRP_RAW_LAST_PASS (k : Nat) : Fld := ⟨wrpBase k + 0x18, 13, 1, 0⟩
def WRP_RAW_LAST_SYNC_MISSED (k : Nat) : Fld := ⟨wrpBase k + 0x18, 14, 1, 0⟩
def WRP_RAW_LAST_TIMING_LIMIT (k : Nat) : Fld := ⟨wrpBase k + 0x18, 15, 1, 0⟩
def WRP_RAW_LAST_SECTOR (k : Nat) : Fld := ⟨wrpBase k + 0x18, 16, 8, 0⟩
def WRP_RAW_PASS_CNT_CNT (k : Nat) : Fld := ⟨wrpBase k + 0x20, 0, 64, 0⟩
def WRP_RAW_FAIL_CNT_CNT (k : Nat) : Fld := ⟨wrpBase k + 0x28, 0, 64, 0⟩
def WRP_ENERGY_UJ (k : Nat) : Fld := ⟨wrpBase k + 0x30, 0, 64, 0⟩
def WRP_RELOC_CNT_CNT (k : Nat) : Fld := ⟨wrpBase k + 0x38, 0, 32, 0⟩
def WRP_SUSPEND_CNT_CNT (k : Nat) : Fld := ⟨wrpBase k + 0x3C, 0, 32, 0⟩
def WRP_RAW_ASYM_ASYM (k : Nat) : Fld := ⟨wrpBase k + 0x40, 0, 16, 0⟩
def WRP_LVL_A_SPACE (k : Nat) (l : Nat) : Fld := ⟨wrpBase k + 0x100 + 0x10 * (l % 8), 0, 16, 0⟩
def WRP_LVL_A_MARK (k : Nat) (l : Nat) : Fld := ⟨wrpBase k + 0x100 + 0x10 * (l % 8), 16, 16, 0⟩
def WRP_LVL_B_COOL (k : Nat) (l : Nat) : Fld := ⟨wrpBase k + 0x104 + 0x10 * (l % 8), 0, 16, 0⟩
def WRP_LVL_B_MEAN (k : Nat) (l : Nat) : Fld := ⟨wrpBase k + 0x104 + 0x10 * (l % 8), 16, 16, 0⟩
def WRP_STRAT_LEAD_LEAD (k : Nat) (l : Nat) : Fld := ⟨wrpBase k + 0x108 + 0x10 * (l % 8), 0, 24, 0xCF⟩
def WRP_STRAT_TRAIL_TRAIL (k : Nat) (l : Nat) : Fld := ⟨wrpBase k + 0x10C + 0x10 * (l % 8), 0, 24, 0xFF0001⟩

/-! ### CAL window (R279) -/

/-- Base address of the registers of CAL window (R279). -/
abbrev calBase : Nat := 0x380000

def CAL_CTL_ENABLE : Fld := ⟨calBase + 0x0, 0, 1, 0⟩
def CAL_CTL_REPEAT_MAX : Fld := ⟨calBase + 0x0, 1, 3, 4⟩
def CAL_CTL_PERIOD : Fld := ⟨calBase + 0x0, 4, 12, 20⟩
def CAL_STAT_KIND : Fld := ⟨calBase + 0x4, 0, 4, 0⟩
def CAL_STAT_BUSY : Fld := ⟨calBase + 0x4, 4, 1, 0⟩
def CAL_STAT_CFG_REJECT : Fld := ⟨calBase + 0x4, 5, 1, 0⟩
def CAL_SPEED_DOWN : Fld := ⟨calBase + 0x8, 0, 8, 16⟩
def CAL_SPEED_UP : Fld := ⟨calBase + 0x8, 8, 8, 0⟩
def CAL_SPEED_UP_WINDOWS : Fld := ⟨calBase + 0x8, 16, 8, 1⟩
def CAL_ADAPT_STAT_SPEED_CLAMP : Fld := ⟨calBase + 0xC, 0, 4, 0⟩
def CAL_ADAPT_STAT_WRPWR_CLAMP : Fld := ⟨calBase + 0xC, 4, 8, 0⟩
def CAL_ADAPT_STAT_SPEED_PIN : Fld := ⟨calBase + 0xC, 12, 4, 0⟩
def CAL_ADAPT_STAT_WRPWR_PIN : Fld := ⟨calBase + 0xC, 16, 8, 0⟩
def CAL_THERM_LEVEL : Fld := ⟨calBase + 0x10, 0, 2, 0⟩
def CAL_THERM_TEMP : Fld := ⟨calBase + 0x10, 8, 8, 0⟩
def CAL_LSEG_MASK (k : Nat) : Fld := ⟨calBase + 0x20 + 0x4 * (k % 8), 0, 16, 0⟩
def CAL_CNT_CNT (n : Nat) : Fld := ⟨calBase + 0x100 + 0x20 * (n % 16), 0, 32, 0⟩
def CAL_FAIL_CNT_CNT (n : Nat) : Fld := ⟨calBase + 0x104 + 0x20 * (n % 16), 0, 32, 0⟩
def CAL_LAST_TIME (n : Nat) : Fld := ⟨calBase + 0x108 + 0x20 * (n % 16), 0, 64, 0⟩
def CAL_LAST_ELEM_ELEMENT (n : Nat) : Fld := ⟨calBase + 0x110 + 0x20 * (n % 16), 0, 16, 0⟩
def CAL_LAST_ELEM_RESULT (n : Nat) : Fld := ⟨calBase + 0x110 + 0x20 * (n % 16), 16, 3, 0⟩

/-! ### BAY_b window (R533) -/

/-- Base address of the registers of BAY_b window (R533). -/
abbrev bayBase (b : Nat) : Nat := 0x400000 + 0x10000 * (b % 4)

def BAY_STAT_STATE (b : Nat) : Fld := ⟨bayBase b + 0x0, 0, 3, 0⟩
def BAY_STAT_HELD (b : Nat) : Fld := ⟨bayBase b + 0x0, 3, 1, 0⟩
def BAY_STAT_MOUNTED (b : Nat) : Fld := ⟨bayBase b + 0x0, 4, 1, 0⟩
def BAY_STAT_ATTACHED (b : Nat) : Fld := ⟨bayBase b + 0x0, 5, 1, 0⟩
def BAY_STAT_SPEED (b : Nat) : Fld := ⟨bayBase b + 0x0, 6, 2, 0⟩
def BAY_STAT_DISC_PRESENT (b : Nat) : Fld := ⟨bayBase b + 0x0, 8, 1, 0⟩
def BAY_STAT_TRAY_CLOSED (b : Nat) : Fld := ⟨bayBase b + 0x0, 9, 1, 0⟩
def BAY_STAT_CLAMPED (b : Nat) : Fld := ⟨bayBase b + 0x0, 10, 1, 0⟩
def BAY_STAT_DOOR_CLOSED (b : Nat) : Fld := ⟨bayBase b + 0x0, 11, 1, 0⟩
def BAY_STAT_UNAVAILABLE (b : Nat) : Fld := ⟨bayBase b + 0x0, 12, 1, 0⟩

/-! ### optical registers of OPU_o (R140) -/

/-- Base address of the registers of optical registers of OPU_o (R140). -/
abbrev optBase (o : Nat) : Nat := 0x400000 + 0x10000 * (o % 8 / 2) + 0x2000 + 0x400 * (o % 2)

def BAY_OPT_CMD_CMD (o : Nat) : Fld := ⟨optBase o + 0x0, 0, 4, 0⟩
def BAY_OPT_CMD_LAYER (o : Nat) : Fld := ⟨optBase o + 0x0, 4, 3, 0⟩
def BAY_OPT_CMD_AT_SPOKE (o : Nat) : Fld := ⟨optBase o + 0x0, 7, 1, 0⟩
def BAY_OPT_CMD_SPOKE (o : Nat) : Fld := ⟨optBase o + 0x0, 8, 10, 0⟩
def BAY_OPT_CMD_DIST (o : Nat) : Fld := ⟨optBase o + 0x0, 18, 8, 0⟩
def BAY_OPT_STAT_RESULT (o : Nat) : Fld := ⟨optBase o + 0x4, 0, 3, 0⟩
def BAY_OPT_STAT_LAYER (o : Nat) : Fld := ⟨optBase o + 0x4, 3, 3, 0⟩
def BAY_OPT_STAT_FOCUS_LOCKED (o : Nat) : Fld := ⟨optBase o + 0x4, 6, 1, 0⟩
def BAY_OPT_STAT_ON_TRACK (o : Nat) : Fld := ⟨optBase o + 0x4, 7, 1, 0⟩
def BAY_OPT_STAT_JUMP (o : Nat) : Fld := ⟨optBase o + 0x4, 8, 1, 0⟩
def BAY_OPT_STAT_LAYER_JUMP (o : Nat) : Fld := ⟨optBase o + 0x4, 9, 1, 0⟩
def BAY_OPT_STAT_PULL_IN (o : Nat) : Fld := ⟨optBase o + 0x4, 10, 1, 0⟩
def BAY_OPT_STAT_WRITTEN (o : Nat) : Fld := ⟨optBase o + 0x4, 11, 3, 0⟩
def BAY_OPT_STAT_LASER_TRIP (o : Nat) : Fld := ⟨optBase o + 0x4, 14, 1, 0⟩
def BAY_OPT_STAT_ACT_CLAMP (o : Nat) : Fld := ⟨optBase o + 0x4, 15, 1, 0⟩
def BAY_OPT_STAT_CFG_REJECT (o : Nat) : Fld := ⟨optBase o + 0x4, 16, 1, 0⟩
def BAY_OPT_STAT_FAIL_RUN (o : Nat) : Fld := ⟨optBase o + 0x4, 17, 4, 0⟩
def BAY_OPT_CTL_ENABLE (o : Nat) : Fld := ⟨optBase o + 0x8, 0, 1, 0⟩
def BAY_OPT_CTL_RETRIES (o : Nat) : Fld := ⟨optBase o + 0x8, 1, 3, 2⟩
def BAY_OPT_CTL_LOCK_FRAMES (o : Nat) : Fld := ⟨optBase o + 0x8, 4, 5, 16⟩
def BAY_OPT_CTL_ACQ_RATE (o : Nat) : Fld := ⟨optBase o + 0x8, 9, 7, 4⟩
def BAY_OPT_CTL_SA_DITHER (o : Nat) : Fld := ⟨optBase o + 0x8, 16, 8, 0x20⟩
def BAY_OPT_CTL_JUMP_LAND_WIN (o : Nat) : Fld := ⟨optBase o + 0x8, 24, 8, 0x30⟩
def BAY_OPT_WIN_LOCK_WIN (o : Nat) : Fld := ⟨optBase o + 0xC, 0, 8, 0x20⟩
def BAY_OPT_WIN_SUM_MIN (o : Nat) : Fld := ⟨optBase o + 0xC, 8, 8, 0x60⟩
def BAY_OPT_WIN_ONTRK_WIN (o : Nat) : Fld := ⟨optBase o + 0xC, 16, 8, 0x20⟩
def BAY_OPT_WIN_WRITTEN_THR (o : Nat) : Fld := ⟨optBase o + 0xC, 24, 8, 0xD0⟩
def BAY_OPT_TARGET_TRACK (o : Nat) : Fld := ⟨optBase o + 0x10, 0, 18, 0⟩
def BAY_FOCUS_RETRACT_CODE (o : Nat) : Fld := ⟨optBase o + 0x14, 0, 16, 0xB1E0⟩
def BAY_LASER_LIM_MAX (o : Nat) : Fld := ⟨optBase o + 0x18, 0, 16, 0⟩
def BAY_LASER_LIM_READ_MAX (o : Nat) : Fld := ⟨optBase o + 0x18, 16, 16, 0⟩
def BAY_ACT_LIM_0_FOCUS (o : Nat) : Fld := ⟨optBase o + 0x1C, 0, 16, 0⟩
def BAY_ACT_LIM_0_TRACKING (o : Nat) : Fld := ⟨optBase o + 0x1C, 16, 16, 0⟩
def BAY_ACT_LIM_1_TILT (o : Nat) : Fld := ⟨optBase o + 0x20, 0, 16, 0⟩
def BAY_ACT_LIM_1_SA (o : Nat) : Fld := ⟨optBase o + 0x20, 16, 16, 0⟩
def BAY_ACT_SENSE_CODE (o : Nat) (a : Nat) : Fld := ⟨optBase o + 0x30 + 0x4 * (a % 4), 0, 16, 0⟩
def BAY_ACT_SENSE_LOW (o : Nat) (a : Nat) : Fld := ⟨optBase o + 0x30 + 0x4 * (a % 4), 16, 1, 0⟩
def BAY_ACT_SENSE_HIGH (o : Nat) (a : Nat) : Fld := ⟨optBase o + 0x30 + 0x4 * (a % 4), 17, 1, 0⟩
def BAY_LAYER_SA (o : Nat) (l : Nat) : Fld := ⟨optBase o + 0x40 + 0x4 * (l % 8), 0, 16, 0⟩
def BAY_LAYER_TILT (o : Nat) (l : Nat) : Fld := ⟨optBase o + 0x40 + 0x4 * (l % 8), 16, 16, 0⟩
def BAY_LREF_CENTRE (o : Nat) (l : Nat) : Fld := ⟨optBase o + 0x60 + 0x4 * (l % 8), 0, 16, 0⟩
def BAY_LREF_SIDE (o : Nat) (l : Nat) : Fld := ⟨optBase o + 0x60 + 0x4 * (l % 8), 16, 16, 0⟩
def BAY_RDPWR_READ (o : Nat) (l : Nat) : Fld := ⟨optBase o + 0x80 + 0x4 * (l % 8), 0, 16, 0⟩
def BAY_JUMP_LATE_CNT_CNT (o : Nat) : Fld := ⟨optBase o + 0xA0, 0, 32, 0⟩

end F

end Sys2Proof.Machine
end

