-- ==== Sys2Proof/Machine/Ops.lean ====
section
/-! DEFINITION. The named operations over the state: bit fields, tables, register fields, the event queue, and the
primitive effects out of which every command is built. A command is a program of effects (`Act`), so that whatever every
effect keeps, every command keeps. -/

namespace Sys2Proof.Machine

/-! ### Numbers -/

/-- Bits [lo + w − 1 : lo] of `v`. -/
def bitsOf (v lo w : Nat) : Nat := v / 2 ^ lo % 2 ^ w

/-- Whether bit `i` of `v` is 1. -/
def bitAt (v i : Nat) : Bool := v / 2 ^ i % 2 == 1

/-- `v` with bit `i` set to `b`. -/
def setBit (v i : Nat) (b : Bool) : Nat := v - bitsOf v i 1 * 2 ^ i + (if b then 2 ^ i else 0)

/-- The signed value of the low `w` bits of `v`. -/
def toSigned (w v : Nat) : Int :=
  let u := v % 2 ^ w
  if u < 2 ^ (w - 1) then (u : Int) else (u : Int) - 2 ^ w

/-- The `w`-bit two's complement code of `i`. -/
def ofSigned (w : Nat) (i : Int) : Nat := (i % 2 ^ w).toNat

/-- `i` limited to `lo` to `hi`. -/
def clampInt (lo hi i : Int) : Int := if i < lo then lo else if hi < i then hi else i

/-- The `n` little-endian bytes of `v`. -/
def leBytes : Nat → Nat → List Byte
  | 0, _ => []
  | n + 1, v => BitVec.ofNat 8 v :: leBytes n (v / 256)

/-- The `n` big-endian bytes of `v`. -/
def beBytes (n v : Nat) : List Byte := (leBytes n v).reverse

/-- The number that little-endian bytes spell. -/
def ofLeBytes : List Byte → Nat
  | [] => 0
  | b :: bs => b.toNat + 256 * ofLeBytes bs

def zeroBytes (n : Nat) : List Byte := List.replicate n 0

/-- Quotient rounded towards minus infinity of integers (floor). -/
def floorDiv (a b : Int) : Int := a.fdiv b

/-- Ceiling of a ÷ b. -/
def ceilDiv (a b : Nat) : Nat := (a + b - 1) / b

/-! ### Tables: lists of key and value, keys rising, no entry at its default -/

def tabGet (t : List (Nat × Nat)) (k d : Nat) : Nat := (t.lookup k).getD d

/-- The table without key `k`. -/
def tabErase (t : List (Nat × Nat)) (k : Nat) : List (Nat × Nat) := t.filter (fun p => p.1 != k)

/-- The table with key `k`, not held before, put at its place. -/
def tabInsert : List (Nat × Nat) → Nat → Nat → List (Nat × Nat)
  | [], k, v => [(k, v)]
  | (k', v') :: t, k, v => if k < k' then (k, v) :: (k', v') :: t else (k', v') :: tabInsert t k v

/-- The table with `v` at key `k`; no entry where `v` is the default `d`. -/
def tabSet (t : List (Nat × Nat)) (k v d : Nat) : List (Nat × Nat) :=
  if v = d then tabErase t k else tabInsert (tabErase t k) k v

/-- The keys of a table rise strictly. -/
def tabWf (t : List (Nat × Nat)) : Prop := (t.map Prod.fst).Pairwise (· < ·)

/-! ### Register fields -/

/-- The key of a field in the table of fields: its register's address and its lowest bit. -/
def Fld.key (f : Fld) : Nat := f.addr * 64 + f.lo % 64

/-- The value of a register field; a field that is not listed holds its reset value (R5). -/
def State.get (s : State) (f : Fld) : Nat := tabGet s.fields f.key f.rst

/-- The state with a field at `v`, cut to the field's width. -/
def State.put (s : State) (f : Fld) (v : Nat) : State :=
  { s with fields := tabSet s.fields f.key (v % 2 ^ f.w) f.rst }

/-- The current device mode (R29). -/
def State.mode (s : State) : Nat := s.get F.DEV_MODE_STAT_MODE

/-- Whether the part runs: it is neither unpowered, nor in reset, nor in RETENTION, in which only always-on logic is clocked (R29). -/
def State.awake (s : State) : Bool := decide (mBOOT ≤ s.mode) && s.mode != mRETENTION

/-- Whether the SRV, MOT and STP blocks take what starts a motion or a loop: BRINGUP, IDLE, ACTIVE and SERVICE. In DRAIN and SAFE they only
bring bays to rest, and in PARK their clocks are gated (R29, R42, R47). -/
def State.drivesTake (s : State) : Bool := [mBRINGUP, mIDLE, mACTIVE, mSERVICE].contains s.mode

/-- The state of a bay (R46). -/
def State.bayState (s : State) (b : Nat) : Nat := s.get (F.BAY_STAT_STATE b)

/-- The bay of an OPU (R3): OPU_2b is the top side of bay b, OPU_2b+1 its bottom side. -/
def bayOf (k : Fin 8) : Fin 4 := ⟨k.val / 2, by omega⟩

def opuTop (b : Fin 4) : Fin 8 := ⟨2 * b.val, by omega⟩
def opuBottom (b : Fin 4) : Fin 8 := ⟨2 * b.val + 1, by omega⟩

/-- The port of a function and whether the function is the Admin function (R532). -/
def portOf (f : Fin 4) : Fin 2 := ⟨f.val / 2, by omega⟩
def isAdmin (f : Fin 4) : Bool := f.val % 2 == 0

/-! ### Time (R403, R559) -/

/-- Power-on seconds of the life record. -/
def State.powerOn (s : State) : Nat := s.life.powerOnBase + (s.now - s.life.powerOnAt) / 1000000

/-- UTC seconds, none while the calendar is invalid. -/
def State.utc (s : State) : Option Nat :=
  if s.nv.calValid then some (s.nv.utc + (s.now - s.nv.utcAt) / 1000000) else none

/-- The TIME of a record: UTC seconds, or power-on seconds with bit [63] set (R403, R269). -/
def State.timeStamp (s : State) : Nat :=
  match s.utc with
  | some t => t
  | none => 2 ^ 63 + s.powerOn

/-! ### The event queue (R403, R536, R539) -/

/-- The most records the queue holds (R403). -/
def queueMax : Nat := 8192

/-- The queue with its oldest record overwritten: each Admin function that had not read it has lost it (R403, R539). -/
def EventQ.dropOldest (q : EventQ) : EventQ :=
  match q.recs with
  | [] => q
  | r :: rest =>
    let lose (p : Fin 2) (q : EventQ) : EventQ :=
      if q.cursor[p] ≤ r.serial then
        { q with
          cursor := q.cursor.set p (r.serial + 1)
          lostSerial := if q.lost[p] = 0 then q.lostSerial.set p r.serial else q.lostSerial
          lostTime := if q.lost[p] = 0 then q.lostTime.set p r.time else q.lostTime
          lostLevel := q.lostLevel.set p (max q.lostLevel[p] (if r.level = 4 then 4 else 2))
          lost := q.lost.set p (q.lost[p] + 1) }
      else q
    lose 1 (lose 0 { q with recs := rest })

/-- The queue with a record added: SERIAL rises by one, and the oldest record is overwritten when the queue is full. Before
step 16 of the start, up to 64 records are held outside it (R403). -/
def EventQ.push (q : EventQ) (r : EventRec) : EventQ :=
  if q.ready then
    let q := if q.recs.length < queueMax then q else q.dropOldest
    { q with
      recs := (q.recs ++ [{ r with serial := q.serial + 1 }]).take queueMax
      serial := q.serial + 1 }
  else if q.held.length < 64 then { q with held := q.held ++ [r] }
  else { q with heldLost := q.heldLost + 1 }

/-- The queue with one more raise merged into its newest record (R536). -/
def EventQ.merge (q : EventQ) : EventQ :=
  match q.recs.getLast? with
  | none => q
  | some r => { q with recs := q.recs.dropLast ++ [{ r with repeats := min 65535 (r.repeats + 1) }] }

/-- The queue with the cursor of an Admin function moved, its overflow record consumed (R403). -/
def EventQ.consume (q : EventQ) (p : Fin 2) (next : Nat) : EventQ :=
  { q with cursor := q.cursor.set p next, lost := q.lost.set p 0, lostLevel := q.lostLevel.set p 0 }

/-- The queue as step 16 sets it up: empty, then the records held since the start of the start, then one overflow record
when some were not held (R403). Every cursor points at the first of them (R542). -/
def EventQ.setUp (q : EventQ) (time now : Nat) : EventQ :=
  let q0 : EventQ := { q with ready := true, recs := [], held := [], heldLost := 0,
                              cursor := .replicate 2 (q.serial + 1), lost := .replicate 2 0, lostLevel := .replicate 2 0 }
  let q1 := q.held.foldl EventQ.push q0
  if q.heldLost = 0 then q1
  else q1.push { event := Ev.EVENT_OVERFLOW, level := 2, time := time, detail := q.heldLost, queuedAt := now }

/-! ### Effects -/

/-- A primitive change of the state. -/
inductive Eff where
  /-- A register field takes a value, cut to its width. -/
  | put (f : Fld) (v : Nat)
  /-- A record joins the event queue. -/
  | queue (r : EventRec)
  | merge
  | consume (p : Fin 2) (next : Nat)
  | openQueue
  /-- Something leaves the part. -/
  | out (o : Output)
  /-- One more free value is used. -/
  | useFree
  /-- `n` global sequence numbers are issued, from new grants where needed (R292). -/
  | issue (n : Nat)
  /-- Issuing resumes after the end of the last recorded grant (R292). -/
  | resumeGrants
  /-- The anti-rollback counter is programmed up to `n` (R517). -/
  | fuse (n : Nat)
  /-- Revocation bits are programmed (R517). -/
  | revoke (mask : Nat)
  /-- A reset: every register field but those whose key `keep` names at its reset value, every volatile structure empty (R547). -/
  | hardReset (keep : Nat → Bool)
  /-- The reset of a wake from RETENTION, under which SERIAL goes on (R531, R547). -/
  | wakeReset (keep : Nat → Bool)
  | shadows (g : List ((Nat × Nat) × Nat) → List ((Nat × Nat) × Nat))
  | chip (g : Chip → Chip)
  | boot (g : Boot → Boot)
  | nv (g : NonVol → NonVol)
  | dbg (g : Debug → Debug)
  | cache (g : List CacheSector → List CacheSector)
  | extents (g : List Extent → List Extent)
  | volumes (g : List Volume → List Volume)
  | strands (g : List Strand → List Strand)
  | deferred (g : List Deferred → List Deferred)
  | discs (g : List Disc → List Disc)
  | requests (g : List DiscRequest → List DiscRequest)
  | flash (g : Flash → Flash)
  | life (g : Life → Life)
  | lost (g : LostReport → LostReport)
  | fn (f : Fin 4) (g : HostFn → HostFn)
  | class0 (p : Fin 2) (g : Class0 → Class0)
  | insts (g : List Inst → List Inst)
  | fetched
  | bay (b : Fin 4) (g : Bay → Bay)
  | spoke (k : Fin 8) (g : Spoke → Spoke)
  | optic (k : Fin 8) (g : Optic → Optic)
  | servo (e : Fin 2) (g : Servo → Servo)
  | trace (i : Fin 16) (g : Trace → Trace)
  | motor (k : Fin 8) (g : Motor → Motor)
  | axis (a : Fin 16) (g : Axis → Axis)
  | input (i : Fin 32) (g : Input → Input)
  | lane (n : Fin 36) (g : Lane → Lane)
  | detector (k : Fin 8) (g : Detector → Detector)
  | frames (g : List FrameWork → List FrameWork)
  | writer (k : Fin 8) (g : Writer → Writer)
  | cal (g : Cal → Cal)
  | seqs (g : Seqs → Seqs)
  | cch (g : Cch → Cch)
  /-- The DRAM controller beyond its content. -/
  | dram (g : Dram → Dram)
  /-- The `n` bytes of context memory from `a` take the low bytes of `v`. -/
  | poke (a n v : Nat)
  /-- Context memory is initialised (R506, step 15). -/
  | wipe

/-- The size of a grant (R292). -/
def grantSize : Nat := 2 ^ 24

/-- The end of the last recorded grant once `n` more numbers have been issued. -/
def grantFor (next stop n : Nat) : Nat :=
  if next + n ≤ stop then stop else stop + ceilDiv (next + n - stop) grantSize * grantSize

/-- The state after a reset: what survives is the non-volatile store with the disc table and the volumes of its system area, OTP,
the sequence grants, the input levels, the model's clock, what has left the part, and the register fields that `keep` names
(R314, R531, R547). Context memory stands until step 15 writes it (R506). -/
def State.hardReset (keep : Nat → Bool) (s : State) : State :=
  { pending := s.pending, fields := s.fields.filter (fun p => keep p.1), now := s.now, free := s.free, out := s.out
    nv := s.nv, otp := s.otp, nextSeq := s.nextSeq, grantEnd := s.grantEnd, discs := s.discs, volumes := s.volumes
    chip := { pins := s.chip.pins }
    life := { powerOnAt := s.now }
    dram := { mem := s.dram.mem } }

/-- What a primitive effect does. -/
def Eff.apply (e : Eff) (s : State) : State :=
  match e with
  | .put f v => s.put f v
  | .queue r => { s with evq := s.evq.push r }
  | .merge => { s with evq := s.evq.merge }
  | .consume p n => { s with evq := s.evq.consume p n }
  | .openQueue => { s with evq := s.evq.setUp s.timeStamp s.now }
  | .out o => { s with out := s.out ++ [o] }
  | .useFree => { s with free := s.free + 1 }
  | .issue n => { s with nextSeq := s.nextSeq + n, grantEnd := grantFor s.nextSeq s.grantEnd n }
  | .resumeGrants => { s with nextSeq := max s.nextSeq s.grantEnd }
  | .fuse n => { s with otp := { s.otp with counter := max s.otp.counter (min n 64) } }
  | .revoke m => { s with otp := { s.otp with revoked := (s.otp.revoked ||| m) % 16 } }
  | .hardReset keep => s.hardReset keep
  | .wakeReset keep => { s.hardReset keep with evq := { serial := s.evq.serial } }
  | .shadows g => { s with shadows := g s.shadows }
  | .chip g => { s with chip := g s.chip }
  | .boot g => { s with boot := g s.boot }
  | .nv g => { s with nv := g s.nv }
  | .dbg g => { s with dbg := g s.dbg }
  | .cache g => { s with cache := g s.cache }
  | .extents g => { s with extents := g s.extents }
  | .volumes g => { s with volumes := g s.volumes }
  | .strands g => { s with strands := g s.strands }
  | .deferred g => { s with deferred := g s.deferred }
  | .discs g => { s with discs := g s.discs }
  | .requests g => { s with requests := g s.requests }
  | .flash g => { s with flash := g s.flash }
  | .life g => { s with life := g s.life }
  | .lost g => { s with lost := g s.lost }
  | .fn f g => { s with fns := s.fns.set f (g s.fns[f]) }
  | .class0 p g => { s with class0 := s.class0.set p (g s.class0[p]) }
  | .insts g => { s with insts := g s.insts }
  | .fetched => { s with nextId := s.nextId + 1 }
  | .bay b g => { s with bays := s.bays.set b (g s.bays[b]) }
  | .spoke k g => { s with spokes := s.spokes.set k (g s.spokes[k]) }
  | .optic k g => { s with optics := s.optics.set k (g s.optics[k]) }
  | .servo e g => { s with servos := s.servos.set e (g s.servos[e]) }
  | .trace i g => { s with traces := s.traces.set i (g s.traces[i]) }
  | .motor k g => { s with motors := s.motors.set k (g s.motors[k]) }
  | .axis a g => { s with axes := s.axes.set a (g s.axes[a]) }
  | .input i g => { s with inputs := s.inputs.set i (g s.inputs[i]) }
  | .lane n g => { s with lanes := s.lanes.set n (g s.lanes[n]) }
  | .detector k g => { s with detectors := s.detectors.set k (g s.detectors[k]) }
  | .frames g => { s with frames := g s.frames }
  | .writer k g => { s with writers := s.writers.set k (g s.writers[k]) }
  | .cal g => { s with cal := g s.cal }
  | .seqs g => { s with seqs := g s.seqs }
  | .cch g => { s with cch := g s.cch }
  | .dram g => { s with dram := { g s.dram with mem := s.dram.mem } }
  | .poke a n v => { s with dram := { s.dram with mem := memStore s.dram.mem a n v } }
  | .wipe => { s with dram := { s.dram with mem := [] } }

/-- A finite program of effects that may look at the state. -/
inductive Prog where
  | done
  | read (k : State → Prog)
  | eff (e : Eff) (p : Prog)

def Prog.run : Prog → State → State
  | .done, s => s
  | .read k, s => (k s).run s
  | .eff e p, s => p.run (e.apply s)

/-- Programs that answer a value, in continuation form. -/
abbrev Act (α : Type) : Type := ContT Prog Id α

/-- The state as the program finds it. -/
def rd : Act State := fun k => Prog.read k

/-- One primitive effect. -/
def emit (e : Eff) : Act Unit := fun k => Prog.eff e (k ())

/-- Runs a program. -/
def Act.exec (m : Act Unit) (s : State) : State := Prog.run (m (fun _ => Prog.done)) s

/-- What a command answers. -/
abbrev Answer : Type := Host.Outcome State Fault Refusal

/-- A command that takes a next state. -/
def answer (m : Act Unit) (s : State) : Answer := .next (m.exec s)

/-- A command to blocks that a mode may leave without clock: it acts while they are live, and changes nothing otherwise (R29, R47,
assumption log 60). -/
def answerWhen (live : Bool) (m : Act Unit) (s : State) : Answer := if live then answer m s else .next s

/-! ### Register fields in programs -/

def getF (f : Fld) : Act Nat := do return (← rd).get f

def setF (f : Fld) (v : Nat) : Act Unit := emit (.put f v)

/-- One more in a counter that stops at its maximum (R530). -/
def incStop (f : Fld) : Act Unit := do
  let v ← getF f
  if v + 1 < 2 ^ f.w then setF f (v + 1)

/-- `n` more in a counter that stops at its maximum (R530). -/
def addStop (f : Fld) (n : Nat) : Act Unit := do
  let v ← getF f
  setF f (min (2 ^ f.w - 1) (v + n))

/-- `n` more in a 64-bit counter, which wraps (R530). -/
def addWrap (f : Fld) (n : Nat) : Act Unit := do
  let v ← getF f
  setF f (v + n)

/-- A free value: the n-th value that the spec leaves open (assumption log 3). -/
def freeValue (w : Nat) : Act Nat := do
  let s ← rd
  emit .useFree
  return (Config.freeValue w s.free).toNat

/-- Runs `m` when `c` holds. -/
def doWhen (c : Prop) [Decidable c] (m : Act Unit) : Act Unit := if c then m else pure ()

/-- Runs one program for each entry of a list, in order. -/
def forAll {α : Type} : List α → (α → Act Unit) → Act Unit
  | [], _ => pure ()
  | a :: as, m => do
    m a
    forAll as m

def bayList : List (Fin 4) := [0, 1, 2, 3]
def opuList : List (Fin 8) := [0, 1, 2, 3, 4, 5, 6, 7]
def fnList : List (Fin 4) := [0, 1, 2, 3]

end Sys2Proof.Machine
end

