-- ==== Sys2Proof/Machine/Media.lean ====
section
/-! DEFINITION. The formats of the Oliov-16 disc: zones, bands and intervals (R49 to R55), the sector frame with its scrambling
and modulation (R56 to R59), the inner and outer codes (R60 to R63), headers, directory entries and passport records (R64 to
R71), and the symbols of the write strategy link (R241, R249, R250). -/

namespace Sys2Proof.Machine

/-! ### Tracks, zones and bands (R49 to R55) -/

/-- Sectors per track of each zone (R51). -/
def zoneSectors : List Nat :=
  [62, 65, 68, 71, 73, 76, 79, 82, 85, 87, 90, 93, 96, 98, 101, 104,
   107, 110, 112, 115, 118, 121, 124, 126, 129, 132, 135, 138, 140, 143, 146, 149]

/-- SPT_z. -/
def sptOf (zone : Nat) : Nat := zoneSectors.getD zone 0

/-- Tracks of a zone, and so of a band (R50). -/
abbrev bandTracks : Nat := 6656

/-- The zone of a track. -/
def zoneOf (track : Nat) : Nat := track / bandTracks

/-- The number of a band: 256 × side + 32 × layer + zone (R49). -/
def bandOf (side layer zone : Nat) : Nat := 256 * side + 32 * layer + zone

def bandSide (band : Nat) : Nat := band / 256
def bandLayer (band : Nat) : Nat := band / 32 % 8
def bandZone (band : Nat) : Nat := band % 32

/-- The first data track offset of a band: past the passport zone in bands 0 and 256 (R54). -/
def dataStart (band : Nat) : Nat := if band % 256 = 0 then 1027 else 3

/-- The first track offset after the data tracks, which is the first spare track. -/
abbrev spareStart : Nat := 6608

/-- The start spoke of a track (R53). -/
def startSpoke (track : Nat) : Nat := 8 * (track % bandTracks / 3) % 1024

/-- Channel bits in the data interval after the i-th spoke from the start spoke (R52). -/
def intervalBits (spt i : Nat) : Nat :=
  let n := spt * 57000
  (i + 1) * n / 1024 - i * n / 1024

/-- The place of copy `c` of directory sector `n`: track offset and sector (R65). -/
def directoryPlace (n c : Nat) : Nat × Nat := let slot := 2 * n + c; (slot % 3, slot / 3)

/-- Directory sectors that a band of a zone holds (R65). -/
def directoryRoom (zone : Nat) : Nat := 3 * sptOf zone / 2

/-- The place of copy `c` of passport record `n`: track offset and sector (R70). -/
def passportPlace (n c : Nat) : Nat × Nat := (3 + 512 * c + n % 512, n / 512)

/-- Passport records per side (R70). -/
abbrev passportRoom : Nat := 31744

/-- The frame of a band that holds its `d`-th data sector, counting frames in the order of R55. -/
def frameOfData (p d : Nat) : Nat := d / 16 * (16 + p) + d % 16

/-- The sectors of a track that recorded skipped runs leave, up to `spt`: a run takes its first sector and all after it. -/
def usableOn (runs : List (Nat × Nat)) (spt track : Nat) : Nat :=
  (runs.filter (fun r => r.1 == track)).foldl (fun a r => min a r.2) spt

/-- The place of the `n`-th usable frame at or after a track offset, within `fuel` tracks (R55). -/
def placeFrom (runs : List (Nat × Nat)) (spt : Nat) : Nat → Nat → Nat → Option (Nat × Nat)
  | 0, _, _ => none
  | fuel + 1, track, n =>
    let u := usableOn runs spt track
    if n < u then some (track, n) else placeFrom runs spt fuel (track + 1) (n - u)

/-! ### Bits and CRC-32 (R64) -/

/-- The bits of a byte, most significant first. -/
def byteBits (b : Byte) : List Bool := (List.range 8).map (fun i => b.getLsbD (7 - i))

def bytesBits (l : List Byte) : List Bool := l.flatMap byteBits

/-- The `w` bits of `v`, most significant first. -/
def natBits (w v : Nat) : List Bool := (List.range w).map (fun i => bitAt v (w - 1 - i))

def crc32Bit (c : BitVec 32) : BitVec 32 := if c.getLsbD 0 then (c >>> 1) ^^^ 0xEDB88320#32 else c >>> 1

def crc32Byte (c : BitVec 32) (b : Byte) : BitVec 32 :=
  (List.range 8).foldl (fun c _ => crc32Bit c) (c ^^^ b.setWidth 32)

/-- The IEEE 802.3 CRC-32 of R64. -/
def crc32 (l : List Byte) : BitVec 32 := ~~~(l.foldl crc32Byte 0xFFFFFFFF#32)

/-- 60 bytes followed by their CRC. -/
def withCrc (l : List Byte) : List Byte := l ++ leBytes 4 (crc32 l).toNat

/-- The 4,096 bytes of a sector. -/
def sectorBytes (d : Sector) : List Byte := leBytes 4096 d.toNat

/-! ### Headers and records (R64, R66, R71) -/

/-- A sector header (R64). -/
structure Header where
  vol : Nat
  lsa : Nat
  seq : Nat
  strand : Nat
  type : Nat := 0
  chunkSector : Nat := 0
  chunkBytes : Nat := 0
  poison : Bool := false
  relocated : Bool := false
  position : Nat := 0
  parity : Nat := 0
deriving DecidableEq, Repr

def Header.descriptor (h : Header) : Nat := h.type * 2 ^ 28 + h.chunkSector % 32 * 2 ^ 23 + h.chunkBytes % 2 ^ 17

/-- The 64 bytes of a header. -/
def Header.bytes (h : Header) : List Byte :=
  withCrc (leBytes 2 (h.vol % 4096) ++ leBytes 6 h.lsa ++ leBytes 8 h.seq ++ leBytes 4 (h.strand % 2 ^ 18) ++
    leBytes 4 h.descriptor ++ leBytes 1 (h.poison.toNat + 2 * h.relocated.toNat) ++
    leBytes 1 (h.position % 32 + 32 * h.parity) ++ zeroBytes 34)

/-- What bytes 0 to 59 of a header say, whatever their CRC (R64). -/
def Header.read (b : List Byte) : Header :=
  let at_ (i n : Nat) : Nat := ofLeBytes ((b.drop i).take n)
  let d := at_ 20 4
  { vol := at_ 0 2 % 4096, lsa := at_ 2 6, seq := at_ 8 8, strand := at_ 16 4 % 2 ^ 18, type := d / 2 ^ 28, chunkSector := bitsOf d 23 5
    chunkBytes := d % 2 ^ 17, poison := bitAt (at_ 24 1) 0, relocated := bitAt (at_ 24 1) 1, position := at_ 25 1 % 32
    parity := at_ 25 1 / 32 }

/-- Whether a header's CRC matches its bytes 0 to 59 (R64). -/
def headerOk (b : List Byte) : Bool := (b.drop 60).take 4 == leBytes 4 (crc32 (b.take 60)).toNat

/-- The payload of a relocated data sector (R257): a new sequence number, FLAGS.RELOCATED and the CRC anew; everything else as it was. -/
def relocatedPayload (payload : List Byte) (seq : Nat) : List Byte :=
  let flags : Nat := (payload.getD 24 0).toNat
  withCrc (payload.take 8 ++ leBytes 8 seq ++ (payload.drop 16).take 8 ++ leBytes 1 (if bitAt flags 1 then flags else flags + 2) ++
    (payload.drop 25).take 35) ++ payload.drop 64

/-- A directory entry of 32 bytes (R66): kind and fields, in the order of the table. -/
def directoryEntry (kind : Nat) (f : List Nat) : List Byte :=
  let g (i : Nat) : Nat := f.getD i 0
  match kind with
  | 0x10 => leBytes 1 0x10 ++ zeroBytes 1 ++ leBytes 2 (g 0) ++ leBytes 4 (g 1) ++ leBytes 8 (g 2) ++ leBytes 2 (g 3) ++ zeroBytes 14
  | 0x01 => leBytes 1 0x01 ++ leBytes 1 (g 0) ++ leBytes 2 (g 1) ++ leBytes 2 (g 2) ++ leBytes 1 (g 3) ++ zeroBytes 1 ++
      leBytes 4 (g 4) ++ leBytes 6 (g 5) ++ leBytes 6 (g 6) ++ leBytes 8 (g 7)
  | 0x02 => leBytes 1 0x02 ++ zeroBytes 1 ++ leBytes 2 (g 0) ++ leBytes 1 (g 1) ++ zeroBytes 1 ++ leBytes 2 (g 2) ++
      leBytes 1 (g 3) ++ zeroBytes 7 ++ leBytes 8 (g 4) ++ zeroBytes 8
  | 0x03 => leBytes 1 0x03 ++ leBytes 1 (g 0) ++ leBytes 2 (g 1) ++ leBytes 1 (g 2) ++ zeroBytes 1 ++ leBytes 2 (g 3) ++
      leBytes 8 (g 4) ++ zeroBytes 16
  | 0x04 => leBytes 1 0x04 ++ zeroBytes 7 ++ leBytes 8 (g 0) ++ leBytes 8 (g 1) ++ zeroBytes 8
  | _ => zeroBytes 32

/-- The user bytes of directory sector `n` of a band, its preface first, over entries (R66). -/
def directorySector (band n disc : Nat) (entries : List (Nat × List Nat)) : List Byte :=
  let e := entries.take 127
  let b := directoryEntry 0x10 [band, n, disc, e.length] ++ e.flatMap (fun x => directoryEntry x.1 x.2)
  b ++ zeroBytes (4096 - b.length)

/-- Kind and fields of a directory entry, in the order of the table (R66); none for an entry that is unused or of no kind. -/
def readEntry (b : List Byte) : Option (Nat × List Nat) :=
  let at_ (i n : Nat) : Nat := ofLeBytes ((b.drop i).take n)
  match at_ 0 1 with
  | 0x10 => some (0x10, [at_ 2 2, at_ 4 4, at_ 8 8, at_ 16 2])
  | 0x01 => some (0x01, [at_ 1 1, at_ 2 2, at_ 4 2, at_ 6 1, at_ 8 4, at_ 12 6, at_ 18 6, at_ 24 8])
  | 0x02 => some (0x02, [at_ 2 2, at_ 4 1, at_ 6 2, at_ 8 1, at_ 16 8])
  | 0x03 => some (0x03, [at_ 1 1, at_ 2 2, at_ 4 1, at_ 6 2, at_ 8 8])
  | 0x04 => some (0x04, [at_ 8 8, at_ 16 8])
  | _ => none

/-- The entries of a directory, its sectors in ascending order, each the first copy that decoded; an entry that repeats a preceding one is
taken once (R66, R259). -/
def readDirectory (sectors : List (List Byte)) : List (Nat × List Nat) :=
  ((sectors.flatMap (fun u => (List.range 127).filterMap (fun i => readEntry ((u.drop (32 * (i + 1))).take 32))))).eraseDups

/-- Bytes 0 to 4,031 of a passport record (R71). -/
def passportBody (kind number disc time seq writer : Nat) (body : List Byte) : List Byte :=
  let b := leBytes 2 kind ++ leBytes 2 1 ++ leBytes 4 number ++ leBytes 8 disc ++ leBytes 8 time ++ leBytes 8 seq ++
    beBytes 16 writer ++ body
  b ++ zeroBytes (4032 - b.length)

/-! ### Scrambler (R59) -/

/-- One step of the scrambler: its output bit and next state. -/
def scramblerStep (s : BitVec 16) : Bool × BitVec 16 :=
  let o := s.getLsbD 0
  let f := o ^^ s.getLsbD 2 ^^ s.getLsbD 3 ^^ s.getLsbD 5
  (o, (s >>> 1) ||| ((BitVec.ofBool f).setWidth 16 <<< 15))

/-- The seed for sector index `k` of track `t`. -/
def scramblerSeed (t k : Nat) : BitVec 16 :=
  let v := BitVec.ofNat 16 t ^^^ (BitVec.ofNat 16 k <<< 8) ^^^ 0x5A3C#16
  if v = 0 then 1 else v

def scramble : BitVec 16 → List Bool → List Bool
  | _, [] => []
  | s, b :: bs => let r := scramblerStep s; (b ^^ r.1) :: scramble r.2 bs

/-! ### Modulation and the frame (R56 to R58) -/

/-- The base code of a pair. -/
def basePair (x y : Bool) : List Bool :=
  if x then (if y then [true, false, true] else [true, false, false])
  else (if y then [false, false, true] else [false, true, false])

/-- The modulation of one segment, two data bits to three channel bits (R58). -/
def modulate : List Bool → List Bool
  | x :: true :: true :: z :: rest =>
    (if x then (if z then [true, false, false, false, false, false] else [true, false, true, false, false, false])
     else (if z then [false, true, false, false, false, false] else [false, false, true, false, false, false])) ++
    modulate rest
  | x :: y :: rest => basePair x y ++ modulate rest
  | _ => []

/-- The data of a codeword by the base table; none for a word that the table does not hold. -/
def baseData : Bool → Bool → Bool → Option (List Bool)
  | false, true, false => some [false, false]
  | false, false, true => some [false, true]
  | true, false, false => some [true, false]
  | true, false, true => some [true, true]
  | _, _, _ => none

/-- The data of a codeword followed by 000, by the substitution table. -/
def substData : Bool → Bool → Bool → Option (List Bool)
  | false, false, true => some [false, true, true, false]
  | false, true, false => some [false, true, true, true]
  | true, false, true => some [true, true, true, false]
  | true, false, false => some [true, true, true, true]
  | _, _, _ => none

/-- Demodulation of one segment (R58): a codeword followed by 000 through the substitution table, any other through the base table. -/
def demodulate : List Bool → Option (List Bool)
  | a :: b :: c :: false :: false :: false :: rest => do return (← substData a b c) ++ (← demodulate rest)
  | a :: b :: c :: rest => do return (← baseData a b c) ++ (← demodulate rest)
  | [] => some []
  | _ => none

/-- Level and running digital sum after channel bits, from a level and a sum (R57). -/
def rdsAfter (st : Bool × Int) (bits : List Bool) : Bool × Int :=
  bits.foldl (fun a b => let l := a.1 ^^ b; (l, a.2 + (if l then 1 else -1))) st

/-- Resync marks A and B. -/
def markA : List Bool := natBits 24 0x201004
def markB : List Bool := natBits 24 0x500802

/-- The resync mark and modulated segments after the first, each with the mark of smaller running digital sum (R57). -/
def markSegments (st : Bool × Int) : List (List Bool) → List Bool
  | [] => []
  | g :: gs =>
    let a := markA ++ g
    let b := markB ++ g
    let best := if (rdsAfter st b).2.natAbs < (rdsAfter st a).2.natAbs then b else a
    best ++ markSegments (rdsAfter st best) gs

def preamble : List Bool := (List.replicate 64 [false, true, false]).flatten
def syncMark : List Bool := natBits 48 0x200200245094
def postamble : List Bool := (List.replicate 16 [false, true, false]).flatten

/-- The modulated segments of a scrambled codeword. -/
def segments (code : List Bool) : List (List Bool) :=
  (List.range 24).map (fun i => modulate ((code.drop (1560 * i)).take 1560))

/-- The 57,000 channel bits of a frame (R56), at a track and sector index. -/
def frameBits (track sector : Nat) (code : List Bool) : List Bool :=
  let segs := segments (scramble (scramblerSeed track sector) code)
  let head := preamble ++ syncMark ++ segs.headD []
  head ++ markSegments (rdsAfter (false, 0) head) segs.tail ++ postamble

/-- The codeword that the channel bits of a frame carry at a track and sector index, whichever resync marks they hold (R56 to R59). -/
def frameCode (track sector : Nat) (bits : List Bool) : Option (List Bool) := do
  let segs ← (List.range 24).mapM (fun i => demodulate ((bits.drop (240 + 2364 * i)).take 2340))
  return scramble (scramblerSeed track sector) segs.flatten

/-- The levels that channel bits write in NRZI from the space level: true for a mark (R56, R249). -/
def nrzi (bits : List Bool) : List Bool :=
  (bits.foldl (fun (a : Bool × List Bool) b => let l := a.1 ^^ b; (l, l :: a.2)) (false, [])).2.reverse

/-! ### Inner code (R60, R61) -/

def ldpcA : List Nat := [1, 5, 9, 17, 31, 43, 67, 101]

def ldpcB : List Nat :=
  [0, 1, 2, 4, 7, 12, 20, 31, 45, 58, 66, 79] ++ [91, 104, 113, 127, 138, 149, 157, 166, 178, 187, 196, 205] ++
  [214, 226, 233, 241, 250, 262, 271, 283, 290, 299, 307, 316] ++ [324, 331, 342, 350, 357, 366, 373, 381, 389, 396, 404, 411] ++
  [418, 425, 431, 437, 444, 450, 455, 461, 466, 472, 477, 482] ++ [486, 490, 494, 497, 501, 503, 506, 509, 511, 514, 516, 518]

/-- The codeword bits that row `r` of block row `i` of H checks (R60). -/
def checkBits (i r : Nat) : List Nat :=
  (List.range 72).map (fun j => 520 * j + (r + ldpcA.getD i 0 * ldpcB.getD j 0) % 520)

/-- Whether the row is satisfied: even parity over its bits. -/
def checkOk (c : List Bool) (i r : Nat) : Bool := !((checkBits i r).foldl (fun a n => a ^^ c.getD n false) false)

/-- The number of unsatisfied checks W (R255). -/
def unsatisfied (c : List Bool) : Nat :=
  ((List.range 8).flatMap (fun i => (List.range 520).map (fun r => (checkOk c i r)))).count false

/-- Gauss-Jordan elimination over GF(2) on rows held as numbers, whose bit `n` is column n: the pivot rows with their columns. -/
def eliminate : List Nat → List Nat → List (Nat × Nat) → List (Nat × Nat)
  | [], _, piv => piv
  | c :: cs, rows, piv =>
    match rows.find? (fun r => bitAt r c) with
    | none => eliminate cs rows piv
    | some p =>
      let sub (r : Nat) : Nat := if bitAt r c then r ^^^ p else r
      eliminate cs ((rows.erase p).map sub) ((c, p) :: piv.map (fun q => (q.1, sub q.2)))

/-- The 4,160 parity bits of a payload's 33,280 bits: bits 33,280 + 520u, u = 1 to 7, are zero and the others solve H·c = 0
(R61). -/
def ldpcParity (payload : List Bool) : List Bool :=
  let free := (List.range 4160).filter (fun n => !(n % 520 == 0 && n != 0))
  let row (i r : Nat) : Nat :=
    (checkBits i r).foldl (fun a n =>
      if n < 33280 then a ^^^ (if payload.getD n false then 2 ^ 4160 else 0) else a ^^^ 2 ^ (n - 33280)) 0
  let rows := (List.range 8).flatMap (fun i => (List.range 520).map (row i))
  let piv := eliminate free rows []
  (List.range 4160).map (fun n => match piv.find? (fun q => q.1 == n) with
    | some q => bitAt q.2 4160
    | none => false)

/-- The bytes that bits spell, most significant first. -/
def bitsBytes : Nat → List Bool → List Byte
  | 0, _ => []
  | n + 1, l => BitVec.ofNat 8 ((l.take 8).foldl (fun a b => 2 * a + b.toNat) 0) :: bitsBytes n (l.drop 8)

/-- The payload of a codeword (R60). -/
def codePayload (c : List Bool) : List Byte := bitsBytes 4160 c

/-- The codeword of a 4,160-byte payload (R60). -/
def encodeSector (payload : List Byte) : List Bool := let b := bytesBits payload; b ++ ldpcParity b

/-! ### Outer code (R62, R63) -/

/-- Multiplication by x in GF(2^16) with x^16 + x^12 + x^3 + x + 1. -/
def gfDouble (a : BitVec 16) : BitVec 16 := if a.getLsbD 15 then (a <<< 1) ^^^ 0x100B#16 else a <<< 1

/-- The product in GF(2^16). -/
def gfMul (a b : BitVec 16) : BitVec 16 :=
  (List.range 16).foldr (fun i acc => gfDouble acc ^^^ (if b.getLsbD i then a else 0)) 0

def gfAlpha : Nat → BitVec 16
  | 0 => 1
  | n + 1 => gfDouble (gfAlpha n)

/-- g(x) = (x + α^0)…(x + α^(p−1)), coefficients from x^0. -/
def generator : Nat → List (BitVec 16)
  | 0 => [1]
  | n + 1 =>
    let g := generator n
    List.zipWith (· ^^^ ·) (0 :: g) (g.map (gfMul (gfAlpha n)) ++ [0])

/-- One step of the division by g: the remainder, highest coefficient first, takes the next data symbol. -/
def parityStep (g : List (BitVec 16)) (r : List (BitVec 16)) (d : BitVec 16) : List (BitVec 16) :=
  let t := r.headD 0 ^^^ d
  List.zipWith (· ^^^ ·) (r.tail ++ [0]) (g.map (gfMul t))

/-- The p parity symbols, coefficient of x^(p−1) first, of the 16 data symbols of one k (R62). -/
def outerParity (p : Nat) (data : List (BitVec 16)) : List (BitVec 16) :=
  data.foldl (parityStep ((generator p).dropLast.reverse)) (List.replicate p 0)

/-- The symbols of a payload: bytes 0 to 59 and 64 to 4,159, high byte first (R62). -/
def payloadSymbols : List Byte → List (BitVec 16)
  | a :: b :: rest => (a ++ b) :: payloadSymbols rest
  | _ => []

def sectorSymbols (payload : List Byte) : List (BitVec 16) := payloadSymbols (payload.take 60 ++ payload.drop 64)

/-- The parity sectors of a block's 16 payloads (R62, R63). -/
def paritySectors (p : Nat) (data : List (List Byte)) : List (List Byte) :=
  let syms := data.map sectorSymbols
  let cols := (List.range 2078).map (fun k => outerParity p (syms.map (fun s => s.getD k 0)))
  (List.range p).map (fun q =>
    let b := cols.flatMap (fun c => beBytes 2 (c.getD q 0).toNat)
    withCrc (b.take 60) ++ b.drop 60)

/-! ### Rebuilding erased sectors (R62, R63, R236) -/

/-- The inverse in GF(2^16), a^(2^16 − 2). -/
def gfInv (a : BitVec 16) : BitVec 16 :=
  ((List.range 15).foldl (fun (x : BitVec 16 × BitVec 16) _ => let q := gfMul x.1 x.1; (q, gfMul x.2 q)) (a, 1)).2

/-- The solution of n linear equations over GF(2^16), each its coefficients followed by the right side; `piv` are the pivot rows so far. Those of erased
symbols, no more than there are parity symbols, have one solution. -/
def gfSolve : Nat → List (List (BitVec 16)) → List (List (BitVec 16)) → List (BitVec 16)
  | 0, _, piv => piv.map (fun r => r.headD 0)
  | n + 1, rows, piv =>
    match rows.find? (fun r => r.headD 0 != 0) with
    | none => []
    | some r =>
      let unit := r.map (gfMul (gfInv (r.headD 0)))
      let sub (x : List (BitVec 16)) : List (BitVec 16) := (List.zipWith (· ^^^ ·) x (unit.map (gfMul (x.headD 0)))).tail
      gfSolve n ((rows.erase r).map sub) (piv.map sub ++ [unit.tail])

/-- One column of a block with its erased symbols rebuilt: the codeword, highest power first, has the roots α^0 to α^(p−1) (R62). -/
def rebuildColumn (p : Nat) (col : List (Option (BitVec 16))) : List (BitVec 16) :=
  let n := 16 + p
  let gone := (List.range n).filter (fun i => (col.getD i none).isNone)
  let weight (j i : Nat) : BitVec 16 := gfAlpha (j * (n - 1 - i))
  let row (j : Nat) : List (BitVec 16) :=
    gone.map (weight j) ++ [(List.range n).foldl (fun a i => a ^^^ gfMul ((col.getD i none).getD 0) (weight j i)) 0]
  let x := gfSolve gone.length ((List.range gone.length).map row) []
  (List.range n).map (fun i => match col.getD i none with
    | some v => v
    | none => x.getD (gone.idxOf i) 0)

/-- The payload that symbols make, with the CRC of its bytes 0 to 59 (R63). -/
def symbolsPayload (l : List (BitVec 16)) : List Byte :=
  let b := l.flatMap (fun v => beBytes 2 v.toNat)
  withCrc (b.take 60) ++ b.drop 60

/-- The sectors of a block, 16 of data and p of parity, with the erased ones rebuilt; none where more than p are erased (R62, R63, R234). -/
def rebuildBlock (p : Nat) (sectors : List (Option (List Byte))) : Option (List (List Byte)) :=
  if p < (sectors.filter Option.isNone).length then none
  else
    let syms := sectors.map (fun x => x.map sectorSymbols)
    let cols := (List.range 2078).map (fun k => rebuildColumn p (syms.map (fun s => s.map (fun l => l.getD k 0))))
    some ((List.range (16 + p)).map (fun i =>
      match sectors.getD i none with
      | some b => b
      | none => symbolsPayload (cols.map (fun c => c.getD i 0))))

/-! ### Write strategy (R249, R250) -/

/-- Entry (M, S) of a LEAD or TRAIL register (R250). -/
def stratCode (v m s : Nat) : Nat := bitsOf v (6 * m + 2 * s) 2

/-- The class of a mark, and of a space (R249). -/
def markClass (n : Nat) : Nat := min n 5 - 2
def spaceClass (n : Nat) : Nat := min n 4 - 2

/-- The runs of a list of levels: level and length. -/
def runsOf {α : Type} [DecidableEq α] : List α → List (α × Nat)
  | [] => []
  | b :: bs =>
    match runsOf bs with
    | (l, n) :: rest => if l = b then (l, n + 1) :: rest else (b, 1) :: (l, n) :: rest
    | [] => [(b, 1)]

/-- What lies before a run of one data interval: a spoke, bits outside the frames being written, a space or a mark of some bits. -/
inductive Before where
  | spoke
  | outside
  | space (n : Nat)
  | mark (n : Nat)
deriving DecidableEq, Repr

/-- The class of the space before a mark: a spoke and bits outside the written frames are of class 2. -/
def Before.leadClass : Before → Nat
  | .space n => spaceClass n
  | _ => 2

/-- The symbols (LEVEL, SHIFT) of the runs of one data interval, where no level stands for bits outside the frames being written: LEVEL 0, and a space of class 2
together with the space that they adjoin (R249). -/
def runSymbols (lead trail : Nat) (coolEn : Bool) : Before → List (Option Bool × Nat) → List (Nat × Nat)
  | _, [] => []
  | _, (none, n) :: rest => List.replicate n (0, 0) ++ runSymbols lead trail coolEn .outside rest
  | p, (some true, n) :: rest =>
    (2, stratCode lead (markClass n) p.leadClass) :: List.replicate (n - 1) (2, 0) ++ runSymbols lead trail coolEn (.mark n) rest
  | p, (some false, n) :: rest =>
    let open_ : Bool := rest.head?.any (fun r => r.1.isNone)
    (match p with
     | .mark m => (if coolEn then 3 else 1, stratCode trail (markClass m) (if open_ then 2 else spaceClass n))
     | _ => (1, 0)) :: List.replicate (n - 1) (1, 0) ++ runSymbols lead trail coolEn (.space (if p = .outside then 4 else n)) rest

/-- The symbols of the bits of one data interval, up to the last one written (R249, R253). -/
def symbolsOf (lead trail : Nat) (coolEn : Bool) (levels : List (Option Bool)) : List (Nat × Nat) :=
  (runSymbols lead trail coolEn .spoke (runsOf levels)).take (levels.reverse.dropWhile Option.isNone).length

/-- PERIOD of a START frame in 1/2^24 RF cycle (R253): 0.95 × P ÷ (128 × N_i), for P in 1/128 RF cycle. -/
def startPeriod (p n : Nat) : Nat := 95 * p * 2 ^ 24 / (100 * 128 * n)

end Sys2Proof.Machine
end

