-- ==== Sys2Proof/Machine/Decoder.lean ====
section
/-! DEFINITION. The LDPC decoder of the pool: normalised min-sum decoding, layered over the eight block rows of H (R222, R223). LLRs are in units of 0.5. -/

namespace Sys2Proof.Machine

/-- Posteriors of the codeword bits, and the message of each check to each of its 72 bits, by 72 × (520i + r) + j. -/
structure MinSum where
  post : Array Int
  msgs : Array Int

/-- The messages of a check to its bits, from what the bits tell it: the sign of the product of the others, and their smallest magnitude, normalised. -/
def checkMessages (l : List Int) : List Int :=
  let neg := (l.filter (fun x => decide (x < 0))).length
  let mags := l.map Int.natAbs
  let least := mags.foldl min (mags.headD 0)
  let n := mags.idxOf least
  let second := (mags.eraseIdx n).foldl min (2 ^ 32)
  l.zipIdx.map (fun x =>
    let m : Int := Config.normalised (if x.2 = n then second else least)
    if (neg - if x.1 < 0 then 1 else 0) % 2 = 1 then -m else m)

/-- Row `r` of block row `i`. -/
def MinSum.row (x : MinSum) (i r : Nat) : MinSum :=
  let bits := checkBits i r
  let base := 72 * (520 * i + r)
  let told := bits.zipIdx.map (fun b => x.post.getD b.1 0 - x.msgs.getD (base + b.2) 0)
  let new := checkMessages told
  { post := (bits.zip (List.zipWith (· + ·) told new)).foldl (fun a b => a.setIfInBounds b.1 b.2) x.post
    msgs := new.zipIdx.foldl (fun a m => a.setIfInBounds (base + m.2) m.1) x.msgs }

/-- One local iteration: the block rows in order. -/
def MinSum.sweep (x : MinSum) : MinSum :=
  (List.range 8).foldl (fun x i => (List.range 520).foldl (fun x r => x.row i r) x) x

def MinSum.hard (x : MinSum) : List Bool := x.post.toList.map (fun v => decide (v < 0))

/-- Local iterations up to `n`, until the first zero syndrome: the state, those made, and the unsatisfied checks. -/
def MinSum.iterate : Nat → Nat → MinSum → MinSum × Nat × Nat
  | 0, done, x => (x, done, unsatisfied x.hard)
  | n + 1, done, x =>
    let y := x.sweep
    if unsatisfied y.hard = 0 then (y, done + 1, 0) else MinSum.iterate n (done + 1) y

/-- What the decoder gives for one global iteration: a posteriori LLRs and extrinsics in 6 bits, hard decisions, local iterations made, unsatisfied checks. -/
structure Attempt where
  post : List Int
  extrinsic : List Int
  hard : List Bool
  iterations : Nat
  unsatisfied : Nat

/-- The seven fixed parity bits (R61). -/
def fixedBit (n : Nat) : Bool := decide (33280 < n) && n % 520 == 0

/-- Decoding of the LLRs of a codeword's bits, at most `most` local iterations; the fixed parity bits are known zeros (R61, R223). -/
def decodeLlrs (most : Nat) (llr : List Int) : Attempt :=
  let given := (List.range 37440).map (fun n => if fixedBit n then 2 ^ 20 else llr.getD n 0)
  let r := MinSum.iterate most 0 { post := given.toArray, msgs := Array.replicate 299520 0 }
  let post := r.1.post.toList
  { post := post.map (clampInt (-32) 31), extrinsic := List.zipWith (fun p g => clampInt (-32) 31 (p - g)) post given
    hard := r.1.hard, iterations := r.2.1, unsatisfied := r.2.2 }

end Sys2Proof.Machine
end

