-- ==== Sys2Proof/Machine/Lanes.lean ====
section
/-! DEFINITION. The signal path of a read lane, from ADC codes to flagged frames: trims, gain, interpolation, baseline removal, equaliser and its
adaptation, timing recovery, sector sync and resync, polarity, and the companding of retained samples (R187, R191, R192, R194, R196, R197, R199 to R204,
R225). -/

namespace Sys2Proof.Machine

/-! ### Decibels (R191, R335) -/

/-- The next `n` bits of the binary logarithm of a mantissa in [1, 2), held in 1/2^64, after those of `acc`. -/
def logBits : Nat → Nat → Nat → Nat
  | 0, _, acc => acc
  | n + 1, m, acc =>
    let q := m * m / 2 ^ 64
    if 2 ^ 65 ≤ q then logBits n (q / 2) (2 * acc + 1) else logBits n q (2 * acc)

/-- log2(a ÷ b) in 1/2^48, for a and b other than 0. -/
def log2Ratio (a b : Nat) : Int :=
  let s := Nat.log2 b + 64
  let q := a * 2 ^ s / b
  let k := Nat.log2 q
  ((k : Int) - s) * 2 ^ 48 + logBits 48 (q * 2 ^ 64 / 2 ^ k) 0

/-- 20·log10(a ÷ b) in 1/4,096 dB: the code below it, or the one above it where the part rounds up. log10(2) is 30102999566398119521 ÷ 10^20. -/
def decibels (a b : Nat) : Int :=
  if a = 0 ∨ b = 0 then Config.openDecibels a b
  else if a = b then 0
  else floorDiv (81920 * 30102999566398119521 * log2Ratio a b) (10 ^ 20 * 2 ^ 48) + (Config.decibelsUp a b).toNat

/-- The factor of a fine gain in 1/2^30, by powers of 10^(1 ÷ 81,920), which is 18447262577064833008 ÷ 2^64. -/
def fineFactor (fine : Int) : Int :=
  if fine = 0 then 2 ^ 30
  else
    let p := ((List.range 14).foldl (fun (a : Nat × Nat) i => (if bitAt fine.natAbs i then a.1 * a.2 / 2 ^ 64 else a.1, a.2 * a.2 / 2 ^ 64))
      (2 ^ 64, 18447262577064833008)).1
    ((if 0 < fine then p else 2 ^ 128 / p) / 2 ^ 34 : Nat) + (Config.fineUp fine).toNat

/-! ### What a lane is set to -/

/-- The settings of a lane and its input for one frame. -/
structure LaneSet where
  /-- MAP, and OFFSET and GAIN of each sub-ADC (R187). SKEW moves the instant at which a code is taken, and is in the code. -/
  map : Nat
  trims : List (Int × Int)
  /-- POL_INV (R194). -/
  inverted : Bool
  /-- The power ratio, in 1/4,096, that a sample of the T input is divided by, by the sample's number (R254). -/
  power : Nat → Nat
  /-- AGC_RATE, AGC_TARGET, and whether the gain holds whatever the frame (R191, R193). -/
  rate : Nat
  target : Nat
  hold : Bool
  taps : List Int
  kpAcq : Nat
  kpTrk : Nat
  ki : Nat
  win : Nat
  least : Nat
  rwin : Nat
  rleast : Nat

/-- Quotient by ρ ÷ 4,096, rounded towards minus infinity; by a ratio of 0 the spec states none (R254). -/
def dividePower (sample : Int) (rho : Nat) : Int :=
  if rho = 0 then Config.openQuotient sample else if rho = 4096 then sample else floorDiv (4096 * sample) rho

/-- Code `x` of sample `m` at a fine gain, in 1/256 LSB: trimmed, divided by the power of the light, negated by POL_INV (R187, R191, R194, R254). -/
def LaneSet.sample (c : LaneSet) (fine : Int) (m : Nat) (x : Int) : Int :=
  let t := c.trims.getD (bitsOf c.map (4 * (m % 8)) 4) (0, 0)
  let v := dividePower ((8 * x - t.1) * (16384 + t.2)) (c.power m)
  floorDiv ((if c.inverted then -v else v) * fineFactor fine) (2 ^ 39)

/-- The sample between eight at a phase of 1/64 RF cycle (R196). -/
def interpolate (phase : Nat) (l : List Int) : Int := floorDiv (l.zipIdx.map (fun x => Config.interpolator phase x.2 * x.1)).sum 32768

/-! ### Baseline and equaliser (R196, R197) -/

/-- One channel bit: the sample joins the last 1,024, their mean is taken off it, and the equaliser, whose middle tap meets the bit seven before,
gives that bit's output. Windows, inputs and output. -/
def filterBit (taps window delay : List Int) (x : Int) : List Int × List Int × Option Int :=
  let w := (x :: window).take 1024
  let d := ((x - floorDiv w.sum w.length) :: delay).take 15
  (w, d, if 8 ≤ d.length then some (clampInt (-512) 511 (floorDiv (List.zipWith (· * ·) taps d).sum (8192 * 256))) else none)

/-- The level of an output: a mark reads at the more negative level (R186). -/
def levelOf (y : Int) : Int := if y < 0 then -1 else 1

/-- The output that the target [1, γ, 1] asks for between three levels, of which AGC_TARGET is the mean magnitude (R196, R225). -/
def targetOutput (agc gamma : Nat) (before level after : Int) : Int := floorDiv (agc * (32 * (before + after) + gamma * level)) (32 + gamma)

/-- One bit of adaptation by least mean squares: the tentative decisions are the signs of the outputs, and the step is 2^−(MU+10) (R197). -/
def adaptBit (mu agc gamma : Nat) (taps : List Int) (inputs : List Int) (before y after : Int) : List Int :=
  let e := y - targetOutput agc gamma (levelOf before) (levelOf y) (levelOf after)
  taps.zipIdx.map (fun t => clampInt (-16384) 16384 (t.1 - floorDiv (e * inputs.getD t.2 0 * Config.lmsScale) (2 ^ (mu + 42))))

/-- Adaptation over a run of outputs, each with the equaliser's inputs that gave it (R197). -/
def adaptBits (mu agc gamma : Nat) : List Int → List (Int × List Int) → List Int
  | taps, a :: b :: c :: rest => adaptBits mu agc gamma (adaptBit mu agc gamma taps b.2 a.1 b.1 c.1) (b :: c :: rest)
  | taps, _ => taps

/-! ### Timing recovery (R199, R200) -/

/-- The timing loop: the time of the next bit from the end of the spoke in 1/2^24 RF cycle, f in 2^−31, whether f was held at its clamp. -/
structure Timing where
  time : Int := 0
  freq : Int := 0
  held : Bool := false
deriving DecidableEq, Repr

/-- f at ±0.5 %. -/
abbrev freqLimit : Int := 10737418

/-- One bit of the loop: the error moves f by 2^−KI and the phase by 2^−KP of itself, and the next bit lies T × (1 + f) on. -/
def timingBit (kp ki period : Nat) (c : Timing) (e : Int) : Timing :=
  let want := c.freq + floorDiv e (2 ^ ki)
  let f := clampInt (-freqLimit) freqLimit want
  { time := c.time + floorDiv (period * (2 ^ 31 + f)) (2 ^ 31) + floorDiv (period * floorDiv e (2 ^ kp)) (2 ^ 31)
    freq := f, held := c.held || f != want }

/-- The error of the Mueller–Müller detector between an output and the one before, in 1/2^31 of a bit period: negative where the lane samples late. -/
def detectorError (before y : Int) : Int := (y * levelOf before - before * levelOf y) * Config.detectorScale

/-! ### Sector sync and resync (R201, R202) -/

/-- Hard bits: the transitions of the sliced output, from the second output on. -/
def hardBits (l : List Int) : List Bool := List.zipWith (fun a b => decide (a < 0) != decide (b < 0)) l l.tail

/-- How many bits of a mark agree. -/
def agreement (mark bits : List Bool) : Nat := ((mark.zip bits).filter (fun p => p.1 == p.2)).length

/-- Scores at the 2·`win` + 1 positions of a mark of `len` bits that lie in the last outputs, newest first. -/
def scoresAt (score : List Bool → Nat) (win len : Nat) (outs : List Int) : List (Int × Nat) :=
  let bits := hardBits (outs.take (len + 2 * win + 1)).reverse
  (List.range (2 * win + 1)).map (fun (j : Nat) => ((j : Int) - win, score ((bits.drop j).take len)))

/-- The better of two positions: higher score, then nearer, then earlier. -/
def betterSync (x y : Int × Nat) : Int × Nat :=
  if x.2 < y.2 ∨ (x.2 = y.2 ∧ (y.1.natAbs < x.1.natAbs ∨ (y.1.natAbs = x.1.natAbs ∧ y.1 < x.1))) then y else x

/-- The best position whose score reaches the minimum. -/
def pickPosition (least : Nat) (l : List (Int × Nat)) : Option (Int × Nat) :=
  match l.filter (fun p => decide (least ≤ p.2)) with
  | [] => none
  | p :: ps => some (ps.foldl betterSync p)

/-- A position is scored against both resync marks, and the higher score counts (R202). -/
def markScore (bits : List Bool) : Nat := max (agreement markA bits) (agreement markB bits)

/-- The first channel bit of segment `s` in a frame (R56). -/
def segmentAt (s : Nat) : Nat := 240 + 2364 * s

/-- What a lane finds in one frame. -/
structure FrameFlags where
  found : Bool
  score : Nat
  /-- Offset of the sync mark from the flywheel position. -/
  offset : Int
  segs : List SegFlag
deriving DecidableEq, Repr

def FrameFlags.slips (f : FrameFlags) : Nat := (f.segs.filter SegFlag.slipped).length

/-! ### A lane from bit to bit (R191 to R202) -/

/-- What a lane holds from one channel bit to the next. -/
structure LanePass where
  /-- The data interval whose bits it takes, by where it begins, and how many it has taken. -/
  interval : Option Nat := none
  done : Nat := 0
  window : List Int := []
  delay : List Int := []
  timing : Timing := {}
  /-- Outputs, newest first, each with the equaliser's inputs that gave it, and the angle of each bit sampled, newest first; how many of them lie before
  the frame's flywheel start, and how many outputs there are. -/
  outs : List (Int × List Int) := []
  angles : List Nat := []
  lead : Int := 0
  count : Nat := 0
  /-- Sync once it is decided, its score and offset; the segments that are done, newest first, and the flag of the present one. -/
  sync : Option Bool := none
  score : Nat := 0
  offset : Int := 0
  segs : List SegFlag := []
  seg : SegFlag := { anchor := .flywheel }
  /-- Gain: PGA and fine gain, the data bits measured and their magnitudes (R191); codes counted up to a number, those of them in the interval and at
  −128 or 127, whether the last interval clipped, and the runs that began (R192). -/
  pga : Nat := 0
  fine : Int := 0
  bits : Nat := 0
  sum : Nat := 0
  counted : Nat := 0
  seen : Nat := 0
  ends : Nat := 0
  clipping : Bool := false
  clips : Nat := 0
deriving DecidableEq, Repr

/-- Whether the gain holds (R193). -/
def LanePass.holds (c : LanePass) (x : LaneSet) : Bool := x.hold || c.sync == some false

/-- The mean magnitude of every 64 channel bits of data segments moves the fine gain, held to ±1.5 dB (R191). Bits are measured 16 late, when their place is
known. -/
def LanePass.measure (c : LanePass) (x : LaneSet) : LanePass :=
  let n : Int := c.count - c.lead - 17 - c.seg.shift - segmentAt c.segs.length
  if c.holds x ∨ c.sync.isNone ∨ n < 0 ∨ 2340 ≤ n then c
  else
    let sum := c.sum + ((c.outs[16]?).map (fun y => y.1.natAbs)).getD 0
    if c.bits < 63 then { c with bits := c.bits + 1, sum := sum }
    else { c with
      bits := 0, sum := 0
      fine := clampInt (-6144) 6144 (c.fine + floorDiv (decibels x.target (sum / 64)) (2 ^ x.rate)) }

/-- Sync and resync, once all outputs of a search window are there (R201, R202). -/
def LanePass.search (c : LanePass) (x : LaneSet) : LanePass :=
  let n : Int := c.count - c.lead
  let outs (k : Nat) : List Int := (c.outs.take k).map Prod.fst
  match c.sync with
  | none =>
    if n < 240 + x.win then c
    else
      let l := scoresAt (agreement syncMark) x.win 48 (outs (49 + 2 * x.win))
      let p := pickPosition x.least l
      let d : Int := (p.map Prod.fst).getD 0
      { c with sync := some p.isSome, score := (l.map Prod.snd).foldl max 0, offset := d
               seg := { anchor := if p.isSome then .sync else .flywheel, shift := d } }
  | some _ =>
    if 23 ≤ c.segs.length ∨ n < segmentAt (c.segs.length + 1) + c.seg.shift + x.rwin then c
    else
      match pickPosition x.rleast (scoresAt markScore x.rwin 24 (outs (25 + 2 * x.rwin))) with
      | none => { c with segs := c.seg :: c.segs }
      | some p => { c with segs := { c.seg with slipped := p.1 != 0 } :: c.segs, seg := { anchor := .resync, shift := c.seg.shift + p.1 } }

/-- Whether the frame has ended: 57,000 bits after its start (R201). -/
def LanePass.ended (c : LanePass) : Bool := decide (c.lead + c.offset + 57000 ≤ c.count)

/-- One channel bit from the eight samples about its instant: interpolation, baseline, equaliser, searches, gain, and the loop, whose acquisition gain runs
until the frame's sync is found (R191, R196, R199). -/
def LanePass.bit (c : LanePass) (x : LaneSet) (period phase angle : Nat) (l : List Int) : LanePass :=
  let q := filterBit x.taps c.window c.delay (interpolate phase l)
  let e := match q.2.2, c.outs with
    | some y, b :: _ => detectorError b.1 y
    | _, _ => 0
  let t := timingBit (if c.sync = some true then x.kpTrk else x.kpAcq) x.ki period c.timing e
  let c := { c with window := q.1, delay := q.2.1, timing := t, angles := angle :: c.angles, done := c.done + 1 }
  match q.2.2 with
  | none => c
  | some y => (({ c with outs := (y, q.2.1) :: c.outs, count := c.count + 1 }).search x).measure x

/-- The bits of an interval, at most `n`, from its codes, the first of which is number `m`. The instant of a bit is found among the codes from three before it
to four after; a code before the first reads as 0. -/
def LanePass.run (x : LaneSet) (period from_ base p : Nat) : Nat → LanePass → Nat → List Int → LanePass
  | 0, c, _, _ => c
  | n + 1, c, m, codes =>
    let t := (from_ * 2 ^ 17 + c.timing.time).toNat
    let at_ := t / 2 ^ 24 - 3
    let l := (List.replicate (m - at_) 0 ++ codes.drop (at_ - m)).take 8
    if c.ended ∨ l.length < 8 then c
    else
      let y := l.zipIdx.map (fun v => x.sample c.fine (at_ + v.2) v.1)
      LanePass.run x period from_ base p n (c.bit x period (t % 2 ^ 24 / 2 ^ 18) (base + c.timing.time.toNat * 128 / p) y) (max m at_) (codes.drop (at_ - m))

/-- The PGA across the spoke that ends an interval (R192): a fine gain past 1.0 dB moves to it, and clipping lowers it by 1 dB. -/
def LanePass.spoke (c : LanePass) (x : LaneSet) : LanePass :=
  let clips : Bool := decide (c.seen < 1024 * c.ends)
  let c' := { c with seen := 0, ends := 0 }
  if c.holds x then c'
  else
    let step := if c.fine.natAbs ≤ 4096 then 0 else floorDiv (c.fine + 512) 1024
    let new := (clampInt 0 120 (c.pga + step)).toNat
    { c' with fine := c.fine - ((new : Int) - c.pga) * 1024, pga := if clips then new - 4 else new
              clipping := clips, clips := c.clips + (clips && !c.clipping).toNat }

/-- The codes of one data interval (R86, R199): where it has not begun, the nominal period is set anew and its first bit lies T ÷ 2 after the spoke; the lane
stops after its last bit. -/
def LanePass.take (c : LanePass) (x : LaneSet) (trail : Bool) (d : DataInterval) (part : IntervalRead) : LanePass :=
  let from_ := if trail then d.tFrom else d.dataFrom
  let period := startPeriod d.period d.bits
  let fresh := part.codes.drop (c.counted - part.first)
  let c := { c with
    counted := max c.counted (part.first + part.codes.length), seen := c.seen + fresh.length
    ends := c.ends + (fresh.filter (fun v => decide (v ≤ -128) || decide (127 ≤ v))).length }
  let c := if c.interval = some from_ then c
    else { c with interval := some from_, done := 0, timing := { c.timing with time := floorDiv (period * (2 ^ 31 + c.timing.freq)) (2 ^ 32) } }
  let r := LanePass.run x period from_ (d.index * 2 ^ 24) d.period (d.bits - c.done) c part.first part.codes
  if c.done < d.bits ∧ r.done = d.bits then r.spoke x else r

/-- The flags of the frame (R203); segments that were not reached keep the last alignment. -/
def LanePass.flags (c : LanePass) : FrameFlags :=
  { found := c.sync == some true, score := c.score, offset := c.offset
    segs := c.segs.reverse ++ List.replicate (24 - c.segs.length) c.seg }

/-- The outputs of a segment, the resync mark after it left out. -/
def segmentOutputs {α : Type} (lead : Int) (s : Nat) (g : SegFlag) (outputs : List α) : List α :=
  (outputs.drop ((segmentAt s : Int) + g.shift + lead).toNat).take 2340

/-- The alignment hypotheses of R204, in order. -/
def hypotheses (most : Nat) : List Int := (List.range most).flatMap (fun (i : Nat) => [(i : Int) + 1, -((i : Int) + 1)])

/-! ### Polarity (R194) -/

/-- The levels that preamble bits 6 to 185 write from the space level. -/
def preambleLevels : List Int := (((nrzi preamble).drop 6).take 180).map (fun m => if m then -1 else 1)

/-- The correlation of a frame's outputs with the preamble. -/
def preambleCorrelation (lead offset : Int) (outputs : List Int) : Int :=
  (List.zipWith (· * ·) preambleLevels (outputs.drop (lead + offset + 6).toNat)).sum

/-! ### Companding (R225) -/

/-- The magnitude index of |x|. -/
def compandIndex (m : Nat) : Nat :=
  if m < 120 then m / 12 else if m < 136 then 10 else if m < 160 then 11 else if m < 192 then 12 else if m < 240 then 13
  else if m < 320 then 14 else 15

/-- The 5-bit code of a lane output. -/
def compand (x : Int) : BitVec 5 := BitVec.ofNat 5 (compandIndex x.natAbs + if x < 0 then 16 else 0)

/-- The magnitude that an index stands for. -/
def expandIndex (m : Nat) : Nat := if m < 10 then 12 * m + 6 else [128, 148, 176, 216, 280, 400].getD (m - 10) 400

/-- The output that a code stands for. -/
def expand (c : BitVec 5) : Int :=
  let m : Int := expandIndex (c.toNat % 16)
  if 16 ≤ c.toNat then -m else m

end Sys2Proof.Machine
end

