-- ==== Sys2Proof/Machine/Flags.lean ====
section
/-! DEFINITION. Attention levels, the raising of events and MSI-X signalling (R351, R430, R536 to R542); the changes of
device mode and bay state that raise events (R33, R46, R48); faults in recovery (R545). -/

namespace Sys2Proof.Machine

/-! ### Attention (R351, R538 to R540) -/

/-- Whether an element other than a port is failed or unavailable, or the other port is down (R351, R432). -/
def State.degradedFor (s : State) (f : Fin 4) : Bool :=
  s.chip.degraded.any (fun d => match d with
    | .port p => p != f.val / 2
    | _ => true)

/-- Whether a deferred error is pending on a strand that `f` last owned and that is CLOSED, SEALED or released (R352). -/
def State.deferredClosed (s : State) (f : Fin 4) : Bool :=
  s.strands.any (fun t => t.deferred && t.owner == f && (t.state == .closed || t.state == .sealed)) ||
  s.deferred.any (fun d => d.owner == f)

/-- The state term of R538. -/
def State.stateLevel (s : State) (f : Fin 4) : Nat :=
  if s.mode = mSAFE then 7
  else if bayList.any (fun b => s.bayState b.val == bFAULTED) || !s.chip.recovering.isEmpty then 6
  else if s.degradedFor f then 5
  else if s.deferredClosed f then 3
  else 0

/-- Whether the masks take an event out of the unread term (R540). -/
def State.maskedEvent (s : State) (n : Nat) : Bool :=
  n != Ev.EVENT_OVERFLOW && eventMaxLevel n < 3 && bitAt (s.get (F.EVT_MASK_MASK (n / 32))) (n % 32)

/-- The records that `f` has not read and that count (R538, R540). -/
def State.unread (s : State) (f : Fin 4) : List EventRec :=
  s.evq.recs.filter (fun r => decide (s.evq.cursor[portOf f] ≤ r.serial) && !s.maskedEvent r.event && r.level != 0)

/-- The term one level gives the unread term. -/
def unreadWeight (level : Nat) : Nat :=
  if level = 4 then 4 else if level = 1 then 1 else if level = 0 then 0 else 2

/-- The unread term of R538; the overflow record counts until the cursor passes it (R539). -/
def State.unreadLevel (s : State) (f : Fin 4) : Nat :=
  let l := (s.unread f).foldl (fun a r => max a (unreadWeight r.level)) 0
  let o := if s.evq.lost[portOf f] = 0 then 0 else s.evq.lostLevel[portOf f]
  max l o

/-- The attention level of a function (R538). -/
def State.attention (s : State) (f : Fin 4) : Nat := max (s.stateLevel f) (s.unreadLevel f)

/-- SMB_ATTN.LEVEL (R437). -/
def State.smbAttention (s : State) : Nat := fnList.foldl (fun a f => max a (s.attention f)) 0

/-! ### MSI-X (R430, R541) -/

/-- A port leaves L1 to post a completion or an event, or to fetch (R433). -/
def leaveL1 (f : Fin 4) : Act Unit := do
  let p := f.val / 2
  if (← rd).get (F.HST_LINK_STAT_PSTATE f.val) = 1 then
    setF (F.HST_LINK_STAT_PSTATE (2 * p)) 0
    setF (F.HST_LINK_STAT_PSTATE (2 * p + 1)) 0

/-- Sends the message of a vector, or sets its pending bit while it is masked; a function in D3hot signals nothing (R433). -/
def sendVector (f : Fin 4) (v level : Nat) : Act Unit := do
  let s ← rd
  let h := s.fns[f]
  if h.d3 then return
  if h.fnMask || h.masked.contains v then
    emit (.fn f fun h => { h with pending := if h.pending.contains v then h.pending else v :: h.pending
                                  pendLevel := if v = 0 then level else h.pendLevel })
  else
    leaveL1 f
    emit (.out (.msix f.val v))

/-- Signals vector 0 of one function after its level may have changed, or a record has been queued (R541). -/
def attendFn (f : Fin 4) (r : Option EventRec) : Act Unit := do
  let s ← rd
  let level := s.attention f
  let signalled := s.get (F.EVT_FN_STAT_SIGNALLED f.val)
  let vmin := s.get (F.EVT_FN_CTL_VEC0_MIN f.val)
  if level < signalled then
    setF (F.EVT_FN_STAT_SIGNALLED f.val) level
    if level < s.fns[f].pendLevel then
      emit (.fn f fun h => { h with pending := h.pending.filter (· != 0), pendLevel := 0 })
  if signalled < level ∧ vmin ≤ level then
    setF (F.EVT_FN_STAT_SIGNALLED f.val) level
    sendVector f 0 level
  else
    match r with
    | none => pure ()
    | some r =>
      if s.get (F.EVT_FN_CTL_EACH f.val) = 1 ∧ vmin ≤ r.level ∧ s.maskedEvent r.event = false then
        sendVector f 0 level

/-- Signals every function, and SMB_ALERT_N when SMB_ATTN.LEVEL rises (R437, R541). -/
def attend (r : Option EventRec) : Act Unit := do
  forAll fnList (fun f => attendFn f r)
  let s ← rd
  let l := s.smbAttention
  emit (.chip fun c => { c with pins := { c.pins with
    smbAlert := c.pins.smbAlert || decide (c.pins.smbLevel < l), smbLevel := l } })

/-! ### Raising events -/

/-- Whether a raise merges into the newest record (R536). -/
def State.merges (s : State) (r : EventRec) : Bool :=
  match s.evq.recs.getLast? with
  | none => false
  | some n =>
    s.evq.ready && n.event == r.event && n.subcode == r.subcode && n.inst == r.inst && n.detail == r.detail &&
    n.event != Ev.EVENT_OVERFLOW && decide (s.now - n.queuedAt < 1000) &&
    decide (s.evq.cursor[0] ≤ n.serial) && decide (s.evq.cursor[1] ≤ n.serial)

/-- Whether the next record overwrites one that not every Admin function has read (EVT_LOST_CNT). -/
def State.losesRecord (s : State) : Bool :=
  s.evq.ready && decide (queueMax ≤ s.evq.recs.length) &&
  match s.evq.recs with
  | [] => false
  | r :: _ => decide (s.evq.cursor[0] ≤ r.serial) || decide (s.evq.cursor[1] ≤ r.serial)

/-- Raises an event: counts it, queues or merges its record, and signals attention (R536 to R542). -/
def raiseAt (level n sub inst detail : Nat) : Act Unit := do
  incStop (F.EVT_COUNT_CNT n)
  let s ← rd
  let r : EventRec := { event := n, level := level, time := s.timeStamp, subcode := sub, inst := inst,
                        detail := detail % 2 ^ 96, queuedAt := s.now }
  if s.get (F.SEQ_DISPATCH_EV_ENABLED n) = 1 then
    emit (.chip fun c => { c with routines := if c.routines.contains n then c.routines else c.routines ++ [n] })
    emit (.seqs fun q => { q with raises := tabSet q.raises n (tabGet q.raises n 0 + 1) 0 })
    setF F.SEQ_EV_QUEUED_NUM (min 1023 (← rd).chip.routines.length)
  if s.merges r then
    emit .merge
    attend none
  else
    if s.losesRecord then incStop F.EVT_LOST_CNT_CNT
    emit (.queue r)
    attend (if s.evq.ready then some r else none)

/-- Raises an event at the level of R537. -/
def raise (n : Nat) (sub : Nat := 0) (inst : Nat := 0) (detail : Nat := 0) : Act Unit :=
  raiseAt (eventLevel n sub) n sub inst detail

/-- Raises an event in the group of bay `b`. -/
def raiseBay (b i : Nat) (sub : Nat := 0) (inst : Nat := 0) (detail : Nat := 0) : Act Unit :=
  raise (Ev.bay b i) sub inst detail

/-- REG_ACCESS_FAULT (R5, R532): group, SUBCODE, address and master code. -/
def regAccessFault (group sub addr master : Nat) : Act Unit := do
  setF F.EVT_LAST_FAULT_ADDR addr
  raise (Ev.regAccessFault group) sub 0 (addr + master * 2 ^ 32)

/-! ### Faults and degraded elements (R544, R545) -/

/-- An element is failed or unavailable from now on. -/
def degrade (d : Degraded) : Act Unit := do
  emit (.chip fun c => { c with degraded := if c.degraded.contains d then c.degraded else d :: c.degraded })
  attend none

/-- An element serves again. -/
def undegrade (d : Degraded) : Act Unit := do
  emit (.chip fun c => { c with degraded := c.degraded.filter (· != d) })
  attend none

/-! ### Calibration runs (R269, R270) -/

/-- CAL_n_LAST_ELEM.RESULT codes of R279. -/
abbrev calAPPLIED : Nat := 1
abbrev calDISAGREE : Nat := 2
abbrev calOUT_OF_RANGE : Nat := 3
abbrev calABORTED : Nat := 4
abbrev calCLAMPED : Nat := 5

/-- CAL_STAT shows the run begun last of those in progress. -/
def showCal : Act Unit := do
  let s ← rd
  setF F.CAL_STAT_BUSY (!s.cal.runs.isEmpty).toNat
  setF F.CAL_STAT_KIND ((s.cal.runs.getLast?.map CalRun.kind).getD 0)

/-- The bay of a calibration's element: inputs for 0 to 2, OPUs for 3 to 10. -/
def calBay (kind elem : Nat) : Nat := if kind < 3 then elem / 128 else elem / 16

/-- The OPU of a calibration's element: inputs for 0 to 2, OPUs for 3 to 10. -/
def calOpuOf (kind elem : Nat) : Fin 8 := Fin.ofNat 8 (if kind < 3 then elem / 64 else elem / 8)

/-- µs of a bay's reading and writing (R271). -/
def State.bayUse (s : State) (b : Fin 4) : Nat := s.cal.use[b] + (s.cal.useSince[b].map (fun t => s.now - t)).getD 0

/-- What the schedule of a calibration counts from once a run on an element has ended (R271). -/
def State.calMark (s : State) (kind elem : Nat) : CalMark :=
  { kind, elem, use := s.bayUse (Fin.ofNat 4 (calBay kind elem)), celsius := s.optics[calOpuOf kind elem].celsius }

/-- A run ends with a result, which is recorded with its time and element (R269). Its schedule counts from it unless it was abandoned, and one of
calibration 7 that is applied makes calibration 8 due (R271). -/
def endCal (kind elem result : Nat) : Act Unit := do
  let s ← rd
  let applied : Bool := result == calAPPLIED || result == calCLAMPED
  let old (m : CalMark) : Bool := (m.kind == kind || (m.kind == 8 && kind == 7 && applied)) && m.elem == elem
  emit (.cal fun c => { c with
    runs := c.runs.filter (fun r => !(r.kind == kind && r.elem == elem))
    done := if result = calABORTED then c.done else s.calMark kind elem :: c.done.filter (fun m => !old m)
    results := (kind, elem, result, s.timeStamp) :: c.results.filter (fun r => !(r.1 == kind && r.2.1 == elem)) })
  setF (F.CAL_LAST_TIME kind) s.timeStamp
  setF (F.CAL_LAST_ELEM_ELEMENT kind) elem
  setF (F.CAL_LAST_ELEM_RESULT kind) result
  if result = calAPPLIED ∨ result = calCLAMPED then incStop (F.CAL_CNT_CNT kind)
  if result = calDISAGREE ∨ result = calOUT_OF_RANGE then incStop (F.CAL_FAIL_CNT_CNT kind)
  showCal

/-- Runs are abandoned: they apply nothing and record ABORTED (R270). -/
def abortCal (p : CalRun → Bool) : Act Unit := do
  let s ← rd
  forAll (s.cal.runs.filter p) (fun r => endCal r.kind r.elem calABORTED)

/-- The calibrations that run only while an OPU writes are abandoned (R270, R271). -/
def abortWriteCal (k : Fin 8) : Act Unit := abortCal (fun r => decide (7 ≤ r.kind) && decide (r.kind ≤ 10) && r.elem / 8 == k.val)

/-- The time of a bay's reading and writing begins or ends (R271). -/
def noteUse (b : Fin 4) (old new : Nat) : Act Unit := do
  let uses (st : Nat) : Bool := st == bREADING || st == bWRITING
  let s ← rd
  if uses new = true ∧ uses old = false then emit (.cal fun c => { c with useSince := c.useSince.set b (some s.now) })
  else if uses old = true ∧ uses new = false then
    emit (.cal fun c => { c with use := c.use.set b (s.bayUse b), useSince := c.useSince.set b none })

/-- The calibrations of a bay that leaves the state they need (R270, R271): 7 to 10 need WRITING, 0 to 6 a bay that reads or writes. -/
def abortBayCal (b old new : Nat) : Act Unit := do
  let reads (st : Nat) : Bool := st == bREADY || st == bWRITING || st == bREADING
  abortCal (fun r => decide (r.kind ≤ 10) && calBay r.kind r.elem == b &&
    ((decide (7 ≤ r.kind) && old == bWRITING) || (decide (r.kind < 7) && reads old && !reads new)))

/-! ### Device mode (R33) -/

/-- The part changes its mode: DEV_MODE_STAT, MODE_CHANGE, and SMB_ALERT_N (R33, R437). -/
def changeMode (new cause : Nat) : Act Unit := do
  let s ← rd
  let old := s.mode
  setF F.DEV_MODE_STAT_PREV_MODE old
  setF F.DEV_MODE_STAT_MODE new
  setF F.DEV_MODE_STAT_CAUSE cause
  emit (.chip fun c => { c with pins := { c.pins with smbAlert := true } })
  raise Ev.MODE_CHANGE 0 0 (old + 256 * new + 65536 * cause)

/-! ### Bay state (R46, R48) -/

/-- Whether a mode admits a bay state: FAULTED stands from BRINGUP on, but not in RETENTION (R46). -/
def State.admits (s : State) (st : Nat) : Bool := st != bFAULTED || (decide (mBRINGUP ≤ s.mode) && s.mode != mRETENTION)

/-- The read of an OPU has ended: nothing is being captured, and no triple was captured last (R217, R228, R238). -/
def endCapture (k : Fin 8) : Act Unit := do
  emit (.detector k fun d => { d with triple := none, last := none, second := false, margin := 0 })
  setF (F.RCH_JD_STAT_MODE k.val) 0

/-- A bay enters a state and raises BAY_STATE_CHANGE with SUBCODE 0 (R533, R535). -/
def setBay (b : Fin 4) (st : Nat) : Act Unit := do
  let s ← rd
  let old := s.bayState b.val
  if old ≠ st ∧ s.admits st then
    setF (F.BAY_STAT_STATE b.val) st
    if st = bEMPTY then
      forAll [opuTop b, opuBottom b] (fun k => do
        setF (F.RCH_SPK_STAT_SIDE_MISMATCH k.val) 0
        emit (.spoke k fun c => { c with sideRun := 0 }))
    abortBayCal b.val old st
    noteUse b old st
    if old = bREADING then forAll [opuTop b, opuBottom b] endCapture
    raiseBay b.val Ev.iBAY_STATE_CHANGE 0 0 (old + 256 * st)

/-- Drops the laser enables of an OPU at once (R16, R126, R549). -/
def laserOff (k : Fin 8) : Act Unit :=
  emit (.optic k fun o => { o with laser := false, power := .off, gate := false })

end Sys2Proof.Machine
end

