-- ==== Sys2Proof/Machine/Link.lean ====
section
/-! DEFINITION. The write strategy link (R240 to R243, R250): control frames, symbols, and the bits that its balls carry on each edge of its clock. -/

namespace Sys2Proof.Machine

/-- The CRC with polynomial x^8 + x^2 + x + 1 over the low `n` bits of `v`, most significant first, from register `r`
(R74). -/
def crc8 : Nat → Nat → Nat → Nat
  | 0, _, r => r
  | n + 1, v, r =>
    let r' := 2 * r % 256
    crc8 n v (if bitAt v n != bitAt r 7 then r' ^^^ 7 else r')

/-! ### Control frames (R242) -/

/-- A control frame. -/
inductive WslFrame where
  | config (lat : Nat)
  | levels (codes : List Nat)
  | start (period count phase : Nat)
  | abort
deriving DecidableEq, Repr

/-- TYPE of a control frame. -/
def WslFrame.type : WslFrame → Nat
  | .config _ => 1
  | .levels _ => 2
  | .start _ _ _ => 3
  | .abort => 4

/-- The 64 bits of its PAYLOAD. -/
def WslFrame.payload : WslFrame → Nat
  | .config lat => bitsOf lat 0 6
  | .levels l => ((List.range 4).map (fun i => bitsOf (l.getD i 0) 0 12 * 2 ^ (12 * i))).sum
  | .start period count phase => bitsOf period 0 28 + bitsOf count 0 14 * 2 ^ 28 + bitsOf phase 0 6 * 2 ^ 42
  | .abort => 0

/-- The bits of a control frame, first bit first, and of the gap after it. -/
def WslFrame.bits (f : WslFrame) : List Bool :=
  natBits 4 0b1101 ++ natBits 8 f.type ++ natBits 64 f.payload ++ natBits 8 (crc8 72 (f.type * 2 ^ 64 + f.payload) 0) ++ natBits 4 0

/-- A control frame is sent on the link of an OPU. A command that makes a START and a LEVELS due sends the START first (R242). -/
def sendFrame (k : Fin 8) (f : WslFrame) : Act Unit := emit (.out (.wsl k.val f.bits))

/-! ### Symbols (R240, R241, R243, R246) -/

/-- What a clock cycle carries: VALID, LEVEL and SHIFT; LEVEL and SHIFT are zero where VALID is 0. -/
structure LinkSymbol where
  valid : Bool := false
  level : Nat := 0
  shift : Nat := 0
deriving DecidableEq, Repr

/-- Symbol m goes in cycle floor(m × PERIOD) from the first, and a cycle without one carries nothing; PERIOD in 1/2^24 cycle (R243). -/
def linkCycles (period : Nat) (l : List (Nat × Nat)) : List LinkSymbol :=
  l.zipIdx.flatMap (fun x =>
    let gap := (x.2 + 1) * period / 2 ^ 24 - x.2 * period / 2 ^ 24 - 1
    { valid := true, level := x.1.1, shift := x.1.2 } :: List.replicate gap {})

/-- The corrections of a link (R246): D0 and D1 exchanged, then inverted, and CK inverted. -/
structure Wiring where
  swap : Bool
  inv0 : Bool
  inv1 : Bool
  clkInv : Bool
deriving DecidableEq, Repr

def State.wiring (s : State) (k : Fin 8) : Wiring :=
  { swap := s.get (F.WRP_WSL_CTL_SWAP k.val) == 1, inv0 := s.get (F.WRP_WSL_CTL_INV_0 k.val) == 1
    inv1 := s.get (F.WRP_WSL_CTL_INV_1 k.val) == 1, clkInv := s.get (F.WRP_WSL_CTL_CLK_INV k.val) == 1 }

/-- The balls of a link in one clock cycle: bit 0 of LEVEL and SHIFT on the rising edge and bit 1 on the falling one (R240, R246). -/
def Wiring.balls (w : Wiring) (x : LinkSymbol) : LinkBalls :=
  let level := (bitAt x.level 0, bitAt x.level 1)
  let shift := (bitAt x.shift 0, bitAt x.shift 1)
  let d0 := if w.swap then shift else level
  let d1 := if w.swap then level else shift
  { ck := (!w.clkInv, w.clkInv), d0 := (d0.1 != w.inv0, d0.2 != w.inv0), d1 := (d1.1 != w.inv1, d1.2 != w.inv1), valid := x.valid }

/-- Symbols are sent on the link of an OPU from a clock cycle on. -/
def sendSymbols (k : Fin 8) (cycle : Int) (period : Nat) (l : List (Nat × Nat)) : Act Unit := do
  let s ← rd
  emit (.out (.symbols k.val cycle ((linkCycles period l).map (s.wiring k).balls)))

/-! ### Write settings (R248, R250) -/

/-- The power ratios and strategy that the registers of a layer hold. -/
def State.layerStrategy (s : State) (k : Fin 8) (l : Nat) : Strategy :=
  { layer := l, space := s.get (F.WRP_LVL_A_SPACE k.val l), mark := s.get (F.WRP_LVL_A_MARK k.val l), cool := s.get (F.WRP_LVL_B_COOL k.val l)
    mean := s.get (F.WRP_LVL_B_MEAN k.val l), lead := s.get (F.WRP_STRAT_LEAD_LEAD k.val l), trail := s.get (F.WRP_STRAT_TRAIL_TRAIL k.val l) }

/-- The power ratios and strategy in force on the target layer of an OPU: those of the last track written on it, or, before the first, what the registers
hold (R250). -/
def State.strategy (s : State) (k : Fin 8) : Strategy :=
  match s.writers[k].strategy with
  | some x => if x.layer = s.optics[k].layer then x else s.layerStrategy k s.optics[k].layer
  | none => s.layerStrategy k s.optics[k].layer

/-- ρ of a power level (R248). -/
def Strategy.ratio (x : Strategy) (level : Nat) : Nat :=
  match level with
  | 1 => x.space
  | 2 => x.mark
  | 3 => x.cool
  | _ => 4096

end Sys2Proof.Machine
end

