-- ==== Sys2Proof/Machine/Bays.lean ====
section
/-! DEFINITION. What the drives of a bay share: signed register fields, the slots of an OPU, stopping a write, RETRACT,
stopping and coasting motors, moves and parking of axes, parking and faulting a bay, single faults and SAFE. -/

namespace Sys2Proof.Machine

/-! ### Signed fields -/

/-- The signed value of a register field. -/
def State.geti (s : State) (f : Fld) : Int := toSigned f.w (s.get f)

def getI (f : Fld) : Act Int := do return (← rd).geti f

/-- A field takes a signed value in two's complement. -/
def setI (f : Fld) (i : Int) : Act Unit := setF f (ofSigned f.w i)

/-- `i` limited to the signed range of `w` bits. -/
def satInt (w : Nat) (i : Int) : Int := clampInt (-(2 ^ (w - 1))) (2 ^ (w - 1) - 1) i

/-- a ÷ b as Q1.31, to the nearest code, saturated; 0 where the divisor is 0 or below (R82, R116). -/
def quotient31 (a b : Int) : Int :=
  if b ≤ 0 then 0 else satInt 32 (floorDiv (2 * a * 2 ^ 31 + b) (2 * b))

/-- The largest r with r² ≤ n, found bit by bit from 2^`i` down. -/
def sqrtFrom (n : Nat) : Nat → Nat → Nat
  | 0, r => r
  | i + 1, r => let t := r + 2 ^ i; sqrtFrom n i (if t * t ≤ n then t else r)

def isqrt (n : Nat) : Nat := sqrtFrom n 64 0

/-! ### Elements of a bay (R3, R96, R142, R167) -/

def engineOf (k : Fin 8) : Fin 2 := ⟨k.val / 4, by omega⟩
def engineOfBay (b : Fin 4) : Fin 2 := ⟨b.val / 2, by omega⟩

/-- The slot of OPU k whose top slot of its bay has local number `role` (R96). -/
def slotOf (k : Fin 8) (role : Nat) : Nat := 32 * (k.val / 2 % 2) + role + k.val % 2

/-- The slot of bay b with local number `n` (R96). -/
def baySlot (b : Fin 4) (n : Nat) : Nat := 32 * (b.val % 2) + n

def spindleOf (b : Fin 4) : Fin 8 := ⟨b.val, by omega⟩
def shuttleOf (b : Fin 4) : Fin 8 := ⟨4 + b.val, by omega⟩
def bayOfMotor (k : Fin 8) : Fin 4 := ⟨k.val % 4, by omega⟩

/-- The sled axis of an OPU (R167). -/
def sledOf (k : Fin 8) : Fin 16 := ⟨4 * (k.val / 2) + k.val % 2, by omega⟩
def axisOf (b : Fin 4) (n : Fin 4) : Fin 16 := ⟨4 * b.val + n.val, by omega⟩
def bayOfAxis (a : Fin 16) : Fin 4 := ⟨a.val / 4, by omega⟩

/-- The OPU that an axis moves, for a sled (R167). -/
def opuOfSled (a : Fin 16) : Fin 8 := ⟨2 * (a.val / 4) + a.val % 2, by omega⟩

/-- The OPUs of a bay. -/
def opusOf (b : Fin 4) : List (Fin 8) := [opuTop b, opuBottom b]

/-- The bays of an engine (R92). -/
def baysOf (e : Fin 2) : List (Fin 4) := [⟨2 * e.val, by omega⟩, ⟨2 * e.val + 1, by omega⟩]

/-- Raises an event of an OPU in the group of its bay; INSTANCE 0 top, 1 bottom (R535). -/
def raiseOpu (k : Fin 8) (i : Nat) (sub : Nat := 0) (detail : Nat := 0) : Act Unit :=
  raiseBay (k.val / 2) i sub (k.val % 2) detail

/-- Raises an event of a motor in the group of its bay; INSTANCE 0 spindle, 1 shuttle (R535). -/
def raiseMotor (k : Fin 8) (i : Nat) (sub : Nat := 0) : Act Unit := raiseBay (k.val % 4) i sub (k.val / 4)

/-- Raises an event of an axis in the group of its bay; INSTANCE k mod 4 (R535). -/
def raiseAxis (a : Fin 16) (i : Nat) (sub : Nat := 0) : Act Unit := raiseBay (a.val / 4) i sub (a.val % 4)

/-- Sets or clears FREEZE of a slot of an OPU (R122, R126). -/
def freeze (k : Fin 8) (role : Nat) (b : Bool) : Act Unit :=
  setF (F.SRV_SLOT_CTL_FREEZE (engineOf k).val (slotOf k role)) b.toNat

/-! ### Stopping a write (R260, R263) -/

/-- The earliest sector of the track, in the order of R55, that is not written, when the first `n` sectors from the entry
sector have been written. -/
def firstUnwritten (entry spt n : Nat) : Nat :=
  if entry = 0 then n else if n ≤ spt - entry then 0 else n - (spt - entry)

/-- The skipped-run reason of R260: 0x02 in DRAIN, 0x01 otherwise. -/
def State.skipReason (s : State) : Nat := if s.mode = mDRAIN then 2 else 1

/-- The write gate of an OPU closes: read power (R248, R260). -/
def closeGate (k : Fin 8) : Act Unit := emit (.optic k fun o => { o with gate := false, power := if o.laser then .read else .off })

/-- The write of an OPU ends with `n` sectors of its track written; the rest becomes a skipped run, whose sectors are abandoned (R260). A track of which
nothing has been written is not begun, and has none (R261). -/
def endWrite (k : Fin 8) (n reason : Nat) : Act Unit := do
  let w := (← rd).writers[k]
  if w.active then
    let whole : Bool := decide (w.spt ≤ n) || w.reach == 0
    let gone (t i : Nat) : Bool := !whole && t == w.track && decide (firstUnwritten w.entry w.spt n ≤ i)
    emit (.writer k fun w => { w with
      active := false, stopAt := none, wrote := n, started := false, tLane := w.tLane && decide (w.begun < n)
      skipped := if whole then w.skipped
        else w.skipped ++ [{ track := w.track, fromSector := firstUnwritten w.entry w.spt n, reason := reason }]
      dirDue := w.dirDue || decide (n < w.spt)
      passed := w.passed.filter (fun p => !gone p.1 p.2)
      relocate := w.relocate.filter (fun p => !gone p.1 p.2.1) })
    setF (F.WRP_STAT_STATE k.val) 5
    if n < w.spt then abortWriteCal k
  closeGate k

/-- Whether an OPU is in the middle of a write: of a track, or of a single sector. -/
def Writer.underWay (w : Writer) : Bool := (w.active && w.reach != 0) || w.job.any (fun j => j.sent != 0 && decide (j.sent < 57000))

/-- Whether an OPU writes: a track that has begun, or a single sector of which bits are out. -/
def Writer.busy (w : Writer) : Bool := w.active || w.underWay

/-- Whether the temperature input of an OPU exceeds the limit in its EEPROM, which inhibits writing (R278). -/
def State.opuHot (s : State) (k : Fin 8) : Bool := (s.optics[k].celsius.map (fun t => decide ((s.nv.eeproms[k].inhibitTemp : Int) < t))).getD false

/-- Whether an OPU may write (R248, R256, R265, R278, R554). -/
def State.writerReady (s : State) (k : Fin 8) : Bool :=
  s.get (F.WRP_CTL_ENABLE k.val) == 1 && s.get (F.WRP_CTL_WR_HOLD k.val) == 0 && s.writers[k].trained &&
  s.get (F.WRP_STAT_WR_DISABLED k.val) == 0 && decide (s.get F.CAL_THERM_LEVEL < 2) && !s.opuHot k

/-- A write stops at once; the frame in progress counts as unwritten, and where the START of its interval has been sent ABORT follows it (R253, R260,
R263). A single sector that is cut short has used its place, and fails its verdict (DESIGN CHOICE, assumption log 33). -/
def stopWriteNow (k : Fin 8) : Act Unit := do
  let s ← rd
  if s.writers[k].started then sendFrame k .abort
  emit (.writer k fun w => { w with started := false, job := w.job.map (fun j => if w.active = false ∧ j.sent ≠ 0 then { j with sent := 57000 } else j) })
  endWrite k s.writers[k].begun (max s.skipReason (s.writers[k].stopAt.getD 0))

/-- A stop is pending at the next sector boundary; the earliest stop holds and reason 0x02 outranks 0x01 (R260, R264). -/
def stopWriteAtBoundary (k : Fin 8) (reason : Nat) : Act Unit :=
  emit (.writer k fun w => if w.active then { w with stopAt := some (max reason (w.stopAt.getD 0)) } else w)

/-- Training ends without a result where the laser drops (DESIGN CHOICE, assumption log 33). -/
def cutTraining (k : Fin 8) : Act Unit := do
  let s ← rd
  if s.writers[k].training.isSome then
    emit (.writer k fun w => { w with training := none })
    freeze k 12 false
    setF (F.WRP_WSL_CTL_TRAIN k.val) 0
    setF (F.WRP_STAT_STATE k.val) 0

/-- A laser enable drops: the write and any training end and the gate closes with it (R263), and laser-on time is counted (R556). -/
def dropLaser (k : Fin 8) : Act Unit := do
  stopWriteNow k
  cutTraining k
  let s ← rd
  if s.optics[k].laser then
    let t := (s.now - s.optics[k].laserSince) / 1000000
    emit (.life fun l => { l with laserSec := l.laserSec.set k (l.laserSec[k] + t) })
  laserOff k

/-! ### Optical sequences (R124, R126, R136) -/

/-- The sectors that an OPU's I, C and O spots are reading fail into the retry ladder (R86, R136). -/
def cutReads (k : Fin 8) : Act Unit := emit (.detector k fun d => { d with cut := [0, 1, 2] })

/-- Whether the engine of an OPU has stopped on a fault (R108, R139). -/
def State.engineStopped (s : State) (e : Fin 2) : Bool := s.get (F.SRV_BLK_STAT_ENGINE_FAULT e.val) == 1

/-- BAY_OPT_STAT.RESULT codes of R140. -/
abbrev rDONE : Nat := 1
abbrev rBUSY : Nat := 2
abbrev rINVALID : Nat := 3
abbrev rFAILED : Nat := 4
abbrev rABORTED : Nat := 5
abbrev rLATE : Nat := 6

/-- A sequence ends with a result; the sequencer is idle. A jump's pulse that it cuts short ends with it (R122). -/
def optEnd (k : Fin 8) (result : Nat) : Act Unit := do
  if (← rd).optics[k].phase = .jumpPulse then freeze k 4 false
  setF (F.BAY_OPT_CMD_CMD k.val) 0
  setF (F.BAY_OPT_STAT_RESULT k.val) result
  setF (F.BAY_OPT_STAT_JUMP k.val) 0
  setF (F.BAY_OPT_STAT_LAYER_JUMP k.val) 0
  setF (F.BAY_OPT_STAT_PULL_IN k.val) 0
  emit (.optic k fun o => { o with phase := .idle, frames := 0, pulseF := 0, pulseT := 0, inPullIn := false,
                                   spoke := none })

/-- A sequence that runs, if any, ends with a result. -/
def optCut (k : Fin 8) (result : Nat) : Act Unit := do
  if (← rd).optics[k].phase ≠ .idle then optEnd k result

/-- RETRACT (R126): the laser drops, the focus and tracking slots freeze, and the codes ramp; it preempts any other sequence
(R124, R139). With the engine stopped on a fault its own ramp replaces that of RETRACT (R108, R126). -/
def retract (k : Fin 8) : Act Unit := do
  dropLaser k
  let s ← rd
  if s.engineStopped (engineOf k) = false then
    optCut k rABORTED
    freeze k 2 true
    freeze k 4 true
    setF (F.BAY_OPT_STAT_FOCUS_LOCKED k.val) 0
    setF (F.BAY_OPT_STAT_ON_TRACK k.val) 0
    setF (F.BAY_OPT_CMD_CMD k.val) 5
    emit (.optic k fun o => { o with phase := .retracting, frames := 0, base := o.dac, focusClosed := false
                                     lostRun := none, lockRun := 0, onRun := 0, ditherAt := 65, preset := .replicate 2 (0, 0) })

/-- An acquisition that fails is counted once in FAIL_RUN (R136). -/
def countFailure (k : Fin 8) : Act Unit := do
  let s ← rd
  if s.optics[k].acquiring then
    setF (F.BAY_OPT_STAT_FAIL_RUN k.val) (min 15 (s.get (F.BAY_OPT_STAT_FAIL_RUN k.val) + 1))
    emit (.optic k fun o => { o with acquiring := false })

/-- A loss of focus (R136): the write stops, the sectors being read fail, the tracking slot freezes, FOCUS_LOST is raised, RETRACT runs, and the
layer and track are kept for the new ACQUIRE. A sequence under way ends FAILED, an acquisition counted, and a pending command ABORTED (R139). -/
def loseFocus (k : Fin 8) : Act Unit := do
  let s ← rd
  let o := s.optics[k]
  let layer := if o.acquiring then o.goal else s.get (F.BAY_OPT_STAT_LAYER k.val)
  stopWriteNow k
  cutReads k
  countFailure k
  optCut k (if o.phase = .pending then rABORTED else rFAILED)
  freeze k 4 true
  raiseOpu k Ev.iFOCUS_LOST
  retract k
  emit (.optic k fun o => { o with lostAt := some s.now, backLayer := layer,
                                   backTrack := s.get (F.BAY_OPT_TARGET_TRACK k.val) })

/-! ### Motors (R148, R154, R163) -/

/-- MOT_k_STAT.STATE codes of R164. -/
abbrev mtOFF : Nat := 0
abbrev mtCATCH : Nat := 1
abbrev mtCHECK : Nat := 2
abbrev mtHOLD_ZERO : Nat := 3
abbrev mtRAMP : Nat := 4
abbrev mtAT_SPEED : Nat := 5
abbrev mtBRAKE : Nat := 6
abbrev mtSOFT_BRAKE : Nat := 7
abbrev mtRESYNC : Nat := 8
abbrev mtCOAST : Nat := 9
abbrev mtLATCHED : Nat := 10

def State.motorState (s : State) (k : Fin 8) : Nat := s.get (F.MOT_STAT_STATE k.val)

/-- A motor enters a state; region source 17 follows it (R149). -/
def setMotor (k : Fin 8) (st : Nat) : Act Unit := do
  setF (F.MOT_STAT_STATE k.val) st
  setF (F.MOT_STAT_BRAKING k.val) (if st = mtBRAKE ∨ st = mtHOLD_ZERO ∨ st = mtSOFT_BRAKE then 1 else 0)

def setMotorResult (k : Fin 8) (r : Nat) : Act Unit := setF (F.MOT_STAT_RESULT k.val) r

/-- The speed reference of a motor takes a value; region source 15 follows its sign (R149). -/
def setRef (k : Fin 8) (ref : Int) : Act Unit := do
  emit (.motor k fun m => { m with ref := ref })
  setF (F.MOT_STAT_REVERSE k.val) (if ref < 0 then 1 else 0)

/-- Gates off: torque is removed and the motor coasts (R148); one that rests is OFF. A latched motor stays latched. -/
def gatesOff (k : Fin 8) : Act Unit := do
  let s ← rd
  emit (.motor k fun m => { m with gates := false, zeroCurrent := false, target := 0, stopLater := false, caught := false, reverse := false
                                   starting := false, steady := 0, checkWait := 0 })
  setRef k 0
  if s.motorState k ≠ mtLATCHED then setMotor k (if s.motors[k].atRest then mtOFF else mtCOAST)

/-- Whether a start, brake or resynchronisation is under way (R163). -/
def motorBusy (st : Nat) : Bool :=
  st == mtCATCH || st == mtCHECK || st == mtHOLD_ZERO || st == mtRAMP || st == mtBRAKE || st == mtSOFT_BRAKE || st == mtRESYNC

/-- Gates off that end a start, brake or resynchronisation with RESULT = ABORTED (R163). -/
def abortMotor (k : Fin 8) : Act Unit := do
  let s ← rd
  if motorBusy (s.motorState k) then setMotorResult k rABORTED
  gatesOff k

/-- STOP (R153, R163): braking under control; a catch window for one that turns uncontrolled; at the end of a catch window or
resynchronisation in progress; a wiring check ends at once. -/
def stopMotor (k : Fin 8) : Act Unit := do
  let s ← rd
  let st := s.motorState k
  if st = mtLATCHED then pure ()
  else if st = mtCATCH ∨ st = mtRESYNC then emit (.motor k fun m => { m with stopLater := true })
  else if st = mtOFF ∨ st = mtCOAST then
    if s.motors[k].atRest then
      setMotor k mtOFF
      setMotorResult k rDONE
    else
      abortCal (fun r => r.kind == 11 && r.elem == k.val)
      emit (.motor k fun m => { m with gates := true, zeroCurrent := true, target := 0, catchCounts := 0, stopLater := true })
      setMotor k mtCATCH
  else if st = mtCHECK then
    gatesOff k
    setMotorResult k rDONE
  else
    emit (.motor k fun m => { m with target := 0, steady := 0 })
    if st = mtRAMP ∨ st = mtAT_SPEED then setMotor k mtBRAKE

/-! ### Step axes (R168 to R176, R181) -/

/-- STP_k_STAT.STATE codes of R184. -/
abbrev axIDLE : Nat := 0
abbrev axRUN : Nat := 1
abbrev axPAUSED : Nat := 2
abbrev axSTOPPING : Nat := 3
abbrev axSETTLE : Nat := 4
abbrev axLANDING : Nat := 5
abbrev axHOMING : Nat := 6
abbrev axFAULT : Nat := 7

def State.axisState (s : State) (a : Fin 16) : Nat := s.get (F.STP_STAT_STATE a.val)
def State.axisPos (s : State) (a : Fin 16) : Int := s.geti (F.STP_POS_POS a.val)

/-- round(t × 64 ÷ 375): the microsteps of track t from track 0 (R168). -/
def trackSteps (t : Nat) : Nat := (128 * t + 375) / 750

/-- The position of a track on a sled (R168). -/
def State.trackPos (s : State) (a : Fin 16) (t : Nat) : Int := s.get (F.STP_HOME_OFS_OFS a.val) + trackSteps t

/-- V_CAP of an axis (R169). -/
def State.vCap (s : State) (a : Fin 16) : Nat := min 500000 (75000000 / s.get (F.STP_CTL_PULSE_W a.val))

/-- CTRL cycles in a second (R12). -/
def cyclesPerSecond : Nat := 150000000

/-- The profile of R171 over `d` microsteps from `vs` to `ve` with cruise limit `vm`, at accelerations `A` and `B`. -/
def profileOf (d vs ve vm A B : Nat) : Profile :=
  if B * (vm ^ 2 - vs ^ 2) + A * (vm ^ 2 - ve ^ 2) ≤ 2 * A * B * d then ⟨d, vs, vm, ve, A, B⟩
  else ⟨d, vs, isqrt ((2 * A * B * d + B * vs ^ 2 + A * ve ^ 2) / (A + B)), ve, A, B⟩

/-- Microsteps of the acceleration, of the cruise and of the deceleration, and the cycles of each (R171). -/
def Profile.parts (p : Profile) : (Nat × Nat × Nat) × (Nat × Nat × Nat) :=
  let dA := (p.vp ^ 2 - p.vs ^ 2) / (2 * p.acc)
  let dD := (p.vp ^ 2 - p.ve ^ 2) / (2 * p.dec)
  let dC := p.dist - dA - dD
  ((dA, dC, dD), ((p.vp - p.vs) * cyclesPerSecond / p.acc, dC * cyclesPerSecond / p.vp, (p.vp - p.ve) * cyclesPerSecond / p.dec))

/-- Whether a profile has begun to decelerate `t` cycles after its start (R172). -/
def Profile.slowing (p : Profile) (t : Nat) : Bool := decide (p.parts.2.1 + p.parts.2.2.1 < t)

/-- Progress of a profile `t` cycles after its start, in 1/2^32 microstep rounded down (R169, R171; DESIGN CHOICE, assumption log 27). -/
def Profile.fine (p : Profile) (t : Nat) : Nat :=
  let f := cyclesPerSecond
  let ((dA, dC, _), (tA, tC, tD)) := p.parts
  min (p.dist * 2 ^ 32)
    (if t ≤ tA then (2 * p.vs * t * f + p.acc * t ^ 2) * 2 ^ 31 / f ^ 2
     else if t ≤ tA + tC then dA * 2 ^ 32 + p.vp * (t - tA) * 2 ^ 32 / f
     else
      let u := min (t - tA - tC) tD
      (dA + dC) * 2 ^ 32 + (2 * p.vp * u * f - p.dec * u ^ 2) * 2 ^ 31 / f ^ 2 + p.ve * (t - tA - tC - u) * 2 ^ 32 / f)

/-- Progress of a profile in whole microsteps and its velocity `t` cycles after its start (R171). -/
def Profile.at (p : Profile) (t : Nat) : Nat × Nat :=
  let f := cyclesPerSecond
  let (_, (tA, tC, tD)) := p.parts
  (p.fine t / 2 ^ 32,
   if t ≤ tA then p.vs + p.acc * t / f
   else if t ≤ tA + tC then p.vp
   else max p.ve (p.vp - p.dec * min (t - tA - tC) tD / f))

/-- Whether the junction between two moves, made from `p` to `q` and on to `r`, is blended (R174). -/
def blends (p q r : Int) (m n : Move) : Bool :=
  m.blend && m.pair == n.pair && decide (0 < (q - p) * (r - q))

/-- The distances of the moves of an axis at `p`, and whether the junction after each is blended; those of a pair move take the longer of the two
sleds, whose other one at `po` has the moves given after them (R174, R175). -/
def moveSegments (p po : Int) : List Move → List Move → List (Nat × Bool)
  | [], _ => []
  | m :: ms, ns =>
    let on : Bool := match ms with
      | x :: _ => blends p m.target x.target m x
      | [] => false
    match m.pair, ns with
    | true, n :: ns =>
      let both : Bool := on && match ns with
        | x :: _ => blends po n.target x.target n x
        | [] => false
      (max (m.target - p).natAbs (n.target - po).natAbs, both) :: moveSegments m.target n.target ms ns
    | _, ns => ((m.target - p).natAbs, on) :: moveSegments m.target po ms ns

/-- The end speed of the first of the moves with distances and junctions `l`, begun at speed `vs` (R174): what the cruise limit and the acceleration
allow bounds the speed at which the next one begins in turn. -/
def endSpeed (vStop vm A B vs : Nat) : List (Nat × Bool) → Nat
  | (d1, true) :: (d2, b) :: rest =>
    let v := min vm (isqrt (vs ^ 2 + 2 * A * d1))
    min v (isqrt ((endSpeed vStop vm A B v ((d2, b) :: rest)) ^ 2 + 2 * B * d2))
  | _ => vStop

/-- The other sled of a bay. -/
def otherSled (a : Fin 16) : Fin 16 := ⟨a.val / 2 * 2 + (1 - a.val % 2), by omega⟩

/-- Whether the executing or next move of an axis is a pair move. -/
def State.pairHead (s : State) (a : Fin 16) : Bool :=
  match s.axes[a].queue with
  | [] => false
  | m :: _ => m.pair

/-- Start speed, stop speed, cruise limit, acceleration and deceleration of an axis (R171, R184). -/
def State.axisLimits (s : State) (a : Fin 16) : Nat × Nat × Nat × Nat × Nat :=
  (s.get (F.STP_VSS_V_START a.val), s.get (F.STP_VSS_V_STOP a.val), min (s.get (F.STP_VMAX_V_M a.val)) (s.vCap a),
   s.get (F.STP_ACC_A_ACC a.val) * 1000, s.get (F.STP_ACC_A_DEC a.val) * 1000)

/-- The limits of an axis's next move: those of a pair move are the slower ones of the two sleds (R171, R175). -/
def State.moveLimits (s : State) (a : Fin 16) (pair : Bool) : Nat × Nat × Nat × Nat × Nat :=
  let l := s.axisLimits a
  let o := s.axisLimits (otherSled a)
  if pair then (min l.1 o.1, min l.2.1 o.2.1, min l.2.2.1 o.2.2.1, min l.2.2.2.1 o.2.2.2.1, min l.2.2.2.2 o.2.2.2.2) else l

/-- The profile of the first of an axis's moves from position `p`, the other sled of a pair being at `po`, at start speed `vs` (R171, R174, R175). -/
def State.plan (s : State) (a : Fin 16) (p po : Int) (vs : Nat) (ms : List Move) : Option Profile :=
  match ms with
  | [] => none
  | m :: _ =>
    let l := s.moveLimits a m.pair
    let segs := moveSegments p po ms (s.axes[otherSled a].queue.dropWhile (fun n => !n.pair))
    let d := (segs.head?.map Prod.fst).getD 0
    if m.park then some ⟨d, vs, vs, vs, l.2.2.2.1, l.2.2.2.2⟩
    else some (profileOf d vs (endSpeed l.2.1 l.2.2.1 l.2.2.2.1 l.2.2.2.2 vs segs) l.2.2.1 l.2.2.2.1 l.2.2.2.2)

/-- The signed distance of what an axis executes: of a HOME inward past its stop (R180), or of the first move. -/
def State.axisCourse (s : State) (a : Fin 16) : Int :=
  if s.axisState a = axHOMING then
    -(s.geti (F.STP_LIM_HI_LIM a.val) - s.geti (F.STP_LIM_LO_LIM a.val) + s.get (F.STP_HOME_HOME_OVER a.val))
  else
    match s.axes[a].queue with
    | [] => 0
    | m :: _ => m.target - s.axes[a].start

/-- What of a course has been covered when the profile has gone `n` of its `d` microsteps: all of it in proportion, to the nearest (R175). -/
def courseAt (course : Int) (n d : Nat) : Int := if d = 0 then course else floorDiv (2 * n * course + d) (2 * d)

/-- Covered distance and velocity of an axis `t` cycles into its profile, both signed; none without a profile. -/
def State.travel (s : State) (a : Fin 16) (t : Nat) : Int × Int :=
  match s.axes[a].profile with
  | none => (0, 0)
  | some p => (courseAt (s.axisCourse a) (p.at t).1 p.dist, courseAt (s.axisCourse a) (p.at t).2 p.dist)

/-- Covered distance `t` cycles into the profile in 1/2^32 microstep; the other sled of a pair moves by whole steps (R169, R175). -/
def State.travelFine (s : State) (a : Fin 16) (t : Nat) : Int :=
  match s.axes[a].profile with
  | none => 0
  | some p =>
    let c := s.axisCourse a
    if c.natAbs = p.dist then c.sign * p.fine t else courseAt c (p.fine t / 2 ^ 32) p.dist * 2 ^ 32

/-- Whether the step generator of an axis executes a profile. -/
def State.axisRuns (s : State) (a : Fin 16) : Bool :=
  (s.axisState a == axRUN || s.axisState a == axHOMING) && s.axes[a].profile.isSome

/-- The profile position of an axis and its velocity (R169, R170). -/
def State.profilePos (s : State) (a : Fin 16) : Int :=
  s.axes[a].start + (if s.axisRuns a then (s.travel a s.axes[a].elapsed).1 else 0)

def State.profileVel (s : State) (a : Fin 16) : Int := if s.axisRuns a then (s.travel a s.axes[a].elapsed).2 else 0

/-- The position accumulator of an axis `n` cycles into its next frame, in 1/2^32 microstep (R168, R169): the profile's progress, once a reversal has
waited, and what the correction adds with the sum of the velocities clamped to V_CAP, which stops at the limits. A velocity of +1.0 is 524,288 microsteps/s. The
velocity at the frame's start stands for the frame in the clamp (DESIGN CHOICE, assumption log 27). -/
def State.axisAt (s : State) (a : Fin 16) (n : Nat) : Int :=
  let x := s.axes[a]
  let cap : Int := s.vCap a * 4096
  let v := s.profileVel a * 4096
  let base := s.axisPos a * 2 ^ 32 + x.frac + (if s.axisRuns a then s.travelFine a (x.elapsed + (n - x.setup)) - s.travelFine a x.elapsed else 0)
  clampInt (min base (s.geti (F.STP_LIM_LO_LIM a.val) * 2 ^ 32)) (max base (s.geti (F.STP_LIM_HI_LIM a.val) * 2 ^ 32))
    (base + floorDiv ((clampInt (-cap) cap (v + x.corr) - v) * (2 * 524288 * n)) cyclesPerSecond)

/-- Whether an axis can issue steps in a frame: it has a driver that holds it, and a velocity. -/
def State.axisSteps (s : State) (a : Fin 16) : Bool :=
  (s.axes[a].corr != 0 || s.axisRuns a) && s.get (F.STP_CTL_ENABLE a.val) == 1 && s.get (F.STP_STAT_DRV_FAULT a.val) == 0

/-- The cycle of the next frame that issues its last step up to cycle `n`, counted from 1; none without a step. -/
def State.lastStep (s : State) (a : Fin 16) (n : Nat) : Option Nat :=
  (List.range n).reverse.find? (fun i => decide (s.axisAt a i / 2 ^ 32 ≠ s.axisAt a (i + 1) / 2 ^ 32)) |>.map (· + 1)

/-- CTRL cycles since the last step at cycle `n` of the next frame, up to 511. -/
def State.stepAge (s : State) (a : Fin 16) (n : Nat) : Nat :=
  min 511 (match if s.axisSteps a then s.lastStep a n else none with
    | some i => n - i
    | none => s.axes[a].age + n)

/-- STEP at cycle `n` of the next frame: high for PULSE_W cycles from each step on (R169). -/
def State.stepLevel (s : State) (a : Fin 16) (n : Nat) : Bool := decide (s.stepAge a n < s.get (F.STP_CTL_PULSE_W a.val))

/-- Where an axis comes to rest when it decelerates from now on at A_DEC to V_STOP; a move that already decelerates to a rest on its target ends
there (R176). -/
def State.stopPoint (s : State) (a : Fin 16) : Int :=
  let x := s.axes[a]
  if s.axisRuns a then
    match x.profile with
    | none => s.axisPos a
    | some p =>
      let l := s.moveLimits a (s.pairHead a)
      let (n, v) := p.at x.elapsed
      let stop := min p.dist (n + (v ^ 2 - l.2.1 ^ 2) / (2 * l.2.2.2.2))
      if p.slowing x.elapsed && p.ve == l.2.1 then x.start + s.axisCourse a
      else s.axisPos a + courseAt (s.axisCourse a) stop p.dist - courseAt (s.axisCourse a) n p.dist
  else s.axisPos a

/-- STP_k_STAT.QUEUE and STP_k_REMAIN follow the queue. -/
def showQueue (a : Fin 16) : Act Unit := do
  let s ← rd
  setF (F.STP_STAT_QUEUE a.val) s.axes[a].queue.length
  match s.axes[a].queue with
  | [] => setI (F.STP_REMAIN_DIST a.val) 0
  | m :: _ => setI (F.STP_REMAIN_DIST a.val) (m.target - s.axisPos a)

/-- DIR takes the direction of a course: its first step waits DIR_SETUP after a change (R169, R174). -/
def setDirection (a : Fin 16) (course : Int) : Act Unit := do
  let s ← rd
  let back := decide (course < 0)
  if course ≠ 0 ∧ back ≠ s.axes[a].back then emit (.axis a fun x => { x with back, setup := s.get (F.STP_CTL_DIR_SETUP a.val) })

/-- The first move of the queue begins, from rest or at the speed of a blended junction. -/
def startMove (a : Fin 16) (vs : Nat) : Act Unit := do
  let s ← rd
  match s.axes[a].queue with
  | [] => setF (F.STP_STAT_STATE a.val) axIDLE
  | m :: ms =>
    emit (.axis a fun x => { x with start := s.axisPos a, elapsed := 0, profile := s.plan a (s.axisPos a) (s.axisPos (otherSled a)) vs (m :: ms) })
    setDirection a (m.target - s.axisPos a)
    setF (F.STP_STAT_STATE a.val) axRUN
  showQueue a

/-- A pair move that both sleds have come to starts on both in the same cycle, from rest or at the speed of a blended junction (R174, R175). -/
def startPair (a : Fin 16) (junction : Option Nat) : Act Unit := do
  let s ← rd
  let o := otherSled a
  if s.pairHead a ∧ s.pairHead o ∧ s.axisState a = axIDLE ∧ s.axisState o = axIDLE then
    let vs := junction.getD (s.moveLimits a true).1
    startMove a vs
    startMove o vs
    let s ← rd
    let w := max s.axes[a].setup s.axes[o].setup
    forAll [a, o] (fun i => emit (.axis i fun x => { x with setup := w }))

/-- The executing move of an axis is planned again, unless it already decelerates (R174). -/
def replan (a : Fin 16) : Act Unit := do
  let s ← rd
  let x := s.axes[a]
  match x.profile with
  | none => pure ()
  | some p =>
    if s.axisState a = axRUN ∧ p.slowing x.elapsed = false then
      emit (.axis a fun x => { x with profile := s.plan a x.start s.axes[otherSled a].start p.vs x.queue })

/-- A move joins the queue; an idle axis starts it unless a pair move waits in front of it, and the junctions not yet passed are planned again (R173,
R174, R175). -/
def appendMove (a : Fin 16) (m : Move) : Act Unit := do
  emit (.axis a fun x => { x with queue := x.queue ++ [m] })
  let s ← rd
  let st := s.axisState a
  if (st = axIDLE ∨ st = axSETTLE ∨ st = axLANDING) ∧ s.pairHead a = false then startMove a (s.get (F.STP_VSS_V_START a.val))
  else
    replan a
    showQueue a

/-- Every queued move is dropped; the axis goes to a state (R176). -/
def clearAxis (a : Fin 16) (st result : Nat) : Act Unit := do
  emit (.axis a fun x => { x with queue := [], profile := none, seek := none, repeated := none, homing := false })
  setF (F.STP_STAT_STATE a.val) st
  setF (F.STP_STAT_RESULT a.val) result
  showQueue a

/-- The steps of an axis up to its rest at `rest` have been issued. -/
def stepTo (a : Fin 16) (rest : Int) : Act Unit := do
  let s ← rd
  addWrap (F.STP_STEP_CNT_CNT a.val) (rest - s.axisPos a).natAbs
  setI (F.STP_POS_POS a.val) rest
  emit (.axis a fun x => { x with start := rest, elapsed := 0, frac := 0, setup := 0
                                  back := if rest = s.axisPos a then x.back else decide (rest < s.axisPos a) })

/-- An axis decelerates to rest, and its queue is dropped (R176). -/
def haltAxis (a : Fin 16) (result : Nat) : Act Unit := do
  let s ← rd
  stepTo a (s.stopPoint a)
  clearAxis a axIDLE result

/-- Parks a sled: a move to 0, then one of −HOME_OVER at V_START (R181). An axis with DRV_FAULT is not parked. -/
def parkSled (a : Fin 16) : Act Unit := do
  let s ← rd
  if s.get (F.STP_STAT_DRV_FAULT a.val) = 0 ∧ s.get (F.STP_CTL_ENABLE a.val) = 1 then
    haltAxis a rDONE
    appendMove a { target := 0 }
    appendMove a { target := -(s.get (F.STP_HOME_HOME_OVER a.val) : Int), park := true }

/-- A sled seek of an OPU to a track (R177). A target outside the limits, or a full queue, makes no move. -/
def requestSeek (k : Fin 8) (track : Nat) : Act Unit := do
  let s ← rd
  let a := sledOf k
  let p := s.trackPos a track
  if s.geti (F.STP_LIM_LO_LIM a.val) ≤ p ∧ p ≤ s.geti (F.STP_LIM_HI_LIM a.val) ∧ s.axes[a].queue.length < 8 ∧
      s.get (F.STP_CTL_ENABLE a.val) = 1 ∧ s.get (F.STP_STAT_DRV_FAULT a.val) = 0 then
    emit (.axis a fun x => { x with seek := some track })
    appendMove a { target := p }

/-! ### Parking and faulting a bay (R46, R47, R48, R136) -/

/-- Whether a motor is at rest with its gates off. -/
def State.motorRests (s : State) (k : Fin 8) : Bool :=
  (s.motorState k == mtOFF || s.motorState k == mtLATCHED) && s.motors[k].atRest

/-- Whether the spindle of a bay is at rest with its gates off. -/
def State.spindleRests (s : State) (b : Fin 4) : Bool := s.motorRests (spindleOf b)

/-- Whether the sleds of a bay have no move left. -/
def State.sledsRest (s : State) (b : Fin 4) : Bool :=
  [axisOf b 0, axisOf b 1].all (fun a => s.axes[a].queue.isEmpty)

/-- A bay that has come to rest leaves PARKING: for LOADED, or EMPTY when nothing is clamped, or FAULTED (R46, R136). -/
def finishPark (b : Fin 4) : Act Unit := do
  let s ← rd
  if s.bayState b.val = bPARKING ∧ s.spindleRests b ∧ s.sledsRest b then
    if s.bays[b].faulting then
      emit (.bay b fun x => { x with faulting := false })
      setBay b bFAULTED
    else setBay b (if s.get (F.BAY_STAT_CLAMPED b.val) = 1 then bLOADED else bEMPTY)

/-- Takes a bay to PARKING: lasers off and focus retracted on both OPUs, sleds parked (R46, R181); STOP goes to every motor of the bay, whatever the
bay's state (R163). -/
def parkBay (b : Fin 4) : Act Unit := do
  let s ← rd
  let st := s.bayState b.val
  forAll [spindleOf b, shuttleOf b] stopMotor
  if st = bSPINNING ∨ st = bREADY ∨ st = bWRITING ∨ st = bREADING then
    setBay b bPARKING
    forAll (opusOf b) (fun k => do
      retract k
      emit (.optic k fun o => { o with lostAt := none }))
    parkSled (axisOf b 0)
    parkSled (axisOf b 1)
    finishPark b

/-- Takes a bay to FAULTED, by way of PARKING when it turns (R136, R179). A bay has no state before BRINGUP, where the fault is then shown (R46). -/
def parkToFaulted (b : Fin 4) : Act Unit := do
  let s ← rd
  let st := s.bayState b.val
  if s.mode < mBRINGUP ∨ s.mode = mRETENTION then emit (.bay b fun x => { x with wasFaulted := true })
  else if st = bPARKING ∨ st = bSPINNING ∨ st = bREADY ∨ st = bWRITING ∨ st = bREADING then
    emit (.bay b fun x => { x with faulting := true })
    parkBay b
  else setBay b bFAULTED

/-- Whether a sled stands where parking leaves it, at its end stop (R181). -/
def State.sledParked (s : State) (a : Fin 16) : Bool := s.axes[a].queue.isEmpty && decide (s.axisPos a = 0)

/-- Brings to rest whatever turns or moves in a bay, one that is FAULTED too: DRAIN and SAFE leave every spindle at rest and every sled
parked whose axis reports no fault (R35, R42). -/
def stopBay (b : Fin 4) : Act Unit := do
  parkBay b
  forAll [axisOf b 0, axisOf b 1] (fun a => do
    let s ← rd
    if s.sledParked a = false ∧ s.axes[a].queue.any Move.park = false then parkSled a)

/-- Whether nothing moves: every OPU's sequencer idle, every motor at rest, no sled with a move left, every bay at rest. -/
def State.drivesRest (s : State) : Bool :=
  opuList.all (fun k => decide (s.optics[k].phase = .idle) && s.motorRests k) &&
  bayList.all (fun b => s.sledsRest b && (s.bayState b.val == bEMPTY || s.bayState b.val == bLOADED || s.bayState b.val == bFAULTED))

/-- Whether the SRV, MOT and STP blocks are clocked: in DRAIN and SAFE only until every bay has come to rest (R29, R42, R47). -/
def State.drivesLive (s : State) : Bool :=
  s.drivesTake || ((s.mode == mDRAIN || s.mode == mSAFE) && !s.drivesRest)

/-- Whether the RCH, LDP and WRP blocks are clocked: in DRAIN only until the writes in progress have stopped (R29, R47). -/
def State.channelsLive (s : State) : Bool :=
  s.drivesTake || (s.mode == mDRAIN && opuList.any (fun k => s.writers[k].busy))

/-! ### Faults (R41, R42, R544 to R546) -/

/-- The modes that may be left for SAFE: BOOT to SERVICE, except RETENTION (R30). -/
def safeFrom (mode : Nat) : Bool := decide (mBOOT ≤ mode) && mode != mRETENTION && mode != mSAFE

/-- Entry into SAFE (R41, R42, R47): every laser off, focus retracted on every OPU, spindles stopped, sleds parked. A start that was in
progress has ended. A request that was held stays held, and the end of the transition acts on it (R32). POWER_OK_TO_REMOVE stays low until a DRAIN has completed (R43). -/
def enterSafe (cause : Nat) : Act Unit := do
  let s ← rd
  if safeFrom s.mode then
    emit (.chip fun c => { c with transition := none, drainInSafe := decide (s.mode = mDRAIN) })
    if s.mode ≠ mDRAIN then setF F.DEV_MODE_STAT_OK_TO_REMOVE 0
    emit (.boot fun x => { x with running := false })
    setF F.DEV_MODE_STAT_TRANSITION 0
    changeMode mSAFE cause
    forAll opuList retract
    forAll bayList stopBay

/-- A fault outside the single-fault model: FAULT_OUTSIDE_MODEL and SAFE (R41, R546). -/
def outsideModel : Act Unit := do
  raise Ev.FAULT_OUTSIDE_MODEL
  enterSafe 7

/-- Detection of a fault of R544: SINGLE_FAULT_BEGIN; a second one before recovery ends sends the part to SAFE (R41, R545). -/
def beginSingle (f : SingleFault) : Act Unit := do
  let s ← rd
  emit (.chip fun c => { c with recovering := c.recovering ++ [f] })
  raise Ev.SINGLE_FAULT_BEGIN
  if !s.chip.recovering.isEmpty then outsideModel

/-- The end of a recovery: SINGLE_FAULT_END (R545). -/
def endSingle (f : SingleFault) : Act Unit := do
  let s ← rd
  if s.chip.recovering.contains f then
    emit (.chip fun c => { c with recovering := c.recovering.filter (· != f) })
    raise Ev.SINGLE_FAULT_END
    attend none

/-- A master that may write the parameter space (R11): a sequencer, the unlocked debug port, an Admin function, while the part runs. -/
def State.mayWrite (s : State) (m : Master) : Bool :=
  s.awake && match m with
  | .sequencer => true
  | .debug => s.get F.SEC_DBG_STAT_UNLOCKED == 1
  | .function f => isAdmin f

end Sys2Proof.Machine
end

