-- ==== Sys2Proof/Machine/OptSeq.lean ====
section
/-! DEFINITION. The sequences of the optical sequencer: how each begins, goes on from step to step and ends (R124 to R132,
R136 to R138). The frames of the servo engine and the spokes of the C channel drive them. -/

namespace Sys2Proof.Machine

/-- The layer the focus loop of an OPU is on, and its target track. -/
def State.optLayer (s : State) (k : Fin 8) : Nat := s.get (F.BAY_OPT_STAT_LAYER k.val)
def State.optTarget (s : State) (k : Fin 8) : Nat := s.get (F.BAY_OPT_TARGET_TRACK k.val)

/-- The sequencer goes to a phase. -/
def optPhase (k : Fin 8) (p : OptPhase) : Act Unit := emit (.optic k fun o => { o with phase := p, frames := 0 })

/-- Begins to move tilt and SA to the presets of a layer (R123): reached at the second execution of each slot. -/
def movePresets (k : Fin 8) (layer : Nat) : Act Unit := do
  let s ← rd
  let tilt := s.geti (F.BAY_LAYER_TILT k.val layer)
  let sa := s.geti (F.BAY_LAYER_SA k.val layer)
  emit (.optic k fun o => { o with preset := #v[(3, tilt), (3, sa)] })

/-- The laser is enabled at read power (R125, R133). -/
def enableLaser (k : Fin 8) : Act Unit := do
  let s ← rd
  emit (.optic k fun o => { o with laser := true, power := .read, laserSince := if o.laser then o.laserSince else s.now })

/-- ACQUIRE (R125): layer 0 is the target until a layer jump begins, so the laser has its read power. -/
def beginAcquire (k : Fin 8) (layer : Nat) : Act Unit := do
  let s ← rd
  enableLaser k
  movePresets k 0
  setF (F.BAY_OPT_CMD_CMD k.val) 1
  setF (F.BAY_OPT_STAT_LAYER k.val) 0
  freeze k 2 true
  emit (.optic k fun o => { o with
    phase := .sweep, frames := 0, startAt := s.now, layer := 0, goal := layer, acquiring := true, curves := 0, sumSeen := false, prevFe := 0
    focusClosed := false, lockRun := 0, lossRun := 0, lostAt := none
    pulseF := s.geti (F.BAY_FOCUS_RETRACT_CODE k.val) })

/-- One hop of LAYER_JUMP (R127): tracking held by pulse mode without a pulse, focus frozen, presets of the next layer. -/
def beginHop (k : Fin 8) : Act Unit := do
  let s ← rd
  let l := s.optLayer k
  freeze k 4 true
  freeze k 2 true
  movePresets k (if l < s.optics[k].layer then l + 1 else l - 1)
  emit (.optic k fun o => { o with phase := .hopHold, frames := 0, startAt := s.now })

/-- LAYER_JUMP to a layer (R127), under the command code it runs for: the C channel goes to COAST until focus is locked on the layer (R85). On the
layer itself focus is locked already, so that source 9 clears at once (R118). No sequence begins while the engine is stopped (R139). -/
def beginLayerJump (k : Fin 8) (layer cmd : Nat) : Act Unit := do
  let s ← rd
  if s.engineStopped (engineOf k) = false then
    setF (F.BAY_OPT_CMD_CMD k.val) cmd
    emit (.optic k fun o => { o with layer := layer })
    if s.optLayer k = layer then optPhase k .layerSpoke
    else
      setF (F.BAY_OPT_STAT_LAYER_JUMP k.val) 1
      setF (F.RCH_SPK_STAT_STATE k.val) 3
      beginHop k

/-- PULL_IN (R129), under the command code it runs for: the tracking slot is open, frozen at its output, until the radial velocity is low. None begins while
the engine is stopped (R139). -/
def beginPullIn (k : Fin 8) (cmd : Nat) : Act Unit := do
  let s ← rd
  if s.engineStopped (engineOf k) = false then
    setF (F.BAY_OPT_CMD_CMD k.val) cmd
    setF (F.BAY_OPT_STAT_PULL_IN k.val) 1
    freeze k 4 true
    emit (.optic k fun o => { o with phase := .velocity, frames := 0, startAt := s.now, prevPos := none, lostRun := none })

/-- JUMP by `dist` tracks (R131): the kick begins, and t_exp becomes the target track. -/
def beginJump (k : Fin 8) (dist : Int) (cmd : Nat) : Act Unit := do
  let s ← rd
  setF (F.BAY_OPT_CMD_CMD k.val) cmd
  setF (F.BAY_OPT_STAT_JUMP k.val) 1
  freeze k 4 true
  emit (.spoke k fun c => { c with tExp := ((c.tExp : Int) + dist).toNat })
  let kick := (s.nv.eeproms[k].kick : Int)
  emit (.optic k fun o => { o with
    phase := .jumpPulse, frames := 0, dist := dist, gate := false, power := if o.laser then .read else .off
    pulseT := if 0 < dist then kick else -kick, landRun := 0, landings := 0, spoke := none })

/-- RETRACT of an OPU whose focus sweep failed: the attempt is counted and a new ACQUIRE is due 2 ms later (R125, R136). -/
def acquireFailed (k : Fin 8) : Act Unit := do
  let s ← rd
  let layer := s.optics[k].goal
  countFailure k
  optCut k rFAILED
  retract k
  emit (.optic k fun o => { o with lostAt := some s.now, backLayer := layer, backTrack := s.optTarget k })

/-- A failed pull-in; the second in succession counts as a loss of focus (R129, R137). After the first the 64 spokes of R137 are counted
(DESIGN CHOICE, assumption log 66). -/
def pullInFailed (k : Fin 8) : Act Unit := do
  let s ← rd
  if 1 ≤ s.optics[k].pullFails then
    emit (.optic k fun o => { o with pullFails := 0 })
    loseFocus k
  else
    countFailure k
    optEnd k rFAILED
    emit (.optic k fun o => { o with pullFails := o.pullFails + 1, lostRun := some 0 })

/-- A hop that fails: LAYER_JUMP_FAIL, and a loss of focus (R138). -/
def hopFailed (k : Fin 8) : Act Unit := do
  raiseOpu k Ev.iLAYER_JUMP_FAIL
  loseFocus k

/-- A pull-in has ended on track: DONE, and no failure is counted any longer (R129, R136). -/
def pulledIn (k : Fin 8) : Act Unit := do
  optEnd k rDONE
  setF (F.BAY_OPT_STAT_FAIL_RUN k.val) 0
  emit (.optic k fun o => { o with pullFails := 0, acquiring := false })

/-- A landing confirmed or late (R131, R132); the pull-in that the jump belongs to ends where on track is set already (R129). -/
def jumpLanded (k : Fin 8) (late : Bool) : Act Unit := do
  let s ← rd
  setF (F.BAY_OPT_STAT_JUMP k.val) 0
  if late then
    incStop (F.BAY_JUMP_LATE_CNT_CNT k.val)
    raiseOpu k Ev.iJUMP_LATE
  if s.optics[k].inPullIn then
    freeze k 4 false
    emit (.optic k fun o => { o with inPullIn := false, phase := .settling, frames := 0 })
    if s.get (F.BAY_OPT_STAT_ON_TRACK k.val) = 1 then pulledIn k
  else optEnd k (if late then rLATE else rDONE)

/-- Refuses a command with a result and OPT_CMD_REJECT (R124, R140). -/
def optRefuse (k : Fin 8) (result : Nat) : Act Unit := do
  setF (F.BAY_OPT_STAT_RESULT k.val) result
  raiseOpu k Ev.iCMD_REJECT 0

/-- Whether the laser of an OPU may be enabled for ACQUIRE: not while its link trains (R125, R134, R245, R247). -/
def State.laserAllowed (s : State) (k : Fin 8) : Bool :=
  s.get (F.BAY_LASER_LIM_MAX k.val) != 0 && s.get (F.BAY_OPT_STAT_LASER_TRIP k.val) == 0 &&
  s.get (F.WRP_WSL_STAT_RESULT k.val) != 3 && s.writers[k].training.isNone

/-- A command written to BAY_OPT_CMD (R124, R125, R129, R139, R140); source 9 is set when LAYER_JUMP to another layer is accepted (R118). A command
that is reserved or out of range is INVALID also while a sequence runs, and so are PULL_IN without focus and ACQUIRE without leave to enable the laser (DESIGN
CHOICE, assumption log 24). -/
def optCommand (k : Fin 8) (cmd layer : Nat) (dist : Int) (atSpoke : Bool) (spoke : Nat) : Act Unit := do
  let s ← rd
  let o := s.optics[k]
  if s.get (F.BAY_OPT_CTL_ENABLE k.val) = 0 then optRefuse k rINVALID
  else if cmd = 0 ∨ 5 < cmd ∨ 7 < layer ∨ (cmd = 4 ∧ (dist = 0 ∨ 64 < dist.natAbs)) then optRefuse k rINVALID
  else if s.engineStopped (engineOf k) then setF (F.BAY_OPT_STAT_RESULT k.val) rABORTED
  else if cmd = 5 then retract k
  else if o.phase ≠ .idle then optRefuse k rBUSY
  else if cmd = 1 ∧ s.laserAllowed k = false then optRefuse k rINVALID
  else if cmd = 3 ∧ s.get (F.BAY_OPT_STAT_FOCUS_LOCKED k.val) = 0 then optRefuse k rINVALID
  else if atSpoke then
    setF (F.BAY_OPT_CMD_CMD k.val) cmd
    if cmd = 2 ∧ layer ≠ s.optLayer k then setF (F.BAY_OPT_STAT_LAYER_JUMP k.val) 1
    emit (.optic k fun o => { o with phase := .pending, frames := 0, goal := layer, dist := dist, spoke := some spoke })
  else if cmd = 1 then beginAcquire k layer
  else if cmd = 2 then beginLayerJump k layer 2
  else if cmd = 3 then beginPullIn k 3
  else beginJump k dist 4

/-- A pending AT_SPOKE command starts (R124). ACQUIRE is refused where the laser may not be enabled by then (R125, R134). A jump of +3 keeps its
spoke for its landing (R132). -/
def startPending (k : Fin 8) : Act Unit := do
  let s ← rd
  let o := s.optics[k]
  let cmd := s.get (F.BAY_OPT_CMD_CMD k.val)
  if cmd = 1 then
    if s.laserAllowed k then beginAcquire k o.goal
    else
      optCut k rINVALID
      raiseOpu k Ev.iCMD_REJECT 0
  else if cmd = 2 then beginLayerJump k o.goal 2
  else if cmd = 3 then beginPullIn k 3
  else
    let sp := if o.dist = 3 then o.spoke else none
    beginJump k o.dist 4
    emit (.optic k fun o => { o with spoke := sp })

/-! ### The bay follows its drives (R46) -/

/-- Whether a bay is to reach READY once at speed: a disc is mounted, attached or being mounted in it (R395, R396). -/
def State.bayHasDisc (s : State) (b : Fin 4) : Bool :=
  s.discs.any (fun d => d.bay == some b) || s.bays[b].attached.isSome || s.bays[b].mounting.isSome

/-- Whether an OPU needs no focus for its bay to be READY: it is on track, or out of service. -/
def State.opuReady (s : State) (k : Fin 8) : Bool :=
  s.get (F.BAY_OPT_STAT_ON_TRACK k.val) == 1 || s.chip.degraded.contains (.opu k.val)

/-- A bay follows its drives (R46, R261): one whose write has stopped parks where that waits for it, or reads where its session is
suspended; LOADED becomes SPINNING once its spindle is driven, and SPINNING becomes READY at speed with both
OPUs on track. On the way an OPU that is out of focus and idle runs ACQUIRE (R125, R395). -/
def settleBay (b : Fin 4) : Act Unit := do
  let s ← rd
  if s.bayState b.val = bWRITING ∧ (opusOf b).all (fun k => !s.writers[k].busy) then
    if s.bays[b].parkLater then
      emit (.bay b fun y => { y with parkLater := false })
      parkBay b
    else if s.bays[b].session.any Session.suspended then setBay b bREADING
  let s ← rd
  let m := s.motors[spindleOf b]
  if (s.mode = mACTIVE ∨ s.mode = mSERVICE) ∧ s.bayState b.val = bLOADED ∧ m.gates ∧ m.target ≠ 0 then setBay b bSPINNING
  let s ← rd
  if s.bayState b.val = bSPINNING ∧ s.motorState (spindleOf b) = mtAT_SPEED ∧ s.bayHasDisc b then
    if (opusOf b).all s.opuReady then setBay b bREADY
    else
      forAll (opusOf b) (fun k => do
        let s ← rd
        let o := s.optics[k]
        if s.get (F.BAY_OPT_STAT_FOCUS_LOCKED k.val) = 0 ∧ o.phase = .idle ∧ o.lostAt.isNone ∧ s.laserAllowed k ∧
            s.get (F.BAY_OPT_CTL_ENABLE k.val) = 1 ∧ s.engineStopped (engineOf k) = false then
          beginAcquire k (s.get (F.BAY_OPT_CMD_LAYER k.val)))

end Sys2Proof.Machine
end

