-- ==== Sys2Proof/Machine/Spokes.lean ====
section
/-! DEFINITION. Spokes: the demodulator's choice of sync, the plausibility checks, track resolution, position error, lock
states, the write gate and the spindle signals (R73 to R91), what an accepted spoke does to the optical sequences (R118,
R129 to R132, R137, R138), and the landing check of a sled seek (R178, R179). -/

namespace Sys2Proof.Machine

/-! ### Decoding a spoke (R73 to R75, R81) -/

/-- Preamble and sync word of a spoke (R73). -/
abbrev spokePreamble : Nat := 0xAAA
abbrev spokeSync : BitVec 12 := 0xF35#12

/-- The track number of an 18-bit Gray code g = t XOR (t >> 1) (R73). -/
def grayDecode (g : Nat) : Nat :=
  let g := g ^^^ (g / 2 ^ 16)
  let g := g ^^^ (g / 2 ^ 8)
  let g := g ^^^ (g / 2 ^ 4)
  let g := g ^^^ (g / 2 ^ 2)
  g ^^^ (g / 2)

/-- Spoke bits 0 to 71 of a track, spoke index, side and layer, bit 0 first (R73, R74): preamble, sync, Gray track number, index, side, layer,
zone, parity and gap. -/
def spokeBits (t index side layer : Nat) : List Bool :=
  let id := (natBits 10 index ++ natBits 1 side ++ natBits 3 layer ++ natBits 5 (zoneOf t))
  let v := id.foldl (fun a b => 2 * a + b.toNat) 0
  natBits 12 spokePreamble ++ natBits 12 spokeSync.toNat ++ natBits 18 (t ^^^ (t / 2)) ++ id ++ natBits 8 (crc8 19 v 0) ++ natBits 3 0

/-- The score of a position: the number of the 12 sync bits that agree with the sliced signal (R78). -/
def syncScore (x : BitVec 12) : Nat := ((List.range 12).filter (fun i => x.getLsbD i == spokeSync.getLsbD i)).length

/-- The amplitude of a burst: the mean absolute deviation of its samples about their mean (R82), in 1/65,536 of a sample code, rounded down
(DESIGN CHOICE, assumption log 66). -/
def burstAmplitude (l : List Int) : Nat :=
  let n := l.length
  (l.map (fun x => (n * x - l.sum).natAbs)).sum * 65536 / (n * n)

/-- The track that an I or O channel decodes with valid parity (R76, R80). -/
def identityTrack (v : BitVec 45) : Option Nat :=
  if crc8 19 (bitsOf v.toNat 8 19) 0 = bitsOf v.toNat 0 8 then some (grayDecode (bitsOf v.toNat 27 18)) else none

/-- RCH_SPK_STAT.STATE codes of R79. -/
abbrev spkSEARCH : Nat := 0
abbrev spkCONFIRM : Nat := 1
abbrev spkLOCKED : Nat := 2
abbrev spkCOAST : Nat := 3

def State.spokeState (s : State) (k : Fin 8) : Nat := s.get (F.RCH_SPK_STAT_STATE k.val)

/-- The first track number beyond a side's tracks (R80). -/
abbrev trackEnd : Nat := 212992

/-- The resolved track t′ of R81 from the decoded track and the bursts; with C + D = 0, where q has no value, t′ = t (DESIGN CHOICE, assumption log 22). -/
def resolveTrack (t a b c d : Nat) : Int :=
  let far : Bool := decide (c + d ≤ 16 * ((c : Int) - d).natAbs) && decide (0 < c + d)
  let nearEven : Bool := decide (d < c)
  if far && nearEven == (t % 2 == 1) then
    if nearEven then (if b < a then t - 1 else t + 1) else (if b < a then t + 1 else t - 1)
  else t

/-- Whether |q| < 0.0625 (R80, R81); it is not with C + D = 0 (DESIGN CHOICE, assumption log 22). -/
def nearHalf (c d : Nat) : Bool := decide (16 * ((c : Int) - d).natAbs < c + d)

/-- PES of R82 on track t′. -/
def pesOf (t : Int) (a b : Nat) : Int :=
  let n := quotient31 ((a : Int) - b) (a + b)
  if t % 2 = 0 then n else satInt 32 (-n)

/-! ### The demodulator (R76 to R80) -/

/-- The measured spoke period; in SEARCH it is seeded from the spindle encoder (R77, R79): a speed of r/16 rpm gives
90,000,000,000 ÷ r units. -/
def State.spokePeriod (s : State) (k : Fin 8) : Nat :=
  let r := (s.geti (F.MOT_SPEED_RPM (k.val / 2))).natAbs
  if s.spokeState k = spkSEARCH ∧ r ≠ 0 then 90000000000 / r else s.get (F.RCH_SPK_PERIOD_PERIOD k.val)

/-- The flywheel prediction (R78). -/
def State.spokePred (s : State) (k : Fin 8) : Nat := s.spokes[k].lastSync + s.spokePeriod k

/-- Whether a position lies in the search window (R78, R79); a spoke bit is 1/2,400 of the period (R73). -/
def State.spokeInWindow (s : State) (k : Fin 8) (pos : Nat) : Bool :=
  let w := if s.spokeState k = spkCONFIRM then 2 else s.get (F.RCH_SPK_CTL_WIN k.val)
  s.spokeState k == spkSEARCH ||
  decide (((pos : Int) - s.spokePred k).natAbs * 2400 ≤ w * s.spokePeriod k)

/-- The better of two candidates: higher score, then nearer the prediction, then earlier (R78). -/
def betterSpoke (pred : Nat) (x y : SpokeCand) : SpokeCand :=
  let dx := ((x.pos : Int) - pred).natAbs
  let dy := ((y.pos : Int) - pred).natAbs
  if syncScore x.sync < syncScore y.sync ∨ (syncScore x.sync = syncScore y.sync ∧ (dy < dx ∨ (dy = dx ∧ y.pos < x.pos))) then y else x

/-- The sync position taken, none when no position qualifies (R78). -/
def State.pickSync (s : State) (k : Fin 8) (x : SpokeRead) : Option SpokeCand :=
  match x.cands.filter (fun c => s.spokeInWindow k c.pos && decide (s.get (F.RCH_SPK_CTL_SYNC_MIN k.val) ≤ syncScore c.sync)) with
  | [] => none
  | c :: cs => some (cs.foldl (betterSpoke (s.spokePred k)) c)

/-- A candidate as the negated signal shows it: every level is sliced the other way (R194). -/
def invertCand (c : SpokeCand) : SpokeCand := { c with sync := ~~~c.sync, bits := ~~~c.bits }

/-- The signals of a spoke period as the demodulator takes them: POL_INV of each input negates its samples, which no burst amplitude shows (R194). -/
def State.facing (s : State) (k : Fin 8) (x : SpokeRead) : SpokeRead :=
  let inv (spot : Nat) : Bool := s.get (F.RCH_IN_CTL_POL_INV (4 * k.val + spot)) == 1
  let turn (c : SpokeCand) : SpokeCand := if inv 1 then invertCand c else c
  { cands := x.cands.map turn, fly := turn x.fly
    inner := if inv 0 then x.inner.map (fun b => ~~~b) else x.inner
    outer := if inv 2 then x.outer.map (fun b => ~~~b) else x.outer
    trailing := if inv 3 then x.trailing.map (fun p => (p.1, ~~~p.2)) else x.trailing }

/-- Whether the step generator of an OPU's sled executes a move (region source 10, R118). -/
def State.sledMoves (s : State) (k : Fin 8) : Bool := s.axisState (sledOf k) == axRUN

/-- Whether the sled of an OPU executes a seek, one that is paused too, or the landing of one is awaited (R177, R178). -/
def State.seeking (s : State) (k : Fin 8) : Bool :=
  let st := s.axisState (sledOf k)
  s.axes[sledOf k].seek.isSome && (st == axRUN || st == axPAUSED || st == axSETTLE || st == axLANDING)

/-- What a spoke shows: the decoded fields and the outcome of the checks of R80. -/
structure SpokeView where
  track : Int
  index : Nat
  side : Nat
  layer : Nat
  zone : Nat
  parity : Bool
  indexOk : Bool
  contOk : Bool
  /-- Every check of R80 except Index and Continuity. -/
  others : Bool
deriving DecidableEq, Repr

/-- The checks of R80 on the candidate taken. -/
def State.viewSpoke (s : State) (k : Fin 8) (x : SpokeRead) (c : SpokeCand) : SpokeView :=
  let v := c.bits.toNat
  let t := grayDecode (bitsOf v 27 18)
  let burst := (burstAmplitude c.burstA, burstAmplitude c.burstB, burstAmplitude c.burstC, burstAmplitude c.burstD)
  let tr := resolveTrack t burst.1 burst.2.1 burst.2.2.1 burst.2.2.2
  let side := bitsOf v 16 1
  let layer := bitsOf v 13 3
  let zone := bitsOf v 8 5
  let parity := crc8 19 (bitsOf v 8 19) 0 == bitsOf v 0 8
  let zoneIs (u : Int) : Bool := decide ((zone : Int) = u / 6656)
  let moving := s.get (F.BAY_OPT_STAT_JUMP k.val) == 1 || s.seeking k || s.sledMoves k
  let lim : Nat := if moving then s.get (F.RCH_SPK_CTL_TRK_WIN k.val) else 1
  { track := tr, index := bitsOf v 17 10, side := side, layer := layer, zone := zone, parity := parity
    indexOk := bitsOf v 17 10 == s.spokes[k].index
    contOk := decide ((tr - s.spokes[k].tExp).natAbs ≤ lim)
    others :=
      parity && decide (t < trackEnd) && side == k.val % 2 &&
      (s.get (F.BAY_OPT_STAT_LAYER_JUMP k.val) == 1 || layer == s.optLayer k) &&
      (zoneIs tr || nearHalf burst.2.2.1 burst.2.2.2 && (zoneIs (tr - 1) || zoneIs (tr + 1))) &&
      (x.inner.bind identityTrack).all (fun i => decide ((i : Int) = tr - 1)) &&
      (x.outer.bind identityTrack).all (fun o => decide ((o : Int) = tr + 1)) }

/-- Whether the bursts of a spoke that is not accepted may be used (R82). The averages are over the accepted spokes there have been, 64 at most;
before the first there is none, and no position error is delivered (DESIGN CHOICE, assumption log 66). -/
def burstsOk (sums : List (Nat × Nat)) (a b : Nat) : Bool :=
  !sums.isEmpty && decide ((sums.map Prod.fst).sum ≤ 2 * sums.length * a) &&
  decide ((sums.map Prod.snd).sum ≤ 2 * sums.length * b)

/-! ### Spindle signals (R88, R89, R151, R152) -/

/-- P_nom of the bay's speed class (R77). -/
def State.nominalPeriod (s : State) (b : Fin 4) : Nat := 4687500 / (s.get (F.BAY_STAT_SPEED b.val) + 1)

/-- A spindle sample event (R151), merged into one of the same frame that is still to be executed: the values for the speed loop, and the run of steady events that leads to AT_SPEED
(R152). -/
def motorSample (b : Fin 4) (speed phase : Int) (valid : Bool) : Act Unit := do
  let k := spindleOf b
  let merged : Bool := (← rd).servos[engineOfBay b].spin[b.val % 2]'(by omega)
  emit (.servo (engineOfBay b) fun v => { v with spin := v.spin.set (b.val % 2) true (by omega) })
  emit (.motor k fun m => { m with speedErr := speed, phaseErr := phase, phaseValid := valid, spokeAge := if valid then 0 else m.spokeAge
                                   steady := if m.ref = m.target ∧ speed.natAbs ≤ 2 ^ 25 then m.steady + (if merged then 0 else 1) else 0 })
  let s ← rd
  if s.motorState k = mtRAMP ∧ 1024 ≤ s.motors[k].steady then
    setMotor k mtAT_SPEED
    setMotorResult k rDONE

/-- The spindle signals of an accepted spoke (R88). -/
def spindleSpoke (k : Fin 8) (pos : Nat) (period : Nat) : Act Unit := do
  let s ← rd
  let b := bayOf k
  let pn := s.nominalPeriod b
  let d := ((pos : Int) - s.spokes[k].sRef + pn / 2) % pn - pn / 2
  let speed := quotient31 (16 * ((pn : Int) - period)) period
  let phase := quotient31 (2 * d) pn
  emit (.spoke k fun c => { c with speedErr := speed, phaseErr := phase, sampleValid := true })
  let top := s.spokeState (opuTop b)
  let fromB := if k.val % 2 = 0 then false else s.bays[b].spindleFromB || (top != spkLOCKED && top != spkCOAST)
  if k.val % 2 = 0 ∨ fromB then
    emit (.bay b fun x => { x with spindleFromB := fromB })
    if s.motorState (spindleOf b) = mtAT_SPEED then motorSample b speed phase true

/-- No sample on a missed or position-only spoke (R89). -/
def noSpindleSample (k : Fin 8) : Act Unit := do
  emit (.spoke k fun c => { c with sampleValid := false })
  let s ← rd
  if s.bays[bayOf k].spindleFromB = (k.val % 2 == 1) then
    emit (.motor (spindleOf (bayOf k)) fun m => { m with phaseValid := false })

/-! ### Landing of a sled seek (R178, R179) -/

/-- A landing check has succeeded on track `t`: slip, position, and pull-in or a correction seek. The pull-in belongs to the sequence that asked for the seek; a
sequence that runs otherwise goes on (R124). -/
def seekLanded (k : Fin 8) (t : Nat) : Act Unit := do
  let s ← rd
  let a := sledOf k
  let target := s.axes[a].seek.getD t
  let slip := s.axisPos a - s.trackPos a t
  let big : Bool := decide (s.get (F.STP_SETTLE_SLIP_TOL a.val) < slip.natAbs)
  let n := if s.optics[k].seekTo = some target then (if big then s.optics[k].slipSeeks + 1 else 0) else 0
  setI (F.STP_LAST_SLIP_SLIP a.val) slip
  setI (F.STP_POS_POS a.val) (s.trackPos a t)
  if slip ≠ 0 then incStop (F.STP_SLIP_CNT_CNT a.val)
  if big then
    setF (F.STP_STAT_SLIP a.val) 1
    raiseAxis a Ev.iSTEP_SLIP
  setF (F.STP_STAT_STATE a.val) axIDLE
  setF (F.STP_STAT_RESULT a.val) rDONE
  emit (.axis a fun x => { x with seek := none, seen := 0, agree := 0, last := none, start := s.trackPos a t, frac := 0 })
  startPair a none
  emit (.spoke k fun c => { c with tExp := t })
  if 2 ≤ n then
    emit (.optic k fun o => { o with seekTo := none, slipSeeks := 0 })
    raiseAxis a Ev.iSTEP_STALL
    parkToFaulted (bayOf k)
  else if ((target : Int) - t).natAbs ≤ 64 then
    emit (.optic k fun o => { o with seekTo := none, slipSeeks := 0 })
    let ph := s.optics[k].phase
    if s.get (F.BAY_OPT_STAT_FOCUS_LOCKED k.val) = 1 ∧ (ph = .idle ∨ ph = .seeking) then
      beginPullIn k (if ph = .idle then 3 else s.get (F.BAY_OPT_CMD_CMD k.val))
  else
    emit (.optic k fun o => { o with seekTo := some target, slipSeeks := n })
    requestSeek k target

/-- One spoke of a landing check: `t` the track of a spoke that passed every check except continuity. -/
def landingSpoke (k : Fin 8) (t : Option Nat) : Act Unit := do
  let a := sledOf k
  emit (.axis a fun x => { x with
    seen := x.seen + 1, last := t
    agree := match t, x.last with
      | some t, some l => if ((t : Int) - l).natAbs ≤ 1 then x.agree + 1 else 0
      | _, _ => 0 })
  let s ← rd
  match t with
  | some t => if s.get (F.STP_SETTLE_LAND_SPOKES a.val) ≤ s.axes[a].agree then seekLanded k t
  | none => pure ()

/-! ### What a spoke does to the optical sequences -/

/-- Source 7 is set, and source 12 clears: a pull-in ends (R118, R129). -/
def onTrackSet (k : Fin 8) : Act Unit := do
  setF (F.BAY_OPT_STAT_ON_TRACK k.val) 1
  setF (F.BAY_OPT_STAT_PULL_IN k.val) 0
  emit (.optic k fun o => { o with lostRun := none })
  let s ← rd
  if s.optics[k].phase = .settling ∨ s.optics[k].phase = .velocity then pulledIn k

/-- Source 7 clears (R118); the spokes from then on are counted while focus stays locked (R137). -/
def clearOnTrack (k : Fin 8) : Act Unit := do
  let s ← rd
  emit (.optic k fun o => { o with onRun := 0 })
  if s.get (F.BAY_OPT_STAT_ON_TRACK k.val) = 1 then
    setF (F.BAY_OPT_STAT_ON_TRACK k.val) 0
    emit (.optic k fun o => { o with lostRun := if s.get (F.BAY_OPT_STAT_FOCUS_LOCKED k.val) = 1 then some 0 else none })

/-- Source 7 after a spoke (R118): `good` counts towards setting it, `bad` clears it; and the spokes counted since it cleared
while focus stayed locked (R137). -/
def updateOnTrack (k : Fin 8) (good bad : Bool) : Act Unit := do
  let s ← rd
  if s.get (F.BAY_OPT_STAT_ON_TRACK k.val) = 1 then
    if bad then clearOnTrack k
  else
    emit (.optic k fun o => { o with onRun := if good then o.onRun + 1 else 0, lostRun := o.lostRun.map (· + 1) })
    if good ∧ 8 ≤ s.optics[k].onRun + 1 then onTrackSet k

/-- A spoke of a jump's landing (R131, R132): `good` when accepted, on the target and within JUMP_LAND_WIN. Two consecutive good spokes confirm
it; those of a jump between triples, begun at spoke `sp`, are spokes `sp` + 7 and `sp` + 8, and it is late unless both are good. -/
def landJump (k : Fin 8) (good : Bool) (index : Nat) : Act Unit := do
  let s ← rd
  let o := s.optics[k]
  match o.spoke with
  | some sp =>
    if index = (sp + 7) % 1024 then emit (.optic k fun o => { o with landRun := good.toNat })
    else if index = (sp + 8) % 1024 then jumpLanded k (!(good && o.landRun == 1 && decide (o.phase = .landing)))
  | none =>
    if o.phase = .landing then
      emit (.optic k fun o => { o with landRun := if good then o.landRun + 1 else 0 })
      if good ∧ 1 ≤ o.landRun then jumpLanded k false

/-- Whether a spoke may be one of a jump's landing. -/
def State.landingDue (s : State) (k : Fin 8) : Bool :=
  decide (s.optics[k].phase = .landing) || (decide (s.optics[k].phase = .jumpPulse) && s.optics[k].spoke.isSome)

/-- Pull-in closes tracking once the radial velocity is below 0.25 track per spoke, over the spokes since the last accepted one (R129). -/
def pullInSpoke (k : Fin 8) (t : Nat) (pes : Int) : Act Unit := do
  let s ← rd
  let pos : Int := (t : Int) * 2 ^ 32 + pes
  let o := s.optics[k]
  emit (.optic k fun o => { o with prevPos := some pos, unread := 0 })
  match o.prevPos with
  | none => pure ()
  | some p =>
    if (pos - p).natAbs < 2 ^ 30 * (o.unread + 1) then
      freeze k 4 false
      let d : Int := (s.optTarget k : Int) - t
      if d = 0 then (if s.get (F.BAY_OPT_STAT_ON_TRACK k.val) = 1 then pulledIn k else optPhase k .settling)
      else if d.natAbs ≤ 64 then
        emit (.optic k fun o => { o with inPullIn := true })
        beginJump k d (s.get (F.BAY_OPT_CMD_CMD k.val))
      else
        optPhase k .seeking
        requestSeek k (s.optTarget k)

/-- What an accepted spoke on `layer` does to the sequence that runs. -/
def sequenceSpoke (k : Fin 8) (t layer : Nat) (pes : Int) : Act Unit := do
  let s ← rd
  let o := s.optics[k]
  let cmd := s.get (F.BAY_OPT_CMD_CMD k.val)
  match o.phase with
  | .spokes => if o.goal = 0 then beginPullIn k cmd else beginLayerJump k o.goal cmd
  | .layerSpoke => if layer = o.layer then beginPullIn k cmd
  | .velocity => pullInSpoke k t pes
  | _ => pure ()

/-- The C channel returns to SEARCH: the sectors in progress fail, a pending command is discarded, a jump is late with its pulse ended, on track
clears (R86, R122, R124, R139). -/
def enterSearch (k : Fin 8) : Act Unit := do
  setF (F.RCH_SPK_STAT_STATE k.val) spkSEARCH
  emit (.spoke k fun c => { c with confirmRun := 0 })
  cutReads k
  clearOnTrack k
  let s ← rd
  match s.optics[k].phase with
  | .pending => optEnd k rABORTED
  | .jumpPulse | .landing => jumpLanded k true
  | _ => pure ()

/-! ### Mismatches (R84, R138) -/

/-- SPOKE_LAYER_MISMATCH: the write stops, the shown layer becomes the current one, tilt and SA move to its presets, and LAYER_JUMP then returns to
the target layer; the third within 1 s counts as a loss of focus (R84, R138). -/
def layerMismatch (k : Fin 8) (layer : Nat) : Act Unit := do
  let s ← rd
  let o := s.optics[k]
  let target := if o.acquiring then o.goal else o.layer
  let recent := s.optics[k].mismatches.filter (fun t => decide (s.now < t + 1000000))
  setF (F.RCH_SPK_STAT_LAYER_MISMATCH k.val) 1
  raiseOpu k Ev.iSPOKE_MISMATCH 1
  stopWriteNow k
  emit (.optic k fun o => { o with mismatches := s.now :: recent })
  setF (F.BAY_OPT_STAT_LAYER k.val) layer
  if s.engineStopped (engineOf k) = false ∧ o.phase ≠ .retracting then
    if 2 ≤ recent.length then loseFocus k
    else
      optCut k rABORTED
      movePresets k layer
      setF (F.BAY_OPT_CMD_CMD k.val) 2
      emit (.optic k fun o => { o with phase := .presets, frames := 0, layer := target })

/-- Runs of spokes with valid parity that show the wrong side or layer (R84). A spoke whose parity is invalid neither counts in them nor ends them,
and SIDE_MISMATCH stays set until the disc leaves the bay or the bay is reset (DESIGN CHOICE, assumption log 66). -/
def mismatchRuns (k : Fin 8) (v : SpokeView) : Act Unit := do
  let s ← rd
  let wrongLayer : Bool := s.get (F.BAY_OPT_STAT_LAYER_JUMP k.val) == 0 && v.layer != s.optLayer k
  emit (.spoke k fun c => { c with sideRun := if v.side = k.val % 2 then 0 else min 16 (c.sideRun + 1)
                                   layerRun := if wrongLayer then c.layerRun + 1 else 0 })
  let s ← rd
  let b := bayOf k
  if 16 ≤ s.spokes[opuTop b].sideRun ∧ 16 ≤ s.spokes[opuBottom b].sideRun ∧
      s.get (F.RCH_SPK_STAT_SIDE_MISMATCH k.val) = 0 then
    forAll (opusOf b) (fun j => setF (F.RCH_SPK_STAT_SIDE_MISMATCH j.val) 1)
    raiseOpu k Ev.iSPOKE_MISMATCH 0
  if s.spokes[k].layerRun = 4 then
    emit (.spoke k fun c => { c with layerRun := 0 })
    layerMismatch k v.layer

/-! ### The write gate (R87) -/

/-- When the first bit of the next data interval is launched: the end of the spoke, 108 spoke bits after its sync position, plus OFFSET, in 1/64 RF cycle
(R86, R253). -/
def State.startTime (s : State) (k : Fin 8) : Int :=
  ((s.spokes[k].lastSync + 108 * s.spokePeriod k / 2400) / 2 : Nat) + s.geti (F.WRP_WR_TIMING_OFFSET k.val)

/-- Layer, and track, that an OPU writes on: of the track that it writes, or of its single sector. -/
def Writer.place (w : Writer) : Nat × Nat :=
  match w.active, w.job with
  | false, some j => (j.layer, j.track)
  | _, _ => (w.layer, w.track)

/-- The levels that sector `j` of the track being written is written with (R56 to R61). -/
def State.frameLevels (s : State) (k : Fin 8) (j : Nat) : List Bool :=
  let w := s.writers[k]
  let p : List Byte := if w.active then w.payloads.getD j [] else match w.job with
    | some x => if x.sector = j then x.payload else []
    | none => []
  if p.isEmpty then [] else nrzi (frameBits w.place.2 j (encodeSector p))

/-- The bits of a data interval of `n` bits from track bit `a` that an OPU writes, as two bounds: of its track, begun where the entry sector's first bit lies and ended
there or, where a stop waits, at the next sector boundary; or of a single sector, begun with its first bit. The bounds are equal where it writes none (R251 to
R253, R260). -/
def Writer.span (w : Writer) (a n : Nat) : Nat × Nat :=
  if w.active then
    let e := 57000 * w.entry
    let holds : Bool := decide (a ≤ e) && decide (e < a + n)
    let last := if holds then e else a + n
    if w.reach = 0 then (if holds ∧ w.stopAt.isNone then (e, a + n) else (a, a))
    else if 57000 * w.spt ≤ w.reach then (a, a)
    else (a, if w.stopAt.isSome then min last (ceilDiv a 57000 * 57000) else last)
  else match w.job with
    | none => (a, a)
    | some j =>
      let b := 57000 * j.sector
      if max a b < min (a + n) (b + 57000) ∧ j.sent = max a b - b then (max a b, min (a + n) (b + 57000)) else (a, a)

/-- The levels of track bits `lo` to `hi`, none where a frame stays unwritten (R55). -/
def State.spanLevels (s : State) (k : Fin 8) (lo hi : Nat) : List (Option Bool) :=
  let frame (j : Nat) : List (Option Bool) := match s.frameLevels k j with
    | [] => List.replicate 57000 none
    | l => l.map some
  ((frame (lo / 57000) ++ frame (lo / 57000 + 1)).drop (lo % 57000)).take (hi - lo)

/-- Bits `lo` to `hi` of a track have gone out; the last bits of a single sector leave it written. -/
def wroteBits (k : Fin 8) (lo hi : Nat) : Act Unit := do
  let s ← rd
  emit (.writer k fun w => if w.active then { w with reach := w.reach + (hi - lo) }
    else { w with job := w.job.map (fun j => { j with sent := j.sent + (hi - lo) }) })
  match s.writers[k].active, s.writers[k].job with
  | false, some j => if 57000 ≤ j.sent + (hi - lo) then emit (.out (.sector k.val j.track j.sector j.payload))
  | _, _ => pure ()

/-- START for the data interval after the spoke just received, from its first bit to the last bit written in it, and its symbols; none where nothing of it is
written. c_0 and PHASE place the launch at the end of the spoke plus OFFSET, LAT cycles after the symbol (R243, R253). The gate is open while
something is written, and the T lane runs from the first START (R248, R254). -/
def sendStart (k : Fin 8) : Act Unit := do
  let s ← rd
  let w := s.writers[k]
  let spt := sptOf (zoneOf w.place.2)
  let i := (s.spokes[k].index + 2047 - startSpoke w.place.2) % 1024
  let n := intervalBits spt i
  let a := i * (spt * 57000) / 1024
  let x := w.span a n
  closeGate k
  if x.1 < x.2 then
    let levels := List.replicate (x.1 - a) none ++ s.spanLevels k x.1 x.2 ++ List.replicate (a + n - x.2) none
    let y := s.strategy k
    let symbols := symbolsOf y.lead y.trail (s.get (F.WRP_CTL_COOL_EN k.val) == 1) levels
    wroteBits k x.1 x.2
    if symbols.isEmpty = false then
      let period := startPeriod (s.spokePeriod k) n
      let t := s.startTime k
      sendFrame k (.start period symbols.length (t % 64).toNat)
      sendSymbols k (floorDiv t 64 - s.get (F.WRP_WSL_CTL_LAT k.val)) period symbols
      emit (.optic k fun o => { o with gate := true, power := if o.laser then .write else .off })
      emit (.writer k fun w => { w with
        started := true, tLane := true, light := ((t * 2 ^ 18, period, symbols.map Prod.fst) :: w.light).take 4 })

/-- WR_GATE_OK after a spoke. The write goes on with the next interval, or stops at a spoke that fails; one that has not begun waits. Besides R87, WRP_CTL,
a MARK ratio of 0, WR_DISABLED and heat keep the gate closed, and so does another layer or target track than that of the write (R248, R265, R278). -/
def writeGate (k : Fin 8) (ok : Bool) : Act Unit := do
  let s ← rd
  let w := s.writers[k]
  setF (F.RCH_SPK_STAT_WR_GATE_OK k.val) ok.toNat
  emit (.writer k fun w => { w with started := false })
  if w.active || w.job.isSome then
    if ok && s.writerReady k && (s.strategy k).mark != 0 && (s.optLayer k, s.optTarget k) == w.place then sendStart k
    else if w.underWay then
      stopWriteNow k
      if !ok then raiseOpu k Ev.iSPOKE_WRITE_STOP
    else closeGate k

/-! ### Gating the data channel (R52, R86) -/

/-- The delay of the T spot behind the C spot at a track, in 1/128 of an RF cycle: 16 µm of a circumference of 2π (23.96 mm + n × 0.16 µm), for the
spoke period `p`, with π as 31415926535/10^10 and rounded down (DESIGN CHOICE, assumption log 66). -/
def trailDelay (p n : Nat) : Nat := 16000 * 1024 * p * 10000000000 / (2 * 31415926535 * (23960000 + 160 * n))

/-- T sync after a spoke whose C sync position is `c`: the best of the positions within ±WIN of `c` delayed, none of them missed below SYNC_MIN, and
that delayed position otherwise (R78, R86). -/
def State.trailSync (s : State) (k : Fin 8) (x : SpokeRead) (c : Nat) : Nat :=
  let p := s.spokePeriod k
  let due := c + trailDelay p s.spokes[k].tExp
  let cand (y : Nat × BitVec 12) : SpokeCand := { pos := y.1, sync := y.2, bits := 0 }
  match (x.trailing.filter (fun y => decide (((y.1 : Int) - due).natAbs * 2400 ≤ s.get (F.RCH_SPK_CTL_WIN k.val) * p) &&
      decide (s.get (F.RCH_SPK_CTL_SYNC_MIN k.val) ≤ syncScore y.2))).map cand with
  | [] => due
  | y :: ys => (ys.foldl (betterSpoke due) y).pos

/-- The data lanes resume 96 spoke bits after the end of the sync of a spoke, for the channel bits of the next data interval (R52, R86). -/
def gateData (k : Fin 8) (x : SpokeRead) : Act Unit := do
  let s ← rd
  let y := s.spokes[k]
  let p := s.spokePeriod k
  let rest := 108 * p / 2400
  let spt := sptOf (zoneOf y.tExp)
  emit (.spoke k fun y => { y with intervals := ({
    index := (y.index + 1023) % 1024, period := p, dataFrom := y.lastSync + rest, tFrom := s.trailSync k x y.lastSync + rest
    bits := intervalBits spt ((y.index + 2047 - startSpoke y.tExp) % 1024) } :: y.intervals).take 64 })

/-! ### SPOKE_RECEIVED -/

/-- A spoke in SEARCH or CONFIRM (R79). In SEARCH each spoke whose sync is found seeds the flywheel's index and the expected track, against which the
next one is checked (DESIGN CHOICE, assumption log 22). No such spoke is accepted or missed, so it fails the write gate (R87); the spokes of R137 go on being counted. -/
def lockSpoke (k : Fin 8) (x : SpokeRead) : Act Unit := do
  writeGate k false
  updateOnTrack k false false
  noSpindleSample k
  let s ← rd
  let pred := s.spokePred k
  match s.pickSync k x with
  | none =>
    let complement : Bool := s.spokeState k == spkSEARCH && (s.pickSync k { x with cands := x.cands.map invertCand }).isSome
    emit (.spoke k fun c => { c with lastSync := pred, index := (c.index + 1) % 1024, invRun := if complement then c.invRun + 1 else 0 })
    if s.spokeState k = spkCONFIRM then enterSearch k
  | some c =>
    let v := s.viewSpoke k x c
    if v.parity then mismatchRuns k v
    let search : Bool := s.spokeState k == spkSEARCH
    let run := s.spokes[k].confirmRun + 1
    setF (F.RCH_SPK_PERIOD_PERIOD k.val) (if search then s.spokePeriod k else c.pos - s.spokes[k].lastSync)
    emit (.spoke k fun y => { y with lastSync := c.pos, index := (v.index + 1) % 1024, invRun := 0 })
    if search then emit (.spoke k fun y => { y with tExp := v.track.toNat })
    if v.others ∧ v.indexOk ∧ v.contOk then
      emit (.spoke k fun y => { y with tExp := v.track.toNat, confirmRun := if search then 0 else run })
      setF (F.RCH_SPK_STAT_LAST_INDEX k.val) v.index
      if search then setF (F.RCH_SPK_STAT_STATE k.val) spkCONFIRM
      else if s.get (F.RCH_SPK_CTL_CONFIRM k.val) ≤ run then
        setF (F.RCH_SPK_STAT_STATE k.val) spkLOCKED
        setF (F.RCH_SPK_STAT_MISS_RUN k.val) 0
        emit (.spoke k fun y => { y with sRef := c.pos, confirmRun := 0 })
    else if !search then enterSearch k

/-- The position error of a spoke is delivered, or none (R82). -/
def deliverPes (k : Fin 8) (pes : Option Int) : Act Unit := do
  emit (.spoke k fun c => { c with pesValid := pes.isSome })
  match pes with
  | none => pure ()
  | some p =>
    setI (F.RCH_SPK_PES_PES k.val) p
    emit (.servo (engineOf k) fun v => { v with pes := v.pes.set (k.val % 4) true (by omega) })

/-- An accepted spoke (R79, R80). -/
def acceptSpoke (k : Fin 8) (c : SpokeCand) (v : SpokeView) : Act Unit := do
  let s ← rd
  let y := s.spokes[k]
  let pes := pesOf v.track (burstAmplitude c.burstA) (burstAmplitude c.burstB)
  let jumpingLayer : Bool := s.get (F.BAY_OPT_STAT_LAYER_JUMP k.val) == 1
  addWrap (F.RCH_SPK_ACC_CNT_CNT k.val) 1
  setF (F.RCH_SPK_PERIOD_PERIOD k.val) (c.pos - y.lastSync)
  setF (F.RCH_SPK_STAT_MISS_RUN k.val) 0
  setF (F.RCH_SPK_STAT_LAYER_MISMATCH k.val) 0
  setF (F.RCH_SPK_STAT_LAST_INDEX k.val) v.index
  setF (F.RCH_SPK_STAT_STATE k.val) (if jumpingLayer then spkCOAST else spkLOCKED)
  setF (F.RCH_SPK_POS_TRACK k.val) v.track.toNat
  setF (F.RCH_SPK_POS_FLYWHEEL k.val) 0
  setF (F.RCH_SPK_POS_SIDE k.val) v.side
  setF (F.RCH_SPK_POS_LAYER k.val) v.layer
  setF (F.RCH_SPK_POS_ZONE k.val) v.zone
  emit (.spoke k fun z => { z with
    lastSync := c.pos, index := (v.index + 1) % 1024, slipRun := 0, accepted := true
    sRef := if s.spokeState k = spkLOCKED ∨ jumpingLayer = true then z.sRef + s.nominalPeriod (bayOf k) else c.pos
    sums := ((burstAmplitude c.burstA + burstAmplitude c.burstB, burstAmplitude c.burstC + burstAmplitude c.burstD) :: z.sums).take 64
    tExp := if s.get (F.BAY_OPT_STAT_JUMP k.val) = 1 then z.tExp else v.track.toNat })
  deliverPes k (some pes)
  spindleSpoke k c.pos (c.pos - y.lastSync)
  let off := pes.natAbs * 128
  let target : Int := s.optTarget k
  writeGate k (decide (v.track = target) && decide (off ≤ s.get (F.RCH_SPK_WR_OFFTRACK k.val) * 2 ^ 31) &&
    decide (((c.pos : Int) - s.spokePred k).natAbs * 2400 ≤ s.get (F.RCH_SPK_WR_SLIP k.val) * s.spokePeriod k))
  let win := s.get (F.BAY_OPT_WIN_ONTRK_WIN k.val) * 2 ^ 31
  let locked : Bool := s.get (F.BAY_OPT_STAT_FOCUS_LOCKED k.val) == 1
  updateOnTrack k (locked && decide (v.track = target) && decide (off ≤ win))
    (!locked || decide (v.track ≠ target) || decide (2 * win < off))
  if s.landingDue k then
    landJump k (decide (v.track = y.tExp) && decide (off ≤ s.get (F.BAY_OPT_CTL_JUMP_LAND_WIN k.val) * 2 ^ 31)) v.index
  else sequenceSpoke k v.track.toNat v.layer pes

/-- A spoke that is not accepted: position-only, or missed when `c` is none (R79, R80, R82, R83, R85). A position-only spoke ends a run of misses. A
missed spoke without usable bursts has no position error, and fails the write gate (DESIGN CHOICE, assumption log 66). -/
def coastSpoke (k : Fin 8) (x : SpokeRead) (c : Option SpokeCand) (slip : Option Nat) : Act Unit := do
  let s ← rd
  let y := s.spokes[k]
  let pred := s.spokePred k
  let jumpingLayer : Bool := s.get (F.BAY_OPT_STAT_LAYER_JUMP k.val) == 1
  let bursts := c.getD x.fly
  let amp := (burstAmplitude bursts.burstA, burstAmplitude bursts.burstB)
  let run := s.get (F.RCH_SPK_STAT_MISS_RUN k.val) + 1
  setF (F.RCH_SPK_STAT_LAST_INDEX k.val) y.index
  setF (F.RCH_SPK_POS_TRACK k.val) y.tExp
  setF (F.RCH_SPK_POS_FLYWHEEL k.val) 1
  emit (.spoke k fun z => { z with index := (z.index + 1) % 1024, sRef := z.sRef + s.nominalPeriod (bayOf k), accepted := false })
  emit (.optic k fun o => { o with unread := o.unread + 1 })
  match c with
  | some c =>
    addWrap (F.RCH_SPK_POS_CNT_CNT k.val) 1
    setF (F.RCH_SPK_PERIOD_PERIOD k.val) (c.pos - y.lastSync)
    if !jumpingLayer then setF (F.RCH_SPK_STAT_MISS_RUN k.val) 0
    emit (.spoke k fun z => { z with lastSync := c.pos })
  | none =>
    emit (.spoke k fun z => { z with lastSync := pred })
    setF (F.RCH_SPK_STAT_STATE k.val) spkCOAST
    if !jumpingLayer then
      addWrap (F.RCH_SPK_MISS_CNT_CNT k.val) 1
      setF (F.RCH_SPK_STAT_MISS_RUN k.val) (min 15 run)
  if jumpingLayer then setF (F.RCH_SPK_STAT_STATE k.val) spkCOAST
  let pes := pesOf y.tExp amp.1 amp.2
  let usable := burstsOk y.sums (amp.1 + amp.2) (burstAmplitude bursts.burstC + burstAmplitude bursts.burstD)
  deliverPes k (if usable then some pes else none)
  noSpindleSample k
  let off := pes.natAbs * 128
  writeGate k (c.isNone && decide (run ≤ s.get (F.RCH_SPK_WR_MISS_MAX k.val)) && decide (y.tExp = s.optTarget k) &&
    usable && decide (off ≤ s.get (F.RCH_SPK_WR_OFFTRACK k.val) * 2 ^ 31))
  updateOnTrack k false (usable && decide (2 * s.get (F.BAY_OPT_WIN_ONTRK_WIN k.val) * 2 ^ 31 < off))
  if s.landingDue k then landJump k false y.index
  match slip with
  | some d =>
    emit (.spoke k fun z => { z with slipDiff := d, slipRun := if z.slipDiff = d then z.slipRun + 1 else 1 })
    let s ← rd
    if 4 ≤ s.spokes[k].slipRun then
      emit (.spoke k fun z => { z with index := (z.index + d) % 1024, slipRun := 0 })
      raiseOpu k Ev.iSPOKE_INDEX_SLIP
  | none => emit (.spoke k fun z => { z with slipRun := 0 })
  if c.isNone ∧ jumpingLayer = false ∧ s.get (F.RCH_SPK_CTL_COAST_MAX k.val) ≤ run then
    raiseOpu k Ev.iSPOKE_LOCK_LOST
    enterSearch k

/-- A spoke in LOCKED or COAST. While a sled seek runs or settles the expected track follows each spoke that fails only Continuity (DESIGN CHOICE, assumption
log 22). -/
def trackSpoke (k : Fin 8) (x : SpokeRead) : Act Unit := do
  let s ← rd
  match s.pickSync k x with
  | none =>
    coastSpoke k x none none
    if s.axisState (sledOf k) = axLANDING then landingSpoke k none
  | some c =>
    let v := s.viewSpoke k x c
    if v.parity then mismatchRuns k v
    let slip := if v.others && v.contOk && !v.indexOk then some ((v.index + 1024 - s.spokes[k].index) % 1024) else none
    if v.others ∧ v.indexOk ∧ v.contOk then acceptSpoke k c v else coastSpoke k x (some c) slip
    if s.seeking k ∧ v.others ∧ v.indexOk then emit (.spoke k fun y => { y with tExp := v.track.toNat })
    if s.axisState (sledOf k) = axLANDING then
      landingSpoke k (if v.others ∧ v.indexOk then some v.track.toNat else none)

/-- A spoke period ends on the C channel of OPU `k` (R78 to R89), its signals negated where POL_INV says so (R194). A pending AT_SPOKE command starts when
the next spoke is its spoke (R124). -/
def receiveSpoke (k : Fin 8) (raw : SpokeRead) : Act Unit := do
  let s ← rd
  let x := s.facing k raw
  let st := s.spokeState k
  if st = spkSEARCH ∨ st = spkCONFIRM then lockSpoke k x else trackSpoke k x
  gateData k x
  let s ← rd
  if s.optics[k].phase = .pending ∧ s.optics[k].spoke = some s.spokes[k].index then startPending k
  settleBay (bayOf k)

/-- TRACK_LOST_COUNT (R137): on track has stayed clear for 64 spokes while focus stayed locked; TRACK_LOST is raised and
PULL_IN runs to the same target. -/
def execTrackLostCount (k : Fin 8) (s : State) : Answer :=
  answerWhen s.drivesTake (do
    if s.get (F.BAY_OPT_STAT_FOCUS_LOCKED k.val) = 1 ∧ s.get (F.BAY_OPT_STAT_ON_TRACK k.val) = 0 ∧
        s.optics[k].phase = .idle ∧ s.seeking k = false ∧ s.engineStopped (engineOf k) = false ∧ 64 ≤ s.optics[k].lostRun.getD 0 then
      raiseOpu k Ev.iTRACK_LOST
      beginPullIn k 3) s

/-- LANDING_TIMEOUT (R178): a landing check has not succeeded within 200 spokes. -/
def execLandingTimeout (a : Fin 16) (s : State) : Answer :=
  answerWhen s.drivesLive (do
    if s.axisState a = axLANDING ∧ a.val % 4 < 2 ∧ 200 ≤ s.axes[a].seen then
      raiseAxis a Ev.iSTEP_LAND_FAIL
      clearAxis a axIDLE rFAILED
      loseFocus (opuOfSled a)) s

end Sys2Proof.Machine
end

