-- ==== Sys2Proof/Machine/Pwm.lean ====
section
/-! DEFINITION. The arithmetic of one motor's PWM: the transforms (R144, R146), the compare values and sampling windows (R144, R145), and the switches
that the counter drives (R143). Angles are 16-bit fractions of a revolution; the rounding of products and quotients is a DESIGN CHOICE, that of the cosine a free value (assumption
log 67). -/

namespace Sys2Proof.Machine

/-! ### Transforms (R144, R146) -/

/-- A product of two Q1.31 values. -/
def mulQ (a b : Int) : Int := floorDiv (a * b) (2 ^ 31)

/-- What is left of the series of the cosine after its first `i` terms, in 1/2^64: `x` is the square of the angle, `t` the last term's magnitude. -/
def cosSeries (x : Nat) : Nat → Nat → Nat → Int
  | 0, _, _ => 0
  | n + 1, i, t =>
    let t' : Nat := t * x / 2 ^ 64 / ((2 * i + 1) * (2 * i + 2))
    0 - (t' : Int) - cosSeries x n (i + 1) t'

/-- The cosine of `r` units of 1/65,536 revolution, up to a quarter of one, in Q1.31: the code below it, or the one above it where the part rounds up.
0 and the quarter are exact. 6283185307179586476925286766559 ÷ 10^30 is 2π. -/
def cosQuarter (r : Nat) : Int :=
  if r = 0 then 2 ^ 31 else if r = 16384 then 0
  else
    let a := r * 6283185307179586476925286766559 * 2 ^ 64 / (65536 * 10 ^ 30)
    (2 ^ 64 + cosSeries (a * a / 2 ^ 64) 14 0 (2 ^ 64)) / 2 ^ 33 + (Config.roundsUp r).toNat

/-- Cosine and sine of an angle in Q1.31. -/
def cosQ (angle : Nat) : Int :=
  let r := angle % 16384
  match angle / 16384 % 4 with
  | 0 => cosQuarter r
  | 1 => -cosQuarter (16384 - r)
  | 2 => -cosQuarter r
  | _ => cosQuarter (16384 - r)
def sinQ (angle : Nat) : Int := cosQ (angle + 49152)

/-- √3, in 1/10^9. -/
def sqrt3 : Int := 1732050808

/-- Park and its inverse: from the stationary frame to the frame at an angle and back. -/
def park (a b : Int) (angle : Nat) : Int × Int :=
  (mulQ a (cosQ angle) + mulQ b (sinQ angle), mulQ b (cosQ angle) - mulQ a (sinQ angle))

def unpark (d q : Int) (angle : Nat) : Int × Int :=
  (mulQ d (cosQ angle) - mulQ q (sinQ angle), mulQ d (sinQ angle) + mulQ q (cosQ angle))

/-- Clarke, of three values whose sum is 0, and its inverse. -/
def clarke (u v w : Int) : Int × Int := (u, floorDiv ((v - w) * 10 ^ 9) sqrt3)

def unclarke (a b : Int) : Int × Int × Int :=
  let h := floorDiv (b * sqrt3) (2 * 10 ^ 9)
  (a, floorDiv (-a) 2 + h, floorDiv (-a) 2 - h)

/-- The magnitude of a vector. -/
def magnitude (a b : Int) : Nat := isqrt (a.natAbs ^ 2 + b.natAbs ^ 2)

/-- A voltage vector clamped to VMAX in 1/256 of the linear range, which +1.0 stands for (R144). -/
def limitVector (d q : Int) (vmax : Nat) : Int × Int :=
  let lim : Nat := vmax * 2 ^ 23
  let m := magnitude d q
  if m ≤ lim then (d, q) else ((d * lim).tdiv m, (q * lim).tdiv m)

/-- The compare value of a phase voltage after injection: half the period's height at 0, and the whole height at both ends of the linear range, in
which a phase reaches √3/2. -/
def compareOf (x : Int) : Nat := (clampInt 0 1536 (768 - floorDiv (x * 1536 * 10 ^ 9) (sqrt3 * 2 ^ 31))).toNat

/-- The compare values of phases U, V and W for a vector in the stationary frame, with min-max injection (R144). -/
def phaseCompare (a b : Int) : Nat × Nat × Nat :=
  let (u, v, w) := unclarke a b
  let mid := floorDiv (max u (max v w) + min u (min v w)) 2
  (compareOf (u - mid), compareOf (v - mid), compareOf (w - mid))

/-! ### Sampling windows (R144, R145) -/

/-- The phases in the order of their compare values: hi, mid, lo (R144); U before V before W where they are equal. -/
def phaseOrder (u v w : Nat) : Nat × Nat × Nat :=
  if u ≤ v then
    if v ≤ w then (0, 1, 2) else if u ≤ w then (0, 2, 1) else (2, 0, 1)
  else if u ≤ w then (1, 0, 2) else if v ≤ w then (1, 2, 0) else (2, 1, 0)

/-- Up and down compare values of hi, mid and lo with windows of at least `W` cycles (R145); none when a shifted value falls
outside 0 to 1,536. -/
def shiftEdges (hi mid lo W : Nat) : Option ((Nat × Nat) × (Nat × Nat) × (Nat × Nat)) :=
  let hu : Int := if mid - hi < W then (mid : Int) - W else hi
  let lu : Int := if lo - mid < W then (mid : Int) + W else lo
  let hd : Int := 2 * hi - hu
  let ld : Int := 2 * lo - lu
  let inside (c : Int) : Bool := decide (0 ≤ c) && decide (c ≤ 1536)
  if inside hu && inside hd && inside lu && inside ld then
    some ((hu.toNat, hd.toNat), (mid, mid), (lu.toNat, ld.toNat))
  else none

/-- Entry `i` of a triple. -/
def pick3 {α : Type} (t : α × α × α) (i : Nat) : α := if i = 0 then t.1 else if i = 1 then t.2.1 else t.2.2

/-- What phase `i` takes of a triple given for hi, mid and lo. -/
def ofPhase {α : Type} (order : Nat × Nat × Nat) (t : α × α × α) (i : Nat) : α :=
  if order.1 = i then t.1 else if order.2.1 = i then t.2.1 else t.2.2

/-- The edges of a period whose phases have duties by compare values `c`: none where a shifted edge falls outside the counter's range (R145). -/
def periodEdges (c : Nat × Nat × Nat) (W : Nat) : Option ((Nat × Nat) × (Nat × Nat) × (Nat × Nat)) :=
  let o := phaseOrder c.1 c.2.1 c.2.2
  shiftEdges (pick3 c o.1) (pick3 c o.2.1) (pick3 c o.2.2) W

/-- The up and down compare values of outputs U, V and W: the shifted ones, or those of the duties; PH_SWAP exchanges V and W (R145, R158). -/
def pwmEdges (c : Nat × Nat × Nat) (W : Nat) (swap : Bool) : List (Nat × Nat) :=
  let edges (i : Nat) : Nat × Nat := match periodEdges c W with
    | some t => ofPhase (phaseOrder c.1 c.2.1 c.2.2) t i
    | none => (pick3 c i, pick3 c i)
  if swap then [edges 0, edges 2, edges 1] else [edges 0, edges 1, edges 2]

/-- The compare values of step 2 of the wiring check (R157): U is high for 450 cycles (3 µs) up to the counter's peak, whose high-side switch turns
on `dead` cycles after its edge; V and W stay low. -/
def vectorEdges (dead : Nat) : List (Nat × Nat) := [(1086 - dead, 1537), (1537, 1537), (1537, 1537)]

/-! ### Switches (R143) -/

/-- Whether the counter is at or above the compare value of its slope at cycle `t` of a period of 3,072: up to 1,536 and back to 0. -/
def aboveCompare (c : Nat × Nat) (t : Nat) : Bool :=
  if t % 3072 < 1536 then decide (c.1 ≤ t % 3072) else decide (c.2 ≤ 3072 - t % 3072)

/-- The high-side and the low-side switch of a phase at cycle `t`: each turns on `dead` cycles after its edge and off at once. -/
def phaseSwitches (c : Nat × Nat) (dead t : Nat) : Bool × Bool :=
  let past := (List.range (dead + 1)).map (fun i => aboveCompare c (t % 3072 + 3072 - i))
  (past.all id, past.all not)

end Sys2Proof.Machine
end

