-- ==== Sys2Proof/Machine/Training.lean ====
section
/-! DEFINITION. Training of the laser links (R245 to R247): the tests, which the frames of the servo engine measure, and the corrections. -/

namespace Sys2Proof.Machine

def raiseWrp (i : Nat) (k : Fin 8) : Act Unit := raise (Ev.wrp i) 0 k.val

abbrev wrpWSL_CORRECTED : Nat := 0
abbrev wrpWSL_TRAIN_FAIL : Nat := 1
abbrev wrpRAW_FAIL_BURST : Nat := 2
abbrev wrpRELOC_EXHAUSTED : Nat := 3
abbrev wrpSPARE_EXHAUSTED : Nat := 4
abbrev wrpWRITE_SUSPENDED : Nat := 5
abbrev wrpCFG_REJECT : Nat := 6

/-! ### What the tests find (R245, R246) -/

/-- The level whose ratio to the reference lies nearest: 1.00, 0.90, 0.80, 0.70 for LEVEL 0 to 3; a tie goes to the lower level. -/
def nearestLevel (m reference : Int) : Nat :=
  (List.range 4).foldl (fun (a b : Nat) =>
    if (10 * m - (10 - b : Int) * reference).natAbs < (10 * m - (10 - a : Int) * reference).natAbs then b else a) 0

/-- Corrections of R246: SWAP, INV_0, INV_1. -/
abbrev Corrections : Type := Bool × Bool × Bool

/-- The corrections that tests 1 to 3 call for; none for no fit (R246). -/
def corrections (levels : List Nat) : Option Corrections :=
  match levels with
  | [0, 1, 0] => some (false, false, false)
  | [3, 2, 3] => some (false, true, false)
  | [0, 0, 1] => some (true, false, false)
  | [3, 3, 2] => some (true, false, true)
  | _ => none

/-- Test 4 (R246): DUTY, 0 as intended, 1 SHIFT inverted, 2 no effect, by the nearest of 0.775, 0.925 and 0.85 of the reference. -/
def dutyOf (m reference : Int) : Nat :=
  if 80 * m < 65 * reference then 0 else if 80 * m ≤ 71 * reference then 2 else 1

/-- Whether the reference reaches half the monitor value of the read drive code in the EEPROM, in the upper 16 bits of Q1.31; `sum` is over 128 frames
(R133, R246). -/
def State.monitorOk (s : State) (k : Fin 8) (sum : Int) : Bool := decide ((s.nv.eeproms[k].driveFront : Int) * 65536 * 128 ≤ 2 * sum)

/-! ### The course of a training (R245 to R247) -/

/-- The corrections of a link are set. -/
def setWiring (k : Fin 8) (c : Corrections) (clk : Bool) : Act Unit := do
  setF (F.WRP_WSL_CTL_SWAP k.val) c.1.toNat
  setF (F.WRP_WSL_CTL_INV_0 k.val) c.2.1.toNat
  setF (F.WRP_WSL_CTL_INV_1 k.val) c.2.2.toNat
  setF (F.WRP_WSL_CTL_CLK_INV k.val) clk.toNat

/-- An attempt begins: CONFIG with LAT, and LEVELS with the read drive code and 0.9, 0.8 and 0.7 of it. -/
def beginAttempt (k : Fin 8) (second wasOn : Bool) : Act Unit := do
  setWiring k (false, false, false) second
  let s ← rd
  let c := s.nv.eeproms[k].driveCode
  sendFrame k (.config (s.get (F.WRP_WSL_CTL_LAT k.val)))
  sendFrame k (.levels [c, 9 * c / 10, 8 * c / 10, 7 * c / 10])
  emit (.writer k fun w => { w with training := some { second, wasOn } })

/-- A link is to be trained (R245): the laser power slot freezes, and the laser is enabled unless LASER_TRIP forbids it (R134). The link has no corrections while
it trains (DESIGN CHOICE, assumption log 33). -/
def trainLink (k : Fin 8) : Act Unit := do
  let s ← rd
  if s.get (F.BAY_LASER_LIM_MAX k.val) ≠ 0 ∧ s.writers[k].training.isNone then
    setF (F.WRP_WSL_CTL_TRAIN k.val) 1
    setF (F.WRP_STAT_STATE k.val) 1
    beginAttempt k false s.optics[k].laser
    freeze k 12 true
    if s.get (F.BAY_OPT_STAT_LASER_TRIP k.val) = 0 then enableLaser k

/-- Training ends, passed or not (R247, R554). A laser that was off before goes off (DESIGN CHOICE, assumption log 33). -/
def trainEnd (k : Fin 8) (t : Training) (pass : Bool) : Act Unit := do
  let s ← rd
  emit (.writer k fun w => { w with training := none, trained := pass })
  freeze k 12 false
  setF (F.WRP_WSL_CTL_TRAIN k.val) 0
  if pass then
    let w := s.wiring k
    let corrected : Bool := w.swap || w.inv0 || w.inv1 || w.clkInv
    setF (F.WRP_WSL_STAT_RESULT k.val) (if corrected then 2 else 1)
    setF (F.WRP_STAT_STATE k.val) 2
    setF (F.WRP_STAT_WR_DISABLED k.val) (s.get (F.WRP_STAT_RAW_BURST k.val))
    if t.wasOn = false then dropLaser k
    if corrected then raiseWrp wrpWSL_CORRECTED k
  else
    setF (F.WRP_WSL_STAT_RESULT k.val) 3
    setF (F.WRP_STAT_STATE k.val) 0
    setF (F.WRP_STAT_WR_DISABLED k.val) 1
    dropLaser k
    raiseWrp wrpWSL_TRAIN_FAIL k
    setBay (bayOf k) bFAULTED

/-- No fit: once more with CLK_INV, or failed (R246, R247). -/
def noFit (k : Fin 8) (t : Training) : Act Unit := if t.second then trainEnd k t false else beginAttempt k true t.wasOn

/-- The next test of an attempt begins. -/
def nextTest (k : Fin 8) (t : Training) : Act Unit :=
  emit (.writer k fun w => { w with training := some { t with test := t.test + 1, frames := 0, sum := 0 } })

/-- A measurement is complete: the reference, a level of tests 1 to 3 with the corrections that they call for after the third, or the outcome of test 4. A SHIFT path
found inverted inverts the ball that carries SHIFT (R245, R246). -/
def testDone (k : Fin 8) (t : Training) : Act Unit := do
  let s ← rd
  match t.test with
  | 0 => nextTest k { t with reference := t.sum }
  | 4 =>
    let d := dutyOf t.sum t.reference
    setF (F.WRP_WSL_STAT_DUTY k.val) d
    if d = 1 then
      let w := s.wiring k
      setWiring k (w.swap, w.inv0 || w.swap, w.inv1 || !w.swap) w.clkInv
    if d = 2 then noFit k t else trainEnd k t true
  | n =>
    let l := t.levels ++ [nearestLevel t.sum t.reference]
    if n < 3 then nextTest k { t with levels := l }
    else
      setF (F.WRP_WSL_STAT_OBS k.val) (l.getD 0 0 + 4 * l.getD 1 0 + 16 * l.getD 2 0)
      setF (F.WRP_WSL_STAT_DUTY k.val) 3
      match if s.monitorOk k t.reference then corrections l else none with
      | some c =>
        setWiring k c t.second
        nextTest k { t with levels := l }
      | none => noFit k t

/-- The symbols that a test sends in one frame, of which each takes four RF cycles; none for the reference, where VALID is 0. -/
def testSymbols (test : Nat) : List (Nat × Nat) :=
  match test with
  | 0 => []
  | 1 => List.replicate 480 (0, 0)
  | 2 => List.replicate 480 (1, 0)
  | 3 => List.replicate 480 (0, 1)
  | _ => (List.replicate 240 [(3, 2), (0, 0)]).flatten

/-- One servo frame of a training: the test's symbols, under a START of PERIOD 4.0 for each frame, and the front monitor, of which the first 32 frames settle
(R245). That tests 1 to 3 run under the START frames of test 4, and that each frame has its own, is a DESIGN CHOICE, assumption log 33. -/
def trainFrame (k : Fin 8) (front : Int) : Act Unit := do
  let s ← rd
  match s.writers[k].training with
  | none => pure ()
  | some t =>
    if t.test ≠ 0 then
      sendFrame k (.start (4 * 2 ^ 24) 480 0)
      sendSymbols k (1920 * s.get (F.SRV_FRAME_CNT_CNT (engineOf k).val)) (4 * 2 ^ 24) (testSymbols t.test)
    let t := { t with frames := t.frames + 1, sum := if 32 ≤ t.frames then t.sum + front else t.sum }
    if t.frames < 160 then emit (.writer k fun w => { w with training := some t }) else testDone k t

/-- Light that falls on the disc in a frame with the gate open adds to WRP_ENERGY (R265). -/
def countEnergy (k : Fin 8) (front : Int) : Act Unit := do
  let s ← rd
  if s.optics[k].gate then
    let e := s.writers[k].energy + Config.frameEnergy front
    emit (.writer k fun w => { w with energy := e % 2 ^ 32 })
    addWrap (F.WRP_ENERGY_UJ k.val) (e / 2 ^ 32)

end Sys2Proof.Machine
end

