-- ==== Sys2Proof/Machine/Servo.lean ====
section
/-! DEFINITION. The servo engines: arithmetic, slots, gain sets, regions, following-error supervision, engine faults, trace
buffers and register writes (R92 to R115), with what a frame does for the optical loops (R116 to R136) and the velocity
corrections of the step axes (R168 to R170). -/

namespace Sys2Proof.Machine

/-! ### Registers that are memories (R101, R102, R109) -/

/-- Word `w` of gain set `g` of slot `j` (R101). -/
def gainFld (e j g w : Nat) : Fld :=
  ⟨0x100000 + 0x10000 * (4 * (e % 2) + j % 64 / 16) + 0x800 * (j % 16) + 0x100 * (g % 8) + 4 * (w % 64), 0, 32, 0⟩

/-- State `i` (x[n−1], x[n−2], y[n−1], y[n−2]) of section `c + 1` of slot `j` (R102). -/
def sectionFld (e j c i : Nat) : Fld :=
  ⟨0x100000 + 0x10000 * (4 * (e % 2) + j % 64 / 16) + 0x9000 + 0x80 * (j % 16) + 16 * (c % 8) + 4 * (i % 4), 0, 32, 0⟩

/-- Sample index `i` of trace buffer `k` (R109). -/
def traceFld (e k i : Nat) : Fld := ⟨0x800000 + 0x80000 * (e % 2) + 0x10000 * (k % 8) + 4 * (i % 16384), 0, 32, 0⟩

/-! ### Arithmetic (R97, R98) -/

/-- A value and whether a saturation occurred on the way. -/
abbrev Sat : Type := Int × Bool

/-- Saturation to Q1.31. -/
def sat31 (i : Int) : Sat := (satInt 32 i, satInt 32 i != i)

/-- One product joins the Q17.55 accumulator: exact, shifted left by `h`, truncated at 2^−55, added with saturation (R97). -/
def mac (acc : Sat) (x c : Int) (h : Nat) : Sat :=
  let t := acc.1 + floorDiv (x * c * 2 ^ h) 128
  (satInt 72 t, acc.2 || satInt 72 t != t)

/-- Rounding of the accumulator to Q1.31, ties upward, with saturation (R98). -/
def roundAcc (acc : Sat) : Sat :=
  let r := sat31 (floorDiv (acc.1 + 2 ^ 23) (2 ^ 24))
  (r.1, acc.2 || r.2)

/-- The five coefficients of a section with their shifts, and its four states. -/
structure Biquad where
  b0 : Int × Nat
  b1 : Int × Nat
  b2 : Int × Nat
  a1 : Int × Nat
  a2 : Int × Nat
deriving DecidableEq, Repr

/-- One section (R98): the terms in the order written. -/
def biquad (q : Biquad) (x x1 x2 y1 y2 : Int) : Sat :=
  let acc := mac (0, false) x q.b0.1 q.b0.2
  let acc := mac acc x1 q.b1.1 q.b1.2
  let acc := mac acc x2 q.b2.1 q.b2.2
  let acc := mac acc (-y1) q.a1.1 q.a1.2
  let acc := mac acc (-y2) q.a2.1 q.a2.2
  roundAcc acc

/-! ### Slots: owner, sources, destinations (R96, R103, R113, R114) -/

/-- The owner of a slot (SRV_SLOT_SRC.OWNER). -/
inductive Owner where
  | opu (k : Fin 8)
  | motor (k : Fin 8)
  | axis (a : Fin 16)
deriving DecidableEq, Repr

def State.slotOwner (s : State) (e j : Nat) : Owner :=
  let o := s.get (F.SRV_SLOT_SRC_OWNER e j)
  if o < 4 then .opu (Fin.ofNat 8 (4 * e + o))
  else if o < 6 then .motor (Fin.ofNat 8 (2 * e + o - 4))
  else if o < 8 then .motor (Fin.ofNat 8 (2 * e + o - 2))
  else .axis (Fin.ofNat 16 (8 * e + o - 8))

/-- The bay of a slot's owner. -/
def Owner.bay : Owner → Fin 4
  | .opu k => bayOf k
  | .motor k => bayOfMotor k
  | .axis a => bayOfAxis a

/-- Whether a source code exists for the owner (R113, R114, R150, R170). -/
def sourceExists (o : Owner) (c : Nat) : Bool :=
  c == 0 || decide (64 ≤ c) ||
  match o with
  | .opu _ => (decide (1 ≤ c) && decide (c ≤ 0x0A)) || (decide (0x10 ≤ c) && decide (c ≤ 0x13)) ||
      c == 0x16 || c == 0x17 || c == 0x22
  | .motor k => (decide (0x18 ≤ c) && decide (c ≤ 0x1D)) || c == 0x1F ||
      (if k.val < 4 then c == 0x14 || c == 0x15 else c == 0x1E)
  | .axis _ => c == 0x20 || c == 0x21

/-- Whether a destination kind exists for the owner (R113, R114). -/
def destExists (o : Owner) (kind : Nat) : Bool :=
  kind == 0 ||
  match o with
  | .opu _ => kind == 1 || kind == 2
  | .motor _ => kind == 3 || kind == 4
  | .axis _ => kind == 5

/-- Servo ADC input `i` (0 quadrant A to 9 temperature) of a set of means. -/
def adcInput (m : AdcInputs) (i : Nat) : Int :=
  match i with
  | 0 => m.a
  | 1 => m.b
  | 2 => m.c
  | 3 => m.d
  | 4 => m.e
  | 5 => m.f
  | 6 => m.g
  | 7 => m.h
  | 8 => m.front
  | _ => m.temp

/-- The WRP power target: MEAN of the target layer while the gate is open, its read power otherwise (R133, R248). -/
def State.powerTarget (s : State) (k : Fin 8) : Int :=
  let o := s.optics[k]
  65536 * (if o.gate then (s.strategy k).mean else s.get (F.BAY_RDPWR_READ k.val o.layer) : Nat)

/-- The value of a source of an OPU. -/
def State.opuSource (s : State) (k : Fin 8) (c : Nat) : Int :=
  let v := s.servos[engineOf k]
  let d := v.derived[k.val % 4]'(by omega)
  if c ≤ 0x0A then adcInput (v.adc[k.val % 4]'(by omega)) (c - 1)
  else if c = 0x10 then d.getD 0 0
  else if c = 0x11 then d.getD 1 0
  else if c = 0x12 then d.getD 2 0
  else if c = 0x13 then s.geti (F.RCH_SPK_PES_PES k.val)
  else if c = 0x16 then d.getD 3 0
  else if c = 0x17 then d.getD 4 0
  else if c = 0x22 then s.powerTarget k
  else 0

/-- The value of a source of a motor (R88, R150). -/
def State.motorSource (s : State) (k : Fin 8) (c : Nat) : Int :=
  let m := s.motors[k]
  if c = 0x14 then m.speedErr
  else if c = 0x15 then (if m.phaseValid then m.phaseErr else 0)
  else if c = 0x18 then m.id
  else if c = 0x19 then m.iq
  else if c = 0x1A then satInt 32 (s.geti (F.MOT_SPEED_RPM k.val) * 2 ^ 14)
  else if c = 0x1B then satInt 32 (s.geti (F.MOT_OBS_SPEED_RPM k.val) * 2 ^ 14)
  else if c = 0x1C then
    toSigned 16 (s.get (F.MOT_ANGLE_ENC k.val) + 65536 - s.get (F.MOT_ANGLE_OBS k.val)) * 65536
  else if c = 0x1D then satInt 32 (m.ref * 2 ^ 14)
  else if c = 0x1E then satInt 32 ((m.moveTo - s.geti (F.MOT_POS_POS k.val)) * 65536)
  else if c = 0x1F then m.bemf
  else 0

/-- The value of a source of an axis (R170). -/
def State.axisSource (s : State) (a : Fin 16) (c : Nat) : Int :=
  let x := s.axes[a]
  let cap : Int := s.vCap a * 4096
  if c = 0x20 then satInt 32 ((s.profilePos a - s.axisPos a) * 65536)
  else if c = 0x21 then clampInt (-cap) cap (s.profileVel a * 4096 + x.corr)
  else 0

/-- The value of source code `c` for an owner (R113). -/
def State.source (s : State) (e : Nat) (o : Owner) (c : Nat) : Int :=
  if c = 0 then 0
  else if 64 ≤ c then s.geti (F.SRV_SLOT_OUT_U e (c - 64))
  else
    match o with
    | .opu k => s.opuSource k c
    | .motor k => s.motorSource k c
    | .axis a => s.axisSource a c

/-- The value of a source in a frame (R94): the output of another slot as it stands in `live`, anything else from the snapshot `s`. -/
def State.inFrame (s live : State) (e : Nat) (o : Owner) (c : Nat) : Int :=
  if 64 ≤ c then live.geti (F.SRV_SLOT_OUT_U e (c - 64)) else s.source e o c

/-- The value of region source `c` for slot `j` (R103, R118, R149). -/
def State.regionSource (s : State) (e j : Nat) (o : Owner) (c : Nat) : Bool :=
  let speed := s.get (F.BAY_STAT_SPEED o.bay.val)
  if c = 1 then bitAt speed 0
  else if c = 2 then bitAt speed 1
  else if c = 18 then s.get (F.SRV_SLOT_CTL_SW_0 e j) == 1
  else if c = 19 then s.get (F.SRV_SLOT_CTL_SW_1 e j) == 1
  else if c = 20 then s.get (F.SRV_SLOT_STAT_CLAMP e j) == 1
  else if c = 21 then s.get (F.SRV_SLOT_STAT_FE_WARN e j) == 1
  else
    match o with
    | .opu k =>
      match c with
      | 3 => bitAt s.optics[k].layer 0
      | 4 => bitAt s.optics[k].layer 1
      | 5 => bitAt s.optics[k].layer 2
      | 6 => s.get (F.BAY_OPT_STAT_FOCUS_LOCKED k.val) == 1
      | 7 => s.get (F.BAY_OPT_STAT_ON_TRACK k.val) == 1
      | 8 => s.get (F.BAY_OPT_STAT_JUMP k.val) == 1
      | 9 => s.get (F.BAY_OPT_STAT_LAYER_JUMP k.val) == 1
      | 10 => s.sledMoves k || s.seeking k
      | 11 => s.get (F.RCH_SPK_STAT_WR_GATE_OK k.val) == 1
      | 12 => s.get (F.BAY_OPT_STAT_PULL_IN k.val) == 1
      | 13 => s.spokes[k].accepted
      | 14 => decide (16 * 6656 ≤ s.get (F.RCH_SPK_POS_TRACK k.val))
      | _ => false
    | .motor k =>
      match c with
      | 15 => s.get (F.MOT_STAT_REVERSE k.val) == 1
      | 16 => s.get (F.MOT_STAT_LOW_SPEED k.val) == 1
      | 17 => s.get (F.MOT_STAT_BRAKING k.val) == 1
      | _ => false
    | .axis _ => false

/-- The 6-bit region index of a slot (R103). -/
def State.regionIndex (s : State) (e j : Nat) (o : Owner) : Nat :=
  let sel := s.get (F.SRV_REGION_SEL_SEL e j)
  (List.range 6).foldl (fun r m => r + (if s.regionSource e j o (bitsOf sel (5 * m) 5) then 2 ^ m else 0)) 0

/-- Region-table entry `i` of a slot (R104). -/
def State.regionEntry (s : State) (e j i : Nat) : Nat :=
  s.get (F.SRV_REGION_TBL_ENTRY e j i)

/-! ### One execution of a slot (R99 to R106) -/

/-- Coefficient word `i` of a gain set with its shift (R101). -/
def State.coeff (s : State) (e j g i : Nat) : Int × Nat :=
  (s.geti (gainFld e j g i), bitsOf (s.get (gainFld e j g (44 + i / 8))) (4 * (i % 8)) 4)

def State.biquadOf (s : State) (e j g c : Nat) : Biquad :=
  let w (i : Nat) := s.coeff e j g (5 * c + i)
  ⟨w 0, w 1, w 2, w 3, w 4⟩

/-- The outputs of sections `c` onwards, `n` of them, for input `x` (R98, R99). -/
def State.sections (s : State) (e j g : Nat) : Nat → Nat → Sat → List Sat
  | 0, _, _ => []
  | n + 1, c, x =>
    let st (i : Nat) := s.geti (sectionFld e j c i)
    let y := biquad (s.biquadOf e j g c) x.1 (st 0) (st 1) (st 2) (st 3)
    y :: s.sections e j g n (c + 1) y

/-- A section stores its new states (R98). -/
def storeSection (e j c : Nat) (x y : Int) : Act Unit := do
  let s ← rd
  setI (sectionFld e j c 1) (s.geti (sectionFld e j c 0))
  setI (sectionFld e j c 0) x
  setI (sectionFld e j c 3) (s.geti (sectionFld e j c 2))
  setI (sectionFld e j c 2) y

/-- The sections from `c` on store their states, but for those protected against wind-up (R100). -/
def storeSections (e j integ : Nat) (wind : Bool) : Nat → Int → List Sat → Act Unit
  | _, _, [] => pure ()
  | c, x, y :: ys => do
    if !(wind && bitAt integ c) then storeSection e j c x y.1
    storeSections e j integ wind (c + 1) y.1 ys

def State.slotRun (s : State) (e : Fin 2) (j : Nat) : SlotRun := (s.servos[e].slots.lookup j).getD {}

def setSlotRun (e : Fin 2) (j : Nat) (r : SlotRun) : Act Unit :=
  emit (.servo e fun v => { v with slots := (j, r) :: v.slots.filter (fun p => p.1 != j) })

/-- Raises a servo event in the group of the bay of the slot's owner; INSTANCE the local slot (R115, R535). -/
def raiseSlot (e : Fin 2) (j i : Nat) (sub : Nat := 0) : Act Unit := do
  let s ← rd
  raiseBay (s.slotOwner e.val j).bay.val i sub (j % 32)

/-- The actions of a following-error fault that reach beyond the slot (R106). RETRACT is valid only where the slot drives a focus DAC; bit 3 of
the actions does nothing on another (DESIGN CHOICE, assumption log 66). -/
def faultActions (o : Owner) (act : Nat) (focus : Bool) : Act Unit := do
  if bitAt act 0 then
    match o with
    | .opu k => stopWriteNow k
    | o => forAll (opusOf o.bay) stopWriteNow
  if bitAt act 2 then
    match o with
    | .motor k => abortMotor k
    | _ => pure ()
  if bitAt act 3 && focus then
    match o with
    | .opu k => retract k
    | _ => pure ()
  if bitAt act 4 then parkBay o.bay

/-- Following-error supervision of one execution (R106): whether a fault is declared in it. A run of warnings goes on across held executions, which
raise and end none (DESIGN CHOICE, assumption log 66). The actions are those that ACT selects at the fault; they last until it is cleared. -/
def supervise (e : Fin 2) (j : Nat) (o : Owner) (err : Int) : Act Bool := do
  let s ← rd
  let r := s.slotRun e j
  let warn : Bool := decide (s.geti (F.SRV_FE_WARN_LIM e.val j) < err.natAbs)
  let n := if s.geti (F.SRV_FE_LIM_LIM e.val j) < err.natAbs then r.excess + 1 else 0
  let time := s.get (F.SRV_FE_CTL_TIME e.val j)
  setF (F.SRV_SLOT_STAT_FE_WARN e.val j) warn.toNat
  setSlotRun e j { r with warned := warn, excess := n }
  if warn ∧ r.warned = false then raiseSlot e j Ev.iSERVO_FE_WARN
  let fault : Bool := decide (time ≠ 0) && decide (time ≤ n) && (s.get (F.SRV_SLOT_STAT_FE_FAULT e.val j) == 0 || decide (r.excess < time))
  if fault then
    setF (F.SRV_SLOT_STAT_FE_FAULT e.val j) 1
    raiseSlot e j Ev.iSERVO_FE_FAULT
    let act := s.get (F.SRV_FE_CTL_ACT e.val j)
    setSlotRun e j { (← rd).slotRun e j with actions := r.actions ||| act }
    faultActions o act (s.get (F.SRV_SLOT_DEST_KIND e.val j) == 1 && s.get (F.SRV_SLOT_DEST_DAC e.val j) == 0)
    if j % 32 / 2 = 1 then
      match o with
      | .opu k => loseFocus k
      | _ => pure ()
  return fault

/-- What an execution leaves for the trace buffers: the taps of R109 and the flags its triggers look at. -/
structure Taps where
  values : List Int
  region : Nat
  warn : Bool
  fault : Bool
deriving DecidableEq, Repr

/-- A current of `pct` per cent of I_RATED in Q1.31 (R154, R164). -/
def State.ratedCurrent (s : State) (k : Fin 8) (pct : Nat) : Int := (s.get (F.MOT_CUR_I_RATED k.val) * pct * 32768 / 100 : Nat)

/-- The set-point of a motor's d slot (destination kind 3) and q slot (kind 4) as the MOT block imposes it: both 0 in
zero-current hold (R148), d-axis current at the braking limit in HOLD_ZERO (R153) and at half of I_RATED in the field steps of the wiring check (R157),
i_q limited and opposing the rotation in BRAKE and SOFT_BRAKE, and never beyond the braking limit where it slows the motor (R154). -/
def State.motorSetPoint (s : State) (k : Fin 8) (kind : Nat) (sp : Int) : Int :=
  let st := s.motorState k
  let brake := s.ratedCurrent k (s.get (F.MOT_CUR_BRAKE k.val))
  let soft := s.ratedCurrent k (s.get (F.MOT_CUR_SOFT k.val))
  let speed := if st = mtSOFT_BRAKE then s.geti (F.MOT_OBS_SPEED_RPM k.val) else s.geti (F.MOT_SPEED_RPM k.val)
  let against (l : Int) : Int := if speed < 0 then clampInt 0 l sp else clampInt (-l) 0 sp
  if kind ≠ 3 ∧ kind ≠ 4 then sp
  else if s.motors[k].zeroCurrent then 0
  else if st = mtHOLD_ZERO then (if kind = 3 then brake else 0)
  else if st = mtCHECK then (if kind = 3 then s.ratedCurrent k 50 else 0)
  else if kind = 4 ∧ st = mtBRAKE then against brake
  else if kind = 4 ∧ st = mtSOFT_BRAKE then against soft
  else if kind = 4 then (if speed < 0 then min brake sp else max (-brake) sp)
  else sp

/-- The set-point of a slot as its owner imposes it. -/
def State.setPoint (s : State) (e j : Nat) (o : Owner) (sp : Int) : Int :=
  match o with
  | .motor k => s.motorSetPoint k (s.get (F.SRV_SLOT_DEST_KIND e j)) sp
  | .opu k =>
    if s.get (F.SRV_SLOT_SRC_IN e j) = 0x13 then sat31 (sp + floorDiv (s.detectors[k].margin * 2 ^ 31) 80) |>.1 else sp
  | _ => sp

/-- The region word of tap 15 (R109). -/
def regionWord (idx entry : Nat) (clamped warn fault : Bool) : Nat :=
  idx + 64 * (entry % 8) + 512 * (bitAt entry 3).toNat + 1024 * (bitAt entry 4).toNat + 2048 * clamped.toNat + 4096 * warn.toNat +
    8192 * fault.toNat

/-- What an execution of a slot finds at its start (R94, R99, R103): region index and entry, X, set-point, feed-forward and error. -/
structure SlotInputs where
  idx : Nat
  entry : Nat
  x : Int
  sp : Int
  f : Int
  err : Sat
deriving DecidableEq, Repr

/-- The inputs of slot `j`, from the snapshot `s` and the outputs of other slots in `live` (R94). -/
def State.slotInputs (s live : State) (e j : Nat) : SlotInputs :=
  let o := s.slotOwner e j
  let idx := s.regionIndex e j o
  let spc := s.get (F.SRV_SLOT_SRC_SP e j)
  let x := s.inFrame live e o (s.get (F.SRV_SLOT_SRC_IN e j))
  let sp := s.setPoint e j o (if spc = 0 then s.geti (F.SRV_SLOT_SP_SP e j) else s.inFrame live e o spc)
  { idx, entry := s.regionEntry e j idx, x, sp, f := s.inFrame live e o (s.get (F.SRV_SLOT_SRC_FF e j)), err := sat31 (sp - x) }

/-- Whether a latched following-error fault holds the slot: HOLD or ZERO was among its actions (R106). -/
def State.faultHolds (s : State) (e : Fin 2) (j : Nat) : Bool :=
  s.get (F.SRV_SLOT_STAT_FE_FAULT e.val j) == 1 && (bitAt (s.slotRun e j).actions 1 || bitAt (s.slotRun e j).actions 2)

/-- An execution under HOLD, FREEZE, FF_ONLY or a latched HOLD or ZERO (R99, R104, R106). Its x0 and section taps are 0, and it counts as clamped
only under FF_ONLY; ZERO alone freezes the states too (DESIGN CHOICE, assumption log 66). -/
def execHeld (s : State) (e : Fin 2) (j : Nat) (q : SlotInputs) : Act Taps := do
  let en := e.val
  let lo := s.geti (F.SRV_LIM_LO_LIM en j)
  let hi := s.geti (F.SRV_LIM_HI_LIM en j)
  let r := s.slotRun e j
  let faulted : Bool := s.get (F.SRV_SLOT_STAT_FE_FAULT en j) == 1
  let still : Bool := bitAt q.entry 3 || s.get (F.SRV_SLOT_CTL_FREEZE en j) == 1 || s.faultHolds e j
  let kff := s.coeff en j (q.entry % 8) 42
  let w := roundAcc (mac (0, false) q.f kff.1 kff.2)
  let high : Bool := !still && decide (hi < w.1)
  let low : Bool := !still && decide (w.1 < lo)
  let u := if faulted && bitAt r.actions 2 then 0 else if still then s.geti (F.SRV_SLOT_OUT_U en j) else clampInt lo hi w.1
  setF (F.SRV_SLOT_STAT_FE_WARN en j) 0
  setI (F.SRV_SLOT_OUT_U en j) u
  setF (F.SRV_SLOT_STAT_CLAMP en j) (high || low).toNat
  if q.err.2 || (!still && w.2) then incStop (F.SRV_SAT_CNT_CNT en j)
  setSlotRun e j { r with ran := true, held := true, gset := q.entry % 8, high, low }
  return { values := [q.x, q.sp, q.err.1, 0, 0, 0, 0, 0, 0, 0, 0, 0, q.f, u, s.geti (F.SRV_BUMP_OFS_D en j),
             (regionWord q.idx q.entry (high || low) false faulted : Nat)]
           region := q.idx, warn := false, fault := false }

/-- The bump offset of an execution (R105): at a switch what keeps the output, otherwise what is left of the last offset. -/
def bumpOffset (bump : Nat) (switch : Bool) (prev raw last : Int) : Int :=
  let q := last.tdiv (2 ^ bump)
  if bump = 0 then 0 else if switch then satInt 32 (prev - raw) else if q = 0 then 0 else last - q

/-- An execution that is not held (R99, R100, R105, R106). In the execution that declares a fault with HOLD or ZERO the states are frozen already and
a switch waits for the resumption. -/
def execOpen (s : State) (e : Fin 2) (j : Nat) (q : SlotInputs) : Act Taps := do
  let en := e.val
  let g := q.entry % 8
  let lo := s.geti (F.SRV_LIM_LO_LIM en j)
  let hi := s.geti (F.SRV_LIM_HI_LIM en j)
  let prev := s.geti (F.SRV_SLOT_OUT_U en j)
  let r := s.slotRun e j
  let kin := s.coeff en j g 40
  let x0 := roundAcc (mac (0, false) q.err.1 kin.1 kin.2)
  let ys := s.sections en j g (s.get (F.SRV_SLOT_CTL_N_SEC en j)) 0 x0
  let y := (ys.getLast?).getD x0
  let kout := s.coeff en j g 41
  let kff := s.coeff en j g 42
  let raw := roundAcc (mac (mac (0, false) y.1 kout.1 kout.2) q.f kff.1 kff.2)
  let last := s.geti (F.SRV_BUMP_OFS_D en j)
  let moved := bumpOffset (s.get (F.SRV_SLOT_CTL_BUMP en j)) (r.ran && (r.held || r.resume || r.gset != g)) prev raw.1 last
  let w := satInt 32 (raw.1 + moved)
  let wind : Bool := (r.high && decide (hi < w)) || (r.low && decide (w < lo))
  let fault ← supervise e j (s.slotOwner en j) q.err.1
  let act := s.get (F.SRV_FE_CTL_ACT en j)
  let stop : Bool := fault && (bitAt act 1 || bitAt act 2)
  if !stop then storeSections en j (s.get (F.SRV_SLOT_CTL_INTEG en j)) wind 0 x0.1 ys
  let u := if fault && bitAt act 2 then 0 else if stop then prev else clampInt lo hi w
  let d := if stop then last else moved
  let high : Bool := !stop && decide (hi < w)
  let low : Bool := !stop && decide (w < lo)
  setI (F.SRV_SLOT_OUT_U en j) u
  setI (F.SRV_BUMP_OFS_D en j) d
  setF (F.SRV_SLOT_STAT_CLAMP en j) (high || low).toNat
  if q.err.2 || x0.2 || raw.2 || ys.any Prod.snd then incStop (F.SRV_SAT_CNT_CNT en j)
  setSlotRun e j { (← rd).slotRun e j with ran := true, held := stop, gset := g, resume := false, high, low }
  let t ← rd
  let warn : Bool := t.get (F.SRV_SLOT_STAT_FE_WARN en j) == 1
  let sec (i : Nat) : Int := ((ys.map Prod.fst).getD i 0)
  let word := regionWord q.idx q.entry (high || low) warn (t.get (F.SRV_SLOT_STAT_FE_FAULT en j) == 1)
  return { values := [q.x, q.sp, q.err.1, x0.1, sec 0, sec 1, sec 2, sec 3, sec 4, sec 5, sec 6, sec 7, q.f, u, d, (word : Nat)]
           region := q.idx, warn := warn, fault := fault }

/-- One execution of slot `j` in a frame whose snapshot is `s` (R94, R99, R100, R104, R105, R106). -/
def execSlot (s : State) (e : Fin 2) (j : Nat) : Act Taps := do
  let q := s.slotInputs (← rd) e.val j
  setI (F.SRV_SLOT_ERR_E e.val j) q.err.1
  setF (F.SRV_SLOT_STAT_REGION e.val j) q.idx
  setF (F.SRV_SLOT_STAT_GSET e.val j) (q.entry % 8)
  if bitAt q.entry 3 || bitAt q.entry 4 || s.get (F.SRV_SLOT_CTL_FREEZE e.val j) == 1 || s.faultHolds e j then execHeld s e j q
  else execOpen s e j q

/-! ### Trace buffers (R109 to R112) -/

def traceOf (e : Fin 2) (k : Fin 8) : Fin 16 := ⟨8 * e.val + k.val, by omega⟩

/-- Whether a sample triggers the buffer (R111). A change of the region index needs a sample before it: none triggers at n = 0 (DESIGN CHOICE,
assumption log 66). -/
def State.triggers (s : State) (e : Fin 2) (k : Fin 8) (t : Trace) (v : Int) (x : Taps) : Bool :=
  let level := s.geti (F.SRV_TRC_LEVEL_LEVEL e.val k.val)
  t.fire ||
  match s.get (F.SRV_TRC_CTL_TRIG e.val k.val) with
  | 1 => decide (t.n ≠ 0) && decide (t.prev ≤ level) && decide (level < v)
  | 2 => decide (t.n ≠ 0) && decide (level ≤ t.prev) && decide (v < level)
  | 3 => decide (level < v.natAbs)
  | 4 => x.warn
  | 5 => x.fault
  | 6 => decide (t.n ≠ 0) && x.region != t.region
  | _ => false

/-- The first trigger of a buffer: it enters TRIGGERED, and the buffers that wait for it trigger at their next sample. Buffers sample in rising order
at one execution, so that a waiting buffer of higher number on the same slot triggers at that execution, one of lower number at the next (DESIGN CHOICE,
assumption log 66). -/
def traceTrigger (e : Fin 2) (k : Fin 8) : Act Unit := do
  let s ← rd
  let t := s.traces[traceOf e k]
  let pre := s.get (F.SRV_TRC_PRE_PRE e.val k.val)
  setF (F.SRV_TRC_STAT_STATE e.val k.val) 2
  setF (F.SRV_TRC_TRIG_FRAME_FRAME e.val k.val) (s.get (F.SRV_FRAME_CNT_CNT e.val))
  setF (F.SRV_TRC_PRE_PRE_VALID e.val k.val) (min pre t.kept)
  emit (.trace (traceOf e k) fun t => { t with left := 16384 - pre, trigN := t.n, firstKept := false, fire := false })
  forAll opuList (fun i => do
    let s ← rd
    if s.get (F.SRV_TRC_CTL_TRIG e.val i.val) = 7 ∧ s.get (F.SRV_TRC_CTL_TRIG_BUF e.val i.val) = k.val ∧
        s.get (F.SRV_TRC_STAT_STATE e.val i.val) = 1 then
      emit (.trace (traceOf e i) fun t => { t with fire := true }))

/-- The m-th oldest sample's index base: START of R112. -/
def showStart (e : Fin 2) (k : Fin 8) (held : Nat) : Act Unit := do
  let s ← rd
  setF (F.SRV_TRC_STAT_START e.val k.val) ((s.traces[traceOf e k].next + 16384 - held) % 16384)

/-- A kept sample is stored; after the trigger it counts towards the end of the capture (R112). -/
def traceKeep (e : Fin 2) (k : Fin 8) (v : Int) : Act Unit := do
  let s ← rd
  let t := s.traces[traceOf e k]
  setI (traceFld e.val k.val t.next) v
  emit (.trace (traceOf e k) fun t => { t with next := (t.next + 1) % 16384, kept := min 16384 (t.kept + 1) })
  if s.get (F.SRV_TRC_STAT_STATE e.val k.val) = 2 then
    if !t.firstKept then setF (F.SRV_TRC_STAT_TRIG_OFFSET e.val k.val) (t.n - t.trigN)
    emit (.trace (traceOf e k) fun t => { t with firstKept := true, left := t.left - 1 })
    let pre := s.get (F.SRV_TRC_PRE_PRE e.val k.val)
    showStart e k (min 16384 (s.get (F.SRV_TRC_PRE_PRE_VALID e.val k.val) + (16384 - pre - (t.left - 1))))
    if t.left ≤ 1 then setF (F.SRV_TRC_STAT_STATE e.val k.val) 3
  else showStart e k (min 16384 (t.kept + 1))

/-- One sample of a buffer, at an execution of its slot. -/
def traceSample (e : Fin 2) (j : Nat) (x : Taps) (k : Fin 8) : Act Unit := do
  let s ← rd
  let st := s.get (F.SRV_TRC_STAT_STATE e.val k.val)
  if s.get (F.SRV_TRC_CTL_SLOT e.val k.val) = j ∧ (st = 1 ∨ st = 2) then
    let t := s.traces[traceOf e k]
    let v := x.values.getD (s.get (F.SRV_TRC_CTL_TAP e.val k.val)) 0
    if st = 1 ∧ s.triggers e k t v x then traceTrigger e k
    if t.n % s.get (F.SRV_TRC_CTL_DEC e.val k.val) = 0 then traceKeep e k v
    emit (.trace (traceOf e k) fun t => { t with n := t.n + 1, prev := v, region := x.region })

/-! ### Engine faults (R107, R108) -/

/-- An engine fault, to the start of its hold (R108): write gates, laser enables, sequences, axes. -/
def engineFault (e : Fin 2) (cause : Nat) : Act Unit := do
  let s ← rd
  if s.engineStopped e = false then
    setF (F.SRV_BLK_STAT_ENGINE_FAULT e.val) 1
    setF (F.SRV_BLK_STAT_CAUSE e.val) cause
    forAll (baysOf e) (fun b => do
      forAll (opusOf b) (fun k => do
        dropLaser k
        optCut k rABORTED)
      forAll [axisOf b 0, axisOf b 1, axisOf b 2, axisOf b 3] (fun a => do
        emit (.axis a fun x => { x with corr := 0 })
        let s ← rd
        if s.axes[a].queue ≠ [] ∨ s.axisState a = axHOMING then haltAxis a rABORTED)
      raiseBay b.val Ev.iSERVO_ENGINE_FAULT 0 0xFF)
    emit (.servo e fun v => { v with holding := true })
    beginSingle (.servoEngine e.val)

/-! ### The optical loops in a frame (R116 to R136) -/

/-- The derived signals of an OPU (R116): FE, TE, SUM, tilt error; the SA error is 0 but at the executions of the SA slot (R130). -/
def State.derive (s : State) (k : Fin 8) (m : AdcInputs) : List Int :=
  let o := s.optics[k]
  let w := s.get (F.BAY_OPT_STAT_WRITTEN k.val)
  let sum := m.a + m.b + m.c + m.d
  let ppC := quotient31 ((m.a + m.d) - (m.b + m.c)) sum
  let ppI := quotient31 (m.e - m.f) (m.e + m.f)
  [ quotient31 ((m.a + m.c) - (m.b + m.d)) sum,
    if bitAt w 1 then ppC else if bitAt w 0 then ppI else 0,
    quotient31 sum (65536 * (s.get (F.BAY_LREF_CENTRE k.val o.layer) : Nat)),
    if bitAt w 0 = bitAt w 2 then quotient31 ((m.e + m.f) - (m.g + m.h)) (m.e + m.f + m.g + m.h) else 0,
    0 ]

/-- The written flag of spot `i` (I, C, O) after a frame (R117). -/
def writtenFlag (k : Fin 8) (i : Fin 3) (sum : Int) (ref : Nat) : Act Unit := do
  let s ← rd
  let thr := s.get (F.BAY_OPT_WIN_WRITTEN_THR k.val)
  let x := sum * 256
  let r : Int := 65536 * (ref : Nat)
  let low : Bool := decide (x < thr * r)
  let high : Bool := decide ((thr + 16) * r ≤ x)
  emit (.optic k fun o => { o with below := o.below.set i (if low then o.below[i] + 1 else 0)
                                   above := o.above.set i (if high then o.above[i] + 1 else 0) })
  let s ← rd
  let w := s.get (F.BAY_OPT_STAT_WRITTEN k.val)
  if 8 ≤ s.optics[k].below[i] then setF (F.BAY_OPT_STAT_WRITTEN k.val) (setBit w i.val true)
  if 8 ≤ s.optics[k].above[i] then setF (F.BAY_OPT_STAT_WRITTEN k.val) (setBit w i.val false)

/-- Focus locked (source 6) after a frame (R118); a loss proceeds by R136. -/
def focusLock (k : Fin 8) (fe sum : Int) : Act Unit := do
  let s ← rd
  let win : Nat := s.get (F.BAY_OPT_WIN_LOCK_WIN k.val) * 2 ^ 23
  let least : Nat := s.get (F.BAY_OPT_WIN_SUM_MIN k.val) * 2 ^ 23
  let good : Bool := s.optics[k].focusClosed && decide (fe.natAbs ≤ win) && decide ((least : Int) ≤ sum)
  let bad : Bool := decide (sum < (least : Int)) || decide (2 * win < fe.natAbs)
  emit (.optic k fun o => { o with lockRun := if good then o.lockRun + 1 else 0, lossRun := if bad then o.lossRun + 1 else 0 })
  let s ← rd
  let o := s.optics[k]
  if s.get (F.BAY_OPT_STAT_FOCUS_LOCKED k.val) = 1 then
    if 8 ≤ o.lossRun then
      setF (F.BAY_OPT_STAT_FOCUS_LOCKED k.val) 0
      loseFocus k
  else if o.focusClosed ∧ s.get (F.BAY_OPT_CTL_LOCK_FRAMES k.val) ≤ o.lockRun then
    setF (F.BAY_OPT_STAT_FOCUS_LOCKED k.val) 1
    emit (.optic k fun o => { o with lockedAt := s.now })

/-- Laser protection of a frame (R134). -/
def laserGuard (k : Fin 8) (front : Int) : Act Unit := do
  let s ← rd
  let high : Bool := decide (65536 * (s.get (F.BAY_LASER_LIM_MAX k.val) : Int) < front)
  emit (.optic k fun o => { o with overRun := if high then o.overRun + 1 else 0 })
  if high ∧ 1 ≤ s.optics[k].overRun ∧ s.get (F.BAY_OPT_STAT_LASER_TRIP k.val) = 0 then
    dropLaser k
    setF (F.BAY_OPT_STAT_LASER_TRIP k.val) 1
    raiseOpu k Ev.iLASER_OVERPOWER

/-- The held output of a slot of an OPU takes a code. -/
def holdCode (k : Fin 8) (role : Nat) (code : Int) : Act Unit :=
  setI (F.SRV_SLOT_OUT_U (engineOf k).val (slotOf k role)) (code * 65536)

/-- One frame of the focus sweep of ACQUIRE (R125). -/
def sweepFrame (k : Fin 8) (fe sum : Int) : Act Unit := do
  let s ← rd
  let o := s.optics[k]
  let code := o.pulseF + s.get (F.BAY_OPT_CTL_ACQ_RATE k.val)
  let seen : Bool := o.sumSeen || decide ((s.get (F.BAY_OPT_WIN_SUM_MIN k.val) * 2 ^ 23 : Nat) ≤ sum)
  let curve : Bool := seen && decide (0 < o.prevFe) && decide (fe ≤ 0)
  if curve ∧ o.curves ≠ 0 then
    freeze k 2 false
    emit (.optic k fun o => { o with focusClosed := true, phase := .locking, frames := 0, pulseF := 0, lockRun := 0 })
  else if (s.get (F.BAY_ACT_LIM_0_FOCUS k.val) : Int) ≤ code then acquireFailed k
  else
    holdCode k 2 code
    emit (.optic k fun o => { o with curves := o.curves + curve.toNat, sumSeen := seen && !curve, prevFe := fe, pulseF := code })

/-- The κ coefficients of an OPU's detector (R238). -/
def setKappas (k : Fin 8) (v : List Int) : Act Unit := do
  setI (F.RCH_JD_KAPPA_I_INNER k.val) (v.getD 0 0)
  setI (F.RCH_JD_KAPPA_I_OUTER k.val) (v.getD 1 0)
  setI (F.RCH_JD_KAPPA_C_INNER k.val) (v.getD 2 0)
  setI (F.RCH_JD_KAPPA_C_OUTER k.val) (v.getD 3 0)
  setI (F.RCH_JD_KAPPA_O_INNER k.val) (v.getD 4 0)
  setI (F.RCH_JD_KAPPA_O_OUTER k.val) (v.getD 5 0)

/-- The κ coefficients that are kept of a layer come into force (R218). -/
def loadKappas (k : Fin 8) (layer : Nat) : Act Unit := do
  emit (.cal fun c => { c with kappaDue := c.kappaDue.set k false })
  match (← rd).cal.kappas.lookup (8 * k.val + layer) with
  | some v => setKappas k v
  | none => pure ()

/-- What the end of a layer jump loads for the layer: the last PGA code that each input used on it, with the fine gain at zero, and the κ coefficients
(R193, R218). -/
def loadLayer (k : Fin 8) (layer : Nat) : Act Unit := do
  let s ← rd
  forAll (List.range 4) (fun spot => do
    let i := 4 * k.val + spot
    setF (F.RCH_IN_GAIN_PGA i) (s.inputs[Fin.ofNat 32 i].pga[Fin.ofNat 8 layer])
    setI (F.RCH_IN_GAIN_FINE i) 0)
  loadKappas k layer
  abortCal (fun r => decide (3 ≤ r.kind) && decide (r.kind ≤ 10) && r.elem / 8 == k.val && r.elem % 8 != layer)

/-- One frame of a layer hop (R127): 0.20 ms of hold, the pulses from the OPU EEPROM, closing at a zero crossing. -/
def hopFrame (k : Fin 8) (fe sum : Int) : Act Unit := do
  let s ← rd
  let o := s.optics[k]
  let l := s.optLayer k
  let up : Bool := decide (l < o.layer)
  let h := s.nv.eeproms[k].hop
  let kick : Int := if up then h.getD 0 0 else -(h.getD 0 0 : Int)
  let brake : Int := if up then -(h.getD 2 0 : Int) else h.getD 2 0
  match o.phase with
  | .hopHold =>
    if 20000 ≤ o.frames * 256 then
      setF (F.BAY_OPT_STAT_FOCUS_LOCKED k.val) 0
      setF (F.BAY_OPT_STAT_ON_TRACK k.val) 0
      emit (.optic k fun o => { o with phase := .hopPulse, frames := 0, pulseF := kick, focusClosed := false,
                                       onRun := 0, lostRun := none })
  | .hopPulse =>
    let t := o.frames * 384
    if t < h.getD 1 0 then emit (.optic k fun o => { o with pulseF := kick })
    else if t < h.getD 1 0 + h.getD 3 0 then emit (.optic k fun o => { o with pulseF := brake })
    else emit (.optic k fun o => { o with phase := .hopCatch, frames := 0, pulseF := 0, prevFe := fe })
  | .hopCatch =>
    if o.prevFe * fe ≤ 0 ∧ ((s.get (F.BAY_OPT_WIN_SUM_MIN k.val) * 2 ^ 23 : Nat) : Int) ≤ sum then
      freeze k 2 false
      emit (.optic k fun o => { o with phase := .hopLock, frames := 0, focusClosed := true, lockRun := 0 })
    else emit (.optic k fun o => { o with prevFe := fe })
  | .hopLock =>
    if s.get (F.BAY_OPT_STAT_FOCUS_LOCKED k.val) = 1 then
      setF (F.BAY_OPT_STAT_LAYER k.val) (if up then l + 1 else l - 1)
      if (if up then l + 1 else l - 1) = o.layer then
        setF (F.BAY_OPT_STAT_LAYER_JUMP k.val) 0
        setF (F.RCH_SPK_STAT_MISS_RUN k.val) 0
        loadLayer k o.layer
        freeze k 4 false
        optPhase k .layerSpoke
      else beginHop k
  | _ => pure ()

/-- One frame of a jump's pulses (R131). -/
def jumpFrame (k : Fin 8) : Act Unit := do
  let s ← rd
  let o := s.optics[k]
  let len := s.nv.eeproms[k].jumps.getD (o.dist.natAbs - 1) (0, 0)
  let kick : Int := if 0 < o.dist then s.nv.eeproms[k].kick else -(s.nv.eeproms[k].kick : Int)
  let t := (o.frames - 1) * 384
  if t < len.1 then emit (.optic k fun o => { o with pulseT := kick })
  else if t < len.1 + len.2 then emit (.optic k fun o => { o with pulseT := -kick })
  else
    freeze k 4 false
    emit (.optic k fun o => { o with phase := .landing, frames := 0, pulseT := 0, landRun := 0 })

/-- The limit of actuator `a` (R120). -/
def State.actLimit (s : State) (k : Fin 8) (a : Nat) : Int :=
  match a with
  | 0 => s.get (F.BAY_ACT_LIM_0_FOCUS k.val)
  | 1 => s.get (F.BAY_ACT_LIM_0_TRACKING k.val)
  | 2 => s.get (F.BAY_ACT_LIM_1_TILT k.val)
  | _ => s.get (F.BAY_ACT_LIM_1_SA k.val)

/-- The four actuator DACs load codes, each clamped to BAY_ACT_LIM (R120). -/
def loadCodes (k : Fin 8) (codes : Vector Int 4) : Act Unit := do
  let s ← rd
  let d : Vector Int 4 := Vector.ofFn fun a => clampInt (-s.actLimit k a.val) (s.actLimit k a.val) codes[a]
  emit (.optic k fun o => { o with dac := d })
  if d ≠ codes then setF (F.BAY_OPT_STAT_ACT_CLAMP k.val) 1

/-- The codes `n` parts in `m` of the way from those at which a ramp began to the retract code and 0. -/
def State.rampCodes (s : State) (k : Fin 8) (n m : Nat) : Vector Int 4 :=
  let o := s.optics[k]
  let goal (a : Fin 4) : Int := if a = 0 then s.geti (F.BAY_FOCUS_RETRACT_CODE k.val) else 0
  Vector.ofFn fun a => o.base[a] + (goal a - o.base[a]) * min n m / m

/-- A tilt or SA slot is limited to code 0 and rests there (R126; that its limits say so is a DESIGN CHOICE, assumption log 66). -/
def restTrim (k : Fin 8) (role : Nat) : Act Unit := do
  setI (F.SRV_LIM_LO_LIM (engineOf k).val (slotOf k role)) 0
  setI (F.SRV_LIM_HI_LIM (engineOf k).val (slotOf k role)) 0
  holdCode k role 0

/-- One frame of RETRACT's ramp over 0.40 ms (R126). In SAFE the codes are those for zero coil current when it has ended (R43). -/
def retractFrame (k : Fin 8) : Act Unit := do
  let s ← rd
  let n := s.optics[k].frames * 384
  loadCodes k (s.rampCodes k n 60000)
  if 60000 ≤ n then
    holdCode k 2 (if s.mode = mSAFE then 0 else s.geti (F.BAY_FOCUS_RETRACT_CODE k.val))
    holdCode k 4 0
    restTrim k 8
    restTrim k 10
    if s.mode = mSAFE then loadCodes k (.replicate 4 0)
    optEnd k rDONE

/-- One frame of the ramp of an engine fault over 1 ms (R108). In SAFE the codes are those for zero coil current when it has ended (R43). -/
def faultRampFrame (k : Fin 8) : Act Unit := do
  let s ← rd
  if s.optics[k].phase = .faultRamp then
    let n := (s.optics[k].frames + 1) * 384
    emit (.optic k fun o => { o with frames := o.frames + 1 })
    loadCodes k (s.rampCodes k n 150000)
    if 150000 ≤ n then
      if s.mode = mSAFE then loadCodes k (.replicate 4 0)
      optPhase k .idle

/-- Whether the SA dither may run (R130). -/
def State.dithers (s : State) (k : Fin 8) : Bool :=
  s.get (F.BAY_OPT_STAT_FOCUS_LOCKED k.val) == 1 && s.get (F.BAY_OPT_STAT_LAYER_JUMP k.val) == 0 &&
  s.get (F.RCH_SPK_STAT_WR_GATE_OK k.val) == 0 && s.get (F.BAY_OPT_CTL_SA_DITHER k.val) != 0

/-- The means of the four samples of each input (R94). -/
def adcMeans (x : AdcFrame) : AdcInputs :=
  let mean (f : AdcInputs → Int) : Int := floorDiv (f x.s0 + f x.s1 + f x.s2 + f x.s3) 4
  { a := mean (·.a), b := mean (·.b), c := mean (·.c), d := mean (·.d), e := mean (·.e), f := mean (·.f), g := mean (·.g), h := mean (·.h)
    front := mean (·.front), temp := mean (·.temp) }

/-- What a frame does for an OPU before its slots execute. -/
def opticFrame (k : Fin 8) (x : AdcFrame) : Act Unit := do
  let s ← rd
  let m := adcMeans x
  let layer := s.optics[k].layer
  writtenFlag k 0 (m.e + m.f) (s.get (F.BAY_LREF_SIDE k.val layer))
  writtenFlag k 1 (m.a + m.b + m.c + m.d) (s.get (F.BAY_LREF_CENTRE k.val layer))
  writtenFlag k 2 (m.g + m.h) (s.get (F.BAY_LREF_SIDE k.val layer))
  let s ← rd
  let d := s.derive k m
  emit (.servo (engineOf k) fun v => { v with adc := v.adc.set (k.val % 4) m (by omega)
                                              derived := v.derived.set (k.val % 4) d (by omega) })
  let fe := d.getD 0 0
  let sum := d.getD 2 0
  laserGuard k m.front
  emit (.optic k fun o => { o with celsius := some (Config.opuCelsius m.temp) })
  trainFrame k m.front
  countEnergy k m.front
  if s.writers[k].busy then
    if (← rd).opuHot k then stopWriteNow k
  focusLock k fe sum
  emit (.optic k fun o => { o with frames := o.frames + 1 })
  let s ← rd
  match s.optics[k].phase with
  | .sweep => sweepFrame k fe sum
  | .locking => if s.get (F.BAY_OPT_STAT_FOCUS_LOCKED k.val) = 1 then optPhase k .spokes
  | .hopHold | .hopPulse | .hopCatch | .hopLock => hopFrame k fe sum
  | .jumpPulse => jumpFrame k
  | .retracting => retractFrame k
  | .presets => if s.optics[k].preset.all (fun p => decide (p.1 ≤ 1)) ∨ 60000 ≤ s.optics[k].frames * 384 then beginLayerJump k s.optics[k].layer 2
  | _ => pure ()
  let on := (← rd).dithers k
  emit (.optic k fun o => { o with
    ditherAt := if on = false then 65 else if o.ditherAt < 64 then o.ditherAt + 1 else o.ditherAt
    sPlus := if o.ditherAt < 32 then o.sPlus + sum else o.sPlus
    sMinus := if 32 ≤ o.ditherAt ∧ o.ditherAt < 64 then o.sMinus + sum else o.sMinus })

/-- What precedes an execution of a tilt or SA slot: a step of its preset move, and the SA error of a complete dither, after which the next one
begins (R123, R130). -/
def presetStep (k : Fin 8) (i : Fin 2) (role : Nat) : Act Unit := do
  let s ← rd
  let e := (engineOf k).val
  let j := slotOf k role
  let p := s.optics[k].preset[i]
  let limits (lo hi : Int) : Act Unit := do
    setI (F.SRV_LIM_LO_LIM e j) (satInt 32 (lo * 65536))
    setI (F.SRV_LIM_HI_LIM e j) (satInt 32 (hi * 65536))
  if p.1 = 3 then
    let mid := (s.optics[k].dac[if i = 0 then (2 : Fin 4) else 3] + p.2) / 2
    limits mid mid
  else if p.1 = 2 then limits p.2 p.2
  else if p.1 = 1 then
    let w : Int := s.nv.eeproms[k].trimWin
    limits (p.2 - w) (p.2 + w)
  if p.1 ≠ 0 then emit (.optic k fun o => { o with preset := o.preset.set i (p.1 - 1, p.2) })
  if i = 1 then
    let o := s.optics[k]
    if o.ditherAt = 64 then
      emit (.servo (engineOf k) fun v => { v with
        derived := v.derived.set (k.val % 4) ((v.derived[k.val % 4]'(by omega)).set 4 (quotient31 (o.sPlus - o.sMinus) (o.sPlus + o.sMinus))) (by omega) })
    emit (.optic k fun o => { o with ditherAt := if s.dithers k then 0 else 65, sPlus := 0, sMinus := 0 })

/-! ### Outputs of a frame (R94, R99, R119, R120, R122, R133, R169, R248) -/

/-- An actuator DAC loads the slot's code plus any pulse, clamped to BAY_ACT_LIM (R99, R120, R122, R130). -/
def loadDac (k : Fin 8) (a : Fin 4) (u : Int) : Act Unit := do
  let s ← rd
  let o := s.optics[k]
  if o.phase ≠ .retracting ∧ o.phase ≠ .faultRamp then
    let dither : Int := s.get (F.BAY_OPT_CTL_SA_DITHER k.val)
    let pulse : Int := match a with
      | 0 => if o.phase = .hopPulse then o.pulseF else 0
      | 1 => if o.phase = .jumpPulse then o.pulseT else 0
      | 3 => if o.ditherAt < 32 then dither else if o.ditherAt < 64 then -dither else 0
      | _ => 0
    let code := satInt 16 (floorDiv (u + 32768) 65536) + pulse
    let lim := s.actLimit k a.val
    let c := clampInt (-lim) lim code
    emit (.optic k fun o => { o with dac := o.dac.set a c })
    if c ≠ code then setF (F.BAY_OPT_STAT_ACT_CLAMP k.val) 1

/-- The driver codes of LEVEL 0 to 3 for a power set-point (R248). -/
def State.levelCodes (s : State) (k : Fin 8) (u : Nat) : List Nat :=
  (List.range 4).map (fun level => min 4095 (u * (s.strategy k).ratio level / 32768))

/-- The laser power slot sends LEVELS, limited to READ_MAX unless the OPU may write (R133, R248); not while training has it frozen (R245). -/
def sendLevels (k : Fin 8) (u : Int) : Act Unit := do
  let s ← rd
  if s.optics[k].laser ∧ s.writers[k].training.isNone then
    let free : Bool := s.get (F.BAY_OPT_STAT_FOCUS_LOCKED k.val) == 1 && s.get (F.BAY_OPT_STAT_ON_TRACK k.val) == 1 &&
      s.get (F.RCH_SPK_STAT_WR_GATE_OK k.val) == 1
    let p := (u / 65536).toNat
    let p := if free then p else min p (s.get (F.BAY_LASER_LIM_READ_MAX k.val))
    sendFrame k (.levels (s.levelCodes k p))
    if s.optics[k].gate then emit (.writer k fun w => { w with drive := (w.drive.1 + p, w.drive.2 + 1) })

/-- The output of an enabled slot that has executed takes effect (R94); LEVELS follows each execution of the laser slot (R248), `due` in this frame. -/
def slotOutput (e : Fin 2) (due : Bool) (j : Nat) : Act Unit := do
  let s ← rd
  if s.get (F.SRV_SLOT_CTL_ENABLE e.val j) = 1 ∧ (s.slotRun e j).ran then
    let u := s.geti (F.SRV_SLOT_OUT_U e.val j)
    match s.slotOwner e.val j, s.get (F.SRV_SLOT_DEST_KIND e.val j) with
    | .opu k, 1 => loadDac k (Fin.ofNat 4 (s.get (F.SRV_SLOT_DEST_DAC e.val j))) u
    | .opu k, 2 => if due then sendLevels k u
    | .axis a, 5 => emit (.axis a fun x => { x with corr := u })
    | _, _ => pure ()

/-- The steps of one frame of an axis, 384 cycles of 150 MHz (R168, R169): one each time the whole part of the accumulator changes. -/
def axisFrame (a : Fin 16) : Act Unit := do
  let s ← rd
  let x := s.axes[a]
  let p := s.axisPos a
  if s.axisSteps a then
    let t := s.axisAt a 384
    let q := floorDiv t (2 ^ 32)
    setI (F.STP_POS_POS a.val) q
    addWrap (F.STP_STEP_CNT_CNT a.val) (q - p).natAbs
    emit (.axis a fun y => { y with frac := t % 2 ^ 32, setup := 0, age := if q = p then min 511 (y.age + 384) else s.stepAge a 384
                                    back := if q = p then y.back else decide (q < p)
                                    elapsed := if s.axisRuns a then y.elapsed + (384 - x.setup) else y.elapsed })
    if s.axisRuns a then setI (F.STP_REMAIN_DIST a.val) (x.start + s.axisCourse a - q)
  else if x.age < 511 then emit (.axis a fun y => { y with age := min 511 (y.age + 384) })

/-- The steps of a frame of the axes of an engine's bays, which the step generators issue while the engine is stopped, too. -/
def axesFrame (e : Fin 2) : Act Unit :=
  forAll (baysOf e) (fun b => forAll [axisOf b 0, axisOf b 1, axisOf b 2, axisOf b 3] axisFrame)

/-! ### The PWM units in a frame (R144, R147, R148) -/

/-- Pole pairs: 4 on a spindle (R142). -/
def State.polePairs (s : State) (k : Fin 8) : Nat := if k.val < 4 then 4 else s.get (F.MOT_CTL_POLE_PAIRS k.val)

/-- Whether the observer runs: the current loops are closed and MOT_k_MODEL is not zero (R155). -/
def State.observerRuns (s : State) (k : Fin 8) : Bool :=
  s.motors[k].gates && (s.get (F.MOT_MODEL_RES k.val) != 0 || s.get (F.MOT_MODEL_IND k.val) != 0)

/-- Whether the observer's angle and speed are valid (R155). -/
def State.observerValid (s : State) (k : Fin 8) : Bool :=
  s.observerRuns k && decide (16 * s.get (F.MOT_LIM_LOW_SPEED k.val) ≤ (s.geti (F.MOT_OBS_SPEED_RPM k.val)).natAbs)

/-- v_d or v_q: the output of the enabled slot of the motor with that destination (R113). -/
def State.motorVoltage (s : State) (k : Fin 8) (kind : Nat) : Int :=
  let e := k.val % 4 / 2
  match (List.range 64).find? (fun j => s.get (F.SRV_SLOT_CTL_ENABLE e j) == 1 && s.get (F.SRV_SLOT_DEST_KIND e j) == kind &&
      decide (s.slotOwner e j = .motor k) && (s.slotRun (Fin.ofNat 2 e) j).ran) with
  | some j => s.geti (F.SRV_SLOT_OUT_U e j)
  | none => 0

/-- Whether the field angle is fixed: 0 in HOLD_ZERO, and 0, 120, 240 and 360 degrees in the steps of the wiring check (R153, R157). -/
def State.fieldAngle (s : State) (k : Fin 8) : Option Nat :=
  let st := s.motorState k
  if st = mtHOLD_ZERO then some 0 else if st = mtCHECK then some (65536 * s.motors[k].checkStep / 3 % 65536) else none

/-- Whether a motor is commutated on its observer: in zero-current hold while it runs, and in SOFT_BRAKE (R148, R162). -/
def State.onObserver (s : State) (k : Fin 8) : Bool :=
  (s.motors[k].zeroCurrent && s.observerRuns k) || s.motorState k == mtSOFT_BRAKE

/-- The transformation angle of a period: the fixed field angle where there is one; the observer's in zero-current hold while it runs and in
SOFT_BRAKE; otherwise the encoder's as latched at the counter peak (R146, R148, R162). -/
def State.motorAngle (s : State) (k : Fin 8) : Nat :=
  match s.fieldAngle k with
  | some a => a
  | none =>
    if s.onObserver k then s.get (F.MOT_ANGLE_OBS k.val) else s.motors[k].peakAngle

/-- The electrical angle travelled in one period of 20.48 µs at the speed measured with the angle, in 1/65,536 revolution, rounded down (R147). -/
def State.periodAngle (s : State) (k : Fin 8) : Int :=
  if (s.fieldAngle k).isSome then 0
  else floorDiv (s.geti (if s.onObserver k then F.MOT_OBS_SPEED_RPM k.val else F.MOT_SPEED_RPM k.val) * s.polePairs k * 65536 * 2048) (960 * 10 ^ 8)

/-- The PWM unit of a motor computes and loads the compare values of the next period (R144, R145, R147, R157, R158). -/
def pwmLoad (k : Fin 8) : Act Unit := do
  let s ← rd
  if s.motorState k = mtCHECK ∧ s.motors[k].checkWait = 1 then
    emit (.motor k fun m => { m with compare := vectorEdges (s.get (F.MOT_CTL_DEAD k.val)) })
  else if s.motors[k].gates then
    let u := limitVector (s.motorVoltage k 3) (s.motorVoltage k 4) (s.get (F.MOT_CTL_VMAX k.val))
    let v := unpark u.1 u.2 (((s.motorAngle k : Int) + s.periodAngle k) % 65536).toNat
    let c := phaseCompare v.1 v.2
    let edges := pwmEdges c (s.get (F.MOT_CTL_SETTLE k.val) + 30) (s.get (F.MOT_WIRING_PH_SWAP k.val) == 1)
    emit (.motor k fun m => { m with duty := c, vector := v, compare := edges })

/-- Cycle `t` of the period: the high-side and low-side switches of U, V and W, all off while the gates are (R143, R148). -/
def State.motorSwitches (s : State) (k : Fin 8) (t : Nat) : List (Bool × Bool) :=
  s.motors[k].compare.map (fun c => if s.motors[k].gates then phaseSwitches c (s.get (F.MOT_CTL_DEAD k.val)) t else (false, false))

/-! ### SERVO_FRAME -/

/-- Whether a slot is due in frame `f` (R93). -/
def State.slotDue (s : State) (e : Fin 2) (f j : Nat) : Bool :=
  s.get (F.SRV_SLOT_CTL_ENABLE e.val j) == 1 &&
  match s.get (F.SRV_SLOT_CTL_RATE e.val j) with
  | 0 => true
  | 1 => f % 8 == s.get (F.SRV_SLOT_CTL_PHASE e.val j)
  | 2 => f % 64 == s.get (F.SRV_SLOT_CTL_PHASE e.val j)
  | _ =>
    match s.slotOwner e.val j with
    | .opu k => s.servos[e].pes[k.val % 4]'(by omega)
    | .motor k => decide (k.val < 4) && s.servos[e].spin[k.val % 2]'(by omega)
    | .axis _ => false

/-- What precedes the snapshot for a slot due in frame `f`. -/
def frameTrim (e : Fin 2) (f j : Nat) : Act Unit := do
  let s ← rd
  if s.slotDue e f j then
    match s.slotOwner e.val j with
    | .opu k =>
      if j = slotOf k 8 then presetStep k 0 8
      else if j = slotOf k 10 then presetStep k 1 10
    | _ => pure ()

/-- One slot in frame `f`, of which `s` is the snapshot. -/
def frameSlot (s : State) (e : Fin 2) (f j : Nat) : Act Unit := do
  if s.slotDue e f j then
    let taps ← execSlot s e j
    forAll opuList (traceSample e j taps)

/-- A frame of a running engine without a fault (R94): the optical signals, the snapshot, the due slots in rising order, the steps that the
corrections of the frame before ask for, then the outputs, which stand from the next frame on. The PWM units load what the outputs of the frame before give
(R147). -/
def runFrame (e : Fin 2) (x : FrameInputs) : Act Unit := do
  let s ← rd
  let f := s.get (F.SRV_FRAME_CNT_CNT e.val)
  let opu (i : Nat) : Fin 8 := Fin.ofNat 8 (4 * e.val + i)
  opticFrame (opu 0) x.opu0
  opticFrame (opu 1) x.opu1
  opticFrame (opu 2) x.opu2
  opticFrame (opu 3) x.opu3
  forAll (List.range 64) (frameTrim e f)
  if f % 8 = 7 then forAll (baysOf e) (fun b => forAll [spindleOf b, shuttleOf b] pwmLoad)
  let snap ← rd
  forAll (List.range 64) (frameSlot snap e f)
  emit (.servo e fun v => { v with pes := .replicate 4 false, spin := .replicate 2 false })
  axesFrame e
  forAll (List.range 64) (fun j => slotOutput e (snap.slotDue e f j) j)

/-- SERVO_FRAME (R92 to R108): the frame of engine `e` that SRV_FRAME_CNT numbers, 0 the first; the count then goes on to the next. A stopped engine
runs no slot; the ramp of its fault and the steps of the axes go on. -/
def execServoFrame (e : Fin 2) (x : FrameInputs) (s : State) : Answer :=
  answerWhen s.drivesLive (do
    forAll (baysOf e) (fun b => forAll (opusOf b) (fun k => setF (F.BAY_OPT_STAT_ACT_CLAMP k.val) 0))
    if s.engineStopped e then
      forAll (baysOf e) (fun b => forAll (opusOf b) faultRampFrame)
      axesFrame e
    else
      if x.ecc = .corrected then
        incStop (F.SRV_ECC_CNT_CNT e.val)
        forAll (baysOf e) (fun b => raiseBay b.val Ev.iSERVO_ECC_CORRECTED 0 0xFF)
      if x.ecc = .uncorrectable then engineFault e 1
      else if x.overrun then engineFault e 2
      else runFrame e x
    addWrap (F.SRV_FRAME_CNT_CNT e.val) 1) s

/-- ENGINE_FAULT_HOLD_END (R108): after 64 frames of hold the ramp of the actuator DACs to the retract and zero-current codes begins, the
motors coast, the sleds are parked and both bays end in FAULTED; the recovery ends (R544). -/
def execEngineFaultHoldEnd (e : Fin 2) (s : State) : Answer :=
  answerWhen s.awake (do
    if s.servos[e].holding then
      emit (.servo e fun v => { v with holding := false })
      forAll (List.range 64) (fun j => do
        let s ← rd
        let kind := s.get (F.SRV_SLOT_DEST_KIND e.val j)
        if kind = 3 ∨ kind = 4 then setF (F.SRV_SLOT_OUT_U e.val j) 0)
      forAll (baysOf e) (fun b => do
        forAll (opusOf b) (fun k => do
          emit (.optic k fun o => { o with phase := .faultRamp, frames := 0, base := o.dac, focusClosed := false })
          setF (F.BAY_OPT_STAT_FOCUS_LOCKED k.val) 0
          setF (F.BAY_OPT_STAT_ON_TRACK k.val) 0)
        abortMotor (spindleOf b)
        abortMotor (shuttleOf b)
        parkSled (axisOf b 0)
        parkSled (axisOf b 1)
        setBay b bFAULTED)
      degrade (.servoEngine e.val)
      endSingle (.servoEngine e.val)) s

/-! ### Register writes (R95, R99, R102, R106, R112, R114, R579) -/

/-- SERVO_CFG_REJECT with the slot's CFG_REJECT flag (R113, R115). -/
def slotReject (e : Fin 2) (j : Nat) : Act Unit := do
  setF (F.SRV_SLOT_STAT_CFG_REJECT e.val j) 1
  raiseSlot e j Ev.iSERVO_REJECT 1

/-- The enabled slots of an engine: rate, phase, cost (R95). -/
def State.slotCosts (s : State) (e : Nat) : List (Nat × Nat × Nat) :=
  (List.range 64).filterMap (fun j =>
    if s.get (F.SRV_SLOT_CTL_ENABLE e j) = 1 then
      some (s.get (F.SRV_SLOT_CTL_RATE e j), s.get (F.SRV_SLOT_CTL_PHASE e j), 3 + 5 * s.get (F.SRV_SLOT_CTL_N_SEC e j))
    else none)

/-- L(φ) of R95. -/
def loadAt (costs : List (Nat × Nat × Nat)) (phi : Nat) : Nat :=
  (costs.map (fun c => if c.1 = 0 ∨ c.1 = 3 ∨ (c.1 = 1 ∧ c.2.1 = phi % 8) ∨ (c.1 = 2 ∧ c.2.1 = phi) then c.2.2 else 0)).sum

/-- The largest L(φ) of the enabled slots. -/
def State.engineLoad (s : State) (e : Nat) : Nat :=
  let costs := s.slotCosts e
  (List.range 64).foldl (fun a phi => max a (loadAt costs phi)) 0

/-- Whether another enabled slot of the engine drives the same destination (R114). -/
def State.destTaken (s : State) (e j : Nat) : Bool :=
  let kind := s.get (F.SRV_SLOT_DEST_KIND e j)
  kind != 0 && (List.range 64).any (fun i =>
    i != j && s.get (F.SRV_SLOT_CTL_ENABLE e i) == 1 && s.get (F.SRV_SLOT_DEST_KIND e i) == kind &&
    decide (s.slotOwner e i = s.slotOwner e j) &&
    (kind != 1 || s.get (F.SRV_SLOT_DEST_DAC e i) == s.get (F.SRV_SLOT_DEST_DAC e j)))

/-- Whether the checks of R114 allow slot `j` to run. -/
def State.slotAllowed (s : State) (e j : Nat) : Bool :=
  let o := s.slotOwner e j
  let rate := s.get (F.SRV_SLOT_CTL_RATE e j)
  let kind := s.get (F.SRV_SLOT_DEST_KIND e j)
  let retracts : Bool := bitAt (s.get (F.SRV_FE_CTL_ACT e j)) 3
  let events : Bool := match o with
    | .opu _ => true
    | .motor k => decide (k.val < 4)
    | .axis _ => false
  sourceExists o (s.get (F.SRV_SLOT_SRC_IN e j)) && sourceExists o (s.get (F.SRV_SLOT_SRC_SP e j)) &&
  sourceExists o (s.get (F.SRV_SLOT_SRC_FF e j)) && destExists o kind &&
  (rate != 3 || events) && (rate != 1 || decide (s.get (F.SRV_SLOT_CTL_PHASE e j) < 8)) &&
  (!retracts || (kind == 1 && s.get (F.SRV_SLOT_DEST_DAC e j) == 0)) && !s.destTaken e j

/-- Enables slot `j` (R95, R102, R114). -/
def enableSlot (e : Fin 2) (j : Nat) : Act Unit := do
  let s ← rd
  if s.slotAllowed e.val j = false then slotReject e j
  else
    setF (F.SRV_SLOT_CTL_ENABLE e.val j) 1
    let s ← rd
    if 1536 < s.engineLoad e.val then
      setF (F.SRV_SLOT_CTL_ENABLE e.val j) 0
      setF (F.SRV_SLOT_STAT_CFG_REJECT e.val j) 1
      raiseSlot e j Ev.iSERVO_REJECT 0
    else
      forAll (List.range 8) (fun c => forAll (List.range 4) (fun i => setF (sectionFld e.val j c i) 0))
      setF (F.SRV_BUMP_OFS_D e.val j) 0
      setF (F.SRV_SAT_CNT_CNT e.val j) 0
      setSlotRun e j { actions := (s.slotRun e j).actions }
      setF (F.SRV_LOAD_LOAD e.val) (s.engineLoad e.val)

/-- Disables slot `j`: its destination is zero at the next output update (R114), while the engine runs; the outputs of a stopped one stand as R108
leaves them. -/
def disableSlot (e : Fin 2) (j : Nat) : Act Unit := do
  setF (F.SRV_SLOT_CTL_ENABLE e.val j) 0
  let s ← rd
  if s.engineStopped e = false then
    match s.slotOwner e.val j, s.get (F.SRV_SLOT_DEST_KIND e.val j) with
    | .opu k, 1 => emit (.optic k fun o => { o with dac := o.dac.set (s.get (F.SRV_SLOT_DEST_DAC e.val j) % 4) 0 (by omega) })
    | .opu k, 2 => sendLevels k 0
    | .axis a, 5 => emit (.axis a fun x => { x with corr := 0 })
    | _, _ => pure ()
  setF (F.SRV_LOAD_LOAD e.val) (s.engineLoad e.val)

/-- A write of `v` to SRV_SLOT_CTL of slot `j` (R6, R95, R114, R579). -/
def writeSlotCtl (e : Fin 2) (j v : Nat) : Act Unit := do
  let s ← rd
  let en := e.val
  let was := s.get (F.SRV_SLOT_CTL_ENABLE en j)
  let same : Bool := s.get (F.SRV_SLOT_CTL_RATE en j) == bitsOf v 1 2 && s.get (F.SRV_SLOT_CTL_PHASE en j) == bitsOf v 3 6 &&
    s.get (F.SRV_SLOT_CTL_N_SEC en j) == bitsOf v 9 4 && s.get (F.SRV_SLOT_CTL_BUMP en j) == bitsOf v 13 4 &&
    s.get (F.SRV_SLOT_CTL_INTEG en j) == bitsOf v 20 8
  if same then pure ()
  else if was = 1 ∨ 8 < bitsOf v 9 4 then slotReject e j
  else
    setF (F.SRV_SLOT_CTL_RATE en j) (bitsOf v 1 2)
    setF (F.SRV_SLOT_CTL_PHASE en j) (bitsOf v 3 6)
    setF (F.SRV_SLOT_CTL_N_SEC en j) (bitsOf v 9 4)
    setF (F.SRV_SLOT_CTL_BUMP en j) (bitsOf v 13 4)
    setF (F.SRV_SLOT_CTL_INTEG en j) (bitsOf v 20 8)
  setF (F.SRV_SLOT_CTL_SW_0 en j) (bitsOf v 17 1)
  setF (F.SRV_SLOT_CTL_SW_1 en j) (bitsOf v 18 1)
  setF (F.SRV_SLOT_CTL_FREEZE en j) (bitsOf v 19 1)
  if was = 0 ∧ bitsOf v 0 1 = 1 then enableSlot e j
  else if was = 1 ∧ bitsOf v 0 1 = 0 then disableSlot e j

/-- SRV_SLOT_CTL_WRITE (R95, R114). -/
def execSrvSlotCtlWrite (m : Master) (e : Fin 2) (j : Fin 64) (v : Word) (s : State) : Answer :=
  answer (do if s.mayWrite m then writeSlotCtl e j.val v.toNat) s

/-- Whether any entry of a slot's region table names gain set `g` (R102). -/
def State.gsetNamed (s : State) (e j g : Nat) : Bool := (List.range 64).any (fun i => s.regionEntry e j i % 8 == g)

/-- Whether a calibration 3 scales a slot's gain (R271). -/
def calLoops (e : Fin 2) (j : Nat) (r : CalRun) : Bool :=
  r.kind == 3 && engineOf (calOpuOf 3 r.elem) == e && (slotOf (calOpuOf 3 r.elem) 2 == j || slotOf (calOpuOf 3 r.elem) 4 == j)

/-- A write to a gain set (R101, R102). Reserved words hold nothing. -/
def writeGain (e : Fin 2) (j g w v : Nat) : Act Unit := do
  let s ← rd
  if s.get (F.SRV_SLOT_CTL_ENABLE e.val j) = 1 ∧ s.gsetNamed e.val j g then raiseSlot e j Ev.iSERVO_REJECT 2
  else if w < 50 ∧ w ≠ 43 then
    setF (gainFld e.val j g w) v
    if w = 40 then
      abortCal (calLoops e j)
      emit (.cal fun c => { c with nominal := c.nominal.filter (fun x => x.1 != (e.val, j, g)) })

/-- GAIN_SET_WRITE (R102). -/
def execGainSetWrite (m : Master) (e : Fin 2) (j : Fin 64) (g : Fin 8) (w : Fin 64) (v : Word) (s : State) : Answer :=
  answer (do if s.mayWrite m then writeGain e j.val g.val w.val v.toNat) s

/-- A write of SRV_LIM_HI or SRV_LIM_LO (R99). -/
def writeLimit (e : Fin 2) (j : Nat) (high : Bool) (v : Nat) : Act Unit := do
  let s ← rd
  let lo := if high then s.geti (F.SRV_LIM_LO_LIM e.val j) else toSigned 32 v
  let hi := if high then toSigned 32 v else s.geti (F.SRV_LIM_HI_LIM e.val j)
  if hi < lo then raiseSlot e j Ev.iSERVO_REJECT 1
  else setF (if high then F.SRV_LIM_HI_LIM e.val j else F.SRV_LIM_LO_LIM e.val j) v

/-- SLOT_LIMIT_WRITE (R99). -/
def execSlotLimitWrite (m : Master) (e : Fin 2) (j : Fin 64) (high : Bool) (v : Word) (s : State) : Answer :=
  answer (do if s.mayWrite m then writeLimit e j.val high v.toNat) s

/-- Writing 1 to SRV_SLOT_STAT.FE_FAULT (R106): the slot resumes, and its next execution is a switch. The count of executions beyond SRV_FE_LIM starts
again from 0 (DESIGN CHOICE, assumption log 66). -/
def clearFault (e : Fin 2) (j : Nat) : Act Unit := do
  let s ← rd
  if s.get (F.SRV_SLOT_STAT_FE_FAULT e.val j) = 1 then
    setF (F.SRV_SLOT_STAT_FE_FAULT e.val j) 0
    setSlotRun e j { s.slotRun e j with resume := true, excess := 0, actions := 0 }

/-- FE_FAULT_CLEAR (R106). -/
def execFeFaultClear (m : Master) (e : Fin 2) (j : Fin 64) (s : State) : Answer :=
  answer (do if s.mayWrite m then clearFault e j.val) s

/-- SERVO_CFG_REJECT of a trace buffer, in the group of the bay of its slot (R112, R115). -/
def traceReject (e : Fin 2) (k : Fin 8) : Act Unit := do
  let s ← rd
  raiseSlot e (s.get (F.SRV_TRC_CTL_SLOT e.val k.val)) Ev.iSERVO_REJECT 1

/-- A write of `v` to SRV_TRC_k_CTL (R111, R112). -/
def writeTraceCtl (e : Fin 2) (k : Fin 8) (v : Nat) : Act Unit := do
  let s ← rd
  let en := e.val
  let kn := k.val
  let st := s.get (F.SRV_TRC_STAT_STATE en kn)
  let running : Bool := st == 1 || st == 2
  let same : Bool := s.get (F.SRV_TRC_CTL_SLOT en kn) == bitsOf v 2 6 && s.get (F.SRV_TRC_CTL_TAP en kn) == bitsOf v 8 4 &&
    s.get (F.SRV_TRC_CTL_TRIG en kn) == bitsOf v 12 4 && s.get (F.SRV_TRC_CTL_TRIG_BUF en kn) == bitsOf v 16 3 &&
    s.get (F.SRV_TRC_CTL_DEC en kn) == bitsOf v 20 10
  if running then
    if same = false then traceReject e k
  else
    setF (F.SRV_TRC_CTL_SLOT en kn) (bitsOf v 2 6)
    setF (F.SRV_TRC_CTL_TAP en kn) (bitsOf v 8 4)
    setF (F.SRV_TRC_CTL_TRIG en kn) (bitsOf v 12 4)
    setF (F.SRV_TRC_CTL_TRIG_BUF en kn) (bitsOf v 16 3)
    setF (F.SRV_TRC_CTL_DEC en kn) (bitsOf v 20 10)
  let was := s.get (F.SRV_TRC_CTL_ARM en kn)
  let arm := bitsOf v 0 1
  if was = 0 ∧ arm = 1 then
    let s ← rd
    if s.get (F.SRV_TRC_CTL_DEC en kn) = 0 then traceReject e k
    else
      setF (F.SRV_TRC_CTL_ARM en kn) 1
      setF (F.SRV_TRC_STAT_STATE en kn) 1
      setF (F.SRV_TRC_STAT_TRIG_OFFSET en kn) 0
      setF (F.SRV_TRC_STAT_START en kn) 0
      setF (F.SRV_TRC_PRE_PRE_VALID en kn) 0
      emit (.trace (traceOf e k) fun _ => {})
  else if arm = 0 then
    setF (F.SRV_TRC_CTL_ARM en kn) 0
    if running then setF (F.SRV_TRC_STAT_STATE en kn) 0
  let sw := s.get (F.SRV_TRC_CTL_SW_TRIG en kn)
  setF (F.SRV_TRC_CTL_SW_TRIG en kn) (bitsOf v 1 1)
  if sw = 0 ∧ bitsOf v 1 1 = 1 then
    let s ← rd
    if s.get (F.SRV_TRC_STAT_STATE en kn) = 1 then emit (.trace (traceOf e k) fun t => { t with fire := true })

/-- SRV_TRC_CTL_WRITE (R111, R112). -/
def execSrvTrcCtlWrite (m : Master) (e : Fin 2) (k : Fin 8) (v : Word) (s : State) : Answer :=
  answer (do if s.mayWrite m then writeTraceCtl e k v.toNat) s

end Sys2Proof.Machine
end

