-- ==== Sys2Proof/Machine/Optical.lean ====
section
/-! DEFINITION. The commands of the optical sequencer, its time limits, and the actuator sense inputs (R121, R124 to R139,
R554). -/

namespace Sys2Proof.Machine

/-- A write of BAY_OPT_CMD (R124, R140): its fields, then the command. -/
def writeOptCmd (k : Fin 8) (cmd layer dist : Nat) (atSpoke : Bool) (spoke : Nat) : Act Unit := do
  setF (F.BAY_OPT_CMD_LAYER k.val) layer
  setF (F.BAY_OPT_CMD_AT_SPOKE k.val) atSpoke.toNat
  setF (F.BAY_OPT_CMD_SPOKE k.val) spoke
  setF (F.BAY_OPT_CMD_DIST k.val) dist
  optCommand k cmd layer (toSigned 8 dist) atSpoke spoke

/-- OPT_ACQUIRE (R125). -/
def execOptAcquire (k : Fin 8) (layer : Fin 8) (atSpoke : Bool) (spoke : BitVec 10) (s : State) : Answer :=
  answerWhen s.drivesTake (writeOptCmd k 1 layer.val 0 atSpoke spoke.toNat) s

/-- OPT_LAYER_JUMP (R127). -/
def execOptLayerJump (k : Fin 8) (layer : Fin 8) (atSpoke : Bool) (spoke : BitVec 10) (s : State) : Answer :=
  answerWhen s.drivesTake (writeOptCmd k 2 layer.val 0 atSpoke spoke.toNat) s

/-- OPT_PULL_IN (R129). -/
def execOptPullIn (k : Fin 8) (atSpoke : Bool) (spoke : BitVec 10) (s : State) : Answer :=
  answerWhen s.drivesTake (writeOptCmd k 3 0 0 atSpoke spoke.toNat) s

/-- OPT_JUMP (R131). -/
def execOptJump (k : Fin 8) (dist : BitVec 8) (atSpoke : Bool) (spoke : BitVec 10) (s : State) : Answer :=
  answerWhen s.drivesTake (writeOptCmd k 4 0 dist.toNat atSpoke spoke.toNat) s

/-- OPT_RETRACT (R126). -/
def execOptRetract (k : Fin 8) (s : State) : Answer :=
  answerWhen s.drivesLive (writeOptCmd k 5 0 0 false 0) s

/-- FOCUS_REACQUIRE (R136): 2 ms after a loss of focus ACQUIRE runs to the layer and track kept; when RETRIES further attempts
have failed, FOCUS_ACQ_FAIL is raised and the bay parks and ends in FAULTED. An attempt that may not enable the laser is refused (R125, R134) and counts as
failed, and none is made while the engine is stopped, the sequencer is disabled or the spindle is not at speed (R125, R139, R140; the counting is a DESIGN CHOICE, assumption
log 66). -/
def execFocusReacquire (k : Fin 8) (s : State) : Answer :=
  answerWhen s.drivesTake (do
    let o := s.optics[k]
    if o.lostAt.isSome ∧ s.engineStopped (engineOf k) = false ∧ s.get (F.BAY_OPT_CTL_ENABLE k.val) = 1 ∧
        s.motorState (spindleOf (bayOf k)) = mtAT_SPEED then
      if s.get (F.BAY_OPT_CTL_RETRIES k.val) < s.get (F.BAY_OPT_STAT_FAIL_RUN k.val) then
        emit (.optic k fun o => { o with lostAt := none })
        raiseOpu k Ev.iFOCUS_ACQ_FAIL
        parkToFaulted (bayOf k)
      else if s.laserAllowed k then
        setF (F.BAY_OPT_TARGET_TRACK k.val) o.backTrack
        beginAcquire k o.backLayer
      else
        setF (F.BAY_OPT_STAT_FAIL_RUN k.val) (min 15 (s.get (F.BAY_OPT_STAT_FAIL_RUN k.val) + 1))
        optRefuse k rINVALID
        emit (.optic k fun o => { o with lostAt := some s.now })) s

/-- LAYER_HOP_TIMEOUT (R127, R138): a hop is not complete within 0.95 ms. -/
def execLayerHopTimeout (k : Fin 8) (s : State) : Answer :=
  answerWhen s.drivesLive (do
    match s.optics[k].phase with
    | .hopHold | .hopPulse | .hopCatch | .hopLock => hopFailed k
    | _ => pure ()) s

/-- PULL_IN_TIMEOUT (R129): on track is not set in time; a jump or a seek is not counted. -/
def execPullInTimeout (k : Fin 8) (s : State) : Answer :=
  answerWhen s.drivesLive (do
    match s.optics[k].phase with
    | .velocity | .settling => pullInFailed k
    | _ => pure ()) s

/-- LASER_TRIP_CLEAR (R134). -/
def execLaserTripClear (m : Master) (k : Fin 8) (s : State) : Answer :=
  answer (do if s.mayWrite m then setF (F.BAY_OPT_STAT_LASER_TRIP k.val) 0) s

/-! ### Actuator sense (R121, R554) -/

/-- An actuator's coil or output has failed (R554): focus or tracking retracts both OPUs and faults the bay; a tilt or SA slot
is disabled and the OPU runs on presets alone. -/
def actuatorFault (k : Fin 8) (a : Fin 4) : Act Unit := do
  if a.val < 2 then
    forAll (opusOf (bayOf k)) retract
    setBay (bayOf k) bFAULTED
  else
    disableSlot (engineOf k) (slotOf k (if a.val = 2 then 8 else 10))
    emit (.optic k fun o => { o with dac := o.dac.set a 0 })
    degrade (.actuator k.val a.val)

/-- ACT_SENSE_SAMPLE (R121): `sensed` is the coil current in DAC codes. -/
def execActSenseSample (k : Fin 8) (a : Fin 4) (sensed : Int) (s : State) : Answer :=
  answerWhen s.drivesLive (do
    let code := s.optics[k].dac[a]
    let same : Int := if code < 0 then -sensed else sensed
    let low : Bool := decide (4096 ≤ code.natAbs) && decide (4 * same < code.natAbs)
    let high : Bool := if code = 0 then decide (4096 < sensed.natAbs) else decide (3 * (code.natAbs : Int) < 2 * same)
    setI (F.BAY_ACT_SENSE_CODE k.val a.val) (satInt 16 sensed)
    emit (.optic k fun o => { o with lowRun := o.lowRun.set a (if low then o.lowRun[a] + 1 else 0)
                                     highRun := o.highRun.set a (if high then o.highRun[a] + 1 else 0) })
    let s ← rd
    if 64 ≤ s.optics[k].lowRun[a] ∧ s.get (F.BAY_ACT_SENSE_LOW k.val a.val) = 0 then
      setF (F.BAY_ACT_SENSE_LOW k.val a.val) 1
      raiseOpu k Ev.iACT_SENSE 0
      actuatorFault k a
    if 64 ≤ s.optics[k].highRun[a] ∧ s.get (F.BAY_ACT_SENSE_HIGH k.val a.val) = 0 then
      setF (F.BAY_ACT_SENSE_HIGH k.val a.val) 1
      raiseOpu k Ev.iACT_SENSE 1
      emit (.optic k fun o => { o with dac := o.dac.set a 0 })
      actuatorFault k a) s

end Sys2Proof.Machine
end

