-- ==== Sys2Proof/Machine/Motor.lean ====
section
/-! DEFINITION. Spindle and shuttle motors (R142 to R166): commands, starts and catch windows, PWM periods, the wiring check,
index pulses, loss of synchronism and the spindle sample events. -/

namespace Sys2Proof.Machine

/-! ### Geometry (R142) -/

/-- Encoder counts per revolution. -/
def countsPerRev (k : Fin 8) : Nat := if k.val < 4 then 16384 else 2048

/-- Nominal speed of a class in 1/16 rpm: S1 1,200 rpm to S4 4,800 rpm. -/
def nominalSpeed (cls : Nat) : Nat := 16 * 1200 * (cls + 1)

/-! ### Starts (R153, R157, R162) -/

/-- MOT_CMD_REJECT with a result (R165). -/
def motorRefuse (k : Fin 8) (r : Nat) : Act Unit := do
  setMotorResult k r
  raiseMotor k Ev.iCMD_REJECT 1

/-- An encoder fault (R162): SOFT_BRAKE on the observer angle for a turning spindle with a valid observer, gates off
otherwise; the bay ends in FAULTED. The observer shows that a spindle turns where its encoder does not. -/
def encoderFault (k : Fin 8) : Act Unit := do
  let s ← rd
  setF (F.MOT_STAT_ENC_FAULT k.val) 1
  setMotorResult k rFAILED
  if k.val < 4 ∧ s.observerValid k then
    emit (.motor k fun m => { m with zeroCurrent := false, target := 0, reverse := false })
    setMotor k mtSOFT_BRAKE
  else gatesOff k
  raiseMotor k Ev.iMOT_ENCODER_FAULT
  setBay (bayOfMotor k) bFAULTED

/-- Gates off with a latched wiring fault; the bay is FAULTED (R159, R163). -/
def latchMotor (k : Fin 8) (f : Fld) (sub : Nat) : Act Unit := do
  abortMotor k
  setF f 1
  setMotor k mtLATCHED
  raiseMotor k Ev.iMOT_PHASE sub
  setBay (bayOfMotor k) bFAULTED

/-- The ramp begins at the present speed `w` (row 3 of R153): the current loops' states are set to zero. A flying start without another angle reference
takes over at the observer's angle. -/
def beginRamp (k : Fin 8) (w : Int) : Act Unit := do
  let s ← rd
  let e := k.val % 4 / 2
  forAll (List.range 64) (fun j => do
    let kind := s.get (F.SRV_SLOT_DEST_KIND e j)
    if s.slotOwner e j = .motor k ∧ (kind = 3 ∨ kind = 4) then
      forAll (List.range 8) (fun c => forAll (List.range 4) (fun i => setF (sectionFld e j c i) 0)))
  emit (.motor k fun m => { m with gates := true, zeroCurrent := false, rampRest := 0, steady := 0, reverse := false, caught := false,
                                   starting := false })
  if s.motors[k].angleRef = false ∧ s.observerValid k then
    setF (F.MOT_ANGLE_ENC k.val) (s.get (F.MOT_ANGLE_OBS k.val))
    emit (.motor k fun m => { m with peakAngle := s.get (F.MOT_ANGLE_OBS k.val) })
  setRef k w
  setMotor k mtRAMP

/-- HOLD_ZERO (R153). -/
def beginHoldZero (k : Fin 8) : Act Unit := do
  emit (.motor k fun m => { m with gates := true, zeroCurrent := false, reverse := false, caught := false, starting := false })
  setMotor k mtHOLD_ZERO

/-- The wiring check begins, by CHECK or as part of a start, with the gates off for its 256 shunt samples, two in each PWM period, and then one period
for the vector of step 2 (R157; the 128 periods are a DESIGN CHOICE, assumption log 67). -/
def beginCheck (k : Fin 8) (starting : Bool) : Act Unit := do
  emit (.motor k fun m => { m with gates := false, zeroCurrent := false, starting := starting, checkStep := 0, checkMove := 0
                                   checkAbs := 0, checkWait := 129, checkSum := 0, indexDue := true })
  setMotor k mtCHECK

/-- Row 2 of R153: a start from rest. -/
def startFromRest (k : Fin 8) : Act Unit := do
  let s ← rd
  if s.get (F.MOT_WIRING_CHECKED k.val) = 0 then beginCheck k true
  else if s.motors[k].angleRef then beginRamp k 0
  else beginHoldZero k

/-- The motor comes to the end of a STOP: gates off, at rest, DONE. -/
def stopDone (k : Fin 8) : Act Unit := do
  gatesOff k
  setMotorResult k rDONE

/-- A catch window begins (R153). -/
def beginCatch (k : Fin 8) : Act Unit := do
  abortCal (fun r => r.kind == 11 && r.elem == k.val)
  emit (.motor k fun m => { m with gates := true, zeroCurrent := true, catchCounts := 0, stopLater := false })
  setMotor k mtCATCH

/-- Whether RUN, MOVE and CHECK are refused outright: not enabled, latched, or an encoder fault (R162, R163, R165). -/
def State.motorShut (s : State) (k : Fin 8) : Bool :=
  s.get (F.MOT_CTL_ENABLE k.val) == 0 || s.motorState k == mtLATCHED || s.get (F.MOT_STAT_ENC_FAULT k.val) == 1

/-- A new target for a motor (R153, R163): a catch window when it is not under control, BUSY during CATCH, CHECK and RESYNC, and
the new target at once otherwise. -/
def motorTarget (k : Fin 8) (target : Int) : Act Unit := do
  let s ← rd
  let st := s.motorState k
  if st = mtCATCH ∨ st = mtRESYNC ∨ st = mtCHECK then motorRefuse k rBUSY
  else
    setMotorResult k 0
    emit (.motor k fun m => { m with target := target, steady := 0 })
    if st = mtOFF ∨ st = mtCOAST then beginCatch k
    else if s.motors[k].reverse = false ∧ st ≠ mtHOLD_ZERO then
      setMotor k (if target.natAbs < s.motors[k].ref.natAbs then mtBRAKE else mtRAMP)

/-- The bay's speed class changes: BAY_STATE_CHANGE with SUBCODE 1 (R280, R535), and f = 0 in its lanes (R199). -/
def setSpeed (b : Fin 4) (cls : Nat) : Act Unit := do
  let s ← rd
  let old := s.get (F.BAY_STAT_SPEED b.val)
  if old ≠ cls then
    setF (F.BAY_STAT_SPEED b.val) cls
    forAll (List.range 36) (fun n => do
      let s ← rd
      if s.get (F.RCH_LANE_BIND_INPUT n) / 8 = b.val then setF (F.RCH_LANE_FREQ_FREQ n) 0)
    raiseBay b.val Ev.iBAY_STATE_CHANGE 1 0 (old + 1 + 256 * (cls + 1))

/-- RUN of a spindle to a speed class (R153, R163, R165). -/
def runMotor (k : Fin 8) (cls : Nat) : Act Unit := do
  let s ← rd
  setF (F.MOT_CMD_CLASS k.val) cls
  if s.motorShut k ∨ 4 ≤ k.val then motorRefuse k rINVALID
  else
    motorTarget k (nominalSpeed cls)
    let st := s.motorState k
    if st ≠ mtCATCH ∧ st ≠ mtRESYNC ∧ st ≠ mtCHECK then setSpeed (bayOfMotor k) cls
    settleBay (bayOfMotor k)

/-- The cruise speed of a shuttle's profile in the direction of its target (R153). -/
def State.shuttleCruise (s : State) (k : Fin 8) : Int :=
  let v : Int := max 1 (Config.shuttleCruise k.val)
  if s.motors[k].moveTo < s.geti (F.MOT_POS_POS k.val) then -v else v

/-- The speed of the move profile of a shuttle at its present distance (R153): the cruise speed, reduced so that DECEL brings it
to rest on the target. In 1/16 rpm, v² = 256 · 120 · DECEL · d ÷ 2,048 at d counts. -/
def State.moveSpeed (s : State) (k : Fin 8) : Int :=
  let d := s.motors[k].moveTo - s.geti (F.MOT_POS_POS k.val)
  let v : Int := min (max 1 (Config.shuttleCruise k.val)) (isqrt (15 * s.get (F.MOT_RAMP_DECEL k.val) * d.natAbs))
  if d < 0 then -v else v

/-- MOVE of a shuttle to a count (R153, R163, R165). -/
def moveMotor (k : Fin 8) (target : Int) : Act Unit := do
  let s ← rd
  setI (F.MOT_CMD_TARGET k.val) target
  if s.motorShut k ∨ k.val < 4 then motorRefuse k rINVALID
  else
    let st := s.motorState k
    if st ≠ mtCATCH ∧ st ≠ mtRESYNC ∧ st ≠ mtCHECK then
      emit (.motor k fun m => { m with moveTo := target, trayAt := s.get (F.BAY_STAT_TRAY_CLOSED (bayOfMotor k).val) })
    let s ← rd
    motorTarget k (s.shuttleCruise k)

/-- STOP (R163, R165). -/
def stopCommand (k : Fin 8) : Act Unit := do
  let s ← rd
  if s.get (F.MOT_CTL_ENABLE k.val) = 0 ∨ s.motorState k = mtLATCHED then motorRefuse k rINVALID
  else
    setMotorResult k 0
    stopMotor k

/-- COAST (R148, R163, R165). -/
def coastCommand (k : Fin 8) : Act Unit := do
  let s ← rd
  if s.get (F.MOT_CTL_ENABLE k.val) = 0 ∨ s.motorState k = mtLATCHED then motorRefuse k rINVALID
  else
    gatesOff k
    setMotorResult k rDONE

/-- CHECK (R157, R163, R165): BUSY unless the motor is in OFF at rest; an encoder fault does not bar it (R162). -/
def checkCommand (k : Fin 8) : Act Unit := do
  let s ← rd
  if s.get (F.MOT_CTL_ENABLE k.val) = 0 then motorRefuse k rINVALID
  else if s.motorState k ≠ mtOFF ∨ s.motors[k].atRest = false then motorRefuse k rBUSY
  else
    setMotorResult k 0
    beginCheck k false

/-- A write of MOT_k_CMD (R164, R165). -/
def writeMotCmd (k : Fin 8) (cmd cls : Nat) (target : Int) : Act Unit := do
  match cmd with
  | 1 => runMotor k cls
  | 2 => stopCommand k
  | 3 => coastCommand k
  | 4 => moveMotor k target
  | 5 => checkCommand k
  | _ => motorRefuse k rINVALID

/-- MOT_RUN (R153). -/
def execMotRun (k : Fin 8) (cls : Fin 4) (s : State) : Answer := answerWhen s.drivesTake (runMotor k cls.val) s

/-- MOT_STOP (R163). -/
def execMotStop (k : Fin 8) (s : State) : Answer := answerWhen s.drivesLive (stopCommand k) s

/-- MOT_COAST (R148). -/
def execMotCoast (k : Fin 8) (s : State) : Answer := answerWhen s.drivesLive (coastCommand k) s

/-- MOT_MOVE (R153). -/
def execMotMove (k : Fin 8) (target : Int) (s : State) : Answer := answerWhen s.drivesTake (moveMotor k target) s

/-- MOT_CHECK (R157). -/
def execMotCheck (k : Fin 8) (s : State) : Answer := answerWhen s.drivesTake (checkCommand k) s

/-- The shunt offset that calibration 11 measures with the gates off is applied (R157, R269, R271). -/
def shuntMeasured (k : Fin 8) (mean : Int) : Act Unit := do
  setF (F.MOT_SHUNT_OFS_OFS k.val) mean.toNat
  endCal 11 k.val calAPPLIED

/-- Setting MOT_k_CTL.ENABLE averages the shunt offset over the samples; clearing it puts the gates off (R157, R164). -/
def writeMotEnable (k : Fin 8) (on : Bool) (samples : List Int) : Act Unit := do
  let was ← getF (F.MOT_CTL_ENABLE k.val)
  setF (F.MOT_CTL_ENABLE k.val) on.toNat
  if on then
    if was = 0 ∧ samples ≠ [] then
      shuntMeasured k (floorDiv samples.sum samples.length)
  else abortMotor k

/-- MOT_ENABLE_WRITE (R164). -/
def execMotEnableWrite (m : Master) (k : Fin 8) (on : Bool) (samples : List Int) (s : State) : Answer :=
  answer (do if s.mayWrite m then writeMotEnable k on samples) s

/-! ### PWM periods (R143 to R147, R155, R156) -/

/-- A shunt code in Q1.31 after the offset and SHUNT_INV (R146): codes are 14 bits wide. -/
def State.shuntCurrent (s : State) (k : Fin 8) (code : Int) : Int :=
  let i := satInt 32 ((code - s.get (F.MOT_SHUNT_OFS_OFS k.val)) * 2 ^ 18)
  if s.get (F.MOT_WIRING_SHUNT_INV k.val) = 1 then satInt 32 (-i) else i

/-- The phase current that flows into phase `i` of a period in force, from the two samples (R146): +i_hi in window A, −i_lo in window B. -/
def State.samplePhases (s : State) (k : Fin 8) (x : PwmSample) (i : Nat) : Int :=
  let d := s.motors[k].duty
  let hi := s.shuntCurrent k x.first
  let lo := -(s.shuntCurrent k x.second)
  ofPhase (phaseOrder d.1 d.2.1 d.2.2) (hi, -(hi + lo), lo) i

/-- The currents of the period (R145, R146, R159). Without both samples those of the period before stand, rotated with the angle, so that i_d and i_q
stay and the phase currents follow the angle; the count of periods with a low current starts again then. -/
def pwmSamples (k : Fin 8) (x : PwmSample) : Act Unit := do
  let s ← rd
  let m := s.motors[k]
  match periodEdges m.duty (s.get (F.MOT_CTL_SETTLE k.val) + 30) with
  | none =>
    setF (F.MOT_STAT_SKIP_RUN k.val) (min 15 (s.get (F.MOT_STAT_SKIP_RUN k.val) + 1))
    let ab := unpark m.id m.iq (s.motorAngle k)
    let (u, v, w) := unclarke ab.1 ab.2
    emit (.motor k fun m => { m with starved := m.starved + 1, openRun := 0, currents := [u, v, w] })
    if m.starved + 1 = 16 then raiseMotor k Ev.iMOT_SAMPLE_STARVED
  | some _ =>
    let angle := s.motorAngle k
    let (u, v, w) := (s.samplePhases k x 0, s.samplePhases k x 1, s.samplePhases k x 2)
    let ab := clarke u v w
    let dq := park ab.1 ab.2 angle
    let ideal := unpark 0 dq.2 angle
    let want := unclarke ideal.1 ideal.2
    let poor (i a : Int) : Bool := decide (5 * i.natAbs < a.natAbs)
    let isOpen : Bool := decide (s.ratedCurrent k 10 ≤ dq.2.natAbs) && (poor u want.1 || poor v want.2.1 || poor w want.2.2)
    setF (F.MOT_STAT_SKIP_RUN k.val) 0
    emit (.motor k fun m => { m with starved := 0, currents := [u, v, w], id := satInt 32 dq.1, iq := satInt 32 dq.2
                                     openRun := if isOpen then m.openRun + 1 else 0 })
    if isOpen ∧ 64 ≤ m.openRun + 1 then latchMotor k (F.MOT_STAT_OPEN k.val) 1

/-- Encoder counts of the period: position, angle with what it was at the peak, revolutions, and rest by windows of 2.0 ms, 98 periods (R142, R146,
R148, R164). -/
def pwmEncoder (k : Fin 8) (x : PwmSample) : Act Unit := do
  let s ← rd
  let inv : Bool := s.get (F.MOT_WIRING_ENC_INV k.val) == 1
  let c := if inv then -x.counts else x.counts
  let late := if inv then -x.afterPeak else x.afterPeak
  let cpr := countsPerRev k
  let p := s.geti (F.MOT_POS_POS k.val) + c
  let turns := floorDiv (s.motors[k].revCounts + c) cpr
  let unit : Nat := 65536 / cpr * s.polePairs k
  let angle : Int := s.get (F.MOT_ANGLE_ENC k.val) + c * unit
  setI (F.MOT_POS_POS k.val) (if k.val < 4 then p % 16384 else p)
  setF (F.MOT_ANGLE_ENC k.val) (angle % 65536).toNat
  setI (F.MOT_SPEED_RPM k.val) (if inv then -x.speed else x.speed)
  addWrap (F.MOT_REV_CNT_CNT k.val) turns.toNat
  emit (.motor k fun m =>
    let n := m.restCounts + c.natAbs
    let full : Bool := decide (98 ≤ m.restPeriods + 1)
    { m with revCounts := m.revCounts + c - turns * cpr, sinceIndex := m.sinceIndex + c.natAbs
             catchCounts := m.catchCounts + c, peakAngle := ((angle - late * unit) % 65536).toNat
             restCounts := if full then 0 else n, restPeriods := if full then 0 else m.restPeriods + 1
             atRest := if full then decide (n < 2) else m.atRest && decide (n < 2) })

/-- The back-EMF of a period in the stationary frame (R155): v − RES·i − IND·Δi, RES and IND in 1/65,536 (DESIGN CHOICE, assumption log 67). -/
def State.backEmf (s : State) (k : Fin 8) (i : Int × Int) : Nat :=
  let m := s.motors[k]
  let r : Int := s.get (F.MOT_MODEL_RES k.val)
  let l : Int := s.get (F.MOT_MODEL_IND k.val)
  let e (v now last : Int) : Int := v - floorDiv (r * now + l * (now - last)) 65536
  magnitude (e m.vector.1 i.1 m.iab.1) (e m.vector.2 i.2 m.iab.2)

/-- The observer and LOW_SPEED of MOT_k_STAT (R149, R155). The angle and speed that its phase-locked loop tracks are measured: the spec gives no gain
of the loop. -/
def pwmObserver (k : Fin 8) (x : PwmSample) : Act Unit := do
  let s ← rd
  let c := s.motors[k].currents
  let i := clarke (c.getD 0 0) (c.getD 1 0) (c.getD 2 0)
  if s.observerRuns k then
    setI (F.MOT_OBS_SPEED_RPM k.val) x.obsSpeed
    setF (F.MOT_ANGLE_OBS k.val) x.obsAngle
    emit (.motor k fun m => { m with bemf := min (2 ^ 31 - 1) (s.backEmf k i) })
  emit (.motor k fun m => { m with iab := i })
  setF (F.MOT_STAT_LOW_SPEED k.val)
    (if (s.geti (F.MOT_SPEED_RPM k.val)).natAbs < 16 * s.get (F.MOT_LIM_LOW_SPEED k.val) then 1 else 0)

/-- The speed reference after one period: towards `goal` at `rate` rpm/s, with the remainder in 1/390,625 of 1/16 rpm. -/
def rampStep (ref goal rest : Int) (rate : Nat) : Int × Int :=
  let t := rest + rate * 128
  let n := t / 390625
  if (goal - ref).natAbs ≤ n.natAbs then (goal, 0)
  else (if ref < goal then ref + n else ref - n, t % 390625)

/-- The speed reference of a motor in RAMP, BRAKE and SOFT_BRAKE (R152, R162), and the shuttle's set-point from the move profiler (R142). -/
def pwmRamp (k : Fin 8) : Act Unit := do
  let s ← rd
  let m := s.motors[k]
  let stopping : Bool := m.target == 0
  let target := if k.val < 4 ∨ stopping then m.target else s.moveSpeed k
  let goal := if m.reverse then 0 else target
  let rate := if m.ref.natAbs < goal.natAbs then s.get (F.MOT_RAMP_ACCEL k.val) else s.get (F.MOT_RAMP_DECEL k.val)
  let r := rampStep m.ref goal m.rampRest rate
  emit (.motor k fun m => { m with rampRest := r.2 })
  setRef k r.1
  if 4 ≤ k.val then
    setI (F.SRV_SLOT_SP_SP (k.val % 4 / 2) (baySlot (bayOfMotor k) 19)) (satInt 32 (r.1 * 2 ^ 14))

/-- Loss of synchronism (R156). -/
def syncLost (k : Fin 8) : Act Unit := do
  let s ← rd
  let b := bayOfMotor k
  forAll (opusOf b) retract
  let st := s.bayState b.val
  if st = bREADY ∨ st = bWRITING ∨ st = bREADING then setBay b bSPINNING
  setF (F.MOT_STAT_SYNC_LOST k.val) 1
  raiseMotor k Ev.iSPINDLE_SYNC_LOST
  if s.get (F.MOT_STAT_NO_INDEX k.val) = 1 then encoderFault k
  else
    emit (.motor k fun m => { m with zeroCurrent := true, resync := 0, disagree := 0 })
    setMotor k mtRESYNC

/-- The angle between encoder and observer in 1/65,536 revolution. -/
def State.angleGap (s : State) (k : Fin 8) : Nat :=
  (toSigned 16 (s.get (F.MOT_ANGLE_ENC k.val) + 65536 - s.get (F.MOT_ANGLE_OBS k.val))).natAbs

/-- The plausibility check of a spindle in RAMP, AT_SPEED or BRAKE (R156); a period without the check ends a run of disagreements. -/
def pwmPlausible (k : Fin 8) : Act Unit := do
  let s ← rd
  let st := s.motorState k
  if k.val < 4 ∧ (st = mtRAMP ∨ st = mtAT_SPEED ∨ st = mtBRAKE) ∧ s.observerValid k then
    let off : Bool := decide (16 * s.get (F.MOT_OBS_ANGLE_LIM k.val) < s.angleGap k)
    let n := if off then s.motors[k].disagree + 1 else 0
    emit (.motor k fun m => { m with disagree := n })
    if off ∧ s.get (F.MOT_OBS_TIME k.val) ≤ n then syncLost k
  else emit (.motor k fun m => { m with disagree := 0 })

/-- The reference of R158 shows whether the direction is right: a wrong one exchanges the corrections, a second wrong one is an
encoder fault. -/
def directionShown (k : Fin 8) (ok : Bool) : Act Unit := do
  let s ← rd
  if ok then emit (.motor k fun m => { m with confirm := false, confirmAt := none })
  else if 1 ≤ s.motors[k].corrected then
    emit (.motor k fun m => { m with confirm := false, confirmAt := none })
    encoderFault k
  else
    stopMotor k
    setF (F.MOT_WIRING_ENC_INV k.val) 0
    setF (F.MOT_WIRING_PH_SWAP k.val) 1
    emit (.motor k fun m => { m with corrected := 1, confirmAt := none })
    raiseMotor k Ev.iMOT_WIRING_CORRECTED

/-- The reference of a spindle: the C channel of either OPU LOCKED within 50 ms of focus locked, at S1, in a motion that has not been stopped (R158);
the 50 ms start again when focus is lost or the motion ends. -/
def pwmConfirm (k : Fin 8) : Act Unit := do
  let s ← rd
  let b := bayOfMotor k
  let seen : Bool := (opusOf b).any (fun j => s.get (F.BAY_OPT_STAT_FOCUS_LOCKED j.val) == 1)
  if k.val < 4 ∧ s.motors[k].confirm ∧ seen ∧ s.motors[k].target ≠ 0 ∧ s.motorState k = mtAT_SPEED ∧ s.get (F.BAY_STAT_SPEED b.val) = 0 then
    if (opusOf b).any (fun j => s.spokeState j == spkLOCKED) then directionShown k true
    else
      match s.motors[k].confirmAt with
      | none => emit (.motor k fun m => { m with confirmAt := some s.now })
      | some t => if t + 50000 ≤ s.now then directionShown k false
  else emit (.motor k fun m => { m with confirmAt := none })

/-- A shuttle's MOVE has ended on its target (R153); a positive move that began with the tray closed confirms the direction by its opening (R158). One that
began with the tray open cannot change the sensor, and the confirmation waits for another (DESIGN CHOICE, assumption log 67). -/
def moveDone (k : Fin 8) : Act Unit := do
  let s ← rd
  gatesOff k
  setMotorResult k rDONE
  if s.motors[k].confirm ∧ 0 < s.motors[k].moveTo ∧ s.motors[k].trayAt = 1 then
    directionShown k (s.get (F.BAY_STAT_TRAY_CLOSED (bayOfMotor k).val) == 0)

/-- A STOP that was given in SOFT_BRAKE is answered once the motor is at rest (R163, R165). -/
def stopAnswered (k : Fin 8) : Act Unit := do
  let s ← rd
  if s.motorState k = mtOFF ∧ s.get (F.MOT_STAT_RESULT k.val) = 0 then setMotorResult k rDONE

/-- Steps 1 and 2 of the wiring check (R157): the mean of the shunt samples taken with the gates off is the offset, rounded down; then one active
vector, whose sample shows the shunt's polarity. -/
def pwmCheck (k : Fin 8) (x : PwmSample) : Act Unit := do
  let s ← rd
  let m := s.motors[k]
  if s.motorState k = mtCHECK ∧ m.checkWait ≠ 0 then
    if m.checkWait = 1 then
      if s.shuntCurrent k x.first < 0 ∧ s.get (F.MOT_WIRING_SHUNT_INV k.val) = 0 then
        setF (F.MOT_WIRING_SHUNT_INV k.val) 1
        raiseMotor k Ev.iMOT_WIRING_CORRECTED
    else if m.checkWait = 2 then
      shuntMeasured k (floorDiv (m.checkSum + x.first + x.second) 256)
    emit (.motor k fun m => { m with checkWait := m.checkWait - 1, checkSum := m.checkSum + x.first + x.second, gates := decide (m.checkWait ≤ 2) })

/-- What a state comes to in a period: the end of braking, of a move, of SOFT_BRAKE and of coasting (R148, R153, R162, R163). -/
def pwmState (k : Fin 8) : Act Unit := do
  let s ← rd
  let m := s.motors[k]
  let st := s.motorState k
  if st = mtRAMP ∨ st = mtBRAKE then
    pwmRamp k
    let s ← rd
    let r := s.motors[k].ref
    if m.reverse then
      if (s.geti (F.MOT_SPEED_RPM k.val)).natAbs ≤ 960 then beginHoldZero k
    else if m.target = 0 then
      if r = 0 ∧ m.atRest then stopDone k
    else if 4 ≤ k.val ∧ s.geti (F.MOT_POS_POS k.val) = m.moveTo then moveDone k
    else if st = mtBRAKE ∧ r = (if k.val < 4 then m.target else s.moveSpeed k) then
      if m.caught = false then setMotor k mtRAMP
      else if m.angleRef || s.observerValid k then beginRamp k (s.geti (F.MOT_SPEED_RPM k.val))
      else beginHoldZero k
  else if st = mtSOFT_BRAKE then
    pwmRamp k
    if s.observerValid k = false then
      gatesOff k
      stopAnswered k
  else if st = mtCOAST ∧ m.atRest then
    setMotor k mtOFF
    stopAnswered k
  finishPark (bayOfMotor k)

/-- Whether the currents of a motor's PWM period are due: the next frame of its engine has f mod 8 = 6 (R147). -/
def State.pwmDue (s : State) (k : Fin 8) : Bool := s.get (F.SRV_FRAME_CNT_CNT (k.val % 4 / 2)) % 8 == 6

/-- PWM_PERIOD (R143 to R147, R155, R156): the PWM period of motor `k`, whose currents enter the snapshot of the next frame, the one with f mod 8 = 6;
the compare values of the next period are loaded in the frame after (`pwmLoad`). -/
def execPwmPeriod (k : Fin 8) (x : PwmSample) (s : State) : Answer :=
  answerWhen (s.drivesLive && s.pwmDue k) (do
    pwmEncoder k x
    if s.motors[k].gates ∧ s.motors[k].checkWait = 0 then pwmSamples k x
    pwmObserver k x
    pwmPlausible k
    pwmConfirm k
    pwmCheck k x
    pwmState k
    if k.val < 4 then settleBay (bayOfMotor k)) s

/-- MOT_PHASE_SHORT (R159): the comparator sees more than I_TRIP while the gates are on. -/
def execMotPhaseShort (k : Fin 8) (s : State) : Answer :=
  answerWhen s.drivesLive (do if s.motors[k].gates then latchMotor k (F.MOT_STAT_SHORT k.val) 0) s

/-! ### Starts: the ends of their phases (R153, R157) -/

/-- CATCH_WINDOW_END (R153): the first matching row of the start decision table. -/
def execCatchWindowEnd (k : Fin 8) (s : State) : Answer :=
  answerWhen s.drivesLive (do
    if s.motorState k = mtCATCH then
      if s.motors[k].stopLater then emit (.motor k fun m => { m with target := 0, stopLater := false })
      let s ← rd
      let m := s.motors[k]
      let speed := s.geti (F.MOT_SPEED_RPM k.val)
      let w := if m.target < 0 then -speed else speed
      let angle : Bool := m.angleRef || s.observerValid k
      if m.catchCounts.natAbs < 2 then
        if s.get (F.MOT_OBS_BEMF_MIN k.val) * 2 ^ 23 ≤ m.bemf then encoderFault k
        else if m.target = 0 then stopDone k
        else startFromRest k
      else if 0 ≤ w ∧ w ≤ m.target.natAbs then
        if angle then beginRamp k speed else beginHoldZero k
      else if 0 ≤ w then
        emit (.motor k fun m => { m with zeroCurrent := false, caught := true, rampRest := 0 })
        setRef k speed
        setMotor k mtBRAKE
      else if w.natAbs ≤ 960 then beginHoldZero k
      else
        emit (.motor k fun m => { m with zeroCurrent := false, rampRest := 0, reverse := true })
        setRef k speed
        setMotor k mtBRAKE) s

/-- HOLD_ZERO_END (R153): the electrical angle is set to the field angle, 0, and the start goes on. -/
def execHoldZeroEnd (k : Fin 8) (s : State) : Answer :=
  answerWhen s.drivesLive (do
    if s.motorState k = mtHOLD_ZERO ∧ s.motors[k].atRest then
      setF (F.MOT_ANGLE_ENC k.val) 0
      emit (.motor k fun m => { m with angleRef := true, peakAngle := 0 })
      if s.motors[k].target = 0 then stopDone k else startFromRest k) s

/-- REVERSE_BRAKE_TIMEOUT (row 7 of R153). -/
def execReverseBrakeTimeout (k : Fin 8) (s : State) : Answer :=
  answerWhen s.drivesLive (do
    if s.motorState k = mtBRAKE ∧ s.motors[k].reverse then
      emit (.motor k fun m => { m with reverse := false })
      gatesOff k
      setF (F.MOT_STAT_REVERSE_NOT_STOPPED k.val) 1
      setMotorResult k rFAILED
      raiseMotor k Ev.iREVERSE_NOT_STOPPED) s

/-- The angle of the first index after a wiring check is taken as INDEX_OFS (R157 step 4, R161). -/
def recordIndex (k : Fin 8) (angle : Nat) : Act Unit := do
  let s ← rd
  if s.motors[k].indexDue then
    setF (F.MOT_WIRING_INDEX_OFS k.val) angle
    setF (F.MOT_WIRING_OFS_VALID k.val) 1
    emit (.motor k fun m => { m with indexDue := false })

/-- The last field step of the wiring check has ended (R157, R158, R159). -/
def checkDone (k : Fin 8) : Act Unit := do
  let s ← rd
  let m := s.motors[k]
  if m.checkAbs = 0 then encoderFault k
  else
    if m.checkMove < 0 ∧ s.get (F.MOT_WIRING_ENC_INV k.val) = 0 then
      setF (F.MOT_WIRING_ENC_INV k.val) 1
      emit (.motor k fun m => { m with confirm := true, confirmAt := none })
      raiseMotor k Ev.iMOT_WIRING_CORRECTED
    setF (F.MOT_WIRING_CHECKED k.val) 1
    if m.starting then startFromRest k
    else
      gatesOff k
      setMotorResult k rDONE

/-- WIRING_STEP_END (R157): a field step of 100 ms has ended, steps 1 and 2 having gone before. -/
def execWiringStepEnd (k : Fin 8) (x : WiringStep) (s : State) : Answer :=
  answerWhen s.drivesLive (do
    if s.motorState k = mtCHECK ∧ s.motors[k].checkWait = 0 then
      let n := s.motors[k].checkStep
      match x.index with
      | some a => recordIndex k a
      | none => pure ()
      if x.phaseU < 20 ∨ x.phaseV < 20 ∨ x.phaseW < 20 then latchMotor k (F.MOT_STAT_OPEN k.val) 1
      else
        emit (.motor k fun m => { m with checkStep := n + 1, gates := true
                                         checkMove := if n = 0 then 0 else m.checkMove + x.counts
                                         checkAbs := if n = 0 then 0 else m.checkAbs + x.counts.natAbs })
        if 3 ≤ n then checkDone k) s

/-! ### Index pulses and resynchronisation (R156, R159, R161) -/

/-- The motor is back under control after a resynchronisation, at its present speed; a STOP that waits takes effect (R163). -/
def resyncDone (k : Fin 8) : Act Unit := do
  let s ← rd
  let later := s.motors[k].stopLater
  beginRamp k (s.geti (F.MOT_SPEED_RPM k.val))
  if later then
    emit (.motor k fun m => { m with stopLater := false })
    stopMotor k

/-- ENCODER_INDEX (R156, R159, R161). -/
def execEncoderIndex (k : Fin 8) (s : State) : Answer :=
  answerWhen s.drivesLive (do
    let m := s.motors[k]
    let cpr : Int := countsPerRev k
    let p := s.geti (F.MOT_POS_POS k.val)
    if m.indexSeen = false then
      emit (.motor k fun m => { m with indexSeen := true, indexCount := if k.val < 4 then 0 else p % 2048 })
      if k.val < 4 then setI (F.MOT_POS_POS k.val) 0
    else
      let d := (p - m.indexCount + cpr / 2) % cpr - cpr / 2
      if 2 < d.natAbs then
        setI (F.MOT_POS_POS k.val) (if k.val < 4 then (p - d) % 16384 else p - d)
        raiseMotor k Ev.iMOT_INDEX 1
    emit (.motor k fun m => { m with sinceIndex := 0 })
    if s.get (F.MOT_WIRING_CHECKED k.val) = 1 then recordIndex k (s.get (F.MOT_ANGLE_ENC k.val))
    let s ← rd
    if s.get (F.MOT_WIRING_OFS_VALID k.val) = 1 then
      setF (F.MOT_ANGLE_ENC k.val) (s.get (F.MOT_WIRING_INDEX_OFS k.val))
      emit (.motor k fun m => { m with angleRef := true })
    if s.motorState k = mtRESYNC then
      emit (.motor k fun m => { m with resync := m.resync + 1 })
      let s ← rd
      if s.angleGap k ≤ 16 * s.get (F.MOT_OBS_ANGLE_LIM k.val) then resyncDone k
      else if 3 ≤ s.motors[k].resync then encoderFault k) s

/-- INDEX_MISSING (R159): no index in 2 revolutions of counts. -/
def execIndexMissing (k : Fin 8) (s : State) : Answer :=
  answerWhen s.drivesLive (do
    if s.get (F.MOT_STAT_NO_INDEX k.val) = 0 ∧ 2 * countsPerRev k ≤ s.motors[k].sinceIndex then
      setF (F.MOT_STAT_NO_INDEX k.val) 1
      raiseMotor k Ev.iMOT_INDEX 0) s

/-- RESYNC_TIMEOUT (R156): no index within three revolutions after loss of synchronism. -/
def execResyncTimeout (k : Fin 8) (s : State) : Answer :=
  answerWhen s.drivesLive (do if s.motorState k = mtRESYNC then encoderFault k) s

/-! ### Spindle sample events (R151) -/

/-- A sample event from the encoder: (ω − ω_ref) ÷ ω_N × 16, and no phase error (R151). -/
def encoderSample (b : Fin 4) (speed : Int) : Act Unit := do
  let s ← rd
  let m := s.motors[spindleOf b]
  let n := if m.target = 0 then nominalSpeed 0 else nominalSpeed (s.get (F.BAY_STAT_SPEED b.val))
  motorSample b (quotient31 (16 * (speed - m.ref)) n) 0 false

/-- Every 16th encoder count. Accepted spokes in AT_SPEED serve instead, while one has come since the event before (R151; that interval is a DESIGN
CHOICE, assumption log 67). -/
def encoderEvent (b : Fin 4) (speed : Int) : Act Unit := do
  let s ← rd
  let k := spindleOf b
  let from_ := if s.bays[b].spindleFromB then opuBottom b else opuTop b
  if s.motorState k ≠ mtAT_SPEED ∨ s.spokes[from_].sampleValid = false ∨ 1 ≤ s.motors[k].spokeAge then encoderSample b speed
  emit (.motor k fun m => { m with spokeAge := m.spokeAge + 1 })

/-- SPINDLE_ENCODER_EVENT (R151): every 16th encoder count. -/
def execSpindleEncoderEvent (b : Fin 4) (speed : Int) (s : State) : Answer := answerWhen s.drivesLive (encoderEvent b speed) s

/-- SPINDLE_TIMED_EVENT (R151): 1,024 frames without another event. -/
def execSpindleTimedEvent (b : Fin 4) (speed : Int) (s : State) : Answer := answerWhen s.drivesLive (encoderSample b speed) s

end Sys2Proof.Machine
end

