-- ==== Sys2Proof/Machine/StepAxes.lean ====
section
/-! DEFINITION. Step axes: moves, pairs, pause and stop, homing, the ends of moves and seeks, limits and driver faults (R167 to
R185), and the sensors of a bay (R533, R573). -/

namespace Sys2Proof.Machine

/-- STEP_CMD_REJECT with a result (R184). -/
def stepRefuse (a : Fin 16) (r : Nat) : Act Unit := do
  setF (F.STP_STAT_RESULT a.val) r
  raiseAxis a Ev.iCMD_REJECT 2

/-- Whether an axis takes no command: not enabled, or its driver has failed (R183, R184). -/
def State.axisShut (s : State) (a : Fin 16) : Bool :=
  s.get (F.STP_CTL_ENABLE a.val) == 0 || s.get (F.STP_STAT_DRV_FAULT a.val) == 1

/-- Whether a target lies within the limits of an axis (R168). -/
def State.axisReach (s : State) (a : Fin 16) (p : Int) : Bool :=
  decide (s.geti (F.STP_LIM_LO_LIM a.val) ≤ p) && decide (p ≤ s.geti (F.STP_LIM_HI_LIM a.val))

/-- Homing begins: inward at HOME_V, ramped from V_START at A_ACC, into the end stop (R180). -/
def beginHome (a : Fin 16) : Act Unit := do
  let s ← rd
  setF (F.STP_STAT_STATE a.val) axHOMING
  let d := (s.geti (F.STP_LIM_HI_LIM a.val) - s.geti (F.STP_LIM_LO_LIM a.val) + s.get (F.STP_HOME_HOME_OVER a.val)).natAbs
  let vs := s.get (F.STP_VSS_V_START a.val)
  let v := max vs (s.get (F.STP_HOME_HOME_V a.val))
  setDirection a (-1)
  emit (.axis a fun x => { x with start := s.axisPos a, elapsed := 0, homing := false
                                  profile := some ⟨d, vs, v, v, s.get (F.STP_ACC_A_ACC a.val) * 1000, s.get (F.STP_ACC_A_DEC a.val) * 1000⟩ })

/-- The track whose position a sled's target is: TARGET_TRACK, or else the nearest one (R168). -/
def State.trackAt (s : State) (k : Fin 8) (p : Int) : Option Nat :=
  let a := sledOf k
  let t := s.get (F.BAY_OPT_TARGET_TRACK k.val)
  let n := floorDiv ((p - s.get (F.STP_HOME_OFS_OFS a.val)) * 750 + 64) 128
  if s.trackPos a t = p then some t else if 0 ≤ n ∧ n < 212992 then some n.toNat else none

/-- A move of a sled to the position of a track is a seek, whose landing is checked (R177, R178), where the OPU's focus is locked: without it no
spoke can be read (DESIGN CHOICE, assumption log 27). -/
def seekTo (a : Fin 16) (target : Int) : Act Unit := do
  let s ← rd
  let k := opuOfSled a
  if a.val % 4 < 2 then
    emit (.axis a fun x => { x with seek := if s.get (F.BAY_OPT_STAT_FOCUS_LOCKED k.val) = 1 then s.trackAt k target else none })

/-- MOVE (R173, R184); the auxiliary axis homes before its first move (R179). -/
def moveAxis (a : Fin 16) (target : Int) (blend : Bool) : Act Unit := do
  let s ← rd
  setI (F.STP_TARGET_POS a.val) target
  setF (F.STP_CMD_BLEND a.val) blend.toNat
  if s.axisShut a ∨ s.axisReach a target = false then stepRefuse a rINVALID
  else if 8 ≤ s.axes[a].queue.length then stepRefuse a rBUSY
  else
    setF (F.STP_STAT_RESULT a.val) 0
    seekTo a target
    if a.val % 4 = 3 ∧ s.get (F.STP_STAT_HOMED a.val) = 0 ∧ s.axisState a = axIDLE then beginHome a
    appendMove a { target := target, blend := blend }

/-- MOVE_PAIR, written to AX_4b (R175, R184). -/
def movePair (a : Fin 16) (top bottom : Int) (blend : Bool) : Act Unit := do
  let s ← rd
  let o := otherSled a
  setI (F.STP_TARGET_POS a.val) top
  setF (F.STP_CMD_BLEND a.val) blend.toNat
  if a.val % 4 ≠ 0 ∨ s.axisShut a ∨ s.axisShut o ∨ s.axisReach a top = false ∨ s.axisReach o bottom = false then
    stepRefuse a rINVALID
  else if 8 ≤ s.axes[a].queue.length ∨ 8 ≤ s.axes[o].queue.length then stepRefuse a rBUSY
  else
    setI (F.STP_TARGET_POS o.val) bottom
    setF (F.STP_STAT_RESULT a.val) 0
    setF (F.STP_STAT_RESULT o.val) 0
    seekTo a top
    seekTo o bottom
    emit (.axis a fun x => { x with queue := x.queue ++ [{ target := top, blend := blend, pair := true }] })
    emit (.axis o fun x => { x with queue := x.queue ++ [{ target := bottom, blend := blend, pair := true }] })
    replan a
    replan o
    showQueue a
    showQueue o
    startPair a none

/-- The next move of an axis that has ended one, at the speed of a blended junction (R174); a seek begins to settle (R178). -/
def nextMove (a : Fin 16) (junction : Option Nat) : Act Unit := do
  let s ← rd
  match s.axes[a].queue with
  | [] =>
    if s.axes[a].seek.isSome then
      setF (F.STP_STAT_STATE a.val) axSETTLE
      emit (.axis a fun x => { x with profile := none, settleAt := s.now })
    else
      setF (F.STP_STAT_STATE a.val) axIDLE
      setF (F.STP_STAT_RESULT a.val) rDONE
      emit (.axis a fun x => { x with profile := none })
    showQueue a
    startPair a none
    finishPark (bayOfAxis a)
  | m :: _ =>
    if m.pair then
      setF (F.STP_STAT_STATE a.val) axIDLE
      showQueue a
      startPair a junction
    else startMove a (junction.getD (s.get (F.STP_VSS_V_START a.val)))

/-- Whether both sleds of an axis's bay execute a pair move, or are paused in it (R175). -/
def State.inPair (s : State) (a : Fin 16) : Bool :=
  let o := otherSled a
  decide (a.val % 4 < 2) && s.pairHead a && s.pairHead o &&
  (s.axisState a == axRUN || (s.axisState a == axPAUSED && !s.axes[a].homing)) && s.axisState o == s.axisState a

/-- What an axis that decelerates from now on has left of its move (R176). -/
def State.leftOver (s : State) (a : Fin 16) : Int := s.axes[a].start + s.axisCourse a - s.stopPoint a

/-- One axis decelerates and pauses: its queue and the distance left are kept, but not a move that has ended (R176). -/
def pauseOne (a : Fin 16) (ended : Bool) : Act Unit := do
  let s ← rd
  let rest := s.stopPoint a
  let left := s.leftOver a
  setF (F.STP_STAT_STATE a.val) axPAUSED
  setF (F.STP_STAT_RESULT a.val) rDONE
  emit (.axis a fun x => { x with profile := none, homing := s.axisState a == axHOMING, queue := if ended then x.queue.tail else x.queue })
  stepTo a rest
  showQueue a
  setI (F.STP_REMAIN_DIST a.val) (if s.axisRuns a then left else 0)

/-- PAUSE (R175, R176): refused in IDLE and PAUSED. -/
def pauseAxis (a : Fin 16) : Act Unit := do
  let s ← rd
  if s.axisShut a ∨ s.axisState a = axIDLE ∨ s.axisState a = axPAUSED then stepRefuse a rINVALID
  else
    let o := otherSled a
    let pair := s.inPair a
    let ended : Bool := s.axisState a == axRUN && s.leftOver a == 0 && (!pair || s.leftOver o == 0)
    pauseOne a ended
    if pair then pauseOne o ended

/-- RESUME (R176): a paused HOME goes on, a move goes on from rest to its target, and with none left the axis has ended its moves. -/
def resumeAxis (a : Fin 16) : Act Unit := do
  let s ← rd
  if s.axisShut a ∨ s.axisState a ≠ axPAUSED then stepRefuse a rINVALID
  else
    setF (F.STP_STAT_RESULT a.val) 0
    if s.axes[a].homing then beginHome a
    else
      setF (F.STP_STAT_STATE a.val) axIDLE
      if s.pairHead a ∧ s.axisState (otherSled a) = axPAUSED then setF (F.STP_STAT_STATE (otherSled a).val) axIDLE
      nextMove a none

/-- STOP (R175, R176): the axis decelerates to rest and its queue is cleared. -/
def stopAxis (a : Fin 16) : Act Unit := do
  let s ← rd
  if s.axisShut a then stepRefuse a rINVALID
  else
    let pair := s.inPair a
    haltAxis a rDONE
    if pair then haltAxis (otherSled a) rDONE

/-- The axis decelerates to rest and keeps its queue (R176); one that settles or lands has ended its seek. -/
def restAxis (a : Fin 16) : Act Unit := do
  let s ← rd
  stepTo a (s.stopPoint a)
  setF (F.STP_STAT_STATE a.val) axIDLE
  emit (.axis a fun x => { x with profile := none, seek := if x.queue.isEmpty then none else x.seek })
  showQueue a

/-- HOME (R180): from rest, to which a move decelerates; the queue is kept and goes on afterwards (DESIGN CHOICE, assumption log 27). -/
def homeAxis (a : Fin 16) : Act Unit := do
  let s ← rd
  if s.axisShut a then stepRefuse a rINVALID
  else
    setF (F.STP_STAT_RESULT a.val) 0
    if s.axisState a ≠ axHOMING then
      if s.inPair a then restAxis (otherSled a)
      restAxis a
      beginHome a

/-- A write of STP_k_CMD (R184): targets from the TARGET registers. -/
def writeStpCmd (a : Fin 16) (cmd : Nat) (blend : Bool) : Act Unit := do
  let s ← rd
  let target := s.geti (F.STP_TARGET_POS a.val)
  match cmd with
  | 1 => moveAxis a target blend
  | 2 => movePair a target (s.geti (F.STP_TARGET_POS (otherSled a).val)) blend
  | 3 => pauseAxis a
  | 4 => resumeAxis a
  | 5 => stopAxis a
  | 6 => homeAxis a
  | _ => stepRefuse a rINVALID

/-- STP_MOVE (R173). -/
def execStpMove (a : Fin 16) (target : Int) (blend : Bool) (s : State) : Answer := answerWhen s.drivesTake (moveAxis a target blend) s

/-- STP_MOVE_PAIR (R175). -/
def execStpMovePair (b : Fin 4) (top bottom : Int) (blend : Bool) (s : State) : Answer :=
  answerWhen s.drivesTake (movePair (axisOf b 0) top bottom blend) s

/-- STP_PAUSE (R176). -/
def execStpPause (a : Fin 16) (s : State) : Answer := answerWhen s.drivesLive (pauseAxis a) s

/-- STP_RESUME (R176). -/
def execStpResume (a : Fin 16) (s : State) : Answer := answerWhen s.drivesTake (resumeAxis a) s

/-- STP_STOP (R176). -/
def execStpStop (a : Fin 16) (s : State) : Answer := answerWhen s.drivesLive (stopAxis a) s

/-- STP_HOME (R180). -/
def execStpHome (a : Fin 16) (s : State) : Answer := answerWhen s.drivesTake (homeAxis a) s

/-- STEP_LIMIT (R168): correction steps stop at a limit that the correction pushes beyond. -/
def execStepLimit (a : Fin 16) (s : State) : Answer :=
  answerWhen s.drivesLive (do
    let p := s.axisPos a
    if (p = s.geti (F.STP_LIM_HI_LIM a.val) ∧ 0 < s.axes[a].corr) ∨
        (p = s.geti (F.STP_LIM_LO_LIM a.val) ∧ s.axes[a].corr < 0) then
      setF (F.STP_STAT_LIMIT a.val) 1
      raiseAxis a Ev.iSTEP_LIMIT) s

/-! ### The ends of moves (R172, R178 to R181) -/

/-- The clamp lift has ended a move without its sensor: it homes and repeats the move once, and a second failure is a stall
(R179). -/
def clampMissed (a : Fin 16) (m : Move) (up : Bool) : Act Unit := do
  let s ← rd
  if s.axes[a].repeated.isSome then
    clearAxis a axIDLE rFAILED
    raiseAxis a Ev.iSTEP_STALL
    parkToFaulted (bayOfAxis a)
  else
    emit (.axis a fun x => { x with queue := m :: x.queue, repeated := some up })
    showQueue a
    beginHome a

/-- The executing move of an axis has reached its target (R172). -/
def endMove (a : Fin 16) (m : Move) (rest : List Move) : Act Unit := do
  let s ← rd
  let up : Bool := s.axes[a].repeated.getD (decide (s.axes[a].start < m.target))
  let clamped : Bool := s.get (F.BAY_STAT_CLAMPED (bayOfAxis a).val) == 1
  let missed : Bool := a.val % 4 == 2 && (decide (s.axes[a].start ≠ m.target) || s.axes[a].repeated.isSome) && (if up then clamped else !clamped)
  let junction := match rest with
    | n :: _ => if blends s.axes[a].start m.target n.target m n then s.axes[a].profile.map Profile.ve else none
    | [] => none
  stepTo a m.target
  if m.park then setI (F.STP_POS_POS a.val) 0
  emit (.axis a fun x => { x with queue := rest, start := if m.park then 0 else m.target, frac := 0 })
  if missed then clampMissed a m up
  else
    emit (.axis a fun x => { x with repeated := none })
    nextMove a junction

/-- MOVE_END (R172, R178, R180): a move has reached its target, or homing its end stop. -/
def execMoveEnd (a : Fin 16) (s : State) : Answer :=
  answerWhen s.drivesLive (do
    if s.axisState a = axHOMING then
      stepTo a (s.axes[a].start + s.axisCourse a)
      setI (F.STP_POS_POS a.val) 0
      setF (F.STP_STAT_HOMED a.val) 1
      setF (F.STP_STAT_STATE a.val) axIDLE
      emit (.axis a fun x => { x with start := 0, frac := 0 })
      nextMove a none
    else if s.axisState a = axRUN then
      let other := otherSled a
      let pair := s.pairHead a && a.val % 4 < 2
      match s.axes[a].queue with
      | [] => setF (F.STP_STAT_STATE a.val) axIDLE
      | m :: ms =>
        endMove a m ms
        match pair, s.axes[other].queue with
        | true, n :: ns => if s.axisState other = axRUN ∧ n.pair then endMove other n ns
        | _, _ => pure ()) s

/-- SETTLE_EXPIRY (R178): the landing check begins. -/
def execSettleExpiry (a : Fin 16) (s : State) : Answer :=
  answerWhen s.drivesLive (do
    if s.axisState a = axSETTLE then
      setF (F.STP_STAT_STATE a.val) axLANDING
      emit (.axis a fun x => { x with seen := 0, agree := 0, last := none })) s

/-! ### Driver faults (R176, R182, R183) -/

/-- STEP_DRV_FAULT (R182). -/
def execStepDrvFault (a : Fin 16) (s : State) : Answer :=
  answerWhen s.drivesLive (do
    if s.get (F.STP_STAT_DRV_FAULT a.val) = 0 then
      let pair := s.inPair a
      emit (.axis a fun x => { x with corr := 0, frac := 0 })
      clearAxis a axFAULT rFAILED
      setF (F.STP_STAT_DRV_FAULT a.val) 1
      if pair then clearAxis (otherSled a) axIDLE rFAILED
      raiseAxis a Ev.iSTEP_DRV_FAULT
      if a.val % 4 < 3 then
        forAll (opusOf (bayOfAxis a)) retract
        setBay (bayOfAxis a) bFAULTED) s

/-! ### Bay sensors (R533, R573) -/

/-- A sensor whose last three samples agree takes their value; the field follows it. -/
def takeSensor (f : Fld) (l : List Bool) : Act Unit :=
  match l with
  | [x, y, z] => doWhen (x = y ∧ y = z) (setF f x.toNat)
  | _ => pure ()

/-- BAY_SENSOR_SAMPLE (R533, R573): a state is taken after three agreeing samples. A bay at rest is LOADED while a disc is
clamped and EMPTY otherwise (R46). -/
def execBaySensorSample (b : Fin 4) (x : BaySensors) (s : State) : Answer :=
  answerWhen s.awake (do
    emit (.bay b fun y => { y with samples := (x :: y.samples).take 3 })
    let l := (x :: s.bays[b].samples).take 3
    takeSensor (F.BAY_STAT_DISC_PRESENT b.val) (l.map BaySensors.disc)
    takeSensor (F.BAY_STAT_TRAY_CLOSED b.val) (l.map BaySensors.trayClosed)
    takeSensor (F.BAY_STAT_CLAMPED b.val) (l.map BaySensors.clamped)
    takeSensor (F.BAY_STAT_DOOR_CLOSED b.val) (l.map BaySensors.doorClosed)
    let s ← rd
    let clamped : Bool := s.get (F.BAY_STAT_CLAMPED b.val) == 1
    if s.bayState b.val = bEMPTY ∧ clamped ∧ s.get (F.BAY_STAT_DISC_PRESENT b.val) = 1 ∧ mBRINGUP ≤ s.mode then setBay b bLOADED
    else if s.bayState b.val = bLOADED ∧ clamped = false then setBay b bEMPTY) s

end Sys2Proof.Machine
end

