-- ==== Sys2Proof/Machine/ReadFrontEnd.lean ====
section
/-! DEFINITION. RF inputs and read lanes: gain, polarity, missing signals, held changes, frames, lane binding, trials and takeovers, and the spokes that the
lanes wait for (R186 to R213, R554). -/

namespace Sys2Proof.Machine

/-! ### Elements -/

/-- The OPU of an input, and its spot: 0 I, 1 C, 2 O, 3 T (R186). -/
def opuOfInput (i : Nat) : Fin 8 := Fin.ofNat 8 (i / 4)

/-- Raises an event of an input or a lane in group 12 (R213, R535). -/
def raiseRf (i inst : Nat) : Act Unit := raise (Ev.rf i) 0 inst

abbrev rfCFG_REJECT : Nat := 0
abbrev rfSUB_REPLACED : Nat := 1
abbrev rfSUB_DEGRADED : Nat := 2
abbrev rfCLIP : Nat := 3
abbrev rfINVERTED : Nat := 4
abbrev rfNO_SIGNAL : Nat := 5
abbrev rfLANE_FAILED : Nat := 6
abbrev rfLANE_TAKEOVER : Nat := 7
abbrev rfLANE_SPARES_EXHAUSTED : Nat := 8
abbrev rfLANE_CFG_REJECT : Nat := 9

def laneList : List (Fin 36) := List.finRange 36

def State.laneInput (s : State) (n : Nat) : Nat := s.get (F.RCH_LANE_BIND_INPUT n)

/-- The lane bound to an input (R205). -/
def State.laneOf (s : State) (i : Nat) : Option (Fin 36) :=
  laneList.find? (fun n => s.get (F.RCH_LANE_BIND_ENABLE n.val) == 1 && s.laneInput n.val == i)

/-- The free lanes in ascending order: not enabled, not FAILED, not kept by a trial (R205, R208). -/
def State.freeLanes (s : State) : List (Fin 36) :=
  laneList.filter (fun n => s.get (F.RCH_LANE_BIND_ENABLE n.val) == 0 && s.get (F.RCH_LANE_STAT_FAILED n.val) == 0 &&
    s.get (F.RCH_LANE_STAT_TRIAL n.val) == 0)

/-- The inputs that wait for a free lane, each with the time since when. -/
def State.waitingInputs (s : State) : List (Nat × Nat) :=
  (List.finRange 32).filterMap (fun i =>
    match s.inputs[i].next with
    | none => none
    | some (.back, _) => none
    | some (_, t) => some (t, i.val))

/-- The lane that an input takes which has waited since `t`: the lowest free one, after those that have waited longer, and of one time those of lower
number (R207, R211). -/
def State.laneFor (s : State) (i t : Nat) : Option (Fin 36) :=
  s.freeLanes[(s.waitingInputs.filter (fun w => decide (w.1 < t) || (w.1 == t && decide (w.2 < i)))).length]?

/-- BOUND and LANE of an input's status follow the bindings (R212). -/
def showBound (i : Nat) : Act Unit := do
  let s ← rd
  match s.laneOf i with
  | some n =>
    setF (F.RCH_IN_STAT_BOUND i) 1
    setF (F.RCH_IN_STAT_LANE i) n.val
  | none =>
    setF (F.RCH_IN_STAT_BOUND i) 0
    setF (F.RCH_IN_STAT_LANE i) 0

/-- Binds lane n to an input: it starts from f = 0 (R207). -/
def bindLane (n : Fin 36) (i : Nat) : Act Unit := do
  setF (F.RCH_LANE_BIND_INPUT n.val) i
  setF (F.RCH_LANE_BIND_ENABLE n.val) 1
  setF (F.RCH_LANE_FREQ_FREQ n.val) 0
  setF (F.RCH_LANE_STAT_STATE n.val) 1
  emit (.lane n fun _ => {})
  showBound i

/-- The state of a bound lane is cleared; its binding stays (R210). -/
def clearLane (n : Fin 36) : Act Unit := do
  setF (F.RCH_LANE_FREQ_FREQ n.val) 0
  setF (F.RCH_LANE_STAT_STATE n.val) 1
  setF (F.RCH_LANE_STAT_TIMING_LIMIT n.val) 0
  setF (F.RCH_LANE_STAT_LAST_SCORE n.val) 0
  forAll (List.range 8) (fun j => do
    setF (F.RCH_LANE_TAPS_EVEN n.val j) 0
    setF (F.RCH_LANE_TAPS_ODD n.val j) 0)
  emit (.lane n fun _ => {})

/-- Unbinds a lane. -/
def unbindLane (n : Fin 36) : Act Unit := do
  let i ← getF (F.RCH_LANE_BIND_INPUT n.val)
  setF (F.RCH_LANE_BIND_ENABLE n.val) 0
  setF (F.RCH_LANE_STAT_STATE n.val) 0
  showBound i

/-- Whether a lane runs: no data lane in SEARCH or CONFIRM, the T lane too (R86, R198, R238). -/
def State.laneRuns (s : State) (n : Fin 36) : Bool :=
  let i := s.laneInput n.val
  let k := opuOfInput i
  let st := s.spokeState k
  s.get (F.RCH_LANE_BIND_ENABLE n.val) == 1 && (st == spkLOCKED || st == spkCOAST) &&
  (if i % 4 = 3 then s.writers[k].tLane
   else s.bayState (bayOf k).val == bREADING && !s.optics[k].gate && s.get F.LDP_CTL_ENABLE == 1)

/-! ### Reading with a spot unbound (R209, R229) -/

/-- An I, C or O input of an OPU is left unbound: reduced reading. -/
def reducedRead (k : Fin 8) (spot : Nat) : Act Unit := do
  if spot < 3 then
    let u ← getF (F.RCH_JD_STAT_UNBOUND k.val)
    setF (F.RCH_JD_STAT_UNBOUND k.val) (setBit u spot true)
    setF (F.RCH_JD_STAT_MODE k.val) 2
    raise (Ev.ldp 1) 0 k.val

/-! ### Held changes (R189) -/

/-- One held change takes effect. -/
def applyChange (i : Nat) (c : HeldChange) : Act Unit :=
  match c with
  | .map v => setF (F.RCH_IN_MAP_MAP i) v
  | .sub v => do
    setF (F.RCH_IN_SUB_FAILED i) (bitsOf v 0 10)
    setF (F.RCH_IN_SUB_SHADOW_A i) (bitsOf v 16 3)
    setF (F.RCH_IN_SUB_SHADOW_B i) (bitsOf v 20 3)
  | .trim j v => do
    setF (F.RCH_IN_TRIM_OFFSET i j) (bitsOf v 0 8)
    setF (F.RCH_IN_TRIM_GAIN i j) (bitsOf v 8 12)
    setF (F.RCH_IN_TRIM_SKEW i j) (bitsOf v 20 12)
  | .polarity b => setF (F.RCH_IN_CTL_POL_INV i) b.toNat
  | .pga v => do
    setF (F.RCH_IN_GAIN_PGA i) v
    let s ← rd
    emit (.input (Fin.ofNat 32 i) fun y => { y with pga := y.pga.set (Fin.ofNat 8 (s.optLayer (opuOfInput i))).val v (Fin.isLt _) })

/-- All held changes of an input take effect together. -/
def applyHeld (i : Fin 32) : Act Unit := do
  let s ← rd
  forAll s.inputs[i].held (applyChange i.val)
  emit (.input i fun x => { x with held := [] })

/-- A change of an input is held, or takes effect at once when no running lane is bound to the input and none waits to be bound (R189, R211). -/
def holdChange (i : Fin 32) (c : HeldChange) : Act Unit := do
  emit (.input i fun x => { x with held := x.held ++ [c] })
  let s ← rd
  match s.laneOf i.val with
  | some n => if s.laneRuns n = false then applyHeld i
  | none => if s.inputs[i].next.isNone then applyHeld i

/-- MAP and POL_INV of an input once what is held has taken effect. -/
def State.heldMap (s : State) (i : Fin 32) : Nat :=
  s.inputs[i].held.foldl (fun v c => match c with
    | .map w => w
    | _ => v) (s.get (F.RCH_IN_MAP_MAP i.val))

/-- A trim of an input once what is held has taken effect: OFFSET, GAIN and SKEW as the register holds them. -/
def State.heldTrim (s : State) (i : Fin 32) (j : Nat) : Nat :=
  s.inputs[i].held.foldl (fun v c => match c with
    | .trim n w => if n = j then w else v
    | _ => v) (s.get (F.RCH_IN_TRIM_OFFSET i.val j) + s.get (F.RCH_IN_TRIM_GAIN i.val j) * 2 ^ 8 + s.get (F.RCH_IN_TRIM_SKEW i.val j) * 2 ^ 20)

def State.heldPolarity (s : State) (i : Fin 32) : Bool :=
  s.inputs[i].held.foldl (fun v c => match c with
    | .polarity w => w
    | _ => v) (s.get (F.RCH_IN_CTL_POL_INV i.val) == 1)

/-- HELD_INPUT_CHANGE_APPLY (R189): every lane bound to the input is suspended or stopped. -/
def execHeldInputChangeApply (i : Fin 32) (s : State) : Answer :=
  answerWhen s.channelsLive (do
    match s.laneOf i.val with
    | some n => if s.laneRuns n then setF (F.RCH_LANE_STAT_STATE n.val) 3
    | none => pure ()
    applyHeld i) s

/-- RF_CFG_REJECT with the input's CFG_REJECT flag. -/
def inputReject (i : Fin 32) : Act Unit := do
  setF (F.RCH_IN_STAT_CFG_REJECT i.val) 1
  raiseRf rfCFG_REJECT i.val

/-- Whether a map names a sub-ADC twice, one whose FAILED bit is set, or one that does not exist (R189). -/
def badMap (failed v : Nat) : Bool :=
  let l := (List.range 8).map (fun p => bitsOf v (4 * p) 4)
  !decide l.Nodup || l.any (fun j => decide (9 < j) || bitAt failed j)

/-- A write to a register of input `i`: 0 CTL, 1 MAP, 2 SUB, 3 + j TRIM_j (R189, R212, R579). -/
def writeInput (i : Fin 32) (reg v : Nat) : Act Unit := do
  let s ← rd
  match reg with
  | 0 =>
    let target := bitsOf v 4 8
    let rate := bitsOf v 12 4
    if target ≠ s.get (F.RCH_IN_CTL_AGC_TARGET i.val) ∨ rate ≠ s.get (F.RCH_IN_CTL_AGC_RATE i.val) then
      if s.get (F.RCH_IN_CTL_ENABLE i.val) = 1 ∨ target < 16 ∨ rate < 1 then inputReject i
      else
        setF (F.RCH_IN_CTL_AGC_TARGET i.val) target
        setF (F.RCH_IN_CTL_AGC_RATE i.val) rate
    setF (F.RCH_IN_CTL_ENABLE i.val) (bitsOf v 0 1)
    setF (F.RCH_IN_CTL_AGC_HOLD i.val) (bitsOf v 1 1)
    if bitAt v 2 ≠ s.heldPolarity i then holdChange i (.polarity (bitAt v 2))
  | 1 => if badMap (s.get (F.RCH_IN_SUB_FAILED i.val)) v then inputReject i else holdChange i (.map v)
  | 2 => holdChange i (.sub v)
  | n =>
    abortCal (fun r => decide (r.kind < 3) && r.elem == 16 * i.val + (n - 3))
    holdChange i (.trim (n - 3) v)

/-- RCH_INPUT_CONFIG_WRITE (R189): `reg` as `writeInput` numbers it. -/
def execRchInputConfigWrite (m : Master) (i : Fin 32) (reg : Fin 13) (v : Word) (s : State) : Answer :=
  answer (do if s.mayWrite m then writeInput i reg.val v.toNat) s

/-! ### Binding (R205, R207 to R209, R211) -/

/-- LANE_CFG_REJECT with the lane's CFG_REJECT flag. -/
def laneReject (n : Fin 36) : Act Unit := do
  setF (F.RCH_LANE_STAT_CFG_REJECT n.val) 1
  raiseRf rfLANE_CFG_REJECT n.val

/-- A write to RCH_LANE_n_BIND (R205, R579). -/
def writeBind (n : Fin 36) (v : Nat) : Act Unit := do
  let s ← rd
  let was := s.get (F.RCH_LANE_BIND_ENABLE n.val)
  if bitsOf v 1 5 ≠ s.laneInput n.val then
    if was = 1 then laneReject n else setF (F.RCH_LANE_BIND_INPUT n.val) (bitsOf v 1 5)
  let s ← rd
  if was = 0 ∧ bitsOf v 0 1 = 1 then
    if (s.laneOf (s.laneInput n.val)).isSome ∨ s.get (F.RCH_LANE_STAT_FAILED n.val) = 1 then laneReject n
    else bindLane n (s.laneInput n.val)
  else if was = 1 ∧ bitsOf v 0 1 = 0 then unbindLane n

/-- LANE_BIND_WRITE (R205). -/
def execLaneBindWrite (m : Master) (n : Fin 36) (v : Word) (s : State) : Answer :=
  answer (do if s.mayWrite m then writeBind n v.toNat) s

/-- A lane fault of R544: another lane fault in recovery is resolved by R211 and is no second fault (R545). -/
def beginLaneFault (n : Nat) : Act Unit := do
  let s ← rd
  emit (.chip fun c => { c with recovering := c.recovering ++ [.lane n] })
  raise Ev.SINGLE_FAULT_BEGIN
  if s.chip.recovering.any (fun f => match f with
      | .lane _ => false
      | _ => true) then outsideModel

/-- A lane is FAILED (R207, R208). -/
def failLane (n : Fin 36) (cause : Nat) : Act Unit := do
  setF (F.RCH_LANE_STAT_FAILED n.val) 1
  setF (F.RCH_LANE_STAT_CAUSE n.val) cause
  raiseRf rfLANE_FAILED n.val
  degrade (.lane n.val)

/-- The input takes lane `n` over: LANE_TAKEOVER (R207, R208). -/
def takeover (n : Fin 36) : Act Unit := do
  incStop F.RCH_TAKEOVER_CNT_CNT
  raiseRf rfLANE_TAKEOVER n.val

/-- No lane is left for an input whose lane has failed: its spot is not read (R209). -/
def sparesGone (i : Fin 32) : Act Unit := do
  raiseRf rfLANE_SPARES_EXHAUSTED i.val
  reducedRead (opuOfInput i.val) (i.val % 4)

/-- The trial of an input ends without success: the old lane is bound again (R208), or, where that has failed meanwhile, the new lane takes over. -/
def endTrial (i : Fin 32) : Act Unit := do
  let s ← rd
  match s.inputs[i].trial with
  | none => pure ()
  | some (old, _) =>
    setF (F.RCH_LANE_STAT_TRIAL old) 0
    emit (.input i fun x => { x with trial := none, next := none, trialEnd := some s.now })
    match s.laneOf i.val with
    | some n =>
      if s.get (F.RCH_LANE_STAT_FAILED old) = 1 then takeover n
      else
        unbindLane n
        bindLane (Fin.ofNat 36 old) i.val
    | none => if s.get (F.RCH_LANE_STAT_FAILED old) = 0 then bindLane (Fin.ofNat 36 old) i.val
    endSingle (.lane old)

/-- What an input waits for takes place at a spoke, with the changes held for the input (R207, R208, R211). -/
def bindNext (i : Fin 32) : Act Unit := do
  let s ← rd
  match s.inputs[i].next with
  | none => pure ()
  | some (.back, _) => endTrial i
  | some (.takeover failed, t) =>
    emit (.input i fun x => { x with next := none })
    applyHeld i
    match s.laneFor i.val t with
    | some n =>
      bindLane n i.val
      takeover n
    | none => sparesGone i
    endSingle (.lane failed)
  | some (.trial old, t) =>
    emit (.input i fun x => { x with next := none })
    applyHeld i
    match s.laneFor i.val t with
    | some n =>
      bindLane n i.val
      emit (.input i fun x => { x with trial := some (old, 0) })
    | none =>
      raiseRf rfLANE_SPARES_EXHAUSTED i.val
      setF (F.RCH_LANE_STAT_TRIAL old) 0
      bindLane (Fin.ofNat 36 old) i.val
      endSingle (.lane old)

/-- Whether an OPU's spokes are received in LOCKED or COAST and no jump is under way. -/
def State.spokesCome (s : State) (k : Fin 8) : Bool :=
  (s.spokeState k == spkLOCKED || s.spokeState k == spkCOAST) &&
    s.get (F.BAY_OPT_STAT_JUMP k.val) == 0 && s.get (F.BAY_OPT_STAT_LAYER_JUMP k.val) == 0

/-- What an input is to be bound to waits for its next spoke; during a jump, or while none is expected, it takes place at once (R207, R211). -/
def awaitSpoke (i : Fin 32) (x : NextLane) : Act Unit := do
  emit (.input i fun y => { y with next := some (x, 0) })
  let s ← rd
  emit (.input i fun y => { y with next := some (x, s.now) })
  if s.spokesCome (opuOfInput i.val) = false then bindNext i

/-- The sector of an input that is in progress has failed (R207). -/
def cutInput (i : Fin 32) : Act Unit := do
  if i.val % 4 < 3 then emit (.detector (opuOfInput i.val) fun d => { d with cut := (i.val % 4) :: d.cut.filter (· != i.val % 4) })

/-- The first input whose trial holds a lane. -/
def State.trialInput (s : State) : Option (Fin 32) := (List.finRange 32).find? (fun i => s.inputs[i].trial.isSome)

/-- The input of failed lane `n` is to take the lowest free lane; a trial that holds one ends for it (R207, R209, R211). -/
def replaceLane (n : Fin 36) (i : Fin 32) : Act Unit := do
  let s ← rd
  match decide (s.freeLanes.length ≤ s.waitingInputs.length), s.trialInput with
  | true, some j => endTrial j
  | _, _ => pure ()
  let s ← rd
  if s.waitingInputs.length < s.freeLanes.length then awaitSpoke i (.takeover n.val)
  else
    sparesGone i
    endSingle (.lane n.val)

/-- LANE_MEMORY_ERROR (R206, R207, R209, R211): an uncorrectable error in a lane's memories. The new lane of a trial that fails ends the trial. -/
def execLaneMemoryError (n : Fin 36) (s : State) : Answer :=
  answerWhen s.channelsLive (do
    if s.get (F.RCH_LANE_STAT_FAILED n.val) = 0 then
      let i : Fin 32 := Fin.ofNat 32 (s.laneInput n.val)
      let bound : Bool := s.get (F.RCH_LANE_BIND_ENABLE n.val) == 1
      beginLaneFault n.val
      match s.inputs[i].trial with
      | some _ => if bound then endTrial i
      | none => pure ()
      let s ← rd
      let still : Bool := s.get (F.RCH_LANE_BIND_ENABLE n.val) == 1
      if still then unbindLane n
      failLane n 1
      if still then
        cutInput i
        replaceLane n i
      else endSingle (.lane n.val)) s

/-- The time of one revolution of a bay in µs. -/
def State.revolution (s : State) (b : Fin 4) : Nat := 50000 / (s.get (F.BAY_STAT_SPEED b.val) + 1)

/-- A sync fault of lane n: a trial on the lowest free lane (R208, R209). -/
def syncFault (n : Fin 36) (i : Fin 32) : Act Unit := do
  let s ← rd
  let quiet : Bool := match s.inputs[i].trialEnd with
    | some t => decide (s.now < t + s.revolution (bayOf (opuOfInput i.val)))
    | none => false
  if !quiet && s.inputs[i].trial.isNone && s.inputs[i].next.isNone then
    if s.freeLanes.length ≤ s.waitingInputs.length then raiseRf rfLANE_SPARES_EXHAUSTED i.val
    else
      beginLaneFault n.val
      unbindLane n
      setF (F.RCH_LANE_STAT_TRIAL n.val) 1
      cutInput i
      awaitSpoke i (.trial n.val)

/-- One frame of a trial: success fails the old lane, 8 frames without sync restore it at the next spoke (R208). -/
def trialFrame (n : Fin 36) (i : Fin 32) (found : Bool) : Act Unit := do
  let s ← rd
  match s.inputs[i].trial, s.inputs[i].next with
  | some (old, frames), none =>
    if found then
      setF (F.RCH_LANE_STAT_TRIAL old) 0
      if s.get (F.RCH_LANE_STAT_FAILED old) = 0 then failLane (Fin.ofNat 36 old) 2
      takeover n
      emit (.input i fun x => { x with trial := none })
      endSingle (.lane old)
    else if 7 ≤ frames then awaitSpoke i .back
    else emit (.input i fun x => { x with trial := some (old, frames + 1) })
  | _, _ => pure ()

/-! ### Polarity (R194, R554) -/

/-- INVERTED of an input, answered by setting POL_INV (R194, R554). -/
def inputInverted (i : Fin 32) : Act Unit := do
  setF (F.RCH_IN_STAT_INVERTED i.val) 1
  raiseRf rfINVERTED i.val
  holdChange i (.polarity true)

/-- Polarity after a frame whose sync was found: INVERTED after 32 frames of negative correlation (R194). -/
def polarityStep (i : Fin 32) (corr : Int) : Act Unit := do
  emit (.input i fun y => { y with negRun := if corr < 0 then y.negRun + 1 else 0 })
  let s ← rd
  if 32 ≤ s.inputs[i].negRun then
    emit (.input i fun y => { y with negRun := 0 })
    inputInverted i

/-! ### SPOKE_RECEIVED (R78 to R89, R194, R207) -/

/-- What a spoke does to the lanes of its OPU: bindings that wait for it take place, in ascending order of input, and suspended lanes resume (R86, R207,
R211); 16 spokes in a row that only the complement finds set INVERTED on the C input (R194). -/
def spokeLanes (k : Fin 8) : Act Unit := do
  let s ← rd
  if 16 ≤ s.spokes[k].invRun then
    emit (.spoke k fun y => { y with invRun := 0 })
    inputInverted (Fin.ofNat 32 (4 * k.val + 1))
  forAll (List.range 4) (fun spot => bindNext (Fin.ofNat 32 (4 * k.val + spot)))
  forAll laneList (fun n => do
    let s ← rd
    if s.laneInput n.val / 4 = k.val ∧ s.laneRuns n ∧ s.get (F.RCH_LANE_STAT_STATE n.val) = 3 then
      setF (F.RCH_LANE_STAT_STATE n.val) (if s.lanes[n].frames.head?.any Prod.snd then 2 else 1))

/-- SPOKE_RECEIVED (R78 to R89, R194, R207). -/
def execSpokeReceived (k : Fin 8) (x : SpokeRead) (s : State) : Answer :=
  answerWhen s.channelsLive (do
    receiveSpoke k x
    spokeLanes k) s

/-! ### One frame of a lane (R196 to R203) -/

/-- The equaliser taps of a lane (R212). -/
def State.taps (s : State) (n : Nat) : List Int :=
  (List.range 15).map (fun j => if j % 2 = 0 then s.geti (F.RCH_LANE_TAPS_EVEN n (j / 2)) else s.geti (F.RCH_LANE_TAPS_ODD n (j / 2)))

/-- The power ratio that T sample `m` is divided by: that of the level emitted NORM_DLY RF cycles before it, and 1 outside written intervals (R254). -/
def State.powerAt (s : State) (k : Fin 8) (m : Nat) : Nat :=
  let t : Int := ((m : Int) - s.get (F.WRP_RAW_CTL_NORM_DLY k.val)) * 2 ^ 24
  match s.writers[k].light.findSome? (fun x => if t < x.1 ∨ x.2.1 = 0 then none else x.2.2[(t - x.1).toNat / x.2.1]?) with
  | some l => (s.strategy k).ratio l
  | none => 4096

/-- The settings of a lane and of its input. -/
def State.laneSet (s : State) (n : Fin 36) : LaneSet :=
  let i := s.laneInput n.val
  let k := opuOfInput i
  { map := s.get (F.RCH_IN_MAP_MAP i)
    trims := (List.range 10).map (fun j => (s.geti (F.RCH_IN_TRIM_OFFSET i j), s.geti (F.RCH_IN_TRIM_GAIN i j)))
    inverted := s.get (F.RCH_IN_CTL_POL_INV i) == 1, power := fun m => if i % 4 = 3 then s.powerAt k m else 4096
    rate := s.get (F.RCH_IN_CTL_AGC_RATE i), target := s.get (F.RCH_IN_CTL_AGC_TARGET i)
    hold := s.get (F.RCH_IN_CTL_AGC_HOLD i) == 1 || (i % 4 != 3 && s.optics[k].gate)
    taps := s.taps n.val, kpAcq := s.get (F.RCH_LANE_TIMING_KP_ACQ n.val), kpTrk := s.get (F.RCH_LANE_TIMING_KP_TRK n.val)
    ki := s.get (F.RCH_LANE_TIMING_KI n.val), win := s.get (F.RCH_SYNC_CTL_SYNC_WIN k.val), least := s.get (F.RCH_SYNC_CTL_SYNC_MIN k.val)
    rwin := s.get (F.RCH_SYNC_CTL_RSYNC_WIN k.val), rleast := s.get (F.RCH_SYNC_CTL_RSYNC_MIN k.val) }

/-- The data interval of an OPU after the spoke of an index, as last received. -/
def State.interval (s : State) (k : Fin 8) (index : Nat) : Option DataInterval := s.spokes[k].intervals.find? (fun d => d.index == index)

/-- A lane and its input as a frame begins. The first frame after the lanes opened begins anew, and its flywheel position counts from the track's start
spoke (R201). -/
def State.laneStart (s : State) (n : Fin 36) (x : FrameRead) : LanePass :=
  let i := s.laneInput n.val
  let y := s.inputs[Fin.ofNat 32 i]
  let old := s.lanes[n]
  let spt := sptOf (zoneOf x.track)
  let first := ((((x.parts.head?).map IntervalRead.spoke).getD 0) + 1024 - startSpoke x.track) % 1024
  let base : LanePass := {
    pga := s.get (F.RCH_IN_GAIN_PGA i), fine := s.geti (F.RCH_IN_GAIN_FINE i), bits := old.bits, sum := old.sum
    counted := y.counted, seen := y.seen, ends := y.ends, clipping := y.clipping }
  if x.opens then { base with
    timing := { freq := s.geti (F.RCH_LANE_FREQ_FREQ n.val) }, lead := (57000 * x.sector : Int) - (first * (spt * 57000) / 1024 : Nat) }
  else { base with
    interval := old.interval, done := old.done, window := old.window, delay := old.delay
    timing := { time := old.time, freq := s.geti (F.RCH_LANE_FREQ_FREQ n.val) }, outs := old.outs, angles := old.angles
    lead := old.lead, count := old.outs.length }

/-- A lane takes the codes of a frame (R191 to R202). -/
def State.runLane (s : State) (n : Fin 36) (x : FrameRead) : LanePass :=
  let i := s.laneInput n.val
  x.parts.foldl (fun c p =>
    match s.interval (opuOfInput i) p.spoke with
    | some d => c.take (s.laneSet n) (i % 4 == 3) d p
    | none => c) (s.laneStart n x)

/-- Equaliser taps after a frame (R197): adapted over its data segments, the SLIPPED ones left out, unless frozen. -/
def storeTaps (n : Fin 36) (c : LanePass) : Act Unit := do
  let s ← rd
  let mu := s.get (F.RCH_LANE_EQ_MU n.val)
  let f := c.flags
  if f.found ∧ mu ≠ 0 ∧ s.get (F.RCH_LANE_EQ_ADAPT_HOLD n.val) = 0 ∧ s.get F.CAL_CTL_ENABLE = 1 then
    let agc := s.get (F.RCH_IN_CTL_AGC_TARGET (s.laneInput n.val))
    let gamma := s.get (F.RCH_LANE_EQ_GAMMA n.val)
    let outs := c.outs.reverse
    let taps := (f.segs.zipIdx.filter (fun g => !g.1.slipped)).foldl
      (fun t g => adaptBits mu agc gamma t (segmentOutputs c.lead g.2 g.1 outs)) (s.taps n.val)
    forAll taps.zipIdx (fun p =>
      if p.2 % 2 = 0 then setI (F.RCH_LANE_TAPS_EVEN n.val (p.2 / 2)) p.1 else setI (F.RCH_LANE_TAPS_ODD n.val (p.2 / 2)) p.1)

/-- Whether another running lane of the same OPU found sync in a sector's frame (R206). -/
def State.otherFound (s : State) (n : Fin 36) (sector : Nat) : Bool :=
  let k := s.laneInput n.val / 4
  laneList.any (fun m => m != n && s.laneRuns m && s.laneInput m.val / 4 == k && s.lanes[m].frames.contains (sector, true))

/-- Whether a running lane has a sync fault (R206): its last 8 frames have SYNC_MISSED, and, but for a T lane, in each of them another lane found sync. -/
def State.syncFails (s : State) (n : Fin 36) : Bool :=
  let l := s.lanes[n].frames.take 8
  s.laneRuns n && decide (l.length = 8) && l.all (fun f => !f.2 && (s.laneInput n.val % 4 == 3 || s.otherFound n f.1))

/-- The gain of an input after a frame, and the runs of clipping that began in it (R191, R192); the PGA code is kept for the layer (R193). -/
def storeGain (i : Fin 32) (c : LanePass) : Act Unit := do
  setI (F.RCH_IN_GAIN_FINE i.val) c.fine
  setF (F.RCH_IN_GAIN_PGA i.val) c.pga
  forAll (List.range c.clips) (fun _ => do
    setF (F.RCH_IN_STAT_CLIP i.val) 1
    raiseRf rfCLIP i.val)
  let s ← rd
  let layer : Fin 8 := Fin.ofNat 8 (s.optLayer (opuOfInput i.val))
  emit (.input i fun y => { y with
    counted := c.counted, seen := c.seen, ends := c.ends, clipping := c.clipping, pga := y.pga.set layer c.pga })

/-- A lane passes one frame: sync, resync, timing, gain, taps and polarity (R191 to R203). What follows the frame stays for the next one, of which it
holds the last 16 bits before the flywheel start. A T lane's frame counts towards a sync fault while the write gate is open (R206). -/
def laneFrame (n : Fin 36) (i : Fin 32) (x : FrameRead) (c : LanePass) : Act Unit := do
  let s ← rd
  let k := opuOfInput i.val
  let f := c.flags
  let over_ : Bool := match x.parts.getLast? with
    | some p => (s.interval k p.spoke).any (fun d => decide (d.bits ≤ c.done))
    | none => false
  setF (F.RCH_LANE_STAT_LAST_SCORE n.val) f.score
  setF (F.RCH_LANE_STAT_STATE n.val) (if over_ then 3 else if f.found then 2 else 1)
  setF (F.RCH_LANE_STAT_TIMING_LIMIT n.val) c.timing.held.toNat
  setI (F.RCH_LANE_FREQ_FREQ n.val) c.timing.freq
  if !f.found then addWrap (F.RCH_SYNC_MISS_CNT_CNT k.val) 1
  if x.lost then raise Ev.RT_FIFO_FAULT
  if 0 < f.slips then addWrap (F.RCH_RSYNC_SLIP_CNT_CNT k.val) f.slips
  storeTaps n c
  storeGain i c
  if f.found then polarityStep i (preambleCorrelation c.lead f.offset (c.outs.reverse.map Prod.fst))
  let rest := c.count - (c.lead + f.offset + 57000 - 16).toNat
  let counts : Bool := f.found || (i.val % 4 == 3 && !s.optics[k].gate)
  emit (.lane n fun l => {
    frames := ((x.sector, counts) :: l.frames).take 10, interval := c.interval, done := c.done, window := c.window, delay := c.delay
    outs := c.outs.take rest, angles := c.angles.take (rest + (c.angles.length - c.count)), lead := 16, time := c.timing.time
    bits := c.bits, sum := c.sum })

/-! ### NO_SIGNAL_CHECK (R195, R554) -/

/-- The response to a missing RF input (R554). -/
def inputMissing (i : Fin 32) : Act Unit := do
  let s ← rd
  let k := opuOfInput i.val
  setF (F.RCH_IN_CTL_ENABLE i.val) 0
  match s.laneOf i.val with
  | some n => unbindLane n
  | none => pure ()
  degrade (.input i.val)
  if i.val % 4 = 3 then setF (F.WRP_CTL_WR_HOLD k.val) 1
  else if i.val % 4 = 1 then
    degrade (.opu k.val)
    setBay (bayOf k) bFAULTED
  else reducedRead k (i.val % 4)

/-- NO_SIGNAL_CHECK (R195): `span` is the number of codes the samples of a revolution spanned, all of which had focus locked. A PGA that is raised takes 30 dB as
a held change does, while no lane samples (R192). -/
def execNoSignalCheck (i : Fin 32) (span : Nat) (s : State) : Answer :=
  answerWhen s.channelsLive (do
    let k := opuOfInput i.val
    if s.get (F.BAY_OPT_STAT_FOCUS_LOCKED k.val) = 1 ∧ s.optics[k].lockedAt + s.revolution (bayOf k) ≤ s.now ∧ span < 8 then
      if s.get (F.RCH_IN_GAIN_PGA i.val) = 120 then
        setF (F.RCH_IN_STAT_NO_SIGNAL i.val) 1
        raiseRf rfNO_SIGNAL i.val
        inputMissing i
      else holdChange i (.pga 120)) s

end Sys2Proof.Machine
end

