-- ==== Sys2Proof/Machine/Adapt.lean ====
section
/-! DEFINITION. The policy table (R405) and the adaptation of the speed class with its bounds (R273, R274, R276 to R278). -/

namespace Sys2Proof.Machine

/-- A row of the policy table: ID, number of instances, default, least and greatest value (R405). -/
structure PolicyRow where
  id : Nat
  count : Nat
  default : Nat
  min : Nat
  max : Nat
deriving DecidableEq, Repr

abbrev pIDLE_DELAY : Nat := 0x0001
abbrev pDRAM_HOLD : Nat := 0x0002
abbrev pSPEED_MIN : Nat := 0x0010
abbrev pSPEED_MAX : Nat := 0x0011
abbrev pSPEED_PIN : Nat := 0x0012
abbrev pWRPWR_TRIM : Nat := 0x0020
abbrev pWRPWR_PIN : Nat := 0x0021
abbrev pDESTAGE_MIN : Nat := 0x0030
abbrev pDESTAGE_AGE : Nat := 0x0031
abbrev pREADAHEAD_MAX : Nat := 0x0032
abbrev pSPACE_WARN : Nat := 0x0033
abbrev pCOMPACT_LIVE : Nat := 0x0034
abbrev pSCRUB_INTERVAL : Nat := 0x0035
abbrev pSCRUB_NOTICE : Nat := 0x0036
abbrev pMIGRATE_MARGIN : Nat := 0x0037
abbrev pMOT_MODEL : Nat := 0x0040

/-- The policy table of R405, in ascending ID. -/
def policyRows : List PolicyRow :=
  [ ⟨pIDLE_DELAY, 1, 30, 1, 86400⟩, ⟨pDRAM_HOLD, 1, 40, 1, 40⟩,
    ⟨pSPEED_MIN, 4, 1, 1, 4⟩, ⟨pSPEED_MAX, 4, 4, 1, 4⟩, ⟨pSPEED_PIN, 4, 0, 0, 4⟩,
    ⟨pWRPWR_TRIM, 8, 10, 0, 25⟩, ⟨pWRPWR_PIN, 8, 0, 0, 1⟩,
    ⟨pDESTAGE_MIN, 1, 256, 16, 16384⟩, ⟨pDESTAGE_AGE, 1, 3600, 60, 2592000⟩,
    ⟨pREADAHEAD_MAX, 1, 16, 0, 64⟩, ⟨pSPACE_WARN, 1, 5, 1, 50⟩, ⟨pCOMPACT_LIVE, 1, 50, 0, 95⟩,
    ⟨pSCRUB_INTERVAL, 1, 1096, 30, 3653⟩, ⟨pSCRUB_NOTICE, 1, 30, 0, 365⟩,
    ⟨pMIGRATE_MARGIN, 1, 100, 0, 500⟩, ⟨pMOT_MODEL, 8, 0, 0, 2 ^ 32 - 1⟩ ]

def policyRow (id : Nat) : Option PolicyRow := policyRows.find? (fun r => r.id == id)

/-- The value a policy table gives an entry. -/
def policyIn (t : List ((Nat × Nat) × Nat)) (id inst : Nat) : Nat :=
  match t.lookup (id, inst) with
  | some v => v
  | none => ((policyRow id).map PolicyRow.default).getD 0

/-- The value of a policy entry in force. -/
def State.policy (s : State) (id : Nat) (inst : Nat := 0) : Nat := policyIn (s.boot.policyAlt.getD s.nv.policy) id inst

/-! ### Speed classes, 1 S1 to 4 S4 (R274, R276, R278) -/

/-- The thermal ceiling of a bay. -/
def State.speedCeiling (s : State) (b : Nat) : Nat :=
  match s.get F.CAL_THERM_LEVEL with
  | 0 => 4
  | 1 => max 1 (s.policy pSPEED_MAX b - 1)
  | 2 => 2
  | _ => 1

/-- The pin in force, 0 when unpinned. -/
def State.speedPin (s : State) (b : Nat) : Nat := min (s.policy pSPEED_PIN b) (s.speedCeiling b)

def State.speedLow (s : State) (b : Nat) : Nat := min (s.policy pSPEED_MIN b) (s.speedCeiling b)
def State.speedHigh (s : State) (b : Nat) : Nat := min (s.policy pSPEED_MAX b) (s.speedCeiling b)

/-- The class that bounds and pin leave of a wanted class. -/
def State.boundSpeed (s : State) (b cls : Nat) : Nat :=
  if s.speedPin b ≠ 0 then s.speedPin b else max (s.speedLow b) (min cls (s.speedHigh b))

def State.speedClass (s : State) (b : Nat) : Nat := s.get (F.BAY_STAT_SPEED b) + 1

/-- Whether a bay turns under the part's control. -/
def State.bayTurns (s : State) (b : Nat) : Bool :=
  let st := s.bayState b
  st == bSPINNING || st == bREADY || st == bWRITING || st == bREADING

/-- The window counts of a bay start again (R274, R276). -/
def resetWindow (b : Fin 4) : Act Unit :=
  emit (.cal fun c => { c with entries := c.entries.set b 0, windows := c.windows.set b 0 })

/-- The bay takes a speed class, which resets its window counts; its spindle ramps when it turns, and after a catch window, a resynchronisation or a wiring check where
one is under way (R152, R274). -/
def takeSpeed (b : Fin 4) (cls : Nat) : Act Unit := do
  let s ← rd
  emit (.cal fun c => { c with speed := c.speed.set b (cls - 1) })
  resetWindow b
  let k := spindleOf b
  let st := s.motorState k
  if s.bayTurns b.val = true ∧ (st = mtCATCH ∨ st = mtRESYNC ∨ st = mtCHECK) ∧ s.motorShut k = false then
    setF (F.MOT_CMD_CLASS k.val) (cls - 1)
    emit (.motor k fun m => { m with target := nominalSpeed (cls - 1) })
    setSpeed b (cls - 1)
  else if s.bayTurns b.val then runMotor k (cls - 1)
  else setSpeed b (cls - 1)

/-- Whether adaptation may lower the class of a bay. -/
def State.mayLower (s : State) (b : Nat) : Bool :=
  s.get F.CAL_CTL_ENABLE == 1 && s.speedPin b == 0 && decide (s.speedLow b < s.speedClass b)

/-- An adaptation is held at a policy bound: CLAMP and ADAPT_CLAMPED once per run of clamped steps (R276). -/
def clampAdapt (f : Fld) (bit inst : Nat) : Act Unit := do
  let v ← getF f
  if bitAt v bit = false then
    setF f (setBit v bit true)
    raise Ev.ADAPT_CLAMPED 0 inst

def unclampAdapt (f : Fld) (bit : Nat) : Act Unit := do
  let v ← getF f
  setF f (setBit v bit false)

/-- Adaptation lowers the class of a bay by one, or holds it at the bound (R274, R276). -/
def lowerSpeed (b : Fin 4) : Act Unit := do
  let s ← rd
  if s.get F.CAL_CTL_ENABLE = 1 ∧ s.speedPin b.val = 0 then
    if s.speedLow b.val < s.speedClass b.val then
      unclampAdapt F.CAL_ADAPT_STAT_SPEED_CLAMP b.val
      takeSpeed b (s.speedClass b.val - 1)
    else
      resetWindow b
      if 1 < s.speedClass b.val then clampAdapt F.CAL_ADAPT_STAT_SPEED_CLAMP b.val 0

/-- Adaptation raises the class of a bay by one, or holds it at the bound. -/
def raiseSpeed (b : Fin 4) : Act Unit := do
  let s ← rd
  if s.get F.CAL_CTL_ENABLE = 1 ∧ s.speedPin b.val = 0 then
    if s.speedClass b.val < s.speedHigh b.val then
      unclampAdapt F.CAL_ADAPT_STAT_SPEED_CLAMP b.val
      takeSpeed b (s.speedClass b.val + 1)
    else
      resetWindow b
      if s.speedClass b.val < s.speedCeiling b.val then clampAdapt F.CAL_ADAPT_STAT_SPEED_CLAMP b.val 0

/-- The PIN bits of CAL_ADAPT_STAT follow the policy (R277, R279). -/
def showPins : Act Unit := do
  let s ← rd
  setF F.CAL_ADAPT_STAT_SPEED_PIN (bayList.foldl (fun a b => setBit a b.val (s.policy pSPEED_PIN b.val != 0)) 0)
  setF F.CAL_ADAPT_STAT_WRPWR_PIN (opuList.foldl (fun a k => setBit a k.val (s.policy pWRPWR_PIN k.val == 1)) 0)

/-- Every bay's class is brought within its bounds, after a change of policy or of throttle level (R277, R278). -/
def settleSpeeds : Act Unit :=
  forAll bayList (fun b => do
    let s ← rd
    let want := s.boundSpeed b.val (s.speedClass b.val)
    if want ≠ s.speedClass b.val then takeSpeed b want)

end Sys2Proof.Machine
end

