-- ==== Sys2Proof/Machine/Crypto.lean ====
section
/-! DEFINITION. The SM3 digest (R500, R515): GB/T 32905, which the spec names and does not restate (assumption log 20). -/

namespace Sys2Proof.Machine

/-- The initial value of SM3. -/
def sm3Init : Digest := 0x7380166F4914B2B9172442D7DA8A0600A96F30BC163138AAE38DEE4DB0FB0E4E#256

/-- Word `i` of a digest, the first word in the most significant bits. -/
def digestWord (d : Digest) (i : Nat) : Word := d.extractLsb' (224 - 32 * i) 32

def sm3P0 (x : Word) : Word := x ^^^ x.rotateLeft 9 ^^^ x.rotateLeft 17
def sm3P1 (x : Word) : Word := x ^^^ x.rotateLeft 15 ^^^ x.rotateLeft 23

/-- The next word of the message expansion, from the sixteen before it, oldest first. -/
def sm3Next (w : List Word) : Word :=
  let g (i : Nat) : Word := w.getD i 0
  sm3P1 (g 0 ^^^ g 7 ^^^ (g 13).rotateLeft 15) ^^^ (g 3).rotateLeft 7 ^^^ g 10

/-- W_0 to W_67 from the words of a block, with `n` words still to be made. -/
def sm3Expand : Nat → List Word → List Word
  | 0, w => w
  | n + 1, w =>
    match w with
    | [] => []
    | a :: rest => a :: sm3Expand n (rest ++ [sm3Next (a :: rest)])

def sm3FF (j : Nat) (x y z : Word) : Word := if j < 16 then x ^^^ y ^^^ z else (x &&& y) ||| (x &&& z) ||| (y &&& z)
def sm3GG (j : Nat) (x y z : Word) : Word := if j < 16 then x ^^^ y ^^^ z else (x &&& y) ||| (~~~x &&& z)
def sm3T (j : Nat) : Word := if j < 16 then 0x79CC4519#32 else 0x7A879D8A#32

/-- The eight registers of the compression. -/
structure Sm3Regs where
  a : Word
  b : Word
  c : Word
  d : Word
  e : Word
  f : Word
  g : Word
  h : Word
deriving DecidableEq, Repr

/-- Round `j`, with W_j and W_j+4. -/
def sm3Round (j : Nat) (w w4 : Word) (r : Sm3Regs) : Sm3Regs :=
  let x := r.a.rotateLeft 12
  let ss1 := (x + r.e + (sm3T j).rotateLeft (j % 32)).rotateLeft 7
  let tt1 := sm3FF j r.a r.b r.c + r.d + (ss1 ^^^ x) + (w ^^^ w4)
  let tt2 := sm3GG j r.e r.f r.g + r.h + ss1 + w
  { a := tt1, b := r.a, c := r.b.rotateLeft 9, d := r.c, e := sm3P0 tt2, f := r.e, g := r.f.rotateLeft 19, h := r.g }

/-- Rounds from `j` on over the expanded words. -/
def sm3Rounds : Nat → Nat → List Word → Sm3Regs → Sm3Regs
  | 0, _, _, r => r
  | n + 1, j, w, r => sm3Rounds n (j + 1) w.tail (sm3Round j (w.getD 0 0) (w.getD 4 0) r)

/-- The compression of one block of 16 words into a chaining value. -/
def sm3Compress (v : Digest) (block : List Word) : Digest :=
  let g := digestWord v
  let r := sm3Rounds 64 0 (sm3Expand 52 block) ⟨g 0, g 1, g 2, g 3, g 4, g 5, g 6, g 7⟩
  v ^^^ (r.a ++ r.b ++ r.c ++ r.d ++ r.e ++ r.f ++ r.g ++ r.h)

/-- Big-endian words of bytes. -/
def beWords : List Byte → List Word
  | a :: b :: c :: d :: rest => (a ++ b ++ c ++ d) :: beWords rest
  | _ => []

/-- Compresses `n` blocks of words. -/
def sm3Blocks : Nat → Digest → List Word → Digest
  | 0, v, _ => v
  | n + 1, v, w => sm3Blocks n (sm3Compress v (w.take 16)) (w.drop 16)

/-- The padding of a message of `len` bytes. -/
def sm3Pad (len : Nat) : List Byte := 0x80#8 :: zeroBytes ((119 - len % 64) % 64) ++ beBytes 8 (8 * len)

/-- The digest of a message. -/
def sm3 (m : List Byte) : Digest :=
  let p := m ++ sm3Pad m.length
  sm3Blocks (p.length / 64) sm3Init (beWords p)

/-- A running digest with a sector's 4,096 bytes added (R377). -/
def Running.addSector (r : Running) (d : Sector) : Running :=
  { h := sm3Blocks 64 r.h (beWords (sectorBytes d)), blocks := r.blocks + 64 }

/-- The digest of what a running digest has taken, which is whole blocks. -/
def Running.final (r : Running) : Digest := sm3Compress r.h (beWords (sm3Pad (64 * r.blocks)))

/-- SM3 of the empty string as a running digest (R375). -/
def Running.empty : Running := { h := sm3Init }

/-- The 32 bytes of a digest. -/
def digestBytes (d : Digest) : List Byte := beBytes 32 d.toNat

end Sys2Proof.Machine
end

