-- ==== Sys2Proof/Machine/FlashPages.lean ====
section
/-! DEFINITION. What a flash page holds, byte by byte: chunks as stored (R496, R497), the page header and its four slots (R283, R287), the
parity page of a row (R284), summary pages (R285) and the BCH codeword that covers each page (R485). -/

namespace Sys2Proof.Machine

/-! ### Chunks as stored (R496, R497) -/

/-- The 32 bytes of a chunk descriptor (R496). -/
def chunkDescriptor (method len : Nat) (data : List Byte) (lsa vol strand : Nat) : List Byte :=
  withCrc (leBytes 2 1 ++ leBytes 1 method ++ zeroBytes 1 ++ leBytes 4 len ++ leBytes 4 (crc32 data).toNat ++ leBytes 6 lsa ++
    leBytes 2 vol ++ leBytes 4 strand ++ zeroBytes 4)

/-- The stored bytes of a chunk in `n` stored sectors: raw in 17, compressed otherwise. -/
def chunkBytes (n : Nat) (data : List Sector) (lsa vol strand : Nat) : List Byte :=
  let plain := data.flatMap sectorBytes
  if n = 17 then chunkDescriptor 0 65536 plain lsa vol strand ++ plain
  else
    let z := Config.deflate data
    chunkDescriptor 1 z.length plain lsa vol strand ++ z

/-! ### Pages (R283 to R287) -/

/-- The sectors that a page holds or helps to hold. -/
def Page.sectors (p : Page) : List Stored := p.slots ++ p.pieces

/-- The stored sectors of the chunk whose pieces a page holds; 0 when its slots hold sectors by themselves. -/
def Page.chunk (p : Page) : Nat := (p.sectors.head?.map Stored.chunk).getD 0

/-- TYPE of the slots of a page (R64). -/
def Page.type (p : Page) : Nat := if p.chunk = 0 then 0 else if p.chunk = 17 then 2 else 1

/-- The bytes of the chunk whose pieces a page holds. -/
def Page.chunkImage (p : Page) : List Byte :=
  match p.sectors with
  | [] => []
  | x :: _ => chunkBytes p.chunk (p.sectors.map Stored.data) x.lsa x.vol x.strand

/-- The word of slot `n` (R287): TYPE, CHUNK_SECTOR and the LSA from slot 0's. -/
def Page.slotWord (p : Page) (n : Nat) : Nat :=
  if p.used ≤ n then 0
  else if p.chunk = 0 then
    let at_ (i : Nat) : Int := ((p.slots[i]?.map Stored.lsa).getD 0 : Nat)
    ofSigned 23 (at_ n - at_ 0)
  else p.type * 2 ^ 28 + (p.pieceAt + n) % 32 * 2 ^ 23

/-- The 64 bytes of a data page's header (R287). -/
def Page.header (p : Page) : List Byte :=
  let x := p.sectors.head?
  let bad := (List.range 4).foldl (fun a n => if (p.slots[n]?).any Stored.poison && p.chunk == 0 then a + 2 ^ n else a) 0
  let poisoned : Bool := p.sectors.any Stored.poison
  let descriptor := if p.chunk = 0 then 0 else p.slotWord 0 + p.chunkImage.length % 2 ^ 17
  withCrc (leBytes 2 ((x.map Stored.vol).getD 0) ++ leBytes 6 ((x.map Stored.lsa).getD 0) ++ leBytes 8 p.seq ++
    leBytes 4 ((x.map Stored.strand).getD 0) ++ leBytes 4 descriptor ++ leBytes 1 (poisoned.toNat + 2 * p.relocated.toNat) ++
    zeroBytes 1 ++ leBytes 1 p.kind ++ leBytes 1 (2 ^ p.used - 1 + 16 * bad) ++ leBytes 4 p.lblock ++ leBytes 4 p.row ++ zeroBytes 4 ++
    leBytes 8 p.srcSeq ++ leBytes 4 (p.slotWord 1) ++ leBytes 4 (p.slotWord 2) ++ leBytes 4 (p.slotWord 3))

/-- The 4,096 bytes of slot `n`: a sector, a piece of a chunk, zero bytes in a pad page; of a slot not in use, free values. -/
def Page.slotBytes (p : Page) (n : Nat) : List Byte :=
  if p.kind = 0x01 then zeroBytes 4096
  else if p.used ≤ n then (List.range 4096).map (fun i => Config.unusedSlot p.seq (4096 * n + i))
  else if p.chunk = 0 then sectorBytes ((p.slots[n]?.map Stored.data).getD 0)
  else
    let piece := (p.chunkImage.drop (4096 * (p.pieceAt + n))).take 4096
    piece ++ zeroBytes (4096 - piece.length)

/-- Bytes 0 to 16,447 of a data page (R283). -/
def Page.image (p : Page) : List Byte := p.header ++ (List.range 4).flatMap p.slotBytes

/-- The byte-wise XOR of pages: the parity page of a row, or a page rebuilt from the row's other 15 (R284, R304). -/
def xorPages (l : List (List Byte)) : List Byte :=
  l.foldl (fun a b => List.zipWith (fun (x y : Byte) => x ^^^ y) a b) (zeroBytes 16448)

/-- The summary pages of a closed block (R285): the headers of its data pages in order of row and position, 256 to a page. Of the header of a
summary page the spec gives KIND, LBLOCK and ROW; the other fields are zero (DESIGN CHOICE, assumption log 69). -/
def summaryImage (headers : List (List Byte)) (lblock row n : Nat) : List Byte :=
  let body := ((headers.drop (256 * n)).take 256).flatten
  ({ lblock := lblock, row := row, pos := 0, kind := 0x02 } : Page).header ++ body ++ zeroBytes (16384 - body.length)

/-! ### The BCH code of R485 -/

/-- α times an element of GF(2^18), generated by x^18 + x^7 + 1. -/
def gf18Double (a : Nat) : Nat := let d := 2 * a; if 2 ^ 18 ≤ d then Nat.xor d 0x40081 else d

/-- The product of two elements of GF(2^18). -/
def gf18Mul (a b : Nat) : Nat :=
  (List.range 18).foldl (fun r i => Nat.xor (gf18Double r) (if bitAt b (17 - i) then a else 0)) 0

/-- α to a power. -/
def gf18Pow (n : Nat) : Nat :=
  (List.range 18).foldl (fun r i => let q := gf18Mul r r; if bitAt n (17 - i) then gf18Double q else q) 1

/-- The exponents of the conjugates of α^i, once each. -/
def conjugates (i : Nat) : List Nat := ((List.range 18).map (fun j => i * 2 ^ j % 262143)).eraseDups

/-- The minimal polynomial of α^i, bit n the coefficient of x^n. -/
def minimalPoly (i : Nat) : Nat :=
  let times (p : List Nat) (r : Nat) : List Nat := List.zipWith Nat.xor (0 :: p) (p.map (gf18Mul r) ++ [0])
  ((conjugates i).foldl (fun p e => times p (gf18Pow e)) [1]).foldr (fun c a => 2 * a + c) 0

/-- The product of two polynomials over GF(2). -/
def polyMul (a b : Nat) : Nat :=
  (List.range (a.log2 + 1)).foldl (fun r i => if bitAt a i then Nat.xor r (b * 2 ^ i) else r) 0

/-- g(x) of strength `t`: the least common multiple of the minimal polynomials of α^1, α^3, …, α^(2t−1); those of conjugates are one. -/
def bchGenerator (t : Nat) : Nat :=
  (((List.range t).map (fun n => 2 * n + 1)).filter (fun i => (conjugates i).all (fun e => decide (i ≤ e)))).foldl
    (fun g i => polyMul (minimalPoly i) g) 1

/-- The remainder of a message, highest degree first and times x^n, by a generator of degree `n`. -/
def polyRemainder (g n : Nat) (message : List Bool) : Nat :=
  message.foldl (fun r b => let d := 2 * r % 2 ^ n; if bitAt r (n - 1) != b then Nat.xor d (g % 2 ^ n) else d) 0

/-- The parity bytes of a page under strength `t`, highest degree first. -/
def bchParity (t : Nat) (page : List Byte) : List Byte := bitsBytes (9 * t / 4) (natBits (18 * t) (polyRemainder (bchGenerator t) (18 * t) (bytesBits page)))

/-- A page as it is programmed: bytes 0 to 16,447, their parity, and 0xFF in what spare bytes are left. -/
def pageCodeword (t size : Nat) (image : List Byte) : List Byte :=
  let c := image ++ bchParity t image
  c ++ List.replicate (size - c.length) 0xFF

/-- Whether a page reads as erased (R487): its codeword bytes hold at most t zero bits. -/
def readsErased (t : Nat) (page : List Byte) : Bool :=
  decide (((bytesBits (page.take (16448 + 9 * t / 4))).filter (fun b => !b)).length ≤ t)

end Sys2Proof.Machine
end

