-- ==== Sys2Proof/Machine/Storage.lean ====
section
/-! DEFINITION. Where each sector of a volume lies, and how it moves: the volume map (R315 to R318), the landing zone's blocks,
rows, spares and collection (R281 to R310), the digests that data extends as it leaves DRAM (R377, R551), disc requests and write
sessions (R320 to R332). -/

namespace Sys2Proof.Machine

def raiseFlz (n : Nat) (inst : Nat := 0) : Act Unit := raise n 0 inst

/-! ### The volume map (R315, R316) -/

def extentOf (lsa : Nat) : Nat := lsa / 256

def State.extent? (s : State) (vol ext : Nat) : Option Extent := s.extents.find? (fun e => e.vol == vol && e.ext == ext)

def State.extent (s : State) (vol ext : Nat) : Extent := (s.extent? vol ext).getD { vol := vol, ext := ext }

/-- An extent's map entry changes; it is made where there is none. -/
def setExtent (vol ext : Nat) (g : Extent → Extent) : Act Unit :=
  emit (.extents fun l =>
    if l.any (fun e => e.vol == vol && e.ext == ext) then
      l.map (fun e => if e.vol == vol && e.ext == ext then g e else e)
    else l ++ [g { vol := vol, ext := ext }])

/-- WRITTEN of a sector. -/
def State.written (s : State) (vol lsa : Nat) : Bool := (s.extent vol (extentOf lsa)).written.getLsbD (lsa % 256)

/-- SEQ of the WRITE whose data the disc copy of a sector holds. -/
def State.discVer (s : State) (vol lsa : Nat) : Option Nat := (s.extent vol (extentOf lsa)).onDisc.lookup lsa

/-- The current sector in the DRAM write cache. -/
def State.cached (s : State) (vol lsa : Nat) : Option CacheSector :=
  s.cache.find? (fun c => c.vol == vol && c.lsa == lsa && !c.stale)

/-- Whether a row counts: its parity page is programmed (R286, R295). -/
def State.rowCounts (s : State) (b r : Nat) : Bool := s.nv.sys.pages.any (fun p => p.lblock == b && p.row == r && p.kind == 0x10)

/-- The volume's creation SEQ, before which nothing of it was written. -/
def State.createSeq (s : State) (vol : Nat) : Nat :=
  ((s.volumes.find? (fun v => v.num == vol)).map Volume.createSeq).getD 0

/-- Which of two stored sectors holds (R293). -/
def newer (x y : Stored) : Stored := if x.ver < y.ver ∨ (x.ver = y.ver ∧ x.seq < y.seq) then y else x

/-- The sectors of a volume and LSA that counted landing pages hold, newer than its disc copy. -/
def State.landedAll (s : State) (vol lsa : Nat) : List Stored :=
  (s.nv.sys.pages.filter (fun p => s.rowCounts p.lblock p.row)).flatMap (fun p =>
    p.slots.filter (fun x => x.vol == vol && x.lsa == lsa && decide (s.createSeq vol < x.ver) &&
      (match s.discVer vol lsa with
       | some v => decide (v < x.ver)
       | none => true)))

/-- The sector that the extent's page index resolves to. -/
def State.landed (s : State) (vol lsa : Nat) : Option Stored :=
  match s.landedAll vol lsa with
  | [] => none
  | x :: l => some (l.foldl newer x)

/-- Where a sector resolves (R316). -/
inductive Place where
  | unwritten
  | dram (c : CacheSector)
  | landing (x : Stored)
  | disc (id : Nat)
  /-- Written, and held nowhere: lost with its only copy (R552). -/
  | lost
deriving DecidableEq, Repr

def State.resolve (s : State) (vol lsa : Nat) : Place :=
  if s.written vol lsa then
    match s.cached vol lsa with
    | some c => .dram c
    | none =>
      match s.landed vol lsa with
      | some x => .landing x
      | none =>
        match (s.extent vol (extentOf lsa)).disc with
        | some d => if (s.discVer vol lsa).isSome then .disc d.1 else .lost
        | none => .lost
  else .unwritten

/-- Whether a stored sector is what the map resolves to, or will be once the sector's DRAM copy has gone (R17, R291). -/
def State.current (s : State) (x : Stored) : Bool :=
  s.written x.vol x.lsa && (s.cached x.vol x.lsa).all (fun c => decide (c.seq ≤ x.ver)) &&
  (match s.landed x.vol x.lsa with
   | some y => y == x
   | none => false)

/-- Whether the chunk that a sector was stored in is still what the map resolves the sector to, wherever its last piece lies now. -/
def State.chunkHolds (s : State) (x : Stored) : Bool :=
  (s.landed x.vol x.lsa).any (fun y => y.ver == x.ver && y.chunk == x.chunk && s.current y)

/-- Whether a landing page is valid: a sector resolves to it, or to the chunk whose pieces it holds (R291). -/
def State.pageValid (s : State) (p : Page) : Bool := p.slots.any s.current || p.pieces.any s.chunkHolds

/-- Whether the strand log has recorded the digest extension over a SEQ of a strand (R551). -/
def State.logged (s : State) (strand seq : Nat) : Bool :=
  match s.strands.find? (fun t => t.num == strand) with
  | some t => decide (seq ≤ t.loggedSeq)
  | none => true

/-! ### Blocks (R284 to R291) -/

def State.block (s : State) (n : Nat) : Option LBlock := s.flash.blocks.find? (fun b => b.num == n)

def setBlock (n : Nat) (g : LBlock → LBlock) : Act Unit :=
  emit (.flash fun f => { f with blocks := f.blocks.map (fun b => if b.num == n then g b else b) })

def State.pagesOf (s : State) (n : Nat) : List Page := s.nv.sys.pages.filter (fun p => p.lblock == n)

/-- Valid pages of a block. -/
def State.validPages (s : State) (n : Nat) : List Page := (s.pagesOf n).filter s.pageValid

/-- F, the number of FREE landing blocks (R298). -/
def State.freeBlocks (s : State) : Nat := (s.flash.blocks.filter (fun b => b.state == .free)).length

/-- Data rows of a block: the last ceil(PPB ÷ 257) rows are summary rows (R285). -/
def State.summaryRows (s : State) : Nat := ceilDiv (s.get F.FLZ_GEOM_PPB) 257
def State.dataRows (s : State) : Nat := s.get F.FLZ_GEOM_PPB - s.summaryRows

/-- The position of the n-th data page of a row: every position but r mod 16, in order (R284). -/
def dataPosition (r n : Nat) : Nat := if n < r % 16 then n else n + 1

/-- Erases that an erase block has seen. -/
def State.eraseCount (s : State) (m : Nat × Nat) : Nat :=
  ((s.nv.sys.erases.find? (fun e => e.1 == m.1 && e.2.1 == m.2)).map (fun e => e.2.2)).getD 0

def State.blockWear (s : State) (b : LBlock) : Nat := (b.members.map s.eraseCount).sum

/-- The FREE block with the lowest mean erase count (R301). -/
def State.nextFree (s : State) : Option LBlock :=
  match s.flash.blocks.filter (fun b => b.state == .free) with
  | [] => none
  | b :: l => some (l.foldl (fun x y => if s.blockWear y < s.blockWear x then y else x) b)

/-- One erase more of an erase block. -/
def countErase (m : Nat × Nat) : Act Unit := do
  let s ← rd
  addWrap F.FLZ_ERASE_CNT_CNT 1
  let n := s.eraseCount m + 1
  emit (.nv fun v => { v with sys := { v.sys with
    erases := (m.1, m.2, n) :: v.sys.erases.filter (fun e => !(e.1 == m.1 && e.2.1 == m.2)) } })

/-- A FREE block is taken (R288); FLZ_ECC_CTL.T at its opening is its strength (R486). -/
def openBlock (g : LBlock → LBlock) : Act (Option Nat) := do
  let s ← rd
  match s.nextFree with
  | none => return none
  | some b =>
    setBlock b.num (fun b => g { b with row := 0, filled := 0, closing := false, base := 0, run := 0, logOf := none,
                                        t := s.get F.FLZ_ECC_CTL_T, lastWrite := s.now })
    return some b.num

/-- Rows that hold data and are not complete are to be padded (R286). -/
def padRow (n : Nat) : Act Unit := do
  let s ← rd
  match s.block n with
  | none => pure ()
  | some b =>
    if 0 < b.filled then
      emit (.flash fun f => { f with padRows := if f.padRows.contains (n, b.row) then f.padRows else f.padRows ++ [(n, b.row)] })

/-- The bytes of a page go to its place in the flash (R485). -/
def putPage (b : LBlock) (row pos : Nat) (image : List Byte) : Act Unit := do
  let s ← rd
  let m := b.members.getD pos (0, 0)
  let size := ((s.flash.luns.find? (fun l => l.lun == m.1)).map LunId.pageBytes).getD 0
  emit (.out (.page m.1 m.2 row (pageCodeword b.t size image)))

/-- The image of the parity page of a row: the XOR of its data pages (R284). -/
def State.rowParity (s : State) (n row : Nat) : List Byte :=
  xorPages (((s.pagesOf n).filter (fun p => p.row == row && p.kind != 0x10)).map Page.image)

/-- The summary rows of a block that closes (R285): summary pages at the data positions, and the parity page of each row. -/
def putSummary (b : LBlock) : Act Unit := do
  let s ← rd
  let data := (s.pagesOf b.num).filter (fun p => p.kind != 0x10)
  let headers := (data.mergeSort (fun p q => decide (16 * p.row + p.pos ≤ 16 * q.row + q.pos))).map Page.header
  forAll (List.range s.summaryRows) (fun r => do
    let row := s.dataRows + r
    let images := (List.range 15).map (fun n => summaryImage headers b.num row (15 * r + n))
    forAll (List.range 15) (fun n => putPage b row (dataPosition row n) (images.getD n []))
    putPage b row (row % 16) (xorPages images))
  addWrap F.FLZ_PROG_CNT_CNT (16 * s.summaryRows)

/-- A block closes: its row is completed and its summary rows are written (R285, R289). -/
def closeBlock (n : Nat) : Act Unit := do
  let s ← rd
  match s.block n with
  | none => pure ()
  | some b =>
    if b.state = .openData ∨ b.state = .openLog then
      if b.filled = 0 then
        putSummary b
        setBlock n (fun b => { b with state := .closed, closing := false })
      else
        setBlock n (fun b => { b with closing := true })
        padRow n

/-! ### Zone state and the admission gate (R298, R299, R307, R308) -/

abbrev zNORMAL : Nat := 0
abbrev zFOREGROUND : Nat := 1
abbrev zFULL : Nat := 2
abbrev zFROZEN : Nat := 3

def State.zone (s : State) : Nat := s.get F.FLZ_STAT_STATE

/-- Bytes of user data that a landing block holds. -/
def State.blockBytes (s : State) : Nat := 15 * s.dataRows * 16384

/-- Whether collection can free nothing (R307). -/
def State.noGain (s : State) : Bool :=
  (s.flash.blocks.filter (fun b => b.state == .closed)).all (fun b => decide (15 * s.dataRows ≤ (s.validPages b.num).length))

/-- G: landing capacity freed per second over the last 100 ms, net of copies (R299). -/
def State.freedRate (s : State) : Nat :=
  (10 * ((s.flash.freed.filter (fun x => decide (s.now < x.1 + 100000))).map Prod.snd).sum).toNat

/-- The disc write rate of a volume over the last second (R308). -/
def State.discRate (s : State) (vol : Nat) : Nat :=
  ((s.flash.discDone.filter (fun x => x.1 == vol && decide (s.now < x.2.1 + 1000000))).map (fun x => x.2.2)).sum

/-- The admitted rate A in bytes/s, none when unlimited (R299, R307). -/
def State.admitted (s : State) : Option Nat :=
  let f := s.freeBlocks
  let low := s.get F.FLZ_GC_THR_LOW
  let crit := s.get F.FLZ_GC_CTL_CRIT
  if s.zone = zFULL then some 0
  else if low ≤ f then none
  else if f ≤ crit then some 0
  else some (s.freedRate * (f - crit) / (low - crit))

/-- The landing zone freezes (R308). -/
def freezeZone : Act Unit := do
  let s ← rd
  if s.zone ≠ zFROZEN then
    setF F.FLZ_STAT_STATE zFROZEN
    emit (.nv fun v => { v with sys := { v.sys with frozen := true } })
    raiseFlz Ev.FLZ_FROZEN
    degrade .frozen

/-- STATE follows F; FROZEN stays (R298, R307, R308, R309). -/
def settleZone : Act Unit := do
  let s ← rd
  let old := s.zone
  if old ≠ zFROZEN ∧ s.get F.FLZ_CTL_ENABLE = 1 ∧ !s.flash.blocks.isEmpty then
    let f := s.freeBlocks
    let full : Bool := f == 0 && s.noGain
    if full ∧ s.flash.spares.isEmpty then freezeZone
    else
      let new := if full then zFULL else if f < s.get F.FLZ_GC_THR_LOW then zFOREGROUND else zNORMAL
      if new ≠ old then
        setF F.FLZ_STAT_STATE new
        if new ≠ zNORMAL then raiseFlz Ev.FLZ_FOREGROUND

/-! ### Digests and the release of DRAM copies (R17, R377, R500, R501, R551) -/

def setStrand (n : Nat) (g : Strand → Strand) : Act Unit :=
  emit (.strands fun l => l.map (fun t => if t.num == n then g t else t))

def State.strand (s : State) (n : Nat) : Option Strand := s.strands.find? (fun t => t.num == n)

/-- The next sector of a strand in commit order that its digest has not taken. -/
def State.nextToDigest (s : State) (t : Strand) : Option CacheSector :=
  (s.cache.filter (fun c => c.strand == t.num && !c.digested)).foldl
    (fun a c => match a with
      | none => some c
      | some b => if c.seq < b.seq then some c else a) none

/-- One sector joins the digest of its strand. -/
def digestSector (t : Strand) (c : CacheSector) : Act Unit := do
  if c.poison ∧ t.digestPoisoned = false then raise Ev.DIGEST_POISON
  setStrand t.num (fun t => { t with digest := t.digest.addSector c.data, digestSeq := c.seq, dirty := true,
                                     digestPoisoned := t.digestPoisoned || c.poison })
  emit (.cache fun l => l.map (fun x => if x.seq == c.seq then { x with digested := true } else x))

/-- Extends the digest of a strand over the sectors that have left DRAM, strictly in commit order. -/
def extendDigest (n : Nat) : Nat → Act Unit
  | 0 => pure ()
  | fuel + 1 => do
    let s ← rd
    match s.strand n with
    | none => pure ()
    | some t =>
      match s.nextToDigest t with
      | none => pure ()
      | some c =>
        if c.stale ∨ c.row.isSome then
          digestSector t c
          extendDigest n fuel

/-- Extends every digest. -/
def extendDigests : Act Unit := do
  let s ← rd
  forAll s.strands (fun t => extendDigest t.num s.cache.length)

/-- Whether a DRAM copy may be released: its row counts, or it is superseded; and its digest extension is made, or logged for one
superseded before programming (R17, R377, R551). -/
def State.releasable (s : State) (c : CacheSector) : Bool :=
  let digested := c.digested || (s.strand c.strand).isNone
  match c.row with
  | some r => digested && s.rowCounts r.1 r.2
  | none => c.stale && digested && s.logged c.strand c.seq

/-- A sector moved from a disc has reached the landing zone (R331): its disc copy dies, if the GEN of its extent has not changed. -/
def commitMove (c : CacheSector) : Act Unit := do
  let s ← rd
  let e := s.extent c.vol (extentOf c.lsa)
  if c.moved = some e.gen ∧ e.onDisc.lookup c.lsa = some c.seq then
    match e.disc with
    | none => pure ()
    | some d =>
      let rest := e.onDisc.filter (fun x => x.1 != c.lsa)
      emit (.nv fun v => { v with sys := { v.sys with mapLog := v.sys.mapLog ++
        [{ e with onDisc := rest, disc := if rest.isEmpty then none else e.disc, migrate := e.migrate && !rest.isEmpty, logSeq := s.nextSeq }] } })
      setExtent c.vol (extentOf c.lsa) (fun e => { e with onDisc := rest, disc := if rest.isEmpty then none else e.disc
                                                          migrate := e.migrate && !rest.isEmpty, logSeq := s.nextSeq })
      emit (.discs fun l => l.map (fun x => if x.id == d.1 then { x with live := x.live - 1, dead := x.dead + 1, changed := true } else x))

/-- Releases what may be released. A moved sector's disc copy dies only where the landing zone holds it in its place (R17). -/
def sweepCache : Act Unit := do
  extendDigests
  let s ← rd
  forAll (s.cache.filter (fun c => c.moved.isSome && c.row.isSome && !c.stale && s.releasable c)) commitMove
  emit (.cache fun l => l.filter (fun c => !s.releasable c))

/-- Whether a sector is neither in the landing zone nor on disc yet. -/
def State.atRisk (s : State) (c : CacheSector) : Bool :=
  !c.stale && c.moved.isNone && (match c.row with
    | some r => !s.rowCounts r.1 r.2
    | none => true)

/-- DURABLE_SEQ of a strand (R380). -/
def State.durableSeq (s : State) (t : Strand) : Nat :=
  let pend := (s.cache.filter (fun c => c.strand == t.num && s.atRisk c)).map CacheSector.seq
  let d := match pend with
    | [] => t.lastSeq
    | x :: l => let low := l.foldl min x; if low ≤ t.firstSeq then 0 else low - 1
  match t.durableCap with
  | some c => min d c
  | none => d

/-- SEQs of a strand's sectors that are current and not yet on disc. -/
def State.notOnDisc (s : State) (strand : Nat) : List Nat :=
  (s.cache.filter (fun c => c.strand == strand && !c.stale && c.moved.isNone)).map CacheSector.seq ++
  s.nv.sys.pages.flatMap (fun p => (p.slots.filter (fun x => x.strand == strand && s.current x)).map Stored.ver)

/-- DISC_SEQ of a strand (R380). -/
def State.discSeq (s : State) (t : Strand) : Nat :=
  let d := match s.notOnDisc t.num with
    | [] => t.lastSeq
    | x :: l => let low := l.foldl min x; if low ≤ t.firstSeq then 0 else low - 1
  match t.durableCap with
  | some c => min d c
  | none => d

/-- A deferred error becomes pending on a strand and is raised (R352, R306). -/
def deferError (n : Nat) : Act Unit := do
  let s ← rd
  match s.strand n with
  | none => pure ()
  | some t =>
    setStrand n (fun t => { t with deferred := true, dirty := true })
    raise Ev.DEFERRED_ERROR 0 t.owner.val (n + 2 ^ 32 * s.durableSeq t)

/-! ### Retirement, spares and LUN failure (R303 to R306, R308) -/

def State.lunFailed (s : State) (lun : Nat) : Bool := bitAt (s.get (F.FLZ_LUN_FAILED_MASK (lun / 32))) (lun % 32)

/-- A spare erase block for one of a LUN: its own pool, or any on the same channel (R303). -/
def State.spareFor (s : State) (lun : Nat) : Option (Nat × Nat) :=
  match s.flash.spares.find? (fun x => x.1 == lun) with
  | some x => some x
  | none => s.flash.spares.find? (fun x => x.1 / 32 == lun / 32 && !s.lunFailed x.1)

/-- The landing pages that the map resolves sectors to and that lie on failed LUNs, each once: reads of them rebuild them from their rows
(R304). -/
def State.rebuiltPages (s : State) (vol : Nat) (l : List Nat) : List Page :=
  s.nv.sys.pages.filter (fun p => (s.block p.lblock).any (fun b => s.lunFailed ((b.members.getD p.pos (0, 0)).1)) &&
    p.slots.any (fun x => x.vol == vol && l.contains x.lsa && (s.landed vol x.lsa).any (· == x)))

/-- Pages read from the landing zone are counted where they had to be rebuilt (R304). -/
def noteRebuilt (vol : Nat) (l : List Nat) : Act Unit := do
  let s ← rd
  addStop F.FLZ_RECON_CNT_CNT (s.rebuiltPages vol l).length

/-- Chooses erase blocks for the 16 positions of a landing block: at most `per` on one channel, none on one chip enable twice. -/
def pickMembers (per : Nat) : Nat → List (Nat × Nat) → List (Nat × Nat) → Option (List (Nat × Nat))
  | 0, _, acc => some acc.reverse
  | n + 1, pool, acc =>
    let fits (m : Nat × Nat) : Bool :=
      !acc.any (fun x => x.1 / 4 == m.1 / 4) && decide ((acc.filter (fun x => x.1 / 32 == m.1 / 32)).length < per)
    match pool.find? fits with
    | none => none
    | some m => pickMembers per n (pool.erase m) (m :: acc)

/-- The most LUNs of a landing block on one channel (R284). -/
def perChannel (luns : List Nat) : Nat := ceilDiv 16 (max 1 (luns.map (· / 32)).eraseDups.length)

/-- Landing blocks laid out over free erase blocks: at most `per` LUNs of one channel, numbered from `num` (R284). -/
def layOut (per : Nat) : Nat → Nat → List (Nat × Nat) → List LBlock → List LBlock × List (Nat × Nat)
  | 0, _, pool, acc => (acc.reverse, pool)
  | n + 1, num, pool, acc =>
    match pickMembers per 16 pool [] with
    | none => (acc.reverse, pool)
    | some m => layOut per n (num + 1) (pool.filter (fun x => !m.contains x)) ({ num := num, members := m } :: acc)

/-- Landing blocks are formed from the loose erase blocks, as far as they make whole ones (R284, R306). -/
def formBlocks : Act Unit := do
  let s ← rd
  let num := (s.flash.blocks.map LBlock.num).foldl max 0 + 1
  let free := layOut (perChannel (s.flash.luns.map LunId.lun)) s.flash.loose.length num s.flash.loose []
  if !free.1.isEmpty then emit (.flash fun f => { f with blocks := f.blocks ++ free.1, loose := free.2 })

/-- A landing block leaves service; what is left of its erase blocks forms others. -/
def dissolve (b : LBlock) : Act Unit := do
  let s ← rd
  let good := b.members.filter (fun m => !s.lunFailed m.1 && !s.nv.sys.retired.contains m)
  emit (.flash fun f => { f with blocks := f.blocks.filter (fun x => x.num != b.num), loose := f.loose ++ good })
  formBlocks

/-- The pages of a block at a position that are valid are to be copied (R303, R305). -/
def copyMember (n pos : Nat) : Act Unit := do
  let s ← rd
  let c := ((s.validPages n).filter (fun p => p.pos == pos)).map (fun p => ({ src := (n, p.row, p.pos), rebuilt := true } : Copy))
  emit (.flash fun f => { f with copies := f.copies ++ c.filter (fun x => !f.copies.contains x) })

/-- A LUN fails (R304, R305): FLZ_LUN_FAILED, the event, degraded operation, and the rebuild of every block that includes it. -/
def failLun (lun inst : Nat) : Act Unit := do
  let s ← rd
  if s.lunFailed lun = false then
    beginSingle (.lun lun)
    let f := F.FLZ_LUN_FAILED_MASK (lun / 32)
    setF f (setBit (s.get f) (lun % 32) true)
    raiseFlz Ev.FLZ_LUN_FAILED inst
    degrade (.lun lun)
    endSingle (.lun lun)
    emit (.nv fun v => { v with sys := { v.sys with failedLuns := v.sys.failedLuns ++ [lun] } })
    emit (.flash fun f => { f with spares := f.spares.filter (fun x => x.1 != lun), rebuilding := f.rebuilding ++ [lun]
                                   luns := f.luns.filter (fun x => x.lun != lun), rebuildTotal := 0
                                   loose := f.loose.filter (fun x => x.1 != lun) })
    setF F.FLZ_GEOM_LUNS (s.get F.FLZ_GEOM_LUNS - 1)
    setF F.FLZ_STAT_REBUILDING 1
    setF F.FLZ_REBUILD_LUN lun
    setF F.FLZ_REBUILD_ACTIVE 1
    setF F.FLZ_REBUILD_PROGRESS 0
    forAll (s.flash.blocks.filter (fun b => b.state != .free && b.members.any (fun m => m.1 == lun))) (fun b => do
      if b.state = .openData ∨ b.state = .openLog then closeBlock b.num
      let s ← rd
      let c := (s.validPages b.num).map (fun p => ({ src := (b.num, p.row, p.pos) } : Copy))
      emit (.flash fun f => { f with copies := f.copies ++ c.filter (fun x => !f.copies.contains x) }))
    forAll (s.flash.blocks.filter (fun b => b.state == .free && b.members.any (fun m => m.1 == lun))) dissolve

/-- Erase blocks leave the spare pools; FLZ_SPARE_LOW as the pools together fall below a quarter of their initial size (R303). -/
def takeSpares (l : List (Nat × Nat)) : Act Unit := do
  let s ← rd
  let left := s.flash.spares.filter (fun x => !l.contains x)
  emit (.flash fun f => { f with spares := left })
  if s.flash.spareInit ≤ 4 * s.flash.spares.length ∧ 4 * left.length < s.flash.spareInit then raiseFlz Ev.FLZ_SPARE_LOW

/-- A landing row is lost (R306): its sectors are poisoned, the loss is raised, and each strand concerned has a deferred error. -/
def loseRow (n r : Nat) : Act Unit := do
  let s ← rd
  let row := (s.pagesOf n).filter (fun p => p.row == r)
  let lost := (row.flatMap (fun p => p.slots.filter s.current) ++ row.flatMap (fun p => p.pieces.filter s.chunkHolds)).foldl
    (fun a x => if a.any (fun y => y.ver == x.ver) then a else a ++ [x]) []
  if !lost.isEmpty then
    emit (.nv fun v => { v with sys := { v.sys with pages := v.sys.pages.map (fun p =>
      { p with slots := p.slots.map (fun x =>
        if (p.lblock == n && p.row == r) || lost.any (fun y => y.ver == x.ver && y.chunk == x.chunk) then { x with poison := true, data := 0 }
        else x) }) } })
    raiseFlz Ev.FLZ_REBUILD_LOSS
    raise Ev.DATA_POISON_SET
    forAll (lost.map Stored.strand).eraseDups (fun n => do
      let seqs := (lost.filter (fun x => x.strand == n)).map Stored.ver
      let low := seqs.foldl (fun a v => if a = 0 ∨ v < a then v else a) 0
      setStrand n (fun t => { t with
        lost := t.lost + seqs.length, lostSeqs := t.lostSeqs ++ seqs
        firstLost := if t.firstLost = 0 then low else min t.firstLost low
        durableCap := some (match t.durableCap with
          | some c => min c (low - 1)
          | none => low - 1) })
      deferError n)

/-! ### Release, merges and collection (R290, R291, R298, R301) -/

/-- Whether a block may be erased: no valid page, every digest extension over its sectors logged, nothing still to be copied from
it or into it (R291, R551). -/
def State.erasable (s : State) (b : LBlock) : Bool :=
  (b.state == .closed || b.state == .reclaim) && (s.validPages b.num).isEmpty &&
  (s.pagesOf b.num).all (fun p => p.slots.all (fun x => s.logged x.strand x.ver)) &&
  !s.flash.copies.any (fun c => c.dst == some b.num) && s.flash.gcBlock != some b.num &&
  !s.flash.blocks.any (fun l => l.logOf == some b.num)

/-- Copies whose source is no longer valid are dropped (R310); blocks with nothing valid pass to ERASING, but for a FROZEN zone
(R291, R308). -/
def settleBlocks : Act Unit := do
  let s ← rd
  emit (.flash fun f => { f with copies := f.copies.filter (fun c =>
    s.nv.sys.pages.any (fun p => (p.lblock, p.row, p.pos) == c.src && s.pageValid p)) })
  if s.zone ≠ zFROZEN then
    forAll s.flash.blocks (fun b => do
      let s ← rd
      if (s.block b.num).any s.erasable then setBlock b.num (fun b => { b with state := .erasing }))
  settleZone

/-- The valid pages of a block are to be copied, into `dst` or into the collection's own block. -/
def copyBlock (n : Nat) (dst : Option Nat) : Act Unit := do
  let s ← rd
  let c := (s.validPages n).map (fun p => ({ src := (n, p.row, p.pos), dst := dst } : Copy))
  emit (.flash fun f => { f with copies := f.copies ++ c.filter (fun x => !f.copies.any (fun y => y.src == x.src)) })

/-- An erase block is retired and its position refilled from a spare pool; with every pool empty the zone freezes. The fourth of a
LUN within an hour fails the LUN (R303, R304, R308). Where only the pools of its channel are empty, its landing block is copied and leaves
service (DESIGN CHOICE, assumption log 69: the spec does not say). -/
def retireBlock (n pos : Nat) : Act Unit := do
  let s ← rd
  match s.block n with
  | none => pure ()
  | some b =>
    let m := b.members.getD pos (0, 0)
    incStop F.FLZ_BAD_CNT_CNT
    raiseFlz Ev.FLZ_BLOCK_RETIRED m.1
    emit (.nv fun v => { v with sys := { v.sys with retired := v.sys.retired ++ [m] } })
    match s.spareFor m.1 with
    | none =>
      if s.flash.spares.isEmpty then freezeZone
      else
        copyBlock n none
        setBlock n (fun b => { b with state := .reclaim, closing := false })
    | some x =>
      emit (.flash fun f => { f with retiredAt := f.retiredAt ++ [(m.1, s.now)] })
      setBlock n (fun b => { b with members := b.members.set pos x })
      takeSpares [x]
    let s ← rd
    let recent := s.flash.retiredAt.filter (fun x => x.1 == m.1 && decide (s.now < x.2 + 3600000000))
    if 4 ≤ recent.length then failLun m.1 m.1

/-- Resolves a log block by the first merge of R290 whose condition holds. -/
def mergeLog (log data : LBlock) : Act Unit := do
  let s ← rd
  let valid := s.validPages data.num
  let room := 15 * (s.dataRows - log.row) - log.filled
  let become (b : LBlock) : LBlock :=
    { b with logOf := none, base := data.base, run := data.run, vol := data.vol, strand := data.strand
             state := if b.state = .openLog then .openData else b.state }
  if valid.isEmpty then
    incStop (F.FLZ_MERGE_CNT 0)
    setBlock log.num become
    closeBlock log.num
    setBlock data.num (fun b => { b with state := .reclaim, run := 0 })
  else if valid.length ≤ room ∧ log.state = .openLog then
    incStop (F.FLZ_MERGE_CNT 1)
    setBlock log.num become
    copyBlock data.num (some log.num)
    setBlock data.num (fun b => { b with state := .reclaim, run := 0 })
  else
    incStop (F.FLZ_MERGE_CNT 2)
    let dst ← openBlock (fun b => { become b with state := .openData })
    setBlock log.num (fun b => { b with logOf := none })
    closeBlock log.num
    copyBlock data.num dst
    copyBlock log.num dst
    setBlock data.num (fun b => { b with state := .reclaim, run := 0 })
    setBlock log.num (fun b => { b with state := .reclaim })
  settleBlocks

/-- The earliest SEQ in a block. -/
def State.blockSeq (s : State) (n : Nat) : Nat :=
  (((s.pagesOf n).filter (fun p => p.seq != 0)).map Page.seq).foldl (fun a x => if a = 0 ∨ x < a then x else a) 0

/-- The CLOSED block that collection takes: fewest valid pages, the earliest SEQ on a tie (R298). -/
def State.victim (s : State) : Option LBlock :=
  match s.flash.blocks.filter (fun b => b.state == .closed) with
  | [] => none
  | b :: l => some (l.foldl (fun x y =>
      let nx := (s.validPages x.num).length
      let ny := (s.validPages y.num).length
      if ny < nx ∨ (ny = nx ∧ s.blockSeq y.num < s.blockSeq x.num) then y else x) b)

/-- Landing blocks programmed under another strength than that in force (R486). -/
def State.oldBlocks (s : State) : List LBlock := s.flash.blocks.filter (fun b => b.state != .free && b.t != s.nv.sys.t)

/-- Collection takes its next block, when it has no copies left to make. -/
def collect : Act Unit := do
  let s ← rd
  if s.flash.copies.isEmpty then
    match s.victim with
    | none => pure ()
    | some v =>
      match s.flash.blocks.find? (fun l => l.logOf == some v.num) with
      | some l => mergeLog l v
      | none =>
        match v.logOf.bind s.block with
        | some d => mergeLog v d
        | none =>
          if (s.validPages v.num).length < 15 * s.dataRows then
            setBlock v.num (fun b => { b with state := .reclaim })
            copyBlock v.num none
            settleBlocks

/-- Whether idle collection may run (R298). -/
def State.idleGc (s : State) : Bool :=
  decide (s.freeBlocks < s.get F.FLZ_GC_THR_HIGH) && s.get F.FLZ_CTL_IDLE_GC == 1 &&
  decide (s.flash.lastHostProgram + 1000 * s.get F.FLZ_GC_CTL_IDLE_MS ≤ s.now)

/-! ### Blocks from spares, and what the flash itself holds (R284, R302, R307) -/

/-- In a FULL zone a block for class 0 data is taken from the spare pools, up to half of what remains in them (R307). -/
def openSpare (c : CacheSector) : Act Unit := do
  let s ← rd
  let pool := s.flash.spares
  if 32 ≤ pool.length then
    match pickMembers (perChannel (s.flash.luns.map LunId.lun)) 16 pool [] with
    | none => pure ()
    | some m =>
      let n := (s.flash.blocks.map LBlock.num).foldl max 0 + 1
      takeSpares m
      emit (.flash fun f => { f with
        blocks := f.blocks ++ [{ num := n, members := m, state := .openData, vol := c.vol, strand := c.strand, base := extentOf c.lsa
                                 run := 1, t := s.get F.FLZ_ECC_CTL_T, lastWrite := s.now }] })

/-- The flash as it stands holds the blocks with pages, and its system area the spare pools (R288, R302). -/
def saveBlocks : Act Unit := do
  let s ← rd
  let l := s.flash.blocks.filter (fun b => b.state != .free && s.nv.sys.pages.any (fun p => p.lblock == b.num))
  emit (.nv fun v => { v with sys := { v.sys with
    laid := l, spares := s.flash.spares, spareInit := s.flash.spareInit, sparePct := s.flash.sparePct } })

/-- FLZ_REBUILD follows the pages that rebuilds have still to copy (R305). -/
def showRebuild : Act Unit := do
  let s ← rd
  if !s.flash.rebuilding.isEmpty then
    let left := ((s.flash.blocks.filter (fun b => b.members.any (fun m => s.flash.rebuilding.contains m.1))).map (fun b =>
      (s.validPages b.num).length)).sum
    let total := max left s.flash.rebuildTotal
    emit (.flash fun f => { f with rebuildTotal := total })
    setF F.FLZ_REBUILD_PROGRESS (if total = 0 then 65535 else min 65535 (65536 * (total - left) / total))

/-! ### Programs (R286 to R291, R298, R303, R382) -/

/-- What the next page program writes. -/
inductive Job where
  /-- The parity page of a block's row; a pad page. -/
  | parity (b : LBlock)
  | pad (b : LBlock)
  /-- A copy of a page into a block. -/
  | copy (c : Copy) (b : LBlock)
  /-- Sectors of the write cache into a block: consecutive SEQs of one strand; or a piece of a chunk. -/
  | data (b : LBlock) (l : List CacheSector)
  | chunk (b : LBlock) (l : List CacheSector) (n left : Nat) (first : Bool)
deriving DecidableEq, Repr

/-- The oldest sector in the cache that is still to be programmed; of class 0 alone in a FULL zone (R307). -/
def State.oldestToProgram (s : State) : Option CacheSector :=
  (s.cache.filter (fun c => !c.stale && c.row.isNone && (s.zone != zFULL || c.cls == 0))).foldl
    (fun a c => match a with
      | none => some c
      | some b => if c.seq < b.seq then some c else a) none

/-- Whether a block is open for data. -/
def LBlock.takes (b : LBlock) : Bool := (b.state == .openData || b.state == .openLog) && !b.closing

/-- The open block that takes a sector of a volume and extent written by a strand (R289, R290): none when one must be opened. -/
def State.targetOf (s : State) (c : CacheSector) : Option LBlock :=
  let e := extentOf c.lsa
  let binds (b : LBlock) : Bool := b.vol == c.vol && b.logOf.isNone && decide (b.base ≤ e) && decide (e < b.base + b.run)
  match s.flash.blocks.find? (fun b => binds b && b.state == .openData && !b.closing) with
  | some b => some b
  | none =>
    match s.flash.blocks.find? (fun b => binds b && (b.state == .closed || b.state == .openData)) with
    | some d => s.flash.blocks.find? (fun b => b.logOf == some d.num && b.takes)
    | none => s.flash.blocks.find? (fun b => b.takes && b.logOf.isNone && b.vol == c.vol && b.strand == c.strand &&
        b.base + b.run == e && 0 < b.run)

/-- The data block that binds the extent of a sector (R289, R290). -/
def State.boundBlock (s : State) (c : CacheSector) : Option LBlock :=
  let e := extentOf c.lsa
  s.flash.blocks.find? (fun b => b.vol == c.vol && b.logOf.isNone && decide (b.base ≤ e) && decide (e < b.base + b.run) &&
    (b.state == .closed || b.state == .openData))

/-- A log block is resolved, if it serves a data block (R290). -/
def resolveLog (l : LBlock) : Act Unit := do
  match l.logOf.bind (← rd).block with
  | some d => mergeLog l d
  | none => pure ()

/-- A log block is opened for the data block that binds a sector; one that is resolved first where LOG_MAX exist (R290). -/
def openLog (c : CacheSector) : Act Unit := do
  let s ← rd
  let logs := s.flash.blocks.filter (fun b => b.logOf.isSome)
  if s.get F.FLZ_CTL_LOG_MAX ≤ logs.length then forAll (logs.take 1) resolveLog
  match (← rd).boundBlock c with
  | none => pure ()
  | some d =>
    let _ ← openBlock (fun b => { b with state := .openLog, vol := c.vol, strand := c.strand, logOf := some d.num })
    pure ()

/-- A data block is opened for an extent that no block binds: the strand's open one closes, and at OPEN_MAX the least recently written
(R289). -/
def openData (c : CacheSector) : Act Unit := do
  let s ← rd
  match s.flash.blocks.find? (fun b => b.state == .openData && !b.closing && b.strand == c.strand && b.vol == c.vol && 0 < b.run) with
  | some b => closeBlock b.num
  | none => pure ()
  let s ← rd
  let opens := s.flash.blocks.filter (fun b => b.state == .openData && !b.closing)
  if s.get F.FLZ_CTL_OPEN_MAX ≤ opens.length then
    match opens with
    | [] => pure ()
    | b :: l => closeBlock (l.foldl (fun x y => if y.lastWrite < x.lastWrite then y else x) b).num
  let _ ← openBlock (fun b => { b with state := .openData, vol := c.vol, strand := c.strand, base := extentOf c.lsa, run := 1 })
  pure ()

/-- Takes the block that a sector needs when none is open for it: a log block for a bound extent, or a data block (R289, R290). -/
def openFor (c : CacheSector) : Act Unit := do
  let s ← rd
  match s.boundBlock c with
  | none => openData c
  | some d =>
    forAll ((s.flash.blocks.filter (fun l => l.logOf == some d.num)).take 1) resolveLog
    let s ← rd
    if (s.targetOf c).isNone then
      if (s.boundBlock c).isSome then openLog c else openData c

/-- The cache sectors of the chunk of a sector, when the strand compresses it: all 16 of the strand, current, unprogrammed and
without poison (R382, R493). -/
def State.wholeChunk (s : State) (c : CacheSector) : Option (List CacheSector) :=
  if (s.strand c.strand).any Strand.compress then
    let first := c.lsa / 16 * 16
    let l := (List.range 16).filterMap (fun i => s.cache.find? (fun x =>
      x.vol == c.vol && x.lsa == first + i && x.strand == c.strand && !x.stale && x.row.isNone && !x.poison))
    if l.length = 16 then some l else none
  else none

/-- Stored sectors of a chunk and whether they are compressed (R497). -/
def chunkSectors (l : List CacheSector) : Nat × Bool :=
  let n := 32 + (Config.deflate (l.map CacheSector.data)).length
  if n ≤ 64512 then (ceilDiv n 4096, true) else (17, false)

/-- Consecutive SEQs of one strand and volume from `seq` on, at most `n`, within ±2^22 of the first LSA (R287). -/
def State.runFrom (s : State) (c : CacheSector) (b : LBlock) : Nat → Nat → List CacheSector
  | 0, _ => []
  | n + 1, seq =>
    match s.cache.find? (fun x => x.seq == seq) with
    | none => []
    | some x =>
      if x.strand = c.strand ∧ x.vol = c.vol ∧ x.stale = false ∧ x.row.isNone ∧ x.moved.isSome = c.moved.isSome ∧ ((x.lsa : Int) - c.lsa).natAbs ≤ 2 ^ 22 ∧
          s.targetOf x = some b then x :: State.runFrom s c b n (seq + 1)
      else []

/-- The data job for a sector into its block. -/
def State.dataJob (s : State) (c : CacheSector) (b : LBlock) : Job :=
  match s.wholeChunk c with
  | some l =>
    let n := (chunkSectors l).1
    match s.flash.chunk with
    | some (v, a, left) => if v = c.vol ∧ a = c.lsa / 16 * 16 then .chunk b l n left false else .chunk b l n n true
    | none => .chunk b l n n true
  | none => .data b (s.runFrom c b 4 c.seq)

/-- The block that a copy goes to: its own, or that of collection, while it takes pages. -/
def State.copyTarget (s : State) (c : Copy) : Option LBlock :=
  ((c.dst.bind s.block).filter LBlock.takes).orElse (fun _ => (s.flash.gcBlock.bind s.block).filter LBlock.takes)

/-- Whether a copy belongs to a rebuild, which goes before programs from the write cache (R305). -/
def State.ofRebuild (s : State) (c : Copy) : Bool := (s.block c.src.1).any (fun b => b.members.any (fun m => s.lunFailed m.1))

/-- The copy to be made next: those of a rebuild first. -/
def State.nextCopy (s : State) : Option Copy := (s.flash.copies.find? s.ofRebuild).orElse (fun _ => s.flash.copies.head?)

/-- The next page program, in the order of R298 and R305; a FROZEN zone programs no landing block (R308). -/
def State.nextJob (s : State) : Option Job :=
  if s.zone = zFROZEN then none else
  let open_ (b : LBlock) : Bool := b.state == .openData || b.state == .openLog
  match s.flash.blocks.find? (fun b => open_ b && decide (15 ≤ b.filled)) with
  | some b => some (.parity b)
  | none =>
    match s.flash.blocks.find? (fun b => open_ b && s.flash.padRows.contains (b.num, b.row)) with
    | some b => some (.pad b)
    | none =>
      let data : Option Job := s.oldestToProgram.bind (fun c => (s.targetOf c).map (s.dataJob c))
      let copy : Option Job := s.nextCopy.bind (fun c => (s.copyTarget c).map (Job.copy c))
      if s.zone = zNORMAL ∧ !s.nextCopy.any s.ofRebuild then data.orElse (fun _ => copy) else copy.orElse (fun _ => data)

/-- Opens the blocks that the next program needs. -/
def prepareJob : Act Unit := do
  let s ← rd
  if s.zone ≠ zFROZEN then
    match s.oldestToProgram with
    | some c =>
      if (s.targetOf c).isNone then
        openFor c
        let s ← rd
        if s.zone = zFULL ∧ (s.targetOf c).isNone then openSpare c
    | none => pure ()
  let s ← rd
  match s.nextCopy with
  | none => pure ()
  | some c =>
    if s.zone ≠ zFROZEN ∧ (s.copyTarget c).isNone then
      let b ← openBlock (fun b => { b with state := .openData, vol := 0, strand := 0 })
      emit (.flash fun f => { f with gcBlock := b })

/-- A block's page counts: the row goes on, and a complete row lets the next begin; full data rows close the block. -/
def pageProgrammed (b : LBlock) (p : Page) : Act Unit := do
  let s ← rd
  addWrap F.FLZ_PROG_CNT_CNT 1
  putPage b p.row p.pos (if p.kind = 0x10 then s.rowParity b.num p.row else p.image)
  emit (.nv fun v => { v with sys := { v.sys with pages := v.sys.pages ++ [p] } })
  if p.kind = 0x10 then
    setBlock b.num (fun b => { b with row := b.row + 1, filled := 0 })
    emit (.flash fun f => { f with padRows := f.padRows.filter (fun x => x != (b.num, b.row)) })
    if b.closing ∨ s.dataRows ≤ b.row + 1 then closeBlock b.num
    if s.dataRows ≤ b.row + 1 then forAll ((← rd).block b.num).toList resolveLog
    if s.flash.gcBlock = some b.num ∧ s.dataRows ≤ b.row + 1 then emit (.flash fun f => { f with gcBlock := none })
  else setBlock b.num (fun b => { b with filled := b.filled + 1, lastWrite := s.now })

/-- The sectors that take a row in the cache. -/
def markRow (l : List CacheSector) (b : LBlock) : Act Unit :=
  emit (.cache fun c => c.map (fun x => if l.any (fun y => y.seq == x.seq) then { x with row := some (b.num, b.row) } else x))

/-- A sector of the cache as a page stores it. -/
def storedOf (c : CacheSector) (chunk : Nat) : Stored :=
  { vol := c.vol, lsa := c.lsa, seq := c.seq, strand := c.strand, data := c.data, poison := c.poison, ver := c.seq, chunk := chunk
    at_ := c.at_ }

/-- STORED_SECTORS of a strand (R380). -/
def countStored (strand n : Nat) (compressed : Bool) : Act Unit :=
  setStrand strand (fun t => { t with stored := t.stored + n, anyCompressed := t.anyCompressed || compressed, dirty := true })

/-- Landing sectors of a strand are to be written again (R303). -/
def uncountStored (strand n : Nat) : Act Unit := setStrand strand (fun t => { t with stored := t.stored - n, dirty := true })

/-- An extent joins the run of the block that takes it (R289). -/
def bindExtent (b : LBlock) (ext : Nat) : Act Unit := do
  if b.logOf.isNone ∧ b.base + b.run = ext ∧ 0 < b.run then setBlock b.num (fun b => { b with run := b.run + 1 })

/-- The next page program ends well. -/
def programOk (j : Job) : Act Unit := do
  let s ← rd
  match j with
  | .parity b => pageProgrammed b { lblock := b.num, row := b.row, pos := b.row % 16, kind := 0x10 }
  | .pad b =>
    emit (.issue 1)
    pageProgrammed b { lblock := b.num, row := b.row, pos := dataPosition b.row b.filled, kind := 0x01, seq := s.nextSeq,
                       srcSeq := s.nextSeq }
  | .copy c b =>
    let recent := s.flash.freed.filter (fun x => decide (s.now < x.1 + 100000))
    emit (.flash fun f => { f with copies := f.copies.filter (· != c), freed := (s.now, -16384) :: recent })
    match s.nv.sys.pages.find? (fun p => (p.lblock, p.row, p.pos) == c.src) with
    | none => pure ()
    | some p =>
      if c.rebuilt ∨ (s.block p.lblock).any (fun x => s.lunFailed ((x.members.getD p.pos (0, 0)).1)) then incStop F.FLZ_RECON_CNT_CNT
      emit (.issue (max 4 p.slots.length))
      pageProgrammed b { p with lblock := b.num, row := b.row, pos := dataPosition b.row b.filled, seq := s.nextSeq
                                relocated := true
                                slots := p.slots.map (fun x => { x with seq := s.nextSeq + (x.seq - p.seq) }) }
  | .data b l =>
    match l with
    | [] => pure ()
    | c :: _ =>
      forAll l (fun x => bindExtent b (extentOf x.lsa))
      let seq := if c.moved.isSome then s.nextSeq else c.seq
      if c.moved.isSome then emit (.issue 4)
      pageProgrammed b { lblock := b.num, row := b.row, pos := dataPosition b.row b.filled, seq := seq, srcSeq := c.seq
                         relocated := c.moved.isSome
                         used := l.length, slots := l.map (fun x => { storedOf x 0 with seq := seq + (x.seq - c.seq) }) }
      markRow l b
      countStored c.strand l.length false
      emit (.flash fun f => { f with lastHostProgram := s.now })
  | .chunk b l n left first =>
    match l with
    | [] => pure ()
    | c :: _ =>
      bindExtent b (extentOf c.lsa)
      if first then
        let k := chunkSectors l
        addWrap F.FLZ_CMP_IN_CNT_CNT 65536
        addWrap F.FLZ_CMP_OUT_CNT_CNT (4096 * n)
        if k.2 = false then incStop F.FLZ_CMP_RAW_CNT_CNT
      let seq := c.seq + (n - left)
      let last : Bool := decide (left ≤ 4)
      pageProgrammed b { lblock := b.num, row := b.row, pos := dataPosition b.row b.filled, seq := seq, srcSeq := seq
                         used := min 4 left, slots := if last then l.map (fun x => storedOf x n) else []
                         pieces := if last then [] else l.map (fun x => storedOf x n), pieceAt := n - left }
      if last then
        markRow l b
        countStored c.strand n (chunkSectors l).2
      emit (.flash fun f => { f with lastHostProgram := s.now
                                     chunk := if last then none else some (c.vol, c.lsa / 16 * 16, left - 4) })

/-- The block and position that a program goes to. -/
def Job.place : Job → LBlock × Nat
  | .parity b => (b, b.row % 16)
  | .pad b => (b, dataPosition b.row b.filled)
  | .copy _ b => (b, dataPosition b.row b.filled)
  | .data b _ => (b, dataPosition b.row b.filled)
  | .chunk b _ _ _ _ => (b, dataPosition b.row b.filled)

/-- A page program fails (R303): the erase block is retired, its valid pages are copied, and the row is written again. -/
def programFailed (j : Job) : Act Unit := do
  let (b, pos) := j.place
  let s ← rd
  let lost := (s.pagesOf b.num).filter (fun p => p.row == b.row && p.kind == 0)
  let again := lost.filter Page.relocated
  forAll (lost.filter (fun p => !p.relocated)) (fun p => forAll (p.slots.take 1) (fun x =>
    uncountStored x.strand (if x.chunk = 0 then p.used else x.chunk)))
  emit (.nv fun v => { v with sys := { v.sys with pages := v.sys.pages.filter (fun p => !(p.lblock == b.num && p.row == b.row)) } })
  emit (.cache fun l => l.map (fun x => if x.row = some (b.num, b.row) then { x with row := none } else x))
  emit (.flash fun f => { f with chunk := none, padRows := f.padRows.filter (fun x => x != (b.num, b.row)) })
  setBlock b.num (fun b => { b with row := b.row + 1, filled := 0 })
  let sources := s.nv.sys.pages.filter (fun q => s.pageValid q && again.any (fun p => p.srcSeq == q.srcSeq && p.seq != q.seq))
  let copies := sources.map (fun q => ({ src := (q.lblock, q.row, q.pos) } : Copy))
  emit (.flash fun f => { f with copies := f.copies ++ copies })
  copyMember b.num pos
  retireBlock b.num pos
  let s ← rd
  if s.dataRows ≤ b.row + 1 then closeBlock b.num

/-! ### Rows to be completed (R286) -/

/-- Rows that hold data of the given sectors are to be padded. -/
def padFor (keep : Stored → Bool) : Act Unit := do
  let s ← rd
  forAll (s.flash.blocks.filter (fun b => (b.state == .openData || b.state == .openLog) && decide (0 < b.filled))) (fun b => do
    let s ← rd
    if ((s.pagesOf b.num).filter (fun p => p.row == b.row)).any (fun p => p.slots.any keep) then padRow b.num)

end Sys2Proof.Machine
end

