-- ==== Sys2Proof/Machine/Chunks.lean ====
section
/-! DEFINITION. DEFLATE streams (RFC 1951), the decoding of stored chunks, and the sectors that the decoded-sector buffers hold for a reader (R19,
R496 to R499). -/

namespace Sys2Proof.Machine

/-! ### DEFLATE (R497, R498: RFC 1951) -/

/-- The bits of a stream, each byte's least significant bit first. -/
def streamBits (l : List Byte) : List Bool := l.flatMap (fun b => (List.range 8).map b.getLsbD)

/-- The number that the first `n` bits spell, least significant first, and the rest; none where the stream ends. -/
def takeBits (n : Nat) (l : List Bool) : Option (Nat × List Bool) :=
  if l.length < n then none else some ((l.take n).foldr (fun b a => 2 * a + b.toNat) 0, l.drop n)

/-- One symbol of the canonical code with these code lengths, from length `n` on: `code` read so far, the first code and the number of the first
symbol of length `n`. -/
def huffman (lens : List Nat) : Nat → Nat → Nat → Nat → List Bool → Option (Nat × List Bool)
  | 0, _, _, _, _ => none
  | _, _, _, _, [] => none
  | fuel + 1, n, code, first, b :: bits =>
    let code := 2 * code + b.toNat
    let syms := (List.range lens.length).filter (fun i => lens.getD i 0 == n)
    if code < first + syms.length then (if code < first then none else some (syms.getD (code - first) 0, bits))
    else huffman lens fuel (n + 1) code (2 * (first + syms.length)) bits

def readSymbol (lens : List Nat) (bits : List Bool) : Option (Nat × List Bool) := huffman lens 15 1 0 0 bits

/-- Base length and extra bits of length codes 257 to 285, and base distance and extra bits of distance codes 0 to 29. -/
def lengthCode (s : Nat) : Nat × Nat :=
  if s < 265 then (s - 254, 0)
  else if s = 285 then (258, 0)
  else let e := (s - 261) / 4; (3 + 2 ^ (e + 2) + (s - 261) % 4 * 2 ^ e, e)

def distanceCode (s : Nat) : Nat × Nat :=
  if s < 4 then (s + 1, 0) else let e := s / 2 - 1; (1 + 2 ^ (e + 1) + s % 2 * 2 ^ e, e)

/-- Output bytes, newest first, with `n` copied from distance `d`. -/
def copyBack (d : Nat) : Nat → List Byte → List Byte
  | 0, out => out
  | n + 1, out => copyBack d n (out.getD (d - 1) 0 :: out)

/-- The symbols of one block up to its end. The outcome is the rest of the stream, none where it is not valid, and the output, newest first. -/
def inflateSymbols (lit dist : List Nat) : Nat → List Bool → List Byte → Option (List Bool) × List Byte
  | 0, _, out => (none, out)
  | fuel + 1, bits, out =>
    match readSymbol lit bits with
    | none => (none, out)
    | some (s, bits) =>
      if s < 256 then inflateSymbols lit dist fuel bits (BitVec.ofNat 8 s :: out)
      else if s = 256 then (some bits, out)
      else if 285 < s then (none, out)
      else
        let r := do
          let (x, bits) ← takeBits (lengthCode s).2 bits
          let (d, bits) ← readSymbol dist bits
          let (y, bits) ← takeBits (distanceCode d).2 bits
          if d < 30 ∧ (distanceCode d).1 + y ≤ out.length then return ((lengthCode s).1 + x, (distanceCode d).1 + y, bits) else none
        match r with
        | none => (none, out)
        | some (n, d, bits) => inflateSymbols lit dist fuel bits (copyBack d n out)

/-- The code lengths of a dynamic block: 16 repeats the last 3 to 6 times, 17 and 18 repeat 0. -/
def readLengths (code : List Nat) (want : Nat) : Nat → List Bool → List Nat → Option (List Nat × List Bool)
  | 0, _, _ => none
  | fuel + 1, bits, acc =>
    if want ≤ acc.length then (if acc.length = want then some (acc, bits) else none)
    else do
      let (s, bits) ← readSymbol code bits
      if s < 16 then readLengths code want fuel bits (acc ++ [s])
      else if s = 16 ∧ acc = [] then none
      else
        let (x, bits) ← takeBits (if s = 16 then 2 else if s = 17 then 3 else 7) bits
        readLengths code want fuel bits (acc ++ List.replicate (x + if s = 18 then 11 else 3) (if s = 16 then acc.getLastD 0 else 0))

/-- The order in which a dynamic block lists the lengths of its length code. -/
def lengthOrder : List Nat := [16, 17, 18, 0, 8, 7, 9, 6, 10, 5, 11, 4, 12, 3, 13, 2, 14, 1, 15]

/-- The codes of a dynamic block. -/
def dynamicCodes (bits : List Bool) : Option (List Nat × List Nat × List Bool) := do
  let (hlit, bits) ← takeBits 5 bits
  let (hdist, bits) ← takeBits 5 bits
  let (hclen, bits) ← takeBits 4 bits
  let (v, bits) ← takeBits (3 * (hclen + 4)) bits
  let code := (List.range 19).map (fun i => let p := lengthOrder.idxOf i; if p < hclen + 4 then bitsOf v (3 * p) 3 else 0)
  let (l, bits) ← readLengths code (hlit + 257 + hdist + 1) (hlit + hdist + 259) bits []
  return (l.take (hlit + 257), l.drop (hlit + 257), bits)

/-- The codes of a fixed block. -/
def fixedCodes : List Nat × List Nat :=
  (List.replicate 144 8 ++ List.replicate 112 9 ++ List.replicate 24 7 ++ List.replicate 8 8, List.replicate 30 5)

/-- The blocks of a stream up to its final one; `pos` is the number of bits read. Whether the stream is valid, and its output, newest first. -/
def inflateBlocks (total : Nat) : Nat → List Bool → List Byte → Bool × List Byte
  | 0, _, out => (false, out)
  | fuel + 1, bits, out =>
    match takeBits 3 bits with
    | none => (false, out)
    | some (h, bits) =>
      let r : Option (List Bool) × List Byte :=
        match h / 2 with
        | 0 =>
          let bits := bits.drop ((8 - (total - bits.length) % 8) % 8)
          match takeBits 32 bits with
          | none => (none, out)
          | some (v, bits) =>
            let n := v % 65536
            if v / 65536 = 65535 - n then
              (if bits.length < 8 * n then none else some (bits.drop (8 * n)),
                ((List.range (min n (bits.length / 8))).map (fun i =>
                  BitVec.ofNat 8 (((bits.drop (8 * i)).take 8).foldr (fun b a => 2 * a + b.toNat) 0))).reverse ++ out)
            else (none, out)
        | 1 => inflateSymbols fixedCodes.1 fixedCodes.2 (bits.length + 1) bits out
        | 2 =>
          match dynamicCodes bits with
          | none => (none, out)
          | some (lit, dist, bits) => inflateSymbols lit dist (bits.length + 1) bits out
        | _ => (none, out)
      match r.1 with
      | none => (false, r.2)
      | some rest => if h % 2 = 1 then (true, r.2) else inflateBlocks total fuel rest r.2

/-- The bytes that a stream yields, and whether it ends at its final block (R498). -/
def inflate (l : List Byte) : Bool × List Byte :=
  let bits := streamBits l
  let r := inflateBlocks bits.length (bits.length + 1) bits []
  (r.1, r.2.reverse)

/-! ### Sectors for a reader (R19, R233, R496 to R499) -/

/-- What a reader is given of a sector (R19, R237). -/
structure DiscSector where
  lsa : Nat
  data : Sector
  /-- STRAND of its header (R64). -/
  strand : Nat := 0
  /-- Highest rung of the retry ladder that it, or a member of its chunk, entered (R232). -/
  rung : Nat := 0
  poisoned : Bool := false
  /-- Whether its chunk does not decode (R498). -/
  badChunk : Bool := false
  /-- The erasure map and trailer of its salvage record, where the disc path poisoned it (R237, R385, R495, R499). -/
  salvage : Option (List Byte) := none
deriving DecidableEq, Repr

/-- The user bytes of a payload. -/
def payloadUser (b : List Byte) : List Byte := b.drop 64

/-- The user bytes of a payload as a sector. -/
def payloadSector (b : List Byte) : Sector := BitVec.ofNat 32768 (ofLeBytes ((payloadUser b).take 4096))

/-- A sector that is poisoned, by the disc path or as it was written (R495). -/
def SectorCopy.bad (x : SectorCopy) : Bool := x.poison || (Header.read x.payload).poison

/-- The copies that the decoded-sector buffers hold of a volume's disc sectors, for a reader of a class: those poisoned for it come first, and one poisoned
for other classes alone is not for it (R233). -/
def State.copies (s : State) (vol cls : Nat) : List SectorCopy :=
  let l := s.dram.sectors.filter (fun x => x.vol == vol && !x.parity && !x.stray)
  l.filter (fun x => x.classes.contains cls) ++ l.filter (fun x => x.classes.isEmpty)

/-- The members of the chunk that holds an LSA, in order; none while one is missing (R496, R498). -/
def State.chunkCopies (s : State) (vol cls lsa len : Nat) : Option (List SectorCopy) :=
  (List.range len).mapM (fun j => (s.copies vol cls).find? (fun x => x.lsa == lsa / 16 * 16 && x.member == some j))

/-- The erasure map and trailer of a salvage entry: erasure bits, and a rung and a number of attempts (R237). -/
def salvageEntry (erased : List Bool) (rung attempts : Nat) : List Byte :=
  (List.range 512).map (fun j => BitVec.ofNat 8 ((List.range 8).map (fun b => if erased.getD (8 * j + b) false then 2 ^ b else 0)).sum) ++
  leBytes 2 0 ++ leBytes 1 rung ++ leBytes 1 attempts ++ leBytes 2 (erased.filter id).length ++ zeroBytes 10

/-- Whether byte `n` of a sector's user bytes is erased, by the map of its salvage record. -/
def SectorCopy.erased (x : SectorCopy) (n : Nat) : Bool := x.bad && (x.salvage.isEmpty || (x.salvage.getD (n / 8) 0xFF).getLsbD (n % 8))

/-- A sector of a chunk stored compressed or raw, from its members (R496 to R499). -/
def chunkSector (l : List SectorCopy) (lsa : Nat) : DiscSector :=
  let i := lsa % 16
  let bytes := l.flatMap (fun x => (payloadUser x.payload).take 4096)
  let at_ (o n : Nat) : Nat := ofLeBytes ((bytes.drop o).take n)
  let rung := (l.map SectorCopy.rung).foldl max 0
  let raw : Bool := l.length == 17
  let slice (b : List Byte) : Sector := BitVec.ofNat 32768 (ofLeBytes ((b.drop (4096 * i)).take 4096))
  let descOk : Bool := at_ 28 4 == (crc32 (bytes.take 28)).toNat && decide (at_ 2 1 = if raw then 0 else 1)
  let erasedAt (n : Nat) : Bool := (l[n / 4096]?).all (fun x => x.erased (n % 4096))
  if raw then
    let hit : Bool := ((l.drop i).take 2).any SectorCopy.bad
    let body := (bytes.drop 32).take 65536
    let ok : Bool := descOk && at_ 8 4 == (crc32 body).toNat
    if hit then
      { lsa := lsa, data := slice body, rung := rung, poisoned := true
        salvage := some (salvageEntry ((List.range 4096).map (fun n => erasedAt (32 + 4096 * i + n))) rung 0) }
    else { lsa := lsa, data := slice body, strand := at_ 20 4, rung := rung, badChunk := !ok && !l.any SectorCopy.bad }
  else
    let trusted := (l.takeWhile (fun x => !x.bad)).length * 4096
    let lost : Bool := l.any SectorCopy.bad
    let r := inflate (((bytes.take (if lost then trusted else bytes.length)).drop 32).take (at_ 4 4))
    if lost then
      { lsa := lsa, data := slice r.2, rung := rung, poisoned := true
        salvage := some (salvageEntry ((List.range 4096).map (fun n => decide (r.2.length ≤ 4096 * i + n))) rung 0) }
    else
      let ok : Bool := descOk && r.1 && r.2.length == 65536 && at_ 8 4 == (crc32 r.2).toNat
      { lsa := lsa, data := slice r.2, strand := at_ 20 4, rung := rung, badChunk := !ok }

/-- A disc sector as the decoded-sector buffers give it to a reader of a class; none while it, or a member of its chunk, is not there (R19, R496). -/
def State.discSector (s : State) (vol cls lsa : Nat) : Option DiscSector :=
  match (s.copies vol cls).find? (fun x => x.lsa == lsa && x.member.isNone) with
  | some x => some {
      lsa := lsa, data := payloadSector x.payload, strand := (Header.read x.payload).strand, rung := x.rung, poisoned := x.bad
      salvage := if x.poison then some x.salvage else none }
  | none => (s.chunkCopies vol cls lsa ((s.extent vol (extentOf lsa)).chunkLen.getD (lsa % 256 / 16) 16)).bind (fun l =>
      if l.isEmpty then none else some (chunkSector l lsa))

/-- The sectors of a list that the buffers hold. -/
def State.discSectors (s : State) (vol cls : Nat) (l : List Nat) : List DiscSector := l.filterMap (s.discSector vol cls)

/-- Sectors leave the decoded-sector buffers once they have been handed over to a reader of a class, a chunk with any of its sectors; one poisoned for other
classes too stays for those (R233). -/
def dropCopies (vol cls : Nat) (l : List Nat) : Act Unit :=
  emit (.dram fun d => { d with sectors := d.sectors.filterMap (fun x =>
    if x.vol == vol && !x.parity && l.any (fun a => if x.member.isNone then a == x.lsa else a / 16 == x.lsa / 16) then
      let others := x.classes.filter (· != cls)
      if others.isEmpty then none else some { x with classes := others }
    else some x) })

end Sys2Proof.Machine
end

