-- ==== Sys2Proof/Machine/Destage.lean ====
section
/-! DEFINITION. Disc requests (R320), disc space (R329), and write sessions: staging extents over band pairs, skipped runs,
relocation, directory sectors, passport records and the commit of map entries (R257 to R262, R322 to R326, R331, R338, R339). -/

namespace Sys2Proof.Machine

/-! ### The disc table (R314, R320) -/

def State.disc (s : State) (id : Nat) : Option Disc := s.discs.find? (fun d => d.id == id)

def setDisc (id : Nat) (g : Disc → Disc) : Act Unit := emit (.discs fun l => l.map (fun d => if d.id == id then g d else d))

/-- The disc mounted in a bay. -/
def State.discIn (s : State) (b : Fin 4) : Option Disc := s.discs.find? (fun d => d.bay == some b)

abbrev reasonREAD : Nat := 1
abbrev reasonDESTAGE : Nat := 2
abbrev reasonMERGE : Nat := 3
abbrev reasonSCRUB : Nat := 4
abbrev reasonMIGRATE : Nat := 5

/-- Raises DISC_NEEDED once for a disc and reason (R320). -/
def requestDisc (disc vol reason : Nat) : Act Unit := do
  let s ← rd
  if !s.requests.any (fun r => r.disc == disc && r.reason == reason) then
    emit (.requests fun l => l ++ [{ disc := disc, vol := vol, reason := reason }])
    raise Ev.DISC_NEEDED reason 0 (disc + 2 ^ 64 * vol)

/-- A request's reason has lapsed, or its disc has been mounted. -/
def lapseRequests (p : DiscRequest → Bool) : Act Unit := emit (.requests fun l => l.filter (fun r => !p r))

/-! ### Space (R72, R329) -/

def blankBand (num p : Nat) : Band := { num := num, parity := p, track := dataStart num }

def Disc.band (d : Disc) (num : Nat) : Band := (d.bands.find? (fun b => b.num == num)).getD (blankBand num d.parity)

def Disc.setBand (d : Disc) (b : Band) : Disc := { d with bands := b :: d.bands.filter (fun x => x.num != b.num) }

/-- Skipped runs of a band as places. -/
def Band.holes (b : Band) : List (Nat × Nat) := b.runs.map (fun r => (r.1, r.2.1))

/-- Usable data frames of a band. -/
def Band.usable (b : Band) : Nat :=
  let spt := sptOf (bandZone b.num)
  let lost := ((b.holes.map Prod.fst).eraseDups.map (fun t => spt - usableOn b.holes spt t)).sum
  (spareStart - dataStart b.num) * spt - lost

/-- Data sectors that the whole blocks of a band can hold (R55). -/
def Band.room (b : Band) : Nat := b.usable / (16 + b.parity) * 16

/-- Data sectors among the first `f` frames of a band. -/
def dataBelow (p f : Nat) : Nat := f / (16 + p) * 16 + min 16 (f % (16 + p))

/-- Data sectors still writable in a band. -/
def Band.left (b : Band) : Nat := if b.closed then 0 else b.room - b.laid

/-- The bands of pair `n` (R323): 32L + z on side 0 and 256 + 32L + z on side 1, z from 0 to 31 in turn for each L. -/
def pairBands (n : Nat) : Nat × Nat := (n, 256 + n)

/-- Data sectors still writable on a disc: 16 for each block of its remaining bands (R329). -/
def Disc.writable (d : Disc) : Nat :=
  if d.retired then 0
  else ((List.range 256).filter (fun n => decide (d.nextPair ≤ n))).foldl (fun a n =>
    a + (d.band n).left + (d.band (256 + n)).left) 0

/-- Data sectors of a blank disc (R72). -/
def discCapacity (p : Nat) : Nat := ((List.range 512).map (fun n => (blankBand n p).room)).sum

def State.discsOf (s : State) (vol : Nat) : List Disc := s.discs.filter (fun d => d.vol == vol && !d.retired)

/-- Writable disc space of a volume (R329). -/
def State.writable (s : State) (vol : Nat) : Nat := ((s.discsOf vol).map Disc.writable).sum

/-- The LSAs of a volume that await destage: current in DRAM or the landing zone. -/
def State.awaiting (s : State) (vol : Nat) : List Nat :=
  ((s.cache.filter (fun c => c.vol == vol && !c.stale)).map CacheSector.lsa ++
   s.nv.sys.pages.flatMap (fun p => (p.slots.filter (fun x => x.vol == vol && s.current x)).map Stored.lsa)).eraseDups

/-- Whether every sector of a chunk awaits destage and its strands compress. -/
def State.compressedChunk (s : State) (vol chunk : Nat) (l : List Nat) : Bool :=
  (List.range 16).all (fun i => l.contains (16 * chunk + i)) &&
  (List.range 16).all (fun i =>
    match s.cached vol (16 * chunk + i) with
    | some c => (s.strand c.strand).any Strand.compress
    | none => match s.landed vol (16 * chunk + i) with
      | some x => x.chunk != 0
      | none => false)

/-- The demand of a set of LSAs of a volume (R329): 17 for a chunk stored or to be stored compressed or raw, one for every other
sector. -/
def State.demandOf (s : State) (vol : Nat) (l : List Nat) : Nat :=
  (((l.map (· / 16)).eraseDups).map (fun c =>
    if s.compressedChunk vol c l then 17 else (l.filter (fun a => a / 16 == c)).length)).sum

def State.demand (s : State) (vol : Nat) : Nat := s.demandOf vol (s.awaiting vol)

/-- The demand once a WRITE's sectors are added, counted by the compression mode of its strand (R329). -/
def State.demandWith (s : State) (vol lsa count : Nat) (compress : Bool) : Nat :=
  let new := (List.range count).map (lsa + ·)
  let l := (s.awaiting vol ++ new).eraseDups
  (((l.map (· / 16)).eraseDups).map (fun c =>
    let own := l.filter (fun a => a / 16 == c)
    let whole : Bool := s.compressedChunk vol c l ||
      (compress && own.length == 16 && own.all (fun a => decide (lsa ≤ a) && decide (a < lsa + count)))
    if whole then 17 else own.length)).sum

/-- VOLUME_SPACE_LOW when a volume's free space falls below SPACE_WARN of its discs' capacity (R329). -/
def checkSpace (vol : Nat) : Act Unit := do
  let s ← rd
  let cap := ((s.discsOf vol).map (fun d => discCapacity d.parity)).sum
  let low : Bool := decide (100 * (s.writable vol - s.demand vol) < s.policy pSPACE_WARN * cap)
  match s.volumes.find? (fun v => v.num == vol) with
  | none => pure ()
  | some v =>
    if low ≠ v.spaceLow then
      emit (.volumes fun l => l.map (fun v => if v.num == vol then { v with spaceLow := low } else v))
      if low then raise Ev.VOLUME_SPACE_LOW

/-- A disc whose live fraction falls below COMPACT_LIVE is reported once; one that holds no live sector is retired (R331). -/
def checkDisc (id : Nat) : Act Unit := do
  let s ← rd
  match s.disc id with
  | none => pure ()
  | some d =>
    let c := s.policy pCOMPACT_LIVE
    if c ≠ 0 ∧ 100 * d.live < c * (d.live + d.dead) ∧ d.compactReported = false then
      setDisc id (fun d => { d with compactReported := true })
      raise Ev.COMPACT_CANDIDATE
    if d.live = 0 ∧ 0 < d.dead ∧ d.retired = false then
      let body (side : Nat) : List Byte := leBytes 2 256 ++ (List.range 256).flatMap (fun n => leBytes 2 (256 * side + n))
      setDisc id (fun d => { d with retired := true
                                    passportPending := d.passportPending ++ [(0, 6, body 0), (1, 6, body 1)] })
      raise Ev.DISC_RETIRED

/-! ### Skipped runs, padding and the end of tracks (R55, R260, R323) -/

/-- The bays' OPUs by side. -/
def opuOf (b : Fin 4) (side : Nat) : Fin 8 := if side = 0 then opuTop b else opuBottom b

/-- The band that a side of a session writes: of the disc's present pair. -/
def Disc.sideBand (d : Disc) (side : Nat) : Band := d.band (256 * side + d.nextPair)

/-- What has been written grows by `count` sectors from the start of a track offset, with these headers of data sectors. -/
def Range.grow (r : Option Range) (track count : Nat) (h : List Header) : Option Range :=
  if count = 0 then r
  else
    let a : Range := r.getD { track := track, sector := 0, count := 0, lowLsa := 2 ^ 48 - 1, highLsa := 0, firstSeq := 0, lastSeq := 0 }
    some (h.foldl (fun a h => { a with
      lowLsa := min a.lowLsa h.lsa, highLsa := max a.highLsa h.lsa, lastSeq := if h.seq = 0 then a.lastSeq else h.seq
      firstSeq := if a.firstSeq = 0 then h.seq else a.firstSeq }) { a with count := a.count + count })

/-- The first frame of a track offset in the order of R55. -/
def Band.firstFrame (b : Band) (track : Nat) : Nat :=
  ((List.range (track - dataStart b.num)).map (fun i => usableOn b.holes (sptOf (bandZone b.num)) (dataStart b.num + i))).sum

/-- The headers of the data sectors, fill sectors apart, among the first payloads of a track offset (R64, R323). -/
def Band.headersOn (b : Band) (track : Nat) (l : List (List Byte)) : List Header :=
  let data := (List.range l.length).filter (fun i => decide ((b.firstFrame track + i) % (16 + b.parity) < 16))
  (data.map (fun i => Header.read (l.getD i []))).filter (fun h => h.lsa != 2 ^ 48 - 1)

/-- The first `n` sectors of the track that an OPU has written join what its band's next range entry records, and its session's passport
record (R66, R67, R71). Frames that were left unwritten hold no payload. -/
def noteTrack (k : Fin 8) (n : Nat) : Act Unit := do
  let s ← rd
  match s.discIn (bayOf k) with
  | none => pure ()
  | some d =>
    let b := d.sideBand (k.val % 2)
    let t := s.writers[k].track % bandTracks
    let l := (s.writers[k].payloads.take n).filter (fun p => !p.isEmpty)
    let h := b.headersOn t l
    let e := b.firstFrame t + l.length
    setDisc d.id (fun d => d.setBand { b with
      range := Range.grow b.range t l.length h, earlier := if b.range.isNone then b.pending.length else b.earlier
      lastSeq := (h.map Header.seq).foldl (fun a q => if q = 0 then a else q) b.lastSeq
      frames := max b.frames e, laid := max b.laid (dataBelow b.parity e) })
    let more (x : Option (Nat × Range)) : Option (Nat × Range) := (Range.grow (x.map Prod.snd) t l.length h).map (fun r => (b.num, r))
    emit (.bay (bayOf k) fun y => { y with session := y.session.map (fun x => { x with
      wrote := if k.val % 2 = 0 then (more x.wrote.1, x.wrote.2) else (x.wrote.1, more x.wrote.2) }) })

/-- Skipped runs that an OPU's stops have left join their band, with their directory entries; the sectors before them are written (R66,
R260). -/
def recordSkips (k : Fin 8) : Act Unit := do
  let s ← rd
  match s.discIn (bayOf k) with
  | none => pure ()
  | some d =>
    let w := s.writers[k]
    if !w.skipped.isEmpty then
      forAll (w.skipped.filter (fun x => x.track == w.track)) (fun x => noteTrack k x.fromSector)
      let d := ((← rd).disc d.id).getD d
      let b := d.sideBand (k.val % 2)
      let offset (t : Nat) : Nat := t % bandTracks
      let spt := sptOf (bandZone b.num)
      let runs := w.skipped.map (fun x => (offset x.track, x.fromSector, x.reason))
      let ent := runs.map (fun r => (0x03, [r.2.2, r.1, r.2.1, spt - r.2.1, s.timeStamp]))
      let next := runs.foldl (fun a r => max a (r.1 + 1)) b.track
      setDisc d.id (fun d => d.setBand { b with runs := b.runs ++ runs, pending := b.pending ++ ent, track := next })
      emit (.writer k fun w => { w with skipped := [] })

/-- The frames at or before the end of the track that holds frame `f`, within `fuel` tracks. -/
def endOfTrack (holes : List (Nat × Nat)) (spt : Nat) : Nat → Nat → Nat → Nat → Nat
  | 0, _, acc, _ => acc
  | fuel + 1, track, acc, f =>
    let u := usableOn holes spt track
    if f < acc + u then acc + u else endOfTrack holes spt fuel (track + 1) (acc + u) f

/-- The frames of a band that its whole blocks take; those after them stay unwritten (R55). -/
def Band.whole (b : Band) : Nat := b.usable / (16 + b.parity) * (16 + b.parity)

/-- A band's last track is padded with fill sectors (R323). -/
def Band.pad (b : Band) : Band :=
  if b.laid = 0 then b
  else
    let f := max (b.frames - 1) (frameOfData b.parity (b.laid - 1))
    let e := min b.whole (endOfTrack b.holes (sptOf (bandZone b.num)) bandTracks (dataStart b.num) 0 f)
    { b with frames := e, laid := dataBelow b.parity e }

/-- The place of a band's n-th data sector: track offset and sector. -/
def Band.placeOf (b : Band) (d : Nat) : Option (Nat × Nat) :=
  placeFrom b.holes (sptOf (bandZone b.num)) bandTracks (dataStart b.num) (frameOfData b.parity d)

/-- The frame of a band that lies at a track offset and sector. -/
def Band.frameAt (b : Band) (track sector : Nat) : Nat :=
  let before := (List.range sector).filter (fun s => !(b.holes.any (fun h => h.1 == track && decide (h.2 ≤ s))))
  b.firstFrame track + before.length

/-- The index of the data sector at a frame, or of the first after it (R55). -/
def Band.dataAt (b : Band) (f : Nat) : Nat := f / (16 + b.parity) * 16 + min 16 (f % (16 + b.parity))

/-- Whether the disc copy of an extent has a sector in the `i`-th block of a band. -/
def Extent.inBlock (e : Extent) (disc : Nat) (b : Band) (i : Nat) : Bool :=
  match e.disc with
  | none => false
  | some p =>
    let first := b.dataAt (b.frameAt p.2.2.1 p.2.2.2)
    p.1 == disc && p.2.1 == b.num && decide (first < 16 * (i + 1)) && decide (16 * i < first + e.chunkLen.sum)

/-- MIGRATE is set on every extent with a sector in a block of a disc. -/
def migrateBlock (disc : Nat) (b : Band) (i : Nat) : Act Unit :=
  emit (.extents fun l => l.map (fun e => if e.inBlock disc b i then { e with migrate := true } else e))

/-- A weak block (R332): MIGRATE is set on every extent with a sector in it. -/
def markWeak (k : Fin 8) (layer track sector : Nat) : Act Unit := do
  let s ← rd
  match s.discIn (bayOf k) with
  | none => pure ()
  | some d =>
    let b := d.band (bandOf (k.val % 2) layer (track / bandTracks))
    migrateBlock d.id b (b.frameAt (track % bandTracks) sector / (16 + b.parity))

/-- Whether every sector of a track is staged with its outer parity (R251). -/
def Band.trackReady (b : Band) : Bool :=
  let spt := sptOf (bandZone b.num)
  decide (b.track < spareStart) && b.closed == false &&
  (match placeFrom b.holes spt bandTracks (dataStart b.num) (b.frames - 1) with
   | some p => decide (0 < b.frames) && decide (b.track ≤ p.1)
   | none => false)

/-! ### Staging (R322 to R324) -/

/-- The written LSAs of an extent. -/
def State.writtenIn (s : State) (vol ext : Nat) : List Nat :=
  ((List.range 256).map (256 * ext + ·)).filter (fun a => s.written vol a)

/-- Whether the landing zone holds the version of a sector that DRAM holds, so that no superseded one is staged (R17). -/
def State.landedLatest (s : State) (vol a : Nat) : Bool :=
  (s.cached vol a).all (fun c => (s.landed vol a).any (fun x => decide (c.seq ≤ x.ver)))

/-- Whether an extent has sectors in the landing zone that are not on disc, and none that DRAM alone holds in its latest version; in a FROZEN
zone those in DRAM are staged too (R17, R308). -/
def State.stageable (s : State) (vol : Nat) (l : List Nat) (ext : Nat) : Bool :=
  l.any (fun a => extentOf a == ext) && (s.zone == zFROZEN || (s.writtenIn vol ext).all (s.landedLatest vol))

/-- The version of a sector that a session stages: the landing copy, or the DRAM copy of a FROZEN zone, or the disc copy it is
merged from (R308, R324). -/
def State.stageVersion (s : State) (vol lsa : Nat) : Option Nat :=
  match (if s.zone = zFROZEN then s.cached vol lsa else none) with
  | some c => some c.seq
  | none => match s.landed vol lsa with
    | some x => some x.ver
    | none => s.discVer vol lsa

/-- The sectors of an extent that must be read from its disc copy before it is staged (R324). -/
def State.mergeLsas (s : State) (vol ext : Nat) : List Nat :=
  (s.writtenIn vol ext).filter (fun a => (s.landed vol a).isNone && (s.discVer vol a).isSome && (s.cached vol a).isNone)

/-- The disc that an extent must be merged from. -/
def State.needsMerge (s : State) (vol ext : Nat) : Option Nat :=
  match (s.extent vol ext).disc with
  | none => none
  | some d => if (s.mergeLsas vol ext).isEmpty then none else some d.1

/-- Stored sectors of each chunk of an extent as it is staged (R315, R317). -/
def State.stageChunks (s : State) (vol ext : Nat) : List Nat :=
  (List.range 16).map (fun c =>
    let l := ((List.range 16).map (256 * ext + 16 * c + ·)).filter (fun a => s.written vol a)
    if l.isEmpty then 0
    else
      let ch := l.filterMap (fun a => (s.landed vol a).map Stored.chunk)
      match ch with
      | n :: _ => if ch.length = 16 ∧ ch.all (· == n) ∧ n ≠ 0 then n else 16
      | [] => 16)

/-- Chunks of an extent that are staged sector by sector. -/
def State.plainChunks (s : State) (vol ext : Nat) : List Bool :=
  (List.range 16).map (fun c =>
    let l := ((List.range 16).map (256 * ext + 16 * c + ·)).filter (fun a => s.written vol a)
    let ch := l.filterMap (fun a => (s.landed vol a).map Stored.chunk)
    !(ch.length == 16 && ch.headD 0 != 0 && ch.all (· == ch.headD 0)))

/-- Sectors staged on a side and not yet passed (R323). -/
def Session.stagedOn (x : Session) (side : Nat) : Nat :=
  ((x.staged.filter (fun t => t.band / 256 == side)).map (fun t => t.chunks.sum)).sum

/-- Both bands of a disc's pair take a close entry, and the disc moves to its next pair (R69, R323). -/
def Disc.nextPairOf (d : Disc) (time : Nat) : Disc :=
  let close (b : Band) : Band := if b.closed then b else { b with closed := true, pending := b.pending ++ [(0x04, [time, b.lastSeq])] }
  let d := (d.setBand (close (d.sideBand 0))).setBand (close (d.sideBand 1))
  { d with nextPair := d.nextPair + 1 }

/-- A sector read from a disc is poisoned on its own account, or because its chunk did not decode (R498). -/
def DiscSector.bad (d : DiscSector) : Bool := d.poisoned || d.badChunk

/-- Chunks that did not decode are counted and raised (R498). -/
def noteChunks (reads : List DiscSector) : Act Unit :=
  forAll (((reads.filter (fun d => d.badChunk)).map (fun d => d.lsa / 16)).eraseDups) (fun _ => do
    incStop F.FLZ_CMP_ERR_CNT_CNT
    raise Ev.CHUNK_DECODE_FAIL)

/-- The class at which a destage, a compaction or a migration reads (R325, R331, R332). -/
abbrev destageClass : Nat := 3

/-- The sectors of an extent as they are staged (R324): from the write cache, the landing zone, or read from the disc copy. -/
def State.stageData (s : State) (vol : Nat) (v : Nat × Nat) : Nat × Nat × Bool × Sector :=
  match s.cache.find? (fun c => c.vol == vol && c.lsa == v.1 && c.seq == v.2) with
  | some c => (v.1, c.strand, c.poison, c.data)
  | none =>
    match s.landed vol v.1 with
    | some x => (v.1, x.strand, x.poison, x.data)
    | none =>
      match s.discSector vol destageClass v.1 with
      | some d => (v.1, d.strand, d.bad, d.data)
      | none => (v.1, 0, true, 0)

/-- Stages one extent on the side with fewer sectors staged, on the other where it does not fit, or in the next pair (R323). -/
def stageExtent (b : Fin 4) (vol ext : Nat) : Nat → Act Unit
  | 0 => pure ()
  | fuel + 1 => do
    let s ← rd
    match s.discIn b, s.bays[b].session with
    | some d, some x =>
      let chunks := s.stageChunks vol ext
      let n := chunks.sum
      let avoid (side : Nat) : Bool := d.rewrite.any (fun r => r.1 == ext && r.2 == (d.sideBand side).num)
      let fits (side : Nat) : Bool := decide (n ≤ (d.sideBand side).left) && !avoid side
      let first := if x.stagedOn 1 < x.stagedOn 0 then 1 else 0
      let side : Option Nat := if fits first then some first else if fits (1 - first) then some (1 - first) else none
      match side with
      | some z =>
        let band := d.sideBand z
        let versions := (s.writtenIn vol ext).filterMap (fun a => (s.stageVersion vol a).map (fun v => (a, v)))
        let t : Staged := { vol := vol, ext := ext, band := band.num, first := band.laid, chunks := chunks
                            plain := s.plainChunks vol ext
                            versions := versions, data := versions.map (s.stageData vol), gen := (s.extent vol ext).gen }
        setDisc d.id (fun d => d.setBand { band with laid := band.laid + n, parity := if band.laid = 0 then d.parity else band.parity })
        let x' := { x with staged := x.staged ++ [t], highSeq := (t.versions.map Prod.snd).foldl max x.highSeq }
        emit (.bay b fun y => { y with session := some x' })
        noteRebuilt vol (s.writtenIn vol ext)
        setDisc d.id (fun d => { d with rewrite := d.rewrite.filter (fun r => r.1 != ext) })
      | none =>
        if x.staged.isEmpty ∧ d.nextPair < 255 then
          setDisc d.id (fun d => d.nextPairOf s.timeStamp)
          stageExtent b vol ext fuel
    | _, _ => pure ()

/-- Stages every extent of a session's volume that can be staged; the rest of a pair that is full waits for the next session. -/
def stageAll (b : Fin 4) : Act Unit := do
  let s ← rd
  match s.discIn b, s.bays[b].session with
  | some d, some x =>
    let vol := x.vol
    let l := s.awaiting vol
    let exts := ((l.map extentOf).eraseDups).filter (fun e => s.stageable vol l e && !x.staged.any (fun t => t.ext == e))
    forAll exts (fun e => do
      let s ← rd
      match s.needsMerge vol e with
      | some id =>
        if (s.disc id).any (fun d => d.bay.isSome) then
          setExtent vol e (fun e => { e with mergeWait := false })
          let need := s.mergeLsas vol e
          if (s.discSectors vol destageClass need).length = need.length then
            noteChunks (s.discSectors vol destageClass need)
            stageExtent b vol e 256
            dropCopies vol destageClass need
        else if (s.extent vol e).mergeWait then
          if s.policy pDESTAGE_AGE * 1000000 < s.now - (s.extent vol e).mergeAt then requestDisc id vol reasonMERGE
        else setExtent vol e (fun e => { e with mergeWait := true, mergeAt := s.now })
      | none => stageExtent b vol e 256)
    let s ← rd
    lapseRequests (fun r => r.vol == vol && r.reason == reasonMERGE &&
      !s.extents.any (fun e => e.vol == vol && e.mergeWait && (e.disc.map Prod.fst) == some r.disc))
    setDisc d.id (fun d => (d.setBand (d.sideBand 0).pad).setBand (d.sideBand 1).pad)
  | _, _ => pure ()

/-- An OPU goes to a track of a layer, unless it is on it: the sequencer runs PULL_IN or LAYER_JUMP where it is enabled, free and in focus (R129, R140). A jump under way keeps
its target. -/
def goTo (k : Fin 8) (layer track : Nat) : Act Unit := do
  let s ← rd
  let o := s.optics[k]
  let there : Bool := s.optLayer k == layer && s.optTarget k == track && s.get (F.BAY_OPT_STAT_ON_TRACK k.val) == 1
  if there = false ∧ o.phase ≠ .jumpPulse ∧ o.phase ≠ .landing then
    setF (F.BAY_OPT_TARGET_TRACK k.val) track
    if o.phase = .idle ∧ s.get (F.BAY_OPT_STAT_FOCUS_LOCKED k.val) = 1 ∧ s.get (F.BAY_OPT_CTL_ENABLE k.val) = 1 then
      if s.optLayer k = layer then beginPullIn k 3 else beginLayerJump k layer 2

/-- An OPU goes to the next track that its band is to be written on (R252). -/
def approach (k : Fin 8) (d : Disc) : Act Unit :=
  let band := d.sideBand (k.val % 2)
  goTo k (bandLayer band.num) (bandTracks * bandZone band.num + band.track)

/-! ### What a band directory has yet to record (R65 to R67) -/

/-- The band whose directory sector is written next on a side: one of an earlier pair with entries that wait, or the present one. -/
def Disc.dirBand (d : Disc) (side : Nat) : Band :=
  (d.bands.find? (fun b => bandSide b.num == side && b.num != (d.sideBand side).num && !b.pending.isEmpty)).getD (d.sideBand side)

/-- Whether a side has something to record, and room in its directory. -/
def Disc.directoryDue (d : Disc) (side : Nat) : Bool :=
  let b := d.dirBand side
  (b.range.isSome || !b.pending.isEmpty) && decide (b.dirs < directoryRoom (bandZone b.num))

/-- A write session begins on the target disc of a volume, or the disc is requested (R322). -/
def startSession (vol : Nat) : Act Unit := do
  let s ← rd
  let byOrder (l : List Disc) : Option Disc := match l with
    | [] => none
    | d :: r => some (r.foldl (fun x y => if y.order < x.order then y else x) d)
  let space := (s.discsOf vol).filter (fun d => decide (0 < d.writable) && !d.compacting)
  match byOrder (space.filter (fun d => d.bay.isSome)) with
  | some d =>
    lapseRequests (fun r => r.vol == vol && r.reason == reasonDESTAGE)
    match d.bay with
    | none => pure ()
    | some b =>
      let st := s.bayState b.val
      if (st = bREADY ∨ st = bREADING) ∧ s.bays[b].session.isNone ∧
          (opusOf b).all (fun k => s.get (F.WRP_CTL_WR_HOLD k.val) == 0) then
        let x : Session := {
          disc := d.id, vol := vol
          energy := (s.get (F.WRP_ENERGY_UJ (opuTop b).val), s.get (F.WRP_ENERGY_UJ (opuBottom b).val)) }
        emit (.bay b fun y => { y with session := some x })
        padFor (fun x => x.vol == vol)
        stageAll b
        setBay b bWRITING
        forAll (opusOf b) (fun k => approach k d)
  | none =>
    match byOrder space with
    | some d => requestDisc d.id vol reasonDESTAGE
    | none => pure ()

/-! ### Commit and the end of a session (R67, R326, R338) -/

/-- Whether every stored sector of a staged extent has passed. -/
def State.stagedPassed (s : State) (k : Fin 8) (b : Band) (t : Staged) : Bool :=
  let zone := bandZone b.num
  (List.range t.chunks.sum).all (fun i =>
    match b.placeOf (t.first + i) with
    | some p => s.writers[k].passed.contains (bandTracks * zone + p.1, p.2)
    | none => false)

/-- Whether the directory sectors that have passed record every stored sector of a staged extent, its relocated copies included (R67). -/
def Band.records (b : Band) (t : Staged) : Bool :=
  (List.range t.chunks.sum).all (fun i =>
    match b.placeOf (t.first + i) with
    | some p => decide (p.1 < b.recorded) && !b.pending.any (fun e => e.1 == 0x02 && e.2.getD 0 0 == p.1 && e.2.getD 1 0 == p.2)
    | none => false)

/-- The map entry of an extent commits to its new disc copy (R326): the map log takes it, the old disc copy dies, and landing pages
and DRAM copies whose SEQ was destaged are invalidated. -/
def commitExtent (d : Disc) (b : Band) (t : Staged) : Act Unit := do
  let s ← rd
  let old := s.extent t.vol t.ext
  match b.placeOf t.first with
  | none => pure ()
  | some p =>
    let kept := t.versions.filter (fun x => s.written t.vol x.1)
    let place := if kept.isEmpty then none else some (d.id, b.num, p.1, p.2)
    setExtent t.vol t.ext (fun e => { e with disc := place, parity := b.parity, chunkLen := t.chunks
                                             onDisc := kept, migrate := false, mergeWait := false, logSeq := s.nextSeq })
    let s ← rd
    emit (.nv fun v => { v with sys := { v.sys with mapLog := v.sys.mapLog ++ [s.extent t.vol t.ext] } })
    let gone := t.versions.filter (fun x => !s.written t.vol x.1)
    let n := t.versions.length
    setDisc d.id (fun d => { d with live := d.live + (n - gone.length), dead := d.dead + gone.length, changed := true })
    match old.disc with
    | some o =>
      let m := (old.onDisc.filter (fun x => s.written t.vol x.1)).length
      setDisc o.1 (fun d => { d with live := d.live - m, dead := d.dead + m })
      checkDisc o.1
    | none => pure ()
    emit (.flash fun f => { f with discDone := (t.vol, s.now, 4096 * n) ::
                                                 (f.discDone.filter (fun x => decide (s.now < x.2.1 + 1000000))) })
    emit (.cache fun l => l.map (fun c =>
      if c.vol == t.vol && t.versions.contains (c.lsa, c.seq) then { c with stale := c.stale || c.row.isNone, moved := none } else c))
    sweepCache
    settleBlocks

/-- A disc's volume map sectors have been written and recorded (R319). -/
def commitMap (id : Nat) (t : Staged) : Act Unit := do
  let s ← rd
  setDisc id (fun d => { d with changed := false, mapSeq := s.nextSeq, mapSectors := d.mapSectors + t.map.length })

/-- Commits every extent of a side whose sectors have all passed, once the directory sectors that record them have (R67, R326). -/
def commitSide (b : Fin 4) (side : Nat) : Act Unit := do
  let s ← rd
  match s.discIn b, s.bays[b].session with
  | some d, some x =>
    let band := d.sideBand side
    let k := opuOf b side
    let done := x.staged.filter (fun t => t.band == band.num && s.stagedPassed k band t && band.records t)
    emit (.bay b fun y => { y with session := some { x with staged := x.staged.filter (fun t => !done.contains t) } })
    forAll done (fun t => do
      let s ← rd
      match s.discIn b with
      | some d => if t.map.isEmpty then commitExtent d (d.sideBand side) t else commitMap d.id t
      | none => pure ())
    checkSpace x.vol
  | _, _ => pure ()

/-! ### Passport records (R70, R71, R338, R339) -/

/-- The first 16 bytes of the digest of the part's certificate, WRITER of its records (R71, R519). -/
def writerId : Nat := ofLeBytes ((digestBytes Config.certDigest).take 16).reverse

/-- The payload of a passport record (R64, R71): header of TYPE 4 with the record's number as LSA, then the signed record. `sign` tells one
signing from the next. The header's volume and block position are the model's choice (assumption log 32). -/
def passportPayload (vol disc n kind time seq sign : Nat) (body : List Byte) : List Byte :=
  let b := passportBody kind n disc time seq writerId body
  Header.bytes { vol := vol, lsa := n, seq := seq, strand := 0, type := 4 } ++ b ++ beBytes 64 (Config.identitySignature sign b).toNat

/-- A passport record waits to be written on a side, unless the side has no room for it (R338, R339). -/
def addRecord (id side kind : Nat) (body : List Byte) : Act Unit := do
  let s ← rd
  match s.disc id with
  | none => pure ()
  | some d =>
    let left := (if side = 0 then d.passportLeft.1 else d.passportLeft.2) - (d.passportPending.filter (fun r => r.1 == side)).length
    if left = 0 then raise Ev.PASSPORT_FULL
    else if kind = 3 ∧ left < 256 then raise Ev.PASSPORT_LOW
    else setDisc id (fun d => { d with passportPending := d.passportPending ++ [(side, kind, body)] })

/-- Whether a side of a session has nothing left to be done: no write in progress, nothing to be relocated, and what was written is recorded
(R67, R257). -/
def State.sideDone (s : State) (k : Fin 8) (d : Disc) : Bool :=
  !s.writers[k].active && s.writers[k].job.isNone && s.writers[k].relocate.isEmpty && s.writers[k].directory.isNone && (d.sideBand (k.val % 2)).range.isNone

/-- The session ends once nothing staged is left and what it has written is recorded: its write-session records wait to be written, and the
bay reads (R67, R338). -/
def endSession (b : Fin 4) : Act Unit := do
  let s ← rd
  match s.discIn b, s.bays[b].session with
  | some d, some x =>
    if x.staged.isEmpty ∧ (opusOf b).all (fun k => s.sideDone k d) then
      emit (.bay b fun y => { y with session := none })
      forAll [0, 1] (fun side => do
        let s ← rd
        let k := opuOf b side
        match (if side = 0 then x.wrote.1 else x.wrote.2) with
        | none => pure ()
        | some w =>
          let energy := s.get (F.WRP_ENERGY_UJ k.val) - (if side = 0 then x.energy.1 else x.energy.2)
          addRecord d.id side 3 (leBytes 2 w.1 ++ leBytes 2 w.2.track ++ leBytes 4 w.2.count ++ leBytes 8 w.2.firstSeq ++
            leBytes 8 w.2.lastSeq ++ leBytes 8 energy)
        emit (.writer k fun w => { w with passed := [] })
        setF (F.WRP_STAT_STATE k.val) 2)
      if s.bayState b.val = bWRITING then setBay b bREADY
  | _, _ => pure ()

/-! ### Volume map sectors (R315, R319) -/

/-- The 64 bytes of an extent's map entry (R315). -/
def State.mapEntry (s : State) (e : Extent) : List Byte :=
  let l := (List.range 256).map (256 * e.ext + ·)
  let flags := (l.any (fun a => (s.cached e.vol a).isSome)).toNat + 2 * (l.any (fun a => (s.landed e.vol a).isSome)).toNat +
    4 * e.disc.isSome.toNat + 8 * e.migrate.toNat + 16 * e.mergeWait.toNat
  let p := e.disc.getD (0, 0, 0, 0)
  let chunk (c : Nat) : Nat := if e.disc.isSome then e.chunkLen.getD c 0 else 0
  let chunks := (List.range 16).map chunk
  leBytes 1 flags ++ leBytes 1 (if e.disc.isSome then e.parity else 0) ++ leBytes 2 chunks.sum ++ leBytes 4 e.gen ++ leBytes 8 p.1 ++
  leBytes 2 p.2.1 ++ leBytes 2 p.2.2.1 ++ leBytes 1 p.2.2.2 ++ zeroBytes 1 ++
  leBytes 10 ((List.range 16).map (fun c => chunk c * 2 ^ (5 * c))).sum ++ leBytes 32 e.written.toNat

/-- The extent of a volume that a map entry describes, its sectors on disc as of `seq` (R315, R319). -/
def readMapEntry (vol ext seq : Nat) (b : List Byte) : Extent :=
  let at_ (i n : Nat) : Nat := ofLeBytes ((b.drop i).take n)
  let written := BitVec.ofNat 256 (at_ 32 32)
  let onDisc : Bool := bitAt (at_ 0 1) 2
  let chunks := (List.range 16).map (fun c => bitsOf (at_ 22 10) (5 * c) 5)
  { vol := vol, ext := ext, gen := at_ 4 4, parity := at_ 1 1, migrate := bitAt (at_ 0 1) 3, mergeWait := bitAt (at_ 0 1) 4, logSeq := seq
    disc := if onDisc then some (at_ 8 8, at_ 16 2, at_ 18 2, at_ 20 1) else none
    chunkLen := if onDisc then chunks else [], written := written
    onDisc := if onDisc then
        ((List.range 256).filter (fun n => written.getLsbD n && decide (0 < chunks.getD (n / 16) 0))).map (fun n => (256 * ext + n, seq))
      else [] }

/-- The extents on a disc that have changed since its last volume map record. -/
def State.mapChanges (s : State) (d : Disc) : List Extent :=
  s.extents.filter (fun e => e.vol == d.vol && (e.disc.map Prod.fst) == some d.id && decide (d.mapSeq ≤ e.logSeq))

/-- The user bytes of the map sectors of a list of entries, 64 to a sector (R319). -/
def mapPages : Nat → List (List Byte) → List (List Byte)
  | 0, _ => []
  | fuel + 1, l =>
    if l.isEmpty then []
    else
      let b := (l.take 64).flatten
      (b ++ zeroBytes (4096 - b.length)) :: mapPages fuel (l.drop 64)

/-- Whether map sectors are still to be written on a disc: something on it has changed, and a band has room (R319). -/
def State.mapDue (s : State) (d : Disc) : Bool :=
  d.changed && !(s.mapChanges d).isEmpty && decide (ceilDiv (s.mapChanges d).length 64 ≤ d.writable)

/-- A write session that lays the map sectors of a disc over its current band pair, or over the next with room for them (R319). -/
def stageMap (b : Fin 4) : Nat → Act Unit
  | 0 => pure ()
  | fuel + 1 => do
    let s ← rd
    match s.discIn b with
    | none => pure ()
    | some d =>
      let l := s.mapChanges d
      let pages := mapPages l.length (l.map s.mapEntry)
      let n := pages.length
      let avoid (z : Nat) : Bool := d.rewrite.any (fun r => r.1 == 2 ^ 40 && r.2 == (d.sideBand z).num)
      match [0, 1].find? (fun z => decide (n ≤ (d.sideBand z).left) && !avoid z) with
      | none =>
        if d.nextPair < 255 then
          setDisc d.id (fun d => d.nextPairOf s.timeStamp)
          stageMap b fuel
      | some z =>
        let band := d.sideBand z
        emit (.issue n)
        let t : Staged := { vol := d.vol, ext := 2 ^ 40, band := band.num, first := band.laid, chunks := [n], plain := [true], gen := 0, map := pages
                            versions := (List.range n).map (fun i => (d.mapSectors + i, s.nextSeq + i)) }
        setDisc d.id (fun d => d.setBand
          ({ band with laid := band.laid + n, parity := if band.laid = 0 then d.parity else band.parity } : Band).pad)
        emit (.bay b fun y => { y with session := some {
          disc := d.id, vol := d.vol, staged := [t], highSeq := s.nextSeq + n - 1
          energy := (s.get (F.WRP_ENERGY_UJ (opuTop b).val), s.get (F.WRP_ENERGY_UJ (opuBottom b).val)) } })
        setBay b bWRITING
        forAll (opusOf b) (fun k => approach k d)

/-- The map sectors of a disc that is to be unmounted are staged once its bay reads (R319, R321). -/
def beginMap (b : Fin 4) : Act Unit := do
  let s ← rd
  match s.discIn b with
  | none => pure ()
  | some d =>
    let st := s.bayState b.val
    if s.bays[b].session.isNone ∧ s.mapDue d ∧ (st = bREADY ∨ st = bREADING) ∧
        (opusOf b).all (fun k => s.get (F.WRP_CTL_WR_HOLD k.val) == 0) then stageMap b 256

/-- A read of a higher class than a write session suspends it: each writing OPU stops at its next sector boundary (R22, R261). -/
def suspendSession (b : Fin 4) : Act Unit := do
  let s ← rd
  match s.bays[b].session with
  | none => pure ()
  | some x =>
    emit (.bay b fun y => { y with session := some { x with suspended := true } })
    forAll (opusOf b) (fun k => do
      stopWriteAtBoundary k 1
      emit (.writer k fun w => { w with dirDue := true }))
    let s ← rd
    if s.bayState b.val = bWRITING ∧ (opusOf b).all (fun k => !s.writers[k].busy) then setBay b bREADING

/-- The class of a volume's write session (R325): 1 while a FLUSH with DISC scope waits, 2 in FOREGROUND, FULL or FROZEN. -/
def State.sessionClass (s : State) (vol : Nat) : Nat :=
  if s.insts.any (fun i => i.stage == .waiting && i.data.head? == some 1 && i.covers.any (fun c =>
      (s.strand c.1).any (fun t => t.vol == vol))) then 1
  else if s.zone ≠ zNORMAL then 2 else 3

end Sys2Proof.Machine
end

