-- ==== Sys2Proof/Machine/Detection.lean ====
section
/-! DEFINITION. The joint detector: neighbours and their contributions, the sample model, max-log-MAP detection, the soft demodulator, and what
passes between detector and decoders (R214 to R222, R255). Levels, metrics and LLRs are exact rationals, cut to the formats of R222 where blocks exchange
them. -/

namespace Sys2Proof.Machine

/-! ### Formats (R222) -/

/-- An LLR in units of 0.5, to the nearest, in 6 bits. -/
def llrCode (x : Rat) : Int := clampInt (-32) 31 (2 * x + 1 / 2).floor

/-- The LLR that a code stands for. -/
def llrOf (c : Int) : Rat := (c : Rat) / 2

/-- A lane output as a fraction of full scale. -/
def sampleOf (x : Int) : Rat := (x : Rat) / 512

/-- The written level: +1 a space, −1 a mark (R218). -/
def levelRat (mark : Bool) : Rat := if mark then -1 else 1

/-! ### The trellis (R219) -/

/-- What the detector knows of one channel bit: its sample, the crosstalk expected in it, the noise variance, and of the next bit its prior LLR and
its value where that is certain. -/
structure BitObs where
  y : Rat
  mean : Rat := 0
  var : Rat
  prior : Rat := 0
  certain : Option Bool := none
deriving DecidableEq, Repr

/-- Metrics of the four states (a[k−1], a[k]), s a space and m a mark; none where a state cannot be. -/
structure Metrics where
  ss : Option Rat
  sm : Option Rat
  ms : Option Rat
  mm : Option Rat
deriving DecidableEq, Repr

/-- The better of two metrics. -/
def bestOf : Option Rat → Option Rat → Option Rat
  | none, y => y
  | x, none => x
  | some x, some y => some (if x < y then y else x)

def sumOf : Option Rat → Option Rat → Option Rat
  | some x, some y => some (x + y)
  | _, _ => none

/-- The metric of the branch over levels a[k−1], a[k], a[k+1]: the squared distance of the sample over twice its variance, and half the prior of the
next bit, which is 1 where the level changes. -/
def branch (g gamma : Rat) (o : BitObs) (before now after : Bool) : Option Rat :=
  let bit := now != after
  if o.certain.any (· != bit) then none
  else
    let d := o.y - g * (levelRat before + gamma * levelRat now + levelRat after) - o.mean
    some (-(d * d) / (2 * o.var) + (if bit then -o.prior else o.prior) / 2)

/-- One step of the six branches that keep every run at least two bits long, forwards. -/
def forward (g gamma : Rat) (o : BitObs) (a : Metrics) : Metrics :=
  let b := branch g gamma o
  { ss := bestOf (sumOf a.ss (b false false false)) (sumOf a.ms (b true false false))
    sm := sumOf a.ss (b false false true)
    ms := sumOf a.mm (b true true false)
    mm := bestOf (sumOf a.mm (b true true true)) (sumOf a.sm (b false true true)) }

/-- The same, backwards. -/
def backward (g gamma : Rat) (o : BitObs) (z : Metrics) : Metrics :=
  let b := branch g gamma o
  { ss := bestOf (sumOf z.ss (b false false false)) (sumOf z.sm (b false false true))
    ms := sumOf z.ss (b true false false)
    sm := sumOf z.mm (b false true true)
    mm := bestOf (sumOf z.mm (b true true true)) (sumOf z.ms (b true true false)) }

/-- LLR of a bit from the best metrics of its two values; 0 where one cannot be, as the bit is certain then. -/
def llrFrom (zero one : Option Rat) : Rat :=
  match zero, one with
  | some x, some y => x - y
  | _, _ => 0

/-- ln((15 + c) ÷ (15 − c)) for c from 1 to 14, in 1/10^12: the LLRs at which 15·m is c. -/
def levelSteps : List Nat :=
  [133531392624, 268263986594, 405465108108, 546543706368, 693147180559, 847297860387, 1011600911678] ++
  [1189584066873, 1386294361119, 1609437912434, 1871802176901, 2197224577336, 2639057329615, 3367295829986]

/-- The expected level 15·m, m = tanh(LLR ÷ 2), of a level from the best metrics of space and mark: the code towards 0, or the next where the part rounds
up; ±15 where the level is certain (R215, R222). -/
def expectedLevel (space mark : Option Rat) : Int :=
  match space, mark with
  | some x, some y =>
    let d := if x < y then y - x else x - y
    let n := (levelSteps.filter (fun t => decide ((t : Rat) ≤ d * 10 ^ 12))).length
    let c : Int := if d = 0 then 0 else n + (Config.levelUp d).toNat
    if x < y then -c else c
  | some _, none => 15
  | none, some _ => -15
  | none, none => 0

/-- Extrinsic LLR of the next bit, times 3/4, and the expected level of the next bit, from the metrics before a step and after it. -/
def stepOutput (g gamma : Rat) (o : BitObs) (a z : Metrics) : Rat × Int :=
  let b := branch g gamma o
  let p (x y w : Option Rat) : Option Rat := sumOf (sumOf x y) w
  let sss := p a.ss (b false false false) z.ss
  let mss := p a.ms (b true false false) z.ss
  let ssm := p a.ss (b false false true) z.sm
  let mms := p a.mm (b true true false) z.ms
  let mmm := p a.mm (b true true true) z.mm
  let smm := p a.sm (b false true true) z.mm
  let same := bestOf (bestOf sss mss) (bestOf mmm smm)
  let change := bestOf ssm mms
  ((llrFrom same change - o.prior) * 3 / 4, expectedLevel (bestOf (bestOf sss mss) mms) (bestOf (bestOf mmm smm) ssm))

/-- Backward metrics after each step of a list, from flat ones at its end, with those at its start first. -/
def backwards (g gamma : Rat) : List BitObs → List Metrics
  | [] => [⟨some 0, some 0, some 0, some 0⟩]
  | o :: os =>
    match backwards g gamma os with
    | z :: zs => backward g gamma o z :: z :: zs
    | [] => []

/-- The outputs of the steps of one window, and the forward metrics at its end. -/
def windowOutputs (g gamma : Rat) : Metrics → List BitObs → List Metrics → List (Rat × Int) × Metrics
  | a, o :: os, z :: zs =>
    let r := windowOutputs g gamma (forward g gamma o a) os zs
    (stepOutput g gamma o a z :: r.1, r.2)
  | a, _, _ => ([], a)

/-- Detection in windows of 1,024 channel bits, the backward metrics of each warmed up over the 128 bits after it (R219). -/
def detectWindows (g gamma : Rat) : Nat → Metrics → List BitObs → List (Rat × Int)
  | 0, _, _ => []
  | n + 1, a, l =>
    if l.isEmpty then []
    else
      let z := (backwards g gamma (l.take 1152)).tail
      let r := windowOutputs g gamma a (l.take 1024) z
      r.1 ++ detectWindows g gamma n r.2 (l.drop 1024)

/-- Detection of a frame, which begins at the space level (R194): for bits 1 on, the extrinsic LLR and the expected level. -/
def detect (g gamma : Rat) (l : List BitObs) : List (Rat × Int) :=
  detectWindows g gamma (l.length / 1024 + 1) ⟨some 0, none, none, none⟩ l

/-- Viterbi detection on the same trellis (R255): the levels of the best path, true for a mark, from bit 1 on. The path goes through each level of the better
metric; a tie is a space (DESIGN CHOICE, assumption log 68). -/
def viterbi (g gamma : Rat) (l : List BitObs) : List Bool :=
  ((windowOutputs g gamma ⟨some 0, none, none, none⟩ l (backwards g gamma l).tail).1).map (fun x => decide (x.2 < 0))

/-! ### Scale and noise (R218) -/

/-- What the target gives at each of a run of levels, but for its scale, the first and last bits left out. -/
def targetsOf (gamma : Rat) : List Bool → List Rat
  | a :: b :: c :: l => (levelRat a + gamma * levelRat b + levelRat c) :: targetsOf gamma (b :: c :: l)
  | _ => []

/-- G by least squares over known levels: the samples are those of the same bits, the first and last left out. -/
def scaleOf (gamma : Rat) (levels : List Bool) (y : List Rat) : Rat :=
  let t := targetsOf gamma levels
  (List.zipWith (· * ·) t y).sum / (t.map (fun v => v * v)).sum

/-- The mean squared error of samples under a scale and known levels. -/
def noiseOf (g gamma : Rat) (levels : List Bool) (y : List Rat) : Rat :=
  let e := List.zipWith (fun t v => (v - g * t) * (v - g * t)) (targetsOf gamma levels) y
  e.sum / e.length

/-- The known levels that a frame begins with: preamble and sync mark. -/
def headLevels : List Bool := nrzi (preamble ++ syncMark)

/-- Frame SNR 10·log10(G² ÷ σ²) in 1/4,096 dB (R335). -/
def frameSnr (g var : Rat) : Int := decibels (g * 2 ^ 32).floor.toNat (((var * 2 ^ 64).floor.toNat).sqrt)

/-! ### The soft demodulator (R220) -/

/-- Codewords that a pair, or it and the next pair, may be modulated to: data bits and channel bits, the base codewords first. -/
def baseWords : List (List Bool × List Bool) :=
  [([false, false], [false, true, false]), ([false, true], [false, false, true]), ([true, false], [true, false, false]),
   ([true, true], [true, false, true])]

def substWords : List (List Bool × List Bool) :=
  [([false, true, true, false], [false, false, true, false, false, false]), ([false, true, true, true], [false, true, false, false, false, false]),
   ([true, true, true, false], [true, false, true, false, false, false]), ([true, true, true, true], [true, false, false, false, false, false])]

/-- The score that LLRs give to bits. -/
def scoreBits (bits : List Bool) (llr : List Rat) : Rat := (List.zipWith (fun b x => if b then -x / 2 else x / 2) bits llr).sum

/-- The score of a word by the LLRs of its data bits and of its channel bits. -/
def scoreWord (w : List Bool × List Bool) (data channel : List Rat) : Rat := scoreBits w.1 data + scoreBits w.2 channel

def bestRat (l : List Rat) : Rat :=
  match l with
  | [] => 0
  | x :: xs => xs.foldl (fun a b => if a < b then b else a) x

/-- Best scores of the pairs of a segment from each pair on, and after the last. -/
def scoresFrom : Nat → List Rat → List Rat → List Rat
  | 0, _, _ => [0]
  | n + 1, data, channel =>
    let r := scoresFrom n (data.drop 2) (channel.drop 3)
    let base := baseWords.map (fun w => scoreWord w data channel + r.getD 0 0)
    let subst := if n = 0 then [] else substWords.map (fun w => scoreWord w data channel + r.getD 1 0)
    bestRat (base ++ subst) :: r

/-- The words that cover each pair of a segment with the score of the best segment through them: bits at the pair's two data places and three channel
places. `back` and `back2` are the best scores before this pair and before the last. -/
def pairWords : Nat → List Rat → List Rat → List Rat → Rat → List (List Bool × List Bool × Rat) → List (List (List Bool × List Bool × Rat))
  | 0, _, _, _, _, _ => []
  | n + 1, data, channel, after, before, carried =>
    let base := baseWords.map (fun w => (w.1, w.2, before + scoreWord w data channel + after.getD 1 0))
    let subst := if n = 0 then [] else substWords.map (fun w => (w.1, w.2, before + scoreWord w data channel + after.getD 2 0))
    let here := base ++ subst.map (fun w => (w.1.take 2, w.2.1.take 3, w.2.2)) ++ carried
    let upTo := bestRat ((base.map (fun w => w.2.2 - after.getD 1 0)) ++ carried.map (fun w => w.2.2 - after.getD 1 0))
    here :: pairWords n (data.drop 2) (channel.drop 3) after.tail upTo (subst.map (fun w => (w.1.drop 2, w.2.1.drop 3, w.2.2)))

/-- The best score with a bit 0 less that with it 1, over words of which `f` reads the bits. -/
def bitLlrs (f : List Bool × List Bool × Rat → List Bool) (n : Nat) (l : List (List Bool × List Bool × Rat)) : List Rat :=
  (List.range n).map (fun i =>
    bestRat ((l.filter (fun w => !(f w).getD i false)).map (fun w => w.2.2)) - bestRat ((l.filter (fun w => (f w).getD i false)).map (fun w => w.2.2)))

/-- From LLRs of a segment's 1,560 data bits and 2,340 channel bits, the LLRs of both by the codewords (R220). -/
def segmentLlrs (data channel : List Rat) : List Rat × List Rat :=
  let words := pairWords 780 data channel (scoresFrom 780 data channel) 0 []
  (words.flatMap (bitLlrs (fun w => w.1) 2), words.flatMap (bitLlrs (fun w => w.2.1) 3))

/-- The scrambler as a change of sign (R59, R220). -/
def unscramble (track sector : Nat) (l : List Rat) : List Rat :=
  List.zipWith (fun x s => if s then -x else x) l (scramble (scramblerSeed track sector) (List.replicate l.length false))

/-! ### Samples of a frame (R204, R216, R221, R225) -/

/-- What is retained of an OPU's frame, in a half where one is named: the latest. -/
def State.retainedOf (s : State) (k layer track sector : Nat) (half : Option Bool) : Option Retained :=
  s.dram.samples.find? (fun r => r.opu == k && r.layer == layer && r.track == track && r.sector == sector && half.all (· == r.half))

/-- What is retained of a frame in its half. -/
def State.retainedFor (s : State) (f : FrameWork) : Option Retained := s.retainedOf f.opu f.layer f.track f.sector (some f.half)

/-- The offset of a segment under an alignment hypothesis, which moves those anchored on sync or flywheel (R204). -/
def SegFlag.under (g : SegFlag) (h : Int) : Int := if g.anchor = .resync then g.shift else g.shift + h

/-- A frame's samples in the order of its channel bits, each segment where its flags put it. -/
def alignFrame {α : Type} (segs : List SegFlag) (h : Int) (l : List α) : List α :=
  l.take 240 ++ (List.range 24).flatMap (fun j =>
    let at_ := ((segmentAt j : Int) + ((segs[j]?).map (fun g => g.under h)).getD 0).toNat
    (l.drop at_).take (if j = 23 then 2340 else 2364)) ++ l.drop 56952

/-- The values of a frame's channel bits that are certain (R219): preamble, sync mark, postamble, and at each resync position the mark that the outputs
agree with better. -/
def certainBits (outputs : List Int) : List (Option Bool) :=
  (preamble ++ syncMark).map some ++ (List.range 24).flatMap (fun j =>
    let seen := hardBits ((outputs.drop (segmentAt j + 2339)).take 25)
    List.replicate 2340 none ++
    (if j = 23 then [] else (if agreement markA seen < agreement markB seen then markB else markA).map some)) ++ postamble.map some

/-- The samples of a frame: those still live, or what is retained of them (R225). -/
def FrameWork.outputs (f : FrameWork) (r : Retained) : List Int := if f.live.isEmpty then r.codes.map expand else f.live

/-! ### Neighbours (R215 to R217) -/

/-- Where the detector takes the crosstalk of a neighbour from (R215). -/
inductive Neighbour where
  | decoded
  | soft
  | blank
  | unknown
deriving DecidableEq, Repr

/-- The sector of a track at an angle (R52, R53). -/
def sectorAt (track angle : Nat) : Nat :=
  ((angle + 1024 * 2 ^ 24 - startSpoke track * 2 ^ 24) % (1024 * 2 ^ 24)) * sptOf (zoneOf track) / (1024 * 2 ^ 24)

/-- Whether the band directory shows a sector unwritten (R215): past the last recorded range, in a skipped run, or on an unused spare track. -/
def State.unwrittenAt (s : State) (k : Fin 8) (layer track sector : Nat) : Bool :=
  match s.discIn (bayOf k) with
  | none => false
  | some d =>
    let b := d.band (bandOf (k.val % 2) layer (zoneOf track))
    let o := track % bandTracks
    if spareStart ≤ o then decide (b.spares ≤ (o - spareStart) * sptOf (zoneOf track) + sector)
    else decide (dataStart b.num ≤ o) && (decide (b.recorded ≤ o) || b.holes.any (fun h => h.1 == o && decide (h.2 ≤ sector)))

/-- The decode of a frame with its own header that the buffers hold. -/
def State.cleanCopy (s : State) (k layer track sector : Nat) : Option SectorCopy :=
  s.dram.sectors.find? (fun x => x.opu == k && x.layer == layer && x.track == track && x.sector == sector && !x.poison && !x.stray)

/-- The payload that a neighbour's frame has decoded to since a time (R215, R217): with its retained samples, or in the buffers. -/
def State.decodedOf (s : State) (k layer track sector since : Nat) : Option (List Byte) :=
  match (s.retainedOf k layer track sector none).bind Retained.decoded with
  | some (p, t) => if since ≤ t then some p else none
  | none => (s.dram.sectors.find? (fun x => x.opu == k && x.layer == layer && x.track == track && x.sector == sector && !x.poison &&
      decide (since ≤ x.at_))).map SectorCopy.payload

/-- The frame at a place of a layer that is in work. -/
def State.frameOn (s : State) (k layer track sector : Nat) : Option FrameWork :=
  s.frames.find? (fun g => g.opu == k && g.layer == layer && g.track == track && g.sector == sector)

/-- The state of a member's neighbour at a sector of the next track inwards or outwards (R215, R217): its payload where it has decoded, its expected levels
where it is of the same group. -/
def State.neighbourState (s : State) (k : Fin 8) (f : FrameWork) (inward : Bool) (track sector : Nat) : Neighbour :=
  let since := if s.detectors[k].first ∧ f.role = .inner ∧ inward then s.now - 2 * s.revolution (bayOf k) else 0
  let bad : Bool := (s.retainedOf k.val f.layer track sector none).any (fun r => r.timingLimit || r.lost)
  if f.track / bandTracks ≠ track / bandTracks ∨ f.track = track then .unknown
  else if (s.decodedOf k.val f.layer track sector since).isSome then .decoded
  else if bad = false ∧ (s.frameOn k.val f.layer track sector).any (fun g => g.group == f.group && !g.levels.isEmpty) then .soft
  else if s.unwrittenAt k f.layer track sector then .blank
  else .unknown

/-- The levels of a neighbour's frame: those written, or those expected. -/
def State.neighbourLevels (s : State) (f : FrameWork) (n : Neighbour) (track sector : Nat) : List Rat :=
  match n with
  | .decoded =>
    match s.decodedOf f.opu f.layer track sector 0 with
    | some p => (nrzi (frameBits track sector (encodeSector p))).map levelRat
    | none => []
  | .soft =>
    match s.frameOn f.opu f.layer track sector with
    | some g => g.levels.map (fun m => (m : Rat) / 15)
    | none => []
  | _ => []

/-- The angle of bit `n` of a frame by the layout of its track (R52, R53, R86), in 1/2^24 of a spoke interval, of which the bits take 0.95. -/
def nominalAngle (track sector n : Nat) : Nat :=
  let spt := sptOf (zoneOf track)
  let b := 57000 * sector + n
  let i := b * 1024 / (spt * 57000)
  (startSpoke track + i) % 1024 * 2 ^ 24 + (b - i * (spt * 57000) / 1024) * 95 * 2 ^ 24 / (100 * intervalBits spt i)

/-- The angles of the bits of a neighbour's frame: as its lane found them, or by the layout where they are no longer retained (R216). -/
def State.anglesOf (s : State) (f : FrameWork) (track sector : Nat) : List Nat :=
  match s.retainedOf f.opu f.layer track sector none with
  | some r => if r.angles.isEmpty then (List.range 57000).map (nominalAngle track sector) else alignFrame r.segs 0 r.angles
  | none => (List.range 57000).map (nominalAngle track sector)

/-- ā at bit k of levels. -/
def smooth (l : List Rat) (k : Nat) : Rat := (l.getD (k - 1) 0 + 2 * l.getD k 0 + l.getD (k + 1) 0) / 4

/-- How far angle `a` lies past angle `b`, the shorter way round a track of 1,024 intervals. -/
def turn (a b : Nat) : Int := (((a : Int) - b + 2 ^ 33) % 2 ^ 34) - 2 ^ 33

/-- The level of a neighbour at an angle, between the two bits of its frame that lie nearest (R216). -/
def levelAt (angles : List Nat) (levels : List Rat) (angle : Nat) : Rat :=
  let k := (angles.filter (fun a => decide (0 ≤ turn angle a))).length - 1
  let a := angles.getD k 0
  let b := angles.getD (k + 1) 0
  if 0 < turn b a ∧ 0 ≤ turn angle a then
    let w : Rat := (turn angle a : Rat) / (turn b a : Rat)
    (1 - w) * smooth levels k + w * smooth levels (k + 1)
  else smooth levels k

/-- Mean and variance of the crosstalk from one neighbour at an angle, with coefficient κ (R215). -/
def State.crosstalk (s : State) (k : Fin 8) (f : FrameWork) (inward : Bool) (kappa : Rat) (angle : Nat) : Rat × Rat :=
  let track := if inward then f.track - 1 else f.track + 1
  let sector := sectorAt track angle
  let n := s.neighbourState k f inward track sector
  let m := levelAt (s.anglesOf f track sector) (s.neighbourLevels f n track sector) angle
  match n with
  | .blank => (0, 0)
  | .decoded => (kappa * m, 0)
  | .soft => (kappa * m, kappa * kappa * (1 - m * m))
  | .unknown => (0, kappa * kappa)

/-- κ_in and κ_out of the spot that read a member (R218). -/
def State.kappaOf (s : State) (k : Fin 8) (spot : Nat) : Rat × Rat :=
  let q (i o : Fld) : Rat × Rat := ((s.geti i : Rat) / 32768, (s.geti o : Rat) / 32768)
  match spot with
  | 0 => q (F.RCH_JD_KAPPA_I_INNER k.val) (F.RCH_JD_KAPPA_I_OUTER k.val)
  | 1 => q (F.RCH_JD_KAPPA_C_INNER k.val) (F.RCH_JD_KAPPA_C_OUTER k.val)
  | _ => q (F.RCH_JD_KAPPA_O_INNER k.val) (F.RCH_JD_KAPPA_O_OUTER k.val)

/-! ### A detector pass (R218 to R221, R223) -/

/-- γ of the lane that reads a spot (R196). -/
def State.gammaOf (s : State) (k spot : Nat) : Rat :=
  match s.laneOf (4 * k + spot) with
  | some n => (s.get (F.RCH_LANE_EQ_GAMMA n.val) : Rat) / 32
  | none => 2

/-- The noise variance of each channel bit: that of preamble and sync mark, and in each segment that of the last iteration's decisions where there are
any (R218). -/
def segmentNoise (g gamma base : Rat) (hard : List Bool) (y : List Rat) : List Rat :=
  let levels := nrzi hard
  List.replicate 240 base ++ (List.range 24).flatMap (fun j =>
    let v := if hard.isEmpty then base
      else noiseOf g gamma ((levels.drop (segmentAt j - 1)).take 2342) ((y.drop (segmentAt j)).take 2340)
    List.replicate (if j = 23 then 2388 else 2364) (if v = 0 then base else v))

/-- What a segment's LLRs count for (R221): shifted right where the flywheel anchors it, 0 where it slipped; a segment that a hypothesis has moved
counts in full. -/
def SegFlag.weigh (g : SegFlag) (h : Int) (shift : Nat) (erase : Bool) (l : List Rat) : List Rat :=
  if h ≠ 0 ∧ g.anchor ≠ .resync then l
  else if g.slipped ∧ erase then l.map (fun _ => 0)
  else if g.anchor = .flywheel then l.map (fun x => x / 2 ^ shift)
  else l

/-- A detector pass on a frame under an alignment hypothesis: the LLRs for the decoder and the expected levels (R218 to R222). -/
def State.detectorPass (s : State) (k : Fin 8) (f : FrameWork) (h : Int) : List Int × List Int :=
  match s.retainedFor f with
  | none => ([], [])
  | some r =>
    let outputs := alignFrame r.segs h (f.outputs r)
    let angles := alignFrame r.segs h r.angles
    let y := outputs.map sampleOf
    let gamma := s.gammaOf k.val r.spot
    let g := scaleOf gamma headLevels (y.drop 1)
    let base := noiseOf g gamma headLevels (y.drop 1)
    let kappa := s.kappaOf k r.spot
    let noise := segmentNoise g gamma base (if f.hard.isEmpty then [] else frameBits f.track f.sector f.hard) y
    let data := unscramble f.track f.sector (f.extrinsic.map llrOf)
    let priors := List.replicate 240 0 ++ (List.range 24).flatMap (fun j =>
      (segmentLlrs ((data.drop (1560 * j)).take 1560) (List.replicate 2340 0)).2 ++ List.replicate (if j = 23 then 48 else 24) 0)
    let sure := certainBits outputs
    let obs : List BitObs := y.zipIdx.map (fun v =>
      let i := s.crosstalk k f true kappa.1 (angles.getD v.2 0)
      let o := s.crosstalk k f false kappa.2 (angles.getD v.2 0)
      { y := v.1, mean := i.1 + o.1, var := noise.getD v.2 base + i.2 + o.2, prior := priors.getD (v.2 + 1) 0, certain := sure.getD (v.2 + 1) none })
    let out := (0, 0) :: detect g gamma obs
    let bits := (List.range 24).flatMap (fun j =>
      let l := (segmentLlrs ((data.drop (1560 * j)).take 1560) (((out.map Prod.fst).drop (segmentAt j)).take 2340)).1
      match r.segs[j]? with
      | some q => q.weigh h (s.get (F.RCH_JD_CTL_FLY_SHIFT k.val)) (s.get (F.RCH_JD_CTL_SLIP_ERASE k.val) == 1) l
      | none => l)
    let llr := (unscramble f.track f.sector bits).map llrCode
    (llr,
     out.map Prod.snd)

/-- The SNR of a frame in 1/4,096 dB, from the estimates of its preamble and sync mark (R218, R335); none when its samples are not retained. -/
def State.snrOf (s : State) (k : Fin 8) (f : FrameWork) : Option Int :=
  (s.retainedFor f).map (fun r =>
    let y := (f.outputs r).map sampleOf
    let gamma := s.gammaOf k.val r.spot
    let g := scaleOf gamma headLevels (y.drop 1)
    frameSnr g (noiseOf g gamma headLevels (y.drop 1)))

end Sys2Proof.Machine
end

