-- ==== Sys2Proof/Machine/Calibration.lean ====
section
/-! DEFINITION. Calibration, trimming and adaptation (R190, R267 to R280): the runs, the values they apply, laser-current
segments, speed adaptation and thermal throttling. -/

namespace Sys2Proof.Machine

/-! ### Elements (R279) -/

def calInput (elem : Nat) : Fin 32 := Fin.ofNat 32 (elem / 16)
def calOpu (elem : Nat) : Fin 8 := Fin.ofNat 8 (elem / 8)

/-- Whether a calibration has an element of this index: input × 16 + sub-ADC, OPU × 8 + layer, or motor. -/
def calElement (n elem : Nat) : Bool :=
  if n < 3 then decide (elem / 16 < 32) && decide (elem % 16 < 10) else if n < 11 then decide (elem < 64) else decide (elem < 8)

/-- The tolerance of calibration `n` (R271) in units of the value: 1/8 LSB, 1/16,384, 1/16 ps, thousandths, codes, 1/65,536,
1/32,768, 1/4,096, shift codes, 1/64 cycle, per cent of slope, shunt codes. -/
def calTolerance (n : Nat) : Nat := [1, 4, 16, 20, 16, 256, 32, 81, 0, 1, 5, 2].getD n 0

/-- The segments that both of two estimates of calibration 10 used: bit s of their last value (R272). -/
def usedBoth (x y : List Int) : Nat := (x.getD 16 0).toNat &&& (y.getD 16 0).toNat

/-- Whether two slopes differ by no more than the tolerance, in per cent of the greater. -/
def slopesAgree (a b : Int) : Bool := decide (100 * (a - b).natAbs ≤ calTolerance 10 * max a.natAbs b.natAbs)

/-- Whether two estimates agree in every value. -/
def agrees (n : Nat) (x y : List Int) : Bool :=
  x.length == y.length &&
  (if n = 10 then (List.range 16).all (fun i => !bitAt (usedBoth x y) i || slopesAgree (x.getD i 0) (y.getD i 0))
   else (List.zipWith (fun (a b : Int) => decide ((a - b).natAbs ≤ calTolerance n)) x y).all id)

/-- The mean of two estimates; of segments, those that both used. -/
def meanOf (n : Nat) (x y : List Int) : List Int :=
  let l := List.zipWith (fun (a b : Int) => floorDiv (a + b) 2) x y
  if n = 10 then l.take 16 ++ [(usedBoth x y : Int)] else l

/-! ### Conditions and schedule (R270, R271, R277, R279) -/

/-- Whether the host pins what a calibration sets (R277). -/
def State.calPinned (s : State) (n elem : Nat) : Bool := n == 7 && s.policy pWRPWR_PIN (calOpu elem).val == 1

/-- Whether an OPU writes, so that calibrations 7 to 10 may run on it (R271): a track or single sector, or its session has more tracks for it. -/
def State.opuWrites (s : State) (k : Fin 8) : Bool :=
  s.bayState (bayOf k).val == bWRITING &&
  (s.writers[k].busy || (s.bays[bayOf k].session.any (fun x => !x.suspended) &&
    (s.discIn (bayOf k)).any (fun d => (d.sideBand (k.val % 2)).trackReady)))

/-- Whether a calibration's conditions hold: an OPU on the layer in a bay that reads or writes, from 7 on one that writes; a motor in OFF with its gates
off. -/
def State.calState (s : State) (n elem : Nat) : Bool :=
  let st := s.bayState (calBay n elem)
  let k := calOpu elem
  let m : Fin 8 := Fin.ofNat 8 elem
  if n < 3 then true
  else if n = 11 then s.motorState m == mtOFF && s.motors[m].gates == false
  else s.optLayer k == elem % 8 && (if 7 ≤ n then s.opuWrites k else st == bREADY || st == bREADING || st == bWRITING)

/-- What the last run of a calibration on an element left for its schedule; calibration 10 is of the OPU. -/
def State.calLast (s : State) (n elem : Nat) : Option CalMark :=
  s.cal.done.find? (fun m => m.kind == n && (m.elem == elem || (n == 10 && m.elem / 8 == elem / 8)))

/-- A change of 5 °C in the OPU temperature input since the last run. -/
def State.drifted (s : State) (n elem : Nat) (m : CalMark) : Bool :=
  match m.celsius, s.optics[calOpuOf n elem].celsius with
  | some a, some b => decide (5 ≤ (a - b).natAbs)
  | _, _ => false

/-- CAL_CTL.PERIOD hours of the bay's reading or writing since the last run. -/
def State.periodOver (s : State) (n elem : Nat) (m : CalMark) : Bool :=
  decide (s.get F.CAL_CTL_PERIOD * 3600000000 ≤ s.bayUse (Fin.ofNat 4 (calBay n elem)) - m.use)

/-- The schedule of R271: whether a run of a calibration on an element is due. The first of an element since BRINGUP is, since the mount for 0 to 7 and 9; that of
calibration 8 after one of 7. Calibration 11 is made by the wiring check and the start from rest themselves. -/
def State.calDue (s : State) (n elem : Nat) : Bool :=
  let request : Bool := s.writers[calOpu elem].calRequest
  match n, s.calLast n elem with
  | 11, _ => false
  | 8, m => m.isNone && (s.calLast 7 elem).isSome
  | _, none => true
  | 0, some m | 1, some m | 2, some m => s.drifted n elem m || s.periodOver n elem m
  | 6, some m => s.periodOver 6 elem m
  | 7, some m | 9, some m => s.drifted n elem m || request
  | _, some m => s.drifted n elem m

/-- Calibrations with elements of one kind: sub-ADCs, an OPU's layers, motors (R279). -/
def calClass (n : Nat) : Nat := if n < 3 then 0 else if n < 11 then 1 else 2

/-- Whether a calibration runs on an element (R270). -/
def State.calBusy (s : State) (n elem : Nat) : Bool := s.cal.runs.any (fun r => calClass r.kind == calClass n && r.elem == elem)

/-- A run begins, unless one runs on the element already (R270). -/
def beginCal (n elem : Nat) (inst : Option Nat) : Act Unit := do
  let s ← rd
  if s.calBusy n elem = false then
    emit (.cal fun c => { c with runs := c.runs ++ [{ kind := n, elem := elem, inst := inst }] })
    showCal

/-- CALIBRATION_DUE (R271): a scheduled run that is due begins, or one that CALIBRATE has asked for finds its conditions (R416), where no other runs on the element;
no scheduled run begins while CAL_CTL.ENABLE is 0, and none while the value is pinned. A request of R256 is taken with calibration 7. -/
def execCalibrationDue (n : Fin 12) (elem : Nat) (s : State) : Answer :=
  answerWhen s.awake (do
    if ((s.get F.CAL_CTL_ENABLE = 1 ∧ s.calDue n.val elem) ∨ s.cal.requested.contains (n.val, elem)) ∧ calElement n.val elem ∧ s.calState n.val elem ∧
        s.calPinned n.val elem = false ∧ s.calBusy n.val elem = false then
      emit (.cal fun c => { c with requested := c.requested.filter (· != (n.val, elem)) })
      beginCal n.val elem none
      if n.val = 7 then emit (.writer (calOpu elem) fun w => { w with calRequest := false })) s

/-! ### Ranges (R267, R271) -/

/-- Least and greatest value of calibration `n`; the position of the value decides where it differs. -/
def State.calRange (s : State) (n elem i : Nat) : Int × Int :=
  let k := calOpu elem
  let l := elem % 8
  match n with
  | 0 => (-128, 127)
  | 1 => (-2048, 2047)
  | 2 => (-2048, 2047)
  | 3 => (500, 2000)
  | 4 =>
    let m := s.actLimit k (if i = 0 then 3 else 2)
    (-m, m)
  | 5 =>
    let r := (s.nv.eeproms[k].lrefs.getD l (0, 0))
    let v := if i = 0 then r.1 else r.2
    ((ceilDiv v 4 : Nat), (min 65535 (4 * v) : Nat))
  | 6 => (-16384, 16384)
  | 7 => if i = 0 then (1, 4095) else (0, 65535)
  | 8 => (-2, 1)
  | 9 => (-2048, 2047)
  | 10 => if i = 16 then (0, 65535) else (-2147483648, 2147483647)
  | _ => (0, 16383)

/-- K_IN of a gain set before calibration 3 scaled it (R271). -/
def State.nominalGain (s : State) (e j g : Nat) : Int := (s.cal.nominal.lookup (e, j, g)).getD (s.geti (gainFld e j g 40))

/-- The gain set that a slot selects, with the index of its region. -/
def State.presentGset (s : State) (e j : Nat) : Nat × Nat :=
  let i := s.regionIndex e j (s.slotOwner e j)
  (s.regionEntry e j i % 8, i)

/-- K_IN of the gain set that a slot selects, scaled by thousandths of its nominal value. -/
def State.scaledGain (s : State) (e j : Nat) (permille : Int) : Int := floorDiv (s.nominalGain e j (s.presentGset e j).1 * permille) 1000

/-- Agreed values within the element's range and, where calibration 3 scales them, within the register field (R267). -/
def State.calInRange (s : State) (n elem : Nat) (v : List Int) : Bool :=
  (List.range v.length).all (fun i =>
    let r := s.calRange n elem i
    decide (r.1 ≤ v.getD i 0) && decide (v.getD i 0 ≤ r.2)) &&
  (n != 3 || [(2, v.getD 0 0), (4, v.getD 1 0)].all (fun x =>
    let y := s.scaledGain (engineOf (calOpu elem)).val (slotOf (calOpu elem) x.1) x.2
    satInt 32 y == y))

/-! ### Laser-current segments (R248, R272) -/

/-- The driver code of a ratio at U (R248). -/
def laserCode (u ratio : Nat) : Nat := min 4095 (u * ratio / 32768)

/-- Whether a ratio keeps its code in a usable segment, with U at its mean over the last track. -/
def State.segmentOk (s : State) (k : Fin 8) (ratio : Nat) : Bool :=
  s.cal.uMean[k] == 0 || !bitAt (s.get (F.CAL_LSEG_MASK k.val)) (laserCode s.cal.uMean[k] ratio / 256)

/-- A ratio that keeps its code in a usable segment: itself, or the one of the nearer code at the edge of a usable segment, from `lo` to `hi` (R272). -/
def State.usableRatio (s : State) (k : Fin 8) (r lo hi : Nat) : Option Nat :=
  if s.segmentOk k r then some r
  else
    let u := s.cal.uMean[k]
    let mask := s.get (F.CAL_LSEG_MASK k.val)
    let far (x : Nat) : Nat := ((laserCode u x : Int) - laserCode u r).natAbs
    let edges := ((List.range 16).filter (fun n => !bitAt mask n)).flatMap (fun n => [ceilDiv (256 * n * 32768) u, ((256 * n + 256) * 32768 - 1) / u])
    match edges.filter (fun x => decide (lo ≤ x) && decide (x ≤ hi) && s.segmentOk k x) with
    | [] => none
    | e :: l => some (l.foldl (fun a b => if far b < far a then b else a) e)

/-- The median of the slopes used. -/
def medianSlope (l : List Int) : Int :=
  let m := l.mergeSort (fun a b => decide (a ≤ b))
  m.getD (m.length / 2) 0

/-- Whether the mean that the laser power slot regulates on a layer is one that the laser's limit lets stand (R134, R273). -/
def State.meanAllowed (s : State) (k : Fin 8) (l : Nat) : Bool := decide (s.get (F.WRP_LVL_B_MEAN k.val l) ≤ s.get (F.BAY_LASER_LIM_MAX k.val))

/-- One ratio is moved out of an unusable segment. -/
def moveRatio (k : Fin 8) (f : Fld) (lo hi : Nat) : Act Bool := do
  let s ← rd
  match s.usableRatio k (s.get f) lo hi with
  | none => return false
  | some r =>
    setF f r
    return true

/-- The SPACE, MARK and COOL ratios of a layer are moved out of unusable segments; if no setting within the laser's limit will do, the OPU's writes are held
(R272). -/
def moveRatios (k : Fin 8) (l elem : Nat) : Act Unit := do
  let a ← moveRatio k (F.WRP_LVL_A_SPACE k.val l) 0 65535
  let b ← moveRatio k (F.WRP_LVL_A_MARK k.val l) 1 4095
  let c ← moveRatio k (F.WRP_LVL_B_COOL k.val l) 0 65535
  let s ← rd
  if (a && b && c && s.meanAllowed k l) = false then
    setF (F.WRP_CTL_WR_HOLD k.val) 1
    raise Ev.CAL_LASER_SEG_EXHAUSTED 0 (elem % 256)

/-- The ratios of a layer that R272 keeps in usable segments. -/
def State.layerRatios (s : State) (k : Fin 8) (l : Nat) : List Nat :=
  [s.get (F.WRP_LVL_A_SPACE k.val l), s.get (F.WRP_LVL_A_MARK k.val l), s.get (F.WRP_LVL_B_COOL k.val l)]

/-- Calibration 10 marks the segments whose slope lies outside 0.5 to 1.5 times the median of those used, and moves the ratios of the layer. The values are 16
slopes and the segments used. -/
def applySegments (k : Fin 8) (l elem : Nat) (v : List Int) : Act Unit := do
  let used := (List.range 16).filter (fun n => bitAt (v.getD 16 0).toNat n)
  let m := medianSlope (used.map (fun n => v.getD n 0))
  let bad := used.filter (fun n => decide (2 * v.getD n 0 < m) || decide (3 * m < 2 * v.getD n 0))
  let old ← getF (F.CAL_LSEG_MASK k.val)
  setF (F.CAL_LSEG_MASK k.val) (bad.foldl (fun a n => setBit a n true) old)
  moveRatios k l elem

/-! ### Application (R105, R268, R277) -/

/-- A gain set of slot `j` that no region entry names. -/
def State.freeGset (s : State) (e j : Nat) : Option Nat := (List.range 8).find? (fun g => !s.gsetNamed e j g)

/-- The K_IN of a slot's present gain set is scaled by thousandths of its nominal value, in a set that no region entry names, and the region-table word that
selects the old set is rewritten to select the new one (R268). -/
def scaleGain (e : Fin 2) (j : Nat) (permille : Int) : Act Unit := do
  let s ← rd
  let (g, i) := s.presentGset e.val j
  match s.freeGset e.val j with
  | none => pure ()
  | some h =>
    forAll (List.range 64) (fun w => do
      let s ← rd
      setF (gainFld e.val j h w) (s.get (gainFld e.val j g w)))
    setI (gainFld e.val j h 40) (s.scaledGain e.val j permille)
    emit (.cal fun c => { c with nominal := ((e.val, j, h), s.nominalGain e.val j g) :: c.nominal.filter (fun x => x.1 != (e.val, j, h)) })
    forAll (List.range 4) (fun n => do
      let b := s.regionEntry e.val j (i / 4 * 4 + n)
      if b % 8 = g then setF (F.SRV_REGION_TBL_ENTRY e.val j (i / 4 * 4 + n)) (b - g + h))

/-- The bounds that the host's policy leaves a MARK ratio: WRPWR_TRIM per cent of the calibrated ratio (R273). -/
def State.markBounds (s : State) (k : Fin 8) (l : Nat) : Nat × Nat :=
  match s.cal.marks.lookup (8 * k.val + l) with
  | none => (1, 4095)
  | some c =>
    let p := s.policy pWRPWR_TRIM k.val
    (max 1 (ceilDiv (c * (100 - p)) 100), min 4095 (c * (100 + p) / 100))

/-- Whether the slots that a calibration 3 scales have a gain set free (R268). -/
def State.gainsFree (s : State) (elem : Nat) : Bool :=
  let k := calOpu elem
  [2, 4].all (fun r => (s.freeGset (engineOf k).val (slotOf k r)).isSome)

/-- Applies agreed values; true when a bound of the host's policy or of the laser held one of them (R273, R276, R277). -/
def applyCal (n elem : Nat) (v : List Int) : Act Bool := do
  let s ← rd
  let k := calOpu elem
  let l := elem % 8
  let x (i : Nat) : Int := v.getD i 0
  match n with
  | 0 | 1 | 2 =>
    let i := calInput elem
    let j := elem % 16
    let t := s.heldTrim i j
    let o := if n = 0 then ofSigned 8 (x 0) else bitsOf t 0 8
    let g := if n = 1 then ofSigned 12 (x 0) else bitsOf t 8 12
    let w := if n = 2 then ofSigned 12 (x 0) else bitsOf t 20 12
    holdChange i (.trim j (o + g * 2 ^ 8 + w * 2 ^ 20))
    return false
  | 3 =>
    scaleGain (engineOf k) (slotOf k 2) (x 0)
    scaleGain (engineOf k) (slotOf k 4) (x 1)
    return false
  | 4 =>
    setI (F.BAY_LAYER_SA k.val l) (x 0)
    setI (F.BAY_LAYER_TILT k.val l) (x 1)
    return false
  | 5 =>
    setF (F.BAY_LREF_CENTRE k.val l) (x 0).toNat
    setF (F.BAY_LREF_SIDE k.val l) (x 1).toNat
    return false
  | 6 =>
    emit (.cal fun c => { c with kappas := (elem, v) :: c.kappas.filter (fun y => y.1 != elem)
                                 kappaDue := c.kappaDue.set k (c.kappaDue[k] || s.optLayer k == l) })
    return false
  | 7 =>
    let b := s.markBounds k l
    let m := max b.1 (min b.2 (x 0).toNat)
    setF (F.WRP_LVL_A_MARK k.val l) m
    let mean := min (x 1).toNat (s.get (F.BAY_LASER_LIM_MAX k.val))
    setF (F.WRP_LVL_B_MEAN k.val l) mean
    moveRatios k l elem
    let s ← rd
    emit (.cal fun c => { c with marks := (elem, s.get (F.WRP_LVL_A_MARK k.val l)) :: c.marks.filter (fun y => y.1 != elem) })
    return m != (x 0).toNat || mean != (x 1).toNat
  | 8 =>
    let word (o : Nat) : Nat := (List.range 12).foldl (fun a i => a + ofSigned 2 (x (o + i)) * 2 ^ (2 * i)) 0
    setF (F.WRP_STRAT_LEAD_LEAD k.val l) (word 0)
    setF (F.WRP_STRAT_TRAIL_TRAIL k.val l) (word 12)
    return false
  | 9 =>
    emit (.cal fun c => { c with timing := c.timing.set k (some (x 0)) })
    return false
  | 10 =>
    applySegments k l elem v
    return false
  | _ =>
    setF (F.MOT_SHUNT_OFS_OFS elem) (x 0).toNat
    return false

/-! ### Sub-ADC replacement (R188, R190, R271) -/

/-- A sub-ADC that has failed in three consecutive runs is declared failed, and a spare takes its position in the map that is held or in force. -/
def replaceSub (i : Fin 32) (j : Nat) : Act Unit := do
  let s ← rd
  let failed := s.get (F.RCH_IN_SUB_FAILED i.val)
  let map := s.heldMap i
  let l := (List.range 8).map (fun p => bitsOf map (4 * p) 4)
  let spares := (List.range 10).filter (fun n => !l.contains n && !bitAt failed n && n != j)
  if bitAt failed j = false then
    setF (F.RCH_IN_SUB_FAILED i.val) (setBit failed j true)
    raiseRf rfSUB_REPLACED i.val
    if l.contains j then
      match spares with
      | [] =>
        setF (F.RCH_IN_STAT_SUB_DEGRADED i.val) 1
        raiseRf rfSUB_DEGRADED i.val
        degrade (.subAdc i.val)
      | n :: _ =>
        let new := (List.range 8).foldl (fun a p => a + (let y := l.getD p 0; if y = j then n else y) * 2 ^ (4 * p)) 0
        holdChange i (.map new)

/-- A run of a sub-ADC's calibration has ended: three failures of one calibration in a row replace it. -/
def countSub (n elem : Nat) (failed : Bool) : Act Unit := do
  if n < 3 then
    let s ← rd
    let c := if failed then (s.cal.subFails.lookup (n, elem)).getD 0 + 1 else 0
    emit (.cal fun x => { x with subFails := (if c = 0 ∨ 3 ≤ c then [] else [((n, elem), c)]) ++ x.subFails.filter (fun y => y.1 != (n, elem)) })
    if 3 ≤ c then replaceSub (calInput elem) (elem % 16)

/-! ### Estimates (R267) -/

/-- What follows an application: calibration 8 after one of 7, and 7 from a setting that 10 has moved (R271, R272). `ratios` are those of the layer before. -/
def followCal (n elem : Nat) (ratios : List Nat) : Act Unit := do
  let s ← rd
  if n = 7 ∧ s.get F.CAL_CTL_ENABLE = 1 ∧ s.calState 8 elem then beginCal 8 elem none
  if n = 10 ∧ s.layerRatios (calOpu elem) (elem % 8) ≠ ratios ∧ s.calPinned 7 elem = false then beginCal 7 elem none

/-- The agreed values are applied, or refused as out of range. Without a free gain set calibration 3 cannot apply its own, and is abandoned (DESIGN CHOICE,
assumption log 34). -/
def settleCal (n elem : Nat) (v : List Int) : Act Unit := do
  let s ← rd
  if n = 3 ∧ s.gainsFree elem = false then endCal n elem calABORTED
  else if s.calInRange n elem v then
    let held ← applyCal n elem v
    if held then raise Ev.ADAPT_CLAMPED 0 (elem % 256)
    endCal n elem (if held then calCLAMPED else calAPPLIED)
    countSub n elem false
    followCal n elem (s.layerRatios (calOpu elem) (elem % 8))
  else
    raise Ev.CAL_OUT_OF_RANGE 0 (elem % 256)
    endCal n elem calOUT_OF_RANGE
    countSub n elem true

/-- One more estimate of a run (R267); where the calibration's conditions have lapsed the run is abandoned (R270). -/
def estimateDone (n : Fin 12) (elem : Nat) (values : List Int) : Act Unit := do
    let s ← rd
    match s.cal.runs.find? (fun r => r.kind == n.val && r.elem == elem) with
    | none => pure ()
    | some r =>
      if s.calState n.val elem = false then abortCal (fun r => r.kind == n.val && r.elem == elem)
      else match r.estimates with
      | last :: _ =>
        if agrees n.val last values then settleCal n.val elem (meanOf n.val last values)
        else if s.get F.CAL_CTL_REPEAT_MAX ≤ r.estimates.length + 1 then
          raise Ev.CAL_DISAGREE 0 (elem % 256)
          endCal n.val elem calDISAGREE
          countSub n.val elem true
        else emit (.cal fun c => { c with runs := c.runs.map (fun x =>
          if x.kind == n.val && x.elem == elem then { x with estimates := values :: x.estimates } else x) })
      | [] => emit (.cal fun c => { c with runs := c.runs.map (fun x =>
          if x.kind == n.val && x.elem == elem then { x with estimates := [values] } else x) })

/-! ### Speed adaptation (R274, R276) -/

/-- SPEED_WINDOW_END (R274): a window of 4,096 needed sectors ends. -/
def execSpeedWindowEnd (b : Fin 4) (s : State) : Answer :=
  answerWhen s.awake (do
    let n := s.cal.entries[b]
    emit (.cal fun c => { c with entries := c.entries.set b 0 })
    if s.get F.CAL_CTL_ENABLE = 1 ∧ s.speedPin b.val = 0 then
      if s.get F.CAL_SPEED_DOWN ≤ n then lowerSpeed b
      else if n ≤ s.get F.CAL_SPEED_UP then
        emit (.cal fun c => { c with windows := c.windows.set b (c.windows[b] + 1) })
        if s.get F.CAL_SPEED_UP_WINDOWS ≤ s.cal.windows[b] + 1 then raiseSpeed b
      else emit (.cal fun c => { c with windows := c.windows.set b 0 })) s

/-! ### Thermal throttling (R278) -/

/-- The temperature at which a throttle level is entered, in °C. -/
def throttleEntry (level : Nat) : Int := if level = 1 then 95 else if level = 2 then 100 else if level = 3 then 105 else -273

/-- The level that a temperature enters. -/
def throttleLevel (t : Int) : Nat := if 105 ≤ t then 3 else if 100 ≤ t then 2 else if 95 ≤ t then 1 else 0

/-- The part takes a throttle level: ceilings, and at level 3 disc writes stop at the next sector boundary. -/
def takeThrottle (level : Nat) : Act Unit := do
  setF F.CAL_THERM_LEVEL level
  raise Ev.THERMAL_THROTTLE
  settleSpeeds
  if level = 3 then forAll bayList suspendSession

/-- THERMAL_SAMPLE (R278): the 1 ms average of the hottest junction, in °C. -/
def execThermalSample (t : Int) (s : State) : Answer :=
  answerWhen s.awake (do
    setI F.CAL_THERM_TEMP (satInt 8 t)
    emit (.life fun l => { l with
      maxTemp := max l.maxTemp t
      hotMicros := l.hotMicros + (l.hotAt.map (fun a => s.now - a)).getD 0
      hotAt := if 95 < t then some s.now else none })
    if s.get F.CAL_THERM_LEVEL < throttleLevel t then takeThrottle (throttleLevel t)) s

/-- THROTTLE_EXIT (R278): the temperature has stayed 3 °C below the entry of the level for 10 s. -/
def execThrottleExit (t : Int) (s : State) : Answer :=
  answerWhen s.awake (do
    let l := s.get F.CAL_THERM_LEVEL
    if 0 < l ∧ t + 3 ≤ throttleEntry l then
      setI F.CAL_THERM_TEMP (satInt 8 t)
      takeThrottle (l - 1)) s

end Sys2Proof.Machine
end

