-- ==== Sys2Proof/Machine/Operands.lean ====
section
/-! DEFINITION. The operands of Dynto instructions: the fields of the 64 bytes (R347), the opcodes and the modes that serve them
(R349, R371, R393), the completion codes (R353), and the checks of R354 to R356 on fields, scatter lists and buffers. -/

namespace Sys2Proof.Machine

/-! ### Fields (R347) -/

/-- Bits [lo + w − 1 : lo] of the 64 bytes of an instruction. -/
def Inst.bits (i : Inst) (lo w : Nat) : Nat := bitsOf i.desc.toNat lo w

def Inst.opcode (i : Inst) : Nat := i.bits 0 8
def Inst.ordered (i : Inst) : Bool := i.bits 8 1 == 1
def Inst.class_ (i : Inst) : Nat := i.bits 9 2
def Inst.chainBit (i : Inst) : Bool := i.bits 11 1 == 1
def Inst.skipBit (i : Inst) : Bool := i.bits 12 1 == 1
def Inst.salvage (i : Inst) : Bool := i.bits 13 1 == 1
def Inst.tag (i : Inst) : Nat := i.bits 16 16
def Inst.strand (i : Inst) : Nat := i.bits 32 18
def Inst.volume (i : Inst) : Nat := i.bits 50 12
def Inst.lsa (i : Inst) : Nat := i.bits 64 48
def Inst.count (i : Inst) : Nat := i.bits 128 32
def Inst.operand (i : Inst) : Nat := i.bits 160 32
def Inst.list (i : Inst) : Bool := i.bits 192 1 == 1
def Inst.ptr (i : Inst) : Nat := 4 * i.bits 194 62
def Inst.len (i : Inst) : Nat := i.bits 256 32
/-- Bytes `b` to b + n − 1 as a number. -/
def Inst.bytesAt (i : Inst) (b n : Nat) : Nat := i.bits (8 * b) (8 * n)

/-! ### Opcodes (R349, R371, R393) -/

abbrev opNOP : Nat := 0x00
abbrev opWRITE : Nat := 0x01
abbrev opREAD : Nat := 0x02
abbrev opVERIFY : Nat := 0x03
abbrev opFLUSH : Nat := 0x04
abbrev opOPEN : Nat := 0x08
abbrev opCLOSE : Nat := 0x09
abbrev opSEAL : Nat := 0x0A
abbrev opQUERYS : Nat := 0x0B
abbrev opCREATEV : Nat := 0x10
abbrev opDELETEV : Nat := 0x11
abbrev opQUERYV : Nat := 0x12
abbrev opRETIRE : Nat := 0x13
abbrev opMOUNT : Nat := 0x20
abbrev opUNMOUNT : Nat := 0x21
abbrev opINIT : Nat := 0x22
abbrev opSCRUB : Nat := 0x23
abbrev opCOMPACT : Nat := 0x24
abbrev opSPIN : Nat := 0x25
abbrev opPARK : Nat := 0x26
abbrev opEVENTS : Nat := 0x30
abbrev opLOG : Nat := 0x31
abbrev opSETP : Nat := 0x32
abbrev opGETP : Nat := 0x33
abbrev opSETT : Nat := 0x34
abbrev opGETT : Nat := 0x35
abbrev opREGR : Nat := 0x36
abbrev opREGW : Nat := 0x37
abbrev opRESET : Nat := 0x38
abbrev opSTAGE : Nat := 0x39
abbrev opACTIVATE : Nat := 0x3A
abbrev opATTEST : Nat := 0x3B
abbrev opTRACE : Nat := 0x3C
abbrev opCALIB : Nat := 0x3D
abbrev opSKIPIF : Nat := 0x3E
abbrev opWAIT : Nat := 0x3F
abbrev opCREATER : Nat := 0x40
abbrev opDELETER : Nat := 0x41

/-- The opcodes defined. -/
def opcodes : List Nat :=
  [0x00, 0x01, 0x02, 0x03, 0x04, 0x08, 0x09, 0x0A, 0x0B, 0x10, 0x11, 0x12, 0x13, 0x20, 0x21, 0x22, 0x23, 0x24, 0x25, 0x26] ++
  [0x30, 0x31, 0x32, 0x33, 0x34, 0x35, 0x36, 0x37, 0x38, 0x39, 0x3A, 0x3B, 0x3C, 0x3D, 0x3E, 0x3F, 0x40, 0x41]

/-- Opcodes that a Data function may issue (R349). -/
def dataOpcodes : List Nat := [opNOP, opWRITE, opREAD, opVERIFY, opFLUSH, opOPEN, opCLOSE, opSEAL, opQUERYS, opSKIPIF, opWAIT,
  opCREATER, opDELETER]

/-- Whether a mode serves an opcode (R371, R393). -/
def served (op mode : Nat) : Bool :=
  if op = opCALIB then mode == mACTIVE || mode == mSERVICE
  else
    let always := [mIDLE, mACTIVE, mPARK, mSERVICE]
    let safe := [opNOP, opREAD, opQUERYS, opQUERYV, opEVENTS, opLOG, opGETP, opSETT, opGETT, opREGR, opREGW, opRESET, opSTAGE,
      opACTIVATE, opATTEST, opTRACE, opSKIPIF, opWAIT, opCREATER, opDELETER]
    let early := [opNOP, opEVENTS, opLOG, opGETP, opSETT, opGETT, opREGR, opREGW, opSKIPIF, opWAIT, opCREATER, opDELETER]
    always.contains mode || (mode == mSAFE && safe.contains op) || (mode == mBRINGUP && early.contains op)

/-! ### Completion codes (R353) -/

abbrev cSUCCESS : Nat := 0x000
abbrev cSKIPPED : Nat := 0x001
abbrev cWAIT_TIMEOUT : Nat := 0x002
abbrev cCLASS_DEMOTED : Nat := 0x003
abbrev cRECOVERED : Nat := 0x004
abbrev cNO_CHANGE : Nat := 0x005
abbrev cINVALID_OPCODE : Nat := 0x100
abbrev cNOT_PRIVILEGED : Nat := 0x101
abbrev cWRONG_MODE : Nat := 0x102
abbrev cINVALID_FIELD : Nat := 0x103
abbrev cBUFFER_SHORT : Nat := 0x104
abbrev cDMA_FAULT : Nat := 0x105
abbrev cINVALID_STRAND : Nat := 0x106
abbrev cINVALID_VOLUME : Nat := 0x107
abbrev cINVALID_RING : Nat := 0x108
abbrev cSTRAND_LIMIT : Nat := 0x109
abbrev cVOLUME_EXISTS : Nat := 0x10A
abbrev cNOT_SUPPORTED : Nat := 0x10B
abbrev cDATA_POISONED : Nat := 0x400
abbrev cDISC_NEEDED : Nat := 0x401
abbrev cNO_SPACE : Nat := 0x402
abbrev cWRITE_FAILED : Nat := 0x403
abbrev cBAY_FAULTED : Nat := 0x404
abbrev cDIGEST_POISONED : Nat := 0x405
abbrev cDISC_NOT_BOUND : Nat := 0x406
abbrev cABORTED_BY_RESET : Nat := 0x600
abbrev cABORTED_BY_ACTIVATION : Nat := 0x601
abbrev cABORTED_BY_DRAIN : Nat := 0x602
abbrev cCHAIN_BROKEN : Nat := 0x603
abbrev cINTERNAL_ERROR : Nat := 0x700
abbrev cELEMENT_UNAVAILABLE : Nat := 0x701
abbrev cSECURITY_FAILURE : Nat := 0x702

/-! ### Checks before any effect (R354 to R356) -/

/-- Which fields an opcode uses (R372, R394): the others must be zero. -/
structure FieldRule where
  strand : Bool := false
  volume : Bool := false
  lsa : Bool := false
  /-- Range of COUNT, none when it must be zero. -/
  count : Option (Nat × Nat) := none
  /-- Bits of OPERAND that are not reserved. -/
  operand : Nat := 0
  buffer : Bool := false
  /-- Bytes of bytes 36 to 63 that are used: first and number, none for no byte. -/
  rest : Option (Nat × Nat) := none
deriving DecidableEq, Repr

/-- Bytes outside the used range of bytes 36 to 63 that are not zero: the offsets of their dwords. -/
def Inst.restFails (i : Inst) (rest : Option (Nat × Nat)) : List Nat :=
  ((List.range 28).map (· + 36)).filterMap (fun b =>
    let used : Bool := match rest with
      | some (lo, n) => decide (lo ≤ b) && decide (b < lo + n)
      | none => false
    if used = false ∧ i.bytesAt b 1 ≠ 0 then some (b / 4 * 4) else none)

/-- Byte offsets of the dwords that fail step 4 of R355. -/
def Inst.fieldFails (i : Inst) (r : FieldRule) : List Nat :=
  (if i.bits 14 2 ≠ 0 ∨ (i.salvage ∧ i.opcode ≠ opREAD) then [0] else []) ++
  (if (r.strand = false ∧ i.strand ≠ 0) ∨ (r.volume = false ∧ i.volume ≠ 0) ∨ i.bits 62 2 ≠ 0 then [4] else []) ++
  (if r.lsa = false ∧ i.bits 64 32 ≠ 0 then [8] else []) ++
  (if (r.lsa = false ∧ i.bits 96 16 ≠ 0) ∨ i.bits 112 16 ≠ 0 then [12] else []) ++
  (match r.count with
   | none => if i.count ≠ 0 then [16] else []
   | some (lo, hi) => if i.count < lo ∨ hi < i.count ∨ (r.lsa ∧ r.volume ∧ 2 ^ 48 < i.lsa + i.count) then [16] else []) ++
  (if i.operand &&& r.operand ≠ i.operand then [20] else []) ++
  (if i.bits 193 1 ≠ 0 ∨ (r.buffer = false ∧ i.bits 192 32 ≠ 0) then [24] else []) ++
  (if r.buffer = false ∧ i.bits 224 32 ≠ 0 then [28] else []) ++
  (if r.buffer = false ∧ i.len ≠ 0 then [32] else []) ++
  i.restFails r.rest

/-- The first scatter-list entry that is invalid (R348), reading until the lengths reach `len` or END; and the bytes read. -/
def sgFails (len : Nat) : Nat → Nat → List SgEntry → Option Nat × Nat
  | _, total, [] => (none, total)
  | n, total, e :: l =>
    if len ≤ total then (none, total)
    else if 4096 ≤ n ∨ e.addr % 4 ≠ 0 ∨ e.reserved ≠ 0 then (some n, total)
    else if e.link then sgFails len (n + 1) total l
    else if e.len = 0 ∨ e.len % 4 ≠ 0 ∨ 2 ^ 32 ≤ e.len then (some n, total)
    else if e.last then (none, total + e.len)
    else sgFails len (n + 1) (total + e.len) l

/-- Step 4 of R355: the code and DW0 of the first field that fails, in the instruction and then in the scatter list. -/
def Inst.checkFields (i : Inst) (r : FieldRule) (extra : List Nat) (mem : HostMem) : Option (Nat × Nat) :=
  match i.fieldFails r ++ extra with
  | o :: l => some (cINVALID_FIELD, l.foldl min o)
  | [] =>
    if i.list ∧ r.buffer then (sgFails i.len 0 0 mem.sgl).1.map (fun n => (cINVALID_FIELD, 0x80000000 + n)) else none

/-- Step 6 of R355: the buffer is long enough. -/
def Inst.checkBuffer (i : Inst) (need : Nat) (mem : HostMem) : Option (Nat × Nat) :=
  let have_ := if i.list then min i.len (sgFails i.len 0 0 mem.sgl).2 else i.len
  if have_ < need then some (cBUFFER_SHORT, need) else none

/-- A failed host access, before any effect (R427). -/
def checkDma (mem : HostMem) : Option (Nat × Nat) := if mem.ok then none else some (cDMA_FAULT, 0)

/-- The first check that fails. -/
def firstFail : List (Option (Nat × Nat)) → Option (Nat × Nat)
  | [] => none
  | some x :: _ => some x
  | none :: l => firstFail l

end Sys2Proof.Machine
end

