-- ==== Sys2Proof/Machine/Dynto.lean ====
section
/-! DEFINITION. What every Dynto instruction shares beside its operands: chains (R360, R361), completions (R350 to R353), aborts (R364 to R366), the gates on WRITE completions
(R34, R299, R300, R308), and what completes instructions that wait. -/

namespace Sys2Proof.Machine

/-! ### Instructions in progress -/

def State.inst (s : State) (id : Nat) : Option Inst := s.insts.find? (fun i => i.id == id)

def setInst (id : Nat) (g : Inst → Inst) : Act Unit := emit (.insts fun l => l.map (fun i => if i.id == id then g i else i))

def HostFn.sq (h : HostFn) (n : Nat) : Option SubRing := h.sqs.find? (fun r => r.num == n)
def HostFn.cqOf (h : HostFn) (n : Nat) : Option ComRing := h.cqs.find? (fun r => r.num == n)

def setSq (f : Fin 4) (n : Nat) (g : SubRing → SubRing) : Act Unit :=
  emit (.fn f fun h => { h with sqs := h.sqs.map (fun r => if r.num == n then g r else r) })

def setCq (f : Fin 4) (n : Nat) (g : ComRing → ComRing) : Act Unit :=
  emit (.fn f fun h => { h with cqs := h.cqs.map (fun r => if r.num == n then g r else r) })

/-- The chain of an instruction, while its ring keeps it. -/
def State.chainOf (s : State) (i : Inst) : Option Chain :=
  i.chain.bind (fun c => (s.fns[i.fn].sq i.sq).bind (fun r => r.chains.find? (fun x => x.first == c)))

def setChain (i : Inst) (g : Chain → Chain) : Act Unit :=
  match i.chain with
  | none => pure ()
  | some c => setSq i.fn i.sq (fun r => { r with chains := r.chains.map (fun x => if x.first == c then g x else x) })

/-- Whether a completion of a strand carries DEFERRED (R352). -/
def State.deferredOn (s : State) (n : Nat) : Bool :=
  (s.strand n).any (fun t => t.deferred && (t.state == .opened || t.state == .closing))

/-- SEQ_BUSY (R454): between commands every routine is parked. -/
def showThreads : Act Unit := do
  setF F.SEQ_BUSY_PARKED (min 65535 (← rd).seqs.threads.length)

/-- An instruction completes: its completion is staged for its ring, and its chain takes its code (R350, R360, R361). One that a
function-level reset has disowned posts nothing (R365). -/
def completeAs (i : Inst) (code dw0 : Nat) (wrote : Option (Nat × Nat × Nat)) : Act Unit := do
  let s ← rd
  let code := if code = cSUCCESS ∧ i.demoted then cCLASS_DEMOTED else code
  emit (.insts fun l => l.filter (fun j => j.id != i.id))
  emit (.seqs fun q => { q with threads := q.threads.filter (fun t => t.inst != some i.id) })
  showThreads
  if i.orphan = false then
    let d : Bool := i.strand != 0 && s.deferredOn i.strand
    let c : Completion := { code := code, dw0 := dw0 % 2 ^ 32, echo := i.bits 32 32, sq := i.sq, tag := i.tag, deferred := d
                            id := i.id, chain := i.chain, ordered := i.ordered
                            wrote := wrote }
    setCq i.fn i.cq (fun r => { r with waiting := r.waiting ++ [c] })
    let attn := s.attention i.fn
    setChain i (fun x => { x with last := some (code, dw0 % 2 ^ 32, attn, d)
                                  broken := if 0x100 ≤ code ∧ code ≠ cCHAIN_BROKEN then some i.tag else x.broken })
    if i.chain.isSome ∧ i.chainBit = false then
      setSq i.fn i.sq (fun r => { r with chains := r.chains.filter (fun x => some x.first != i.chain) })

def complete (id code dw0 : Nat) : Act Unit := do
  match (← rd).inst id with
  | none => pure ()
  | some i => completeAs i code dw0 none

/-- An instruction that is not past its commit point is aborted with a code, and its routine, once dispatched, is abandoned; the others
go on (R36, R364, R366, R447). -/
def abortInst (i : Inst) (code : Nat) : Act Unit := do
  if i.stage ≠ .committed ∧ i.stage ≠ .gated then
    if i.stage ≠ .queued then incStop F.SEQ_ABANDON_CNT_CNT
    completeAs i code 0 none

def abortAll (p : Inst → Bool) (code : Nat) : Act Unit := do
  let s ← rd
  forAll (s.insts.filter p) (fun i => abortInst i code)

/-- A function-level reset of a function's instructions (R365): those not past their commit point end without a completion, the
others go on without one. -/
def disownAll (f : Fin 4) : Act Unit := do
  let s ← rd
  let gone := s.insts.filter (fun i => i.fn == f && i.stage != .committed && i.stage != .gated)
  addStop F.SEQ_ABANDON_CNT_CNT (gone.filter (fun i => i.stage != .queued)).length
  emit (.seqs fun q => { q with threads := q.threads.filter (fun t => !gone.any (fun i => t.inst == some i.id)) })
  showThreads
  emit (.insts fun l => (l.filter (fun i => i.fn != f || i.stage == .committed || i.stage == .gated)).map (fun i =>
    if i.fn = f then { i with orphan := true } else i))

/-! ### Order, chains and dispatch (R358, R360, R361, R369, R450) -/

/-- Whether an earlier instruction of a ring has not completed: it is in progress, or its completion waits for room (R346). -/
def State.unfinished (s : State) (i : Inst) (p : Inst → Bool) (q : Completion → Bool) : Bool :=
  s.insts.any (fun j => j.fn == i.fn && j.sq == i.sq && decide (j.id < i.id) && p j) ||
  s.fns[i.fn].cqs.any (fun r => r.waiting.any (fun c => c.sq == i.sq && decide (c.id < i.id) && q c))

/-- Whether R358 and R360 let an instruction start. -/
def State.mayStart (s : State) (i : Inst) : Bool :=
  !s.unfinished i (fun j => i.ordered || j.ordered) (fun c => i.ordered || c.ordered) &&
  (i.chain.isNone || !s.unfinished i (fun j => j.chain == i.chain) (fun c => c.chain == i.chain))

/-- The bucket of class 0 instructions of a port, filled up to now: 2,000 a second, at most 64 (R369). -/
def Class0.fill (c : Class0) (now : Nat) : Class0 := { level := min 64000 (c.level + 2 * (now - c.at_)), at_ := now }

/-- Admission at class 0: the instruction takes one from its port's bucket, or is executed at class 1 (R369). -/
def admitClass (i : Inst) : Act Unit := do
  let s ← rd
  if i.class_ = 0 then
    let p := portOf i.fn
    let c := s.class0[p].fill s.now
    if 1000 ≤ c.level ∧ i.len ≤ 2 ^ 20 then emit (.class0 p fun _ => { c with level := c.level - 1000 })
    else
      emit (.class0 p fun _ => c)
      setInst i.id (fun i => { i with cls := 1, demoted := true })

/-- Checks 1 to 3 of R355, from the opcode dispatch table (R450); a WAIT of kind 2, 4 or 5 needs an Admin function (R418). -/
def State.checkOpcode (s : State) (i : Inst) : Option (Nat × Nat) :=
  let op := i.opcode
  let waits : Bool := op == opWAIT && (i.bits 160 3 == 2 || i.bits 160 3 == 4 || i.bits 160 3 == 5)
  if s.get (F.SEQ_DISPATCH_OP_VALID op) = 0 then some (cINVALID_OPCODE, 0)
  else if isAdmin i.fn = false ∧ (s.get (F.SEQ_DISPATCH_OP_ADMIN_ONLY op) = 1 ∨ waits) then some (cNOT_PRIVILEGED, 0)
  else if bitAt (s.get (F.SEQ_DISPATCH_OP_MODES op)) s.mode = false then some (cWRONG_MODE, s.mode)
  else none

/-- The sequencers' kind of thread for an instruction: thread 5 serves class 0, threads 0 to 4 any class (R440). -/
def threadFor (cls : Nat) : Nat := if cls = 0 then 5 else 0

/-- CLOSE_STRAND takes its strand to CLOSING (R374, R378): at its fetch, or at its start when it is a member of a chain (assumption
log 41). Nothing happens for one that a check will stop. -/
def beginClose (i : Inst) : Act Unit := do
  if i.opcode = opCLOSE ∧ 64 ≤ i.len then
    match (← rd).strand i.strand with
    | none => pure ()
    | some t =>
      if t.state = .opened ∧ t.vol = i.volume ∧ (isAdmin i.fn ∨ t.owner = i.fn) then
        setStrand t.num (fun t => { t with state := .closing, dirty := true })

/-- An instruction that may start does so: in a broken chain it completes with CHAIN_BROKEN, in one that skips with SKIPPED; otherwise
checks 1 to 3 are made, class 0 is admitted, and its routine starts at ENTRY (R360, R361, R369, R450). -/
def startInst (i : Inst) : Act Unit := do
  let s ← rd
  let c := s.chainOf i
  let broken := c.bind Chain.broken
  let mends : Bool := i.opcode == opSKIPIF && !(c.bind Chain.last).any (fun l => l.1 == cCHAIN_BROKEN)
  if broken.isSome ∧ mends = false then complete i.id cCHAIN_BROKEN (broken.getD 0)
  else
    if broken.isSome then setChain i (fun c => { c with broken := none })
    if c.any Chain.skip ∧ i.skipBit then complete i.id cSKIPPED 0
    else
      setChain i (fun c => { c with skip := false })
      match s.checkOpcode i with
      | some x => complete i.id x.1 x.2
      | none =>
        admitClass i
        if i.chain.isSome then beginClose i
        setInst i.id (fun i => { i with stage := .dispatched, startedAt := s.now })
        let entry := s.get (F.SEQ_DISPATCH_OP_ENTRY i.opcode)
        let cls := (((← rd).inst i.id).map Inst.cls).getD i.cls
        emit (.seqs fun q => { q with threads := q.threads.filter (fun t => t.inst != some i.id) ++
          [{ seq := i.sequencer, thread := threadFor cls, inst := some i.id, cls := cls
             now := { addr := entry }, restart := { addr := entry } }] })
        showThreads

/-- Starts the dispatched instructions that R358 and R360 have held (R440). -/
def releaseHeld : Act Unit := do
  let s ← rd
  forAll (s.insts.filter (fun i => i.stage == .held)) (fun i => do
    let s ← rd
    if s.mayStart i then startInst i)

/-! ### Buffers -/

/-- The instruction of an opcode that has been dispatched and not yet executed. -/
def State.dispatched (s : State) (id op : Nat) : Option Inst :=
  match s.inst id with
  | some i => if i.stage = .dispatched ∧ i.opcode = op then some i else none
  | none => none

/-- Bytes written to an instruction's buffer, up to its length. -/
def writeBuffer (id : Nat) (b : List Byte) : Act Unit := emit (.out (.bytes id b))

/-! ### The limit on acknowledged data (R34, R278, R300, R308) -/

/-- The fraction of the landing zone's program rate at a throttle level, in quarters (R278). -/
def rateQuarters (level : Nat) : Nat := 4 - level

/-- The amount of acknowledged data that DRAM alone may hold, in bytes (R34, R308). -/
def State.dramLimit (s : State) : Nat :=
  if s.zone = zFROZEN then s.get F.FLZ_FREEZE_DRAM_MAX * 2 ^ 20
  else
    let free := match s.flash.programRate with
      | some r => r
      | none => min 2800000000 (15000000 * s.get F.FLZ_GEOM_LUNS)
    free * rateQuarters (s.get F.CAL_THERM_LEVEL) / 4 * s.policy pDRAM_HOLD / 10

/-- Bytes acknowledged and held only in DRAM. -/
def State.dramOnly (s : State) : Nat := 4096 * (s.cache.filter (fun c => c.acked && s.atRisk c)).length

/-- Bytes of a waiting WRITE that are held only in DRAM. -/
def State.heldBy (s : State) (id : Nat) : Nat := 4096 * (s.cache.filter (fun c => c.inst == id && !c.acked && s.atRisk c)).length

/-- Whether the limit of R34 lets a WRITE's completion be posted (R300). -/
def State.limitAllows (s : State) (i : Inst) : Bool :=
  let sum := s.dramOnly + s.heldBy i.id
  if i.cls = 0 then decide (sum ≤ s.dramLimit) else decide (8 * sum ≤ 7 * s.dramLimit)

/-- A bucket filled at `rate` bytes/s up to 4 MiB (R299). -/
def Bucket.fill (b : Bucket) (now rate : Nat) : Bucket :=
  { level := min 4194304 (b.level + (rate * (now - b.at_) / 1000000 : Nat)), at_ := now }

/-- Whether a bucket holds an amount; a longer one needs the bucket full (R299). -/
def Bucket.allows (b : Bucket) (n : Nat) : Bool := decide ((min n 4194304 : Nat) ≤ b.level)

def State.volBucket (s : State) (vol : Nat) : Bucket := (s.flash.volBuckets.lookup vol).getD {}

/-- Whether the admitted rate lets a WRITE's completion be posted (R299, R308). -/
def State.bucketAllows (s : State) (i : Inst) : Bool :=
  if s.zone = zFROZEN then ((s.volBucket i.volume).fill s.now (s.discRate i.volume)).allows i.len
  else if i.cls = 0 then true
  else match s.admitted with
    | none => true
    | some a => (s.flash.bucket.fill s.now a).allows i.len

/-- Whether a WRITE that waits at the gate comes before another: by class, then by arrival (R299, R300). -/
def Inst.before (i j : Inst) : Bool := decide (i.cls < j.cls) || (i.cls == j.cls && decide (i.id < j.id))

/-- Whether a WRITE's completion may be posted now, or waits (R299, R300, R308). -/
def State.gateOpen (s : State) (i : Inst) : Bool :=
  s.limitAllows i && s.bucketAllows i && !s.insts.any (fun j => j.stage == .gated && j.id != i.id && j.before i)

/-- Posting takes its amount from the bucket (R299, R308). -/
def takeBucket (i : Inst) : Act Unit := do
  let s ← rd
  if s.zone = zFROZEN then
    let b := (s.volBucket i.volume).fill s.now (s.discRate i.volume)
    emit (.flash fun f => { f with volBuckets := (i.volume, { b with level := b.level - i.len }) ::
                                                   (f.volBuckets.filter (fun x => x.1 != i.volume)) })
  else if i.cls ≠ 0 then
    match s.admitted with
    | none => emit (.flash fun f => { f with bucket := { level := 4194304, at_ := s.now } })
    | some a =>
      let b := s.flash.bucket.fill s.now a
      emit (.flash fun f => { f with bucket := { b with level := b.level - i.len } })

/-- DRAM_GATED reads 1 while the limit holds completions (R300). -/
def showGate : Act Unit := do
  let s ← rd
  setF F.FLZ_STAT_DRAM_GATED (s.insts.any (fun i => i.stage == .gated && !s.limitAllows i)).toNat

/-! ### What completes instructions that wait -/

/-- Whether a SEQ range of a strand holds a sector that is not in the landing zone or on disc (LANDING scope). -/
def State.pendingLanding (s : State) (c : Nat × Nat × Nat) : Bool :=
  s.cache.any (fun x => x.strand == c.1 && decide (c.2.1 ≤ x.seq) && decide (x.seq ≤ c.2.2) && s.atRisk x)

/-- Whether it holds one that has not passed on disc (DISC scope). -/
def State.pendingDisc (s : State) (c : Nat × Nat × Nat) : Bool :=
  (s.notOnDisc c.1).any (fun v => decide (c.2.1 ≤ v) && decide (v ≤ c.2.2) &&
    !(s.strand c.1).any (fun t => t.lostSeqs.contains v))

/-- Sectors of the range that are lost. -/
def State.lostIn (s : State) (c : Nat × Nat × Nat) : Nat :=
  match s.strand c.1 with
  | none => 0
  | some t => (t.lostSeqs.filter (fun v => decide (c.2.1 ≤ v) && decide (v ≤ c.2.2))).length

/-- A FLUSH completes once its covered data has reached its scope, or is lost (R363, R387). -/
def settleFlush (i : Inst) : Act Unit := do
  let s ← rd
  let disc : Bool := i.data.head? == some 1 || s.zone == zFROZEN
  let lost := (i.covers.map s.lostIn).sum
  if i.covers.all (fun c => !(if disc then s.pendingDisc c else s.pendingLanding c)) then
    if lost = 0 then complete i.id cSUCCESS 0 else complete i.id cWRITE_FAILED lost

/-- The strand summary (R378). -/
def summaryBytes (t : Strand) : List Byte :=
  leBytes 4 t.num ++ leBytes 2 t.vol ++ leBytes 2 (t.digestPoisoned.toNat + 2 * t.deferred.toNat + 4 * t.incomplete.toNat) ++
  leBytes 8 t.firstSeq ++ leBytes 8 t.lastSeq ++ leBytes 8 t.sectors ++ digestBytes t.digest.final

/-- CLOSE_STRAND ends: the digest is final and the state CLOSED (R378). A block of the strand closes with it (R289). -/
def settleClose (i : Inst) : Act Unit := do
  let s ← rd
  match s.strand i.strand with
  | none => complete i.id cINVALID_STRAND 0
  | some t =>
    if t.state = .closed ∨ t.state = .sealed then
      writeBuffer i.id (summaryBytes t)
      complete i.id cNO_CHANGE 0
      return
    let open_ : Bool := s.cache.any (fun c => c.strand == t.num && (s.atRisk c || !c.digested)) ||
      s.insts.any (fun j => j.opcode == opWRITE && j.strand == t.num && decide (j.id < i.id) && j.stage != .gated)
    if open_ = false then
      setStrand t.num (fun t => { t with state := .closed, closeTime := s.timeStamp, dirty := true })
      forAll (s.flash.blocks.filter (fun b => b.state == .openData && b.strand == t.num)) (fun b => closeBlock b.num)
      let s ← rd
      match s.strand t.num with
      | none => pure ()
      | some t =>
        writeBuffer i.id (summaryBytes t)
        attend none
        complete i.id (if t.digestPoisoned then cDIGEST_POISONED else cSUCCESS) 0

/-- The discs that hold sectors of a strand, in ascending DISC_ID. -/
def State.strandDiscs (s : State) (t : Strand) : List Nat :=
  ((s.extents.filter (fun e => e.vol == t.vol && e.onDisc.any (fun x => decide (t.firstSeq ≤ x.2) && decide (x.2 ≤ t.lastSeq)))).filterMap
    (fun e => e.disc.map (fun d => d.1))).eraseDups.mergeSort (fun a b => decide (a ≤ b))

/-- Bytes 0 to 191 of a seal record (R379). -/
def State.sealBytes (s : State) (t : Strand) : List Byte :=
  let discs := s.strandDiscs t
  leBytes 2 1 ++ leBytes 2 (t.anyCompressed.toNat + 2 * (decide (8 < discs.length)).toNat) ++ leBytes 4 t.num ++ leBytes 2 t.vol ++
  zeroBytes 6 ++ leBytes 8 t.firstSeq ++ leBytes 8 t.lastSeq ++ leBytes 8 t.sectors ++ leBytes 8 t.openTime ++ leBytes 8 t.closeTime ++
  leBytes 8 s.timeStamp ++ digestBytes t.digest.final ++ (digestBytes (sm3 Config.certificate)).take 16 ++
  leBytes 8 (s.createSeq t.vol) ++ leBytes 4 discs.length ++ zeroBytes 4 ++
  (List.range 8).flatMap (fun i => leBytes 8 (discs.getD i 0))

/-- SEAL_STRAND ends once every sector has passed on disc (R379). -/
def settleSeal (i : Inst) : Act Unit := do
  let s ← rd
  match s.strand i.strand with
  | none => complete i.id cINVALID_STRAND 0
  | some t =>
    match t.sealRecord with
    | some r =>
      writeBuffer i.id r
      complete i.id cNO_CHANGE 0
    | none =>
      if t.digestPoisoned then complete i.id cDIGEST_POISONED 0
      else if t.incomplete ∨ t.lost ≠ 0 then complete i.id cWRITE_FAILED t.lost
      else if (s.notOnDisc t.num).isEmpty then
        let b := s.sealBytes t
        emit .useFree
        let r := b ++ beBytes 64 (Config.identitySignature s.free b).toNat
        setStrand t.num (fun t => { t with state := .sealed, sealRecord := some r, dirty := true })
        emit (.nv fun v => { v with sys := { v.sys with seals := (t.num, r) :: v.sys.seals.filter (fun x => x.1 != t.num) } })
        writeBuffer i.id r
        complete i.id cSUCCESS 0

/-- A strand's context and number are freed; a deferred error of it is kept for its last owner (R352, R380, R410). -/
def freeStrand (n : Nat) : Act Unit := do
  let s ← rd
  match s.strand n with
  | none => pure ()
  | some t =>
    if t.deferred then
      emit (.deferred fun l => l ++ [{ owner := t.owner, strand := n, durable := s.durableSeq t, released := true }])
    emit (.strands fun l => l.filter (fun x => x.num != n))
    emit (.nv fun v => { v with sys := { v.sys with seals := v.sys.seals.filter (fun x => x.1 != n)
                                                    strandLog := v.sys.strandLog.filter (fun x => x.num != n)
                                                    checkpoint := { v.sys.checkpoint with
                                                      strands := v.sys.checkpoint.strands.filter (fun x => x.num != n) } } })
    sweepCache
    attend none

/-- DELETE_VOLUME commits once every instruction fetched before it that names the volume has completed (R390). -/
def settleDelete (i : Inst) : Act Unit := do
  let s ← rd
  let v := i.volume
  if !s.insts.any (fun j => decide (j.id < i.id) && j.volume == v && j.opcode != opDELETEV) then
    let bound := s.discs.filter (fun d => d.vol == v)
    forAll (s.strands.filter (fun t => t.vol == v)) (fun t => freeStrand t.num)
    emit (.cache fun l => l.filter (fun c => c.vol != v))
    emit (.extents fun l => l.filter (fun e => e.vol != v))
    emit (.discs fun l => l.filter (fun d => d.vol != v))
    lapseRequests (fun r => r.vol == v)
    emit (.volumes fun l => l.filter (fun x => x.num != v))
    forAll bayList (fun b => do
      let s ← rd
      emit (.bay b fun y => { y with readAhead := y.readAhead.filter (fun x => x.vol != v) })
      if s.bays[b].session.any (fun x => x.vol == v) then
        forAll (opusOf b) (fun k => stopWriteAtBoundary k 1)
        emit (.bay b fun y => { y with session := none })
      match bound.find? (fun d => d.bay == some b) with
      | some d => emit (.bay b fun y => { y with attached := some (d.id, true, true) })
      | none => pure ())
    emit (.nv fun n => { n with sys := { n.sys with
      mapLog := n.sys.mapLog.filter (fun e => e.vol != v)
      checkpoint := { n.sys.checkpoint with extents := n.sys.checkpoint.extents.filter (fun e => e.vol != v) } } })
    settleBlocks
    complete i.id cSUCCESS 0

/-- Whether every directory entry of a disc has been written (R67). -/
def Disc.recorded (d : Disc) : Bool := d.bands.all (fun x => x.pending.isEmpty && x.range.isNone)

/-- Whether what an UNMOUNT must have written on a disc has been: directory entries, passport records and map sectors (R321). -/
def State.discWritten (s : State) (d : Disc) : Bool := d.passportPending.isEmpty && d.recorded && !s.mapDue d

/-- A write session that an UNMOUNT has stopped ends once its directory entries are written; what is staged and has not passed stays in
the landing zone (R321, R340). -/
def closeSession (b : Fin 4) : Act Unit := do
  let s ← rd
  match s.discIn b, s.bays[b].session with
  | some d, some x =>
    if (opusOf b).all (fun k => !s.writers[k].busy) ∧ d.recorded = true then
      if x.staged.all (fun t => t.map.isEmpty) then
        emit (.bay b fun y => { y with session := some { x with staged := [] } })
        forAll (opusOf b) (fun k => emit (.writer k fun w => { w with relocate := [] }))
      endSession b
  | _, _ => pure ()

/-- UNMOUNT commits once its map sectors are written (R393). It completes, and UNLOAD_READY is raised, once pending records are written and the bay is LOADED; then the tray opens where
EJECT asks for it (R321, R398, R420); in DRAIN no tray opens and it ends without (R36, log 70). -/
def settleUnmount (i : Inst) : Act Unit := do
  let b : Fin 4 := Fin.ofNat 4 (i.operand % 4)
  closeSession b
  beginMap b
  let s ← rd
  match s.discIn b with
  | none =>
    if s.bays[b].attached.isSome then
      setInst i.id (fun i => { i with stage := .committed })
      if s.bayState b.val = bLOADED then
        emit (.bay b fun y => { y with attached := none })
        raise Ev.UNLOAD_READY 0 0 b.val
      else parkBay b
  | some d =>
    if s.bays[b].session.isNone ∧ s.discWritten d then
      setInst i.id (fun i => { i with stage := .committed })
      if s.bayState b.val = bLOADED then
        setDisc d.id (fun d => { d with bay := none, changed := false })
        if d.migrationRequested then requestDisc d.id d.vol reasonMIGRATE
        emit (.bay b fun y => { y with readAhead := [], attached := none })
        raise Ev.UNLOAD_READY 0 0 b.val
      else parkBay b
  let s ← rd
  if (s.discIn b).any (fun d => !d.passportPending.isEmpty) ∧ s.chip.degraded.contains .identity then
    complete i.id cELEMENT_UNAVAILABLE Ev.IDENTITY_UNAVAILABLE
  else if s.bayState b.val = bFAULTED then complete i.id cBAY_FAULTED b.val
  else if (s.discIn b).isNone ∧ s.bays[b].attached.isNone then
    if bitAt i.operand 2 = false ∨ s.mode = mDRAIN then complete i.id cSUCCESS 0
    else if s.bayState b.val = bEMPTY ∧ s.get (F.BAY_STAT_TRAY_CLOSED b.val) = 0 then complete i.id cSUCCESS 0

/-- A SPIN completes when the spindle is at speed and, with a disc mounted, both OPUs are on track (R399). In DRAIN one past its commit
point completes with its class set, though the spindle comes to rest (R36, log 70). -/
def settleSpin (i : Inst) : Act Unit := do
  let s ← rd
  let b : Fin 4 := Fin.ofNat 4 (i.operand % 4)
  let onTrack : Bool := (s.discIn b).isNone || (opusOf b).all (fun k => s.get (F.BAY_OPT_STAT_ON_TRACK k.val) == 1)
  if s.bayState b.val = bFAULTED then complete i.id cBAY_FAULTED b.val
  else if s.motorState (spindleOf b) = mtAT_SPEED ∧ onTrack ∨ s.mode = mDRAIN then complete i.id cSUCCESS (s.speedClass b.val)

/-- A PARK_BAY completes when its bay is LOADED (R400). -/
def settlePark (i : Inst) : Act Unit := do
  let s ← rd
  let b : Fin 4 := Fin.ofNat 4 (i.operand % 4)
  let st := s.bayState b.val
  if st = bLOADED ∨ st = bEMPTY then complete i.id cSUCCESS 0
  else if st = bFAULTED then complete i.id cBAY_FAULTED b.val

/-- Whether every instruction of a ring that is reset or deleted has completed, and its completion has been posted (R364). -/
def State.ringQuiet (s : State) (i : Inst) (n : Nat) : Bool :=
  !s.insts.any (fun j => j.fn == i.fn && j.sq == n && j.id != i.id) && !s.fns[i.fn].cqs.any (fun r => r.waiting.any (fun c => c.sq == n))

/-- RESET completes what it waits for (R364, R410); the bay of a bay reset is EMPTY or LOADED once it has been brought up again. -/
def settleReset (i : Inst) : Act Unit := do
  let s ← rd
  let target := bitsOf i.operand 8 8
  let finish (code dw0 : Nat) : Act Unit := do
    raise (i.data.headD 0)
    complete i.id code dw0
  match bitsOf i.operand 0 3 with
  | 1 =>
    if !s.insts.any (fun j => j.id != i.id && j.strand == i.strand && decide (j.id < i.id)) then
      freeStrand i.strand
      finish cSUCCESS 0
  | 2 =>
    let b : Fin 4 := Fin.ofNat 4 target
    let st := s.bayState b.val
    if i.data.length < 2 ∧ s.mode ≠ mDRAIN then pure ()
    else if st = bLOADED ∨ st = bEMPTY then finish cSUCCESS 0
    else if st = bFAULTED then finish cBAY_FAULTED b.val
  | 0 =>
    if s.ringQuiet i target then
      setSq i.fn target (fun r => { r with head := 0, tail := 0, chain := none, chains := [] })
      finish cSUCCESS 0
  | _ => pure ()

/-- DELETE_RING completes once the ring's committed instructions have (R364). -/
def settleDeleteRing (i : Inst) : Act Unit := do
  let s ← rd
  let n := bitsOf i.operand 0 6
  if bitAt i.operand 6 then
    emit (.fn i.fn fun h => { h with cqs := h.cqs.filter (fun r => r.num != n) })
    complete i.id cSUCCESS 0
  else if s.ringQuiet i n then
    emit (.fn i.fn fun h => { h with sqs := h.sqs.filter (fun r => r.num != n) })
    complete i.id cSUCCESS 0

/-- A COMPACT completes once every live extent has been copied or discarded (R331, R402); `data` is the number of extents that it
read and their numbers. -/
def settleCompact (i : Inst) : Act Unit := do
  let s ← rd
  if !s.cache.any (fun c => c.inst == i.id && c.moved.isSome) then
    let id := i.bytesAt 36 8
    let vol := ((s.disc id).map Disc.vol).getD 0
    let left := s.extents.filter (fun e => i.data.contains e.ext && e.vol == vol && (e.disc.map (fun d => d.1)) == some id)
    checkDisc id
    complete i.id cSUCCESS (i.data.length - left.length)

/-- A MOUNT that waits for its bay ends when the bay is FAULTED (R395). -/
def settleMount (i : Inst) : Act Unit := do
  let s ← rd
  let b : Fin 4 := Fin.ofNat 4 (i.operand % 4)
  if s.bayState b.val = bFAULTED then
    emit (.bay b fun y => { y with mounting := none })
    complete i.id cBAY_FAULTED b.val

/-- A CALIBRATE completes when its run has ended, and begins it once no other run has the element (R416); one queued in DRAIN ends with
the result ABORTED (R36, R270, log 70). -/
def settleCalibrate (i : Inst) : Act Unit := do
  let s ← rd
  let n := i.operand % 16
  let elem := bitsOf i.operand 16 16
  if s.cal.runs.any (fun r => r.kind == n && r.elem == elem) then pure ()
  else if i.data.isEmpty ∧ s.mode = mDRAIN then complete i.id cSUCCESS calABORTED
  else if s.calBusy n elem then pure ()
  else if i.data.isEmpty then
    beginCal n elem (some i.id)
    setInst i.id (fun i => { i with data := [1] })
  else complete i.id cSUCCESS (((s.cal.results.find? (fun r => r.1 == n && r.2.1 == elem)).map (fun r => r.2.2.1)).getD 0)

/-- FLAGS.COMPACTING of the discs that a COMPACT in progress names (R402). -/
def showCompacting : Act Unit := do
  let s ← rd
  emit (.discs fun l => l.map (fun d =>
    { d with compacting := s.insts.any (fun i => i.opcode == opCOMPACT && i.bytesAt 36 8 == d.id) }))

/-- Completes what can be completed of the instructions that wait. -/
def settle : Act Unit := do
  sweepCache
  let s ← rd
  forAll (s.insts.filter (fun i => i.stage == .waiting || i.stage == .committed)) (fun i => do
    if (← rd).insts.any (fun j => j.id == i.id) then
      match i.opcode with
      | 0x04 => settleFlush i
      | 0x09 => settleClose i
      | 0x0A => settleSeal i
      | 0x11 => settleDelete i
      | 0x20 => settleMount i
      | 0x21 => settleUnmount i
      | 0x24 => settleCompact i
      | 0x25 => settleSpin i
      | 0x26 => settlePark i
      | 0x38 => settleReset i
      | 0x3D => settleCalibrate i
      | 0x41 => settleDeleteRing i
      | _ => pure ())
  releaseHeld
  showCompacting
  forAll fnList (fun f => do
    let s ← rd
    emit (.fn f fun h => { h with posted := h.posted.filter (fun c => s.pendingDisc c) }))
  saveBlocks
  showGate

/-- Runs an instruction once its checks pass; completes it with the code of the first that fails (R355). -/
def perform (id op : Nat) (checks : State → Inst → List (Option (Nat × Nat))) (m : Inst → Act Unit) : Act Unit := do
  let s ← rd
  match s.dispatched id op with
  | none => pure ()
  | some i =>
    match firstFail (checks s i) with
    | some x => complete id x.1 x.2
    | none => m i
    settle

end Sys2Proof.Machine
end

