-- ==== Sys2Proof/Machine/WritePath.lean ====
section
/-! DEFINITION. Writing and read-after-write (R240 to R266): training of the laser link, writing tracks, verdicts, relocation,
directory and passport sectors, stops, and write sessions (R322). -/

namespace Sys2Proof.Machine

/-- WSL_TRAIN (R245): a write of 1 to WRP_WSL_CTL.TRAIN. The tests are measured in the servo frames that follow. Ignored with WRP_CFG_REJECT while the OPU
writes (R264), and while the link trains. -/
def execWslTrain (m : Master) (k : Fin 8) (s : State) : Answer :=
  answer (do
    if s.mayWrite m then
      if s.writers[k].busy then
        setF (F.WRP_STAT_CFG_REJECT k.val) 1
        raiseWrp wrpCFG_REJECT k
      else trainLink k) s

/-! ### Payloads (R55, R62 to R64, R323, R496) -/

/-- The payload of one stored sector: `i` within the extent's stored sectors (R64, R317). DESIGN CHOICE (assumption log 32), where the spec gives no value: an
unwritten sector of a written chunk, stored as zero bytes, has SEQ 0 and STRAND 0, and CHUNK_SECTOR j of a compressed or raw chunk has the SEQ of the chunk's
first logical sector plus j. -/
def Staged.payload (t : Staged) (p pos i : Nat) : List Byte :=
  let (c, j) := (List.range 16).foldl (fun (a : Nat × Nat) c =>
    if 16 ≤ a.1 then (if a.2 < t.chunks.getD c 0 then (c, a.2) else (16, a.2 - t.chunks.getD c 0)) else a) (16, i)
  let first := 256 * t.ext + 16 * c
  let n := t.chunks.getD c 0
  let of (a : Nat) : Nat × Bool × Sector := (t.data.lookup a).getD (0, false, 0)
  let ver (a : Nat) : Nat := (t.versions.lookup a).getD 0
  if t.plain.getD c true then
    let a := first + j
    let x := of a
    Header.bytes { vol := t.vol, lsa := a, seq := ver a, strand := x.1, poison := x.2.1, position := pos, parity := p } ++ sectorBytes x.2.2
  else
    let x := of first
    let data := (List.range 16).map (fun m => (of (first + m)).2.2)
    let b := chunkBytes n data first t.vol x.1
    let piece := (b.drop (4096 * j)).take 4096
    Header.bytes { vol := t.vol, lsa := first, seq := ver first + j, strand := x.1, type := if n = 17 then 2 else 1, chunkSector := j
                   chunkBytes := b.length, position := pos, parity := p } ++ piece ++ zeroBytes (4096 - piece.length)

/-- A fill sector (R323): TYPE 0, LSA 0xFFFF_FFFF_FFFF, STRAND 0 and zero user bytes. Its VOLUME_ID, 0, and its SEQ, the highest of its
session, are the model's choice (DESIGN CHOICE, assumption log 32). -/
def fillPayload (p pos seq : Nat) : List Byte :=
  Header.bytes { vol := 0, lsa := 2 ^ 48 - 1, seq := seq, strand := 0, position := pos, parity := p } ++ zeroBytes 4096

/-- Map sector `i` of those that stand in the place of an extent (R319). -/
def Staged.mapPayload (t : Staged) (p pos i : Nat) : List Byte :=
  let v := t.versions.getD i (0, 0)
  Header.bytes { vol := t.vol, lsa := v.1, seq := v.2, strand := 0, type := 5, position := pos, parity := p } ++ t.map.getD i []

/-- The payload of data sector `d` of a band. -/
def Session.dataPayload (x : Session) (b : Band) (d : Nat) : List Byte :=
  match b.kept.lookup d with
  | some l => l
  | none =>
    match x.staged.find? (fun t => t.band == b.num && decide (t.first ≤ d) && decide (d < t.first + t.chunks.sum)) with
    | some t =>
      if t.map.isEmpty then t.payload b.parity (d % 16) (d - t.first)
      else t.mapPayload b.parity (d % 16) (d - t.first)
    | none => fillPayload b.parity (d % 16) x.highSeq

/-- The payload of frame `f` of a band; none past its whole blocks, which stays unwritten (R55, R62). -/
def Session.framePayload (x : Session) (b : Band) (f : Nat) : List Byte :=
  let q := 16 + b.parity
  let data (i : Nat) : List (List Byte) := (List.range 16).map (fun j => x.dataPayload b (16 * i + j))
  if b.whole ≤ f then []
  else if f % q < 16 then x.dataPayload b (f / q * 16 + f % q)
  else (paritySectors b.parity (data (f / q))).getD (f % q - 16) []

/-- The payloads of the sectors of the band's next track, with their outer parity, and the data payloads kept for parity still to
come (R251). -/
def Session.trackPayloads (x : Session) (b : Band) : List (List Byte) × List (Nat × List Byte) :=
  let spt := sptOf (bandZone b.num)
  let f0 := b.firstFrame b.track
  let n := usableOn b.holes spt b.track
  let q := 16 + b.parity
  let l := (List.range n).map (fun i => x.framePayload b (f0 + i))
  let fresh := (List.range n).filterMap (fun i =>
    let f := f0 + i
    if f % q < 16 then some (f / q * 16 + f % q, x.dataPayload b (f / q * 16 + f % q)) else none)
  let old := b.kept.filter (fun y => decide (f0 / q ≤ y.1 / 16) && !fresh.any (fun z => z.1 == y.1))
  (l, old ++ fresh)

/-! ### Verdicts, relocation, directory and passport sectors (R255 to R259, R338) -/

/-- Spare sectors of a band (R54, R257). -/
def spareRoom (zone : Nat) : Nat := (bandTracks - spareStart) * sptOf zone

/-- The place of the n-th spare sector: track offset and sector. -/
def sparePlace (zone n : Nat) : Nat × Nat := (spareStart + n / sptOf zone, n % sptOf zone)

/-- Whether a staged extent has a data sector in the block of frame `f` of its band. -/
def Staged.inBlock (t : Staged) (b : Band) (f : Nat) : Bool :=
  let i := f / (16 + b.parity)
  t.band == b.num && decide (t.first < 16 * (i + 1)) && decide (16 * i < t.first + t.chunks.sum)

/-- The frame of its band that a sector of a data track is. -/
def Band.frameOn (b : Band) (track sector : Nat) : Nat := b.frameAt (track % bandTracks) sector

/-- The payload that a sector of a data track was written with: of the track written last, or as its session gives it. -/
def State.writtenPayload (s : State) (k : Fin 8) (b : Band) (track sector : Nat) : List Byte :=
  if s.writers[k].track = track then s.writers[k].payloads.getD sector []
  else match s.bays[bayOf k].session with
    | some x => x.framePayload b (b.frameOn track sector)
    | none => []

/-- A sector's whole block is written again in another band (R69, R258): the staged extents with sectors in it leave the session's bands, those that have
committed are to migrate, and all of them avoid the band. -/
def rewriteBlock (k : Fin 8) (track sector : Nat) : Act Unit := do
  let s ← rd
  match s.discIn (bayOf k), s.bays[bayOf k].session with
  | some d, some x =>
    let band := d.sideBand (k.val % 2)
    let f := band.frameAt (track % bandTracks) sector
    let i := f / (16 + band.parity)
    let hit := x.staged.filter (fun t => t.inBlock band f)
    let old := s.extents.filter (fun e => e.inBlock d.id band i)
    emit (.bay (bayOf k) fun y => { y with session := some { x with staged := x.staged.filter (fun t => !hit.contains t) } })
    setDisc d.id (fun d => { d with rewrite := d.rewrite ++ (hit.map Staged.ext ++ old.map Extent.ext).map (fun e => (e, band.num)) })
    migrateBlock d.id band i
    emit (.writer k fun w => { w with relocate := w.relocate.filter (fun r => band.frameOn r.1 r.2.1 / (16 + band.parity) != i) })
  | _, _ => pure ()

/-! ### The checker (R203, R255) -/

/-- What the checker makes of a frame: the levels decided, and W; no W where the bits hold a codeword that no table gives. -/
structure FrameCheck where
  levels : List Bool := []
  weight : Option Nat := none
deriving DecidableEq, Repr

/-- Viterbi detection without neighbours on the outputs of the T lane, demodulation and descrambling, and the unsatisfied checks among the rows of H (R58 to R60, R219,
R255). -/
def State.checkFrame (s : State) (k : Fin 8) (x : TFrame) : FrameCheck :=
  let gamma := s.gammaOf k.val 3
  let y := (x.outputs.take 57000).map sampleOf
  let g := scaleOf gamma headLevels (y.drop 1)
  let levels := (false :: viterbi g gamma (y.map (fun v => { y := v, var := 1 }))).take 57000
  let bits := List.zipWith (fun a b => a ^^ b) levels (false :: levels)
  { levels, weight := (frameCode x.track x.sector bits).map unsatisfied }

/-- P and N of R255: the means of lane outputs over the middle bits of the runs of 5T or longer of one level. The middle bits of a run are
all but its first two and its last two (DESIGN CHOICE, assumption log 65). None where there is no such run. -/
def middleMean (mark : Bool) (levels : List Bool) (out : List Int) : Option Int :=
  let starts := (runsOf levels).foldl (fun (a : Nat × List (Bool × Nat × Nat)) r => (a.1 + r.2, (r.1, a.1, r.2) :: a.2)) (0, [])
  let at_ := (starts.2.filter (fun r => r.1 == mark && decide (5 ≤ r.2.2))).flatMap (fun r =>
    (List.range (r.2.2 - 4)).map (fun i => r.2.1 + 2 + i))
  if at_.isEmpty then none else some (floorDiv ((at_.map (fun i => out.getD i 0)).sum) at_.length)

/-- The asymmetry (P + N) ÷ (P − N) in 1/32,768, none where P and N are equal or one of them has no run (R255). -/
def rawAsym (p n : Option Int) : Option Int :=
  match p, n with
  | some p, some n => if p = n then none else some (floorDiv (32768 * (p + n)) (p - n))
  | _, _ => none

/-- The frame of a place that the T lane has passed and the checker has not judged. One of which nothing was passed has lost its samples. -/
def State.tFrame (s : State) (k : Fin 8) (track sector : Nat) : TFrame :=
  (s.writers[k].tFrames.find? (fun x => x.track == track && x.sector == sector)).getD
    { track, sector, outputs := [], found := false, timingLimit := false, lost := true }

/-- The registers that show a verdict. -/
def showVerdict (k : Fin 8) (x : TFrame) (weight : Nat) (asym : Option Int) (pass : Bool) : Act Unit := do
  let free ← if pass ∧ asym = none then freeValue 16 else pure 0
  let a := asym.getD (toSigned 16 free)
  setF (F.WRP_RAW_LAST_WEIGHT k.val) weight
  setF (F.WRP_RAW_LAST_PASS k.val) pass.toNat
  setF (F.WRP_RAW_LAST_SYNC_MISSED k.val) (!x.found).toNat
  setF (F.WRP_RAW_LAST_TIMING_LIMIT k.val) x.timingLimit.toNat
  setF (F.WRP_RAW_LAST_SECTOR k.val) x.sector
  addWrap (if pass then F.WRP_RAW_PASS_CNT_CNT k.val else F.WRP_RAW_FAIL_CNT_CNT k.val) 1
  emit (.writer k fun w => { w with verdicts := ((!pass) :: w.verdicts).take 64
                                    asym := if pass then (a :: w.asym).take 64 else w.asym })
  let s ← rd
  let l := s.writers[k].asym
  if pass then setI (F.WRP_RAW_ASYM_ASYM k.val) (satInt 16 (floorDiv l.sum l.length))

/-- The checker judges the frame of a place (R255): whether it passes. W of a frame whose bits hold no codeword is a free value. -/
def judge (k : Fin 8) (track sector : Nat) : Act Bool := do
  let s ← rd
  let x := s.tFrame k track sector
  let c := s.checkFrame k x
  let weight ← match c.weight with
    | some w => pure w
    | none => do return min 4160 (← freeValue 13)
  let pass : Bool := x.found && !x.timingLimit && !x.lost && decide (weight ≤ s.get (F.WRP_RAW_CTL_PASS_MAX k.val))
  showVerdict k x weight (rawAsym (middleMean false c.levels x.outputs) (middleMean true c.levels x.outputs)) pass
  emit (.writer k fun w => { w with tFrames := w.tFrames.filter (fun y => !(y.track == track && y.sector == sector)) })
  return pass

/-- A burst of failures (R256). -/
def rawBurst (k : Fin 8) : Act Unit := do
  let s ← rd
  if s.get (F.WRP_RAW_CTL_BURST_LIM k.val) ≤ s.writers[k].verdicts.count true ∧ s.get (F.WRP_STAT_RAW_BURST k.val) = 0 then
    stopWriteAtBoundary k 1
    setF (F.WRP_STAT_RAW_BURST k.val) 1
    setF (F.WRP_STAT_WR_DISABLED k.val) 1
    raiseWrp wrpRAW_FAIL_BURST k
    emit (.writer k fun w => { w with calRequest := true })

/-- Whether a sector of a data track lies in a skipped run: it was abandoned (R260). -/
def State.abandoned (s : State) (k : Fin 8) (b : Band) (track sector : Nat) : Bool :=
  s.writers[k].skipped.any (fun x => x.track == track && decide (x.fromSector ≤ sector)) ||
  b.runs.any (fun r => r.1 == track % bandTracks && decide (r.2.1 ≤ sector))

/-- The verdict of a sector of a data track. An abandoned one is neither kept nor relocated (R260). -/
def dataVerdict (k : Fin 8) (track sector : Nat) (pass : Bool) : Act Unit := do
  let s ← rd
  let w := s.writers[k]
  if w.track = track ∧ (w.active ∨ w.tLane) then
    let n := min w.spt (w.begun + 1)
    emit (.writer k fun w => { w with begun := n, tLane := w.active || decide (n < w.wrote) })
  match s.discIn (bayOf k) with
  | none => pure ()
  | some d =>
    let band := d.sideBand (k.val % 2)
    if s.abandoned k band track sector then pure ()
    else if pass then emit (.writer k fun w => { w with passed := w.passed ++ [(track, sector)] })
    else
      let p := s.writtenPayload k band track sector
      emit (.writer k fun w => { w with relocate := w.relocate ++ [(track, sector, 0, p)] })
      if spareRoom (bandZone band.num) ≤ band.spares + s.writers[k].relocate.length then
        raiseWrp wrpSPARE_EXHAUSTED k
        rewriteBlock k track sector

/-- The verdict of a relocated copy: it used the next spare sector, and its relocation entry names it (R66, R257, R258). -/
def relocVerdict (k : Fin 8) (j : SectorJob) (track sector : Nat) (pass : Bool) : Act Unit := do
  let s ← rd
  match s.discIn (bayOf k), s.writers[k].relocate.find? (fun r => r.1 == track && r.2.1 == sector) with
  | some d, some r =>
    let band := d.sideBand (k.val % 2)
    let p := (j.track % bandTracks, j.sector)
    incStop (F.WRP_RELOC_CNT_CNT k.val)
    let entry : Nat × List Nat := (0x02, [track % bandTracks, sector, p.1, p.2, j.seq])
    setDisc d.id (fun d => d.setBand { band with spares := band.spares + 1, lastSeq := max band.lastSeq j.seq
                                                 pending := if pass then band.pending ++ [entry] else band.pending
                                                 relocs := if pass then ((track % bandTracks, sector), p) :: band.relocs else band.relocs })
    if pass then
      emit (.writer k fun w => { w with passed := w.passed ++ [(track, sector)]
                                        relocate := w.relocate.filter (fun x => !(x.1 == track && x.2.1 == sector)) })
    else
      emit (.writer k fun w => { w with relocate := w.relocate.map (fun x =>
        if x.1 == track && x.2.1 == sector then (x.1, x.2.1, r.2.2.1 + 1, x.2.2.2) else x) })
      if s.get (F.WRP_RAW_CTL_RELOC_MAX k.val) ≤ r.2.2.1 + 1 then
        raiseWrp wrpRELOC_EXHAUSTED k
        rewriteBlock k track sector
  | _, _ => pure ()

/-- Whether the next directory sector of a band is its last (R65, R69). -/
def Band.lastDirectory (b : Band) : Bool := decide (directoryRoom (bandZone b.num) ≤ b.dirs + 1)

/-- The entries of the next directory sector of a band, in the order of the events: what waited when the range began, the range entry of what has been written, then what has
waited since; in the last directory sector a close entry ends them (R66, R67, R69). With them, how many that waited are among them, and whether the range
entry is. -/
def Band.directoryPlan (b : Band) (vol time : Nat) : List (Nat × List Nat) × Nat × Bool :=
  let r := match b.range with
    | none => []
    | some r => [(0x01, [b.parity, vol, r.track, r.sector, r.count, r.lowLsa, r.highLsa, r.firstSeq])]
  let wait := if b.lastDirectory then b.pending.filter (fun e => e.1 != 0x04) else b.pending
  let all := wait.take b.earlier ++ r ++ wait.drop b.earlier
  let l := all.take (if b.lastDirectory then 126 else 127)
  let range := l.any (fun e => e.1 == 0x01)
  (if b.lastDirectory then l ++ [(0x04, [time, b.lastSeq])] else l, l.length - range.toNat, range)

/-- The payload of a directory sector (R64, R66): header of TYPE 3 with the sector's serial number as LSA, then preface and entries. The
header's volume and block position are the model's choice (assumption log 32). -/
def directoryPayload (vol disc seq : Nat) (b : Band) (entries : List (Nat × List Nat)) : List Byte :=
  Header.bytes { vol := vol, lsa := b.dirs, seq := seq, strand := 0, type := 3 } ++ directorySector b.num b.dirs disc entries

/-- The first copy of a band's next directory sector is formed, when it has anything to record and the band has room (R65 to R67). -/
def beginDirectory (k : Fin 8) : Act Unit := do
  let s ← rd
  match s.discIn (bayOf k) with
  | none => pure ()
  | some d =>
    let b := d.dirBand (k.val % 2)
    if s.writers[k].directory.isNone ∧ d.directoryDue (k.val % 2) then
      emit (.issue 1)
      let p := b.directoryPlan d.vol s.timeStamp
      emit (.writer k fun w => { w with directory := some (b.num, directoryPayload d.vol d.id s.nextSeq b p.1, p.2.1, p.2.2) })

/-- The directory sector has passed: its entries are recorded, and the extents whose sectors have all passed commit (R67, R326). -/
def directoryPassed (k : Fin 8) (band used : Nat) (range : Bool) : Act Unit := do
  let s ← rd
  match s.discIn (bayOf k) with
  | none => pure ()
  | some d =>
    let b := d.band band
    setDisc d.id (fun d => d.setBand { b with
      pending := b.pending.drop used, earlier := b.earlier - used, range := if range then none else b.range
      recorded := if range || b.range.isNone then b.track else b.recorded, dirPassed := true })
    emit (.writer k fun w => { w with dirDue := w.dirDue && decide (used < b.pending.length) })
    commitSide (bayOf k) (k.val % 2)

/-- Both copies of a directory sector have had their verdict. The band's last one closes it: what is staged on it and not recorded leaves the
session and is staged in another band (R69). -/
def directoryWritten (k : Fin 8) (band : Nat) : Act Unit := do
  emit (.writer k fun w => { w with directory := none })
  let s ← rd
  match s.discIn (bayOf k) with
  | none => pure ()
  | some d =>
    let b := d.band band
    let next : Band := { b with dirPassed := false, dirs := b.dirs + 1 }
    if b.lastDirectory then
      setDisc d.id (fun d => d.setBand { next with closed := true, pending := [], earlier := 0, range := none })
      emit (.writer k fun w => { w with relocate := [] })
      emit (.bay (bayOf k) fun y => { y with session := y.session.map (fun x => { x with
        staged := x.staged.filter (fun t => t.band != band) }) })
    else setDisc d.id (fun d => d.setBand next)

/-- The verdict of a copy of a directory sector (R259): it passes when at least one copy does; if both fail, the next directory
sector takes the same entries. -/
def directoryVerdict (k : Fin 8) (copy : Nat) (pass : Bool) : Act Unit := do
  let s ← rd
  match s.writers[k].directory, s.discIn (bayOf k) with
  | some x, some d =>
    emit (.writer k fun w => { w with copies := if copy = 0 then 1 else 0 })
    if pass ∧ (d.band x.1).dirPassed = false then directoryPassed k x.1 x.2.2.1 x.2.2.2
    if copy = 1 then directoryWritten k x.1
  | _, _ => pure ()

/-- Passport records left on a side. -/
def Disc.passportsLeft (d : Disc) (side : Nat) : Nat := if side = 0 then d.passportLeft.1 else d.passportLeft.2

/-- The first copy of the next passport record of a side is formed; after a record both of whose copies failed it has the same content
under the next number (R70, R71, R339). -/
def beginRecord (k : Fin 8) : Act Unit := do
  let s ← rd
  match s.discIn (bayOf k) with
  | none => pure ()
  | some d =>
    match d.passportPending.find? (fun r => r.1 == k.val % 2) with
    | none => pure ()
    | some r =>
      let again := s.writers[k].record
      let time := (again.map (fun x => x.1)).getD s.timeStamp
      let seq := (again.map (fun x => x.2.1)).getD s.nextSeq
      if again.isNone then emit (.issue 1)
      emit .useFree
      let p := passportPayload d.vol d.id (passportRoom - d.passportsLeft (k.val % 2)) r.2.1 time seq s.free r.2.2
      emit (.writer k fun w => { w with record := some (time, seq, p), recPassed := false })

/-- Both copies of a passport record have had their verdict: one number is spent, and the record waits no longer when a copy passed. A side
without a number left takes no further record (R339). -/
def recordWritten (k : Fin 8) (ok : Bool) : Act Unit := do
  let side := k.val % 2
  let s ← rd
  match s.discIn (bayOf k) with
  | none => pure ()
  | some d =>
    match d.passportPending.find? (fun r => r.1 == side) with
    | none => pure ()
    | some r =>
      let rest := if ok then d.passportPending.erase r else d.passportPending
      let full : Bool := decide (d.passportsLeft side ≤ 1) && rest.any (fun x => x.1 == side)
      if ok ∨ full = true then emit (.writer k fun w => { w with record := none })
      setDisc d.id (fun d => { d with
        passportPending := if full then rest.filter (fun x => x.1 != side) else rest
        passportLeft := if side = 0 then (d.passportLeft.1 - 1, d.passportLeft.2) else (d.passportLeft.1, d.passportLeft.2 - 1) })
      if full then raise Ev.PASSPORT_FULL

/-- The verdict of a copy of the next passport record of the side: both copies hold the same record (R70, R338). -/
def passportVerdict (k : Fin 8) (copy : Nat) (pass : Bool) : Act Unit := do
  let s ← rd
  emit (.writer k fun w => { w with copies := if copy = 0 then 1 else 0 })
  if copy = 0 then emit (.writer k fun w => { w with recPassed := pass })
  else recordWritten k (pass || s.writers[k].recPassed)

/-! ### Single sectors (R252, R257, R259, R262, R338) -/

/-- The single sector that an OPU is to write next: directory entries that a stop has left; once no track of the session is left, what is to be relocated, directory
sectors and passport records. None while a track is to be written. -/
def State.nextSector (s : State) (k : Fin 8) (d : Disc) : Option RawFrame :=
  let w := s.writers[k]
  let side := k.val % 2
  let copy : Fin 2 := Fin.ofNat 2 w.copies
  let directory : Bool := w.directory.isSome || d.directoryDue side
  if w.record.isSome ∧ w.copies = 1 then some (.passport copy)
  else if w.directory.isSome ∨ (w.dirDue ∧ directory = true) then some (.directory copy)
  else if s.bays[bayOf k].session.isSome ∧ (d.sideBand side).trackReady then none
  else
    match w.relocate with
    | r :: _ => some (.relocated r.1 r.2.1)
    | [] =>
      if directory then some (.directory copy)
      else if d.passportPending.any (fun r => r.1 == side) ∧ 0 < d.passportsLeft side ∧ s.chip.degraded.contains .identity = false then some (.passport copy)
      else none

/-- An OFFSET that calibration 9 has found takes effect at the next track (R268). -/
def takeTiming (k : Fin 8) : Act Unit := do
  match (← rd).cal.timing[k] with
  | none => pure ()
  | some v =>
    setI (F.WRP_WR_TIMING_OFFSET k.val) v
    emit (.cal fun c => { c with timing := c.timing.set k none })

/-- An OPU takes up a single sector and goes to its track. -/
def takeJob (k : Fin 8) (j : SectorJob) : Act Unit := do
  takeTiming k
  let s ← rd
  emit (.writer k fun w => { w with job := some j, strategy := some (s.layerStrategy k j.layer) })
  setF (F.WRP_STAT_STATE k.val) 3
  goTo k j.layer j.track

/-- A single sector is formed and taken up. A relocated copy takes the next spare sector, a data sector with a new header; without a spare left its block is written again
(R257, R258). A directory sector or passport record is formed for its first copy, and its second is the same (R65, R70). -/
def formSector (k : Fin 8) (d : Disc) (f : RawFrame) : Act Unit := do
  let s ← rd
  let band := d.sideBand (k.val % 2)
  let at_ (num : Nat) (p : Nat × Nat) (payload : List Byte) (seq : Nat) : SectorJob :=
    { frame := f, layer := bandLayer num, track := bandTracks * bandZone num + p.1, sector := p.2, payload, seq }
  match f with
  | .data _ _ => pure ()
  | .relocated t i =>
    if spareRoom (bandZone band.num) ≤ band.spares then
      raiseWrp wrpSPARE_EXHAUSTED k
      rewriteBlock k t i
    else
      match s.writers[k].relocate.find? (fun r => r.1 == t && r.2.1 == i) with
      | none => pure ()
      | some r =>
        emit (.issue 1)
        let data : Bool := decide (band.frameOn t i % (16 + band.parity) < 16)
        takeJob k (at_ band.num (sparePlace (bandZone band.num) band.spares) (if data then relocatedPayload r.2.2.2 s.nextSeq else r.2.2.2) s.nextSeq)
  | .directory c =>
    if c = 0 then beginDirectory k
    match (← rd).writers[k].directory with
    | none => pure ()
    | some x => takeJob k (at_ x.1 (directoryPlace (d.band x.1).dirs c.val) x.2.1 0)
  | .passport c =>
    if c = 0 then beginRecord k
    match (← rd).writers[k].record with
    | none => pure ()
    | some r => takeJob k (at_ (256 * (k.val % 2)) (passportPlace (passportRoom - d.passportsLeft (k.val % 2)) c.val) r.2.2 0)

/-- An OPU that writes nothing goes on with the single sector that is to be written next, or to the track that is. -/
def beginSector (k : Fin 8) : Act Unit := do
  recordSkips k
  let s ← rd
  let b := bayOf k
  let st := s.bayState b.val
  match s.discIn b with
  | none => pure ()
  | some d =>
    if (st = bWRITING ∨ st = bREADY) ∧ s.bays[b].session.all (fun x => !x.suspended) ∧ s.writers[k].active = false ∧ s.writerReady k then
      match s.writers[k].job, s.nextSector k d with
      | some j, _ => if j.sent = 0 then goTo k j.layer j.track
      | none, some f => formSector k d f
      | none, none => if s.bays[b].session.isSome ∧ (d.sideBand (k.val % 2)).trackReady then approach k d

/-! ### Tracks (R251, R252, R275) -/

/-- Whether an OPU can begin its band's next track: the entries that a stop has left are written first (R67, R262). -/
def State.mayBegin (s : State) (k : Fin 8) (x : Session) (d : Disc) : Bool :=
  let band := d.sideBand (k.val % 2)
  s.bayState (bayOf k).val == bWRITING && !x.suspended && !s.writers[k].active && s.writers[k].job.isNone && s.writerReady k && band.trackReady &&
  s.get (F.WRP_LVL_A_MARK k.val (bandLayer band.num)) != 0 && s.get (F.BAY_OPT_STAT_ON_TRACK k.val) == 1 &&
  s.writers[k].directory.isNone && !(s.writers[k].dirDue && d.directoryDue (k.val % 2)) &&
  s.optLayer k == bandLayer band.num && s.optTarget k == bandTracks * bandZone band.num + band.track

/-- An OPU begins its band's next track at an entry sector, with the ratios and strategy that its layer's registers then hold (R250, R251). -/
def beginTrack (k : Fin 8) (x : Session) (d : Disc) (entry : Nat) : Act Unit := do
  takeTiming k
  let s ← rd
  let band := d.sideBand (k.val % 2)
  let layer := bandLayer band.num
  let p := x.trackPayloads band
  setDisc d.id (fun d => d.setBand { band with kept := p.2 })
  emit (.writer k fun w => { w with
    track := bandTracks * bandZone band.num + band.track, layer, spt := sptOf (bandZone band.num), entry, begun := 0, reach := 0
    active := true, started := false, stopAt := none, payloads := p.1, drive := (0, 0), strategy := some (s.layerStrategy k layer) })
  setF (F.WRP_STAT_STATE k.val) 3

/-- TRACK_WRITE_START (R251, R252): with all sectors of the track staged, the OPU begins at its entry sector. Where no track can begin, the OPU goes on with the single sector
that is to be written next (DESIGN CHOICE, assumption log 33). -/
def execTrackWriteStart (k : Fin 8) (entry : Nat) (s : State) : Answer :=
  answerWhen s.channelsLive (do
    recordSkips k
    let s ← rd
    match s.discIn (bayOf k), s.bays[bayOf k].session with
    | some d, some x =>
      if s.mayBegin k x d then
        if entry < sptOf (bandZone (d.sideBand (k.val % 2)).num) then beginTrack k x d entry
      else beginSector k
    | _, _ => beginSector k) s

/-- Write power adaptation (R272, R273, R275): the MARK ratio of the layer moves by one code towards zero asymmetry, or on to the nearer code at the edge of a
usable segment, within the host's bounds and those of the laser; SPACE and COOL follow out of unusable segments. -/
def adaptMark (k : Fin 8) (l : Nat) : Act Unit := do
  let s ← rd
  let a := s.geti (F.WRP_RAW_ASYM_ASYM k.val)
  let m := s.get (F.WRP_LVL_A_MARK k.val l)
  if s.get F.CAL_CTL_ENABLE = 1 ∧ s.policy pWRPWR_PIN k.val = 0 ∧ 100 * a.natAbs > 32768 then
    let new := if 0 < a then m + 1 else m - 1
    let b := s.markBounds k l
    match s.usableRatio k new 1 4095 with
    | none => moveRatios k l (8 * k.val + l)
    | some r =>
      if b.1 ≤ r ∧ r ≤ b.2 ∧ s.meanAllowed k l then
        unclampAdapt F.CAL_ADAPT_STAT_WRPWR_CLAMP k.val
        setF (F.WRP_LVL_A_MARK k.val l) r
        moveRatios k l (8 * k.val + l)
      else clampAdapt F.CAL_ADAPT_STAT_WRPWR_CLAMP k.val (8 * k.val + l)

/-- U of R248 at its mean over the track that has been written (R272). -/
def noteDrive (k : Fin 8) : Act Unit := do
  let w := (← rd).writers[k]
  if w.drive.2 ≠ 0 then emit (.cal fun c => { c with uMean := c.uMean.set k (w.drive.1 / w.drive.2) })

/-- TRACK_WRITE_END (R252): the STARTs of the track have covered every sector of it; the JUMP of +1 begins where the sequencer is enabled and free (R140). -/
def execTrackWriteEnd (k : Fin 8) (s : State) : Answer :=
  answerWhen s.channelsLive (do
    let w := s.writers[k]
    if w.active ∧ 57000 * w.spt ≤ w.reach then
      let b := bayOf k
      endWrite k w.spt 0
      noteTrack k w.spt
      let s ← rd
      emit (.life fun l => { l with writeMicros := l.writeMicros.set k (l.writeMicros[k] + s.revolution b) })
      setF (F.WRP_STAT_STATE k.val) 4
      match s.discIn b with
      | none => pure ()
      | some d =>
        let band := d.sideBand (k.val % 2)
        setDisc d.id (fun d => d.setBand { band with track := band.track + 1 })
        noteDrive k
        adaptMark k (bandLayer band.num)
        if (({ band with track := band.track + 1 } : Band).trackReady) = false then abortWriteCal k
      if s.optics[k].phase = .idle ∧ s.get (F.BAY_OPT_CTL_ENABLE k.val) = 1 then
        setF (F.BAY_OPT_TARGET_TRACK k.val) (w.track + 1)
        beginJump k 1 4
      settleBay (bayOf k)) s

/-! ### Stops (R260 to R262) -/

/-- WRITE_STOP_AT_BOUNDARY (R27, R260, R261): a stop takes effect after `written` whole sectors from the entry sector, no more than STARTs have been sent for; with none
pending, the feed of the OPU has run dry, and it suspends. Symbols sent past the boundary are discarded by ABORT. A suspension is counted and raised. -/
def execWriteStopAtBoundary (k : Fin 8) (written : Nat) (s : State) : Answer :=
  answerWhen s.channelsLive (do
    let w := s.writers[k]
    let reason := w.stopAt.getD 1
    if w.active ∧ written ≤ w.spt ∧ 57000 * written ≤ w.reach then
      if w.stopAt.isNone then
        emit (.bay (bayOf k) fun y => { y with session := y.session.map (fun x => { x with suspended := true }) })
        raise Ev.RT_FIFO_FAULT
      if w.started ∧ 57000 * written < w.reach then sendFrame k .abort
      endWrite k written reason
      if s.mode = mDRAIN then recordSkips k
      if reason = 1 ∧ s.get (F.WRP_STAT_RAW_BURST k.val) = 0 then
        incStop (F.WRP_SUSPEND_CNT_CNT k.val)
        raiseWrp wrpWRITE_SUSPENDED k
      settleBay (bayOf k)) s

/-- WRITE_SESSION_RESUME (R262): no instruction of a higher class needs the bay; paused seeks are issued again, pending directory entries are written next, and the session
goes on. -/
def execWriteSessionResume (b : Fin 4) (s : State) : Answer :=
  answerWhen s.drivesTake (do
    match s.bays[b].session with
    | some x =>
      let st := s.bayState b.val
      let paused := s.bays[b].paused
      if x.suspended ∧ (st = bREADY ∨ st = bREADING) ∧ s.get F.CAL_THERM_LEVEL < 3 then
        emit (.bay b fun y => { y with session := some { x with suspended := false }, paused := [] })
        setBay b bWRITING
        forAll (opusOf b) (fun k => do
          match paused.find? (fun p => p.1 == k.val) with
          | some p =>
            setF (F.BAY_OPT_TARGET_TRACK k.val) p.2.1
            requestSeek k p.2.1
          | none => beginSector k)
    | none => pure ()) s

/-! ### RAW_VERDICT (R255 to R259, R326) -/

/-- What follows a verdict: a burst, commits, the end of the session, the next sector. -/
def afterVerdict (k : Fin 8) : Act Unit := do
  rawBurst k
  commitSide (bayOf k) (k.val % 2)
  endSession (bayOf k)
  beginSector k
  settle

/-- RAW_VERDICT (R255 to R259, R326): of a frame of a data track, or of the single sector that the OPU has written; of another that is no such frame there is none. -/
def execRawVerdict (k : Fin 8) (f : RawFrame) (s : State) : Answer :=
  answerWhen (s.channelsLive || s.writers[k].tLane) (do
    match f with
    | .data t n =>
      let pass ← judge k t n
      dataVerdict k t n pass
      afterVerdict k
    | f =>
      match s.writers[k].job with
      | none => pure ()
      | some j =>
        if j.frame = f ∧ 57000 ≤ j.sent then
          let pass ← judge k j.track j.sector
          emit (.writer k fun w => { w with job := none, tLane := w.active })
          setF (F.WRP_STAT_STATE k.val) 2
          match f with
          | .data _ _ => pure ()
          | .relocated t n => relocVerdict k j t n pass
          | .directory c => directoryVerdict k c.val pass
          | .passport c => passportVerdict k c.val pass
          afterVerdict k) s

/-- RAW_BURST_CLEAR (R256): writing 1 to RAW_BURST; the gate may open again unless training has failed. -/
def execRawBurstClear (m : Master) (k : Fin 8) (s : State) : Answer :=
  answer (do
    if s.mayWrite m then
      setF (F.WRP_STAT_RAW_BURST k.val) 0
      setF (F.WRP_STAT_WR_DISABLED k.val) (s.get (F.WRP_WSL_STAT_RESULT k.val) == 3).toNat) s

/-! ### Sessions (R322, R325) -/

/-- The age of the oldest landing sector of a volume that awaits destage, in µs; in a FROZEN zone those in DRAM count too (R308). -/
def State.oldestWait (s : State) (vol : Nat) : Nat :=
  let times := (s.cache.filter (fun c => c.vol == vol && !c.stale && s.zone == zFROZEN)).map CacheSector.at_ ++
    s.nv.sys.pages.flatMap (fun p => (p.slots.filter (fun x => x.vol == vol && s.current x)).map Stored.at_)
  match times with
  | [] => 0
  | t :: l => s.now - l.foldl min t

/-- Whether a write session of a volume is called for (R322). -/
def State.sessionDue (s : State) (vol : Nat) : Bool :=
  let l := (s.awaiting vol).filter (fun a => s.zone == zFROZEN || (s.landed vol a).isSome)
  !l.isEmpty && (decide (s.policy pDESTAGE_MIN * 2 ^ 20 ≤ 4096 * l.length) ||
    decide (s.policy pDESTAGE_AGE * 1000000 < s.oldestWait vol) || s.zone != zNORMAL || s.sessionClass vol == 1)

/-- DESTAGE_SESSION_START (R322): the part starts a write session on a mounted disc of a volume, or requests a disc. -/
def execDestageSessionStart (vol : Nat) (s : State) : Answer :=
  answerWhen s.drivesTake (do
    if s.sessionDue vol then
      startSession vol
      settle
      forAll opuList (fun k => do
        let s ← rd
        if s.bays[bayOf k].session.any (fun x => x.vol == vol) then beginSector k)) s

end Sys2Proof.Machine
end

