-- ==== Sys2Proof/Machine/Landing.lean ====
section
/-! DEFINITION. The landing zone's own events: the ends of page programs, erases and reads, collection, the gate on completions,
LUN failures and rebuilds (R281 to R312, R485 to R488); scrubs (R333 to R339). -/

namespace Sys2Proof.Machine

/-! ### Page programs (R286 to R291, R303) -/

/-- One page program is measured for the program rate of R34: the bytes of each whole second in which programming took at least half
of the time, taken back to the unthrottled rate by the fraction of R278 that was in force as the second began. -/
def measureProgram (took : Nat) : Act Unit := do
  let s ← rd
  let (start, bytes, busy, last) := s.flash.measure
  if s.now < start + 1000000 then
    emit (.flash fun f => { f with measure := (start, bytes + 16384, busy + min took (s.now - last), s.now) })
  else
    if 500000 ≤ busy then
      emit (.flash fun f => { f with programRate := some (bytes * 4 / f.measureRate) })
    emit (.flash fun f => { f with measure := (s.now, 16384, min took 1000000, s.now)
                                   measureRate := rateQuarters (s.get F.CAL_THERM_LEVEL) })

/-- IDLE_GC_RUN ends with a program from the write cache, or once F has reached HIGH (R298). -/
def settleIdle (host : Bool) : Act Unit := do
  let s ← rd
  if host ∨ s.get F.FLZ_GC_THR_HIGH ≤ s.freeBlocks then setF F.FLZ_STAT_IDLE_GC_RUN 0

/-- Collection goes on while the zone is in foreground, or idle collection runs (R298). -/
def collectMore : Act Unit := do
  let s ← rd
  if s.zone = zFOREGROUND ∨ s.zone = zFULL ∨ s.get F.FLZ_STAT_IDLE_GC_RUN = 1 then collect

/-- Whether a page program may end (R39, R43): the landing zone is enabled; a DRAIN from BRINGUP finishes the program in progress and starts no
other; in SAFE only DRAIN programs. -/
def State.mayProgram (s : State) : Bool :=
  s.get F.FLZ_CTL_ENABLE == 1 && (s.mode != mSAFE || s.chip.drainInSafe) &&
  !(s.chip.drain.active && s.chip.drain.fromBringup && s.chip.drain.lastProgram)

/-- FLASH_PROGRAM_DONE (R303): the next page program of R298 ends, well or not, after `took` µs. -/
def execFlashProgramDone (ok : Bool) (took : Nat) (s : State) : Answer :=
  answerWhen s.awake (do
    if s.mayProgram then
      if s.chip.drain.active ∧ s.chip.drain.fromBringup then
        emit (.chip fun c => { c with drain := { c.drain with lastProgram := true } })
      prepareJob
      let s ← rd
      match s.nextJob with
      | none => pure ()
      | some j =>
        let host : Bool := match j with
          | .data _ _ | .chunk _ _ _ _ _ => true
          | _ => false
        measureProgram took
        if ok then programOk j else programFailed j
        settle
        settleBlocks
        settleIdle host
        collectMore
        showRebuild) s

/-! ### Erases (R288, R301, R303) -/

/-- FLASH_ERASE_DONE (R288, R301, R303): the erase of landing block `n` ends; the erase blocks at the positions that failed are
retired. The block is FREE, and its capacity counts as freed. -/
def execFlashEraseDone (n : Nat) (failed : List (Fin 16)) (s : State) : Answer :=
  answerWhen s.awake (do
    match s.block n with
    | none => pure ()
    | some b =>
      if b.state = .erasing ∧ s.zone ≠ zFROZEN then
        forAll b.members countErase
        emit (.nv fun v => { v with sys := { v.sys with pages := v.sys.pages.filter (fun p => p.lblock != n) } })
        forAll failed (fun p => retireBlock n p.val)
        let s ← rd
        match s.block n with
        | none => pure ()
        | some b =>
          if b.members.any (fun m => s.lunFailed m.1 || s.nv.sys.retired.contains m) then dissolve b
          else if 0 < s.flash.spareRise then
            emit (.flash fun f => { f with
              blocks := f.blocks.filter (fun b => b.num != n), spares := f.spares ++ b.members, spareRise := f.spareRise - 16 })
        setBlock n (fun b => { b with state := .free, vol := 0, strand := 0, base := 0, run := 0, logOf := none, row := 0, filled := 0
                                      closing := false })
        emit (.flash fun f => { f with freed := (s.now, (s.blockBytes : Int)) :: f.freed.filter (fun x => decide (s.now < x.1 + 100000)) })
        settleZone
        settle
        settleIdle false
        collectMore
        showRebuild) s

/-! ### Page reads (R488, R306) -/

/-- The strength of a block's pages. -/
def State.strength (s : State) (n : Nat) : Nat := (s.block n).elim (s.get F.FLZ_ECC_CTL_T) LBlock.t

/-- Whether the 15 other pages of a row are on LUNs that serve (R304, R306). -/
def State.rowWhole (s : State) (n pos : Nat) : Bool :=
  (s.block n).all (fun b => (List.range 16).all (fun i => i == pos || !s.lunFailed ((b.members.getD i (0, 0)).1)))

/-- The page is refreshed: it is copied, and counted (R488). -/
def refreshPage (src : Nat × Nat × Nat) : Act Unit := do
  let s ← rd
  incStop F.FLZ_ECC_REFRESH_CNT_CNT
  raiseFlz Ev.FLZ_PAGE_REFRESH (((s.block src.1).map (fun b => (b.members.getD src.2.2 (0, 0)).1)).getD 0)
  emit (.flash fun f => { f with copies := if f.copies.any (fun c => c.src == src) then f.copies else f.copies ++ [{ src := src }] })

/-- FLASH_READ_DONE (R488): a page read is decoded; `corrected` is its count of corrected bits, none for a page that does not decode
or whose header CRC does not match; `rebuilt` says whether its row rebuilds it. -/
def execFlashReadDone (lblock row pos : Nat) (corrected : Option Nat) (rebuilt : Bool) (s : State) : Answer :=
  answerWhen s.awake (do
    match s.nv.sys.pages.find? (fun p => (p.lblock, p.row, p.pos) == (lblock, row, pos)) with
    | none => pure ()
    | some p =>
      let t := s.strength lblock
      let limit := if s.get F.FLZ_ECC_CTL_REFRESH = 0 then t / 2 else s.get F.FLZ_ECC_CTL_REFRESH
      let bad : Bool := match corrected with
        | none => true
        | some c => decide (t < c)
      if bad then
        let lun := ((s.block lblock).map (fun b => (b.members.getD pos (0, 0)).1)).getD 0
        incStop F.FLZ_ECC_UE_CNT_CNT
        raiseFlz Ev.FLZ_PAGE_UNCORRECTABLE lun
        if rebuilt ∧ s.rowWhole lblock pos then
          incStop F.FLZ_RECON_CNT_CNT
          if s.pageValid p then refreshPage (lblock, row, pos)
        else loseRow lblock row
      else
        let c := corrected.getD 0
        if 0 < c then
          addWrap F.FLZ_ECC_CORR_CNT_CNT c
          setF F.FLZ_ECC_MAX_MAX (max c (s.get F.FLZ_ECC_MAX_MAX))
        if limit < c ∧ s.pageValid p then refreshPage (lblock, row, pos)
      settle) s

/-! ### Idle collection and wear levelling (R298, R301) -/

/-- The CLOSED block with the lowest erase counts, when the counts in service differ by more than WL_DELTA (R301). -/
def State.levelVictim (s : State) : Option LBlock :=
  let counts := (s.flash.blocks.flatMap LBlock.members).map s.eraseCount
  let hi := counts.foldl max 0
  let lo := counts.foldl min hi
  if lo + s.get F.FLZ_WL_CTL_WL_DELTA < hi then
    match s.flash.blocks.filter (fun b => b.state == .closed) with
    | [] => none
    | b :: l => some (l.foldl (fun x y => if s.blockWear y < s.blockWear x then y else x) b)
  else none

/-- It is copied into the most-worn FREE block. -/
def levelWear (v : LBlock) : Act Unit := do
  let s ← rd
  match s.flash.blocks.filter (fun b => b.state == .free) with
  | [] => pure ()
  | b :: l =>
    let d := l.foldl (fun x y => if s.blockWear x < s.blockWear y then y else x) b
    setBlock d.num (fun b => { b with state := if v.logOf.isSome then .openLog else .openData, vol := v.vol, strand := v.strand, base := v.base, run := v.run, row := 0, filled := 0
                                      closing := false, logOf := v.logOf, t := s.get F.FLZ_ECC_CTL_T, lastWrite := s.now })
    setBlock v.num (fun b => { b with state := .reclaim, run := 0, logOf := none })
    emit (.flash fun f => { f with blocks := f.blocks.map (fun b => if b.logOf = some v.num then { b with logOf := some d.num } else b) })
    copyBlock v.num (some d.num)
    settleBlocks

/-- IDLE_COLLECTION_START (R298, R486): no host program has arrived for IDLE_MS; collection runs while F is below HIGH, and otherwise
rewrites blocks of the previous strength. -/
def execIdleCollectionStart (s : State) : Answer :=
  answerWhen s.awake (do
    if s.get F.FLZ_CTL_ENABLE = 1 ∧ s.zone ≠ zFROZEN then
      let level := if s.flash.copies.isEmpty then s.levelVictim else none
      if s.idleGc then setF F.FLZ_STAT_IDLE_GC_RUN 1
      if level.isSome then forAll level.toList levelWear
      else if s.idleGc then collect
      else if s.flash.copies.isEmpty then
        match s.oldBlocks.find? (fun b => b.state == .closed) with
        | some b =>
          setBlock b.num (fun b => { b with state := .reclaim })
          copyBlock b.num none
          settleBlocks
        | none => pure ()) s

/-! ### The gate (R299, R300) -/

/-- A WRITE's completion is posted to its ring; its data counts as acknowledged from then on (R34). -/
def postWrite (i : Inst) : Act Unit := do
  takeBucket i
  emit (.cache fun l => l.map (fun c => if c.inst == i.id then { c with acked := true } else c))
  completeAs i i.code i.dw0 (i.covers.head?)

/-- GATED_COMPLETION_POST (R35, R299, R300): a WRITE that waits at the gate is let through; in DRAIN, once its data is programmed. -/
def execGatedCompletionPost (id : Nat) (s : State) : Answer :=
  answerWhen s.awake (do
    match s.inst id with
    | none => pure ()
    | some i =>
      if i.stage = .gated ∧ (s.gateOpen i ∨ (s.mode = mDRAIN ∧ s.heldBy i.id = 0)) then
        postWrite i
        settle) s

/-! ### LUN failure (R304 to R306) -/

/-- Blocks with two failed LUNs lose their rows (R306). -/
def loseDouble : Act Unit := do
  let s ← rd
  forAll (s.flash.blocks.filter (fun b => decide (2 ≤ (b.members.filter (fun m => s.lunFailed m.1)).length))) (fun b => do
    let s ← rd
    forAll ((s.pagesOf b.num).map Page.row).eraseDups (fun r => loseRow b.num r))

/-- LUN_STATUS_TIMEOUT (R304, R306): a LUN has not answered a status request within 10 ms; with `channel`, its whole channel has
failed. -/
def execLunStatusTimeout (lun : Fin 256) (channel : Bool) (s : State) : Answer :=
  answerWhen s.awake (do
    if channel then
      let c := lun.val / 32
      setF F.FLZ_CH_STAT_FAILED (setBit (s.get F.FLZ_CH_STAT_FAILED) c true)
      degrade (.channel c)
      forAll ((s.flash.luns.map LunId.lun).filter (fun n => n / 32 == c)) (fun n => failLun n c)
    else if s.flash.luns.any (fun l => l.lun == lun.val) then failLun lun.val lun.val
    loseDouble
    settle
    showRebuild) s

/-- LUN_REBUILD_DONE (R305): every landing block that includes the failed LUN has been rebuilt. -/
def execLunRebuildDone (lun : Fin 256) (s : State) : Answer :=
  answerWhen s.awake (do
    if s.flash.rebuilding.contains lun.val ∧
        !(s.flash.blocks.any (fun b => b.members.any (fun m => m.1 == lun.val) && !(s.validPages b.num).isEmpty)) then
      emit (.flash fun f => { f with rebuilding := f.rebuilding.filter (· != lun.val) })
      raiseFlz Ev.FLZ_REBUILD_DONE lun.val
      let s ← rd
      match s.flash.rebuilding.head? with
      | some n => setF F.FLZ_REBUILD_LUN n
      | none =>
        emit (.flash fun f => { f with rebuildTotal := 0 })
        setF F.FLZ_STAT_REBUILDING 0
        setF F.FLZ_REBUILD_ACTIVE 0) s

/-! ### Destage by age (R322, R324) -/

/-- DESTAGE_AGE_EXPIRY (R322): a volume's oldest landing data passes DESTAGE_AGE. Extents that wait longer than that for a merge
request their disc (R324). -/
def execDestageAgeExpiry (vol : Nat) (s : State) : Answer :=
  answerWhen s.awake (do
    let age := s.policy pDESTAGE_AGE * 1000000
    if age < s.oldestWait vol then startSession vol
    let s ← rd
    forAll (s.extents.filter (fun e => e.vol == vol && e.mergeWait && decide (age < s.now - e.mergeAt))) (fun e =>
      match e.disc with
      | some d => requestDisc d.1 vol reasonMERGE
      | none => pure ())
    settle) s

/-! ### Scrubs (R333 to R339) -/

/-- Seconds of a day. -/
abbrev daySeconds : Nat := 86400

/-- When the scrub of a disc falls due, in UTC seconds; none while its date has no UTC value (R333, R337). -/
def State.scrubAt (s : State) (d : Disc) : Option Nat :=
  let t := if d.lastScrub = 0 then d.initTime else d.lastScrub
  if s.nv.calValid ∧ t < 2 ^ 63 then some (t + daySeconds * s.policy pSCRUB_INTERVAL) else none

/-- SCRUB_DUE (R333): a disc's scrub falls due, or comes within SCRUB_NOTICE days while the disc is not mounted. -/
def execScrubDue (disc : Nat) (s : State) : Answer :=
  answerWhen s.awake (do
    match s.disc disc, s.utc with
    | some d, some t =>
      match s.scrubAt d with
      | none => pure ()
      | some due =>
        if due ≤ t then setDisc disc (fun d => { d with
          scrubDueNow := true, scrubPairs := if d.scrubPairs = 256 then 0 else d.scrubPairs })
        if d.bay.isSome then
          if due ≤ t then setDisc disc (fun d => { d with scrubRunning := true })
        else if due ≤ t + daySeconds * s.policy pSCRUB_NOTICE then requestDisc disc d.vol reasonSCRUB
    | _, _ => pure ()) s

/-- Whether the least-squares line through up to three (time, margin) points falls below a limit at a time (R336). -/
def predictsBelow (points : List (Int × Int)) (at_ limit : Int) : Bool :=
  let n : Int := points.length
  let st := (points.map Prod.fst).sum
  let sm := (points.map Prod.snd).sum
  let sxx := (points.map (fun p => (n * p.1 - st) * (n * p.1 - st))).sum
  let sxy := (points.map (fun p => (n * p.1 - st) * (n * p.2 - sm))).sum
  if sxx = 0 then decide (sm < n * limit) else decide (sm * sxx + sxy * (n * at_ - st) < n * limit * sxx)

/-- Whether any band's predicted or measured margin is below MIGRATE_MARGIN. -/
def State.needsMigration (s : State) (d : Disc) : Bool :=
  match d.margins with
  | [] => false
  | (t, l) :: _ =>
    let limit : Int := s.policy pMIGRATE_MARGIN
    let next : Int := (t : Int) + daySeconds * s.policy pSCRUB_INTERVAL
    l.any (fun b =>
      let points := d.margins.filterMap (fun m => (m.2.lookup b.1).map (fun v => ((m.1 : Int), v)))
      decide (b.2 < limit) || (s.nv.calValid && predictsBelow points next limit))

/-- The band margin in 0.01 dB: the first percentile of the SNRs, less 9.20 dB (R335); none when nothing decoded. -/
def ScrubBand.margin (x : ScrubBand) : Option Int :=
  let l := x.snrs.mergeSort (fun a b => decide (a ≤ b))
  (l[ceilDiv l.length 100 - 1]?).map (fun v => floorDiv (100 * v) 4096 - 920)

/-- The verify record of a band pair on one side (R71, R338). -/
def verifyBody (x : ScrubBand) : List Byte :=
  leBytes 2 x.band ++ leBytes 2 x.band ++ leBytes 4 x.read ++ leBytes 4 x.retries ++ leBytes 4 x.rebuilt ++ leBytes 4 x.poisoned ++
  leBytes 2 (match x.margin with
    | some m => ofSigned 16 m
    | none => 0x8000)

/-- The margin record of a side. -/
def marginBody (side : Nat) (l : List ScrubBand) : List Byte :=
  (List.range 256).flatMap (fun n => leBytes 2 (match (l.find? (fun x => x.band == 256 * side + n)).bind ScrubBand.margin with
    | some m => ofSigned 16 m
    | none => 0x8000))

/-- Sectors read from a disc are moved into the landing zone, and leave the decoded-sector buffers (R331, R332). -/
def moveIn (vol inst : Nat) (l : List Nat) : Act Unit := do
  let s ← rd
  let reads := s.discSectors vol destageClass l
  noteChunks reads
  dropCopies vol destageClass l
  forAll reads (fun d => do
    let e := s.extent vol (extentOf d.lsa)
    match e.onDisc.lookup d.lsa with
    | none => pure ()
    | some v =>
      if s.written vol d.lsa ∧ (s.cached vol d.lsa).isNone ∧ (s.landed vol d.lsa).isNone then
        let c : CacheSector := { vol := vol, lsa := d.lsa, seq := v, strand := d.strand, data := d.data, at_ := s.now, poison := d.bad
                                 digested := true, cls := 3, inst := inst, moved := some e.gen }
        emit (.cache fun l => l ++ [c]))

/-- The live sectors of a disc's extents that are marked MIGRATE (R332). -/
def State.migrating (s : State) (d : Disc) : List Nat :=
  (s.extents.filter (fun e => e.vol == d.vol && e.migrate && (e.disc.map (fun x => x.1)) == some d.id)).flatMap (fun e =>
    (e.onDisc.map Prod.fst).filter (s.written d.vol))

/-- SCRUB_COMPLETE (R334 to R339): a scrub of a disc ends: what it found of each band is recorded, its margins join the trend, and the sectors of
weak blocks that it has read move into the landing zone. -/
def execScrubComplete (disc : Nat) (s : State) : Answer :=
  answerWhen s.awake (do
    match s.disc disc with
    | none => pure ()
    | some d =>
      if d.scrubRunning ∧ d.bay.isSome then
        let found := d.scrub
        let margins := found.filterMap (fun x => x.margin.map (fun m => (x.band, m)))
        setDisc disc (fun d => { d with scrubRunning := false, scrubDueNow := false, scrubPairs := 256, scrub := [], lastScrub := s.timeStamp
                                        margins := ((s.timeStamp, margins) :: d.margins).take 3 })
        forAll found (fun x => addRecord disc (x.band / 256) 4 (verifyBody x))
        forAll [0, 1] (fun side => addRecord disc side 5 (marginBody side found))
        moveIn d.vol 0 (s.migrating d)
        let s ← rd
        if (s.disc disc).any s.needsMigration then
          setDisc disc (fun d => { d with migrationRequested := true })
          raise Ev.MIGRATION_NEEDED
        else
          setDisc disc (fun d => { d with migrationRequested := false })
          lapseRequests (fun r => r.disc == disc && r.reason == reasonMIGRATE)
        lapseRequests (fun r => r.disc == disc && r.reason == reasonSCRUB)) s

end Sys2Proof.Machine
end

