-- ==== Sys2Proof/Machine/Rings.lean ====
section
/-! DEFINITION. Rings: doorbells, fetch, dispatch and completions (R343 to R353, R358 to R369, R450); MSI-X vectors of completion
rings (R430); what stops a function (R365, R426, R429). -/

namespace Sys2Proof.Machine

/-! ### A function's events and resets (R365, R426, R429, R438) -/

abbrev hLINK_UP : Nat := 0
abbrev hLINK_DEGRADED : Nat := 1
abbrev hLINK_DOWN : Nat := 2
abbrev hFN_FATAL : Nat := 3
abbrev hDOORBELL_IGNORED : Nat := 4
abbrev hCFG_REJECT : Nat := 5
abbrev hL2_FORCED : Nat := 6

/-- Raises a host link event of a function; INSTANCE 0 Admin, 1 Data (R535). -/
def raiseHost (f : Fin 4) (i : Nat) (detail : Nat := 0) : Act Unit :=
  raise (Ev.port (f.val / 2) i) 0 (f.val % 2) detail

/-- A function stops as for ENABLE = 0: its instructions are disowned, its rings go, READY clears (R365, R426). -/
def stopFunction (f : Fin 4) : Act Unit := do
  disownAll f
  emit (.fn f fun h => { h with sqs := [], cqs := [] })
  setF (F.HST_FN_CTL_ENABLE f.val) 0
  setF (F.HST_FN_STAT_READY f.val) 0

/-- The fields of a function's BAR0 registers that can change, but for its link state (R438). -/
def hstFnFields (f : Nat) : List Fld :=
  [F.HST_FN_STAT_CFG_REJECT f, F.HST_FN_STAT_FATAL f, F.HST_SQ0_BASE_LO_BASE f, F.HST_SQ0_BASE_HI_BASE f, F.HST_CQ0_BASE_LO_BASE f,
   F.HST_CQ0_BASE_HI_BASE f, F.HST_RING0_SIZE_SQ_K f, F.HST_RING0_SIZE_CQ_K f]

/-- A Function Level Reset (R365): the function stops, its BAR0 registers return to reset, with its MSI-X table and pending bits, and
an Admin function's cursor goes to the oldest record (R542). The link state is not the function's. -/
def flrFunction (f : Fin 4) : Act Unit := do
  stopFunction f
  forAll (hstFnFields f.val) (fun x => setF x x.rst)
  emit (.fn f fun h => { h with d3 := false, masked := List.range 65, pending := [], fnMask := false, pendLevel := 0, table := [] })
  if isAdmin f then
    let s ← rd
    emit (.consume (portOf f) (match s.evq.recs with
      | [] => s.evq.serial + 1
      | r :: _ => r.serial))
  attend none
  settle

/-- A DMA fault while an instruction is fetched or a completion posted (R429): the function stops, FATAL is set, HST_FN_FATAL is
raised, and vector 0 is signalled if it is unmasked. -/
def fatalFunction (f : Fin 4) : Act Unit := do
  stopFunction f
  setF (F.HST_FN_STAT_FATAL f.val) 1
  let n := (← rd).out.length
  raiseHost f hFN_FATAL
  let s ← rd
  let h := s.fns[f]
  let sent : Bool := (s.out.drop n).contains (.msix f.val 0)
  if sent = false ∧ h.fnMask = false ∧ h.masked.contains 0 = false then sendVector f 0 (s.attention f)
  settle

/-! ### Doorbells (R344) -/

/-- HST_DOORBELL_IGNORED. -/
def ignoreDoorbell (f : Fin 4) : Act Unit := raiseHost f hDOORBELL_IGNORED

/-- A write of the low word of a doorbell: the tail of SQ_n. -/
def ringTail (f : Fin 4) (ring tail : Nat) : Act Unit := do
  leaveL1 f
  let s ← rd
  match s.fns[f].sq ring with
  | none => ignoreDoorbell f
  | some r =>
    let n := 2 ^ r.k
    let ahead (x : Nat) : Nat := (x + n - r.head) % n
    if s.get (F.HST_FN_STAT_READY f.val) = 1 ∧ tail < n ∧ ahead r.tail ≤ ahead tail then
      setSq f ring (fun r => { r with tail := tail })
    else ignoreDoorbell f

/-- A write of the high word of a doorbell: the head of CQ_n. Completions left unconsumed signal its vector (R430). -/
def ringHead (f : Fin 4) (ring head : Nat) : Act Unit := do
  leaveL1 f
  let s ← rd
  match s.fns[f].cqOf ring with
  | none => ignoreDoorbell f
  | some r =>
    let n := 2 ^ r.k
    if s.get (F.HST_FN_STAT_READY f.val) = 1 ∧ head < n ∧ (head + n - r.head) % n ≤ (r.tail + n - r.head) % n then
      setCq f ring (fun r => { r with head := head })
      if head ≠ r.tail ∧ r.poll = false then sendVector f (ring + 1) 0
    else ignoreDoorbell f

/-- SQ_DOORBELL (R344). -/
def execSqDoorbell (f : Fin 4) (ring : Fin 64) (tail : Word) (s : State) : Answer := answer (ringTail f ring.val tail.toNat) s

/-- CQ_HEAD_DOORBELL (R344, R430). -/
def execCqHeadDoorbell (f : Fin 4) (ring : Fin 64) (head : Word) (s : State) : Answer := answer (ringHead f ring.val head.toNat) s

/-! ### Fetch (R345, R440) -/

/-- Whether HST fetches from a ring: in a mode that serves instructions, of a function in D0, not while a reset or deletion of the
ring or an ACTIVATE is under way (R35, R364, R366, R433). -/
def State.fetches (s : State) (f : Fin 4) (ring : Nat) : Bool :=
  [mBRINGUP, mIDLE, mACTIVE, mPARK, mSERVICE, mSAFE].contains s.mode && s.get F.SEQ_STAT_RUN == 1 &&
  s.get (F.HST_FN_STAT_READY f.val) == 1 && !s.fns[f].d3 && !s.chip.retaining &&
  !s.insts.any (fun j => j.stage == .committed && (j.opcode == opACTIVATE ||
    (j.fn == f && j.opcode == opRESET && bitsOf j.operand 0 3 == 0 && bitsOf j.operand 8 8 == ring) ||
    (j.fn == f && j.opcode == opDELETER && bitAt j.operand 6 == false && bitsOf j.operand 0 6 == ring)))

/-- The sequencer with the fewest instructions queued, of those that have not failed; none when every queue is full (R440). -/
def State.sequencerFor (s : State) : Option Nat :=
  let queued (n : Nat) : Nat := (s.insts.filter (fun i => i.stage == .queued && i.sequencer == n)).length
  match (List.range 16).filter (fun n => !bitAt (s.get F.SEQ_FAILED_MASK) n && decide (queued n < 256)) with
  | [] => none
  | a :: l => some (l.foldl (fun x y => if queued y < queued x then y else x) a)

/-- The data that a FLUSH covers, at its fetch: the WRITEs whose completions have been posted, of its strand when it names one (R363,
R387). -/
def State.covered (s : State) (i : Inst) : List (Nat × Nat × Nat) :=
  if i.opcode = opFLUSH then s.fns[i.fn].posted.filter (fun c => i.strand == 0 || c.1 == i.strand) else []

/-- One instruction is fetched: it joins its chain, takes a sequencer's queue place, and the head of its ring advances. -/
def fetchInst (f : Fin 4) (r : SubRing) (desc : BitVec 512) (sequencer : Nat) : Act Unit := do
  let s ← rd
  let id := s.nextId
  emit .fetched
  let base : Inst := { id := id, fn := f, sq := r.num, cq := r.cq, desc := desc, seq := 0, sequencer := sequencer, cls := 0
                       fetchedAt := s.now }
  let chain : Option Nat := if r.chain.isSome then r.chain else if base.chainBit then some id else none
  let i := { base with cls := base.class_, chain := chain, covers := s.covered base }
  setSq f r.num (fun r => { r with
    head := (r.head + 1) % 2 ^ r.k
    chain := if base.chainBit then chain else none
    chains := if base.chainBit && r.chain.isNone then r.chains ++ [{ first := id }] else r.chains })
  emit (.insts fun l => l ++ [i])
  if chain.isNone then beginClose i
  showCompacting

/-- INSTRUCTION_FETCH (R345): the entry at the head of a ring holds `desc`; `ok` says whether the host access succeeds (R429). -/
def execInstructionFetch (f : Fin 4) (ring : Fin 64) (desc : BitVec 512) (ok : Bool) (s : State) : Answer :=
  answer (do
    match s.fns[f].sq ring.val with
    | none => pure ()
    | some r =>
      if s.fetches f ring.val ∧ r.head ≠ r.tail then
        match s.sequencerFor with
        | none => pure ()
        | some q =>
          leaveL1 f
          if ok then fetchInst f r desc q else fatalFunction f) s

/-- INSTRUCTION_DISPATCH (R450): a queued instruction is dispatched; it starts, or parks until R358 and R360 let it start. -/
def execInstructionDispatch (id : Nat) (s : State) : Answer :=
  answer (do
    match s.inst id with
    | none => pure ()
    | some i =>
      if i.stage = .queued ∧ s.get F.SEQ_STAT_RUN = 1 then
        if s.mayStart i then startInst i
        else setInst id (fun i => { i with stage := .held })
        settle) s

/-! ### Completions (R346, R350, R351, R430) -/

/-- The 16 bytes of a completion (R350, R351). -/
def completionWord (c : Completion) (sqHead attn : Nat) (phase : Bool) : BitVec 128 :=
  let status := phase.toNat * 2 ^ 15 + attn * 2 ^ 12 + c.deferred.toNat * 2 ^ 11 + c.code % 2 ^ 11
  BitVec.ofNat 128 (c.dw0 + c.echo * 2 ^ 32 + sqHead * 2 ^ 64 + c.sq * 2 ^ 80 + status * 2 ^ 96 + c.tag * 2 ^ 112)

/-- Completions that the host has not consumed. -/
def ComRing.held (r : ComRing) : Nat := (r.tail + 2 ^ r.k - r.head) % 2 ^ r.k

/-- Writes the oldest staged completion of a ring that has room (R346), and signals its vector when it is the only one (R430). -/
def postCompletion (f : Fin 4) (r : ComRing) (c : Completion) (l : List Completion) : Act Unit := do
  let s ← rd
  leaveL1 f
  let attn := s.attention f
  let head := ((s.fns[f].sq c.sq).map SubRing.head).getD 0
  emit (.out (.completion f.val r.num r.tail (completionWord c head attn r.phase)))
  let wraps : Bool := decide (r.tail + 1 = 2 ^ r.k)
  setCq f r.num (fun r => { r with waiting := l, tail := if wraps then 0 else r.tail + 1, phase := r.phase ^^ wraps })
  match c.chain with
  | none => pure ()
  | some n => setSq f c.sq (fun r => { r with chains := r.chains.map (fun x =>
      if x.first = n then { x with last := x.last.map (fun y => (y.1, y.2.1, attn, y.2.2.2)) } else x) })
  match c.wrote with
  | none => pure ()
  | some w => emit (.fn f fun h => { h with posted := h.posted ++ [w] })
  if r.held = 0 ∧ r.poll = false then sendVector f (r.num + 1) 0

/-- COMPLETION_POST (R346): `ok` says whether the host access succeeds (R429). -/
def execCompletionPost (f : Fin 4) (cq : Fin 64) (ok : Bool) (s : State) : Answer :=
  answer (do
    match s.fns[f].cqOf cq.val with
    | none => pure ()
    | some r =>
      match r.waiting with
      | [] => pure ()
      | c :: l =>
        if r.held + 1 < 2 ^ r.k then
          if ok then
            postCompletion f r c l
            settle
          else fatalFunction f) s

end Sys2Proof.Machine
end

