-- ==== Sys2Proof/Machine/CacheLines.lean ====
section
/-! DEFINITION. The lines of the context cache (R456 to R461, R463, R464): banks, sets and ways, requests, misses and victim buffers. The
content of a line is that of context memory: the cache holds which lines are valid and dirty. -/

namespace Sys2Proof.Machine

/-! ### Lines (R456, R457) -/

/-- Bank of a line: PA[9:7]. -/
def bankOf (line : Nat) : Nat := line % 8

/-- Set of a line, numbered over all banks: PA[19:7]. -/
def setOf (line : Nat) : Nat := line % 8192

/-- The way that a 15-bit pseudo-LRU tree points at (R457). -/
def treeWay (tree : Nat) : Nat :=
  (List.range 4).foldl (fun n _ => 2 * n + bitsOf tree (n - 1) 1) 1 - 16

/-- The tree after a way has been used: every node on its path points away from it. -/
def treeTouch (tree way : Nat) : Nat :=
  ((List.range 4).foldl (fun (a : Nat × Nat) i =>
    let right := bitAt way (3 - i)
    (2 * a.1 + right.toNat, setBit a.2 (a.1 - 1) !right)) (1, tree)).2

def State.cacheLine (s : State) (line : Nat) : Option CacheLine := s.cch.lines.find? (fun l => l.line == line)

/-- The tree of a line's set after the way has been used. -/
def touchLine (line way : Nat) : Act Unit :=
  emit (.cch fun c => { c with trees := tabSet c.trees (setOf line) (treeTouch (tabGet c.trees (setOf line) 0) way) 0 })

/-- The way that a line takes: a free one, or that which the tree points at. -/
def State.wayFor (s : State) (line : Nat) : Nat :=
  let used := (s.cch.lines.filter (fun l => setOf l.line == setOf line)).map CacheLine.way ++
    (s.cch.misses.filter (fun m => setOf m.line == setOf line)).map Miss.way
  match (List.range 16).find? (fun w => !used.contains w) with
  | some w => w
  | none => treeWay (tabGet s.cch.trees (setOf line) 0)

/-- Whether the cache serves a line: within the context region, while enabled or draining (R457, R464). -/
def State.cchServes (s : State) (line : Nat) : Bool :=
  (s.get F.CCH_CTL_ENABLE == 1 || s.get F.CCH_STAT_DRAINING == 1) &&
  decide (s.get F.CCH_REGION_BASE_BASE * 8192 ≤ line) &&
  decide (line < (s.get F.CCH_REGION_BASE_BASE + s.get F.CCH_REGION_SIZE_SIZE) * 8192)

/-! ### Requests (R458, R461, R464, R466) -/

/-- A request that a line in the cache serves. A write makes it dirty, or under a drain is written through. -/
def serveHit (r : CacheReq) (l : CacheLine) : Act Unit := do
  addWrap F.CCH_HIT_CNT_CNT 1
  touchLine l.line l.way
  if r.write then
    if (← rd).get F.CCH_STAT_DRAINING = 1 then
      addWrap F.CCH_WB_CNT_CNT 1
      emit (.cch fun c => { c with lines := c.lines.map (fun x => if x.line = l.line then { x with dirty := false } else x) })
    else emit (.cch fun c => { c with lines := c.lines.map (fun x => if x.line = l.line then { x with dirty := true } else x) })

/-- A request joins its bank's queue. -/
def queueReq (r : CacheReq) : Act Unit := emit (.cch fun c => { c with queue := c.queue ++ [r] })

/-- Victim entries of a bank. -/
def State.victimsOf (s : State) (bank : Nat) : List Victim := s.cch.victims.filter (fun v => bankOf v.line == bank)

/-- A line in state QUEUED is reinstated, still dirty; a dirty line that it displaces takes the entry just vacated (R461). -/
def reinstate (r : CacheReq) : Act Unit := do
  let s ← rd
  let w := s.wayFor r.line
  let out := s.cch.lines.find? (fun l => setOf l.line == setOf r.line && l.way == w)
  emit (.cch fun c => { c with
    lines := c.lines.filter (fun l => !(setOf l.line == setOf r.line && l.way == w)) ++ [{ line := r.line, way := w, dirty := true }]
    victims := c.victims.filterMap (fun v =>
      if v.line = r.line then
        match out with
        | some o => if o.dirty then some { line := o.line } else none
        | none => none
      else some v) })
  touchLine r.line w
  incStop F.CCH_REINSTATE_CNT_CNT

/-! ### Rows of the DRAM (R471, R477) -/

/-- The channel that a line goes to (R471): PA[12] with both channels in service, channel 0 in S. With one channel left every address goes to
it (R474). -/
def State.lineChannel (s : State) (line : Nat) : Nat :=
  let up := s.get F.DRM_STAT_CH_UP
  if s.get F.DRM_STAT_CONFIG = 1 then 0 else if up = 3 then bitsOf line 5 1 else if up = 2 then 1 else 0

/-- The rank that a line goes to (R471): in L, the highest address bit of the channel, which holds 64 GiB. -/
def State.lineRank (s : State) (line : Nat) : Nat :=
  if s.get F.DRM_STAT_CONFIG = 3 then (if s.get F.DRM_STAT_CH_UP = 3 then bitsOf line 29 1 else bitsOf line 28 1) else 0

/-- The number of the DRM_DEV_FAILED register of a line's channel and rank (R483). -/
def State.rankOf (s : State) (line : Nat) : Nat := 2 * s.lineChannel line + s.lineRank line

/-- The rows next to a row that neighbour refresh activates and precharges: r − 2 to r + 2, except r (R477). -/
def neighbourRows (row : Nat) : List Nat := [row - 2, row - 1, row + 1, row + 2].eraseDups.filter (· != row)

/-- One activation of a row of rank register `n` (R477): a draw of the LFSR samples the row with probability 2^−RATE, here where its low RATE
bits are 0 (log 51), and the activations of a bank since its last refresh bring an RFM command where the devices require them. -/
def Dram.activated (d : Dram) (rate n bank row : Nat) : Dram :=
  let x := Config.pnrNext d.lfsr
  let count := tabGet d.raa (2 ^ 16 * n + bank) 0 + 1
  let rfm : Bool := Config.rfmEvery.any (fun m => decide (m ≤ count))
  { d with
    lfsr := x
    neighbours := if x.toNat % 2 ^ rate = 0 then d.neighbours ++ (neighbourRows row).map (fun r => (n, bank, r)) else d.neighbours
    raa := tabSet d.raa (2 ^ 16 * n + bank) (if rfm then 0 else count) 0
    rfms := d.rfms + rfm.toNat }

/-- The DRAM opens the row of a line. -/
def activateRow (line : Nat) : Act Unit := do
  let s ← rd
  if s.get F.DRM_CTL_ENABLE = 1 ∧ s.dram.selfRefresh = false then
    emit (.dram fun d => d.activated (s.get F.DRM_PNR_RATE) (s.rankOf line) (Config.dramBank line) (Config.dramRow line))

/-! ### Misses (R458, R461) -/

/-- A miss takes the bank's place for one: the line it replaces goes, a dirty one to the victim buffer, and the fill is issued. -/
def beginMiss (r : CacheReq) : Act Unit := do
  let s ← rd
  let w := s.wayFor r.line
  let out := s.cch.lines.find? (fun l => setOf l.line == setOf r.line && l.way == w)
  if out.any CacheLine.dirty ∧ 4 ≤ (s.victimsOf (bankOf r.line)).length then queueReq r
  else
    addWrap F.CCH_MISS_CNT_CNT 1
    emit (.cch fun c => { c with
      lines := c.lines.filter (fun l => !(setOf l.line == setOf r.line && l.way == w))
      victims := match out with
        | some o => if o.dirty then c.victims ++ [{ line := o.line }] else c.victims
        | none => c.victims
      misses := c.misses ++ [{ line := r.line, way := w, waiting := [r] }] })
    touchLine r.line w
    activateRow r.line

/-- A request is served, joins a miss, or waits; two requests to one line stay in order (R458). During a drain one that misses bypasses the cache
(R464). -/
def serveReq (r : CacheReq) : Act Unit := do
  let s ← rd
  let b := bankOf r.line
  if s.cch.queue.any (fun q => q.line == r.line) then queueReq r
  else
    match s.cacheLine r.line, s.cch.misses.find? (fun m => bankOf m.line == b), s.cch.victims.find? (fun v => v.line == r.line) with
    | some l, _, _ => serveHit r l
    | none, some m, v =>
      if m.line = r.line then
        addWrap F.CCH_MISS_CNT_CNT 1
        emit (.cch fun c => { c with misses := c.misses.map (fun x => if x.line = r.line then { x with waiting := x.waiting ++ [r] } else x) })
      else
        if v.any Victim.inFlight then incStop F.CCH_VICT_WAIT_CNT_CNT
        if v.any (fun v => !v.inFlight) then reinstate r
        else if v.isNone ∧ s.get F.CCH_STAT_DRAINING = 1 then activateRow r.line
        else queueReq r
    | none, none, some v =>
      if v.inFlight then
        incStop F.CCH_VICT_WAIT_CNT_CNT
        queueReq r
      else reinstate r
    | none, none, none => if s.get F.CCH_STAT_DRAINING = 1 then activateRow r.line else beginMiss r

/-- The requests that wait in a bank's queue are tried again, in arrival order. -/
def serveBank (bank : Nat) : Act Unit := do
  let s ← rd
  let mine := s.cch.queue.filter (fun q => bankOf q.line == bank)
  emit (.cch fun c => { c with queue := c.queue.filter (fun q => bankOf q.line != bank) })
  forAll mine serveReq

/-- The oldest write-back of a bank that is queued is issued (R461). -/
def issueVictim (bank : Nat) : Act Unit := do
  match (← rd).cch.victims.find? (fun v => bankOf v.line == bank) with
  | some v =>
    emit (.cch fun c => { c with victims := c.victims.map (fun x => if x.line = v.line then { x with inFlight := true } else x) })
    if v.inFlight = false then activateRow v.line
  | none => pure ()

/-- Dirty lines of the context cache, with those that wait in its victim buffers. -/
def Cch.dirtyLines (c : Cch) : Nat := (c.lines.filter CacheLine.dirty).length + c.victims.length

/-- Every dirty line of the context cache is written back and stays valid (R463); what waited for a victim entry is served. -/
def cleanCache : Act Unit := do
  let s ← rd
  addWrap F.CCH_WB_CNT_CNT s.cch.dirtyLines
  emit (.cch fun c => { c with lines := c.lines.map (fun l => { l with dirty := false }), victims := [] })
  if !s.cch.victims.isEmpty then forAll (List.range 8) serveBank

end Sys2Proof.Machine
end

