-- ==== Sys2Proof/Machine/Life.lean ====
section
/-! DEFINITION. What the part saves and when (R294, R463, R550, R551, R556 to R558): the life record, the strand log, the power-fail
record, checkpoints, the OPU life records; the checks of the VBAT domain and the tamper latch (R559); shorted balls (R555). -/

namespace Sys2Proof.Machine

/-! ### The life record (R556, R557) -/

/-- Counters of one OPU, motor or axis position that the life record keeps. -/
def opuLife (k : Nat) : List Fld :=
  [F.WRP_ENERGY_UJ k, F.WRP_RAW_PASS_CNT_CNT k, F.WRP_RAW_FAIL_CNT_CNT k, F.WRP_RELOC_CNT_CNT k,
   F.WRP_WSL_CTL_SWAP k, F.WRP_WSL_CTL_INV_0 k, F.WRP_WSL_CTL_INV_1 k, F.WRP_WSL_CTL_CLK_INV k]

def motorLife (k : Nat) : List Fld :=
  [F.MOT_REV_CNT_CNT k, F.MOT_WIRING_ENC_INV k, F.MOT_WIRING_PH_SWAP k, F.MOT_WIRING_SHUNT_INV k, F.MOT_WIRING_INDEX_OFS k,
   F.MOT_WIRING_OFS_VALID k]

def axisLife (a : Nat) : List Fld := [F.STP_STEP_CNT_CNT a, F.STP_POS_POS a]

/-- The register fields whose values the life record holds (R556). -/
def lifeFields : List Fld :=
  (List.range 8).flatMap opuLife ++ (List.range 8).flatMap motorLife ++ (List.range 16).flatMap axisLife ++
  (List.range 32).map F.RCH_IN_CTL_POL_INV ++
  [F.FLZ_PROG_CNT_CNT, F.FLZ_ERASE_CNT_CNT, F.FLZ_BAD_CNT_CNT, F.DRM_ECC_CNT_CNT] ++ (List.range 4).map F.DRM_DEV_FAILED_MASK

/-- The register fields that calibration `n` sets on an element, but for the gains of calibration 3, which follow the slot
assignment, and the κ coefficients of calibration 6, which are kept by layer (R218, R271). -/
def calElementFields (n elem : Nat) : List Fld :=
  let k := (calOpu elem).val
  let l := elem % 8
  let i := (calInput elem).val
  let j := elem % 16
  match n with
  | 0 => [F.RCH_IN_TRIM_OFFSET i j]
  | 1 => [F.RCH_IN_TRIM_GAIN i j]
  | 2 => [F.RCH_IN_TRIM_SKEW i j]
  | 4 => [F.BAY_LAYER_SA k l, F.BAY_LAYER_TILT k l]
  | 5 => [F.BAY_LREF_CENTRE k l, F.BAY_LREF_SIDE k l]
  | 7 => [F.WRP_LVL_A_MARK k l, F.WRP_LVL_B_MEAN k l]
  | 8 => [F.WRP_STRAT_LEAD_LEAD k l, F.WRP_STRAT_TRAIL_TRAIL k l]
  | 9 => [F.WRP_WR_TIMING_OFFSET k]
  | 10 => [F.CAL_LSEG_MASK k]
  | 11 => [F.MOT_SHUNT_OFS_OFS elem]
  | _ => []

/-- The life record as it stands. -/
def State.lifeNow (s : State) : Life :=
  { s.life with
    powerOnBase := s.powerOn, powerOnAt := s.now, calResults := s.cal.results, calMarks := s.cal.marks, calKappas := s.cal.kappas
    calValues := s.cal.results.flatMap (fun r => (calElementFields r.1 r.2.1).map (fun f => (f.key, s.get f)))
    counters := (lifeFields.map (fun f => (f.key, s.get f))).filter (fun p => p.2 != 0) }

/-- The life record is programmed: the copy written alternates (R557). -/
def saveLife : Act Unit := do
  let s ← rd
  emit (.nv fun v => { v with sys := { v.sys with life := s.lifeNow, lifeCopy := 1 - v.sys.lifeCopy } })
  setF F.LIF_SAVE_TIME_SEC s.powerOn

/-- LIFE_RECORD_SAVE (R557): every 600 s of power-on time; whether the copy due programs, and whether the other does when it fails. -/
def execLifeRecordSave (ok : Bool × Bool) (s : State) : Answer :=
  answer (do
    if s.mode = mOFF ∨ s.mode = mRESET ∨ s.mode = mBOOT ∨ s.mode = mLOAD ∨ s.mode = mRETENTION then pure ()
    else if ok.1 then saveLife
    else if ok.2 then
      saveLife
      emit (.nv fun v => { v with sys := { v.sys with lifeCopy := 1 - v.sys.lifeCopy } })
    else
      setF F.LIF_STAT_SAVE_FAIL 1
      raise Ev.LIFE_RECORD_SAVE_FAIL) s

/-! ### OPU EEPROMs (R558) -/

/-- Counters of the newer life record of an EEPROM: COUNT, LASER_S, WRITE_S, ENERGY, LAST_TIME. -/
def Eeprom.lastLife (e : Eeprom) : List Nat :=
  e.life.foldl (fun a x => if a.headD 0 < x.headD 0 then x else a) []

/-- An OPU's life record is written to its EEPROM, in place of the older copy: its counters rise by what the position has counted
since the last write. -/
def writeOpuLife (k : Fin 8) : Act Unit := do
  let s ← rd
  let e := s.nv.eeproms[k]
  let old := e.lastLife
  let energy := s.get (F.WRP_ENERGY_UJ k.val)
  let m := s.life.opuMark[k]
  let laser := s.life.laserSec[k]
  let write := s.life.writeMicros[k]
  let new := [old.headD 0 + 1, old.getD 1 0 + (laser - m.1), old.getD 2 0 + (write - m.2.1) / 1000000,
    old.getD 3 0 + (energy - m.2.2), s.utc.getD 0]
  emit (.nv fun v => { v with eeproms := v.eeproms.set k { e with life := new :: (if old.isEmpty then [] else [old]) } })
  emit (.life fun l => { l with opuMark := l.opuMark.set k (laser, write, energy) })

/-- Whether an OPU is fitted (R565). -/
def State.opuFitted (s : State) (k : Fin 8) : Bool := bitAt s.nv.opus k.val && bitAt s.nv.bays (k.val / 2)

/-- OPU_LIFE_WRITE (R558): 24 h of laser-on time. -/
def execOpuLifeWrite (k : Fin 8) (s : State) : Answer :=
  answer (do if s.opuFitted k ∧ mBRINGUP ≤ s.mode then writeOpuLife k) s

/-! ### The strand log (R551) -/

/-- The contexts that have changed since the last log are appended, with the SEQs up to which their digests have been extended. -/
def logStrands : Act Unit := do
  let s ← rd
  let changed := (s.strands.filter Strand.dirty).map (fun t => { t with
    loggedSeq := t.digestSeq, loggedDurable := s.durableSeq t, dirty := false })
  emit (.strands fun l => l.map (fun t => if t.dirty then { t with loggedSeq := t.digestSeq, loggedDurable := s.durableSeq t, dirty := false } else t))
  emit (.nv fun v => { v with sys := { v.sys with
    strandLog := v.sys.strandLog.filter (fun t => !changed.any (fun c => c.num == t.num)) ++ changed, deferred := s.deferred } })

/-- STRAND_LOG_APPEND (R551). -/
def execStrandLogAppend (s : State) : Answer :=
  answer (do
    if s.get F.FLZ_CTL_ENABLE = 1 ∧ mBRINGUP ≤ s.mode ∧ s.mode ≠ mRETENTION then
      logStrands
      settle
      settleBlocks) s

/-! ### The power-fail record (R550) -/

/-- The loss entry of a strand that has sectors held only in DRAM. -/
def State.lossEntry (s : State) (t : Strand) : Option LossEntry :=
  match (s.cache.filter (fun c => c.strand == t.num && s.atRisk c)).map CacheSector.seq with
  | [] => none
  | x :: l => some { strand := t.num, atRisk := (x :: l).length, lowSeq := l.foldl min x, highSeq := t.lastSeq }

/-- The power-fail record is programmed, with its snapshot of the life record. -/
def writePowerFail : Act Unit := do
  let s ← rd
  emit (.nv fun v => { v with sys := { v.sys with
    life := s.lifeNow
    powerFail := some { seqIssued := s.nextSeq - 1, time := s.utc.getD 0, entries := s.strands.filterMap s.lossEntry
                        frozen := s.zone == zFROZEN, powerOn := s.powerOn } } })

/-! ### Checkpoints (R286, R294, R463) -/

/-- The delay registers of a channel (R483). -/
def delayFields (c : Nat) : List Fld :=
  (List.range 2).flatMap (fun r => (List.range 80).flatMap (fun l =>
    let n := 256 * c + 128 * r + l
    [F.DRM_DELAY_RD n, F.DRM_DELAY_WR n, F.DRM_DELAY_VREF n]))

/-- The training record is written (R474). -/
def saveTraining : Act Unit := do
  let s ← rd
  let l := ((List.range 2).flatMap delayFields).map (fun f => (f.key, s.get f))
  emit (.nv fun v => { v with training := some (s.get F.DRM_STAT_CONFIG, l.filter (fun x => x.2 != 0)) })

/-- Completes the rows that wait for padding: pad pages, then parity (R286). -/
def finishRows : Nat → Act Unit
  | 0 => pure ()
  | n + 1 => do
    let s ← rd
    match s.nextJob with
    | some (.parity b) =>
      programOk (.parity b)
      finishRows n
    | some (.pad b) =>
      programOk (.pad b)
      finishRows n
    | _ => pure ()

/-- A checkpoint is written and a CLEAN record that names it is appended, once every open block is closed (R294). -/
def writeCheckpoint : Act Unit := do
  let s ← rd
  cleanCache
  if s.zone ≠ zFROZEN then
    let open_ := s.flash.blocks.filter (fun b => b.state == .openData || b.state == .openLog)
    forAll open_ (fun b => closeBlock b.num)
    finishRows (17 * open_.length)
  sweepCache
  logStrands
  saveBlocks
  let s ← rd
  emit (.nv fun v => { v with sys := { v.sys with
    checkpoint := { blocks := s.flash.blocks, extents := s.extents, strands := s.strands }
    mapLog := [], deferred := s.deferred
    clean := true, powerFail := none } })

/-! ### The VBAT domain (R559) -/

/-- VBAT_CHECK (R559): each hour; whether VBAT is below 2.4 V. -/
def execVbatCheck (low : Bool) (s : State) : Answer :=
  answerWhen s.awake (do
    setF F.LIF_STAT_VBAT_LOW low.toNat
    if low then raise Ev.VBAT_LOW) s

/-- LIF_STAT.TAMPER and LIF_TAMPER_TIME follow the latch. -/
def showTamper : Act Unit := do
  let s ← rd
  setF F.LIF_STAT_TAMPER s.nv.tamper.isSome.toNat
  setF F.LIF_TAMPER_TIME_SEC (s.nv.tamper.getD 0)

/-- TAMPER_N_ASSERTED (R559): the latch is set with its UTC time. -/
def execTamperNAsserted (s : State) : Answer :=
  answer (do
    if s.nv.tamper.isNone then
      emit (.nv fun v => { v with tamper := some (s.utc.getD 0) })
      if mBOOT ≤ s.mode then
        showTamper
        raise Ev.TAMPER_DETECTED) s

/-- LIF_STAT.TAMPER is written 1 (R559, R561). -/
def clearTamper : Act Unit := do
  emit (.nv fun v => { v with tamper := none })
  showTamper

/-- TAMPER_CLEAR (R559). -/
def execTamperClear (m : Master) (s : State) : Answer := answer (do if s.mayWrite m then clearTamper) s

/-! ### Shorted balls (R555, R564) -/

/-- Whether an output index names a ball (R564). -/
def outputIndex (n : Nat) : Bool :=
  decide (n < 691) && !(decide (218 ≤ n) && decide (n < 346) && (n - 218) % 16 == 7) &&
  !(decide (355 ≤ n) && decide (n < 435) && decide (37 ≤ (n - 355) % 40)) &&
  !(decide (435 ≤ n) && decide (120 ≤ (n - 435) % 128))

/-- The OPU whose laser enable has an output index. -/
def lenOpu (n : Nat) : Option (Fin 8) :=
  if h : 96 ≤ n ∧ n < 136 ∧ (n - 96) % 5 = 4 then some ⟨(n - 96) / 5, by omega⟩ else none

/-- PIN_SHORT_DETECT (R554, R555): the ball of output index `n` differs from what it drives. A laser enable held active while it is
driven inactive is answered with zero levels and an abort, and its bay is FAULTED. -/
def execPinShortDetect (n : Fin 1024) (s : State) : Answer :=
  answerWhen s.awake (do
    if outputIndex n.val then
      let f := F.LIF_PIN_SHORT_BITS (n.val / 32)
      setF f (setBit (s.get f) (n.val % 32) true)
      match lenOpu n.val with
      | none => pure ()
      | some k =>
        if s.optics[k].laser = false then
          sendFrame k (.levels [0, 0, 0, 0])
          sendFrame k .abort
          raiseOpu k Ev.iLASER_OVERPOWER
          parkToFaulted (bayOf k)) s

end Sys2Proof.Machine
end

