-- ==== Sys2Proof/Machine/Modes.lean ====
section
/-! DEFINITION. Device modes (R29 to R42, R47): requests and what they lead to, DRAIN, RETENTION up to its entry, SAFE and the
loss of SLATH (R16). The starts are in Boot. -/

namespace Sys2Proof.Machine

/-! ### Resets (R30, R43, R531, R547, R567 to R571) -/

/-- Whether the key of a field lies in a window of the parameter space. -/
def inWindow (base size key : Nat) : Bool := decide (base * 64 ≤ key) && decide (key < (base + size) * 64)

/-- The delay registers of the DRAM controller (R483). -/
def delayKey (key : Nat) : Bool := inWindow (F.drmBase + 0x1000) 0x1000 key

/-- What ACTIVATE keeps of the registers (R531); the refusal of DBG_CHAL lasts until RESET_N (R523). -/
def activateKeeps (key : Nat) : Bool :=
  delayKey key || key == F.SEC_DBG_STAT_LOCKOUT.key || key == F.DRM_STAT_CONFIG.key || key == F.DRM_STAT_CH_UP.key ||
  fnList.any (fun f => key == (F.HST_LINK_STAT_SPEED f.val).key || key == (F.HST_LINK_STAT_WIDTH f.val).key ||
    key == (F.HST_LINK_STAT_PSTATE f.val).key)

/-- What a wake from RETENTION keeps of the registers (R531). -/
def wakeKeeps (key : Nat) : Bool :=
  delayKey key || key == F.SEC_DBG_STAT_LOCKOUT.key || inWindow F.devBase 0x10000 key || inWindow F.evtBase 0x10000 key || inWindow F.lifBase 0x10000 key

/-- The part enters RESET or OFF; `cause` is the CAUSE of its next start (R509). -/
def enterReset (mode cause : Nat) : Act Unit := do
  let s ← rd
  emit (.hardReset (fun _ => false))
  emit (.boot fun b => { b with running := false, cause := cause })
  setF F.DEV_MODE_STAT_MODE mode
  setF F.DEV_MODE_STAT_PREV_MODE s.mode
  setF F.DEV_MODE_STAT_TRANSITION 0

/-- BOOT begins: step 1 runs, the context cache invalidates its lines (R465, R506), and the change of mode is raised (R33). -/
def beginBoot (prev modeCause : Nat) : Act Unit := do
  let s ← rd
  setF F.DEV_MODE_STAT_MODE mBOOT
  setF F.DEV_MODE_STAT_PREV_MODE prev
  setF F.DEV_MODE_STAT_TRANSITION 1
  setF F.DEV_MODE_STAT_CAUSE modeCause
  emit (.boot fun b => { b with running := true, step := 1, stepAt := s.now })
  setF F.SEC_BOOT_STAT_STEP 1
  setF F.SEC_BOOT_STAT_CAUSE s.boot.cause
  setF F.CCH_STAT_INIT_DONE 1
  setF F.CCH_STAT_BYPASS 1
  raise Ev.MODE_CHANGE 0 0 (prev + 256 * mBOOT + 65536 * modeCause)

/-- RESET is left for BOOT once RESET_N is released with the reference present and SLATH locked, the rails within tolerance and the
junction cool (R30, R569, R571). -/
def startBoot : Act Unit := do
  let s ← rd
  let p := s.chip.pins
  if s.mode = mRESET ∧ p.supplies ∧ p.resetN ∧ p.slathLocked ∧ p.brownOut = false ∧ p.hot = false then beginBoot mRESET 0

/-- An internal reset equivalent to RESET_N (R507, R508). -/
def internalReset (cause : Nat) : Act Unit := do
  enterReset mRESET cause
  startBoot

/-- The restart of ACTIVATE through BOOT (R366, R531, R547): the links and the configuration space stand, and a bay that was FAULTED is so again
from BRINGUP on (R46, R48). -/
def activateRestart : Act Unit := do
  let s ← rd
  emit (.hardReset activateKeeps)
  emit (.boot fun b => { b with cause := 3 })
  emit (.chip fun c => { c with degraded := s.chip.degraded.filter (fun d => match d with
    | .port _ => true
    | _ => false) })
  emit (.dram fun d => { d with temps := s.dram.temps, swept := s.dram.swept })
  forAll fnList (fun f => emit (.fn f fun h => { h with
    d3 := s.fns[f].d3, relaxed := s.fns[f].relaxed, fnMask := s.fns[f].fnMask }))
  forAll bayList (fun b => emit (.bay b fun x => { x with wasFaulted := s.bayState b.val == bFAULTED || s.bays[b].wasFaulted }))
  beginBoot s.mode 8

/-! ### Bays at rest and bays needed (R30, R46, R47, R400) -/

/-- Whether a bay is in EMPTY, LOADED or FAULTED. -/
def restState (st : Nat) : Bool := st == bEMPTY || st == bLOADED || st == bFAULTED

def State.baysRest (s : State) : Bool := bayList.all (fun b => restState (s.bayState b.val))

/-- A bay is brought to rest: one that writes stops at its next sector boundary first, as a suspension (R47, R260). -/
def restBay (b : Fin 4) (reason : Nat) : Act Unit := do
  let s ← rd
  emit (.bay b fun y => { y with session := y.session.map (fun x => { x with suspended := true }) })
  if s.bayState b.val = bWRITING ∧ (opusOf b).any (fun k => s.writers[k].busy) then
    emit (.bay b fun y => { y with parkLater := true })
    forAll (opusOf b) (fun k => stopWriteAtBoundary k reason)
  else parkBay b

/-- Something needs a bay: IDLE becomes ACTIVE, and a LOADED bay's spindle runs to the class that bounds and adaptation leave it
(R30). In PARK it waits. -/
def wakeBay (b : Fin 4) : Act Unit := do
  let s ← rd
  if s.mode = mIDLE ∧ s.get F.DEV_MODE_STAT_TRANSITION = 0 then changeMode mACTIVE 0xB
  let s ← rd
  if (s.mode = mACTIVE ∨ s.mode = mSERVICE) ∧ s.get F.DEV_MODE_STAT_TRANSITION = 0 ∧ s.bayState b.val = bLOADED then
    runMotor (spindleOf b) (s.boundSpeed b.val (s.cal.speed[b] + 1) - 1)

/-- A host instruction needs a bay: the hold of PARK_BAY ends (R400). -/
def needBay (b : Fin 4) : Act Unit := do
  setF (F.BAY_STAT_HELD b.val) 0
  wakeBay b

/-- BAY_NEEDED (R30): an instruction, or the part's own work, needs a bay. A held bay is not spun for the part's own work (R400). -/
def execBayNeeded (b : Fin 4) (s : State) : Answer :=
  answer (do if s.get (F.BAY_STAT_HELD b.val) = 0 then wakeBay b) s

/-! ### DRAIN (R35 to R39, R549) -/

/-- Every laser off and every write gate closed at once: the power-fail logic (R16, R549). -/
def dropAllLasers : Act Unit := forAll opuList dropLaser

/-- What turns, moves or shines outside a bay that writes is brought to rest as well (R35). -/
def stopDrives : Act Unit := do
  forAll opuList (fun k => do
    let s ← rd
    if s.bayState (bayOf k).val ≠ bWRITING ∧ (s.optics[k].laser ∨ s.optics[k].focusClosed) then retract k)
  forAll bayList (fun b => do
    let s ← rd
    if s.bayState b.val ≠ bWRITING then stopBay b)

/-- In DRAIN the entries of the skipped runs that stops have left are written (R37, R260). -/
def drainSkips : Act Unit := do
  if (← rd).mode = mDRAIN then forAll opuList recordSkips

/-- Entry into DRAIN: the power-fail record first, fetch stopped, instructions before their commit point aborted, disc writes
stopped at a sector boundary or, on PWR_FAIL_N, at once, bays brought to rest (R35 to R37, R47, R549, R550). -/
def enterDrain (cause : Nat) (atOnce : Bool) : Act Unit := do
  let s ← rd
  emit (.chip fun c => { c with
    transition := none, retaining := false, heldSmb := false, waking := false
    drain := { active := true, enteredAt := s.now, fromBringup := s.mode == mBRINGUP } })
  emit (.boot fun b => { b with running := false })
  emit (.life fun l => { l with drains := l.drains + 1, pwrFails := l.pwrFails + atOnce.toNat })
  setF F.DEV_MODE_STAT_TRANSITION 0
  setF F.DEV_MODE_STAT_OK_TO_REMOVE 0
  setF F.DEV_MODE_REQ_TARGET 0
  writePowerFail
  changeMode mDRAIN cause
  if atOnce then dropAllLasers
  forAll bayList (fun b => restBay b 2)
  stopDrives
  drainSkips
  forAll (s.insts.filter (fun i => i.opcode == opACTIVATE && i.stage == .committed)) (fun i => completeAs i cABORTED_BY_DRAIN 0 none)
  abortAll (fun _ => true) cABORTED_BY_DRAIN
  settle

/-- Whether DRAIN's own steps may end: nothing acknowledged is left to program, every bay and every bay spindle is at rest, and the sleds
are parked (R35). A DRAIN from BRINGUP starts no flash program (R39), and a FROZEN zone takes none (R308). -/
def State.drained (s : State) : Bool :=
  s.baysRest && bayList.all (fun b => s.spindleRests b && s.sledsRest b) && (s.chip.drain.fromBringup || s.zone == zFROZEN || !s.cache.any s.atRisk)

/-- Whether the steps of R35 go on: in DRAIN, or in SAFE entered from it (R42). -/
def State.draining (s : State) : Bool := s.chip.drain.active && (s.mode == mDRAIN || (s.mode == mSAFE && s.chip.drainInSafe))

/-- DRAIN is left for IDLE (R30): POWER_OK_TO_REMOVE is deasserted. What is programmed from now on follows the CLEAN record, so
the zone counts as open again. -/
def leaveDrain (cause : Nat) : Act Unit := do
  emit (.chip fun c => { c with drain := {}, heldSmb := false })
  setF F.DEV_MODE_REQ_TARGET 0
  setF F.DEV_MODE_STAT_OK_TO_REMOVE 0
  emit (.nv fun v => { v with sys := { v.sys with clean := false } })
  changeMode mIDLE cause

/-- The cause of a mode change that a request makes: 2 by a host, 3 over SMBus (R33). -/
def requestCause (smb : Bool) : Nat := if smb then 3 else 2

/-- A held request for IDLE is taken once POWER_OK_TO_REMOVE is asserted while PWR_FAIL_N is deasserted (R32). -/
def settleDrain : Act Unit := do
  let s ← rd
  if s.mode = mDRAIN ∧ s.get F.DEV_MODE_STAT_OK_TO_REMOVE = 1 ∧ s.get F.DEV_MODE_STAT_PWR_FAIL = 0 ∧
      s.get F.DEV_MODE_REQ_TARGET = mIDLE then leaveDrain (requestCause s.chip.heldSmb)

/-- DRAIN_COMPLETE (R35): the rows are completed, the checkpoint and the life records are saved, the completions that only the gate
held are posted, and POWER_OK_TO_REMOVE is asserted. -/
def execDrainComplete (s : State) : Answer :=
  answer (do
    if s.draining ∧ s.drained ∧ s.chip.drain.done = false then
      if s.chip.drain.fromBringup = false then writeCheckpoint
      saveLife
      forAll opuList (fun k => do if s.opuFitted k then writeOpuLife k)
      emit (.chip fun c => { c with drain := { c.drain with
        programmed := true, parked := true, checkpoint := !c.drain.fromBringup, lifeSaved := true, done := true } })
      let s ← rd
      forAll (s.insts.filter (fun i => i.stage == .gated)) (fun i => do
        if (← rd).heldBy i.id = 0 then postWrite i)
      settle
      setF F.DEV_MODE_STAT_OK_TO_REMOVE 1
      settleDrain) s

/-- DRAIN_SPIN_TIMEOUT (R38): a spindle that still turns 5.5 s after entry has its torque removed and coasts. -/
def execDrainSpinTimeout (b : Fin 4) (s : State) : Answer :=
  answer (do
    if s.draining ∧ s.spindleRests b = false then
      gatesOff (spindleOf b)
      raiseBay b.val Ev.iBAY_SPIN_COAST
      finishPark b) s

/-- DRAIN_DEADLINE (R38): 6.0 s after entry POWER_OK_TO_REMOVE is asserted whatever remains. -/
def execDrainDeadline (s : State) : Answer :=
  answer (do
    if s.draining ∧ s.chip.drain.done = false then
      emit (.chip fun c => { c with drain := { c.drain with done := true } })
      setF F.DEV_MODE_STAT_OK_TO_REMOVE 1
      raise Ev.DRAIN_INCOMPLETE
      settleDrain) s

/-- PWR_FAIL_N_ASSERTED (R30, R32, R39, R525, R549): it discards any held request; the modes from BRINGUP to SAFE but RETENTION enter
DRAIN, which drops the lasers and stops disc writes at once. -/
def execPwrFailNAsserted (s : State) : Answer :=
  answer (do
    if mBOOT ≤ s.mode then
      setF F.DEV_MODE_STAT_PWR_FAIL 1
      if s.mode < mBRINGUP then
        setF F.DEV_MODE_REQ_TARGET 0
        emit (.chip fun c => { c with heldSmb := false, heldPme := false })
      else if s.mode ≠ mRETENTION then
        raise Ev.PWR_FAIL
        if s.mode = mDRAIN then
          setF F.DEV_MODE_REQ_TARGET 0
          emit (.life fun l => { l with pwrFails := l.pwrFails + 1 })
          dropAllLasers
          drainSkips
        else enterDrain 4 true) s

/-- PWR_FAIL_N_DEASSERTED (R39): DRAIN still completes, and then waits for a request for IDLE. -/
def execPwrFailNDeasserted (s : State) : Answer :=
  answer (do
    setF F.DEV_MODE_STAT_PWR_FAIL 0
    settleDrain) s

/-! ### RETENTION up to its entry (R40, R434, R435, R478) -/

/-- The Admin function of a port, whose HST_LINK_STAT shows the port's link. -/
def adminOf (p : Fin 2) : Fin 4 := ⟨2 * p.val, by omega⟩

def State.linkUp (s : State) (p : Fin 2) : Bool := s.get (F.HST_LINK_STAT_SPEED (adminOf p).val) != 0

def portList : List (Fin 2) := [0, 1]

/-- Whether every port with a link up has completed the L2/L3 Ready handshake, and one has. -/
def State.portsReady (s : State) : Bool := portList.all (fun p => !s.linkUp p || s.chip.l2Ready[p])

/-- A request is rejected (R31). -/
def rejectRequest : Act Unit := do
  setF F.DEV_MODE_REQ_TARGET 0
  emit (.chip fun c => { c with heldSmb := false })
  raise Ev.MODE_REQ_REJECT

/-- RETENTION is entered: SLATH stops, POWER_OK_TO_REMOVE is asserted (R14, R40). A bay that has become FAULTED on the way keeps the part in
PARK, as it would have kept the request from being taken (R46, R48). -/
def enterRetention : Act Unit := do
  let s ← rd
  match s.chip.transition with
  | none => pure ()
  | some t =>
    if t.target = mRETENTION ∧ bayList.any (fun b => s.bayState b.val == bFAULTED) then
      emit (.chip fun c => { c with transition := none, retaining := false })
      emit (.dram fun d => { d with selfRefresh := false })
      setF F.DEV_MODE_STAT_TRANSITION 0
      rejectRequest
    else if s.dram.selfRefresh ∧ s.portsReady then
      emit (.chip fun c => { c with transition := none, pins := { c.pins with slathLocked := false } })
      setF F.DEV_MODE_STAT_TRANSITION 0
      setF F.DEV_MODE_STAT_OK_TO_REMOVE 1
      changeMode mRETENTION t.cause

/-- The durability steps of R40: once nothing is held in DRAM alone, the checkpoint, the life record and the training record are written
and DRAM goes to self-refresh (R294, R478, R557). DESIGN CHOICE (assumption log 61): the spec does not say what a request for RETENTION does while the zone is
FROZEN, which takes no program; the part goes on, and what DRAM alone held stays there unprogrammed. -/
def retainDram : Act Unit := do
  let s ← rd
  if s.dram.selfRefresh = false ∧ (s.zone = zFROZEN ∨ !s.cache.any s.atRisk) then
    writeCheckpoint
    saveLife
    if s.get F.DRM_STAT_CONFIG ≠ 0 then saveTraining
    emit (.dram fun d => { d with selfRefresh := true })
  enterRetention

/-- A request for RETENTION is taken; a FAULTED bay keeps it from being entered (R40, R48). -/
def beginRetention (cause : Nat) : Act Unit := do
  emit (.chip fun c => { c with transition := some { target := mRETENTION, cause := cause }, retaining := true
                                l2Ready := .replicate 2 false })
  setF F.DEV_MODE_STAT_TRANSITION 1
  padFor (fun _ => true)

/-- L2_HANDSHAKE_TIMEOUT (R434): a port has received no PME_Turn_Off within 10 s and is taken to electrical idle. -/
def execL2HandshakeTimeout (p : Fin 2) (s : State) : Answer :=
  answer (do
    if s.chip.retaining ∧ s.dram.selfRefresh ∧ s.linkUp p ∧ s.chip.l2Ready[p] = false then
      forAll [2 * p.val, 2 * p.val + 1] (fun f => do
        setF (F.HST_LINK_STAT_SPEED f) 0
        setF (F.HST_LINK_STAT_WIDTH f) 0)
      raise (Ev.port p.val hL2_FORCED)
      enterRetention) s

/-! ### Requests (R30 to R33) -/

/-- The targets that R30 allows a request to name in each mode; in RETENTION, those that wake the part (R31). -/
def allowedTargets (mode : Nat) : List Nat :=
  if mode = mBRINGUP then [mDRAIN]
  else if mode = mIDLE then [mACTIVE, mDRAIN, mPARK, mSERVICE]
  else if mode = mACTIVE then [mIDLE, mDRAIN, mPARK]
  else if mode = mPARK then [mIDLE, mDRAIN, mRETENTION, mSERVICE]
  else if mode = mSERVICE then [mIDLE, mDRAIN]
  else if mode = mSAFE then [mDRAIN, mSERVICE]
  else if mode = mDRAIN then [mIDLE]
  else []

/-- A request is held (R32). -/
def holdRequest (target : Nat) (smb : Bool) : Act Unit := do
  setF F.DEV_MODE_REQ_TARGET target
  emit (.chip fun c => { c with heldSmb := smb, heldPme := false })

/-- The bays are brought to rest for IDLE or PARK, in the mode that the part leaves (R47). -/
def beginTransition (target cause : Nat) : Act Unit := do
  emit (.chip fun c => { c with transition := some { target := target, cause := cause } })
  setF F.DEV_MODE_STAT_TRANSITION 1
  forAll bayList (fun b => restBay b 1)

/-- A request that R30 allows is taken. DESIGN CHOICE (assumption log 62): POWER_OK_TO_REMOVE, asserted because a DRAIN finished inside SAFE, stays
asserted when SAFE is left for SERVICE; the spec names no deassertion there. -/
def takeRequest (target cause : Nat) : Act Unit := do
  let s ← rd
  setF F.DEV_MODE_REQ_TARGET 0
  emit (.chip fun c => { c with heldSmb := false })
  if target = mDRAIN then enterDrain cause false
  else if target = mRETENTION then beginRetention cause
  else if (target = mIDLE ∧ s.mode ≠ mPARK) ∨ target = mPARK then beginTransition target cause
  else
    if s.mode = mSAFE then emit (.chip fun c => { c with drainInSafe := false, drain := {} })
    changeMode target cause

/-- Whether a transition is in progress that holds requests (R32). A request for DRAIN is taken at once in BRINGUP, which R30 lets it
leave, and while ACTIVATE runs (R367). -/
def State.holdsRequest (s : State) (target : Nat) : Bool :=
  s.get F.DEV_MODE_STAT_TRANSITION == 1 &&
  !(target == mDRAIN && (s.mode == mBRINGUP || s.insts.any (fun i => i.opcode == opACTIVATE && i.stage == .committed)))

/-- A request for a mode, made by a master that may ask for SERVICE or by another (R30 to R32). -/
def requestMode (target : Nat) (smb admin : Bool) : Act Unit := do
  let s ← rd
  if target = 0 then
    setF F.DEV_MODE_REQ_TARGET 0
    emit (.chip fun c => { c with heldSmb := false })
  else if target = mSERVICE ∧ admin = false then rejectRequest
  else if s.mode = mDRAIN then
    if target = mIDLE then
      holdRequest target smb
      settleDrain
    else rejectRequest
  else if s.holdsRequest target then
    if [mIDLE, mACTIVE, mDRAIN, mPARK, mRETENTION, mSERVICE].contains target then holdRequest target smb else rejectRequest
  else if (allowedTargets s.mode).contains target ∧
      !(target == mRETENTION && bayList.any (fun b => s.bayState b.val == bFAULTED)) then takeRequest target (requestCause smb)
  else rejectRequest

/-- A transition has ended: the held request is acted on (R32). -/
def takeHeld : Act Unit := do
  let s ← rd
  let t := s.get F.DEV_MODE_REQ_TARGET
  if t ≠ 0 then
    setF F.DEV_MODE_REQ_TARGET 0
    if s.chip.heldPme ∧ t = mDRAIN then
      emit (.chip fun c => { c with heldPme := false })
      if (allowedTargets s.mode).contains mDRAIN then takeRequest mDRAIN 0xC
    else requestMode t s.chip.heldSmb true

/-- Whether a master may request SERVICE: an Admin function, or the unlocked debug port, which is privileged as one (R30, R522). -/
def asksService : Master → Bool
  | .sequencer => false
  | .debug => true
  | .function f => isAdmin f

/-- A write of DEV_MODE_REQ.TARGET (R31). -/
def writeModeReq (m : Master) (target : Nat) : Act Unit := requestMode target false (asksService m)

/-- DEV_MODE_REQ_WRITE (R31). -/
def execDevModeReqWrite (m : Master) (target : BitVec 4) (s : State) : Answer :=
  answer (do if s.mayWrite m then writeModeReq m target.toNat) s

/-- ACTIVATE goes on (R366, R557): once the bays rest, everything acknowledged is programmed and the other instructions have completed, the
checkpoint and the life record are written and ACTIVATE completes; once its completion is posted, the part restarts. -/
def settleActivate : Act Unit := do
  let s ← rd
  match s.insts.find? (fun i => i.opcode == opACTIVATE && i.stage == .committed) with
  | none => pure ()
  | some i =>
    if s.baysRest ∧ (s.zone = zFROZEN ∨ !s.cache.any s.atRisk) ∧ !s.insts.any (fun j => j.id != i.id) then
      writeCheckpoint
      saveLife
      completeAs i cSUCCESS 0 none
  let s ← rd
  if s.insts.isEmpty ∧ fnList.all (fun f => s.fns[f].cqs.all (fun r => r.waiting.isEmpty)) then activateRestart

/-- IDLE_DELAY_EXPIRED (R30): every bay has been in EMPTY, LOADED or FAULTED for IDLE_DELAY. -/
def execIdleDelayExpired (s : State) : Answer :=
  answer (do
    if s.mode = mACTIVE ∧ s.get F.DEV_MODE_STAT_TRANSITION = 0 ∧ s.baysRest then changeMode mIDLE 9) s

/-! ### SLATH and temperature (R15, R16, R41) -/

/-- SLATH_LOCK_LOST (R16): the power-fail logic drops every laser enable and removes motor torque. -/
def execSlathLockLost (s : State) : Answer :=
  answer (do
    if s.chip.pins.slathLocked ∧ mBOOT ≤ s.mode then
      emit (.chip fun c => { c with pins := { c.pins with slathLocked := false } })
      dropAllLasers
      forAll opuList abortMotor
      raise Ev.SLATH_LOCK_LOST) s

/-- SLATH_RELOCKED (R16, R30): after a loss of lock the part enters SAFE; in RESET it may start. -/
def execSlathRelocked (s : State) : Answer :=
  answer (do
    if s.chip.pins.slathLocked = false then
      emit (.chip fun c => { c with pins := { c.pins with slathLocked := true } })
      if safeFrom s.mode then enterSafe 6 else startBoot) s

/-- OSC_TRIM (R15): once per second, while SLOW runs, the VBAT oscillator takes its trim. -/
def execOscTrim (trim : Int) (s : State) : Answer :=
  answer (do if s.mode ≠ mOFF then emit (.nv fun v => { v with oscTrim := trim })) s

/-- THERMAL_SHUTDOWN (R41): the junction has been above 110 °C for 10 ms. -/
def execThermalShutdown (s : State) : Answer :=
  answer (do
    if safeFrom s.mode then
      raise Ev.THERMAL_SHUTDOWN
      enterSafe 5) s

end Sys2Proof.Machine
end

