-- ==== Sys2Proof/Machine/Packages.lean ====
section
/-! DEFINITION. Ryurik packages (R412, R452, R513 to R515), the boot journal with the decisions it gives a start (R509 to R513), and the
ROM content of the dispatch tables (R450). -/

namespace Sys2Proof.Machine

/-! ### The format and the checks (R514, R515) -/

/-- Bytes 0 to 447 of a package, which its signature covers. -/
def packageHeader (p : Package) : List Byte :=
  leBytes 2 p.format ++ leBytes 2 p.hdrLen ++ leBytes 4 p.flags ++ leBytes 8 p.version ++ leBytes 4 p.secVersion ++ leBytes 1 p.stepping ++
  leBytes 1 p.keyIndex.val ++ leBytes 1 p.revoke ++ zeroBytes 1 ++ leBytes 4 p.payload.length ++ zeroBytes 4 ++ beBytes 16 p.iv.toNat ++
  digestBytes p.payloadDigest ++ digestBytes p.plainDigest ++
  ((List.range 8).flatMap (fun i =>
    let x := p.sections.getD i (0, 0, 0, 0)
    leBytes 2 x.1 ++ zeroBytes 2 ++ leBytes 4 x.2.1 ++ leBytes 4 x.2.2.1 ++ leBytes 4 x.2.2.2)) ++
  beBytes 64 p.signerKey.toNat ++ zeroBytes 144

/-- The package as its slot holds it. -/
def packageBytes (p : Package) : List Byte := packageHeader p ++ beBytes 64 p.signature.toNat ++ p.payload

/-- Bytes of one entry of a section, by KIND; the table entries are images of the 32-bit registers. -/
def sectionEntry (kind : Nat) : Nat := if kind = 1 then 24 else if kind = 5 then 16 else 4

/-- Entries of the table that a section fills. -/
def sectionRoom (kind : Nat) : Nat := if kind = 1 then 16384 else if kind = 4 then 512 else 256

/-- Whether a section lies within the payload and within its table (check 6). -/
def sectionOk (len : Nat) (x : Nat × Nat × Nat × Nat) : Bool :=
  x.1 == 0 || (decide (x.1 ≤ 5) && decide (x.2.2.2 + x.2.2.1 * sectionEntry x.1 ≤ len) &&
    (x.1 == 5 || decide (x.2.1 + x.2.2.1 ≤ sectionRoom x.1)))

/-- The payload once decrypted. -/
def packagePlain (p : Package) : List Byte := if bitAt p.flags 0 then Config.sm4Decrypt p.iv p.payload else p.payload

/-- The first of checks 1 to 6 that a package fails (R515). -/
def State.packageFails (s : State) (p : Package) : Option Nat :=
  if p.format ≠ 1 ∨ p.hdrLen ≠ 512 ∨ p.stepping ≠ 0xB0 ∨ p.zerosOk = false ∨ 4 ≤ p.flags ∨ 16 ≤ p.revoke ∨ 8 < p.sections.length ∨
      p.payload.length % 16 ≠ 0 ∨ 2 ^ 23 < 512 + p.payload.length then some 1
  else if sm3 (beBytes 64 p.signerKey.toNat) ≠ Config.packageKeyDigest p.keyIndex ∨ bitAt s.otp.revoked p.keyIndex.val then some 2
  else if Config.sm2Verify p.signerKey (packageHeader p) p.signature = false then some 3
  else if p.secVersion < s.otp.counter then some 4
  else if sm3 p.payload ≠ p.payloadDigest then some 5
  else if !p.sections.all (sectionOk p.payload.length) then some 6
  else none

/-- The check of PLAIN_DIGEST, after decryption: check 7. -/
def plainFails (p : Package) : Option Nat := if sm3 (packagePlain p) ≠ p.plainDigest then some 7 else none

/-- The first check that a package fails. -/
def State.packageFault (s : State) (p : Package) : Option Nat :=
  match s.packageFails p with
  | some n => some n
  | none => plainFails p

/-! ### What a package loads (R442, R450 to R452) -/

/-- The entries that sections of a KIND hold: index in the table, and the bytes. -/
def packageEntries (p : Package) (kind : Nat) : List (Nat × List Byte) :=
  (p.sections.filter (fun x => x.1 == kind)).flatMap (fun x =>
    (List.range x.2.2.1).map (fun i => (x.2.1 + i, ((packagePlain p).drop (x.2.2.2 + i * sectionEntry kind)).take (sectionEntry kind))))

/-- The policy defaults of a package (R405, R506). -/
def packagePolicy (p : Package) : List ((Nat × Nat) × Nat) :=
  (packageEntries p 5).map (fun e => ((ofLeBytes (e.2.take 2), ofLeBytes ((e.2.drop 2).take 2)), ofLeBytes ((e.2.drop 8).take 8)))

/-- Opcodes that carry the bound of 2 ms (R368). -/
def boundOpcodes : List Nat := [opREAD, opWRITE, opNOP, opQUERYS, opQUERYV, opEVENTS, opLOG, opGETP, opGETT, opSETT, opREGR, opREGW]

/-- The MODES field of an opcode. -/
def modesMask (op : Nat) : Nat := ((List.range 12).map (fun m => if served op m then 2 ^ m else 0)).sum

/-- The dispatch tables take the ROM's content (R450, R451). -/
def romTables : Act Unit := do
  forAll (List.range 256) (fun n => do
    let valid := opcodes.contains n
    setF (F.SEQ_DISPATCH_OP_ENTRY n) (if valid then (Config.romOpEntry n).toNat else 0)
    setF (F.SEQ_DISPATCH_OP_VALID n) valid.toNat
    setF (F.SEQ_DISPATCH_OP_ADMIN_ONLY n) (valid && !dataOpcodes.contains n).toNat
    setF (F.SEQ_DISPATCH_OP_MODES n) (if valid then modesMask n else 0)
    setF (F.SEQ_DISPATCH_OP_BOUND n) (boundOpcodes.contains n).toNat)
  forAll (List.range 512) (fun n => do
    let e := Config.romEventEntry n
    setF (F.SEQ_DISPATCH_EV_ENTRY n) e.2.2.toNat
    setF (F.SEQ_DISPATCH_EV_ENABLED n) e.1.toNat
    setF (F.SEQ_DISPATCH_EV_CLASS n) e.2.1.val)

/-- The overlay and dispatch tables take a package's entries over the ROM's (R452). -/
def loadTables (p : Package) : Act Unit := do
  romTables
  forAll (packageEntries p 2) (fun e => do
    let v := ofLeBytes e.2
    setF (F.SEQ_OVL_MATCH e.1) (v % 2 ^ 16)
    setF (F.SEQ_OVL_TARGET e.1) (v / 2 ^ 16))
  forAll (packageEntries p 3) (fun e => do
    let v := ofLeBytes e.2
    setF (F.SEQ_DISPATCH_OP_ENTRY e.1) (bitsOf v 0 16)
    setF (F.SEQ_DISPATCH_OP_VALID e.1) (bitsOf v 16 1)
    setF (F.SEQ_DISPATCH_OP_ADMIN_ONLY e.1) (bitsOf v 17 1)
    setF (F.SEQ_DISPATCH_OP_MODES e.1) (bitsOf v 18 12)
    setF (F.SEQ_DISPATCH_OP_BOUND e.1) (bitsOf v 30 1))
  forAll (packageEntries p 4) (fun e => do
    let v := ofLeBytes e.2
    setF (F.SEQ_DISPATCH_EV_ENTRY e.1) (bitsOf v 0 16)
    setF (F.SEQ_DISPATCH_EV_ENABLED e.1) (bitsOf v 16 1)
    setF (F.SEQ_DISPATCH_EV_CLASS e.1) (bitsOf v 17 2))

/-- A package is put in force from `source`: 1 slot A, 2 slot B, 3 the copy in DRAM (R452, R454). -/
def installPackage (p : Package) (slot source : Nat) : Act Unit := do
  let words := (packageEntries p 1).map (fun e => (0x8000 + e.1, BitVec.ofNat 192 (ofLeBytes e.2)))
  emit (.seqs fun q => { q with patch := words.filter (fun w => w.2 != 0) })
  loadTables p
  emit (.boot fun b => { b with slot := slot, pkg := some p })
  setF F.SEC_BOOT_STAT_SLOT slot
  setF F.SEC_PKG_VER_VER p.version
  setF F.SEQ_PATCH_VER_VER p.version
  setF F.SEQ_PATCH_STAT_SOURCE source
  setF F.SEQ_PATCH_STAT_RESULT 1
  setF F.SEQ_PATCH_STAT_WORDS words.length
  setF F.SEQ_PATCH_STAT_OVL_USED ((packageEntries p 2).filter (fun e => decide (0x8000 ≤ ofLeBytes e.2 / 2 ^ 16))).length
  raise Ev.PATCH_LOADED

/-- The part runs from ROM alone (R452). -/
def romOnly : Act Unit := do
  romTables
  emit (.seqs fun q => { q with patch := [] })
  forAll (List.range 256) (fun n => do
    setF (F.SEQ_OVL_MATCH n) 0
    setF (F.SEQ_OVL_TARGET n) 0)
  emit (.boot fun b => { b with slot := 0, pkg := none })
  setF F.SEC_BOOT_STAT_SLOT 0
  setF F.SEC_PKG_VER_VER 0
  setF F.SEQ_STAT_ROM_ONLY 1
  raise Ev.PATCH_ROM_ONLY
  degrade .romOnly

/-! ### The boot journal (R509, R513) -/

abbrev jSTART : Nat := 1
abbrev jSELECT : Nat := 2
abbrev jSTAGE : Nat := 3
abbrev jREJECT : Nat := 4
abbrev jEND : Nat := 5

/-- A slot's package, none when it is empty: 1 A, 2 B. -/
def State.slotPkg (s : State) (n : Nat) : Option Package := if n = 1 then s.nv.slotA else if n = 2 then s.nv.slotB else none

/-- Whether a slot holds a package that is not rejected. -/
def State.slotUsable (s : State) (n : Nat) : Bool := (s.slotPkg n).isSome && !bitAt s.nv.rejected (n - 1)

/-- The journal with a record appended: before a sector is written into, the oldest of the 16 sectors of 8 records is erased. -/
def appendJournal (l : List JournalRec) (r : JournalRec) : List JournalRec := (if 128 ≤ l.length then l.drop 8 else l) ++ [r]

/-- SEC_SLOT_STAT follows the slots in force. -/
def showSlots : Act Unit := do
  let s ← rd
  setF F.SEC_SLOT_STAT_ACTIVE s.nv.active
  setF F.SEC_SLOT_STAT_STAGED s.nv.staged
  setF F.SEC_SLOT_STAT_REJECTED s.nv.rejected

/-- Appends a record other than a START (R509). -/
def journal (kind slot : Nat) (digest : Digest) : Act Unit := do
  let s ← rd
  let r : JournalRec := { kind := kind, slot := slot, startNum := s.nv.startNum, time := s.timeStamp, cause := s.boot.cause
                          active := s.nv.active, staged := s.nv.staged, rejected := s.nv.rejected
                          version := ((s.slotPkg slot).map Package.version).getD 0, digest := digest }
  emit (.nv fun v => { v with journal := appendJournal v.journal r })
  showSlots

/-- The bytes of a record's header (R509). -/
def JournalRec.header (r : JournalRec) : List Byte :=
  withCrc (leBytes 2 1 ++ leBytes 1 r.kind ++ leBytes 1 r.slot ++ leBytes 4 r.startNum ++ leBytes 8 r.time ++ leBytes 1 r.cause ++
    leBytes 1 r.active ++ leBytes 1 r.staged ++ leBytes 1 r.rejected ++ leBytes 8 r.version ++
    (if r.kind = jSTAGE then digestBytes r.digest else zeroBytes 32))

/-- A step entry of a START record (R509). -/
def StepEntry.bytes (e : StepEntry) : List Byte :=
  let b := leBytes 1 e.step ++ leBytes 1 e.state ++ leBytes 1 e.fail ++ leBytes 1 e.alt ++ leBytes 1 e.skip ++ zeroBytes 1 ++
    leBytes 2 e.event ++ leBytes 4 e.duration ++ zeroBytes 3
  b ++ leBytes 1 (crc8 (8 * b.length) (ofLeBytes b.reverse) 0)

/-- The 512 bytes of a record; an entry that is not written reads as 0xFF. -/
def JournalRec.bytes (r : JournalRec) : List Byte :=
  r.header ++
  (if r.kind = jSTART then
    ((List.range 24).flatMap (fun k =>
      match r.entries.find? (fun e => e.step == k + 1) with
      | some e => e.bytes
      | none => List.replicate 16 0xFF)) ++ zeroBytes 64
  else zeroBytes 448)

/-! ### Decisions (R510, R511, R513) -/

/-- Steps without an alternate that another start could take (R506). -/
def noAlternate : List Nat := [1, 2, 3, 4, 5, 7, 16, 21, 24]

/-- The elements of a step, as a mask (R506, R565). -/
def State.elements (s : State) (k : Nat) : Nat :=
  if k = 13 then (if s.get F.DRM_STAT_CONFIG = 1 then 1 else 3)
  else if k = 14 then 3
  else if k = 17 then s.nv.channels
  else if k = 22 then s.nv.bays
  else 1

/-- The entry of a step that its start left unwritten, as R510 counts it. -/
def State.unwritten (s : State) (r : JournalRec) (k : Nat) : StepEntry :=
  let all := s.elements k
  let skip := (r.assigned.lookup (32 + k)).getD 0 &&& all
  { step := k, state := 1, fail := all ^^^ skip, alt := (r.assigned.lookup k).getD 0 &&& (all ^^^ skip), skip := skip, event := 0xFFFF
    duration := 0 }

/-- The latest valid entry of a step in the START records given, newest first; `next` is the cause of the start that followed. -/
def State.entryFrom (s : State) (k : Nat) : Nat → List JournalRec → Option StepEntry
  | _, [] => none
  | next, r :: l =>
    match r.entries.find? (fun e => e.step == k) with
    | some e => some e
    | none =>
      let ended : Bool := k == r.entries.length + 1
      let fails : Bool := (r.entries.getLast?.map StepEntry.fail).getD 0 != 0
      if ended ∧ (next = 5 ∨ (next = 2 ∧ fails = false)) then some (s.unwritten r k) else s.entryFrom k r.cause l

/-- Earlier START records, newest first. -/
def State.starts (s : State) : List JournalRec := (s.nv.journal.filter (fun r => r.kind == jSTART)).reverse

/-- The choice of R511 for an element: 0 primary, 1 alternate, 2 skipped. -/
def choice (e : Option StepEntry) (bit : Nat) : Nat :=
  match e with
  | none => 0
  | some e =>
    if bitAt e.skip bit ∨ (bitAt e.fail bit ∧ bitAt e.alt bit) then 2
    else if bitAt e.fail bit ∨ bitAt e.alt bit then 1
    else 0

/-- How each element of a step runs on this start: the masks of alternates and of skipped elements. -/
def State.planStep (s : State) (k : Nat) : Nat × Nat :=
  if s.boot.cause = 0 ∨ noAlternate.contains k then (0, 0)
  else if 8 ≤ k ∧ k ≤ 10 then
    if s.boot.cause = 3 then (0, 0)
    else
      match max (choice (s.entryFrom 8 s.boot.cause s.starts) 0)
          (max (choice (s.entryFrom 9 s.boot.cause s.starts) 0) (choice (s.entryFrom 10 s.boot.cause s.starts) 0)) with
      | 0 => (0, 0)
      | 1 => (1, 0)
      | _ => (0, 1)
  else
    let e := s.entryFrom k s.boot.cause s.starts
    let bits := (List.range 8).filter (bitAt (s.elements k))
    let alt := ((bits.filter (fun b => choice e b == 1)).map (fun b => 2 ^ b)).sum
    let skip := ((bits.filter (fun b => choice e b == 2)).map (fun b => 2 ^ b)).sum
    if k = 17 ∨ k = 22 then (0, alt + skip) else (alt, skip)

/-- Whether steps 8 to 10 of a START record failed on their primary. -/
def State.packageFailed (s : State) (next : Nat) (r : JournalRec) : Bool :=
  [8, 9, 10].any (fun k => (s.entryFrom k next [r]).any (fun e => e.fail != 0 && e.alt == 0))

/-- The slot that the latest start whose failure calls for the alternate tried. -/
def State.failedSlot (s : State) : Nat → List JournalRec → Nat
  | _, [] => 0
  | next, r :: l => if s.packageFailed next r then r.slot else s.failedSlot r.cause l

/-- The slot of the primary of step 8; 0 when there is none (R513). -/
def State.primarySlot (s : State) : Nat :=
  if s.boot.cause = 3 ∧ s.slotUsable s.nv.staged then s.nv.staged
  else if s.slotUsable s.nv.active then s.nv.active
  else if s.nv.active ≠ 1 ∧ s.slotUsable 1 then 1
  else if s.nv.active ≠ 2 ∧ s.slotUsable 2 then 2
  else 0

/-- The slot of the alternate of step 8; 0 when there is none. -/
def State.alternateSlot (s : State) : Nat :=
  let n := s.failedSlot s.boot.cause s.starts
  if (n = 1 ∨ n = 2) ∧ s.slotUsable (3 - n) then 3 - n else 0

end Sys2Proof.Machine
end

