-- ==== Sys2Proof/Machine/Recovery.lean ====
section
/-! DEFINITION. What a start brings up (R506): DRAM training, the landing zone by initialisation, checkpoint or scan, the system area with
the strands and the lost-write report, the bays, the calibrated values. -/

namespace Sys2Proof.Machine

/-! ### DRAM (R471 to R474, R478) -/

/-- The widest of the runs that pass, the first of equal ones; none is wide that is empty (R472). -/
def widestRun (l : List (Int × Int)) : Int × Int := l.foldl (fun a r => if a.2 - a.1 < r.2 - r.1 then r else a) (0, -1)

/-- The steps of a run, both ends counted. -/
def runWidth (r : Int × Int) : Int := r.2 - r.1 + 1

/-- The midpoint of a run (R472). Between two steps it is the lower (DESIGN CHOICE, log 51). -/
def midpoint (r : Int × Int) : Int := (r.1 + r.2) / 2

/-- A lane whose widest passing run is narrower than 16/64 UI fails the training of its channel (R472). -/
def sweepNarrow (x : LaneSweep) : Bool :=
  decide (runWidth (widestRun x.reads) < 16) || decide (runWidth (widestRun x.writes) < 16)

/-- The delays and references that training finds for a channel are set (R472, R473). -/
def setDelays (c : Nat) (l : List LaneSweep) : Act Unit :=
  forAll (l.filter (fun x => x.channel.val == c)) (fun x => do
    let n := 256 * c + 128 * x.rank.val + x.lane.val
    setI (F.DRM_DELAY_RD n) (midpoint (widestRun x.reads))
    setI (F.DRM_DELAY_WR n) (midpoint (widestRun x.writes))
    setF (F.DRM_DELAY_VREF n) ((x.vref.1 + x.vref.2) / 2))

/-- The delays of the training record are loaded for a channel (R474). -/
def loadDelays (c : Nat) : Act Unit := do
  let s ← rd
  let l := (s.nv.training.map Prod.snd).getD []
  forAll (delayFields c) (fun f => setF f (tabGet l f.key 0))

/-- The retained-sample area (R21). -/
def retainedMiB : Nat := 256

/-- Step 13: channels `ok` run, of which `alt` by the training record; those of `skip` are unavailable. A wake whose pattern test fails trains
again, and DRAM content is lost (R478). The area for retained samples is reserved (R21), and the LFSR of
neighbour refresh seeded (R477). -/
def bringUpDram (config ok alt skip : Nat) (sweeps : List LaneSweep) : Act Unit := do
  let s ← rd
  setF F.DRM_STAT_CONFIG config
  setF F.DRM_STAT_CH_UP ok
  setF F.DRM_CTL_ENABLE (ok != 0).toNat
  emit (.dram fun d => { d with retained := if ok = 0 then 0 else retainedMiB, lfsr := Config.pnrSeed s.nv.startNum, neighbours := [], raa := [] })
  if s.boot.cause = 3 then pure ()
  else if s.boot.cause = 4 ∧ sweeps = [] then pure ()
  else
    if s.boot.cause = 4 then emit .wipe
    setF F.DRM_STAT_TRAIN (if ok = 0 then 3 else if alt = 0 then 1 else 2)
    forAll [0, 1] (fun c => do
      if bitAt ok c then
        if bitAt alt c then loadDelays c else setDelays c sweeps)
    if alt = 0 then saveTraining
  if alt ≠ 0 then raise Ev.DRM_TRAIN_FALLBACK
  forAll [0, 1] (fun c => do
    if bitAt skip c then
      raise Ev.DRM_CH_UNAVAILABLE 0 c
      degrade (.dramChannel c))

/-! ### The landing zone (R282, R284, R288, R294, R295, R302) -/

/-- Whether a LUN may come into service by its parameter page (R282). -/
def State.lunFits (s : State) (l : LunId) : Bool :=
  decide (4 * 16448 + 9 * s.get F.FLZ_ECC_CTL_T ≤ 4 * l.pageBytes) && decide (256 ≤ l.pagesPerBlock) && decide (l.pagesPerBlock ≤ 4096)

/-- The LUNs that come into service of those that answered: of one geometry, that of the lowest-numbered that fits. -/
def State.lunsInService (s : State) (channels : Nat) (l : List LunId) : List LunId :=
  let fit := l.filter (fun x => decide (x.lun < 256) && bitAt channels (x.lun / 32) && s.lunFits x && !s.nv.sys.failedLuns.contains x.lun)
  match fit with
  | [] => []
  | a :: r =>
    let g := r.foldl (fun x y => if y.lun < x.lun then y else x) a
    fit.filter (fun x => x.pageBytes == g.pageBytes && x.pagesPerBlock == g.pagesPerBlock && x.blocks == g.blocks)

/-- Step 17: flash channels `ok` are identified; a channel left out, and a LUN that does not fit, is unavailable. -/
def bringUpFlash (ok left : Nat) (l : List LunId) : Act Unit := do
  let s ← rd
  let luns := s.lunsInService ok l
  emit (.flash fun f => { f with luns := luns })
  setF F.FLZ_GEOM_LUNS luns.length
  setF F.FLZ_GEOM_PPB ((luns.head?.map LunId.pagesPerBlock).getD 0)
  forAll s.nv.sys.failedLuns (fun n => do
    let f := F.FLZ_LUN_FAILED_MASK (n / 32)
    setF f (setBit ((← rd).get f) (n % 32) true)
    degrade (.lun n))
  forAll (List.range 8) (fun c => do
    if bitAt left c then degrade (.channel c))
  forAll (l.filter (fun x => bitAt ok (x.lun / 32) && !luns.contains x && !s.nv.sys.failedLuns.contains x.lun)) (fun x => degrade (.lun x.lun))

/-- Erase blocks of the LUNs in service that have not been retired, in the order of their places. -/
def State.eraseBlocks (s : State) : List (Nat × Nat) :=
  let most := (s.flash.luns.map LunId.blocks).foldl max 0
  (List.range most).flatMap (fun e => (s.flash.luns.filter (fun l => decide (e < l.blocks) && !l.bad.contains e)).map (fun l => (l.lun, e)))
    |>.filter (fun m => !s.nv.sys.retired.contains m)

/-- The size of a LUN's spare pool at `pct` per cent of its erase blocks (R302). -/
def State.spareGoal (s : State) (pct lun : Nat) : Nat := (s.eraseBlocks.filter (fun m => m.1 == lun)).length * pct / 100

/-- The part of a pool that is kept as spares: SPARE_PCT per cent of each LUN's erase blocks (R302). -/
def State.sparesOf (s : State) (pool : List (Nat × Nat)) : List (Nat × Nat) :=
  s.flash.luns.flatMap (fun l => ((pool.filter (fun m => m.1 == l.lun)).reverse).take (s.spareGoal (s.get F.FLZ_CTL_SPARE_PCT) l.lun))

/-- FLZ_ECC_STAT shows the strengths recorded (R486). -/
def showStrength : Act Unit := do
  let s ← rd
  setF F.FLZ_ECC_STAT_T_PREV s.nv.sys.tPrev
  setF F.FLZ_ECC_STAT_SYS_T s.nv.sys.sysT

/-- FLZ_ECC_CTL.T comes into force at an enable (R486). -/
def applyStrength : Act Unit := do
  let s ← rd
  let t := s.get F.FLZ_ECC_CTL_T
  if s.nv.sys.t ≠ t then emit (.nv fun v => { v with sys := { v.sys with t := t, tPrev := v.sys.t } })
  showStrength

/-- SYS_T: the largest multiple of 32, up to 512, that pages of this size hold (R486). -/
def largestT (pageBytes : Nat) : Nat :=
  ((List.range 17).filter (fun n => decide (4 * 16448 + 9 * (32 * n) ≤ 4 * pageBytes))).foldl (fun a n => max a (32 * n)) 0

/-- Initialisation (R302): factory bad blocks are retired, the system area takes its landing blocks and their spares. -/
def initialiseZone : Act Unit := do
  let s ← rd
  let per := perChannel (s.flash.luns.map LunId.lun)
  let sys := layOut per 8 0 s.eraseBlocks []
  emit (.nv fun v => { v with sys := { v.sys with
    initialised := true, t := s.get F.FLZ_ECC_CTL_T, tPrev := 0, sysT := largestT ((s.flash.luns.head?.map LunId.pageBytes).getD 0)
    retired := s.flash.luns.flatMap (fun l => l.bad.map (fun e => (l.lun, e)))
    reserved := sys.1.flatMap LBlock.members ++ sys.2.take 16 } })

/-- The spare pools at a start: those recorded, and of LUNs that are new SPARE_PCT per cent of their erase blocks (R302, R309). -/
def State.startSpares (s : State) (pool : List (Nat × Nat)) : List (Nat × Nat) :=
  pool.filter s.nv.sys.spares.contains ++ (s.sparesOf pool).filter (fun m => !s.nv.sys.known.contains m.1)

/-- The blocks of the zone: those that hold pages, the spare pools, and FREE blocks of the rest of the erase blocks. -/
def buildBlocks (held : List LBlock) : Act Unit := do
  let s ← rd
  let taken := held.flatMap LBlock.members ++ s.nv.sys.reserved
  let pool := s.eraseBlocks.filter (fun m => !taken.contains m)
  let spares := s.startSpares pool
  let num := (held.map LBlock.num).foldl max 0 + 1
  let free := layOut (perChannel (s.flash.luns.map LunId.lun)) pool.length num (pool.filter (fun m => !spares.contains m)) []
  let first := s.nv.sys.known.isEmpty
  emit (.flash fun f => { f with
    blocks := held ++ free.1.map (fun b => { b with t := s.get F.FLZ_ECC_CTL_T }), spares := spares, loose := free.2
    spareInit := if first then spares.length else s.nv.sys.spareInit
    sparePct := if first then s.get F.FLZ_CTL_SPARE_PCT else s.nv.sys.sparePct, spareRise := 0 })
  emit (.nv fun v => { v with sys := { v.sys with known := (v.sys.known ++ s.flash.luns.map LunId.lun).eraseDups } })

/-- Erases that a loss of power interrupted count towards wear (R296). -/
def countInterrupted : Act Unit := do
  let s ← rd
  forAll (s.nv.sys.laid.filter (fun b => b.state == .erasing)) (fun b => forAll b.members countErase)

/-- Rebuilds that the last run has left resume: those of the failed LUNs that blocks still include (R305). -/
def resumeRebuilds : Act Unit := do
  let s ← rd
  let blocks := s.flash.blocks.filter (fun b => b.members.any (fun m => s.nv.sys.failedLuns.contains m.1))
  let luns := s.nv.sys.failedLuns.filter (fun n => blocks.any (fun b => b.members.any (fun m => m.1 == n)))
  match luns with
  | [] => pure ()
  | n :: _ =>
    emit (.flash fun f => { f with rebuilding := luns })
    setF F.FLZ_STAT_REBUILDING 1
    setF F.FLZ_REBUILD_LUN n
    setF F.FLZ_REBUILD_ACTIVE 1
    forAll blocks (fun b => copyBlock b.num none)
    showRebuild

/-- A change of SPARE_PCT comes into force at an enable (R302): a fall returns unused spares, as FREE blocks, and a rise is met as blocks
become FREE. -/
def applySpares : Act Unit := do
  let s ← rd
  let old := s.flash.sparePct
  let new := s.get F.FLZ_CTL_SPARE_PCT
  let back := s.flash.luns.flatMap (fun l =>
    (s.flash.spares.filter (fun m => m.1 == l.lun)).take (s.spareGoal old l.lun - s.spareGoal new l.lun))
  emit (.flash fun f => { f with
    spares := f.spares.filter (fun m => !back.contains m), loose := f.loose ++ back, sparePct := new
    spareRise := (f.luns.map (fun l => s.spareGoal new l.lun - s.spareGoal old l.lun)).sum })
  formBlocks

/-- A block as a scan finds it (R295): closed once its last data row has counted, and otherwise left with what counts of it. -/
def LBlock.scanned (b : LBlock) : LBlock :=
  { b with state := .closed, closing := false }

/-- The map that a scan gives (R293, R295, R318): the last map image, the map log over it, and a WRITTEN bit for every sector of a page that
counts and that no later entry of the map log has dealt with. -/
def State.scanMap (s : State) : List Extent :=
  let put (l : List Extent) (e : Extent) : List Extent := l.filter (fun x => !(x.vol == e.vol && x.ext == e.ext)) ++ [e]
  let base := s.nv.sys.mapLog.foldl put s.nv.sys.checkpoint.extents
  let found := (s.nv.sys.pages.filter (fun p => s.rowCounts p.lblock p.row)).flatMap Page.slots
  found.foldl (fun l x =>
    let e := (l.find? (fun e => e.vol == x.vol && e.ext == extentOf x.lsa)).getD { vol := x.vol, ext := extentOf x.lsa }
    if s.volumes.any (fun v => v.num == x.vol && decide (v.createSeq < x.ver)) ∧ e.logSeq ≤ x.ver then
      put l { e with written := e.written ||| (1 <<< (x.lsa % 256)) }
    else l) base

/-- Step 18 (R294, R295): initialisation of a zone that holds no system area, the checkpoint when the last record is CLEAN, else a scan;
then the OPEN record. -/
def bringUpZone (scan : Bool) (ms : Nat) : Act Unit := do
  let s ← rd
  let fresh : Bool := !s.nv.sys.initialised
  let clean : Bool := s.nv.sys.clean && !scan
  emit (.boot fun b => { b with initialised := fresh, unclean := s.nv.sys.initialised && !s.nv.sys.clean })
  if fresh then
    initialiseZone
    buildBlocks []
  else
    emit (.extents fun _ => if clean then s.nv.sys.checkpoint.extents else s.scanMap)
    buildBlocks (if clean then s.nv.sys.checkpoint.blocks.filter (fun b => b.state != .free) else s.nv.sys.laid.map LBlock.scanned)
    if clean = false then
      raise Ev.FLZ_SCAN_REBUILD
      countInterrupted
  emit (.nv fun v => { v with sys := { v.sys with clean := false } })
  setF F.FLZ_START_STAT_SOURCE (if fresh then 2 else if clean then 0 else 1)
  setF F.FLZ_START_STAT_TIME_MS ms
  setF F.FLZ_CTL_ENABLE 1
  applyStrength
  applySpares
  if s.nv.sys.frozen then
    if (← rd).flash.spares.isEmpty then
      setF F.FLZ_STAT_STATE zFROZEN
      degrade .frozen
    else emit (.nv fun v => { v with sys := { v.sys with frozen := false } })
  resumeRebuilds
  settleBlocks

/-! ### The strands after an unclean start (R551 to R553) -/

/-- The sectors of a strand that counted pages hold, as SEQ and data. -/
def State.foundOf (s : State) (n : Nat) : List (Nat × Bool × Sector) :=
  let l := (s.nv.sys.pages.filter (fun p => s.rowCounts p.lblock p.row)).flatMap (fun p =>
    (p.slots.filter (fun x => x.strand == n)).map (fun x => (x.ver, x.poison, x.data)))
  (l.mergeSort (fun a b => decide (a.1 ≤ b.1))).foldr (fun x acc =>
    match acc with
    | [] => [x]
    | y :: r => if x.1 = y.1 then y :: r else x :: y :: r) []

/-- The sectors of a strand in a range of SEQ that are found: in counted pages, or on disc in its volume and in no other strand's pages
(R552). -/
def State.foundIn (s : State) (t : Strand) (lo hi : Nat) : Nat :=
  let inRange (v : Nat) : Bool := decide (lo ≤ v) && decide (v ≤ hi)
  let pages := (s.foundOf t.num).map (fun x => x.1)
  let other := (s.nv.sys.pages.flatMap Page.slots).filterMap (fun x => if x.strand = t.num then none else some x.ver)
  let disc := (s.extents.filter (fun e => e.vol == t.vol)).flatMap (fun e => e.onDisc.map (fun x => x.2))
  ((pages ++ disc.filter (fun v => !other.contains v)).filter inRange).eraseDups.length

/-- The digest of a strand is extended over what the scan finds after the logged SEQ (R552). -/
def State.reextend (s : State) (t : Strand) : Strand :=
  let l := (s.foundOf t.num).filter (fun x => decide (t.loggedSeq < x.1))
  let digested := t.digest.blocks / 64
  let u := l.foldl (fun (t : Strand) x =>
    { t with digest := t.digest.addSector x.2.2, digestPoisoned := t.digestPoisoned || x.2.1, digestSeq := x.1
             firstSeq := if t.firstSeq = 0 then x.1 else t.firstSeq, lastSeq := max t.lastSeq x.1 }) t
  { u with sectors := max t.sectors (digested + l.length), incomplete := t.incomplete || decide (l.length + digested < t.sectors)
           dirty := true }

/-- What the power-fail record, or without one the strand log, tells of a strand's losses (R552, R553). -/
def State.lossOf (s : State) (t : Strand) : Option LostEntry :=
  let closing := if t.state = .closing then 4 else 0
  match s.nv.sys.powerFail with
  | some r =>
    match r.entries.find? (fun e => e.strand == t.num) with
    | none => none
    | some e =>
      let found := s.foundIn t e.lowSeq e.highSeq
      if found < e.atRisk then
        some { strand := t.num, vol := t.vol, flags := 2 + closing, durable := e.lowSeq - 1, firstLost := e.lowSeq
               lost := some (e.atRisk - found), high := e.highSeq, atRisk := e.atRisk }
      else none
  | none =>
    if t.loggedDurable < t.lastSeq then
      some { strand := t.num, vol := t.vol, flags := 1 + 2 * t.incomplete.toNat + closing, durable := t.loggedDurable
             firstLost := t.loggedDurable + 1, lost := none, high := 0, atRisk := 0 }
    else none

/-- A strand takes its loss: DURABLE_SEQ and FIRST_LOST_SEQ, and a deferred error (R352, R380). -/
def Strand.lose (t : Strand) (e : LostEntry) : Strand :=
  { t with durableCap := some e.durable, firstLost := e.firstLost, lost := e.lost.getD (2 ^ 64 - 1)
           incomplete := t.incomplete || e.lost.isSome, deferred := true, dirty := true }

/-- The strands of the last checkpoint with the strand log over them. -/
def SysArea.strands (a : SysArea) : List Strand :=
  a.checkpoint.strands.filter (fun t => !a.strandLog.any (fun x => x.num == t.num)) ++ a.strandLog

/-- Strands, deferred errors and the lost-write report (R552, R553). -/
def recoverStrands : Act Unit := do
  let s ← rd
  let l := s.nv.sys.strands
  emit (.deferred fun _ => s.nv.sys.deferred)
  if s.boot.unclean = false then emit (.strands fun _ => l)
  else
    let l := l.map s.reextend
    let lost := l.filterMap s.lossOf
    emit (.strands fun _ => l.map (fun t =>
      match lost.find? (fun e => e.strand == t.num) with
      | some e => t.lose e
      | none => t))
    let r := s.nv.sys.powerFail
    let seen := (l.map Strand.lastSeq ++ (s.nv.sys.pages.flatMap Page.slots).map Stored.ver).foldl max 0
    emit (.lost fun _ => { flags := 1 + 2 * r.isSome.toNat + 4 * ((r.map PowerFail.frozen).getD s.nv.sys.frozen).toNat
                           startNum := s.nv.startNum, lossTime := (r.map PowerFail.time).getD 0
                           seqIssued := (r.map PowerFail.seqIssued).getD seen, entries := lost })
    setF F.LIF_STAT_PF_RECORD r.isSome.toNat
    emit (.nv fun v => { v with sys := { v.sys with powerFail := none } })
    attend none

/-- The register fields of the life record that a start loads again: not those that the wiring checks and training of the start find
anew, and not the positions (R160, R180, R247). -/
def countFields : List Fld :=
  (List.range 8).flatMap (fun k => (opuLife k).take 4 ++ [F.MOT_REV_CNT_CNT k, F.MOT_WIRING_INDEX_OFS k, F.MOT_WIRING_OFS_VALID k]) ++
  (List.range 16).map F.STP_STEP_CNT_CNT ++ (List.range 32).map F.RCH_IN_CTL_POL_INV ++
  [F.FLZ_PROG_CNT_CNT, F.FLZ_ERASE_CNT_CNT, F.FLZ_BAD_CNT_CNT, F.DRM_ECC_CNT_CNT] ++ (List.range 4).map F.DRM_DEV_FAILED_MASK

/-- The life record is loaded (R556, R557). -/
def loadLife : Act Unit := do
  let s ← rd
  let r := s.nv.sys.life
  emit (.life fun l => { r with powerOnAt := l.powerOnAt, starts := r.starts + 1, unclean := r.unclean + s.boot.unclean.toNat })
  forAll countFields (fun f => setF f (tabGet r.counters f.key 0))
  forAll [0, 1, 2, 3] (fun n => forAll (List.range 20) (fun d => do
    if bitAt ((← rd).get (F.DRM_DEV_FAILED_MASK n)) d then
      setF F.DRM_STAT_ERASURE 1
      degrade (.dramDevice (20 * n + d))))

/-- Step 19 (R292, R314): the sequence grant, the disc table, strands and deferred errors, the life record. Only ACTIVATE keeps the bay of
a disc. -/
def bringUpSystem : Act Unit := do
  let s ← rd
  emit .resumeGrants
  emit (.discs fun l => l.map (fun d =>
    { d with bay := if s.boot.cause = 3 then d.bay else none
             bands := d.bands.map (fun b => { b with pending := [], kept := [], dirPassed := false, range := none }) }))
  recoverStrands
  loadLife

/-! ### The bays (R96, R135, R180, R245, R558) -/

/-- The constants region of an OPU's EEPROM, 4,096 bytes with their CRC-32 (R558). Fields that a list lacks are zero. -/
def Eeprom.constants (e : Eeprom) : List Byte :=
  let each (n : Nat) (f : Nat → List Byte) : List Byte := (List.range n).flatMap f
  let body := leBytes 2 1 ++ (e.serial ++ zeroBytes 16).take 16 ++ each 4 (fun i => leBytes 2 (e.actLim.getD i 0)) ++
    leBytes 2 e.laserMax ++ leBytes 2 e.readMax ++ leBytes 2 e.driveCode ++ leBytes 2 e.driveFront ++ leBytes 2 e.trimWin ++ leBytes 2 e.homeOfs ++
    leBytes 1 e.inhibitTemp ++ zeroBytes 1 ++ each 4 (fun i => leBytes 2 (e.hop.getD i 0)) ++ leBytes 2 e.kick ++
    each 64 (fun i => let x := e.jumps.getD i (0, 0); leBytes 2 x.1 ++ leBytes 2 x.2) ++
    each 8 (fun l =>
      let x := e.layers.getD l (0, 0)
      let y := e.lrefs.getD l (0, 0)
      leBytes 2 x.1 ++ leBytes 2 x.2 ++ leBytes 2 y.1 ++ leBytes 2 y.2) ++
    each 8 (fun l => leBytes 2 (e.rdpwr.getD l 0)) ++
    each 8 (fun l =>
      let x := e.levels.getD l (0, 0, 0, 0)
      leBytes 2 x.1 ++ leBytes 2 x.2.1 ++ leBytes 2 x.2.2.1 ++ leBytes 2 x.2.2.2) ++
    each 8 (fun l => let x := e.strategy.getD l (0, 0); leBytes 3 x.1 ++ leBytes 3 x.2 ++ zeroBytes 2)
  let whole := (body ++ zeroBytes 0xFFC).take 0xFFC
  whole ++ leBytes 4 (crc32 whole).toNat

/-- The OPU's constants go from its EEPROM to their registers (R558). -/
def loadEeprom (k : Fin 8) : Act Unit := do
  let s ← rd
  let e := s.nv.eeproms[k]
  setF (F.BAY_ACT_LIM_0_FOCUS k.val) (e.actLim.getD 0 0)
  setF (F.BAY_ACT_LIM_0_TRACKING k.val) (e.actLim.getD 1 0)
  setF (F.BAY_ACT_LIM_1_TILT k.val) (e.actLim.getD 2 0)
  setF (F.BAY_ACT_LIM_1_SA k.val) (e.actLim.getD 3 0)
  setF (F.BAY_LASER_LIM_MAX k.val) e.laserMax
  setF (F.BAY_LASER_LIM_READ_MAX k.val) e.readMax
  setF (F.STP_HOME_OFS_OFS (sledOf k).val) e.homeOfs
  forAll (List.range 8) (fun l => do
    let layer := e.layers.getD l (0, 0)
    let lref := e.lrefs.getD l (0, 0)
    let lvl := e.levels.getD l (0, 0, 0, 0)
    setF (F.BAY_LAYER_SA k.val l) layer.1
    setF (F.BAY_LAYER_TILT k.val l) layer.2
    setF (F.BAY_LREF_CENTRE k.val l) lref.1
    setF (F.BAY_LREF_SIDE k.val l) lref.2
    setF (F.BAY_RDPWR_READ k.val l) (e.rdpwr.getD l 0)
    setF (F.WRP_LVL_A_SPACE k.val l) lvl.1
    setF (F.WRP_LVL_A_MARK k.val l) lvl.2.1
    setF (F.WRP_LVL_B_COOL k.val l) lvl.2.2.1
    setF (F.WRP_LVL_B_MEAN k.val l) lvl.2.2.2
    match e.strategy[l]? with
    | some x =>
      setF (F.WRP_STRAT_LEAD_LEAD k.val l) x.1
      setF (F.WRP_STRAT_TRAIL_TRAIL k.val l) x.2
    | none => pure ())

/-- A row of the slot assignment (R96, R135): RATE, sections, input, set-point source, destination kind and DAC, actions, and the
following-error limits and time. -/
structure SlotRow where
  rate : Nat
  sections : Nat
  input : Nat
  sp : Nat := 0
  kind : Nat := 0
  dac : Nat := 0
  act : Nat := 0
  phase : Nat := 0
  /-- The region sources, and the entries of regions 1 onwards. -/
  sel : Nat := 0
  gsets : List Nat := []
  warn : Nat := 0x7FFFFFFF
  lim : Nat := 0x7FFFFFFF
  time : Nat := 0
  bump : Nat := 0
deriving DecidableEq, Repr

/-- The assignment of local slot `k` of the slots from `base` (R96). -/
def slotRow (base k : Nat) : Option SlotRow :=
  if k < 2 then some { rate := 3, sections := 2, input := 0x13 }
  else if k < 4 then some { rate := 0, sections := 4, input := 0x10, kind := 1, act := 0b01001, warn := 0x20000000, lim := 0x40000000
                            time := 8 }
  else if k < 6 then some { rate := 0, sections := 4, input := 0x11, sp := 0x40 + base + k - 4, kind := 1, dac := 1, act := 0b00001, sel := 12 + 32 * 8 + 1024 * 10
                            gsets := [1, 2, 2, 0x10, 0x10, 0x10, 0x10]
                            warn := 0x13333333, lim := 0x26666666, time := 4 }
  else if k < 8 then some { rate := 1, sections := 2, input := 0x40 + base + k - 2, kind := 5, act := 0b00001, warn := 0x40000000
                            lim := 0x66666666, time := 4883 }
  else if k < 10 then some { rate := 2, sections := 1, input := 0x16, kind := 1, dac := 2, sel := 9, gsets := [1], warn := 0x40000000, bump := 1 }
  else if k < 12 then some { rate := 2, sections := 1, input := 0x17, kind := 1, dac := 3, sel := 9, gsets := [1], warn := 0x40000000, bump := 1 }
  else if k < 14 then some { rate := 1, sections := 2, input := 0x09, sp := 0x22, kind := 2, act := 0b00101, warn := 0x06666666
                             lim := 0x0CCCCCCD, time := 8 }
  else if k = 14 then some { rate := 1, sections := 1, input := 0x18, kind := 3, phase := 6, act := 0b10100 }
  else if k = 15 then some { rate := 1, sections := 1, input := 0x19, sp := 0x40 + base + 16, kind := 4, phase := 6, act := 0b10100 }
  else if k = 16 then some { rate := 3, sections := 2, input := 0x14, act := 0b10000 }
  else if k = 17 then some { rate := 1, sections := 1, input := 0x18, kind := 3, phase := 6, act := 0b00100 }
  else if k = 18 then some { rate := 1, sections := 1, input := 0x19, sp := 0x40 + base + 19, kind := 4, phase := 6, act := 0b00100 }
  else if k = 19 then some { rate := 2, sections := 2, input := 0x1A, act := 0b00100 }
  else if k < 22 then some { rate := 2, sections := 2, input := 0x20, kind := 5 }
  else none

/-- OWNER of local slot `k` of bay β of an engine (R96, R113). -/
def slotOwnerCode (beta k : Nat) : Nat :=
  if k = 6 ∨ k = 7 then 8 + 4 * beta + (k - 6)
  else if k < 14 then 2 * beta + k % 2
  else if k < 17 then 4 + beta
  else if k < 20 then 6 + beta
  else 8 + 4 * beta + (k - 18)

/-- The slots of a bay are assigned and enabled (R96, R123, R135, R147). Source 12 selects gain set 1 and source 8 gain set 2 of the tracking slots
(R129, R131), source 10 an FF_ONLY entry without feed-forward (R177), source 9 gain set 1 of the tilt and SA slots (R123); the numbers are a DESIGN CHOICE, assumption log 66. -/
def assignSlots (b : Fin 4) : Act Unit := do
  let e := engineOfBay b
  let base := baySlot b 0
  forAll (List.range 22) (fun k => do
    match slotRow base k with
    | none => pure ()
    | some r =>
      let j := base + k
      setF (F.SRV_SLOT_SRC_IN e.val j) r.input
      setF (F.SRV_SLOT_SRC_SP e.val j) r.sp
      setF (F.SRV_SLOT_SRC_OWNER e.val j) (slotOwnerCode (b.val % 2) k)
      setF (F.SRV_SLOT_DEST_KIND e.val j) r.kind
      setF (F.SRV_SLOT_DEST_DAC e.val j) r.dac
      setF (F.SRV_FE_WARN_LIM e.val j) r.warn
      setF (F.SRV_FE_LIM_LIM e.val j) r.lim
      setF (F.SRV_FE_CTL_TIME e.val j) r.time
      setF (F.SRV_FE_CTL_ACT e.val j) r.act
      setF (F.SRV_SLOT_CTL_RATE e.val j) r.rate
      setF (F.SRV_SLOT_CTL_PHASE e.val j) r.phase
      setF (F.SRV_REGION_SEL_SEL e.val j) r.sel
      forAll (List.range r.gsets.length) (fun i => setF (F.SRV_REGION_TBL_ENTRY e.val j (i + 1)) (r.gsets.getD i 0))
      setF (F.SRV_SLOT_CTL_N_SEC e.val j) r.sections
      setF (F.SRV_SLOT_CTL_BUMP e.val j) r.bump
      enableSlot e j)

/-- The sensors of a bay are read: a bay with a clamped disc is LOADED, one without EMPTY (R46, R573); a FAULTED one stays so (R48). -/
def readSensors (b : Fin 4) (x : BaySensors) : Act Unit := do
  setF (F.BAY_STAT_DISC_PRESENT b.val) x.disc.toNat
  setF (F.BAY_STAT_TRAY_CLOSED b.val) x.trayClosed.toNat
  setF (F.BAY_STAT_CLAMPED b.val) x.clamped.toNat
  setF (F.BAY_STAT_DOOR_CLOSED b.val) x.doorClosed.toNat
  emit (.bay b fun y => { y with samples := [x, x, x] })
  if (← rd).bayState b.val ≠ bFAULTED then setBay b (if x.disc ∧ x.clamped then bLOADED else bEMPTY)

/-- The motors of a bay: MOT_MODEL of the policy, and ENABLE with the average of the shunt offset, which no report gives (R164, R405). -/
def enableMotors (b : Fin 4) : Act Unit :=
  forAll [spindleOf b, shuttleOf b] (fun k => do
    let s ← rd
    let m := s.policy pMOT_MODEL k.val
    setF (F.MOT_MODEL_RES k.val) (m % 2 ^ 16)
    setF (F.MOT_MODEL_IND k.val) (m / 2 ^ 16)
    let ofs ← freeValue 14
    writeMotEnable k true [(ofs : Int)])

/-- The axes of a bay (R179, R180): each takes its position from the life record when the last stop was clean and the position is that of its end stop,
where parking ends, or runs HOME; the auxiliary axis homes before its first move. -/
def homeAxes (b : Fin 4) : Act Unit :=
  forAll [0, 1, 2, 3] (fun n => do
    let a := axisOf b n
    let s ← rd
    setF (F.STP_CTL_ENABLE a.val) 1
    if s.boot.unclean ∨ s.boot.initialised ∨ tabGet s.nv.sys.life.counters (F.STP_POS_POS a.val).key 0 ≠ 0 then homeAxis a
    else
      setI (F.STP_POS_POS a.val) 0
      emit (.axis a fun x => { x with start := 0, frac := 0 })
      if n.val ≠ 3 then setF (F.STP_STAT_HOMED a.val) 1)

/-- Step 22 for one bay. -/
def bringUpBay (b : Fin 4) (x : BaySensors) : Act Unit := do
  let s ← rd
  forAll (opusOf b) (fun k => do
    if s.opuFitted k then
      loadEeprom k
      setF (F.BAY_OPT_CTL_ENABLE k.val) 1
      setF (F.WRP_CTL_ENABLE k.val) 1)
  assignSlots b
  enableMotors b
  readSensors b x
  forAll (opusOf b) (fun k => do
    if s.opuFitted k then
      trainLink k)
  homeAxes b

/-- A bay is left out of service (R506, R511). -/
def leaveBay (b : Fin 4) : Act Unit := do
  setF (F.BAY_STAT_UNAVAILABLE b.val) 1
  degrade (.bay b.val)

/-! ### Lanes, decoders and calibrated values (R205, R269, R506) -/

/-- Step 21: the tests, then lane n is bound to input n; the input of a lane that fails takes the lowest-numbered spare, where there is one
(R205, R207, R209). -/
def bringUpLanes (lanes decoders outers : List Nat) : Act Unit := do
  setF F.LDP_CTL_ENABLE 1
  forAll (List.range 32) (fun i => setF (F.RCH_IN_CTL_ENABLE i) 1)
  forAll (List.finRange 36) (fun n => do if lanes.contains n.val then failLane n 3)
  forAll (List.finRange 36) (fun n => do
    if n.val < 32 then
      if lanes.contains n.val then
        let s ← rd
        match (List.finRange 36).find? (fun m => decide (32 ≤ m.val) && !lanes.contains m.val && s.get (F.RCH_LANE_BIND_ENABLE m.val) == 0) with
        | some m =>
          bindLane m n.val
          takeover m
        | none => sparesGone (Fin.ofNat 32 n.val)
      else bindLane n n.val)
  forAll decoders (fun j => do
    if j < 16 then
      setF F.LDP_STAT_DEC_FAILED (setBit ((← rd).get F.LDP_STAT_DEC_FAILED) j true)
      degrade (.decoder j))
  forAll outers (fun j => do
    if j < 4 then
      setF F.LDP_STAT_OUTER_FAILED (setBit ((← rd).get F.LDP_STAT_OUTER_FAILED) j true)
      degrade (.outer j))

/-- Step 23: the last results and their values come from the life record (R269). The schedule of every calibration begins anew (R271). -/
def restoreCalibration : Act Unit := do
  let s ← rd
  let r := s.nv.sys.life
  emit (.cal fun c => { c with results := r.calResults, marks := r.calMarks, kappas := r.calKappas, done := [], nominal := [] })
  forAll (List.range 12) (fun n =>
    match (r.calResults.filter (fun x => x.1 == n)).head? with
    | none => pure ()
    | some x => do
      setF (F.CAL_LAST_TIME n) x.2.2.2
      setF (F.CAL_LAST_ELEM_ELEMENT n) x.2.1
      setF (F.CAL_LAST_ELEM_RESULT n) x.2.2.1)
  forAll r.calResults (fun x => forAll (calElementFields x.1 x.2.1) (fun f =>
    match r.calValues.lookup f.key with
    | some v => setF f v
    | none => pure ()))

end Sys2Proof.Machine
end

