-- ==== Sys2Proof/Machine/Boot.lean ====
section
/-! DEFINITION. The starts of the part (R30, R43, R506 to R517, R567 to R571): supplies and resets, the 24 boot steps with what follows
when one fails, and the wake from RETENTION. -/

namespace Sys2Proof.Machine

/-! ### Supplies and resets (R30, R43, R567, R569, R571) -/

/-- SUPPLIES_WITHIN_LIMITS (R567): OFF is left for RESET. -/
def execSuppliesWithinLimits (s : State) : Answer :=
  answer (do
    if s.mode = mOFF then
      enterReset mRESET 0
      emit (.chip fun c => { c with pins := { c.pins with supplies := true, resetN := false, brownOut := false, hot := false } })) s

/-- SUPPLIES_REMOVED (R30). -/
def execSuppliesRemoved (s : State) : Answer :=
  answer (do
    enterReset mOFF 0
    emit (.chip fun c => { c with pins := { c.pins with supplies := false, slathLocked := false } })) s

/-- RAIL_BROWN_OUT (R569): an internal reset, held while the rails are out of tolerance; the next start is a power-on. -/
def execRailBrownOut (s : State) : Answer :=
  answer (do
    if s.mode ≠ mOFF then
      enterReset mRESET 0
      emit (.chip fun c => { c with pins := { c.pins with brownOut := true } })) s

/-- JUNCTION_OVER_120 (R571): the part is held in RESET as for a brown-out. -/
def execJunctionOver120 (s : State) : Answer :=
  answer (do
    if s.mode ≠ mOFF then
      enterReset mRESET 0
      emit (.chip fun c => { c with pins := { c.pins with hot := true } })) s

/-- RESET_N_ASSERTED (R30, R32, R43): the part enters RESET from any mode but OFF. A start from RESET keeps the cause that took the part
there. -/
def execResetNAsserted (s : State) : Answer :=
  answer (do
    if s.mode ≠ mOFF then enterReset mRESET (if s.mode = mRESET then s.boot.cause else 1)
    emit (.chip fun c => { c with pins := { c.pins with resetN := false } })) s

/-- RESET_N_RELEASED (R30, R437): with the reference present and SLATH locked the part starts; the strapping pins give the SMBus address. -/
def execResetNReleased (reference locked : Bool) (straps : Fin 4) (s : State) : Answer :=
  answer (do
    if s.mode ≠ mOFF then
      emit (.chip fun c => { c with pins := { c.pins with resetN := true, slathLocked := reference && locked, smbAddr := straps.val } })
      startBoot) s

/-- BROWN_OUT_RELEASE (R569): the rails have been within tolerance for 10 ms. -/
def execBrownOutRelease (s : State) : Answer :=
  answer (do
    emit (.chip fun c => { c with pins := { c.pins with brownOut := false } })
    startBoot) s

/-- JUNCTION_BELOW_100 (R571). -/
def execJunctionBelow100 (s : State) : Answer :=
  answer (do
    emit (.chip fun c => { c with pins := { c.pins with hot := false } })
    startBoot) s

/-! ### The actions of BOOT and LOAD (R506) -/

/-- Steps 8 to 10 and 20 are skipped on this start (R506, step 5). -/
def skipPackage (steps : List Nat) : Act Unit :=
  emit (.boot fun b => { b with skipPlan := steps.map (fun k => (k, 1)) ++ b.skipPlan.filter (fun x => !steps.contains x.1) })

/-- The slot that steps 8 to 10 are to try: without one they are skipped without failing (R513). -/
def chooseSlot : Act Unit := do
  let s ← rd
  let alt : Bool := (s.boot.altPlan.lookup 8).getD 0 == 1
  let n := if alt then s.alternateSlot else s.primarySlot
  emit (.boot fun b => { b with tried := n, fromStaged := s.boot.cause == 3 && n == s.nv.staged && n != 0 })
  if n = 0 then
    emit (.boot fun b => { b with altPlan := b.altPlan.filter (fun x => !(decide (8 ≤ x.1) && decide (x.1 ≤ 10))) })
    skipPackage [8, 9, 10]

/-- After an ACTIVATE start whose package failed, the staged slot is rejected (R516). -/
def revertPackage : Act Unit := do
  let s ← rd
  match s.starts with
  | r :: _ =>
    if r.cause = 3 ∧ s.boot.cause ≠ 0 ∧ s.boot.cause ≠ 1 ∧ s.packageFailed s.boot.cause r ∧ s.nv.staged ≠ 0 then
      let n := s.nv.staged
      emit (.nv fun v => { v with rejected := setBit v.rejected (n - 1) true, staged := 0 })
      journal jREJECT n 0
      raise Ev.PACKAGE_REVERTED
      degrade .reverted
  | [] => pure ()

/-- The decisions of R511 for the steps from `first` on. -/
def decide511 (first : Nat) : Act Unit := do
  let s ← rd
  let steps := (List.range 24).map (· + 1) |>.filter (fun k => decide (first ≤ k))
  emit (.boot fun b => { b with
    altPlan := (steps.map (fun k => (k, (s.planStep k).1))).filter (fun x => x.2 != 0)
    skipPlan := (steps.map (fun k => (k, (s.planStep k).2))).filter (fun x => x.2 != 0) })

/-- The START record is appended, with the entries held so far (R509, R510). -/
def appendStart : Act Unit := do
  let s ← rd
  let n := s.nv.startNum + 1
  let r : JournalRec := { kind := jSTART, slot := s.boot.tried, startNum := n, time := s.timeStamp, cause := s.boot.cause
                          active := s.nv.active, staged := s.nv.staged, rejected := s.nv.rejected
                          version := ((s.slotPkg s.boot.tried).map Package.version).getD 0, entries := s.boot.entries
                          assigned := s.boot.altPlan ++ s.boot.skipPlan.map (fun x => (32 + x.1, x.2)) }
  emit (.nv fun v => { v with startNum := n, journal := appendJournal v.journal r })
  emit (.boot fun b => { b with journalled := true })
  setF F.SEC_BOOT_STAT_JOURNAL_OK 1
  setF F.SEC_BOOT_STAT_START_NUM n
  showSlots

/-- Step 6: the calendar, VBAT and the tamper latch (R337, R559). A pulse that came without supplies leaves a time that nothing states. -/
def checkCalendar (invalid lost low tamper : Bool) : Act Unit := do
  if invalid ∨ lost then emit (.nv fun v => { v with calValid := false })
  setF F.LIF_STAT_VBAT_LOST lost.toNat
  setF F.LIF_STAT_VBAT_LOW low.toNat
  let s ← rd
  if s.nv.calValid = false then
    raise Ev.CALENDAR_INVALID
    raise Ev.STEWARD_PAUSED
  if low then raise Ev.VBAT_LOW
  if tamper ∧ s.nv.tamper.isNone then
    let t ← freeValue 64
    emit (.nv fun v => { v with tamper := some t })
  showTamper
  if (← rd).nv.tamper.isSome then raise Ev.TAMPER_DETECTED

/-- The context region of step 16: microcode places it, within the DRAM fitted (R457, R470). -/
def State.dramMiB (s : State) : Nat :=
  let whole := match s.get F.DRM_STAT_CONFIG with
    | 1 => 16384
    | 2 => if Config.dram16Gb then 65536 else 32768
    | 3 => 131072
    | _ => 0
  if s.get F.DRM_STAT_CONFIG ≠ 1 ∧ s.get F.DRM_STAT_CH_UP ≠ 3 then whole / 2 else whole

/-- The DRAM that the host can address: all but the area of retained samples, which lies at its top (R21, assumption log 63). -/
def State.hostMiB (s : State) : Nat := s.dramMiB - s.dram.retained

def placeRegion : Act Unit := do
  let s ← rd
  let size ← freeValue 17
  let base ← freeValue 17
  let n := 1 + size % max 1 s.hostMiB
  setF F.CCH_REGION_SIZE_SIZE n
  setF F.CCH_REGION_BASE_BASE (base % (s.hostMiB - n + 1))
  setF F.CCH_CTL_ENABLE 1
  setF F.CCH_STAT_BYPASS 0

/-- Step 24: the lost-write report, and where they are due SELECT, the anti-rollback counter and the revocations (R516, R517, R553); the
END record. -/
def endStart : Act Unit := do
  let s ← rd
  if !s.lost.entries.isEmpty then raise Ev.LOST_WRITE_REPORT
  if s.boot.fromStaged ∧ s.boot.slot ≠ 0 then
    emit (.nv fun v => { v with active := s.boot.slot, staged := 0 })
    journal jSELECT s.boot.slot 0
  let primary : Bool := [8, 9, 10, 11, 12].all (fun k => s.boot.entries.any (fun e => e.step == k && e.state == 0))
  match s.boot.pkg with
  | some p =>
    if primary ∧ s.boot.cause ≠ 4 then
      if bitAt p.flags 1 ∧ s.otp.counter < p.secVersion then
        emit (.fuse p.secVersion)
        raise Ev.ROLLBACK_ADVANCED
      emit (.revoke (setBit p.revoke p.keyIndex.val false))
  | none => pure ()
  journal jEND s.boot.slot 0

/-- What a step does with the elements `ok`, of which `alt` by the alternate; `left` are the others (R506). -/
def stepAction (k ok alt left : Nat) (data : BootData) : Act Unit := do
  let s ← rd
  let b := s.boot
  match k with
  | 4 =>
    if ok ≠ 0 then
      revertPackage
      decide511 5
    chooseSlot
    if ok ≠ 0 then appendStart
  | 5 => if ok = 0 then skipPackage [8, 9, 10, 20]
  | 6 =>
    match data with
    | .calendar lost low tamper => checkCalendar (alt != 0 || ok == 0) lost low tamper
    | _ => checkCalendar (alt != 0 || ok == 0) false false false
  | 7 =>
    setF F.SEC_DBG_STAT_UNLOCKED 0
    emit (.dbg fun _ => {})
  | 10 =>
    if ok ≠ 0 then
      match s.slotPkg b.tried with
      | some p => installPackage p b.tried b.tried
      | none => pure ()
  | 11 =>
    if ok = 0 ∨ alt ≠ 0 then emit (.boot fun x => { x with policyAlt := some ((b.pkg.map packagePolicy).getD []) })
    showPins
  | 12 =>
    if alt ≠ 0 ∨ b.pkg.isNone then romOnly
    setF F.SEQ_STAT_RUN 1
  | 13 =>
    match data with
    | .dram config sweeps => bringUpDram config ok alt left sweeps
    | _ => bringUpDram (s.nv.training.elim 0 Prod.fst) ok alt left []
    emit (.dram fun d => { d with selfRefresh := false })
  | 14 => forAll [0, 1] (fun p => do if bitAt left p then degrade (.port p))
  | 15 => if ok ≠ 0 then emit .wipe
  | 16 =>
    emit .openQueue
    attend none
    if b.cause = 4 then
      match b.pkg with
      | some p => installPackage p b.slot 3
      | none => romOnly
      setF F.SEQ_STAT_RUN 1
    if ok ≠ 0 then placeRegion
  | 17 =>
    match data with
    | .flash luns => bringUpFlash ok left luns
    | _ => bringUpFlash ok left []
  | 18 =>
    if ok ≠ 0 then
      match data with
      | .recovery ms => bringUpZone (alt != 0) ms
      | _ => bringUpZone (alt != 0) 0
  | 19 => if ok ≠ 0 then bringUpSystem
  | 20 =>
    setF F.SEC_BOOT_STAT_IDENTITY_OK (ok != 0).toNat
    if ok = 0 then
      raise Ev.IDENTITY_UNAVAILABLE
      degrade .identity
  | 21 =>
    match data with
    | .tests lanes decoders outers => bringUpLanes lanes decoders outers
    | _ => bringUpLanes [] [] []
  | 22 =>
    forAll bayList (fun y => do
      if bitAt left y.val then leaveBay y
      else if bitAt ok y.val then
        match data with
        | .bays l => bringUpBay y (l.getD y.val { disc := false, trayClosed := true, clamped := false, doorClosed := true })
        | _ => bringUpBay y { disc := false, trayClosed := true, clamped := false, doorClosed := true })
  | 23 =>
    if ok ≠ 0 ∧ alt = 0 then restoreCalibration
    setF F.CAL_CTL_ENABLE 1
  | 24 => if ok ≠ 0 then endStart
  | _ => pure ()

/-! ### A step ends (R506 to R513) -/

/-- The elements of a step, and those that this start skips and does by the alternate. -/
def State.stepMasks (s : State) (k : Nat) : Nat × Nat × Nat :=
  let all := s.elements k
  let skip := (s.boot.skipPlan.lookup k).getD 0 &&& all
  (all, skip, (s.boot.altPlan.lookup k).getD 0 &&& (all ^^^ skip))

/-- The channels, not of those that take the training record, with a lane that fails its sweep (R472). -/
def narrowChannels (alt : Nat) (sweeps : List LaneSweep) : Nat :=
  [0, 1].foldl (fun m c => if sweeps.any (fun x => x.channel.val == c && sweepNarrow x) ∧ bitAt alt c = false then setBit m c true else m) 0

/-- What the part finds to fail by itself: the package (R515), a channel with a lane that fails its sweep (R472), a
training record that is missing or of another configuration (R474), an EEPROM (R558). -/
def State.stepFails (s : State) (k alt : Nat) (data : BootData) : Nat :=
  if k = 9 then ((s.slotPkg s.boot.tried).elim true (fun p => (s.packageFails p).isSome)).toNat
  else if k = 10 then ((s.slotPkg s.boot.tried).elim true (fun p => (plainFails p).isSome)).toNat
  else if k = 13 then
    match s.nv.training, data with
    | some r, .dram config sweeps => (if r.1 = config then 0 else alt) ||| narrowChannels alt sweeps
    | _, .dram _ sweeps => alt ||| narrowChannels alt sweeps
    | _, _ => alt
  else if k = 22 then
    ((bayList.filter (fun b => (opusOf b).any (fun k => s.opuFitted k && !s.nv.eeproms[k].crcOk))).map (fun b => 2 ^ b.val)).sum
  else 0

/-- PACKAGE_REJECTED with the check that failed (R515, R535). -/
def rejectPackage (k : Nat) : Act Unit := do
  let s ← rd
  let check := ((s.slotPkg s.boot.tried).bind (fun p => if k = 9 then s.packageFails p else plainFails p)).getD 0
  setF F.SEQ_PATCH_STAT_RESULT 2
  raise Ev.PACKAGE_REJECTED check 0 s.boot.tried

/-- A step's entry is programmed (R509, R510). -/
def recordStep (e : StepEntry) : Act Unit := do
  emit (.boot fun b => { b with entries := b.entries ++ [e] })
  if (← rd).boot.journalled then
    emit (.nv fun v =>
      match (v.journal.reverse.findIdx? (fun r => r.kind == jSTART)) with
      | some i =>
        let n := v.journal.length - 1 - i
        { v with journal := v.journal.modify n (fun r => { r with entries := r.entries ++ [e] }) }
      | none => v)
  if e.state ≠ 0 then setF F.SEC_BOOT_STAT_DEGRADED 1

/-- Steps whose failure halts the part, and those whose failure restarts it (R506). -/
def haltSteps : List Nat := [1, 2, 3, 7]
def restartSteps : List Nat := [8, 9, 10, 12, 13, 15, 18, 19]

/-- Whether an ACTIVATE start or a wake omits a step (R512). -/
def State.omits (s : State) (k : Nat) : Bool := k == 15 && (s.boot.cause == 3 || s.boot.cause == 4)

/-- The start has ended: IDLE, or PARK after a wake (R30, R40). -/
def leaveBringup : Act Unit := do
  let s ← rd
  emit (.boot fun b => { b with running := false })
  emit (.chip fun c => { c with waking := false })
  setF F.DEV_MODE_STAT_TRANSITION 0
  setF F.DEV_MODE_STAT_OK_TO_REMOVE 0
  changeMode (if s.chip.waking then mPARK else mIDLE) 1
  takeHeld

/-- The start stops in SAFE (R41, R507). -/
def bootSafe : Act Unit := enterSafe 7

/-- The bays that ACTIVATE found FAULTED are so again (R48). -/
def refault : Act Unit :=
  forAll bayList (fun b => do
    if (← rd).bays[b].wasFaulted then
      emit (.bay b fun x => { x with wasFaulted := false })
      setBay b bFAULTED)

/-- The step in progress ends: `fail` are the elements whose action failed, `single` says that step 3 ran in single-line mode. Its entry
is programmed, what its failure calls for follows, and the next step begins; steps wholly skipped or omitted end at once. -/
def endStep : Nat → Nat → Bool → Nat → BootData → Act Unit
  | 0, _, _, _, _ => pure ()
  | n + 1, fail, single, duration, data => do
    let s ← rd
    let k := s.boot.step
    let omitted := s.omits k
    let m := s.stepMasks k
    let skip := if omitted then 0 else m.2.1
    let run := m.1 ^^^ skip
    let alt := if omitted then 0 else if k = 3 then single.toNat else m.2.2
    let own := if omitted ∨ run = 0 then 0 else s.stepFails k alt data
    let fail := if omitted then 0 else (fail ||| own) &&& run
    let ok := run ^^^ fail
    let st := if fail ≠ 0 then 1 else if alt ≠ 0 then 3 else if run = 0 ∧ m.1 ≠ 0 then 2 else 0
    if (k = 9 ∨ k = 10) ∧ own ≠ 0 then rejectPackage k
    if fail ≠ 0 then raise Ev.BOOT_STEP_FAIL
    if alt ≠ 0 then raise Ev.BOOT_ALTERNATE
    if skip ≠ 0 ∧ !((8 ≤ k ∧ k ≤ 10) ∧ s.slotUsable 1 = false ∧ s.slotUsable 2 = false) then
      raise Ev.BOOT_STEP_SKIPPED
      degrade (.bootStep k)
    let e : StepEntry := { step := k, state := st, fail := fail, alt := alt, skip := skip, event := if fail ≠ 0 then Ev.BOOT_STEP_FAIL else 0xFFFF
                           duration := duration }
    if fail ≠ 0 ∧ (haltSteps.contains k ∨ restartSteps.contains k ∨ k = 16) then
      recordStep e
      if haltSteps.contains k then emit (.boot fun b => { b with halted := some k, running := false })
      else if k = 16 then bootSafe
      else internalReset 2
    else
      if omitted = false then stepAction k ok alt (m.1 ^^^ ok) data
      recordStep e
      if (k = 13 ∧ ok = 0) ∨ (k = 18 ∧ ok = 0) then bootSafe
      else if k = 24 then leaveBringup
      else
        let s ← rd
        emit (.boot fun b => { b with step := k + 1, stepAt := s.now })
        setF F.SEC_BOOT_STAT_STEP (k + 1)
        if k = 7 then changeMode mLOAD 1
        if k = 12 then
          changeMode mBRINGUP 1
          refault
        let s ← rd
        let m := s.stepMasks (k + 1)
        if s.omits (k + 1) ∨ m.1 = m.2.1 then endStep n 0 false 0 .none

/-- BOOT_STEP_END (R506): the step in progress ends with its report; bit 1 of the failures of step 3 tells of its single-line mode. -/
def execBootStepEnd (r : BootReport) (s : State) : Answer :=
  answer (do
    if s.boot.running then
      if s.boot.step = 3 then endStep 25 (bitsOf r.fail 0 1) (bitAt r.fail 1) r.duration r.data
      else endStep 25 r.fail false r.duration r.data) s

/-- BOOT_STEP_TIME_LIMIT (R507): every element that the step does not skip fails. -/
def execBootStepTimeLimit (s : State) : Answer :=
  answer (do if s.boot.running then endStep 25 255 false (s.now - s.boot.stepAt) .none) s

/-- BOOT_WATCHDOG (R508): the part is reset as by RESET_N, without microcode; the entry of the step stays unwritten. -/
def execBootWatchdog (s : State) : Answer := answer (do if s.boot.running then internalReset 5) s

/-- HALT_UART_REPORT (R507): the step, and the elements that its entry shows failed, go to the UART console. -/
def execHaltUartReport (s : State) : Answer :=
  answer (do
    match s.boot.halted with
    | some k => emit (.out (.uart k (((s.boot.entries.find? (fun e => e.step == k)).map StepEntry.fail).getD 0)))
    | none => pure ()) s

/-! ### The wake from RETENTION (R30, R31, R435, R452, R478, R512) -/

/-- The part wakes: it enters BRINGUP at step 13, with steps 1 to 12 recorded as OK. -/
def wakePart (cause : Nat) : Act Unit := do
  let s ← rd
  emit (.wakeReset wakeKeeps)
  emit (.boot fun _ => { running := true, step := 13, stepAt := s.now, cause := 4, slot := s.boot.slot, pkg := s.boot.pkg
                         tried := s.boot.slot, policyAlt := s.boot.policyAlt
                         entries := (List.range 12).map (fun k => ⟨k + 1, 0, 0, 0, 0, 0xFFFF, 0⟩) })
  emit (.chip fun c => { c with waking := true, pins := { c.pins with slathLocked := true } })
  emit (.dram fun d => { d with temps := s.dram.temps, swept := s.dram.swept, selfRefresh := true })
  setF F.CCH_STAT_INIT_DONE 1
  setF F.CCH_STAT_BYPASS 1
  setF F.SEC_BOOT_STAT_STEP 13
  setF F.SEC_BOOT_STAT_CAUSE 4
  setF F.DEV_MODE_STAT_TRANSITION 1
  changeMode mBRINGUP cause
  decide511 13
  appendStart

/-- A request in RETENTION (R31): one for PARK or IDLE over SMBus wakes the part, and one for IDLE is held until PARK; every other one is
rejected. -/
def requestWake (target : Nat) (smb : Bool) : Act Unit := do
  setF F.DEV_MODE_REQ_TARGET 0
  if smb ∧ (target = mPARK ∨ target = mIDLE) then
    wakePart 3
    if target = mIDLE then holdRequest mIDLE true
  else if target ≠ 0 then rejectRequest

/-- MODE_TRANSITION_END (R32, R40, R47, R366): the bays are at rest, and the part enters the mode; on the way to RETENTION nothing is left
in DRAM alone; under ACTIVATE the part restarts. Once RETENTION or SAFE has been entered, the request held on the way is acted on. -/
def execModeTransitionEnd (s : State) : Answer :=
  answer (do
    match s.chip.transition with
    | none =>
      if s.mode = mRETENTION then
        if s.get F.DEV_MODE_REQ_TARGET ≠ 0 then requestWake (s.get F.DEV_MODE_REQ_TARGET) s.chip.heldSmb
      else if s.mode = mSAFE then takeHeld
    | some t =>
      if t.target = mRETENTION then retainDram
      else if t.target = mBOOT then settleActivate
      else if s.baysRest then
        emit (.chip fun c => { c with transition := none })
        setF F.DEV_MODE_STAT_TRANSITION 0
        changeMode t.target t.cause
        takeHeld) s

/-- SMB_MODE_REQ_WRITE (R31, R437): in RETENTION a request may wake the part; elsewhere it is one like any other but SERVICE. -/
def execSmbModeReqWrite (target : BitVec 4) (s : State) : Answer :=
  answer (do
    if s.mode = mRETENTION then requestWake target.toNat true
    else if mBOOT ≤ s.mode then requestMode target.toNat true false) s

end Sys2Proof.Machine
end

