-- ==== Sys2Proof/Machine/Decoding.lean ====
section
/-! DEFINITION. Captures, the frames that lanes pass on, the decoder pool, decoding by global iterations, the retry ladder, poison and salvage,
outer rebuilds, and decoder faults (R19, R20, R201, R214 to R239, R332). -/

namespace Sys2Proof.Machine

/-- Raises an event of group 13 (R239, R535). -/
def raiseLdp (i inst : Nat) (detail : Nat := 0) : Act Unit := raise (Ev.ldp i) 0 inst detail

abbrev ldpCAPTURE_STALL : Nat := 0
abbrev ldpREDUCED_READ : Nat := 1
abbrev ldpDECODER_FAILED : Nat := 2
abbrev ldpOUTER_REBUILD : Nat := 3
abbrev ldpMISDIRECTED : Nat := 4
abbrev ldpPOISONED : Nat := 5

/-- DETAIL of an event that names a sector: LSA and volume (R535). -/
def sectorDetail (vol lsa : Nat) : Nat := lsa % 2 ^ 48 + 2 ^ 48 * (vol % 2 ^ 16)

/-! ### Work in progress -/

/-- Whether a frame is that of an OPU at a track and sector. -/
def FrameWork.at_ (f : FrameWork) (k : Fin 8) (track sector : Nat) : Bool :=
  f.opu == k.val && f.track == track && f.sector == sector

def State.frameAt (s : State) (k : Fin 8) (track sector : Nat) : Option FrameWork :=
  s.frames.find? (fun f => f.at_ k track sector)

/-- The frame of an OPU at a track and sector changes. -/
def setFrame (k : Fin 8) (track sector : Nat) (g : FrameWork → FrameWork) : Act Unit :=
  emit (.frames fun l => l.map (fun f => if f.at_ k track sector then g f else f))

/-- A frame leaves detection: delivered, poisoned or not needed. -/
def dropFrame (k : Fin 8) (track sector : Nat) : Act Unit :=
  emit (.frames fun l => l.filter (fun f => !f.at_ k track sector))

/-! ### The decoder pool (R230, R231) -/

/-- Whether the new frames that lie outwards of a held-over member are in, so far as they will be (R214, R224). -/
def State.outwardIn (s : State) (f : FrameWork) : Bool :=
  let d := s.detectors[Fin.ofNat 8 f.opu]
  let t := f.track + 1
  let n := nominalAngle f.track f.sector
  let got (sector : Nat) : Bool := s.dram.samples.any (fun r => r.opu == f.opu && r.layer == f.layer && r.track == t && r.half == d.half && sector ≤ r.sector)
  d.triple != some f.group || bitAt (s.get (F.RCH_JD_STAT_UNBOUND f.opu)) 0 || (got (sectorAt t (n 0)) && got (sectorAt t (n 56999)))

/-- Whether a frame has an iteration for a decoder to make: of the schedule of R223, of a hypothesis of rung 1, of the deep decode of rung 2, or of the samples
of a re-read (R204, R223, R224, R232). -/
def State.hasWork (s : State) (f : FrameWork) : Bool :=
  let again : Bool := decide (f.g < s.get F.LDP_CTL_GLOBAL_MAX)
  match f.rung with
  | 0 => again && (f.role != .heldOver || s.outwardIn f)
  | 1 => decide (f.hyp < (hypotheses (s.get (F.RCH_SYNC_CTL_HYP_MAX f.opu))).length)
  | 2 => decide (f.g < s.get F.LDP_CTL_DEEP_GLOBAL)
  | 3 => false
  | 7 => false
  | _ => f.fresh && again

/-- The level of R230 at which a frame waits for a decoder, lower ones first; none when it has no work for one. Work of rungs 1 and 2 is ordered by
class. -/
def State.poolLevel (s : State) (f : FrameWork) : Option Nat :=
  let k : Fin 8 := Fin.ofNat 8 f.opu
  let d := s.detectors[k]
  if f.decoder.isSome ∨ f.waiting ∨ s.hasWork f = false then none
  else if f.half ≠ d.half ∧ d.began + s.revolution (bayOf k) ≤ s.now + 2000 then some 0
  else if f.needs.contains 0 then some 1
  else if f.rung = 1 ∨ f.rung = 2 then some (5 + f.needs.foldl min 3)
  else if f.role = .heldOver then some 3
  else if f.g = 0 then some 2
  else some 4

/-- The frame that the next free decoder takes: of the lowest level, the earliest captured. -/
def State.poolNext (s : State) : Option FrameWork :=
  (s.frames.filterMap (fun f => (s.poolLevel f).map (fun n => (n, f)))).foldl (fun a x =>
    match a with
    | none => some x
    | some y => if x.1 < y.1 then some x else a) none |>.map Prod.snd

/-- Whether an LDPC decoder is free: it has not failed, and works on nothing. -/
def State.decoderFree (s : State) (j : Nat) : Bool :=
  !bitAt (s.get F.LDP_STAT_DEC_FAILED) j && !s.frames.any (fun f => f.decoder == some j)

/-- Pool occupancy over the last millisecond in 1/256 (R238), from the times since when so many decoders have worked, newest first. -/
def poolLoad (now : Nat) : Nat → List (Nat × Nat) → Nat
  | _, [] => 0
  | until_, (t, n) :: l =>
    let from_ := max t (now - 1000)
    n * (until_ - from_) + if t ≤ now - 1000 then 0 else poolLoad now t l

/-- LDP_LOAD (R238). -/
def State.ldpLoad (s : State) : Nat := min 255 (poolLoad s.now s.now s.dram.load * 256 / 16000)

/-- Free decoders take the work that waits, each for one global iteration (R230). -/
def assignPool : Act Unit := do
  forAll (List.range 16) (fun j => do
    let s ← rd
    match s.poolNext with
    | some f =>
      if s.decoderFree j ∧ s.get F.LDP_CTL_ENABLE = 1 then
        setFrame (Fin.ofNat 8 f.opu) f.track f.sector (fun f => { f with decoder := some j })
    | none => pure ())
  let s ← rd
  let busy := (s.frames.filter (fun f => f.decoder.isSome)).length
  emit (.dram fun d => { d with load := ((s.now, busy) :: d.load).take 64 })

/-! ### What is delivered (R19, R233, R235 to R237) -/

/-- A sector takes its place in the decoded-sector buffers, for the copy of that place that they hold; one poisoned for some classes alone joins it, and stays
beside it until it has been handed over (R19, R233). -/
def storeCopy (x : SectorCopy) : Act Unit :=
  emit (.dram fun d => { d with sectors := x :: d.sectors.filter (fun y =>
    !(y.opu == x.opu && y.layer == x.layer && y.track == x.track && y.sector == x.sector && x.classes.isEmpty && y.classes.isEmpty)) })

/-- A frame as a copy in the buffers. -/
def State.copyOf (s : State) (f : FrameWork) (payload : List Byte) : SectorCopy :=
  { opu := f.opu, layer := f.layer, track := f.track, sector := f.sector, vol := f.vol, lsa := f.lsa, member := f.member
    parity := f.parity, payload := payload, rung := f.top, at_ := s.now }

/-- The payload that a frame has decoded to stays with its retained samples, for its neighbours (R215). -/
def noteDecoded (f : FrameWork) (payload : List Byte) : Act Unit := do
  let s ← rd
  emit (.dram fun d => { d with samples := d.samples.map (fun r =>
    if r.opu = f.opu ∧ r.layer = f.layer ∧ r.track = f.track ∧ r.sector = f.sector then { r with decoded := some (payload, s.now) } else r) })

/-- The payload of hard decisions on a codeword's LLRs, those not given taken as 0. -/
def hardPayload (l : List Int) : List Byte := bitsBytes 4160 (l.map (fun x => decide (x < 0)))

/-- The user bytes that are erased (R237): one with a codeword bit in a segment erased by R221, or with an LLR below SALVAGE_THR. -/
def State.erasures (s : State) (k : Fin 8) (f : FrameWork) : List Bool :=
  let segs := ((s.retainedFor f).map Retained.segs).getD []
  let erase : Bool := s.get (F.RCH_JD_CTL_SLIP_ERASE k.val) == 1
  let bit (n : Nat) : Bool :=
    (erase && (segs[n / 1560]?).any SegFlag.slipped) || decide ((f.post.getD n 0).natAbs < s.get F.LDP_LADDER_SALVAGE_THR)
  (List.range 4096).map (fun b => (List.range 8).any (fun i => bit (8 * (64 + b) + i)))

/-- The erasure map and trailer of a frame's salvage record, bytes 4,096 to 4,623 (R237). -/
def State.salvageOf (s : State) (k : Fin 8) (f : FrameWork) : List Byte :=
  let e := s.erasures k f
  (List.range 512).map (fun j => BitVec.ofNat 8 ((List.range 8).map (fun b => if e.getD (8 * j + b) false then 2 ^ b else 0)).sum) ++
  leBytes 2 f.best ++ leBytes 1 f.top ++ leBytes 1 f.attempts ++ leBytes 2 (e.filter id).length ++ zeroBytes 10

/-- Poison is set on a data sector, for some classes or, with none named, for all (R233, R236): its slot takes the header that the map gives, and
the bytes of its best attempt. -/
def setPoison (k : Fin 8) (f : FrameWork) (classes : List Nat) : Act Unit := do
  let s ← rd
  let head : Header := { vol := f.vol, lsa := f.lsa, seq := 0, strand := 0, position := f.block % 32, parity := f.block / 32, poison := true }
  storeCopy { s.copyOf f (head.bytes ++ (hardPayload f.post).drop 64) with poison := true, classes := classes, salvage := s.salvageOf k f }
  addWrap F.LDP_POISON_CNT_CNT 1
  raiseLdp ldpPOISONED k.val (sectorDetail f.vol f.lsa)

/-- How a sector that a scrub reads has ended (R71). -/
inductive ScrubEnd where
  | decoded
  | rebuilt
  | poisoned
deriving DecidableEq, Repr

/-- One sector more of a band that a scrub has read, with the SNR of its frame (R71, R335). -/
def ScrubBand.add (x : ScrubBand) (how : ScrubEnd) (retried : Bool) (snr : Option Int) : ScrubBand :=
  { x with
    read := x.read + 1, retries := x.retries + retried.toNat, rebuilt := x.rebuilt + (how == .rebuilt).toNat
    poisoned := x.poisoned + (how == .poisoned).toNat, snrs := if how = .decoded then snr.toList ++ x.snrs else x.snrs }

/-- A sector of class 3 that ends while its disc is scrubbed joins what the scrub has found of its band; the pairs before the one being read are
done (R334). -/
def noteScrub (k : Fin 8) (f : FrameWork) (how : ScrubEnd) : Act Unit := do
  let s ← rd
  match s.discIn (bayOf k) with
  | none => pure ()
  | some d =>
    if d.scrubRunning ∧ f.needs.contains 3 then
      let n := bandOf (k.val % 2) f.layer (zoneOf f.track)
      let x := ((d.scrub.find? (fun x => x.band == n)).getD { band := n }).add how (decide (0 < f.top)) (s.snrOf k f)
      let l := x :: d.scrub.filter (fun x => x.band != n)
      setDisc d.id (fun d => { d with scrub := l, scrubPairs := max d.scrubPairs ((l.map (fun x => x.band % 256)).eraseDups.length - 1) })

/-- A frame is given up: a data sector is poisoned, a parity sector is an erasure only (R236). -/
def poisonFrame (k : Fin 8) (f : FrameWork) : Act Unit := do
  if !f.parity then setPoison k f []
  noteScrub k f .poisoned
  dropFrame k f.track f.sector

/-- Whether a payload's VOLUME_ID, LSA and BLOCK are those expected (R234, R235). -/
def FrameWork.expects (f : FrameWork) (payload : List Byte) : Bool :=
  let h := Header.read payload
  h.vol == f.vol && h.lsa == f.lsa && h.position + 32 * h.parity == f.block

/-! ### The retry ladder (R232, R233, R235, R236) -/

/-- LDP_LADDER.MAX_c. -/
def State.ladderMax (s : State) (c : Nat) : Nat :=
  match c with
  | 0 => s.get F.LDP_LADDER_MAX_0
  | 1 => s.get F.LDP_LADDER_MAX_1
  | 2 => s.get F.LDP_LADDER_MAX_2
  | _ => s.get F.LDP_LADDER_MAX_3

/-- Whether a rung is taken at all: rung 1 without hypotheses, rung 2 without deep iterations and rung 7 without a lower class
are omitted. -/
def State.rungUsed (s : State) (k : Fin 8) (n : Nat) : Bool :=
  match n with
  | 1 => s.get (F.RCH_SYNC_CTL_HYP_MAX k.val) != 0
  | 2 => s.get F.LDP_CTL_DEEP_GLOBAL != 0
  | 7 => s.mayLower (bayOf k).val
  | _ => true

/-- The rung after `n`; none past rung 7 or, at the lower speed, past rung 6. -/
def State.nextRung (s : State) (k : Fin 8) (again : Bool) (n : Nat) : Option Nat :=
  if again then (if n = 7 then some 4 else if n < 6 then some (n + 1) else none)
  else ((List.range 8).filter (fun r => decide (n < r))).find? (s.rungUsed k)

/-- A JUMP that the part makes for a read where the OPU is free for it (R229, R232). -/
def readJump (k : Fin 8) (dist : Int) (atSpoke : Option Nat) : Act Unit := do
  let s ← rd
  if dist ≠ 0 ∧ dist.natAbs ≤ 64 ∧ s.optics[k].phase = .idle ∧ s.get (F.BAY_OPT_CTL_ENABLE k.val) = 1 ∧ s.engineStopped (engineOf k) = false ∧ s.drivesTake then
    setF (F.BAY_OPT_TARGET_TRACK k.val) ((s.optTarget k : Int) + dist).toNat
    optCommand k 4 (s.optLayer k) dist atSpoke.isSome (atSpoke.getD 0)

/-- Rung 5 (R232): spot C is put on the track of the first frame that waits for its centred re-read; once it has been captured, a JUMP returns. -/
def centreNext (k : Fin 8) : Act Unit := do
  let s ← rd
  let next := s.frames.find? (fun f => f.opu == k.val && f.rung == 5 && !f.fresh && f.captures == 0)
  if s.optics[k].phase = .idle then
    match s.detectors[k].centred with
    | none =>
      match next with
      | some f =>
        let dist : Int := (f.track : Int) - s.optTarget k
        if dist.natAbs ≤ 64 then
          emit (.detector k fun d => { d with centred := some dist })
          readJump k dist none
      | none => pure ()
    | some dist =>
      if next.all (fun f => f.track != s.optTarget k) then
        emit (.detector k fun d => { d with centred := none })
        readJump k (-dist) none

/-- A sector enters rung `n` (R232), of which rungs 1 and 2 use its retained samples; rung 4 or later counts for the speed adaptation (R274), rung 7 requests a
lower class. -/
def enterRung (k : Fin 8) (f : FrameWork) (n : Nat) : Act Unit := do
  incStop (F.LDP_RUNG_CNT_CNT (n - 1))
  setFrame k f.track f.sector (fun f => { f with
    rung := n, top := max f.top n, again := f.again || n == 7, waiting := false, decoder := none, g := 0, hyp := 0, captures := 0, fresh := false, live := []
    extrinsic := if n = 2 then f.extrinsic else [], hard := if n = 2 then f.hard else [] })
  if n = 4 ∧ f.again = false then
    let b := bayOf k
    emit (.cal fun c => { c with entries := c.entries.set b (c.entries[b] + 1) })
  if n = 7 then lowerSpeed (bayOf k)
  centreNext k

/-- The rung that a failed sector climbs to: a misdirected one goes to rung 3 alone (R235). -/
def State.rungAfter (s : State) (k : Fin 8) (f : FrameWork) : Option Nat :=
  if f.misdirected then (if f.rung = 0 then some 3 else none) else s.nextRung k f.again f.rung

/-- A failed sector climbs to the next rung for the classes whose limit allows it, is poisoned for the others, and is given up when none is left (R233,
R235). -/
def climb (k : Fin 8) (f : FrameWork) : Act Unit := do
  let s ← rd
  match s.rungAfter k f with
  | none => poisonFrame k f
  | some n =>
    let high := if f.misdirected then n else max n f.top
    let stay := f.needs.filter (fun c => decide (high ≤ s.ladderMax c))
    let out := f.needs.filter (fun c => decide (s.ladderMax c < high))
    if stay.isEmpty then poisonFrame k f
    else
      if !out.isEmpty ∧ f.parity = false then setPoison k f out
      setFrame k f.track f.sector (fun f => { f with needs := stay })
      enterRung k { f with needs := stay } n

/-- A frame that has failed the schedule of R223: an O member waits for the next group (R224), a needed sector enters the
ladder, and a frame nothing needs stays SOFT for its neighbours until its half is captured anew. -/
def frameFailed (k : Fin 8) (f : FrameWork) : Act Unit := do
  if f.role = .outer ∧ f.misdirected = false then
    addWrap (F.RCH_JD_PROV_FAIL_CNT_CNT k.val) 1
    setFrame k f.track f.sector (fun f => { f with waiting := true })
  else if f.needs ≠ [] then climb k f

/-- A sector is recovered: a clean decode of the expected identity is delivered, one of another identity is misdirected
(R19, R235). -/
def frameDecoded (k : Fin 8) (f : FrameWork) (payload : List Byte) : Act Unit := do
  let s ← rd
  noteDecoded f payload
  if f.parity ∨ f.expects payload then
    storeCopy (s.copyOf f payload)
    noteScrub k f .decoded
    dropFrame k f.track f.sector
  else
    storeCopy { s.copyOf f payload with stray := true }
    raiseLdp ldpMISDIRECTED k.val (sectorDetail f.vol f.lsa)
    if f.needs = [] then dropFrame k f.track f.sector
    else
      setFrame k f.track f.sector (fun f => { f with misdirected := true, rung := 0 })
      climb k { f with misdirected := true, rung := 0 }
  centreNext k

/-! ### Captures (R227 to R229) -/

/-- The O frames that wait as the next triple is captured become held-over members of its group (R214, R224). -/
def holdOver (k : Fin 8) (triple : Nat) : Act Unit :=
  emit (.frames fun l => l.map (fun f => if f.opu = k.val ∧ f.waiting then
    { f with waiting := false, role := .heldOver, live := [], g := 0, extrinsic := [], hard := [], group := triple } else f))

/-- The O frames that wait when their band is left or the read has ended enter the ladder with their outward neighbour UNKNOWN (R228). -/
def leaveWaiting (k : Fin 8) : Act Unit := do
  let s ← rd
  forAll (s.frames.filter (fun f => f.opu == k.val && f.waiting)) (fun f => do
    setFrame k f.track f.sector (fun f => { f with waiting := false, role := .heldOver, live := [] })
    frameFailed k { f with waiting := false, role := .heldOver, live := [] })

/-- The reads that have ended, as their bays have left READING (R228). -/
def endReads : Act Unit :=
  forAll (List.finRange 8) (fun k => do
    let s ← rd
    if s.detectors[k].last.isNone then leaveWaiting k)

/-- Whether a frame has failed its schedule and nothing needs it: it only stays SOFT for its neighbours (R223). -/
def State.frameSpent (s : State) (f : FrameWork) : Bool :=
  f.needs.isEmpty && f.rung == 0 && !f.waiting && decide (s.get F.LDP_CTL_GLOBAL_MAX ≤ f.g)

/-- Whether detection, decoding or rung work is pending on a frame of a half (R227). -/
def State.halfPending (s : State) (k : Fin 8) (half : Bool) : Bool :=
  s.frames.any (fun f => f.opu == k.val && f.half == half && !s.frameSpent f)

/-- The set-point offsets of rung 6 in nm, in turn (R232). -/
def marginOffsets : List Int := [8, -8, 16, -16, 24, -24, 32, -32]

/-- The offset of the next capture: that of the first frame on rung 6, by the captures it has had. -/
def State.nextMargin (s : State) (k : Fin 8) : Int :=
  match s.frames.find? (fun f => f.opu == k.val && f.rung == 6) with
  | some f => marginOffsets.getD (f.captures % 8) 0
  | none => 0

/-- CAPTURE_START (R227, R229): a capture of `triple` begins in the other half, unless work of that half is pending. With a spot unbound, a second capture of
the same triple joins the first. A READY bay is READING from its first capture on. -/
def execCaptureStart (k : Fin 8) (triple : Nat) (s : State) : Answer :=
  answerWhen s.channelsLive (do
    if (s.bayState (bayOf k).val = bREADING ∨ s.bayState (bayOf k).val = bREADY) ∧ s.get F.LDP_CTL_ENABLE = 1 then
      endReads
      setBay (bayOf k) bREADING
      let s ← rd
      let d := s.detectors[k]
      let half := !d.half
      let next : Bool := d.last == some (triple - 1) && triple % 2219 != 0
      let reduced : Bool := s.get (F.RCH_JD_STAT_UNBOUND k.val) != 0
      let margin := s.nextMargin k
      if reduced ∧ d.last = some triple ∧ d.second = false then
        emit (.detector k fun d => { d with triple := some triple, second := true, margin := margin })
        setF (F.RCH_JD_STAT_MODE k.val) 2
      else if s.halfPending k half then
        emit (.detector k fun d => { d with triple := none })
        incStop (F.RCH_JD_STALL_CNT_CNT k.val)
        setF F.LDP_STAT_STALL 1
        setF (F.RCH_JD_STAT_MODE k.val) 3
        raiseLdp ldpCAPTURE_STALL k.val
      else
        emit (.detector k fun d => { d with
          triple := some triple, last := some triple, half := half, began := s.now, first := d.last.isNone, second := false, margin := margin })
        emit (.dram fun x => { x with samples := x.samples.filter (fun r => !(r.opu == k.val && r.half == half)) })
        emit (.frames fun l => l.filter (fun f => !(f.opu == k.val && f.half == half && s.frameSpent f)))
        setF (F.RCH_JD_STAT_MODE k.val) (if reduced then 2 else 1)
        if s.cal.kappaDue[k] then loadKappas k (s.optLayer k)
        if next then holdOver k triple
        else if d.last ≠ some triple then leaveWaiting k
      centreNext k
      assignPool) s

/-! ### SECTOR_FRAME (R191 to R203, R206, R208, R214, R226) -/

/-- Joint-detection role of a track in its triple (R53, R214). -/
def roleOf (track : Nat) : MemberRole := if track % bandTracks % 3 = 0 then .inner else if track % bandTracks % 3 = 1 then .centre else .outer

/-- The outputs of a frame from its first channel bit on. -/
def LanePass.frame (c : LanePass) : List Int := (((c.outs.reverse).map Prod.fst).drop (c.lead + c.offset).toNat).take 57000

/-- What a lane passes on of a frame: what is retained of it (R20, R203, R225, R226). -/
def State.retain (s : State) (i : Fin 32) (x : FrameRead) (c : LanePass) : Retained :=
  let k := opuOfInput i.val
  let f := c.flags
  { opu := k.val, layer := s.optLayer k, track := x.track, sector := x.sector, spot := i.val % 4, half := s.detectors[k].half
    angles := ((c.angles.reverse).drop (c.lead + c.offset).toNat).take 57000, codes := c.frame.map compand, found := f.found, score := f.score
    offset := f.offset, segs := f.segs.map (fun g => { g with shift := g.shift - f.offset }), timingLimit := c.timing.held, lost := x.lost }

/-- Whether a capture takes the frame of a track from a spot: a track of the triple, and in the second capture of reduced reading the missing one, by the spot
that R229 names. The last triple of a band has no O track (R217). -/
def State.captures (s : State) (k : Fin 8) (spot track : Nat) : Bool :=
  let d := s.detectors[k]
  let missing := match s.get (F.RCH_JD_STAT_UNBOUND k.val) with
    | 1 => some (0, 1)
    | 2 => some (1, 0)
    | 4 => some (2, 1)
    | _ => none
  match d.triple with
  | none => false
  | some t =>
    decide (spot < 3) && !(spot == 2 && decide (t % 2219 = 2218)) && (if d.second then missing == some (track % bandTracks % 3, spot) else true)

/-- The frames of reduced reading that a capture of an OPU has yet to pass: those of the last sector of each track (R229). -/
def State.captureDone (s : State) (k : Fin 8) (track sector : Nat) : Bool :=
  let d := s.detectors[k]
  let spots := (s.dram.samples.filter (fun r => r.opu == k.val && r.half == d.half && r.sector == sector)).length
  let unbound := s.get (F.RCH_JD_STAT_UNBOUND k.val)
  let want := 3 - ((List.range 3).filter (bitAt unbound)).length
  sector + 1 == sptOf (zoneOf track) && decide (if d.second then want + 1 ≤ spots else want ≤ spots)

/-- The JUMPs of reduced reading (R229): to the missing track once the first capture is complete, and to the next triple, at its start spoke, after the
second. -/
def reducedJump (k : Fin 8) (track sector : Nat) : Act Unit := do
  let s ← rd
  let d := s.detectors[k]
  if d.triple.isSome ∧ s.captureDone k track sector then
      match s.get (F.RCH_JD_STAT_UNBOUND k.val) with
      | 1 => readJump k (if d.second then 4 else -1) (if d.second then some (startSpoke track) else none)
      | 2 => readJump k (if d.second then 2 else 1) (if d.second then some (startSpoke track) else none)
      | 4 => readJump k (if d.second then 2 else 1) (if d.second then some (startSpoke track) else none)
      | _ => pure ()

/-- The samples of a re-read reach a frame on the ladder: in rung 4 the mean of the live ones and those retained, in rung 5 those of spot C (R232). A re-read
that cannot be decoded counts as a capture. -/
def rereadFrame (k : Fin 8) (f : FrameWork) (spot : Nat) (failed : Bool) (live : List Int) (old : List Int) (half : Bool) : Act Unit := do
  if 4 ≤ f.rung ∧ f.rung ≤ 6 ∧ f.fresh = false ∧ (f.rung ≠ 5 ∨ spot = 1) ∧ (f.rung = 6 ∨ f.captures = 0) then
    let s ← rd
    let g := { f with captures := f.captures + 1, half := half }
    if failed then
      setFrame k f.track f.sector (fun _ => g)
      if f.rung ≠ 6 ∨ s.get F.LDP_LADDER_MARGIN_REVS ≤ g.captures then climb k g
    else
      let l := if f.rung = 4 then List.zipWith (fun a c => floorDiv (a + c) 2) live old else live
      setFrame k f.track f.sector (fun _ => { g with live := l, fresh := true, g := 0, extrinsic := [], hard := [] })
    centreNext k

/-- A frame of an I, C or O lane joins the OPU's detection while a capture runs (R203, R214). A frame whose f was held or whose samples were lost is
not decoded, and one in progress as the C channel entered SEARCH or its lane failed has failed: a needed one enters the ladder (R27, R86, R200, R207, R221).
A frame on the ladder takes the samples of its re-read. -/
def passFrame (i : Fin 32) (x : FrameRead) (r : Retained) (live : List Int) : Act Unit := do
  let s ← rd
  let k := opuOfInput i.val
  let d := s.detectors[k]
  let spot := i.val % 4
  if s.captures k spot x.track then
    let failed : Bool := r.timingLimit || r.lost || d.cut.contains spot
    emit (.detector k fun d => { d with cut := d.cut.filter (· != spot) })
    let old := match s.retainedOf k.val r.layer x.track x.sector none with
      | some q => q.codes.map expand
      | none => r.codes.map expand
    emit (.dram fun m => { m with samples := r :: m.samples.filter (fun y =>
      !(y.opu == k.val && y.layer == r.layer && y.track == x.track && y.sector == x.sector && y.half == r.half)) })
    match s.frameAt k x.track x.sector with
    | some f =>
      let f := { f with needs := (f.needs ++ x.needs).eraseDups }
      setFrame k x.track x.sector (fun _ => f)
      rereadFrame k f spot failed live old d.half
    | none =>
      let f : FrameWork := {
        opu := k.val, layer := r.layer, track := x.track, sector := x.sector, role := roleOf x.track, vol := x.vol, lsa := x.lsa, block := x.block
        member := x.member, parity := x.parity, needs := x.needs, half := d.half, group := d.triple.getD 0, live := live }
      if failed = false then emit (.frames fun l => l ++ [f])
      else if x.needs ≠ [] then
        emit (.frames fun l => l ++ [f])
        climb k f
    reducedJump k x.track x.sector
    assignPool

/-- A T lane passes a frame to the checker, which keeps the last 64 (R203, R255). -/
def passRaw (k : Fin 8) (x : FrameRead) (c : LanePass) : Act Unit :=
  emit (.writer k fun w => { w with tFrames := ({
    track := x.track, sector := x.sector, outputs := c.frame, found := c.flags.found, timingLimit := c.timing.held, lost := x.lost } :: w.tFrames).take 64 })

/-- SECTOR_FRAME (R191 to R203, R206, R208): lane n has passed one frame. -/
def execSectorFrame (n : Fin 36) (x : FrameRead) (s : State) : Answer :=
  answerWhen s.channelsLive (do
    endReads
    if s.laneRuns n then
      let i : Fin 32 := Fin.ofNat 32 (s.laneInput n.val)
      let c := s.runLane n x
      let r := s.retain i x c
      laneFrame n i x c
      if i.val % 4 = 3 then passRaw (opuOfInput i.val) x c else passFrame i x r c.frame
      let t ← rd
      if t.inputs[i].trial.isSome then trialFrame n i c.flags.found
      forAll laneList (fun m => do
        let t ← rd
        if t.laneInput m.val / 4 = i.val / 4 ∧ t.syncFails m then
          emit (.lane m fun l => { l with frames := [] })
          let j : Fin 32 := Fin.ofNat 32 (t.laneInput m.val)
          if t.inputs[j].trial.isNone then syncFault m j)) s

/-! ### Global iterations (R223, R224) -/

/-- LOCAL_g. -/
def State.localMax (s : State) (g : Nat) : Nat :=
  if g ≤ 1 then s.get F.LDP_CTL_LOCAL_1 else if g = 2 then s.get F.LDP_CTL_LOCAL_2 else s.get F.LDP_CTL_LOCAL_3

/-- The alignment hypothesis that a frame is detected under (R204). -/
def State.hypothesisOf (s : State) (f : FrameWork) : Int :=
  if f.rung = 1 then (hypotheses (s.get (F.RCH_SYNC_CTL_HYP_MAX f.opu))).getD f.hyp 0 else 0

/-- The detector pass and decode of a frame's next global iteration (R223, R232). -/
def State.decodeOnce (s : State) (k : Fin 8) (f : FrameWork) : (List Int × List Int) × Attempt :=
  let pass := s.detectorPass k f (s.hypothesisOf f)
  (pass, decodeLlrs (if f.rung = 2 then s.get F.LDP_CTL_DEEP_LOCAL else s.localMax (f.g + 1)) pass.1)

/-- Whether an attempt decodes: a zero syndrome and a matching CRC (R63, R64, R223). -/
def Attempt.ok (x : Attempt) : Bool := x.unsatisfied == 0 && headerOk (hardPayload x.post)

/-- A frame after a global iteration: the decoder is free, the extrinsics are the priors of the next, and a hypothesis that has had its iterations gives way to
the next one. The attempt with the fewest unsatisfied checks is kept, or the latest among equals (R204, R223, R230, R237). -/
def State.afterDecode (s : State) (f : FrameWork) (pass : List Int × List Int) (x : Attempt) : FrameWork :=
  let f := { f with
    attempts := min 255 (f.attempts + if f.g = 0 then 1 else 0), best := min f.best x.unsatisfied
    post := if x.unsatisfied ≤ f.best then x.post else f.post, decoder := none, llr := pass.1, levels := pass.2, extrinsic := x.extrinsic, hard := x.hard
    g := f.g + 1 }
  if f.rung = 1 ∧ s.get F.LDP_CTL_GLOBAL_MAX ≤ f.g then { f with hyp := f.hyp + 1, g := 0, extrinsic := [], hard := [] } else f

/-- A frame has decoded (R204, R223, R224). -/
def deliverFrame (k : Fin 8) (f : FrameWork) (payload : List Byte) : Act Unit := do
  addWrap F.LDP_CW_CNT_CNT 1
  if f.rung = 0 ∧ f.role = .heldOver then addWrap (F.RCH_JD_REDEC_OK_CNT_CNT k.val) 1
  if f.rung = 1 then addWrap (F.RCH_ALIGN_CNT_CNT k.val) 1
  if 4 ≤ f.top then markWeak k f.layer f.track f.sector
  frameDecoded k f payload

/-- A frame whose iterations have all failed: rung 6 waits for its next capture, any other work ends (R223, R224, R232). -/
def scheduleFailed (k : Fin 8) (f : FrameWork) : Act Unit := do
  let s ← rd
  if f.rung = 0 then frameFailed k f
  else if f.rung = 6 ∧ f.captures < s.get F.LDP_LADDER_MARGIN_REVS then setFrame k f.track f.sector (fun f => { f with fresh := false })
  else climb k f

/-- DECODE_ITERATION_DONE (R223, R224, R230, R235): a decoder has ended a global iteration on a captured frame. -/
def execDecodeIterationDone (k : Fin 8) (track sector : Nat) (s : State) : Answer :=
  answerWhen s.channelsLive (do
    match s.frameAt k track sector with
    | none => pure ()
    | some f =>
      if f.decoder.isSome then
        if s.hasWork f then
          let x := s.decodeOnce k f
          let g := s.afterDecode f x.1 x.2
          addWrap F.LDP_ITER_CNT_CNT x.2.iterations
          setFrame k track sector (fun _ => g)
          if x.2.ok then deliverFrame k g (hardPayload x.2.post)
          else if s.hasWork g = false then scheduleFailed k g
        else
          setFrame k track sector (fun f => { f with decoder := none })
          if f.rung ≠ 0 ∨ s.get F.LDP_CTL_GLOBAL_MAX ≤ f.g then scheduleFailed k { f with decoder := none }
        endReads
        assignPool) s

/-- The global iterations that are left of a rung, at most `n`: the frame after them, the local iterations made, and the payload that it decodes to. -/
def State.decodeRest (s : State) (k : Fin 8) : Nat → FrameWork → Nat → FrameWork × Nat × Option (List Byte)
  | 0, f, iters => (f, iters, none)
  | n + 1, f, iters =>
    if s.hasWork f = false then (f, iters, none)
    else
      let x := s.decodeOnce k f
      let g := s.afterDecode f x.1 x.2
      if x.2.ok then (g, iters + x.2.iterations, some (hardPayload x.2.post)) else s.decodeRest k n g (iters + x.2.iterations)

/-- RUNG_DONE (R204, R232, R233): the rung that a sector is on has ended, with the iterations that it had left. -/
def execRungDone (k : Fin 8) (track sector : Nat) (s : State) : Answer :=
  answerWhen s.channelsLive (do
    endReads
    let s ← rd
    match s.frameAt k track sector with
    | none => pure ()
    | some f =>
      if 1 ≤ f.rung then
        let r := s.decodeRest k 24 f 0
        addWrap F.LDP_ITER_CNT_CNT r.2.1
        setFrame k track sector (fun _ => { r.1 with decoder := none })
        match r.2.2 with
        | some p => deliverFrame k r.1 p
        | none => climb k { r.1 with decoder := none }
        assignPool) s

/-! ### Outer code (R231, R234) -/

/-- The places of a block's sectors in their band, 16 of data and then parity: track offset and sector (R55). -/
def Band.blockPlaces (b : Band) (i : Nat) : List (Nat × Nat) :=
  (List.range (16 + b.parity)).map (fun q =>
    (placeFrom b.holes (sptOf (bandZone b.num)) bandTracks (dataStart b.num) (i * (16 + b.parity) + q)).getD (bandTracks, 0))

/-- The payload that the buffers hold of a place of a band, or of the relocated copy in its place (R234). -/
def State.blockSector (s : State) (k : Fin 8) (b : Band) (p : Nat × Nat) : Option (List Byte) :=
  let q := (b.relocs.lookup p).getD p
  (s.cleanCopy k.val (bandLayer b.num) (bandTracks * bandZone b.num + q.1) q.2).map SectorCopy.payload

/-- A rebuilt sector is delivered when its identity is the one expected, and climbs on otherwise (R234). -/
def takeRebuilt (k : Fin 8) (track sector : Nat) (payload : List Byte) : Act Unit := do
  let s ← rd
  match s.frameAt k track sector with
  | none => pure ()
  | some f =>
    if f.parity ∨ f.expects payload then
      noteDecoded f payload
      storeCopy { s.copyOf f payload with rebuilt := true }
      noteScrub k f .rebuilt
      dropFrame k track sector
    else climb k f

/-- OUTER_REBUILD_DONE (R234): outer decoder `j` rebuilds the block of the sector at a track and sector, which is on rung 3 or past it, when no more of
its sectors are missing than it has parity sectors. -/
def execOuterRebuildDone (k : Fin 8) (j : Fin 4) (track sector : Nat) (s : State) : Answer :=
  answerWhen s.channelsLive (do
    match s.discIn (bayOf k) with
    | none => pure ()
    | some d =>
      let layer := ((s.frameAt k track sector).map FrameWork.layer).getD (s.optLayer k)
      let b := d.band (bandOf (k.val % 2) layer (zoneOf track))
      let places := b.blockPlaces (b.frameAt (track % bandTracks) sector / (16 + b.parity))
      let sectors := places.map (s.blockSector k b)
      if bitAt (s.get F.LDP_STAT_OUTER_FAILED) j.val = false ∧ (s.frameAt k track sector).any (fun f => decide (3 ≤ f.rung)) ∧
          sectors.any Option.isNone then
        match rebuildBlock b.parity sectors with
        | none => pure ()
        | some l =>
          addWrap F.LDP_OUTER_CNT_CNT 1
          raiseLdp ldpOUTER_REBUILD k.val
          markWeak k layer track sector
          forAll (List.range places.length) (fun q =>
            if (sectors.getD q none).isNone then
              let p := places.getD q (0, 0)
              takeRebuilt k (bandTracks * bandZone b.num + p.1) p.2 (l.getD q [])
            else pure ())) s

/-- DECODER_FAULT (R231, R544): an uncorrectable error in the memories of LDPC decoder `j`, or of outer decoder `j`. The work is
restarted elsewhere. -/
def execDecoderFault (outer : Bool) (j : Fin 16) (s : State) : Answer :=
  answerWhen s.awake (do
    let f := if outer then F.LDP_STAT_OUTER_FAILED else F.LDP_STAT_DEC_FAILED
    if (outer = false ∨ j.val < 4) ∧ bitAt (s.get f) j.val = false then
      let single : SingleFault := if outer then .outer j.val else .decoder j.val
      beginSingle single
      setF f (setBit (s.get f) j.val true)
      raiseLdp ldpDECODER_FAILED (if outer then 16 + j.val else j.val)
      degrade (if outer then .outer j.val else .decoder j.val)
      if outer = false then
        emit (.frames fun l => l.map (fun f => if f.decoder = some j.val then { f with decoder := none } else f))
        assignPool
      endSingle single) s

end Sys2Proof.Machine
end

