-- ==== Sys2Proof/Machine/DyntoData.lean ====
section
/-! DEFINITION. The Dynto instructions on data, strands and volumes (R371 to R392): what each does once it has been dispatched. A
command about an instruction that is not in progress, or whose opcode is another, leaves the state as it is. -/

namespace Sys2Proof.Machine

/-! ### Checks that several share (R355, R356, R373, R390) -/

/-- Whether a DELETE_VOLUME fetched earlier, which will be carried out, names the volume (R390). -/
def State.deleting (s : State) (vol id : Nat) : Bool :=
  s.insts.any (fun j => j.opcode == opDELETEV && j.volume == vol && decide (j.id < id) && isAdmin j.fn && j.operand == s.createSeq vol % 2 ^ 32 &&
    !s.strands.any (fun t => t.vol == vol && (t.state == .opened || t.state == .closing)))

/-- Step 5 of R355 for the volume that an instruction names. -/
def State.checkVolume (s : State) (i : Inst) : Option (Nat × Nat) :=
  if s.volumes.any (fun v => v.num == i.volume) ∧ s.deleting i.volume i.id = false then none else some (cINVALID_VOLUME, 0)

/-- A WRITE fetched before the CLOSE_STRAND of its strand still joins it (R392). -/
def State.closesAfter (s : State) (i : Inst) : Bool :=
  let closes := s.insts.filter (fun j => j.opcode == opCLOSE && j.strand == i.strand)
  !closes.isEmpty && closes.all (fun j => decide (i.id < j.id))

/-- Step 5 of R355 for the strand of a WRITE, READ, VERIFY or FLUSH (R373). -/
def State.checkOpenStrand (s : State) (i : Inst) (bound : Bool) : Option (Nat × Nat) :=
  match s.strand i.strand with
  | none => some (cINVALID_STRAND, 0)
  | some t =>
    let live : Bool := t.state == .opened || (t.state == .closing && i.opcode == opWRITE && s.closesAfter i)
    if live ∧ t.owner = i.fn ∧ (bound = false ∨ t.vol = i.volume) then none else some (cINVALID_STRAND, 0)

/-- The same for READ, VERIFY and FLUSH, which may name no strand (R372). -/
def State.checkSomeStrand (s : State) (i : Inst) : Option (Nat × Nat) := if i.strand = 0 then none else s.checkOpenStrand i false

/-- The same for CLOSE_STRAND, SEAL_STRAND and QUERY_STRAND (R372, R373). -/
def State.checkOwnStrand (s : State) (i : Inst) : Option (Nat × Nat) :=
  match s.strand i.strand with
  | none => some (cINVALID_STRAND, 0)
  | some t => if t.vol = i.volume ∧ (t.owner = i.fn ∨ isAdmin i.fn) then none else some (cINVALID_STRAND, 0)

/-- The instruction waits for something else (R357). -/
def holdInst (id : Nat) (g : Inst → Inst) : Act Unit := setInst id (fun i => { g i with stage := .waiting })

/-- A buffer word that the part cannot correct held the instruction or its list (R490, R544): the fault is recovered at once. -/
def lostWord (i : Inst) : Act Unit := do
  beginSingle .buffer
  complete i.id cINTERNAL_ERROR Ev.SINGLE_FAULT_BEGIN
  endSingle .buffer

/-- One that held sectors has poisoned them (R490, R495). -/
def badWords (n : Nat) : Act Unit := do
  if 0 < n then
    beginSingle .buffer
    raise Ev.DATA_POISON_SET
    endSingle .buffer

/-! ### NOP (R373) -/

/-- NOP (R373): completes with SUCCESS. -/
def execNop (id : Nat) (s : State) : Answer :=
  answer (perform id opNOP (fun _ i => [i.checkFields {} [] {}]) (fun _ => complete id cSUCCESS 0)) s

/-! ### WRITE (R381) -/

/-- Whether an earlier WRITE of the strand from the same ring has yet to commit (R358). -/
def State.earlierWrite (s : State) (i : Inst) : Bool :=
  s.insts.any (fun j => j.opcode == opWRITE && j.fn == i.fn && j.sq == i.sq && j.strand == i.strand && decide (j.id < i.id) &&
    j.stage != .gated)

/-- The extents that a range of sectors touches. -/
def extentsOf (lsa count : Nat) : List Nat :=
  (List.range (extentOf (lsa + count - 1) - extentOf lsa + 1)).map (extentOf lsa + ·)

/-- The bits of a range of sectors in an extent's WRITTEN. -/
def rangeMask (lsa count ext : Nat) : BitVec 256 :=
  let lo := max lsa (256 * ext) - 256 * ext
  let hi := min (lsa + count) (256 * ext + 256) - 256 * ext
  BitVec.ofNat 256 (2 ^ hi - 2 ^ lo)

/-- The commit of a WRITE (R381): consecutive SEQs in ascending LSA, the copies in DRAM that it supersedes, the strand's stream,
WRITTEN and GEN of its extents. -/
def commitWrite (i : Inst) (mem : HostMem) (data : List Sector) : Act Unit := do
  let s ← rd
  let n := i.count
  let first := s.nextSeq
  emit (.issue n)
  let fresh : List CacheSector := (List.range n).map (fun k =>
    { vol := i.volume, lsa := i.lsa + k, seq := first + k, strand := i.strand, data := data.getD k 0, at_ := s.now, cls := i.cls, inst := i.id
      poison := mem.bad.contains (i.lsa + k) })
  let covers (c : CacheSector) : Bool := c.vol == i.volume && decide (i.lsa ≤ c.lsa) && decide (c.lsa < i.lsa + n)
  emit (.cache fun l => l.map (fun c => if covers c then { c with stale := true } else c) ++ fresh)
  forAll (extentsOf i.lsa n) (fun e => setExtent i.volume e (fun x =>
    { x with written := x.written ||| rangeMask i.lsa n e, gen := x.gen + 1 }))
  setStrand i.strand (fun t => { t with firstSeq := if t.sectors = 0 then first else t.firstSeq, lastSeq := first + n - 1
                                        sectors := t.sectors + n, dirty := true })
  setInst i.id (fun i => { i with stage := .gated, code := cSUCCESS, dw0 := first % 2 ^ 32, covers := [(i.strand, first, first + n - 1)] })
  badWords ((fresh.filter CacheSector.poison).length)
  checkSpace i.volume

/-- WRITE (R381, R329, R300): its sectors join the write cache and the strand's stream; its completion is posted at the commit, or
waits at the gate. -/
def execWrite (id : Nat) (mem : HostMem) (data : List Sector) (s : State) : Answer :=
  answer (do
    match s.dispatched id opWRITE with
    | none => pure ()
    | some i =>
      if s.earlierWrite i = false then
        perform id opWRITE (fun s i =>
          let space : Bool := match s.strand i.strand with
            | some t => decide (s.demandWith i.volume i.lsa i.count t.compress ≤ s.writable i.volume)
            | none => false
          [ i.checkFields { strand := true, volume := true, lsa := true, count := some (1, 65536), buffer := true } [] mem,
            s.checkOpenStrand i true, s.checkVolume i, i.checkBuffer (4096 * i.count) mem,
            (if space then none else some (cNO_SPACE, 0)), checkDma mem ]) (fun i => do
          if mem.lost then lostWord i
          else
            commitWrite i mem data
            let s ← rd
            match s.inst id with
            | none => pure ()
            | some i => if s.gateOpen i then postWrite i)) s

/-! ### READ and VERIFY (R383 to R386) -/

/-- A sector as a READ finds it: bytes, poison, highest rung, and its salvage record beyond the bytes (R237). -/
structure Found where
  data : Sector
  poison : Bool := false
  rung : Nat := 0
  salvage : Option (List Byte) := none
deriving DecidableEq, Repr

/-- The read-ahead copy of a sector whose extent's GEN has not changed (R328). -/
def State.readAheadOf (s : State) (vol lsa disc : Nat) : Option ReadAhead :=
  ((s.disc disc).bind Disc.bay).bind (fun b => s.bays[b].readAhead.find? (fun x =>
    x.vol == vol && x.lsa == lsa && x.gen == (s.extent vol (extentOf lsa)).gen))

/-- Where a READ or a VERIFY takes a sector (R316, R386): with `scope`, its disc copy where it has one. -/
def State.sourceOf (s : State) (vol lsa : Nat) (scope : Bool) : Place :=
  match s.resolve vol lsa, scope, (s.extent vol (extentOf lsa)).disc with
  | .unwritten, _, _ => .unwritten
  | p, true, some d => if (s.discVer vol lsa).isSome then .disc d.1 else p
  | p, _, _ => p

/-- The sectors of a range that must come from a disc: LSA and DISC_ID. A VERIFY of disc copies uses no read-ahead. -/
def State.discNeeds (s : State) (i : Inst) (scope : Bool) : List (Nat × Nat) :=
  ((List.range i.count).map (i.lsa + ·)).filterMap (fun a =>
    match s.sourceOf i.volume a scope with
    | .disc d => if scope = false ∧ (s.readAheadOf i.volume a d).isSome then none else some (a, d)
    | _ => none)

/-- The side that holds the disc copy of a sector. -/
def State.discSide (s : State) (vol lsa : Nat) : Nat := ((s.extent vol (extentOf lsa)).disc.map (fun d => bandSide d.2.1)).getD 0

/-- An element that a disc read needs and that is failed or unavailable (R351, R394). -/
def State.bayDown (s : State) (b : Fin 4) (side : Nat) : Bool :=
  s.chip.degraded.contains (.bay b.val) || s.chip.degraded.contains (.opu (opuOf b side).val)

/-- The code that a needed sector ends a READ with (R383, R384). -/
def State.needFails (s : State) (vol : Nat) (x : Nat × Nat) : Option (Nat × Nat) :=
  match (s.disc x.2).bind Disc.bay with
  | none => some (cDISC_NEEDED, x.2 % 2 ^ 32)
  | some b =>
    if s.bayState b.val = bFAULTED then some (cBAY_FAULTED, b.val)
    else if s.bayDown b (s.discSide vol x.1) then some (cELEMENT_UNAVAILABLE, Ev.BOOT_STEP_FAIL)
    else none

/-- The codes of R384 under 1: DISC_NEEDED first, for the lowest LSA. -/
def State.readStop (s : State) (i : Inst) (need : List (Nat × Nat)) : Option (Nat × Nat) :=
  let fails := need.filterMap (s.needFails i.volume)
  match fails.find? (fun f => f.1 == cDISC_NEEDED) with
  | some f => some f
  | none => fails.head?

/-- The bays of the discs needed. -/
def State.needBays (s : State) (need : List (Nat × Nat)) : List (Fin 4) :=
  ((need.map Prod.snd).eraseDups.filterMap (fun d => (s.disc d).bind Disc.bay)).eraseDups

/-- Whether a bay reads now. -/
def State.bayReads (s : State) (b : Fin 4) : Bool := s.bayState b.val == bREADY || s.bayState b.val == bREADING

/-- The OPUs of a bay that a READ needs, with layer and track of the first extent that each is to read, lowest LSA first. -/
def State.readPlaces (s : State) (i : Inst) (b : Fin 4) : List (Fin 8 × Nat × Nat) :=
  (s.discNeeds i (i.opcode == opVERIFY && bitAt i.operand 0)).filterMap (fun x =>
    match (s.extent i.volume (extentOf x.1)).disc with
    | some p => if ((s.disc p.1).bind Disc.bay) = some b then
        some (opuOf b (bandSide p.2.1), bandLayer p.2.1, bandTracks * bandZone p.2.1 + p.2.2.1)
      else none
    | none => none)

/-- The OPUs of a bay that write nothing go to where a READ begins (R262). -/
def moveToRead (i : Inst) (b : Fin 4) : Act Unit := do
  let s ← rd
  forAll (opusOf b) (fun k =>
    match (s.readPlaces i b).find? (fun p => p.1 == k) with
    | some p => if s.writers[k].busy then pure () else goTo k p.2.1 p.2.2
    | none => pure ())

/-- A write session gives way to a read of a higher class: the seeks that it has in progress are paused and kept with their targets and what was left of them, and the sleds move for
the read (R176, R261, R262). -/
def giveWay (i : Inst) (b : Fin 4) : Act Unit := do
  let s ← rd
  let seeks := (opusOf b).filterMap (fun k =>
    if s.axisState (sledOf k) = axRUN then s.axes[sledOf k].seek.map (fun t => (k, t)) else none)
  forAll seeks (fun p => do
    pauseAxis (sledOf p.1)
    let s ← rd
    emit (.bay b fun y => { y with paused := y.paused ++ [(p.1.val, p.2, s.geti (F.STP_REMAIN_DIST (sledOf p.1).val))] })
    clearAxis (sledOf p.1) axIDLE rDONE
    if s.optics[p.1].phase = .seeking then optEnd p.1 rABORTED)
  suspendSession b
  moveToRead i b

/-- What a READ does to the bays that it needs and that do not read yet (R22, R30, R261, R359). -/
def askBay (i : Inst) (b : Fin 4) : Act Unit := do
  let s ← rd
  if s.bayState b.val = bWRITING then
    match s.bays[b].session with
    | some x => if i.cls < s.sessionClass x.vol ∧ x.suspended = false then giveWay i b
    | none => pure ()
  else if s.bayReads b = false then needBay b

/-- A sector found for a READ; none while it has not been delivered from its disc (R19). -/
def State.findSector (s : State) (i : Inst) (scope : Bool) (lsa : Nat) : Option Found :=
  match s.sourceOf i.volume lsa scope with
  | .unwritten => some { data := 0 }
  | .dram c => some { data := c.data, poison := c.poison }
  | .landing x => some { data := x.data, poison := x.poison }
  | .lost => some { data := 0, poison := true }
  | .disc d =>
    match (if scope then none else s.readAheadOf i.volume lsa d) with
    | some r => some { data := r.data, poison := r.poison }
    | none => (s.discSector i.volume i.cls lsa).map (fun x =>
        { data := x.data, poison := x.bad, rung := x.rung, salvage := x.salvage })

/-- All or nothing. -/
def allSome {α : Type} : List (Option α) → Option (List α)
  | [] => some []
  | none :: _ => none
  | some x :: l => (allSome l).map (x :: ·)

/-- The salvage bytes 4,096 to 4,623 of a poisoned sector (R237, R385): for one poisoned outside the disc path, an erasure map of all
ones, rung 0, 0 attempts and 4,096 erased bytes. -/
def Found.entry (f : Found) : List Byte :=
  if f.poison then
    match f.salvage with
    | some l => (l ++ zeroBytes 528).take 528
    | none => List.replicate 512 0xFF ++ leBytes 2 0 ++ leBytes 1 0 ++ leBytes 1 0 ++ leBytes 2 4096 ++ zeroBytes 10
  else zeroBytes 528

/-- The poison map of R385. -/
def poisonMap (l : List Bool) : List Byte :=
  (List.range (16 * ceilDiv l.length 128)).map (fun j =>
    BitVec.ofNat 8 ((List.range 8).map (fun b => if l.getD (8 * j + b) false then 2 ^ b else 0)).sum)

/-- What a READ writes to the buffer: with SALVAGE 0 the bytes of a poisoned sector are undefined, and are free values (R384). -/
def deliver : List Found → Bool → Act (List Sector)
  | [], _ => return []
  | f :: l, salvage => do
    if f.poison = true ∧ salvage = false then
      let v ← freeValue 32768
      let r ← deliver l salvage
      return BitVec.ofNat 32768 v :: r
    else
      let r ← deliver l salvage
      return f.data :: r

/-- The sectors past a READ's range that the decoded-sector buffers hold (R328). -/
def State.aheadLsas (s : State) (i : Inst) : List Nat :=
  (((s.copies i.volume destageClass).flatMap (fun x =>
    if x.member.isNone then [x.lsa] else (List.range 16).map (x.lsa + ·))).eraseDups).filter (fun a => decide (i.lsa + i.count ≤ a))

/-- The sectors read ahead are kept with the GEN of their extents, up to READAHEAD_MAX, the least recently used leaving first
(R328). -/
def keepAhead (i : Inst) (b : Fin 4) (used : List Nat) : Act Unit := do
  let s ← rd
  let ahead := s.discSectors i.volume destageClass (s.aheadLsas i)
  let room := 256 * s.policy pREADAHEAD_MAX
  let id := (s.discIn b).map Disc.id
  let good (d : DiscSector) : Bool := !d.bad &&
    match s.resolve i.volume d.lsa with
    | .disc x => id == some x
    | _ => false
  let new : List ReadAhead := (ahead.filter good).map (fun d =>
    { vol := i.volume, lsa := d.lsa, gen := (s.extent i.volume (extentOf d.lsa)).gen, data := d.data })
  emit (.bay b fun y =>
    let old := y.readAhead.filter (fun x => !new.any (fun n => n.vol == x.vol && n.lsa == x.lsa))
    let isUsed (x : ReadAhead) : Bool := x.vol == i.volume && used.contains x.lsa
    let l := old.filter (fun x => !isUsed x) ++ old.filter isUsed ++ new
    { y with readAhead := l.drop (l.length - room) })

/-- Discs needed and not mounted are requested (R320, R383). -/
def requestNeeds (vol : Nat) (need : List (Nat × Nat)) : Act Unit := do
  let s ← rd
  forAll (need.map Prod.snd).eraseDups (fun d =>
    if ((s.disc d).bind Disc.bay).isNone then requestDisc d vol reasonREAD else pure ())

/-- A READ or VERIFY whose sectors have all been delivered: its code and DW0 under R384 and R386. -/
def readCode (found : List Found) (verify : Bool) : Nat × Nat :=
  let hard := (found.filter (fun f => decide (3 ≤ f.rung))).length
  let dw0 := if verify then hard else 0
  match found.findIdx? Found.poison with
  | some k => (cDATA_POISONED, k)
  | none => if 0 < hard then (cRECOVERED, dw0) else (cSUCCESS, dw0)

/-- Whether something reads a bay: an instruction, a scrub, or a needed sector in decoding. -/
def State.readsFrom (s : State) (b : Fin 4) : Bool :=
  s.insts.any (fun i => (i.opcode == opREAD || i.opcode == opVERIFY) &&
    (s.needBays (s.discNeeds i (i.opcode == opVERIFY && bitAt i.operand 0))).contains b) ||
  (s.discIn b).any Disc.scrubRunning || s.frames.any (fun f => f.opu / 2 == b.val && !f.needs.isEmpty)

/-- A bay that nothing reads any more is READY again (R46), and its read has ended (R228). -/
def stopReading (b : Fin 4) : Act Unit := do
  let s ← rd
  if s.bayState b.val = bREADING ∧ s.readsFrom b = false then
    setBay b bREADY
    endReads

/-- What READ and VERIFY share: stops on the discs it needs, brings their bays to read, and hands over the sectors once they have all
been delivered. -/
def readRange (i : Inst) (scope : Bool) (k : List Found → Act Unit) : Act Unit := do
  let s ← rd
  let need := s.discNeeds i scope
  if s.mode = mSAFE ∧ !need.isEmpty then complete i.id cWRONG_MODE mSAFE
  else
    match s.readStop i need with
    | some x =>
      requestNeeds i.volume need
      complete i.id x.1 x.2
    | none =>
      let bays := s.needBays need
      if bays.all s.bayReads then
        match allSome (((List.range i.count).map (i.lsa + ·)).map (s.findSector i scope)) with
        | none => forAll bays (fun b => do
            if s.bayState b.val = bREADY then moveToRead i b
            setBay b bREADING)
        | some l =>
          let l' := need.map Prod.fst
          noteRebuilt i.volume (((List.range i.count).map (i.lsa + ·)).filter (fun a =>
            match s.sourceOf i.volume a scope with
            | .landing _ => true
            | _ => false))
          noteChunks (s.discSectors i.volume i.cls l')
          k l
          dropCopies i.volume i.cls l'
          forAll bays stopReading
      else forAll bays (askBay i)

/-- READ (R383 to R385): delivers each sector of the range. -/
def execRead (id : Nat) (mem : HostMem) (s : State) : Answer :=
  answer (perform id opREAD (fun s i =>
    let c := i.count
    let need := 4096 * c + if i.salvage then 16 * ceilDiv c 128 + 528 * c else 0
    [ i.checkFields { strand := true, volume := true, lsa := true, count := some (1, 65536), buffer := true } [] mem,
      s.checkSomeStrand i, s.checkVolume i, i.checkBuffer need mem ]) (fun i => do
    if mem.lost then lostWord i
    else
      readRange i false (fun found => do
        if mem.ok = false then complete id cDMA_FAULT 0
        else
          let s ← rd
          let bays := s.needBays (s.discNeeds i false)
          let hurt := ((List.range i.count).filter (fun k => mem.bad.contains (i.lsa + k))).length
          let found := found.zipIdx.map (fun x => if mem.bad.contains (i.lsa + x.2) then { x.1 with poison := true, salvage := none } else x.1)
          let l ← deliver found i.salvage
          emit (.out (.sectors id l))
          if i.salvage then writeBuffer id (poisonMap (found.map Found.poison) ++ found.flatMap Found.entry)
          badWords hurt
          forAll bays (fun b => keepAhead i b ((List.range i.count).map (i.lsa + ·)))
          let s ← rd
          if !bays.isEmpty then dropCopies i.volume destageClass (s.aheadLsas i)
          let c := readCode found false
          complete id c.1 c.2))) s

/-- VERIFY (R386): reads the range, or its disc copies, and transfers nothing. -/
def execVerify (id : Nat) (s : State) : Answer :=
  answer (perform id opVERIFY (fun s i =>
    [ i.checkFields { strand := true, volume := true, lsa := true, count := some (1, 65536), operand := 1 } [] {},
      s.checkSomeStrand i, s.checkVolume i ]) (fun i =>
    readRange i (bitAt i.operand 0) (fun found => do
      let c := readCode found true
      complete id c.1 c.2))) s

/-! ### FLUSH (R363, R387) -/

/-- A disc is requested for a volume whose data waits for destage, when none with room is mounted (R322, R387). -/
def wantDisc (vol : Nat) : Act Unit := do
  let s ← rd
  if !(s.awaiting vol).isEmpty ∧ !(s.discsOf vol).any (fun d => d.bay.isSome && decide (0 < d.writable) && !d.compacting) then
    startSession vol

/-- The volumes of the strands that an instruction covers. -/
def State.coveredVolumes (s : State) (i : Inst) : List Nat := (i.covers.filterMap (fun c => (s.strand c.1).map Strand.vol)).eraseDups

/-- FLUSH (R387): waits until what it covers has reached its scope. -/
def execFlush (id : Nat) (s : State) : Answer :=
  answer (perform id opFLUSH (fun s i =>
    [ i.checkFields { strand := true, operand := 1 } [] {}, s.checkSomeStrand i ]) (fun i => do
    holdInst id (fun i => { i with data := [i.operand] })
    let s ← rd
    if i.operand = 1 ∨ s.zone = zFROZEN then forAll (s.coveredVolumes i) wantDisc
    else padFor (fun x => i.covers.any (fun c => x.strand == c.1 && decide (c.2.1 ≤ x.ver) && decide (x.ver ≤ c.2.2))))) s

/-! ### Strands (R374 to R380) -/

/-- The lowest free strand number (R374). -/
def State.freeStrandNum (s : State) : Option Nat :=
  ((List.range (s.strands.length + 1)).map (· + 1)).find? (fun n => decide (n ≤ 262143) && !s.strands.any (fun t => t.num == n))

/-- Checks of OPEN_STRAND, with ADOPT and without (R372, R375, R376). -/
def State.checkOpen (s : State) (i : Inst) : List (Option (Nat × Nat)) :=
  let adopt := bitAt i.operand 2
  [ i.checkFields { strand := adopt, volume := true, operand := 7 } (if i.operand % 4 = 3 then [20] else []) {}, s.checkVolume i ]

/-- Runs an instruction when the row is the one it belongs to. -/
def performRow (row : Inst → Bool) (id op : Nat) (checks : State → Inst → List (Option (Nat × Nat))) (m : Inst → Act Unit) : Act Unit := do
  if ((← rd).dispatched id op).any row then perform id op checks m

/-- OPEN_STRAND (R375): a strand in OPEN, bound to a volume. -/
def execOpenStrand (id : Nat) (s : State) : Answer :=
  answer (performRow (fun i => !bitAt i.operand 2) id opOPEN State.checkOpen (fun i => do
    let s ← rd
    match s.freeStrandNum, s.volumes.find? (fun v => v.num == i.volume) with
    | some n, some v =>
      let m := i.operand % 4
      let t : Strand := { num := n, vol := i.volume, owner := i.fn, compress := if m = 0 then v.compress else m == 2
                          digest := Running.empty, openTime := s.timeStamp, digestSeq := s.nextSeq - 1, loggedSeq := s.nextSeq - 1 }
      emit (.strands fun l => l ++ [t])
      complete id cSUCCESS n
    | _, _ => complete id cSTRAND_LIMIT 0)) s

/-- Whether a function may adopt a strand (R376). -/
def State.mayAdopt (s : State) (f : Fin 4) (t : Strand) : Bool :=
  t.state == .opened && (isAdmin f || !s.linkUp (portOf t.owner))

/-- OPEN_STRAND_ADOPT (R376): an OPEN strand passes to the issuing function. -/
def execOpenStrandAdopt (id : Nat) (s : State) : Answer :=
  answer (performRow (fun i => bitAt i.operand 2) id opOPEN (fun s i => s.checkOpen i ++
    [if (s.strand i.strand).any (fun t => s.mayAdopt i.fn t && t.vol == i.volume) then none else some (cINVALID_STRAND, 0)]) (fun i => do
    setStrand i.strand (fun t => { t with owner := i.fn, dirty := true })
    complete id cSUCCESS i.strand)) s

/-- CLOSE_STRAND (R378): waits for the strand's sectors, then closes it and writes its summary. -/
def execCloseStrand (id : Nat) (mem : HostMem) (s : State) : Answer :=
  answer (perform id opCLOSE (fun s i =>
    [ i.checkFields { strand := true, volume := true, buffer := true } [] mem, s.checkVolume i, s.checkOwnStrand i, i.checkBuffer 64 mem,
      checkDma mem ]) (fun i => do
    if mem.lost then lostWord i
    else
      beginClose i
      padFor (fun x => x.strand == i.strand)
      holdInst id (fun i => i))) s

/-- SEAL_STRAND (R379): waits until the strand is on disc, then signs and stores its seal record. -/
def execSealStrand (id : Nat) (mem : HostMem) (s : State) : Answer :=
  answer (perform id opSEAL (fun s i =>
    let closed : Bool := (s.strand i.strand).any (fun t => t.state == .closed || t.state == .sealed)
    [ i.checkFields { strand := true, volume := true, buffer := true } [] mem, s.checkVolume i, s.checkOwnStrand i,
      (if closed then none else some (cINVALID_STRAND, 0)), i.checkBuffer 256 mem,
      (if s.chip.degraded.contains .identity then some (cELEMENT_UNAVAILABLE, Ev.IDENTITY_UNAVAILABLE) else none), checkDma mem ]) (fun i => do
    if mem.lost then lostWord i
    else
      let s ← rd
      let c := match s.strand i.strand with
        | some t => [(t.num, t.firstSeq, t.lastSeq)]
        | none => []
      holdInst id (fun i => { i with data := [1], covers := c })
      wantDisc i.volume)) s

/-- The state codes of the strand record (R380). -/
def StrandState.code : StrandState → Nat
  | .opened => 1
  | .closing => 2
  | .closed => 3
  | .sealed => 4

/-- The strand record (R380). -/
def State.strandRecord (s : State) (t : Strand) : List Byte :=
  let done : Bool := t.state == .closed || t.state == .sealed
  leBytes 4 t.num ++ leBytes 2 t.vol ++ leBytes 1 t.state.code ++ leBytes 1 ((portOf t.owner).val + 2 * (isAdmin t.owner).toNat) ++
  leBytes 1 (1 + t.compress.toNat) ++ leBytes 1 (t.deferred.toNat + 2 * t.digestPoisoned.toNat + 4 * t.incomplete.toNat) ++ zeroBytes 6 ++
  leBytes 8 t.firstSeq ++ leBytes 8 t.lastSeq ++ leBytes 8 t.sectors ++ leBytes 8 (s.durableSeq t) ++ leBytes 8 (s.discSeq t) ++
  leBytes 8 t.firstLost ++ leBytes 8 t.lost ++ leBytes 8 t.stored ++ leBytes 8 t.openTime ++ leBytes 8 (if done then t.closeTime else 0) ++
  (if done then digestBytes t.digest.final else zeroBytes 32)

/-- QUERY_STRAND (R380): writes the strand record, ends the report of a deferred error, and with RELEASE frees the strand. -/
def execQueryStrand (id : Nat) (mem : HostMem) (s : State) : Answer :=
  answer (perform id opQUERYS (fun s i =>
    let busy : Bool := (s.strand i.strand).any (fun t => t.state == .opened || t.state == .closing) ||
      s.insts.any (fun j => j.opcode == opSEAL && j.strand == i.strand && j.stage == .waiting)
    [ i.checkFields { strand := true, volume := true, operand := 1, buffer := true } [] mem, s.checkVolume i, s.checkOwnStrand i,
      (if bitAt i.operand 0 ∧ busy then some (cINVALID_STRAND, 0) else none), i.checkBuffer 128 mem, checkDma mem ]) (fun i => do
    if mem.lost then lostWord i
    else
      let s ← rd
      match s.strand i.strand with
      | none => pure ()
      | some t =>
        writeBuffer id (s.strandRecord t)
        setStrand t.num (fun t => { t with deferred := false, dirty := true })
        if bitAt i.operand 0 then freeStrand t.num
        attend none
        complete id cSUCCESS 0)) s

/-! ### Volumes (R388 to R391) -/

/-- CREATE_VOLUME (R388): a volume with its parity, compression default and label. One of a number waits for an earlier one. -/
def execCreateVolume (id : Nat) (s : State) : Answer :=
  answer (do
    match s.dispatched id opCREATEV with
    | none => pure ()
    | some i =>
      if !s.insts.any (fun j => j.opcode == opCREATEV && j.volume == i.volume && decide (j.id < id)) then
        perform id opCREATEV (fun s i =>
          let p := i.operand % 8
          [ i.checkFields { volume := true, operand := 15, rest := some (36, 16) } (if p < 2 ∨ 4 < p then [20] else []) {},
            (if s.deleting i.volume i.id then some (cINVALID_VOLUME, 0) else none),
            (if s.volumes.any (fun v => v.num == i.volume) then some (cVOLUME_EXISTS, 0) else none) ]) (fun i => do
          let s ← rd
          emit (.issue 1)
          let v : Volume := { num := i.volume, parity := i.operand % 8, compress := bitAt i.operand 3
                              label := BitVec.ofNat 128 (i.bytesAt 36 16), createSeq := s.nextSeq, createTime := s.timeStamp }
          emit (.volumes fun l => l ++ [v])
          complete id cSUCCESS s.nextSeq)) s

/-- DELETE_VOLUME (R390): waits for the instructions fetched before it that name the volume, then deletes it. -/
def execDeleteVolume (id : Nat) (s : State) : Answer :=
  answer (perform id opDELETEV (fun s i =>
    let known : Bool := s.volumes.any (fun v => v.num == i.volume)
    let held : Bool := s.strands.any (fun t => t.vol == i.volume && (t.state == .opened || t.state == .closing))
    [ i.checkFields { volume := true, operand := 2 ^ 32 - 1 } (if known ∧ i.operand ≠ s.createSeq i.volume % 2 ^ 32 then [20] else []) {},
      s.checkVolume i, (if held then some (cINVALID_STRAND, 0) else none) ]) (fun _ => holdInst id (fun i => i))) s

/-- The volume record (R389). -/
def State.volumeRecord (s : State) (v : Volume) : List Byte :=
  let discs := s.discsOf v.num
  let inLanding := ((s.nv.sys.pages.flatMap (fun p => (p.slots.filter (fun x => x.vol == v.num && s.current x)).map Stored.lsa)).eraseDups.filter
    (fun a => (s.cached v.num a).isNone)).length
  let flags := v.spaceLow.toNat + 2 * (discs.any Disc.migrationRequested).toNat +
    4 * (s.extents.any (fun e => e.vol == v.num && e.mergeWait)).toNat
  leBytes 2 v.num ++ leBytes 1 v.parity ++ leBytes 1 v.compress.toNat ++ zeroBytes 4 ++ leBytes 8 v.createSeq ++ leBytes 8 v.createTime ++
  leBytes 16 v.label.toNat ++ leBytes 4 discs.length ++ leBytes 4 (discs.filter (fun d => d.bay.isSome)).length ++
  leBytes 8 (s.writable v.num) ++ leBytes 8 (s.demand v.num) ++
  leBytes 8 (s.cache.filter (fun c => c.vol == v.num && s.atRisk c)).length ++ leBytes 8 inLanding ++
  leBytes 8 ((discs.map Disc.live).sum) ++ leBytes 8 ((discs.map Disc.dead).sum) ++
  leBytes 4 (s.strands.filter (fun t => t.vol == v.num)).length ++ leBytes 4 flags ++ zeroBytes 24

/-- QUERY_VOLUME (R389): writes the volume record. -/
def execQueryVolume (id : Nat) (mem : HostMem) (s : State) : Answer :=
  answer (perform id opQUERYV (fun s i =>
    [ i.checkFields { volume := true, buffer := true } [] mem, s.checkVolume i, i.checkBuffer 128 mem, checkDma mem ]) (fun i => do
    if mem.lost then lostWord i
    else
      let s ← rd
      match s.volumes.find? (fun v => v.num == i.volume) with
      | none => pure ()
      | some v =>
        writeBuffer id (s.volumeRecord v)
        complete id cSUCCESS 0)) s

/-- The number of bits of `m` that are 1. -/
def onesOf (m : BitVec 256) : Nat := ((List.range 256).filter (fun n => m.getLsbD n)).length

/-- One extent of a retirement (R330, R391). -/
def retireExtent (lsa count : Nat) (e : Extent) : Act Unit := do
  let s ← rd
  let mask := rangeMask lsa count e.ext
  let gone (a : Nat) : Bool := decide (lsa ≤ a) && decide (a < lsa + count)
  let dead := (e.onDisc.filter (fun x => gone x.1 && e.written.getLsbD (x.1 % 256))).length
  let rest := e.onDisc.filter (fun x => !gone x.1)
  let e' : Extent := { e with written := e.written &&& ~~~mask, gen := e.gen + 1, onDisc := rest, disc := if rest.isEmpty then none else e.disc
                              logSeq := s.nextSeq }
  setExtent e.vol e.ext (fun _ => e')
  emit (.nv fun v => { v with sys := { v.sys with mapLog := v.sys.mapLog ++ [e'] } })
  match e.disc with
  | none => pure ()
  | some d =>
    setDisc d.1 (fun d => { d with live := d.live - dead, dead := d.dead + dead, changed := true })
    checkDisc d.1

/-- RETIRE_RANGE (R391): the written sectors of a range read as unwritten from one commit on. -/
def execRetireRange (id : Nat) (s : State) : Answer :=
  answer (perform id opRETIRE (fun s i =>
    [ i.checkFields { volume := true, lsa := true, count := some (1, 2 ^ 32 - 1) } [] {}, s.checkVolume i ]) (fun i => do
    let s ← rd
    let lo := i.lsa
    let hi := i.lsa + i.count
    let hit := s.extents.filter (fun e => e.vol == i.volume && decide (256 * e.ext < hi) && decide (lo < 256 * e.ext + 256) &&
      e.written &&& rangeMask lo i.count e.ext != 0)
    let n := (hit.map (fun e => onesOf (e.written &&& rangeMask lo i.count e.ext))).sum
    forAll hit (retireExtent lo i.count)
    emit (.cache fun l => l.map (fun c =>
      if c.vol == i.volume && decide (lo ≤ c.lsa) && decide (c.lsa < hi) then { c with stale := true } else c))
    sweepCache
    settleBlocks
    checkSpace i.volume
    complete id cSUCCESS n)) s

end Sys2Proof.Machine
end

