-- ==== Sys2Proof/Machine/DyntoMedia.lean ====
section
/-! DEFINITION. The Dynto instructions on discs and bays (R393 to R402, R420): mounting, initialising, scrubbing, compacting, spinning
and parking. Where one takes time, the command that names its row begins it, and the same command carries it on. -/

namespace Sys2Proof.Machine

/-! ### Bays (R394, R420) -/

/-- The bay that the operand of an instruction names. -/
def Inst.bay (i : Inst) : Fin 4 := Fin.ofNat 4 (i.operand % 4)

/-- The instructions on one bay execute one at a time, in fetch order (R420). -/
def bayOps : List Nat := [opMOUNT, opUNMOUNT, opINIT, opSPIN, opPARK]

/-- Whether no earlier instruction on the same bay is in progress. -/
def State.bayFirst (s : State) (i : Inst) : Bool :=
  !s.insts.any (fun j => bayOps.contains j.opcode && decide (j.id < i.id) && j.bay == i.bay)

/-- Whether a bay is fitted (R565). -/
def State.bayFitted (s : State) (b : Fin 4) : Bool := bitAt s.nv.bays b.val

/-- A bay that is not fitted, or that was left out at start (R394). -/
def State.checkBay (s : State) (b : Fin 4) : Option (Nat × Nat) :=
  if s.bayFitted b = false then some (cNOT_SUPPORTED, 0)
  else if s.chip.degraded.contains (.bay b.val) then some (cELEMENT_UNAVAILABLE, Ev.BOOT_STEP_FAIL)
  else none

/-- A FAULTED bay. -/
def State.checkFault (s : State) (b : Fin 4) : Option (Nat × Nat) :=
  if s.bayState b.val = bFAULTED then some (cBAY_FAULTED, b.val) else none

/-- An instruction of an opcode that is in progress. -/
def State.inProgress (s : State) (id op : Nat) : Option Inst :=
  match s.inst id with
  | some i => if i.opcode = op ∧ (i.stage = .dispatched ∨ i.stage = .waiting ∨ i.stage = .committed) then some i else none
  | none => none

/-- Begins an instruction on a bay, or carries it on; it waits for the earlier ones on the bay. -/
def performBay (id op : Nat) (checks : State → Inst → List (Option (Nat × Nat))) (begin_ again : Inst → Act Unit) : Act Unit := do
  let s ← rd
  match s.inProgress id op with
  | none => pure ()
  | some i =>
    if s.bayFirst i then
      if i.stage = .dispatched then perform id op checks begin_
      else
        again i
        settle

/-! ### The disc record (R396) -/

/-- The disc record of a disc in the disc table. -/
def State.discRecord (s : State) (d : Disc) : List Byte :=
  let flags := 1 + 2 * d.retired.toNat + 4 * d.scrubRunning.toNat + 8 * d.migrationRequested.toNat + 64 * d.compacting.toNat
  let low := match d.margins with
    | (_, x :: l) :: _ => ofSigned 16 (l.foldl (fun a y => min a y.2) x.2)
    | _ => 0x8000
  leBytes 8 d.id ++ leBytes 2 d.vol ++ leBytes 1 (d.bay.elim 0xFF Fin.val) ++ leBytes 1 flags ++ leBytes 1 d.parity ++ zeroBytes 1 ++
  leBytes 2 (if d.writable = 0 then 256 else d.nextPair) ++ leBytes 8 d.live ++ leBytes 8 d.dead ++ leBytes 8 d.writable ++
  leBytes 8 d.lastScrub ++ leBytes 8 ((s.scrubAt d).getD 0) ++ leBytes 2 d.passportLeft.1 ++ leBytes 2 d.passportLeft.2 ++
  leBytes 2 low ++ leBytes 2 d.scrubPairs

/-- The disc record of a disc that is attached: blank, or of an identity that the table does not hold. -/
def attachedRecord (b : Fin 4) (id : Option Nat) : List Byte :=
  leBytes 8 (id.getD 0) ++ leBytes 2 0xFFFF ++ leBytes 1 b.val ++ leBytes 1 (if id.isSome then 16 else 32) ++ zeroBytes 2 ++ leBytes 2 256 ++
  zeroBytes 44 ++ leBytes 2 0x8000 ++ zeroBytes 2

/-! ### MOUNT (R395, R396) -/

/-- Checks of MOUNT. -/
def State.checkMount (s : State) (i : Inst) (mem : HostMem) : List (Option (Nat × Nat)) :=
  let b := i.bay
  let st := s.bayState b.val
  let load := bitAt i.operand 2
  let empty : Bool := st == bEMPTY && (!load || s.get (F.BAY_STAT_DISC_PRESENT b.val) == 0)
  let attached : Bool := (st == bREADY || st == bREADING || st == bWRITING) && (s.discIn b).isNone
  [ i.checkFields { operand := 7, buffer := true } (if s.bayFitted b ∧ (empty ∨ attached) then [20] else []) mem, s.checkBay b,
    i.checkBuffer 64 mem, s.checkFault b, checkDma mem ]

/-- The tray of a bay closes or opens by its shuttle motor (R395, R398). -/
def moveTray (b : Fin 4) (closed : Bool) : Act Unit := do
  let s ← rd
  let st := s.motorState (shuttleOf b)
  if s.drivesTake ∧ (st = mtOFF ∨ st = mtCOAST) then moveMotor (shuttleOf b) (Config.trayTarget b.val closed)

/-- A disc is clamped or released by the clamp-lift axis (R395, R398). -/
def moveClamp (b : Fin 4) (clamped : Bool) : Act Unit := do
  let s ← rd
  if s.drivesTake ∧ s.axisState (axisOf b 2) = axIDLE then moveAxis (axisOf b 2) (Config.clampTarget b.val clamped) false

/-- LOAD: the tray closes, then the disc is clamped (R395). -/
def loadBay (b : Fin 4) : Act Unit := do
  let s ← rd
  if s.get (F.BAY_STAT_TRAY_CLOSED b.val) = 0 then moveTray b true
  else if s.get (F.BAY_STAT_CLAMPED b.val) = 0 then moveClamp b true

/-- EJECT: the disc is released, then the tray opens (R398). -/
def ejectBay (b : Fin 4) : Act Unit := do
  let s ← rd
  if s.get (F.BAY_STAT_CLAMPED b.val) = 1 then moveClamp b false
  else if s.get (F.BAY_STAT_TRAY_CLOSED b.val) = 1 then moveTray b false

/-- The disc of a bay that MOUNT brings up is spun to the highest class that policy and the thermal ceiling allow; one that is EMPTY is loaded first (R395). -/
def spinForMount (b : Fin 4) : Act Unit := do
  let s ← rd
  if s.bayState b.val = bLOADED then
    takeSpeed b (s.boundSpeed b.val 4)
    needBay b
  else if s.bayState b.val = bEMPTY then
    needBay b
    loadBay b

/-- MOUNT begins: a disc already mounted gives NO_CHANGE. With LOAD the disc is first clamped (R395). -/
def beginMount (i : Inst) (mem : HostMem) : Act Unit := do
  let s ← rd
  if mem.lost then lostWord i
  else
    match s.discIn i.bay with
    | some d =>
      writeBuffer i.id (s.discRecord d)
      complete i.id cNO_CHANGE (d.id % 2 ^ 32)
    | none =>
      emit (.bay i.bay fun y => { y with mounting := some i.id, attached := none })
      holdInst i.id (fun i => i)
      spinForMount i.bay

/-- The identity that a MOUNT reads: that of a side with a valid identity record. -/
def mountIdentity (x : MountFound) : Option (Nat × Bool) := x.top.orElse (fun _ => x.bottom)

/-- The user bytes of the directory sectors that a band holds: of each the first copy that decodes (R66). -/
def copiesOf (x : SideFound) : List (List Byte) := x.dirs.filterMap (fun c => c.1.or c.2)

/-- A band as its directory and the probing after the last recorded range give it (R66, R68): what lies past the last range up to the last track with a written
mark becomes skipped runs with reason 0x03, each to the end of its track, and writing resumes on the track after them. DEDUCED (assumption log 32): a sector
between them without a mark is in the run too, since R55 gives a frame to each sector of a track outside a run. What the part knows of spare and
directory sectors spent on copies that failed it keeps. -/
def Band.found (old : Band) (p : Nat) (x : SideFound) (time : Nat) : Band :=
  let e := readDirectory (copiesOf x)
  let spt := sptOf (bandZone old.num)
  let g (l : List Nat) (i : Nat) : Nat := l.getD i 0
  let ranges := (e.filter (fun r => r.1 == 0x01)).map Prod.snd
  let parity := (ranges.head?.map (fun l => g l 0)).getD p
  let b : Band := { blankBand old.num parity with
    runs := (e.filter (fun r => r.1 == 0x03)).map (fun r => (g r.2 1, g r.2 2, g r.2 0))
    closed := e.any (fun r => r.1 == 0x04)
    relocs := ((e.filter (fun r => r.1 == 0x02)).map (fun r => ((g r.2 0, g r.2 1), (g r.2 2, g r.2 3)))).reverse
    dirs := max x.dirs.length old.dirs
    spares := ((e.filter (fun r => r.1 == 0x02)).map (fun r => (g r.2 2 - spareStart) * spt + g r.2 3 + 1)).foldl max old.spares
    lastSeq := old.lastSeq }
  let stop := (ranges.map (fun l => b.frameAt (g l 2) (g l 3) + g l 4)).foldl max 0
  let first := dataStart b.num
  let free := first + (((List.range (spareStart - first)).find? (fun i => decide (stop ≤ b.firstFrame (first + i)))).getD (spareStart - first))
  let marks := x.marks.filter (fun m => decide (first ≤ m.1) && decide (m.1 < spareStart) && decide (stop ≤ b.frameAt m.1 m.2))
  let track := (marks.map (fun m => m.1 + 1)).foldl max free
  let orphans := (List.range track).filterMap (fun t =>
    let from_ := stop - b.firstFrame t
    if first ≤ t ∧ from_ < usableOn b.holes spt t then some (t, from_) else none)
  { b with
    track := track, recorded := track, frames := stop, laid := dataBelow parity stop
    runs := b.runs ++ orphans.map (fun p => (p.1, p.2, 3))
    pending := orphans.map (fun p => (0x03, [3, p.1, p.2, spt - p.2, time]))
    kept := (List.range x.tail.length).map (fun j => (stop / (16 + parity) * 16 + j, x.tail.getD j [])) }

/-- The extents of a disc whose map image is missing, rebuilt from its map sectors: of each extent the entry of the highest SEQ (R319). -/
def rebuildMap (vol : Nat) (maps : List (Nat × Nat × List Byte)) : Act Unit :=
  forAll ((maps.map Prod.fst).eraseDups) (fun ext => do
    match (maps.filter (fun m => m.1 == ext)).foldl (fun (a : Option (Nat × Nat × List Byte)) m =>
        match a with
        | some x => if x.2.1 < m.2.1 then some m else a
        | none => some m) none with
    | some m => setExtent vol ext (fun _ => readMapEntry vol ext m.2.1 m.2.2)
    | none => pure ())

/-- A disc of the table is mounted (R68, R319, R395): its map is rebuilt where the image is missing, and the directories of the bands that it
will be written in are read. -/
def mountDisc (b : Fin 4) (d : Disc) (x : MountFound) : Act Unit := do
  if x.imageMissing then
    rebuildMap d.vol x.maps
    raise Ev.MAP_RECOVERED
  let s ← rd
  let band (side : Nat) (f : SideFound) (d : Disc) : Disc := d.setBand ((d.sideBand side).found d.parity f s.timeStamp)
  setDisc d.id (fun d => band 1 x.sides.2 (band 0 x.sides.1 { d with bay := some b, scrubRunning := d.scrubRunning || d.scrubDueNow }))
  forAll (opusOf b) (fun k => emit (.writer k fun w => { w with
    skipped := [], passed := [], relocate := [], record := none, directory := none, job := none, copies := 0, dirDue := false }))
  emit (.cal fun c => { c with done := c.done.filter (fun m => decide (10 ≤ m.kind) || calBay m.kind m.elem != b.val) })
  lapseRequests (fun r => r.disc == d.id)

/-- The identity has been read (R395, R396): the disc is mounted, or attached. A record whose signature is invalid is reported and not used
(R71). -/
def endMount (i : Inst) (mem : HostMem) (x : MountFound) : Act Unit := do
  let b := i.bay
  emit (.bay b fun y => { y with mounting := none, readAhead := [] })
  forAll x.invalid (fun r => emit (.out (.badRecord b.val r.1 r.2)))
  let s ← rd
  if mem.ok = false then
    emit (.bay b fun y => { y with attached := some (((mountIdentity x).map Prod.fst).getD 0, (mountIdentity x).isSome, ((mountIdentity x).map Prod.snd).getD false) })
    complete i.id cDMA_FAULT 0
  else
    match (mountIdentity x).bind (fun y => s.disc y.1) with
    | some d =>
      mountDisc b d x
      let s ← rd
      match s.disc d.id with
      | some d => writeBuffer i.id (s.discRecord d)
      | none => pure ()
      complete i.id cSUCCESS (d.id % 2 ^ 32)
    | none =>
      emit (.bay b fun y => { y with attached := some (((mountIdentity x).map Prod.fst).getD 0, (mountIdentity x).isSome, ((mountIdentity x).map Prod.snd).getD false) })
      writeBuffer i.id (attachedRecord b ((mountIdentity x).map Prod.fst))
      complete i.id cDISC_NOT_BOUND 0

/-- MOUNT goes on: a loaded disc is spun, a side mismatch returns the bay to LOADED, and a READY bay's identity is read. -/
def continueMount (i : Inst) (mem : HostMem) (x : MountFound) : Act Unit := do
  let s ← rd
  let b := i.bay
  let st := s.bayState b.val
  let wrong : Bool := x.sideMismatch || (opusOf b).all (fun k => s.get (F.RCH_SPK_STAT_SIDE_MISMATCH k.val) == 1)
  if st = bLOADED ∨ st = bEMPTY then spinForMount b
  else if (st = bSPINNING ∨ st = bREADY ∨ st = bREADING) ∧ wrong then
    emit (.bay b fun y => { y with mounting := none })
    parkBay b
    complete i.id cDISC_NOT_BOUND 0
  else if st = bREADY ∨ st = bREADING then endMount i mem x

/-- MOUNT (R395): loads, spins and focuses a disc, and mounts it by the identity it finds. -/
def execMount (id : Nat) (mem : HostMem) (x : MountFound) (s : State) : Answer :=
  answer (performBay id opMOUNT (fun s i => s.checkMount i mem) (fun i => beginMount i mem) (fun i => continueMount i mem x)) s

/-! ### UNMOUNT (R398) -/

/-- An UNMOUNT stops a write session at a sector boundary, and wakes a bay that has records left to write (R321, R340); with EJECT a bay whose disc is
out ejects it (R398). -/
def driveUnmount (i : Inst) : Act Unit := do
  let s ← rd
  let b := i.bay
  if s.bayState b.val = bWRITING ∧ s.bays[b].session.any (fun x => !x.suspended && x.staged.all (fun t => t.map.isEmpty)) then
    suspendSession b
  if s.bayState b.val = bLOADED ∧ ((s.discIn b).any (fun d => !s.discWritten d)) ∧ s.chip.degraded.contains .identity = false then needBay b
  if bitAt i.operand 2 ∧ (s.discIn b).isNone ∧ s.bays[b].attached.isNone ∧ (s.bayState b.val = bLOADED ∨ s.bayState b.val = bEMPTY) then ejectBay b

/-- UNMOUNT (R398): a bay with no disc gives NO_CHANGE, or opens its tray. -/
def execUnmount (id : Nat) (s : State) : Answer :=
  answer (performBay id opUNMOUNT (fun s i =>
    [ i.checkFields { operand := 7 } [] {}, s.checkBay i.bay, s.checkFault i.bay ]) (fun i => do
    let s ← rd
    if (s.discIn i.bay).isNone ∧ s.bays[i.bay].attached.isNone ∧ bitAt i.operand 2 = false then complete id cNO_CHANGE 0
    else
      holdInst id (fun i => i)
      driveUnmount i) driveUnmount) s

/-! ### INIT_DISC (R397) -/

/-- One passport record is written, both copies the same (R70). -/
def writeRecord (k : Fin 8) (vol disc n kind : Nat) (body : List Byte) : Act Unit := do
  let s ← rd
  emit (.issue 1)
  emit .useFree
  let u := passportPayload vol disc n kind s.timeStamp s.nextSeq s.free body
  forAll [0, 1] (fun c =>
    let p := passportPlace n c
    emit (.out (.sector k.val p.1 p.2 u)))

/-- The records that INIT_DISC writes on one side, from record `n`: identity for a blank disc, then volume binding. -/
def writeBinding (k : Fin 8) (v : Volume) (disc n : Nat) (blank : Bool) : Act Unit := do
  let s ← rd
  let side := k.val % 2
  let n' := if blank then n + 1 else n
  if blank then writeRecord k v.num disc n 1 (leBytes 1 side ++ leBytes 1 1 ++ zeroBytes 6 ++ leBytes 8 s.timeStamp)
  writeRecord k v.num disc n' 2 (leBytes 2 v.num ++ leBytes 1 v.parity ++ leBytes 1 v.compress.toNat)

/-- The disc joins the disc table, mounted for the volume. -/
def bindDisc (i : Inst) (v : Volume) (disc : Nat) (blank : Bool) (written : List Nat) (used : Nat × Nat) : Act Unit := do
  let b := i.bay
  writeBinding (opuTop b) v disc used.1 blank
  writeBinding (opuBottom b) v disc used.2 blank
  let s ← rd
  let n := if blank then 2 else 1
  let bands := (written.filter (fun x => decide (x < 512))).eraseDups.map (fun x => { blankBand x v.parity with closed := true })
  let d : Disc := { id := disc, vol := v.num, bay := some b, order := (s.discs.map Disc.order).foldl max 0 + 1, parity := v.parity
                    initTime := s.timeStamp, changed := true, bands := bands
                    passportLeft := (passportRoom - used.1 - n, passportRoom - used.2 - n) }
  emit (.discs fun l => l ++ [d])
  emit (.bay b fun y => { y with attached := none })
  checkSpace v.num
  writeBuffer i.id (s.discRecord d)
  complete i.id cSUCCESS (disc % 2 ^ 32)

/-- INIT_DISC once the bay reads: `used` is how many passport records of each side are taken, by earlier ones or by copies that failed. -/
def initDisc (i : Inst) (written : List Nat) (used : Nat × Nat) : Act Unit := do
  let s ← rd
  match s.bays[i.bay].attached, s.volumes.find? (fun v => v.num == i.volume) with
  | some (id, known, own), some v =>
    let need := if known then 1 else 2
    if passportRoom < used.1 + need ∨ passportRoom < used.2 + need then complete i.id cWRITE_FAILED 0
    else if known then
      if own then bindDisc i v id false written used else complete i.id cDISC_NOT_BOUND 0
    else
      emit (.issue 1)
      bindDisc i v s.nextSeq true [] used
  | _, _ => pure ()

/-- INIT_DISC (R397): binds a blank disc, or one of this part's own that the table no longer holds, to a volume. -/
def execInitDisc (id : Nat) (mem : HostMem) (written : List Nat) (fails : Nat × Nat) (s : State) : Answer :=
  answer (do
    match s.dispatched id opINIT with
    | none => pure ()
    | some i =>
      if s.bayFirst i then
        if s.bayState i.bay.val = bLOADED ∧ s.bays[i.bay].attached.isSome ∧ s.checkBay i.bay = none then needBay i.bay
        else
          perform id opINIT (fun s i =>
            let b := i.bay
            let none_ : Bool := (s.discIn b).isNone && s.bays[b].attached.isNone
            let other : Bool := (s.discIn b).any (fun d => d.vol != i.volume)
            [ i.checkFields { volume := true, operand := 3, buffer := true }
                ((if s.bayFitted b ∧ none_ then [20] else []) ++ (if other then [4] else [])) mem, s.checkBay b, s.checkVolume i,
              i.checkBuffer 64 mem, s.checkFault b,
              (if s.chip.degraded.contains .identity then some (cELEMENT_UNAVAILABLE, Ev.IDENTITY_UNAVAILABLE) else none), checkDma mem ])
            (fun i => do
              let s ← rd
              if mem.lost then lostWord i
              else
                match s.discIn i.bay with
                | some d =>
                  writeBuffer id (s.discRecord d)
                  complete id cNO_CHANGE (d.id % 2 ^ 32)
                | none => if s.bayReads i.bay then initDisc i written fails)) s

/-! ### SCRUB_DISC and COMPACT (R401, R402) -/

/-- The DISC_ID of bytes 36 to 43. -/
def Inst.discId (i : Inst) : Nat := i.bytesAt 36 8

/-- SCRUB_DISC (R401): makes a disc's scrub due at once. -/
def execScrubDisc (id : Nat) (s : State) : Answer :=
  answer (perform id opSCRUB (fun s i =>
    [ i.checkFields { operand := 1, rest := some (36, 8) } (if (s.disc i.discId).all Disc.retired then [36] else []) {} ]) (fun i => do
    let s ← rd
    match s.disc i.discId with
    | none => pure ()
    | some d =>
      let again := bitAt i.operand 0
      if d.scrubRunning ∧ again = false then complete id cNO_CHANGE d.bay.isSome.toNat
      else
        setDisc d.id (fun d => { d with scrubDueNow := true, scrubRunning := d.bay.isSome
                                        scrubPairs := if again ∨ d.scrubPairs = 256 then 0 else d.scrubPairs
                                        scrub := if again ∨ d.scrubPairs = 256 then [] else d.scrub })
        if d.bay.isNone then requestDisc d.id d.vol reasonSCRUB
        complete id cSUCCESS d.bay.isSome.toNat)) s

/-- The live extents of a disc. -/
def State.liveExtents (s : State) (d : Disc) : List Extent :=
  s.extents.filter (fun e => e.vol == d.vol && (e.disc.map (fun x => x.1)) == some d.id && e.onDisc.any (fun x => s.written d.vol x.1))

/-- The live sectors of a disc. -/
def State.liveSectors (s : State) (d : Disc) : List Nat :=
  (s.liveExtents d).flatMap (fun e => (e.onDisc.map Prod.fst).filter (s.written d.vol))

/-- Whether every live sector of a disc has been read. -/
def State.allRead (s : State) (d : Disc) : Bool := (s.liveSectors d).all (fun a => (s.discSector d.vol destageClass a).isSome)

/-- COMPACT once its disc's bay reads (R331): the sectors read join the write cache to be programmed. -/
def compactDisc (i : Inst) (d : Disc) : Act Unit := do
  let s ← rd
  match d.bay with
  | none => pure ()
  | some b =>
    if s.bayReads b = false then askBay i b
    else if s.allRead d then
      let exts := (s.liveExtents d).map Extent.ext
      holdInst i.id (fun i => { i with data := exts })
      moveIn d.vol i.id (s.liveSectors d)

/-- What stops a COMPACT before any effect (R402). -/
def State.compactStop (s : State) (d : Disc) : Option (Nat × Nat) :=
  match d.bay with
  | none => some (cDISC_NEEDED, d.id % 2 ^ 32)
  | some b =>
    if s.bayState b.val = bFAULTED then some (cBAY_FAULTED, b.val)
    else if (((s.discsOf d.vol).filter (fun x => x.id != d.id)).map Disc.writable).sum < d.live then some (cNO_SPACE, 0)
    else none

/-- COMPACT (R402): copies a disc's live extents into the landing zone. -/
def execCompact (id : Nat) (s : State) : Answer :=
  answer (perform id opCOMPACT (fun s i =>
    [ i.checkFields { rest := some (36, 8) } (if (s.disc i.discId).isNone then [36] else []) {} ]) (fun i => do
    let s ← rd
    match s.disc i.discId with
    | none => pure ()
    | some d =>
      match s.compactStop d with
      | some x =>
        if d.bay.isNone then requestDisc d.id d.vol reasonMIGRATE
        complete id x.1 x.2
      | none => compactDisc i d)) s

/-! ### SPIN and PARK_BAY (R399, R400) -/

/-- Checks of SPIN: its class against SPEED_MIN, SPEED_MAX and SPEED_PIN (R399). -/
def State.checkSpin (s : State) (i : Inst) : List (Option (Nat × Nat)) :=
  let b := i.bay.val
  let c := bitsOf i.operand 4 3
  let pin := s.policy pSPEED_PIN b
  let bad : Bool := c == 0 || decide (4 < c) || decide (c < s.policy pSPEED_MIN b) || decide (s.policy pSPEED_MAX b < c) ||
    (pin != 0 && c != pin) || (s.bayFitted i.bay && s.bayState b == bEMPTY)
  [ i.checkFields { operand := 0x73 } (if bad then [20] else []) {}, s.checkBay i.bay, s.checkFault i.bay ]

/-- SPIN (R399): sets the speed class of a bay and ends its hold. -/
def execSpin (id : Nat) (s : State) : Answer :=
  answer (performBay id opSPIN State.checkSpin (fun i => do
    let s ← rd
    let b := i.bay
    let c := min (bitsOf i.operand 4 3) (s.speedCeiling b.val)
    setF (F.BAY_STAT_HELD b.val) 0
    if s.motorState (spindleOf b) = mtAT_SPEED ∧ s.speedClass b.val = c then complete id cNO_CHANGE c
    else
      takeSpeed b c
      setInst id (fun i => { i with stage := .committed })
      needBay b) (fun i => needBay i.bay)) s

/-- PARK_BAY (R400): parks a bay to LOADED and marks it held. -/
def execParkBay (id : Nat) (s : State) : Answer :=
  answer (performBay id opPARK (fun s i =>
    [ i.checkFields { operand := 3 } (if s.bayFitted i.bay ∧ s.bayState i.bay.val = bEMPTY then [20] else []) {}, s.checkBay i.bay,
      s.checkFault i.bay ]) (fun i => do
    let s ← rd
    let b := i.bay
    setF (F.BAY_STAT_HELD b.val) 1
    if s.bayState b.val = bLOADED then complete id cNO_CHANGE 0
    else
      setInst id (fun i => { i with stage := .committed })
      restBay b 1) (fun _ => pure ())) s

end Sys2Proof.Machine
end

