-- ==== Sys2Proof/Machine/DyntoLogs.lean ====
section
/-! DEFINITION. The Dynto instructions on events, logs, policy and time (R403 to R408), with the layouts of the log pages (R509, R553,
R560). -/

namespace Sys2Proof.Machine

/-! ### GET_EVENTS (R403, R535, R539) -/

/-- The 32 bytes of an event record. -/
def eventBytes (event level serial time : Nat) (payload : List Byte) : List Byte :=
  leBytes 2 event ++ leBytes 1 level ++ zeroBytes 1 ++ leBytes 4 serial ++ leBytes 8 time ++ (payload ++ zeroBytes 16).take 16

def EventRec.bytes (r : EventRec) : List Byte :=
  eventBytes r.event r.level r.serial r.time
    (if r.event = Ev.EVENT_OVERFLOW then leBytes 4 r.detail
     else leBytes 1 r.subcode ++ leBytes 1 r.inst ++ leBytes 2 r.repeats ++ leBytes 12 r.detail)

/-- The records that a GET_EVENTS of a port returns: the overflow record when some were lost, then those after the cursor. -/
def State.eventsFor (s : State) (p : Fin 2) (count : Nat) : List (List Byte) × List EventRec :=
  let lost := s.evq.lost[p]
  let over_ : List (List Byte) := if lost = 0 then [] else
    [eventBytes Ev.EVENT_OVERFLOW s.evq.lostLevel[p] s.evq.lostSerial[p] s.evq.lostTime[p] (leBytes 4 lost)]
  let recs := (s.evq.recs.filter (fun r => decide (s.evq.cursor[p] ≤ r.serial))).take (count - over_.length)
  (over_ ++ recs.map EventRec.bytes, recs)

/-- The deferred errors that returned records report (R352): their reports end. -/
def endReports (recs : List EventRec) : Act Unit := do
  let nums := (recs.filter (fun r => r.event == Ev.DEFERRED_ERROR)).map (fun r => r.detail % 2 ^ 32)
  if !nums.isEmpty then
    forAll nums (fun n => setStrand n (fun t => { t with deferred := false, dirty := true }))
    emit (.deferred fun l => l.filter (fun d => !nums.contains d.strand))
    attend none

/-- GET_EVENTS (R403): returns the records after the function's cursor, and with CONSUME moves it past them. -/
def execGetEvents (id : Nat) (mem : HostMem) (s : State) : Answer :=
  answer (perform id opEVENTS (fun _ i =>
    [ i.checkFields { count := some (1, 4096), operand := 1, buffer := true } [] mem, i.checkBuffer (32 * i.count) mem, checkDma mem ]) (fun i => do
    if mem.lost then lostWord i
    else
      let s ← rd
      let p := portOf i.fn
      let r := s.eventsFor p i.count
      writeBuffer id r.1.flatten
      if bitAt i.operand 0 then
        emit (.consume p (((r.2.getLast?).map (fun x => x.serial + 1)).getD s.evq.cursor[p]))
        attend none
      endReports r.2
      complete id cSUCCESS r.1.length)) s

/-! ### Log pages (R404, R509, R553, R560) -/

/-- Page 0x0001: the life record counters. -/
def State.lifePage (s : State) : List Byte :=
  let l := s.life
  leBytes 8 s.powerOn ++ leBytes 8 l.starts ++ leBytes 8 l.unclean ++ leBytes 8 l.pwrFails ++ leBytes 8 l.drains ++
  (List.range 8).flatMap (fun k => leBytes 8 (s.get (F.MOT_REV_CNT_CNT k))) ++
  (List.range 16).flatMap (fun a => leBytes 8 (s.get (F.STP_STEP_CNT_CNT a))) ++
  leBytes 8 (s.get F.FLZ_PROG_CNT_CNT) ++ leBytes 8 (s.get F.FLZ_ERASE_CNT_CNT) ++ leBytes 8 (s.get F.FLZ_BAD_CNT_CNT) ++
  leBytes 8 (s.get F.DRM_ECC_CNT_CNT) ++ leBytes 8 (ofSigned 64 l.maxTemp) ++ leBytes 8 (l.hotMicros / 1000000) ++ leBytes 8 (s.nextSeq - 1)

/-- The 64 bytes of an OPU life record of this part (R558). -/
def lifeBytes (l : List Nat) : List Byte :=
  withCrc (leBytes 2 1 ++ zeroBytes 2 ++ leBytes 4 (l.getD 0 0) ++ (List.range 4).flatMap (fun i => leBytes 8 (l.getD (i + 1) 0)) ++
    (digestBytes Config.certDigest).take 16 ++ zeroBytes 4)

/-- Page 0x0002: the life record of an OPU. -/
def State.opuPage (s : State) (k : Fin 8) : List Byte :=
  let e := s.nv.eeproms[k]
  leBytes 8 s.life.laserSec[k] ++ leBytes 8 (s.life.writeMicros[k] / 1000000) ++ leBytes 8 (s.get (F.WRP_ENERGY_UJ k.val)) ++
  leBytes 8 (s.get (F.WRP_RAW_PASS_CNT_CNT k.val)) ++ leBytes 8 (s.get (F.WRP_RAW_FAIL_CNT_CNT k.val)) ++
  leBytes 8 (s.get (F.WRP_RELOC_CNT_CNT k.val)) ++ (e.serial ++ zeroBytes 16).take 16 ++
  (if e.lastLife.isEmpty then zeroBytes 64 else lifeBytes e.lastLife)

/-- The elements of a calibration, in ascending order (R279). -/
def calElements (n : Nat) : List Nat := (List.range 512).filter (calElement n)

/-- Page 0x0003: last time and result of each element of a calibration. -/
def State.calPage (s : State) (n : Nat) : List Byte :=
  let l := calElements n
  leBytes 2 n ++ leBytes 2 l.length ++ zeroBytes 4 ++ l.flatMap (fun e =>
    let r := s.cal.results.find? (fun x => x.1 == n && x.2.1 == e)
    leBytes 2 e ++ leBytes 1 ((r.map (fun x => x.2.2.1)).getD 0) ++ zeroBytes 5 ++ leBytes 8 ((r.map (fun x => x.2.2.2)).getD 0))

/-- Page 0x0005: erase counts of a LUN's erase blocks. -/
def State.erasePage (s : State) (l : LunId) : List Byte :=
  (List.range l.blocks).flatMap (fun e =>
    leBytes 4 (s.eraseCount (l.lun, e) % 2 ^ 31 + (if s.nv.sys.retired.contains (l.lun, e) then 2 ^ 31 else 0)))

/-- An entry of the lost-write report; a lost count that is unknown is all ones (R553). -/
def LostEntry.bytes (e : LostEntry) : List Byte :=
  leBytes 4 e.strand ++ leBytes 2 e.vol ++ leBytes 2 e.flags ++ leBytes 8 e.durable ++ leBytes 8 e.firstLost ++
  leBytes 8 (e.lost.getD (2 ^ 64 - 1)) ++ leBytes 8 e.high ++ leBytes 8 e.atRisk

/-- Page 0x0007: the lost-write report of the last start. -/
def LostReport.bytes (r : LostReport) : List Byte :=
  let total := if r.entries.any (fun e => e.lost.isNone) then 2 ^ 64 - 1 else (r.entries.map (fun e => e.lost.getD 0)).sum
  leBytes 2 1 ++ leBytes 2 r.flags ++ leBytes 4 r.startNum ++ leBytes 8 r.lossTime ++ leBytes 8 r.seqIssued ++ leBytes 4 r.entries.length ++
  zeroBytes 4 ++ leBytes 8 total ++ zeroBytes 24 ++ r.entries.flatMap LostEntry.bytes

/-- Pages, their instances and lengths; of a page whose length differs between instances, the longest. -/
def State.logDirectory (s : State) : List (Nat × Nat × Nat) :=
  [(0, 1, 64), (1, 1, 288), (2, 8, 128), (3, 12, 8 + 16 * 320), (4, 1, 512 * s.nv.journal.length),
   (5, 256, 4 * (s.flash.luns.map LunId.blocks).foldl max 0), (6, 1, 64), (7, 1, 64 + 48 * s.lost.entries.length)]

/-- Why a page cannot be read: an unknown page or instance, an element that is not fitted, a disc that the table does not hold. -/
def State.logFails (s : State) (page inst disc : Nat) : Option (Nat × Nat) :=
  match s.logDirectory.find? (fun x => x.1 == page) with
  | none => some (cINVALID_FIELD, 20)
  | some x =>
    if x.2.1 ≤ inst then some (cINVALID_FIELD, 20)
    else if page ≠ 6 ∧ disc ≠ 0 then some (cINVALID_FIELD, 36)
    else if page = 6 ∧ (s.disc disc).isNone then some (cINVALID_FIELD, 36)
    else if page = 2 ∧ s.opuFitted (Fin.ofNat 8 inst) = false then some (cNOT_SUPPORTED, 0)
    else if page = 5 ∧ s.lunFailed inst then some (cELEMENT_UNAVAILABLE, Ev.FLZ_LUN_FAILED)
    else if page = 5 ∧ !s.flash.luns.any (fun l => l.lun == inst) then some (cNOT_SUPPORTED, 0)
    else none

/-- The bytes of a log page. -/
def State.logPage (s : State) (page inst disc : Nat) : List Byte :=
  match page with
  | 0 => s.logDirectory.flatMap (fun x => leBytes 2 x.1 ++ leBytes 2 x.2.1 ++ leBytes 4 x.2.2)
  | 1 => s.lifePage
  | 2 => s.opuPage (Fin.ofNat 8 inst)
  | 3 => s.calPage inst
  | 4 => s.nv.journal.flatMap JournalRec.bytes
  | 5 => ((s.flash.luns.find? (fun l => l.lun == inst)).map s.erasePage).getD []
  | 6 => ((s.disc disc).map s.discRecord).getD []
  | _ => s.lost.bytes

/-- GET_LOG (R404): copies bytes of one log page, as one snapshot. -/
def execGetLog (id : Nat) (mem : HostMem) (s : State) : Answer :=
  answer (perform id opLOG (fun s i =>
    let page := i.operand % 2 ^ 16
    let inst := i.operand / 2 ^ 16
    let fail := s.logFails page inst i.discId
    let long := (s.logPage page inst i.discId).length
    let offset := fun (n : Nat) => fail.any (fun f => f == (cINVALID_FIELD, n))
    let extra := (if i.lsa % 4 ≠ 0 ∨ (fail.isNone ∧ long ≤ i.lsa) then [8] else []) ++ (if offset 20 then [20] else []) ++
      (if i.len % 4 ≠ 0 then [32] else []) ++ (if offset 36 then [36] else [])
    [ i.checkFields { lsa := true, operand := 2 ^ 32 - 1, buffer := true, rest := some (36, 8) } extra mem, fail, i.checkBuffer 4 mem,
      checkDma mem ]) (fun i => do
    if mem.lost then lostWord i
    else
      let b := (← rd).logPage (i.operand % 2 ^ 16) (i.operand / 2 ^ 16) i.discId
      writeBuffer id ((b.drop i.lsa).take i.len)
      complete id cSUCCESS b.length)) s

/-! ### Policy (R405, R406) -/

/-- One policy entry as SET_POLICY reads it: ID, INSTANCE, bytes 4 to 7, VALUE. -/
def policyEntry (buf : List Byte) (n : Nat) : Nat × Nat × Nat × Nat :=
  let l := (buf.drop (16 * n)).take 16
  (ofLeBytes (l.take 2), ofLeBytes ((l.drop 2).take 2), ofLeBytes ((l.drop 4).take 4), ofLeBytes (l.drop 8))

/-- Whether an entry's ID, instance or value is out of range. -/
def entryBad (e : Nat × Nat × Nat × Nat) : Bool :=
  match policyRow e.1 with
  | none => true
  | some r => decide (r.count ≤ e.2.1) || e.2.2.1 != 0 || decide (e.2.2.2 < r.min) || decide (r.max < e.2.2.2)

/-- The policy table with entries applied. -/
def applyPolicy (t : List ((Nat × Nat) × Nat)) (l : List (Nat × Nat × Nat × Nat)) : List ((Nat × Nat) × Nat) :=
  l.map (fun e => ((e.1, e.2.1), e.2.2.2)) ++ t.filter (fun x => !l.any (fun e => (e.1, e.2.1) == x.1))

/-- Whether the speed bounds of a bay agree in a table. -/
def speedsAgree (t : List ((Nat × Nat) × Nat)) (b : Nat) : Bool :=
  let lo := policyIn t pSPEED_MIN b
  let hi := policyIn t pSPEED_MAX b
  let pin := policyIn t pSPEED_PIN b
  decide (lo ≤ hi) && (pin == 0 || (decide (lo ≤ pin) && decide (pin ≤ hi)))

/-- The policy table in force. -/
def State.policyTable (s : State) : List ((Nat × Nat) × Nat) := s.boot.policyAlt.getD s.nv.policy

/-- Whether entry `n` of a set fails (R405): by itself, as a repeat, or by the speed bounds of its bay. -/
def State.entryFails (s : State) (l : List (Nat × Nat × Nat × Nat)) (n : Nat) : Bool :=
  match l[n]? with
  | none => true
  | some e =>
    entryBad e || (l.take n).any (fun x => x.1 == e.1 && x.2.1 == e.2.1) ||
    ([pSPEED_MIN, pSPEED_MAX, pSPEED_PIN].contains e.1 && !speedsAgree (applyPolicy s.policyTable l) e.2.1)

/-- The entries of a SET_POLICY. -/
def Inst.entries (i : Inst) (buf : List Byte) : List (Nat × Nat × Nat × Nat) := (List.range i.count).map (policyEntry buf)

/-- What follows from a new table at once: MOT_MODEL where its motor is not enabled, pinned write power, the speed bounds. -/
def settlePolicy (l : List (Nat × Nat × Nat × Nat)) : Act Unit := do
  forAll l (fun e => do
    let s ← rd
    if e.1 = pMOT_MODEL ∧ s.get (F.MOT_CTL_ENABLE e.2.1) = 0 then
      setF (F.MOT_MODEL_RES e.2.1) (e.2.2.2 % 2 ^ 16)
      setF (F.MOT_MODEL_IND e.2.1) (e.2.2.2 / 2 ^ 16)
    if e.1 = pWRPWR_PIN ∧ e.2.2.2 = 1 then abortCal (fun r => r.kind == 7 && (calOpu r.elem).val == e.2.1))
  showPins
  settleSpeeds

/-- SET_POLICY (R405): checks every entry, and applies the set at one commit. -/
def execSetPolicy (id : Nat) (mem : HostMem) (buf : List Byte) (s : State) : Answer :=
  answer (perform id opSETP (fun s i =>
    let bad := (List.range i.count).find? (s.entryFails (i.entries buf))
    [ i.checkFields { count := some (1, 46), buffer := true } [] mem, i.checkBuffer (16 * i.count) mem, checkDma mem,
      if mem.lost then none else bad.map (fun n => (cINVALID_FIELD, 0x40000000 + 16 * n)) ]) (fun i => do
    if mem.lost then lostWord i
    else
      let s ← rd
      let l := i.entries buf
      let t := applyPolicy s.policyTable l
      emit (.nv fun v => { v with policy := t })
      emit (.boot fun b => { b with policyAlt := none })
      settlePolicy l
      complete id cSUCCESS 0)) s

/-- Whether a safety limit of the part overrides a policy value (R276 to R278, R406): a class above the thermal ceiling. -/
def State.overridden (s : State) (id inst : Nat) : Bool :=
  [pSPEED_MIN, pSPEED_MAX, pSPEED_PIN].contains id && decide (s.speedCeiling inst < s.policy id inst)

/-- The policy table as GET_POLICY writes it, in ascending ID and INSTANCE. -/
def State.policyBytes (s : State) : List Byte :=
  policyRows.flatMap (fun r => (List.range r.count).flatMap (fun n =>
    leBytes 2 r.id ++ leBytes 2 n ++ leBytes 4 (s.overridden r.id n).toNat ++ leBytes 8 (s.policy r.id n)))

/-- GET_POLICY (R406): writes all 46 entries. -/
def execGetPolicy (id : Nat) (mem : HostMem) (s : State) : Answer :=
  answer (perform id opGETP (fun _ i =>
    [ i.checkFields { buffer := true } [] mem, i.checkBuffer 736 mem, checkDma mem ]) (fun i => do
    if mem.lost then lostWord i
    else
      writeBuffer id (← rd).policyBytes
      complete id cSUCCESS 46)) s

/-! ### Time (R337, R407, R408) -/

/-- A stored time that holds power-on seconds, in UTC: the new UTC time less the power-on seconds since (R337). -/
def dateTime (utc powerOn t : Nat) : Nat := if t < 2 ^ 63 then t else utc - (powerOn - (t - 2 ^ 63))

/-- The disc table's times are dated when the calendar becomes valid (R337). -/
def dateDiscs (utc powerOn : Nat) (l : List Disc) : List Disc :=
  l.map (fun d => { d with initTime := dateTime utc powerOn d.initTime, lastScrub := dateTime utc powerOn d.lastScrub
                           margins := d.margins.map (fun m => (dateTime utc powerOn m.1, m.2)) })

/-- SET_TIME (R407, R559): loads the calendar, marks it valid and dates what waited for a date. -/
def execSetTime (id : Nat) (s : State) : Answer :=
  answer (perform id opSETT (fun s i =>
    let t := i.bytesAt 36 8
    let back : Bool := bitAt i.operand 0 == false && (s.utc).any (fun u => decide (t + 86400 < u))
    [ i.checkFields { operand := 1, rest := some (36, 8) } (if t < 1704067200 ∨ back then [36] else []) {} ]) (fun i => do
    let s ← rd
    let t := i.bytesAt 36 8
    if s.nv.calValid = false then emit (.discs (dateDiscs t s.powerOn))
    emit (.nv fun v => { v with calValid := true, utc := t, utcAt := s.now, lastSet := t })
    setF F.LIF_STAT_CAL_VALID 1
    raise Ev.CALENDAR_SET
    complete id cSUCCESS 0)) s

/-- The time record (R408). -/
def State.timeBytes (s : State) : List Byte :=
  let frac := if s.nv.calValid then (s.now - s.nv.utcAt) % 1000000 * 2 ^ 32 / 1000000 else 0
  leBytes 8 (s.utc.getD 0) ++ leBytes 4 frac ++ leBytes 4 (s.nv.calValid.toNat + 2 * s.get F.LIF_STAT_VBAT_LOST) ++ leBytes 8 s.powerOn ++
  leBytes 8 s.nv.lastSet

/-- GET_TIME (R408): writes the time record. -/
def execGetTime (id : Nat) (mem : HostMem) (s : State) : Answer :=
  answer (perform id opGETT (fun _ i =>
    [ i.checkFields { buffer := true } [] mem, i.checkBuffer 32 mem, checkDma mem ]) (fun i => do
    if mem.lost then lostWord i
    else
      writeBuffer id (← rd).timeBytes
      complete id cSUCCESS 0)) s

end Sys2Proof.Machine
end

