-- ==== Sys2Proof/Machine/RegCatalogue.lean ====
section
/-! DEFINITION. The access map of the registers: for each register of each window, its fields with their access type (R6)
and, for a CFG field, the range outside which a write is rejected (R90, R164, R184, R212, R238, R265, R279, R311, R504). -/

namespace Sys2Proof.Machine

/-- The fields of the register at offset `off` of DEV window (R532); none where the offset holds no register. -/
def devFields (off : Nat) : List FieldSpec :=
  match off with
  | 0x0 => [⟨F.DEV_ID_ID, .ro, 0, 4294967295⟩]
  | 0x100 => [
      ⟨F.DEV_MODE_STAT_MODE, .ro, 0, 15⟩,
      ⟨F.DEV_MODE_STAT_PREV_MODE, .ro, 0, 15⟩,
      ⟨F.DEV_MODE_STAT_TRANSITION, .ro, 0, 1⟩,
      ⟨F.DEV_MODE_STAT_OK_TO_REMOVE, .ro, 0, 1⟩,
      ⟨F.DEV_MODE_STAT_PWR_FAIL, .ro, 0, 1⟩,
      ⟨F.DEV_MODE_STAT_CAUSE, .ro, 0, 255⟩]
  | 0x104 => [⟨F.DEV_MODE_REQ_TARGET, .rw, 0, 15⟩]
  | 0x110 => [⟨F.DEV_TRACE_PAR_CNT_CNT, .ro, 0, 4294967295⟩]
  | _ => []

/-- The fields of the register at offset `off` of EVT window (R543); none where the offset holds no register. -/
def evtFields (off : Nat) : List FieldSpec :=
  match off with
  | 0x0 => [⟨F.EVT_STAT_COUNT, .ro, 0, 16383⟩]
  | 0x4 => [⟨F.EVT_SERIAL_SERIAL, .ro, 0, 4294967295⟩]
  | 0x8 => [⟨F.EVT_LOST_CNT_CNT, .ro, 0, 4294967295⟩]
  | 0xC => [⟨F.EVT_LAST_FAULT_ADDR, .ro, 0, 4294967295⟩]
  | off =>
    if 0x10 ≤ off ∧ off < 0x50 ∧ (off - 0x10) % 0x10 = 0 then
      [⟨F.EVT_FN_CTL_VEC0_MIN ((off - 0x10) / 0x10), .rw, 0, 7⟩, ⟨F.EVT_FN_CTL_EACH ((off - 0x10) / 0x10), .rw, 0, 1⟩]
    else     if 0x14 ≤ off ∧ off < 0x54 ∧ (off - 0x14) % 0x10 = 0 then
      [⟨F.EVT_FN_STAT_LEVEL ((off - 0x14) / 0x10), .ro, 0, 7⟩, ⟨F.EVT_FN_STAT_SIGNALLED ((off - 0x14) / 0x10), .ro, 0, 7⟩, ⟨F.EVT_FN_STAT_DEFERRED ((off - 0x14) / 0x10), .ro, 0, 1⟩, ⟨F.EVT_FN_STAT_UNREAD ((off - 0x14) / 0x10), .ro, 0, 65535⟩]
    else     if 0x18 ≤ off ∧ off < 0x58 ∧ (off - 0x18) % 0x10 = 0 then
      [⟨F.EVT_FN_CURSOR_CURSOR ((off - 0x18) / 0x10), .ro, 0, 4294967295⟩]
    else     if 0x80 ≤ off ∧ off < 0xC0 ∧ (off - 0x80) % 0x4 = 0 then
      [⟨F.EVT_MASK_MASK ((off - 0x80) / 0x4), .rw, 0, 4294967295⟩]
    else     if 0x100 ≤ off ∧ off < 0x900 ∧ (off - 0x100) % 0x4 = 0 then
      [⟨F.EVT_COUNT_CNT ((off - 0x100) / 0x4), .ro, 0, 4294967295⟩]
    else []

/-- The fields of the register at offset `off` of SEQ window (R453); none where the offset holds no register. -/
def seqFields (off : Nat) : List FieldSpec :=
  match off with
  | 0x0 => [
      ⟨F.SEQ_STAT_RUN, .ro, 0, 1⟩,
      ⟨F.SEQ_STAT_ROM_ONLY, .ro, 0, 1⟩,
      ⟨F.SEQ_STAT_FAILED_NUM, .ro, 0, 31⟩]
  | 0x4 => [⟨F.SEQ_FAILED_MASK, .ro, 0, 65535⟩]
  | 0x8 => [⟨F.SEQ_BUSY_THREADS, .ro, 0, 255⟩, ⟨F.SEQ_BUSY_PARKED, .ro, 0, 65535⟩]
  | 0xC => [
      ⟨F.SEQ_PATCH_STAT_SOURCE, .ro, 0, 3⟩,
      ⟨F.SEQ_PATCH_STAT_RESULT, .ro, 0, 3⟩,
      ⟨F.SEQ_PATCH_STAT_WORDS, .ro, 0, 32767⟩,
      ⟨F.SEQ_PATCH_STAT_OVL_USED, .ro, 0, 511⟩]
  | 0x10 => [⟨F.SEQ_PATCH_VER_VER, .ro, 0, 4294967295⟩]
  | 0x14 => [⟨F.SEQ_CS_ECC_CNT_CNT, .ro, 0, 4294967295⟩]
  | 0x18 => [⟨F.SEQ_RESTART_CNT_CNT, .ro, 0, 4294967295⟩]
  | 0x1C => [⟨F.SEQ_CONFLICT_CNT_CNT, .ro, 0, 4294967295⟩]
  | 0x20 => [⟨F.SEQ_ABANDON_CNT_CNT, .ro, 0, 4294967295⟩]
  | 0x28 => [⟨F.SEQ_COMMIT_CNT_CNT, .ro, 0, 0xFFFFFFFFFFFFFFFF⟩]
  | 0x30 => [⟨F.SEQ_EV_QUEUED_NUM, .ro, 0, 1023⟩]
  | off =>
    if 0x400 ≤ off ∧ off < 0x800 ∧ (off - 0x400) % 0x4 = 0 then
      [⟨F.SEQ_DISPATCH_OP_ENTRY ((off - 0x400) / 0x4), .ro, 0, 65535⟩, ⟨F.SEQ_DISPATCH_OP_VALID ((off - 0x400) / 0x4), .ro, 0, 1⟩, ⟨F.SEQ_DISPATCH_OP_ADMIN_ONLY ((off - 0x400) / 0x4), .ro, 0, 1⟩, ⟨F.SEQ_DISPATCH_OP_MODES ((off - 0x400) / 0x4), .ro, 0, 4095⟩, ⟨F.SEQ_DISPATCH_OP_BOUND ((off - 0x400) / 0x4), .ro, 0, 1⟩]
    else     if 0x800 ≤ off ∧ off < 0x1000 ∧ (off - 0x800) % 0x4 = 0 then
      [⟨F.SEQ_DISPATCH_EV_ENTRY ((off - 0x800) / 0x4), .ro, 0, 65535⟩, ⟨F.SEQ_DISPATCH_EV_ENABLED ((off - 0x800) / 0x4), .ro, 0, 1⟩, ⟨F.SEQ_DISPATCH_EV_CLASS ((off - 0x800) / 0x4), .ro, 0, 3⟩]
    else     if 0x1000 ≤ off ∧ off < 0x1400 ∧ (off - 0x1000) % 0x4 = 0 then
      [⟨F.SEQ_OVL_MATCH ((off - 0x1000) / 0x4), .ro, 0, 65535⟩, ⟨F.SEQ_OVL_TARGET ((off - 0x1000) / 0x4), .ro, 0, 65535⟩]
    else []

/-- The fields of the register at offset `off` of CCH window (R467); none where the offset holds no register. -/
def cchFields (off : Nat) : List FieldSpec :=
  match off with
  | 0x0 => [⟨F.CCH_CTL_ENABLE, .rw, 0, 1⟩]
  | 0x4 => [
      ⟨F.CCH_STAT_INIT_DONE, .ro, 0, 1⟩,
      ⟨F.CCH_STAT_DRAINING, .ro, 0, 1⟩,
      ⟨F.CCH_STAT_OP_BUSY, .ro, 0, 1⟩,
      ⟨F.CCH_STAT_CFG_REJECT, .w1c, 0, 1⟩,
      ⟨F.CCH_STAT_OP_REJECT, .w1c, 0, 1⟩,
      ⟨F.CCH_STAT_BYPASS, .ro, 0, 1⟩]
  | 0x8 => [⟨F.CCH_REGION_BASE_BASE, .cfg, 0, 262143⟩]
  | 0xC => [⟨F.CCH_REGION_SIZE_SIZE, .cfg, 0, 262143⟩]
  | 0x10 => [⟨F.CCH_OP_CTL_KIND, .rw, 0, 3⟩]
  | 0x14 => [⟨F.CCH_OP_BASE_LO_LO, .rw, 0, 33554431⟩]
  | 0x18 => [⟨F.CCH_OP_BASE_HI_HI, .rw, 0, 31⟩]
  | 0x1C => [⟨F.CCH_OP_LINES_LINES, .rw, 0, 4294967295⟩]
  | 0x20 => [⟨F.CCH_HIT_CNT_CNT, .ro, 0, 0xFFFFFFFFFFFFFFFF⟩]
  | 0x28 => [⟨F.CCH_MISS_CNT_CNT, .ro, 0, 0xFFFFFFFFFFFFFFFF⟩]
  | 0x30 => [⟨F.CCH_WB_CNT_CNT, .ro, 0, 0xFFFFFFFFFFFFFFFF⟩]
  | 0x38 => [⟨F.CCH_REINSTATE_CNT_CNT, .ro, 0, 4294967295⟩]
  | 0x3C => [⟨F.CCH_VICT_WAIT_CNT_CNT, .ro, 0, 4294967295⟩]
  | 0x40 => [⟨F.CCH_ECC_CNT_CNT, .ro, 0, 4294967295⟩]
  | 0x44 => [⟨F.CCH_DIRTY_LINES_NUM, .ro, 0, 262143⟩]
  | _ => []

/-- The fields of the register at offset `off` of DRM window (R483); none where the offset holds no register. -/
def drmFields (off : Nat) : List FieldSpec :=
  match off with
  | 0x0 => [⟨F.DRM_CTL_ENABLE, .rw, 0, 1⟩, ⟨F.DRM_CTL_IDLE_CLOSE, .cfg, 1, 65535⟩]
  | 0x4 => [
      ⟨F.DRM_STAT_CONFIG, .ro, 0, 3⟩,
      ⟨F.DRM_STAT_CH_UP, .ro, 0, 3⟩,
      ⟨F.DRM_STAT_TRAIN, .ro, 0, 3⟩,
      ⟨F.DRM_STAT_CFG_REJECT, .w1c, 0, 1⟩,
      ⟨F.DRM_STAT_ERASURE, .ro, 0, 1⟩]
  | 0x8 => [⟨F.DRM_PNR_RATE, .cfg, 4, 16⟩]
  | 0xC => [
      ⟨F.DRM_REF_STAT_DOUBLE, .ro, 0, 1⟩,
      ⟨F.DRM_REF_STAT_POSTPONED, .ro, 0, 15⟩,
      ⟨F.DRM_REF_STAT_TEMP, .ro, 0, 255⟩]
  | 0x10 => [⟨F.DRM_ECC_CNT_CNT, .ro, 0, 0xFFFFFFFFFFFFFFFF⟩]
  | 0x18 => [⟨F.DRM_UE_CNT_CNT, .ro, 0, 4294967295⟩]
  | 0x1C => [⟨F.DRM_PATROL_CNT_CNT, .ro, 0, 4294967295⟩]
  | 0x20 => [⟨F.DRM_LAST_ERR_LINE, .ro, 0, 0xFFFFFFFFFFFFFFFF⟩]
  | off =>
    if 0x28 ≤ off ∧ off < 0x38 ∧ (off - 0x28) % 0x4 = 0 then
      [⟨F.DRM_DEV_FAILED_MASK ((off - 0x28) / 0x4), .ro, 0, 1048575⟩]
    else     if 0x1000 ≤ off ∧ off < 0x2000 ∧ (off - 0x1000) % 0x4 = 0 then
      [⟨F.DRM_DELAY_RD ((off - 0x1000) / 0x4), .cfg, 0, 255⟩, ⟨F.DRM_DELAY_WR ((off - 0x1000) / 0x4), .cfg, 0, 255⟩, ⟨F.DRM_DELAY_VREF ((off - 0x1000) / 0x4), .cfg, 0, 255⟩]
    else []

/-- The fields of the register at offset `off` of FLZ window (R311, R504); none where the offset holds no register. -/
def flzFields (off : Nat) : List FieldSpec :=
  match off with
  | 0x0 => [
      ⟨F.FLZ_CTL_ENABLE, .rw, 0, 1⟩,
      ⟨F.FLZ_CTL_LOG_MAX, .cfg, 64, 512⟩,
      ⟨F.FLZ_CTL_SPARE_PCT, .cfg, 2, 10⟩,
      ⟨F.FLZ_CTL_IDLE_GC, .cfg, 0, 1⟩,
      ⟨F.FLZ_CTL_OPEN_MAX, .cfg, 16, 256⟩]
  | 0x4 => [
      ⟨F.FLZ_STAT_STATE, .ro, 0, 3⟩,
      ⟨F.FLZ_STAT_REBUILDING, .ro, 0, 1⟩,
      ⟨F.FLZ_STAT_CFG_REJECT, .w1c, 0, 1⟩,
      ⟨F.FLZ_STAT_DRAM_GATED, .ro, 0, 1⟩,
      ⟨F.FLZ_STAT_IDLE_GC_RUN, .ro, 0, 1⟩]
  | 0x8 => [⟨F.FLZ_GEOM_LUNS, .ro, 0, 511⟩, ⟨F.FLZ_GEOM_PPB, .ro, 0, 8191⟩]
  | 0xC => [⟨F.FLZ_GC_THR_HIGH, .cfg, 0, 65535⟩, ⟨F.FLZ_GC_THR_LOW, .cfg, 0, 65535⟩]
  | 0x10 => [⟨F.FLZ_GC_CTL_CRIT, .cfg, 1, 65534⟩, ⟨F.FLZ_GC_CTL_IDLE_MS, .cfg, 1, 255⟩]
  | 0x14 => [⟨F.FLZ_WL_CTL_WL_DELTA, .cfg, 1, 65535⟩]
  | 0x18 => [⟨F.FLZ_FREEZE_DRAM_MAX, .cfg, 16, 4096⟩]
  | 0x20 => [⟨F.FLZ_FREE_NUM, .ro, 0, 1048575⟩]
  | 0x24 => [⟨F.FLZ_BLOCKS_NUM, .ro, 0, 1048575⟩]
  | 0x28 => [⟨F.FLZ_SPARE_NUM, .ro, 0, 1048575⟩]
  | 0x2C => [⟨F.FLZ_LOG_USED_NUM, .ro, 0, 1023⟩]
  | 0x30 => [⟨F.FLZ_ADMIT_RATE, .ro, 0, 65535⟩, ⟨F.FLZ_ADMIT_GATED, .ro, 0, 1⟩]
  | 0x34 => [⟨F.FLZ_START_STAT_SOURCE, .ro, 0, 3⟩, ⟨F.FLZ_START_STAT_TIME_MS, .ro, 0, 16777215⟩]
  | 0x38 => [
      ⟨F.FLZ_REBUILD_LUN, .ro, 0, 255⟩,
      ⟨F.FLZ_REBUILD_ACTIVE, .ro, 0, 1⟩,
      ⟨F.FLZ_REBUILD_PROGRESS, .ro, 0, 65535⟩]
  | 0x3C => [⟨F.FLZ_CH_STAT_FAILED, .ro, 0, 255⟩]
  | 0x40 => [⟨F.FLZ_PROG_CNT_CNT, .ro, 0, 0xFFFFFFFFFFFFFFFF⟩]
  | 0x48 => [⟨F.FLZ_ERASE_CNT_CNT, .ro, 0, 0xFFFFFFFFFFFFFFFF⟩]
  | 0x50 => [⟨F.FLZ_BAD_CNT_CNT, .ro, 0, 4294967295⟩]
  | 0x54 => [⟨F.FLZ_RECON_CNT_CNT, .ro, 0, 4294967295⟩]
  | 0x100 => [⟨F.FLZ_ECC_CTL_T, .cfg, 64, 512⟩, ⟨F.FLZ_ECC_CTL_REFRESH, .cfg, 0, 1023⟩]
  | 0x104 => [⟨F.FLZ_ECC_STAT_T_PREV, .ro, 0, 1023⟩, ⟨F.FLZ_ECC_STAT_SYS_T, .ro, 0, 1023⟩]
  | 0x108 => [⟨F.FLZ_ECC_CORR_CNT_CNT, .ro, 0, 0xFFFFFFFFFFFFFFFF⟩]
  | 0x110 => [⟨F.FLZ_ECC_REFRESH_CNT_CNT, .ro, 0, 4294967295⟩]
  | 0x114 => [⟨F.FLZ_ECC_UE_CNT_CNT, .ro, 0, 4294967295⟩]
  | 0x118 => [⟨F.FLZ_ECC_MAX_MAX, .ro, 0, 1023⟩]
  | 0x11C => [⟨F.FLZ_ECC_OLD_NUM, .ro, 0, 1048575⟩]
  | 0x120 => [⟨F.FLZ_CMP_IN_CNT_CNT, .ro, 0, 0xFFFFFFFFFFFFFFFF⟩]
  | 0x128 => [⟨F.FLZ_CMP_OUT_CNT_CNT, .ro, 0, 0xFFFFFFFFFFFFFFFF⟩]
  | 0x130 => [⟨F.FLZ_CMP_RAW_CNT_CNT, .ro, 0, 4294967295⟩]
  | 0x134 => [⟨F.FLZ_CMP_ERR_CNT_CNT, .ro, 0, 4294967295⟩]
  | off =>
    if 0x58 ≤ off ∧ off < 0x64 ∧ (off - 0x58) % 0x4 = 0 then
      [⟨F.FLZ_MERGE_CNT ((off - 0x58) / 0x4), .ro, 0, 4294967295⟩]
    else     if 0x80 ≤ off ∧ off < 0xA0 ∧ (off - 0x80) % 0x4 = 0 then
      [⟨F.FLZ_LUN_FAILED_MASK ((off - 0x80) / 0x4), .ro, 0, 4294967295⟩]
    else []

/-- The fields of the register at offset `off` of HST window of function f (R425, R532); none where the offset holds no register. -/
def hstFields (f : Nat) (off : Nat) : List FieldSpec :=
  match off with
  | 0x0 => [
      ⟨F.HST_FN_ID_DEVICE_ID f, .ro, 0, 65535⟩,
      ⟨F.HST_FN_ID_PORT f, .ro, 0, 1⟩,
      ⟨F.HST_FN_ID_ADMIN f, .ro, 0, 1⟩,
      ⟨F.HST_FN_ID_STEPPING f, .ro, 0, 255⟩]
  | 0x4 => [⟨F.HST_FN_CTL_ENABLE f, .rw, 0, 1⟩]
  | 0x8 => [
      ⟨F.HST_FN_STAT_READY f, .ro, 0, 1⟩,
      ⟨F.HST_FN_STAT_CFG_REJECT f, .w1c, 0, 1⟩,
      ⟨F.HST_FN_STAT_FATAL f, .w1c, 0, 1⟩]
  | 0xC => [⟨F.HST_ATTN_STAT_LEVEL f, .ro, 0, 7⟩]
  | 0x10 => [⟨F.HST_SQ0_BASE_LO_BASE f, .cfg, 0, 1048575⟩]
  | 0x14 => [⟨F.HST_SQ0_BASE_HI_BASE f, .cfg, 0, 4294967295⟩]
  | 0x18 => [⟨F.HST_CQ0_BASE_LO_BASE f, .cfg, 0, 1048575⟩]
  | 0x1C => [⟨F.HST_CQ0_BASE_HI_BASE f, .cfg, 0, 4294967295⟩]
  | 0x20 => [⟨F.HST_RING0_SIZE_SQ_K f, .cfg, 0, 31⟩, ⟨F.HST_RING0_SIZE_CQ_K f, .cfg, 0, 31⟩]
  | 0x24 => [
      ⟨F.HST_LINK_STAT_SPEED f, .ro, 0, 15⟩,
      ⟨F.HST_LINK_STAT_WIDTH f, .ro, 0, 31⟩,
      ⟨F.HST_LINK_STAT_PSTATE f, .ro, 0, 3⟩]
  | _ => []

/-- The fields of the register at offset `off` of SEC window (R526); none where the offset holds no register. -/
def secFields (off : Nat) : List FieldSpec :=
  match off with
  | 0x0 => [
      ⟨F.SEC_BOOT_STAT_STEP, .ro, 0, 31⟩,
      ⟨F.SEC_BOOT_STAT_SLOT, .ro, 0, 3⟩,
      ⟨F.SEC_BOOT_STAT_CAUSE, .ro, 0, 15⟩,
      ⟨F.SEC_BOOT_STAT_JOURNAL_OK, .ro, 0, 1⟩,
      ⟨F.SEC_BOOT_STAT_DEGRADED, .ro, 0, 1⟩,
      ⟨F.SEC_BOOT_STAT_IDENTITY_OK, .ro, 0, 1⟩,
      ⟨F.SEC_BOOT_STAT_START_NUM, .ro, 0, 65535⟩]
  | 0x4 => [
      ⟨F.SEC_SLOT_STAT_ACTIVE, .ro, 0, 3⟩,
      ⟨F.SEC_SLOT_STAT_STAGED, .ro, 0, 3⟩,
      ⟨F.SEC_SLOT_STAT_REJECTED, .ro, 0, 3⟩]
  | 0x8 => [⟨F.SEC_PKG_VER_VER, .ro, 0, 0xFFFFFFFFFFFFFFFF⟩]
  | 0x10 => [
      ⟨F.SEC_OTP_STAT_COUNTER, .ro, 0, 127⟩,
      ⟨F.SEC_OTP_STAT_REVOKED, .ro, 0, 15⟩,
      ⟨F.SEC_OTP_STAT_DBG_KEYS, .ro, 0, 3⟩,
      ⟨F.SEC_OTP_STAT_DEBUG_DISABLED, .ro, 0, 1⟩]
  | 0x14 => [
      ⟨F.SEC_DBG_STAT_UNLOCKED, .ro, 0, 1⟩,
      ⟨F.SEC_DBG_STAT_FAILS, .ro, 0, 3⟩,
      ⟨F.SEC_DBG_STAT_LOCKOUT, .ro, 0, 1⟩,
      ⟨F.SEC_DBG_STAT_KEY, .ro, 0, 1⟩]
  | _ => []

/-- The fields of the register at offset `off` of LIF window (R561); none where the offset holds no register. -/
def lifFields (off : Nat) : List FieldSpec :=
  match off with
  | 0x0 => [
      ⟨F.LIF_STAT_CAL_VALID, .ro, 0, 1⟩,
      ⟨F.LIF_STAT_VBAT_LOST, .w1c, 0, 1⟩,
      ⟨F.LIF_STAT_VBAT_LOW, .ro, 0, 1⟩,
      ⟨F.LIF_STAT_TAMPER, .w1c, 0, 1⟩,
      ⟨F.LIF_STAT_SAVE_FAIL, .w1c, 0, 1⟩,
      ⟨F.LIF_STAT_PF_RECORD, .ro, 0, 1⟩]
  | 0x8 => [⟨F.LIF_POWER_ON_SEC, .ro, 0, 0xFFFFFFFFFFFFFFFF⟩]
  | 0x10 => [⟨F.LIF_UTC_SEC, .ro, 0, 0xFFFFFFFFFFFFFFFF⟩]
  | 0x18 => [⟨F.LIF_TAMPER_TIME_SEC, .ro, 0, 0xFFFFFFFFFFFFFFFF⟩]
  | 0x20 => [⟨F.LIF_SAVE_TIME_SEC, .ro, 0, 0xFFFFFFFFFFFFFFFF⟩]
  | 0x28 => [⟨F.LIF_UNCLEAN_CNT_CNT, .ro, 0, 4294967295⟩]
  | off =>
    if 0x40 ≤ off ∧ off < 0xC0 ∧ (off - 0x40) % 0x4 = 0 then
      [⟨F.LIF_PIN_SHORT_BITS ((off - 0x40) / 0x4), .w1c, 0, 4294967295⟩]
    else []

/-- The fields of the register at offset `off` of slot j of servo engine e (R113); none where the offset holds no register. -/
def srvslotFields (e : Nat) (j : Nat) (off : Nat) : List FieldSpec :=
  match off with
  | 0x0 => [
      ⟨F.SRV_SLOT_CTL_ENABLE e j, .rw, 0, 1⟩,
      ⟨F.SRV_SLOT_CTL_RATE e j, .cfg, 0, 3⟩,
      ⟨F.SRV_SLOT_CTL_PHASE e j, .cfg, 0, 63⟩,
      ⟨F.SRV_SLOT_CTL_N_SEC e j, .cfg, 0, 8⟩,
      ⟨F.SRV_SLOT_CTL_BUMP e j, .cfg, 0, 15⟩,
      ⟨F.SRV_SLOT_CTL_SW_0 e j, .rw, 0, 1⟩,
      ⟨F.SRV_SLOT_CTL_SW_1 e j, .rw, 0, 1⟩,
      ⟨F.SRV_SLOT_CTL_FREEZE e j, .rw, 0, 1⟩,
      ⟨F.SRV_SLOT_CTL_INTEG e j, .cfg, 0, 255⟩]
  | 0x4 => [
      ⟨F.SRV_SLOT_SRC_IN e j, .cfg, 0, 127⟩,
      ⟨F.SRV_SLOT_SRC_SP e j, .cfg, 0, 127⟩,
      ⟨F.SRV_SLOT_SRC_FF e j, .cfg, 0, 127⟩,
      ⟨F.SRV_SLOT_SRC_OWNER e j, .cfg, 0, 15⟩]
  | 0x8 => [⟨F.SRV_SLOT_DEST_KIND e j, .cfg, 0, 7⟩, ⟨F.SRV_SLOT_DEST_DAC e j, .cfg, 0, 3⟩]
  | 0xC => [⟨F.SRV_SLOT_SP_SP e j, .rw, 0, 4294967295⟩]
  | 0x10 => [⟨F.SRV_LIM_HI_LIM e j, .rw, 0, 4294967295⟩]
  | 0x14 => [⟨F.SRV_LIM_LO_LIM e j, .rw, 0, 4294967295⟩]
  | 0x18 => [⟨F.SRV_REGION_SEL_SEL e j, .cfg, 0, 1073741823⟩]
  | 0x1C => [⟨F.SRV_FE_WARN_LIM e j, .rw, 0, 4294967295⟩]
  | 0x20 => [⟨F.SRV_FE_LIM_LIM e j, .rw, 0, 4294967295⟩]
  | 0x24 => [⟨F.SRV_FE_CTL_TIME e j, .rw, 0, 65535⟩, ⟨F.SRV_FE_CTL_ACT e j, .rw, 0, 31⟩]
  | 0x28 => [
      ⟨F.SRV_SLOT_STAT_CFG_REJECT e j, .w1c, 0, 1⟩,
      ⟨F.SRV_SLOT_STAT_FE_WARN e j, .ro, 0, 1⟩,
      ⟨F.SRV_SLOT_STAT_FE_FAULT e j, .w1c, 0, 1⟩,
      ⟨F.SRV_SLOT_STAT_CLAMP e j, .ro, 0, 1⟩,
      ⟨F.SRV_SLOT_STAT_REGION e j, .ro, 0, 63⟩,
      ⟨F.SRV_SLOT_STAT_GSET e j, .ro, 0, 7⟩]
  | 0x2C => [⟨F.SRV_SLOT_OUT_U e j, .ro, 0, 4294967295⟩]
  | 0x30 => [⟨F.SRV_SLOT_ERR_E e j, .ro, 0, 4294967295⟩]
  | 0x34 => [⟨F.SRV_BUMP_OFS_D e j, .ro, 0, 4294967295⟩]
  | 0x38 => [⟨F.SRV_SAT_CNT_CNT e j, .ro, 0, 4294967295⟩]
  | off =>
    if 0x40 ≤ off ∧ off < 0x80 ∧ (off - 0x40) % 0x4 = 0 then
      (List.range 4).map (fun n => ⟨F.SRV_REGION_TBL_ENTRY e j (off - 0x40 + n), .rw, 0, 31⟩)
    else []

/-- The fields of the register at offset `off` of engine e (R113); none where the offset holds no register. -/
def srvengFields (e : Nat) (off : Nat) : List FieldSpec :=
  match off with
  | 0xC000 => [⟨F.SRV_BLK_STAT_ENGINE_FAULT e, .ro, 0, 1⟩, ⟨F.SRV_BLK_STAT_CAUSE e, .ro, 0, 3⟩]
  | 0xC008 => [⟨F.SRV_FRAME_CNT_CNT e, .ro, 0, 0xFFFFFFFFFFFFFFFF⟩]
  | 0xC010 => [⟨F.SRV_LOAD_LOAD e, .ro, 0, 2047⟩]
  | 0xC014 => [⟨F.SRV_ECC_CNT_CNT e, .ro, 0, 4294967295⟩]
  | _ => []

/-- The fields of the register at offset `off` of trace buffer k of engine e (R113); none where the offset holds no register. -/
def srvtrcFields (e : Nat) (k : Nat) (off : Nat) : List FieldSpec :=
  match off with
  | 0x0 => [
      ⟨F.SRV_TRC_CTL_ARM e k, .rw, 0, 1⟩,
      ⟨F.SRV_TRC_CTL_SW_TRIG e k, .rw, 0, 1⟩,
      ⟨F.SRV_TRC_CTL_SLOT e k, .rw, 0, 63⟩,
      ⟨F.SRV_TRC_CTL_TAP e k, .rw, 0, 15⟩,
      ⟨F.SRV_TRC_CTL_TRIG e k, .rw, 0, 15⟩,
      ⟨F.SRV_TRC_CTL_TRIG_BUF e k, .rw, 0, 7⟩,
      ⟨F.SRV_TRC_CTL_DEC e k, .rw, 0, 1023⟩]
  | 0x4 => [⟨F.SRV_TRC_LEVEL_LEVEL e k, .rw, 0, 4294967295⟩]
  | 0x8 => [
      ⟨F.SRV_TRC_STAT_STATE e k, .ro, 0, 3⟩,
      ⟨F.SRV_TRC_STAT_TRIG_OFFSET e k, .ro, 0, 1023⟩,
      ⟨F.SRV_TRC_STAT_START e k, .ro, 0, 16383⟩]
  | 0xC => [⟨F.SRV_TRC_PRE_PRE e k, .rw, 0, 16383⟩, ⟨F.SRV_TRC_PRE_PRE_VALID e k, .ro, 0, 16383⟩]
  | 0x10 => [⟨F.SRV_TRC_TRIG_FRAME_FRAME e k, .ro, 0, 0xFFFFFFFFFFFFFFFF⟩]
  | _ => []

/-- The fields of the register at offset `off` of motor k (R164); none where the offset holds no register. -/
def motFields (k : Nat) (off : Nat) : List FieldSpec :=
  match off with
  | 0x0 => [
      ⟨F.MOT_CTL_ENABLE k, .rw, 0, 1⟩,
      ⟨F.MOT_CTL_POLE_PAIRS k, .cfg, 1, 15⟩,
      ⟨F.MOT_CTL_DEAD k, .cfg, 0, 255⟩,
      ⟨F.MOT_CTL_SETTLE k, .cfg, 30, 255⟩,
      ⟨F.MOT_CTL_VMAX k, .cfg, 128, 255⟩]
  | 0x4 => [
      ⟨F.MOT_CMD_CMD k, .rw, 0, 15⟩,
      ⟨F.MOT_CMD_CLASS k, .rw, 0, 3⟩,
      ⟨F.MOT_CMD_TARGET k, .rw, 0, 16777215⟩]
  | 0x8 => [
      ⟨F.MOT_STAT_STATE k, .ro, 0, 15⟩,
      ⟨F.MOT_STAT_RESULT k, .ro, 0, 7⟩,
      ⟨F.MOT_STAT_SHORT k, .ro, 0, 1⟩,
      ⟨F.MOT_STAT_OPEN k, .ro, 0, 1⟩,
      ⟨F.MOT_STAT_ENC_FAULT k, .ro, 0, 1⟩,
      ⟨F.MOT_STAT_NO_INDEX k, .ro, 0, 1⟩,
      ⟨F.MOT_STAT_REVERSE_NOT_STOPPED k, .w1c, 0, 1⟩,
      ⟨F.MOT_STAT_SYNC_LOST k, .w1c, 0, 1⟩,
      ⟨F.MOT_STAT_CFG_REJECT k, .w1c, 0, 1⟩,
      ⟨F.MOT_STAT_REVERSE k, .ro, 0, 1⟩,
      ⟨F.MOT_STAT_LOW_SPEED k, .ro, 0, 1⟩,
      ⟨F.MOT_STAT_BRAKING k, .ro, 0, 1⟩,
      ⟨F.MOT_STAT_SKIP_RUN k, .ro, 0, 15⟩]
  | 0xC => [
      ⟨F.MOT_CUR_I_RATED k, .cfg, 1, 65535⟩,
      ⟨F.MOT_CUR_BRAKE k, .cfg, 1, 100⟩,
      ⟨F.MOT_CUR_SOFT k, .cfg, 1, 100⟩]
  | 0x10 => [⟨F.MOT_LIM_I_TRIP k, .cfg, 1, 65535⟩, ⟨F.MOT_LIM_LOW_SPEED k, .cfg, 1, 65535⟩]
  | 0x14 => [
      ⟨F.MOT_OBS_ANGLE_LIM k, .cfg, 1, 4095⟩,
      ⟨F.MOT_OBS_TIME k, .cfg, 1, 4095⟩,
      ⟨F.MOT_OBS_BEMF_MIN k, .cfg, 1, 255⟩]
  | 0x18 => [⟨F.MOT_RAMP_ACCEL k, .cfg, 1, 65535⟩, ⟨F.MOT_RAMP_DECEL k, .cfg, 1, 65535⟩]
  | 0x1C => [
      ⟨F.MOT_WIRING_ENC_INV k, .ro, 0, 1⟩,
      ⟨F.MOT_WIRING_PH_SWAP k, .ro, 0, 1⟩,
      ⟨F.MOT_WIRING_SHUNT_INV k, .ro, 0, 1⟩,
      ⟨F.MOT_WIRING_CHECKED k, .ro, 0, 1⟩,
      ⟨F.MOT_WIRING_OFS_VALID k, .ro, 0, 1⟩,
      ⟨F.MOT_WIRING_INDEX_OFS k, .cfg, 0, 65535⟩]
  | 0x20 => [⟨F.MOT_SPEED_RPM k, .ro, 0, 4294967295⟩]
  | 0x24 => [⟨F.MOT_OBS_SPEED_RPM k, .ro, 0, 4294967295⟩]
  | 0x28 => [⟨F.MOT_ANGLE_ENC k, .ro, 0, 65535⟩, ⟨F.MOT_ANGLE_OBS k, .ro, 0, 65535⟩]
  | 0x2C => [⟨F.MOT_POS_POS k, .ro, 0, 4294967295⟩]
  | 0x30 => [⟨F.MOT_SHUNT_OFS_OFS k, .ro, 0, 16383⟩]
  | 0x34 => [⟨F.MOT_MODEL_RES k, .cfg, 0, 65535⟩, ⟨F.MOT_MODEL_IND k, .cfg, 0, 65535⟩]
  | 0x38 => [⟨F.MOT_REV_CNT_CNT k, .ro, 0, 0xFFFFFFFFFFFFFFFF⟩]
  | _ => []

/-- The fields of the register at offset `off` of axis k (R184); none where the offset holds no register. -/
def stpFields (k : Nat) (off : Nat) : List FieldSpec :=
  match off with
  | 0x0 => [
      ⟨F.STP_CTL_ENABLE k, .rw, 0, 1⟩,
      ⟨F.STP_CTL_DIR_INV k, .cfg, 0, 1⟩,
      ⟨F.STP_CTL_FAULT_POL k, .cfg, 0, 1⟩,
      ⟨F.STP_CTL_PULSE_W k, .cfg, 30, 255⟩,
      ⟨F.STP_CTL_DIR_SETUP k, .cfg, 1, 255⟩]
  | 0x4 => [⟨F.STP_CMD_CMD k, .rw, 0, 7⟩, ⟨F.STP_CMD_BLEND k, .rw, 0, 1⟩]
  | 0x8 => [
      ⟨F.STP_STAT_STATE k, .ro, 0, 7⟩,
      ⟨F.STP_STAT_RESULT k, .ro, 0, 7⟩,
      ⟨F.STP_STAT_QUEUE k, .ro, 0, 15⟩,
      ⟨F.STP_STAT_HOMED k, .ro, 0, 1⟩,
      ⟨F.STP_STAT_DRV_FAULT k, .ro, 0, 1⟩,
      ⟨F.STP_STAT_SLIP k, .w1c, 0, 1⟩,
      ⟨F.STP_STAT_LIMIT k, .w1c, 0, 1⟩,
      ⟨F.STP_STAT_CFG_REJECT k, .w1c, 0, 1⟩]
  | 0xC => [⟨F.STP_TARGET_POS k, .rw, 0, 4294967295⟩]
  | 0x10 => [⟨F.STP_VSS_V_START k, .cfg, 0, 65535⟩, ⟨F.STP_VSS_V_STOP k, .cfg, 0, 65535⟩]
  | 0x14 => [⟨F.STP_VMAX_V_M k, .cfg, 1, 500000⟩]
  | 0x18 => [⟨F.STP_ACC_A_ACC k, .cfg, 1, 65535⟩, ⟨F.STP_ACC_A_DEC k, .cfg, 1, 65535⟩]
  | 0x1C => [⟨F.STP_LIM_LO_LIM k, .cfg, 0, 4294967295⟩]
  | 0x20 => [⟨F.STP_LIM_HI_LIM k, .cfg, 0, 4294967295⟩]
  | 0x24 => [⟨F.STP_HOME_HOME_V k, .cfg, 0, 65535⟩, ⟨F.STP_HOME_HOME_OVER k, .cfg, 0, 65535⟩]
  | 0x28 => [⟨F.STP_HOME_OFS_OFS k, .cfg, 0, 65535⟩]
  | 0x2C => [
      ⟨F.STP_SETTLE_TIME k, .rw, 0, 65535⟩,
      ⟨F.STP_SETTLE_SLIP_TOL k, .rw, 0, 255⟩,
      ⟨F.STP_SETTLE_LAND_SPOKES k, .rw, 0, 15⟩]
  | 0x30 => [⟨F.STP_POS_POS k, .ro, 0, 4294967295⟩]
  | 0x34 => [⟨F.STP_REMAIN_DIST k, .ro, 0, 4294967295⟩]
  | 0x38 => [⟨F.STP_LAST_SLIP_SLIP k, .ro, 0, 4294967295⟩]
  | 0x3C => [⟨F.STP_SLIP_CNT_CNT k, .ro, 0, 4294967295⟩]
  | 0x40 => [⟨F.STP_STEP_CNT_CNT k, .ro, 0, 0xFFFFFFFFFFFFFFFF⟩]
  | _ => []

/-- The fields of the register at offset `off` of RF input i = 4k + s (R212); none where the offset holds no register. -/
def rchinFields (i : Nat) (off : Nat) : List FieldSpec :=
  match off with
  | 0x0 => [
      ⟨F.RCH_IN_CTL_ENABLE i, .rw, 0, 1⟩,
      ⟨F.RCH_IN_CTL_AGC_HOLD i, .rw, 0, 1⟩,
      ⟨F.RCH_IN_CTL_POL_INV i, .rw, 0, 1⟩,
      ⟨F.RCH_IN_CTL_AGC_TARGET i, .cfg, 16, 255⟩,
      ⟨F.RCH_IN_CTL_AGC_RATE i, .cfg, 1, 15⟩]
  | 0x4 => [⟨F.RCH_IN_GAIN_PGA i, .ro, 0, 127⟩, ⟨F.RCH_IN_GAIN_FINE i, .ro, 0, 16383⟩]
  | 0x8 => [⟨F.RCH_IN_MAP_MAP i, .rw, 0, 4294967295⟩]
  | 0xC => [
      ⟨F.RCH_IN_SUB_FAILED i, .rw, 0, 1023⟩,
      ⟨F.RCH_IN_SUB_SHADOW_A i, .rw, 0, 7⟩,
      ⟨F.RCH_IN_SUB_SHADOW_B i, .rw, 0, 7⟩]
  | 0x10 => [
      ⟨F.RCH_IN_STAT_INVERTED i, .w1c, 0, 1⟩,
      ⟨F.RCH_IN_STAT_NO_SIGNAL i, .w1c, 0, 1⟩,
      ⟨F.RCH_IN_STAT_CLIP i, .w1c, 0, 1⟩,
      ⟨F.RCH_IN_STAT_SUB_DEGRADED i, .ro, 0, 1⟩,
      ⟨F.RCH_IN_STAT_CFG_REJECT i, .w1c, 0, 1⟩,
      ⟨F.RCH_IN_STAT_BOUND i, .ro, 0, 1⟩,
      ⟨F.RCH_IN_STAT_LANE i, .ro, 0, 63⟩]
  | off =>
    if 0x40 ≤ off ∧ off < 0x68 ∧ (off - 0x40) % 0x4 = 0 then
      [⟨F.RCH_IN_TRIM_OFFSET i ((off - 0x40) / 0x4), .rw, 0, 255⟩, ⟨F.RCH_IN_TRIM_GAIN i ((off - 0x40) / 0x4), .rw, 0, 4095⟩, ⟨F.RCH_IN_TRIM_SKEW i ((off - 0x40) / 0x4), .rw, 0, 4095⟩]
    else []

/-- The fields of the register at offset `off` of RCH window of OPU_k (R90, R212, R238); none where the offset holds no register. -/
def rchFields (k : Nat) (off : Nat) : List FieldSpec :=
  match off with
  | 0x800 => [
      ⟨F.RCH_SPK_CTL_SYNC_MIN k, .cfg, 8, 12⟩,
      ⟨F.RCH_SPK_CTL_WIN k, .cfg, 1, 15⟩,
      ⟨F.RCH_SPK_CTL_CONFIRM k, .cfg, 1, 15⟩,
      ⟨F.RCH_SPK_CTL_COAST_MAX k, .cfg, 1, 15⟩,
      ⟨F.RCH_SPK_CTL_TRK_WIN k, .cfg, 1, 255⟩]
  | 0x804 => [
      ⟨F.RCH_SPK_WR_OFFTRACK k, .rw, 0, 255⟩,
      ⟨F.RCH_SPK_WR_SLIP k, .rw, 0, 15⟩,
      ⟨F.RCH_SPK_WR_MISS_MAX k, .rw, 0, 15⟩]
  | 0x808 => [
      ⟨F.RCH_SPK_STAT_STATE k, .ro, 0, 3⟩,
      ⟨F.RCH_SPK_STAT_MISS_RUN k, .ro, 0, 15⟩,
      ⟨F.RCH_SPK_STAT_WR_GATE_OK k, .ro, 0, 1⟩,
      ⟨F.RCH_SPK_STAT_SIDE_MISMATCH k, .ro, 0, 1⟩,
      ⟨F.RCH_SPK_STAT_LAYER_MISMATCH k, .ro, 0, 1⟩,
      ⟨F.RCH_SPK_STAT_LAST_INDEX k, .ro, 0, 1023⟩]
  | 0x80C => [
      ⟨F.RCH_SPK_POS_TRACK k, .ro, 0, 262143⟩,
      ⟨F.RCH_SPK_POS_FLYWHEEL k, .ro, 0, 1⟩,
      ⟨F.RCH_SPK_POS_SIDE k, .ro, 0, 1⟩,
      ⟨F.RCH_SPK_POS_LAYER k, .ro, 0, 7⟩,
      ⟨F.RCH_SPK_POS_ZONE k, .ro, 0, 31⟩]
  | 0x810 => [⟨F.RCH_SPK_PES_PES k, .ro, 0, 4294967295⟩]
  | 0x814 => [⟨F.RCH_SPK_PERIOD_PERIOD k, .ro, 0, 4294967295⟩]
  | 0x818 => [⟨F.RCH_SPK_ACC_CNT_CNT k, .ro, 0, 0xFFFFFFFFFFFFFFFF⟩]
  | 0x820 => [⟨F.RCH_SPK_POS_CNT_CNT k, .ro, 0, 0xFFFFFFFFFFFFFFFF⟩]
  | 0x828 => [⟨F.RCH_SPK_MISS_CNT_CNT k, .ro, 0, 0xFFFFFFFFFFFFFFFF⟩]
  | 0x900 => [
      ⟨F.RCH_SYNC_CTL_SYNC_WIN k, .cfg, 1, 16⟩,
      ⟨F.RCH_SYNC_CTL_SYNC_MIN k, .cfg, 24, 48⟩,
      ⟨F.RCH_SYNC_CTL_RSYNC_WIN k, .cfg, 1, 7⟩,
      ⟨F.RCH_SYNC_CTL_RSYNC_MIN k, .cfg, 12, 24⟩,
      ⟨F.RCH_SYNC_CTL_HYP_MAX k, .cfg, 0, 4⟩]
  | 0x908 => [⟨F.RCH_SYNC_MISS_CNT_CNT k, .ro, 0, 0xFFFFFFFFFFFFFFFF⟩]
  | 0x910 => [⟨F.RCH_RSYNC_SLIP_CNT_CNT k, .ro, 0, 0xFFFFFFFFFFFFFFFF⟩]
  | 0x918 => [⟨F.RCH_ALIGN_CNT_CNT k, .ro, 0, 0xFFFFFFFFFFFFFFFF⟩]
  | 0xA00 => [⟨F.RCH_JD_CTL_FLY_SHIFT k, .cfg, 0, 3⟩, ⟨F.RCH_JD_CTL_SLIP_ERASE k, .cfg, 0, 1⟩]
  | 0xA04 => [⟨F.RCH_JD_STAT_MODE k, .ro, 0, 3⟩, ⟨F.RCH_JD_STAT_UNBOUND k, .ro, 0, 7⟩]
  | 0xA10 => [⟨F.RCH_JD_KAPPA_I_INNER k, .rw, 0, 65535⟩, ⟨F.RCH_JD_KAPPA_I_OUTER k, .rw, 0, 65535⟩]
  | 0xA14 => [⟨F.RCH_JD_KAPPA_C_INNER k, .rw, 0, 65535⟩, ⟨F.RCH_JD_KAPPA_C_OUTER k, .rw, 0, 65535⟩]
  | 0xA18 => [⟨F.RCH_JD_KAPPA_O_INNER k, .rw, 0, 65535⟩, ⟨F.RCH_JD_KAPPA_O_OUTER k, .rw, 0, 65535⟩]
  | 0xA20 => [⟨F.RCH_JD_PROV_FAIL_CNT_CNT k, .ro, 0, 0xFFFFFFFFFFFFFFFF⟩]
  | 0xA28 => [⟨F.RCH_JD_REDEC_OK_CNT_CNT k, .ro, 0, 0xFFFFFFFFFFFFFFFF⟩]
  | 0xA30 => [⟨F.RCH_JD_STALL_CNT_CNT k, .ro, 0, 4294967295⟩]
  | _ => []

/-- The fields of the register at offset `off` of lane n (R212); none where the offset holds no register. -/
def laneFields (n : Nat) (off : Nat) : List FieldSpec :=
  match off with
  | 0x0 => [⟨F.RCH_LANE_BIND_ENABLE n, .rw, 0, 1⟩, ⟨F.RCH_LANE_BIND_INPUT n, .cfg, 0, 31⟩]
  | 0x4 => [
      ⟨F.RCH_LANE_STAT_STATE n, .ro, 0, 3⟩,
      ⟨F.RCH_LANE_STAT_FAILED n, .ro, 0, 1⟩,
      ⟨F.RCH_LANE_STAT_CAUSE n, .ro, 0, 3⟩,
      ⟨F.RCH_LANE_STAT_TRIAL n, .ro, 0, 1⟩,
      ⟨F.RCH_LANE_STAT_TIMING_LIMIT n, .ro, 0, 1⟩,
      ⟨F.RCH_LANE_STAT_CFG_REJECT n, .w1c, 0, 1⟩,
      ⟨F.RCH_LANE_STAT_LAST_SCORE n, .ro, 0, 63⟩]
  | 0x8 => [
      ⟨F.RCH_LANE_EQ_GAMMA n, .cfg, 0, 127⟩,
      ⟨F.RCH_LANE_EQ_MU n, .cfg, 0, 15⟩,
      ⟨F.RCH_LANE_EQ_ADAPT_HOLD n, .rw, 0, 1⟩]
  | 0xC => [
      ⟨F.RCH_LANE_TIMING_KP_ACQ n, .cfg, 1, 15⟩,
      ⟨F.RCH_LANE_TIMING_KP_TRK n, .cfg, 1, 15⟩,
      ⟨F.RCH_LANE_TIMING_KI n, .cfg, 1, 15⟩]
  | 0x10 => [⟨F.RCH_LANE_FREQ_FREQ n, .ro, 0, 4294967295⟩]
  | off =>
    if 0x20 ≤ off ∧ off < 0x40 ∧ (off - 0x20) % 0x4 = 0 then
      [⟨F.RCH_LANE_TAPS_EVEN n ((off - 0x20) / 0x4), .ro, 0, 65535⟩, ⟨F.RCH_LANE_TAPS_ODD n ((off - 0x20) / 0x4), .ro, 0, 65535⟩]
    else []

/-- The fields of the register at offset `off` of lane pool (R212); none where the offset holds no register. -/
def poolFields (off : Nat) : List FieldSpec :=
  match off with
  | 0x0 => [⟨F.RCH_POOL_FREE_0_MASK, .ro, 0, 4294967295⟩]
  | 0x4 => [⟨F.RCH_POOL_FREE_1_MASK, .ro, 0, 15⟩]
  | 0x8 => [⟨F.RCH_POOL_FAILED_0_MASK, .ro, 0, 4294967295⟩]
  | 0xC => [⟨F.RCH_POOL_FAILED_1_MASK, .ro, 0, 15⟩]
  | 0x10 => [⟨F.RCH_TAKEOVER_CNT_CNT, .ro, 0, 4294967295⟩]
  | _ => []

/-- The fields of the register at offset `off` of LDP window (R238); none where the offset holds no register. -/
def ldpFields (off : Nat) : List FieldSpec :=
  match off with
  | 0x0 => [
      ⟨F.LDP_CTL_ENABLE, .rw, 0, 1⟩,
      ⟨F.LDP_CTL_GLOBAL_MAX, .cfg, 1, 3⟩,
      ⟨F.LDP_CTL_LOCAL_1, .cfg, 1, 31⟩,
      ⟨F.LDP_CTL_LOCAL_2, .cfg, 1, 31⟩,
      ⟨F.LDP_CTL_LOCAL_3, .cfg, 1, 31⟩,
      ⟨F.LDP_CTL_DEEP_LOCAL, .cfg, 1, 31⟩,
      ⟨F.LDP_CTL_DEEP_GLOBAL, .cfg, 0, 3⟩]
  | 0x4 => [
      ⟨F.LDP_LADDER_MAX_0, .rw, 0, 7⟩,
      ⟨F.LDP_LADDER_MAX_1, .rw, 0, 7⟩,
      ⟨F.LDP_LADDER_MAX_2, .rw, 0, 7⟩,
      ⟨F.LDP_LADDER_MAX_3, .rw, 0, 7⟩,
      ⟨F.LDP_LADDER_MARGIN_REVS, .rw, 1, 8⟩,
      ⟨F.LDP_LADDER_SALVAGE_THR, .rw, 0, 15⟩]
  | 0x8 => [
      ⟨F.LDP_STAT_DEC_FAILED, .ro, 0, 65535⟩,
      ⟨F.LDP_STAT_OUTER_FAILED, .ro, 0, 15⟩,
      ⟨F.LDP_STAT_STALL, .w1c, 0, 1⟩,
      ⟨F.LDP_STAT_CFG_REJECT, .w1c, 0, 1⟩]
  | 0xC => [⟨F.LDP_LOAD_LOAD, .ro, 0, 255⟩]
  | 0x10 => [⟨F.LDP_CW_CNT_CNT, .ro, 0, 0xFFFFFFFFFFFFFFFF⟩]
  | 0x18 => [⟨F.LDP_ITER_CNT_CNT, .ro, 0, 0xFFFFFFFFFFFFFFFF⟩]
  | 0x20 => [⟨F.LDP_OUTER_CNT_CNT, .ro, 0, 0xFFFFFFFFFFFFFFFF⟩]
  | 0x28 => [⟨F.LDP_POISON_CNT_CNT, .ro, 0, 0xFFFFFFFFFFFFFFFF⟩]
  | off =>
    if 0x40 ≤ off ∧ off < 0x5C ∧ (off - 0x40) % 0x4 = 0 then
      [⟨F.LDP_RUNG_CNT_CNT ((off - 0x40) / 0x4), .ro, 0, 4294967295⟩]
    else []

/-- The fields of the register at offset `off` of WRP window of OPU_k (R265); none where the offset holds no register. -/
def wrpFields (k : Nat) (off : Nat) : List FieldSpec :=
  match off with
  | 0x0 => [
      ⟨F.WRP_CTL_ENABLE k, .rw, 0, 1⟩,
      ⟨F.WRP_CTL_COOL_EN k, .cfg, 0, 1⟩,
      ⟨F.WRP_CTL_WR_HOLD k, .rw, 0, 1⟩]
  | 0x4 => [
      ⟨F.WRP_STAT_STATE k, .ro, 0, 7⟩,
      ⟨F.WRP_STAT_RAW_BURST k, .w1c, 0, 1⟩,
      ⟨F.WRP_STAT_WR_DISABLED k, .ro, 0, 1⟩,
      ⟨F.WRP_STAT_CFG_REJECT k, .w1c, 0, 1⟩]
  | 0x8 => [
      ⟨F.WRP_WSL_CTL_TRAIN k, .rw, 0, 1⟩,
      ⟨F.WRP_WSL_CTL_LAT k, .cfg, 8, 32⟩,
      ⟨F.WRP_WSL_CTL_SWAP k, .ro, 0, 1⟩,
      ⟨F.WRP_WSL_CTL_INV_0 k, .ro, 0, 1⟩,
      ⟨F.WRP_WSL_CTL_INV_1 k, .ro, 0, 1⟩,
      ⟨F.WRP_WSL_CTL_CLK_INV k, .ro, 0, 1⟩]
  | 0xC => [
      ⟨F.WRP_WSL_STAT_RESULT k, .ro, 0, 3⟩,
      ⟨F.WRP_WSL_STAT_OBS k, .ro, 0, 63⟩,
      ⟨F.WRP_WSL_STAT_DUTY k, .ro, 0, 3⟩]
  | 0x10 => [
      ⟨F.WRP_RAW_CTL_PASS_MAX k, .cfg, 1, 4160⟩,
      ⟨F.WRP_RAW_CTL_RELOC_MAX k, .cfg, 1, 15⟩,
      ⟨F.WRP_RAW_CTL_BURST_LIM k, .cfg, 1, 63⟩,
      ⟨F.WRP_RAW_CTL_NORM_DLY k, .cfg, 0, 63⟩]
  | 0x14 => [⟨F.WRP_WR_TIMING_OFFSET k, .rw, 0, 4095⟩]
  | 0x18 => [
      ⟨F.WRP_RAW_LAST_WEIGHT k, .ro, 0, 8191⟩,
      ⟨F.WRP_RAW_LAST_PASS k, .ro, 0, 1⟩,
      ⟨F.WRP_RAW_LAST_SYNC_MISSED k, .ro, 0, 1⟩,
      ⟨F.WRP_RAW_LAST_TIMING_LIMIT k, .ro, 0, 1⟩,
      ⟨F.WRP_RAW_LAST_SECTOR k, .ro, 0, 255⟩]
  | 0x20 => [⟨F.WRP_RAW_PASS_CNT_CNT k, .ro, 0, 0xFFFFFFFFFFFFFFFF⟩]
  | 0x28 => [⟨F.WRP_RAW_FAIL_CNT_CNT k, .ro, 0, 0xFFFFFFFFFFFFFFFF⟩]
  | 0x30 => [⟨F.WRP_ENERGY_UJ k, .ro, 0, 0xFFFFFFFFFFFFFFFF⟩]
  | 0x38 => [⟨F.WRP_RELOC_CNT_CNT k, .ro, 0, 4294967295⟩]
  | 0x3C => [⟨F.WRP_SUSPEND_CNT_CNT k, .ro, 0, 4294967295⟩]
  | 0x40 => [⟨F.WRP_RAW_ASYM_ASYM k, .ro, 0, 65535⟩]
  | off =>
    if 0x100 ≤ off ∧ off < 0x180 ∧ (off - 0x100) % 0x10 = 0 then
      [⟨F.WRP_LVL_A_SPACE k ((off - 0x100) / 0x10), .rw, 0, 65535⟩, ⟨F.WRP_LVL_A_MARK k ((off - 0x100) / 0x10), .rw, 0, 65535⟩]
    else     if 0x104 ≤ off ∧ off < 0x184 ∧ (off - 0x104) % 0x10 = 0 then
      [⟨F.WRP_LVL_B_COOL k ((off - 0x104) / 0x10), .rw, 0, 65535⟩, ⟨F.WRP_LVL_B_MEAN k ((off - 0x104) / 0x10), .rw, 0, 65535⟩]
    else     if 0x108 ≤ off ∧ off < 0x188 ∧ (off - 0x108) % 0x10 = 0 then
      [⟨F.WRP_STRAT_LEAD_LEAD k ((off - 0x108) / 0x10), .rw, 0, 16777215⟩]
    else     if 0x10C ≤ off ∧ off < 0x18C ∧ (off - 0x10C) % 0x10 = 0 then
      [⟨F.WRP_STRAT_TRAIL_TRAIL k ((off - 0x10C) / 0x10), .rw, 0, 16777215⟩]
    else []

/-- The fields of the register at offset `off` of CAL window (R279); none where the offset holds no register. -/
def calFields (off : Nat) : List FieldSpec :=
  match off with
  | 0x0 => [
      ⟨F.CAL_CTL_ENABLE, .rw, 0, 1⟩,
      ⟨F.CAL_CTL_REPEAT_MAX, .cfg, 2, 7⟩,
      ⟨F.CAL_CTL_PERIOD, .cfg, 1, 4095⟩]
  | 0x4 => [
      ⟨F.CAL_STAT_KIND, .ro, 0, 15⟩,
      ⟨F.CAL_STAT_BUSY, .ro, 0, 1⟩,
      ⟨F.CAL_STAT_CFG_REJECT, .w1c, 0, 1⟩]
  | 0x8 => [
      ⟨F.CAL_SPEED_DOWN, .cfg, 1, 255⟩,
      ⟨F.CAL_SPEED_UP, .cfg, 0, 255⟩,
      ⟨F.CAL_SPEED_UP_WINDOWS, .cfg, 1, 255⟩]
  | 0xC => [
      ⟨F.CAL_ADAPT_STAT_SPEED_CLAMP, .ro, 0, 15⟩,
      ⟨F.CAL_ADAPT_STAT_WRPWR_CLAMP, .ro, 0, 255⟩,
      ⟨F.CAL_ADAPT_STAT_SPEED_PIN, .ro, 0, 15⟩,
      ⟨F.CAL_ADAPT_STAT_WRPWR_PIN, .ro, 0, 255⟩]
  | 0x10 => [⟨F.CAL_THERM_LEVEL, .ro, 0, 3⟩, ⟨F.CAL_THERM_TEMP, .ro, 0, 255⟩]
  | off =>
    if 0x20 ≤ off ∧ off < 0x40 ∧ (off - 0x20) % 0x4 = 0 then
      [⟨F.CAL_LSEG_MASK ((off - 0x20) / 0x4), .ro, 0, 65535⟩]
    else     if 0x100 ≤ off ∧ off < 0x280 ∧ (off - 0x100) % 0x20 = 0 then
      [⟨F.CAL_CNT_CNT ((off - 0x100) / 0x20), .ro, 0, 4294967295⟩]
    else     if 0x104 ≤ off ∧ off < 0x284 ∧ (off - 0x104) % 0x20 = 0 then
      [⟨F.CAL_FAIL_CNT_CNT ((off - 0x104) / 0x20), .ro, 0, 4294967295⟩]
    else     if 0x108 ≤ off ∧ off < 0x288 ∧ (off - 0x108) % 0x20 = 0 then
      [⟨F.CAL_LAST_TIME ((off - 0x108) / 0x20), .ro, 0, 0xFFFFFFFFFFFFFFFF⟩]
    else     if 0x110 ≤ off ∧ off < 0x290 ∧ (off - 0x110) % 0x20 = 0 then
      [⟨F.CAL_LAST_ELEM_ELEMENT ((off - 0x110) / 0x20), .ro, 0, 65535⟩, ⟨F.CAL_LAST_ELEM_RESULT ((off - 0x110) / 0x20), .ro, 0, 7⟩]
    else []

/-- The fields of the register at offset `off` of BAY_b window (R533); none where the offset holds no register. -/
def bayFields (b : Nat) (off : Nat) : List FieldSpec :=
  match off with
  | 0x0 => [
      ⟨F.BAY_STAT_STATE b, .ro, 0, 7⟩,
      ⟨F.BAY_STAT_HELD b, .ro, 0, 1⟩,
      ⟨F.BAY_STAT_MOUNTED b, .ro, 0, 1⟩,
      ⟨F.BAY_STAT_ATTACHED b, .ro, 0, 1⟩,
      ⟨F.BAY_STAT_SPEED b, .ro, 0, 3⟩,
      ⟨F.BAY_STAT_DISC_PRESENT b, .ro, 0, 1⟩,
      ⟨F.BAY_STAT_TRAY_CLOSED b, .ro, 0, 1⟩,
      ⟨F.BAY_STAT_CLAMPED b, .ro, 0, 1⟩,
      ⟨F.BAY_STAT_DOOR_CLOSED b, .ro, 0, 1⟩,
      ⟨F.BAY_STAT_UNAVAILABLE b, .ro, 0, 1⟩]
  | _ => []

/-- The fields of the register at offset `off` of optical registers of OPU_o (R140); none where the offset holds no register. -/
def optFields (o : Nat) (off : Nat) : List FieldSpec :=
  match off with
  | 0x0 => [
      ⟨F.BAY_OPT_CMD_CMD o, .rw, 0, 15⟩,
      ⟨F.BAY_OPT_CMD_LAYER o, .rw, 0, 7⟩,
      ⟨F.BAY_OPT_CMD_AT_SPOKE o, .rw, 0, 1⟩,
      ⟨F.BAY_OPT_CMD_SPOKE o, .rw, 0, 1023⟩,
      ⟨F.BAY_OPT_CMD_DIST o, .rw, 0, 255⟩]
  | 0x4 => [
      ⟨F.BAY_OPT_STAT_RESULT o, .ro, 0, 7⟩,
      ⟨F.BAY_OPT_STAT_LAYER o, .ro, 0, 7⟩,
      ⟨F.BAY_OPT_STAT_FOCUS_LOCKED o, .ro, 0, 1⟩,
      ⟨F.BAY_OPT_STAT_ON_TRACK o, .ro, 0, 1⟩,
      ⟨F.BAY_OPT_STAT_JUMP o, .ro, 0, 1⟩,
      ⟨F.BAY_OPT_STAT_LAYER_JUMP o, .ro, 0, 1⟩,
      ⟨F.BAY_OPT_STAT_PULL_IN o, .ro, 0, 1⟩,
      ⟨F.BAY_OPT_STAT_WRITTEN o, .ro, 0, 7⟩,
      ⟨F.BAY_OPT_STAT_LASER_TRIP o, .w1c, 0, 1⟩,
      ⟨F.BAY_OPT_STAT_ACT_CLAMP o, .ro, 0, 1⟩,
      ⟨F.BAY_OPT_STAT_CFG_REJECT o, .w1c, 0, 1⟩,
      ⟨F.BAY_OPT_STAT_FAIL_RUN o, .ro, 0, 15⟩]
  | 0x8 => [
      ⟨F.BAY_OPT_CTL_ENABLE o, .rw, 0, 1⟩,
      ⟨F.BAY_OPT_CTL_RETRIES o, .cfg, 0, 7⟩,
      ⟨F.BAY_OPT_CTL_LOCK_FRAMES o, .cfg, 1, 31⟩,
      ⟨F.BAY_OPT_CTL_ACQ_RATE o, .cfg, 1, 127⟩,
      ⟨F.BAY_OPT_CTL_SA_DITHER o, .cfg, 0, 255⟩,
      ⟨F.BAY_OPT_CTL_JUMP_LAND_WIN o, .cfg, 1, 255⟩]
  | 0xC => [
      ⟨F.BAY_OPT_WIN_LOCK_WIN o, .rw, 0, 255⟩,
      ⟨F.BAY_OPT_WIN_SUM_MIN o, .rw, 0, 255⟩,
      ⟨F.BAY_OPT_WIN_ONTRK_WIN o, .rw, 0, 255⟩,
      ⟨F.BAY_OPT_WIN_WRITTEN_THR o, .rw, 0, 255⟩]
  | 0x10 => [⟨F.BAY_OPT_TARGET_TRACK o, .rw, 0, 262143⟩]
  | 0x14 => [⟨F.BAY_FOCUS_RETRACT_CODE o, .rw, 0, 65535⟩]
  | 0x18 => [⟨F.BAY_LASER_LIM_MAX o, .ro, 0, 65535⟩, ⟨F.BAY_LASER_LIM_READ_MAX o, .ro, 0, 65535⟩]
  | 0x1C => [⟨F.BAY_ACT_LIM_0_FOCUS o, .ro, 0, 65535⟩, ⟨F.BAY_ACT_LIM_0_TRACKING o, .ro, 0, 65535⟩]
  | 0x20 => [⟨F.BAY_ACT_LIM_1_TILT o, .ro, 0, 65535⟩, ⟨F.BAY_ACT_LIM_1_SA o, .ro, 0, 65535⟩]
  | 0xA0 => [⟨F.BAY_JUMP_LATE_CNT_CNT o, .ro, 0, 4294967295⟩]
  | off =>
    if 0x30 ≤ off ∧ off < 0x40 ∧ (off - 0x30) % 0x4 = 0 then
      [⟨F.BAY_ACT_SENSE_CODE o ((off - 0x30) / 0x4), .ro, 0, 65535⟩, ⟨F.BAY_ACT_SENSE_LOW o ((off - 0x30) / 0x4), .w1c, 0, 1⟩, ⟨F.BAY_ACT_SENSE_HIGH o ((off - 0x30) / 0x4), .w1c, 0, 1⟩]
    else     if 0x40 ≤ off ∧ off < 0x60 ∧ (off - 0x40) % 0x4 = 0 then
      [⟨F.BAY_LAYER_SA o ((off - 0x40) / 0x4), .rw, 0, 65535⟩, ⟨F.BAY_LAYER_TILT o ((off - 0x40) / 0x4), .rw, 0, 65535⟩]
    else     if 0x60 ≤ off ∧ off < 0x80 ∧ (off - 0x60) % 0x4 = 0 then
      [⟨F.BAY_LREF_CENTRE o ((off - 0x60) / 0x4), .rw, 0, 65535⟩, ⟨F.BAY_LREF_SIDE o ((off - 0x60) / 0x4), .rw, 0, 65535⟩]
    else     if 0x80 ≤ off ∧ off < 0xA0 ∧ (off - 0x80) % 0x4 = 0 then
      [⟨F.BAY_RDPWR_READ o ((off - 0x80) / 0x4), .rw, 0, 65535⟩]
    else []

end Sys2Proof.Machine
end

