-- ==== Sys2Proof/Machine/DyntoDevice.lean ====
section
/-! DEFINITION. The Dynto instructions on elements, packages, traces, calibrations and rings (R364, R410 to R417, R419, R520): RESET in its
six scopes, STAGE_PACKAGE, ACTIVATE, ATTEST, TRACE, CALIBRATE, SKIP_IF, CREATE_RING and DELETE_RING. -/

namespace Sys2Proof.Machine

/-! ### RESET (R410, R411) -/

def Inst.scope (i : Inst) : Nat := bitsOf i.operand 0 3
def Inst.target (i : Inst) : Nat := bitsOf i.operand 8 8

/-- The bay that slot `t` = engine × 64 + slot serves (R96). -/
def slotBay (t : Nat) : Nat := 2 * (t / 64 % 2) + t % 64 / 32

/-- Whether TARGET lies outside the scope's range, or names a slot of a bay that moves (R410, R411). -/
def State.targetBad (s : State) (i : Inst) : Bool :=
  let t := i.target
  match i.scope with
  | 0 => t == 0 || decide (63 < t)
  | 1 => t != 0
  | 2 => decide (3 < t)
  | 3 => decide (35 < t)
  | 4 => decide (7 < t)
  | 5 => decide (127 < t) || [bSPINNING, bREADY, bWRITING, bREADING, bPARKING].contains (s.bayState (slotBay t))
  | _ => true

/-- Step 4 of R355 for RESET. -/
def State.checkReset (s : State) (i : Inst) : Option (Nat × Nat) :=
  i.checkFields { strand := i.scope == 1, operand := 0xFF07 } (if s.targetBad i then [20] else []) {}

/-- The event that a reset raises when it completes: one of its element's group, which one is not stated (R410). -/
def resetEvent (g : Nat) : Act Nat := do
  let n ← freeValue 5
  return 32 * g + n % max 1 (groupLevels g).length

/-- A reset that ends at once. -/
def endReset (id g code dw0 : Nat) : Act Unit := do
  raise (← resetEvent g)
  complete id code dw0

/-- RESET with ring scope (R364): instructions of the ring not past their commit point are aborted; the others complete first. -/
def execResetRing (id : Nat) (s : State) : Answer :=
  answer (performRow (fun i => i.scope == 0 || decide (6 ≤ i.scope)) id opRESET (fun s i =>
    [ s.checkReset i,
      if (s.fns[i.fn].sq i.target).isNone ∨ i.target = i.sq then some (cINVALID_RING, i.target) else none ]) (fun i => do
    let e ← resetEvent (2 + i.fn.val / 2)
    setInst id (fun i => { i with stage := .committed, data := [e] })
    abortAll (fun j => j.fn == i.fn && j.sq == i.target) cABORTED_BY_RESET)) s

/-- RESET with strand scope (R410): waits for the strand's fetched instructions, then frees it whatever its state. -/
def execResetStrand (id : Nat) (s : State) : Answer :=
  answer (performRow (fun i => i.scope == 1) id opRESET (fun s i =>
    [ s.checkReset i, if (s.strand i.strand).isNone then some (cINVALID_STRAND, 0) else none ]) (fun _ => do
    let e ← resetEvent 7
    holdInst id (fun i => { i with data := [e] }))) s

/-- The fields of a bay's optical, motor, axis and write-path blocks that a bay reset takes to their reset values: not those that the life
record counts (R410, R556), nor the wiring corrections, which hold until the next BRINGUP (R160). -/
def bayBlockFields (b : Fin 4) : List Fld :=
  let words (size : Nat) (g : Nat → List FieldSpec) : List Fld := (List.range (size / 4)).flatMap (fun n => (g (4 * n)).map FieldSpec.fld)
  ((opusOf b).flatMap (fun k => words 0x400 (optFields k.val) ++ words 0x190 (wrpFields k.val)) ++
    [spindleOf b, shuttleOf b].flatMap (fun k => words 0x100 (motFields k.val)) ++
    [0, 1, 2, 3].flatMap (fun n => words 0x100 (stpFields (axisOf b n).val))).filter (fun f => !countFields.contains f && [spindleOf b, shuttleOf b].all (fun k => f.addr != (F.MOT_WIRING_ENC_INV k.val).addr))

/-- The OPU of an element of the degraded list that a bay reset brings back. -/
def resetBrings (b : Fin 4) (d : Degraded) : Bool :=
  match d with
  | .opu k => k / 2 == b.val
  | .actuator k _ => k / 2 == b.val
  | _ => false

/-- Whether what moves in a bay has come to rest, or does not respond (R410). -/
def State.bayStill (s : State) (b : Fin 4) : Bool :=
  [spindleOf b, shuttleOf b].all (fun k => s.motors[k].atRest || s.motorState k == mtLATCHED) &&
  [axisOf b 0, axisOf b 1].all (fun a => s.axes[a].queue.isEmpty || s.get (F.STP_STAT_DRV_FAULT a.val) == 1)

/-- The blocks of a bay start again (R96, R245, R410): what has passed and what is to be relocated of a write stays. -/
def reinitBay (b : Fin 4) (x : BaySensors) : Act Unit := do
  forAll (bayBlockFields b) (fun f => setF f f.rst)
  forAll (opusOf b) (fun k => do
    emit (.optic k fun _ => {})
    emit (.writer k fun w => { skipped := w.skipped, passed := w.passed, relocate := w.relocate, payloads := w.payloads
                               track := w.track, record := w.record, recPassed := w.recPassed, directory := w.directory, job := w.job
                               copies := w.copies, dirDue := w.dirDue }))
  forAll [spindleOf b, shuttleOf b] (fun k => emit (.motor k fun m => { confirm := m.confirm, corrected := m.corrected, indexDue := m.indexDue }))
  forAll [0, 1, 2, 3] (fun n => emit (.axis (axisOf b n) fun _ => {}))
  let s ← rd
  forAll (s.chip.degraded.filter (resetBrings b)) undegrade
  forAll (opusOf b) (fun k => do
    if s.opuFitted k then
      loadEeprom k
      setF (F.BAY_OPT_CTL_ENABLE k.val) 1
      setF (F.WRP_CTL_ENABLE k.val) 1)
  enableMotors b
  readSensors b x
  forAll (opusOf b) (fun k => do
    if s.opuFitted k then
      trainLink k)
  forAll [0, 1, 2, 3] (fun n => do
    let a := axisOf b n
    setF (F.STP_CTL_ENABLE a.val) 1
    homeAxis a)

/-- A bay reset goes on: once the bay is still, its blocks start again; in DRAIN they do not (log 70). -/
def continueReset (i : Inst) (x : BaySensors) : Act Unit := do
  let s ← rd
  let b : Fin 4 := Fin.ofNat 4 i.target
  if s.bayStill b ∧ i.data.length < 2 ∧ s.mode ≠ mDRAIN then
    reinitBay b x
    setInst i.id (fun i => { i with data := i.data ++ [1] })

/-- A bay reset begins (R410, R411): lasers off, media instructions on the bay ended, spindle and sleds brought to rest. -/
def beginResetBay (i : Inst) (x : BaySensors) : Act Unit := do
  let b : Fin 4 := Fin.ofNat 4 i.target
  let e ← resetEvent (8 + b.val)
  let s ← rd
  forAll (opusOf b) dropLaser
  forAll (s.insts.filter (fun j => bayOps.contains j.opcode && (j.stage == .waiting || j.stage == .committed) && j.bay == b))
    (fun j => completeAs j cELEMENT_UNAVAILABLE e none)
  emit (.bay b fun y => { y with session := y.session.map (fun z => { z with suspended := true }), mounting := none, paused := []
                                 faulting := false, eject := false, parkLater := false })
  forAll (opusOf b) recordSkips
  parkBay b
  stopMotor (spindleOf b)
  stopMotor (shuttleOf b)
  abortCal (fun r => r.kind == 11 && r.elem % 4 == b.val)
  setInst i.id (fun j => { j with stage := .committed, data := [e] })
  match (← rd).inst i.id with
  | some i => continueReset i x
  | none => pure ()

/-- RESET with bay scope (R410): the bay is brought to rest and its blocks start again, with the sensors as found then. -/
def execResetBay (id : Nat) (x : BaySensors) (s : State) : Answer :=
  answer (do
    let s ← rd
    match s.inProgress id opRESET with
    | none => pure ()
    | some i =>
      if i.scope = 2 then
        if i.stage = .dispatched then
          perform id opRESET (fun s i => [ s.checkReset i, s.checkBay (Fin.ofNat 4 i.target) ]) (fun i => beginResetBay i x)
        else
          continueReset i x
          settle) s

/-- RESET with lane scope (R210): a FAILED lane is tested again; a bound lane acquires again. -/
def execResetLane (id : Nat) (passes : Bool) (s : State) : Answer :=
  answer (performRow (fun i => i.scope == 3) id opRESET (fun s i => [ s.checkReset i ]) (fun i => do
    let s ← rd
    let n : Fin 36 := Fin.ofNat 36 i.target
    if s.get (F.RCH_LANE_STAT_FAILED n.val) = 1 then
      if passes then
        setF (F.RCH_LANE_STAT_FAILED n.val) 0
        setF (F.RCH_LANE_STAT_CAUSE n.val) 0
        undegrade (.lane n.val)
        endReset id 12 cSUCCESS 0
      else endReset id 12 cELEMENT_UNAVAILABLE (Ev.rf rfLANE_FAILED)
    else
      if s.get (F.RCH_LANE_BIND_ENABLE n.val) = 1 then clearLane n
      endReset id 12 cSUCCESS 0)) s

/-- The failed LUNs of a channel that come back into service: those that answer, fit the zone's geometry, and are no longer being rebuilt
(R282, R305, R410). -/
def State.lunsBack (s : State) (c : Nat) (l : List LunId) : List LunId :=
  let fit := l.filter (fun x => x.lun / 32 == c && s.lunFits x && s.nv.sys.failedLuns.contains x.lun && !s.flash.rebuilding.contains x.lun)
  match (s.flash.luns ++ fit).head? with
  | none => []
  | some g => fit.filter (fun x => x.pageBytes == g.pageBytes && x.pagesPerBlock == g.pagesPerBlock && x.blocks == g.blocks)

/-- A LUN is erased and returned to service: of its erase blocks that are not retired SPARE_PCT per cent become
spares, and the rest forms blocks (R302). -/
def returnLun (x : LunId) : Act Unit := do
  let s ← rd
  let m := ((List.range x.blocks).filter (fun e => !x.bad.contains e)).map (fun e => (x.lun, e))
  emit (.nv fun v => { v with sys := { v.sys with failedLuns := v.sys.failedLuns.filter (· != x.lun) } })
  let good := m.filter (fun y => !s.nv.sys.retired.contains y && !s.nv.sys.reserved.contains y)
  let n := good.length * s.flash.sparePct / 100
  emit (.flash fun f => { f with luns := f.luns ++ [x], spares := f.spares ++ good.take n, loose := f.loose ++ good.drop n })
  let f := F.FLZ_LUN_FAILED_MASK (x.lun / 32)
  setF f (setBit (s.get f) (x.lun % 32) false)
  setF F.FLZ_GEOM_LUNS (s.get F.FLZ_GEOM_LUNS + 1)
  undegrade (.lun x.lun)
  formBlocks

/-- RESET with flash channel scope (R410): its LUNs are reset and identified; `luns` are those that answer and pass. -/
def execResetFlashChannel (id : Nat) (luns : List LunId) (s : State) : Answer :=
  answer (performRow (fun i => i.scope == 4) id opRESET (fun s i =>
    [ s.checkReset i, if bitAt s.nv.channels i.target then none else some (cNOT_SUPPORTED, 0) ]) (fun i => do
    let s ← rd
    let c := i.target
    forAll (s.lunsBack c luns) returnLun
    if luns.any (fun x => x.lun / 32 == c) then
      setF F.FLZ_CH_STAT_FAILED (setBit ((← rd).get F.FLZ_CH_STAT_FAILED) c false)
      undegrade (.channel c)
    endReset id 6 cSUCCESS 0)) s

/-- A faulted engine starts again with every slot disabled (R108). -/
def restartEngine (e : Fin 2) : Act Unit := do
  setF (F.SRV_BLK_STAT_ENGINE_FAULT e.val) 0
  setF (F.SRV_BLK_STAT_CAUSE e.val) 0
  emit (.servo e fun v => { v with holding := false })
  forAll (List.range 64) (fun j => disableSlot e j)
  forAll (baysOf e) (fun b => forAll (opusOf b) (fun k => do
    if (← rd).optics[k].phase = .faultRamp then optPhase k .idle))
  undegrade (.servoEngine e.val)

/-- A slot is disabled, its states zeroed and its faults cleared (R410). -/
def clearSlot (e : Fin 2) (j : Nat) : Act Unit := do
  disableSlot e j
  forAll (List.range 8) (fun c => forAll (List.range 4) (fun i => setF (sectionFld e.val j c i) 0))
  setF (F.SRV_BUMP_OFS_D e.val j) 0
  setF (F.SRV_SAT_CNT_CNT e.val j) 0
  setF (F.SRV_SLOT_STAT_FE_FAULT e.val j) 0
  setF (F.SRV_SLOT_STAT_CFG_REJECT e.val j) 0
  setSlotRun e j {}

/-- RESET with servo loop scope (R108, R410, R411). -/
def execResetServoLoop (id : Nat) (s : State) : Answer :=
  answer (performRow (fun i => i.scope == 5) id opRESET (fun s i => [ s.checkReset i ]) (fun i => do
    let s ← rd
    let e : Fin 2 := Fin.ofNat 2 (i.target / 64)
    if s.engineStopped e then restartEngine e else clearSlot e (i.target % 64)
    endReset id (8 + slotBay i.target) cSUCCESS 0)) s

/-! ### STAGE_PACKAGE and ACTIVATE (R366, R412, R413, R515) -/

/-- The slot that STAGE_PACKAGE programs: the one that did not boot. -/
def State.stageSlot (s : State) : Nat := if s.boot.slot = 1 ∨ (s.boot.slot = 0 ∧ s.nv.active = 1) then 2 else 1

def setSlotPkg (n : Nat) (p : Option Package) : Act Unit :=
  emit (.nv fun v => if n = 1 then { v with slotA := p } else { v with slotB := p })

/-- A package fails a check: PACKAGE_REJECTED, and SECURITY_FAILURE with no other effect. -/
def failPackage (id check slot : Nat) : Act Unit := do
  raise Ev.PACKAGE_REJECTED check 0 slot
  complete id cSECURITY_FAILURE 0

/-- STAGE_PACKAGE (R412): the package read is verified, programmed into a slot and marked staged; `programmed` is false when programming or
reading it back failed. -/
def execStagePackage (id : Nat) (mem : HostMem) (pkg : Package) (programmed : Bool) (s : State) : Answer :=
  answer (perform id opSTAGE (fun _ i =>
    [ i.checkFields { buffer := true } (if 2 ^ 23 < i.len then [32] else []) mem, i.checkBuffer i.len mem, checkDma mem ]) (fun i => do
    if mem.lost then lostWord i
    else
      let s ← rd
      let n := s.stageSlot
      let fails := if i.len ≠ 512 + pkg.payload.length then some 1 else s.packageFault pkg
      match fails with
      | some c => failPackage id c n
      | none =>
        if programmed then
          setSlotPkg n (some pkg)
          emit (.nv fun v => { v with staged := n, rejected := setBit v.rejected (n - 1) false })
          journal jSTAGE n (sm3 (packageBytes pkg))
          complete id cSUCCESS (pkg.version % 2 ^ 32)
        else
          setSlotPkg n none
          emit (.nv fun v => { v with staged := if v.staged = n then 0 else v.staged })
          showSlots
          let e ← freeValue 9
          complete id cELEMENT_UNAVAILABLE e)) s

/-- ACTIVATE (R366, R413): the staged package is verified again; then other instructions end, the zone takes what DRAM holds, bays park,
and the part restarts through BOOT. -/
def execActivate (id : Nat) (s : State) : Answer :=
  answer (perform id opACTIVATE (fun _ i => [ i.checkFields {} [] {} ]) (fun _ => do
    let s ← rd
    match s.slotPkg s.nv.staged with
    | none => complete id cSECURITY_FAILURE 0
    | some p =>
      match s.packageFault p with
      | some c => failPackage id c s.nv.staged
      | none =>
        setInst id (fun i => { i with stage := .committed })
        abortAll (fun j => j.id != id) cABORTED_BY_ACTIVATION
        padFor (fun _ => true)
        beginTransition mBOOT 8)) s

/-! ### ATTEST (R414, R520) -/

/-- The part's identity is unavailable (R519). -/
def State.checkIdentity (s : State) : Option (Nat × Nat) :=
  if s.chip.degraded.contains .identity then some (cELEMENT_UNAVAILABLE, Ev.IDENTITY_UNAVAILABLE) else none

/-- Bytes 0 to 191 of the attestation report. -/
def State.reportBody (s : State) (i : Inst) : List Byte :=
  let cert := digestBytes Config.certDigest
  let pkg := s.boot.pkg
  leBytes 2 1 ++ leBytes 2 256 ++ leBytes 28 (i.bytesAt 36 28) ++ cert.take 8 ++ leBytes 1 0xB0 ++ leBytes 1 s.boot.slot ++
  leBytes 1 s.mode ++ leBytes 1 (s.get F.SEC_DBG_STAT_UNLOCKED) ++ leBytes 4 s.otp.counter ++ leBytes 8 ((pkg.map Package.version).getD 0) ++
  leBytes 4 ((pkg.map Package.secVersion).getD 0) ++ leBytes 4 s.nv.startNum ++
  ((pkg.map (fun p => digestBytes (sm3 (packageBytes p)))).getD (zeroBytes 32)) ++ digestBytes Config.romDigest ++ leBytes 8 s.timeStamp ++
  leBytes 8 s.powerOn ++ cert.take 16 ++ digestBytes (sm3 ((s.starts.head?.map (fun r => r.bytes.take 448)).getD []))

/-- ATTEST with KIND 0 (R520): the signed report over the nonce. -/
def execAttestReport (id : Nat) (mem : HostMem) (s : State) : Answer :=
  answer (performRow (fun i => bitsOf i.operand 0 2 != 1) id opATTEST (fun s i =>
    [ i.checkFields { operand := 3, buffer := true, rest := some (36, 28) } (if 2 ≤ bitsOf i.operand 0 2 then [20] else []) mem,
      i.checkBuffer 256 mem, s.checkIdentity, checkDma mem ]) (fun i => do
    if mem.lost then lostWord i
    else
      let s ← rd
      let b := s.reportBody i
      emit .useFree
      writeBuffer id (b ++ beBytes 64 (Config.identitySignature s.free b).toNat)
      complete id cSUCCESS 256)) s

/-- ATTEST with KIND 1 (R520): the device certificate. -/
def execAttestCertificate (id : Nat) (mem : HostMem) (s : State) : Answer :=
  answer (performRow (fun i => bitsOf i.operand 0 2 == 1) id opATTEST (fun s i =>
    [ i.checkFields { operand := 3, buffer := true } [] mem, i.checkBuffer Config.certificate.length mem, s.checkIdentity,
      checkDma mem ]) (fun i => do
    if mem.lost then lostWord i
    else
      writeBuffer id Config.certificate
      complete id cSUCCESS Config.certificate.length)) s

/-! ### TRACE (R415) -/

def Inst.traceOp (i : Inst) : Nat := bitsOf i.operand 0 2
def Inst.engine (i : Inst) : Fin 2 := Fin.ofNat 2 (bitsOf i.operand 2 1)
def Inst.buf (i : Inst) : Fin 8 := Fin.ofNat 8 (bitsOf i.operand 3 3)

/-- Whether the CTL that ARM gives is refused: DEC 0, a reserved TRIG, ARM or SW_TRIG set. Every TAP is defined (R109). -/
def traceCtlBad (v : Nat) : Bool := bitsOf v 20 10 == 0 || decide (8 ≤ bitsOf v 12 4) || bitsOf v 0 2 != 0

/-- TRACE ARM (R415). -/
def execTraceArm (id : Nat) (s : State) : Answer :=
  answer (performRow (fun i => i.traceOp == 0) id opTRACE (fun _ i =>
    [ i.checkFields { operand := 0x3F, rest := some (36, 12) } (if traceCtlBad (i.bytesAt 36 4) then [36] else []) {} ]) (fun i => do
    let e := i.engine
    let k := i.buf
    writeTraceCtl e k 0
    setF (F.SRV_TRC_LEVEL_LEVEL e.val k.val) (i.bytesAt 40 4)
    setF (F.SRV_TRC_PRE_PRE e.val k.val) (i.bytesAt 44 4)
    writeTraceCtl e k (i.bytesAt 36 4 + 1)
    complete id cSUCCESS 0)) s

/-- The fields of SRV_TRC_k_CTL as they stand, but for ARM and SW_TRIG. -/
def State.traceCtl (s : State) (e k : Nat) : Nat :=
  4 * s.get (F.SRV_TRC_CTL_SLOT e k) + 2 ^ 8 * s.get (F.SRV_TRC_CTL_TAP e k) + 2 ^ 12 * s.get (F.SRV_TRC_CTL_TRIG e k) +
  2 ^ 16 * s.get (F.SRV_TRC_CTL_TRIG_BUF e k) + 2 ^ 20 * s.get (F.SRV_TRC_CTL_DEC e k)

/-- TRACE STOP (R415): ARM = 0. -/
def execTraceStop (id : Nat) (s : State) : Answer :=
  answer (performRow (fun i => i.traceOp == 1) id opTRACE (fun _ i => [ i.checkFields { operand := 0x3F } [] {} ]) (fun i => do
    let s ← rd
    writeTraceCtl i.engine i.buf (s.traceCtl i.engine.val i.buf.val + 2 * s.get (F.SRV_TRC_CTL_SW_TRIG i.engine.val i.buf.val))
    complete id cSUCCESS 0)) s

/-- TRACE TRIGGER (R415): SW_TRIG from 0 to 1. -/
def execTraceTrigger (id : Nat) (s : State) : Answer :=
  answer (performRow (fun i => i.traceOp == 3) id opTRACE (fun _ i => [ i.checkFields { operand := 0x3F } [] {} ]) (fun i => do
    let s ← rd
    let v := s.traceCtl i.engine.val i.buf.val + s.get (F.SRV_TRC_CTL_ARM i.engine.val i.buf.val)
    writeTraceCtl i.engine i.buf v
    writeTraceCtl i.engine i.buf (v + 2)
    complete id cSUCCESS 0)) s

/-- The samples that a buffer holds and may be read: none while ARMED or TRIGGERED (R112, R415). -/
def State.traceHeld (s : State) (e : Fin 2) (k : Fin 8) : Nat :=
  let st := s.get (F.SRV_TRC_STAT_STATE e.val k.val)
  let t := s.traces[traceOf e k]
  if st = 1 ∨ st = 2 ∨ t.kept = 0 then 0
  else
    let h := (t.next + 16384 - s.get (F.SRV_TRC_STAT_START e.val k.val)) % 16384
    if h = 0 then 16384 else h

/-- The header and the samples of TRACE READ, oldest first. -/
def State.traceBytes (s : State) (e : Fin 2) (k : Fin 8) : List Byte :=
  let en := e.val
  let kn := k.val
  let n := s.traceHeld e k
  let start := s.get (F.SRV_TRC_STAT_START en kn)
  let stat := s.get (F.SRV_TRC_STAT_STATE en kn) + 4 * s.get (F.SRV_TRC_STAT_TRIG_OFFSET en kn) + 2 ^ 12 * start
  let pre := s.get (F.SRV_TRC_PRE_PRE en kn) + 2 ^ 16 * s.get (F.SRV_TRC_PRE_PRE_VALID en kn)
  let ctl := s.traceCtl en kn + s.get (F.SRV_TRC_CTL_ARM en kn) + 2 * s.get (F.SRV_TRC_CTL_SW_TRIG en kn)
  leBytes 4 stat ++ leBytes 4 pre ++ leBytes 8 (s.get (F.SRV_TRC_TRIG_FRAME_FRAME en kn)) ++ leBytes 4 n ++ leBytes 4 ctl ++
  leBytes 4 (s.get (F.SRV_TRC_LEVEL_LEVEL en kn)) ++ zeroBytes 4 ++
  (List.range n).flatMap (fun m => leBytes 4 (s.get (traceFld en kn ((start + m) % 16384))))

/-- TRACE READ (R415): `parity` of the samples read had a parity error, and read as stored (R490). -/
def execTraceRead (id : Nat) (mem : HostMem) (parity : Nat) (s : State) : Answer :=
  answer (performRow (fun i => i.traceOp == 2) id opTRACE (fun s i =>
    [ i.checkFields { operand := 0x3F, buffer := true } [] mem, i.checkBuffer (32 + 4 * s.traceHeld i.engine i.buf) mem,
      checkDma mem ]) (fun i => do
    if mem.lost then lostWord i
    else
      let s ← rd
      let n := s.traceHeld i.engine i.buf
      let p := min parity n
      if 0 < p then
        addStop F.DEV_TRACE_PAR_CNT_CNT p
        raise Ev.TRACE_PARITY
      writeBuffer id (s.traceBytes i.engine i.buf)
      complete id cSUCCESS n)) s

/-! ### CALIBRATE and the end of a run's estimate (R267, R416) -/

/-- Whether the OPU or the bay of a calibration's element is not fitted (R394). -/
def State.calUnfitted (s : State) (n elem : Nat) : Bool :=
  if n < 3 then s.bayFitted (bayOf (opuOfInput (elem / 16))) == false || s.opuFitted (opuOfInput (elem / 16)) == false
  else if n < 11 then s.opuFitted (calOpu elem) == false
  else s.bayFitted (bayOfMotor (Fin.ofNat 8 elem)) == false

/-- Whether an element of a calibration has failed or was left out at the start (R394): its bay, its OPU or its sub-ADC. -/
def State.calDown (s : State) (n elem : Nat) : Option (Nat × Nat) :=
  let b := if n < 11 then bayOf (calOpuOf n elem) else bayOfMotor (Fin.ofNat 8 elem)
  if s.chip.degraded.contains (.bay b.val) || (decide (n < 11) && s.chip.degraded.contains (.opu (calOpuOf n elem).val)) then
    some (cELEMENT_UNAVAILABLE, Ev.BOOT_STEP_FAIL)
  else if n < 3 ∧ bitAt (s.get (F.RCH_IN_SUB_FAILED (elem / 16))) (elem % 16) then some (cELEMENT_UNAVAILABLE, Ev.rf rfSUB_REPLACED)
  else none

/-- CALIBRATE (R416): a calibration out of schedule. One whose conditions do not hold completes at once, and runs when they do. -/
def execCalibrate (id : Nat) (s : State) : Answer :=
  answer (perform id opCALIB (fun s i =>
    let n := i.operand % 16
    let elem := bitsOf i.operand 16 16
    [ i.checkFields { operand := 0xFFFF000F } (if 11 < n ∨ calElement n elem = false then [20] else []) {},
      if s.calUnfitted n elem then some (cNOT_SUPPORTED, 0) else none, s.calDown n elem ]) (fun i => do
    let s ← rd
    let n := i.operand % 16
    let elem := bitsOf i.operand 16 16
    if s.calPinned n elem then complete id cNO_CHANGE 0
    else if s.calState n elem then setInst id (fun i => { i with stage := .committed, data := [] })
    else
      emit (.cal fun c => { c with requested := if c.requested.contains (n, elem) then c.requested else c.requested ++ [(n, elem)] })
      complete id cSUCCESS 0)) s

/-- CAL_ESTIMATE_DONE (R267, R416): an estimate of a run is taken; a CALIBRATE whose run ends with it completes. -/
def execCalEstimateDone (n : Fin 12) (elem : Nat) (values : List Int) (s : State) : Answer :=
  answerWhen s.awake (do
    estimateDone n elem values
    settle) s

/-! ### SKIP_IF (R361, R417) -/

/-- Whether the test of a SKIP_IF holds of the completion before it: code, DW0, ATTN, DEFERRED. -/
def skipTest (test a b : Nat) (c : Nat × Nat × Nat × Bool) : Bool :=
  match test with
  | 0 => decide (0x100 ≤ c.1)
  | 1 => decide (bitsOf a 0 11 ≤ c.1) && decide (c.1 ≤ bitsOf b 0 11)
  | 2 => (c.2.1 &&& b) == a
  | 3 => decide (bitsOf a 0 3 ≤ c.2.2.1)
  | _ => c.2.2.2

/-- SKIP_IF (R361, R417): sets or clears the skip state of its chain. -/
def execSkipIf (id : Nat) (s : State) : Answer :=
  answer (perform id opSKIPIF (fun s i =>
    [ i.checkFields { operand := 0xF, rest := some (36, 8) }
        ((if ((s.chainOf i).bind Chain.last).isNone then [0] else []) ++ (if 5 ≤ bitsOf i.operand 0 3 then [20] else [])) {} ]) (fun i => do
    let s ← rd
    match (s.chainOf i).bind Chain.last with
    | none => pure ()
    | some c =>
      let holds := xor (skipTest (bitsOf i.operand 0 3) (i.bytesAt 36 4) (i.bytesAt 40 4) c) (bitAt i.operand 3)
      setChain i (fun x => { x with skip := holds })
      complete id cSUCCESS holds.toNat)) s

/-! ### CREATE_RING and DELETE_RING (R364, R419) -/

def Inst.ring (i : Inst) : Nat := bitsOf i.operand 0 6
def Inst.isCq (i : Inst) : Bool := bitAt i.operand 6
def Inst.ringCq (i : Inst) : Nat := bitsOf i.operand 12 6

/-- Whether a ring of a direction exists. -/
def State.ringExists (s : State) (f : Fin 4) (n : Nat) (cq : Bool) : Bool := if cq then (s.fns[f].cqOf n).isSome else (s.fns[f].sq n).isSome

/-- CREATE_RING (R419): registers a submission or completion ring. -/
def execCreateRing (id : Nat) (s : State) : Answer :=
  answer (perform id opCREATER (fun s i =>
    let k := bitsOf i.operand 7 5
    let poll := bitAt i.operand 18
    let bad : Bool := decide (k < 4) || decide (16 < k) || (i.isCq && i.ringCq != 0) || (!i.isCq && poll)
    [ i.checkFields { operand := 0x7FFFF, rest := some (36, 8) }
        ((if bad then [20] else []) ++ (if i.bytesAt 36 8 % 4096 ≠ 0 then [36] else [])) {},
      if i.ring = 0 ∨ s.ringExists i.fn i.ring i.isCq then some (cINVALID_RING, i.ring) else none,
      if i.isCq = false ∧ s.ringExists i.fn i.ringCq true = false then some (cINVALID_RING, i.ringCq) else none ]) (fun i => do
    let k := bitsOf i.operand 7 5
    let base := i.bytesAt 36 8
    if i.isCq then
      emit (.fn i.fn fun h => { h with cqs := h.cqs ++ [{ num := i.ring, base := base, k := k, poll := bitAt i.operand 18 }] })
    else
      emit (.fn i.fn fun h => { h with sqs := h.sqs ++ [{ num := i.ring, base := base, k := k, cq := i.ringCq }] })
    complete id cSUCCESS 0)) s

/-- DELETE_RING (R364, R419): instructions of a submission ring not past their commit point are aborted, and the ring goes once the others
have completed. -/
def execDeleteRing (id : Nat) (s : State) : Answer :=
  answer (perform id opDELETER (fun s i =>
    let bound : Bool := i.isCq && s.fns[i.fn].sqs.any (fun r => r.cq == i.ring)
    let own : Bool := !i.isCq && i.ring == i.sq
    [ i.checkFields { operand := 0x7F } [] {},
      if i.ring = 0 ∨ s.ringExists i.fn i.ring i.isCq = false ∨ own ∨ bound then some (cINVALID_RING, i.ring) else none ]) (fun i => do
    setInst id (fun i => { i with stage := .committed })
    if i.isCq = false then abortAll (fun j => j.fn == i.fn && j.sq == i.ring) cABORTED_BY_RESET)) s

end Sys2Proof.Machine
end

