-- ==== Sys2Proof/Machine/HostLink.lean ====
section
/-! DEFINITION. The host link (R365, R421 to R438): functions enabled, stopped and reset, ports that train and fail, their power states,
vectors that are unmasked, and the SMBus alert. -/

namespace Sys2Proof.Machine

/-! ### The configuration space (R421 to R423) -/

/-- The registers of a function's configuration space that R422 names. -/
inductive ConfigReg where
  | vendorId
  | deviceId
  | revisionId
  | classCode
  | subsystemVendorId
  | subsystemId
  /-- BAR0 to BAR5. -/
  | bar (n : Fin 6)
  | expansionRom
deriving DecidableEq, Repr

/-- Whether a function is its port's Data function. -/
def isData (f : Fin 4) : Bool := f.val % 2 == 1

/-- The size of the memory BAR of a function in bytes (R422). -/
def barSize : Nat := 2 ^ 16

/-- What BAR0 and BAR1 read once a host has written ones to every bit of both (R422): the mask of a 64 KiB region, with the type bits of a
64-bit non-prefetchable memory BAR, 0x4. The base itself is the host's. -/
def barMask (high : Bool) : Nat := if high then 2 ^ 32 - 1 else 2 ^ 32 - barSize + 4

/-- The subsystem identifiers of a function: those of the board configuration record, else those of the table (R422). -/
def State.subsystem (s : State) (f : Fin 4) : Nat × Nat :=
  match s.nv.subsystems with
  | some v => if isData f then v[1] else v[0]
  | none => (0x1F4D, 0x4180 + (isData f).toNat)

/-- What a register of a function's configuration space holds (R422); of a BAR, its size mask. -/
def State.configValue (s : State) (f : Fin 4) : ConfigReg → Nat
  | .vendorId => 0x1F4D
  | .deviceId => 0x4180 + (isData f).toNat
  | .revisionId => 0xB0
  | .classCode => 0x018000
  | .subsystemVendorId => (s.subsystem f).1
  | .subsystemId => (s.subsystem f).2
  | .bar n => if n.val = 0 then barMask false else if n.val = 1 then barMask true else 0
  | .expansionRom => 0

/-- What a port makes of a configuration request (R423). -/
inductive ConfigAnswer where
  | value (v : Nat)
  /-- Configuration Request Retry Status. -/
  | retry
  /-- The link is down: the request never reaches the part. -/
  | unreached
deriving DecidableEq, Repr

/-- Whether the start has passed its host-link step, the fourteenth (R423, R506). -/
def State.hostLinkReady (s : State) : Bool :=
  decide (mBRINGUP ≤ s.mode) && !(s.mode == mBRINGUP && s.boot.running && decide (s.boot.step ≤ 14))

/-- The answer to a read of the configuration space of a function (R422, R423). -/
def State.configRead (s : State) (f : Fin 4) (r : ConfigReg) : ConfigAnswer :=
  if s.linkUp (portOf f) = false then .unreached
  else if s.hostLinkReady then .value (s.configValue f r)
  else .retry

/-! ### Functions (R365, R424 to R429, R433) -/

/-- A master whose write reaches a function's BAR0 registers (R11, R425): the function itself over a link that is up, or one that may write
the HST window. -/
def State.reachesFn (s : State) (m : Master) (f : Fin 4) : Bool :=
  s.mayWrite m || (m == .function f && s.linkUp (portOf f))

/-- A refused CFG write or enable of a function (R426, R438). -/
def hostReject (f : Fin 4) : Act Unit := do
  setF (F.HST_FN_STAT_CFG_REJECT f.val) 1
  raiseHost f hCFG_REJECT

/-- The 64-bit base of two registers. -/
def State.base64 (s : State) (lo hi : Fld) : Nat := 4096 * s.get lo + 2 ^ 32 * s.get hi

/-- A write of ENABLE to HST_FN_CTL (R426): ring 0 is set up and READY set, the enable is refused, or the function stops. -/
def writeFnCtl (f : Fin 4) (enable : Bool) : Act Unit := do
  let s ← rd
  let n := f.val
  let was := s.get (F.HST_FN_CTL_ENABLE n)
  if enable then
    if was = 0 then
      let sqK := s.get (F.HST_RING0_SIZE_SQ_K n)
      let cqK := s.get (F.HST_RING0_SIZE_CQ_K n)
      let sq := s.base64 (F.HST_SQ0_BASE_LO_BASE n) (F.HST_SQ0_BASE_HI_BASE n)
      let cq := s.base64 (F.HST_CQ0_BASE_LO_BASE n) (F.HST_CQ0_BASE_HI_BASE n)
      if sqK < 4 ∨ 16 < sqK ∨ cqK < 4 ∨ 16 < cqK ∨ sq = 0 ∨ cq = 0 ∨ s.get (F.HST_FN_STAT_FATAL n) = 1 then hostReject f
      else
        setF (F.HST_FN_CTL_ENABLE n) 1
        emit (.fn f fun h => { h with sqs := [{ num := 0, base := sq, k := sqK, cq := 0 }], cqs := [{ num := 0, base := cq, k := cqK }] })
        setF (F.HST_FN_STAT_READY n) 1
  else if was = 1 then
    stopFunction f
    settle

/-- HST_FN_CTL_WRITE (R426). -/
def execHstFnCtlWrite (m : Master) (f : Fin 4) (v : Word) (s : State) : Answer :=
  answer (do if s.reachesFn m f then writeFnCtl f (bitAt v.toNat 0)) s

/-- FATAL_CLEAR (R429): a write of 1 to HST_FN_STAT.FATAL. -/
def execFatalClear (m : Master) (f : Fin 4) (s : State) : Answer :=
  answer (do if s.reachesFn m f then setF (F.HST_FN_STAT_FATAL f.val) 0) s

/-- FLR (R365): a Function Level Reset. -/
def execFlr (f : Fin 4) (s : State) : Answer := answer (flrFunction f) s

/-- D3HOT_ENTRY (R433): the function neither fetches nor signals. The write of the power state reaches a function over a link that is up. -/
def execD3hotEntry (f : Fin 4) (s : State) : Answer := answerWhen (s.linkUp (portOf f)) (emit (.fn f fun h => { h with d3 := true })) s

/-- D0_RETURN (R433): acts as an FLR. -/
def execD0Return (f : Fin 4) (s : State) : Answer :=
  answer (do if s.fns[f].d3 then flrFunction f) s

/-! ### Ports (R421, R423, R432 to R435, R438) -/

/-- The link state of a port, in the registers of both its functions. -/
def setLink (p : Fin 2) (speed width pstate : Nat) : Act Unit :=
  forAll [2 * p.val, 2 * p.val + 1] (fun f => do
    setF (F.HST_LINK_STAT_SPEED f) speed
    setF (F.HST_LINK_STAT_WIDTH f) width
    setF (F.HST_LINK_STAT_PSTATE f) pstate)

/-- An FLR of both functions of a port. -/
def flrPort (p : Fin 2) : Act Unit := do
  flrFunction (adminOf p)
  flrFunction ⟨2 * p.val + 1, by omega⟩

/-- PERST_N_ASSERTED (R423): the link is held down, and both functions are reset. -/
def execPerstNAsserted (p : Fin 2) (s : State) : Answer :=
  answer (do
    emit (.chip fun c => { c with pins := { c.pins with perst := c.pins.perst.set p true } })
    setLink p 0 0 0
    flrPort p) s

/-- PERST_N_RELEASED (R30, R423): in RETENTION the part wakes. -/
def execPerstNReleased (p : Fin 2) (s : State) : Answer :=
  answer (do
    emit (.chip fun c => { c with pins := { c.pins with perst := c.pins.perst.set p false } })
    if s.mode = mRETENTION ∧ s.chip.pins.perst[p] then wakePart 0xA) s

/-- Whether a link may be up in a mode: training begins in LOAD, and RETENTION takes links down (R29, R423). -/
def linkMode (mode : Nat) : Bool := decide (mLOAD ≤ mode) && mode != mRETENTION

/-- The highest speed code at which a port trains: 32 GT/s, and 16 GT/s on a start whose step 14 takes the alternate for it (R421, R506). -/
def State.linkLimit (s : State) (p : Fin 2) : Nat := if bitAt ((s.boot.altPlan.lookup 14).getD 0) p.val then 4 else 5

/-- HST_LINK_UP (R421, R438): the link trains. -/
def execHstLinkUp (p : Fin 2) (speed width : Nat) (s : State) : Answer :=
  answer (do
    let speed := min speed (s.linkLimit p)
    if s.chip.pins.perst[p] = false ∧ linkMode s.mode ∧ 1 ≤ speed ∧ speed ≤ 5 ∧ (width = 1 ∨ width = 2 ∨ width = 4) then
      setLink p speed width 0
      emit (.chip fun c => { c with l2Ready := c.l2Ready.set p false })
      undegrade (.port p.val)
      raise (Ev.port p.val hLINK_UP) 0 0 (speed + 2 ^ 32 * width)
      if speed < 5 ∨ width < 4 then raise (Ev.port p.val hLINK_DEGRADED) 0 0 (speed + 2 ^ 32 * width)) s

/-- HST_LINK_DOWN (R432): the port has failed. Its functions are reset and the other port reports level 5. -/
def execHstLinkDown (p : Fin 2) (s : State) : Answer :=
  answer (do
    if s.linkUp p ∧ s.chip.l2Ready[p] = false then
      beginSingle (.port p.val)
      setLink p 0 0 0
      degrade (.port p.val)
      flrPort p
      raise (Ev.port p.val hLINK_DOWN)
      endSingle (.port p.val)) s

/-- PME_TURN_OFF (R40, R434, R435): the port enters L2/L3 Ready. On the way to RETENTION it lets RETENTION proceed; otherwise, when both
ports with links up have done so, it is a request for DRAIN. -/
def execPmeTurnOff (p : Fin 2) (s : State) : Answer :=
  answer (do
    if s.linkUp p then
      setLink p (s.get (F.HST_LINK_STAT_SPEED (2 * p.val))) (s.get (F.HST_LINK_STAT_WIDTH (2 * p.val))) 2
      emit (.chip fun c => { c with l2Ready := c.l2Ready.set p true })
      let s ← rd
      if s.chip.retaining then enterRetention
      else if s.get F.DEV_MODE_REQ_TARGET = mRETENTION then pure ()
      else if s.portsReady then
        if s.holdsRequest mDRAIN then
          holdRequest mDRAIN false
          emit (.chip fun c => { c with heldPme := true })
        else if (allowedTargets s.mode).contains mDRAIN then takeRequest mDRAIN 0xC) s

/-- ASPM_L1_ENTRY (R433): while no function of the port holds a fetched instruction or a completion to post. -/
def execAspmL1Entry (p : Fin 2) (s : State) : Answer :=
  answer (do
    let mine (f : Fin 4) : Bool := portOf f == p
    if s.linkUp p ∧ s.get (F.HST_LINK_STAT_PSTATE (2 * p.val)) = 0 ∧ !s.insts.any (fun i => mine i.fn && !i.orphan) ∧
        fnList.all (fun f => !mine f || s.fns[f].cqs.all (fun r => r.waiting.isEmpty)) then
      setLink p (s.get (F.HST_LINK_STAT_SPEED (2 * p.val))) (s.get (F.HST_LINK_STAT_WIDTH (2 * p.val))) 1) s

/-! ### Vectors unmasked (R430, R541), and the SMBus alert (R437) -/

/-- Sends the pending messages of the vectors that are no longer masked, where their conditions still hold: a ring holds completions that
have not been consumed; vector 0's pending bit is clear once its level has fallen. -/
def sendPending (f : Fin 4) : Act Unit := do
  let s ← rd
  let h := s.fns[f]
  if h.fnMask = false then
    let open_ := h.pending.filter (fun v => !h.masked.contains v)
    emit (.fn f fun h => { h with pending := h.pending.filter (fun v => !open_.contains v), pendLevel := if open_.contains 0 then 0 else h.pendLevel })
    forAll open_ (fun v =>
      let holds : Bool := v == 0 || h.cqs.any (fun r => r.num + 1 == v && !r.poll && decide (0 < r.held))
      if holds then sendVector f v 0 else pure ())

/-- MSIX_UNMASK (R430): a vector, or with none the function mask. -/
def execMsixUnmask (f : Fin 4) (v : Option (Fin 65)) (s : State) : Answer :=
  answer (do
    match v with
    | some v => emit (.fn f fun h => { h with masked := h.masked.filter (· != v.val) })
    | none => emit (.fn f fun h => { h with fnMask := false })
    sendPending f) s

/-- SMB_ALERT_RESPONSE (R436, R437): the line is released and the part answers with its address. -/
def execSmbAlertResponse (s : State) : Answer :=
  answer (do
    if mBOOT ≤ s.mode ∧ s.chip.pins.smbAlert then
      emit (.chip fun c => { c with pins := { c.pins with smbAlert := false } })
      emit (.out (.smbus (0x58 + s.chip.pins.smbAddr % 4)))) s

end Sys2Proof.Machine
end

