-- ==== Sys2Proof/Machine/CacheDram.lean ====
section
/-! DEFINITION. The context cache (R456 to R468): accesses, fills, victim buffers, range operations and drains; the DRAM controller (R473 to
R484): refresh, patrol, failed devices and retraining; the scrub of on-chip memories (R491). The content of a line is that of context
memory: the cache holds which lines are valid and dirty. -/

namespace Sys2Proof.Machine

/-! ### Requests from outside (R458, R466) -/

/-- An uncorrectable error found by an access (R466): a clean line is fetched again; in a dirty line, or in a tag or state word, the part
enters SAFE. -/
def cacheError (line : Nat) (inState : Bool) : Act Unit := do
  let s ← rd
  raise Ev.CCH_UNCORRECTABLE
  match s.cacheLine line with
  | some l =>
    if inState ∨ l.dirty then outsideModel
    else
      beginSingle .cacheLine
      emit (.cch fun c => { c with lines := c.lines.filter (fun x => x.line != line), refetch := some line })
  | none => if inState then outsideModel

/-- CACHE_ACCESS (R458): a request, with what the code finds of the words it reads; `inState` says that the error is in a tag or state word. A
request whose bank's queue is full waits at its source; one that the cache does not serve goes to DRAM (R457, R464). -/
def execCacheAccess (id line : Nat) (write : Bool) (ecc : Ecc) (inState : Bool) (s : State) : Answer :=
  answerWhen s.awake (do
    if s.cchServes line = false then activateRow line
    else if (s.cch.queue.filter (fun q => bankOf q.line == bankOf line)).length < 16 then
      match ecc with
      | .clean => pure ()
      | .corrected => do
        incStop F.CCH_ECC_CNT_CNT
        raise Ev.CCH_ECC_CORRECTED
      | .uncorrectable => if (s.cacheLine line).isSome ∨ inState then cacheError line inState else pure ()
      serveReq { id := id, line := line, write := write }) s

/-! ### DRAM errors (R479 to R481) -/

/-- A device fails (R480); a second in its rank is outside the single-fault model. -/
def failDevice (rank device : Nat) : Act Unit := do
  let s ← rd
  let f := F.DRM_DEV_FAILED_MASK rank
  let mask := s.get f
  if bitAt mask device = false then
    if mask ≠ 0 then outsideModel
    else
      beginSingle (.dramDevice (20 * rank + device))
      setF f (setBit mask device true)
      setF F.DRM_STAT_ERASURE 1
      raise Ev.DRM_DEVICE_FAILED 0 rank
      degrade (.dramDevice (20 * rank + device))
      endSingle (.dramDevice (20 * rank + device))

/-- The check symbols of a codeword: the remainder of its eight data symbols, one of each data device, under the generator of two roots (R62,
R479). DESIGN CHOICE (log 51): the roots are those of R62. -/
def dramCheck (data : List (BitVec 16)) : List (BitVec 16) := outerParity 2 data

/-- What the code makes of a line that is read with errors in some devices (R479): in each subchannel it corrects one device; where a device is
decoded as an erasure, an error in another is detected only. -/
def State.dramVerdict (s : State) (e : DramErr) : Ecc :=
  let failed := s.get (F.DRM_DEV_FAILED_MASK (s.rankOf e.line))
  let gone (d : Fin 20) : Bool := bitAt failed d.val
  let beyond (sub : Nat) : Bool :=
    let l := e.devices.eraseDups.filter (fun d => d.val / 10 == sub)
    if (List.range 10).any (fun d => bitAt failed (10 * sub + d)) then !l.all gone else decide (2 ≤ l.length)
  if beyond 0 || beyond 1 then .uncorrectable else if e.devices.isEmpty then .clean else .corrected

/-- A corrected read (R480): a device with errors in 256 lines within 24 h, or in error in every line across four bursts, fails. -/
def dramCorrected (e : DramErr) : Act Unit := do
  let s ← rd
  let n := s.rankOf e.line
  addWrap F.DRM_ECC_CNT_CNT 1
  raise Ev.DRM_ECC_CORRECTED
  let recent := s.dram.corrected.filter (fun x => decide (s.now < x.at_ + 86400000000))
  let l := recent ++ e.devices.eraseDups.map (fun d => { rank := n, device := d.val, line := e.line, at_ := s.now })
  emit (.dram fun d => { d with corrected := l })
  forAll e.devices.eraseDups (fun d => do
    let lines := ((l.filter (fun x => x.rank == n && x.device == d.val)).map CorrectedLine.line).eraseDups
    if e.everyLine ∨ 256 ≤ lines.length then failDevice n d.val)

/-- The package copy is loaded again from its slot, with verification (R481, R515). -/
def reloadPackage : Act Unit := do
  let s ← rd
  match s.slotPkg s.boot.slot with
  | none => emit (.boot fun b => { b with pkg := none })
  | some p =>
    match s.packageFault p with
    | none => emit (.boot fun b => { b with pkg := some p })
    | some c =>
      raise Ev.PACKAGE_REJECTED c 0 s.boot.slot
      emit (.boot fun b => { b with pkg := none })

/-- An uncorrectable line (R481), by the area it belongs to. -/
def dramUncorrectable (e : DramErr) : Act Unit := do
  setF F.DRM_LAST_ERR_LINE (e.line % 2 ^ 30 * 128)
  incStop F.DRM_UE_CNT_CNT
  raise Ev.DRM_UNCORRECTABLE
  let s ← rd
  match e.area with
  | .writeCache seqs =>
    if s.cache.any (fun c => seqs.contains c.seq && !c.poison) then raise Ev.DATA_POISON_SET
    emit (.cache fun l => l.map (fun c => if seqs.contains c.seq then { c with poison := true } else c))
  | .readBuffer l => do
    forAll bayList (fun b => emit (.bay b fun y => { y with
      readAhead := y.readAhead.map (fun x => if l.contains (x.vol, x.lsa) then { x with poison := true } else x) }))
    emit (.dram fun d => { d with sectors := d.sectors.map (fun x => if l.contains (x.vol, x.lsa) then { x with poison := true } else x) })
    raise Ev.DATA_POISON_SET
  | .samples k track sector => do
    emit (.dram fun d => { d with samples := d.samples.map (fun r =>
      if r.opu = k.val ∧ r.track = track ∧ r.sector = sector then { r with lost := true } else r) })
    match s.frameAt k track sector with
    | some f => climb k f
    | none => pure ()
  | .package => reloadPackage
  | .context => outsideModel
  | .other => outsideModel

/-- A line read with errors, within the DRAM configured. -/
def dramError (e : DramErr) : Act Unit := do
  let s ← rd
  match s.dramVerdict e with
  | .clean => pure ()
  | .corrected => dramCorrected e
  | .uncorrectable => dramUncorrectable e

/-- CACHE_FILL_RETURN (R458, R466): the fill of a bank's miss returns, and its requests are served. One that the DRAM controller cannot
correct lies in the context region (R481). -/
def execCacheFillReturn (bank : Fin 8) (err : Option DramErr) (s : State) : Answer :=
  answerWhen s.awake (do
    match s.cch.misses.find? (fun m => bankOf m.line == bank.val) with
    | none => pure ()
    | some m =>
      emit (.cch fun c => { c with misses := c.misses.filter (fun x => x.line != m.line) })
      match err with
      | some e => dramError { e with line := m.line, area := .context }
      | none => pure ()
      if err.all (fun e => s.dramVerdict { e with line := m.line } != .uncorrectable) then
        if s.cch.refetch = some m.line then
          emit (.cch fun c => { c with refetch := none })
          endSingle .cacheLine
        emit (.cch fun c => { c with lines := c.lines ++ [{ line := m.line, way := m.way, dirty := m.waiting.any CacheReq.write }] })
        touchLine m.line m.way
        issueVictim bank.val
        serveBank bank.val) s

/-- VICTIM_WRITEBACK_DONE (R461): the entry is freed, the requests that wait are tried, and the bank's next write-back is issued. -/
def execVictimWritebackDone (line : Nat) (s : State) : Answer :=
  answerWhen s.awake (do
    if s.cch.victims.any (fun v => v.line == line) then
      addWrap F.CCH_WB_CNT_CNT 1
      emit (.cch fun c => { c with victims := c.victims.filter (fun v => v.line != line) })
      serveBank (bankOf line)
      issueVictim (bankOf line)) s

/-! ### Range operations and drains (R462 to R464, R467) -/

/-- Lines of the DRAM configured. -/
def State.dramLines (s : State) : Nat := s.dramMiB * 8192

/-- Starts a range operation, or refuses it (R462). -/
def startOp (kind : Nat) : Act Unit := do
  let s ← rd
  let base := s.get F.CCH_OP_BASE_LO_LO + 2 ^ 25 * s.get F.CCH_OP_BASE_HI_HI
  let n := s.get F.CCH_OP_LINES_LINES
  if s.get F.CCH_STAT_OP_BUSY = 1 ∨ n = 0 ∨ s.dramLines < base + n then
    setF F.CCH_STAT_OP_REJECT 1
    raise Ev.CCH_OP_REJECT
  else if s.get F.CCH_CTL_ENABLE = 0 then raise Ev.CCH_OP_DONE
  else
    setF F.CCH_STAT_OP_BUSY 1
    setF F.CCH_OP_CTL_KIND kind
    emit (.cch fun c => { c with op := some (base, n, kind == 2) })

/-- CCH_OP_CLEAN (R462). -/
def execCchOpClean (m : Master) (s : State) : Answer := answer (do if s.mayWrite m then startOp 1) s

/-- CCH_OP_CLEAN_INVALIDATE (R462). -/
def execCchOpCleanInvalidate (m : Master) (s : State) : Answer := answer (do if s.mayWrite m then startOp 2) s

/-- Lines to be written back, of those that `p` names: dirty lines and victim entries. -/
def State.dirtyLines (s : State) (p : Nat → Bool) : Nat :=
  (s.cch.lines.filter (fun l => l.dirty && p l.line)).length + (s.cch.victims.filter (fun v => p v.line)).length

/-- An operation's end (R463, R464). -/
def endOp : Act Unit := do
  setF F.CCH_STAT_OP_BUSY 0
  setF F.CCH_OP_CTL_KIND 0
  emit (.cch fun c => { c with op := none })
  raise Ev.CCH_OP_DONE

/-- CCH_OP_DONE (R463): every line of the range that was dirty is in DRAM. -/
def execCchOpDone (s : State) : Answer :=
  answerWhen s.awake (do
    match s.cch.op with
    | none => pure ()
    | some (base, n, invalidate) =>
      if s.get F.CCH_STAT_DRAINING = 0 then
        let inside (l : Nat) : Bool := decide (base ≤ l) && decide (l < base + n)
        addWrap F.CCH_WB_CNT_CNT (s.dirtyLines inside)
        emit (.cch fun c => { c with
          victims := c.victims.filter (fun v => !inside v.line)
          lines := if invalidate then c.lines.filter (fun l => !inside l.line)
            else c.lines.map (fun l => if inside l.line then { l with dirty := false } else l) })
        endOp
        forAll (List.range 8) serveBank) s

/-- A refused CFG write or enable of the cache (R464, R467). -/
def cchReject : Act Unit := do
  setF F.CCH_STAT_CFG_REJECT 1
  raise Ev.CCH_CFG_REJECT

/-- A write of CCH_CTL.ENABLE (R464, R467). A region that reaches into the area of retained samples is refused like one that passes the end of
the DRAM: the host cannot address that area (R21). -/
def writeCchCtl (enable : Bool) : Act Unit := do
  let s ← rd
  let was := s.get F.CCH_CTL_ENABLE
  if enable then
    if was = 0 then
      let size := s.get F.CCH_REGION_SIZE_SIZE
      if s.get F.CCH_STAT_DRAINING = 1 ∨ size = 0 ∨ s.hostMiB < s.get F.CCH_REGION_BASE_BASE + size then cchReject
      else
        setF F.CCH_CTL_ENABLE 1
        setF F.CCH_STAT_BYPASS 0
  else if was = 1 then
    setF F.CCH_CTL_ENABLE 0
    setF F.CCH_STAT_DRAINING 1

/-- CCH_CTL_WRITE (R464). -/
def execCchCtlWrite (m : Master) (v : Word) (s : State) : Answer := answer (do if s.mayWrite m then writeCchCtl (bitAt v.toNat 0)) s

/-- CCH_DRAIN_DONE (R464): every line is in DRAM and the cache is empty. -/
def execCchDrainDone (s : State) : Answer :=
  answerWhen s.awake (do
    if s.get F.CCH_STAT_DRAINING = 1 then
      addWrap F.CCH_WB_CNT_CNT (s.dirtyLines (fun _ => true))
      emit (.cch fun c => { c with lines := [], victims := [], misses := [], queue := [], trees := [] })
      setF F.CCH_STAT_DRAINING 0
      setF F.CCH_STAT_BYPASS 1
      if s.get F.CCH_STAT_OP_BUSY = 1 then endOp
      raise Ev.CCH_DRAIN_DONE) s

/-! ### The DRAM controller (R473, R474, R476, R481) -/

/-- A lane is re-centred by at most 1/64 UI a step, for each of its delays (R472). -/
def recentre (c lane : Nat) (rd_ wr : Int) : Act Unit := do
  let s ← rd
  let n := 256 * c + lane
  setI (F.DRM_DELAY_RD n) (s.geti (F.DRM_DELAY_RD n) + clampInt (-1) 1 rd_)
  setI (F.DRM_DELAY_WR n) (s.geti (F.DRM_DELAY_WR n) + clampInt (-1) 1 wr)

/-- DRAM_REFRESH (R476): an interval of a channel expires. At most four refreshes are postponed; one that is issued brings them with it. The
rows next to those sampled have been activated by then (R477). In S and M the hardware re-centres lanes inside the interval during ACTIVE, by
the steps that it measures (R472). -/
def execDramRefresh (c : Fin 2) (postponed : Bool) (steps : List (Fin 80 × Int × Int)) (s : State) : Answer :=
  answerWhen s.awake (do
    if bitAt (s.get F.DRM_STAT_CH_UP) c.val ∧ s.dram.selfRefresh = false then
      let n := s.get F.DRM_REF_STAT_POSTPONED
      if postponed ∧ n < 4 then setF F.DRM_REF_STAT_POSTPONED (n + 1)
      else
        setF F.DRM_REF_STAT_POSTPONED 0
        emit (.dram fun d => { d with
          neighbours := d.neighbours.filter (fun x => x.1 / 2 != c.val), raa := d.raa.filter (fun x => x.1 / 2 ^ 17 != c.val) })
        if s.mode = mACTIVE ∧ (s.get F.DRM_STAT_CONFIG = 1 ∨ s.get F.DRM_STAT_CONFIG = 2) then
          forAll steps (fun x => recentre c.val x.1.val x.2.1 x.2.2)) s

/-- The highest of the temperatures polled. -/
def hottestOf : List Int → Int
  | [] => 0
  | t :: l => l.foldl max t

/-- DRAM_TEMP_POLL (R476): the hottest device decides the refresh rate. The first poll after a sweep records the devices' temperatures (R473). -/
def execDramTempPoll (temps : List Int) (s : State) : Answer :=
  answerWhen s.awake (do
    if s.get F.DRM_CTL_ENABLE = 1 ∧ s.dram.selfRefresh = false ∧ !temps.isEmpty then
      setI F.DRM_REF_STAT_TEMP (hottestOf temps)
      setF F.DRM_REF_STAT_DOUBLE (if 85 < hottestOf temps then 1 else 0)
      emit (.dram fun d => { d with temps := temps, swept := if d.swept.isEmpty then temps else d.swept })) s

/-- DRAM_PATROL (R481): a pass over every line. -/
def execDramPatrol (errors : List DramErr) (s : State) : Answer :=
  answerWhen s.awake (do
    if s.get F.DRM_CTL_ENABLE = 1 ∧ s.dram.selfRefresh = false then
      incStop F.DRM_PATROL_CNT_CNT
      forAll (errors.filter (fun e => decide (e.line < s.dramLines))) dramError) s

/-- Whether the temperature of some device has moved by 15 °C since the last sweep (R473). -/
def Dram.drifted (d : Dram) : Bool := (List.zipWith (fun (a b : Int) => decide (15 ≤ (a - b).natAbs)) d.temps d.swept).any id

/-- DRAM_RETRAIN (R473, R474): in configuration L, in PARK or IDLE, once a device has moved by 15 °C since the last sweep; a sweep that passes
on every lane writes the delays and the training record. -/
def execDramRetrain (sweeps : List LaneSweep) (s : State) : Answer :=
  answerWhen s.awake (do
    if s.get F.DRM_STAT_CONFIG = 3 ∧ (s.mode = mPARK ∨ s.mode = mIDLE) ∧ s.dram.drifted ∧ !sweeps.isEmpty ∧ !sweeps.any sweepNarrow then
      setDelays 0 sweeps
      setDelays 1 sweeps
      saveTraining
      emit (.dram fun d => { d with swept := d.temps })) s

/-! ### On-chip memories (R107, R448, R489, R491) -/

/-- The word of patch RAM that the package copy holds at a control-store address (R452). -/
def State.packageWord (s : State) (addr : Nat) : BitVec 192 :=
  match s.boot.pkg with
  | none => 0
  | some p => match (packageEntries p 1).find? (fun e => 0x8000 + e.1 == addr) with
    | some e => BitVec.ofNat 192 (ofLeBytes e.2)
    | none => 0

/-- One error that the scrub finds (R489): a corrected one is written back and counted, an uncorrectable one handled as its memory says. -/
def scrubError (e : OnchipError) : Act Unit :=
  match e with
  | .patchRam addr .uncorrectable => do
    raise Ev.CS_UNCORRECTABLE
    let w := (← rd).packageWord addr
    emit (.seqs fun q => { q with patch := (q.patch.filter (fun x => x.1 != addr)) ++ (if w = 0 then [] else [(addr, w)]) })
  | .tables .uncorrectable => do
    raise Ev.CS_UNCORRECTABLE
    match (← rd).boot.pkg with
    | some p => loadTables p
    | none => romTables
  | .servo n .uncorrectable => engineFault n 1
  | .patchRam _ .corrected => do
    incStop F.SEQ_CS_ECC_CNT_CNT
    raise Ev.CS_ECC_CORRECTED
  | .tables .corrected => do
    incStop F.SEQ_CS_ECC_CNT_CNT
    raise Ev.CS_ECC_CORRECTED
  | .servo n .corrected => do
    incStop (F.SRV_ECC_CNT_CNT n.val)
    forAll (baysOf n) (fun b => raiseBay b.val Ev.iSERVO_ECC_CORRECTED 0 0xFF)
  | _ => pure ()

/-- ONCHIP_SCRUB (R491). -/
def execOnchipScrub (errors : List OnchipError) (s : State) : Answer := answerWhen s.awake (forAll errors scrubError) s

end Sys2Proof.Machine
end

