-- ==== Sys2Proof/Machine/Sequencers.lean ====
section
/-! DEFINITION. The sequencers (R439 to R451): microwords, the routines that they make up, commits, event routines, faults and restarts.
The rows of the Dynto instructions say what the ROM's routines do; here a routine is run word by word, as R442 to R446 define the words. -/

namespace Sys2Proof.Machine

/-! ### Microwords (R442) -/

/-- A microword as a number. -/
abbrev MicroWord : Type := Nat

/-- Whether a microword is illegal: a reserved code, or a reserved bit that is not zero. -/
def illegalWord (w : MicroWord) : Bool :=
  decide (10 ≤ bitsOf w 16 4) || bitsOf w 27 5 != 0 || decide (18 ≤ bitsOf w 32 5) || bitsOf w 80 4 == 15 || decide (5 ≤ bitsOf w 102 3) ||
  bitsOf w 105 7 != 0 || decide (8 ≤ bitsOf w 112 4) || decide (4 ≤ bitsOf w 126 3) || bitsOf w 141 3 != 0 || bitsOf w 154 6 != 0 ||
  bitsOf w 172 20 != 0

/-- The word that a fetch from an address gives: an overlay entry takes the place of a ROM word (R453). None where no row of the map gives
one. -/
def State.fetchWord (s : State) (a : Nat) : Option MicroWord :=
  let at_ := if 0x8000 ≤ a then a
    else match (List.range 256).find? (fun n => s.get (F.SEQ_OVL_MATCH n) == a && decide (0x8000 ≤ s.get (F.SEQ_OVL_TARGET n))) with
      | some n => s.get (F.SEQ_OVL_TARGET n)
      | none => a
  if at_ < 0x8000 then some (Config.romWord at_).toNat
  else if at_ < 0xC000 then some ((s.seqs.patch.lookup at_).getD 0).toNat
  else none

/-! ### Registers and the ALU (R439, R442) -/

def Frame.reg (f : Frame) (n : Nat) : BitVec 64 := (f.regs.lookup n).getD 0

def Frame.setReg (f : Frame) (n : Nat) (v : BitVec 64) : Frame :=
  let l := f.regs.filter (fun x => x.1 != n)
  { f with regs := if v = 0 then l else (n, v) :: l }

/-- MIN or MAX: where the signed and the unsigned order agree, theirs. -/
def orderOf (max_ : Bool) (a b : BitVec 64) : BitVec 64 :=
  if a.slt b = a.ult b then (if a.ult b = max_ then b else a) else Config.openOrder max_ a b

/-- Ones of a value, and its leading zeros. -/
def popCount (a : BitVec 64) : Nat := ((List.range 64).filter (fun i => a.getLsbD i)).length
def leadingZeros (a : BitVec 64) : Nat := (((List.range 64).reverse.takeWhile (fun i => a.getLsbD i == false))).length

/-- The result of an ALU operation on sources A and B, none for NOP and CMP. MOV moves source B; INSERT puts the low bits of B into A. -/
def aluResult (op pos width : Nat) (a b : BitVec 64) : Option (BitVec 64) :=
  let mask : BitVec 64 := BitVec.ofNat 64 (2 ^ (width + 1) - 1)
  match op with
  | 1 => some b
  | 2 => some (a + b)
  | 3 => some (a - b)
  | 4 => some (a &&& b)
  | 5 => some (a ||| b)
  | 6 => some (a ^^^ b)
  | 7 => some (a <<< pos)
  | 8 => some (a >>> pos)
  | 9 => some (a.sshiftRight pos)
  | 10 => some (orderOf false a b)
  | 11 => some (orderOf true a b)
  | 13 => some ((a >>> pos) &&& mask)
  | 14 => some ((a &&& ~~~(mask <<< pos)) ||| ((b &&& mask) <<< pos))
  | 15 => some (BitVec.ofNat 64 (popCount a))
  | 16 => some (BitVec.ofNat 64 (leadingZeros a))
  | 17 => some (a * b)
  | _ => none

/-! ### Memory operations and the pending set (R443, R444, R459) -/

/-- One byte of context memory as a thread sees it: its own pending stores come first. -/
def pendByte (pend : List Pend) (m : List Host.Cell) (a : Nat) : Nat :=
  pend.foldl (fun (v : Nat) (p : Pend) => match p with
    | .store x n y => let d := (a + memSize - x % memSize) % memSize
                      if d < n then y.toNat / 256 ^ d % 256 else v
    | _ => v) (memRead m (a % memSize)).toNat

/-- The `n` bytes of a context word as a thread sees it. -/
def pendLoad (pend : List Pend) (m : List Host.Cell) (a : Nat) : Nat → Nat
  | 0 => 0
  | n + 1 => pendByte pend m a + 256 * pendLoad pend m (a + 1) n

/-- The stamp of a line (R459). -/
def State.stampOf (s : State) (line : Nat) : Nat := tabGet s.cch.stamps (Config.stampHash line).val 0

/-- The lines that a word of `n` bytes lies in. -/
def linesOf (a n : Nat) : List Nat := [a % memSize / 128, (a + n - 1) % memSize / 128].eraseDups

/-- What the memory operation of a word does at its issue: the value loaded, the pending set, the read set, the save area. -/
def memOp (s : State) (t : Thread) (desc : BitVec 512) (mop a n : Nat) (v : BitVec 64) : Option (BitVec 64) × Thread :=
  match mop with
  | 1 => (some (BitVec.ofNat 64 (pendLoad t.pend s.dram.mem a n)), { t with reads := t.reads ++ (linesOf a n).map (fun l => (l, s.stampOf l)) })
  | 2 => (none, { t with pend := t.pend ++ [.store a n v] })
  | 3 => (some (BitVec.ofNat 64 (bitsOf desc.toNat (8 * (a % 64)) (8 * n))), t)
  | 4 => (some (BitVec.ofNat 64 (ofLeBytes ((List.range n).map (fun i => BitVec.ofNat 8 ((t.save.lookup (a + i)).getD 0).toNat)))), t)
  | 5 => (none, { t with save := (List.range n).map (fun i => (a + i, BitVec.ofNat 64 (v.toNat / 256 ^ i % 256))) ++
                                 t.save.filter (fun x => !(decide (a ≤ x.1) && decide (x.1 < a + n))) })
  | 7 => (none, { t with pend := t.pend ++ [.add a n v] })
  | _ => (none, t)

/-- The command that a word gives an engine: a committed one joins the pending set; its tag slot awaits the reply, but for a request that
the engine has answered already in this phase, whose kept result it receives at once (R443, R446). -/
def engineOp (t : Thread) (w : MicroWord) (f : Frame) : Thread :=
  let unit := bitsOf w 80 4
  let cmd := bitsOf w 84 8
  if unit = 0 then t
  else
    let arg := bitsOf w 92 5
    let tag := bitsOf w 97 5
    let r : TagReq := { slot := tag, unit := unit, cmd := cmd, args := (List.range 4).map (fun i => f.reg ((arg + i) % 32)) }
    let rest := t.tags.filter (fun x => x.slot != tag)
    let t := { t with tags := if t.kept.contains r then rest else r :: rest }
    if Config.committedCommand unit cmd then { t with pend := t.pend ++ [.engine unit cmd r.args] }
    else t

/-! ### One word (R439, R442) -/

/-- How a thread goes on after a word. -/
inductive Flow where
  | go (addr : Nat)
  | park (tag addr : Nat)
  | commit (addr : Nat)
  | finish
  | fault
deriving DecidableEq, Repr

/-- The flow of a word at address `a`, and the call stack after it. -/
def flowOf (w : MicroWord) (a : Nat) (f : Frame) (tags : List TagReq) (desc : BitVec 512) : Flow × List Nat :=
  let next := bitsOf w 0 16
  let cond := bitsOf w 20 6
  match bitsOf w 16 4 with
  | 1 => (if Config.condition (BitVec.ofNat 6 cond) f.flags (tags.map TagReq.slot) desc != bitAt w 26 then .go next else .go ((a + 1) % 65536), f.stack)
  | 2 => if 8 ≤ f.stack.length then (.fault, f.stack) else (.go next, (a + 1) % 65536 :: f.stack)
  | 3 => match f.stack with
    | [] => (.fault, [])
    | r :: l => (.go r, l)
  | 4 => (.go ((next + (f.reg (bitsOf w 37 5)).toNat % 16) % 65536), f.stack)
  | 5 => if tags.any (fun x => x.slot == cond % 32) then (.park (cond % 32) next, f.stack) else (.go next, f.stack)
  | 6 => (.commit next, f.stack)
  | 7 => (.finish, f.stack)
  | 9 => (.fault, f.stack)
  | _ => (.go next, f.stack)

/-- One legal microword: all its fields act in the same cycle, on the registers as they were before it. -/
def stepWord (s : State) (t : Thread) (desc : BitVec 512) (w : MicroWord) : Thread × Flow :=
  let f := t.now
  let a := f.reg (bitsOf w 37 5)
  let b := if bitAt w 52 then (BitVec.ofNat 16 (bitsOf w 64 16)).signExtend 64 else f.reg (bitsOf w 42 5)
  let op := bitsOf w 32 5
  let flags := if op = 0 then f.flags else Config.aluFlags f.flags op a b
  let g := match aluResult op (bitsOf w 53 6) (bitsOf w 59 5) a b with
    | some v => f.setReg (bitsOf w 47 5) v
    | none => f
  let m := memOp s t desc (bitsOf w 112 4) ((f.reg (bitsOf w 116 5)).toNat + bitsOf w 129 12) (2 ^ bitsOf w 126 3) (f.reg (bitsOf w 121 5))
  let g := match m.1 with
    | some v => g.setReg (bitsOf w 121 5) v
    | none => g
  let t := engineOp m.2 w f
  let ev : List Pend := if bitAt w 153 then [.event (bitsOf w 144 9)] else []
  let cpl : List Pend := if bitAt w 171 then [.complete (bitsOf w 160 11) ((f.reg 0).toNat % 2 ^ 32)] else []
  let t := { t with pend := t.pend ++ ev ++ cpl, words := t.words + 1 }
  let x := flowOf w f.addr f t.tags desc
  let next := match x.1 with
    | .go n => n
    | .park _ n => n
    | .commit n => n
    | _ => f.addr
  let t := { t with now := { g with addr := next, stack := x.2, flags := flags } }
  if 64 < t.pend.length then (t, .fault) else (t, x.1)

/-! ### Commits, ends and restarts (R444 to R446) -/

def sameRoutine (ofEvent : Bool) (n : Nat) (t : Thread) : Bool := if ofEvent then t.event == some n else t.inst == some n

/-- A routine's thread takes a new content, or goes. -/
def putThread (ofEvent : Bool) (n : Nat) (t : Option Thread) : Act Unit := do
  emit (.seqs fun q => { q with threads := q.threads.filter (fun x => !sameRoutine ofEvent n x) ++ t.toList })
  showThreads

/-- One entry of a pending set takes effect. What an engine does for a command is not listed (assumption log). -/
def applyPend (inst : Option Nat) (p : Pend) : Act Unit :=
  match p with
  | .store a n v => emit (.poke a n v.toNat)
  | .add a n v => do
    let old := memLoad (← rd).dram.mem a n
    emit (.poke a n (old + v.toNat))
  | .event n => raise n
  | .complete code dw0 =>
    match inst with
    | some id => complete id code dw0
    | none => pure ()
  | .engine _ _ _ => pure ()

/-- Lines that a pending set changes. -/
def pendLines (l : List Pend) : List Nat :=
  (l.flatMap (fun p => match p with
    | .store a n _ => linesOf a n
    | .add a n _ => linesOf a n
    | _ => [])).eraseDups

/-- A pending set is released: the commit takes a serial, and stamps the lines it changes. -/
def release (t : Thread) : Act Unit := do
  addWrap F.SEQ_COMMIT_CNT_CNT 1
  let lines := pendLines t.pend
  emit (.cch fun c =>
    let n := (c.serial + 1) % 2 ^ 32
    { c with serial := n, stamps := lines.foldl (fun l x => tabSet l (Config.stampHash x).val n 0) c.stamps })
  forAll t.pend (applyPend t.inst)
  match t.recovers with
  | some q => endSingle (.sequencer q)
  | none => pure ()

/-- A phase as it begins again from its restart point; the engines keep the results that they have given it (R446). -/
def Thread.again (t : Thread) : Thread := { t with now := t.restart, words := 0, waits := none, tags := [], pend := [], reads := [] }

/-- Whether a commit is refused: a line of the read set has changed. -/
def State.conflicts (s : State) (t : Thread) : Bool := t.reads.any (fun r => s.stampOf r.1 != r.2)

/-- A microcode fault (R449). -/
def microcodeFault (ofEvent : Bool) (n : Nat) : Act Unit := do
  raise Ev.SEQ_MICROCODE_FAULT
  putThread ofEvent n none
  if ofEvent then setF (F.SEQ_DISPATCH_EV_ENABLED n) 0
  else complete n cINTERNAL_ERROR Ev.SEQ_MICROCODE_FAULT

/-- A COMMIT (R444, R446): refused on a conflict, and the phase begins again; otherwise the pending set is released and the restart point
taken. The first is the commit point of the instruction (R357, R445). -/
def commitThread (t : Thread) : Act Thread := do
  if (← rd).conflicts t then
    incStop F.SEQ_CONFLICT_CNT_CNT
    return t.again
  else
    if t.committed = false then
      match t.inst with
      | some id => setInst id (fun i => if i.stage = .dispatched then { i with stage := .committed } else i)
      | none => pure ()
    release t
    return { t with restart := t.now, words := 0, watchdogs := 0, kept := [], pend := [], reads := [], committed := true, recovers := none }

/-- Runs a thread until it parks, ends or faults, or has executed as many words of a phase as the watchdog allows (R448). -/
def runThread (ofEvent : Bool) (n : Nat) (desc : BitVec 512) : Nat → Thread → Act Unit
  | 0, t => putThread ofEvent n (some t)
  | k + 1, t => do
    let s ← rd
    match s.fetchWord t.now.addr with
    | none => microcodeFault ofEvent n
    | some w =>
      if illegalWord w then microcodeFault ofEvent n
      else
        let x := stepWord s t desc w
        match x.2 with
        | .fault => microcodeFault ofEvent n
        | .go _ => runThread ofEvent n desc k x.1
        | .park tag _ => putThread ofEvent n (some { x.1 with waits := some tag, words := 0 })
        | .commit _ => do
          let t ← commitThread x.1
          runThread ofEvent n desc k t
        | .finish =>
          if s.conflicts x.1 then do
            incStop F.SEQ_CONFLICT_CNT_CNT
            runThread ofEvent n desc k x.1.again
          else do
            putThread ofEvent n none
            release x.1

/-- Whether a thread number takes a routine's kind of work (R440). -/
def threadTakes (t : Thread) (k : Nat) : Bool :=
  if t.event.isSome then k == 6 || k == 7 else decide (k ≤ 4) || (k == 5 && t.cls == 0)

/-- ROUTINE_RESUME (R441): a routine runs on thread `t` of sequencer `q`; `replies` are the tag slots whose requests have completed. -/
def execRoutineResume (ofEvent : Bool) (n : Nat) (q : Fin 16) (t : Fin 8) (replies : List (Fin 32)) (s : State) : Answer :=
  answerWhen s.awake (do
    match s.seqs.threads.find? (sameRoutine ofEvent n) with
    | none => pure ()
    | some x =>
      let answered (y : TagReq) : Bool := (replies.map Fin.val).contains y.slot
      let tags := x.tags.filter (fun y => !answered y)
      let ready : Bool := match x.waits with
        | some w => !tags.any (fun y => y.slot == w)
        | none => true
      if ready ∧ s.get F.SEQ_STAT_RUN = 1 ∧ bitAt (s.get F.SEQ_FAILED_MASK) q.val = false ∧ threadTakes x t.val then
        let desc : BitVec 512 := if ofEvent then 0 else ((s.inst n).map Inst.desc).getD 0
        runThread ofEvent n desc (16384 - x.words) 
          { x with seq := q.val, thread := t.val, waits := none, tags := tags, kept := x.kept ++ x.tags.filter answered }
        settle) s

/-! ### Event routines (R440, R451) -/

/-- The routine that goes next: of class 0 first, then by arrival, of those that do not run already. -/
def State.nextRoutine (s : State) : Option Nat :=
  let ready := s.chip.routines.filter (fun n => !s.seqs.threads.any (fun t => t.event == some n) && s.get (F.SEQ_DISPATCH_EV_ENABLED n) == 1)
  [0, 1, 2, 3].findSome? (fun c => ready.find? (fun n => s.get (F.SEQ_DISPATCH_EV_CLASS n) == c))

/-- EVENT_ROUTINE_DISPATCH (R451): the routine starts on event thread `t` of sequencer `q`, with the count of raises in GPR_0. -/
def execEventRoutineDispatch (q : Fin 16) (t : Fin 8) (s : State) : Answer :=
  answerWhen s.awake (do
    match s.nextRoutine with
    | none => pure ()
    | some n =>
      if s.get F.SEQ_STAT_RUN = 1 ∧ bitAt (s.get F.SEQ_FAILED_MASK) q.val = false ∧ 6 ≤ t.val then
        let raises := tabGet s.seqs.raises n 0
        let f : Frame := { addr := s.get (F.SEQ_DISPATCH_EV_ENTRY n), regs := if raises = 0 then [] else [(0, BitVec.ofNat 64 raises)] }
        emit (.chip fun c => { c with routines := c.routines.filter (· != n) })
        emit (.seqs fun x => { x with raises := tabSet x.raises n 0 0 })
        setF F.SEQ_EV_QUEUED_NUM (min 1023 (← rd).chip.routines.length)
        putThread true n (some { seq := q.val, thread := t.val, event := some n, cls := s.get (F.SEQ_DISPATCH_EV_CLASS n), now := f, restart := f })) s

/-! ### Faults and restarts (R448) -/

/-- A restart that sequencer `q` has caused: the third within 1 s marks it failed. Its queued instructions go to another sequencer, and the
phases that it executes restart elsewhere; a parked routine holds no thread of it (R441, R448). -/
def countRestart (q : Fin 16) : Act Unit := do
  let s ← rd
  incStop F.SEQ_RESTART_CNT_CNT
  let l := (s.seqs.restarts.filter (fun x => decide (s.now < x.2 + 1000000))) ++ [(q.val, s.now)]
  emit (.seqs fun x => { x with restarts := l })
  let mask := s.get F.SEQ_FAILED_MASK
  if 3 ≤ (l.filter (fun x => x.1 == q.val)).length ∧ bitAt mask q.val = false then
    setF F.SEQ_FAILED_MASK (setBit mask q.val true)
    setF F.SEQ_STAT_FAILED_NUM (s.get F.SEQ_STAT_FAILED_NUM + 1)
    raise Ev.SEQ_FAILED 0 q.val
    degrade (.sequencer q.val)
    let failed (i : Inst) : Bool := i.sequencer == q.val && i.stage == .queued
    match (← rd).sequencerFor with
    | some other => emit (.insts fun l => l.map (fun i => if failed i then { i with sequencer := other } else i))
    | none => pure ()
    let here (t : Thread) : Bool := t.seq == q.val && t.waits.isNone
    forAll ((← rd).seqs.threads.filter here) (fun _ => do
      raise Ev.SEQ_RESTART
      incStop F.SEQ_RESTART_CNT_CNT)
    emit (.seqs fun x => { x with threads := x.threads.map (fun t => if here t then t.again else t) })

/-- The phase of a routine restarts, in recovery until it commits or ends (R448, R544). -/
def restartPhase (q : Fin 16) (ofEvent : Bool) (n : Nat) : Act Unit := do
  raise Ev.SEQ_RESTART
  countRestart q
  match (← rd).seqs.threads.find? (sameRoutine ofEvent n) with
  | none => pure ()
  | some t =>
    beginSingle (.sequencer q.val)
    putThread ofEvent n (some { t.again with recovers := some q.val })

/-- SEQ_FAULT (R448): a sequencer finds an error in the word at `addr`, or in the state of the thread of a routine. -/
def execSeqFault (q : Fin 16) (kind : SeqFaultKind) (ofEvent : Bool) (n : Nat) (addr : BitVec 16) (s : State) : Answer :=
  answerWhen s.awake (do
    match kind with
    | .corrected => do
      incStop F.SEQ_CS_ECC_CNT_CNT
      raise Ev.CS_ECC_CORRECTED
    | .patchWord => do
      scrubError (.patchRam addr.toNat .uncorrectable)
      restartPhase q ofEvent n
    | .romWord => do
      raise Ev.CS_UNCORRECTABLE
      let recent := s.seqs.romErrors.filter (fun x => decide (s.now < x.2 + 1000000))
      emit (.seqs fun x => { x with romErrors := recent ++ [(addr.toNat, s.now)] })
      if recent.any (fun x => x.1 == addr.toNat) then outsideModel else restartPhase q ofEvent n
    | .threadState => restartPhase q ofEvent n) s

/-- SEQ_WATCHDOG (R448, R449): the phase of a routine has executed 16,384 words; it restarts once. -/
def execSeqWatchdog (ofEvent : Bool) (n : Nat) (s : State) : Answer :=
  answerWhen s.awake (do
    match s.seqs.threads.find? (sameRoutine ofEvent n) with
    | none => pure ()
    | some t =>
      if 16384 ≤ t.words then
        raise Ev.SEQ_WATCHDOG
        if t.watchdogs = 0 then
          putThread ofEvent n (some { t.again with watchdogs := 1 })
          countRestart (Fin.ofNat 16 t.seq)
        else
          microcodeFault ofEvent n
          settle) s

end Sys2Proof.Machine
end

