-- ==== Sys2Proof/Machine/Security.lean ====
section
/-! DEFINITION. The debug port (R522, R523): its challenge and its response. -/

namespace Sys2Proof.Machine

/-- The 45 bytes of a challenge: its 32 random bytes, the Device Serial Number, START_NUM and the key index. -/
def State.challengeBytes (s : State) (c : Challenge) : List Byte :=
  beBytes 32 c.random.toNat ++ (digestBytes Config.certDigest).take 8 ++ leBytes 4 s.nv.startNum ++ leBytes 1 c.key

/-- Whether the debug port answers: the part has left RESET. -/
def State.debugServes (s : State) : Bool := decide (mBOOT ≤ s.mode)

/-- The instructions of the debug port's TAP (R522). -/
inductive TapInstr where
  | idcode
  | bypass
  | dbgChal
  | dbgResp
  /-- An access to the parameter space and whatever else an unlocked port reaches. -/
  | access
deriving DecidableEq, Repr

/-- What IDCODE reads. -/
def idcode : BitVec 32 := 0xB4180B3D#32

/-- Whether the port serves an instruction: locked, the first four alone (R522). -/
def State.tapServes (s : State) (i : TapInstr) : Bool := s.debugServes && (i != .access || s.get F.SEC_DBG_STAT_UNLOCKED == 1)

/-- DBG_CHAL (R522, R523): draws a challenge; refused after three failures until RESET_N. -/
def execDbgChal (key : Nat) (s : State) : Answer :=
  answer (do
    if s.debugServes ∧ s.get F.SEC_DBG_STAT_LOCKOUT = 0 then
      let r ← freeValue 256
      let c : Challenge := { random := BitVec.ofNat 256 r, key := key % 256, at_ := s.now }
      emit (.dbg fun d => { d with challenge := some c })
      emit (.out (.debug (s.challengeBytes c)))) s

/-- Whether a response unlocks the port: a digest programmed for its index, a signature over a challenge less than 60 s old. -/
def State.unlocks (s : State) (key : Nat) (pub sig : BitVec 512) : Bool :=
  match s.dbg.challenge with
  | none => false
  | some c =>
    decide (s.now < c.at_ + 60000000) && !s.otp.debugDisabled && decide (key < 2) && bitAt s.otp.debugKeys key &&
    sm3 (beBytes 64 pub.toNat) == Config.debugKeyDigest (Fin.ofNat 2 key) && Config.sm2Verify pub (s.challengeBytes c) sig

/-- DBG_RESP (R522, R523): the challenge serves this one response; it unlocks the port, or fails. -/
def execDbgResp (key : Nat) (pub sig : BitVec 512) (s : State) : Answer :=
  answer (do
    if s.debugServes then
      let ok := s.unlocks key pub sig
      emit (.dbg fun d => { d with challenge := none })
      if ok then
        setF F.SEC_DBG_STAT_UNLOCKED 1
        setF F.SEC_DBG_STAT_KEY key
        raise Ev.DEBUG_UNLOCKED
      else
        let n := min 3 (s.get F.SEC_DBG_STAT_FAILS + 1)
        setF F.SEC_DBG_STAT_FAILS n
        if n = 3 then setF F.SEC_DBG_STAT_LOCKOUT 1
        raise Ev.DEBUG_UNLOCK_FAIL) s

end Sys2Proof.Machine
end

