-- ==== Sys2Proof/Machine/RegAccess.lean ====
section
/-! DEFINITION. Access to registers: where each register lies in the parameter space (R532), what a read gives (R5, R9, R10, R529), what a
write does by the access types of its fields (R6, R579), the writes that act as commands, and a function's BAR0 (R424). -/

namespace Sys2Proof.Machine

/-! ### Places in the parameter space (R532) -/

/-- The blocks whose registers the windows hold. -/
inductive Block where
  | dev
  | evt
  | seq
  | cch
  | drm
  | flz
  | host (f : Fin 4)
  | sec
  | lif
  | gain (e : Fin 2) (j g w : Nat)
  | slot (e : Fin 2) (j : Nat)
  | section_ (e : Fin 2) (j c i : Nat)
  | engine (e : Fin 2)
  | trace (e : Fin 2) (k : Fin 8)
  | motor (k : Fin 8)
  | axis (a : Fin 16)
  | rfInput (i : Fin 32)
  | rch (k : Fin 8)
  | ldp
  | lane (n : Fin 36)
  | pool
  | wrp (k : Fin 8)
  | cal
  | bay (b : Fin 4)
  | opt (k : Fin 8)
  | traceRam (e : Fin 2) (k : Fin 8) (i : Nat)
  | nowhere
deriving DecidableEq, Repr

/-- The block of an offset of the SRV window of OPU_k (R101, R102, R113). -/
def srvPlace (k off : Nat) : Block × Nat :=
  let e : Fin 2 := Fin.ofNat 2 (k / 4)
  let j (n : Nat) : Nat := 16 * (k % 4) + n
  if off < 0x8000 then (.gain e (j (off / 0x800)) (off / 0x100 % 8) (off / 4 % 64), off % 4)
  else if off < 0x9000 then (.slot e (j (off / 0x100 % 16)), off % 0x100)
  else if off < 0x9800 then (.section_ e (j ((off - 0x9000) / 0x80)) (off / 16 % 8) (off / 4 % 4), off % 4)
  else if k % 4 = 0 ∧ 0xC100 ≤ off ∧ off < 0xC200 then (.trace e (Fin.ofNat 8 ((off - 0xC100) / 0x20)), off % 0x20)
  else if k % 4 = 0 ∧ 0xC000 ≤ off ∧ off < 0xC100 then (.engine e, off)
  else (.nowhere, 0)

/-- The block that an address of the parameter space lies in, and the offset within it. -/
def placeOf (a : Nat) : Block × Nat :=
  let w := a / 0x10000
  let off := a % 0x10000
  match w with
  | 0x00 => (.dev, off)
  | 0x01 => (.evt, off)
  | 0x02 => (.seq, off)
  | 0x03 => (.cch, off)
  | 0x04 => (.drm, off)
  | 0x05 => (.flz, off)
  | 0x06 => if off < 0x400 then (.host (Fin.ofNat 4 (off / 0x100)), off % 0x100) else (.nowhere, 0)
  | 0x07 => (.sec, off)
  | 0x08 => (.lif, off)
  | 0x18 => if off < 0x800 then (.motor (Fin.ofNat 8 (off / 0x100)), off % 0x100) else (.nowhere, 0)
  | 0x19 => if off < 0x1000 then (.axis (Fin.ofNat 16 (off / 0x100)), off % 0x100) else (.nowhere, 0)
  | 0x28 => (.ldp, off)
  | 0x29 =>
    if off < 0x900 then (.lane (Fin.ofNat 36 (off / 0x40)), off % 0x40)
    else if 0x1000 ≤ off then (.pool, off - 0x1000)
    else (.nowhere, 0)
  | 0x38 => (.cal, off)
  | _ =>
    if 0x10 ≤ w ∧ w < 0x18 then srvPlace (w - 0x10) off
    else if 0x20 ≤ w ∧ w < 0x28 then
      if off < 0x400 then (.rfInput (Fin.ofNat 32 (4 * (w - 0x20) + off / 0x100)), off % 0x100) else (.rch (Fin.ofNat 8 (w - 0x20)), off)
    else if 0x30 ≤ w ∧ w < 0x38 then (.wrp (Fin.ofNat 8 (w - 0x30)), off)
    else if 0x40 ≤ w ∧ w < 0x44 then
      if 0x2000 ≤ off ∧ off < 0x2800 then (.opt (Fin.ofNat 8 (2 * (w - 0x40) + (off - 0x2000) / 0x400)), off % 0x400)
      else (.bay (Fin.ofNat 4 (w - 0x40)), off)
    else if 0x80 ≤ w ∧ w < 0x90 then (.traceRam (Fin.ofNat 2 ((w - 0x80) / 8)) (Fin.ofNat 8 (w % 8)) (off / 4), off % 4)
    else (.nowhere, 0)

/-- The fields of the register at an offset of a block; none where there is no register. -/
def Block.fields (b : Block) (off : Nat) : List FieldSpec :=
  match b with
  | .dev => devFields off
  | .evt => evtFields off
  | .seq => seqFields off
  | .cch => cchFields off
  | .drm => drmFields off
  | .flz => flzFields off
  | .host f => hstFields f.val off
  | .sec => secFields off
  | .lif => lifFields off
  | .gain e j g w => if off = 0 then [⟨gainFld e.val j g w, .rw, 0, 0⟩] else []
  | .slot e j => srvslotFields e.val j off
  | .section_ e j c i => if off = 0 then [⟨sectionFld e.val j c i, .ro, 0, 0⟩] else []
  | .engine e => srvengFields e.val off
  | .trace e k => srvtrcFields e.val k.val off
  | .motor k => motFields k.val off
  | .axis a => stpFields a.val off
  | .rfInput i => rchinFields i.val off
  | .rch k => rchFields k.val off
  | .ldp => ldpFields off
  | .lane n => laneFields n.val off
  | .pool => poolFields off
  | .wrp k => wrpFields k.val off
  | .cal => calFields off
  | .bay b => bayFields b.val off
  | .opt k => optFields k.val off
  | .traceRam e k i => if off = 0 then [⟨traceFld e.val k.val i, .ro, 0, 0⟩] else []
  | .nowhere => []

/-- The group whose REG_ACCESS_FAULT an address raises (R532). -/
def faultGroup (a : Nat) : Nat :=
  let w := a / 0x10000
  match w with
  | 0x02 => 4
  | 0x03 => 5
  | 0x04 => 5
  | 0x05 => 6
  | 0x06 => if a % 0x10000 < 0x400 then 2 + a % 0x10000 / 0x200 else 2
  | 0x07 => 1
  | 0x08 => 15
  | 0x18 => if a % 0x10000 < 0x800 then 8 + a % 0x10000 / 0x100 % 4 else 8
  | 0x19 => if a % 0x10000 < 0x1000 then 8 + a % 0x10000 / 0x400 else 8
  | 0x28 => 13
  | 0x29 => 12
  | 0x38 => 15
  | _ =>
    if 0x10 ≤ w ∧ w < 0x18 then 8 + (w - 0x10) / 2
    else if 0x20 ≤ w ∧ w < 0x28 then 12
    else if 0x30 ≤ w ∧ w < 0x38 then 14
    else if 0x40 ≤ w ∧ w < 0x44 then 8 + (w - 0x40)
    else if 0x80 ≤ w ∧ w < 0x90 then 8 + 2 * ((w - 0x80) / 8)
    else 0

/-- The code of a master in a REG_ACCESS_FAULT record (R535). -/
def masterCode : Master → Nat
  | .sequencer => 0
  | .debug => 1
  | .function f => 2 + f.val

/-! ### Values read (R9, R10, R529) -/

/-- Whether a deferred error is pending on a strand that a function owns or last owned (R543). -/
def State.deferredFor (s : State) (f : Fin 4) : Bool :=
  s.strands.any (fun t => t.deferred && t.owner == f) || s.deferred.any (fun d => d.owner == f)

/-- Fields of the EVT window that show the queue and attention (R543). -/
def State.evtView (s : State) (off : Nat) (f : Fld) : Nat :=
  if off = 0 then s.evq.recs.length
  else if off = 4 then s.evq.serial
  else if 0x10 ≤ off ∧ off < 0x50 then
    let n : Fin 4 := Fin.ofNat 4 ((off - 0x10) / 0x10)
    match off % 0x10, f.lo with
    | 4, 0 => s.attention n
    | 4, 8 => (s.deferredFor n).toNat
    | 4, 16 => min 0xFFFF ((s.unread n).length + min 1 s.evq.lost[portOf n])
    | 8, _ => s.evq.cursor[portOf n]
    | _, _ => s.get f
  else s.get f

/-- Fields of the FLZ window that count blocks, and the admitted rate (R299, R311, R504). -/
def State.flzView (s : State) (off : Nat) (f : Fld) : Nat :=
  match off with
  | 0x20 => s.freeBlocks
  | 0x24 => s.flash.blocks.length
  | 0x28 => s.flash.spares.length
  | 0x2C => (s.flash.blocks.filter (fun b => b.logOf.isSome)).length
  | 0x30 =>
    if f.lo = 0 then (if s.flash.blocks.isEmpty then 0xFFFF else (s.admitted.map (fun a => min 0xFFFE (a / 1000000))).getD 0xFFFF)
    else (s.insts.any (fun i => i.stage == .gated)).toNat
  | 0x11C => s.oldBlocks.length
  | _ => s.get f

/-- A mask of lanes `base` to `base + n − 1`. -/
def laneMask (base n : Nat) (p : Nat → Bool) : Nat := ((List.range n).map (fun i => if p (base + i) then 2 ^ i else 0)).sum

/-- What a field reads as: its value, or what it shows of the state. -/
def State.view (s : State) (b : Block) (off : Nat) (f : Fld) : Nat :=
  let free (n : Nat) : Bool := s.get (F.RCH_LANE_BIND_ENABLE n) == 0 && s.get (F.RCH_LANE_STAT_FAILED n) == 0
  let failed (n : Nat) : Bool := s.get (F.RCH_LANE_STAT_FAILED n) == 1
  match b, off with
  | .evt, off => s.evtView off f
  | .flz, off => s.flzView off f
  | .cch, 0x44 => (s.cch.lines.filter CacheLine.dirty).length
  | .host n, 0xC => s.attention n
  | .sec, 0x10 =>
    match f.lo with
    | 0 => s.otp.counter
    | 8 => s.otp.revoked
    | 12 => s.otp.debugKeys
    | _ => s.otp.debugDisabled.toNat
  | .lif, 0x8 => s.powerOn
  | .lif, 0x10 => s.utc.getD 0
  | .lif, 0x28 => s.life.unclean
  | .pool, 0x0 => laneMask 0 32 free
  | .pool, 0x4 => laneMask 32 4 free
  | .pool, 0x8 => laneMask 0 32 failed
  | .pool, 0xC => laneMask 32 4 failed
  | .ldp, 0xC => s.ldpLoad
  | .cal, 0xC =>
    match f.lo with
    | 12 => laneMask 0 4 (fun b => s.policy pSPEED_PIN b != 0)
    | 16 => laneMask 0 8 (fun k => s.policy pWRPWR_PIN k != 0)
    | _ => s.get f
  | .lane n, 0x4 => if f.lo = 0 ∧ s.laneRuns n = false then 0 else s.get f
  | .bay b, 0 =>
    match f.lo with
    | 4 => (s.discIn b).isSome.toNat
    | 5 => s.bays[b].attached.isSome.toNat
    | _ => s.get f
  | _, _ => s.get f

/-- The 64-bit number that the fields of a register spell; its low 32 bits are its low word. -/
def State.wordOf (s : State) (b : Block) (off : Nat) : Nat :=
  ((b.fields off).map (fun x => s.view b off x.fld % 2 ^ x.fld.w * 2 ^ x.fld.lo)).sum

/-- Whether the register at an offset is the low word of a 64-bit counter (R9). -/
def Block.wide (b : Block) (off : Nat) : Bool := (b.fields off).any (fun x => x.fld.w == 64)

/-- Whether an address holds a register, the high word of a 64-bit counter among them. -/
def holdsReg (a : Nat) : Bool :=
  let (b, off) := placeOf a
  !(b.fields off).isEmpty || (decide (4 ≤ off) && b.wide (off - 4))

/-- A 32-bit read of an aligned address by a master: the low word of a 64-bit counter latches the high word in the master's shadow
at offset + 4, and a read there gives the shadow (R9). -/
def readReg (m : Master) (a : Nat) : Act Nat := do
  let s ← rd
  let (b, off) := placeOf a
  if b.wide off then
    let v := s.wordOf b off
    emit (.shadows fun l => ((masterCode m, a), v / 2 ^ 32) :: l.filter (fun x => x.1 != (masterCode m, a)))
    return v % 2 ^ 32
  else if 4 ≤ off ∧ b.wide (off - 4) then return (s.shadows.lookup (masterCode m, a - 4)).getD 0
  else return s.wordOf b off % 2 ^ 32

/-- What a 32-bit read of an aligned address would give, no shadow changing: the counter's own high word. -/
def State.peekReg (s : State) (a : Nat) : Nat :=
  let (b, off) := placeOf a
  if 4 ≤ off ∧ b.wide (off - 4) then s.wordOf b (off - 4) / 2 ^ 32 else s.wordOf b off % 2 ^ 32

/-! ### Writes by access type (R6, R579) -/

/-- Whether a write would change a CFG field (R579). -/
def State.cfgChanges (s : State) (fs : List FieldSpec) (v : Nat) : List FieldSpec :=
  fs.filter (fun x => x.acc == .cfg && bitsOf v x.fld.lo x.fld.w != s.get x.fld)

/-- A write of `v` to the fields of a register by their access types. A write that changes CFG fields while the block is enabled, to a value
outside the range, or where `bad` holds, is refused: CFG fields keep their values, and the rest of the write takes effect (R579). An RW field takes
a value outside its range too, RCH_SPK_WR.OFFTRACK and SLIP a 0 (R90; DESIGN CHOICE, assumption log 66). -/
def writeFields (fs : List FieldSpec) (enabled bad : Bool) (reject : Act Unit) (v : Nat) : Act Unit := do
  let s ← rd
  let ch := s.cfgChanges fs v
  let new (x : FieldSpec) : Nat := bitsOf v x.fld.lo x.fld.w
  let out : Bool := ch.any (fun x => decide (new x < x.min) || decide (x.max < new x))
  let refused : Bool := !ch.isEmpty && (enabled || bad || out)
  if refused then reject else forAll ch (fun x => setF x.fld (new x))
  forAll fs (fun x =>
    match x.acc with
    | .rw => setF x.fld (new x)
    | .w1c => do
      let old ← getF x.fld
      setF x.fld (old &&& (2 ^ x.fld.w - 1 - new x))
    | .wm => do
      let old ← getF x.fld
      let mask := bitsOf v (16 + x.fld.lo) x.fld.w
      setF x.fld ((old &&& (2 ^ x.fld.w - 1 - mask)) ||| (new x &&& mask))
    | .ro | .cfg => pure ())

/-- BAY_CFG_REJECT: a CFG write refused in a BAY, MOT or STP window (R537), as SUBCODE 3 of its index. -/
abbrev subCFG : Nat := 3

/-- The refusal of a CFG write: its block's CFG_REJECT flag, and its event. -/
def Block.reject (b : Block) : Act Unit :=
  match b with
  | .cch => cchReject
  | .drm => do
    setF F.DRM_STAT_CFG_REJECT 1
    raise Ev.DRM_CFG_REJECT
  | .flz => do
    setF F.FLZ_STAT_CFG_REJECT 1
    raise Ev.FLZ_CFG_REJECT
  | .host f => hostReject f
  | .slot e j => slotReject e j
  | .motor k => do
    setF (F.MOT_STAT_CFG_REJECT k.val) 1
    raiseMotor k Ev.iCMD_REJECT subCFG
  | .axis a => do
    setF (F.STP_STAT_CFG_REJECT a.val) 1
    raiseAxis a Ev.iCMD_REJECT subCFG
  | .rfInput i => inputReject i
  | .rch k => inputReject (Fin.ofNat 32 (4 * k.val + 1))
  | .lane n => laneReject n
  | .ldp => do
    setF F.LDP_STAT_CFG_REJECT 1
    raise (Ev.ldp 6)
  | .wrp k => do
    setF (F.WRP_STAT_CFG_REJECT k.val) 1
    raiseWrp wrpCFG_REJECT k
  | .cal => do
    setF F.CAL_STAT_CFG_REJECT 1
    raise Ev.CAL_CFG_REJECT
  | .opt k => do
    setF (F.BAY_OPT_STAT_CFG_REJECT k.val) 1
    raiseOpu k Ev.iCMD_REJECT subCFG
  | _ => pure ()

/-- The field that stands for BLK_CTL.ENABLE (R532); a drain of the cache refuses CFG writes too (R467). -/
def State.blockEnabled (s : State) : Block → Bool
  | .cch => s.get F.CCH_CTL_ENABLE == 1 || s.get F.CCH_STAT_DRAINING == 1
  | .drm => s.get F.DRM_CTL_ENABLE == 1
  | .flz => s.get F.FLZ_CTL_ENABLE == 1
  | .host f => s.get (F.HST_FN_CTL_ENABLE f.val) == 1
  | .slot e j => s.get (F.SRV_SLOT_CTL_ENABLE e.val j) == 1
  | .motor k => s.get (F.MOT_CTL_ENABLE k.val) == 1
  | .axis a => s.get (F.STP_CTL_ENABLE a.val) == 1
  | .rfInput i => s.get (F.RCH_IN_CTL_ENABLE i.val) == 1
  | .rch k => (List.range 4).any (fun n => s.get (F.RCH_IN_CTL_ENABLE (4 * k.val + n)) == 1)
  | .lane n => s.get (F.RCH_LANE_BIND_ENABLE n.val) == 1
  | .ldp => s.get F.LDP_CTL_ENABLE == 1
  | .wrp k => s.get (F.WRP_CTL_ENABLE k.val) == 1
  | .cal => s.get F.CAL_CTL_ENABLE == 1
  | .opt k => s.get (F.BAY_OPT_CTL_ENABLE k.val) == 1
  | _ => false

/-- Further reasons to refuse CFG values: a reserved region source (R103), a strength off the steps of 32 or while blocks of another strength
are left, a refresh threshold above it (R486, R504). -/
def State.badCfg (s : State) (b : Block) (off v : Nat) : Bool :=
  match b, off with
  | .slot _ _, 0x18 => (List.range 6).any (fun m => decide (21 < bitsOf v (5 * m) 5))
  | .flz, 0x100 =>
    let t := bitsOf v 0 10
    t % 32 != 0 || decide (t < bitsOf v 16 10) || (t != s.get F.FLZ_ECC_CTL_T && !s.oldBlocks.isEmpty)
  | _, _ => false

/-- A write by access types alone. -/
def plainWrite (b : Block) (off v : Nat) : Act Unit := do
  let s ← rd
  writeFields (b.fields off) (s.blockEnabled b) (s.badCfg b off v) b.reject v

/-- The calibration runs that would set a field of a register: a write by any master ends them (R270). -/
def calSets (b : Block) (off : Nat) (r : CalRun) : Bool :=
  match b with
  | .slot e j => decide (0x40 ≤ off) && calLoops e j r
  | .opt k =>
    (r.kind == 4 && decide (0x40 ≤ off) && decide (off < 0x60) && r.elem == 8 * k.val + (off - 0x40) / 4) ||
    (r.kind == 5 && decide (0x60 ≤ off) && decide (off < 0x80) && r.elem == 8 * k.val + (off - 0x60) / 4)
  | .rch k => r.kind == 6 && decide (0xA10 ≤ off) && decide (off < 0xA20) && calOpu r.elem == k
  | .wrp k =>
    (r.kind == 9 && off == 0x14 && calOpu r.elem == k) ||
    (decide (0x100 ≤ off) && decide (off < 0x180) && r.elem == 8 * k.val + (off - 0x100) / 0x10 &&
      (if off % 0x10 < 8 then r.kind == 7 || r.kind == 10 else r.kind == 8))
  | _ => false

/-! ### Writes that act (R31, R95, R112, R124, R164, R184, R189, R205, R245, R256, R311, R426, R453, R462, R464, R559) -/

/-- A write to the FLZ window: a write that sets ENABLE while CRIT < LOW < HIGH does not hold is refused, and an enable brings T and
SPARE_PCT into force (R302, R311, R486). -/
def writeFlz (off v : Nat) : Act Unit := do
  let s ← rd
  if off = 0 then
    let was := s.get F.FLZ_CTL_ENABLE
    writeFields ((flzFields 0).filter (fun x => x.acc == .cfg)) (was == 1) false (Block.reject .flz) v
    if bitAt v 0 = false then setF F.FLZ_CTL_ENABLE 0
    else if was = 0 then
      let crit := s.get F.FLZ_GC_CTL_CRIT
      let low := s.get F.FLZ_GC_THR_LOW
      if crit < low ∧ low < s.get F.FLZ_GC_THR_HIGH then
        setF F.FLZ_CTL_ENABLE 1
        applyStrength
        applySpares
        settleZone
      else Block.reject .flz
  else plainWrite .flz off v

/-- A write to the DRM window: delay registers are CFG in configuration L and RO otherwise (R483). -/
def writeDrm (off v : Nat) : Act Unit := do
  if 0x1000 ≤ off ∧ (← getF F.DRM_STAT_CONFIG) ≠ 3 then pure () else plainWrite .drm off v

/-- A write to the EVT window: VEC0_MIN ignores 0, and a change of a mask or a threshold may change what is signalled (R540, R543). -/
def writeEvt (off v : Nat) : Act Unit := do
  let fs := (evtFields off).filter (fun x => !(decide (off < 0x50) && x.fld.lo == 0 && bitsOf v 0 3 == 0))
  writeFields fs false false (pure ()) v
  attend none

/-- A write to the CCH window (R462, R464). -/
def writeCch (off v : Nat) : Act Unit :=
  match off with
  | 0x0 => writeCchCtl (bitAt v 0)
  | 0x10 => if bitsOf v 0 2 = 1 ∨ bitsOf v 0 2 = 2 then startOp (bitsOf v 0 2) else pure ()
  | _ => plainWrite .cch off v

/-- A write to the registers of a function (R425, R426, R429). -/
def writeHost (f : Fin 4) (off v : Nat) : Act Unit :=
  if off = 4 then writeFnCtl f (bitAt v 0) else plainWrite (.host f) off v

/-- A write to the LIF window (R559, R561). -/
def writeLif (off v : Nat) : Act Unit := do
  plainWrite .lif off v
  if off = 0 ∧ bitAt v 3 then clearTamper

/-- A write to the registers of a servo slot (R95, R99, R106, R114). -/
def writeSlot (e : Fin 2) (j off v : Nat) : Act Unit :=
  match off with
  | 0x0 => writeSlotCtl e j v
  | 0x10 => writeLimit e j true v
  | 0x14 => writeLimit e j false v
  | 0x28 => do
    if bitAt v 0 then setF (F.SRV_SLOT_STAT_CFG_REJECT e.val j) 0
    if bitAt v 2 then clearFault e j
  | _ => plainWrite (.slot e j) off v

/-- A write to the registers of a trace buffer (R112). -/
def writeTrace (e : Fin 2) (k : Fin 8) (off v : Nat) : Act Unit := do
  let st ← getF (F.SRV_TRC_STAT_STATE e.val k.val)
  match off with
  | 0x0 => writeTraceCtl e k v
  | 0xC => if st = 1 ∨ st = 2 then traceReject e k else plainWrite (.trace e k) off v
  | _ => plainWrite (.trace e k) off v

/-- The next of the values that the outside world determines, or a free value of `w` bits where none is given. -/
def envValue (env : List Int) (w : Nat) : Act Int := do
  match env with
  | x :: _ => return x
  | [] =>
    let v ← freeValue w
    return (v : Int)

/-- Whether the drives take a command in the present mode: one that brings something to rest while they are live, any other one where they may be
started (R29, R42, R47). -/
def State.takes (s : State) (rests : Bool) : Bool := if rests then s.drivesLive else s.drivesTake

/-- A write to the registers of a motor: CTL, its command, and INDEX_OFS, whose write sets OFS_VALID (R157, R164, R165). `env` holds the
shunt samples of an enable. -/
def writeMotor (k : Fin 8) (off v : Nat) (env : List Int) : Act Unit := do
  let s ← rd
  let was := s.get (F.MOT_CTL_ENABLE k.val)
  match off with
  | 0x0 =>
    let cfg := (motFields k.val 0).filter (fun x => x.acc == .cfg && !(decide (k.val < 4) && x.fld.lo == 1))
    writeFields cfg (was == 1) false (Block.reject (.motor k)) v
    if bitsOf v 0 1 ≠ was then
      let x ← envValue env 14
      writeMotEnable k (bitAt v 0) (if env.isEmpty then [x] else env)
  | 0x4 =>
    setF (F.MOT_CMD_CLASS k.val) (bitsOf v 4 2)
    setF (F.MOT_CMD_TARGET k.val) (bitsOf v 8 24)
    let cmd := bitsOf v 0 4
    if s.takes (cmd == 2 || cmd == 3) then writeMotCmd k cmd (bitsOf v 4 2) (toSigned 24 (bitsOf v 8 24))
  | 0x1C =>
    plainWrite (.motor k) off v
    if (s.cfgChanges (motFields k.val 0x1C) v).isEmpty ∨ was = 0 then setF (F.MOT_WIRING_OFS_VALID k.val) 1
  | _ => plainWrite (.motor k) off v

/-- A write to the registers of a step axis (R184). -/
def writeAxis (a : Fin 16) (off v : Nat) : Act Unit :=
  if off = 4 then do
    setF (F.STP_CMD_BLEND a.val) (bitsOf v 3 1)
    let cmd := bitsOf v 0 3
    if (← rd).takes (cmd == 3 || cmd == 5) then writeStpCmd a cmd (bitAt v 3)
  else plainWrite (.axis a) off v

/-- A write to the registers of an RF input (R189, R212). -/
def writeRfInput (i : Fin 32) (off v : Nat) : Act Unit :=
  if off = 0 then writeInput i 0 v
  else if off = 8 then writeInput i 1 v
  else if off = 0xC then writeInput i 2 v
  else if 0x40 ≤ off then writeInput i (3 + (off - 0x40) / 4) v
  else plainWrite (.rfInput i) off v

/-- A write to the decoder pool: a field of LDP_LADDER whose value lies outside its range is ignored, with the event of a refused CFG write (R238). -/
def writeLdp (off v : Nat) : Act Unit := do
  if off = 4 then
    let bad (x : FieldSpec) : Bool := decide (bitsOf v x.fld.lo x.fld.w < x.min) || decide (x.max < bitsOf v x.fld.lo x.fld.w)
    forAll (ldpFields 4) (fun x => if bad x then pure () else setF x.fld (bitsOf v x.fld.lo x.fld.w))
    if (ldpFields 4).any bad then Block.reject .ldp
  else plainWrite .ldp off v

/-- A write to the registers of a write path: TRAIN trains the link, RAW_BURST lets the gate open again, and a write in progress stops where the gate is to be closed (R245,
R256, R260, R264, R265). -/
def writeWrp (k : Fin 8) (off v : Nat) : Act Unit := do
  plainWrite (.wrp k) off (if off = 8 then v - v % 2 else v)
  let s ← rd
  if off = 4 ∧ bitAt v 3 then setF (F.WRP_STAT_WR_DISABLED k.val) (s.get (F.WRP_WSL_STAT_RESULT k.val) == 3).toNat
  if off = 0x14 then emit (.cal fun c => { c with timing := c.timing.set k none })
  if off = 0 ∧ s.writerReady k = false ∧ s.writers[k].underWay then stopWriteNow k
  if off = 8 ∧ bitAt v 0 ∧ s.drivesTake then
    if s.writers[k].busy then Block.reject (.wrp k)
    else trainLink k

/-- A write to the optical registers of an OPU (R124, R140). -/
def writeOpt (k : Fin 8) (off v : Nat) : Act Unit :=
  if off = 0 then do
    let cmd := bitsOf v 0 4
    if (← rd).takes (cmd == 5) then writeOptCmd k cmd (bitsOf v 4 3) (bitsOf v 18 8) (bitAt v 7) (bitsOf v 8 10)
  else plainWrite (.opt k) off v

/-- Whether an offset of the SEQ window lies in the tables that the LOAD step alone writes (R453). -/
def secureOnly (off : Nat) : Bool := decide (0x400 ≤ off) && decide (off < 0x1400)

/-- A 32-bit write to a register. -/
def writeBlock (m : Master) (b : Block) (off v : Nat) (env : List Int) : Act Unit := do
  abortCal (calSets b off)
  match b with
  | .dev => if off = 0x104 then writeModeReq m (bitsOf v 0 4) else pure ()
  | .evt => writeEvt off v
  | .seq =>
    if secureOnly off then
      raise Ev.SEQ_WRITE_IGNORED
      raise Ev.SEC_WRITE_IGNORED
      regAccessFault 4 2 (F.seqBase + off) (masterCode m)
  | .cch => writeCch off v
  | .drm => writeDrm off v
  | .flz => writeFlz off v
  | .host f => writeHost f off v
  | .lif => writeLif off v
  | .gain e j g w => writeGain e j g w v
  | .slot e j => writeSlot e j off v
  | .trace e k => writeTrace e k off v
  | .motor k => writeMotor k off v env
  | .axis a => writeAxis a off v
  | .rfInput i => writeRfInput i off v
  | .lane n => if off = 0 then writeBind n v else plainWrite (.lane n) off v
  | .wrp k => writeWrp k off v
  | .ldp => writeLdp off v
  | .opt k => writeOpt k off v
  | .rch k =>
    plainWrite b off v
    if 0xA10 ≤ off ∧ off < 0xA20 then emit (.cal fun c => { c with kappaDue := c.kappaDue.set k false })
  | .cal => plainWrite b off v
  | .sec | .section_ _ _ _ _ | .engine _ | .pool | .bay _ | .traceRam _ _ _ | .nowhere => pure ()

/-- A 32-bit write to an aligned address of the parameter space. -/
def writeReg (m : Master) (a v : Nat) (env : List Int) : Act Unit := do
  let p := placeOf a
  if !(p.1.fields p.2).isEmpty then writeBlock m p.1 p.2 v env

/-! ### Writes that are ignored or rejected (R409) -/

/-- The events that a rejected write raises. -/
def rejectEvents : List Nat :=
  [Ev.MODE_REQ_REJECT, Ev.SEC_WRITE_IGNORED, Ev.CCH_OP_REJECT, Ev.CCH_CFG_REJECT, Ev.DRM_CFG_REJECT, Ev.FLZ_CFG_REJECT,
   Ev.port 0 hCFG_REJECT, Ev.port 1 hCFG_REJECT, Ev.rf rfCFG_REJECT, Ev.rf rfLANE_CFG_REJECT, Ev.ldp 6, Ev.wrp wrpCFG_REJECT,
   Ev.CAL_CFG_REJECT] ++
  [0, 1, 2, 3].flatMap (fun b => [Ev.bay b Ev.iSERVO_REJECT, Ev.bay b Ev.iCMD_REJECT])

/-- How often writes have been rejected. -/
def State.rejections (s : State) : Nat := (rejectEvents.map (fun n => s.get (F.EVT_COUNT_CNT n))).sum

/-- Whether a write to an address can have no effect: it holds no register, or only fields that are RO; delay registers but in L. -/
def State.writeIgnored (s : State) (a : Nat) : Bool :=
  let p := placeOf a
  let fs := p.1.fields p.2
  fs.all (fun x => x.acc == .ro) || (p.1 == .drm && decide (0x1000 ≤ p.2) && s.get F.DRM_STAT_CONFIG != 3)

/-! ### BAR0 (R424, R430) -/

/-- A write of the MSI-X table: message address and data, and the mask bit of the vector control word. -/
def writeMsix (f : Fin 4) (v word val : Nat) : Act Unit := do
  let s ← rd
  let old := (s.fns[f].table.lookup v).getD (0, 0)
  let put (a d : Nat) : Act Unit := emit (.fn f fun h => { h with table := (v, a, d) :: h.table.filter (fun x => x.1 != v) })
  match word with
  | 0 => put (old.1 / 2 ^ 32 * 2 ^ 32 + val) old.2
  | 1 => put (old.1 % 2 ^ 32 + val * 2 ^ 32) old.2
  | 2 => put old.1 val
  | _ =>
    if bitAt val 0 then emit (.fn f fun h => { h with masked := if h.masked.contains v then h.masked else v :: h.masked })
    else
      emit (.fn f fun h => { h with masked := h.masked.filter (· != v) })
      sendPending f

/-- A 32-bit write to an aligned offset of a function's BAR0. -/
def writeBar (f : Fin 4) (a v : Nat) (env : List Int) : Act Unit :=
  if a < 0x28 then do
    if !(hstFields f.val a).isEmpty then writeBlock (.function f) (.host f) a v env
  else if 0x1000 ≤ a ∧ a < 0x1200 then
    if a % 8 = 0 then ringTail f ((a - 0x1000) / 8) v else ringHead f ((a - 0x1000) / 8) v
  else if 0x2000 ≤ a ∧ a < 0x2410 then writeMsix f ((a - 0x2000) / 16) (a / 4 % 4) v
  else pure ()

/-- The word of the MSI-X table or pending-bit array at an offset of BAR0 (R424, R430). -/
def HostFn.msixWord (h : HostFn) (a : Nat) : Nat :=
  let v := (a - 0x2000) / 16
  let x := (h.table.lookup v).getD (0, 0)
  if 0x3000 ≤ a then ((List.range 32).map (fun n => if h.pending.contains (8 * (a - 0x3000) + n) then 2 ^ n else 0)).sum
  else
    match a / 4 % 4 with
    | 0 => x.1 % 2 ^ 32
    | 1 => x.1 / 2 ^ 32
    | 2 => x.2
    | _ => (h.masked.contains v).toNat

/-- A 32-bit read of an aligned offset of a function's BAR0; doorbells and reserved offsets read as zero. -/
def State.readBar (s : State) (f : Fin 4) (a : Nat) : Nat :=
  if a < 0x28 then s.wordOf (.host f) a
  else if (0x2000 ≤ a ∧ a < 0x2410) ∨ (0x3000 ≤ a ∧ a < 0x3010) then s.fns[f].msixWord a
  else 0

/-! ### SMBus (R436) -/

/-- What the SMBus target makes of a read of a command code (R436). -/
inductive SmbAnswer where
  | byte (v : Nat)
  | word (v : Nat)
  /-- A Block Read. -/
  | block (b : List Byte)
  /-- The address or the command code is not acknowledged. -/
  | unacknowledged
deriving DecidableEq, Repr

/-- The answer to an SMBus read: every mode but OFF and RESET serves the command codes of the table. With no event record in the queue the block
holds zeros (DESIGN CHOICE, assumption log 64). -/
def State.smbRead (s : State) (code : Nat) : SmbAnswer :=
  if s.mode < mBOOT then .unacknowledged
  else
    let sum (n : Nat) (g : Nat → Nat) : Nat := ((List.range n).map g).sum
    match code with
    | 0x00 => .word 0x4180
    | 0x01 => .byte 0xB0
    | 0x02 => .word (s.wordOf .dev 0x100 % 2 ^ 11)
    | 0x03 => .byte (s.get F.DEV_MODE_REQ_TARGET)
    | 0x04 => .word (s.get F.CAL_THERM_TEMP + 2 ^ 8 * s.get F.CAL_THERM_LEVEL)
    | 0x05 => .word ((fnList.map s.attention).foldl max 0 + sum 4 (fun b => if s.bayState b = bFAULTED then 2 ^ (4 + b) else 0) +
        sum 2 (fun p => if s.linkUp (Fin.ofNat 2 p) then 2 ^ (8 + p) else 0))
    | 0x06 => .word (sum 4 (fun b => s.bayState b * 2 ^ (4 * b)))
    | 0x07 => .word (s.wordOf (.host 0) 0x24 % 2 ^ 8 + 2 ^ 8 * (s.wordOf (.host 2) 0x24 % 2 ^ 8))
    | 0x10 => .block ((s.evq.recs.getLast?.map EventRec.bytes).getD (zeroBytes 32))
    | _ => .unacknowledged

/-! ### Accesses in one cycle (R7, R8) -/

/-- The bits of a register that W1C fields hold. -/
def w1cBits (fs : List FieldSpec) : Nat :=
  ((fs.filter (fun x => x.acc == .w1c)).map (fun x => (2 ^ x.fld.w - 1) * 2 ^ x.fld.lo)).sum

/-- A written word with the present value in every CFG field (R579). -/
def State.keepCfg (s : State) (fs : List FieldSpec) (v : Nat) : Nat :=
  (fs.filter (fun x => x.acc == .cfg)).foldl
    (fun v x => v - bitsOf v x.fld.lo x.fld.w * 2 ^ x.fld.lo + s.get x.fld % 2 ^ x.fld.w * 2 ^ x.fld.lo) v

/-- A write of `v` with what falls into its cycle: an ENABLE set in it refuses the CFG fields that the write would change (R8), and the W1C bits
that the part sets in it end set (R7). -/
def sameCycle (b : Block) (off v : Nat) (same : SameCycle) (write : Nat → Act Unit) : Act Unit := do
  let s ← rd
  let fs := b.fields off
  let held := same.sets &&& w1cBits fs
  let early : Bool := same.enables && !(s.cfgChanges fs v).isEmpty
  if early then b.reject
  let u := if early then s.keepCfg fs v else v
  write (u - (u &&& held))
  forAll (fs.filter (fun x => x.acc == .w1c)) (fun x => do
    if bitsOf held x.fld.lo x.fld.w ≠ 0 then setF x.fld ((← getF x.fld) ||| bitsOf held x.fld.lo x.fld.w))

/-- A register access by a master, to the parameter space or to a function's own BAR0 (R5, R6, R11, R409, R424, R579). One of the wrong width or
alignment reads as zero, is ignored for writing, and raises REG_ACCESS_FAULT. -/
def execRegisterWrite (m : Master) (bar : Option (Fin 4)) (addr size : Nat) (op : RegOp) (env : List Int) (s : State) : Answer :=
  answer (do
    let bad : Bool := size != 4 || addr % 4 != 0
    let reads (v : Nat) : Act Unit := emit (.out (.register (masterCode m) addr v))
    match bar with
    | none =>
      if s.mayWrite m ∧ addr < 2 ^ 24 then
        match op with
        | .read =>
          if bad then
            reads 0
            regAccessFault (faultGroup addr) 0 addr (masterCode m)
          else
            let v ← readReg m addr
            reads v
        | .write v same =>
          if bad then regAccessFault (faultGroup addr) 0 addr (masterCode m)
          else sameCycle (placeOf addr).1 (placeOf addr).2 v.toNat same (fun u => writeReg m addr u env)
    | some f =>
      if m = .function f ∧ s.linkUp (portOf f) ∧ addr < 0x10000 then
        match op with
        | .read =>
          reads (if bad then 0 else s.readBar f addr)
          if bad then regAccessFault (2 + (portOf f).val) 0 addr (masterCode m)
        | .write v same =>
          if bad then regAccessFault (2 + (portOf f).val) 0 addr (masterCode m)
          else if addr < 0x28 then sameCycle (.host f) addr v.toNat same (fun u => writeBar f addr u env)
          else writeBar f addr v.toNat env) s

end Sys2Proof.Machine
end

