-- ==== Sys2Proof/Machine/DyntoControl.lean ====
section
/-! DEFINITION. The instructions that access registers and that wait: REG_READ, REG_WRITE (R409) and WAIT (R362, R418). -/

namespace Sys2Proof.Machine

/-! ### REG_READ and REG_WRITE (R409) -/

/-- The fields of the address that fail: not a multiple of 4, a range past 0xFF_FFFF, unused bits that are not zero. -/
def Inst.addrFails (i : Inst) : List Nat :=
  (if i.lsa % 4 ≠ 0 ∨ 2 ^ 24 < i.lsa % 2 ^ 32 + 4 * i.count then [8] else []) ++ (if 2 ^ 32 ≤ i.lsa then [12] else [])

/-- Consecutive registers read in ascending address. -/
def readRegs (m : Master) : Nat → Nat → Act (List Byte)
  | _, 0 => return []
  | a, n + 1 => do
    let v ← readReg m a
    let l ← readRegs m (a + 4) n
    return leBytes 4 v ++ l

/-- REG_READ (R9, R409): each register is read once, by the Admin function that issued it. -/
def execRegRead (id : Nat) (mem : HostMem) (s : State) : Answer :=
  answer (perform id opREGR (fun _ i =>
    [ i.checkFields { lsa := true, count := some (1, 256), buffer := true } i.addrFails mem, i.checkBuffer (4 * i.count) mem, checkDma mem ]) (fun i => do
    if mem.lost then lostWord i
    else
      let b ← readRegs (.function i.fn) i.lsa i.count
      writeBuffer id b
      complete id cSUCCESS 0)) s

/-- Consecutive registers written in ascending address, and the number of writes that were ignored or rejected. `env` serves every write
that needs a value from outside. -/
def writeRegs (m : Master) (env : List Int) : Nat → List Nat → Act Nat
  | _, [] => return 0
  | a, v :: l => do
    let s ← rd
    let skip := s.writeIgnored a
    writeReg m a v env
    let t ← rd
    let n ← writeRegs m env (a + 4) l
    return n + (if skip ∨ s.rejections < t.rejections then 1 else 0)

/-- REG_WRITE (R409): the values of its buffer, in ascending address. -/
def execRegWrite (id : Nat) (mem : HostMem) (values : List Word) (env : List Int) (s : State) : Answer :=
  answer (perform id opREGW (fun _ i =>
    [ i.checkFields { lsa := true, count := some (1, 256), buffer := true } i.addrFails mem, i.checkBuffer (4 * i.count) mem, checkDma mem ]) (fun i => do
    if mem.lost then lostWord i
    else
      let l := (List.range i.count).map (fun k => (values.getD k 0).toNat)
      let n ← writeRegs (.function i.fn) env i.lsa l
      complete id cSUCCESS n)) s

/-! ### WAIT (R362, R418) -/

def Inst.waitKind (i : Inst) : Nat := bitsOf i.operand 0 3
def Inst.waitIndex (i : Inst) : Nat := bitsOf i.operand 8 6
def Inst.waitAddr (i : Inst) : Nat := i.bytesAt 36 4
def Inst.waitMask (i : Inst) : Nat := i.bytesAt 40 4
def Inst.waitValue (i : Inst) : Nat := i.bytesAt 44 4

/-- What a WAIT keeps from its start: the count of its event, or the instructions fetched from its ring before. -/
def State.waitStart (s : State) (i : Inst) : List Nat :=
  match i.waitKind with
  | 1 => [s.get (F.EVT_COUNT_CNT (i.waitAddr % 512))]
  | 3 => (s.insts.filter (fun j => j.fn == i.fn && j.sq == i.waitIndex && j.id != i.id)).map Inst.id
  | _ => []

/-- Whether the condition of a WAIT holds (R418). A count that has stopped at its maximum shows no further raise, and does not end it. -/
def State.waitHolds (s : State) (i : Inst) : Bool :=
  match i.waitKind with
  | 1 => i.data != [s.get (F.EVT_COUNT_CNT (i.waitAddr % 512))]
  | 2 => (if i.waitAddr < 2 ^ 24 ∧ i.waitAddr % 4 = 0 then s.peekReg i.waitAddr else 0) &&& i.waitMask == i.waitValue
  | 3 => !s.insts.any (fun j => i.data.contains j.id)
  | 4 => s.bayState i.waitIndex == i.waitValue % 8
  | 5 => s.mode == i.waitValue % 16
  | _ => false

/-- WAIT (R418): it starts, and holds its chain. -/
def execWait (id : Nat) (s : State) : Answer :=
  answer (perform id opWAIT (fun s i =>
    let kind := i.waitKind
    [ if (kind = 2 ∨ kind = 4 ∨ kind = 5) ∧ isAdmin i.fn = false then some (cNOT_PRIVILEGED, 0) else none,
      i.checkFields { count := some (1, 2 ^ 32 - 1), operand := 0x3F07, rest := some (36, 12) }
        (if 6 ≤ kind ∨ (kind = 4 ∧ 3 < i.waitIndex) then [20] else []) {},
      if kind = 3 ∧ (s.fns[i.fn].sq i.waitIndex).isNone then some (cINVALID_RING, 0) else none ]) (fun _ =>
    holdInst id (fun i => { i with startedAt := s.now, data := s.waitStart i }))) s

/-- The WAIT of this number that holds its chain. -/
def State.waiting (s : State) (id : Nat) : Option Inst :=
  match s.inst id with
  | some i => if i.stage = .waiting ∧ i.opcode = opWAIT then some i else none
  | none => none

/-- WAIT_CONDITION_MET (R418): its condition is found to hold. -/
def execWaitConditionMet (id : Nat) (s : State) : Answer :=
  answer (do
    match s.waiting id with
    | none => pure ()
    | some i =>
      if s.waitHolds i then
        complete id cSUCCESS 0
        settle) s

/-- WAIT_TIMEOUT (R418): COUNT ms have passed; with KIND 0 that is its success. -/
def execWaitTimeout (id : Nat) (s : State) : Answer :=
  answer (do
    match s.waiting id with
    | none => pure ()
    | some i =>
      complete id (if i.waitKind = 0 then cSUCCESS else cWAIT_TIMEOUT) 0
      settle) s

end Sys2Proof.Machine
end

