-- ==== Sys2Proof/Machine/Dispatch.lean ====
section
/-! DEFINITION. One arm for each command: its meaning, or its refusal by name. -/

namespace Sys2Proof.Machine

def exec (i : Instr) (s : State) : Host.Outcome State Fault Refusal :=
  match i with
  | .suppliesWithinLimits => Sys2Proof.Machine.execSuppliesWithinLimits s
  | .suppliesRemoved => Sys2Proof.Machine.execSuppliesRemoved s
  | .railBrownOut => Sys2Proof.Machine.execRailBrownOut s
  | .junctionOver120 => Sys2Proof.Machine.execJunctionOver120 s
  | .resetNAsserted => Sys2Proof.Machine.execResetNAsserted s
  | .resetNReleased reference locked straps => Sys2Proof.Machine.execResetNReleased reference locked straps s
  | .bootStepEnd r => Sys2Proof.Machine.execBootStepEnd r s
  | .bootStepTimeLimit => Sys2Proof.Machine.execBootStepTimeLimit s
  | .bootWatchdog => Sys2Proof.Machine.execBootWatchdog s
  | .slathLockLost => Sys2Proof.Machine.execSlathLockLost s
  | .slathRelocked => Sys2Proof.Machine.execSlathRelocked s
  | .oscTrim trim => Sys2Proof.Machine.execOscTrim trim s
  | .thermalShutdown => Sys2Proof.Machine.execThermalShutdown s
  | .devModeReqWrite m target => Sys2Proof.Machine.execDevModeReqWrite m target s
  | .smbModeReqWrite target => Sys2Proof.Machine.execSmbModeReqWrite target s
  | .modeTransitionEnd => Sys2Proof.Machine.execModeTransitionEnd s
  | .idleDelayExpired => Sys2Proof.Machine.execIdleDelayExpired s
  | .bayNeeded b => Sys2Proof.Machine.execBayNeeded b s
  | .pwrFailNAsserted => Sys2Proof.Machine.execPwrFailNAsserted s
  | .pwrFailNDeasserted => Sys2Proof.Machine.execPwrFailNDeasserted s
  | .drainComplete => Sys2Proof.Machine.execDrainComplete s
  | .drainSpinTimeout b => Sys2Proof.Machine.execDrainSpinTimeout b s
  | .drainDeadline => Sys2Proof.Machine.execDrainDeadline s
  | .l2HandshakeTimeout p => Sys2Proof.Machine.execL2HandshakeTimeout p s
  | .spokeReceived k x => Sys2Proof.Machine.execSpokeReceived k x s
  | .trackLostCount k => Sys2Proof.Machine.execTrackLostCount k s
  | .landingTimeout a => Sys2Proof.Machine.execLandingTimeout a s
  | .servoFrame e x => Sys2Proof.Machine.execServoFrame e x s
  | .engineFaultHoldEnd e => Sys2Proof.Machine.execEngineFaultHoldEnd e s
  | .srvSlotCtlWrite m e j v => Sys2Proof.Machine.execSrvSlotCtlWrite m e j v s
  | .gainSetWrite m e j g w v => Sys2Proof.Machine.execGainSetWrite m e j g w v s
  | .slotLimitWrite m e j high v => Sys2Proof.Machine.execSlotLimitWrite m e j high v s
  | .feFaultClear m e j => Sys2Proof.Machine.execFeFaultClear m e j s
  | .srvTrcCtlWrite m e k v => Sys2Proof.Machine.execSrvTrcCtlWrite m e k v s
  | .optAcquire k layer atSpoke spoke => Sys2Proof.Machine.execOptAcquire k layer atSpoke spoke s
  | .optLayerJump k layer atSpoke spoke => Sys2Proof.Machine.execOptLayerJump k layer atSpoke spoke s
  | .optPullIn k atSpoke spoke => Sys2Proof.Machine.execOptPullIn k atSpoke spoke s
  | .optJump k dist atSpoke spoke => Sys2Proof.Machine.execOptJump k dist atSpoke spoke s
  | .optRetract k => Sys2Proof.Machine.execOptRetract k s
  | .focusReacquire k => Sys2Proof.Machine.execFocusReacquire k s
  | .layerHopTimeout k => Sys2Proof.Machine.execLayerHopTimeout k s
  | .pullInTimeout k => Sys2Proof.Machine.execPullInTimeout k s
  | .laserTripClear m k => Sys2Proof.Machine.execLaserTripClear m k s
  | .actSenseSample k a sensed => Sys2Proof.Machine.execActSenseSample k a sensed s
  | .motRun k cls => Sys2Proof.Machine.execMotRun k cls s
  | .motStop k => Sys2Proof.Machine.execMotStop k s
  | .motCoast k => Sys2Proof.Machine.execMotCoast k s
  | .motMove k target => Sys2Proof.Machine.execMotMove k target s
  | .motCheck k => Sys2Proof.Machine.execMotCheck k s
  | .motEnableWrite m k on samples => Sys2Proof.Machine.execMotEnableWrite m k on samples s
  | .pwmPeriod k x => Sys2Proof.Machine.execPwmPeriod k x s
  | .motPhaseShort k => Sys2Proof.Machine.execMotPhaseShort k s
  | .catchWindowEnd k => Sys2Proof.Machine.execCatchWindowEnd k s
  | .holdZeroEnd k => Sys2Proof.Machine.execHoldZeroEnd k s
  | .reverseBrakeTimeout k => Sys2Proof.Machine.execReverseBrakeTimeout k s
  | .wiringStepEnd k x => Sys2Proof.Machine.execWiringStepEnd k x s
  | .encoderIndex k => Sys2Proof.Machine.execEncoderIndex k s
  | .indexMissing k => Sys2Proof.Machine.execIndexMissing k s
  | .resyncTimeout k => Sys2Proof.Machine.execResyncTimeout k s
  | .spindleEncoderEvent k speed => Sys2Proof.Machine.execSpindleEncoderEvent k speed s
  | .spindleTimedEvent k speed => Sys2Proof.Machine.execSpindleTimedEvent k speed s
  | .stpMove a target blend => Sys2Proof.Machine.execStpMove a target blend s
  | .stpMovePair b top bottom blend => Sys2Proof.Machine.execStpMovePair b top bottom blend s
  | .stpPause a => Sys2Proof.Machine.execStpPause a s
  | .stpResume a => Sys2Proof.Machine.execStpResume a s
  | .stpStop a => Sys2Proof.Machine.execStpStop a s
  | .stpHome a => Sys2Proof.Machine.execStpHome a s
  | .stepLimit a => Sys2Proof.Machine.execStepLimit a s
  | .moveEnd a => Sys2Proof.Machine.execMoveEnd a s
  | .settleExpiry a => Sys2Proof.Machine.execSettleExpiry a s
  | .stepDrvFault a => Sys2Proof.Machine.execStepDrvFault a s
  | .baySensorSample b x => Sys2Proof.Machine.execBaySensorSample b x s
  | .sectorFrame n x => Sys2Proof.Machine.execSectorFrame n x s
  | .noSignalCheck inp span => Sys2Proof.Machine.execNoSignalCheck inp span s
  | .rchInputConfigWrite m inp reg v => Sys2Proof.Machine.execRchInputConfigWrite m inp reg v s
  | .heldInputChangeApply inp => Sys2Proof.Machine.execHeldInputChangeApply inp s
  | .laneBindWrite m n v => Sys2Proof.Machine.execLaneBindWrite m n v s
  | .laneMemoryError n => Sys2Proof.Machine.execLaneMemoryError n s
  | .captureStart k triple => Sys2Proof.Machine.execCaptureStart k triple s
  | .decodeIterationDone k track sector => Sys2Proof.Machine.execDecodeIterationDone k track sector s
  | .decoderFault outer j => Sys2Proof.Machine.execDecoderFault outer j s
  | .rungDone k track sector => Sys2Proof.Machine.execRungDone k track sector s
  | .outerRebuildDone k j track sector => Sys2Proof.Machine.execOuterRebuildDone k j track sector s
  | .wslTrain m k => Sys2Proof.Machine.execWslTrain m k s
  | .trackWriteStart k entry => Sys2Proof.Machine.execTrackWriteStart k entry s
  | .trackWriteEnd k => Sys2Proof.Machine.execTrackWriteEnd k s
  | .rawVerdict k f => Sys2Proof.Machine.execRawVerdict k f s
  | .rawBurstClear m k => Sys2Proof.Machine.execRawBurstClear m k s
  | .writeStopAtBoundary k written => Sys2Proof.Machine.execWriteStopAtBoundary k written s
  | .writeSessionResume b => Sys2Proof.Machine.execWriteSessionResume b s
  | .destageSessionStart vol => Sys2Proof.Machine.execDestageSessionStart vol s
  | .calibrationDue n elem => Sys2Proof.Machine.execCalibrationDue n elem s
  | .calEstimateDone n elem values => Sys2Proof.Machine.execCalEstimateDone n elem values s
  | .speedWindowEnd b => Sys2Proof.Machine.execSpeedWindowEnd b s
  | .thermalSample t => Sys2Proof.Machine.execThermalSample t s
  | .throttleExit t => Sys2Proof.Machine.execThrottleExit t s
  | .flashProgramDone ok took => Sys2Proof.Machine.execFlashProgramDone ok took s
  | .flashEraseDone n failed => Sys2Proof.Machine.execFlashEraseDone n failed s
  | .flashReadDone lblock row pos corrected rebuilt => Sys2Proof.Machine.execFlashReadDone lblock row pos corrected rebuilt s
  | .idleCollectionStart => Sys2Proof.Machine.execIdleCollectionStart s
  | .gatedCompletionPost id => Sys2Proof.Machine.execGatedCompletionPost id s
  | .lunStatusTimeout lun channel => Sys2Proof.Machine.execLunStatusTimeout lun channel s
  | .lunRebuildDone lun => Sys2Proof.Machine.execLunRebuildDone lun s
  | .destageAgeExpiry vol => Sys2Proof.Machine.execDestageAgeExpiry vol s
  | .scrubDue disc => Sys2Proof.Machine.execScrubDue disc s
  | .scrubComplete disc => Sys2Proof.Machine.execScrubComplete disc s
  | .sqDoorbell f ring tail => Sys2Proof.Machine.execSqDoorbell f ring tail s
  | .cqHeadDoorbell f ring head => Sys2Proof.Machine.execCqHeadDoorbell f ring head s
  | .instructionFetch f ring desc ok => Sys2Proof.Machine.execInstructionFetch f ring desc ok s
  | .instructionDispatch id => Sys2Proof.Machine.execInstructionDispatch id s
  | .completionPost f cq ok => Sys2Proof.Machine.execCompletionPost f cq ok s
  | .nop id => Sys2Proof.Machine.execNop id s
  | .write id mem data => Sys2Proof.Machine.execWrite id mem data s
  | .read id mem => Sys2Proof.Machine.execRead id mem s
  | .verify id => Sys2Proof.Machine.execVerify id s
  | .flush id => Sys2Proof.Machine.execFlush id s
  | .openStrand id => Sys2Proof.Machine.execOpenStrand id s
  | .openStrandAdopt id => Sys2Proof.Machine.execOpenStrandAdopt id s
  | .closeStrand id mem => Sys2Proof.Machine.execCloseStrand id mem s
  | .sealStrand id mem => Sys2Proof.Machine.execSealStrand id mem s
  | .queryStrand id mem => Sys2Proof.Machine.execQueryStrand id mem s
  | .createVolume id => Sys2Proof.Machine.execCreateVolume id s
  | .deleteVolume id => Sys2Proof.Machine.execDeleteVolume id s
  | .queryVolume id mem => Sys2Proof.Machine.execQueryVolume id mem s
  | .retireRange id => Sys2Proof.Machine.execRetireRange id s
  | .mount id mem x => Sys2Proof.Machine.execMount id mem x s
  | .unmount id => Sys2Proof.Machine.execUnmount id s
  | .initDisc id mem written fails => Sys2Proof.Machine.execInitDisc id mem written fails s
  | .scrubDisc id => Sys2Proof.Machine.execScrubDisc id s
  | .compact id => Sys2Proof.Machine.execCompact id s
  | .spin id => Sys2Proof.Machine.execSpin id s
  | .parkBay id => Sys2Proof.Machine.execParkBay id s
  | .getEvents id mem => Sys2Proof.Machine.execGetEvents id mem s
  | .getLog id mem => Sys2Proof.Machine.execGetLog id mem s
  | .setPolicy id mem buf => Sys2Proof.Machine.execSetPolicy id mem buf s
  | .getPolicy id mem => Sys2Proof.Machine.execGetPolicy id mem s
  | .setTime id => Sys2Proof.Machine.execSetTime id s
  | .getTime id mem => Sys2Proof.Machine.execGetTime id mem s
  | .regRead id mem => Sys2Proof.Machine.execRegRead id mem s
  | .regWrite id mem values env => Sys2Proof.Machine.execRegWrite id mem values env s
  | .resetRing id => Sys2Proof.Machine.execResetRing id s
  | .resetStrand id => Sys2Proof.Machine.execResetStrand id s
  | .resetBay id x => Sys2Proof.Machine.execResetBay id x s
  | .resetLane id passes => Sys2Proof.Machine.execResetLane id passes s
  | .resetFlashChannel id luns => Sys2Proof.Machine.execResetFlashChannel id luns s
  | .resetServoLoop id => Sys2Proof.Machine.execResetServoLoop id s
  | .stagePackage id mem pkg programmed => Sys2Proof.Machine.execStagePackage id mem pkg programmed s
  | .activate id => Sys2Proof.Machine.execActivate id s
  | .attestReport id mem => Sys2Proof.Machine.execAttestReport id mem s
  | .attestCertificate id mem => Sys2Proof.Machine.execAttestCertificate id mem s
  | .traceArm id => Sys2Proof.Machine.execTraceArm id s
  | .traceStop id => Sys2Proof.Machine.execTraceStop id s
  | .traceRead id mem parity => Sys2Proof.Machine.execTraceRead id mem parity s
  | .traceTrigger id => Sys2Proof.Machine.execTraceTrigger id s
  | .calibrate id => Sys2Proof.Machine.execCalibrate id s
  | .skipIf id => Sys2Proof.Machine.execSkipIf id s
  | .wait id => Sys2Proof.Machine.execWait id s
  | .waitConditionMet id => Sys2Proof.Machine.execWaitConditionMet id s
  | .waitTimeout id => Sys2Proof.Machine.execWaitTimeout id s
  | .createRing id => Sys2Proof.Machine.execCreateRing id s
  | .deleteRing id => Sys2Proof.Machine.execDeleteRing id s
  | .hstFnCtlWrite m f v => Sys2Proof.Machine.execHstFnCtlWrite m f v s
  | .fatalClear m f => Sys2Proof.Machine.execFatalClear m f s
  | .flr f => Sys2Proof.Machine.execFlr f s
  | .perstNAsserted p => Sys2Proof.Machine.execPerstNAsserted p s
  | .perstNReleased p => Sys2Proof.Machine.execPerstNReleased p s
  | .hstLinkUp p speed width => Sys2Proof.Machine.execHstLinkUp p speed width s
  | .hstLinkDown p => Sys2Proof.Machine.execHstLinkDown p s
  | .pmeTurnOff p => Sys2Proof.Machine.execPmeTurnOff p s
  | .d3hotEntry f => Sys2Proof.Machine.execD3hotEntry f s
  | .d0Return f => Sys2Proof.Machine.execD0Return f s
  | .msixUnmask f v => Sys2Proof.Machine.execMsixUnmask f v s
  | .smbAlertResponse => Sys2Proof.Machine.execSmbAlertResponse s
  | .routineResume ofEvent n q t replies => Sys2Proof.Machine.execRoutineResume ofEvent n q t replies s
  | .eventRoutineDispatch q t => Sys2Proof.Machine.execEventRoutineDispatch q t s
  | .seqFault q kind ofEvent n addr => Sys2Proof.Machine.execSeqFault q kind ofEvent n addr s
  | .seqWatchdog ofEvent n => Sys2Proof.Machine.execSeqWatchdog ofEvent n s
  | .cacheAccess id line write ecc state => Sys2Proof.Machine.execCacheAccess id line write ecc state s
  | .cacheFillReturn bank err => Sys2Proof.Machine.execCacheFillReturn bank err s
  | .victimWritebackDone line => Sys2Proof.Machine.execVictimWritebackDone line s
  | .cchOpClean m => Sys2Proof.Machine.execCchOpClean m s
  | .cchOpCleanInvalidate m => Sys2Proof.Machine.execCchOpCleanInvalidate m s
  | .cchOpDone => Sys2Proof.Machine.execCchOpDone s
  | .cchCtlWrite m v => Sys2Proof.Machine.execCchCtlWrite m v s
  | .cchDrainDone => Sys2Proof.Machine.execCchDrainDone s
  | .dramRefresh c postponed steps => Sys2Proof.Machine.execDramRefresh c postponed steps s
  | .dramTempPoll temps => Sys2Proof.Machine.execDramTempPoll temps s
  | .dramPatrol errors => Sys2Proof.Machine.execDramPatrol errors s
  | .dramRetrain sweeps => Sys2Proof.Machine.execDramRetrain sweeps s
  | .onchipScrub errors => Sys2Proof.Machine.execOnchipScrub errors s
  | .dbgChal key => Sys2Proof.Machine.execDbgChal key s
  | .dbgResp key pub sig => Sys2Proof.Machine.execDbgResp key pub sig s
  | .strandLogAppend => Sys2Proof.Machine.execStrandLogAppend s
  | .lifeRecordSave ok => Sys2Proof.Machine.execLifeRecordSave ok s
  | .opuLifeWrite k => Sys2Proof.Machine.execOpuLifeWrite k s
  | .vbatCheck low => Sys2Proof.Machine.execVbatCheck low s
  | .tamperNAsserted => Sys2Proof.Machine.execTamperNAsserted s
  | .tamperClear m => Sys2Proof.Machine.execTamperClear m s
  | .pinShortDetect n => Sys2Proof.Machine.execPinShortDetect n s
  | .registerWrite m bar addr size op env => Sys2Proof.Machine.execRegisterWrite m bar addr size op env s
  | .brownOutRelease => Sys2Proof.Machine.execBrownOutRelease s
  | .junctionBelow100 => Sys2Proof.Machine.execJunctionBelow100 s
  | .haltUartReport => Sys2Proof.Machine.execHaltUartReport s
  | .aspmL1Entry p => Sys2Proof.Machine.execAspmL1Entry p s

end Sys2Proof.Machine
end

