-- ==== Sys2Proof/Machine/Outputs.lean ====
section
/-! DEFINITION. What the outputs of the part drive (R1, R43, R44): a view of the state, pin group by pin group. -/

namespace Sys2Proof.Machine

/-- The outputs of the table of R43. -/
inductive OutputPin where
  /-- The six PWM gate outputs of a motor. -/
  | gates (k : Fin 8)
  | step (a : Fin 16)
  | dir (a : Fin 16)
  | stepEn (a : Fin 16)
  | laserEnable (k : Fin 8)
  /-- Clock, data and control lanes of a laser link. -/
  | wslLanes (k : Fin 8)
  /-- An actuator DAC of an OPU: focus, tracking, tilt, SA. -/
  | actuator (k : Fin 8) (n : Fin 4)
  | pcieTransmit (p : Fin 2)
  | dramReset
  | flashSelect
  | flashProtect
  | spiSelect
  | okToRemove
  /-- OPU I2C and SMBus. -/
  | twoWire
  | uartTransmit
deriving DecidableEq, Repr

/-- What an output does. -/
inductive OutputLevel where
  | highImpedance
  | unpowered
  | low
  | high
  /-- Driven to the level at which it does nothing: gates off, laser off, step driver disabled. -/
  | inactive
  | active
  | electricalIdle
  /-- DRAM reset asserted, clock enable off. -/
  | resetAsserted
  | released
  /-- An actuator DAC's code; 0 is the code for zero coil current. -/
  | code (c : Int)
  | operating
deriving DecidableEq, Repr

/-- The level of an output that the state alone decides, once the part has started. -/
def State.drivenLevel (s : State) : OutputPin → OutputLevel
  | .gates k => if s.motors[k].gates then .operating else .inactive
  | .step a => if s.axisSteps a then .operating else .low
  | .dir a =>
    if s.mode = mSAFE ∧ s.axes[a].queue.isEmpty then .low
    else if s.axes[a].back = (s.get (F.STP_CTL_DIR_INV a.val) == 1) then .high else .low
  | .stepEn a =>
    if s.get (F.STP_CTL_ENABLE a.val) = 1 ∧ s.get (F.STP_STAT_DRV_FAULT a.val) = 0 ∧ (s.mode ≠ mSAFE ∨ s.axes[a].queue.isEmpty = false) then .active
    else .inactive
  | .laserEnable k => if s.optics[k].laser then .active else .inactive
  | .wslLanes k => if s.mode = mSAFE ∨ s.optics[k].laser = false then .electricalIdle else .operating
  | .actuator k n => .code s.optics[k].dac[n]
  | .pcieTransmit p => if s.get (F.HST_LINK_STAT_SPEED (2 * p.val)) = 0 then .electricalIdle else .operating
  | .okToRemove => if s.get F.DEV_MODE_STAT_OK_TO_REMOVE = 1 then .high else .low
  | .dramReset | .flashSelect | .flashProtect | .spiSelect | .twoWire | .uartTransmit => .operating

/-- Whether the element that an output belongs to is fitted: the part drives no output of one that is not (R565). -/
def State.outputFitted (s : State) : OutputPin → Bool
  | .gates k => bitAt s.nv.bays (k.val % 4)
  | .step a | .dir a | .stepEn a => bitAt s.nv.bays (a.val / 4)
  | .laserEnable k | .wslLanes k | .actuator k _ => bitAt s.nv.opus k.val && bitAt s.nv.bays (k.val / 2)
  | _ => true

/-- The level of an output while the part is in RESET (R43). -/
def OutputPin.inReset : OutputPin → OutputLevel
  | .gates _ | .stepEn _ | .laserEnable _ => .inactive
  | .step _ | .dir _ | .okToRemove | .flashProtect => .low
  | .wslLanes _ | .pcieTransmit _ => .electricalIdle
  | .actuator _ _ => .code 0
  | .dramReset => .resetAsserted
  | .flashSelect | .spiSelect | .uartTransmit => .high
  | .twoWire => .released

/-- The level of an output (R1, R43, R44); a start that has halted keeps the levels of RESET (R507). -/
def State.outputLevel (s : State) (p : OutputPin) : OutputLevel :=
  if s.mode = mOFF then
    match p with
    | .pcieTransmit _ => .unpowered
    | _ => .highImpedance
  else if s.outputFitted p = false then .highImpedance
  else if s.mode = mRESET ∨ s.boot.halted.isSome then p.inReset
  else s.drivenLevel p

end Sys2Proof.Machine
end

