-- ==== Sys2Proof/WellFormed.lean ====
section
/-! DEFINITION. Which commands are well formed: those whose operands can stand for what the outside world determines, by the widths
and ranges that spec/ gives. A register number is bounded by its type. -/

namespace Sys2Proof

/-- The number of values of an estimate of calibration `n`: one for each value that it sets, and for 10 the 16 slopes and U (R271, R272). -/
def calValueCount (n : Nat) : Nat := [1, 1, 1, 2, 2, 2, 6, 2, 24, 1, 17, 1].getD n 1

/-- A two's complement number of `w` bits. -/
def signedIn (w : Nat) (i : Int) : Bool := decide (-(2 ^ (w - 1) : Int) ≤ i) && decide (i < 2 ^ (w - 1))

/-- A track number as a spoke spells it: 18 bits (R82). -/
def trackOk (t : Nat) : Bool := decide (t < 2 ^ 18)

/-- A volume number (R64). -/
def volOk (v : Nat) : Bool := decide (v < 4096)

/-- A logical sector address (R64). -/
def lsaOk (a : Nat) : Bool := decide (a < 2 ^ 48)

/-- LUNs are numbered 0 to 255, and one has at least one page and one block (R281, R282). -/
def LunId.wf (l : LunId) : Bool := decide (l.lun < 256) && decide (0 < l.pagesPerBlock) && decide (0 < l.blocks)

def BootData.wf (d : BootData) : Bool :=
  match d with
  | .none => true
  | .calendar _ _ _ => true
  | .dram config delays => decide (config < 4) && delays.all (fun x => decide (x.1 < 2) && decide (x.2.1 < 2))
  | .flash luns => luns.all LunId.wf
  | .recovery _ => true
  | .tests lanes decoders outers =>
    lanes.all (fun n => decide (n < 36)) && decoders.all (fun n => decide (n < 16)) && outers.all (fun n => decide (n < 4))
  | .bays s => decide (s.length = 4)

/-- A mask of elements and a duration, each of 32 bits (R509). -/
def BootReport.wf (r : BootReport) : Bool := decide (r.fail < 2 ^ 32) && decide (r.duration < 2 ^ 32) && r.data.wf

/-- A host address has 64 bits and a length 32 (R348). -/
def SgEntry.wf (e : SgEntry) : Bool := decide (e.addr < 2 ^ 64) && decide (e.len < 2 ^ 32)

def HostMem.wf (m : HostMem) : Bool := m.sgl.all SgEntry.wf && m.bad.all lsaOk

def SpokeRead.wf (x : SpokeRead) : Bool :=
  (x.fly :: x.cands).all (fun p => (p.burstA ++ p.burstB ++ p.burstC ++ p.burstD).all (signedIn 9))

/-- The inputs are Q1.31 numbers (R94). -/
def AdcInputs.wf (x : AdcInputs) : Bool :=
  [x.a, x.b, x.c, x.d, x.e, x.f, x.g, x.h, x.front, x.temp].all (signedIn 32)

def AdcFrame.wf (x : AdcFrame) : Bool := x.s0.wf && x.s1.wf && x.s2.wf && x.s3.wf

def FrameInputs.wf (x : FrameInputs) : Bool := x.opu0.wf && x.opu1.wf && x.opu2.wf && x.opu3.wf

def PwmSample.wf (x : PwmSample) : Bool := [x.first, x.second, x.counts, x.afterPeak, x.speed, x.obsSpeed].all (signedIn 32)

def WiringStep.wf (x : WiringStep) : Bool := signedIn 32 x.counts

/-- A track has 1,024 intervals, and a code has 8 bits (R52, R187). -/
def IntervalRead.wf (x : IntervalRead) : Bool := decide (x.spoke < 1024) && x.codes.all (signedIn 8)

/-- A track has at most 149 sectors (R51). -/
def FrameRead.wf (x : FrameRead) : Bool :=
  trackOk x.track && decide (x.sector < 149) && volOk x.vol && lsaOk x.lsa && x.parts.all IntervalRead.wf

/-- A line address is PA[36:7] (R456). -/
def DramErr.wf (x : DramErr) : Bool := decide (x.line < 2 ^ 30)

/-- The runs of a sweep lie within ±0.5 UI, in steps of 1/64 UI, and its reference codes fit their field (R472, R483). -/
def LaneSweep.wf (x : LaneSweep) : Bool :=
  (x.reads ++ x.writes).all (fun r => decide (-32 ≤ r.1) && decide (r.1 ≤ r.2) && decide (r.2 ≤ 32)) && decide (x.vref.1 ≤ x.vref.2) &&
  decide (x.vref.2 < 256)

/-- A package fits its slot, and its numbers the fields of the header (R514). -/
def Package.wf (p : Package) : Bool :=
  decide (p.version < 2 ^ 32) && decide (p.secVersion < 2 ^ 32) && decide (p.sections.length ≤ 8) && decide (p.revoke < 16)

/-- Whether a command is well formed. -/
def Instr.wf (i : Instr) : Bool :=
  match i with
  | .suppliesWithinLimits => true
  | .suppliesRemoved => true
  | .railBrownOut => true
  | .junctionOver120 => true
  | .resetNAsserted => true
  | .resetNReleased _ _ _ => true
  | .bootStepEnd r => r.wf
  | .bootStepTimeLimit => true
  | .bootWatchdog => true
  | .slathLockLost => true
  | .slathRelocked => true
  | .oscTrim trim => signedIn 32 trim
  | .thermalShutdown => true
  | .devModeReqWrite _ _ => true
  | .smbModeReqWrite _ => true
  | .modeTransitionEnd => true
  | .idleDelayExpired => true
  | .bayNeeded _ => true
  | .pwrFailNAsserted => true
  | .pwrFailNDeasserted => true
  | .drainComplete => true
  | .drainSpinTimeout _ => true
  | .drainDeadline => true
  | .l2HandshakeTimeout _ => true
  | .spokeReceived _ x => x.wf
  | .trackLostCount _ => true
  | .landingTimeout _ => true
  | .servoFrame _ x => x.wf
  | .engineFaultHoldEnd _ => true
  | .srvSlotCtlWrite _ _ _ _ => true
  | .gainSetWrite _ _ _ _ _ _ => true
  | .slotLimitWrite _ _ _ _ _ => true
  | .feFaultClear _ _ _ => true
  | .srvTrcCtlWrite _ _ _ _ => true
  | .optAcquire _ _ _ _ => true
  | .optLayerJump _ _ _ _ => true
  | .optPullIn _ _ _ => true
  | .optJump _ _ _ _ => true
  | .optRetract _ => true
  | .focusReacquire _ => true
  | .layerHopTimeout _ => true
  | .pullInTimeout _ => true
  | .laserTripClear _ _ => true
  | .actSenseSample _ _ sensed => signedIn 32 sensed
  | .motRun _ _ => true
  | .motStop _ => true
  | .motCoast _ => true
  | .motMove _ target => signedIn 32 target
  | .motCheck _ => true
  | .motEnableWrite _ _ _ samples => samples.all (signedIn 32)
  | .pwmPeriod _ x => x.wf
  | .motPhaseShort _ => true
  | .catchWindowEnd _ => true
  | .holdZeroEnd _ => true
  | .reverseBrakeTimeout _ => true
  | .wiringStepEnd _ x => x.wf
  | .encoderIndex _ => true
  | .indexMissing _ => true
  | .resyncTimeout _ => true
  | .spindleEncoderEvent _ speed => signedIn 32 speed
  | .spindleTimedEvent _ speed => signedIn 32 speed
  | .stpMove _ target _ => signedIn 32 target
  | .stpMovePair _ top bottom _ => signedIn 32 top && signedIn 32 bottom
  | .stpPause _ => true
  | .stpResume _ => true
  | .stpStop _ => true
  | .stpHome _ => true
  | .stepLimit _ => true
  | .moveEnd _ => true
  | .settleExpiry _ => true
  | .stepDrvFault _ => true
  | .baySensorSample _ _ => true
  | .sectorFrame _ x => x.wf
  | .noSignalCheck _ span => decide (span < 256)
  | .rchInputConfigWrite _ _ _ _ => true
  | .heldInputChangeApply _ => true
  | .laneBindWrite _ _ _ => true
  | .laneMemoryError _ => true
  | .captureStart _ triple => decide (triple < 2219 * 512)
  | .decodeIterationDone _ track sector => trackOk track && decide (sector < 1024)
  | .decoderFault _ _ => true
  | .rungDone _ track sector => trackOk track && decide (sector < 1024)
  | .outerRebuildDone _ _ track sector => trackOk track && decide (sector < 1024)
  | .wslTrain _ _ => true
  | .trackWriteStart _ entry => decide (entry < 1024)
  | .trackWriteEnd _ => true
  | .rawVerdict _ _ => true
  | .rawBurstClear _ _ => true
  | .writeStopAtBoundary _ _ => true
  | .writeSessionResume _ => true
  | .destageSessionStart vol => volOk vol
  | .calibrationDue _ elem => decide (elem < 1024)
  | .calEstimateDone n elem values => decide (elem < 1024) && values.length == calValueCount n.val
  | .speedWindowEnd _ => true
  | .thermalSample _ => true
  | .throttleExit _ => true
  | .flashProgramDone _ _ => true
  | .flashEraseDone _ failed => decide (failed.length ≤ 16)
  | .flashReadDone _ _ pos _ _ => decide (pos < 16)
  | .idleCollectionStart => true
  | .gatedCompletionPost _ => true
  | .lunStatusTimeout _ _ => true
  | .lunRebuildDone _ => true
  | .destageAgeExpiry vol => volOk vol
  | .scrubDue disc => decide (disc < 2 ^ 64)
  | .scrubComplete disc => decide (disc < 2 ^ 64)
  | .sqDoorbell _ _ _ => true
  | .cqHeadDoorbell _ _ _ => true
  | .instructionFetch _ _ _ _ => true
  | .instructionDispatch _ => true
  | .completionPost _ _ _ => true
  | .nop _ => true
  | .write _ mem _ => mem.wf
  | .read _ mem => mem.wf
  | .verify _ => true
  | .flush _ => true
  | .openStrand _ => true
  | .openStrandAdopt _ => true
  | .closeStrand _ mem => mem.wf
  | .sealStrand _ mem => mem.wf
  | .queryStrand _ mem => mem.wf
  | .createVolume _ => true
  | .deleteVolume _ => true
  | .queryVolume _ mem => mem.wf
  | .retireRange _ => true
  | .mount _ mem _ => mem.wf
  | .unmount _ => true
  | .initDisc _ mem _ _ => mem.wf
  | .scrubDisc _ => true
  | .compact _ => true
  | .spin _ => true
  | .parkBay _ => true
  | .getEvents _ mem => mem.wf
  | .getLog _ mem => mem.wf
  | .setPolicy _ mem _ => mem.wf
  | .getPolicy _ mem => mem.wf
  | .setTime _ => true
  | .getTime _ mem => mem.wf
  | .regRead _ mem => mem.wf
  | .regWrite _ mem _ _ => mem.wf
  | .resetRing _ => true
  | .resetStrand _ => true
  | .resetBay _ _ => true
  | .resetLane _ _ => true
  | .resetFlashChannel _ luns => luns.all LunId.wf
  | .resetServoLoop _ => true
  | .stagePackage _ mem pkg _ => mem.wf && pkg.wf
  | .activate _ => true
  | .attestReport _ mem => mem.wf
  | .attestCertificate _ mem => mem.wf
  | .traceArm _ => true
  | .traceStop _ => true
  | .traceRead _ mem _ => mem.wf
  | .traceTrigger _ => true
  | .calibrate _ => true
  | .skipIf _ => true
  | .wait _ => true
  | .waitConditionMet _ => true
  | .waitTimeout _ => true
  | .createRing _ => true
  | .deleteRing _ => true
  | .hstFnCtlWrite _ _ _ => true
  | .fatalClear _ _ => true
  | .flr _ => true
  | .perstNAsserted _ => true
  | .perstNReleased _ => true
  | .hstLinkUp _ speed width => decide (1 ≤ speed) && decide (speed ≤ 5) && [1, 2, 4].contains width
  | .hstLinkDown _ => true
  | .pmeTurnOff _ => true
  | .d3hotEntry _ => true
  | .d0Return _ => true
  | .msixUnmask _ _ => true
  | .smbAlertResponse => true
  | .routineResume ofEvent n _ _ _ => !ofEvent || decide (n < 512)
  | .eventRoutineDispatch _ _ => true
  | .seqFault _ _ ofEvent n _ => !ofEvent || decide (n < 512)
  | .seqWatchdog ofEvent n => !ofEvent || decide (n < 512)
  | .cacheAccess _ line _ _ _ => decide (line < 2 ^ 30)
  | .cacheFillReturn _ err => err.all DramErr.wf
  | .victimWritebackDone line => decide (line < 2 ^ 30)
  | .cchOpClean _ => true
  | .cchOpCleanInvalidate _ => true
  | .cchOpDone => true
  | .cchCtlWrite _ _ => true
  | .cchDrainDone => true
  | .dramRefresh _ _ _ => true
  | .dramTempPoll temps => temps.all (signedIn 8)
  | .dramPatrol errors => errors.all DramErr.wf
  | .dramRetrain sweeps => sweeps.all LaneSweep.wf
  | .onchipScrub _ => true
  | .dbgChal _ => true
  | .dbgResp _ _ _ => true
  | .strandLogAppend => true
  | .lifeRecordSave _ => true
  | .opuLifeWrite _ => true
  | .vbatCheck _ => true
  | .tamperNAsserted => true
  | .tamperClear _ => true
  | .pinShortDetect _ => true
  | .registerWrite _ _ addr size _ _ => decide (addr < 2 ^ 24) && [1, 2, 4, 8].contains size
  | .brownOutRelease => true
  | .junctionBelow100 => true
  | .haltUartReport => true
  | .aspmL1Entry _ => true

end Sys2Proof
end

