-- ==== Sys2Proof/Safety.lean ====
section
/-! DEFINITION. The terms that claims about the part use: what a command may leave as it was, the invariant that every command keeps,
and what never goes back. -/

namespace Sys2Proof.Machine

/-! ### Parts of the state -/

/-- The parts into which a frame divides the state: the windows of the register space (R5, R532), each field of `State` beside the
register fields, and context memory apart from the rest of the DRAM controller. -/
inductive Part where
  /-- Registers: DEV. -/
  | devRegs
  /-- Registers: EVT. -/
  | evtRegs
  /-- Registers: SEQ. -/
  | seqRegs
  /-- Registers: CCH. -/
  | cchRegs
  /-- Registers: DRM. -/
  | drmRegs
  /-- Registers: FLZ. -/
  | flzRegs
  /-- Registers: HST. -/
  | hstRegs
  /-- Registers: SEC and boot. -/
  | secRegs
  /-- Registers: LIF. -/
  | lifRegs
  /-- Registers: SRV. -/
  | srvRegs
  /-- Registers: MOT. -/
  | motRegs
  /-- Registers: STP. -/
  | stpRegs
  /-- Registers: RCH inputs and spokes. -/
  | rchRegs
  /-- Registers: LDP. -/
  | ldpRegs
  /-- Registers: RCH lanes and detectors. -/
  | lanRegs
  /-- Registers: WRP. -/
  | wrpRegs
  /-- Registers: CAL. -/
  | calRegs
  /-- Registers: BAY. -/
  | bayRegs
  /-- Registers: BAY_OPT. -/
  | optRegs
  /-- Registers: the samples of the trace buffers (R109). -/
  | trcRegs
  | evq
  | out
  | free
  | seqno
  | otp
  | shadows
  | chip
  | boot
  | nv
  | dbg
  | cache
  | extents
  | volumes
  | strands
  | deferred
  | discs
  | requests
  | flash
  | life
  | lost
  | fns
  | class0
  | insts
  | nextId
  | bays
  | spokes
  | optics
  | servos
  | traces
  | motors
  | axes
  | inputs
  | lanes
  | detectors
  | frames
  | writers
  | cal
  | seqs
  | cch
  | dram
  | mem
deriving DecidableEq, Repr

/-- The window that a register field lies in (R532). -/
def Fld.window (f : Fld) : Part :=
  if f.addr < 0x10000 then .devRegs
  else if f.addr < 0x20000 then .evtRegs
  else if f.addr < 0x30000 then .seqRegs
  else if f.addr < 0x40000 then .cchRegs
  else if f.addr < 0x50000 then .drmRegs
  else if f.addr < 0x60000 then .flzRegs
  else if f.addr < 0x70000 then .hstRegs
  else if f.addr < 0x80000 then .secRegs
  else if f.addr < 0x90000 then .lifRegs
  else if f.addr < 0x180000 then .srvRegs
  else if f.addr < 0x190000 then .motRegs
  else if f.addr < 0x200000 then .stpRegs
  else if f.addr < 0x280000 then .rchRegs
  else if f.addr < 0x290000 then .ldpRegs
  else if f.addr < 0x300000 then .lanRegs
  else if f.addr < 0x380000 then .wrpRegs
  else if f.addr < 0x400000 then .calRegs
  else if 0x800000 ≤ f.addr then .trcRegs
  else if f.addr % 0x10000 < 0x2000 then .bayRegs
  else .optRegs

/-- Whether a part of the state is the same in two states. -/
def Part.same (p : Part) (s t : State) : Prop :=
  match p with
  | .devRegs => ∀ f : Fld, f.window = .devRegs → t.get f = s.get f
  | .evtRegs => ∀ f : Fld, f.window = .evtRegs → t.get f = s.get f
  | .seqRegs => ∀ f : Fld, f.window = .seqRegs → t.get f = s.get f
  | .cchRegs => ∀ f : Fld, f.window = .cchRegs → t.get f = s.get f
  | .drmRegs => ∀ f : Fld, f.window = .drmRegs → t.get f = s.get f
  | .flzRegs => ∀ f : Fld, f.window = .flzRegs → t.get f = s.get f
  | .hstRegs => ∀ f : Fld, f.window = .hstRegs → t.get f = s.get f
  | .secRegs => ∀ f : Fld, f.window = .secRegs → t.get f = s.get f
  | .lifRegs => ∀ f : Fld, f.window = .lifRegs → t.get f = s.get f
  | .srvRegs => ∀ f : Fld, f.window = .srvRegs → t.get f = s.get f
  | .motRegs => ∀ f : Fld, f.window = .motRegs → t.get f = s.get f
  | .stpRegs => ∀ f : Fld, f.window = .stpRegs → t.get f = s.get f
  | .rchRegs => ∀ f : Fld, f.window = .rchRegs → t.get f = s.get f
  | .ldpRegs => ∀ f : Fld, f.window = .ldpRegs → t.get f = s.get f
  | .lanRegs => ∀ f : Fld, f.window = .lanRegs → t.get f = s.get f
  | .wrpRegs => ∀ f : Fld, f.window = .wrpRegs → t.get f = s.get f
  | .calRegs => ∀ f : Fld, f.window = .calRegs → t.get f = s.get f
  | .bayRegs => ∀ f : Fld, f.window = .bayRegs → t.get f = s.get f
  | .optRegs => ∀ f : Fld, f.window = .optRegs → t.get f = s.get f
  | .trcRegs => ∀ f : Fld, f.window = .trcRegs → t.get f = s.get f
  | .evq => t.evq = s.evq
  | .out => t.out = s.out
  | .free => t.free = s.free
  | .seqno => t.nextSeq = s.nextSeq ∧ t.grantEnd = s.grantEnd
  | .otp => t.otp = s.otp
  | .shadows => t.shadows = s.shadows
  | .chip => t.chip = s.chip
  | .boot => t.boot = s.boot
  | .nv => t.nv = s.nv
  | .dbg => t.dbg = s.dbg
  | .cache => t.cache = s.cache
  | .extents => t.extents = s.extents
  | .volumes => t.volumes = s.volumes
  | .strands => t.strands = s.strands
  | .deferred => t.deferred = s.deferred
  | .discs => t.discs = s.discs
  | .requests => t.requests = s.requests
  | .flash => t.flash = s.flash
  | .life => t.life = s.life
  | .lost => t.lost = s.lost
  | .fns => t.fns = s.fns
  | .class0 => t.class0 = s.class0
  | .insts => t.insts = s.insts
  | .nextId => t.nextId = s.nextId
  | .bays => t.bays = s.bays
  | .spokes => t.spokes = s.spokes
  | .optics => t.optics = s.optics
  | .servos => t.servos = s.servos
  | .traces => t.traces = s.traces
  | .motors => t.motors = s.motors
  | .axes => t.axes = s.axes
  | .inputs => t.inputs = s.inputs
  | .lanes => t.lanes = s.lanes
  | .detectors => t.detectors = s.detectors
  | .frames => t.frames = s.frames
  | .writers => t.writers = s.writers
  | .cal => t.cal = s.cal
  | .seqs => t.seqs = s.seqs
  | .cch => t.cch = s.cch
  | .dram => { t.dram with mem := [] } = { s.dram with mem := [] }
  | .mem => ∀ a, memRead t.dram.mem a = memRead s.dram.mem a

/-- The frame of a command: every part but those listed is as it was. -/
def SameBut (l : List Part) (s t : State) : Prop := ∀ p : Part, p ∉ l → p.same s t

/-! ### The invariant -/

/-- What holds of every state that a run reaches, and is kept by every step: the table of register fields and context memory are in
their canonical forms; the event queue holds at most 8,192 records, with SERIAL rising and none above the newest, and at most 64 raised before step 16 (R403); the
anti-rollback counter is at most 64 and there are four revocation bits (R517); every sequence number issued lies within a
recorded grant (R292). -/
def State.Inv (s : State) : Prop :=
  tabWf s.fields ∧ memWf s.dram.mem ∧ (∀ c ∈ s.dram.mem, c.1 < memSize) ∧
  s.evq.recs.length ≤ queueMax ∧ s.evq.held.length ≤ 64 ∧
  (s.evq.recs.map EventRec.serial).Pairwise (· < ·) ∧ (∀ r ∈ s.evq.recs, r.serial ≤ s.evq.serial) ∧
  s.otp.counter ≤ 64 ∧ s.otp.revoked < 16 ∧
  s.nextSeq ≤ s.grantEnd

/-- What no command takes back: the anti-rollback counter and the revocations (R517), the numbers issued and granted (R292), what has
left the part, and the free values used. -/
def Forward (s t : State) : Prop :=
  s.otp.counter ≤ t.otp.counter ∧ s.otp.revoked &&& t.otp.revoked = s.otp.revoked ∧
  s.nextSeq ≤ t.nextSeq ∧ s.grantEnd ≤ t.grantEnd ∧ s.out <+: t.out ∧ s.free ≤ t.free

/-! ### Events -/

/-- The count of an event has risen by one, or stands at its maximum (R530, R533). -/
def Counted (n : Nat) (s t : State) : Prop :=
  t.get (F.EVT_COUNT_CNT n) =
    if s.get (F.EVT_COUNT_CNT n) + 1 < 2 ^ 32 then s.get (F.EVT_COUNT_CNT n) + 1 else s.get (F.EVT_COUNT_CNT n)

/-- The record that raising event `n` in `s` makes, before it has its SERIAL (R403, R535). -/
def State.eventRec (s : State) (n sub inst detail : Nat) : EventRec :=
  { event := n, level := eventLevel n sub, time := s.timeStamp, subcode := sub, inst := inst, detail := detail % 2 ^ 96, queuedAt := s.now }

/-- An event has been raised: its count has risen and its record has joined the queue, or has merged into the newest one (R536). -/
def Raised (n sub inst detail : Nat) (s t : State) : Prop :=
  Counted n s t ∧
  t.evq = if s.merges (s.eventRec n sub inst detail) then s.evq.merge else s.evq.push (s.eventRec n sub inst detail)

/-- The part has changed its mode, with MODE_CHANGE raised (R33). -/
def ModeChanged (new cause : Nat) (s t : State) : Prop :=
  t.mode = new ∧ t.get F.DEV_MODE_STAT_PREV_MODE = s.mode % 16 ∧ t.get F.DEV_MODE_STAT_CAUSE = cause ∧
  Raised Ev.MODE_CHANGE 0 0 (s.mode + 256 * new + 65536 * cause) s t

/-- The parts of the state that raising an event may touch: the event registers and queue, attention and vectors, the pins, and the
routine that the event dispatches. -/
def eventParts : List Part := [.evtRegs, .seqRegs, .hstRegs, .evq, .out, .chip, .fns, .seqs]

/-! ### Resets, starts and sequencers -/

/-- What a reset leaves (R30, R43, R547, R567): every register field but the mode's at its reset value, every volatile structure empty, the
mode entered and the mode left; what is not volatile stands. -/
def ResetTo (s t : State) (mode : Nat) : Prop :=
  t.mode = mode ∧ t.get F.DEV_MODE_STAT_PREV_MODE = s.mode % 16 ∧ t.get F.DEV_MODE_STAT_TRANSITION = 0 ∧
  (∀ f : Fld, f.key ≠ F.DEV_MODE_STAT_MODE.key → f.key ≠ F.DEV_MODE_STAT_PREV_MODE.key → f.key ≠ F.DEV_MODE_STAT_TRANSITION.key →
    t.get f = f.rst) ∧
  t.evq = {} ∧ t.insts = [] ∧ t.cache = [] ∧ t.strands = [] ∧ t.flash = {} ∧ t.boot.running = false ∧
  (∀ k : Fin 8, t.optics[k].laser = false ∧ t.writers[k] = {} ∧ t.motors[k] = {}) ∧
  SameBut [.devRegs, .evtRegs, .seqRegs, .cchRegs, .drmRegs, .flzRegs, .hstRegs, .secRegs, .lifRegs, .srvRegs, .motRegs, .stpRegs, .rchRegs,
    .ldpRegs, .lanRegs, .wrpRegs, .calRegs, .bayRegs, .optRegs, .trcRegs, .evq, .shadows, .chip, .boot, .dbg, .cache, .extents, .strands,
    .deferred, .requests, .flash, .life, .lost, .fns, .class0, .insts, .nextId, .bays, .spokes, .optics, .servos, .traces, .motors, .axes,
    .inputs, .lanes, .detectors, .frames, .writers, .cal, .seqs, .cch, .dram] s t

/-- BOOT has begun from `prev` for a start of cause `cause`: step 1 runs, and the context cache is initialised and bypassed (R30, R506). -/
def BootBegun (prev cause : Nat) (t : State) : Prop :=
  t.mode = mBOOT ∧ t.get F.DEV_MODE_STAT_PREV_MODE = prev ∧ t.get F.DEV_MODE_STAT_TRANSITION = 1 ∧
  t.boot.running = true ∧ t.boot.step = 1 ∧ t.boot.cause = cause ∧
  t.get F.SEC_BOOT_STAT_STEP = 1 ∧ t.get F.SEC_BOOT_STAT_CAUSE = cause % 16 ∧
  t.get F.CCH_STAT_INIT_DONE = 1 ∧ t.get F.CCH_STAT_BYPASS = 1

/-- A function has been reset by an FLR or by a return from D3hot: its rings and vectors are gone and its registers stand at reset (R365,
R433). -/
def FunctionReset (f : Fin 4) (s t : State) : Prop :=
  t.get (F.HST_FN_CTL_ENABLE f.val) = 0 ∧ t.get (F.HST_FN_STAT_READY f.val) = 0 ∧ (∀ x ∈ hstFnFields f.val, t.get x = x.rst) ∧
  t.fns[f].sqs = [] ∧ t.fns[f].cqs = [] ∧ t.fns[f].d3 = false ∧ t.fns[f].masked = List.range 65 ∧ t.fns[f].fnMask = false ∧
  t.fns[f].table = [] ∧ t.linkUp (portOf f) = s.linkUp (portOf f)

/-- The optical sequencer of OPU `k` is free to take a command (R124). -/
def OptFree (s : State) (k : Fin 8) : Prop :=
  s.get (F.BAY_OPT_CTL_ENABLE k.val) = 1 ∧ s.engineStopped (engineOf k) = false ∧ s.optics[k].phase = .idle

/-! ### Companding -/

/-- The rows of the companding map of R225: magnitude index, least and greatest magnitude, reconstruction, worst error. -/
def compandTable : List (Nat × Nat × Nat × Nat × Nat) :=
  (List.range 10).map (fun m => (m, 12 * m, 12 * m + 11, 12 * m + 6, 6)) ++
  [(10, 120, 135, 128, 8), (11, 136, 159, 148, 12), (12, 160, 191, 176, 16), (13, 192, 239, 216, 24), (14, 240, 319, 280, 40),
    (15, 320, 512, 400, 112)]

/-! ### Instructions at rest -/

/-- No instruction but `id` waits for something that the next command could settle. -/
def State.quietBut (s : State) (id : Nat) : Prop :=
  ∀ j ∈ s.insts, j.id ≠ id → j.stage ≠ .waiting ∧ j.stage ≠ .committed ∧ j.stage ≠ .held

/-- No instruction waits for something that the next command could settle. -/
def State.quiet (s : State) : Prop := ∀ j ∈ s.insts, j.stage ≠ .waiting ∧ j.stage ≠ .committed ∧ j.stage ≠ .held

/-- A completion of an instruction has been staged for its ring, with a code and DW0 (R350). -/
def State.staged (s : State) (i : Inst) (code dw0 : Nat) : Prop :=
  ∃ r ∈ s.fns[i.fn].cqs, r.num = i.cq ∧ ∃ c ∈ r.waiting, c.id = i.id ∧ c.tag = i.tag ∧ c.code = code ∧ c.dw0 = dw0 % 2 ^ 32

/-- An instruction can complete: its function has not disowned it, its class was admitted, its completion ring is there, and its number is
its own. -/
def State.canFinish (s : State) (i : Inst) : Prop :=
  i.orphan = false ∧ i.demoted = false ∧ (∃ r ∈ s.fns[i.fn].cqs, r.num = i.cq) ∧ ∀ j ∈ s.insts, j.id = i.id → j = i

/-- An instruction of opcode `op` has been dispatched and can complete, and nothing else waits. -/
def State.ready (s : State) (id op : Nat) (i : Inst) : Prop := s.dispatched id op = some i ∧ s.canFinish i ∧ s.quiet

/-- An instruction of opcode `op` waits for what it needs and can complete, and nothing else waits. -/
def State.going (s : State) (id op : Nat) (i : Inst) : Prop :=
  s.inst id = some i ∧ i.opcode = op ∧ i.stage = .waiting ∧ s.canFinish i ∧ s.quietBut id

/-- The same for one past its commit point (R393). -/
def State.past (s : State) (id op : Nat) (i : Inst) : Prop :=
  s.inst id = some i ∧ i.opcode = op ∧ i.stage = .committed ∧ s.canFinish i ∧ s.quietBut id

/-- A routine's thread is dispatched and waits for no reply, and thread `t` of sequencer `q` may run it (R440, R441). -/
def State.mayRun (s : State) (ofEvent : Bool) (n : Nat) (q : Fin 16) (t : Fin 8) (x : Thread) : Prop :=
  s.seqs.threads.find? (sameRoutine ofEvent n) = some x ∧ x.waits = none ∧ x.words < 16384 ∧ s.get F.SEQ_STAT_RUN = 1 ∧
  bitAt (s.get F.SEQ_FAILED_MASK) q.val = false ∧ threadTakes x t.val = true

/-- A thread as it runs on thread `t` of sequencer `q`. -/
def Thread.onto (x : Thread) (q : Fin 16) (t : Fin 8) : Thread := { x with seq := q.val, thread := t.val, waits := none }

/-- The entry that a routine's words see: none for an event routine. -/
def State.entryOf (s : State) (ofEvent : Bool) (n : Nat) : BitVec 512 := if ofEvent then 0 else ((s.inst n).map Inst.desc).getD 0

/-- The restarts of the last second that sequencer `q` has caused (R448). -/
def State.restartsOf (s : State) (q : Fin 16) : List (Nat × Nat) :=
  s.seqs.restarts.filter (fun y => decide (s.now < y.2 + 1000000) && y.1 == q.val)

/-- A range operation of the context cache has begun over the range that its registers give (R462). -/
def RangeOpBegun (kind : Nat) (s t : State) : Prop :=
  SameBut [.cchRegs, .cch] s t ∧ t.get F.CCH_STAT_OP_BUSY = 1 ∧ t.get F.CCH_OP_CTL_KIND = kind ∧
  t.cch = { s.cch with op := some (s.get F.CCH_OP_BASE_LO_LO + 2 ^ 25 * s.get F.CCH_OP_BASE_HI_HI, s.get F.CCH_OP_LINES_LINES, kind == 2) }

/-- The threads but those of one routine. -/
def State.threadsBut (s : State) (ofEvent : Bool) (n : Nat) : List Thread := s.seqs.threads.filter (fun x => !sameRoutine ofEvent n x)

/-- A counter of 64 bits is `n` higher, wrapping (R530). -/
def Added (f : Fld) (n : Nat) (s t : State) : Prop := t.get f = (s.get f + n) % 2 ^ 64

/-- A counter of 32 bits has risen by one, or stands at its maximum (R530). -/
def Rose (f : Fld) (s t : State) : Prop := t.get f = if s.get f + 1 < 2 ^ 32 then s.get f + 1 else s.get f

/-- A transfer with host memory ends well: the accesses succeed, and no buffer word was lost. -/
def hostGood (mem : HostMem) : Prop := mem.ok = true ∧ mem.lost = false ∧ mem.bad = []

/-- The first thing that leaves the part is bytes written to the buffer of an instruction. -/
def wroteBuffer (id : Nat) (b : List Byte) (s t : State) : Prop := ∃ o, t.out = s.out ++ .bytes id b :: o

/-- An instruction is no longer in progress, and its completion is staged with a code and DW0 (R350). -/
def State.finished (s : State) (i : Inst) (code dw0 : Nat) : Prop := s.inst i.id = none ∧ s.staged i code dw0

/-- The parts that a Dynto command may touch when nothing else waits: the instruction, its ring, digests and the release of DRAM copies,
the shown gates and flags, and the parts of events. -/
def settleParts : List Part := [.cache, .extents, .strands, .discs, .nv, .insts, .flzRegs] ++ eventParts

end Sys2Proof.Machine
end

