-- ==== Sys2Proof/Certificates/Slice0/Obligations.lean ====
section
/-! DEFINITION. The statements about the block, from the numbered rules of the spec. -/

open Sys2Proof Sys2Proof.Machine

/-- A step runs the command at the front of the queue on the state with the queue's rest. -/
def Obligations.StepRunsTheFrontCommand : Prop := ∀ (c : Instr) (rest : List Instr) (s : State),
  s.pending = c :: rest → step s = exec c { s with pending := rest }

/-- On an empty queue the block idles for 1 µs of its clock (the model's choice, log 2). -/
def Obligations.IdleStepCountsOneMicrosecond : Prop := ∀ s : State,
  s.pending = [] → step s = .next { s with now := s.now + 1 }

/-- The machine after reset has just seen RESET_N released: DEV_MODE_STAT reads 0x0000_0112 (mode BOOT, previous mode RESET, a transition in
progress, R33), step 1 of the start runs (R506), every register field holds its reset value (R5; log 4 where the spec gives none), the first
sequence number is 1 (R292), the queue is empty, and the invariant holds. -/
def Obligations.ResetStateIsBootStepOne : Prop :=
  State.reset.Inv ∧ State.reset.mode = mBOOT ∧ State.reset.get F.DEV_MODE_STAT_PREV_MODE = mRESET ∧
  State.reset.get F.DEV_MODE_STAT_TRANSITION = 1 ∧ State.reset.boot.running = true ∧ State.reset.boot.step = 1 ∧
  State.reset.pending = [] ∧ (∀ f : Fld, State.reset.get f = f.rst) ∧
  (∀ a, memRead State.reset.dram.mem a = 0) ∧ State.reset.nextSeq = 1 ∧ State.reset.otp.counter = 0

/-- Every command answers with a next state, and neither the queue nor the clock is its to change (logs 1 and 2). -/
def Obligations.CommandsAnswerAndLeaveTheQueue : Prop := ∀ (c : Instr) (s : State),
  ∃ t, exec c s = .next t ∧ t.pending = s.pending ∧ t.now = s.now

/-- Every step from a state that meets the invariant leads to one that meets it: canonical tables and context memory, an event queue of at
most 8,192 records with rising SERIAL (R403), fuses within their number (R517), sequence numbers within recorded grants (R292). -/
def Obligations.StepKeepsTheInvariant : Prop := ∀ s t : State, s.Inv → step s = .next t → t.Inv

/-- No step takes back a fuse or a revocation (R517), a sequence number or a grant (R292), an output, or a free value used. -/
def Obligations.StepsNeverGoBack : Prop := ∀ s t : State, s.Inv → step s = .next t → Forward s t

/-- Supplies, RESET_N, brown-out and a die above 120 °C bring the part to OFF or RESET with everything volatile lost; the start's cause is 0
or 1 (R30, R43, R48, R508, R547, R567). Where the spec gives no reset value, the value is the model's (logs 4, 5). -/
def Obligations.ResetClearsWhatIsVolatile : Prop := ∀ s : State,
  (∃ t, exec .suppliesRemoved s = .next t ∧ ResetTo s t mOFF ∧ t.chip.pins.supplies = false) ∧
  (s.mode = mOFF → ∃ t, exec .suppliesWithinLimits s = .next t ∧ ResetTo s t mRESET ∧ t.boot.cause = 0 ∧ t.chip.pins.supplies = true) ∧
  (s.mode ≠ mOFF →
    (∃ t, exec .resetNAsserted s = .next t ∧ ResetTo s t mRESET ∧ t.chip.pins = { s.chip.pins with resetN := false } ∧
      t.boot.cause = if s.mode = mRESET then s.boot.cause else 1) ∧
    (∃ t, exec .railBrownOut s = .next t ∧ ResetTo s t mRESET ∧ t.chip.pins = { s.chip.pins with brownOut := true } ∧ t.boot.cause = 0) ∧
    (∃ t, exec .junctionOver120 s = .next t ∧ ResetTo s t mRESET ∧ t.chip.pins = { s.chip.pins with hot := true } ∧ t.boot.cause = 0))

/-- RESET is left for BOOT step 1, with MODE_CHANGE, when the supplies are good, RESET_N is high, SLATH has locked and the die is cool; else only
the pins are recorded (R30, R33, R506, R569, R571). -/
def Obligations.ResetIsLeftForBoot : Prop := ∀ s : State, s.mode = mRESET → s.chip.pins.supplies = true →
  (∀ straps : Fin 4, s.chip.pins.brownOut = false → s.chip.pins.hot = false →
    (∃ t, exec (.resetNReleased true true straps) s = .next t ∧ SameBut (.devRegs :: .cchRegs :: .secRegs :: .boot :: eventParts) s t ∧
      BootBegun mRESET s.boot.cause t ∧ ModeChanged mBOOT 0 s t ∧ t.chip.pins.resetN = true ∧ t.chip.pins.slathLocked = true ∧
      t.chip.pins.smbAddr = straps.val) ∧
    (∀ reference locked : Bool, (reference && locked) = false →
      ∃ t, exec (.resetNReleased reference locked straps) s = .next t ∧ SameBut [.chip] s t ∧ t.chip.pins.slathLocked = false)) ∧
  (s.chip.pins.resetN = true → s.chip.pins.slathLocked = true →
    (s.chip.pins.hot = false → ∃ t, exec .brownOutRelease s = .next t ∧
      SameBut (.devRegs :: .cchRegs :: .secRegs :: .boot :: eventParts) s t ∧
      BootBegun mRESET s.boot.cause t ∧ ModeChanged mBOOT 0 s t ∧ t.chip.pins.brownOut = false) ∧
    (s.chip.pins.brownOut = false → ∃ t, exec .junctionBelow100 s = .next t ∧
      SameBut (.devRegs :: .cchRegs :: .secRegs :: .boot :: eventParts) s t ∧
      BootBegun mRESET s.boot.cause t ∧ ModeChanged mBOOT 0 s t ∧ t.chip.pins.hot = false)) ∧
  (s.chip.pins.resetN = false →
    (∃ t, exec .brownOutRelease s = .next t ∧ SameBut [.chip] s t ∧ t.chip.pins.brownOut = false) ∧
    (∃ t, exec .junctionBelow100 s = .next t ∧ SameBut [.chip] s t ∧ t.chip.pins.hot = false))

/-- Steps 1 and 2 advance to the next step when they end well, and halt the part when they fail or time out; a halted part reports its step
on the debug UART (R506, R507, R512). The step's journal entry is as R510 lays it out. -/
def Obligations.BootStepsEndInOrder : Prop := ∀ s : State,
  (∀ k : Nat, k = 1 ∨ k = 2 → s.boot.running = true → s.boot.step = k → s.boot.altPlan = [] → s.boot.skipPlan = [] →
    s.boot.journalled = false →
    (∀ r : BootReport, r.fail % 2 = 0 → ∃ t, exec (.bootStepEnd r) s = .next t ∧ SameBut [.secRegs, .boot] s t ∧
      t.boot = { s.boot with step := k + 1, stepAt := s.now, entries := s.boot.entries ++ [⟨k, 0, 0, 0, 0, 0xFFFF, r.duration⟩] } ∧
      t.get F.SEC_BOOT_STAT_STEP = k + 1) ∧
    (∀ r : BootReport, r.fail % 2 = 1 → ∃ t, exec (.bootStepEnd r) s = .next t ∧ SameBut (.secRegs :: .boot :: eventParts) s t ∧
      t.boot = { s.boot with running := false, halted := some k,
                             entries := s.boot.entries ++ [⟨k, 1, 1, 0, 0, Ev.BOOT_STEP_FAIL, r.duration⟩] } ∧
      Raised Ev.BOOT_STEP_FAIL 0 0 0 s t ∧ t.get F.SEC_BOOT_STAT_DEGRADED = 1) ∧
    (∃ t, exec .bootStepTimeLimit s = .next t ∧ SameBut (.secRegs :: .boot :: eventParts) s t ∧
      t.boot = { s.boot with running := false, halted := some k,
                             entries := s.boot.entries ++ [⟨k, 1, 1, 0, 0, Ev.BOOT_STEP_FAIL, s.now - s.boot.stepAt⟩] } ∧
      Raised Ev.BOOT_STEP_FAIL 0 0 0 s t ∧ t.get F.SEC_BOOT_STAT_DEGRADED = 1)) ∧
  (∀ k : Nat, s.boot.halted = some k → ∃ t, exec .haltUartReport s = .next t ∧ SameBut [.out] s t ∧
    t.out = s.out ++ [.uart k (((s.boot.entries.find? (fun e => e.step == k)).map StepEntry.fail).getD 0)])

/-- A lost SLATH lock turns every laser off; its return, or a thermal shutdown, takes the modes that R30 lists to SAFE with the causes of R33,
whose transition ends while a held request stays (R16, R30, R32, R41); OSC_TRIM is recorded where VBAT keeps it (R15). -/
def Obligations.SafeFollowsLossOfLockOrHeat : Prop := ∀ s : State,
  (s.chip.pins.slathLocked = true → mBOOT ≤ s.mode → ∃ t, exec .slathLockLost s = .next t ∧
    SameBut (.srvRegs :: .motRegs :: .wrpRegs :: .calRegs :: .life :: .optics :: .motors :: .writers :: .cal :: eventParts) s t ∧
    t.chip.pins.slathLocked = false ∧ ∀ k : Fin 8, t.optics[k].laser = false ∧ t.optics[k].gate = false) ∧
  (s.chip.pins.slathLocked = false → safeFrom s.mode = true → ∃ t, exec .slathRelocked s = .next t ∧
    SameBut (.devRegs :: .cchRegs :: .secRegs :: .srvRegs :: .motRegs :: .stpRegs :: .rchRegs :: .wrpRegs :: .calRegs :: .bayRegs :: .optRegs ::
      .boot :: .life :: .bays :: .spokes :: .optics :: .motors :: .axes :: .detectors :: .writers :: .cal :: eventParts) s t ∧
    t.mode = mSAFE ∧ t.get F.DEV_MODE_STAT_PREV_MODE = s.mode % 16 ∧ t.get F.DEV_MODE_STAT_CAUSE = 6 ∧
    t.get F.DEV_MODE_STAT_TRANSITION = 0 ∧ t.get F.DEV_MODE_REQ_TARGET = s.get F.DEV_MODE_REQ_TARGET ∧ t.boot.running = false) ∧
  (safeFrom s.mode = true → ∃ t, exec .thermalShutdown s = .next t ∧
    SameBut (.devRegs :: .srvRegs :: .motRegs :: .stpRegs :: .rchRegs :: .wrpRegs :: .calRegs :: .bayRegs :: .optRegs :: .boot ::
      .life :: .bays :: .spokes :: .optics :: .motors :: .axes :: .detectors :: .writers :: .cal :: eventParts) s t ∧
    t.mode = mSAFE ∧ t.get F.DEV_MODE_STAT_PREV_MODE = s.mode % 16 ∧ t.get F.DEV_MODE_STAT_CAUSE = 5 ∧
    t.get F.DEV_MODE_STAT_TRANSITION = 0 ∧ t.get F.DEV_MODE_REQ_TARGET = s.get F.DEV_MODE_REQ_TARGET ∧ t.boot.running = false) ∧
  (∀ trim : Int, s.mode ≠ mOFF → ∃ t, exec (.oscTrim trim) s = .next t ∧ SameBut [.nv] s t ∧
    t.nv = { s.nv with oscTrim := trim })

/-- A request for ACTIVE in IDLE is taken at once; one that R30 has no transition for is rejected; one made while a transition is in
progress is held in TARGET (R30 to R34). -/
def Obligations.ModeRequestsAreTakenHeldOrRejected : Prop := ∀ s : State,
  -- taken at once
  (∀ m : Master, s.mayWrite m = true → s.mode = mIDLE → s.get F.DEV_MODE_STAT_TRANSITION = 0 →
    ∃ t, exec (.devModeReqWrite m 6) s = .next t ∧ SameBut (.devRegs :: eventParts) s t ∧
      ModeChanged mACTIVE 2 s t ∧ t.get F.DEV_MODE_REQ_TARGET = 0) ∧
  (s.mode = mIDLE → s.get F.DEV_MODE_STAT_TRANSITION = 0 →
    ∃ t, exec (.smbModeReqWrite 6) s = .next t ∧ SameBut (.devRegs :: eventParts) s t ∧
      ModeChanged mACTIVE 3 s t ∧ t.get F.DEV_MODE_REQ_TARGET = 0) ∧
  -- rejected
  (∀ m : Master, ∀ target : BitVec 4, s.mayWrite m = true → target ≠ 0 → s.mode ≠ mDRAIN → s.get F.DEV_MODE_STAT_TRANSITION = 0 →
    (allowedTargets s.mode).contains target.toNat = false →
    ∃ t, exec (.devModeReqWrite m target) s = .next t ∧ SameBut (.devRegs :: eventParts) s t ∧
      Raised Ev.MODE_REQ_REJECT 0 0 0 s t ∧ t.mode = s.mode ∧ t.get F.DEV_MODE_REQ_TARGET = 0) ∧
  (∀ target : BitVec 4, target ≠ 0 → target ≠ 8 → target ≠ 5 → s.mode = mRETENTION →
    ∃ t, exec (.smbModeReqWrite target) s = .next t ∧ SameBut (.devRegs :: eventParts) s t ∧
      Raised Ev.MODE_REQ_REJECT 0 0 0 s t ∧ t.mode = mRETENTION) ∧
  -- held while a transition is in progress
  (∀ m : Master, ∀ target : BitVec 4, s.mayWrite m = true → s.mode ≠ mDRAIN → s.get F.DEV_MODE_STAT_TRANSITION = 1 →
    target = 5 ∨ target = 6 ∨ target = 8 ∨ target = 9 →
    ∃ t, exec (.devModeReqWrite m target) s = .next t ∧ SameBut [.devRegs, .chip] s t ∧
      t.get F.DEV_MODE_REQ_TARGET = target.toNat ∧ t.mode = s.mode ∧ t.chip = { s.chip with heldSmb := false, heldPme := false })

/-- How transitions end, how IDLE and ACTIVE follow each other, what PWR_FAIL_N does in each mode, and how DRAIN ends (R30, R35 to R42). -/
def Obligations.ModesEndInRestIdleOrDrain : Prop := ∀ s : State,
  (∀ x : Transition, s.chip.transition = some x → x.target = mIDLE ∨ x.target = mPARK → x.cause < 256 → s.baysRest = true →
    s.get F.DEV_MODE_REQ_TARGET = 0 →
    ∃ t, exec .modeTransitionEnd s = .next t ∧ SameBut (.devRegs :: eventParts) s t ∧ ModeChanged x.target x.cause s t ∧
      t.get F.DEV_MODE_STAT_TRANSITION = 0 ∧ t.chip.transition = none) ∧
  (s.mode = mACTIVE → s.get F.DEV_MODE_STAT_TRANSITION = 0 → s.baysRest = true →
    ∃ t, exec .idleDelayExpired s = .next t ∧ SameBut (.devRegs :: eventParts) s t ∧ ModeChanged mIDLE 9 s t) ∧
  (∀ b : Fin 4, s.mode = mIDLE → s.get F.DEV_MODE_STAT_TRANSITION = 0 → s.get (F.BAY_STAT_HELD b.val) = 0 →
    s.bayState b.val ≠ bLOADED →
    ∃ t, exec (.bayNeeded b) s = .next t ∧ SameBut (.devRegs :: eventParts) s t ∧ ModeChanged mACTIVE 0xB s t) ∧
  (s.mode = mBRINGUP ∨ s.mode = mIDLE ∨ s.mode = mACTIVE ∨ s.mode = mPARK ∨ s.mode = mSERVICE ∨ s.mode = mSAFE →
    ∃ t, exec .pwrFailNAsserted s = .next t ∧ t.mode = mDRAIN ∧ t.get F.DEV_MODE_STAT_PREV_MODE = s.mode ∧
      t.get F.DEV_MODE_STAT_CAUSE = 4 ∧ t.get F.DEV_MODE_STAT_PWR_FAIL = 1 ∧ t.get F.DEV_MODE_REQ_TARGET = 0) ∧
  (s.mode = mRETENTION → ∃ t, exec .pwrFailNAsserted s = .next t ∧ SameBut [.devRegs] s t ∧ t.mode = mRETENTION ∧
    t.get F.DEV_MODE_STAT_PWR_FAIL = 1) ∧
  (∃ t, exec .pwrFailNDeasserted s = .next t ∧ t.get F.DEV_MODE_STAT_PWR_FAIL = 0 ∧
    if s.mode = mDRAIN ∧ s.get F.DEV_MODE_STAT_OK_TO_REMOVE = 1 ∧ s.get F.DEV_MODE_REQ_TARGET = mIDLE then
      t.mode = mIDLE ∧ t.get F.DEV_MODE_STAT_OK_TO_REMOVE = 0 ∧ t.get F.DEV_MODE_REQ_TARGET = 0 ∧
      SameBut (.devRegs :: .nv :: eventParts) s t
    else t.mode = s.mode ∧ SameBut [.devRegs] s t) ∧
  (s.draining = true → s.drained = true → s.chip.drain.done = false → s.get F.DEV_MODE_REQ_TARGET = 0 →
    ∃ t, exec .drainComplete s = .next t ∧ t.get F.DEV_MODE_STAT_OK_TO_REMOVE = 1 ∧ t.mode = s.mode) ∧
  (∀ b : Fin 4, s.draining = true → s.spindleRests b = false →
    ∃ t, exec (.drainSpinTimeout b) s = .next t ∧
      SameBut (.motRegs :: .rchRegs :: .calRegs :: .bayRegs :: .bays :: .spokes :: .motors :: .detectors :: .cal :: eventParts) s t ∧
      t.motors[spindleOf b].gates = false ∧ t.motors[spindleOf b].target = 0 ∧ Counted (Ev.bay b.val Ev.iBAY_SPIN_COAST) s t) ∧
  (s.draining = true → s.chip.drain.done = false → s.get F.DEV_MODE_REQ_TARGET = 0 →
    ∃ t, exec .drainDeadline s = .next t ∧ SameBut (.devRegs :: eventParts) s t ∧ t.get F.DEV_MODE_STAT_OK_TO_REMOVE = 1 ∧
      t.chip.drain.done = true ∧ t.mode = s.mode ∧ Raised Ev.DRAIN_INCOMPLETE 0 0 0 s t) ∧
  (∀ p : Fin 2, s.chip.retaining = true → s.dram.selfRefresh = true → s.linkUp p = true → s.chip.l2Ready[p] = false →
    (∀ x, s.chip.transition = some x → x.cause < 256) →
    ∃ t, exec (.l2HandshakeTimeout p) s = .next t ∧ SameBut (.devRegs :: .dram :: eventParts) s t ∧
      t.get (F.HST_LINK_STAT_SPEED (adminOf p).val) = 0)

/-- ACQUIRE, LAYER_JUMP, PULL_IN and JUMP begin their sequences on a free OPU, at once or at the spoke given, and touch no other OPU (R124
to R132). The first phase of each sequence is the model's name for it (log 24). -/
def Obligations.OpticalCommandsBegin : Prop := ∀ (s : State) (k : Fin 8), s.drivesTake = true → OptFree s k →
  (∀ (layer : Fin 8) (spoke : BitVec 10), s.laserAllowed k = true →
    ∃ t, exec (.optAcquire k layer false spoke) s = .next t ∧ SameBut [.srvRegs, .optRegs, .optics] s t ∧
      t.get (F.BAY_OPT_CMD_CMD k.val) = 1 ∧ t.get (F.BAY_OPT_STAT_LAYER k.val) = 0 ∧
      t.get (F.SRV_SLOT_CTL_FREEZE (engineOf k).val (slotOf k 2)) = 1 ∧
      t.optics[k].laser = true ∧ t.optics[k].power = .read ∧ t.optics[k].phase = .sweep ∧ t.optics[k].goal = layer.val ∧
      t.optics[k].layer = 0 ∧ ∀ j : Fin 8, j ≠ k → t.optics[j] = s.optics[j]) ∧
  (∀ (layer : Fin 8) (spoke : BitVec 10), s.optLayer k ≠ layer.val →
    ∃ t, exec (.optLayerJump k layer false spoke) s = .next t ∧ SameBut [.srvRegs, .rchRegs, .optRegs, .optics] s t ∧
      t.get (F.BAY_OPT_CMD_CMD k.val) = 2 ∧ t.get (F.BAY_OPT_STAT_LAYER_JUMP k.val) = 1 ∧ t.spokeState k = spkCOAST ∧
      t.get (F.SRV_SLOT_CTL_FREEZE (engineOf k).val (slotOf k 2)) = 1 ∧ t.get (F.SRV_SLOT_CTL_FREEZE (engineOf k).val (slotOf k 4)) = 1 ∧
      t.optics[k].phase = .hopHold ∧ t.optics[k].layer = layer.val ∧ ∀ j : Fin 8, j ≠ k → t.optics[j] = s.optics[j]) ∧
  (∀ spoke : BitVec 10, s.get (F.BAY_OPT_STAT_FOCUS_LOCKED k.val) = 1 →
    ∃ t, exec (.optPullIn k false spoke) s = .next t ∧ SameBut [.srvRegs, .optRegs, .optics] s t ∧
      t.get (F.BAY_OPT_CMD_CMD k.val) = 3 ∧ t.get (F.BAY_OPT_STAT_PULL_IN k.val) = 1 ∧
      t.get (F.SRV_SLOT_CTL_FREEZE (engineOf k).val (slotOf k 4)) = 1 ∧
      t.optics[k].phase = .velocity ∧ ∀ j : Fin 8, j ≠ k → t.optics[j] = s.optics[j]) ∧
  (∀ (dist : BitVec 8) (spoke : BitVec 10), dist ≠ 0 → (toSigned 8 dist.toNat).natAbs ≤ 64 →
    ∃ t, exec (.optJump k dist false spoke) s = .next t ∧ SameBut [.srvRegs, .optRegs, .spokes, .optics] s t ∧
      t.get (F.BAY_OPT_CMD_CMD k.val) = 4 ∧ t.get (F.BAY_OPT_STAT_JUMP k.val) = 1 ∧
      t.optics[k].phase = .jumpPulse ∧ t.optics[k].dist = toSigned 8 dist.toNat ∧ t.optics[k].gate = false ∧
      t.spokes[k].tExp = ((s.spokes[k].tExp : Int) + toSigned 8 dist.toNat).toNat ∧
      ∀ j : Fin 8, j ≠ k → t.optics[j] = s.optics[j]) ∧
  (∀ (layer : Fin 8) (spoke : BitVec 10), s.laserAllowed k = true →
    ∃ t, exec (.optAcquire k layer true spoke) s = .next t ∧ SameBut [.optRegs, .optics] s t ∧
      t.get (F.BAY_OPT_CMD_CMD k.val) = 1 ∧ t.optics[k].phase = .pending ∧ t.optics[k].spoke = some spoke.toNat ∧
      t.optics[k].goal = layer.val ∧ t.optics[k].laser = s.optics[k].laser ∧ t.optics[k].layer = s.optics[k].layer) ∧
  (∀ (layer : Fin 8) (spoke : BitVec 10), s.optLayer k ≠ layer.val →
    ∃ t, exec (.optLayerJump k layer true spoke) s = .next t ∧ SameBut [.optRegs, .optics] s t ∧
      t.get (F.BAY_OPT_CMD_CMD k.val) = 2 ∧ t.get (F.BAY_OPT_STAT_LAYER_JUMP k.val) = 1 ∧ t.optics[k].phase = .pending ∧
      t.optics[k].spoke = some spoke.toNat ∧ t.optics[k].goal = layer.val)

/-- RETRACT, re-acquisition, the two timeouts, the clearing of a laser trip, and a sample of an actuator's current (R124, R126 to R132,
R136, R139). -/
def Obligations.OpticalSequencesEnd : Prop := ∀ (s : State) (k : Fin 8),
  (s.drivesLive = true → s.get (F.BAY_OPT_CTL_ENABLE k.val) = 1 → s.engineStopped (engineOf k) = false →
    ∃ t, exec (.optRetract k) s = .next t ∧ SameBut [.srvRegs, .wrpRegs, .calRegs, .optRegs, .out, .life, .optics, .writers, .cal] s t ∧
      t.optics[k].laser = false ∧ t.optics[k].gate = false ∧ t.optics[k].phase = .retracting ∧
      t.get (F.BAY_OPT_CMD_CMD k.val) = 5 ∧ t.get (F.BAY_OPT_STAT_FOCUS_LOCKED k.val) = 0 ∧
      t.get (F.BAY_OPT_STAT_ON_TRACK k.val) = 0 ∧ t.get (F.SRV_SLOT_CTL_FREEZE (engineOf k).val (slotOf k 2)) = 1 ∧
      t.get (F.SRV_SLOT_CTL_FREEZE (engineOf k).val (slotOf k 4)) = 1) ∧
  (s.drivesLive = true → s.get (F.BAY_OPT_CTL_ENABLE k.val) = 0 → ∃ t, exec (.optRetract k) s = .next t ∧ SameBut (.optRegs :: eventParts) s t ∧
      t.get (F.BAY_OPT_STAT_RESULT k.val) = rINVALID ∧ Raised (Ev.bay (k.val / 2) Ev.iCMD_REJECT) 0 (k.val % 2) 0 s t) ∧
  (∀ n, s.drivesTake = true → s.optics[k].lostAt = some n → s.get (F.BAY_OPT_STAT_FAIL_RUN k.val) ≤ s.get (F.BAY_OPT_CTL_RETRIES k.val) →
    s.laserAllowed k = true → s.engineStopped (engineOf k) = false → s.get (F.BAY_OPT_CTL_ENABLE k.val) = 1 →
    s.motorState (spindleOf (bayOf k)) = mtAT_SPEED →
    ∃ t, exec (.focusReacquire k) s = .next t ∧ SameBut [.srvRegs, .optRegs, .optics] s t ∧
      t.optics[k].phase = .sweep ∧ t.optics[k].laser = true ∧ t.optics[k].goal = s.optics[k].backLayer ∧ t.optics[k].layer = 0 ∧
      t.get (F.BAY_OPT_CMD_CMD k.val) = 1) ∧
  (s.drivesLive = true → s.engineStopped (engineOf k) = false →
    s.optics[k].phase = .hopHold ∨ s.optics[k].phase = .hopPulse ∨ s.optics[k].phase = .hopCatch ∨ s.optics[k].phase = .hopLock →
    ∃ t, exec (.layerHopTimeout k) s = .next t ∧
      SameBut (.srvRegs :: .wrpRegs :: .calRegs :: .optRegs :: .life :: .optics :: .detectors :: .writers :: .cal :: eventParts) s t ∧
      t.optics[k].laser = false ∧ t.optics[k].phase = .retracting ∧ t.optics[k].lostAt = some s.now ∧
      t.get (F.BAY_OPT_STAT_FOCUS_LOCKED k.val) = 0) ∧
  (s.drivesLive = true → s.engineStopped (engineOf k) = false → s.optics[k].phase = .velocity ∨ s.optics[k].phase = .settling → s.optics[k].pullFails = 0 →
    ∃ t, exec (.pullInTimeout k) s = .next t ∧ SameBut [.optRegs, .optics] s t ∧ t.optics[k].phase = .idle ∧
      t.optics[k].pullFails = 1 ∧ t.get (F.BAY_OPT_STAT_RESULT k.val) = rFAILED ∧ t.get (F.BAY_OPT_STAT_PULL_IN k.val) = 0) ∧
  (∀ m : Master, s.mayWrite m = true → ∃ t, exec (.laserTripClear m k) s = .next t ∧ t = s.put (F.BAY_OPT_STAT_LASER_TRIP k.val) 0) ∧
  (∀ (a : Fin 4) (sensed : Int), s.drivesLive = true → s.optics[k].lowRun[a] < 63 → s.optics[k].highRun[a] < 63 →
    ∃ t, exec (.actSenseSample k a sensed) s = .next t ∧ SameBut [.optRegs, .optics] s t ∧
      t.geti (F.BAY_ACT_SENSE_CODE k.val a.val) = satInt 16 sensed ∧
      t.optics[k].dac = s.optics[k].dac)

/-- A received spoke moves SEARCH, CONFIRM, LOCKED and COAST as the table of states says, with its counts and positions; a lost track asks
for a pull-in; a sled's landing that finds no spokes fails (R82 to R86, R131, R176). -/
def Obligations.SpokesMoveTheLock : Prop := ∀ (s : State) (k : Fin 8),
  (∀ (x : SpokeRead) (c : SpokeCand), s.channelsLive = true → s.optics[k].phase ≠ .pending → s.spokeState k = spkSEARCH → s.pickSync k (s.facing k x) = some c → (s.viewSpoke k (s.facing k x) c).others = true →
    (s.viewSpoke k (s.facing k x) c).indexOk = true → (s.viewSpoke k (s.facing k x) c).contOk = true →
    ∃ t, exec (.spokeReceived k x) s = .next t ∧ t.get (F.RCH_SPK_STAT_STATE k.val) = spkCONFIRM ∧
      t.get (F.RCH_SPK_STAT_LAST_INDEX k.val) = (s.viewSpoke k (s.facing k x) c).index) ∧
  (∀ x : SpokeRead, s.channelsLive = true → s.spokeState k = spkCONFIRM → s.pickSync k (s.facing k x) = none →
    ∃ t, exec (.spokeReceived k x) s = .next t ∧ t.get (F.RCH_SPK_STAT_STATE k.val) = spkSEARCH ∧
      t.get (F.RCH_SPK_STAT_WR_GATE_OK k.val) = 0) ∧
  (∀ (x : SpokeRead) (c : SpokeCand), s.channelsLive = true → s.optics[k].phase ≠ .pending → s.optics[k].phase ≠ .spokes →
    s.spokeState k = spkLOCKED ∨ s.spokeState k = spkCOAST → s.pickSync k (s.facing k x) = some c →
    (s.viewSpoke k (s.facing k x) c).others = true → (s.viewSpoke k (s.facing k x) c).indexOk = true → (s.viewSpoke k (s.facing k x) c).contOk = true →
    s.get (F.BAY_OPT_STAT_LAYER_JUMP k.val) = 0 →
    ∃ t, exec (.spokeReceived k x) s = .next t ∧ t.get (F.RCH_SPK_STAT_STATE k.val) = spkLOCKED ∧
      t.get (F.RCH_SPK_ACC_CNT_CNT k.val) = (s.get (F.RCH_SPK_ACC_CNT_CNT k.val) + 1) % 2 ^ 64 ∧
      t.get (F.RCH_SPK_STAT_MISS_RUN k.val) = 0 ∧ t.get (F.RCH_SPK_POS_FLYWHEEL k.val) = 0 ∧
      t.get (F.RCH_SPK_STAT_LAST_INDEX k.val) = (s.viewSpoke k (s.facing k x) c).index ∧
      t.get (F.RCH_SPK_POS_TRACK k.val) = (s.viewSpoke k (s.facing k x) c).track.toNat % 2 ^ 18 ∧
      t.get (F.RCH_SPK_POS_LAYER k.val) = (s.viewSpoke k (s.facing k x) c).layer ∧ t.get (F.RCH_SPK_POS_ZONE k.val) = (s.viewSpoke k (s.facing k x) c).zone) ∧
  (∀ x : SpokeRead, s.channelsLive = true → s.spokeState k = spkLOCKED ∨ s.spokeState k = spkCOAST → s.pickSync k (s.facing k x) = none →
    s.get (F.BAY_OPT_STAT_LAYER_JUMP k.val) = 0 → s.get (F.RCH_SPK_STAT_MISS_RUN k.val) + 1 < s.get (F.RCH_SPK_CTL_COAST_MAX k.val) →
    ∃ t, exec (.spokeReceived k x) s = .next t ∧ t.get (F.RCH_SPK_STAT_STATE k.val) = spkCOAST ∧
      t.get (F.RCH_SPK_MISS_CNT_CNT k.val) = (s.get (F.RCH_SPK_MISS_CNT_CNT k.val) + 1) % 2 ^ 64 ∧
      t.get (F.RCH_SPK_STAT_MISS_RUN k.val) = min 15 (s.get (F.RCH_SPK_STAT_MISS_RUN k.val) + 1) ∧
      t.get (F.RCH_SPK_POS_FLYWHEEL k.val) = 1 ∧ t.get (F.RCH_SPK_POS_TRACK k.val) = s.spokes[k].tExp % 2 ^ 18) ∧
  (s.drivesTake = true → s.engineStopped (engineOf k) = false → s.get (F.BAY_OPT_STAT_FOCUS_LOCKED k.val) = 1 →
    s.get (F.BAY_OPT_STAT_ON_TRACK k.val) = 0 → s.optics[k].phase = .idle → s.seeking k = false → 64 ≤ s.optics[k].lostRun.getD 0 →
    ∃ t, exec (.trackLostCount k) s = .next t ∧ SameBut (.srvRegs :: .optRegs :: .optics :: eventParts) s t ∧
      Raised (Ev.bay (k.val / 2) Ev.iTRACK_LOST) 0 (k.val % 2) 0 s t ∧ t.get (F.BAY_OPT_STAT_PULL_IN k.val) = 1 ∧
      t.get (F.BAY_OPT_CMD_CMD k.val) = 3) ∧
  (∀ a : Fin 16, s.drivesLive = true → s.axisState a = axLANDING → a.val % 4 < 2 → 200 ≤ s.axes[a].seen →
    ∃ t, exec (.landingTimeout a) s = .next t ∧
      SameBut (.srvRegs :: .stpRegs :: .wrpRegs :: .calRegs :: .optRegs :: .life :: .optics :: .axes :: .detectors :: .writers :: .cal :: eventParts) s t ∧
      t.get (F.STP_STAT_STATE a.val) = axIDLE ∧ t.get (F.STP_STAT_RESULT a.val) = rFAILED)

/-- Writes of slot control words, gain sets, limits, following-error faults and trace control take effect, and writes that the engine may not
take raise SERVO_REJECT and change nothing (R97 to R110). -/
def Obligations.ServoWritesTakeEffect : Prop := ∀ (s : State) (m : Master) (e : Fin 2) (j : Fin 64) (v : Word), s.mayWrite m = true →
  (s.get (F.SRV_SLOT_CTL_ENABLE e.val j.val) = 0 → bitsOf v.toNat 0 1 = 0 → bitsOf v.toNat 9 4 ≤ 8 →
    ∃ t, exec (.srvSlotCtlWrite m e j v) s = .next t ∧ SameBut [.srvRegs] s t ∧
      t.get (F.SRV_SLOT_CTL_RATE e.val j.val) = bitsOf v.toNat 1 2 ∧ t.get (F.SRV_SLOT_CTL_PHASE e.val j.val) = bitsOf v.toNat 3 6 ∧
      t.get (F.SRV_SLOT_CTL_N_SEC e.val j.val) = bitsOf v.toNat 9 4 ∧ t.get (F.SRV_SLOT_CTL_BUMP e.val j.val) = bitsOf v.toNat 13 4 ∧
      t.get (F.SRV_SLOT_CTL_INTEG e.val j.val) = bitsOf v.toNat 20 8 ∧ t.get (F.SRV_SLOT_CTL_SW_0 e.val j.val) = bitsOf v.toNat 17 1 ∧
      t.get (F.SRV_SLOT_CTL_SW_1 e.val j.val) = bitsOf v.toNat 18 1 ∧ t.get (F.SRV_SLOT_CTL_FREEZE e.val j.val) = bitsOf v.toNat 19 1 ∧
      t.get (F.SRV_SLOT_CTL_ENABLE e.val j.val) = 0) ∧
  (∀ g : Fin 8, ∀ w : Fin 64, s.get (F.SRV_SLOT_CTL_ENABLE e.val j.val) = 0 ∨ s.gsetNamed e.val j.val g.val = false →
    ∃ t, exec (.gainSetWrite m e j g w v) s = .next t ∧ SameBut [.srvRegs, .calRegs, .cal] s t ∧
      (w.val < 50 ∧ w.val ≠ 43 → t.get (gainFld e.val j.val g.val w.val) = v.toNat)) ∧
  (∀ g : Fin 8, ∀ w : Fin 64, s.get (F.SRV_SLOT_CTL_ENABLE e.val j.val) = 1 → s.gsetNamed e.val j.val g.val = true →
    ∃ t, exec (.gainSetWrite m e j g w v) s = .next t ∧ SameBut eventParts s t ∧
      Raised (Ev.bay (s.slotOwner e.val j.val).bay.val Ev.iSERVO_REJECT) 2 (j.val % 32) 0 s t) ∧
  (s.geti (F.SRV_LIM_LO_LIM e.val j.val) ≤ toSigned 32 v.toNat →
    ∃ t, exec (.slotLimitWrite m e j true v) s = .next t ∧ SameBut [.srvRegs] s t ∧ t.get (F.SRV_LIM_HI_LIM e.val j.val) = v.toNat) ∧
  (toSigned 32 v.toNat ≤ s.geti (F.SRV_LIM_HI_LIM e.val j.val) →
    ∃ t, exec (.slotLimitWrite m e j false v) s = .next t ∧ SameBut [.srvRegs] s t ∧ t.get (F.SRV_LIM_LO_LIM e.val j.val) = v.toNat) ∧
  (toSigned 32 v.toNat < s.geti (F.SRV_LIM_LO_LIM e.val j.val) →
    ∃ t, exec (.slotLimitWrite m e j true v) s = .next t ∧ SameBut eventParts s t ∧
      Raised (Ev.bay (s.slotOwner e.val j.val).bay.val Ev.iSERVO_REJECT) 1 (j.val % 32) 0 s t) ∧
  (s.get (F.SRV_SLOT_STAT_FE_FAULT e.val j.val) = 1 →
    ∃ t, exec (.feFaultClear m e j) s = .next t ∧ SameBut [.srvRegs, .servos] s t ∧ t.get (F.SRV_SLOT_STAT_FE_FAULT e.val j.val) = 0 ∧
      (t.slotRun e j.val).resume = true) ∧
  (∀ k : Fin 8, s.get (F.SRV_TRC_STAT_STATE e.val k.val) = 0 ∨ s.get (F.SRV_TRC_STAT_STATE e.val k.val) = 3 →
    s.get (F.SRV_TRC_CTL_ARM e.val k.val) = 0 → bitsOf v.toNat 0 1 = 1 → bitsOf v.toNat 1 1 = 0 → bitsOf v.toNat 20 10 ≠ 0 →
    ∃ t, exec (.srvTrcCtlWrite m e k v) s = .next t ∧ SameBut [.srvRegs, .traces] s t ∧
      t.get (F.SRV_TRC_CTL_ARM e.val k.val) = 1 ∧ t.get (F.SRV_TRC_STAT_STATE e.val k.val) = 1 ∧
      t.get (F.SRV_TRC_CTL_SLOT e.val k.val) = bitsOf v.toNat 2 6 ∧ t.get (F.SRV_TRC_CTL_TAP e.val k.val) = bitsOf v.toNat 8 4 ∧
      t.get (F.SRV_TRC_CTL_TRIG e.val k.val) = bitsOf v.toNat 12 4 ∧ t.get (F.SRV_TRC_CTL_DEC e.val k.val) = bitsOf v.toNat 20 10 ∧
      t.traces[traceOf e k] = {})

/-- Every frame counts, and a running engine takes the means of its ADC inputs and derives the focus error of each OPU from them; a stopped engine
runs no slot; an uncorrectable error of its memories, or an overrun, stops it with its cause and begins the hold, whose end leaves the bays it serves
FAULTED and their actuators on the ramp to their retract codes (R92, R107, R108, R116). The first frame is number 0 (log 66). -/
def Obligations.ServoEnginesRunFramesAndEndTheirFaults : Prop := ∀ (s : State) (e : Fin 2),
  (∀ x : FrameInputs, s.drivesLive = true → s.engineStopped e = true →
    ∃ t, exec (.servoFrame e x) s = .next t ∧ SameBut [.srvRegs, .stpRegs, .optRegs, .optics, .axes] s t ∧
      t.get (F.SRV_FRAME_CNT_CNT e.val) = (s.get (F.SRV_FRAME_CNT_CNT e.val) + 1) % 2 ^ 64) ∧
  (∀ x : FrameInputs, s.drivesLive = true → s.engineStopped e = false → x.ecc ≠ .uncorrectable → x.overrun = false →
    ∃ t, exec (.servoFrame e x) s = .next t ∧
      t.get (F.SRV_FRAME_CNT_CNT e.val) = (s.get (F.SRV_FRAME_CNT_CNT e.val) + 1) % 2 ^ 64 ∧
      t.servos[e].adc = #v[adcMeans x.opu0, adcMeans x.opu1, adcMeans x.opu2, adcMeans x.opu3] ∧
      ∀ i : Fin 4, let m := #v[adcMeans x.opu0, adcMeans x.opu1, adcMeans x.opu2, adcMeans x.opu3][i]
        t.servos[e].derived[i].getD 0 0 = quotient31 ((m.a + m.c) - (m.b + m.d)) (m.a + m.b + m.c + m.d)) ∧
  (∀ x : FrameInputs, s.drivesLive = true → s.engineStopped e = false → x.ecc = .uncorrectable ∨ x.overrun = true →
    ∃ t, exec (.servoFrame e x) s = .next t ∧
      t.get (F.SRV_FRAME_CNT_CNT e.val) = (s.get (F.SRV_FRAME_CNT_CNT e.val) + 1) % 2 ^ 64 ∧ t.engineStopped e = true ∧
      t.get (F.SRV_BLK_STAT_CAUSE e.val) = (if x.ecc = .uncorrectable then 1 else 2) ∧ t.servos[e].holding = true ∧
      ∀ b ∈ baysOf e, ∀ k ∈ opusOf b, t.optics[k].laser = false ∧ t.optics[k].gate = false) ∧
  (s.drivesLive = false → ∀ x : FrameInputs, exec (.servoFrame e x) s = .next s) ∧
  (mBRINGUP ≤ s.mode → s.mode ≠ mRETENTION → s.servos[e].holding = true →
    ∃ t, exec (.engineFaultHoldEnd e) s = .next t ∧
      SameBut (.srvRegs :: .motRegs :: .stpRegs :: .rchRegs :: .calRegs :: .bayRegs :: .optRegs :: .spokes :: .optics :: .servos :: .motors ::
        .axes :: .detectors :: .cal :: eventParts) s t ∧
      t.servos[e].holding = false ∧
      ∀ b ∈ baysOf e, t.bayState b.val = bFAULTED ∧ t.motors[spindleOf b].gates = false ∧
        ∀ k ∈ opusOf b, t.optics[k].phase = .faultRamp ∧ t.get (F.BAY_OPT_STAT_FOCUS_LOCKED k.val) = 0)

/-- RUN, STOP, COAST, MOVE and CHECK, ENABLE and the short of a phase, each in the states that take it (R150 to R164). -/
def Obligations.MotorCommandsAreObeyed : Prop := ∀ (s : State) (k : Fin 8),
  (∀ c : Fin 4, s.drivesTake = true → k.val < 4 → s.motorShut k = false → s.motorState k = mtOFF ∨ s.motorState k = mtCOAST →
    s.bayState (bayOfMotor k).val ≠ bWRITING →
    ∃ t, exec (.motRun k c) s = .next t ∧ t.motorState k = mtCATCH ∧ t.motors[k].gates = true ∧ t.motors[k].zeroCurrent = true ∧
      t.motors[k].target = nominalSpeed c.val ∧ t.get (F.MOT_STAT_RESULT k.val) = 0) ∧
  (s.drivesLive = true → s.get (F.MOT_CTL_ENABLE k.val) = 1 → s.motorState k = mtRAMP ∨ s.motorState k = mtAT_SPEED →
    ∃ t, exec (.motStop k) s = .next t ∧ SameBut [.motRegs, .motors] s t ∧ t.motorState k = mtBRAKE ∧ t.motors[k].target = 0 ∧
      t.get (F.MOT_STAT_RESULT k.val) = 0) ∧
  (s.drivesLive = true → s.get (F.MOT_CTL_ENABLE k.val) = 1 → s.motorState k ≠ mtLATCHED →
    ∃ t, exec (.motCoast k) s = .next t ∧ SameBut [.motRegs, .motors] s t ∧ t.motors[k].gates = false ∧
      t.motorState k = (if s.motors[k].atRest then mtOFF else mtCOAST) ∧ t.get (F.MOT_STAT_RESULT k.val) = rDONE) ∧
  (∀ target : Int, s.drivesTake = true → 4 ≤ k.val → s.motorShut k = false → s.motorState k = mtOFF ∨ s.motorState k = mtCOAST →
    ∃ t, exec (.motMove k target) s = .next t ∧ SameBut [.motRegs, .calRegs, .motors, .cal] s t ∧ t.motorState k = mtCATCH ∧
      t.motors[k].moveTo = target ∧ t.motors[k].zeroCurrent = true ∧ t.get (F.MOT_STAT_RESULT k.val) = 0) ∧
  (s.drivesTake = true → s.get (F.MOT_CTL_ENABLE k.val) = 1 → s.motorState k = mtOFF → s.motors[k].atRest = true →
    ∃ t, exec (.motCheck k) s = .next t ∧ SameBut [.motRegs, .motors] s t ∧ t.motorState k = mtCHECK ∧ t.motors[k].gates = false ∧
      t.motors[k].checkStep = 0 ∧ t.get (F.MOT_STAT_RESULT k.val) = 0) ∧
  (s.drivesTake = true → s.get (F.MOT_CTL_ENABLE k.val) = 1 → s.motorState k ≠ mtOFF ∨ s.motors[k].atRest = false →
    ∃ t, exec (.motCheck k) s = .next t ∧ SameBut (.motRegs :: eventParts) s t ∧ t.get (F.MOT_STAT_RESULT k.val) = rBUSY ∧
      Raised (Ev.bay (k.val % 4) Ev.iCMD_REJECT) 1 (k.val / 4) 0 s t) ∧
  (s.drivesTake = true → s.get (F.MOT_CTL_ENABLE k.val) = 0 →
    ∃ t, exec (.motCheck k) s = .next t ∧ SameBut (.motRegs :: eventParts) s t ∧ t.get (F.MOT_STAT_RESULT k.val) = rINVALID ∧
      Raised (Ev.bay (k.val % 4) Ev.iCMD_REJECT) 1 (k.val / 4) 0 s t) ∧
  (∀ (m : Master) (xs : List Int), s.mayWrite m = true → s.get (F.MOT_CTL_ENABLE k.val) = 0 → xs ≠ [] →
    ∃ t, exec (.motEnableWrite m k true xs) s = .next t ∧ SameBut [.motRegs, .calRegs, .cal] s t ∧ t.get (F.MOT_CTL_ENABLE k.val) = 1 ∧
      t.get (F.MOT_SHUNT_OFS_OFS k.val) = (floorDiv xs.sum xs.length).toNat % 2 ^ 14) ∧
  (∀ (m : Master) (xs : List Int), s.mayWrite m = true →
    ∃ t, exec (.motEnableWrite m k false xs) s = .next t ∧ SameBut [.motRegs, .motors] s t ∧ t.get (F.MOT_CTL_ENABLE k.val) = 0 ∧
      t.motors[k].gates = false) ∧
  (s.drivesLive = true → s.motors[k].gates = true →
    ∃ t, exec (.motPhaseShort k) s = .next t ∧
      SameBut (.motRegs :: .rchRegs :: .calRegs :: .bayRegs :: .spokes :: .motors :: .detectors :: .cal :: eventParts) s t ∧
      t.motorState k = mtLATCHED ∧ t.get (F.MOT_STAT_SHORT k.val) = 1 ∧ t.motors[k].gates = false ∧
      t.bayState (bayOfMotor k).val = bFAULTED)

/-- The ends of the catch window, of zero hold, of reverse braking, of wiring steps, of resynchronisation; the encoder's index, the PWM period's
count and the spindle's speed error (R144 to R164). -/
def Obligations.MotorStartsAndEndsFollowTheTable : Prop := ∀ (s : State) (k : Fin 8), s.drivesLive = true →
  (s.motorState k = mtCATCH → s.motors[k].stopLater = false → s.motors[k].catchCounts.natAbs < 2 →
    s.motors[k].bemf < s.get (F.MOT_OBS_BEMF_MIN k.val) * 2 ^ 23 → s.motors[k].target = 0 →
    ∃ t, exec (.catchWindowEnd k) s = .next t ∧ SameBut [.motRegs, .motors] s t ∧ t.motors[k].gates = false ∧
      t.motorState k = (if s.motors[k].atRest then mtOFF else mtCOAST) ∧ t.get (F.MOT_STAT_RESULT k.val) = rDONE) ∧
  (s.motorState k = mtCATCH → s.motors[k].stopLater = false → 2 ≤ s.motors[k].catchCounts.natAbs → 0 ≤ s.motors[k].target →
    0 ≤ s.geti (F.MOT_SPEED_RPM k.val) → s.geti (F.MOT_SPEED_RPM k.val) ≤ s.motors[k].target → s.motors[k].angleRef = true →
    ∃ t, exec (.catchWindowEnd k) s = .next t ∧ SameBut [.srvRegs, .motRegs, .motors] s t ∧ t.motorState k = mtRAMP ∧
      t.motors[k].ref = s.geti (F.MOT_SPEED_RPM k.val) ∧ t.motors[k].gates = true ∧ t.motors[k].zeroCurrent = false) ∧
  (s.motorState k = mtHOLD_ZERO → s.motors[k].atRest = true → s.motors[k].target ≠ 0 → s.get (F.MOT_WIRING_CHECKED k.val) = 1 →
    ∃ t, exec (.holdZeroEnd k) s = .next t ∧ SameBut [.srvRegs, .motRegs, .motors] s t ∧ t.motorState k = mtRAMP ∧
      t.motors[k].ref = 0 ∧ t.motors[k].angleRef = true ∧ t.get (F.MOT_ANGLE_ENC k.val) = 0) ∧
  (s.motorState k = mtBRAKE → s.motors[k].reverse = true →
    ∃ t, exec (.reverseBrakeTimeout k) s = .next t ∧ SameBut (.motRegs :: .motors :: eventParts) s t ∧ t.motors[k].gates = false ∧
      t.get (F.MOT_STAT_REVERSE_NOT_STOPPED k.val) = 1 ∧ t.get (F.MOT_STAT_RESULT k.val) = rFAILED ∧
      Raised (Ev.bay (k.val % 4) Ev.iREVERSE_NOT_STOPPED) 0 (k.val / 4) 0 s t) ∧
  (∀ x : WiringStep, s.motorState k = mtCHECK → s.motors[k].checkWait = 0 → s.motors[k].checkStep = 1 ∨ s.motors[k].checkStep = 2 → x.index = none →
    20 ≤ x.phaseU → 20 ≤ x.phaseV → 20 ≤ x.phaseW →
    ∃ t, exec (.wiringStepEnd k x) s = .next t ∧ SameBut [.motors] s t ∧ t.motors[k].checkStep = s.motors[k].checkStep + 1 ∧
      t.motors[k].checkMove = s.motors[k].checkMove + x.counts) ∧
  (s.motorState k ≠ mtRESYNC → s.motors[k].indexSeen = false → k.val < 4 → s.get (F.MOT_WIRING_OFS_VALID k.val) = 1 →
    s.motors[k].indexDue = false →
    ∃ t, exec (.encoderIndex k) s = .next t ∧ SameBut [.motRegs, .motors] s t ∧
      t.get (F.MOT_POS_POS k.val) = 0 ∧ t.get (F.MOT_ANGLE_ENC k.val) = s.get (F.MOT_WIRING_INDEX_OFS k.val) % 2 ^ 16 ∧
      t.motors[k].angleRef = true ∧ t.motors[k].indexSeen = true ∧ t.motors[k].sinceIndex = 0) ∧
  (s.get (F.MOT_STAT_NO_INDEX k.val) = 0 → 2 * countsPerRev k ≤ s.motors[k].sinceIndex →
    ∃ t, exec (.indexMissing k) s = .next t ∧ SameBut (.motRegs :: eventParts) s t ∧ t.get (F.MOT_STAT_NO_INDEX k.val) = 1 ∧
      Raised (Ev.bay (k.val % 4) Ev.iMOT_INDEX) 0 (k.val / 4) 0 s t) ∧
  (s.motorState k = mtRESYNC →
    ∃ t, exec (.resyncTimeout k) s = .next t ∧
      SameBut (.motRegs :: .rchRegs :: .calRegs :: .bayRegs :: .spokes :: .motors :: .detectors :: .cal :: eventParts) s t ∧ t.get (F.MOT_STAT_ENC_FAULT k.val) = 1 ∧
      t.get (F.MOT_STAT_RESULT k.val) = rFAILED ∧ t.bayState (bayOfMotor k).val = bFAULTED) ∧
  (∀ x : PwmSample, k.val < 4 → s.pwmDue k = true → ∃ t, exec (.pwmPeriod k x) s = .next t ∧
    t.geti (F.MOT_POS_POS k.val) = (s.geti (F.MOT_POS_POS k.val) + (if s.get (F.MOT_WIRING_ENC_INV k.val) = 1 then -x.counts else x.counts)) % 16384) ∧
  (∀ (b : Fin 4) (v : Int), s.motorState (spindleOf b) ≠ mtAT_SPEED → s.motorState (spindleOf b) ≠ mtRAMP → s.motors[spindleOf b].target = 0 →
    (∃ t, exec (.spindleEncoderEvent b v) s = .next t ∧ SameBut [.servos, .motors] s t ∧ t.motors[spindleOf b].phaseValid = false ∧
      t.motors[spindleOf b].speedErr = quotient31 (16 * (v - s.motors[spindleOf b].ref)) (nominalSpeed 0)) ∧
    (∃ t, exec (.spindleTimedEvent b v) s = .next t ∧ SameBut [.servos, .motors] s t ∧ t.motors[spindleOf b].phaseValid = false ∧
      t.motors[spindleOf b].speedErr = quotient31 (16 * (v - s.motors[spindleOf b].ref)) (nominalSpeed 0)))

/-- MOVE, MOVE_PAIR, PAUSE, RESUME, STOP and HOME of the step axes, with BUSY and INVALID where R174 and R175 say so, and the position limit
(R168 to R180). -/
def Obligations.StepAxesObeyCommands : Prop := ∀ (s : State) (a : Fin 16), s.drivesTake = true →
  (∀ (p : Int) (blend : Bool), s.axisShut a = false → s.axisReach a p = true → s.axisState a = axIDLE → s.axes[a].queue = [] →
    a.val % 4 ≠ 3 ∨ s.get (F.STP_STAT_HOMED a.val) = 1 →
    ∃ t, exec (.stpMove a p blend) s = .next t ∧ SameBut [.stpRegs, .axes] s t ∧ t.axisState a = axRUN ∧
      t.get (F.STP_STAT_RESULT a.val) = 0 ∧ t.axes[a].queue = [{ target := p, blend := blend }] ∧ t.get (F.STP_STAT_QUEUE a.val) = 1) ∧
  (∀ (p : Int) (blend : Bool), s.axisShut a = true ∨ s.axisReach a p = false →
    ∃ t, exec (.stpMove a p blend) s = .next t ∧ SameBut (.stpRegs :: eventParts) s t ∧ t.get (F.STP_STAT_RESULT a.val) = rINVALID ∧
      t.axisState a = s.axisState a) ∧
  (∀ (p : Int) (blend : Bool), s.axisShut a = false → s.axisReach a p = true → 8 ≤ s.axes[a].queue.length →
    ∃ t, exec (.stpMove a p blend) s = .next t ∧ SameBut (.stpRegs :: eventParts) s t ∧ t.get (F.STP_STAT_RESULT a.val) = rBUSY ∧
      Raised (Ev.bay (a.val / 4) Ev.iCMD_REJECT) 2 (a.val % 4) 0 s t) ∧
  (∀ (m : Move) (ms : List Move), s.axisShut a = false → s.axisState a = axRUN → s.axes[a].queue = m :: ms → m.pair = false →
    m.target ≠ s.stopPoint a →
    ∃ t, exec (.stpPause a) s = .next t ∧ SameBut [.stpRegs, .axes] s t ∧ t.axisState a = axPAUSED ∧
      t.get (F.STP_STAT_RESULT a.val) = rDONE ∧ t.axes[a].queue = m :: ms ∧ t.axes[a].profile = none ∧
      t.axes[a].start = s.stopPoint a) ∧
  (∀ (m : Move) (ms : List Move), s.axisShut a = false → s.axisState a = axPAUSED → s.axes[a].queue = m :: ms → m.pair = false →
    s.axes[a].homing = false →
    ∃ t, exec (.stpResume a) s = .next t ∧ SameBut [.stpRegs, .axes] s t ∧ t.axisState a = axRUN ∧
      t.get (F.STP_STAT_RESULT a.val) = 0 ∧ t.axes[a].start = s.axisPos a) ∧
  (s.axisShut a = false → s.axisState a = axPAUSED → s.axes[a].homing = true →
    ∃ t, exec (.stpResume a) s = .next t ∧ SameBut [.stpRegs, .axes] s t ∧ t.axisState a = axHOMING ∧
      t.get (F.STP_STAT_RESULT a.val) = 0 ∧ t.axes[a].queue = s.axes[a].queue) ∧
  (s.axisShut a = false →
    ∃ t, exec (.stpStop a) s = .next t ∧ SameBut [.stpRegs, .axes] s t ∧ t.axisState a = axIDLE ∧
      t.get (F.STP_STAT_RESULT a.val) = rDONE ∧ t.axes[a].queue = [] ∧ t.get (F.STP_STAT_QUEUE a.val) = 0) ∧
  (s.axisShut a = false → s.axisState a = axIDLE →
    ∃ t, exec (.stpHome a) s = .next t ∧ SameBut [.stpRegs, .axes] s t ∧ t.axisState a = axHOMING ∧
      t.get (F.STP_STAT_RESULT a.val) = 0) ∧
  (∀ (b : Fin 4) (p q : Int) (blend : Bool), a = axisOf b 0 → s.axisShut a = false → s.axisShut (otherSled a) = false →
    s.axisReach a p = true → s.axisReach (otherSled a) q = true → s.axisState a = axIDLE → s.axisState (otherSled a) = axIDLE →
    s.axes[a].queue = [] → s.axes[otherSled a].queue = [] →
    ∃ t, exec (.stpMovePair b p q blend) s = .next t ∧ SameBut [.stpRegs, .axes] s t ∧ t.axisState a = axRUN ∧
      t.axisState (otherSled a) = axRUN ∧ t.axes[a].queue = [{ target := p, blend := blend, pair := true }] ∧
      t.axes[otherSled a].queue = [{ target := q, blend := blend, pair := true }]) ∧
  ((s.axisPos a = s.geti (F.STP_LIM_HI_LIM a.val) ∧ 0 < s.axes[a].corr) ∨ (s.axisPos a = s.geti (F.STP_LIM_LO_LIM a.val) ∧ s.axes[a].corr < 0) →
    ∃ t, exec (.stepLimit a) s = .next t ∧ SameBut (.stpRegs :: eventParts) s t ∧ t.get (F.STP_STAT_LIMIT a.val) = 1 ∧
      Raised (Ev.bay (a.val / 4) Ev.iSTEP_LIMIT) 0 (a.val % 4) 0 s t)

/-- The end of a homing, the end of settling, a driver's fault, and three equal samples of a bay's sensors (R170 to R185). -/
def Obligations.StepMovesEndAndSensorsAreTaken : Prop := ∀ (s : State) (a : Fin 16),
  (s.drivesLive = true → s.axisState a = axHOMING → s.axes[a].queue = [] → s.axes[a].seek = none →
    ∃ t, exec (.moveEnd a) s = .next t ∧ t.axisState a = axIDLE ∧ t.get (F.STP_STAT_HOMED a.val) = 1 ∧ t.get (F.STP_POS_POS a.val) = 0 ∧
      t.get (F.STP_STAT_RESULT a.val) = rDONE) ∧
  (s.drivesLive = true → s.axisState a = axSETTLE →
    ∃ t, exec (.settleExpiry a) s = .next t ∧ SameBut [.stpRegs, .axes] s t ∧ t.axisState a = axLANDING ∧ t.axes[a].seen = 0 ∧
      t.axes[a].agree = 0 ∧ t.axes[a].last = none) ∧
  (s.drivesLive = true → s.get (F.STP_STAT_DRV_FAULT a.val) = 0 →
    ∃ t, exec (.stepDrvFault a) s = .next t ∧ t.get (F.STP_STAT_DRV_FAULT a.val) = 1 ∧ t.axisState a = axFAULT ∧
      t.get (F.STP_STAT_RESULT a.val) = rFAILED ∧ (a.val % 4 < 3 → t.bayState (bayOfAxis a).val = bFAULTED)) ∧
  (∀ (b : Fin 4) (x : BaySensors), s.awake = true → s.bays[b].samples = [x, x] →
    ∃ t, exec (.baySensorSample b x) s = .next t ∧
      SameBut (.rchRegs :: .calRegs :: .bayRegs :: .bays :: .spokes :: .detectors :: .cal :: eventParts) s t ∧
      t.get (F.BAY_STAT_DISC_PRESENT b.val) = x.disc.toNat ∧ t.get (F.BAY_STAT_TRAY_CLOSED b.val) = x.trayClosed.toNat ∧
      t.get (F.BAY_STAT_CLAMPED b.val) = x.clamped.toNat ∧ t.get (F.BAY_STAT_DOOR_CLOSED b.val) = x.doorClosed.toNat ∧
      (s.bayState b.val = bEMPTY → x.clamped = true → x.disc = true → mBRINGUP ≤ s.mode → t.bayState b.val = bLOADED))

/-- Read lanes pass frames with or without sector sync; inputs lose their signal; configuration writes are taken, held or rejected; lanes are
bound, unbound, and replaced when their memories fail (R189 to R209, R554). -/
def Obligations.ReadFrontEndFollowsInputsAndLanes : Prop := ∀ s : State,
  -- SECTOR_FRAME
  ((∀ g ∈ s.frames, g.waiting = false) → (∀ (n : Fin 36) (x : FrameRead), s.laneRuns n = false → exec (.sectorFrame n x) s = .next s) ∧
  (∀ (n : Fin 36) (x : FrameRead) (i : Fin 32), s.channelsLive = true → s.laneRuns n = true → s.laneInput n.val = i.val → s.inputs[i].trial = none →
    (∀ m : Fin 36, s.lanes[m].frames.length < 7) → x.lost = false → (s.runLane n x).timing.held = false →
    (∀ g ∈ s.frames, g.rung < 4) → s.detectors[opuOfInput i.val].cut = [] → s.get (F.RCH_JD_STAT_UNBOUND (opuOfInput i.val).val) = 0 →
    let c := s.runLane n x
    let p : FrameRead → Option DataInterval := fun x => x.parts.getLast?.bind (fun p => s.interval (opuOfInput i.val) p.spoke)
    ∃ t, exec (.sectorFrame n x) s = .next t ∧
      SameBut (.rchRegs :: .lanRegs :: .inputs :: .lanes :: .detectors :: .frames :: .writers :: .dram :: eventParts) s t ∧
      t.get (F.RCH_LANE_STAT_STATE n.val) = (if (p x).any (fun d => decide (d.bits ≤ c.done)) then 3 else if c.flags.found then 2 else 1) ∧
      t.lanes[n].frames.head? = some (x.sector, c.flags.found || (i.val % 4 == 3 && !s.optics[opuOfInput i.val].gate)) ∧
      t.get (F.RCH_LANE_STAT_TIMING_LIMIT n.val) = 0 ∧ t.geti (F.RCH_LANE_FREQ_FREQ n.val) = c.timing.freq ∧
      t.get (F.RCH_SYNC_MISS_CNT_CNT (opuOfInput i.val).val) =
        (s.get (F.RCH_SYNC_MISS_CNT_CNT (opuOfInput i.val).val) + (if c.flags.found then 0 else 1)) % 2 ^ 64)) ∧
  -- NO_SIGNAL_CHECK
  (∀ (i : Fin 32) (span : Nat), s.channelsLive = true → s.get (F.BAY_OPT_STAT_FOCUS_LOCKED (opuOfInput i.val).val) = 1 → span < 8 →
    s.optics[opuOfInput i.val].lockedAt + s.revolution (bayOf (opuOfInput i.val)) ≤ s.now →
    (s.get (F.RCH_IN_GAIN_PGA i.val) ≠ 120 → s.inputs[i].held = [] → s.laneOf i.val = none → s.inputs[i].next = none →
      ∃ t, exec (.noSignalCheck i span) s = .next t ∧ SameBut [.rchRegs, .inputs] s t ∧
        t.get (F.RCH_IN_GAIN_PGA i.val) = 120 ∧ t.get (F.RCH_IN_STAT_NO_SIGNAL i.val) = s.get (F.RCH_IN_STAT_NO_SIGNAL i.val)) ∧
    (∀ n : Fin 36, s.get (F.RCH_IN_GAIN_PGA i.val) ≠ 120 → s.laneOf i.val = some n → s.laneRuns n = true →
      ∃ t, exec (.noSignalCheck i span) s = .next t ∧ SameBut [.inputs] s t ∧ t.inputs[i].held = s.inputs[i].held ++ [.pga 120]) ∧
    (s.get (F.RCH_IN_GAIN_PGA i.val) = 120 → ∃ t, exec (.noSignalCheck i span) s = .next t ∧
      SameBut (.rchRegs :: .lanRegs :: .wrpRegs :: .calRegs :: .bayRegs :: .spokes :: .detectors :: .cal :: eventParts) s t ∧
      t.get (F.RCH_IN_STAT_NO_SIGNAL i.val) = 1 ∧ t.get (F.RCH_IN_CTL_ENABLE i.val) = 0)) ∧
  -- RCH_INPUT_CONFIG_WRITE
  (∀ (m : Master) (i : Fin 32) (v : Word), s.mayWrite m = true →
    (s.get (F.RCH_IN_CTL_ENABLE i.val) = 0 → 16 ≤ bitsOf v.toNat 4 8 → 1 ≤ bitsOf v.toNat 12 4 →
      bitsOf v.toNat 2 1 = s.get (F.RCH_IN_CTL_POL_INV i.val) →
      ∃ t, exec (.rchInputConfigWrite m i 0 v) s = .next t ∧ SameBut [.rchRegs] s t ∧
        t.get (F.RCH_IN_CTL_AGC_TARGET i.val) = bitsOf v.toNat 4 8 ∧ t.get (F.RCH_IN_CTL_AGC_RATE i.val) = bitsOf v.toNat 12 4 ∧
        t.get (F.RCH_IN_CTL_ENABLE i.val) = bitsOf v.toNat 0 1 ∧ t.get (F.RCH_IN_CTL_AGC_HOLD i.val) = bitsOf v.toNat 1 1) ∧
    (badMap (s.get (F.RCH_IN_SUB_FAILED i.val)) v.toNat = true →
      ∃ t, exec (.rchInputConfigWrite m i 1 v) s = .next t ∧ SameBut (.rchRegs :: eventParts) s t ∧
        t.get (F.RCH_IN_STAT_CFG_REJECT i.val) = 1 ∧ t.get (F.RCH_IN_MAP_MAP i.val) = s.get (F.RCH_IN_MAP_MAP i.val) ∧
        Raised (Ev.rf rfCFG_REJECT) 0 i.val 0 s t) ∧
    (badMap (s.get (F.RCH_IN_SUB_FAILED i.val)) v.toNat = false → s.inputs[i].held = [] → s.laneOf i.val = none → s.inputs[i].next = none →
      ∃ t, exec (.rchInputConfigWrite m i 1 v) s = .next t ∧ SameBut [.rchRegs, .inputs] s t ∧
        t.get (F.RCH_IN_MAP_MAP i.val) = v.toNat ∧ t.inputs[i].held = []) ∧
    (∀ n : Fin 36, badMap (s.get (F.RCH_IN_SUB_FAILED i.val)) v.toNat = false → s.laneOf i.val = some n → s.laneRuns n = true →
      ∃ t, exec (.rchInputConfigWrite m i 1 v) s = .next t ∧ SameBut [.inputs] s t ∧
        t.inputs[i].held = s.inputs[i].held ++ [.map v.toNat])) ∧
  -- HELD_INPUT_CHANGE_APPLY
  (∀ i : Fin 32, s.channelsLive = true → ∃ t, exec (.heldInputChangeApply i) s = .next t ∧ SameBut [.rchRegs, .lanRegs, .inputs] s t ∧
    t.inputs[i].held = [] ∧ (∀ n : Fin 36, s.laneOf i.val = some n → s.laneRuns n = true → t.get (F.RCH_LANE_STAT_STATE n.val) = 3) ∧
    (∀ b : Bool, s.inputs[i].held = [.polarity b] → t.get (F.RCH_IN_CTL_POL_INV i.val) = b.toNat) ∧
    (∀ v : Nat, s.inputs[i].held = [.map v] → t.get (F.RCH_IN_MAP_MAP i.val) = v % 2 ^ 32)) ∧
  -- LANE_BIND_WRITE
  (∀ (m : Master) (n : Fin 36) (v : Word), s.mayWrite m = true → bitsOf v.toNat 1 5 = s.laneInput n.val →
    (s.get (F.RCH_LANE_BIND_ENABLE n.val) = 0 → bitsOf v.toNat 0 1 = 1 → s.laneOf (s.laneInput n.val) = none →
      s.get (F.RCH_LANE_STAT_FAILED n.val) = 0 →
      ∃ t, exec (.laneBindWrite m n v) s = .next t ∧ SameBut [.rchRegs, .lanRegs, .lanes] s t ∧
        t.get (F.RCH_LANE_BIND_ENABLE n.val) = 1 ∧ t.get (F.RCH_LANE_STAT_STATE n.val) = 1 ∧
        t.get (F.RCH_LANE_FREQ_FREQ n.val) = 0 ∧ t.get (F.RCH_IN_STAT_BOUND (s.laneInput n.val)) = 1) ∧
    (s.get (F.RCH_LANE_BIND_ENABLE n.val) = 1 → bitsOf v.toNat 0 1 = 0 →
      ∃ t, exec (.laneBindWrite m n v) s = .next t ∧ SameBut [.rchRegs, .lanRegs] s t ∧
        t.get (F.RCH_LANE_BIND_ENABLE n.val) = 0 ∧ t.get (F.RCH_LANE_STAT_STATE n.val) = 0) ∧
    (s.get (F.RCH_LANE_BIND_ENABLE n.val) = 0 → bitsOf v.toNat 0 1 = 1 → s.get (F.RCH_LANE_STAT_FAILED n.val) = 1 →
      ∃ t, exec (.laneBindWrite m n v) s = .next t ∧ SameBut (.lanRegs :: eventParts) s t ∧
        t.get (F.RCH_LANE_STAT_CFG_REJECT n.val) = 1 ∧ t.get (F.RCH_LANE_BIND_ENABLE n.val) = 0 ∧
        Raised (Ev.rf rfLANE_CFG_REJECT) 0 n.val 0 s t)) ∧
  -- LANE_MEMORY_ERROR
  (∀ n : Fin 36, s.channelsLive = true → s.get (F.RCH_LANE_STAT_FAILED n.val) = 0 → s.chip.recovering = [] →
    (s.get (F.RCH_LANE_BIND_ENABLE n.val) = 0 →
      ∃ t, exec (.laneMemoryError n) s = .next t ∧ SameBut (.lanRegs :: eventParts) s t ∧
        t.get (F.RCH_LANE_STAT_FAILED n.val) = 1 ∧ t.get (F.RCH_LANE_STAT_CAUSE n.val) = 1) ∧
    (∀ (i : Fin 32) (m : Fin 36), s.get (F.RCH_LANE_BIND_ENABLE n.val) = 1 → s.laneInput n.val = i.val → s.inputs[i].trial = none →
      s.freeLanes.head? = some m → s.waitingInputs = [] →
      (s.spokesCome (opuOfInput i.val) = false →
        ∃ t, exec (.laneMemoryError n) s = .next t ∧ SameBut (.rchRegs :: .lanRegs :: .inputs :: .lanes :: .detectors :: eventParts) s t ∧
          t.get (F.RCH_LANE_STAT_FAILED n.val) = 1 ∧ t.get (F.RCH_LANE_BIND_ENABLE n.val) = 0 ∧
          t.get (F.RCH_LANE_BIND_ENABLE m.val) = 1 ∧ t.laneInput m.val = i.val ∧ t.get (F.RCH_LANE_FREQ_FREQ m.val) = 0) ∧
      (s.spokesCome (opuOfInput i.val) = true →
        ∃ t, exec (.laneMemoryError n) s = .next t ∧ SameBut (.rchRegs :: .lanRegs :: .inputs :: .detectors :: eventParts) s t ∧
          t.get (F.RCH_LANE_STAT_FAILED n.val) = 1 ∧ t.get (F.RCH_LANE_BIND_ENABLE n.val) = 0 ∧
          t.inputs[i].next = some (.takeover n.val, s.now)))) ∧
  -- Takeover at the input's next spoke (R207, R211)
  (∀ (k : Fin 8) (spot : Fin 4) (x : SpokeRead) (failed : Fin 36) (at_ : Nat), s.channelsLive = true →
    s.inputs[(Fin.ofNat 32 (4 * k.val + spot.val))].next = some (.takeover failed.val, at_) →
    ∃ t, exec (.spokeReceived k x) s = .next t ∧ t.inputs[(Fin.ofNat 32 (4 * k.val + spot.val))].next = none)

/-- A capture begins in the other half of the store, or stalls; global iterations, rungs of the ladder and outer rebuilds deliver, keep or
poison their frames; a decoder with an uncorrectable memory error is failed (R223 to R237, R544). -/
def Obligations.DetectionDeliversOrPoisons : Prop := ∀ (s : State) (k : Fin 8),
  -- CAPTURE_START
  (s.channelsLive = true → s.get F.LDP_CTL_ENABLE = 1 → s.get (F.RCH_JD_STAT_UNBOUND k.val) = 0 → s.detectors[k].centred = none →
    (∀ g ∈ s.frames, g.waiting = false ∧ g.rung < 5) →
    (∀ triple : Nat, s.bayState (bayOf k).val = bREADING ∨ s.bayState (bayOf k).val = bREADY → (∀ f ∈ s.frames, f.opu ≠ k.val) →
      ∃ t, exec (.captureStart k triple) s = .next t ∧
        SameBut (.rchRegs :: .calRegs :: .bayRegs :: .spokes :: .detectors :: .frames :: .cal :: .dram :: eventParts) s t ∧
        t.bayState (bayOf k).val = bREADING ∧
        t.detectors[k] = { s.detectors[k] with
          triple := some triple, last := some triple, half := !s.detectors[k].half, began := s.now, first := s.detectors[k].last.isNone
          second := false, margin := 0 } ∧
        (∀ r ∈ t.dram.samples, r.opu = k.val → r.half ≠ t.detectors[k].half) ∧ t.get (F.RCH_JD_STAT_MODE k.val) = 1 ∧
        ∀ j : Fin 8, j ≠ k → t.detectors[j] = s.detectors[j]) ∧
    (∀ (triple : Nat) (f : FrameWork), s.bayState (bayOf k).val = bREADING → f ∈ s.frames → f.opu = k.val → f.half = (!s.detectors[k].half) →
      s.frameSpent f = false →
      ∃ t, exec (.captureStart k triple) s = .next t ∧
        SameBut (.rchRegs :: .ldpRegs :: .detectors :: .frames :: .dram :: eventParts) s t ∧ t.detectors[k].triple = none ∧
        t.get F.LDP_STAT_STALL = 1 ∧ t.get (F.RCH_JD_STAT_MODE k.val) = 3 ∧ Raised (Ev.ldp ldpCAPTURE_STALL) 0 k.val 0 s t)) ∧
  -- DECODE_ITERATION_DONE
  (∀ track sector : Nat, s.frameAt k track sector = none →
    exec (.decodeIterationDone k track sector) s = .next s ∧
    ((∀ g ∈ s.frames, g.waiting = false) → exec (.rungDone k track sector) s = .next s)) ∧
  (∀ (track sector : Nat) (f : FrameWork), s.channelsLive = true → s.detectors[k].centred = none →
    (∀ g ∈ s.frames, g.waiting = false ∧ g.rung < 5) → s.frameAt k track sector = some f → f.rung = 0 → f.decoder.isSome = true →
    f.role ≠ .heldOver → f.g + 1 < s.get F.LDP_CTL_GLOBAL_MAX →
    let x := (s.decodeOnce k f).2
    ∃ t, exec (.decodeIterationDone k track sector) s = .next t ∧
      SameBut (.ldpRegs :: .extents :: .discs :: .detectors :: .frames :: .dram :: eventParts) s t ∧
      Added F.LDP_ITER_CNT_CNT x.iterations s t ∧
      (x.ok = true → f.parity = true ∨ f.expects (hardPayload x.post) = true →
        t.get F.LDP_CW_CNT_CNT = (s.get F.LDP_CW_CNT_CNT + 1) % 2 ^ 64 ∧ t.frameAt k track sector = none ∧
        ∃ y ∈ t.dram.sectors, y.opu = k.val ∧ y.track = track ∧ y.sector = sector ∧ y.payload = hardPayload x.post ∧ y.poison = false) ∧
      (x.ok = false → t.get F.LDP_CW_CNT_CNT = s.get F.LDP_CW_CNT_CNT ∧
        ∃ g, t.frameAt k track sector = some g ∧ g.g = f.g + 1 ∧ g.best = min f.best x.unsatisfied ∧
          g.attempts = min 255 (f.attempts + if f.g = 0 then 1 else 0) ∧ g.extrinsic = x.extrinsic ∧ g.needs = f.needs)) ∧
  -- RUNG_DONE
  (∀ (track sector : Nat) (f : FrameWork), s.channelsLive = true → s.detectors[k].centred = none →
    (∀ g ∈ s.frames, g.waiting = false ∧ g.rung ≠ 5) → s.frameAt k track sector = some f → 1 ≤ f.rung → f.misdirected = false → f.parity = false →
    let r := s.decodeRest k 24 f 0
    (s.nextRung k f.again f.rung = none →
      ∃ t, exec (.rungDone k track sector) s = .next t ∧
        SameBut (.rchRegs :: .ldpRegs :: .extents :: .discs :: .detectors :: .frames :: .dram :: eventParts) s t ∧
        Added F.LDP_ITER_CNT_CNT r.2.1 s t ∧
        (∀ p, r.2.2 = some p → f.expects p = true →
          t.get F.LDP_CW_CNT_CNT = (s.get F.LDP_CW_CNT_CNT + 1) % 2 ^ 64 ∧ t.frameAt k track sector = none) ∧
        (r.2.2 = none → t.get F.LDP_POISON_CNT_CNT = (s.get F.LDP_POISON_CNT_CNT + 1) % 2 ^ 64 ∧ t.frameAt k track sector = none ∧
          Raised (Ev.ldp ldpPOISONED) 0 k.val (sectorDetail f.vol f.lsa) s t ∧
          ∃ y ∈ t.dram.sectors, y.opu = k.val ∧ y.track = track ∧ y.sector = sector ∧ y.poison = true)) ∧
    (∀ n : Nat, s.nextRung k f.again f.rung = some n → n ≤ 3 → f.top ≤ n → f.needs ≠ [] → (∀ c ∈ f.needs, n ≤ s.ladderMax c) →
      ∃ t, exec (.rungDone k track sector) s = .next t ∧
        SameBut (.rchRegs :: .ldpRegs :: .extents :: .discs :: .detectors :: .frames :: .dram :: eventParts) s t ∧
        (r.2.2 = none → Rose (F.LDP_RUNG_CNT_CNT (n - 1)) s t ∧
          ∃ g, t.frameAt k track sector = some g ∧ g.rung = n ∧ g.top = n ∧ g.needs = f.needs))) ∧
  -- OUTER_REBUILD_DONE
  (∀ (j : Fin 4) (track sector : Nat) (d : Disc) (f : FrameWork), s.channelsLive = true → s.discIn (bayOf k) = some d →
    bitAt (s.get F.LDP_STAT_OUTER_FAILED) j.val = false → s.frameAt k track sector = some f → 3 ≤ f.rung →
    let b := d.band (bandOf (k.val % 2) f.layer (zoneOf track))
    let sectors := (b.blockPlaces (b.frameAt (track % bandTracks) sector / (16 + b.parity))).map (s.blockSector k b)
    sectors.any Option.isNone = true →
    (∀ l, rebuildBlock b.parity sectors = some l → ∃ t, exec (.outerRebuildDone k j track sector) s = .next t ∧
      t.get F.LDP_OUTER_CNT_CNT = (s.get F.LDP_OUTER_CNT_CNT + 1) % 2 ^ 64 ∧ Counted (Ev.ldp ldpOUTER_REBUILD) s t) ∧
    (rebuildBlock b.parity sectors = none → exec (.outerRebuildDone k j track sector) s = .next s)) ∧
  -- DECODER_FAULT
  (∀ j : Fin 16, s.awake = true → s.chip.recovering = [] →
    (bitAt (s.get F.LDP_STAT_DEC_FAILED) j.val = false →
      ∃ t, exec (.decoderFault false j) s = .next t ∧ SameBut (.ldpRegs :: .frames :: .dram :: eventParts) s t ∧
        bitAt (t.get F.LDP_STAT_DEC_FAILED) j.val = true ∧ t.chip.degraded.contains (.decoder j.val) = true) ∧
    (j.val < 4 → bitAt (s.get F.LDP_STAT_OUTER_FAILED) j.val = false →
      ∃ t, exec (.decoderFault true j) s = .next t ∧ SameBut (.ldpRegs :: eventParts) s t ∧
        bitAt (t.get F.LDP_STAT_OUTER_FAILED) j.val = true ∧ t.chip.degraded.contains (.outer j.val) = true))

/-- Training of the laser link, the start and end of a track, stops and resumption, verdicts and the clearing of a burst, and when a session
is not called for (R245 to R262, R322). -/
def Obligations.WritePathTrainsWritesAndStops : Prop := ∀ (s : State) (k : Fin 8),
  -- WSL_TRAIN
  (∀ m : Master, s.mayWrite m = true → s.writers[k].busy = false → s.writers[k].training = none → s.get (F.BAY_LASER_LIM_MAX k.val) ≠ 0 →
    ∃ t, exec (.wslTrain m k) s = .next t ∧ SameBut [.srvRegs, .wrpRegs, .out, .optics, .writers] s t ∧
      t.get (F.WRP_WSL_CTL_TRAIN k.val) = 1 ∧ t.get (F.WRP_STAT_STATE k.val) = 1 ∧
      t.writers[k].training = some { wasOn := s.optics[k].laser } ∧
      (s.get (F.BAY_OPT_STAT_LASER_TRIP k.val) = 0 → t.optics[k].laser = true) ∧
      t.out = s.out ++ [.wsl k.val (WslFrame.config (s.get (F.WRP_WSL_CTL_LAT k.val))).bits,
        let c := s.nv.eeproms[k].driveCode
        .wsl k.val (WslFrame.levels [c, 9 * c / 10, 8 * c / 10, 7 * c / 10]).bits]) ∧
  (∀ m : Master, s.mayWrite m = true → s.writers[k].busy = true →
    ∃ t, exec (.wslTrain m k) s = .next t ∧ SameBut (.wrpRegs :: eventParts) s t ∧
      t.get (F.WRP_STAT_CFG_REJECT k.val) = 1 ∧ Raised (Ev.wrp wrpCFG_REJECT) 0 k.val 0 s t) ∧
  -- TRACK_WRITE_START
  (∀ (entry : Nat) (d : Disc) (x : Session), s.channelsLive = true → s.discIn (bayOf k) = some d → s.bays[bayOf k].session = some x →
    s.writers[k].skipped = [] → s.mayBegin k x d = true → entry < sptOf (bandZone (d.sideBand (k.val % 2)).num) →
    ∃ t, exec (.trackWriteStart k entry) s = .next t ∧ SameBut [.wrpRegs, .discs, .writers, .cal] s t ∧
      t.writers[k].active = true ∧ t.writers[k].entry = entry ∧ t.writers[k].begun = 0 ∧ t.writers[k].reach = 0 ∧
      t.writers[k].track = bandTracks * bandZone (d.sideBand (k.val % 2)).num + (d.sideBand (k.val % 2)).track ∧
      t.get (F.WRP_STAT_STATE k.val) = 3) ∧
  (∀ entry : Nat, s.writers[k].skipped = [] → s.bayState (bayOf k).val ≠ bWRITING → s.bayState (bayOf k).val ≠ bREADY →
    exec (.trackWriteStart k entry) s = .next s) ∧
  -- TRACK_WRITE_END
  (s.channelsLive = true → s.writers[k].active = true → 57000 * s.writers[k].spt ≤ s.writers[k].reach → s.bayState (bayOf k).val = bWRITING →
    s.bays[bayOf k].parkLater = false →
    ∃ t, exec (.trackWriteEnd k) s = .next t ∧
      SameBut (.srvRegs :: .rchRegs :: .wrpRegs :: .calRegs :: .bayRegs :: .optRegs :: .discs :: .life :: .bays :: .spokes :: .optics ::
        .detectors :: .writers :: .cal :: eventParts) s t ∧
      t.writers[k].active = false ∧ t.writers[k].skipped = s.writers[k].skipped ∧ t.optics[k].gate = false ∧
      t.get (F.WRP_STAT_STATE k.val) = 4) ∧
  -- WRITE_STOP_AT_BOUNDARY
  (∀ written : Nat, s.channelsLive = true → s.mode ≠ mDRAIN → s.writers[k].active = true → written < s.writers[k].spt →
    s.writers[k].reach ≠ 0 → 57000 * written ≤ s.writers[k].reach → s.writers[k].stopAt = some 1 →
    s.get (F.WRP_STAT_RAW_BURST k.val) = 0 → s.bayState (bayOf k).val = bWRITING → s.bays[bayOf k].parkLater = false →
    ∃ t, exec (.writeStopAtBoundary k written) s = .next t ∧
      SameBut (.rchRegs :: .wrpRegs :: .calRegs :: .bayRegs :: .bays :: .spokes :: .optics :: .detectors :: .writers :: .cal :: eventParts) s t ∧
      t.writers[k].active = false ∧ t.writers[k].stopAt = none ∧ t.optics[k].gate = false ∧ t.get (F.WRP_STAT_STATE k.val) = 5 ∧
      t.writers[k].skipped = s.writers[k].skipped ++ [⟨s.writers[k].track, firstUnwritten s.writers[k].entry s.writers[k].spt written, 1⟩] ∧
      (s.writers[k].started = true → 57000 * written < s.writers[k].reach → .wsl k.val WslFrame.abort.bits ∈ t.out) ∧
      Counted (Ev.wrp wrpWRITE_SUSPENDED) s t) ∧
  -- WRITE_SESSION_RESUME
  (∀ (b : Fin 4) (x : Session) (d : Disc), s.drivesTake = true → s.bays[b].session = some x → s.discIn b = some d → x.suspended = true →
    s.bayState b.val = bREADY ∨ s.bayState b.val = bREADING → s.get F.CAL_THERM_LEVEL < 3 →
    ∃ t, exec (.writeSessionResume b) s = .next t ∧
      SameBut (.srvRegs :: .stpRegs :: .rchRegs :: .calRegs :: .bayRegs :: .optRegs :: .discs :: .bays :: .optics :: .axes :: .writers ::
        .cal :: eventParts) s t ∧
      t.bayState b.val = bWRITING ∧ t.bays[b].paused = [] ∧
      ∃ y, t.bays[b].session = some y ∧ y.suspended = false ∧ y.disc = x.disc ∧ y.staged = x.staged) ∧
  -- RAW_VERDICT
  (∀ track sector : Nat, (s.channelsLive || s.writers[k].tLane) = true →
    let x := s.tFrame k track sector
    ∃ t, exec (.rawVerdict k (.data track sector)) s = .next t ∧
      t.get (F.WRP_RAW_LAST_SYNC_MISSED k.val) = (!x.found).toNat ∧ t.get (F.WRP_RAW_LAST_TIMING_LIMIT k.val) = x.timingLimit.toNat ∧
      ((x.found && !x.timingLimit && !x.lost) = false → t.get (F.WRP_RAW_LAST_PASS k.val) = 0) ∧
      ∀ w : Nat, (s.checkFrame k x).weight = some w →
        t.get (F.WRP_RAW_LAST_WEIGHT k.val) = w ∧
        t.get (F.WRP_RAW_LAST_PASS k.val) =
          (x.found && !x.timingLimit && !x.lost && decide (w ≤ s.get (F.WRP_RAW_CTL_PASS_MAX k.val))).toNat) ∧
  (∀ (track sector : Nat) (c : Fin 2), ∀ f ∈ [RawFrame.relocated track sector, .directory c, .passport c], s.writers[k].job = none → exec (.rawVerdict k f) s = .next s) ∧
  -- RAW_BURST_CLEAR
  (∀ m : Master, s.mayWrite m = true →
    ∃ t, exec (.rawBurstClear m k) s = .next t ∧ SameBut [.wrpRegs] s t ∧ t.get (F.WRP_STAT_RAW_BURST k.val) = 0 ∧
      t.get (F.WRP_STAT_WR_DISABLED k.val) = (s.get (F.WRP_WSL_STAT_RESULT k.val) == 3).toNat)

/-- A scheduled calibration begins, its first estimate is kept and two that agree are applied; speed windows end; samples of the junction
take the part into and out of throttle levels (R267 to R279). -/
def Obligations.CalibrationAndThrottlingFollowTheirRules : Prop := ∀ s : State, s.awake = true →
  -- CALIBRATION_DUE
  (∀ (n : Fin 12) (elem : Nat), s.get F.CAL_CTL_ENABLE = 1 → calElement n.val elem = true → s.calDue n.val elem = true →
    s.calState n.val elem = true → s.calPinned n.val elem = false → s.calBusy n.val elem = false →
    ∃ t, exec (.calibrationDue n elem) s = .next t ∧ SameBut [.calRegs, .writers, .cal] s t ∧
      t.cal.runs = s.cal.runs ++ [{ kind := n.val, elem := elem }] ∧ t.get F.CAL_STAT_BUSY = 1 ∧
      t.get F.CAL_STAT_KIND = n.val) ∧
  (∀ (n : Fin 12) (elem : Nat), s.get F.CAL_CTL_ENABLE = 0 ∨ s.calDue n.val elem = false ∨ s.calBusy n.val elem = true → s.cal.requested = [] →
    exec (.calibrationDue n elem) s = .next s) ∧
  -- CAL_ESTIMATE_DONE
  (∀ (n : Fin 12) (elem : Nat) (values : List Int) (r : CalRun), s.insts = [] → s.calState n.val elem = true →
    s.cal.runs.find? (fun r => r.kind == n.val && r.elem == elem) = some r → r.estimates = [] →
    ∃ t, exec (.calEstimateDone n elem values) s = .next t ∧ SameBut (.cal :: settleParts) s t ∧
      t.cal.runs = s.cal.runs.map (fun x => if x.kind == n.val && x.elem == elem then { x with estimates := [values] } else x)) ∧
  (∀ (n : Fin 12) (elem : Nat) (values : List Int) (r : CalRun), s.insts = [] → s.calState n.val elem = false →
    s.cal.runs.find? (fun r => r.kind == n.val && r.elem == elem) = some r →
    ∃ t, exec (.calEstimateDone n elem values) s = .next t ∧ SameBut (.calRegs :: .cal :: settleParts) s t ∧
      t.get (F.CAL_LAST_ELEM_RESULT n.val) = calABORTED ∧
      t.cal.runs = s.cal.runs.filter (fun r => !(r.kind == n.val && r.elem == elem))) ∧
  (∀ (m : Fin 8) (a b : Int) (r : CalRun), s.insts = [] → s.calState 11 m.val = true →
    s.cal.runs.find? (fun r => r.kind == 11 && r.elem == m.val) = some r → r.estimates = [[a]] → (a - b).natAbs ≤ 2 →
    0 ≤ a → a ≤ 16383 → 0 ≤ b → b ≤ 16383 →
    ∃ t, exec (.calEstimateDone 11 m.val [b]) s = .next t ∧ SameBut (.motRegs :: .calRegs :: .cal :: settleParts) s t ∧
      t.get (F.MOT_SHUNT_OFS_OFS m.val) = (floorDiv (a + b) 2).toNat ∧ t.get (F.CAL_LAST_ELEM_RESULT 11) = calAPPLIED ∧
      t.cal.runs = s.cal.runs.filter (fun r => !(r.kind == 11 && r.elem == m.val))) ∧
  -- SPEED_WINDOW_END
  (∀ b : Fin 4, s.get F.CAL_CTL_ENABLE = 0 →
    ∃ t, exec (.speedWindowEnd b) s = .next t ∧ SameBut [.cal] s t ∧ t.cal.entries[b] = 0 ∧
      t.cal.windows = s.cal.windows) ∧
  (∀ b : Fin 4, s.get F.CAL_CTL_ENABLE = 1 → s.speedPin b.val = 0 → s.cal.entries[b] < s.get F.CAL_SPEED_DOWN →
    s.get F.CAL_SPEED_UP < s.cal.entries[b] →
    ∃ t, exec (.speedWindowEnd b) s = .next t ∧ SameBut [.cal] s t ∧ t.cal.entries[b] = 0 ∧
      t.cal.windows[b] = 0) ∧
  (∀ b : Fin 4, s.get F.CAL_CTL_ENABLE = 1 → s.speedPin b.val = 0 → s.cal.entries[b] < s.get F.CAL_SPEED_DOWN →
    s.cal.entries[b] ≤ s.get F.CAL_SPEED_UP → s.cal.windows[b] + 1 < s.get F.CAL_SPEED_UP_WINDOWS →
    ∃ t, exec (.speedWindowEnd b) s = .next t ∧ SameBut [.cal] s t ∧ t.cal.entries[b] = 0 ∧
      t.cal.windows[b] = s.cal.windows[b] + 1) ∧
  -- THERMAL_SAMPLE
  (∀ c : Int, throttleLevel c ≤ s.get F.CAL_THERM_LEVEL →
    ∃ t, exec (.thermalSample c) s = .next t ∧ SameBut [.calRegs, .life] s t ∧ t.geti F.CAL_THERM_TEMP = satInt 8 c ∧
      t.life.maxTemp = max s.life.maxTemp c ∧ t.get F.CAL_THERM_LEVEL = s.get F.CAL_THERM_LEVEL) ∧
  (∀ c : Int, s.get F.CAL_THERM_LEVEL < throttleLevel c →
    ∃ t, exec (.thermalSample c) s = .next t ∧ t.get F.CAL_THERM_LEVEL = throttleLevel c ∧ t.geti F.CAL_THERM_TEMP = satInt 8 c ∧
      Counted Ev.THERMAL_THROTTLE s t) ∧
  -- THROTTLE_EXIT
  (∀ (c : Int) (l : Nat), s.get F.CAL_THERM_LEVEL = l → 1 ≤ l → l ≤ 3 → c + 3 ≤ throttleEntry l →
    ∃ t, exec (.throttleExit c) s = .next t ∧ t.get F.CAL_THERM_LEVEL = l - 1 ∧ t.geti F.CAL_THERM_TEMP = satInt 8 c ∧
      Counted Ev.THERMAL_THROTTLE s t)

/-- Page programs, erases and reads of the landing zone, collection, the gate on completions, and failures and rebuilds of LUNs (R286 to R306,
R488). -/
def Obligations.LandingZoneProgramsErasesAndReads : Prop := ∀ s : State, s.awake = true →
  -- FLASH_PROGRAM_DONE
  (∀ (took : Nat) (b : LBlock), s.mayProgram = true → s.zone = zNORMAL → s.insts = [] → s.cache = [] → s.flash.copies = [] →
    s.flash.blocks.find? (fun b => (b.state == .openData || b.state == .openLog) && decide (15 ≤ b.filled)) = some b →
    b.closing = false → b.row + 1 < s.dataRows → s.get F.FLZ_STAT_IDLE_GC_RUN = 0 → s.get F.FLZ_GC_THR_LOW ≤ s.freeBlocks →
    1 ≤ s.freeBlocks →
    ∃ t, exec (.flashProgramDone true took) s = .next t ∧ SameBut (.flash :: settleParts) s t ∧
      t.get F.FLZ_PROG_CNT_CNT = (s.get F.FLZ_PROG_CNT_CNT + 1) % 2 ^ 64 ∧
      t.nv.sys.pages = s.nv.sys.pages ++ [{ lblock := b.num, row := b.row, pos := b.row % 16, kind := 0x10 }]) ∧
  (∀ (ok : Bool) (took : Nat), s.get F.FLZ_CTL_ENABLE = 0 → exec (.flashProgramDone ok took) s = .next s) ∧
  -- FLASH_ERASE_DONE
  (∀ (n : Nat) (b : LBlock), s.block n = some b → b.state = .erasing → s.zone = zNORMAL → s.insts = [] → s.flash.spareRise = 0 →
    s.get F.FLZ_STAT_IDLE_GC_RUN = 0 → s.get F.FLZ_GC_THR_LOW ≤ s.freeBlocks →
    (b.members.any (fun m => s.lunFailed m.1 || s.nv.sys.retired.contains m) = false →
      ∃ t, exec (.flashEraseDone n []) s = .next t ∧
        (t.block n).any (fun x => x.state == .free && x.filled == 0 && x.row == 0 && x.members == b.members) = true) ∧
    ∃ t, exec (.flashEraseDone n []) s = .next t ∧ SameBut (.flash :: settleParts) s t ∧
      t.nv.sys.pages = s.nv.sys.pages.filter (fun p => p.lblock != n) ∧
      t.get F.FLZ_ERASE_CNT_CNT = (s.get F.FLZ_ERASE_CNT_CNT + b.members.length) % 2 ^ 64) ∧
  -- FLASH_READ_DONE
  (∀ (n row pos c : Nat) (p : Page), s.insts = [] →
    s.nv.sys.pages.find? (fun p => (p.lblock, p.row, p.pos) == (n, row, pos)) = some p → 0 < c → c ≤ s.strength n →
    c ≤ (if s.get F.FLZ_ECC_CTL_REFRESH = 0 then s.strength n / 2 else s.get F.FLZ_ECC_CTL_REFRESH) →
    ∃ t, exec (.flashReadDone n row pos (some c) false) s = .next t ∧ SameBut settleParts s t ∧
      t.get F.FLZ_ECC_CORR_CNT_CNT = (s.get F.FLZ_ECC_CORR_CNT_CNT + c) % 2 ^ 64 ∧
      t.get F.FLZ_ECC_MAX_MAX = max c (s.get F.FLZ_ECC_MAX_MAX) % 2 ^ 10 ∧ t.nv.sys.pages = s.nv.sys.pages) ∧
  (∀ (n row pos : Nat) (c : Option Nat) (r : Bool),
    s.nv.sys.pages.find? (fun p => (p.lblock, p.row, p.pos) == (n, row, pos)) = none →
    exec (.flashReadDone n row pos c r) s = .next s) ∧
  -- IDLE_COLLECTION_START
  (s.get F.FLZ_CTL_ENABLE = 1 → s.zone ≠ zFROZEN → s.idleGc = true →
    ∃ t, exec .idleCollectionStart s = .next t ∧ SameBut (.flzRegs :: .nv :: .flash :: eventParts) s t ∧
      t.get F.FLZ_STAT_IDLE_GC_RUN = 1 ∧ (s.flash.copies ≠ [] → t = s.put F.FLZ_STAT_IDLE_GC_RUN 1)) ∧
  (s.get F.FLZ_CTL_ENABLE = 0 ∨ s.zone = zFROZEN → exec .idleCollectionStart s = .next s) ∧
  -- GATED_COMPLETION_POST
  (∀ (id : Nat) (i : Inst), s.inst id = some i → i.stage = .gated → s.gateOpen i = true → i.orphan = false → i.demoted = false →
    (∃ r ∈ s.fns[i.fn].cqs, r.num = i.cq) → s.quietBut id →
    ∃ t, exec (.gatedCompletionPost id) s = .next t ∧ SameBut (.flash :: settleParts) s t ∧ t.finished i i.code i.dw0) ∧
  (∀ (id : Nat) (i : Inst), s.inst id = some i → s.gateOpen i = false → s.mode ≠ mDRAIN →
    exec (.gatedCompletionPost id) s = .next s) ∧
  -- LUN_STATUS_TIMEOUT
  (∀ n : Fin 256, s.insts = [] → s.chip.recovering = [] → s.lunFailed n.val = false → s.flash.luns.any (fun l => l.lun == n.val) = true →
    ∃ t, exec (.lunStatusTimeout n false) s = .next t ∧ SameBut (.flash :: settleParts) s t ∧
      t.nv.sys.failedLuns = s.nv.sys.failedLuns ++ [n.val] ∧ bitAt (t.get (F.FLZ_LUN_FAILED_MASK (n.val / 32))) (n.val % 32) = true ∧
      t.get F.FLZ_STAT_REBUILDING = 1 ∧ t.flash.luns = s.flash.luns.filter (fun l => l.lun != n.val)) ∧
  (∀ n : Fin 256, s.insts = [] → (∀ l ∈ s.flash.luns, l.lun / 32 ≠ n.val / 32) →
    ∃ t, exec (.lunStatusTimeout n true) s = .next t ∧ SameBut (.flash :: settleParts) s t ∧
      bitAt (t.get F.FLZ_CH_STAT_FAILED) (n.val / 32) = true ∧ t.chip.degraded.contains (.channel (n.val / 32)) = true) ∧
  -- LUN_REBUILD_DONE
  (∀ n : Fin 256, s.flash.rebuilding.contains n.val = true →
    s.flash.blocks.any (fun b => b.members.any (fun m => m.1 == n.val) && !(s.validPages b.num).isEmpty) = false →
    ∃ t, exec (.lunRebuildDone n) s = .next t ∧ SameBut (.flzRegs :: .flash :: eventParts) s t ∧
      t.flash.rebuilding = s.flash.rebuilding.filter (· != n.val) ∧ Raised Ev.FLZ_REBUILD_DONE 0 n.val 0 s t ∧
      (t.flash.rebuilding = [] → t.get F.FLZ_STAT_REBUILDING = 0 ∧ t.get F.FLZ_REBUILD_ACTIVE = 0))

/-- Write sessions start when they are due and not otherwise, or request their disc; scrubs fall due and end (R320, R322, R333 to R339). -/
def Obligations.StewardshipStartsSessionsAndScrubs : Prop := ∀ s : State,
  -- DESTAGE_SESSION_START and DESTAGE_AGE_EXPIRY
  (∀ vol : Nat, s.sessionDue vol = false → exec (.destageSessionStart vol) s = .next s) ∧
  (∀ (vol : Nat) (d : Disc) (b : Fin 4), s.drivesTake = true → s.insts = [] →
    (s.discsOf vol).filter (fun d => decide (0 < d.writable) && !d.compacting) = [d] → d.bay = some b →
    s.bayState b.val = bREADY ∨ s.bayState b.val = bREADING → s.bays[b].session = none →
    (opusOf b).all (fun k => s.get (F.WRP_CTL_WR_HOLD k.val) == 0) = true →
    (s.sessionDue vol = true →
      ∃ t, exec (.destageSessionStart vol) s = .next t ∧
        SameBut (.srvRegs :: .rchRegs :: .wrpRegs :: .calRegs :: .bayRegs :: .optRegs :: .free :: .seqno :: .requests :: .flash :: .bays ::
          .optics :: .detectors :: .writers :: .cal :: .dram :: settleParts) s t ∧
        t.bayState b.val = bWRITING ∧ t.bays[b].session.any (fun x => x.disc == d.id && x.vol == vol && !x.suspended) = true) ∧
    (s.policy pDESTAGE_AGE * 1000000 < s.oldestWait vol →
      ∃ t, exec (.destageAgeExpiry vol) s = .next t ∧
        SameBut (.srvRegs :: .rchRegs :: .calRegs :: .bayRegs :: .optRegs :: .requests :: .flash :: .bays :: .optics :: .detectors :: .cal ::
          .dram :: settleParts) s t ∧
        t.bayState b.val = bWRITING ∧ t.bays[b].session.any (fun x => x.disc == d.id && x.vol == vol && !x.suspended) = true)) ∧
  (∀ (vol : Nat) (d : Disc), s.drivesTake = true → s.insts = [] →
    (s.discsOf vol).filter (fun d => decide (0 < d.writable) && !d.compacting) = [d] → d.bay = none →
    s.requests.any (fun r => r.disc == d.id && r.reason == reasonDESTAGE) = false →
    (s.sessionDue vol = true → (∀ b : Fin 4, s.bays[b].session.any (fun x => x.vol == vol) = false) →
      ∃ t, exec (.destageSessionStart vol) s = .next t ∧ SameBut (.requests :: settleParts) s t ∧
        t.requests = s.requests ++ [⟨d.id, vol, reasonDESTAGE⟩] ∧ Counted Ev.DISC_NEEDED s t) ∧
    (s.policy pDESTAGE_AGE * 1000000 < s.oldestWait vol → (∀ e ∈ s.extents, e.mergeWait = false) →
      ∃ t, exec (.destageAgeExpiry vol) s = .next t ∧ SameBut (.requests :: settleParts) s t ∧
        t.requests = s.requests ++ [⟨d.id, vol, reasonDESTAGE⟩] ∧ Counted Ev.DISC_NEEDED s t)) ∧
  -- SCRUB_DUE
  (∀ (disc now due : Nat) (d : Disc), s.awake = true → s.disc disc = some d → s.utc = some now → s.scrubAt d = some due → due ≤ now →
    d.bay.isSome = true →
    ∃ t, exec (.scrubDue disc) s = .next t ∧ SameBut [.discs] s t ∧
      (t.disc disc).any (fun d => d.scrubRunning && d.scrubDueNow) = true) ∧
  (∀ (disc now due : Nat) (d : Disc), s.awake = true → s.disc disc = some d → s.utc = some now → s.scrubAt d = some due →
    due ≤ now + daySeconds * s.policy pSCRUB_NOTICE → d.bay = none →
    s.requests.any (fun r => r.disc == disc && r.reason == reasonSCRUB) = false →
    ∃ t, exec (.scrubDue disc) s = .next t ∧ SameBut (.discs :: .requests :: eventParts) s t ∧
      t.requests = s.requests ++ [⟨disc, d.vol, reasonSCRUB⟩] ∧ Raised Ev.DISC_NEEDED reasonSCRUB 0 (disc + 2 ^ 64 * d.vol) s t) ∧
  -- SCRUB_COMPLETE
  (∀ (disc : Nat) (d : Disc), s.awake = true → s.disc disc = some d → d.scrubRunning = true → d.bay.isSome = true →
    ∃ t, exec (.scrubComplete disc) s = .next t ∧
      SameBut (.flzRegs :: .cache :: .discs :: .requests :: .dram :: eventParts) s t ∧
      (t.disc disc).any (fun x => !x.scrubRunning && !x.scrubDueNow && x.lastScrub == s.timeStamp && x.scrub.isEmpty &&
        x.margins == ((s.timeStamp, d.scrub.filterMap (fun y => y.margin.map (fun m => (y.band, m)))) :: d.margins).take 3) = true ∧
      (∀ r ∈ t.requests, r.disc = disc → r.reason ≠ reasonSCRUB) ∧ (∀ r ∈ s.requests, r.disc ≠ disc → r ∈ t.requests))

/-- Doorbells move a ring's tail or head, or are ignored with HST_DOORBELL_IGNORED (R344); an instruction is fetched from the head of its
ring (R345, R440) or the function is fatal (R429); a queued instruction starts, or completes with what checks 1 to 3 find (R355, R450); a staged
completion is written while its ring has room, with its phase bit, and its ring's tail advances (R346, R350). -/
def Obligations.RingsFetchStartAndPost : Prop := ∀ (s : State) (f : Fin 4),
  -- SQ_DOORBELL
  (∀ (n : Fin 64) (tail : Word) (r : SubRing), s.fns[f].sq n.val = some r → s.get (F.HST_FN_STAT_READY f.val) = 1 →
    tail.toNat < 2 ^ r.k → (r.tail + 2 ^ r.k - r.head) % 2 ^ r.k ≤ (tail.toNat + 2 ^ r.k - r.head) % 2 ^ r.k →
    ∃ t, exec (.sqDoorbell f n tail) s = .next t ∧ SameBut [.hstRegs, .fns] s t ∧
      t.fns[f].sq n.val = some { r with tail := tail.toNat } ∧ t.fns[f].cqs = s.fns[f].cqs ∧
      ∀ g : Fin 4, g ≠ f → t.fns[g] = s.fns[g]) ∧
  (∀ (n : Fin 64) (tail : Word), s.fns[f].sq n.val = none ∨ s.get (F.HST_FN_STAT_READY f.val) = 0 →
    ∃ t, exec (.sqDoorbell f n tail) s = .next t ∧ SameBut eventParts s t ∧ t.fns[f].sqs = s.fns[f].sqs ∧
      Raised (Ev.port (f.val / 2) hDOORBELL_IGNORED) 0 (f.val % 2) 0 s t) ∧
  -- CQ_HEAD_DOORBELL
  (∀ (n : Fin 64) (head : Word) (r : ComRing), s.fns[f].cqOf n.val = some r → s.get (F.HST_FN_STAT_READY f.val) = 1 →
    head.toNat < 2 ^ r.k → (head.toNat + 2 ^ r.k - r.head) % 2 ^ r.k ≤ (r.tail + 2 ^ r.k - r.head) % 2 ^ r.k →
    ∃ t, exec (.cqHeadDoorbell f n head) s = .next t ∧ SameBut [.hstRegs, .out, .fns] s t ∧
      t.fns[f].cqOf n.val = some { r with head := head.toNat } ∧ t.fns[f].sqs = s.fns[f].sqs ∧
      (head.toNat = r.tail → t.out = s.out)) ∧
  (∀ (n : Fin 64) (head : Word), s.fns[f].cqOf n.val = none →
    ∃ t, exec (.cqHeadDoorbell f n head) s = .next t ∧ SameBut eventParts s t ∧
      Raised (Ev.port (f.val / 2) hDOORBELL_IGNORED) 0 (f.val % 2) 0 s t) ∧
  -- INSTRUCTION_FETCH
  (∀ (n : Fin 64) (desc : BitVec 512) (r : SubRing) (q : Nat), s.fns[f].sq n.val = some r → s.fetches f n.val = true →
    r.head ≠ r.tail → s.sequencerFor = some q →
    ∃ t i, exec (.instructionFetch f n desc true) s = .next t ∧
      SameBut [.hstRegs, .strands, .discs, .fns, .insts, .nextId] s t ∧ t.nextId = s.nextId + 1 ∧ t.insts = s.insts ++ [i] ∧
      i.id = s.nextId ∧ i.fn = f ∧ i.sq = n.val ∧ i.cq = r.cq ∧ i.desc = desc ∧ i.stage = .queued ∧ i.sequencer = q ∧
      (t.fns[f].sq n.val).map SubRing.head = some ((r.head + 1) % 2 ^ r.k)) ∧
  (∀ (n : Fin 64) (desc : BitVec 512) (ok : Bool), s.fetches f n.val = false → exec (.instructionFetch f n desc ok) s = .next s) ∧
  (∀ (n : Fin 64) (desc : BitVec 512) (r : SubRing) (q : Nat), s.fns[f].sq n.val = some r → s.fetches f n.val = true →
    r.head ≠ r.tail → s.sequencerFor = some q → s.insts = [] →
    ∃ t, exec (.instructionFetch f n desc false) s = .next t ∧ SameBut settleParts s t ∧ t.get (F.HST_FN_STAT_FATAL f.val) = 1 ∧
      t.get (F.HST_FN_STAT_READY f.val) = 0 ∧ t.get (F.HST_FN_CTL_ENABLE f.val) = 0 ∧ t.fns[f].sqs = [] ∧ t.fns[f].cqs = []) ∧
  -- INSTRUCTION_DISPATCH
  (∀ (id : Nat) (i : Inst), s.inst id = some i → i.stage = .queued → s.get F.SEQ_STAT_RUN = 1 → s.mayStart i = true → i.chain = none →
    s.quietBut id →
    (s.checkOpcode i = none → i.class_ ≠ 0 →
      ∃ t, exec (.instructionDispatch id) s = .next t ∧ SameBut settleParts s t ∧
        t.inst id = some { i with stage := .dispatched, startedAt := s.now }) ∧
    (∀ x : Nat × Nat, s.checkOpcode i = some x → i.orphan = false → (∃ r ∈ s.fns[i.fn].cqs, r.num = i.cq) →
      ∃ t, exec (.instructionDispatch id) s = .next t ∧ SameBut settleParts s t ∧ t.finished i x.1 x.2)) ∧
  -- COMPLETION_POST
  (∀ (n : Fin 64) (r : ComRing) (c : Completion) (l : List Completion), s.fns[f].cqOf n.val = some r → r.waiting = c :: l →
    (r.held + 1 < 2 ^ r.k → s.quiet →
      ∃ t o, exec (.completionPost f n true) s = .next t ∧ SameBut settleParts s t ∧
        t.out = s.out ++ .completion f.val n.val r.tail
          (completionWord c (((s.fns[f].sq c.sq).map SubRing.head).getD 0) (s.attention f) r.phase) :: o ∧
        t.fns[f].cqOf n.val = some { r with
          waiting := l, tail := if r.tail + 1 = 2 ^ r.k then 0 else r.tail + 1, phase := xor r.phase (r.tail + 1 == 2 ^ r.k) }) ∧
    (2 ^ r.k ≤ r.held + 1 → ∀ ok : Bool, exec (.completionPost f n ok) s = .next s))

/-- NOP completes; OPEN_STRAND takes the lowest free number, or adopts; CREATE_VOLUME, QUERY_VOLUME and QUERY_STRAND complete with what the
tables of R375 to R380, R388 and R389 state. Each needs its checks of R355 to pass (R373, R375, R376, R380, R388, R389). -/
def Obligations.StrandsAndVolumesAreMadeAndQueried : Prop := ∀ (s : State) (id : Nat) (i : Inst),
  -- NOP
  (s.ready id opNOP i → i.checkFields ⟨false, false, false, none, 0, false, none⟩ [] ⟨[], true, [], false⟩ = none →
    ∃ t, exec (.nop id) s = .next t ∧ SameBut settleParts s t ∧ t.finished i cSUCCESS 0) ∧
  -- OPEN_STRAND and OPEN_STRAND_ADOPT
  (∀ (n : Nat) (v : Volume), s.ready id opOPEN i → firstFail (s.checkOpen i) = none → bitAt i.operand 2 = false →
    s.freeStrandNum = some n → s.volumes.find? (fun v => v.num == i.volume) = some v → (∀ c ∈ s.cache, c.strand ≠ n) →
    ∃ t, exec (.openStrand id) s = .next t ∧ SameBut settleParts s t ∧ t.finished i cSUCCESS n ∧
      (t.strand n).any (fun y => y.vol == i.volume && y.owner == i.fn && y.state == .opened && y.sectors == 0 &&
        y.compress == (i.operand % 4 == 2 || (i.operand % 4 == 0 && v.compress)) && y.digest == Running.empty &&
        y.openTime == s.timeStamp) = true) ∧
  (∀ x : Strand, s.ready id opOPEN i → firstFail (s.checkOpen i) = none → bitAt i.operand 2 = true →
    s.strand i.strand = some x → s.mayAdopt i.fn x = true → x.vol = i.volume →
    ∃ t, exec (.openStrandAdopt id) s = .next t ∧ SameBut settleParts s t ∧ t.finished i cSUCCESS i.strand ∧
      (t.strand i.strand).any (fun y => y.owner == i.fn && y.vol == x.vol && y.state == .opened) = true) ∧
  -- QUERY_STRAND
  (∀ (x : Strand) (mem : HostMem), s.ready id opQUERYS i → hostGood mem →
    i.checkFields ⟨true, true, false, none, 1, true, none⟩ [] mem = none → s.checkVolume i = none → s.checkOwnStrand i = none →
    i.checkBuffer 128 mem = none → s.strand i.strand = some x →
    (bitAt i.operand 0 = false → ∃ t, exec (.queryStrand id mem) s = .next t ∧ SameBut settleParts s t ∧ t.finished i cSUCCESS 0 ∧
      wroteBuffer id (s.strandRecord x) s t ∧ (t.strand i.strand).any (fun y => !y.deferred && y.state == x.state) = true) ∧
    (bitAt i.operand 0 = true → x.state = .closed ∨ x.state = .sealed →
      ∃ t, exec (.queryStrand id mem) s = .next t ∧ SameBut (.deferred :: settleParts) s t ∧ t.finished i cSUCCESS 0 ∧
        wroteBuffer id (s.strandRecord x) s t ∧ t.strand i.strand = none)) ∧
  -- CREATE_VOLUME
  (s.ready id opCREATEV i → i.checkFields ⟨false, true, false, none, 15, false, some (36, 16)⟩ [] ⟨[], true, [], false⟩ = none →
    2 ≤ i.operand % 8 → i.operand % 8 ≤ 4 → s.deleting i.volume i.id = false → (∀ v ∈ s.volumes, v.num ≠ i.volume) →
    (∀ j ∈ s.insts, j.id < id → j.opcode = opCREATEV → j.volume ≠ i.volume) →
    ∃ t, exec (.createVolume id) s = .next t ∧ SameBut (.seqno :: .volumes :: settleParts) s t ∧ t.finished i cSUCCESS s.nextSeq ∧
      t.nextSeq = s.nextSeq + 1 ∧
      t.volumes = s.volumes ++ [⟨i.volume, i.operand % 8, bitAt i.operand 3, BitVec.ofNat 128 (i.bytesAt 36 16), s.nextSeq,
        s.timeStamp, false⟩]) ∧
  -- QUERY_VOLUME
  (∀ (v : Volume) (mem : HostMem), s.ready id opQUERYV i → hostGood mem →
    i.checkFields ⟨false, true, false, none, 0, true, none⟩ [] mem = none → s.checkVolume i = none → i.checkBuffer 128 mem = none →
    s.volumes.find? (fun v => v.num == i.volume) = some v →
    ∃ t, exec (.queryVolume id mem) s = .next t ∧ SameBut settleParts s t ∧ t.finished i cSUCCESS 0 ∧
      wroteBuffer id (s.volumeRecord v) s t)

/-- FLUSH completes at once with nothing to land and waits while a sector that it covers is only in DRAM; CLOSE_STRAND and SEAL_STRAND end
with nothing left to wait for; DELETE_VOLUME takes a volume away; RETIRE_RANGE makes a range read as unwritten (R363, R378, R379, R387,
R390, R391). -/
def Obligations.WaitingDataCommandsEnd : Prop := ∀ (s : State) (id : Nat) (i : Inst),
  -- FLUSH, scope LANDING
  (s.ready id opFLUSH i → i.checkFields ⟨true, false, false, none, 1, false, none⟩ [] ⟨[], true, [], false⟩ = none →
    s.checkSomeStrand i = none → i.operand = 0 → s.zone ≠ zFROZEN →
    (s.cache = [] → (∀ c ∈ i.covers, s.lostIn c = 0) →
      ∃ t, exec (.flush id) s = .next t ∧ SameBut (.flash :: settleParts) s t ∧ t.finished i cSUCCESS 0) ∧
    ((∃ c ∈ i.covers, s.pendingLanding c = true) →
      ∃ t, exec (.flush id) s = .next t ∧ SameBut (.flash :: settleParts) s t ∧
        (t.inst id).any (fun j => j.stage == .waiting && j.data == [0] && j.covers == i.covers) = true)) ∧
  -- CLOSE_STRAND
  (∀ (x : Strand) (mem : HostMem), s.ready id opCLOSE i → hostGood mem →
    i.checkFields ⟨true, true, false, none, 0, true, none⟩ [] mem = none → s.checkVolume i = none → s.checkOwnStrand i = none →
    i.checkBuffer 64 mem = none → s.strand i.strand = some x → s.cache = [] →
    (x.state = .opened → x.digestPoisoned = false → (∀ j ∈ s.insts, j.opcode = opWRITE → j.strand ≠ i.strand) →
      ∃ t, exec (.closeStrand id mem) s = .next t ∧ SameBut (.flash :: settleParts) s t ∧ t.finished i cSUCCESS 0 ∧
        wroteBuffer id (summaryBytes x) s t ∧
        (t.strand i.strand).any (fun y => y.state == .closed && y.closeTime == s.timeStamp && y.digest == x.digest) = true) ∧
    (x.state = .closed ∨ x.state = .sealed →
      ∃ t, exec (.closeStrand id mem) s = .next t ∧ SameBut (.flash :: settleParts) s t ∧ t.finished i cNO_CHANGE 0 ∧
        wroteBuffer id (summaryBytes x) s t)) ∧
  -- SEAL_STRAND
  (∀ (x : Strand) (mem : HostMem), s.ready id opSEAL i → hostGood mem →
    i.checkFields ⟨true, true, false, none, 0, true, none⟩ [] mem = none → s.checkVolume i = none → s.checkOwnStrand i = none →
    i.checkBuffer 256 mem = none → s.chip.degraded.contains .identity = false → s.strand i.strand = some x →
    x.state = .closed ∨ x.state = .sealed → s.cache = [] → s.nv.sys.pages = [] →
    (∀ r : List Byte, x.sealRecord = some r →
      ∃ t, exec (.sealStrand id mem) s = .next t ∧ SameBut settleParts s t ∧ t.finished i cNO_CHANGE 0 ∧ wroteBuffer id r s t) ∧
    (x.sealRecord = none → x.digestPoisoned = false → x.incomplete = false → x.lost = 0 →
      ∃ t, exec (.sealStrand id mem) s = .next t ∧ SameBut (.free :: settleParts) s t ∧ t.finished i cSUCCESS 0 ∧
        wroteBuffer id (s.sealBytes x ++ beBytes 64 (Config.identitySignature s.free (s.sealBytes x)).toNat) s t ∧
        (t.strand i.strand).any (fun y => y.state == .sealed && y.sealRecord ==
          some (s.sealBytes x ++ beBytes 64 (Config.identitySignature s.free (s.sealBytes x)).toNat)) = true)) ∧
  -- DELETE_VOLUME
  (s.ready id opDELETEV i → i.checkFields ⟨false, true, false, none, 2 ^ 32 - 1, false, none⟩ [] ⟨[], true, [], false⟩ = none →
    i.operand = s.createSeq i.volume % 2 ^ 32 → s.checkVolume i = none →
    (∀ t ∈ s.strands, t.vol = i.volume → t.state ≠ .opened ∧ t.state ≠ .closing) →
    (∀ j ∈ s.insts, j.id < id → j.volume = i.volume → j.opcode = opDELETEV) →
    (∀ b : Fin 4, s.bays[b].session.any (fun x => x.vol == i.volume) = false) →
    ∃ t, exec (.deleteVolume id) s = .next t ∧ SameBut (.volumes :: .deferred :: .requests :: .flash :: .bays :: settleParts) s t ∧
      t.finished i cSUCCESS 0 ∧ t.volumes = s.volumes.filter (fun x => x.num != i.volume) ∧
      (∀ e ∈ t.extents, e.vol ≠ i.volume) ∧ (∀ c ∈ t.cache, c.vol ≠ i.volume) ∧ (∀ d ∈ t.discs, d.vol ≠ i.volume) ∧
      (∀ x ∈ t.strands, x.vol ≠ i.volume) ∧ ∀ r ∈ t.requests, r.vol ≠ i.volume) ∧
  -- RETIRE_RANGE
  (s.ready id opRETIRE i → i.checkFields ⟨false, true, true, some (1, 2 ^ 32 - 1), 0, false, none⟩ [] ⟨[], true, [], false⟩ = none →
    s.checkVolume i = none →
    ∃ t, exec (.retireRange id) s = .next t ∧ SameBut (.volumes :: .flash :: settleParts) s t ∧
      t.finished i cSUCCESS ((s.extents.filter (fun e => e.vol == i.volume && decide (256 * e.ext < i.lsa + i.count) &&
        decide (i.lsa < 256 * e.ext + 256) && e.written &&& rangeMask i.lsa i.count e.ext != 0)).map (fun e =>
          onesOf (e.written &&& rangeMask i.lsa i.count e.ext))).sum ∧
      ∀ a, i.lsa ≤ a → a < i.lsa + i.count → t.written i.volume a = false)

/-- WRITE issues consecutive numbers in ascending LSA and puts its sectors in the write cache; its completion is posted with the first
number, or waits at the gate; under the limits of R299 and R300 it is posted at once. READ delivers what needs no disc, VERIFY transfers
nothing, and both end with DISC_NEEDED when a disc they need is not mounted (R300, R320, R381, R383, R384, R386). -/
def Obligations.SectorsAreWrittenAndRead : Prop := ∀ (s : State) (id : Nat) (i : Inst) (mem : HostMem),
  -- WRITE
  (∀ (data : List Sector) (x : Strand), s.ready id opWRITE i → hostGood mem → s.earlierWrite i = false →
    i.checkFields ⟨true, true, true, some (1, 65536), 0, true, none⟩ [] mem = none → s.checkOpenStrand i true = none →
    s.checkVolume i = none → i.checkBuffer (4096 * i.count) mem = none → s.strand i.strand = some x →
    s.demandWith i.volume i.lsa i.count x.compress ≤ s.writable i.volume →
    (∃ t, exec (.write id mem data) s = .next t ∧ SameBut (.seqno :: .volumes :: .flash :: settleParts) s t ∧
      t.nextSeq = s.nextSeq + i.count ∧
      (∀ k, k < i.count → ∃ c ∈ t.cache, c.vol = i.volume ∧ c.lsa = i.lsa + k ∧ c.seq = s.nextSeq + k ∧ c.strand = i.strand ∧
        c.data = data.getD k 0 ∧ c.stale = false ∧ c.poison = false) ∧
      (∀ k, k < i.count → t.written i.volume (i.lsa + k) = true) ∧
      (t.finished i cSUCCESS (s.nextSeq % 2 ^ 32) ∨
        (t.inst id).any (fun j => j.stage == .gated && j.code == cSUCCESS && j.dw0 == s.nextSeq % 2 ^ 32) = true)) ∧
    (i.cls ≠ 0 → s.zone = zNORMAL → s.get F.FLZ_GC_THR_LOW ≤ s.freeBlocks → (∀ j ∈ s.insts, j.stage ≠ .gated) →
      (∀ c ∈ s.cache, c.inst ≠ id) → 8 * (s.dramOnly + 4096 * i.count) ≤ 7 * s.dramLimit →
      ∃ t, exec (.write id mem data) s = .next t ∧ SameBut (.seqno :: .volumes :: .flash :: settleParts) s t ∧
        t.finished i cSUCCESS (s.nextSeq % 2 ^ 32))) ∧
  -- READ
  (s.ready id opREAD i → hostGood mem → i.checkFields ⟨true, true, true, some (1, 65536), 0, true, none⟩ [] mem = none →
    s.checkSomeStrand i = none → s.checkVolume i = none → i.salvage = false → i.checkBuffer (4096 * i.count) mem = none →
    s.mode ≠ mSAFE →
    (∀ l : List Found, s.discNeeds i false = [] → allSome ((List.range i.count).map (fun k => s.findSector i false (i.lsa + k))) = some l →
      (∀ f ∈ l, f.poison = false) →
      ∃ t, exec (.read id mem) s = .next t ∧ SameBut settleParts s t ∧ t.finished i cSUCCESS 0 ∧
        ∃ o, t.out = s.out ++ .sectors id (l.map Found.data) :: o) ∧
    (∀ (a d : Nat) (l : List (Nat × Nat)), s.discNeeds i false = (a, d) :: l → (s.disc d).bind Disc.bay = none →
      ∃ t, exec (.read id mem) s = .next t ∧ SameBut (.requests :: settleParts) s t ∧ t.finished i cDISC_NEEDED (d % 2 ^ 32) ∧
        t.requests.any (fun r => r.disc == d && r.reason == reasonREAD) = true)) ∧
  -- VERIFY
  (s.ready id opVERIFY i → i.checkFields ⟨true, true, true, some (1, 65536), 1, false, none⟩ [] ⟨[], true, [], false⟩ = none →
    s.checkSomeStrand i = none → s.checkVolume i = none → s.mode ≠ mSAFE →
    (∀ l : List Found, s.discNeeds i (bitAt i.operand 0) = [] →
      allSome ((List.range i.count).map (fun k => s.findSector i (bitAt i.operand 0) (i.lsa + k))) = some l → (∀ f ∈ l, f.poison = false) →
      ∃ t, exec (.verify id) s = .next t ∧ SameBut settleParts s t ∧ t.finished i cSUCCESS 0) ∧
    (∀ (a d : Nat) (l : List (Nat × Nat)), s.discNeeds i (bitAt i.operand 0) = (a, d) :: l →
      (s.disc d).bind Disc.bay = none →
      ∃ t, exec (.verify id) s = .next t ∧ SameBut (.requests :: settleParts) s t ∧ t.finished i cDISC_NEEDED (d % 2 ^ 32) ∧
        t.requests.any (fun r => r.disc == d && r.reason == reasonREAD) = true))

/-- MOUNT begins on a bay, which it loads when it is EMPTY, and ends with its disc mounted or with NO_CHANGE; UNMOUNT of a LOADED bay takes its
disc out, and with EJECT opens the tray; INIT_DISC binds one
of the part's own discs or a blank one; SCRUB_DISC makes a scrub due (R395 to R398, R401, R420). -/
def Obligations.DiscsAreMountedBoundAndScrubbed : Prop := ∀ (s : State) (id : Nat) (i : Inst),
  -- MOUNT
  (∀ (mem : HostMem) (x : MountFound), hostGood mem → s.bayFirst i = true →
    (∀ d : Disc, s.ready id opMOUNT i → firstFail (s.checkMount i mem) = none → s.discIn i.bay = some d →
      ∃ t, exec (.mount id mem x) s = .next t ∧ SameBut settleParts s t ∧ t.finished i cNO_CHANGE (d.id % 2 ^ 32) ∧
        wroteBuffer id (s.discRecord d) s t) ∧
    (s.ready id opMOUNT i → firstFail (s.checkMount i mem) = none → s.discIn i.bay = none → s.bayState i.bay.val ≠ bLOADED →
      (s.bayState i.bay.val ≠ bEMPTY → ∃ t, exec (.mount id mem x) s = .next t ∧ SameBut (.bays :: settleParts) s t ∧
        t.bays[i.bay].mounting = some id ∧ (t.inst id).any (fun j => j.stage == .waiting) = true) ∧
      (s.bayState i.bay.val = bEMPTY → ∃ t, exec (.mount id mem x) s = .next t ∧
        SameBut (.devRegs :: .motRegs :: .stpRegs :: .calRegs :: .bayRegs :: .bays :: .motors :: .axes :: .cal :: settleParts) s t ∧
        t.bays[i.bay].mounting = some id ∧ (t.inst id).any (fun j => j.stage == .waiting) = true ∧
        t.get (F.BAY_STAT_HELD i.bay.val) = 0) ∧
      (s.bayState i.bay.val = bEMPTY → s.mode = mACTIVE → s.get (F.BAY_STAT_TRAY_CLOSED i.bay.val) = 1 →
        ∃ t, exec (.mount id mem x) s = .next t ∧ SameBut (.stpRegs :: .bayRegs :: .bays :: .axes :: settleParts) s t) ∧
      (s.bayState i.bay.val = bEMPTY → s.mode = mPARK →
        ∃ t, exec (.mount id mem x) s = .next t ∧ SameBut (.bayRegs :: .bays :: settleParts) s t)) ∧
    (∀ d : Disc, s.going id opMOUNT i → s.bayState i.bay.val = bREADY ∨ s.bayState i.bay.val = bREADING → x.sideMismatch = false →
      (∃ k ∈ opusOf i.bay, s.get (F.RCH_SPK_STAT_SIDE_MISMATCH k.val) = 0) → x.imageMissing = false →
      (mountIdentity x).bind (fun y => s.disc y.1) = some d →
      ∃ t, exec (.mount id mem x) s = .next t ∧ SameBut (.requests :: .bays :: .writers :: .cal :: settleParts) s t ∧
        t.finished i cSUCCESS (d.id % 2 ^ 32) ∧ (t.disc d.id).any (fun y => y.bay == some i.bay) = true ∧
        t.bays[i.bay].mounting = none ∧ ∀ r ∈ t.requests, r.disc ≠ d.id)) ∧
  -- UNMOUNT
  (∀ d : Disc, s.ready id opUNMOUNT i → s.bayFirst i = true → i.checkFields ⟨false, false, false, none, 7, false, none⟩ [] ⟨[], true, [], false⟩ = none →
    s.checkBay i.bay = none → s.bayState i.bay.val = bLOADED → bitAt i.operand 2 = false → s.discIn i.bay = some d → s.discWritten d = true →
    s.bays[i.bay].session = none → (∀ y ∈ s.discs, y.bay = some i.bay → y.id = d.id) →
    ∃ t, exec (.unmount id) s = .next t ∧ SameBut (.requests :: .bays :: settleParts) s t ∧ t.finished i cSUCCESS 0 ∧ t.discIn i.bay = none ∧
      (t.disc d.id).any (fun y => y.bay.isNone) = true ∧ Counted Ev.UNLOAD_READY s t ∧
      (d.migrationRequested = false → t.requests = s.requests)) ∧
  (s.ready id opUNMOUNT i → s.bayFirst i = true → i.checkFields ⟨false, false, false, none, 7, false, none⟩ [] ⟨[], true, [], false⟩ = none →
    s.checkBay i.bay = none → s.bayState i.bay.val = bEMPTY → s.mode ≠ mDRAIN → s.discIn i.bay = none → s.bays[i.bay].attached = none →
    s.bays[i.bay].session = none →
    (bitAt i.operand 2 = false → ∃ t, exec (.unmount id) s = .next t ∧ SameBut settleParts s t ∧ t.finished i cNO_CHANGE 0) ∧
    (bitAt i.operand 2 = true → s.get (F.BAY_STAT_TRAY_CLOSED i.bay.val) = 0 → s.get (F.BAY_STAT_CLAMPED i.bay.val) = 0 →
      ∃ t, exec (.unmount id) s = .next t ∧ SameBut settleParts s t ∧ t.finished i cSUCCESS 0) ∧
    (bitAt i.operand 2 = true → s.get (F.BAY_STAT_TRAY_CLOSED i.bay.val) = 1 → s.get (F.BAY_STAT_CLAMPED i.bay.val) = 1 →
      ∃ t, exec (.unmount id) s = .next t ∧ SameBut (.stpRegs :: .axes :: settleParts) s t ∧
        (t.inst id).any (fun j => j.stage == .waiting) = true) ∧
    (bitAt i.operand 2 = true → s.get (F.BAY_STAT_TRAY_CLOSED i.bay.val) = 1 → s.get (F.BAY_STAT_CLAMPED i.bay.val) = 0 →
      ∃ t, exec (.unmount id) s = .next t ∧ SameBut (.motRegs :: .calRegs :: .motors :: .cal :: settleParts) s t ∧
        (t.inst id).any (fun j => j.stage == .waiting) = true)) ∧
  -- INIT_DISC
  (∀ (mem : HostMem) (bands : List Nat) (used : Nat × Nat) (v : Volume), s.ready id opINIT i → hostGood mem → s.bayFirst i = true →
    i.checkFields ⟨false, true, false, none, 3, true, none⟩ [] mem = none → s.checkBay i.bay = none → s.checkVolume i = none →
    i.checkBuffer 64 mem = none → s.chip.degraded.contains .identity = false → s.bayReads i.bay = true → s.discIn i.bay = none →
    s.volumes.find? (fun v => v.num == i.volume) = some v →
    (∀ n : Nat, s.bays[i.bay].attached = some (n, true, true) → s.disc n = none → used.1 + 1 ≤ passportRoom → used.2 + 1 ≤ passportRoom →
      ∃ t, exec (.initDisc id mem bands used) s = .next t ∧ SameBut (.seqno :: .free :: .volumes :: .bays :: settleParts) s t ∧
        t.finished i cSUCCESS (n % 2 ^ 32) ∧ t.nextSeq = s.nextSeq + 2 ∧ t.bays[i.bay].attached = none ∧
        (t.disc n).any (fun d => d.vol == i.volume && d.bay == some i.bay && d.parity == v.parity && d.live == 0 &&
          d.passportLeft == (passportRoom - used.1 - 1, passportRoom - used.2 - 1)) = true) ∧
    (∀ n : Nat, ∀ own : Bool, s.bays[i.bay].attached = some (n, false, own) → s.disc s.nextSeq = none → used.1 + 2 ≤ passportRoom →
      used.2 + 2 ≤ passportRoom →
      ∃ t, exec (.initDisc id mem bands used) s = .next t ∧ SameBut (.seqno :: .free :: .volumes :: .bays :: settleParts) s t ∧
        t.finished i cSUCCESS (s.nextSeq % 2 ^ 32) ∧ t.nextSeq = s.nextSeq + 5 ∧ t.bays[i.bay].attached = none ∧
        (t.disc s.nextSeq).any (fun d => d.vol == i.volume && d.bay == some i.bay && d.parity == v.parity && d.live == 0 &&
          d.bands.isEmpty && d.passportLeft == (passportRoom - used.1 - 2, passportRoom - used.2 - 2)) = true)) ∧
  -- SCRUB_DISC
  (∀ d : Disc, s.ready id opSCRUB i → i.checkFields ⟨false, false, false, none, 1, false, some (36, 8)⟩ [] ⟨[], true, [], false⟩ = none →
    s.disc i.discId = some d → d.retired = false → d.scrubRunning = false ∨ bitAt i.operand 0 = true →
    (d.bay.isSome = true → ∃ t, exec (.scrubDisc id) s = .next t ∧ SameBut settleParts s t ∧ t.finished i cSUCCESS 1 ∧
      (t.disc i.discId).any (fun y => y.scrubDueNow && y.scrubRunning) = true) ∧
    (d.bay = none → ∃ t, exec (.scrubDisc id) s = .next t ∧ SameBut (.requests :: settleParts) s t ∧ t.finished i cSUCCESS 0 ∧
      (t.disc i.discId).any (fun y => y.scrubDueNow && !y.scrubRunning) = true ∧
      t.requests.any (fun r => r.disc == i.discId && r.reason == reasonSCRUB) = true))

/-- COMPACT moves what its disc holds into the landing zone, and completes with nothing left to move; SPIN sets a speed class and
completes at speed; PARK_BAY holds its bay and brings it to rest (R331, R399, R400, R402). -/
def Obligations.BaysSpinParkAndCompact : Prop := ∀ (s : State) (id : Nat) (i : Inst),
  -- COMPACT
  (∀ (d : Disc) (b : Fin 4), s.ready id opCOMPACT i →
    i.checkFields ⟨false, false, false, none, 0, false, some (36, 8)⟩ [] ⟨[], true, [], false⟩ = none → s.disc i.discId = some d →
    s.compactStop d = none → d.bay = some b → s.bayReads b = true → (∀ c ∈ s.cache, c.inst ≠ id) →
    (s.liveExtents d = [] → ∃ t, exec (.compact id) s = .next t ∧ SameBut (.dram :: settleParts) s t ∧ t.finished i cSUCCESS 0) ∧
    (∀ (r : DiscSector) (v : Nat), s.allRead d = true → r.lsa ∈ s.liveSectors d → s.discSector d.vol destageClass r.lsa = some r →
      (s.extent d.vol (extentOf r.lsa)).onDisc.lookup r.lsa = some v → s.cached d.vol r.lsa = none → s.landed d.vol r.lsa = none →
      ∃ t, exec (.compact id) s = .next t ∧ SameBut (.dram :: settleParts) s t ∧
        (t.inst id).any (fun j => j.stage == .waiting && j.data == (s.liveExtents d).map Extent.ext) = true ∧
        ∃ c ∈ t.cache, c.vol = d.vol ∧ c.lsa = r.lsa ∧ c.seq = v ∧ c.data = r.data ∧ c.inst = id ∧ c.moved.isSome = true)) ∧
  -- SPIN
  (s.ready id opSPIN i → s.bayFirst i = true → firstFail (s.checkSpin i) = none →
    (s.motorState (spindleOf i.bay) = mtAT_SPEED → s.speedClass i.bay.val = min (bitsOf i.operand 4 3) (s.speedCeiling i.bay.val) →
      ∃ t, exec (.spin id) s = .next t ∧ SameBut (.bayRegs :: settleParts) s t ∧ t.finished i cNO_CHANGE (s.speedClass i.bay.val) ∧
        t.get (F.BAY_STAT_HELD i.bay.val) = 0) ∧
    (s.bayState i.bay.val = bLOADED → s.mode = mPARK → s.motorState (spindleOf i.bay) ≠ mtAT_SPEED → 1 ≤ s.speedCeiling i.bay.val →
      s.speedCeiling i.bay.val ≤ 4 →
      ∃ t, exec (.spin id) s = .next t ∧ SameBut (.lanRegs :: .bayRegs :: .cal :: settleParts) s t ∧
        t.speedClass i.bay.val = min (bitsOf i.operand 4 3) (s.speedCeiling i.bay.val) ∧ t.get (F.BAY_STAT_HELD i.bay.val) = 0 ∧
        (t.inst id).any (fun j => j.stage == .committed) = true)) ∧
  (s.past id opSPIN i → s.bayFirst i = true → s.bayState i.bay.val = bREADY → s.mode = mACTIVE →
    s.motorState (spindleOf i.bay) = mtAT_SPEED → (∀ k ∈ opusOf i.bay, s.get (F.BAY_OPT_STAT_ON_TRACK k.val) = 1) →
    ∃ t, exec (.spin id) s = .next t ∧ SameBut (.bayRegs :: settleParts) s t ∧ t.finished i cSUCCESS (s.speedClass i.bay.val)) ∧
  -- PARK_BAY
  (s.ready id opPARK i → s.bayFirst i = true → i.checkFields ⟨false, false, false, none, 3, false, none⟩ [] ⟨[], true, [], false⟩ = none →
    s.checkBay i.bay = none →
    (s.bayState i.bay.val = bLOADED → ∃ t, exec (.parkBay id) s = .next t ∧ SameBut (.bayRegs :: settleParts) s t ∧
      t.finished i cNO_CHANGE 0 ∧ t.get (F.BAY_STAT_HELD i.bay.val) = 1) ∧
    (s.bayState i.bay.val = bREADY → s.motorState (spindleOf i.bay) = mtAT_SPEED → s.motors[spindleOf i.bay].atRest = false →
      ∃ t, exec (.parkBay id) s = .next t ∧ SameBut (.srvRegs :: .motRegs :: .stpRegs :: .wrpRegs :: .calRegs :: .bayRegs :: .optRegs ::
          .life :: .bays :: .optics :: .motors :: .axes :: .writers :: .cal :: settleParts) s t ∧
        t.bayState i.bay.val = bPARKING ∧ t.get (F.BAY_STAT_HELD i.bay.val) = 1 ∧ t.motorState (spindleOf i.bay) = mtBRAKE ∧
        (∀ k ∈ opusOf i.bay, t.optics[k].laser = false ∧
          (s.engineStopped (engineOf k) = false → t.get (F.BAY_OPT_CMD_CMD k.val) = 5)) ∧
        (t.inst id).any (fun j => j.stage == .committed) = true))

/-- GET_EVENTS, GET_LOG, GET_POLICY and GET_TIME write their records to the buffer and complete with their lengths; SET_POLICY applies its
entries at one commit; SET_TIME loads the calendar (R403 to R408). -/
def Obligations.EventsLogsPolicyAndTime : Prop := ∀ (s : State) (id : Nat) (i : Inst) (mem : HostMem), hostGood mem →
  -- GET_EVENTS
  (s.ready id opEVENTS i → i.checkFields ⟨false, false, false, some (1, 4096), 1, true, none⟩ [] mem = none →
    i.checkBuffer (32 * i.count) mem = none →
    (bitAt i.operand 0 = false → (∀ r ∈ s.evq.recs, r.event ≠ Ev.DEFERRED_ERROR) →
      ∃ t, exec (.getEvents id mem) s = .next t ∧ SameBut settleParts s t ∧
        t.finished i cSUCCESS (s.eventsFor (portOf i.fn) i.count).1.length ∧
        wroteBuffer id (s.eventsFor (portOf i.fn) i.count).1.flatten s t) ∧
    (∀ r : EventRec, bitAt i.operand 0 = true → s.cache = [] → (s.eventsFor (portOf i.fn) i.count).2.getLast? = some r →
      ∃ t, exec (.getEvents id mem) s = .next t ∧ SameBut (.deferred :: settleParts) s t ∧
        t.finished i cSUCCESS (s.eventsFor (portOf i.fn) i.count).1.length ∧
        wroteBuffer id (s.eventsFor (portOf i.fn) i.count).1.flatten s t ∧ t.evq.cursor[portOf i.fn] = r.serial + 1)) ∧
  -- GET_LOG
  (s.ready id opLOG i → i.checkFields ⟨false, false, true, none, 2 ^ 32 - 1, true, some (36, 8)⟩ [] mem = none →
    i.checkBuffer 4 mem = none → i.lsa % 4 = 0 → i.len % 4 = 0 → s.logFails (i.operand % 2 ^ 16) (i.operand / 2 ^ 16) i.discId = none →
    i.lsa < (s.logPage (i.operand % 2 ^ 16) (i.operand / 2 ^ 16) i.discId).length →
    ∃ t, exec (.getLog id mem) s = .next t ∧ SameBut settleParts s t ∧
      t.finished i cSUCCESS (s.logPage (i.operand % 2 ^ 16) (i.operand / 2 ^ 16) i.discId).length ∧
      wroteBuffer id (((s.logPage (i.operand % 2 ^ 16) (i.operand / 2 ^ 16) i.discId).drop i.lsa).take i.len) s t) ∧
  -- SET_POLICY
  (∀ buf : List Byte, s.ready id opSETP i → i.checkFields ⟨false, false, false, some (1, 46), 0, true, none⟩ [] mem = none →
    i.checkBuffer (16 * i.count) mem = none → (∀ n, n < i.count → s.entryFails (i.entries buf) n = false) →
    ∃ t, exec (.setPolicy id mem buf) s = .next t ∧ SameBut (.boot :: .srvRegs :: .motRegs :: .stpRegs :: .rchRegs :: .lanRegs :: .wrpRegs ::
        .calRegs :: .bayRegs :: .optRegs :: .life :: .bays :: .optics :: .motors :: .axes :: .detectors :: .writers :: .cal :: settleParts) s t ∧
      t.finished i cSUCCESS 0 ∧ t.nv.policy = applyPolicy s.policyTable (i.entries buf) ∧ t.boot.policyAlt = none) ∧
  -- GET_POLICY
  (s.ready id opGETP i → i.checkFields ⟨false, false, false, none, 0, true, none⟩ [] mem = none → i.checkBuffer 736 mem = none →
    ∃ t, exec (.getPolicy id mem) s = .next t ∧ SameBut settleParts s t ∧ t.finished i cSUCCESS 46 ∧ wroteBuffer id s.policyBytes s t) ∧
  -- SET_TIME
  (s.ready id opSETT i → i.checkFields ⟨false, false, false, none, 1, false, some (36, 8)⟩ [] ⟨[], true, [], false⟩ = none →
    1704067200 ≤ i.bytesAt 36 8 → (bitAt i.operand 0 = true ∨ ∀ u, s.utc = some u → u ≤ i.bytesAt 36 8 + 86400) →
    ∃ t, exec (.setTime id) s = .next t ∧ SameBut (.lifRegs :: settleParts) s t ∧ t.finished i cSUCCESS 0 ∧ t.nv.calValid = true ∧
      t.nv.utc = i.bytesAt 36 8 ∧ t.nv.utcAt = s.now ∧ t.nv.lastSet = i.bytesAt 36 8 ∧ t.get F.LIF_STAT_CAL_VALID = 1 ∧
      Counted Ev.CALENDAR_SET s t) ∧
  -- GET_TIME
  (s.ready id opGETT i → i.checkFields ⟨false, false, false, none, 0, true, none⟩ [] mem = none → i.checkBuffer 32 mem = none →
    ∃ t, exec (.getTime id mem) s = .next t ∧ SameBut settleParts s t ∧ t.finished i cSUCCESS 0 ∧ wroteBuffer id s.timeBytes s t)

/-- REG_READ reads each register once and latches the high word of a 64-bit counter; REG_WRITE and a write by a master that may write
reach a register (R9, R11, R112, R409). The register written here is LEVEL of a trace buffer, and the counter read is LIF_POWER_ON. -/
def Obligations.RegistersAreReadAndWritten : Prop := ∀ (s : State) (id : Nat) (i : Inst) (mem : HostMem),
  (s.ready id opREGR i → hostGood mem → i.checkFields ⟨false, false, true, some (1, 256), 0, true, none⟩ i.addrFails mem = none →
    i.checkBuffer (4 * i.count) mem = none →
    (i.count = 1 → (placeOf i.lsa).1.wide (placeOf i.lsa).2 = false → (placeOf i.lsa).1.wide ((placeOf i.lsa).2 - 4) = false →
      ∃ t, exec (.regRead id mem) s = .next t ∧ SameBut settleParts s t ∧ t.finished i cSUCCESS 0 ∧
        wroteBuffer id (leBytes 4 (s.peekReg i.lsa)) s t) ∧
    (i.count = 2 → i.lsa = F.LIF_POWER_ON_SEC.addr →
      ∃ t, exec (.regRead id mem) s = .next t ∧ SameBut (.shadows :: settleParts) s t ∧ t.finished i cSUCCESS 0 ∧
        wroteBuffer id (leBytes 8 s.powerOn) s t)) ∧
  (∀ (e : Fin 2) (k : Fin 8) (v : Word),
    (s.ready id opREGW i → hostGood mem → isAdmin i.fn = true → i.count = 1 → i.lsa = (F.SRV_TRC_LEVEL_LEVEL e.val k.val).addr →
      i.checkFields ⟨false, false, true, some (1, 256), 0, true, none⟩ i.addrFails mem = none → i.checkBuffer 4 mem = none →
      ∃ t, exec (.regWrite id mem [v] []) s = .next t ∧ SameBut (.srvRegs :: settleParts) s t ∧ t.finished i cSUCCESS 0 ∧
        t.get (F.SRV_TRC_LEVEL_LEVEL e.val k.val) = v.toNat) ∧
    (∀ m : Master, s.mayWrite m = true →
      exec (.registerWrite m none (F.SRV_TRC_LEVEL_LEVEL e.val k.val).addr 4 (.write v {}) []) s =
        .next (s.put (F.SRV_TRC_LEVEL_LEVEL e.val k.val) v.toNat)) ∧
    (∀ m : Master, s.mayWrite m = false →
      exec (.registerWrite m none (F.SRV_TRC_LEVEL_LEVEL e.val k.val).addr 4 (.write v {}) []) s = .next s) ∧
    (∀ m : Master, s.mayWrite m = true →
      ∃ t, exec (.registerWrite m none (F.SRV_TRC_LEVEL_LEVEL e.val k.val).addr 2 (.write v {}) []) s = .next t ∧ SameBut eventParts s t ∧
        t.get (F.SRV_TRC_LEVEL_LEVEL e.val k.val) = s.get (F.SRV_TRC_LEVEL_LEVEL e.val k.val)))

/-- A WAIT holds its chain from its start, and ends with SUCCESS when its condition holds and with WAIT_TIMEOUT, or SUCCESS for KIND 0, when
its time has passed; SKIP_IF sets the skip state of its chain (R361, R362, R417, R418). -/
def Obligations.WaitsAndSkipsFollowTheirConditions : Prop := ∀ (s : State) (id : Nat) (i : Inst),
  (s.ready id opWAIT i → i.checkFields ⟨false, false, false, some (1, 2 ^ 32 - 1), 0x3F07, false, some (36, 12)⟩ [] ⟨[], true, [], false⟩ = none →
    i.waitKind ≤ 5 → (i.waitKind = 2 ∨ i.waitKind = 4 ∨ i.waitKind = 5 → isAdmin i.fn = true) → (i.waitKind = 4 → i.waitIndex ≤ 3) →
    (i.waitKind = 3 → (s.fns[i.fn].sq i.waitIndex).isSome = true) →
    ∃ t, exec (.wait id) s = .next t ∧ SameBut settleParts s t ∧
      t.inst id = some { i with stage := .waiting, startedAt := s.now, data := s.waitStart i }) ∧
  (s.going id opWAIT i →
    (s.waitHolds i = true → ∃ t, exec (.waitConditionMet id) s = .next t ∧ SameBut settleParts s t ∧ t.finished i cSUCCESS 0) ∧
    (s.waitHolds i = false → exec (.waitConditionMet id) s = .next s) ∧
    (i.waitKind = 0 → ∃ t, exec (.waitTimeout id) s = .next t ∧ SameBut settleParts s t ∧ t.finished i cSUCCESS 0) ∧
    (i.waitKind ≠ 0 → ∃ t, exec (.waitTimeout id) s = .next t ∧ SameBut settleParts s t ∧ t.finished i cWAIT_TIMEOUT 0)) ∧
  (∀ c : Nat × Nat × Nat × Bool, s.ready id opSKIPIF i → (s.chainOf i).bind Chain.last = some c →
    i.checkFields ⟨false, false, false, none, 0xF, false, some (36, 8)⟩ [] ⟨[], true, [], false⟩ = none → bitsOf i.operand 0 3 ≤ 4 →
    ∃ t, exec (.skipIf id) s = .next t ∧ SameBut settleParts s t ∧
      t.finished i cSUCCESS (xor (skipTest (bitsOf i.operand 0 3) (i.bytesAt 36 4) (i.bytesAt 40 4) c) (bitAt i.operand 3)).toNat ∧
      (i.chainBit = true → (t.chainOf i).any (fun x =>
        x.skip == xor (skipTest (bitsOf i.operand 0 3) (i.bytesAt 36 4) (i.bytesAt 40 4) c) (bitAt i.operand 3)) = true))

/-- RESET in its six scopes: a ring and a strand are freed, a bay is brought to rest and started again, a lane, a flash channel and a servo
loop come back into service; each raises an event of its element's group, which one is a free value (R108, R210, R364, R410, R411; log 3). -/
def Obligations.ResetsReturnElementsToService : Prop := ∀ (s : State) (id : Nat) (i : Inst), s.ready id opRESET i → s.checkReset i = none →
  -- ring
  (∀ r : SubRing, i.scope = 0 → i.target ≠ i.sq → s.fns[i.fn].sq i.target = some r → (∀ j ∈ s.insts, j.fn = i.fn → j.sq ≠ i.target) →
    (∀ q ∈ s.fns[i.fn].cqs, ∀ c ∈ q.waiting, c.sq ≠ i.target) →
    ∃ t, exec (.resetRing id) s = .next t ∧ SameBut (.free :: settleParts) s t ∧ t.finished i cSUCCESS 0 ∧
      t.fns[i.fn].sq i.target = some { r with head := 0, tail := 0, chain := none, chains := [] }) ∧
  -- strand
  (∀ x : Strand, i.scope = 1 → s.strand i.strand = some x → (∀ j ∈ s.insts, j.id < id → j.strand ≠ i.strand) →
    ∃ t, exec (.resetStrand id) s = .next t ∧ SameBut (.free :: .deferred :: settleParts) s t ∧ t.finished i cSUCCESS 0 ∧
      t.strand i.strand = none) ∧
  -- bay
  (∀ (b : Fin 4) (x : BaySensors), i.scope = 2 → i.target = b.val → s.checkBay b = none →
    (s.bayState b.val = bREADY → s.motorState (spindleOf b) = mtAT_SPEED → s.motors[spindleOf b].atRest = false →
      ∃ t, exec (.resetBay id x) s = .next t ∧ t.bayState b.val = bPARKING ∧ t.motorState (spindleOf b) = mtBRAKE ∧
        (∀ k ∈ opusOf b, t.optics[k].laser = false ∧ t.optics[k].gate = false) ∧
        (t.inst id).any (fun j => j.stage == .committed && j.data.length == 1) = true ∧
        SameBut (.free :: .srvRegs :: .motRegs :: .stpRegs :: .wrpRegs :: .calRegs :: .bayRegs :: .optRegs :: .life :: .bays :: .optics ::
          .motors :: .axes :: .writers :: .cal :: settleParts) s t) ∧
    (s.bayState b.val = bEMPTY → s.bayStill b = true →
      ∃ t, exec (.resetBay id x) s = .next t ∧ (∀ k ∈ opusOf b, t.optics[k].laser = false ∧ t.optics[k].gate = false) ∧
        (t.bayState b.val = bEMPTY ∨ t.bayState b.val = bLOADED → t.finished i cSUCCESS 0))) ∧
  -- lane
  (∀ n : Fin 36, i.scope = 3 → i.target = n.val →
    (s.get (F.RCH_LANE_STAT_FAILED n.val) = 1 →
      (∃ t, exec (.resetLane id true) s = .next t ∧ SameBut (.free :: .lanRegs :: settleParts) s t ∧ t.finished i cSUCCESS 0 ∧
        t.get (F.RCH_LANE_STAT_FAILED n.val) = 0 ∧ t.get (F.RCH_LANE_STAT_CAUSE n.val) = 0 ∧ t.chip.degraded.contains (.lane n.val) = false) ∧
      (∃ t, exec (.resetLane id false) s = .next t ∧ SameBut (.free :: settleParts) s t ∧
        t.finished i cELEMENT_UNAVAILABLE (Ev.rf rfLANE_FAILED) ∧ t.get (F.RCH_LANE_STAT_FAILED n.val) = 1)) ∧
    (∀ p : Bool, s.get (F.RCH_LANE_STAT_FAILED n.val) = 0 → s.get (F.RCH_LANE_BIND_ENABLE n.val) = 0 →
      ∃ t, exec (.resetLane id p) s = .next t ∧ SameBut (.free :: settleParts) s t ∧ t.finished i cSUCCESS 0)) ∧
  -- flash channel
  (i.scope = 4 → bitAt s.nv.channels i.target = true →
    (∃ t, exec (.resetFlashChannel id []) s = .next t ∧ SameBut (.free :: settleParts) s t ∧ t.finished i cSUCCESS 0) ∧
    (∀ x : LunId, s.lunsBack i.target [x] = [x] → x.lun / 32 = i.target → i.target < 8 → x.lun < 256 →
      ∃ t, exec (.resetFlashChannel id [x]) s = .next t ∧ SameBut (.free :: .flash :: settleParts) s t ∧ t.finished i cSUCCESS 0 ∧
        t.flash.luns = s.flash.luns ++ [x] ∧ t.nv.sys.failedLuns = s.nv.sys.failedLuns.filter (· != x.lun) ∧
        bitAt (t.get (F.FLZ_LUN_FAILED_MASK (x.lun / 32))) (x.lun % 32) = false ∧ bitAt (t.get F.FLZ_CH_STAT_FAILED) i.target = false)) ∧
  -- servo loop
  (∀ (e : Fin 2) (j : Fin 64), i.scope = 5 → i.target = 64 * e.val + j.val →
    (s.engineStopped e = false →
      ∃ t, exec (.resetServoLoop id) s = .next t ∧ SameBut (.free :: .srvRegs :: .optics :: .servos :: .axes :: settleParts) s t ∧
        t.finished i cSUCCESS 0 ∧ t.get (F.SRV_SLOT_CTL_ENABLE e.val j.val) = 0 ∧ t.get (F.SRV_SLOT_OUT_U e.val j.val) = 0 ∧
        t.get (F.SRV_SAT_CNT_CNT e.val j.val) = 0 ∧ t.get (F.SRV_SLOT_STAT_FE_FAULT e.val j.val) = 0 ∧
        t.get (F.SRV_SLOT_STAT_CFG_REJECT e.val j.val) = 0) ∧
    (s.engineStopped e = true →
      ∃ t, exec (.resetServoLoop id) s = .next t ∧ SameBut (.free :: .srvRegs :: .optics :: .servos :: .axes :: settleParts) s t ∧
        t.finished i cSUCCESS 0 ∧ t.engineStopped e = false ∧ t.get (F.SRV_BLK_STAT_ENGINE_FAULT e.val) = 0 ∧
        ∀ n : Fin 64, t.get (F.SRV_SLOT_CTL_ENABLE e.val n.val) = 0))

/-- STAGE_PACKAGE programs a package that passes its checks, and refuses one that does not; ACTIVATE begins the restart; ATTEST signs its
report or gives the certificate (R366, R412 to R414, R515, R520). -/
def Obligations.PackagesAreStagedActivatedAndAttested : Prop := ∀ (s : State) (id : Nat) (i : Inst) (mem : HostMem),
  (∀ pkg : Package, s.ready id opSTAGE i → hostGood mem → i.len ≤ 2 ^ 23 →
    i.checkFields ⟨false, false, false, none, 0, true, none⟩ [] mem = none → i.checkBuffer i.len mem = none → i.len = 512 + pkg.payload.length →
    (s.packageFault pkg = none →
      ∃ t, exec (.stagePackage id mem pkg true) s = .next t ∧ SameBut (.secRegs :: settleParts) s t ∧
        t.finished i cSUCCESS (pkg.version % 2 ^ 32) ∧ t.nv.staged = s.stageSlot ∧ t.slotPkg s.stageSlot = some pkg) ∧
    (∀ c : Nat, ∀ ok : Bool, s.packageFault pkg = some c →
      ∃ t, exec (.stagePackage id mem pkg ok) s = .next t ∧ SameBut settleParts s t ∧ t.finished i cSECURITY_FAILURE 0 ∧
        t.nv.slotA = s.nv.slotA ∧ t.nv.slotB = s.nv.slotB ∧ t.nv.staged = s.nv.staged ∧ Counted Ev.PACKAGE_REJECTED s t)) ∧
  (s.ready id opACTIVATE i → i.checkFields ⟨false, false, false, none, 0, false, none⟩ [] ⟨[], true, [], false⟩ = none →
    (∀ p : Package, s.slotPkg s.nv.staged = some p → s.packageFault p = none → s.insts = [i] →
      (∀ b : Fin 4, s.bayState b.val = bEMPTY ∨ s.bayState b.val = bLOADED) →
      ∃ t, exec (.activate id) s = .next t ∧ SameBut (.devRegs :: .flash :: .bays :: settleParts) s t ∧
        t.chip.transition = some ⟨mBOOT, 8⟩ ∧ t.get F.DEV_MODE_STAT_TRANSITION = 1 ∧ t.mode = s.mode ∧
        (t.inst id).any (fun j => j.stage == .committed) = true) ∧
    (s.slotPkg s.nv.staged = none →
      ∃ t, exec (.activate id) s = .next t ∧ SameBut settleParts s t ∧ t.finished i cSECURITY_FAILURE 0)) ∧
  (s.ready id opATTEST i → hostGood mem → s.checkIdentity = none →
    (bitsOf i.operand 0 2 = 0 → i.checkFields ⟨false, false, false, none, 3, true, some (36, 28)⟩ [] mem = none →
      i.checkBuffer 256 mem = none →
      ∃ t, exec (.attestReport id mem) s = .next t ∧ SameBut (.free :: settleParts) s t ∧ t.finished i cSUCCESS 256 ∧
        wroteBuffer id (s.reportBody i ++ beBytes 64 (Config.identitySignature s.free (s.reportBody i)).toNat) s t) ∧
    (bitsOf i.operand 0 2 = 1 → i.checkFields ⟨false, false, false, none, 3, true, none⟩ [] mem = none →
      i.checkBuffer Config.certificate.length mem = none →
      ∃ t, exec (.attestCertificate id mem) s = .next t ∧ SameBut settleParts s t ∧ t.finished i cSUCCESS Config.certificate.length ∧
        wroteBuffer id Config.certificate s t))

/-- TRACE arms, stops, triggers and reads a buffer; CALIBRATE runs at once where its conditions hold, waits for them where they do not, and
does nothing while its value is pinned or its element is unavailable (R111, R112, R415, R416). -/
def Obligations.TracesAndCalibrationsObeyTheirInstructions : Prop := ∀ (s : State) (id : Nat) (i : Inst) (mem : HostMem),
  (s.ready id opTRACE i →
    (i.traceOp = 0 → i.checkFields ⟨false, false, false, none, 0x3F, false, some (36, 12)⟩ [] ⟨[], true, [], false⟩ = none →
      traceCtlBad (i.bytesAt 36 4) = false → s.get (F.SRV_TRC_STAT_STATE i.engine.val i.buf.val) ≠ 1 →
      s.get (F.SRV_TRC_STAT_STATE i.engine.val i.buf.val) ≠ 2 →
      ∃ t, exec (.traceArm id) s = .next t ∧ SameBut (.srvRegs :: .traces :: settleParts) s t ∧ t.finished i cSUCCESS 0 ∧
        t.get (F.SRV_TRC_STAT_STATE i.engine.val i.buf.val) = 1 ∧ t.get (F.SRV_TRC_CTL_ARM i.engine.val i.buf.val) = 1 ∧
        t.get (F.SRV_TRC_CTL_SLOT i.engine.val i.buf.val) = bitsOf (i.bytesAt 36 4) 2 6 ∧
        t.get (F.SRV_TRC_CTL_DEC i.engine.val i.buf.val) = bitsOf (i.bytesAt 36 4) 20 10 ∧
        t.get (F.SRV_TRC_LEVEL_LEVEL i.engine.val i.buf.val) = i.bytesAt 40 4 ∧
        t.get (F.SRV_TRC_PRE_PRE i.engine.val i.buf.val) = i.bytesAt 44 4 % 2 ^ 14 ∧
        t.get (F.SRV_TRC_PRE_PRE_VALID i.engine.val i.buf.val) = 0) ∧
    (i.traceOp = 1 → i.checkFields ⟨false, false, false, none, 0x3F, false, none⟩ [] ⟨[], true, [], false⟩ = none →
      ∃ t, exec (.traceStop id) s = .next t ∧ SameBut (.srvRegs :: .traces :: settleParts) s t ∧ t.finished i cSUCCESS 0 ∧
        t.get (F.SRV_TRC_CTL_ARM i.engine.val i.buf.val) = 0 ∧
        t.get (F.SRV_TRC_STAT_STATE i.engine.val i.buf.val) =
          (if s.get (F.SRV_TRC_STAT_STATE i.engine.val i.buf.val) = 3 then 3 else 0)) ∧
    (i.traceOp = 2 → hostGood mem → i.checkFields ⟨false, false, false, none, 0x3F, true, none⟩ [] mem = none →
      i.checkBuffer (32 + 4 * s.traceHeld i.engine i.buf) mem = none →
      ∃ t, exec (.traceRead id mem 0) s = .next t ∧ SameBut settleParts s t ∧ t.finished i cSUCCESS (s.traceHeld i.engine i.buf) ∧
        wroteBuffer id (s.traceBytes i.engine i.buf) s t) ∧
    (i.traceOp = 3 → i.checkFields ⟨false, false, false, none, 0x3F, false, none⟩ [] ⟨[], true, [], false⟩ = none →
      s.get (F.SRV_TRC_STAT_STATE i.engine.val i.buf.val) = 1 → s.get (F.SRV_TRC_CTL_ARM i.engine.val i.buf.val) = 1 →
      ∃ t, exec (.traceTrigger id) s = .next t ∧ SameBut (.srvRegs :: .traces :: settleParts) s t ∧ t.finished i cSUCCESS 0 ∧
        t.get (F.SRV_TRC_CTL_SW_TRIG i.engine.val i.buf.val) = 1 ∧ t.traces[traceOf i.engine i.buf].fire = true)) ∧
  (s.ready id opCALIB i → i.checkFields ⟨false, false, false, none, 0xFFFF000F, false, none⟩ [] ⟨[], true, [], false⟩ = none →
    i.operand % 16 ≤ 11 → calElement (i.operand % 16) (bitsOf i.operand 16 16) = true →
    s.calUnfitted (i.operand % 16) (bitsOf i.operand 16 16) = false →
    (∀ x : Nat × Nat, s.calDown (i.operand % 16) (bitsOf i.operand 16 16) = some x →
      ∃ t, exec (.calibrate id) s = .next t ∧ SameBut settleParts s t ∧ t.finished i x.1 x.2) ∧
    (s.calDown (i.operand % 16) (bitsOf i.operand 16 16) = none →
    (s.calPinned (i.operand % 16) (bitsOf i.operand 16 16) = true →
      ∃ t, exec (.calibrate id) s = .next t ∧ SameBut settleParts s t ∧ t.finished i cNO_CHANGE 0) ∧
    (s.calPinned (i.operand % 16) (bitsOf i.operand 16 16) = false →
      (s.calState (i.operand % 16) (bitsOf i.operand 16 16) = false →
        ∃ t, exec (.calibrate id) s = .next t ∧ SameBut (.cal :: settleParts) s t ∧ t.finished i cSUCCESS 0 ∧
          t.cal.requested.contains (i.operand % 16, bitsOf i.operand 16 16) = true) ∧
      (s.calState (i.operand % 16) (bitsOf i.operand 16 16) = true → s.mode ≠ mDRAIN →
        (∀ r ∈ s.cal.runs, r.kind = i.operand % 16 → r.elem ≠ bitsOf i.operand 16 16) →
        ∃ t, exec (.calibrate id) s = .next t ∧ SameBut (.calRegs :: .cal :: settleParts) s t ∧
          t.cal.runs.any (fun r => r.kind == i.operand % 16 && r.elem == bitsOf i.operand 16 16 && r.inst == some id) = true ∧
          t.get F.CAL_STAT_BUSY = 1 ∧ (t.inst id).any (fun j => j.stage == .committed && j.data == [1]) = true))))

/-- CREATE_RING registers a ring; DELETE_RING takes one away once its instructions have ended (R364, R419). -/
def Obligations.RingsAreCreatedAndDeleted : Prop := ∀ (s : State) (id : Nat) (i : Inst),
  (s.ready id opCREATER i → i.checkFields ⟨false, false, false, none, 0x7FFFF, false, some (36, 8)⟩ [] ⟨[], true, [], false⟩ = none →
    4 ≤ bitsOf i.operand 7 5 → bitsOf i.operand 7 5 ≤ 16 → i.bytesAt 36 8 % 4096 = 0 → i.ring ≠ 0 →
    (i.isCq = true → i.ringCq = 0 → s.fns[i.fn].cqOf i.ring = none →
      ∃ t, exec (.createRing id) s = .next t ∧ SameBut settleParts s t ∧ t.finished i cSUCCESS 0 ∧
        t.fns[i.fn].cqOf i.ring = some ⟨i.ring, i.bytesAt 36 8, bitsOf i.operand 7 5, bitAt i.operand 18, 0, 0, true, []⟩) ∧
    (i.isCq = false → bitAt i.operand 18 = false → s.fns[i.fn].sq i.ring = none → (s.fns[i.fn].cqOf i.ringCq).isSome = true →
      ∃ t, exec (.createRing id) s = .next t ∧ SameBut settleParts s t ∧ t.finished i cSUCCESS 0 ∧
        t.fns[i.fn].sq i.ring = some ⟨i.ring, i.bytesAt 36 8, bitsOf i.operand 7 5, i.ringCq, 0, 0, none, []⟩)) ∧
  (s.ready id opDELETER i → i.checkFields ⟨false, false, false, none, 0x7F, false, none⟩ [] ⟨[], true, [], false⟩ = none → i.ring ≠ 0 →
    (i.isCq = true → i.ring ≠ i.cq → (s.fns[i.fn].cqOf i.ring).isSome = true → (∀ r ∈ s.fns[i.fn].sqs, r.cq ≠ i.ring) →
      ∃ t, exec (.deleteRing id) s = .next t ∧ SameBut settleParts s t ∧ t.finished i cSUCCESS 0 ∧ t.fns[i.fn].cqOf i.ring = none) ∧
    (i.isCq = false → i.ring ≠ i.sq → (s.fns[i.fn].sq i.ring).isSome = true → (∀ j ∈ s.insts, j.fn = i.fn → j.sq ≠ i.ring) →
      (∀ q ∈ s.fns[i.fn].cqs, ∀ c ∈ q.waiting, c.sq ≠ i.ring) →
      ∃ t, exec (.deleteRing id) s = .next t ∧ SameBut settleParts s t ∧ t.finished i cSUCCESS 0 ∧ t.fns[i.fn].sq i.ring = none))

/-- ENABLE sets a function's ring 0 up, is refused with CFG_REJECT, or stops the function; FATAL clears by a write of 1; an FLR, and a return
from D3hot, take its rings and put its registers back to reset (R365, R426, R429, R433). -/
def Obligations.FunctionsAreEnabledStoppedAndReset : Prop := ∀ (s : State) (m : Master) (f : Fin 4) (v : Word),
  (s.reachesFn m f = true →
    -- enabled
    (bitAt v.toNat 0 = true → s.get (F.HST_FN_CTL_ENABLE f.val) = 0 → s.get (F.HST_FN_STAT_FATAL f.val) ≠ 1 →
      4 ≤ s.get (F.HST_RING0_SIZE_SQ_K f.val) → s.get (F.HST_RING0_SIZE_SQ_K f.val) ≤ 16 →
      4 ≤ s.get (F.HST_RING0_SIZE_CQ_K f.val) → s.get (F.HST_RING0_SIZE_CQ_K f.val) ≤ 16 →
      s.base64 (F.HST_SQ0_BASE_LO_BASE f.val) (F.HST_SQ0_BASE_HI_BASE f.val) ≠ 0 →
      s.base64 (F.HST_CQ0_BASE_LO_BASE f.val) (F.HST_CQ0_BASE_HI_BASE f.val) ≠ 0 →
      ∃ t, exec (.hstFnCtlWrite m f v) s = .next t ∧ SameBut [.hstRegs, .fns] s t ∧ t.get (F.HST_FN_CTL_ENABLE f.val) = 1 ∧
        t.get (F.HST_FN_STAT_READY f.val) = 1 ∧
        t.fns[f] = { s.fns[f] with
          sqs := [⟨0, s.base64 (F.HST_SQ0_BASE_LO_BASE f.val) (F.HST_SQ0_BASE_HI_BASE f.val), s.get (F.HST_RING0_SIZE_SQ_K f.val), 0, 0, 0,
            none, []⟩]
          cqs := [⟨0, s.base64 (F.HST_CQ0_BASE_LO_BASE f.val) (F.HST_CQ0_BASE_HI_BASE f.val), s.get (F.HST_RING0_SIZE_CQ_K f.val), false, 0, 0,
            true, []⟩] } ∧
        ∀ g : Fin 4, g ≠ f → t.fns[g] = s.fns[g]) ∧
    -- refused
    (bitAt v.toNat 0 = true → s.get (F.HST_FN_CTL_ENABLE f.val) = 0 →
      s.get (F.HST_FN_STAT_FATAL f.val) = 1 ∨ s.get (F.HST_RING0_SIZE_SQ_K f.val) < 4 ∨ 16 < s.get (F.HST_RING0_SIZE_CQ_K f.val) ∨
        s.base64 (F.HST_CQ0_BASE_LO_BASE f.val) (F.HST_CQ0_BASE_HI_BASE f.val) = 0 →
      ∃ t, exec (.hstFnCtlWrite m f v) s = .next t ∧ SameBut eventParts s t ∧ t.get (F.HST_FN_CTL_ENABLE f.val) = 0 ∧
        t.get (F.HST_FN_STAT_CFG_REJECT f.val) = 1 ∧ t.fns[f].sqs = s.fns[f].sqs ∧ t.fns[f].cqs = s.fns[f].cqs ∧
        Raised (Ev.port (f.val / 2) hCFG_REJECT) 0 (f.val % 2) 0 s t) ∧
    -- stopped
    (bitAt v.toNat 0 = false → s.get (F.HST_FN_CTL_ENABLE f.val) = 1 → s.insts = [] →
      ∃ t, exec (.hstFnCtlWrite m f v) s = .next t ∧ SameBut settleParts s t ∧ t.get (F.HST_FN_CTL_ENABLE f.val) = 0 ∧
        t.get (F.HST_FN_STAT_READY f.val) = 0 ∧ t.fns[f].sqs = [] ∧ t.fns[f].cqs = []) ∧
    (∃ t, exec (.fatalClear m f) s = .next t ∧ t = s.put (F.HST_FN_STAT_FATAL f.val) 0)) ∧
  (s.reachesFn m f = false → exec (.hstFnCtlWrite m f v) s = .next s ∧ exec (.fatalClear m f) s = .next s) ∧
  -- FLR and the power states of a function
  (s.insts = [] → ∃ t, exec (.flr f) s = .next t ∧ SameBut settleParts s t ∧ FunctionReset f s t) ∧
  (s.insts = [] → s.fns[f].d3 = true → ∃ t, exec (.d0Return f) s = .next t ∧ SameBut settleParts s t ∧ FunctionReset f s t) ∧
  (s.fns[f].d3 = false → exec (.d0Return f) s = .next s) ∧
  (s.linkUp (portOf f) = true →
    ∃ t, exec (.d3hotEntry f) s = .next t ∧ SameBut [.fns] s t ∧ t.fns[f] = { s.fns[f] with d3 := true } ∧
      ∀ g : Fin 4, g ≠ f → t.fns[g] = s.fns[g]) ∧
  (s.linkUp (portOf f) = false → exec (.d3hotEntry f) s = .next s)

/-- PERST_N holds a port's link down and resets its functions, and its release wakes a part in RETENTION; a link trains, degrades and fails;
PME_Turn_Off takes the port to L2/L3 Ready, and when every port is there it is a request for DRAIN; ASPM takes an idle port to L1 (R30, R40,
R421, R423, R432 to R435). -/
def Obligations.PortsTrainFailAndSleep : Prop := ∀ (s : State) (p : Fin 2),
  -- PERST_N
  (s.insts = [] →
    ∃ t, exec (.perstNAsserted p) s = .next t ∧ SameBut settleParts s t ∧ t.chip.pins.perst[p] = true ∧ t.linkUp p = false ∧
      ∀ f : Fin 4, portOf f = p → t.get (F.HST_FN_STAT_READY f.val) = 0 ∧ t.fns[f].sqs = [] ∧ t.fns[f].cqs = [] ∧
        t.get (F.HST_LINK_STAT_WIDTH f.val) = 0) ∧
  (s.mode ≠ mRETENTION →
    ∃ t, exec (.perstNReleased p) s = .next t ∧ SameBut [.chip] s t ∧
      t.chip = { s.chip with pins := { s.chip.pins with perst := s.chip.pins.perst.set p false } }) ∧
  (s.mode = mRETENTION → s.chip.pins.perst[p] = true →
    ∃ t, exec (.perstNReleased p) s = .next t ∧ t.mode = mBRINGUP ∧ t.get F.DEV_MODE_STAT_PREV_MODE = mRETENTION ∧
      t.get F.DEV_MODE_STAT_CAUSE = 0xA ∧ t.get F.DEV_MODE_STAT_TRANSITION = 1 ∧ t.boot.running = true ∧ t.boot.step = 13 ∧ t.boot.cause = 4 ∧
      t.get F.SEC_BOOT_STAT_STEP = 13 ∧ t.chip.waking = true ∧ t.chip.pins.perst[p] = false ∧ t.insts = [] ∧ t.otp = s.otp ∧
      t.discs = s.discs ∧ t.volumes = s.volumes ∧ ∀ a, memRead t.dram.mem a = memRead s.dram.mem a) ∧
  -- HST_LINK_UP
  (∀ speed width : Nat, s.chip.pins.perst[p] = false → linkMode s.mode = true → 1 ≤ speed → speed ≤ 5 →
    width = 1 ∨ width = 2 ∨ width = 4 →
    ∃ t, exec (.hstLinkUp p speed width) s = .next t ∧ SameBut eventParts s t ∧ t.chip.l2Ready[p] = false ∧
      t.chip.degraded.contains (.port p.val) = false ∧
      (∀ f : Fin 4, portOf f = p → t.get (F.HST_LINK_STAT_SPEED f.val) = min speed (s.linkLimit p) ∧ t.get (F.HST_LINK_STAT_WIDTH f.val) = width ∧
        t.get (F.HST_LINK_STAT_PSTATE f.val) = 0) ∧
      Counted (Ev.port p.val hLINK_UP) s t ∧
      if min speed (s.linkLimit p) < 5 ∨ width < 4 then Counted (Ev.port p.val hLINK_DEGRADED) s t
      else Raised (Ev.port p.val hLINK_UP) 0 0 (speed + 2 ^ 32 * width) s t) ∧
  (∀ speed width : Nat, s.chip.pins.perst[p] = true → exec (.hstLinkUp p speed width) s = .next s) ∧
  -- HST_LINK_DOWN
  (s.linkUp p = true → s.chip.l2Ready[p] = false → s.insts = [] → s.chip.recovering = [] →
    ∃ t, exec (.hstLinkDown p) s = .next t ∧ SameBut settleParts s t ∧ t.linkUp p = false ∧ t.chip.degraded.contains (.port p.val) = true ∧
      t.chip.recovering = [] ∧ Counted (Ev.port p.val hLINK_DOWN) s t ∧
      ∀ f : Fin 4, portOf f = p → t.get (F.HST_FN_STAT_READY f.val) = 0 ∧ t.fns[f].sqs = [] ∧ t.fns[f].cqs = []) ∧
  (s.linkUp p = false → exec (.hstLinkDown p) s = .next s) ∧
  -- PME_TURN_OFF
  (s.linkUp p = true →
    (∀ q : Fin 2, q ≠ p → s.linkUp q = true → s.chip.l2Ready[q] = false → s.chip.retaining = false →
      ∃ t, exec (.pmeTurnOff p) s = .next t ∧ SameBut [.hstRegs, .chip] s t ∧ t.chip.l2Ready[p] = true ∧
        ∀ f : Fin 4, portOf f = p → t.get (F.HST_LINK_STAT_PSTATE f.val) = 2) ∧
    (s.portsReady = true ∨ (∀ q : Fin 2, q ≠ p → s.linkUp q = false) → s.chip.retaining = false → s.mode = mIDLE ∨ s.mode = mACTIVE →
      s.get F.DEV_MODE_STAT_TRANSITION = 0 → s.get F.DEV_MODE_REQ_TARGET = 0 →
      ∃ t, exec (.pmeTurnOff p) s = .next t ∧ t.mode = mDRAIN ∧ t.get F.DEV_MODE_STAT_PREV_MODE = s.mode ∧
        t.get F.DEV_MODE_STAT_CAUSE = 0xC)) ∧
  (s.linkUp p = false → exec (.pmeTurnOff p) s = .next s) ∧
  -- ASPM_L1_ENTRY
  (s.linkUp p = true → s.get (F.HST_LINK_STAT_PSTATE (2 * p.val)) = 0 → s.insts = [] →
    (∀ f : Fin 4, portOf f = p → ∀ r ∈ s.fns[f].cqs, r.waiting = []) →
    ∃ t, exec (.aspmL1Entry p) s = .next t ∧ SameBut [.hstRegs] s t ∧
      ∀ f : Fin 4, portOf f = p → t.get (F.HST_LINK_STAT_PSTATE f.val) = 1)

/-- A vector that is unmasked sends the message that waited for it, unless the function mask holds; the SMBus alert is released and answered
with the part's address (R430, R437). A masked vector that nothing waits for sends nothing. -/
def Obligations.VectorsAndAlertsAreDelivered : Prop := ∀ (s : State) (f : Fin 4),
  (∀ v : Fin 65,
    (s.fns[f].fnMask = true ∨ s.fns[f].pending.contains v.val = false → s.fns[f].pending.all (fun x => s.fns[f].masked.contains x) = true →
      ∃ t, exec (.msixUnmask f (some v)) s = .next t ∧ SameBut [.fns] s t ∧ t.fns[f].pending = s.fns[f].pending ∧
        t.fns[f].masked = s.fns[f].masked.filter (· != v.val)) ∧
    (s.fns[f].fnMask = false → s.fns[f].d3 = false → s.fns[f].pending = [v.val] → s.fns[f].masked.contains v.val = true →
      (v.val = 0 ∨ ∃ r ∈ s.fns[f].cqs, r.num + 1 = v.val ∧ r.poll = false ∧ 0 < r.held) →
      ∃ t, exec (.msixUnmask f (some v)) s = .next t ∧ SameBut [.hstRegs, .out, .fns] s t ∧ t.out = s.out ++ [.msix f.val v.val] ∧
        t.fns[f].pending = [] ∧ t.fns[f].masked = s.fns[f].masked.filter (· != v.val)) ∧
    (s.fns[f].fnMask = true → s.fns[f].d3 = false → s.fns[f].pending = [v.val] → s.fns[f].masked.contains v.val = false → v.val = 0 →
      ∃ t, exec (.msixUnmask f none) s = .next t ∧ SameBut [.hstRegs, .out, .fns] s t ∧ t.out = s.out ++ [.msix f.val v.val] ∧
        t.fns[f].pending = [] ∧ t.fns[f].fnMask = false)) ∧
  (mBOOT ≤ s.mode → s.chip.pins.smbAlert = true →
    ∃ t, exec .smbAlertResponse s = .next t ∧ SameBut [.out, .chip] s t ∧
      t.chip = { s.chip with pins := { s.chip.pins with smbAlert := false } } ∧
      t.out = s.out ++ [.smbus (0x58 + s.chip.pins.smbAddr % 4)]) ∧
  (s.chip.pins.smbAlert = false → exec .smbAlertResponse s = .next s)

/-- A step that hangs is ended by the watchdog, as a reset by RESET_N whose start has cause 5; a part that does not start leaves it (R30, R506,
R508). -/
def Obligations.TheWatchdogRestartsAStart : Prop := ∀ s : State,
  (s.boot.running = true →
    (s.chip.pins.supplies = true ∧ s.chip.pins.resetN = true ∧ s.chip.pins.slathLocked = true ∧ s.chip.pins.brownOut = false ∧
        s.chip.pins.hot = false →
      ∃ t, exec .bootWatchdog s = .next t ∧ BootBegun mRESET 5 t ∧ t.get F.DEV_MODE_STAT_CAUSE = 0 ∧
        t.evq.recs = [] ∧ t.evq.held.map (fun r => (r.event, r.detail)) = [(Ev.MODE_CHANGE, mRESET + 256 * mBOOT)] ∧
        t.insts = [] ∧ t.cache = [] ∧ t.strands = [] ∧ t.flash = {} ∧ t.boot.entries = [] ∧ t.chip.transition = none ∧ t.chip.degraded = [] ∧
        t.chip.pins.resetN = true ∧ t.chip.pins.slathLocked = true ∧
        SameBut [.out, .devRegs, .evtRegs, .seqRegs, .cchRegs, .drmRegs, .flzRegs, .hstRegs, .secRegs, .lifRegs, .srvRegs, .motRegs, .stpRegs,
          .rchRegs, .ldpRegs, .lanRegs, .wrpRegs, .calRegs, .bayRegs, .optRegs, .trcRegs, .evq, .shadows, .chip, .boot, .dbg, .cache, .extents,
          .strands, .deferred, .requests, .flash, .life, .lost, .fns, .class0, .insts, .nextId, .bays, .spokes, .optics, .servos, .traces,
          .motors, .axes, .inputs, .lanes, .detectors, .frames, .writers, .cal, .seqs, .cch, .dram] s t) ∧
    (s.chip.pins.resetN = false ∨ s.chip.pins.slathLocked = false →
      ∃ t, exec .bootWatchdog s = .next t ∧ ResetTo s t mRESET ∧ t.boot.cause = 5)) ∧
  (s.boot.running = false → exec .bootWatchdog s = .next s)

/-- A routine runs word by word: END releases its pending set and takes its thread away, with the completion that the set holds; an illegal
word is a microcode fault; WAIT parks it. A queued event routine starts with the count of raises in GPR_0 (R440 to R445, R449, R451). -/
def Obligations.RoutinesRunEndAndPark : Prop := ∀ (s : State) (ofEvent : Bool) (n : Nat) (q : Fin 16) (t : Fin 8) (x : Thread),
  (s.awake = true → s.mayRun ofEvent n q t x → s.quiet → ∀ w : MicroWord, s.fetchWord x.now.addr = some w →
    -- END with nothing pending, and with a completion pending
    (illegalWord w = false → (stepWord s (x.onto q t) (s.entryOf ofEvent n) w).2 = .finish →
      s.conflicts (stepWord s (x.onto q t) (s.entryOf ofEvent n) w).1 = false → x.recovers = none →
      ((stepWord s (x.onto q t) (s.entryOf ofEvent n) w).1.pend = [] →
        ∃ u, exec (.routineResume ofEvent n q t []) s = .next u ∧ SameBut (.cch :: settleParts) s u ∧
          u.seqs.threads = s.threadsBut ofEvent n ∧ Added F.SEQ_COMMIT_CNT_CNT 1 s u ∧ u.cch.serial = (s.cch.serial + 1) % 2 ^ 32 ∧
          u.cch.stamps = s.cch.stamps) ∧
      (∀ (i : Inst) (code dw0 : Nat), ofEvent = false → s.inst n = some i → s.canFinish i →
        (stepWord s (x.onto q t) (s.entryOf ofEvent n) w).1.pend = [.complete code dw0] →
        ∃ u, exec (.routineResume ofEvent n q t []) s = .next u ∧ SameBut (.cch :: settleParts) s u ∧ u.finished i code dw0)) ∧
    -- an illegal word
    (illegalWord w = true →
      (ofEvent = true →
        ∃ u, exec (.routineResume ofEvent n q t []) s = .next u ∧ SameBut settleParts s u ∧ u.seqs.threads = s.threadsBut ofEvent n ∧
          u.get (F.SEQ_DISPATCH_EV_ENABLED n) = 0 ∧ Counted Ev.SEQ_MICROCODE_FAULT s u) ∧
      (∀ i : Inst, ofEvent = false → s.inst n = some i → s.canFinish i →
        ∃ u, exec (.routineResume ofEvent n q t []) s = .next u ∧ SameBut settleParts s u ∧
          u.finished i cINTERNAL_ERROR Ev.SEQ_MICROCODE_FAULT ∧ Counted Ev.SEQ_MICROCODE_FAULT s u)) ∧
    -- WAIT
    (∀ tag addr : Nat, illegalWord w = false → (stepWord s (x.onto q t) (s.entryOf ofEvent n) w).2 = .park tag addr →
      ∃ u, exec (.routineResume ofEvent n q t []) s = .next u ∧ SameBut settleParts s u ∧
        u.seqs.threads = s.threadsBut ofEvent n ++
          [{ (stepWord s (x.onto q t) (s.entryOf ofEvent n) w).1 with waits := some tag, words := 0 }])) ∧
  -- it waits for a reply, or there is no such routine
  (∀ tag : Nat, s.seqs.threads.find? (sameRoutine ofEvent n) = some x → x.waits = some tag → x.tags.any (fun y => y.slot == tag) = true →
    exec (.routineResume ofEvent n q t []) s = .next s) ∧
  (s.seqs.threads.find? (sameRoutine ofEvent n) = none → exec (.routineResume ofEvent n q t []) s = .next s) ∧
  -- EVENT_ROUTINE_DISPATCH
  (s.awake = true → s.nextRoutine = some n → s.get F.SEQ_STAT_RUN = 1 → bitAt (s.get F.SEQ_FAILED_MASK) q.val = false → 6 ≤ t.val →
    ∃ u y, exec (.eventRoutineDispatch q t) s = .next u ∧ SameBut [.seqRegs, .chip, .seqs] s u ∧
      u.seqs.threads = s.seqs.threads ++ [y] ∧ y.seq = q.val ∧ y.thread = t.val ∧ y.event = some n ∧ y.inst = none ∧
      y.now.addr = s.get (F.SEQ_DISPATCH_EV_ENTRY n) ∧ y.now.reg 0 = BitVec.ofNat 64 (tabGet s.seqs.raises n 0) ∧ y.restart = y.now ∧
      u.chip.routines = s.chip.routines.filter (· != n) ∧ tabGet u.seqs.raises n 0 = 0) ∧
  (s.nextRoutine = none → exec (.eventRoutineDispatch q t) s = .next s)

/-- A corrected word is counted; an error in a thread's state restarts its phase, and the third restart within 1 s takes its sequencer out of
service; a phase that runs too long restarts once, and is then a microcode fault (R448, R449, R544). -/
def Obligations.SequencerFaultsRestartPhases : Prop := ∀ (s : State) (ofEvent : Bool) (n : Nat) (q : Fin 16) (addr : BitVec 16) (x : Thread),
  (s.awake = true → ∃ u, exec (.seqFault q .corrected ofEvent n addr) s = .next u ∧ SameBut eventParts s u ∧ Rose F.SEQ_CS_ECC_CNT_CNT s u ∧
    Raised Ev.CS_ECC_CORRECTED 0 0 0 s u) ∧
  (s.awake = true → s.seqs.threads.find? (sameRoutine ofEvent n) = some x → s.chip.recovering = [] →
    ((s.restartsOf q).length < 2 →
      ∃ u, exec (.seqFault q .threadState ofEvent n addr) s = .next u ∧ SameBut eventParts s u ∧
        u.seqs.threads = s.threadsBut ofEvent n ++ [{ x.again with recovers := some q.val }] ∧ u.chip.recovering = [.sequencer q.val] ∧
        Rose F.SEQ_RESTART_CNT_CNT s u ∧ Counted Ev.SEQ_RESTART s u ∧ u.get F.SEQ_FAILED_MASK = s.get F.SEQ_FAILED_MASK) ∧
    (2 ≤ (s.restartsOf q).length → bitAt (s.get F.SEQ_FAILED_MASK) q.val = false →
      ∃ u, exec (.seqFault q .threadState ofEvent n addr) s = .next u ∧ SameBut (.insts :: eventParts) s u ∧
        u.seqs.threads.find? (sameRoutine ofEvent n) = some { x.again with recovers := some q.val } ∧
        (∀ y ∈ s.seqs.threads, sameRoutine ofEvent n y = false → y.seq = q.val → y.waits = none → y.again ∈ u.seqs.threads) ∧
        bitAt (u.get F.SEQ_FAILED_MASK) q.val = true ∧ u.chip.degraded.contains (.sequencer q.val) = true ∧
        Counted Ev.SEQ_FAILED s u)) ∧
  (s.awake = true → s.seqs.threads.find? (sameRoutine ofEvent n) = some x → 16384 ≤ x.words →
    (x.watchdogs = 0 → (s.restartsOf (Fin.ofNat 16 x.seq)).length < 2 →
      ∃ u, exec (.seqWatchdog ofEvent n) s = .next u ∧ SameBut (.insts :: eventParts) s u ∧
        u.seqs.threads = s.threadsBut ofEvent n ++ [{ x.again with watchdogs := 1 }] ∧ Rose F.SEQ_RESTART_CNT_CNT s u ∧
        Counted Ev.SEQ_WATCHDOG s u) ∧
    (x.watchdogs ≠ 0 → ofEvent = true → s.quiet →
      ∃ u, exec (.seqWatchdog ofEvent n) s = .next u ∧ SameBut settleParts s u ∧ u.seqs.threads = s.threadsBut ofEvent n ∧
        u.get (F.SEQ_DISPATCH_EV_ENABLED n) = 0 ∧ Counted Ev.SEQ_WATCHDOG s u ∧ Counted Ev.SEQ_MICROCODE_FAULT s u)) ∧
  (s.seqs.threads.find? (sameRoutine ofEvent n) = some x → x.words < 16384 → exec (.seqWatchdog ofEvent n) s = .next s)

/-- A request that hits is served, one that misses takes its bank's place and a way; a fill puts its line into the cache; a write-back that has
ended frees its entry. With nothing in a bank's queue, nothing else moves (R457, R458, R461). -/
def Obligations.TheCacheServesFillsAndWritesBack : Prop := ∀ s : State,
  -- CACHE_ACCESS
  (∀ (id line : Nat) (inState : Bool), s.awake = true → s.cchServes line = true → s.cch.queue = [] →
    (∀ l : CacheLine, s.cacheLine line = some l →
      (∃ t, exec (.cacheAccess id line false .clean inState) s = .next t ∧ SameBut [.cchRegs, .cch] s t ∧ t.cch.lines = s.cch.lines ∧
        t.cch.misses = s.cch.misses ∧ t.cch.victims = s.cch.victims ∧ Added F.CCH_HIT_CNT_CNT 1 s t) ∧
      (s.get F.CCH_STAT_DRAINING = 0 →
        ∃ t, exec (.cacheAccess id line true .clean inState) s = .next t ∧ SameBut [.cchRegs, .cch] s t ∧
          t.cch.lines = s.cch.lines.map (fun x => if x.line = line then { x with dirty := true } else x) ∧ t.cch.misses = s.cch.misses ∧
          t.cch.victims = s.cch.victims ∧ Added F.CCH_HIT_CNT_CNT 1 s t)) ∧
    (∀ write : Bool, s.cacheLine line = none → s.cch.misses.find? (fun m => bankOf m.line == bankOf line) = none →
      s.cch.victims.find? (fun v => v.line == line) = none → s.get F.CCH_STAT_DRAINING = 0 →
      (s.victimsOf (bankOf line)).length < 4 →
      ∃ t, exec (.cacheAccess id line write .clean inState) s = .next t ∧ SameBut [.cchRegs, .cch, .dram] s t ∧
        t.cch.misses = s.cch.misses ++ [⟨line, s.wayFor line, [⟨id, line, write⟩]⟩] ∧ Added F.CCH_MISS_CNT_CNT 1 s t ∧
        t.cch.lines = s.cch.lines.filter (fun l => !(Machine.setOf l.line == Machine.setOf line && l.way == s.wayFor line)))) ∧
  (∀ (id line : Nat) (write : Bool) (e : Ecc) (inState : Bool), s.awake = true → s.cchServes line = false →
    ∃ t, exec (.cacheAccess id line write e inState) s = .next t ∧ SameBut [.dram] s t ∧ t.dram.mem = s.dram.mem ∧
      t.dram.sectors = s.dram.sectors) ∧
  -- CACHE_FILL_RETURN
  (∀ (bank : Fin 8) (m : Miss), s.awake = true → s.cch.misses.find? (fun m => bankOf m.line == bank.val) = some m → s.cch.queue = [] →
    s.cch.refetch = none →
    ∃ t, exec (.cacheFillReturn bank none) s = .next t ∧ SameBut [.cch, .dram] s t ∧
      t.cch.lines = s.cch.lines ++ [⟨m.line, m.way, m.waiting.any CacheReq.write⟩] ∧
      t.cch.misses = s.cch.misses.filter (fun x => x.line != m.line) ∧ t.cch.victims.map Victim.line = s.cch.victims.map Victim.line) ∧
  (∀ (bank : Fin 8) (e : Option DramErr), s.cch.misses.find? (fun m => bankOf m.line == bank.val) = none →
    exec (.cacheFillReturn bank e) s = .next s) ∧
  -- VICTIM_WRITEBACK_DONE
  (∀ line : Nat, s.awake = true → s.cch.queue = [] → s.cch.victims.any (fun v => v.line == line) = true →
    ∃ t, exec (.victimWritebackDone line) s = .next t ∧ SameBut [.cchRegs, .cch, .dram] s t ∧ Added F.CCH_WB_CNT_CNT 1 s t ∧
      t.cch.lines = s.cch.lines ∧
      t.cch.victims.map Victim.line = (s.cch.victims.filter (fun v => v.line != line)).map Victim.line) ∧
  (∀ line : Nat, s.cch.victims.any (fun v => v.line == line) = false → exec (.victimWritebackDone line) s = .next s)

/-- Range operations begin, are refused, or end at once while the cache is off; they end with their lines clean; the cache is enabled, refused,
or drains, and a drain ends with it empty and bypassed (R462, R463, R464, R467). -/
def Obligations.TheCacheCleansDrainsAndIsEnabled : Prop := ∀ (s : State) (m : Master),
  -- CCH_OP_CLEAN and CCH_OP_CLEAN_INVALIDATE
  (s.mayWrite m = true → s.get F.CCH_STAT_OP_BUSY = 0 → s.get F.CCH_OP_LINES_LINES ≠ 0 →
    s.get F.CCH_OP_BASE_LO_LO + 2 ^ 25 * s.get F.CCH_OP_BASE_HI_HI + s.get F.CCH_OP_LINES_LINES ≤ s.dramLines →
    (s.get F.CCH_CTL_ENABLE = 1 →
      (∃ t, exec (.cchOpClean m) s = .next t ∧ RangeOpBegun 1 s t) ∧ (∃ t, exec (.cchOpCleanInvalidate m) s = .next t ∧ RangeOpBegun 2 s t)) ∧
    (s.get F.CCH_CTL_ENABLE = 0 →
      (∃ t, exec (.cchOpClean m) s = .next t ∧ SameBut eventParts s t ∧ Raised Ev.CCH_OP_DONE 0 0 0 s t) ∧
      (∃ t, exec (.cchOpCleanInvalidate m) s = .next t ∧ SameBut eventParts s t ∧ Raised Ev.CCH_OP_DONE 0 0 0 s t))) ∧
  (∀ c : Instr, c = .cchOpClean m ∨ c = .cchOpCleanInvalidate m →
    (s.mayWrite m = true →
      (s.get F.CCH_STAT_OP_BUSY = 1 ∨ s.get F.CCH_OP_LINES_LINES = 0 ∨
          s.dramLines < s.get F.CCH_OP_BASE_LO_LO + 2 ^ 25 * s.get F.CCH_OP_BASE_HI_HI + s.get F.CCH_OP_LINES_LINES →
        ∃ t, exec c s = .next t ∧ SameBut (.cchRegs :: eventParts) s t ∧ t.get F.CCH_STAT_OP_REJECT = 1 ∧
          Raised Ev.CCH_OP_REJECT 0 0 0 s t)) ∧
    (s.mayWrite m = false → exec c s = .next s)) ∧
  -- CCH_OP_DONE
  (∀ (base n : Nat) (inv : Bool), s.awake = true → s.cch.op = some (base, n, inv) → s.get F.CCH_STAT_DRAINING = 0 → s.cch.queue = [] →
    ∃ t, exec .cchOpDone s = .next t ∧ SameBut (.cchRegs :: .cch :: eventParts) s t ∧ t.get F.CCH_STAT_OP_BUSY = 0 ∧
      t.get F.CCH_OP_CTL_KIND = 0 ∧ t.cch.op = none ∧ Raised Ev.CCH_OP_DONE 0 0 0 s t ∧
      (∀ l ∈ t.cch.lines, base ≤ l.line → l.line < base + n → inv = false ∧ l.dirty = false) ∧
      (∀ l ∈ s.cch.lines, l.line < base ∨ base + n ≤ l.line → l ∈ t.cch.lines) ∧
      (∀ v ∈ t.cch.victims, v.line < base ∨ base + n ≤ v.line)) ∧
  (s.cch.op = none → exec .cchOpDone s = .next s) ∧
  -- CCH_CTL_WRITE
  (∀ v : Word, s.mayWrite m = true →
    (bitAt v.toNat 0 = true → s.get F.CCH_CTL_ENABLE = 0 → s.get F.CCH_STAT_DRAINING = 0 → s.get F.CCH_REGION_SIZE_SIZE ≠ 0 →
      s.get F.CCH_REGION_BASE_BASE + s.get F.CCH_REGION_SIZE_SIZE ≤ s.hostMiB →
      ∃ t, exec (.cchCtlWrite m v) s = .next t ∧ SameBut [.cchRegs] s t ∧ t.get F.CCH_CTL_ENABLE = 1 ∧ t.get F.CCH_STAT_BYPASS = 0) ∧
    (bitAt v.toNat 0 = true → s.get F.CCH_CTL_ENABLE = 0 →
      s.get F.CCH_STAT_DRAINING = 1 ∨ s.get F.CCH_REGION_SIZE_SIZE = 0 ∨
        s.hostMiB < s.get F.CCH_REGION_BASE_BASE + s.get F.CCH_REGION_SIZE_SIZE →
      ∃ t, exec (.cchCtlWrite m v) s = .next t ∧ SameBut (.cchRegs :: eventParts) s t ∧ t.get F.CCH_CTL_ENABLE = 0 ∧
        t.get F.CCH_STAT_CFG_REJECT = 1 ∧ Raised Ev.CCH_CFG_REJECT 0 0 0 s t) ∧
    (bitAt v.toNat 0 = false → s.get F.CCH_CTL_ENABLE = 1 →
      ∃ t, exec (.cchCtlWrite m v) s = .next t ∧ SameBut [.cchRegs] s t ∧ t.get F.CCH_CTL_ENABLE = 0 ∧ t.get F.CCH_STAT_DRAINING = 1)) ∧
  -- CCH_DRAIN_DONE
  (s.awake = true → s.get F.CCH_STAT_DRAINING = 1 → s.get F.CCH_STAT_OP_BUSY = 0 →
    ∃ t, exec .cchDrainDone s = .next t ∧ SameBut (.cchRegs :: .cch :: eventParts) s t ∧ t.cch.lines = [] ∧ t.cch.victims = [] ∧
      t.cch.misses = [] ∧ t.cch.queue = [] ∧ t.get F.CCH_STAT_DRAINING = 0 ∧ t.get F.CCH_STAT_BYPASS = 1 ∧
      Raised Ev.CCH_DRAIN_DONE 0 0 0 s t) ∧
  (s.get F.CCH_STAT_DRAINING = 0 → exec .cchDrainDone s = .next s)

/-- Refreshes are postponed at most four times; the hottest device doubles the rate above 85 °C; patrols count and count the lines corrected;
a retraining in PARK or IDLE writes the training record; the scrub of on-chip memories counts what it corrects (R473, R474, R476, R480, R481,
R491). -/
def Obligations.DramIsRefreshedPatrolledAndRetrained : Prop := ∀ s : State,
  (∀ (c : Fin 2) (postponed : Bool) (steps : List (Fin 80 × Int × Int)),
    (s.awake = true → bitAt (s.get F.DRM_STAT_CH_UP) c.val = true → s.dram.selfRefresh = false →
      (postponed = true → s.get F.DRM_REF_STAT_POSTPONED < 4 →
        ∃ t, exec (.dramRefresh c postponed steps) s = .next t ∧ SameBut [.drmRegs] s t ∧
          t.get F.DRM_REF_STAT_POSTPONED = s.get F.DRM_REF_STAT_POSTPONED + 1) ∧
      (postponed = false ∨ 4 ≤ s.get F.DRM_REF_STAT_POSTPONED →
        ∃ t, exec (.dramRefresh c postponed steps) s = .next t ∧ SameBut [.drmRegs, .dram] s t ∧
          t.get F.DRM_REF_STAT_POSTPONED = 0 ∧ t.dram.mem = s.dram.mem ∧ (∀ x ∈ t.dram.neighbours, x.1 / 2 ≠ c.val) ∧
          (s.mode ≠ mACTIVE ∨ s.get F.DRM_STAT_CONFIG = 3 → ∀ n : Nat, t.get (F.DRM_DELAY_RD n) = s.get (F.DRM_DELAY_RD n)) ∧
          (∀ (l : Fin 80) (r w : Int), steps = [(l, r, w)] → s.mode = mACTIVE → s.get F.DRM_STAT_CONFIG = 1 ∨ s.get F.DRM_STAT_CONFIG = 2 →
            -127 ≤ s.geti (F.DRM_DELAY_RD (256 * c.val + l.val)) → s.geti (F.DRM_DELAY_RD (256 * c.val + l.val)) ≤ 126 →
            t.geti (F.DRM_DELAY_RD (256 * c.val + l.val)) = s.geti (F.DRM_DELAY_RD (256 * c.val + l.val)) + max (-1) (min 1 r)))) ∧
    (bitAt (s.get F.DRM_STAT_CH_UP) c.val = false → exec (.dramRefresh c postponed steps) s = .next s)) ∧
  (∀ temps : List Int, temps ≠ [] → (∀ x ∈ temps, -128 ≤ x ∧ x ≤ 127) → s.awake = true → s.get F.DRM_CTL_ENABLE = 1 →
    s.dram.selfRefresh = false →
    ∃ t, exec (.dramTempPoll temps) s = .next t ∧ SameBut [.drmRegs, .dram] s t ∧ t.geti F.DRM_REF_STAT_TEMP ∈ temps ∧
      (∀ x ∈ temps, x ≤ t.geti F.DRM_REF_STAT_TEMP) ∧ (t.get F.DRM_REF_STAT_DOUBLE = 1 ↔ ∃ x ∈ temps, 85 < x) ∧
      t.dram = { s.dram with temps := temps, swept := if s.dram.swept = [] then temps else s.dram.swept }) ∧
  (s.awake = true → s.get F.DRM_CTL_ENABLE = 1 → s.dram.selfRefresh = false →
    (∃ t, exec (.dramPatrol []) s = .next t ∧ SameBut [.drmRegs] s t ∧ Rose F.DRM_PATROL_CNT_CNT s t) ∧
    (∀ e : DramErr, e.line < s.dramLines → s.dramVerdict e = .corrected → e.everyLine = false → s.dram.corrected.length < 255 →
      ∃ t, exec (.dramPatrol [e]) s = .next t ∧ SameBut (.drmRegs :: .dram :: eventParts) s t ∧ Rose F.DRM_PATROL_CNT_CNT s t ∧
        Added F.DRM_ECC_CNT_CNT 1 s t ∧ Raised Ev.DRM_ECC_CORRECTED 0 0 0 s t) ∧
    (∀ (e : DramErr) (seqs : List Nat), e.line < s.dramLines → s.dramVerdict e = .uncorrectable → e.area = .writeCache seqs →
      ∃ t, exec (.dramPatrol [e]) s = .next t ∧ SameBut (.drmRegs :: .cache :: eventParts) s t ∧ Rose F.DRM_PATROL_CNT_CNT s t ∧
        Rose F.DRM_UE_CNT_CNT s t ∧ t.get F.DRM_LAST_ERR_LINE = e.line % 2 ^ 30 * 128 ∧ Counted Ev.DRM_UNCORRECTABLE s t ∧
        t.cache = s.cache.map (fun c => if seqs.contains c.seq then { c with poison := true } else c))) ∧
  (∀ sweeps : List LaneSweep, s.get F.DRM_STAT_CONFIG = 3 → s.mode = mPARK ∨ s.mode = mIDLE →
    (s.dram.drifted = true → sweeps ≠ [] → (∀ x ∈ sweeps, sweepNarrow x = false) →
      ∃ t, exec (.dramRetrain sweeps) s = .next t ∧ SameBut [.drmRegs, .nv, .dram] s t ∧
        t.dram = { s.dram with swept := s.dram.temps } ∧ t.nv.training.map Prod.fst = some 3) ∧
    (s.dram.drifted = false ∨ (∃ x ∈ sweeps, sweepNarrow x = true) → exec (.dramRetrain sweeps) s = .next s)) ∧
  (∀ (addr : Nat) (e : Fin 2), s.awake = true →
    (∃ t, exec (.onchipScrub [.patchRam addr .corrected]) s = .next t ∧ SameBut eventParts s t ∧ Rose F.SEQ_CS_ECC_CNT_CNT s t ∧
      Raised Ev.CS_ECC_CORRECTED 0 0 0 s t) ∧
    (∃ t, exec (.onchipScrub [.servo e .corrected]) s = .next t ∧ SameBut (.srvRegs :: eventParts) s t ∧
      Rose (F.SRV_ECC_CNT_CNT e.val) s t) ∧
    exec (.onchipScrub []) s = .next s)

/-- A challenge is drawn and shifted out unless the port is locked out; one response serves it, and unlocks the port or counts a failure; the
third failure locks it out (R522, R523). The random bytes are a free value (log 3). -/
def Obligations.TheDebugPortIsChallenged : Prop := ∀ (s : State) (key : Nat) (pub sig : BitVec 512),
  (mBOOT ≤ s.mode →
    (s.get F.SEC_DBG_STAT_LOCKOUT = 0 →
      ∃ t c, exec (.dbgChal key) s = .next t ∧ SameBut [.out, .free, .dbg] s t ∧ t.free = s.free + 1 ∧ t.dbg.challenge = some c ∧
        c.key = key % 256 ∧ c.at_ = s.now ∧ t.out = s.out ++ [.debug (s.challengeBytes c)]) ∧
    (s.get F.SEC_DBG_STAT_LOCKOUT = 1 → exec (.dbgChal key) s = .next s) ∧
    (∃ t, exec (.dbgResp key pub sig) s = .next t ∧ SameBut (.secRegs :: .dbg :: eventParts) s t ∧ t.dbg.challenge = none ∧
      if s.unlocks key pub sig then
        t.get F.SEC_DBG_STAT_UNLOCKED = 1 ∧ t.get F.SEC_DBG_STAT_KEY = key ∧ t.get F.SEC_DBG_STAT_FAILS = s.get F.SEC_DBG_STAT_FAILS ∧
          Raised Ev.DEBUG_UNLOCKED 0 0 0 s t
      else
        t.get F.SEC_DBG_STAT_UNLOCKED = s.get F.SEC_DBG_STAT_UNLOCKED ∧
          t.get F.SEC_DBG_STAT_FAILS = min 3 (s.get F.SEC_DBG_STAT_FAILS + 1) ∧
          (2 ≤ s.get F.SEC_DBG_STAT_FAILS → t.get F.SEC_DBG_STAT_LOCKOUT = 1) ∧ Raised Ev.DEBUG_UNLOCK_FAIL 0 0 0 s t)) ∧
  (s.mode < mBOOT → exec (.dbgChal key) s = .next s ∧ exec (.dbgResp key pub sig) s = .next s)

/-- The life record and the strand log are saved, or the save fails; an OPU's EEPROM takes the newer counters in place of its older copy
(R551, R557, R558). -/
def Obligations.RecordsAreSaved : Prop := ∀ s : State,
  (mBRINGUP ≤ s.mode → s.mode ≠ mRETENTION →
    -- LIFE_RECORD_SAVE
    (∀ other : Bool, ∃ t, exec (.lifeRecordSave (true, other)) s = .next t ∧ SameBut [.lifRegs, .nv] s t ∧ t.nv.sys.life = s.lifeNow ∧
      t.nv.sys.lifeCopy = 1 - s.nv.sys.lifeCopy ∧ t.get F.LIF_SAVE_TIME_SEC = s.powerOn % 2 ^ 64) ∧
    (∃ t, exec (.lifeRecordSave (false, true)) s = .next t ∧ SameBut [.lifRegs, .nv] s t ∧ t.nv.sys.life = s.lifeNow ∧
      (s.nv.sys.lifeCopy ≤ 1 → t.nv.sys.lifeCopy = s.nv.sys.lifeCopy)) ∧
    (∃ t, exec (.lifeRecordSave (false, false)) s = .next t ∧ SameBut (.lifRegs :: eventParts) s t ∧ t.get F.LIF_STAT_SAVE_FAIL = 1 ∧
      Raised Ev.LIFE_RECORD_SAVE_FAIL 0 0 0 s t) ∧
    -- STRAND_LOG_APPEND
    (s.get F.FLZ_CTL_ENABLE = 1 → s.insts = [] → s.cache = [] → s.flash.blocks = [] → s.flash.copies = [] →
      ∃ t, exec .strandLogAppend s = .next t ∧ SameBut settleParts s t ∧ (∀ x ∈ t.strands, x.dirty = false) ∧
        (∀ x ∈ s.strands, x.dirty = true →
          ∃ y ∈ t.nv.sys.strandLog, y.num = x.num ∧ y.loggedSeq = x.digestSeq ∧ y.loggedDurable = s.durableSeq x) ∧
        t.nv.sys.deferred = s.deferred ∧ t.insts = [])) ∧
  (s.get F.FLZ_CTL_ENABLE = 0 → exec .strandLogAppend s = .next s) ∧
  (s.mode = mRETENTION → ∀ ok : Bool × Bool, exec (.lifeRecordSave ok) s = .next s) ∧
  -- OPU_LIFE_WRITE
  (∀ k : Fin 8, s.opuFitted k = true → mBRINGUP ≤ s.mode →
    ∃ t, exec (.opuLifeWrite k) s = .next t ∧ SameBut [.nv, .life] s t ∧
      t.nv.eeproms[k].lastLife = [s.nv.eeproms[k].lastLife.headD 0 + 1,
        s.nv.eeproms[k].lastLife.getD 1 0 + (s.life.laserSec[k] - s.life.opuMark[k].1),
        s.nv.eeproms[k].lastLife.getD 2 0 + (s.life.writeMicros[k] - s.life.opuMark[k].2.1) / 1000000,
        s.nv.eeproms[k].lastLife.getD 3 0 + (s.get (F.WRP_ENERGY_UJ k.val) - s.life.opuMark[k].2.2), s.utc.getD 0] ∧
      t.nv.sys = s.nv.sys ∧ ∀ j : Fin 8, j ≠ k → t.nv.eeproms[j] = s.nv.eeproms[j]) ∧
  (∀ k : Fin 8, s.opuFitted k = false → exec (.opuLifeWrite k) s = .next s)

/-- The hourly check of VBAT, the tamper latch and its clearing, and a ball whose level differs from what it drives (R554, R555, R559). -/
def Obligations.TheBoardIsWatched : Prop := ∀ s : State,
  -- VBAT_CHECK
  (s.awake = true →
    (∃ t, exec (.vbatCheck false) s = .next t ∧ SameBut [.lifRegs] s t ∧ t.get F.LIF_STAT_VBAT_LOW = 0) ∧
    (∃ t, exec (.vbatCheck true) s = .next t ∧ SameBut (.lifRegs :: eventParts) s t ∧ t.get F.LIF_STAT_VBAT_LOW = 1 ∧
      Raised Ev.VBAT_LOW 0 0 0 s t)) ∧
  (∀ low : Bool, s.awake = false → exec (.vbatCheck low) s = .next s) ∧
  -- TAMPER_N_ASSERTED
  (s.nv.tamper = none →
    (mBOOT ≤ s.mode →
      ∃ t, exec .tamperNAsserted s = .next t ∧ SameBut (.lifRegs :: .nv :: eventParts) s t ∧
        t.nv = { s.nv with tamper := some (s.utc.getD 0) } ∧ t.get F.LIF_STAT_TAMPER = 1 ∧
        t.get F.LIF_TAMPER_TIME_SEC = s.utc.getD 0 % 2 ^ 64 ∧ Raised Ev.TAMPER_DETECTED 0 0 0 s t) ∧
    (s.mode < mBOOT →
      ∃ t, exec .tamperNAsserted s = .next t ∧ SameBut [.nv] s t ∧ t.nv = { s.nv with tamper := some (s.utc.getD 0) })) ∧
  (s.nv.tamper ≠ none → exec .tamperNAsserted s = .next s) ∧
  -- TAMPER_CLEAR
  (∀ m : Master,
    (s.mayWrite m = true →
      ∃ t, exec (.tamperClear m) s = .next t ∧ SameBut [.lifRegs, .nv] s t ∧ t.nv = { s.nv with tamper := none } ∧
        t.get F.LIF_STAT_TAMPER = 0 ∧ t.get F.LIF_TAMPER_TIME_SEC = 0) ∧
    (s.mayWrite m = false → exec (.tamperClear m) s = .next s)) ∧
  -- PIN_SHORT_DETECT
  (∀ n : Fin 1024, outputIndex n.val = true → s.awake = true →
    (lenOpu n.val = none →
      ∃ t, exec (.pinShortDetect n) s = .next t ∧ SameBut [.lifRegs] s t ∧
        bitAt (t.get (F.LIF_PIN_SHORT_BITS (n.val / 32))) (n.val % 32) = true) ∧
    (∀ k : Fin 8, lenOpu n.val = some k → s.optics[k].laser = true →
      ∃ t, exec (.pinShortDetect n) s = .next t ∧ SameBut [.lifRegs] s t ∧
        bitAt (t.get (F.LIF_PIN_SHORT_BITS (n.val / 32))) (n.val % 32) = true) ∧
    (∀ k : Fin 8, lenOpu n.val = some k → s.optics[k].laser = false →
      ∃ t o, exec (.pinShortDetect n) s = .next t ∧
        bitAt (t.get (F.LIF_PIN_SHORT_BITS (n.val / 32))) (n.val % 32) = true ∧
        t.out = s.out ++ .wsl k.val (WslFrame.levels [0, 0, 0, 0]).bits :: .wsl k.val WslFrame.abort.bits :: o ∧
        (s.mode < mBRINGUP → t.bays[bayOf k].wasFaulted = true) ∧
        (mBRINGUP ≤ s.mode → s.bayState (bayOf k).val = bEMPTY ∨ s.bayState (bayOf k).val = bLOADED →
          t.bayState (bayOf k).val = bFAULTED) ∧
        (mBRINGUP ≤ s.mode → s.bayState (bayOf k).val = bREADY → t.bays[bayOf k].faulting = true ∨ t.bayState (bayOf k).val = bFAULTED))) ∧
  (∀ n : Fin 1024, outputIndex n.val = false → exec (.pinShortDetect n) s = .next s)

/-- Each port admits class 0 instructions through a bucket of depth 64 (64,000 thousandths of an instruction), refilled at 2,000 a second (2
thousandths each µs of the model's clock): an admitted one takes 1 from it; one that finds it empty, or whose DATA_LEN exceeds 1 MiB, takes
nothing, is executed at class 1, on a thread of class 1, and completes with CLASS_DEMOTED in place of SUCCESS, whatever instruction it is
(R369). -/
def Obligations.ClassZeroIsAdmittedThroughABucket : Prop := ∀ (s : State) (id : Nat) (i : Inst) (level : Nat),
  level = min 64000 (s.class0[portOf i.fn].level + 2 * (s.now - s.class0[portOf i.fn].at_)) →
  (s.inst id = some i → i.stage = .queued → s.get F.SEQ_STAT_RUN = 1 → s.mayStart i = true → i.chain = none → s.quietBut id →
    s.checkOpcode i = none → i.class_ = 0 → i.cls = 0 →
    ∃ t x, exec (.instructionDispatch id) s = .next t ∧ SameBut (.class0 :: settleParts) s t ∧ x ∈ t.seqs.threads ∧ x.inst = some id ∧
      t.class0[portOf i.fn].at_ = s.now ∧ (∀ p : Fin 2, p ≠ portOf i.fn → t.class0[p] = s.class0[p]) ∧
      if 1000 ≤ level ∧ i.len ≤ 2 ^ 20 then
        t.class0[portOf i.fn].level = level - 1000 ∧ t.inst id = some { i with stage := .dispatched, startedAt := s.now } ∧ x.cls = 0
      else
        t.class0[portOf i.fn].level = level ∧
          t.inst id = some { i with stage := .dispatched, startedAt := s.now, cls := 1, demoted := true } ∧ x.cls = 1) ∧
  (s.inst id = some i → i.demoted = true → i.orphan = false → (∃ r ∈ s.fns[i.fn].cqs, r.num = i.cq) →
    ∀ dw0 : Nat, State.finished ((complete id cSUCCESS dw0).exec s) i cCLASS_DEMOTED dw0)

/-- SCRUB_DISC makes the scrub of its disc due at once, and discards its progress with RESTART = 1; it completes with DW0 = 1 when the disc is
mounted, and with DW0 = 0 when DISC_NEEDED with reason 4 has been raised; a disc that the table does not hold, or holds as retired, gives
INVALID_FIELD at offset 36; a scrub that runs already gives NO_CHANGE unless RESTART is 1 (R401). -/
def Obligations.ScrubDiscMakesAScrubDue : Prop := ∀ (s : State) (id : Nat) (i : Inst), s.ready id opSCRUB i →
  i.checkFields ⟨false, false, false, none, 1, false, some (36, 8)⟩ [] ⟨[], true, [], false⟩ = none →
  (∀ d : Disc, s.disc i.discId = some d → d.retired = false →
    (d.scrubRunning = false ∨ bitAt i.operand 0 = true →
      (d.bay.isSome = true →
        ∃ t, exec (.scrubDisc id) s = .next t ∧ SameBut settleParts s t ∧ t.finished i cSUCCESS 1 ∧
          (t.disc i.discId).any (fun y => y.scrubDueNow && y.scrubRunning && (!bitAt i.operand 0 || y.scrubPairs == 0)) = true) ∧
      (d.bay = none →
        ∃ t, exec (.scrubDisc id) s = .next t ∧ SameBut (.requests :: settleParts) s t ∧ t.finished i cSUCCESS 0 ∧
          (t.disc i.discId).any (fun y => y.scrubDueNow && (!bitAt i.operand 0 || y.scrubPairs == 0)) = true ∧
          t.requests.any (fun r => r.disc == i.discId && r.reason == 4) = true ∧
          (s.requests.any (fun r => r.disc == i.discId && r.reason == 4) = false → Counted Ev.DISC_NEEDED s t))) ∧
    (d.scrubRunning = true → bitAt i.operand 0 = false →
      ∃ t, exec (.scrubDisc id) s = .next t ∧ SameBut settleParts s t ∧ t.finished i cNO_CHANGE d.bay.isSome.toNat ∧
        (t.disc i.discId).any (fun y => y.scrubRunning && y.scrubPairs == d.scrubPairs) = true)) ∧
  ((s.disc i.discId).all Disc.retired = true →
    ∃ t, exec (.scrubDisc id) s = .next t ∧ SameBut settleParts s t ∧ t.finished i cINVALID_FIELD 36)

/-- OPEN_STRAND with ADOPT = 0 creates a strand in OPEN, bound to VOLUME and owned by the issuing function: its compression mode as COMPRESS
says, with mode 0 taking the volume's default; its digest that of the empty string; DW0 its number, of 18 bits. It completes with STRAND_LIMIT
when no context is free, and with INVALID_VOLUME when the volume does not exist (R375). -/
def Obligations.OpenStrandCreatesAStrand : Prop := ∀ (s : State) (id : Nat) (i : Inst), s.ready id opOPEN i → bitAt i.operand 2 = false →
  i.checkFields ⟨false, true, false, none, 7, false, none⟩ (if i.operand % 4 = 3 then [20] else []) ⟨[], true, [], false⟩ = none →
  (∀ v : Volume, s.volumes.find? (fun v => v.num == i.volume) = some v → s.deleting i.volume id = false →
    (∀ n : Nat, s.freeStrandNum = some n → (∀ c ∈ s.cache, c.strand ≠ n) →
      ∃ t, exec (.openStrand id) s = .next t ∧ SameBut settleParts s t ∧ t.finished i cSUCCESS n ∧ 1 ≤ n ∧ n < 2 ^ 18 ∧
        s.strand n = none ∧
        (t.strand n).any (fun y => y.vol == i.volume && y.owner == i.fn && y.state == .opened && y.digest.final == sm3 [] &&
          y.compress == (i.operand % 4 == 2 || (i.operand % 4 == 0 && v.compress))) = true) ∧
    (s.freeStrandNum = none →
      ∃ t, exec (.openStrand id) s = .next t ∧ SameBut settleParts s t ∧ t.finished i cSTRAND_LIMIT 0)) ∧
  ((∀ v ∈ s.volumes, v.num ≠ i.volume) →
    ∃ t, exec (.openStrand id) s = .next t ∧ SameBut settleParts s t ∧ t.finished i cINVALID_VOLUME 0)

/-- RESET_N takes every output of a fitted element to the level that the table of R43 gives RESET, the loss of the supplies leaves them without
drive, and a thermal shutdown leaves every laser enable inactive and every laser link in electrical idle (R42, R43, R507, R565). -/
def Obligations.ResetAndSafeQuietTheOutputs : Prop := ∀ s : State,
  (s.mode ≠ mOFF → ∃ t, exec .resetNAsserted s = .next t ∧
    ∀ p : OutputPin, t.outputLevel p = if s.outputFitted p then p.inReset else .highImpedance) ∧
  (∃ t, exec .suppliesRemoved s = .next t ∧ (∀ q : Fin 2, t.outputLevel (.pcieTransmit q) = .unpowered) ∧
    ∀ p : OutputPin, (∀ q : Fin 2, p ≠ .pcieTransmit q) → t.outputLevel p = .highImpedance) ∧
  (safeFrom s.mode = true → ∃ t, exec .thermalShutdown s = .next t ∧ ∀ k : Fin 8, s.opuFitted k = true →
    t.outputLevel (.laserEnable k) = .inactive ∧ t.outputLevel (.wslLanes k) = .electricalIdle) ∧
  (∀ (p : OutputPin) (k : Nat), s.boot.halted = some k → s.mode ≠ mOFF → s.outputFitted p = true → s.outputLevel p = p.inReset)

/-- The configuration space of each function holds the identifiers of the table of R422, the subsystem identifiers of the board record where it
has them, one 64-bit memory BAR of 64 KiB, and zero in the others; over a link that is up it is answered with a retry until the start has passed
its host-link step (R422, R423). -/
def Obligations.TheConfigurationSpaceHoldsItsIdentifiers : Prop := ∀ (s : State) (f : Fin 4),
  (s.linkUp (portOf f) = true → s.hostLinkReady = true →
    s.configRead f .vendorId = .value 0x1F4D ∧ s.configRead f .deviceId = .value (if f.val % 2 = 0 then 0x4180 else 0x4181) ∧
    s.configRead f .revisionId = .value 0xB0 ∧ s.configRead f .classCode = .value 0x018000 ∧
    (s.nv.subsystems = none → s.configRead f .subsystemVendorId = .value 0x1F4D ∧
      s.configRead f .subsystemId = .value (if f.val % 2 = 0 then 0x4180 else 0x4181)) ∧
    (∀ v, s.nv.subsystems = some v → s.configRead f .subsystemVendorId = .value v[f.val % 2].1 ∧
      s.configRead f .subsystemId = .value v[f.val % 2].2) ∧
    (∃ lo hi, s.configRead f (.bar 0) = .value lo ∧ s.configRead f (.bar 1) = .value hi ∧ lo % 16 = 4 ∧
      2 ^ 32 * hi + (lo - 4) + 2 ^ 16 = 2 ^ 64) ∧
    (∀ n : Fin 6, 2 ≤ n.val → s.configRead f (.bar n) = .value 0) ∧ s.configRead f .expansionRom = .value 0) ∧
  (∀ r : ConfigReg, s.linkUp (portOf f) = true →
    s.mode < mBRINGUP ∨ (s.mode = mBRINGUP ∧ s.boot.running = true ∧ s.boot.step ≤ 14) → s.configRead f r = .retry) ∧
  (∀ r : ConfigReg, s.linkUp (portOf f) = false → s.configRead f r = .unreached)

/-- A lane output of magnitude up to 512 is companded to the sign bit and the magnitude index that the table of R225 gives it, and
reconstructed to the value of its row, negated when the sign is 1, with no more than the row's error; companding a reconstruction gives its code
again, and the order of outputs is kept (R225). -/
def Obligations.SamplesAreCompandedByTheTable : Prop :=
  (∀ x : Int, x.natAbs ≤ 512 → ∃ r ∈ compandTable, (compand x).toNat % 16 = r.1 ∧ ((compand x).getLsbD 4 = true ↔ x < 0) ∧
    r.2.1 ≤ x.natAbs ∧ x.natAbs ≤ r.2.2.1 ∧ expand (compand x) = (if x < 0 then -(r.2.2.2.1 : Int) else r.2.2.2.1) ∧
    (x - expand (compand x)).natAbs ≤ r.2.2.2.2) ∧
  (∀ c : BitVec 5, compand (expand c) = c) ∧
  (∀ x y : Int, x ≤ y → expand (compand x) ≤ expand (compand y))

/-- A line goes to the channel of bit 12 of its byte address and, in L, to the rank of its highest bit, and to channel 0 in S; in each subchannel
the code corrects the errors of one device, and beside a device that is marked failed it only detects those of another (R471, R479). -/
def Obligations.DramMapsLinesAndCorrectsOneDevice : Prop := ∀ (s : State) (line : Nat) (every : Bool) (area : DramArea),
  (s.get F.DRM_STAT_CONFIG = 1 → s.lineChannel line = 0) ∧
  (s.get F.DRM_STAT_CONFIG ≠ 1 → s.get F.DRM_STAT_CH_UP = 3 → s.lineChannel line = 128 * line / 2 ^ 12 % 2) ∧
  (s.get F.DRM_STAT_CONFIG = 3 → s.get F.DRM_STAT_CH_UP = 3 → s.lineRank line = 128 * line / 2 ^ 36 % 2) ∧
  (s.get F.DRM_STAT_CONFIG ≠ 3 → s.lineRank line = 0) ∧
  (s.get (F.DRM_DEV_FAILED_MASK (s.rankOf line)) = 0 →
    (∀ d : Fin 20, s.dramVerdict ⟨line, [d], every, area⟩ = .corrected) ∧
    (∀ d e : Fin 20, d ≠ e →
      s.dramVerdict ⟨line, [d, e], every, area⟩ = if d.val / 10 = e.val / 10 then .uncorrectable else .corrected)) ∧
  (∀ x : Fin 20, s.get (F.DRM_DEV_FAILED_MASK (s.rankOf line)) = 2 ^ x.val →
    s.dramVerdict ⟨line, [x], every, area⟩ = .corrected ∧
    ∀ d : Fin 20, d ≠ x →
      s.dramVerdict ⟨line, [x, d], every, area⟩ = (if d.val / 10 = x.val / 10 then .uncorrectable else .corrected) ∧
      s.dramVerdict ⟨line, [d], every, area⟩ = if d.val / 10 = x.val / 10 then .uncorrectable else .corrected)

/-- A MOUNT whose bay reads reports the records whose signatures are invalid; it ends with DISC_NOT_BOUND for a disc of no table entry, which is
then attached, and for one on the wrong side, whose bay parks; and it rebuilds the map of a disc whose image is missing from the map sectors
found (R68, R71, R84, R319, R395, R396). -/
def Obligations.MountsReadWhatTheDiscHolds : Prop := ∀ (s : State) (id : Nat) (i : Inst) (mem : HostMem) (x : MountFound),
  hostGood mem → s.bayFirst i = true → s.going id opMOUNT i → s.bayState i.bay.val = bREADY ∨ s.bayState i.bay.val = bREADING →
  -- a side mismatch
  (x.sideMismatch = true → s.motorState (spindleOf i.bay) = mtAT_SPEED → s.motors[spindleOf i.bay].atRest = false →
    ∃ t, exec (.mount id mem x) s = .next t ∧ SameBut (.srvRegs :: .motRegs :: .stpRegs :: .rchRegs :: .wrpRegs :: .calRegs :: .bayRegs :: .optRegs ::
        .life :: .bays :: .optics :: .motors :: .axes :: .detectors :: .writers :: .cal :: settleParts) s t ∧
      t.finished i cDISC_NOT_BOUND 0 ∧ t.bays[i.bay].mounting = none ∧ t.bayState i.bay.val = bPARKING) ∧
  (x.sideMismatch = false → (∃ k ∈ opusOf i.bay, s.get (F.RCH_SPK_STAT_SIDE_MISMATCH k.val) = 0) →
    -- a disc of no table entry
    ((mountIdentity x).bind (fun y => s.disc y.1) = none →
      ∃ t o, exec (.mount id mem x) s = .next t ∧ SameBut (.bays :: settleParts) s t ∧ t.finished i cDISC_NOT_BOUND 0 ∧
        t.bays[i.bay].mounting = none ∧
        t.bays[i.bay].attached = some (((mountIdentity x).map Prod.fst).getD 0, (mountIdentity x).isSome, ((mountIdentity x).map Prod.snd).getD false) ∧
        t.out = s.out ++ x.invalid.map (fun r => .badRecord i.bay.val r.1 r.2) ++
          .bytes id (attachedRecord i.bay ((mountIdentity x).map Prod.fst)) :: o) ∧
    -- a map that is rebuilt
    (∀ (d : Disc) (ext seq : Nat) (b : List Byte), (mountIdentity x).bind (fun y => s.disc y.1) = some d → x.imageMissing = true →
      x.maps = [(ext, seq, b)] → s.cache = [] →
      ∃ t o, exec (.mount id mem x) s = .next t ∧ SameBut (.requests :: .bays :: .writers :: .cal :: settleParts) s t ∧
        t.finished i cSUCCESS (d.id % 2 ^ 32) ∧ (t.disc d.id).any (fun y => y.bay == some i.bay) = true ∧ Counted Ev.MAP_RECOVERED s t ∧
        t.extent d.vol ext = readMapEntry d.vol ext seq b ∧ (∀ e ≠ ext, t.extent d.vol e = s.extent d.vol e) ∧
        t.out = s.out ++ x.invalid.map (fun r => .badRecord i.bay.val r.1 r.2) ++ o))
end

