-- ==== Sys2Proof/Laws/Act.lean ====
section
/-! SUPPORT. The logic of programs: what running a program does, and the parts of the state it may touch. -/

namespace Sys2Proof.Machine

/-! ### Running -/

/-- From `s` the program answers `a` and leaves `t`, whatever comes after it. -/
def Act.Runs {α : Type} (m : Act α) (s : State) (a : α) (t : State) : Prop :=
  ∀ k : α → Id Prog, Prog.run (m k) s = Prog.run (k a) t

theorem Runs.pure {α : Type} (a : α) (s : State) : Act.Runs (Pure.pure a : Act α) s a s := fun _ => rfl

theorem Runs.rd (s : State) : Act.Runs rd s s s := fun _ => rfl

theorem Runs.emit (e : Eff) (s : State) : Act.Runs (emit e) s () (e.apply s) := fun _ => rfl

theorem Runs.bind {α β : Type} {m : Act α} {f : α → Act β} {s t u : State} {a : α} {b : β}
    (h : Act.Runs m s a t) (h' : Act.Runs (f a) t b u) : Act.Runs (m >>= f) s b u :=
  fun k => (h (fun x => f x k)).trans (h' k)

theorem Runs.exec {m : Act Unit} {s t : State} (h : Act.Runs m s () t) : m.exec s = t := h (fun _ => Prog.done)

theorem Runs.answer {m : Act Unit} {s t : State} (h : Act.Runs m s () t) : answer m s = .next t :=
  congrArg Host.Outcome.next (Runs.exec h)

/-! ### Parts of the state by number -/

/-- The number of a part. -/
def Part.idx (p : Part) : Nat := p.ctorIdx

/-- Two states agree on every part whose bit is not set in `L`. -/
def Same (L : Nat) (s t : State) : Prop := ∀ p : Part, L.testBit p.idx = false → p.same s t

theorem Part.same_refl (p : Part) (s : State) : p.same s s := by
  cases p <;> simp [Part.same]

theorem Part.same_trans {p : Part} {s t u : State} (h : p.same s t) (h' : p.same t u) : p.same s u := by
  cases p <;> simp only [Part.same] at h h' ⊢ <;>
    first
    | exact fun f w => (h' f w).trans (h f w)
    | exact fun a => (h' a).trans (h a)
    | exact h'.trans h
    | exact ⟨h'.1.trans h.1, h'.2.trans h.2⟩
    | exact ⟨h'.1.trans h.1, h'.2.1.trans h.2.1, h'.2.2.trans h.2.2⟩

theorem Same.refl (L : Nat) (s : State) : Same L s s := fun p _ => p.same_refl s

theorem Same.trans {L : Nat} {s t u : State} (h : Same L s t) (h' : Same L t u) : Same L s u :=
  fun p hp => Part.same_trans (h p hp) (h' p hp)

theorem Same.mono {L M : Nat} {s t : State} (h : Same L s t) (hm : Nat.lor L M = M) : Same M s t := by
  intro p hp
  refine h p ?_
  have : (L ||| M).testBit p.idx = false := by
    change (Nat.lor L M).testBit p.idx = false
    rw [hm]; exact hp
  rw [Nat.testBit_or] at this
  exact (Bool.or_eq_false_iff.mp this).1

/-! ### What a program touches -/

/-- From every state the program runs to an answer, and every part whose bit is not set in `L` stays as it was. -/
def Touches {α : Type} (L : Nat) (m : Act α) : Prop := ∀ s, ∃ a t, Act.Runs m s a t ∧ Same L s t

theorem Touches.mono {α : Type} {L M : Nat} {m : Act α} (h : Touches L m) (hm : Nat.lor L M = M) : Touches M m :=
  fun s => let ⟨a, t, r, e⟩ := h s; ⟨a, t, r, e.mono hm⟩

theorem Touches.pure {α : Type} {L : Nat} (a : α) : Touches L (Pure.pure a : Act α) :=
  fun s => ⟨a, s, Runs.pure a s, Same.refl L s⟩

theorem Touches.rd {L : Nat} : Touches L rd := fun s => ⟨s, s, Runs.rd s, Same.refl L s⟩

theorem Touches.bind {α β : Type} {L : Nat} {m : Act α} {f : α → Act β} (h : Touches L m) (h' : ∀ a, Touches L (f a)) :
    Touches L (m >>= f) := by
  intro s
  obtain ⟨a, t, r, e⟩ := h s
  obtain ⟨b, u, r', e'⟩ := h' a t
  exact ⟨b, u, Runs.bind r r', e.trans e'⟩

theorem Touches.ite {α : Type} {L : Nat} {c : Prop} [Decidable c] {m n : Act α} (h : Touches L m) (h' : Touches L n) :
    Touches L (if c then m else n) := by
  split
  · exact h
  · exact h'

theorem Touches.doWhen {L : Nat} {c : Prop} [Decidable c] {m : Act Unit} (h : Touches L m) : Touches L (doWhen c m) :=
  Touches.ite h (Touches.pure ())

theorem Touches.forAll {α : Type} {L : Nat} {l : List α} {m : α → Act Unit} (h : ∀ a, Touches L (m a)) :
    Touches L (forAll l m) := by
  induction l with
  | nil => exact Touches.pure ()
  | cons a as ih => exact (h a).bind (fun _ => ih)

/-! ### Primitive effects -/

/-- The parts that a primitive effect touches. -/
def Eff.mask (e : Eff) : Nat :=
  match e with
  | .put f _ => 2 ^ f.window.idx
  | .queue _ => 1048576
  | .merge => 1048576
  | .consume _ _ => 1048576
  | .openQueue => 1048576
  | .out _ => 2097152
  | .useFree => 4194304
  | .issue _ => 8388608
  | .resumeGrants => 8388608
  | .fuse _ => 16777216
  | .revoke _ => 16777216
  | .hardReset _ => 1152921465652248575
  | .wakeReset _ => 1152921465652248575
  | .shadows _ => 33554432
  | .chip _ => 67108864
  | .boot _ => 134217728
  | .nv _ => 268435456
  | .dbg _ => 536870912
  | .cache _ => 1073741824
  | .extents _ => 2147483648
  | .volumes _ => 4294967296
  | .strands _ => 8589934592
  | .deferred _ => 17179869184
  | .discs _ => 34359738368
  | .requests _ => 68719476736
  | .flash _ => 137438953472
  | .life _ => 274877906944
  | .lost _ => 549755813888
  | .fn _ _ => 1099511627776
  | .class0 _ _ => 2199023255552
  | .insts _ => 4398046511104
  | .fetched => 8796093022208
  | .bay _ _ => 17592186044416
  | .spoke _ _ => 35184372088832
  | .optic _ _ => 70368744177664
  | .servo _ _ => 140737488355328
  | .trace _ _ => 281474976710656
  | .motor _ _ => 562949953421312
  | .axis _ _ => 1125899906842624
  | .input _ _ => 2251799813685248
  | .lane _ _ => 4503599627370496
  | .detector _ _ => 9007199254740992
  | .frames _ => 18014398509481984
  | .writer _ _ => 36028797018963968
  | .cal _ => 72057594037927936
  | .seqs _ => 144115188075855872
  | .cch _ => 288230376151711744
  | .dram _ => 576460752303423488
  | .poke _ _ _ => 1152921504606846976
  | .wipe => 1152921504606846976

/-- The table with `v` at key `k` reads as before at every other key. -/
theorem lookup_tabErase (t : List (Nat × Nat)) {k j : Nat} (h : j ≠ k) : (tabErase t k).lookup j = t.lookup j := by
  induction t with
  | nil => rfl
  | cons p t ih =>
    obtain ⟨a, b⟩ := p
    simp only [tabErase, List.filter_cons] at ih ⊢
    by_cases ha : a = k
    · subst ha
      have hj : (j == a) = false := by simpa using h
      simp [List.lookup, hj, ih]
    · have : (a != k) = true := by simpa using ha
      simp only [this, if_true, List.lookup]
      cases (j == a) <;> simp [ih]

theorem lookup_tabErase_self (t : List (Nat × Nat)) (k : Nat) : (tabErase t k).lookup k = none := by
  induction t with
  | nil => rfl
  | cons p t ih =>
    obtain ⟨a, b⟩ := p
    simp only [tabErase, List.filter_cons] at ih ⊢
    by_cases ha : a = k
    · simp [ha, ih]
    · have : (a != k) = true := by simpa using ha
      have hk : (k == a) = false := by simpa using fun e : k = a => ha e.symm
      simp [this, List.lookup, hk, ih]

theorem lookup_tabInsert (t : List (Nat × Nat)) {k j v : Nat} (h : j ≠ k) : (tabInsert t k v).lookup j = t.lookup j := by
  have hj : (j == k) = false := by simpa using h
  induction t with
  | nil => simp [tabInsert, List.lookup, hj]
  | cons p t ih =>
    obtain ⟨a, b⟩ := p
    simp only [tabInsert]
    split
    · simp [List.lookup, hj]
    · simp only [List.lookup]
      cases (j == a) <;> simp [ih]

theorem lookup_tabInsert_self (t : List (Nat × Nat)) {k v : Nat} (h : t.lookup k = none) :
    (tabInsert t k v).lookup k = some v := by
  induction t with
  | nil => simp [tabInsert]
  | cons p t ih =>
    obtain ⟨a, b⟩ := p
    simp only [List.lookup] at h
    simp only [tabInsert]
    split
    · simp [List.lookup]
    · cases e : (k == a)
      · simp only [e] at h
        simp [List.lookup, e, ih h]
      · simp [e] at h

/-- A table reads the value that was last put at a key. -/
theorem tabGet_tabSet_self (t : List (Nat × Nat)) (k v d : Nat) : tabGet (tabSet t k v d) k d = v := by
  unfold tabGet tabSet
  split
  · rename_i h
    simp [lookup_tabErase_self, h]
  · simp [lookup_tabInsert_self _ (lookup_tabErase_self t k)]

/-- A put at one key leaves the others. -/
theorem tabGet_tabSet_ne (t : List (Nat × Nat)) {k j : Nat} (v d d' : Nat) (h : j ≠ k) :
    tabGet (tabSet t k v d) j d' = tabGet t j d' := by
  unfold tabGet tabSet
  split
  · rw [lookup_tabErase t h]
  · rw [lookup_tabInsert _ h, lookup_tabErase t h]

/-! ### Register fields -/

theorem Fld.addr_of_key {f g : Fld} (h : f.key = g.key) : f.addr = g.addr := by
  unfold Fld.key at h; omega

theorem Fld.window_of_key {f g : Fld} (h : f.key = g.key) : f.window = g.window := by
  unfold Fld.window; rw [Fld.addr_of_key h]

@[simp] theorem State.get_put_self (s : State) (f : Fld) (v : Nat) : (s.put f v).get f = v % 2 ^ f.w :=
  tabGet_tabSet_self _ _ _ _

theorem State.get_put_window (s : State) {f g : Fld} (v : Nat) (h : g.window ≠ f.window) : (s.put f v).get g = s.get g :=
  tabGet_tabSet_ne _ _ _ _ (fun e => h (Fld.window_of_key e))

theorem State.get_put_ne (s : State) {f g : Fld} (v : Nat) (h : g.key ≠ f.key) : (s.put f v).get g = s.get g :=
  tabGet_tabSet_ne _ _ _ _ h

/-! ### Effects and what they touch -/

/-- A field of register fields aside, a put changes nothing. -/
theorem put_same (s : State) (f : Fld) (v : Nat) : Same (2 ^ f.window.idx) s (s.put f v) := by
  intro p hp
  have hne : p ≠ f.window := by
    rintro rfl
    simp at hp
  cases p <;> first
    | exact fun g hg => s.get_put_window v (by rw [hg]; exact hne)
    | exact rfl
    | exact fun _ => rfl
    | exact ⟨rfl, rfl⟩
    | exact ⟨rfl, rfl, rfl⟩

theorem Eff.same (e : Eff) (s : State) : Same e.mask s (e.apply s) := by
  cases e
  case put f v => exact put_same s f v
  all_goals
    intro p hp
    simp only [Eff.mask] at hp
    cases p <;> first
      | (exact absurd hp (by decide))
      | exact fun _ _ => rfl
      | exact fun _ => rfl
      | exact rfl
      | exact ⟨rfl, rfl⟩
      | exact ⟨rfl, rfl, rfl⟩

theorem Touches.emit {L : Nat} {e : Eff} (h : Nat.lor e.mask L = L) : Touches L (emit e) :=
  fun s => ⟨(), e.apply s, Runs.emit e s, (e.same s).mono h⟩

theorem Touches.emitM {L M : Nat} {e : Eff} (h : e.mask = M) (hm : Nat.lor M L = L) : Touches L (Machine.emit e) :=
  Touches.emit (h.symm ▸ hm)

theorem Touches.setF {L : Nat} {p : Part} {f : Fld} {v : Nat} (h : f.window = p) (hm : Nat.lor (2 ^ p.idx) L = L) :
    Touches L (setF f v) := Touches.emit (by subst h; exact hm)

theorem Touches.getF {L : Nat} {f : Fld} : Touches L (getF f) := Touches.rd.bind (fun _ => Touches.pure _)

theorem Touches.incStop {L : Nat} {p : Part} {f : Fld} (h : f.window = p) (hm : Nat.lor (2 ^ p.idx) L = L) :
    Touches L (incStop f) := Touches.getF.bind (fun _ => Touches.ite (Touches.setF h hm) (Touches.pure ()))

theorem Touches.addStop {L : Nat} {p : Part} {f : Fld} {n : Nat} (h : f.window = p) (hm : Nat.lor (2 ^ p.idx) L = L) :
    Touches L (addStop f n) := Touches.getF.bind (fun _ => Touches.setF h hm)

theorem Touches.addWrap {L : Nat} {p : Part} {f : Fld} {n : Nat} (h : f.window = p) (hm : Nat.lor (2 ^ p.idx) L = L) :
    Touches L (addWrap f n) := Touches.getF.bind (fun _ => Touches.setF h hm)

end Sys2Proof.Machine
end

