-- ==== Sys2Proof/Laws/Post.lean ====
section
/-! SUPPORT. What holds when a program has run: the rules by which a statement about a command is proved step by step. -/

namespace Sys2Proof.Machine

/-- The program runs from `s` to an answer and a state of which `Q` holds. -/
def Act.Post {α : Type} (m : Act α) (s : State) (Q : α → State → Prop) : Prop := ∃ a t, Act.Runs m s a t ∧ Q a t

theorem Post.pure {α : Type} {a : α} {s : State} {Q : α → State → Prop} (h : Q a s) : Act.Post (Pure.pure a : Act α) s Q :=
  ⟨a, s, Runs.pure a s, h⟩

theorem Post.rd {s : State} {Q : State → State → Prop} (h : Q s s) : Act.Post rd s Q := ⟨s, s, Runs.rd s, h⟩

theorem Post.emit {e : Eff} {s : State} {Q : Unit → State → Prop} (h : Q () (e.apply s)) : Act.Post (emit e) s Q :=
  ⟨(), e.apply s, Runs.emit e s, h⟩

theorem Post.setF {f : Fld} {v : Nat} {s : State} {Q : Unit → State → Prop} (h : Q () (s.put f v)) :
    Act.Post (setF f v) s Q := ⟨(), s.put f v, Runs.emit (.put f v) s, h⟩

theorem Post.bind {α β : Type} {m : Act α} {f : α → Act β} {s : State} {Q : β → State → Prop}
    (h : Act.Post m s (fun a t => Act.Post (f a) t Q)) : Act.Post (m >>= f) s Q := by
  obtain ⟨a, t, r, b, u, r', q⟩ := h
  exact ⟨b, u, Runs.bind r r', q⟩

theorem Post.getF {f : Fld} {s : State} {Q : Nat → State → Prop} (h : Q (s.get f) s) : Act.Post (getF f) s Q :=
  Post.bind (Post.rd (Post.pure h))

theorem Post.ite {α : Type} {c : Prop} [Decidable c] {m n : Act α} {s : State} {Q : α → State → Prop}
    (h : c → Act.Post m s Q) (h' : ¬c → Act.Post n s Q) : Act.Post (if c then m else n) s Q := by
  split
  · exact h (by assumption)
  · exact h' (by assumption)

theorem Post.ifTrue {α : Type} {c : Prop} [Decidable c] {m n : Act α} {s : State} {Q : α → State → Prop}
    (hc : c) (h : Act.Post m s Q) : Act.Post (if c then m else n) s Q := by rw [if_pos hc]; exact h

theorem Post.ifFalse {α : Type} {c : Prop} [Decidable c] {m n : Act α} {s : State} {Q : α → State → Prop}
    (hc : ¬c) (h : Act.Post n s Q) : Act.Post (if c then m else n) s Q := by rw [if_neg hc]; exact h

/-- A program of which only what it touches matters. -/
theorem Post.touches {α : Type} {L : Nat} {m : Act α} {s : State} {Q : α → State → Prop} (h : Touches L m)
    (q : ∀ a t, Same L s t → Q a t) : Act.Post m s Q := by
  obtain ⟨a, t, r, e⟩ := h s
  exact ⟨a, t, r, q a t e⟩

theorem Post.mono {α : Type} {m : Act α} {s : State} {Q R : α → State → Prop} (h : Act.Post m s Q)
    (q : ∀ a t, Q a t → R a t) : Act.Post m s R := by
  obtain ⟨a, t, r, e⟩ := h
  exact ⟨a, t, r, q a t e⟩

/-- A command whose program ends in a state of which `P` holds answers such a state. -/
theorem Post.answer {m : Act Unit} {s : State} {P : State → Prop} (h : Act.Post m s (fun _ t => P t)) :
    ∃ t, answer m s = .next t ∧ P t := by
  obtain ⟨_, t, r, q⟩ := h
  exact ⟨t, Runs.answer r, q⟩

/-- A field of a window that is the same reads as before. -/
theorem Part.same_get {p : Part} {s t : State} (h : p.same s t) (hr : p.idx < 20) {f : Fld} (hf : f.window = p) :
    t.get f = s.get f := by
  cases p <;> first
    | exact h f hf
    | exact absurd hr (by decide)

/-- A field outside the windows touched reads as before. -/
theorem Same.get {L : Nat} {s t : State} (h : Same L s t) {f : Fld} {p : Part} (hf : f.window = p)
    (hr : p.idx < 20) (hp : L.testBit p.idx = false) : t.get f = s.get f := Part.same_get (h p hp) hr hf

end Sys2Proof.Machine
end

