-- ==== Sys2Proof/Laws/Windows.lean ====
section
/-! SUPPORT. The window of every register field. -/

namespace Sys2Proof.Machine

theorem window_dev {f : Fld} (h' : f.addr < 0x10000) : f.window = .devRegs := by
  unfold Fld.window
  repeat first | exact if_pos h' | rw [if_neg (by omega)]

theorem window_evt {f : Fld} (h : 0x10000 ≤ f.addr) (h' : f.addr < 0x20000) : f.window = .evtRegs := by
  unfold Fld.window
  repeat first | exact if_pos h' | rw [if_neg (by omega)]

theorem window_seq {f : Fld} (h : 0x20000 ≤ f.addr) (h' : f.addr < 0x30000) : f.window = .seqRegs := by
  unfold Fld.window
  repeat first | exact if_pos h' | rw [if_neg (by omega)]

theorem window_cch {f : Fld} (h : 0x30000 ≤ f.addr) (h' : f.addr < 0x40000) : f.window = .cchRegs := by
  unfold Fld.window
  repeat first | exact if_pos h' | rw [if_neg (by omega)]

theorem window_drm {f : Fld} (h : 0x40000 ≤ f.addr) (h' : f.addr < 0x50000) : f.window = .drmRegs := by
  unfold Fld.window
  repeat first | exact if_pos h' | rw [if_neg (by omega)]

theorem window_flz {f : Fld} (h : 0x50000 ≤ f.addr) (h' : f.addr < 0x60000) : f.window = .flzRegs := by
  unfold Fld.window
  repeat first | exact if_pos h' | rw [if_neg (by omega)]

theorem window_hst {f : Fld} (h : 0x60000 ≤ f.addr) (h' : f.addr < 0x70000) : f.window = .hstRegs := by
  unfold Fld.window
  repeat first | exact if_pos h' | rw [if_neg (by omega)]

theorem window_sec {f : Fld} (h : 0x70000 ≤ f.addr) (h' : f.addr < 0x80000) : f.window = .secRegs := by
  unfold Fld.window
  repeat first | exact if_pos h' | rw [if_neg (by omega)]

theorem window_lif {f : Fld} (h : 0x80000 ≤ f.addr) (h' : f.addr < 0x90000) : f.window = .lifRegs := by
  unfold Fld.window
  repeat first | exact if_pos h' | rw [if_neg (by omega)]

theorem window_srv {f : Fld} (h : 0x90000 ≤ f.addr) (h' : f.addr < 0x180000) : f.window = .srvRegs := by
  unfold Fld.window
  repeat first | exact if_pos h' | rw [if_neg (by omega)]

theorem window_mot {f : Fld} (h : 0x180000 ≤ f.addr) (h' : f.addr < 0x190000) : f.window = .motRegs := by
  unfold Fld.window
  repeat first | exact if_pos h' | rw [if_neg (by omega)]

theorem window_stp {f : Fld} (h : 0x190000 ≤ f.addr) (h' : f.addr < 0x200000) : f.window = .stpRegs := by
  unfold Fld.window
  repeat first | exact if_pos h' | rw [if_neg (by omega)]

theorem window_rch {f : Fld} (h : 0x200000 ≤ f.addr) (h' : f.addr < 0x280000) : f.window = .rchRegs := by
  unfold Fld.window
  repeat first | exact if_pos h' | rw [if_neg (by omega)]

theorem window_ldp {f : Fld} (h : 0x280000 ≤ f.addr) (h' : f.addr < 0x290000) : f.window = .ldpRegs := by
  unfold Fld.window
  repeat first | exact if_pos h' | rw [if_neg (by omega)]

theorem window_lan {f : Fld} (h : 0x290000 ≤ f.addr) (h' : f.addr < 0x300000) : f.window = .lanRegs := by
  unfold Fld.window
  repeat first | exact if_pos h' | rw [if_neg (by omega)]

theorem window_wrp {f : Fld} (h : 0x300000 ≤ f.addr) (h' : f.addr < 0x380000) : f.window = .wrpRegs := by
  unfold Fld.window
  repeat first | exact if_pos h' | rw [if_neg (by omega)]

theorem window_cal {f : Fld} (h : 0x380000 ≤ f.addr) (h' : f.addr < 0x400000) : f.window = .calRegs := by
  unfold Fld.window
  repeat first | exact if_pos h' | rw [if_neg (by omega)]

theorem window_bay {f : Fld} (h : 0x400000 ≤ f.addr) (h2 : f.addr < 0x800000) (h' : f.addr % 0x10000 < 0x2000) : f.window = .bayRegs := by
  unfold Fld.window
  repeat first | exact if_pos h' | rw [if_neg (by omega)]

theorem window_opt {f : Fld} (h : 0x400000 ≤ f.addr) (h2 : f.addr < 0x800000) (h' : 0x2000 ≤ f.addr % 0x10000) : f.window = .optRegs := by
  unfold Fld.window
  repeat first | rfl | rw [if_neg (by omega)]

theorem window_trc {f : Fld} (h : 0x800000 ≤ f.addr) : f.window = .trcRegs := by
  unfold Fld.window
  repeat first | exact if_pos h | rw [if_neg (by omega)]

@[simp] theorem F.DEV_ID_ID_window : F.DEV_ID_ID.window = .devRegs := rfl
@[simp] theorem F.DEV_MODE_STAT_MODE_window : F.DEV_MODE_STAT_MODE.window = .devRegs := rfl
@[simp] theorem F.DEV_MODE_STAT_PREV_MODE_window : F.DEV_MODE_STAT_PREV_MODE.window = .devRegs := rfl
@[simp] theorem F.DEV_MODE_STAT_TRANSITION_window : F.DEV_MODE_STAT_TRANSITION.window = .devRegs := rfl
@[simp] theorem F.DEV_MODE_STAT_OK_TO_REMOVE_window : F.DEV_MODE_STAT_OK_TO_REMOVE.window = .devRegs := rfl
@[simp] theorem F.DEV_MODE_STAT_PWR_FAIL_window : F.DEV_MODE_STAT_PWR_FAIL.window = .devRegs := rfl
@[simp] theorem F.DEV_MODE_STAT_CAUSE_window : F.DEV_MODE_STAT_CAUSE.window = .devRegs := rfl
@[simp] theorem F.DEV_MODE_REQ_TARGET_window : F.DEV_MODE_REQ_TARGET.window = .devRegs := rfl
@[simp] theorem F.DEV_TRACE_PAR_CNT_CNT_window : F.DEV_TRACE_PAR_CNT_CNT.window = .devRegs := rfl
@[simp] theorem F.EVT_STAT_COUNT_window : F.EVT_STAT_COUNT.window = .evtRegs := rfl
@[simp] theorem F.EVT_SERIAL_SERIAL_window : F.EVT_SERIAL_SERIAL.window = .evtRegs := rfl
@[simp] theorem F.EVT_LOST_CNT_CNT_window : F.EVT_LOST_CNT_CNT.window = .evtRegs := rfl
@[simp] theorem F.EVT_LAST_FAULT_ADDR_window : F.EVT_LAST_FAULT_ADDR.window = .evtRegs := rfl
@[simp] theorem F.EVT_FN_CTL_VEC0_MIN_window (f : Nat) : (F.EVT_FN_CTL_VEC0_MIN f).window = .evtRegs := window_evt (by simp only [F.EVT_FN_CTL_VEC0_MIN, F.evtBase]; omega) (by simp only [F.EVT_FN_CTL_VEC0_MIN, F.evtBase]; omega)
@[simp] theorem F.EVT_FN_CTL_EACH_window (f : Nat) : (F.EVT_FN_CTL_EACH f).window = .evtRegs := window_evt (by simp only [F.EVT_FN_CTL_EACH, F.evtBase]; omega) (by simp only [F.EVT_FN_CTL_EACH, F.evtBase]; omega)
@[simp] theorem F.EVT_FN_STAT_LEVEL_window (f : Nat) : (F.EVT_FN_STAT_LEVEL f).window = .evtRegs := window_evt (by simp only [F.EVT_FN_STAT_LEVEL, F.evtBase]; omega) (by simp only [F.EVT_FN_STAT_LEVEL, F.evtBase]; omega)
@[simp] theorem F.EVT_FN_STAT_SIGNALLED_window (f : Nat) : (F.EVT_FN_STAT_SIGNALLED f).window = .evtRegs := window_evt (by simp only [F.EVT_FN_STAT_SIGNALLED, F.evtBase]; omega) (by simp only [F.EVT_FN_STAT_SIGNALLED, F.evtBase]; omega)
@[simp] theorem F.EVT_FN_STAT_DEFERRED_window (f : Nat) : (F.EVT_FN_STAT_DEFERRED f).window = .evtRegs := window_evt (by simp only [F.EVT_FN_STAT_DEFERRED, F.evtBase]; omega) (by simp only [F.EVT_FN_STAT_DEFERRED, F.evtBase]; omega)
@[simp] theorem F.EVT_FN_STAT_UNREAD_window (f : Nat) : (F.EVT_FN_STAT_UNREAD f).window = .evtRegs := window_evt (by simp only [F.EVT_FN_STAT_UNREAD, F.evtBase]; omega) (by simp only [F.EVT_FN_STAT_UNREAD, F.evtBase]; omega)
@[simp] theorem F.EVT_FN_CURSOR_CURSOR_window (f : Nat) : (F.EVT_FN_CURSOR_CURSOR f).window = .evtRegs := window_evt (by simp only [F.EVT_FN_CURSOR_CURSOR, F.evtBase]; omega) (by simp only [F.EVT_FN_CURSOR_CURSOR, F.evtBase]; omega)
@[simp] theorem F.EVT_MASK_MASK_window (j : Nat) : (F.EVT_MASK_MASK j).window = .evtRegs := window_evt (by simp only [F.EVT_MASK_MASK, F.evtBase]; omega) (by simp only [F.EVT_MASK_MASK, F.evtBase]; omega)
@[simp] theorem F.EVT_COUNT_CNT_window (n : Nat) : (F.EVT_COUNT_CNT n).window = .evtRegs := window_evt (by simp only [F.EVT_COUNT_CNT, F.evtBase]; omega) (by simp only [F.EVT_COUNT_CNT, F.evtBase]; omega)
@[simp] theorem F.SEQ_STAT_RUN_window : F.SEQ_STAT_RUN.window = .seqRegs := rfl
@[simp] theorem F.SEQ_STAT_ROM_ONLY_window : F.SEQ_STAT_ROM_ONLY.window = .seqRegs := rfl
@[simp] theorem F.SEQ_STAT_FAILED_NUM_window : F.SEQ_STAT_FAILED_NUM.window = .seqRegs := rfl
@[simp] theorem F.SEQ_FAILED_MASK_window : F.SEQ_FAILED_MASK.window = .seqRegs := rfl
@[simp] theorem F.SEQ_BUSY_THREADS_window : F.SEQ_BUSY_THREADS.window = .seqRegs := rfl
@[simp] theorem F.SEQ_BUSY_PARKED_window : F.SEQ_BUSY_PARKED.window = .seqRegs := rfl
@[simp] theorem F.SEQ_PATCH_STAT_SOURCE_window : F.SEQ_PATCH_STAT_SOURCE.window = .seqRegs := rfl
@[simp] theorem F.SEQ_PATCH_STAT_RESULT_window : F.SEQ_PATCH_STAT_RESULT.window = .seqRegs := rfl
@[simp] theorem F.SEQ_PATCH_STAT_WORDS_window : F.SEQ_PATCH_STAT_WORDS.window = .seqRegs := rfl
@[simp] theorem F.SEQ_PATCH_STAT_OVL_USED_window : F.SEQ_PATCH_STAT_OVL_USED.window = .seqRegs := rfl
@[simp] theorem F.SEQ_PATCH_VER_VER_window : F.SEQ_PATCH_VER_VER.window = .seqRegs := rfl
@[simp] theorem F.SEQ_CS_ECC_CNT_CNT_window : F.SEQ_CS_ECC_CNT_CNT.window = .seqRegs := rfl
@[simp] theorem F.SEQ_RESTART_CNT_CNT_window : F.SEQ_RESTART_CNT_CNT.window = .seqRegs := rfl
@[simp] theorem F.SEQ_CONFLICT_CNT_CNT_window : F.SEQ_CONFLICT_CNT_CNT.window = .seqRegs := rfl
@[simp] theorem F.SEQ_ABANDON_CNT_CNT_window : F.SEQ_ABANDON_CNT_CNT.window = .seqRegs := rfl
@[simp] theorem F.SEQ_COMMIT_CNT_CNT_window : F.SEQ_COMMIT_CNT_CNT.window = .seqRegs := rfl
@[simp] theorem F.SEQ_EV_QUEUED_NUM_window : F.SEQ_EV_QUEUED_NUM.window = .seqRegs := rfl
@[simp] theorem F.SEQ_DISPATCH_OP_ENTRY_window (n : Nat) : (F.SEQ_DISPATCH_OP_ENTRY n).window = .seqRegs := window_seq (by simp only [F.SEQ_DISPATCH_OP_ENTRY, F.seqBase]; omega) (by simp only [F.SEQ_DISPATCH_OP_ENTRY, F.seqBase]; omega)
@[simp] theorem F.SEQ_DISPATCH_OP_VALID_window (n : Nat) : (F.SEQ_DISPATCH_OP_VALID n).window = .seqRegs := window_seq (by simp only [F.SEQ_DISPATCH_OP_VALID, F.seqBase]; omega) (by simp only [F.SEQ_DISPATCH_OP_VALID, F.seqBase]; omega)
@[simp] theorem F.SEQ_DISPATCH_OP_ADMIN_ONLY_window (n : Nat) : (F.SEQ_DISPATCH_OP_ADMIN_ONLY n).window = .seqRegs := window_seq (by simp only [F.SEQ_DISPATCH_OP_ADMIN_ONLY, F.seqBase]; omega) (by simp only [F.SEQ_DISPATCH_OP_ADMIN_ONLY, F.seqBase]; omega)
@[simp] theorem F.SEQ_DISPATCH_OP_MODES_window (n : Nat) : (F.SEQ_DISPATCH_OP_MODES n).window = .seqRegs := window_seq (by simp only [F.SEQ_DISPATCH_OP_MODES, F.seqBase]; omega) (by simp only [F.SEQ_DISPATCH_OP_MODES, F.seqBase]; omega)
@[simp] theorem F.SEQ_DISPATCH_OP_BOUND_window (n : Nat) : (F.SEQ_DISPATCH_OP_BOUND n).window = .seqRegs := window_seq (by simp only [F.SEQ_DISPATCH_OP_BOUND, F.seqBase]; omega) (by simp only [F.SEQ_DISPATCH_OP_BOUND, F.seqBase]; omega)
@[simp] theorem F.SEQ_DISPATCH_EV_ENTRY_window (n : Nat) : (F.SEQ_DISPATCH_EV_ENTRY n).window = .seqRegs := window_seq (by simp only [F.SEQ_DISPATCH_EV_ENTRY, F.seqBase]; omega) (by simp only [F.SEQ_DISPATCH_EV_ENTRY, F.seqBase]; omega)
@[simp] theorem F.SEQ_DISPATCH_EV_ENABLED_window (n : Nat) : (F.SEQ_DISPATCH_EV_ENABLED n).window = .seqRegs := window_seq (by simp only [F.SEQ_DISPATCH_EV_ENABLED, F.seqBase]; omega) (by simp only [F.SEQ_DISPATCH_EV_ENABLED, F.seqBase]; omega)
@[simp] theorem F.SEQ_DISPATCH_EV_CLASS_window (n : Nat) : (F.SEQ_DISPATCH_EV_CLASS n).window = .seqRegs := window_seq (by simp only [F.SEQ_DISPATCH_EV_CLASS, F.seqBase]; omega) (by simp only [F.SEQ_DISPATCH_EV_CLASS, F.seqBase]; omega)
@[simp] theorem F.SEQ_OVL_MATCH_window (n : Nat) : (F.SEQ_OVL_MATCH n).window = .seqRegs := window_seq (by simp only [F.SEQ_OVL_MATCH, F.seqBase]; omega) (by simp only [F.SEQ_OVL_MATCH, F.seqBase]; omega)
@[simp] theorem F.SEQ_OVL_TARGET_window (n : Nat) : (F.SEQ_OVL_TARGET n).window = .seqRegs := window_seq (by simp only [F.SEQ_OVL_TARGET, F.seqBase]; omega) (by simp only [F.SEQ_OVL_TARGET, F.seqBase]; omega)
@[simp] theorem F.CCH_CTL_ENABLE_window : F.CCH_CTL_ENABLE.window = .cchRegs := rfl
@[simp] theorem F.CCH_STAT_INIT_DONE_window : F.CCH_STAT_INIT_DONE.window = .cchRegs := rfl
@[simp] theorem F.CCH_STAT_DRAINING_window : F.CCH_STAT_DRAINING.window = .cchRegs := rfl
@[simp] theorem F.CCH_STAT_OP_BUSY_window : F.CCH_STAT_OP_BUSY.window = .cchRegs := rfl
@[simp] theorem F.CCH_STAT_CFG_REJECT_window : F.CCH_STAT_CFG_REJECT.window = .cchRegs := rfl
@[simp] theorem F.CCH_STAT_OP_REJECT_window : F.CCH_STAT_OP_REJECT.window = .cchRegs := rfl
@[simp] theorem F.CCH_STAT_BYPASS_window : F.CCH_STAT_BYPASS.window = .cchRegs := rfl
@[simp] theorem F.CCH_REGION_BASE_BASE_window : F.CCH_REGION_BASE_BASE.window = .cchRegs := rfl
@[simp] theorem F.CCH_REGION_SIZE_SIZE_window : F.CCH_REGION_SIZE_SIZE.window = .cchRegs := rfl
@[simp] theorem F.CCH_OP_CTL_KIND_window : F.CCH_OP_CTL_KIND.window = .cchRegs := rfl
@[simp] theorem F.CCH_OP_BASE_LO_LO_window : F.CCH_OP_BASE_LO_LO.window = .cchRegs := rfl
@[simp] theorem F.CCH_OP_BASE_HI_HI_window : F.CCH_OP_BASE_HI_HI.window = .cchRegs := rfl
@[simp] theorem F.CCH_OP_LINES_LINES_window : F.CCH_OP_LINES_LINES.window = .cchRegs := rfl
@[simp] theorem F.CCH_HIT_CNT_CNT_window : F.CCH_HIT_CNT_CNT.window = .cchRegs := rfl
@[simp] theorem F.CCH_MISS_CNT_CNT_window : F.CCH_MISS_CNT_CNT.window = .cchRegs := rfl
@[simp] theorem F.CCH_WB_CNT_CNT_window : F.CCH_WB_CNT_CNT.window = .cchRegs := rfl
@[simp] theorem F.CCH_REINSTATE_CNT_CNT_window : F.CCH_REINSTATE_CNT_CNT.window = .cchRegs := rfl
@[simp] theorem F.CCH_VICT_WAIT_CNT_CNT_window : F.CCH_VICT_WAIT_CNT_CNT.window = .cchRegs := rfl
@[simp] theorem F.CCH_ECC_CNT_CNT_window : F.CCH_ECC_CNT_CNT.window = .cchRegs := rfl
@[simp] theorem F.CCH_DIRTY_LINES_NUM_window : F.CCH_DIRTY_LINES_NUM.window = .cchRegs := rfl
@[simp] theorem F.DRM_CTL_ENABLE_window : F.DRM_CTL_ENABLE.window = .drmRegs := rfl
@[simp] theorem F.DRM_CTL_IDLE_CLOSE_window : F.DRM_CTL_IDLE_CLOSE.window = .drmRegs := rfl
@[simp] theorem F.DRM_STAT_CONFIG_window : F.DRM_STAT_CONFIG.window = .drmRegs := rfl
@[simp] theorem F.DRM_STAT_CH_UP_window : F.DRM_STAT_CH_UP.window = .drmRegs := rfl
@[simp] theorem F.DRM_STAT_TRAIN_window : F.DRM_STAT_TRAIN.window = .drmRegs := rfl
@[simp] theorem F.DRM_STAT_CFG_REJECT_window : F.DRM_STAT_CFG_REJECT.window = .drmRegs := rfl
@[simp] theorem F.DRM_STAT_ERASURE_window : F.DRM_STAT_ERASURE.window = .drmRegs := rfl
@[simp] theorem F.DRM_PNR_RATE_window : F.DRM_PNR_RATE.window = .drmRegs := rfl
@[simp] theorem F.DRM_REF_STAT_DOUBLE_window : F.DRM_REF_STAT_DOUBLE.window = .drmRegs := rfl
@[simp] theorem F.DRM_REF_STAT_POSTPONED_window : F.DRM_REF_STAT_POSTPONED.window = .drmRegs := rfl
@[simp] theorem F.DRM_REF_STAT_TEMP_window : F.DRM_REF_STAT_TEMP.window = .drmRegs := rfl
@[simp] theorem F.DRM_ECC_CNT_CNT_window : F.DRM_ECC_CNT_CNT.window = .drmRegs := rfl
@[simp] theorem F.DRM_UE_CNT_CNT_window : F.DRM_UE_CNT_CNT.window = .drmRegs := rfl
@[simp] theorem F.DRM_PATROL_CNT_CNT_window : F.DRM_PATROL_CNT_CNT.window = .drmRegs := rfl
@[simp] theorem F.DRM_LAST_ERR_LINE_window : F.DRM_LAST_ERR_LINE.window = .drmRegs := rfl
@[simp] theorem F.DRM_DEV_FAILED_MASK_window (n : Nat) : (F.DRM_DEV_FAILED_MASK n).window = .drmRegs := window_drm (by simp only [F.DRM_DEV_FAILED_MASK, F.drmBase]; omega) (by simp only [F.DRM_DEV_FAILED_MASK, F.drmBase]; omega)
@[simp] theorem F.DRM_DELAY_RD_window (n : Nat) : (F.DRM_DELAY_RD n).window = .drmRegs := window_drm (by simp only [F.DRM_DELAY_RD, F.drmBase]; omega) (by simp only [F.DRM_DELAY_RD, F.drmBase]; omega)
@[simp] theorem F.DRM_DELAY_WR_window (n : Nat) : (F.DRM_DELAY_WR n).window = .drmRegs := window_drm (by simp only [F.DRM_DELAY_WR, F.drmBase]; omega) (by simp only [F.DRM_DELAY_WR, F.drmBase]; omega)
@[simp] theorem F.DRM_DELAY_VREF_window (n : Nat) : (F.DRM_DELAY_VREF n).window = .drmRegs := window_drm (by simp only [F.DRM_DELAY_VREF, F.drmBase]; omega) (by simp only [F.DRM_DELAY_VREF, F.drmBase]; omega)
@[simp] theorem F.FLZ_CTL_ENABLE_window : F.FLZ_CTL_ENABLE.window = .flzRegs := rfl
@[simp] theorem F.FLZ_CTL_LOG_MAX_window : F.FLZ_CTL_LOG_MAX.window = .flzRegs := rfl
@[simp] theorem F.FLZ_CTL_SPARE_PCT_window : F.FLZ_CTL_SPARE_PCT.window = .flzRegs := rfl
@[simp] theorem F.FLZ_CTL_IDLE_GC_window : F.FLZ_CTL_IDLE_GC.window = .flzRegs := rfl
@[simp] theorem F.FLZ_CTL_OPEN_MAX_window : F.FLZ_CTL_OPEN_MAX.window = .flzRegs := rfl
@[simp] theorem F.FLZ_STAT_STATE_window : F.FLZ_STAT_STATE.window = .flzRegs := rfl
@[simp] theorem F.FLZ_STAT_REBUILDING_window : F.FLZ_STAT_REBUILDING.window = .flzRegs := rfl
@[simp] theorem F.FLZ_STAT_CFG_REJECT_window : F.FLZ_STAT_CFG_REJECT.window = .flzRegs := rfl
@[simp] theorem F.FLZ_STAT_DRAM_GATED_window : F.FLZ_STAT_DRAM_GATED.window = .flzRegs := rfl
@[simp] theorem F.FLZ_STAT_IDLE_GC_RUN_window : F.FLZ_STAT_IDLE_GC_RUN.window = .flzRegs := rfl
@[simp] theorem F.FLZ_GEOM_LUNS_window : F.FLZ_GEOM_LUNS.window = .flzRegs := rfl
@[simp] theorem F.FLZ_GEOM_PPB_window : F.FLZ_GEOM_PPB.window = .flzRegs := rfl
@[simp] theorem F.FLZ_GC_THR_HIGH_window : F.FLZ_GC_THR_HIGH.window = .flzRegs := rfl
@[simp] theorem F.FLZ_GC_THR_LOW_window : F.FLZ_GC_THR_LOW.window = .flzRegs := rfl
@[simp] theorem F.FLZ_GC_CTL_CRIT_window : F.FLZ_GC_CTL_CRIT.window = .flzRegs := rfl
@[simp] theorem F.FLZ_GC_CTL_IDLE_MS_window : F.FLZ_GC_CTL_IDLE_MS.window = .flzRegs := rfl
@[simp] theorem F.FLZ_WL_CTL_WL_DELTA_window : F.FLZ_WL_CTL_WL_DELTA.window = .flzRegs := rfl
@[simp] theorem F.FLZ_FREEZE_DRAM_MAX_window : F.FLZ_FREEZE_DRAM_MAX.window = .flzRegs := rfl
@[simp] theorem F.FLZ_FREE_NUM_window : F.FLZ_FREE_NUM.window = .flzRegs := rfl
@[simp] theorem F.FLZ_BLOCKS_NUM_window : F.FLZ_BLOCKS_NUM.window = .flzRegs := rfl
@[simp] theorem F.FLZ_SPARE_NUM_window : F.FLZ_SPARE_NUM.window = .flzRegs := rfl
@[simp] theorem F.FLZ_LOG_USED_NUM_window : F.FLZ_LOG_USED_NUM.window = .flzRegs := rfl
@[simp] theorem F.FLZ_ADMIT_RATE_window : F.FLZ_ADMIT_RATE.window = .flzRegs := rfl
@[simp] theorem F.FLZ_ADMIT_GATED_window : F.FLZ_ADMIT_GATED.window = .flzRegs := rfl
@[simp] theorem F.FLZ_START_STAT_SOURCE_window : F.FLZ_START_STAT_SOURCE.window = .flzRegs := rfl
@[simp] theorem F.FLZ_START_STAT_TIME_MS_window : F.FLZ_START_STAT_TIME_MS.window = .flzRegs := rfl
@[simp] theorem F.FLZ_REBUILD_LUN_window : F.FLZ_REBUILD_LUN.window = .flzRegs := rfl
@[simp] theorem F.FLZ_REBUILD_ACTIVE_window : F.FLZ_REBUILD_ACTIVE.window = .flzRegs := rfl
@[simp] theorem F.FLZ_REBUILD_PROGRESS_window : F.FLZ_REBUILD_PROGRESS.window = .flzRegs := rfl
@[simp] theorem F.FLZ_CH_STAT_FAILED_window : F.FLZ_CH_STAT_FAILED.window = .flzRegs := rfl
@[simp] theorem F.FLZ_PROG_CNT_CNT_window : F.FLZ_PROG_CNT_CNT.window = .flzRegs := rfl
@[simp] theorem F.FLZ_ERASE_CNT_CNT_window : F.FLZ_ERASE_CNT_CNT.window = .flzRegs := rfl
@[simp] theorem F.FLZ_BAD_CNT_CNT_window : F.FLZ_BAD_CNT_CNT.window = .flzRegs := rfl
@[simp] theorem F.FLZ_RECON_CNT_CNT_window : F.FLZ_RECON_CNT_CNT.window = .flzRegs := rfl
@[simp] theorem F.FLZ_MERGE_CNT_window (k : Nat) : (F.FLZ_MERGE_CNT k).window = .flzRegs := window_flz (by simp only [F.FLZ_MERGE_CNT, F.flzBase]; omega) (by simp only [F.FLZ_MERGE_CNT, F.flzBase]; omega)
@[simp] theorem F.FLZ_LUN_FAILED_MASK_window (j : Nat) : (F.FLZ_LUN_FAILED_MASK j).window = .flzRegs := window_flz (by simp only [F.FLZ_LUN_FAILED_MASK, F.flzBase]; omega) (by simp only [F.FLZ_LUN_FAILED_MASK, F.flzBase]; omega)
@[simp] theorem F.FLZ_ECC_CTL_T_window : F.FLZ_ECC_CTL_T.window = .flzRegs := rfl
@[simp] theorem F.FLZ_ECC_CTL_REFRESH_window : F.FLZ_ECC_CTL_REFRESH.window = .flzRegs := rfl
@[simp] theorem F.FLZ_ECC_STAT_T_PREV_window : F.FLZ_ECC_STAT_T_PREV.window = .flzRegs := rfl
@[simp] theorem F.FLZ_ECC_STAT_SYS_T_window : F.FLZ_ECC_STAT_SYS_T.window = .flzRegs := rfl
@[simp] theorem F.FLZ_ECC_CORR_CNT_CNT_window : F.FLZ_ECC_CORR_CNT_CNT.window = .flzRegs := rfl
@[simp] theorem F.FLZ_ECC_REFRESH_CNT_CNT_window : F.FLZ_ECC_REFRESH_CNT_CNT.window = .flzRegs := rfl
@[simp] theorem F.FLZ_ECC_UE_CNT_CNT_window : F.FLZ_ECC_UE_CNT_CNT.window = .flzRegs := rfl
@[simp] theorem F.FLZ_ECC_MAX_MAX_window : F.FLZ_ECC_MAX_MAX.window = .flzRegs := rfl
@[simp] theorem F.FLZ_ECC_OLD_NUM_window : F.FLZ_ECC_OLD_NUM.window = .flzRegs := rfl
@[simp] theorem F.FLZ_CMP_IN_CNT_CNT_window : F.FLZ_CMP_IN_CNT_CNT.window = .flzRegs := rfl
@[simp] theorem F.FLZ_CMP_OUT_CNT_CNT_window : F.FLZ_CMP_OUT_CNT_CNT.window = .flzRegs := rfl
@[simp] theorem F.FLZ_CMP_RAW_CNT_CNT_window : F.FLZ_CMP_RAW_CNT_CNT.window = .flzRegs := rfl
@[simp] theorem F.FLZ_CMP_ERR_CNT_CNT_window : F.FLZ_CMP_ERR_CNT_CNT.window = .flzRegs := rfl
@[simp] theorem F.HST_FN_ID_DEVICE_ID_window (f : Nat) : (F.HST_FN_ID_DEVICE_ID f).window = .hstRegs := window_hst (by simp only [F.HST_FN_ID_DEVICE_ID, F.hstBase]; omega) (by simp only [F.HST_FN_ID_DEVICE_ID, F.hstBase]; omega)
@[simp] theorem F.HST_FN_ID_PORT_window (f : Nat) : (F.HST_FN_ID_PORT f).window = .hstRegs := window_hst (by simp only [F.HST_FN_ID_PORT, F.hstBase]; omega) (by simp only [F.HST_FN_ID_PORT, F.hstBase]; omega)
@[simp] theorem F.HST_FN_ID_ADMIN_window (f : Nat) : (F.HST_FN_ID_ADMIN f).window = .hstRegs := window_hst (by simp only [F.HST_FN_ID_ADMIN, F.hstBase]; omega) (by simp only [F.HST_FN_ID_ADMIN, F.hstBase]; omega)
@[simp] theorem F.HST_FN_ID_STEPPING_window (f : Nat) : (F.HST_FN_ID_STEPPING f).window = .hstRegs := window_hst (by simp only [F.HST_FN_ID_STEPPING, F.hstBase]; omega) (by simp only [F.HST_FN_ID_STEPPING, F.hstBase]; omega)
@[simp] theorem F.HST_FN_CTL_ENABLE_window (f : Nat) : (F.HST_FN_CTL_ENABLE f).window = .hstRegs := window_hst (by simp only [F.HST_FN_CTL_ENABLE, F.hstBase]; omega) (by simp only [F.HST_FN_CTL_ENABLE, F.hstBase]; omega)
@[simp] theorem F.HST_FN_STAT_READY_window (f : Nat) : (F.HST_FN_STAT_READY f).window = .hstRegs := window_hst (by simp only [F.HST_FN_STAT_READY, F.hstBase]; omega) (by simp only [F.HST_FN_STAT_READY, F.hstBase]; omega)
@[simp] theorem F.HST_FN_STAT_CFG_REJECT_window (f : Nat) : (F.HST_FN_STAT_CFG_REJECT f).window = .hstRegs := window_hst (by simp only [F.HST_FN_STAT_CFG_REJECT, F.hstBase]; omega) (by simp only [F.HST_FN_STAT_CFG_REJECT, F.hstBase]; omega)
@[simp] theorem F.HST_FN_STAT_FATAL_window (f : Nat) : (F.HST_FN_STAT_FATAL f).window = .hstRegs := window_hst (by simp only [F.HST_FN_STAT_FATAL, F.hstBase]; omega) (by simp only [F.HST_FN_STAT_FATAL, F.hstBase]; omega)
@[simp] theorem F.HST_ATTN_STAT_LEVEL_window (f : Nat) : (F.HST_ATTN_STAT_LEVEL f).window = .hstRegs := window_hst (by simp only [F.HST_ATTN_STAT_LEVEL, F.hstBase]; omega) (by simp only [F.HST_ATTN_STAT_LEVEL, F.hstBase]; omega)
@[simp] theorem F.HST_SQ0_BASE_LO_BASE_window (f : Nat) : (F.HST_SQ0_BASE_LO_BASE f).window = .hstRegs := window_hst (by simp only [F.HST_SQ0_BASE_LO_BASE, F.hstBase]; omega) (by simp only [F.HST_SQ0_BASE_LO_BASE, F.hstBase]; omega)
@[simp] theorem F.HST_SQ0_BASE_HI_BASE_window (f : Nat) : (F.HST_SQ0_BASE_HI_BASE f).window = .hstRegs := window_hst (by simp only [F.HST_SQ0_BASE_HI_BASE, F.hstBase]; omega) (by simp only [F.HST_SQ0_BASE_HI_BASE, F.hstBase]; omega)
@[simp] theorem F.HST_CQ0_BASE_LO_BASE_window (f : Nat) : (F.HST_CQ0_BASE_LO_BASE f).window = .hstRegs := window_hst (by simp only [F.HST_CQ0_BASE_LO_BASE, F.hstBase]; omega) (by simp only [F.HST_CQ0_BASE_LO_BASE, F.hstBase]; omega)
@[simp] theorem F.HST_CQ0_BASE_HI_BASE_window (f : Nat) : (F.HST_CQ0_BASE_HI_BASE f).window = .hstRegs := window_hst (by simp only [F.HST_CQ0_BASE_HI_BASE, F.hstBase]; omega) (by simp only [F.HST_CQ0_BASE_HI_BASE, F.hstBase]; omega)
@[simp] theorem F.HST_RING0_SIZE_SQ_K_window (f : Nat) : (F.HST_RING0_SIZE_SQ_K f).window = .hstRegs := window_hst (by simp only [F.HST_RING0_SIZE_SQ_K, F.hstBase]; omega) (by simp only [F.HST_RING0_SIZE_SQ_K, F.hstBase]; omega)
@[simp] theorem F.HST_RING0_SIZE_CQ_K_window (f : Nat) : (F.HST_RING0_SIZE_CQ_K f).window = .hstRegs := window_hst (by simp only [F.HST_RING0_SIZE_CQ_K, F.hstBase]; omega) (by simp only [F.HST_RING0_SIZE_CQ_K, F.hstBase]; omega)
@[simp] theorem F.HST_LINK_STAT_SPEED_window (f : Nat) : (F.HST_LINK_STAT_SPEED f).window = .hstRegs := window_hst (by simp only [F.HST_LINK_STAT_SPEED, F.hstBase]; omega) (by simp only [F.HST_LINK_STAT_SPEED, F.hstBase]; omega)
@[simp] theorem F.HST_LINK_STAT_WIDTH_window (f : Nat) : (F.HST_LINK_STAT_WIDTH f).window = .hstRegs := window_hst (by simp only [F.HST_LINK_STAT_WIDTH, F.hstBase]; omega) (by simp only [F.HST_LINK_STAT_WIDTH, F.hstBase]; omega)
@[simp] theorem F.HST_LINK_STAT_PSTATE_window (f : Nat) : (F.HST_LINK_STAT_PSTATE f).window = .hstRegs := window_hst (by simp only [F.HST_LINK_STAT_PSTATE, F.hstBase]; omega) (by simp only [F.HST_LINK_STAT_PSTATE, F.hstBase]; omega)
@[simp] theorem F.SEC_BOOT_STAT_STEP_window : F.SEC_BOOT_STAT_STEP.window = .secRegs := rfl
@[simp] theorem F.SEC_BOOT_STAT_SLOT_window : F.SEC_BOOT_STAT_SLOT.window = .secRegs := rfl
@[simp] theorem F.SEC_BOOT_STAT_CAUSE_window : F.SEC_BOOT_STAT_CAUSE.window = .secRegs := rfl
@[simp] theorem F.SEC_BOOT_STAT_JOURNAL_OK_window : F.SEC_BOOT_STAT_JOURNAL_OK.window = .secRegs := rfl
@[simp] theorem F.SEC_BOOT_STAT_DEGRADED_window : F.SEC_BOOT_STAT_DEGRADED.window = .secRegs := rfl
@[simp] theorem F.SEC_BOOT_STAT_IDENTITY_OK_window : F.SEC_BOOT_STAT_IDENTITY_OK.window = .secRegs := rfl
@[simp] theorem F.SEC_BOOT_STAT_START_NUM_window : F.SEC_BOOT_STAT_START_NUM.window = .secRegs := rfl
@[simp] theorem F.SEC_SLOT_STAT_ACTIVE_window : F.SEC_SLOT_STAT_ACTIVE.window = .secRegs := rfl
@[simp] theorem F.SEC_SLOT_STAT_STAGED_window : F.SEC_SLOT_STAT_STAGED.window = .secRegs := rfl
@[simp] theorem F.SEC_SLOT_STAT_REJECTED_window : F.SEC_SLOT_STAT_REJECTED.window = .secRegs := rfl
@[simp] theorem F.SEC_PKG_VER_VER_window : F.SEC_PKG_VER_VER.window = .secRegs := rfl
@[simp] theorem F.SEC_OTP_STAT_COUNTER_window : F.SEC_OTP_STAT_COUNTER.window = .secRegs := rfl
@[simp] theorem F.SEC_OTP_STAT_REVOKED_window : F.SEC_OTP_STAT_REVOKED.window = .secRegs := rfl
@[simp] theorem F.SEC_OTP_STAT_DBG_KEYS_window : F.SEC_OTP_STAT_DBG_KEYS.window = .secRegs := rfl
@[simp] theorem F.SEC_OTP_STAT_DEBUG_DISABLED_window : F.SEC_OTP_STAT_DEBUG_DISABLED.window = .secRegs := rfl
@[simp] theorem F.SEC_DBG_STAT_UNLOCKED_window : F.SEC_DBG_STAT_UNLOCKED.window = .secRegs := rfl
@[simp] theorem F.SEC_DBG_STAT_FAILS_window : F.SEC_DBG_STAT_FAILS.window = .secRegs := rfl
@[simp] theorem F.SEC_DBG_STAT_LOCKOUT_window : F.SEC_DBG_STAT_LOCKOUT.window = .secRegs := rfl
@[simp] theorem F.SEC_DBG_STAT_KEY_window : F.SEC_DBG_STAT_KEY.window = .secRegs := rfl
@[simp] theorem F.LIF_STAT_CAL_VALID_window : F.LIF_STAT_CAL_VALID.window = .lifRegs := rfl
@[simp] theorem F.LIF_STAT_VBAT_LOST_window : F.LIF_STAT_VBAT_LOST.window = .lifRegs := rfl
@[simp] theorem F.LIF_STAT_VBAT_LOW_window : F.LIF_STAT_VBAT_LOW.window = .lifRegs := rfl
@[simp] theorem F.LIF_STAT_TAMPER_window : F.LIF_STAT_TAMPER.window = .lifRegs := rfl
@[simp] theorem F.LIF_STAT_SAVE_FAIL_window : F.LIF_STAT_SAVE_FAIL.window = .lifRegs := rfl
@[simp] theorem F.LIF_STAT_PF_RECORD_window : F.LIF_STAT_PF_RECORD.window = .lifRegs := rfl
@[simp] theorem F.LIF_POWER_ON_SEC_window : F.LIF_POWER_ON_SEC.window = .lifRegs := rfl
@[simp] theorem F.LIF_UTC_SEC_window : F.LIF_UTC_SEC.window = .lifRegs := rfl
@[simp] theorem F.LIF_TAMPER_TIME_SEC_window : F.LIF_TAMPER_TIME_SEC.window = .lifRegs := rfl
@[simp] theorem F.LIF_SAVE_TIME_SEC_window : F.LIF_SAVE_TIME_SEC.window = .lifRegs := rfl
@[simp] theorem F.LIF_UNCLEAN_CNT_CNT_window : F.LIF_UNCLEAN_CNT_CNT.window = .lifRegs := rfl
@[simp] theorem F.LIF_PIN_SHORT_BITS_window (j : Nat) : (F.LIF_PIN_SHORT_BITS j).window = .lifRegs := window_lif (by simp only [F.LIF_PIN_SHORT_BITS, F.lifBase]; omega) (by simp only [F.LIF_PIN_SHORT_BITS, F.lifBase]; omega)
@[simp] theorem F.SRV_SLOT_CTL_ENABLE_window (e : Nat) (j : Nat) : (F.SRV_SLOT_CTL_ENABLE e j).window = .srvRegs := window_srv (by simp only [F.SRV_SLOT_CTL_ENABLE, F.srvslotBase]; omega) (by simp only [F.SRV_SLOT_CTL_ENABLE, F.srvslotBase]; omega)
@[simp] theorem F.SRV_SLOT_CTL_RATE_window (e : Nat) (j : Nat) : (F.SRV_SLOT_CTL_RATE e j).window = .srvRegs := window_srv (by simp only [F.SRV_SLOT_CTL_RATE, F.srvslotBase]; omega) (by simp only [F.SRV_SLOT_CTL_RATE, F.srvslotBase]; omega)
@[simp] theorem F.SRV_SLOT_CTL_PHASE_window (e : Nat) (j : Nat) : (F.SRV_SLOT_CTL_PHASE e j).window = .srvRegs := window_srv (by simp only [F.SRV_SLOT_CTL_PHASE, F.srvslotBase]; omega) (by simp only [F.SRV_SLOT_CTL_PHASE, F.srvslotBase]; omega)
@[simp] theorem F.SRV_SLOT_CTL_N_SEC_window (e : Nat) (j : Nat) : (F.SRV_SLOT_CTL_N_SEC e j).window = .srvRegs := window_srv (by simp only [F.SRV_SLOT_CTL_N_SEC, F.srvslotBase]; omega) (by simp only [F.SRV_SLOT_CTL_N_SEC, F.srvslotBase]; omega)
@[simp] theorem F.SRV_SLOT_CTL_BUMP_window (e : Nat) (j : Nat) : (F.SRV_SLOT_CTL_BUMP e j).window = .srvRegs := window_srv (by simp only [F.SRV_SLOT_CTL_BUMP, F.srvslotBase]; omega) (by simp only [F.SRV_SLOT_CTL_BUMP, F.srvslotBase]; omega)
@[simp] theorem F.SRV_SLOT_CTL_SW_0_window (e : Nat) (j : Nat) : (F.SRV_SLOT_CTL_SW_0 e j).window = .srvRegs := window_srv (by simp only [F.SRV_SLOT_CTL_SW_0, F.srvslotBase]; omega) (by simp only [F.SRV_SLOT_CTL_SW_0, F.srvslotBase]; omega)
@[simp] theorem F.SRV_SLOT_CTL_SW_1_window (e : Nat) (j : Nat) : (F.SRV_SLOT_CTL_SW_1 e j).window = .srvRegs := window_srv (by simp only [F.SRV_SLOT_CTL_SW_1, F.srvslotBase]; omega) (by simp only [F.SRV_SLOT_CTL_SW_1, F.srvslotBase]; omega)
@[simp] theorem F.SRV_SLOT_CTL_FREEZE_window (e : Nat) (j : Nat) : (F.SRV_SLOT_CTL_FREEZE e j).window = .srvRegs := window_srv (by simp only [F.SRV_SLOT_CTL_FREEZE, F.srvslotBase]; omega) (by simp only [F.SRV_SLOT_CTL_FREEZE, F.srvslotBase]; omega)
@[simp] theorem F.SRV_SLOT_CTL_INTEG_window (e : Nat) (j : Nat) : (F.SRV_SLOT_CTL_INTEG e j).window = .srvRegs := window_srv (by simp only [F.SRV_SLOT_CTL_INTEG, F.srvslotBase]; omega) (by simp only [F.SRV_SLOT_CTL_INTEG, F.srvslotBase]; omega)
@[simp] theorem F.SRV_SLOT_SRC_IN_window (e : Nat) (j : Nat) : (F.SRV_SLOT_SRC_IN e j).window = .srvRegs := window_srv (by simp only [F.SRV_SLOT_SRC_IN, F.srvslotBase]; omega) (by simp only [F.SRV_SLOT_SRC_IN, F.srvslotBase]; omega)
@[simp] theorem F.SRV_SLOT_SRC_SP_window (e : Nat) (j : Nat) : (F.SRV_SLOT_SRC_SP e j).window = .srvRegs := window_srv (by simp only [F.SRV_SLOT_SRC_SP, F.srvslotBase]; omega) (by simp only [F.SRV_SLOT_SRC_SP, F.srvslotBase]; omega)
@[simp] theorem F.SRV_SLOT_SRC_FF_window (e : Nat) (j : Nat) : (F.SRV_SLOT_SRC_FF e j).window = .srvRegs := window_srv (by simp only [F.SRV_SLOT_SRC_FF, F.srvslotBase]; omega) (by simp only [F.SRV_SLOT_SRC_FF, F.srvslotBase]; omega)
@[simp] theorem F.SRV_SLOT_SRC_OWNER_window (e : Nat) (j : Nat) : (F.SRV_SLOT_SRC_OWNER e j).window = .srvRegs := window_srv (by simp only [F.SRV_SLOT_SRC_OWNER, F.srvslotBase]; omega) (by simp only [F.SRV_SLOT_SRC_OWNER, F.srvslotBase]; omega)
@[simp] theorem F.SRV_SLOT_DEST_KIND_window (e : Nat) (j : Nat) : (F.SRV_SLOT_DEST_KIND e j).window = .srvRegs := window_srv (by simp only [F.SRV_SLOT_DEST_KIND, F.srvslotBase]; omega) (by simp only [F.SRV_SLOT_DEST_KIND, F.srvslotBase]; omega)
@[simp] theorem F.SRV_SLOT_DEST_DAC_window (e : Nat) (j : Nat) : (F.SRV_SLOT_DEST_DAC e j).window = .srvRegs := window_srv (by simp only [F.SRV_SLOT_DEST_DAC, F.srvslotBase]; omega) (by simp only [F.SRV_SLOT_DEST_DAC, F.srvslotBase]; omega)
@[simp] theorem F.SRV_SLOT_SP_SP_window (e : Nat) (j : Nat) : (F.SRV_SLOT_SP_SP e j).window = .srvRegs := window_srv (by simp only [F.SRV_SLOT_SP_SP, F.srvslotBase]; omega) (by simp only [F.SRV_SLOT_SP_SP, F.srvslotBase]; omega)
@[simp] theorem F.SRV_LIM_HI_LIM_window (e : Nat) (j : Nat) : (F.SRV_LIM_HI_LIM e j).window = .srvRegs := window_srv (by simp only [F.SRV_LIM_HI_LIM, F.srvslotBase]; omega) (by simp only [F.SRV_LIM_HI_LIM, F.srvslotBase]; omega)
@[simp] theorem F.SRV_LIM_LO_LIM_window (e : Nat) (j : Nat) : (F.SRV_LIM_LO_LIM e j).window = .srvRegs := window_srv (by simp only [F.SRV_LIM_LO_LIM, F.srvslotBase]; omega) (by simp only [F.SRV_LIM_LO_LIM, F.srvslotBase]; omega)
@[simp] theorem F.SRV_REGION_SEL_SEL_window (e : Nat) (j : Nat) : (F.SRV_REGION_SEL_SEL e j).window = .srvRegs := window_srv (by simp only [F.SRV_REGION_SEL_SEL, F.srvslotBase]; omega) (by simp only [F.SRV_REGION_SEL_SEL, F.srvslotBase]; omega)
@[simp] theorem F.SRV_FE_WARN_LIM_window (e : Nat) (j : Nat) : (F.SRV_FE_WARN_LIM e j).window = .srvRegs := window_srv (by simp only [F.SRV_FE_WARN_LIM, F.srvslotBase]; omega) (by simp only [F.SRV_FE_WARN_LIM, F.srvslotBase]; omega)
@[simp] theorem F.SRV_FE_LIM_LIM_window (e : Nat) (j : Nat) : (F.SRV_FE_LIM_LIM e j).window = .srvRegs := window_srv (by simp only [F.SRV_FE_LIM_LIM, F.srvslotBase]; omega) (by simp only [F.SRV_FE_LIM_LIM, F.srvslotBase]; omega)
@[simp] theorem F.SRV_FE_CTL_TIME_window (e : Nat) (j : Nat) : (F.SRV_FE_CTL_TIME e j).window = .srvRegs := window_srv (by simp only [F.SRV_FE_CTL_TIME, F.srvslotBase]; omega) (by simp only [F.SRV_FE_CTL_TIME, F.srvslotBase]; omega)
@[simp] theorem F.SRV_FE_CTL_ACT_window (e : Nat) (j : Nat) : (F.SRV_FE_CTL_ACT e j).window = .srvRegs := window_srv (by simp only [F.SRV_FE_CTL_ACT, F.srvslotBase]; omega) (by simp only [F.SRV_FE_CTL_ACT, F.srvslotBase]; omega)
@[simp] theorem F.SRV_SLOT_STAT_CFG_REJECT_window (e : Nat) (j : Nat) : (F.SRV_SLOT_STAT_CFG_REJECT e j).window = .srvRegs := window_srv (by simp only [F.SRV_SLOT_STAT_CFG_REJECT, F.srvslotBase]; omega) (by simp only [F.SRV_SLOT_STAT_CFG_REJECT, F.srvslotBase]; omega)
@[simp] theorem F.SRV_SLOT_STAT_FE_WARN_window (e : Nat) (j : Nat) : (F.SRV_SLOT_STAT_FE_WARN e j).window = .srvRegs := window_srv (by simp only [F.SRV_SLOT_STAT_FE_WARN, F.srvslotBase]; omega) (by simp only [F.SRV_SLOT_STAT_FE_WARN, F.srvslotBase]; omega)
@[simp] theorem F.SRV_SLOT_STAT_FE_FAULT_window (e : Nat) (j : Nat) : (F.SRV_SLOT_STAT_FE_FAULT e j).window = .srvRegs := window_srv (by simp only [F.SRV_SLOT_STAT_FE_FAULT, F.srvslotBase]; omega) (by simp only [F.SRV_SLOT_STAT_FE_FAULT, F.srvslotBase]; omega)
@[simp] theorem F.SRV_SLOT_STAT_CLAMP_window (e : Nat) (j : Nat) : (F.SRV_SLOT_STAT_CLAMP e j).window = .srvRegs := window_srv (by simp only [F.SRV_SLOT_STAT_CLAMP, F.srvslotBase]; omega) (by simp only [F.SRV_SLOT_STAT_CLAMP, F.srvslotBase]; omega)
@[simp] theorem F.SRV_SLOT_STAT_REGION_window (e : Nat) (j : Nat) : (F.SRV_SLOT_STAT_REGION e j).window = .srvRegs := window_srv (by simp only [F.SRV_SLOT_STAT_REGION, F.srvslotBase]; omega) (by simp only [F.SRV_SLOT_STAT_REGION, F.srvslotBase]; omega)
@[simp] theorem F.SRV_SLOT_STAT_GSET_window (e : Nat) (j : Nat) : (F.SRV_SLOT_STAT_GSET e j).window = .srvRegs := window_srv (by simp only [F.SRV_SLOT_STAT_GSET, F.srvslotBase]; omega) (by simp only [F.SRV_SLOT_STAT_GSET, F.srvslotBase]; omega)
@[simp] theorem F.SRV_SLOT_OUT_U_window (e : Nat) (j : Nat) : (F.SRV_SLOT_OUT_U e j).window = .srvRegs := window_srv (by simp only [F.SRV_SLOT_OUT_U, F.srvslotBase]; omega) (by simp only [F.SRV_SLOT_OUT_U, F.srvslotBase]; omega)
@[simp] theorem F.SRV_SLOT_ERR_E_window (e : Nat) (j : Nat) : (F.SRV_SLOT_ERR_E e j).window = .srvRegs := window_srv (by simp only [F.SRV_SLOT_ERR_E, F.srvslotBase]; omega) (by simp only [F.SRV_SLOT_ERR_E, F.srvslotBase]; omega)
@[simp] theorem F.SRV_BUMP_OFS_D_window (e : Nat) (j : Nat) : (F.SRV_BUMP_OFS_D e j).window = .srvRegs := window_srv (by simp only [F.SRV_BUMP_OFS_D, F.srvslotBase]; omega) (by simp only [F.SRV_BUMP_OFS_D, F.srvslotBase]; omega)
@[simp] theorem F.SRV_SAT_CNT_CNT_window (e : Nat) (j : Nat) : (F.SRV_SAT_CNT_CNT e j).window = .srvRegs := window_srv (by simp only [F.SRV_SAT_CNT_CNT, F.srvslotBase]; omega) (by simp only [F.SRV_SAT_CNT_CNT, F.srvslotBase]; omega)
@[simp] theorem F.SRV_REGION_TBL_ENTRY_window (e : Nat) (j : Nat) (i : Nat) : (F.SRV_REGION_TBL_ENTRY e j i).window = .srvRegs := window_srv (by simp only [F.SRV_REGION_TBL_ENTRY, F.srvslotBase]; omega) (by simp only [F.SRV_REGION_TBL_ENTRY, F.srvslotBase]; omega)
@[simp] theorem F.SRV_BLK_STAT_ENGINE_FAULT_window (e : Nat) : (F.SRV_BLK_STAT_ENGINE_FAULT e).window = .srvRegs := window_srv (by simp only [F.SRV_BLK_STAT_ENGINE_FAULT, F.srvengBase]; omega) (by simp only [F.SRV_BLK_STAT_ENGINE_FAULT, F.srvengBase]; omega)
@[simp] theorem F.SRV_BLK_STAT_CAUSE_window (e : Nat) : (F.SRV_BLK_STAT_CAUSE e).window = .srvRegs := window_srv (by simp only [F.SRV_BLK_STAT_CAUSE, F.srvengBase]; omega) (by simp only [F.SRV_BLK_STAT_CAUSE, F.srvengBase]; omega)
@[simp] theorem F.SRV_FRAME_CNT_CNT_window (e : Nat) : (F.SRV_FRAME_CNT_CNT e).window = .srvRegs := window_srv (by simp only [F.SRV_FRAME_CNT_CNT, F.srvengBase]; omega) (by simp only [F.SRV_FRAME_CNT_CNT, F.srvengBase]; omega)
@[simp] theorem F.SRV_LOAD_LOAD_window (e : Nat) : (F.SRV_LOAD_LOAD e).window = .srvRegs := window_srv (by simp only [F.SRV_LOAD_LOAD, F.srvengBase]; omega) (by simp only [F.SRV_LOAD_LOAD, F.srvengBase]; omega)
@[simp] theorem F.SRV_ECC_CNT_CNT_window (e : Nat) : (F.SRV_ECC_CNT_CNT e).window = .srvRegs := window_srv (by simp only [F.SRV_ECC_CNT_CNT, F.srvengBase]; omega) (by simp only [F.SRV_ECC_CNT_CNT, F.srvengBase]; omega)
@[simp] theorem F.SRV_TRC_CTL_ARM_window (e : Nat) (k : Nat) : (F.SRV_TRC_CTL_ARM e k).window = .srvRegs := window_srv (by simp only [F.SRV_TRC_CTL_ARM, F.srvtrcBase]; omega) (by simp only [F.SRV_TRC_CTL_ARM, F.srvtrcBase]; omega)
@[simp] theorem F.SRV_TRC_CTL_SW_TRIG_window (e : Nat) (k : Nat) : (F.SRV_TRC_CTL_SW_TRIG e k).window = .srvRegs := window_srv (by simp only [F.SRV_TRC_CTL_SW_TRIG, F.srvtrcBase]; omega) (by simp only [F.SRV_TRC_CTL_SW_TRIG, F.srvtrcBase]; omega)
@[simp] theorem F.SRV_TRC_CTL_SLOT_window (e : Nat) (k : Nat) : (F.SRV_TRC_CTL_SLOT e k).window = .srvRegs := window_srv (by simp only [F.SRV_TRC_CTL_SLOT, F.srvtrcBase]; omega) (by simp only [F.SRV_TRC_CTL_SLOT, F.srvtrcBase]; omega)
@[simp] theorem F.SRV_TRC_CTL_TAP_window (e : Nat) (k : Nat) : (F.SRV_TRC_CTL_TAP e k).window = .srvRegs := window_srv (by simp only [F.SRV_TRC_CTL_TAP, F.srvtrcBase]; omega) (by simp only [F.SRV_TRC_CTL_TAP, F.srvtrcBase]; omega)
@[simp] theorem F.SRV_TRC_CTL_TRIG_window (e : Nat) (k : Nat) : (F.SRV_TRC_CTL_TRIG e k).window = .srvRegs := window_srv (by simp only [F.SRV_TRC_CTL_TRIG, F.srvtrcBase]; omega) (by simp only [F.SRV_TRC_CTL_TRIG, F.srvtrcBase]; omega)
@[simp] theorem F.SRV_TRC_CTL_TRIG_BUF_window (e : Nat) (k : Nat) : (F.SRV_TRC_CTL_TRIG_BUF e k).window = .srvRegs := window_srv (by simp only [F.SRV_TRC_CTL_TRIG_BUF, F.srvtrcBase]; omega) (by simp only [F.SRV_TRC_CTL_TRIG_BUF, F.srvtrcBase]; omega)
@[simp] theorem F.SRV_TRC_CTL_DEC_window (e : Nat) (k : Nat) : (F.SRV_TRC_CTL_DEC e k).window = .srvRegs := window_srv (by simp only [F.SRV_TRC_CTL_DEC, F.srvtrcBase]; omega) (by simp only [F.SRV_TRC_CTL_DEC, F.srvtrcBase]; omega)
@[simp] theorem F.SRV_TRC_LEVEL_LEVEL_window (e : Nat) (k : Nat) : (F.SRV_TRC_LEVEL_LEVEL e k).window = .srvRegs := window_srv (by simp only [F.SRV_TRC_LEVEL_LEVEL, F.srvtrcBase]; omega) (by simp only [F.SRV_TRC_LEVEL_LEVEL, F.srvtrcBase]; omega)
@[simp] theorem F.SRV_TRC_STAT_STATE_window (e : Nat) (k : Nat) : (F.SRV_TRC_STAT_STATE e k).window = .srvRegs := window_srv (by simp only [F.SRV_TRC_STAT_STATE, F.srvtrcBase]; omega) (by simp only [F.SRV_TRC_STAT_STATE, F.srvtrcBase]; omega)
@[simp] theorem F.SRV_TRC_STAT_TRIG_OFFSET_window (e : Nat) (k : Nat) : (F.SRV_TRC_STAT_TRIG_OFFSET e k).window = .srvRegs := window_srv (by simp only [F.SRV_TRC_STAT_TRIG_OFFSET, F.srvtrcBase]; omega) (by simp only [F.SRV_TRC_STAT_TRIG_OFFSET, F.srvtrcBase]; omega)
@[simp] theorem F.SRV_TRC_STAT_START_window (e : Nat) (k : Nat) : (F.SRV_TRC_STAT_START e k).window = .srvRegs := window_srv (by simp only [F.SRV_TRC_STAT_START, F.srvtrcBase]; omega) (by simp only [F.SRV_TRC_STAT_START, F.srvtrcBase]; omega)
@[simp] theorem F.SRV_TRC_PRE_PRE_window (e : Nat) (k : Nat) : (F.SRV_TRC_PRE_PRE e k).window = .srvRegs := window_srv (by simp only [F.SRV_TRC_PRE_PRE, F.srvtrcBase]; omega) (by simp only [F.SRV_TRC_PRE_PRE, F.srvtrcBase]; omega)
@[simp] theorem F.SRV_TRC_PRE_PRE_VALID_window (e : Nat) (k : Nat) : (F.SRV_TRC_PRE_PRE_VALID e k).window = .srvRegs := window_srv (by simp only [F.SRV_TRC_PRE_PRE_VALID, F.srvtrcBase]; omega) (by simp only [F.SRV_TRC_PRE_PRE_VALID, F.srvtrcBase]; omega)
@[simp] theorem F.SRV_TRC_TRIG_FRAME_FRAME_window (e : Nat) (k : Nat) : (F.SRV_TRC_TRIG_FRAME_FRAME e k).window = .srvRegs := window_srv (by simp only [F.SRV_TRC_TRIG_FRAME_FRAME, F.srvtrcBase]; omega) (by simp only [F.SRV_TRC_TRIG_FRAME_FRAME, F.srvtrcBase]; omega)
@[simp] theorem F.MOT_CTL_ENABLE_window (k : Nat) : (F.MOT_CTL_ENABLE k).window = .motRegs := window_mot (by simp only [F.MOT_CTL_ENABLE, F.motBase]; omega) (by simp only [F.MOT_CTL_ENABLE, F.motBase]; omega)
@[simp] theorem F.MOT_CTL_POLE_PAIRS_window (k : Nat) : (F.MOT_CTL_POLE_PAIRS k).window = .motRegs := window_mot (by simp only [F.MOT_CTL_POLE_PAIRS, F.motBase]; omega) (by simp only [F.MOT_CTL_POLE_PAIRS, F.motBase]; omega)
@[simp] theorem F.MOT_CTL_DEAD_window (k : Nat) : (F.MOT_CTL_DEAD k).window = .motRegs := window_mot (by simp only [F.MOT_CTL_DEAD, F.motBase]; omega) (by simp only [F.MOT_CTL_DEAD, F.motBase]; omega)
@[simp] theorem F.MOT_CTL_SETTLE_window (k : Nat) : (F.MOT_CTL_SETTLE k).window = .motRegs := window_mot (by simp only [F.MOT_CTL_SETTLE, F.motBase]; omega) (by simp only [F.MOT_CTL_SETTLE, F.motBase]; omega)
@[simp] theorem F.MOT_CTL_VMAX_window (k : Nat) : (F.MOT_CTL_VMAX k).window = .motRegs := window_mot (by simp only [F.MOT_CTL_VMAX, F.motBase]; omega) (by simp only [F.MOT_CTL_VMAX, F.motBase]; omega)
@[simp] theorem F.MOT_CMD_CMD_window (k : Nat) : (F.MOT_CMD_CMD k).window = .motRegs := window_mot (by simp only [F.MOT_CMD_CMD, F.motBase]; omega) (by simp only [F.MOT_CMD_CMD, F.motBase]; omega)
@[simp] theorem F.MOT_CMD_CLASS_window (k : Nat) : (F.MOT_CMD_CLASS k).window = .motRegs := window_mot (by simp only [F.MOT_CMD_CLASS, F.motBase]; omega) (by simp only [F.MOT_CMD_CLASS, F.motBase]; omega)
@[simp] theorem F.MOT_CMD_TARGET_window (k : Nat) : (F.MOT_CMD_TARGET k).window = .motRegs := window_mot (by simp only [F.MOT_CMD_TARGET, F.motBase]; omega) (by simp only [F.MOT_CMD_TARGET, F.motBase]; omega)
@[simp] theorem F.MOT_STAT_STATE_window (k : Nat) : (F.MOT_STAT_STATE k).window = .motRegs := window_mot (by simp only [F.MOT_STAT_STATE, F.motBase]; omega) (by simp only [F.MOT_STAT_STATE, F.motBase]; omega)
@[simp] theorem F.MOT_STAT_RESULT_window (k : Nat) : (F.MOT_STAT_RESULT k).window = .motRegs := window_mot (by simp only [F.MOT_STAT_RESULT, F.motBase]; omega) (by simp only [F.MOT_STAT_RESULT, F.motBase]; omega)
@[simp] theorem F.MOT_STAT_SHORT_window (k : Nat) : (F.MOT_STAT_SHORT k).window = .motRegs := window_mot (by simp only [F.MOT_STAT_SHORT, F.motBase]; omega) (by simp only [F.MOT_STAT_SHORT, F.motBase]; omega)
@[simp] theorem F.MOT_STAT_OPEN_window (k : Nat) : (F.MOT_STAT_OPEN k).window = .motRegs := window_mot (by simp only [F.MOT_STAT_OPEN, F.motBase]; omega) (by simp only [F.MOT_STAT_OPEN, F.motBase]; omega)
@[simp] theorem F.MOT_STAT_ENC_FAULT_window (k : Nat) : (F.MOT_STAT_ENC_FAULT k).window = .motRegs := window_mot (by simp only [F.MOT_STAT_ENC_FAULT, F.motBase]; omega) (by simp only [F.MOT_STAT_ENC_FAULT, F.motBase]; omega)
@[simp] theorem F.MOT_STAT_NO_INDEX_window (k : Nat) : (F.MOT_STAT_NO_INDEX k).window = .motRegs := window_mot (by simp only [F.MOT_STAT_NO_INDEX, F.motBase]; omega) (by simp only [F.MOT_STAT_NO_INDEX, F.motBase]; omega)
@[simp] theorem F.MOT_STAT_REVERSE_NOT_STOPPED_window (k : Nat) : (F.MOT_STAT_REVERSE_NOT_STOPPED k).window = .motRegs := window_mot (by simp only [F.MOT_STAT_REVERSE_NOT_STOPPED, F.motBase]; omega) (by simp only [F.MOT_STAT_REVERSE_NOT_STOPPED, F.motBase]; omega)
@[simp] theorem F.MOT_STAT_SYNC_LOST_window (k : Nat) : (F.MOT_STAT_SYNC_LOST k).window = .motRegs := window_mot (by simp only [F.MOT_STAT_SYNC_LOST, F.motBase]; omega) (by simp only [F.MOT_STAT_SYNC_LOST, F.motBase]; omega)
@[simp] theorem F.MOT_STAT_CFG_REJECT_window (k : Nat) : (F.MOT_STAT_CFG_REJECT k).window = .motRegs := window_mot (by simp only [F.MOT_STAT_CFG_REJECT, F.motBase]; omega) (by simp only [F.MOT_STAT_CFG_REJECT, F.motBase]; omega)
@[simp] theorem F.MOT_STAT_REVERSE_window (k : Nat) : (F.MOT_STAT_REVERSE k).window = .motRegs := window_mot (by simp only [F.MOT_STAT_REVERSE, F.motBase]; omega) (by simp only [F.MOT_STAT_REVERSE, F.motBase]; omega)
@[simp] theorem F.MOT_STAT_LOW_SPEED_window (k : Nat) : (F.MOT_STAT_LOW_SPEED k).window = .motRegs := window_mot (by simp only [F.MOT_STAT_LOW_SPEED, F.motBase]; omega) (by simp only [F.MOT_STAT_LOW_SPEED, F.motBase]; omega)
@[simp] theorem F.MOT_STAT_BRAKING_window (k : Nat) : (F.MOT_STAT_BRAKING k).window = .motRegs := window_mot (by simp only [F.MOT_STAT_BRAKING, F.motBase]; omega) (by simp only [F.MOT_STAT_BRAKING, F.motBase]; omega)
@[simp] theorem F.MOT_STAT_SKIP_RUN_window (k : Nat) : (F.MOT_STAT_SKIP_RUN k).window = .motRegs := window_mot (by simp only [F.MOT_STAT_SKIP_RUN, F.motBase]; omega) (by simp only [F.MOT_STAT_SKIP_RUN, F.motBase]; omega)
@[simp] theorem F.MOT_CUR_I_RATED_window (k : Nat) : (F.MOT_CUR_I_RATED k).window = .motRegs := window_mot (by simp only [F.MOT_CUR_I_RATED, F.motBase]; omega) (by simp only [F.MOT_CUR_I_RATED, F.motBase]; omega)
@[simp] theorem F.MOT_CUR_BRAKE_window (k : Nat) : (F.MOT_CUR_BRAKE k).window = .motRegs := window_mot (by simp only [F.MOT_CUR_BRAKE, F.motBase]; omega) (by simp only [F.MOT_CUR_BRAKE, F.motBase]; omega)
@[simp] theorem F.MOT_CUR_SOFT_window (k : Nat) : (F.MOT_CUR_SOFT k).window = .motRegs := window_mot (by simp only [F.MOT_CUR_SOFT, F.motBase]; omega) (by simp only [F.MOT_CUR_SOFT, F.motBase]; omega)
@[simp] theorem F.MOT_LIM_I_TRIP_window (k : Nat) : (F.MOT_LIM_I_TRIP k).window = .motRegs := window_mot (by simp only [F.MOT_LIM_I_TRIP, F.motBase]; omega) (by simp only [F.MOT_LIM_I_TRIP, F.motBase]; omega)
@[simp] theorem F.MOT_LIM_LOW_SPEED_window (k : Nat) : (F.MOT_LIM_LOW_SPEED k).window = .motRegs := window_mot (by simp only [F.MOT_LIM_LOW_SPEED, F.motBase]; omega) (by simp only [F.MOT_LIM_LOW_SPEED, F.motBase]; omega)
@[simp] theorem F.MOT_OBS_ANGLE_LIM_window (k : Nat) : (F.MOT_OBS_ANGLE_LIM k).window = .motRegs := window_mot (by simp only [F.MOT_OBS_ANGLE_LIM, F.motBase]; omega) (by simp only [F.MOT_OBS_ANGLE_LIM, F.motBase]; omega)
@[simp] theorem F.MOT_OBS_TIME_window (k : Nat) : (F.MOT_OBS_TIME k).window = .motRegs := window_mot (by simp only [F.MOT_OBS_TIME, F.motBase]; omega) (by simp only [F.MOT_OBS_TIME, F.motBase]; omega)
@[simp] theorem F.MOT_OBS_BEMF_MIN_window (k : Nat) : (F.MOT_OBS_BEMF_MIN k).window = .motRegs := window_mot (by simp only [F.MOT_OBS_BEMF_MIN, F.motBase]; omega) (by simp only [F.MOT_OBS_BEMF_MIN, F.motBase]; omega)
@[simp] theorem F.MOT_RAMP_ACCEL_window (k : Nat) : (F.MOT_RAMP_ACCEL k).window = .motRegs := window_mot (by simp only [F.MOT_RAMP_ACCEL, F.motBase]; omega) (by simp only [F.MOT_RAMP_ACCEL, F.motBase]; omega)
@[simp] theorem F.MOT_RAMP_DECEL_window (k : Nat) : (F.MOT_RAMP_DECEL k).window = .motRegs := window_mot (by simp only [F.MOT_RAMP_DECEL, F.motBase]; omega) (by simp only [F.MOT_RAMP_DECEL, F.motBase]; omega)
@[simp] theorem F.MOT_WIRING_ENC_INV_window (k : Nat) : (F.MOT_WIRING_ENC_INV k).window = .motRegs := window_mot (by simp only [F.MOT_WIRING_ENC_INV, F.motBase]; omega) (by simp only [F.MOT_WIRING_ENC_INV, F.motBase]; omega)
@[simp] theorem F.MOT_WIRING_PH_SWAP_window (k : Nat) : (F.MOT_WIRING_PH_SWAP k).window = .motRegs := window_mot (by simp only [F.MOT_WIRING_PH_SWAP, F.motBase]; omega) (by simp only [F.MOT_WIRING_PH_SWAP, F.motBase]; omega)
@[simp] theorem F.MOT_WIRING_SHUNT_INV_window (k : Nat) : (F.MOT_WIRING_SHUNT_INV k).window = .motRegs := window_mot (by simp only [F.MOT_WIRING_SHUNT_INV, F.motBase]; omega) (by simp only [F.MOT_WIRING_SHUNT_INV, F.motBase]; omega)
@[simp] theorem F.MOT_WIRING_CHECKED_window (k : Nat) : (F.MOT_WIRING_CHECKED k).window = .motRegs := window_mot (by simp only [F.MOT_WIRING_CHECKED, F.motBase]; omega) (by simp only [F.MOT_WIRING_CHECKED, F.motBase]; omega)
@[simp] theorem F.MOT_WIRING_OFS_VALID_window (k : Nat) : (F.MOT_WIRING_OFS_VALID k).window = .motRegs := window_mot (by simp only [F.MOT_WIRING_OFS_VALID, F.motBase]; omega) (by simp only [F.MOT_WIRING_OFS_VALID, F.motBase]; omega)
@[simp] theorem F.MOT_WIRING_INDEX_OFS_window (k : Nat) : (F.MOT_WIRING_INDEX_OFS k).window = .motRegs := window_mot (by simp only [F.MOT_WIRING_INDEX_OFS, F.motBase]; omega) (by simp only [F.MOT_WIRING_INDEX_OFS, F.motBase]; omega)
@[simp] theorem F.MOT_SPEED_RPM_window (k : Nat) : (F.MOT_SPEED_RPM k).window = .motRegs := window_mot (by simp only [F.MOT_SPEED_RPM, F.motBase]; omega) (by simp only [F.MOT_SPEED_RPM, F.motBase]; omega)
@[simp] theorem F.MOT_OBS_SPEED_RPM_window (k : Nat) : (F.MOT_OBS_SPEED_RPM k).window = .motRegs := window_mot (by simp only [F.MOT_OBS_SPEED_RPM, F.motBase]; omega) (by simp only [F.MOT_OBS_SPEED_RPM, F.motBase]; omega)
@[simp] theorem F.MOT_ANGLE_ENC_window (k : Nat) : (F.MOT_ANGLE_ENC k).window = .motRegs := window_mot (by simp only [F.MOT_ANGLE_ENC, F.motBase]; omega) (by simp only [F.MOT_ANGLE_ENC, F.motBase]; omega)
@[simp] theorem F.MOT_ANGLE_OBS_window (k : Nat) : (F.MOT_ANGLE_OBS k).window = .motRegs := window_mot (by simp only [F.MOT_ANGLE_OBS, F.motBase]; omega) (by simp only [F.MOT_ANGLE_OBS, F.motBase]; omega)
@[simp] theorem F.MOT_POS_POS_window (k : Nat) : (F.MOT_POS_POS k).window = .motRegs := window_mot (by simp only [F.MOT_POS_POS, F.motBase]; omega) (by simp only [F.MOT_POS_POS, F.motBase]; omega)
@[simp] theorem F.MOT_SHUNT_OFS_OFS_window (k : Nat) : (F.MOT_SHUNT_OFS_OFS k).window = .motRegs := window_mot (by simp only [F.MOT_SHUNT_OFS_OFS, F.motBase]; omega) (by simp only [F.MOT_SHUNT_OFS_OFS, F.motBase]; omega)
@[simp] theorem F.MOT_MODEL_RES_window (k : Nat) : (F.MOT_MODEL_RES k).window = .motRegs := window_mot (by simp only [F.MOT_MODEL_RES, F.motBase]; omega) (by simp only [F.MOT_MODEL_RES, F.motBase]; omega)
@[simp] theorem F.MOT_MODEL_IND_window (k : Nat) : (F.MOT_MODEL_IND k).window = .motRegs := window_mot (by simp only [F.MOT_MODEL_IND, F.motBase]; omega) (by simp only [F.MOT_MODEL_IND, F.motBase]; omega)
@[simp] theorem F.MOT_REV_CNT_CNT_window (k : Nat) : (F.MOT_REV_CNT_CNT k).window = .motRegs := window_mot (by simp only [F.MOT_REV_CNT_CNT, F.motBase]; omega) (by simp only [F.MOT_REV_CNT_CNT, F.motBase]; omega)
@[simp] theorem F.STP_CTL_ENABLE_window (k : Nat) : (F.STP_CTL_ENABLE k).window = .stpRegs := window_stp (by simp only [F.STP_CTL_ENABLE, F.stpBase]; omega) (by simp only [F.STP_CTL_ENABLE, F.stpBase]; omega)
@[simp] theorem F.STP_CTL_DIR_INV_window (k : Nat) : (F.STP_CTL_DIR_INV k).window = .stpRegs := window_stp (by simp only [F.STP_CTL_DIR_INV, F.stpBase]; omega) (by simp only [F.STP_CTL_DIR_INV, F.stpBase]; omega)
@[simp] theorem F.STP_CTL_FAULT_POL_window (k : Nat) : (F.STP_CTL_FAULT_POL k).window = .stpRegs := window_stp (by simp only [F.STP_CTL_FAULT_POL, F.stpBase]; omega) (by simp only [F.STP_CTL_FAULT_POL, F.stpBase]; omega)
@[simp] theorem F.STP_CTL_PULSE_W_window (k : Nat) : (F.STP_CTL_PULSE_W k).window = .stpRegs := window_stp (by simp only [F.STP_CTL_PULSE_W, F.stpBase]; omega) (by simp only [F.STP_CTL_PULSE_W, F.stpBase]; omega)
@[simp] theorem F.STP_CTL_DIR_SETUP_window (k : Nat) : (F.STP_CTL_DIR_SETUP k).window = .stpRegs := window_stp (by simp only [F.STP_CTL_DIR_SETUP, F.stpBase]; omega) (by simp only [F.STP_CTL_DIR_SETUP, F.stpBase]; omega)
@[simp] theorem F.STP_CMD_CMD_window (k : Nat) : (F.STP_CMD_CMD k).window = .stpRegs := window_stp (by simp only [F.STP_CMD_CMD, F.stpBase]; omega) (by simp only [F.STP_CMD_CMD, F.stpBase]; omega)
@[simp] theorem F.STP_CMD_BLEND_window (k : Nat) : (F.STP_CMD_BLEND k).window = .stpRegs := window_stp (by simp only [F.STP_CMD_BLEND, F.stpBase]; omega) (by simp only [F.STP_CMD_BLEND, F.stpBase]; omega)
@[simp] theorem F.STP_STAT_STATE_window (k : Nat) : (F.STP_STAT_STATE k).window = .stpRegs := window_stp (by simp only [F.STP_STAT_STATE, F.stpBase]; omega) (by simp only [F.STP_STAT_STATE, F.stpBase]; omega)
@[simp] theorem F.STP_STAT_RESULT_window (k : Nat) : (F.STP_STAT_RESULT k).window = .stpRegs := window_stp (by simp only [F.STP_STAT_RESULT, F.stpBase]; omega) (by simp only [F.STP_STAT_RESULT, F.stpBase]; omega)
@[simp] theorem F.STP_STAT_QUEUE_window (k : Nat) : (F.STP_STAT_QUEUE k).window = .stpRegs := window_stp (by simp only [F.STP_STAT_QUEUE, F.stpBase]; omega) (by simp only [F.STP_STAT_QUEUE, F.stpBase]; omega)
@[simp] theorem F.STP_STAT_HOMED_window (k : Nat) : (F.STP_STAT_HOMED k).window = .stpRegs := window_stp (by simp only [F.STP_STAT_HOMED, F.stpBase]; omega) (by simp only [F.STP_STAT_HOMED, F.stpBase]; omega)
@[simp] theorem F.STP_STAT_DRV_FAULT_window (k : Nat) : (F.STP_STAT_DRV_FAULT k).window = .stpRegs := window_stp (by simp only [F.STP_STAT_DRV_FAULT, F.stpBase]; omega) (by simp only [F.STP_STAT_DRV_FAULT, F.stpBase]; omega)
@[simp] theorem F.STP_STAT_SLIP_window (k : Nat) : (F.STP_STAT_SLIP k).window = .stpRegs := window_stp (by simp only [F.STP_STAT_SLIP, F.stpBase]; omega) (by simp only [F.STP_STAT_SLIP, F.stpBase]; omega)
@[simp] theorem F.STP_STAT_LIMIT_window (k : Nat) : (F.STP_STAT_LIMIT k).window = .stpRegs := window_stp (by simp only [F.STP_STAT_LIMIT, F.stpBase]; omega) (by simp only [F.STP_STAT_LIMIT, F.stpBase]; omega)
@[simp] theorem F.STP_STAT_CFG_REJECT_window (k : Nat) : (F.STP_STAT_CFG_REJECT k).window = .stpRegs := window_stp (by simp only [F.STP_STAT_CFG_REJECT, F.stpBase]; omega) (by simp only [F.STP_STAT_CFG_REJECT, F.stpBase]; omega)
@[simp] theorem F.STP_TARGET_POS_window (k : Nat) : (F.STP_TARGET_POS k).window = .stpRegs := window_stp (by simp only [F.STP_TARGET_POS, F.stpBase]; omega) (by simp only [F.STP_TARGET_POS, F.stpBase]; omega)
@[simp] theorem F.STP_VSS_V_START_window (k : Nat) : (F.STP_VSS_V_START k).window = .stpRegs := window_stp (by simp only [F.STP_VSS_V_START, F.stpBase]; omega) (by simp only [F.STP_VSS_V_START, F.stpBase]; omega)
@[simp] theorem F.STP_VSS_V_STOP_window (k : Nat) : (F.STP_VSS_V_STOP k).window = .stpRegs := window_stp (by simp only [F.STP_VSS_V_STOP, F.stpBase]; omega) (by simp only [F.STP_VSS_V_STOP, F.stpBase]; omega)
@[simp] theorem F.STP_VMAX_V_M_window (k : Nat) : (F.STP_VMAX_V_M k).window = .stpRegs := window_stp (by simp only [F.STP_VMAX_V_M, F.stpBase]; omega) (by simp only [F.STP_VMAX_V_M, F.stpBase]; omega)
@[simp] theorem F.STP_ACC_A_ACC_window (k : Nat) : (F.STP_ACC_A_ACC k).window = .stpRegs := window_stp (by simp only [F.STP_ACC_A_ACC, F.stpBase]; omega) (by simp only [F.STP_ACC_A_ACC, F.stpBase]; omega)
@[simp] theorem F.STP_ACC_A_DEC_window (k : Nat) : (F.STP_ACC_A_DEC k).window = .stpRegs := window_stp (by simp only [F.STP_ACC_A_DEC, F.stpBase]; omega) (by simp only [F.STP_ACC_A_DEC, F.stpBase]; omega)
@[simp] theorem F.STP_LIM_LO_LIM_window (k : Nat) : (F.STP_LIM_LO_LIM k).window = .stpRegs := window_stp (by simp only [F.STP_LIM_LO_LIM, F.stpBase]; omega) (by simp only [F.STP_LIM_LO_LIM, F.stpBase]; omega)
@[simp] theorem F.STP_LIM_HI_LIM_window (k : Nat) : (F.STP_LIM_HI_LIM k).window = .stpRegs := window_stp (by simp only [F.STP_LIM_HI_LIM, F.stpBase]; omega) (by simp only [F.STP_LIM_HI_LIM, F.stpBase]; omega)
@[simp] theorem F.STP_HOME_HOME_V_window (k : Nat) : (F.STP_HOME_HOME_V k).window = .stpRegs := window_stp (by simp only [F.STP_HOME_HOME_V, F.stpBase]; omega) (by simp only [F.STP_HOME_HOME_V, F.stpBase]; omega)
@[simp] theorem F.STP_HOME_HOME_OVER_window (k : Nat) : (F.STP_HOME_HOME_OVER k).window = .stpRegs := window_stp (by simp only [F.STP_HOME_HOME_OVER, F.stpBase]; omega) (by simp only [F.STP_HOME_HOME_OVER, F.stpBase]; omega)
@[simp] theorem F.STP_HOME_OFS_OFS_window (k : Nat) : (F.STP_HOME_OFS_OFS k).window = .stpRegs := window_stp (by simp only [F.STP_HOME_OFS_OFS, F.stpBase]; omega) (by simp only [F.STP_HOME_OFS_OFS, F.stpBase]; omega)
@[simp] theorem F.STP_SETTLE_TIME_window (k : Nat) : (F.STP_SETTLE_TIME k).window = .stpRegs := window_stp (by simp only [F.STP_SETTLE_TIME, F.stpBase]; omega) (by simp only [F.STP_SETTLE_TIME, F.stpBase]; omega)
@[simp] theorem F.STP_SETTLE_SLIP_TOL_window (k : Nat) : (F.STP_SETTLE_SLIP_TOL k).window = .stpRegs := window_stp (by simp only [F.STP_SETTLE_SLIP_TOL, F.stpBase]; omega) (by simp only [F.STP_SETTLE_SLIP_TOL, F.stpBase]; omega)
@[simp] theorem F.STP_SETTLE_LAND_SPOKES_window (k : Nat) : (F.STP_SETTLE_LAND_SPOKES k).window = .stpRegs := window_stp (by simp only [F.STP_SETTLE_LAND_SPOKES, F.stpBase]; omega) (by simp only [F.STP_SETTLE_LAND_SPOKES, F.stpBase]; omega)
@[simp] theorem F.STP_POS_POS_window (k : Nat) : (F.STP_POS_POS k).window = .stpRegs := window_stp (by simp only [F.STP_POS_POS, F.stpBase]; omega) (by simp only [F.STP_POS_POS, F.stpBase]; omega)
@[simp] theorem F.STP_REMAIN_DIST_window (k : Nat) : (F.STP_REMAIN_DIST k).window = .stpRegs := window_stp (by simp only [F.STP_REMAIN_DIST, F.stpBase]; omega) (by simp only [F.STP_REMAIN_DIST, F.stpBase]; omega)
@[simp] theorem F.STP_LAST_SLIP_SLIP_window (k : Nat) : (F.STP_LAST_SLIP_SLIP k).window = .stpRegs := window_stp (by simp only [F.STP_LAST_SLIP_SLIP, F.stpBase]; omega) (by simp only [F.STP_LAST_SLIP_SLIP, F.stpBase]; omega)
@[simp] theorem F.STP_SLIP_CNT_CNT_window (k : Nat) : (F.STP_SLIP_CNT_CNT k).window = .stpRegs := window_stp (by simp only [F.STP_SLIP_CNT_CNT, F.stpBase]; omega) (by simp only [F.STP_SLIP_CNT_CNT, F.stpBase]; omega)
@[simp] theorem F.STP_STEP_CNT_CNT_window (k : Nat) : (F.STP_STEP_CNT_CNT k).window = .stpRegs := window_stp (by simp only [F.STP_STEP_CNT_CNT, F.stpBase]; omega) (by simp only [F.STP_STEP_CNT_CNT, F.stpBase]; omega)
@[simp] theorem F.RCH_IN_CTL_ENABLE_window (i : Nat) : (F.RCH_IN_CTL_ENABLE i).window = .rchRegs := window_rch (by simp only [F.RCH_IN_CTL_ENABLE, F.rchinBase]; omega) (by simp only [F.RCH_IN_CTL_ENABLE, F.rchinBase]; omega)
@[simp] theorem F.RCH_IN_CTL_AGC_HOLD_window (i : Nat) : (F.RCH_IN_CTL_AGC_HOLD i).window = .rchRegs := window_rch (by simp only [F.RCH_IN_CTL_AGC_HOLD, F.rchinBase]; omega) (by simp only [F.RCH_IN_CTL_AGC_HOLD, F.rchinBase]; omega)
@[simp] theorem F.RCH_IN_CTL_POL_INV_window (i : Nat) : (F.RCH_IN_CTL_POL_INV i).window = .rchRegs := window_rch (by simp only [F.RCH_IN_CTL_POL_INV, F.rchinBase]; omega) (by simp only [F.RCH_IN_CTL_POL_INV, F.rchinBase]; omega)
@[simp] theorem F.RCH_IN_CTL_AGC_TARGET_window (i : Nat) : (F.RCH_IN_CTL_AGC_TARGET i).window = .rchRegs := window_rch (by simp only [F.RCH_IN_CTL_AGC_TARGET, F.rchinBase]; omega) (by simp only [F.RCH_IN_CTL_AGC_TARGET, F.rchinBase]; omega)
@[simp] theorem F.RCH_IN_CTL_AGC_RATE_window (i : Nat) : (F.RCH_IN_CTL_AGC_RATE i).window = .rchRegs := window_rch (by simp only [F.RCH_IN_CTL_AGC_RATE, F.rchinBase]; omega) (by simp only [F.RCH_IN_CTL_AGC_RATE, F.rchinBase]; omega)
@[simp] theorem F.RCH_IN_GAIN_PGA_window (i : Nat) : (F.RCH_IN_GAIN_PGA i).window = .rchRegs := window_rch (by simp only [F.RCH_IN_GAIN_PGA, F.rchinBase]; omega) (by simp only [F.RCH_IN_GAIN_PGA, F.rchinBase]; omega)
@[simp] theorem F.RCH_IN_GAIN_FINE_window (i : Nat) : (F.RCH_IN_GAIN_FINE i).window = .rchRegs := window_rch (by simp only [F.RCH_IN_GAIN_FINE, F.rchinBase]; omega) (by simp only [F.RCH_IN_GAIN_FINE, F.rchinBase]; omega)
@[simp] theorem F.RCH_IN_MAP_MAP_window (i : Nat) : (F.RCH_IN_MAP_MAP i).window = .rchRegs := window_rch (by simp only [F.RCH_IN_MAP_MAP, F.rchinBase]; omega) (by simp only [F.RCH_IN_MAP_MAP, F.rchinBase]; omega)
@[simp] theorem F.RCH_IN_SUB_FAILED_window (i : Nat) : (F.RCH_IN_SUB_FAILED i).window = .rchRegs := window_rch (by simp only [F.RCH_IN_SUB_FAILED, F.rchinBase]; omega) (by simp only [F.RCH_IN_SUB_FAILED, F.rchinBase]; omega)
@[simp] theorem F.RCH_IN_SUB_SHADOW_A_window (i : Nat) : (F.RCH_IN_SUB_SHADOW_A i).window = .rchRegs := window_rch (by simp only [F.RCH_IN_SUB_SHADOW_A, F.rchinBase]; omega) (by simp only [F.RCH_IN_SUB_SHADOW_A, F.rchinBase]; omega)
@[simp] theorem F.RCH_IN_SUB_SHADOW_B_window (i : Nat) : (F.RCH_IN_SUB_SHADOW_B i).window = .rchRegs := window_rch (by simp only [F.RCH_IN_SUB_SHADOW_B, F.rchinBase]; omega) (by simp only [F.RCH_IN_SUB_SHADOW_B, F.rchinBase]; omega)
@[simp] theorem F.RCH_IN_STAT_INVERTED_window (i : Nat) : (F.RCH_IN_STAT_INVERTED i).window = .rchRegs := window_rch (by simp only [F.RCH_IN_STAT_INVERTED, F.rchinBase]; omega) (by simp only [F.RCH_IN_STAT_INVERTED, F.rchinBase]; omega)
@[simp] theorem F.RCH_IN_STAT_NO_SIGNAL_window (i : Nat) : (F.RCH_IN_STAT_NO_SIGNAL i).window = .rchRegs := window_rch (by simp only [F.RCH_IN_STAT_NO_SIGNAL, F.rchinBase]; omega) (by simp only [F.RCH_IN_STAT_NO_SIGNAL, F.rchinBase]; omega)
@[simp] theorem F.RCH_IN_STAT_CLIP_window (i : Nat) : (F.RCH_IN_STAT_CLIP i).window = .rchRegs := window_rch (by simp only [F.RCH_IN_STAT_CLIP, F.rchinBase]; omega) (by simp only [F.RCH_IN_STAT_CLIP, F.rchinBase]; omega)
@[simp] theorem F.RCH_IN_STAT_SUB_DEGRADED_window (i : Nat) : (F.RCH_IN_STAT_SUB_DEGRADED i).window = .rchRegs := window_rch (by simp only [F.RCH_IN_STAT_SUB_DEGRADED, F.rchinBase]; omega) (by simp only [F.RCH_IN_STAT_SUB_DEGRADED, F.rchinBase]; omega)
@[simp] theorem F.RCH_IN_STAT_CFG_REJECT_window (i : Nat) : (F.RCH_IN_STAT_CFG_REJECT i).window = .rchRegs := window_rch (by simp only [F.RCH_IN_STAT_CFG_REJECT, F.rchinBase]; omega) (by simp only [F.RCH_IN_STAT_CFG_REJECT, F.rchinBase]; omega)
@[simp] theorem F.RCH_IN_STAT_BOUND_window (i : Nat) : (F.RCH_IN_STAT_BOUND i).window = .rchRegs := window_rch (by simp only [F.RCH_IN_STAT_BOUND, F.rchinBase]; omega) (by simp only [F.RCH_IN_STAT_BOUND, F.rchinBase]; omega)
@[simp] theorem F.RCH_IN_STAT_LANE_window (i : Nat) : (F.RCH_IN_STAT_LANE i).window = .rchRegs := window_rch (by simp only [F.RCH_IN_STAT_LANE, F.rchinBase]; omega) (by simp only [F.RCH_IN_STAT_LANE, F.rchinBase]; omega)
@[simp] theorem F.RCH_IN_TRIM_OFFSET_window (i : Nat) (j : Nat) : (F.RCH_IN_TRIM_OFFSET i j).window = .rchRegs := window_rch (by simp only [F.RCH_IN_TRIM_OFFSET, F.rchinBase]; omega) (by simp only [F.RCH_IN_TRIM_OFFSET, F.rchinBase]; omega)
@[simp] theorem F.RCH_IN_TRIM_GAIN_window (i : Nat) (j : Nat) : (F.RCH_IN_TRIM_GAIN i j).window = .rchRegs := window_rch (by simp only [F.RCH_IN_TRIM_GAIN, F.rchinBase]; omega) (by simp only [F.RCH_IN_TRIM_GAIN, F.rchinBase]; omega)
@[simp] theorem F.RCH_IN_TRIM_SKEW_window (i : Nat) (j : Nat) : (F.RCH_IN_TRIM_SKEW i j).window = .rchRegs := window_rch (by simp only [F.RCH_IN_TRIM_SKEW, F.rchinBase]; omega) (by simp only [F.RCH_IN_TRIM_SKEW, F.rchinBase]; omega)
@[simp] theorem F.RCH_SPK_CTL_SYNC_MIN_window (k : Nat) : (F.RCH_SPK_CTL_SYNC_MIN k).window = .rchRegs := window_rch (by simp only [F.RCH_SPK_CTL_SYNC_MIN, F.rchBase]; omega) (by simp only [F.RCH_SPK_CTL_SYNC_MIN, F.rchBase]; omega)
@[simp] theorem F.RCH_SPK_CTL_WIN_window (k : Nat) : (F.RCH_SPK_CTL_WIN k).window = .rchRegs := window_rch (by simp only [F.RCH_SPK_CTL_WIN, F.rchBase]; omega) (by simp only [F.RCH_SPK_CTL_WIN, F.rchBase]; omega)
@[simp] theorem F.RCH_SPK_CTL_CONFIRM_window (k : Nat) : (F.RCH_SPK_CTL_CONFIRM k).window = .rchRegs := window_rch (by simp only [F.RCH_SPK_CTL_CONFIRM, F.rchBase]; omega) (by simp only [F.RCH_SPK_CTL_CONFIRM, F.rchBase]; omega)
@[simp] theorem F.RCH_SPK_CTL_COAST_MAX_window (k : Nat) : (F.RCH_SPK_CTL_COAST_MAX k).window = .rchRegs := window_rch (by simp only [F.RCH_SPK_CTL_COAST_MAX, F.rchBase]; omega) (by simp only [F.RCH_SPK_CTL_COAST_MAX, F.rchBase]; omega)
@[simp] theorem F.RCH_SPK_CTL_TRK_WIN_window (k : Nat) : (F.RCH_SPK_CTL_TRK_WIN k).window = .rchRegs := window_rch (by simp only [F.RCH_SPK_CTL_TRK_WIN, F.rchBase]; omega) (by simp only [F.RCH_SPK_CTL_TRK_WIN, F.rchBase]; omega)
@[simp] theorem F.RCH_SPK_WR_OFFTRACK_window (k : Nat) : (F.RCH_SPK_WR_OFFTRACK k).window = .rchRegs := window_rch (by simp only [F.RCH_SPK_WR_OFFTRACK, F.rchBase]; omega) (by simp only [F.RCH_SPK_WR_OFFTRACK, F.rchBase]; omega)
@[simp] theorem F.RCH_SPK_WR_SLIP_window (k : Nat) : (F.RCH_SPK_WR_SLIP k).window = .rchRegs := window_rch (by simp only [F.RCH_SPK_WR_SLIP, F.rchBase]; omega) (by simp only [F.RCH_SPK_WR_SLIP, F.rchBase]; omega)
@[simp] theorem F.RCH_SPK_WR_MISS_MAX_window (k : Nat) : (F.RCH_SPK_WR_MISS_MAX k).window = .rchRegs := window_rch (by simp only [F.RCH_SPK_WR_MISS_MAX, F.rchBase]; omega) (by simp only [F.RCH_SPK_WR_MISS_MAX, F.rchBase]; omega)
@[simp] theorem F.RCH_SPK_STAT_STATE_window (k : Nat) : (F.RCH_SPK_STAT_STATE k).window = .rchRegs := window_rch (by simp only [F.RCH_SPK_STAT_STATE, F.rchBase]; omega) (by simp only [F.RCH_SPK_STAT_STATE, F.rchBase]; omega)
@[simp] theorem F.RCH_SPK_STAT_MISS_RUN_window (k : Nat) : (F.RCH_SPK_STAT_MISS_RUN k).window = .rchRegs := window_rch (by simp only [F.RCH_SPK_STAT_MISS_RUN, F.rchBase]; omega) (by simp only [F.RCH_SPK_STAT_MISS_RUN, F.rchBase]; omega)
@[simp] theorem F.RCH_SPK_STAT_WR_GATE_OK_window (k : Nat) : (F.RCH_SPK_STAT_WR_GATE_OK k).window = .rchRegs := window_rch (by simp only [F.RCH_SPK_STAT_WR_GATE_OK, F.rchBase]; omega) (by simp only [F.RCH_SPK_STAT_WR_GATE_OK, F.rchBase]; omega)
@[simp] theorem F.RCH_SPK_STAT_SIDE_MISMATCH_window (k : Nat) : (F.RCH_SPK_STAT_SIDE_MISMATCH k).window = .rchRegs := window_rch (by simp only [F.RCH_SPK_STAT_SIDE_MISMATCH, F.rchBase]; omega) (by simp only [F.RCH_SPK_STAT_SIDE_MISMATCH, F.rchBase]; omega)
@[simp] theorem F.RCH_SPK_STAT_LAYER_MISMATCH_window (k : Nat) : (F.RCH_SPK_STAT_LAYER_MISMATCH k).window = .rchRegs := window_rch (by simp only [F.RCH_SPK_STAT_LAYER_MISMATCH, F.rchBase]; omega) (by simp only [F.RCH_SPK_STAT_LAYER_MISMATCH, F.rchBase]; omega)
@[simp] theorem F.RCH_SPK_STAT_LAST_INDEX_window (k : Nat) : (F.RCH_SPK_STAT_LAST_INDEX k).window = .rchRegs := window_rch (by simp only [F.RCH_SPK_STAT_LAST_INDEX, F.rchBase]; omega) (by simp only [F.RCH_SPK_STAT_LAST_INDEX, F.rchBase]; omega)
@[simp] theorem F.RCH_SPK_POS_TRACK_window (k : Nat) : (F.RCH_SPK_POS_TRACK k).window = .rchRegs := window_rch (by simp only [F.RCH_SPK_POS_TRACK, F.rchBase]; omega) (by simp only [F.RCH_SPK_POS_TRACK, F.rchBase]; omega)
@[simp] theorem F.RCH_SPK_POS_FLYWHEEL_window (k : Nat) : (F.RCH_SPK_POS_FLYWHEEL k).window = .rchRegs := window_rch (by simp only [F.RCH_SPK_POS_FLYWHEEL, F.rchBase]; omega) (by simp only [F.RCH_SPK_POS_FLYWHEEL, F.rchBase]; omega)
@[simp] theorem F.RCH_SPK_POS_SIDE_window (k : Nat) : (F.RCH_SPK_POS_SIDE k).window = .rchRegs := window_rch (by simp only [F.RCH_SPK_POS_SIDE, F.rchBase]; omega) (by simp only [F.RCH_SPK_POS_SIDE, F.rchBase]; omega)
@[simp] theorem F.RCH_SPK_POS_LAYER_window (k : Nat) : (F.RCH_SPK_POS_LAYER k).window = .rchRegs := window_rch (by simp only [F.RCH_SPK_POS_LAYER, F.rchBase]; omega) (by simp only [F.RCH_SPK_POS_LAYER, F.rchBase]; omega)
@[simp] theorem F.RCH_SPK_POS_ZONE_window (k : Nat) : (F.RCH_SPK_POS_ZONE k).window = .rchRegs := window_rch (by simp only [F.RCH_SPK_POS_ZONE, F.rchBase]; omega) (by simp only [F.RCH_SPK_POS_ZONE, F.rchBase]; omega)
@[simp] theorem F.RCH_SPK_PES_PES_window (k : Nat) : (F.RCH_SPK_PES_PES k).window = .rchRegs := window_rch (by simp only [F.RCH_SPK_PES_PES, F.rchBase]; omega) (by simp only [F.RCH_SPK_PES_PES, F.rchBase]; omega)
@[simp] theorem F.RCH_SPK_PERIOD_PERIOD_window (k : Nat) : (F.RCH_SPK_PERIOD_PERIOD k).window = .rchRegs := window_rch (by simp only [F.RCH_SPK_PERIOD_PERIOD, F.rchBase]; omega) (by simp only [F.RCH_SPK_PERIOD_PERIOD, F.rchBase]; omega)
@[simp] theorem F.RCH_SPK_ACC_CNT_CNT_window (k : Nat) : (F.RCH_SPK_ACC_CNT_CNT k).window = .rchRegs := window_rch (by simp only [F.RCH_SPK_ACC_CNT_CNT, F.rchBase]; omega) (by simp only [F.RCH_SPK_ACC_CNT_CNT, F.rchBase]; omega)
@[simp] theorem F.RCH_SPK_POS_CNT_CNT_window (k : Nat) : (F.RCH_SPK_POS_CNT_CNT k).window = .rchRegs := window_rch (by simp only [F.RCH_SPK_POS_CNT_CNT, F.rchBase]; omega) (by simp only [F.RCH_SPK_POS_CNT_CNT, F.rchBase]; omega)
@[simp] theorem F.RCH_SPK_MISS_CNT_CNT_window (k : Nat) : (F.RCH_SPK_MISS_CNT_CNT k).window = .rchRegs := window_rch (by simp only [F.RCH_SPK_MISS_CNT_CNT, F.rchBase]; omega) (by simp only [F.RCH_SPK_MISS_CNT_CNT, F.rchBase]; omega)
@[simp] theorem F.RCH_SYNC_CTL_SYNC_WIN_window (k : Nat) : (F.RCH_SYNC_CTL_SYNC_WIN k).window = .rchRegs := window_rch (by simp only [F.RCH_SYNC_CTL_SYNC_WIN, F.rchBase]; omega) (by simp only [F.RCH_SYNC_CTL_SYNC_WIN, F.rchBase]; omega)
@[simp] theorem F.RCH_SYNC_CTL_SYNC_MIN_window (k : Nat) : (F.RCH_SYNC_CTL_SYNC_MIN k).window = .rchRegs := window_rch (by simp only [F.RCH_SYNC_CTL_SYNC_MIN, F.rchBase]; omega) (by simp only [F.RCH_SYNC_CTL_SYNC_MIN, F.rchBase]; omega)
@[simp] theorem F.RCH_SYNC_CTL_RSYNC_WIN_window (k : Nat) : (F.RCH_SYNC_CTL_RSYNC_WIN k).window = .rchRegs := window_rch (by simp only [F.RCH_SYNC_CTL_RSYNC_WIN, F.rchBase]; omega) (by simp only [F.RCH_SYNC_CTL_RSYNC_WIN, F.rchBase]; omega)
@[simp] theorem F.RCH_SYNC_CTL_RSYNC_MIN_window (k : Nat) : (F.RCH_SYNC_CTL_RSYNC_MIN k).window = .rchRegs := window_rch (by simp only [F.RCH_SYNC_CTL_RSYNC_MIN, F.rchBase]; omega) (by simp only [F.RCH_SYNC_CTL_RSYNC_MIN, F.rchBase]; omega)
@[simp] theorem F.RCH_SYNC_CTL_HYP_MAX_window (k : Nat) : (F.RCH_SYNC_CTL_HYP_MAX k).window = .rchRegs := window_rch (by simp only [F.RCH_SYNC_CTL_HYP_MAX, F.rchBase]; omega) (by simp only [F.RCH_SYNC_CTL_HYP_MAX, F.rchBase]; omega)
@[simp] theorem F.RCH_SYNC_MISS_CNT_CNT_window (k : Nat) : (F.RCH_SYNC_MISS_CNT_CNT k).window = .rchRegs := window_rch (by simp only [F.RCH_SYNC_MISS_CNT_CNT, F.rchBase]; omega) (by simp only [F.RCH_SYNC_MISS_CNT_CNT, F.rchBase]; omega)
@[simp] theorem F.RCH_RSYNC_SLIP_CNT_CNT_window (k : Nat) : (F.RCH_RSYNC_SLIP_CNT_CNT k).window = .rchRegs := window_rch (by simp only [F.RCH_RSYNC_SLIP_CNT_CNT, F.rchBase]; omega) (by simp only [F.RCH_RSYNC_SLIP_CNT_CNT, F.rchBase]; omega)
@[simp] theorem F.RCH_ALIGN_CNT_CNT_window (k : Nat) : (F.RCH_ALIGN_CNT_CNT k).window = .rchRegs := window_rch (by simp only [F.RCH_ALIGN_CNT_CNT, F.rchBase]; omega) (by simp only [F.RCH_ALIGN_CNT_CNT, F.rchBase]; omega)
@[simp] theorem F.RCH_JD_CTL_FLY_SHIFT_window (k : Nat) : (F.RCH_JD_CTL_FLY_SHIFT k).window = .rchRegs := window_rch (by simp only [F.RCH_JD_CTL_FLY_SHIFT, F.rchBase]; omega) (by simp only [F.RCH_JD_CTL_FLY_SHIFT, F.rchBase]; omega)
@[simp] theorem F.RCH_JD_CTL_SLIP_ERASE_window (k : Nat) : (F.RCH_JD_CTL_SLIP_ERASE k).window = .rchRegs := window_rch (by simp only [F.RCH_JD_CTL_SLIP_ERASE, F.rchBase]; omega) (by simp only [F.RCH_JD_CTL_SLIP_ERASE, F.rchBase]; omega)
@[simp] theorem F.RCH_JD_STAT_MODE_window (k : Nat) : (F.RCH_JD_STAT_MODE k).window = .rchRegs := window_rch (by simp only [F.RCH_JD_STAT_MODE, F.rchBase]; omega) (by simp only [F.RCH_JD_STAT_MODE, F.rchBase]; omega)
@[simp] theorem F.RCH_JD_STAT_UNBOUND_window (k : Nat) : (F.RCH_JD_STAT_UNBOUND k).window = .rchRegs := window_rch (by simp only [F.RCH_JD_STAT_UNBOUND, F.rchBase]; omega) (by simp only [F.RCH_JD_STAT_UNBOUND, F.rchBase]; omega)
@[simp] theorem F.RCH_JD_KAPPA_I_INNER_window (k : Nat) : (F.RCH_JD_KAPPA_I_INNER k).window = .rchRegs := window_rch (by simp only [F.RCH_JD_KAPPA_I_INNER, F.rchBase]; omega) (by simp only [F.RCH_JD_KAPPA_I_INNER, F.rchBase]; omega)
@[simp] theorem F.RCH_JD_KAPPA_I_OUTER_window (k : Nat) : (F.RCH_JD_KAPPA_I_OUTER k).window = .rchRegs := window_rch (by simp only [F.RCH_JD_KAPPA_I_OUTER, F.rchBase]; omega) (by simp only [F.RCH_JD_KAPPA_I_OUTER, F.rchBase]; omega)
@[simp] theorem F.RCH_JD_KAPPA_C_INNER_window (k : Nat) : (F.RCH_JD_KAPPA_C_INNER k).window = .rchRegs := window_rch (by simp only [F.RCH_JD_KAPPA_C_INNER, F.rchBase]; omega) (by simp only [F.RCH_JD_KAPPA_C_INNER, F.rchBase]; omega)
@[simp] theorem F.RCH_JD_KAPPA_C_OUTER_window (k : Nat) : (F.RCH_JD_KAPPA_C_OUTER k).window = .rchRegs := window_rch (by simp only [F.RCH_JD_KAPPA_C_OUTER, F.rchBase]; omega) (by simp only [F.RCH_JD_KAPPA_C_OUTER, F.rchBase]; omega)
@[simp] theorem F.RCH_JD_KAPPA_O_INNER_window (k : Nat) : (F.RCH_JD_KAPPA_O_INNER k).window = .rchRegs := window_rch (by simp only [F.RCH_JD_KAPPA_O_INNER, F.rchBase]; omega) (by simp only [F.RCH_JD_KAPPA_O_INNER, F.rchBase]; omega)
@[simp] theorem F.RCH_JD_KAPPA_O_OUTER_window (k : Nat) : (F.RCH_JD_KAPPA_O_OUTER k).window = .rchRegs := window_rch (by simp only [F.RCH_JD_KAPPA_O_OUTER, F.rchBase]; omega) (by simp only [F.RCH_JD_KAPPA_O_OUTER, F.rchBase]; omega)
@[simp] theorem F.RCH_JD_PROV_FAIL_CNT_CNT_window (k : Nat) : (F.RCH_JD_PROV_FAIL_CNT_CNT k).window = .rchRegs := window_rch (by simp only [F.RCH_JD_PROV_FAIL_CNT_CNT, F.rchBase]; omega) (by simp only [F.RCH_JD_PROV_FAIL_CNT_CNT, F.rchBase]; omega)
@[simp] theorem F.RCH_JD_REDEC_OK_CNT_CNT_window (k : Nat) : (F.RCH_JD_REDEC_OK_CNT_CNT k).window = .rchRegs := window_rch (by simp only [F.RCH_JD_REDEC_OK_CNT_CNT, F.rchBase]; omega) (by simp only [F.RCH_JD_REDEC_OK_CNT_CNT, F.rchBase]; omega)
@[simp] theorem F.RCH_JD_STALL_CNT_CNT_window (k : Nat) : (F.RCH_JD_STALL_CNT_CNT k).window = .rchRegs := window_rch (by simp only [F.RCH_JD_STALL_CNT_CNT, F.rchBase]; omega) (by simp only [F.RCH_JD_STALL_CNT_CNT, F.rchBase]; omega)
@[simp] theorem F.RCH_LANE_BIND_ENABLE_window (n : Nat) : (F.RCH_LANE_BIND_ENABLE n).window = .lanRegs := window_lan (by simp only [F.RCH_LANE_BIND_ENABLE, F.laneBase]; omega) (by simp only [F.RCH_LANE_BIND_ENABLE, F.laneBase]; omega)
@[simp] theorem F.RCH_LANE_BIND_INPUT_window (n : Nat) : (F.RCH_LANE_BIND_INPUT n).window = .lanRegs := window_lan (by simp only [F.RCH_LANE_BIND_INPUT, F.laneBase]; omega) (by simp only [F.RCH_LANE_BIND_INPUT, F.laneBase]; omega)
@[simp] theorem F.RCH_LANE_STAT_STATE_window (n : Nat) : (F.RCH_LANE_STAT_STATE n).window = .lanRegs := window_lan (by simp only [F.RCH_LANE_STAT_STATE, F.laneBase]; omega) (by simp only [F.RCH_LANE_STAT_STATE, F.laneBase]; omega)
@[simp] theorem F.RCH_LANE_STAT_FAILED_window (n : Nat) : (F.RCH_LANE_STAT_FAILED n).window = .lanRegs := window_lan (by simp only [F.RCH_LANE_STAT_FAILED, F.laneBase]; omega) (by simp only [F.RCH_LANE_STAT_FAILED, F.laneBase]; omega)
@[simp] theorem F.RCH_LANE_STAT_CAUSE_window (n : Nat) : (F.RCH_LANE_STAT_CAUSE n).window = .lanRegs := window_lan (by simp only [F.RCH_LANE_STAT_CAUSE, F.laneBase]; omega) (by simp only [F.RCH_LANE_STAT_CAUSE, F.laneBase]; omega)
@[simp] theorem F.RCH_LANE_STAT_TRIAL_window (n : Nat) : (F.RCH_LANE_STAT_TRIAL n).window = .lanRegs := window_lan (by simp only [F.RCH_LANE_STAT_TRIAL, F.laneBase]; omega) (by simp only [F.RCH_LANE_STAT_TRIAL, F.laneBase]; omega)
@[simp] theorem F.RCH_LANE_STAT_TIMING_LIMIT_window (n : Nat) : (F.RCH_LANE_STAT_TIMING_LIMIT n).window = .lanRegs := window_lan (by simp only [F.RCH_LANE_STAT_TIMING_LIMIT, F.laneBase]; omega) (by simp only [F.RCH_LANE_STAT_TIMING_LIMIT, F.laneBase]; omega)
@[simp] theorem F.RCH_LANE_STAT_CFG_REJECT_window (n : Nat) : (F.RCH_LANE_STAT_CFG_REJECT n).window = .lanRegs := window_lan (by simp only [F.RCH_LANE_STAT_CFG_REJECT, F.laneBase]; omega) (by simp only [F.RCH_LANE_STAT_CFG_REJECT, F.laneBase]; omega)
@[simp] theorem F.RCH_LANE_STAT_LAST_SCORE_window (n : Nat) : (F.RCH_LANE_STAT_LAST_SCORE n).window = .lanRegs := window_lan (by simp only [F.RCH_LANE_STAT_LAST_SCORE, F.laneBase]; omega) (by simp only [F.RCH_LANE_STAT_LAST_SCORE, F.laneBase]; omega)
@[simp] theorem F.RCH_LANE_EQ_GAMMA_window (n : Nat) : (F.RCH_LANE_EQ_GAMMA n).window = .lanRegs := window_lan (by simp only [F.RCH_LANE_EQ_GAMMA, F.laneBase]; omega) (by simp only [F.RCH_LANE_EQ_GAMMA, F.laneBase]; omega)
@[simp] theorem F.RCH_LANE_EQ_MU_window (n : Nat) : (F.RCH_LANE_EQ_MU n).window = .lanRegs := window_lan (by simp only [F.RCH_LANE_EQ_MU, F.laneBase]; omega) (by simp only [F.RCH_LANE_EQ_MU, F.laneBase]; omega)
@[simp] theorem F.RCH_LANE_EQ_ADAPT_HOLD_window (n : Nat) : (F.RCH_LANE_EQ_ADAPT_HOLD n).window = .lanRegs := window_lan (by simp only [F.RCH_LANE_EQ_ADAPT_HOLD, F.laneBase]; omega) (by simp only [F.RCH_LANE_EQ_ADAPT_HOLD, F.laneBase]; omega)
@[simp] theorem F.RCH_LANE_TIMING_KP_ACQ_window (n : Nat) : (F.RCH_LANE_TIMING_KP_ACQ n).window = .lanRegs := window_lan (by simp only [F.RCH_LANE_TIMING_KP_ACQ, F.laneBase]; omega) (by simp only [F.RCH_LANE_TIMING_KP_ACQ, F.laneBase]; omega)
@[simp] theorem F.RCH_LANE_TIMING_KP_TRK_window (n : Nat) : (F.RCH_LANE_TIMING_KP_TRK n).window = .lanRegs := window_lan (by simp only [F.RCH_LANE_TIMING_KP_TRK, F.laneBase]; omega) (by simp only [F.RCH_LANE_TIMING_KP_TRK, F.laneBase]; omega)
@[simp] theorem F.RCH_LANE_TIMING_KI_window (n : Nat) : (F.RCH_LANE_TIMING_KI n).window = .lanRegs := window_lan (by simp only [F.RCH_LANE_TIMING_KI, F.laneBase]; omega) (by simp only [F.RCH_LANE_TIMING_KI, F.laneBase]; omega)
@[simp] theorem F.RCH_LANE_FREQ_FREQ_window (n : Nat) : (F.RCH_LANE_FREQ_FREQ n).window = .lanRegs := window_lan (by simp only [F.RCH_LANE_FREQ_FREQ, F.laneBase]; omega) (by simp only [F.RCH_LANE_FREQ_FREQ, F.laneBase]; omega)
@[simp] theorem F.RCH_LANE_TAPS_EVEN_window (n : Nat) (i : Nat) : (F.RCH_LANE_TAPS_EVEN n i).window = .lanRegs := window_lan (by simp only [F.RCH_LANE_TAPS_EVEN, F.laneBase]; omega) (by simp only [F.RCH_LANE_TAPS_EVEN, F.laneBase]; omega)
@[simp] theorem F.RCH_LANE_TAPS_ODD_window (n : Nat) (i : Nat) : (F.RCH_LANE_TAPS_ODD n i).window = .lanRegs := window_lan (by simp only [F.RCH_LANE_TAPS_ODD, F.laneBase]; omega) (by simp only [F.RCH_LANE_TAPS_ODD, F.laneBase]; omega)
@[simp] theorem F.RCH_POOL_FREE_0_MASK_window : F.RCH_POOL_FREE_0_MASK.window = .lanRegs := rfl
@[simp] theorem F.RCH_POOL_FREE_1_MASK_window : F.RCH_POOL_FREE_1_MASK.window = .lanRegs := rfl
@[simp] theorem F.RCH_POOL_FAILED_0_MASK_window : F.RCH_POOL_FAILED_0_MASK.window = .lanRegs := rfl
@[simp] theorem F.RCH_POOL_FAILED_1_MASK_window : F.RCH_POOL_FAILED_1_MASK.window = .lanRegs := rfl
@[simp] theorem F.RCH_TAKEOVER_CNT_CNT_window : F.RCH_TAKEOVER_CNT_CNT.window = .lanRegs := rfl
@[simp] theorem F.LDP_CTL_ENABLE_window : F.LDP_CTL_ENABLE.window = .ldpRegs := rfl
@[simp] theorem F.LDP_CTL_GLOBAL_MAX_window : F.LDP_CTL_GLOBAL_MAX.window = .ldpRegs := rfl
@[simp] theorem F.LDP_CTL_LOCAL_1_window : F.LDP_CTL_LOCAL_1.window = .ldpRegs := rfl
@[simp] theorem F.LDP_CTL_LOCAL_2_window : F.LDP_CTL_LOCAL_2.window = .ldpRegs := rfl
@[simp] theorem F.LDP_CTL_LOCAL_3_window : F.LDP_CTL_LOCAL_3.window = .ldpRegs := rfl
@[simp] theorem F.LDP_CTL_DEEP_LOCAL_window : F.LDP_CTL_DEEP_LOCAL.window = .ldpRegs := rfl
@[simp] theorem F.LDP_CTL_DEEP_GLOBAL_window : F.LDP_CTL_DEEP_GLOBAL.window = .ldpRegs := rfl
@[simp] theorem F.LDP_LADDER_MAX_0_window : F.LDP_LADDER_MAX_0.window = .ldpRegs := rfl
@[simp] theorem F.LDP_LADDER_MAX_1_window : F.LDP_LADDER_MAX_1.window = .ldpRegs := rfl
@[simp] theorem F.LDP_LADDER_MAX_2_window : F.LDP_LADDER_MAX_2.window = .ldpRegs := rfl
@[simp] theorem F.LDP_LADDER_MAX_3_window : F.LDP_LADDER_MAX_3.window = .ldpRegs := rfl
@[simp] theorem F.LDP_LADDER_MARGIN_REVS_window : F.LDP_LADDER_MARGIN_REVS.window = .ldpRegs := rfl
@[simp] theorem F.LDP_LADDER_SALVAGE_THR_window : F.LDP_LADDER_SALVAGE_THR.window = .ldpRegs := rfl
@[simp] theorem F.LDP_STAT_DEC_FAILED_window : F.LDP_STAT_DEC_FAILED.window = .ldpRegs := rfl
@[simp] theorem F.LDP_STAT_OUTER_FAILED_window : F.LDP_STAT_OUTER_FAILED.window = .ldpRegs := rfl
@[simp] theorem F.LDP_STAT_STALL_window : F.LDP_STAT_STALL.window = .ldpRegs := rfl
@[simp] theorem F.LDP_STAT_CFG_REJECT_window : F.LDP_STAT_CFG_REJECT.window = .ldpRegs := rfl
@[simp] theorem F.LDP_LOAD_LOAD_window : F.LDP_LOAD_LOAD.window = .ldpRegs := rfl
@[simp] theorem F.LDP_CW_CNT_CNT_window : F.LDP_CW_CNT_CNT.window = .ldpRegs := rfl
@[simp] theorem F.LDP_ITER_CNT_CNT_window : F.LDP_ITER_CNT_CNT.window = .ldpRegs := rfl
@[simp] theorem F.LDP_OUTER_CNT_CNT_window : F.LDP_OUTER_CNT_CNT.window = .ldpRegs := rfl
@[simp] theorem F.LDP_POISON_CNT_CNT_window : F.LDP_POISON_CNT_CNT.window = .ldpRegs := rfl
@[simp] theorem F.LDP_RUNG_CNT_CNT_window (n : Nat) : (F.LDP_RUNG_CNT_CNT n).window = .ldpRegs := window_ldp (by simp only [F.LDP_RUNG_CNT_CNT, F.ldpBase]; omega) (by simp only [F.LDP_RUNG_CNT_CNT, F.ldpBase]; omega)
@[simp] theorem F.WRP_CTL_ENABLE_window (k : Nat) : (F.WRP_CTL_ENABLE k).window = .wrpRegs := window_wrp (by simp only [F.WRP_CTL_ENABLE, F.wrpBase]; omega) (by simp only [F.WRP_CTL_ENABLE, F.wrpBase]; omega)
@[simp] theorem F.WRP_CTL_COOL_EN_window (k : Nat) : (F.WRP_CTL_COOL_EN k).window = .wrpRegs := window_wrp (by simp only [F.WRP_CTL_COOL_EN, F.wrpBase]; omega) (by simp only [F.WRP_CTL_COOL_EN, F.wrpBase]; omega)
@[simp] theorem F.WRP_CTL_WR_HOLD_window (k : Nat) : (F.WRP_CTL_WR_HOLD k).window = .wrpRegs := window_wrp (by simp only [F.WRP_CTL_WR_HOLD, F.wrpBase]; omega) (by simp only [F.WRP_CTL_WR_HOLD, F.wrpBase]; omega)
@[simp] theorem F.WRP_STAT_STATE_window (k : Nat) : (F.WRP_STAT_STATE k).window = .wrpRegs := window_wrp (by simp only [F.WRP_STAT_STATE, F.wrpBase]; omega) (by simp only [F.WRP_STAT_STATE, F.wrpBase]; omega)
@[simp] theorem F.WRP_STAT_RAW_BURST_window (k : Nat) : (F.WRP_STAT_RAW_BURST k).window = .wrpRegs := window_wrp (by simp only [F.WRP_STAT_RAW_BURST, F.wrpBase]; omega) (by simp only [F.WRP_STAT_RAW_BURST, F.wrpBase]; omega)
@[simp] theorem F.WRP_STAT_WR_DISABLED_window (k : Nat) : (F.WRP_STAT_WR_DISABLED k).window = .wrpRegs := window_wrp (by simp only [F.WRP_STAT_WR_DISABLED, F.wrpBase]; omega) (by simp only [F.WRP_STAT_WR_DISABLED, F.wrpBase]; omega)
@[simp] theorem F.WRP_STAT_CFG_REJECT_window (k : Nat) : (F.WRP_STAT_CFG_REJECT k).window = .wrpRegs := window_wrp (by simp only [F.WRP_STAT_CFG_REJECT, F.wrpBase]; omega) (by simp only [F.WRP_STAT_CFG_REJECT, F.wrpBase]; omega)
@[simp] theorem F.WRP_WSL_CTL_TRAIN_window (k : Nat) : (F.WRP_WSL_CTL_TRAIN k).window = .wrpRegs := window_wrp (by simp only [F.WRP_WSL_CTL_TRAIN, F.wrpBase]; omega) (by simp only [F.WRP_WSL_CTL_TRAIN, F.wrpBase]; omega)
@[simp] theorem F.WRP_WSL_CTL_LAT_window (k : Nat) : (F.WRP_WSL_CTL_LAT k).window = .wrpRegs := window_wrp (by simp only [F.WRP_WSL_CTL_LAT, F.wrpBase]; omega) (by simp only [F.WRP_WSL_CTL_LAT, F.wrpBase]; omega)
@[simp] theorem F.WRP_WSL_CTL_SWAP_window (k : Nat) : (F.WRP_WSL_CTL_SWAP k).window = .wrpRegs := window_wrp (by simp only [F.WRP_WSL_CTL_SWAP, F.wrpBase]; omega) (by simp only [F.WRP_WSL_CTL_SWAP, F.wrpBase]; omega)
@[simp] theorem F.WRP_WSL_CTL_INV_0_window (k : Nat) : (F.WRP_WSL_CTL_INV_0 k).window = .wrpRegs := window_wrp (by simp only [F.WRP_WSL_CTL_INV_0, F.wrpBase]; omega) (by simp only [F.WRP_WSL_CTL_INV_0, F.wrpBase]; omega)
@[simp] theorem F.WRP_WSL_CTL_INV_1_window (k : Nat) : (F.WRP_WSL_CTL_INV_1 k).window = .wrpRegs := window_wrp (by simp only [F.WRP_WSL_CTL_INV_1, F.wrpBase]; omega) (by simp only [F.WRP_WSL_CTL_INV_1, F.wrpBase]; omega)
@[simp] theorem F.WRP_WSL_CTL_CLK_INV_window (k : Nat) : (F.WRP_WSL_CTL_CLK_INV k).window = .wrpRegs := window_wrp (by simp only [F.WRP_WSL_CTL_CLK_INV, F.wrpBase]; omega) (by simp only [F.WRP_WSL_CTL_CLK_INV, F.wrpBase]; omega)
@[simp] theorem F.WRP_WSL_STAT_RESULT_window (k : Nat) : (F.WRP_WSL_STAT_RESULT k).window = .wrpRegs := window_wrp (by simp only [F.WRP_WSL_STAT_RESULT, F.wrpBase]; omega) (by simp only [F.WRP_WSL_STAT_RESULT, F.wrpBase]; omega)
@[simp] theorem F.WRP_WSL_STAT_OBS_window (k : Nat) : (F.WRP_WSL_STAT_OBS k).window = .wrpRegs := window_wrp (by simp only [F.WRP_WSL_STAT_OBS, F.wrpBase]; omega) (by simp only [F.WRP_WSL_STAT_OBS, F.wrpBase]; omega)
@[simp] theorem F.WRP_WSL_STAT_DUTY_window (k : Nat) : (F.WRP_WSL_STAT_DUTY k).window = .wrpRegs := window_wrp (by simp only [F.WRP_WSL_STAT_DUTY, F.wrpBase]; omega) (by simp only [F.WRP_WSL_STAT_DUTY, F.wrpBase]; omega)
@[simp] theorem F.WRP_RAW_CTL_PASS_MAX_window (k : Nat) : (F.WRP_RAW_CTL_PASS_MAX k).window = .wrpRegs := window_wrp (by simp only [F.WRP_RAW_CTL_PASS_MAX, F.wrpBase]; omega) (by simp only [F.WRP_RAW_CTL_PASS_MAX, F.wrpBase]; omega)
@[simp] theorem F.WRP_RAW_CTL_RELOC_MAX_window (k : Nat) : (F.WRP_RAW_CTL_RELOC_MAX k).window = .wrpRegs := window_wrp (by simp only [F.WRP_RAW_CTL_RELOC_MAX, F.wrpBase]; omega) (by simp only [F.WRP_RAW_CTL_RELOC_MAX, F.wrpBase]; omega)
@[simp] theorem F.WRP_RAW_CTL_BURST_LIM_window (k : Nat) : (F.WRP_RAW_CTL_BURST_LIM k).window = .wrpRegs := window_wrp (by simp only [F.WRP_RAW_CTL_BURST_LIM, F.wrpBase]; omega) (by simp only [F.WRP_RAW_CTL_BURST_LIM, F.wrpBase]; omega)
@[simp] theorem F.WRP_RAW_CTL_NORM_DLY_window (k : Nat) : (F.WRP_RAW_CTL_NORM_DLY k).window = .wrpRegs := window_wrp (by simp only [F.WRP_RAW_CTL_NORM_DLY, F.wrpBase]; omega) (by simp only [F.WRP_RAW_CTL_NORM_DLY, F.wrpBase]; omega)
@[simp] theorem F.WRP_WR_TIMING_OFFSET_window (k : Nat) : (F.WRP_WR_TIMING_OFFSET k).window = .wrpRegs := window_wrp (by simp only [F.WRP_WR_TIMING_OFFSET, F.wrpBase]; omega) (by simp only [F.WRP_WR_TIMING_OFFSET, F.wrpBase]; omega)
@[simp] theorem F.WRP_RAW_LAST_WEIGHT_window (k : Nat) : (F.WRP_RAW_LAST_WEIGHT k).window = .wrpRegs := window_wrp (by simp only [F.WRP_RAW_LAST_WEIGHT, F.wrpBase]; omega) (by simp only [F.WRP_RAW_LAST_WEIGHT, F.wrpBase]; omega)
@[simp] theorem F.WRP_RAW_LAST_PASS_window (k : Nat) : (F.WRP_RAW_LAST_PASS k).window = .wrpRegs := window_wrp (by simp only [F.WRP_RAW_LAST_PASS, F.wrpBase]; omega) (by simp only [F.WRP_RAW_LAST_PASS, F.wrpBase]; omega)
@[simp] theorem F.WRP_RAW_LAST_SYNC_MISSED_window (k : Nat) : (F.WRP_RAW_LAST_SYNC_MISSED k).window = .wrpRegs := window_wrp (by simp only [F.WRP_RAW_LAST_SYNC_MISSED, F.wrpBase]; omega) (by simp only [F.WRP_RAW_LAST_SYNC_MISSED, F.wrpBase]; omega)
@[simp] theorem F.WRP_RAW_LAST_TIMING_LIMIT_window (k : Nat) : (F.WRP_RAW_LAST_TIMING_LIMIT k).window = .wrpRegs := window_wrp (by simp only [F.WRP_RAW_LAST_TIMING_LIMIT, F.wrpBase]; omega) (by simp only [F.WRP_RAW_LAST_TIMING_LIMIT, F.wrpBase]; omega)
@[simp] theorem F.WRP_RAW_LAST_SECTOR_window (k : Nat) : (F.WRP_RAW_LAST_SECTOR k).window = .wrpRegs := window_wrp (by simp only [F.WRP_RAW_LAST_SECTOR, F.wrpBase]; omega) (by simp only [F.WRP_RAW_LAST_SECTOR, F.wrpBase]; omega)
@[simp] theorem F.WRP_RAW_PASS_CNT_CNT_window (k : Nat) : (F.WRP_RAW_PASS_CNT_CNT k).window = .wrpRegs := window_wrp (by simp only [F.WRP_RAW_PASS_CNT_CNT, F.wrpBase]; omega) (by simp only [F.WRP_RAW_PASS_CNT_CNT, F.wrpBase]; omega)
@[simp] theorem F.WRP_RAW_FAIL_CNT_CNT_window (k : Nat) : (F.WRP_RAW_FAIL_CNT_CNT k).window = .wrpRegs := window_wrp (by simp only [F.WRP_RAW_FAIL_CNT_CNT, F.wrpBase]; omega) (by simp only [F.WRP_RAW_FAIL_CNT_CNT, F.wrpBase]; omega)
@[simp] theorem F.WRP_ENERGY_UJ_window (k : Nat) : (F.WRP_ENERGY_UJ k).window = .wrpRegs := window_wrp (by simp only [F.WRP_ENERGY_UJ, F.wrpBase]; omega) (by simp only [F.WRP_ENERGY_UJ, F.wrpBase]; omega)
@[simp] theorem F.WRP_RELOC_CNT_CNT_window (k : Nat) : (F.WRP_RELOC_CNT_CNT k).window = .wrpRegs := window_wrp (by simp only [F.WRP_RELOC_CNT_CNT, F.wrpBase]; omega) (by simp only [F.WRP_RELOC_CNT_CNT, F.wrpBase]; omega)
@[simp] theorem F.WRP_SUSPEND_CNT_CNT_window (k : Nat) : (F.WRP_SUSPEND_CNT_CNT k).window = .wrpRegs := window_wrp (by simp only [F.WRP_SUSPEND_CNT_CNT, F.wrpBase]; omega) (by simp only [F.WRP_SUSPEND_CNT_CNT, F.wrpBase]; omega)
@[simp] theorem F.WRP_RAW_ASYM_ASYM_window (k : Nat) : (F.WRP_RAW_ASYM_ASYM k).window = .wrpRegs := window_wrp (by simp only [F.WRP_RAW_ASYM_ASYM, F.wrpBase]; omega) (by simp only [F.WRP_RAW_ASYM_ASYM, F.wrpBase]; omega)
@[simp] theorem F.WRP_LVL_A_SPACE_window (k : Nat) (l : Nat) : (F.WRP_LVL_A_SPACE k l).window = .wrpRegs := window_wrp (by simp only [F.WRP_LVL_A_SPACE, F.wrpBase]; omega) (by simp only [F.WRP_LVL_A_SPACE, F.wrpBase]; omega)
@[simp] theorem F.WRP_LVL_A_MARK_window (k : Nat) (l : Nat) : (F.WRP_LVL_A_MARK k l).window = .wrpRegs := window_wrp (by simp only [F.WRP_LVL_A_MARK, F.wrpBase]; omega) (by simp only [F.WRP_LVL_A_MARK, F.wrpBase]; omega)
@[simp] theorem F.WRP_LVL_B_COOL_window (k : Nat) (l : Nat) : (F.WRP_LVL_B_COOL k l).window = .wrpRegs := window_wrp (by simp only [F.WRP_LVL_B_COOL, F.wrpBase]; omega) (by simp only [F.WRP_LVL_B_COOL, F.wrpBase]; omega)
@[simp] theorem F.WRP_LVL_B_MEAN_window (k : Nat) (l : Nat) : (F.WRP_LVL_B_MEAN k l).window = .wrpRegs := window_wrp (by simp only [F.WRP_LVL_B_MEAN, F.wrpBase]; omega) (by simp only [F.WRP_LVL_B_MEAN, F.wrpBase]; omega)
@[simp] theorem F.WRP_STRAT_LEAD_LEAD_window (k : Nat) (l : Nat) : (F.WRP_STRAT_LEAD_LEAD k l).window = .wrpRegs := window_wrp (by simp only [F.WRP_STRAT_LEAD_LEAD, F.wrpBase]; omega) (by simp only [F.WRP_STRAT_LEAD_LEAD, F.wrpBase]; omega)
@[simp] theorem F.WRP_STRAT_TRAIL_TRAIL_window (k : Nat) (l : Nat) : (F.WRP_STRAT_TRAIL_TRAIL k l).window = .wrpRegs := window_wrp (by simp only [F.WRP_STRAT_TRAIL_TRAIL, F.wrpBase]; omega) (by simp only [F.WRP_STRAT_TRAIL_TRAIL, F.wrpBase]; omega)
@[simp] theorem F.CAL_CTL_ENABLE_window : F.CAL_CTL_ENABLE.window = .calRegs := rfl
@[simp] theorem F.CAL_CTL_REPEAT_MAX_window : F.CAL_CTL_REPEAT_MAX.window = .calRegs := rfl
@[simp] theorem F.CAL_CTL_PERIOD_window : F.CAL_CTL_PERIOD.window = .calRegs := rfl
@[simp] theorem F.CAL_STAT_KIND_window : F.CAL_STAT_KIND.window = .calRegs := rfl
@[simp] theorem F.CAL_STAT_BUSY_window : F.CAL_STAT_BUSY.window = .calRegs := rfl
@[simp] theorem F.CAL_STAT_CFG_REJECT_window : F.CAL_STAT_CFG_REJECT.window = .calRegs := rfl
@[simp] theorem F.CAL_SPEED_DOWN_window : F.CAL_SPEED_DOWN.window = .calRegs := rfl
@[simp] theorem F.CAL_SPEED_UP_window : F.CAL_SPEED_UP.window = .calRegs := rfl
@[simp] theorem F.CAL_SPEED_UP_WINDOWS_window : F.CAL_SPEED_UP_WINDOWS.window = .calRegs := rfl
@[simp] theorem F.CAL_ADAPT_STAT_SPEED_CLAMP_window : F.CAL_ADAPT_STAT_SPEED_CLAMP.window = .calRegs := rfl
@[simp] theorem F.CAL_ADAPT_STAT_WRPWR_CLAMP_window : F.CAL_ADAPT_STAT_WRPWR_CLAMP.window = .calRegs := rfl
@[simp] theorem F.CAL_ADAPT_STAT_SPEED_PIN_window : F.CAL_ADAPT_STAT_SPEED_PIN.window = .calRegs := rfl
@[simp] theorem F.CAL_ADAPT_STAT_WRPWR_PIN_window : F.CAL_ADAPT_STAT_WRPWR_PIN.window = .calRegs := rfl
@[simp] theorem F.CAL_THERM_LEVEL_window : F.CAL_THERM_LEVEL.window = .calRegs := rfl
@[simp] theorem F.CAL_THERM_TEMP_window : F.CAL_THERM_TEMP.window = .calRegs := rfl
@[simp] theorem F.CAL_LSEG_MASK_window (k : Nat) : (F.CAL_LSEG_MASK k).window = .calRegs := window_cal (by simp only [F.CAL_LSEG_MASK, F.calBase]; omega) (by simp only [F.CAL_LSEG_MASK, F.calBase]; omega)
@[simp] theorem F.CAL_CNT_CNT_window (n : Nat) : (F.CAL_CNT_CNT n).window = .calRegs := window_cal (by simp only [F.CAL_CNT_CNT, F.calBase]; omega) (by simp only [F.CAL_CNT_CNT, F.calBase]; omega)
@[simp] theorem F.CAL_FAIL_CNT_CNT_window (n : Nat) : (F.CAL_FAIL_CNT_CNT n).window = .calRegs := window_cal (by simp only [F.CAL_FAIL_CNT_CNT, F.calBase]; omega) (by simp only [F.CAL_FAIL_CNT_CNT, F.calBase]; omega)
@[simp] theorem F.CAL_LAST_TIME_window (n : Nat) : (F.CAL_LAST_TIME n).window = .calRegs := window_cal (by simp only [F.CAL_LAST_TIME, F.calBase]; omega) (by simp only [F.CAL_LAST_TIME, F.calBase]; omega)
@[simp] theorem F.CAL_LAST_ELEM_ELEMENT_window (n : Nat) : (F.CAL_LAST_ELEM_ELEMENT n).window = .calRegs := window_cal (by simp only [F.CAL_LAST_ELEM_ELEMENT, F.calBase]; omega) (by simp only [F.CAL_LAST_ELEM_ELEMENT, F.calBase]; omega)
@[simp] theorem F.CAL_LAST_ELEM_RESULT_window (n : Nat) : (F.CAL_LAST_ELEM_RESULT n).window = .calRegs := window_cal (by simp only [F.CAL_LAST_ELEM_RESULT, F.calBase]; omega) (by simp only [F.CAL_LAST_ELEM_RESULT, F.calBase]; omega)
@[simp] theorem F.BAY_STAT_STATE_window (b : Nat) : (F.BAY_STAT_STATE b).window = .bayRegs := window_bay (by simp only [F.BAY_STAT_STATE, F.bayBase]; omega) (by simp only [F.BAY_STAT_STATE, F.bayBase]; omega) (by simp only [F.BAY_STAT_STATE, F.bayBase]; omega)
@[simp] theorem F.BAY_STAT_HELD_window (b : Nat) : (F.BAY_STAT_HELD b).window = .bayRegs := window_bay (by simp only [F.BAY_STAT_HELD, F.bayBase]; omega) (by simp only [F.BAY_STAT_HELD, F.bayBase]; omega) (by simp only [F.BAY_STAT_HELD, F.bayBase]; omega)
@[simp] theorem F.BAY_STAT_MOUNTED_window (b : Nat) : (F.BAY_STAT_MOUNTED b).window = .bayRegs := window_bay (by simp only [F.BAY_STAT_MOUNTED, F.bayBase]; omega) (by simp only [F.BAY_STAT_MOUNTED, F.bayBase]; omega) (by simp only [F.BAY_STAT_MOUNTED, F.bayBase]; omega)
@[simp] theorem F.BAY_STAT_ATTACHED_window (b : Nat) : (F.BAY_STAT_ATTACHED b).window = .bayRegs := window_bay (by simp only [F.BAY_STAT_ATTACHED, F.bayBase]; omega) (by simp only [F.BAY_STAT_ATTACHED, F.bayBase]; omega) (by simp only [F.BAY_STAT_ATTACHED, F.bayBase]; omega)
@[simp] theorem F.BAY_STAT_SPEED_window (b : Nat) : (F.BAY_STAT_SPEED b).window = .bayRegs := window_bay (by simp only [F.BAY_STAT_SPEED, F.bayBase]; omega) (by simp only [F.BAY_STAT_SPEED, F.bayBase]; omega) (by simp only [F.BAY_STAT_SPEED, F.bayBase]; omega)
@[simp] theorem F.BAY_STAT_DISC_PRESENT_window (b : Nat) : (F.BAY_STAT_DISC_PRESENT b).window = .bayRegs := window_bay (by simp only [F.BAY_STAT_DISC_PRESENT, F.bayBase]; omega) (by simp only [F.BAY_STAT_DISC_PRESENT, F.bayBase]; omega) (by simp only [F.BAY_STAT_DISC_PRESENT, F.bayBase]; omega)
@[simp] theorem F.BAY_STAT_TRAY_CLOSED_window (b : Nat) : (F.BAY_STAT_TRAY_CLOSED b).window = .bayRegs := window_bay (by simp only [F.BAY_STAT_TRAY_CLOSED, F.bayBase]; omega) (by simp only [F.BAY_STAT_TRAY_CLOSED, F.bayBase]; omega) (by simp only [F.BAY_STAT_TRAY_CLOSED, F.bayBase]; omega)
@[simp] theorem F.BAY_STAT_CLAMPED_window (b : Nat) : (F.BAY_STAT_CLAMPED b).window = .bayRegs := window_bay (by simp only [F.BAY_STAT_CLAMPED, F.bayBase]; omega) (by simp only [F.BAY_STAT_CLAMPED, F.bayBase]; omega) (by simp only [F.BAY_STAT_CLAMPED, F.bayBase]; omega)
@[simp] theorem F.BAY_STAT_DOOR_CLOSED_window (b : Nat) : (F.BAY_STAT_DOOR_CLOSED b).window = .bayRegs := window_bay (by simp only [F.BAY_STAT_DOOR_CLOSED, F.bayBase]; omega) (by simp only [F.BAY_STAT_DOOR_CLOSED, F.bayBase]; omega) (by simp only [F.BAY_STAT_DOOR_CLOSED, F.bayBase]; omega)
@[simp] theorem F.BAY_STAT_UNAVAILABLE_window (b : Nat) : (F.BAY_STAT_UNAVAILABLE b).window = .bayRegs := window_bay (by simp only [F.BAY_STAT_UNAVAILABLE, F.bayBase]; omega) (by simp only [F.BAY_STAT_UNAVAILABLE, F.bayBase]; omega) (by simp only [F.BAY_STAT_UNAVAILABLE, F.bayBase]; omega)
@[simp] theorem F.BAY_OPT_CMD_CMD_window (o : Nat) : (F.BAY_OPT_CMD_CMD o).window = .optRegs := window_opt (by simp only [F.BAY_OPT_CMD_CMD, F.optBase]; omega) (by simp only [F.BAY_OPT_CMD_CMD, F.optBase]; omega) (by simp only [F.BAY_OPT_CMD_CMD, F.optBase]; omega)
@[simp] theorem F.BAY_OPT_CMD_LAYER_window (o : Nat) : (F.BAY_OPT_CMD_LAYER o).window = .optRegs := window_opt (by simp only [F.BAY_OPT_CMD_LAYER, F.optBase]; omega) (by simp only [F.BAY_OPT_CMD_LAYER, F.optBase]; omega) (by simp only [F.BAY_OPT_CMD_LAYER, F.optBase]; omega)
@[simp] theorem F.BAY_OPT_CMD_AT_SPOKE_window (o : Nat) : (F.BAY_OPT_CMD_AT_SPOKE o).window = .optRegs := window_opt (by simp only [F.BAY_OPT_CMD_AT_SPOKE, F.optBase]; omega) (by simp only [F.BAY_OPT_CMD_AT_SPOKE, F.optBase]; omega) (by simp only [F.BAY_OPT_CMD_AT_SPOKE, F.optBase]; omega)
@[simp] theorem F.BAY_OPT_CMD_SPOKE_window (o : Nat) : (F.BAY_OPT_CMD_SPOKE o).window = .optRegs := window_opt (by simp only [F.BAY_OPT_CMD_SPOKE, F.optBase]; omega) (by simp only [F.BAY_OPT_CMD_SPOKE, F.optBase]; omega) (by simp only [F.BAY_OPT_CMD_SPOKE, F.optBase]; omega)
@[simp] theorem F.BAY_OPT_CMD_DIST_window (o : Nat) : (F.BAY_OPT_CMD_DIST o).window = .optRegs := window_opt (by simp only [F.BAY_OPT_CMD_DIST, F.optBase]; omega) (by simp only [F.BAY_OPT_CMD_DIST, F.optBase]; omega) (by simp only [F.BAY_OPT_CMD_DIST, F.optBase]; omega)
@[simp] theorem F.BAY_OPT_STAT_RESULT_window (o : Nat) : (F.BAY_OPT_STAT_RESULT o).window = .optRegs := window_opt (by simp only [F.BAY_OPT_STAT_RESULT, F.optBase]; omega) (by simp only [F.BAY_OPT_STAT_RESULT, F.optBase]; omega) (by simp only [F.BAY_OPT_STAT_RESULT, F.optBase]; omega)
@[simp] theorem F.BAY_OPT_STAT_LAYER_window (o : Nat) : (F.BAY_OPT_STAT_LAYER o).window = .optRegs := window_opt (by simp only [F.BAY_OPT_STAT_LAYER, F.optBase]; omega) (by simp only [F.BAY_OPT_STAT_LAYER, F.optBase]; omega) (by simp only [F.BAY_OPT_STAT_LAYER, F.optBase]; omega)
@[simp] theorem F.BAY_OPT_STAT_FOCUS_LOCKED_window (o : Nat) : (F.BAY_OPT_STAT_FOCUS_LOCKED o).window = .optRegs := window_opt (by simp only [F.BAY_OPT_STAT_FOCUS_LOCKED, F.optBase]; omega) (by simp only [F.BAY_OPT_STAT_FOCUS_LOCKED, F.optBase]; omega) (by simp only [F.BAY_OPT_STAT_FOCUS_LOCKED, F.optBase]; omega)
@[simp] theorem F.BAY_OPT_STAT_ON_TRACK_window (o : Nat) : (F.BAY_OPT_STAT_ON_TRACK o).window = .optRegs := window_opt (by simp only [F.BAY_OPT_STAT_ON_TRACK, F.optBase]; omega) (by simp only [F.BAY_OPT_STAT_ON_TRACK, F.optBase]; omega) (by simp only [F.BAY_OPT_STAT_ON_TRACK, F.optBase]; omega)
@[simp] theorem F.BAY_OPT_STAT_JUMP_window (o : Nat) : (F.BAY_OPT_STAT_JUMP o).window = .optRegs := window_opt (by simp only [F.BAY_OPT_STAT_JUMP, F.optBase]; omega) (by simp only [F.BAY_OPT_STAT_JUMP, F.optBase]; omega) (by simp only [F.BAY_OPT_STAT_JUMP, F.optBase]; omega)
@[simp] theorem F.BAY_OPT_STAT_LAYER_JUMP_window (o : Nat) : (F.BAY_OPT_STAT_LAYER_JUMP o).window = .optRegs := window_opt (by simp only [F.BAY_OPT_STAT_LAYER_JUMP, F.optBase]; omega) (by simp only [F.BAY_OPT_STAT_LAYER_JUMP, F.optBase]; omega) (by simp only [F.BAY_OPT_STAT_LAYER_JUMP, F.optBase]; omega)
@[simp] theorem F.BAY_OPT_STAT_PULL_IN_window (o : Nat) : (F.BAY_OPT_STAT_PULL_IN o).window = .optRegs := window_opt (by simp only [F.BAY_OPT_STAT_PULL_IN, F.optBase]; omega) (by simp only [F.BAY_OPT_STAT_PULL_IN, F.optBase]; omega) (by simp only [F.BAY_OPT_STAT_PULL_IN, F.optBase]; omega)
@[simp] theorem F.BAY_OPT_STAT_WRITTEN_window (o : Nat) : (F.BAY_OPT_STAT_WRITTEN o).window = .optRegs := window_opt (by simp only [F.BAY_OPT_STAT_WRITTEN, F.optBase]; omega) (by simp only [F.BAY_OPT_STAT_WRITTEN, F.optBase]; omega) (by simp only [F.BAY_OPT_STAT_WRITTEN, F.optBase]; omega)
@[simp] theorem F.BAY_OPT_STAT_LASER_TRIP_window (o : Nat) : (F.BAY_OPT_STAT_LASER_TRIP o).window = .optRegs := window_opt (by simp only [F.BAY_OPT_STAT_LASER_TRIP, F.optBase]; omega) (by simp only [F.BAY_OPT_STAT_LASER_TRIP, F.optBase]; omega) (by simp only [F.BAY_OPT_STAT_LASER_TRIP, F.optBase]; omega)
@[simp] theorem F.BAY_OPT_STAT_ACT_CLAMP_window (o : Nat) : (F.BAY_OPT_STAT_ACT_CLAMP o).window = .optRegs := window_opt (by simp only [F.BAY_OPT_STAT_ACT_CLAMP, F.optBase]; omega) (by simp only [F.BAY_OPT_STAT_ACT_CLAMP, F.optBase]; omega) (by simp only [F.BAY_OPT_STAT_ACT_CLAMP, F.optBase]; omega)
@[simp] theorem F.BAY_OPT_STAT_CFG_REJECT_window (o : Nat) : (F.BAY_OPT_STAT_CFG_REJECT o).window = .optRegs := window_opt (by simp only [F.BAY_OPT_STAT_CFG_REJECT, F.optBase]; omega) (by simp only [F.BAY_OPT_STAT_CFG_REJECT, F.optBase]; omega) (by simp only [F.BAY_OPT_STAT_CFG_REJECT, F.optBase]; omega)
@[simp] theorem F.BAY_OPT_STAT_FAIL_RUN_window (o : Nat) : (F.BAY_OPT_STAT_FAIL_RUN o).window = .optRegs := window_opt (by simp only [F.BAY_OPT_STAT_FAIL_RUN, F.optBase]; omega) (by simp only [F.BAY_OPT_STAT_FAIL_RUN, F.optBase]; omega) (by simp only [F.BAY_OPT_STAT_FAIL_RUN, F.optBase]; omega)
@[simp] theorem F.BAY_OPT_CTL_ENABLE_window (o : Nat) : (F.BAY_OPT_CTL_ENABLE o).window = .optRegs := window_opt (by simp only [F.BAY_OPT_CTL_ENABLE, F.optBase]; omega) (by simp only [F.BAY_OPT_CTL_ENABLE, F.optBase]; omega) (by simp only [F.BAY_OPT_CTL_ENABLE, F.optBase]; omega)
@[simp] theorem F.BAY_OPT_CTL_RETRIES_window (o : Nat) : (F.BAY_OPT_CTL_RETRIES o).window = .optRegs := window_opt (by simp only [F.BAY_OPT_CTL_RETRIES, F.optBase]; omega) (by simp only [F.BAY_OPT_CTL_RETRIES, F.optBase]; omega) (by simp only [F.BAY_OPT_CTL_RETRIES, F.optBase]; omega)
@[simp] theorem F.BAY_OPT_CTL_LOCK_FRAMES_window (o : Nat) : (F.BAY_OPT_CTL_LOCK_FRAMES o).window = .optRegs := window_opt (by simp only [F.BAY_OPT_CTL_LOCK_FRAMES, F.optBase]; omega) (by simp only [F.BAY_OPT_CTL_LOCK_FRAMES, F.optBase]; omega) (by simp only [F.BAY_OPT_CTL_LOCK_FRAMES, F.optBase]; omega)
@[simp] theorem F.BAY_OPT_CTL_ACQ_RATE_window (o : Nat) : (F.BAY_OPT_CTL_ACQ_RATE o).window = .optRegs := window_opt (by simp only [F.BAY_OPT_CTL_ACQ_RATE, F.optBase]; omega) (by simp only [F.BAY_OPT_CTL_ACQ_RATE, F.optBase]; omega) (by simp only [F.BAY_OPT_CTL_ACQ_RATE, F.optBase]; omega)
@[simp] theorem F.BAY_OPT_CTL_SA_DITHER_window (o : Nat) : (F.BAY_OPT_CTL_SA_DITHER o).window = .optRegs := window_opt (by simp only [F.BAY_OPT_CTL_SA_DITHER, F.optBase]; omega) (by simp only [F.BAY_OPT_CTL_SA_DITHER, F.optBase]; omega) (by simp only [F.BAY_OPT_CTL_SA_DITHER, F.optBase]; omega)
@[simp] theorem F.BAY_OPT_CTL_JUMP_LAND_WIN_window (o : Nat) : (F.BAY_OPT_CTL_JUMP_LAND_WIN o).window = .optRegs := window_opt (by simp only [F.BAY_OPT_CTL_JUMP_LAND_WIN, F.optBase]; omega) (by simp only [F.BAY_OPT_CTL_JUMP_LAND_WIN, F.optBase]; omega) (by simp only [F.BAY_OPT_CTL_JUMP_LAND_WIN, F.optBase]; omega)
@[simp] theorem F.BAY_OPT_WIN_LOCK_WIN_window (o : Nat) : (F.BAY_OPT_WIN_LOCK_WIN o).window = .optRegs := window_opt (by simp only [F.BAY_OPT_WIN_LOCK_WIN, F.optBase]; omega) (by simp only [F.BAY_OPT_WIN_LOCK_WIN, F.optBase]; omega) (by simp only [F.BAY_OPT_WIN_LOCK_WIN, F.optBase]; omega)
@[simp] theorem F.BAY_OPT_WIN_SUM_MIN_window (o : Nat) : (F.BAY_OPT_WIN_SUM_MIN o).window = .optRegs := window_opt (by simp only [F.BAY_OPT_WIN_SUM_MIN, F.optBase]; omega) (by simp only [F.BAY_OPT_WIN_SUM_MIN, F.optBase]; omega) (by simp only [F.BAY_OPT_WIN_SUM_MIN, F.optBase]; omega)
@[simp] theorem F.BAY_OPT_WIN_ONTRK_WIN_window (o : Nat) : (F.BAY_OPT_WIN_ONTRK_WIN o).window = .optRegs := window_opt (by simp only [F.BAY_OPT_WIN_ONTRK_WIN, F.optBase]; omega) (by simp only [F.BAY_OPT_WIN_ONTRK_WIN, F.optBase]; omega) (by simp only [F.BAY_OPT_WIN_ONTRK_WIN, F.optBase]; omega)
@[simp] theorem F.BAY_OPT_WIN_WRITTEN_THR_window (o : Nat) : (F.BAY_OPT_WIN_WRITTEN_THR o).window = .optRegs := window_opt (by simp only [F.BAY_OPT_WIN_WRITTEN_THR, F.optBase]; omega) (by simp only [F.BAY_OPT_WIN_WRITTEN_THR, F.optBase]; omega) (by simp only [F.BAY_OPT_WIN_WRITTEN_THR, F.optBase]; omega)
@[simp] theorem F.BAY_OPT_TARGET_TRACK_window (o : Nat) : (F.BAY_OPT_TARGET_TRACK o).window = .optRegs := window_opt (by simp only [F.BAY_OPT_TARGET_TRACK, F.optBase]; omega) (by simp only [F.BAY_OPT_TARGET_TRACK, F.optBase]; omega) (by simp only [F.BAY_OPT_TARGET_TRACK, F.optBase]; omega)
@[simp] theorem F.BAY_FOCUS_RETRACT_CODE_window (o : Nat) : (F.BAY_FOCUS_RETRACT_CODE o).window = .optRegs := window_opt (by simp only [F.BAY_FOCUS_RETRACT_CODE, F.optBase]; omega) (by simp only [F.BAY_FOCUS_RETRACT_CODE, F.optBase]; omega) (by simp only [F.BAY_FOCUS_RETRACT_CODE, F.optBase]; omega)
@[simp] theorem F.BAY_LASER_LIM_MAX_window (o : Nat) : (F.BAY_LASER_LIM_MAX o).window = .optRegs := window_opt (by simp only [F.BAY_LASER_LIM_MAX, F.optBase]; omega) (by simp only [F.BAY_LASER_LIM_MAX, F.optBase]; omega) (by simp only [F.BAY_LASER_LIM_MAX, F.optBase]; omega)
@[simp] theorem F.BAY_LASER_LIM_READ_MAX_window (o : Nat) : (F.BAY_LASER_LIM_READ_MAX o).window = .optRegs := window_opt (by simp only [F.BAY_LASER_LIM_READ_MAX, F.optBase]; omega) (by simp only [F.BAY_LASER_LIM_READ_MAX, F.optBase]; omega) (by simp only [F.BAY_LASER_LIM_READ_MAX, F.optBase]; omega)
@[simp] theorem F.BAY_ACT_LIM_0_FOCUS_window (o : Nat) : (F.BAY_ACT_LIM_0_FOCUS o).window = .optRegs := window_opt (by simp only [F.BAY_ACT_LIM_0_FOCUS, F.optBase]; omega) (by simp only [F.BAY_ACT_LIM_0_FOCUS, F.optBase]; omega) (by simp only [F.BAY_ACT_LIM_0_FOCUS, F.optBase]; omega)
@[simp] theorem F.BAY_ACT_LIM_0_TRACKING_window (o : Nat) : (F.BAY_ACT_LIM_0_TRACKING o).window = .optRegs := window_opt (by simp only [F.BAY_ACT_LIM_0_TRACKING, F.optBase]; omega) (by simp only [F.BAY_ACT_LIM_0_TRACKING, F.optBase]; omega) (by simp only [F.BAY_ACT_LIM_0_TRACKING, F.optBase]; omega)
@[simp] theorem F.BAY_ACT_LIM_1_TILT_window (o : Nat) : (F.BAY_ACT_LIM_1_TILT o).window = .optRegs := window_opt (by simp only [F.BAY_ACT_LIM_1_TILT, F.optBase]; omega) (by simp only [F.BAY_ACT_LIM_1_TILT, F.optBase]; omega) (by simp only [F.BAY_ACT_LIM_1_TILT, F.optBase]; omega)
@[simp] theorem F.BAY_ACT_LIM_1_SA_window (o : Nat) : (F.BAY_ACT_LIM_1_SA o).window = .optRegs := window_opt (by simp only [F.BAY_ACT_LIM_1_SA, F.optBase]; omega) (by simp only [F.BAY_ACT_LIM_1_SA, F.optBase]; omega) (by simp only [F.BAY_ACT_LIM_1_SA, F.optBase]; omega)
@[simp] theorem F.BAY_ACT_SENSE_CODE_window (o : Nat) (a : Nat) : (F.BAY_ACT_SENSE_CODE o a).window = .optRegs := window_opt (by simp only [F.BAY_ACT_SENSE_CODE, F.optBase]; omega) (by simp only [F.BAY_ACT_SENSE_CODE, F.optBase]; omega) (by simp only [F.BAY_ACT_SENSE_CODE, F.optBase]; omega)
@[simp] theorem F.BAY_ACT_SENSE_LOW_window (o : Nat) (a : Nat) : (F.BAY_ACT_SENSE_LOW o a).window = .optRegs := window_opt (by simp only [F.BAY_ACT_SENSE_LOW, F.optBase]; omega) (by simp only [F.BAY_ACT_SENSE_LOW, F.optBase]; omega) (by simp only [F.BAY_ACT_SENSE_LOW, F.optBase]; omega)
@[simp] theorem F.BAY_ACT_SENSE_HIGH_window (o : Nat) (a : Nat) : (F.BAY_ACT_SENSE_HIGH o a).window = .optRegs := window_opt (by simp only [F.BAY_ACT_SENSE_HIGH, F.optBase]; omega) (by simp only [F.BAY_ACT_SENSE_HIGH, F.optBase]; omega) (by simp only [F.BAY_ACT_SENSE_HIGH, F.optBase]; omega)
@[simp] theorem F.BAY_LAYER_SA_window (o : Nat) (l : Nat) : (F.BAY_LAYER_SA o l).window = .optRegs := window_opt (by simp only [F.BAY_LAYER_SA, F.optBase]; omega) (by simp only [F.BAY_LAYER_SA, F.optBase]; omega) (by simp only [F.BAY_LAYER_SA, F.optBase]; omega)
@[simp] theorem F.BAY_LAYER_TILT_window (o : Nat) (l : Nat) : (F.BAY_LAYER_TILT o l).window = .optRegs := window_opt (by simp only [F.BAY_LAYER_TILT, F.optBase]; omega) (by simp only [F.BAY_LAYER_TILT, F.optBase]; omega) (by simp only [F.BAY_LAYER_TILT, F.optBase]; omega)
@[simp] theorem F.BAY_LREF_CENTRE_window (o : Nat) (l : Nat) : (F.BAY_LREF_CENTRE o l).window = .optRegs := window_opt (by simp only [F.BAY_LREF_CENTRE, F.optBase]; omega) (by simp only [F.BAY_LREF_CENTRE, F.optBase]; omega) (by simp only [F.BAY_LREF_CENTRE, F.optBase]; omega)
@[simp] theorem F.BAY_LREF_SIDE_window (o : Nat) (l : Nat) : (F.BAY_LREF_SIDE o l).window = .optRegs := window_opt (by simp only [F.BAY_LREF_SIDE, F.optBase]; omega) (by simp only [F.BAY_LREF_SIDE, F.optBase]; omega) (by simp only [F.BAY_LREF_SIDE, F.optBase]; omega)
@[simp] theorem F.BAY_RDPWR_READ_window (o : Nat) (l : Nat) : (F.BAY_RDPWR_READ o l).window = .optRegs := window_opt (by simp only [F.BAY_RDPWR_READ, F.optBase]; omega) (by simp only [F.BAY_RDPWR_READ, F.optBase]; omega) (by simp only [F.BAY_RDPWR_READ, F.optBase]; omega)
@[simp] theorem F.BAY_JUMP_LATE_CNT_CNT_window (o : Nat) : (F.BAY_JUMP_LATE_CNT_CNT o).window = .optRegs := window_opt (by simp only [F.BAY_JUMP_LATE_CNT_CNT, F.optBase]; omega) (by simp only [F.BAY_JUMP_LATE_CNT_CNT, F.optBase]; omega) (by simp only [F.BAY_JUMP_LATE_CNT_CNT, F.optBase]; omega)
@[simp] theorem gainFld_window (e j g w : Nat) : (gainFld e j g w).window = .srvRegs :=
  window_srv (by simp only [gainFld]; omega) (by simp only [gainFld]; omega)

@[simp] theorem sectionFld_window (e j c i : Nat) : (sectionFld e j c i).window = .srvRegs :=
  window_srv (by simp only [sectionFld]; omega) (by simp only [sectionFld]; omega)

@[simp] theorem traceFld_window (e k i : Nat) : (traceFld e k i).window = .trcRegs := window_trc (by simp only [traceFld]; omega)

end Sys2Proof.Machine
end

