-- ==== Sys2Proof/Laws/Touches1.lean ====
section
/-! SUPPORT. Part 1 of what every program of the model may touch: for each program, that from every state it runs to an answer, and
the parts of the state that it leaves alone (as the bits of `Part.idx`). -/

set_option linter.all false

namespace Sys2Proof.Machine

theorem Touches.setI {L : Nat} {p : Part} {f : Fld} {i : Int} (h : f.window = p) (hm : Nat.lor (2 ^ p.idx) L = L) :
    Touches L (setI f i) := Touches.setF h hm

theorem Touches.getI {L : Nat} {f : Fld} : Touches L (getI f) := Touches.rd.bind (fun _ => Touches.pure _)

/-- Bits in a subset of `L` are in `L`. -/
theorem sub {a b L : Nat} (hab : Nat.lor a b = b) (h : Nat.lor b L = L) : Nat.lor a L = L := by
  apply Nat.eq_of_testBit_eq
  intro i
  have e : (a ||| b).testBit i = b.testBit i := congrArg (·.testBit i) hab
  have e' : (b ||| L).testBit i = L.testBit i := congrArg (·.testBit i) h
  change (a ||| L).testBit i = _
  rw [Nat.testBit_or] at e e' ⊢
  revert e e'
  cases a.testBit i <;> cases b.testBit i <;> cases L.testBit i <;> simp

/-- Whatever its window, a register field lies among the registers. -/
theorem Touches.setF_any {L : Nat} {f : Fld} {v : Nat} (hm : Nat.lor 1048575 L = L) : Touches L (Machine.setF f v) := by
  refine Touches.setF rfl (sub ?_ hm)
  by_cases h0 : f.addr < 0x10000
  · rw [window_dev h0]; rfl
  by_cases h1 : f.addr < 0x20000
  · rw [window_evt (by omega) h1]; rfl
  by_cases h2 : f.addr < 0x30000
  · rw [window_seq (by omega) h2]; rfl
  by_cases h3 : f.addr < 0x40000
  · rw [window_cch (by omega) h3]; rfl
  by_cases h4 : f.addr < 0x50000
  · rw [window_drm (by omega) h4]; rfl
  by_cases h5 : f.addr < 0x60000
  · rw [window_flz (by omega) h5]; rfl
  by_cases h6 : f.addr < 0x70000
  · rw [window_hst (by omega) h6]; rfl
  by_cases h7 : f.addr < 0x80000
  · rw [window_sec (by omega) h7]; rfl
  by_cases h8 : f.addr < 0x90000
  · rw [window_lif (by omega) h8]; rfl
  by_cases h9 : f.addr < 0x180000
  · rw [window_srv (by omega) h9]; rfl
  by_cases h10 : f.addr < 0x190000
  · rw [window_mot (by omega) h10]; rfl
  by_cases h11 : f.addr < 0x200000
  · rw [window_stp (by omega) h11]; rfl
  by_cases h12 : f.addr < 0x280000
  · rw [window_rch (by omega) h12]; rfl
  by_cases h13 : f.addr < 0x290000
  · rw [window_ldp (by omega) h13]; rfl
  by_cases h14 : f.addr < 0x300000
  · rw [window_lan (by omega) h14]; rfl
  by_cases h15 : f.addr < 0x380000
  · rw [window_wrp (by omega) h15]; rfl
  by_cases h16 : f.addr < 0x400000
  · rw [window_cal (by omega) h16]; rfl
  by_cases h17 : f.addr < 0x800000
  · by_cases h18 : f.addr % 0x10000 < 0x2000
    · rw [window_bay (by omega) h17 h18]; rfl
    · rw [window_opt (by omega) h17 (by omega)]; rfl
  · rw [window_trc (by omega)]; rfl

theorem Touches.setI_any {L : Nat} {f : Fld} {i : Int} (hm : Nat.lor 1048575 L = L) : Touches L (Machine.setI f i) :=
  Touches.setF_any hm

theorem Touches.answer {L : Nat} {m : Act Unit} (h : Touches L m) (s : State) : ∃ t, answer m s = .next t ∧ Same L s t := by
  obtain ⟨_, t, r, e⟩ := h s
  exact ⟨t, Runs.answer r, e⟩

theorem Touches.answerWhen {L : Nat} {m : Act Unit} (h : Touches L m) (live : Bool) (s : State) :
    ∃ t, answerWhen live m s = .next t ∧ Same L s t := by
  cases live
  · exact ⟨s, rfl, Same.refl L s⟩
  · exact h.answer s

theorem freeValue_touches (w) {L : Nat} (h : Nat.lor 4194304 L = L) : Touches L (freeValue w) := by
  refine Touches.mono (L := 4194304) ?_ h
  unfold freeValue
  try dsimp only
  repeat' first
    | with_reducible refine Touches.bind ?_ fun _ => ?_
    | with_reducible refine Touches.ite ?_ ?_
    | with_reducible exact Touches.pure _
    | with_reducible exact Touches.rd
    | (with_reducible apply Touches.emitM (M := 4194304)) <;> rfl
    | with_reducible split
    | with_reducible dsimp only

theorem leaveL1_touches (f) {L : Nat} (h : Nat.lor 64 L = L) : Touches L (leaveL1 f) := by
  refine Touches.mono (L := 64) ?_ h
  unfold leaveL1
  try dsimp only
  repeat' first
    | with_reducible refine Touches.bind ?_ fun _ => ?_
    | with_reducible refine Touches.ite ?_ ?_
    | with_reducible exact Touches.pure _
    | with_reducible exact Touches.rd
    | (with_reducible apply Touches.setF) <;> (first | with_reducible exact F.HST_LINK_STAT_PSTATE_window _ | rfl)
    | with_reducible split
    | with_reducible dsimp only

theorem sendVector_touches (f) (v) (level) {L : Nat} (h : Nat.lor 1099513724992 L = L) : Touches L (sendVector f v level) := by
  refine Touches.mono (L := 1099513724992) ?_ h
  unfold sendVector
  try dsimp only
  repeat' first
    | with_reducible refine Touches.bind ?_ fun _ => ?_
    | with_reducible refine Touches.ite ?_ ?_
    | with_reducible exact Touches.pure _
    | with_reducible exact Touches.rd
    | (with_reducible apply leaveL1_touches); rfl
    | (with_reducible apply Touches.emitM (M := 1099511627776)) <;> rfl
    | (with_reducible apply Touches.emitM (M := 2097152)) <;> rfl
    | with_reducible split
    | with_reducible dsimp only

theorem attendFn_touches (f) (r) {L : Nat} (h : Nat.lor 1099513724994 L = L) : Touches L (attendFn f r) := by
  refine Touches.mono (L := 1099513724994) ?_ h
  unfold attendFn
  try dsimp only
  repeat' first
    | with_reducible refine Touches.bind ?_ fun _ => ?_
    | with_reducible refine Touches.ite ?_ ?_
    | with_reducible exact Touches.pure _
    | with_reducible exact Touches.rd
    | (with_reducible apply Touches.setF) <;> (first | with_reducible exact F.EVT_FN_STAT_SIGNALLED_window _ | rfl)
    | (with_reducible apply sendVector_touches); rfl
    | (with_reducible apply Touches.emitM (M := 1099511627776)) <;> rfl
    | with_reducible split
    | with_reducible dsimp only

theorem attend_touches (r) {L : Nat} (h : Nat.lor 1099580833858 L = L) : Touches L (attend r) := by
  refine Touches.mono (L := 1099580833858) ?_ h
  unfold attend
  try dsimp only
  repeat' first
    | with_reducible refine Touches.bind ?_ fun _ => ?_
    | with_reducible refine Touches.ite ?_ ?_
    | with_reducible exact Touches.pure _
    | with_reducible exact Touches.rd
    | (with_reducible apply attendFn_touches); rfl
    | with_reducible refine Touches.forAll fun _ => ?_
    | (with_reducible apply Touches.emitM (M := 67108864)) <;> rfl
    | with_reducible split
    | with_reducible dsimp only

theorem raiseAt_touches (level) (n) (sub) (inst) (detail) {L : Nat} (h : Nat.lor 144116287657738310 L = L) : Touches L (raiseAt level n sub inst detail) := by
  refine Touches.mono (L := 144116287657738310) ?_ h
  unfold raiseAt
  try dsimp only
  repeat' first
    | with_reducible refine Touches.bind ?_ fun _ => ?_
    | with_reducible refine Touches.ite ?_ ?_
    | with_reducible exact Touches.pure _
    | with_reducible exact Touches.rd
    | (with_reducible apply Touches.setF) <;> (first | with_reducible exact F.SEQ_EV_QUEUED_NUM_window | rfl)
    | (with_reducible apply Touches.incStop) <;> (first | with_reducible exact F.EVT_COUNT_CNT_window _ | with_reducible exact F.EVT_LOST_CNT_CNT_window | rfl)
    | (with_reducible apply attend_touches); rfl
    | (with_reducible apply Touches.emitM (M := 67108864)) <;> rfl
    | (with_reducible apply Touches.emitM (M := 144115188075855872)) <;> rfl
    | (with_reducible apply Touches.emitM (M := 1048576)) <;> rfl
    | with_reducible split
    | with_reducible dsimp only

theorem raise_touches (n) (sub) (inst) (detail) {L : Nat} (h : Nat.lor 144116287657738310 L = L) : Touches L (raise n sub inst detail) := by
  refine Touches.mono (L := 144116287657738310) ?_ h
  unfold raise
  try dsimp only
  repeat' first
    | with_reducible refine Touches.bind ?_ fun _ => ?_
    | with_reducible refine Touches.ite ?_ ?_
    | with_reducible exact Touches.pure _
    | with_reducible exact Touches.rd
    | (with_reducible apply raiseAt_touches); rfl
    | with_reducible split
    | with_reducible dsimp only

theorem raiseBay_touches (b) (i) (sub) (inst) (detail) {L : Nat} (h : Nat.lor 144116287657738310 L = L) : Touches L (raiseBay b i sub inst detail) := by
  refine Touches.mono (L := 144116287657738310) ?_ h
  unfold raiseBay
  try dsimp only
  repeat' first
    | with_reducible refine Touches.bind ?_ fun _ => ?_
    | with_reducible refine Touches.ite ?_ ?_
    | with_reducible exact Touches.pure _
    | with_reducible exact Touches.rd
    | (with_reducible apply raise_touches); rfl
    | with_reducible split
    | with_reducible dsimp only

theorem regAccessFault_touches (group) (sub) (addr) (master) {L : Nat} (h : Nat.lor 144116287657738310 L = L) : Touches L (regAccessFault group sub addr master) := by
  refine Touches.mono (L := 144116287657738310) ?_ h
  unfold regAccessFault
  try dsimp only
  repeat' first
    | with_reducible refine Touches.bind ?_ fun _ => ?_
    | with_reducible refine Touches.ite ?_ ?_
    | with_reducible exact Touches.pure _
    | with_reducible exact Touches.rd
    | (with_reducible apply Touches.setF) <;> (first | with_reducible exact F.EVT_LAST_FAULT_ADDR_window | rfl)
    | (with_reducible apply raise_touches); rfl
    | with_reducible split
    | with_reducible dsimp only

theorem degrade_touches (d) {L : Nat} (h : Nat.lor 1099580833858 L = L) : Touches L (degrade d) := by
  refine Touches.mono (L := 1099580833858) ?_ h
  unfold degrade
  try dsimp only
  repeat' first
    | with_reducible refine Touches.bind ?_ fun _ => ?_
    | with_reducible refine Touches.ite ?_ ?_
    | with_reducible exact Touches.pure _
    | with_reducible exact Touches.rd
    | (with_reducible apply attend_touches); rfl
    | (with_reducible apply Touches.emitM (M := 67108864)) <;> rfl
    | with_reducible split
    | with_reducible dsimp only

theorem undegrade_touches (d) {L : Nat} (h : Nat.lor 1099580833858 L = L) : Touches L (undegrade d) := by
  refine Touches.mono (L := 1099580833858) ?_ h
  unfold undegrade
  try dsimp only
  repeat' first
    | with_reducible refine Touches.bind ?_ fun _ => ?_
    | with_reducible refine Touches.ite ?_ ?_
    | with_reducible exact Touches.pure _
    | with_reducible exact Touches.rd
    | (with_reducible apply attend_touches); rfl
    | (with_reducible apply Touches.emitM (M := 67108864)) <;> rfl
    | with_reducible split
    | with_reducible dsimp only

theorem showCal_touches {L : Nat} (h : Nat.lor 65536 L = L) : Touches L (showCal) := by
  refine Touches.mono (L := 65536) ?_ h
  unfold showCal
  try dsimp only
  repeat' first
    | with_reducible refine Touches.bind ?_ fun _ => ?_
    | with_reducible refine Touches.ite ?_ ?_
    | with_reducible exact Touches.pure _
    | with_reducible exact Touches.rd
    | (with_reducible apply Touches.setF) <;> (first | with_reducible exact F.CAL_STAT_BUSY_window | with_reducible exact F.CAL_STAT_KIND_window | rfl)
    | with_reducible split
    | with_reducible dsimp only

theorem endCal_touches (kind) (elem) (result) {L : Nat} (h : Nat.lor 72057594037993472 L = L) : Touches L (endCal kind elem result) := by
  refine Touches.mono (L := 72057594037993472) ?_ h
  unfold endCal
  try dsimp only
  repeat' first
    | with_reducible refine Touches.bind ?_ fun _ => ?_
    | with_reducible refine Touches.ite ?_ ?_
    | with_reducible exact Touches.pure _
    | with_reducible exact Touches.rd
    | (with_reducible apply Touches.setF) <;> (first | with_reducible exact F.CAL_LAST_TIME_window _ | with_reducible exact F.CAL_LAST_ELEM_ELEMENT_window _ | with_reducible exact F.CAL_LAST_ELEM_RESULT_window _ | rfl)
    | (with_reducible apply Touches.incStop) <;> (first | with_reducible exact F.CAL_CNT_CNT_window _ | with_reducible exact F.CAL_FAIL_CNT_CNT_window _ | rfl)
    | (with_reducible apply showCal_touches); rfl
    | (with_reducible apply Touches.emitM (M := 72057594037927936)) <;> rfl
    | with_reducible split
    | with_reducible dsimp only

theorem abortCal_touches (p) {L : Nat} (h : Nat.lor 72057594037993472 L = L) : Touches L (abortCal p) := by
  refine Touches.mono (L := 72057594037993472) ?_ h
  unfold abortCal
  try dsimp only
  repeat' first
    | with_reducible refine Touches.bind ?_ fun _ => ?_
    | with_reducible refine Touches.ite ?_ ?_
    | with_reducible exact Touches.pure _
    | with_reducible exact Touches.rd
    | (with_reducible apply endCal_touches); rfl
    | with_reducible refine Touches.forAll fun _ => ?_
    | with_reducible split
    | with_reducible dsimp only

theorem abortWriteCal_touches (k) {L : Nat} (h : Nat.lor 72057594037993472 L = L) : Touches L (abortWriteCal k) := by
  refine Touches.mono (L := 72057594037993472) ?_ h
  unfold abortWriteCal
  try dsimp only
  repeat' first
    | with_reducible refine Touches.bind ?_ fun _ => ?_
    | with_reducible refine Touches.ite ?_ ?_
    | with_reducible exact Touches.pure _
    | with_reducible exact Touches.rd
    | (with_reducible apply abortCal_touches); rfl
    | with_reducible split
    | with_reducible dsimp only

theorem noteUse_touches (b) (old) (new) {L : Nat} (h : Nat.lor 72057594037927936 L = L) : Touches L (noteUse b old new) := by
  refine Touches.mono (L := 72057594037927936) ?_ h
  unfold noteUse
  try dsimp only
  repeat' first
    | with_reducible refine Touches.bind ?_ fun _ => ?_
    | with_reducible refine Touches.ite ?_ ?_
    | with_reducible exact Touches.pure _
    | with_reducible exact Touches.rd
    | (with_reducible apply Touches.emitM (M := 72057594037927936)) <;> rfl
    | with_reducible split
    | with_reducible dsimp only

theorem abortBayCal_touches (b) (old) (new) {L : Nat} (h : Nat.lor 72057594037993472 L = L) : Touches L (abortBayCal b old new) := by
  refine Touches.mono (L := 72057594037993472) ?_ h
  unfold abortBayCal
  try dsimp only
  repeat' first
    | with_reducible refine Touches.bind ?_ fun _ => ?_
    | with_reducible refine Touches.ite ?_ ?_
    | with_reducible exact Touches.pure _
    | with_reducible exact Touches.rd
    | (with_reducible apply abortCal_touches); rfl
    | with_reducible split
    | with_reducible dsimp only

theorem changeMode_touches (new) (cause) {L : Nat} (h : Nat.lor 144116287657738311 L = L) : Touches L (changeMode new cause) := by
  refine Touches.mono (L := 144116287657738311) ?_ h
  unfold changeMode
  try dsimp only
  repeat' first
    | with_reducible refine Touches.bind ?_ fun _ => ?_
    | with_reducible refine Touches.ite ?_ ?_
    | with_reducible exact Touches.pure _
    | with_reducible exact Touches.rd
    | (with_reducible apply Touches.setF) <;> (first | with_reducible exact F.DEV_MODE_STAT_PREV_MODE_window | with_reducible exact F.DEV_MODE_STAT_MODE_window | with_reducible exact F.DEV_MODE_STAT_CAUSE_window | rfl)
    | (with_reducible apply raise_touches); rfl
    | (with_reducible apply Touches.emitM (M := 67108864)) <;> rfl
    | with_reducible split
    | with_reducible dsimp only

theorem endCapture_touches (k) {L : Nat} (h : Nat.lor 9007199254745088 L = L) : Touches L (endCapture k) := by
  refine Touches.mono (L := 9007199254745088) ?_ h
  unfold endCapture
  try dsimp only
  repeat' first
    | with_reducible refine Touches.bind ?_ fun _ => ?_
    | with_reducible refine Touches.ite ?_ ?_
    | with_reducible exact Touches.pure _
    | with_reducible exact Touches.rd
    | (with_reducible apply Touches.setF) <;> (first | with_reducible exact F.RCH_JD_STAT_MODE_window _ | rfl)
    | (with_reducible apply Touches.emitM (M := 9007199254740992)) <;> rfl
    | with_reducible split
    | with_reducible dsimp only

theorem setBay_touches (b) (st) {L : Nat} (h : Nat.lor 225216265322696774 L = L) : Touches L (setBay b st) := by
  refine Touches.mono (L := 225216265322696774) ?_ h
  unfold setBay
  try dsimp only
  repeat' first
    | with_reducible refine Touches.bind ?_ fun _ => ?_
    | with_reducible refine Touches.ite ?_ ?_
    | with_reducible exact Touches.pure _
    | with_reducible exact Touches.rd
    | (with_reducible apply Touches.setF) <;> (first | with_reducible exact F.BAY_STAT_STATE_window _ | with_reducible exact F.RCH_SPK_STAT_SIDE_MISMATCH_window _ | rfl)
    | (with_reducible apply abortBayCal_touches); rfl
    | (with_reducible apply noteUse_touches); rfl
    | (with_reducible apply endCapture_touches); rfl
    | (with_reducible apply raiseBay_touches); rfl
    | with_reducible refine Touches.forAll fun _ => ?_
    | (with_reducible apply Touches.emitM (M := 35184372088832)) <;> rfl
    | with_reducible split
    | with_reducible dsimp only

theorem laserOff_touches (k) {L : Nat} (h : Nat.lor 70368744177664 L = L) : Touches L (laserOff k) := by
  refine Touches.mono (L := 70368744177664) ?_ h
  unfold laserOff
  try dsimp only
  repeat' first
    | with_reducible refine Touches.bind ?_ fun _ => ?_
    | with_reducible refine Touches.ite ?_ ?_
    | with_reducible exact Touches.pure _
    | with_reducible exact Touches.rd
    | (with_reducible apply Touches.emitM (M := 70368744177664)) <;> rfl
    | with_reducible split
    | with_reducible dsimp only

theorem sendFrame_touches (k) (f) {L : Nat} (h : Nat.lor 2097152 L = L) : Touches L (sendFrame k f) := by
  refine Touches.mono (L := 2097152) ?_ h
  unfold sendFrame
  try dsimp only
  repeat' first
    | with_reducible refine Touches.bind ?_ fun _ => ?_
    | with_reducible refine Touches.ite ?_ ?_
    | with_reducible exact Touches.pure _
    | with_reducible exact Touches.rd
    | (with_reducible apply Touches.emitM (M := 2097152)) <;> rfl
    | with_reducible split
    | with_reducible dsimp only

theorem sendSymbols_touches (k) (cycle) (period) (l) {L : Nat} (h : Nat.lor 2097152 L = L) : Touches L (sendSymbols k cycle period l) := by
  refine Touches.mono (L := 2097152) ?_ h
  unfold sendSymbols
  try dsimp only
  repeat' first
    | with_reducible refine Touches.bind ?_ fun _ => ?_
    | with_reducible refine Touches.ite ?_ ?_
    | with_reducible exact Touches.pure _
    | with_reducible exact Touches.rd
    | (with_reducible apply Touches.emitM (M := 2097152)) <;> rfl
    | with_reducible split
    | with_reducible dsimp only

theorem raiseOpu_touches (k) (i) (sub) (detail) {L : Nat} (h : Nat.lor 144116287657738310 L = L) : Touches L (raiseOpu k i sub detail) := by
  refine Touches.mono (L := 144116287657738310) ?_ h
  unfold raiseOpu
  try dsimp only
  repeat' first
    | with_reducible refine Touches.bind ?_ fun _ => ?_
    | with_reducible refine Touches.ite ?_ ?_
    | with_reducible exact Touches.pure _
    | with_reducible exact Touches.rd
    | (with_reducible apply raiseBay_touches); rfl
    | with_reducible split
    | with_reducible dsimp only

theorem raiseMotor_touches (k) (i) (sub) {L : Nat} (h : Nat.lor 144116287657738310 L = L) : Touches L (raiseMotor k i sub) := by
  refine Touches.mono (L := 144116287657738310) ?_ h
  unfold raiseMotor
  try dsimp only
  repeat' first
    | with_reducible refine Touches.bind ?_ fun _ => ?_
    | with_reducible refine Touches.ite ?_ ?_
    | with_reducible exact Touches.pure _
    | with_reducible exact Touches.rd
    | (with_reducible apply raiseBay_touches); rfl
    | with_reducible split
    | with_reducible dsimp only

theorem raiseAxis_touches (a) (i) (sub) {L : Nat} (h : Nat.lor 144116287657738310 L = L) : Touches L (raiseAxis a i sub) := by
  refine Touches.mono (L := 144116287657738310) ?_ h
  unfold raiseAxis
  try dsimp only
  repeat' first
    | with_reducible refine Touches.bind ?_ fun _ => ?_
    | with_reducible refine Touches.ite ?_ ?_
    | with_reducible exact Touches.pure _
    | with_reducible exact Touches.rd
    | (with_reducible apply raiseBay_touches); rfl
    | with_reducible split
    | with_reducible dsimp only

theorem freeze_touches (k) (role) (b) {L : Nat} (h : Nat.lor 512 L = L) : Touches L (freeze k role b) := by
  refine Touches.mono (L := 512) ?_ h
  unfold freeze
  try dsimp only
  repeat' first
    | with_reducible refine Touches.bind ?_ fun _ => ?_
    | with_reducible refine Touches.ite ?_ ?_
    | with_reducible exact Touches.pure _
    | with_reducible exact Touches.rd
    | (with_reducible apply Touches.setF) <;> (first | with_reducible exact F.SRV_SLOT_CTL_FREEZE_window _ _ | rfl)
    | with_reducible split
    | with_reducible dsimp only

theorem closeGate_touches (k) {L : Nat} (h : Nat.lor 70368744177664 L = L) : Touches L (closeGate k) := by
  refine Touches.mono (L := 70368744177664) ?_ h
  unfold closeGate
  try dsimp only
  repeat' first
    | with_reducible refine Touches.bind ?_ fun _ => ?_
    | with_reducible refine Touches.ite ?_ ?_
    | with_reducible exact Touches.pure _
    | with_reducible exact Touches.rd
    | (with_reducible apply Touches.emitM (M := 70368744177664)) <;> rfl
    | with_reducible split
    | with_reducible dsimp only

theorem endWrite_touches (k) (n) (reason) {L : Nat} (h : Nat.lor 108156759801167872 L = L) : Touches L (endWrite k n reason) := by
  refine Touches.mono (L := 108156759801167872) ?_ h
  unfold endWrite
  try dsimp only
  repeat' first
    | with_reducible refine Touches.bind ?_ fun _ => ?_
    | with_reducible refine Touches.ite ?_ ?_
    | with_reducible exact Touches.pure _
    | with_reducible exact Touches.rd
    | (with_reducible apply Touches.setF) <;> (first | with_reducible exact F.WRP_STAT_STATE_window _ | rfl)
    | (with_reducible apply abortWriteCal_touches); rfl
    | (with_reducible apply closeGate_touches); rfl
    | (with_reducible apply Touches.emitM (M := 36028797018963968)) <;> rfl
    | with_reducible split
    | with_reducible dsimp only

theorem stopWriteNow_touches (k) {L : Nat} (h : Nat.lor 108156759803265024 L = L) : Touches L (stopWriteNow k) := by
  refine Touches.mono (L := 108156759803265024) ?_ h
  unfold stopWriteNow
  try dsimp only
  repeat' first
    | with_reducible refine Touches.bind ?_ fun _ => ?_
    | with_reducible refine Touches.ite ?_ ?_
    | with_reducible exact Touches.pure _
    | with_reducible exact Touches.rd
    | (with_reducible apply sendFrame_touches); rfl
    | (with_reducible apply endWrite_touches); rfl
    | (with_reducible apply Touches.emitM (M := 36028797018963968)) <;> rfl
    | with_reducible split
    | with_reducible dsimp only

theorem stopWriteAtBoundary_touches (k) (reason) {L : Nat} (h : Nat.lor 36028797018963968 L = L) : Touches L (stopWriteAtBoundary k reason) := by
  refine Touches.mono (L := 36028797018963968) ?_ h
  unfold stopWriteAtBoundary
  try dsimp only
  repeat' first
    | with_reducible refine Touches.bind ?_ fun _ => ?_
    | with_reducible refine Touches.ite ?_ ?_
    | with_reducible exact Touches.pure _
    | with_reducible exact Touches.rd
    | (with_reducible apply Touches.emitM (M := 36028797018963968)) <;> rfl
    | with_reducible split
    | with_reducible dsimp only

theorem cutTraining_touches (k) {L : Nat} (h : Nat.lor 36028797018997248 L = L) : Touches L (cutTraining k) := by
  refine Touches.mono (L := 36028797018997248) ?_ h
  unfold cutTraining
  try dsimp only
  repeat' first
    | with_reducible refine Touches.bind ?_ fun _ => ?_
    | with_reducible refine Touches.ite ?_ ?_
    | with_reducible exact Touches.pure _
    | with_reducible exact Touches.rd
    | (with_reducible apply Touches.setF) <;> (first | with_reducible exact F.WRP_WSL_CTL_TRAIN_window _ | with_reducible exact F.WRP_STAT_STATE_window _ | rfl)
    | (with_reducible apply freeze_touches); rfl
    | (with_reducible apply Touches.emitM (M := 36028797018963968)) <;> rfl
    | with_reducible split
    | with_reducible dsimp only

theorem dropLaser_touches (k) {L : Nat} (h : Nat.lor 108157034681172480 L = L) : Touches L (dropLaser k) := by
  refine Touches.mono (L := 108157034681172480) ?_ h
  unfold dropLaser
  try dsimp only
  repeat' first
    | with_reducible refine Touches.bind ?_ fun _ => ?_
    | with_reducible refine Touches.ite ?_ ?_
    | with_reducible exact Touches.pure _
    | with_reducible exact Touches.rd
    | (with_reducible apply stopWriteNow_touches); rfl
    | (with_reducible apply cutTraining_touches); rfl
    | (with_reducible apply laserOff_touches); rfl
    | (with_reducible apply Touches.emitM (M := 274877906944)) <;> rfl
    | with_reducible split
    | with_reducible dsimp only

theorem cutReads_touches (k) {L : Nat} (h : Nat.lor 9007199254740992 L = L) : Touches L (cutReads k) := by
  refine Touches.mono (L := 9007199254740992) ?_ h
  unfold cutReads
  try dsimp only
  repeat' first
    | with_reducible refine Touches.bind ?_ fun _ => ?_
    | with_reducible refine Touches.ite ?_ ?_
    | with_reducible exact Touches.pure _
    | with_reducible exact Touches.rd
    | (with_reducible apply Touches.emitM (M := 9007199254740992)) <;> rfl
    | with_reducible split
    | with_reducible dsimp only

theorem optEnd_touches (k) (result) {L : Nat} (h : Nat.lor 70368744440320 L = L) : Touches L (optEnd k result) := by
  refine Touches.mono (L := 70368744440320) ?_ h
  unfold optEnd
  try dsimp only
  repeat' first
    | with_reducible refine Touches.bind ?_ fun _ => ?_
    | with_reducible refine Touches.ite ?_ ?_
    | with_reducible exact Touches.pure _
    | with_reducible exact Touches.rd
    | (with_reducible apply Touches.setF) <;> (first | with_reducible exact F.BAY_OPT_CMD_CMD_window _ | with_reducible exact F.BAY_OPT_STAT_RESULT_window _ | with_reducible exact F.BAY_OPT_STAT_JUMP_window _ | with_reducible exact F.BAY_OPT_STAT_LAYER_JUMP_window _ | with_reducible exact F.BAY_OPT_STAT_PULL_IN_window _ | rfl)
    | (with_reducible apply freeze_touches); rfl
    | (with_reducible apply Touches.emitM (M := 70368744177664)) <;> rfl
    | with_reducible split
    | with_reducible dsimp only

theorem optCut_touches (k) (result) {L : Nat} (h : Nat.lor 70368744440320 L = L) : Touches L (optCut k result) := by
  refine Touches.mono (L := 70368744440320) ?_ h
  unfold optCut
  try dsimp only
  repeat' first
    | with_reducible refine Touches.bind ?_ fun _ => ?_
    | with_reducible refine Touches.ite ?_ ?_
    | with_reducible exact Touches.pure _
    | with_reducible exact Touches.rd
    | (with_reducible apply optEnd_touches); rfl
    | with_reducible split
    | with_reducible dsimp only

theorem retract_touches (k) {L : Nat} (h : Nat.lor 108157034681434624 L = L) : Touches L (retract k) := by
  refine Touches.mono (L := 108157034681434624) ?_ h
  unfold retract
  try dsimp only
  repeat' first
    | with_reducible refine Touches.bind ?_ fun _ => ?_
    | with_reducible refine Touches.ite ?_ ?_
    | with_reducible exact Touches.pure _
    | with_reducible exact Touches.rd
    | (with_reducible apply Touches.setF) <;> (first | with_reducible exact F.BAY_OPT_STAT_FOCUS_LOCKED_window _ | with_reducible exact F.BAY_OPT_STAT_ON_TRACK_window _ | with_reducible exact F.BAY_OPT_CMD_CMD_window _ | rfl)
    | (with_reducible apply dropLaser_touches); rfl
    | (with_reducible apply optCut_touches); rfl
    | (with_reducible apply freeze_touches); rfl
    | (with_reducible apply Touches.emitM (M := 70368744177664)) <;> rfl
    | with_reducible split
    | with_reducible dsimp only

theorem countFailure_touches (k) {L : Nat} (h : Nat.lor 70368744439808 L = L) : Touches L (countFailure k) := by
  refine Touches.mono (L := 70368744439808) ?_ h
  unfold countFailure
  try dsimp only
  repeat' first
    | with_reducible refine Touches.bind ?_ fun _ => ?_
    | with_reducible refine Touches.ite ?_ ?_
    | with_reducible exact Touches.pure _
    | with_reducible exact Touches.rd
    | (with_reducible apply Touches.setF) <;> (first | with_reducible exact F.BAY_OPT_STAT_FAIL_RUN_window _ | rfl)
    | (with_reducible apply Touches.emitM (M := 70368744177664)) <;> rfl
    | with_reducible split
    | with_reducible dsimp only

theorem loseFocus_touches (k) {L : Nat} (h : Nat.lor 261280521591816774 L = L) : Touches L (loseFocus k) := by
  refine Touches.mono (L := 261280521591816774) ?_ h
  unfold loseFocus
  try dsimp only
  repeat' first
    | with_reducible refine Touches.bind ?_ fun _ => ?_
    | with_reducible refine Touches.ite ?_ ?_
    | with_reducible exact Touches.pure _
    | with_reducible exact Touches.rd
    | (with_reducible apply stopWriteNow_touches); rfl
    | (with_reducible apply cutReads_touches); rfl
    | (with_reducible apply countFailure_touches); rfl
    | (with_reducible apply optCut_touches); rfl
    | (with_reducible apply freeze_touches); rfl
    | (with_reducible apply raiseOpu_touches); rfl
    | (with_reducible apply retract_touches); rfl
    | (with_reducible apply Touches.emitM (M := 70368744177664)) <;> rfl
    | with_reducible split
    | with_reducible dsimp only

theorem setMotor_touches (k) (st) {L : Nat} (h : Nat.lor 1024 L = L) : Touches L (setMotor k st) := by
  refine Touches.mono (L := 1024) ?_ h
  unfold setMotor
  try dsimp only
  repeat' first
    | with_reducible refine Touches.bind ?_ fun _ => ?_
    | with_reducible refine Touches.ite ?_ ?_
    | with_reducible exact Touches.pure _
    | with_reducible exact Touches.rd
    | (with_reducible apply Touches.setF) <;> (first | with_reducible exact F.MOT_STAT_STATE_window _ | with_reducible exact F.MOT_STAT_BRAKING_window _ | rfl)
    | with_reducible split
    | with_reducible dsimp only

theorem setMotorResult_touches (k) (r) {L : Nat} (h : Nat.lor 1024 L = L) : Touches L (setMotorResult k r) := by
  refine Touches.mono (L := 1024) ?_ h
  unfold setMotorResult
  try dsimp only
  repeat' first
    | with_reducible refine Touches.bind ?_ fun _ => ?_
    | with_reducible refine Touches.ite ?_ ?_
    | with_reducible exact Touches.pure _
    | with_reducible exact Touches.rd
    | (with_reducible apply Touches.setF) <;> (first | with_reducible exact F.MOT_STAT_RESULT_window _ | rfl)
    | with_reducible split
    | with_reducible dsimp only

theorem setRef_touches (k) (ref) {L : Nat} (h : Nat.lor 562949953422336 L = L) : Touches L (setRef k ref) := by
  refine Touches.mono (L := 562949953422336) ?_ h
  unfold setRef
  try dsimp only
  repeat' first
    | with_reducible refine Touches.bind ?_ fun _ => ?_
    | with_reducible refine Touches.ite ?_ ?_
    | with_reducible exact Touches.pure _
    | with_reducible exact Touches.rd
    | (with_reducible apply Touches.setF) <;> (first | with_reducible exact F.MOT_STAT_REVERSE_window _ | rfl)
    | (with_reducible apply Touches.emitM (M := 562949953421312)) <;> rfl
    | with_reducible split
    | with_reducible dsimp only

theorem gatesOff_touches (k) {L : Nat} (h : Nat.lor 562949953422336 L = L) : Touches L (gatesOff k) := by
  refine Touches.mono (L := 562949953422336) ?_ h
  unfold gatesOff
  try dsimp only
  repeat' first
    | with_reducible refine Touches.bind ?_ fun _ => ?_
    | with_reducible refine Touches.ite ?_ ?_
    | with_reducible exact Touches.pure _
    | with_reducible exact Touches.rd
    | (with_reducible apply setRef_touches); rfl
    | (with_reducible apply setMotor_touches); rfl
    | (with_reducible apply Touches.emitM (M := 562949953421312)) <;> rfl
    | with_reducible split
    | with_reducible dsimp only

theorem abortMotor_touches (k) {L : Nat} (h : Nat.lor 562949953422336 L = L) : Touches L (abortMotor k) := by
  refine Touches.mono (L := 562949953422336) ?_ h
  unfold abortMotor
  try dsimp only
  repeat' first
    | with_reducible refine Touches.bind ?_ fun _ => ?_
    | with_reducible refine Touches.ite ?_ ?_
    | with_reducible exact Touches.pure _
    | with_reducible exact Touches.rd
    | (with_reducible apply setMotorResult_touches); rfl
    | (with_reducible apply gatesOff_touches); rfl
    | with_reducible split
    | with_reducible dsimp only

theorem stopMotor_touches (k) {L : Nat} (h : Nat.lor 72620543991415808 L = L) : Touches L (stopMotor k) := by
  refine Touches.mono (L := 72620543991415808) ?_ h
  unfold stopMotor
  try dsimp only
  repeat' first
    | with_reducible refine Touches.bind ?_ fun _ => ?_
    | with_reducible refine Touches.ite ?_ ?_
    | with_reducible exact Touches.pure _
    | with_reducible exact Touches.rd
    | (with_reducible apply setMotor_touches); rfl
    | (with_reducible apply setMotorResult_touches); rfl
    | (with_reducible apply abortCal_touches); rfl
    | (with_reducible apply gatesOff_touches); rfl
    | (with_reducible apply Touches.emitM (M := 562949953421312)) <;> rfl
    | with_reducible split
    | with_reducible dsimp only

theorem showQueue_touches (a) {L : Nat} (h : Nat.lor 2048 L = L) : Touches L (showQueue a) := by
  refine Touches.mono (L := 2048) ?_ h
  unfold showQueue
  try dsimp only
  repeat' first
    | with_reducible refine Touches.bind ?_ fun _ => ?_
    | with_reducible refine Touches.ite ?_ ?_
    | with_reducible exact Touches.pure _
    | with_reducible exact Touches.rd
    | (with_reducible apply Touches.setF) <;> (first | with_reducible exact F.STP_STAT_QUEUE_window _ | rfl)
    | (with_reducible apply Touches.setI) <;> (first | with_reducible exact F.STP_REMAIN_DIST_window _ | rfl)
    | with_reducible split
    | with_reducible dsimp only

theorem setDirection_touches (a) (course) {L : Nat} (h : Nat.lor 1125899906842624 L = L) : Touches L (setDirection a course) := by
  refine Touches.mono (L := 1125899906842624) ?_ h
  unfold setDirection
  try dsimp only
  repeat' first
    | with_reducible refine Touches.bind ?_ fun _ => ?_
    | with_reducible refine Touches.ite ?_ ?_
    | with_reducible exact Touches.pure _
    | with_reducible exact Touches.rd
    | (with_reducible apply Touches.emitM (M := 1125899906842624)) <;> rfl
    | with_reducible split
    | with_reducible dsimp only

theorem startMove_touches (a) (vs) {L : Nat} (h : Nat.lor 1125899906844672 L = L) : Touches L (startMove a vs) := by
  refine Touches.mono (L := 1125899906844672) ?_ h
  unfold startMove
  try dsimp only
  repeat' first
    | with_reducible refine Touches.bind ?_ fun _ => ?_
    | with_reducible refine Touches.ite ?_ ?_
    | with_reducible exact Touches.pure _
    | with_reducible exact Touches.rd
    | (with_reducible apply Touches.setF) <;> (first | with_reducible exact F.STP_STAT_STATE_window _ | rfl)
    | (with_reducible apply setDirection_touches); rfl
    | (with_reducible apply showQueue_touches); rfl
    | (with_reducible apply Touches.emitM (M := 1125899906842624)) <;> rfl
    | with_reducible split
    | with_reducible dsimp only

theorem startPair_touches (a) (junction) {L : Nat} (h : Nat.lor 1125899906844672 L = L) : Touches L (startPair a junction) := by
  refine Touches.mono (L := 1125899906844672) ?_ h
  unfold startPair
  try dsimp only
  repeat' first
    | with_reducible refine Touches.bind ?_ fun _ => ?_
    | with_reducible refine Touches.ite ?_ ?_
    | with_reducible exact Touches.pure _
    | with_reducible exact Touches.rd
    | (with_reducible apply startMove_touches); rfl
    | with_reducible refine Touches.forAll fun _ => ?_
    | (with_reducible apply Touches.emitM (M := 1125899906842624)) <;> rfl
    | with_reducible split
    | with_reducible dsimp only

theorem replan_touches (a) {L : Nat} (h : Nat.lor 1125899906842624 L = L) : Touches L (replan a) := by
  refine Touches.mono (L := 1125899906842624) ?_ h
  unfold replan
  try dsimp only
  repeat' first
    | with_reducible refine Touches.bind ?_ fun _ => ?_
    | with_reducible refine Touches.ite ?_ ?_
    | with_reducible exact Touches.pure _
    | with_reducible exact Touches.rd
    | (with_reducible apply Touches.emitM (M := 1125899906842624)) <;> rfl
    | with_reducible split
    | with_reducible dsimp only

theorem appendMove_touches (a) (m) {L : Nat} (h : Nat.lor 1125899906844672 L = L) : Touches L (appendMove a m) := by
  refine Touches.mono (L := 1125899906844672) ?_ h
  unfold appendMove
  try dsimp only
  repeat' first
    | with_reducible refine Touches.bind ?_ fun _ => ?_
    | with_reducible refine Touches.ite ?_ ?_
    | with_reducible exact Touches.pure _
    | with_reducible exact Touches.rd
    | (with_reducible apply startMove_touches); rfl
    | (with_reducible apply replan_touches); rfl
    | (with_reducible apply showQueue_touches); rfl
    | (with_reducible apply Touches.emitM (M := 1125899906842624)) <;> rfl
    | with_reducible split
    | with_reducible dsimp only

theorem clearAxis_touches (a) (st) (result) {L : Nat} (h : Nat.lor 1125899906844672 L = L) : Touches L (clearAxis a st result) := by
  refine Touches.mono (L := 1125899906844672) ?_ h
  unfold clearAxis
  try dsimp only
  repeat' first
    | with_reducible refine Touches.bind ?_ fun _ => ?_
    | with_reducible refine Touches.ite ?_ ?_
    | with_reducible exact Touches.pure _
    | with_reducible exact Touches.rd
    | (with_reducible apply Touches.setF) <;> (first | with_reducible exact F.STP_STAT_STATE_window _ | with_reducible exact F.STP_STAT_RESULT_window _ | rfl)
    | (with_reducible apply showQueue_touches); rfl
    | (with_reducible apply Touches.emitM (M := 1125899906842624)) <;> rfl
    | with_reducible split
    | with_reducible dsimp only

theorem stepTo_touches (a) (rest) {L : Nat} (h : Nat.lor 1125899906844672 L = L) : Touches L (stepTo a rest) := by
  refine Touches.mono (L := 1125899906844672) ?_ h
  unfold stepTo
  try dsimp only
  repeat' first
    | with_reducible refine Touches.bind ?_ fun _ => ?_
    | with_reducible refine Touches.ite ?_ ?_
    | with_reducible exact Touches.pure _
    | with_reducible exact Touches.rd
    | (with_reducible apply Touches.setI) <;> (first | with_reducible exact F.STP_POS_POS_window _ | rfl)
    | (with_reducible apply Touches.addWrap) <;> (first | with_reducible exact F.STP_STEP_CNT_CNT_window _ | rfl)
    | (with_reducible apply Touches.emitM (M := 1125899906842624)) <;> rfl
    | with_reducible split
    | with_reducible dsimp only

theorem haltAxis_touches (a) (result) {L : Nat} (h : Nat.lor 1125899906844672 L = L) : Touches L (haltAxis a result) := by
  refine Touches.mono (L := 1125899906844672) ?_ h
  unfold haltAxis
  try dsimp only
  repeat' first
    | with_reducible refine Touches.bind ?_ fun _ => ?_
    | with_reducible refine Touches.ite ?_ ?_
    | with_reducible exact Touches.pure _
    | with_reducible exact Touches.rd
    | (with_reducible apply stepTo_touches); rfl
    | (with_reducible apply clearAxis_touches); rfl
    | with_reducible split
    | with_reducible dsimp only

theorem parkSled_touches (a) {L : Nat} (h : Nat.lor 1125899906844672 L = L) : Touches L (parkSled a) := by
  refine Touches.mono (L := 1125899906844672) ?_ h
  unfold parkSled
  try dsimp only
  repeat' first
    | with_reducible refine Touches.bind ?_ fun _ => ?_
    | with_reducible refine Touches.ite ?_ ?_
    | with_reducible exact Touches.pure _
    | with_reducible exact Touches.rd
    | (with_reducible apply haltAxis_touches); rfl
    | (with_reducible apply appendMove_touches); rfl
    | with_reducible split
    | with_reducible dsimp only

theorem requestSeek_touches (k) (track) {L : Nat} (h : Nat.lor 1125899906844672 L = L) : Touches L (requestSeek k track) := by
  refine Touches.mono (L := 1125899906844672) ?_ h
  unfold requestSeek
  try dsimp only
  repeat' first
    | with_reducible refine Touches.bind ?_ fun _ => ?_
    | with_reducible refine Touches.ite ?_ ?_
    | with_reducible exact Touches.pure _
    | with_reducible exact Touches.rd
    | (with_reducible apply appendMove_touches); rfl
    | (with_reducible apply Touches.emitM (M := 1125899906842624)) <;> rfl
    | with_reducible split
    | with_reducible dsimp only

theorem finishPark_touches (b) {L : Nat} (h : Nat.lor 225233857508741190 L = L) : Touches L (finishPark b) := by
  refine Touches.mono (L := 225233857508741190) ?_ h
  unfold finishPark
  try dsimp only
  repeat' first
    | with_reducible refine Touches.bind ?_ fun _ => ?_
    | with_reducible refine Touches.ite ?_ ?_
    | with_reducible exact Touches.pure _
    | with_reducible exact Touches.rd
    | (with_reducible apply setBay_touches); rfl
    | (with_reducible apply Touches.emitM (M := 17592186044416)) <;> rfl
    | with_reducible split
    | with_reducible dsimp only

theorem parkBay_touches (b) {L : Nat} (h : Nat.lor 263022148010352198 L = L) : Touches L (parkBay b) := by
  refine Touches.mono (L := 263022148010352198) ?_ h
  unfold parkBay
  try dsimp only
  repeat' first
    | with_reducible refine Touches.bind ?_ fun _ => ?_
    | with_reducible refine Touches.ite ?_ ?_
    | with_reducible exact Touches.pure _
    | with_reducible exact Touches.rd
    | (with_reducible apply stopMotor_touches); rfl
    | (with_reducible apply setBay_touches); rfl
    | (with_reducible apply retract_touches); rfl
    | (with_reducible apply parkSled_touches); rfl
    | (with_reducible apply finishPark_touches); rfl
    | with_reducible refine Touches.forAll fun _ => ?_
    | (with_reducible apply Touches.emitM (M := 70368744177664)) <;> rfl
    | with_reducible split
    | with_reducible dsimp only

theorem parkToFaulted_touches (b) {L : Nat} (h : Nat.lor 263022148010352198 L = L) : Touches L (parkToFaulted b) := by
  refine Touches.mono (L := 263022148010352198) ?_ h
  unfold parkToFaulted
  try dsimp only
  repeat' first
    | with_reducible refine Touches.bind ?_ fun _ => ?_
    | with_reducible refine Touches.ite ?_ ?_
    | with_reducible exact Touches.pure _
    | with_reducible exact Touches.rd
    | (with_reducible apply parkBay_touches); rfl
    | (with_reducible apply setBay_touches); rfl
    | (with_reducible apply Touches.emitM (M := 17592186044416)) <;> rfl
    | with_reducible split
    | with_reducible dsimp only

theorem stopBay_touches (b) {L : Nat} (h : Nat.lor 263022148010352198 L = L) : Touches L (stopBay b) := by
  refine Touches.mono (L := 263022148010352198) ?_ h
  unfold stopBay
  try dsimp only
  repeat' first
    | with_reducible refine Touches.bind ?_ fun _ => ?_
    | with_reducible refine Touches.ite ?_ ?_
    | with_reducible exact Touches.pure _
    | with_reducible exact Touches.rd
    | (with_reducible apply parkBay_touches); rfl
    | (with_reducible apply parkSled_touches); rfl
    | with_reducible refine Touches.forAll fun _ => ?_
    | with_reducible split
    | with_reducible dsimp only

theorem enterSafe_touches (cause) {L : Nat} (h : Nat.lor 263022148144569927 L = L) : Touches L (enterSafe cause) := by
  refine Touches.mono (L := 263022148144569927) ?_ h
  unfold enterSafe
  try dsimp only
  repeat' first
    | with_reducible refine Touches.bind ?_ fun _ => ?_
    | with_reducible refine Touches.ite ?_ ?_
    | with_reducible exact Touches.pure _
    | with_reducible exact Touches.rd
    | (with_reducible apply Touches.setF) <;> (first | with_reducible exact F.DEV_MODE_STAT_OK_TO_REMOVE_window | with_reducible exact F.DEV_MODE_STAT_TRANSITION_window | rfl)
    | (with_reducible apply changeMode_touches); rfl
    | (with_reducible apply retract_touches); rfl
    | (with_reducible apply stopBay_touches); rfl
    | with_reducible refine Touches.forAll fun _ => ?_
    | (with_reducible apply Touches.emitM (M := 67108864)) <;> rfl
    | (with_reducible apply Touches.emitM (M := 134217728)) <;> rfl
    | with_reducible split
    | with_reducible dsimp only

theorem outsideModel_touches {L : Nat} (h : Nat.lor 263022148144569927 L = L) : Touches L (outsideModel) := by
  refine Touches.mono (L := 263022148144569927) ?_ h
  unfold outsideModel
  try dsimp only
  repeat' first
    | with_reducible refine Touches.bind ?_ fun _ => ?_
    | with_reducible refine Touches.ite ?_ ?_
    | with_reducible exact Touches.pure _
    | with_reducible exact Touches.rd
    | (with_reducible apply raise_touches); rfl
    | (with_reducible apply enterSafe_touches); rfl
    | with_reducible split
    | with_reducible dsimp only

theorem beginSingle_touches (f) {L : Nat} (h : Nat.lor 263022148144569927 L = L) : Touches L (beginSingle f) := by
  refine Touches.mono (L := 263022148144569927) ?_ h
  unfold beginSingle
  try dsimp only
  repeat' first
    | with_reducible refine Touches.bind ?_ fun _ => ?_
    | with_reducible refine Touches.ite ?_ ?_
    | with_reducible exact Touches.pure _
    | with_reducible exact Touches.rd
    | (with_reducible apply raise_touches); rfl
    | (with_reducible apply outsideModel_touches); rfl
    | (with_reducible apply Touches.emitM (M := 67108864)) <;> rfl
    | with_reducible split
    | with_reducible dsimp only

theorem endSingle_touches (f) {L : Nat} (h : Nat.lor 144116287657738310 L = L) : Touches L (endSingle f) := by
  refine Touches.mono (L := 144116287657738310) ?_ h
  unfold endSingle
  try dsimp only
  repeat' first
    | with_reducible refine Touches.bind ?_ fun _ => ?_
    | with_reducible refine Touches.ite ?_ ?_
    | with_reducible exact Touches.pure _
    | with_reducible exact Touches.rd
    | (with_reducible apply raise_touches); rfl
    | (with_reducible apply attend_touches); rfl
    | (with_reducible apply Touches.emitM (M := 67108864)) <;> rfl
    | with_reducible split
    | with_reducible dsimp only

theorem optPhase_touches (k) (p) {L : Nat} (h : Nat.lor 70368744177664 L = L) : Touches L (optPhase k p) := by
  refine Touches.mono (L := 70368744177664) ?_ h
  unfold optPhase
  try dsimp only
  repeat' first
    | with_reducible refine Touches.bind ?_ fun _ => ?_
    | with_reducible refine Touches.ite ?_ ?_
    | with_reducible exact Touches.pure _
    | with_reducible exact Touches.rd
    | (with_reducible apply Touches.emitM (M := 70368744177664)) <;> rfl
    | with_reducible split
    | with_reducible dsimp only

theorem movePresets_touches (k) (layer) {L : Nat} (h : Nat.lor 70368744177664 L = L) : Touches L (movePresets k layer) := by
  refine Touches.mono (L := 70368744177664) ?_ h
  unfold movePresets
  try dsimp only
  repeat' first
    | with_reducible refine Touches.bind ?_ fun _ => ?_
    | with_reducible refine Touches.ite ?_ ?_
    | with_reducible exact Touches.pure _
    | with_reducible exact Touches.rd
    | (with_reducible apply Touches.emitM (M := 70368744177664)) <;> rfl
    | with_reducible split
    | with_reducible dsimp only

theorem enableLaser_touches (k) {L : Nat} (h : Nat.lor 70368744177664 L = L) : Touches L (enableLaser k) := by
  refine Touches.mono (L := 70368744177664) ?_ h
  unfold enableLaser
  try dsimp only
  repeat' first
    | with_reducible refine Touches.bind ?_ fun _ => ?_
    | with_reducible refine Touches.ite ?_ ?_
    | with_reducible exact Touches.pure _
    | with_reducible exact Touches.rd
    | (with_reducible apply Touches.emitM (M := 70368744177664)) <;> rfl
    | with_reducible split
    | with_reducible dsimp only

theorem beginAcquire_touches (k) (layer) {L : Nat} (h : Nat.lor 70368744440320 L = L) : Touches L (beginAcquire k layer) := by
  refine Touches.mono (L := 70368744440320) ?_ h
  unfold beginAcquire
  try dsimp only
  repeat' first
    | with_reducible refine Touches.bind ?_ fun _ => ?_
    | with_reducible refine Touches.ite ?_ ?_
    | with_reducible exact Touches.pure _
    | with_reducible exact Touches.rd
    | (with_reducible apply Touches.setF) <;> (first | with_reducible exact F.BAY_OPT_CMD_CMD_window _ | with_reducible exact F.BAY_OPT_STAT_LAYER_window _ | rfl)
    | (with_reducible apply enableLaser_touches); rfl
    | (with_reducible apply movePresets_touches); rfl
    | (with_reducible apply freeze_touches); rfl
    | (with_reducible apply Touches.emitM (M := 70368744177664)) <;> rfl
    | with_reducible split
    | with_reducible dsimp only

theorem beginHop_touches (k) {L : Nat} (h : Nat.lor 70368744178176 L = L) : Touches L (beginHop k) := by
  refine Touches.mono (L := 70368744178176) ?_ h
  unfold beginHop
  try dsimp only
  repeat' first
    | with_reducible refine Touches.bind ?_ fun _ => ?_
    | with_reducible refine Touches.ite ?_ ?_
    | with_reducible exact Touches.pure _
    | with_reducible exact Touches.rd
    | (with_reducible apply freeze_touches); rfl
    | (with_reducible apply movePresets_touches); rfl
    | (with_reducible apply Touches.emitM (M := 70368744177664)) <;> rfl
    | with_reducible split
    | with_reducible dsimp only

theorem beginLayerJump_touches (k) (layer) (cmd) {L : Nat} (h : Nat.lor 70368744444416 L = L) : Touches L (beginLayerJump k layer cmd) := by
  refine Touches.mono (L := 70368744444416) ?_ h
  unfold beginLayerJump
  try dsimp only
  repeat' first
    | with_reducible refine Touches.bind ?_ fun _ => ?_
    | with_reducible refine Touches.ite ?_ ?_
    | with_reducible exact Touches.pure _
    | with_reducible exact Touches.rd
    | (with_reducible apply Touches.setF) <;> (first | with_reducible exact F.BAY_OPT_CMD_CMD_window _ | with_reducible exact F.BAY_OPT_STAT_LAYER_JUMP_window _ | with_reducible exact F.RCH_SPK_STAT_STATE_window _ | rfl)
    | (with_reducible apply optPhase_touches); rfl
    | (with_reducible apply beginHop_touches); rfl
    | (with_reducible apply Touches.emitM (M := 70368744177664)) <;> rfl
    | with_reducible split
    | with_reducible dsimp only

theorem beginPullIn_touches (k) (cmd) {L : Nat} (h : Nat.lor 70368744440320 L = L) : Touches L (beginPullIn k cmd) := by
  refine Touches.mono (L := 70368744440320) ?_ h
  unfold beginPullIn
  try dsimp only
  repeat' first
    | with_reducible refine Touches.bind ?_ fun _ => ?_
    | with_reducible refine Touches.ite ?_ ?_
    | with_reducible exact Touches.pure _
    | with_reducible exact Touches.rd
    | (with_reducible apply Touches.setF) <;> (first | with_reducible exact F.BAY_OPT_CMD_CMD_window _ | with_reducible exact F.BAY_OPT_STAT_PULL_IN_window _ | rfl)
    | (with_reducible apply freeze_touches); rfl
    | (with_reducible apply Touches.emitM (M := 70368744177664)) <;> rfl
    | with_reducible split
    | with_reducible dsimp only

theorem beginJump_touches (k) (dist) (cmd) {L : Nat} (h : Nat.lor 105553116529152 L = L) : Touches L (beginJump k dist cmd) := by
  refine Touches.mono (L := 105553116529152) ?_ h
  unfold beginJump
  try dsimp only
  repeat' first
    | with_reducible refine Touches.bind ?_ fun _ => ?_
    | with_reducible refine Touches.ite ?_ ?_
    | with_reducible exact Touches.pure _
    | with_reducible exact Touches.rd
    | (with_reducible apply Touches.setF) <;> (first | with_reducible exact F.BAY_OPT_CMD_CMD_window _ | with_reducible exact F.BAY_OPT_STAT_JUMP_window _ | rfl)
    | (with_reducible apply freeze_touches); rfl
    | (with_reducible apply Touches.emitM (M := 35184372088832)) <;> rfl
    | (with_reducible apply Touches.emitM (M := 70368744177664)) <;> rfl
    | with_reducible split
    | with_reducible dsimp only

theorem acquireFailed_touches (k) {L : Nat} (h : Nat.lor 108157034681434624 L = L) : Touches L (acquireFailed k) := by
  refine Touches.mono (L := 108157034681434624) ?_ h
  unfold acquireFailed
  try dsimp only
  repeat' first
    | with_reducible refine Touches.bind ?_ fun _ => ?_
    | with_reducible refine Touches.ite ?_ ?_
    | with_reducible exact Touches.pure _
    | with_reducible exact Touches.rd
    | (with_reducible apply countFailure_touches); rfl
    | (with_reducible apply optCut_touches); rfl
    | (with_reducible apply retract_touches); rfl
    | (with_reducible apply Touches.emitM (M := 70368744177664)) <;> rfl
    | with_reducible split
    | with_reducible dsimp only

theorem pullInFailed_touches (k) {L : Nat} (h : Nat.lor 261280521591816774 L = L) : Touches L (pullInFailed k) := by
  refine Touches.mono (L := 261280521591816774) ?_ h
  unfold pullInFailed
  try dsimp only
  repeat' first
    | with_reducible refine Touches.bind ?_ fun _ => ?_
    | with_reducible refine Touches.ite ?_ ?_
    | with_reducible exact Touches.pure _
    | with_reducible exact Touches.rd
    | (with_reducible apply loseFocus_touches); rfl
    | (with_reducible apply countFailure_touches); rfl
    | (with_reducible apply optEnd_touches); rfl
    | (with_reducible apply Touches.emitM (M := 70368744177664)) <;> rfl
    | with_reducible split
    | with_reducible dsimp only

theorem hopFailed_touches (k) {L : Nat} (h : Nat.lor 261280521591816774 L = L) : Touches L (hopFailed k) := by
  refine Touches.mono (L := 261280521591816774) ?_ h
  unfold hopFailed
  try dsimp only
  repeat' first
    | with_reducible refine Touches.bind ?_ fun _ => ?_
    | with_reducible refine Touches.ite ?_ ?_
    | with_reducible exact Touches.pure _
    | with_reducible exact Touches.rd
    | (with_reducible apply raiseOpu_touches); rfl
    | (with_reducible apply loseFocus_touches); rfl
    | with_reducible split
    | with_reducible dsimp only

theorem pulledIn_touches (k) {L : Nat} (h : Nat.lor 70368744440320 L = L) : Touches L (pulledIn k) := by
  refine Touches.mono (L := 70368744440320) ?_ h
  unfold pulledIn
  try dsimp only
  repeat' first
    | with_reducible refine Touches.bind ?_ fun _ => ?_
    | with_reducible refine Touches.ite ?_ ?_
    | with_reducible exact Touches.pure _
    | with_reducible exact Touches.rd
    | (with_reducible apply Touches.setF) <;> (first | with_reducible exact F.BAY_OPT_STAT_FAIL_RUN_window _ | rfl)
    | (with_reducible apply optEnd_touches); rfl
    | (with_reducible apply Touches.emitM (M := 70368744177664)) <;> rfl
    | with_reducible split
    | with_reducible dsimp only

theorem jumpLanded_touches (k) (late) {L : Nat} (h : Nat.lor 144186656402178630 L = L) : Touches L (jumpLanded k late) := by
  refine Touches.mono (L := 144186656402178630) ?_ h
  unfold jumpLanded
  try dsimp only
  repeat' first
    | with_reducible refine Touches.bind ?_ fun _ => ?_
    | with_reducible refine Touches.ite ?_ ?_
    | with_reducible exact Touches.pure _
    | with_reducible exact Touches.rd
    | (with_reducible apply Touches.setF) <;> (first | with_reducible exact F.BAY_OPT_STAT_JUMP_window _ | rfl)
    | (with_reducible apply Touches.incStop) <;> (first | with_reducible exact F.BAY_JUMP_LATE_CNT_CNT_window _ | rfl)
    | (with_reducible apply raiseOpu_touches); rfl
    | (with_reducible apply freeze_touches); rfl
    | (with_reducible apply pulledIn_touches); rfl
    | (with_reducible apply optEnd_touches); rfl
    | (with_reducible apply Touches.emitM (M := 70368744177664)) <;> rfl
    | with_reducible split
    | with_reducible dsimp only

theorem optRefuse_touches (k) (result) {L : Nat} (h : Nat.lor 144116287658000454 L = L) : Touches L (optRefuse k result) := by
  refine Touches.mono (L := 144116287658000454) ?_ h
  unfold optRefuse
  try dsimp only
  repeat' first
    | with_reducible refine Touches.bind ?_ fun _ => ?_
    | with_reducible refine Touches.ite ?_ ?_
    | with_reducible exact Touches.pure _
    | with_reducible exact Touches.rd
    | (with_reducible apply Touches.setF) <;> (first | with_reducible exact F.BAY_OPT_STAT_RESULT_window _ | rfl)
    | (with_reducible apply raiseOpu_touches); rfl
    | with_reducible split
    | with_reducible dsimp only

theorem optCommand_touches (k) (cmd) (layer) (dist) (atSpoke) (spoke) {L : Nat} (h : Nat.lor 252308506709168710 L = L) : Touches L (optCommand k cmd layer dist atSpoke spoke) := by
  refine Touches.mono (L := 252308506709168710) ?_ h
  unfold optCommand
  try dsimp only
  repeat' first
    | with_reducible refine Touches.bind ?_ fun _ => ?_
    | with_reducible refine Touches.ite ?_ ?_
    | with_reducible exact Touches.pure _
    | with_reducible exact Touches.rd
    | (with_reducible apply Touches.setF) <;> (first | with_reducible exact F.BAY_OPT_STAT_RESULT_window _ | with_reducible exact F.BAY_OPT_CMD_CMD_window _ | with_reducible exact F.BAY_OPT_STAT_LAYER_JUMP_window _ | rfl)
    | (with_reducible apply optRefuse_touches); rfl
    | (with_reducible apply retract_touches); rfl
    | (with_reducible apply beginAcquire_touches); rfl
    | (with_reducible apply beginLayerJump_touches); rfl
    | (with_reducible apply beginPullIn_touches); rfl
    | (with_reducible apply beginJump_touches); rfl
    | (with_reducible apply Touches.emitM (M := 70368744177664)) <;> rfl
    | with_reducible split
    | with_reducible dsimp only

theorem startPending_touches (k) {L : Nat} (h : Nat.lor 144221840774271558 L = L) : Touches L (startPending k) := by
  refine Touches.mono (L := 144221840774271558) ?_ h
  unfold startPending
  try dsimp only
  repeat' first
    | with_reducible refine Touches.bind ?_ fun _ => ?_
    | with_reducible refine Touches.ite ?_ ?_
    | with_reducible exact Touches.pure _
    | with_reducible exact Touches.rd
    | (with_reducible apply beginAcquire_touches); rfl
    | (with_reducible apply optCut_touches); rfl
    | (with_reducible apply raiseOpu_touches); rfl
    | (with_reducible apply beginLayerJump_touches); rfl
    | (with_reducible apply beginPullIn_touches); rfl
    | (with_reducible apply beginJump_touches); rfl
    | (with_reducible apply Touches.emitM (M := 70368744177664)) <;> rfl
    | with_reducible split
    | with_reducible dsimp only

theorem settleBay_touches (b) {L : Nat} (h : Nat.lor 263022148010352198 L = L) : Touches L (settleBay b) := by
  refine Touches.mono (L := 263022148010352198) ?_ h
  unfold settleBay
  try dsimp only
  repeat' first
    | with_reducible refine Touches.bind ?_ fun _ => ?_
    | with_reducible refine Touches.ite ?_ ?_
    | with_reducible exact Touches.pure _
    | with_reducible exact Touches.rd
    | (with_reducible apply parkBay_touches); rfl
    | (with_reducible apply setBay_touches); rfl
    | (with_reducible apply beginAcquire_touches); rfl
    | with_reducible refine Touches.forAll fun _ => ?_
    | (with_reducible apply Touches.emitM (M := 17592186044416)) <;> rfl
    | with_reducible split
    | with_reducible dsimp only

theorem motorSample_touches (b) (speed) (phase) (valid) {L : Nat} (h : Nat.lor 703687441777664 L = L) : Touches L (motorSample b speed phase valid) := by
  refine Touches.mono (L := 703687441777664) ?_ h
  unfold motorSample
  try dsimp only
  repeat' first
    | with_reducible refine Touches.bind ?_ fun _ => ?_
    | with_reducible refine Touches.ite ?_ ?_
    | with_reducible exact Touches.pure _
    | with_reducible exact Touches.rd
    | (with_reducible apply setMotor_touches); rfl
    | (with_reducible apply setMotorResult_touches); rfl
    | (with_reducible apply Touches.emitM (M := 140737488355328)) <;> rfl
    | (with_reducible apply Touches.emitM (M := 562949953421312)) <;> rfl
    | with_reducible split
    | with_reducible dsimp only

theorem spindleSpoke_touches (k) (pos) (period) {L : Nat} (h : Nat.lor 756463999910912 L = L) : Touches L (spindleSpoke k pos period) := by
  refine Touches.mono (L := 756463999910912) ?_ h
  unfold spindleSpoke
  try dsimp only
  repeat' first
    | with_reducible refine Touches.bind ?_ fun _ => ?_
    | with_reducible refine Touches.ite ?_ ?_
    | with_reducible exact Touches.pure _
    | with_reducible exact Touches.rd
    | (with_reducible apply motorSample_touches); rfl
    | (with_reducible apply Touches.emitM (M := 35184372088832)) <;> rfl
    | (with_reducible apply Touches.emitM (M := 17592186044416)) <;> rfl
    | with_reducible split
    | with_reducible dsimp only

theorem noSpindleSample_touches (k) {L : Nat} (h : Nat.lor 598134325510144 L = L) : Touches L (noSpindleSample k) := by
  refine Touches.mono (L := 598134325510144) ?_ h
  unfold noSpindleSample
  try dsimp only
  repeat' first
    | with_reducible refine Touches.bind ?_ fun _ => ?_
    | with_reducible refine Touches.ite ?_ ?_
    | with_reducible exact Touches.pure _
    | with_reducible exact Touches.rd
    | (with_reducible apply Touches.emitM (M := 35184372088832)) <;> rfl
    | (with_reducible apply Touches.emitM (M := 562949953421312)) <;> rfl
    | with_reducible split
    | with_reducible dsimp only

theorem seekLanded_touches (k) (t) {L : Nat} (h : Nat.lor 263022148010352198 L = L) : Touches L (seekLanded k t) := by
  refine Touches.mono (L := 263022148010352198) ?_ h
  unfold seekLanded
  try dsimp only
  repeat' first
    | with_reducible refine Touches.bind ?_ fun _ => ?_
    | with_reducible refine Touches.ite ?_ ?_
    | with_reducible exact Touches.pure _
    | with_reducible exact Touches.rd
    | (with_reducible apply Touches.setF) <;> (first | with_reducible exact F.STP_STAT_SLIP_window _ | with_reducible exact F.STP_STAT_STATE_window _ | with_reducible exact F.STP_STAT_RESULT_window _ | rfl)
    | (with_reducible apply Touches.setI) <;> (first | with_reducible exact F.STP_LAST_SLIP_SLIP_window _ | with_reducible exact F.STP_POS_POS_window _ | rfl)
    | (with_reducible apply Touches.incStop) <;> (first | with_reducible exact F.STP_SLIP_CNT_CNT_window _ | rfl)
    | (with_reducible apply seekTo_touches); rfl
    | (with_reducible apply raiseAxis_touches); rfl
    | (with_reducible apply startPair_touches); rfl
    | (with_reducible apply parkToFaulted_touches); rfl
    | (with_reducible apply beginPullIn_touches); rfl
    | (with_reducible apply requestSeek_touches); rfl
    | (with_reducible apply Touches.emitM (M := 1125899906842624)) <;> rfl
    | (with_reducible apply Touches.emitM (M := 35184372088832)) <;> rfl
    | (with_reducible apply Touches.emitM (M := 70368744177664)) <;> rfl
    | with_reducible split
    | with_reducible dsimp only

theorem landingSpoke_touches (k) (t) {L : Nat} (h : Nat.lor 263022148010352198 L = L) : Touches L (landingSpoke k t) := by
  refine Touches.mono (L := 263022148010352198) ?_ h
  unfold landingSpoke
  try dsimp only
  repeat' first
    | with_reducible refine Touches.bind ?_ fun _ => ?_
    | with_reducible refine Touches.ite ?_ ?_
    | with_reducible exact Touches.pure _
    | with_reducible exact Touches.rd
    | (with_reducible apply seekLanded_touches); rfl
    | (with_reducible apply Touches.emitM (M := 1125899906842624)) <;> rfl
    | with_reducible split
    | with_reducible dsimp only

theorem onTrackSet_touches (k) {L : Nat} (h : Nat.lor 70368744440320 L = L) : Touches L (onTrackSet k) := by
  refine Touches.mono (L := 70368744440320) ?_ h
  unfold onTrackSet
  try dsimp only
  repeat' first
    | with_reducible refine Touches.bind ?_ fun _ => ?_
    | with_reducible refine Touches.ite ?_ ?_
    | with_reducible exact Touches.pure _
    | with_reducible exact Touches.rd
    | (with_reducible apply Touches.setF) <;> (first | with_reducible exact F.BAY_OPT_STAT_ON_TRACK_window _ | with_reducible exact F.BAY_OPT_STAT_PULL_IN_window _ | rfl)
    | (with_reducible apply pulledIn_touches); rfl
    | (with_reducible apply Touches.emitM (M := 70368744177664)) <;> rfl
    | with_reducible split
    | with_reducible dsimp only

theorem clearOnTrack_touches (k) {L : Nat} (h : Nat.lor 70368744439808 L = L) : Touches L (clearOnTrack k) := by
  refine Touches.mono (L := 70368744439808) ?_ h
  unfold clearOnTrack
  try dsimp only
  repeat' first
    | with_reducible refine Touches.bind ?_ fun _ => ?_
    | with_reducible refine Touches.ite ?_ ?_
    | with_reducible exact Touches.pure _
    | with_reducible exact Touches.rd
    | (with_reducible apply Touches.setF) <;> (first | with_reducible exact F.BAY_OPT_STAT_ON_TRACK_window _ | rfl)
    | (with_reducible apply Touches.emitM (M := 70368744177664)) <;> rfl
    | with_reducible split
    | with_reducible dsimp only

theorem updateOnTrack_touches (k) (good) (bad) {L : Nat} (h : Nat.lor 70368744440320 L = L) : Touches L (updateOnTrack k good bad) := by
  refine Touches.mono (L := 70368744440320) ?_ h
  unfold updateOnTrack
  try dsimp only
  repeat' first
    | with_reducible refine Touches.bind ?_ fun _ => ?_
    | with_reducible refine Touches.ite ?_ ?_
    | with_reducible exact Touches.pure _
    | with_reducible exact Touches.rd
    | (with_reducible apply clearOnTrack_touches); rfl
    | (with_reducible apply onTrackSet_touches); rfl
    | (with_reducible apply Touches.emitM (M := 70368744177664)) <;> rfl
    | with_reducible split
    | with_reducible dsimp only

theorem landJump_touches (k) (good) (index) {L : Nat} (h : Nat.lor 144186656402178630 L = L) : Touches L (landJump k good index) := by
  refine Touches.mono (L := 144186656402178630) ?_ h
  unfold landJump
  try dsimp only
  repeat' first
    | with_reducible refine Touches.bind ?_ fun _ => ?_
    | with_reducible refine Touches.ite ?_ ?_
    | with_reducible exact Touches.pure _
    | with_reducible exact Touches.rd
    | (with_reducible apply jumpLanded_touches); rfl
    | (with_reducible apply Touches.emitM (M := 70368744177664)) <;> rfl
    | with_reducible split
    | with_reducible dsimp only

theorem pullInSpoke_touches (k) (t) (pes) {L : Nat} (h : Nat.lor 1231453023373824 L = L) : Touches L (pullInSpoke k t pes) := by
  refine Touches.mono (L := 1231453023373824) ?_ h
  unfold pullInSpoke
  try dsimp only
  repeat' first
    | with_reducible refine Touches.bind ?_ fun _ => ?_
    | with_reducible refine Touches.ite ?_ ?_
    | with_reducible exact Touches.pure _
    | with_reducible exact Touches.rd
    | (with_reducible apply freeze_touches); rfl
    | (with_reducible apply pulledIn_touches); rfl
    | (with_reducible apply optPhase_touches); rfl
    | (with_reducible apply beginJump_touches); rfl
    | (with_reducible apply requestSeek_touches); rfl
    | (with_reducible apply Touches.emitM (M := 70368744177664)) <;> rfl
    | with_reducible split
    | with_reducible dsimp only

theorem sequenceSpoke_touches (k) (t) (layer) (pes) {L : Nat} (h : Nat.lor 1231453023377920 L = L) : Touches L (sequenceSpoke k t layer pes) := by
  refine Touches.mono (L := 1231453023377920) ?_ h
  unfold sequenceSpoke
  try dsimp only
  repeat' first
    | with_reducible refine Touches.bind ?_ fun _ => ?_
    | with_reducible refine Touches.ite ?_ ?_
    | with_reducible exact Touches.pure _
    | with_reducible exact Touches.rd
    | (with_reducible apply beginPullIn_touches); rfl
    | (with_reducible apply beginLayerJump_touches); rfl
    | (with_reducible apply pullInSpoke_touches); rfl
    | with_reducible split
    | with_reducible dsimp only

theorem enterSearch_touches (k) {L : Nat} (h : Nat.lor 153229040029012550 L = L) : Touches L (enterSearch k) := by
  refine Touches.mono (L := 153229040029012550) ?_ h
  unfold enterSearch
  try dsimp only
  repeat' first
    | with_reducible refine Touches.bind ?_ fun _ => ?_
    | with_reducible refine Touches.ite ?_ ?_
    | with_reducible exact Touches.pure _
    | with_reducible exact Touches.rd
    | (with_reducible apply Touches.setF) <;> (first | with_reducible exact F.RCH_SPK_STAT_STATE_window _ | rfl)
    | (with_reducible apply cutReads_touches); rfl
    | (with_reducible apply clearOnTrack_touches); rfl
    | (with_reducible apply optEnd_touches); rfl
    | (with_reducible apply jumpLanded_touches); rfl
    | (with_reducible apply Touches.emitM (M := 35184372088832)) <;> rfl
    | with_reducible split
    | with_reducible dsimp only

theorem layerMismatch_touches (k) (layer) {L : Nat} (h : Nat.lor 261280521591820870 L = L) : Touches L (layerMismatch k layer) := by
  refine Touches.mono (L := 261280521591820870) ?_ h
  unfold layerMismatch
  try dsimp only
  repeat' first
    | with_reducible refine Touches.bind ?_ fun _ => ?_
    | with_reducible refine Touches.ite ?_ ?_
    | with_reducible exact Touches.pure _
    | with_reducible exact Touches.rd
    | (with_reducible apply Touches.setF) <;> (first | with_reducible exact F.RCH_SPK_STAT_LAYER_MISMATCH_window _ | with_reducible exact F.BAY_OPT_STAT_LAYER_window _ | with_reducible exact F.BAY_OPT_CMD_CMD_window _ | rfl)
    | (with_reducible apply raiseOpu_touches); rfl
    | (with_reducible apply stopWriteNow_touches); rfl
    | (with_reducible apply loseFocus_touches); rfl
    | (with_reducible apply optCut_touches); rfl
    | (with_reducible apply movePresets_touches); rfl
    | (with_reducible apply Touches.emitM (M := 70368744177664)) <;> rfl
    | with_reducible split
    | with_reducible dsimp only

theorem mismatchRuns_touches (k) (v) {L : Nat} (h : Nat.lor 261315705963909702 L = L) : Touches L (mismatchRuns k v) := by
  refine Touches.mono (L := 261315705963909702) ?_ h
  unfold mismatchRuns
  try dsimp only
  repeat' first
    | with_reducible refine Touches.bind ?_ fun _ => ?_
    | with_reducible refine Touches.ite ?_ ?_
    | with_reducible exact Touches.pure _
    | with_reducible exact Touches.rd
    | (with_reducible apply Touches.setF) <;> (first | with_reducible exact F.RCH_SPK_STAT_SIDE_MISMATCH_window _ | rfl)
    | (with_reducible apply raiseOpu_touches); rfl
    | (with_reducible apply layerMismatch_touches); rfl
    | with_reducible refine Touches.forAll fun _ => ?_
    | (with_reducible apply Touches.emitM (M := 35184372088832)) <;> rfl
    | with_reducible split
    | with_reducible dsimp only

theorem wroteBits_touches (k) (lo) (hi) {L : Nat} (h : Nat.lor 36028797021061120 L = L) : Touches L (wroteBits k lo hi) := by
  refine Touches.mono (L := 36028797021061120) ?_ h
  unfold wroteBits
  try dsimp only
  repeat' first
    | with_reducible refine Touches.bind ?_ fun _ => ?_
    | with_reducible refine Touches.ite ?_ ?_
    | with_reducible exact Touches.pure _
    | with_reducible exact Touches.rd
    | (with_reducible apply Touches.emitM (M := 36028797018963968)) <;> rfl
    | (with_reducible apply Touches.emitM (M := 2097152)) <;> rfl
    | with_reducible split
    | with_reducible dsimp only

theorem sendStart_touches (k) {L : Nat} (h : Nat.lor 36099165765238784 L = L) : Touches L (sendStart k) := by
  refine Touches.mono (L := 36099165765238784) ?_ h
  unfold sendStart
  try dsimp only
  repeat' first
    | with_reducible refine Touches.bind ?_ fun _ => ?_
    | with_reducible refine Touches.ite ?_ ?_
    | with_reducible exact Touches.pure _
    | with_reducible exact Touches.rd
    | (with_reducible apply closeGate_touches); rfl
    | (with_reducible apply wroteBits_touches); rfl
    | (with_reducible apply sendFrame_touches); rfl
    | (with_reducible apply sendSymbols_touches); rfl
    | (with_reducible apply Touches.emitM (M := 70368744177664)) <;> rfl
    | (with_reducible apply Touches.emitM (M := 36028797018963968)) <;> rfl
    | with_reducible split
    | with_reducible dsimp only

theorem writeGate_touches (k) (ok) {L : Nat} (h : Nat.lor 252273047458910278 L = L) : Touches L (writeGate k ok) := by
  refine Touches.mono (L := 252273047458910278) ?_ h
  unfold writeGate
  try dsimp only
  repeat' first
    | with_reducible refine Touches.bind ?_ fun _ => ?_
    | with_reducible refine Touches.ite ?_ ?_
    | with_reducible exact Touches.pure _
    | with_reducible exact Touches.rd
    | (with_reducible apply Touches.setF) <;> (first | with_reducible exact F.RCH_SPK_STAT_WR_GATE_OK_window _ | rfl)
    | (with_reducible apply sendStart_touches); rfl
    | (with_reducible apply stopWriteNow_touches); rfl
    | (with_reducible apply raiseOpu_touches); rfl
    | (with_reducible apply closeGate_touches); rfl
    | (with_reducible apply Touches.emitM (M := 36028797018963968)) <;> rfl
    | with_reducible split
    | with_reducible dsimp only

theorem gateData_touches (k) (x) {L : Nat} (h : Nat.lor 35184372088832 L = L) : Touches L (gateData k x) := by
  refine Touches.mono (L := 35184372088832) ?_ h
  unfold gateData
  try dsimp only
  repeat' first
    | with_reducible refine Touches.bind ?_ fun _ => ?_
    | with_reducible refine Touches.ite ?_ ?_
    | with_reducible exact Touches.pure _
    | with_reducible exact Touches.rd
    | (with_reducible apply Touches.emitM (M := 35184372088832)) <;> rfl
    | with_reducible split
    | with_reducible dsimp only

theorem lockSpoke_touches (k) (x) {L : Nat} (h : Nat.lor 261878655917331014 L = L) : Touches L (lockSpoke k x) := by
  refine Touches.mono (L := 261878655917331014) ?_ h
  unfold lockSpoke
  try dsimp only
  repeat' first
    | with_reducible refine Touches.bind ?_ fun _ => ?_
    | with_reducible refine Touches.ite ?_ ?_
    | with_reducible exact Touches.pure _
    | with_reducible exact Touches.rd
    | (with_reducible apply Touches.setF) <;> (first | with_reducible exact F.RCH_SPK_PERIOD_PERIOD_window _ | with_reducible exact F.RCH_SPK_STAT_LAST_INDEX_window _ | with_reducible exact F.RCH_SPK_STAT_STATE_window _ | with_reducible exact F.RCH_SPK_STAT_MISS_RUN_window _ | rfl)
    | (with_reducible apply writeGate_touches); rfl
    | (with_reducible apply updateOnTrack_touches); rfl
    | (with_reducible apply noSpindleSample_touches); rfl
    | (with_reducible apply enterSearch_touches); rfl
    | (with_reducible apply mismatchRuns_touches); rfl
    | (with_reducible apply Touches.emitM (M := 35184372088832)) <;> rfl
    | with_reducible split
    | with_reducible dsimp only

theorem deliverPes_touches (k) (pes) {L : Nat} (h : Nat.lor 175921860448256 L = L) : Touches L (deliverPes k pes) := by
  refine Touches.mono (L := 175921860448256) ?_ h
  unfold deliverPes
  try dsimp only
  repeat' first
    | with_reducible refine Touches.bind ?_ fun _ => ?_
    | with_reducible refine Touches.ite ?_ ?_
    | with_reducible exact Touches.pure _
    | with_reducible exact Touches.rd
    | (with_reducible apply Touches.setI) <;> (first | with_reducible exact F.RCH_SPK_PES_PES_window _ | rfl)
    | (with_reducible apply Touches.emitM (M := 35184372088832)) <;> rfl
    | (with_reducible apply Touches.emitM (M := 140737488355328)) <;> rfl
    | with_reducible split
    | with_reducible dsimp only

theorem acceptSpoke_touches (k) (c) (v) {L : Nat} (h : Nat.lor 254155411365928518 L = L) : Touches L (acceptSpoke k c v) := by
  refine Touches.mono (L := 254155411365928518) ?_ h
  unfold acceptSpoke
  try dsimp only
  repeat' first
    | with_reducible refine Touches.bind ?_ fun _ => ?_
    | with_reducible refine Touches.ite ?_ ?_
    | with_reducible exact Touches.pure _
    | with_reducible exact Touches.rd
    | (with_reducible apply Touches.setF) <;> (first | with_reducible exact F.RCH_SPK_PERIOD_PERIOD_window _ | with_reducible exact F.RCH_SPK_STAT_MISS_RUN_window _ | with_reducible exact F.RCH_SPK_STAT_LAYER_MISMATCH_window _ | with_reducible exact F.RCH_SPK_STAT_LAST_INDEX_window _ | with_reducible exact F.RCH_SPK_STAT_STATE_window _ | with_reducible exact F.RCH_SPK_POS_TRACK_window _ | with_reducible exact F.RCH_SPK_POS_FLYWHEEL_window _ | with_reducible exact F.RCH_SPK_POS_SIDE_window _ | with_reducible exact F.RCH_SPK_POS_LAYER_window _ | with_reducible exact F.RCH_SPK_POS_ZONE_window _ | rfl)
    | (with_reducible apply Touches.addWrap) <;> (first | with_reducible exact F.RCH_SPK_ACC_CNT_CNT_window _ | rfl)
    | (with_reducible apply deliverPes_touches); rfl
    | (with_reducible apply spindleSpoke_touches); rfl
    | (with_reducible apply writeGate_touches); rfl
    | (with_reducible apply updateOnTrack_touches); rfl
    | (with_reducible apply landJump_touches); rfl
    | (with_reducible apply sequenceSpoke_touches); rfl
    | (with_reducible apply Touches.emitM (M := 35184372088832)) <;> rfl
    | with_reducible split
    | with_reducible dsimp only

theorem coastSpoke_touches (k) (x) (c) (slip) {L : Nat} (h : Nat.lor 262019118527779398 L = L) : Touches L (coastSpoke k x c slip) := by
  refine Touches.mono (L := 262019118527779398) ?_ h
  unfold coastSpoke
  try dsimp only
  repeat' first
    | with_reducible refine Touches.bind ?_ fun _ => ?_
    | with_reducible refine Touches.ite ?_ ?_
    | with_reducible exact Touches.pure _
    | with_reducible exact Touches.rd
    | (with_reducible apply Touches.setF) <;> (first | with_reducible exact F.RCH_SPK_STAT_MISS_RUN_window _ | with_reducible exact F.RCH_SPK_STAT_LAST_INDEX_window _ | with_reducible exact F.RCH_SPK_POS_TRACK_window _ | with_reducible exact F.RCH_SPK_POS_FLYWHEEL_window _ | with_reducible exact F.RCH_SPK_PERIOD_PERIOD_window _ | with_reducible exact F.RCH_SPK_STAT_STATE_window _ | rfl)
    | (with_reducible apply Touches.addWrap) <;> (first | with_reducible exact F.RCH_SPK_POS_CNT_CNT_window _ | with_reducible exact F.RCH_SPK_MISS_CNT_CNT_window _ | rfl)
    | (with_reducible apply deliverPes_touches); rfl
    | (with_reducible apply noSpindleSample_touches); rfl
    | (with_reducible apply writeGate_touches); rfl
    | (with_reducible apply updateOnTrack_touches); rfl
    | (with_reducible apply landJump_touches); rfl
    | (with_reducible apply raiseOpu_touches); rfl
    | (with_reducible apply enterSearch_touches); rfl
    | (with_reducible apply Touches.emitM (M := 35184372088832)) <;> rfl
    | (with_reducible apply Touches.emitM (M := 70368744177664)) <;> rfl
    | with_reducible split
    | with_reducible dsimp only

theorem trackSpoke_touches (k) (x) {L : Nat} (h : Nat.lor 263162885498707526 L = L) : Touches L (trackSpoke k x) := by
  refine Touches.mono (L := 263162885498707526) ?_ h
  unfold trackSpoke
  try dsimp only
  repeat' first
    | with_reducible refine Touches.bind ?_ fun _ => ?_
    | with_reducible refine Touches.ite ?_ ?_
    | with_reducible exact Touches.pure _
    | with_reducible exact Touches.rd
    | (with_reducible apply coastSpoke_touches); rfl
    | (with_reducible apply landingSpoke_touches); rfl
    | (with_reducible apply mismatchRuns_touches); rfl
    | (with_reducible apply acceptSpoke_touches); rfl
    | (with_reducible apply Touches.emitM (M := 35184372088832)) <;> rfl
    | with_reducible split
    | with_reducible dsimp only

theorem receiveSpoke_touches (k) (raw) {L : Nat} (h : Nat.lor 263162885498707526 L = L) : Touches L (receiveSpoke k raw) := by
  refine Touches.mono (L := 263162885498707526) ?_ h
  unfold receiveSpoke
  try dsimp only
  repeat' first
    | with_reducible refine Touches.bind ?_ fun _ => ?_
    | with_reducible refine Touches.ite ?_ ?_
    | with_reducible exact Touches.pure _
    | with_reducible exact Touches.rd
    | (with_reducible apply lockSpoke_touches); rfl
    | (with_reducible apply trackSpoke_touches); rfl
    | (with_reducible apply gateData_touches); rfl
    | (with_reducible apply startPending_touches); rfl
    | (with_reducible apply settleBay_touches); rfl
    | with_reducible split
    | with_reducible dsimp only

theorem execTrackLostCount_touches (k) (s : State) : ∃ u, execTrackLostCount k s = .next u ∧ Same 144186656402178630 s u := by
  unfold execTrackLostCount
  first | apply Touches.answer | apply Touches.answerWhen | (dsimp only; first | apply Touches.answer | apply Touches.answerWhen)
  try dsimp only
  repeat' first
    | with_reducible refine Touches.bind ?_ fun _ => ?_
    | with_reducible refine Touches.ite ?_ ?_
    | with_reducible exact Touches.pure _
    | with_reducible exact Touches.rd
    | (with_reducible apply raiseOpu_touches); rfl
    | (with_reducible apply beginPullIn_touches); rfl
    | with_reducible split
    | with_reducible dsimp only

theorem execLandingTimeout_touches (a) (s : State) : ∃ u, execLandingTimeout a s = .next u ∧ Same 262406421498661446 s u := by
  unfold execLandingTimeout
  first | apply Touches.answer | apply Touches.answerWhen | (dsimp only; first | apply Touches.answer | apply Touches.answerWhen)
  try dsimp only
  repeat' first
    | with_reducible refine Touches.bind ?_ fun _ => ?_
    | with_reducible refine Touches.ite ?_ ?_
    | with_reducible exact Touches.pure _
    | with_reducible exact Touches.rd
    | (with_reducible apply raiseAxis_touches); rfl
    | (with_reducible apply clearAxis_touches); rfl
    | (with_reducible apply loseFocus_touches); rfl
    | with_reducible split
    | with_reducible dsimp only

theorem raiseWrp_touches (i) (k) {L : Nat} (h : Nat.lor 144116287657738310 L = L) : Touches L (raiseWrp i k) := by
  refine Touches.mono (L := 144116287657738310) ?_ h
  unfold raiseWrp
  try dsimp only
  repeat' first
    | with_reducible refine Touches.bind ?_ fun _ => ?_
    | with_reducible refine Touches.ite ?_ ?_
    | with_reducible exact Touches.pure _
    | with_reducible exact Touches.rd
    | (with_reducible apply raise_touches); rfl
    | with_reducible split
    | with_reducible dsimp only

theorem setWiring_touches (k) (c) (clk) {L : Nat} (h : Nat.lor 32768 L = L) : Touches L (setWiring k c clk) := by
  refine Touches.mono (L := 32768) ?_ h
  unfold setWiring
  try dsimp only
  repeat' first
    | with_reducible refine Touches.bind ?_ fun _ => ?_
    | with_reducible refine Touches.ite ?_ ?_
    | with_reducible exact Touches.pure _
    | with_reducible exact Touches.rd
    | (with_reducible apply Touches.setF) <;> (first | with_reducible exact F.WRP_WSL_CTL_SWAP_window _ | with_reducible exact F.WRP_WSL_CTL_INV_0_window _ | with_reducible exact F.WRP_WSL_CTL_INV_1_window _ | with_reducible exact F.WRP_WSL_CTL_CLK_INV_window _ | rfl)
    | with_reducible split
    | with_reducible dsimp only

theorem beginAttempt_touches (k) (second) (wasOn) {L : Nat} (h : Nat.lor 36028797021093888 L = L) : Touches L (beginAttempt k second wasOn) := by
  refine Touches.mono (L := 36028797021093888) ?_ h
  unfold beginAttempt
  try dsimp only
  repeat' first
    | with_reducible refine Touches.bind ?_ fun _ => ?_
    | with_reducible refine Touches.ite ?_ ?_
    | with_reducible exact Touches.pure _
    | with_reducible exact Touches.rd
    | (with_reducible apply setWiring_touches); rfl
    | (with_reducible apply sendFrame_touches); rfl
    | (with_reducible apply Touches.emitM (M := 36028797018963968)) <;> rfl
    | with_reducible split
    | with_reducible dsimp only

theorem trainLink_touches (k) {L : Nat} (h : Nat.lor 36099165765272064 L = L) : Touches L (trainLink k) := by
  refine Touches.mono (L := 36099165765272064) ?_ h
  unfold trainLink
  try dsimp only
  repeat' first
    | with_reducible refine Touches.bind ?_ fun _ => ?_
    | with_reducible refine Touches.ite ?_ ?_
    | with_reducible exact Touches.pure _
    | with_reducible exact Touches.rd
    | (with_reducible apply Touches.setF) <;> (first | with_reducible exact F.WRP_WSL_CTL_TRAIN_window _ | with_reducible exact F.WRP_STAT_STATE_window _ | rfl)
    | (with_reducible apply beginAttempt_touches); rfl
    | (with_reducible apply freeze_touches); rfl
    | (with_reducible apply enableLaser_touches); rfl
    | with_reducible split
    | with_reducible dsimp only

theorem trainEnd_touches (k) (t) (pass) {L : Nat} (h : Nat.lor 261315705963778630 L = L) : Touches L (trainEnd k t pass) := by
  refine Touches.mono (L := 261315705963778630) ?_ h
  unfold trainEnd
  try dsimp only
  repeat' first
    | with_reducible refine Touches.bind ?_ fun _ => ?_
    | with_reducible refine Touches.ite ?_ ?_
    | with_reducible exact Touches.pure _
    | with_reducible exact Touches.rd
    | (with_reducible apply Touches.setF) <;> (first | with_reducible exact F.WRP_WSL_CTL_TRAIN_window _ | with_reducible exact F.WRP_WSL_STAT_RESULT_window _ | with_reducible exact F.WRP_STAT_STATE_window _ | with_reducible exact F.WRP_STAT_WR_DISABLED_window _ | with_reducible exact F.WRP_STAT_RAW_BURST_window _ | rfl)
    | (with_reducible apply freeze_touches); rfl
    | (with_reducible apply dropLaser_touches); rfl
    | (with_reducible apply raiseWrp_touches); rfl
    | (with_reducible apply setBay_touches); rfl
    | (with_reducible apply Touches.emitM (M := 36028797018963968)) <;> rfl
    | with_reducible split
    | with_reducible dsimp only

theorem noFit_touches (k) (t) {L : Nat} (h : Nat.lor 261315705963778630 L = L) : Touches L (noFit k t) := by
  refine Touches.mono (L := 261315705963778630) ?_ h
  unfold noFit
  try dsimp only
  repeat' first
    | with_reducible refine Touches.bind ?_ fun _ => ?_
    | with_reducible refine Touches.ite ?_ ?_
    | with_reducible exact Touches.pure _
    | with_reducible exact Touches.rd
    | (with_reducible apply trainEnd_touches); rfl
    | (with_reducible apply beginAttempt_touches); rfl
    | with_reducible split
    | with_reducible dsimp only

theorem nextTest_touches (k) (t) {L : Nat} (h : Nat.lor 36028797018963968 L = L) : Touches L (nextTest k t) := by
  refine Touches.mono (L := 36028797018963968) ?_ h
  unfold nextTest
  try dsimp only
  repeat' first
    | with_reducible refine Touches.bind ?_ fun _ => ?_
    | with_reducible refine Touches.ite ?_ ?_
    | with_reducible exact Touches.pure _
    | with_reducible exact Touches.rd
    | (with_reducible apply Touches.emitM (M := 36028797018963968)) <;> rfl
    | with_reducible split
    | with_reducible dsimp only

theorem testDone_touches (k) (t) {L : Nat} (h : Nat.lor 261315705963778630 L = L) : Touches L (testDone k t) := by
  refine Touches.mono (L := 261315705963778630) ?_ h
  unfold testDone
  try dsimp only
  repeat' first
    | with_reducible refine Touches.bind ?_ fun _ => ?_
    | with_reducible refine Touches.ite ?_ ?_
    | with_reducible exact Touches.pure _
    | with_reducible exact Touches.rd
    | (with_reducible apply Touches.setF) <;> (first | with_reducible exact F.WRP_WSL_STAT_DUTY_window _ | with_reducible exact F.WRP_WSL_STAT_OBS_window _ | rfl)
    | (with_reducible apply nextTest_touches); rfl
    | (with_reducible apply setWiring_touches); rfl
    | (with_reducible apply noFit_touches); rfl
    | (with_reducible apply trainEnd_touches); rfl
    | with_reducible split
    | with_reducible dsimp only

theorem trainFrame_touches (k) (front) {L : Nat} (h : Nat.lor 261315705963778630 L = L) : Touches L (trainFrame k front) := by
  refine Touches.mono (L := 261315705963778630) ?_ h
  unfold trainFrame
  try dsimp only
  repeat' first
    | with_reducible refine Touches.bind ?_ fun _ => ?_
    | with_reducible refine Touches.ite ?_ ?_
    | with_reducible exact Touches.pure _
    | with_reducible exact Touches.rd
    | (with_reducible apply sendFrame_touches); rfl
    | (with_reducible apply sendSymbols_touches); rfl
    | (with_reducible apply testDone_touches); rfl
    | (with_reducible apply Touches.emitM (M := 36028797018963968)) <;> rfl
    | with_reducible split
    | with_reducible dsimp only

theorem countEnergy_touches (k) (front) {L : Nat} (h : Nat.lor 36028797018996736 L = L) : Touches L (countEnergy k front) := by
  refine Touches.mono (L := 36028797018996736) ?_ h
  unfold countEnergy
  try dsimp only
  repeat' first
    | with_reducible refine Touches.bind ?_ fun _ => ?_
    | with_reducible refine Touches.ite ?_ ?_
    | with_reducible exact Touches.pure _
    | with_reducible exact Touches.rd
    | (with_reducible apply Touches.addWrap) <;> (first | with_reducible exact F.WRP_ENERGY_UJ_window _ | rfl)
    | (with_reducible apply Touches.emitM (M := 36028797018963968)) <;> rfl
    | with_reducible split
    | with_reducible dsimp only

theorem storeSection_touches (e) (j) (c) (x) (y) {L : Nat} (h : Nat.lor 512 L = L) : Touches L (storeSection e j c x y) := by
  refine Touches.mono (L := 512) ?_ h
  unfold storeSection
  try dsimp only
  repeat' first
    | with_reducible refine Touches.bind ?_ fun _ => ?_
    | with_reducible refine Touches.ite ?_ ?_
    | with_reducible exact Touches.pure _
    | with_reducible exact Touches.rd
    | (with_reducible apply Touches.setI) <;> (first | with_reducible exact sectionFld_window _ _ _ _ | rfl)
    | with_reducible split
    | with_reducible dsimp only

theorem storeSections_touches (e) (j) (integ) (wind) (c) (x) (l) {L : Nat} (h : Nat.lor 512 L = L) : Touches L (storeSections e j integ wind c x l) := by
  refine Touches.mono (L := 512) ?_ h
  clear h
  induction l generalizing c x with
  | nil =>
    rw [storeSections]
    try dsimp only
    repeat' first
      | with_reducible refine Touches.bind ?_ fun _ => ?_
      | with_reducible refine Touches.ite ?_ ?_
      | with_reducible exact Touches.pure _
      | with_reducible exact Touches.rd
      | (with_reducible apply storeSection_touches); rfl
      | with_reducible split
      | with_reducible dsimp only
  | cons y l ih =>
    rw [storeSections]
    try dsimp only
    repeat' first
      | with_reducible refine Touches.bind ?_ fun _ => ?_
      | with_reducible refine Touches.ite ?_ ?_
      | with_reducible exact Touches.pure _
      | with_reducible exact Touches.rd
      | (with_reducible apply storeSection_touches); rfl
      | with_reducible apply ih
      | with_reducible split
      | with_reducible dsimp only

theorem setSlotRun_touches (e) (j) (r) {L : Nat} (h : Nat.lor 140737488355328 L = L) : Touches L (setSlotRun e j r) := by
  refine Touches.mono (L := 140737488355328) ?_ h
  unfold setSlotRun
  try dsimp only
  repeat' first
    | with_reducible refine Touches.bind ?_ fun _ => ?_
    | with_reducible refine Touches.ite ?_ ?_
    | with_reducible exact Touches.pure _
    | with_reducible exact Touches.rd
    | (with_reducible apply Touches.emitM (M := 140737488355328)) <;> rfl
    | with_reducible split
    | with_reducible dsimp only

theorem raiseSlot_touches (e) (j) (i) (sub) {L : Nat} (h : Nat.lor 144116287657738310 L = L) : Touches L (raiseSlot e j i sub) := by
  refine Touches.mono (L := 144116287657738310) ?_ h
  unfold raiseSlot
  try dsimp only
  repeat' first
    | with_reducible refine Touches.bind ?_ fun _ => ?_
    | with_reducible refine Touches.ite ?_ ?_
    | with_reducible exact Touches.pure _
    | with_reducible exact Touches.rd
    | (with_reducible apply raiseBay_touches); rfl
    | with_reducible split
    | with_reducible dsimp only

theorem faultActions_touches (o) (act) (focus) {L : Nat} (h : Nat.lor 263022148010352198 L = L) : Touches L (faultActions o act focus) := by
  refine Touches.mono (L := 263022148010352198) ?_ h
  unfold faultActions
  try dsimp only
  repeat' first
    | with_reducible refine Touches.bind ?_ fun _ => ?_
    | with_reducible refine Touches.ite ?_ ?_
    | with_reducible exact Touches.pure _
    | with_reducible exact Touches.rd
    | (with_reducible apply stopWriteNow_touches); rfl
    | (with_reducible apply abortMotor_touches); rfl
    | (with_reducible apply retract_touches); rfl
    | (with_reducible apply parkBay_touches); rfl
    | with_reducible refine Touches.forAll fun _ => ?_
    | with_reducible split
    | with_reducible dsimp only

theorem supervise_touches (e) (j) (o) (err) {L : Nat} (h : Nat.lor 263162885498707526 L = L) : Touches L (supervise e j o err) := by
  refine Touches.mono (L := 263162885498707526) ?_ h
  unfold supervise
  try dsimp only
  repeat' first
    | with_reducible refine Touches.bind ?_ fun _ => ?_
    | with_reducible refine Touches.ite ?_ ?_
    | with_reducible exact Touches.pure _
    | with_reducible exact Touches.rd
    | (with_reducible apply Touches.setF) <;> (first | with_reducible exact F.SRV_SLOT_STAT_FE_WARN_window _ _ | with_reducible exact F.SRV_SLOT_STAT_FE_FAULT_window _ _ | rfl)
    | (with_reducible apply setSlotRun_touches); rfl
    | (with_reducible apply raiseSlot_touches); rfl
    | (with_reducible apply faultActions_touches); rfl
    | (with_reducible apply loseFocus_touches); rfl
    | with_reducible split
    | with_reducible dsimp only

theorem execHeld_touches (s) (e) (j) (q) {L : Nat} (h : Nat.lor 140737488355840 L = L) : Touches L (execHeld s e j q) := by
  refine Touches.mono (L := 140737488355840) ?_ h
  unfold execHeld
  try dsimp only
  repeat' first
    | with_reducible refine Touches.bind ?_ fun _ => ?_
    | with_reducible refine Touches.ite ?_ ?_
    | with_reducible exact Touches.pure _
    | with_reducible exact Touches.rd
    | (with_reducible apply Touches.setF) <;> (first | with_reducible exact F.SRV_SLOT_STAT_FE_WARN_window _ _ | with_reducible exact F.SRV_SLOT_STAT_CLAMP_window _ _ | rfl)
    | (with_reducible apply Touches.setI) <;> (first | with_reducible exact F.SRV_SLOT_OUT_U_window _ _ | rfl)
    | (with_reducible apply Touches.incStop) <;> (first | with_reducible exact F.SRV_SAT_CNT_CNT_window _ _ | rfl)
    | (with_reducible apply setSlotRun_touches); rfl
    | with_reducible split
    | with_reducible dsimp only

theorem execOpen_touches (s) (e) (j) (q) {L : Nat} (h : Nat.lor 263162885498707526 L = L) : Touches L (execOpen s e j q) := by
  refine Touches.mono (L := 263162885498707526) ?_ h
  unfold execOpen
  try dsimp only
  repeat' first
    | with_reducible refine Touches.bind ?_ fun _ => ?_
    | with_reducible refine Touches.ite ?_ ?_
    | with_reducible exact Touches.pure _
    | with_reducible exact Touches.rd
    | (with_reducible apply Touches.setF) <;> (first | with_reducible exact F.SRV_SLOT_STAT_CLAMP_window _ _ | rfl)
    | (with_reducible apply Touches.setI) <;> (first | with_reducible exact F.SRV_SLOT_OUT_U_window _ _ | with_reducible exact F.SRV_BUMP_OFS_D_window _ _ | rfl)
    | (with_reducible apply Touches.incStop) <;> (first | with_reducible exact F.SRV_SAT_CNT_CNT_window _ _ | rfl)
    | (with_reducible apply supervise_touches); rfl
    | (with_reducible apply storeSections_touches); rfl
    | (with_reducible apply setSlotRun_touches); rfl
    | with_reducible split
    | with_reducible dsimp only

theorem execSlot_touches (s) (e) (j) {L : Nat} (h : Nat.lor 263162885498707526 L = L) : Touches L (execSlot s e j) := by
  refine Touches.mono (L := 263162885498707526) ?_ h
  unfold execSlot
  try dsimp only
  repeat' first
    | with_reducible refine Touches.bind ?_ fun _ => ?_
    | with_reducible refine Touches.ite ?_ ?_
    | with_reducible exact Touches.pure _
    | with_reducible exact Touches.rd
    | (with_reducible apply Touches.setF) <;> (first | with_reducible exact F.SRV_SLOT_STAT_REGION_window _ _ | with_reducible exact F.SRV_SLOT_STAT_GSET_window _ _ | rfl)
    | (with_reducible apply Touches.setI) <;> (first | with_reducible exact F.SRV_SLOT_ERR_E_window _ _ | rfl)
    | (with_reducible apply execHeld_touches); rfl
    | (with_reducible apply execOpen_touches); rfl
    | with_reducible split
    | with_reducible dsimp only

theorem traceTrigger_touches (e) (k) {L : Nat} (h : Nat.lor 281474976711168 L = L) : Touches L (traceTrigger e k) := by
  refine Touches.mono (L := 281474976711168) ?_ h
  unfold traceTrigger
  try dsimp only
  repeat' first
    | with_reducible refine Touches.bind ?_ fun _ => ?_
    | with_reducible refine Touches.ite ?_ ?_
    | with_reducible exact Touches.pure _
    | with_reducible exact Touches.rd
    | (with_reducible apply Touches.setF) <;> (first | with_reducible exact F.SRV_TRC_STAT_STATE_window _ _ | with_reducible exact F.SRV_TRC_TRIG_FRAME_FRAME_window _ _ | with_reducible exact F.SRV_FRAME_CNT_CNT_window _ | with_reducible exact F.SRV_TRC_PRE_PRE_VALID_window _ _ | rfl)
    | with_reducible refine Touches.forAll fun _ => ?_
    | (with_reducible apply Touches.emitM (M := 281474976710656)) <;> rfl
    | with_reducible split
    | with_reducible dsimp only

theorem showStart_touches (e) (k) (held) {L : Nat} (h : Nat.lor 512 L = L) : Touches L (showStart e k held) := by
  refine Touches.mono (L := 512) ?_ h
  unfold showStart
  try dsimp only
  repeat' first
    | with_reducible refine Touches.bind ?_ fun _ => ?_
    | with_reducible refine Touches.ite ?_ ?_
    | with_reducible exact Touches.pure _
    | with_reducible exact Touches.rd
    | (with_reducible apply Touches.setF) <;> (first | with_reducible exact F.SRV_TRC_STAT_START_window _ _ | rfl)
    | with_reducible split
    | with_reducible dsimp only

theorem traceKeep_touches (e) (k) (v) {L : Nat} (h : Nat.lor 281474977235456 L = L) : Touches L (traceKeep e k v) := by
  refine Touches.mono (L := 281474977235456) ?_ h
  unfold traceKeep
  try dsimp only
  repeat' first
    | with_reducible refine Touches.bind ?_ fun _ => ?_
    | with_reducible refine Touches.ite ?_ ?_
    | with_reducible exact Touches.pure _
    | with_reducible exact Touches.rd
    | (with_reducible apply Touches.setF) <;> (first | with_reducible exact F.SRV_TRC_STAT_STATE_window _ _ | with_reducible exact F.SRV_TRC_STAT_TRIG_OFFSET_window _ _ | with_reducible exact traceFld_window _ _ _ | rfl)
    | (with_reducible apply Touches.setI) <;> (first | with_reducible exact traceFld_window _ _ _ | rfl)
    | (with_reducible apply showStart_touches); rfl
    | (with_reducible apply Touches.emitM (M := 281474976710656)) <;> rfl
    | with_reducible split
    | with_reducible dsimp only

theorem traceSample_touches (e) (j) (x) (k) {L : Nat} (h : Nat.lor 281474977235456 L = L) : Touches L (traceSample e j x k) := by
  refine Touches.mono (L := 281474977235456) ?_ h
  unfold traceSample
  try dsimp only
  repeat' first
    | with_reducible refine Touches.bind ?_ fun _ => ?_
    | with_reducible refine Touches.ite ?_ ?_
    | with_reducible exact Touches.pure _
    | with_reducible exact Touches.rd
    | (with_reducible apply traceTrigger_touches); rfl
    | (with_reducible apply traceKeep_touches); rfl
    | (with_reducible apply Touches.emitM (M := 281474976710656)) <;> rfl
    | with_reducible split
    | with_reducible dsimp only

theorem engineFault_touches (e) (cause) {L : Nat} (h : Nat.lor 263162885632925255 L = L) : Touches L (engineFault e cause) := by
  refine Touches.mono (L := 263162885632925255) ?_ h
  unfold engineFault
  try dsimp only
  repeat' first
    | with_reducible refine Touches.bind ?_ fun _ => ?_
    | with_reducible refine Touches.ite ?_ ?_
    | with_reducible exact Touches.pure _
    | with_reducible exact Touches.rd
    | (with_reducible apply Touches.setF) <;> (first | with_reducible exact F.SRV_BLK_STAT_ENGINE_FAULT_window _ | with_reducible exact F.SRV_BLK_STAT_CAUSE_window _ | rfl)
    | (with_reducible apply dropLaser_touches); rfl
    | (with_reducible apply optCut_touches); rfl
    | (with_reducible apply haltAxis_touches); rfl
    | (with_reducible apply raiseBay_touches); rfl
    | (with_reducible apply beginSingle_touches); rfl
    | with_reducible refine Touches.forAll fun _ => ?_
    | (with_reducible apply Touches.emitM (M := 1125899906842624)) <;> rfl
    | (with_reducible apply Touches.emitM (M := 140737488355328)) <;> rfl
    | with_reducible split
    | with_reducible dsimp only

theorem writtenFlag_touches (k) (i) (sum) (ref) {L : Nat} (h : Nat.lor 70368744439808 L = L) : Touches L (writtenFlag k i sum ref) := by
  refine Touches.mono (L := 70368744439808) ?_ h
  unfold writtenFlag
  try dsimp only
  repeat' first
    | with_reducible refine Touches.bind ?_ fun _ => ?_
    | with_reducible refine Touches.ite ?_ ?_
    | with_reducible exact Touches.pure _
    | with_reducible exact Touches.rd
    | (with_reducible apply Touches.setF) <;> (first | with_reducible exact F.BAY_OPT_STAT_WRITTEN_window _ | rfl)
    | (with_reducible apply Touches.emitM (M := 70368744177664)) <;> rfl
    | with_reducible split
    | with_reducible dsimp only

theorem focusLock_touches (k) (fe) (sum) {L : Nat} (h : Nat.lor 261280521591816774 L = L) : Touches L (focusLock k fe sum) := by
  refine Touches.mono (L := 261280521591816774) ?_ h
  unfold focusLock
  try dsimp only
  repeat' first
    | with_reducible refine Touches.bind ?_ fun _ => ?_
    | with_reducible refine Touches.ite ?_ ?_
    | with_reducible exact Touches.pure _
    | with_reducible exact Touches.rd
    | (with_reducible apply Touches.setF) <;> (first | with_reducible exact F.BAY_OPT_STAT_FOCUS_LOCKED_window _ | rfl)
    | (with_reducible apply loseFocus_touches); rfl
    | (with_reducible apply Touches.emitM (M := 70368744177664)) <;> rfl
    | with_reducible split
    | with_reducible dsimp only

theorem laserGuard_touches (k) (front) {L : Nat} (h : Nat.lor 252273322337075782 L = L) : Touches L (laserGuard k front) := by
  refine Touches.mono (L := 252273322337075782) ?_ h
  unfold laserGuard
  try dsimp only
  repeat' first
    | with_reducible refine Touches.bind ?_ fun _ => ?_
    | with_reducible refine Touches.ite ?_ ?_
    | with_reducible exact Touches.pure _
    | with_reducible exact Touches.rd
    | (with_reducible apply Touches.setF) <;> (first | with_reducible exact F.BAY_OPT_STAT_LASER_TRIP_window _ | rfl)
    | (with_reducible apply dropLaser_touches); rfl
    | (with_reducible apply raiseOpu_touches); rfl
    | (with_reducible apply Touches.emitM (M := 70368744177664)) <;> rfl
    | with_reducible split
    | with_reducible dsimp only

theorem holdCode_touches (k) (role) (code) {L : Nat} (h : Nat.lor 512 L = L) : Touches L (holdCode k role code) := by
  refine Touches.mono (L := 512) ?_ h
  unfold holdCode
  try dsimp only
  repeat' first
    | with_reducible refine Touches.bind ?_ fun _ => ?_
    | with_reducible refine Touches.ite ?_ ?_
    | with_reducible exact Touches.pure _
    | with_reducible exact Touches.rd
    | (with_reducible apply Touches.setI) <;> (first | with_reducible exact F.SRV_SLOT_OUT_U_window _ _ | rfl)
    | with_reducible split
    | with_reducible dsimp only

theorem sweepFrame_touches (k) (fe) (sum) {L : Nat} (h : Nat.lor 108157034681434624 L = L) : Touches L (sweepFrame k fe sum) := by
  refine Touches.mono (L := 108157034681434624) ?_ h
  unfold sweepFrame
  try dsimp only
  repeat' first
    | with_reducible refine Touches.bind ?_ fun _ => ?_
    | with_reducible refine Touches.ite ?_ ?_
    | with_reducible exact Touches.pure _
    | with_reducible exact Touches.rd
    | (with_reducible apply freeze_touches); rfl
    | (with_reducible apply acquireFailed_touches); rfl
    | (with_reducible apply holdCode_touches); rfl
    | (with_reducible apply Touches.emitM (M := 70368744177664)) <;> rfl
    | with_reducible split
    | with_reducible dsimp only

theorem setKappas_touches (k) (v) {L : Nat} (h : Nat.lor 4096 L = L) : Touches L (setKappas k v) := by
  refine Touches.mono (L := 4096) ?_ h
  unfold setKappas
  try dsimp only
  repeat' first
    | with_reducible refine Touches.bind ?_ fun _ => ?_
    | with_reducible refine Touches.ite ?_ ?_
    | with_reducible exact Touches.pure _
    | with_reducible exact Touches.rd
    | (with_reducible apply Touches.setI) <;> (first | with_reducible exact F.RCH_JD_KAPPA_I_INNER_window _ | with_reducible exact F.RCH_JD_KAPPA_I_OUTER_window _ | with_reducible exact F.RCH_JD_KAPPA_C_INNER_window _ | with_reducible exact F.RCH_JD_KAPPA_C_OUTER_window _ | with_reducible exact F.RCH_JD_KAPPA_O_INNER_window _ | with_reducible exact F.RCH_JD_KAPPA_O_OUTER_window _ | rfl)
    | with_reducible split
    | with_reducible dsimp only

theorem loadKappas_touches (k) (layer) {L : Nat} (h : Nat.lor 72057594037932032 L = L) : Touches L (loadKappas k layer) := by
  refine Touches.mono (L := 72057594037932032) ?_ h
  unfold loadKappas
  try dsimp only
  repeat' first
    | with_reducible refine Touches.bind ?_ fun _ => ?_
    | with_reducible refine Touches.ite ?_ ?_
    | with_reducible exact Touches.pure _
    | with_reducible exact Touches.rd
    | (with_reducible apply setKappas_touches); rfl
    | (with_reducible apply Touches.emitM (M := 72057594037927936)) <;> rfl
    | with_reducible split
    | with_reducible dsimp only

theorem loadLayer_touches (k) (layer) {L : Nat} (h : Nat.lor 72057594037997568 L = L) : Touches L (loadLayer k layer) := by
  refine Touches.mono (L := 72057594037997568) ?_ h
  unfold loadLayer
  try dsimp only
  repeat' first
    | with_reducible refine Touches.bind ?_ fun _ => ?_
    | with_reducible refine Touches.ite ?_ ?_
    | with_reducible exact Touches.pure _
    | with_reducible exact Touches.rd
    | (with_reducible apply Touches.setF) <;> (first | with_reducible exact F.RCH_IN_GAIN_PGA_window _ | rfl)
    | (with_reducible apply Touches.setI) <;> (first | with_reducible exact F.RCH_IN_GAIN_FINE_window _ | rfl)
    | (with_reducible apply loadKappas_touches); rfl
    | (with_reducible apply abortCal_touches); rfl
    | with_reducible refine Touches.forAll fun _ => ?_
    | with_reducible split
    | with_reducible dsimp only

theorem hopFrame_touches (k) (fe) (sum) {L : Nat} (h : Nat.lor 72127962782437888 L = L) : Touches L (hopFrame k fe sum) := by
  refine Touches.mono (L := 72127962782437888) ?_ h
  unfold hopFrame
  try dsimp only
  repeat' first
    | with_reducible refine Touches.bind ?_ fun _ => ?_
    | with_reducible refine Touches.ite ?_ ?_
    | with_reducible exact Touches.pure _
    | with_reducible exact Touches.rd
    | (with_reducible apply Touches.setF) <;> (first | with_reducible exact F.BAY_OPT_STAT_FOCUS_LOCKED_window _ | with_reducible exact F.BAY_OPT_STAT_ON_TRACK_window _ | with_reducible exact F.BAY_OPT_STAT_LAYER_window _ | with_reducible exact F.BAY_OPT_STAT_LAYER_JUMP_window _ | with_reducible exact F.RCH_SPK_STAT_MISS_RUN_window _ | rfl)
    | (with_reducible apply freeze_touches); rfl
    | (with_reducible apply loadLayer_touches); rfl
    | (with_reducible apply optPhase_touches); rfl
    | (with_reducible apply beginHop_touches); rfl
    | (with_reducible apply Touches.emitM (M := 70368744177664)) <;> rfl
    | with_reducible split
    | with_reducible dsimp only

theorem jumpFrame_touches (k) {L : Nat} (h : Nat.lor 70368744178176 L = L) : Touches L (jumpFrame k) := by
  refine Touches.mono (L := 70368744178176) ?_ h
  unfold jumpFrame
  try dsimp only
  repeat' first
    | with_reducible refine Touches.bind ?_ fun _ => ?_
    | with_reducible refine Touches.ite ?_ ?_
    | with_reducible exact Touches.pure _
    | with_reducible exact Touches.rd
    | (with_reducible apply freeze_touches); rfl
    | (with_reducible apply Touches.emitM (M := 70368744177664)) <;> rfl
    | with_reducible split
    | with_reducible dsimp only

theorem loadCodes_touches (k) (codes) {L : Nat} (h : Nat.lor 70368744439808 L = L) : Touches L (loadCodes k codes) := by
  refine Touches.mono (L := 70368744439808) ?_ h
  unfold loadCodes
  try dsimp only
  repeat' first
    | with_reducible refine Touches.bind ?_ fun _ => ?_
    | with_reducible refine Touches.ite ?_ ?_
    | with_reducible exact Touches.pure _
    | with_reducible exact Touches.rd
    | (with_reducible apply Touches.setF) <;> (first | with_reducible exact F.BAY_OPT_STAT_ACT_CLAMP_window _ | rfl)
    | (with_reducible apply Touches.emitM (M := 70368744177664)) <;> rfl
    | with_reducible split
    | with_reducible dsimp only

theorem restTrim_touches (k) (role) {L : Nat} (h : Nat.lor 512 L = L) : Touches L (restTrim k role) := by
  refine Touches.mono (L := 512) ?_ h
  unfold restTrim
  try dsimp only
  repeat' first
    | with_reducible refine Touches.bind ?_ fun _ => ?_
    | with_reducible refine Touches.ite ?_ ?_
    | with_reducible exact Touches.pure _
    | with_reducible exact Touches.rd
    | (with_reducible apply Touches.setI) <;> (first | with_reducible exact F.SRV_LIM_LO_LIM_window _ _ | with_reducible exact F.SRV_LIM_HI_LIM_window _ _ | rfl)
    | (with_reducible apply holdCode_touches); rfl
    | with_reducible split
    | with_reducible dsimp only

theorem retractFrame_touches (k) {L : Nat} (h : Nat.lor 70368744440320 L = L) : Touches L (retractFrame k) := by
  refine Touches.mono (L := 70368744440320) ?_ h
  unfold retractFrame
  try dsimp only
  repeat' first
    | with_reducible refine Touches.bind ?_ fun _ => ?_
    | with_reducible refine Touches.ite ?_ ?_
    | with_reducible exact Touches.pure _
    | with_reducible exact Touches.rd
    | (with_reducible apply loadCodes_touches); rfl
    | (with_reducible apply holdCode_touches); rfl
    | (with_reducible apply restTrim_touches); rfl
    | (with_reducible apply optEnd_touches); rfl
    | with_reducible split
    | with_reducible dsimp only

theorem faultRampFrame_touches (k) {L : Nat} (h : Nat.lor 70368744439808 L = L) : Touches L (faultRampFrame k) := by
  refine Touches.mono (L := 70368744439808) ?_ h
  unfold faultRampFrame
  try dsimp only
  repeat' first
    | with_reducible refine Touches.bind ?_ fun _ => ?_
    | with_reducible refine Touches.ite ?_ ?_
    | with_reducible exact Touches.pure _
    | with_reducible exact Touches.rd
    | (with_reducible apply loadCodes_touches); rfl
    | (with_reducible apply optPhase_touches); rfl
    | (with_reducible apply Touches.emitM (M := 70368744177664)) <;> rfl
    | with_reducible split
    | with_reducible dsimp only

theorem opticFrame_touches (k) (x) {L : Nat} (h : Nat.lor 261456443452396102 L = L) : Touches L (opticFrame k x) := by
  refine Touches.mono (L := 261456443452396102) ?_ h
  unfold opticFrame
  try dsimp only
  repeat' first
    | with_reducible refine Touches.bind ?_ fun _ => ?_
    | with_reducible refine Touches.ite ?_ ?_
    | with_reducible exact Touches.pure _
    | with_reducible exact Touches.rd
    | (with_reducible apply writtenFlag_touches); rfl
    | (with_reducible apply laserGuard_touches); rfl
    | (with_reducible apply trainFrame_touches); rfl
    | (with_reducible apply countEnergy_touches); rfl
    | (with_reducible apply stopWriteNow_touches); rfl
    | (with_reducible apply focusLock_touches); rfl
    | (with_reducible apply sweepFrame_touches); rfl
    | (with_reducible apply optPhase_touches); rfl
    | (with_reducible apply hopFrame_touches); rfl
    | (with_reducible apply jumpFrame_touches); rfl
    | (with_reducible apply retractFrame_touches); rfl
    | (with_reducible apply beginLayerJump_touches); rfl
    | (with_reducible apply Touches.emitM (M := 140737488355328)) <;> rfl
    | (with_reducible apply Touches.emitM (M := 70368744177664)) <;> rfl
    | with_reducible split
    | with_reducible dsimp only

theorem presetStep_touches (k) (i) (role) {L : Nat} (h : Nat.lor 211106232533504 L = L) : Touches L (presetStep k i role) := by
  refine Touches.mono (L := 211106232533504) ?_ h
  unfold presetStep
  try dsimp only
  repeat' first
    | with_reducible refine Touches.bind ?_ fun _ => ?_
    | with_reducible refine Touches.ite ?_ ?_
    | with_reducible exact Touches.pure _
    | with_reducible exact Touches.rd
    | (with_reducible apply Touches.setI) <;> (first | with_reducible exact F.SRV_LIM_LO_LIM_window _ _ | with_reducible exact F.SRV_LIM_HI_LIM_window _ _ | rfl)
    | (with_reducible apply Touches.emitM (M := 70368744177664)) <;> rfl
    | (with_reducible apply Touches.emitM (M := 140737488355328)) <;> rfl
    | with_reducible split
    | with_reducible dsimp only

theorem loadDac_touches (k) (a) (u) {L : Nat} (h : Nat.lor 70368744439808 L = L) : Touches L (loadDac k a u) := by
  refine Touches.mono (L := 70368744439808) ?_ h
  unfold loadDac
  try dsimp only
  repeat' first
    | with_reducible refine Touches.bind ?_ fun _ => ?_
    | with_reducible refine Touches.ite ?_ ?_
    | with_reducible exact Touches.pure _
    | with_reducible exact Touches.rd
    | (with_reducible apply Touches.setF) <;> (first | with_reducible exact F.BAY_OPT_STAT_ACT_CLAMP_window _ | rfl)
    | (with_reducible apply Touches.emitM (M := 70368744177664)) <;> rfl
    | with_reducible split
    | with_reducible dsimp only

theorem sendLevels_touches (k) (u) {L : Nat} (h : Nat.lor 36028797021061120 L = L) : Touches L (sendLevels k u) := by
  refine Touches.mono (L := 36028797021061120) ?_ h
  unfold sendLevels
  try dsimp only
  repeat' first
    | with_reducible refine Touches.bind ?_ fun _ => ?_
    | with_reducible refine Touches.ite ?_ ?_
    | with_reducible exact Touches.pure _
    | with_reducible exact Touches.rd
    | (with_reducible apply sendFrame_touches); rfl
    | (with_reducible apply Touches.emitM (M := 36028797018963968)) <;> rfl
    | with_reducible split
    | with_reducible dsimp only

theorem slotOutput_touches (e) (due) (j) {L : Nat} (h : Nat.lor 37225065672343552 L = L) : Touches L (slotOutput e due j) := by
  refine Touches.mono (L := 37225065672343552) ?_ h
  unfold slotOutput
  try dsimp only
  repeat' first
    | with_reducible refine Touches.bind ?_ fun _ => ?_
    | with_reducible refine Touches.ite ?_ ?_
    | with_reducible exact Touches.pure _
    | with_reducible exact Touches.rd
    | (with_reducible apply loadDac_touches); rfl
    | (with_reducible apply sendLevels_touches); rfl
    | (with_reducible apply Touches.emitM (M := 1125899906842624)) <;> rfl
    | with_reducible split
    | with_reducible dsimp only

theorem axisFrame_touches (a) {L : Nat} (h : Nat.lor 1125899906844672 L = L) : Touches L (axisFrame a) := by
  refine Touches.mono (L := 1125899906844672) ?_ h
  unfold axisFrame
  try dsimp only
  repeat' first
    | with_reducible refine Touches.bind ?_ fun _ => ?_
    | with_reducible refine Touches.ite ?_ ?_
    | with_reducible exact Touches.pure _
    | with_reducible exact Touches.rd
    | (with_reducible apply Touches.setI) <;> (first | with_reducible exact F.STP_POS_POS_window _ | with_reducible exact F.STP_REMAIN_DIST_window _ | rfl)
    | (with_reducible apply Touches.addWrap) <;> (first | with_reducible exact F.STP_STEP_CNT_CNT_window _ | rfl)
    | (with_reducible apply Touches.emitM (M := 1125899906842624)) <;> rfl
    | with_reducible split
    | with_reducible dsimp only

theorem axesFrame_touches (e) {L : Nat} (h : Nat.lor 1125899906844672 L = L) : Touches L (axesFrame e) := by
  refine Touches.mono (L := 1125899906844672) ?_ h
  unfold axesFrame
  try dsimp only
  repeat' first
    | with_reducible refine Touches.bind ?_ fun _ => ?_
    | with_reducible refine Touches.ite ?_ ?_
    | with_reducible exact Touches.pure _
    | with_reducible exact Touches.rd
    | (with_reducible apply axisFrame_touches); rfl
    | with_reducible refine Touches.forAll fun _ => ?_
    | with_reducible split
    | with_reducible dsimp only

theorem pwmLoad_touches (k) {L : Nat} (h : Nat.lor 562949953421312 L = L) : Touches L (pwmLoad k) := by
  refine Touches.mono (L := 562949953421312) ?_ h
  unfold pwmLoad
  try dsimp only
  repeat' first
    | with_reducible refine Touches.bind ?_ fun _ => ?_
    | with_reducible refine Touches.ite ?_ ?_
    | with_reducible exact Touches.pure _
    | with_reducible exact Touches.rd
    | (with_reducible apply Touches.emitM (M := 562949953421312)) <;> rfl
    | with_reducible split
    | with_reducible dsimp only

theorem frameTrim_touches (e) (f) (j) {L : Nat} (h : Nat.lor 211106232533504 L = L) : Touches L (frameTrim e f j) := by
  refine Touches.mono (L := 211106232533504) ?_ h
  unfold frameTrim
  try dsimp only
  repeat' first
    | with_reducible refine Touches.bind ?_ fun _ => ?_
    | with_reducible refine Touches.ite ?_ ?_
    | with_reducible exact Touches.pure _
    | with_reducible exact Touches.rd
    | (with_reducible apply presetStep_touches); rfl
    | with_reducible split
    | with_reducible dsimp only

theorem frameSlot_touches (s) (e) (f) (j) {L : Nat} (h : Nat.lor 263444360475942470 L = L) : Touches L (frameSlot s e f j) := by
  refine Touches.mono (L := 263444360475942470) ?_ h
  unfold frameSlot
  try dsimp only
  repeat' first
    | with_reducible refine Touches.bind ?_ fun _ => ?_
    | with_reducible refine Touches.ite ?_ ?_
    | with_reducible exact Touches.pure _
    | with_reducible exact Touches.rd
    | (with_reducible apply execSlot_touches); rfl
    | (with_reducible apply traceSample_touches); rfl
    | with_reducible refine Touches.forAll fun _ => ?_
    | with_reducible split
    | with_reducible dsimp only

theorem runFrame_touches (e) (x) {L : Nat} (h : Nat.lor 263444360475942470 L = L) : Touches L (runFrame e x) := by
  refine Touches.mono (L := 263444360475942470) ?_ h
  unfold runFrame
  try dsimp only
  repeat' first
    | with_reducible refine Touches.bind ?_ fun _ => ?_
    | with_reducible refine Touches.ite ?_ ?_
    | with_reducible exact Touches.pure _
    | with_reducible exact Touches.rd
    | (with_reducible apply opticFrame_touches); rfl
    | (with_reducible apply frameTrim_touches); rfl
    | (with_reducible apply pwmLoad_touches); rfl
    | (with_reducible apply frameSlot_touches); rfl
    | (with_reducible apply axesFrame_touches); rfl
    | (with_reducible apply slotOutput_touches); rfl
    | with_reducible refine Touches.forAll fun _ => ?_
    | (with_reducible apply Touches.emitM (M := 140737488355328)) <;> rfl
    | with_reducible split
    | with_reducible dsimp only

theorem execServoFrame_touches (e) (x) (s : State) : ∃ u, execServoFrame e x s = .next u ∧ Same 263444360610160199 s u := by
  unfold execServoFrame
  first | apply Touches.answer | apply Touches.answerWhen | (dsimp only; first | apply Touches.answer | apply Touches.answerWhen)
  try dsimp only
  repeat' first
    | with_reducible refine Touches.bind ?_ fun _ => ?_
    | with_reducible refine Touches.ite ?_ ?_
    | with_reducible exact Touches.pure _
    | with_reducible exact Touches.rd
    | (with_reducible apply Touches.setF) <;> (first | with_reducible exact F.BAY_OPT_STAT_ACT_CLAMP_window _ | rfl)
    | (with_reducible apply Touches.incStop) <;> (first | with_reducible exact F.SRV_ECC_CNT_CNT_window _ | rfl)
    | (with_reducible apply Touches.addWrap) <;> (first | with_reducible exact F.SRV_FRAME_CNT_CNT_window _ | rfl)
    | (with_reducible apply faultRampFrame_touches); rfl
    | (with_reducible apply axesFrame_touches); rfl
    | (with_reducible apply raiseBay_touches); rfl
    | (with_reducible apply engineFault_touches); rfl
    | (with_reducible apply runFrame_touches); rfl
    | with_reducible refine Touches.forAll fun _ => ?_
    | with_reducible split
    | with_reducible dsimp only

theorem execEngineFaultHoldEnd_touches (e) (s : State) : ∃ u, execEngineFaultHoldEnd e s = .next u ∧ Same 227116221415759430 s u := by
  unfold execEngineFaultHoldEnd
  first | apply Touches.answer | apply Touches.answerWhen | (dsimp only; first | apply Touches.answer | apply Touches.answerWhen)
  try dsimp only
  repeat' first
    | with_reducible refine Touches.bind ?_ fun _ => ?_
    | with_reducible refine Touches.ite ?_ ?_
    | with_reducible exact Touches.pure _
    | with_reducible exact Touches.rd
    | (with_reducible apply Touches.setF) <;> (first | with_reducible exact F.SRV_SLOT_OUT_U_window _ _ | with_reducible exact F.BAY_OPT_STAT_FOCUS_LOCKED_window _ | with_reducible exact F.BAY_OPT_STAT_ON_TRACK_window _ | rfl)
    | (with_reducible apply abortMotor_touches); rfl
    | (with_reducible apply parkSled_touches); rfl
    | (with_reducible apply setBay_touches); rfl
    | (with_reducible apply degrade_touches); rfl
    | (with_reducible apply endSingle_touches); rfl
    | with_reducible refine Touches.forAll fun _ => ?_
    | (with_reducible apply Touches.emitM (M := 140737488355328)) <;> rfl
    | (with_reducible apply Touches.emitM (M := 70368744177664)) <;> rfl
    | with_reducible split
    | with_reducible dsimp only

theorem slotReject_touches (e) (j) {L : Nat} (h : Nat.lor 144116287657738822 L = L) : Touches L (slotReject e j) := by
  refine Touches.mono (L := 144116287657738822) ?_ h
  unfold slotReject
  try dsimp only
  repeat' first
    | with_reducible refine Touches.bind ?_ fun _ => ?_
    | with_reducible refine Touches.ite ?_ ?_
    | with_reducible exact Touches.pure _
    | with_reducible exact Touches.rd
    | (with_reducible apply Touches.setF) <;> (first | with_reducible exact F.SRV_SLOT_STAT_CFG_REJECT_window _ _ | rfl)
    | (with_reducible apply raiseSlot_touches); rfl
    | with_reducible split
    | with_reducible dsimp only

theorem enableSlot_touches (e) (j) {L : Nat} (h : Nat.lor 144257025146094150 L = L) : Touches L (enableSlot e j) := by
  refine Touches.mono (L := 144257025146094150) ?_ h
  unfold enableSlot
  try dsimp only
  repeat' first
    | with_reducible refine Touches.bind ?_ fun _ => ?_
    | with_reducible refine Touches.ite ?_ ?_
    | with_reducible exact Touches.pure _
    | with_reducible exact Touches.rd
    | (with_reducible apply Touches.setF) <;> (first | with_reducible exact F.SRV_SLOT_CTL_ENABLE_window _ _ | with_reducible exact F.SRV_SLOT_STAT_CFG_REJECT_window _ _ | with_reducible exact F.SRV_BUMP_OFS_D_window _ _ | with_reducible exact F.SRV_SAT_CNT_CNT_window _ _ | with_reducible exact F.SRV_LOAD_LOAD_window _ | with_reducible exact sectionFld_window _ _ _ _ | rfl)
    | (with_reducible apply slotReject_touches); rfl
    | (with_reducible apply raiseSlot_touches); rfl
    | (with_reducible apply setSlotRun_touches); rfl
    | with_reducible refine Touches.forAll fun _ => ?_
    | with_reducible split
    | with_reducible dsimp only

theorem disableSlot_touches (e) (j) {L : Nat} (h : Nat.lor 37225065672081920 L = L) : Touches L (disableSlot e j) := by
  refine Touches.mono (L := 37225065672081920) ?_ h
  unfold disableSlot
  try dsimp only
  repeat' first
    | with_reducible refine Touches.bind ?_ fun _ => ?_
    | with_reducible refine Touches.ite ?_ ?_
    | with_reducible exact Touches.pure _
    | with_reducible exact Touches.rd
    | (with_reducible apply Touches.setF) <;> (first | with_reducible exact F.SRV_SLOT_CTL_ENABLE_window _ _ | with_reducible exact F.SRV_LOAD_LOAD_window _ | rfl)
    | (with_reducible apply sendLevels_touches); rfl
    | (with_reducible apply Touches.emitM (M := 70368744177664)) <;> rfl
    | (with_reducible apply Touches.emitM (M := 1125899906842624)) <;> rfl
    | with_reducible split
    | with_reducible dsimp only

theorem writeSlotCtl_touches (e) (j) (v) {L : Nat} (h : Nat.lor 181482090816078406 L = L) : Touches L (writeSlotCtl e j v) := by
  refine Touches.mono (L := 181482090816078406) ?_ h
  unfold writeSlotCtl
  try dsimp only
  repeat' first
    | with_reducible refine Touches.bind ?_ fun _ => ?_
    | with_reducible refine Touches.ite ?_ ?_
    | with_reducible exact Touches.pure _
    | with_reducible exact Touches.rd
    | (with_reducible apply Touches.setF) <;> (first | with_reducible exact F.SRV_SLOT_CTL_RATE_window _ _ | with_reducible exact F.SRV_SLOT_CTL_PHASE_window _ _ | with_reducible exact F.SRV_SLOT_CTL_N_SEC_window _ _ | with_reducible exact F.SRV_SLOT_CTL_BUMP_window _ _ | with_reducible exact F.SRV_SLOT_CTL_INTEG_window _ _ | with_reducible exact F.SRV_SLOT_CTL_SW_0_window _ _ | with_reducible exact F.SRV_SLOT_CTL_SW_1_window _ _ | with_reducible exact F.SRV_SLOT_CTL_FREEZE_window _ _ | rfl)
    | (with_reducible apply slotReject_touches); rfl
    | (with_reducible apply enableSlot_touches); rfl
    | (with_reducible apply disableSlot_touches); rfl
    | with_reducible split
    | with_reducible dsimp only

theorem execSrvSlotCtlWrite_touches (m) (e) (j) (v) (s : State) : ∃ u, execSrvSlotCtlWrite m e j v s = .next u ∧ Same 181482090816078406 s u := by
  unfold execSrvSlotCtlWrite
  first | apply Touches.answer | apply Touches.answerWhen | (dsimp only; first | apply Touches.answer | apply Touches.answerWhen)
  try dsimp only
  repeat' first
    | with_reducible refine Touches.bind ?_ fun _ => ?_
    | with_reducible refine Touches.ite ?_ ?_
    | with_reducible exact Touches.pure _
    | with_reducible exact Touches.rd
    | (with_reducible apply writeSlotCtl_touches); rfl
    | with_reducible split
    | with_reducible dsimp only

theorem writeGain_touches (e) (j) (g) (w) (v) {L : Nat} (h : Nat.lor 216173881695732294 L = L) : Touches L (writeGain e j g w v) := by
  refine Touches.mono (L := 216173881695732294) ?_ h
  unfold writeGain
  try dsimp only
  repeat' first
    | with_reducible refine Touches.bind ?_ fun _ => ?_
    | with_reducible refine Touches.ite ?_ ?_
    | with_reducible exact Touches.pure _
    | with_reducible exact Touches.rd
    | (with_reducible apply Touches.setF) <;> (first | with_reducible exact gainFld_window _ _ _ _ | rfl)
    | (with_reducible apply raiseSlot_touches); rfl
    | (with_reducible apply abortCal_touches); rfl
    | (with_reducible apply Touches.emitM (M := 72057594037927936)) <;> rfl
    | with_reducible split
    | with_reducible dsimp only

theorem execGainSetWrite_touches (m) (e) (j) (g) (w) (v) (s : State) : ∃ u, execGainSetWrite m e j g w v s = .next u ∧ Same 216173881695732294 s u := by
  unfold execGainSetWrite
  first | apply Touches.answer | apply Touches.answerWhen | (dsimp only; first | apply Touches.answer | apply Touches.answerWhen)
  try dsimp only
  repeat' first
    | with_reducible refine Touches.bind ?_ fun _ => ?_
    | with_reducible refine Touches.ite ?_ ?_
    | with_reducible exact Touches.pure _
    | with_reducible exact Touches.rd
    | (with_reducible apply writeGain_touches); rfl
    | with_reducible split
    | with_reducible dsimp only

theorem writeLimit_touches (e) (j) (high) (v) {L : Nat} (h : Nat.lor 144116287657738822 L = L) : Touches L (writeLimit e j high v) := by
  refine Touches.mono (L := 144116287657738822) ?_ h
  unfold writeLimit
  try dsimp only
  repeat' first
    | with_reducible refine Touches.bind ?_ fun _ => ?_
    | with_reducible refine Touches.ite ?_ ?_
    | with_reducible exact Touches.pure _
    | with_reducible exact Touches.rd
    | (with_reducible apply Touches.setF) <;> (first | with_reducible exact F.SRV_LIM_LO_LIM_window _ _ | with_reducible exact F.SRV_LIM_HI_LIM_window _ _ | rfl)
    | (with_reducible apply raiseSlot_touches); rfl
    | with_reducible split
    | with_reducible dsimp only

theorem execSlotLimitWrite_touches (m) (e) (j) (high) (v) (s : State) : ∃ u, execSlotLimitWrite m e j high v s = .next u ∧ Same 144116287657738822 s u := by
  unfold execSlotLimitWrite
  first | apply Touches.answer | apply Touches.answerWhen | (dsimp only; first | apply Touches.answer | apply Touches.answerWhen)
  try dsimp only
  repeat' first
    | with_reducible refine Touches.bind ?_ fun _ => ?_
    | with_reducible refine Touches.ite ?_ ?_
    | with_reducible exact Touches.pure _
    | with_reducible exact Touches.rd
    | (with_reducible apply writeLimit_touches); rfl
    | with_reducible split
    | with_reducible dsimp only

theorem clearFault_touches (e) (j) {L : Nat} (h : Nat.lor 140737488355840 L = L) : Touches L (clearFault e j) := by
  refine Touches.mono (L := 140737488355840) ?_ h
  unfold clearFault
  try dsimp only
  repeat' first
    | with_reducible refine Touches.bind ?_ fun _ => ?_
    | with_reducible refine Touches.ite ?_ ?_
    | with_reducible exact Touches.pure _
    | with_reducible exact Touches.rd
    | (with_reducible apply Touches.setF) <;> (first | with_reducible exact F.SRV_SLOT_STAT_FE_FAULT_window _ _ | rfl)
    | (with_reducible apply setSlotRun_touches); rfl
    | with_reducible split
    | with_reducible dsimp only

theorem execFeFaultClear_touches (m) (e) (j) (s : State) : ∃ u, execFeFaultClear m e j s = .next u ∧ Same 140737488355840 s u := by
  unfold execFeFaultClear
  first | apply Touches.answer | apply Touches.answerWhen | (dsimp only; first | apply Touches.answer | apply Touches.answerWhen)
  try dsimp only
  repeat' first
    | with_reducible refine Touches.bind ?_ fun _ => ?_
    | with_reducible refine Touches.ite ?_ ?_
    | with_reducible exact Touches.pure _
    | with_reducible exact Touches.rd
    | (with_reducible apply clearFault_touches); rfl
    | with_reducible split
    | with_reducible dsimp only

theorem traceReject_touches (e) (k) {L : Nat} (h : Nat.lor 144116287657738310 L = L) : Touches L (traceReject e k) := by
  refine Touches.mono (L := 144116287657738310) ?_ h
  unfold traceReject
  try dsimp only
  repeat' first
    | with_reducible refine Touches.bind ?_ fun _ => ?_
    | with_reducible refine Touches.ite ?_ ?_
    | with_reducible exact Touches.pure _
    | with_reducible exact Touches.rd
    | (with_reducible apply raiseSlot_touches); rfl
    | with_reducible split
    | with_reducible dsimp only

theorem writeTraceCtl_touches (e) (k) (v) {L : Nat} (h : Nat.lor 144397762634449478 L = L) : Touches L (writeTraceCtl e k v) := by
  refine Touches.mono (L := 144397762634449478) ?_ h
  unfold writeTraceCtl
  try dsimp only
  repeat' first
    | with_reducible refine Touches.bind ?_ fun _ => ?_
    | with_reducible refine Touches.ite ?_ ?_
    | with_reducible exact Touches.pure _
    | with_reducible exact Touches.rd
    | (with_reducible apply Touches.setF) <;> (first | with_reducible exact F.SRV_TRC_STAT_STATE_window _ _ | with_reducible exact F.SRV_TRC_CTL_SLOT_window _ _ | with_reducible exact F.SRV_TRC_CTL_TAP_window _ _ | with_reducible exact F.SRV_TRC_CTL_TRIG_window _ _ | with_reducible exact F.SRV_TRC_CTL_TRIG_BUF_window _ _ | with_reducible exact F.SRV_TRC_CTL_DEC_window _ _ | with_reducible exact F.SRV_TRC_CTL_ARM_window _ _ | with_reducible exact F.SRV_TRC_STAT_TRIG_OFFSET_window _ _ | with_reducible exact F.SRV_TRC_STAT_START_window _ _ | with_reducible exact F.SRV_TRC_PRE_PRE_VALID_window _ _ | with_reducible exact F.SRV_TRC_CTL_SW_TRIG_window _ _ | rfl)
    | (with_reducible apply traceReject_touches); rfl
    | (with_reducible apply Touches.emitM (M := 281474976710656)) <;> rfl
    | with_reducible split
    | with_reducible dsimp only

end Sys2Proof.Machine
end

