-- ==== Sys2Proof/Laws/Raise.lean ====
section
/-! SUPPORT. What raising an event does, once for every command that raises one (R351, R536, R541). -/

namespace Sys2Proof.Machine

/-- The keys of the register fields that signalling may change beside the event's own counter. -/
def signalKeys : List Nat :=
  [F.EVT_LOST_CNT_CNT.key, F.SEQ_EV_QUEUED_NUM.key,
   (F.EVT_FN_STAT_SIGNALLED 0).key, (F.EVT_FN_STAT_SIGNALLED 1).key, (F.EVT_FN_STAT_SIGNALLED 2).key,
   (F.EVT_FN_STAT_SIGNALLED 3).key,
   (F.HST_LINK_STAT_PSTATE 0).key, (F.HST_LINK_STAT_PSTATE 1).key, (F.HST_LINK_STAT_PSTATE 2).key,
   (F.HST_LINK_STAT_PSTATE 3).key]

/-- What signalling leaves as it was: `K` names the fields it may change beside those of `signalKeys`. -/
structure Signals (K : List Nat) (s t : State) : Prop where
  gets : ∀ f : Fld, f.key ∉ signalKeys → f.key ∉ K → t.get f = s.get f
  chip : t.chip = { s.chip with
    pins := { s.chip.pins with smbAlert := t.chip.pins.smbAlert, smbLevel := t.chip.pins.smbLevel }
    routines := t.chip.routines }
  fns : ∀ f : Fin 4, t.fns[f] = { s.fns[f] with pending := t.fns[f].pending, pendLevel := t.fns[f].pendLevel }
  alert : s.chip.pins.smbAlert = true → t.chip.pins.smbAlert = true
  same : Same 144116287657738310 s t

theorem Signals.refl (K : List Nat) (s : State) : Signals K s s :=
  ⟨fun _ _ _ => rfl, rfl, fun _ => rfl, id, Same.refl _ _⟩

theorem Signals.trans {K : List Nat} {s t u : State} (h : Signals K s t) (h' : Signals K t u) : Signals K s u where
  gets f a b := (h'.gets f a b).trans (h.gets f a b)
  chip := by rw [h'.chip, h.chip]
  fns f := by rw [h'.fns f, h.fns f]
  alert a := h'.alert (h.alert a)
  same := h.same.trans h'.same

theorem Signals.mono {K L : List Nat} {s t : State} (h : Signals K s t) (hk : ∀ k ∈ K, k ∈ L) : Signals L s t where
  gets f a b := h.gets f a (fun c => b (hk _ c))
  chip := h.chip
  fns := h.fns
  alert := h.alert
  same := h.same

/-- A program that only signals. -/
def Quiet {α : Type} (K : List Nat) (m : Act α) : Prop := ∀ s, ∃ a t, Act.Runs m s a t ∧ Signals K s t

theorem Quiet.pure {α : Type} {K : List Nat} (a : α) : Quiet K (Pure.pure a : Act α) :=
  fun s => ⟨a, s, Runs.pure a s, .refl K s⟩

theorem Quiet.rd {K : List Nat} : Quiet K rd := fun s => ⟨s, s, Runs.rd s, .refl K s⟩

theorem Quiet.bind {α β : Type} {K : List Nat} {m : Act α} {f : α → Act β} (h : Quiet K m) (h' : ∀ a, Quiet K (f a)) :
    Quiet K (m >>= f) := by
  intro s
  obtain ⟨a, t, r, e⟩ := h s
  obtain ⟨b, u, r', e'⟩ := h' a t
  exact ⟨b, u, Runs.bind r r', e.trans e'⟩

theorem Quiet.ite {α : Type} {K : List Nat} {c : Prop} [Decidable c] {m n : Act α} (h : Quiet K m) (h' : Quiet K n) :
    Quiet K (if c then m else n) := by
  split
  · exact h
  · exact h'

theorem Quiet.forAll {α : Type} {K : List Nat} {l : List α} {m : α → Act Unit} (h : ∀ a, Quiet K (m a)) :
    Quiet K (forAll l m) := by
  induction l with
  | nil => exact Quiet.pure ()
  | cons a as ih => exact (h a).bind (fun _ => ih)

theorem Quiet.setF {K : List Nat} {f : Fld} {v : Nat} {p : Part} (h : f.key ∈ signalKeys ∨ f.key ∈ K) (hw : f.window = p)
    (hm : Nat.lor (2 ^ p.idx) 144116287657738310 = 144116287657738310) : Quiet K (setF f v) := by
  intro s
  refine ⟨(), s.put f v, Runs.emit (.put f v) s, ?_, rfl, fun _ => rfl, id, ?_⟩
  · intro g a b
    refine State.get_put_ne s v fun e => ?_
    rw [e] at a b
    exact h.elim a b
  · subst hw; exact (put_same s f v).mono hm

theorem Quiet.incStop {K : List Nat} {f : Fld} {p : Part} (h : f.key ∈ signalKeys ∨ f.key ∈ K) (hw : f.window = p)
    (hm : Nat.lor (2 ^ p.idx) 144116287657738310 = 144116287657738310) : Quiet K (incStop f) :=
  (Quiet.rd.bind fun _ => Quiet.pure _).bind fun _ => Quiet.ite (Quiet.setF h hw hm) (Quiet.pure ())

theorem Quiet.mono {α : Type} {K L : List Nat} {m : Act α} (h : Quiet K m) (hk : ∀ k ∈ K, k ∈ L) : Quiet L m :=
  fun s => let ⟨a, t, r, e⟩ := h s; ⟨a, t, r, e.mono hk⟩

theorem Quiet.chip {K : List Nat} {g : Chip → Chip}
    (h : ∀ c, g c = { c with pins := { c.pins with smbAlert := (g c).pins.smbAlert, smbLevel := (g c).pins.smbLevel }
                             routines := (g c).routines } ∧ (c.pins.smbAlert = true → (g c).pins.smbAlert = true)) :
    Quiet K (Machine.emit (.chip g)) :=
  fun s => ⟨(), _, Runs.emit (.chip g) s, fun _ _ _ => rfl, (h s.chip).1, fun _ => rfl, (h s.chip).2,
    Same.mono (L := 67108864) (Eff.same (.chip g) s) rfl⟩

theorem Quiet.fn {K : List Nat} {f : Fin 4} {g : HostFn → HostFn}
    (h : ∀ x, g x = { x with pending := (g x).pending, pendLevel := (g x).pendLevel }) :
    Quiet K (Machine.emit (.fn f g)) := by
  refine fun s => ⟨(), _, Runs.emit (.fn f g) s, fun _ _ _ => rfl, rfl, fun j => ?_, id, Same.mono (L := 1099511627776) (Eff.same (.fn f g) s) rfl⟩
  show (s.fns.set f.val (g s.fns[f]) f.isLt)[j] = _
  by_cases e : f = j
  · subst e
    have : ((Eff.fn f g).apply s).fns[f] = g s.fns[f] := by
      show (s.fns.set f.val (g s.fns[f]) f.isLt)[f.val] = _
      simp
    rw [this]
    simpa using h s.fns[f]
  · have ne : f.val ≠ j.val := fun x => e (Fin.ext x)
    have : ((Eff.fn f g).apply s).fns[j] = s.fns[j] := by
      show (s.fns.set f.val (g s.fns[f]) f.isLt)[j.val] = _
      simp [ne]
    rw [this]
    simp [ne]

theorem Quiet.emit {K : List Nat} {e : Eff} {M : Nat}
    (h : ∀ s, (e.apply s).fields = s.fields ∧ (e.apply s).chip = s.chip ∧ (e.apply s).fns = s.fns)
    (he : e.mask = M) (hm : Nat.lor M 144116287657738310 = 144116287657738310) : Quiet K (Machine.emit e) := by
  refine fun s => ⟨(), _, Runs.emit e s, ?_, ?_, ?_, ?_, Same.mono (he ▸ Eff.same e s) hm⟩
  · exact fun f _ _ => by unfold State.get; rw [(h s).1]
  · rw [(h s).2.1]
  · intro j; rw [(h s).2.2]
  · rw [(h s).2.1]; exact id

theorem signalled_key (f : Fin 4) : (F.EVT_FN_STAT_SIGNALLED f.val).key ∈ signalKeys := by revert f; decide

theorem pstate_key (f : Fin 4) : (F.HST_LINK_STAT_PSTATE (2 * (f.val / 2))).key ∈ signalKeys ∧
    (F.HST_LINK_STAT_PSTATE (2 * (f.val / 2) + 1)).key ∈ signalKeys := by revert f; decide

theorem leaveL1_quiet (K : List Nat) (f : Fin 4) : Quiet K (leaveL1 f) := by
  unfold leaveL1
  refine Quiet.rd.bind fun _ => Quiet.ite (Quiet.bind ?_ fun _ => ?_) (Quiet.pure ())
  · exact Quiet.setF (.inl (pstate_key f).1) (F.HST_LINK_STAT_PSTATE_window _) rfl
  · exact Quiet.setF (.inl (pstate_key f).2) (F.HST_LINK_STAT_PSTATE_window _) rfl

theorem sendVector_quiet (K : List Nat) (f : Fin 4) (v level : Nat) : Quiet K (sendVector f v level) := by
  unfold sendVector
  repeat' first
    | with_reducible refine Quiet.bind ?_ fun _ => ?_
    | with_reducible refine Quiet.ite ?_ ?_
    | with_reducible exact Quiet.pure _
    | with_reducible exact Quiet.rd
    | with_reducible exact leaveL1_quiet K f
    | exact Quiet.fn fun x => rfl
    | exact Quiet.emit (fun _ => ⟨rfl, rfl, rfl⟩) (M := 2097152) rfl rfl
    | with_reducible split
    | with_reducible dsimp only

theorem attendFn_quiet (K : List Nat) (f : Fin 4) (r : Option EventRec) : Quiet K (attendFn f r) := by
  have hs (v : Nat) : Quiet K (setF (F.EVT_FN_STAT_SIGNALLED f.val) v) :=
    Quiet.setF (.inl (signalled_key f)) (F.EVT_FN_STAT_SIGNALLED_window _) rfl
  unfold attendFn
  repeat' first
    | with_reducible refine Quiet.bind ?_ fun _ => ?_
    | with_reducible refine Quiet.ite ?_ ?_
    | with_reducible exact Quiet.pure _
    | with_reducible exact Quiet.rd
    | with_reducible exact hs _
    | with_reducible exact sendVector_quiet K f _ _
    | exact Quiet.fn fun x => rfl
    | with_reducible split
    | with_reducible dsimp only

theorem attend_quiet (K : List Nat) (r : Option EventRec) : Quiet K (attend r) := by
  unfold attend
  refine (Quiet.forAll fun f => attendFn_quiet K f r).bind fun _ => Quiet.rd.bind fun s => ?_
  exact Quiet.chip fun c => ⟨rfl, fun h => by simp [h]⟩

/-- One more in a counter that stops at its maximum. -/
theorem incStop_runs (f : Fld) (s : State) : ∃ t, Act.Runs (incStop f) s () t ∧
    t.get f = (if s.get f + 1 < 2 ^ f.w then s.get f + 1 else s.get f) ∧ (∀ g : Fld, g.key ≠ f.key → t.get g = s.get g) ∧
    t = { s with fields := t.fields } ∧ Same (2 ^ f.window.idx) s t := by
  unfold incStop getF
  by_cases h : s.get f + 1 < 2 ^ f.w
  · refine ⟨s.put f (s.get f + 1), ?_, ?_, ?_, rfl, put_same s f _⟩
    · intro k
      show Prog.run ((if s.get f + 1 < 2 ^ f.w then setF f (s.get f + 1) else pure ()) k) s = _
      rw [if_pos h]; rfl
    · rw [State.get_put_self, Nat.mod_eq_of_lt h, if_pos h]
    · exact fun g hg => State.get_put_ne s _ hg
  · refine ⟨s, ?_, ?_, fun _ _ => rfl, rfl, Same.refl _ _⟩
    · intro k
      show Prog.run ((if s.get f + 1 < 2 ^ f.w then setF f (s.get f + 1) else pure ()) k) s = _
      rw [if_neg h]; rfl
    · rw [if_neg h]

theorem Runs.det {α : Type} {m : Act α} {s t u : State} {a b : α} (h : Act.Runs m s a t) (h' : Act.Runs m s b u) : t = u := by
  have e := (h (fun _ => Prog.done)).symm.trans (h' (fun _ => Prog.done))
  exact e

theorem count_ne_signal (n : Nat) : (F.EVT_COUNT_CNT n).key ∉ signalKeys := by
  have h : (F.EVT_COUNT_CNT n).key = (0x10000 + 0x100 + 4 * (n % 512)) * 64 := by
    simp [Fld.key, F.EVT_COUNT_CNT, F.evtBase]
  rw [h]
  have hl : n % 512 < 512 := Nat.mod_lt _ (by decide)
  have : ∀ k ∈ signalKeys, k < (0x10000 + 0x100) * 64 ∨ (0x10000 + 0x100 + 4 * 512) * 64 ≤ k := by decide
  intro hm
  have := this _ hm
  omega

theorem count_key (n m : Nat) (h : n % 512 ≠ m % 512) : (F.EVT_COUNT_CNT n).key ≠ (F.EVT_COUNT_CNT m).key := by
  simp only [Fld.key, F.EVT_COUNT_CNT, F.evtBase]; omega

/-- A program of which only its signalling matters. -/
theorem Post.quiet {α : Type} {K : List Nat} {m : Act α} {s : State} {Q : α → State → Prop} (h : Quiet K m)
    (q : ∀ a t, Signals K s t → Q a t) : Act.Post m s Q := by
  obtain ⟨a, t, r, e⟩ := h s
  exact ⟨a, t, r, q a t e⟩

theorem Post.attend {r : Option EventRec} {s : State} {Q : Unit → State → Prop}
    (q : ∀ t, Signals [] s t → t.evq = s.evq → Q () t) : Act.Post (attend r) s Q := by
  obtain ⟨a, t, r', e⟩ := attend_quiet [] r s
  obtain ⟨b, u, r'', e'⟩ := attend_touches r (L := 1099580833858) rfl s
  obtain rfl := Runs.det r' r''
  exact ⟨(), t, r', q t e (e' .evq rfl)⟩

theorem Post.incStop {f : Fld} {s : State} {Q : Unit → State → Prop}
    (q : ∀ t, t.get f = (if s.get f + 1 < 2 ^ f.w then s.get f + 1 else s.get f) →
      (∀ g : Fld, g.key ≠ f.key → t.get g = s.get g) → t = { s with fields := t.fields } → Same (2 ^ f.window.idx) s t → Q () t) :
    Act.Post (incStop f) s Q := by
  obtain ⟨t, r, a, b, c, d⟩ := incStop_runs f s
  exact ⟨(), t, r, q t a b c d⟩

theorem Signals.ofFields {K : List Nat} {s t : State} (h : t = { s with fields := t.fields })
    (g : ∀ f : Fld, f.key ∉ signalKeys → f.key ∉ K → t.get f = s.get f) (m : Same 144116287657738310 s t) : Signals K s t := by
  refine ⟨g, ?_, ?_, ?_, m⟩
  · rw [h]
  · intro f; rw [h]
  · rw [h]; exact id

theorem Signals.ofEff {K : List Nat} {e : Eff} {M : Nat} (s : State)
    (h : (e.apply s).fields = s.fields ∧ (e.apply s).chip = s.chip ∧ (e.apply s).fns = s.fns)
    (he : e.mask = M) (hm : Nat.lor M 144116287657738310 = 144116287657738310) : Signals K s (e.apply s) := by
  refine ⟨?_, ?_, ?_, ?_, Same.mono (he ▸ Eff.same e s) hm⟩
  · exact fun f _ _ => by unfold State.get; rw [h.1]
  · rw [h.2.1]
  · intro j; rw [h.2.2]
  · rw [h.2.1]; exact id

/-- What a raise does once its count has risen. -/
theorem raise_tail (r : EventRec) (s : State) : Act.Post (do
    if s.merges r then
      emit .merge
      attend none
    else
      if s.losesRecord then incStop F.EVT_LOST_CNT_CNT
      emit (.queue r)
      attend (if s.evq.ready then some r else none)) s
    (fun _ t => Signals [] s t ∧ t.evq = if s.merges r then s.evq.merge else s.evq.push r) := by
  refine Post.ite (fun hm => ?_) (fun hm => ?_)
  · rw [if_pos hm]
    refine Post.bind (Post.emit (Post.attend fun t a b => ⟨?_, b⟩))
    exact (Signals.ofEff s ⟨rfl, rfl, rfl⟩ (M := 1048576) rfl rfl).trans a
  · rw [if_neg hm]
    have last (u : State) (hu : Signals [] s u) (he : u.evq = s.evq) : Act.Post (do
        emit (.queue r)
        attend (if s.evq.ready then some r else none)) u (fun _ t => Signals [] s t ∧ t.evq = s.evq.push r) := by
      refine Post.bind (Post.emit (Post.attend fun t a b => ⟨?_, b.trans (he ▸ rfl)⟩))
      exact (hu.trans (Signals.ofEff u ⟨rfl, rfl, rfl⟩ (M := 1048576) rfl rfl)).trans a
    refine Post.ite (fun _ => ?_) (fun _ => ?_)
    · refine Post.bind (Post.incStop fun u _ a b c => last u (.ofFields b ?_ (c.mono rfl)) (by rw [b]))
      exact fun f h _ => a f fun e => h (e ▸ List.mem_cons_self)
    · exact last s (.refl _ _) rfl

/-- What raising an event does: it counts the event and makes or merges its record (R536); apart from that it only signals. -/
theorem raise_runs (n sub inst detail : Nat) (s : State) : ∃ t, Act.Runs (raise n sub inst detail) s () t ∧
    Raised n sub inst detail s t ∧ Signals [(F.EVT_COUNT_CNT n).key] s t := by
  suffices h : Act.Post (Machine.raise n sub inst detail) s
      (fun _ t => Raised n sub inst detail s t ∧ Signals [(F.EVT_COUNT_CNT n).key] s t) by
    obtain ⟨_, t, r, q⟩ := h
    exact ⟨t, r, q⟩
  unfold Machine.raise raiseAt
  refine Post.bind (Post.incStop fun u hc hg hf hs => ?_)
  have su : Signals [(F.EVT_COUNT_CNT n).key] s u :=
    .ofFields hf (fun f _ a => hg f fun e => a (e ▸ List.mem_cons_self)) (by
      rw [F.EVT_COUNT_CNT_window] at hs; exact hs.mono rfl)
  have ev : u.evq = s.evq := by rw [hf]
  have nw : u.now = s.now := by rw [hf]
  have ts : u.timeStamp = s.timeStamp := by rw [hf]; rfl
  refine Post.bind (Post.rd ?_)
  have tail (v : State) (hv : Signals [] u v) (he : v.evq = u.evq) (hn : v.now = u.now) (hm : v.losesRecord = u.losesRecord) :
      Act.Post (do
        if u.merges (s.eventRec n sub inst detail) then
          emit .merge
          Machine.attend none
        else
          if u.losesRecord then incStop F.EVT_LOST_CNT_CNT
          emit (.queue (s.eventRec n sub inst detail))
          Machine.attend (if u.evq.ready then some (s.eventRec n sub inst detail) else none)) v
        (fun _ t => Raised n sub inst detail s t ∧ Signals [(F.EVT_COUNT_CNT n).key] s t) := by
    have h := raise_tail (s.eventRec n sub inst detail) v
    have hmer : v.merges (s.eventRec n sub inst detail) = s.merges (s.eventRec n sub inst detail) := by
      unfold State.merges; rw [he, ev, hn, nw]
    have hmer' : u.merges (s.eventRec n sub inst detail) = s.merges (s.eventRec n sub inst detail) := by
      unfold State.merges; rw [ev, nw]
    rw [hmer, hm, he, ev] at h
    rw [hmer', ev]
    refine Post.mono h fun _ t ht => ⟨⟨?_, ht.2⟩, (su.trans (hv.mono (by simp))).trans (ht.1.mono (by simp))⟩
    have k := count_ne_signal n
    unfold Counted
    rw [ht.1.gets _ k (by simp), hv.gets _ k (by simp), hc]
    rfl
  dsimp only
  rw [ts, nw]
  refine Post.ite (fun _ => ?_) (fun _ => ?_)
  · refine Post.bind (Post.emit (Post.bind (Post.emit (Post.bind (Post.rd (Post.bind (Post.setF ?_)))))))
    refine tail _ ?_ rfl rfl rfl
    refine ⟨?_, rfl, fun _ => rfl, id, ?_⟩
    · intro f a _
      exact State.get_put_ne _ _ fun e => a (e ▸ List.mem_cons_of_mem _ List.mem_cons_self)
    · exact ((Same.mono (L := 67108864) (Eff.same (.chip _) _) rfl).trans
        (Same.mono (L := 144115188075855872) (Eff.same (.seqs _) _) rfl)).trans (Same.mono (put_same _ _ _) rfl)
  · exact tail u (.refl _ _) rfl rfl rfl

/-- A command that raises an event goes on from a state in which the event has been raised. -/
theorem Post.raise {n sub inst detail : Nat} {s : State} {Q : Unit → State → Prop}
    (h : ∀ t, Raised n sub inst detail s t → Signals [(F.EVT_COUNT_CNT n).key] s t → Q () t) :
    Act.Post (raise n sub inst detail) s Q := by
  obtain ⟨t, r, a, b⟩ := raise_runs n sub inst detail s
  exact ⟨(), t, r, h t a b⟩

end Sys2Proof.Machine
end

