-- ==== Sys2Proof/Laws/State.lean ====
section
/-! SUPPORT. What each primitive effect leaves of each field of the state, and the one it changes: every lemma holds by definition. -/

namespace Sys2Proof.Machine

@[simp] theorem put_frame (f : Fld) (v : Nat) (s : State) :
    (s.put f v).pending = s.pending ∧ (s.put f v).now = s.now ∧ (s.put f v).free = s.free ∧ (s.put f v).out = s.out ∧
    (s.put f v).shadows = s.shadows ∧ (s.put f v).evq = s.evq ∧ (s.put f v).chip = s.chip ∧ (s.put f v).boot = s.boot ∧ (s.put f v).nv = s.nv ∧
    (s.put f v).otp = s.otp ∧ (s.put f v).dbg = s.dbg ∧ (s.put f v).nextSeq = s.nextSeq ∧ (s.put f v).grantEnd = s.grantEnd ∧
    (s.put f v).cache = s.cache ∧ (s.put f v).extents = s.extents ∧ (s.put f v).volumes = s.volumes ∧ (s.put f v).strands = s.strands ∧
    (s.put f v).deferred = s.deferred ∧ (s.put f v).discs = s.discs ∧ (s.put f v).requests = s.requests ∧ (s.put f v).flash = s.flash ∧
    (s.put f v).life = s.life ∧ (s.put f v).lost = s.lost ∧ (s.put f v).fns = s.fns ∧ (s.put f v).class0 = s.class0 ∧ (s.put f v).insts = s.insts ∧
    (s.put f v).nextId = s.nextId ∧ (s.put f v).bays = s.bays ∧ (s.put f v).spokes = s.spokes ∧ (s.put f v).optics = s.optics ∧
    (s.put f v).servos = s.servos ∧ (s.put f v).traces = s.traces ∧ (s.put f v).motors = s.motors ∧ (s.put f v).axes = s.axes ∧
    (s.put f v).inputs = s.inputs ∧ (s.put f v).lanes = s.lanes ∧ (s.put f v).detectors = s.detectors ∧ (s.put f v).frames = s.frames ∧
    (s.put f v).writers = s.writers ∧ (s.put f v).cal = s.cal ∧ (s.put f v).seqs = s.seqs ∧ (s.put f v).cch = s.cch ∧ (s.put f v).dram = s.dram := by
  and_intros <;> rfl

@[simp] theorem apply_put (f : Fld) (v : Nat) (s : State) : (Eff.put f v).apply s = s.put f v := rfl

@[simp] theorem apply_queue_frame (r : EventRec) (s : State) :
    ((Eff.queue r).apply s).pending = s.pending ∧ ((Eff.queue r).apply s).fields = s.fields ∧ ((Eff.queue r).apply s).now = s.now ∧
    ((Eff.queue r).apply s).free = s.free ∧ ((Eff.queue r).apply s).out = s.out ∧ ((Eff.queue r).apply s).shadows = s.shadows ∧
    ((Eff.queue r).apply s).chip = s.chip ∧ ((Eff.queue r).apply s).boot = s.boot ∧ ((Eff.queue r).apply s).nv = s.nv ∧
    ((Eff.queue r).apply s).otp = s.otp ∧ ((Eff.queue r).apply s).dbg = s.dbg ∧ ((Eff.queue r).apply s).nextSeq = s.nextSeq ∧
    ((Eff.queue r).apply s).grantEnd = s.grantEnd ∧ ((Eff.queue r).apply s).cache = s.cache ∧ ((Eff.queue r).apply s).extents = s.extents ∧
    ((Eff.queue r).apply s).volumes = s.volumes ∧ ((Eff.queue r).apply s).strands = s.strands ∧ ((Eff.queue r).apply s).deferred = s.deferred ∧
    ((Eff.queue r).apply s).discs = s.discs ∧ ((Eff.queue r).apply s).requests = s.requests ∧ ((Eff.queue r).apply s).flash = s.flash ∧
    ((Eff.queue r).apply s).life = s.life ∧ ((Eff.queue r).apply s).lost = s.lost ∧ ((Eff.queue r).apply s).fns = s.fns ∧
    ((Eff.queue r).apply s).class0 = s.class0 ∧ ((Eff.queue r).apply s).insts = s.insts ∧ ((Eff.queue r).apply s).nextId = s.nextId ∧
    ((Eff.queue r).apply s).bays = s.bays ∧ ((Eff.queue r).apply s).spokes = s.spokes ∧ ((Eff.queue r).apply s).optics = s.optics ∧
    ((Eff.queue r).apply s).servos = s.servos ∧ ((Eff.queue r).apply s).traces = s.traces ∧ ((Eff.queue r).apply s).motors = s.motors ∧
    ((Eff.queue r).apply s).axes = s.axes ∧ ((Eff.queue r).apply s).inputs = s.inputs ∧ ((Eff.queue r).apply s).lanes = s.lanes ∧
    ((Eff.queue r).apply s).detectors = s.detectors ∧ ((Eff.queue r).apply s).frames = s.frames ∧ ((Eff.queue r).apply s).writers = s.writers ∧
    ((Eff.queue r).apply s).cal = s.cal ∧ ((Eff.queue r).apply s).seqs = s.seqs ∧ ((Eff.queue r).apply s).cch = s.cch ∧
    ((Eff.queue r).apply s).dram = s.dram ∧ ((Eff.queue r).apply s).evq = s.evq.push r ∧ ∀ f : Fld, ((Eff.queue r).apply s).get f = s.get f := by
  and_intros <;> first | rfl | exact fun _ => rfl

@[simp] theorem apply_merge_frame (s : State) :
    ((Eff.merge).apply s).pending = s.pending ∧ ((Eff.merge).apply s).fields = s.fields ∧ ((Eff.merge).apply s).now = s.now ∧
    ((Eff.merge).apply s).free = s.free ∧ ((Eff.merge).apply s).out = s.out ∧ ((Eff.merge).apply s).shadows = s.shadows ∧
    ((Eff.merge).apply s).chip = s.chip ∧ ((Eff.merge).apply s).boot = s.boot ∧ ((Eff.merge).apply s).nv = s.nv ∧ ((Eff.merge).apply s).otp = s.otp ∧
    ((Eff.merge).apply s).dbg = s.dbg ∧ ((Eff.merge).apply s).nextSeq = s.nextSeq ∧ ((Eff.merge).apply s).grantEnd = s.grantEnd ∧
    ((Eff.merge).apply s).cache = s.cache ∧ ((Eff.merge).apply s).extents = s.extents ∧ ((Eff.merge).apply s).volumes = s.volumes ∧
    ((Eff.merge).apply s).strands = s.strands ∧ ((Eff.merge).apply s).deferred = s.deferred ∧ ((Eff.merge).apply s).discs = s.discs ∧
    ((Eff.merge).apply s).requests = s.requests ∧ ((Eff.merge).apply s).flash = s.flash ∧ ((Eff.merge).apply s).life = s.life ∧
    ((Eff.merge).apply s).lost = s.lost ∧ ((Eff.merge).apply s).fns = s.fns ∧ ((Eff.merge).apply s).class0 = s.class0 ∧
    ((Eff.merge).apply s).insts = s.insts ∧ ((Eff.merge).apply s).nextId = s.nextId ∧ ((Eff.merge).apply s).bays = s.bays ∧
    ((Eff.merge).apply s).spokes = s.spokes ∧ ((Eff.merge).apply s).optics = s.optics ∧ ((Eff.merge).apply s).servos = s.servos ∧
    ((Eff.merge).apply s).traces = s.traces ∧ ((Eff.merge).apply s).motors = s.motors ∧ ((Eff.merge).apply s).axes = s.axes ∧
    ((Eff.merge).apply s).inputs = s.inputs ∧ ((Eff.merge).apply s).lanes = s.lanes ∧ ((Eff.merge).apply s).detectors = s.detectors ∧
    ((Eff.merge).apply s).frames = s.frames ∧ ((Eff.merge).apply s).writers = s.writers ∧ ((Eff.merge).apply s).cal = s.cal ∧
    ((Eff.merge).apply s).seqs = s.seqs ∧ ((Eff.merge).apply s).cch = s.cch ∧ ((Eff.merge).apply s).dram = s.dram ∧
    ((Eff.merge).apply s).evq = s.evq.merge ∧ ∀ f : Fld, ((Eff.merge).apply s).get f = s.get f := by
  and_intros <;> first | rfl | exact fun _ => rfl

@[simp] theorem apply_consume_frame (p : Fin 2) (n : Nat) (s : State) :
    ((Eff.consume p n).apply s).pending = s.pending ∧ ((Eff.consume p n).apply s).fields = s.fields ∧ ((Eff.consume p n).apply s).now = s.now ∧
    ((Eff.consume p n).apply s).free = s.free ∧ ((Eff.consume p n).apply s).out = s.out ∧ ((Eff.consume p n).apply s).shadows = s.shadows ∧
    ((Eff.consume p n).apply s).chip = s.chip ∧ ((Eff.consume p n).apply s).boot = s.boot ∧ ((Eff.consume p n).apply s).nv = s.nv ∧
    ((Eff.consume p n).apply s).otp = s.otp ∧ ((Eff.consume p n).apply s).dbg = s.dbg ∧ ((Eff.consume p n).apply s).nextSeq = s.nextSeq ∧
    ((Eff.consume p n).apply s).grantEnd = s.grantEnd ∧ ((Eff.consume p n).apply s).cache = s.cache ∧
    ((Eff.consume p n).apply s).extents = s.extents ∧ ((Eff.consume p n).apply s).volumes = s.volumes ∧
    ((Eff.consume p n).apply s).strands = s.strands ∧ ((Eff.consume p n).apply s).deferred = s.deferred ∧
    ((Eff.consume p n).apply s).discs = s.discs ∧ ((Eff.consume p n).apply s).requests = s.requests ∧ ((Eff.consume p n).apply s).flash = s.flash ∧
    ((Eff.consume p n).apply s).life = s.life ∧ ((Eff.consume p n).apply s).lost = s.lost ∧ ((Eff.consume p n).apply s).fns = s.fns ∧
    ((Eff.consume p n).apply s).class0 = s.class0 ∧ ((Eff.consume p n).apply s).insts = s.insts ∧ ((Eff.consume p n).apply s).nextId = s.nextId ∧
    ((Eff.consume p n).apply s).bays = s.bays ∧ ((Eff.consume p n).apply s).spokes = s.spokes ∧ ((Eff.consume p n).apply s).optics = s.optics ∧
    ((Eff.consume p n).apply s).servos = s.servos ∧ ((Eff.consume p n).apply s).traces = s.traces ∧ ((Eff.consume p n).apply s).motors = s.motors ∧
    ((Eff.consume p n).apply s).axes = s.axes ∧ ((Eff.consume p n).apply s).inputs = s.inputs ∧ ((Eff.consume p n).apply s).lanes = s.lanes ∧
    ((Eff.consume p n).apply s).detectors = s.detectors ∧ ((Eff.consume p n).apply s).frames = s.frames ∧
    ((Eff.consume p n).apply s).writers = s.writers ∧ ((Eff.consume p n).apply s).cal = s.cal ∧ ((Eff.consume p n).apply s).seqs = s.seqs ∧
    ((Eff.consume p n).apply s).cch = s.cch ∧ ((Eff.consume p n).apply s).dram = s.dram ∧ ((Eff.consume p n).apply s).evq = s.evq.consume p n ∧
    ∀ f : Fld, ((Eff.consume p n).apply s).get f = s.get f := by
  and_intros <;> first | rfl | exact fun _ => rfl

@[simp] theorem apply_openQueue_frame (s : State) :
    ((Eff.openQueue).apply s).pending = s.pending ∧ ((Eff.openQueue).apply s).fields = s.fields ∧ ((Eff.openQueue).apply s).now = s.now ∧
    ((Eff.openQueue).apply s).free = s.free ∧ ((Eff.openQueue).apply s).out = s.out ∧ ((Eff.openQueue).apply s).shadows = s.shadows ∧
    ((Eff.openQueue).apply s).chip = s.chip ∧ ((Eff.openQueue).apply s).boot = s.boot ∧ ((Eff.openQueue).apply s).nv = s.nv ∧
    ((Eff.openQueue).apply s).otp = s.otp ∧ ((Eff.openQueue).apply s).dbg = s.dbg ∧ ((Eff.openQueue).apply s).nextSeq = s.nextSeq ∧
    ((Eff.openQueue).apply s).grantEnd = s.grantEnd ∧ ((Eff.openQueue).apply s).cache = s.cache ∧ ((Eff.openQueue).apply s).extents = s.extents ∧
    ((Eff.openQueue).apply s).volumes = s.volumes ∧ ((Eff.openQueue).apply s).strands = s.strands ∧ ((Eff.openQueue).apply s).deferred = s.deferred ∧
    ((Eff.openQueue).apply s).discs = s.discs ∧ ((Eff.openQueue).apply s).requests = s.requests ∧ ((Eff.openQueue).apply s).flash = s.flash ∧
    ((Eff.openQueue).apply s).life = s.life ∧ ((Eff.openQueue).apply s).lost = s.lost ∧ ((Eff.openQueue).apply s).fns = s.fns ∧
    ((Eff.openQueue).apply s).class0 = s.class0 ∧ ((Eff.openQueue).apply s).insts = s.insts ∧ ((Eff.openQueue).apply s).nextId = s.nextId ∧
    ((Eff.openQueue).apply s).bays = s.bays ∧ ((Eff.openQueue).apply s).spokes = s.spokes ∧ ((Eff.openQueue).apply s).optics = s.optics ∧
    ((Eff.openQueue).apply s).servos = s.servos ∧ ((Eff.openQueue).apply s).traces = s.traces ∧ ((Eff.openQueue).apply s).motors = s.motors ∧
    ((Eff.openQueue).apply s).axes = s.axes ∧ ((Eff.openQueue).apply s).inputs = s.inputs ∧ ((Eff.openQueue).apply s).lanes = s.lanes ∧
    ((Eff.openQueue).apply s).detectors = s.detectors ∧ ((Eff.openQueue).apply s).frames = s.frames ∧ ((Eff.openQueue).apply s).writers = s.writers ∧
    ((Eff.openQueue).apply s).cal = s.cal ∧ ((Eff.openQueue).apply s).seqs = s.seqs ∧ ((Eff.openQueue).apply s).cch = s.cch ∧
    ((Eff.openQueue).apply s).dram = s.dram ∧ ((Eff.openQueue).apply s).evq = s.evq.setUp s.timeStamp s.now ∧
    ∀ f : Fld, ((Eff.openQueue).apply s).get f = s.get f := by
  and_intros <;> first | rfl | exact fun _ => rfl

@[simp] theorem apply_out_frame (o : Output) (s : State) :
    ((Eff.out o).apply s).pending = s.pending ∧ ((Eff.out o).apply s).fields = s.fields ∧ ((Eff.out o).apply s).now = s.now ∧
    ((Eff.out o).apply s).free = s.free ∧ ((Eff.out o).apply s).shadows = s.shadows ∧ ((Eff.out o).apply s).evq = s.evq ∧
    ((Eff.out o).apply s).chip = s.chip ∧ ((Eff.out o).apply s).boot = s.boot ∧ ((Eff.out o).apply s).nv = s.nv ∧ ((Eff.out o).apply s).otp = s.otp ∧
    ((Eff.out o).apply s).dbg = s.dbg ∧ ((Eff.out o).apply s).nextSeq = s.nextSeq ∧ ((Eff.out o).apply s).grantEnd = s.grantEnd ∧
    ((Eff.out o).apply s).cache = s.cache ∧ ((Eff.out o).apply s).extents = s.extents ∧ ((Eff.out o).apply s).volumes = s.volumes ∧
    ((Eff.out o).apply s).strands = s.strands ∧ ((Eff.out o).apply s).deferred = s.deferred ∧ ((Eff.out o).apply s).discs = s.discs ∧
    ((Eff.out o).apply s).requests = s.requests ∧ ((Eff.out o).apply s).flash = s.flash ∧ ((Eff.out o).apply s).life = s.life ∧
    ((Eff.out o).apply s).lost = s.lost ∧ ((Eff.out o).apply s).fns = s.fns ∧ ((Eff.out o).apply s).class0 = s.class0 ∧
    ((Eff.out o).apply s).insts = s.insts ∧ ((Eff.out o).apply s).nextId = s.nextId ∧ ((Eff.out o).apply s).bays = s.bays ∧
    ((Eff.out o).apply s).spokes = s.spokes ∧ ((Eff.out o).apply s).optics = s.optics ∧ ((Eff.out o).apply s).servos = s.servos ∧
    ((Eff.out o).apply s).traces = s.traces ∧ ((Eff.out o).apply s).motors = s.motors ∧ ((Eff.out o).apply s).axes = s.axes ∧
    ((Eff.out o).apply s).inputs = s.inputs ∧ ((Eff.out o).apply s).lanes = s.lanes ∧ ((Eff.out o).apply s).detectors = s.detectors ∧
    ((Eff.out o).apply s).frames = s.frames ∧ ((Eff.out o).apply s).writers = s.writers ∧ ((Eff.out o).apply s).cal = s.cal ∧
    ((Eff.out o).apply s).seqs = s.seqs ∧ ((Eff.out o).apply s).cch = s.cch ∧ ((Eff.out o).apply s).dram = s.dram ∧
    ((Eff.out o).apply s).out = s.out ++ [o] ∧ ∀ f : Fld, ((Eff.out o).apply s).get f = s.get f := by
  and_intros <;> first | rfl | exact fun _ => rfl

@[simp] theorem apply_useFree_frame (s : State) :
    ((Eff.useFree).apply s).pending = s.pending ∧ ((Eff.useFree).apply s).fields = s.fields ∧ ((Eff.useFree).apply s).now = s.now ∧
    ((Eff.useFree).apply s).out = s.out ∧ ((Eff.useFree).apply s).shadows = s.shadows ∧ ((Eff.useFree).apply s).evq = s.evq ∧
    ((Eff.useFree).apply s).chip = s.chip ∧ ((Eff.useFree).apply s).boot = s.boot ∧ ((Eff.useFree).apply s).nv = s.nv ∧
    ((Eff.useFree).apply s).otp = s.otp ∧ ((Eff.useFree).apply s).dbg = s.dbg ∧ ((Eff.useFree).apply s).nextSeq = s.nextSeq ∧
    ((Eff.useFree).apply s).grantEnd = s.grantEnd ∧ ((Eff.useFree).apply s).cache = s.cache ∧ ((Eff.useFree).apply s).extents = s.extents ∧
    ((Eff.useFree).apply s).volumes = s.volumes ∧ ((Eff.useFree).apply s).strands = s.strands ∧ ((Eff.useFree).apply s).deferred = s.deferred ∧
    ((Eff.useFree).apply s).discs = s.discs ∧ ((Eff.useFree).apply s).requests = s.requests ∧ ((Eff.useFree).apply s).flash = s.flash ∧
    ((Eff.useFree).apply s).life = s.life ∧ ((Eff.useFree).apply s).lost = s.lost ∧ ((Eff.useFree).apply s).fns = s.fns ∧
    ((Eff.useFree).apply s).class0 = s.class0 ∧ ((Eff.useFree).apply s).insts = s.insts ∧ ((Eff.useFree).apply s).nextId = s.nextId ∧
    ((Eff.useFree).apply s).bays = s.bays ∧ ((Eff.useFree).apply s).spokes = s.spokes ∧ ((Eff.useFree).apply s).optics = s.optics ∧
    ((Eff.useFree).apply s).servos = s.servos ∧ ((Eff.useFree).apply s).traces = s.traces ∧ ((Eff.useFree).apply s).motors = s.motors ∧
    ((Eff.useFree).apply s).axes = s.axes ∧ ((Eff.useFree).apply s).inputs = s.inputs ∧ ((Eff.useFree).apply s).lanes = s.lanes ∧
    ((Eff.useFree).apply s).detectors = s.detectors ∧ ((Eff.useFree).apply s).frames = s.frames ∧ ((Eff.useFree).apply s).writers = s.writers ∧
    ((Eff.useFree).apply s).cal = s.cal ∧ ((Eff.useFree).apply s).seqs = s.seqs ∧ ((Eff.useFree).apply s).cch = s.cch ∧
    ((Eff.useFree).apply s).dram = s.dram ∧ ((Eff.useFree).apply s).free = s.free + 1 ∧ ∀ f : Fld, ((Eff.useFree).apply s).get f = s.get f := by
  and_intros <;> first | rfl | exact fun _ => rfl

@[simp] theorem apply_issue_frame (n : Nat) (s : State) :
    ((Eff.issue n).apply s).pending = s.pending ∧ ((Eff.issue n).apply s).fields = s.fields ∧ ((Eff.issue n).apply s).now = s.now ∧
    ((Eff.issue n).apply s).free = s.free ∧ ((Eff.issue n).apply s).out = s.out ∧ ((Eff.issue n).apply s).shadows = s.shadows ∧
    ((Eff.issue n).apply s).evq = s.evq ∧ ((Eff.issue n).apply s).chip = s.chip ∧ ((Eff.issue n).apply s).boot = s.boot ∧
    ((Eff.issue n).apply s).nv = s.nv ∧ ((Eff.issue n).apply s).otp = s.otp ∧ ((Eff.issue n).apply s).dbg = s.dbg ∧
    ((Eff.issue n).apply s).cache = s.cache ∧ ((Eff.issue n).apply s).extents = s.extents ∧ ((Eff.issue n).apply s).volumes = s.volumes ∧
    ((Eff.issue n).apply s).strands = s.strands ∧ ((Eff.issue n).apply s).deferred = s.deferred ∧ ((Eff.issue n).apply s).discs = s.discs ∧
    ((Eff.issue n).apply s).requests = s.requests ∧ ((Eff.issue n).apply s).flash = s.flash ∧ ((Eff.issue n).apply s).life = s.life ∧
    ((Eff.issue n).apply s).lost = s.lost ∧ ((Eff.issue n).apply s).fns = s.fns ∧ ((Eff.issue n).apply s).class0 = s.class0 ∧
    ((Eff.issue n).apply s).insts = s.insts ∧ ((Eff.issue n).apply s).nextId = s.nextId ∧ ((Eff.issue n).apply s).bays = s.bays ∧
    ((Eff.issue n).apply s).spokes = s.spokes ∧ ((Eff.issue n).apply s).optics = s.optics ∧ ((Eff.issue n).apply s).servos = s.servos ∧
    ((Eff.issue n).apply s).traces = s.traces ∧ ((Eff.issue n).apply s).motors = s.motors ∧ ((Eff.issue n).apply s).axes = s.axes ∧
    ((Eff.issue n).apply s).inputs = s.inputs ∧ ((Eff.issue n).apply s).lanes = s.lanes ∧ ((Eff.issue n).apply s).detectors = s.detectors ∧
    ((Eff.issue n).apply s).frames = s.frames ∧ ((Eff.issue n).apply s).writers = s.writers ∧ ((Eff.issue n).apply s).cal = s.cal ∧
    ((Eff.issue n).apply s).seqs = s.seqs ∧ ((Eff.issue n).apply s).cch = s.cch ∧ ((Eff.issue n).apply s).dram = s.dram ∧
    ((Eff.issue n).apply s).nextSeq = s.nextSeq + n ∧ ((Eff.issue n).apply s).grantEnd = grantFor s.nextSeq s.grantEnd n ∧
    ∀ f : Fld, ((Eff.issue n).apply s).get f = s.get f := by
  and_intros <;> first | rfl | exact fun _ => rfl

@[simp] theorem apply_resumeGrants_frame (s : State) :
    ((Eff.resumeGrants).apply s).pending = s.pending ∧ ((Eff.resumeGrants).apply s).fields = s.fields ∧ ((Eff.resumeGrants).apply s).now = s.now ∧
    ((Eff.resumeGrants).apply s).free = s.free ∧ ((Eff.resumeGrants).apply s).out = s.out ∧ ((Eff.resumeGrants).apply s).shadows = s.shadows ∧
    ((Eff.resumeGrants).apply s).evq = s.evq ∧ ((Eff.resumeGrants).apply s).chip = s.chip ∧ ((Eff.resumeGrants).apply s).boot = s.boot ∧
    ((Eff.resumeGrants).apply s).nv = s.nv ∧ ((Eff.resumeGrants).apply s).otp = s.otp ∧ ((Eff.resumeGrants).apply s).dbg = s.dbg ∧
    ((Eff.resumeGrants).apply s).grantEnd = s.grantEnd ∧ ((Eff.resumeGrants).apply s).cache = s.cache ∧
    ((Eff.resumeGrants).apply s).extents = s.extents ∧ ((Eff.resumeGrants).apply s).volumes = s.volumes ∧
    ((Eff.resumeGrants).apply s).strands = s.strands ∧ ((Eff.resumeGrants).apply s).deferred = s.deferred ∧
    ((Eff.resumeGrants).apply s).discs = s.discs ∧ ((Eff.resumeGrants).apply s).requests = s.requests ∧ ((Eff.resumeGrants).apply s).flash = s.flash ∧
    ((Eff.resumeGrants).apply s).life = s.life ∧ ((Eff.resumeGrants).apply s).lost = s.lost ∧ ((Eff.resumeGrants).apply s).fns = s.fns ∧
    ((Eff.resumeGrants).apply s).class0 = s.class0 ∧ ((Eff.resumeGrants).apply s).insts = s.insts ∧ ((Eff.resumeGrants).apply s).nextId = s.nextId ∧
    ((Eff.resumeGrants).apply s).bays = s.bays ∧ ((Eff.resumeGrants).apply s).spokes = s.spokes ∧ ((Eff.resumeGrants).apply s).optics = s.optics ∧
    ((Eff.resumeGrants).apply s).servos = s.servos ∧ ((Eff.resumeGrants).apply s).traces = s.traces ∧ ((Eff.resumeGrants).apply s).motors = s.motors ∧
    ((Eff.resumeGrants).apply s).axes = s.axes ∧ ((Eff.resumeGrants).apply s).inputs = s.inputs ∧ ((Eff.resumeGrants).apply s).lanes = s.lanes ∧
    ((Eff.resumeGrants).apply s).detectors = s.detectors ∧ ((Eff.resumeGrants).apply s).frames = s.frames ∧
    ((Eff.resumeGrants).apply s).writers = s.writers ∧ ((Eff.resumeGrants).apply s).cal = s.cal ∧ ((Eff.resumeGrants).apply s).seqs = s.seqs ∧
    ((Eff.resumeGrants).apply s).cch = s.cch ∧ ((Eff.resumeGrants).apply s).dram = s.dram ∧
    ((Eff.resumeGrants).apply s).nextSeq = max s.nextSeq s.grantEnd ∧ ∀ f : Fld, ((Eff.resumeGrants).apply s).get f = s.get f := by
  and_intros <;> first | rfl | exact fun _ => rfl

@[simp] theorem apply_fuse_frame (n : Nat) (s : State) :
    ((Eff.fuse n).apply s).pending = s.pending ∧ ((Eff.fuse n).apply s).fields = s.fields ∧ ((Eff.fuse n).apply s).now = s.now ∧
    ((Eff.fuse n).apply s).free = s.free ∧ ((Eff.fuse n).apply s).out = s.out ∧ ((Eff.fuse n).apply s).shadows = s.shadows ∧
    ((Eff.fuse n).apply s).evq = s.evq ∧ ((Eff.fuse n).apply s).chip = s.chip ∧ ((Eff.fuse n).apply s).boot = s.boot ∧
    ((Eff.fuse n).apply s).nv = s.nv ∧ ((Eff.fuse n).apply s).dbg = s.dbg ∧ ((Eff.fuse n).apply s).nextSeq = s.nextSeq ∧
    ((Eff.fuse n).apply s).grantEnd = s.grantEnd ∧ ((Eff.fuse n).apply s).cache = s.cache ∧ ((Eff.fuse n).apply s).extents = s.extents ∧
    ((Eff.fuse n).apply s).volumes = s.volumes ∧ ((Eff.fuse n).apply s).strands = s.strands ∧ ((Eff.fuse n).apply s).deferred = s.deferred ∧
    ((Eff.fuse n).apply s).discs = s.discs ∧ ((Eff.fuse n).apply s).requests = s.requests ∧ ((Eff.fuse n).apply s).flash = s.flash ∧
    ((Eff.fuse n).apply s).life = s.life ∧ ((Eff.fuse n).apply s).lost = s.lost ∧ ((Eff.fuse n).apply s).fns = s.fns ∧
    ((Eff.fuse n).apply s).class0 = s.class0 ∧ ((Eff.fuse n).apply s).insts = s.insts ∧ ((Eff.fuse n).apply s).nextId = s.nextId ∧
    ((Eff.fuse n).apply s).bays = s.bays ∧ ((Eff.fuse n).apply s).spokes = s.spokes ∧ ((Eff.fuse n).apply s).optics = s.optics ∧
    ((Eff.fuse n).apply s).servos = s.servos ∧ ((Eff.fuse n).apply s).traces = s.traces ∧ ((Eff.fuse n).apply s).motors = s.motors ∧
    ((Eff.fuse n).apply s).axes = s.axes ∧ ((Eff.fuse n).apply s).inputs = s.inputs ∧ ((Eff.fuse n).apply s).lanes = s.lanes ∧
    ((Eff.fuse n).apply s).detectors = s.detectors ∧ ((Eff.fuse n).apply s).frames = s.frames ∧ ((Eff.fuse n).apply s).writers = s.writers ∧
    ((Eff.fuse n).apply s).cal = s.cal ∧ ((Eff.fuse n).apply s).seqs = s.seqs ∧ ((Eff.fuse n).apply s).cch = s.cch ∧
    ((Eff.fuse n).apply s).dram = s.dram ∧ ((Eff.fuse n).apply s).otp = { s.otp with counter := max s.otp.counter (min n 64) } ∧
    ∀ f : Fld, ((Eff.fuse n).apply s).get f = s.get f := by
  and_intros <;> first | rfl | exact fun _ => rfl

@[simp] theorem apply_revoke_frame (m : Nat) (s : State) :
    ((Eff.revoke m).apply s).pending = s.pending ∧ ((Eff.revoke m).apply s).fields = s.fields ∧ ((Eff.revoke m).apply s).now = s.now ∧
    ((Eff.revoke m).apply s).free = s.free ∧ ((Eff.revoke m).apply s).out = s.out ∧ ((Eff.revoke m).apply s).shadows = s.shadows ∧
    ((Eff.revoke m).apply s).evq = s.evq ∧ ((Eff.revoke m).apply s).chip = s.chip ∧ ((Eff.revoke m).apply s).boot = s.boot ∧
    ((Eff.revoke m).apply s).nv = s.nv ∧ ((Eff.revoke m).apply s).dbg = s.dbg ∧ ((Eff.revoke m).apply s).nextSeq = s.nextSeq ∧
    ((Eff.revoke m).apply s).grantEnd = s.grantEnd ∧ ((Eff.revoke m).apply s).cache = s.cache ∧ ((Eff.revoke m).apply s).extents = s.extents ∧
    ((Eff.revoke m).apply s).volumes = s.volumes ∧ ((Eff.revoke m).apply s).strands = s.strands ∧ ((Eff.revoke m).apply s).deferred = s.deferred ∧
    ((Eff.revoke m).apply s).discs = s.discs ∧ ((Eff.revoke m).apply s).requests = s.requests ∧ ((Eff.revoke m).apply s).flash = s.flash ∧
    ((Eff.revoke m).apply s).life = s.life ∧ ((Eff.revoke m).apply s).lost = s.lost ∧ ((Eff.revoke m).apply s).fns = s.fns ∧
    ((Eff.revoke m).apply s).class0 = s.class0 ∧ ((Eff.revoke m).apply s).insts = s.insts ∧ ((Eff.revoke m).apply s).nextId = s.nextId ∧
    ((Eff.revoke m).apply s).bays = s.bays ∧ ((Eff.revoke m).apply s).spokes = s.spokes ∧ ((Eff.revoke m).apply s).optics = s.optics ∧
    ((Eff.revoke m).apply s).servos = s.servos ∧ ((Eff.revoke m).apply s).traces = s.traces ∧ ((Eff.revoke m).apply s).motors = s.motors ∧
    ((Eff.revoke m).apply s).axes = s.axes ∧ ((Eff.revoke m).apply s).inputs = s.inputs ∧ ((Eff.revoke m).apply s).lanes = s.lanes ∧
    ((Eff.revoke m).apply s).detectors = s.detectors ∧ ((Eff.revoke m).apply s).frames = s.frames ∧ ((Eff.revoke m).apply s).writers = s.writers ∧
    ((Eff.revoke m).apply s).cal = s.cal ∧ ((Eff.revoke m).apply s).seqs = s.seqs ∧ ((Eff.revoke m).apply s).cch = s.cch ∧
    ((Eff.revoke m).apply s).dram = s.dram ∧ ((Eff.revoke m).apply s).otp = { s.otp with revoked := (s.otp.revoked ||| m) % 16 } ∧
    ∀ f : Fld, ((Eff.revoke m).apply s).get f = s.get f := by
  and_intros <;> first | rfl | exact fun _ => rfl

@[simp] theorem apply_shadows_frame (g : List ((Nat × Nat) × Nat) → List ((Nat × Nat) × Nat)) (s : State) :
    ((Eff.shadows g).apply s).pending = s.pending ∧ ((Eff.shadows g).apply s).fields = s.fields ∧ ((Eff.shadows g).apply s).now = s.now ∧
    ((Eff.shadows g).apply s).free = s.free ∧ ((Eff.shadows g).apply s).out = s.out ∧ ((Eff.shadows g).apply s).evq = s.evq ∧
    ((Eff.shadows g).apply s).chip = s.chip ∧ ((Eff.shadows g).apply s).boot = s.boot ∧ ((Eff.shadows g).apply s).nv = s.nv ∧
    ((Eff.shadows g).apply s).otp = s.otp ∧ ((Eff.shadows g).apply s).dbg = s.dbg ∧ ((Eff.shadows g).apply s).nextSeq = s.nextSeq ∧
    ((Eff.shadows g).apply s).grantEnd = s.grantEnd ∧ ((Eff.shadows g).apply s).cache = s.cache ∧ ((Eff.shadows g).apply s).extents = s.extents ∧
    ((Eff.shadows g).apply s).volumes = s.volumes ∧ ((Eff.shadows g).apply s).strands = s.strands ∧ ((Eff.shadows g).apply s).deferred = s.deferred ∧
    ((Eff.shadows g).apply s).discs = s.discs ∧ ((Eff.shadows g).apply s).requests = s.requests ∧ ((Eff.shadows g).apply s).flash = s.flash ∧
    ((Eff.shadows g).apply s).life = s.life ∧ ((Eff.shadows g).apply s).lost = s.lost ∧ ((Eff.shadows g).apply s).fns = s.fns ∧
    ((Eff.shadows g).apply s).class0 = s.class0 ∧ ((Eff.shadows g).apply s).insts = s.insts ∧ ((Eff.shadows g).apply s).nextId = s.nextId ∧
    ((Eff.shadows g).apply s).bays = s.bays ∧ ((Eff.shadows g).apply s).spokes = s.spokes ∧ ((Eff.shadows g).apply s).optics = s.optics ∧
    ((Eff.shadows g).apply s).servos = s.servos ∧ ((Eff.shadows g).apply s).traces = s.traces ∧ ((Eff.shadows g).apply s).motors = s.motors ∧
    ((Eff.shadows g).apply s).axes = s.axes ∧ ((Eff.shadows g).apply s).inputs = s.inputs ∧ ((Eff.shadows g).apply s).lanes = s.lanes ∧
    ((Eff.shadows g).apply s).detectors = s.detectors ∧ ((Eff.shadows g).apply s).frames = s.frames ∧ ((Eff.shadows g).apply s).writers = s.writers ∧
    ((Eff.shadows g).apply s).cal = s.cal ∧ ((Eff.shadows g).apply s).seqs = s.seqs ∧ ((Eff.shadows g).apply s).cch = s.cch ∧
    ((Eff.shadows g).apply s).dram = s.dram ∧ ((Eff.shadows g).apply s).shadows = g s.shadows ∧ ∀ f : Fld, ((Eff.shadows g).apply s).get f = s.get f := by
  and_intros <;> first | rfl | exact fun _ => rfl

@[simp] theorem apply_chip_frame (g : Chip → Chip) (s : State) :
    ((Eff.chip g).apply s).pending = s.pending ∧ ((Eff.chip g).apply s).fields = s.fields ∧ ((Eff.chip g).apply s).now = s.now ∧
    ((Eff.chip g).apply s).free = s.free ∧ ((Eff.chip g).apply s).out = s.out ∧ ((Eff.chip g).apply s).shadows = s.shadows ∧
    ((Eff.chip g).apply s).evq = s.evq ∧ ((Eff.chip g).apply s).boot = s.boot ∧ ((Eff.chip g).apply s).nv = s.nv ∧
    ((Eff.chip g).apply s).otp = s.otp ∧ ((Eff.chip g).apply s).dbg = s.dbg ∧ ((Eff.chip g).apply s).nextSeq = s.nextSeq ∧
    ((Eff.chip g).apply s).grantEnd = s.grantEnd ∧ ((Eff.chip g).apply s).cache = s.cache ∧ ((Eff.chip g).apply s).extents = s.extents ∧
    ((Eff.chip g).apply s).volumes = s.volumes ∧ ((Eff.chip g).apply s).strands = s.strands ∧ ((Eff.chip g).apply s).deferred = s.deferred ∧
    ((Eff.chip g).apply s).discs = s.discs ∧ ((Eff.chip g).apply s).requests = s.requests ∧ ((Eff.chip g).apply s).flash = s.flash ∧
    ((Eff.chip g).apply s).life = s.life ∧ ((Eff.chip g).apply s).lost = s.lost ∧ ((Eff.chip g).apply s).fns = s.fns ∧
    ((Eff.chip g).apply s).class0 = s.class0 ∧ ((Eff.chip g).apply s).insts = s.insts ∧ ((Eff.chip g).apply s).nextId = s.nextId ∧
    ((Eff.chip g).apply s).bays = s.bays ∧ ((Eff.chip g).apply s).spokes = s.spokes ∧ ((Eff.chip g).apply s).optics = s.optics ∧
    ((Eff.chip g).apply s).servos = s.servos ∧ ((Eff.chip g).apply s).traces = s.traces ∧ ((Eff.chip g).apply s).motors = s.motors ∧
    ((Eff.chip g).apply s).axes = s.axes ∧ ((Eff.chip g).apply s).inputs = s.inputs ∧ ((Eff.chip g).apply s).lanes = s.lanes ∧
    ((Eff.chip g).apply s).detectors = s.detectors ∧ ((Eff.chip g).apply s).frames = s.frames ∧ ((Eff.chip g).apply s).writers = s.writers ∧
    ((Eff.chip g).apply s).cal = s.cal ∧ ((Eff.chip g).apply s).seqs = s.seqs ∧ ((Eff.chip g).apply s).cch = s.cch ∧
    ((Eff.chip g).apply s).dram = s.dram ∧ ((Eff.chip g).apply s).chip = g s.chip ∧ ∀ f : Fld, ((Eff.chip g).apply s).get f = s.get f := by
  and_intros <;> first | rfl | exact fun _ => rfl

@[simp] theorem apply_boot_frame (g : Boot → Boot) (s : State) :
    ((Eff.boot g).apply s).pending = s.pending ∧ ((Eff.boot g).apply s).fields = s.fields ∧ ((Eff.boot g).apply s).now = s.now ∧
    ((Eff.boot g).apply s).free = s.free ∧ ((Eff.boot g).apply s).out = s.out ∧ ((Eff.boot g).apply s).shadows = s.shadows ∧
    ((Eff.boot g).apply s).evq = s.evq ∧ ((Eff.boot g).apply s).chip = s.chip ∧ ((Eff.boot g).apply s).nv = s.nv ∧
    ((Eff.boot g).apply s).otp = s.otp ∧ ((Eff.boot g).apply s).dbg = s.dbg ∧ ((Eff.boot g).apply s).nextSeq = s.nextSeq ∧
    ((Eff.boot g).apply s).grantEnd = s.grantEnd ∧ ((Eff.boot g).apply s).cache = s.cache ∧ ((Eff.boot g).apply s).extents = s.extents ∧
    ((Eff.boot g).apply s).volumes = s.volumes ∧ ((Eff.boot g).apply s).strands = s.strands ∧ ((Eff.boot g).apply s).deferred = s.deferred ∧
    ((Eff.boot g).apply s).discs = s.discs ∧ ((Eff.boot g).apply s).requests = s.requests ∧ ((Eff.boot g).apply s).flash = s.flash ∧
    ((Eff.boot g).apply s).life = s.life ∧ ((Eff.boot g).apply s).lost = s.lost ∧ ((Eff.boot g).apply s).fns = s.fns ∧
    ((Eff.boot g).apply s).class0 = s.class0 ∧ ((Eff.boot g).apply s).insts = s.insts ∧ ((Eff.boot g).apply s).nextId = s.nextId ∧
    ((Eff.boot g).apply s).bays = s.bays ∧ ((Eff.boot g).apply s).spokes = s.spokes ∧ ((Eff.boot g).apply s).optics = s.optics ∧
    ((Eff.boot g).apply s).servos = s.servos ∧ ((Eff.boot g).apply s).traces = s.traces ∧ ((Eff.boot g).apply s).motors = s.motors ∧
    ((Eff.boot g).apply s).axes = s.axes ∧ ((Eff.boot g).apply s).inputs = s.inputs ∧ ((Eff.boot g).apply s).lanes = s.lanes ∧
    ((Eff.boot g).apply s).detectors = s.detectors ∧ ((Eff.boot g).apply s).frames = s.frames ∧ ((Eff.boot g).apply s).writers = s.writers ∧
    ((Eff.boot g).apply s).cal = s.cal ∧ ((Eff.boot g).apply s).seqs = s.seqs ∧ ((Eff.boot g).apply s).cch = s.cch ∧
    ((Eff.boot g).apply s).dram = s.dram ∧ ((Eff.boot g).apply s).boot = g s.boot ∧ ∀ f : Fld, ((Eff.boot g).apply s).get f = s.get f := by
  and_intros <;> first | rfl | exact fun _ => rfl

@[simp] theorem apply_nv_frame (g : NonVol → NonVol) (s : State) :
    ((Eff.nv g).apply s).pending = s.pending ∧ ((Eff.nv g).apply s).fields = s.fields ∧ ((Eff.nv g).apply s).now = s.now ∧
    ((Eff.nv g).apply s).free = s.free ∧ ((Eff.nv g).apply s).out = s.out ∧ ((Eff.nv g).apply s).shadows = s.shadows ∧
    ((Eff.nv g).apply s).evq = s.evq ∧ ((Eff.nv g).apply s).chip = s.chip ∧ ((Eff.nv g).apply s).boot = s.boot ∧ ((Eff.nv g).apply s).otp = s.otp ∧
    ((Eff.nv g).apply s).dbg = s.dbg ∧ ((Eff.nv g).apply s).nextSeq = s.nextSeq ∧ ((Eff.nv g).apply s).grantEnd = s.grantEnd ∧
    ((Eff.nv g).apply s).cache = s.cache ∧ ((Eff.nv g).apply s).extents = s.extents ∧ ((Eff.nv g).apply s).volumes = s.volumes ∧
    ((Eff.nv g).apply s).strands = s.strands ∧ ((Eff.nv g).apply s).deferred = s.deferred ∧ ((Eff.nv g).apply s).discs = s.discs ∧
    ((Eff.nv g).apply s).requests = s.requests ∧ ((Eff.nv g).apply s).flash = s.flash ∧ ((Eff.nv g).apply s).life = s.life ∧
    ((Eff.nv g).apply s).lost = s.lost ∧ ((Eff.nv g).apply s).fns = s.fns ∧ ((Eff.nv g).apply s).class0 = s.class0 ∧
    ((Eff.nv g).apply s).insts = s.insts ∧ ((Eff.nv g).apply s).nextId = s.nextId ∧ ((Eff.nv g).apply s).bays = s.bays ∧
    ((Eff.nv g).apply s).spokes = s.spokes ∧ ((Eff.nv g).apply s).optics = s.optics ∧ ((Eff.nv g).apply s).servos = s.servos ∧
    ((Eff.nv g).apply s).traces = s.traces ∧ ((Eff.nv g).apply s).motors = s.motors ∧ ((Eff.nv g).apply s).axes = s.axes ∧
    ((Eff.nv g).apply s).inputs = s.inputs ∧ ((Eff.nv g).apply s).lanes = s.lanes ∧ ((Eff.nv g).apply s).detectors = s.detectors ∧
    ((Eff.nv g).apply s).frames = s.frames ∧ ((Eff.nv g).apply s).writers = s.writers ∧ ((Eff.nv g).apply s).cal = s.cal ∧
    ((Eff.nv g).apply s).seqs = s.seqs ∧ ((Eff.nv g).apply s).cch = s.cch ∧ ((Eff.nv g).apply s).dram = s.dram ∧ ((Eff.nv g).apply s).nv = g s.nv ∧
    ∀ f : Fld, ((Eff.nv g).apply s).get f = s.get f := by
  and_intros <;> first | rfl | exact fun _ => rfl

@[simp] theorem apply_dbg_frame (g : Debug → Debug) (s : State) :
    ((Eff.dbg g).apply s).pending = s.pending ∧ ((Eff.dbg g).apply s).fields = s.fields ∧ ((Eff.dbg g).apply s).now = s.now ∧
    ((Eff.dbg g).apply s).free = s.free ∧ ((Eff.dbg g).apply s).out = s.out ∧ ((Eff.dbg g).apply s).shadows = s.shadows ∧
    ((Eff.dbg g).apply s).evq = s.evq ∧ ((Eff.dbg g).apply s).chip = s.chip ∧ ((Eff.dbg g).apply s).boot = s.boot ∧ ((Eff.dbg g).apply s).nv = s.nv ∧
    ((Eff.dbg g).apply s).otp = s.otp ∧ ((Eff.dbg g).apply s).nextSeq = s.nextSeq ∧ ((Eff.dbg g).apply s).grantEnd = s.grantEnd ∧
    ((Eff.dbg g).apply s).cache = s.cache ∧ ((Eff.dbg g).apply s).extents = s.extents ∧ ((Eff.dbg g).apply s).volumes = s.volumes ∧
    ((Eff.dbg g).apply s).strands = s.strands ∧ ((Eff.dbg g).apply s).deferred = s.deferred ∧ ((Eff.dbg g).apply s).discs = s.discs ∧
    ((Eff.dbg g).apply s).requests = s.requests ∧ ((Eff.dbg g).apply s).flash = s.flash ∧ ((Eff.dbg g).apply s).life = s.life ∧
    ((Eff.dbg g).apply s).lost = s.lost ∧ ((Eff.dbg g).apply s).fns = s.fns ∧ ((Eff.dbg g).apply s).class0 = s.class0 ∧
    ((Eff.dbg g).apply s).insts = s.insts ∧ ((Eff.dbg g).apply s).nextId = s.nextId ∧ ((Eff.dbg g).apply s).bays = s.bays ∧
    ((Eff.dbg g).apply s).spokes = s.spokes ∧ ((Eff.dbg g).apply s).optics = s.optics ∧ ((Eff.dbg g).apply s).servos = s.servos ∧
    ((Eff.dbg g).apply s).traces = s.traces ∧ ((Eff.dbg g).apply s).motors = s.motors ∧ ((Eff.dbg g).apply s).axes = s.axes ∧
    ((Eff.dbg g).apply s).inputs = s.inputs ∧ ((Eff.dbg g).apply s).lanes = s.lanes ∧ ((Eff.dbg g).apply s).detectors = s.detectors ∧
    ((Eff.dbg g).apply s).frames = s.frames ∧ ((Eff.dbg g).apply s).writers = s.writers ∧ ((Eff.dbg g).apply s).cal = s.cal ∧
    ((Eff.dbg g).apply s).seqs = s.seqs ∧ ((Eff.dbg g).apply s).cch = s.cch ∧ ((Eff.dbg g).apply s).dram = s.dram ∧
    ((Eff.dbg g).apply s).dbg = g s.dbg ∧ ∀ f : Fld, ((Eff.dbg g).apply s).get f = s.get f := by
  and_intros <;> first | rfl | exact fun _ => rfl

@[simp] theorem apply_cache_frame (g : List CacheSector → List CacheSector) (s : State) :
    ((Eff.cache g).apply s).pending = s.pending ∧ ((Eff.cache g).apply s).fields = s.fields ∧ ((Eff.cache g).apply s).now = s.now ∧
    ((Eff.cache g).apply s).free = s.free ∧ ((Eff.cache g).apply s).out = s.out ∧ ((Eff.cache g).apply s).shadows = s.shadows ∧
    ((Eff.cache g).apply s).evq = s.evq ∧ ((Eff.cache g).apply s).chip = s.chip ∧ ((Eff.cache g).apply s).boot = s.boot ∧
    ((Eff.cache g).apply s).nv = s.nv ∧ ((Eff.cache g).apply s).otp = s.otp ∧ ((Eff.cache g).apply s).dbg = s.dbg ∧
    ((Eff.cache g).apply s).nextSeq = s.nextSeq ∧ ((Eff.cache g).apply s).grantEnd = s.grantEnd ∧ ((Eff.cache g).apply s).extents = s.extents ∧
    ((Eff.cache g).apply s).volumes = s.volumes ∧ ((Eff.cache g).apply s).strands = s.strands ∧ ((Eff.cache g).apply s).deferred = s.deferred ∧
    ((Eff.cache g).apply s).discs = s.discs ∧ ((Eff.cache g).apply s).requests = s.requests ∧ ((Eff.cache g).apply s).flash = s.flash ∧
    ((Eff.cache g).apply s).life = s.life ∧ ((Eff.cache g).apply s).lost = s.lost ∧ ((Eff.cache g).apply s).fns = s.fns ∧
    ((Eff.cache g).apply s).class0 = s.class0 ∧ ((Eff.cache g).apply s).insts = s.insts ∧ ((Eff.cache g).apply s).nextId = s.nextId ∧
    ((Eff.cache g).apply s).bays = s.bays ∧ ((Eff.cache g).apply s).spokes = s.spokes ∧ ((Eff.cache g).apply s).optics = s.optics ∧
    ((Eff.cache g).apply s).servos = s.servos ∧ ((Eff.cache g).apply s).traces = s.traces ∧ ((Eff.cache g).apply s).motors = s.motors ∧
    ((Eff.cache g).apply s).axes = s.axes ∧ ((Eff.cache g).apply s).inputs = s.inputs ∧ ((Eff.cache g).apply s).lanes = s.lanes ∧
    ((Eff.cache g).apply s).detectors = s.detectors ∧ ((Eff.cache g).apply s).frames = s.frames ∧ ((Eff.cache g).apply s).writers = s.writers ∧
    ((Eff.cache g).apply s).cal = s.cal ∧ ((Eff.cache g).apply s).seqs = s.seqs ∧ ((Eff.cache g).apply s).cch = s.cch ∧
    ((Eff.cache g).apply s).dram = s.dram ∧ ((Eff.cache g).apply s).cache = g s.cache ∧ ∀ f : Fld, ((Eff.cache g).apply s).get f = s.get f := by
  and_intros <;> first | rfl | exact fun _ => rfl

@[simp] theorem apply_extents_frame (g : List Extent → List Extent) (s : State) :
    ((Eff.extents g).apply s).pending = s.pending ∧ ((Eff.extents g).apply s).fields = s.fields ∧ ((Eff.extents g).apply s).now = s.now ∧
    ((Eff.extents g).apply s).free = s.free ∧ ((Eff.extents g).apply s).out = s.out ∧ ((Eff.extents g).apply s).shadows = s.shadows ∧
    ((Eff.extents g).apply s).evq = s.evq ∧ ((Eff.extents g).apply s).chip = s.chip ∧ ((Eff.extents g).apply s).boot = s.boot ∧
    ((Eff.extents g).apply s).nv = s.nv ∧ ((Eff.extents g).apply s).otp = s.otp ∧ ((Eff.extents g).apply s).dbg = s.dbg ∧
    ((Eff.extents g).apply s).nextSeq = s.nextSeq ∧ ((Eff.extents g).apply s).grantEnd = s.grantEnd ∧ ((Eff.extents g).apply s).cache = s.cache ∧
    ((Eff.extents g).apply s).volumes = s.volumes ∧ ((Eff.extents g).apply s).strands = s.strands ∧ ((Eff.extents g).apply s).deferred = s.deferred ∧
    ((Eff.extents g).apply s).discs = s.discs ∧ ((Eff.extents g).apply s).requests = s.requests ∧ ((Eff.extents g).apply s).flash = s.flash ∧
    ((Eff.extents g).apply s).life = s.life ∧ ((Eff.extents g).apply s).lost = s.lost ∧ ((Eff.extents g).apply s).fns = s.fns ∧
    ((Eff.extents g).apply s).class0 = s.class0 ∧ ((Eff.extents g).apply s).insts = s.insts ∧ ((Eff.extents g).apply s).nextId = s.nextId ∧
    ((Eff.extents g).apply s).bays = s.bays ∧ ((Eff.extents g).apply s).spokes = s.spokes ∧ ((Eff.extents g).apply s).optics = s.optics ∧
    ((Eff.extents g).apply s).servos = s.servos ∧ ((Eff.extents g).apply s).traces = s.traces ∧ ((Eff.extents g).apply s).motors = s.motors ∧
    ((Eff.extents g).apply s).axes = s.axes ∧ ((Eff.extents g).apply s).inputs = s.inputs ∧ ((Eff.extents g).apply s).lanes = s.lanes ∧
    ((Eff.extents g).apply s).detectors = s.detectors ∧ ((Eff.extents g).apply s).frames = s.frames ∧ ((Eff.extents g).apply s).writers = s.writers ∧
    ((Eff.extents g).apply s).cal = s.cal ∧ ((Eff.extents g).apply s).seqs = s.seqs ∧ ((Eff.extents g).apply s).cch = s.cch ∧
    ((Eff.extents g).apply s).dram = s.dram ∧ ((Eff.extents g).apply s).extents = g s.extents ∧ ∀ f : Fld, ((Eff.extents g).apply s).get f = s.get f := by
  and_intros <;> first | rfl | exact fun _ => rfl

@[simp] theorem apply_volumes_frame (g : List Volume → List Volume) (s : State) :
    ((Eff.volumes g).apply s).pending = s.pending ∧ ((Eff.volumes g).apply s).fields = s.fields ∧ ((Eff.volumes g).apply s).now = s.now ∧
    ((Eff.volumes g).apply s).free = s.free ∧ ((Eff.volumes g).apply s).out = s.out ∧ ((Eff.volumes g).apply s).shadows = s.shadows ∧
    ((Eff.volumes g).apply s).evq = s.evq ∧ ((Eff.volumes g).apply s).chip = s.chip ∧ ((Eff.volumes g).apply s).boot = s.boot ∧
    ((Eff.volumes g).apply s).nv = s.nv ∧ ((Eff.volumes g).apply s).otp = s.otp ∧ ((Eff.volumes g).apply s).dbg = s.dbg ∧
    ((Eff.volumes g).apply s).nextSeq = s.nextSeq ∧ ((Eff.volumes g).apply s).grantEnd = s.grantEnd ∧ ((Eff.volumes g).apply s).cache = s.cache ∧
    ((Eff.volumes g).apply s).extents = s.extents ∧ ((Eff.volumes g).apply s).strands = s.strands ∧ ((Eff.volumes g).apply s).deferred = s.deferred ∧
    ((Eff.volumes g).apply s).discs = s.discs ∧ ((Eff.volumes g).apply s).requests = s.requests ∧ ((Eff.volumes g).apply s).flash = s.flash ∧
    ((Eff.volumes g).apply s).life = s.life ∧ ((Eff.volumes g).apply s).lost = s.lost ∧ ((Eff.volumes g).apply s).fns = s.fns ∧
    ((Eff.volumes g).apply s).class0 = s.class0 ∧ ((Eff.volumes g).apply s).insts = s.insts ∧ ((Eff.volumes g).apply s).nextId = s.nextId ∧
    ((Eff.volumes g).apply s).bays = s.bays ∧ ((Eff.volumes g).apply s).spokes = s.spokes ∧ ((Eff.volumes g).apply s).optics = s.optics ∧
    ((Eff.volumes g).apply s).servos = s.servos ∧ ((Eff.volumes g).apply s).traces = s.traces ∧ ((Eff.volumes g).apply s).motors = s.motors ∧
    ((Eff.volumes g).apply s).axes = s.axes ∧ ((Eff.volumes g).apply s).inputs = s.inputs ∧ ((Eff.volumes g).apply s).lanes = s.lanes ∧
    ((Eff.volumes g).apply s).detectors = s.detectors ∧ ((Eff.volumes g).apply s).frames = s.frames ∧ ((Eff.volumes g).apply s).writers = s.writers ∧
    ((Eff.volumes g).apply s).cal = s.cal ∧ ((Eff.volumes g).apply s).seqs = s.seqs ∧ ((Eff.volumes g).apply s).cch = s.cch ∧
    ((Eff.volumes g).apply s).dram = s.dram ∧ ((Eff.volumes g).apply s).volumes = g s.volumes ∧ ∀ f : Fld, ((Eff.volumes g).apply s).get f = s.get f := by
  and_intros <;> first | rfl | exact fun _ => rfl

@[simp] theorem apply_strands_frame (g : List Strand → List Strand) (s : State) :
    ((Eff.strands g).apply s).pending = s.pending ∧ ((Eff.strands g).apply s).fields = s.fields ∧ ((Eff.strands g).apply s).now = s.now ∧
    ((Eff.strands g).apply s).free = s.free ∧ ((Eff.strands g).apply s).out = s.out ∧ ((Eff.strands g).apply s).shadows = s.shadows ∧
    ((Eff.strands g).apply s).evq = s.evq ∧ ((Eff.strands g).apply s).chip = s.chip ∧ ((Eff.strands g).apply s).boot = s.boot ∧
    ((Eff.strands g).apply s).nv = s.nv ∧ ((Eff.strands g).apply s).otp = s.otp ∧ ((Eff.strands g).apply s).dbg = s.dbg ∧
    ((Eff.strands g).apply s).nextSeq = s.nextSeq ∧ ((Eff.strands g).apply s).grantEnd = s.grantEnd ∧ ((Eff.strands g).apply s).cache = s.cache ∧
    ((Eff.strands g).apply s).extents = s.extents ∧ ((Eff.strands g).apply s).volumes = s.volumes ∧ ((Eff.strands g).apply s).deferred = s.deferred ∧
    ((Eff.strands g).apply s).discs = s.discs ∧ ((Eff.strands g).apply s).requests = s.requests ∧ ((Eff.strands g).apply s).flash = s.flash ∧
    ((Eff.strands g).apply s).life = s.life ∧ ((Eff.strands g).apply s).lost = s.lost ∧ ((Eff.strands g).apply s).fns = s.fns ∧
    ((Eff.strands g).apply s).class0 = s.class0 ∧ ((Eff.strands g).apply s).insts = s.insts ∧ ((Eff.strands g).apply s).nextId = s.nextId ∧
    ((Eff.strands g).apply s).bays = s.bays ∧ ((Eff.strands g).apply s).spokes = s.spokes ∧ ((Eff.strands g).apply s).optics = s.optics ∧
    ((Eff.strands g).apply s).servos = s.servos ∧ ((Eff.strands g).apply s).traces = s.traces ∧ ((Eff.strands g).apply s).motors = s.motors ∧
    ((Eff.strands g).apply s).axes = s.axes ∧ ((Eff.strands g).apply s).inputs = s.inputs ∧ ((Eff.strands g).apply s).lanes = s.lanes ∧
    ((Eff.strands g).apply s).detectors = s.detectors ∧ ((Eff.strands g).apply s).frames = s.frames ∧ ((Eff.strands g).apply s).writers = s.writers ∧
    ((Eff.strands g).apply s).cal = s.cal ∧ ((Eff.strands g).apply s).seqs = s.seqs ∧ ((Eff.strands g).apply s).cch = s.cch ∧
    ((Eff.strands g).apply s).dram = s.dram ∧ ((Eff.strands g).apply s).strands = g s.strands ∧ ∀ f : Fld, ((Eff.strands g).apply s).get f = s.get f := by
  and_intros <;> first | rfl | exact fun _ => rfl

@[simp] theorem apply_deferred_frame (g : List Deferred → List Deferred) (s : State) :
    ((Eff.deferred g).apply s).pending = s.pending ∧ ((Eff.deferred g).apply s).fields = s.fields ∧ ((Eff.deferred g).apply s).now = s.now ∧
    ((Eff.deferred g).apply s).free = s.free ∧ ((Eff.deferred g).apply s).out = s.out ∧ ((Eff.deferred g).apply s).shadows = s.shadows ∧
    ((Eff.deferred g).apply s).evq = s.evq ∧ ((Eff.deferred g).apply s).chip = s.chip ∧ ((Eff.deferred g).apply s).boot = s.boot ∧
    ((Eff.deferred g).apply s).nv = s.nv ∧ ((Eff.deferred g).apply s).otp = s.otp ∧ ((Eff.deferred g).apply s).dbg = s.dbg ∧
    ((Eff.deferred g).apply s).nextSeq = s.nextSeq ∧ ((Eff.deferred g).apply s).grantEnd = s.grantEnd ∧ ((Eff.deferred g).apply s).cache = s.cache ∧
    ((Eff.deferred g).apply s).extents = s.extents ∧ ((Eff.deferred g).apply s).volumes = s.volumes ∧ ((Eff.deferred g).apply s).strands = s.strands ∧
    ((Eff.deferred g).apply s).discs = s.discs ∧ ((Eff.deferred g).apply s).requests = s.requests ∧ ((Eff.deferred g).apply s).flash = s.flash ∧
    ((Eff.deferred g).apply s).life = s.life ∧ ((Eff.deferred g).apply s).lost = s.lost ∧ ((Eff.deferred g).apply s).fns = s.fns ∧
    ((Eff.deferred g).apply s).class0 = s.class0 ∧ ((Eff.deferred g).apply s).insts = s.insts ∧ ((Eff.deferred g).apply s).nextId = s.nextId ∧
    ((Eff.deferred g).apply s).bays = s.bays ∧ ((Eff.deferred g).apply s).spokes = s.spokes ∧ ((Eff.deferred g).apply s).optics = s.optics ∧
    ((Eff.deferred g).apply s).servos = s.servos ∧ ((Eff.deferred g).apply s).traces = s.traces ∧ ((Eff.deferred g).apply s).motors = s.motors ∧
    ((Eff.deferred g).apply s).axes = s.axes ∧ ((Eff.deferred g).apply s).inputs = s.inputs ∧ ((Eff.deferred g).apply s).lanes = s.lanes ∧
    ((Eff.deferred g).apply s).detectors = s.detectors ∧ ((Eff.deferred g).apply s).frames = s.frames ∧
    ((Eff.deferred g).apply s).writers = s.writers ∧ ((Eff.deferred g).apply s).cal = s.cal ∧ ((Eff.deferred g).apply s).seqs = s.seqs ∧
    ((Eff.deferred g).apply s).cch = s.cch ∧ ((Eff.deferred g).apply s).dram = s.dram ∧ ((Eff.deferred g).apply s).deferred = g s.deferred ∧
    ∀ f : Fld, ((Eff.deferred g).apply s).get f = s.get f := by
  and_intros <;> first | rfl | exact fun _ => rfl

@[simp] theorem apply_discs_frame (g : List Disc → List Disc) (s : State) :
    ((Eff.discs g).apply s).pending = s.pending ∧ ((Eff.discs g).apply s).fields = s.fields ∧ ((Eff.discs g).apply s).now = s.now ∧
    ((Eff.discs g).apply s).free = s.free ∧ ((Eff.discs g).apply s).out = s.out ∧ ((Eff.discs g).apply s).shadows = s.shadows ∧
    ((Eff.discs g).apply s).evq = s.evq ∧ ((Eff.discs g).apply s).chip = s.chip ∧ ((Eff.discs g).apply s).boot = s.boot ∧
    ((Eff.discs g).apply s).nv = s.nv ∧ ((Eff.discs g).apply s).otp = s.otp ∧ ((Eff.discs g).apply s).dbg = s.dbg ∧
    ((Eff.discs g).apply s).nextSeq = s.nextSeq ∧ ((Eff.discs g).apply s).grantEnd = s.grantEnd ∧ ((Eff.discs g).apply s).cache = s.cache ∧
    ((Eff.discs g).apply s).extents = s.extents ∧ ((Eff.discs g).apply s).volumes = s.volumes ∧ ((Eff.discs g).apply s).strands = s.strands ∧
    ((Eff.discs g).apply s).deferred = s.deferred ∧ ((Eff.discs g).apply s).requests = s.requests ∧ ((Eff.discs g).apply s).flash = s.flash ∧
    ((Eff.discs g).apply s).life = s.life ∧ ((Eff.discs g).apply s).lost = s.lost ∧ ((Eff.discs g).apply s).fns = s.fns ∧
    ((Eff.discs g).apply s).class0 = s.class0 ∧ ((Eff.discs g).apply s).insts = s.insts ∧ ((Eff.discs g).apply s).nextId = s.nextId ∧
    ((Eff.discs g).apply s).bays = s.bays ∧ ((Eff.discs g).apply s).spokes = s.spokes ∧ ((Eff.discs g).apply s).optics = s.optics ∧
    ((Eff.discs g).apply s).servos = s.servos ∧ ((Eff.discs g).apply s).traces = s.traces ∧ ((Eff.discs g).apply s).motors = s.motors ∧
    ((Eff.discs g).apply s).axes = s.axes ∧ ((Eff.discs g).apply s).inputs = s.inputs ∧ ((Eff.discs g).apply s).lanes = s.lanes ∧
    ((Eff.discs g).apply s).detectors = s.detectors ∧ ((Eff.discs g).apply s).frames = s.frames ∧ ((Eff.discs g).apply s).writers = s.writers ∧
    ((Eff.discs g).apply s).cal = s.cal ∧ ((Eff.discs g).apply s).seqs = s.seqs ∧ ((Eff.discs g).apply s).cch = s.cch ∧
    ((Eff.discs g).apply s).dram = s.dram ∧ ((Eff.discs g).apply s).discs = g s.discs ∧ ∀ f : Fld, ((Eff.discs g).apply s).get f = s.get f := by
  and_intros <;> first | rfl | exact fun _ => rfl

@[simp] theorem apply_requests_frame (g : List DiscRequest → List DiscRequest) (s : State) :
    ((Eff.requests g).apply s).pending = s.pending ∧ ((Eff.requests g).apply s).fields = s.fields ∧ ((Eff.requests g).apply s).now = s.now ∧
    ((Eff.requests g).apply s).free = s.free ∧ ((Eff.requests g).apply s).out = s.out ∧ ((Eff.requests g).apply s).shadows = s.shadows ∧
    ((Eff.requests g).apply s).evq = s.evq ∧ ((Eff.requests g).apply s).chip = s.chip ∧ ((Eff.requests g).apply s).boot = s.boot ∧
    ((Eff.requests g).apply s).nv = s.nv ∧ ((Eff.requests g).apply s).otp = s.otp ∧ ((Eff.requests g).apply s).dbg = s.dbg ∧
    ((Eff.requests g).apply s).nextSeq = s.nextSeq ∧ ((Eff.requests g).apply s).grantEnd = s.grantEnd ∧ ((Eff.requests g).apply s).cache = s.cache ∧
    ((Eff.requests g).apply s).extents = s.extents ∧ ((Eff.requests g).apply s).volumes = s.volumes ∧ ((Eff.requests g).apply s).strands = s.strands ∧
    ((Eff.requests g).apply s).deferred = s.deferred ∧ ((Eff.requests g).apply s).discs = s.discs ∧ ((Eff.requests g).apply s).flash = s.flash ∧
    ((Eff.requests g).apply s).life = s.life ∧ ((Eff.requests g).apply s).lost = s.lost ∧ ((Eff.requests g).apply s).fns = s.fns ∧
    ((Eff.requests g).apply s).class0 = s.class0 ∧ ((Eff.requests g).apply s).insts = s.insts ∧ ((Eff.requests g).apply s).nextId = s.nextId ∧
    ((Eff.requests g).apply s).bays = s.bays ∧ ((Eff.requests g).apply s).spokes = s.spokes ∧ ((Eff.requests g).apply s).optics = s.optics ∧
    ((Eff.requests g).apply s).servos = s.servos ∧ ((Eff.requests g).apply s).traces = s.traces ∧ ((Eff.requests g).apply s).motors = s.motors ∧
    ((Eff.requests g).apply s).axes = s.axes ∧ ((Eff.requests g).apply s).inputs = s.inputs ∧ ((Eff.requests g).apply s).lanes = s.lanes ∧
    ((Eff.requests g).apply s).detectors = s.detectors ∧ ((Eff.requests g).apply s).frames = s.frames ∧
    ((Eff.requests g).apply s).writers = s.writers ∧ ((Eff.requests g).apply s).cal = s.cal ∧ ((Eff.requests g).apply s).seqs = s.seqs ∧
    ((Eff.requests g).apply s).cch = s.cch ∧ ((Eff.requests g).apply s).dram = s.dram ∧ ((Eff.requests g).apply s).requests = g s.requests ∧
    ∀ f : Fld, ((Eff.requests g).apply s).get f = s.get f := by
  and_intros <;> first | rfl | exact fun _ => rfl

@[simp] theorem apply_flash_frame (g : Flash → Flash) (s : State) :
    ((Eff.flash g).apply s).pending = s.pending ∧ ((Eff.flash g).apply s).fields = s.fields ∧ ((Eff.flash g).apply s).now = s.now ∧
    ((Eff.flash g).apply s).free = s.free ∧ ((Eff.flash g).apply s).out = s.out ∧ ((Eff.flash g).apply s).shadows = s.shadows ∧
    ((Eff.flash g).apply s).evq = s.evq ∧ ((Eff.flash g).apply s).chip = s.chip ∧ ((Eff.flash g).apply s).boot = s.boot ∧
    ((Eff.flash g).apply s).nv = s.nv ∧ ((Eff.flash g).apply s).otp = s.otp ∧ ((Eff.flash g).apply s).dbg = s.dbg ∧
    ((Eff.flash g).apply s).nextSeq = s.nextSeq ∧ ((Eff.flash g).apply s).grantEnd = s.grantEnd ∧ ((Eff.flash g).apply s).cache = s.cache ∧
    ((Eff.flash g).apply s).extents = s.extents ∧ ((Eff.flash g).apply s).volumes = s.volumes ∧ ((Eff.flash g).apply s).strands = s.strands ∧
    ((Eff.flash g).apply s).deferred = s.deferred ∧ ((Eff.flash g).apply s).discs = s.discs ∧ ((Eff.flash g).apply s).requests = s.requests ∧
    ((Eff.flash g).apply s).life = s.life ∧ ((Eff.flash g).apply s).lost = s.lost ∧ ((Eff.flash g).apply s).fns = s.fns ∧
    ((Eff.flash g).apply s).class0 = s.class0 ∧ ((Eff.flash g).apply s).insts = s.insts ∧ ((Eff.flash g).apply s).nextId = s.nextId ∧
    ((Eff.flash g).apply s).bays = s.bays ∧ ((Eff.flash g).apply s).spokes = s.spokes ∧ ((Eff.flash g).apply s).optics = s.optics ∧
    ((Eff.flash g).apply s).servos = s.servos ∧ ((Eff.flash g).apply s).traces = s.traces ∧ ((Eff.flash g).apply s).motors = s.motors ∧
    ((Eff.flash g).apply s).axes = s.axes ∧ ((Eff.flash g).apply s).inputs = s.inputs ∧ ((Eff.flash g).apply s).lanes = s.lanes ∧
    ((Eff.flash g).apply s).detectors = s.detectors ∧ ((Eff.flash g).apply s).frames = s.frames ∧ ((Eff.flash g).apply s).writers = s.writers ∧
    ((Eff.flash g).apply s).cal = s.cal ∧ ((Eff.flash g).apply s).seqs = s.seqs ∧ ((Eff.flash g).apply s).cch = s.cch ∧
    ((Eff.flash g).apply s).dram = s.dram ∧ ((Eff.flash g).apply s).flash = g s.flash ∧ ∀ f : Fld, ((Eff.flash g).apply s).get f = s.get f := by
  and_intros <;> first | rfl | exact fun _ => rfl

@[simp] theorem apply_life_frame (g : Life → Life) (s : State) :
    ((Eff.life g).apply s).pending = s.pending ∧ ((Eff.life g).apply s).fields = s.fields ∧ ((Eff.life g).apply s).now = s.now ∧
    ((Eff.life g).apply s).free = s.free ∧ ((Eff.life g).apply s).out = s.out ∧ ((Eff.life g).apply s).shadows = s.shadows ∧
    ((Eff.life g).apply s).evq = s.evq ∧ ((Eff.life g).apply s).chip = s.chip ∧ ((Eff.life g).apply s).boot = s.boot ∧
    ((Eff.life g).apply s).nv = s.nv ∧ ((Eff.life g).apply s).otp = s.otp ∧ ((Eff.life g).apply s).dbg = s.dbg ∧
    ((Eff.life g).apply s).nextSeq = s.nextSeq ∧ ((Eff.life g).apply s).grantEnd = s.grantEnd ∧ ((Eff.life g).apply s).cache = s.cache ∧
    ((Eff.life g).apply s).extents = s.extents ∧ ((Eff.life g).apply s).volumes = s.volumes ∧ ((Eff.life g).apply s).strands = s.strands ∧
    ((Eff.life g).apply s).deferred = s.deferred ∧ ((Eff.life g).apply s).discs = s.discs ∧ ((Eff.life g).apply s).requests = s.requests ∧
    ((Eff.life g).apply s).flash = s.flash ∧ ((Eff.life g).apply s).lost = s.lost ∧ ((Eff.life g).apply s).fns = s.fns ∧
    ((Eff.life g).apply s).class0 = s.class0 ∧ ((Eff.life g).apply s).insts = s.insts ∧ ((Eff.life g).apply s).nextId = s.nextId ∧
    ((Eff.life g).apply s).bays = s.bays ∧ ((Eff.life g).apply s).spokes = s.spokes ∧ ((Eff.life g).apply s).optics = s.optics ∧
    ((Eff.life g).apply s).servos = s.servos ∧ ((Eff.life g).apply s).traces = s.traces ∧ ((Eff.life g).apply s).motors = s.motors ∧
    ((Eff.life g).apply s).axes = s.axes ∧ ((Eff.life g).apply s).inputs = s.inputs ∧ ((Eff.life g).apply s).lanes = s.lanes ∧
    ((Eff.life g).apply s).detectors = s.detectors ∧ ((Eff.life g).apply s).frames = s.frames ∧ ((Eff.life g).apply s).writers = s.writers ∧
    ((Eff.life g).apply s).cal = s.cal ∧ ((Eff.life g).apply s).seqs = s.seqs ∧ ((Eff.life g).apply s).cch = s.cch ∧
    ((Eff.life g).apply s).dram = s.dram ∧ ((Eff.life g).apply s).life = g s.life ∧ ∀ f : Fld, ((Eff.life g).apply s).get f = s.get f := by
  and_intros <;> first | rfl | exact fun _ => rfl

@[simp] theorem apply_lost_frame (g : LostReport → LostReport) (s : State) :
    ((Eff.lost g).apply s).pending = s.pending ∧ ((Eff.lost g).apply s).fields = s.fields ∧ ((Eff.lost g).apply s).now = s.now ∧
    ((Eff.lost g).apply s).free = s.free ∧ ((Eff.lost g).apply s).out = s.out ∧ ((Eff.lost g).apply s).shadows = s.shadows ∧
    ((Eff.lost g).apply s).evq = s.evq ∧ ((Eff.lost g).apply s).chip = s.chip ∧ ((Eff.lost g).apply s).boot = s.boot ∧
    ((Eff.lost g).apply s).nv = s.nv ∧ ((Eff.lost g).apply s).otp = s.otp ∧ ((Eff.lost g).apply s).dbg = s.dbg ∧
    ((Eff.lost g).apply s).nextSeq = s.nextSeq ∧ ((Eff.lost g).apply s).grantEnd = s.grantEnd ∧ ((Eff.lost g).apply s).cache = s.cache ∧
    ((Eff.lost g).apply s).extents = s.extents ∧ ((Eff.lost g).apply s).volumes = s.volumes ∧ ((Eff.lost g).apply s).strands = s.strands ∧
    ((Eff.lost g).apply s).deferred = s.deferred ∧ ((Eff.lost g).apply s).discs = s.discs ∧ ((Eff.lost g).apply s).requests = s.requests ∧
    ((Eff.lost g).apply s).flash = s.flash ∧ ((Eff.lost g).apply s).life = s.life ∧ ((Eff.lost g).apply s).fns = s.fns ∧
    ((Eff.lost g).apply s).class0 = s.class0 ∧ ((Eff.lost g).apply s).insts = s.insts ∧ ((Eff.lost g).apply s).nextId = s.nextId ∧
    ((Eff.lost g).apply s).bays = s.bays ∧ ((Eff.lost g).apply s).spokes = s.spokes ∧ ((Eff.lost g).apply s).optics = s.optics ∧
    ((Eff.lost g).apply s).servos = s.servos ∧ ((Eff.lost g).apply s).traces = s.traces ∧ ((Eff.lost g).apply s).motors = s.motors ∧
    ((Eff.lost g).apply s).axes = s.axes ∧ ((Eff.lost g).apply s).inputs = s.inputs ∧ ((Eff.lost g).apply s).lanes = s.lanes ∧
    ((Eff.lost g).apply s).detectors = s.detectors ∧ ((Eff.lost g).apply s).frames = s.frames ∧ ((Eff.lost g).apply s).writers = s.writers ∧
    ((Eff.lost g).apply s).cal = s.cal ∧ ((Eff.lost g).apply s).seqs = s.seqs ∧ ((Eff.lost g).apply s).cch = s.cch ∧
    ((Eff.lost g).apply s).dram = s.dram ∧ ((Eff.lost g).apply s).lost = g s.lost ∧ ∀ f : Fld, ((Eff.lost g).apply s).get f = s.get f := by
  and_intros <;> first | rfl | exact fun _ => rfl

@[simp] theorem apply_insts_frame (g : List Inst → List Inst) (s : State) :
    ((Eff.insts g).apply s).pending = s.pending ∧ ((Eff.insts g).apply s).fields = s.fields ∧ ((Eff.insts g).apply s).now = s.now ∧
    ((Eff.insts g).apply s).free = s.free ∧ ((Eff.insts g).apply s).out = s.out ∧ ((Eff.insts g).apply s).shadows = s.shadows ∧
    ((Eff.insts g).apply s).evq = s.evq ∧ ((Eff.insts g).apply s).chip = s.chip ∧ ((Eff.insts g).apply s).boot = s.boot ∧
    ((Eff.insts g).apply s).nv = s.nv ∧ ((Eff.insts g).apply s).otp = s.otp ∧ ((Eff.insts g).apply s).dbg = s.dbg ∧
    ((Eff.insts g).apply s).nextSeq = s.nextSeq ∧ ((Eff.insts g).apply s).grantEnd = s.grantEnd ∧ ((Eff.insts g).apply s).cache = s.cache ∧
    ((Eff.insts g).apply s).extents = s.extents ∧ ((Eff.insts g).apply s).volumes = s.volumes ∧ ((Eff.insts g).apply s).strands = s.strands ∧
    ((Eff.insts g).apply s).deferred = s.deferred ∧ ((Eff.insts g).apply s).discs = s.discs ∧ ((Eff.insts g).apply s).requests = s.requests ∧
    ((Eff.insts g).apply s).flash = s.flash ∧ ((Eff.insts g).apply s).life = s.life ∧ ((Eff.insts g).apply s).lost = s.lost ∧
    ((Eff.insts g).apply s).fns = s.fns ∧ ((Eff.insts g).apply s).class0 = s.class0 ∧ ((Eff.insts g).apply s).nextId = s.nextId ∧
    ((Eff.insts g).apply s).bays = s.bays ∧ ((Eff.insts g).apply s).spokes = s.spokes ∧ ((Eff.insts g).apply s).optics = s.optics ∧
    ((Eff.insts g).apply s).servos = s.servos ∧ ((Eff.insts g).apply s).traces = s.traces ∧ ((Eff.insts g).apply s).motors = s.motors ∧
    ((Eff.insts g).apply s).axes = s.axes ∧ ((Eff.insts g).apply s).inputs = s.inputs ∧ ((Eff.insts g).apply s).lanes = s.lanes ∧
    ((Eff.insts g).apply s).detectors = s.detectors ∧ ((Eff.insts g).apply s).frames = s.frames ∧ ((Eff.insts g).apply s).writers = s.writers ∧
    ((Eff.insts g).apply s).cal = s.cal ∧ ((Eff.insts g).apply s).seqs = s.seqs ∧ ((Eff.insts g).apply s).cch = s.cch ∧
    ((Eff.insts g).apply s).dram = s.dram ∧ ((Eff.insts g).apply s).insts = g s.insts ∧ ∀ f : Fld, ((Eff.insts g).apply s).get f = s.get f := by
  and_intros <;> first | rfl | exact fun _ => rfl

@[simp] theorem apply_frames_frame (g : List FrameWork → List FrameWork) (s : State) :
    ((Eff.frames g).apply s).pending = s.pending ∧ ((Eff.frames g).apply s).fields = s.fields ∧ ((Eff.frames g).apply s).now = s.now ∧
    ((Eff.frames g).apply s).free = s.free ∧ ((Eff.frames g).apply s).out = s.out ∧ ((Eff.frames g).apply s).shadows = s.shadows ∧
    ((Eff.frames g).apply s).evq = s.evq ∧ ((Eff.frames g).apply s).chip = s.chip ∧ ((Eff.frames g).apply s).boot = s.boot ∧
    ((Eff.frames g).apply s).nv = s.nv ∧ ((Eff.frames g).apply s).otp = s.otp ∧ ((Eff.frames g).apply s).dbg = s.dbg ∧
    ((Eff.frames g).apply s).nextSeq = s.nextSeq ∧ ((Eff.frames g).apply s).grantEnd = s.grantEnd ∧ ((Eff.frames g).apply s).cache = s.cache ∧
    ((Eff.frames g).apply s).extents = s.extents ∧ ((Eff.frames g).apply s).volumes = s.volumes ∧ ((Eff.frames g).apply s).strands = s.strands ∧
    ((Eff.frames g).apply s).deferred = s.deferred ∧ ((Eff.frames g).apply s).discs = s.discs ∧ ((Eff.frames g).apply s).requests = s.requests ∧
    ((Eff.frames g).apply s).flash = s.flash ∧ ((Eff.frames g).apply s).life = s.life ∧ ((Eff.frames g).apply s).lost = s.lost ∧
    ((Eff.frames g).apply s).fns = s.fns ∧ ((Eff.frames g).apply s).class0 = s.class0 ∧ ((Eff.frames g).apply s).insts = s.insts ∧
    ((Eff.frames g).apply s).nextId = s.nextId ∧ ((Eff.frames g).apply s).bays = s.bays ∧ ((Eff.frames g).apply s).spokes = s.spokes ∧
    ((Eff.frames g).apply s).optics = s.optics ∧ ((Eff.frames g).apply s).servos = s.servos ∧ ((Eff.frames g).apply s).traces = s.traces ∧
    ((Eff.frames g).apply s).motors = s.motors ∧ ((Eff.frames g).apply s).axes = s.axes ∧ ((Eff.frames g).apply s).inputs = s.inputs ∧
    ((Eff.frames g).apply s).lanes = s.lanes ∧ ((Eff.frames g).apply s).detectors = s.detectors ∧ ((Eff.frames g).apply s).writers = s.writers ∧
    ((Eff.frames g).apply s).cal = s.cal ∧ ((Eff.frames g).apply s).seqs = s.seqs ∧ ((Eff.frames g).apply s).cch = s.cch ∧
    ((Eff.frames g).apply s).dram = s.dram ∧ ((Eff.frames g).apply s).frames = g s.frames ∧ ∀ f : Fld, ((Eff.frames g).apply s).get f = s.get f := by
  and_intros <;> first | rfl | exact fun _ => rfl

@[simp] theorem apply_cal_frame (g : Cal → Cal) (s : State) :
    ((Eff.cal g).apply s).pending = s.pending ∧ ((Eff.cal g).apply s).fields = s.fields ∧ ((Eff.cal g).apply s).now = s.now ∧
    ((Eff.cal g).apply s).free = s.free ∧ ((Eff.cal g).apply s).out = s.out ∧ ((Eff.cal g).apply s).shadows = s.shadows ∧
    ((Eff.cal g).apply s).evq = s.evq ∧ ((Eff.cal g).apply s).chip = s.chip ∧ ((Eff.cal g).apply s).boot = s.boot ∧ ((Eff.cal g).apply s).nv = s.nv ∧
    ((Eff.cal g).apply s).otp = s.otp ∧ ((Eff.cal g).apply s).dbg = s.dbg ∧ ((Eff.cal g).apply s).nextSeq = s.nextSeq ∧
    ((Eff.cal g).apply s).grantEnd = s.grantEnd ∧ ((Eff.cal g).apply s).cache = s.cache ∧ ((Eff.cal g).apply s).extents = s.extents ∧
    ((Eff.cal g).apply s).volumes = s.volumes ∧ ((Eff.cal g).apply s).strands = s.strands ∧ ((Eff.cal g).apply s).deferred = s.deferred ∧
    ((Eff.cal g).apply s).discs = s.discs ∧ ((Eff.cal g).apply s).requests = s.requests ∧ ((Eff.cal g).apply s).flash = s.flash ∧
    ((Eff.cal g).apply s).life = s.life ∧ ((Eff.cal g).apply s).lost = s.lost ∧ ((Eff.cal g).apply s).fns = s.fns ∧
    ((Eff.cal g).apply s).class0 = s.class0 ∧ ((Eff.cal g).apply s).insts = s.insts ∧ ((Eff.cal g).apply s).nextId = s.nextId ∧
    ((Eff.cal g).apply s).bays = s.bays ∧ ((Eff.cal g).apply s).spokes = s.spokes ∧ ((Eff.cal g).apply s).optics = s.optics ∧
    ((Eff.cal g).apply s).servos = s.servos ∧ ((Eff.cal g).apply s).traces = s.traces ∧ ((Eff.cal g).apply s).motors = s.motors ∧
    ((Eff.cal g).apply s).axes = s.axes ∧ ((Eff.cal g).apply s).inputs = s.inputs ∧ ((Eff.cal g).apply s).lanes = s.lanes ∧
    ((Eff.cal g).apply s).detectors = s.detectors ∧ ((Eff.cal g).apply s).frames = s.frames ∧ ((Eff.cal g).apply s).writers = s.writers ∧
    ((Eff.cal g).apply s).seqs = s.seqs ∧ ((Eff.cal g).apply s).cch = s.cch ∧ ((Eff.cal g).apply s).dram = s.dram ∧
    ((Eff.cal g).apply s).cal = g s.cal ∧ ∀ f : Fld, ((Eff.cal g).apply s).get f = s.get f := by
  and_intros <;> first | rfl | exact fun _ => rfl

@[simp] theorem apply_seqs_frame (g : Seqs → Seqs) (s : State) :
    ((Eff.seqs g).apply s).pending = s.pending ∧ ((Eff.seqs g).apply s).fields = s.fields ∧ ((Eff.seqs g).apply s).now = s.now ∧
    ((Eff.seqs g).apply s).free = s.free ∧ ((Eff.seqs g).apply s).out = s.out ∧ ((Eff.seqs g).apply s).shadows = s.shadows ∧
    ((Eff.seqs g).apply s).evq = s.evq ∧ ((Eff.seqs g).apply s).chip = s.chip ∧ ((Eff.seqs g).apply s).boot = s.boot ∧
    ((Eff.seqs g).apply s).nv = s.nv ∧ ((Eff.seqs g).apply s).otp = s.otp ∧ ((Eff.seqs g).apply s).dbg = s.dbg ∧
    ((Eff.seqs g).apply s).nextSeq = s.nextSeq ∧ ((Eff.seqs g).apply s).grantEnd = s.grantEnd ∧ ((Eff.seqs g).apply s).cache = s.cache ∧
    ((Eff.seqs g).apply s).extents = s.extents ∧ ((Eff.seqs g).apply s).volumes = s.volumes ∧ ((Eff.seqs g).apply s).strands = s.strands ∧
    ((Eff.seqs g).apply s).deferred = s.deferred ∧ ((Eff.seqs g).apply s).discs = s.discs ∧ ((Eff.seqs g).apply s).requests = s.requests ∧
    ((Eff.seqs g).apply s).flash = s.flash ∧ ((Eff.seqs g).apply s).life = s.life ∧ ((Eff.seqs g).apply s).lost = s.lost ∧
    ((Eff.seqs g).apply s).fns = s.fns ∧ ((Eff.seqs g).apply s).class0 = s.class0 ∧ ((Eff.seqs g).apply s).insts = s.insts ∧
    ((Eff.seqs g).apply s).nextId = s.nextId ∧ ((Eff.seqs g).apply s).bays = s.bays ∧ ((Eff.seqs g).apply s).spokes = s.spokes ∧
    ((Eff.seqs g).apply s).optics = s.optics ∧ ((Eff.seqs g).apply s).servos = s.servos ∧ ((Eff.seqs g).apply s).traces = s.traces ∧
    ((Eff.seqs g).apply s).motors = s.motors ∧ ((Eff.seqs g).apply s).axes = s.axes ∧ ((Eff.seqs g).apply s).inputs = s.inputs ∧
    ((Eff.seqs g).apply s).lanes = s.lanes ∧ ((Eff.seqs g).apply s).detectors = s.detectors ∧ ((Eff.seqs g).apply s).frames = s.frames ∧
    ((Eff.seqs g).apply s).writers = s.writers ∧ ((Eff.seqs g).apply s).cal = s.cal ∧ ((Eff.seqs g).apply s).cch = s.cch ∧
    ((Eff.seqs g).apply s).dram = s.dram ∧ ((Eff.seqs g).apply s).seqs = g s.seqs ∧ ∀ f : Fld, ((Eff.seqs g).apply s).get f = s.get f := by
  and_intros <;> first | rfl | exact fun _ => rfl

@[simp] theorem apply_cch_frame (g : Cch → Cch) (s : State) :
    ((Eff.cch g).apply s).pending = s.pending ∧ ((Eff.cch g).apply s).fields = s.fields ∧ ((Eff.cch g).apply s).now = s.now ∧
    ((Eff.cch g).apply s).free = s.free ∧ ((Eff.cch g).apply s).out = s.out ∧ ((Eff.cch g).apply s).shadows = s.shadows ∧
    ((Eff.cch g).apply s).evq = s.evq ∧ ((Eff.cch g).apply s).chip = s.chip ∧ ((Eff.cch g).apply s).boot = s.boot ∧ ((Eff.cch g).apply s).nv = s.nv ∧
    ((Eff.cch g).apply s).otp = s.otp ∧ ((Eff.cch g).apply s).dbg = s.dbg ∧ ((Eff.cch g).apply s).nextSeq = s.nextSeq ∧
    ((Eff.cch g).apply s).grantEnd = s.grantEnd ∧ ((Eff.cch g).apply s).cache = s.cache ∧ ((Eff.cch g).apply s).extents = s.extents ∧
    ((Eff.cch g).apply s).volumes = s.volumes ∧ ((Eff.cch g).apply s).strands = s.strands ∧ ((Eff.cch g).apply s).deferred = s.deferred ∧
    ((Eff.cch g).apply s).discs = s.discs ∧ ((Eff.cch g).apply s).requests = s.requests ∧ ((Eff.cch g).apply s).flash = s.flash ∧
    ((Eff.cch g).apply s).life = s.life ∧ ((Eff.cch g).apply s).lost = s.lost ∧ ((Eff.cch g).apply s).fns = s.fns ∧
    ((Eff.cch g).apply s).class0 = s.class0 ∧ ((Eff.cch g).apply s).insts = s.insts ∧ ((Eff.cch g).apply s).nextId = s.nextId ∧
    ((Eff.cch g).apply s).bays = s.bays ∧ ((Eff.cch g).apply s).spokes = s.spokes ∧ ((Eff.cch g).apply s).optics = s.optics ∧
    ((Eff.cch g).apply s).servos = s.servos ∧ ((Eff.cch g).apply s).traces = s.traces ∧ ((Eff.cch g).apply s).motors = s.motors ∧
    ((Eff.cch g).apply s).axes = s.axes ∧ ((Eff.cch g).apply s).inputs = s.inputs ∧ ((Eff.cch g).apply s).lanes = s.lanes ∧
    ((Eff.cch g).apply s).detectors = s.detectors ∧ ((Eff.cch g).apply s).frames = s.frames ∧ ((Eff.cch g).apply s).writers = s.writers ∧
    ((Eff.cch g).apply s).cal = s.cal ∧ ((Eff.cch g).apply s).seqs = s.seqs ∧ ((Eff.cch g).apply s).dram = s.dram ∧
    ((Eff.cch g).apply s).cch = g s.cch ∧ ∀ f : Fld, ((Eff.cch g).apply s).get f = s.get f := by
  and_intros <;> first | rfl | exact fun _ => rfl

@[simp] theorem apply_fetched_frame (s : State) :
    ((Eff.fetched).apply s).pending = s.pending ∧ ((Eff.fetched).apply s).fields = s.fields ∧ ((Eff.fetched).apply s).now = s.now ∧
    ((Eff.fetched).apply s).free = s.free ∧ ((Eff.fetched).apply s).out = s.out ∧ ((Eff.fetched).apply s).shadows = s.shadows ∧
    ((Eff.fetched).apply s).evq = s.evq ∧ ((Eff.fetched).apply s).chip = s.chip ∧ ((Eff.fetched).apply s).boot = s.boot ∧
    ((Eff.fetched).apply s).nv = s.nv ∧ ((Eff.fetched).apply s).otp = s.otp ∧ ((Eff.fetched).apply s).dbg = s.dbg ∧
    ((Eff.fetched).apply s).nextSeq = s.nextSeq ∧ ((Eff.fetched).apply s).grantEnd = s.grantEnd ∧ ((Eff.fetched).apply s).cache = s.cache ∧
    ((Eff.fetched).apply s).extents = s.extents ∧ ((Eff.fetched).apply s).volumes = s.volumes ∧ ((Eff.fetched).apply s).strands = s.strands ∧
    ((Eff.fetched).apply s).deferred = s.deferred ∧ ((Eff.fetched).apply s).discs = s.discs ∧ ((Eff.fetched).apply s).requests = s.requests ∧
    ((Eff.fetched).apply s).flash = s.flash ∧ ((Eff.fetched).apply s).life = s.life ∧ ((Eff.fetched).apply s).lost = s.lost ∧
    ((Eff.fetched).apply s).fns = s.fns ∧ ((Eff.fetched).apply s).class0 = s.class0 ∧ ((Eff.fetched).apply s).insts = s.insts ∧
    ((Eff.fetched).apply s).bays = s.bays ∧ ((Eff.fetched).apply s).spokes = s.spokes ∧ ((Eff.fetched).apply s).optics = s.optics ∧
    ((Eff.fetched).apply s).servos = s.servos ∧ ((Eff.fetched).apply s).traces = s.traces ∧ ((Eff.fetched).apply s).motors = s.motors ∧
    ((Eff.fetched).apply s).axes = s.axes ∧ ((Eff.fetched).apply s).inputs = s.inputs ∧ ((Eff.fetched).apply s).lanes = s.lanes ∧
    ((Eff.fetched).apply s).detectors = s.detectors ∧ ((Eff.fetched).apply s).frames = s.frames ∧ ((Eff.fetched).apply s).writers = s.writers ∧
    ((Eff.fetched).apply s).cal = s.cal ∧ ((Eff.fetched).apply s).seqs = s.seqs ∧ ((Eff.fetched).apply s).cch = s.cch ∧
    ((Eff.fetched).apply s).dram = s.dram ∧ ((Eff.fetched).apply s).nextId = s.nextId + 1 ∧ ∀ f : Fld, ((Eff.fetched).apply s).get f = s.get f := by
  and_intros <;> first | rfl | exact fun _ => rfl

@[simp] theorem apply_fn_frame (i : Fin 4) (g : HostFn → HostFn) (s : State) :
    ((Eff.fn i g).apply s).pending = s.pending ∧ ((Eff.fn i g).apply s).fields = s.fields ∧ ((Eff.fn i g).apply s).now = s.now ∧
    ((Eff.fn i g).apply s).free = s.free ∧ ((Eff.fn i g).apply s).out = s.out ∧ ((Eff.fn i g).apply s).shadows = s.shadows ∧
    ((Eff.fn i g).apply s).evq = s.evq ∧ ((Eff.fn i g).apply s).chip = s.chip ∧ ((Eff.fn i g).apply s).boot = s.boot ∧
    ((Eff.fn i g).apply s).nv = s.nv ∧ ((Eff.fn i g).apply s).otp = s.otp ∧ ((Eff.fn i g).apply s).dbg = s.dbg ∧
    ((Eff.fn i g).apply s).nextSeq = s.nextSeq ∧ ((Eff.fn i g).apply s).grantEnd = s.grantEnd ∧ ((Eff.fn i g).apply s).cache = s.cache ∧
    ((Eff.fn i g).apply s).extents = s.extents ∧ ((Eff.fn i g).apply s).volumes = s.volumes ∧ ((Eff.fn i g).apply s).strands = s.strands ∧
    ((Eff.fn i g).apply s).deferred = s.deferred ∧ ((Eff.fn i g).apply s).discs = s.discs ∧ ((Eff.fn i g).apply s).requests = s.requests ∧
    ((Eff.fn i g).apply s).flash = s.flash ∧ ((Eff.fn i g).apply s).life = s.life ∧ ((Eff.fn i g).apply s).lost = s.lost ∧
    ((Eff.fn i g).apply s).class0 = s.class0 ∧ ((Eff.fn i g).apply s).insts = s.insts ∧ ((Eff.fn i g).apply s).nextId = s.nextId ∧
    ((Eff.fn i g).apply s).bays = s.bays ∧ ((Eff.fn i g).apply s).spokes = s.spokes ∧ ((Eff.fn i g).apply s).optics = s.optics ∧
    ((Eff.fn i g).apply s).servos = s.servos ∧ ((Eff.fn i g).apply s).traces = s.traces ∧ ((Eff.fn i g).apply s).motors = s.motors ∧
    ((Eff.fn i g).apply s).axes = s.axes ∧ ((Eff.fn i g).apply s).inputs = s.inputs ∧ ((Eff.fn i g).apply s).lanes = s.lanes ∧
    ((Eff.fn i g).apply s).detectors = s.detectors ∧ ((Eff.fn i g).apply s).frames = s.frames ∧ ((Eff.fn i g).apply s).writers = s.writers ∧
    ((Eff.fn i g).apply s).cal = s.cal ∧ ((Eff.fn i g).apply s).seqs = s.seqs ∧ ((Eff.fn i g).apply s).cch = s.cch ∧
    ((Eff.fn i g).apply s).dram = s.dram ∧ ((Eff.fn i g).apply s).fns = s.fns.set i (g s.fns[i]) ∧ ∀ f : Fld, ((Eff.fn i g).apply s).get f = s.get f := by
  and_intros <;> first | rfl | exact fun _ => rfl

@[simp] theorem apply_class0_frame (i : Fin 2) (g : Class0 → Class0) (s : State) :
    ((Eff.class0 i g).apply s).pending = s.pending ∧ ((Eff.class0 i g).apply s).fields = s.fields ∧ ((Eff.class0 i g).apply s).now = s.now ∧
    ((Eff.class0 i g).apply s).free = s.free ∧ ((Eff.class0 i g).apply s).out = s.out ∧ ((Eff.class0 i g).apply s).shadows = s.shadows ∧
    ((Eff.class0 i g).apply s).evq = s.evq ∧ ((Eff.class0 i g).apply s).chip = s.chip ∧ ((Eff.class0 i g).apply s).boot = s.boot ∧
    ((Eff.class0 i g).apply s).nv = s.nv ∧ ((Eff.class0 i g).apply s).otp = s.otp ∧ ((Eff.class0 i g).apply s).dbg = s.dbg ∧
    ((Eff.class0 i g).apply s).nextSeq = s.nextSeq ∧ ((Eff.class0 i g).apply s).grantEnd = s.grantEnd ∧ ((Eff.class0 i g).apply s).cache = s.cache ∧
    ((Eff.class0 i g).apply s).extents = s.extents ∧ ((Eff.class0 i g).apply s).volumes = s.volumes ∧ ((Eff.class0 i g).apply s).strands = s.strands ∧
    ((Eff.class0 i g).apply s).deferred = s.deferred ∧ ((Eff.class0 i g).apply s).discs = s.discs ∧ ((Eff.class0 i g).apply s).requests = s.requests ∧
    ((Eff.class0 i g).apply s).flash = s.flash ∧ ((Eff.class0 i g).apply s).life = s.life ∧ ((Eff.class0 i g).apply s).lost = s.lost ∧
    ((Eff.class0 i g).apply s).fns = s.fns ∧ ((Eff.class0 i g).apply s).insts = s.insts ∧ ((Eff.class0 i g).apply s).nextId = s.nextId ∧
    ((Eff.class0 i g).apply s).bays = s.bays ∧ ((Eff.class0 i g).apply s).spokes = s.spokes ∧ ((Eff.class0 i g).apply s).optics = s.optics ∧
    ((Eff.class0 i g).apply s).servos = s.servos ∧ ((Eff.class0 i g).apply s).traces = s.traces ∧ ((Eff.class0 i g).apply s).motors = s.motors ∧
    ((Eff.class0 i g).apply s).axes = s.axes ∧ ((Eff.class0 i g).apply s).inputs = s.inputs ∧ ((Eff.class0 i g).apply s).lanes = s.lanes ∧
    ((Eff.class0 i g).apply s).detectors = s.detectors ∧ ((Eff.class0 i g).apply s).frames = s.frames ∧
    ((Eff.class0 i g).apply s).writers = s.writers ∧ ((Eff.class0 i g).apply s).cal = s.cal ∧ ((Eff.class0 i g).apply s).seqs = s.seqs ∧
    ((Eff.class0 i g).apply s).cch = s.cch ∧ ((Eff.class0 i g).apply s).dram = s.dram ∧
    ((Eff.class0 i g).apply s).class0 = s.class0.set i (g s.class0[i]) ∧ ∀ f : Fld, ((Eff.class0 i g).apply s).get f = s.get f := by
  and_intros <;> first | rfl | exact fun _ => rfl

@[simp] theorem apply_bay_frame (i : Fin 4) (g : Bay → Bay) (s : State) :
    ((Eff.bay i g).apply s).pending = s.pending ∧ ((Eff.bay i g).apply s).fields = s.fields ∧ ((Eff.bay i g).apply s).now = s.now ∧
    ((Eff.bay i g).apply s).free = s.free ∧ ((Eff.bay i g).apply s).out = s.out ∧ ((Eff.bay i g).apply s).shadows = s.shadows ∧
    ((Eff.bay i g).apply s).evq = s.evq ∧ ((Eff.bay i g).apply s).chip = s.chip ∧ ((Eff.bay i g).apply s).boot = s.boot ∧
    ((Eff.bay i g).apply s).nv = s.nv ∧ ((Eff.bay i g).apply s).otp = s.otp ∧ ((Eff.bay i g).apply s).dbg = s.dbg ∧
    ((Eff.bay i g).apply s).nextSeq = s.nextSeq ∧ ((Eff.bay i g).apply s).grantEnd = s.grantEnd ∧ ((Eff.bay i g).apply s).cache = s.cache ∧
    ((Eff.bay i g).apply s).extents = s.extents ∧ ((Eff.bay i g).apply s).volumes = s.volumes ∧ ((Eff.bay i g).apply s).strands = s.strands ∧
    ((Eff.bay i g).apply s).deferred = s.deferred ∧ ((Eff.bay i g).apply s).discs = s.discs ∧ ((Eff.bay i g).apply s).requests = s.requests ∧
    ((Eff.bay i g).apply s).flash = s.flash ∧ ((Eff.bay i g).apply s).life = s.life ∧ ((Eff.bay i g).apply s).lost = s.lost ∧
    ((Eff.bay i g).apply s).fns = s.fns ∧ ((Eff.bay i g).apply s).class0 = s.class0 ∧ ((Eff.bay i g).apply s).insts = s.insts ∧
    ((Eff.bay i g).apply s).nextId = s.nextId ∧ ((Eff.bay i g).apply s).spokes = s.spokes ∧ ((Eff.bay i g).apply s).optics = s.optics ∧
    ((Eff.bay i g).apply s).servos = s.servos ∧ ((Eff.bay i g).apply s).traces = s.traces ∧ ((Eff.bay i g).apply s).motors = s.motors ∧
    ((Eff.bay i g).apply s).axes = s.axes ∧ ((Eff.bay i g).apply s).inputs = s.inputs ∧ ((Eff.bay i g).apply s).lanes = s.lanes ∧
    ((Eff.bay i g).apply s).detectors = s.detectors ∧ ((Eff.bay i g).apply s).frames = s.frames ∧ ((Eff.bay i g).apply s).writers = s.writers ∧
    ((Eff.bay i g).apply s).cal = s.cal ∧ ((Eff.bay i g).apply s).seqs = s.seqs ∧ ((Eff.bay i g).apply s).cch = s.cch ∧
    ((Eff.bay i g).apply s).dram = s.dram ∧ ((Eff.bay i g).apply s).bays = s.bays.set i (g s.bays[i]) ∧
    ∀ f : Fld, ((Eff.bay i g).apply s).get f = s.get f := by
  and_intros <;> first | rfl | exact fun _ => rfl

@[simp] theorem apply_spoke_frame (i : Fin 8) (g : Spoke → Spoke) (s : State) :
    ((Eff.spoke i g).apply s).pending = s.pending ∧ ((Eff.spoke i g).apply s).fields = s.fields ∧ ((Eff.spoke i g).apply s).now = s.now ∧
    ((Eff.spoke i g).apply s).free = s.free ∧ ((Eff.spoke i g).apply s).out = s.out ∧ ((Eff.spoke i g).apply s).shadows = s.shadows ∧
    ((Eff.spoke i g).apply s).evq = s.evq ∧ ((Eff.spoke i g).apply s).chip = s.chip ∧ ((Eff.spoke i g).apply s).boot = s.boot ∧
    ((Eff.spoke i g).apply s).nv = s.nv ∧ ((Eff.spoke i g).apply s).otp = s.otp ∧ ((Eff.spoke i g).apply s).dbg = s.dbg ∧
    ((Eff.spoke i g).apply s).nextSeq = s.nextSeq ∧ ((Eff.spoke i g).apply s).grantEnd = s.grantEnd ∧ ((Eff.spoke i g).apply s).cache = s.cache ∧
    ((Eff.spoke i g).apply s).extents = s.extents ∧ ((Eff.spoke i g).apply s).volumes = s.volumes ∧ ((Eff.spoke i g).apply s).strands = s.strands ∧
    ((Eff.spoke i g).apply s).deferred = s.deferred ∧ ((Eff.spoke i g).apply s).discs = s.discs ∧ ((Eff.spoke i g).apply s).requests = s.requests ∧
    ((Eff.spoke i g).apply s).flash = s.flash ∧ ((Eff.spoke i g).apply s).life = s.life ∧ ((Eff.spoke i g).apply s).lost = s.lost ∧
    ((Eff.spoke i g).apply s).fns = s.fns ∧ ((Eff.spoke i g).apply s).class0 = s.class0 ∧ ((Eff.spoke i g).apply s).insts = s.insts ∧
    ((Eff.spoke i g).apply s).nextId = s.nextId ∧ ((Eff.spoke i g).apply s).bays = s.bays ∧ ((Eff.spoke i g).apply s).optics = s.optics ∧
    ((Eff.spoke i g).apply s).servos = s.servos ∧ ((Eff.spoke i g).apply s).traces = s.traces ∧ ((Eff.spoke i g).apply s).motors = s.motors ∧
    ((Eff.spoke i g).apply s).axes = s.axes ∧ ((Eff.spoke i g).apply s).inputs = s.inputs ∧ ((Eff.spoke i g).apply s).lanes = s.lanes ∧
    ((Eff.spoke i g).apply s).detectors = s.detectors ∧ ((Eff.spoke i g).apply s).frames = s.frames ∧ ((Eff.spoke i g).apply s).writers = s.writers ∧
    ((Eff.spoke i g).apply s).cal = s.cal ∧ ((Eff.spoke i g).apply s).seqs = s.seqs ∧ ((Eff.spoke i g).apply s).cch = s.cch ∧
    ((Eff.spoke i g).apply s).dram = s.dram ∧ ((Eff.spoke i g).apply s).spokes = s.spokes.set i (g s.spokes[i]) ∧
    ∀ f : Fld, ((Eff.spoke i g).apply s).get f = s.get f := by
  and_intros <;> first | rfl | exact fun _ => rfl

@[simp] theorem apply_optic_frame (i : Fin 8) (g : Optic → Optic) (s : State) :
    ((Eff.optic i g).apply s).pending = s.pending ∧ ((Eff.optic i g).apply s).fields = s.fields ∧ ((Eff.optic i g).apply s).now = s.now ∧
    ((Eff.optic i g).apply s).free = s.free ∧ ((Eff.optic i g).apply s).out = s.out ∧ ((Eff.optic i g).apply s).shadows = s.shadows ∧
    ((Eff.optic i g).apply s).evq = s.evq ∧ ((Eff.optic i g).apply s).chip = s.chip ∧ ((Eff.optic i g).apply s).boot = s.boot ∧
    ((Eff.optic i g).apply s).nv = s.nv ∧ ((Eff.optic i g).apply s).otp = s.otp ∧ ((Eff.optic i g).apply s).dbg = s.dbg ∧
    ((Eff.optic i g).apply s).nextSeq = s.nextSeq ∧ ((Eff.optic i g).apply s).grantEnd = s.grantEnd ∧ ((Eff.optic i g).apply s).cache = s.cache ∧
    ((Eff.optic i g).apply s).extents = s.extents ∧ ((Eff.optic i g).apply s).volumes = s.volumes ∧ ((Eff.optic i g).apply s).strands = s.strands ∧
    ((Eff.optic i g).apply s).deferred = s.deferred ∧ ((Eff.optic i g).apply s).discs = s.discs ∧ ((Eff.optic i g).apply s).requests = s.requests ∧
    ((Eff.optic i g).apply s).flash = s.flash ∧ ((Eff.optic i g).apply s).life = s.life ∧ ((Eff.optic i g).apply s).lost = s.lost ∧
    ((Eff.optic i g).apply s).fns = s.fns ∧ ((Eff.optic i g).apply s).class0 = s.class0 ∧ ((Eff.optic i g).apply s).insts = s.insts ∧
    ((Eff.optic i g).apply s).nextId = s.nextId ∧ ((Eff.optic i g).apply s).bays = s.bays ∧ ((Eff.optic i g).apply s).spokes = s.spokes ∧
    ((Eff.optic i g).apply s).servos = s.servos ∧ ((Eff.optic i g).apply s).traces = s.traces ∧ ((Eff.optic i g).apply s).motors = s.motors ∧
    ((Eff.optic i g).apply s).axes = s.axes ∧ ((Eff.optic i g).apply s).inputs = s.inputs ∧ ((Eff.optic i g).apply s).lanes = s.lanes ∧
    ((Eff.optic i g).apply s).detectors = s.detectors ∧ ((Eff.optic i g).apply s).frames = s.frames ∧ ((Eff.optic i g).apply s).writers = s.writers ∧
    ((Eff.optic i g).apply s).cal = s.cal ∧ ((Eff.optic i g).apply s).seqs = s.seqs ∧ ((Eff.optic i g).apply s).cch = s.cch ∧
    ((Eff.optic i g).apply s).dram = s.dram ∧ ((Eff.optic i g).apply s).optics = s.optics.set i (g s.optics[i]) ∧
    ∀ f : Fld, ((Eff.optic i g).apply s).get f = s.get f := by
  and_intros <;> first | rfl | exact fun _ => rfl

@[simp] theorem apply_servo_frame (i : Fin 2) (g : Servo → Servo) (s : State) :
    ((Eff.servo i g).apply s).pending = s.pending ∧ ((Eff.servo i g).apply s).fields = s.fields ∧ ((Eff.servo i g).apply s).now = s.now ∧
    ((Eff.servo i g).apply s).free = s.free ∧ ((Eff.servo i g).apply s).out = s.out ∧ ((Eff.servo i g).apply s).shadows = s.shadows ∧
    ((Eff.servo i g).apply s).evq = s.evq ∧ ((Eff.servo i g).apply s).chip = s.chip ∧ ((Eff.servo i g).apply s).boot = s.boot ∧
    ((Eff.servo i g).apply s).nv = s.nv ∧ ((Eff.servo i g).apply s).otp = s.otp ∧ ((Eff.servo i g).apply s).dbg = s.dbg ∧
    ((Eff.servo i g).apply s).nextSeq = s.nextSeq ∧ ((Eff.servo i g).apply s).grantEnd = s.grantEnd ∧ ((Eff.servo i g).apply s).cache = s.cache ∧
    ((Eff.servo i g).apply s).extents = s.extents ∧ ((Eff.servo i g).apply s).volumes = s.volumes ∧ ((Eff.servo i g).apply s).strands = s.strands ∧
    ((Eff.servo i g).apply s).deferred = s.deferred ∧ ((Eff.servo i g).apply s).discs = s.discs ∧ ((Eff.servo i g).apply s).requests = s.requests ∧
    ((Eff.servo i g).apply s).flash = s.flash ∧ ((Eff.servo i g).apply s).life = s.life ∧ ((Eff.servo i g).apply s).lost = s.lost ∧
    ((Eff.servo i g).apply s).fns = s.fns ∧ ((Eff.servo i g).apply s).class0 = s.class0 ∧ ((Eff.servo i g).apply s).insts = s.insts ∧
    ((Eff.servo i g).apply s).nextId = s.nextId ∧ ((Eff.servo i g).apply s).bays = s.bays ∧ ((Eff.servo i g).apply s).spokes = s.spokes ∧
    ((Eff.servo i g).apply s).optics = s.optics ∧ ((Eff.servo i g).apply s).traces = s.traces ∧ ((Eff.servo i g).apply s).motors = s.motors ∧
    ((Eff.servo i g).apply s).axes = s.axes ∧ ((Eff.servo i g).apply s).inputs = s.inputs ∧ ((Eff.servo i g).apply s).lanes = s.lanes ∧
    ((Eff.servo i g).apply s).detectors = s.detectors ∧ ((Eff.servo i g).apply s).frames = s.frames ∧ ((Eff.servo i g).apply s).writers = s.writers ∧
    ((Eff.servo i g).apply s).cal = s.cal ∧ ((Eff.servo i g).apply s).seqs = s.seqs ∧ ((Eff.servo i g).apply s).cch = s.cch ∧
    ((Eff.servo i g).apply s).dram = s.dram ∧ ((Eff.servo i g).apply s).servos = s.servos.set i (g s.servos[i]) ∧
    ∀ f : Fld, ((Eff.servo i g).apply s).get f = s.get f := by
  and_intros <;> first | rfl | exact fun _ => rfl

@[simp] theorem apply_trace_frame (i : Fin 16) (g : Trace → Trace) (s : State) :
    ((Eff.trace i g).apply s).pending = s.pending ∧ ((Eff.trace i g).apply s).fields = s.fields ∧ ((Eff.trace i g).apply s).now = s.now ∧
    ((Eff.trace i g).apply s).free = s.free ∧ ((Eff.trace i g).apply s).out = s.out ∧ ((Eff.trace i g).apply s).shadows = s.shadows ∧
    ((Eff.trace i g).apply s).evq = s.evq ∧ ((Eff.trace i g).apply s).chip = s.chip ∧ ((Eff.trace i g).apply s).boot = s.boot ∧
    ((Eff.trace i g).apply s).nv = s.nv ∧ ((Eff.trace i g).apply s).otp = s.otp ∧ ((Eff.trace i g).apply s).dbg = s.dbg ∧
    ((Eff.trace i g).apply s).nextSeq = s.nextSeq ∧ ((Eff.trace i g).apply s).grantEnd = s.grantEnd ∧ ((Eff.trace i g).apply s).cache = s.cache ∧
    ((Eff.trace i g).apply s).extents = s.extents ∧ ((Eff.trace i g).apply s).volumes = s.volumes ∧ ((Eff.trace i g).apply s).strands = s.strands ∧
    ((Eff.trace i g).apply s).deferred = s.deferred ∧ ((Eff.trace i g).apply s).discs = s.discs ∧ ((Eff.trace i g).apply s).requests = s.requests ∧
    ((Eff.trace i g).apply s).flash = s.flash ∧ ((Eff.trace i g).apply s).life = s.life ∧ ((Eff.trace i g).apply s).lost = s.lost ∧
    ((Eff.trace i g).apply s).fns = s.fns ∧ ((Eff.trace i g).apply s).class0 = s.class0 ∧ ((Eff.trace i g).apply s).insts = s.insts ∧
    ((Eff.trace i g).apply s).nextId = s.nextId ∧ ((Eff.trace i g).apply s).bays = s.bays ∧ ((Eff.trace i g).apply s).spokes = s.spokes ∧
    ((Eff.trace i g).apply s).optics = s.optics ∧ ((Eff.trace i g).apply s).servos = s.servos ∧ ((Eff.trace i g).apply s).motors = s.motors ∧
    ((Eff.trace i g).apply s).axes = s.axes ∧ ((Eff.trace i g).apply s).inputs = s.inputs ∧ ((Eff.trace i g).apply s).lanes = s.lanes ∧
    ((Eff.trace i g).apply s).detectors = s.detectors ∧ ((Eff.trace i g).apply s).frames = s.frames ∧ ((Eff.trace i g).apply s).writers = s.writers ∧
    ((Eff.trace i g).apply s).cal = s.cal ∧ ((Eff.trace i g).apply s).seqs = s.seqs ∧ ((Eff.trace i g).apply s).cch = s.cch ∧
    ((Eff.trace i g).apply s).dram = s.dram ∧ ((Eff.trace i g).apply s).traces = s.traces.set i (g s.traces[i]) ∧
    ∀ f : Fld, ((Eff.trace i g).apply s).get f = s.get f := by
  and_intros <;> first | rfl | exact fun _ => rfl

@[simp] theorem apply_motor_frame (i : Fin 8) (g : Motor → Motor) (s : State) :
    ((Eff.motor i g).apply s).pending = s.pending ∧ ((Eff.motor i g).apply s).fields = s.fields ∧ ((Eff.motor i g).apply s).now = s.now ∧
    ((Eff.motor i g).apply s).free = s.free ∧ ((Eff.motor i g).apply s).out = s.out ∧ ((Eff.motor i g).apply s).shadows = s.shadows ∧
    ((Eff.motor i g).apply s).evq = s.evq ∧ ((Eff.motor i g).apply s).chip = s.chip ∧ ((Eff.motor i g).apply s).boot = s.boot ∧
    ((Eff.motor i g).apply s).nv = s.nv ∧ ((Eff.motor i g).apply s).otp = s.otp ∧ ((Eff.motor i g).apply s).dbg = s.dbg ∧
    ((Eff.motor i g).apply s).nextSeq = s.nextSeq ∧ ((Eff.motor i g).apply s).grantEnd = s.grantEnd ∧ ((Eff.motor i g).apply s).cache = s.cache ∧
    ((Eff.motor i g).apply s).extents = s.extents ∧ ((Eff.motor i g).apply s).volumes = s.volumes ∧ ((Eff.motor i g).apply s).strands = s.strands ∧
    ((Eff.motor i g).apply s).deferred = s.deferred ∧ ((Eff.motor i g).apply s).discs = s.discs ∧ ((Eff.motor i g).apply s).requests = s.requests ∧
    ((Eff.motor i g).apply s).flash = s.flash ∧ ((Eff.motor i g).apply s).life = s.life ∧ ((Eff.motor i g).apply s).lost = s.lost ∧
    ((Eff.motor i g).apply s).fns = s.fns ∧ ((Eff.motor i g).apply s).class0 = s.class0 ∧ ((Eff.motor i g).apply s).insts = s.insts ∧
    ((Eff.motor i g).apply s).nextId = s.nextId ∧ ((Eff.motor i g).apply s).bays = s.bays ∧ ((Eff.motor i g).apply s).spokes = s.spokes ∧
    ((Eff.motor i g).apply s).optics = s.optics ∧ ((Eff.motor i g).apply s).servos = s.servos ∧ ((Eff.motor i g).apply s).traces = s.traces ∧
    ((Eff.motor i g).apply s).axes = s.axes ∧ ((Eff.motor i g).apply s).inputs = s.inputs ∧ ((Eff.motor i g).apply s).lanes = s.lanes ∧
    ((Eff.motor i g).apply s).detectors = s.detectors ∧ ((Eff.motor i g).apply s).frames = s.frames ∧ ((Eff.motor i g).apply s).writers = s.writers ∧
    ((Eff.motor i g).apply s).cal = s.cal ∧ ((Eff.motor i g).apply s).seqs = s.seqs ∧ ((Eff.motor i g).apply s).cch = s.cch ∧
    ((Eff.motor i g).apply s).dram = s.dram ∧ ((Eff.motor i g).apply s).motors = s.motors.set i (g s.motors[i]) ∧
    ∀ f : Fld, ((Eff.motor i g).apply s).get f = s.get f := by
  and_intros <;> first | rfl | exact fun _ => rfl

@[simp] theorem apply_axis_frame (i : Fin 16) (g : Axis → Axis) (s : State) :
    ((Eff.axis i g).apply s).pending = s.pending ∧ ((Eff.axis i g).apply s).fields = s.fields ∧ ((Eff.axis i g).apply s).now = s.now ∧
    ((Eff.axis i g).apply s).free = s.free ∧ ((Eff.axis i g).apply s).out = s.out ∧ ((Eff.axis i g).apply s).shadows = s.shadows ∧
    ((Eff.axis i g).apply s).evq = s.evq ∧ ((Eff.axis i g).apply s).chip = s.chip ∧ ((Eff.axis i g).apply s).boot = s.boot ∧
    ((Eff.axis i g).apply s).nv = s.nv ∧ ((Eff.axis i g).apply s).otp = s.otp ∧ ((Eff.axis i g).apply s).dbg = s.dbg ∧
    ((Eff.axis i g).apply s).nextSeq = s.nextSeq ∧ ((Eff.axis i g).apply s).grantEnd = s.grantEnd ∧ ((Eff.axis i g).apply s).cache = s.cache ∧
    ((Eff.axis i g).apply s).extents = s.extents ∧ ((Eff.axis i g).apply s).volumes = s.volumes ∧ ((Eff.axis i g).apply s).strands = s.strands ∧
    ((Eff.axis i g).apply s).deferred = s.deferred ∧ ((Eff.axis i g).apply s).discs = s.discs ∧ ((Eff.axis i g).apply s).requests = s.requests ∧
    ((Eff.axis i g).apply s).flash = s.flash ∧ ((Eff.axis i g).apply s).life = s.life ∧ ((Eff.axis i g).apply s).lost = s.lost ∧
    ((Eff.axis i g).apply s).fns = s.fns ∧ ((Eff.axis i g).apply s).class0 = s.class0 ∧ ((Eff.axis i g).apply s).insts = s.insts ∧
    ((Eff.axis i g).apply s).nextId = s.nextId ∧ ((Eff.axis i g).apply s).bays = s.bays ∧ ((Eff.axis i g).apply s).spokes = s.spokes ∧
    ((Eff.axis i g).apply s).optics = s.optics ∧ ((Eff.axis i g).apply s).servos = s.servos ∧ ((Eff.axis i g).apply s).traces = s.traces ∧
    ((Eff.axis i g).apply s).motors = s.motors ∧ ((Eff.axis i g).apply s).inputs = s.inputs ∧ ((Eff.axis i g).apply s).lanes = s.lanes ∧
    ((Eff.axis i g).apply s).detectors = s.detectors ∧ ((Eff.axis i g).apply s).frames = s.frames ∧ ((Eff.axis i g).apply s).writers = s.writers ∧
    ((Eff.axis i g).apply s).cal = s.cal ∧ ((Eff.axis i g).apply s).seqs = s.seqs ∧ ((Eff.axis i g).apply s).cch = s.cch ∧
    ((Eff.axis i g).apply s).dram = s.dram ∧ ((Eff.axis i g).apply s).axes = s.axes.set i (g s.axes[i]) ∧
    ∀ f : Fld, ((Eff.axis i g).apply s).get f = s.get f := by
  and_intros <;> first | rfl | exact fun _ => rfl

@[simp] theorem apply_input_frame (i : Fin 32) (g : Input → Input) (s : State) :
    ((Eff.input i g).apply s).pending = s.pending ∧ ((Eff.input i g).apply s).fields = s.fields ∧ ((Eff.input i g).apply s).now = s.now ∧
    ((Eff.input i g).apply s).free = s.free ∧ ((Eff.input i g).apply s).out = s.out ∧ ((Eff.input i g).apply s).shadows = s.shadows ∧
    ((Eff.input i g).apply s).evq = s.evq ∧ ((Eff.input i g).apply s).chip = s.chip ∧ ((Eff.input i g).apply s).boot = s.boot ∧
    ((Eff.input i g).apply s).nv = s.nv ∧ ((Eff.input i g).apply s).otp = s.otp ∧ ((Eff.input i g).apply s).dbg = s.dbg ∧
    ((Eff.input i g).apply s).nextSeq = s.nextSeq ∧ ((Eff.input i g).apply s).grantEnd = s.grantEnd ∧ ((Eff.input i g).apply s).cache = s.cache ∧
    ((Eff.input i g).apply s).extents = s.extents ∧ ((Eff.input i g).apply s).volumes = s.volumes ∧ ((Eff.input i g).apply s).strands = s.strands ∧
    ((Eff.input i g).apply s).deferred = s.deferred ∧ ((Eff.input i g).apply s).discs = s.discs ∧ ((Eff.input i g).apply s).requests = s.requests ∧
    ((Eff.input i g).apply s).flash = s.flash ∧ ((Eff.input i g).apply s).life = s.life ∧ ((Eff.input i g).apply s).lost = s.lost ∧
    ((Eff.input i g).apply s).fns = s.fns ∧ ((Eff.input i g).apply s).class0 = s.class0 ∧ ((Eff.input i g).apply s).insts = s.insts ∧
    ((Eff.input i g).apply s).nextId = s.nextId ∧ ((Eff.input i g).apply s).bays = s.bays ∧ ((Eff.input i g).apply s).spokes = s.spokes ∧
    ((Eff.input i g).apply s).optics = s.optics ∧ ((Eff.input i g).apply s).servos = s.servos ∧ ((Eff.input i g).apply s).traces = s.traces ∧
    ((Eff.input i g).apply s).motors = s.motors ∧ ((Eff.input i g).apply s).axes = s.axes ∧ ((Eff.input i g).apply s).lanes = s.lanes ∧
    ((Eff.input i g).apply s).detectors = s.detectors ∧ ((Eff.input i g).apply s).frames = s.frames ∧ ((Eff.input i g).apply s).writers = s.writers ∧
    ((Eff.input i g).apply s).cal = s.cal ∧ ((Eff.input i g).apply s).seqs = s.seqs ∧ ((Eff.input i g).apply s).cch = s.cch ∧
    ((Eff.input i g).apply s).dram = s.dram ∧ ((Eff.input i g).apply s).inputs = s.inputs.set i (g s.inputs[i]) ∧
    ∀ f : Fld, ((Eff.input i g).apply s).get f = s.get f := by
  and_intros <;> first | rfl | exact fun _ => rfl

@[simp] theorem apply_lane_frame (i : Fin 36) (g : Lane → Lane) (s : State) :
    ((Eff.lane i g).apply s).pending = s.pending ∧ ((Eff.lane i g).apply s).fields = s.fields ∧ ((Eff.lane i g).apply s).now = s.now ∧
    ((Eff.lane i g).apply s).free = s.free ∧ ((Eff.lane i g).apply s).out = s.out ∧ ((Eff.lane i g).apply s).shadows = s.shadows ∧
    ((Eff.lane i g).apply s).evq = s.evq ∧ ((Eff.lane i g).apply s).chip = s.chip ∧ ((Eff.lane i g).apply s).boot = s.boot ∧
    ((Eff.lane i g).apply s).nv = s.nv ∧ ((Eff.lane i g).apply s).otp = s.otp ∧ ((Eff.lane i g).apply s).dbg = s.dbg ∧
    ((Eff.lane i g).apply s).nextSeq = s.nextSeq ∧ ((Eff.lane i g).apply s).grantEnd = s.grantEnd ∧ ((Eff.lane i g).apply s).cache = s.cache ∧
    ((Eff.lane i g).apply s).extents = s.extents ∧ ((Eff.lane i g).apply s).volumes = s.volumes ∧ ((Eff.lane i g).apply s).strands = s.strands ∧
    ((Eff.lane i g).apply s).deferred = s.deferred ∧ ((Eff.lane i g).apply s).discs = s.discs ∧ ((Eff.lane i g).apply s).requests = s.requests ∧
    ((Eff.lane i g).apply s).flash = s.flash ∧ ((Eff.lane i g).apply s).life = s.life ∧ ((Eff.lane i g).apply s).lost = s.lost ∧
    ((Eff.lane i g).apply s).fns = s.fns ∧ ((Eff.lane i g).apply s).class0 = s.class0 ∧ ((Eff.lane i g).apply s).insts = s.insts ∧
    ((Eff.lane i g).apply s).nextId = s.nextId ∧ ((Eff.lane i g).apply s).bays = s.bays ∧ ((Eff.lane i g).apply s).spokes = s.spokes ∧
    ((Eff.lane i g).apply s).optics = s.optics ∧ ((Eff.lane i g).apply s).servos = s.servos ∧ ((Eff.lane i g).apply s).traces = s.traces ∧
    ((Eff.lane i g).apply s).motors = s.motors ∧ ((Eff.lane i g).apply s).axes = s.axes ∧ ((Eff.lane i g).apply s).inputs = s.inputs ∧
    ((Eff.lane i g).apply s).detectors = s.detectors ∧ ((Eff.lane i g).apply s).frames = s.frames ∧ ((Eff.lane i g).apply s).writers = s.writers ∧
    ((Eff.lane i g).apply s).cal = s.cal ∧ ((Eff.lane i g).apply s).seqs = s.seqs ∧ ((Eff.lane i g).apply s).cch = s.cch ∧
    ((Eff.lane i g).apply s).dram = s.dram ∧ ((Eff.lane i g).apply s).lanes = s.lanes.set i (g s.lanes[i]) ∧
    ∀ f : Fld, ((Eff.lane i g).apply s).get f = s.get f := by
  and_intros <;> first | rfl | exact fun _ => rfl

@[simp] theorem apply_detector_frame (i : Fin 8) (g : Detector → Detector) (s : State) :
    ((Eff.detector i g).apply s).pending = s.pending ∧ ((Eff.detector i g).apply s).fields = s.fields ∧ ((Eff.detector i g).apply s).now = s.now ∧
    ((Eff.detector i g).apply s).free = s.free ∧ ((Eff.detector i g).apply s).out = s.out ∧ ((Eff.detector i g).apply s).shadows = s.shadows ∧
    ((Eff.detector i g).apply s).evq = s.evq ∧ ((Eff.detector i g).apply s).chip = s.chip ∧ ((Eff.detector i g).apply s).boot = s.boot ∧
    ((Eff.detector i g).apply s).nv = s.nv ∧ ((Eff.detector i g).apply s).otp = s.otp ∧ ((Eff.detector i g).apply s).dbg = s.dbg ∧
    ((Eff.detector i g).apply s).nextSeq = s.nextSeq ∧ ((Eff.detector i g).apply s).grantEnd = s.grantEnd ∧
    ((Eff.detector i g).apply s).cache = s.cache ∧ ((Eff.detector i g).apply s).extents = s.extents ∧
    ((Eff.detector i g).apply s).volumes = s.volumes ∧ ((Eff.detector i g).apply s).strands = s.strands ∧
    ((Eff.detector i g).apply s).deferred = s.deferred ∧ ((Eff.detector i g).apply s).discs = s.discs ∧
    ((Eff.detector i g).apply s).requests = s.requests ∧ ((Eff.detector i g).apply s).flash = s.flash ∧ ((Eff.detector i g).apply s).life = s.life ∧
    ((Eff.detector i g).apply s).lost = s.lost ∧ ((Eff.detector i g).apply s).fns = s.fns ∧ ((Eff.detector i g).apply s).class0 = s.class0 ∧
    ((Eff.detector i g).apply s).insts = s.insts ∧ ((Eff.detector i g).apply s).nextId = s.nextId ∧ ((Eff.detector i g).apply s).bays = s.bays ∧
    ((Eff.detector i g).apply s).spokes = s.spokes ∧ ((Eff.detector i g).apply s).optics = s.optics ∧ ((Eff.detector i g).apply s).servos = s.servos ∧
    ((Eff.detector i g).apply s).traces = s.traces ∧ ((Eff.detector i g).apply s).motors = s.motors ∧ ((Eff.detector i g).apply s).axes = s.axes ∧
    ((Eff.detector i g).apply s).inputs = s.inputs ∧ ((Eff.detector i g).apply s).lanes = s.lanes ∧ ((Eff.detector i g).apply s).frames = s.frames ∧
    ((Eff.detector i g).apply s).writers = s.writers ∧ ((Eff.detector i g).apply s).cal = s.cal ∧ ((Eff.detector i g).apply s).seqs = s.seqs ∧
    ((Eff.detector i g).apply s).cch = s.cch ∧ ((Eff.detector i g).apply s).dram = s.dram ∧
    ((Eff.detector i g).apply s).detectors = s.detectors.set i (g s.detectors[i]) ∧ ∀ f : Fld, ((Eff.detector i g).apply s).get f = s.get f := by
  and_intros <;> first | rfl | exact fun _ => rfl

@[simp] theorem apply_writer_frame (i : Fin 8) (g : Writer → Writer) (s : State) :
    ((Eff.writer i g).apply s).pending = s.pending ∧ ((Eff.writer i g).apply s).fields = s.fields ∧ ((Eff.writer i g).apply s).now = s.now ∧
    ((Eff.writer i g).apply s).free = s.free ∧ ((Eff.writer i g).apply s).out = s.out ∧ ((Eff.writer i g).apply s).shadows = s.shadows ∧
    ((Eff.writer i g).apply s).evq = s.evq ∧ ((Eff.writer i g).apply s).chip = s.chip ∧ ((Eff.writer i g).apply s).boot = s.boot ∧
    ((Eff.writer i g).apply s).nv = s.nv ∧ ((Eff.writer i g).apply s).otp = s.otp ∧ ((Eff.writer i g).apply s).dbg = s.dbg ∧
    ((Eff.writer i g).apply s).nextSeq = s.nextSeq ∧ ((Eff.writer i g).apply s).grantEnd = s.grantEnd ∧ ((Eff.writer i g).apply s).cache = s.cache ∧
    ((Eff.writer i g).apply s).extents = s.extents ∧ ((Eff.writer i g).apply s).volumes = s.volumes ∧ ((Eff.writer i g).apply s).strands = s.strands ∧
    ((Eff.writer i g).apply s).deferred = s.deferred ∧ ((Eff.writer i g).apply s).discs = s.discs ∧ ((Eff.writer i g).apply s).requests = s.requests ∧
    ((Eff.writer i g).apply s).flash = s.flash ∧ ((Eff.writer i g).apply s).life = s.life ∧ ((Eff.writer i g).apply s).lost = s.lost ∧
    ((Eff.writer i g).apply s).fns = s.fns ∧ ((Eff.writer i g).apply s).class0 = s.class0 ∧ ((Eff.writer i g).apply s).insts = s.insts ∧
    ((Eff.writer i g).apply s).nextId = s.nextId ∧ ((Eff.writer i g).apply s).bays = s.bays ∧ ((Eff.writer i g).apply s).spokes = s.spokes ∧
    ((Eff.writer i g).apply s).optics = s.optics ∧ ((Eff.writer i g).apply s).servos = s.servos ∧ ((Eff.writer i g).apply s).traces = s.traces ∧
    ((Eff.writer i g).apply s).motors = s.motors ∧ ((Eff.writer i g).apply s).axes = s.axes ∧ ((Eff.writer i g).apply s).inputs = s.inputs ∧
    ((Eff.writer i g).apply s).lanes = s.lanes ∧ ((Eff.writer i g).apply s).detectors = s.detectors ∧ ((Eff.writer i g).apply s).frames = s.frames ∧
    ((Eff.writer i g).apply s).cal = s.cal ∧ ((Eff.writer i g).apply s).seqs = s.seqs ∧ ((Eff.writer i g).apply s).cch = s.cch ∧
    ((Eff.writer i g).apply s).dram = s.dram ∧ ((Eff.writer i g).apply s).writers = s.writers.set i (g s.writers[i]) ∧
    ∀ f : Fld, ((Eff.writer i g).apply s).get f = s.get f := by
  and_intros <;> first | rfl | exact fun _ => rfl

@[simp] theorem apply_dram_frame (g : Dram → Dram) (s : State) :
    ((Eff.dram g).apply s).pending = s.pending ∧ ((Eff.dram g).apply s).fields = s.fields ∧ ((Eff.dram g).apply s).now = s.now ∧
    ((Eff.dram g).apply s).free = s.free ∧ ((Eff.dram g).apply s).out = s.out ∧ ((Eff.dram g).apply s).shadows = s.shadows ∧
    ((Eff.dram g).apply s).evq = s.evq ∧ ((Eff.dram g).apply s).chip = s.chip ∧ ((Eff.dram g).apply s).boot = s.boot ∧
    ((Eff.dram g).apply s).nv = s.nv ∧ ((Eff.dram g).apply s).otp = s.otp ∧ ((Eff.dram g).apply s).dbg = s.dbg ∧
    ((Eff.dram g).apply s).nextSeq = s.nextSeq ∧ ((Eff.dram g).apply s).grantEnd = s.grantEnd ∧ ((Eff.dram g).apply s).cache = s.cache ∧
    ((Eff.dram g).apply s).extents = s.extents ∧ ((Eff.dram g).apply s).volumes = s.volumes ∧ ((Eff.dram g).apply s).strands = s.strands ∧
    ((Eff.dram g).apply s).deferred = s.deferred ∧ ((Eff.dram g).apply s).discs = s.discs ∧ ((Eff.dram g).apply s).requests = s.requests ∧
    ((Eff.dram g).apply s).flash = s.flash ∧ ((Eff.dram g).apply s).life = s.life ∧ ((Eff.dram g).apply s).lost = s.lost ∧
    ((Eff.dram g).apply s).fns = s.fns ∧ ((Eff.dram g).apply s).class0 = s.class0 ∧ ((Eff.dram g).apply s).insts = s.insts ∧
    ((Eff.dram g).apply s).nextId = s.nextId ∧ ((Eff.dram g).apply s).bays = s.bays ∧ ((Eff.dram g).apply s).spokes = s.spokes ∧
    ((Eff.dram g).apply s).optics = s.optics ∧ ((Eff.dram g).apply s).servos = s.servos ∧ ((Eff.dram g).apply s).traces = s.traces ∧
    ((Eff.dram g).apply s).motors = s.motors ∧ ((Eff.dram g).apply s).axes = s.axes ∧ ((Eff.dram g).apply s).inputs = s.inputs ∧
    ((Eff.dram g).apply s).lanes = s.lanes ∧ ((Eff.dram g).apply s).detectors = s.detectors ∧ ((Eff.dram g).apply s).frames = s.frames ∧
    ((Eff.dram g).apply s).writers = s.writers ∧ ((Eff.dram g).apply s).cal = s.cal ∧ ((Eff.dram g).apply s).seqs = s.seqs ∧
    ((Eff.dram g).apply s).cch = s.cch ∧ ((Eff.dram g).apply s).dram = { g s.dram with mem := s.dram.mem } ∧
    ∀ f : Fld, ((Eff.dram g).apply s).get f = s.get f := by
  and_intros <;> first | rfl | exact fun _ => rfl

@[simp] theorem apply_poke_frame (a n v : Nat) (s : State) :
    ((Eff.poke a n v).apply s).pending = s.pending ∧ ((Eff.poke a n v).apply s).fields = s.fields ∧ ((Eff.poke a n v).apply s).now = s.now ∧
    ((Eff.poke a n v).apply s).free = s.free ∧ ((Eff.poke a n v).apply s).out = s.out ∧ ((Eff.poke a n v).apply s).shadows = s.shadows ∧
    ((Eff.poke a n v).apply s).evq = s.evq ∧ ((Eff.poke a n v).apply s).chip = s.chip ∧ ((Eff.poke a n v).apply s).boot = s.boot ∧
    ((Eff.poke a n v).apply s).nv = s.nv ∧ ((Eff.poke a n v).apply s).otp = s.otp ∧ ((Eff.poke a n v).apply s).dbg = s.dbg ∧
    ((Eff.poke a n v).apply s).nextSeq = s.nextSeq ∧ ((Eff.poke a n v).apply s).grantEnd = s.grantEnd ∧ ((Eff.poke a n v).apply s).cache = s.cache ∧
    ((Eff.poke a n v).apply s).extents = s.extents ∧ ((Eff.poke a n v).apply s).volumes = s.volumes ∧ ((Eff.poke a n v).apply s).strands = s.strands ∧
    ((Eff.poke a n v).apply s).deferred = s.deferred ∧ ((Eff.poke a n v).apply s).discs = s.discs ∧ ((Eff.poke a n v).apply s).requests = s.requests ∧
    ((Eff.poke a n v).apply s).flash = s.flash ∧ ((Eff.poke a n v).apply s).life = s.life ∧ ((Eff.poke a n v).apply s).lost = s.lost ∧
    ((Eff.poke a n v).apply s).fns = s.fns ∧ ((Eff.poke a n v).apply s).class0 = s.class0 ∧ ((Eff.poke a n v).apply s).insts = s.insts ∧
    ((Eff.poke a n v).apply s).nextId = s.nextId ∧ ((Eff.poke a n v).apply s).bays = s.bays ∧ ((Eff.poke a n v).apply s).spokes = s.spokes ∧
    ((Eff.poke a n v).apply s).optics = s.optics ∧ ((Eff.poke a n v).apply s).servos = s.servos ∧ ((Eff.poke a n v).apply s).traces = s.traces ∧
    ((Eff.poke a n v).apply s).motors = s.motors ∧ ((Eff.poke a n v).apply s).axes = s.axes ∧ ((Eff.poke a n v).apply s).inputs = s.inputs ∧
    ((Eff.poke a n v).apply s).lanes = s.lanes ∧ ((Eff.poke a n v).apply s).detectors = s.detectors ∧ ((Eff.poke a n v).apply s).frames = s.frames ∧
    ((Eff.poke a n v).apply s).writers = s.writers ∧ ((Eff.poke a n v).apply s).cal = s.cal ∧ ((Eff.poke a n v).apply s).seqs = s.seqs ∧
    ((Eff.poke a n v).apply s).cch = s.cch ∧ ((Eff.poke a n v).apply s).dram = { s.dram with mem := memStore s.dram.mem a n v } ∧
    ∀ f : Fld, ((Eff.poke a n v).apply s).get f = s.get f := by
  and_intros <;> first | rfl | exact fun _ => rfl

@[simp] theorem apply_wipe_frame (s : State) :
    ((Eff.wipe).apply s).pending = s.pending ∧ ((Eff.wipe).apply s).fields = s.fields ∧ ((Eff.wipe).apply s).now = s.now ∧
    ((Eff.wipe).apply s).free = s.free ∧ ((Eff.wipe).apply s).out = s.out ∧ ((Eff.wipe).apply s).shadows = s.shadows ∧
    ((Eff.wipe).apply s).evq = s.evq ∧ ((Eff.wipe).apply s).chip = s.chip ∧ ((Eff.wipe).apply s).boot = s.boot ∧ ((Eff.wipe).apply s).nv = s.nv ∧
    ((Eff.wipe).apply s).otp = s.otp ∧ ((Eff.wipe).apply s).dbg = s.dbg ∧ ((Eff.wipe).apply s).nextSeq = s.nextSeq ∧
    ((Eff.wipe).apply s).grantEnd = s.grantEnd ∧ ((Eff.wipe).apply s).cache = s.cache ∧ ((Eff.wipe).apply s).extents = s.extents ∧
    ((Eff.wipe).apply s).volumes = s.volumes ∧ ((Eff.wipe).apply s).strands = s.strands ∧ ((Eff.wipe).apply s).deferred = s.deferred ∧
    ((Eff.wipe).apply s).discs = s.discs ∧ ((Eff.wipe).apply s).requests = s.requests ∧ ((Eff.wipe).apply s).flash = s.flash ∧
    ((Eff.wipe).apply s).life = s.life ∧ ((Eff.wipe).apply s).lost = s.lost ∧ ((Eff.wipe).apply s).fns = s.fns ∧
    ((Eff.wipe).apply s).class0 = s.class0 ∧ ((Eff.wipe).apply s).insts = s.insts ∧ ((Eff.wipe).apply s).nextId = s.nextId ∧
    ((Eff.wipe).apply s).bays = s.bays ∧ ((Eff.wipe).apply s).spokes = s.spokes ∧ ((Eff.wipe).apply s).optics = s.optics ∧
    ((Eff.wipe).apply s).servos = s.servos ∧ ((Eff.wipe).apply s).traces = s.traces ∧ ((Eff.wipe).apply s).motors = s.motors ∧
    ((Eff.wipe).apply s).axes = s.axes ∧ ((Eff.wipe).apply s).inputs = s.inputs ∧ ((Eff.wipe).apply s).lanes = s.lanes ∧
    ((Eff.wipe).apply s).detectors = s.detectors ∧ ((Eff.wipe).apply s).frames = s.frames ∧ ((Eff.wipe).apply s).writers = s.writers ∧
    ((Eff.wipe).apply s).cal = s.cal ∧ ((Eff.wipe).apply s).seqs = s.seqs ∧ ((Eff.wipe).apply s).cch = s.cch ∧
    ((Eff.wipe).apply s).dram = { s.dram with mem := [] } ∧ ∀ f : Fld, ((Eff.wipe).apply s).get f = s.get f := by
  and_intros <;> first | rfl | exact fun _ => rfl

theorem apply_fn_self (i : Fin 4) (g : HostFn → HostFn) (s : State) : ((Eff.fn i g).apply s).fns[i] = g s.fns[i] := by
  show (s.fns.set i.val (g s.fns[i]) i.isLt)[i.val] = _
  simp

theorem apply_fn_ne {i j : Fin 4} (g : HostFn → HostFn) (s : State) (h : i ≠ j) : ((Eff.fn i g).apply s).fns[j] = s.fns[j] := by
  have ne : i.val ≠ j.val := fun x => h (Fin.ext x)
  show (s.fns.set i.val (g s.fns[i]) i.isLt)[j.val] = _
  simp [ne]

theorem apply_class0_self (i : Fin 2) (g : Class0 → Class0) (s : State) : ((Eff.class0 i g).apply s).class0[i] = g s.class0[i] := by
  show (s.class0.set i.val (g s.class0[i]) i.isLt)[i.val] = _
  simp

theorem apply_class0_ne {i j : Fin 2} (g : Class0 → Class0) (s : State) (h : i ≠ j) : ((Eff.class0 i g).apply s).class0[j] = s.class0[j] := by
  have ne : i.val ≠ j.val := fun x => h (Fin.ext x)
  show (s.class0.set i.val (g s.class0[i]) i.isLt)[j.val] = _
  simp [ne]

theorem apply_bay_self (i : Fin 4) (g : Bay → Bay) (s : State) : ((Eff.bay i g).apply s).bays[i] = g s.bays[i] := by
  show (s.bays.set i.val (g s.bays[i]) i.isLt)[i.val] = _
  simp

theorem apply_bay_ne {i j : Fin 4} (g : Bay → Bay) (s : State) (h : i ≠ j) : ((Eff.bay i g).apply s).bays[j] = s.bays[j] := by
  have ne : i.val ≠ j.val := fun x => h (Fin.ext x)
  show (s.bays.set i.val (g s.bays[i]) i.isLt)[j.val] = _
  simp [ne]

theorem apply_spoke_self (i : Fin 8) (g : Spoke → Spoke) (s : State) : ((Eff.spoke i g).apply s).spokes[i] = g s.spokes[i] := by
  show (s.spokes.set i.val (g s.spokes[i]) i.isLt)[i.val] = _
  simp

theorem apply_spoke_ne {i j : Fin 8} (g : Spoke → Spoke) (s : State) (h : i ≠ j) : ((Eff.spoke i g).apply s).spokes[j] = s.spokes[j] := by
  have ne : i.val ≠ j.val := fun x => h (Fin.ext x)
  show (s.spokes.set i.val (g s.spokes[i]) i.isLt)[j.val] = _
  simp [ne]

theorem apply_optic_self (i : Fin 8) (g : Optic → Optic) (s : State) : ((Eff.optic i g).apply s).optics[i] = g s.optics[i] := by
  show (s.optics.set i.val (g s.optics[i]) i.isLt)[i.val] = _
  simp

theorem apply_optic_ne {i j : Fin 8} (g : Optic → Optic) (s : State) (h : i ≠ j) : ((Eff.optic i g).apply s).optics[j] = s.optics[j] := by
  have ne : i.val ≠ j.val := fun x => h (Fin.ext x)
  show (s.optics.set i.val (g s.optics[i]) i.isLt)[j.val] = _
  simp [ne]

theorem apply_servo_self (i : Fin 2) (g : Servo → Servo) (s : State) : ((Eff.servo i g).apply s).servos[i] = g s.servos[i] := by
  show (s.servos.set i.val (g s.servos[i]) i.isLt)[i.val] = _
  simp

theorem apply_servo_ne {i j : Fin 2} (g : Servo → Servo) (s : State) (h : i ≠ j) : ((Eff.servo i g).apply s).servos[j] = s.servos[j] := by
  have ne : i.val ≠ j.val := fun x => h (Fin.ext x)
  show (s.servos.set i.val (g s.servos[i]) i.isLt)[j.val] = _
  simp [ne]

theorem apply_trace_self (i : Fin 16) (g : Trace → Trace) (s : State) : ((Eff.trace i g).apply s).traces[i] = g s.traces[i] := by
  show (s.traces.set i.val (g s.traces[i]) i.isLt)[i.val] = _
  simp

theorem apply_trace_ne {i j : Fin 16} (g : Trace → Trace) (s : State) (h : i ≠ j) : ((Eff.trace i g).apply s).traces[j] = s.traces[j] := by
  have ne : i.val ≠ j.val := fun x => h (Fin.ext x)
  show (s.traces.set i.val (g s.traces[i]) i.isLt)[j.val] = _
  simp [ne]

theorem apply_motor_self (i : Fin 8) (g : Motor → Motor) (s : State) : ((Eff.motor i g).apply s).motors[i] = g s.motors[i] := by
  show (s.motors.set i.val (g s.motors[i]) i.isLt)[i.val] = _
  simp

theorem apply_motor_ne {i j : Fin 8} (g : Motor → Motor) (s : State) (h : i ≠ j) : ((Eff.motor i g).apply s).motors[j] = s.motors[j] := by
  have ne : i.val ≠ j.val := fun x => h (Fin.ext x)
  show (s.motors.set i.val (g s.motors[i]) i.isLt)[j.val] = _
  simp [ne]

theorem apply_axis_self (i : Fin 16) (g : Axis → Axis) (s : State) : ((Eff.axis i g).apply s).axes[i] = g s.axes[i] := by
  show (s.axes.set i.val (g s.axes[i]) i.isLt)[i.val] = _
  simp

theorem apply_axis_ne {i j : Fin 16} (g : Axis → Axis) (s : State) (h : i ≠ j) : ((Eff.axis i g).apply s).axes[j] = s.axes[j] := by
  have ne : i.val ≠ j.val := fun x => h (Fin.ext x)
  show (s.axes.set i.val (g s.axes[i]) i.isLt)[j.val] = _
  simp [ne]

theorem apply_input_self (i : Fin 32) (g : Input → Input) (s : State) : ((Eff.input i g).apply s).inputs[i] = g s.inputs[i] := by
  show (s.inputs.set i.val (g s.inputs[i]) i.isLt)[i.val] = _
  simp

theorem apply_input_ne {i j : Fin 32} (g : Input → Input) (s : State) (h : i ≠ j) : ((Eff.input i g).apply s).inputs[j] = s.inputs[j] := by
  have ne : i.val ≠ j.val := fun x => h (Fin.ext x)
  show (s.inputs.set i.val (g s.inputs[i]) i.isLt)[j.val] = _
  simp [ne]

theorem apply_lane_self (i : Fin 36) (g : Lane → Lane) (s : State) : ((Eff.lane i g).apply s).lanes[i] = g s.lanes[i] := by
  show (s.lanes.set i.val (g s.lanes[i]) i.isLt)[i.val] = _
  simp

theorem apply_lane_ne {i j : Fin 36} (g : Lane → Lane) (s : State) (h : i ≠ j) : ((Eff.lane i g).apply s).lanes[j] = s.lanes[j] := by
  have ne : i.val ≠ j.val := fun x => h (Fin.ext x)
  show (s.lanes.set i.val (g s.lanes[i]) i.isLt)[j.val] = _
  simp [ne]

theorem apply_detector_self (i : Fin 8) (g : Detector → Detector) (s : State) : ((Eff.detector i g).apply s).detectors[i] = g s.detectors[i] := by
  show (s.detectors.set i.val (g s.detectors[i]) i.isLt)[i.val] = _
  simp

theorem apply_detector_ne {i j : Fin 8} (g : Detector → Detector) (s : State) (h : i ≠ j) : ((Eff.detector i g).apply s).detectors[j] = s.detectors[j] := by
  have ne : i.val ≠ j.val := fun x => h (Fin.ext x)
  show (s.detectors.set i.val (g s.detectors[i]) i.isLt)[j.val] = _
  simp [ne]

theorem apply_writer_self (i : Fin 8) (g : Writer → Writer) (s : State) : ((Eff.writer i g).apply s).writers[i] = g s.writers[i] := by
  show (s.writers.set i.val (g s.writers[i]) i.isLt)[i.val] = _
  simp

theorem apply_writer_ne {i j : Fin 8} (g : Writer → Writer) (s : State) (h : i ≠ j) : ((Eff.writer i g).apply s).writers[j] = s.writers[j] := by
  have ne : i.val ≠ j.val := fun x => h (Fin.ext x)
  show (s.writers.set i.val (g s.writers[i]) i.isLt)[j.val] = _
  simp [ne]

end Sys2Proof.Machine
end

