-- ==== Sys2Proof/Laws/Frame.lean ====
section
/-! SUPPORT. How a frame is built up along a program: each effect adds its own part, and a raise adds the parts of events. -/

namespace Sys2Proof.Machine

theorem SameBut.refl (l : List Part) (s : State) : SameBut l s s := fun p _ => p.same_refl s

theorem SameBut.trans {l : List Part} {s t u : State} (h : SameBut l s t) (h' : SameBut l t u) : SameBut l s u :=
  fun p hp => Part.same_trans (h p hp) (h' p hp)

theorem SameBut.mono {l m : List Part} {s t : State} (h : SameBut l s t) (hm : ∀ p ∈ l, p ∈ m) : SameBut m s t :=
  fun p hp => h p (fun hl => hp (hm p hl))

theorem SameBut.ofSame {L : Nat} {s t : State} {l : List Part} (h : Same L s t) (hl : ∀ p : Part, p ∉ l → L.testBit p.idx = false) :
    SameBut l s t := fun p hp => h p (hl p hp)

theorem Part.idx_inj {p q : Part} (h : p.idx = q.idx) : p = q := by
  cases p <;> cases q <;> first | rfl | exact absurd h (by decide)

theorem SameBut.put {l : List Part} {s t : State} {f : Fld} {v : Nat} (h : SameBut l s t) (hw : f.window ∈ l) :
    SameBut l s (t.put f v) := by
  refine h.trans (SameBut.ofSame (put_same t f v) fun p hp => ?_)
  have ne : p ≠ f.window := fun e => hp (e ▸ hw)
  rw [Nat.testBit_two_pow]
  simpa using fun e : f.window.idx = p.idx => ne (Part.idx_inj e).symm

/-- The part that a primitive effect other than a reset touches. -/
def Eff.part (e : Eff) : Part :=
  match e with
  | .put f _ => f.window
  | .queue _ => .evq
  | .merge => .evq
  | .consume _ _ => .evq
  | .openQueue => .evq
  | .out _ => .out
  | .useFree => .free
  | .issue _ => .seqno
  | .resumeGrants => .seqno
  | .fuse _ => .otp
  | .revoke _ => .otp
  | .hardReset _ => .devRegs
  | .wakeReset _ => .devRegs
  | .shadows _ => .shadows
  | .chip _ => .chip
  | .boot _ => .boot
  | .nv _ => .nv
  | .dbg _ => .dbg
  | .cache _ => .cache
  | .extents _ => .extents
  | .volumes _ => .volumes
  | .strands _ => .strands
  | .deferred _ => .deferred
  | .discs _ => .discs
  | .requests _ => .requests
  | .flash _ => .flash
  | .life _ => .life
  | .lost _ => .lost
  | .fn _ _ => .fns
  | .class0 _ _ => .class0
  | .insts _ => .insts
  | .fetched => .nextId
  | .bay _ _ => .bays
  | .spoke _ _ => .spokes
  | .optic _ _ => .optics
  | .servo _ _ => .servos
  | .trace _ _ => .traces
  | .motor _ _ => .motors
  | .axis _ _ => .axes
  | .input _ _ => .inputs
  | .lane _ _ => .lanes
  | .detector _ _ => .detectors
  | .frames _ => .frames
  | .writer _ _ => .writers
  | .cal _ => .cal
  | .seqs _ => .seqs
  | .cch _ => .cch
  | .dram _ => .dram
  | .poke _ _ _ => .mem
  | .wipe => .mem

/-- Whether an effect is a reset, which touches many parts. -/
def Eff.isReset (e : Eff) : Bool :=
  match e with
  | .hardReset _ => true
  | .wakeReset _ => true
  | _ => false

theorem Eff.mask_part (e : Eff) (h : e.isReset = false) : e.mask = 2 ^ e.part.idx := by
  cases e <;> first | rfl | exact absurd h (by decide) | exact Bool.noConfusion h

theorem SameBut.eff {l : List Part} {s t : State} {e : Eff} (h : SameBut l s t) (hr : e.isReset = false) (hl : e.part ∈ l) :
    SameBut l s (e.apply t) := by
  refine h.trans (SameBut.ofSame (Eff.same e t) fun p hp => ?_)
  have ne : p ≠ e.part := fun x => hp (x ▸ hl)
  rw [e.mask_part hr, Nat.testBit_two_pow]
  simpa using fun x : e.part.idx = p.idx => ne (Part.idx_inj x).symm

theorem SameBut.signals {l : List Part} {K : List Nat} {s t u : State} (h : SameBut l s t) (sg : Signals K t u)
    (hl : ∀ p : Part, p ∉ l → Nat.testBit 144116287657738310 p.idx = false) : SameBut l s u :=
  h.trans (SameBut.ofSame sg.same hl)

theorem SameBut.same {l : List Part} {L : Nat} {s t u : State} (h : SameBut l s t) (h' : Same L t u)
    (hl : ∀ p : Part, p ∉ l → L.testBit p.idx = false) : SameBut l s u := h.trans (SameBut.ofSame h' hl)

/-- The frame that a command's footprint gives joins what has been shown of its next state. -/
theorem frame_and {L : Nat} {o : Answer} {s : State} {P : State → Prop} {l : List Part} (h : ∃ u, o = .next u ∧ Same L s u)
    (h' : ∃ t, o = .next t ∧ P t) (hl : ∀ p : Part, p ∉ l → L.testBit p.idx = false) :
    ∃ t, o = .next t ∧ SameBut l s t ∧ P t := by
  obtain ⟨u, e, a⟩ := h
  obtain ⟨t, e', b⟩ := h'
  rw [e] at e'
  cases e'
  exact ⟨u, e, SameBut.ofSame a hl, b⟩

theorem Counted.of {n : Nat} {s t u : State} (h : Counted n s t) (e : u.get (F.EVT_COUNT_CNT n) = t.get (F.EVT_COUNT_CNT n)) :
    Counted n s u := e.trans h

theorem Raised.of {n a b c : Nat} {s t u : State} (h : Raised n a b c s t) (e : u.get (F.EVT_COUNT_CNT n) = t.get (F.EVT_COUNT_CNT n))
    (e' : u.evq = t.evq) : Raised n a b c s u := ⟨Counted.of h.1 e, e'.trans h.2⟩

/-- What a raise makes depends on the queue, the clock and the count alone. -/
theorem Raised.from {n a b c : Nat} {s t u : State} (h : Raised n a b c t u)
    (e : t.get (F.EVT_COUNT_CNT n) = s.get (F.EVT_COUNT_CNT n)) (eq : t.evq = s.evq) (en : t.now = s.now) (ev : t.nv = s.nv)
    (el : t.life = s.life) : Raised n a b c s u := by
  have hr : t.eventRec n a b c = s.eventRec n a b c := by
    simp [State.eventRec, State.timeStamp, State.utc, State.powerOn, en, ev, el]
  have hm : ∀ r, t.merges r = s.merges r := fun r => by simp [State.merges, eq, en]
  refine ⟨?_, ?_⟩
  · have := h.1; unfold Counted at this ⊢; rw [this, e]
  · rw [h.2, hr, hm, eq]


/-- The keys of the fields that a change of mode sets. -/
def modeKeys : List Nat := [F.DEV_MODE_STAT_MODE.key, F.DEV_MODE_STAT_PREV_MODE.key, F.DEV_MODE_STAT_CAUSE.key]

theorem signalKeys_dev : ∀ k ∈ signalKeys, 0x10000 * 64 ≤ k := by decide

theorem count_key_lo (n : Nat) : 0x10000 * 64 ≤ (F.EVT_COUNT_CNT n).key := by
  simp only [Fld.key, F.EVT_COUNT_CNT, F.evtBase]; omega

/-- A field of the DEV window reads through a raise. -/
theorem Signals.dev {n : Nat} {s t : State} (h : Signals [(F.EVT_COUNT_CNT n).key] s t) {f : Fld} (hf : f.key < 0x10000 * 64) :
    t.get f = s.get f := by
  have hc := count_key_lo n
  refine h.gets f (fun m => ?_) (fun m => ?_)
  · have := signalKeys_dev _ m; omega
  · rw [List.mem_singleton] at m; omega

/-- A change of mode: what it sets, what it raises, and what it leaves (R33). -/
theorem Post.changeMode {new cause : Nat} {s : State} {Q : Unit → State → Prop} (hn : new < 16) (hc : cause < 256)
    (h : ∀ t, ModeChanged new cause s t →
      (∀ f : Fld, f.key < 0x10000 * 64 → f.key ∉ modeKeys → t.get f = s.get f) →
      t.chip = { s.chip with pins := { s.chip.pins with smbAlert := t.chip.pins.smbAlert, smbLevel := t.chip.pins.smbLevel }
                             routines := t.chip.routines } →
      t.chip.pins.smbAlert = true → Same 144116287657738311 s t →
      (∀ f : Fld, f.key ∉ modeKeys → f.key ∉ signalKeys → f.key ≠ (F.EVT_COUNT_CNT Ev.MODE_CHANGE).key → t.get f = s.get f) →
      Q () t) :
    Act.Post (changeMode new cause) s Q := by
  unfold Machine.changeMode
  refine Post.bind (Post.rd (Post.bind (Post.setF (Post.bind (Post.setF (Post.bind (Post.setF
    (Post.bind (Post.emit (Post.raise fun t r g => ?_)))))))))) 
  have m : ∀ u : State, u = (((s.put F.DEV_MODE_STAT_PREV_MODE s.mode).put F.DEV_MODE_STAT_MODE new).put F.DEV_MODE_STAT_CAUSE cause) →
      u.get F.DEV_MODE_STAT_MODE = new ∧ u.get F.DEV_MODE_STAT_PREV_MODE = s.mode % 16 ∧ u.get F.DEV_MODE_STAT_CAUSE = cause ∧
      (∀ f : Fld, f.key ∉ modeKeys → u.get f = s.get f) ∧ Same 1 s u := by
    rintro u rfl
    refine ⟨?_, ?_, ?_, ?_, ?_⟩
    · rw [State.get_put_ne _ _ (by decide), State.get_put_self]; exact Nat.mod_eq_of_lt hn
    · rw [State.get_put_ne _ _ (by decide), State.get_put_ne _ _ (by decide), State.get_put_self]; rfl
    · rw [State.get_put_self]; exact Nat.mod_eq_of_lt hc
    · intro f hf
      have hf' : f.key ≠ F.DEV_MODE_STAT_MODE.key ∧ f.key ≠ F.DEV_MODE_STAT_PREV_MODE.key ∧ f.key ≠ F.DEV_MODE_STAT_CAUSE.key := by
        simpa [modeKeys] using hf
      rw [State.get_put_ne _ _ hf'.2.2, State.get_put_ne _ _ hf'.1, State.get_put_ne _ _ hf'.2.1]
    · exact (Same.mono (M := 1) (put_same _ _ _) rfl).trans
        ((Same.mono (M := 1) (put_same _ _ _) rfl).trans (Same.mono (M := 1) (put_same _ _ _) rfl))
  obtain ⟨m1, m2, m3, m4, m5⟩ := m _ rfl
  have dev : ∀ f : Fld, f.key < 0x10000 * 64 → t.get f =
      (((s.put F.DEV_MODE_STAT_PREV_MODE s.mode).put F.DEV_MODE_STAT_MODE new).put F.DEV_MODE_STAT_CAUSE cause).get f :=
    fun f hf => (g.dev hf).trans rfl
  refine h t ⟨?_, ?_, ?_, ?_⟩ ?_ ?_ ?_ ?_ ?_
  · exact (dev _ (by decide)).trans m1
  · exact (dev _ (by decide)).trans m2
  · exact (dev _ (by decide)).trans m3
  · refine Raised.from r ?_ rfl rfl rfl rfl
    refine m4 _ fun k => ?_
    have := count_key_lo Ev.MODE_CHANGE
    have l : ∀ k ∈ modeKeys, k < 0x10000 * 64 := by decide
    have := l _ k
    omega
  · exact fun f hf hm => (dev f hf).trans (m4 f hm)
  · rw [g.chip]; rfl
  · exact g.alert rfl
  · exact (m5.mono rfl).trans ((Same.mono (L := 67108864) (Eff.same (.chip _) _) rfl).trans (g.same.mono rfl))
  · exact fun f a b c => (g.gets f b (by simpa using c)).trans (m4 f a)

end Sys2Proof.Machine
end

