-- ==== Sys2Proof/Laws/Keep.lean ====
section
/-! SUPPORT. What no program changes: the queue of commands and the clock belong to the step alone. -/

namespace Sys2Proof.Machine

theorem Eff.keeps_clock (e : Eff) (s : State) : (e.apply s).pending = s.pending ∧ (e.apply s).now = s.now := by
  cases e <;> exact ⟨rfl, rfl⟩

theorem Prog.keeps_clock (p : Prog) (s : State) : (p.run s).pending = s.pending ∧ (p.run s).now = s.now := by
  induction p generalizing s with
  | done => exact ⟨rfl, rfl⟩
  | read k ih => exact ih s s
  | eff e p ih => exact ⟨(ih _).1.trans (e.keeps_clock s).1, (ih _).2.trans (e.keeps_clock s).2⟩

theorem Runs.clock {α : Type} {m : Act α} {s t : State} {a : α} (h : Act.Runs m s a t) : t.pending = s.pending ∧ t.now = s.now := by
  have := Prog.keeps_clock (m (fun _ => Prog.done)) s
  rwa [h (fun _ => Prog.done)] at this

/-- A program that has run has left the clock and the queue of commands. -/
theorem Post.clock {α : Type} {m : Act α} {s : State} {Q : α → State → Prop}
    (h : Act.Post m s (fun a t => t.pending = s.pending → t.now = s.now → Q a t)) : Act.Post m s Q := by
  obtain ⟨a, t, r, q⟩ := h
  exact ⟨a, t, r, q (Runs.clock r).1 (Runs.clock r).2⟩

end Sys2Proof.Machine
end

