-- ==== Sys2Proof/Laws/Numbers.lean ====
section
/-! SUPPORT. Signed codes: what a field that takes a signed value reads as. -/

namespace Sys2Proof.Machine

theorem ofSigned_lt (w : Nat) (i : Int) : ofSigned w i < 2 ^ w := by
  unfold ofSigned
  have h : (0 : Int) < 2 ^ w := by positivity
  have := Int.emod_lt_of_pos i h
  have := Int.emod_nonneg i h.ne'
  have e : ((2 ^ w : Nat) : Int) = 2 ^ w := by push_cast; rfl
  omega

/-- A value in the range of `w` bits comes back from its code. -/
theorem toSigned_ofSigned {w : Nat} (hw : 0 < w) {i : Int} (lo : -(2 ^ (w - 1)) ≤ i) (hi : i < 2 ^ (w - 1)) :
    toSigned w (ofSigned w i) = i := by
  obtain ⟨n, rfl⟩ : ∃ n, w = n + 1 := ⟨w - 1, by omega⟩
  simp only [Nat.add_sub_cancel] at lo hi
  have lt := ofSigned_lt (n + 1) i
  unfold toSigned
  simp only [Nat.mod_eq_of_lt lt, Nat.add_sub_cancel]
  unfold ofSigned at lt ⊢
  have p : (2 : Int) ^ (n + 1) = 2 * 2 ^ n := by ring
  have q : (2 : Nat) ^ (n + 1) = 2 * 2 ^ n := by ring
  have e : ((2 ^ n : Nat) : Int) = 2 ^ n := by push_cast; rfl
  have pos : (0 : Int) < 2 ^ n := by positivity
  by_cases neg : i < 0
  · have h : i % 2 ^ (n + 1) = i + 2 ^ (n + 1) := by
      rw [← Int.add_emod_right]
      exact Int.emod_eq_of_lt (by omega) (by omega)
    rw [h]
    rw [if_neg (by omega)]
    omega
  · have h : i % 2 ^ (n + 1) = i := Int.emod_eq_of_lt (by omega) (by omega)
    rw [h]
    rw [if_pos (by omega)]
    omega

theorem satInt_range (w : Nat) (i : Int) : -(2 ^ (w - 1)) ≤ satInt w i ∧ satInt w i < 2 ^ (w - 1) := by
  have pos : (0 : Int) < 2 ^ (w - 1) := by positivity
  unfold satInt clampInt
  split
  · omega
  · split <;> omega

/-- A field reads as the signed value last put into it. -/
theorem State.geti_put_self (s : State) (f : Fld) (hw : 0 < f.w) {i : Int} (lo : -(2 ^ (f.w - 1)) ≤ i) (hi : i < 2 ^ (f.w - 1)) :
    (s.put f (ofSigned f.w i)).geti f = i := by
  unfold State.geti
  rw [State.get_put_self, Nat.mod_eq_of_lt (ofSigned_lt _ _)]
  exact toSigned_ofSigned hw lo hi

end Sys2Proof.Machine
end

