-- ==== Sys2Proof/Laws/Touches2.lean ====
section
/-! SUPPORT. Part 2 of what every program of the model may touch: for each program, that from every state it runs to an answer, and
the parts of the state that it leaves alone (as the bits of `Part.idx`). -/

set_option linter.all false

namespace Sys2Proof.Machine

theorem execSrvTrcCtlWrite_touches (m) (e) (k) (v) (s : State) : ∃ u, execSrvTrcCtlWrite m e k v s = .next u ∧ Same 144397762634449478 s u := by
  unfold execSrvTrcCtlWrite
  first | apply Touches.answer | apply Touches.answerWhen | (dsimp only; first | apply Touches.answer | apply Touches.answerWhen)
  try dsimp only
  repeat' first
    | with_reducible refine Touches.bind ?_ fun _ => ?_
    | with_reducible refine Touches.ite ?_ ?_
    | with_reducible exact Touches.pure _
    | with_reducible exact Touches.rd
    | (with_reducible apply writeTraceCtl_touches); rfl
    | with_reducible split
    | with_reducible dsimp only

theorem writeOptCmd_touches (k) (cmd) (layer) (dist) (atSpoke) (spoke) {L : Nat} (h : Nat.lor 252308506709168710 L = L) : Touches L (writeOptCmd k cmd layer dist atSpoke spoke) := by
  refine Touches.mono (L := 252308506709168710) ?_ h
  unfold writeOptCmd
  try dsimp only
  repeat' first
    | with_reducible refine Touches.bind ?_ fun _ => ?_
    | with_reducible refine Touches.ite ?_ ?_
    | with_reducible exact Touches.pure _
    | with_reducible exact Touches.rd
    | (with_reducible apply Touches.setF) <;> (first | with_reducible exact F.BAY_OPT_CMD_LAYER_window _ | with_reducible exact F.BAY_OPT_CMD_AT_SPOKE_window _ | with_reducible exact F.BAY_OPT_CMD_SPOKE_window _ | with_reducible exact F.BAY_OPT_CMD_DIST_window _ | rfl)
    | (with_reducible apply optCommand_touches); rfl
    | with_reducible split
    | with_reducible dsimp only

theorem execOptAcquire_touches (k) (layer) (atSpoke) (spoke) (s : State) : ∃ u, execOptAcquire k layer atSpoke spoke s = .next u ∧ Same 252308506709168710 s u := by
  unfold execOptAcquire
  first | apply Touches.answer | apply Touches.answerWhen | (dsimp only; first | apply Touches.answer | apply Touches.answerWhen)
  try dsimp only
  repeat' first
    | with_reducible refine Touches.bind ?_ fun _ => ?_
    | with_reducible refine Touches.ite ?_ ?_
    | with_reducible exact Touches.pure _
    | with_reducible exact Touches.rd
    | (with_reducible apply writeOptCmd_touches); rfl
    | with_reducible split
    | with_reducible dsimp only

theorem execOptLayerJump_touches (k) (layer) (atSpoke) (spoke) (s : State) : ∃ u, execOptLayerJump k layer atSpoke spoke s = .next u ∧ Same 252308506709168710 s u := by
  unfold execOptLayerJump
  first | apply Touches.answer | apply Touches.answerWhen | (dsimp only; first | apply Touches.answer | apply Touches.answerWhen)
  try dsimp only
  repeat' first
    | with_reducible refine Touches.bind ?_ fun _ => ?_
    | with_reducible refine Touches.ite ?_ ?_
    | with_reducible exact Touches.pure _
    | with_reducible exact Touches.rd
    | (with_reducible apply writeOptCmd_touches); rfl
    | with_reducible split
    | with_reducible dsimp only

theorem execOptPullIn_touches (k) (atSpoke) (spoke) (s : State) : ∃ u, execOptPullIn k atSpoke spoke s = .next u ∧ Same 252308506709168710 s u := by
  unfold execOptPullIn
  first | apply Touches.answer | apply Touches.answerWhen | (dsimp only; first | apply Touches.answer | apply Touches.answerWhen)
  try dsimp only
  repeat' first
    | with_reducible refine Touches.bind ?_ fun _ => ?_
    | with_reducible refine Touches.ite ?_ ?_
    | with_reducible exact Touches.pure _
    | with_reducible exact Touches.rd
    | (with_reducible apply writeOptCmd_touches); rfl
    | with_reducible split
    | with_reducible dsimp only

theorem execOptJump_touches (k) (dist) (atSpoke) (spoke) (s : State) : ∃ u, execOptJump k dist atSpoke spoke s = .next u ∧ Same 252308506709168710 s u := by
  unfold execOptJump
  first | apply Touches.answer | apply Touches.answerWhen | (dsimp only; first | apply Touches.answer | apply Touches.answerWhen)
  try dsimp only
  repeat' first
    | with_reducible refine Touches.bind ?_ fun _ => ?_
    | with_reducible refine Touches.ite ?_ ?_
    | with_reducible exact Touches.pure _
    | with_reducible exact Touches.rd
    | (with_reducible apply writeOptCmd_touches); rfl
    | with_reducible split
    | with_reducible dsimp only

theorem execOptRetract_touches (k) (s : State) : ∃ u, execOptRetract k s = .next u ∧ Same 252308506709168710 s u := by
  unfold execOptRetract
  first | apply Touches.answer | apply Touches.answerWhen | (dsimp only; first | apply Touches.answer | apply Touches.answerWhen)
  try dsimp only
  repeat' first
    | with_reducible refine Touches.bind ?_ fun _ => ?_
    | with_reducible refine Touches.ite ?_ ?_
    | with_reducible exact Touches.pure _
    | with_reducible exact Touches.rd
    | (with_reducible apply writeOptCmd_touches); rfl
    | with_reducible split
    | with_reducible dsimp only

theorem execFocusReacquire_touches (k) (s : State) : ∃ u, execFocusReacquire k s = .next u ∧ Same 263022148010352198 s u := by
  unfold execFocusReacquire
  first | apply Touches.answer | apply Touches.answerWhen | (dsimp only; first | apply Touches.answer | apply Touches.answerWhen)
  try dsimp only
  repeat' first
    | with_reducible refine Touches.bind ?_ fun _ => ?_
    | with_reducible refine Touches.ite ?_ ?_
    | with_reducible exact Touches.pure _
    | with_reducible exact Touches.rd
    | (with_reducible apply Touches.setF) <;> (first | with_reducible exact F.BAY_OPT_STAT_FAIL_RUN_window _ | with_reducible exact F.BAY_OPT_TARGET_TRACK_window _ | rfl)
    | (with_reducible apply raiseOpu_touches); rfl
    | (with_reducible apply parkToFaulted_touches); rfl
    | (with_reducible apply beginAcquire_touches); rfl
    | (with_reducible apply optRefuse_touches); rfl
    | (with_reducible apply Touches.emitM (M := 70368744177664)) <;> rfl
    | with_reducible split
    | with_reducible dsimp only

theorem execLayerHopTimeout_touches (k) (s : State) : ∃ u, execLayerHopTimeout k s = .next u ∧ Same 261280521591816774 s u := by
  unfold execLayerHopTimeout
  first | apply Touches.answer | apply Touches.answerWhen | (dsimp only; first | apply Touches.answer | apply Touches.answerWhen)
  try dsimp only
  repeat' first
    | with_reducible refine Touches.bind ?_ fun _ => ?_
    | with_reducible refine Touches.ite ?_ ?_
    | with_reducible exact Touches.pure _
    | with_reducible exact Touches.rd
    | (with_reducible apply hopFailed_touches); rfl
    | with_reducible split
    | with_reducible dsimp only

theorem execPullInTimeout_touches (k) (s : State) : ∃ u, execPullInTimeout k s = .next u ∧ Same 261280521591816774 s u := by
  unfold execPullInTimeout
  first | apply Touches.answer | apply Touches.answerWhen | (dsimp only; first | apply Touches.answer | apply Touches.answerWhen)
  try dsimp only
  repeat' first
    | with_reducible refine Touches.bind ?_ fun _ => ?_
    | with_reducible refine Touches.ite ?_ ?_
    | with_reducible exact Touches.pure _
    | with_reducible exact Touches.rd
    | (with_reducible apply pullInFailed_touches); rfl
    | with_reducible split
    | with_reducible dsimp only

theorem execLaserTripClear_touches (m) (k) (s : State) : ∃ u, execLaserTripClear m k s = .next u ∧ Same 262144 s u := by
  unfold execLaserTripClear
  first | apply Touches.answer | apply Touches.answerWhen | (dsimp only; first | apply Touches.answer | apply Touches.answerWhen)
  try dsimp only
  repeat' first
    | with_reducible refine Touches.bind ?_ fun _ => ?_
    | with_reducible refine Touches.ite ?_ ?_
    | with_reducible exact Touches.pure _
    | with_reducible exact Touches.rd
    | (with_reducible apply Touches.setF) <;> (first | with_reducible exact F.BAY_OPT_STAT_LASER_TRIP_window _ | rfl)
    | with_reducible split
    | with_reducible dsimp only

theorem actuatorFault_touches (k) (a) {L : Nat} (h : Nat.lor 262441605870883398 L = L) : Touches L (actuatorFault k a) := by
  refine Touches.mono (L := 262441605870883398) ?_ h
  unfold actuatorFault
  try dsimp only
  repeat' first
    | with_reducible refine Touches.bind ?_ fun _ => ?_
    | with_reducible refine Touches.ite ?_ ?_
    | with_reducible exact Touches.pure _
    | with_reducible exact Touches.rd
    | (with_reducible apply retract_touches); rfl
    | (with_reducible apply setBay_touches); rfl
    | (with_reducible apply disableSlot_touches); rfl
    | (with_reducible apply degrade_touches); rfl
    | with_reducible refine Touches.forAll fun _ => ?_
    | (with_reducible apply Touches.emitM (M := 70368744177664)) <;> rfl
    | with_reducible split
    | with_reducible dsimp only

theorem execActSenseSample_touches (k) (a) (sensed) (s : State) : ∃ u, execActSenseSample k a sensed s = .next u ∧ Same 262441605870883398 s u := by
  unfold execActSenseSample
  first | apply Touches.answer | apply Touches.answerWhen | (dsimp only; first | apply Touches.answer | apply Touches.answerWhen)
  try dsimp only
  repeat' first
    | with_reducible refine Touches.bind ?_ fun _ => ?_
    | with_reducible refine Touches.ite ?_ ?_
    | with_reducible exact Touches.pure _
    | with_reducible exact Touches.rd
    | (with_reducible apply Touches.setF) <;> (first | with_reducible exact F.BAY_ACT_SENSE_LOW_window _ _ | with_reducible exact F.BAY_ACT_SENSE_HIGH_window _ _ | rfl)
    | (with_reducible apply Touches.setI) <;> (first | with_reducible exact F.BAY_ACT_SENSE_CODE_window _ _ | rfl)
    | (with_reducible apply raiseOpu_touches); rfl
    | (with_reducible apply actuatorFault_touches); rfl
    | (with_reducible apply Touches.emitM (M := 70368744177664)) <;> rfl
    | with_reducible split
    | with_reducible dsimp only

theorem motorRefuse_touches (k) (r) {L : Nat} (h : Nat.lor 144116287657739334 L = L) : Touches L (motorRefuse k r) := by
  refine Touches.mono (L := 144116287657739334) ?_ h
  unfold motorRefuse
  try dsimp only
  repeat' first
    | with_reducible refine Touches.bind ?_ fun _ => ?_
    | with_reducible refine Touches.ite ?_ ?_
    | with_reducible exact Touches.pure _
    | with_reducible exact Touches.rd
    | (with_reducible apply setMotorResult_touches); rfl
    | (with_reducible apply raiseMotor_touches); rfl
    | with_reducible split
    | with_reducible dsimp only

theorem encoderFault_touches (k) {L : Nat} (h : Nat.lor 225779215276119110 L = L) : Touches L (encoderFault k) := by
  refine Touches.mono (L := 225779215276119110) ?_ h
  unfold encoderFault
  try dsimp only
  repeat' first
    | with_reducible refine Touches.bind ?_ fun _ => ?_
    | with_reducible refine Touches.ite ?_ ?_
    | with_reducible exact Touches.pure _
    | with_reducible exact Touches.rd
    | (with_reducible apply Touches.setF) <;> (first | with_reducible exact F.MOT_STAT_ENC_FAULT_window _ | rfl)
    | (with_reducible apply setMotorResult_touches); rfl
    | (with_reducible apply setMotor_touches); rfl
    | (with_reducible apply gatesOff_touches); rfl
    | (with_reducible apply raiseMotor_touches); rfl
    | (with_reducible apply setBay_touches); rfl
    | (with_reducible apply Touches.emitM (M := 562949953421312)) <;> rfl
    | with_reducible split
    | with_reducible dsimp only

theorem latchMotor_touches (k) (f) (sub) {L : Nat} (hf : f.window = .motRegs) (h : Nat.lor 225779215276119110 L = L) : Touches L (latchMotor k f sub) := by
  refine Touches.mono (L := 225779215276119110) ?_ h
  unfold latchMotor
  try dsimp only
  repeat' first
    | with_reducible refine Touches.bind ?_ fun _ => ?_
    | with_reducible refine Touches.ite ?_ ?_
    | with_reducible exact Touches.pure _
    | with_reducible exact Touches.rd
    | (with_reducible apply Touches.setF) <;> (first | with_reducible exact hf | rfl)
    | (with_reducible apply abortMotor_touches); rfl
    | (with_reducible apply setMotor_touches); rfl
    | (with_reducible apply raiseMotor_touches); rfl
    | (with_reducible apply setBay_touches); rfl
    | with_reducible split
    | with_reducible dsimp only

theorem beginRamp_touches (k) (w) {L : Nat} (h : Nat.lor 562949953422848 L = L) : Touches L (beginRamp k w) := by
  refine Touches.mono (L := 562949953422848) ?_ h
  unfold beginRamp
  try dsimp only
  repeat' first
    | with_reducible refine Touches.bind ?_ fun _ => ?_
    | with_reducible refine Touches.ite ?_ ?_
    | with_reducible exact Touches.pure _
    | with_reducible exact Touches.rd
    | (with_reducible apply Touches.setF) <;> (first | with_reducible exact F.MOT_ANGLE_ENC_window _ | with_reducible exact F.MOT_ANGLE_OBS_window _ | with_reducible exact sectionFld_window _ _ _ _ | rfl)
    | (with_reducible apply setRef_touches); rfl
    | (with_reducible apply setMotor_touches); rfl
    | with_reducible refine Touches.forAll fun _ => ?_
    | (with_reducible apply Touches.emitM (M := 562949953421312)) <;> rfl
    | with_reducible split
    | with_reducible dsimp only

theorem beginHoldZero_touches (k) {L : Nat} (h : Nat.lor 562949953422336 L = L) : Touches L (beginHoldZero k) := by
  refine Touches.mono (L := 562949953422336) ?_ h
  unfold beginHoldZero
  try dsimp only
  repeat' first
    | with_reducible refine Touches.bind ?_ fun _ => ?_
    | with_reducible refine Touches.ite ?_ ?_
    | with_reducible exact Touches.pure _
    | with_reducible exact Touches.rd
    | (with_reducible apply setMotor_touches); rfl
    | (with_reducible apply Touches.emitM (M := 562949953421312)) <;> rfl
    | with_reducible split
    | with_reducible dsimp only

theorem beginCheck_touches (k) (starting) {L : Nat} (h : Nat.lor 562949953422336 L = L) : Touches L (beginCheck k starting) := by
  refine Touches.mono (L := 562949953422336) ?_ h
  unfold beginCheck
  try dsimp only
  repeat' first
    | with_reducible refine Touches.bind ?_ fun _ => ?_
    | with_reducible refine Touches.ite ?_ ?_
    | with_reducible exact Touches.pure _
    | with_reducible exact Touches.rd
    | (with_reducible apply setMotor_touches); rfl
    | (with_reducible apply Touches.emitM (M := 562949953421312)) <;> rfl
    | with_reducible split
    | with_reducible dsimp only

theorem startFromRest_touches (k) {L : Nat} (h : Nat.lor 562949953422848 L = L) : Touches L (startFromRest k) := by
  refine Touches.mono (L := 562949953422848) ?_ h
  unfold startFromRest
  try dsimp only
  repeat' first
    | with_reducible refine Touches.bind ?_ fun _ => ?_
    | with_reducible refine Touches.ite ?_ ?_
    | with_reducible exact Touches.pure _
    | with_reducible exact Touches.rd
    | (with_reducible apply beginCheck_touches); rfl
    | (with_reducible apply beginRamp_touches); rfl
    | (with_reducible apply beginHoldZero_touches); rfl
    | with_reducible split
    | with_reducible dsimp only

theorem stopDone_touches (k) {L : Nat} (h : Nat.lor 562949953422336 L = L) : Touches L (stopDone k) := by
  refine Touches.mono (L := 562949953422336) ?_ h
  unfold stopDone
  try dsimp only
  repeat' first
    | with_reducible refine Touches.bind ?_ fun _ => ?_
    | with_reducible refine Touches.ite ?_ ?_
    | with_reducible exact Touches.pure _
    | with_reducible exact Touches.rd
    | (with_reducible apply gatesOff_touches); rfl
    | (with_reducible apply setMotorResult_touches); rfl
    | with_reducible split
    | with_reducible dsimp only

theorem beginCatch_touches (k) {L : Nat} (h : Nat.lor 72620543991415808 L = L) : Touches L (beginCatch k) := by
  refine Touches.mono (L := 72620543991415808) ?_ h
  unfold beginCatch
  try dsimp only
  repeat' first
    | with_reducible refine Touches.bind ?_ fun _ => ?_
    | with_reducible refine Touches.ite ?_ ?_
    | with_reducible exact Touches.pure _
    | with_reducible exact Touches.rd
    | (with_reducible apply abortCal_touches); rfl
    | (with_reducible apply setMotor_touches); rfl
    | (with_reducible apply Touches.emitM (M := 562949953421312)) <;> rfl
    | with_reducible split
    | with_reducible dsimp only

theorem motorTarget_touches (k) (target) {L : Nat} (h : Nat.lor 216736831649154118 L = L) : Touches L (motorTarget k target) := by
  refine Touches.mono (L := 216736831649154118) ?_ h
  unfold motorTarget
  try dsimp only
  repeat' first
    | with_reducible refine Touches.bind ?_ fun _ => ?_
    | with_reducible refine Touches.ite ?_ ?_
    | with_reducible exact Touches.pure _
    | with_reducible exact Touches.rd
    | (with_reducible apply motorRefuse_touches); rfl
    | (with_reducible apply setMotorResult_touches); rfl
    | (with_reducible apply beginCatch_touches); rfl
    | (with_reducible apply setMotor_touches); rfl
    | (with_reducible apply Touches.emitM (M := 562949953421312)) <;> rfl
    | with_reducible split
    | with_reducible dsimp only

theorem setSpeed_touches (b) (cls) {L : Nat} (h : Nat.lor 144116287657885766 L = L) : Touches L (setSpeed b cls) := by
  refine Touches.mono (L := 144116287657885766) ?_ h
  unfold setSpeed
  try dsimp only
  repeat' first
    | with_reducible refine Touches.bind ?_ fun _ => ?_
    | with_reducible refine Touches.ite ?_ ?_
    | with_reducible exact Touches.pure _
    | with_reducible exact Touches.rd
    | (with_reducible apply Touches.setF) <;> (first | with_reducible exact F.BAY_STAT_SPEED_window _ | with_reducible exact F.RCH_LANE_FREQ_FREQ_window _ | rfl)
    | (with_reducible apply raiseBay_touches); rfl
    | with_reducible refine Touches.forAll fun _ => ?_
    | with_reducible split
    | with_reducible dsimp only

theorem runMotor_touches (k) (cls) {L : Nat} (h : Nat.lor 263022148010368582 L = L) : Touches L (runMotor k cls) := by
  refine Touches.mono (L := 263022148010368582) ?_ h
  unfold runMotor
  try dsimp only
  repeat' first
    | with_reducible refine Touches.bind ?_ fun _ => ?_
    | with_reducible refine Touches.ite ?_ ?_
    | with_reducible exact Touches.pure _
    | with_reducible exact Touches.rd
    | (with_reducible apply Touches.setF) <;> (first | with_reducible exact F.MOT_CMD_CLASS_window _ | rfl)
    | (with_reducible apply motorRefuse_touches); rfl
    | (with_reducible apply motorTarget_touches); rfl
    | (with_reducible apply setSpeed_touches); rfl
    | (with_reducible apply settleBay_touches); rfl
    | with_reducible split
    | with_reducible dsimp only

theorem moveMotor_touches (k) (target) {L : Nat} (h : Nat.lor 216736831649154118 L = L) : Touches L (moveMotor k target) := by
  refine Touches.mono (L := 216736831649154118) ?_ h
  unfold moveMotor
  try dsimp only
  repeat' first
    | with_reducible refine Touches.bind ?_ fun _ => ?_
    | with_reducible refine Touches.ite ?_ ?_
    | with_reducible exact Touches.pure _
    | with_reducible exact Touches.rd
    | (with_reducible apply Touches.setI) <;> (first | with_reducible exact F.MOT_CMD_TARGET_window _ | rfl)
    | (with_reducible apply motorRefuse_touches); rfl
    | (with_reducible apply motorTarget_touches); rfl
    | (with_reducible apply Touches.emitM (M := 562949953421312)) <;> rfl
    | with_reducible split
    | with_reducible dsimp only

theorem stopCommand_touches (k) {L : Nat} (h : Nat.lor 216736831649154118 L = L) : Touches L (stopCommand k) := by
  refine Touches.mono (L := 216736831649154118) ?_ h
  unfold stopCommand
  try dsimp only
  repeat' first
    | with_reducible refine Touches.bind ?_ fun _ => ?_
    | with_reducible refine Touches.ite ?_ ?_
    | with_reducible exact Touches.pure _
    | with_reducible exact Touches.rd
    | (with_reducible apply motorRefuse_touches); rfl
    | (with_reducible apply setMotorResult_touches); rfl
    | (with_reducible apply stopMotor_touches); rfl
    | with_reducible split
    | with_reducible dsimp only

theorem coastCommand_touches (k) {L : Nat} (h : Nat.lor 144679237611160646 L = L) : Touches L (coastCommand k) := by
  refine Touches.mono (L := 144679237611160646) ?_ h
  unfold coastCommand
  try dsimp only
  repeat' first
    | with_reducible refine Touches.bind ?_ fun _ => ?_
    | with_reducible refine Touches.ite ?_ ?_
    | with_reducible exact Touches.pure _
    | with_reducible exact Touches.rd
    | (with_reducible apply motorRefuse_touches); rfl
    | (with_reducible apply gatesOff_touches); rfl
    | (with_reducible apply setMotorResult_touches); rfl
    | with_reducible split
    | with_reducible dsimp only

theorem checkCommand_touches (k) {L : Nat} (h : Nat.lor 144679237611160646 L = L) : Touches L (checkCommand k) := by
  refine Touches.mono (L := 144679237611160646) ?_ h
  unfold checkCommand
  try dsimp only
  repeat' first
    | with_reducible refine Touches.bind ?_ fun _ => ?_
    | with_reducible refine Touches.ite ?_ ?_
    | with_reducible exact Touches.pure _
    | with_reducible exact Touches.rd
    | (with_reducible apply motorRefuse_touches); rfl
    | (with_reducible apply setMotorResult_touches); rfl
    | (with_reducible apply beginCheck_touches); rfl
    | with_reducible split
    | with_reducible dsimp only

theorem writeMotCmd_touches (k) (cmd) (cls) (target) {L : Nat} (h : Nat.lor 263022148010368582 L = L) : Touches L (writeMotCmd k cmd cls target) := by
  refine Touches.mono (L := 263022148010368582) ?_ h
  unfold writeMotCmd
  try dsimp only
  repeat' first
    | with_reducible refine Touches.bind ?_ fun _ => ?_
    | with_reducible refine Touches.ite ?_ ?_
    | with_reducible exact Touches.pure _
    | with_reducible exact Touches.rd
    | (with_reducible apply runMotor_touches); rfl
    | (with_reducible apply stopCommand_touches); rfl
    | (with_reducible apply coastCommand_touches); rfl
    | (with_reducible apply moveMotor_touches); rfl
    | (with_reducible apply checkCommand_touches); rfl
    | (with_reducible apply motorRefuse_touches); rfl
    | with_reducible split
    | with_reducible dsimp only

theorem execMotRun_touches (k) (cls) (s : State) : ∃ u, execMotRun k cls s = .next u ∧ Same 263022148010368582 s u := by
  unfold execMotRun
  first | apply Touches.answer | apply Touches.answerWhen | (dsimp only; first | apply Touches.answer | apply Touches.answerWhen)
  try dsimp only
  repeat' first
    | with_reducible refine Touches.bind ?_ fun _ => ?_
    | with_reducible refine Touches.ite ?_ ?_
    | with_reducible exact Touches.pure _
    | with_reducible exact Touches.rd
    | (with_reducible apply runMotor_touches); rfl
    | with_reducible split
    | with_reducible dsimp only

theorem execMotStop_touches (k) (s : State) : ∃ u, execMotStop k s = .next u ∧ Same 216736831649154118 s u := by
  unfold execMotStop
  first | apply Touches.answer | apply Touches.answerWhen | (dsimp only; first | apply Touches.answer | apply Touches.answerWhen)
  try dsimp only
  repeat' first
    | with_reducible refine Touches.bind ?_ fun _ => ?_
    | with_reducible refine Touches.ite ?_ ?_
    | with_reducible exact Touches.pure _
    | with_reducible exact Touches.rd
    | (with_reducible apply stopCommand_touches); rfl
    | with_reducible split
    | with_reducible dsimp only

theorem execMotCoast_touches (k) (s : State) : ∃ u, execMotCoast k s = .next u ∧ Same 144679237611160646 s u := by
  unfold execMotCoast
  first | apply Touches.answer | apply Touches.answerWhen | (dsimp only; first | apply Touches.answer | apply Touches.answerWhen)
  try dsimp only
  repeat' first
    | with_reducible refine Touches.bind ?_ fun _ => ?_
    | with_reducible refine Touches.ite ?_ ?_
    | with_reducible exact Touches.pure _
    | with_reducible exact Touches.rd
    | (with_reducible apply coastCommand_touches); rfl
    | with_reducible split
    | with_reducible dsimp only

theorem execMotMove_touches (k) (target) (s : State) : ∃ u, execMotMove k target s = .next u ∧ Same 216736831649154118 s u := by
  unfold execMotMove
  first | apply Touches.answer | apply Touches.answerWhen | (dsimp only; first | apply Touches.answer | apply Touches.answerWhen)
  try dsimp only
  repeat' first
    | with_reducible refine Touches.bind ?_ fun _ => ?_
    | with_reducible refine Touches.ite ?_ ?_
    | with_reducible exact Touches.pure _
    | with_reducible exact Touches.rd
    | (with_reducible apply moveMotor_touches); rfl
    | with_reducible split
    | with_reducible dsimp only

theorem execMotCheck_touches (k) (s : State) : ∃ u, execMotCheck k s = .next u ∧ Same 144679237611160646 s u := by
  unfold execMotCheck
  first | apply Touches.answer | apply Touches.answerWhen | (dsimp only; first | apply Touches.answer | apply Touches.answerWhen)
  try dsimp only
  repeat' first
    | with_reducible refine Touches.bind ?_ fun _ => ?_
    | with_reducible refine Touches.ite ?_ ?_
    | with_reducible exact Touches.pure _
    | with_reducible exact Touches.rd
    | (with_reducible apply checkCommand_touches); rfl
    | with_reducible split
    | with_reducible dsimp only

theorem shuntMeasured_touches (k) (mean) {L : Nat} (h : Nat.lor 72057594037994496 L = L) : Touches L (shuntMeasured k mean) := by
  refine Touches.mono (L := 72057594037994496) ?_ h
  unfold shuntMeasured
  try dsimp only
  repeat' first
    | with_reducible refine Touches.bind ?_ fun _ => ?_
    | with_reducible refine Touches.ite ?_ ?_
    | with_reducible exact Touches.pure _
    | with_reducible exact Touches.rd
    | (with_reducible apply Touches.setF) <;> (first | with_reducible exact F.MOT_SHUNT_OFS_OFS_window _ | rfl)
    | (with_reducible apply endCal_touches); rfl
    | with_reducible split
    | with_reducible dsimp only

theorem writeMotEnable_touches (k) (on) (samples) {L : Nat} (h : Nat.lor 72620543991415808 L = L) : Touches L (writeMotEnable k on samples) := by
  refine Touches.mono (L := 72620543991415808) ?_ h
  unfold writeMotEnable
  try dsimp only
  repeat' first
    | with_reducible refine Touches.bind ?_ fun _ => ?_
    | with_reducible refine Touches.ite ?_ ?_
    | with_reducible exact Touches.pure _
    | with_reducible exact Touches.rd
    | (with_reducible apply Touches.setF) <;> (first | with_reducible exact F.MOT_CTL_ENABLE_window _ | rfl)
    | with_reducible apply Touches.getF
    | with_reducible apply Touches.getI
    | (with_reducible apply shuntMeasured_touches); rfl
    | (with_reducible apply abortMotor_touches); rfl
    | with_reducible split
    | with_reducible dsimp only

theorem execMotEnableWrite_touches (m) (k) (on) (samples) (s : State) : ∃ u, execMotEnableWrite m k on samples s = .next u ∧ Same 72620543991415808 s u := by
  unfold execMotEnableWrite
  first | apply Touches.answer | apply Touches.answerWhen | (dsimp only; first | apply Touches.answer | apply Touches.answerWhen)
  try dsimp only
  repeat' first
    | with_reducible refine Touches.bind ?_ fun _ => ?_
    | with_reducible refine Touches.ite ?_ ?_
    | with_reducible exact Touches.pure _
    | with_reducible exact Touches.rd
    | (with_reducible apply writeMotEnable_touches); rfl
    | with_reducible split
    | with_reducible dsimp only

theorem pwmSamples_touches (k) (x) {L : Nat} (h : Nat.lor 225779215276119110 L = L) : Touches L (pwmSamples k x) := by
  refine Touches.mono (L := 225779215276119110) ?_ h
  unfold pwmSamples
  try dsimp only
  repeat' first
    | with_reducible refine Touches.bind ?_ fun _ => ?_
    | with_reducible refine Touches.ite ?_ ?_
    | with_reducible exact Touches.pure _
    | with_reducible exact Touches.rd
    | (with_reducible apply Touches.setF) <;> (first | with_reducible exact F.MOT_STAT_SKIP_RUN_window _ | rfl)
    | (with_reducible apply raiseMotor_touches); rfl
    | (with_reducible apply latchMotor_touches) <;> (first | with_reducible exact F.MOT_CTL_SETTLE_window _ | with_reducible exact F.MOT_STAT_SKIP_RUN_window _ | with_reducible exact F.MOT_STAT_OPEN_window _ | rfl)
    | (with_reducible apply Touches.emitM (M := 562949953421312)) <;> rfl
    | with_reducible split
    | with_reducible dsimp only

theorem pwmEncoder_touches (k) (x) {L : Nat} (h : Nat.lor 562949953422336 L = L) : Touches L (pwmEncoder k x) := by
  refine Touches.mono (L := 562949953422336) ?_ h
  unfold pwmEncoder
  try dsimp only
  repeat' first
    | with_reducible refine Touches.bind ?_ fun _ => ?_
    | with_reducible refine Touches.ite ?_ ?_
    | with_reducible exact Touches.pure _
    | with_reducible exact Touches.rd
    | (with_reducible apply Touches.setF) <;> (first | with_reducible exact F.MOT_ANGLE_ENC_window _ | rfl)
    | (with_reducible apply Touches.setI) <;> (first | with_reducible exact F.MOT_POS_POS_window _ | with_reducible exact F.MOT_SPEED_RPM_window _ | rfl)
    | (with_reducible apply Touches.addWrap) <;> (first | with_reducible exact F.MOT_REV_CNT_CNT_window _ | rfl)
    | (with_reducible apply Touches.emitM (M := 562949953421312)) <;> rfl
    | with_reducible split
    | with_reducible dsimp only

theorem pwmObserver_touches (k) (x) {L : Nat} (h : Nat.lor 562949953422336 L = L) : Touches L (pwmObserver k x) := by
  refine Touches.mono (L := 562949953422336) ?_ h
  unfold pwmObserver
  try dsimp only
  repeat' first
    | with_reducible refine Touches.bind ?_ fun _ => ?_
    | with_reducible refine Touches.ite ?_ ?_
    | with_reducible exact Touches.pure _
    | with_reducible exact Touches.rd
    | (with_reducible apply Touches.setF) <;> (first | with_reducible exact F.MOT_ANGLE_OBS_window _ | with_reducible exact F.MOT_STAT_LOW_SPEED_window _ | rfl)
    | (with_reducible apply Touches.setI) <;> (first | with_reducible exact F.MOT_OBS_SPEED_RPM_window _ | rfl)
    | (with_reducible apply Touches.emitM (M := 562949953421312)) <;> rfl
    | with_reducible split
    | with_reducible dsimp only

theorem pwmRamp_touches (k) {L : Nat} (h : Nat.lor 562949953422848 L = L) : Touches L (pwmRamp k) := by
  refine Touches.mono (L := 562949953422848) ?_ h
  unfold pwmRamp
  try dsimp only
  repeat' first
    | with_reducible refine Touches.bind ?_ fun _ => ?_
    | with_reducible refine Touches.ite ?_ ?_
    | with_reducible exact Touches.pure _
    | with_reducible exact Touches.rd
    | (with_reducible apply Touches.setI) <;> (first | with_reducible exact F.SRV_SLOT_SP_SP_window _ _ | rfl)
    | (with_reducible apply setRef_touches); rfl
    | (with_reducible apply Touches.emitM (M := 562949953421312)) <;> rfl
    | with_reducible split
    | with_reducible dsimp only

theorem syncLost_touches (k) {L : Nat} (h : Nat.lor 261878655917463110 L = L) : Touches L (syncLost k) := by
  refine Touches.mono (L := 261878655917463110) ?_ h
  unfold syncLost
  try dsimp only
  repeat' first
    | with_reducible refine Touches.bind ?_ fun _ => ?_
    | with_reducible refine Touches.ite ?_ ?_
    | with_reducible exact Touches.pure _
    | with_reducible exact Touches.rd
    | (with_reducible apply Touches.setF) <;> (first | with_reducible exact F.MOT_STAT_SYNC_LOST_window _ | rfl)
    | (with_reducible apply retract_touches); rfl
    | (with_reducible apply setBay_touches); rfl
    | (with_reducible apply raiseMotor_touches); rfl
    | (with_reducible apply encoderFault_touches); rfl
    | (with_reducible apply setMotor_touches); rfl
    | with_reducible refine Touches.forAll fun _ => ?_
    | (with_reducible apply Touches.emitM (M := 562949953421312)) <;> rfl
    | with_reducible split
    | with_reducible dsimp only

theorem pwmPlausible_touches (k) {L : Nat} (h : Nat.lor 261878655917463110 L = L) : Touches L (pwmPlausible k) := by
  refine Touches.mono (L := 261878655917463110) ?_ h
  unfold pwmPlausible
  try dsimp only
  repeat' first
    | with_reducible refine Touches.bind ?_ fun _ => ?_
    | with_reducible refine Touches.ite ?_ ?_
    | with_reducible exact Touches.pure _
    | with_reducible exact Touches.rd
    | (with_reducible apply syncLost_touches); rfl
    | (with_reducible apply Touches.emitM (M := 562949953421312)) <;> rfl
    | with_reducible split
    | with_reducible dsimp only

theorem directionShown_touches (k) (ok) {L : Nat} (h : Nat.lor 225779215276119110 L = L) : Touches L (directionShown k ok) := by
  refine Touches.mono (L := 225779215276119110) ?_ h
  unfold directionShown
  try dsimp only
  repeat' first
    | with_reducible refine Touches.bind ?_ fun _ => ?_
    | with_reducible refine Touches.ite ?_ ?_
    | with_reducible exact Touches.pure _
    | with_reducible exact Touches.rd
    | (with_reducible apply Touches.setF) <;> (first | with_reducible exact F.MOT_WIRING_ENC_INV_window _ | with_reducible exact F.MOT_WIRING_PH_SWAP_window _ | rfl)
    | (with_reducible apply encoderFault_touches); rfl
    | (with_reducible apply stopMotor_touches); rfl
    | (with_reducible apply raiseMotor_touches); rfl
    | (with_reducible apply Touches.emitM (M := 562949953421312)) <;> rfl
    | with_reducible split
    | with_reducible dsimp only

theorem pwmConfirm_touches (k) {L : Nat} (h : Nat.lor 225779215276119110 L = L) : Touches L (pwmConfirm k) := by
  refine Touches.mono (L := 225779215276119110) ?_ h
  unfold pwmConfirm
  try dsimp only
  repeat' first
    | with_reducible refine Touches.bind ?_ fun _ => ?_
    | with_reducible refine Touches.ite ?_ ?_
    | with_reducible exact Touches.pure _
    | with_reducible exact Touches.rd
    | (with_reducible apply directionShown_touches); rfl
    | (with_reducible apply Touches.emitM (M := 562949953421312)) <;> rfl
    | with_reducible split
    | with_reducible dsimp only

theorem moveDone_touches (k) {L : Nat} (h : Nat.lor 225779215276119110 L = L) : Touches L (moveDone k) := by
  refine Touches.mono (L := 225779215276119110) ?_ h
  unfold moveDone
  try dsimp only
  repeat' first
    | with_reducible refine Touches.bind ?_ fun _ => ?_
    | with_reducible refine Touches.ite ?_ ?_
    | with_reducible exact Touches.pure _
    | with_reducible exact Touches.rd
    | (with_reducible apply gatesOff_touches); rfl
    | (with_reducible apply setMotorResult_touches); rfl
    | (with_reducible apply directionShown_touches); rfl
    | with_reducible split
    | with_reducible dsimp only

theorem stopAnswered_touches (k) {L : Nat} (h : Nat.lor 1024 L = L) : Touches L (stopAnswered k) := by
  refine Touches.mono (L := 1024) ?_ h
  unfold stopAnswered
  try dsimp only
  repeat' first
    | with_reducible refine Touches.bind ?_ fun _ => ?_
    | with_reducible refine Touches.ite ?_ ?_
    | with_reducible exact Touches.pure _
    | with_reducible exact Touches.rd
    | (with_reducible apply setMotorResult_touches); rfl
    | with_reducible split
    | with_reducible dsimp only

theorem pwmCheck_touches (k) (x) {L : Nat} (h : Nat.lor 216736831649154118 L = L) : Touches L (pwmCheck k x) := by
  refine Touches.mono (L := 216736831649154118) ?_ h
  unfold pwmCheck
  try dsimp only
  repeat' first
    | with_reducible refine Touches.bind ?_ fun _ => ?_
    | with_reducible refine Touches.ite ?_ ?_
    | with_reducible exact Touches.pure _
    | with_reducible exact Touches.rd
    | (with_reducible apply Touches.setF) <;> (first | with_reducible exact F.MOT_WIRING_SHUNT_INV_window _ | rfl)
    | (with_reducible apply raiseMotor_touches); rfl
    | (with_reducible apply shuntMeasured_touches); rfl
    | (with_reducible apply Touches.emitM (M := 562949953421312)) <;> rfl
    | with_reducible split
    | with_reducible dsimp only

theorem pwmState_touches (k) {L : Nat} (h : Nat.lor 225796807462164038 L = L) : Touches L (pwmState k) := by
  refine Touches.mono (L := 225796807462164038) ?_ h
  unfold pwmState
  try dsimp only
  repeat' first
    | with_reducible refine Touches.bind ?_ fun _ => ?_
    | with_reducible refine Touches.ite ?_ ?_
    | with_reducible exact Touches.pure _
    | with_reducible exact Touches.rd
    | (with_reducible apply pwmRamp_touches); rfl
    | (with_reducible apply beginHoldZero_touches); rfl
    | (with_reducible apply stopDone_touches); rfl
    | (with_reducible apply moveDone_touches); rfl
    | (with_reducible apply setMotor_touches); rfl
    | (with_reducible apply beginRamp_touches); rfl
    | (with_reducible apply gatesOff_touches); rfl
    | (with_reducible apply stopAnswered_touches); rfl
    | (with_reducible apply finishPark_touches); rfl
    | with_reducible split
    | with_reducible dsimp only

theorem execPwmPeriod_touches (k) (x) (s : State) : ∃ u, execPwmPeriod k x s = .next u ∧ Same 263022148010352198 s u := by
  unfold execPwmPeriod
  first | apply Touches.answer | apply Touches.answerWhen | (dsimp only; first | apply Touches.answer | apply Touches.answerWhen)
  try dsimp only
  repeat' first
    | with_reducible refine Touches.bind ?_ fun _ => ?_
    | with_reducible refine Touches.ite ?_ ?_
    | with_reducible exact Touches.pure _
    | with_reducible exact Touches.rd
    | (with_reducible apply pwmEncoder_touches); rfl
    | (with_reducible apply pwmSamples_touches); rfl
    | (with_reducible apply pwmObserver_touches); rfl
    | (with_reducible apply pwmPlausible_touches); rfl
    | (with_reducible apply pwmConfirm_touches); rfl
    | (with_reducible apply pwmCheck_touches); rfl
    | (with_reducible apply pwmState_touches); rfl
    | (with_reducible apply settleBay_touches); rfl
    | with_reducible split
    | with_reducible dsimp only

theorem execMotPhaseShort_touches (k) (s : State) : ∃ u, execMotPhaseShort k s = .next u ∧ Same 225779215276119110 s u := by
  unfold execMotPhaseShort
  first | apply Touches.answer | apply Touches.answerWhen | (dsimp only; first | apply Touches.answer | apply Touches.answerWhen)
  try dsimp only
  repeat' first
    | with_reducible refine Touches.bind ?_ fun _ => ?_
    | with_reducible refine Touches.ite ?_ ?_
    | with_reducible exact Touches.pure _
    | with_reducible exact Touches.rd
    | (with_reducible apply latchMotor_touches) <;> (first | with_reducible exact F.MOT_STAT_SHORT_window _ | rfl)
    | with_reducible split
    | with_reducible dsimp only

theorem execCatchWindowEnd_touches (k) (s : State) : ∃ u, execCatchWindowEnd k s = .next u ∧ Same 225779215276119622 s u := by
  unfold execCatchWindowEnd
  first | apply Touches.answer | apply Touches.answerWhen | (dsimp only; first | apply Touches.answer | apply Touches.answerWhen)
  try dsimp only
  repeat' first
    | with_reducible refine Touches.bind ?_ fun _ => ?_
    | with_reducible refine Touches.ite ?_ ?_
    | with_reducible exact Touches.pure _
    | with_reducible exact Touches.rd
    | (with_reducible apply encoderFault_touches); rfl
    | (with_reducible apply stopDone_touches); rfl
    | (with_reducible apply startFromRest_touches); rfl
    | (with_reducible apply beginRamp_touches); rfl
    | (with_reducible apply beginHoldZero_touches); rfl
    | (with_reducible apply setRef_touches); rfl
    | (with_reducible apply setMotor_touches); rfl
    | (with_reducible apply Touches.emitM (M := 562949953421312)) <;> rfl
    | with_reducible split
    | with_reducible dsimp only

theorem execHoldZeroEnd_touches (k) (s : State) : ∃ u, execHoldZeroEnd k s = .next u ∧ Same 562949953422848 s u := by
  unfold execHoldZeroEnd
  first | apply Touches.answer | apply Touches.answerWhen | (dsimp only; first | apply Touches.answer | apply Touches.answerWhen)
  try dsimp only
  repeat' first
    | with_reducible refine Touches.bind ?_ fun _ => ?_
    | with_reducible refine Touches.ite ?_ ?_
    | with_reducible exact Touches.pure _
    | with_reducible exact Touches.rd
    | (with_reducible apply Touches.setF) <;> (first | with_reducible exact F.MOT_ANGLE_ENC_window _ | rfl)
    | (with_reducible apply stopDone_touches); rfl
    | (with_reducible apply startFromRest_touches); rfl
    | (with_reducible apply Touches.emitM (M := 562949953421312)) <;> rfl
    | with_reducible split
    | with_reducible dsimp only

theorem execReverseBrakeTimeout_touches (k) (s : State) : ∃ u, execReverseBrakeTimeout k s = .next u ∧ Same 144679237611160646 s u := by
  unfold execReverseBrakeTimeout
  first | apply Touches.answer | apply Touches.answerWhen | (dsimp only; first | apply Touches.answer | apply Touches.answerWhen)
  try dsimp only
  repeat' first
    | with_reducible refine Touches.bind ?_ fun _ => ?_
    | with_reducible refine Touches.ite ?_ ?_
    | with_reducible exact Touches.pure _
    | with_reducible exact Touches.rd
    | (with_reducible apply Touches.setF) <;> (first | with_reducible exact F.MOT_STAT_REVERSE_NOT_STOPPED_window _ | rfl)
    | (with_reducible apply gatesOff_touches); rfl
    | (with_reducible apply setMotorResult_touches); rfl
    | (with_reducible apply raiseMotor_touches); rfl
    | (with_reducible apply Touches.emitM (M := 562949953421312)) <;> rfl
    | with_reducible split
    | with_reducible dsimp only

theorem recordIndex_touches (k) (angle) {L : Nat} (h : Nat.lor 562949953422336 L = L) : Touches L (recordIndex k angle) := by
  refine Touches.mono (L := 562949953422336) ?_ h
  unfold recordIndex
  try dsimp only
  repeat' first
    | with_reducible refine Touches.bind ?_ fun _ => ?_
    | with_reducible refine Touches.ite ?_ ?_
    | with_reducible exact Touches.pure _
    | with_reducible exact Touches.rd
    | (with_reducible apply Touches.setF) <;> (first | with_reducible exact F.MOT_WIRING_INDEX_OFS_window _ | with_reducible exact F.MOT_WIRING_OFS_VALID_window _ | rfl)
    | (with_reducible apply Touches.emitM (M := 562949953421312)) <;> rfl
    | with_reducible split
    | with_reducible dsimp only

theorem checkDone_touches (k) {L : Nat} (h : Nat.lor 225779215276119622 L = L) : Touches L (checkDone k) := by
  refine Touches.mono (L := 225779215276119622) ?_ h
  unfold checkDone
  try dsimp only
  repeat' first
    | with_reducible refine Touches.bind ?_ fun _ => ?_
    | with_reducible refine Touches.ite ?_ ?_
    | with_reducible exact Touches.pure _
    | with_reducible exact Touches.rd
    | (with_reducible apply Touches.setF) <;> (first | with_reducible exact F.MOT_WIRING_ENC_INV_window _ | with_reducible exact F.MOT_WIRING_CHECKED_window _ | rfl)
    | (with_reducible apply encoderFault_touches); rfl
    | (with_reducible apply raiseMotor_touches); rfl
    | (with_reducible apply startFromRest_touches); rfl
    | (with_reducible apply gatesOff_touches); rfl
    | (with_reducible apply setMotorResult_touches); rfl
    | (with_reducible apply Touches.emitM (M := 562949953421312)) <;> rfl
    | with_reducible split
    | with_reducible dsimp only

theorem execWiringStepEnd_touches (k) (x) (s : State) : ∃ u, execWiringStepEnd k x s = .next u ∧ Same 225779215276119622 s u := by
  unfold execWiringStepEnd
  first | apply Touches.answer | apply Touches.answerWhen | (dsimp only; first | apply Touches.answer | apply Touches.answerWhen)
  try dsimp only
  repeat' first
    | with_reducible refine Touches.bind ?_ fun _ => ?_
    | with_reducible refine Touches.ite ?_ ?_
    | with_reducible exact Touches.pure _
    | with_reducible exact Touches.rd
    | (with_reducible apply recordIndex_touches); rfl
    | (with_reducible apply latchMotor_touches) <;> (first | with_reducible exact F.MOT_STAT_OPEN_window _ | rfl)
    | (with_reducible apply checkDone_touches); rfl
    | (with_reducible apply Touches.emitM (M := 562949953421312)) <;> rfl
    | with_reducible split
    | with_reducible dsimp only

theorem resyncDone_touches (k) {L : Nat} (h : Nat.lor 72620543991416320 L = L) : Touches L (resyncDone k) := by
  refine Touches.mono (L := 72620543991416320) ?_ h
  unfold resyncDone
  try dsimp only
  repeat' first
    | with_reducible refine Touches.bind ?_ fun _ => ?_
    | with_reducible refine Touches.ite ?_ ?_
    | with_reducible exact Touches.pure _
    | with_reducible exact Touches.rd
    | (with_reducible apply beginRamp_touches); rfl
    | (with_reducible apply stopMotor_touches); rfl
    | (with_reducible apply Touches.emitM (M := 562949953421312)) <;> rfl
    | with_reducible split
    | with_reducible dsimp only

theorem execEncoderIndex_touches (k) (s : State) : ∃ u, execEncoderIndex k s = .next u ∧ Same 225779215276119622 s u := by
  unfold execEncoderIndex
  first | apply Touches.answer | apply Touches.answerWhen | (dsimp only; first | apply Touches.answer | apply Touches.answerWhen)
  try dsimp only
  repeat' first
    | with_reducible refine Touches.bind ?_ fun _ => ?_
    | with_reducible refine Touches.ite ?_ ?_
    | with_reducible exact Touches.pure _
    | with_reducible exact Touches.rd
    | (with_reducible apply Touches.setF) <;> (first | with_reducible exact F.MOT_ANGLE_ENC_window _ | with_reducible exact F.MOT_WIRING_INDEX_OFS_window _ | rfl)
    | (with_reducible apply Touches.setI) <;> (first | with_reducible exact F.MOT_POS_POS_window _ | rfl)
    | (with_reducible apply raiseMotor_touches); rfl
    | (with_reducible apply recordIndex_touches); rfl
    | (with_reducible apply resyncDone_touches); rfl
    | (with_reducible apply encoderFault_touches); rfl
    | (with_reducible apply Touches.emitM (M := 562949953421312)) <;> rfl
    | with_reducible split
    | with_reducible dsimp only

theorem execIndexMissing_touches (k) (s : State) : ∃ u, execIndexMissing k s = .next u ∧ Same 144116287657739334 s u := by
  unfold execIndexMissing
  first | apply Touches.answer | apply Touches.answerWhen | (dsimp only; first | apply Touches.answer | apply Touches.answerWhen)
  try dsimp only
  repeat' first
    | with_reducible refine Touches.bind ?_ fun _ => ?_
    | with_reducible refine Touches.ite ?_ ?_
    | with_reducible exact Touches.pure _
    | with_reducible exact Touches.rd
    | (with_reducible apply Touches.setF) <;> (first | with_reducible exact F.MOT_STAT_NO_INDEX_window _ | rfl)
    | (with_reducible apply raiseMotor_touches); rfl
    | with_reducible split
    | with_reducible dsimp only

theorem execResyncTimeout_touches (k) (s : State) : ∃ u, execResyncTimeout k s = .next u ∧ Same 225779215276119110 s u := by
  unfold execResyncTimeout
  first | apply Touches.answer | apply Touches.answerWhen | (dsimp only; first | apply Touches.answer | apply Touches.answerWhen)
  try dsimp only
  repeat' first
    | with_reducible refine Touches.bind ?_ fun _ => ?_
    | with_reducible refine Touches.ite ?_ ?_
    | with_reducible exact Touches.pure _
    | with_reducible exact Touches.rd
    | (with_reducible apply encoderFault_touches); rfl
    | with_reducible split
    | with_reducible dsimp only

theorem encoderSample_touches (b) (speed) {L : Nat} (h : Nat.lor 703687441777664 L = L) : Touches L (encoderSample b speed) := by
  refine Touches.mono (L := 703687441777664) ?_ h
  unfold encoderSample
  try dsimp only
  repeat' first
    | with_reducible refine Touches.bind ?_ fun _ => ?_
    | with_reducible refine Touches.ite ?_ ?_
    | with_reducible exact Touches.pure _
    | with_reducible exact Touches.rd
    | (with_reducible apply motorSample_touches); rfl
    | with_reducible split
    | with_reducible dsimp only

theorem encoderEvent_touches (b) (speed) {L : Nat} (h : Nat.lor 703687441777664 L = L) : Touches L (encoderEvent b speed) := by
  refine Touches.mono (L := 703687441777664) ?_ h
  unfold encoderEvent
  try dsimp only
  repeat' first
    | with_reducible refine Touches.bind ?_ fun _ => ?_
    | with_reducible refine Touches.ite ?_ ?_
    | with_reducible exact Touches.pure _
    | with_reducible exact Touches.rd
    | (with_reducible apply encoderSample_touches); rfl
    | (with_reducible apply Touches.emitM (M := 562949953421312)) <;> rfl
    | with_reducible split
    | with_reducible dsimp only

theorem execSpindleEncoderEvent_touches (b) (speed) (s : State) : ∃ u, execSpindleEncoderEvent b speed s = .next u ∧ Same 703687441777664 s u := by
  unfold execSpindleEncoderEvent
  first | apply Touches.answer | apply Touches.answerWhen | (dsimp only; first | apply Touches.answer | apply Touches.answerWhen)
  try dsimp only
  repeat' first
    | with_reducible refine Touches.bind ?_ fun _ => ?_
    | with_reducible refine Touches.ite ?_ ?_
    | with_reducible exact Touches.pure _
    | with_reducible exact Touches.rd
    | (with_reducible apply encoderEvent_touches); rfl
    | with_reducible split
    | with_reducible dsimp only

theorem execSpindleTimedEvent_touches (b) (speed) (s : State) : ∃ u, execSpindleTimedEvent b speed s = .next u ∧ Same 703687441777664 s u := by
  unfold execSpindleTimedEvent
  first | apply Touches.answer | apply Touches.answerWhen | (dsimp only; first | apply Touches.answer | apply Touches.answerWhen)
  try dsimp only
  repeat' first
    | with_reducible refine Touches.bind ?_ fun _ => ?_
    | with_reducible refine Touches.ite ?_ ?_
    | with_reducible exact Touches.pure _
    | with_reducible exact Touches.rd
    | (with_reducible apply encoderSample_touches); rfl
    | with_reducible split
    | with_reducible dsimp only

theorem stepRefuse_touches (a) (r) {L : Nat} (h : Nat.lor 144116287657740358 L = L) : Touches L (stepRefuse a r) := by
  refine Touches.mono (L := 144116287657740358) ?_ h
  unfold stepRefuse
  try dsimp only
  repeat' first
    | with_reducible refine Touches.bind ?_ fun _ => ?_
    | with_reducible refine Touches.ite ?_ ?_
    | with_reducible exact Touches.pure _
    | with_reducible exact Touches.rd
    | (with_reducible apply Touches.setF) <;> (first | with_reducible exact F.STP_STAT_RESULT_window _ | rfl)
    | (with_reducible apply raiseAxis_touches); rfl
    | with_reducible split
    | with_reducible dsimp only

theorem beginHome_touches (a) {L : Nat} (h : Nat.lor 1125899906844672 L = L) : Touches L (beginHome a) := by
  refine Touches.mono (L := 1125899906844672) ?_ h
  unfold beginHome
  try dsimp only
  repeat' first
    | with_reducible refine Touches.bind ?_ fun _ => ?_
    | with_reducible refine Touches.ite ?_ ?_
    | with_reducible exact Touches.pure _
    | with_reducible exact Touches.rd
    | (with_reducible apply Touches.setF) <;> (first | with_reducible exact F.STP_STAT_STATE_window _ | rfl)
    | (with_reducible apply setDirection_touches); rfl
    | (with_reducible apply Touches.emitM (M := 1125899906842624)) <;> rfl
    | with_reducible split
    | with_reducible dsimp only

theorem seekTo_touches (a) (target) {L : Nat} (h : Nat.lor 1125899906842624 L = L) : Touches L (seekTo a target) := by
  refine Touches.mono (L := 1125899906842624) ?_ h
  unfold seekTo
  try dsimp only
  repeat' first
    | with_reducible refine Touches.bind ?_ fun _ => ?_
    | with_reducible refine Touches.ite ?_ ?_
    | with_reducible exact Touches.pure _
    | with_reducible exact Touches.rd
    | (with_reducible apply Touches.emitM (M := 1125899906842624)) <;> rfl
    | with_reducible split
    | with_reducible dsimp only

theorem moveAxis_touches (a) (target) (blend) {L : Nat} (h : Nat.lor 145242187564582982 L = L) : Touches L (moveAxis a target blend) := by
  refine Touches.mono (L := 145242187564582982) ?_ h
  unfold moveAxis
  try dsimp only
  repeat' first
    | with_reducible refine Touches.bind ?_ fun _ => ?_
    | with_reducible refine Touches.ite ?_ ?_
    | with_reducible exact Touches.pure _
    | with_reducible exact Touches.rd
    | (with_reducible apply Touches.setF) <;> (first | with_reducible exact F.STP_CMD_BLEND_window _ | with_reducible exact F.STP_STAT_RESULT_window _ | rfl)
    | (with_reducible apply Touches.setI) <;> (first | with_reducible exact F.STP_TARGET_POS_window _ | rfl)
    | (with_reducible apply stepRefuse_touches); rfl
    | (with_reducible apply seekTo_touches); rfl
    | (with_reducible apply beginHome_touches); rfl
    | (with_reducible apply appendMove_touches); rfl
    | with_reducible split
    | with_reducible dsimp only

theorem movePair_touches (a) (top) (bottom) (blend) {L : Nat} (h : Nat.lor 145242187564582982 L = L) : Touches L (movePair a top bottom blend) := by
  refine Touches.mono (L := 145242187564582982) ?_ h
  unfold movePair
  try dsimp only
  repeat' first
    | with_reducible refine Touches.bind ?_ fun _ => ?_
    | with_reducible refine Touches.ite ?_ ?_
    | with_reducible exact Touches.pure _
    | with_reducible exact Touches.rd
    | (with_reducible apply Touches.setF) <;> (first | with_reducible exact F.STP_CMD_BLEND_window _ | with_reducible exact F.STP_STAT_RESULT_window _ | rfl)
    | (with_reducible apply Touches.setI) <;> (first | with_reducible exact F.STP_TARGET_POS_window _ | rfl)
    | (with_reducible apply stepRefuse_touches); rfl
    | (with_reducible apply seekTo_touches); rfl
    | (with_reducible apply replan_touches); rfl
    | (with_reducible apply showQueue_touches); rfl
    | (with_reducible apply startPair_touches); rfl
    | (with_reducible apply Touches.emitM (M := 1125899906842624)) <;> rfl
    | with_reducible split
    | with_reducible dsimp only

theorem nextMove_touches (a) (junction) {L : Nat} (h : Nat.lor 226359757415585862 L = L) : Touches L (nextMove a junction) := by
  refine Touches.mono (L := 226359757415585862) ?_ h
  unfold nextMove
  try dsimp only
  repeat' first
    | with_reducible refine Touches.bind ?_ fun _ => ?_
    | with_reducible refine Touches.ite ?_ ?_
    | with_reducible exact Touches.pure _
    | with_reducible exact Touches.rd
    | (with_reducible apply Touches.setF) <;> (first | with_reducible exact F.STP_STAT_STATE_window _ | with_reducible exact F.STP_STAT_RESULT_window _ | rfl)
    | (with_reducible apply showQueue_touches); rfl
    | (with_reducible apply startPair_touches); rfl
    | (with_reducible apply finishPark_touches); rfl
    | (with_reducible apply startMove_touches); rfl
    | (with_reducible apply Touches.emitM (M := 1125899906842624)) <;> rfl
    | with_reducible split
    | with_reducible dsimp only

theorem pauseOne_touches (a) (ended) {L : Nat} (h : Nat.lor 1125899906844672 L = L) : Touches L (pauseOne a ended) := by
  refine Touches.mono (L := 1125899906844672) ?_ h
  unfold pauseOne
  try dsimp only
  repeat' first
    | with_reducible refine Touches.bind ?_ fun _ => ?_
    | with_reducible refine Touches.ite ?_ ?_
    | with_reducible exact Touches.pure _
    | with_reducible exact Touches.rd
    | (with_reducible apply Touches.setF) <;> (first | with_reducible exact F.STP_STAT_STATE_window _ | with_reducible exact F.STP_STAT_RESULT_window _ | rfl)
    | (with_reducible apply Touches.setI) <;> (first | with_reducible exact F.STP_REMAIN_DIST_window _ | rfl)
    | (with_reducible apply stepTo_touches); rfl
    | (with_reducible apply showQueue_touches); rfl
    | (with_reducible apply Touches.emitM (M := 1125899906842624)) <;> rfl
    | with_reducible split
    | with_reducible dsimp only

theorem pauseAxis_touches (a) {L : Nat} (h : Nat.lor 145242187564582982 L = L) : Touches L (pauseAxis a) := by
  refine Touches.mono (L := 145242187564582982) ?_ h
  unfold pauseAxis
  try dsimp only
  repeat' first
    | with_reducible refine Touches.bind ?_ fun _ => ?_
    | with_reducible refine Touches.ite ?_ ?_
    | with_reducible exact Touches.pure _
    | with_reducible exact Touches.rd
    | (with_reducible apply stepRefuse_touches); rfl
    | (with_reducible apply pauseOne_touches); rfl
    | with_reducible split
    | with_reducible dsimp only

theorem resumeAxis_touches (a) {L : Nat} (h : Nat.lor 226359757415585862 L = L) : Touches L (resumeAxis a) := by
  refine Touches.mono (L := 226359757415585862) ?_ h
  unfold resumeAxis
  try dsimp only
  repeat' first
    | with_reducible refine Touches.bind ?_ fun _ => ?_
    | with_reducible refine Touches.ite ?_ ?_
    | with_reducible exact Touches.pure _
    | with_reducible exact Touches.rd
    | (with_reducible apply Touches.setF) <;> (first | with_reducible exact F.STP_STAT_RESULT_window _ | with_reducible exact F.STP_STAT_STATE_window _ | rfl)
    | (with_reducible apply stepRefuse_touches); rfl
    | (with_reducible apply beginHome_touches); rfl
    | (with_reducible apply nextMove_touches); rfl
    | with_reducible split
    | with_reducible dsimp only

theorem stopAxis_touches (a) {L : Nat} (h : Nat.lor 145242187564582982 L = L) : Touches L (stopAxis a) := by
  refine Touches.mono (L := 145242187564582982) ?_ h
  unfold stopAxis
  try dsimp only
  repeat' first
    | with_reducible refine Touches.bind ?_ fun _ => ?_
    | with_reducible refine Touches.ite ?_ ?_
    | with_reducible exact Touches.pure _
    | with_reducible exact Touches.rd
    | (with_reducible apply stepRefuse_touches); rfl
    | (with_reducible apply haltAxis_touches); rfl
    | with_reducible split
    | with_reducible dsimp only

theorem restAxis_touches (a) {L : Nat} (h : Nat.lor 1125899906844672 L = L) : Touches L (restAxis a) := by
  refine Touches.mono (L := 1125899906844672) ?_ h
  unfold restAxis
  try dsimp only
  repeat' first
    | with_reducible refine Touches.bind ?_ fun _ => ?_
    | with_reducible refine Touches.ite ?_ ?_
    | with_reducible exact Touches.pure _
    | with_reducible exact Touches.rd
    | (with_reducible apply Touches.setF) <;> (first | with_reducible exact F.STP_STAT_STATE_window _ | rfl)
    | (with_reducible apply stepTo_touches); rfl
    | (with_reducible apply showQueue_touches); rfl
    | (with_reducible apply Touches.emitM (M := 1125899906842624)) <;> rfl
    | with_reducible split
    | with_reducible dsimp only

theorem homeAxis_touches (a) {L : Nat} (h : Nat.lor 145242187564582982 L = L) : Touches L (homeAxis a) := by
  refine Touches.mono (L := 145242187564582982) ?_ h
  unfold homeAxis
  try dsimp only
  repeat' first
    | with_reducible refine Touches.bind ?_ fun _ => ?_
    | with_reducible refine Touches.ite ?_ ?_
    | with_reducible exact Touches.pure _
    | with_reducible exact Touches.rd
    | (with_reducible apply Touches.setF) <;> (first | with_reducible exact F.STP_STAT_RESULT_window _ | rfl)
    | (with_reducible apply stepRefuse_touches); rfl
    | (with_reducible apply restAxis_touches); rfl
    | (with_reducible apply beginHome_touches); rfl
    | with_reducible split
    | with_reducible dsimp only

theorem writeStpCmd_touches (a) (cmd) (blend) {L : Nat} (h : Nat.lor 226359757415585862 L = L) : Touches L (writeStpCmd a cmd blend) := by
  refine Touches.mono (L := 226359757415585862) ?_ h
  unfold writeStpCmd
  try dsimp only
  repeat' first
    | with_reducible refine Touches.bind ?_ fun _ => ?_
    | with_reducible refine Touches.ite ?_ ?_
    | with_reducible exact Touches.pure _
    | with_reducible exact Touches.rd
    | (with_reducible apply moveAxis_touches); rfl
    | (with_reducible apply movePair_touches); rfl
    | (with_reducible apply pauseAxis_touches); rfl
    | (with_reducible apply resumeAxis_touches); rfl
    | (with_reducible apply stopAxis_touches); rfl
    | (with_reducible apply homeAxis_touches); rfl
    | (with_reducible apply stepRefuse_touches); rfl
    | with_reducible split
    | with_reducible dsimp only

theorem execStpMove_touches (a) (target) (blend) (s : State) : ∃ u, execStpMove a target blend s = .next u ∧ Same 145242187564582982 s u := by
  unfold execStpMove
  first | apply Touches.answer | apply Touches.answerWhen | (dsimp only; first | apply Touches.answer | apply Touches.answerWhen)
  try dsimp only
  repeat' first
    | with_reducible refine Touches.bind ?_ fun _ => ?_
    | with_reducible refine Touches.ite ?_ ?_
    | with_reducible exact Touches.pure _
    | with_reducible exact Touches.rd
    | (with_reducible apply moveAxis_touches); rfl
    | with_reducible split
    | with_reducible dsimp only

theorem execStpMovePair_touches (b) (top) (bottom) (blend) (s : State) : ∃ u, execStpMovePair b top bottom blend s = .next u ∧ Same 145242187564582982 s u := by
  unfold execStpMovePair
  first | apply Touches.answer | apply Touches.answerWhen | (dsimp only; first | apply Touches.answer | apply Touches.answerWhen)
  try dsimp only
  repeat' first
    | with_reducible refine Touches.bind ?_ fun _ => ?_
    | with_reducible refine Touches.ite ?_ ?_
    | with_reducible exact Touches.pure _
    | with_reducible exact Touches.rd
    | (with_reducible apply movePair_touches); rfl
    | with_reducible split
    | with_reducible dsimp only

theorem execStpPause_touches (a) (s : State) : ∃ u, execStpPause a s = .next u ∧ Same 145242187564582982 s u := by
  unfold execStpPause
  first | apply Touches.answer | apply Touches.answerWhen | (dsimp only; first | apply Touches.answer | apply Touches.answerWhen)
  try dsimp only
  repeat' first
    | with_reducible refine Touches.bind ?_ fun _ => ?_
    | with_reducible refine Touches.ite ?_ ?_
    | with_reducible exact Touches.pure _
    | with_reducible exact Touches.rd
    | (with_reducible apply pauseAxis_touches); rfl
    | with_reducible split
    | with_reducible dsimp only

theorem execStpResume_touches (a) (s : State) : ∃ u, execStpResume a s = .next u ∧ Same 226359757415585862 s u := by
  unfold execStpResume
  first | apply Touches.answer | apply Touches.answerWhen | (dsimp only; first | apply Touches.answer | apply Touches.answerWhen)
  try dsimp only
  repeat' first
    | with_reducible refine Touches.bind ?_ fun _ => ?_
    | with_reducible refine Touches.ite ?_ ?_
    | with_reducible exact Touches.pure _
    | with_reducible exact Touches.rd
    | (with_reducible apply resumeAxis_touches); rfl
    | with_reducible split
    | with_reducible dsimp only

theorem execStpStop_touches (a) (s : State) : ∃ u, execStpStop a s = .next u ∧ Same 145242187564582982 s u := by
  unfold execStpStop
  first | apply Touches.answer | apply Touches.answerWhen | (dsimp only; first | apply Touches.answer | apply Touches.answerWhen)
  try dsimp only
  repeat' first
    | with_reducible refine Touches.bind ?_ fun _ => ?_
    | with_reducible refine Touches.ite ?_ ?_
    | with_reducible exact Touches.pure _
    | with_reducible exact Touches.rd
    | (with_reducible apply stopAxis_touches); rfl
    | with_reducible split
    | with_reducible dsimp only

theorem execStpHome_touches (a) (s : State) : ∃ u, execStpHome a s = .next u ∧ Same 145242187564582982 s u := by
  unfold execStpHome
  first | apply Touches.answer | apply Touches.answerWhen | (dsimp only; first | apply Touches.answer | apply Touches.answerWhen)
  try dsimp only
  repeat' first
    | with_reducible refine Touches.bind ?_ fun _ => ?_
    | with_reducible refine Touches.ite ?_ ?_
    | with_reducible exact Touches.pure _
    | with_reducible exact Touches.rd
    | (with_reducible apply homeAxis_touches); rfl
    | with_reducible split
    | with_reducible dsimp only

theorem execStepLimit_touches (a) (s : State) : ∃ u, execStepLimit a s = .next u ∧ Same 144116287657740358 s u := by
  unfold execStepLimit
  first | apply Touches.answer | apply Touches.answerWhen | (dsimp only; first | apply Touches.answer | apply Touches.answerWhen)
  try dsimp only
  repeat' first
    | with_reducible refine Touches.bind ?_ fun _ => ?_
    | with_reducible refine Touches.ite ?_ ?_
    | with_reducible exact Touches.pure _
    | with_reducible exact Touches.rd
    | (with_reducible apply Touches.setF) <;> (first | with_reducible exact F.STP_STAT_LIMIT_window _ | rfl)
    | (with_reducible apply raiseAxis_touches); rfl
    | with_reducible split
    | with_reducible dsimp only

theorem clampMissed_touches (a) (m) (up) {L : Nat} (h : Nat.lor 263022148010352198 L = L) : Touches L (clampMissed a m up) := by
  refine Touches.mono (L := 263022148010352198) ?_ h
  unfold clampMissed
  try dsimp only
  repeat' first
    | with_reducible refine Touches.bind ?_ fun _ => ?_
    | with_reducible refine Touches.ite ?_ ?_
    | with_reducible exact Touches.pure _
    | with_reducible exact Touches.rd
    | (with_reducible apply clearAxis_touches); rfl
    | (with_reducible apply raiseAxis_touches); rfl
    | (with_reducible apply parkToFaulted_touches); rfl
    | (with_reducible apply showQueue_touches); rfl
    | (with_reducible apply beginHome_touches); rfl
    | (with_reducible apply Touches.emitM (M := 1125899906842624)) <;> rfl
    | with_reducible split
    | with_reducible dsimp only

theorem endMove_touches (a) (m) (rest) {L : Nat} (h : Nat.lor 263022148010352198 L = L) : Touches L (endMove a m rest) := by
  refine Touches.mono (L := 263022148010352198) ?_ h
  unfold endMove
  try dsimp only
  repeat' first
    | with_reducible refine Touches.bind ?_ fun _ => ?_
    | with_reducible refine Touches.ite ?_ ?_
    | with_reducible exact Touches.pure _
    | with_reducible exact Touches.rd
    | (with_reducible apply Touches.setI) <;> (first | with_reducible exact F.STP_POS_POS_window _ | rfl)
    | (with_reducible apply stepTo_touches); rfl
    | (with_reducible apply clampMissed_touches); rfl
    | (with_reducible apply nextMove_touches); rfl
    | (with_reducible apply Touches.emitM (M := 1125899906842624)) <;> rfl
    | with_reducible split
    | with_reducible dsimp only

theorem execMoveEnd_touches (a) (s : State) : ∃ u, execMoveEnd a s = .next u ∧ Same 263022148010352198 s u := by
  unfold execMoveEnd
  first | apply Touches.answer | apply Touches.answerWhen | (dsimp only; first | apply Touches.answer | apply Touches.answerWhen)
  try dsimp only
  repeat' first
    | with_reducible refine Touches.bind ?_ fun _ => ?_
    | with_reducible refine Touches.ite ?_ ?_
    | with_reducible exact Touches.pure _
    | with_reducible exact Touches.rd
    | (with_reducible apply Touches.setF) <;> (first | with_reducible exact F.STP_STAT_HOMED_window _ | with_reducible exact F.STP_STAT_STATE_window _ | rfl)
    | (with_reducible apply Touches.setI) <;> (first | with_reducible exact F.STP_POS_POS_window _ | rfl)
    | (with_reducible apply stepTo_touches); rfl
    | (with_reducible apply nextMove_touches); rfl
    | (with_reducible apply endMove_touches); rfl
    | (with_reducible apply Touches.emitM (M := 1125899906842624)) <;> rfl
    | with_reducible split
    | with_reducible dsimp only

theorem execSettleExpiry_touches (a) (s : State) : ∃ u, execSettleExpiry a s = .next u ∧ Same 1125899906844672 s u := by
  unfold execSettleExpiry
  first | apply Touches.answer | apply Touches.answerWhen | (dsimp only; first | apply Touches.answer | apply Touches.answerWhen)
  try dsimp only
  repeat' first
    | with_reducible refine Touches.bind ?_ fun _ => ?_
    | with_reducible refine Touches.ite ?_ ?_
    | with_reducible exact Touches.pure _
    | with_reducible exact Touches.rd
    | (with_reducible apply Touches.setF) <;> (first | with_reducible exact F.STP_STAT_STATE_window _ | rfl)
    | (with_reducible apply Touches.emitM (M := 1125899906842624)) <;> rfl
    | with_reducible split
    | with_reducible dsimp only

theorem execStepDrvFault_touches (a) (s : State) : ∃ u, execStepDrvFault a s = .next u ∧ Same 262441605870885446 s u := by
  unfold execStepDrvFault
  first | apply Touches.answer | apply Touches.answerWhen | (dsimp only; first | apply Touches.answer | apply Touches.answerWhen)
  try dsimp only
  repeat' first
    | with_reducible refine Touches.bind ?_ fun _ => ?_
    | with_reducible refine Touches.ite ?_ ?_
    | with_reducible exact Touches.pure _
    | with_reducible exact Touches.rd
    | (with_reducible apply Touches.setF) <;> (first | with_reducible exact F.STP_STAT_DRV_FAULT_window _ | rfl)
    | (with_reducible apply clearAxis_touches); rfl
    | (with_reducible apply raiseAxis_touches); rfl
    | (with_reducible apply retract_touches); rfl
    | (with_reducible apply setBay_touches); rfl
    | with_reducible refine Touches.forAll fun _ => ?_
    | (with_reducible apply Touches.emitM (M := 1125899906842624)) <;> rfl
    | with_reducible split
    | with_reducible dsimp only

theorem takeSensor_touches (f) (l) {L : Nat} (hf : f.window = .bayRegs) (h : Nat.lor 131072 L = L) : Touches L (takeSensor f l) := by
  refine Touches.mono (L := 131072) ?_ h
  unfold takeSensor
  try dsimp only
  repeat' first
    | with_reducible refine Touches.bind ?_ fun _ => ?_
    | with_reducible refine Touches.ite ?_ ?_
    | with_reducible exact Touches.pure _
    | with_reducible exact Touches.rd
    | (with_reducible apply Touches.setF) <;> (first | with_reducible exact hf | rfl)
    | with_reducible apply Touches.doWhen
    | with_reducible split
    | with_reducible dsimp only

theorem execBaySensorSample_touches (b) (x) (s : State) : ∃ u, execBaySensorSample b x s = .next u ∧ Same 225233857508741190 s u := by
  unfold execBaySensorSample
  first | apply Touches.answer | apply Touches.answerWhen | (dsimp only; first | apply Touches.answer | apply Touches.answerWhen)
  try dsimp only
  repeat' first
    | with_reducible refine Touches.bind ?_ fun _ => ?_
    | with_reducible refine Touches.ite ?_ ?_
    | with_reducible exact Touches.pure _
    | with_reducible exact Touches.rd
    | (with_reducible apply takeSensor_touches) <;> (first | with_reducible exact F.BAY_STAT_DISC_PRESENT_window _ | with_reducible exact F.BAY_STAT_TRAY_CLOSED_window _ | with_reducible exact F.BAY_STAT_CLAMPED_window _ | with_reducible exact F.BAY_STAT_DOOR_CLOSED_window _ | rfl)
    | (with_reducible apply setBay_touches); rfl
    | (with_reducible apply Touches.emitM (M := 17592186044416)) <;> rfl
    | with_reducible split
    | with_reducible dsimp only

theorem raiseRf_touches (i) (inst) {L : Nat} (h : Nat.lor 144116287657738310 L = L) : Touches L (raiseRf i inst) := by
  refine Touches.mono (L := 144116287657738310) ?_ h
  unfold raiseRf
  try dsimp only
  repeat' first
    | with_reducible refine Touches.bind ?_ fun _ => ?_
    | with_reducible refine Touches.ite ?_ ?_
    | with_reducible exact Touches.pure _
    | with_reducible exact Touches.rd
    | (with_reducible apply raise_touches); rfl
    | with_reducible split
    | with_reducible dsimp only

theorem showBound_touches (i) {L : Nat} (h : Nat.lor 4096 L = L) : Touches L (showBound i) := by
  refine Touches.mono (L := 4096) ?_ h
  unfold showBound
  try dsimp only
  repeat' first
    | with_reducible refine Touches.bind ?_ fun _ => ?_
    | with_reducible refine Touches.ite ?_ ?_
    | with_reducible exact Touches.pure _
    | with_reducible exact Touches.rd
    | (with_reducible apply Touches.setF) <;> (first | with_reducible exact F.RCH_IN_STAT_BOUND_window _ | with_reducible exact F.RCH_IN_STAT_LANE_window _ | rfl)
    | with_reducible split
    | with_reducible dsimp only

theorem bindLane_touches (n) (i) {L : Nat} (h : Nat.lor 4503599627390976 L = L) : Touches L (bindLane n i) := by
  refine Touches.mono (L := 4503599627390976) ?_ h
  unfold bindLane
  try dsimp only
  repeat' first
    | with_reducible refine Touches.bind ?_ fun _ => ?_
    | with_reducible refine Touches.ite ?_ ?_
    | with_reducible exact Touches.pure _
    | with_reducible exact Touches.rd
    | (with_reducible apply Touches.setF) <;> (first | with_reducible exact F.RCH_LANE_BIND_INPUT_window _ | with_reducible exact F.RCH_LANE_BIND_ENABLE_window _ | with_reducible exact F.RCH_LANE_FREQ_FREQ_window _ | with_reducible exact F.RCH_LANE_STAT_STATE_window _ | rfl)
    | (with_reducible apply showBound_touches); rfl
    | (with_reducible apply Touches.emitM (M := 4503599627370496)) <;> rfl
    | with_reducible split
    | with_reducible dsimp only

theorem clearLane_touches (n) {L : Nat} (h : Nat.lor 4503599627386880 L = L) : Touches L (clearLane n) := by
  refine Touches.mono (L := 4503599627386880) ?_ h
  unfold clearLane
  try dsimp only
  repeat' first
    | with_reducible refine Touches.bind ?_ fun _ => ?_
    | with_reducible refine Touches.ite ?_ ?_
    | with_reducible exact Touches.pure _
    | with_reducible exact Touches.rd
    | (with_reducible apply Touches.setF) <;> (first | with_reducible exact F.RCH_LANE_FREQ_FREQ_window _ | with_reducible exact F.RCH_LANE_STAT_STATE_window _ | with_reducible exact F.RCH_LANE_STAT_TIMING_LIMIT_window _ | with_reducible exact F.RCH_LANE_STAT_LAST_SCORE_window _ | with_reducible exact F.RCH_LANE_TAPS_EVEN_window _ _ | with_reducible exact F.RCH_LANE_TAPS_ODD_window _ _ | rfl)
    | with_reducible refine Touches.forAll fun _ => ?_
    | (with_reducible apply Touches.emitM (M := 4503599627370496)) <;> rfl
    | with_reducible split
    | with_reducible dsimp only

theorem unbindLane_touches (n) {L : Nat} (h : Nat.lor 20480 L = L) : Touches L (unbindLane n) := by
  refine Touches.mono (L := 20480) ?_ h
  unfold unbindLane
  try dsimp only
  repeat' first
    | with_reducible refine Touches.bind ?_ fun _ => ?_
    | with_reducible refine Touches.ite ?_ ?_
    | with_reducible exact Touches.pure _
    | with_reducible exact Touches.rd
    | (with_reducible apply Touches.setF) <;> (first | with_reducible exact F.RCH_LANE_BIND_ENABLE_window _ | with_reducible exact F.RCH_LANE_STAT_STATE_window _ | rfl)
    | with_reducible apply Touches.getF
    | with_reducible apply Touches.getI
    | (with_reducible apply showBound_touches); rfl
    | with_reducible split
    | with_reducible dsimp only

theorem reducedRead_touches (k) (spot) {L : Nat} (h : Nat.lor 144116287657742406 L = L) : Touches L (reducedRead k spot) := by
  refine Touches.mono (L := 144116287657742406) ?_ h
  unfold reducedRead
  try dsimp only
  repeat' first
    | with_reducible refine Touches.bind ?_ fun _ => ?_
    | with_reducible refine Touches.ite ?_ ?_
    | with_reducible exact Touches.pure _
    | with_reducible exact Touches.rd
    | (with_reducible apply Touches.setF) <;> (first | with_reducible exact F.RCH_JD_STAT_UNBOUND_window _ | with_reducible exact F.RCH_JD_STAT_MODE_window _ | rfl)
    | with_reducible apply Touches.getF
    | with_reducible apply Touches.getI
    | (with_reducible apply raise_touches); rfl
    | with_reducible split
    | with_reducible dsimp only

theorem applyChange_touches (i) (c) {L : Nat} (h : Nat.lor 2251799813689344 L = L) : Touches L (applyChange i c) := by
  refine Touches.mono (L := 2251799813689344) ?_ h
  unfold applyChange
  try dsimp only
  repeat' first
    | with_reducible refine Touches.bind ?_ fun _ => ?_
    | with_reducible refine Touches.ite ?_ ?_
    | with_reducible exact Touches.pure _
    | with_reducible exact Touches.rd
    | (with_reducible apply Touches.setF) <;> (first | with_reducible exact F.RCH_IN_MAP_MAP_window _ | with_reducible exact F.RCH_IN_SUB_FAILED_window _ | with_reducible exact F.RCH_IN_SUB_SHADOW_A_window _ | with_reducible exact F.RCH_IN_SUB_SHADOW_B_window _ | with_reducible exact F.RCH_IN_TRIM_OFFSET_window _ _ | with_reducible exact F.RCH_IN_TRIM_GAIN_window _ _ | with_reducible exact F.RCH_IN_TRIM_SKEW_window _ _ | with_reducible exact F.RCH_IN_CTL_POL_INV_window _ | with_reducible exact F.RCH_IN_GAIN_PGA_window _ | rfl)
    | (with_reducible apply Touches.emitM (M := 2251799813685248)) <;> rfl
    | with_reducible split
    | with_reducible dsimp only

theorem applyHeld_touches (i) {L : Nat} (h : Nat.lor 2251799813689344 L = L) : Touches L (applyHeld i) := by
  refine Touches.mono (L := 2251799813689344) ?_ h
  unfold applyHeld
  try dsimp only
  repeat' first
    | with_reducible refine Touches.bind ?_ fun _ => ?_
    | with_reducible refine Touches.ite ?_ ?_
    | with_reducible exact Touches.pure _
    | with_reducible exact Touches.rd
    | (with_reducible apply applyChange_touches); rfl
    | with_reducible refine Touches.forAll fun _ => ?_
    | (with_reducible apply Touches.emitM (M := 2251799813685248)) <;> rfl
    | with_reducible split
    | with_reducible dsimp only

theorem holdChange_touches (i) (c) {L : Nat} (h : Nat.lor 2251799813689344 L = L) : Touches L (holdChange i c) := by
  refine Touches.mono (L := 2251799813689344) ?_ h
  unfold holdChange
  try dsimp only
  repeat' first
    | with_reducible refine Touches.bind ?_ fun _ => ?_
    | with_reducible refine Touches.ite ?_ ?_
    | with_reducible exact Touches.pure _
    | with_reducible exact Touches.rd
    | (with_reducible apply applyHeld_touches); rfl
    | (with_reducible apply Touches.emitM (M := 2251799813685248)) <;> rfl
    | with_reducible split
    | with_reducible dsimp only

theorem execHeldInputChangeApply_touches (i) (s : State) : ∃ u, execHeldInputChangeApply i s = .next u ∧ Same 2251799813705728 s u := by
  unfold execHeldInputChangeApply
  first | apply Touches.answer | apply Touches.answerWhen | (dsimp only; first | apply Touches.answer | apply Touches.answerWhen)
  try dsimp only
  repeat' first
    | with_reducible refine Touches.bind ?_ fun _ => ?_
    | with_reducible refine Touches.ite ?_ ?_
    | with_reducible exact Touches.pure _
    | with_reducible exact Touches.rd
    | (with_reducible apply Touches.setF) <;> (first | with_reducible exact F.RCH_LANE_STAT_STATE_window _ | rfl)
    | (with_reducible apply applyHeld_touches); rfl
    | with_reducible split
    | with_reducible dsimp only

theorem inputReject_touches (i) {L : Nat} (h : Nat.lor 144116287657742406 L = L) : Touches L (inputReject i) := by
  refine Touches.mono (L := 144116287657742406) ?_ h
  unfold inputReject
  try dsimp only
  repeat' first
    | with_reducible refine Touches.bind ?_ fun _ => ?_
    | with_reducible refine Touches.ite ?_ ?_
    | with_reducible exact Touches.pure _
    | with_reducible exact Touches.rd
    | (with_reducible apply Touches.setF) <;> (first | with_reducible exact F.RCH_IN_STAT_CFG_REJECT_window _ | rfl)
    | (with_reducible apply raiseRf_touches); rfl
    | with_reducible split
    | with_reducible dsimp only

theorem writeInput_touches (i) (reg) (v) {L : Nat} (h : Nat.lor 218425681509421126 L = L) : Touches L (writeInput i reg v) := by
  refine Touches.mono (L := 218425681509421126) ?_ h
  unfold writeInput
  try dsimp only
  repeat' first
    | with_reducible refine Touches.bind ?_ fun _ => ?_
    | with_reducible refine Touches.ite ?_ ?_
    | with_reducible exact Touches.pure _
    | with_reducible exact Touches.rd
    | (with_reducible apply Touches.setF) <;> (first | with_reducible exact F.RCH_IN_CTL_AGC_TARGET_window _ | with_reducible exact F.RCH_IN_CTL_AGC_RATE_window _ | with_reducible exact F.RCH_IN_CTL_ENABLE_window _ | with_reducible exact F.RCH_IN_CTL_AGC_HOLD_window _ | rfl)
    | (with_reducible apply inputReject_touches); rfl
    | (with_reducible apply holdChange_touches); rfl
    | (with_reducible apply abortCal_touches); rfl
    | with_reducible split
    | with_reducible dsimp only

theorem execRchInputConfigWrite_touches (m) (i) (reg) (v) (s : State) : ∃ u, execRchInputConfigWrite m i reg v s = .next u ∧ Same 218425681509421126 s u := by
  unfold execRchInputConfigWrite
  first | apply Touches.answer | apply Touches.answerWhen | (dsimp only; first | apply Touches.answer | apply Touches.answerWhen)
  try dsimp only
  repeat' first
    | with_reducible refine Touches.bind ?_ fun _ => ?_
    | with_reducible refine Touches.ite ?_ ?_
    | with_reducible exact Touches.pure _
    | with_reducible exact Touches.rd
    | (with_reducible apply writeInput_touches); rfl
    | with_reducible split
    | with_reducible dsimp only

theorem laneReject_touches (n) {L : Nat} (h : Nat.lor 144116287657754694 L = L) : Touches L (laneReject n) := by
  refine Touches.mono (L := 144116287657754694) ?_ h
  unfold laneReject
  try dsimp only
  repeat' first
    | with_reducible refine Touches.bind ?_ fun _ => ?_
    | with_reducible refine Touches.ite ?_ ?_
    | with_reducible exact Touches.pure _
    | with_reducible exact Touches.rd
    | (with_reducible apply Touches.setF) <;> (first | with_reducible exact F.RCH_LANE_STAT_CFG_REJECT_window _ | rfl)
    | (with_reducible apply raiseRf_touches); rfl
    | with_reducible split
    | with_reducible dsimp only

theorem writeBind_touches (n) (v) {L : Nat} (h : Nat.lor 148619887285129286 L = L) : Touches L (writeBind n v) := by
  refine Touches.mono (L := 148619887285129286) ?_ h
  unfold writeBind
  try dsimp only
  repeat' first
    | with_reducible refine Touches.bind ?_ fun _ => ?_
    | with_reducible refine Touches.ite ?_ ?_
    | with_reducible exact Touches.pure _
    | with_reducible exact Touches.rd
    | (with_reducible apply Touches.setF) <;> (first | with_reducible exact F.RCH_LANE_BIND_INPUT_window _ | rfl)
    | (with_reducible apply laneReject_touches); rfl
    | (with_reducible apply bindLane_touches); rfl
    | (with_reducible apply unbindLane_touches); rfl
    | with_reducible split
    | with_reducible dsimp only

theorem execLaneBindWrite_touches (m) (n) (v) (s : State) : ∃ u, execLaneBindWrite m n v s = .next u ∧ Same 148619887285129286 s u := by
  unfold execLaneBindWrite
  first | apply Touches.answer | apply Touches.answerWhen | (dsimp only; first | apply Touches.answer | apply Touches.answerWhen)
  try dsimp only
  repeat' first
    | with_reducible refine Touches.bind ?_ fun _ => ?_
    | with_reducible refine Touches.ite ?_ ?_
    | with_reducible exact Touches.pure _
    | with_reducible exact Touches.rd
    | (with_reducible apply writeBind_touches); rfl
    | with_reducible split
    | with_reducible dsimp only

theorem beginLaneFault_touches (n) {L : Nat} (h : Nat.lor 263022148144569927 L = L) : Touches L (beginLaneFault n) := by
  refine Touches.mono (L := 263022148144569927) ?_ h
  unfold beginLaneFault
  try dsimp only
  repeat' first
    | with_reducible refine Touches.bind ?_ fun _ => ?_
    | with_reducible refine Touches.ite ?_ ?_
    | with_reducible exact Touches.pure _
    | with_reducible exact Touches.rd
    | (with_reducible apply raise_touches); rfl
    | (with_reducible apply outsideModel_touches); rfl
    | (with_reducible apply Touches.emitM (M := 67108864)) <;> rfl
    | with_reducible split
    | with_reducible dsimp only

theorem failLane_touches (n) (cause) {L : Nat} (h : Nat.lor 144116287657754694 L = L) : Touches L (failLane n cause) := by
  refine Touches.mono (L := 144116287657754694) ?_ h
  unfold failLane
  try dsimp only
  repeat' first
    | with_reducible refine Touches.bind ?_ fun _ => ?_
    | with_reducible refine Touches.ite ?_ ?_
    | with_reducible exact Touches.pure _
    | with_reducible exact Touches.rd
    | (with_reducible apply Touches.setF) <;> (first | with_reducible exact F.RCH_LANE_STAT_FAILED_window _ | with_reducible exact F.RCH_LANE_STAT_CAUSE_window _ | rfl)
    | (with_reducible apply raiseRf_touches); rfl
    | (with_reducible apply degrade_touches); rfl
    | with_reducible split
    | with_reducible dsimp only

theorem takeover_touches (n) {L : Nat} (h : Nat.lor 144116287657754694 L = L) : Touches L (takeover n) := by
  refine Touches.mono (L := 144116287657754694) ?_ h
  unfold takeover
  try dsimp only
  repeat' first
    | with_reducible refine Touches.bind ?_ fun _ => ?_
    | with_reducible refine Touches.ite ?_ ?_
    | with_reducible exact Touches.pure _
    | with_reducible exact Touches.rd
    | (with_reducible apply Touches.incStop) <;> (first | with_reducible exact F.RCH_TAKEOVER_CNT_CNT_window | rfl)
    | (with_reducible apply raiseRf_touches); rfl
    | with_reducible split
    | with_reducible dsimp only

theorem sparesGone_touches (i) {L : Nat} (h : Nat.lor 144116287657742406 L = L) : Touches L (sparesGone i) := by
  refine Touches.mono (L := 144116287657742406) ?_ h
  unfold sparesGone
  try dsimp only
  repeat' first
    | with_reducible refine Touches.bind ?_ fun _ => ?_
    | with_reducible refine Touches.ite ?_ ?_
    | with_reducible exact Touches.pure _
    | with_reducible exact Touches.rd
    | (with_reducible apply raiseRf_touches); rfl
    | (with_reducible apply reducedRead_touches); rfl
    | with_reducible split
    | with_reducible dsimp only

theorem endTrial_touches (i) {L : Nat} (h : Nat.lor 150871687098814534 L = L) : Touches L (endTrial i) := by
  refine Touches.mono (L := 150871687098814534) ?_ h
  unfold endTrial
  try dsimp only
  repeat' first
    | with_reducible refine Touches.bind ?_ fun _ => ?_
    | with_reducible refine Touches.ite ?_ ?_
    | with_reducible exact Touches.pure _
    | with_reducible exact Touches.rd
    | (with_reducible apply Touches.setF) <;> (first | with_reducible exact F.RCH_LANE_STAT_TRIAL_window _ | rfl)
    | (with_reducible apply takeover_touches); rfl
    | (with_reducible apply unbindLane_touches); rfl
    | (with_reducible apply bindLane_touches); rfl
    | (with_reducible apply endSingle_touches); rfl
    | (with_reducible apply Touches.emitM (M := 2251799813685248)) <;> rfl
    | with_reducible split
    | with_reducible dsimp only

theorem bindNext_touches (i) {L : Nat} (h : Nat.lor 150871687098814534 L = L) : Touches L (bindNext i) := by
  refine Touches.mono (L := 150871687098814534) ?_ h
  unfold bindNext
  try dsimp only
  repeat' first
    | with_reducible refine Touches.bind ?_ fun _ => ?_
    | with_reducible refine Touches.ite ?_ ?_
    | with_reducible exact Touches.pure _
    | with_reducible exact Touches.rd
    | (with_reducible apply Touches.setF) <;> (first | with_reducible exact F.RCH_LANE_STAT_TRIAL_window _ | rfl)
    | (with_reducible apply endTrial_touches); rfl
    | (with_reducible apply takeover_touches); rfl
    | (with_reducible apply applyHeld_touches); rfl
    | (with_reducible apply bindLane_touches); rfl
    | (with_reducible apply sparesGone_touches); rfl
    | (with_reducible apply endSingle_touches); rfl
    | (with_reducible apply raiseRf_touches); rfl
    | (with_reducible apply Touches.emitM (M := 2251799813685248)) <;> rfl
    | with_reducible split
    | with_reducible dsimp only

theorem awaitSpoke_touches (i) (x) {L : Nat} (h : Nat.lor 150871687098814534 L = L) : Touches L (awaitSpoke i x) := by
  refine Touches.mono (L := 150871687098814534) ?_ h
  unfold awaitSpoke
  try dsimp only
  repeat' first
    | with_reducible refine Touches.bind ?_ fun _ => ?_
    | with_reducible refine Touches.ite ?_ ?_
    | with_reducible exact Touches.pure _
    | with_reducible exact Touches.rd
    | (with_reducible apply bindNext_touches); rfl
    | (with_reducible apply Touches.emitM (M := 2251799813685248)) <;> rfl
    | with_reducible split
    | with_reducible dsimp only

theorem cutInput_touches (i) {L : Nat} (h : Nat.lor 9007199254740992 L = L) : Touches L (cutInput i) := by
  refine Touches.mono (L := 9007199254740992) ?_ h
  unfold cutInput
  try dsimp only
  repeat' first
    | with_reducible refine Touches.bind ?_ fun _ => ?_
    | with_reducible refine Touches.ite ?_ ?_
    | with_reducible exact Touches.pure _
    | with_reducible exact Touches.rd
    | (with_reducible apply Touches.emitM (M := 9007199254740992)) <;> rfl
    | with_reducible split
    | with_reducible dsimp only

theorem replaceLane_touches (n) (i) {L : Nat} (h : Nat.lor 150871687098814534 L = L) : Touches L (replaceLane n i) := by
  refine Touches.mono (L := 150871687098814534) ?_ h
  unfold replaceLane
  try dsimp only
  repeat' first
    | with_reducible refine Touches.bind ?_ fun _ => ?_
    | with_reducible refine Touches.ite ?_ ?_
    | with_reducible exact Touches.pure _
    | with_reducible exact Touches.rd
    | (with_reducible apply endTrial_touches); rfl
    | (with_reducible apply awaitSpoke_touches); rfl
    | (with_reducible apply takeover_touches); rfl
    | (with_reducible apply sparesGone_touches); rfl
    | (with_reducible apply endSingle_touches); rfl
    | with_reducible split
    | with_reducible dsimp only

theorem execLaneMemoryError_touches (n) (s : State) : ∃ u, execLaneMemoryError n s = .next u ∧ Same 269777547585642055 s u := by
  unfold execLaneMemoryError
  first | apply Touches.answer | apply Touches.answerWhen | (dsimp only; first | apply Touches.answer | apply Touches.answerWhen)
  try dsimp only
  repeat' first
    | with_reducible refine Touches.bind ?_ fun _ => ?_
    | with_reducible refine Touches.ite ?_ ?_
    | with_reducible exact Touches.pure _
    | with_reducible exact Touches.rd
    | (with_reducible apply beginLaneFault_touches); rfl
    | (with_reducible apply endTrial_touches); rfl
    | (with_reducible apply unbindLane_touches); rfl
    | (with_reducible apply failLane_touches); rfl
    | (with_reducible apply cutInput_touches); rfl
    | (with_reducible apply replaceLane_touches); rfl
    | (with_reducible apply endSingle_touches); rfl
    | with_reducible split
    | with_reducible dsimp only

theorem syncFault_touches (n) (i) {L : Nat} (h : Nat.lor 269777547585642055 L = L) : Touches L (syncFault n i) := by
  refine Touches.mono (L := 269777547585642055) ?_ h
  unfold syncFault
  try dsimp only
  repeat' first
    | with_reducible refine Touches.bind ?_ fun _ => ?_
    | with_reducible refine Touches.ite ?_ ?_
    | with_reducible exact Touches.pure _
    | with_reducible exact Touches.rd
    | (with_reducible apply Touches.setF) <;> (first | with_reducible exact F.RCH_LANE_STAT_TRIAL_window _ | rfl)
    | (with_reducible apply raiseRf_touches); rfl
    | (with_reducible apply beginLaneFault_touches); rfl
    | (with_reducible apply unbindLane_touches); rfl
    | (with_reducible apply cutInput_touches); rfl
    | (with_reducible apply awaitSpoke_touches); rfl
    | with_reducible split
    | with_reducible dsimp only

theorem trialFrame_touches (n) (i) (found) {L : Nat} (h : Nat.lor 150871687098814534 L = L) : Touches L (trialFrame n i found) := by
  refine Touches.mono (L := 150871687098814534) ?_ h
  unfold trialFrame
  try dsimp only
  repeat' first
    | with_reducible refine Touches.bind ?_ fun _ => ?_
    | with_reducible refine Touches.ite ?_ ?_
    | with_reducible exact Touches.pure _
    | with_reducible exact Touches.rd
    | (with_reducible apply Touches.setF) <;> (first | with_reducible exact F.RCH_LANE_STAT_TRIAL_window _ | rfl)
    | (with_reducible apply failLane_touches); rfl
    | (with_reducible apply takeover_touches); rfl
    | (with_reducible apply endSingle_touches); rfl
    | (with_reducible apply awaitSpoke_touches); rfl
    | (with_reducible apply Touches.emitM (M := 2251799813685248)) <;> rfl
    | with_reducible split
    | with_reducible dsimp only

theorem inputInverted_touches (i) {L : Nat} (h : Nat.lor 146368087471427654 L = L) : Touches L (inputInverted i) := by
  refine Touches.mono (L := 146368087471427654) ?_ h
  unfold inputInverted
  try dsimp only
  repeat' first
    | with_reducible refine Touches.bind ?_ fun _ => ?_
    | with_reducible refine Touches.ite ?_ ?_
    | with_reducible exact Touches.pure _
    | with_reducible exact Touches.rd
    | (with_reducible apply Touches.setF) <;> (first | with_reducible exact F.RCH_IN_STAT_INVERTED_window _ | rfl)
    | (with_reducible apply raiseRf_touches); rfl
    | (with_reducible apply holdChange_touches); rfl
    | with_reducible split
    | with_reducible dsimp only

theorem polarityStep_touches (i) (corr) {L : Nat} (h : Nat.lor 146368087471427654 L = L) : Touches L (polarityStep i corr) := by
  refine Touches.mono (L := 146368087471427654) ?_ h
  unfold polarityStep
  try dsimp only
  repeat' first
    | with_reducible refine Touches.bind ?_ fun _ => ?_
    | with_reducible refine Touches.ite ?_ ?_
    | with_reducible exact Touches.pure _
    | with_reducible exact Touches.rd
    | (with_reducible apply inputInverted_touches); rfl
    | (with_reducible apply Touches.emitM (M := 2251799813685248)) <;> rfl
    | with_reducible split
    | with_reducible dsimp only

theorem spokeLanes_touches (k) {L : Nat} (h : Nat.lor 150906871470903366 L = L) : Touches L (spokeLanes k) := by
  refine Touches.mono (L := 150906871470903366) ?_ h
  unfold spokeLanes
  try dsimp only
  repeat' first
    | with_reducible refine Touches.bind ?_ fun _ => ?_
    | with_reducible refine Touches.ite ?_ ?_
    | with_reducible exact Touches.pure _
    | with_reducible exact Touches.rd
    | (with_reducible apply Touches.setF) <;> (first | with_reducible exact F.RCH_LANE_STAT_STATE_window _ | rfl)
    | (with_reducible apply inputInverted_touches); rfl
    | (with_reducible apply bindNext_touches); rfl
    | with_reducible refine Touches.forAll fun _ => ?_
    | (with_reducible apply Touches.emitM (M := 35184372088832)) <;> rfl
    | with_reducible split
    | with_reducible dsimp only

theorem execSpokeReceived_touches (k) (x) (s : State) : ∃ u, execSpokeReceived k x s = .next u ∧ Same 269918284939779654 s u := by
  unfold execSpokeReceived
  first | apply Touches.answer | apply Touches.answerWhen | (dsimp only; first | apply Touches.answer | apply Touches.answerWhen)
  try dsimp only
  repeat' first
    | with_reducible refine Touches.bind ?_ fun _ => ?_
    | with_reducible refine Touches.ite ?_ ?_
    | with_reducible exact Touches.pure _
    | with_reducible exact Touches.rd
    | (with_reducible apply receiveSpoke_touches); rfl
    | (with_reducible apply spokeLanes_touches); rfl
    | with_reducible split
    | with_reducible dsimp only

theorem storeTaps_touches (n) (c) {L : Nat} (h : Nat.lor 16384 L = L) : Touches L (storeTaps n c) := by
  refine Touches.mono (L := 16384) ?_ h
  unfold storeTaps
  try dsimp only
  repeat' first
    | with_reducible refine Touches.bind ?_ fun _ => ?_
    | with_reducible refine Touches.ite ?_ ?_
    | with_reducible exact Touches.pure _
    | with_reducible exact Touches.rd
    | (with_reducible apply Touches.setI) <;> (first | with_reducible exact F.RCH_LANE_TAPS_EVEN_window _ _ | with_reducible exact F.RCH_LANE_TAPS_ODD_window _ _ | rfl)
    | with_reducible refine Touches.forAll fun _ => ?_
    | with_reducible split
    | with_reducible dsimp only

theorem storeGain_touches (i) (c) {L : Nat} (h : Nat.lor 146368087471427654 L = L) : Touches L (storeGain i c) := by
  refine Touches.mono (L := 146368087471427654) ?_ h
  unfold storeGain
  try dsimp only
  repeat' first
    | with_reducible refine Touches.bind ?_ fun _ => ?_
    | with_reducible refine Touches.ite ?_ ?_
    | with_reducible exact Touches.pure _
    | with_reducible exact Touches.rd
    | (with_reducible apply Touches.setF) <;> (first | with_reducible exact F.RCH_IN_GAIN_PGA_window _ | with_reducible exact F.RCH_IN_STAT_CLIP_window _ | rfl)
    | (with_reducible apply Touches.setI) <;> (first | with_reducible exact F.RCH_IN_GAIN_FINE_window _ | rfl)
    | (with_reducible apply raiseRf_touches); rfl
    | with_reducible refine Touches.forAll fun _ => ?_
    | (with_reducible apply Touches.emitM (M := 2251799813685248)) <;> rfl
    | with_reducible split
    | with_reducible dsimp only

theorem laneFrame_touches (n) (i) (x) (c) {L : Nat} (h : Nat.lor 150871687098814534 L = L) : Touches L (laneFrame n i x c) := by
  refine Touches.mono (L := 150871687098814534) ?_ h
  unfold laneFrame
  try dsimp only
  repeat' first
    | with_reducible refine Touches.bind ?_ fun _ => ?_
    | with_reducible refine Touches.ite ?_ ?_
    | with_reducible exact Touches.pure _
    | with_reducible exact Touches.rd
    | (with_reducible apply Touches.setF) <;> (first | with_reducible exact F.RCH_LANE_STAT_LAST_SCORE_window _ | with_reducible exact F.RCH_LANE_STAT_STATE_window _ | with_reducible exact F.RCH_LANE_STAT_TIMING_LIMIT_window _ | rfl)
    | (with_reducible apply Touches.setI) <;> (first | with_reducible exact F.RCH_LANE_FREQ_FREQ_window _ | rfl)
    | (with_reducible apply Touches.addWrap) <;> (first | with_reducible exact F.RCH_SYNC_MISS_CNT_CNT_window _ | with_reducible exact F.RCH_RSYNC_SLIP_CNT_CNT_window _ | rfl)
    | (with_reducible apply raise_touches); rfl
    | (with_reducible apply storeTaps_touches); rfl
    | (with_reducible apply storeGain_touches); rfl
    | (with_reducible apply polarityStep_touches); rfl
    | (with_reducible apply Touches.emitM (M := 4503599627370496)) <;> rfl
    | with_reducible split
    | with_reducible dsimp only

theorem inputMissing_touches (i) {L : Nat} (h : Nat.lor 225216265322745926 L = L) : Touches L (inputMissing i) := by
  refine Touches.mono (L := 225216265322745926) ?_ h
  unfold inputMissing
  try dsimp only
  repeat' first
    | with_reducible refine Touches.bind ?_ fun _ => ?_
    | with_reducible refine Touches.ite ?_ ?_
    | with_reducible exact Touches.pure _
    | with_reducible exact Touches.rd
    | (with_reducible apply Touches.setF) <;> (first | with_reducible exact F.RCH_IN_CTL_ENABLE_window _ | with_reducible exact F.WRP_CTL_WR_HOLD_window _ | rfl)
    | (with_reducible apply unbindLane_touches); rfl
    | (with_reducible apply degrade_touches); rfl
    | (with_reducible apply setBay_touches); rfl
    | (with_reducible apply reducedRead_touches); rfl
    | with_reducible split
    | with_reducible dsimp only

theorem execNoSignalCheck_touches (i) (span) (s : State) : ∃ u, execNoSignalCheck i span s = .next u ∧ Same 227468065136431174 s u := by
  unfold execNoSignalCheck
  first | apply Touches.answer | apply Touches.answerWhen | (dsimp only; first | apply Touches.answer | apply Touches.answerWhen)
  try dsimp only
  repeat' first
    | with_reducible refine Touches.bind ?_ fun _ => ?_
    | with_reducible refine Touches.ite ?_ ?_
    | with_reducible exact Touches.pure _
    | with_reducible exact Touches.rd
    | (with_reducible apply Touches.setF) <;> (first | with_reducible exact F.RCH_IN_STAT_NO_SIGNAL_window _ | rfl)
    | (with_reducible apply raiseRf_touches); rfl
    | (with_reducible apply inputMissing_touches); rfl
    | (with_reducible apply holdChange_touches); rfl
    | with_reducible split
    | with_reducible dsimp only

theorem resetWindow_touches (b) {L : Nat} (h : Nat.lor 72057594037927936 L = L) : Touches L (resetWindow b) := by
  refine Touches.mono (L := 72057594037927936) ?_ h
  unfold resetWindow
  try dsimp only
  repeat' first
    | with_reducible refine Touches.bind ?_ fun _ => ?_
    | with_reducible refine Touches.ite ?_ ?_
    | with_reducible exact Touches.pure _
    | with_reducible exact Touches.rd
    | (with_reducible apply Touches.emitM (M := 72057594037927936)) <;> rfl
    | with_reducible split
    | with_reducible dsimp only

theorem takeSpeed_touches (b) (cls) {L : Nat} (h : Nat.lor 263022148010368582 L = L) : Touches L (takeSpeed b cls) := by
  refine Touches.mono (L := 263022148010368582) ?_ h
  unfold takeSpeed
  try dsimp only
  repeat' first
    | with_reducible refine Touches.bind ?_ fun _ => ?_
    | with_reducible refine Touches.ite ?_ ?_
    | with_reducible exact Touches.pure _
    | with_reducible exact Touches.rd
    | (with_reducible apply Touches.setF) <;> (first | with_reducible exact F.MOT_CMD_CLASS_window _ | rfl)
    | (with_reducible apply resetWindow_touches); rfl
    | (with_reducible apply setSpeed_touches); rfl
    | (with_reducible apply runMotor_touches); rfl
    | (with_reducible apply Touches.emitM (M := 72057594037927936)) <;> rfl
    | (with_reducible apply Touches.emitM (M := 562949953421312)) <;> rfl
    | with_reducible split
    | with_reducible dsimp only

theorem clampAdapt_touches (f) (bit) (inst) {L : Nat} (hf : f.window = .calRegs) (h : Nat.lor 144116287657803846 L = L) : Touches L (clampAdapt f bit inst) := by
  refine Touches.mono (L := 144116287657803846) ?_ h
  unfold clampAdapt
  try dsimp only
  repeat' first
    | with_reducible refine Touches.bind ?_ fun _ => ?_
    | with_reducible refine Touches.ite ?_ ?_
    | with_reducible exact Touches.pure _
    | with_reducible exact Touches.rd
    | (with_reducible apply Touches.setF) <;> (first | with_reducible exact hf | rfl)
    | with_reducible apply Touches.getF
    | with_reducible apply Touches.getI
    | (with_reducible apply raise_touches); rfl
    | with_reducible split
    | with_reducible dsimp only

theorem unclampAdapt_touches (f) (bit) {L : Nat} (hf : f.window = .calRegs) (h : Nat.lor 65536 L = L) : Touches L (unclampAdapt f bit) := by
  refine Touches.mono (L := 65536) ?_ h
  unfold unclampAdapt
  try dsimp only
  repeat' first
    | with_reducible refine Touches.bind ?_ fun _ => ?_
    | with_reducible refine Touches.ite ?_ ?_
    | with_reducible exact Touches.pure _
    | with_reducible exact Touches.rd
    | (with_reducible apply Touches.setF) <;> (first | with_reducible exact hf | rfl)
    | with_reducible apply Touches.getF
    | with_reducible apply Touches.getI
    | with_reducible split
    | with_reducible dsimp only

theorem lowerSpeed_touches (b) {L : Nat} (h : Nat.lor 263022148010368582 L = L) : Touches L (lowerSpeed b) := by
  refine Touches.mono (L := 263022148010368582) ?_ h
  unfold lowerSpeed
  try dsimp only
  repeat' first
    | with_reducible refine Touches.bind ?_ fun _ => ?_
    | with_reducible refine Touches.ite ?_ ?_
    | with_reducible exact Touches.pure _
    | with_reducible exact Touches.rd
    | (with_reducible apply unclampAdapt_touches) <;> (first | with_reducible exact F.CAL_CTL_ENABLE_window | with_reducible exact F.CAL_ADAPT_STAT_SPEED_CLAMP_window | rfl)
    | (with_reducible apply takeSpeed_touches); rfl
    | (with_reducible apply resetWindow_touches); rfl
    | (with_reducible apply clampAdapt_touches) <;> (first | with_reducible exact F.CAL_CTL_ENABLE_window | with_reducible exact F.CAL_ADAPT_STAT_SPEED_CLAMP_window | rfl)
    | with_reducible split
    | with_reducible dsimp only

theorem raiseSpeed_touches (b) {L : Nat} (h : Nat.lor 263022148010368582 L = L) : Touches L (raiseSpeed b) := by
  refine Touches.mono (L := 263022148010368582) ?_ h
  unfold raiseSpeed
  try dsimp only
  repeat' first
    | with_reducible refine Touches.bind ?_ fun _ => ?_
    | with_reducible refine Touches.ite ?_ ?_
    | with_reducible exact Touches.pure _
    | with_reducible exact Touches.rd
    | (with_reducible apply unclampAdapt_touches) <;> (first | with_reducible exact F.CAL_CTL_ENABLE_window | with_reducible exact F.CAL_ADAPT_STAT_SPEED_CLAMP_window | rfl)
    | (with_reducible apply takeSpeed_touches); rfl
    | (with_reducible apply resetWindow_touches); rfl
    | (with_reducible apply clampAdapt_touches) <;> (first | with_reducible exact F.CAL_CTL_ENABLE_window | with_reducible exact F.CAL_ADAPT_STAT_SPEED_CLAMP_window | rfl)
    | with_reducible split
    | with_reducible dsimp only

theorem showPins_touches {L : Nat} (h : Nat.lor 65536 L = L) : Touches L (showPins) := by
  refine Touches.mono (L := 65536) ?_ h
  unfold showPins
  try dsimp only
  repeat' first
    | with_reducible refine Touches.bind ?_ fun _ => ?_
    | with_reducible refine Touches.ite ?_ ?_
    | with_reducible exact Touches.pure _
    | with_reducible exact Touches.rd
    | (with_reducible apply Touches.setF) <;> (first | with_reducible exact F.CAL_ADAPT_STAT_SPEED_PIN_window | with_reducible exact F.CAL_ADAPT_STAT_WRPWR_PIN_window | rfl)
    | with_reducible split
    | with_reducible dsimp only

theorem settleSpeeds_touches {L : Nat} (h : Nat.lor 263022148010368582 L = L) : Touches L (settleSpeeds) := by
  refine Touches.mono (L := 263022148010368582) ?_ h
  unfold settleSpeeds
  try dsimp only
  repeat' first
    | with_reducible refine Touches.bind ?_ fun _ => ?_
    | with_reducible refine Touches.ite ?_ ?_
    | with_reducible exact Touches.pure _
    | with_reducible exact Touches.rd
    | (with_reducible apply takeSpeed_touches); rfl
    | with_reducible refine Touches.forAll fun _ => ?_
    | with_reducible split
    | with_reducible dsimp only

theorem raiseFlz_touches (n) (inst) {L : Nat} (h : Nat.lor 144116287657738310 L = L) : Touches L (raiseFlz n inst) := by
  refine Touches.mono (L := 144116287657738310) ?_ h
  unfold raiseFlz
  try dsimp only
  repeat' first
    | with_reducible refine Touches.bind ?_ fun _ => ?_
    | with_reducible refine Touches.ite ?_ ?_
    | with_reducible exact Touches.pure _
    | with_reducible exact Touches.rd
    | (with_reducible apply raise_touches); rfl
    | with_reducible split
    | with_reducible dsimp only

theorem setExtent_touches (vol) (ext) (g) {L : Nat} (h : Nat.lor 2147483648 L = L) : Touches L (setExtent vol ext g) := by
  refine Touches.mono (L := 2147483648) ?_ h
  unfold setExtent
  try dsimp only
  repeat' first
    | with_reducible refine Touches.bind ?_ fun _ => ?_
    | with_reducible refine Touches.ite ?_ ?_
    | with_reducible exact Touches.pure _
    | with_reducible exact Touches.rd
    | (with_reducible apply Touches.emitM (M := 2147483648)) <;> rfl
    | with_reducible split
    | with_reducible dsimp only

theorem setBlock_touches (n) (g) {L : Nat} (h : Nat.lor 137438953472 L = L) : Touches L (setBlock n g) := by
  refine Touches.mono (L := 137438953472) ?_ h
  unfold setBlock
  try dsimp only
  repeat' first
    | with_reducible refine Touches.bind ?_ fun _ => ?_
    | with_reducible refine Touches.ite ?_ ?_
    | with_reducible exact Touches.pure _
    | with_reducible exact Touches.rd
    | (with_reducible apply Touches.emitM (M := 137438953472)) <;> rfl
    | with_reducible split
    | with_reducible dsimp only

theorem countErase_touches (m) {L : Nat} (h : Nat.lor 268435488 L = L) : Touches L (countErase m) := by
  refine Touches.mono (L := 268435488) ?_ h
  unfold countErase
  try dsimp only
  repeat' first
    | with_reducible refine Touches.bind ?_ fun _ => ?_
    | with_reducible refine Touches.ite ?_ ?_
    | with_reducible exact Touches.pure _
    | with_reducible exact Touches.rd
    | (with_reducible apply Touches.addWrap) <;> (first | with_reducible exact F.FLZ_ERASE_CNT_CNT_window | rfl)
    | (with_reducible apply Touches.emitM (M := 268435456)) <;> rfl
    | with_reducible split
    | with_reducible dsimp only

theorem openBlock_touches (g) {L : Nat} (h : Nat.lor 137438953472 L = L) : Touches L (openBlock g) := by
  refine Touches.mono (L := 137438953472) ?_ h
  unfold openBlock
  try dsimp only
  repeat' first
    | with_reducible refine Touches.bind ?_ fun _ => ?_
    | with_reducible refine Touches.ite ?_ ?_
    | with_reducible exact Touches.pure _
    | with_reducible exact Touches.rd
    | (with_reducible apply setBlock_touches); rfl
    | with_reducible split
    | with_reducible dsimp only

theorem padRow_touches (n) {L : Nat} (h : Nat.lor 137438953472 L = L) : Touches L (padRow n) := by
  refine Touches.mono (L := 137438953472) ?_ h
  unfold padRow
  try dsimp only
  repeat' first
    | with_reducible refine Touches.bind ?_ fun _ => ?_
    | with_reducible refine Touches.ite ?_ ?_
    | with_reducible exact Touches.pure _
    | with_reducible exact Touches.rd
    | (with_reducible apply Touches.emitM (M := 137438953472)) <;> rfl
    | with_reducible split
    | with_reducible dsimp only

theorem putPage_touches (b) (row) (pos) (image) {L : Nat} (h : Nat.lor 2097152 L = L) : Touches L (putPage b row pos image) := by
  refine Touches.mono (L := 2097152) ?_ h
  unfold putPage
  try dsimp only
  repeat' first
    | with_reducible refine Touches.bind ?_ fun _ => ?_
    | with_reducible refine Touches.ite ?_ ?_
    | with_reducible exact Touches.pure _
    | with_reducible exact Touches.rd
    | (with_reducible apply Touches.emitM (M := 2097152)) <;> rfl
    | with_reducible split
    | with_reducible dsimp only

theorem putSummary_touches (b) {L : Nat} (h : Nat.lor 2097184 L = L) : Touches L (putSummary b) := by
  refine Touches.mono (L := 2097184) ?_ h
  unfold putSummary
  try dsimp only
  repeat' first
    | with_reducible refine Touches.bind ?_ fun _ => ?_
    | with_reducible refine Touches.ite ?_ ?_
    | with_reducible exact Touches.pure _
    | with_reducible exact Touches.rd
    | (with_reducible apply Touches.addWrap) <;> (first | with_reducible exact F.FLZ_PROG_CNT_CNT_window | rfl)
    | (with_reducible apply putPage_touches); rfl
    | with_reducible refine Touches.forAll fun _ => ?_
    | with_reducible split
    | with_reducible dsimp only

theorem closeBlock_touches (n) {L : Nat} (h : Nat.lor 144116425365127270 L = L) : Touches L (closeBlock n) := by
  refine Touches.mono (L := 144116425365127270) ?_ h
  unfold closeBlock
  try dsimp only
  repeat' first
    | with_reducible refine Touches.bind ?_ fun _ => ?_
    | with_reducible refine Touches.ite ?_ ?_
    | with_reducible exact Touches.pure _
    | with_reducible exact Touches.rd
    | (with_reducible apply openData_touches); rfl
    | (with_reducible apply openLog_touches); rfl
    | (with_reducible apply putSummary_touches); rfl
    | (with_reducible apply setBlock_touches); rfl
    | (with_reducible apply padRow_touches); rfl
    | with_reducible split
    | with_reducible dsimp only

theorem freezeZone_touches {L : Nat} (h : Nat.lor 144116287926173798 L = L) : Touches L (freezeZone) := by
  refine Touches.mono (L := 144116287926173798) ?_ h
  unfold freezeZone
  try dsimp only
  repeat' first
    | with_reducible refine Touches.bind ?_ fun _ => ?_
    | with_reducible refine Touches.ite ?_ ?_
    | with_reducible exact Touches.pure _
    | with_reducible exact Touches.rd
    | (with_reducible apply Touches.setF) <;> (first | with_reducible exact F.FLZ_STAT_STATE_window | rfl)
    | (with_reducible apply raiseFlz_touches); rfl
    | (with_reducible apply degrade_touches); rfl
    | (with_reducible apply Touches.emitM (M := 268435456)) <;> rfl
    | with_reducible split
    | with_reducible dsimp only

theorem settleZone_touches {L : Nat} (h : Nat.lor 144116287926173798 L = L) : Touches L (settleZone) := by
  refine Touches.mono (L := 144116287926173798) ?_ h
  unfold settleZone
  try dsimp only
  repeat' first
    | with_reducible refine Touches.bind ?_ fun _ => ?_
    | with_reducible refine Touches.ite ?_ ?_
    | with_reducible exact Touches.pure _
    | with_reducible exact Touches.rd
    | (with_reducible apply Touches.setF) <;> (first | with_reducible exact F.FLZ_STAT_STATE_window | rfl)
    | (with_reducible apply freezeZone_touches); rfl
    | (with_reducible apply raiseFlz_touches); rfl
    | with_reducible split
    | with_reducible dsimp only

theorem setStrand_touches (n) (g) {L : Nat} (h : Nat.lor 8589934592 L = L) : Touches L (setStrand n g) := by
  refine Touches.mono (L := 8589934592) ?_ h
  unfold setStrand
  try dsimp only
  repeat' first
    | with_reducible refine Touches.bind ?_ fun _ => ?_
    | with_reducible refine Touches.ite ?_ ?_
    | with_reducible exact Touches.pure _
    | with_reducible exact Touches.rd
    | (with_reducible apply Touches.emitM (M := 8589934592)) <;> rfl
    | with_reducible split
    | with_reducible dsimp only

theorem digestSector_touches (t) (c) {L : Nat} (h : Nat.lor 144116297321414726 L = L) : Touches L (digestSector t c) := by
  refine Touches.mono (L := 144116297321414726) ?_ h
  unfold digestSector
  try dsimp only
  repeat' first
    | with_reducible refine Touches.bind ?_ fun _ => ?_
    | with_reducible refine Touches.ite ?_ ?_
    | with_reducible exact Touches.pure _
    | with_reducible exact Touches.rd
    | (with_reducible apply raise_touches); rfl
    | (with_reducible apply setStrand_touches); rfl
    | (with_reducible apply Touches.emitM (M := 1073741824)) <;> rfl
    | with_reducible split
    | with_reducible dsimp only

theorem extendDigest_touches (n) (fuel) {L : Nat} (h : Nat.lor 144116297321414726 L = L) : Touches L (extendDigest n fuel) := by
  refine Touches.mono (L := 144116297321414726) ?_ h
  clear h
  induction fuel with
  | zero =>
    rw [extendDigest]
    try dsimp only
    repeat' first
      | with_reducible refine Touches.bind ?_ fun _ => ?_
      | with_reducible refine Touches.ite ?_ ?_
      | with_reducible exact Touches.pure _
      | with_reducible exact Touches.rd
      | (with_reducible apply digestSector_touches); rfl
      | with_reducible split
      | with_reducible dsimp only
  | succ fuel ih =>
    rw [extendDigest]
    try dsimp only
    repeat' first
      | with_reducible refine Touches.bind ?_ fun _ => ?_
      | with_reducible refine Touches.ite ?_ ?_
      | with_reducible exact Touches.pure _
      | with_reducible exact Touches.rd
      | (with_reducible apply digestSector_touches); rfl
      | with_reducible apply ih
      | with_reducible split
      | with_reducible dsimp only

theorem extendDigests_touches {L : Nat} (h : Nat.lor 144116297321414726 L = L) : Touches L (extendDigests) := by
  refine Touches.mono (L := 144116297321414726) ?_ h
  unfold extendDigests
  try dsimp only
  repeat' first
    | with_reducible refine Touches.bind ?_ fun _ => ?_
    | with_reducible refine Touches.ite ?_ ?_
    | with_reducible exact Touches.pure _
    | with_reducible exact Touches.rd
    | (with_reducible apply extendDigest_touches); rfl
    | with_reducible refine Touches.forAll fun _ => ?_
    | with_reducible split
    | with_reducible dsimp only

theorem commitMove_touches (c) {L : Nat} (h : Nat.lor 36775657472 L = L) : Touches L (commitMove c) := by
  refine Touches.mono (L := 36775657472) ?_ h
  unfold commitMove
  try dsimp only
  repeat' first
    | with_reducible refine Touches.bind ?_ fun _ => ?_
    | with_reducible refine Touches.ite ?_ ?_
    | with_reducible exact Touches.pure _
    | with_reducible exact Touches.rd
    | (with_reducible apply setExtent_touches); rfl
    | (with_reducible apply Touches.emitM (M := 268435456)) <;> rfl
    | (with_reducible apply Touches.emitM (M := 34359738368)) <;> rfl
    | with_reducible split
    | with_reducible dsimp only

theorem sweepCache_touches {L : Nat} (h : Nat.lor 144116334097072198 L = L) : Touches L (sweepCache) := by
  refine Touches.mono (L := 144116334097072198) ?_ h
  unfold sweepCache
  try dsimp only
  repeat' first
    | with_reducible refine Touches.bind ?_ fun _ => ?_
    | with_reducible refine Touches.ite ?_ ?_
    | with_reducible exact Touches.pure _
    | with_reducible exact Touches.rd
    | (with_reducible apply extendDigests_touches); rfl
    | (with_reducible apply commitMove_touches); rfl
    | with_reducible refine Touches.forAll fun _ => ?_
    | (with_reducible apply Touches.emitM (M := 1073741824)) <;> rfl
    | with_reducible split
    | with_reducible dsimp only

theorem deferError_touches (n) {L : Nat} (h : Nat.lor 144116296247672902 L = L) : Touches L (deferError n) := by
  refine Touches.mono (L := 144116296247672902) ?_ h
  unfold deferError
  try dsimp only
  repeat' first
    | with_reducible refine Touches.bind ?_ fun _ => ?_
    | with_reducible refine Touches.ite ?_ ?_
    | with_reducible exact Touches.pure _
    | with_reducible exact Touches.rd
    | (with_reducible apply setStrand_touches); rfl
    | (with_reducible apply raise_touches); rfl
    | with_reducible split
    | with_reducible dsimp only

theorem noteRebuilt_touches (vol) (l) {L : Nat} (h : Nat.lor 32 L = L) : Touches L (noteRebuilt vol l) := by
  refine Touches.mono (L := 32) ?_ h
  unfold noteRebuilt
  try dsimp only
  repeat' first
    | with_reducible refine Touches.bind ?_ fun _ => ?_
    | with_reducible refine Touches.ite ?_ ?_
    | with_reducible exact Touches.pure _
    | with_reducible exact Touches.rd
    | (with_reducible apply Touches.addStop) <;> (first | with_reducible exact F.FLZ_RECON_CNT_CNT_window | rfl)
    | with_reducible split
    | with_reducible dsimp only

theorem formBlocks_touches {L : Nat} (h : Nat.lor 137438953472 L = L) : Touches L (formBlocks) := by
  refine Touches.mono (L := 137438953472) ?_ h
  unfold formBlocks
  try dsimp only
  repeat' first
    | with_reducible refine Touches.bind ?_ fun _ => ?_
    | with_reducible refine Touches.ite ?_ ?_
    | with_reducible exact Touches.pure _
    | with_reducible exact Touches.rd
    | (with_reducible apply Touches.emitM (M := 137438953472)) <;> rfl
    | with_reducible split
    | with_reducible dsimp only

theorem dissolve_touches (b) {L : Nat} (h : Nat.lor 137438953472 L = L) : Touches L (dissolve b) := by
  refine Touches.mono (L := 137438953472) ?_ h
  unfold dissolve
  try dsimp only
  repeat' first
    | with_reducible refine Touches.bind ?_ fun _ => ?_
    | with_reducible refine Touches.ite ?_ ?_
    | with_reducible exact Touches.pure _
    | with_reducible exact Touches.rd
    | (with_reducible apply formBlocks_touches); rfl
    | (with_reducible apply Touches.emitM (M := 137438953472)) <;> rfl
    | with_reducible split
    | with_reducible dsimp only

theorem copyMember_touches (n) (pos) {L : Nat} (h : Nat.lor 137438953472 L = L) : Touches L (copyMember n pos) := by
  refine Touches.mono (L := 137438953472) ?_ h
  unfold copyMember
  try dsimp only
  repeat' first
    | with_reducible refine Touches.bind ?_ fun _ => ?_
    | with_reducible refine Touches.ite ?_ ?_
    | with_reducible exact Touches.pure _
    | with_reducible exact Touches.rd
    | (with_reducible apply Touches.emitM (M := 137438953472)) <;> rfl
    | with_reducible split
    | with_reducible dsimp only

theorem failLun_touches (lun) (inst) {L : Nat} (h : Nat.lor 263022285851958887 L = L) : Touches L (failLun lun inst) := by
  refine Touches.mono (L := 263022285851958887) ?_ h
  unfold failLun
  try dsimp only
  repeat' first
    | with_reducible refine Touches.bind ?_ fun _ => ?_
    | with_reducible refine Touches.ite ?_ ?_
    | with_reducible exact Touches.pure _
    | with_reducible exact Touches.rd
    | (with_reducible apply Touches.setF) <;> (first | with_reducible exact F.FLZ_LUN_FAILED_MASK_window _ | with_reducible exact F.FLZ_GEOM_LUNS_window | with_reducible exact F.FLZ_STAT_REBUILDING_window | with_reducible exact F.FLZ_REBUILD_LUN_window | with_reducible exact F.FLZ_REBUILD_ACTIVE_window | with_reducible exact F.FLZ_REBUILD_PROGRESS_window | rfl)
    | (with_reducible apply beginSingle_touches); rfl
    | (with_reducible apply raiseFlz_touches); rfl
    | (with_reducible apply degrade_touches); rfl
    | (with_reducible apply endSingle_touches); rfl
    | (with_reducible apply openData_touches); rfl
    | (with_reducible apply openLog_touches); rfl
    | (with_reducible apply closeBlock_touches); rfl
    | (with_reducible apply dissolve_touches); rfl
    | with_reducible refine Touches.forAll fun _ => ?_
    | (with_reducible apply Touches.emitM (M := 268435456)) <;> rfl
    | (with_reducible apply Touches.emitM (M := 137438953472)) <;> rfl
    | with_reducible split
    | with_reducible dsimp only

theorem takeSpares_touches (l) {L : Nat} (h : Nat.lor 144116425096691782 L = L) : Touches L (takeSpares l) := by
  refine Touches.mono (L := 144116425096691782) ?_ h
  unfold takeSpares
  try dsimp only
  repeat' first
    | with_reducible refine Touches.bind ?_ fun _ => ?_
    | with_reducible refine Touches.ite ?_ ?_
    | with_reducible exact Touches.pure _
    | with_reducible exact Touches.rd
    | (with_reducible apply raiseFlz_touches); rfl
    | (with_reducible apply Touches.emitM (M := 137438953472)) <;> rfl
    | with_reducible split
    | with_reducible dsimp only

theorem loseRow_touches (n) (r) {L : Nat} (h : Nat.lor 144116296516108358 L = L) : Touches L (loseRow n r) := by
  refine Touches.mono (L := 144116296516108358) ?_ h
  unfold loseRow
  try dsimp only
  repeat' first
    | with_reducible refine Touches.bind ?_ fun _ => ?_
    | with_reducible refine Touches.ite ?_ ?_
    | with_reducible exact Touches.pure _
    | with_reducible exact Touches.rd
    | (with_reducible apply raiseFlz_touches); rfl
    | (with_reducible apply raise_touches); rfl
    | (with_reducible apply setStrand_touches); rfl
    | (with_reducible apply deferError_touches); rfl
    | with_reducible refine Touches.forAll fun _ => ?_
    | (with_reducible apply Touches.emitM (M := 268435456)) <;> rfl
    | with_reducible split
    | with_reducible dsimp only

theorem settleBlocks_touches {L : Nat} (h : Nat.lor 144116425365127270 L = L) : Touches L (settleBlocks) := by
  refine Touches.mono (L := 144116425365127270) ?_ h
  unfold settleBlocks
  try dsimp only
  repeat' first
    | with_reducible refine Touches.bind ?_ fun _ => ?_
    | with_reducible refine Touches.ite ?_ ?_
    | with_reducible exact Touches.pure _
    | with_reducible exact Touches.rd
    | (with_reducible apply setBlock_touches); rfl
    | (with_reducible apply settleZone_touches); rfl
    | with_reducible refine Touches.forAll fun _ => ?_
    | (with_reducible apply Touches.emitM (M := 137438953472)) <;> rfl
    | with_reducible split
    | with_reducible dsimp only

theorem copyBlock_touches (n) (dst) {L : Nat} (h : Nat.lor 137438953472 L = L) : Touches L (copyBlock n dst) := by
  refine Touches.mono (L := 137438953472) ?_ h
  unfold copyBlock
  try dsimp only
  repeat' first
    | with_reducible refine Touches.bind ?_ fun _ => ?_
    | with_reducible refine Touches.ite ?_ ?_
    | with_reducible exact Touches.pure _
    | with_reducible exact Touches.rd
    | (with_reducible apply Touches.emitM (M := 137438953472)) <;> rfl
    | with_reducible split
    | with_reducible dsimp only

theorem retireBlock_touches (n) (pos) {L : Nat} (h : Nat.lor 263022285851958887 L = L) : Touches L (retireBlock n pos) := by
  refine Touches.mono (L := 263022285851958887) ?_ h
  unfold retireBlock
  try dsimp only
  repeat' first
    | with_reducible refine Touches.bind ?_ fun _ => ?_
    | with_reducible refine Touches.ite ?_ ?_
    | with_reducible exact Touches.pure _
    | with_reducible exact Touches.rd
    | (with_reducible apply Touches.incStop) <;> (first | with_reducible exact F.FLZ_BAD_CNT_CNT_window | rfl)
    | (with_reducible apply raiseFlz_touches); rfl
    | (with_reducible apply freezeZone_touches); rfl
    | (with_reducible apply copyBlock_touches); rfl
    | (with_reducible apply setBlock_touches); rfl
    | (with_reducible apply takeSpares_touches); rfl
    | (with_reducible apply failLun_touches); rfl
    | (with_reducible apply Touches.emitM (M := 268435456)) <;> rfl
    | (with_reducible apply Touches.emitM (M := 137438953472)) <;> rfl
    | with_reducible split
    | with_reducible dsimp only

theorem mergeLog_touches (log) (data) {L : Nat} (h : Nat.lor 144116425365127270 L = L) : Touches L (mergeLog log data) := by
  refine Touches.mono (L := 144116425365127270) ?_ h
  unfold mergeLog
  try dsimp only
  repeat' first
    | with_reducible refine Touches.bind ?_ fun _ => ?_
    | with_reducible refine Touches.ite ?_ ?_
    | with_reducible exact Touches.pure _
    | with_reducible exact Touches.rd
    | (with_reducible apply Touches.incStop) <;> (first | with_reducible exact F.FLZ_MERGE_CNT_window _ | rfl)
    | (with_reducible apply openLog_touches); rfl
    | (with_reducible apply openData_touches); rfl
    | (with_reducible apply setBlock_touches); rfl
    | (with_reducible apply closeBlock_touches); rfl
    | (with_reducible apply copyBlock_touches); rfl
    | (with_reducible apply openBlock_touches); rfl
    | (with_reducible apply settleBlocks_touches); rfl
    | with_reducible split
    | with_reducible dsimp only

theorem collect_touches {L : Nat} (h : Nat.lor 144116425365127270 L = L) : Touches L (collect) := by
  refine Touches.mono (L := 144116425365127270) ?_ h
  unfold collect
  try dsimp only
  repeat' first
    | with_reducible refine Touches.bind ?_ fun _ => ?_
    | with_reducible refine Touches.ite ?_ ?_
    | with_reducible exact Touches.pure _
    | with_reducible exact Touches.rd
    | (with_reducible apply mergeLog_touches); rfl
    | (with_reducible apply setBlock_touches); rfl
    | (with_reducible apply copyBlock_touches); rfl
    | (with_reducible apply settleBlocks_touches); rfl
    | with_reducible split
    | with_reducible dsimp only

theorem openSpare_touches (c) {L : Nat} (h : Nat.lor 144116425365127270 L = L) : Touches L (openSpare c) := by
  refine Touches.mono (L := 144116425365127270) ?_ h
  unfold openSpare
  try dsimp only
  repeat' first
    | with_reducible refine Touches.bind ?_ fun _ => ?_
    | with_reducible refine Touches.ite ?_ ?_
    | with_reducible exact Touches.pure _
    | with_reducible exact Touches.rd
    | (with_reducible apply takeSpares_touches); rfl
    | (with_reducible apply openData_touches); rfl
    | (with_reducible apply Touches.emitM (M := 137438953472)) <;> rfl
    | with_reducible split
    | with_reducible dsimp only

theorem saveBlocks_touches {L : Nat} (h : Nat.lor 268435456 L = L) : Touches L (saveBlocks) := by
  refine Touches.mono (L := 268435456) ?_ h
  unfold saveBlocks
  try dsimp only
  repeat' first
    | with_reducible refine Touches.bind ?_ fun _ => ?_
    | with_reducible refine Touches.ite ?_ ?_
    | with_reducible exact Touches.pure _
    | with_reducible exact Touches.rd
    | (with_reducible apply Touches.emitM (M := 268435456)) <;> rfl
    | with_reducible split
    | with_reducible dsimp only

end Sys2Proof.Machine
end

