-- ==== Sys2Proof/Laws/Touches3.lean ====
section
/-! SUPPORT. Part 3 of what every program of the model may touch: for each program, that from every state it runs to an answer, and
the parts of the state that it leaves alone (as the bits of `Part.idx`). -/

set_option linter.all false

namespace Sys2Proof.Machine

theorem showRebuild_touches {L : Nat} (h : Nat.lor 137438953504 L = L) : Touches L (showRebuild) := by
  refine Touches.mono (L := 137438953504) ?_ h
  unfold showRebuild
  try dsimp only
  repeat' first
    | with_reducible refine Touches.bind ?_ fun _ => ?_
    | with_reducible refine Touches.ite ?_ ?_
    | with_reducible exact Touches.pure _
    | with_reducible exact Touches.rd
    | (with_reducible apply Touches.setF) <;> (first | with_reducible exact F.FLZ_REBUILD_PROGRESS_window | rfl)
    | (with_reducible apply Touches.emitM (M := 137438953472)) <;> rfl
    | with_reducible split
    | with_reducible dsimp only

theorem resolveLog_touches (l) {L : Nat} (h : Nat.lor 144116425365127270 L = L) : Touches L (resolveLog l) := by
  refine Touches.mono (L := 144116425365127270) ?_ h
  unfold resolveLog
  try dsimp only
  repeat' first
    | with_reducible refine Touches.bind ?_ fun _ => ?_
    | with_reducible refine Touches.ite ?_ ?_
    | with_reducible exact Touches.pure _
    | with_reducible exact Touches.rd
    | (with_reducible apply mergeLog_touches); rfl
    | with_reducible split
    | with_reducible dsimp only

theorem openLog_touches (c) {L : Nat} (h : Nat.lor 144116425365127270 L = L) : Touches L (openLog c) := by
  refine Touches.mono (L := 144116425365127270) ?_ h
  unfold openLog
  try dsimp only
  repeat' first
    | with_reducible refine Touches.bind ?_ fun _ => ?_
    | with_reducible refine Touches.ite ?_ ?_
    | with_reducible exact Touches.pure _
    | with_reducible exact Touches.rd
    | (with_reducible apply resolveLog_touches); rfl
    | (with_reducible apply openBlock_touches); rfl
    | with_reducible refine Touches.forAll fun _ => ?_
    | with_reducible split
    | with_reducible dsimp only

theorem openData_touches (c) {L : Nat} (h : Nat.lor 144116425365127270 L = L) : Touches L (openData c) := by
  refine Touches.mono (L := 144116425365127270) ?_ h
  unfold openData
  try dsimp only
  repeat' first
    | with_reducible refine Touches.bind ?_ fun _ => ?_
    | with_reducible refine Touches.ite ?_ ?_
    | with_reducible exact Touches.pure _
    | with_reducible exact Touches.rd
    | (with_reducible apply closeBlock_touches); rfl
    | (with_reducible apply openBlock_touches); rfl
    | with_reducible split
    | with_reducible dsimp only

theorem openFor_touches (c) {L : Nat} (h : Nat.lor 144116425365127270 L = L) : Touches L (openFor c) := by
  refine Touches.mono (L := 144116425365127270) ?_ h
  unfold openFor
  try dsimp only
  repeat' first
    | with_reducible refine Touches.bind ?_ fun _ => ?_
    | with_reducible refine Touches.ite ?_ ?_
    | with_reducible exact Touches.pure _
    | with_reducible exact Touches.rd
    | (with_reducible apply openData_touches); rfl
    | (with_reducible apply resolveLog_touches); rfl
    | (with_reducible apply openLog_touches); rfl
    | with_reducible refine Touches.forAll fun _ => ?_
    | with_reducible split
    | with_reducible dsimp only

theorem prepareJob_touches {L : Nat} (h : Nat.lor 144116425365127270 L = L) : Touches L (prepareJob) := by
  refine Touches.mono (L := 144116425365127270) ?_ h
  unfold prepareJob
  try dsimp only
  repeat' first
    | with_reducible refine Touches.bind ?_ fun _ => ?_
    | with_reducible refine Touches.ite ?_ ?_
    | with_reducible exact Touches.pure _
    | with_reducible exact Touches.rd
    | (with_reducible apply openFor_touches); rfl
    | (with_reducible apply openSpare_touches); rfl
    | (with_reducible apply openBlock_touches); rfl
    | (with_reducible apply openData_touches); rfl
    | (with_reducible apply Touches.emitM (M := 137438953472)) <;> rfl
    | with_reducible split
    | with_reducible dsimp only

theorem pageProgrammed_touches (b) (p) {L : Nat} (h : Nat.lor 144116425365127270 L = L) : Touches L (pageProgrammed b p) := by
  refine Touches.mono (L := 144116425365127270) ?_ h
  unfold pageProgrammed
  try dsimp only
  repeat' first
    | with_reducible refine Touches.bind ?_ fun _ => ?_
    | with_reducible refine Touches.ite ?_ ?_
    | with_reducible exact Touches.pure _
    | with_reducible exact Touches.rd
    | (with_reducible apply Touches.addWrap) <;> (first | with_reducible exact F.FLZ_PROG_CNT_CNT_window | rfl)
    | (with_reducible apply putPage_touches); rfl
    | (with_reducible apply setBlock_touches); rfl
    | (with_reducible apply closeBlock_touches); rfl
    | (with_reducible apply resolveLog_touches); rfl
    | with_reducible refine Touches.forAll fun _ => ?_
    | (with_reducible apply Touches.emitM (M := 268435456)) <;> rfl
    | (with_reducible apply Touches.emitM (M := 137438953472)) <;> rfl
    | with_reducible split
    | with_reducible dsimp only

theorem markRow_touches (l) (b) {L : Nat} (h : Nat.lor 1073741824 L = L) : Touches L (markRow l b) := by
  refine Touches.mono (L := 1073741824) ?_ h
  unfold markRow
  try dsimp only
  repeat' first
    | with_reducible refine Touches.bind ?_ fun _ => ?_
    | with_reducible refine Touches.ite ?_ ?_
    | with_reducible exact Touches.pure _
    | with_reducible exact Touches.rd
    | (with_reducible apply Touches.emitM (M := 1073741824)) <;> rfl
    | with_reducible split
    | with_reducible dsimp only

theorem countStored_touches (strand) (n) (compressed) {L : Nat} (h : Nat.lor 8589934592 L = L) : Touches L (countStored strand n compressed) := by
  refine Touches.mono (L := 8589934592) ?_ h
  unfold countStored
  try dsimp only
  repeat' first
    | with_reducible refine Touches.bind ?_ fun _ => ?_
    | with_reducible refine Touches.ite ?_ ?_
    | with_reducible exact Touches.pure _
    | with_reducible exact Touches.rd
    | (with_reducible apply setStrand_touches); rfl
    | with_reducible split
    | with_reducible dsimp only

theorem uncountStored_touches (strand) (n) {L : Nat} (h : Nat.lor 8589934592 L = L) : Touches L (uncountStored strand n) := by
  refine Touches.mono (L := 8589934592) ?_ h
  unfold uncountStored
  try dsimp only
  repeat' first
    | with_reducible refine Touches.bind ?_ fun _ => ?_
    | with_reducible refine Touches.ite ?_ ?_
    | with_reducible exact Touches.pure _
    | with_reducible exact Touches.rd
    | (with_reducible apply setStrand_touches); rfl
    | with_reducible split
    | with_reducible dsimp only

theorem bindExtent_touches (b) (ext) {L : Nat} (h : Nat.lor 137438953472 L = L) : Touches L (bindExtent b ext) := by
  refine Touches.mono (L := 137438953472) ?_ h
  unfold bindExtent
  try dsimp only
  repeat' first
    | with_reducible refine Touches.bind ?_ fun _ => ?_
    | with_reducible refine Touches.ite ?_ ?_
    | with_reducible exact Touches.pure _
    | with_reducible exact Touches.rd
    | (with_reducible apply setBlock_touches); rfl
    | with_reducible split
    | with_reducible dsimp only

theorem programOk_touches (j) {L : Nat} (h : Nat.lor 144116435037192294 L = L) : Touches L (programOk j) := by
  refine Touches.mono (L := 144116435037192294) ?_ h
  unfold programOk
  try dsimp only
  repeat' first
    | with_reducible refine Touches.bind ?_ fun _ => ?_
    | with_reducible refine Touches.ite ?_ ?_
    | with_reducible exact Touches.pure _
    | with_reducible exact Touches.rd
    | (with_reducible apply Touches.incStop) <;> (first | with_reducible exact F.FLZ_RECON_CNT_CNT_window | with_reducible exact F.FLZ_CMP_RAW_CNT_CNT_window | rfl)
    | (with_reducible apply Touches.addWrap) <;> (first | with_reducible exact F.FLZ_CMP_IN_CNT_CNT_window | with_reducible exact F.FLZ_CMP_OUT_CNT_CNT_window | rfl)
    | (with_reducible apply pageProgrammed_touches); rfl
    | (with_reducible apply bindExtent_touches); rfl
    | (with_reducible apply markRow_touches); rfl
    | (with_reducible apply countStored_touches); rfl
    | with_reducible refine Touches.forAll fun _ => ?_
    | (with_reducible apply Touches.emitM (M := 8388608)) <;> rfl
    | (with_reducible apply Touches.emitM (M := 137438953472)) <;> rfl
    | with_reducible split
    | with_reducible dsimp only

theorem programFailed_touches (j) {L : Nat} (h : Nat.lor 263022295515635303 L = L) : Touches L (programFailed j) := by
  refine Touches.mono (L := 263022295515635303) ?_ h
  unfold programFailed
  try dsimp only
  repeat' first
    | with_reducible refine Touches.bind ?_ fun _ => ?_
    | with_reducible refine Touches.ite ?_ ?_
    | with_reducible exact Touches.pure _
    | with_reducible exact Touches.rd
    | (with_reducible apply uncountStored_touches); rfl
    | (with_reducible apply setBlock_touches); rfl
    | (with_reducible apply copyMember_touches); rfl
    | (with_reducible apply retireBlock_touches); rfl
    | (with_reducible apply closeBlock_touches); rfl
    | with_reducible refine Touches.forAll fun _ => ?_
    | (with_reducible apply Touches.emitM (M := 268435456)) <;> rfl
    | (with_reducible apply Touches.emitM (M := 1073741824)) <;> rfl
    | (with_reducible apply Touches.emitM (M := 137438953472)) <;> rfl
    | with_reducible split
    | with_reducible dsimp only

theorem padFor_touches (keep) {L : Nat} (h : Nat.lor 144116425365127270 L = L) : Touches L (padFor keep) := by
  refine Touches.mono (L := 144116425365127270) ?_ h
  unfold padFor
  try dsimp only
  repeat' first
    | with_reducible refine Touches.bind ?_ fun _ => ?_
    | with_reducible refine Touches.ite ?_ ?_
    | with_reducible exact Touches.pure _
    | with_reducible exact Touches.rd
    | (with_reducible apply openData_touches); rfl
    | (with_reducible apply openLog_touches); rfl
    | (with_reducible apply padRow_touches); rfl
    | with_reducible refine Touches.forAll fun _ => ?_
    | with_reducible split
    | with_reducible dsimp only

theorem dropCopies_touches (vol) (cls) (l) {L : Nat} (h : Nat.lor 576460752303423488 L = L) : Touches L (dropCopies vol cls l) := by
  refine Touches.mono (L := 576460752303423488) ?_ h
  unfold dropCopies
  try dsimp only
  repeat' first
    | with_reducible refine Touches.bind ?_ fun _ => ?_
    | with_reducible refine Touches.ite ?_ ?_
    | with_reducible exact Touches.pure _
    | with_reducible exact Touches.rd
    | (with_reducible apply Touches.emitM (M := 576460752303423488)) <;> rfl
    | with_reducible split
    | with_reducible dsimp only

theorem setDisc_touches (id) (g) {L : Nat} (h : Nat.lor 34359738368 L = L) : Touches L (setDisc id g) := by
  refine Touches.mono (L := 34359738368) ?_ h
  unfold setDisc
  try dsimp only
  repeat' first
    | with_reducible refine Touches.bind ?_ fun _ => ?_
    | with_reducible refine Touches.ite ?_ ?_
    | with_reducible exact Touches.pure _
    | with_reducible exact Touches.rd
    | (with_reducible apply Touches.emitM (M := 34359738368)) <;> rfl
    | with_reducible split
    | with_reducible dsimp only

theorem requestDisc_touches (disc) (vol) (reason) {L : Nat} (h : Nat.lor 144116356377215046 L = L) : Touches L (requestDisc disc vol reason) := by
  refine Touches.mono (L := 144116356377215046) ?_ h
  unfold requestDisc
  try dsimp only
  repeat' first
    | with_reducible refine Touches.bind ?_ fun _ => ?_
    | with_reducible refine Touches.ite ?_ ?_
    | with_reducible exact Touches.pure _
    | with_reducible exact Touches.rd
    | (with_reducible apply raise_touches); rfl
    | (with_reducible apply Touches.emitM (M := 68719476736)) <;> rfl
    | with_reducible split
    | with_reducible dsimp only

theorem lapseRequests_touches (p) {L : Nat} (h : Nat.lor 68719476736 L = L) : Touches L (lapseRequests p) := by
  refine Touches.mono (L := 68719476736) ?_ h
  unfold lapseRequests
  try dsimp only
  repeat' first
    | with_reducible refine Touches.bind ?_ fun _ => ?_
    | with_reducible refine Touches.ite ?_ ?_
    | with_reducible exact Touches.pure _
    | with_reducible exact Touches.rd
    | (with_reducible apply Touches.emitM (M := 68719476736)) <;> rfl
    | with_reducible split
    | with_reducible dsimp only

theorem checkSpace_touches (vol) {L : Nat} (h : Nat.lor 144116291952705606 L = L) : Touches L (checkSpace vol) := by
  refine Touches.mono (L := 144116291952705606) ?_ h
  unfold checkSpace
  try dsimp only
  repeat' first
    | with_reducible refine Touches.bind ?_ fun _ => ?_
    | with_reducible refine Touches.ite ?_ ?_
    | with_reducible exact Touches.pure _
    | with_reducible exact Touches.rd
    | (with_reducible apply raise_touches); rfl
    | (with_reducible apply Touches.emitM (M := 4294967296)) <;> rfl
    | with_reducible split
    | with_reducible dsimp only

theorem checkDisc_touches (id) {L : Nat} (h : Nat.lor 144116322017476678 L = L) : Touches L (checkDisc id) := by
  refine Touches.mono (L := 144116322017476678) ?_ h
  unfold checkDisc
  try dsimp only
  repeat' first
    | with_reducible refine Touches.bind ?_ fun _ => ?_
    | with_reducible refine Touches.ite ?_ ?_
    | with_reducible exact Touches.pure _
    | with_reducible exact Touches.rd
    | (with_reducible apply setDisc_touches); rfl
    | (with_reducible apply raise_touches); rfl
    | with_reducible split
    | with_reducible dsimp only

theorem noteTrack_touches (k) (n) {L : Nat} (h : Nat.lor 17626545782784 L = L) : Touches L (noteTrack k n) := by
  refine Touches.mono (L := 17626545782784) ?_ h
  unfold noteTrack
  try dsimp only
  repeat' first
    | with_reducible refine Touches.bind ?_ fun _ => ?_
    | with_reducible refine Touches.ite ?_ ?_
    | with_reducible exact Touches.pure _
    | with_reducible exact Touches.rd
    | (with_reducible apply setDisc_touches); rfl
    | (with_reducible apply Touches.emitM (M := 17592186044416)) <;> rfl
    | with_reducible split
    | with_reducible dsimp only

theorem recordSkips_touches (k) {L : Nat} (h : Nat.lor 36046423564746752 L = L) : Touches L (recordSkips k) := by
  refine Touches.mono (L := 36046423564746752) ?_ h
  unfold recordSkips
  try dsimp only
  repeat' first
    | with_reducible refine Touches.bind ?_ fun _ => ?_
    | with_reducible refine Touches.ite ?_ ?_
    | with_reducible exact Touches.pure _
    | with_reducible exact Touches.rd
    | (with_reducible apply noteTrack_touches); rfl
    | (with_reducible apply setDisc_touches); rfl
    | with_reducible refine Touches.forAll fun _ => ?_
    | (with_reducible apply Touches.emitM (M := 36028797018963968)) <;> rfl
    | with_reducible split
    | with_reducible dsimp only

theorem migrateBlock_touches (disc) (b) (i) {L : Nat} (h : Nat.lor 2147483648 L = L) : Touches L (migrateBlock disc b i) := by
  refine Touches.mono (L := 2147483648) ?_ h
  unfold migrateBlock
  try dsimp only
  repeat' first
    | with_reducible refine Touches.bind ?_ fun _ => ?_
    | with_reducible refine Touches.ite ?_ ?_
    | with_reducible exact Touches.pure _
    | with_reducible exact Touches.rd
    | (with_reducible apply Touches.emitM (M := 2147483648)) <;> rfl
    | with_reducible split
    | with_reducible dsimp only

theorem markWeak_touches (k) (layer) (track) (sector) {L : Nat} (h : Nat.lor 2147483648 L = L) : Touches L (markWeak k layer track sector) := by
  refine Touches.mono (L := 2147483648) ?_ h
  unfold markWeak
  try dsimp only
  repeat' first
    | with_reducible refine Touches.bind ?_ fun _ => ?_
    | with_reducible refine Touches.ite ?_ ?_
    | with_reducible exact Touches.pure _
    | with_reducible exact Touches.rd
    | (with_reducible apply migrateBlock_touches); rfl
    | with_reducible split
    | with_reducible dsimp only

theorem noteChunks_touches (reads) {L : Nat} (h : Nat.lor 144116287657738342 L = L) : Touches L (noteChunks reads) := by
  refine Touches.mono (L := 144116287657738342) ?_ h
  unfold noteChunks
  try dsimp only
  repeat' first
    | with_reducible refine Touches.bind ?_ fun _ => ?_
    | with_reducible refine Touches.ite ?_ ?_
    | with_reducible exact Touches.pure _
    | with_reducible exact Touches.rd
    | (with_reducible apply Touches.incStop) <;> (first | with_reducible exact F.FLZ_CMP_ERR_CNT_CNT_window | rfl)
    | (with_reducible apply raise_touches); rfl
    | with_reducible refine Touches.forAll fun _ => ?_
    | with_reducible split
    | with_reducible dsimp only

theorem stageExtent_touches (b) (vol) (ext) (fuel) {L : Nat} (h : Nat.lor 17626545782816 L = L) : Touches L (stageExtent b vol ext fuel) := by
  refine Touches.mono (L := 17626545782816) ?_ h
  clear h
  induction fuel with
  | zero =>
    rw [stageExtent]
    try dsimp only
    repeat' first
      | with_reducible refine Touches.bind ?_ fun _ => ?_
      | with_reducible refine Touches.ite ?_ ?_
      | with_reducible exact Touches.pure _
      | with_reducible exact Touches.rd
      | (with_reducible apply setDisc_touches); rfl
      | (with_reducible apply noteRebuilt_touches); rfl
      | (with_reducible apply Touches.emitM (M := 17592186044416)) <;> rfl
      | with_reducible split
      | with_reducible dsimp only
  | succ fuel ih =>
    rw [stageExtent]
    try dsimp only
    repeat' first
      | with_reducible refine Touches.bind ?_ fun _ => ?_
      | with_reducible refine Touches.ite ?_ ?_
      | with_reducible exact Touches.pure _
      | with_reducible exact Touches.rd
      | (with_reducible apply setDisc_touches); rfl
      | (with_reducible apply noteRebuilt_touches); rfl
      | (with_reducible apply Touches.emitM (M := 17592186044416)) <;> rfl
      | with_reducible apply ih
      | with_reducible split
      | with_reducible dsimp only

theorem stageAll_touches (b) {L : Nat} (h : Nat.lor 720594737373904998 L = L) : Touches L (stageAll b) := by
  refine Touches.mono (L := 720594737373904998) ?_ h
  unfold stageAll
  try dsimp only
  repeat' first
    | with_reducible refine Touches.bind ?_ fun _ => ?_
    | with_reducible refine Touches.ite ?_ ?_
    | with_reducible exact Touches.pure _
    | with_reducible exact Touches.rd
    | (with_reducible apply setExtent_touches); rfl
    | (with_reducible apply noteChunks_touches); rfl
    | (with_reducible apply stageExtent_touches); rfl
    | (with_reducible apply dropCopies_touches); rfl
    | (with_reducible apply requestDisc_touches); rfl
    | (with_reducible apply lapseRequests_touches); rfl
    | (with_reducible apply setDisc_touches); rfl
    | with_reducible refine Touches.forAll fun _ => ?_
    | with_reducible split
    | with_reducible dsimp only

theorem goTo_touches (k) (layer) (track) {L : Nat} (h : Nat.lor 70368744444416 L = L) : Touches L (goTo k layer track) := by
  refine Touches.mono (L := 70368744444416) ?_ h
  unfold goTo
  try dsimp only
  repeat' first
    | with_reducible refine Touches.bind ?_ fun _ => ?_
    | with_reducible refine Touches.ite ?_ ?_
    | with_reducible exact Touches.pure _
    | with_reducible exact Touches.rd
    | (with_reducible apply Touches.setF) <;> (first | with_reducible exact F.BAY_OPT_TARGET_TRACK_window _ | rfl)
    | (with_reducible apply beginPullIn_touches); rfl
    | (with_reducible apply beginLayerJump_touches); rfl
    | with_reducible split
    | with_reducible dsimp only

theorem approach_touches (k) (d) {L : Nat} (h : Nat.lor 70368744444416 L = L) : Touches L (approach k d) := by
  refine Touches.mono (L := 70368744444416) ?_ h
  unfold approach
  try dsimp only
  repeat' first
    | with_reducible refine Touches.bind ?_ fun _ => ?_
    | with_reducible refine Touches.ite ?_ ?_
    | with_reducible exact Touches.pure _
    | with_reducible exact Touches.rd
    | (with_reducible apply goTo_touches); rfl
    | with_reducible split
    | with_reducible dsimp only

theorem startSession_touches (vol) {L : Nat} (h : Nat.lor 801765221490692710 L = L) : Touches L (startSession vol) := by
  refine Touches.mono (L := 801765221490692710) ?_ h
  unfold startSession
  try dsimp only
  repeat' first
    | with_reducible refine Touches.bind ?_ fun _ => ?_
    | with_reducible refine Touches.ite ?_ ?_
    | with_reducible exact Touches.pure _
    | with_reducible exact Touches.rd
    | (with_reducible apply lapseRequests_touches); rfl
    | (with_reducible apply padFor_touches); rfl
    | (with_reducible apply stageAll_touches); rfl
    | (with_reducible apply setBay_touches); rfl
    | (with_reducible apply approach_touches); rfl
    | (with_reducible apply requestDisc_touches); rfl
    | with_reducible refine Touches.forAll fun _ => ?_
    | (with_reducible apply Touches.emitM (M := 17592186044416)) <;> rfl
    | with_reducible split
    | with_reducible dsimp only

theorem commitExtent_touches (d) (b) (t) {L : Nat} (h : Nat.lor 144116471536025702 L = L) : Touches L (commitExtent d b t) := by
  refine Touches.mono (L := 144116471536025702) ?_ h
  unfold commitExtent
  try dsimp only
  repeat' first
    | with_reducible refine Touches.bind ?_ fun _ => ?_
    | with_reducible refine Touches.ite ?_ ?_
    | with_reducible exact Touches.pure _
    | with_reducible exact Touches.rd
    | (with_reducible apply setExtent_touches); rfl
    | (with_reducible apply setDisc_touches); rfl
    | (with_reducible apply checkDisc_touches); rfl
    | (with_reducible apply sweepCache_touches); rfl
    | (with_reducible apply settleBlocks_touches); rfl
    | (with_reducible apply Touches.emitM (M := 268435456)) <;> rfl
    | (with_reducible apply Touches.emitM (M := 137438953472)) <;> rfl
    | (with_reducible apply Touches.emitM (M := 1073741824)) <;> rfl
    | with_reducible split
    | with_reducible dsimp only

theorem commitMap_touches (id) (t) {L : Nat} (h : Nat.lor 34359738368 L = L) : Touches L (commitMap id t) := by
  refine Touches.mono (L := 34359738368) ?_ h
  unfold commitMap
  try dsimp only
  repeat' first
    | with_reducible refine Touches.bind ?_ fun _ => ?_
    | with_reducible refine Touches.ite ?_ ?_
    | with_reducible exact Touches.pure _
    | with_reducible exact Touches.rd
    | (with_reducible apply setDisc_touches); rfl
    | with_reducible split
    | with_reducible dsimp only

theorem commitSide_touches (b) (side) {L : Nat} (h : Nat.lor 144134068017037414 L = L) : Touches L (commitSide b side) := by
  refine Touches.mono (L := 144134068017037414) ?_ h
  unfold commitSide
  try dsimp only
  repeat' first
    | with_reducible refine Touches.bind ?_ fun _ => ?_
    | with_reducible refine Touches.ite ?_ ?_
    | with_reducible exact Touches.pure _
    | with_reducible exact Touches.rd
    | (with_reducible apply commitExtent_touches); rfl
    | (with_reducible apply commitMap_touches); rfl
    | (with_reducible apply checkSpace_touches); rfl
    | with_reducible refine Touches.forAll fun _ => ?_
    | (with_reducible apply Touches.emitM (M := 17592186044416)) <;> rfl
    | with_reducible split
    | with_reducible dsimp only

theorem addRecord_touches (id) (side) (kind) (body) {L : Nat} (h : Nat.lor 144116322017476678 L = L) : Touches L (addRecord id side kind body) := by
  refine Touches.mono (L := 144116322017476678) ?_ h
  unfold addRecord
  try dsimp only
  repeat' first
    | with_reducible refine Touches.bind ?_ fun _ => ?_
    | with_reducible refine Touches.ite ?_ ?_
    | with_reducible exact Touches.pure _
    | with_reducible exact Touches.rd
    | (with_reducible apply raise_touches); rfl
    | (with_reducible apply setDisc_touches); rfl
    | with_reducible split
    | with_reducible dsimp only

theorem endSession_touches (b) {L : Nat} (h : Nat.lor 261262688887476294 L = L) : Touches L (endSession b) := by
  refine Touches.mono (L := 261262688887476294) ?_ h
  unfold endSession
  try dsimp only
  repeat' first
    | with_reducible refine Touches.bind ?_ fun _ => ?_
    | with_reducible refine Touches.ite ?_ ?_
    | with_reducible exact Touches.pure _
    | with_reducible exact Touches.rd
    | (with_reducible apply Touches.setF) <;> (first | with_reducible exact F.WRP_STAT_STATE_window _ | rfl)
    | (with_reducible apply addRecord_touches); rfl
    | (with_reducible apply setBay_touches); rfl
    | with_reducible refine Touches.forAll fun _ => ?_
    | (with_reducible apply Touches.emitM (M := 17592186044416)) <;> rfl
    | (with_reducible apply Touches.emitM (M := 36028797018963968)) <;> rfl
    | with_reducible split
    | with_reducible dsimp only

theorem stageMap_touches (b) (fuel) {L : Nat} (h : Nat.lor 225304260621308486 L = L) : Touches L (stageMap b fuel) := by
  refine Touches.mono (L := 225304260621308486) ?_ h
  clear h
  induction fuel with
  | zero =>
    rw [stageMap]
    try dsimp only
    repeat' first
      | with_reducible refine Touches.bind ?_ fun _ => ?_
      | with_reducible refine Touches.ite ?_ ?_
      | with_reducible exact Touches.pure _
      | with_reducible exact Touches.rd
      | (with_reducible apply setDisc_touches); rfl
      | (with_reducible apply setBay_touches); rfl
      | (with_reducible apply approach_touches); rfl
      | with_reducible refine Touches.forAll fun _ => ?_
      | (with_reducible apply Touches.emitM (M := 8388608)) <;> rfl
      | (with_reducible apply Touches.emitM (M := 17592186044416)) <;> rfl
      | with_reducible split
      | with_reducible dsimp only
  | succ fuel ih =>
    rw [stageMap]
    try dsimp only
    repeat' first
      | with_reducible refine Touches.bind ?_ fun _ => ?_
      | with_reducible refine Touches.ite ?_ ?_
      | with_reducible exact Touches.pure _
      | with_reducible exact Touches.rd
      | (with_reducible apply setDisc_touches); rfl
      | (with_reducible apply setBay_touches); rfl
      | (with_reducible apply approach_touches); rfl
      | with_reducible refine Touches.forAll fun _ => ?_
      | (with_reducible apply Touches.emitM (M := 8388608)) <;> rfl
      | (with_reducible apply Touches.emitM (M := 17592186044416)) <;> rfl
      | with_reducible apply ih
      | with_reducible split
      | with_reducible dsimp only

theorem beginMap_touches (b) {L : Nat} (h : Nat.lor 225304260621308486 L = L) : Touches L (beginMap b) := by
  refine Touches.mono (L := 225304260621308486) ?_ h
  unfold beginMap
  try dsimp only
  repeat' first
    | with_reducible refine Touches.bind ?_ fun _ => ?_
    | with_reducible refine Touches.ite ?_ ?_
    | with_reducible exact Touches.pure _
    | with_reducible exact Touches.rd
    | (with_reducible apply stageMap_touches); rfl
    | with_reducible split
    | with_reducible dsimp only

theorem suspendSession_touches (b) {L : Nat} (h : Nat.lor 261262654527705158 L = L) : Touches L (suspendSession b) := by
  refine Touches.mono (L := 261262654527705158) ?_ h
  unfold suspendSession
  try dsimp only
  repeat' first
    | with_reducible refine Touches.bind ?_ fun _ => ?_
    | with_reducible refine Touches.ite ?_ ?_
    | with_reducible exact Touches.pure _
    | with_reducible exact Touches.rd
    | (with_reducible apply stopWriteAtBoundary_touches); rfl
    | (with_reducible apply setBay_touches); rfl
    | with_reducible refine Touches.forAll fun _ => ?_
    | (with_reducible apply Touches.emitM (M := 17592186044416)) <;> rfl
    | (with_reducible apply Touches.emitM (M := 36028797018963968)) <;> rfl
    | with_reducible split
    | with_reducible dsimp only

theorem beginCal_touches (n) (elem) (inst) {L : Nat} (h : Nat.lor 72057594037993472 L = L) : Touches L (beginCal n elem inst) := by
  refine Touches.mono (L := 72057594037993472) ?_ h
  unfold beginCal
  try dsimp only
  repeat' first
    | with_reducible refine Touches.bind ?_ fun _ => ?_
    | with_reducible refine Touches.ite ?_ ?_
    | with_reducible exact Touches.pure _
    | with_reducible exact Touches.rd
    | (with_reducible apply showCal_touches); rfl
    | (with_reducible apply Touches.emitM (M := 72057594037927936)) <;> rfl
    | with_reducible split
    | with_reducible dsimp only

theorem execCalibrationDue_touches (n) (elem) (s : State) : ∃ u, execCalibrationDue n elem s = .next u ∧ Same 108086391056957440 s u := by
  unfold execCalibrationDue
  first | apply Touches.answer | apply Touches.answerWhen | (dsimp only; first | apply Touches.answer | apply Touches.answerWhen)
  try dsimp only
  repeat' first
    | with_reducible refine Touches.bind ?_ fun _ => ?_
    | with_reducible refine Touches.ite ?_ ?_
    | with_reducible exact Touches.pure _
    | with_reducible exact Touches.rd
    | (with_reducible apply beginCal_touches); rfl
    | (with_reducible apply Touches.emitM (M := 72057594037927936)) <;> rfl
    | (with_reducible apply Touches.emitM (M := 36028797018963968)) <;> rfl
    | with_reducible split
    | with_reducible dsimp only

theorem moveRatio_touches (k) (f) (lo) (hi) {L : Nat} (hf : f.window = .wrpRegs) (h : Nat.lor 32768 L = L) : Touches L (moveRatio k f lo hi) := by
  refine Touches.mono (L := 32768) ?_ h
  unfold moveRatio
  try dsimp only
  repeat' first
    | with_reducible refine Touches.bind ?_ fun _ => ?_
    | with_reducible refine Touches.ite ?_ ?_
    | with_reducible exact Touches.pure _
    | with_reducible exact Touches.rd
    | (with_reducible apply Touches.setF) <;> (first | with_reducible exact hf | rfl)
    | with_reducible split
    | with_reducible dsimp only

theorem moveRatios_touches (k) (l) (elem) {L : Nat} (h : Nat.lor 144116287657771078 L = L) : Touches L (moveRatios k l elem) := by
  refine Touches.mono (L := 144116287657771078) ?_ h
  unfold moveRatios
  try dsimp only
  repeat' first
    | with_reducible refine Touches.bind ?_ fun _ => ?_
    | with_reducible refine Touches.ite ?_ ?_
    | with_reducible exact Touches.pure _
    | with_reducible exact Touches.rd
    | (with_reducible apply Touches.setF) <;> (first | with_reducible exact F.WRP_CTL_WR_HOLD_window _ | rfl)
    | (with_reducible apply moveRatio_touches) <;> (first | with_reducible exact F.WRP_LVL_A_SPACE_window _ _ | with_reducible exact F.WRP_LVL_A_MARK_window _ _ | with_reducible exact F.WRP_LVL_B_COOL_window _ _ | with_reducible exact F.WRP_CTL_WR_HOLD_window _ | rfl)
    | (with_reducible apply raise_touches); rfl
    | with_reducible split
    | with_reducible dsimp only

theorem applySegments_touches (k) (l) (elem) (v) {L : Nat} (h : Nat.lor 144116287657836614 L = L) : Touches L (applySegments k l elem v) := by
  refine Touches.mono (L := 144116287657836614) ?_ h
  unfold applySegments
  try dsimp only
  repeat' first
    | with_reducible refine Touches.bind ?_ fun _ => ?_
    | with_reducible refine Touches.ite ?_ ?_
    | with_reducible exact Touches.pure _
    | with_reducible exact Touches.rd
    | (with_reducible apply Touches.setF) <;> (first | with_reducible exact F.CAL_LSEG_MASK_window _ | rfl)
    | with_reducible apply Touches.getF
    | with_reducible apply Touches.getI
    | (with_reducible apply moveRatios_touches); rfl
    | with_reducible split
    | with_reducible dsimp only

theorem scaleGain_touches (e) (j) (permille) {L : Nat} (h : Nat.lor 72057594037928448 L = L) : Touches L (scaleGain e j permille) := by
  refine Touches.mono (L := 72057594037928448) ?_ h
  unfold scaleGain
  try dsimp only
  repeat' first
    | with_reducible refine Touches.bind ?_ fun _ => ?_
    | with_reducible refine Touches.ite ?_ ?_
    | with_reducible exact Touches.pure _
    | with_reducible exact Touches.rd
    | (with_reducible apply Touches.setF) <;> (first | with_reducible exact F.SRV_REGION_TBL_ENTRY_window _ _ _ | with_reducible exact gainFld_window _ _ _ _ | rfl)
    | (with_reducible apply Touches.setI) <;> (first | with_reducible exact gainFld_window _ _ _ _ | rfl)
    | with_reducible refine Touches.forAll fun _ => ?_
    | (with_reducible apply Touches.emitM (M := 72057594037927936)) <;> rfl
    | with_reducible split
    | with_reducible dsimp only

theorem applyCal_touches (n) (elem) (v) {L : Nat} (h : Nat.lor 218425681509717574 L = L) : Touches L (applyCal n elem v) := by
  refine Touches.mono (L := 218425681509717574) ?_ h
  unfold applyCal
  try dsimp only
  repeat' first
    | with_reducible refine Touches.bind ?_ fun _ => ?_
    | with_reducible refine Touches.ite ?_ ?_
    | with_reducible exact Touches.pure _
    | with_reducible exact Touches.rd
    | (with_reducible apply Touches.setF) <;> (first | with_reducible exact F.BAY_LREF_CENTRE_window _ _ | with_reducible exact F.BAY_LREF_SIDE_window _ _ | with_reducible exact F.WRP_LVL_A_MARK_window _ _ | with_reducible exact F.WRP_LVL_B_MEAN_window _ _ | with_reducible exact F.WRP_STRAT_LEAD_LEAD_window _ _ | with_reducible exact F.WRP_STRAT_TRAIL_TRAIL_window _ _ | with_reducible exact F.MOT_SHUNT_OFS_OFS_window _ | rfl)
    | (with_reducible apply Touches.setI) <;> (first | with_reducible exact F.BAY_LAYER_SA_window _ _ | with_reducible exact F.BAY_LAYER_TILT_window _ _ | rfl)
    | (with_reducible apply holdChange_touches); rfl
    | (with_reducible apply scaleGain_touches); rfl
    | (with_reducible apply moveRatios_touches); rfl
    | (with_reducible apply applySegments_touches); rfl
    | (with_reducible apply Touches.emitM (M := 72057594037927936)) <;> rfl
    | with_reducible split
    | with_reducible dsimp only

theorem replaceSub_touches (i) (j) {L : Nat} (h : Nat.lor 146368087471427654 L = L) : Touches L (replaceSub i j) := by
  refine Touches.mono (L := 146368087471427654) ?_ h
  unfold replaceSub
  try dsimp only
  repeat' first
    | with_reducible refine Touches.bind ?_ fun _ => ?_
    | with_reducible refine Touches.ite ?_ ?_
    | with_reducible exact Touches.pure _
    | with_reducible exact Touches.rd
    | (with_reducible apply Touches.setF) <;> (first | with_reducible exact F.RCH_IN_SUB_FAILED_window _ | with_reducible exact F.RCH_IN_STAT_SUB_DEGRADED_window _ | rfl)
    | (with_reducible apply raiseRf_touches); rfl
    | (with_reducible apply degrade_touches); rfl
    | (with_reducible apply holdChange_touches); rfl
    | with_reducible split
    | with_reducible dsimp only

theorem countSub_touches (n) (elem) (failed) {L : Nat} (h : Nat.lor 218425681509355590 L = L) : Touches L (countSub n elem failed) := by
  refine Touches.mono (L := 218425681509355590) ?_ h
  unfold countSub
  try dsimp only
  repeat' first
    | with_reducible refine Touches.bind ?_ fun _ => ?_
    | with_reducible refine Touches.ite ?_ ?_
    | with_reducible exact Touches.pure _
    | with_reducible exact Touches.rd
    | (with_reducible apply replaceSub_touches); rfl
    | (with_reducible apply Touches.emitM (M := 72057594037927936)) <;> rfl
    | with_reducible split
    | with_reducible dsimp only

theorem followCal_touches (n) (elem) (ratios) {L : Nat} (h : Nat.lor 72057594037993472 L = L) : Touches L (followCal n elem ratios) := by
  refine Touches.mono (L := 72057594037993472) ?_ h
  unfold followCal
  try dsimp only
  repeat' first
    | with_reducible refine Touches.bind ?_ fun _ => ?_
    | with_reducible refine Touches.ite ?_ ?_
    | with_reducible exact Touches.pure _
    | with_reducible exact Touches.rd
    | (with_reducible apply beginCal_touches); rfl
    | with_reducible split
    | with_reducible dsimp only

theorem settleCal_touches (n) (elem) (v) {L : Nat} (h : Nat.lor 218425681509717574 L = L) : Touches L (settleCal n elem v) := by
  refine Touches.mono (L := 218425681509717574) ?_ h
  unfold settleCal
  try dsimp only
  repeat' first
    | with_reducible refine Touches.bind ?_ fun _ => ?_
    | with_reducible refine Touches.ite ?_ ?_
    | with_reducible exact Touches.pure _
    | with_reducible exact Touches.rd
    | (with_reducible apply endCal_touches); rfl
    | (with_reducible apply applyCal_touches); rfl
    | (with_reducible apply raise_touches); rfl
    | (with_reducible apply countSub_touches); rfl
    | (with_reducible apply followCal_touches); rfl
    | with_reducible split
    | with_reducible dsimp only

theorem estimateDone_touches (n) (elem) (values) {L : Nat} (h : Nat.lor 218425681509717574 L = L) : Touches L (estimateDone n elem values) := by
  refine Touches.mono (L := 218425681509717574) ?_ h
  unfold estimateDone
  try dsimp only
  repeat' first
    | with_reducible refine Touches.bind ?_ fun _ => ?_
    | with_reducible refine Touches.ite ?_ ?_
    | with_reducible exact Touches.pure _
    | with_reducible exact Touches.rd
    | (with_reducible apply abortCal_touches); rfl
    | (with_reducible apply settleCal_touches); rfl
    | (with_reducible apply raise_touches); rfl
    | (with_reducible apply endCal_touches); rfl
    | (with_reducible apply countSub_touches); rfl
    | (with_reducible apply Touches.emitM (M := 72057594037927936)) <;> rfl
    | with_reducible split
    | with_reducible dsimp only

theorem execSpeedWindowEnd_touches (b) (s : State) : ∃ u, execSpeedWindowEnd b s = .next u ∧ Same 263022148010368582 s u := by
  unfold execSpeedWindowEnd
  first | apply Touches.answer | apply Touches.answerWhen | (dsimp only; first | apply Touches.answer | apply Touches.answerWhen)
  try dsimp only
  repeat' first
    | with_reducible refine Touches.bind ?_ fun _ => ?_
    | with_reducible refine Touches.ite ?_ ?_
    | with_reducible exact Touches.pure _
    | with_reducible exact Touches.rd
    | (with_reducible apply lowerSpeed_touches); rfl
    | (with_reducible apply raiseSpeed_touches); rfl
    | (with_reducible apply Touches.emitM (M := 72057594037927936)) <;> rfl
    | with_reducible split
    | with_reducible dsimp only

theorem takeThrottle_touches (level) {L : Nat} (h : Nat.lor 263022148010368582 L = L) : Touches L (takeThrottle level) := by
  refine Touches.mono (L := 263022148010368582) ?_ h
  unfold takeThrottle
  try dsimp only
  repeat' first
    | with_reducible refine Touches.bind ?_ fun _ => ?_
    | with_reducible refine Touches.ite ?_ ?_
    | with_reducible exact Touches.pure _
    | with_reducible exact Touches.rd
    | (with_reducible apply Touches.setF) <;> (first | with_reducible exact F.CAL_THERM_LEVEL_window | rfl)
    | (with_reducible apply raise_touches); rfl
    | (with_reducible apply settleSpeeds_touches); rfl
    | (with_reducible apply suspendSession_touches); rfl
    | with_reducible refine Touches.forAll fun _ => ?_
    | with_reducible split
    | with_reducible dsimp only

theorem execThermalSample_touches (t) (s : State) : ∃ u, execThermalSample t s = .next u ∧ Same 263022148010368582 s u := by
  unfold execThermalSample
  first | apply Touches.answer | apply Touches.answerWhen | (dsimp only; first | apply Touches.answer | apply Touches.answerWhen)
  try dsimp only
  repeat' first
    | with_reducible refine Touches.bind ?_ fun _ => ?_
    | with_reducible refine Touches.ite ?_ ?_
    | with_reducible exact Touches.pure _
    | with_reducible exact Touches.rd
    | (with_reducible apply Touches.setI) <;> (first | with_reducible exact F.CAL_THERM_TEMP_window | rfl)
    | (with_reducible apply takeThrottle_touches); rfl
    | (with_reducible apply Touches.emitM (M := 274877906944)) <;> rfl
    | with_reducible split
    | with_reducible dsimp only

theorem execThrottleExit_touches (t) (s : State) : ∃ u, execThrottleExit t s = .next u ∧ Same 263022148010368582 s u := by
  unfold execThrottleExit
  first | apply Touches.answer | apply Touches.answerWhen | (dsimp only; first | apply Touches.answer | apply Touches.answerWhen)
  try dsimp only
  repeat' first
    | with_reducible refine Touches.bind ?_ fun _ => ?_
    | with_reducible refine Touches.ite ?_ ?_
    | with_reducible exact Touches.pure _
    | with_reducible exact Touches.rd
    | (with_reducible apply Touches.setI) <;> (first | with_reducible exact F.CAL_THERM_TEMP_window | rfl)
    | (with_reducible apply takeThrottle_touches); rfl
    | with_reducible split
    | with_reducible dsimp only

theorem setInst_touches (id) (g) {L : Nat} (h : Nat.lor 4398046511104 L = L) : Touches L (setInst id g) := by
  refine Touches.mono (L := 4398046511104) ?_ h
  unfold setInst
  try dsimp only
  repeat' first
    | with_reducible refine Touches.bind ?_ fun _ => ?_
    | with_reducible refine Touches.ite ?_ ?_
    | with_reducible exact Touches.pure _
    | with_reducible exact Touches.rd
    | (with_reducible apply Touches.emitM (M := 4398046511104)) <;> rfl
    | with_reducible split
    | with_reducible dsimp only

theorem setSq_touches (f) (n) (g) {L : Nat} (h : Nat.lor 1099511627776 L = L) : Touches L (setSq f n g) := by
  refine Touches.mono (L := 1099511627776) ?_ h
  unfold setSq
  try dsimp only
  repeat' first
    | with_reducible refine Touches.bind ?_ fun _ => ?_
    | with_reducible refine Touches.ite ?_ ?_
    | with_reducible exact Touches.pure _
    | with_reducible exact Touches.rd
    | (with_reducible apply Touches.emitM (M := 1099511627776)) <;> rfl
    | with_reducible split
    | with_reducible dsimp only

theorem setCq_touches (f) (n) (g) {L : Nat} (h : Nat.lor 1099511627776 L = L) : Touches L (setCq f n g) := by
  refine Touches.mono (L := 1099511627776) ?_ h
  unfold setCq
  try dsimp only
  repeat' first
    | with_reducible refine Touches.bind ?_ fun _ => ?_
    | with_reducible refine Touches.ite ?_ ?_
    | with_reducible exact Touches.pure _
    | with_reducible exact Touches.rd
    | (with_reducible apply Touches.emitM (M := 1099511627776)) <;> rfl
    | with_reducible split
    | with_reducible dsimp only

theorem setChain_touches (i) (g) {L : Nat} (h : Nat.lor 1099511627776 L = L) : Touches L (setChain i g) := by
  refine Touches.mono (L := 1099511627776) ?_ h
  unfold setChain
  try dsimp only
  repeat' first
    | with_reducible refine Touches.bind ?_ fun _ => ?_
    | with_reducible refine Touches.ite ?_ ?_
    | with_reducible exact Touches.pure _
    | with_reducible exact Touches.rd
    | (with_reducible apply setSq_touches); rfl
    | with_reducible split
    | with_reducible dsimp only

theorem showThreads_touches {L : Nat} (h : Nat.lor 4 L = L) : Touches L (showThreads) := by
  refine Touches.mono (L := 4) ?_ h
  unfold showThreads
  try dsimp only
  repeat' first
    | with_reducible refine Touches.bind ?_ fun _ => ?_
    | with_reducible refine Touches.ite ?_ ?_
    | with_reducible exact Touches.pure _
    | with_reducible exact Touches.rd
    | (with_reducible apply Touches.setF) <;> (first | with_reducible exact F.SEQ_BUSY_PARKED_window | rfl)
    | with_reducible split
    | with_reducible dsimp only

theorem completeAs_touches (i) (code) (dw0) (wrote) {L : Nat} (h : Nat.lor 144120685633994756 L = L) : Touches L (completeAs i code dw0 wrote) := by
  refine Touches.mono (L := 144120685633994756) ?_ h
  unfold completeAs
  try dsimp only
  repeat' first
    | with_reducible refine Touches.bind ?_ fun _ => ?_
    | with_reducible refine Touches.ite ?_ ?_
    | with_reducible exact Touches.pure _
    | with_reducible exact Touches.rd
    | (with_reducible apply showThreads_touches); rfl
    | (with_reducible apply setCq_touches); rfl
    | (with_reducible apply setChain_touches); rfl
    | (with_reducible apply setSq_touches); rfl
    | (with_reducible apply Touches.emitM (M := 4398046511104)) <;> rfl
    | (with_reducible apply Touches.emitM (M := 144115188075855872)) <;> rfl
    | with_reducible split
    | with_reducible dsimp only

theorem complete_touches (id) (code) (dw0) {L : Nat} (h : Nat.lor 144120685633994756 L = L) : Touches L (complete id code dw0) := by
  refine Touches.mono (L := 144120685633994756) ?_ h
  unfold complete
  try dsimp only
  repeat' first
    | with_reducible refine Touches.bind ?_ fun _ => ?_
    | with_reducible refine Touches.ite ?_ ?_
    | with_reducible exact Touches.pure _
    | with_reducible exact Touches.rd
    | (with_reducible apply completeAs_touches); rfl
    | with_reducible split
    | with_reducible dsimp only

theorem abortInst_touches (i) (code) {L : Nat} (h : Nat.lor 144120685633994756 L = L) : Touches L (abortInst i code) := by
  refine Touches.mono (L := 144120685633994756) ?_ h
  unfold abortInst
  try dsimp only
  repeat' first
    | with_reducible refine Touches.bind ?_ fun _ => ?_
    | with_reducible refine Touches.ite ?_ ?_
    | with_reducible exact Touches.pure _
    | with_reducible exact Touches.rd
    | (with_reducible apply Touches.incStop) <;> (first | with_reducible exact F.SEQ_ABANDON_CNT_CNT_window | rfl)
    | (with_reducible apply completeAs_touches); rfl
    | with_reducible split
    | with_reducible dsimp only

theorem abortAll_touches (p) (code) {L : Nat} (h : Nat.lor 144120685633994756 L = L) : Touches L (abortAll p code) := by
  refine Touches.mono (L := 144120685633994756) ?_ h
  unfold abortAll
  try dsimp only
  repeat' first
    | with_reducible refine Touches.bind ?_ fun _ => ?_
    | with_reducible refine Touches.ite ?_ ?_
    | with_reducible exact Touches.pure _
    | with_reducible exact Touches.rd
    | (with_reducible apply abortInst_touches); rfl
    | with_reducible refine Touches.forAll fun _ => ?_
    | with_reducible split
    | with_reducible dsimp only

theorem disownAll_touches (f) {L : Nat} (h : Nat.lor 144119586122366980 L = L) : Touches L (disownAll f) := by
  refine Touches.mono (L := 144119586122366980) ?_ h
  unfold disownAll
  try dsimp only
  repeat' first
    | with_reducible refine Touches.bind ?_ fun _ => ?_
    | with_reducible refine Touches.ite ?_ ?_
    | with_reducible exact Touches.pure _
    | with_reducible exact Touches.rd
    | (with_reducible apply Touches.addStop) <;> (first | with_reducible exact F.SEQ_ABANDON_CNT_CNT_window | rfl)
    | (with_reducible apply showThreads_touches); rfl
    | (with_reducible apply Touches.emitM (M := 144115188075855872)) <;> rfl
    | (with_reducible apply Touches.emitM (M := 4398046511104)) <;> rfl
    | with_reducible split
    | with_reducible dsimp only

theorem admitClass_touches (i) {L : Nat} (h : Nat.lor 6597069766656 L = L) : Touches L (admitClass i) := by
  refine Touches.mono (L := 6597069766656) ?_ h
  unfold admitClass
  try dsimp only
  repeat' first
    | with_reducible refine Touches.bind ?_ fun _ => ?_
    | with_reducible refine Touches.ite ?_ ?_
    | with_reducible exact Touches.pure _
    | with_reducible exact Touches.rd
    | (with_reducible apply setInst_touches); rfl
    | (with_reducible apply Touches.emitM (M := 2199023255552)) <;> rfl
    | with_reducible split
    | with_reducible dsimp only

theorem beginClose_touches (i) {L : Nat} (h : Nat.lor 8589934592 L = L) : Touches L (beginClose i) := by
  refine Touches.mono (L := 8589934592) ?_ h
  unfold beginClose
  try dsimp only
  repeat' first
    | with_reducible refine Touches.bind ?_ fun _ => ?_
    | with_reducible refine Touches.ite ?_ ?_
    | with_reducible exact Touches.pure _
    | with_reducible exact Touches.rd
    | (with_reducible apply setStrand_touches); rfl
    | with_reducible split
    | with_reducible dsimp only

theorem startInst_touches (i) {L : Nat} (h : Nat.lor 144122893247184900 L = L) : Touches L (startInst i) := by
  refine Touches.mono (L := 144122893247184900) ?_ h
  unfold startInst
  try dsimp only
  repeat' first
    | with_reducible refine Touches.bind ?_ fun _ => ?_
    | with_reducible refine Touches.ite ?_ ?_
    | with_reducible exact Touches.pure _
    | with_reducible exact Touches.rd
    | (with_reducible apply complete_touches); rfl
    | (with_reducible apply setChain_touches); rfl
    | (with_reducible apply admitClass_touches); rfl
    | (with_reducible apply beginClose_touches); rfl
    | (with_reducible apply setInst_touches); rfl
    | (with_reducible apply showThreads_touches); rfl
    | (with_reducible apply Touches.emitM (M := 144115188075855872)) <;> rfl
    | with_reducible split
    | with_reducible dsimp only

theorem releaseHeld_touches {L : Nat} (h : Nat.lor 144122893247184900 L = L) : Touches L (releaseHeld) := by
  refine Touches.mono (L := 144122893247184900) ?_ h
  unfold releaseHeld
  try dsimp only
  repeat' first
    | with_reducible refine Touches.bind ?_ fun _ => ?_
    | with_reducible refine Touches.ite ?_ ?_
    | with_reducible exact Touches.pure _
    | with_reducible exact Touches.rd
    | (with_reducible apply startInst_touches); rfl
    | with_reducible refine Touches.forAll fun _ => ?_
    | with_reducible split
    | with_reducible dsimp only

theorem writeBuffer_touches (id) (b) {L : Nat} (h : Nat.lor 2097152 L = L) : Touches L (writeBuffer id b) := by
  refine Touches.mono (L := 2097152) ?_ h
  unfold writeBuffer
  try dsimp only
  repeat' first
    | with_reducible refine Touches.bind ?_ fun _ => ?_
    | with_reducible refine Touches.ite ?_ ?_
    | with_reducible exact Touches.pure _
    | with_reducible exact Touches.rd
    | (with_reducible apply Touches.emitM (M := 2097152)) <;> rfl
    | with_reducible split
    | with_reducible dsimp only

theorem takeBucket_touches (i) {L : Nat} (h : Nat.lor 137438953472 L = L) : Touches L (takeBucket i) := by
  refine Touches.mono (L := 137438953472) ?_ h
  unfold takeBucket
  try dsimp only
  repeat' first
    | with_reducible refine Touches.bind ?_ fun _ => ?_
    | with_reducible refine Touches.ite ?_ ?_
    | with_reducible exact Touches.pure _
    | with_reducible exact Touches.rd
    | (with_reducible apply Touches.emitM (M := 137438953472)) <;> rfl
    | with_reducible split
    | with_reducible dsimp only

theorem showGate_touches {L : Nat} (h : Nat.lor 32 L = L) : Touches L (showGate) := by
  refine Touches.mono (L := 32) ?_ h
  unfold showGate
  try dsimp only
  repeat' first
    | with_reducible refine Touches.bind ?_ fun _ => ?_
    | with_reducible refine Touches.ite ?_ ?_
    | with_reducible exact Touches.pure _
    | with_reducible exact Touches.rd
    | (with_reducible apply Touches.setF) <;> (first | with_reducible exact F.FLZ_STAT_DRAM_GATED_window | rfl)
    | with_reducible split
    | with_reducible dsimp only

theorem settleFlush_touches (i) {L : Nat} (h : Nat.lor 144120685633994756 L = L) : Touches L (settleFlush i) := by
  refine Touches.mono (L := 144120685633994756) ?_ h
  unfold settleFlush
  try dsimp only
  repeat' first
    | with_reducible refine Touches.bind ?_ fun _ => ?_
    | with_reducible refine Touches.ite ?_ ?_
    | with_reducible exact Touches.pure _
    | with_reducible exact Touches.rd
    | (with_reducible apply complete_touches); rfl
    | with_reducible split
    | with_reducible dsimp only

theorem settleClose_touches (i) {L : Nat} (h : Nat.lor 144120832001572966 L = L) : Touches L (settleClose i) := by
  refine Touches.mono (L := 144120832001572966) ?_ h
  unfold settleClose
  try dsimp only
  repeat' first
    | with_reducible refine Touches.bind ?_ fun _ => ?_
    | with_reducible refine Touches.ite ?_ ?_
    | with_reducible exact Touches.pure _
    | with_reducible exact Touches.rd
    | (with_reducible apply complete_touches); rfl
    | (with_reducible apply writeBuffer_touches); rfl
    | (with_reducible apply setStrand_touches); rfl
    | (with_reducible apply openData_touches); rfl
    | (with_reducible apply closeBlock_touches); rfl
    | (with_reducible apply attend_touches); rfl
    | with_reducible refine Touches.forAll fun _ => ?_
    | with_reducible split
    | with_reducible dsimp only

theorem settleSeal_touches (i) {L : Nat} (h : Nat.lor 144120694498656260 L = L) : Touches L (settleSeal i) := by
  refine Touches.mono (L := 144120694498656260) ?_ h
  unfold settleSeal
  try dsimp only
  repeat' first
    | with_reducible refine Touches.bind ?_ fun _ => ?_
    | with_reducible refine Touches.ite ?_ ?_
    | with_reducible exact Touches.pure _
    | with_reducible exact Touches.rd
    | (with_reducible apply complete_touches); rfl
    | (with_reducible apply writeBuffer_touches); rfl
    | (with_reducible apply setStrand_touches); rfl
    | (with_reducible apply Touches.emitM (M := 4194304)) <;> rfl
    | (with_reducible apply Touches.emitM (M := 268435456)) <;> rfl
    | with_reducible split
    | with_reducible dsimp only

theorem freeStrand_touches (n) {L : Nat} (h : Nat.lor 144116351276941382 L = L) : Touches L (freeStrand n) := by
  refine Touches.mono (L := 144116351276941382) ?_ h
  unfold freeStrand
  try dsimp only
  repeat' first
    | with_reducible refine Touches.bind ?_ fun _ => ?_
    | with_reducible refine Touches.ite ?_ ?_
    | with_reducible exact Touches.pure _
    | with_reducible exact Touches.rd
    | (with_reducible apply sweepCache_touches); rfl
    | (with_reducible apply attend_touches); rfl
    | (with_reducible apply Touches.emitM (M := 17179869184)) <;> rfl
    | (with_reducible apply Touches.emitM (M := 8589934592)) <;> rfl
    | (with_reducible apply Touches.emitM (M := 268435456)) <;> rfl
    | with_reducible split
    | with_reducible dsimp only

theorem settleDelete_touches (i) {L : Nat} (h : Nat.lor 180167348981858406 L = L) : Touches L (settleDelete i) := by
  refine Touches.mono (L := 180167348981858406) ?_ h
  unfold settleDelete
  try dsimp only
  repeat' first
    | with_reducible refine Touches.bind ?_ fun _ => ?_
    | with_reducible refine Touches.ite ?_ ?_
    | with_reducible exact Touches.pure _
    | with_reducible exact Touches.rd
    | (with_reducible apply freeStrand_touches); rfl
    | (with_reducible apply lapseRequests_touches); rfl
    | (with_reducible apply stopWriteAtBoundary_touches); rfl
    | (with_reducible apply settleBlocks_touches); rfl
    | (with_reducible apply complete_touches); rfl
    | with_reducible refine Touches.forAll fun _ => ?_
    | (with_reducible apply Touches.emitM (M := 1073741824)) <;> rfl
    | (with_reducible apply Touches.emitM (M := 2147483648)) <;> rfl
    | (with_reducible apply Touches.emitM (M := 34359738368)) <;> rfl
    | (with_reducible apply Touches.emitM (M := 4294967296)) <;> rfl
    | (with_reducible apply Touches.emitM (M := 17592186044416)) <;> rfl
    | (with_reducible apply Touches.emitM (M := 268435456)) <;> rfl
    | with_reducible split
    | with_reducible dsimp only

theorem closeSession_touches (b) {L : Nat} (h : Nat.lor 261262688887476294 L = L) : Touches L (closeSession b) := by
  refine Touches.mono (L := 261262688887476294) ?_ h
  unfold closeSession
  try dsimp only
  repeat' first
    | with_reducible refine Touches.bind ?_ fun _ => ?_
    | with_reducible refine Touches.ite ?_ ?_
    | with_reducible exact Touches.pure _
    | with_reducible exact Touches.rd
    | (with_reducible apply endSession_touches); rfl
    | with_reducible refine Touches.forAll fun _ => ?_
    | (with_reducible apply Touches.emitM (M := 17592186044416)) <;> rfl
    | (with_reducible apply Touches.emitM (M := 36028797018963968)) <;> rfl
    | with_reducible split
    | with_reducible dsimp only

theorem settleUnmount_touches (i) {L : Nat} (h : Nat.lor 263026649144467014 L = L) : Touches L (settleUnmount i) := by
  refine Touches.mono (L := 263026649144467014) ?_ h
  unfold settleUnmount
  try dsimp only
  repeat' first
    | with_reducible refine Touches.bind ?_ fun _ => ?_
    | with_reducible refine Touches.ite ?_ ?_
    | with_reducible exact Touches.pure _
    | with_reducible exact Touches.rd
    | (with_reducible apply closeSession_touches); rfl
    | (with_reducible apply beginMap_touches); rfl
    | (with_reducible apply setInst_touches); rfl
    | (with_reducible apply raise_touches); rfl
    | (with_reducible apply parkBay_touches); rfl
    | (with_reducible apply setDisc_touches); rfl
    | (with_reducible apply requestDisc_touches); rfl
    | (with_reducible apply complete_touches); rfl
    | (with_reducible apply Touches.emitM (M := 17592186044416)) <;> rfl
    | with_reducible split
    | with_reducible dsimp only

theorem settleSpin_touches (i) {L : Nat} (h : Nat.lor 144120685633994756 L = L) : Touches L (settleSpin i) := by
  refine Touches.mono (L := 144120685633994756) ?_ h
  unfold settleSpin
  try dsimp only
  repeat' first
    | with_reducible refine Touches.bind ?_ fun _ => ?_
    | with_reducible refine Touches.ite ?_ ?_
    | with_reducible exact Touches.pure _
    | with_reducible exact Touches.rd
    | (with_reducible apply complete_touches); rfl
    | with_reducible split
    | with_reducible dsimp only

theorem settlePark_touches (i) {L : Nat} (h : Nat.lor 144120685633994756 L = L) : Touches L (settlePark i) := by
  refine Touches.mono (L := 144120685633994756) ?_ h
  unfold settlePark
  try dsimp only
  repeat' first
    | with_reducible refine Touches.bind ?_ fun _ => ?_
    | with_reducible refine Touches.ite ?_ ?_
    | with_reducible exact Touches.pure _
    | with_reducible exact Touches.rd
    | (with_reducible apply complete_touches); rfl
    | with_reducible split
    | with_reducible dsimp only

theorem settleReset_touches (i) {L : Nat} (h : Nat.lor 144120749323452486 L = L) : Touches L (settleReset i) := by
  refine Touches.mono (L := 144120749323452486) ?_ h
  unfold settleReset
  try dsimp only
  repeat' first
    | with_reducible refine Touches.bind ?_ fun _ => ?_
    | with_reducible refine Touches.ite ?_ ?_
    | with_reducible exact Touches.pure _
    | with_reducible exact Touches.rd
    | (with_reducible apply raise_touches); rfl
    | (with_reducible apply complete_touches); rfl
    | (with_reducible apply freeStrand_touches); rfl
    | (with_reducible apply setSq_touches); rfl
    | with_reducible split
    | with_reducible dsimp only

theorem settleDeleteRing_touches (i) {L : Nat} (h : Nat.lor 144120685633994756 L = L) : Touches L (settleDeleteRing i) := by
  refine Touches.mono (L := 144120685633994756) ?_ h
  unfold settleDeleteRing
  try dsimp only
  repeat' first
    | with_reducible refine Touches.bind ?_ fun _ => ?_
    | with_reducible refine Touches.ite ?_ ?_
    | with_reducible exact Touches.pure _
    | with_reducible exact Touches.rd
    | (with_reducible apply complete_touches); rfl
    | (with_reducible apply Touches.emitM (M := 1099511627776)) <;> rfl
    | with_reducible split
    | with_reducible dsimp only

theorem settleCompact_touches (i) {L : Nat} (h : Nat.lor 144120720063987782 L = L) : Touches L (settleCompact i) := by
  refine Touches.mono (L := 144120720063987782) ?_ h
  unfold settleCompact
  try dsimp only
  repeat' first
    | with_reducible refine Touches.bind ?_ fun _ => ?_
    | with_reducible refine Touches.ite ?_ ?_
    | with_reducible exact Touches.pure _
    | with_reducible exact Touches.rd
    | (with_reducible apply checkDisc_touches); rfl
    | (with_reducible apply complete_touches); rfl
    | with_reducible split
    | with_reducible dsimp only

theorem settleMount_touches (i) {L : Nat} (h : Nat.lor 144138277820039172 L = L) : Touches L (settleMount i) := by
  refine Touches.mono (L := 144138277820039172) ?_ h
  unfold settleMount
  try dsimp only
  repeat' first
    | with_reducible refine Touches.bind ?_ fun _ => ?_
    | with_reducible refine Touches.ite ?_ ?_
    | with_reducible exact Touches.pure _
    | with_reducible exact Touches.rd
    | (with_reducible apply complete_touches); rfl
    | (with_reducible apply Touches.emitM (M := 17592186044416)) <;> rfl
    | with_reducible split
    | with_reducible dsimp only

theorem settleCalibrate_touches (i) {L : Nat} (h : Nat.lor 216178279671988228 L = L) : Touches L (settleCalibrate i) := by
  refine Touches.mono (L := 216178279671988228) ?_ h
  unfold settleCalibrate
  try dsimp only
  repeat' first
    | with_reducible refine Touches.bind ?_ fun _ => ?_
    | with_reducible refine Touches.ite ?_ ?_
    | with_reducible exact Touches.pure _
    | with_reducible exact Touches.rd
    | (with_reducible apply complete_touches); rfl
    | (with_reducible apply beginCal_touches); rfl
    | (with_reducible apply setInst_touches); rfl
    | with_reducible split
    | with_reducible dsimp only

theorem showCompacting_touches {L : Nat} (h : Nat.lor 34359738368 L = L) : Touches L (showCompacting) := by
  refine Touches.mono (L := 34359738368) ?_ h
  unfold showCompacting
  try dsimp only
  repeat' first
    | with_reducible refine Touches.bind ?_ fun _ => ?_
    | with_reducible refine Touches.ite ?_ ?_
    | with_reducible exact Touches.pure _
    | with_reducible exact Touches.rd
    | (with_reducible apply Touches.emitM (M := 34359738368)) <;> rfl
    | with_reducible split
    | with_reducible dsimp only

theorem settle_touches {L : Nat} (h : Nat.lor 263029019165302374 L = L) : Touches L (settle) := by
  refine Touches.mono (L := 263029019165302374) ?_ h
  unfold settle
  try dsimp only
  repeat' first
    | with_reducible refine Touches.bind ?_ fun _ => ?_
    | with_reducible refine Touches.ite ?_ ?_
    | with_reducible exact Touches.pure _
    | with_reducible exact Touches.rd
    | (with_reducible apply sweepCache_touches); rfl
    | (with_reducible apply settleFlush_touches); rfl
    | (with_reducible apply settleClose_touches); rfl
    | (with_reducible apply settleSeal_touches); rfl
    | (with_reducible apply settleDelete_touches); rfl
    | (with_reducible apply settleMount_touches); rfl
    | (with_reducible apply settleUnmount_touches); rfl
    | (with_reducible apply settleCompact_touches); rfl
    | (with_reducible apply settleSpin_touches); rfl
    | (with_reducible apply settlePark_touches); rfl
    | (with_reducible apply settleReset_touches); rfl
    | (with_reducible apply settleCalibrate_touches); rfl
    | (with_reducible apply settleDeleteRing_touches); rfl
    | (with_reducible apply releaseHeld_touches); rfl
    | (with_reducible apply showCompacting_touches); rfl
    | (with_reducible apply saveBlocks_touches); rfl
    | (with_reducible apply showGate_touches); rfl
    | with_reducible refine Touches.forAll fun _ => ?_
    | (with_reducible apply Touches.emitM (M := 1099511627776)) <;> rfl
    | with_reducible split
    | with_reducible dsimp only

theorem perform_touches (id) (op) (checks) (m) {L : Nat} (h : Nat.lor 263029019165302374 L = L) (hm : ∀ i, Touches L (m i)) : Touches L (perform id op checks m) := by
  unfold perform
  try dsimp only
  repeat' first
    | with_reducible refine Touches.bind ?_ fun _ => ?_
    | with_reducible refine Touches.ite ?_ ?_
    | with_reducible exact Touches.pure _
    | with_reducible exact Touches.rd
    | (with_reducible apply complete_touches); exact sub (by rfl) h
    | (with_reducible apply settle_touches); exact sub (by rfl) h
    | with_reducible apply hm
    | with_reducible split
    | with_reducible dsimp only

theorem execWslTrain_touches (m) (k) (s : State) : ∃ u, execWslTrain m k s = .next u ∧ Same 180215453420913222 s u := by
  unfold execWslTrain
  first | apply Touches.answer | apply Touches.answerWhen | (dsimp only; first | apply Touches.answer | apply Touches.answerWhen)
  try dsimp only
  repeat' first
    | with_reducible refine Touches.bind ?_ fun _ => ?_
    | with_reducible refine Touches.ite ?_ ?_
    | with_reducible exact Touches.pure _
    | with_reducible exact Touches.rd
    | (with_reducible apply Touches.setF) <;> (first | with_reducible exact F.WRP_STAT_CFG_REJECT_window _ | rfl)
    | (with_reducible apply raiseWrp_touches); rfl
    | (with_reducible apply trainLink_touches); rfl
    | with_reducible split
    | with_reducible dsimp only

theorem rewriteBlock_touches (k) (track) (sector) {L : Nat} (h : Nat.lor 36046425712230400 L = L) : Touches L (rewriteBlock k track sector) := by
  refine Touches.mono (L := 36046425712230400) ?_ h
  unfold rewriteBlock
  try dsimp only
  repeat' first
    | with_reducible refine Touches.bind ?_ fun _ => ?_
    | with_reducible refine Touches.ite ?_ ?_
    | with_reducible exact Touches.pure _
    | with_reducible exact Touches.rd
    | (with_reducible apply setDisc_touches); rfl
    | (with_reducible apply migrateBlock_touches); rfl
    | (with_reducible apply Touches.emitM (M := 17592186044416)) <;> rfl
    | (with_reducible apply Touches.emitM (M := 36028797018963968)) <;> rfl
    | with_reducible split
    | with_reducible dsimp only

theorem showVerdict_touches (k) (x) (weight) (asym) (pass) {L : Nat} (h : Nat.lor 36028797023191040 L = L) : Touches L (showVerdict k x weight asym pass) := by
  refine Touches.mono (L := 36028797023191040) ?_ h
  unfold showVerdict
  try dsimp only
  repeat' first
    | with_reducible refine Touches.bind ?_ fun _ => ?_
    | with_reducible refine Touches.ite ?_ ?_
    | with_reducible exact Touches.pure _
    | with_reducible exact Touches.rd
    | (with_reducible apply Touches.setF) <;> (first | with_reducible exact F.WRP_RAW_LAST_WEIGHT_window _ | with_reducible exact F.WRP_RAW_LAST_PASS_window _ | with_reducible exact F.WRP_RAW_LAST_SYNC_MISSED_window _ | with_reducible exact F.WRP_RAW_LAST_TIMING_LIMIT_window _ | with_reducible exact F.WRP_RAW_LAST_SECTOR_window _ | with_reducible exact F.WRP_RAW_PASS_CNT_CNT_window _ | with_reducible exact F.WRP_RAW_FAIL_CNT_CNT_window _ | with_reducible exact F.WRP_RAW_ASYM_ASYM_window _ | rfl)
    | (with_reducible apply Touches.setI) <;> (first | with_reducible exact F.WRP_RAW_LAST_WEIGHT_window _ | with_reducible exact F.WRP_RAW_LAST_PASS_window _ | with_reducible exact F.WRP_RAW_LAST_SYNC_MISSED_window _ | with_reducible exact F.WRP_RAW_LAST_TIMING_LIMIT_window _ | with_reducible exact F.WRP_RAW_LAST_SECTOR_window _ | with_reducible exact F.WRP_RAW_PASS_CNT_CNT_window _ | with_reducible exact F.WRP_RAW_FAIL_CNT_CNT_window _ | with_reducible exact F.WRP_RAW_ASYM_ASYM_window _ | rfl)
    | (with_reducible apply Touches.addWrap) <;> (first | with_reducible exact F.WRP_RAW_LAST_WEIGHT_window _ | with_reducible exact F.WRP_RAW_LAST_PASS_window _ | with_reducible exact F.WRP_RAW_LAST_SYNC_MISSED_window _ | with_reducible exact F.WRP_RAW_LAST_TIMING_LIMIT_window _ | with_reducible exact F.WRP_RAW_LAST_SECTOR_window _ | with_reducible exact F.WRP_RAW_PASS_CNT_CNT_window _ | with_reducible exact F.WRP_RAW_FAIL_CNT_CNT_window _ | with_reducible exact F.WRP_RAW_ASYM_ASYM_window _ | rfl)
    | (with_reducible apply freeValue_touches); rfl
    | (with_reducible apply Touches.emitM (M := 36028797018963968)) <;> rfl
    | with_reducible split
    | with_reducible dsimp only

theorem judge_touches (k) (track) (sector) {L : Nat} (h : Nat.lor 36028797023191040 L = L) : Touches L (judge k track sector) := by
  refine Touches.mono (L := 36028797023191040) ?_ h
  unfold judge
  try dsimp only
  repeat' first
    | with_reducible refine Touches.bind ?_ fun _ => ?_
    | with_reducible refine Touches.ite ?_ ?_
    | with_reducible exact Touches.pure _
    | with_reducible exact Touches.rd
    | (with_reducible apply freeValue_touches); rfl
    | (with_reducible apply showVerdict_touches); rfl
    | (with_reducible apply Touches.emitM (M := 36028797018963968)) <;> rfl
    | with_reducible split
    | with_reducible dsimp only

theorem rawBurst_touches (k) {L : Nat} (h : Nat.lor 180145084676735046 L = L) : Touches L (rawBurst k) := by
  refine Touches.mono (L := 180145084676735046) ?_ h
  unfold rawBurst
  try dsimp only
  repeat' first
    | with_reducible refine Touches.bind ?_ fun _ => ?_
    | with_reducible refine Touches.ite ?_ ?_
    | with_reducible exact Touches.pure _
    | with_reducible exact Touches.rd
    | (with_reducible apply Touches.setF) <;> (first | with_reducible exact F.WRP_STAT_RAW_BURST_window _ | with_reducible exact F.WRP_STAT_WR_DISABLED_window _ | rfl)
    | (with_reducible apply stopWriteAtBoundary_touches); rfl
    | (with_reducible apply raiseWrp_touches); rfl
    | (with_reducible apply Touches.emitM (M := 36028797018963968)) <;> rfl
    | with_reducible split
    | with_reducible dsimp only

theorem dataVerdict_touches (k) (track) (sector) (pass) {L : Nat} (h : Nat.lor 180162713369968710 L = L) : Touches L (dataVerdict k track sector pass) := by
  refine Touches.mono (L := 180162713369968710) ?_ h
  unfold dataVerdict
  try dsimp only
  repeat' first
    | with_reducible refine Touches.bind ?_ fun _ => ?_
    | with_reducible refine Touches.ite ?_ ?_
    | with_reducible exact Touches.pure _
    | with_reducible exact Touches.rd
    | (with_reducible apply raiseWrp_touches); rfl
    | (with_reducible apply rewriteBlock_touches); rfl
    | (with_reducible apply Touches.emitM (M := 36028797018963968)) <;> rfl
    | with_reducible split
    | with_reducible dsimp only

theorem relocVerdict_touches (k) (j) (track) (sector) (pass) {L : Nat} (h : Nat.lor 180162713370001478 L = L) : Touches L (relocVerdict k j track sector pass) := by
  refine Touches.mono (L := 180162713370001478) ?_ h
  unfold relocVerdict
  try dsimp only
  repeat' first
    | with_reducible refine Touches.bind ?_ fun _ => ?_
    | with_reducible refine Touches.ite ?_ ?_
    | with_reducible exact Touches.pure _
    | with_reducible exact Touches.rd
    | (with_reducible apply Touches.incStop) <;> (first | with_reducible exact F.WRP_RELOC_CNT_CNT_window _ | rfl)
    | (with_reducible apply setDisc_touches); rfl
    | (with_reducible apply raiseWrp_touches); rfl
    | (with_reducible apply rewriteBlock_touches); rfl
    | (with_reducible apply Touches.emitM (M := 36028797018963968)) <;> rfl
    | with_reducible split
    | with_reducible dsimp only

theorem beginDirectory_touches (k) {L : Nat} (h : Nat.lor 36028797027352576 L = L) : Touches L (beginDirectory k) := by
  refine Touches.mono (L := 36028797027352576) ?_ h
  unfold beginDirectory
  try dsimp only
  repeat' first
    | with_reducible refine Touches.bind ?_ fun _ => ?_
    | with_reducible refine Touches.ite ?_ ?_
    | with_reducible exact Touches.pure _
    | with_reducible exact Touches.rd
    | (with_reducible apply Touches.emitM (M := 8388608)) <;> rfl
    | (with_reducible apply Touches.emitM (M := 36028797018963968)) <;> rfl
    | with_reducible split
    | with_reducible dsimp only

theorem directoryPassed_touches (k) (band) (used) (range) {L : Nat} (h : Nat.lor 180162865036001382 L = L) : Touches L (directoryPassed k band used range) := by
  refine Touches.mono (L := 180162865036001382) ?_ h
  unfold directoryPassed
  try dsimp only
  repeat' first
    | with_reducible refine Touches.bind ?_ fun _ => ?_
    | with_reducible refine Touches.ite ?_ ?_
    | with_reducible exact Touches.pure _
    | with_reducible exact Touches.rd
    | (with_reducible apply setDisc_touches); rfl
    | (with_reducible apply commitSide_touches); rfl
    | (with_reducible apply Touches.emitM (M := 36028797018963968)) <;> rfl
    | with_reducible split
    | with_reducible dsimp only

theorem directoryWritten_touches (k) (band) {L : Nat} (h : Nat.lor 36046423564746752 L = L) : Touches L (directoryWritten k band) := by
  refine Touches.mono (L := 36046423564746752) ?_ h
  unfold directoryWritten
  try dsimp only
  repeat' first
    | with_reducible refine Touches.bind ?_ fun _ => ?_
    | with_reducible refine Touches.ite ?_ ?_
    | with_reducible exact Touches.pure _
    | with_reducible exact Touches.rd
    | (with_reducible apply setDisc_touches); rfl
    | (with_reducible apply Touches.emitM (M := 36028797018963968)) <;> rfl
    | (with_reducible apply Touches.emitM (M := 17592186044416)) <;> rfl
    | with_reducible split
    | with_reducible dsimp only

theorem directoryVerdict_touches (k) (copy) (pass) {L : Nat} (h : Nat.lor 180162865036001382 L = L) : Touches L (directoryVerdict k copy pass) := by
  refine Touches.mono (L := 180162865036001382) ?_ h
  unfold directoryVerdict
  try dsimp only
  repeat' first
    | with_reducible refine Touches.bind ?_ fun _ => ?_
    | with_reducible refine Touches.ite ?_ ?_
    | with_reducible exact Touches.pure _
    | with_reducible exact Touches.rd
    | (with_reducible apply directoryPassed_touches); rfl
    | (with_reducible apply directoryWritten_touches); rfl
    | (with_reducible apply Touches.emitM (M := 36028797018963968)) <;> rfl
    | with_reducible split
    | with_reducible dsimp only

theorem beginRecord_touches (k) {L : Nat} (h : Nat.lor 36028797031546880 L = L) : Touches L (beginRecord k) := by
  refine Touches.mono (L := 36028797031546880) ?_ h
  unfold beginRecord
  try dsimp only
  repeat' first
    | with_reducible refine Touches.bind ?_ fun _ => ?_
    | with_reducible refine Touches.ite ?_ ?_
    | with_reducible exact Touches.pure _
    | with_reducible exact Touches.rd
    | (with_reducible apply Touches.emitM (M := 8388608)) <;> rfl
    | (with_reducible apply Touches.emitM (M := 4194304)) <;> rfl
    | (with_reducible apply Touches.emitM (M := 36028797018963968)) <;> rfl
    | with_reducible split
    | with_reducible dsimp only

theorem recordWritten_touches (k) (ok) {L : Nat} (h : Nat.lor 180145119036440646 L = L) : Touches L (recordWritten k ok) := by
  refine Touches.mono (L := 180145119036440646) ?_ h
  unfold recordWritten
  try dsimp only
  repeat' first
    | with_reducible refine Touches.bind ?_ fun _ => ?_
    | with_reducible refine Touches.ite ?_ ?_
    | with_reducible exact Touches.pure _
    | with_reducible exact Touches.rd
    | (with_reducible apply setDisc_touches); rfl
    | (with_reducible apply raise_touches); rfl
    | (with_reducible apply Touches.emitM (M := 36028797018963968)) <;> rfl
    | with_reducible split
    | with_reducible dsimp only

theorem passportVerdict_touches (k) (copy) (pass) {L : Nat} (h : Nat.lor 180145119036440646 L = L) : Touches L (passportVerdict k copy pass) := by
  refine Touches.mono (L := 180145119036440646) ?_ h
  unfold passportVerdict
  try dsimp only
  repeat' first
    | with_reducible refine Touches.bind ?_ fun _ => ?_
    | with_reducible refine Touches.ite ?_ ?_
    | with_reducible exact Touches.pure _
    | with_reducible exact Touches.rd
    | (with_reducible apply recordWritten_touches); rfl
    | (with_reducible apply Touches.emitM (M := 36028797018963968)) <;> rfl
    | with_reducible split
    | with_reducible dsimp only

theorem takeTiming_touches (k) {L : Nat} (h : Nat.lor 72057594037960704 L = L) : Touches L (takeTiming k) := by
  refine Touches.mono (L := 72057594037960704) ?_ h
  unfold takeTiming
  try dsimp only
  repeat' first
    | with_reducible refine Touches.bind ?_ fun _ => ?_
    | with_reducible refine Touches.ite ?_ ?_
    | with_reducible exact Touches.pure _
    | with_reducible exact Touches.rd
    | (with_reducible apply Touches.setI) <;> (first | with_reducible exact F.WRP_WR_TIMING_OFFSET_window _ | rfl)
    | (with_reducible apply Touches.emitM (M := 72057594037927936)) <;> rfl
    | with_reducible split
    | with_reducible dsimp only

theorem takeJob_touches (k) (j) {L : Nat} (h : Nat.lor 108156759801369088 L = L) : Touches L (takeJob k j) := by
  refine Touches.mono (L := 108156759801369088) ?_ h
  unfold takeJob
  try dsimp only
  repeat' first
    | with_reducible refine Touches.bind ?_ fun _ => ?_
    | with_reducible refine Touches.ite ?_ ?_
    | with_reducible exact Touches.pure _
    | with_reducible exact Touches.rd
    | (with_reducible apply Touches.setF) <;> (first | with_reducible exact F.WRP_STAT_STATE_window _ | rfl)
    | (with_reducible apply takeTiming_touches); rfl
    | (with_reducible apply goTo_touches); rfl
    | (with_reducible apply Touches.emitM (M := 36028797018963968)) <;> rfl
    | with_reducible split
    | with_reducible dsimp only

theorem formSector_touches (k) (d) (f) {L : Nat} (h : Nat.lor 252290676164956742 L = L) : Touches L (formSector k d f) := by
  refine Touches.mono (L := 252290676164956742) ?_ h
  unfold formSector
  try dsimp only
  repeat' first
    | with_reducible refine Touches.bind ?_ fun _ => ?_
    | with_reducible refine Touches.ite ?_ ?_
    | with_reducible exact Touches.pure _
    | with_reducible exact Touches.rd
    | (with_reducible apply raiseWrp_touches); rfl
    | (with_reducible apply rewriteBlock_touches); rfl
    | (with_reducible apply takeJob_touches); rfl
    | (with_reducible apply beginDirectory_touches); rfl
    | (with_reducible apply beginRecord_touches); rfl
    | (with_reducible apply Touches.emitM (M := 8388608)) <;> rfl
    | with_reducible split
    | with_reducible dsimp only

theorem beginSector_touches (k) {L : Nat} (h : Nat.lor 252290676164956742 L = L) : Touches L (beginSector k) := by
  refine Touches.mono (L := 252290676164956742) ?_ h
  unfold beginSector
  try dsimp only
  repeat' first
    | with_reducible refine Touches.bind ?_ fun _ => ?_
    | with_reducible refine Touches.ite ?_ ?_
    | with_reducible exact Touches.pure _
    | with_reducible exact Touches.rd
    | (with_reducible apply recordSkips_touches); rfl
    | (with_reducible apply goTo_touches); rfl
    | (with_reducible apply formSector_touches); rfl
    | (with_reducible apply approach_touches); rfl
    | with_reducible split
    | with_reducible dsimp only

theorem beginTrack_touches (k) (x) (d) (entry) {L : Nat} (h : Nat.lor 108086425416663040 L = L) : Touches L (beginTrack k x d entry) := by
  refine Touches.mono (L := 108086425416663040) ?_ h
  unfold beginTrack
  try dsimp only
  repeat' first
    | with_reducible refine Touches.bind ?_ fun _ => ?_
    | with_reducible refine Touches.ite ?_ ?_
    | with_reducible exact Touches.pure _
    | with_reducible exact Touches.rd
    | (with_reducible apply Touches.setF) <;> (first | with_reducible exact F.WRP_STAT_STATE_window _ | rfl)
    | (with_reducible apply takeTiming_touches); rfl
    | (with_reducible apply setDisc_touches); rfl
    | (with_reducible apply Touches.emitM (M := 36028797018963968)) <;> rfl
    | with_reducible split
    | with_reducible dsimp only

theorem execTrackWriteStart_touches (k) (entry) (s : State) : ∃ u, execTrackWriteStart k entry s = .next u ∧ Same 252290676164956742 s u := by
  unfold execTrackWriteStart
  first | apply Touches.answer | apply Touches.answerWhen | (dsimp only; first | apply Touches.answer | apply Touches.answerWhen)
  try dsimp only
  repeat' first
    | with_reducible refine Touches.bind ?_ fun _ => ?_
    | with_reducible refine Touches.ite ?_ ?_
    | with_reducible exact Touches.pure _
    | with_reducible exact Touches.rd
    | (with_reducible apply recordSkips_touches); rfl
    | (with_reducible apply beginTrack_touches); rfl
    | (with_reducible apply beginSector_touches); rfl
    | with_reducible split
    | with_reducible dsimp only

theorem adaptMark_touches (k) (l) {L : Nat} (h : Nat.lor 144116287657836614 L = L) : Touches L (adaptMark k l) := by
  refine Touches.mono (L := 144116287657836614) ?_ h
  unfold adaptMark
  try dsimp only
  repeat' first
    | with_reducible refine Touches.bind ?_ fun _ => ?_
    | with_reducible refine Touches.ite ?_ ?_
    | with_reducible exact Touches.pure _
    | with_reducible exact Touches.rd
    | (with_reducible apply Touches.setF) <;> (first | with_reducible exact F.WRP_LVL_A_MARK_window _ _ | rfl)
    | (with_reducible apply moveRatios_touches); rfl
    | (with_reducible apply unclampAdapt_touches) <;> (first | with_reducible exact F.WRP_RAW_ASYM_ASYM_window _ | with_reducible exact F.WRP_LVL_A_MARK_window _ _ | with_reducible exact F.CAL_CTL_ENABLE_window | with_reducible exact F.CAL_ADAPT_STAT_WRPWR_CLAMP_window | rfl)
    | (with_reducible apply clampAdapt_touches) <;> (first | with_reducible exact F.WRP_RAW_ASYM_ASYM_window _ | with_reducible exact F.WRP_LVL_A_MARK_window _ _ | with_reducible exact F.CAL_CTL_ENABLE_window | with_reducible exact F.CAL_ADAPT_STAT_WRPWR_CLAMP_window | rfl)
    | with_reducible split
    | with_reducible dsimp only

theorem noteDrive_touches (k) {L : Nat} (h : Nat.lor 72057594037927936 L = L) : Touches L (noteDrive k) := by
  refine Touches.mono (L := 72057594037927936) ?_ h
  unfold noteDrive
  try dsimp only
  repeat' first
    | with_reducible refine Touches.bind ?_ fun _ => ?_
    | with_reducible refine Touches.ite ?_ ?_
    | with_reducible exact Touches.pure _
    | with_reducible exact Touches.rd
    | (with_reducible apply Touches.emitM (M := 72057594037927936)) <;> rfl
    | with_reducible split
    | with_reducible dsimp only

theorem execTrackWriteEnd_touches (k) (s : State) : ∃ u, execTrackWriteEnd k s = .next u ∧ Same 263022182370090566 s u := by
  unfold execTrackWriteEnd
  first | apply Touches.answer | apply Touches.answerWhen | (dsimp only; first | apply Touches.answer | apply Touches.answerWhen)
  try dsimp only
  repeat' first
    | with_reducible refine Touches.bind ?_ fun _ => ?_
    | with_reducible refine Touches.ite ?_ ?_
    | with_reducible exact Touches.pure _
    | with_reducible exact Touches.rd
    | (with_reducible apply Touches.setF) <;> (first | with_reducible exact F.WRP_STAT_STATE_window _ | with_reducible exact F.BAY_OPT_TARGET_TRACK_window _ | rfl)
    | (with_reducible apply endWrite_touches); rfl
    | (with_reducible apply noteTrack_touches); rfl
    | (with_reducible apply setDisc_touches); rfl
    | (with_reducible apply noteDrive_touches); rfl
    | (with_reducible apply adaptMark_touches); rfl
    | (with_reducible apply abortWriteCal_touches); rfl
    | (with_reducible apply beginJump_touches); rfl
    | (with_reducible apply settleBay_touches); rfl
    | (with_reducible apply Touches.emitM (M := 274877906944)) <;> rfl
    | with_reducible split
    | with_reducible dsimp only

theorem execWriteStopAtBoundary_touches (k) (written) (s : State) : ∃ u, execWriteStopAtBoundary k written s = .next u ∧ Same 263022182370090566 s u := by
  unfold execWriteStopAtBoundary
  first | apply Touches.answer | apply Touches.answerWhen | (dsimp only; first | apply Touches.answer | apply Touches.answerWhen)
  try dsimp only
  repeat' first
    | with_reducible refine Touches.bind ?_ fun _ => ?_
    | with_reducible refine Touches.ite ?_ ?_
    | with_reducible exact Touches.pure _
    | with_reducible exact Touches.rd
    | (with_reducible apply Touches.incStop) <;> (first | with_reducible exact F.WRP_SUSPEND_CNT_CNT_window _ | rfl)
    | (with_reducible apply raise_touches); rfl
    | (with_reducible apply sendFrame_touches); rfl
    | (with_reducible apply endWrite_touches); rfl
    | (with_reducible apply recordSkips_touches); rfl
    | (with_reducible apply raiseWrp_touches); rfl
    | (with_reducible apply settleBay_touches); rfl
    | (with_reducible apply Touches.emitM (M := 17592186044416)) <;> rfl
    | with_reducible split
    | with_reducible dsimp only

theorem execWriteSessionResume_touches (b) (s : State) : ∃ u, execWriteSessionResume b s = .next u ∧ Same 262458959698827846 s u := by
  unfold execWriteSessionResume
  first | apply Touches.answer | apply Touches.answerWhen | (dsimp only; first | apply Touches.answer | apply Touches.answerWhen)
  try dsimp only
  repeat' first
    | with_reducible refine Touches.bind ?_ fun _ => ?_
    | with_reducible refine Touches.ite ?_ ?_
    | with_reducible exact Touches.pure _
    | with_reducible exact Touches.rd
    | (with_reducible apply Touches.setF) <;> (first | with_reducible exact F.BAY_OPT_TARGET_TRACK_window _ | rfl)
    | (with_reducible apply setBay_touches); rfl
    | (with_reducible apply requestSeek_touches); rfl
    | (with_reducible apply beginSector_touches); rfl
    | with_reducible refine Touches.forAll fun _ => ?_
    | (with_reducible apply Touches.emitM (M := 17592186044416)) <;> rfl
    | with_reducible split
    | with_reducible dsimp only

theorem afterVerdict_touches (k) {L : Nat} (h : Nat.lor 263029019165302374 L = L) : Touches L (afterVerdict k) := by
  refine Touches.mono (L := 263029019165302374) ?_ h
  unfold afterVerdict
  try dsimp only
  repeat' first
    | with_reducible refine Touches.bind ?_ fun _ => ?_
    | with_reducible refine Touches.ite ?_ ?_
    | with_reducible exact Touches.pure _
    | with_reducible exact Touches.rd
    | (with_reducible apply rawBurst_touches); rfl
    | (with_reducible apply commitSide_touches); rfl
    | (with_reducible apply endSession_touches); rfl
    | (with_reducible apply beginSector_touches); rfl
    | (with_reducible apply settle_touches); rfl
    | with_reducible split
    | with_reducible dsimp only

theorem execRawVerdict_touches (k) (f) (s : State) : ∃ u, execRawVerdict k f s = .next u ∧ Same 263029019165302374 s u := by
  unfold execRawVerdict
  first | apply Touches.answer | apply Touches.answerWhen | (dsimp only; first | apply Touches.answer | apply Touches.answerWhen)
  try dsimp only
  repeat' first
    | with_reducible refine Touches.bind ?_ fun _ => ?_
    | with_reducible refine Touches.ite ?_ ?_
    | with_reducible exact Touches.pure _
    | with_reducible exact Touches.rd
    | (with_reducible apply Touches.setF) <;> (first | with_reducible exact F.WRP_STAT_STATE_window _ | rfl)
    | (with_reducible apply judge_touches); rfl
    | (with_reducible apply dataVerdict_touches); rfl
    | (with_reducible apply afterVerdict_touches); rfl
    | (with_reducible apply relocVerdict_touches); rfl
    | (with_reducible apply directoryVerdict_touches); rfl
    | (with_reducible apply passportVerdict_touches); rfl
    | (with_reducible apply Touches.emitM (M := 36028797018963968)) <;> rfl
    | with_reducible split
    | with_reducible dsimp only

theorem execRawBurstClear_touches (m) (k) (s : State) : ∃ u, execRawBurstClear m k s = .next u ∧ Same 32768 s u := by
  unfold execRawBurstClear
  first | apply Touches.answer | apply Touches.answerWhen | (dsimp only; first | apply Touches.answer | apply Touches.answerWhen)
  try dsimp only
  repeat' first
    | with_reducible refine Touches.bind ?_ fun _ => ?_
    | with_reducible refine Touches.ite ?_ ?_
    | with_reducible exact Touches.pure _
    | with_reducible exact Touches.rd
    | (with_reducible apply Touches.setF) <;> (first | with_reducible exact F.WRP_STAT_RAW_BURST_window _ | with_reducible exact F.WRP_STAT_WR_DISABLED_window _ | with_reducible exact F.WRP_WSL_STAT_RESULT_window _ | rfl)
    | with_reducible split
    | with_reducible dsimp only

theorem execDestageSessionStart_touches (vol) (s : State) : ∃ u, execDestageSessionStart vol s = .next u ∧ Same 839489771468725862 s u := by
  unfold execDestageSessionStart
  first | apply Touches.answer | apply Touches.answerWhen | (dsimp only; first | apply Touches.answer | apply Touches.answerWhen)
  try dsimp only
  repeat' first
    | with_reducible refine Touches.bind ?_ fun _ => ?_
    | with_reducible refine Touches.ite ?_ ?_
    | with_reducible exact Touches.pure _
    | with_reducible exact Touches.rd
    | (with_reducible apply startSession_touches); rfl
    | (with_reducible apply settle_touches); rfl
    | (with_reducible apply beginSector_touches); rfl
    | with_reducible refine Touches.forAll fun _ => ?_
    | with_reducible split
    | with_reducible dsimp only

theorem measureProgram_touches (took) {L : Nat} (h : Nat.lor 137438953472 L = L) : Touches L (measureProgram took) := by
  refine Touches.mono (L := 137438953472) ?_ h
  unfold measureProgram
  try dsimp only
  repeat' first
    | with_reducible refine Touches.bind ?_ fun _ => ?_
    | with_reducible refine Touches.ite ?_ ?_
    | with_reducible exact Touches.pure _
    | with_reducible exact Touches.rd
    | (with_reducible apply Touches.emitM (M := 137438953472)) <;> rfl
    | with_reducible split
    | with_reducible dsimp only

theorem settleIdle_touches (host) {L : Nat} (h : Nat.lor 32 L = L) : Touches L (settleIdle host) := by
  refine Touches.mono (L := 32) ?_ h
  unfold settleIdle
  try dsimp only
  repeat' first
    | with_reducible refine Touches.bind ?_ fun _ => ?_
    | with_reducible refine Touches.ite ?_ ?_
    | with_reducible exact Touches.pure _
    | with_reducible exact Touches.rd
    | (with_reducible apply Touches.setF) <;> (first | with_reducible exact F.FLZ_STAT_IDLE_GC_RUN_window | rfl)
    | with_reducible split
    | with_reducible dsimp only

theorem collectMore_touches {L : Nat} (h : Nat.lor 144116425365127270 L = L) : Touches L (collectMore) := by
  refine Touches.mono (L := 144116425365127270) ?_ h
  unfold collectMore
  try dsimp only
  repeat' first
    | with_reducible refine Touches.bind ?_ fun _ => ?_
    | with_reducible refine Touches.ite ?_ ?_
    | with_reducible exact Touches.pure _
    | with_reducible exact Touches.rd
    | (with_reducible apply collect_touches); rfl
    | with_reducible split
    | with_reducible dsimp only

theorem execFlashProgramDone_touches (ok) (took) (s : State) : ∃ u, execFlashProgramDone ok took s = .next u ∧ Same 263029019299520103 s u := by
  unfold execFlashProgramDone
  first | apply Touches.answer | apply Touches.answerWhen | (dsimp only; first | apply Touches.answer | apply Touches.answerWhen)
  try dsimp only
  repeat' first
    | with_reducible refine Touches.bind ?_ fun _ => ?_
    | with_reducible refine Touches.ite ?_ ?_
    | with_reducible exact Touches.pure _
    | with_reducible exact Touches.rd
    | (with_reducible apply prepareJob_touches); rfl
    | (with_reducible apply measureProgram_touches); rfl
    | (with_reducible apply programOk_touches); rfl
    | (with_reducible apply programFailed_touches); rfl
    | (with_reducible apply settle_touches); rfl
    | (with_reducible apply settleBlocks_touches); rfl
    | (with_reducible apply settleIdle_touches); rfl
    | (with_reducible apply collectMore_touches); rfl
    | (with_reducible apply showRebuild_touches); rfl
    | (with_reducible apply Touches.emitM (M := 67108864)) <;> rfl
    | with_reducible split
    | with_reducible dsimp only

theorem execFlashEraseDone_touches (n) (failed) (s : State) : ∃ u, execFlashEraseDone n failed s = .next u ∧ Same 263029019299520103 s u := by
  unfold execFlashEraseDone
  first | apply Touches.answer | apply Touches.answerWhen | (dsimp only; first | apply Touches.answer | apply Touches.answerWhen)
  try dsimp only
  repeat' first
    | with_reducible refine Touches.bind ?_ fun _ => ?_
    | with_reducible refine Touches.ite ?_ ?_
    | with_reducible exact Touches.pure _
    | with_reducible exact Touches.rd
    | (with_reducible apply countErase_touches); rfl
    | (with_reducible apply retireBlock_touches); rfl
    | (with_reducible apply dissolve_touches); rfl
    | (with_reducible apply setBlock_touches); rfl
    | (with_reducible apply settleZone_touches); rfl
    | (with_reducible apply settle_touches); rfl
    | (with_reducible apply settleIdle_touches); rfl
    | (with_reducible apply collectMore_touches); rfl
    | (with_reducible apply showRebuild_touches); rfl
    | with_reducible refine Touches.forAll fun _ => ?_
    | (with_reducible apply Touches.emitM (M := 268435456)) <;> rfl
    | (with_reducible apply Touches.emitM (M := 137438953472)) <;> rfl
    | with_reducible split
    | with_reducible dsimp only

theorem refreshPage_touches (src) {L : Nat} (h : Nat.lor 144116425096691814 L = L) : Touches L (refreshPage src) := by
  refine Touches.mono (L := 144116425096691814) ?_ h
  unfold refreshPage
  try dsimp only
  repeat' first
    | with_reducible refine Touches.bind ?_ fun _ => ?_
    | with_reducible refine Touches.ite ?_ ?_
    | with_reducible exact Touches.pure _
    | with_reducible exact Touches.rd
    | (with_reducible apply Touches.incStop) <;> (first | with_reducible exact F.FLZ_ECC_REFRESH_CNT_CNT_window | rfl)
    | (with_reducible apply raiseFlz_touches); rfl
    | (with_reducible apply Touches.emitM (M := 137438953472)) <;> rfl
    | with_reducible split
    | with_reducible dsimp only

theorem execFlashReadDone_touches (lblock) (row) (pos) (corrected) (rebuilt) (s : State) : ∃ u, execFlashReadDone lblock row pos corrected rebuilt s = .next u ∧ Same 263029019165302374 s u := by
  unfold execFlashReadDone
  first | apply Touches.answer | apply Touches.answerWhen | (dsimp only; first | apply Touches.answer | apply Touches.answerWhen)
  try dsimp only
  repeat' first
    | with_reducible refine Touches.bind ?_ fun _ => ?_
    | with_reducible refine Touches.ite ?_ ?_
    | with_reducible exact Touches.pure _
    | with_reducible exact Touches.rd
    | (with_reducible apply Touches.setF) <;> (first | with_reducible exact F.FLZ_ECC_MAX_MAX_window | rfl)
    | (with_reducible apply Touches.incStop) <;> (first | with_reducible exact F.FLZ_ECC_UE_CNT_CNT_window | with_reducible exact F.FLZ_RECON_CNT_CNT_window | rfl)
    | (with_reducible apply Touches.addWrap) <;> (first | with_reducible exact F.FLZ_ECC_CORR_CNT_CNT_window | rfl)
    | (with_reducible apply raiseFlz_touches); rfl
    | (with_reducible apply refreshPage_touches); rfl
    | (with_reducible apply loseRow_touches); rfl
    | (with_reducible apply settle_touches); rfl
    | with_reducible split
    | with_reducible dsimp only

theorem levelWear_touches (v) {L : Nat} (h : Nat.lor 144116425365127270 L = L) : Touches L (levelWear v) := by
  refine Touches.mono (L := 144116425365127270) ?_ h
  unfold levelWear
  try dsimp only
  repeat' first
    | with_reducible refine Touches.bind ?_ fun _ => ?_
    | with_reducible refine Touches.ite ?_ ?_
    | with_reducible exact Touches.pure _
    | with_reducible exact Touches.rd
    | (with_reducible apply setBlock_touches); rfl
    | (with_reducible apply openLog_touches); rfl
    | (with_reducible apply openData_touches); rfl
    | (with_reducible apply copyBlock_touches); rfl
    | (with_reducible apply settleBlocks_touches); rfl
    | (with_reducible apply Touches.emitM (M := 137438953472)) <;> rfl
    | with_reducible split
    | with_reducible dsimp only

theorem execIdleCollectionStart_touches (s : State) : ∃ u, execIdleCollectionStart s = .next u ∧ Same 144116425365127270 s u := by
  unfold execIdleCollectionStart
  first | apply Touches.answer | apply Touches.answerWhen | (dsimp only; first | apply Touches.answer | apply Touches.answerWhen)
  try dsimp only
  repeat' first
    | with_reducible refine Touches.bind ?_ fun _ => ?_
    | with_reducible refine Touches.ite ?_ ?_
    | with_reducible exact Touches.pure _
    | with_reducible exact Touches.rd
    | (with_reducible apply Touches.setF) <;> (first | with_reducible exact F.FLZ_STAT_IDLE_GC_RUN_window | rfl)
    | (with_reducible apply levelWear_touches); rfl
    | (with_reducible apply collect_touches); rfl
    | (with_reducible apply setBlock_touches); rfl
    | (with_reducible apply copyBlock_touches); rfl
    | (with_reducible apply settleBlocks_touches); rfl
    | with_reducible refine Touches.forAll fun _ => ?_
    | with_reducible split
    | with_reducible dsimp only

theorem postWrite_touches (i) {L : Nat} (h : Nat.lor 144120824146690052 L = L) : Touches L (postWrite i) := by
  refine Touches.mono (L := 144120824146690052) ?_ h
  unfold postWrite
  try dsimp only
  repeat' first
    | with_reducible refine Touches.bind ?_ fun _ => ?_
    | with_reducible refine Touches.ite ?_ ?_
    | with_reducible exact Touches.pure _
    | with_reducible exact Touches.rd
    | (with_reducible apply takeBucket_touches); rfl
    | (with_reducible apply completeAs_touches); rfl
    | (with_reducible apply Touches.emitM (M := 1073741824)) <;> rfl
    | with_reducible split
    | with_reducible dsimp only

theorem execGatedCompletionPost_touches (id) (s : State) : ∃ u, execGatedCompletionPost id s = .next u ∧ Same 263029019165302374 s u := by
  unfold execGatedCompletionPost
  first | apply Touches.answer | apply Touches.answerWhen | (dsimp only; first | apply Touches.answer | apply Touches.answerWhen)
  try dsimp only
  repeat' first
    | with_reducible refine Touches.bind ?_ fun _ => ?_
    | with_reducible refine Touches.ite ?_ ?_
    | with_reducible exact Touches.pure _
    | with_reducible exact Touches.rd
    | (with_reducible apply postWrite_touches); rfl
    | (with_reducible apply settle_touches); rfl
    | with_reducible split
    | with_reducible dsimp only

theorem loseDouble_touches {L : Nat} (h : Nat.lor 144116296516108358 L = L) : Touches L (loseDouble) := by
  refine Touches.mono (L := 144116296516108358) ?_ h
  unfold loseDouble
  try dsimp only
  repeat' first
    | with_reducible refine Touches.bind ?_ fun _ => ?_
    | with_reducible refine Touches.ite ?_ ?_
    | with_reducible exact Touches.pure _
    | with_reducible exact Touches.rd
    | (with_reducible apply loseRow_touches); rfl
    | with_reducible refine Touches.forAll fun _ => ?_
    | with_reducible split
    | with_reducible dsimp only

theorem execLunStatusTimeout_touches (lun) (channel) (s : State) : ∃ u, execLunStatusTimeout lun channel s = .next u ∧ Same 263029019299520103 s u := by
  unfold execLunStatusTimeout
  first | apply Touches.answer | apply Touches.answerWhen | (dsimp only; first | apply Touches.answer | apply Touches.answerWhen)
  try dsimp only
  repeat' first
    | with_reducible refine Touches.bind ?_ fun _ => ?_
    | with_reducible refine Touches.ite ?_ ?_
    | with_reducible exact Touches.pure _
    | with_reducible exact Touches.rd
    | (with_reducible apply Touches.setF) <;> (first | with_reducible exact F.FLZ_CH_STAT_FAILED_window | rfl)
    | (with_reducible apply degrade_touches); rfl
    | (with_reducible apply failLun_touches); rfl
    | (with_reducible apply loseDouble_touches); rfl
    | (with_reducible apply settle_touches); rfl
    | (with_reducible apply showRebuild_touches); rfl
    | with_reducible refine Touches.forAll fun _ => ?_
    | with_reducible split
    | with_reducible dsimp only

theorem execLunRebuildDone_touches (lun) (s : State) : ∃ u, execLunRebuildDone lun s = .next u ∧ Same 144116425096691814 s u := by
  unfold execLunRebuildDone
  first | apply Touches.answer | apply Touches.answerWhen | (dsimp only; first | apply Touches.answer | apply Touches.answerWhen)
  try dsimp only
  repeat' first
    | with_reducible refine Touches.bind ?_ fun _ => ?_
    | with_reducible refine Touches.ite ?_ ?_
    | with_reducible exact Touches.pure _
    | with_reducible exact Touches.rd
    | (with_reducible apply Touches.setF) <;> (first | with_reducible exact F.FLZ_REBUILD_LUN_window | with_reducible exact F.FLZ_STAT_REBUILDING_window | with_reducible exact F.FLZ_REBUILD_ACTIVE_window | rfl)
    | (with_reducible apply raiseFlz_touches); rfl
    | (with_reducible apply Touches.emitM (M := 137438953472)) <;> rfl
    | with_reducible split
    | with_reducible dsimp only

theorem execDestageAgeExpiry_touches (vol) (s : State) : ∃ u, execDestageAgeExpiry vol s = .next u ∧ Same 839489771468725862 s u := by
  unfold execDestageAgeExpiry
  first | apply Touches.answer | apply Touches.answerWhen | (dsimp only; first | apply Touches.answer | apply Touches.answerWhen)
  try dsimp only
  repeat' first
    | with_reducible refine Touches.bind ?_ fun _ => ?_
    | with_reducible refine Touches.ite ?_ ?_
    | with_reducible exact Touches.pure _
    | with_reducible exact Touches.rd
    | (with_reducible apply startSession_touches); rfl
    | (with_reducible apply requestDisc_touches); rfl
    | (with_reducible apply settle_touches); rfl
    | with_reducible refine Touches.forAll fun _ => ?_
    | with_reducible split
    | with_reducible dsimp only

theorem execScrubDue_touches (disc) (s : State) : ∃ u, execScrubDue disc s = .next u ∧ Same 144116390736953414 s u := by
  unfold execScrubDue
  first | apply Touches.answer | apply Touches.answerWhen | (dsimp only; first | apply Touches.answer | apply Touches.answerWhen)
  try dsimp only
  repeat' first
    | with_reducible refine Touches.bind ?_ fun _ => ?_
    | with_reducible refine Touches.ite ?_ ?_
    | with_reducible exact Touches.pure _
    | with_reducible exact Touches.rd
    | (with_reducible apply setDisc_touches); rfl
    | (with_reducible apply requestDisc_touches); rfl
    | with_reducible split
    | with_reducible dsimp only

theorem moveIn_touches (vol) (inst) (l) {L : Nat} (h : Nat.lor 720577041034903654 L = L) : Touches L (moveIn vol inst l) := by
  refine Touches.mono (L := 720577041034903654) ?_ h
  unfold moveIn
  try dsimp only
  repeat' first
    | with_reducible refine Touches.bind ?_ fun _ => ?_
    | with_reducible refine Touches.ite ?_ ?_
    | with_reducible exact Touches.pure _
    | with_reducible exact Touches.rd
    | (with_reducible apply noteChunks_touches); rfl
    | (with_reducible apply dropCopies_touches); rfl
    | with_reducible refine Touches.forAll fun _ => ?_
    | (with_reducible apply Touches.emitM (M := 1073741824)) <;> rfl
    | with_reducible split
    | with_reducible dsimp only

theorem execScrubComplete_touches (disc) (s : State) : ∃ u, execScrubComplete disc s = .next u ∧ Same 720577144114118758 s u := by
  unfold execScrubComplete
  first | apply Touches.answer | apply Touches.answerWhen | (dsimp only; first | apply Touches.answer | apply Touches.answerWhen)
  try dsimp only
  repeat' first
    | with_reducible refine Touches.bind ?_ fun _ => ?_
    | with_reducible refine Touches.ite ?_ ?_
    | with_reducible exact Touches.pure _
    | with_reducible exact Touches.rd
    | (with_reducible apply setDisc_touches); rfl
    | (with_reducible apply addRecord_touches); rfl
    | (with_reducible apply moveIn_touches); rfl
    | (with_reducible apply raise_touches); rfl
    | (with_reducible apply lapseRequests_touches); rfl
    | with_reducible refine Touches.forAll fun _ => ?_
    | with_reducible split
    | with_reducible dsimp only

theorem raiseHost_touches (f) (i) (detail) {L : Nat} (h : Nat.lor 144116287657738310 L = L) : Touches L (raiseHost f i detail) := by
  refine Touches.mono (L := 144116287657738310) ?_ h
  unfold raiseHost
  try dsimp only
  repeat' first
    | with_reducible refine Touches.bind ?_ fun _ => ?_
    | with_reducible refine Touches.ite ?_ ?_
    | with_reducible exact Touches.pure _
    | with_reducible exact Touches.rd
    | (with_reducible apply raise_touches); rfl
    | with_reducible split
    | with_reducible dsimp only

theorem stopFunction_touches (f) {L : Nat} (h : Nat.lor 144120685633994820 L = L) : Touches L (stopFunction f) := by
  refine Touches.mono (L := 144120685633994820) ?_ h
  unfold stopFunction
  try dsimp only
  repeat' first
    | with_reducible refine Touches.bind ?_ fun _ => ?_
    | with_reducible refine Touches.ite ?_ ?_
    | with_reducible exact Touches.pure _
    | with_reducible exact Touches.rd
    | (with_reducible apply Touches.setF) <;> (first | with_reducible exact F.HST_FN_CTL_ENABLE_window _ | with_reducible exact F.HST_FN_STAT_READY_window _ | rfl)
    | (with_reducible apply disownAll_touches); rfl
    | (with_reducible apply Touches.emitM (M := 1099511627776)) <;> rfl
    | with_reducible split
    | with_reducible dsimp only

theorem flrFunction_touches (f) {L : Nat} (h : Nat.lor 263029019165851647 L = L) : Touches L (flrFunction f) := by
  refine Touches.mono (L := 263029019165851647) ?_ h
  unfold flrFunction
  try dsimp only
  repeat' first
    | with_reducible refine Touches.bind ?_ fun _ => ?_
    | with_reducible refine Touches.ite ?_ ?_
    | with_reducible exact Touches.pure _
    | with_reducible exact Touches.rd
    | (with_reducible apply Touches.setF) <;> (first | rfl)
    | (with_reducible apply Touches.setF_any); rfl
    | (with_reducible apply stopFunction_touches); rfl
    | (with_reducible apply attend_touches); rfl
    | (with_reducible apply settle_touches); rfl
    | with_reducible refine Touches.forAll fun _ => ?_
    | (with_reducible apply Touches.emitM (M := 1099511627776)) <;> rfl
    | (with_reducible apply Touches.emitM (M := 1048576)) <;> rfl
    | with_reducible split
    | with_reducible dsimp only

theorem fatalFunction_touches (f) {L : Nat} (h : Nat.lor 263029019165302374 L = L) : Touches L (fatalFunction f) := by
  refine Touches.mono (L := 263029019165302374) ?_ h
  unfold fatalFunction
  try dsimp only
  repeat' first
    | with_reducible refine Touches.bind ?_ fun _ => ?_
    | with_reducible refine Touches.ite ?_ ?_
    | with_reducible exact Touches.pure _
    | with_reducible exact Touches.rd
    | (with_reducible apply Touches.setF) <;> (first | with_reducible exact F.HST_FN_STAT_FATAL_window _ | rfl)
    | (with_reducible apply stopFunction_touches); rfl
    | (with_reducible apply raiseHost_touches); rfl
    | (with_reducible apply sendVector_touches); rfl
    | (with_reducible apply settle_touches); rfl
    | with_reducible split
    | with_reducible dsimp only

theorem ignoreDoorbell_touches (f) {L : Nat} (h : Nat.lor 144116287657738310 L = L) : Touches L (ignoreDoorbell f) := by
  refine Touches.mono (L := 144116287657738310) ?_ h
  unfold ignoreDoorbell
  try dsimp only
  repeat' first
    | with_reducible refine Touches.bind ?_ fun _ => ?_
    | with_reducible refine Touches.ite ?_ ?_
    | with_reducible exact Touches.pure _
    | with_reducible exact Touches.rd
    | (with_reducible apply raiseHost_touches); rfl
    | with_reducible split
    | with_reducible dsimp only

theorem ringTail_touches (f) (ring) (tail) {L : Nat} (h : Nat.lor 144116287657738310 L = L) : Touches L (ringTail f ring tail) := by
  refine Touches.mono (L := 144116287657738310) ?_ h
  unfold ringTail
  try dsimp only
  repeat' first
    | with_reducible refine Touches.bind ?_ fun _ => ?_
    | with_reducible refine Touches.ite ?_ ?_
    | with_reducible exact Touches.pure _
    | with_reducible exact Touches.rd
    | (with_reducible apply leaveL1_touches); rfl
    | (with_reducible apply ignoreDoorbell_touches); rfl
    | (with_reducible apply setSq_touches); rfl
    | with_reducible split
    | with_reducible dsimp only

theorem ringHead_touches (f) (ring) (head) {L : Nat} (h : Nat.lor 144116287657738310 L = L) : Touches L (ringHead f ring head) := by
  refine Touches.mono (L := 144116287657738310) ?_ h
  unfold ringHead
  try dsimp only
  repeat' first
    | with_reducible refine Touches.bind ?_ fun _ => ?_
    | with_reducible refine Touches.ite ?_ ?_
    | with_reducible exact Touches.pure _
    | with_reducible exact Touches.rd
    | (with_reducible apply leaveL1_touches); rfl
    | (with_reducible apply ignoreDoorbell_touches); rfl
    | (with_reducible apply setCq_touches); rfl
    | (with_reducible apply sendVector_touches); rfl
    | with_reducible split
    | with_reducible dsimp only

theorem execSqDoorbell_touches (f) (ring) (tail) (s : State) : ∃ u, execSqDoorbell f ring tail s = .next u ∧ Same 144116287657738310 s u := by
  unfold execSqDoorbell
  first | apply Touches.answer | apply Touches.answerWhen | (dsimp only; first | apply Touches.answer | apply Touches.answerWhen)
  try dsimp only
  repeat' first
    | with_reducible refine Touches.bind ?_ fun _ => ?_
    | with_reducible refine Touches.ite ?_ ?_
    | with_reducible exact Touches.pure _
    | with_reducible exact Touches.rd
    | (with_reducible apply ringTail_touches); rfl
    | with_reducible split
    | with_reducible dsimp only

theorem execCqHeadDoorbell_touches (f) (ring) (head) (s : State) : ∃ u, execCqHeadDoorbell f ring head s = .next u ∧ Same 144116287657738310 s u := by
  unfold execCqHeadDoorbell
  first | apply Touches.answer | apply Touches.answerWhen | (dsimp only; first | apply Touches.answer | apply Touches.answerWhen)
  try dsimp only
  repeat' first
    | with_reducible refine Touches.bind ?_ fun _ => ?_
    | with_reducible refine Touches.ite ?_ ?_
    | with_reducible exact Touches.pure _
    | with_reducible exact Touches.rd
    | (with_reducible apply ringHead_touches); rfl
    | with_reducible split
    | with_reducible dsimp only

theorem fetchInst_touches (f) (r) (desc) (sequencer) {L : Nat} (h : Nat.lor 14336600834048 L = L) : Touches L (fetchInst f r desc sequencer) := by
  refine Touches.mono (L := 14336600834048) ?_ h
  unfold fetchInst
  try dsimp only
  repeat' first
    | with_reducible refine Touches.bind ?_ fun _ => ?_
    | with_reducible refine Touches.ite ?_ ?_
    | with_reducible exact Touches.pure _
    | with_reducible exact Touches.rd
    | (with_reducible apply setSq_touches); rfl
    | (with_reducible apply beginClose_touches); rfl
    | (with_reducible apply showCompacting_touches); rfl
    | (with_reducible apply Touches.emitM (M := 8796093022208)) <;> rfl
    | (with_reducible apply Touches.emitM (M := 4398046511104)) <;> rfl
    | with_reducible split
    | with_reducible dsimp only

theorem execInstructionFetch_touches (f) (ring) (desc) (ok) (s : State) : ∃ u, execInstructionFetch f ring desc ok s = .next u ∧ Same 263037815258324582 s u := by
  unfold execInstructionFetch
  first | apply Touches.answer | apply Touches.answerWhen | (dsimp only; first | apply Touches.answer | apply Touches.answerWhen)
  try dsimp only
  repeat' first
    | with_reducible refine Touches.bind ?_ fun _ => ?_
    | with_reducible refine Touches.ite ?_ ?_
    | with_reducible exact Touches.pure _
    | with_reducible exact Touches.rd
    | (with_reducible apply leaveL1_touches); rfl
    | (with_reducible apply fetchInst_touches); rfl
    | (with_reducible apply fatalFunction_touches); rfl
    | with_reducible split
    | with_reducible dsimp only

theorem execInstructionDispatch_touches (id) (s : State) : ∃ u, execInstructionDispatch id s = .next u ∧ Same 263029019165302374 s u := by
  unfold execInstructionDispatch
  first | apply Touches.answer | apply Touches.answerWhen | (dsimp only; first | apply Touches.answer | apply Touches.answerWhen)
  try dsimp only
  repeat' first
    | with_reducible refine Touches.bind ?_ fun _ => ?_
    | with_reducible refine Touches.ite ?_ ?_
    | with_reducible exact Touches.pure _
    | with_reducible exact Touches.rd
    | (with_reducible apply startInst_touches); rfl
    | (with_reducible apply setInst_touches); rfl
    | (with_reducible apply settle_touches); rfl
    | with_reducible split
    | with_reducible dsimp only

theorem postCompletion_touches (f) (r) (c) (l) {L : Nat} (h : Nat.lor 1099513724992 L = L) : Touches L (postCompletion f r c l) := by
  refine Touches.mono (L := 1099513724992) ?_ h
  unfold postCompletion
  try dsimp only
  repeat' first
    | with_reducible refine Touches.bind ?_ fun _ => ?_
    | with_reducible refine Touches.ite ?_ ?_
    | with_reducible exact Touches.pure _
    | with_reducible exact Touches.rd
    | (with_reducible apply leaveL1_touches); rfl
    | (with_reducible apply setCq_touches); rfl
    | (with_reducible apply setSq_touches); rfl
    | (with_reducible apply sendVector_touches); rfl
    | (with_reducible apply Touches.emitM (M := 2097152)) <;> rfl
    | (with_reducible apply Touches.emitM (M := 1099511627776)) <;> rfl
    | with_reducible split
    | with_reducible dsimp only

theorem execCompletionPost_touches (f) (cq) (ok) (s : State) : ∃ u, execCompletionPost f cq ok s = .next u ∧ Same 263029019165302374 s u := by
  unfold execCompletionPost
  first | apply Touches.answer | apply Touches.answerWhen | (dsimp only; first | apply Touches.answer | apply Touches.answerWhen)
  try dsimp only
  repeat' first
    | with_reducible refine Touches.bind ?_ fun _ => ?_
    | with_reducible refine Touches.ite ?_ ?_
    | with_reducible exact Touches.pure _
    | with_reducible exact Touches.rd
    | (with_reducible apply postCompletion_touches); rfl
    | (with_reducible apply settle_touches); rfl
    | (with_reducible apply fatalFunction_touches); rfl
    | with_reducible split
    | with_reducible dsimp only

theorem touchLine_touches (line) (way) {L : Nat} (h : Nat.lor 288230376151711744 L = L) : Touches L (touchLine line way) := by
  refine Touches.mono (L := 288230376151711744) ?_ h
  unfold touchLine
  try dsimp only
  repeat' first
    | with_reducible refine Touches.bind ?_ fun _ => ?_
    | with_reducible refine Touches.ite ?_ ?_
    | with_reducible exact Touches.pure _
    | with_reducible exact Touches.rd
    | (with_reducible apply Touches.emitM (M := 288230376151711744)) <;> rfl
    | with_reducible split
    | with_reducible dsimp only

theorem serveHit_touches (r) (l) {L : Nat} (h : Nat.lor 288230376151711752 L = L) : Touches L (serveHit r l) := by
  refine Touches.mono (L := 288230376151711752) ?_ h
  unfold serveHit
  try dsimp only
  repeat' first
    | with_reducible refine Touches.bind ?_ fun _ => ?_
    | with_reducible refine Touches.ite ?_ ?_
    | with_reducible exact Touches.pure _
    | with_reducible exact Touches.rd
    | (with_reducible apply Touches.addWrap) <;> (first | with_reducible exact F.CCH_HIT_CNT_CNT_window | with_reducible exact F.CCH_WB_CNT_CNT_window | rfl)
    | (with_reducible apply touchLine_touches); rfl
    | (with_reducible apply Touches.emitM (M := 288230376151711744)) <;> rfl
    | with_reducible split
    | with_reducible dsimp only

theorem queueReq_touches (r) {L : Nat} (h : Nat.lor 288230376151711744 L = L) : Touches L (queueReq r) := by
  refine Touches.mono (L := 288230376151711744) ?_ h
  unfold queueReq
  try dsimp only
  repeat' first
    | with_reducible refine Touches.bind ?_ fun _ => ?_
    | with_reducible refine Touches.ite ?_ ?_
    | with_reducible exact Touches.pure _
    | with_reducible exact Touches.rd
    | (with_reducible apply Touches.emitM (M := 288230376151711744)) <;> rfl
    | with_reducible split
    | with_reducible dsimp only

theorem reinstate_touches (r) {L : Nat} (h : Nat.lor 288230376151711752 L = L) : Touches L (reinstate r) := by
  refine Touches.mono (L := 288230376151711752) ?_ h
  unfold reinstate
  try dsimp only
  repeat' first
    | with_reducible refine Touches.bind ?_ fun _ => ?_
    | with_reducible refine Touches.ite ?_ ?_
    | with_reducible exact Touches.pure _
    | with_reducible exact Touches.rd
    | (with_reducible apply Touches.incStop) <;> (first | with_reducible exact F.CCH_REINSTATE_CNT_CNT_window | rfl)
    | (with_reducible apply touchLine_touches); rfl
    | (with_reducible apply Touches.emitM (M := 288230376151711744)) <;> rfl
    | with_reducible split
    | with_reducible dsimp only

theorem activateRow_touches (line) {L : Nat} (h : Nat.lor 576460752303423488 L = L) : Touches L (activateRow line) := by
  refine Touches.mono (L := 576460752303423488) ?_ h
  unfold activateRow
  try dsimp only
  repeat' first
    | with_reducible refine Touches.bind ?_ fun _ => ?_
    | with_reducible refine Touches.ite ?_ ?_
    | with_reducible exact Touches.pure _
    | with_reducible exact Touches.rd
    | (with_reducible apply Touches.emitM (M := 576460752303423488)) <;> rfl
    | with_reducible split
    | with_reducible dsimp only

theorem beginMiss_touches (r) {L : Nat} (h : Nat.lor 864691128455135240 L = L) : Touches L (beginMiss r) := by
  refine Touches.mono (L := 864691128455135240) ?_ h
  unfold beginMiss
  try dsimp only
  repeat' first
    | with_reducible refine Touches.bind ?_ fun _ => ?_
    | with_reducible refine Touches.ite ?_ ?_
    | with_reducible exact Touches.pure _
    | with_reducible exact Touches.rd
    | (with_reducible apply Touches.addWrap) <;> (first | with_reducible exact F.CCH_MISS_CNT_CNT_window | rfl)
    | (with_reducible apply queueReq_touches); rfl
    | (with_reducible apply touchLine_touches); rfl
    | (with_reducible apply activateRow_touches); rfl
    | (with_reducible apply Touches.emitM (M := 288230376151711744)) <;> rfl
    | with_reducible split
    | with_reducible dsimp only

theorem serveReq_touches (r) {L : Nat} (h : Nat.lor 864691128455135240 L = L) : Touches L (serveReq r) := by
  refine Touches.mono (L := 864691128455135240) ?_ h
  unfold serveReq
  try dsimp only
  repeat' first
    | with_reducible refine Touches.bind ?_ fun _ => ?_
    | with_reducible refine Touches.ite ?_ ?_
    | with_reducible exact Touches.pure _
    | with_reducible exact Touches.rd
    | (with_reducible apply Touches.incStop) <;> (first | with_reducible exact F.CCH_VICT_WAIT_CNT_CNT_window | rfl)
    | (with_reducible apply Touches.addWrap) <;> (first | with_reducible exact F.CCH_MISS_CNT_CNT_window | rfl)
    | (with_reducible apply queueReq_touches); rfl
    | (with_reducible apply serveHit_touches); rfl
    | (with_reducible apply reinstate_touches); rfl
    | (with_reducible apply activateRow_touches); rfl
    | (with_reducible apply beginMiss_touches); rfl
    | (with_reducible apply Touches.emitM (M := 288230376151711744)) <;> rfl
    | with_reducible split
    | with_reducible dsimp only

theorem serveBank_touches (bank) {L : Nat} (h : Nat.lor 864691128455135240 L = L) : Touches L (serveBank bank) := by
  refine Touches.mono (L := 864691128455135240) ?_ h
  unfold serveBank
  try dsimp only
  repeat' first
    | with_reducible refine Touches.bind ?_ fun _ => ?_
    | with_reducible refine Touches.ite ?_ ?_
    | with_reducible exact Touches.pure _
    | with_reducible exact Touches.rd
    | (with_reducible apply serveReq_touches); rfl
    | with_reducible refine Touches.forAll fun _ => ?_
    | (with_reducible apply Touches.emitM (M := 288230376151711744)) <;> rfl
    | with_reducible split
    | with_reducible dsimp only

theorem issueVictim_touches (bank) {L : Nat} (h : Nat.lor 864691128455135232 L = L) : Touches L (issueVictim bank) := by
  refine Touches.mono (L := 864691128455135232) ?_ h
  unfold issueVictim
  try dsimp only
  repeat' first
    | with_reducible refine Touches.bind ?_ fun _ => ?_
    | with_reducible refine Touches.ite ?_ ?_
    | with_reducible exact Touches.pure _
    | with_reducible exact Touches.rd
    | (with_reducible apply activateRow_touches); rfl
    | (with_reducible apply Touches.emitM (M := 288230376151711744)) <;> rfl
    | with_reducible split
    | with_reducible dsimp only

theorem cleanCache_touches {L : Nat} (h : Nat.lor 864691128455135240 L = L) : Touches L (cleanCache) := by
  refine Touches.mono (L := 864691128455135240) ?_ h
  unfold cleanCache
  try dsimp only
  repeat' first
    | with_reducible refine Touches.bind ?_ fun _ => ?_
    | with_reducible refine Touches.ite ?_ ?_
    | with_reducible exact Touches.pure _
    | with_reducible exact Touches.rd
    | (with_reducible apply Touches.addWrap) <;> (first | with_reducible exact F.CCH_WB_CNT_CNT_window | rfl)
    | (with_reducible apply serveBank_touches); rfl
    | with_reducible refine Touches.forAll fun _ => ?_
    | (with_reducible apply Touches.emitM (M := 288230376151711744)) <;> rfl
    | with_reducible split
    | with_reducible dsimp only

theorem saveLife_touches {L : Nat} (h : Nat.lor 268435712 L = L) : Touches L (saveLife) := by
  refine Touches.mono (L := 268435712) ?_ h
  unfold saveLife
  try dsimp only
  repeat' first
    | with_reducible refine Touches.bind ?_ fun _ => ?_
    | with_reducible refine Touches.ite ?_ ?_
    | with_reducible exact Touches.pure _
    | with_reducible exact Touches.rd
    | (with_reducible apply Touches.setF) <;> (first | with_reducible exact F.LIF_SAVE_TIME_SEC_window | rfl)
    | (with_reducible apply Touches.emitM (M := 268435456)) <;> rfl
    | with_reducible split
    | with_reducible dsimp only

theorem execLifeRecordSave_touches (ok) (s : State) : ∃ u, execLifeRecordSave ok s = .next u ∧ Same 144116287926174022 s u := by
  unfold execLifeRecordSave
  first | apply Touches.answer | apply Touches.answerWhen | (dsimp only; first | apply Touches.answer | apply Touches.answerWhen)
  try dsimp only
  repeat' first
    | with_reducible refine Touches.bind ?_ fun _ => ?_
    | with_reducible refine Touches.ite ?_ ?_
    | with_reducible exact Touches.pure _
    | with_reducible exact Touches.rd
    | (with_reducible apply Touches.setF) <;> (first | with_reducible exact F.LIF_STAT_SAVE_FAIL_window | rfl)
    | (with_reducible apply saveLife_touches); rfl
    | (with_reducible apply raise_touches); rfl
    | (with_reducible apply Touches.emitM (M := 268435456)) <;> rfl
    | with_reducible split
    | with_reducible dsimp only

theorem writeOpuLife_touches (k) {L : Nat} (h : Nat.lor 275146342400 L = L) : Touches L (writeOpuLife k) := by
  refine Touches.mono (L := 275146342400) ?_ h
  unfold writeOpuLife
  try dsimp only
  repeat' first
    | with_reducible refine Touches.bind ?_ fun _ => ?_
    | with_reducible refine Touches.ite ?_ ?_
    | with_reducible exact Touches.pure _
    | with_reducible exact Touches.rd
    | (with_reducible apply Touches.emitM (M := 268435456)) <;> rfl
    | (with_reducible apply Touches.emitM (M := 274877906944)) <;> rfl
    | with_reducible split
    | with_reducible dsimp only

theorem execOpuLifeWrite_touches (k) (s : State) : ∃ u, execOpuLifeWrite k s = .next u ∧ Same 275146342400 s u := by
  unfold execOpuLifeWrite
  first | apply Touches.answer | apply Touches.answerWhen | (dsimp only; first | apply Touches.answer | apply Touches.answerWhen)
  try dsimp only
  repeat' first
    | with_reducible refine Touches.bind ?_ fun _ => ?_
    | with_reducible refine Touches.ite ?_ ?_
    | with_reducible exact Touches.pure _
    | with_reducible exact Touches.rd
    | (with_reducible apply writeOpuLife_touches); rfl
    | with_reducible split
    | with_reducible dsimp only

theorem logStrands_touches {L : Nat} (h : Nat.lor 8858370048 L = L) : Touches L (logStrands) := by
  refine Touches.mono (L := 8858370048) ?_ h
  unfold logStrands
  try dsimp only
  repeat' first
    | with_reducible refine Touches.bind ?_ fun _ => ?_
    | with_reducible refine Touches.ite ?_ ?_
    | with_reducible exact Touches.pure _
    | with_reducible exact Touches.rd
    | (with_reducible apply Touches.emitM (M := 8589934592)) <;> rfl
    | (with_reducible apply Touches.emitM (M := 268435456)) <;> rfl
    | with_reducible split
    | with_reducible dsimp only

theorem execStrandLogAppend_touches (s : State) : ∃ u, execStrandLogAppend s = .next u ∧ Same 263029019165302374 s u := by
  unfold execStrandLogAppend
  first | apply Touches.answer | apply Touches.answerWhen | (dsimp only; first | apply Touches.answer | apply Touches.answerWhen)
  try dsimp only
  repeat' first
    | with_reducible refine Touches.bind ?_ fun _ => ?_
    | with_reducible refine Touches.ite ?_ ?_
    | with_reducible exact Touches.pure _
    | with_reducible exact Touches.rd
    | (with_reducible apply logStrands_touches); rfl
    | (with_reducible apply settle_touches); rfl
    | (with_reducible apply settleBlocks_touches); rfl
    | with_reducible split
    | with_reducible dsimp only

theorem writePowerFail_touches {L : Nat} (h : Nat.lor 268435456 L = L) : Touches L (writePowerFail) := by
  refine Touches.mono (L := 268435456) ?_ h
  unfold writePowerFail
  try dsimp only
  repeat' first
    | with_reducible refine Touches.bind ?_ fun _ => ?_
    | with_reducible refine Touches.ite ?_ ?_
    | with_reducible exact Touches.pure _
    | with_reducible exact Touches.rd
    | (with_reducible apply Touches.emitM (M := 268435456)) <;> rfl
    | with_reducible split
    | with_reducible dsimp only

theorem saveTraining_touches {L : Nat} (h : Nat.lor 268435456 L = L) : Touches L (saveTraining) := by
  refine Touches.mono (L := 268435456) ?_ h
  unfold saveTraining
  try dsimp only
  repeat' first
    | with_reducible refine Touches.bind ?_ fun _ => ?_
    | with_reducible refine Touches.ite ?_ ?_
    | with_reducible exact Touches.pure _
    | with_reducible exact Touches.rd
    | (with_reducible apply Touches.emitM (M := 268435456)) <;> rfl
    | with_reducible split
    | with_reducible dsimp only

theorem finishRows_touches (n) {L : Nat} (h : Nat.lor 144116435037192294 L = L) : Touches L (finishRows n) := by
  refine Touches.mono (L := 144116435037192294) ?_ h
  clear h
  induction n with
  | zero =>
    rw [finishRows]
    try dsimp only
    repeat' first
      | with_reducible refine Touches.bind ?_ fun _ => ?_
      | with_reducible refine Touches.ite ?_ ?_
      | with_reducible exact Touches.pure _
      | with_reducible exact Touches.rd
      | (with_reducible apply programOk_touches); rfl
      | with_reducible split
      | with_reducible dsimp only
  | succ n ih =>
    rw [finishRows]
    try dsimp only
    repeat' first
      | with_reducible refine Touches.bind ?_ fun _ => ?_
      | with_reducible refine Touches.ite ?_ ?_
      | with_reducible exact Touches.pure _
      | with_reducible exact Touches.rd
      | (with_reducible apply programOk_touches); rfl
      | with_reducible apply ih
      | with_reducible split
      | with_reducible dsimp only

theorem writeCheckpoint_touches {L : Nat} (h : Nat.lor 1008807599999549550 L = L) : Touches L (writeCheckpoint) := by
  refine Touches.mono (L := 1008807599999549550) ?_ h
  unfold writeCheckpoint
  try dsimp only
  repeat' first
    | with_reducible refine Touches.bind ?_ fun _ => ?_
    | with_reducible refine Touches.ite ?_ ?_
    | with_reducible exact Touches.pure _
    | with_reducible exact Touches.rd
    | (with_reducible apply cleanCache_touches); rfl
    | (with_reducible apply openData_touches); rfl
    | (with_reducible apply openLog_touches); rfl
    | (with_reducible apply closeBlock_touches); rfl
    | (with_reducible apply finishRows_touches); rfl
    | (with_reducible apply sweepCache_touches); rfl
    | (with_reducible apply logStrands_touches); rfl
    | (with_reducible apply saveBlocks_touches); rfl
    | with_reducible refine Touches.forAll fun _ => ?_
    | (with_reducible apply Touches.emitM (M := 268435456)) <;> rfl
    | with_reducible split
    | with_reducible dsimp only

end Sys2Proof.Machine
end

