-- ==== Sys2Proof/Laws/Touches4.lean ====
section
/-! SUPPORT. Part 4 of what every program of the model may touch: for each program, that from every state it runs to an answer, and
the parts of the state that it leaves alone (as the bits of `Part.idx`). -/

set_option linter.all false

namespace Sys2Proof.Machine

theorem execVbatCheck_touches (low) (s : State) : ∃ u, execVbatCheck low s = .next u ∧ Same 144116287657738566 s u := by
  unfold execVbatCheck
  first | apply Touches.answer | apply Touches.answerWhen | (dsimp only; first | apply Touches.answer | apply Touches.answerWhen)
  try dsimp only
  repeat' first
    | with_reducible refine Touches.bind ?_ fun _ => ?_
    | with_reducible refine Touches.ite ?_ ?_
    | with_reducible exact Touches.pure _
    | with_reducible exact Touches.rd
    | (with_reducible apply Touches.setF) <;> (first | with_reducible exact F.LIF_STAT_VBAT_LOW_window | rfl)
    | (with_reducible apply raise_touches); rfl
    | with_reducible split
    | with_reducible dsimp only

theorem showTamper_touches {L : Nat} (h : Nat.lor 256 L = L) : Touches L (showTamper) := by
  refine Touches.mono (L := 256) ?_ h
  unfold showTamper
  try dsimp only
  repeat' first
    | with_reducible refine Touches.bind ?_ fun _ => ?_
    | with_reducible refine Touches.ite ?_ ?_
    | with_reducible exact Touches.pure _
    | with_reducible exact Touches.rd
    | (with_reducible apply Touches.setF) <;> (first | with_reducible exact F.LIF_STAT_TAMPER_window | with_reducible exact F.LIF_TAMPER_TIME_SEC_window | rfl)
    | with_reducible split
    | with_reducible dsimp only

theorem execTamperNAsserted_touches (s : State) : ∃ u, execTamperNAsserted s = .next u ∧ Same 144116287926174022 s u := by
  unfold execTamperNAsserted
  first | apply Touches.answer | apply Touches.answerWhen | (dsimp only; first | apply Touches.answer | apply Touches.answerWhen)
  try dsimp only
  repeat' first
    | with_reducible refine Touches.bind ?_ fun _ => ?_
    | with_reducible refine Touches.ite ?_ ?_
    | with_reducible exact Touches.pure _
    | with_reducible exact Touches.rd
    | (with_reducible apply showTamper_touches); rfl
    | (with_reducible apply raise_touches); rfl
    | (with_reducible apply Touches.emitM (M := 268435456)) <;> rfl
    | with_reducible split
    | with_reducible dsimp only

theorem clearTamper_touches {L : Nat} (h : Nat.lor 268435712 L = L) : Touches L (clearTamper) := by
  refine Touches.mono (L := 268435712) ?_ h
  unfold clearTamper
  try dsimp only
  repeat' first
    | with_reducible refine Touches.bind ?_ fun _ => ?_
    | with_reducible refine Touches.ite ?_ ?_
    | with_reducible exact Touches.pure _
    | with_reducible exact Touches.rd
    | (with_reducible apply showTamper_touches); rfl
    | (with_reducible apply Touches.emitM (M := 268435456)) <;> rfl
    | with_reducible split
    | with_reducible dsimp only

theorem execTamperClear_touches (m) (s : State) : ∃ u, execTamperClear m s = .next u ∧ Same 268435712 s u := by
  unfold execTamperClear
  first | apply Touches.answer | apply Touches.answerWhen | (dsimp only; first | apply Touches.answer | apply Touches.answerWhen)
  try dsimp only
  repeat' first
    | with_reducible refine Touches.bind ?_ fun _ => ?_
    | with_reducible refine Touches.ite ?_ ?_
    | with_reducible exact Touches.pure _
    | with_reducible exact Touches.rd
    | (with_reducible apply clearTamper_touches); rfl
    | with_reducible split
    | with_reducible dsimp only

theorem execPinShortDetect_touches (n) (s : State) : ∃ u, execPinShortDetect n s = .next u ∧ Same 263022148010352454 s u := by
  unfold execPinShortDetect
  first | apply Touches.answer | apply Touches.answerWhen | (dsimp only; first | apply Touches.answer | apply Touches.answerWhen)
  try dsimp only
  repeat' first
    | with_reducible refine Touches.bind ?_ fun _ => ?_
    | with_reducible refine Touches.ite ?_ ?_
    | with_reducible exact Touches.pure _
    | with_reducible exact Touches.rd
    | (with_reducible apply Touches.setF) <;> (first | with_reducible exact F.LIF_PIN_SHORT_BITS_window _ | rfl)
    | (with_reducible apply sendFrame_touches); rfl
    | (with_reducible apply raiseOpu_touches); rfl
    | (with_reducible apply parkToFaulted_touches); rfl
    | with_reducible split
    | with_reducible dsimp only

theorem enterReset_touches (mode) (cause) {L : Nat} (h : Nat.lor 1152921465652248575 L = L) : Touches L (enterReset mode cause) := by
  refine Touches.mono (L := 1152921465652248575) ?_ h
  unfold enterReset
  try dsimp only
  repeat' first
    | with_reducible refine Touches.bind ?_ fun _ => ?_
    | with_reducible refine Touches.ite ?_ ?_
    | with_reducible exact Touches.pure _
    | with_reducible exact Touches.rd
    | (with_reducible apply Touches.setF) <;> (first | with_reducible exact F.DEV_MODE_STAT_MODE_window | with_reducible exact F.DEV_MODE_STAT_PREV_MODE_window | with_reducible exact F.DEV_MODE_STAT_TRANSITION_window | rfl)
    | (with_reducible apply Touches.emitM (M := 1152921465652248575)) <;> rfl
    | (with_reducible apply Touches.emitM (M := 134217728)) <;> rfl
    | with_reducible split
    | with_reducible dsimp only

theorem beginBoot_touches (prev) (modeCause) {L : Nat} (h : Nat.lor 144116287791956175 L = L) : Touches L (beginBoot prev modeCause) := by
  refine Touches.mono (L := 144116287791956175) ?_ h
  unfold beginBoot
  try dsimp only
  repeat' first
    | with_reducible refine Touches.bind ?_ fun _ => ?_
    | with_reducible refine Touches.ite ?_ ?_
    | with_reducible exact Touches.pure _
    | with_reducible exact Touches.rd
    | (with_reducible apply Touches.setF) <;> (first | with_reducible exact F.DEV_MODE_STAT_MODE_window | with_reducible exact F.DEV_MODE_STAT_PREV_MODE_window | with_reducible exact F.DEV_MODE_STAT_TRANSITION_window | with_reducible exact F.DEV_MODE_STAT_CAUSE_window | with_reducible exact F.SEC_BOOT_STAT_STEP_window | with_reducible exact F.SEC_BOOT_STAT_CAUSE_window | with_reducible exact F.CCH_STAT_INIT_DONE_window | with_reducible exact F.CCH_STAT_BYPASS_window | rfl)
    | (with_reducible apply raise_touches); rfl
    | (with_reducible apply Touches.emitM (M := 134217728)) <;> rfl
    | with_reducible split
    | with_reducible dsimp only

theorem startBoot_touches {L : Nat} (h : Nat.lor 144116287791956175 L = L) : Touches L (startBoot) := by
  refine Touches.mono (L := 144116287791956175) ?_ h
  unfold startBoot
  try dsimp only
  repeat' first
    | with_reducible refine Touches.bind ?_ fun _ => ?_
    | with_reducible refine Touches.ite ?_ ?_
    | with_reducible exact Touches.pure _
    | with_reducible exact Touches.rd
    | (with_reducible apply beginBoot_touches); rfl
    | with_reducible split
    | with_reducible dsimp only

theorem internalReset_touches (cause) {L : Nat} (h : Nat.lor 1152921465654345727 L = L) : Touches L (internalReset cause) := by
  refine Touches.mono (L := 1152921465654345727) ?_ h
  unfold internalReset
  try dsimp only
  repeat' first
    | with_reducible refine Touches.bind ?_ fun _ => ?_
    | with_reducible refine Touches.ite ?_ ?_
    | with_reducible exact Touches.pure _
    | with_reducible exact Touches.rd
    | (with_reducible apply enterReset_touches); rfl
    | (with_reducible apply startBoot_touches); rfl
    | with_reducible split
    | with_reducible dsimp only

theorem activateRestart_touches {L : Nat} (h : Nat.lor 1152921465654345727 L = L) : Touches L (activateRestart) := by
  refine Touches.mono (L := 1152921465654345727) ?_ h
  unfold activateRestart
  try dsimp only
  repeat' first
    | with_reducible refine Touches.bind ?_ fun _ => ?_
    | with_reducible refine Touches.ite ?_ ?_
    | with_reducible exact Touches.pure _
    | with_reducible exact Touches.rd
    | (with_reducible apply beginBoot_touches); rfl
    | with_reducible refine Touches.forAll fun _ => ?_
    | (with_reducible apply Touches.emitM (M := 1152921465652248575)) <;> rfl
    | (with_reducible apply Touches.emitM (M := 134217728)) <;> rfl
    | (with_reducible apply Touches.emitM (M := 67108864)) <;> rfl
    | (with_reducible apply Touches.emitM (M := 576460752303423488)) <;> rfl
    | (with_reducible apply Touches.emitM (M := 1099511627776)) <;> rfl
    | (with_reducible apply Touches.emitM (M := 17592186044416)) <;> rfl
    | with_reducible split
    | with_reducible dsimp only

theorem restBay_touches (b) (reason) {L : Nat} (h : Nat.lor 263022148010352198 L = L) : Touches L (restBay b reason) := by
  refine Touches.mono (L := 263022148010352198) ?_ h
  unfold restBay
  try dsimp only
  repeat' first
    | with_reducible refine Touches.bind ?_ fun _ => ?_
    | with_reducible refine Touches.ite ?_ ?_
    | with_reducible exact Touches.pure _
    | with_reducible exact Touches.rd
    | (with_reducible apply stopWriteAtBoundary_touches); rfl
    | (with_reducible apply parkBay_touches); rfl
    | with_reducible refine Touches.forAll fun _ => ?_
    | (with_reducible apply Touches.emitM (M := 17592186044416)) <;> rfl
    | with_reducible split
    | with_reducible dsimp only

theorem wakeBay_touches (b) {L : Nat} (h : Nat.lor 263022148010368583 L = L) : Touches L (wakeBay b) := by
  refine Touches.mono (L := 263022148010368583) ?_ h
  unfold wakeBay
  try dsimp only
  repeat' first
    | with_reducible refine Touches.bind ?_ fun _ => ?_
    | with_reducible refine Touches.ite ?_ ?_
    | with_reducible exact Touches.pure _
    | with_reducible exact Touches.rd
    | (with_reducible apply changeMode_touches); rfl
    | (with_reducible apply runMotor_touches); rfl
    | with_reducible split
    | with_reducible dsimp only

theorem needBay_touches (b) {L : Nat} (h : Nat.lor 263022148010368583 L = L) : Touches L (needBay b) := by
  refine Touches.mono (L := 263022148010368583) ?_ h
  unfold needBay
  try dsimp only
  repeat' first
    | with_reducible refine Touches.bind ?_ fun _ => ?_
    | with_reducible refine Touches.ite ?_ ?_
    | with_reducible exact Touches.pure _
    | with_reducible exact Touches.rd
    | (with_reducible apply Touches.setF) <;> (first | with_reducible exact F.BAY_STAT_HELD_window _ | rfl)
    | (with_reducible apply wakeBay_touches); rfl
    | with_reducible split
    | with_reducible dsimp only

theorem execBayNeeded_touches (b) (s : State) : ∃ u, execBayNeeded b s = .next u ∧ Same 263022148010368583 s u := by
  unfold execBayNeeded
  first | apply Touches.answer | apply Touches.answerWhen | (dsimp only; first | apply Touches.answer | apply Touches.answerWhen)
  try dsimp only
  repeat' first
    | with_reducible refine Touches.bind ?_ fun _ => ?_
    | with_reducible refine Touches.ite ?_ ?_
    | with_reducible exact Touches.pure _
    | with_reducible exact Touches.rd
    | (with_reducible apply wakeBay_touches); rfl
    | with_reducible split
    | with_reducible dsimp only

theorem dropAllLasers_touches {L : Nat} (h : Nat.lor 108157034681172480 L = L) : Touches L (dropAllLasers) := by
  refine Touches.mono (L := 108157034681172480) ?_ h
  unfold dropAllLasers
  try dsimp only
  repeat' first
    | with_reducible refine Touches.bind ?_ fun _ => ?_
    | with_reducible refine Touches.ite ?_ ?_
    | with_reducible exact Touches.pure _
    | with_reducible exact Touches.rd
    | (with_reducible apply dropLaser_touches); rfl
    | with_reducible refine Touches.forAll fun _ => ?_
    | with_reducible split
    | with_reducible dsimp only

theorem stopDrives_touches {L : Nat} (h : Nat.lor 263022148010352198 L = L) : Touches L (stopDrives) := by
  refine Touches.mono (L := 263022148010352198) ?_ h
  unfold stopDrives
  try dsimp only
  repeat' first
    | with_reducible refine Touches.bind ?_ fun _ => ?_
    | with_reducible refine Touches.ite ?_ ?_
    | with_reducible exact Touches.pure _
    | with_reducible exact Touches.rd
    | (with_reducible apply retract_touches); rfl
    | (with_reducible apply stopBay_touches); rfl
    | with_reducible refine Touches.forAll fun _ => ?_
    | with_reducible split
    | with_reducible dsimp only

theorem drainSkips_touches {L : Nat} (h : Nat.lor 36046423564746752 L = L) : Touches L (drainSkips) := by
  refine Touches.mono (L := 36046423564746752) ?_ h
  unfold drainSkips
  try dsimp only
  repeat' first
    | with_reducible refine Touches.bind ?_ fun _ => ?_
    | with_reducible refine Touches.ite ?_ ?_
    | with_reducible exact Touches.pure _
    | with_reducible exact Touches.rd
    | (with_reducible apply recordSkips_touches); rfl
    | with_reducible refine Touches.forAll fun _ => ?_
    | with_reducible split
    | with_reducible dsimp only

theorem enterDrain_touches (cause) (atOnce) {L : Nat} (h : Nat.lor 263029019299520103 L = L) : Touches L (enterDrain cause atOnce) := by
  refine Touches.mono (L := 263029019299520103) ?_ h
  unfold enterDrain
  try dsimp only
  repeat' first
    | with_reducible refine Touches.bind ?_ fun _ => ?_
    | with_reducible refine Touches.ite ?_ ?_
    | with_reducible exact Touches.pure _
    | with_reducible exact Touches.rd
    | (with_reducible apply Touches.setF) <;> (first | with_reducible exact F.DEV_MODE_STAT_TRANSITION_window | with_reducible exact F.DEV_MODE_STAT_OK_TO_REMOVE_window | with_reducible exact F.DEV_MODE_REQ_TARGET_window | rfl)
    | (with_reducible apply writePowerFail_touches); rfl
    | (with_reducible apply changeMode_touches); rfl
    | (with_reducible apply dropAllLasers_touches); rfl
    | (with_reducible apply restBay_touches); rfl
    | (with_reducible apply stopDrives_touches); rfl
    | (with_reducible apply drainSkips_touches); rfl
    | (with_reducible apply completeAs_touches); rfl
    | (with_reducible apply abortAll_touches); rfl
    | (with_reducible apply settle_touches); rfl
    | with_reducible refine Touches.forAll fun _ => ?_
    | (with_reducible apply Touches.emitM (M := 67108864)) <;> rfl
    | (with_reducible apply Touches.emitM (M := 134217728)) <;> rfl
    | (with_reducible apply Touches.emitM (M := 274877906944)) <;> rfl
    | with_reducible split
    | with_reducible dsimp only

theorem leaveDrain_touches (cause) {L : Nat} (h : Nat.lor 144116287926173767 L = L) : Touches L (leaveDrain cause) := by
  refine Touches.mono (L := 144116287926173767) ?_ h
  unfold leaveDrain
  try dsimp only
  repeat' first
    | with_reducible refine Touches.bind ?_ fun _ => ?_
    | with_reducible refine Touches.ite ?_ ?_
    | with_reducible exact Touches.pure _
    | with_reducible exact Touches.rd
    | (with_reducible apply Touches.setF) <;> (first | with_reducible exact F.DEV_MODE_REQ_TARGET_window | with_reducible exact F.DEV_MODE_STAT_OK_TO_REMOVE_window | rfl)
    | (with_reducible apply changeMode_touches); rfl
    | (with_reducible apply Touches.emitM (M := 67108864)) <;> rfl
    | (with_reducible apply Touches.emitM (M := 268435456)) <;> rfl
    | with_reducible split
    | with_reducible dsimp only

theorem settleDrain_touches {L : Nat} (h : Nat.lor 144116287926173767 L = L) : Touches L (settleDrain) := by
  refine Touches.mono (L := 144116287926173767) ?_ h
  unfold settleDrain
  try dsimp only
  repeat' first
    | with_reducible refine Touches.bind ?_ fun _ => ?_
    | with_reducible refine Touches.ite ?_ ?_
    | with_reducible exact Touches.pure _
    | with_reducible exact Touches.rd
    | (with_reducible apply leaveDrain_touches); rfl
    | with_reducible split
    | with_reducible dsimp only

theorem execDrainComplete_touches (s : State) : ∃ u, execDrainComplete s = .next u ∧ Same 1127720147620437871 s u := by
  unfold execDrainComplete
  first | apply Touches.answer | apply Touches.answerWhen | (dsimp only; first | apply Touches.answer | apply Touches.answerWhen)
  try dsimp only
  repeat' first
    | with_reducible refine Touches.bind ?_ fun _ => ?_
    | with_reducible refine Touches.ite ?_ ?_
    | with_reducible exact Touches.pure _
    | with_reducible exact Touches.rd
    | (with_reducible apply Touches.setF) <;> (first | with_reducible exact F.DEV_MODE_STAT_OK_TO_REMOVE_window | rfl)
    | (with_reducible apply writeCheckpoint_touches); rfl
    | (with_reducible apply saveLife_touches); rfl
    | (with_reducible apply writeOpuLife_touches); rfl
    | (with_reducible apply postWrite_touches); rfl
    | (with_reducible apply settle_touches); rfl
    | (with_reducible apply settleDrain_touches); rfl
    | with_reducible refine Touches.forAll fun _ => ?_
    | (with_reducible apply Touches.emitM (M := 67108864)) <;> rfl
    | with_reducible split
    | with_reducible dsimp only

theorem execDrainSpinTimeout_touches (b) (s : State) : ∃ u, execDrainSpinTimeout b s = .next u ∧ Same 225796807462163526 s u := by
  unfold execDrainSpinTimeout
  first | apply Touches.answer | apply Touches.answerWhen | (dsimp only; first | apply Touches.answer | apply Touches.answerWhen)
  try dsimp only
  repeat' first
    | with_reducible refine Touches.bind ?_ fun _ => ?_
    | with_reducible refine Touches.ite ?_ ?_
    | with_reducible exact Touches.pure _
    | with_reducible exact Touches.rd
    | (with_reducible apply gatesOff_touches); rfl
    | (with_reducible apply raiseBay_touches); rfl
    | (with_reducible apply finishPark_touches); rfl
    | with_reducible split
    | with_reducible dsimp only

theorem execDrainDeadline_touches (s : State) : ∃ u, execDrainDeadline s = .next u ∧ Same 144116287926173767 s u := by
  unfold execDrainDeadline
  first | apply Touches.answer | apply Touches.answerWhen | (dsimp only; first | apply Touches.answer | apply Touches.answerWhen)
  try dsimp only
  repeat' first
    | with_reducible refine Touches.bind ?_ fun _ => ?_
    | with_reducible refine Touches.ite ?_ ?_
    | with_reducible exact Touches.pure _
    | with_reducible exact Touches.rd
    | (with_reducible apply Touches.setF) <;> (first | with_reducible exact F.DEV_MODE_STAT_OK_TO_REMOVE_window | rfl)
    | (with_reducible apply raise_touches); rfl
    | (with_reducible apply settleDrain_touches); rfl
    | (with_reducible apply Touches.emitM (M := 67108864)) <;> rfl
    | with_reducible split
    | with_reducible dsimp only

theorem execPwrFailNAsserted_touches (s : State) : ∃ u, execPwrFailNAsserted s = .next u ∧ Same 263029019299520103 s u := by
  unfold execPwrFailNAsserted
  first | apply Touches.answer | apply Touches.answerWhen | (dsimp only; first | apply Touches.answer | apply Touches.answerWhen)
  try dsimp only
  repeat' first
    | with_reducible refine Touches.bind ?_ fun _ => ?_
    | with_reducible refine Touches.ite ?_ ?_
    | with_reducible exact Touches.pure _
    | with_reducible exact Touches.rd
    | (with_reducible apply Touches.setF) <;> (first | with_reducible exact F.DEV_MODE_STAT_PWR_FAIL_window | with_reducible exact F.DEV_MODE_REQ_TARGET_window | rfl)
    | (with_reducible apply raise_touches); rfl
    | (with_reducible apply dropAllLasers_touches); rfl
    | (with_reducible apply drainSkips_touches); rfl
    | (with_reducible apply enterDrain_touches); rfl
    | (with_reducible apply Touches.emitM (M := 67108864)) <;> rfl
    | (with_reducible apply Touches.emitM (M := 274877906944)) <;> rfl
    | with_reducible split
    | with_reducible dsimp only

theorem execPwrFailNDeasserted_touches (s : State) : ∃ u, execPwrFailNDeasserted s = .next u ∧ Same 144116287926173767 s u := by
  unfold execPwrFailNDeasserted
  first | apply Touches.answer | apply Touches.answerWhen | (dsimp only; first | apply Touches.answer | apply Touches.answerWhen)
  try dsimp only
  repeat' first
    | with_reducible refine Touches.bind ?_ fun _ => ?_
    | with_reducible refine Touches.ite ?_ ?_
    | with_reducible exact Touches.pure _
    | with_reducible exact Touches.rd
    | (with_reducible apply Touches.setF) <;> (first | with_reducible exact F.DEV_MODE_STAT_PWR_FAIL_window | rfl)
    | (with_reducible apply settleDrain_touches); rfl
    | with_reducible split
    | with_reducible dsimp only

theorem rejectRequest_touches {L : Nat} (h : Nat.lor 144116287657738311 L = L) : Touches L (rejectRequest) := by
  refine Touches.mono (L := 144116287657738311) ?_ h
  unfold rejectRequest
  try dsimp only
  repeat' first
    | with_reducible refine Touches.bind ?_ fun _ => ?_
    | with_reducible refine Touches.ite ?_ ?_
    | with_reducible exact Touches.pure _
    | with_reducible exact Touches.rd
    | (with_reducible apply Touches.setF) <;> (first | with_reducible exact F.DEV_MODE_REQ_TARGET_window | rfl)
    | (with_reducible apply raise_touches); rfl
    | (with_reducible apply Touches.emitM (M := 67108864)) <;> rfl
    | with_reducible split
    | with_reducible dsimp only

theorem enterRetention_touches {L : Nat} (h : Nat.lor 720577039961161799 L = L) : Touches L (enterRetention) := by
  refine Touches.mono (L := 720577039961161799) ?_ h
  unfold enterRetention
  try dsimp only
  repeat' first
    | with_reducible refine Touches.bind ?_ fun _ => ?_
    | with_reducible refine Touches.ite ?_ ?_
    | with_reducible exact Touches.pure _
    | with_reducible exact Touches.rd
    | (with_reducible apply Touches.setF) <;> (first | with_reducible exact F.DEV_MODE_STAT_TRANSITION_window | with_reducible exact F.DEV_MODE_STAT_OK_TO_REMOVE_window | rfl)
    | (with_reducible apply rejectRequest_touches); rfl
    | (with_reducible apply changeMode_touches); rfl
    | (with_reducible apply Touches.emitM (M := 67108864)) <;> rfl
    | (with_reducible apply Touches.emitM (M := 576460752303423488)) <;> rfl
    | with_reducible split
    | with_reducible dsimp only

theorem retainDram_touches {L : Nat} (h : Nat.lor 1008807599999549807 L = L) : Touches L (retainDram) := by
  refine Touches.mono (L := 1008807599999549807) ?_ h
  unfold retainDram
  try dsimp only
  repeat' first
    | with_reducible refine Touches.bind ?_ fun _ => ?_
    | with_reducible refine Touches.ite ?_ ?_
    | with_reducible exact Touches.pure _
    | with_reducible exact Touches.rd
    | (with_reducible apply writeCheckpoint_touches); rfl
    | (with_reducible apply saveLife_touches); rfl
    | (with_reducible apply saveTraining_touches); rfl
    | (with_reducible apply enterRetention_touches); rfl
    | (with_reducible apply Touches.emitM (M := 576460752303423488)) <;> rfl
    | with_reducible split
    | with_reducible dsimp only

theorem beginRetention_touches (cause) {L : Nat} (h : Nat.lor 144116425365127271 L = L) : Touches L (beginRetention cause) := by
  refine Touches.mono (L := 144116425365127271) ?_ h
  unfold beginRetention
  try dsimp only
  repeat' first
    | with_reducible refine Touches.bind ?_ fun _ => ?_
    | with_reducible refine Touches.ite ?_ ?_
    | with_reducible exact Touches.pure _
    | with_reducible exact Touches.rd
    | (with_reducible apply Touches.setF) <;> (first | with_reducible exact F.DEV_MODE_STAT_TRANSITION_window | rfl)
    | (with_reducible apply padFor_touches); rfl
    | (with_reducible apply Touches.emitM (M := 67108864)) <;> rfl
    | with_reducible split
    | with_reducible dsimp only

theorem execL2HandshakeTimeout_touches (p) (s : State) : ∃ u, execL2HandshakeTimeout p s = .next u ∧ Same 720577039961161799 s u := by
  unfold execL2HandshakeTimeout
  first | apply Touches.answer | apply Touches.answerWhen | (dsimp only; first | apply Touches.answer | apply Touches.answerWhen)
  try dsimp only
  repeat' first
    | with_reducible refine Touches.bind ?_ fun _ => ?_
    | with_reducible refine Touches.ite ?_ ?_
    | with_reducible exact Touches.pure _
    | with_reducible exact Touches.rd
    | (with_reducible apply Touches.setF) <;> (first | with_reducible exact F.HST_LINK_STAT_SPEED_window _ | with_reducible exact F.HST_LINK_STAT_WIDTH_window _ | rfl)
    | (with_reducible apply raise_touches); rfl
    | (with_reducible apply enterRetention_touches); rfl
    | with_reducible refine Touches.forAll fun _ => ?_
    | with_reducible split
    | with_reducible dsimp only

theorem holdRequest_touches (target) (smb) {L : Nat} (h : Nat.lor 67108865 L = L) : Touches L (holdRequest target smb) := by
  refine Touches.mono (L := 67108865) ?_ h
  unfold holdRequest
  try dsimp only
  repeat' first
    | with_reducible refine Touches.bind ?_ fun _ => ?_
    | with_reducible refine Touches.ite ?_ ?_
    | with_reducible exact Touches.pure _
    | with_reducible exact Touches.rd
    | (with_reducible apply Touches.setF) <;> (first | with_reducible exact F.DEV_MODE_REQ_TARGET_window | rfl)
    | (with_reducible apply Touches.emitM (M := 67108864)) <;> rfl
    | with_reducible split
    | with_reducible dsimp only

theorem beginTransition_touches (target) (cause) {L : Nat} (h : Nat.lor 263022148010352199 L = L) : Touches L (beginTransition target cause) := by
  refine Touches.mono (L := 263022148010352199) ?_ h
  unfold beginTransition
  try dsimp only
  repeat' first
    | with_reducible refine Touches.bind ?_ fun _ => ?_
    | with_reducible refine Touches.ite ?_ ?_
    | with_reducible exact Touches.pure _
    | with_reducible exact Touches.rd
    | (with_reducible apply Touches.setF) <;> (first | with_reducible exact F.DEV_MODE_STAT_TRANSITION_window | rfl)
    | (with_reducible apply restBay_touches); rfl
    | with_reducible refine Touches.forAll fun _ => ?_
    | (with_reducible apply Touches.emitM (M := 67108864)) <;> rfl
    | with_reducible split
    | with_reducible dsimp only

theorem takeRequest_touches (target) (cause) {L : Nat} (h : Nat.lor 263029019299520103 L = L) : Touches L (takeRequest target cause) := by
  refine Touches.mono (L := 263029019299520103) ?_ h
  unfold takeRequest
  try dsimp only
  repeat' first
    | with_reducible refine Touches.bind ?_ fun _ => ?_
    | with_reducible refine Touches.ite ?_ ?_
    | with_reducible exact Touches.pure _
    | with_reducible exact Touches.rd
    | (with_reducible apply Touches.setF) <;> (first | with_reducible exact F.DEV_MODE_REQ_TARGET_window | rfl)
    | (with_reducible apply enterDrain_touches); rfl
    | (with_reducible apply beginRetention_touches); rfl
    | (with_reducible apply beginTransition_touches); rfl
    | (with_reducible apply changeMode_touches); rfl
    | (with_reducible apply Touches.emitM (M := 67108864)) <;> rfl
    | with_reducible split
    | with_reducible dsimp only

theorem requestMode_touches (target) (smb) (admin) {L : Nat} (h : Nat.lor 263029019299520103 L = L) : Touches L (requestMode target smb admin) := by
  refine Touches.mono (L := 263029019299520103) ?_ h
  unfold requestMode
  try dsimp only
  repeat' first
    | with_reducible refine Touches.bind ?_ fun _ => ?_
    | with_reducible refine Touches.ite ?_ ?_
    | with_reducible exact Touches.pure _
    | with_reducible exact Touches.rd
    | (with_reducible apply Touches.setF) <;> (first | with_reducible exact F.DEV_MODE_REQ_TARGET_window | rfl)
    | (with_reducible apply rejectRequest_touches); rfl
    | (with_reducible apply holdRequest_touches); rfl
    | (with_reducible apply settleDrain_touches); rfl
    | (with_reducible apply takeRequest_touches); rfl
    | (with_reducible apply Touches.emitM (M := 67108864)) <;> rfl
    | with_reducible split
    | with_reducible dsimp only

theorem takeHeld_touches {L : Nat} (h : Nat.lor 263029019299520103 L = L) : Touches L (takeHeld) := by
  refine Touches.mono (L := 263029019299520103) ?_ h
  unfold takeHeld
  try dsimp only
  repeat' first
    | with_reducible refine Touches.bind ?_ fun _ => ?_
    | with_reducible refine Touches.ite ?_ ?_
    | with_reducible exact Touches.pure _
    | with_reducible exact Touches.rd
    | (with_reducible apply Touches.setF) <;> (first | with_reducible exact F.DEV_MODE_REQ_TARGET_window | rfl)
    | (with_reducible apply takeRequest_touches); rfl
    | (with_reducible apply requestMode_touches); rfl
    | (with_reducible apply Touches.emitM (M := 67108864)) <;> rfl
    | with_reducible split
    | with_reducible dsimp only

theorem writeModeReq_touches (m) (target) {L : Nat} (h : Nat.lor 263029019299520103 L = L) : Touches L (writeModeReq m target) := by
  refine Touches.mono (L := 263029019299520103) ?_ h
  unfold writeModeReq
  try dsimp only
  repeat' first
    | with_reducible refine Touches.bind ?_ fun _ => ?_
    | with_reducible refine Touches.ite ?_ ?_
    | with_reducible exact Touches.pure _
    | with_reducible exact Touches.rd
    | (with_reducible apply requestMode_touches); rfl
    | with_reducible split
    | with_reducible dsimp only

theorem execDevModeReqWrite_touches (m) (target) (s : State) : ∃ u, execDevModeReqWrite m target s = .next u ∧ Same 263029019299520103 s u := by
  unfold execDevModeReqWrite
  first | apply Touches.answer | apply Touches.answerWhen | (dsimp only; first | apply Touches.answer | apply Touches.answerWhen)
  try dsimp only
  repeat' first
    | with_reducible refine Touches.bind ?_ fun _ => ?_
    | with_reducible refine Touches.ite ?_ ?_
    | with_reducible exact Touches.pure _
    | with_reducible exact Touches.rd
    | (with_reducible apply writeModeReq_touches); rfl
    | with_reducible split
    | with_reducible dsimp only

theorem settleActivate_touches {L : Nat} (h : Nat.lor 1152921500290908159 L = L) : Touches L (settleActivate) := by
  refine Touches.mono (L := 1152921500290908159) ?_ h
  unfold settleActivate
  try dsimp only
  repeat' first
    | with_reducible refine Touches.bind ?_ fun _ => ?_
    | with_reducible refine Touches.ite ?_ ?_
    | with_reducible exact Touches.pure _
    | with_reducible exact Touches.rd
    | (with_reducible apply writeCheckpoint_touches); rfl
    | (with_reducible apply saveLife_touches); rfl
    | (with_reducible apply completeAs_touches); rfl
    | (with_reducible apply activateRestart_touches); rfl
    | with_reducible split
    | with_reducible dsimp only

theorem execIdleDelayExpired_touches (s : State) : ∃ u, execIdleDelayExpired s = .next u ∧ Same 144116287657738311 s u := by
  unfold execIdleDelayExpired
  first | apply Touches.answer | apply Touches.answerWhen | (dsimp only; first | apply Touches.answer | apply Touches.answerWhen)
  try dsimp only
  repeat' first
    | with_reducible refine Touches.bind ?_ fun _ => ?_
    | with_reducible refine Touches.ite ?_ ?_
    | with_reducible exact Touches.pure _
    | with_reducible exact Touches.rd
    | (with_reducible apply changeMode_touches); rfl
    | with_reducible split
    | with_reducible dsimp only

theorem execSlathLockLost_touches (s : State) : ∃ u, execSlathLockLost s = .next u ∧ Same 252836272290235974 s u := by
  unfold execSlathLockLost
  first | apply Touches.answer | apply Touches.answerWhen | (dsimp only; first | apply Touches.answer | apply Touches.answerWhen)
  try dsimp only
  repeat' first
    | with_reducible refine Touches.bind ?_ fun _ => ?_
    | with_reducible refine Touches.ite ?_ ?_
    | with_reducible exact Touches.pure _
    | with_reducible exact Touches.rd
    | (with_reducible apply dropAllLasers_touches); rfl
    | (with_reducible apply abortMotor_touches); rfl
    | (with_reducible apply raise_touches); rfl
    | with_reducible refine Touches.forAll fun _ => ?_
    | (with_reducible apply Touches.emitM (M := 67108864)) <;> rfl
    | with_reducible split
    | with_reducible dsimp only

theorem execSlathRelocked_touches (s : State) : ∃ u, execSlathRelocked s = .next u ∧ Same 263022148144570063 s u := by
  unfold execSlathRelocked
  first | apply Touches.answer | apply Touches.answerWhen | (dsimp only; first | apply Touches.answer | apply Touches.answerWhen)
  try dsimp only
  repeat' first
    | with_reducible refine Touches.bind ?_ fun _ => ?_
    | with_reducible refine Touches.ite ?_ ?_
    | with_reducible exact Touches.pure _
    | with_reducible exact Touches.rd
    | (with_reducible apply enterSafe_touches); rfl
    | (with_reducible apply startBoot_touches); rfl
    | (with_reducible apply Touches.emitM (M := 67108864)) <;> rfl
    | with_reducible split
    | with_reducible dsimp only

theorem execOscTrim_touches (trim) (s : State) : ∃ u, execOscTrim trim s = .next u ∧ Same 268435456 s u := by
  unfold execOscTrim
  first | apply Touches.answer | apply Touches.answerWhen | (dsimp only; first | apply Touches.answer | apply Touches.answerWhen)
  try dsimp only
  repeat' first
    | with_reducible refine Touches.bind ?_ fun _ => ?_
    | with_reducible refine Touches.ite ?_ ?_
    | with_reducible exact Touches.pure _
    | with_reducible exact Touches.rd
    | (with_reducible apply Touches.emitM (M := 268435456)) <;> rfl
    | with_reducible split
    | with_reducible dsimp only

theorem execThermalShutdown_touches (s : State) : ∃ u, execThermalShutdown s = .next u ∧ Same 263022148144569927 s u := by
  unfold execThermalShutdown
  first | apply Touches.answer | apply Touches.answerWhen | (dsimp only; first | apply Touches.answer | apply Touches.answerWhen)
  try dsimp only
  repeat' first
    | with_reducible refine Touches.bind ?_ fun _ => ?_
    | with_reducible refine Touches.ite ?_ ?_
    | with_reducible exact Touches.pure _
    | with_reducible exact Touches.rd
    | (with_reducible apply raise_touches); rfl
    | (with_reducible apply enterSafe_touches); rfl
    | with_reducible split
    | with_reducible dsimp only

theorem romTables_touches {L : Nat} (h : Nat.lor 4 L = L) : Touches L (romTables) := by
  refine Touches.mono (L := 4) ?_ h
  unfold romTables
  try dsimp only
  repeat' first
    | with_reducible refine Touches.bind ?_ fun _ => ?_
    | with_reducible refine Touches.ite ?_ ?_
    | with_reducible exact Touches.pure _
    | with_reducible exact Touches.rd
    | (with_reducible apply Touches.setF) <;> (first | with_reducible exact F.SEQ_DISPATCH_OP_ENTRY_window _ | with_reducible exact F.SEQ_DISPATCH_OP_VALID_window _ | with_reducible exact F.SEQ_DISPATCH_OP_ADMIN_ONLY_window _ | with_reducible exact F.SEQ_DISPATCH_OP_MODES_window _ | with_reducible exact F.SEQ_DISPATCH_OP_BOUND_window _ | with_reducible exact F.SEQ_DISPATCH_EV_ENTRY_window _ | with_reducible exact F.SEQ_DISPATCH_EV_ENABLED_window _ | with_reducible exact F.SEQ_DISPATCH_EV_CLASS_window _ | rfl)
    | with_reducible refine Touches.forAll fun _ => ?_
    | with_reducible split
    | with_reducible dsimp only

theorem loadTables_touches (p) {L : Nat} (h : Nat.lor 4 L = L) : Touches L (loadTables p) := by
  refine Touches.mono (L := 4) ?_ h
  unfold loadTables
  try dsimp only
  repeat' first
    | with_reducible refine Touches.bind ?_ fun _ => ?_
    | with_reducible refine Touches.ite ?_ ?_
    | with_reducible exact Touches.pure _
    | with_reducible exact Touches.rd
    | (with_reducible apply Touches.setF) <;> (first | with_reducible exact F.SEQ_OVL_MATCH_window _ | with_reducible exact F.SEQ_OVL_TARGET_window _ | with_reducible exact F.SEQ_DISPATCH_OP_ENTRY_window _ | with_reducible exact F.SEQ_DISPATCH_OP_VALID_window _ | with_reducible exact F.SEQ_DISPATCH_OP_ADMIN_ONLY_window _ | with_reducible exact F.SEQ_DISPATCH_OP_MODES_window _ | with_reducible exact F.SEQ_DISPATCH_OP_BOUND_window _ | with_reducible exact F.SEQ_DISPATCH_EV_ENTRY_window _ | with_reducible exact F.SEQ_DISPATCH_EV_ENABLED_window _ | with_reducible exact F.SEQ_DISPATCH_EV_CLASS_window _ | rfl)
    | (with_reducible apply romTables_touches); rfl
    | with_reducible refine Touches.forAll fun _ => ?_
    | with_reducible split
    | with_reducible dsimp only

theorem installPackage_touches (p) (slot) (source) {L : Nat} (h : Nat.lor 144116287791956166 L = L) : Touches L (installPackage p slot source) := by
  refine Touches.mono (L := 144116287791956166) ?_ h
  unfold installPackage
  try dsimp only
  repeat' first
    | with_reducible refine Touches.bind ?_ fun _ => ?_
    | with_reducible refine Touches.ite ?_ ?_
    | with_reducible exact Touches.pure _
    | with_reducible exact Touches.rd
    | (with_reducible apply Touches.setF) <;> (first | with_reducible exact F.SEC_BOOT_STAT_SLOT_window | with_reducible exact F.SEC_PKG_VER_VER_window | with_reducible exact F.SEQ_PATCH_VER_VER_window | with_reducible exact F.SEQ_PATCH_STAT_SOURCE_window | with_reducible exact F.SEQ_PATCH_STAT_RESULT_window | with_reducible exact F.SEQ_PATCH_STAT_WORDS_window | with_reducible exact F.SEQ_PATCH_STAT_OVL_USED_window | rfl)
    | (with_reducible apply loadTables_touches); rfl
    | (with_reducible apply raise_touches); rfl
    | (with_reducible apply Touches.emitM (M := 144115188075855872)) <;> rfl
    | (with_reducible apply Touches.emitM (M := 134217728)) <;> rfl
    | with_reducible split
    | with_reducible dsimp only

theorem romOnly_touches {L : Nat} (h : Nat.lor 144116287791956166 L = L) : Touches L (romOnly) := by
  refine Touches.mono (L := 144116287791956166) ?_ h
  unfold romOnly
  try dsimp only
  repeat' first
    | with_reducible refine Touches.bind ?_ fun _ => ?_
    | with_reducible refine Touches.ite ?_ ?_
    | with_reducible exact Touches.pure _
    | with_reducible exact Touches.rd
    | (with_reducible apply Touches.setF) <;> (first | with_reducible exact F.SEQ_OVL_MATCH_window _ | with_reducible exact F.SEQ_OVL_TARGET_window _ | with_reducible exact F.SEC_BOOT_STAT_SLOT_window | with_reducible exact F.SEC_PKG_VER_VER_window | with_reducible exact F.SEQ_STAT_ROM_ONLY_window | rfl)
    | (with_reducible apply romTables_touches); rfl
    | (with_reducible apply raise_touches); rfl
    | (with_reducible apply degrade_touches); rfl
    | with_reducible refine Touches.forAll fun _ => ?_
    | (with_reducible apply Touches.emitM (M := 144115188075855872)) <;> rfl
    | (with_reducible apply Touches.emitM (M := 134217728)) <;> rfl
    | with_reducible split
    | with_reducible dsimp only

theorem showSlots_touches {L : Nat} (h : Nat.lor 128 L = L) : Touches L (showSlots) := by
  refine Touches.mono (L := 128) ?_ h
  unfold showSlots
  try dsimp only
  repeat' first
    | with_reducible refine Touches.bind ?_ fun _ => ?_
    | with_reducible refine Touches.ite ?_ ?_
    | with_reducible exact Touches.pure _
    | with_reducible exact Touches.rd
    | (with_reducible apply Touches.setF) <;> (first | with_reducible exact F.SEC_SLOT_STAT_ACTIVE_window | with_reducible exact F.SEC_SLOT_STAT_STAGED_window | with_reducible exact F.SEC_SLOT_STAT_REJECTED_window | rfl)
    | with_reducible split
    | with_reducible dsimp only

theorem journal_touches (kind) (slot) (digest) {L : Nat} (h : Nat.lor 268435584 L = L) : Touches L (journal kind slot digest) := by
  refine Touches.mono (L := 268435584) ?_ h
  unfold journal
  try dsimp only
  repeat' first
    | with_reducible refine Touches.bind ?_ fun _ => ?_
    | with_reducible refine Touches.ite ?_ ?_
    | with_reducible exact Touches.pure _
    | with_reducible exact Touches.rd
    | (with_reducible apply showSlots_touches); rfl
    | (with_reducible apply Touches.emitM (M := 268435456)) <;> rfl
    | with_reducible split
    | with_reducible dsimp only

theorem setDelays_touches (c) (l) {L : Nat} (h : Nat.lor 16 L = L) : Touches L (setDelays c l) := by
  refine Touches.mono (L := 16) ?_ h
  unfold setDelays
  try dsimp only
  repeat' first
    | with_reducible refine Touches.bind ?_ fun _ => ?_
    | with_reducible refine Touches.ite ?_ ?_
    | with_reducible exact Touches.pure _
    | with_reducible exact Touches.rd
    | (with_reducible apply Touches.setF) <;> (first | with_reducible exact F.DRM_DELAY_VREF_window _ | rfl)
    | (with_reducible apply Touches.setI) <;> (first | with_reducible exact F.DRM_DELAY_RD_window _ | with_reducible exact F.DRM_DELAY_WR_window _ | rfl)
    | with_reducible refine Touches.forAll fun _ => ?_
    | with_reducible split
    | with_reducible dsimp only

theorem loadDelays_touches (c) {L : Nat} (h : Nat.lor 1048575 L = L) : Touches L (loadDelays c) := by
  refine Touches.mono (L := 1048575) ?_ h
  unfold loadDelays
  try dsimp only
  repeat' first
    | with_reducible refine Touches.bind ?_ fun _ => ?_
    | with_reducible refine Touches.ite ?_ ?_
    | with_reducible exact Touches.pure _
    | with_reducible exact Touches.rd
    | (with_reducible apply Touches.setF) <;> (first | rfl)
    | (with_reducible apply Touches.setF_any); rfl
    | with_reducible refine Touches.forAll fun _ => ?_
    | with_reducible split
    | with_reducible dsimp only

theorem bringUpDram_touches (config) (ok) (alt) (skip) (sweeps) {L : Nat} (h : Nat.lor 1873498544837492735 L = L) : Touches L (bringUpDram config ok alt skip sweeps) := by
  refine Touches.mono (L := 1873498544837492735) ?_ h
  unfold bringUpDram
  try dsimp only
  repeat' first
    | with_reducible refine Touches.bind ?_ fun _ => ?_
    | with_reducible refine Touches.ite ?_ ?_
    | with_reducible exact Touches.pure _
    | with_reducible exact Touches.rd
    | (with_reducible apply Touches.setF) <;> (first | with_reducible exact F.DRM_STAT_CONFIG_window | with_reducible exact F.DRM_STAT_CH_UP_window | with_reducible exact F.DRM_CTL_ENABLE_window | with_reducible exact F.DRM_STAT_TRAIN_window | rfl)
    | (with_reducible apply loadDelays_touches); rfl
    | (with_reducible apply setDelays_touches); rfl
    | (with_reducible apply saveTraining_touches); rfl
    | (with_reducible apply raise_touches); rfl
    | (with_reducible apply degrade_touches); rfl
    | with_reducible refine Touches.forAll fun _ => ?_
    | (with_reducible apply Touches.emitM (M := 576460752303423488)) <;> rfl
    | (with_reducible apply Touches.emitM (M := 1152921504606846976)) <;> rfl
    | with_reducible split
    | with_reducible dsimp only

theorem bringUpFlash_touches (ok) (left) (l) {L : Nat} (h : Nat.lor 1237019787362 L = L) : Touches L (bringUpFlash ok left l) := by
  refine Touches.mono (L := 1237019787362) ?_ h
  unfold bringUpFlash
  try dsimp only
  repeat' first
    | with_reducible refine Touches.bind ?_ fun _ => ?_
    | with_reducible refine Touches.ite ?_ ?_
    | with_reducible exact Touches.pure _
    | with_reducible exact Touches.rd
    | (with_reducible apply Touches.setF) <;> (first | with_reducible exact F.FLZ_GEOM_LUNS_window | with_reducible exact F.FLZ_GEOM_PPB_window | with_reducible exact F.FLZ_LUN_FAILED_MASK_window _ | rfl)
    | (with_reducible apply degrade_touches); rfl
    | with_reducible refine Touches.forAll fun _ => ?_
    | (with_reducible apply Touches.emitM (M := 137438953472)) <;> rfl
    | with_reducible split
    | with_reducible dsimp only

theorem showStrength_touches {L : Nat} (h : Nat.lor 32 L = L) : Touches L (showStrength) := by
  refine Touches.mono (L := 32) ?_ h
  unfold showStrength
  try dsimp only
  repeat' first
    | with_reducible refine Touches.bind ?_ fun _ => ?_
    | with_reducible refine Touches.ite ?_ ?_
    | with_reducible exact Touches.pure _
    | with_reducible exact Touches.rd
    | (with_reducible apply Touches.setF) <;> (first | with_reducible exact F.FLZ_ECC_STAT_T_PREV_window | with_reducible exact F.FLZ_ECC_STAT_SYS_T_window | rfl)
    | with_reducible split
    | with_reducible dsimp only

theorem applyStrength_touches {L : Nat} (h : Nat.lor 268435488 L = L) : Touches L (applyStrength) := by
  refine Touches.mono (L := 268435488) ?_ h
  unfold applyStrength
  try dsimp only
  repeat' first
    | with_reducible refine Touches.bind ?_ fun _ => ?_
    | with_reducible refine Touches.ite ?_ ?_
    | with_reducible exact Touches.pure _
    | with_reducible exact Touches.rd
    | (with_reducible apply showStrength_touches); rfl
    | (with_reducible apply Touches.emitM (M := 268435456)) <;> rfl
    | with_reducible split
    | with_reducible dsimp only

theorem initialiseZone_touches {L : Nat} (h : Nat.lor 268435456 L = L) : Touches L (initialiseZone) := by
  refine Touches.mono (L := 268435456) ?_ h
  unfold initialiseZone
  try dsimp only
  repeat' first
    | with_reducible refine Touches.bind ?_ fun _ => ?_
    | with_reducible refine Touches.ite ?_ ?_
    | with_reducible exact Touches.pure _
    | with_reducible exact Touches.rd
    | (with_reducible apply Touches.emitM (M := 268435456)) <;> rfl
    | with_reducible split
    | with_reducible dsimp only

theorem buildBlocks_touches (held) {L : Nat} (h : Nat.lor 137707388928 L = L) : Touches L (buildBlocks held) := by
  refine Touches.mono (L := 137707388928) ?_ h
  unfold buildBlocks
  try dsimp only
  repeat' first
    | with_reducible refine Touches.bind ?_ fun _ => ?_
    | with_reducible refine Touches.ite ?_ ?_
    | with_reducible exact Touches.pure _
    | with_reducible exact Touches.rd
    | (with_reducible apply Touches.emitM (M := 137438953472)) <;> rfl
    | (with_reducible apply Touches.emitM (M := 268435456)) <;> rfl
    | with_reducible split
    | with_reducible dsimp only

theorem countInterrupted_touches {L : Nat} (h : Nat.lor 268435488 L = L) : Touches L (countInterrupted) := by
  refine Touches.mono (L := 268435488) ?_ h
  unfold countInterrupted
  try dsimp only
  repeat' first
    | with_reducible refine Touches.bind ?_ fun _ => ?_
    | with_reducible refine Touches.ite ?_ ?_
    | with_reducible exact Touches.pure _
    | with_reducible exact Touches.rd
    | (with_reducible apply countErase_touches); rfl
    | with_reducible refine Touches.forAll fun _ => ?_
    | with_reducible split
    | with_reducible dsimp only

theorem resumeRebuilds_touches {L : Nat} (h : Nat.lor 137438953504 L = L) : Touches L (resumeRebuilds) := by
  refine Touches.mono (L := 137438953504) ?_ h
  unfold resumeRebuilds
  try dsimp only
  repeat' first
    | with_reducible refine Touches.bind ?_ fun _ => ?_
    | with_reducible refine Touches.ite ?_ ?_
    | with_reducible exact Touches.pure _
    | with_reducible exact Touches.rd
    | (with_reducible apply Touches.setF) <;> (first | with_reducible exact F.FLZ_STAT_REBUILDING_window | with_reducible exact F.FLZ_REBUILD_LUN_window | with_reducible exact F.FLZ_REBUILD_ACTIVE_window | rfl)
    | (with_reducible apply copyBlock_touches); rfl
    | (with_reducible apply showRebuild_touches); rfl
    | with_reducible refine Touches.forAll fun _ => ?_
    | (with_reducible apply Touches.emitM (M := 137438953472)) <;> rfl
    | with_reducible split
    | with_reducible dsimp only

theorem applySpares_touches {L : Nat} (h : Nat.lor 137438953472 L = L) : Touches L (applySpares) := by
  refine Touches.mono (L := 137438953472) ?_ h
  unfold applySpares
  try dsimp only
  repeat' first
    | with_reducible refine Touches.bind ?_ fun _ => ?_
    | with_reducible refine Touches.ite ?_ ?_
    | with_reducible exact Touches.pure _
    | with_reducible exact Touches.rd
    | (with_reducible apply formBlocks_touches); rfl
    | (with_reducible apply Touches.emitM (M := 137438953472)) <;> rfl
    | with_reducible split
    | with_reducible dsimp only

theorem bringUpZone_touches (scan) (ms) {L : Nat} (h : Nat.lor 144116427646828646 L = L) : Touches L (bringUpZone scan ms) := by
  refine Touches.mono (L := 144116427646828646) ?_ h
  unfold bringUpZone
  try dsimp only
  repeat' first
    | with_reducible refine Touches.bind ?_ fun _ => ?_
    | with_reducible refine Touches.ite ?_ ?_
    | with_reducible exact Touches.pure _
    | with_reducible exact Touches.rd
    | (with_reducible apply Touches.setF) <;> (first | with_reducible exact F.FLZ_START_STAT_SOURCE_window | with_reducible exact F.FLZ_START_STAT_TIME_MS_window | with_reducible exact F.FLZ_CTL_ENABLE_window | with_reducible exact F.FLZ_STAT_STATE_window | rfl)
    | (with_reducible apply initialiseZone_touches); rfl
    | (with_reducible apply buildBlocks_touches); rfl
    | (with_reducible apply raise_touches); rfl
    | (with_reducible apply countInterrupted_touches); rfl
    | (with_reducible apply applyStrength_touches); rfl
    | (with_reducible apply applySpares_touches); rfl
    | (with_reducible apply degrade_touches); rfl
    | (with_reducible apply resumeRebuilds_touches); rfl
    | (with_reducible apply settleBlocks_touches); rfl
    | (with_reducible apply Touches.emitM (M := 134217728)) <;> rfl
    | (with_reducible apply Touches.emitM (M := 2147483648)) <;> rfl
    | (with_reducible apply Touches.emitM (M := 268435456)) <;> rfl
    | with_reducible split
    | with_reducible dsimp only

theorem recoverStrands_touches {L : Nat} (h : Nat.lor 1675374887234 L = L) : Touches L (recoverStrands) := by
  refine Touches.mono (L := 1675374887234) ?_ h
  unfold recoverStrands
  try dsimp only
  repeat' first
    | with_reducible refine Touches.bind ?_ fun _ => ?_
    | with_reducible refine Touches.ite ?_ ?_
    | with_reducible exact Touches.pure _
    | with_reducible exact Touches.rd
    | (with_reducible apply Touches.setF) <;> (first | with_reducible exact F.LIF_STAT_PF_RECORD_window | rfl)
    | (with_reducible apply attend_touches); rfl
    | (with_reducible apply Touches.emitM (M := 17179869184)) <;> rfl
    | (with_reducible apply Touches.emitM (M := 8589934592)) <;> rfl
    | (with_reducible apply Touches.emitM (M := 549755813888)) <;> rfl
    | (with_reducible apply Touches.emitM (M := 268435456)) <;> rfl
    | with_reducible split
    | with_reducible dsimp only

theorem loadLife_touches {L : Nat} (h : Nat.lor 1374459789311 L = L) : Touches L (loadLife) := by
  refine Touches.mono (L := 1374459789311) ?_ h
  unfold loadLife
  try dsimp only
  repeat' first
    | with_reducible refine Touches.bind ?_ fun _ => ?_
    | with_reducible refine Touches.ite ?_ ?_
    | with_reducible exact Touches.pure _
    | with_reducible exact Touches.rd
    | (with_reducible apply Touches.setF) <;> (first | with_reducible exact F.DRM_DEV_FAILED_MASK_window _ | with_reducible exact F.DRM_STAT_ERASURE_window | rfl)
    | (with_reducible apply Touches.setF_any); rfl
    | (with_reducible apply degrade_touches); rfl
    | with_reducible refine Touches.forAll fun _ => ?_
    | (with_reducible apply Touches.emitM (M := 274877906944)) <;> rfl
    | with_reducible split
    | with_reducible dsimp only

theorem bringUpSystem_touches {L : Nat} (h : Nat.lor 1984621969407 L = L) : Touches L (bringUpSystem) := by
  refine Touches.mono (L := 1984621969407) ?_ h
  unfold bringUpSystem
  try dsimp only
  repeat' first
    | with_reducible refine Touches.bind ?_ fun _ => ?_
    | with_reducible refine Touches.ite ?_ ?_
    | with_reducible exact Touches.pure _
    | with_reducible exact Touches.rd
    | (with_reducible apply recoverStrands_touches); rfl
    | (with_reducible apply loadLife_touches); rfl
    | (with_reducible apply Touches.emitM (M := 8388608)) <;> rfl
    | (with_reducible apply Touches.emitM (M := 34359738368)) <;> rfl
    | with_reducible split
    | with_reducible dsimp only

theorem loadEeprom_touches (k) {L : Nat} (h : Nat.lor 296960 L = L) : Touches L (loadEeprom k) := by
  refine Touches.mono (L := 296960) ?_ h
  unfold loadEeprom
  try dsimp only
  repeat' first
    | with_reducible refine Touches.bind ?_ fun _ => ?_
    | with_reducible refine Touches.ite ?_ ?_
    | with_reducible exact Touches.pure _
    | with_reducible exact Touches.rd
    | (with_reducible apply Touches.setF) <;> (first | with_reducible exact F.BAY_ACT_LIM_0_FOCUS_window _ | with_reducible exact F.BAY_ACT_LIM_0_TRACKING_window _ | with_reducible exact F.BAY_ACT_LIM_1_TILT_window _ | with_reducible exact F.BAY_ACT_LIM_1_SA_window _ | with_reducible exact F.BAY_LASER_LIM_MAX_window _ | with_reducible exact F.BAY_LASER_LIM_READ_MAX_window _ | with_reducible exact F.STP_HOME_OFS_OFS_window _ | with_reducible exact F.BAY_LAYER_SA_window _ _ | with_reducible exact F.BAY_LAYER_TILT_window _ _ | with_reducible exact F.BAY_LREF_CENTRE_window _ _ | with_reducible exact F.BAY_LREF_SIDE_window _ _ | with_reducible exact F.BAY_RDPWR_READ_window _ _ | with_reducible exact F.WRP_LVL_A_SPACE_window _ _ | with_reducible exact F.WRP_LVL_A_MARK_window _ _ | with_reducible exact F.WRP_LVL_B_COOL_window _ _ | with_reducible exact F.WRP_LVL_B_MEAN_window _ _ | with_reducible exact F.WRP_STRAT_LEAD_LEAD_window _ _ | with_reducible exact F.WRP_STRAT_TRAIL_TRAIL_window _ _ | rfl)
    | with_reducible refine Touches.forAll fun _ => ?_
    | with_reducible split
    | with_reducible dsimp only

theorem assignSlots_touches (b) {L : Nat} (h : Nat.lor 144257025146094150 L = L) : Touches L (assignSlots b) := by
  refine Touches.mono (L := 144257025146094150) ?_ h
  unfold assignSlots
  try dsimp only
  repeat' first
    | with_reducible refine Touches.bind ?_ fun _ => ?_
    | with_reducible refine Touches.ite ?_ ?_
    | with_reducible exact Touches.pure _
    | with_reducible exact Touches.rd
    | (with_reducible apply Touches.setF) <;> (first | with_reducible exact F.SRV_SLOT_SRC_IN_window _ _ | with_reducible exact F.SRV_SLOT_SRC_SP_window _ _ | with_reducible exact F.SRV_SLOT_SRC_OWNER_window _ _ | with_reducible exact F.SRV_SLOT_DEST_KIND_window _ _ | with_reducible exact F.SRV_SLOT_DEST_DAC_window _ _ | with_reducible exact F.SRV_FE_WARN_LIM_window _ _ | with_reducible exact F.SRV_FE_LIM_LIM_window _ _ | with_reducible exact F.SRV_FE_CTL_TIME_window _ _ | with_reducible exact F.SRV_FE_CTL_ACT_window _ _ | with_reducible exact F.SRV_SLOT_CTL_RATE_window _ _ | with_reducible exact F.SRV_SLOT_CTL_PHASE_window _ _ | with_reducible exact F.SRV_REGION_SEL_SEL_window _ _ | with_reducible exact F.SRV_REGION_TBL_ENTRY_window _ _ _ | with_reducible exact F.SRV_SLOT_CTL_N_SEC_window _ _ | with_reducible exact F.SRV_SLOT_CTL_BUMP_window _ _ | rfl)
    | (with_reducible apply enableSlot_touches); rfl
    | with_reducible refine Touches.forAll fun _ => ?_
    | with_reducible split
    | with_reducible dsimp only

theorem readSensors_touches (b) (x) {L : Nat} (h : Nat.lor 225233857508741190 L = L) : Touches L (readSensors b x) := by
  refine Touches.mono (L := 225233857508741190) ?_ h
  unfold readSensors
  try dsimp only
  repeat' first
    | with_reducible refine Touches.bind ?_ fun _ => ?_
    | with_reducible refine Touches.ite ?_ ?_
    | with_reducible exact Touches.pure _
    | with_reducible exact Touches.rd
    | (with_reducible apply Touches.setF) <;> (first | with_reducible exact F.BAY_STAT_DISC_PRESENT_window _ | with_reducible exact F.BAY_STAT_TRAY_CLOSED_window _ | with_reducible exact F.BAY_STAT_CLAMPED_window _ | with_reducible exact F.BAY_STAT_DOOR_CLOSED_window _ | rfl)
    | (with_reducible apply setBay_touches); rfl
    | (with_reducible apply Touches.emitM (M := 17592186044416)) <;> rfl
    | with_reducible split
    | with_reducible dsimp only

theorem enableMotors_touches (b) {L : Nat} (h : Nat.lor 72620543995610112 L = L) : Touches L (enableMotors b) := by
  refine Touches.mono (L := 72620543995610112) ?_ h
  unfold enableMotors
  try dsimp only
  repeat' first
    | with_reducible refine Touches.bind ?_ fun _ => ?_
    | with_reducible refine Touches.ite ?_ ?_
    | with_reducible exact Touches.pure _
    | with_reducible exact Touches.rd
    | (with_reducible apply Touches.setF) <;> (first | with_reducible exact F.MOT_MODEL_RES_window _ | with_reducible exact F.MOT_MODEL_IND_window _ | rfl)
    | (with_reducible apply freeValue_touches); rfl
    | (with_reducible apply writeMotEnable_touches); rfl
    | with_reducible refine Touches.forAll fun _ => ?_
    | with_reducible split
    | with_reducible dsimp only

theorem homeAxes_touches (b) {L : Nat} (h : Nat.lor 145242187564582982 L = L) : Touches L (homeAxes b) := by
  refine Touches.mono (L := 145242187564582982) ?_ h
  unfold homeAxes
  try dsimp only
  repeat' first
    | with_reducible refine Touches.bind ?_ fun _ => ?_
    | with_reducible refine Touches.ite ?_ ?_
    | with_reducible exact Touches.pure _
    | with_reducible exact Touches.rd
    | (with_reducible apply Touches.setF) <;> (first | with_reducible exact F.STP_CTL_ENABLE_window _ | with_reducible exact F.STP_STAT_HOMED_window _ | rfl)
    | (with_reducible apply Touches.setI) <;> (first | with_reducible exact F.STP_POS_POS_window _ | rfl)
    | (with_reducible apply homeAxis_touches); rfl
    | with_reducible refine Touches.forAll fun _ => ?_
    | (with_reducible apply Touches.emitM (M := 1125899906842624)) <;> rfl
    | with_reducible split
    | with_reducible dsimp only

theorem bringUpBay_touches (b) (x) {L : Nat} (h : Nat.lor 263162610624994886 L = L) : Touches L (bringUpBay b x) := by
  refine Touches.mono (L := 263162610624994886) ?_ h
  unfold bringUpBay
  try dsimp only
  repeat' first
    | with_reducible refine Touches.bind ?_ fun _ => ?_
    | with_reducible refine Touches.ite ?_ ?_
    | with_reducible exact Touches.pure _
    | with_reducible exact Touches.rd
    | (with_reducible apply Touches.setF) <;> (first | with_reducible exact F.BAY_OPT_CTL_ENABLE_window _ | with_reducible exact F.WRP_CTL_ENABLE_window _ | rfl)
    | (with_reducible apply loadEeprom_touches); rfl
    | (with_reducible apply assignSlots_touches); rfl
    | (with_reducible apply enableMotors_touches); rfl
    | (with_reducible apply readSensors_touches); rfl
    | (with_reducible apply trainLink_touches); rfl
    | (with_reducible apply homeAxes_touches); rfl
    | with_reducible refine Touches.forAll fun _ => ?_
    | with_reducible split
    | with_reducible dsimp only

theorem leaveBay_touches (b) {L : Nat} (h : Nat.lor 1099580964930 L = L) : Touches L (leaveBay b) := by
  refine Touches.mono (L := 1099580964930) ?_ h
  unfold leaveBay
  try dsimp only
  repeat' first
    | with_reducible refine Touches.bind ?_ fun _ => ?_
    | with_reducible refine Touches.ite ?_ ?_
    | with_reducible exact Touches.pure _
    | with_reducible exact Touches.rd
    | (with_reducible apply Touches.setF) <;> (first | with_reducible exact F.BAY_STAT_UNAVAILABLE_window _ | rfl)
    | (with_reducible apply degrade_touches); rfl
    | with_reducible split
    | with_reducible dsimp only

theorem bringUpLanes_touches (lanes) (decoders) (outers) {L : Nat} (h : Nat.lor 148619887285137478 L = L) : Touches L (bringUpLanes lanes decoders outers) := by
  refine Touches.mono (L := 148619887285137478) ?_ h
  unfold bringUpLanes
  try dsimp only
  repeat' first
    | with_reducible refine Touches.bind ?_ fun _ => ?_
    | with_reducible refine Touches.ite ?_ ?_
    | with_reducible exact Touches.pure _
    | with_reducible exact Touches.rd
    | (with_reducible apply Touches.setF) <;> (first | with_reducible exact F.LDP_CTL_ENABLE_window | with_reducible exact F.RCH_IN_CTL_ENABLE_window _ | with_reducible exact F.LDP_STAT_DEC_FAILED_window | with_reducible exact F.LDP_STAT_OUTER_FAILED_window | rfl)
    | (with_reducible apply failLane_touches); rfl
    | (with_reducible apply bindLane_touches); rfl
    | (with_reducible apply takeover_touches); rfl
    | (with_reducible apply sparesGone_touches); rfl
    | (with_reducible apply degrade_touches); rfl
    | with_reducible refine Touches.forAll fun _ => ?_
    | with_reducible split
    | with_reducible dsimp only

theorem restoreCalibration_touches {L : Nat} (h : Nat.lor 72057594038976511 L = L) : Touches L (restoreCalibration) := by
  refine Touches.mono (L := 72057594038976511) ?_ h
  unfold restoreCalibration
  try dsimp only
  repeat' first
    | with_reducible refine Touches.bind ?_ fun _ => ?_
    | with_reducible refine Touches.ite ?_ ?_
    | with_reducible exact Touches.pure _
    | with_reducible exact Touches.rd
    | (with_reducible apply Touches.setF) <;> (first | with_reducible exact F.CAL_LAST_TIME_window _ | with_reducible exact F.CAL_LAST_ELEM_ELEMENT_window _ | with_reducible exact F.CAL_LAST_ELEM_RESULT_window _ | rfl)
    | (with_reducible apply Touches.setF_any); rfl
    | with_reducible refine Touches.forAll fun _ => ?_
    | (with_reducible apply Touches.emitM (M := 72057594037927936)) <;> rfl
    | with_reducible split
    | with_reducible dsimp only

theorem execSuppliesWithinLimits_touches (s : State) : ∃ u, execSuppliesWithinLimits s = .next u ∧ Same 1152921465652248575 s u := by
  unfold execSuppliesWithinLimits
  first | apply Touches.answer | apply Touches.answerWhen | (dsimp only; first | apply Touches.answer | apply Touches.answerWhen)
  try dsimp only
  repeat' first
    | with_reducible refine Touches.bind ?_ fun _ => ?_
    | with_reducible refine Touches.ite ?_ ?_
    | with_reducible exact Touches.pure _
    | with_reducible exact Touches.rd
    | (with_reducible apply enterReset_touches); rfl
    | (with_reducible apply Touches.emitM (M := 67108864)) <;> rfl
    | with_reducible split
    | with_reducible dsimp only

theorem execSuppliesRemoved_touches (s : State) : ∃ u, execSuppliesRemoved s = .next u ∧ Same 1152921465652248575 s u := by
  unfold execSuppliesRemoved
  first | apply Touches.answer | apply Touches.answerWhen | (dsimp only; first | apply Touches.answer | apply Touches.answerWhen)
  try dsimp only
  repeat' first
    | with_reducible refine Touches.bind ?_ fun _ => ?_
    | with_reducible refine Touches.ite ?_ ?_
    | with_reducible exact Touches.pure _
    | with_reducible exact Touches.rd
    | (with_reducible apply enterReset_touches); rfl
    | (with_reducible apply Touches.emitM (M := 67108864)) <;> rfl
    | with_reducible split
    | with_reducible dsimp only

theorem execRailBrownOut_touches (s : State) : ∃ u, execRailBrownOut s = .next u ∧ Same 1152921465652248575 s u := by
  unfold execRailBrownOut
  first | apply Touches.answer | apply Touches.answerWhen | (dsimp only; first | apply Touches.answer | apply Touches.answerWhen)
  try dsimp only
  repeat' first
    | with_reducible refine Touches.bind ?_ fun _ => ?_
    | with_reducible refine Touches.ite ?_ ?_
    | with_reducible exact Touches.pure _
    | with_reducible exact Touches.rd
    | (with_reducible apply enterReset_touches); rfl
    | (with_reducible apply Touches.emitM (M := 67108864)) <;> rfl
    | with_reducible split
    | with_reducible dsimp only

theorem execJunctionOver120_touches (s : State) : ∃ u, execJunctionOver120 s = .next u ∧ Same 1152921465652248575 s u := by
  unfold execJunctionOver120
  first | apply Touches.answer | apply Touches.answerWhen | (dsimp only; first | apply Touches.answer | apply Touches.answerWhen)
  try dsimp only
  repeat' first
    | with_reducible refine Touches.bind ?_ fun _ => ?_
    | with_reducible refine Touches.ite ?_ ?_
    | with_reducible exact Touches.pure _
    | with_reducible exact Touches.rd
    | (with_reducible apply enterReset_touches); rfl
    | (with_reducible apply Touches.emitM (M := 67108864)) <;> rfl
    | with_reducible split
    | with_reducible dsimp only

theorem execResetNAsserted_touches (s : State) : ∃ u, execResetNAsserted s = .next u ∧ Same 1152921465652248575 s u := by
  unfold execResetNAsserted
  first | apply Touches.answer | apply Touches.answerWhen | (dsimp only; first | apply Touches.answer | apply Touches.answerWhen)
  try dsimp only
  repeat' first
    | with_reducible refine Touches.bind ?_ fun _ => ?_
    | with_reducible refine Touches.ite ?_ ?_
    | with_reducible exact Touches.pure _
    | with_reducible exact Touches.rd
    | (with_reducible apply enterReset_touches); rfl
    | (with_reducible apply Touches.emitM (M := 67108864)) <;> rfl
    | with_reducible split
    | with_reducible dsimp only

theorem execResetNReleased_touches (reference) (locked) (straps) (s : State) : ∃ u, execResetNReleased reference locked straps s = .next u ∧ Same 144116287791956175 s u := by
  unfold execResetNReleased
  first | apply Touches.answer | apply Touches.answerWhen | (dsimp only; first | apply Touches.answer | apply Touches.answerWhen)
  try dsimp only
  repeat' first
    | with_reducible refine Touches.bind ?_ fun _ => ?_
    | with_reducible refine Touches.ite ?_ ?_
    | with_reducible exact Touches.pure _
    | with_reducible exact Touches.rd
    | (with_reducible apply startBoot_touches); rfl
    | (with_reducible apply Touches.emitM (M := 67108864)) <;> rfl
    | with_reducible split
    | with_reducible dsimp only

theorem execBrownOutRelease_touches (s : State) : ∃ u, execBrownOutRelease s = .next u ∧ Same 144116287791956175 s u := by
  unfold execBrownOutRelease
  first | apply Touches.answer | apply Touches.answerWhen | (dsimp only; first | apply Touches.answer | apply Touches.answerWhen)
  try dsimp only
  repeat' first
    | with_reducible refine Touches.bind ?_ fun _ => ?_
    | with_reducible refine Touches.ite ?_ ?_
    | with_reducible exact Touches.pure _
    | with_reducible exact Touches.rd
    | (with_reducible apply startBoot_touches); rfl
    | (with_reducible apply Touches.emitM (M := 67108864)) <;> rfl
    | with_reducible split
    | with_reducible dsimp only

theorem execJunctionBelow100_touches (s : State) : ∃ u, execJunctionBelow100 s = .next u ∧ Same 144116287791956175 s u := by
  unfold execJunctionBelow100
  first | apply Touches.answer | apply Touches.answerWhen | (dsimp only; first | apply Touches.answer | apply Touches.answerWhen)
  try dsimp only
  repeat' first
    | with_reducible refine Touches.bind ?_ fun _ => ?_
    | with_reducible refine Touches.ite ?_ ?_
    | with_reducible exact Touches.pure _
    | with_reducible exact Touches.rd
    | (with_reducible apply startBoot_touches); rfl
    | (with_reducible apply Touches.emitM (M := 67108864)) <;> rfl
    | with_reducible split
    | with_reducible dsimp only

theorem skipPackage_touches (steps) {L : Nat} (h : Nat.lor 134217728 L = L) : Touches L (skipPackage steps) := by
  refine Touches.mono (L := 134217728) ?_ h
  unfold skipPackage
  try dsimp only
  repeat' first
    | with_reducible refine Touches.bind ?_ fun _ => ?_
    | with_reducible refine Touches.ite ?_ ?_
    | with_reducible exact Touches.pure _
    | with_reducible exact Touches.rd
    | (with_reducible apply Touches.emitM (M := 134217728)) <;> rfl
    | with_reducible split
    | with_reducible dsimp only

theorem chooseSlot_touches {L : Nat} (h : Nat.lor 134217728 L = L) : Touches L (chooseSlot) := by
  refine Touches.mono (L := 134217728) ?_ h
  unfold chooseSlot
  try dsimp only
  repeat' first
    | with_reducible refine Touches.bind ?_ fun _ => ?_
    | with_reducible refine Touches.ite ?_ ?_
    | with_reducible exact Touches.pure _
    | with_reducible exact Touches.rd
    | (with_reducible apply skipPackage_touches); rfl
    | (with_reducible apply Touches.emitM (M := 134217728)) <;> rfl
    | with_reducible split
    | with_reducible dsimp only

theorem revertPackage_touches {L : Nat} (h : Nat.lor 144116287926173894 L = L) : Touches L (revertPackage) := by
  refine Touches.mono (L := 144116287926173894) ?_ h
  unfold revertPackage
  try dsimp only
  repeat' first
    | with_reducible refine Touches.bind ?_ fun _ => ?_
    | with_reducible refine Touches.ite ?_ ?_
    | with_reducible exact Touches.pure _
    | with_reducible exact Touches.rd
    | (with_reducible apply journal_touches); rfl
    | (with_reducible apply raise_touches); rfl
    | (with_reducible apply degrade_touches); rfl
    | (with_reducible apply Touches.emitM (M := 268435456)) <;> rfl
    | with_reducible split
    | with_reducible dsimp only

theorem decide511_touches (first) {L : Nat} (h : Nat.lor 134217728 L = L) : Touches L (decide511 first) := by
  refine Touches.mono (L := 134217728) ?_ h
  unfold decide511
  try dsimp only
  repeat' first
    | with_reducible refine Touches.bind ?_ fun _ => ?_
    | with_reducible refine Touches.ite ?_ ?_
    | with_reducible exact Touches.pure _
    | with_reducible exact Touches.rd
    | (with_reducible apply Touches.emitM (M := 134217728)) <;> rfl
    | with_reducible split
    | with_reducible dsimp only

theorem appendStart_touches {L : Nat} (h : Nat.lor 402653312 L = L) : Touches L (appendStart) := by
  refine Touches.mono (L := 402653312) ?_ h
  unfold appendStart
  try dsimp only
  repeat' first
    | with_reducible refine Touches.bind ?_ fun _ => ?_
    | with_reducible refine Touches.ite ?_ ?_
    | with_reducible exact Touches.pure _
    | with_reducible exact Touches.rd
    | (with_reducible apply Touches.setF) <;> (first | with_reducible exact F.SEC_BOOT_STAT_JOURNAL_OK_window | with_reducible exact F.SEC_BOOT_STAT_START_NUM_window | rfl)
    | (with_reducible apply journal_touches); rfl
    | (with_reducible apply showSlots_touches); rfl
    | (with_reducible apply Touches.emitM (M := 268435456)) <;> rfl
    | (with_reducible apply Touches.emitM (M := 134217728)) <;> rfl
    | with_reducible split
    | with_reducible dsimp only

theorem checkCalendar_touches (invalid) (lost) (low) (tamper) {L : Nat} (h : Nat.lor 144116287930368326 L = L) : Touches L (checkCalendar invalid lost low tamper) := by
  refine Touches.mono (L := 144116287930368326) ?_ h
  unfold checkCalendar
  try dsimp only
  repeat' first
    | with_reducible refine Touches.bind ?_ fun _ => ?_
    | with_reducible refine Touches.ite ?_ ?_
    | with_reducible exact Touches.pure _
    | with_reducible exact Touches.rd
    | (with_reducible apply Touches.setF) <;> (first | with_reducible exact F.LIF_STAT_VBAT_LOST_window | with_reducible exact F.LIF_STAT_VBAT_LOW_window | rfl)
    | (with_reducible apply raise_touches); rfl
    | (with_reducible apply freeValue_touches); rfl
    | (with_reducible apply showTamper_touches); rfl
    | (with_reducible apply Touches.emitM (M := 268435456)) <;> rfl
    | with_reducible split
    | with_reducible dsimp only

theorem placeRegion_touches {L : Nat} (h : Nat.lor 4194312 L = L) : Touches L (placeRegion) := by
  refine Touches.mono (L := 4194312) ?_ h
  unfold placeRegion
  try dsimp only
  repeat' first
    | with_reducible refine Touches.bind ?_ fun _ => ?_
    | with_reducible refine Touches.ite ?_ ?_
    | with_reducible exact Touches.pure _
    | with_reducible exact Touches.rd
    | (with_reducible apply Touches.setF) <;> (first | with_reducible exact F.CCH_REGION_SIZE_SIZE_window | with_reducible exact F.CCH_REGION_BASE_BASE_window | with_reducible exact F.CCH_CTL_ENABLE_window | with_reducible exact F.CCH_STAT_BYPASS_window | rfl)
    | (with_reducible apply freeValue_touches); rfl
    | with_reducible split
    | with_reducible dsimp only

theorem endStart_touches {L : Nat} (h : Nat.lor 144116287942951110 L = L) : Touches L (endStart) := by
  refine Touches.mono (L := 144116287942951110) ?_ h
  unfold endStart
  try dsimp only
  repeat' first
    | with_reducible refine Touches.bind ?_ fun _ => ?_
    | with_reducible refine Touches.ite ?_ ?_
    | with_reducible exact Touches.pure _
    | with_reducible exact Touches.rd
    | (with_reducible apply raise_touches); rfl
    | (with_reducible apply journal_touches); rfl
    | (with_reducible apply Touches.emitM (M := 268435456)) <;> rfl
    | (with_reducible apply Touches.emitM (M := 16777216)) <;> rfl
    | with_reducible split
    | with_reducible dsimp only

theorem stepAction_touches (k) (ok) (alt) (left) (data) {L : Nat} (h : Nat.lor 1997049492477575167 L = L) : Touches L (stepAction k ok alt left data) := by
  refine Touches.mono (L := 1997049492477575167) ?_ h
  unfold stepAction
  try dsimp only
  repeat' first
    | with_reducible refine Touches.bind ?_ fun _ => ?_
    | with_reducible refine Touches.ite ?_ ?_
    | with_reducible exact Touches.pure _
    | with_reducible exact Touches.rd
    | (with_reducible apply Touches.setF) <;> (first | with_reducible exact F.SEC_DBG_STAT_UNLOCKED_window | with_reducible exact F.SEQ_STAT_RUN_window | with_reducible exact F.SEC_BOOT_STAT_IDENTITY_OK_window | with_reducible exact F.CAL_CTL_ENABLE_window | rfl)
    | (with_reducible apply revertPackage_touches); rfl
    | (with_reducible apply decide511_touches); rfl
    | (with_reducible apply chooseSlot_touches); rfl
    | (with_reducible apply appendStart_touches); rfl
    | (with_reducible apply skipPackage_touches); rfl
    | (with_reducible apply checkCalendar_touches); rfl
    | (with_reducible apply installPackage_touches); rfl
    | (with_reducible apply showPins_touches); rfl
    | (with_reducible apply romOnly_touches); rfl
    | (with_reducible apply bringUpDram_touches); rfl
    | (with_reducible apply degrade_touches); rfl
    | (with_reducible apply attend_touches); rfl
    | (with_reducible apply placeRegion_touches); rfl
    | (with_reducible apply bringUpFlash_touches); rfl
    | (with_reducible apply bringUpZone_touches); rfl
    | (with_reducible apply bringUpSystem_touches); rfl
    | (with_reducible apply raise_touches); rfl
    | (with_reducible apply bringUpLanes_touches); rfl
    | (with_reducible apply leaveBay_touches); rfl
    | (with_reducible apply bringUpBay_touches); rfl
    | (with_reducible apply restoreCalibration_touches); rfl
    | (with_reducible apply endStart_touches); rfl
    | with_reducible refine Touches.forAll fun _ => ?_
    | (with_reducible apply Touches.emitM (M := 536870912)) <;> rfl
    | (with_reducible apply Touches.emitM (M := 134217728)) <;> rfl
    | (with_reducible apply Touches.emitM (M := 576460752303423488)) <;> rfl
    | (with_reducible apply Touches.emitM (M := 1152921504606846976)) <;> rfl
    | (with_reducible apply Touches.emitM (M := 1048576)) <;> rfl
    | with_reducible split
    | with_reducible dsimp only

theorem rejectPackage_touches (k) {L : Nat} (h : Nat.lor 144116287657738310 L = L) : Touches L (rejectPackage k) := by
  refine Touches.mono (L := 144116287657738310) ?_ h
  unfold rejectPackage
  try dsimp only
  repeat' first
    | with_reducible refine Touches.bind ?_ fun _ => ?_
    | with_reducible refine Touches.ite ?_ ?_
    | with_reducible exact Touches.pure _
    | with_reducible exact Touches.rd
    | (with_reducible apply Touches.setF) <;> (first | with_reducible exact F.SEQ_PATCH_STAT_RESULT_window | rfl)
    | (with_reducible apply raise_touches); rfl
    | with_reducible split
    | with_reducible dsimp only

theorem recordStep_touches (e) {L : Nat} (h : Nat.lor 402653312 L = L) : Touches L (recordStep e) := by
  refine Touches.mono (L := 402653312) ?_ h
  unfold recordStep
  try dsimp only
  repeat' first
    | with_reducible refine Touches.bind ?_ fun _ => ?_
    | with_reducible refine Touches.ite ?_ ?_
    | with_reducible exact Touches.pure _
    | with_reducible exact Touches.rd
    | (with_reducible apply Touches.setF) <;> (first | with_reducible exact F.SEC_BOOT_STAT_DEGRADED_window | rfl)
    | (with_reducible apply journal_touches); rfl
    | (with_reducible apply Touches.emitM (M := 134217728)) <;> rfl
    | (with_reducible apply Touches.emitM (M := 268435456)) <;> rfl
    | with_reducible split
    | with_reducible dsimp only

theorem leaveBringup_touches {L : Nat} (h : Nat.lor 263029019299520103 L = L) : Touches L (leaveBringup) := by
  refine Touches.mono (L := 263029019299520103) ?_ h
  unfold leaveBringup
  try dsimp only
  repeat' first
    | with_reducible refine Touches.bind ?_ fun _ => ?_
    | with_reducible refine Touches.ite ?_ ?_
    | with_reducible exact Touches.pure _
    | with_reducible exact Touches.rd
    | (with_reducible apply Touches.setF) <;> (first | with_reducible exact F.DEV_MODE_STAT_TRANSITION_window | with_reducible exact F.DEV_MODE_STAT_OK_TO_REMOVE_window | rfl)
    | (with_reducible apply changeMode_touches); rfl
    | (with_reducible apply takeHeld_touches); rfl
    | (with_reducible apply Touches.emitM (M := 134217728)) <;> rfl
    | (with_reducible apply Touches.emitM (M := 67108864)) <;> rfl
    | with_reducible split
    | with_reducible dsimp only

theorem bootSafe_touches {L : Nat} (h : Nat.lor 263022148144569927 L = L) : Touches L (bootSafe) := by
  refine Touches.mono (L := 263022148144569927) ?_ h
  unfold bootSafe
  try dsimp only
  repeat' first
    | with_reducible refine Touches.bind ?_ fun _ => ?_
    | with_reducible refine Touches.ite ?_ ?_
    | with_reducible exact Touches.pure _
    | with_reducible exact Touches.rd
    | (with_reducible apply enterSafe_touches); rfl
    | with_reducible split
    | with_reducible dsimp only

theorem refault_touches {L : Nat} (h : Nat.lor 225233857508741190 L = L) : Touches L (refault) := by
  refine Touches.mono (L := 225233857508741190) ?_ h
  unfold refault
  try dsimp only
  repeat' first
    | with_reducible refine Touches.bind ?_ fun _ => ?_
    | with_reducible refine Touches.ite ?_ ?_
    | with_reducible exact Touches.pure _
    | with_reducible exact Touches.rd
    | (with_reducible apply setBay_touches); rfl
    | with_reducible refine Touches.forAll fun _ => ?_
    | (with_reducible apply Touches.emitM (M := 17592186044416)) <;> rfl
    | with_reducible split
    | with_reducible dsimp only

theorem endStep_touches (n) (f) (g) (d) (b) {L : Nat} (h : Nat.lor 2305843009213693951 L = L) : Touches L (endStep n f g d b) := by
  refine Touches.mono (L := 2305843009213693951) ?_ h
  clear h
  induction n generalizing f g d b with
  | zero =>
    rw [endStep]
    try dsimp only
    repeat' first
      | with_reducible refine Touches.bind ?_ fun _ => ?_
      | with_reducible refine Touches.ite ?_ ?_
      | with_reducible exact Touches.pure _
      | with_reducible exact Touches.rd
      | (with_reducible apply Touches.setF) <;> (first | with_reducible exact F.SEC_BOOT_STAT_STEP_window | rfl)
      | (with_reducible apply rejectPackage_touches); rfl
      | (with_reducible apply raise_touches); rfl
      | (with_reducible apply degrade_touches); rfl
      | (with_reducible apply recordStep_touches); rfl
      | (with_reducible apply bootSafe_touches); rfl
      | (with_reducible apply internalReset_touches); rfl
      | (with_reducible apply stepAction_touches); rfl
      | (with_reducible apply leaveBringup_touches); rfl
      | (with_reducible apply changeMode_touches); rfl
      | (with_reducible apply refault_touches); rfl
      | (with_reducible apply Touches.emitM (M := 134217728)) <;> rfl
      | with_reducible split
      | with_reducible dsimp only
  | succ n ih =>
    rw [endStep]
    try dsimp only
    repeat' first
      | with_reducible refine Touches.bind ?_ fun _ => ?_
      | with_reducible refine Touches.ite ?_ ?_
      | with_reducible exact Touches.pure _
      | with_reducible exact Touches.rd
      | (with_reducible apply Touches.setF) <;> (first | with_reducible exact F.SEC_BOOT_STAT_STEP_window | rfl)
      | (with_reducible apply rejectPackage_touches); rfl
      | (with_reducible apply raise_touches); rfl
      | (with_reducible apply degrade_touches); rfl
      | (with_reducible apply recordStep_touches); rfl
      | (with_reducible apply bootSafe_touches); rfl
      | (with_reducible apply internalReset_touches); rfl
      | (with_reducible apply stepAction_touches); rfl
      | (with_reducible apply leaveBringup_touches); rfl
      | (with_reducible apply changeMode_touches); rfl
      | (with_reducible apply refault_touches); rfl
      | (with_reducible apply Touches.emitM (M := 134217728)) <;> rfl
      | with_reducible apply ih
      | with_reducible split
      | with_reducible dsimp only

theorem execBootStepEnd_touches (r) (s : State) : ∃ u, execBootStepEnd r s = .next u ∧ Same 2305843009213693951 s u := by
  unfold execBootStepEnd
  first | apply Touches.answer | apply Touches.answerWhen | (dsimp only; first | apply Touches.answer | apply Touches.answerWhen)
  try dsimp only
  repeat' first
    | with_reducible refine Touches.bind ?_ fun _ => ?_
    | with_reducible refine Touches.ite ?_ ?_
    | with_reducible exact Touches.pure _
    | with_reducible exact Touches.rd
    | (with_reducible apply endStep_touches); rfl
    | with_reducible split
    | with_reducible dsimp only

theorem execBootStepTimeLimit_touches (s : State) : ∃ u, execBootStepTimeLimit s = .next u ∧ Same 2305843009213693951 s u := by
  unfold execBootStepTimeLimit
  first | apply Touches.answer | apply Touches.answerWhen | (dsimp only; first | apply Touches.answer | apply Touches.answerWhen)
  try dsimp only
  repeat' first
    | with_reducible refine Touches.bind ?_ fun _ => ?_
    | with_reducible refine Touches.ite ?_ ?_
    | with_reducible exact Touches.pure _
    | with_reducible exact Touches.rd
    | (with_reducible apply endStep_touches); rfl
    | with_reducible split
    | with_reducible dsimp only

theorem execBootWatchdog_touches (s : State) : ∃ u, execBootWatchdog s = .next u ∧ Same 1152921465654345727 s u := by
  unfold execBootWatchdog
  first | apply Touches.answer | apply Touches.answerWhen | (dsimp only; first | apply Touches.answer | apply Touches.answerWhen)
  try dsimp only
  repeat' first
    | with_reducible refine Touches.bind ?_ fun _ => ?_
    | with_reducible refine Touches.ite ?_ ?_
    | with_reducible exact Touches.pure _
    | with_reducible exact Touches.rd
    | (with_reducible apply internalReset_touches); rfl
    | with_reducible split
    | with_reducible dsimp only

theorem execHaltUartReport_touches (s : State) : ∃ u, execHaltUartReport s = .next u ∧ Same 2097152 s u := by
  unfold execHaltUartReport
  first | apply Touches.answer | apply Touches.answerWhen | (dsimp only; first | apply Touches.answer | apply Touches.answerWhen)
  try dsimp only
  repeat' first
    | with_reducible refine Touches.bind ?_ fun _ => ?_
    | with_reducible refine Touches.ite ?_ ?_
    | with_reducible exact Touches.pure _
    | with_reducible exact Touches.rd
    | (with_reducible apply Touches.emitM (M := 2097152)) <;> rfl
    | with_reducible split
    | with_reducible dsimp only

theorem wakePart_touches (cause) {L : Nat} (h : Nat.lor 1152921465922781183 L = L) : Touches L (wakePart cause) := by
  refine Touches.mono (L := 1152921465922781183) ?_ h
  unfold wakePart
  try dsimp only
  repeat' first
    | with_reducible refine Touches.bind ?_ fun _ => ?_
    | with_reducible refine Touches.ite ?_ ?_
    | with_reducible exact Touches.pure _
    | with_reducible exact Touches.rd
    | (with_reducible apply Touches.setF) <;> (first | with_reducible exact F.CCH_STAT_INIT_DONE_window | with_reducible exact F.CCH_STAT_BYPASS_window | with_reducible exact F.SEC_BOOT_STAT_STEP_window | with_reducible exact F.SEC_BOOT_STAT_CAUSE_window | with_reducible exact F.DEV_MODE_STAT_TRANSITION_window | rfl)
    | (with_reducible apply changeMode_touches); rfl
    | (with_reducible apply decide511_touches); rfl
    | (with_reducible apply appendStart_touches); rfl
    | (with_reducible apply Touches.emitM (M := 1152921465652248575)) <;> rfl
    | (with_reducible apply Touches.emitM (M := 134217728)) <;> rfl
    | (with_reducible apply Touches.emitM (M := 67108864)) <;> rfl
    | (with_reducible apply Touches.emitM (M := 576460752303423488)) <;> rfl
    | with_reducible split
    | with_reducible dsimp only

theorem requestWake_touches (target) (smb) {L : Nat} (h : Nat.lor 1152921465922781183 L = L) : Touches L (requestWake target smb) := by
  refine Touches.mono (L := 1152921465922781183) ?_ h
  unfold requestWake
  try dsimp only
  repeat' first
    | with_reducible refine Touches.bind ?_ fun _ => ?_
    | with_reducible refine Touches.ite ?_ ?_
    | with_reducible exact Touches.pure _
    | with_reducible exact Touches.rd
    | (with_reducible apply Touches.setF) <;> (first | with_reducible exact F.DEV_MODE_REQ_TARGET_window | rfl)
    | (with_reducible apply wakePart_touches); rfl
    | (with_reducible apply holdRequest_touches); rfl
    | (with_reducible apply rejectRequest_touches); rfl
    | with_reducible split
    | with_reducible dsimp only

theorem execModeTransitionEnd_touches (s : State) : ∃ u, execModeTransitionEnd s = .next u ∧ Same 1152921504590069759 s u := by
  unfold execModeTransitionEnd
  first | apply Touches.answer | apply Touches.answerWhen | (dsimp only; first | apply Touches.answer | apply Touches.answerWhen)
  try dsimp only
  repeat' first
    | with_reducible refine Touches.bind ?_ fun _ => ?_
    | with_reducible refine Touches.ite ?_ ?_
    | with_reducible exact Touches.pure _
    | with_reducible exact Touches.rd
    | (with_reducible apply Touches.setF) <;> (first | with_reducible exact F.DEV_MODE_STAT_TRANSITION_window | rfl)
    | (with_reducible apply requestWake_touches); rfl
    | (with_reducible apply takeHeld_touches); rfl
    | (with_reducible apply retainDram_touches); rfl
    | (with_reducible apply settleActivate_touches); rfl
    | (with_reducible apply changeMode_touches); rfl
    | (with_reducible apply Touches.emitM (M := 67108864)) <;> rfl
    | with_reducible split
    | with_reducible dsimp only

theorem execSmbModeReqWrite_touches (target) (s : State) : ∃ u, execSmbModeReqWrite target s = .next u ∧ Same 1152921504590069759 s u := by
  unfold execSmbModeReqWrite
  first | apply Touches.answer | apply Touches.answerWhen | (dsimp only; first | apply Touches.answer | apply Touches.answerWhen)
  try dsimp only
  repeat' first
    | with_reducible refine Touches.bind ?_ fun _ => ?_
    | with_reducible refine Touches.ite ?_ ?_
    | with_reducible exact Touches.pure _
    | with_reducible exact Touches.rd
    | (with_reducible apply requestWake_touches); rfl
    | (with_reducible apply requestMode_touches); rfl
    | with_reducible split
    | with_reducible dsimp only

theorem raiseLdp_touches (i) (inst) (detail) {L : Nat} (h : Nat.lor 144116287657738310 L = L) : Touches L (raiseLdp i inst detail) := by
  refine Touches.mono (L := 144116287657738310) ?_ h
  unfold raiseLdp
  try dsimp only
  repeat' first
    | with_reducible refine Touches.bind ?_ fun _ => ?_
    | with_reducible refine Touches.ite ?_ ?_
    | with_reducible exact Touches.pure _
    | with_reducible exact Touches.rd
    | (with_reducible apply raise_touches); rfl
    | with_reducible split
    | with_reducible dsimp only

theorem setFrame_touches (k) (track) (sector) (g) {L : Nat} (h : Nat.lor 18014398509481984 L = L) : Touches L (setFrame k track sector g) := by
  refine Touches.mono (L := 18014398509481984) ?_ h
  unfold setFrame
  try dsimp only
  repeat' first
    | with_reducible refine Touches.bind ?_ fun _ => ?_
    | with_reducible refine Touches.ite ?_ ?_
    | with_reducible exact Touches.pure _
    | with_reducible exact Touches.rd
    | (with_reducible apply Touches.emitM (M := 18014398509481984)) <;> rfl
    | with_reducible split
    | with_reducible dsimp only

theorem dropFrame_touches (k) (track) (sector) {L : Nat} (h : Nat.lor 18014398509481984 L = L) : Touches L (dropFrame k track sector) := by
  refine Touches.mono (L := 18014398509481984) ?_ h
  unfold dropFrame
  try dsimp only
  repeat' first
    | with_reducible refine Touches.bind ?_ fun _ => ?_
    | with_reducible refine Touches.ite ?_ ?_
    | with_reducible exact Touches.pure _
    | with_reducible exact Touches.rd
    | (with_reducible apply Touches.emitM (M := 18014398509481984)) <;> rfl
    | with_reducible split
    | with_reducible dsimp only

theorem assignPool_touches {L : Nat} (h : Nat.lor 594475150812905472 L = L) : Touches L (assignPool) := by
  refine Touches.mono (L := 594475150812905472) ?_ h
  unfold assignPool
  try dsimp only
  repeat' first
    | with_reducible refine Touches.bind ?_ fun _ => ?_
    | with_reducible refine Touches.ite ?_ ?_
    | with_reducible exact Touches.pure _
    | with_reducible exact Touches.rd
    | (with_reducible apply setFrame_touches); rfl
    | with_reducible refine Touches.forAll fun _ => ?_
    | (with_reducible apply Touches.emitM (M := 576460752303423488)) <;> rfl
    | with_reducible split
    | with_reducible dsimp only

theorem storeCopy_touches (x) {L : Nat} (h : Nat.lor 576460752303423488 L = L) : Touches L (storeCopy x) := by
  refine Touches.mono (L := 576460752303423488) ?_ h
  unfold storeCopy
  try dsimp only
  repeat' first
    | with_reducible refine Touches.bind ?_ fun _ => ?_
    | with_reducible refine Touches.ite ?_ ?_
    | with_reducible exact Touches.pure _
    | with_reducible exact Touches.rd
    | (with_reducible apply Touches.emitM (M := 576460752303423488)) <;> rfl
    | with_reducible split
    | with_reducible dsimp only

theorem noteDecoded_touches (f) (payload) {L : Nat} (h : Nat.lor 576460752303423488 L = L) : Touches L (noteDecoded f payload) := by
  refine Touches.mono (L := 576460752303423488) ?_ h
  unfold noteDecoded
  try dsimp only
  repeat' first
    | with_reducible refine Touches.bind ?_ fun _ => ?_
    | with_reducible refine Touches.ite ?_ ?_
    | with_reducible exact Touches.pure _
    | with_reducible exact Touches.rd
    | (with_reducible apply Touches.emitM (M := 576460752303423488)) <;> rfl
    | with_reducible split
    | with_reducible dsimp only

theorem setPoison_touches (k) (f) (classes) {L : Nat} (h : Nat.lor 720577039961169990 L = L) : Touches L (setPoison k f classes) := by
  refine Touches.mono (L := 720577039961169990) ?_ h
  unfold setPoison
  try dsimp only
  repeat' first
    | with_reducible refine Touches.bind ?_ fun _ => ?_
    | with_reducible refine Touches.ite ?_ ?_
    | with_reducible exact Touches.pure _
    | with_reducible exact Touches.rd
    | (with_reducible apply Touches.addWrap) <;> (first | with_reducible exact F.LDP_POISON_CNT_CNT_window | rfl)
    | (with_reducible apply storeCopy_touches); rfl
    | (with_reducible apply raiseLdp_touches); rfl
    | with_reducible split
    | with_reducible dsimp only

theorem noteScrub_touches (k) (f) (how) {L : Nat} (h : Nat.lor 34359738368 L = L) : Touches L (noteScrub k f how) := by
  refine Touches.mono (L := 34359738368) ?_ h
  unfold noteScrub
  try dsimp only
  repeat' first
    | with_reducible refine Touches.bind ?_ fun _ => ?_
    | with_reducible refine Touches.ite ?_ ?_
    | with_reducible exact Touches.pure _
    | with_reducible exact Touches.rd
    | (with_reducible apply setDisc_touches); rfl
    | with_reducible split
    | with_reducible dsimp only

theorem poisonFrame_touches (k) (f) {L : Nat} (h : Nat.lor 738591472830390342 L = L) : Touches L (poisonFrame k f) := by
  refine Touches.mono (L := 738591472830390342) ?_ h
  unfold poisonFrame
  try dsimp only
  repeat' first
    | with_reducible refine Touches.bind ?_ fun _ => ?_
    | with_reducible refine Touches.ite ?_ ?_
    | with_reducible exact Touches.pure _
    | with_reducible exact Touches.rd
    | (with_reducible apply setPoison_touches); rfl
    | (with_reducible apply noteScrub_touches); rfl
    | (with_reducible apply dropFrame_touches); rfl
    | with_reducible split
    | with_reducible dsimp only

theorem readJump_touches (k) (dist) (atSpoke) {L : Nat} (h : Nat.lor 252308506709168710 L = L) : Touches L (readJump k dist atSpoke) := by
  refine Touches.mono (L := 252308506709168710) ?_ h
  unfold readJump
  try dsimp only
  repeat' first
    | with_reducible refine Touches.bind ?_ fun _ => ?_
    | with_reducible refine Touches.ite ?_ ?_
    | with_reducible exact Touches.pure _
    | with_reducible exact Touches.rd
    | (with_reducible apply Touches.setF) <;> (first | with_reducible exact F.BAY_OPT_TARGET_TRACK_window _ | rfl)
    | (with_reducible apply optCommand_touches); rfl
    | with_reducible split
    | with_reducible dsimp only

theorem centreNext_touches (k) {L : Nat} (h : Nat.lor 261315705963909702 L = L) : Touches L (centreNext k) := by
  refine Touches.mono (L := 261315705963909702) ?_ h
  unfold centreNext
  try dsimp only
  repeat' first
    | with_reducible refine Touches.bind ?_ fun _ => ?_
    | with_reducible refine Touches.ite ?_ ?_
    | with_reducible exact Touches.pure _
    | with_reducible exact Touches.rd
    | (with_reducible apply readJump_touches); rfl
    | (with_reducible apply Touches.emitM (M := 9007199254740992)) <;> rfl
    | with_reducible split
    | with_reducible dsimp only

theorem enterRung_touches (k) (f) (n) {L : Nat} (h : Nat.lor 281036546519858758 L = L) : Touches L (enterRung k f n) := by
  refine Touches.mono (L := 281036546519858758) ?_ h
  unfold enterRung
  try dsimp only
  repeat' first
    | with_reducible refine Touches.bind ?_ fun _ => ?_
    | with_reducible refine Touches.ite ?_ ?_
    | with_reducible exact Touches.pure _
    | with_reducible exact Touches.rd
    | (with_reducible apply Touches.incStop) <;> (first | with_reducible exact F.LDP_RUNG_CNT_CNT_window _ | rfl)
    | (with_reducible apply setFrame_touches); rfl
    | (with_reducible apply lowerSpeed_touches); rfl
    | (with_reducible apply centreNext_touches); rfl
    | (with_reducible apply Touches.emitM (M := 72057594037927936)) <;> rfl
    | with_reducible split
    | with_reducible dsimp only

theorem climb_touches (k) (f) {L : Nat} (h : Nat.lor 857497333183020614 L = L) : Touches L (climb k f) := by
  refine Touches.mono (L := 857497333183020614) ?_ h
  unfold climb
  try dsimp only
  repeat' first
    | with_reducible refine Touches.bind ?_ fun _ => ?_
    | with_reducible refine Touches.ite ?_ ?_
    | with_reducible exact Touches.pure _
    | with_reducible exact Touches.rd
    | (with_reducible apply poisonFrame_touches); rfl
    | (with_reducible apply setPoison_touches); rfl
    | (with_reducible apply setFrame_touches); rfl
    | (with_reducible apply enterRung_touches); rfl
    | with_reducible split
    | with_reducible dsimp only

theorem frameFailed_touches (k) (f) {L : Nat} (h : Nat.lor 857497333183020614 L = L) : Touches L (frameFailed k f) := by
  refine Touches.mono (L := 857497333183020614) ?_ h
  unfold frameFailed
  try dsimp only
  repeat' first
    | with_reducible refine Touches.bind ?_ fun _ => ?_
    | with_reducible refine Touches.ite ?_ ?_
    | with_reducible exact Touches.pure _
    | with_reducible exact Touches.rd
    | (with_reducible apply Touches.addWrap) <;> (first | with_reducible exact F.RCH_JD_PROV_FAIL_CNT_CNT_window _ | rfl)
    | (with_reducible apply setFrame_touches); rfl
    | (with_reducible apply climb_touches); rfl
    | with_reducible split
    | with_reducible dsimp only

theorem frameDecoded_touches (k) (f) (payload) {L : Nat} (h : Nat.lor 857497333183020614 L = L) : Touches L (frameDecoded k f payload) := by
  refine Touches.mono (L := 857497333183020614) ?_ h
  unfold frameDecoded
  try dsimp only
  repeat' first
    | with_reducible refine Touches.bind ?_ fun _ => ?_
    | with_reducible refine Touches.ite ?_ ?_
    | with_reducible exact Touches.pure _
    | with_reducible exact Touches.rd
    | (with_reducible apply noteDecoded_touches); rfl
    | (with_reducible apply storeCopy_touches); rfl
    | (with_reducible apply noteScrub_touches); rfl
    | (with_reducible apply dropFrame_touches); rfl
    | (with_reducible apply raiseLdp_touches); rfl
    | (with_reducible apply setFrame_touches); rfl
    | (with_reducible apply climb_touches); rfl
    | (with_reducible apply centreNext_touches); rfl
    | with_reducible split
    | with_reducible dsimp only

theorem holdOver_touches (k) (triple) {L : Nat} (h : Nat.lor 18014398509481984 L = L) : Touches L (holdOver k triple) := by
  refine Touches.mono (L := 18014398509481984) ?_ h
  unfold holdOver
  try dsimp only
  repeat' first
    | with_reducible refine Touches.bind ?_ fun _ => ?_
    | with_reducible refine Touches.ite ?_ ?_
    | with_reducible exact Touches.pure _
    | with_reducible exact Touches.rd
    | (with_reducible apply Touches.emitM (M := 18014398509481984)) <;> rfl
    | with_reducible split
    | with_reducible dsimp only

theorem leaveWaiting_touches (k) {L : Nat} (h : Nat.lor 857497333183020614 L = L) : Touches L (leaveWaiting k) := by
  refine Touches.mono (L := 857497333183020614) ?_ h
  unfold leaveWaiting
  try dsimp only
  repeat' first
    | with_reducible refine Touches.bind ?_ fun _ => ?_
    | with_reducible refine Touches.ite ?_ ?_
    | with_reducible exact Touches.pure _
    | with_reducible exact Touches.rd
    | (with_reducible apply setFrame_touches); rfl
    | (with_reducible apply frameFailed_touches); rfl
    | with_reducible refine Touches.forAll fun _ => ?_
    | with_reducible split
    | with_reducible dsimp only

theorem endReads_touches {L : Nat} (h : Nat.lor 857497333183020614 L = L) : Touches L (endReads) := by
  refine Touches.mono (L := 857497333183020614) ?_ h
  unfold endReads
  try dsimp only
  repeat' first
    | with_reducible refine Touches.bind ?_ fun _ => ?_
    | with_reducible refine Touches.ite ?_ ?_
    | with_reducible exact Touches.pure _
    | with_reducible exact Touches.rd
    | (with_reducible apply leaveWaiting_touches); rfl
    | with_reducible refine Touches.forAll fun _ => ?_
    | with_reducible split
    | with_reducible dsimp only

theorem execCaptureStart_touches (k) (triple) (s : State) : ∃ u, execCaptureStart k triple s = .next u ∧ Same 857497333183020614 s u := by
  unfold execCaptureStart
  first | apply Touches.answer | apply Touches.answerWhen | (dsimp only; first | apply Touches.answer | apply Touches.answerWhen)
  try dsimp only
  repeat' first
    | with_reducible refine Touches.bind ?_ fun _ => ?_
    | with_reducible refine Touches.ite ?_ ?_
    | with_reducible exact Touches.pure _
    | with_reducible exact Touches.rd
    | (with_reducible apply Touches.setF) <;> (first | with_reducible exact F.RCH_JD_STAT_MODE_window _ | with_reducible exact F.LDP_STAT_STALL_window | rfl)
    | (with_reducible apply Touches.incStop) <;> (first | with_reducible exact F.RCH_JD_STALL_CNT_CNT_window _ | rfl)
    | (with_reducible apply endReads_touches); rfl
    | (with_reducible apply setBay_touches); rfl
    | (with_reducible apply raiseLdp_touches); rfl
    | (with_reducible apply loadKappas_touches); rfl
    | (with_reducible apply holdOver_touches); rfl
    | (with_reducible apply leaveWaiting_touches); rfl
    | (with_reducible apply centreNext_touches); rfl
    | (with_reducible apply assignPool_touches); rfl
    | (with_reducible apply Touches.emitM (M := 9007199254740992)) <;> rfl
    | (with_reducible apply Touches.emitM (M := 576460752303423488)) <;> rfl
    | (with_reducible apply Touches.emitM (M := 18014398509481984)) <;> rfl
    | with_reducible split
    | with_reducible dsimp only

theorem reducedJump_touches (k) (track) (sector) {L : Nat} (h : Nat.lor 252308506709168710 L = L) : Touches L (reducedJump k track sector) := by
  refine Touches.mono (L := 252308506709168710) ?_ h
  unfold reducedJump
  try dsimp only
  repeat' first
    | with_reducible refine Touches.bind ?_ fun _ => ?_
    | with_reducible refine Touches.ite ?_ ?_
    | with_reducible exact Touches.pure _
    | with_reducible exact Touches.rd
    | (with_reducible apply readJump_touches); rfl
    | with_reducible split
    | with_reducible dsimp only

theorem rereadFrame_touches (k) (f) (spot) (failed) (live) (old) (half) {L : Nat} (h : Nat.lor 857497333183020614 L = L) : Touches L (rereadFrame k f spot failed live old half) := by
  refine Touches.mono (L := 857497333183020614) ?_ h
  unfold rereadFrame
  try dsimp only
  repeat' first
    | with_reducible refine Touches.bind ?_ fun _ => ?_
    | with_reducible refine Touches.ite ?_ ?_
    | with_reducible exact Touches.pure _
    | with_reducible exact Touches.rd
    | (with_reducible apply setFrame_touches); rfl
    | (with_reducible apply climb_touches); rfl
    | (with_reducible apply centreNext_touches); rfl
    | with_reducible split
    | with_reducible dsimp only

theorem passFrame_touches (i) (x) (r) (live) {L : Nat} (h : Nat.lor 857497333183020614 L = L) : Touches L (passFrame i x r live) := by
  refine Touches.mono (L := 857497333183020614) ?_ h
  unfold passFrame
  try dsimp only
  repeat' first
    | with_reducible refine Touches.bind ?_ fun _ => ?_
    | with_reducible refine Touches.ite ?_ ?_
    | with_reducible exact Touches.pure _
    | with_reducible exact Touches.rd
    | (with_reducible apply setFrame_touches); rfl
    | (with_reducible apply rereadFrame_touches); rfl
    | (with_reducible apply climb_touches); rfl
    | (with_reducible apply reducedJump_touches); rfl
    | (with_reducible apply assignPool_touches); rfl
    | (with_reducible apply Touches.emitM (M := 9007199254740992)) <;> rfl
    | (with_reducible apply Touches.emitM (M := 576460752303423488)) <;> rfl
    | (with_reducible apply Touches.emitM (M := 18014398509481984)) <;> rfl
    | with_reducible split
    | with_reducible dsimp only

theorem passRaw_touches (k) (x) (c) {L : Nat} (h : Nat.lor 36028797018963968 L = L) : Touches L (passRaw k x c) := by
  refine Touches.mono (L := 36028797018963968) ?_ h
  unfold passRaw
  try dsimp only
  repeat' first
    | with_reducible refine Touches.bind ?_ fun _ => ?_
    | with_reducible refine Touches.ite ?_ ?_
    | with_reducible exact Touches.pure _
    | with_reducible exact Touches.rd
    | (with_reducible apply Touches.emitM (M := 36028797018963968)) <;> rfl
    | with_reducible split
    | with_reducible dsimp only

theorem execSectorFrame_touches (n) (x) (s : State) : ∃ u, execSectorFrame n x s = .next u ∧ Same 864252732758294087 s u := by
  unfold execSectorFrame
  first | apply Touches.answer | apply Touches.answerWhen | (dsimp only; first | apply Touches.answer | apply Touches.answerWhen)
  try dsimp only
  repeat' first
    | with_reducible refine Touches.bind ?_ fun _ => ?_
    | with_reducible refine Touches.ite ?_ ?_
    | with_reducible exact Touches.pure _
    | with_reducible exact Touches.rd
    | (with_reducible apply endReads_touches); rfl
    | (with_reducible apply laneFrame_touches); rfl
    | (with_reducible apply passRaw_touches); rfl
    | (with_reducible apply passFrame_touches); rfl
    | (with_reducible apply trialFrame_touches); rfl
    | (with_reducible apply syncFault_touches); rfl
    | with_reducible refine Touches.forAll fun _ => ?_
    | (with_reducible apply Touches.emitM (M := 4503599627370496)) <;> rfl
    | with_reducible split
    | with_reducible dsimp only

theorem deliverFrame_touches (k) (f) (payload) {L : Nat} (h : Nat.lor 857497335330504262 L = L) : Touches L (deliverFrame k f payload) := by
  refine Touches.mono (L := 857497335330504262) ?_ h
  unfold deliverFrame
  try dsimp only
  repeat' first
    | with_reducible refine Touches.bind ?_ fun _ => ?_
    | with_reducible refine Touches.ite ?_ ?_
    | with_reducible exact Touches.pure _
    | with_reducible exact Touches.rd
    | (with_reducible apply Touches.addWrap) <;> (first | with_reducible exact F.LDP_CW_CNT_CNT_window | with_reducible exact F.RCH_JD_REDEC_OK_CNT_CNT_window _ | with_reducible exact F.RCH_ALIGN_CNT_CNT_window _ | rfl)
    | (with_reducible apply markWeak_touches); rfl
    | (with_reducible apply frameDecoded_touches); rfl
    | with_reducible split
    | with_reducible dsimp only

theorem scheduleFailed_touches (k) (f) {L : Nat} (h : Nat.lor 857497333183020614 L = L) : Touches L (scheduleFailed k f) := by
  refine Touches.mono (L := 857497333183020614) ?_ h
  unfold scheduleFailed
  try dsimp only
  repeat' first
    | with_reducible refine Touches.bind ?_ fun _ => ?_
    | with_reducible refine Touches.ite ?_ ?_
    | with_reducible exact Touches.pure _
    | with_reducible exact Touches.rd
    | (with_reducible apply frameFailed_touches); rfl
    | (with_reducible apply setFrame_touches); rfl
    | (with_reducible apply climb_touches); rfl
    | with_reducible split
    | with_reducible dsimp only

theorem execDecodeIterationDone_touches (k) (track) (sector) (s : State) : ∃ u, execDecodeIterationDone k track sector s = .next u ∧ Same 857497335330504262 s u := by
  unfold execDecodeIterationDone
  first | apply Touches.answer | apply Touches.answerWhen | (dsimp only; first | apply Touches.answer | apply Touches.answerWhen)
  try dsimp only
  repeat' first
    | with_reducible refine Touches.bind ?_ fun _ => ?_
    | with_reducible refine Touches.ite ?_ ?_
    | with_reducible exact Touches.pure _
    | with_reducible exact Touches.rd
    | (with_reducible apply Touches.addWrap) <;> (first | with_reducible exact F.LDP_ITER_CNT_CNT_window | rfl)
    | (with_reducible apply setFrame_touches); rfl
    | (with_reducible apply deliverFrame_touches); rfl
    | (with_reducible apply scheduleFailed_touches); rfl
    | (with_reducible apply endReads_touches); rfl
    | (with_reducible apply assignPool_touches); rfl
    | with_reducible split
    | with_reducible dsimp only

theorem execRungDone_touches (k) (track) (sector) (s : State) : ∃ u, execRungDone k track sector s = .next u ∧ Same 857497335330504262 s u := by
  unfold execRungDone
  first | apply Touches.answer | apply Touches.answerWhen | (dsimp only; first | apply Touches.answer | apply Touches.answerWhen)
  try dsimp only
  repeat' first
    | with_reducible refine Touches.bind ?_ fun _ => ?_
    | with_reducible refine Touches.ite ?_ ?_
    | with_reducible exact Touches.pure _
    | with_reducible exact Touches.rd
    | (with_reducible apply Touches.addWrap) <;> (first | with_reducible exact F.LDP_ITER_CNT_CNT_window | rfl)
    | (with_reducible apply endReads_touches); rfl
    | (with_reducible apply setFrame_touches); rfl
    | (with_reducible apply deliverFrame_touches); rfl
    | (with_reducible apply climb_touches); rfl
    | (with_reducible apply assignPool_touches); rfl
    | with_reducible split
    | with_reducible dsimp only

theorem takeRebuilt_touches (k) (track) (sector) (payload) {L : Nat} (h : Nat.lor 857497333183020614 L = L) : Touches L (takeRebuilt k track sector payload) := by
  refine Touches.mono (L := 857497333183020614) ?_ h
  unfold takeRebuilt
  try dsimp only
  repeat' first
    | with_reducible refine Touches.bind ?_ fun _ => ?_
    | with_reducible refine Touches.ite ?_ ?_
    | with_reducible exact Touches.pure _
    | with_reducible exact Touches.rd
    | (with_reducible apply noteDecoded_touches); rfl
    | (with_reducible apply storeCopy_touches); rfl
    | (with_reducible apply noteScrub_touches); rfl
    | (with_reducible apply dropFrame_touches); rfl
    | (with_reducible apply climb_touches); rfl
    | with_reducible split
    | with_reducible dsimp only

theorem execOuterRebuildDone_touches (k) (j) (track) (sector) (s : State) : ∃ u, execOuterRebuildDone k j track sector s = .next u ∧ Same 857497335330504262 s u := by
  unfold execOuterRebuildDone
  first | apply Touches.answer | apply Touches.answerWhen | (dsimp only; first | apply Touches.answer | apply Touches.answerWhen)
  try dsimp only
  repeat' first
    | with_reducible refine Touches.bind ?_ fun _ => ?_
    | with_reducible refine Touches.ite ?_ ?_
    | with_reducible exact Touches.pure _
    | with_reducible exact Touches.rd
    | (with_reducible apply Touches.addWrap) <;> (first | with_reducible exact F.LDP_OUTER_CNT_CNT_window | rfl)
    | (with_reducible apply raiseLdp_touches); rfl
    | (with_reducible apply markWeak_touches); rfl
    | (with_reducible apply takeRebuilt_touches); rfl
    | with_reducible refine Touches.forAll fun _ => ?_
    | with_reducible split
    | with_reducible dsimp only

theorem execDecoderFault_touches (outer) (j) (s : State) : ∃ u, execDecoderFault outer j s = .next u ∧ Same 857497298957483591 s u := by
  unfold execDecoderFault
  first | apply Touches.answer | apply Touches.answerWhen | (dsimp only; first | apply Touches.answer | apply Touches.answerWhen)
  try dsimp only
  repeat' first
    | with_reducible refine Touches.bind ?_ fun _ => ?_
    | with_reducible refine Touches.ite ?_ ?_
    | with_reducible exact Touches.pure _
    | with_reducible exact Touches.rd
    | (with_reducible apply Touches.setF) <;> (first | with_reducible exact F.LDP_STAT_OUTER_FAILED_window | with_reducible exact F.LDP_STAT_DEC_FAILED_window | rfl)
    | (with_reducible apply beginSingle_touches); rfl
    | (with_reducible apply raiseLdp_touches); rfl
    | (with_reducible apply degrade_touches); rfl
    | (with_reducible apply assignPool_touches); rfl
    | (with_reducible apply endSingle_touches); rfl
    | (with_reducible apply Touches.emitM (M := 18014398509481984)) <;> rfl
    | with_reducible split
    | with_reducible dsimp only

theorem holdInst_touches (id) (g) {L : Nat} (h : Nat.lor 4398046511104 L = L) : Touches L (holdInst id g) := by
  refine Touches.mono (L := 4398046511104) ?_ h
  unfold holdInst
  try dsimp only
  repeat' first
    | with_reducible refine Touches.bind ?_ fun _ => ?_
    | with_reducible refine Touches.ite ?_ ?_
    | with_reducible exact Touches.pure _
    | with_reducible exact Touches.rd
    | (with_reducible apply setInst_touches); rfl
    | with_reducible split
    | with_reducible dsimp only

theorem lostWord_touches (i) {L : Nat} (h : Nat.lor 263026546191081031 L = L) : Touches L (lostWord i) := by
  refine Touches.mono (L := 263026546191081031) ?_ h
  unfold lostWord
  try dsimp only
  repeat' first
    | with_reducible refine Touches.bind ?_ fun _ => ?_
    | with_reducible refine Touches.ite ?_ ?_
    | with_reducible exact Touches.pure _
    | with_reducible exact Touches.rd
    | (with_reducible apply beginSingle_touches); rfl
    | (with_reducible apply complete_touches); rfl
    | (with_reducible apply endSingle_touches); rfl
    | with_reducible split
    | with_reducible dsimp only

theorem badWords_touches (n) {L : Nat} (h : Nat.lor 263022148144569927 L = L) : Touches L (badWords n) := by
  refine Touches.mono (L := 263022148144569927) ?_ h
  unfold badWords
  try dsimp only
  repeat' first
    | with_reducible refine Touches.bind ?_ fun _ => ?_
    | with_reducible refine Touches.ite ?_ ?_
    | with_reducible exact Touches.pure _
    | with_reducible exact Touches.rd
    | (with_reducible apply beginSingle_touches); rfl
    | (with_reducible apply raise_touches); rfl
    | (with_reducible apply endSingle_touches); rfl
    | with_reducible split
    | with_reducible dsimp only

theorem execNop_touches (id) (s : State) : ∃ u, execNop id s = .next u ∧ Same 263029019165302374 s u := by
  unfold execNop
  first | apply Touches.answer | apply Touches.answerWhen | (dsimp only; first | apply Touches.answer | apply Touches.answerWhen)
  try dsimp only
  repeat' first
    | with_reducible refine Touches.bind ?_ fun _ => ?_
    | with_reducible refine Touches.ite ?_ ?_
    | with_reducible exact Touches.pure _
    | with_reducible exact Touches.rd
    | (with_reducible refine perform_touches _ _ _ _ ?hh (fun _ => ?_)); case hh => rfl
    | (with_reducible apply complete_touches); rfl
    | with_reducible split
    | with_reducible dsimp only

theorem commitWrite_touches (i) (mem) (data) {L : Nat} (h : Nat.lor 263026562305596999 L = L) : Touches L (commitWrite i mem data) := by
  refine Touches.mono (L := 263026562305596999) ?_ h
  unfold commitWrite
  try dsimp only
  repeat' first
    | with_reducible refine Touches.bind ?_ fun _ => ?_
    | with_reducible refine Touches.ite ?_ ?_
    | with_reducible exact Touches.pure _
    | with_reducible exact Touches.rd
    | (with_reducible apply setExtent_touches); rfl
    | (with_reducible apply setStrand_touches); rfl
    | (with_reducible apply setInst_touches); rfl
    | (with_reducible apply badWords_touches); rfl
    | (with_reducible apply checkSpace_touches); rfl
    | with_reducible refine Touches.forAll fun _ => ?_
    | (with_reducible apply Touches.emitM (M := 8388608)) <;> rfl
    | (with_reducible apply Touches.emitM (M := 1073741824)) <;> rfl
    | with_reducible split
    | with_reducible dsimp only

theorem execWrite_touches (id) (mem) (data) (s : State) : ∃ u, execWrite id mem data s = .next u ∧ Same 263029019299520103 s u := by
  unfold execWrite
  first | apply Touches.answer | apply Touches.answerWhen | (dsimp only; first | apply Touches.answer | apply Touches.answerWhen)
  try dsimp only
  repeat' first
    | with_reducible refine Touches.bind ?_ fun _ => ?_
    | with_reducible refine Touches.ite ?_ ?_
    | with_reducible exact Touches.pure _
    | with_reducible exact Touches.rd
    | (with_reducible refine perform_touches _ _ _ _ ?hh (fun _ => ?_)); case hh => rfl
    | (with_reducible apply lostWord_touches); rfl
    | (with_reducible apply commitWrite_touches); rfl
    | (with_reducible apply postWrite_touches); rfl
    | with_reducible split
    | with_reducible dsimp only

theorem moveToRead_touches (i) (b) {L : Nat} (h : Nat.lor 70368744444416 L = L) : Touches L (moveToRead i b) := by
  refine Touches.mono (L := 70368744444416) ?_ h
  unfold moveToRead
  try dsimp only
  repeat' first
    | with_reducible refine Touches.bind ?_ fun _ => ?_
    | with_reducible refine Touches.ite ?_ ?_
    | with_reducible exact Touches.pure _
    | with_reducible exact Touches.rd
    | (with_reducible apply goTo_touches); rfl
    | with_reducible refine Touches.forAll fun _ => ?_
    | with_reducible split
    | with_reducible dsimp only

theorem giveWay_touches (i) (b) {L : Nat} (h : Nat.lor 262458923178990150 L = L) : Touches L (giveWay i b) := by
  refine Touches.mono (L := 262458923178990150) ?_ h
  unfold giveWay
  try dsimp only
  repeat' first
    | with_reducible refine Touches.bind ?_ fun _ => ?_
    | with_reducible refine Touches.ite ?_ ?_
    | with_reducible exact Touches.pure _
    | with_reducible exact Touches.rd
    | (with_reducible apply pauseAxis_touches); rfl
    | (with_reducible apply clearAxis_touches); rfl
    | (with_reducible apply optEnd_touches); rfl
    | (with_reducible apply suspendSession_touches); rfl
    | (with_reducible apply moveToRead_touches); rfl
    | with_reducible refine Touches.forAll fun _ => ?_
    | (with_reducible apply Touches.emitM (M := 17592186044416)) <;> rfl
    | with_reducible split
    | with_reducible dsimp only

theorem askBay_touches (i) (b) {L : Nat} (h : Nat.lor 263022148010368583 L = L) : Touches L (askBay i b) := by
  refine Touches.mono (L := 263022148010368583) ?_ h
  unfold askBay
  try dsimp only
  repeat' first
    | with_reducible refine Touches.bind ?_ fun _ => ?_
    | with_reducible refine Touches.ite ?_ ?_
    | with_reducible exact Touches.pure _
    | with_reducible exact Touches.rd
    | (with_reducible apply giveWay_touches); rfl
    | (with_reducible apply needBay_touches); rfl
    | with_reducible split
    | with_reducible dsimp only

theorem deliver_touches (l) (b) {L : Nat} (h : Nat.lor 4194304 L = L) : Touches L (deliver l b) := by
  refine Touches.mono (L := 4194304) ?_ h
  clear h
  induction l generalizing b with
  | nil =>
    rw [deliver]
    try dsimp only
    repeat' first
      | with_reducible refine Touches.bind ?_ fun _ => ?_
      | with_reducible refine Touches.ite ?_ ?_
      | with_reducible exact Touches.pure _
      | with_reducible exact Touches.rd
      | (with_reducible apply freeValue_touches); rfl
      | with_reducible split
      | with_reducible dsimp only
  | cons y l ih =>
    rw [deliver]
    try dsimp only
    repeat' first
      | with_reducible refine Touches.bind ?_ fun _ => ?_
      | with_reducible refine Touches.ite ?_ ?_
      | with_reducible exact Touches.pure _
      | with_reducible exact Touches.rd
      | (with_reducible apply freeValue_touches); rfl
      | with_reducible apply ih
      | with_reducible split
      | with_reducible dsimp only

theorem keepAhead_touches (i) (b) (used) {L : Nat} (h : Nat.lor 17592186044416 L = L) : Touches L (keepAhead i b used) := by
  refine Touches.mono (L := 17592186044416) ?_ h
  unfold keepAhead
  try dsimp only
  repeat' first
    | with_reducible refine Touches.bind ?_ fun _ => ?_
    | with_reducible refine Touches.ite ?_ ?_
    | with_reducible exact Touches.pure _
    | with_reducible exact Touches.rd
    | (with_reducible apply Touches.emitM (M := 17592186044416)) <;> rfl
    | with_reducible split
    | with_reducible dsimp only

theorem requestNeeds_touches (vol) (need) {L : Nat} (h : Nat.lor 144116356377215046 L = L) : Touches L (requestNeeds vol need) := by
  refine Touches.mono (L := 144116356377215046) ?_ h
  unfold requestNeeds
  try dsimp only
  repeat' first
    | with_reducible refine Touches.bind ?_ fun _ => ?_
    | with_reducible refine Touches.ite ?_ ?_
    | with_reducible exact Touches.pure _
    | with_reducible exact Touches.rd
    | (with_reducible apply requestDisc_touches); rfl
    | with_reducible refine Touches.forAll fun _ => ?_
    | with_reducible split
    | with_reducible dsimp only

theorem stopReading_touches (b) {L : Nat} (h : Nat.lor 857497333183020614 L = L) : Touches L (stopReading b) := by
  refine Touches.mono (L := 857497333183020614) ?_ h
  unfold stopReading
  try dsimp only
  repeat' first
    | with_reducible refine Touches.bind ?_ fun _ => ?_
    | with_reducible refine Touches.ite ?_ ?_
    | with_reducible exact Touches.pure _
    | with_reducible exact Touches.rd
    | (with_reducible apply setBay_touches); rfl
    | (with_reducible apply endReads_touches); rfl
    | with_reducible split
    | with_reducible dsimp only

theorem readRange_touches (i) (scope) (k) {L : Nat} (h : Nat.lor 857501799949008487 L = L) (hk : ∀ i, Touches L (k i)) : Touches L (readRange i scope k) := by
  unfold readRange
  try dsimp only
  repeat' first
    | with_reducible refine Touches.bind ?_ fun _ => ?_
    | with_reducible refine Touches.ite ?_ ?_
    | with_reducible exact Touches.pure _
    | with_reducible exact Touches.rd
    | (with_reducible apply complete_touches); exact sub (by rfl) h
    | (with_reducible apply requestNeeds_touches); exact sub (by rfl) h
    | (with_reducible apply moveToRead_touches); exact sub (by rfl) h
    | (with_reducible apply setBay_touches); exact sub (by rfl) h
    | (with_reducible apply noteRebuilt_touches); exact sub (by rfl) h
    | (with_reducible apply noteChunks_touches); exact sub (by rfl) h
    | (with_reducible apply dropCopies_touches); exact sub (by rfl) h
    | (with_reducible apply stopReading_touches); exact sub (by rfl) h
    | (with_reducible apply askBay_touches); exact sub (by rfl) h
    | with_reducible refine Touches.forAll fun _ => ?_
    | with_reducible apply hk
    | with_reducible split
    | with_reducible dsimp only

theorem execRead_touches (id) (mem) (s : State) : ∃ u, execRead id mem s = .next u ∧ Same 857504170112450151 s u := by
  unfold execRead
  first | apply Touches.answer | apply Touches.answerWhen | (dsimp only; first | apply Touches.answer | apply Touches.answerWhen)
  try dsimp only
  repeat' first
    | with_reducible refine Touches.bind ?_ fun _ => ?_
    | with_reducible refine Touches.ite ?_ ?_
    | with_reducible exact Touches.pure _
    | with_reducible exact Touches.rd
    | (with_reducible refine perform_touches _ _ _ _ ?hh (fun _ => ?_)); case hh => rfl
    | (with_reducible apply lostWord_touches); rfl
    | (with_reducible refine readRange_touches _ _ _ ?hh (fun _ => ?_)); case hh => rfl
    | (with_reducible apply complete_touches); rfl
    | (with_reducible apply deliver_touches); rfl
    | (with_reducible apply writeBuffer_touches); rfl
    | (with_reducible apply badWords_touches); rfl
    | (with_reducible apply keepAhead_touches); rfl
    | (with_reducible apply dropCopies_touches); rfl
    | with_reducible refine Touches.forAll fun _ => ?_
    | (with_reducible apply Touches.emitM (M := 2097152)) <;> rfl
    | with_reducible split
    | with_reducible dsimp only

theorem execVerify_touches (id) (s : State) : ∃ u, execVerify id s = .next u ∧ Same 857504169978232423 s u := by
  unfold execVerify
  first | apply Touches.answer | apply Touches.answerWhen | (dsimp only; first | apply Touches.answer | apply Touches.answerWhen)
  try dsimp only
  repeat' first
    | with_reducible refine Touches.bind ?_ fun _ => ?_
    | with_reducible refine Touches.ite ?_ ?_
    | with_reducible exact Touches.pure _
    | with_reducible exact Touches.rd
    | (with_reducible refine perform_touches _ _ _ _ ?hh (fun _ => ?_)); case hh => rfl
    | (with_reducible refine readRange_touches _ _ _ ?hh (fun _ => ?_)); case hh => rfl
    | (with_reducible apply complete_touches); rfl
    | with_reducible split
    | with_reducible dsimp only

theorem wantDisc_touches (vol) {L : Nat} (h : Nat.lor 801765221490692710 L = L) : Touches L (wantDisc vol) := by
  refine Touches.mono (L := 801765221490692710) ?_ h
  unfold wantDisc
  try dsimp only
  repeat' first
    | with_reducible refine Touches.bind ?_ fun _ => ?_
    | with_reducible refine Touches.ite ?_ ?_
    | with_reducible exact Touches.pure _
    | with_reducible exact Touches.rd
    | (with_reducible apply startSession_touches); rfl
    | with_reducible split
    | with_reducible dsimp only

theorem execFlush_touches (id) (s : State) : ∃ u, execFlush id s = .next u ∧ Same 839489771468725862 s u := by
  unfold execFlush
  first | apply Touches.answer | apply Touches.answerWhen | (dsimp only; first | apply Touches.answer | apply Touches.answerWhen)
  try dsimp only
  repeat' first
    | with_reducible refine Touches.bind ?_ fun _ => ?_
    | with_reducible refine Touches.ite ?_ ?_
    | with_reducible exact Touches.pure _
    | with_reducible exact Touches.rd
    | (with_reducible refine perform_touches _ _ _ _ ?hh (fun _ => ?_)); case hh => rfl
    | (with_reducible apply holdInst_touches); rfl
    | (with_reducible apply wantDisc_touches); rfl
    | (with_reducible apply padFor_touches); rfl
    | with_reducible refine Touches.forAll fun _ => ?_
    | with_reducible split
    | with_reducible dsimp only

theorem performRow_touches (row) (id) (op) (checks) (m) {L : Nat} (h : Nat.lor 263029019165302374 L = L) (hm : ∀ i, Touches L (m i)) : Touches L (performRow row id op checks m) := by
  unfold performRow
  try dsimp only
  repeat' first
    | with_reducible refine Touches.bind ?_ fun _ => ?_
    | with_reducible refine Touches.ite ?_ ?_
    | with_reducible exact Touches.pure _
    | with_reducible exact Touches.rd
    | (with_reducible refine perform_touches _ _ _ _ ?hh (fun _ => ?_)); case hh => exact sub (by rfl) h
    | with_reducible apply hm
    | with_reducible split
    | with_reducible dsimp only

theorem execOpenStrand_touches (id) (s : State) : ∃ u, execOpenStrand id s = .next u ∧ Same 263029019165302374 s u := by
  unfold execOpenStrand
  first | apply Touches.answer | apply Touches.answerWhen | (dsimp only; first | apply Touches.answer | apply Touches.answerWhen)
  try dsimp only
  repeat' first
    | with_reducible refine Touches.bind ?_ fun _ => ?_
    | with_reducible refine Touches.ite ?_ ?_
    | with_reducible exact Touches.pure _
    | with_reducible exact Touches.rd
    | (with_reducible refine performRow_touches _ _ _ _ _ ?hh (fun _ => ?_)); case hh => rfl
    | (with_reducible apply complete_touches); rfl
    | (with_reducible apply Touches.emitM (M := 8589934592)) <;> rfl
    | with_reducible split
    | with_reducible dsimp only

theorem execOpenStrandAdopt_touches (id) (s : State) : ∃ u, execOpenStrandAdopt id s = .next u ∧ Same 263029019165302374 s u := by
  unfold execOpenStrandAdopt
  first | apply Touches.answer | apply Touches.answerWhen | (dsimp only; first | apply Touches.answer | apply Touches.answerWhen)
  try dsimp only
  repeat' first
    | with_reducible refine Touches.bind ?_ fun _ => ?_
    | with_reducible refine Touches.ite ?_ ?_
    | with_reducible exact Touches.pure _
    | with_reducible exact Touches.rd
    | (with_reducible refine performRow_touches _ _ _ _ _ ?hh (fun _ => ?_)); case hh => rfl
    | (with_reducible apply setStrand_touches); rfl
    | (with_reducible apply complete_touches); rfl
    | with_reducible split
    | with_reducible dsimp only

theorem execCloseStrand_touches (id) (mem) (s : State) : ∃ u, execCloseStrand id mem s = .next u ∧ Same 263029019299520103 s u := by
  unfold execCloseStrand
  first | apply Touches.answer | apply Touches.answerWhen | (dsimp only; first | apply Touches.answer | apply Touches.answerWhen)
  try dsimp only
  repeat' first
    | with_reducible refine Touches.bind ?_ fun _ => ?_
    | with_reducible refine Touches.ite ?_ ?_
    | with_reducible exact Touches.pure _
    | with_reducible exact Touches.rd
    | (with_reducible refine perform_touches _ _ _ _ ?hh (fun _ => ?_)); case hh => rfl
    | (with_reducible apply lostWord_touches); rfl
    | (with_reducible apply beginClose_touches); rfl
    | (with_reducible apply padFor_touches); rfl
    | (with_reducible apply holdInst_touches); rfl
    | with_reducible split
    | with_reducible dsimp only

end Sys2Proof.Machine
end

