-- ==== Sys2Proof/Laws/Touches5.lean ====
section
/-! SUPPORT. Part 5 of what every program of the model may touch: for each program, that from every state it runs to an answer, and
the parts of the state that it leaves alone (as the bits of `Part.idx`). -/

set_option linter.all false

namespace Sys2Proof.Machine

theorem execSealStrand_touches (id) (mem) (s : State) : ∃ u, execSealStrand id mem s = .next u ∧ Same 839489771602943591 s u := by
  unfold execSealStrand
  first | apply Touches.answer | apply Touches.answerWhen | (dsimp only; first | apply Touches.answer | apply Touches.answerWhen)
  try dsimp only
  repeat' first
    | with_reducible refine Touches.bind ?_ fun _ => ?_
    | with_reducible refine Touches.ite ?_ ?_
    | with_reducible exact Touches.pure _
    | with_reducible exact Touches.rd
    | (with_reducible refine perform_touches _ _ _ _ ?hh (fun _ => ?_)); case hh => rfl
    | (with_reducible apply lostWord_touches); rfl
    | (with_reducible apply holdInst_touches); rfl
    | (with_reducible apply wantDisc_touches); rfl
    | with_reducible split
    | with_reducible dsimp only

theorem execQueryStrand_touches (id) (mem) (s : State) : ∃ u, execQueryStrand id mem s = .next u ∧ Same 263029019299520103 s u := by
  unfold execQueryStrand
  first | apply Touches.answer | apply Touches.answerWhen | (dsimp only; first | apply Touches.answer | apply Touches.answerWhen)
  try dsimp only
  repeat' first
    | with_reducible refine Touches.bind ?_ fun _ => ?_
    | with_reducible refine Touches.ite ?_ ?_
    | with_reducible exact Touches.pure _
    | with_reducible exact Touches.rd
    | (with_reducible refine perform_touches _ _ _ _ ?hh (fun _ => ?_)); case hh => rfl
    | (with_reducible apply lostWord_touches); rfl
    | (with_reducible apply writeBuffer_touches); rfl
    | (with_reducible apply setStrand_touches); rfl
    | (with_reducible apply freeStrand_touches); rfl
    | (with_reducible apply attend_touches); rfl
    | (with_reducible apply complete_touches); rfl
    | with_reducible split
    | with_reducible dsimp only

theorem execCreateVolume_touches (id) (s : State) : ∃ u, execCreateVolume id s = .next u ∧ Same 263029019165302374 s u := by
  unfold execCreateVolume
  first | apply Touches.answer | apply Touches.answerWhen | (dsimp only; first | apply Touches.answer | apply Touches.answerWhen)
  try dsimp only
  repeat' first
    | with_reducible refine Touches.bind ?_ fun _ => ?_
    | with_reducible refine Touches.ite ?_ ?_
    | with_reducible exact Touches.pure _
    | with_reducible exact Touches.rd
    | (with_reducible refine perform_touches _ _ _ _ ?hh (fun _ => ?_)); case hh => rfl
    | (with_reducible apply complete_touches); rfl
    | (with_reducible apply Touches.emitM (M := 8388608)) <;> rfl
    | (with_reducible apply Touches.emitM (M := 4294967296)) <;> rfl
    | with_reducible split
    | with_reducible dsimp only

theorem execDeleteVolume_touches (id) (s : State) : ∃ u, execDeleteVolume id s = .next u ∧ Same 263029019165302374 s u := by
  unfold execDeleteVolume
  first | apply Touches.answer | apply Touches.answerWhen | (dsimp only; first | apply Touches.answer | apply Touches.answerWhen)
  try dsimp only
  repeat' first
    | with_reducible refine Touches.bind ?_ fun _ => ?_
    | with_reducible refine Touches.ite ?_ ?_
    | with_reducible exact Touches.pure _
    | with_reducible exact Touches.rd
    | (with_reducible refine perform_touches _ _ _ _ ?hh (fun _ => ?_)); case hh => rfl
    | (with_reducible apply holdInst_touches); rfl
    | with_reducible split
    | with_reducible dsimp only

theorem execQueryVolume_touches (id) (mem) (s : State) : ∃ u, execQueryVolume id mem s = .next u ∧ Same 263029019299520103 s u := by
  unfold execQueryVolume
  first | apply Touches.answer | apply Touches.answerWhen | (dsimp only; first | apply Touches.answer | apply Touches.answerWhen)
  try dsimp only
  repeat' first
    | with_reducible refine Touches.bind ?_ fun _ => ?_
    | with_reducible refine Touches.ite ?_ ?_
    | with_reducible exact Touches.pure _
    | with_reducible exact Touches.rd
    | (with_reducible refine perform_touches _ _ _ _ ?hh (fun _ => ?_)); case hh => rfl
    | (with_reducible apply lostWord_touches); rfl
    | (with_reducible apply writeBuffer_touches); rfl
    | (with_reducible apply complete_touches); rfl
    | with_reducible split
    | with_reducible dsimp only

theorem retireExtent_touches (lsa) (count) (e) {L : Nat} (h : Nat.lor 144116324433395782 L = L) : Touches L (retireExtent lsa count e) := by
  refine Touches.mono (L := 144116324433395782) ?_ h
  unfold retireExtent
  try dsimp only
  repeat' first
    | with_reducible refine Touches.bind ?_ fun _ => ?_
    | with_reducible refine Touches.ite ?_ ?_
    | with_reducible exact Touches.pure _
    | with_reducible exact Touches.rd
    | (with_reducible apply setExtent_touches); rfl
    | (with_reducible apply setDisc_touches); rfl
    | (with_reducible apply checkDisc_touches); rfl
    | (with_reducible apply Touches.emitM (M := 268435456)) <;> rfl
    | with_reducible split
    | with_reducible dsimp only

theorem execRetireRange_touches (id) (s : State) : ∃ u, execRetireRange id s = .next u ∧ Same 263029019165302374 s u := by
  unfold execRetireRange
  first | apply Touches.answer | apply Touches.answerWhen | (dsimp only; first | apply Touches.answer | apply Touches.answerWhen)
  try dsimp only
  repeat' first
    | with_reducible refine Touches.bind ?_ fun _ => ?_
    | with_reducible refine Touches.ite ?_ ?_
    | with_reducible exact Touches.pure _
    | with_reducible exact Touches.rd
    | (with_reducible refine perform_touches _ _ _ _ ?hh (fun _ => ?_)); case hh => rfl
    | (with_reducible apply retireExtent_touches); rfl
    | (with_reducible apply sweepCache_touches); rfl
    | (with_reducible apply settleBlocks_touches); rfl
    | (with_reducible apply checkSpace_touches); rfl
    | (with_reducible apply complete_touches); rfl
    | with_reducible refine Touches.forAll fun _ => ?_
    | (with_reducible apply Touches.emitM (M := 1073741824)) <;> rfl
    | with_reducible split
    | with_reducible dsimp only

theorem performBay_touches (id) (op) (checks) (begin_) (again) {L : Nat} (h : Nat.lor 263029019165302374 L = L) (hbegin_ : ∀ i, Touches L (begin_ i)) (hagain : ∀ i, Touches L (again i)) : Touches L (performBay id op checks begin_ again) := by
  unfold performBay
  try dsimp only
  repeat' first
    | with_reducible refine Touches.bind ?_ fun _ => ?_
    | with_reducible refine Touches.ite ?_ ?_
    | with_reducible exact Touches.pure _
    | with_reducible exact Touches.rd
    | (with_reducible refine perform_touches _ _ _ _ ?hh (fun _ => ?_)); case hh => exact sub (by rfl) h
    | (with_reducible apply settle_touches); exact sub (by rfl) h
    | with_reducible apply hbegin_
    | with_reducible apply hagain
    | with_reducible split
    | with_reducible dsimp only

theorem moveTray_touches (b) (closed) {L : Nat} (h : Nat.lor 216736831649154118 L = L) : Touches L (moveTray b closed) := by
  refine Touches.mono (L := 216736831649154118) ?_ h
  unfold moveTray
  try dsimp only
  repeat' first
    | with_reducible refine Touches.bind ?_ fun _ => ?_
    | with_reducible refine Touches.ite ?_ ?_
    | with_reducible exact Touches.pure _
    | with_reducible exact Touches.rd
    | (with_reducible apply moveMotor_touches); rfl
    | with_reducible split
    | with_reducible dsimp only

theorem moveClamp_touches (b) (clamped) {L : Nat} (h : Nat.lor 145242187564582982 L = L) : Touches L (moveClamp b clamped) := by
  refine Touches.mono (L := 145242187564582982) ?_ h
  unfold moveClamp
  try dsimp only
  repeat' first
    | with_reducible refine Touches.bind ?_ fun _ => ?_
    | with_reducible refine Touches.ite ?_ ?_
    | with_reducible exact Touches.pure _
    | with_reducible exact Touches.rd
    | (with_reducible apply moveAxis_touches); rfl
    | with_reducible split
    | with_reducible dsimp only

theorem loadBay_touches (b) {L : Nat} (h : Nat.lor 217862731555998790 L = L) : Touches L (loadBay b) := by
  refine Touches.mono (L := 217862731555998790) ?_ h
  unfold loadBay
  try dsimp only
  repeat' first
    | with_reducible refine Touches.bind ?_ fun _ => ?_
    | with_reducible refine Touches.ite ?_ ?_
    | with_reducible exact Touches.pure _
    | with_reducible exact Touches.rd
    | (with_reducible apply moveTray_touches); rfl
    | (with_reducible apply moveClamp_touches); rfl
    | with_reducible split
    | with_reducible dsimp only

theorem ejectBay_touches (b) {L : Nat} (h : Nat.lor 217862731555998790 L = L) : Touches L (ejectBay b) := by
  refine Touches.mono (L := 217862731555998790) ?_ h
  unfold ejectBay
  try dsimp only
  repeat' first
    | with_reducible refine Touches.bind ?_ fun _ => ?_
    | with_reducible refine Touches.ite ?_ ?_
    | with_reducible exact Touches.pure _
    | with_reducible exact Touches.rd
    | (with_reducible apply moveClamp_touches); rfl
    | (with_reducible apply moveTray_touches); rfl
    | with_reducible split
    | with_reducible dsimp only

theorem spinForMount_touches (b) {L : Nat} (h : Nat.lor 263022148010368583 L = L) : Touches L (spinForMount b) := by
  refine Touches.mono (L := 263022148010368583) ?_ h
  unfold spinForMount
  try dsimp only
  repeat' first
    | with_reducible refine Touches.bind ?_ fun _ => ?_
    | with_reducible refine Touches.ite ?_ ?_
    | with_reducible exact Touches.pure _
    | with_reducible exact Touches.rd
    | (with_reducible apply takeSpeed_touches); rfl
    | (with_reducible apply needBay_touches); rfl
    | (with_reducible apply loadBay_touches); rfl
    | with_reducible split
    | with_reducible dsimp only

theorem beginMount_touches (i) (mem) {L : Nat} (h : Nat.lor 263026546191097415 L = L) : Touches L (beginMount i mem) := by
  refine Touches.mono (L := 263026546191097415) ?_ h
  unfold beginMount
  try dsimp only
  repeat' first
    | with_reducible refine Touches.bind ?_ fun _ => ?_
    | with_reducible refine Touches.ite ?_ ?_
    | with_reducible exact Touches.pure _
    | with_reducible exact Touches.rd
    | (with_reducible apply lostWord_touches); rfl
    | (with_reducible apply writeBuffer_touches); rfl
    | (with_reducible apply complete_touches); rfl
    | (with_reducible apply holdInst_touches); rfl
    | (with_reducible apply spinForMount_touches); rfl
    | (with_reducible apply Touches.emitM (M := 17592186044416)) <;> rfl
    | with_reducible split
    | with_reducible dsimp only

theorem rebuildMap_touches (vol) (maps) {L : Nat} (h : Nat.lor 2147483648 L = L) : Touches L (rebuildMap vol maps) := by
  refine Touches.mono (L := 2147483648) ?_ h
  unfold rebuildMap
  try dsimp only
  repeat' first
    | with_reducible refine Touches.bind ?_ fun _ => ?_
    | with_reducible refine Touches.ite ?_ ?_
    | with_reducible exact Touches.pure _
    | with_reducible exact Touches.rd
    | (with_reducible apply setExtent_touches); rfl
    | with_reducible refine Touches.forAll fun _ => ?_
    | with_reducible split
    | with_reducible dsimp only

theorem mountDisc_touches (b) (d) (x) {L : Nat} (h : Nat.lor 252202783941328966 L = L) : Touches L (mountDisc b d x) := by
  refine Touches.mono (L := 252202783941328966) ?_ h
  unfold mountDisc
  try dsimp only
  repeat' first
    | with_reducible refine Touches.bind ?_ fun _ => ?_
    | with_reducible refine Touches.ite ?_ ?_
    | with_reducible exact Touches.pure _
    | with_reducible exact Touches.rd
    | (with_reducible apply rebuildMap_touches); rfl
    | (with_reducible apply raise_touches); rfl
    | (with_reducible apply setDisc_touches); rfl
    | (with_reducible apply lapseRequests_touches); rfl
    | with_reducible refine Touches.forAll fun _ => ?_
    | (with_reducible apply Touches.emitM (M := 36028797018963968)) <;> rfl
    | (with_reducible apply Touches.emitM (M := 72057594037927936)) <;> rfl
    | with_reducible split
    | with_reducible dsimp only

theorem endMount_touches (i) (mem) (x) {L : Nat} (h : Nat.lor 252224774173884486 L = L) : Touches L (endMount i mem x) := by
  refine Touches.mono (L := 252224774173884486) ?_ h
  unfold endMount
  try dsimp only
  repeat' first
    | with_reducible refine Touches.bind ?_ fun _ => ?_
    | with_reducible refine Touches.ite ?_ ?_
    | with_reducible exact Touches.pure _
    | with_reducible exact Touches.rd
    | (with_reducible apply complete_touches); rfl
    | (with_reducible apply mountDisc_touches); rfl
    | (with_reducible apply writeBuffer_touches); rfl
    | with_reducible refine Touches.forAll fun _ => ?_
    | (with_reducible apply Touches.emitM (M := 17592186044416)) <;> rfl
    | (with_reducible apply Touches.emitM (M := 2097152)) <;> rfl
    | with_reducible split
    | with_reducible dsimp only

theorem continueMount_touches (i) (mem) (x) {L : Nat} (h : Nat.lor 263026651283578439 L = L) : Touches L (continueMount i mem x) := by
  refine Touches.mono (L := 263026651283578439) ?_ h
  unfold continueMount
  try dsimp only
  repeat' first
    | with_reducible refine Touches.bind ?_ fun _ => ?_
    | with_reducible refine Touches.ite ?_ ?_
    | with_reducible exact Touches.pure _
    | with_reducible exact Touches.rd
    | (with_reducible apply spinForMount_touches); rfl
    | (with_reducible apply parkBay_touches); rfl
    | (with_reducible apply complete_touches); rfl
    | (with_reducible apply endMount_touches); rfl
    | (with_reducible apply Touches.emitM (M := 17592186044416)) <;> rfl
    | with_reducible split
    | with_reducible dsimp only

theorem execMount_touches (id) (mem) (x) (s : State) : ∃ u, execMount id mem x s = .next u ∧ Same 263029019299536487 s u := by
  unfold execMount
  first | apply Touches.answer | apply Touches.answerWhen | (dsimp only; first | apply Touches.answer | apply Touches.answerWhen)
  try dsimp only
  repeat' first
    | with_reducible refine Touches.bind ?_ fun _ => ?_
    | with_reducible refine Touches.ite ?_ ?_
    | with_reducible exact Touches.pure _
    | with_reducible exact Touches.rd
    | (with_reducible refine performBay_touches _ _ _ _ _ ?hh (fun _ => ?_) (fun _ => ?_)); case hh => rfl
    | (with_reducible apply beginMount_touches); rfl
    | (with_reducible apply continueMount_touches); rfl
    | with_reducible split
    | with_reducible dsimp only

theorem driveUnmount_touches (i) {L : Nat} (h : Nat.lor 263022148010368583 L = L) : Touches L (driveUnmount i) := by
  refine Touches.mono (L := 263022148010368583) ?_ h
  unfold driveUnmount
  try dsimp only
  repeat' first
    | with_reducible refine Touches.bind ?_ fun _ => ?_
    | with_reducible refine Touches.ite ?_ ?_
    | with_reducible exact Touches.pure _
    | with_reducible exact Touches.rd
    | (with_reducible apply suspendSession_touches); rfl
    | (with_reducible apply needBay_touches); rfl
    | (with_reducible apply ejectBay_touches); rfl
    | with_reducible split
    | with_reducible dsimp only

theorem execUnmount_touches (id) (s : State) : ∃ u, execUnmount id s = .next u ∧ Same 263029019165318759 s u := by
  unfold execUnmount
  first | apply Touches.answer | apply Touches.answerWhen | (dsimp only; first | apply Touches.answer | apply Touches.answerWhen)
  try dsimp only
  repeat' first
    | with_reducible refine Touches.bind ?_ fun _ => ?_
    | with_reducible refine Touches.ite ?_ ?_
    | with_reducible exact Touches.pure _
    | with_reducible exact Touches.rd
    | (with_reducible refine performBay_touches _ _ _ _ _ ?hh (fun _ => ?_) (fun _ => ?_)); case hh => rfl
    | (with_reducible apply complete_touches); rfl
    | (with_reducible apply holdInst_touches); rfl
    | (with_reducible apply driveUnmount_touches); rfl
    | with_reducible split
    | with_reducible dsimp only

theorem writeRecord_touches (k) (vol) (disc) (n) (kind) (body) {L : Nat} (h : Nat.lor 14680064 L = L) : Touches L (writeRecord k vol disc n kind body) := by
  refine Touches.mono (L := 14680064) ?_ h
  unfold writeRecord
  try dsimp only
  repeat' first
    | with_reducible refine Touches.bind ?_ fun _ => ?_
    | with_reducible refine Touches.ite ?_ ?_
    | with_reducible exact Touches.pure _
    | with_reducible exact Touches.rd
    | with_reducible refine Touches.forAll fun _ => ?_
    | (with_reducible apply Touches.emitM (M := 8388608)) <;> rfl
    | (with_reducible apply Touches.emitM (M := 4194304)) <;> rfl
    | (with_reducible apply Touches.emitM (M := 2097152)) <;> rfl
    | with_reducible split
    | with_reducible dsimp only

theorem writeBinding_touches (k) (v) (disc) (n) (blank) {L : Nat} (h : Nat.lor 14680064 L = L) : Touches L (writeBinding k v disc n blank) := by
  refine Touches.mono (L := 14680064) ?_ h
  unfold writeBinding
  try dsimp only
  repeat' first
    | with_reducible refine Touches.bind ?_ fun _ => ?_
    | with_reducible refine Touches.ite ?_ ?_
    | with_reducible exact Touches.pure _
    | with_reducible exact Touches.rd
    | (with_reducible apply writeRecord_touches); rfl
    | with_reducible split
    | with_reducible dsimp only

theorem bindDisc_touches (i) (v) (disc) (blank) (written) (used) {L : Nat} (h : Nat.lor 144138316557582406 L = L) : Touches L (bindDisc i v disc blank written used) := by
  refine Touches.mono (L := 144138316557582406) ?_ h
  unfold bindDisc
  try dsimp only
  repeat' first
    | with_reducible refine Touches.bind ?_ fun _ => ?_
    | with_reducible refine Touches.ite ?_ ?_
    | with_reducible exact Touches.pure _
    | with_reducible exact Touches.rd
    | (with_reducible apply writeBinding_touches); rfl
    | (with_reducible apply checkSpace_touches); rfl
    | (with_reducible apply writeBuffer_touches); rfl
    | (with_reducible apply complete_touches); rfl
    | (with_reducible apply Touches.emitM (M := 34359738368)) <;> rfl
    | (with_reducible apply Touches.emitM (M := 17592186044416)) <;> rfl
    | with_reducible split
    | with_reducible dsimp only

theorem initDisc_touches (i) (written) (used) {L : Nat} (h : Nat.lor 144138316557582406 L = L) : Touches L (initDisc i written used) := by
  refine Touches.mono (L := 144138316557582406) ?_ h
  unfold initDisc
  try dsimp only
  repeat' first
    | with_reducible refine Touches.bind ?_ fun _ => ?_
    | with_reducible refine Touches.ite ?_ ?_
    | with_reducible exact Touches.pure _
    | with_reducible exact Touches.rd
    | (with_reducible apply complete_touches); rfl
    | (with_reducible apply bindDisc_touches); rfl
    | (with_reducible apply Touches.emitM (M := 8388608)) <;> rfl
    | with_reducible split
    | with_reducible dsimp only

theorem execInitDisc_touches (id) (mem) (written) (fails) (s : State) : ∃ u, execInitDisc id mem written fails s = .next u ∧ Same 263029019299536487 s u := by
  unfold execInitDisc
  first | apply Touches.answer | apply Touches.answerWhen | (dsimp only; first | apply Touches.answer | apply Touches.answerWhen)
  try dsimp only
  repeat' first
    | with_reducible refine Touches.bind ?_ fun _ => ?_
    | with_reducible refine Touches.ite ?_ ?_
    | with_reducible exact Touches.pure _
    | with_reducible exact Touches.rd
    | (with_reducible apply needBay_touches); rfl
    | (with_reducible refine perform_touches _ _ _ _ ?hh (fun _ => ?_)); case hh => rfl
    | (with_reducible apply lostWord_touches); rfl
    | (with_reducible apply writeBuffer_touches); rfl
    | (with_reducible apply complete_touches); rfl
    | (with_reducible apply initDisc_touches); rfl
    | with_reducible split
    | with_reducible dsimp only

theorem execScrubDisc_touches (id) (s : State) : ∃ u, execScrubDisc id s = .next u ∧ Same 263029019165302374 s u := by
  unfold execScrubDisc
  first | apply Touches.answer | apply Touches.answerWhen | (dsimp only; first | apply Touches.answer | apply Touches.answerWhen)
  try dsimp only
  repeat' first
    | with_reducible refine Touches.bind ?_ fun _ => ?_
    | with_reducible refine Touches.ite ?_ ?_
    | with_reducible exact Touches.pure _
    | with_reducible exact Touches.rd
    | (with_reducible refine perform_touches _ _ _ _ ?hh (fun _ => ?_)); case hh => rfl
    | (with_reducible apply complete_touches); rfl
    | (with_reducible apply setDisc_touches); rfl
    | (with_reducible apply requestDisc_touches); rfl
    | with_reducible split
    | with_reducible dsimp only

theorem compactDisc_touches (i) (d) {L : Nat} (h : Nat.lor 839487299434045031 L = L) : Touches L (compactDisc i d) := by
  refine Touches.mono (L := 839487299434045031) ?_ h
  unfold compactDisc
  try dsimp only
  repeat' first
    | with_reducible refine Touches.bind ?_ fun _ => ?_
    | with_reducible refine Touches.ite ?_ ?_
    | with_reducible exact Touches.pure _
    | with_reducible exact Touches.rd
    | (with_reducible apply askBay_touches); rfl
    | (with_reducible apply holdInst_touches); rfl
    | (with_reducible apply moveIn_touches); rfl
    | with_reducible split
    | with_reducible dsimp only

theorem execCompact_touches (id) (s : State) : ∃ u, execCompact id s = .next u ∧ Same 839489771468742247 s u := by
  unfold execCompact
  first | apply Touches.answer | apply Touches.answerWhen | (dsimp only; first | apply Touches.answer | apply Touches.answerWhen)
  try dsimp only
  repeat' first
    | with_reducible refine Touches.bind ?_ fun _ => ?_
    | with_reducible refine Touches.ite ?_ ?_
    | with_reducible exact Touches.pure _
    | with_reducible exact Touches.rd
    | (with_reducible refine perform_touches _ _ _ _ ?hh (fun _ => ?_)); case hh => rfl
    | (with_reducible apply requestDisc_touches); rfl
    | (with_reducible apply complete_touches); rfl
    | (with_reducible apply compactDisc_touches); rfl
    | with_reducible split
    | with_reducible dsimp only

theorem execSpin_touches (id) (s : State) : ∃ u, execSpin id s = .next u ∧ Same 263029019165318759 s u := by
  unfold execSpin
  first | apply Touches.answer | apply Touches.answerWhen | (dsimp only; first | apply Touches.answer | apply Touches.answerWhen)
  try dsimp only
  repeat' first
    | with_reducible refine Touches.bind ?_ fun _ => ?_
    | with_reducible refine Touches.ite ?_ ?_
    | with_reducible exact Touches.pure _
    | with_reducible exact Touches.rd
    | (with_reducible apply Touches.setF) <;> (first | with_reducible exact F.BAY_STAT_HELD_window _ | rfl)
    | (with_reducible refine performBay_touches _ _ _ _ _ ?hh (fun _ => ?_) (fun _ => ?_)); case hh => rfl
    | (with_reducible apply complete_touches); rfl
    | (with_reducible apply takeSpeed_touches); rfl
    | (with_reducible apply setInst_touches); rfl
    | (with_reducible apply needBay_touches); rfl
    | with_reducible split
    | with_reducible dsimp only

theorem execParkBay_touches (id) (s : State) : ∃ u, execParkBay id s = .next u ∧ Same 263029019165302374 s u := by
  unfold execParkBay
  first | apply Touches.answer | apply Touches.answerWhen | (dsimp only; first | apply Touches.answer | apply Touches.answerWhen)
  try dsimp only
  repeat' first
    | with_reducible refine Touches.bind ?_ fun _ => ?_
    | with_reducible refine Touches.ite ?_ ?_
    | with_reducible exact Touches.pure _
    | with_reducible exact Touches.rd
    | (with_reducible apply Touches.setF) <;> (first | with_reducible exact F.BAY_STAT_HELD_window _ | rfl)
    | (with_reducible refine performBay_touches _ _ _ _ _ ?hh (fun _ => ?_) (fun _ => ?_)); case hh => rfl
    | (with_reducible apply complete_touches); rfl
    | (with_reducible apply setInst_touches); rfl
    | (with_reducible apply restBay_touches); rfl
    | with_reducible split
    | with_reducible dsimp only

theorem endReports_touches (recs) {L : Nat} (h : Nat.lor 1125350637634 L = L) : Touches L (endReports recs) := by
  refine Touches.mono (L := 1125350637634) ?_ h
  unfold endReports
  try dsimp only
  repeat' first
    | with_reducible refine Touches.bind ?_ fun _ => ?_
    | with_reducible refine Touches.ite ?_ ?_
    | with_reducible exact Touches.pure _
    | with_reducible exact Touches.rd
    | (with_reducible apply setStrand_touches); rfl
    | (with_reducible apply attend_touches); rfl
    | with_reducible refine Touches.forAll fun _ => ?_
    | (with_reducible apply Touches.emitM (M := 17179869184)) <;> rfl
    | with_reducible split
    | with_reducible dsimp only

theorem execGetEvents_touches (id) (mem) (s : State) : ∃ u, execGetEvents id mem s = .next u ∧ Same 263029019299520103 s u := by
  unfold execGetEvents
  first | apply Touches.answer | apply Touches.answerWhen | (dsimp only; first | apply Touches.answer | apply Touches.answerWhen)
  try dsimp only
  repeat' first
    | with_reducible refine Touches.bind ?_ fun _ => ?_
    | with_reducible refine Touches.ite ?_ ?_
    | with_reducible exact Touches.pure _
    | with_reducible exact Touches.rd
    | (with_reducible refine perform_touches _ _ _ _ ?hh (fun _ => ?_)); case hh => rfl
    | (with_reducible apply lostWord_touches); rfl
    | (with_reducible apply writeBuffer_touches); rfl
    | (with_reducible apply attend_touches); rfl
    | (with_reducible apply endReports_touches); rfl
    | (with_reducible apply complete_touches); rfl
    | (with_reducible apply Touches.emitM (M := 1048576)) <;> rfl
    | with_reducible split
    | with_reducible dsimp only

theorem execGetLog_touches (id) (mem) (s : State) : ∃ u, execGetLog id mem s = .next u ∧ Same 263029019299520103 s u := by
  unfold execGetLog
  first | apply Touches.answer | apply Touches.answerWhen | (dsimp only; first | apply Touches.answer | apply Touches.answerWhen)
  try dsimp only
  repeat' first
    | with_reducible refine Touches.bind ?_ fun _ => ?_
    | with_reducible refine Touches.ite ?_ ?_
    | with_reducible exact Touches.pure _
    | with_reducible exact Touches.rd
    | (with_reducible refine perform_touches _ _ _ _ ?hh (fun _ => ?_)); case hh => rfl
    | (with_reducible apply lostWord_touches); rfl
    | (with_reducible apply writeBuffer_touches); rfl
    | (with_reducible apply complete_touches); rfl
    | with_reducible split
    | with_reducible dsimp only

theorem settlePolicy_touches (l) {L : Nat} (h : Nat.lor 263022148010368582 L = L) : Touches L (settlePolicy l) := by
  refine Touches.mono (L := 263022148010368582) ?_ h
  unfold settlePolicy
  try dsimp only
  repeat' first
    | with_reducible refine Touches.bind ?_ fun _ => ?_
    | with_reducible refine Touches.ite ?_ ?_
    | with_reducible exact Touches.pure _
    | with_reducible exact Touches.rd
    | (with_reducible apply Touches.setF) <;> (first | with_reducible exact F.MOT_MODEL_RES_window _ | with_reducible exact F.MOT_MODEL_IND_window _ | rfl)
    | (with_reducible apply abortCal_touches); rfl
    | (with_reducible apply showPins_touches); rfl
    | (with_reducible apply settleSpeeds_touches); rfl
    | with_reducible refine Touches.forAll fun _ => ?_
    | with_reducible split
    | with_reducible dsimp only

theorem execSetPolicy_touches (id) (mem) (buf) (s : State) : ∃ u, execSetPolicy id mem buf s = .next u ∧ Same 263029019299536487 s u := by
  unfold execSetPolicy
  first | apply Touches.answer | apply Touches.answerWhen | (dsimp only; first | apply Touches.answer | apply Touches.answerWhen)
  try dsimp only
  repeat' first
    | with_reducible refine Touches.bind ?_ fun _ => ?_
    | with_reducible refine Touches.ite ?_ ?_
    | with_reducible exact Touches.pure _
    | with_reducible exact Touches.rd
    | (with_reducible refine perform_touches _ _ _ _ ?hh (fun _ => ?_)); case hh => rfl
    | (with_reducible apply lostWord_touches); rfl
    | (with_reducible apply settlePolicy_touches); rfl
    | (with_reducible apply complete_touches); rfl
    | (with_reducible apply Touches.emitM (M := 268435456)) <;> rfl
    | (with_reducible apply Touches.emitM (M := 134217728)) <;> rfl
    | with_reducible split
    | with_reducible dsimp only

theorem execGetPolicy_touches (id) (mem) (s : State) : ∃ u, execGetPolicy id mem s = .next u ∧ Same 263029019299520103 s u := by
  unfold execGetPolicy
  first | apply Touches.answer | apply Touches.answerWhen | (dsimp only; first | apply Touches.answer | apply Touches.answerWhen)
  try dsimp only
  repeat' first
    | with_reducible refine Touches.bind ?_ fun _ => ?_
    | with_reducible refine Touches.ite ?_ ?_
    | with_reducible exact Touches.pure _
    | with_reducible exact Touches.rd
    | (with_reducible refine perform_touches _ _ _ _ ?hh (fun _ => ?_)); case hh => rfl
    | (with_reducible apply lostWord_touches); rfl
    | (with_reducible apply writeBuffer_touches); rfl
    | (with_reducible apply complete_touches); rfl
    | with_reducible split
    | with_reducible dsimp only

theorem execSetTime_touches (id) (s : State) : ∃ u, execSetTime id s = .next u ∧ Same 263029019165302630 s u := by
  unfold execSetTime
  first | apply Touches.answer | apply Touches.answerWhen | (dsimp only; first | apply Touches.answer | apply Touches.answerWhen)
  try dsimp only
  repeat' first
    | with_reducible refine Touches.bind ?_ fun _ => ?_
    | with_reducible refine Touches.ite ?_ ?_
    | with_reducible exact Touches.pure _
    | with_reducible exact Touches.rd
    | (with_reducible apply Touches.setF) <;> (first | with_reducible exact F.LIF_STAT_CAL_VALID_window | rfl)
    | (with_reducible refine perform_touches _ _ _ _ ?hh (fun _ => ?_)); case hh => rfl
    | (with_reducible apply raise_touches); rfl
    | (with_reducible apply complete_touches); rfl
    | (with_reducible apply Touches.emitM (M := 34359738368)) <;> rfl
    | (with_reducible apply Touches.emitM (M := 268435456)) <;> rfl
    | with_reducible split
    | with_reducible dsimp only

theorem execGetTime_touches (id) (mem) (s : State) : ∃ u, execGetTime id mem s = .next u ∧ Same 263029019299520103 s u := by
  unfold execGetTime
  first | apply Touches.answer | apply Touches.answerWhen | (dsimp only; first | apply Touches.answer | apply Touches.answerWhen)
  try dsimp only
  repeat' first
    | with_reducible refine Touches.bind ?_ fun _ => ?_
    | with_reducible refine Touches.ite ?_ ?_
    | with_reducible exact Touches.pure _
    | with_reducible exact Touches.rd
    | (with_reducible refine perform_touches _ _ _ _ ?hh (fun _ => ?_)); case hh => rfl
    | (with_reducible apply lostWord_touches); rfl
    | (with_reducible apply writeBuffer_touches); rfl
    | (with_reducible apply complete_touches); rfl
    | with_reducible split
    | with_reducible dsimp only

theorem resetEvent_touches (g) {L : Nat} (h : Nat.lor 4194304 L = L) : Touches L (resetEvent g) := by
  refine Touches.mono (L := 4194304) ?_ h
  unfold resetEvent
  try dsimp only
  repeat' first
    | with_reducible refine Touches.bind ?_ fun _ => ?_
    | with_reducible refine Touches.ite ?_ ?_
    | with_reducible exact Touches.pure _
    | with_reducible exact Touches.rd
    | (with_reducible apply freeValue_touches); rfl
    | with_reducible split
    | with_reducible dsimp only

theorem endReset_touches (id) (g) (code) (dw0) {L : Nat} (h : Nat.lor 144120685708443718 L = L) : Touches L (endReset id g code dw0) := by
  refine Touches.mono (L := 144120685708443718) ?_ h
  unfold endReset
  try dsimp only
  repeat' first
    | with_reducible refine Touches.bind ?_ fun _ => ?_
    | with_reducible refine Touches.ite ?_ ?_
    | with_reducible exact Touches.pure _
    | with_reducible exact Touches.rd
    | (with_reducible apply raise_touches); rfl
    | (with_reducible apply resetEvent_touches); rfl
    | (with_reducible apply complete_touches); rfl
    | with_reducible split
    | with_reducible dsimp only

theorem execResetRing_touches (id) (s : State) : ∃ u, execResetRing id s = .next u ∧ Same 263029019165302374 s u := by
  unfold execResetRing
  first | apply Touches.answer | apply Touches.answerWhen | (dsimp only; first | apply Touches.answer | apply Touches.answerWhen)
  try dsimp only
  repeat' first
    | with_reducible refine Touches.bind ?_ fun _ => ?_
    | with_reducible refine Touches.ite ?_ ?_
    | with_reducible exact Touches.pure _
    | with_reducible exact Touches.rd
    | (with_reducible refine performRow_touches _ _ _ _ _ ?hh (fun _ => ?_)); case hh => rfl
    | (with_reducible apply resetEvent_touches); rfl
    | (with_reducible apply setInst_touches); rfl
    | (with_reducible apply abortAll_touches); rfl
    | with_reducible split
    | with_reducible dsimp only

theorem execResetStrand_touches (id) (s : State) : ∃ u, execResetStrand id s = .next u ∧ Same 263029019165302374 s u := by
  unfold execResetStrand
  first | apply Touches.answer | apply Touches.answerWhen | (dsimp only; first | apply Touches.answer | apply Touches.answerWhen)
  try dsimp only
  repeat' first
    | with_reducible refine Touches.bind ?_ fun _ => ?_
    | with_reducible refine Touches.ite ?_ ?_
    | with_reducible exact Touches.pure _
    | with_reducible exact Touches.rd
    | (with_reducible refine performRow_touches _ _ _ _ _ ?hh (fun _ => ?_)); case hh => rfl
    | (with_reducible apply resetEvent_touches); rfl
    | (with_reducible apply holdInst_touches); rfl
    | with_reducible split
    | with_reducible dsimp only

theorem reinitBay_touches (b) (x) {L : Nat} (h : Nat.lor 263021873137188863 L = L) : Touches L (reinitBay b x) := by
  refine Touches.mono (L := 263021873137188863) ?_ h
  unfold reinitBay
  try dsimp only
  repeat' first
    | with_reducible refine Touches.bind ?_ fun _ => ?_
    | with_reducible refine Touches.ite ?_ ?_
    | with_reducible exact Touches.pure _
    | with_reducible exact Touches.rd
    | (with_reducible apply Touches.setF) <;> (first | with_reducible exact F.BAY_OPT_CTL_ENABLE_window _ | with_reducible exact F.WRP_CTL_ENABLE_window _ | with_reducible exact F.STP_CTL_ENABLE_window _ | rfl)
    | (with_reducible apply Touches.setF_any); rfl
    | (with_reducible apply undegrade_touches); rfl
    | (with_reducible apply loadEeprom_touches); rfl
    | (with_reducible apply enableMotors_touches); rfl
    | (with_reducible apply readSensors_touches); rfl
    | (with_reducible apply trainLink_touches); rfl
    | (with_reducible apply homeAxis_touches); rfl
    | with_reducible refine Touches.forAll fun _ => ?_
    | (with_reducible apply Touches.emitM (M := 70368744177664)) <;> rfl
    | (with_reducible apply Touches.emitM (M := 36028797018963968)) <;> rfl
    | (with_reducible apply Touches.emitM (M := 562949953421312)) <;> rfl
    | (with_reducible apply Touches.emitM (M := 1125899906842624)) <;> rfl
    | with_reducible split
    | with_reducible dsimp only

theorem continueReset_touches (i) (x) {L : Nat} (h : Nat.lor 263026271183699967 L = L) : Touches L (continueReset i x) := by
  refine Touches.mono (L := 263026271183699967) ?_ h
  unfold continueReset
  try dsimp only
  repeat' first
    | with_reducible refine Touches.bind ?_ fun _ => ?_
    | with_reducible refine Touches.ite ?_ ?_
    | with_reducible exact Touches.pure _
    | with_reducible exact Touches.rd
    | (with_reducible apply reinitBay_touches); rfl
    | (with_reducible apply setInst_touches); rfl
    | with_reducible split
    | with_reducible dsimp only

theorem beginResetBay_touches (i) (x) {L : Nat} (h : Nat.lor 263026580421345279 L = L) : Touches L (beginResetBay i x) := by
  refine Touches.mono (L := 263026580421345279) ?_ h
  unfold beginResetBay
  try dsimp only
  repeat' first
    | with_reducible refine Touches.bind ?_ fun _ => ?_
    | with_reducible refine Touches.ite ?_ ?_
    | with_reducible exact Touches.pure _
    | with_reducible exact Touches.rd
    | (with_reducible apply resetEvent_touches); rfl
    | (with_reducible apply dropLaser_touches); rfl
    | (with_reducible apply completeAs_touches); rfl
    | (with_reducible apply recordSkips_touches); rfl
    | (with_reducible apply parkBay_touches); rfl
    | (with_reducible apply stopMotor_touches); rfl
    | (with_reducible apply abortCal_touches); rfl
    | (with_reducible apply setInst_touches); rfl
    | (with_reducible apply continueReset_touches); rfl
    | with_reducible refine Touches.forAll fun _ => ?_
    | (with_reducible apply Touches.emitM (M := 17592186044416)) <;> rfl
    | with_reducible split
    | with_reducible dsimp only

theorem execResetBay_touches (id) (x) (s : State) : ∃ u, execResetBay id x s = .next u ∧ Same 263029019165851647 s u := by
  unfold execResetBay
  first | apply Touches.answer | apply Touches.answerWhen | (dsimp only; first | apply Touches.answer | apply Touches.answerWhen)
  try dsimp only
  repeat' first
    | with_reducible refine Touches.bind ?_ fun _ => ?_
    | with_reducible refine Touches.ite ?_ ?_
    | with_reducible exact Touches.pure _
    | with_reducible exact Touches.rd
    | (with_reducible refine perform_touches _ _ _ _ ?hh (fun _ => ?_)); case hh => rfl
    | (with_reducible apply beginResetBay_touches); rfl
    | (with_reducible apply continueReset_touches); rfl
    | (with_reducible apply settle_touches); rfl
    | with_reducible split
    | with_reducible dsimp only

theorem execResetLane_touches (id) (passes) (s : State) : ∃ u, execResetLane id passes s = .next u ∧ Same 267532618792689254 s u := by
  unfold execResetLane
  first | apply Touches.answer | apply Touches.answerWhen | (dsimp only; first | apply Touches.answer | apply Touches.answerWhen)
  try dsimp only
  repeat' first
    | with_reducible refine Touches.bind ?_ fun _ => ?_
    | with_reducible refine Touches.ite ?_ ?_
    | with_reducible exact Touches.pure _
    | with_reducible exact Touches.rd
    | (with_reducible apply Touches.setF) <;> (first | with_reducible exact F.RCH_LANE_STAT_FAILED_window _ | with_reducible exact F.RCH_LANE_STAT_CAUSE_window _ | rfl)
    | (with_reducible refine performRow_touches _ _ _ _ _ ?hh (fun _ => ?_)); case hh => rfl
    | (with_reducible apply undegrade_touches); rfl
    | (with_reducible apply endReset_touches); rfl
    | (with_reducible apply clearLane_touches); rfl
    | with_reducible split
    | with_reducible dsimp only

theorem returnLun_touches (x) {L : Nat} (h : Nat.lor 1237288222818 L = L) : Touches L (returnLun x) := by
  refine Touches.mono (L := 1237288222818) ?_ h
  unfold returnLun
  try dsimp only
  repeat' first
    | with_reducible refine Touches.bind ?_ fun _ => ?_
    | with_reducible refine Touches.ite ?_ ?_
    | with_reducible exact Touches.pure _
    | with_reducible exact Touches.rd
    | (with_reducible apply Touches.setF) <;> (first | with_reducible exact F.FLZ_LUN_FAILED_MASK_window _ | with_reducible exact F.FLZ_GEOM_LUNS_window | rfl)
    | (with_reducible apply undegrade_touches); rfl
    | (with_reducible apply formBlocks_touches); rfl
    | (with_reducible apply Touches.emitM (M := 268435456)) <;> rfl
    | (with_reducible apply Touches.emitM (M := 137438953472)) <;> rfl
    | with_reducible split
    | with_reducible dsimp only

theorem execResetFlashChannel_touches (id) (luns) (s : State) : ∃ u, execResetFlashChannel id luns s = .next u ∧ Same 263029019165302374 s u := by
  unfold execResetFlashChannel
  first | apply Touches.answer | apply Touches.answerWhen | (dsimp only; first | apply Touches.answer | apply Touches.answerWhen)
  try dsimp only
  repeat' first
    | with_reducible refine Touches.bind ?_ fun _ => ?_
    | with_reducible refine Touches.ite ?_ ?_
    | with_reducible exact Touches.pure _
    | with_reducible exact Touches.rd
    | (with_reducible apply Touches.setF) <;> (first | with_reducible exact F.FLZ_CH_STAT_FAILED_window | rfl)
    | (with_reducible refine performRow_touches _ _ _ _ _ ?hh (fun _ => ?_)); case hh => rfl
    | (with_reducible apply returnLun_touches); rfl
    | (with_reducible apply undegrade_touches); rfl
    | (with_reducible apply endReset_touches); rfl
    | with_reducible refine Touches.forAll fun _ => ?_
    | with_reducible split
    | with_reducible dsimp only

theorem restartEngine_touches (e) {L : Nat} (h : Nat.lor 37366902739173954 L = L) : Touches L (restartEngine e) := by
  refine Touches.mono (L := 37366902739173954) ?_ h
  unfold restartEngine
  try dsimp only
  repeat' first
    | with_reducible refine Touches.bind ?_ fun _ => ?_
    | with_reducible refine Touches.ite ?_ ?_
    | with_reducible exact Touches.pure _
    | with_reducible exact Touches.rd
    | (with_reducible apply Touches.setF) <;> (first | with_reducible exact F.SRV_BLK_STAT_ENGINE_FAULT_window _ | with_reducible exact F.SRV_BLK_STAT_CAUSE_window _ | rfl)
    | (with_reducible apply disableSlot_touches); rfl
    | (with_reducible apply optPhase_touches); rfl
    | (with_reducible apply undegrade_touches); rfl
    | with_reducible refine Touches.forAll fun _ => ?_
    | (with_reducible apply Touches.emitM (M := 140737488355328)) <;> rfl
    | with_reducible split
    | with_reducible dsimp only

theorem clearSlot_touches (e) (j) {L : Nat} (h : Nat.lor 37365803160437248 L = L) : Touches L (clearSlot e j) := by
  refine Touches.mono (L := 37365803160437248) ?_ h
  unfold clearSlot
  try dsimp only
  repeat' first
    | with_reducible refine Touches.bind ?_ fun _ => ?_
    | with_reducible refine Touches.ite ?_ ?_
    | with_reducible exact Touches.pure _
    | with_reducible exact Touches.rd
    | (with_reducible apply Touches.setF) <;> (first | with_reducible exact F.SRV_BUMP_OFS_D_window _ _ | with_reducible exact F.SRV_SAT_CNT_CNT_window _ _ | with_reducible exact F.SRV_SLOT_STAT_FE_FAULT_window _ _ | with_reducible exact F.SRV_SLOT_STAT_CFG_REJECT_window _ _ | with_reducible exact sectionFld_window _ _ _ _ | rfl)
    | (with_reducible apply disableSlot_touches); rfl
    | (with_reducible apply setSlotRun_touches); rfl
    | with_reducible refine Touches.forAll fun _ => ?_
    | with_reducible split
    | with_reducible dsimp only

theorem execResetServoLoop_touches (id) (s : State) : ∃ u, execResetServoLoop id s = .next u ∧ Same 263169756653657702 s u := by
  unfold execResetServoLoop
  first | apply Touches.answer | apply Touches.answerWhen | (dsimp only; first | apply Touches.answer | apply Touches.answerWhen)
  try dsimp only
  repeat' first
    | with_reducible refine Touches.bind ?_ fun _ => ?_
    | with_reducible refine Touches.ite ?_ ?_
    | with_reducible exact Touches.pure _
    | with_reducible exact Touches.rd
    | (with_reducible refine performRow_touches _ _ _ _ _ ?hh (fun _ => ?_)); case hh => rfl
    | (with_reducible apply restartEngine_touches); rfl
    | (with_reducible apply clearSlot_touches); rfl
    | (with_reducible apply endReset_touches); rfl
    | with_reducible split
    | with_reducible dsimp only

theorem setSlotPkg_touches (n) (p) {L : Nat} (h : Nat.lor 268435456 L = L) : Touches L (setSlotPkg n p) := by
  refine Touches.mono (L := 268435456) ?_ h
  unfold setSlotPkg
  try dsimp only
  repeat' first
    | with_reducible refine Touches.bind ?_ fun _ => ?_
    | with_reducible refine Touches.ite ?_ ?_
    | with_reducible exact Touches.pure _
    | with_reducible exact Touches.rd
    | (with_reducible apply Touches.emitM (M := 268435456)) <;> rfl
    | with_reducible split
    | with_reducible dsimp only

theorem failPackage_touches (id) (check) (slot) {L : Nat} (h : Nat.lor 144120685704249414 L = L) : Touches L (failPackage id check slot) := by
  refine Touches.mono (L := 144120685704249414) ?_ h
  unfold failPackage
  try dsimp only
  repeat' first
    | with_reducible refine Touches.bind ?_ fun _ => ?_
    | with_reducible refine Touches.ite ?_ ?_
    | with_reducible exact Touches.pure _
    | with_reducible exact Touches.rd
    | (with_reducible apply raise_touches); rfl
    | (with_reducible apply complete_touches); rfl
    | with_reducible split
    | with_reducible dsimp only

theorem execStagePackage_touches (id) (mem) (pkg) (programmed) (s : State) : ∃ u, execStagePackage id mem pkg programmed s = .next u ∧ Same 263029019299520231 s u := by
  unfold execStagePackage
  first | apply Touches.answer | apply Touches.answerWhen | (dsimp only; first | apply Touches.answer | apply Touches.answerWhen)
  try dsimp only
  repeat' first
    | with_reducible refine Touches.bind ?_ fun _ => ?_
    | with_reducible refine Touches.ite ?_ ?_
    | with_reducible exact Touches.pure _
    | with_reducible exact Touches.rd
    | (with_reducible refine perform_touches _ _ _ _ ?hh (fun _ => ?_)); case hh => rfl
    | (with_reducible apply lostWord_touches); rfl
    | (with_reducible apply failPackage_touches); rfl
    | (with_reducible apply setSlotPkg_touches); rfl
    | (with_reducible apply journal_touches); rfl
    | (with_reducible apply complete_touches); rfl
    | (with_reducible apply showSlots_touches); rfl
    | (with_reducible apply freeValue_touches); rfl
    | (with_reducible apply Touches.emitM (M := 268435456)) <;> rfl
    | with_reducible split
    | with_reducible dsimp only

theorem execActivate_touches (id) (s : State) : ∃ u, execActivate id s = .next u ∧ Same 263029019165302375 s u := by
  unfold execActivate
  first | apply Touches.answer | apply Touches.answerWhen | (dsimp only; first | apply Touches.answer | apply Touches.answerWhen)
  try dsimp only
  repeat' first
    | with_reducible refine Touches.bind ?_ fun _ => ?_
    | with_reducible refine Touches.ite ?_ ?_
    | with_reducible exact Touches.pure _
    | with_reducible exact Touches.rd
    | (with_reducible refine perform_touches _ _ _ _ ?hh (fun _ => ?_)); case hh => rfl
    | (with_reducible apply complete_touches); rfl
    | (with_reducible apply failPackage_touches); rfl
    | (with_reducible apply setInst_touches); rfl
    | (with_reducible apply abortAll_touches); rfl
    | (with_reducible apply padFor_touches); rfl
    | (with_reducible apply beginTransition_touches); rfl
    | with_reducible split
    | with_reducible dsimp only

theorem execAttestReport_touches (id) (mem) (s : State) : ∃ u, execAttestReport id mem s = .next u ∧ Same 263029019299520103 s u := by
  unfold execAttestReport
  first | apply Touches.answer | apply Touches.answerWhen | (dsimp only; first | apply Touches.answer | apply Touches.answerWhen)
  try dsimp only
  repeat' first
    | with_reducible refine Touches.bind ?_ fun _ => ?_
    | with_reducible refine Touches.ite ?_ ?_
    | with_reducible exact Touches.pure _
    | with_reducible exact Touches.rd
    | (with_reducible refine performRow_touches _ _ _ _ _ ?hh (fun _ => ?_)); case hh => rfl
    | (with_reducible apply lostWord_touches); rfl
    | (with_reducible apply writeBuffer_touches); rfl
    | (with_reducible apply complete_touches); rfl
    | (with_reducible apply Touches.emitM (M := 4194304)) <;> rfl
    | with_reducible split
    | with_reducible dsimp only

theorem execAttestCertificate_touches (id) (mem) (s : State) : ∃ u, execAttestCertificate id mem s = .next u ∧ Same 263029019299520103 s u := by
  unfold execAttestCertificate
  first | apply Touches.answer | apply Touches.answerWhen | (dsimp only; first | apply Touches.answer | apply Touches.answerWhen)
  try dsimp only
  repeat' first
    | with_reducible refine Touches.bind ?_ fun _ => ?_
    | with_reducible refine Touches.ite ?_ ?_
    | with_reducible exact Touches.pure _
    | with_reducible exact Touches.rd
    | (with_reducible refine performRow_touches _ _ _ _ _ ?hh (fun _ => ?_)); case hh => rfl
    | (with_reducible apply lostWord_touches); rfl
    | (with_reducible apply writeBuffer_touches); rfl
    | (with_reducible apply complete_touches); rfl
    | with_reducible split
    | with_reducible dsimp only

theorem execTraceArm_touches (id) (s : State) : ∃ u, execTraceArm id s = .next u ∧ Same 263310494142013030 s u := by
  unfold execTraceArm
  first | apply Touches.answer | apply Touches.answerWhen | (dsimp only; first | apply Touches.answer | apply Touches.answerWhen)
  try dsimp only
  repeat' first
    | with_reducible refine Touches.bind ?_ fun _ => ?_
    | with_reducible refine Touches.ite ?_ ?_
    | with_reducible exact Touches.pure _
    | with_reducible exact Touches.rd
    | (with_reducible apply Touches.setF) <;> (first | with_reducible exact F.SRV_TRC_LEVEL_LEVEL_window _ _ | with_reducible exact F.SRV_TRC_PRE_PRE_window _ _ | rfl)
    | (with_reducible refine performRow_touches _ _ _ _ _ ?hh (fun _ => ?_)); case hh => rfl
    | (with_reducible apply writeTraceCtl_touches); rfl
    | (with_reducible apply complete_touches); rfl
    | with_reducible split
    | with_reducible dsimp only

theorem execTraceStop_touches (id) (s : State) : ∃ u, execTraceStop id s = .next u ∧ Same 263310494142013030 s u := by
  unfold execTraceStop
  first | apply Touches.answer | apply Touches.answerWhen | (dsimp only; first | apply Touches.answer | apply Touches.answerWhen)
  try dsimp only
  repeat' first
    | with_reducible refine Touches.bind ?_ fun _ => ?_
    | with_reducible refine Touches.ite ?_ ?_
    | with_reducible exact Touches.pure _
    | with_reducible exact Touches.rd
    | (with_reducible refine performRow_touches _ _ _ _ _ ?hh (fun _ => ?_)); case hh => rfl
    | (with_reducible apply writeTraceCtl_touches); rfl
    | (with_reducible apply complete_touches); rfl
    | with_reducible split
    | with_reducible dsimp only

theorem execTraceTrigger_touches (id) (s : State) : ∃ u, execTraceTrigger id s = .next u ∧ Same 263310494142013030 s u := by
  unfold execTraceTrigger
  first | apply Touches.answer | apply Touches.answerWhen | (dsimp only; first | apply Touches.answer | apply Touches.answerWhen)
  try dsimp only
  repeat' first
    | with_reducible refine Touches.bind ?_ fun _ => ?_
    | with_reducible refine Touches.ite ?_ ?_
    | with_reducible exact Touches.pure _
    | with_reducible exact Touches.rd
    | (with_reducible refine performRow_touches _ _ _ _ _ ?hh (fun _ => ?_)); case hh => rfl
    | (with_reducible apply writeTraceCtl_touches); rfl
    | (with_reducible apply complete_touches); rfl
    | with_reducible split
    | with_reducible dsimp only

theorem execTraceRead_touches (id) (mem) (parity) (s : State) : ∃ u, execTraceRead id mem parity s = .next u ∧ Same 263029019299520103 s u := by
  unfold execTraceRead
  first | apply Touches.answer | apply Touches.answerWhen | (dsimp only; first | apply Touches.answer | apply Touches.answerWhen)
  try dsimp only
  repeat' first
    | with_reducible refine Touches.bind ?_ fun _ => ?_
    | with_reducible refine Touches.ite ?_ ?_
    | with_reducible exact Touches.pure _
    | with_reducible exact Touches.rd
    | (with_reducible apply Touches.addStop) <;> (first | with_reducible exact F.DEV_TRACE_PAR_CNT_CNT_window | rfl)
    | (with_reducible refine performRow_touches _ _ _ _ _ ?hh (fun _ => ?_)); case hh => rfl
    | (with_reducible apply lostWord_touches); rfl
    | (with_reducible apply raise_touches); rfl
    | (with_reducible apply writeBuffer_touches); rfl
    | (with_reducible apply complete_touches); rfl
    | with_reducible split
    | with_reducible dsimp only

theorem execCalibrate_touches (id) (s : State) : ∃ u, execCalibrate id s = .next u ∧ Same 263029019165302374 s u := by
  unfold execCalibrate
  first | apply Touches.answer | apply Touches.answerWhen | (dsimp only; first | apply Touches.answer | apply Touches.answerWhen)
  try dsimp only
  repeat' first
    | with_reducible refine Touches.bind ?_ fun _ => ?_
    | with_reducible refine Touches.ite ?_ ?_
    | with_reducible exact Touches.pure _
    | with_reducible exact Touches.rd
    | (with_reducible refine perform_touches _ _ _ _ ?hh (fun _ => ?_)); case hh => rfl
    | (with_reducible apply complete_touches); rfl
    | (with_reducible apply setInst_touches); rfl
    | (with_reducible apply Touches.emitM (M := 72057594037927936)) <;> rfl
    | with_reducible split
    | with_reducible dsimp only

theorem execCalEstimateDone_touches (n) (elem) (values) (s : State) : ∃ u, execCalEstimateDone n elem values s = .next u ∧ Same 265280818978987622 s u := by
  unfold execCalEstimateDone
  first | apply Touches.answer | apply Touches.answerWhen | (dsimp only; first | apply Touches.answer | apply Touches.answerWhen)
  try dsimp only
  repeat' first
    | with_reducible refine Touches.bind ?_ fun _ => ?_
    | with_reducible refine Touches.ite ?_ ?_
    | with_reducible exact Touches.pure _
    | with_reducible exact Touches.rd
    | (with_reducible apply estimateDone_touches); rfl
    | (with_reducible apply settle_touches); rfl
    | with_reducible split
    | with_reducible dsimp only

theorem execSkipIf_touches (id) (s : State) : ∃ u, execSkipIf id s = .next u ∧ Same 263029019165302374 s u := by
  unfold execSkipIf
  first | apply Touches.answer | apply Touches.answerWhen | (dsimp only; first | apply Touches.answer | apply Touches.answerWhen)
  try dsimp only
  repeat' first
    | with_reducible refine Touches.bind ?_ fun _ => ?_
    | with_reducible refine Touches.ite ?_ ?_
    | with_reducible exact Touches.pure _
    | with_reducible exact Touches.rd
    | (with_reducible refine perform_touches _ _ _ _ ?hh (fun _ => ?_)); case hh => rfl
    | (with_reducible apply setChain_touches); rfl
    | (with_reducible apply complete_touches); rfl
    | with_reducible split
    | with_reducible dsimp only

theorem execCreateRing_touches (id) (s : State) : ∃ u, execCreateRing id s = .next u ∧ Same 263029019165302374 s u := by
  unfold execCreateRing
  first | apply Touches.answer | apply Touches.answerWhen | (dsimp only; first | apply Touches.answer | apply Touches.answerWhen)
  try dsimp only
  repeat' first
    | with_reducible refine Touches.bind ?_ fun _ => ?_
    | with_reducible refine Touches.ite ?_ ?_
    | with_reducible exact Touches.pure _
    | with_reducible exact Touches.rd
    | (with_reducible refine perform_touches _ _ _ _ ?hh (fun _ => ?_)); case hh => rfl
    | (with_reducible apply complete_touches); rfl
    | (with_reducible apply Touches.emitM (M := 1099511627776)) <;> rfl
    | with_reducible split
    | with_reducible dsimp only

theorem execDeleteRing_touches (id) (s : State) : ∃ u, execDeleteRing id s = .next u ∧ Same 263029019165302374 s u := by
  unfold execDeleteRing
  first | apply Touches.answer | apply Touches.answerWhen | (dsimp only; first | apply Touches.answer | apply Touches.answerWhen)
  try dsimp only
  repeat' first
    | with_reducible refine Touches.bind ?_ fun _ => ?_
    | with_reducible refine Touches.ite ?_ ?_
    | with_reducible exact Touches.pure _
    | with_reducible exact Touches.rd
    | (with_reducible refine perform_touches _ _ _ _ ?hh (fun _ => ?_)); case hh => rfl
    | (with_reducible apply setInst_touches); rfl
    | (with_reducible apply abortAll_touches); rfl
    | with_reducible split
    | with_reducible dsimp only

theorem hostReject_touches (f) {L : Nat} (h : Nat.lor 144116287657738310 L = L) : Touches L (hostReject f) := by
  refine Touches.mono (L := 144116287657738310) ?_ h
  unfold hostReject
  try dsimp only
  repeat' first
    | with_reducible refine Touches.bind ?_ fun _ => ?_
    | with_reducible refine Touches.ite ?_ ?_
    | with_reducible exact Touches.pure _
    | with_reducible exact Touches.rd
    | (with_reducible apply Touches.setF) <;> (first | with_reducible exact F.HST_FN_STAT_CFG_REJECT_window _ | rfl)
    | (with_reducible apply raiseHost_touches); rfl
    | with_reducible split
    | with_reducible dsimp only

theorem writeFnCtl_touches (f) (enable) {L : Nat} (h : Nat.lor 263029019165302374 L = L) : Touches L (writeFnCtl f enable) := by
  refine Touches.mono (L := 263029019165302374) ?_ h
  unfold writeFnCtl
  try dsimp only
  repeat' first
    | with_reducible refine Touches.bind ?_ fun _ => ?_
    | with_reducible refine Touches.ite ?_ ?_
    | with_reducible exact Touches.pure _
    | with_reducible exact Touches.rd
    | (with_reducible apply Touches.setF) <;> (first | with_reducible exact F.HST_FN_CTL_ENABLE_window _ | with_reducible exact F.HST_FN_STAT_READY_window _ | rfl)
    | (with_reducible apply hostReject_touches); rfl
    | (with_reducible apply stopFunction_touches); rfl
    | (with_reducible apply settle_touches); rfl
    | (with_reducible apply Touches.emitM (M := 1099511627776)) <;> rfl
    | with_reducible split
    | with_reducible dsimp only

theorem execHstFnCtlWrite_touches (m) (f) (v) (s : State) : ∃ u, execHstFnCtlWrite m f v s = .next u ∧ Same 263029019165302374 s u := by
  unfold execHstFnCtlWrite
  first | apply Touches.answer | apply Touches.answerWhen | (dsimp only; first | apply Touches.answer | apply Touches.answerWhen)
  try dsimp only
  repeat' first
    | with_reducible refine Touches.bind ?_ fun _ => ?_
    | with_reducible refine Touches.ite ?_ ?_
    | with_reducible exact Touches.pure _
    | with_reducible exact Touches.rd
    | (with_reducible apply writeFnCtl_touches); rfl
    | with_reducible split
    | with_reducible dsimp only

theorem execFatalClear_touches (m) (f) (s : State) : ∃ u, execFatalClear m f s = .next u ∧ Same 64 s u := by
  unfold execFatalClear
  first | apply Touches.answer | apply Touches.answerWhen | (dsimp only; first | apply Touches.answer | apply Touches.answerWhen)
  try dsimp only
  repeat' first
    | with_reducible refine Touches.bind ?_ fun _ => ?_
    | with_reducible refine Touches.ite ?_ ?_
    | with_reducible exact Touches.pure _
    | with_reducible exact Touches.rd
    | (with_reducible apply Touches.setF) <;> (first | with_reducible exact F.HST_FN_STAT_FATAL_window _ | rfl)
    | with_reducible split
    | with_reducible dsimp only

theorem execFlr_touches (f) (s : State) : ∃ u, execFlr f s = .next u ∧ Same 263029019165851647 s u := by
  unfold execFlr
  first | apply Touches.answer | apply Touches.answerWhen | (dsimp only; first | apply Touches.answer | apply Touches.answerWhen)
  try dsimp only
  repeat' first
    | with_reducible refine Touches.bind ?_ fun _ => ?_
    | with_reducible refine Touches.ite ?_ ?_
    | with_reducible exact Touches.pure _
    | with_reducible exact Touches.rd
    | (with_reducible apply flrFunction_touches); rfl
    | with_reducible split
    | with_reducible dsimp only

theorem execD3hotEntry_touches (f) (s : State) : ∃ u, execD3hotEntry f s = .next u ∧ Same 1099511627776 s u := by
  unfold execD3hotEntry
  first | apply Touches.answer | apply Touches.answerWhen | (dsimp only; first | apply Touches.answer | apply Touches.answerWhen)
  try dsimp only
  repeat' first
    | with_reducible refine Touches.bind ?_ fun _ => ?_
    | with_reducible refine Touches.ite ?_ ?_
    | with_reducible exact Touches.pure _
    | with_reducible exact Touches.rd
    | (with_reducible apply Touches.emitM (M := 1099511627776)) <;> rfl
    | with_reducible split
    | with_reducible dsimp only

theorem execD0Return_touches (f) (s : State) : ∃ u, execD0Return f s = .next u ∧ Same 263029019165851647 s u := by
  unfold execD0Return
  first | apply Touches.answer | apply Touches.answerWhen | (dsimp only; first | apply Touches.answer | apply Touches.answerWhen)
  try dsimp only
  repeat' first
    | with_reducible refine Touches.bind ?_ fun _ => ?_
    | with_reducible refine Touches.ite ?_ ?_
    | with_reducible exact Touches.pure _
    | with_reducible exact Touches.rd
    | (with_reducible apply flrFunction_touches); rfl
    | with_reducible split
    | with_reducible dsimp only

theorem setLink_touches (p) (speed) (width) (pstate) {L : Nat} (h : Nat.lor 64 L = L) : Touches L (setLink p speed width pstate) := by
  refine Touches.mono (L := 64) ?_ h
  unfold setLink
  try dsimp only
  repeat' first
    | with_reducible refine Touches.bind ?_ fun _ => ?_
    | with_reducible refine Touches.ite ?_ ?_
    | with_reducible exact Touches.pure _
    | with_reducible exact Touches.rd
    | (with_reducible apply Touches.setF) <;> (first | with_reducible exact F.HST_LINK_STAT_SPEED_window _ | with_reducible exact F.HST_LINK_STAT_WIDTH_window _ | with_reducible exact F.HST_LINK_STAT_PSTATE_window _ | rfl)
    | with_reducible refine Touches.forAll fun _ => ?_
    | with_reducible split
    | with_reducible dsimp only

theorem flrPort_touches (p) {L : Nat} (h : Nat.lor 263029019165851647 L = L) : Touches L (flrPort p) := by
  refine Touches.mono (L := 263029019165851647) ?_ h
  unfold flrPort
  try dsimp only
  repeat' first
    | with_reducible refine Touches.bind ?_ fun _ => ?_
    | with_reducible refine Touches.ite ?_ ?_
    | with_reducible exact Touches.pure _
    | with_reducible exact Touches.rd
    | (with_reducible apply flrFunction_touches); rfl
    | with_reducible split
    | with_reducible dsimp only

theorem execPerstNAsserted_touches (p) (s : State) : ∃ u, execPerstNAsserted p s = .next u ∧ Same 263029019165851647 s u := by
  unfold execPerstNAsserted
  first | apply Touches.answer | apply Touches.answerWhen | (dsimp only; first | apply Touches.answer | apply Touches.answerWhen)
  try dsimp only
  repeat' first
    | with_reducible refine Touches.bind ?_ fun _ => ?_
    | with_reducible refine Touches.ite ?_ ?_
    | with_reducible exact Touches.pure _
    | with_reducible exact Touches.rd
    | (with_reducible apply setLink_touches); rfl
    | (with_reducible apply flrPort_touches); rfl
    | (with_reducible apply Touches.emitM (M := 67108864)) <;> rfl
    | with_reducible split
    | with_reducible dsimp only

theorem execPerstNReleased_touches (p) (s : State) : ∃ u, execPerstNReleased p s = .next u ∧ Same 1152921465922781183 s u := by
  unfold execPerstNReleased
  first | apply Touches.answer | apply Touches.answerWhen | (dsimp only; first | apply Touches.answer | apply Touches.answerWhen)
  try dsimp only
  repeat' first
    | with_reducible refine Touches.bind ?_ fun _ => ?_
    | with_reducible refine Touches.ite ?_ ?_
    | with_reducible exact Touches.pure _
    | with_reducible exact Touches.rd
    | (with_reducible apply wakePart_touches); rfl
    | (with_reducible apply Touches.emitM (M := 67108864)) <;> rfl
    | with_reducible split
    | with_reducible dsimp only

theorem execHstLinkUp_touches (p) (speed) (width) (s : State) : ∃ u, execHstLinkUp p speed width s = .next u ∧ Same 144116287657738310 s u := by
  unfold execHstLinkUp
  first | apply Touches.answer | apply Touches.answerWhen | (dsimp only; first | apply Touches.answer | apply Touches.answerWhen)
  try dsimp only
  repeat' first
    | with_reducible refine Touches.bind ?_ fun _ => ?_
    | with_reducible refine Touches.ite ?_ ?_
    | with_reducible exact Touches.pure _
    | with_reducible exact Touches.rd
    | (with_reducible apply setLink_touches); rfl
    | (with_reducible apply undegrade_touches); rfl
    | (with_reducible apply raise_touches); rfl
    | (with_reducible apply Touches.emitM (M := 67108864)) <;> rfl
    | with_reducible split
    | with_reducible dsimp only

theorem execHstLinkDown_touches (p) (s : State) : ∃ u, execHstLinkDown p s = .next u ∧ Same 263029019300069375 s u := by
  unfold execHstLinkDown
  first | apply Touches.answer | apply Touches.answerWhen | (dsimp only; first | apply Touches.answer | apply Touches.answerWhen)
  try dsimp only
  repeat' first
    | with_reducible refine Touches.bind ?_ fun _ => ?_
    | with_reducible refine Touches.ite ?_ ?_
    | with_reducible exact Touches.pure _
    | with_reducible exact Touches.rd
    | (with_reducible apply beginSingle_touches); rfl
    | (with_reducible apply setLink_touches); rfl
    | (with_reducible apply degrade_touches); rfl
    | (with_reducible apply flrPort_touches); rfl
    | (with_reducible apply raise_touches); rfl
    | (with_reducible apply endSingle_touches); rfl
    | with_reducible split
    | with_reducible dsimp only

theorem execPmeTurnOff_touches (p) (s : State) : ∃ u, execPmeTurnOff p s = .next u ∧ Same 839489771602943591 s u := by
  unfold execPmeTurnOff
  first | apply Touches.answer | apply Touches.answerWhen | (dsimp only; first | apply Touches.answer | apply Touches.answerWhen)
  try dsimp only
  repeat' first
    | with_reducible refine Touches.bind ?_ fun _ => ?_
    | with_reducible refine Touches.ite ?_ ?_
    | with_reducible exact Touches.pure _
    | with_reducible exact Touches.rd
    | (with_reducible apply setLink_touches); rfl
    | (with_reducible apply enterRetention_touches); rfl
    | (with_reducible apply holdRequest_touches); rfl
    | (with_reducible apply takeRequest_touches); rfl
    | (with_reducible apply Touches.emitM (M := 67108864)) <;> rfl
    | with_reducible split
    | with_reducible dsimp only

theorem execAspmL1Entry_touches (p) (s : State) : ∃ u, execAspmL1Entry p s = .next u ∧ Same 64 s u := by
  unfold execAspmL1Entry
  first | apply Touches.answer | apply Touches.answerWhen | (dsimp only; first | apply Touches.answer | apply Touches.answerWhen)
  try dsimp only
  repeat' first
    | with_reducible refine Touches.bind ?_ fun _ => ?_
    | with_reducible refine Touches.ite ?_ ?_
    | with_reducible exact Touches.pure _
    | with_reducible exact Touches.rd
    | (with_reducible apply setLink_touches); rfl
    | with_reducible split
    | with_reducible dsimp only

theorem sendPending_touches (f) {L : Nat} (h : Nat.lor 1099513724992 L = L) : Touches L (sendPending f) := by
  refine Touches.mono (L := 1099513724992) ?_ h
  unfold sendPending
  try dsimp only
  repeat' first
    | with_reducible refine Touches.bind ?_ fun _ => ?_
    | with_reducible refine Touches.ite ?_ ?_
    | with_reducible exact Touches.pure _
    | with_reducible exact Touches.rd
    | (with_reducible apply sendVector_touches); rfl
    | with_reducible refine Touches.forAll fun _ => ?_
    | (with_reducible apply Touches.emitM (M := 1099511627776)) <;> rfl
    | with_reducible split
    | with_reducible dsimp only

theorem execMsixUnmask_touches (f) (v) (s : State) : ∃ u, execMsixUnmask f v s = .next u ∧ Same 1099513724992 s u := by
  unfold execMsixUnmask
  first | apply Touches.answer | apply Touches.answerWhen | (dsimp only; first | apply Touches.answer | apply Touches.answerWhen)
  try dsimp only
  repeat' first
    | with_reducible refine Touches.bind ?_ fun _ => ?_
    | with_reducible refine Touches.ite ?_ ?_
    | with_reducible exact Touches.pure _
    | with_reducible exact Touches.rd
    | (with_reducible apply sendPending_touches); rfl
    | (with_reducible apply Touches.emitM (M := 1099511627776)) <;> rfl
    | with_reducible split
    | with_reducible dsimp only

theorem execSmbAlertResponse_touches (s : State) : ∃ u, execSmbAlertResponse s = .next u ∧ Same 69206016 s u := by
  unfold execSmbAlertResponse
  first | apply Touches.answer | apply Touches.answerWhen | (dsimp only; first | apply Touches.answer | apply Touches.answerWhen)
  try dsimp only
  repeat' first
    | with_reducible refine Touches.bind ?_ fun _ => ?_
    | with_reducible refine Touches.ite ?_ ?_
    | with_reducible exact Touches.pure _
    | with_reducible exact Touches.rd
    | (with_reducible apply Touches.emitM (M := 67108864)) <;> rfl
    | (with_reducible apply Touches.emitM (M := 2097152)) <;> rfl
    | with_reducible split
    | with_reducible dsimp only

theorem cacheError_touches (line) (inState) {L : Nat} (h : Nat.lor 551252524296281671 L = L) : Touches L (cacheError line inState) := by
  refine Touches.mono (L := 551252524296281671) ?_ h
  unfold cacheError
  try dsimp only
  repeat' first
    | with_reducible refine Touches.bind ?_ fun _ => ?_
    | with_reducible refine Touches.ite ?_ ?_
    | with_reducible exact Touches.pure _
    | with_reducible exact Touches.rd
    | (with_reducible apply raise_touches); rfl
    | (with_reducible apply outsideModel_touches); rfl
    | (with_reducible apply beginSingle_touches); rfl
    | (with_reducible apply Touches.emitM (M := 288230376151711744)) <;> rfl
    | with_reducible split
    | with_reducible dsimp only

theorem execCacheAccess_touches (id) (line) (write) (ecc) (inState) (s : State) : ∃ u, execCacheAccess id line write ecc inState s = .next u ∧ Same 1127713276599705167 s u := by
  unfold execCacheAccess
  first | apply Touches.answer | apply Touches.answerWhen | (dsimp only; first | apply Touches.answer | apply Touches.answerWhen)
  try dsimp only
  repeat' first
    | with_reducible refine Touches.bind ?_ fun _ => ?_
    | with_reducible refine Touches.ite ?_ ?_
    | with_reducible exact Touches.pure _
    | with_reducible exact Touches.rd
    | (with_reducible apply Touches.incStop) <;> (first | with_reducible exact F.CCH_ECC_CNT_CNT_window | rfl)
    | (with_reducible apply activateRow_touches); rfl
    | (with_reducible apply raise_touches); rfl
    | (with_reducible apply cacheError_touches); rfl
    | (with_reducible apply serveReq_touches); rfl
    | with_reducible split
    | with_reducible dsimp only

theorem failDevice_touches (rank) (device) {L : Nat} (h : Nat.lor 263022148144569943 L = L) : Touches L (failDevice rank device) := by
  refine Touches.mono (L := 263022148144569943) ?_ h
  unfold failDevice
  try dsimp only
  repeat' first
    | with_reducible refine Touches.bind ?_ fun _ => ?_
    | with_reducible refine Touches.ite ?_ ?_
    | with_reducible exact Touches.pure _
    | with_reducible exact Touches.rd
    | (with_reducible apply Touches.setF) <;> (first | with_reducible exact F.DRM_DEV_FAILED_MASK_window _ | with_reducible exact F.DRM_STAT_ERASURE_window | rfl)
    | (with_reducible apply outsideModel_touches); rfl
    | (with_reducible apply beginSingle_touches); rfl
    | (with_reducible apply raise_touches); rfl
    | (with_reducible apply degrade_touches); rfl
    | (with_reducible apply endSingle_touches); rfl
    | with_reducible split
    | with_reducible dsimp only

theorem dramCorrected_touches (e) {L : Nat} (h : Nat.lor 839482900447993431 L = L) : Touches L (dramCorrected e) := by
  refine Touches.mono (L := 839482900447993431) ?_ h
  unfold dramCorrected
  try dsimp only
  repeat' first
    | with_reducible refine Touches.bind ?_ fun _ => ?_
    | with_reducible refine Touches.ite ?_ ?_
    | with_reducible exact Touches.pure _
    | with_reducible exact Touches.rd
    | (with_reducible apply Touches.addWrap) <;> (first | with_reducible exact F.DRM_ECC_CNT_CNT_window | rfl)
    | (with_reducible apply raise_touches); rfl
    | (with_reducible apply failDevice_touches); rfl
    | with_reducible refine Touches.forAll fun _ => ?_
    | (with_reducible apply Touches.emitM (M := 576460752303423488)) <;> rfl
    | with_reducible split
    | with_reducible dsimp only

theorem reloadPackage_touches {L : Nat} (h : Nat.lor 144116287791956038 L = L) : Touches L (reloadPackage) := by
  refine Touches.mono (L := 144116287791956038) ?_ h
  unfold reloadPackage
  try dsimp only
  repeat' first
    | with_reducible refine Touches.bind ?_ fun _ => ?_
    | with_reducible refine Touches.ite ?_ ?_
    | with_reducible exact Touches.pure _
    | with_reducible exact Touches.rd
    | (with_reducible apply raise_touches); rfl
    | (with_reducible apply Touches.emitM (M := 134217728)) <;> rfl
    | with_reducible split
    | with_reducible dsimp only

theorem dramUncorrectable_touches (e) {L : Nat} (h : Nat.lor 857497334390980183 L = L) : Touches L (dramUncorrectable e) := by
  refine Touches.mono (L := 857497334390980183) ?_ h
  unfold dramUncorrectable
  try dsimp only
  repeat' first
    | with_reducible refine Touches.bind ?_ fun _ => ?_
    | with_reducible refine Touches.ite ?_ ?_
    | with_reducible exact Touches.pure _
    | with_reducible exact Touches.rd
    | (with_reducible apply Touches.setF) <;> (first | with_reducible exact F.DRM_LAST_ERR_LINE_window | rfl)
    | (with_reducible apply Touches.incStop) <;> (first | with_reducible exact F.DRM_UE_CNT_CNT_window | rfl)
    | (with_reducible apply raise_touches); rfl
    | (with_reducible apply climb_touches); rfl
    | (with_reducible apply reloadPackage_touches); rfl
    | (with_reducible apply outsideModel_touches); rfl
    | with_reducible refine Touches.forAll fun _ => ?_
    | (with_reducible apply Touches.emitM (M := 1073741824)) <;> rfl
    | (with_reducible apply Touches.emitM (M := 17592186044416)) <;> rfl
    | (with_reducible apply Touches.emitM (M := 576460752303423488)) <;> rfl
    | with_reducible split
    | with_reducible dsimp only

theorem dramError_touches (e) {L : Nat} (h : Nat.lor 857497334390980183 L = L) : Touches L (dramError e) := by
  refine Touches.mono (L := 857497334390980183) ?_ h
  unfold dramError
  try dsimp only
  repeat' first
    | with_reducible refine Touches.bind ?_ fun _ => ?_
    | with_reducible refine Touches.ite ?_ ?_
    | with_reducible exact Touches.pure _
    | with_reducible exact Touches.rd
    | (with_reducible apply dramCorrected_touches); rfl
    | (with_reducible apply dramUncorrectable_touches); rfl
    | with_reducible split
    | with_reducible dsimp only

theorem execCacheFillReturn_touches (bank) (err) (s : State) : ∃ u, execCacheFillReturn bank err s = .next u ∧ Same 1145727710542691935 s u := by
  unfold execCacheFillReturn
  first | apply Touches.answer | apply Touches.answerWhen | (dsimp only; first | apply Touches.answer | apply Touches.answerWhen)
  try dsimp only
  repeat' first
    | with_reducible refine Touches.bind ?_ fun _ => ?_
    | with_reducible refine Touches.ite ?_ ?_
    | with_reducible exact Touches.pure _
    | with_reducible exact Touches.rd
    | (with_reducible apply dramError_touches); rfl
    | (with_reducible apply endSingle_touches); rfl
    | (with_reducible apply touchLine_touches); rfl
    | (with_reducible apply issueVictim_touches); rfl
    | (with_reducible apply serveBank_touches); rfl
    | (with_reducible apply Touches.emitM (M := 288230376151711744)) <;> rfl
    | with_reducible split
    | with_reducible dsimp only

theorem execVictimWritebackDone_touches (line) (s : State) : ∃ u, execVictimWritebackDone line s = .next u ∧ Same 864691128455135240 s u := by
  unfold execVictimWritebackDone
  first | apply Touches.answer | apply Touches.answerWhen | (dsimp only; first | apply Touches.answer | apply Touches.answerWhen)
  try dsimp only
  repeat' first
    | with_reducible refine Touches.bind ?_ fun _ => ?_
    | with_reducible refine Touches.ite ?_ ?_
    | with_reducible exact Touches.pure _
    | with_reducible exact Touches.rd
    | (with_reducible apply Touches.addWrap) <;> (first | with_reducible exact F.CCH_WB_CNT_CNT_window | rfl)
    | (with_reducible apply serveBank_touches); rfl
    | (with_reducible apply issueVictim_touches); rfl
    | (with_reducible apply Touches.emitM (M := 288230376151711744)) <;> rfl
    | with_reducible split
    | with_reducible dsimp only

theorem startOp_touches (kind) {L : Nat} (h : Nat.lor 432346663809450062 L = L) : Touches L (startOp kind) := by
  refine Touches.mono (L := 432346663809450062) ?_ h
  unfold startOp
  try dsimp only
  repeat' first
    | with_reducible refine Touches.bind ?_ fun _ => ?_
    | with_reducible refine Touches.ite ?_ ?_
    | with_reducible exact Touches.pure _
    | with_reducible exact Touches.rd
    | (with_reducible apply Touches.setF) <;> (first | with_reducible exact F.CCH_STAT_OP_BUSY_window | with_reducible exact F.CCH_STAT_OP_REJECT_window | with_reducible exact F.CCH_OP_CTL_KIND_window | rfl)
    | (with_reducible apply raise_touches); rfl
    | (with_reducible apply Touches.emitM (M := 288230376151711744)) <;> rfl
    | with_reducible split
    | with_reducible dsimp only

theorem execCchOpClean_touches (m) (s : State) : ∃ u, execCchOpClean m s = .next u ∧ Same 432346663809450062 s u := by
  unfold execCchOpClean
  first | apply Touches.answer | apply Touches.answerWhen | (dsimp only; first | apply Touches.answer | apply Touches.answerWhen)
  try dsimp only
  repeat' first
    | with_reducible refine Touches.bind ?_ fun _ => ?_
    | with_reducible refine Touches.ite ?_ ?_
    | with_reducible exact Touches.pure _
    | with_reducible exact Touches.rd
    | (with_reducible apply startOp_touches); rfl
    | with_reducible split
    | with_reducible dsimp only

theorem execCchOpCleanInvalidate_touches (m) (s : State) : ∃ u, execCchOpCleanInvalidate m s = .next u ∧ Same 432346663809450062 s u := by
  unfold execCchOpCleanInvalidate
  first | apply Touches.answer | apply Touches.answerWhen | (dsimp only; first | apply Touches.answer | apply Touches.answerWhen)
  try dsimp only
  repeat' first
    | with_reducible refine Touches.bind ?_ fun _ => ?_
    | with_reducible refine Touches.ite ?_ ?_
    | with_reducible exact Touches.pure _
    | with_reducible exact Touches.rd
    | (with_reducible apply startOp_touches); rfl
    | with_reducible split
    | with_reducible dsimp only

theorem endOp_touches {L : Nat} (h : Nat.lor 432346663809450062 L = L) : Touches L (endOp) := by
  refine Touches.mono (L := 432346663809450062) ?_ h
  unfold endOp
  try dsimp only
  repeat' first
    | with_reducible refine Touches.bind ?_ fun _ => ?_
    | with_reducible refine Touches.ite ?_ ?_
    | with_reducible exact Touches.pure _
    | with_reducible exact Touches.rd
    | (with_reducible apply Touches.setF) <;> (first | with_reducible exact F.CCH_STAT_OP_BUSY_window | with_reducible exact F.CCH_OP_CTL_KIND_window | rfl)
    | (with_reducible apply raise_touches); rfl
    | (with_reducible apply Touches.emitM (M := 288230376151711744)) <;> rfl
    | with_reducible split
    | with_reducible dsimp only

theorem execCchOpDone_touches (s : State) : ∃ u, execCchOpDone s = .next u ∧ Same 1008807416112873550 s u := by
  unfold execCchOpDone
  first | apply Touches.answer | apply Touches.answerWhen | (dsimp only; first | apply Touches.answer | apply Touches.answerWhen)
  try dsimp only
  repeat' first
    | with_reducible refine Touches.bind ?_ fun _ => ?_
    | with_reducible refine Touches.ite ?_ ?_
    | with_reducible exact Touches.pure _
    | with_reducible exact Touches.rd
    | (with_reducible apply Touches.addWrap) <;> (first | with_reducible exact F.CCH_WB_CNT_CNT_window | rfl)
    | (with_reducible apply endOp_touches); rfl
    | (with_reducible apply serveBank_touches); rfl
    | with_reducible refine Touches.forAll fun _ => ?_
    | (with_reducible apply Touches.emitM (M := 288230376151711744)) <;> rfl
    | with_reducible split
    | with_reducible dsimp only

theorem cchReject_touches {L : Nat} (h : Nat.lor 144116287657738318 L = L) : Touches L (cchReject) := by
  refine Touches.mono (L := 144116287657738318) ?_ h
  unfold cchReject
  try dsimp only
  repeat' first
    | with_reducible refine Touches.bind ?_ fun _ => ?_
    | with_reducible refine Touches.ite ?_ ?_
    | with_reducible exact Touches.pure _
    | with_reducible exact Touches.rd
    | (with_reducible apply Touches.setF) <;> (first | with_reducible exact F.CCH_STAT_CFG_REJECT_window | rfl)
    | (with_reducible apply raise_touches); rfl
    | with_reducible split
    | with_reducible dsimp only

theorem writeCchCtl_touches (enable) {L : Nat} (h : Nat.lor 144116287657738318 L = L) : Touches L (writeCchCtl enable) := by
  refine Touches.mono (L := 144116287657738318) ?_ h
  unfold writeCchCtl
  try dsimp only
  repeat' first
    | with_reducible refine Touches.bind ?_ fun _ => ?_
    | with_reducible refine Touches.ite ?_ ?_
    | with_reducible exact Touches.pure _
    | with_reducible exact Touches.rd
    | (with_reducible apply Touches.setF) <;> (first | with_reducible exact F.CCH_CTL_ENABLE_window | with_reducible exact F.CCH_STAT_DRAINING_window | with_reducible exact F.CCH_STAT_BYPASS_window | rfl)
    | (with_reducible apply cchReject_touches); rfl
    | with_reducible split
    | with_reducible dsimp only

theorem execCchCtlWrite_touches (m) (v) (s : State) : ∃ u, execCchCtlWrite m v s = .next u ∧ Same 144116287657738318 s u := by
  unfold execCchCtlWrite
  first | apply Touches.answer | apply Touches.answerWhen | (dsimp only; first | apply Touches.answer | apply Touches.answerWhen)
  try dsimp only
  repeat' first
    | with_reducible refine Touches.bind ?_ fun _ => ?_
    | with_reducible refine Touches.ite ?_ ?_
    | with_reducible exact Touches.pure _
    | with_reducible exact Touches.rd
    | (with_reducible apply writeCchCtl_touches); rfl
    | with_reducible split
    | with_reducible dsimp only

theorem execCchDrainDone_touches (s : State) : ∃ u, execCchDrainDone s = .next u ∧ Same 432346663809450062 s u := by
  unfold execCchDrainDone
  first | apply Touches.answer | apply Touches.answerWhen | (dsimp only; first | apply Touches.answer | apply Touches.answerWhen)
  try dsimp only
  repeat' first
    | with_reducible refine Touches.bind ?_ fun _ => ?_
    | with_reducible refine Touches.ite ?_ ?_
    | with_reducible exact Touches.pure _
    | with_reducible exact Touches.rd
    | (with_reducible apply Touches.setF) <;> (first | with_reducible exact F.CCH_STAT_DRAINING_window | with_reducible exact F.CCH_STAT_BYPASS_window | rfl)
    | (with_reducible apply Touches.addWrap) <;> (first | with_reducible exact F.CCH_WB_CNT_CNT_window | rfl)
    | (with_reducible apply endOp_touches); rfl
    | (with_reducible apply raise_touches); rfl
    | (with_reducible apply Touches.emitM (M := 288230376151711744)) <;> rfl
    | with_reducible split
    | with_reducible dsimp only

theorem recentre_touches (c) (lane) (rd_) (wr) {L : Nat} (h : Nat.lor 16 L = L) : Touches L (recentre c lane rd_ wr) := by
  refine Touches.mono (L := 16) ?_ h
  unfold recentre
  try dsimp only
  repeat' first
    | with_reducible refine Touches.bind ?_ fun _ => ?_
    | with_reducible refine Touches.ite ?_ ?_
    | with_reducible exact Touches.pure _
    | with_reducible exact Touches.rd
    | (with_reducible apply Touches.setI) <;> (first | with_reducible exact F.DRM_DELAY_RD_window _ | with_reducible exact F.DRM_DELAY_WR_window _ | rfl)
    | with_reducible split
    | with_reducible dsimp only

theorem execDramRefresh_touches (c) (postponed) (steps) (s : State) : ∃ u, execDramRefresh c postponed steps s = .next u ∧ Same 576460752303423504 s u := by
  unfold execDramRefresh
  first | apply Touches.answer | apply Touches.answerWhen | (dsimp only; first | apply Touches.answer | apply Touches.answerWhen)
  try dsimp only
  repeat' first
    | with_reducible refine Touches.bind ?_ fun _ => ?_
    | with_reducible refine Touches.ite ?_ ?_
    | with_reducible exact Touches.pure _
    | with_reducible exact Touches.rd
    | (with_reducible apply Touches.setF) <;> (first | with_reducible exact F.DRM_REF_STAT_POSTPONED_window | rfl)
    | (with_reducible apply recentre_touches); rfl
    | with_reducible refine Touches.forAll fun _ => ?_
    | (with_reducible apply Touches.emitM (M := 576460752303423488)) <;> rfl
    | with_reducible split
    | with_reducible dsimp only

theorem execDramTempPoll_touches (temps) (s : State) : ∃ u, execDramTempPoll temps s = .next u ∧ Same 576460752303423504 s u := by
  unfold execDramTempPoll
  first | apply Touches.answer | apply Touches.answerWhen | (dsimp only; first | apply Touches.answer | apply Touches.answerWhen)
  try dsimp only
  repeat' first
    | with_reducible refine Touches.bind ?_ fun _ => ?_
    | with_reducible refine Touches.ite ?_ ?_
    | with_reducible exact Touches.pure _
    | with_reducible exact Touches.rd
    | (with_reducible apply Touches.setF) <;> (first | with_reducible exact F.DRM_REF_STAT_DOUBLE_window | rfl)
    | (with_reducible apply Touches.setI) <;> (first | with_reducible exact F.DRM_REF_STAT_TEMP_window | rfl)
    | (with_reducible apply Touches.emitM (M := 576460752303423488)) <;> rfl
    | with_reducible split
    | with_reducible dsimp only

theorem execDramPatrol_touches (errors) (s : State) : ∃ u, execDramPatrol errors s = .next u ∧ Same 857497334390980183 s u := by
  unfold execDramPatrol
  first | apply Touches.answer | apply Touches.answerWhen | (dsimp only; first | apply Touches.answer | apply Touches.answerWhen)
  try dsimp only
  repeat' first
    | with_reducible refine Touches.bind ?_ fun _ => ?_
    | with_reducible refine Touches.ite ?_ ?_
    | with_reducible exact Touches.pure _
    | with_reducible exact Touches.rd
    | (with_reducible apply Touches.incStop) <;> (first | with_reducible exact F.DRM_PATROL_CNT_CNT_window | rfl)
    | (with_reducible apply dramError_touches); rfl
    | with_reducible refine Touches.forAll fun _ => ?_
    | with_reducible split
    | with_reducible dsimp only

theorem execDramRetrain_touches (sweeps) (s : State) : ∃ u, execDramRetrain sweeps s = .next u ∧ Same 576460752571858960 s u := by
  unfold execDramRetrain
  first | apply Touches.answer | apply Touches.answerWhen | (dsimp only; first | apply Touches.answer | apply Touches.answerWhen)
  try dsimp only
  repeat' first
    | with_reducible refine Touches.bind ?_ fun _ => ?_
    | with_reducible refine Touches.ite ?_ ?_
    | with_reducible exact Touches.pure _
    | with_reducible exact Touches.rd
    | (with_reducible apply setDelays_touches); rfl
    | (with_reducible apply saveTraining_touches); rfl
    | (with_reducible apply Touches.emitM (M := 576460752303423488)) <;> rfl
    | with_reducible split
    | with_reducible dsimp only

theorem scrubError_touches (e) {L : Nat} (h : Nat.lor 263162885632925255 L = L) : Touches L (scrubError e) := by
  refine Touches.mono (L := 263162885632925255) ?_ h
  unfold scrubError
  try dsimp only
  repeat' first
    | with_reducible refine Touches.bind ?_ fun _ => ?_
    | with_reducible refine Touches.ite ?_ ?_
    | with_reducible exact Touches.pure _
    | with_reducible exact Touches.rd
    | (with_reducible apply Touches.incStop) <;> (first | with_reducible exact F.SEQ_CS_ECC_CNT_CNT_window | with_reducible exact F.SRV_ECC_CNT_CNT_window _ | rfl)
    | (with_reducible apply raise_touches); rfl
    | (with_reducible apply loadTables_touches); rfl
    | (with_reducible apply romTables_touches); rfl
    | (with_reducible apply engineFault_touches); rfl
    | (with_reducible apply raiseBay_touches); rfl
    | with_reducible refine Touches.forAll fun _ => ?_
    | (with_reducible apply Touches.emitM (M := 144115188075855872)) <;> rfl
    | with_reducible split
    | with_reducible dsimp only

theorem execOnchipScrub_touches (errors) (s : State) : ∃ u, execOnchipScrub errors s = .next u ∧ Same 263162885632925255 s u := by
  unfold execOnchipScrub
  first | apply Touches.answer | apply Touches.answerWhen | (dsimp only; first | apply Touches.answer | apply Touches.answerWhen)
  try dsimp only
  repeat' first
    | with_reducible refine Touches.bind ?_ fun _ => ?_
    | with_reducible refine Touches.ite ?_ ?_
    | with_reducible exact Touches.pure _
    | with_reducible exact Touches.rd
    | (with_reducible apply scrubError_touches); rfl
    | with_reducible refine Touches.forAll fun _ => ?_
    | with_reducible split
    | with_reducible dsimp only

theorem putThread_touches (ofEvent) (n) (t) {L : Nat} (h : Nat.lor 144115188075855876 L = L) : Touches L (putThread ofEvent n t) := by
  refine Touches.mono (L := 144115188075855876) ?_ h
  unfold putThread
  try dsimp only
  repeat' first
    | with_reducible refine Touches.bind ?_ fun _ => ?_
    | with_reducible refine Touches.ite ?_ ?_
    | with_reducible exact Touches.pure _
    | with_reducible exact Touches.rd
    | (with_reducible apply showThreads_touches); rfl
    | (with_reducible apply Touches.emitM (M := 144115188075855872)) <;> rfl
    | with_reducible split
    | with_reducible dsimp only

theorem applyPend_touches (inst) (p) {L : Nat} (h : Nat.lor 1297042190311096390 L = L) : Touches L (applyPend inst p) := by
  refine Touches.mono (L := 1297042190311096390) ?_ h
  unfold applyPend
  try dsimp only
  repeat' first
    | with_reducible refine Touches.bind ?_ fun _ => ?_
    | with_reducible refine Touches.ite ?_ ?_
    | with_reducible exact Touches.pure _
    | with_reducible exact Touches.rd
    | (with_reducible apply raise_touches); rfl
    | (with_reducible apply complete_touches); rfl
    | (with_reducible apply Touches.emitM (M := 1152921504606846976)) <;> rfl
    | with_reducible split
    | with_reducible dsimp only

theorem release_touches (t) {L : Nat} (h : Nat.lor 1585272566462808134 L = L) : Touches L (release t) := by
  refine Touches.mono (L := 1585272566462808134) ?_ h
  unfold release
  try dsimp only
  repeat' first
    | with_reducible refine Touches.bind ?_ fun _ => ?_
    | with_reducible refine Touches.ite ?_ ?_
    | with_reducible exact Touches.pure _
    | with_reducible exact Touches.rd
    | (with_reducible apply Touches.addWrap) <;> (first | with_reducible exact F.SEQ_COMMIT_CNT_CNT_window | rfl)
    | (with_reducible apply applyPend_touches); rfl
    | (with_reducible apply endSingle_touches); rfl
    | with_reducible refine Touches.forAll fun _ => ?_
    | (with_reducible apply Touches.emitM (M := 288230376151711744)) <;> rfl
    | with_reducible split
    | with_reducible dsimp only

theorem microcodeFault_touches (ofEvent) (n) {L : Nat} (h : Nat.lor 144120685704249414 L = L) : Touches L (microcodeFault ofEvent n) := by
  refine Touches.mono (L := 144120685704249414) ?_ h
  unfold microcodeFault
  try dsimp only
  repeat' first
    | with_reducible refine Touches.bind ?_ fun _ => ?_
    | with_reducible refine Touches.ite ?_ ?_
    | with_reducible exact Touches.pure _
    | with_reducible exact Touches.rd
    | (with_reducible apply Touches.setF) <;> (first | with_reducible exact F.SEQ_DISPATCH_EV_ENABLED_window _ | rfl)
    | (with_reducible apply raise_touches); rfl
    | (with_reducible apply putThread_touches); rfl
    | (with_reducible apply complete_touches); rfl
    | with_reducible split
    | with_reducible dsimp only

theorem commitThread_touches (t) {L : Nat} (h : Nat.lor 1585272566462808134 L = L) : Touches L (commitThread t) := by
  refine Touches.mono (L := 1585272566462808134) ?_ h
  unfold commitThread
  try dsimp only
  repeat' first
    | with_reducible refine Touches.bind ?_ fun _ => ?_
    | with_reducible refine Touches.ite ?_ ?_
    | with_reducible exact Touches.pure _
    | with_reducible exact Touches.rd
    | (with_reducible apply Touches.incStop) <;> (first | with_reducible exact F.SEQ_CONFLICT_CNT_CNT_window | rfl)
    | (with_reducible apply setInst_touches); rfl
    | (with_reducible apply release_touches); rfl
    | with_reducible split
    | with_reducible dsimp only

theorem runThread_touches (ofEvent) (n) (desc) (k) (t) {L : Nat} (h : Nat.lor 1585272566462808134 L = L) : Touches L (runThread ofEvent n desc k t) := by
  refine Touches.mono (L := 1585272566462808134) ?_ h
  clear h
  induction k generalizing t with
  | zero =>
    rw [runThread]
    try dsimp only
    repeat' first
      | with_reducible refine Touches.bind ?_ fun _ => ?_
      | with_reducible refine Touches.ite ?_ ?_
      | with_reducible exact Touches.pure _
      | with_reducible exact Touches.rd
      | (with_reducible apply Touches.incStop) <;> (first | with_reducible exact F.SEQ_CONFLICT_CNT_CNT_window | rfl)
      | (with_reducible apply putThread_touches); rfl
      | (with_reducible apply microcodeFault_touches); rfl
      | (with_reducible apply commitThread_touches); rfl
      | (with_reducible apply release_touches); rfl
      | with_reducible split
      | with_reducible dsimp only
  | succ k ih =>
    rw [runThread]
    try dsimp only
    repeat' first
      | with_reducible refine Touches.bind ?_ fun _ => ?_
      | with_reducible refine Touches.ite ?_ ?_
      | with_reducible exact Touches.pure _
      | with_reducible exact Touches.rd
      | (with_reducible apply Touches.incStop) <;> (first | with_reducible exact F.SEQ_CONFLICT_CNT_CNT_window | rfl)
      | (with_reducible apply putThread_touches); rfl
      | (with_reducible apply microcodeFault_touches); rfl
      | (with_reducible apply commitThread_touches); rfl
      | (with_reducible apply release_touches); rfl
      | with_reducible apply ih
      | with_reducible split
      | with_reducible dsimp only

theorem execRoutineResume_touches (ofEvent) (n) (q) (t) (replies) (s : State) : ∃ u, execRoutineResume ofEvent n q t replies s = .next u ∧ Same 1704180899923861094 s u := by
  unfold execRoutineResume
  first | apply Touches.answer | apply Touches.answerWhen | (dsimp only; first | apply Touches.answer | apply Touches.answerWhen)
  try dsimp only
  repeat' first
    | with_reducible refine Touches.bind ?_ fun _ => ?_
    | with_reducible refine Touches.ite ?_ ?_
    | with_reducible exact Touches.pure _
    | with_reducible exact Touches.rd
    | (with_reducible apply runThread_touches); rfl
    | (with_reducible apply settle_touches); rfl
    | with_reducible split
    | with_reducible dsimp only

theorem execEventRoutineDispatch_touches (q) (t) (s : State) : ∃ u, execEventRoutineDispatch q t s = .next u ∧ Same 144115188142964740 s u := by
  unfold execEventRoutineDispatch
  first | apply Touches.answer | apply Touches.answerWhen | (dsimp only; first | apply Touches.answer | apply Touches.answerWhen)
  try dsimp only
  repeat' first
    | with_reducible refine Touches.bind ?_ fun _ => ?_
    | with_reducible refine Touches.ite ?_ ?_
    | with_reducible exact Touches.pure _
    | with_reducible exact Touches.rd
    | (with_reducible apply Touches.setF) <;> (first | with_reducible exact F.SEQ_EV_QUEUED_NUM_window | rfl)
    | (with_reducible apply putThread_touches); rfl
    | (with_reducible apply Touches.emitM (M := 67108864)) <;> rfl
    | (with_reducible apply Touches.emitM (M := 144115188075855872)) <;> rfl
    | with_reducible split
    | with_reducible dsimp only

theorem countRestart_touches (q) {L : Nat} (h : Nat.lor 144120685704249414 L = L) : Touches L (countRestart q) := by
  refine Touches.mono (L := 144120685704249414) ?_ h
  unfold countRestart
  try dsimp only
  repeat' first
    | with_reducible refine Touches.bind ?_ fun _ => ?_
    | with_reducible refine Touches.ite ?_ ?_
    | with_reducible exact Touches.pure _
    | with_reducible exact Touches.rd
    | (with_reducible apply Touches.setF) <;> (first | with_reducible exact F.SEQ_FAILED_MASK_window | with_reducible exact F.SEQ_STAT_FAILED_NUM_window | rfl)
    | (with_reducible apply Touches.incStop) <;> (first | with_reducible exact F.SEQ_RESTART_CNT_CNT_window | rfl)
    | (with_reducible apply raise_touches); rfl
    | (with_reducible apply degrade_touches); rfl
    | with_reducible refine Touches.forAll fun _ => ?_
    | (with_reducible apply Touches.emitM (M := 144115188075855872)) <;> rfl
    | (with_reducible apply Touches.emitM (M := 4398046511104)) <;> rfl
    | with_reducible split
    | with_reducible dsimp only

theorem restartPhase_touches (q) (ofEvent) (n) {L : Nat} (h : Nat.lor 263026546191081031 L = L) : Touches L (restartPhase q ofEvent n) := by
  refine Touches.mono (L := 263026546191081031) ?_ h
  unfold restartPhase
  try dsimp only
  repeat' first
    | with_reducible refine Touches.bind ?_ fun _ => ?_
    | with_reducible refine Touches.ite ?_ ?_
    | with_reducible exact Touches.pure _
    | with_reducible exact Touches.rd
    | (with_reducible apply raise_touches); rfl
    | (with_reducible apply countRestart_touches); rfl
    | (with_reducible apply beginSingle_touches); rfl
    | (with_reducible apply putThread_touches); rfl
    | with_reducible split
    | with_reducible dsimp only

theorem execSeqFault_touches (q) (kind) (ofEvent) (n) (addr) (s : State) : ∃ u, execSeqFault q kind ofEvent n addr s = .next u ∧ Same 263167283679436359 s u := by
  unfold execSeqFault
  first | apply Touches.answer | apply Touches.answerWhen | (dsimp only; first | apply Touches.answer | apply Touches.answerWhen)
  try dsimp only
  repeat' first
    | with_reducible refine Touches.bind ?_ fun _ => ?_
    | with_reducible refine Touches.ite ?_ ?_
    | with_reducible exact Touches.pure _
    | with_reducible exact Touches.rd
    | (with_reducible apply Touches.incStop) <;> (first | with_reducible exact F.SEQ_CS_ECC_CNT_CNT_window | rfl)
    | (with_reducible apply raise_touches); rfl
    | (with_reducible apply scrubError_touches); rfl
    | (with_reducible apply restartPhase_touches); rfl
    | (with_reducible apply outsideModel_touches); rfl
    | (with_reducible apply Touches.emitM (M := 144115188075855872)) <;> rfl
    | with_reducible split
    | with_reducible dsimp only

theorem execSeqWatchdog_touches (ofEvent) (n) (s : State) : ∃ u, execSeqWatchdog ofEvent n s = .next u ∧ Same 263029019165302374 s u := by
  unfold execSeqWatchdog
  first | apply Touches.answer | apply Touches.answerWhen | (dsimp only; first | apply Touches.answer | apply Touches.answerWhen)
  try dsimp only
  repeat' first
    | with_reducible refine Touches.bind ?_ fun _ => ?_
    | with_reducible refine Touches.ite ?_ ?_
    | with_reducible exact Touches.pure _
    | with_reducible exact Touches.rd
    | (with_reducible apply raise_touches); rfl
    | (with_reducible apply putThread_touches); rfl
    | (with_reducible apply countRestart_touches); rfl
    | (with_reducible apply microcodeFault_touches); rfl
    | (with_reducible apply settle_touches); rfl
    | with_reducible split
    | with_reducible dsimp only

theorem execDbgChal_touches (key) (s : State) : ∃ u, execDbgChal key s = .next u ∧ Same 543162368 s u := by
  unfold execDbgChal
  first | apply Touches.answer | apply Touches.answerWhen | (dsimp only; first | apply Touches.answer | apply Touches.answerWhen)
  try dsimp only
  repeat' first
    | with_reducible refine Touches.bind ?_ fun _ => ?_
    | with_reducible refine Touches.ite ?_ ?_
    | with_reducible exact Touches.pure _
    | with_reducible exact Touches.rd
    | (with_reducible apply freeValue_touches); rfl
    | (with_reducible apply Touches.emitM (M := 536870912)) <;> rfl
    | (with_reducible apply Touches.emitM (M := 2097152)) <;> rfl
    | with_reducible split
    | with_reducible dsimp only

theorem execDbgResp_touches (key) (pub) (sig) (s : State) : ∃ u, execDbgResp key pub sig s = .next u ∧ Same 144116288194609350 s u := by
  unfold execDbgResp
  first | apply Touches.answer | apply Touches.answerWhen | (dsimp only; first | apply Touches.answer | apply Touches.answerWhen)
  try dsimp only
  repeat' first
    | with_reducible refine Touches.bind ?_ fun _ => ?_
    | with_reducible refine Touches.ite ?_ ?_
    | with_reducible exact Touches.pure _
    | with_reducible exact Touches.rd
    | (with_reducible apply Touches.setF) <;> (first | with_reducible exact F.SEC_DBG_STAT_UNLOCKED_window | with_reducible exact F.SEC_DBG_STAT_KEY_window | with_reducible exact F.SEC_DBG_STAT_FAILS_window | with_reducible exact F.SEC_DBG_STAT_LOCKOUT_window | rfl)
    | (with_reducible apply raise_touches); rfl
    | (with_reducible apply Touches.emitM (M := 536870912)) <;> rfl
    | with_reducible split
    | with_reducible dsimp only

theorem readReg_touches (m) (a) {L : Nat} (h : Nat.lor 33554432 L = L) : Touches L (readReg m a) := by
  refine Touches.mono (L := 33554432) ?_ h
  unfold readReg
  try dsimp only
  repeat' first
    | with_reducible refine Touches.bind ?_ fun _ => ?_
    | with_reducible refine Touches.ite ?_ ?_
    | with_reducible exact Touches.pure _
    | with_reducible exact Touches.rd
    | (with_reducible apply Touches.emitM (M := 33554432)) <;> rfl
    | with_reducible split
    | with_reducible dsimp only

theorem writeFields_touches (fs) (enabled) (bad) (reject) (v) {L : Nat} (h : Nat.lor 1048575 L = L) (hreject : Touches L (reject)) : Touches L (writeFields fs enabled bad reject v) := by
  unfold writeFields
  try dsimp only
  repeat' first
    | with_reducible refine Touches.bind ?_ fun _ => ?_
    | with_reducible refine Touches.ite ?_ ?_
    | with_reducible exact Touches.pure _
    | with_reducible exact Touches.rd
    | (with_reducible apply Touches.setF) <;> (first | rfl)
    | (with_reducible apply Touches.setF_any); exact sub (by rfl) h
    | with_reducible apply Touches.getF
    | with_reducible apply Touches.getI
    | with_reducible refine Touches.forAll fun _ => ?_
    | with_reducible exact hreject
    | with_reducible split
    | with_reducible dsimp only

theorem Block.reject_touches (b) {L : Nat} (h : Nat.lor 144116287658131070 L = L) : Touches L (Block.reject b) := by
  refine Touches.mono (L := 144116287658131070) ?_ h
  unfold Block.reject
  try dsimp only
  repeat' first
    | with_reducible refine Touches.bind ?_ fun _ => ?_
    | with_reducible refine Touches.ite ?_ ?_
    | with_reducible exact Touches.pure _
    | with_reducible exact Touches.rd
    | (with_reducible apply Touches.setF) <;> (first | with_reducible exact F.DRM_STAT_CFG_REJECT_window | with_reducible exact F.FLZ_STAT_CFG_REJECT_window | with_reducible exact F.MOT_STAT_CFG_REJECT_window _ | with_reducible exact F.STP_STAT_CFG_REJECT_window _ | with_reducible exact F.LDP_STAT_CFG_REJECT_window | with_reducible exact F.WRP_STAT_CFG_REJECT_window _ | with_reducible exact F.CAL_STAT_CFG_REJECT_window | with_reducible exact F.BAY_OPT_STAT_CFG_REJECT_window _ | rfl)
    | (with_reducible apply cchReject_touches); rfl
    | (with_reducible apply raise_touches); rfl
    | (with_reducible apply hostReject_touches); rfl
    | (with_reducible apply slotReject_touches); rfl
    | (with_reducible apply raiseMotor_touches); rfl
    | (with_reducible apply raiseAxis_touches); rfl
    | (with_reducible apply inputReject_touches); rfl
    | (with_reducible apply laneReject_touches); rfl
    | (with_reducible apply raiseWrp_touches); rfl
    | (with_reducible apply raiseOpu_touches); rfl
    | with_reducible split
    | with_reducible dsimp only

theorem plainWrite_touches (b) (off) (v) {L : Nat} (h : Nat.lor 144116287658786815 L = L) : Touches L (plainWrite b off v) := by
  refine Touches.mono (L := 144116287658786815) ?_ h
  unfold plainWrite
  try dsimp only
  repeat' first
    | with_reducible refine Touches.bind ?_ fun _ => ?_
    | with_reducible refine Touches.ite ?_ ?_
    | with_reducible exact Touches.pure _
    | with_reducible exact Touches.rd
    | (with_reducible refine writeFields_touches _ _ _ _ _ ?hh ?_); case hh => rfl
    | (with_reducible apply Block.reject_touches); rfl
    | with_reducible split
    | with_reducible dsimp only

theorem writeFlz_touches (off) (v) {L : Nat} (h : Nat.lor 144116425366175743 L = L) : Touches L (writeFlz off v) := by
  refine Touches.mono (L := 144116425366175743) ?_ h
  unfold writeFlz
  try dsimp only
  repeat' first
    | with_reducible refine Touches.bind ?_ fun _ => ?_
    | with_reducible refine Touches.ite ?_ ?_
    | with_reducible exact Touches.pure _
    | with_reducible exact Touches.rd
    | (with_reducible apply Touches.setF) <;> (first | with_reducible exact F.FLZ_CTL_ENABLE_window | rfl)
    | (with_reducible refine writeFields_touches _ _ _ _ _ ?hh ?_); case hh => rfl
    | (with_reducible apply Block.reject_touches); rfl
    | (with_reducible apply applyStrength_touches); rfl
    | (with_reducible apply applySpares_touches); rfl
    | (with_reducible apply settleZone_touches); rfl
    | (with_reducible apply plainWrite_touches); rfl
    | with_reducible split
    | with_reducible dsimp only

theorem writeDrm_touches (off) (v) {L : Nat} (h : Nat.lor 144116287658786815 L = L) : Touches L (writeDrm off v) := by
  refine Touches.mono (L := 144116287658786815) ?_ h
  unfold writeDrm
  try dsimp only
  repeat' first
    | with_reducible refine Touches.bind ?_ fun _ => ?_
    | with_reducible refine Touches.ite ?_ ?_
    | with_reducible exact Touches.pure _
    | with_reducible exact Touches.rd
    | with_reducible apply Touches.getF
    | with_reducible apply Touches.getI
    | (with_reducible apply plainWrite_touches); rfl
    | with_reducible split
    | with_reducible dsimp only

theorem writeEvt_touches (off) (v) {L : Nat} (h : Nat.lor 1099581882367 L = L) : Touches L (writeEvt off v) := by
  refine Touches.mono (L := 1099581882367) ?_ h
  unfold writeEvt
  try dsimp only
  repeat' first
    | with_reducible refine Touches.bind ?_ fun _ => ?_
    | with_reducible refine Touches.ite ?_ ?_
    | with_reducible exact Touches.pure _
    | with_reducible exact Touches.rd
    | (with_reducible refine writeFields_touches _ _ _ _ _ ?hh ?_); case hh => rfl
    | (with_reducible apply attend_touches); rfl
    | with_reducible split
    | with_reducible dsimp only

theorem writeCch_touches (off) (v) {L : Nat} (h : Nat.lor 432346663810498559 L = L) : Touches L (writeCch off v) := by
  refine Touches.mono (L := 432346663810498559) ?_ h
  unfold writeCch
  try dsimp only
  repeat' first
    | with_reducible refine Touches.bind ?_ fun _ => ?_
    | with_reducible refine Touches.ite ?_ ?_
    | with_reducible exact Touches.pure _
    | with_reducible exact Touches.rd
    | (with_reducible apply writeCchCtl_touches); rfl
    | (with_reducible apply startOp_touches); rfl
    | (with_reducible apply plainWrite_touches); rfl
    | with_reducible split
    | with_reducible dsimp only

theorem writeHost_touches (f) (off) (v) {L : Nat} (h : Nat.lor 263029019165851647 L = L) : Touches L (writeHost f off v) := by
  refine Touches.mono (L := 263029019165851647) ?_ h
  unfold writeHost
  try dsimp only
  repeat' first
    | with_reducible refine Touches.bind ?_ fun _ => ?_
    | with_reducible refine Touches.ite ?_ ?_
    | with_reducible exact Touches.pure _
    | with_reducible exact Touches.rd
    | (with_reducible apply writeFnCtl_touches); rfl
    | (with_reducible apply plainWrite_touches); rfl
    | with_reducible split
    | with_reducible dsimp only

theorem writeLif_touches (off) (v) {L : Nat} (h : Nat.lor 144116287927222271 L = L) : Touches L (writeLif off v) := by
  refine Touches.mono (L := 144116287927222271) ?_ h
  unfold writeLif
  try dsimp only
  repeat' first
    | with_reducible refine Touches.bind ?_ fun _ => ?_
    | with_reducible refine Touches.ite ?_ ?_
    | with_reducible exact Touches.pure _
    | with_reducible exact Touches.rd
    | (with_reducible apply plainWrite_touches); rfl
    | (with_reducible apply clearTamper_touches); rfl
    | with_reducible split
    | with_reducible dsimp only

theorem writeSlot_touches (e) (j) (off) (v) {L : Nat} (h : Nat.lor 181482090817126399 L = L) : Touches L (writeSlot e j off v) := by
  refine Touches.mono (L := 181482090817126399) ?_ h
  unfold writeSlot
  try dsimp only
  repeat' first
    | with_reducible refine Touches.bind ?_ fun _ => ?_
    | with_reducible refine Touches.ite ?_ ?_
    | with_reducible exact Touches.pure _
    | with_reducible exact Touches.rd
    | (with_reducible apply Touches.setF) <;> (first | with_reducible exact F.SRV_SLOT_STAT_CFG_REJECT_window _ _ | rfl)
    | (with_reducible apply writeSlotCtl_touches); rfl
    | (with_reducible apply writeLimit_touches); rfl
    | (with_reducible apply clearFault_touches); rfl
    | (with_reducible apply plainWrite_touches); rfl
    | with_reducible split
    | with_reducible dsimp only

theorem writeTrace_touches (e) (k) (off) (v) {L : Nat} (h : Nat.lor 144397762635497471 L = L) : Touches L (writeTrace e k off v) := by
  refine Touches.mono (L := 144397762635497471) ?_ h
  unfold writeTrace
  try dsimp only
  repeat' first
    | with_reducible refine Touches.bind ?_ fun _ => ?_
    | with_reducible refine Touches.ite ?_ ?_
    | with_reducible exact Touches.pure _
    | with_reducible exact Touches.rd
    | with_reducible apply Touches.getF
    | with_reducible apply Touches.getI
    | (with_reducible apply writeTraceCtl_touches); rfl
    | (with_reducible apply traceReject_touches); rfl
    | (with_reducible apply plainWrite_touches); rfl
    | with_reducible split
    | with_reducible dsimp only

theorem envValue_touches (env) (w) {L : Nat} (h : Nat.lor 4194304 L = L) : Touches L (envValue env w) := by
  refine Touches.mono (L := 4194304) ?_ h
  unfold envValue
  try dsimp only
  repeat' first
    | with_reducible refine Touches.bind ?_ fun _ => ?_
    | with_reducible refine Touches.ite ?_ ?_
    | with_reducible exact Touches.pure _
    | with_reducible exact Touches.rd
    | (with_reducible apply freeValue_touches); rfl
    | with_reducible split
    | with_reducible dsimp only

theorem writeMotor_touches (k) (off) (v) (env) {L : Nat} (h : Nat.lor 263022148015095807 L = L) : Touches L (writeMotor k off v env) := by
  refine Touches.mono (L := 263022148015095807) ?_ h
  unfold writeMotor
  try dsimp only
  repeat' first
    | with_reducible refine Touches.bind ?_ fun _ => ?_
    | with_reducible refine Touches.ite ?_ ?_
    | with_reducible exact Touches.pure _
    | with_reducible exact Touches.rd
    | (with_reducible apply Touches.setF) <;> (first | with_reducible exact F.MOT_CMD_CLASS_window _ | with_reducible exact F.MOT_CMD_TARGET_window _ | with_reducible exact F.MOT_WIRING_OFS_VALID_window _ | rfl)
    | (with_reducible refine writeFields_touches _ _ _ _ _ ?hh ?_); case hh => rfl
    | (with_reducible apply Block.reject_touches); rfl
    | (with_reducible apply envValue_touches); rfl
    | (with_reducible apply writeMotEnable_touches); rfl
    | (with_reducible apply writeMotCmd_touches); rfl
    | (with_reducible apply plainWrite_touches); rfl
    | with_reducible split
    | with_reducible dsimp only

theorem writeAxis_touches (a) (off) (v) {L : Nat} (h : Nat.lor 226359757416431615 L = L) : Touches L (writeAxis a off v) := by
  refine Touches.mono (L := 226359757416431615) ?_ h
  unfold writeAxis
  try dsimp only
  repeat' first
    | with_reducible refine Touches.bind ?_ fun _ => ?_
    | with_reducible refine Touches.ite ?_ ?_
    | with_reducible exact Touches.pure _
    | with_reducible exact Touches.rd
    | (with_reducible apply Touches.setF) <;> (first | with_reducible exact F.STP_CMD_BLEND_window _ | rfl)
    | (with_reducible apply writeStpCmd_touches); rfl
    | (with_reducible apply plainWrite_touches); rfl
    | with_reducible split
    | with_reducible dsimp only

theorem writeRfInput_touches (i) (off) (v) {L : Nat} (h : Nat.lor 218425681510399999 L = L) : Touches L (writeRfInput i off v) := by
  refine Touches.mono (L := 218425681510399999) ?_ h
  unfold writeRfInput
  try dsimp only
  repeat' first
    | with_reducible refine Touches.bind ?_ fun _ => ?_
    | with_reducible refine Touches.ite ?_ ?_
    | with_reducible exact Touches.pure _
    | with_reducible exact Touches.rd
    | (with_reducible apply writeInput_touches); rfl
    | (with_reducible apply plainWrite_touches); rfl
    | with_reducible split
    | with_reducible dsimp only

theorem writeLdp_touches (off) (v) {L : Nat} (h : Nat.lor 144116287658786815 L = L) : Touches L (writeLdp off v) := by
  refine Touches.mono (L := 144116287658786815) ?_ h
  unfold writeLdp
  try dsimp only
  repeat' first
    | with_reducible refine Touches.bind ?_ fun _ => ?_
    | with_reducible refine Touches.ite ?_ ?_
    | with_reducible exact Touches.pure _
    | with_reducible exact Touches.rd
    | (with_reducible apply Touches.setF) <;> (first | rfl)
    | (with_reducible apply Touches.setF_any); rfl
    | (with_reducible apply Block.reject_touches); rfl
    | (with_reducible apply plainWrite_touches); rfl
    | with_reducible refine Touches.forAll fun _ => ?_
    | with_reducible split
    | with_reducible dsimp only

theorem writeWrp_touches (k) (off) (v) {L : Nat} (h : Nat.lor 252273047459856383 L = L) : Touches L (writeWrp k off v) := by
  refine Touches.mono (L := 252273047459856383) ?_ h
  unfold writeWrp
  try dsimp only
  repeat' first
    | with_reducible refine Touches.bind ?_ fun _ => ?_
    | with_reducible refine Touches.ite ?_ ?_
    | with_reducible exact Touches.pure _
    | with_reducible exact Touches.rd
    | (with_reducible apply Touches.setF) <;> (first | with_reducible exact F.WRP_STAT_WR_DISABLED_window _ | with_reducible exact F.WRP_WSL_STAT_RESULT_window _ | rfl)
    | (with_reducible apply plainWrite_touches); rfl
    | (with_reducible apply stopWriteNow_touches); rfl
    | (with_reducible apply Block.reject_touches); rfl
    | (with_reducible apply trainLink_touches); rfl
    | (with_reducible apply Touches.emitM (M := 72057594037927936)) <;> rfl
    | with_reducible split
    | with_reducible dsimp only

theorem writeOpt_touches (k) (off) (v) {L : Nat} (h : Nat.lor 252308506709852159 L = L) : Touches L (writeOpt k off v) := by
  refine Touches.mono (L := 252308506709852159) ?_ h
  unfold writeOpt
  try dsimp only
  repeat' first
    | with_reducible refine Touches.bind ?_ fun _ => ?_
    | with_reducible refine Touches.ite ?_ ?_
    | with_reducible exact Touches.pure _
    | with_reducible exact Touches.rd
    | (with_reducible apply writeOptCmd_touches); rfl
    | (with_reducible apply plainWrite_touches); rfl
    | with_reducible split
    | with_reducible dsimp only

theorem writeBlock_touches (m) (b) (off) (v) (env) {L : Nat} (h : Nat.lor 558437007357902847 L = L) : Touches L (writeBlock m b off v env) := by
  refine Touches.mono (L := 558437007357902847) ?_ h
  unfold writeBlock
  try dsimp only
  repeat' first
    | with_reducible refine Touches.bind ?_ fun _ => ?_
    | with_reducible refine Touches.ite ?_ ?_
    | with_reducible exact Touches.pure _
    | with_reducible exact Touches.rd
    | (with_reducible apply abortCal_touches); rfl
    | (with_reducible apply writeModeReq_touches); rfl
    | (with_reducible apply writeEvt_touches); rfl
    | (with_reducible apply raise_touches); rfl
    | (with_reducible apply regAccessFault_touches); rfl
    | (with_reducible apply writeCch_touches); rfl
    | (with_reducible apply writeDrm_touches); rfl
    | (with_reducible apply writeFlz_touches); rfl
    | (with_reducible apply writeHost_touches); rfl
    | (with_reducible apply writeLif_touches); rfl
    | (with_reducible apply writeGain_touches); rfl
    | (with_reducible apply writeSlot_touches); rfl
    | (with_reducible apply writeTrace_touches); rfl
    | (with_reducible apply writeMotor_touches); rfl
    | (with_reducible apply writeAxis_touches); rfl
    | (with_reducible apply writeRfInput_touches); rfl
    | (with_reducible apply writeBind_touches); rfl
    | (with_reducible apply plainWrite_touches); rfl
    | (with_reducible apply writeWrp_touches); rfl
    | (with_reducible apply writeLdp_touches); rfl
    | (with_reducible apply writeOpt_touches); rfl
    | (with_reducible apply Touches.emitM (M := 72057594037927936)) <;> rfl
    | with_reducible split
    | with_reducible dsimp only

theorem writeReg_touches (m) (a) (v) (env) {L : Nat} (h : Nat.lor 558437007357902847 L = L) : Touches L (writeReg m a v env) := by
  refine Touches.mono (L := 558437007357902847) ?_ h
  unfold writeReg
  try dsimp only
  repeat' first
    | with_reducible refine Touches.bind ?_ fun _ => ?_
    | with_reducible refine Touches.ite ?_ ?_
    | with_reducible exact Touches.pure _
    | with_reducible exact Touches.rd
    | (with_reducible apply writeBlock_touches); rfl
    | with_reducible split
    | with_reducible dsimp only

theorem writeMsix_touches (f) (v) (word) (val) {L : Nat} (h : Nat.lor 1099513724992 L = L) : Touches L (writeMsix f v word val) := by
  refine Touches.mono (L := 1099513724992) ?_ h
  unfold writeMsix
  try dsimp only
  repeat' first
    | with_reducible refine Touches.bind ?_ fun _ => ?_
    | with_reducible refine Touches.ite ?_ ?_
    | with_reducible exact Touches.pure _
    | with_reducible exact Touches.rd
    | (with_reducible apply sendPending_touches); rfl
    | (with_reducible apply Touches.emitM (M := 1099511627776)) <;> rfl
    | with_reducible split
    | with_reducible dsimp only

theorem writeBar_touches (f) (a) (v) (env) {L : Nat} (h : Nat.lor 558437007357902847 L = L) : Touches L (writeBar f a v env) := by
  refine Touches.mono (L := 558437007357902847) ?_ h
  unfold writeBar
  try dsimp only
  repeat' first
    | with_reducible refine Touches.bind ?_ fun _ => ?_
    | with_reducible refine Touches.ite ?_ ?_
    | with_reducible exact Touches.pure _
    | with_reducible exact Touches.rd
    | (with_reducible apply writeBlock_touches); rfl
    | (with_reducible apply ringTail_touches); rfl
    | (with_reducible apply ringHead_touches); rfl
    | (with_reducible apply writeMsix_touches); rfl
    | with_reducible split
    | with_reducible dsimp only

theorem sameCycle_touches (b) (off) (v) (same) (write) {L : Nat} (h : Nat.lor 144116287658786815 L = L) (hwrite : ∀ i, Touches L (write i)) : Touches L (sameCycle b off v same write) := by
  unfold sameCycle
  try dsimp only
  repeat' first
    | with_reducible refine Touches.bind ?_ fun _ => ?_
    | with_reducible refine Touches.ite ?_ ?_
    | with_reducible exact Touches.pure _
    | with_reducible exact Touches.rd
    | (with_reducible apply Touches.setF) <;> (first | rfl)
    | (with_reducible apply Touches.setF_any); exact sub (by rfl) h
    | with_reducible apply Touches.getF
    | with_reducible apply Touches.getI
    | (with_reducible apply Block.reject_touches); exact sub (by rfl) h
    | with_reducible refine Touches.forAll fun _ => ?_
    | with_reducible apply hwrite
    | with_reducible split
    | with_reducible dsimp only

theorem execRegisterWrite_touches (m) (bar) (addr) (size) (op) (env) (s : State) : ∃ u, execRegisterWrite m bar addr size op env s = .next u ∧ Same 558437007391457279 s u := by
  unfold execRegisterWrite
  first | apply Touches.answer | apply Touches.answerWhen | (dsimp only; first | apply Touches.answer | apply Touches.answerWhen)
  try dsimp only
  repeat' first
    | with_reducible refine Touches.bind ?_ fun _ => ?_
    | with_reducible refine Touches.ite ?_ ?_
    | with_reducible exact Touches.pure _
    | with_reducible exact Touches.rd
    | (with_reducible apply regAccessFault_touches); rfl
    | (with_reducible apply readReg_touches); rfl
    | (with_reducible refine sameCycle_touches _ _ _ _ _ ?hh (fun _ => ?_)); case hh => rfl
    | (with_reducible apply writeReg_touches); rfl
    | (with_reducible apply writeBar_touches); rfl
    | (with_reducible apply Touches.emitM (M := 2097152)) <;> rfl
    | with_reducible split
    | with_reducible dsimp only

theorem readRegs_touches (m) (a) (n) {L : Nat} (h : Nat.lor 33554432 L = L) : Touches L (readRegs m a n) := by
  refine Touches.mono (L := 33554432) ?_ h
  clear h
  induction n generalizing a with
  | zero =>
    rw [readRegs]
    try dsimp only
    repeat' first
      | with_reducible refine Touches.bind ?_ fun _ => ?_
      | with_reducible refine Touches.ite ?_ ?_
      | with_reducible exact Touches.pure _
      | with_reducible exact Touches.rd
      | (with_reducible apply readReg_touches); rfl
      | with_reducible split
      | with_reducible dsimp only
  | succ n ih =>
    rw [readRegs]
    try dsimp only
    repeat' first
      | with_reducible refine Touches.bind ?_ fun _ => ?_
      | with_reducible refine Touches.ite ?_ ?_
      | with_reducible exact Touches.pure _
      | with_reducible exact Touches.rd
      | (with_reducible apply readReg_touches); rfl
      | with_reducible apply ih
      | with_reducible split
      | with_reducible dsimp only

theorem execRegRead_touches (id) (mem) (s : State) : ∃ u, execRegRead id mem s = .next u ∧ Same 263029019333074535 s u := by
  unfold execRegRead
  first | apply Touches.answer | apply Touches.answerWhen | (dsimp only; first | apply Touches.answer | apply Touches.answerWhen)
  try dsimp only
  repeat' first
    | with_reducible refine Touches.bind ?_ fun _ => ?_
    | with_reducible refine Touches.ite ?_ ?_
    | with_reducible exact Touches.pure _
    | with_reducible exact Touches.rd
    | (with_reducible refine perform_touches _ _ _ _ ?hh (fun _ => ?_)); case hh => rfl
    | (with_reducible apply lostWord_touches); rfl
    | (with_reducible apply readRegs_touches); rfl
    | (with_reducible apply writeBuffer_touches); rfl
    | (with_reducible apply complete_touches); rfl
    | with_reducible split
    | with_reducible dsimp only

theorem writeRegs_touches (m) (env) (a) (l) {L : Nat} (h : Nat.lor 558437007357902847 L = L) : Touches L (writeRegs m env a l) := by
  refine Touches.mono (L := 558437007357902847) ?_ h
  clear h
  induction l generalizing a with
  | nil =>
    rw [writeRegs]
    try dsimp only
    repeat' first
      | with_reducible refine Touches.bind ?_ fun _ => ?_
      | with_reducible refine Touches.ite ?_ ?_
      | with_reducible exact Touches.pure _
      | with_reducible exact Touches.rd
      | (with_reducible apply writeReg_touches); rfl
      | with_reducible split
      | with_reducible dsimp only
  | cons y l ih =>
    rw [writeRegs]
    try dsimp only
    repeat' first
      | with_reducible refine Touches.bind ?_ fun _ => ?_
      | with_reducible refine Touches.ite ?_ ?_
      | with_reducible exact Touches.pure _
      | with_reducible exact Touches.rd
      | (with_reducible apply writeReg_touches); rfl
      | with_reducible apply ih
      | with_reducible split
      | with_reducible dsimp only

theorem execRegWrite_touches (id) (mem) (values) (env) (s : State) : ∃ u, execRegWrite id mem values env s = .next u ∧ Same 558437007357902847 s u := by
  unfold execRegWrite
  first | apply Touches.answer | apply Touches.answerWhen | (dsimp only; first | apply Touches.answer | apply Touches.answerWhen)
  try dsimp only
  repeat' first
    | with_reducible refine Touches.bind ?_ fun _ => ?_
    | with_reducible refine Touches.ite ?_ ?_
    | with_reducible exact Touches.pure _
    | with_reducible exact Touches.rd
    | (with_reducible refine perform_touches _ _ _ _ ?hh (fun _ => ?_)); case hh => rfl
    | (with_reducible apply lostWord_touches); rfl
    | (with_reducible apply writeRegs_touches); rfl
    | (with_reducible apply complete_touches); rfl
    | with_reducible split
    | with_reducible dsimp only

theorem execWait_touches (id) (s : State) : ∃ u, execWait id s = .next u ∧ Same 263029019165302374 s u := by
  unfold execWait
  first | apply Touches.answer | apply Touches.answerWhen | (dsimp only; first | apply Touches.answer | apply Touches.answerWhen)
  try dsimp only
  repeat' first
    | with_reducible refine Touches.bind ?_ fun _ => ?_
    | with_reducible refine Touches.ite ?_ ?_
    | with_reducible exact Touches.pure _
    | with_reducible exact Touches.rd
    | (with_reducible refine perform_touches _ _ _ _ ?hh (fun _ => ?_)); case hh => rfl
    | (with_reducible apply holdInst_touches); rfl
    | with_reducible split
    | with_reducible dsimp only

theorem execWaitConditionMet_touches (id) (s : State) : ∃ u, execWaitConditionMet id s = .next u ∧ Same 263029019165302374 s u := by
  unfold execWaitConditionMet
  first | apply Touches.answer | apply Touches.answerWhen | (dsimp only; first | apply Touches.answer | apply Touches.answerWhen)
  try dsimp only
  repeat' first
    | with_reducible refine Touches.bind ?_ fun _ => ?_
    | with_reducible refine Touches.ite ?_ ?_
    | with_reducible exact Touches.pure _
    | with_reducible exact Touches.rd
    | (with_reducible apply complete_touches); rfl
    | (with_reducible apply settle_touches); rfl
    | with_reducible split
    | with_reducible dsimp only

theorem execWaitTimeout_touches (id) (s : State) : ∃ u, execWaitTimeout id s = .next u ∧ Same 263029019165302374 s u := by
  unfold execWaitTimeout
  first | apply Touches.answer | apply Touches.answerWhen | (dsimp only; first | apply Touches.answer | apply Touches.answerWhen)
  try dsimp only
  repeat' first
    | with_reducible refine Touches.bind ?_ fun _ => ?_
    | with_reducible refine Touches.ite ?_ ?_
    | with_reducible exact Touches.pure _
    | with_reducible exact Touches.rd
    | (with_reducible apply complete_touches); rfl
    | (with_reducible apply settle_touches); rfl
    | with_reducible split
    | with_reducible dsimp only

end Sys2Proof.Machine
end

