-- ==== Sys2Proof/Tests/Slice0.lean ====
section
/-! SUPPORT. Tests: commands that are not well formed, and states that meet the hypotheses of the statements. -/

-- One theorem after another: each `decide +kernel` waits for the kernel, and a hundred waiting at once ask for too many threads.
set_option Elab.async false

namespace Sys2Proof.Tests

open Sys2Proof.Machine

/-! ### Ill-formed commands, one for each check -/

theorem test_wf_lun_number : Instr.wf (.resetFlashChannel 0 [⟨256, 4096, 8, 8, []⟩]) = false := by decide
theorem test_wf_lun_pages : Instr.wf (.resetFlashChannel 0 [⟨0, 4096, 0, 8, []⟩]) = false := by decide
theorem test_wf_lun_blocks : Instr.wf (.resetFlashChannel 0 [⟨0, 4096, 8, 0, []⟩]) = false := by decide
theorem test_wf_dram_configuration : Instr.wf (.bootStepEnd ⟨0, 0, .dram 4 []⟩) = false := by decide
theorem test_wf_sweep_reads : Instr.wf (.bootStepEnd ⟨0, 0, .dram 0 [{ channel := 1, rank := 0, lane := 79, reads := [(-33, 0)], writes := [], vref := (0, 0) }]⟩) = false := by decide
theorem test_wf_sweep_writes : Instr.wf (.dramRetrain [{ channel := 0, rank := 1, lane := 0, reads := [], writes := [(0, 33)], vref := (0, 0) }]) = false := by decide
theorem test_wf_sweep_order : Instr.wf (.dramRetrain [{ channel := 0, rank := 1, lane := 0, reads := [(1, 0)], writes := [], vref := (0, 0) }]) = false := by decide
theorem test_wf_sweep_reference : Instr.wf (.dramRetrain [{ channel := 0, rank := 1, lane := 0, reads := [], writes := [], vref := (0, 256) }]) = false := by decide
theorem test_wf_sweep_reference_order : Instr.wf (.dramRetrain [{ channel := 0, rank := 1, lane := 0, reads := [], writes := [], vref := (2, 1) }]) = false := by decide
theorem test_wf_tested_lane : Instr.wf (.bootStepEnd ⟨0, 0, .tests [36] [] []⟩) = false := by decide
theorem test_wf_tested_decoder : Instr.wf (.bootStepEnd ⟨0, 0, .tests [] [16] []⟩) = false := by decide
theorem test_wf_tested_outer : Instr.wf (.bootStepEnd ⟨0, 0, .tests [] [] [4]⟩) = false := by decide
theorem test_wf_bay_count : Instr.wf (.bootStepEnd ⟨0, 0, .bays []⟩) = false := by decide
theorem test_wf_boot_mask : Instr.wf (.bootStepEnd ⟨2 ^ 32, 0, .none⟩) = false := by decide
theorem test_wf_boot_duration : Instr.wf (.bootStepEnd ⟨0, 2 ^ 32, .none⟩) = false := by decide
theorem test_wf_list_address : Instr.wf (.getTime 0 { sgl := [⟨2 ^ 64, 64, false, true, 0⟩] }) = false := by decide
theorem test_wf_list_length : Instr.wf (.getTime 0 { sgl := [⟨0, 2 ^ 32, false, true, 0⟩] }) = false := by decide
theorem test_wf_bad_lsa : Instr.wf (.getTime 0 { bad := [2 ^ 48] }) = false := by decide
theorem test_wf_spoke_burst : Instr.wf (.spokeReceived 0 { cands := [⟨0, 0, 0, [], [], [], [256]⟩], fly := ⟨0, 0, 0, [], [], [], []⟩ }) = false := by decide
theorem test_wf_spoke_flywheel : Instr.wf (.spokeReceived 0 { cands := [], fly := ⟨0, 0, 0, [-257], [], [], []⟩ }) = false := by decide
theorem test_wf_adc_mean : Instr.wf (.servoFrame 0 { opu3 := { s3 := { temp := 2 ^ 31 } } }) = false := by decide
theorem test_wf_pwm : Instr.wf (.pwmPeriod 0 { first := -(2 ^ 31) - 1, second := 0, counts := 0, speed := 0 }) = false := by decide
theorem test_wf_wiring : Instr.wf (.wiringStepEnd 0 { counts := 2 ^ 31, phaseU := 0, phaseV := 0, phaseW := 0 }) = false := by decide
theorem test_wf_frame_track : Instr.wf (.sectorFrame 0 { track := 2 ^ 18 }) = false := by decide
theorem test_wf_frame_sector : Instr.wf (.sectorFrame 0 { sector := 149 }) = false := by decide
theorem test_wf_frame_volume : Instr.wf (.sectorFrame 0 { vol := 4096 }) = false := by decide
theorem test_wf_frame_lsa : Instr.wf (.sectorFrame 0 { lsa := 2 ^ 48 }) = false := by decide
theorem test_wf_frame_spoke : Instr.wf (.sectorFrame 0 { parts := [{ spoke := 1024, first := 0 }] }) = false := by decide
theorem test_wf_frame_codes : Instr.wf (.sectorFrame 0 { parts := [{ spoke := 0, first := 0, codes := [128] }] }) = false := by decide
theorem test_wf_decode_track : Instr.wf (.rungDone 0 (2 ^ 18) 0) = false := by decide
theorem test_wf_decode_sector : Instr.wf (.rungDone 0 0 1024) = false := by decide
theorem test_wf_iteration_sector : Instr.wf (.decodeIterationDone 0 0 1024) = false := by decide
theorem test_wf_outer_track : Instr.wf (.outerRebuildDone 0 0 (2 ^ 18) 0) = false := by decide
theorem test_wf_outer_sector : Instr.wf (.outerRebuildDone 0 0 0 1024) = false := by decide
theorem test_wf_capture_triple : Instr.wf (.captureStart 0 (2219 * 512)) = false := by decide
theorem test_wf_no_signal_span : Instr.wf (.noSignalCheck 0 256) = false := by decide
theorem test_wf_write_entry : Instr.wf (.trackWriteStart 0 1024) = false := by decide
theorem test_wf_session_volume : Instr.wf (.destageSessionStart 4096) = false := by decide
theorem test_wf_age_volume : Instr.wf (.destageAgeExpiry 4096) = false := by decide
theorem test_wf_calibration_element : Instr.wf (.calibrationDue 0 1024) = false := by decide
theorem test_wf_estimate_values : Instr.wf (.calEstimateDone 1 0 [0, 0]) = false := by decide
theorem test_wf_estimate_element : Instr.wf (.calEstimateDone 0 1024 [0]) = false := by decide
theorem test_wf_erase_planes : Instr.wf (.flashEraseDone 0 (List.replicate 17 0)) = false := by decide
theorem test_wf_read_position : Instr.wf (.flashReadDone 0 0 16 none false) = false := by decide
theorem test_wf_scrub_disc : Instr.wf (.scrubDue (2 ^ 64)) = false := by decide
theorem test_wf_scrub_done : Instr.wf (.scrubComplete (2 ^ 64)) = false := by decide
theorem test_wf_dram_line : Instr.wf (.dramPatrol [{ line := 2 ^ 30, devices := [] }]) = false := by decide
theorem test_wf_cache_line : Instr.wf (.cacheAccess 0 (2 ^ 30) false .clean false) = false := by decide
theorem test_wf_victim_line : Instr.wf (.victimWritebackDone (2 ^ 30)) = false := by decide
theorem test_wf_package_version : Instr.wf (.stagePackage 0 {} { version := 2 ^ 32 } true) = false := by decide
theorem test_wf_package_security : Instr.wf (.stagePackage 0 {} { secVersion := 2 ^ 32 } true) = false := by decide
theorem test_wf_package_sections : Instr.wf (.stagePackage 0 {} { sections := List.replicate 9 (0, 0, 0, 0) } true) = false := by decide
theorem test_wf_package_revocation : Instr.wf (.stagePackage 0 {} { revoke := 16 } true) = false := by decide
theorem test_wf_trim : Instr.wf (.oscTrim (2 ^ 31)) = false := by decide
theorem test_wf_actuator : Instr.wf (.actSenseSample 0 0 (2 ^ 31)) = false := by decide
theorem test_wf_step_target : Instr.wf (.stpMove 0 (2 ^ 31) false) = false := by decide
theorem test_wf_step_pair : Instr.wf (.stpMovePair 0 0 (2 ^ 31) false) = false := by decide
theorem test_wf_link_speed : Instr.wf (.hstLinkUp 0 6 4) = false := by decide
theorem test_wf_link_width : Instr.wf (.hstLinkUp 0 5 3) = false := by decide
theorem test_wf_event_routine : Instr.wf (.seqWatchdog true 512) = false := by decide
theorem test_wf_temperature : Instr.wf (.dramTempPoll [0, 128]) = false := by decide
theorem test_wf_register_address : Instr.wf (.registerWrite .debug none (2 ^ 24) 4 .read []) = false := by decide
theorem test_wf_register_size : Instr.wf (.registerWrite .debug none 0 3 .read []) = false := by decide

/-! ### States and operands for the tests -/

/-- The state after reset with these register fields written. -/
def st (l : List (Fld × Nat)) : State := l.foldl (fun s p => s.put p.1 p.2) {}

/-- The same in ACTIVE, where every block is live. -/
def live (l : List (Fld × Nat)) : State := st ((F.DEV_MODE_STAT_MODE, mACTIVE) :: (F.DEV_MODE_STAT_TRANSITION, 0) :: l)

def p0 : Fin 2 := 0
def p1 : Fin 2 := 1
def b3 : Fin 4 := 3
def f0 : Fin 4 := 0
def f2 : Fin 4 := 2
def f3 : Fin 4 := 3
def k0 : Fin 8 := 0
def k3 : Fin 8 := 3
def k7 : Fin 8 := 7
def a0 : Fin 16 := 0
def a12 : Fin 16 := 12
def a15 : Fin 16 := 15
def i29 : Fin 32 := 29
def i31 : Fin 32 := 31
def n0 : Fin 36 := 0
def n35 : Fin 36 := 35
def j0 : Fin 64 := 0
def j49 : Fin 64 := 49
def j63 : Fin 64 := 63
def w0 : Word := 0
def w1 : Word := 1
def wF : Word := 0xFFFFFFFF
def mSeq : Master := .sequencer
def mAdm : Master := .function 0
def mDat : Master := .function 1
/-- 64 bytes with these fields: lowest bit and value. -/
def dsc (l : List (Nat × Nat)) : BitVec 512 := BitVec.ofNat 512 ((l.map (fun p => p.2 * 2 ^ p.1)).sum)
def sub63 : SubRing := { num := 63, base := 4096, k := 16, cq := 63, head := 65535, tail := 0 }
def com63 : ComRing := { num := 63, base := 8192, k := 4 }
/-- An Admin function of port 1 with one pair of rings. -/
def hostF : Vector HostFn 4 := (Vector.replicate 4 {}).set 2 { sqs := [sub63], cqs := [com63] }
/-- An instruction of that function's ring, dispatched. -/
def mk (op : Nat) (l : List (Nat × Nat)) : Inst :=
  { id := 5, fn := 2, sq := 63, cq := 63, desc := dsc ((0, op) :: (9, 1) :: (16, 65535) :: l), stage := .dispatched, cls := 1 }
/-- The state with the rings and one instruction. -/
def ons (i : Inst) (s : State) : State := { s with fns := hostF, insts := [i] }
/-- Host memory that answers. -/
def mOk : HostMem := {}
def rep0 : BootReport := ⟨0, 5, .none⟩
def rep1 : BootReport := ⟨1, 5, .none⟩
def nop0 : Instr := .nop 0
def sPend : State := { pending := [.nop 0, .nop 1] }
def sIdle : State := {}
def sOff : State := st [(F.DEV_MODE_STAT_MODE, 0)]
def sRst : State := st [(F.DEV_MODE_STAT_MODE, 1)]
def sRstLow : State := { sRst with chip := { pins := { resetN := false } } }
def sBoot2 : State := { boot := { step := 2 } }
def sHalt : State := { boot := { running := false, halted := some 2, entries := [⟨2, 1, 1, 0, 0, 32, 0⟩] } }
def sOn : State := st [(F.DEV_MODE_STAT_MODE, 5), (F.DEV_MODE_STAT_TRANSITION, 0)]
def sUnlock : State := { sOn with chip := { pins := { slathLocked := false } } }
def sRet : State := st [(F.DEV_MODE_STAT_MODE, 9)]
def sTran : State := st [(F.DEV_MODE_STAT_MODE, 5), (F.DEV_MODE_STAT_TRANSITION, 1)]
def sTrans : State := { sTran with chip := { transition := some ⟨mIDLE, 255⟩ } }
def tran0 : Transition := ⟨mIDLE, 255⟩
def sAct : State := st [(F.DEV_MODE_STAT_MODE, 6), (F.DEV_MODE_STAT_TRANSITION, 0)]
def sSafe : State := st [(F.DEV_MODE_STAT_MODE, 10)]
def sDrn : State := { st [(F.DEV_MODE_STAT_MODE, 7)] with chip := { drain := { active := true } } }
def sDrnTurn : State := { sDrn with motors := (Vector.replicate 8 {}).set 3 { atRest := false } }
def sL2 : State := { st [(F.DEV_MODE_STAT_MODE, 8), (F.HST_LINK_STAT_SPEED 2, 5)] with
  chip := { retaining := true, transition := some ⟨mRETENTION, 255⟩ }, dram := { selfRefresh := true } }
def sOpt : State := live [(F.BAY_OPT_CTL_ENABLE 7, 1), (F.BAY_OPT_STAT_FOCUS_LOCKED 7, 1), (F.BAY_LASER_LIM_MAX 7, 100)]
/-- The state with an OPU's sequence as `o`. -/
def onOptic (k : Fin 8) (o : Optic) (s : State) : State := { s with optics := s.optics.set k o }
def sLost : State := onOptic 7 { lostAt := some 9, backLayer := 7 } (live [(F.MOT_STAT_STATE 3, mtAT_SPEED), (F.BAY_LASER_LIM_MAX 7, 1), (F.BAY_OPT_CTL_ENABLE 7, 1)])
def sHop : State := onOptic 7 { phase := .hopHold } (live [])
def sHopL : State := onOptic 7 { phase := .hopLock } (live [])
def sPull : State := onOptic 0 { phase := .settling } (live [])
/-- A spoke of track 0, layer 0, zone 0 and side 0. -/
def cand0 : SpokeCand := ⟨1000000, 0b111100110101, 0, [], [], [], []⟩
def spoke0 : SpokeRead := { cands := [cand0], fly := cand0 }
def spokeNone : SpokeRead := { cands := [], fly := cand0 }
def sConf : State := live [(F.RCH_SPK_STAT_STATE 0, 1), (F.RCH_SPK_PERIOD_PERIOD 0, 1000000)]
def sLock : State := live [(F.RCH_SPK_STAT_STATE 0, 2), (F.RCH_SPK_PERIOD_PERIOD 0, 1000000)]
def sCoast : State := live [(F.RCH_SPK_STAT_STATE 0, 3), (F.RCH_SPK_PERIOD_PERIOD 0, 1000000), (F.RCH_SPK_STAT_MISS_RUN 0, 6)]
def sTrk : State := onOptic 7 { lostRun := some 64 } (live [(F.BAY_OPT_STAT_FOCUS_LOCKED 7, 1)])
/-- The state with an axis as `x`. -/
def onAxis (a : Fin 16) (x : Axis) (s : State) : State := { s with axes := s.axes.set a x }
def a13 : Fin 16 := 13
def sLand : State := onAxis 13 { seen := 200 } (live [(F.STP_STAT_STATE 13, 5)])
def sSlot : State := st [(F.SRV_SLOT_CTL_ENABLE 1 63, 1), (F.SRV_SLOT_STAT_FE_FAULT 1 63, 1)]
def sLimit : State := st [(F.SRV_LIM_LO_LIM 1 63, 5), (F.SRV_LIM_HI_LIM 1 63, 5)]
def sStop : State := live [(F.SRV_BLK_STAT_ENGINE_FAULT 1, 1)]
def frame0 : FrameInputs := {}
def frameEcc : FrameInputs := { ecc := .uncorrectable }
def frameOver : FrameInputs := { overrun := true }
def sRun : State := live []
def sPwm : State := live [(F.SRV_FRAME_CNT_CNT 1, 6)]
def sHold : State := { sStop with servos := (Vector.replicate 2 {}).set 1 { holding := true } }
/-- The state with a motor as `m`. -/
def onMotor (k : Fin 8) (m : Motor) (s : State) : State := { s with motors := s.motors.set k m }
def sMot : State := live [(F.MOT_CTL_ENABLE 3, 1), (F.MOT_CTL_ENABLE 7, 1)]
def sRamp : State := live [(F.MOT_CTL_ENABLE 7, 1), (F.MOT_STAT_STATE 7, 4)]
def sGates : State := onMotor 3 { gates := true } (live [])
def sCatch0 : State := onMotor 3 { catchCounts := -1 } (live [(F.MOT_STAT_STATE 3, 1), (F.MOT_OBS_BEMF_MIN 3, 1)])
def sCatch : State := onMotor 3 { catchCounts := 2, target := 19200, angleRef := true, gates := true, zeroCurrent := true }
  (live [(F.MOT_STAT_STATE 3, 1), (F.MOT_SPEED_RPM 3, 19200)])
def sZero : State := onMotor 0 { target := 19200 } (live [(F.MOT_STAT_STATE 0, 3), (F.MOT_WIRING_CHECKED 0, 1)])
def sRev : State := onMotor 7 { reverse := true } (live [(F.MOT_STAT_STATE 7, 6)])
def sChk : State := onMotor 7 { checkStep := 2 } (live [(F.MOT_STAT_STATE 7, 2), (F.MOT_WIRING_ENC_INV 7, 1)])
def wire20 : WiringStep := { counts := -5, phaseU := 20, phaseV := 20, phaseW := 20 }
def sIdx : State := live [(F.MOT_WIRING_OFS_VALID 3, 1), (F.MOT_WIRING_INDEX_OFS 3, 65535)]
def sNoIdx : State := onMotor 3 { sinceIndex := 2 * countsPerRev 3 } (live [])
def sSync : State := live [(F.MOT_STAT_STATE 0, 8)]
def pwm0 : PwmSample := { first := 0, second := 0, counts := -16385, speed := 0 }
def sAx : State := live [(F.STP_CTL_ENABLE 12, 1), (F.STP_CTL_ENABLE 13, 1), (F.STP_LIM_HI_LIM 12, 100), (F.STP_LIM_HI_LIM 13, 100)]
def sFull : State := onAxis 12 { queue := List.replicate 8 { target := 0 } } sAx
def sAxHome : State := onAxis 15 { homing := true } (live [(F.STP_CTL_ENABLE 15, 1), (F.STP_STAT_STATE 15, 2)])
def mv5 : Move := { target := 5 }
def sAxRun : State := onAxis 12 { queue := [mv5] } (sAx.put (F.STP_STAT_STATE 12) 1)
def sAxPause : State := onAxis 12 { queue := [mv5] } (sAx.put (F.STP_STAT_STATE 12) 2)
def sAxHi : State := onAxis 12 { corr := 1 } (sAx.put (F.STP_POS_POS 12) 100)
def sAxLo : State := onAxis 12 { corr := -1 } sAx
def sens1 : BaySensors := ⟨true, true, true, true⟩
def sSens : State := { st [(F.DEV_MODE_STAT_MODE, 4)] with bays := (Vector.replicate 4 {}).set 3 { samples := [sens1, sens1] } }
def sLaneIn : State := { live [(F.RCH_LANE_BIND_ENABLE 35, 1), (F.RCH_LANE_BIND_INPUT 35, 31), (F.BAY_STAT_STATE 3, bREADING), (F.RCH_SPK_STAT_STATE 7, 2)] with
  writers := (Vector.replicate 8 {}).set 7 { active := true, tLane := true } }
def frm0 : FrameRead := {}
def sLaneNo : State := live [(F.RCH_LANE_BIND_ENABLE 35, 1), (F.RCH_LANE_BIND_INPUT 35, 29), (F.BAY_STAT_STATE 3, bREADING), (F.RCH_SPK_STAT_STATE 7, 2), (F.LDP_CTL_ENABLE, 1)]
def sLaneF : State := { sLaneIn.put (F.BAY_OPT_STAT_FOCUS_LOCKED 7) 1 with now := 50000 }
def sLaneJ : State := sLaneIn.put (F.BAY_OPT_STAT_JUMP 7) 1
def sTake : State := { sLaneIn with inputs := (Vector.replicate 32 {}).set 31 { next := some (.takeover 35, 0) } }
def sFoc : State := { live [(F.BAY_OPT_STAT_FOCUS_LOCKED 7, 1)] with now := 50000 }
def sFoc120 : State := sFoc.put (F.RCH_IN_GAIN_PGA 31) 120
def sUnb : State := st [(F.RCH_LANE_BIND_INPUT 35, 31)]
def sUnbF : State := st [(F.RCH_LANE_BIND_INPUT 35, 31), (F.RCH_LANE_STAT_FAILED 35, 1)]
def sRdg : State := live [(F.BAY_STAT_STATE 3, bREADING), (F.LDP_CTL_ENABLE, 1)]
def fw7 : FrameWork := { opu := 7, track := 9, sector := 1, role := .inner, half := false, decoder := some 15 }
def sRdgF : State := { sRdg with frames := [fw7] }
def fwH : FrameWork := { fw7 with half := true }
def sRdgH : State := { sRdg with frames := [fwH] }



def fwR : FrameWork := { fw7 with rung := 2, top := 2, needs := [0] }
def fwR1 : FrameWork := { fw7 with rung := 1, top := 1, needs := [1] }
def fw6r : FrameWork := { fw7 with rung := 6, top := 7, again := true }
def fw7r : FrameWork := { fw7 with rung := 7, top := 7, again := false }
def fwB : FrameWork := { opu := 7, track := 1027, sector := 0, role := .outer, rung := 3, top := 3 }
def s_fwR : State := { sRdgF with frames := [fwR] }
def s_fwR1 : State := { sRdgF with frames := [fwR1] }
def s_fw6r : State := { sRdgF with frames := [fw6r] }
def s_fw7r : State := { sRdgF with frames := [fw7r] }


def sLm : State := live [(F.BAY_LASER_LIM_MAX 7, 1)]

def sWrA : State := { sLm with writers := (Vector.replicate 8 {}).set 7 { active := true, spt := 100, reach := 5700000, started := true, stopAt := some 1 } }
def disc9 : Disc := { id := 9, vol := 1, bay := some 3 }
def sess9 : Session := { disc := 9, vol := 1 }
def sWri : State := { sWrA.put (F.BAY_STAT_STATE 3) bWRITING with discs := [disc9], bays := (Vector.replicate 4 {}).set 3 { session := some sess9 } }
def bandOne : Band := { num := 256, frames := 18, track := dataStart 256 }
def discB : Disc := { disc9 with bands := [bandOne] }
/-- A block of which no sector is there, and one of which the last 16 of 18 are. -/
def sRbNo : State := { sRdg with discs := [discB], frames := [fwB] }
def sRb : State := { sRbNo with dram := { sectors := (List.range 16).map (fun j => { opu := 7, track := 1027, sector := j + 2 }) } }
def sBegin : State := { live [(F.BAY_LASER_LIM_MAX 7, 1), (F.BAY_STAT_STATE 3, bWRITING), (F.BAY_OPT_CTL_ENABLE 7, 1), (F.BAY_OPT_STAT_FOCUS_LOCKED 7, 1),
    (F.BAY_OPT_STAT_ON_TRACK 7, 1), (F.WRP_LVL_A_MARK 7 0, 5), (F.WRP_WSL_STAT_RESULT 7, 1), (F.WRP_STAT_STATE 7, 2), (F.WRP_CTL_ENABLE 7, 1),
    (F.WRP_STAT_WR_DISABLED 7, 0), (F.BAY_OPT_TARGET_TRACK 7, dataStart 256)] with
  discs := [discB], bays := (Vector.replicate 4 {}).set 3 { session := some sess9 }, writers := (Vector.replicate 8 {}).set 7 { trained := true } }
def sessS : Session := { disc := 9, vol := 1, suspended := true }
def sSus : State := { live [(F.BAY_STAT_STATE 3, bREADY), (F.CAL_THERM_LEVEL, 2)] with
  discs := [disc9], bays := (Vector.replicate 4 {}).set 3 { session := some sessS } }
def sCal : State := live [(F.CAL_CTL_ENABLE, 1), (F.BAY_STAT_STATE 3, bREADY)]
def sCalL : State := sCal.put (F.BAY_OPT_STAT_LAYER 7) 7
def sCalW : State := { sCalL.put (F.BAY_STAT_STATE 3) bWRITING with writers := (Vector.replicate 8 {}).set 7 { active := true } }
def sCalOff : State := live [(F.CAL_CTL_ENABLE, 0)]
def run11 : CalRun := { kind := 11, elem := 7 }
def run11b : CalRun := { kind := 11, elem := 7, estimates := [[16383]] }
def sRun0 : State := { sCal with cal := { runs := [run11] } }
def sRun0G : State := onMotor 7 { gates := true } sRun0
def sRun1 : State := { sCal with cal := { runs := [run11b] } }
def est0 : Int := 16383
def est1 : Int := 16381
def spd : Nat := sCal.get F.CAL_SPEED_UP
def sWinM : State := { sCal with cal := { entries := #v[0, 0, 0, spd + 1], windows := #v[1, 2, 3, 4] } }
def sWinL : State := { sCal.put F.CAL_SPEED_UP_WINDOWS 2 with cal := { entries := #v[0, 0, 0, spd] } }
def sTh3 : State := st [(F.CAL_THERM_LEVEL, 3)]
def sTh1 : State := st [(F.CAL_THERM_LEVEL, 1)]
def blkOpen : LBlock := { num := 3, state := .openData, filled := 15, row := 0 }
def blkFree : LBlock := { num := 4, state := .free }
def sFlz : State := { st [(F.FLZ_CTL_ENABLE, 1), (F.FLZ_GEOM_PPB, 16), (F.FLZ_GC_THR_LOW, 1)] with flash := { blocks := [blkOpen, blkFree] } }
def sFlzOff : State := st [(F.FLZ_CTL_ENABLE, 0)]
def blkEr : LBlock := { num := 3, state := .erasing, filled := 4, row := 2, members := [(255, 1023), (7, 0)] }
def pgUser : Page := { lblock := 3, row := 65535, pos := 15 }
def sEr : State := { st [(F.FLZ_GC_THR_LOW, 1)] with flash := { blocks := [blkEr, blkFree] }, nv := { sys := { pages := [pgUser] } } }
def blkRd : LBlock := { num := 3, state := .closed, t := 128 }
def sRdp : State := { st [] with flash := { blocks := [blkRd] }, nv := { sys := { pages := [pgUser] } } }
def cp0 : Copy := { src := (3, 0, 0) }
def sIdl : State := { st [(F.FLZ_CTL_ENABLE, 1), (F.FLZ_CTL_IDLE_GC, 1), (F.FLZ_GC_THR_HIGH, 2)] with now := 10000000000, flash := { blocks := [blkFree], copies := [cp0] } }
def iGate : Inst := { mk opWRITE [(128, 1), (256, 4096)] with stage := .gated, dw0 := 77 }
def sGate : State := ons iGate (st [])
def csBig : List CacheSector := [⟨1, 0, 1, 0, 0, 0, true, false, false, false, none, 1, 9, none⟩]
def sShut : State := { ons iGate (st [(F.FLZ_STAT_STATE, 3), (F.FLZ_FREEZE_DRAM_MAX, 0)]) with cache := csBig }
def lun255 : LunId := { lun := 255, pageBytes := 16384, pagesPerBlock := 16, blocks := 4 }
def sLun : State := { flash := { luns := [lun255] } }
def sReb : State := { st [(F.FLZ_STAT_REBUILDING, 1)] with flash := { rebuilding := [255, 0] } }
def sReb1 : State := { st [(F.FLZ_STAT_REBUILDING, 1)] with flash := { rebuilding := [255] } }
def ext0 : Extent := { vol := 1, ext := 0, written := 1#256 <<< 255 }
def dEnd : Disc := { id := 9, vol := 1, bay := some 3, nextPair := 255 }
def dOut : Disc := { id := 9, vol := 1, bay := none, nextPair := 255 }
def pgDue : List Page := [{ lblock := 3, row := 0, pos := 14, used := 1, slots := [{ vol := 1, lsa := 255, seq := 7, strand := 0, data := 5, ver := 7 }] },
  { lblock := 3, row := 0, pos := 15, kind := 0x10 }]
def sDue : State := { live [(F.FLZ_STAT_STATE, 1), (F.BAY_STAT_STATE 3, bREADING)] with nv := { sys := { pages := pgDue } }, extents := [ext0], discs := [dEnd], now := 2 ^ 40 }
def sDueOut : State := { sDue with discs := [dOut] }
def dScr : Disc := { dEnd with lastScrub := 1700000000 }
def dScrOut : Disc := { dOut with lastScrub := 1700000000 }
def sScr : State := { discs := [dScr], nv := { calValid := true, utc := 1700000000 + daySeconds * (policyIn [] pSCRUB_INTERVAL 0) } }
def sScrOut : State := { discs := [dScrOut], nv := { calValid := true, utc := 1700000000 + daySeconds * (policyIn [] pSCRUB_INTERVAL 0 - policyIn [] pSCRUB_NOTICE 0) } }
def due0 : Nat := 1700000000 + daySeconds * (policyIn [] pSCRUB_INTERVAL 0)
def dRun : Disc := { dEnd with scrubRunning := true }
def sScrRun : State := { discs := [dRun], requests := [⟨9, 1, 4⟩] }
def sRing : State := { st [(F.HST_FN_STAT_READY 2, 1), (F.SEQ_STAT_RUN, 1), (F.DEV_MODE_STAT_MODE, mACTIVE), (F.HST_FN_STAT_READY 0, 1)] with fns := hostF }
def comHeld : ComRing := { num := 63, base := 8192, k := 4, head := 15, tail := 3 }
def sRingH : State := { sRing with fns := (Vector.replicate 4 {}).set 2 { sqs := [sub63], cqs := [comHeld] } }
def dNop : BitVec 512 := dsc [(11, 1)]
def iQ : Inst := { mk opNOP [] with stage := .queued }
def sQ : State := ons iQ (st [(F.SEQ_STAT_RUN, 1), (F.DEV_MODE_STAT_MODE, mACTIVE)])
def sQok : State := sQ.put (F.SEQ_DISPATCH_OP_VALID opNOP) 1 |>.put (F.SEQ_DISPATCH_OP_MODES opNOP) 0xFFFF
def sQbad : State := sQ.put (F.SEQ_DISPATCH_OP_VALID opNOP) 0
def cmp0 : Completion := { code := 0, dw0 := 5, echo := 7, sq := 63, tag := 65535, id := 9 }
def comW : ComRing := { num := 63, base := 8192, k := 4, head := 1, tail := 15, waiting := [cmp0] }
def comF : ComRing := { num := 63, base := 8192, k := 4, head := 0, tail := 15, waiting := [cmp0] }
def sPost : State := { sRing with fns := (Vector.replicate 4 {}).set 2 { sqs := [sub63], cqs := [comW] } }
def sPostF : State := { sRing with fns := (Vector.replicate 4 {}).set 2 { sqs := [sub63], cqs := [comF] } }
def vol5 : Volume := ⟨4095, 2, true, 0, 3, 0, false⟩
def iNop : Inst := mk opNOP []
def sNop : State := ons iNop {}
def vfy : Nat × Nat := (50, 4095)
def iOpen : Inst := mk opOPEN [vfy]
def sOpen : State := { ons iOpen {} with volumes := [vol5] }
def str1 : Strand := { num := 262143, vol := 4095, owner := 3, compress := false, digest := Running.empty }
def str2 : Strand := { str1 with owner := 2 }
def iAdopt : Inst := mk opOPEN [vfy, (160, 4), (32, 262143)]
def sAdopt : State := { ons iAdopt {} with volumes := [vol5], strands := [str1] }
def iQs : Inst := mk opQUERYS [vfy, (32, 262143), (256, 128), (194, 1024)]
def sQs : State := { ons iQs {} with volumes := [vol5], strands := [str2] }
def strC : Strand := { str2 with state := .closed }
def iQr : Inst := mk opQUERYS [vfy, (32, 262143), (256, 128), (194, 1024), (160, 1)]
def sQr : State := { ons iQr {} with volumes := [vol5], strands := [strC] }
def iCv : Inst := mk opCREATEV [vfy, (160, 12), (288, 2 ^ 128 - 1)]
def sCv : State := ons iCv { nextSeq := 10, grantEnd := 11 }
def iCv2 : Inst := mk opCREATEV [vfy, (160, 2)]
def sCv2 : State := ons iCv2 {}
def iQv : Inst := mk opQUERYV [vfy, (256, 128), (194, 1)]
def sQv : State := { ons iQv {} with volumes := [vol5] }
def iFl : Inst := mk opFLUSH []
def sFl : State := ons iFl {}
def csF : CacheSector := { vol := 4095, lsa := 255, seq := 7, strand := 262143, data := 5, at_ := 0 }
def iFl2 : Inst := { mk opFLUSH [(32, 262143)] with covers := [(262143, 1, 9)] }
def sFl2 : State := { ons iFl2 {} with cache := [csF], strands := [str2], volumes := [vol5] }
def iCl : Inst := mk opCLOSE [vfy, (32, 262143), (256, 64), (194, 1024)]
def sCl : State := { ons iCl {} with volumes := [vol5], strands := [str2] }
def sClC : State := { ons iCl {} with volumes := [vol5], strands := [strC] }
def iSe : Inst := mk opSEAL [vfy, (32, 262143), (256, 256), (194, 1024)]
def strS : Strand := { str2 with state := .sealed, sealRecord := some [1, 2] }
def sSe : State := { ons iSe {} with volumes := [vol5], strands := [strC] }
def sSeS : State := { ons iSe {} with volumes := [vol5], strands := [strS] }
def iDv : Inst := mk opDELETEV [vfy, (160, 3)]
def sDv : State := { ons iDv {} with volumes := [vol5], strands := [strC] }
def extV : Extent := { vol := 4095, ext := 0, written := 1#256 <<< 255 }
def iRt : Inst := mk opRETIRE [vfy, (64, 255), (128, 2)]
def sRt : State := { ons iRt {} with volumes := [vol5], extents := [extV] }
def iRtL : Inst := mk opRETIRE [vfy, (64, 2 ^ 48 - 1), (128, 1)]
def sRtL : State := { ons iRtL {} with volumes := [vol5] }
def iWr : Inst := mk opWRITE [vfy, (32, 262143), (64, 255), (128, 2), (256, 8192), (194, 1024)]
def dSp : Disc := { id := 9, vol := 4095, bay := none, nextPair := 255 }
def sWr : State := { ons iWr (st [(F.FLZ_GC_THR_LOW, 0), (F.FLZ_GEOM_LUNS, 1)]) with volumes := [vol5], strands := [str2], discs := [dSp] }
def iRe : Inst := mk opREAD [vfy, (64, 254), (128, 2), (256, 8192), (194, 1024)]
def csR : CacheSector := { vol := 4095, lsa := 255, seq := 7, strand := 0, data := 5, at_ := 0 }
def sRe : State := { ons iRe {} with volumes := [vol5], extents := [extV], cache := [csR] }
def fnd : List Found := ((List.range 2).map (fun k => sRe.findSector iRe false (254 + k))).filterMap id
def extD : Extent := { vol := 4095, ext := 0, written := 1#256 <<< 255, disc := some (9, 0, 3, 0), onDisc := [(255, 7)], chunkLen := List.replicate 16 0 }
def dV : Disc := { id := 9, vol := 4095, bay := none }
def sReD : State := { ons iRe {} with volumes := [vol5], extents := [extD], discs := [dV] }
def iVe : Inst := mk opVERIFY [vfy, (64, 254), (128, 2)]
def sVe : State := { ons iVe {} with volumes := [vol5], extents := [extV], cache := [csR] }
def sVeD : State := { ons iVe {} with volumes := [vol5], extents := [extD], discs := [dV] }
def hasB (l : List (Fld × Nat)) (d : List Disc) (i : Inst) : State := { ons i (st l) with volumes := [vol5], discs := d }
def iMo : Inst := mk opMOUNT [(160, 3), (256, 64), (194, 1024)]
def iMoL : Inst := mk opMOUNT [(160, 7), (256, 64), (194, 1024)]
def fnd0 : MountFound := { top := some (9, true) }
def dB : Disc := { id := 9, vol := 4095, bay := some 3, nextPair := 255 }
def dO : Disc := { id := 9, vol := 4095, bay := none, nextPair := 255 }
def sMo1 : State := hasB [(F.BAY_STAT_STATE 3, bREADY)] [dB] iMo
def sMo2 : State := hasB [(F.BAY_STAT_STATE 3, bEMPTY), (F.BAY_STAT_DISC_PRESENT 3, 1)] [dO] iMoL
def sMo2c : State := hasB [(F.BAY_STAT_STATE 3, bEMPTY), (F.BAY_STAT_DISC_PRESENT 3, 1), (F.BAY_STAT_TRAY_CLOSED 3, 1), (F.DEV_MODE_STAT_MODE, mACTIVE)] [dO] iMoL
def sMo2d : State := hasB [(F.BAY_STAT_STATE 3, bEMPTY), (F.BAY_STAT_DISC_PRESENT 3, 1), (F.DEV_MODE_STAT_MODE, mPARK)] [dO] iMoL
def sMo2b : State := hasB [(F.BAY_STAT_STATE 3, bSPINNING)] [dO] iMo
def iMoW : Inst := { iMo with stage := .waiting }
def sMo3 : State := hasB [(F.BAY_STAT_STATE 3, bREADY)] [dO] iMoW
def iUm : Inst := mk opUNMOUNT [(160, 3)]
def iUmE : Inst := mk opUNMOUNT [(160, 7)]
def sUmE (i : Inst) (tray clamped : Nat) : State := hasB [(F.BAY_STAT_STATE 3, bEMPTY), (F.BAY_STAT_TRAY_CLOSED 3, tray), (F.BAY_STAT_CLAMPED 3, clamped)] [dO] i
def sUm : State := hasB [(F.BAY_STAT_STATE 3, bLOADED)] [dB] iUm
def iIn : Inst := mk opINIT [(160, 3), vfy, (256, 64), (194, 1024)]
def sIn1 : State := { hasB [(F.BAY_STAT_STATE 3, bREADY)] [] iIn with bays := (Vector.replicate 4 {}).set 3 { attached := some (2 ^ 64 - 1, true, true) } }
def sIn2 : State := { hasB [(F.BAY_STAT_STATE 3, bREADING)] [] iIn with bays := (Vector.replicate 4 {}).set 3 { attached := some (0, false, false) } }
def iSc : Inst := mk opSCRUB [(160, 1), (288, 9)]
def sSc1 : State := hasB [] [dB] iSc
def sSc2 : State := hasB [] [dO] iSc
def iCo : Inst := mk opCOMPACT [(288, 9)]
def sCo : State := hasB [(F.BAY_STAT_STATE 3, bREADY)] [dB] iCo
def extC : Extent := { vol := 4095, ext := 0, written := 1#256 <<< 255, disc := some (9, 0, 3, 0), onDisc := [(255, 7)], chunkLen := List.replicate 16 0 }
def rdC : DiscSector := { lsa := 255, data := payloadSector [] }
def sCo2 : State := { sCo with extents := [extC], dram := { sectors := [{ opu := 7, track := 9, sector := 1, vol := 4095, lsa := 255 }] } }
def iSp : Inst := mk opSPIN [(160, 3 + 16 * 4)]
def sSp : State := hasB [(F.BAY_STAT_STATE 3, bREADY), (F.MOT_STAT_STATE 3, mtAT_SPEED), (F.BAY_STAT_SPEED 3, 3)] [] iSp
def sSpL : State := hasB [(F.BAY_STAT_STATE 3, bLOADED), (F.DEV_MODE_STAT_MODE, mPARK)] [] iSp
def iSpW : Inst := { iSp with stage := .committed }
def sSpW : State := hasB [(F.BAY_STAT_STATE 3, bREADY), (F.DEV_MODE_STAT_MODE, mACTIVE), (F.MOT_STAT_STATE 3, mtAT_SPEED),
  (F.BAY_OPT_STAT_ON_TRACK 6, 1), (F.BAY_OPT_STAT_ON_TRACK 7, 1), (F.BAY_OPT_CTL_ENABLE 6, 1), (F.BAY_OPT_CTL_ENABLE 7, 1)] [] iSpW
def iPk : Inst := mk opPARK [(160, 3)]
def sPk1 : State := hasB [(F.BAY_STAT_STATE 3, bLOADED)] [] iPk
def sPk2 : State := hasB [(F.BAY_STAT_STATE 3, bREADY), (F.MOT_STAT_STATE 3, mtAT_SPEED), (F.MOT_CTL_ENABLE 3, 1)] [] iPk |> onMotor 3 { atRest := false }
def iEv : Inst := mk opEVENTS [(128, 4096), (256, 131072), (194, 1024)]
def iEvA : Inst := mk opEVENTS [(128, 1), (160, 1), (256, 32), (194, 1024)]
def er1 : EventRec := { event := 40, level := 2, serial := 1 }
def sEv : State := { ons iEv {} with evq := { ready := true, recs := [er1], serial := 1 } }
def sEvA : State := { ons iEvA {} with evq := { ready := true, recs := [er1], serial := 1 } }
def iLg : Inst := mk opLOG [(160, 1), (256, 4), (194, 1024)]
def sLg : State := ons iLg {}
def iPo : Inst := mk opSETP [(128, 1), (256, 16), (194, 1024)]
def buf1 : List Byte := (leBytes 2 pSCRUB_INTERVAL ++ leBytes 2 0 ++ leBytes 4 0 ++ leBytes 8 90)
def sPo : State := ons iPo {}
def iGp : Inst := mk opGETP [(256, 736), (194, 1024)]
def sGp : State := ons iGp {}
def iSt : Inst := mk opSETT [(160, 1), (288, 2 ^ 63 - 1)]
def sSt : State := ons iSt {}
def iSt0 : Inst := mk opSETT [(288, 1704067200)]
def sSt0 : State := ons iSt0 {}
def iGt : Inst := mk opGETT [(256, 32), (194, 1024)]
def sGt : State := ons iGt {}
def iRr : Inst := mk opREGR [(64, 0), (128, 1), (256, 4), (194, 1024)]
def sRr : State := ons iRr {}
def iRrL : Inst := mk opREGR [(64, 0xFFFFFC), (128, 1), (256, 4), (194, 1024)]
def sRrL : State := ons iRrL {}
def iRp : Inst := mk opREGR [(64, F.LIF_POWER_ON_SEC.addr), (128, 2), (256, 8), (194, 1024)]
def sRp : State := ons iRp {}
def iRw : Inst := mk opREGW [(64, (F.SRV_TRC_LEVEL_LEVEL 1 7).addr), (128, 1), (256, 4), (194, 1024)]
def sRw : State := ons iRw {}
def iWt : Inst := mk opWAIT [(128, 1), (160, 4 + 256 * 3)]
def sWt : State := ons iWt {}
def iWt3 : Inst := mk opWAIT [(128, 2 ^ 32 - 1), (160, 3 + 256 * 63)]
def sWt3 : State := ons iWt3 {}
def iW5 : Inst := { mk opWAIT [(128, 1), (160, 5), (352, 2)] with stage := .waiting }
def sW5 : State := ons iW5 {}
def iW5n : Inst := { mk opWAIT [(128, 1), (160, 5), (352, 3)] with stage := .waiting }
def sW5n : State := ons iW5n {}
def iW0 : Inst := { mk opWAIT [(128, 1)] with stage := .waiting }
def sW0 : State := ons iW0 {}
def iSk : Inst := { mk opSKIPIF [(11, 1), (160, 8 + 4)] with chain := some 1 }
def subC : SubRing := { sub63 with chains := [{ first := 1, last := some (0, 0, 0, true) }] }
def sSk : State := { insts := [iSk], fns := (Vector.replicate 4 {}).set 2 { sqs := [subC], cqs := [com63] } }
def sub1 : SubRing := { num := 1, base := 4096, k := 4, cq := 63, head := 3, tail := 9, chain := some 4, chains := [{ first := 4 }] }
def com1 : ComRing := { num := 1, base := 8192, k := 16 }
def host2 : Vector HostFn 4 := (Vector.replicate 4 {}).set 2 { sqs := [sub63, sub1], cqs := [com63] }
def iR0 : Inst := mk opRESET [(160, 256 * 1)]
def sR0 : State := { ons iR0 {} with fns := host2 }
def iR1 : Inst := mk opRESET [(160, 1), (32, 262143)]
def sR1 : State := { ons iR1 {} with strands := [str1] }
def iR2 : Inst := mk opRESET [(160, 2 + 256 * 3)]
def sensOff : BaySensors := ⟨false, true, false, true⟩
def sR2 : State := hasB [(F.BAY_STAT_STATE 3, bREADY), (F.MOT_STAT_STATE 3, mtAT_SPEED)] [] iR2 |> onMotor 3 { atRest := false }
def sR2b : State := hasB [(F.BAY_STAT_STATE 3, bEMPTY)] [] iR2

def iR3 : Inst := mk opRESET [(160, 3 + 256 * 35)]
def sR3 : State := { ons iR3 (st [(F.RCH_LANE_STAT_FAILED 35, 1), (F.RCH_LANE_STAT_CAUSE 35, 1)]) with chip := { degraded := [.lane 35] } }
def sR3b : State := ons iR3 {}
def iR4 : Inst := mk opRESET [(160, 4 + 256 * 7)]
def sR4 : State := { ons iR4 (st [(F.FLZ_LUN_FAILED_MASK 7, 2 ^ 31), (F.FLZ_CH_STAT_FAILED, 128)]) with nv := { sys := { failedLuns := [255, 3] } } }
def lunBig : LunId := { lun := 255, pageBytes := 18592, pagesPerBlock := 256, blocks := 4 }
def iR5 : Inst := mk opRESET [(160, 5 + 256 * 127)]
def sR5 : State := ons iR5 (st [(F.SRV_SLOT_CTL_ENABLE 1 63, 1), (F.SRV_SLOT_STAT_FE_FAULT 1 63, 1)])
def sR5b : State := ons iR5 (st [(F.SRV_SLOT_CTL_ENABLE 1 63, 1), (F.SRV_BLK_STAT_ENGINE_FAULT 1, 1)])
def pkgBad : Package := { format := 2, payload := [] }
def iSg : Inst := mk opSTAGE [(256, 512), (194, 1024)]
def sSg : State := ons iSg {}
def iAc : Inst := mk opACTIVATE []
def sAc : State := ons iAc {}
def iAt : Inst := mk opATTEST [(256, 256), (194, 1024), (288, 2 ^ 224 - 1)]
def sAt : State := ons iAt {}
def iAtc : Inst := mk opATTEST [(160, 1), (256, 1024), (194, 1024)]
def sAtc : State := ons iAtc {}
def iTa : Inst := mk opTRACE [(160, 4 + 8 * 7), (288, 63 * 4 + 7 * 4096 + 1023 * 2 ^ 20), (320, 2 ^ 32 - 1), (352, 16384 - 1)]
def sTa : State := ons iTa {}
def iTs : Inst := mk opTRACE [(160, 1 + 4 + 8 * 7)]
def sTs : State := ons iTs (st [(F.SRV_TRC_STAT_STATE 1 7, 3)])
def sTs1 : State := ons iTs (st [(F.SRV_TRC_STAT_STATE 1 7, 1), (F.SRV_TRC_CTL_ARM 1 7, 1)])
def iTr : Inst := mk opTRACE [(160, 2 + 4 + 8 * 7), (256, 32), (194, 1024)]
def sTr : State := ons iTr {}
def iTt : Inst := mk opTRACE [(160, 3 + 4 + 8 * 7)]
def sTt : State := ons iTt (st [(F.SRV_TRC_STAT_STATE 1 7, 1), (F.SRV_TRC_CTL_ARM 1 7, 1)])
def iCa : Inst := mk opCALIB [(160, 7 + 2 ^ 16 * 63)]
def sCaP : State := { ons iCa {} with nv := { policy := [((pWRPWR_PIN, 7), 1)] } }
def sCaN : State := ons iCa {}
def sCaD : State := { sCaN with chip := { degraded := [.bay 3] } }
def iCa11 : Inst := mk opCALIB [(160, 11 + 2 ^ 16 * 7)]
def sCa11 : State := ons iCa11 {}
def iCr : Inst := mk opCREATER [(160, 62 + 64 + 128 * 16 + 2 ^ 18), (288, 2 ^ 64 - 4096)]
def sCr : State := ons iCr {}
def iCs : Inst := mk opCREATER [(160, 1 + 128 * 4 + 4096 * 63), (288, 0)]
def sCs : State := ons iCs {}
def iDc : Inst := mk opDELETER [(160, 1 + 64)]
def sDc : State := { ons iDc {} with fns := (Vector.replicate 4 {}).set 2 { sqs := [sub63], cqs := [com63, com1] } }
def iDs : Inst := mk opDELETER [(160, 1)]
def sDs : State := { ons iDs {} with fns := host2 }
def sEn : State := st [(F.HST_LINK_STAT_SPEED 2, 5), (F.HST_RING0_SIZE_SQ_K 3, 16), (F.HST_RING0_SIZE_CQ_K 3, 4), (F.HST_SQ0_BASE_HI_BASE 3, 1), (F.HST_CQ0_BASE_LO_BASE 3, 4096)]
def mD3 : Master := .function 3
def sUpN : State := st [(F.HST_LINK_STAT_SPEED 2, 5)]
def sFatal : State := sEn.put (F.HST_FN_STAT_FATAL 3) 1
def sStp : State := { st [(F.HST_LINK_STAT_SPEED 2, 5), (F.HST_FN_CTL_ENABLE 2, 1), (F.HST_FN_STAT_READY 2, 1)] with fns := hostF }
def mD2 : Master := .function 2
def sD3 : State := { sStp with fns := hostF.set 2 { d3 := true, pending := [0], sqs := [sub63] } }
def sUp1 : State := { st [(F.HST_LINK_STAT_WIDTH 2, 4), (F.HST_LINK_STAT_WIDTH 3, 4), (F.HST_LINK_STAT_SPEED 2, 5), (F.HST_LINK_STAT_SPEED 3, 5)] with fns := hostF }
def sUp2 : State := { st [(F.HST_LINK_STAT_WIDTH 2, 4), (F.HST_LINK_STAT_WIDTH 3, 4), (F.HST_LINK_STAT_SPEED 0, 1), (F.HST_LINK_STAT_SPEED 1, 1), (F.HST_LINK_STAT_SPEED 2, 5), (F.HST_LINK_STAT_SPEED 3, 5)] with fns := hostF }
def sPer : State := { sIdle with chip := { pins := { perst := #v[true, true] } } }
def sPerR : State := { st [(F.DEV_MODE_STAT_MODE, mRETENTION)] with chip := { pins := { perst := #v[true, true] } } }
def sIdleM : State := st [(F.DEV_MODE_STAT_MODE, mIDLE)]
def sPme : State := sUp1.put F.DEV_MODE_STAT_MODE mIDLE |>.put F.DEV_MODE_STAT_TRANSITION 0
def v64 : Fin 65 := 64
def v0 : Fin 65 := 0
def com63h : ComRing := { com63 with tail := 1 }
def hVec : HostFn := { pending := [64], cqs := [com63h] }
def hVec0 : HostFn := { pending := [0], masked := [], fnMask := true }
def sVec : State := { fns := (Vector.replicate 4 {}).set 2 hVec }
def sVec0 : State := { fns := (Vector.replicate 4 {}).set 3 hVec0 }
def sAlert : State := { chip := { pins := { smbAlert := true, smbAddr := 3 } } }
def sWd : State := { chip := { pins := { slathLocked := false } } }
def sNoBoot : State := { boot := { running := false } }
def wEnd : Nat := 7 * 2 ^ 16
def wEndC : Nat := 7 * 2 ^ 16 + 2 ^ 171 + 5 * 2 ^ 160
def wBad : Nat := 10 * 2 ^ 16
def wPark : Nat := 5 * 2 ^ 16 + 31 * 2 ^ 20 + 32770
def thE (fr : Frame) : Thread := { seq := 3, thread := 6, event := some 40, now := fr, restart := fr }
def thI (fr : Frame) : Thread := { seq := 3, thread := 0, inst := some 5, cls := 0, now := fr, restart := fr }
def patch0 : List (Nat × BitVec 192) := [(0x8000, BitVec.ofNat 192 wEnd), (0x8001, BitVec.ofNat 192 wEndC), (0x8002, BitVec.ofNat 192 wBad), (0x8003, BitVec.ofNat 192 wPark)]
def frE : Frame := { addr := 0x8000 }
def frC : Frame := { addr := 0x8001, regs := [(0, 99)] }
def frB : Frame := { addr := 0x8002 }
def frP : Frame := { addr := 0x8003 }
def q15 : Fin 16 := 15
def t7 : Fin 8 := 7
def t5 : Fin 8 := 5
def thE0 : Thread := thE frE
def sThE : State := { st [(F.SEQ_STAT_RUN, 1)] with seqs := { threads := [thE0], patch := patch0 } }
def thIC : Thread := thI frC
def iDis : Inst := mk opNOP []
def sThI : State := { ons iDis (st [(F.SEQ_STAT_RUN, 1)]) with seqs := { threads := [thIC], patch := patch0 } }
def thEB : Thread := thE frB
def sThB : State := { st [(F.SEQ_STAT_RUN, 1), (F.SEQ_DISPATCH_EV_ENABLED 40, 1)] with seqs := { threads := [thEB], patch := patch0 } }
def thIB : Thread := thI frB
def sThIB : State := { ons iDis (st [(F.SEQ_STAT_RUN, 1)]) with seqs := { threads := [thIB], patch := patch0 } }
def thEP : Thread := { thE frP with tags := [⟨31, 1, 1, []⟩] }
def sThP : State := { st [(F.SEQ_STAT_RUN, 1)] with seqs := { threads := [thEP], patch := patch0 } }
def thEW : Thread := { thE frP with tags := [⟨31, 1, 1, []⟩], waits := some 31 }
def sThW : State := { st [(F.SEQ_STAT_RUN, 1)] with seqs := { threads := [thEW], patch := patch0 } }
def sEvR : State := { st [(F.SEQ_STAT_RUN, 1), (F.SEQ_DISPATCH_EV_ENABLED 511, 1), (F.SEQ_DISPATCH_EV_ENTRY 511, 65535)] with
  chip := { routines := [511] }, seqs := { raises := [(511, 7)] } }
def ad0 : BitVec 16 := 0xBFFF
def sThR2 : State := { sThW with now := 1000000, seqs := { threads := [thEW], restarts := [(15, 1), (15, 2)] } }
def sThR1 : State := { sThW with now := 1000000, seqs := { threads := [thEW], restarts := [(15, 0), (15, 2)] } }
def thWd : Thread := { thE frE with words := 16384 }
def thWd1 : Thread := { thE frE with words := 16384, watchdogs := 1 }
def sWd0 : State := { seqs := { threads := [thWd] } }
def sWd1 : State := { st [(F.SEQ_DISPATCH_EV_ENABLED 40, 1)] with seqs := { threads := [thWd1] } }
def sCch : State := st [(F.CCH_CTL_ENABLE, 1), (F.CCH_REGION_SIZE_SIZE, 2)]
def ln0 : CacheLine := ⟨16383, 15, true⟩
def sCchH : State := { sCch with cch := { lines := [ln0] } }
def ms0 : Miss := ⟨16383, 15, [⟨7, 16383, true⟩]⟩
def sMs : State := { sCch with cch := { misses := [ms0], victims := [⟨16382, false⟩] } }
def sOp : State := st [(F.CCH_CTL_ENABLE, 1), (F.CCH_OP_LINES_LINES, 1), (F.CCH_OP_BASE_LO_LO, 2 ^ 23 - 1), (F.DRM_STAT_CONFIG, 3), (F.DRM_STAT_CH_UP, 3)]
def sOp0 : State := sOp.put F.CCH_CTL_ENABLE 0
def cCl : Instr := .cchOpClean mSeq
def cCi : Instr := .cchOpCleanInvalidate mSeq
def cClD : Instr := .cchOpClean mDat
def sOpB : State := sOp.put F.CCH_STAT_OP_BUSY 1
def sOpL : State := sOp.put F.CCH_OP_LINES_LINES 0
def sOpR : State := { st [(F.CCH_STAT_OP_BUSY, 1), (F.CCH_OP_CTL_KIND, 2), (F.CCH_CTL_ENABLE, 1), (F.CCH_REGION_SIZE_SIZE, 2)] with
  cch := { op := some (16383, 1, true), lines := [ln0, ⟨16382, 0, true⟩, ⟨16384, 1, false⟩], victims := [⟨16383, true⟩, ⟨16384, false⟩] } }
def sOpC : State := { sOpR with cch := { op := some (16382, 2, false), lines := [ln0, ⟨16382, 0, true⟩, ⟨16384, 1, false⟩], victims := [⟨16383, true⟩, ⟨16384, false⟩] } }
def sChi : State := st [(F.CCH_REGION_BASE_BASE, 2), (F.CCH_REGION_SIZE_SIZE, 2 ^ 17 - 1), (F.DRM_STAT_CONFIG, 3), (F.DRM_STAT_CH_UP, 3)]
def sCen : State := st [(F.CCH_REGION_BASE_BASE, 0), (F.CCH_REGION_SIZE_SIZE, 1), (F.DRM_STAT_CONFIG, 3), (F.DRM_STAT_CH_UP, 3)]
def sCbad : State := st [(F.CCH_STAT_DRAINING, 1), (F.CCH_REGION_SIZE_SIZE, 1)]
def sDr : State := { st [(F.CCH_STAT_DRAINING, 1)] with cch := { lines := [ln0], victims := [⟨16382, true⟩], misses := [ms0] } }
def sDram : State := st [(F.DRM_STAT_CH_UP, 2), (F.DRM_REF_STAT_POSTPONED, 4), (F.DRM_CTL_ENABLE, 1), (F.DRM_STAT_CONFIG, 1)]
def sDram3 : State := st [(F.DRM_STAT_CH_UP, 2), (F.DRM_REF_STAT_POSTPONED, 3), (F.DRM_CTL_ENABLE, 1)]
def de0 : DramErr := { line := 5, devices := [19] }
def sRtr : State := { st [(F.DRM_STAT_CONFIG, 3), (F.DEV_MODE_STAT_MODE, mPARK), (F.DRM_REF_STAT_TEMP, 40)] with dram := { temps := [40], swept := [25] } }
def sRtn : State := { st [(F.DRM_STAT_CONFIG, 3), (F.DEV_MODE_STAT_MODE, mIDLE), (F.DRM_REF_STAT_TEMP, 40)] with dram := { temps := [40], swept := [26] } }
def dl0 : List LaneSweep := [{ channel := 1, rank := 1, lane := 9, reads := [(-32, 32)], writes := [(-8, 7)], vref := (0, 255) }]
def dlBad : List LaneSweep := [{ channel := 1, rank := 1, lane := 9, reads := [(-32, 32)], writes := [(-7, 7)], vref := (0, 255) }]
def steps0 : List (Fin 80 × Int × Int) := [(79, -1, 1)]
def deW : DramErr := { line := 5, devices := [18, 19], area := .writeCache [5, 6] }
def pb0 : BitVec 512 := 0
def sLock3 : State := st [(F.SEC_DBG_STAT_LOCKOUT, 1), (F.SEC_DBG_STAT_FAILS, 3)]
def sFl2x : State := { st [(F.SEC_DBG_STAT_FAILS, 2)] with dbg := { challenge := some ⟨7, 3, 0⟩ } }
def sBr : State := st [(F.DEV_MODE_STAT_MODE, mBRINGUP)]
def str7 : Strand := { str1 with firstSeq := 1, lastSeq := 9, digestSeq := 7 }
def sLog : State := { st [(F.DEV_MODE_STAT_MODE, mACTIVE), (F.FLZ_CTL_ENABLE, 1)] with strands := [str7], deferred := [⟨3, 9, 5, true⟩] }
def sOl : State := { st [(F.DEV_MODE_STAT_MODE, mBRINGUP), (F.WRP_ENERGY_UJ 7, 9000)] with life := { laserSec := #v[0, 0, 0, 0, 0, 0, 0, 86400] } }
def sNoO : State := { nv := { opus := 0x7F } }
def sTam : State := { nv := { tamper := some 5 } }
def pin682 : Fin 1024 := 682
def pin135 : Fin 1024 := 135
def pin690 : Fin 1024 := 690
def sLas : State := { optics := (Vector.replicate 8 {}).set 7 { laser := true } }
def sBrd : State := st [(F.BAY_STAT_STATE 3, bREADY)]
def iQ0 : Inst := { id := 5, fn := 2, sq := 63, cq := 63, desc := dsc [(0, opNOP), (16, 65535)], cls := 0 }
def sQ0 : State := { ons iQ0 (st [(F.SEQ_STAT_RUN, 1), (F.DEV_MODE_STAT_MODE, mACTIVE), (F.SEQ_DISPATCH_OP_VALID opNOP, 1), (F.SEQ_DISPATCH_OP_MODES opNOP, 0xFFFF)]) with
  now := 100, class0 := #v[{}, { level := 800, at_ := 0 }] }
def sQ0n : State := { sQ0 with class0 := #v[{}, { level := 799, at_ := 0 }] }
def iBig : Inst := { iQ0 with desc := dsc [(0, opWRITE), (256, 2 ^ 20 + 1)] }
def iMib : Inst := { iQ0 with desc := dsc [(0, opWRITE), (256, 2 ^ 20)] }
def sQw (i : Inst) : State := ons i (st [(F.SEQ_STAT_RUN, 1), (F.DEV_MODE_STAT_MODE, mACTIVE), (F.SEQ_DISPATCH_OP_VALID opWRITE, 1), (F.SEQ_DISPATCH_OP_MODES opWRITE, 0xFFFF)])
def sBig : State := sQw iBig
def sMib : State := sQw iMib
def iDem : Inst := { iQ0 with demoted := true, stage := .dispatched }
def sDem : State := ons iDem {}
def iSc0 : Inst := mk opSCRUB [(288, 9)]
def dBr : Disc := { dB with scrubRunning := true, scrubPairs := 100 }
def dOr : Disc := { dO with scrubRunning := true, scrubPairs := 100 }
def sScB : State := hasB [] [dBr] iSc0
def sScO : State := hasB [] [dOr] iSc0
def sScR : State := hasB [] [dOr] iSc
def sScN : State := hasB [] [] iSc
def iOp2 : Inst := mk opOPEN [vfy, (160, 1)]
def sOp2 : State := { ons iOp2 {} with volumes := [vol5] }
def sOpN : State := ons iOpen {}

def pinQ : OutputPin := .twoWire
def subs0 : Vector (Nat × Nat) 2 := #v[(0x1234, 1), (0xFFFF, 0xFFFF)]
def sCfg : State := { st [(F.DEV_MODE_STAT_MODE, mIDLE), (F.HST_LINK_STAT_SPEED 2, 5)] with boot := { running := false } }
def sCfgS : State := { sCfg with nv := { subsystems := some subs0 } }
def sCfgE : State := { st [(F.DEV_MODE_STAT_MODE, mBRINGUP), (F.HST_LINK_STAT_SPEED 2, 5)] with boot := { step := 14 } }
def d0 : Fin 20 := 0
def d19 : Fin 20 := 19
def sDr1 : State := st [(F.DRM_STAT_CONFIG, 1), (F.DRM_STAT_CH_UP, 1)]
def sDr3 : State := st [(F.DRM_STAT_CONFIG, 3), (F.DRM_STAT_CH_UP, 3)]
def sDrX : State := sDr3.put (F.DRM_DEV_FAILED_MASK 0) (2 ^ 19)
def sMoS : State := hasB [(F.BAY_STAT_STATE 3, bREADY), (F.MOT_STAT_STATE 3, mtAT_SPEED)] [dO] iMoW |> onMotor 3 { atRest := false }
def sMoN : State := hasB [(F.BAY_STAT_STATE 3, bREADING)] [] iMoW
def fndS : MountFound := { sideMismatch := true }
def mapB : List Byte := List.replicate 64 0
def fndM : MountFound := { fnd0 with imageMissing := true, maps := [(3, 9, mapB)] }

/-! ### States that meet the hypotheses of each statement

One theorem for each statement with hypotheses: beside each comment line (the values, and §n for the n-th part of the conjunction that the
statement is at that place) stand the hypotheses of that clause at those values. -/

theorem test_meets_StepRunsTheFrontCommand :
    -- nop0 [.nop 1] sPend
    sPend.pending = [nop0, Instr.nop 1] := by
  and_intros <;> decide +kernel

theorem test_meets_IdleStepCountsOneMicrosecond :
    -- sIdle
    sIdle.pending = [] := by
  and_intros <;> decide +kernel

theorem test_meets_ResetClearsWhatIsVolatile :
    -- sOff §2
    sOff.mode = mOFF ∧
    -- sIdle §3
    sIdle.mode ≠ mOFF ∧
    -- sRst §3
    sRst.mode ≠ mOFF := by
  and_intros <;> decide +kernel

theorem test_meets_ResetIsLeftForBoot :
    -- sRst §1 (3 : Fin 4) §1
    (sRst.mode = mRESET ∧ sRst.chip.pins.supplies = true ∧ sRst.chip.pins.brownOut = false ∧ sRst.chip.pins.hot = false) ∧
    -- sRst §1 (0 : Fin 4) §2 true false
    (sRst.mode = mRESET ∧ sRst.chip.pins.supplies = true ∧ sRst.chip.pins.brownOut = false ∧ sRst.chip.pins.hot = false ∧ (true && false) = false) ∧
    -- sRst §2 §1
    (sRst.mode = mRESET ∧ sRst.chip.pins.supplies = true ∧ sRst.chip.pins.resetN = true ∧ sRst.chip.pins.slathLocked = true ∧ sRst.chip.pins.hot =
      false) ∧
    -- sRst §2 §2
    (sRst.mode = mRESET ∧ sRst.chip.pins.supplies = true ∧ sRst.chip.pins.resetN = true ∧ sRst.chip.pins.slathLocked = true ∧
      sRst.chip.pins.brownOut = false) ∧
    -- sRstLow §3
    (sRstLow.mode = mRESET ∧ sRstLow.chip.pins.supplies = true ∧ sRstLow.chip.pins.resetN = false) := by
  and_intros <;> decide +kernel

theorem test_meets_BootStepsEndInOrder :
    -- sIdle §1 1 §1 rep0
    ((1 = 1 ∨ 1 = 2) ∧ sIdle.boot.running = true ∧ sIdle.boot.step = 1 ∧ sIdle.boot.altPlan = [] ∧ sIdle.boot.skipPlan = [] ∧ sIdle.boot.journalled
      = false ∧ rep0.fail % 2 = 0) ∧
    -- sBoot2 §1 2 §2 rep1
    ((2 = 1 ∨ 2 = 2) ∧ sBoot2.boot.running = true ∧ sBoot2.boot.step = 2 ∧ sBoot2.boot.altPlan = [] ∧ sBoot2.boot.skipPlan = [] ∧
      sBoot2.boot.journalled = false ∧ rep1.fail % 2 = 1) ∧
    -- sBoot2 §1 2 §3
    ((2 = 1 ∨ 2 = 2) ∧ sBoot2.boot.running = true ∧ sBoot2.boot.step = 2 ∧ sBoot2.boot.altPlan = [] ∧ sBoot2.boot.skipPlan = [] ∧
      sBoot2.boot.journalled = false) ∧
    -- sHalt §2 2
    sHalt.boot.halted = some 2 := by
  and_intros <;> decide +kernel

theorem test_meets_SafeFollowsLossOfLockOrHeat :
    -- sIdle §1
    (sIdle.chip.pins.slathLocked = true ∧ mBOOT ≤ sIdle.mode) ∧
    -- sUnlock §2
    (sUnlock.chip.pins.slathLocked = false ∧ safeFrom sUnlock.mode = true) ∧
    -- sOn §3
    safeFrom sOn.mode = true ∧
    -- sOn §4 (-3)
    sOn.mode ≠ mOFF := by
  and_intros <;> decide +kernel

theorem test_meets_ModeRequestsAreTakenHeldOrRejected :
    -- sOn §1 mSeq
    (sOn.mayWrite mSeq = true ∧ sOn.mode = mIDLE ∧ sOn.get F.DEV_MODE_STAT_TRANSITION = 0) ∧
    -- sOn §2
    (sOn.mode = mIDLE ∧ sOn.get F.DEV_MODE_STAT_TRANSITION = 0) ∧
    -- sOn §3 mAdm (9 : BitVec 4)
    (sOn.mayWrite mAdm = true ∧ (9 : BitVec 4) ≠ (0 : BitVec 4) ∧ sOn.mode ≠ mDRAIN ∧ sOn.get F.DEV_MODE_STAT_TRANSITION = 0 ∧ (allowedTargets
      sOn.mode).contains (BitVec.toNat (9 : BitVec 4)) = false) ∧
    -- sRet §4 (15 : BitVec 4)
    ((15 : BitVec 4) ≠ (0 : BitVec 4) ∧ (15 : BitVec 4) ≠ (8 : BitVec 4) ∧ (15 : BitVec 4) ≠ (5 : BitVec 4) ∧ sRet.mode = mRETENTION) ∧
    -- sRet §4 (1 : BitVec 4)
    ((1 : BitVec 4) ≠ (0 : BitVec 4) ∧ (1 : BitVec 4) ≠ (8 : BitVec 4) ∧ (1 : BitVec 4) ≠ (5 : BitVec 4) ∧ sRet.mode = mRETENTION) ∧
    -- sTran §5 mSeq (9 : BitVec 4)
    (sTran.mayWrite mSeq = true ∧ sTran.mode ≠ mDRAIN ∧ sTran.get F.DEV_MODE_STAT_TRANSITION = 1 ∧ ((9 : BitVec 4) = (5 : BitVec 4) ∨ (9 : BitVec 4)
      = (6 : BitVec 4) ∨ (9 : BitVec 4) = (8 : BitVec 4) ∨ (9 : BitVec 4) = (9 : BitVec 4))) := by
  and_intros <;> decide +kernel

theorem test_meets_ModesEndInRestIdleOrDrain :
    -- sTrans §1 tran0
    (sTrans.chip.transition = some tran0 ∧ (tran0.target = mIDLE ∨ tran0.target = mPARK) ∧ tran0.cause < 256 ∧ sTrans.baysRest = true ∧ sTrans.get
      F.DEV_MODE_REQ_TARGET = 0) ∧
    -- sAct §2
    (sAct.mode = mACTIVE ∧ sAct.get F.DEV_MODE_STAT_TRANSITION = 0 ∧ sAct.baysRest = true) ∧
    -- sOn §3 b3
    (sOn.mode = mIDLE ∧ sOn.get F.DEV_MODE_STAT_TRANSITION = 0 ∧ sOn.get (F.BAY_STAT_HELD b3.val) = 0 ∧ sOn.bayState b3.val ≠ bLOADED) ∧
    -- sSafe §4
    (sSafe.mode = mBRINGUP ∨ sSafe.mode = mIDLE ∨ sSafe.mode = mACTIVE ∨ sSafe.mode = mPARK ∨ sSafe.mode = mSERVICE ∨ sSafe.mode = mSAFE) ∧
    -- sAct §4
    (sAct.mode = mBRINGUP ∨ sAct.mode = mIDLE ∨ sAct.mode = mACTIVE ∨ sAct.mode = mPARK ∨ sAct.mode = mSERVICE ∨ sAct.mode = mSAFE) ∧
    -- sRet §5
    sRet.mode = mRETENTION ∧
    -- sDrn §7
    (sDrn.draining = true ∧ sDrn.drained = true ∧ sDrn.chip.drain.done = false ∧ sDrn.get F.DEV_MODE_REQ_TARGET = 0) ∧
    -- sDrnTurn §8 b3
    (sDrnTurn.draining = true ∧ sDrnTurn.spindleRests b3 = false) ∧
    -- sDrn §9
    (sDrn.draining = true ∧ sDrn.chip.drain.done = false ∧ sDrn.get F.DEV_MODE_REQ_TARGET = 0) ∧
    -- sL2 §10 p1
    (sL2.chip.retaining = true ∧ sL2.dram.selfRefresh = true ∧ sL2.linkUp p1 = true ∧ sL2.chip.l2Ready[p1] = false ∧ (∀ (x : Transition),
      sL2.chip.transition = some x → x.cause < 256)) := by
  and_intros <;> decide +kernel

theorem test_meets_OpticalCommandsBegin :
    -- sOpt k7 §1 (7 : Fin 8) (1023 : BitVec 10)
    (sOpt.drivesTake = true ∧ OptFree sOpt k7 ∧ sOpt.laserAllowed k7 = true) ∧
    -- sOpt k7 §2 (7 : Fin 8) (0 : BitVec 10)
    (sOpt.drivesTake = true ∧ OptFree sOpt k7 ∧ sOpt.optLayer k7 ≠ (7 : Fin 8).val) ∧
    -- sOpt k7 §3 (0 : BitVec 10)
    (sOpt.drivesTake = true ∧ OptFree sOpt k7 ∧ sOpt.get (F.BAY_OPT_STAT_FOCUS_LOCKED k7.val) = 1) ∧
    -- sOpt k7 §4 (64 : BitVec 8) (0 : BitVec 10)
    (sOpt.drivesTake = true ∧ OptFree sOpt k7 ∧ (64 : BitVec 8) ≠ (0 : BitVec 8) ∧ (toSigned 8 (BitVec.toNat (64 : BitVec 8))).natAbs ≤ 64) ∧
    -- sOpt k7 §4 (0xC0 : BitVec 8) (0 : BitVec 10)
    (sOpt.drivesTake = true ∧ OptFree sOpt k7 ∧ (192 : BitVec 8) ≠ (0 : BitVec 8) ∧ (toSigned 8 (BitVec.toNat (192 : BitVec 8))).natAbs ≤ 64) ∧
    -- sOpt k7 §5 (0 : Fin 8) (1023 : BitVec 10)
    (sOpt.drivesTake = true ∧ OptFree sOpt k7 ∧ sOpt.laserAllowed k7 = true) ∧
    -- sOpt k7 §6 (7 : Fin 8) (0 : BitVec 10)
    (sOpt.drivesTake = true ∧ OptFree sOpt k7 ∧ sOpt.optLayer k7 ≠ (7 : Fin 8).val) := by
  unfold OptFree
  and_intros <;> decide +kernel

theorem test_meets_OpticalSequencesEnd :
    -- sOpt k7 §1
    (sOpt.drivesLive = true ∧ sOpt.get (F.BAY_OPT_CTL_ENABLE k7.val) = 1 ∧ sOpt.engineStopped (engineOf k7) = false) ∧
    -- sMot k0 §2
    (sMot.drivesLive = true ∧ sMot.get (F.BAY_OPT_CTL_ENABLE k0.val) = 0) ∧
    -- sLost k7 §3 9
    (sLost.drivesTake = true ∧ sLost.optics[k7].lostAt = some 9 ∧ sLost.get (F.BAY_OPT_STAT_FAIL_RUN k7.val) ≤ sLost.get (F.BAY_OPT_CTL_RETRIES
      k7.val) ∧ sLost.laserAllowed k7 = true ∧ sLost.engineStopped (engineOf k7) = false ∧ sLost.get (F.BAY_OPT_CTL_ENABLE k7.val) = 1 ∧
      sLost.motorState (spindleOf (bayOf k7)) = mtAT_SPEED) ∧
    -- sHop k7 §4
    (sHop.drivesLive = true ∧ sHop.engineStopped (engineOf k7) = false ∧ (sHop.optics[k7].phase = OptPhase.hopHold ∨ sHop.optics[k7].phase =
      OptPhase.hopPulse ∨ sHop.optics[k7].phase = OptPhase.hopCatch ∨ sHop.optics[k7].phase = OptPhase.hopLock)) ∧
    -- sHopL k7 §4
    (sHopL.drivesLive = true ∧ sHopL.engineStopped (engineOf k7) = false ∧ (sHopL.optics[k7].phase = OptPhase.hopHold ∨ sHopL.optics[k7].phase =
      OptPhase.hopPulse ∨ sHopL.optics[k7].phase = OptPhase.hopCatch ∨ sHopL.optics[k7].phase = OptPhase.hopLock)) ∧
    -- sPull k0 §5
    (sPull.drivesLive = true ∧ sPull.engineStopped (engineOf k0) = false ∧ (sPull.optics[k0].phase = OptPhase.velocity ∨ sPull.optics[k0].phase =
      OptPhase.settling) ∧ sPull.optics[k0].pullFails = 0) ∧
    -- sOpt k0 §6 mSeq
    sOpt.mayWrite mSeq = true ∧
    -- sOpt k0 §7 (3 : Fin 4) 40000
    (sOpt.drivesLive = true ∧ sOpt.optics[k0].lowRun[(3 : Fin 4)] < 63 ∧ sOpt.optics[k0].highRun[(3 : Fin 4)] < 63) ∧
    -- sOpt k0 §7 (0 : Fin 4) (-40000)
    (sOpt.drivesLive = true ∧ sOpt.optics[k0].lowRun[(0 : Fin 4)] < 63 ∧ sOpt.optics[k0].highRun[(0 : Fin 4)] < 63) := by
  and_intros <;> decide +kernel

theorem test_meets_SpokesMoveTheLock :
    -- sRun k0 §1 spoke0 cand0
    (sRun.channelsLive = true ∧ sRun.optics[k0].phase ≠ OptPhase.pending ∧ sRun.spokeState k0 = spkSEARCH ∧ sRun.pickSync k0 (sRun.facing k0 spoke0)
      = some cand0 ∧ (sRun.viewSpoke k0 (sRun.facing k0 spoke0) cand0).others = true ∧ (sRun.viewSpoke k0 (sRun.facing k0 spoke0) cand0).indexOk =
      true ∧ (sRun.viewSpoke k0 (sRun.facing k0 spoke0) cand0).contOk = true) ∧
    -- sConf k0 §2 spokeNone
    (sConf.channelsLive = true ∧ sConf.spokeState k0 = spkCONFIRM ∧ sConf.pickSync k0 (sConf.facing k0 spokeNone) = none) ∧
    -- sLock k0 §3 spoke0 cand0
    (sLock.channelsLive = true ∧ sLock.optics[k0].phase ≠ OptPhase.pending ∧ sLock.optics[k0].phase ≠ OptPhase.spokes ∧ (sLock.spokeState k0 =
      spkLOCKED ∨ sLock.spokeState k0 = spkCOAST) ∧ sLock.pickSync k0 (sLock.facing k0 spoke0) = some cand0 ∧ (sLock.viewSpoke k0 (sLock.facing k0
      spoke0) cand0).others = true ∧ (sLock.viewSpoke k0 (sLock.facing k0 spoke0) cand0).indexOk = true ∧ (sLock.viewSpoke k0 (sLock.facing k0
      spoke0) cand0).contOk = true ∧ sLock.get (F.BAY_OPT_STAT_LAYER_JUMP k0.val) = 0) ∧
    -- sCoast k0 §3 spoke0 cand0
    (sCoast.channelsLive = true ∧ sCoast.optics[k0].phase ≠ OptPhase.pending ∧ sCoast.optics[k0].phase ≠ OptPhase.spokes ∧ (sCoast.spokeState k0 =
      spkLOCKED ∨ sCoast.spokeState k0 = spkCOAST) ∧ sCoast.pickSync k0 (sCoast.facing k0 spoke0) = some cand0 ∧ (sCoast.viewSpoke k0 (sCoast.facing
      k0 spoke0) cand0).others = true ∧ (sCoast.viewSpoke k0 (sCoast.facing k0 spoke0) cand0).indexOk = true ∧ (sCoast.viewSpoke k0 (sCoast.facing
      k0 spoke0) cand0).contOk = true ∧ sCoast.get (F.BAY_OPT_STAT_LAYER_JUMP k0.val) = 0) ∧
    -- sLock k0 §4 spokeNone
    (sLock.channelsLive = true ∧ (sLock.spokeState k0 = spkLOCKED ∨ sLock.spokeState k0 = spkCOAST) ∧ sLock.pickSync k0 (sLock.facing k0 spokeNone)
      = none ∧ sLock.get (F.BAY_OPT_STAT_LAYER_JUMP k0.val) = 0 ∧ sLock.get (F.RCH_SPK_STAT_MISS_RUN k0.val) + 1 < sLock.get
      (F.RCH_SPK_CTL_COAST_MAX k0.val)) ∧
    -- sCoast k0 §4 spokeNone
    (sCoast.channelsLive = true ∧ (sCoast.spokeState k0 = spkLOCKED ∨ sCoast.spokeState k0 = spkCOAST) ∧ sCoast.pickSync k0 (sCoast.facing k0
      spokeNone) = none ∧ sCoast.get (F.BAY_OPT_STAT_LAYER_JUMP k0.val) = 0 ∧ sCoast.get (F.RCH_SPK_STAT_MISS_RUN k0.val) + 1 < sCoast.get
      (F.RCH_SPK_CTL_COAST_MAX k0.val)) ∧
    -- sTrk k7 §5
    (sTrk.drivesTake = true ∧ sTrk.engineStopped (engineOf k7) = false ∧ sTrk.get (F.BAY_OPT_STAT_FOCUS_LOCKED k7.val) = 1 ∧ sTrk.get
      (F.BAY_OPT_STAT_ON_TRACK k7.val) = 0 ∧ sTrk.optics[k7].phase = OptPhase.idle ∧ sTrk.seeking k7 = false ∧ 64 ≤ sTrk.optics[k7].lostRun.getD 0) ∧
    -- sLand k0 §6 a13
    (sLand.drivesLive = true ∧ sLand.axisState a13 = axLANDING ∧ a13.val % 4 < 2 ∧ 200 ≤ sLand.axes[a13].seen) := by
  and_intros <;> decide +kernel

theorem test_meets_ServoWritesTakeEffect :
    -- sIdle mSeq p1 j63 (0x1000 : Word) §1
    (sIdle.mayWrite mSeq = true ∧ sIdle.get (F.SRV_SLOT_CTL_ENABLE p1.val j63.val) = 0 ∧ bitsOf (BitVec.toNat (4096 : Word)) 0 1 = 0 ∧ bitsOf
      (BitVec.toNat (4096 : Word)) 9 4 ≤ 8) ∧
    -- sIdle mSeq p0 j0 (0xFFFFE1FE : Word) §1
    (sIdle.mayWrite mSeq = true ∧ sIdle.get (F.SRV_SLOT_CTL_ENABLE p0.val j0.val) = 0 ∧ bitsOf (BitVec.toNat (4294959614 : Word)) 0 1 = 0 ∧ bitsOf
      (BitVec.toNat (4294959614 : Word)) 9 4 ≤ 8) ∧
    -- sIdle mSeq p1 j63 wF §2 k7 j49
    (sIdle.mayWrite mSeq = true ∧ (sIdle.get (F.SRV_SLOT_CTL_ENABLE p1.val j63.val) = 0 ∨ sIdle.gsetNamed p1.val j63.val k7.val = false)) ∧
    -- sSlot mAdm p1 j63 wF §2 k7 j0
    (sSlot.mayWrite mAdm = true ∧ (sSlot.get (F.SRV_SLOT_CTL_ENABLE p1.val j63.val) = 0 ∨ sSlot.gsetNamed p1.val j63.val k7.val = false)) ∧
    -- sSlot mAdm p1 j63 wF §3 k0 j0
    (sSlot.mayWrite mAdm = true ∧ sSlot.get (F.SRV_SLOT_CTL_ENABLE p1.val j63.val) = 1 ∧ sSlot.gsetNamed p1.val j63.val k0.val = true) ∧
    -- sLimit mSeq p1 j63 (5 : Word) §4
    (sLimit.mayWrite mSeq = true ∧ sLimit.geti (F.SRV_LIM_LO_LIM p1.val j63.val) ≤ toSigned 32 (BitVec.toNat (5 : Word))) ∧
    -- sLimit mSeq p1 j63 (5 : Word) §5
    (sLimit.mayWrite mSeq = true ∧ toSigned 32 (BitVec.toNat (5 : Word)) ≤ sLimit.geti (F.SRV_LIM_HI_LIM p1.val j63.val)) ∧
    -- sLimit mSeq p1 j63 (4 : Word) §6
    (sLimit.mayWrite mSeq = true ∧ toSigned 32 (BitVec.toNat (4 : Word)) < sLimit.geti (F.SRV_LIM_LO_LIM p1.val j63.val)) ∧
    -- sSlot mSeq p1 j63 w0 §7
    (sSlot.mayWrite mSeq = true ∧ sSlot.get (F.SRV_SLOT_STAT_FE_FAULT p1.val j63.val) = 1) ∧
    -- sIdle mSeq p1 j63 (0x3FF00FFD : Word) §8 k7
    (sIdle.mayWrite mSeq = true ∧ (sIdle.get (F.SRV_TRC_STAT_STATE p1.val k7.val) = 0 ∨ sIdle.get (F.SRV_TRC_STAT_STATE p1.val k7.val) = 3) ∧
      sIdle.get (F.SRV_TRC_CTL_ARM p1.val k7.val) = 0 ∧ bitsOf (BitVec.toNat (1072697341 : Word)) 0 1 = 1 ∧ bitsOf (BitVec.toNat (1072697341 :
      Word)) 1 1 = 0 ∧ bitsOf (BitVec.toNat (1072697341 : Word)) 20 10 ≠ 0) ∧
    -- (st [(F.SRV_TRC_STAT_STATE 0 0, 3)]) mSeq p0 j0 (0x00100001 : Word) §8 k0
    ((st [(F.SRV_TRC_STAT_STATE 0 0, 3)]).mayWrite mSeq = true ∧ ((st [(F.SRV_TRC_STAT_STATE 0 0, 3)]).get (F.SRV_TRC_STAT_STATE p0.val k0.val) = 0
      ∨ (st [(F.SRV_TRC_STAT_STATE 0 0, 3)]).get (F.SRV_TRC_STAT_STATE p0.val k0.val) = 3) ∧ (st [(F.SRV_TRC_STAT_STATE 0 0, 3)]).get
      (F.SRV_TRC_CTL_ARM p0.val k0.val) = 0 ∧ bitsOf (BitVec.toNat (1048577 : Word)) 0 1 = 1 ∧ bitsOf (BitVec.toNat (1048577 : Word)) 1 1 = 0 ∧
      bitsOf (BitVec.toNat (1048577 : Word)) 20 10 ≠ 0) := by
  and_intros <;> decide +kernel

theorem test_meets_ServoEnginesRunFramesAndEndTheirFaults :
    -- sStop p1 §1 frame0
    (sStop.drivesLive = true ∧ sStop.engineStopped p1 = true) ∧
    -- sRun p1 §2 frame0
    (sRun.drivesLive = true ∧ sRun.engineStopped p1 = false ∧ frame0.ecc ≠ Ecc.uncorrectable ∧ frame0.overrun = false) ∧
    -- sRun p1 §3 frameEcc
    (sRun.drivesLive = true ∧ sRun.engineStopped p1 = false ∧ (frameEcc.ecc = Ecc.uncorrectable ∨ frameEcc.overrun = true)) ∧
    -- sRun p1 §3 frameOver
    (sRun.drivesLive = true ∧ sRun.engineStopped p1 = false ∧ (frameOver.ecc = Ecc.uncorrectable ∨ frameOver.overrun = true)) ∧
    -- sSafe p1 §4 frame0
    sSafe.drivesLive = false ∧
    -- sRst p1 §4 frame0
    sRst.drivesLive = false ∧
    -- sHold p1 §5
    (mBRINGUP ≤ sHold.mode ∧ sHold.mode ≠ mRETENTION ∧ sHold.servos[p1].holding = true) := by
  and_intros <;> decide +kernel

theorem test_meets_MotorCommandsAreObeyed :
    -- sMot k3 §1 (3 : Fin 4)
    (sMot.drivesTake = true ∧ k3.val < 4 ∧ sMot.motorShut k3 = false ∧ (sMot.motorState k3 = mtOFF ∨ sMot.motorState k3 = mtCOAST) ∧ sMot.bayState
      (bayOfMotor k3).val ≠ bWRITING) ∧
    -- sRamp k7 §2
    (sRamp.drivesLive = true ∧ sRamp.get (F.MOT_CTL_ENABLE k7.val) = 1 ∧ (sRamp.motorState k7 = mtRAMP ∨ sRamp.motorState k7 = mtAT_SPEED)) ∧
    -- sRamp k7 §3
    (sRamp.drivesLive = true ∧ sRamp.get (F.MOT_CTL_ENABLE k7.val) = 1 ∧ sRamp.motorState k7 ≠ mtLATCHED) ∧
    -- sMot k7 §4 (-2147483648)
    (sMot.drivesTake = true ∧ 4 ≤ k7.val ∧ sMot.motorShut k7 = false ∧ (sMot.motorState k7 = mtOFF ∨ sMot.motorState k7 = mtCOAST)) ∧
    -- sMot k3 §5
    (sMot.drivesTake = true ∧ sMot.get (F.MOT_CTL_ENABLE k3.val) = 1 ∧ sMot.motorState k3 = mtOFF ∧ sMot.motors[k3].atRest = true) ∧
    -- sRamp k7 §6
    (sRamp.drivesTake = true ∧ sRamp.get (F.MOT_CTL_ENABLE k7.val) = 1 ∧ (sRamp.motorState k7 ≠ mtOFF ∨ sRamp.motors[k7].atRest = false)) ∧
    -- sMot k0 §7
    (sMot.drivesTake = true ∧ sMot.get (F.MOT_CTL_ENABLE k0.val) = 0) ∧
    -- sMot k0 §8 mSeq [8191, 8192]
    (sMot.mayWrite mSeq = true ∧ sMot.get (F.MOT_CTL_ENABLE k0.val) = 0 ∧ [(8191 : ℤ), (8192 : ℤ)] ≠ []) ∧
    -- sMot k3 §9 mSeq []
    sMot.mayWrite mSeq = true ∧
    -- sGates k3 §10
    (sGates.drivesLive = true ∧ sGates.motors[k3].gates = true) := by
  and_intros <;> decide +kernel

theorem test_meets_MotorStartsAndEndsFollowTheTable :
    -- sCatch0 k3 §1
    (sCatch0.drivesLive = true ∧ sCatch0.motorState k3 = mtCATCH ∧ sCatch0.motors[k3].stopLater = false ∧ sCatch0.motors[k3].catchCounts.natAbs < 2
      ∧ sCatch0.motors[k3].bemf < sCatch0.get (F.MOT_OBS_BEMF_MIN k3.val) * 2 ^ 23 ∧ sCatch0.motors[k3].target = (0 : ℤ)) ∧
    -- sCatch k3 §2
    (sCatch.drivesLive = true ∧ sCatch.motorState k3 = mtCATCH ∧ sCatch.motors[k3].stopLater = false ∧ 2 ≤ sCatch.motors[k3].catchCounts.natAbs ∧ (0
      : ℤ) ≤ sCatch.motors[k3].target ∧ (0 : ℤ) ≤ sCatch.geti (F.MOT_SPEED_RPM k3.val) ∧ sCatch.geti (F.MOT_SPEED_RPM k3.val) ≤
      sCatch.motors[k3].target ∧ sCatch.motors[k3].angleRef = true) ∧
    -- sZero k0 §3
    (sZero.drivesLive = true ∧ sZero.motorState k0 = mtHOLD_ZERO ∧ sZero.motors[k0].atRest = true ∧ sZero.motors[k0].target ≠ (0 : ℤ) ∧ sZero.get
      (F.MOT_WIRING_CHECKED k0.val) = 1) ∧
    -- sRev k7 §4
    (sRev.drivesLive = true ∧ sRev.motorState k7 = mtBRAKE ∧ sRev.motors[k7].reverse = true) ∧
    -- sChk k7 §5 wire20
    (sChk.drivesLive = true ∧ sChk.motorState k7 = mtCHECK ∧ sChk.motors[k7].checkWait = 0 ∧ (sChk.motors[k7].checkStep = 1 ∨
      sChk.motors[k7].checkStep = 2) ∧ wire20.index = none ∧ 20 ≤ wire20.phaseU ∧ 20 ≤ wire20.phaseV ∧ 20 ≤ wire20.phaseW) ∧
    -- sIdx k3 §6
    (sIdx.drivesLive = true ∧ sIdx.motorState k3 ≠ mtRESYNC ∧ sIdx.motors[k3].indexSeen = false ∧ k3.val < 4 ∧ sIdx.get (F.MOT_WIRING_OFS_VALID
      k3.val) = 1 ∧ sIdx.motors[k3].indexDue = false) ∧
    -- sNoIdx k3 §7
    (sNoIdx.drivesLive = true ∧ sNoIdx.get (F.MOT_STAT_NO_INDEX k3.val) = 0 ∧ 2 * countsPerRev k3 ≤ sNoIdx.motors[k3].sinceIndex) ∧
    -- sSync k0 §8
    (sSync.drivesLive = true ∧ sSync.motorState k0 = mtRESYNC) ∧
    -- sPwm k3 §9 pwm0
    (sPwm.drivesLive = true ∧ k3.val < 4 ∧ sPwm.pwmDue k3 = true) ∧
    -- sRun k0 §10 b3 (-5)
    (sRun.drivesLive = true ∧ sRun.motorState (spindleOf b3) ≠ mtAT_SPEED ∧ sRun.motorState (spindleOf b3) ≠ mtRAMP ∧ sRun.motors[spindleOf
      b3].target = (0 : ℤ)) := by
  and_intros <;> decide +kernel

theorem test_meets_StepAxesObeyCommands :
    -- sAx a12 §1 100 true
    (sAx.drivesTake = true ∧ sAx.axisShut a12 = false ∧ sAx.axisReach a12 (100 : ℤ) = true ∧ sAx.axisState a12 = axIDLE ∧ sAx.axes[a12].queue = [] ∧
      (a12.val % 4 ≠ 3 ∨ sAx.get (F.STP_STAT_HOMED a12.val) = 1)) ∧
    -- sAx a12 §1 0 false
    (sAx.drivesTake = true ∧ sAx.axisShut a12 = false ∧ sAx.axisReach a12 (0 : ℤ) = true ∧ sAx.axisState a12 = axIDLE ∧ sAx.axes[a12].queue = [] ∧
      (a12.val % 4 ≠ 3 ∨ sAx.get (F.STP_STAT_HOMED a12.val) = 1)) ∧
    -- sAx a12 §2 101 true
    (sAx.drivesTake = true ∧ (sAx.axisShut a12 = true ∨ sAx.axisReach a12 (101 : ℤ) = false)) ∧
    -- sAx a0 §2 0 true
    (sAx.drivesTake = true ∧ (sAx.axisShut a0 = true ∨ sAx.axisReach a0 (0 : ℤ) = false)) ∧
    -- sFull a12 §3 100 true
    (sFull.drivesTake = true ∧ sFull.axisShut a12 = false ∧ sFull.axisReach a12 (100 : ℤ) = true ∧ 8 ≤ sFull.axes[a12].queue.length) ∧
    -- sAxRun a12 §4 mv5 []
    (sAxRun.drivesTake = true ∧ sAxRun.axisShut a12 = false ∧ sAxRun.axisState a12 = axRUN ∧ sAxRun.axes[a12].queue = [mv5] ∧ mv5.pair = false ∧
      mv5.target ≠ sAxRun.stopPoint a12) ∧
    -- sAxPause a12 §5 mv5 []
    (sAxPause.drivesTake = true ∧ sAxPause.axisShut a12 = false ∧ sAxPause.axisState a12 = axPAUSED ∧ sAxPause.axes[a12].queue = [mv5] ∧ mv5.pair =
      false ∧ sAxPause.axes[a12].homing = false) ∧
    -- sAxHome a15 §6
    (sAxHome.drivesTake = true ∧ sAxHome.axisShut a15 = false ∧ sAxHome.axisState a15 = axPAUSED ∧ sAxHome.axes[a15].homing = true) ∧
    -- sAxRun a12 §7
    (sAxRun.drivesTake = true ∧ sAxRun.axisShut a12 = false) ∧
    -- sAx a12 §8
    (sAx.drivesTake = true ∧ sAx.axisShut a12 = false ∧ sAx.axisState a12 = axIDLE) ∧
    -- sAx a12 §9 b3 100 0 true
    (sAx.drivesTake = true ∧ a12 = axisOf b3 (0 : Fin 4) ∧ sAx.axisShut a12 = false ∧ sAx.axisShut (otherSled a12) = false ∧ sAx.axisReach a12 (100
      : ℤ) = true ∧ sAx.axisReach (otherSled a12) (0 : ℤ) = true ∧ sAx.axisState a12 = axIDLE ∧ sAx.axisState (otherSled a12) = axIDLE ∧
      sAx.axes[a12].queue = [] ∧ sAx.axes[otherSled a12].queue = []) ∧
    -- sAxHi a12 §10
    (sAxHi.drivesTake = true ∧ (sAxHi.axisPos a12 = sAxHi.geti (F.STP_LIM_HI_LIM a12.val) ∧ (0 : ℤ) < sAxHi.axes[a12].corr ∨ sAxHi.axisPos a12 =
      sAxHi.geti (F.STP_LIM_LO_LIM a12.val) ∧ sAxHi.axes[a12].corr < (0 : ℤ))) ∧
    -- sAxLo a12 §10
    (sAxLo.drivesTake = true ∧ (sAxLo.axisPos a12 = sAxLo.geti (F.STP_LIM_HI_LIM a12.val) ∧ (0 : ℤ) < sAxLo.axes[a12].corr ∨ sAxLo.axisPos a12 =
      sAxLo.geti (F.STP_LIM_LO_LIM a12.val) ∧ sAxLo.axes[a12].corr < (0 : ℤ))) := by
  and_intros <;> decide +kernel

theorem test_meets_StepMovesEndAndSensorsAreTaken :
    -- (sAx.put (F.STP_STAT_STATE 15) 6) a15 §1
    ((sAx.put (F.STP_STAT_STATE 15) 6).drivesLive = true ∧ (sAx.put (F.STP_STAT_STATE 15) 6).axisState a15 = axHOMING ∧ (sAx.put (F.STP_STAT_STATE
      15) 6).axes[a15].queue = [] ∧ (sAx.put (F.STP_STAT_STATE 15) 6).axes[a15].seek = none) ∧
    -- (sAx.put (F.STP_STAT_STATE 12) 4) a12 §2
    ((sAx.put (F.STP_STAT_STATE 12) 4).drivesLive = true ∧ (sAx.put (F.STP_STAT_STATE 12) 4).axisState a12 = axSETTLE) ∧
    -- sAx a15 §3
    (sAx.drivesLive = true ∧ sAx.get (F.STP_STAT_DRV_FAULT a15.val) = 0) ∧
    -- sAx a12 §3
    (sAx.drivesLive = true ∧ sAx.get (F.STP_STAT_DRV_FAULT a12.val) = 0) ∧
    -- sSens a0 §4 b3 sens1
    (sSens.awake = true ∧ sSens.bays[b3].samples = [sens1, sens1]) := by
  and_intros <;> decide +kernel

theorem test_meets_ReadFrontEndFollowsInputsAndLanes :
    -- sIdle §1 §1 n35 frm0
    ((∀ g ∈ sIdle.frames, g.waiting = false) ∧ sIdle.laneRuns n35 = false) ∧
    -- sLaneIn §1 §2 n35 frm0 i31
    ((∀ g ∈ sLaneIn.frames, g.waiting = false) ∧ sLaneIn.channelsLive = true ∧ sLaneIn.laneRuns n35 = true ∧ sLaneIn.laneInput n35.val = i31.val ∧
      sLaneIn.inputs[i31].trial = none ∧ (∀ (m : Fin 36), sLaneIn.lanes[m].frames.length < 7) ∧ frm0.lost = false ∧ (sLaneIn.runLane n35
      frm0).timing.held = false ∧ (∀ g ∈ sLaneIn.frames, g.rung < 4) ∧ sLaneIn.detectors[opuOfInput i31.val].cut = [] ∧ sLaneIn.get
      (F.RCH_JD_STAT_UNBOUND (opuOfInput ↑i31).val) = 0) ∧
    -- sLaneNo §1 §2 n35 frm0 i29
    ((∀ g ∈ sLaneNo.frames, g.waiting = false) ∧ sLaneNo.channelsLive = true ∧ sLaneNo.laneRuns n35 = true ∧ sLaneNo.laneInput n35.val = i29.val ∧
      sLaneNo.inputs[i29].trial = none ∧ (∀ (m : Fin 36), sLaneNo.lanes[m].frames.length < 7) ∧ frm0.lost = false ∧ (sLaneNo.runLane n35
      frm0).timing.held = false ∧ (∀ g ∈ sLaneNo.frames, g.rung < 4) ∧ sLaneNo.detectors[opuOfInput i29.val].cut = [] ∧ sLaneNo.get
      (F.RCH_JD_STAT_UNBOUND (opuOfInput ↑i29).val) = 0) ∧
    -- sFoc §2 i31 7 §1
    (sFoc.channelsLive = true ∧ sFoc.get (F.BAY_OPT_STAT_FOCUS_LOCKED (opuOfInput ↑i31).val) = 1 ∧ 7 < 8 ∧ sFoc.optics[opuOfInput i31.val].lockedAt
      + sFoc.revolution (bayOf (opuOfInput i31.val)) ≤ sFoc.now ∧ sFoc.get (F.RCH_IN_GAIN_PGA i31.val) ≠ 120 ∧ sFoc.inputs[i31].held = [] ∧
      sFoc.laneOf i31.val = none ∧ sFoc.inputs[i31].next = none) ∧
    -- sLaneF §2 i31 7 §2 n35
    (sLaneF.channelsLive = true ∧ sLaneF.get (F.BAY_OPT_STAT_FOCUS_LOCKED (opuOfInput ↑i31).val) = 1 ∧ 7 < 8 ∧ sLaneF.optics[opuOfInput
      i31.val].lockedAt + sLaneF.revolution (bayOf (opuOfInput i31.val)) ≤ sLaneF.now ∧ sLaneF.get (F.RCH_IN_GAIN_PGA i31.val) ≠ 120 ∧ sLaneF.laneOf
      i31.val = some n35 ∧ sLaneF.laneRuns n35 = true) ∧
    -- sFoc120 §2 i31 7 §3
    (sFoc120.channelsLive = true ∧ sFoc120.get (F.BAY_OPT_STAT_FOCUS_LOCKED (opuOfInput ↑i31).val) = 1 ∧ 7 < 8 ∧ sFoc120.optics[opuOfInput
      i31.val].lockedAt + sFoc120.revolution (bayOf (opuOfInput i31.val)) ≤ sFoc120.now ∧ sFoc120.get (F.RCH_IN_GAIN_PGA i31.val) = 120) ∧
    -- sIdle §3 mSeq i31 (0x1FF1 : Word) §1
    (sIdle.mayWrite mSeq = true ∧ sIdle.get (F.RCH_IN_CTL_ENABLE i31.val) = 0 ∧ 16 ≤ bitsOf (BitVec.toNat (8177 : Word)) 4 8 ∧ 1 ≤ bitsOf
      (BitVec.toNat (8177 : Word)) 12 4 ∧ bitsOf (BitVec.toNat (8177 : Word)) 2 1 = sIdle.get (F.RCH_IN_CTL_POL_INV i31.val)) ∧
    -- sIdle §3 mSeq i31 (0x76543211 : Word) §2
    (sIdle.mayWrite mSeq = true ∧ badMap (sIdle.get (F.RCH_IN_SUB_FAILED i31.val)) (BitVec.toNat (1985229329 : Word)) = true) ∧
    -- sIdle §3 mSeq i31 (0x76543289 : Word) §3
    (sIdle.mayWrite mSeq = true ∧ badMap (sIdle.get (F.RCH_IN_SUB_FAILED i31.val)) (BitVec.toNat (1985229449 : Word)) = false ∧
      sIdle.inputs[i31].held = [] ∧ sIdle.laneOf i31.val = none ∧ sIdle.inputs[i31].next = none) ∧
    -- sLaneIn §3 mSeq i31 (0x76543210 : Word) §4 n35
    (sLaneIn.mayWrite mSeq = true ∧ badMap (sLaneIn.get (F.RCH_IN_SUB_FAILED i31.val)) (BitVec.toNat (1985229328 : Word)) = false ∧ sLaneIn.laneOf
      i31.val = some n35 ∧ sLaneIn.laneRuns n35 = true) ∧
    -- sRun §4 i31
    sRun.channelsLive = true ∧
    -- sUnb §5 mSeq n35 (0x3F : Word) §1
    (sUnb.mayWrite mSeq = true ∧ bitsOf (BitVec.toNat (63 : Word)) 1 5 = sUnb.laneInput n35.val ∧ sUnb.get (F.RCH_LANE_BIND_ENABLE n35.val) = 0 ∧
      bitsOf (BitVec.toNat (63 : Word)) 0 1 = 1 ∧ sUnb.laneOf (sUnb.laneInput n35.val) = none ∧ sUnb.get (F.RCH_LANE_STAT_FAILED n35.val) = 0) ∧
    -- sLaneIn §5 mSeq n35 (0x3E : Word) §2
    (sLaneIn.mayWrite mSeq = true ∧ bitsOf (BitVec.toNat (62 : Word)) 1 5 = sLaneIn.laneInput n35.val ∧ sLaneIn.get (F.RCH_LANE_BIND_ENABLE n35.val)
      = 1 ∧ bitsOf (BitVec.toNat (62 : Word)) 0 1 = 0) ∧
    -- sUnbF §5 mSeq n35 (0x3F : Word) §3
    (sUnbF.mayWrite mSeq = true ∧ bitsOf (BitVec.toNat (63 : Word)) 1 5 = sUnbF.laneInput n35.val ∧ sUnbF.get (F.RCH_LANE_BIND_ENABLE n35.val) = 0 ∧
      bitsOf (BitVec.toNat (63 : Word)) 0 1 = 1 ∧ sUnbF.get (F.RCH_LANE_STAT_FAILED n35.val) = 1) ∧
    -- sRun §6 n35 §1
    (sRun.channelsLive = true ∧ sRun.get (F.RCH_LANE_STAT_FAILED n35.val) = 0 ∧ sRun.chip.recovering = [] ∧ sRun.get (F.RCH_LANE_BIND_ENABLE
      n35.val) = 0) ∧
    -- sLaneJ §6 n35 §2 i31 n0 §1
    (sLaneJ.channelsLive = true ∧ sLaneJ.get (F.RCH_LANE_STAT_FAILED n35.val) = 0 ∧ sLaneJ.chip.recovering = [] ∧ sLaneJ.get (F.RCH_LANE_BIND_ENABLE
      n35.val) = 1 ∧ sLaneJ.laneInput n35.val = i31.val ∧ sLaneJ.inputs[i31].trial = none ∧ sLaneJ.freeLanes.head? = some n0 ∧ sLaneJ.waitingInputs
      = [] ∧ sLaneJ.spokesCome (opuOfInput i31.val) = false) ∧
    -- sLaneIn §6 n35 §2 i31 n0 §2
    (sLaneIn.channelsLive = true ∧ sLaneIn.get (F.RCH_LANE_STAT_FAILED n35.val) = 0 ∧ sLaneIn.chip.recovering = [] ∧ sLaneIn.get
      (F.RCH_LANE_BIND_ENABLE n35.val) = 1 ∧ sLaneIn.laneInput n35.val = i31.val ∧ sLaneIn.inputs[i31].trial = none ∧ sLaneIn.freeLanes.head? = some
      n0 ∧ sLaneIn.waitingInputs = [] ∧ sLaneIn.spokesCome (opuOfInput i31.val) = true) ∧
    -- sTake §7 k7 (3 : Fin 4) spoke0 n35 0
    (sTake.channelsLive = true ∧ sTake.inputs[Fin.ofNat 32 (4 * k7.val + (3 : Fin 4).val)].next = some (NextLane.takeover n35.val, 0)) := by
  and_intros <;> decide +kernel

theorem test_meets_DetectionDeliversOrPoisons :
    -- sRdg k7 §1 §1 1136127
    (sRdg.channelsLive = true ∧ sRdg.get F.LDP_CTL_ENABLE = 1 ∧ sRdg.get (F.RCH_JD_STAT_UNBOUND k7.val) = 0 ∧ sRdg.detectors[k7].centred = none ∧ (∀
      g ∈ sRdg.frames, g.waiting = false ∧ g.rung < 5) ∧ (sRdg.bayState (bayOf k7).val = bREADING ∨ sRdg.bayState (bayOf k7).val = bREADY) ∧ (∀ f ∈
      sRdg.frames, f.opu ≠ k7.val)) ∧
    -- sRdgH k7 §1 §2 3 fwH
    (sRdgH.channelsLive = true ∧ sRdgH.get F.LDP_CTL_ENABLE = 1 ∧ sRdgH.get (F.RCH_JD_STAT_UNBOUND k7.val) = 0 ∧ sRdgH.detectors[k7].centred = none
      ∧ (∀ g ∈ sRdgH.frames, g.waiting = false ∧ g.rung < 5) ∧ sRdgH.bayState (bayOf k7).val = bREADING ∧ fwH ∈ sRdgH.frames ∧ fwH.opu = k7.val ∧
      fwH.half = !sRdgH.detectors[k7].half ∧ sRdgH.frameSpent fwH = false) ∧
    -- sIdle k0 §2 0 0 §1
    sIdle.frameAt k0 0 0 = none ∧
    -- sIdle k0 §2 0 0 §2
    (sIdle.frameAt k0 0 0 = none ∧ (∀ g ∈ sIdle.frames, g.waiting = false)) ∧
    -- sRdgF k7 §3 9 1 fw7
    (sRdgF.channelsLive = true ∧ sRdgF.detectors[k7].centred = none ∧ (∀ g ∈ sRdgF.frames, g.waiting = false ∧ g.rung < 5) ∧ sRdgF.frameAt k7 9 1 =
      some fw7 ∧ fw7.rung = 0 ∧ fw7.decoder.isSome = true ∧ fw7.role ≠ MemberRole.heldOver ∧ fw7.g + 1 < sRdgF.get F.LDP_CTL_GLOBAL_MAX) ∧
    -- s_fw7r k7 §4 9 1 fw7r §1
    (s_fw7r.channelsLive = true ∧ s_fw7r.detectors[k7].centred = none ∧ (∀ g ∈ s_fw7r.frames, g.waiting = false ∧ g.rung ≠ 5) ∧ s_fw7r.frameAt k7 9
      1 = some fw7r ∧ 1 ≤ fw7r.rung ∧ fw7r.misdirected = false ∧ fw7r.parity = false ∧ s_fw7r.nextRung k7 fw7r.again fw7r.rung = none) ∧
    -- s_fw6r k7 §4 9 1 fw6r §1
    (s_fw6r.channelsLive = true ∧ s_fw6r.detectors[k7].centred = none ∧ (∀ g ∈ s_fw6r.frames, g.waiting = false ∧ g.rung ≠ 5) ∧ s_fw6r.frameAt k7 9
      1 = some fw6r ∧ 1 ≤ fw6r.rung ∧ fw6r.misdirected = false ∧ fw6r.parity = false ∧ s_fw6r.nextRung k7 fw6r.again fw6r.rung = none) ∧
    -- s_fwR k7 §4 9 1 fwR §2 3
    (s_fwR.channelsLive = true ∧ s_fwR.detectors[k7].centred = none ∧ (∀ g ∈ s_fwR.frames, g.waiting = false ∧ g.rung ≠ 5) ∧ s_fwR.frameAt k7 9 1 =
      some fwR ∧ 1 ≤ fwR.rung ∧ fwR.misdirected = false ∧ fwR.parity = false ∧ s_fwR.nextRung k7 fwR.again fwR.rung = some 3 ∧ 3 ≤ 3 ∧ fwR.top ≤ 3 ∧
      fwR.needs ≠ [] ∧ (∀ c ∈ fwR.needs, 3 ≤ s_fwR.ladderMax c)) ∧
    -- s_fwR1 k7 §4 9 1 fwR1 §2 2
    (s_fwR1.channelsLive = true ∧ s_fwR1.detectors[k7].centred = none ∧ (∀ g ∈ s_fwR1.frames, g.waiting = false ∧ g.rung ≠ 5) ∧ s_fwR1.frameAt k7 9
      1 = some fwR1 ∧ 1 ≤ fwR1.rung ∧ fwR1.misdirected = false ∧ fwR1.parity = false ∧ s_fwR1.nextRung k7 fwR1.again fwR1.rung = some 2 ∧ 2 ≤ 3 ∧
      fwR1.top ≤ 2 ∧ fwR1.needs ≠ [] ∧ (∀ c ∈ fwR1.needs, 2 ≤ s_fwR1.ladderMax c)) ∧
    -- sRbNo k7 §5 f3 1027 0 discB fwB §2
    (sRbNo.channelsLive = true ∧ sRbNo.discIn (bayOf k7) = some discB ∧ bitAt (sRbNo.get F.LDP_STAT_OUTER_FAILED) f3.val = false ∧ sRbNo.frameAt k7
      1027 0 = some fwB ∧ 3 ≤ fwB.rung ∧ (List.map (sRbNo.blockSector k7 (discB.band (bandOf (k7.val % 2) fwB.layer (zoneOf 1027)))) ((discB.band
      (bandOf (k7.val % 2) fwB.layer (zoneOf 1027))).blockPlaces ((discB.band (bandOf (k7.val % 2) fwB.layer (zoneOf 1027))).frameAt (1027 %
      bandTracks) 0 / (16 + (discB.band (bandOf (k7.val % 2) fwB.layer (zoneOf 1027))).parity)))).any Option.isNone = true ∧ rebuildBlock
      (discB.band (bandOf (k7.val % 2) fwB.layer (zoneOf 1027))).parity (List.map (sRbNo.blockSector k7 (discB.band (bandOf (k7.val % 2) fwB.layer
      (zoneOf 1027)))) ((discB.band (bandOf (k7.val % 2) fwB.layer (zoneOf 1027))).blockPlaces ((discB.band (bandOf (k7.val % 2) fwB.layer (zoneOf
      1027))).frameAt (1027 % bandTracks) 0 / (16 + (discB.band (bandOf (k7.val % 2) fwB.layer (zoneOf 1027))).parity)))) = none) ∧
    -- sIdle k0 §6 a15 §1
    (sIdle.awake = true ∧ sIdle.chip.recovering = [] ∧ bitAt (sIdle.get F.LDP_STAT_DEC_FAILED) a15.val = false) ∧
    -- sIdle k0 §6 (3 : Fin 16) §2
    (sIdle.awake = true ∧ sIdle.chip.recovering = [] ∧ (3 : Fin 16).val < 4 ∧ bitAt (sIdle.get F.LDP_STAT_OUTER_FAILED) (3 : Fin 16).val = false) := by
  and_intros <;> decide +kernel

theorem test_meets_WritePathTrainsWritesAndStops :
    -- sLm k7 §1 mSeq
    (sLm.mayWrite mSeq = true ∧ sLm.writers[k7].busy = false ∧ sLm.writers[k7].training = none ∧ sLm.get (F.BAY_LASER_LIM_MAX k7.val) ≠ 0) ∧
    -- sWrA k7 §2 mSeq
    (sWrA.mayWrite mSeq = true ∧ sWrA.writers[k7].busy = true) ∧
    -- sBegin k7 §3 0 discB sess9
    (sBegin.channelsLive = true ∧ sBegin.discIn (bayOf k7) = some discB ∧ sBegin.bays[bayOf k7].session = some sess9 ∧ sBegin.writers[k7].skipped =
      [] ∧ sBegin.mayBegin k7 sess9 discB = true ∧ 0 < sptOf (bandZone (discB.sideBand (k7.val % 2)).num)) ∧
    -- sIdle k0 §4 0
    (sIdle.writers[k0].skipped = [] ∧ sIdle.bayState (bayOf k0).val ≠ bWRITING ∧ sIdle.bayState (bayOf k0).val ≠ bREADY) ∧
    -- sWri k7 §5
    (sWri.channelsLive = true ∧ sWri.writers[k7].active = true ∧ 57000 * sWri.writers[k7].spt ≤ sWri.writers[k7].reach ∧ sWri.bayState (bayOf
      k7).val = bWRITING ∧ sWri.bays[bayOf k7].parkLater = false) ∧
    -- sWri k7 §6 99
    (sWri.channelsLive = true ∧ sWri.mode ≠ mDRAIN ∧ sWri.writers[k7].active = true ∧ 99 < sWri.writers[k7].spt ∧ sWri.writers[k7].reach ≠ 0 ∧ 57000
      * 99 ≤ sWri.writers[k7].reach ∧ sWri.writers[k7].stopAt = some 1 ∧ sWri.get (F.WRP_STAT_RAW_BURST k7.val) = 0 ∧ sWri.bayState (bayOf k7).val =
      bWRITING ∧ sWri.bays[bayOf k7].parkLater = false) ∧
    -- sWri k7 §6 0
    (sWri.channelsLive = true ∧ sWri.mode ≠ mDRAIN ∧ sWri.writers[k7].active = true ∧ 0 < sWri.writers[k7].spt ∧ sWri.writers[k7].reach ≠ 0 ∧ 57000
      * 0 ≤ sWri.writers[k7].reach ∧ sWri.writers[k7].stopAt = some 1 ∧ sWri.get (F.WRP_STAT_RAW_BURST k7.val) = 0 ∧ sWri.bayState (bayOf k7).val =
      bWRITING ∧ sWri.bays[bayOf k7].parkLater = false) ∧
    -- sSus k0 §7 b3 sessS disc9
    (sSus.drivesTake = true ∧ sSus.bays[b3].session = some sessS ∧ sSus.discIn b3 = some disc9 ∧ sessS.suspended = true ∧ (sSus.bayState b3.val =
      bREADY ∨ sSus.bayState b3.val = bREADING) ∧ sSus.get F.CAL_THERM_LEVEL < 3) ∧
    -- sLm k7 §8 1027 17
    (sLm.channelsLive || sLm.writers[k7].tLane) = true ∧
    -- sIdle k7 §9 0 0 (1 : Fin 2) (.passport 1)
    (RawFrame.passport (1 : Fin 2) ∈ [RawFrame.relocated 0 0, RawFrame.directory (1 : Fin 2), RawFrame.passport (1 : Fin 2)] ∧ sIdle.writers[k7].job
      = none) ∧
    -- (st [(F.WRP_STAT_RAW_BURST 7, 1)]) k7 §10 mSeq
    (st [(F.WRP_STAT_RAW_BURST 7, 1)]).mayWrite mSeq = true := by
  and_intros <;> decide +kernel

theorem test_meets_CalibrationAndThrottlingFollowTheirRules :
    -- sCalW §1 (10 : Fin 12) 63
    (sCalW.awake = true ∧ sCalW.get F.CAL_CTL_ENABLE = 1 ∧ calElement (10 : Fin 12).val 63 = true ∧ sCalW.calDue (10 : Fin 12).val 63 = true ∧
      sCalW.calState (10 : Fin 12).val 63 = true ∧ sCalW.calPinned (10 : Fin 12).val 63 = false ∧ sCalW.calBusy (10 : Fin 12).val 63 = false) ∧
    -- sCal §1 (0 : Fin 12) 505
    (sCal.awake = true ∧ sCal.get F.CAL_CTL_ENABLE = 1 ∧ calElement (0 : Fin 12).val 505 = true ∧ sCal.calDue (0 : Fin 12).val 505 = true ∧
      sCal.calState (0 : Fin 12).val 505 = true ∧ sCal.calPinned (0 : Fin 12).val 505 = false ∧ sCal.calBusy (0 : Fin 12).val 505 = false) ∧
    -- sCalL §1 (4 : Fin 12) 63
    (sCalL.awake = true ∧ sCalL.get F.CAL_CTL_ENABLE = 1 ∧ calElement (4 : Fin 12).val 63 = true ∧ sCalL.calDue (4 : Fin 12).val 63 = true ∧
      sCalL.calState (4 : Fin 12).val 63 = true ∧ sCalL.calPinned (4 : Fin 12).val 63 = false ∧ sCalL.calBusy (4 : Fin 12).val 63 = false) ∧
    -- sCalOff §2 (11 : Fin 12) 7
    (sCalOff.awake = true ∧ (sCalOff.get F.CAL_CTL_ENABLE = 0 ∨ sCalOff.calDue (11 : Fin 12).val 7 = false ∨ sCalOff.calBusy (11 : Fin 12).val 7 =
      true) ∧ sCalOff.cal.requested = []) ∧
    -- sRun0 §2 (11 : Fin 12) 7
    (sRun0.awake = true ∧ (sRun0.get F.CAL_CTL_ENABLE = 0 ∨ sRun0.calDue (11 : Fin 12).val 7 = false ∨ sRun0.calBusy (11 : Fin 12).val 7 = true) ∧
      sRun0.cal.requested = []) ∧
    -- sRun0 §3 (11 : Fin 12) 7 [16383] run11
    (sRun0.awake = true ∧ sRun0.insts = [] ∧ sRun0.calState (11 : Fin 12).val 7 = true ∧ List.find? (fun r => r.kind == (11 : Fin 12).val && r.elem
      == 7) sRun0.cal.runs = some run11 ∧ run11.estimates = []) ∧
    -- sRun0G §4 (11 : Fin 12) 7 [16383] run11
    (sRun0G.awake = true ∧ sRun0G.insts = [] ∧ sRun0G.calState (11 : Fin 12).val 7 = false ∧ List.find? (fun r => r.kind == (11 : Fin 12).val &&
      r.elem == 7) sRun0G.cal.runs = some run11) ∧
    -- sRun1 §5 k7 est0 est1 run11b
    (sRun1.awake = true ∧ sRun1.insts = [] ∧ sRun1.calState 11 k7.val = true ∧ List.find? (fun r => r.kind == 11 && r.elem == k7.val) sRun1.cal.runs
      = some run11b ∧ run11b.estimates = [[est0]] ∧ (est0 - est1).natAbs ≤ 2 ∧ (0 : ℤ) ≤ est0 ∧ est0 ≤ (16383 : ℤ) ∧ (0 : ℤ) ≤ est1 ∧ est1 ≤ (16383
      : ℤ)) ∧
    -- sCalOff §6 b3
    (sCalOff.awake = true ∧ sCalOff.get F.CAL_CTL_ENABLE = 0) ∧
    -- sWinM §7 b3
    (sWinM.awake = true ∧ sWinM.get F.CAL_CTL_ENABLE = 1 ∧ sWinM.speedPin b3.val = 0 ∧ sWinM.cal.entries[b3] < sWinM.get F.CAL_SPEED_DOWN ∧
      sWinM.get F.CAL_SPEED_UP < sWinM.cal.entries[b3]) ∧
    -- sWinL §8 b3
    (sWinL.awake = true ∧ sWinL.get F.CAL_CTL_ENABLE = 1 ∧ sWinL.speedPin b3.val = 0 ∧ sWinL.cal.entries[b3] < sWinL.get F.CAL_SPEED_DOWN ∧
      sWinL.cal.entries[b3] ≤ sWinL.get F.CAL_SPEED_UP ∧ sWinL.cal.windows[b3] + 1 < sWinL.get F.CAL_SPEED_UP_WINDOWS) ∧
    -- sIdle §9 94
    (sIdle.awake = true ∧ throttleLevel (94 : ℤ) ≤ sIdle.get F.CAL_THERM_LEVEL) ∧
    -- sIdle §9 (-200)
    (sIdle.awake = true ∧ throttleLevel (-200 : ℤ) ≤ sIdle.get F.CAL_THERM_LEVEL) ∧
    -- sIdle §10 95
    (sIdle.awake = true ∧ sIdle.get F.CAL_THERM_LEVEL < throttleLevel (95 : ℤ)) ∧
    -- sIdle §10 200
    (sIdle.awake = true ∧ sIdle.get F.CAL_THERM_LEVEL < throttleLevel (200 : ℤ)) ∧
    -- sTh3 §11 102 3
    (sTh3.awake = true ∧ sTh3.get F.CAL_THERM_LEVEL = 3 ∧ 1 ≤ 3 ∧ 3 ≤ 3 ∧ (102 : ℤ) + (3 : ℤ) ≤ throttleEntry 3) ∧
    -- sTh1 §11 92 1
    (sTh1.awake = true ∧ sTh1.get F.CAL_THERM_LEVEL = 1 ∧ 1 ≤ 1 ∧ 1 ≤ 3 ∧ (92 : ℤ) + (3 : ℤ) ≤ throttleEntry 1) := by
  and_intros <;> decide +kernel

theorem test_meets_LandingZoneProgramsErasesAndReads :
    -- sFlz §1 100 blkOpen
    (sFlz.awake = true ∧ sFlz.mayProgram = true ∧ sFlz.zone = zNORMAL ∧ sFlz.insts = [] ∧ sFlz.cache = [] ∧ sFlz.flash.copies = [] ∧ List.find? (fun
      b => (b.state == BlockState.openData || b.state == BlockState.openLog) && decide (15 ≤ b.filled)) sFlz.flash.blocks = some blkOpen ∧
      blkOpen.closing = false ∧ blkOpen.row + 1 < sFlz.dataRows ∧ sFlz.get F.FLZ_STAT_IDLE_GC_RUN = 0 ∧ sFlz.get F.FLZ_GC_THR_LOW ≤ sFlz.freeBlocks
      ∧ 1 ≤ sFlz.freeBlocks) ∧
    -- sFlzOff §2 false 3
    (sFlzOff.awake = true ∧ sFlzOff.get F.FLZ_CTL_ENABLE = 0) ∧
    -- sEr §3 3 blkEr §1
    (sEr.awake = true ∧ sEr.block 3 = some blkEr ∧ blkEr.state = BlockState.erasing ∧ sEr.zone = zNORMAL ∧ sEr.insts = [] ∧ sEr.flash.spareRise = 0
      ∧ sEr.get F.FLZ_STAT_IDLE_GC_RUN = 0 ∧ sEr.get F.FLZ_GC_THR_LOW ≤ sEr.freeBlocks ∧ (blkEr.members.any fun m => sEr.lunFailed m.1 ||
      sEr.nv.sys.retired.contains m) = false) ∧
    -- sEr §3 3 blkEr §2
    (sEr.awake = true ∧ sEr.block 3 = some blkEr ∧ blkEr.state = BlockState.erasing ∧ sEr.zone = zNORMAL ∧ sEr.insts = [] ∧ sEr.flash.spareRise = 0
      ∧ sEr.get F.FLZ_STAT_IDLE_GC_RUN = 0 ∧ sEr.get F.FLZ_GC_THR_LOW ≤ sEr.freeBlocks) ∧
    -- sRdp §4 3 65535 15 64 pgUser
    (sRdp.awake = true ∧ sRdp.insts = [] ∧ List.find? (fun p => (p.lblock, p.row, p.pos) == (3, 65535, 15)) sRdp.nv.sys.pages = some pgUser ∧ 0 < 64
      ∧ 64 ≤ sRdp.strength 3 ∧ 64 ≤ if sRdp.get F.FLZ_ECC_CTL_REFRESH = 0 then sRdp.strength 3 / 2 else sRdp.get F.FLZ_ECC_CTL_REFRESH) ∧
    -- sRdp §4 3 65535 15 1 pgUser
    (sRdp.awake = true ∧ sRdp.insts = [] ∧ List.find? (fun p => (p.lblock, p.row, p.pos) == (3, 65535, 15)) sRdp.nv.sys.pages = some pgUser ∧ 0 < 1
      ∧ 1 ≤ sRdp.strength 3 ∧ 1 ≤ if sRdp.get F.FLZ_ECC_CTL_REFRESH = 0 then sRdp.strength 3 / 2 else sRdp.get F.FLZ_ECC_CTL_REFRESH) ∧
    -- sRdp §5 3 65535 14 none true
    (sRdp.awake = true ∧ List.find? (fun p => (p.lblock, p.row, p.pos) == (3, 65535, 14)) sRdp.nv.sys.pages = none) ∧
    -- sIdl §6
    (sIdl.awake = true ∧ sIdl.get F.FLZ_CTL_ENABLE = 1 ∧ sIdl.zone ≠ zFROZEN ∧ sIdl.idleGc = true) ∧
    -- sFlzOff §7
    (sFlzOff.awake = true ∧ (sFlzOff.get F.FLZ_CTL_ENABLE = 0 ∨ sFlzOff.zone = zFROZEN)) ∧
    -- sShut §7
    (sShut.awake = true ∧ (sShut.get F.FLZ_CTL_ENABLE = 0 ∨ sShut.zone = zFROZEN)) ∧
    -- sGate §8 5 iGate
    (sGate.awake = true ∧ sGate.inst 5 = some iGate ∧ iGate.stage = Stage.gated ∧ sGate.gateOpen iGate = true ∧ iGate.orphan = false ∧ iGate.demoted
      = false ∧ (∃ r ∈ sGate.fns[iGate.fn].cqs, r.num = iGate.cq) ∧ sGate.quietBut 5) ∧
    -- sShut §9 5 iGate
    (sShut.awake = true ∧ sShut.inst 5 = some iGate ∧ sShut.gateOpen iGate = false ∧ sShut.mode ≠ mDRAIN) ∧
    -- sLun §10 (255 : Fin 256)
    (sLun.awake = true ∧ sLun.insts = [] ∧ sLun.chip.recovering = [] ∧ sLun.lunFailed (255 : Fin 256).val = false ∧ (sLun.flash.luns.any fun l =>
      l.lun == (255 : Fin 256).val) = true) ∧
    -- sLun §11 (0 : Fin 256)
    (sLun.awake = true ∧ sLun.insts = [] ∧ (∀ l ∈ sLun.flash.luns, l.lun / 32 ≠ (0 : Fin 256).val / 32)) ∧
    -- sReb §12 (255 : Fin 256)
    (sReb.awake = true ∧ sReb.flash.rebuilding.contains (255 : Fin 256).val = true ∧ (sReb.flash.blocks.any fun b => (b.members.any fun m => m.1 ==
      (255 : Fin 256).val) && !(sReb.validPages b.num).isEmpty) = false) ∧
    -- sReb1 §12 (255 : Fin 256)
    (sReb1.awake = true ∧ sReb1.flash.rebuilding.contains (255 : Fin 256).val = true ∧ (sReb1.flash.blocks.any fun b => (b.members.any fun m => m.1
      == (255 : Fin 256).val) && !(sReb1.validPages b.num).isEmpty) = false) := by
  unfold State.quietBut
  and_intros <;> decide +kernel

theorem test_meets_StewardshipStartsSessionsAndScrubs :
    -- sIdle §1 1
    sIdle.sessionDue 1 = false ∧
    -- sDue §2 1 dEnd b3 §1
    (sDue.drivesTake = true ∧ sDue.insts = [] ∧ List.filter (fun d => decide (0 < d.writable) && !d.compacting) (sDue.discsOf 1) = [dEnd] ∧ dEnd.bay
      = some b3 ∧ (sDue.bayState b3.val = bREADY ∨ sDue.bayState b3.val = bREADING) ∧ sDue.bays[b3].session = none ∧ ((opusOf b3).all fun k =>
      sDue.get (F.WRP_CTL_WR_HOLD k.val) == 0) = true ∧ sDue.sessionDue 1 = true) ∧
    -- sDue §2 1 dEnd b3 §2
    (sDue.drivesTake = true ∧ sDue.insts = [] ∧ List.filter (fun d => decide (0 < d.writable) && !d.compacting) (sDue.discsOf 1) = [dEnd] ∧ dEnd.bay
      = some b3 ∧ (sDue.bayState b3.val = bREADY ∨ sDue.bayState b3.val = bREADING) ∧ sDue.bays[b3].session = none ∧ ((opusOf b3).all fun k =>
      sDue.get (F.WRP_CTL_WR_HOLD k.val) == 0) = true ∧ sDue.policy pDESTAGE_AGE * 1000000 < sDue.oldestWait 1) ∧
    -- sDueOut §3 1 dOut §1
    (sDueOut.drivesTake = true ∧ sDueOut.insts = [] ∧ List.filter (fun d => decide (0 < d.writable) && !d.compacting) (sDueOut.discsOf 1) = [dOut] ∧
      dOut.bay = none ∧ (sDueOut.requests.any fun r => r.disc == dOut.id && r.reason == reasonDESTAGE) = false ∧ sDueOut.sessionDue 1 = true ∧ (∀ (b
      : Fin 4), Option.any (fun x => x.vol == 1) sDueOut.bays[b].session = false)) ∧
    -- sDueOut §3 1 dOut §2
    (sDueOut.drivesTake = true ∧ sDueOut.insts = [] ∧ List.filter (fun d => decide (0 < d.writable) && !d.compacting) (sDueOut.discsOf 1) = [dOut] ∧
      dOut.bay = none ∧ (sDueOut.requests.any fun r => r.disc == dOut.id && r.reason == reasonDESTAGE) = false ∧ sDueOut.policy pDESTAGE_AGE *
      1000000 < sDueOut.oldestWait 1 ∧ (∀ e ∈ sDueOut.extents, e.mergeWait = false)) ∧
    -- sScr §4 9 due0 due0 dScr
    (sScr.awake = true ∧ sScr.disc 9 = some dScr ∧ sScr.utc = some due0 ∧ sScr.scrubAt dScr = some due0 ∧ due0 ≤ due0 ∧ dScr.bay.isSome = true) ∧
    -- sScrOut §5 9 sScrOut.nv.utc due0 dScrOut
    (sScrOut.awake = true ∧ sScrOut.disc 9 = some dScrOut ∧ sScrOut.utc = some sScrOut.nv.utc ∧ sScrOut.scrubAt dScrOut = some due0 ∧ due0 ≤
      sScrOut.nv.utc + daySeconds * sScrOut.policy pSCRUB_NOTICE ∧ dScrOut.bay = none ∧ (sScrOut.requests.any fun r => r.disc == 9 && r.reason ==
      reasonSCRUB) = false) ∧
    -- sScrRun §6 9 dRun
    (sScrRun.awake = true ∧ sScrRun.disc 9 = some dRun ∧ dRun.scrubRunning = true ∧ dRun.bay.isSome = true) := by
  and_intros <;> decide +kernel

theorem test_meets_RingsFetchStartAndPost :
    -- sRing f2 §1 j63 (0 : Word) sub63
    (sRing.fns[f2].sq j63.val = some sub63 ∧ sRing.get (F.HST_FN_STAT_READY f2.val) = 1 ∧ BitVec.toNat (0 : Word) < 2 ^ sub63.k ∧ (sub63.tail + 2 ^
      sub63.k - sub63.head) % 2 ^ sub63.k ≤ (BitVec.toNat (0 : Word) + 2 ^ sub63.k - sub63.head) % 2 ^ sub63.k) ∧
    -- sRing f2 §1 j63 (65534 : Word) sub63
    (sRing.fns[f2].sq j63.val = some sub63 ∧ sRing.get (F.HST_FN_STAT_READY f2.val) = 1 ∧ BitVec.toNat (65534 : Word) < 2 ^ sub63.k ∧ (sub63.tail +
      2 ^ sub63.k - sub63.head) % 2 ^ sub63.k ≤ (BitVec.toNat (65534 : Word) + 2 ^ sub63.k - sub63.head) % 2 ^ sub63.k) ∧
    -- sRing f2 §2 j0 wF
    (sRing.fns[f2].sq j0.val = none ∨ sRing.get (F.HST_FN_STAT_READY f2.val) = 0) ∧
    -- sIdle f0 §2 j63 wF
    (sIdle.fns[f0].sq j63.val = none ∨ sIdle.get (F.HST_FN_STAT_READY f0.val) = 0) ∧
    -- sRingH f2 §3 j63 (3 : Word) comHeld
    (sRingH.fns[f2].cqOf j63.val = some comHeld ∧ sRingH.get (F.HST_FN_STAT_READY f2.val) = 1 ∧ BitVec.toNat (3 : Word) < 2 ^ comHeld.k ∧
      (BitVec.toNat (3 : Word) + 2 ^ comHeld.k - comHeld.head) % 2 ^ comHeld.k ≤ (comHeld.tail + 2 ^ comHeld.k - comHeld.head) % 2 ^ comHeld.k) ∧
    -- sRingH f2 §3 j63 (2 : Word) comHeld
    (sRingH.fns[f2].cqOf j63.val = some comHeld ∧ sRingH.get (F.HST_FN_STAT_READY f2.val) = 1 ∧ BitVec.toNat (2 : Word) < 2 ^ comHeld.k ∧
      (BitVec.toNat (2 : Word) + 2 ^ comHeld.k - comHeld.head) % 2 ^ comHeld.k ≤ (comHeld.tail + 2 ^ comHeld.k - comHeld.head) % 2 ^ comHeld.k) ∧
    -- sRing f2 §4 j0 wF
    sRing.fns[f2].cqOf j0.val = none ∧
    -- sRing f2 §5 j63 dNop sub63 0
    (sRing.fns[f2].sq j63.val = some sub63 ∧ sRing.fetches f2 j63.val = true ∧ sub63.head ≠ sub63.tail ∧ sRing.sequencerFor = some 0) ∧
    -- sIdle f2 §6 j63 dNop false
    sIdle.fetches f2 j63.val = false ∧
    -- sRing f2 §7 j63 dNop sub63 0
    (sRing.fns[f2].sq j63.val = some sub63 ∧ sRing.fetches f2 j63.val = true ∧ sub63.head ≠ sub63.tail ∧ sRing.sequencerFor = some 0 ∧ sRing.insts =
      []) ∧
    -- sQok f0 §8 5 iQ §1
    (sQok.inst 5 = some iQ ∧ iQ.stage = Stage.queued ∧ sQok.get F.SEQ_STAT_RUN = 1 ∧ sQok.mayStart iQ = true ∧ iQ.chain = none ∧ sQok.quietBut 5 ∧
      sQok.checkOpcode iQ = none ∧ iQ.class_ ≠ 0) ∧
    -- sQbad f0 §8 5 iQ §2 ((0x100, 0) : Nat × Nat)
    (sQbad.inst 5 = some iQ ∧ iQ.stage = Stage.queued ∧ sQbad.get F.SEQ_STAT_RUN = 1 ∧ sQbad.mayStart iQ = true ∧ iQ.chain = none ∧ sQbad.quietBut 5
      ∧ sQbad.checkOpcode iQ = some (256, 0) ∧ iQ.orphan = false ∧ (∃ r ∈ sQbad.fns[iQ.fn].cqs, r.num = iQ.cq)) ∧
    -- sPost f2 §9 j63 comW cmp0 [] §1
    (sPost.fns[f2].cqOf j63.val = some comW ∧ comW.waiting = [cmp0] ∧ comW.held + 1 < 2 ^ comW.k ∧ sPost.quiet) ∧
    -- sPostF f2 §9 j63 comF cmp0 [] §2 true
    (sPostF.fns[f2].cqOf j63.val = some comF ∧ comF.waiting = [cmp0] ∧ 2 ^ comF.k ≤ comF.held + 1) := by
  unfold State.quietBut State.quiet
  and_intros <;> decide +kernel

theorem test_meets_StrandsAndVolumesAreMadeAndQueried :
    -- sNop 5 iNop §1
    (sNop.ready 5 opNOP iNop ∧ iNop.checkFields { } [] { } = none) ∧
    -- sOpen 5 iOpen §2 1 vol5
    (sOpen.ready 5 opOPEN iOpen ∧ firstFail (sOpen.checkOpen iOpen) = none ∧ bitAt iOpen.operand 2 = false ∧ sOpen.freeStrandNum = some 1 ∧
      List.find? (fun v => v.num == iOpen.volume) sOpen.volumes = some vol5 ∧ (∀ c ∈ sOpen.cache, c.strand ≠ 1)) ∧
    -- sAdopt 5 iAdopt §3 str1
    (sAdopt.ready 5 opOPEN iAdopt ∧ firstFail (sAdopt.checkOpen iAdopt) = none ∧ bitAt iAdopt.operand 2 = true ∧ sAdopt.strand iAdopt.strand = some
      str1 ∧ sAdopt.mayAdopt iAdopt.fn str1 = true ∧ str1.vol = iAdopt.volume) ∧
    -- sQs 5 iQs §4 str2 mOk §1
    (sQs.ready 5 opQUERYS iQs ∧ hostGood mOk ∧ iQs.checkFields { strand := true, volume := true, operand := 1, buffer := true } [] mOk = none ∧
      sQs.checkVolume iQs = none ∧ sQs.checkOwnStrand iQs = none ∧ iQs.checkBuffer 128 mOk = none ∧ sQs.strand iQs.strand = some str2 ∧ bitAt
      iQs.operand 0 = false) ∧
    -- sQr 5 iQr §4 strC mOk §2
    (sQr.ready 5 opQUERYS iQr ∧ hostGood mOk ∧ iQr.checkFields { strand := true, volume := true, operand := 1, buffer := true } [] mOk = none ∧
      sQr.checkVolume iQr = none ∧ sQr.checkOwnStrand iQr = none ∧ iQr.checkBuffer 128 mOk = none ∧ sQr.strand iQr.strand = some strC ∧ bitAt
      iQr.operand 0 = true ∧ (strC.state = StrandState.closed ∨ strC.state = StrandState.sealed)) ∧
    -- sCv 5 iCv §5
    (sCv.ready 5 opCREATEV iCv ∧ iCv.checkFields { volume := true, operand := 15, rest := some (36, 16) } [] { } = none ∧ 2 ≤ iCv.operand % 8 ∧
      iCv.operand % 8 ≤ 4 ∧ sCv.deleting iCv.volume iCv.id = false ∧ (∀ v ∈ sCv.volumes, v.num ≠ iCv.volume) ∧ (∀ j ∈ sCv.insts, j.id < 5 → j.opcode
      = opCREATEV → j.volume ≠ iCv.volume)) ∧
    -- sCv2 5 iCv2 §5
    (sCv2.ready 5 opCREATEV iCv2 ∧ iCv2.checkFields { volume := true, operand := 15, rest := some (36, 16) } [] { } = none ∧ 2 ≤ iCv2.operand % 8 ∧
      iCv2.operand % 8 ≤ 4 ∧ sCv2.deleting iCv2.volume iCv2.id = false ∧ (∀ v ∈ sCv2.volumes, v.num ≠ iCv2.volume) ∧ (∀ j ∈ sCv2.insts, j.id < 5 →
      j.opcode = opCREATEV → j.volume ≠ iCv2.volume)) ∧
    -- sQv 5 iQv §6 vol5 mOk
    (sQv.ready 5 opQUERYV iQv ∧ hostGood mOk ∧ iQv.checkFields { volume := true, buffer := true } [] mOk = none ∧ sQv.checkVolume iQv = none ∧
      iQv.checkBuffer 128 mOk = none ∧ List.find? (fun v => v.num == iQv.volume) sQv.volumes = some vol5) := by
  unfold State.ready State.canFinish hostGood State.quiet
  and_intros <;> decide +kernel

theorem test_meets_WaitingDataCommandsEnd :
    -- sFl 5 iFl §1 §1
    (sFl.ready 5 opFLUSH iFl ∧ iFl.checkFields { strand := true, operand := 1 } [] { } = none ∧ sFl.checkSomeStrand iFl = none ∧ iFl.operand = 0 ∧
      sFl.zone ≠ zFROZEN ∧ sFl.cache = [] ∧ (∀ c ∈ iFl.covers, sFl.lostIn c = 0)) ∧
    -- sFl2 5 iFl2 §1 §2
    (sFl2.ready 5 opFLUSH iFl2 ∧ iFl2.checkFields { strand := true, operand := 1 } [] { } = none ∧ sFl2.checkSomeStrand iFl2 = none ∧ iFl2.operand =
      0 ∧ sFl2.zone ≠ zFROZEN ∧ (∃ c ∈ iFl2.covers, sFl2.pendingLanding c = true)) ∧
    -- sCl 5 iCl §2 str2 mOk §1
    (sCl.ready 5 opCLOSE iCl ∧ hostGood mOk ∧ iCl.checkFields { strand := true, volume := true, buffer := true } [] mOk = none ∧ sCl.checkVolume iCl
      = none ∧ sCl.checkOwnStrand iCl = none ∧ iCl.checkBuffer 64 mOk = none ∧ sCl.strand iCl.strand = some str2 ∧ sCl.cache = [] ∧ str2.state =
      StrandState.opened ∧ str2.digestPoisoned = false ∧ (∀ j ∈ sCl.insts, j.opcode = opWRITE → j.strand ≠ iCl.strand)) ∧
    -- sClC 5 iCl §2 strC mOk §2
    (sClC.ready 5 opCLOSE iCl ∧ hostGood mOk ∧ iCl.checkFields { strand := true, volume := true, buffer := true } [] mOk = none ∧ sClC.checkVolume
      iCl = none ∧ sClC.checkOwnStrand iCl = none ∧ iCl.checkBuffer 64 mOk = none ∧ sClC.strand iCl.strand = some strC ∧ sClC.cache = [] ∧
      (strC.state = StrandState.closed ∨ strC.state = StrandState.sealed)) ∧
    -- sSeS 5 iSe §3 strS mOk §1 [1, 2]
    (sSeS.ready 5 opSEAL iSe ∧ hostGood mOk ∧ iSe.checkFields { strand := true, volume := true, buffer := true } [] mOk = none ∧ sSeS.checkVolume
      iSe = none ∧ sSeS.checkOwnStrand iSe = none ∧ iSe.checkBuffer 256 mOk = none ∧ sSeS.chip.degraded.contains Degraded.identity = false ∧
      sSeS.strand iSe.strand = some strS ∧ (strS.state = StrandState.closed ∨ strS.state = StrandState.sealed) ∧ sSeS.cache = [] ∧ sSeS.nv.sys.pages
      = [] ∧ strS.sealRecord = some [(1 : Byte), (2 : Byte)]) ∧
    -- sSe 5 iSe §3 strC mOk §2
    (sSe.ready 5 opSEAL iSe ∧ hostGood mOk ∧ iSe.checkFields { strand := true, volume := true, buffer := true } [] mOk = none ∧ sSe.checkVolume iSe
      = none ∧ sSe.checkOwnStrand iSe = none ∧ iSe.checkBuffer 256 mOk = none ∧ sSe.chip.degraded.contains Degraded.identity = false ∧ sSe.strand
      iSe.strand = some strC ∧ (strC.state = StrandState.closed ∨ strC.state = StrandState.sealed) ∧ sSe.cache = [] ∧ sSe.nv.sys.pages = [] ∧
      strC.sealRecord = none ∧ strC.digestPoisoned = false ∧ strC.incomplete = false ∧ strC.lost = 0) ∧
    -- sDv 5 iDv §4
    (sDv.ready 5 opDELETEV iDv ∧ iDv.checkFields { volume := true, operand := 2 ^ 32 - 1 } [] { } = none ∧ iDv.operand = sDv.createSeq iDv.volume %
      2 ^ 32 ∧ sDv.checkVolume iDv = none ∧ (∀ t ∈ sDv.strands, t.vol = iDv.volume → t.state ≠ StrandState.opened ∧ t.state ≠ StrandState.closing) ∧
      (∀ j ∈ sDv.insts, j.id < 5 → j.volume = iDv.volume → j.opcode = opDELETEV) ∧ (∀ (b : Fin 4), Option.any (fun x => x.vol == iDv.volume)
      sDv.bays[b].session = false)) ∧
    -- sRt 5 iRt §5
    (sRt.ready 5 opRETIRE iRt ∧ iRt.checkFields { volume := true, lsa := true, count := some (1, 2 ^ 32 - 1) } [] { } = none ∧ sRt.checkVolume iRt =
      none) ∧
    -- sRtL 5 iRtL §5
    (sRtL.ready 5 opRETIRE iRtL ∧ iRtL.checkFields { volume := true, lsa := true, count := some (1, 2 ^ 32 - 1) } [] { } = none ∧ sRtL.checkVolume
      iRtL = none) := by
  unfold State.ready State.canFinish hostGood State.quiet
  and_intros <;> decide +kernel

theorem test_meets_SectorsAreWrittenAndRead :
    -- sWr 5 iWr mOk §1 [1, 2] str2 §1
    (sWr.ready 5 opWRITE iWr ∧ hostGood mOk ∧ sWr.earlierWrite iWr = false ∧ iWr.checkFields
      { strand := true, volume := true, lsa := true, count := some (1, 65536), buffer := true } [] mOk = none ∧ sWr.checkOpenStrand iWr true = none
      ∧ sWr.checkVolume iWr = none ∧ iWr.checkBuffer (4096 * iWr.count) mOk = none ∧ sWr.strand iWr.strand = some str2 ∧ sWr.demandWith iWr.volume
      iWr.lsa iWr.count str2.compress ≤ sWr.writable iWr.volume) ∧
    -- sWr 5 iWr mOk §1 [1, 2] str2 §2
    (sWr.ready 5 opWRITE iWr ∧ hostGood mOk ∧ sWr.earlierWrite iWr = false ∧ iWr.checkFields
      { strand := true, volume := true, lsa := true, count := some (1, 65536), buffer := true } [] mOk = none ∧ sWr.checkOpenStrand iWr true = none
      ∧ sWr.checkVolume iWr = none ∧ iWr.checkBuffer (4096 * iWr.count) mOk = none ∧ sWr.strand iWr.strand = some str2 ∧ sWr.demandWith iWr.volume
      iWr.lsa iWr.count str2.compress ≤ sWr.writable iWr.volume ∧ iWr.cls ≠ 0 ∧ sWr.zone = zNORMAL ∧ sWr.get F.FLZ_GC_THR_LOW ≤ sWr.freeBlocks ∧ (∀
      j ∈ sWr.insts, j.stage ≠ Stage.gated) ∧ (∀ c ∈ sWr.cache, c.inst ≠ 5) ∧ 8 * (sWr.dramOnly + 4096 * iWr.count) ≤ 7 * sWr.dramLimit) ∧
    -- sRe 5 iRe mOk §2 §1 fnd
    (sRe.ready 5 opREAD iRe ∧ hostGood mOk ∧ iRe.checkFields
      { strand := true, volume := true, lsa := true, count := some (1, 65536), buffer := true } [] mOk = none ∧ sRe.checkSomeStrand iRe = none ∧
      sRe.checkVolume iRe = none ∧ iRe.salvage = false ∧ iRe.checkBuffer (4096 * iRe.count) mOk = none ∧ sRe.mode ≠ mSAFE ∧ sRe.discNeeds iRe false
      = [] ∧ allSome (List.map (fun k => sRe.findSector iRe false (iRe.lsa + k)) (List.range iRe.count)) = some fnd ∧ (∀ f ∈ fnd, f.poison = false)) ∧
    -- sReD 5 iRe mOk §2 §2 255 9 []
    (sReD.ready 5 opREAD iRe ∧ hostGood mOk ∧ iRe.checkFields
      { strand := true, volume := true, lsa := true, count := some (1, 65536), buffer := true } [] mOk = none ∧ sReD.checkSomeStrand iRe = none ∧
      sReD.checkVolume iRe = none ∧ iRe.salvage = false ∧ iRe.checkBuffer (4096 * iRe.count) mOk = none ∧ sReD.mode ≠ mSAFE ∧ sReD.discNeeds iRe
      false = [(255, 9)] ∧ (sReD.disc 9).bind Disc.bay = none) ∧
    -- sVe 5 iVe mOk §3 §1 fnd
    (sVe.ready 5 opVERIFY iVe ∧ iVe.checkFields { strand := true, volume := true, lsa := true, count := some (1, 65536), operand := 1 } [] { } =
      none ∧ sVe.checkSomeStrand iVe = none ∧ sVe.checkVolume iVe = none ∧ sVe.mode ≠ mSAFE ∧ sVe.discNeeds iVe (bitAt iVe.operand 0) = [] ∧ allSome
      (List.map (fun k => sVe.findSector iVe (bitAt iVe.operand 0) (iVe.lsa + k)) (List.range iVe.count)) = some fnd ∧ (∀ f ∈ fnd, f.poison =
      false)) ∧
    -- sVeD 5 iVe mOk §3 §2 255 9 []
    (sVeD.ready 5 opVERIFY iVe ∧ iVe.checkFields { strand := true, volume := true, lsa := true, count := some (1, 65536), operand := 1 } [] { } =
      none ∧ sVeD.checkSomeStrand iVe = none ∧ sVeD.checkVolume iVe = none ∧ sVeD.mode ≠ mSAFE ∧ sVeD.discNeeds iVe (bitAt iVe.operand 0) = [(255,
      9)] ∧ (sVeD.disc 9).bind Disc.bay = none) := by
  unfold State.ready State.canFinish hostGood State.quiet
  and_intros <;> decide +kernel

theorem test_meets_DiscsAreMountedBoundAndScrubbed :
    -- sMo1 5 iMo §1 mOk fnd0 §1 dB
    (hostGood mOk ∧ sMo1.bayFirst iMo = true ∧ sMo1.ready 5 opMOUNT iMo ∧ firstFail (sMo1.checkMount iMo mOk) = none ∧ sMo1.discIn iMo.bay = some
      dB) ∧
    -- sMo2b 5 iMo §1 mOk fnd0 §2 §1
    (hostGood mOk ∧ sMo2b.bayFirst iMo = true ∧ sMo2b.ready 5 opMOUNT iMo ∧ firstFail (sMo2b.checkMount iMo mOk) = none ∧ sMo2b.discIn iMo.bay =
      none ∧ sMo2b.bayState iMo.bay.val ≠ bLOADED ∧ sMo2b.bayState iMo.bay.val ≠ bEMPTY) ∧
    -- sMo2 5 iMoL §1 mOk fnd0 §2 §2
    (hostGood mOk ∧ sMo2.bayFirst iMoL = true ∧ sMo2.ready 5 opMOUNT iMoL ∧ firstFail (sMo2.checkMount iMoL mOk) = none ∧ sMo2.discIn iMoL.bay =
      none ∧ sMo2.bayState iMoL.bay.val ≠ bLOADED ∧ sMo2.bayState iMoL.bay.val = bEMPTY) ∧
    -- sMo2c 5 iMoL §1 mOk fnd0 §2 §3
    (hostGood mOk ∧ sMo2c.bayFirst iMoL = true ∧ sMo2c.ready 5 opMOUNT iMoL ∧ firstFail (sMo2c.checkMount iMoL mOk) = none ∧ sMo2c.discIn iMoL.bay =
      none ∧ sMo2c.bayState iMoL.bay.val ≠ bLOADED ∧ sMo2c.bayState iMoL.bay.val = bEMPTY ∧ sMo2c.mode = mACTIVE ∧ sMo2c.get (F.BAY_STAT_TRAY_CLOSED
      iMoL.bay.val) = 1) ∧
    -- sMo2d 5 iMoL §1 mOk fnd0 §2 §4
    (hostGood mOk ∧ sMo2d.bayFirst iMoL = true ∧ sMo2d.ready 5 opMOUNT iMoL ∧ firstFail (sMo2d.checkMount iMoL mOk) = none ∧ sMo2d.discIn iMoL.bay =
      none ∧ sMo2d.bayState iMoL.bay.val ≠ bLOADED ∧ sMo2d.bayState iMoL.bay.val = bEMPTY ∧ sMo2d.mode = mPARK) ∧
    -- sMo3 5 iMoW §1 mOk fnd0 §3 dO
    (hostGood mOk ∧ sMo3.bayFirst iMoW = true ∧ sMo3.going 5 opMOUNT iMoW ∧ (sMo3.bayState iMoW.bay.val = bREADY ∨ sMo3.bayState iMoW.bay.val =
      bREADING) ∧ fnd0.sideMismatch = false ∧ (∃ k ∈ opusOf iMoW.bay, sMo3.get (F.RCH_SPK_STAT_SIDE_MISMATCH k.val) = 0) ∧ fnd0.imageMissing = false
      ∧ ((mountIdentity fnd0).bind fun y => sMo3.disc y.1) = some dO) ∧
    -- sUm 5 iUm §2 dB
    (sUm.ready 5 opUNMOUNT iUm ∧ sUm.bayFirst iUm = true ∧ iUm.checkFields { operand := 7 } [] { } = none ∧ sUm.checkBay iUm.bay = none ∧
      sUm.bayState iUm.bay.val = bLOADED ∧ bitAt iUm.operand 2 = false ∧ sUm.discIn iUm.bay = some dB ∧ sUm.discWritten dB = true ∧
      sUm.bays[iUm.bay].session = none ∧ (∀ y ∈ sUm.discs, y.bay = some iUm.bay → y.id = dB.id)) ∧
    -- (sUmE iUm 0 1) 5 iUm §3 §1
    ((sUmE iUm 0 1).ready 5 opUNMOUNT iUm ∧ (sUmE iUm 0 1).bayFirst iUm = true ∧ iUm.checkFields { operand := 7 } [] { } = none ∧ (sUmE iUm 0
      1).checkBay iUm.bay = none ∧ (sUmE iUm 0 1).bayState iUm.bay.val = bEMPTY ∧ (sUmE iUm 0 1).mode ≠ mDRAIN ∧ (sUmE iUm 0 1).discIn iUm.bay =
      none ∧ (sUmE iUm 0 1).bays[iUm.bay].attached = none ∧ (sUmE iUm 0 1).bays[iUm.bay].session = none ∧ bitAt iUm.operand 2 = false) ∧
    -- (sUmE iUmE 0 0) 5 iUmE §3 §2
    ((sUmE iUmE 0 0).ready 5 opUNMOUNT iUmE ∧ (sUmE iUmE 0 0).bayFirst iUmE = true ∧ iUmE.checkFields { operand := 7 } [] { } = none ∧ (sUmE iUmE 0
      0).checkBay iUmE.bay = none ∧ (sUmE iUmE 0 0).bayState iUmE.bay.val = bEMPTY ∧ (sUmE iUmE 0 0).mode ≠ mDRAIN ∧ (sUmE iUmE 0 0).discIn iUmE.bay
      = none ∧ (sUmE iUmE 0 0).bays[iUmE.bay].attached = none ∧ (sUmE iUmE 0 0).bays[iUmE.bay].session = none ∧ bitAt iUmE.operand 2 = true ∧ (sUmE
      iUmE 0 0).get (F.BAY_STAT_TRAY_CLOSED iUmE.bay.val) = 0 ∧ (sUmE iUmE 0 0).get (F.BAY_STAT_CLAMPED iUmE.bay.val) = 0) ∧
    -- (sUmE iUmE 1 1) 5 iUmE §3 §3
    ((sUmE iUmE 1 1).ready 5 opUNMOUNT iUmE ∧ (sUmE iUmE 1 1).bayFirst iUmE = true ∧ iUmE.checkFields { operand := 7 } [] { } = none ∧ (sUmE iUmE 1
      1).checkBay iUmE.bay = none ∧ (sUmE iUmE 1 1).bayState iUmE.bay.val = bEMPTY ∧ (sUmE iUmE 1 1).mode ≠ mDRAIN ∧ (sUmE iUmE 1 1).discIn iUmE.bay
      = none ∧ (sUmE iUmE 1 1).bays[iUmE.bay].attached = none ∧ (sUmE iUmE 1 1).bays[iUmE.bay].session = none ∧ bitAt iUmE.operand 2 = true ∧ (sUmE
      iUmE 1 1).get (F.BAY_STAT_TRAY_CLOSED iUmE.bay.val) = 1 ∧ (sUmE iUmE 1 1).get (F.BAY_STAT_CLAMPED iUmE.bay.val) = 1) ∧
    -- (sUmE iUmE 1 0) 5 iUmE §3 §4
    ((sUmE iUmE 1 0).ready 5 opUNMOUNT iUmE ∧ (sUmE iUmE 1 0).bayFirst iUmE = true ∧ iUmE.checkFields { operand := 7 } [] { } = none ∧ (sUmE iUmE 1
      0).checkBay iUmE.bay = none ∧ (sUmE iUmE 1 0).bayState iUmE.bay.val = bEMPTY ∧ (sUmE iUmE 1 0).mode ≠ mDRAIN ∧ (sUmE iUmE 1 0).discIn iUmE.bay
      = none ∧ (sUmE iUmE 1 0).bays[iUmE.bay].attached = none ∧ (sUmE iUmE 1 0).bays[iUmE.bay].session = none ∧ bitAt iUmE.operand 2 = true ∧ (sUmE
      iUmE 1 0).get (F.BAY_STAT_TRAY_CLOSED iUmE.bay.val) = 1 ∧ (sUmE iUmE 1 0).get (F.BAY_STAT_CLAMPED iUmE.bay.val) = 0) ∧
    -- sIn1 5 iIn §4 mOk [] (0, 0) vol5 §1 (2 ^ 64 - 1)
    (sIn1.ready 5 opINIT iIn ∧ hostGood mOk ∧ sIn1.bayFirst iIn = true ∧ iIn.checkFields { volume := true, operand := 3, buffer := true } [] mOk =
      none ∧ sIn1.checkBay iIn.bay = none ∧ sIn1.checkVolume iIn = none ∧ iIn.checkBuffer 64 mOk = none ∧ sIn1.chip.degraded.contains
      Degraded.identity = false ∧ sIn1.bayReads iIn.bay = true ∧ sIn1.discIn iIn.bay = none ∧ List.find? (fun v => v.num == iIn.volume) sIn1.volumes
      = some vol5 ∧ sIn1.bays[iIn.bay].attached = some (2 ^ 64 - 1, true, true) ∧ sIn1.disc (2 ^ 64 - 1) = none ∧ (0, 0).1 + 1 ≤ passportRoom ∧ (0,
      0).2 + 1 ≤ passportRoom) ∧
    -- sIn2 5 iIn §4 mOk [] (0, 0) vol5 §2 0 false
    (sIn2.ready 5 opINIT iIn ∧ hostGood mOk ∧ sIn2.bayFirst iIn = true ∧ iIn.checkFields { volume := true, operand := 3, buffer := true } [] mOk =
      none ∧ sIn2.checkBay iIn.bay = none ∧ sIn2.checkVolume iIn = none ∧ iIn.checkBuffer 64 mOk = none ∧ sIn2.chip.degraded.contains
      Degraded.identity = false ∧ sIn2.bayReads iIn.bay = true ∧ sIn2.discIn iIn.bay = none ∧ List.find? (fun v => v.num == iIn.volume) sIn2.volumes
      = some vol5 ∧ sIn2.bays[iIn.bay].attached = some (0, false, false) ∧ sIn2.disc sIn2.nextSeq = none ∧ (0, 0).1 + 2 ≤ passportRoom ∧ (0, 0).2 +
      2 ≤ passportRoom) ∧
    -- sSc1 5 iSc §5 dB §1
    (sSc1.ready 5 opSCRUB iSc ∧ iSc.checkFields { operand := 1, rest := some (36, 8) } [] { } = none ∧ sSc1.disc iSc.discId = some dB ∧ dB.retired =
      false ∧ (dB.scrubRunning = false ∨ bitAt iSc.operand 0 = true) ∧ dB.bay.isSome = true) ∧
    -- sSc2 5 iSc §5 dO §2
    (sSc2.ready 5 opSCRUB iSc ∧ iSc.checkFields { operand := 1, rest := some (36, 8) } [] { } = none ∧ sSc2.disc iSc.discId = some dO ∧ dO.retired =
      false ∧ (dO.scrubRunning = false ∨ bitAt iSc.operand 0 = true) ∧ dO.bay = none) := by
  unfold State.ready State.going State.canFinish hostGood State.quietBut State.quiet
  and_intros <;> decide +kernel

theorem test_meets_BaysSpinParkAndCompact :
    -- sCo 5 iCo §1 dB b3 §1
    (sCo.ready 5 opCOMPACT iCo ∧ iCo.checkFields { rest := some (36, 8) } [] { } = none ∧ sCo.disc iCo.discId = some dB ∧ sCo.compactStop dB = none
      ∧ dB.bay = some b3 ∧ sCo.bayReads b3 = true ∧ (∀ c ∈ sCo.cache, c.inst ≠ 5) ∧ sCo.liveExtents dB = []) ∧
    -- sCo2 5 iCo §1 dB b3 §2 rdC 7
    (sCo2.ready 5 opCOMPACT iCo ∧ iCo.checkFields { rest := some (36, 8) } [] { } = none ∧ sCo2.disc iCo.discId = some dB ∧ sCo2.compactStop dB =
      none ∧ dB.bay = some b3 ∧ sCo2.bayReads b3 = true ∧ (∀ c ∈ sCo2.cache, c.inst ≠ 5) ∧ sCo2.allRead dB = true ∧ rdC.lsa ∈ sCo2.liveSectors dB ∧
      sCo2.discSector dB.vol destageClass rdC.lsa = some rdC ∧ List.lookup rdC.lsa (sCo2.extent dB.vol (extentOf rdC.lsa)).onDisc = some 7 ∧
      sCo2.cached dB.vol rdC.lsa = none ∧ sCo2.landed dB.vol rdC.lsa = none) ∧
    -- sSp 5 iSp §2 §1
    (sSp.ready 5 opSPIN iSp ∧ sSp.bayFirst iSp = true ∧ firstFail (sSp.checkSpin iSp) = none ∧ sSp.motorState (spindleOf iSp.bay) = mtAT_SPEED ∧
      sSp.speedClass iSp.bay.val = min (bitsOf iSp.operand 4 3) (sSp.speedCeiling iSp.bay.val)) ∧
    -- sSpL 5 iSp §2 §2
    (sSpL.ready 5 opSPIN iSp ∧ sSpL.bayFirst iSp = true ∧ firstFail (sSpL.checkSpin iSp) = none ∧ sSpL.bayState iSp.bay.val = bLOADED ∧ sSpL.mode =
      mPARK ∧ sSpL.motorState (spindleOf iSp.bay) ≠ mtAT_SPEED ∧ 1 ≤ sSpL.speedCeiling iSp.bay.val ∧ sSpL.speedCeiling iSp.bay.val ≤ 4) ∧
    -- sSpW 5 iSpW §3
    (sSpW.past 5 opSPIN iSpW ∧ sSpW.bayFirst iSpW = true ∧ sSpW.bayState iSpW.bay.val = bREADY ∧ sSpW.mode = mACTIVE ∧ sSpW.motorState (spindleOf
      iSpW.bay) = mtAT_SPEED ∧ (∀ k ∈ opusOf iSpW.bay, sSpW.get (F.BAY_OPT_STAT_ON_TRACK k.val) = 1)) ∧
    -- sPk1 5 iPk §4 §1
    (sPk1.ready 5 opPARK iPk ∧ sPk1.bayFirst iPk = true ∧ iPk.checkFields { operand := 3 } [] { } = none ∧ sPk1.checkBay iPk.bay = none ∧
      sPk1.bayState iPk.bay.val = bLOADED) ∧
    -- sPk2 5 iPk §4 §2
    (sPk2.ready 5 opPARK iPk ∧ sPk2.bayFirst iPk = true ∧ iPk.checkFields { operand := 3 } [] { } = none ∧ sPk2.checkBay iPk.bay = none ∧
      sPk2.bayState iPk.bay.val = bREADY ∧ sPk2.motorState (spindleOf iPk.bay) = mtAT_SPEED ∧ sPk2.motors[spindleOf iPk.bay].atRest = false) := by
  unfold State.ready State.past State.canFinish State.quietBut State.quiet
  and_intros <;> decide +kernel

theorem test_meets_EventsLogsPolicyAndTime :
    -- sEv 5 iEv mOk §1 §1
    (hostGood mOk ∧ sEv.ready 5 opEVENTS iEv ∧ iEv.checkFields { count := some (1, 4096), operand := 1, buffer := true } [] mOk = none ∧
      iEv.checkBuffer (32 * iEv.count) mOk = none ∧ bitAt iEv.operand 0 = false ∧ (∀ r ∈ sEv.evq.recs, r.event ≠ Ev.DEFERRED_ERROR)) ∧
    -- sEvA 5 iEvA mOk §1 §2 er1
    (hostGood mOk ∧ sEvA.ready 5 opEVENTS iEvA ∧ iEvA.checkFields { count := some (1, 4096), operand := 1, buffer := true } [] mOk = none ∧
      iEvA.checkBuffer (32 * iEvA.count) mOk = none ∧ bitAt iEvA.operand 0 = true ∧ sEvA.cache = [] ∧ (sEvA.eventsFor (portOf iEvA.fn)
      iEvA.count).2.getLast? = some er1) ∧
    -- sLg 5 iLg mOk §2
    (hostGood mOk ∧ sLg.ready 5 opLOG iLg ∧ iLg.checkFields { lsa := true, operand := 2 ^ 32 - 1, buffer := true, rest := some (36, 8) } [] mOk =
      none ∧ iLg.checkBuffer 4 mOk = none ∧ iLg.lsa % 4 = 0 ∧ iLg.len % 4 = 0 ∧ sLg.logFails (iLg.operand % 2 ^ 16) (iLg.operand / 2 ^ 16)
      iLg.discId = none ∧ iLg.lsa < (sLg.logPage (iLg.operand % 2 ^ 16) (iLg.operand / 2 ^ 16) iLg.discId).length) ∧
    -- sPo 5 iPo mOk §3 buf1
    (hostGood mOk ∧ sPo.ready 5 opSETP iPo ∧ iPo.checkFields { count := some (1, 46), buffer := true } [] mOk = none ∧ iPo.checkBuffer (16 *
      iPo.count) mOk = none ∧ (∀ n < iPo.count, sPo.entryFails (iPo.entries buf1) n = false)) ∧
    -- sGp 5 iGp mOk §4
    (hostGood mOk ∧ sGp.ready 5 opGETP iGp ∧ iGp.checkFields { buffer := true } [] mOk = none ∧ iGp.checkBuffer 736 mOk = none) ∧
    -- sSt 5 iSt mOk §5
    (hostGood mOk ∧ sSt.ready 5 opSETT iSt ∧ iSt.checkFields { operand := 1, rest := some (36, 8) } [] { } = none ∧ 1704067200 ≤ iSt.bytesAt 36 8 ∧
      (bitAt iSt.operand 0 = true ∨ ∀ (u : ℕ), sSt.utc = some u → u ≤ iSt.bytesAt 36 8 + 86400)) ∧
    -- sSt0 5 iSt0 mOk §5
    (hostGood mOk ∧ sSt0.ready 5 opSETT iSt0 ∧ iSt0.checkFields { operand := 1, rest := some (36, 8) } [] { } = none ∧ 1704067200 ≤ iSt0.bytesAt 36
      8 ∧ (bitAt iSt0.operand 0 = true ∨ ∀ (u : ℕ), sSt0.utc = some u → u ≤ iSt0.bytesAt 36 8 + 86400)) ∧
    -- sGt 5 iGt mOk §6
    (hostGood mOk ∧ sGt.ready 5 opGETT iGt ∧ iGt.checkFields { buffer := true } [] mOk = none ∧ iGt.checkBuffer 32 mOk = none) := by
  unfold State.ready State.canFinish hostGood State.quiet
  and_intros <;> decide +kernel

theorem test_meets_RegistersAreReadAndWritten :
    -- sRr 5 iRr mOk §1 §1
    (sRr.ready 5 opREGR iRr ∧ hostGood mOk ∧ iRr.checkFields { lsa := true, count := some (1, 256), buffer := true } iRr.addrFails mOk = none ∧
      iRr.checkBuffer (4 * iRr.count) mOk = none ∧ iRr.count = 1 ∧ (placeOf iRr.lsa).1.wide (placeOf iRr.lsa).2 = false ∧ (placeOf iRr.lsa).1.wide
      ((placeOf iRr.lsa).2 - 4) = false) ∧
    -- sRrL 5 iRrL mOk §1 §1
    (sRrL.ready 5 opREGR iRrL ∧ hostGood mOk ∧ iRrL.checkFields { lsa := true, count := some (1, 256), buffer := true } iRrL.addrFails mOk = none ∧
      iRrL.checkBuffer (4 * iRrL.count) mOk = none ∧ iRrL.count = 1 ∧ (placeOf iRrL.lsa).1.wide (placeOf iRrL.lsa).2 = false ∧ (placeOf
      iRrL.lsa).1.wide ((placeOf iRrL.lsa).2 - 4) = false) ∧
    -- sRp 5 iRp mOk §1 §2
    (sRp.ready 5 opREGR iRp ∧ hostGood mOk ∧ iRp.checkFields { lsa := true, count := some (1, 256), buffer := true } iRp.addrFails mOk = none ∧
      iRp.checkBuffer (4 * iRp.count) mOk = none ∧ iRp.count = 2 ∧ iRp.lsa = F.LIF_POWER_ON_SEC.addr) ∧
    -- sRw 5 iRw mOk §2 p1 k7 wF §1
    (sRw.ready 5 opREGW iRw ∧ hostGood mOk ∧ isAdmin iRw.fn = true ∧ iRw.count = 1 ∧ iRw.lsa = (F.SRV_TRC_LEVEL_LEVEL p1.val k7.val).addr ∧
      iRw.checkFields { lsa := true, count := some (1, 256), buffer := true } iRw.addrFails mOk = none ∧ iRw.checkBuffer 4 mOk = none) ∧
    -- sRw 5 iRw mOk §2 p1 k7 wF §2 mAdm
    sRw.mayWrite mAdm = true ∧
    -- sRw 5 iRw mOk §2 p1 k7 wF §3 mDat
    sRw.mayWrite mDat = false ∧
    -- sRw 5 iRw mOk §2 p0 k0 wF §4 mSeq
    sRw.mayWrite mSeq = true := by
  unfold State.ready State.canFinish hostGood State.quiet
  and_intros <;> decide +kernel

theorem test_meets_WaitsAndSkipsFollowTheirConditions :
    -- sWt 5 iWt §1
    (sWt.ready 5 opWAIT iWt ∧ iWt.checkFields { count := some (1, 2 ^ 32 - 1), operand := 16135, rest := some (36, 12) } [] { } = none ∧
      iWt.waitKind ≤ 5 ∧ (iWt.waitKind = 2 ∨ iWt.waitKind = 4 ∨ iWt.waitKind = 5 → isAdmin iWt.fn = true) ∧ (iWt.waitKind = 4 → iWt.waitIndex ≤ 3) ∧
      (iWt.waitKind = 3 → (sWt.fns[iWt.fn].sq iWt.waitIndex).isSome = true)) ∧
    -- sWt3 5 iWt3 §1
    (sWt3.ready 5 opWAIT iWt3 ∧ iWt3.checkFields { count := some (1, 2 ^ 32 - 1), operand := 16135, rest := some (36, 12) } [] { } = none ∧
      iWt3.waitKind ≤ 5 ∧ (iWt3.waitKind = 2 ∨ iWt3.waitKind = 4 ∨ iWt3.waitKind = 5 → isAdmin iWt3.fn = true) ∧ (iWt3.waitKind = 4 → iWt3.waitIndex
      ≤ 3) ∧ (iWt3.waitKind = 3 → (sWt3.fns[iWt3.fn].sq iWt3.waitIndex).isSome = true)) ∧
    -- sW5 5 iW5 §2 §1
    (sW5.going 5 opWAIT iW5 ∧ sW5.waitHolds iW5 = true) ∧
    -- sW5n 5 iW5n §2 §2
    (sW5n.going 5 opWAIT iW5n ∧ sW5n.waitHolds iW5n = false) ∧
    -- sW5n 5 iW5n §2 §4
    (sW5n.going 5 opWAIT iW5n ∧ iW5n.waitKind ≠ 0) ∧
    -- sW0 5 iW0 §2 §3
    (sW0.going 5 opWAIT iW0 ∧ iW0.waitKind = 0) ∧
    -- sSk 5 iSk §3 (0, 0, 0, true)
    (sSk.ready 5 opSKIPIF iSk ∧ (sSk.chainOf iSk).bind Chain.last = some (0, 0, 0, true) ∧ iSk.checkFields { operand := 15, rest := some (36, 8) }
      [] { } = none ∧ bitsOf iSk.operand 0 3 ≤ 4) := by
  unfold State.ready State.going State.canFinish State.quietBut State.quiet
  and_intros <;> decide +kernel

theorem test_meets_ResetsReturnElementsToService :
    -- sR0 5 iR0 §1 sub1
    (sR0.ready 5 opRESET iR0 ∧ sR0.checkReset iR0 = none ∧ iR0.scope = 0 ∧ iR0.target ≠ iR0.sq ∧ sR0.fns[iR0.fn].sq iR0.target = some sub1 ∧ (∀ j ∈
      sR0.insts, j.fn = iR0.fn → j.sq ≠ iR0.target) ∧ (∀ q ∈ sR0.fns[iR0.fn].cqs, ∀ c ∈ q.waiting, c.sq ≠ iR0.target)) ∧
    -- sR1 5 iR1 §2 str1
    (sR1.ready 5 opRESET iR1 ∧ sR1.checkReset iR1 = none ∧ iR1.scope = 1 ∧ sR1.strand iR1.strand = some str1 ∧ (∀ j ∈ sR1.insts, j.id < 5 → j.strand
      ≠ iR1.strand)) ∧
    -- sR2 5 iR2 §3 b3 sensOff §1
    (sR2.ready 5 opRESET iR2 ∧ sR2.checkReset iR2 = none ∧ iR2.scope = 2 ∧ iR2.target = b3.val ∧ sR2.checkBay b3 = none ∧ sR2.bayState b3.val =
      bREADY ∧ sR2.motorState (spindleOf b3) = mtAT_SPEED ∧ sR2.motors[spindleOf b3].atRest = false) ∧
    -- sR2b 5 iR2 §3 b3 sensOff §2
    (sR2b.ready 5 opRESET iR2 ∧ sR2b.checkReset iR2 = none ∧ iR2.scope = 2 ∧ iR2.target = b3.val ∧ sR2b.checkBay b3 = none ∧ sR2b.bayState b3.val =
      bEMPTY ∧ sR2b.bayStill b3 = true) ∧
    -- sR3 5 iR3 §4 n35 §1
    (sR3.ready 5 opRESET iR3 ∧ sR3.checkReset iR3 = none ∧ iR3.scope = 3 ∧ iR3.target = n35.val ∧ sR3.get (F.RCH_LANE_STAT_FAILED n35.val) = 1) ∧
    -- sR3b 5 iR3 §4 n35 §2 false
    (sR3b.ready 5 opRESET iR3 ∧ sR3b.checkReset iR3 = none ∧ iR3.scope = 3 ∧ iR3.target = n35.val ∧ sR3b.get (F.RCH_LANE_STAT_FAILED n35.val) = 0 ∧
      sR3b.get (F.RCH_LANE_BIND_ENABLE n35.val) = 0) ∧
    -- sR4 5 iR4 §5 §1
    (sR4.ready 5 opRESET iR4 ∧ sR4.checkReset iR4 = none ∧ iR4.scope = 4 ∧ bitAt sR4.nv.channels iR4.target = true) ∧
    -- sR4 5 iR4 §5 §2 lunBig
    (sR4.ready 5 opRESET iR4 ∧ sR4.checkReset iR4 = none ∧ iR4.scope = 4 ∧ bitAt sR4.nv.channels iR4.target = true ∧ sR4.lunsBack iR4.target
      [lunBig] = [lunBig] ∧ lunBig.lun / 32 = iR4.target ∧ iR4.target < 8 ∧ lunBig.lun < 256) ∧
    -- sR5 5 iR5 §6 p1 j63 §1
    (sR5.ready 5 opRESET iR5 ∧ sR5.checkReset iR5 = none ∧ iR5.scope = 5 ∧ iR5.target = 64 * p1.val + j63.val ∧ sR5.engineStopped p1 = false) ∧
    -- sR5b 5 iR5 §6 p1 j63 §2
    (sR5b.ready 5 opRESET iR5 ∧ sR5b.checkReset iR5 = none ∧ iR5.scope = 5 ∧ iR5.target = 64 * p1.val + j63.val ∧ sR5b.engineStopped p1 = true) := by
  unfold State.ready State.canFinish State.quiet
  and_intros <;> decide +kernel

theorem test_meets_PackagesAreStagedActivatedAndAttested :
    -- sSg 5 iSg mOk §1 pkgBad §2 1 true
    (sSg.ready 5 opSTAGE iSg ∧ hostGood mOk ∧ iSg.len ≤ 2 ^ 23 ∧ iSg.checkFields { buffer := true } [] mOk = none ∧ iSg.checkBuffer iSg.len mOk =
      none ∧ iSg.len = 512 + pkgBad.payload.length ∧ sSg.packageFault pkgBad = some 1) ∧
    -- sAc 5 iAc mOk §2 §2
    (sAc.ready 5 opACTIVATE iAc ∧ iAc.checkFields { } [] { } = none ∧ sAc.slotPkg sAc.nv.staged = none) ∧
    -- sAt 5 iAt mOk §3 §1
    (sAt.ready 5 opATTEST iAt ∧ hostGood mOk ∧ sAt.checkIdentity = none ∧ bitsOf iAt.operand 0 2 = 0 ∧ iAt.checkFields
      { operand := 3, buffer := true, rest := some (36, 28) } [] mOk = none ∧ iAt.checkBuffer 256 mOk = none) := by
  unfold State.ready State.canFinish hostGood State.quiet
  and_intros <;> decide +kernel

theorem test_meets_TracesAndCalibrationsObeyTheirInstructions :
    -- sTa 5 iTa mOk §1 §1
    (sTa.ready 5 opTRACE iTa ∧ iTa.traceOp = 0 ∧ iTa.checkFields { operand := 63, rest := some (36, 12) } [] { } = none ∧ traceCtlBad (iTa.bytesAt
      36 4) = false ∧ sTa.get (F.SRV_TRC_STAT_STATE iTa.engine.val iTa.buf.val) ≠ 1 ∧ sTa.get (F.SRV_TRC_STAT_STATE iTa.engine.val iTa.buf.val) ≠ 2) ∧
    -- sTs 5 iTs mOk §1 §2
    (sTs.ready 5 opTRACE iTs ∧ iTs.traceOp = 1 ∧ iTs.checkFields { operand := 63 } [] { } = none) ∧
    -- sTs1 5 iTs mOk §1 §2
    (sTs1.ready 5 opTRACE iTs ∧ iTs.traceOp = 1 ∧ iTs.checkFields { operand := 63 } [] { } = none) ∧
    -- sTr 5 iTr mOk §1 §3
    (sTr.ready 5 opTRACE iTr ∧ iTr.traceOp = 2 ∧ hostGood mOk ∧ iTr.checkFields { operand := 63, buffer := true } [] mOk = none ∧ iTr.checkBuffer
      (32 + 4 * sTr.traceHeld iTr.engine iTr.buf) mOk = none) ∧
    -- sTt 5 iTt mOk §1 §4
    (sTt.ready 5 opTRACE iTt ∧ iTt.traceOp = 3 ∧ iTt.checkFields { operand := 63 } [] { } = none ∧ sTt.get (F.SRV_TRC_STAT_STATE iTt.engine.val
      iTt.buf.val) = 1 ∧ sTt.get (F.SRV_TRC_CTL_ARM iTt.engine.val iTt.buf.val) = 1) ∧
    -- sCaD 5 iCa mOk §2 §1 (cELEMENT_UNAVAILABLE, Ev.BOOT_STEP_FAIL)
    (sCaD.ready 5 opCALIB iCa ∧ iCa.checkFields { operand := 4294901775 } [] { } = none ∧ iCa.operand % 16 ≤ 11 ∧ calElement (iCa.operand % 16)
      (bitsOf iCa.operand 16 16) = true ∧ sCaD.calUnfitted (iCa.operand % 16) (bitsOf iCa.operand 16 16) = false ∧ sCaD.calDown (iCa.operand % 16)
      (bitsOf iCa.operand 16 16) = some (cELEMENT_UNAVAILABLE, Ev.BOOT_STEP_FAIL)) ∧
    -- sCaP 5 iCa mOk §2 §2 §1
    (sCaP.ready 5 opCALIB iCa ∧ iCa.checkFields { operand := 4294901775 } [] { } = none ∧ iCa.operand % 16 ≤ 11 ∧ calElement (iCa.operand % 16)
      (bitsOf iCa.operand 16 16) = true ∧ sCaP.calUnfitted (iCa.operand % 16) (bitsOf iCa.operand 16 16) = false ∧ sCaP.calDown (iCa.operand % 16)
      (bitsOf iCa.operand 16 16) = none ∧ sCaP.calPinned (iCa.operand % 16) (bitsOf iCa.operand 16 16) = true) ∧
    -- sCaN 5 iCa mOk §2 §2 §2 §1
    (sCaN.ready 5 opCALIB iCa ∧ iCa.checkFields { operand := 4294901775 } [] { } = none ∧ iCa.operand % 16 ≤ 11 ∧ calElement (iCa.operand % 16)
      (bitsOf iCa.operand 16 16) = true ∧ sCaN.calUnfitted (iCa.operand % 16) (bitsOf iCa.operand 16 16) = false ∧ sCaN.calDown (iCa.operand % 16)
      (bitsOf iCa.operand 16 16) = none ∧ sCaN.calPinned (iCa.operand % 16) (bitsOf iCa.operand 16 16) = false ∧ sCaN.calState (iCa.operand % 16)
      (bitsOf iCa.operand 16 16) = false) ∧
    -- sCa11 5 iCa11 mOk §2 §2 §2 §2
    (sCa11.ready 5 opCALIB iCa11 ∧ iCa11.checkFields { operand := 4294901775 } [] { } = none ∧ iCa11.operand % 16 ≤ 11 ∧ calElement (iCa11.operand %
      16) (bitsOf iCa11.operand 16 16) = true ∧ sCa11.calUnfitted (iCa11.operand % 16) (bitsOf iCa11.operand 16 16) = false ∧ sCa11.calDown
      (iCa11.operand % 16) (bitsOf iCa11.operand 16 16) = none ∧ sCa11.calPinned (iCa11.operand % 16) (bitsOf iCa11.operand 16 16) = false ∧
      sCa11.calState (iCa11.operand % 16) (bitsOf iCa11.operand 16 16) = true ∧ sCa11.mode ≠ mDRAIN ∧ (∀ r ∈ sCa11.cal.runs, r.kind = iCa11.operand
      % 16 → r.elem ≠ bitsOf iCa11.operand 16 16)) := by
  unfold State.ready State.canFinish hostGood State.quiet
  and_intros <;> decide +kernel

theorem test_meets_RingsAreCreatedAndDeleted :
    -- sCr 5 iCr §1 §1
    (sCr.ready 5 opCREATER iCr ∧ iCr.checkFields { operand := 524287, rest := some (36, 8) } [] { } = none ∧ 4 ≤ bitsOf iCr.operand 7 5 ∧ bitsOf
      iCr.operand 7 5 ≤ 16 ∧ iCr.bytesAt 36 8 % 4096 = 0 ∧ iCr.ring ≠ 0 ∧ iCr.isCq = true ∧ iCr.ringCq = 0 ∧ sCr.fns[iCr.fn].cqOf iCr.ring = none) ∧
    -- sCs 5 iCs §1 §2
    (sCs.ready 5 opCREATER iCs ∧ iCs.checkFields { operand := 524287, rest := some (36, 8) } [] { } = none ∧ 4 ≤ bitsOf iCs.operand 7 5 ∧ bitsOf
      iCs.operand 7 5 ≤ 16 ∧ iCs.bytesAt 36 8 % 4096 = 0 ∧ iCs.ring ≠ 0 ∧ iCs.isCq = false ∧ bitAt iCs.operand 18 = false ∧ sCs.fns[iCs.fn].sq
      iCs.ring = none ∧ (sCs.fns[iCs.fn].cqOf iCs.ringCq).isSome = true) ∧
    -- sDc 5 iDc §2 §1
    (sDc.ready 5 opDELETER iDc ∧ iDc.checkFields { operand := 127 } [] { } = none ∧ iDc.ring ≠ 0 ∧ iDc.isCq = true ∧ iDc.ring ≠ iDc.cq ∧
      (sDc.fns[iDc.fn].cqOf iDc.ring).isSome = true ∧ (∀ r ∈ sDc.fns[iDc.fn].sqs, r.cq ≠ iDc.ring)) ∧
    -- sDs 5 iDs §2 §2
    (sDs.ready 5 opDELETER iDs ∧ iDs.checkFields { operand := 127 } [] { } = none ∧ iDs.ring ≠ 0 ∧ iDs.isCq = false ∧ iDs.ring ≠ iDs.sq ∧
      (sDs.fns[iDs.fn].sq iDs.ring).isSome = true ∧ (∀ j ∈ sDs.insts, j.fn = iDs.fn → j.sq ≠ iDs.ring) ∧ (∀ q ∈ sDs.fns[iDs.fn].cqs, ∀ c ∈
      q.waiting, c.sq ≠ iDs.ring)) := by
  unfold State.ready State.canFinish State.quiet
  and_intros <;> decide +kernel

theorem test_meets_FunctionsAreEnabledStoppedAndReset :
    -- sEn mAdm f3 w1 §1 §1
    (sEn.reachesFn mAdm f3 = true ∧ bitAt (BitVec.toNat w1) 0 = true ∧ sEn.get (F.HST_FN_CTL_ENABLE f3.val) = 0 ∧ sEn.get (F.HST_FN_STAT_FATAL
      f3.val) ≠ 1 ∧ 4 ≤ sEn.get (F.HST_RING0_SIZE_SQ_K f3.val) ∧ sEn.get (F.HST_RING0_SIZE_SQ_K f3.val) ≤ 16 ∧ 4 ≤ sEn.get (F.HST_RING0_SIZE_CQ_K
      f3.val) ∧ sEn.get (F.HST_RING0_SIZE_CQ_K f3.val) ≤ 16 ∧ sEn.base64 (F.HST_SQ0_BASE_LO_BASE f3.val) (F.HST_SQ0_BASE_HI_BASE f3.val) ≠ 0 ∧
      sEn.base64 (F.HST_CQ0_BASE_LO_BASE f3.val) (F.HST_CQ0_BASE_HI_BASE f3.val) ≠ 0) ∧
    -- sEn mD3 f3 w1 §1 §1
    (sEn.reachesFn mD3 f3 = true ∧ bitAt (BitVec.toNat w1) 0 = true ∧ sEn.get (F.HST_FN_CTL_ENABLE f3.val) = 0 ∧ sEn.get (F.HST_FN_STAT_FATAL
      f3.val) ≠ 1 ∧ 4 ≤ sEn.get (F.HST_RING0_SIZE_SQ_K f3.val) ∧ sEn.get (F.HST_RING0_SIZE_SQ_K f3.val) ≤ 16 ∧ 4 ≤ sEn.get (F.HST_RING0_SIZE_CQ_K
      f3.val) ∧ sEn.get (F.HST_RING0_SIZE_CQ_K f3.val) ≤ 16 ∧ sEn.base64 (F.HST_SQ0_BASE_LO_BASE f3.val) (F.HST_SQ0_BASE_HI_BASE f3.val) ≠ 0 ∧
      sEn.base64 (F.HST_CQ0_BASE_LO_BASE f3.val) (F.HST_CQ0_BASE_HI_BASE f3.val) ≠ 0) ∧
    -- sUpN mD3 f3 w1 §1 §2
    (sUpN.reachesFn mD3 f3 = true ∧ bitAt (BitVec.toNat w1) 0 = true ∧ sUpN.get (F.HST_FN_CTL_ENABLE f3.val) = 0 ∧ (sUpN.get (F.HST_FN_STAT_FATAL
      f3.val) = 1 ∨ sUpN.get (F.HST_RING0_SIZE_SQ_K f3.val) < 4 ∨ 16 < sUpN.get (F.HST_RING0_SIZE_CQ_K f3.val) ∨ sUpN.base64 (F.HST_CQ0_BASE_LO_BASE
      f3.val) (F.HST_CQ0_BASE_HI_BASE f3.val) = 0)) ∧
    -- sFatal mD3 f3 w1 §1 §2
    (sFatal.reachesFn mD3 f3 = true ∧ bitAt (BitVec.toNat w1) 0 = true ∧ sFatal.get (F.HST_FN_CTL_ENABLE f3.val) = 0 ∧ (sFatal.get
      (F.HST_FN_STAT_FATAL f3.val) = 1 ∨ sFatal.get (F.HST_RING0_SIZE_SQ_K f3.val) < 4 ∨ 16 < sFatal.get (F.HST_RING0_SIZE_CQ_K f3.val) ∨
      sFatal.base64 (F.HST_CQ0_BASE_LO_BASE f3.val) (F.HST_CQ0_BASE_HI_BASE f3.val) = 0)) ∧
    -- sStp mD2 f2 w0 §1 §3
    (sStp.reachesFn mD2 f2 = true ∧ bitAt (BitVec.toNat w0) 0 = false ∧ sStp.get (F.HST_FN_CTL_ENABLE f2.val) = 1 ∧ sStp.insts = []) ∧
    -- sFatal mD3 f3 w1 §1 §4
    sFatal.reachesFn mD3 f3 = true ∧
    -- sEn mDat f3 w1 §2 §1
    sEn.reachesFn mDat f3 = false ∧
    -- sEn mDat f3 w1 §2 §2
    sEn.reachesFn mDat f3 = false ∧
    -- sStp mDat f2 w1 §3
    sStp.insts = [] ∧
    -- sD3 mDat f2 w1 §4
    (sD3.insts = [] ∧ sD3.fns[f2].d3 = true) ∧
    -- sStp mDat f2 w1 §5
    sStp.fns[f2].d3 = false ∧
    -- sStp mDat f2 w1 §6
    sStp.linkUp (portOf f2) = true ∧
    -- sStp mDat f0 w1 §7
    sStp.linkUp (portOf f0) = false := by
  and_intros <;> decide +kernel

theorem test_meets_PortsTrainFailAndSleep :
    -- sUp1 p1 §1
    sUp1.insts = [] ∧
    -- sPer p1 §2
    sPer.mode ≠ mRETENTION ∧
    -- sPerR p1 §3
    (sPerR.mode = mRETENTION ∧ sPerR.chip.pins.perst[p1] = true) ∧
    -- sIdleM p1 §4 5 4
    (sIdleM.chip.pins.perst[p1] = false ∧ linkMode sIdleM.mode = true ∧ 1 ≤ 5 ∧ 5 ≤ 5 ∧ (4 = 1 ∨ 4 = 2 ∨ 4 = 4)) ∧
    -- sIdleM p0 §4 1 1
    (sIdleM.chip.pins.perst[p0] = false ∧ linkMode sIdleM.mode = true ∧ 1 ≤ 1 ∧ 1 ≤ 5 ∧ (1 = 1 ∨ 1 = 2 ∨ 1 = 4)) ∧
    -- sPer p1 §5 5 4
    sPer.chip.pins.perst[p1] = true ∧
    -- sUp1 p1 §6
    (sUp1.linkUp p1 = true ∧ sUp1.chip.l2Ready[p1] = false ∧ sUp1.insts = [] ∧ sUp1.chip.recovering = []) ∧
    -- sIdle p1 §7
    sIdle.linkUp p1 = false ∧
    -- sUp2 p1 §8 §1 p0
    (sUp2.linkUp p1 = true ∧ p0 ≠ p1 ∧ sUp2.linkUp p0 = true ∧ sUp2.chip.l2Ready[p0] = false ∧ sUp2.chip.retaining = false) ∧
    -- sPme p1 §8 §2
    (sPme.linkUp p1 = true ∧ (sPme.portsReady = true ∨ ∀ (q : Fin 2), q ≠ p1 → sPme.linkUp q = false) ∧ sPme.chip.retaining = false ∧ (sPme.mode =
      mIDLE ∨ sPme.mode = mACTIVE) ∧ sPme.get F.DEV_MODE_STAT_TRANSITION = 0 ∧ sPme.get F.DEV_MODE_REQ_TARGET = 0) ∧
    -- sUp1 p1 §10
    (sUp1.linkUp p1 = true ∧ sUp1.get (F.HST_LINK_STAT_PSTATE (2 * p1.val)) = 0 ∧ sUp1.insts = [] ∧ (∀ (f : Fin 4), portOf f = p1 → ∀ r ∈
      sUp1.fns[f].cqs, r.waiting = [])) := by
  and_intros <;> decide +kernel

theorem test_meets_VectorsAndAlertsAreDelivered :
    -- sIdle f3 §1 v64 §1
    ((sIdle.fns[f3].fnMask = true ∨ sIdle.fns[f3].pending.contains v64.val = false) ∧ (sIdle.fns[f3].pending.all fun x =>
      sIdle.fns[f3].masked.contains x) = true) ∧
    -- sVec f2 §1 v64 §2
    (sVec.fns[f2].fnMask = false ∧ sVec.fns[f2].d3 = false ∧ sVec.fns[f2].pending = [v64.val] ∧ sVec.fns[f2].masked.contains v64.val = true ∧
      (v64.val = 0 ∨ ∃ r ∈ sVec.fns[f2].cqs, r.num + 1 = v64.val ∧ r.poll = false ∧ 0 < r.held)) ∧
    -- sVec0 f3 §1 v0 §3
    (sVec0.fns[f3].fnMask = true ∧ sVec0.fns[f3].d3 = false ∧ sVec0.fns[f3].pending = [v0.val] ∧ sVec0.fns[f3].masked.contains v0.val = false ∧
      v0.val = 0) ∧
    -- sAlert f3 §2
    (mBOOT ≤ sAlert.mode ∧ sAlert.chip.pins.smbAlert = true) ∧
    -- sIdle f3 §3
    sIdle.chip.pins.smbAlert = false := by
  and_intros <;> decide +kernel

theorem test_meets_TheWatchdogRestartsAStart :
    -- sIdle §1 §1
    (sIdle.boot.running = true ∧ sIdle.chip.pins.supplies = true ∧ sIdle.chip.pins.resetN = true ∧ sIdle.chip.pins.slathLocked = true ∧
      sIdle.chip.pins.brownOut = false ∧ sIdle.chip.pins.hot = false) ∧
    -- sWd §1 §2
    (sWd.boot.running = true ∧ (sWd.chip.pins.resetN = false ∨ sWd.chip.pins.slathLocked = false)) ∧
    -- sNoBoot §2
    sNoBoot.boot.running = false := by
  and_intros <;> decide +kernel

theorem test_meets_RoutinesRunEndAndPark :
    -- sThE true 40 q15 t7 thE0 §1 wEnd §1 §1
    (sThE.awake = true ∧ sThE.mayRun true 40 q15 t7 thE0 ∧ sThE.quiet ∧ sThE.fetchWord thE0.now.addr = some wEnd ∧ illegalWord wEnd = false ∧
      (stepWord sThE (thE0.onto q15 t7) (sThE.entryOf true 40) wEnd).2 = Flow.finish ∧ sThE.conflicts (stepWord sThE (thE0.onto q15 t7)
      (sThE.entryOf true 40) wEnd).1 = false ∧ thE0.recovers = none ∧ (stepWord sThE (thE0.onto q15 t7) (sThE.entryOf true 40) wEnd).1.pend = []) ∧
    -- sThI false 5 q15 t5 thIC §1 wEndC §1 §2 iDis 5 99
    (sThI.awake = true ∧ sThI.mayRun false 5 q15 t5 thIC ∧ sThI.quiet ∧ sThI.fetchWord thIC.now.addr = some wEndC ∧ illegalWord wEndC = false ∧
      (stepWord sThI (thIC.onto q15 t5) (sThI.entryOf false 5) wEndC).2 = Flow.finish ∧ sThI.conflicts (stepWord sThI (thIC.onto q15 t5)
      (sThI.entryOf false 5) wEndC).1 = false ∧ thIC.recovers = none ∧ false = false ∧ sThI.inst 5 = some iDis ∧ sThI.canFinish iDis ∧ (stepWord
      sThI (thIC.onto q15 t5) (sThI.entryOf false 5) wEndC).1.pend = [Pend.complete 5 99]) ∧
    -- sThB true 40 q15 t7 thEB §1 wBad §2 §1
    (sThB.awake = true ∧ sThB.mayRun true 40 q15 t7 thEB ∧ sThB.quiet ∧ sThB.fetchWord thEB.now.addr = some wBad ∧ illegalWord wBad = true ∧ true =
      true) ∧
    -- sThIB false 5 q15 t5 thIB §1 wBad §2 §2 iDis
    (sThIB.awake = true ∧ sThIB.mayRun false 5 q15 t5 thIB ∧ sThIB.quiet ∧ sThIB.fetchWord thIB.now.addr = some wBad ∧ illegalWord wBad = true ∧
      false = false ∧ sThIB.inst 5 = some iDis ∧ sThIB.canFinish iDis) ∧
    -- sThP true 40 q15 t7 thEP §1 wPark §3 31 32770
    (sThP.awake = true ∧ sThP.mayRun true 40 q15 t7 thEP ∧ sThP.quiet ∧ sThP.fetchWord thEP.now.addr = some wPark ∧ illegalWord wPark = false ∧
      (stepWord sThP (thEP.onto q15 t7) (sThP.entryOf true 40) wPark).2 = Flow.park 31 32770) ∧
    -- sThW true 40 q15 t7 thEW §2 31
    (List.find? (sameRoutine true 40) sThW.seqs.threads = some thEW ∧ thEW.waits = some 31 ∧ (thEW.tags.any fun y => y.slot == 31) = true) ∧
    -- sIdle true 40 q15 t7 thEW §3
    List.find? (sameRoutine true 40) sIdle.seqs.threads = none ∧
    -- sEvR true 511 q15 t7 thEW §4
    (sEvR.awake = true ∧ sEvR.nextRoutine = some 511 ∧ sEvR.get F.SEQ_STAT_RUN = 1 ∧ bitAt (sEvR.get F.SEQ_FAILED_MASK) q15.val = false ∧ 6 ≤
      t7.val) ∧
    -- sIdle true 511 q15 t7 thEW §5
    sIdle.nextRoutine = none := by
  unfold State.canFinish State.mayRun State.quiet
  and_intros <;> decide +kernel

theorem test_meets_SequencerFaultsRestartPhases :
    -- sThW true 40 q15 ad0 thEW §1
    sThW.awake = true ∧
    -- sThW true 40 q15 ad0 thEW §2 §1
    (sThW.awake = true ∧ List.find? (sameRoutine true 40) sThW.seqs.threads = some thEW ∧ sThW.chip.recovering = [] ∧ (sThW.restartsOf q15).length <
      2) ∧
    -- sThR1 true 40 q15 ad0 thEW §2 §1
    (sThR1.awake = true ∧ List.find? (sameRoutine true 40) sThR1.seqs.threads = some thEW ∧ sThR1.chip.recovering = [] ∧ (sThR1.restartsOf
      q15).length < 2) ∧
    -- sThR2 true 40 q15 ad0 thEW §2 §2
    (sThR2.awake = true ∧ List.find? (sameRoutine true 40) sThR2.seqs.threads = some thEW ∧ sThR2.chip.recovering = [] ∧ 2 ≤ (sThR2.restartsOf
      q15).length ∧ bitAt (sThR2.get F.SEQ_FAILED_MASK) q15.val = false) ∧
    -- sWd0 true 40 q15 ad0 thWd §3 §1
    (sWd0.awake = true ∧ List.find? (sameRoutine true 40) sWd0.seqs.threads = some thWd ∧ 16384 ≤ thWd.words ∧ thWd.watchdogs = 0 ∧ (sWd0.restartsOf
      (Fin.ofNat 16 thWd.seq)).length < 2) ∧
    -- sWd1 true 40 q15 ad0 thWd1 §3 §2
    (sWd1.awake = true ∧ List.find? (sameRoutine true 40) sWd1.seqs.threads = some thWd1 ∧ 16384 ≤ thWd1.words ∧ thWd1.watchdogs ≠ 0 ∧ true = true ∧
      sWd1.quiet) ∧
    -- sThE true 40 q15 ad0 thE0 §4
    (List.find? (sameRoutine true 40) sThE.seqs.threads = some thE0 ∧ thE0.words < 16384) := by
  unfold State.quiet
  and_intros <;> decide +kernel

theorem test_meets_TheCacheServesFillsAndWritesBack :
    -- sCchH §1 7 16383 false §1 ln0 §1
    (sCchH.awake = true ∧ sCchH.cchServes 16383 = true ∧ sCchH.cch.queue = [] ∧ sCchH.cacheLine 16383 = some ln0) ∧
    -- sCchH §1 7 16383 true §1 ln0 §2
    (sCchH.awake = true ∧ sCchH.cchServes 16383 = true ∧ sCchH.cch.queue = [] ∧ sCchH.cacheLine 16383 = some ln0 ∧ sCchH.get F.CCH_STAT_DRAINING =
      0) ∧
    -- sCch §1 7 16383 false §2 true
    (sCch.awake = true ∧ sCch.cchServes 16383 = true ∧ sCch.cch.queue = [] ∧ sCch.cacheLine 16383 = none ∧ List.find? (fun m => bankOf m.line ==
      bankOf 16383) sCch.cch.misses = none ∧ List.find? (fun v => v.line == 16383) sCch.cch.victims = none ∧ sCch.get F.CCH_STAT_DRAINING = 0 ∧
      (sCch.victimsOf (bankOf 16383)).length < 4) ∧
    -- sCch §2 7 16384 true .uncorrectable true
    (sCch.awake = true ∧ sCch.cchServes 16384 = false) ∧
    -- sCch §2 7 16384 false .clean false
    (sCch.awake = true ∧ sCch.cchServes 16384 = false) ∧
    -- sMs §3 k7 ms0
    (sMs.awake = true ∧ List.find? (fun m => bankOf m.line == k7.val) sMs.cch.misses = some ms0 ∧ sMs.cch.queue = [] ∧ sMs.cch.refetch = none) ∧
    -- sMs §4 k0 (none : Option DramErr)
    List.find? (fun m => bankOf m.line == k0.val) sMs.cch.misses = none ∧
    -- sMs §5 16382
    (sMs.awake = true ∧ sMs.cch.queue = [] ∧ (sMs.cch.victims.any fun v => v.line == 16382) = true) ∧
    -- sMs §6 16383
    (sMs.cch.victims.any fun v => v.line == 16383) = false := by
  and_intros <;> decide +kernel

theorem test_meets_TheCacheCleansDrainsAndIsEnabled :
    -- sOp mSeq §1 §1 §1
    (sOp.mayWrite mSeq = true ∧ sOp.get F.CCH_STAT_OP_BUSY = 0 ∧ sOp.get F.CCH_OP_LINES_LINES ≠ 0 ∧ sOp.get F.CCH_OP_BASE_LO_LO + 2 ^ 25 * sOp.get
      F.CCH_OP_BASE_HI_HI + sOp.get F.CCH_OP_LINES_LINES ≤ sOp.dramLines ∧ sOp.get F.CCH_CTL_ENABLE = 1) ∧
    -- sOp0 mSeq §1 §2 §1
    (sOp0.mayWrite mSeq = true ∧ sOp0.get F.CCH_STAT_OP_BUSY = 0 ∧ sOp0.get F.CCH_OP_LINES_LINES ≠ 0 ∧ sOp0.get F.CCH_OP_BASE_LO_LO + 2 ^ 25 *
      sOp0.get F.CCH_OP_BASE_HI_HI + sOp0.get F.CCH_OP_LINES_LINES ≤ sOp0.dramLines ∧ sOp0.get F.CCH_CTL_ENABLE = 0) ∧
    -- sOpB mSeq §2 cCi §1
    ((cCi = Instr.cchOpClean mSeq ∨ cCi = Instr.cchOpCleanInvalidate mSeq) ∧ sOpB.mayWrite mSeq = true ∧ (sOpB.get F.CCH_STAT_OP_BUSY = 1 ∨ sOpB.get
      F.CCH_OP_LINES_LINES = 0 ∨ sOpB.dramLines < sOpB.get F.CCH_OP_BASE_LO_LO + 2 ^ 25 * sOpB.get F.CCH_OP_BASE_HI_HI + sOpB.get
      F.CCH_OP_LINES_LINES)) ∧
    -- sOpL mSeq §2 cCl §1
    ((cCl = Instr.cchOpClean mSeq ∨ cCl = Instr.cchOpCleanInvalidate mSeq) ∧ sOpL.mayWrite mSeq = true ∧ (sOpL.get F.CCH_STAT_OP_BUSY = 1 ∨ sOpL.get
      F.CCH_OP_LINES_LINES = 0 ∨ sOpL.dramLines < sOpL.get F.CCH_OP_BASE_LO_LO + 2 ^ 25 * sOpL.get F.CCH_OP_BASE_HI_HI + sOpL.get
      F.CCH_OP_LINES_LINES)) ∧
    -- sOp mDat §2 cClD §2
    ((cClD = Instr.cchOpClean mDat ∨ cClD = Instr.cchOpCleanInvalidate mDat) ∧ sOp.mayWrite mDat = false) ∧
    -- sOpR mDat §3 16383 1 true
    (sOpR.awake = true ∧ sOpR.cch.op = some (16383, 1, true) ∧ sOpR.get F.CCH_STAT_DRAINING = 0 ∧ sOpR.cch.queue = []) ∧
    -- sOpC mDat §3 16382 2 false
    (sOpC.awake = true ∧ sOpC.cch.op = some (16382, 2, false) ∧ sOpC.get F.CCH_STAT_DRAINING = 0 ∧ sOpC.cch.queue = []) ∧
    -- sIdle mDat §4
    sIdle.cch.op = none ∧
    -- sCen mSeq §5 w1 §1
    (sCen.mayWrite mSeq = true ∧ bitAt (BitVec.toNat w1) 0 = true ∧ sCen.get F.CCH_CTL_ENABLE = 0 ∧ sCen.get F.CCH_STAT_DRAINING = 0 ∧ sCen.get
      F.CCH_REGION_SIZE_SIZE ≠ 0 ∧ sCen.get F.CCH_REGION_BASE_BASE + sCen.get F.CCH_REGION_SIZE_SIZE ≤ sCen.hostMiB) ∧
    -- sCbad mSeq §5 w1 §2
    (sCbad.mayWrite mSeq = true ∧ bitAt (BitVec.toNat w1) 0 = true ∧ sCbad.get F.CCH_CTL_ENABLE = 0 ∧ (sCbad.get F.CCH_STAT_DRAINING = 1 ∨ sCbad.get
      F.CCH_REGION_SIZE_SIZE = 0 ∨ sCbad.hostMiB < sCbad.get F.CCH_REGION_BASE_BASE + sCbad.get F.CCH_REGION_SIZE_SIZE)) ∧
    -- sIdle mSeq §5 w1 §2
    (sIdle.mayWrite mSeq = true ∧ bitAt (BitVec.toNat w1) 0 = true ∧ sIdle.get F.CCH_CTL_ENABLE = 0 ∧ (sIdle.get F.CCH_STAT_DRAINING = 1 ∨ sIdle.get
      F.CCH_REGION_SIZE_SIZE = 0 ∨ sIdle.hostMiB < sIdle.get F.CCH_REGION_BASE_BASE + sIdle.get F.CCH_REGION_SIZE_SIZE)) ∧
    -- sChi mSeq §5 w1 §2
    (sChi.mayWrite mSeq = true ∧ bitAt (BitVec.toNat w1) 0 = true ∧ sChi.get F.CCH_CTL_ENABLE = 0 ∧ (sChi.get F.CCH_STAT_DRAINING = 1 ∨ sChi.get
      F.CCH_REGION_SIZE_SIZE = 0 ∨ sChi.hostMiB < sChi.get F.CCH_REGION_BASE_BASE + sChi.get F.CCH_REGION_SIZE_SIZE)) ∧
    -- sCch mSeq §5 w0 §3
    (sCch.mayWrite mSeq = true ∧ bitAt (BitVec.toNat w0) 0 = false ∧ sCch.get F.CCH_CTL_ENABLE = 1) ∧
    -- sDr mSeq §6
    (sDr.awake = true ∧ sDr.get F.CCH_STAT_DRAINING = 1 ∧ sDr.get F.CCH_STAT_OP_BUSY = 0) ∧
    -- sIdle mSeq §7
    sIdle.get F.CCH_STAT_DRAINING = 0 := by
  and_intros <;> decide +kernel

theorem test_meets_DramIsRefreshedPatrolledAndRetrained :
    -- sDram3 §1 p1 true steps0 §1 §1
    (sDram3.awake = true ∧ bitAt (sDram3.get F.DRM_STAT_CH_UP) p1.val = true ∧ sDram3.dram.selfRefresh = false ∧ true = true ∧ sDram3.get
      F.DRM_REF_STAT_POSTPONED < 4) ∧
    -- sDram §1 p1 true [] §1 §2
    (sDram.awake = true ∧ bitAt (sDram.get F.DRM_STAT_CH_UP) p1.val = true ∧ sDram.dram.selfRefresh = false ∧ (true = false ∨ 4 ≤ sDram.get
      F.DRM_REF_STAT_POSTPONED)) ∧
    -- sDram3 §1 p1 false steps0 §1 §2
    (sDram3.awake = true ∧ bitAt (sDram3.get F.DRM_STAT_CH_UP) p1.val = true ∧ sDram3.dram.selfRefresh = false ∧ (false = false ∨ 4 ≤ sDram3.get
      F.DRM_REF_STAT_POSTPONED)) ∧
    -- sDram §1 p0 true [] §2
    bitAt (sDram.get F.DRM_STAT_CH_UP) p0.val = false ∧
    -- sDram §2 [85]
    ([(85 : ℤ)] ≠ [] ∧ (∀ x ∈ [(85 : ℤ)], (-128 : ℤ) ≤ x ∧ x ≤ (127 : ℤ)) ∧ sDram.awake = true ∧ sDram.get F.DRM_CTL_ENABLE = 1 ∧
      sDram.dram.selfRefresh = false) ∧
    -- sDram §2 [84, 86]
    ([(84 : ℤ), (86 : ℤ)] ≠ [] ∧ (∀ x ∈ [(84 : ℤ), (86 : ℤ)], (-128 : ℤ) ≤ x ∧ x ≤ (127 : ℤ)) ∧ sDram.awake = true ∧ sDram.get F.DRM_CTL_ENABLE = 1
      ∧ sDram.dram.selfRefresh = false) ∧
    -- sDram §2 [-128]
    ([(-128 : ℤ)] ≠ [] ∧ (∀ x ∈ [(-128 : ℤ)], (-128 : ℤ) ≤ x ∧ x ≤ (127 : ℤ)) ∧ sDram.awake = true ∧ sDram.get F.DRM_CTL_ENABLE = 1 ∧
      sDram.dram.selfRefresh = false) ∧
    -- sDram §2 [127]
    ([(127 : ℤ)] ≠ [] ∧ (∀ x ∈ [(127 : ℤ)], (-128 : ℤ) ≤ x ∧ x ≤ (127 : ℤ)) ∧ sDram.awake = true ∧ sDram.get F.DRM_CTL_ENABLE = 1 ∧
      sDram.dram.selfRefresh = false) ∧
    -- sDram §3 §1
    (sDram.awake = true ∧ sDram.get F.DRM_CTL_ENABLE = 1 ∧ sDram.dram.selfRefresh = false) ∧
    -- sDram §3 §2 de0
    (sDram.awake = true ∧ sDram.get F.DRM_CTL_ENABLE = 1 ∧ sDram.dram.selfRefresh = false ∧ de0.line < sDram.dramLines ∧ sDram.dramVerdict de0 =
      Ecc.corrected ∧ de0.everyLine = false ∧ sDram.dram.corrected.length < 255) ∧
    -- sDram §3 §3 deW [5, 6]
    (sDram.awake = true ∧ sDram.get F.DRM_CTL_ENABLE = 1 ∧ sDram.dram.selfRefresh = false ∧ deW.line < sDram.dramLines ∧ sDram.dramVerdict deW =
      Ecc.uncorrectable ∧ deW.area = DramArea.writeCache [5, 6]) ∧
    -- sRtr §4 dl0 §1
    (sRtr.get F.DRM_STAT_CONFIG = 3 ∧ (sRtr.mode = mPARK ∨ sRtr.mode = mIDLE) ∧ sRtr.dram.drifted = true ∧ dl0 ≠ [] ∧ (∀ x ∈ dl0, sweepNarrow x =
      false)) ∧
    -- sRtn §4 dl0 §2
    (sRtn.get F.DRM_STAT_CONFIG = 3 ∧ (sRtn.mode = mPARK ∨ sRtn.mode = mIDLE) ∧ (sRtn.dram.drifted = false ∨ ∃ x ∈ dl0, sweepNarrow x = true)) ∧
    -- sRtr §4 dlBad §2
    (sRtr.get F.DRM_STAT_CONFIG = 3 ∧ (sRtr.mode = mPARK ∨ sRtr.mode = mIDLE) ∧ (sRtr.dram.drifted = false ∨ ∃ x ∈ dlBad, sweepNarrow x = true)) ∧
    -- sIdle §5 0x8000 p1 §1
    sIdle.awake = true := by
  and_intros <;> decide +kernel

theorem test_meets_TheDebugPortIsChallenged :
    -- sIdle 3 pb0 pb0 §1 §1
    (mBOOT ≤ sIdle.mode ∧ sIdle.get F.SEC_DBG_STAT_LOCKOUT = 0) ∧
    -- sLock3 3 pb0 pb0 §1 §2
    (mBOOT ≤ sLock3.mode ∧ sLock3.get F.SEC_DBG_STAT_LOCKOUT = 1) ∧
    -- sLock3 3 pb0 pb0 §1 §3
    mBOOT ≤ sLock3.mode ∧
    -- sFl2x 3 pb0 pb0 §1 §3
    mBOOT ≤ sFl2x.mode ∧
    -- sRst 3 pb0 pb0 §2
    sRst.mode < mBOOT := by
  and_intros <;> decide +kernel

theorem test_meets_RecordsAreSaved :
    -- sBr §1 §1 true
    (mBRINGUP ≤ sBr.mode ∧ sBr.mode ≠ mRETENTION) ∧
    -- sLog §1 §4
    (mBRINGUP ≤ sLog.mode ∧ sLog.mode ≠ mRETENTION ∧ sLog.get F.FLZ_CTL_ENABLE = 1 ∧ sLog.insts = [] ∧ sLog.cache = [] ∧ sLog.flash.blocks = [] ∧
      sLog.flash.copies = []) ∧
    -- sFlzOff §2
    sFlzOff.get F.FLZ_CTL_ENABLE = 0 ∧
    -- sRet §3 (true, false)
    sRet.mode = mRETENTION ∧
    -- sOl §4 k7
    (sOl.opuFitted k7 = true ∧ mBRINGUP ≤ sOl.mode) ∧
    -- sNoO §5 k7
    sNoO.opuFitted k7 = false := by
  and_intros <;> decide +kernel

theorem test_meets_TheBoardIsWatched :
    -- sIdle §1 §1
    sIdle.awake = true ∧
    -- sRst §2 true
    sRst.awake = false ∧
    -- sIdle §3 §1
    (sIdle.nv.tamper = none ∧ mBOOT ≤ sIdle.mode) ∧
    -- sRst §3 §2
    (sRst.nv.tamper = none ∧ sRst.mode < mBOOT) ∧
    -- sTam §4
    sTam.nv.tamper ≠ none ∧
    -- sTam §5 mSeq §1
    sTam.mayWrite mSeq = true ∧
    -- sTam §5 mDat §2
    sTam.mayWrite mDat = false ∧
    -- sIdle §6 pin682 §1
    (outputIndex pin682.val = true ∧ sIdle.awake = true ∧ lenOpu pin682.val = none) ∧
    -- sLas §6 pin135 §2 k7
    (outputIndex pin135.val = true ∧ sLas.awake = true ∧ lenOpu pin135.val = some k7 ∧ sLas.optics[k7].laser = true) ∧
    -- sIdle §6 pin135 §3 k7
    (outputIndex pin135.val = true ∧ sIdle.awake = true ∧ lenOpu pin135.val = some k7 ∧ sIdle.optics[k7].laser = false) ∧
    -- sBrd §6 pin135 §3 k7
    (outputIndex pin135.val = true ∧ sBrd.awake = true ∧ lenOpu pin135.val = some k7 ∧ sBrd.optics[k7].laser = false) ∧
    -- sIdle §7 pin690
    outputIndex pin690.val = false := by
  and_intros <;> decide +kernel

theorem test_meets_ClassZeroIsAdmittedThroughABucket :
    -- sQ0 5 iQ0 1000 §1
    (1000 = min 64000 (sQ0.class0[portOf iQ0.fn].level + 2 * (sQ0.now - sQ0.class0[portOf iQ0.fn].at_)) ∧ sQ0.inst 5 = some iQ0 ∧ iQ0.stage =
      Stage.queued ∧ sQ0.get F.SEQ_STAT_RUN = 1 ∧ sQ0.mayStart iQ0 = true ∧ iQ0.chain = none ∧ sQ0.quietBut 5 ∧ sQ0.checkOpcode iQ0 = none ∧
      iQ0.class_ = 0 ∧ iQ0.cls = 0) ∧
    -- sQ0n 5 iQ0 999 §1
    (999 = min 64000 (sQ0n.class0[portOf iQ0.fn].level + 2 * (sQ0n.now - sQ0n.class0[portOf iQ0.fn].at_)) ∧ sQ0n.inst 5 = some iQ0 ∧ iQ0.stage =
      Stage.queued ∧ sQ0n.get F.SEQ_STAT_RUN = 1 ∧ sQ0n.mayStart iQ0 = true ∧ iQ0.chain = none ∧ sQ0n.quietBut 5 ∧ sQ0n.checkOpcode iQ0 = none ∧
      iQ0.class_ = 0 ∧ iQ0.cls = 0) ∧
    -- sBig 5 iBig 64000 §1
    (64000 = min 64000 (sBig.class0[portOf iBig.fn].level + 2 * (sBig.now - sBig.class0[portOf iBig.fn].at_)) ∧ sBig.inst 5 = some iBig ∧ iBig.stage
      = Stage.queued ∧ sBig.get F.SEQ_STAT_RUN = 1 ∧ sBig.mayStart iBig = true ∧ iBig.chain = none ∧ sBig.quietBut 5 ∧ sBig.checkOpcode iBig = none
      ∧ iBig.class_ = 0 ∧ iBig.cls = 0) ∧
    -- sMib 5 iMib 64000 §1
    (64000 = min 64000 (sMib.class0[portOf iMib.fn].level + 2 * (sMib.now - sMib.class0[portOf iMib.fn].at_)) ∧ sMib.inst 5 = some iMib ∧ iMib.stage
      = Stage.queued ∧ sMib.get F.SEQ_STAT_RUN = 1 ∧ sMib.mayStart iMib = true ∧ iMib.chain = none ∧ sMib.quietBut 5 ∧ sMib.checkOpcode iMib = none
      ∧ iMib.class_ = 0 ∧ iMib.cls = 0) ∧
    -- sDem 5 iDem 64000 §2 (2 ^ 32)
    (64000 = min 64000 (sDem.class0[portOf iDem.fn].level + 2 * (sDem.now - sDem.class0[portOf iDem.fn].at_)) ∧ sDem.inst 5 = some iDem ∧
      iDem.demoted = true ∧ iDem.orphan = false ∧ (∃ r ∈ sDem.fns[iDem.fn].cqs, r.num = iDem.cq)) := by
  unfold State.quietBut
  and_intros <;> decide +kernel

theorem test_meets_ScrubDiscMakesAScrubDue :
    -- sSc1 5 iSc §1 dB §1 §1
    (sSc1.ready 5 opSCRUB iSc ∧ iSc.checkFields { operand := 1, rest := some (36, 8) } [] { } = none ∧ sSc1.disc iSc.discId = some dB ∧ dB.retired =
      false ∧ (dB.scrubRunning = false ∨ bitAt iSc.operand 0 = true) ∧ dB.bay.isSome = true) ∧
    -- sSc2 5 iSc §1 dO §1 §2
    (sSc2.ready 5 opSCRUB iSc ∧ iSc.checkFields { operand := 1, rest := some (36, 8) } [] { } = none ∧ sSc2.disc iSc.discId = some dO ∧ dO.retired =
      false ∧ (dO.scrubRunning = false ∨ bitAt iSc.operand 0 = true) ∧ dO.bay = none) ∧
    -- sScR 5 iSc §1 dOr §1 §2
    (sScR.ready 5 opSCRUB iSc ∧ iSc.checkFields { operand := 1, rest := some (36, 8) } [] { } = none ∧ sScR.disc iSc.discId = some dOr ∧ dOr.retired
      = false ∧ (dOr.scrubRunning = false ∨ bitAt iSc.operand 0 = true) ∧ dOr.bay = none) ∧
    -- sScB 5 iSc0 §1 dBr §2
    (sScB.ready 5 opSCRUB iSc0 ∧ iSc0.checkFields { operand := 1, rest := some (36, 8) } [] { } = none ∧ sScB.disc iSc0.discId = some dBr ∧
      dBr.retired = false ∧ dBr.scrubRunning = true ∧ bitAt iSc0.operand 0 = false) ∧
    -- sScO 5 iSc0 §1 dOr §2
    (sScO.ready 5 opSCRUB iSc0 ∧ iSc0.checkFields { operand := 1, rest := some (36, 8) } [] { } = none ∧ sScO.disc iSc0.discId = some dOr ∧
      dOr.retired = false ∧ dOr.scrubRunning = true ∧ bitAt iSc0.operand 0 = false) ∧
    -- sScN 5 iSc §2
    (sScN.ready 5 opSCRUB iSc ∧ iSc.checkFields { operand := 1, rest := some (36, 8) } [] { } = none ∧ Option.all Disc.retired (sScN.disc
      iSc.discId) = true) := by
  unfold State.ready State.canFinish State.quiet
  and_intros <;> decide +kernel

theorem test_meets_OpenStrandCreatesAStrand :
    -- sOpen 5 iOpen §1 vol5 §1 1
    (sOpen.ready 5 opOPEN iOpen ∧ bitAt iOpen.operand 2 = false ∧ iOpen.checkFields { volume := true, operand := 7 } (if iOpen.operand % 4 = 3 then
      [20] else []) { } = none ∧ List.find? (fun v => v.num == iOpen.volume) sOpen.volumes = some vol5 ∧ sOpen.deleting iOpen.volume 5 = false ∧
      sOpen.freeStrandNum = some 1 ∧ (∀ c ∈ sOpen.cache, c.strand ≠ 1)) ∧
    -- sOp2 5 iOp2 §1 vol5 §1 1
    (sOp2.ready 5 opOPEN iOp2 ∧ bitAt iOp2.operand 2 = false ∧ iOp2.checkFields { volume := true, operand := 7 } (if iOp2.operand % 4 = 3 then [20]
      else []) { } = none ∧ List.find? (fun v => v.num == iOp2.volume) sOp2.volumes = some vol5 ∧ sOp2.deleting iOp2.volume 5 = false ∧
      sOp2.freeStrandNum = some 1 ∧ (∀ c ∈ sOp2.cache, c.strand ≠ 1)) ∧
    -- sOpN 5 iOpen §2
    (sOpN.ready 5 opOPEN iOpen ∧ bitAt iOpen.operand 2 = false ∧ iOpen.checkFields { volume := true, operand := 7 } (if iOpen.operand % 4 = 3 then
      [20] else []) { } = none ∧ (∀ v ∈ sOpN.volumes, v.num ≠ iOpen.volume)) := by
  unfold State.ready State.canFinish State.quiet
  and_intros <;> decide +kernel

theorem test_meets_ResetAndSafeQuietTheOutputs :
    -- sIdle §1
    sIdle.mode ≠ mOFF ∧
    -- sAct §3
    safeFrom sAct.mode = true ∧
    -- sBoot2 §3
    safeFrom sBoot2.mode = true ∧
    -- sHalt §4 pinQ 2
    (sHalt.boot.halted = some 2 ∧ sHalt.mode ≠ mOFF ∧ sHalt.outputFitted pinQ = true) := by
  and_intros <;> decide +kernel

theorem test_meets_TheConfigurationSpaceHoldsItsIdentifiers :
    -- sCfg f3 §1 §1
    (sCfg.linkUp (portOf f3) = true ∧ sCfg.hostLinkReady = true) ∧
    -- sCfg f3 §1 §5 §1
    (sCfg.linkUp (portOf f3) = true ∧ sCfg.hostLinkReady = true ∧ sCfg.nv.subsystems = none) ∧
    -- sCfgS f2 §1 §6 subs0 §1
    (sCfgS.linkUp (portOf f2) = true ∧ sCfgS.hostLinkReady = true ∧ sCfgS.nv.subsystems = some subs0) ∧
    -- sCfg f3 §1 §8 (2 : Fin 6)
    (sCfg.linkUp (portOf f3) = true ∧ sCfg.hostLinkReady = true ∧ 2 ≤ (2 : Fin 6).val) ∧
    -- sCfg f3 §1 §8 (5 : Fin 6)
    (sCfg.linkUp (portOf f3) = true ∧ sCfg.hostLinkReady = true ∧ 2 ≤ (5 : Fin 6).val) ∧
    -- sUpN f3 §2 (.bar 0)
    (sUpN.linkUp (portOf f3) = true ∧ (sUpN.mode < mBRINGUP ∨ sUpN.mode = mBRINGUP ∧ sUpN.boot.running = true ∧ sUpN.boot.step ≤ 14)) ∧
    -- sCfgE f3 §2 .expansionRom
    (sCfgE.linkUp (portOf f3) = true ∧ (sCfgE.mode < mBRINGUP ∨ sCfgE.mode = mBRINGUP ∧ sCfgE.boot.running = true ∧ sCfgE.boot.step ≤ 14)) ∧
    -- sIdle f0 §3 (.bar 0)
    sIdle.linkUp (portOf f0) = false := by
  and_intros <;> decide +kernel

theorem test_meets_SamplesAreCompandedByTheTable :
    -- §1 512
    Int.natAbs (512 : ℤ) ≤ 512 ∧
    -- §1 (-512)
    (-512 : ℤ).natAbs ≤ 512 ∧
    -- §1 0
    Int.natAbs (0 : ℤ) ≤ 512 ∧
    -- §3 (-120) 119
    (-120 : ℤ) ≤ (119 : ℤ) := by
  and_intros <;> decide +kernel

theorem test_meets_DramMapsLinesAndCorrectsOneDevice :
    -- sDr1 0 true .other §1
    sDr1.get F.DRM_STAT_CONFIG = 1 ∧
    -- sDr1 0 true .other §4
    sDr1.get F.DRM_STAT_CONFIG ≠ 3 ∧
    -- sDr3 (2 ^ 30 - 1) false .package §2
    (sDr3.get F.DRM_STAT_CONFIG ≠ 1 ∧ sDr3.get F.DRM_STAT_CH_UP = 3) ∧
    -- sDr3 (2 ^ 30 - 1) false .package §3
    (sDr3.get F.DRM_STAT_CONFIG = 3 ∧ sDr3.get F.DRM_STAT_CH_UP = 3) ∧
    -- sDr3 0 true .other §5 §1 d19
    sDr3.get (F.DRM_DEV_FAILED_MASK (sDr3.rankOf 0)) = 0 ∧
    -- sDr3 0 true .other §5 §2 d19 d0
    (sDr3.get (F.DRM_DEV_FAILED_MASK (sDr3.rankOf 0)) = 0 ∧ d19 ≠ d0) ∧
    -- sDrX 0 true .other §6 d19 §1
    sDrX.get (F.DRM_DEV_FAILED_MASK (sDrX.rankOf 0)) = 2 ^ d19.val ∧
    -- sDrX 0 true .other §6 d19 §2 d0 §1
    (sDrX.get (F.DRM_DEV_FAILED_MASK (sDrX.rankOf 0)) = 2 ^ d19.val ∧ d0 ≠ d19) := by
  and_intros <;> decide +kernel

theorem test_meets_MountsReadWhatTheDiscHolds :
    -- sMoS 5 iMoW mOk fndS §1
    (hostGood mOk ∧ sMoS.bayFirst iMoW = true ∧ sMoS.going 5 opMOUNT iMoW ∧ (sMoS.bayState iMoW.bay.val = bREADY ∨ sMoS.bayState iMoW.bay.val =
      bREADING) ∧ fndS.sideMismatch = true ∧ sMoS.motorState (spindleOf iMoW.bay) = mtAT_SPEED ∧ sMoS.motors[spindleOf iMoW.bay].atRest = false) ∧
    -- sMoN 5 iMoW mOk fnd0 §2 §1
    (hostGood mOk ∧ sMoN.bayFirst iMoW = true ∧ sMoN.going 5 opMOUNT iMoW ∧ (sMoN.bayState iMoW.bay.val = bREADY ∨ sMoN.bayState iMoW.bay.val =
      bREADING) ∧ fnd0.sideMismatch = false ∧ (∃ k ∈ opusOf iMoW.bay, sMoN.get (F.RCH_SPK_STAT_SIDE_MISMATCH k.val) = 0) ∧ ((mountIdentity
      fnd0).bind fun y => sMoN.disc y.1) = none) ∧
    -- sMo3 5 iMoW mOk fndM §2 §2 dO 3 9 mapB
    (hostGood mOk ∧ sMo3.bayFirst iMoW = true ∧ sMo3.going 5 opMOUNT iMoW ∧ (sMo3.bayState iMoW.bay.val = bREADY ∨ sMo3.bayState iMoW.bay.val =
      bREADING) ∧ fndM.sideMismatch = false ∧ (∃ k ∈ opusOf iMoW.bay, sMo3.get (F.RCH_SPK_STAT_SIDE_MISMATCH k.val) = 0) ∧ ((mountIdentity
      fndM).bind fun y => sMo3.disc y.1) = some dO ∧ fndM.imageMissing = true ∧ fndM.maps = [(3, 9, mapB)] ∧ sMo3.cache = []) := by
  unfold State.going State.canFinish hostGood State.quietBut
  and_intros <;> decide +kernel

/-! ### Hypotheses shown by hand -/

theorem test_meets_StepKeepsTheInvariant : State.reset.Inv ∧ step State.reset = .next { now := 1 } :=
  ⟨⟨List.Pairwise.nil, by decide, by decide, by decide, by decide, by decide, by decide, by decide, by decide, by decide⟩, rfl⟩

theorem test_meets_StepsNeverGoBack : State.reset.Inv ∧ step State.reset = .next { now := 1 } := test_meets_StepKeepsTheInvariant

/-- A strand of this number. -/
def strandOf (n : Nat) : Strand := { num := n + 1, vol := 4095, owner := 2, compress := false, digest := Running.empty }
/-- Every one of the 262,143 contexts is in use. -/
def sNoStrand : State := { ons iOpen {} with volumes := [vol5], strands := (List.range 262143).map strandOf }

theorem test_meets_OpenStrand_no_context : sNoStrand.freeStrandNum = none := by
  simp only [State.freeStrandNum, sNoStrand, List.find?_eq_none, List.length_map, List.length_range, List.mem_map, List.mem_range,
    Bool.and_eq_true, decide_eq_true_eq, Bool.not_eq_true', not_and, Bool.not_eq_false, List.any_eq_true, beq_iff_eq]
  rintro x ⟨k, _, rfl⟩ h
  exact ⟨strandOf k, ⟨k, by omega, rfl⟩, rfl⟩

theorem test_meets_OpenStrand_no_context_ready :
    sNoStrand.ready 5 opOPEN iOpen ∧ bitAt iOpen.operand 2 = false ∧
    iOpen.checkFields { volume := true, operand := 7 } [] {} = none ∧
    sNoStrand.volumes.find? (fun v => v.num == iOpen.volume) = some vol5 ∧ sNoStrand.deleting iOpen.volume 5 = false := by
  unfold State.ready State.canFinish State.quiet
  exact ⟨by decide +kernel, by decide +kernel, by decide +kernel, by decide +kernel, by decide +kernel⟩

theorem test_meets_DetectionDeliversOrPoisons_rebuild :
    sRb.channelsLive = true ∧ sRb.discIn (bayOf k7) = some discB ∧ bitAt (sRb.get F.LDP_STAT_OUTER_FAILED) f3.val = false ∧
    sRb.frameAt k7 1027 0 = some fwB ∧ 3 ≤ fwB.rung ∧
    let b := discB.band (bandOf (k7.val % 2) fwB.layer (zoneOf 1027))
    let sectors := (b.blockPlaces (b.frameAt (1027 % bandTracks) 0 / (16 + b.parity))).map (sRb.blockSector k7 b)
    sectors.any Option.isNone = true ∧ ∃ l, rebuildBlock b.parity sectors = some l :=
  ⟨by decide +kernel, by decide +kernel, by decide +kernel, by decide +kernel, by decide +kernel, by decide +kernel,
    Option.isSome_iff_exists.mp (by decide +kernel)⟩

theorem test_meets_PackagesAreStagedActivatedAndAttested_certificate :
    sAtc.ready 5 opATTEST iAtc ∧ hostGood mOk ∧ sAtc.checkIdentity = none ∧ bitsOf iAtc.operand 0 2 = 1 ∧
    iAtc.checkFields { operand := 3, buffer := true } [] mOk = none ∧ iAtc.checkBuffer Config.certificate.length mOk = none := by
  unfold State.ready State.canFinish State.quiet hostGood
  refine ⟨by decide +kernel, by decide +kernel, by decide +kernel, by decide +kernel, by decide +kernel, ?_⟩
  have h : Config.certificate.length ≤ 1024 := by simp [Config.certificate]
  have hl : iAtc.list = false := by decide +kernel
  have hn : iAtc.len = 1024 := by decide +kernel
  simp only [Inst.checkBuffer, hl, hn, Bool.false_eq_true, if_false]
  exact if_neg (by omega)

end Sys2Proof.Tests
end

section
/-! The state after reset. -/

namespace Sys2Proof.Machine

/-- Every register field holds its reset value (R5). -/
theorem State.reset_get (f : Fld) : State.reset.get f = f.rst := rfl

theorem State.reset_inv : State.reset.Inv := by
  refine ⟨List.Pairwise.nil, ?_, ?_, ?_, ?_, List.Pairwise.nil, ?_, ?_, ?_, ?_⟩ <;> decide

theorem memRead_reset (a : Nat) : memRead State.reset.dram.mem a = 0 := rfl

/-- Settles O3: the table of fields, the queue and context memory are empty after reset, so that every value is a default. -/
theorem resetStateIsBootStepOne : Obligations.ResetStateIsBootStepOne := by
  unfold Obligations.ResetStateIsBootStepOne
  exact ⟨State.reset_inv, rfl, rfl, rfl, rfl, rfl, rfl, State.reset_get, memRead_reset, rfl, rfl⟩

end Sys2Proof.Machine
end

section
/-! Frames given by a mask, and what has left the part: outputs are only ever added. -/

namespace Sys2Proof.Machine

/-- The mask in which the bits of the listed parts are set. -/
def partsMask (l : List Part) : Nat := l.foldr (fun p n => 2 ^ p.idx ||| n) 0

theorem testBit_partsMask {l : List Part} {p : Part} (hp : p ∉ l) : (partsMask l).testBit p.idx = false := by
  induction l with
  | nil => exact Nat.zero_testBit _
  | cons q l ih =>
    have hq : q.idx ≠ p.idx := fun e => hp (Part.idx_inj e ▸ List.mem_cons_self)
    have hl : (partsMask l).testBit p.idx = false := ih fun h => hp (List.mem_cons_of_mem _ h)
    have hc : partsMask (q :: l) = 2 ^ q.idx ||| partsMask l := rfl
    rw [hc, Nat.testBit_or, Nat.testBit_two_pow_of_ne hq, hl, Bool.or_self]

/-- A footprint within the mask of a list of parts is a frame of that list. -/
theorem SameBut.ofMask {l : List Part} {L : Nat} {s t : State} (h : Same L s t) (hl : Nat.lor L (partsMask l) = partsMask l) :
    SameBut l s t := fun p hp => (h.mono hl) p (testBit_partsMask hp)

theorem Eff.out_grows (e : Eff) (s : State) : s.out <+: (e.apply s).out := by
  cases e
  case out o => exact List.prefix_append _ _
  all_goals exact List.prefix_rfl

theorem Prog.out_grows (p : Prog) (s : State) : s.out <+: (p.run s).out := by
  induction p generalizing s with
  | done => exact List.prefix_rfl
  | read k ih => exact ih s s
  | eff e p ih => exact (e.out_grows s).trans (ih _)

theorem Runs.out_grows {α : Type} {m : Act α} {s t : State} {a : α} (h : Act.Runs m s a t) : s.out <+: t.out := by
  have := Prog.out_grows (m (fun _ => Prog.done)) s
  rwa [h (fun _ => Prog.done)] at this

end Sys2Proof.Machine
end

section
/-! Settling: what ends every Dynto command, seen from a state in which no instruction waits. -/

namespace Sys2Proof.Machine

/-- What settling may do while no instruction waits: digests are extended, DRAM copies released, posted WRITEs forgotten and events raised, but
the instructions in progress and the rings stand (R17, R363, R377). -/
structure Settles (s t : State) : Prop where
  insts : t.insts = s.insts
  fns : ∀ f : Fin 4, t.fns[f] = { s.fns[f] with
    pending := t.fns[f].pending, pendLevel := t.fns[f].pendLevel, posted := t.fns[f].posted }
  out : s.out <+: t.out
  frame : SameBut settleParts s t

theorem Settles.refl (s : State) : Settles s s := ⟨rfl, fun _ => rfl, List.prefix_rfl, SameBut.refl _ _⟩

theorem Settles.trans {s t u : State} (h : Settles s t) (h' : Settles t u) : Settles s u where
  insts := h'.insts.trans h.insts
  fns f := by rw [h'.fns f, h.fns f]
  out := h.out.trans h'.out
  frame := h.frame.trans h'.frame

/-- A program that does no more than settling may. -/
def OnlySettles {α : Type} (m : Act α) : Prop := ∀ s, ∃ a t, Act.Runs m s a t ∧ Settles s t

theorem OnlySettles.pure {α : Type} (a : α) : OnlySettles (Pure.pure a : Act α) := fun s => ⟨a, s, Runs.pure a s, .refl s⟩

theorem OnlySettles.rd : OnlySettles rd := fun s => ⟨s, s, Runs.rd s, .refl s⟩

theorem OnlySettles.bind {α β : Type} {m : Act α} {f : α → Act β} (h : OnlySettles m) (h' : ∀ a, OnlySettles (f a)) :
    OnlySettles (m >>= f) := by
  intro s
  obtain ⟨a, t, r, e⟩ := h s
  obtain ⟨b, u, r', e'⟩ := h' a t
  exact ⟨b, u, Runs.bind r r', e.trans e'⟩

theorem OnlySettles.ite {α : Type} {c : Prop} [Decidable c] {m n : Act α} (h : OnlySettles m) (h' : OnlySettles n) :
    OnlySettles (if c then m else n) := by
  split
  · exact h
  · exact h'

theorem OnlySettles.forAll {α : Type} {l : List α} {m : α → Act Unit} (h : ∀ a, OnlySettles (m a)) :
    OnlySettles (forAll l m) := by
  induction l with
  | nil => exact .pure ()
  | cons a as ih => exact (h a).bind fun _ => ih

/-- The parts that settling touches beside the instructions, the functions and the parts of events. -/
def settledMask : Nat := partsMask [.cache, .extents, .strands, .discs, .nv, .flzRegs]

theorem OnlySettles.touches {α : Type} {m : Act α} (h : Touches settledMask m) : OnlySettles m := by
  intro s
  obtain ⟨a, t, r, e⟩ := h s
  refine ⟨a, t, r, e .insts rfl, fun f => ?_, Runs.out_grows r, SameBut.ofMask e rfl⟩
  rw [show t.fns = s.fns from e .fns rfl]

theorem OnlySettles.raise (n sub inst detail : Nat) : OnlySettles (raise n sub inst detail) := by
  intro s
  obtain ⟨t, r, -, g⟩ := raise_runs n sub inst detail s
  exact ⟨(), t, r, g.same .insts rfl, fun f => by rw [g.fns f], Runs.out_grows r, SameBut.ofMask g.same (by decide)⟩

/-- Only the posted WRITEs of a function change (R363). -/
theorem OnlySettles.posted (f : Fin 4) (g : List (Nat × Nat × Nat) → List (Nat × Nat × Nat)) :
    OnlySettles (emit (.fn f fun h => { h with posted := g h.posted })) := by
  intro s
  have frame : SameBut settleParts s ((Eff.fn f fun h => { h with posted := g h.posted }).apply s) :=
    (SameBut.refl _ s).eff rfl (by simp [Eff.part, settleParts, eventParts])
  refine ⟨(), _, Runs.emit _ s, rfl, fun j => ?_, List.prefix_rfl, frame⟩
  by_cases h : f = j
  · subst h; rw [apply_fn_self]
  · rw [apply_fn_ne _ s h]

theorem digestSector_onlySettles (x : Strand) (c : CacheSector) : OnlySettles (digestSector x c) := by
  unfold digestSector
  have effects : OnlySettles (do
      setStrand x.num (fun t => { t with digest := t.digest.addSector c.data, digestSeq := c.seq, dirty := true,
                                         digestPoisoned := t.digestPoisoned || c.poison })
      emit (.cache fun l => l.map (fun y => if y.seq == c.seq then { y with digested := true } else y))) :=
    .touches ((setStrand_touches _ _ rfl).bind fun _ => Touches.emitM (M := 2 ^ Part.cache.idx) rfl rfl)
  exact .ite ((OnlySettles.raise _ _ _ _).bind fun _ => effects) effects

theorem extendDigest_onlySettles (n fuel : Nat) : OnlySettles (extendDigest n fuel) := by
  induction fuel with
  | zero => exact .pure ()
  | succ fuel ih =>
    rw [extendDigest]
    refine .bind .rd fun s => ?_
    split
    · exact .pure ()
    split
    · exact .pure ()
    · exact .ite ((digestSector_onlySettles _ _).bind fun _ => ih) (.pure ())

theorem sweepCache_onlySettles : OnlySettles sweepCache := by
  unfold sweepCache extendDigests
  refine .bind (.bind .rd fun s => .forAll fun x => extendDigest_onlySettles _ _) fun _ => .bind .rd fun s => ?_
  exact .touches (.bind (.forAll fun c => commitMove_touches c rfl) fun _ => Touches.emitM (M := 2 ^ Part.cache.idx) rfl rfl)

theorem Post.onlySettles {α : Type} {m : Act α} {s : State} {Q : α → State → Prop} (h : OnlySettles m)
    (q : ∀ a t, Settles s t → Q a t) : Act.Post m s Q := by
  obtain ⟨a, t, r, e⟩ := h s
  exact ⟨a, t, r, q a t e⟩

/-- While no instruction waits, is past its commit point or is held, there is none that settling could complete or start. -/
theorem Post.settle {s : State} {Q : Unit → State → Prop} (hq : s.quiet) (q : ∀ t, Settles s t → Q () t) : Act.Post settle s Q := by
  have still {p : Inst → Bool} {u : State} (hu : Settles s u)
      (hp : ∀ j, p j = true → j.stage = .waiting ∨ j.stage = .committed ∨ j.stage = .held) : u.insts.filter p = [] := by
    rw [hu.insts, List.filter_eq_nil_iff]
    intro j hj h
    obtain ⟨hw, hc, hh⟩ := hq j hj
    exact (hp j h).elim hw (Or.elim · hc hh)
  unfold Machine.settle
  refine Post.bind (Post.onlySettles sweepCache_onlySettles fun _ u hu => Post.bind (Post.rd ?_))
  rw [still hu fun j h => by simpa [or_assoc] using Or.inl h]
  refine Post.bind (Post.pure (Post.bind (Post.bind (Post.rd ?_))))
  rw [still hu fun j h => by simpa using Or.inr (Or.inr h)]
  refine Post.pure (Post.onlySettles (OnlySettles.bind ?_ fun _ => OnlySettles.bind (OnlySettles.forAll fun f => ?_) fun _ => ?_)
    fun _ t ht => q t (hu.trans ht))
  · exact .touches (showCompacting_touches rfl)
  · exact .bind .rd fun v => .posted f _
  · exact .touches ((saveBlocks_touches rfl).bind fun _ => showGate_touches rfl)

end Sys2Proof.Machine
end

section
/-! Completion: what completing an instruction does, and how a command that performs one ends (R350, R355). -/

namespace Sys2Proof.Machine

/-- Nothing but submission rings and their chains has changed. -/
structure SqsChange (s t : State) : Prop where
  fns : ∀ f : Fin 4, t.fns[f] = { s.fns[f] with sqs := t.fns[f].sqs }
  frame : SameBut [.fns] s t

theorem SqsChange.refl (s : State) : SqsChange s s := ⟨fun _ => rfl, .refl _ s⟩

theorem SqsChange.trans {s t u : State} (h : SqsChange s t) (h' : SqsChange t u) : SqsChange s u :=
  ⟨fun f => by rw [h'.fns f, h.fns f], h.frame.trans h'.frame⟩

theorem Post.setSq {f : Fin 4} {n : Nat} {g : SubRing → SubRing} {s : State} {Q : Unit → State → Prop}
    (q : ∀ t, SqsChange s t → Q () t) : Act.Post (setSq f n g) s Q := by
  refine Post.emit (q _ ⟨fun j => ?_, (SameBut.refl _ s).eff rfl (by simp [Eff.part])⟩)
  by_cases h : f = j
  · subst h; rw [apply_fn_self]
  · rw [apply_fn_ne _ s h]

theorem Post.setChain {i : Inst} {g : Chain → Chain} {s : State} {Q : Unit → State → Prop}
    (q : ∀ t, SqsChange s t → Q () t) : Act.Post (setChain i g) s Q := by
  unfold Machine.setChain
  split
  · exact Post.pure (q s (.refl s))
  · exact Post.setSq q

/-- An instruction has completed with a code and DW0: it is no longer in progress, and its completion is staged (R350). -/
structure Completes (i : Inst) (code dw0 : Nat) (s t : State) : Prop where
  insts : t.insts = s.insts.filter (fun j => j.id != i.id)
  staged : t.staged i code dw0
  frame : SameBut [.insts, .seqs, .seqRegs, .fns] s t

/-- A completion that joins those of its ring is staged. -/
theorem Post.setCq_append {i : Inst} {c : Completion} {code dw0 : Nat} {s : State} {Q : Unit → State → Prop}
    (hr : ∃ r ∈ s.fns[i.fn].cqs, r.num = i.cq) (hc : c.id = i.id ∧ c.tag = i.tag ∧ c.code = code ∧ c.dw0 = dw0 % 2 ^ 32)
    (q : ∀ t, t.staged i code dw0 → SameBut [.fns] s t → Q () t) :
    Act.Post (setCq i.fn i.cq fun r => { r with waiting := r.waiting ++ [c] }) s Q := by
  obtain ⟨r, hr, hn⟩ := hr
  refine Post.emit (q _ ⟨{ r with waiting := r.waiting ++ [c] }, ?_, hn, c, by simp, hc⟩ ((SameBut.refl _ s).eff rfl (by simp [Eff.part])))
  rw [apply_fn_self]
  exact List.mem_map.mpr ⟨r, hr, by simp [hn]⟩

theorem SqsChange.staged {i : Inst} {code dw0 : Nat} {s t : State} (h : SqsChange s t) (hs : s.staged i code dw0) :
    t.staged i code dw0 := by
  unfold State.staged
  rw [h.fns]
  exact hs

/-- An instruction that its function has not disowned, that was admitted at its class and whose ring is there completes with its code. -/
theorem Post.completeAs {i : Inst} {code dw0 : Nat} {wrote : Option (Nat × Nat × Nat)} {s : State} {Q : Unit → State → Prop}
    (ho : i.orphan = false) (hd : i.demoted = false) (hr : ∃ r ∈ s.fns[i.fn].cqs, r.num = i.cq)
    (q : ∀ t, Completes i code dw0 s t → Q () t) : Act.Post (completeAs i code dw0 wrote) s Q := by
  unfold Machine.completeAs Machine.showThreads
  refine Post.bind (Post.rd ?_)
  simp only [hd, Bool.false_eq_true, and_false, if_false]
  refine Post.bind (Post.emit (Post.bind (Post.emit (Post.bind (Post.bind (Post.rd (Post.setF ?_)))))))
  refine Post.ifTrue ho (Post.bind (Post.setCq_append (code := code) (dw0 := dw0) hr ⟨rfl, rfl, rfl, rfl⟩ fun u hs hu => ?_))
  refine Post.bind (Post.setChain fun v hv => ?_)
  have done (t : State) (h : SqsChange u t) : Q () t := by
    refine q t ⟨?_, h.staged hs, (SameBut.trans ?_ (hu.mono (by simp))).trans (h.frame.mono (by simp))⟩
    · exact (h.frame .insts (by simp)).trans (hu .insts (by simp))
    · exact (((SameBut.refl _ s).eff rfl (by simp [Eff.part])).eff rfl (by simp [Eff.part])).put (by simp)
  exact Post.ite (fun _ => Post.setSq fun t ht => done t (hv.trans ht)) fun _ => Post.pure (done v hv)

theorem Post.complete {id code dw0 : Nat} {i : Inst} {s : State} {Q : Unit → State → Prop} (hi : s.inst id = some i) (hf : s.canFinish i)
    (q : ∀ t, Completes i code dw0 s t → Q () t) : Act.Post (complete id code dw0) s Q := by
  obtain ⟨ho, hd, hr, -⟩ := hf
  unfold Machine.complete
  refine Post.bind (Post.rd ?_)
  rw [hi]
  exact Post.completeAs ho hd hr q

theorem Completes.quiet {i : Inst} {code dw0 : Nat} {s t : State} (h : Completes i code dw0 s t) (hq : s.quiet) : t.quiet := by
  intro j hj
  rw [h.insts] at hj
  exact hq j (List.mem_filter.mp hj).1

/-- What settling leaves of an instruction that has completed. -/
theorem Completes.finished {i : Inst} {code dw0 : Nat} {s t u : State} (h : Completes i code dw0 s t) (hs : Settles t u) :
    u.finished i code dw0 := by
  refine ⟨?_, ?_⟩
  · unfold State.inst
    rw [hs.insts, h.insts, List.find?_eq_none]
    intro j hj
    simpa using (List.mem_filter.mp hj).2
  · obtain ⟨r, hr, hc⟩ := h.staged
    exact ⟨r, by rw [hs.fns]; exact hr, hc⟩

theorem State.inst_of_dispatched {s : State} {id op : Nat} {i : Inst} (h : s.dispatched id op = some i) : s.inst id = some i := by
  unfold State.dispatched at h
  split at h
  next j hj => rw [hj, (Option.ite_none_right_eq_some.mp h).2]
  next => cases h

/-- A dispatched instruction whose checks pass does its own work, and what waits is settled (R355). -/
theorem Post.perform {id op : Nat} {checks : State → Inst → List (Option (Nat × Nat))} {m : Inst → Act Unit} {i : Inst} {s : State}
    {Q : Unit → State → Prop} (hr : s.dispatched id op = some i) (hc : firstFail (checks s i) = none)
    (hm : Act.Post (m i) s fun _ t => t.quiet ∧ ∀ u, Settles t u → Q () u) : Act.Post (perform id op checks m) s Q := by
  unfold Machine.perform
  refine Post.bind (Post.rd ?_)
  simp only [hr, hc]
  exact Post.bind (Post.mono hm fun _ _ h => Post.settle h.1 h.2)

/-- Readiness is about the instructions in progress and the rings alone. -/
theorem State.ready.congr {s u : State} {id op : Nat} {i : Inst} {l : List Part} (h : s.ready id op i) (hu : SameBut l s u)
    (hi : .insts ∉ l) (hf : .fns ∉ l) : u.ready id op i := by
  have ei : u.insts = s.insts := hu .insts hi
  have ef : u.fns = s.fns := hu .fns hf
  unfold State.ready State.dispatched State.inst State.canFinish State.quiet at *
  rwa [ei, ef]

/-- The last step of an instruction that is ready: it completes, and settling leaves it finished, within the parts of every command. -/
theorem Post.complete_ready {id op code dw0 : Nat} {i : Inst} {s : State} (h : s.ready id op i) :
    Act.Post (Machine.complete id code dw0) s fun _ t => t.quiet ∧
      ∀ u, Settles t u → u.finished i code dw0 ∧ SameBut settleParts s u ∧ s.out <+: u.out := by
  obtain ⟨hd, hf, hq⟩ := h
  refine Post.complete (State.inst_of_dispatched hd) hf fun t ht => ⟨ht.quiet hq, fun u hu => ⟨ht.finished hu, ?_, ?_⟩⟩
  · exact (ht.frame.mono (by simp [settleParts, eventParts])).trans hu.frame
  · rw [← show t.out = s.out from ht.frame .out (by simp)]
    exact hu.out

end Sys2Proof.Machine
end

section
/-! Registers read: by a register of 32 bits, and by the two words of a 64-bit counter (R9, R409). -/

namespace Sys2Proof.Machine

/-! ### Bytes -/

theorem leBytes_append (m n v : Nat) : leBytes (m + n) v = leBytes m v ++ leBytes n (v / 256 ^ m) := by
  induction m generalizing v with
  | zero => simp [leBytes]
  | succ m ih => rw [Nat.succ_add, leBytes, leBytes, ih, List.cons_append, Nat.div_div_eq_div_mul, Nat.pow_succ']

theorem leBytes_mod (n v : Nat) : leBytes n (v % 256 ^ n) = leBytes n v := by
  induction n generalizing v with
  | zero => rfl
  | succ n ih =>
    rw [leBytes, leBytes, Nat.pow_succ', Nat.mod_mul_right_div_self, ih]
    congr 1
    exact BitVec.eq_of_toNat_eq (by simp)

/-! ### Registers read -/

/-- A register that is no word of a 64-bit counter reads as it is, and no shadow changes. -/
theorem Runs.readReg_narrow {m : Master} {a : Nat} {s : State} (h : (placeOf a).1.wide (placeOf a).2 = false)
    (h' : (placeOf a).1.wide ((placeOf a).2 - 4) = false) : Act.Runs (readReg m a) s (s.peekReg a) s := by
  have hp : s.peekReg a = s.wordOf (placeOf a).1 (placeOf a).2 % 2 ^ 32 :=
    if_neg fun w => absurd (h'.symm.trans w.2) Bool.false_ne_true
  unfold readReg
  refine Runs.bind (Runs.rd s) ?_
  simp only [h, h', hp, Bool.false_eq_true, and_false, if_false]
  exact Runs.pure _ s

/-- The latching of a counter's high word in the shadow of the master that reads its low word (R9). -/
def latchHigh (m : Master) (a high : Nat) : Eff :=
  .shadows fun l => ((masterCode m, a), high) :: l.filter (fun x => x.1 != (masterCode m, a))

/-- The low word of a counter reads as it is, and latches the high word (R9). -/
theorem Runs.readReg_low {m : Master} {a : Nat} {s : State} (h : (placeOf a).1.wide (placeOf a).2 = true) :
    Act.Runs (readReg m a) s (s.wordOf (placeOf a).1 (placeOf a).2 % 2 ^ 32)
      ((latchHigh m a (s.wordOf (placeOf a).1 (placeOf a).2 / 2 ^ 32)).apply s) := by
  unfold readReg
  refine Runs.bind (Runs.rd s) ?_
  simp only [h, if_true]
  exact Runs.bind (Runs.emit _ s) (Runs.pure _ _)

/-- The high word then reads as it was latched (R9). -/
theorem Runs.readReg_high {m : Master} {a high : Nat} {s : State} (h : (placeOf (a + 4)).1.wide (placeOf (a + 4)).2 = false)
    (h4 : 4 ≤ (placeOf (a + 4)).2) (h' : (placeOf (a + 4)).1.wide ((placeOf (a + 4)).2 - 4) = true) :
    Act.Runs (readReg m (a + 4)) ((latchHigh m a high).apply s) high ((latchHigh m a high).apply s) := by
  unfold readReg
  refine Runs.bind (Runs.rd _) ?_
  simp only [h, h', h4, Bool.false_eq_true, if_false, and_self, if_true, Nat.add_sub_cancel]
  have hl : ((latchHigh m a high).apply s).shadows.lookup (masterCode m, a) = some high := by simp [latchHigh]
  rw [hl]
  exact Runs.pure _ _

theorem Runs.readRegs_one {m : Master} {a v : Nat} {s t : State} (h : Act.Runs (readReg m a) s v t) :
    Act.Runs (readRegs m a 1) s (leBytes 4 v) t := by
  rw [← List.append_nil (leBytes 4 v)]
  exact Runs.bind h (Runs.bind (Runs.pure [] t) (Runs.pure _ t))

/-- The two words of a counter, low word first, spell its value at the first read (R9). -/
theorem Runs.readRegs_counter {m : Master} {a off : Nat} {b : Block} {s : State} (hp : placeOf a = (b, off))
    (hp' : placeOf (a + 4) = (b, off + 4)) (hw : b.wide off = true) (hw' : b.wide (off + 4) = false) :
    Act.Runs (readRegs m a 2) s (leBytes 8 (s.wordOf b off)) ((latchHigh m a (s.wordOf b off / 2 ^ 32)).apply s) := by
  have low : Act.Runs (readReg m a) s _ _ := Runs.readReg_low (by rw [hp]; exact hw)
  have high : Act.Runs (readRegs m (a + 4) 1) _ _ _ := Runs.readRegs_one (Runs.readReg_high (m := m) (s := s)
    (high := s.wordOf b off / 2 ^ 32) (by rw [hp']; exact hw') (by rw [hp']; omega) (by rw [hp']; exact hw))
  have bytes : leBytes 8 (s.wordOf b off) = leBytes 4 (s.wordOf b off % 2 ^ 32) ++ leBytes 4 (s.wordOf b off / 2 ^ 32) := by
    have pow : 256 ^ 4 = 2 ^ 32 := rfl
    rw [leBytes_append 4 4, ← leBytes_mod 4 (s.wordOf b off), pow]
  rw [hp] at low
  rw [bytes]
  exact Runs.bind low (Runs.bind high (Runs.pure _ _))

theorem State.wordOf_powerOn (s : State) : s.wordOf .lif 8 = s.powerOn % 256 ^ 8 := by
  simp [State.wordOf, Block.fields, lifFields, State.view, F.LIF_POWER_ON_SEC]

theorem readRegs_powerOn (m : Master) (s : State) :
    ∃ t, Act.Runs (readRegs m F.LIF_POWER_ON_SEC.addr 2) s (leBytes 8 s.powerOn) t ∧ SameBut [.shadows] s t := by
  have read := Runs.readRegs_counter (m := m) (a := F.LIF_POWER_ON_SEC.addr) (off := 8) (b := .lif) (s := s) rfl rfl rfl rfl
  have bytes : leBytes 8 (s.wordOf .lif 8) = leBytes 8 s.powerOn := by rw [s.wordOf_powerOn, leBytes_mod]
  exact ⟨_, bytes ▸ read, (SameBut.refl _ s).eff rfl List.mem_cons_self⟩

/-! ### REG_READ -/

/-- The checks of REG_READ and REG_WRITE (R409). -/
def Inst.regChecks (i : Inst) (mem : HostMem) : List (Option (Nat × Nat)) :=
  [i.checkFields ⟨false, false, true, some (1, 256), 0, true, none⟩ i.addrFails mem, i.checkBuffer (4 * i.count) mem, checkDma mem]

theorem Inst.regChecks_pass {i : Inst} {mem : HostMem} (hm : hostGood mem)
    (hf : i.checkFields ⟨false, false, true, some (1, 256), 0, true, none⟩ i.addrFails mem = none)
    (hb : i.checkBuffer (4 * i.count) mem = none) : firstFail (i.regChecks mem) = none := by
  obtain ⟨hok, -, -⟩ := hm
  simp [Inst.regChecks, hf, hb, checkDma, hok, firstFail]

/-- REG_READ writes the bytes that its reads give to its buffer and completes with SUCCESS; `l` is what the reads touch. -/
theorem exec_regRead_finishes {s u : State} {id : Nat} {i : Inst} {mem : HostMem} {l : List Part} {b : List Byte}
    (hr : s.ready id opREGR i) (hm : hostGood mem) (hc : firstFail (i.regChecks mem) = none)
    (h : Act.Runs (readRegs (.function i.fn) i.lsa i.count) s b u) (hu : SameBut l s u)
    (hi : .insts ∉ l) (hn : .fns ∉ l) (ho : .out ∉ l) :
    ∃ t, exec (.regRead id mem) s = .next t ∧ SameBut (l ++ settleParts) s t ∧ t.finished i cSUCCESS 0 ∧ wroteBuffer id b s t := by
  obtain ⟨-, hlost, -⟩ := hm
  refine Post.answer (Post.perform hr.1 hc ?_)
  simp only [hlost, Bool.false_eq_true, if_false]
  have written : SameBut (.out :: l) s ((Eff.out (.bytes id b)).apply u) :=
    (hu.mono fun _ => List.mem_cons_of_mem _).eff rfl (by simp [Eff.part])
  have out : ((Eff.out (.bytes id b)).apply u).out = s.out ++ [.bytes id b] := by
    rw [← show u.out = s.out from hu .out ho]; rfl
  refine Post.bind ⟨b, u, h, Post.bind (Post.emit ?_)⟩
  refine Post.mono (Post.complete_ready (hr.congr written (by simp [hi]) (by simp [hn]))) fun _ v hv => ⟨hv.1, fun t ht => ?_⟩
  obtain ⟨fin, frame, ⟨o, grows⟩⟩ := hv.2 t ht
  refine ⟨?_, fin, o, ?_⟩
  · refine (written.mono fun p hp => ?_).trans (frame.mono fun p hp => List.mem_append_right _ hp)
    rcases List.mem_cons.mp hp with rfl | hp
    · exact List.mem_append_right _ (by simp [settleParts, eventParts])
    · exact List.mem_append_left _ hp
  · rw [← grows, out, List.append_assoc]; rfl

end Sys2Proof.Machine
end

section
/-! Registers written: a field of access type RW, LEVEL of a trace buffer, and writes by a master (R5, R6, R11, R112, R409). -/

namespace Sys2Proof.Machine

/-- Only the bits within a field's width count. -/
theorem State.put_lowBits (s : State) (f : Fld) (v : Nat) : s.put f (bitsOf v 0 f.w) = s.put f v := by
  simp [State.put, bitsOf]

theorem Runs.forAll_still {α : Type} {l : List α} {m : α → Act Unit} {s : State} (h : ∀ a ∈ l, Act.Runs (m a) s () s) :
    Act.Runs (forAll l m) s () s := by
  induction l with
  | nil => exact Runs.pure () s
  | cons a as ih => exact Runs.bind (h a List.mem_cons_self) (ih fun b hb => h b (List.mem_cons_of_mem _ hb))

/-- A register of one RW field takes the value written, whatever the block's state (R6). -/
theorem Runs.writeFields_rw {x : FieldSpec} (hx : x.acc = .rw) (hl : x.fld.lo = 0) (enabled bad : Bool) (reject : Act Unit) (v : Nat)
    (s : State) : Act.Runs (writeFields [x] enabled bad reject v) s () (s.put x.fld v) := by
  have hc : s.cfgChanges [x] v = [] := by simp [State.cfgChanges, hx]
  unfold writeFields
  refine Runs.bind (Runs.rd s) ?_
  simp only [hc, List.isEmpty_nil, Bool.not_true, Bool.false_and, Bool.false_eq_true, if_false]
  refine Runs.bind (Runs.pure () s) (Runs.bind (a := ()) ?_ (Runs.pure () _))
  simp only [hx, hl]
  rw [← s.put_lowBits]
  exact Runs.emit _ s

theorem Runs.abortCal_none {p : CalRun → Bool} {s : State} (h : ∀ r, p r = false) : Act.Runs (abortCal p) s () s := by
  unfold abortCal
  refine Runs.bind (Runs.rd s) (Runs.forAll_still fun r hr => ?_)
  exact absurd (List.mem_filter.mp hr).2 (by simp [h r])

theorem placeOf_traceLevel (e : Fin 2) (k : Fin 8) : placeOf (F.SRV_TRC_LEVEL_LEVEL e.val k.val).addr = (.trace e k, 4) := by
  revert e k; decide

/-- A write to LEVEL sets it and nothing else: no calibration run sets it, and it is RW while the buffer runs (R112, R270). -/
theorem Runs.writeReg_traceLevel (m : Master) (e : Fin 2) (k : Fin 8) (v : Nat) (env : List Int) (s : State) :
    Act.Runs (writeReg m (F.SRV_TRC_LEVEL_LEVEL e.val k.val).addr v env) s () (s.put (F.SRV_TRC_LEVEL_LEVEL e.val k.val) v) := by
  unfold writeReg
  rw [placeOf_traceLevel]
  exact Runs.bind (Runs.abortCal_none fun _ => rfl) (Runs.bind (Runs.bind (Runs.rd s) (Runs.pure _ s))
    (Runs.bind (Runs.rd s) (Runs.writeFields_rw rfl rfl _ _ _ v s)))

theorem State.traceLevel_not_ignored (s : State) (e : Fin 2) (k : Fin 8) :
    s.writeIgnored (F.SRV_TRC_LEVEL_LEVEL e.val k.val).addr = false := by
  unfold State.writeIgnored
  rw [placeOf_traceLevel]
  rfl

/-- Rejected writes are counted in the EVT window. -/
theorem State.rejections_put {s : State} {f : Fld} {v : Nat} (h : f.window ≠ .evtRegs) : (s.put f v).rejections = s.rejections := by
  unfold State.rejections
  congr 1
  refine List.map_congr_left fun n _ => State.get_put_window s v ?_
  rw [F.EVT_COUNT_CNT_window]
  exact h.symm

/-- REG_WRITE's write to LEVEL is neither ignored nor rejected (R409). -/
theorem Runs.writeRegs_traceLevel (m : Master) (e : Fin 2) (k : Fin 8) (v : Nat) (env : List Int) (s : State) :
    Act.Runs (writeRegs m env (F.SRV_TRC_LEVEL_LEVEL e.val k.val).addr [v]) s 0 (s.put (F.SRV_TRC_LEVEL_LEVEL e.val k.val) v) := by
  refine Runs.bind (Runs.rd s) (Runs.bind (Runs.writeReg_traceLevel m e k v env s) (Runs.bind (Runs.rd _)
    (Runs.bind (Runs.pure 0 _) ?_)))
  rw [s.traceLevel_not_ignored, State.rejections_put (by simp)]
  simp only [Bool.false_eq_true, lt_irrefl, or_self, if_false]
  exact Runs.pure 0 _

/-- REG_WRITE completes with the number of its writes that were ignored or rejected, and what follows its writes stays within the parts of
every command; `l` is what the writes touch. -/
theorem exec_regWrite_finishes {s u : State} {id n : Nat} {i : Inst} {mem : HostMem} {values : List Word} {env : List Int} {l : List Part}
    (hr : s.ready id opREGW i) (hm : hostGood mem) (hc : firstFail (i.regChecks mem) = none)
    (h : Act.Runs (writeRegs (.function i.fn) env i.lsa ((List.range i.count).map fun k => (values.getD k 0).toNat)) s n u)
    (hu : SameBut l s u) (hi : .insts ∉ l) (hn : .fns ∉ l) :
    ∃ t, exec (.regWrite id mem values env) s = .next t ∧ SameBut (l ++ settleParts) s t ∧ t.finished i cSUCCESS n ∧
      SameBut settleParts u t := by
  obtain ⟨-, hlost, -⟩ := hm
  refine Post.answer (Post.perform hr.1 hc ?_)
  simp only [hlost, Bool.false_eq_true, if_false]
  refine Post.bind ⟨n, u, h, Post.mono (Post.complete_ready (hr.congr hu hi hn)) fun _ v hv => ⟨hv.1, fun t ht => ?_⟩⟩
  obtain ⟨fin, frame, -⟩ := hv.2 t ht
  exact ⟨(hu.mono fun _ => List.mem_append_left _).trans (frame.mono fun _ => List.mem_append_right _), fin, frame⟩

/-- A write with nothing else in its cycle is the write alone (R7, R8). -/
theorem Runs.sameCycle_alone {b : Block} {off v : Nat} {write : Nat → Act Unit} {s t : State} (h : Act.Runs (write v) s () t) :
    Act.Runs (sameCycle b off v {} write) s () t := by
  unfold sameCycle
  refine Runs.bind (Runs.rd s) ?_
  simp only [Nat.zero_and, Bool.false_and, Bool.false_eq_true, if_false, Nat.and_zero, Nat.sub_zero]
  refine Runs.bind h (Runs.forAll_still fun x _ => ?_)
  simp only [bitsOf, Nat.zero_div, Nat.zero_mod, ne_eq, not_true, if_false]
  exact Runs.pure () t

theorem traceLevel_addr_lt (e : Fin 2) (k : Fin 8) : (F.SRV_TRC_LEVEL_LEVEL e.val k.val).addr < 2 ^ 24 := by
  revert e k; decide

theorem traceLevel_addr_aligned (e : Fin 2) (k : Fin 8) : (F.SRV_TRC_LEVEL_LEVEL e.val k.val).addr % 4 = 0 := by
  revert e k; decide

theorem exec_registerWrite_traceLevel {s : State} {m : Master} (hm : s.mayWrite m = true) (e : Fin 2) (k : Fin 8) (v : Word) :
    exec (.registerWrite m none (F.SRV_TRC_LEVEL_LEVEL e.val k.val).addr 4 (.write v {}) []) s =
      .next (s.put (F.SRV_TRC_LEVEL_LEVEL e.val k.val) v.toNat) := by
  refine Runs.answer ?_
  simp only [hm, traceLevel_addr_lt, traceLevel_addr_aligned, bne_self_eq_false, Bool.or_self, Bool.false_eq_true, true_and, if_true,
    if_false]
  exact Runs.sameCycle_alone (Runs.writeReg_traceLevel m e k v.toNat [] s)

/-- A master that may not write has no effect (R11; log 15). -/
theorem exec_registerWrite_refused {s : State} {m : Master} (hm : s.mayWrite m = false) (addr size : Nat) (op : RegOp) (env : List Int) :
    exec (.registerWrite m none addr size op env) s = .next s := by
  refine Runs.answer ?_
  simp only [hm, Bool.false_eq_true, false_and, if_false]
  exact Runs.pure () s

/-- A write of another width than 32 bits is ignored: it leaves only the parts of its REG_ACCESS_FAULT changed (R5). -/
theorem exec_registerWrite_wrongWidth {s : State} {m : Master} {addr size : Nat} (hm : s.mayWrite m = true) (ha : addr < 2 ^ 24)
    (hs : size ≠ 4) (v : Word) (same : SameCycle) (env : List Int) :
    ∃ t, exec (.registerWrite m none addr size (.write v same) env) s = .next t ∧ SameBut eventParts s t := by
  have hz : (size != 4 || addr % 4 != 0) = true := by simp [hs]
  refine Post.answer ?_
  simp only [hm, ha, hz, and_self, if_true]
  exact Post.touches (regAccessFault_touches _ _ _ _ (L := 144116287657738310) rfl) fun _ _ h => SameBut.ofMask h (by decide)

end Sys2Proof.Machine
end

section
/-! REG_READ, REG_WRITE and a write by a master (R9, R11, R409). -/

namespace Sys2Proof.Machine

/-- Settles O35: the reads and writes are run once each (`Runs.readReg_narrow`, `readRegs_powerOn`, `Runs.writeReg_traceLevel`), and an
instruction that is ready completes around them. -/
theorem registersAreReadAndWritten : Obligations.RegistersAreReadAndWritten := by
  unfold Obligations.RegistersAreReadAndWritten
  refine fun s id i mem => ⟨fun hr hm hf hb => ⟨fun hc hw hw' => ?_, fun hc hl => ?_⟩, fun e k v => ⟨?_, ?_, ?_, ?_⟩⟩
  · have read := Runs.readRegs_one (Runs.readReg_narrow (m := .function i.fn) (s := s) hw hw')
    exact exec_regRead_finishes (l := []) hr hm (Inst.regChecks_pass hm hf hb) (hc ▸ read) (.refl _ s) (by simp) (by simp) (by simp)
  · obtain ⟨u, read, frame⟩ := readRegs_powerOn (.function i.fn) s
    rw [← hl] at read
    exact exec_regRead_finishes hr hm (Inst.regChecks_pass hm hf hb) (hc ▸ read) frame (by simp) (by simp) (by simp)
  · intro hr hm _ hc hl hf hb
    have written := Runs.writeRegs_traceLevel (.function i.fn) e k v.toNat [] s
    have values : (List.range i.count).map (fun k => ([v].getD k 0).toNat) = [v.toNat] := by rw [hc]; rfl
    rw [← hl, ← values] at written
    obtain ⟨t, next, frame, fin, rest⟩ := exec_regWrite_finishes (l := [.srvRegs]) hr hm (Inst.regChecks_pass hm hf (hc ▸ hb)) written
      ((SameBut.refl _ s).put (by simp)) (by simp) (by simp)
    refine ⟨t, next, frame, fin, ?_⟩
    rw [rest .srvRegs (by simp [settleParts, eventParts]) _ (F.SRV_TRC_LEVEL_LEVEL_window _ _), State.get_put_self]
    exact Nat.mod_eq_of_lt v.isLt
  · exact fun m hm => exec_registerWrite_traceLevel hm e k v
  · exact fun m hm => exec_registerWrite_refused hm _ _ _ _
  · intro m hm
    obtain ⟨t, next, frame⟩ := exec_registerWrite_wrongWidth (size := 2) hm (traceLevel_addr_lt e k) (by decide) v {} []
    exact ⟨t, next, frame, frame .srvRegs (by simp [eventParts]) _ (F.SRV_TRC_LEVEL_LEVEL_window _ _)⟩

end Sys2Proof.Machine
end

section
/-! The first effect of a program, one rule for each kind. -/

namespace Sys2Proof.Machine

theorem Post.rdThen {α : Type} {f : State → Act α} {s : State} {Q : α → State → Prop} (h : Act.Post (f s) s Q) :
    Act.Post (Machine.rd >>= f) s Q := Post.bind (Post.rd h)

theorem Post.emitThen {α : Type} {e : Eff} {f : Unit → Act α} {s : State} {Q : α → State → Prop} (h : Act.Post (f ()) (e.apply s) Q) :
    Act.Post (Machine.emit e >>= f) s Q := Post.bind (Post.emit h)

theorem Post.setThen {α : Type} {x : Fld} {v : Nat} {f : Unit → Act α} {s : State} {Q : α → State → Prop}
    (h : Act.Post (f ()) (s.put x v) Q) : Act.Post (Machine.setF x v >>= f) s Q := Post.bind (Post.setF h)

end Sys2Proof.Machine
end

section
/-! The resets of the part and the start that follows one (R30, R43, R506, R547, R567 to R571). -/

namespace Sys2Proof.Machine

/-! ### What a reset leaves -/

/-- A reset that keeps no register leaves each at its reset value (R5, R547). -/
theorem State.hardReset_get (s : State) (f : Fld) : (s.hardReset fun _ => false).get f = f.rst := by
  simp [State.get, State.hardReset, tabGet]

/-- A field of the mode that `enterReset` does not set reads as before. -/
theorem State.get_put_modes (s : State) (a b c : Nat) {f : Fld} (hm : f.key ≠ F.DEV_MODE_STAT_MODE.key)
    (hp : f.key ≠ F.DEV_MODE_STAT_PREV_MODE.key) (ht : f.key ≠ F.DEV_MODE_STAT_TRANSITION.key) :
    (((s.put F.DEV_MODE_STAT_MODE a).put F.DEV_MODE_STAT_PREV_MODE b).put F.DEV_MODE_STAT_TRANSITION c).get f = s.get f := by
  rw [State.get_put_ne _ _ ht, State.get_put_ne _ _ hp, State.get_put_ne _ _ hm]

/-- The parts that are volatile: those that `ResetTo` lets a reset change. -/
def resetParts : List Part := [.devRegs, .evtRegs, .seqRegs, .cchRegs, .drmRegs, .flzRegs, .hstRegs, .secRegs, .lifRegs, .srvRegs, .motRegs,
  .stpRegs, .rchRegs, .ldpRegs, .lanRegs, .wrpRegs, .calRegs, .bayRegs, .optRegs, .trcRegs, .evq, .shadows, .chip, .boot, .dbg, .cache,
  .extents, .strands, .deferred, .requests, .flash, .life, .lost, .fns, .class0, .insts, .nextId, .bays, .spokes, .optics, .servos, .traces,
  .motors, .axes, .inputs, .lanes, .detectors, .frames, .writers, .cal, .seqs, .cch, .dram]

/-- Entering OFF or RESET: every register and every volatile structure at reset, with the pins as they were (R43, R547). -/
theorem Post.enterReset {mode cause : Nat} {s : State} {Q : Unit → State → Prop} (hm : mode < 16)
    (q : ∀ t, ResetTo s t mode → t.boot = { running := false, cause := cause } → t.chip = { pins := s.chip.pins } → Q () t) :
    Act.Post (enterReset mode cause) s Q := by
  unfold Machine.enterReset
  refine Post.rdThen ?_
  iterate 2 refine Post.emitThen ?_
  iterate 2 refine Post.setThen ?_
  refine Post.setF (q _ ⟨?_, ?_, ?_, fun f m p t => ?_, rfl, rfl, rfl, rfl, rfl, rfl, fun k => ?_, ?_⟩ rfl rfl)
  · unfold State.mode
    rw [State.get_put_ne _ _ (by decide), State.get_put_ne _ _ (by decide), State.get_put_self]
    exact Nat.mod_eq_of_lt hm
  · rw [State.get_put_ne _ _ (by decide), State.get_put_self]; rfl
  · rw [State.get_put_self]; rfl
  · exact (State.get_put_modes _ _ _ _ m p t).trans (s.hardReset_get f)
  · change (Vector.replicate 8 ({} : Optic))[k].laser = false ∧ (Vector.replicate 8 ({} : Writer))[k] = {} ∧
      (Vector.replicate 8 ({} : Motor))[k] = {}
    simp
  · have reset := SameBut.ofMask (l := resetParts) (Eff.same (.hardReset fun _ => false) s) (by decide)
    exact (((reset.eff rfl (by simp [Eff.part, resetParts])).put (by decide)).put (by decide)).put (by decide)

/-- The levels at the pins are no part of what a reset leaves. -/
theorem ResetTo.chip {s t : State} {mode : Nat} (h : ResetTo s t mode) (g : Chip → Chip) : ResetTo s ((Eff.chip g).apply t) mode := by
  obtain ⟨hmode, prev, trans, fields, evq, insts, cache, strands, flash, run, drives, frame⟩ := h
  exact ⟨hmode, prev, trans, fields, evq, insts, cache, strands, flash, run, drives, frame.eff rfl (by simp [Eff.part])⟩

/-- A reset and what the pins read from it on. -/
theorem Post.resetWithPins {mode cause : Nat} {g : Chip → Chip} {s : State} {Q : Unit → State → Prop} (hm : mode < 16)
    (q : ∀ t, ResetTo s t mode → t.boot = { running := false, cause := cause } → t.chip = g { pins := s.chip.pins } → Q () t) :
    Act.Post (do
      Machine.enterReset mode cause
      Machine.emit (.chip g)) s Q :=
  Post.bind (Post.enterReset hm fun t reset boot chip => Post.emit (q _ (reset.chip g) boot (by rw [← chip]; rfl)))

/-- Settles O7: each command enters OFF or RESET and records its pin (`Post.resetWithPins`). -/
theorem resetClearsWhatIsVolatile : Obligations.ResetClearsWhatIsVolatile := by
  unfold Obligations.ResetClearsWhatIsVolatile
  refine fun s => ⟨?_, fun off => ?_, fun on => ⟨?_, ?_, ?_⟩⟩
  · exact Post.answer (Post.resetWithPins (by decide) fun t reset boot chip => ⟨reset, by rw [chip]⟩)
  · refine Post.answer (Post.ifTrue off (Post.resetWithPins (by decide) fun t reset boot chip => ⟨reset, by rw [boot], by rw [chip]⟩))
  · refine Post.answer (Post.ifTrue on ?_)
    exact Post.resetWithPins (by decide) fun t reset boot chip => ⟨reset, by rw [chip], by rw [boot]⟩
  · refine Post.answer (Post.ifTrue on ?_)
    exact Post.resetWithPins (by decide) fun t reset boot chip => ⟨reset, by rw [chip], by rw [boot]⟩
  · refine Post.answer (Post.ifTrue on ?_)
    exact Post.resetWithPins (by decide) fun t reset boot chip => ⟨reset, by rw [chip], by rw [boot]⟩

end Sys2Proof.Machine
end

section
/-! BOOT: how it begins, from RESET and after the watchdog of a start (R30, R33, R506, R508). -/

namespace Sys2Proof.Machine

/-- The parts that the beginning of BOOT changes. -/
def bootParts : List Part := .devRegs :: .cchRegs :: .secRegs :: .boot :: eventParts

/-- The state in which the beginning of BOOT raises MODE_CHANGE: step 1 runs and is shown, and the context cache is bypassed (R33, R506). -/
def State.atBoot (s : State) (prev cause : Nat) : State :=
  let u := (((s.put F.DEV_MODE_STAT_MODE mBOOT).put F.DEV_MODE_STAT_PREV_MODE prev).put F.DEV_MODE_STAT_TRANSITION 1).put
    F.DEV_MODE_STAT_CAUSE cause
  let u := (Eff.boot fun b => { b with running := true, step := 1, stepAt := s.now }).apply u
  (((u.put F.SEC_BOOT_STAT_STEP 1).put F.SEC_BOOT_STAT_CAUSE s.boot.cause).put F.CCH_STAT_INIT_DONE 1).put F.CCH_STAT_BYPASS 1

theorem State.atBoot_get (s : State) {prev cause : Nat} (hp : prev < 16) (hc : cause < 256) :
    (s.atBoot prev cause).get F.DEV_MODE_STAT_MODE = mBOOT ∧ (s.atBoot prev cause).get F.DEV_MODE_STAT_PREV_MODE = prev ∧
    (s.atBoot prev cause).get F.DEV_MODE_STAT_TRANSITION = 1 ∧ (s.atBoot prev cause).get F.DEV_MODE_STAT_CAUSE = cause ∧
    (s.atBoot prev cause).get F.SEC_BOOT_STAT_STEP = 1 ∧ (s.atBoot prev cause).get F.SEC_BOOT_STAT_CAUSE = s.boot.cause % 16 ∧
    (s.atBoot prev cause).get F.CCH_STAT_INIT_DONE = 1 ∧ (s.atBoot prev cause).get F.CCH_STAT_BYPASS = 1 := by
  have hp : prev % 2 ^ F.DEV_MODE_STAT_PREV_MODE.w = prev := Nat.mod_eq_of_lt hp
  have hc : cause % 2 ^ F.DEV_MODE_STAT_CAUSE.w = cause := Nat.mod_eq_of_lt hc
  simp (disch := decide) only [State.atBoot, State.get_put_ne, State.get_put_self, apply_boot_frame, hp, hc]
  exact ⟨rfl, trivial, rfl, trivial, rfl, rfl, rfl, rfl⟩

theorem State.atBoot_frame (s : State) (prev cause : Nat) : SameBut [.devRegs, .cchRegs, .secRegs, .boot] s (s.atBoot prev cause) := by
  have mode := ((((SameBut.refl [.devRegs, .cchRegs, .secRegs, .boot] s).put (f := F.DEV_MODE_STAT_MODE) (v := mBOOT) (by decide)).put
    (f := F.DEV_MODE_STAT_PREV_MODE) (v := prev) (by decide)).put (f := F.DEV_MODE_STAT_TRANSITION) (v := 1) (by decide)).put
    (f := F.DEV_MODE_STAT_CAUSE) (v := cause) (by decide)
  exact ((((mode.eff rfl (by simp [Eff.part])).put (by decide)).put (by decide)).put (by decide)).put (by decide)

/-- What the beginning of BOOT leaves: the start of R506, the change of mode of R33, and the pins but for the SMBus alert. -/
structure BeginsBoot (prev cause : Nat) (s t : State) : Prop where
  begun : BootBegun prev s.boot.cause t
  shown : t.get F.DEV_MODE_STAT_CAUSE = cause
  raised : Raised Ev.MODE_CHANGE 0 0 (prev + 256 * mBOOT + 65536 * cause) s t
  boot : t.boot = { s.boot with running := true, step := 1, stepAt := s.now }
  chip : t.chip = { s.chip with
    pins := { s.chip.pins with smbAlert := t.chip.pins.smbAlert, smbLevel := t.chip.pins.smbLevel }, routines := t.chip.routines }
  frame : SameBut bootParts s t

theorem Post.beginBoot {prev cause : Nat} {s : State} {Q : Unit → State → Prop} (hp : prev < 16) (hc : cause < 256)
    (q : ∀ t, BeginsBoot prev cause s t → Q () t) : Act.Post (beginBoot prev cause) s Q := by
  unfold Machine.beginBoot
  refine Post.rdThen ?_
  iterate 4 refine Post.setThen ?_
  refine Post.emitThen ?_
  iterate 4 refine Post.setThen ?_
  refine Post.raise (s := s.atBoot prev cause) fun t raised sig => q t ?_
  obtain ⟨mode, prv, trans, cse, step, shown, init, bypass⟩ := s.atBoot_get hp hc
  have before := s.atBoot_frame prev cause
  have boot : t.boot = (s.atBoot prev cause).boot := sig.same .boot rfl
  refine ⟨⟨?_, ?_, ?_, by rw [boot]; rfl, by rw [boot]; rfl, by rw [boot]; rfl, ?_, ?_, ?_, ?_⟩, ?_, ?_, by rw [boot]; rfl, sig.chip, ?_⟩
  · exact (sig.dev (by decide)).trans mode
  · exact (sig.dev (by decide)).trans prv
  · exact (sig.dev (by decide)).trans trans
  · exact (sig.gets _ (by decide) (by decide)).trans step
  · exact (sig.gets _ (by decide) (by decide)).trans shown
  · exact (sig.gets _ (by decide) (by decide)).trans init
  · exact (sig.gets _ (by decide) (by decide)).trans bypass
  · exact (sig.dev (by decide)).trans cse
  · exact raised.from (before .evtRegs (by decide) _ (F.EVT_COUNT_CNT_window _)) rfl rfl rfl rfl
  · exact (before.mono (by decide)).trans (SameBut.ofMask sig.same (by decide))

/-- RESET is left when its conditions hold: the supplies are good, RESET_N is high, SLATH has locked, the rails are within tolerance and the die
is cool (R30, R569, R571). -/
def State.mayLeaveReset (s : State) : Prop :=
  s.mode = mRESET ∧ s.chip.pins.supplies = true ∧ s.chip.pins.resetN = true ∧ s.chip.pins.slathLocked = true ∧
  s.chip.pins.brownOut = false ∧ s.chip.pins.hot = false

theorem Post.startBoot {s : State} {Q : Unit → State → Prop} (h : s.mayLeaveReset) (q : ∀ t, BeginsBoot mRESET 0 s t → Q () t) :
    Act.Post startBoot s Q := Post.bind (Post.rd (Post.ifTrue h (Post.beginBoot (by decide) (by decide) q)))

theorem Post.startBoot_held {s : State} {Q : Unit → State → Prop} (h : ¬ s.mayLeaveReset) (q : Q () s) : Act.Post Machine.startBoot s Q :=
  Post.bind (Post.rd (Post.ifFalse h (Post.pure q)))

/-- A change of the pins alone leaves everything else. -/
theorem SameBut.chip (g : Chip → Chip) (s : State) : SameBut [.chip] s ((Eff.chip g).apply s) :=
  (SameBut.refl _ s).eff rfl (by simp [Eff.part])

/-- What leaves RESET changes its mode with MODE_CHANGE (R33); the pins were recorded before. -/
theorem BeginsBoot.ofPins {g : Chip → Chip} {s t : State} (hm : s.mode = mRESET) (h : BeginsBoot mRESET 0 ((Eff.chip g).apply s) t) :
    SameBut bootParts s t ∧ BootBegun mRESET s.boot.cause t ∧ ModeChanged mBOOT 0 s t := by
  obtain ⟨begun, shown, raised, boot, chip, frame⟩ := h
  obtain ⟨mode, prev, -⟩ := id begun
  refine ⟨((SameBut.chip g s).mono (by decide)).trans frame, begun, mode, by rw [prev, hm]; rfl, shown, ?_⟩
  rw [hm]
  exact raised.from rfl rfl rfl rfl rfl

/-- A command that records a pin and finds every condition met begins BOOT. -/
theorem Post.pinStarts {g : Chip → Chip} {s : State} {Q : Unit → State → Prop} (h : ((Eff.chip g).apply s).mayLeaveReset)
    (q : ∀ t, SameBut bootParts s t ∧ BootBegun mRESET s.boot.cause t ∧ ModeChanged mBOOT 0 s t →
      t.chip.pins = { (g s.chip).pins with smbAlert := t.chip.pins.smbAlert, smbLevel := t.chip.pins.smbLevel } → Q () t) :
    Act.Post (do
      Machine.emit (.chip g)
      Machine.startBoot) s Q :=
  Post.bind (Post.emit (Post.startBoot h fun t ht => q t (ht.ofPins h.1) (by rw [ht.chip]; rfl)))

/-- A command that records a pin and finds a condition unmet records the pin alone. -/
theorem Post.pinHeld {g : Chip → Chip} {s : State} {Q : Unit → State → Prop} (h : ¬ ((Eff.chip g).apply s).mayLeaveReset)
    (q : ∀ t, SameBut [.chip] s t → t.chip = g s.chip → Q () t) :
    Act.Post (do
      Machine.emit (.chip g)
      Machine.startBoot) s Q :=
  Post.bind (Post.emit (Post.startBoot_held h (q _ (SameBut.chip g s) rfl)))

/-- Settles O8: each command records its pin, and BOOT begins when the conditions hold then (`Post.pinStarts`, `Post.pinHeld`). -/
theorem resetIsLeftForBoot : Obligations.ResetIsLeftForBoot := by
  unfold Obligations.ResetIsLeftForBoot
  intro s hm hs
  have on : s.mode ≠ mOFF := by rw [hm]; decide
  refine ⟨fun straps hb hh => ⟨?_, fun reference locked hl => ?_⟩, fun hr hl => ⟨fun hh => ?_, fun hb => ?_⟩, fun hr => ⟨?_, ?_⟩⟩
  · refine Post.answer (Post.ifTrue on ?_)
    refine Post.pinStarts ?_ fun t ⟨frame, begun, changed⟩ pins => ?_
    · exact ⟨hm, hs, rfl, rfl, hb, hh⟩
    · exact ⟨frame, begun, changed, by rw [pins], by rw [pins]; rfl, by rw [pins]⟩
  · refine Post.answer (Post.ifTrue on ?_)
    refine Post.pinHeld (fun ⟨_, _, _, h, _⟩ => ?_) fun t frame chip => ⟨frame, by rw [chip]; exact hl⟩
    exact absurd (hl.symm.trans h) Bool.false_ne_true
  · refine Post.answer (Post.pinStarts ?_ fun t ⟨frame, begun, changed⟩ pins => ?_)
    · exact ⟨hm, hs, hr, hl, rfl, hh⟩
    · exact ⟨frame, begun, changed, by rw [pins]⟩
  · refine Post.answer (Post.pinStarts ?_ fun t ⟨frame, begun, changed⟩ pins => ?_)
    · exact ⟨hm, hs, hr, hl, hb, rfl⟩
    · exact ⟨frame, begun, changed, by rw [pins]⟩
  all_goals
    refine Post.answer (Post.pinHeld (fun ⟨_, _, h, _⟩ => ?_) fun t frame chip => ⟨frame, by rw [chip]⟩)
    exact absurd (hr.symm.trans h) Bool.false_ne_true

/-- An internal reset that RESET_N would hold leaves the part in RESET, with the cause of its next start (R508). -/
theorem Post.internalReset_held {cause : Nat} {s : State} {Q : Unit → State → Prop}
    (h : s.chip.pins.resetN = false ∨ s.chip.pins.slathLocked = false) (q : ∀ t, ResetTo s t mRESET → t.boot.cause = cause → Q () t) :
    Act.Post (internalReset cause) s Q := by
  refine Post.bind (Post.enterReset (by decide) fun t reset boot chip => Post.startBoot_held (fun ⟨_, _, hr, hl, _⟩ => ?_)
    (q t reset (by rw [boot])))
  rw [chip] at hr hl
  rcases h with h | h
  · exact absurd (h.symm.trans hr) Bool.false_ne_true
  · exact absurd (h.symm.trans hl) Bool.false_ne_true

/-- Before step 16 opens the queue, a raise adds its record to those held (R403). -/
theorem Raised.held {n sub inst detail : Nat} {s t : State} (h : Raised n sub inst detail s t) (hq : s.evq = {}) :
    t.evq.recs = [] ∧ t.evq.held = [s.eventRec n sub inst detail] := by
  have evq := h.2
  have apart : s.merges (s.eventRec n sub inst detail) = false := by simp [State.merges, hq]
  rw [apart, hq] at evq
  rw [evq]
  exact ⟨rfl, rfl⟩

/-- Settles O44: the watchdog resets the part (`Post.enterReset`), and the start that follows begins BOOT anew (`Post.startBoot`). -/
theorem theWatchdogRestartsAStart : Obligations.TheWatchdogRestartsAStart := by
  unfold Obligations.TheWatchdogRestartsAStart
  refine fun s => ⟨fun hr => ⟨fun ⟨hs, hn, hl, hb, hh⟩ => ?_, fun hp => ?_⟩, fun hr => ?_⟩
  · refine Post.answer (Post.ifTrue hr (Post.bind (Post.enterReset (by decide) fun t reset boot chip => ?_)))
    obtain ⟨mode, -, -, -, evq, insts, cache, strands, flash, -, -, before⟩ := reset
    refine Post.startBoot ⟨mode, by rw [chip, hs], by rw [chip, hn], by rw [chip, hl], by rw [chip, hb], by rw [chip, hh]⟩ fun u begins => ?_
    obtain ⟨begun, shown, raised, uboot, uchip, frame⟩ := begins
    rw [boot] at begun uboot
    rw [chip] at uchip
    obtain ⟨recs, held⟩ := raised.held evq
    refine ⟨begun, shown, recs, by rw [held]; rfl, ?_, ?_, ?_, ?_, by rw [uboot], by rw [uchip], by rw [uchip], by rw [uchip, hn], by rw [uchip, hl],
      (before.mono (by decide)).trans (frame.mono (by decide))⟩
    · exact (frame .insts (by decide)).trans insts
    · exact (frame .cache (by decide)).trans cache
    · exact (frame .strands (by decide)).trans strands
    · exact (frame .flash (by decide)).trans flash
  · exact Post.answer (Post.ifTrue hr (Post.internalReset_held hp fun t reset cause => ⟨reset, cause⟩))
  · exact Runs.answer (by simp only [hr, Bool.false_eq_true, if_false]; exact Runs.pure () s)

end Sys2Proof.Machine
end

section
/-! Requests for a mode: taken, held or rejected (R30 to R33). -/

namespace Sys2Proof.Machine

/-! ### Raises and changes of mode that follow other effects -/

/-- An event raised after effects that leave the event registers, the queue, the calendar and the life record is raised as from the start. -/
theorem Raised.after {n sub inst detail : Nat} {l : List Part} {s u t : State} (h : Raised n sub inst detail u t) (hu : SameBut l s u)
    (hn : u.now = s.now) (hl : ∀ p ∈ [Part.evtRegs, .evq, .nv, .life], p ∉ l) : Raised n sub inst detail s t :=
  h.from (hu .evtRegs (hl _ (by simp)) _ (F.EVT_COUNT_CNT_window n)) (hu .evq (hl _ (by simp))) hn (hu .nv (hl _ (by simp)))
    (hu .life (hl _ (by simp)))

theorem Counted.after {n : Nat} {s u t : State} (h : Counted n u t) (e : u.get (F.EVT_COUNT_CNT n) = s.get (F.EVT_COUNT_CNT n)) : Counted n s t := by
  unfold Counted at h ⊢
  rwa [e] at h

theorem ModeChanged.after {new cause : Nat} {l : List Part} {s u t : State} (h : ModeChanged new cause u t) (hm : u.mode = s.mode)
    (hu : SameBut l s u) (hn : u.now = s.now) (hl : ∀ p ∈ [Part.evtRegs, .evq, .nv, .life], p ∉ l) : ModeChanged new cause s t := by
  obtain ⟨mode, prev, shown, raised⟩ := h
  rw [hm] at prev raised
  exact ⟨mode, prev, shown, raised.after hu hn hl⟩

/-! ### Requests -/

theorem State.mode_put {f : Fld} (h : F.DEV_MODE_STAT_MODE.key ≠ f.key) (s : State) (v : Nat) : (s.put f v).mode = s.mode :=
  State.get_put_ne s v h

/-- The state once TARGET and the note of who asked have been set. -/
def State.requested (s : State) (target : Nat) (g : Chip → Chip) : State := (Eff.chip g).apply (s.put F.DEV_MODE_REQ_TARGET target)

theorem State.requested_frame (s : State) (target : Nat) (g : Chip → Chip) : SameBut [.devRegs, .chip] s (s.requested target g) :=
  ((SameBut.refl _ s).put (by decide)).eff rfl (by simp [Eff.part])

theorem State.requested_mode (s : State) (target : Nat) (g : Chip → Chip) : (s.requested target g).mode = s.mode :=
  State.mode_put (by decide) s target

theorem State.requested_target (s : State) (target : Nat) (g : Chip → Chip) :
    (s.requested target g).get F.DEV_MODE_REQ_TARGET = target % 16 := State.get_put_self s _ target

/-- A rejected request leaves TARGET 0 and the mode as it was, with MODE_REQ_REJECT raised (R31). -/
def RequestRejected (s t : State) : Prop :=
  SameBut (.devRegs :: eventParts) s t ∧ Raised Ev.MODE_REQ_REJECT 0 0 0 s t ∧ t.mode = s.mode ∧ t.get F.DEV_MODE_REQ_TARGET = 0

theorem Post.rejectRequest {s : State} {Q : Unit → State → Prop} (q : ∀ t, RequestRejected s t → Q () t) : Act.Post rejectRequest s Q := by
  unfold Machine.rejectRequest
  refine Post.setThen (Post.emitThen (Post.raise (s := s.requested 0 _) fun t raised sig => q t ⟨?_, ?_, ?_, ?_⟩))
  · exact ((s.requested_frame _ _).mono (by decide)).trans (SameBut.ofMask sig.same (by decide))
  · exact raised.after (s.requested_frame _ _) rfl (by decide)
  · exact (sig.dev (by decide)).trans (s.requested_mode _ _)
  · exact (sig.dev (by decide)).trans (s.requested_target _ _)

/-- A held request stands in TARGET (R32). -/
theorem Post.holdRequest {target : Nat} {smb : Bool} {s : State} {Q : Unit → State → Prop} (ht : target < 16)
    (q : ∀ t, SameBut [.devRegs, .chip] s t → t.get F.DEV_MODE_REQ_TARGET = target → t.mode = s.mode →
      t.chip = { s.chip with heldSmb := smb, heldPme := false } → Q () t) : Act.Post (holdRequest target smb) s Q :=
  Post.setThen (Post.emit (q (s.requested target _) (s.requested_frame _ _)
    ((s.requested_target _ _).trans (Nat.mod_eq_of_lt ht)) (s.requested_mode _ _) rfl))

/-- A request that is only a change of mode is taken at once (R30, R33). -/
theorem Post.takeRequest_changes {target cause : Nat} {s : State} {Q : Unit → State → Prop} (ht : target = mACTIVE) (hm : s.mode = mIDLE)
    (hc : cause < 256)
    (q : ∀ t, SameBut (.devRegs :: eventParts) s t → ModeChanged target cause s t → t.get F.DEV_MODE_REQ_TARGET = 0 → Q () t) :
    Act.Post (takeRequest target cause) s Q := by
  subst ht
  unfold Machine.takeRequest
  refine Post.rdThen (Post.setThen (Post.emitThen ?_))
  refine Post.ifFalse (by decide) (Post.ifFalse (by decide) (Post.ifFalse (by simp) (Post.ifFalse (by rw [hm]; decide) ?_)))
  refine Post.changeMode (s := s.requested 0 _) (by decide) hc fun t changed dev _ _ same _ => q t ?_ ?_ ?_
  · exact ((s.requested_frame _ _).mono (by decide)).trans (SameBut.ofMask same (by decide))
  · exact changed.after (s.requested_mode _ _) (s.requested_frame _ _) rfl (by decide)
  · exact (dev _ (by decide) (by decide)).trans (s.requested_target _ _)

/-- A request is taken when no transition holds it and R30 allows its target in the mode. -/
theorem Post.requestMode_takes {target : Nat} {smb admin : Bool} {s : State} {Q : Unit → State → Prop} (h0 : target ≠ 0)
    (hs : target ≠ mSERVICE) (hr : target ≠ mRETENTION) (hd : s.mode ≠ mDRAIN) (hh : s.holdsRequest target = false)
    (ha : (allowedTargets s.mode).contains target = true) (q : Act.Post (takeRequest target (requestCause smb)) s Q) :
    Act.Post (requestMode target smb admin) s Q := by
  unfold Machine.requestMode
  exact Post.rdThen (Post.ifFalse h0 (Post.ifFalse (fun h => hs h.1) (Post.ifFalse hd (Post.ifFalse (by simp [hh])
    (Post.ifTrue ⟨ha, by simp [hr]⟩ q)))))

/-- It is rejected when R30 has no such transition, or its master may not ask for it. -/
theorem Post.requestMode_rejects {target : Nat} {smb admin : Bool} {s : State} {Q : Unit → State → Prop} (h0 : target ≠ 0)
    (hd : s.mode ≠ mDRAIN) (hh : s.holdsRequest target = false) (ha : (allowedTargets s.mode).contains target = false)
    (q : Act.Post Machine.rejectRequest s Q) : Act.Post (requestMode target smb admin) s Q := by
  unfold Machine.requestMode
  exact Post.rdThen (Post.ifFalse h0 (Post.ite (fun _ => q) fun _ => Post.ifFalse hd (Post.ifFalse (by simp [hh])
    (Post.ifFalse (fun h => absurd (ha.symm.trans h.1) Bool.false_ne_true) q))))

/-- It is held while a transition is in progress (R32). -/
theorem Post.requestMode_holds {target : Nat} {smb admin : Bool} {s : State} {Q : Unit → State → Prop}
    (ht : target ∈ [mIDLE, mACTIVE, mDRAIN, mPARK, mRETENTION]) (hd : s.mode ≠ mDRAIN) (hh : s.holdsRequest target = true)
    (q : Act.Post (Machine.holdRequest target smb) s Q) : Act.Post (requestMode target smb admin) s Q := by
  have h0 : target ≠ 0 := by rintro rfl; revert ht; decide
  have hs : target ≠ mSERVICE := by rintro rfl; revert ht; decide
  have known : [mIDLE, mACTIVE, mDRAIN, mPARK, mRETENTION, mSERVICE].contains target = true :=
    List.contains_iff_mem.mpr (List.mem_append_left [mSERVICE] ht)
  unfold Machine.requestMode
  exact Post.rdThen (Post.ifFalse h0 (Post.ifFalse (fun h => hs h.1) (Post.ifFalse hd (Post.ifTrue hh (Post.ifTrue known q)))))

theorem State.holdsRequest_settled {s : State} (h : s.get F.DEV_MODE_STAT_TRANSITION = 0) (target : Nat) : s.holdsRequest target = false := by
  simp [State.holdsRequest, h]

/-- In RETENTION a request over SMBus that wakes nothing is rejected (R31). -/
theorem Post.requestWake_rejects {target : Nat} {s : State} {Q : Unit → State → Prop} (h0 : target ≠ 0) (hp : target ≠ mPARK)
    (hi : target ≠ mIDLE) (q : ∀ t, RequestRejected s t → Q () t) : Act.Post (requestWake target true) s Q := by
  unfold Machine.requestWake
  refine Post.setThen ?_
  simp only [h0, hp, hi, or_self, and_false, if_false, ne_eq, not_false_eq_true, if_true]
  refine Post.rejectRequest fun t ⟨frame, raised, mode, target⟩ => q t ⟨?_, ?_, ?_, target⟩
  · exact ((SameBut.refl _ s).put (by decide)).trans frame
  · exact raised.after ((SameBut.refl [.devRegs] s).put (by decide)) rfl (by decide)
  · exact mode.trans (State.mode_put (by decide) s 0)

/-- Settles O11: which branch of a request its target and the state choose (`Post.requestMode_takes`, `Post.requestMode_rejects`,
`Post.requestMode_holds`, `Post.requestWake_rejects`), and what that branch does. -/
theorem modeRequestsAreTakenHeldOrRejected : Obligations.ModeRequestsAreTakenHeldOrRejected := by
  unfold Obligations.ModeRequestsAreTakenHeldOrRejected
  have allowed {s : State} (hm : s.mode = mIDLE) : (allowedTargets s.mode).contains mACTIVE = true := by rw [hm]; decide
  have notDrain {s : State} (hm : s.mode = mIDLE) : s.mode ≠ mDRAIN := by rw [hm]; decide
  refine fun s => ⟨fun m hw hm ht => ?_, fun hm ht => ?_, fun m target hw h0 hd ht ha => ?_, fun target h0 hp hi hm => ?_,
    fun m target hw hd ht hk => ?_⟩
  · refine Post.answer (Post.ifTrue hw (Post.requestMode_takes (by decide) (by decide) (by decide) (notDrain hm)
      (State.holdsRequest_settled ht _) (allowed hm) ?_))
    exact Post.takeRequest_changes rfl hm (by decide) fun t frame changed target => ⟨frame, changed, target⟩
  · refine Post.answer (Post.ifFalse (by rw [hm]; decide) (Post.ifTrue (by rw [hm]; decide) (Post.requestMode_takes (by decide) (by decide)
      (by decide) (notDrain hm) (State.holdsRequest_settled ht _) (allowed hm) ?_)))
    exact Post.takeRequest_changes rfl hm (by decide) fun t frame changed target => ⟨frame, changed, target⟩
  · have h0 : target.toNat ≠ 0 := fun e => h0 (BitVec.eq_of_toNat_eq e)
    refine Post.answer (Post.ifTrue hw (Post.requestMode_rejects h0 hd (State.holdsRequest_settled ht _) ha ?_))
    exact Post.rejectRequest fun t rejected => rejected
  · have h0 : target.toNat ≠ 0 := fun e => h0 (BitVec.eq_of_toNat_eq e)
    have hp : target.toNat ≠ mPARK := fun e => hp (BitVec.eq_of_toNat_eq e)
    have hi : target.toNat ≠ mIDLE := fun e => hi (BitVec.eq_of_toNat_eq e)
    refine Post.answer (Post.ifTrue hm (Post.requestWake_rejects h0 hp hi fun t ⟨frame, raised, mode, _⟩ => ?_))
    exact ⟨frame, raised, mode.trans hm⟩
  · have known : target.toNat ∈ [mIDLE, mACTIVE, mDRAIN, mPARK, mRETENTION] ∧ target.toNat ≠ mDRAIN := by
      rcases hk with rfl | rfl | rfl | rfl <;> decide
    have holds : s.holdsRequest target.toNat = true := by simp [State.holdsRequest, ht, known.2]
    refine Post.answer (Post.ifTrue hw (Post.requestMode_holds known.1 hd holds ?_))
    exact Post.holdRequest target.isLt fun t frame shown mode chip => ⟨frame, shown, mode, chip⟩

end Sys2Proof.Machine
end

section
/-! DRAIN: how it is entered, how it ends, and what it asks of the drives (R30, R35 to R39). -/

namespace Sys2Proof.Machine

/-! ### The mode registers beside what else a program does -/

/-- Every part but the DEV registers. -/
def allButDev : Nat := 2 ^ 61 - 2

/-- A program that leaves the DEV registers leaves the mode and all that DEV_MODE_STAT and DEV_MODE_REQ show. -/
theorem Post.leavesDev {α : Type} {m : Act α} {s : State} {Q : α → State → Prop} (h : Touches allButDev m)
    (q : ∀ a t, (∀ f : Fld, f.window = .devRegs → t.get f = s.get f) → Q a t) : Act.Post m s Q :=
  Post.touches h fun a t same => q a t (same .devRegs rfl)

theorem Post.forAll_pair {α : Type} {a b : α} {m : α → Act Unit} {s : State} {Q : Unit → State → Prop}
    (h : Act.Post (m a) s fun _ t => Act.Post (m b) t Q) : Act.Post (forAll [a, b] m) s Q :=
  Post.bind (Post.mono h fun _ _ hb => Post.bind (Post.mono hb fun _ _ q => Post.pure q))

/-! ### Entry -/

/-- What the entry into DRAIN brings about between the change of mode and the settling of instructions: it leaves the DEV registers. -/
theorem enterDrain_rest_leavesDev (s : State) (atOnce : Bool) : Touches allButDev (do
    if atOnce then dropAllLasers
    forAll bayList (fun b => restBay b 2)
    stopDrives
    drainSkips
    forAll (s.insts.filter (fun i => i.opcode == opACTIVATE && i.stage == .committed)) (fun i => completeAs i cABORTED_BY_DRAIN 0 none)
    abortAll (fun _ => true) cABORTED_BY_DRAIN
    settle) := by
  have rest : Touches allButDev (do
      forAll bayList (fun b => restBay b 2)
      stopDrives
      drainSkips
      forAll (s.insts.filter (fun i => i.opcode == opACTIVATE && i.stage == .committed)) (fun i => completeAs i cABORTED_BY_DRAIN 0 none)
      abortAll (fun _ => true) cABORTED_BY_DRAIN
      settle) :=
    (Touches.forAll fun _ => restBay_touches _ _ rfl).bind fun _ => (stopDrives_touches rfl).bind fun _ => (drainSkips_touches rfl).bind fun _ =>
      (Touches.forAll fun _ => completeAs_touches _ _ _ _ rfl).bind fun _ => (abortAll_touches _ _ rfl).bind fun _ => settle_touches rfl
  exact Touches.ite ((dropAllLasers_touches rfl).bind fun _ => rest) rest

/-- What the registers of the mode show once DRAIN has been entered (R33, R35). -/
structure DrainEntered (cause : Nat) (s t : State) : Prop where
  mode : t.mode = mDRAIN
  prev : t.get F.DEV_MODE_STAT_PREV_MODE = s.mode % 16
  shown : t.get F.DEV_MODE_STAT_CAUSE = cause
  target : t.get F.DEV_MODE_REQ_TARGET = 0
  pwrFail : t.get F.DEV_MODE_STAT_PWR_FAIL = s.get F.DEV_MODE_STAT_PWR_FAIL

theorem Post.enterDrain {cause : Nat} {atOnce : Bool} {s : State} {Q : Unit → State → Prop} (hc : cause < 256)
    (q : ∀ t, DrainEntered cause s t → Q () t) : Act.Post (enterDrain cause atOnce) s Q := by
  unfold Machine.enterDrain
  refine Post.rdThen ?_
  iterate 3 refine Post.emitThen ?_
  iterate 3 refine Post.setThen ?_
  refine Post.bind (Post.leavesDev (writePowerFail_touches rfl) fun _ u hu => Post.bind ?_)
  have target : u.get F.DEV_MODE_REQ_TARGET = 0 := (hu _ rfl).trans (State.get_put_self _ _ _)
  have kept {f : Fld} (hf : f.window = .devRegs) (h : f.key ∉ [F.DEV_MODE_STAT_TRANSITION.key, F.DEV_MODE_STAT_OK_TO_REMOVE.key,
      F.DEV_MODE_REQ_TARGET.key]) : u.get f = s.get f := by
    simp only [List.mem_cons, List.not_mem_nil, or_false, not_or] at h
    obtain ⟨ht, ho, hr⟩ := h
    refine (hu f hf).trans ?_
    rw [State.get_put_ne _ _ hr, State.get_put_ne _ _ ho, State.get_put_ne _ _ ht]
    rfl
  have mode : u.mode = s.mode := kept rfl (by decide)
  refine Post.changeMode (by decide) hc fun v ⟨drain, prev, shown, _⟩ dev _ _ _ _ =>
    Post.leavesDev (enterDrain_rest_leavesDev s atOnce) fun _ t ht => q t ⟨?_, ?_, ?_, ?_, ?_⟩
  · exact (ht _ rfl).trans drain
  · rw [ht _ rfl, prev, mode]
  · exact (ht _ rfl).trans shown
  · exact (ht _ rfl).trans ((dev _ (by decide) (by decide)).trans target)
  · exact (ht _ rfl).trans ((dev _ (by decide) (by decide)).trans (kept rfl (by decide)))

/-! ### How it ends -/

/-- Nothing is left to do for DRAIN while no request for IDLE is held (R32). -/
theorem Post.settleDrain_rests {s : State} {Q : Unit → State → Prop} (h : s.get F.DEV_MODE_REQ_TARGET ≠ mIDLE) (q : Q () s) :
    Act.Post settleDrain s Q := Post.rdThen (Post.ifFalse (fun ⟨_, _, _, ht⟩ => h ht) (Post.pure q))

/-- The held request for IDLE is taken (R30, R32). -/
theorem Post.settleDrain_leaves {s : State} {Q : Unit → State → Prop} (hm : s.mode = mDRAIN) (ho : s.get F.DEV_MODE_STAT_OK_TO_REMOVE = 1)
    (hp : s.get F.DEV_MODE_STAT_PWR_FAIL = 0) (ht : s.get F.DEV_MODE_REQ_TARGET = mIDLE)
    (q : ∀ t, SameBut (.devRegs :: .nv :: eventParts) s t → t.mode = mIDLE → t.get F.DEV_MODE_STAT_OK_TO_REMOVE = 0 →
      t.get F.DEV_MODE_REQ_TARGET = 0 → t.get F.DEV_MODE_STAT_PWR_FAIL = 0 → Q () t) : Act.Post settleDrain s Q := by
  have cause (b : Bool) : requestCause b < 256 := by cases b <;> decide
  unfold Machine.settleDrain Machine.leaveDrain
  refine Post.rdThen (Post.ifTrue ⟨hm, ho, hp, ht⟩ (Post.emitThen (Post.setThen (Post.setThen (Post.emitThen ?_)))))
  refine Post.changeMode (by decide) (cause _) fun t ⟨mode, _⟩ dev _ _ same _ => q t ?_ mode ?_ ?_ ?_
  · exact (((((SameBut.refl _ s).eff rfl (by simp [Eff.part, eventParts])).put (by decide)).put (by decide)).eff rfl (by simp [Eff.part])).trans
      (SameBut.ofMask same (by decide))
  all_goals
    refine (dev _ (by decide) (by decide)).trans ?_
    simp (disch := decide) only [apply_nv_frame, apply_chip_frame, State.get_put_self, State.get_put_ne, Nat.zero_mod, hp]

/-- PWR_FAIL_N takes every mode that does work to DRAIN, at once (R30, R549). -/
theorem exec_pwrFailNAsserted_drains {s : State} (h : mBRINGUP ≤ s.mode) (hr : s.mode ≠ mRETENTION) (hd : s.mode ≠ mDRAIN) (hl : s.mode < 16) :
    ∃ t, exec .pwrFailNAsserted s = .next t ∧ t.mode = mDRAIN ∧ t.get F.DEV_MODE_STAT_PREV_MODE = s.mode ∧
      t.get F.DEV_MODE_STAT_CAUSE = 4 ∧ t.get F.DEV_MODE_STAT_PWR_FAIL = 1 ∧ t.get F.DEV_MODE_REQ_TARGET = 0 := by
  refine Post.answer (Post.ifTrue (le_trans (by decide) h) (Post.setThen (Post.ifFalse (not_lt.mpr h) (Post.ifTrue hr
    (Post.bind (Post.raise fun u _ sig => Post.ifFalse hd (Post.enterDrain (by decide) fun t ht => ?_)))))))
  have mode : u.mode = s.mode := (sig.dev (by decide)).trans (State.mode_put (by decide) s 1)
  refine ⟨ht.mode, ?_, ht.shown, ?_, ht.target⟩
  · rw [ht.prev, mode, Nat.mod_eq_of_lt hl]
  · rw [ht.pwrFail, sig.dev (by decide), State.get_put_self]; rfl

/-- In RETENTION it is only shown (R39). -/
theorem exec_pwrFailNAsserted_retention {s : State} (h : s.mode = mRETENTION) : ∃ t, exec .pwrFailNAsserted s = .next t ∧
    SameBut [.devRegs] s t ∧ t.mode = mRETENTION ∧ t.get F.DEV_MODE_STAT_PWR_FAIL = 1 := by
  refine Post.answer (Post.ifTrue (by rw [h]; decide) (Post.setThen (Post.ifFalse (by rw [h]; decide)
    (Post.ifFalse (not_not_intro h) (Post.pure ⟨?_, ?_, State.get_put_self _ _ _⟩)))))
  · exact (SameBut.refl _ s).put (by decide)
  · exact (State.mode_put (by decide) s 1).trans h

theorem exec_pwrFailNDeasserted (s : State) : ∃ t, exec .pwrFailNDeasserted s = .next t ∧ t.get F.DEV_MODE_STAT_PWR_FAIL = 0 ∧
    if s.mode = mDRAIN ∧ s.get F.DEV_MODE_STAT_OK_TO_REMOVE = 1 ∧ s.get F.DEV_MODE_REQ_TARGET = mIDLE then
      t.mode = mIDLE ∧ t.get F.DEV_MODE_STAT_OK_TO_REMOVE = 0 ∧ t.get F.DEV_MODE_REQ_TARGET = 0 ∧
      SameBut (.devRegs :: .nv :: eventParts) s t
    else t.mode = s.mode ∧ SameBut [.devRegs] s t := by
  refine Post.answer (Post.setThen ?_)
  have mode : (s.put F.DEV_MODE_STAT_PWR_FAIL 0).mode = s.mode := State.mode_put (by decide) s 0
  have ok : (s.put F.DEV_MODE_STAT_PWR_FAIL 0).get F.DEV_MODE_STAT_OK_TO_REMOVE = s.get F.DEV_MODE_STAT_OK_TO_REMOVE :=
    State.get_put_ne s 0 (by decide)
  have target : (s.put F.DEV_MODE_STAT_PWR_FAIL 0).get F.DEV_MODE_REQ_TARGET = s.get F.DEV_MODE_REQ_TARGET :=
    State.get_put_ne s 0 (by decide)
  have fail : (s.put F.DEV_MODE_STAT_PWR_FAIL 0).get F.DEV_MODE_STAT_PWR_FAIL = 0 := State.get_put_self s _ 0
  by_cases h : s.mode = mDRAIN ∧ s.get F.DEV_MODE_STAT_OK_TO_REMOVE = 1 ∧ s.get F.DEV_MODE_REQ_TARGET = mIDLE
  · obtain ⟨hm, ho, ht⟩ := h
    refine Post.settleDrain_leaves (mode.trans hm) (ok.trans ho) fail (target.trans ht) fun t frame idle low none still => ⟨still, ?_⟩
    rw [if_pos ⟨hm, ho, ht⟩]
    exact ⟨idle, low, none, ((SameBut.refl _ s).put (by decide)).trans frame⟩
  · refine Post.rdThen (Post.ifFalse (fun ⟨hm, ho, _, ht⟩ => h ⟨mode ▸ hm, ok ▸ ho, target ▸ ht⟩) (Post.pure ⟨fail, ?_⟩))
    rw [if_neg h]
    exact ⟨mode, (SameBut.refl _ s).put (by decide)⟩

/-- With no request held, a program asserts POWER_OK_TO_REMOVE and leaves the mode. -/
def AssertsOk (m : Act Unit) : Prop := ∀ s : State, s.get F.DEV_MODE_REQ_TARGET = 0 →
  Act.Post m s fun _ t => t.get F.DEV_MODE_STAT_OK_TO_REMOVE = 1 ∧ t.mode = s.mode

theorem AssertsOk.after {α : Type} {m : Act α} {f : α → Act Unit} (h : Touches allButDev m) (h' : ∀ a, AssertsOk (f a)) :
    AssertsOk (m >>= f) := fun _ ht => Post.bind (Post.leavesDev h fun a u hu =>
  Post.mono (h' a u ((hu _ rfl).trans ht)) fun _ _ ⟨ok, mode⟩ => ⟨ok, mode.trans (hu _ rfl)⟩)

theorem AssertsOk.ite {c : Prop} [Decidable c] {m n : Act Unit} (h : AssertsOk m) (h' : AssertsOk n) : AssertsOk (if c then m else n) :=
  fun s ht => Post.ite (fun _ => h s ht) fun _ => h' s ht

theorem AssertsOk.rd {f : State → Act Unit} (h : ∀ s, AssertsOk (f s)) : AssertsOk (Machine.rd >>= f) :=
  fun s ht => Post.rdThen (h s s ht)

theorem AssertsOk.assert : AssertsOk (do
    setF F.DEV_MODE_STAT_OK_TO_REMOVE 1
    settleDrain) := by
  intro s ht
  refine Post.setThen (Post.settleDrain_rests ?_ ⟨State.get_put_self _ _ _, State.mode_put (by decide) s 1⟩)
  rw [State.get_put_ne _ _ (by decide), ht]
  decide

/-- DRAIN_COMPLETE asserts POWER_OK_TO_REMOVE, and DRAIN goes on while no request for IDLE is held (R35). -/
theorem exec_drainComplete_rests {s : State} (h : s.draining = true) (hd : s.drained = true) (hn : s.chip.drain.done = false)
    (ht : s.get F.DEV_MODE_REQ_TARGET = 0) :
    ∃ t, exec .drainComplete s = .next t ∧ t.get F.DEV_MODE_STAT_OK_TO_REMOVE = 1 ∧ t.mode = s.mode := by
  refine Post.answer (Post.ifTrue ⟨h, hd, hn⟩ (AssertsOk.ite (.after (writeCheckpoint_touches rfl) fun _ => ?_) ?_ s ht))
  all_goals
    refine .after (saveLife_touches rfl) fun _ => .after (Touches.forAll fun k => Touches.ite (writeOpuLife_touches k rfl) (.pure ())) fun _ => ?_
    refine .after (Touches.emitM (M := 2 ^ Part.chip.idx) rfl rfl) fun _ => .rd fun u => ?_
    exact .after (Touches.forAll fun i => Touches.rd.bind fun _ => Touches.ite (postWrite_touches i rfl) (.pure ())) fun _ =>
      .after (settle_touches rfl) fun _ => .assert

/-- DRAIN_DEADLINE asserts it whatever remains (R38). -/
theorem exec_drainDeadline_rests {s : State} (h : s.draining = true) (hn : s.chip.drain.done = false) (ht : s.get F.DEV_MODE_REQ_TARGET = 0) :
    ∃ t, exec .drainDeadline s = .next t ∧ SameBut (.devRegs :: eventParts) s t ∧ t.get F.DEV_MODE_STAT_OK_TO_REMOVE = 1 ∧
      t.chip.drain.done = true ∧ t.mode = s.mode ∧ Raised Ev.DRAIN_INCOMPLETE 0 0 0 s t := by
  refine Post.answer (Post.ifTrue ⟨h, hn⟩ (Post.emitThen (Post.setThen (Post.bind (Post.raise fun t raised sig => ?_)))))
  have before {f : Fld} (hf : f.key ≠ F.DEV_MODE_STAT_OK_TO_REMOVE.key) (hd : f.key < 0x10000 * 64) : t.get f = s.get f :=
    (sig.dev hd).trans (State.get_put_ne _ _ hf)
  refine Post.settleDrain_rests ?_ ⟨?_, ?_, ?_, before (by decide) (by decide), ?_⟩
  · rw [before (by decide) (by decide), ht]
    decide
  · exact (((SameBut.refl _ s).eff rfl (by simp [Eff.part, eventParts])).put (by decide)).trans (SameBut.ofMask sig.same (by decide))
  · exact (sig.dev (by decide)).trans (State.get_put_self _ _ _)
  · rw [sig.chip]; rfl
  · exact raised.after (l := [.chip, .devRegs]) (((SameBut.refl _ s).eff rfl (by simp [Eff.part])).put (by decide)) rfl (by decide)

end Sys2Proof.Machine
end

section
/-! What a program keeps: a view of the state that reads the same when it has run. -/

namespace Sys2Proof.Machine

/-- From every state the program runs to an answer, and the view `v` of the state reads as before. -/
def Keeps {α β : Type} (v : State → β) (m : Act α) : Prop := ∀ s, ∃ a t, Act.Runs m s a t ∧ v t = v s

variable {β : Type} {v : State → β}

theorem Keeps.pure {α : Type} (a : α) : Keeps v (Pure.pure a : Act α) := fun s => ⟨a, s, Runs.pure a s, rfl⟩

theorem Keeps.rd : Keeps v rd := fun s => ⟨s, s, Runs.rd s, rfl⟩

theorem Keeps.emit {e : Eff} (h : ∀ s, v (e.apply s) = v s) : Keeps v (emit e) := fun s => ⟨(), _, Runs.emit e s, h s⟩

theorem Keeps.setF {f : Fld} {x : Nat} (h : ∀ s : State, v (s.put f x) = v s) : Keeps v (setF f x) := Keeps.emit h

theorem Keeps.bind {α γ : Type} {m : Act α} {f : α → Act γ} (h : Keeps v m) (h' : ∀ a, Keeps v (f a)) : Keeps v (m >>= f) := by
  intro s
  obtain ⟨a, t, r, k⟩ := h s
  obtain ⟨b, u, r', k'⟩ := h' a t
  exact ⟨b, u, Runs.bind r r', k'.trans k⟩

theorem Keeps.ite {α : Type} {c : Prop} [Decidable c] {m n : Act α} (h : Keeps v m) (h' : Keeps v n) : Keeps v (if c then m else n) := by
  split
  · exact h
  · exact h'

theorem Keeps.forAll {α : Type} {l : List α} {m : α → Act Unit} (h : ∀ a, Keeps v (m a)) : Keeps v (forAll l m) := by
  induction l with
  | nil => exact .pure ()
  | cons a as ih => exact (h a).bind fun _ => ih

/-- A program that touches no part that the view reads. -/
theorem Keeps.touches {α : Type} {L : Nat} {m : Act α} (h : Touches L m) (hv : ∀ s t, Same L s t → v t = v s) : Keeps v m := by
  intro s
  obtain ⟨a, t, r, same⟩ := h s
  exact ⟨a, t, r, hv s t same⟩

theorem Keeps.raise {n sub inst detail : Nat} (hv : ∀ s t, Signals [(F.EVT_COUNT_CNT n).key] s t → v t = v s) :
    Keeps v (raise n sub inst detail) := by
  intro s
  obtain ⟨t, r, -, sig⟩ := raise_runs n sub inst detail s
  exact ⟨(), t, r, hv s t sig⟩

theorem Keeps.attend {r : Option EventRec} (hv : ∀ s t, Signals [] s t → v t = v s) : Keeps v (attend r) := by
  intro s
  obtain ⟨a, t, r, sig⟩ := attend_quiet [] r s
  exact ⟨a, t, r, hv s t sig⟩

theorem Post.keeps {α : Type} {m : Act α} {s : State} {Q : α → State → Prop} (h : Keeps v m) (q : ∀ a t, v t = v s → Q a t) :
    Act.Post m s Q := by
  obtain ⟨a, t, r, k⟩ := h s
  exact ⟨a, t, r, q a t k⟩

/-- What is known of a program's end, and what is known of it besides. -/
theorem Post.and {α : Type} {m : Act α} {s : State} {Q : α → State → Prop} {R : State → Prop} (h : Act.Post m s fun a t => R t → Q a t)
    (h' : Act.Post m s fun _ t => R t) : Act.Post m s Q := by
  obtain ⟨a, t, r, q⟩ := h
  obtain ⟨b, u, r', p⟩ := h'
  obtain rfl := Runs.det r r'
  exact ⟨a, t, r, q p⟩

theorem Post.andKeeps {α : Type} {m : Act α} {s : State} {Q : α → State → Prop} (h : Act.Post m s fun a t => v t = v s → Q a t)
    (hk : Keeps v m) : Act.Post m s Q := Post.and h (Post.keeps hk fun _ _ k => k)

theorem Post.andTouches {α : Type} {L : Nat} {m : Act α} {s : State} {Q : α → State → Prop} (h : Act.Post m s fun a t => Same L s t → Q a t)
    (ht : Touches L m) : Act.Post m s Q := Post.and h (Post.touches ht fun _ _ same => same)

/-! ### What stays true -/

/-- From every state the program runs to an answer, and `P` stays true where it was. -/
def Stays {α : Type} (P : State → Prop) (m : Act α) : Prop := ∀ s, Act.Post m s fun _ t => P s → P t

variable {P : State → Prop}

theorem Stays.pure {α : Type} (a : α) : Stays P (Pure.pure a : Act α) := fun _ => Post.pure id

theorem Stays.rd {α : Type} {f : State → Act α} (h : ∀ s, Stays P (f s)) : Stays P (Machine.rd >>= f) := fun s => Post.rdThen (h s s)

theorem Stays.emit {e : Eff} (h : ∀ s, P s → P (e.apply s)) : Stays P (Machine.emit e) := fun s => Post.emit (h s)

theorem Stays.setF {f : Fld} {x : Nat} (h : ∀ s : State, P s → P (s.put f x)) : Stays P (Machine.setF f x) := Stays.emit h

theorem Stays.bind {α γ : Type} {m : Act α} {f : α → Act γ} (h : Stays P m) (h' : ∀ a, Stays P (f a)) : Stays P (m >>= f) :=
  fun s => Post.bind (Post.mono (h s) fun a t ht => Post.mono (h' a t) fun _ _ hu p => hu (ht p))

theorem Stays.ite {α : Type} {c : Prop} [Decidable c] {m n : Act α} (h : Stays P m) (h' : Stays P n) : Stays P (if c then m else n) :=
  fun s => Post.ite (fun _ => h s) fun _ => h' s

theorem Stays.forAll {α : Type} {l : List α} {m : α → Act Unit} (h : ∀ a, Stays P (m a)) : Stays P (Machine.forAll l m) := by
  induction l with
  | nil => exact .pure ()
  | cons a as ih => exact (h a).bind fun _ => ih

theorem Stays.touches {α : Type} {L : Nat} {m : Act α} (h : Touches L m) (hp : ∀ s t, Same L s t → P s → P t) : Stays P m :=
  fun s => Post.touches h fun _ t same => hp s t same

/-- The frame of a command's footprint joins what has been shown of its next state. -/
theorem frame_and_mask {L : Nat} {o : Answer} {s : State} {P : State → Prop} {l : List Part} (h : ∃ u, o = .next u ∧ Same L s u)
    (h' : ∃ t, o = .next t ∧ P t) (hl : Nat.lor L (partsMask l) = partsMask l) : ∃ t, o = .next t ∧ SameBut l s t ∧ P t := by
  obtain ⟨u, hu, same⟩ := h
  obtain ⟨t, ht, p⟩ := h'
  cases hu.symm.trans ht
  exact ⟨u, hu, .ofMask same hl, p⟩

end Sys2Proof.Machine
end

section
/-! Transitions that end, IDLE and ACTIVE, and the drives and ports on the way to rest (R30, R32, R33, R38, R40, R434). -/

namespace Sys2Proof.Machine

/-! ### Transitions, IDLE and ACTIVE -/

/-- A change of mode stays within the DEV registers and the parts of events. -/
theorem Post.changeMode_frame {new cause : Nat} {s : State} {Q : Unit → State → Prop} (hn : new < 16) (hc : cause < 256)
    (q : ∀ t, SameBut (.devRegs :: eventParts) s t → ModeChanged new cause s t → Q () t) : Act.Post (Machine.changeMode new cause) s Q :=
  Post.changeMode hn hc fun t changed _ _ _ same _ => q t (SameBut.ofMask same (by decide)) changed

/-- The transition ends once the bays rest, and no held request follows it (R32, R47). -/
theorem exec_modeTransitionEnd_enters {s : State} {x : Transition} (hx : s.chip.transition = some x) (ht : x.target = mIDLE ∨ x.target = mPARK)
    (hc : x.cause < 256) (hb : s.baysRest = true) (hr : s.get F.DEV_MODE_REQ_TARGET = 0) :
    ∃ t, exec .modeTransitionEnd s = .next t ∧ SameBut (.devRegs :: eventParts) s t ∧ ModeChanged x.target x.cause s t ∧
      t.get F.DEV_MODE_STAT_TRANSITION = 0 ∧ t.chip.transition = none := by
  have known : x.target < 16 ∧ x.target ≠ mRETENTION ∧ x.target ≠ mBOOT := by
    rcases ht with h | h <;> rw [h] <;> decide
  obtain ⟨small, notRet, notBoot⟩ := known
  refine Post.answer ?_
  simp only [hx]
  refine Post.ifFalse notRet (Post.ifFalse notBoot (Post.ifTrue hb (Post.emitThen (Post.setThen (Post.bind ?_)))))
  have begun : SameBut [.chip, .devRegs] s ((((Eff.chip fun c => { c with transition := none }).apply s)).put F.DEV_MODE_STAT_TRANSITION 0) :=
    (((SameBut.refl _ s).eff rfl (by simp [Eff.part])).put (by decide))
  refine Post.changeMode small hc fun t changed dev chip _ same _ => Post.rdThen (Post.ifFalse (not_not_intro ?_) (Post.pure ⟨?_, ?_, ?_, ?_⟩))
  · exact (dev _ (by decide) (by decide)).trans ((State.get_put_ne _ _ (by decide)).trans hr)
  · exact (begun.mono (by decide)).trans (SameBut.ofMask same (by decide))
  · exact changed.after (State.mode_put (by decide) _ 0) begun rfl (by decide)
  · exact (dev _ (by decide) (by decide)).trans (State.get_put_self _ _ _)
  · rw [chip]; rfl

theorem exec_idleDelayExpired_idles {s : State} (hm : s.mode = mACTIVE) (ht : s.get F.DEV_MODE_STAT_TRANSITION = 0) (hb : s.baysRest = true) :
    ∃ t, exec .idleDelayExpired s = .next t ∧ SameBut (.devRegs :: eventParts) s t ∧ ModeChanged mIDLE 9 s t :=
  Post.answer (Post.ifTrue ⟨hm, ht, hb⟩ (Post.changeMode_frame (by decide) (by decide) fun _ frame changed => ⟨frame, changed⟩))

/-- A bay that is not LOADED is not spun: only the mode changes (R30, R400). -/
theorem exec_bayNeeded_wakes {s : State} {b : Fin 4} (hm : s.mode = mIDLE) (ht : s.get F.DEV_MODE_STAT_TRANSITION = 0)
    (hh : s.get (F.BAY_STAT_HELD b.val) = 0) (hb : s.bayState b.val ≠ bLOADED) :
    ∃ t, exec (.bayNeeded b) s = .next t ∧ SameBut (.devRegs :: eventParts) s t ∧ ModeChanged mACTIVE 0xB s t := by
  refine Post.answer (Post.ifTrue hh (Post.rdThen (Post.ifTrue ⟨hm, ht⟩ (Post.bind ?_))))
  refine Post.changeMode_frame (by decide) (by decide) fun t frame changed => Post.rdThen (Post.ifFalse ?_ (Post.pure ⟨frame, changed⟩))
  rintro ⟨-, -, loaded⟩
  exact hb ((frame .bayRegs (by decide) _ (F.BAY_STAT_STATE_window _)).symm.trans loaded)

/-! ### A spindle that coasts -/

/-- The count of an event. -/
abbrev countOf (n : Nat) (s : State) : Nat := s.get (F.EVT_COUNT_CNT n)

/-- Every part but the event registers. -/
def allButEvt : Nat := 2 ^ 61 - 1 - 2 ^ Part.evtRegs.idx

/-- A program that leaves the event registers keeps the count of every event. -/
theorem Keeps.count {α : Type} {n : Nat} {m : Act α} (h : Touches allButEvt m) : Keeps (countOf n) m :=
  .touches h fun _ _ same => same.get (F.EVT_COUNT_CNT_window n) (by decide) rfl

/-- Raising an event keeps the count of every other. -/
theorem Keeps.count_raise {n k sub inst detail : Nat} (h : n % 512 ≠ k % 512) : Keeps (countOf n) (Machine.raise k sub inst detail) :=
  .raise fun _ _ sig => sig.gets _ (count_ne_signal n) (by simpa using count_key _ _ h)

/-- Taking a state, a bay raises no event but BAY_STATE_CHANGE. -/
theorem setBay_keeps_count {n : Nat} (b : Fin 4) (st : Nat) (hn : n % 512 ≠ Ev.bay b.val Ev.iBAY_STATE_CHANGE % 512) :
    Keeps (countOf n) (setBay b st) := by
  have raised (detail : Nat) : Keeps (countOf n) (raiseBay b.val Ev.iBAY_STATE_CHANGE 0 0 detail) := .count_raise hn
  unfold Machine.setBay
  refine .bind .rd fun s => .ite (.bind (.count (Touches.setF (F.BAY_STAT_STATE_window _) rfl)) fun _ => .ite (.bind ?_ fun _ => ?_) ?_) (.pure ())
  · exact .count (.forAll fun _ => (Touches.setF (F.RCH_SPK_STAT_SIDE_MISMATCH_window _) rfl).bind fun _ =>
      Touches.emitM (M := 2 ^ Part.spokes.idx) rfl rfl)
  all_goals
    refine .bind (.count (abortBayCal_touches _ _ _ rfl)) fun _ => .bind (.count (noteUse_touches _ _ _ rfl)) fun _ => ?_
    exact .ite (.bind (.count (.forAll fun k => endCapture_touches k rfl)) fun _ => raised _) (raised _)

theorem finishPark_keeps_count {n : Nat} (b : Fin 4) (hn : n % 512 ≠ Ev.bay b.val Ev.iBAY_STATE_CHANGE % 512) :
    Keeps (countOf n) (finishPark b) := by
  unfold Machine.finishPark
  refine .bind .rd fun s => .ite (.ite (.bind (.count ?_) fun _ => setBay_keeps_count b _ hn) (setBay_keeps_count b _ hn)) (.pure ())
  exact Touches.emitM (M := 2 ^ Part.bays.idx) rfl rfl

/-- Gates off: the motor drives nothing and aims at no speed (R148). -/
theorem Post.gatesOff {k : Fin 8} {s : State} {Q : Unit → State → Prop}
    (q : ∀ t, t.motors[k].gates = false → t.motors[k].target = 0 → Same 562949953422336 s t → Q () t) : Act.Post (gatesOff k) s Q := by
  refine Post.andTouches ?_ (gatesOff_touches k (L := 562949953422336) rfl)
  refine Post.mono (R := fun _ t => Same 562949953422336 s t → Q () t) ?_ fun _ t (off : t.motors[k].gates = false ∧ t.motors[k].target = 0) =>
    q t off.1 off.2
  unfold Machine.gatesOff Machine.setRef
  refine Post.rdThen (Post.emitThen (Post.bind (Post.emitThen (Post.setF (Post.ite (fun _ => ?_) fun _ => Post.pure (by simp))))))
  refine Post.touches (setMotor_touches k _ (L := 2 ^ Part.motRegs.idx) rfl) fun _ u hu => ?_
  rw [show u.motors = _ from hu .motors rfl]
  simp

/-- A spindle that still turns 5.5 s after the entry coasts (R38). -/
theorem exec_drainSpinTimeout_coasts {s : State} {b : Fin 4} (hd : s.draining = true) (hr : s.spindleRests b = false) :
    ∃ t, exec (.drainSpinTimeout b) s = .next t ∧
      SameBut (.motRegs :: .rchRegs :: .calRegs :: .bayRegs :: .bays :: .spokes :: .motors :: .detectors :: .cal :: eventParts) s t ∧
      t.motors[spindleOf b].gates = false ∧ t.motors[spindleOf b].target = 0 ∧ Counted (Ev.bay b.val Ev.iBAY_SPIN_COAST) s t := by
  have apart : Ev.bay b.val Ev.iBAY_SPIN_COAST % 512 ≠ Ev.bay b.val Ev.iBAY_STATE_CHANGE % 512 := by
    simp only [Ev.bay, Ev.iBAY_SPIN_COAST, Ev.iBAY_STATE_CHANGE]
    omega
  refine frame_and_mask (execDrainSpinTimeout_touches b s) (Post.answer (Post.ifTrue ⟨hd, hr⟩ ?_)) (by decide)
  refine Post.bind (Post.gatesOff fun u gates target hu => Post.bind (Post.raise fun v raised sig => ?_))
  refine Post.andKeeps (Post.touches (finishPark_touches b (L := 225233857508741190) rfl) fun _ t same count => ?_) (finishPark_keeps_count b apart)
  have motors : t.motors = u.motors := (same .motors rfl).trans (sig.same .motors rfl)
  refine ⟨by rw [motors, gates], by rw [motors, target], ?_⟩
  exact (raised.1.of count).after (hu.get (F.EVT_COUNT_CNT_window _) (by decide) rfl)

/-! ### A port that is forced down on the way to RETENTION -/

/-- The link state that a port's registers show, but for L1. -/
structure LinkField (f : Fld) : Prop where
  window : f.window = .hstRegs
  apart : f.key ∉ signalKeys

theorem LinkField.put {f g : Fld} (h : LinkField f) (hg : g.window ≠ .hstRegs) (s : State) (x : Nat) : (s.put g x).get f = s.get f :=
  State.get_put_window s x (by rw [h.window]; exact hg.symm)

theorem LinkField.signals {f : Fld} (h : LinkField f) {n : Nat} {s t : State} (sig : Signals [(F.EVT_COUNT_CNT n).key] s t) :
    t.get f = s.get f := by
  refine sig.gets f h.apart fun m => ?_
  have e := Fld.window_of_key (List.mem_singleton.mp m)
  rw [h.window, F.EVT_COUNT_CNT_window] at e
  exact absurd e (by decide)

theorem changeMode_keeps_link {f : Fld} (h : LinkField f) (new cause : Nat) : Keeps (fun s => s.get f) (changeMode new cause) :=
  .bind .rd fun _ => .bind (.setF fun s => h.put (by decide) s _) fun _ => .bind (.setF fun s => h.put (by decide) s _) fun _ =>
    .bind (.setF fun s => h.put (by decide) s _) fun _ => .bind (.emit fun _ => rfl) fun _ => .raise fun _ _ => h.signals

/-- Entering RETENTION, or giving it up, changes no port's link state but L1 (R40). -/
theorem enterRetention_keeps_link {f : Fld} (h : LinkField f) : Keeps (fun s => s.get f) enterRetention := by
  unfold Machine.enterRetention Machine.rejectRequest
  refine .bind .rd fun s => ?_
  split
  · exact .pure ()
  refine .ite (.bind (.emit fun _ => rfl) fun _ => .bind (.emit fun _ => rfl) fun _ => .bind (.setF fun s => h.put (by decide) s _) fun _ => ?_)
    (.ite ?_ (.pure ()))
  · exact .bind (.setF fun s => h.put (by decide) s _) fun _ => .bind (.emit fun _ => rfl) fun _ => .raise fun _ _ => h.signals
  · exact .bind (.emit fun _ => rfl) fun _ => .bind (.setF fun s => h.put (by decide) s _) fun _ =>
      .bind (.setF fun s => h.put (by decide) s _) fun _ => changeMode_keeps_link h _ _

theorem LinkField.speed (p : Fin 2) : LinkField (F.HST_LINK_STAT_SPEED (adminOf p).val) where
  window := F.HST_LINK_STAT_SPEED_window _
  apart := by revert p; decide

/-- A port that has received no PME_Turn_Off is taken to electrical idle (R434). -/
theorem exec_l2HandshakeTimeout_forces {s : State} {p : Fin 2} (hr : s.chip.retaining = true) (hd : s.dram.selfRefresh = true)
    (hu : s.linkUp p = true) (hl : s.chip.l2Ready[p] = false) :
    ∃ t, exec (.l2HandshakeTimeout p) s = .next t ∧ SameBut (.devRegs :: .dram :: eventParts) s t ∧
      t.get (F.HST_LINK_STAT_SPEED (adminOf p).val) = 0 := by
  refine frame_and_mask (execL2HandshakeTimeout_touches p s) (Post.answer (Post.ifTrue ⟨hr, hd, hu, hl⟩ ?_)) (by decide)
  refine Post.bind (Post.forAll_pair (Post.setThen (Post.setF (Post.setThen (Post.setF (Post.bind (Post.raise fun u _ sig =>
    Post.keeps (enterRetention_keeps_link (.speed p)) fun _ t ht => ht.trans (((LinkField.speed p).signals sig).trans ?_))))))))
  have keys : ∀ p : Fin 2, (F.HST_LINK_STAT_SPEED (adminOf p).val).key ≠ (F.HST_LINK_STAT_WIDTH (2 * p.val)).key ∧
      (F.HST_LINK_STAT_SPEED (adminOf p).val).key ≠ (F.HST_LINK_STAT_SPEED (2 * p.val + 1)).key ∧
      (F.HST_LINK_STAT_SPEED (adminOf p).val).key ≠ (F.HST_LINK_STAT_WIDTH (2 * p.val + 1)).key := by decide
  obtain ⟨width, speed, width'⟩ := keys p
  rw [State.get_put_ne _ _ width', State.get_put_ne _ _ speed, State.get_put_ne _ _ width]
  exact State.get_put_self _ _ _

/-- Settles O12: one lemma for each command. -/
theorem modesEndInRestIdleOrDrain : Obligations.ModesEndInRestIdleOrDrain := by
  unfold Obligations.ModesEndInRestIdleOrDrain
  refine fun s => ⟨fun x hx ht hc hb hr => exec_modeTransitionEnd_enters hx ht hc hb hr, fun hm ht hb => exec_idleDelayExpired_idles hm ht hb,
    fun b hm ht hh hb => exec_bayNeeded_wakes hm ht hh hb, fun hm => ?_, fun hm => exec_pwrFailNAsserted_retention hm, exec_pwrFailNDeasserted s,
    fun h hd hn ht => exec_drainComplete_rests h hd hn ht, fun b hd hr => exec_drainSpinTimeout_coasts hd hr,
    fun h hn ht => exec_drainDeadline_rests h hn ht, fun p hr hd hu hl _ => exec_l2HandshakeTimeout_forces hr hd hu hl⟩
  have known : mBRINGUP ≤ s.mode ∧ s.mode ≠ mRETENTION ∧ s.mode ≠ mDRAIN ∧ s.mode < 16 := by
    rcases hm with h | h | h | h | h | h <;> rw [h] <;> decide
  obtain ⟨on, notRet, notDrain, small⟩ := known
  exact exec_pwrFailNAsserted_drains on notRet notDrain small

end Sys2Proof.Machine
end

section
/-! What is quiet after a reset, the loss of the supplies and a thermal shutdown: levels of outputs, and lasers that stay off (R42, R43, R507). -/

namespace Sys2Proof.Machine

/-! ### Lasers -/

/-- Whether the laser of OPU `k` is off (R126). -/
abbrev State.dark (s : State) (k : Fin 8) : Prop := s.optics[k].laser = false

/-- A program that turns the laser of an OPU on in no state. -/
abbrev StaysDark {α : Type} (k : Fin 8) (m : Act α) : Prop := Stays (State.dark · k) m

/-- A program that leaves it off whatever it was. -/
def Darkens {α : Type} (k : Fin 8) (m : Act α) : Prop := ∀ s, Act.Post m s fun _ t => t.dark k

variable {k : Fin 8}

/-- Every part but the optics. -/
def allButOptics : Nat := 2 ^ 61 - 1 - 2 ^ Part.optics.idx

theorem Stays.besideOptics {α : Type} {m : Act α} (h : Touches allButOptics m) : StaysDark k m :=
  Stays.touches h fun s t same dark => by
    unfold State.dark
    rwa [show t.optics = s.optics from same .optics rfl]

theorem Stays.optic {j : Fin 8} {g : Optic → Optic} (h : ∀ o, o.laser = false → (g o).laser = false) :
    StaysDark k (Machine.emit (.optic j g)) := by
  refine Stays.emit fun s dark => ?_
  unfold State.dark
  by_cases e : j = k
  · subst e
    rw [apply_optic_self]
    exact h _ dark
  · rwa [apply_optic_ne _ _ e]

theorem Darkens.after {α β : Type} {m : Act α} {f : α → Act β} (h : StaysDark k m) (h' : ∀ a, Darkens k (f a)) : Darkens k (m >>= f) :=
  fun s => Post.bind (Post.mono (h s) fun a t _ => h' a t)

theorem Darkens.bind {α β : Type} {m : Act α} {f : α → Act β} (h : Darkens k m) (h' : ∀ a, StaysDark k (f a)) : Darkens k (m >>= f) :=
  fun s => Post.bind (Post.mono (h s) fun a t d => Post.mono (h' a t) fun _ _ hu => hu d)

theorem Darkens.forAll {m : Fin 8 → Act Unit} {l : List (Fin 8)} (hk : k ∈ l) (h : Darkens k (m k)) (hs : ∀ j, StaysDark k (m j)) :
    Darkens k (forAll l m) := by
  induction l with
  | nil => exact absurd hk List.not_mem_nil
  | cons j l ih =>
    by_cases e : k = j
    · subst e
      exact h.bind fun _ => .forAll hs
    · exact .after (hs j) fun _ => ih ((List.mem_cons.mp hk).resolve_left e)

/-! ### Stopping drives turns no laser on -/

theorem endWrite_staysDark (j : Fin 8) (n reason : Nat) : StaysDark k (endWrite j n reason) := by
  have gate : StaysDark k (closeGate j) := Stays.optic fun o h => h
  unfold endWrite
  refine .bind (.rd fun s => .pure _) fun w => .ite (.bind (.besideOptics (Touches.emitM (M := 2 ^ Part.writers.idx) rfl rfl)) fun _ =>
    .bind (.besideOptics (Touches.setF (F.WRP_STAT_STATE_window _) rfl)) fun _ => .ite (.bind ?_ fun _ => gate) gate) gate
  exact .besideOptics (abortWriteCal_touches j rfl)

theorem stopWriteNow_staysDark (j : Fin 8) : StaysDark k (stopWriteNow j) := by
  unfold stopWriteNow
  refine .rd fun s => .ite (.bind (.besideOptics (sendFrame_touches j _ rfl)) fun _ => ?_) ?_
  all_goals exact .bind (.besideOptics (Touches.emitM (M := 2 ^ Part.writers.idx) rfl rfl)) fun _ => endWrite_staysDark j _ _

theorem dropLaser_darkens (k : Fin 8) : Darkens k (dropLaser k) := by
  have off : Darkens k (laserOff k) := fun s => Post.emit (by unfold State.dark; rw [apply_optic_self])
  unfold dropLaser
  refine .after (stopWriteNow_staysDark k) fun _ => .after (.besideOptics (cutTraining_touches k rfl)) fun _ s =>
    Post.rdThen (Post.ite (fun _ => ?_) fun _ => off s)
  exact Post.emitThen (off _)

theorem dropLaser_staysDark (j : Fin 8) : StaysDark k (dropLaser j) := by
  have off : StaysDark k (laserOff j) := Stays.optic fun _ _ => rfl
  unfold dropLaser
  refine .bind (stopWriteNow_staysDark j) fun _ => .bind (.besideOptics (cutTraining_touches j rfl)) fun _ =>
    .rd fun s => .ite (.bind ?_ fun _ => off) off
  exact .besideOptics (Touches.emitM (M := 2 ^ Part.life.idx) rfl rfl)

theorem optEnd_staysDark (j : Fin 8) (result : Nat) : StaysDark k (optEnd j result) := by
  unfold optEnd
  refine .bind (.rd fun s => .pure _) fun s => .ite (.bind (.besideOptics (freeze_touches j _ _ rfl)) fun _ => ?_) ?_
  all_goals
    refine .bind (.besideOptics (Touches.setF (F.BAY_OPT_CMD_CMD_window _) rfl)) fun _ =>
      .bind (.besideOptics (Touches.setF (F.BAY_OPT_STAT_RESULT_window _) rfl)) fun _ =>
      .bind (.besideOptics (Touches.setF (F.BAY_OPT_STAT_JUMP_window _) rfl)) fun _ =>
      .bind (.besideOptics (Touches.setF (F.BAY_OPT_STAT_LAYER_JUMP_window _) rfl)) fun _ =>
      .bind (.besideOptics (Touches.setF (F.BAY_OPT_STAT_PULL_IN_window _) rfl)) fun _ => .optic fun _ h => h

/-- Retracting an OPU turns its own laser off, and no other on (R126). -/
theorem retract_darkens (j : Fin 8) : Darkens j (retract j) ∧ StaysDark k (retract j) := by
  unfold retract
  refine ⟨(dropLaser_darkens j).bind fun _ => ?_, (dropLaser_staysDark j).bind fun _ => ?_⟩
  all_goals
    refine .rd fun s => .ite (.bind (.rd fun s => .ite (optEnd_staysDark j _) (.pure ())) fun _ => ?_) (.pure ())
    exact .bind (.besideOptics (freeze_touches j _ _ rfl)) fun _ => .bind (.besideOptics (freeze_touches j _ _ rfl)) fun _ =>
      .bind (.besideOptics (Touches.setF (F.BAY_OPT_STAT_FOCUS_LOCKED_window _) rfl)) fun _ =>
      .bind (.besideOptics (Touches.setF (F.BAY_OPT_STAT_ON_TRACK_window _) rfl)) fun _ =>
      .bind (.besideOptics (Touches.setF (F.BAY_OPT_CMD_CMD_window _) rfl)) fun _ => .optic fun _ h => h

theorem parkBay_staysDark (b : Fin 4) : StaysDark k (parkBay b) := by
  unfold parkBay
  refine .rd fun s => .bind (.forAll fun m => .besideOptics (stopMotor_touches m rfl)) fun _ => .ite ?_ (.pure ())
  refine .bind (.besideOptics (setBay_touches b _ rfl)) fun _ =>
    .bind (.forAll fun j => .bind (retract_darkens j).2 fun _ => .optic fun _ h => h) fun _ => ?_
  exact .bind (.besideOptics (parkSled_touches _ rfl)) fun _ => .bind (.besideOptics (parkSled_touches _ rfl)) fun _ =>
    .besideOptics (finishPark_touches b rfl)

theorem stopBay_staysDark (b : Fin 4) : StaysDark k (stopBay b) :=
  (parkBay_staysDark b).bind fun _ => .forAll fun a => .rd fun _ => .ite (.besideOptics (parkSled_touches a rfl)) (.pure ())

/-! ### SAFE -/

/-- What follows the change of mode at the entry into SAFE: every OPU is retracted and every bay is stopped, and the mode stands (R42). -/
theorem safe_rest_darkens (k : Fin 8) (s : State) : Act.Post (do
    forAll opuList retract
    forAll bayList stopBay) s fun _ t => t.dark k ∧ t.mode = s.mode := by
  have dark : Darkens k (do
      forAll opuList retract
      forAll bayList stopBay) :=
    .bind (.forAll (by revert k; decide) (retract_darkens (k := k) k).1 fun j => (retract_darkens j).2) fun _ => .forAll stopBay_staysDark
  exact Post.andTouches (Post.mono (dark s) fun _ t d same => ⟨d, same.get (f := F.DEV_MODE_STAT_MODE) (p := .devRegs) rfl (by decide) rfl⟩)
    (Touches.bind (L := allButDev) (.forAll fun j => retract_touches j rfl) fun _ => .forAll fun b => stopBay_touches b rfl)

/-- The entry into SAFE leaves the part in SAFE with the laser of each OPU off (R42). -/
theorem enterSafe_darkens {cause : Nat} (hc : cause < 256) {s : State} (hm : safeFrom s.mode = true) (k : Fin 8) :
    Act.Post (enterSafe cause) s fun _ t => t.mode = mSAFE ∧ t.dark k := by
  unfold Machine.enterSafe
  refine Post.rdThen (Post.ifTrue hm (Post.emitThen (Post.ite (fun _ => Post.setThen ?_) fun _ => ?_)))
  all_goals
    refine Post.emitThen (Post.setThen (Post.bind (Post.changeMode (by decide) hc fun u ⟨safe, _⟩ _ _ _ _ _ => ?_)))
    exact Post.mono (safe_rest_darkens k u) fun _ t ⟨dark, mode⟩ => ⟨mode.trans safe, dark⟩

/-! ### Outputs -/

/-- Which elements are fitted is a fact of the board configuration record (R565). -/
theorem State.outputFitted_congr {s t : State} (h : t.nv = s.nv) (p : OutputPin) : t.outputFitted p = s.outputFitted p := by
  cases p <;> simp only [State.outputFitted, h]

theorem State.outputLevel_off {s : State} (h : s.mode = mOFF) :
    (∀ q : Fin 2, s.outputLevel (.pcieTransmit q) = .unpowered) ∧
    ∀ p : OutputPin, (∀ q : Fin 2, p ≠ .pcieTransmit q) → s.outputLevel p = .highImpedance := by
  refine ⟨fun q => if_pos h, fun p hp => (if_pos h).trans ?_⟩
  split
  next q => exact absurd rfl (hp q)
  next => rfl

theorem State.outputLevel_reset {s : State} (h : s.mode = mRESET) (p : OutputPin) :
    s.outputLevel p = if s.outputFitted p then p.inReset else .highImpedance := by
  have on : s.mode ≠ mOFF := by rw [h]; decide
  cases hf : s.outputFitted p
  · exact (if_neg on).trans (if_pos hf)
  · exact (if_neg on).trans ((if_neg (by simp [hf])).trans (if_pos (.inl h)))

/-- In SAFE a fitted OPU whose laser is off shows its enable inactive and its link idle, halted or not (R42). -/
theorem State.outputLevel_safe {s : State} {k : Fin 8} (h : s.mode = mSAFE) (hf : s.opuFitted k = true) (hd : s.dark k) :
    s.outputLevel (.laserEnable k) = .inactive ∧ s.outputLevel (.wslLanes k) = .electricalIdle := by
  have quiet {p : OutputPin} (hp : s.outputFitted p = true) (driven : s.drivenLevel p = p.inReset) : s.outputLevel p = p.inReset := by
    simp [State.outputLevel, h, hp, driven]
  have off : ¬ s.optics[k].laser = true := Bool.eq_false_iff.mp hd
  exact ⟨quiet hf (if_neg off), quiet hf (if_pos (.inl h))⟩

/-- Settles O56: the levels follow from the mode and the lasers that each command leaves (`resetClearsWhatIsVolatile`, `enterSafe_darkens`). -/
theorem resetAndSafeQuietTheOutputs : Obligations.ResetAndSafeQuietTheOutputs := by
  unfold Obligations.ResetAndSafeQuietTheOutputs
  intro s
  obtain ⟨removed, -, pins⟩ := resetClearsWhatIsVolatile s
  refine ⟨fun on => ?_, ?_, fun hm => ?_, fun p k hk on hf => ?_⟩
  · obtain ⟨⟨t, next, ⟨reset, -, -, -, -, -, -, -, -, -, -, frame⟩, -⟩, -⟩ := pins on
    refine ⟨t, next, fun p => ?_⟩
    rw [State.outputLevel_reset reset, State.outputFitted_congr (frame .nv (by decide))]
  · obtain ⟨t, next, ⟨off, -⟩, -⟩ := removed
    exact ⟨t, next, State.outputLevel_off off⟩
  · have each (k : Fin 8) : ∃ t, exec .thermalShutdown s = .next t ∧ t.mode = mSAFE ∧ t.dark k :=
      Post.answer (Post.ifTrue hm (Post.bind (Post.raise fun u _ sig =>
        have mode : u.mode = s.mode := sig.dev (by decide)
        enterSafe_darkens (by decide) (mode ▸ hm) k)))
    obtain ⟨t, next, same⟩ := execThermalShutdown_touches s
    refine ⟨t, next, fun k hf => ?_⟩
    obtain ⟨u, next', safe, dark⟩ := each k
    cases next.symm.trans next'
    refine State.outputLevel_safe safe ?_ dark
    unfold State.opuFitted at hf ⊢
    rwa [show t.nv = s.nv from same .nv rfl]
  · exact (if_neg on).trans ((if_neg (by simp [hf])).trans (if_pos (.inr (by simp [hk]))))

end Sys2Proof.Machine
end

section
/-! The link state that a port's registers show, and what it goes through (R421, R423, R433). -/

namespace Sys2Proof.Machine

/-- The state once the registers of both functions of a port show a link state. -/
def State.linked (s : State) (p : Fin 2) (speed width pstate : Nat) : State :=
  let u := ((s.put (F.HST_LINK_STAT_SPEED (2 * p.val)) speed).put (F.HST_LINK_STAT_WIDTH (2 * p.val)) width).put
    (F.HST_LINK_STAT_PSTATE (2 * p.val)) pstate
  ((u.put (F.HST_LINK_STAT_SPEED (2 * p.val + 1)) speed).put (F.HST_LINK_STAT_WIDTH (2 * p.val + 1)) width).put
    (F.HST_LINK_STAT_PSTATE (2 * p.val + 1)) pstate

theorem Post.setLink {p : Fin 2} {speed width pstate : Nat} {s : State} {Q : Unit → State → Prop} (q : Q () (s.linked p speed width pstate)) :
    Act.Post (setLink p speed width pstate) s Q :=
  Post.forAll_pair (Post.setThen (Post.setThen (Post.setF (Post.setThen (Post.setThen (Post.setF q))))))

theorem State.linked_frame (s : State) (p : Fin 2) (speed width pstate : Nat) : SameBut [.hstRegs] s (s.linked p speed width pstate) :=
  ((((((SameBut.refl _ s).put (by simp)).put (by simp)).put (by simp)).put (by simp)).put (by simp)).put (by simp)

theorem State.linked_get (s : State) {p : Fin 2} {f : Fin 4} (hf : portOf f = p) (speed width pstate : Nat) :
    (s.linked p speed width pstate).get (F.HST_LINK_STAT_SPEED f.val) = speed % 16 ∧
    (s.linked p speed width pstate).get (F.HST_LINK_STAT_WIDTH f.val) = width % 32 ∧
    (s.linked p speed width pstate).get (F.HST_LINK_STAT_PSTATE f.val) = pstate % 4 := by
  subst hf
  have widths (n : Nat) : (F.HST_LINK_STAT_SPEED n).w = 4 ∧ (F.HST_LINK_STAT_WIDTH n).w = 5 ∧ (F.HST_LINK_STAT_PSTATE n).w = 2 := ⟨rfl, rfl, rfl⟩
  obtain rfl | rfl | rfl | rfl : f = 0 ∨ f = 1 ∨ f = 2 ∨ f = 3 := by revert f; decide
  all_goals simp (disch := decide) [State.linked, portOf, State.get_put_ne, widths]

/-- The functions of the other port show what they showed. -/
theorem State.linked_get_other (s : State) {p : Fin 2} {f : Fin 4} (hf : portOf f ≠ p) (speed width pstate : Nat) :
    (s.linked p speed width pstate).get (F.HST_LINK_STAT_SPEED f.val) = s.get (F.HST_LINK_STAT_SPEED f.val) := by
  have keys : ∀ (p : Fin 2) (f : Fin 4), portOf f ≠ p → ∀ g ∈ [2 * p.val, 2 * p.val + 1],
      (F.HST_LINK_STAT_SPEED f.val).key ≠ (F.HST_LINK_STAT_SPEED g).key ∧ (F.HST_LINK_STAT_SPEED f.val).key ≠ (F.HST_LINK_STAT_WIDTH g).key ∧
      (F.HST_LINK_STAT_SPEED f.val).key ≠ (F.HST_LINK_STAT_PSTATE g).key := by decide
  obtain ⟨a, b, c⟩ := keys p f hf (2 * p.val) (by simp)
  obtain ⟨a', b', c'⟩ := keys p f hf (2 * p.val + 1) (by simp)
  unfold State.linked
  rw [State.get_put_ne _ _ c', State.get_put_ne _ _ b', State.get_put_ne _ _ a', State.get_put_ne _ _ c, State.get_put_ne _ _ b,
    State.get_put_ne _ _ a]

theorem portOf_adminOf (p : Fin 2) : portOf (adminOf p) = p := by revert p; decide

theorem State.linked_up (s : State) (p : Fin 2) (speed width pstate : Nat) : (s.linked p speed width pstate).linkUp p = (speed % 16 != 0) := by
  unfold State.linkUp
  rw [(s.linked_get (portOf_adminOf p) speed width pstate).1]

theorem State.linked_up_other (s : State) {p q : Fin 2} (h : q ≠ p) (speed width pstate : Nat) :
    (s.linked p speed width pstate).linkUp q = s.linkUp q := by
  unfold State.linkUp
  rw [s.linked_get_other (by rwa [portOf_adminOf])]

/-! ### L1 is only left -/

/-- A function's registers show L0: no power state of its link. -/
abbrev State.inL0 (s : State) (f : Fin 4) : Prop := s.get (F.HST_LINK_STAT_PSTATE f.val) = 0

/-- Every part but the host link's registers. -/
def allButHst : Nat := 2 ^ 61 - 1 - 2 ^ Part.hstRegs.idx

theorem Stays.l0 {α : Type} {f : Fin 4} {m : Act α} (h : Touches allButHst m) : Stays (State.inL0 · f) m :=
  .touches h fun _ _ same l0 => (same.get (F.HST_LINK_STAT_PSTATE_window _) (by decide) rfl).trans l0

theorem leaveL1_stays (f g : Fin 4) : Stays (State.inL0 · f) (leaveL1 g) := by
  have left {n : Nat} (hn : n < 4) (s : State) (l0 : s.inL0 f) : (s.put (F.HST_LINK_STAT_PSTATE n) 0).inL0 f := by
    by_cases e : f.val = n
    · unfold State.inL0
      rw [e, State.get_put_self]
      rfl
    · have apart : ∀ f n : Fin 4, f ≠ n → (F.HST_LINK_STAT_PSTATE f.val).key ≠ (F.HST_LINK_STAT_PSTATE n.val).key := by decide
      exact (State.get_put_ne s 0 (apart f ⟨n, hn⟩ fun h => e (congrArg Fin.val h))).trans l0
  unfold leaveL1
  exact .rd fun _ => .ite (.bind (.setF (left (by omega))) fun _ => .setF (left (by omega))) (.pure ())

theorem sendVector_stays (f g : Fin 4) (v level : Nat) : Stays (State.inL0 · f) (sendVector g v level) := by
  unfold sendVector
  refine .rd fun s => .ite (.pure ()) (.ite ?_ (.bind (leaveL1_stays f g) fun _ => ?_))
  · exact .l0 (Touches.emitM (M := 2 ^ Part.fns.idx) rfl rfl)
  · exact .l0 (Touches.emitM (M := 2 ^ Part.out.idx) rfl rfl)

theorem attendFn_stays (f g : Fin 4) (r : Option EventRec) : Stays (State.inL0 · f) (attendFn g r) := by
  have shown (x : Nat) : Stays (State.inL0 · f) (setF (F.EVT_FN_STAT_SIGNALLED g.val) x) :=
    .l0 (Touches.setF (F.EVT_FN_STAT_SIGNALLED_window _) rfl)
  have pending (k : HostFn → HostFn) : Stays (State.inL0 · f) (emit (.fn g k)) := .l0 (Touches.emitM (M := 2 ^ Part.fns.idx) rfl rfl)
  unfold attendFn
  refine .rd fun s => .ite (.bind (shown _) fun _ => .ite (.bind (pending _) fun _ => ?_) ?_) ?_
  all_goals
    refine .ite (.bind (shown _) fun _ => sendVector_stays f g _ _) ?_
    split
    · exact .pure ()
    · exact .ite (sendVector_stays f g _ _) (.pure ())

theorem attend_stays (f : Fin 4) (r : Option EventRec) : Stays (State.inL0 · f) (attend r) :=
  .bind (.forAll fun g => attendFn_stays f g r) fun _ => .rd fun _ => .l0 (Touches.emitM (M := 2 ^ Part.chip.idx) rfl rfl)

/-- Raising an event takes no port to L1 (R433). -/
theorem raise_stays (f : Fin 4) (n sub inst detail : Nat) : Stays (State.inL0 · f) (raise n sub inst detail) := by
  have count : Stays (State.inL0 · f) (incStop (F.EVT_COUNT_CNT n)) := .l0 (Touches.incStop (F.EVT_COUNT_CNT_window _) rfl)
  have queue (r : EventRec) : Stays (State.inL0 · f) (emit (.queue r)) := .l0 (Touches.emitM (M := 2 ^ Part.evq.idx) rfl rfl)
  have merge : Stays (State.inL0 · f) (emit .merge) := .l0 (Touches.emitM (M := 2 ^ Part.evq.idx) rfl rfl)
  have lost : Stays (State.inL0 · f) (incStop F.EVT_LOST_CNT_CNT) := .l0 (Touches.incStop (p := .evtRegs) rfl rfl)
  unfold raise raiseAt
  refine .bind count fun _ => .rd fun s => .ite (.bind (.l0 (Touches.emitM (M := 2 ^ Part.chip.idx) rfl rfl)) fun _ =>
    .bind (.l0 (Touches.emitM (M := 2 ^ Part.seqs.idx) rfl rfl)) fun _ => .rd fun _ => .bind (.l0 (Touches.setF (p := .seqRegs) rfl rfl)) fun _ => ?_) ?_
  all_goals
    refine .ite (.bind merge fun _ => attend_stays f _) (.ite (.bind lost fun _ => ?_) ?_)
    all_goals exact .bind (queue _) fun _ => attend_stays f _

end Sys2Proof.Machine
end

section
/-! Function level resets while no instruction is in progress: what they clear, and what they leave to the host and to the part (R365, R423). -/

namespace Sys2Proof.Machine

/-! ### Settling with nothing in progress -/

/-- The fields that settling leaves: neither those of signalling and of the landing zone, nor the count of DIGEST_POISON. -/
abbrev Fld.settleKept (f : Fld) : Prop :=
  f.key ∉ signalKeys ∧ f.key ≠ (F.EVT_COUNT_CNT Ev.DIGEST_POISON).key ∧ f.window ≠ .flzRegs

/-- The chip but for what signalling changes: the SMBus alert and the queued event routines. -/
def State.chipCore (s : State) : Chip := { s.chip with pins := { s.chip.pins with smbAlert := false, smbLevel := 0 }, routines := [] }

theorem Signals.chipCore {K : List Nat} {s t : State} (h : Signals K s t) : t.chipCore = s.chipCore := by
  unfold State.chipCore
  rw [h.chip]

/-- What settling leaves of the chip, and those fields. -/
def settleView (s : State) : Chip × ({ f : Fld // f.settleKept } → Nat) := (s.chipCore, fun f => s.get f.1)

theorem settleView_signals {s t : State} (h : Signals [(F.EVT_COUNT_CNT Ev.DIGEST_POISON).key] s t) : settleView t = settleView s :=
  Prod.ext h.chipCore (funext fun ⟨f, unsignalled, apart, _⟩ => h.gets f unsignalled (by simpa using apart))

theorem Fld.window_idx_lt (f : Fld) : f.window.idx < 20 := by
  have pick {c : Prop} [Decidable c] {a b : Part} (ha : a.idx < 20) (hb : b.idx < 20) : (if c then a else b).idx < 20 := by
    split <;> assumption
  unfold Fld.window
  iterate 19 refine pick (by decide) ?_
  decide

theorem settleView_touches {s t : State} (h : Same settledMask s t) : settleView t = settleView s := by
  have bits : ∀ i < 20, i ≠ Part.flzRegs.idx → settledMask.testBit i = false := by decide
  have chip : t.chip = s.chip := h .chip rfl
  refine Prod.ext (by simp only [settleView, State.chipCore, chip]) (funext fun ⟨f, _, _, outside⟩ =>
    h.get rfl f.window_idx_lt (bits _ f.window_idx_lt fun e => outside (Part.idx_inj e)))

theorem Keeps.settled {α : Type} {m : Act α} (h : Touches settledMask m) : Keeps settleView m := .touches h fun _ _ => settleView_touches

theorem sweepCache_keeps : Keeps settleView sweepCache := by
  have digest (x : Strand) (c : CacheSector) : Keeps settleView (digestSector x c) := by
    unfold digestSector
    refine .ite (.bind (.raise fun _ _ => settleView_signals) fun _ => ?_) ?_
    all_goals exact .settled ((setStrand_touches _ _ rfl).bind fun _ => Touches.emitM (M := 2 ^ Part.cache.idx) rfl rfl)
  have extend (n fuel : Nat) : Keeps settleView (extendDigest n fuel) := by
    induction fuel with
    | zero => exact .pure ()
    | succ fuel ih =>
      rw [extendDigest]
      refine .bind .rd fun s => ?_
      split
      · exact .pure ()
      split
      · exact .pure ()
      · exact .ite (.bind (digest _ _) fun _ => ih) (.pure ())
  unfold sweepCache extendDigests
  refine .bind (.bind .rd fun s => .forAll fun x => extend _ _) fun _ => .bind .rd fun s => ?_
  exact .settled (.bind (.forAll fun c => commitMove_touches c rfl) fun _ => Touches.emitM (M := 2 ^ Part.cache.idx) rfl rfl)

/-- With no instruction in progress none completes or starts, and settling keeps the view. -/
theorem Post.settle_idle {s : State} {Q : Unit → State → Prop} (hi : s.insts = []) (q : ∀ t, Settles s t → settleView t = settleView s → Q () t) :
    Act.Post Machine.settle s Q := by
  have quiet : s.quiet := fun j hj => absurd hj (by rw [hi]; exact List.not_mem_nil)
  refine Post.and (R := fun t => settleView t = settleView s) (Post.settle quiet q) ?_
  unfold Machine.settle
  refine Post.bind (Post.andKeeps (Post.onlySettles sweepCache_onlySettles fun _ u hu view => Post.rdThen ?_) sweepCache_keeps)
  rw [hu.insts, hi]
  refine Post.bind (Post.pure (Post.bind (Post.rdThen ?_)))
  rw [hu.insts, hi]
  have rest : Keeps settleView (do
      showCompacting
      forAll fnList (fun f => do
        let s ← Machine.rd
        Machine.emit (.fn f fun h => { h with posted := h.posted.filter (fun c => s.pendingDisc c) }))
      saveBlocks
      showGate) :=
    .bind (.settled (showCompacting_touches rfl)) fun _ => .bind (.forAll fun f => .bind .rd fun s => .emit fun _ => rfl) fun _ =>
      .settled ((saveBlocks_touches rfl).bind fun _ => showGate_touches rfl)
  exact Post.pure (Post.keeps rest fun _ t ht => ht.trans view)

/-! ### What a reset of one function leaves -/

/-- The fields of a function's registers that its reset sets (R365). -/
def flrKeys (f : Fin 4) : List Nat := (F.HST_FN_CTL_ENABLE f.val :: F.HST_FN_STAT_READY f.val :: hstFnFields f.val).map Fld.key

/-- The fields that a reset of function `f` leaves. -/
abbrev Fld.flrKept (f : Fin 4) (x : Fld) : Prop := x.settleKept ∧ x.window ≠ .seqRegs ∧ x.key ∉ flrKeys f

/-- What a reset of a function leaves while no instruction is in progress: its rings are gone and READY is 0, and the rings of the other functions,
the chip and the other registers stand (R365). -/
structure FlrDone (f : Fin 4) (s t : State) : Prop where
  insts : t.insts = []
  frame : SameBut settleParts s t
  chip : t.chipCore = s.chipCore
  ready : t.get (F.HST_FN_STAT_READY f.val) = 0
  rings : t.fns[f].sqs = [] ∧ t.fns[f].cqs = []
  others : ∀ g : Fin 4, g ≠ f → t.fns[g].sqs = s.fns[g].sqs ∧ t.fns[g].cqs = s.fns[g].cqs
  gets : ∀ x : Fld, x.flrKept f → t.get x = s.get x

theorem ready_settleKept (f : Fin 4) : (F.HST_FN_STAT_READY f.val).settleKept := by revert f; decide

theorem FlrDone.signals {f : Fin 4} {s t u : State} (h : FlrDone f s t) (sig : Signals [] t u) : FlrDone f s u where
  insts := (sig.same .insts rfl).trans h.insts
  frame := h.frame.trans (.ofMask sig.same (by decide))
  chip := sig.chipCore.trans h.chip
  ready := (sig.gets _ (ready_settleKept f).1 (by simp)).trans h.ready
  rings := by rw [sig.fns f]; exact h.rings
  others g hg := by rw [sig.fns g]; exact h.others g hg
  gets x hx := by
    obtain ⟨⟨unsignalled, _⟩, _⟩ := id hx
    exact (sig.gets x unsignalled (by simp)).trans (h.gets x hx)

theorem FlrDone.settles {f : Fin 4} {s t u : State} (h : FlrDone f s t) (hs : Settles t u) (view : settleView u = settleView t) :
    FlrDone f s u := by
  have gets (x : Fld) (hx : x.settleKept) : u.get x = t.get x := congrFun (congrArg Prod.snd view) ⟨x, hx⟩
  exact {
    insts := hs.insts.trans h.insts
    frame := h.frame.trans hs.frame
    chip := (congrArg Prod.fst view).trans h.chip
    ready := (gets _ (ready_settleKept f)).trans h.ready
    rings := by rw [hs.fns f]; exact h.rings
    others := fun g hg => by rw [hs.fns g]; exact h.others g hg
    gets := fun x hx => (gets x hx.1).trans (h.gets x hx) }

theorem Post.disownAll_none {f : Fin 4} {s : State} {Q : Unit → State → Prop} (hi : s.insts = [])
    (q : ∀ t, t.insts = [] → SameBut [.seqRegs, .insts, .seqs] s t → Q () t) : Act.Post (disownAll f) s Q := by
  refine Post.andTouches (L := 144119586122366980) (Post.mono (R := fun _ t => Same 144119586122366980 s t → Q () t) ?_ fun _ _ h => h)
    (disownAll_touches f rfl)
  unfold Machine.disownAll
  refine Post.rdThen (Post.bind (Post.touches (Touches.addStop (L := 2 ^ Part.seqRegs.idx) (p := .seqRegs) rfl rfl) fun _ u hu => Post.emitThen
    (Post.bind (Post.touches (showThreads_touches (L := 2 ^ Part.seqRegs.idx) rfl) fun _ v hv => Post.emit fun same =>
      q _ ?_ (.ofMask same (by decide))))))
  have none : v.insts = [] := (hv .insts rfl).trans ((hu .insts rfl).trans hi)
  simp [Eff.apply, none]

theorem Post.resetFields {l : List Fld} (hl : ∀ x ∈ l, x.window = .hstRegs) {s : State} {Q : Unit → State → Prop}
    (q : ∀ t, SameBut [.hstRegs] s t → (∀ x : Fld, x.key ∉ l.map Fld.key → t.get x = s.get x) → Q () t) :
    Act.Post (forAll l fun x => Machine.setF x x.rst) s Q := by
  induction l generalizing s with
  | nil => exact Post.pure (q s (.refl _ s) fun _ _ => rfl)
  | cons y l ih =>
    refine Post.setThen (ih (fun x hx => hl x (List.mem_cons_of_mem _ hx)) fun t frame gets => q t ?_ fun x hx => ?_)
    · exact ((SameBut.refl _ s).put (by rw [hl y List.mem_cons_self]; exact List.mem_cons_self)).trans frame
    · rw [List.map_cons, List.mem_cons, not_or] at hx
      exact (gets x hx.2).trans (State.get_put_ne s _ hx.1)

theorem hstFnFields_window (f : Fin 4) : ∀ x ∈ hstFnFields f.val, x.window = .hstRegs := by revert f; decide

/-- The state once the rings and registers of a function have been reset, seen from before. -/
theorem FlrDone.ofRegisters {f : Fin 4} {g : HostFn → HostFn} {s u v : State} (none : u.insts = []) (hu : SameBut [.seqRegs, .insts, .seqs] s u)
    (hv : SameBut [.hstRegs] ((((Eff.fn f fun h => { h with sqs := [], cqs := [] }).apply u).put (F.HST_FN_CTL_ENABLE f.val) 0).put
      (F.HST_FN_STAT_READY f.val) 0) v)
    (gets : ∀ x : Fld, x.key ∉ (hstFnFields f.val).map Fld.key → v.get x =
      ((((Eff.fn f fun h => { h with sqs := [], cqs := [] }).apply u).put (F.HST_FN_CTL_ENABLE f.val) 0).put (F.HST_FN_STAT_READY f.val) 0).get x)
    (hg : ∀ h, (g h).sqs = h.sqs ∧ (g h).cqs = h.cqs) : FlrDone f s ((Eff.fn f g).apply v) where
  insts := (hv .insts (by decide)).trans none
  frame := by
    have fns := (hu.mono (m := settleParts) (by decide)).eff (e := .fn f fun h => { h with sqs := [], cqs := [] }) rfl
      (by simp [Eff.part, settleParts, eventParts])
    have regs := (fns.put (f := F.HST_FN_CTL_ENABLE f.val) (v := 0) (by simp [settleParts, eventParts])).put (f := F.HST_FN_STAT_READY f.val)
      (v := 0) (by simp [settleParts, eventParts])
    exact (regs.trans (hv.mono (by decide))).eff rfl (by simp [Eff.part, settleParts, eventParts])
  chip := by
    have chip : ((Eff.fn f g).apply v).chip = s.chip := (hv .chip (by decide)).trans (hu .chip (by decide))
    simp only [State.chipCore, chip]
  ready := by
    have apart : ∀ f : Fin 4, (F.HST_FN_STAT_READY f.val).key ∉ (hstFnFields f.val).map Fld.key := by decide
    exact (gets _ (apart f)).trans (State.get_put_self _ _ _)
  rings := by
    have rings : v.fns[f] = { u.fns[f] with sqs := [], cqs := [] } := by
      rw [show v.fns = ((Eff.fn f fun h => { h with sqs := [], cqs := [] }).apply u).fns from hv .fns (by decide)]
      exact apply_fn_self ..
    rw [apply_fn_self, (hg _).1, (hg _).2, rings]
    exact ⟨rfl, rfl⟩
  others := fun j hj => by
    have rings : v.fns[j] = s.fns[j] := by
      rw [show v.fns = ((Eff.fn f fun h => { h with sqs := [], cqs := [] }).apply u).fns from hv .fns (by decide),
        ← show u.fns = s.fns from hu .fns (by decide)]
      exact apply_fn_ne _ u hj.symm
    rw [apply_fn_ne _ _ hj.symm, rings]
    exact ⟨rfl, rfl⟩
  gets := fun x ⟨_, seq, keys⟩ => by
    simp only [flrKeys, List.map_cons, List.mem_cons, not_or] at keys
    obtain ⟨enable, ready, fields⟩ := keys
    refine (gets x fields).trans ((State.get_put_ne _ _ ready).trans ((State.get_put_ne _ _ enable).trans ?_))
    refine Part.same_get (hu x.window fun mem => ?_) x.window_idx_lt rfl
    have bound := x.window_idx_lt
    simp only [List.mem_cons, List.not_mem_nil, or_false] at mem
    obtain e | e | e := mem
    · exact seq e
    · rw [e] at bound; exact absurd bound (by decide)
    · rw [e] at bound; exact absurd bound (by decide)

theorem Post.flrFunction {f : Fin 4} {s : State} {Q : Unit → State → Prop} (hi : s.insts = []) (q : ∀ t, FlrDone f s t → Q () t) :
    Act.Post (flrFunction f) s Q := by
  have signal (t : State) (ht : FlrDone f s t) : Act.Post (do
      Machine.attend none
      Machine.settle) t Q :=
    Post.bind (Post.attend fun u sig _ => Post.settle_idle (ht.signals sig).insts fun v hv view => q v ((ht.signals sig).settles hv view))
  unfold Machine.flrFunction Machine.stopFunction
  refine Post.bind (Post.bind (Post.disownAll_none hi fun u none hu => Post.emitThen (Post.setThen (Post.setF
    (Post.bind (Post.resetFields (hstFnFields_window f) fun v hv gets => Post.emitThen ?_))))))
  have reset := FlrDone.ofRegisters (g := fun h => { h with d3 := false, masked := List.range 65, pending := [], fnMask := false, pendLevel := 0,
                                                            table := [] }) none hu hv gets fun _ => ⟨rfl, rfl⟩
  refine Post.ite (fun _ => Post.rdThen (Post.emitThen (signal _ ?_))) fun _ => signal _ reset
  exact ⟨reset.insts, reset.frame.eff rfl (by simp [Eff.part, settleParts, eventParts]), reset.chip, reset.ready, reset.rings, reset.others, reset.gets⟩

end Sys2Proof.Machine
end

section
/-! A port that fails or is held down: its link and both its functions (R423, R432). -/

namespace Sys2Proof.Machine

/-! ### Both functions of a port are reset -/

/-- The Data function of a port. -/
def dataOf (p : Fin 2) : Fin 4 := ⟨2 * p.val + 1, by omega⟩

theorem portOf_eq_iff (p : Fin 2) (f : Fin 4) : portOf f = p ↔ f = adminOf p ∨ f = dataOf p := by revert p f; decide

theorem adminOf_ne_dataOf (p : Fin 2) : adminOf p ≠ dataOf p := by revert p; decide

/-- What the reset of both functions of a port leaves while no instruction is in progress (R365, R423). -/
structure PortReset (p : Fin 2) (s t : State) : Prop where
  insts : t.insts = []
  frame : SameBut settleParts s t
  chip : t.chipCore = s.chipCore
  functions : ∀ f : Fin 4, portOf f = p → t.get (F.HST_FN_STAT_READY f.val) = 0 ∧ t.fns[f].sqs = [] ∧ t.fns[f].cqs = []
  gets : ∀ x : Fld, x.flrKept (adminOf p) → x.flrKept (dataOf p) → t.get x = s.get x

theorem Post.flrPort {p : Fin 2} {s : State} {Q : Unit → State → Prop} (hi : s.insts = []) (q : ∀ t, PortReset p s t → Q () t) :
    Act.Post (flrPort p) s Q := by
  unfold Machine.flrPort
  refine Post.bind (Post.flrFunction hi fun u admin => Post.flrFunction admin.insts fun t data => q t ?_)
  have kept : ∀ p : Fin 2, (F.HST_FN_STAT_READY (adminOf p).val).flrKept (dataOf p) := by decide
  refine ⟨data.insts, admin.frame.trans data.frame, data.chip.trans admin.chip, fun f hf => ?_, fun x ha hd => (data.gets x hd).trans (admin.gets x ha)⟩
  obtain rfl | rfl := (portOf_eq_iff p f).mp hf
  · obtain ⟨sqs, cqs⟩ := data.others (adminOf p) (adminOf_ne_dataOf p)
    exact ⟨(data.gets _ (kept p)).trans admin.ready, sqs.trans admin.rings.1, cqs.trans admin.rings.2⟩
  · exact ⟨data.ready, data.rings⟩

/-- The link state that a function's registers show is not the reset's to change. -/
theorem link_flrKept (f g : Fin 4) : (F.HST_LINK_STAT_SPEED f.val).flrKept g ∧ (F.HST_LINK_STAT_WIDTH f.val).flrKept g := by
  revert f g; decide

theorem PortReset.linkUp {p : Fin 2} {s t : State} (h : PortReset p s t) (q : Fin 2) : t.linkUp q = s.linkUp q := by
  unfold State.linkUp
  rw [h.gets _ (link_flrKept _ _).1 (link_flrKept _ _).1]

/-! ### PERST_N -/

/-- PERST_N holds the port's link down and resets its functions (R423). -/
theorem exec_perstNAsserted_resets {s : State} {p : Fin 2} (hi : s.insts = []) :
    ∃ t, exec (.perstNAsserted p) s = .next t ∧ SameBut settleParts s t ∧ t.chip.pins.perst[p] = true ∧ t.linkUp p = false ∧
      ∀ f : Fin 4, portOf f = p → t.get (F.HST_FN_STAT_READY f.val) = 0 ∧ t.fns[f].sqs = [] ∧ t.fns[f].cqs = [] ∧
        t.get (F.HST_LINK_STAT_WIDTH f.val) = 0 := by
  refine Post.answer (Post.emitThen (Post.bind (Post.setLink (Post.flrPort hi fun t reset => ⟨?_, ?_, ?_, fun f hf => ?_⟩))))
  · exact (((SameBut.chip _ s).mono (by decide)).trans ((State.linked_frame _ p 0 0 0).mono (by decide))).trans reset.frame
  · have perst : t.chipCore.pins.perst = s.chip.pins.perst.set p true := by rw [reset.chip]; rfl
    exact (congrArg (fun v : Vector Bool 2 => v[p]) perst).trans (by simp)
  · rw [reset.linkUp, State.linked_up]
    rfl
  · obtain ⟨ready, sqs, cqs⟩ := reset.functions f hf
    obtain ⟨_, width, _⟩ := State.linked_get _ hf 0 0 0
    exact ⟨ready, sqs, cqs, (reset.gets _ (link_flrKept _ _).2 (link_flrKept _ _).2).trans width⟩

/-- Its release is only recorded while the part is not in RETENTION (R30). -/
theorem exec_perstNReleased_records {s : State} {p : Fin 2} (hm : s.mode ≠ mRETENTION) :
    ∃ t, exec (.perstNReleased p) s = .next t ∧ SameBut [.chip] s t ∧
      t.chip = { s.chip with pins := { s.chip.pins with perst := s.chip.pins.perst.set p false } } :=
  Post.answer (Post.emitThen (Post.ifFalse (fun h => hm h.1) (Post.pure ⟨SameBut.chip _ s, rfl⟩)))

/-! ### The wake from RETENTION -/

theorem lookup_filter_key {l : List (Nat × Nat)} {keep : Nat → Bool} {k : Nat} (h : keep k = true) :
    (l.filter fun x => keep x.1).lookup k = l.lookup k := by
  induction l with
  | nil => rfl
  | cons x l ih =>
    obtain ⟨j, v⟩ := x
    by_cases e : k = j
    · subst e
      simp [h]
    · have apart : (k == j) = false := by simpa using e
      rw [List.filter_cons]
      split <;> simp only [List.lookup_cons, apart, ih]

/-- A reset keeps the registers that it names (R531). -/
theorem State.hardReset_get_kept {keep : Nat → Bool} {f : Fld} (h : keep f.key = true) (s : State) : (s.hardReset keep).get f = s.get f := by
  unfold State.get State.hardReset tabGet
  rw [lookup_filter_key h]

/-- What the boot sequencer keeps while it plans the steps and records the start: where the start stands, and why it began. -/
def startView (s : State) : Bool × Nat × Nat × Nat := (s.boot.running, s.boot.step, s.boot.cause, s.get F.SEC_BOOT_STAT_STEP)

theorem startView_put {f : Fld} (h : F.SEC_BOOT_STAT_STEP.key ≠ f.key) (s : State) (v : Nat) : startView (s.put f v) = startView s := by
  unfold startView
  rw [State.get_put_ne _ _ h]
  rfl

theorem decide511_keeps_start (first : Nat) : Keeps startView (decide511 first) := .bind .rd fun _ => .emit fun _ => rfl

theorem showSlots_keeps_start : Keeps startView showSlots :=
  .bind .rd fun _ => .bind (.setF fun s => startView_put (by decide) s _) fun _ => .bind (.setF fun s => startView_put (by decide) s _) fun _ =>
    .setF fun s => startView_put (by decide) s _

theorem appendStart_keeps_start : Keeps startView appendStart :=
  .bind .rd fun _ => .bind (.emit fun _ => rfl) fun _ => .bind (.emit fun _ => rfl) fun _ =>
    .bind (.setF fun s => startView_put (by decide) s _) fun _ => .bind (.setF fun s => startView_put (by decide) s _) fun _ => showSlots_keeps_start

/-- What a wake from RETENTION leaves (R30, R452, R512): BRINGUP at step 13, with the pins, the discs and context memory as they were. -/
structure Woken (cause : Nat) (s t : State) : Prop where
  mode : t.mode = mBRINGUP
  prev : t.get F.DEV_MODE_STAT_PREV_MODE = s.mode % 16
  shown : t.get F.DEV_MODE_STAT_CAUSE = cause
  transition : t.get F.DEV_MODE_STAT_TRANSITION = 1
  start : startView t = (true, 13, 4, 13)
  waking : t.chip.waking = true
  perst : t.chip.pins.perst = s.chip.pins.perst
  insts : t.insts = []
  otp : t.otp = s.otp
  discs : t.discs = s.discs
  volumes : t.volumes = s.volumes
  mem : ∀ a, memRead t.dram.mem a = memRead s.dram.mem a

/-- The state in which a wake changes its mode. -/
def State.waken (s : State) : State :=
  let u := (Eff.wakeReset wakeKeeps).apply s
  let u := (Eff.boot fun _ => { running := true, step := 13, stepAt := s.now, cause := 4, slot := s.boot.slot, pkg := s.boot.pkg
                                tried := s.boot.slot, policyAlt := s.boot.policyAlt
                                entries := (List.range 12).map (fun k => ⟨k + 1, 0, 0, 0, 0, 0xFFFF, 0⟩) }).apply u
  let u := (Eff.chip fun c => { c with waking := true, pins := { c.pins with slathLocked := true } }).apply u
  let u := (Eff.dram fun d => { d with temps := s.dram.temps, swept := s.dram.swept, selfRefresh := true }).apply u
  ((((u.put F.CCH_STAT_INIT_DONE 1).put F.CCH_STAT_BYPASS 1).put F.SEC_BOOT_STAT_STEP 13).put F.SEC_BOOT_STAT_CAUSE 4).put F.DEV_MODE_STAT_TRANSITION 1

theorem State.waken_mode (s : State) : s.waken.mode = s.mode := by
  unfold State.mode State.waken
  simp (disch := decide) only [State.get_put_ne]
  exact State.hardReset_get_kept (by decide) s

theorem State.waken_start (s : State) : startView s.waken = (true, 13, 4, 13) := by
  unfold startView State.waken
  simp (disch := decide) only [State.get_put_ne, State.get_put_self]
  rfl

theorem State.waken_chip (s : State) : s.waken.chip = { pins := { s.chip.pins with slathLocked := true }, waking := true } := by
  simp only [State.waken, put_frame, apply_dram_frame]
  rfl

theorem State.waken_rest (s : State) : s.waken.insts = [] ∧ s.waken.otp = s.otp ∧ s.waken.discs = s.discs ∧ s.waken.volumes = s.volumes ∧
    s.waken.dram.mem = s.dram.mem := by
  simp only [State.waken, put_frame, apply_dram_frame, apply_chip_frame, apply_boot_frame]
  exact ⟨rfl, rfl, rfl, rfl, rfl⟩

theorem Post.wakePart {cause : Nat} {s : State} {Q : Unit → State → Prop} (hc : cause < 256) (q : ∀ t, Woken cause s t → Q () t) :
    Act.Post (wakePart cause) s Q := by
  unfold Machine.wakePart
  refine Post.rdThen ?_
  iterate 4 refine Post.emitThen ?_
  iterate 5 refine Post.setThen ?_
  refine Post.bind (Post.changeMode (s := s.waken) (by decide) hc fun u ⟨mode, prev, shown, _⟩ dev chip _ same gets => ?_)
  refine Post.andKeeps (Post.touches ((decide511_touches 13 rfl).bind fun _ => appendStart_touches (L := 402653312) rfl) fun _ t ht start => q t ?_)
    ((decide511_keeps_start 13).bind fun _ => appendStart_keeps_start)
  have began : startView u = startView s.waken := by
    unfold startView
    rw [show u.boot = s.waken.boot from same .boot rfl, gets F.SEC_BOOT_STAT_STEP (by decide) (by decide) (by decide)]
  have chip : t.chip = _ := (ht .chip rfl).trans chip
  rw [s.waken_chip] at chip
  obtain ⟨insts, otp, discs, volumes, mem⟩ := s.waken_rest
  exact {
    mode := (ht .devRegs rfl _ rfl).trans mode
    prev := by rw [ht .devRegs rfl _ rfl, prev, s.waken_mode]
    shown := (ht .devRegs rfl _ rfl).trans shown
    transition := (ht .devRegs rfl _ rfl).trans ((dev _ (by decide) (by decide)).trans (State.get_put_self _ _ _))
    start := start.trans (began.trans s.waken_start)
    waking := by rw [chip]
    perst := by rw [chip]
    insts := (ht .insts rfl).trans ((same .insts rfl).trans insts)
    otp := (ht .otp rfl).trans ((same .otp rfl).trans otp)
    discs := (ht .discs rfl).trans ((same .discs rfl).trans discs)
    volumes := (ht .volumes rfl).trans ((same .volumes rfl).trans volumes)
    mem := fun a => (ht .mem rfl a).trans ((same .mem rfl a).trans (by rw [mem])) }

/-- In RETENTION its release wakes the part (R30, R423). -/
theorem exec_perstNReleased_wakes {s : State} {p : Fin 2} (hm : s.mode = mRETENTION) (hp : s.chip.pins.perst[p] = true) :
    ∃ t, exec (.perstNReleased p) s = .next t ∧ t.mode = mBRINGUP ∧ t.get F.DEV_MODE_STAT_PREV_MODE = mRETENTION ∧
      t.get F.DEV_MODE_STAT_CAUSE = 0xA ∧ t.get F.DEV_MODE_STAT_TRANSITION = 1 ∧ t.boot.running = true ∧ t.boot.step = 13 ∧ t.boot.cause = 4 ∧
      t.get F.SEC_BOOT_STAT_STEP = 13 ∧ t.chip.waking = true ∧ t.chip.pins.perst[p] = false ∧ t.insts = [] ∧ t.otp = s.otp ∧
      t.discs = s.discs ∧ t.volumes = s.volumes ∧ ∀ a, memRead t.dram.mem a = memRead s.dram.mem a := by
  refine Post.answer (Post.emitThen (Post.ifTrue ⟨hm, hp⟩ (Post.wakePart (by decide) fun t h => ?_)))
  obtain ⟨mode, prev, shown, transition, start, waking, perst, insts, otp, discs, volumes, mem⟩ := h
  simp only [startView, Prod.mk.injEq] at start
  obtain ⟨running, step, cause, stepShown⟩ := start
  refine ⟨mode, prev.trans ?_, shown, transition, running, step, cause, stepShown, waking, ?_, insts, otp, discs, volumes, mem⟩
  · exact congrArg (· % 16) hm
  · exact (congrArg (fun v : Vector Bool 2 => v[p]) perst).trans (by simp [Eff.apply])

end Sys2Proof.Machine
end

section
/-! A link that trains (R421, R438). -/

namespace Sys2Proof.Machine

/-! ### Raising events while a port shows its link -/

/-- What holds of each of several predicates that stay true. -/
theorem Post.andAll {α ι : Type} {P : ι → State → Prop} {m : Act α} {s : State} {Q : α → State → Prop}
    (h : Act.Post m s fun a t => (∀ i, P i s → P i t) → Q a t) (hs : ∀ i, Stays (P i) m) : Act.Post m s Q := by
  obtain ⟨a, t, r, q⟩ := h
  refine ⟨a, t, r, q fun i => ?_⟩
  obtain ⟨b, u, r', stays⟩ := hs i s
  obtain rfl := Runs.det r r'
  exact stays

/-- The functions of a port show a link that is up at this speed and width, in L0. -/
def State.showsLink (s : State) (p : Fin 2) (speed width : Nat) : Prop := ∀ f : Fin 4, portOf f = p →
  s.get (F.HST_LINK_STAT_SPEED f.val) = speed ∧ s.get (F.HST_LINK_STAT_WIDTH f.val) = width ∧ s.inL0 f

theorem LinkField.speedOf (f : Fin 4) : LinkField (F.HST_LINK_STAT_SPEED f.val) where
  window := F.HST_LINK_STAT_SPEED_window _
  apart := by revert f; decide

theorem LinkField.widthOf (f : Fin 4) : LinkField (F.HST_LINK_STAT_WIDTH f.val) where
  window := F.HST_LINK_STAT_WIDTH_window _
  apart := by revert f; decide

theorem State.showsLink.signals {p : Fin 2} {speed width n : Nat} {s t : State} (h : s.showsLink p speed width)
    (sig : Signals [(F.EVT_COUNT_CNT n).key] s t) (l0 : ∀ f, s.inL0 f → t.inL0 f) : t.showsLink p speed width := by
  intro f hf
  obtain ⟨hs, hw, hp⟩ := h f hf
  exact ⟨((LinkField.speedOf f).signals sig).trans hs, ((LinkField.widthOf f).signals sig).trans hw, l0 f hp⟩

/-- Raising an event leaves the link that a port shows. -/
theorem Post.raiseLinked {n sub inst detail : Nat} {p : Fin 2} {speed width : Nat} {s : State} {Q : Unit → State → Prop}
    (h : s.showsLink p speed width)
    (q : ∀ t, Raised n sub inst detail s t → Signals [(F.EVT_COUNT_CNT n).key] s t → t.showsLink p speed width → Q () t) :
    Act.Post (Machine.raise n sub inst detail) s Q :=
  Post.andAll (P := fun f s => s.inL0 f) (Post.raise fun t raised sig l0 => q t raised sig (h.signals sig l0)) fun f => raise_stays f _ _ _ _

theorem Post.attendLinked {r : Option EventRec} {p : Fin 2} {speed width : Nat} {s : State} {Q : Unit → State → Prop}
    (h : s.showsLink p speed width)
    (q : ∀ t, Signals [] s t → t.evq = s.evq → t.now = s.now → t.showsLink p speed width → Q () t) : Act.Post (Machine.attend r) s Q := by
  refine Post.andAll (P := fun f s => s.inL0 f) (Post.clock (Post.attend fun t sig evq _ now l0 => ?_)) fun f => attend_stays f r
  exact q t sig evq now (h.signals (sig.mono (L := [(F.EVT_COUNT_CNT 0).key]) (by simp)) l0)

/-! ### HST_LINK_UP -/

/-- A port trains at a speed that R421 knows. -/
theorem State.trains (s : State) (p : Fin 2) {speed : Nat} (h : 1 ≤ speed) (h' : speed ≤ 5) :
    1 ≤ min speed (s.linkLimit p) ∧ min speed (s.linkLimit p) ≤ 5 ∧ (¬ min speed (s.linkLimit p) < 5 → min speed (s.linkLimit p) = speed) := by
  have limit : s.linkLimit p = 4 ∨ s.linkLimit p = 5 := by
    unfold State.linkLimit
    split
    · exact .inl rfl
    · exact .inr rfl
  omega

/-- The state once a port shows the link that has trained, and serves again. -/
def State.trained (s : State) (p : Fin 2) (speed width : Nat) : State :=
  (Eff.chip fun c => { c with degraded := c.degraded.filter (· != .port p.val) }).apply
    ((Eff.chip fun c => { c with l2Ready := c.l2Ready.set p false }).apply (s.linked p speed width 0))

theorem State.trained_frame (s : State) (p : Fin 2) (speed width : Nat) : SameBut [.hstRegs, .chip] s (s.trained p speed width) :=
  ((s.linked_frame p speed width 0).mono (by decide)).trans (((SameBut.chip _ _).trans (SameBut.chip _ _)).mono (by decide))

theorem State.trained_shows (s : State) (p : Fin 2) {speed width : Nat} (hs : speed < 16) (hw : width < 32) :
    (s.trained p speed width).showsLink p speed width := by
  intro f hf
  obtain ⟨sp, w, ps⟩ := s.linked_get hf speed width 0
  exact ⟨sp.trans (Nat.mod_eq_of_lt hs), w.trans (Nat.mod_eq_of_lt hw), ps⟩

theorem State.linked_chip (s : State) (p : Fin 2) (speed width pstate : Nat) : (s.linked p speed width pstate).chip = s.chip :=
  s.linked_frame p speed width pstate .chip (by decide)

theorem State.trained_chip (s : State) (p : Fin 2) (speed width : Nat) : (s.trained p speed width).chip =
    { s.chip with l2Ready := s.chip.l2Ready.set p false, degraded := s.chip.degraded.filter (· != .port p.val) } := by
  rw [← s.linked_chip p speed width 0]
  rfl

/-- A port that has trained: it serves, its registers show the link, and HST_LINK_UP has been raised (R421). -/
structure PortTrained (p : Fin 2) (speed width : Nat) (s t : State) : Prop where
  chip : t.chipCore = (s.trained p speed width).chipCore
  shows : t.showsLink p speed width
  raised : Raised (Ev.port p.val hLINK_UP) 0 0 (speed + 2 ^ 32 * width) s t
  degraded : t.get (F.EVT_COUNT_CNT (Ev.port p.val hLINK_DEGRADED)) = s.get (F.EVT_COUNT_CNT (Ev.port p.val hLINK_DEGRADED))

theorem State.trained_serves {p : Fin 2} {speed width : Nat} {s t : State} (h : t.chipCore = (s.trained p speed width).chipCore) :
    t.chip.l2Ready[p] = false ∧ t.chip.degraded.contains (.port p.val) = false := by
  have ready : t.chipCore.l2Ready = s.chip.l2Ready.set p false := by rw [h, State.chipCore, s.trained_chip]
  have degraded : t.chipCore.degraded = s.chip.degraded.filter (· != .port p.val) := by rw [h, State.chipCore, s.trained_chip]
  exact ⟨(congrArg (fun v : Vector Bool 2 => v[p]) ready).trans (by simp), (congrArg (·.contains (.port p.val)) degraded).trans (by simp)⟩

theorem port_events_apart (p : Fin 2) : Ev.port p.val hLINK_UP % 512 ≠ Ev.port p.val hLINK_DEGRADED % 512 := by revert p; decide

theorem Post.trainPort {p : Fin 2} {speed width : Nat} {s : State} {Q : Unit → State → Prop} {m : Act Unit} (hs : speed < 16)
    (hw : width < 32) (q : ∀ t, PortTrained p speed width s t → Act.Post m t Q) :
    Act.Post (do
      Machine.setLink p speed width 0
      Machine.emit (.chip fun c => { c with l2Ready := c.l2Ready.set p false })
      undegrade (.port p.val)
      Machine.raise (Ev.port p.val hLINK_UP) 0 0 (speed + 2 ^ 32 * width)
      m) s Q := by
  have shown := s.trained_shows p hs hw
  have before := s.trained_frame p speed width
  refine Post.bind (Post.setLink (Post.emitThen (Post.bind (Post.emitThen (Post.attendLinked shown fun u sig evq now shown => Post.bind
    (Post.raiseLinked shown fun t raised sig' shown => q t ?_))))))
  have counts (n : Nat) : u.get (F.EVT_COUNT_CNT n) = s.get (F.EVT_COUNT_CNT n) :=
    (sig.gets _ (count_ne_signal n) (by simp)).trans (before .evtRegs (by decide) _ (F.EVT_COUNT_CNT_window n))
  refine ⟨sig'.chipCore.trans sig.chipCore, shown, ?_, ?_⟩
  · exact raised.from (counts _) (evq.trans (before .evq (by decide))) now ((sig.same .nv rfl).trans (before .nv (by decide)))
      ((sig.same .life rfl).trans (before .life (by decide)))
  · exact (sig'.gets _ (count_ne_signal _) (by simpa using count_key _ _ (port_events_apart p).symm)).trans (counts _)

theorem exec_hstLinkUp_trains {s : State} {p : Fin 2} {speed width : Nat} (hp : s.chip.pins.perst[p] = false) (hm : linkMode s.mode = true)
    (h1 : 1 ≤ speed) (h5 : speed ≤ 5) (hw : width = 1 ∨ width = 2 ∨ width = 4) :
    ∃ t, exec (.hstLinkUp p speed width) s = .next t ∧ SameBut eventParts s t ∧ t.chip.l2Ready[p] = false ∧
      t.chip.degraded.contains (.port p.val) = false ∧
      (∀ f : Fin 4, portOf f = p → t.get (F.HST_LINK_STAT_SPEED f.val) = min speed (s.linkLimit p) ∧ t.get (F.HST_LINK_STAT_WIDTH f.val) = width ∧
        t.get (F.HST_LINK_STAT_PSTATE f.val) = 0) ∧
      Counted (Ev.port p.val hLINK_UP) s t ∧
      if min speed (s.linkLimit p) < 5 ∨ width < 4 then Counted (Ev.port p.val hLINK_DEGRADED) s t
      else Raised (Ev.port p.val hLINK_UP) 0 0 (speed + 2 ^ 32 * width) s t := by
  obtain ⟨low, high, full⟩ := s.trains p h1 h5
  refine frame_and_mask (execHstLinkUp_touches p speed width s) (Post.answer (Post.ifTrue ⟨hp, hm, low, high, hw⟩ ?_)) (by decide)
  refine Post.trainPort (by omega) (by omega) fun u ⟨chip, shows, raised, degraded⟩ => Post.ite (fun slow => ?_) fun fast => Post.pure ?_
  · refine Post.raiseLinked shows fun t again sig shows => ?_
    obtain ⟨ready, serves⟩ := State.trained_serves (sig.chipCore.trans chip)
    refine ⟨ready, serves, shows, ?_, ?_⟩
    · exact raised.1.of (sig.gets _ (count_ne_signal _) (by simpa using count_key _ _ (port_events_apart p)))
    · rw [if_pos slow]
      exact again.1.after degraded
  · obtain ⟨ready, serves⟩ := State.trained_serves chip
    refine ⟨ready, serves, shows, raised.1, ?_⟩
    rw [if_neg fast, ← full fun h => fast (.inl h)]
    exact raised

/-- A link that PERST_N holds down does not train (R423). -/
theorem exec_hstLinkUp_held {s : State} {p : Fin 2} {speed width : Nat} (hp : s.chip.pins.perst[p] = true) :
    exec (.hstLinkUp p speed width) s = .next s := by
  refine Runs.answer ?_
  simp only [hp, Bool.true_eq_false, false_and, if_false]
  exact Runs.pure () s

end Sys2Proof.Machine
end

section
/-! A port that fails, and a port that sleeps (R40, R432 to R435, R545). -/

namespace Sys2Proof.Machine

/-! ### A single fault that is over at once -/

/-- The faults in recovery and the elements that have failed. -/
def State.faults (s : State) : List SingleFault × List Degraded := (s.chip.recovering, s.chip.degraded)

theorem State.faults_chip (g : Chip → Chip) (s : State) : ((Eff.chip g).apply s).faults = ((g s.chip).recovering, (g s.chip).degraded) := rfl

theorem Signals.faults {K : List Nat} {s t : State} (h : Signals K s t) : t.faults = s.faults := by
  unfold State.faults
  rw [h.chip]

/-- The first fault in recovery leaves the part in its mode (R545). -/
theorem Post.beginSingle {d : SingleFault} {s : State} {Q : Unit → State → Prop} (h : s.chip.recovering = [])
    (q : ∀ t, Signals [(F.EVT_COUNT_CNT Ev.SINGLE_FAULT_BEGIN).key]
      ((Eff.chip fun c => { c with recovering := c.recovering ++ [d] }).apply s) t → Q () t) : Act.Post (beginSingle d) s Q := by
  unfold Machine.beginSingle
  exact Post.rdThen (Post.emitThen (Post.bind (Post.raise fun t _ sig => Post.ifFalse (by rw [h]; decide) (Post.pure (q t sig)))))

theorem Post.endSingle {d : SingleFault} {s : State} {Q : Unit → State → Prop} (h : s.chip.recovering = [d])
    (q : ∀ t, Signals [(F.EVT_COUNT_CNT Ev.SINGLE_FAULT_END).key]
      ((Eff.chip fun c => { c with recovering := c.recovering.filter (· != d) }).apply s) t → Q () t) : Act.Post (endSingle d) s Q := by
  unfold Machine.endSingle
  refine Post.rdThen (Post.ifTrue (by rw [h]; simp) (Post.emitThen (Post.bind (Post.raise fun u _ sig => Post.attend fun t sig' _ => q t ?_))))
  exact sig.trans (sig'.mono (by simp))

/-! ### HST_LINK_DOWN -/

/-- A port's link is down, and its functions have no rings. -/
def State.portDown (s : State) (p : Fin 2) : Prop :=
  s.linkUp p = false ∧ ∀ f : Fin 4, portOf f = p → s.get (F.HST_FN_STAT_READY f.val) = 0 ∧ s.fns[f].sqs = [] ∧ s.fns[f].cqs = []

theorem LinkField.readyOf (f : Fin 4) : LinkField (F.HST_FN_STAT_READY f.val) where
  window := F.HST_FN_STAT_READY_window _
  apart := by revert f; decide

theorem State.portDown.signals {p : Fin 2} {n : Nat} {s t : State} (h : s.portDown p) (sig : Signals [(F.EVT_COUNT_CNT n).key] s t) :
    t.portDown p := by
  obtain ⟨down, functions⟩ := h
  refine ⟨?_, fun f hf => ?_⟩
  · unfold State.linkUp at down ⊢
    rwa [(LinkField.speed p).signals sig]
  · rw [(LinkField.readyOf f).signals sig, sig.fns f]
    exact functions f hf

/-- Raising another event keeps the count of an event. -/
theorem Signals.count {n k : Nat} {s t : State} (h : Signals [(F.EVT_COUNT_CNT k).key] s t) (ne : n % 512 ≠ k % 512) : countOf n t = countOf n s :=
  h.gets _ (count_ne_signal n) (by simpa using count_key _ _ ne)

/-- The count of HST_LINK_DOWN is no function's to reset. -/
theorem linkDown_flrKept (p : Fin 2) (f : Fin 4) : (F.EVT_COUNT_CNT (Ev.port p.val hLINK_DOWN)).flrKept f := by revert p f; decide

theorem linkDown_apart (p : Fin 2) : Ev.port p.val hLINK_DOWN % 512 ≠ Ev.SINGLE_FAULT_BEGIN % 512 ∧
    Ev.port p.val hLINK_DOWN % 512 ≠ Ev.SINGLE_FAULT_END % 512 := by revert p; decide

/-- A failed element is recorded as failed. -/
theorem Post.degrade {d : Degraded} {s : State} {Q : Unit → State → Prop}
    (q : ∀ t, Signals [] ((Eff.chip fun c => { c with degraded := if c.degraded.contains d then c.degraded else d :: c.degraded }).apply s) t → Q () t) :
    Act.Post (degrade d) s Q := Post.emitThen (Post.attend fun t sig _ => q t sig)

theorem PortReset.faults {p : Fin 2} {s t : State} (h : PortReset p s t) : t.faults = s.faults := by
  change (t.chipCore.recovering, t.chipCore.degraded) = (s.chipCore.recovering, s.chipCore.degraded)
  rw [h.chip]

/-- The link of a port goes down. -/
theorem Post.clearLink {p : Fin 2} {s : State} {Q : Unit → State → Prop} (q : ∀ t, SameBut [.hstRegs] s t → t.linkUp p = false → Q () t) :
    Act.Post (Machine.setLink p 0 0 0) s Q := Post.setLink (q _ (s.linked_frame p 0 0 0) (s.linked_up p 0 0 0))

/-- A link that fails resets its port's functions, and the fault is over at once (R432, R545). -/
theorem exec_hstLinkDown_fails {s : State} {p : Fin 2} (hu : s.linkUp p = true) (hl : s.chip.l2Ready[p] = false) (hi : s.insts = [])
    (hr : s.chip.recovering = []) :
    ∃ t, exec (.hstLinkDown p) s = .next t ∧ SameBut settleParts s t ∧ t.linkUp p = false ∧ t.chip.degraded.contains (.port p.val) = true ∧
      t.chip.recovering = [] ∧ Counted (Ev.port p.val hLINK_DOWN) s t ∧
      ∀ f : Fin 4, portOf f = p → t.get (F.HST_FN_STAT_READY f.val) = 0 ∧ t.fns[f].sqs = [] ∧ t.fns[f].cqs = [] := by
  obtain ⟨apartBegin, apartEnd⟩ := linkDown_apart p
  refine Post.answer (Post.ifTrue ⟨hu, hl⟩ (Post.bind (Post.beginSingle hr fun a sigA => Post.bind (Post.clearLink
    fun l cleared low => Post.bind (Post.degrade fun b sigB => Post.bind (Post.flrPort ?_ fun c reset =>
    Post.bind (Post.raise fun d raised sigD => ?_)))))))
  · exact (sigB.same .insts rfl).trans ((cleared .insts (by decide)).trans ((sigA.same .insts rfl).trans hi))
  have faultsA : a.faults = ([.port p.val], s.chip.degraded) := by
    rw [sigA.faults, State.faults_chip, hr]
    rfl
  have faultsB : b.faults = ([.port p.val], if s.chip.degraded.contains (.port p.val) then s.chip.degraded else .port p.val :: s.chip.degraded) := by
    obtain ⟨recovering, degraded⟩ := Prod.mk.inj faultsA
    rw [sigB.faults, State.faults_chip, show l.chip = a.chip from cleared .chip (by decide), recovering, degraded]
  have faultsD := sigD.faults.trans (reset.faults.trans faultsB)
  have frameB : SameBut settleParts s b := ((((SameBut.chip _ s).mono (by decide)).trans (.ofMask sigA.same (by decide))).trans
    (cleared.mono (by decide))).trans (((SameBut.chip _ _).mono (by decide)).trans (.ofMask sigB.same (by decide)))
  have frame : SameBut settleParts s d := (frameB.trans reset.frame).trans (.ofMask sigD.same (by decide))
  have downB : b.linkUp p = false := by
    unfold State.linkUp
    rw [sigB.gets _ (LinkField.speed p).apart (by simp)]
    exact low
  have down : d.portDown p := State.portDown.signals ⟨(reset.linkUp p).trans downB, reset.functions⟩ sigD
  have countB : countOf (Ev.port p.val hLINK_DOWN) b = countOf (Ev.port p.val hLINK_DOWN) s :=
    ((sigB.gets _ (count_ne_signal _) (by simp)).trans (cleared .evtRegs (by decide) _ (F.EVT_COUNT_CNT_window _))).trans
      (sigA.count apartBegin)
  have counted : Counted (Ev.port p.val hLINK_DOWN) s d :=
    raised.1.after ((reset.gets _ (linkDown_flrKept p _) (linkDown_flrKept p _)).trans countB)
  obtain ⟨recovering, degraded⟩ := Prod.mk.inj faultsD
  refine Post.endSingle recovering fun t sig => ?_
  have faults : t.faults = ([], d.chip.degraded) := by
    rw [sig.faults, State.faults_chip, recovering]
    simp
  obtain ⟨ended, kept⟩ := Prod.mk.inj faults
  obtain ⟨link, functions⟩ := State.portDown.signals (p := p) (s := (Eff.chip _).apply d) down sig
  refine ⟨?_, link, ?_, ended, counted.of (sig.count apartEnd), functions⟩
  · exact frame.trans (((SameBut.chip _ d).mono (by decide)).trans (.ofMask sig.same (by decide)))
  · rw [kept, degraded]
    split
    · assumption
    · simp

/-! ### PME_TURN_OFF and ASPM_L1_ENTRY -/

/-- A link that is down neither fails nor sleeps. -/
theorem exec_linkDown_ignores {s : State} {p : Fin 2} (hu : s.linkUp p = false) :
    exec (.hstLinkDown p) s = .next s ∧ exec (.pmeTurnOff p) s = .next s := by
  constructor
  all_goals
    refine Runs.answer ?_
    simp only [hu, Bool.false_eq_true, false_and, if_false]
    exact Runs.pure () s

/-- A port takes a power state: the other port's link stands. -/
theorem Post.powerLink {p : Fin 2} {speed width pstate : Nat} {s : State} {Q : Unit → State → Prop}
    (q : ∀ t, SameBut [.hstRegs] s t → (∀ q, q ≠ p → t.linkUp q = s.linkUp q) →
      (∀ f : Fin 4, portOf f = p → t.get (F.HST_LINK_STAT_PSTATE f.val) = pstate % 4) → Q () t) :
    Act.Post (Machine.setLink p speed width pstate) s Q :=
  Post.setLink (q _ (s.linked_frame p _ _ _) (fun _ hq => s.linked_up_other hq _ _ _) fun _ hf => (s.linked_get hf _ _ pstate).2.2)

/-- The state once a port is in L2/L3 Ready: its registers show what they showed, and PSTATE 2 (R434). -/
theorem Post.sleepLink {p : Fin 2} {s : State} {m : Act Unit} {Q : Unit → State → Prop}
    (q : ∀ t, SameBut [.hstRegs, .chip] s t → t.chip = { s.chip with l2Ready := s.chip.l2Ready.set p true } →
      (∀ q, q ≠ p → t.linkUp q = s.linkUp q) → (∀ f : Fin 4, portOf f = p → t.get (F.HST_LINK_STAT_PSTATE f.val) = 2) → Act.Post m t Q) :
    Act.Post (do
      Machine.setLink p (s.get (F.HST_LINK_STAT_SPEED (2 * p.val))) (s.get (F.HST_LINK_STAT_WIDTH (2 * p.val))) 2
      Machine.emit (.chip fun c => { c with l2Ready := c.l2Ready.set p true })
      m) s Q :=
  Post.bind (Post.powerLink fun t frame up asleep => Post.emitThen (q _
    ((frame.mono (by decide)).trans ((SameBut.chip _ t).mono (by decide)))
    (congrArg (fun c : Chip => { c with l2Ready := c.l2Ready.set p true }) (frame .chip (by decide))) up asleep))

/-- Every port is ready but one whose link is up and awake. -/
theorem State.portsReady_iff (s : State) : s.portsReady = true ↔ ∀ q : Fin 2, s.linkUp q = true → s.chip.l2Ready[q] = true := by
  have ports : ∀ q : Fin 2, q ∈ portList := by decide
  simp only [State.portsReady, List.all_eq_true, Bool.or_eq_true, Bool.not_eq_true']
  refine ⟨fun h q up => (h q (ports q)).resolve_left fun down => absurd (down.symm.trans up) Bool.false_ne_true, fun h q _ => ?_⟩
  cases up : s.linkUp q
  · exact .inl rfl
  · exact .inr (h q up)

/-- The other port's link is up and awake: PME_Turn_Off asks for nothing yet (R434). -/
theorem exec_pmeTurnOff_waits {s : State} {p q : Fin 2} (hu : s.linkUp p = true) (hq : q ≠ p) (huq : s.linkUp q = true)
    (hl : s.chip.l2Ready[q] = false) (hr : s.chip.retaining = false) :
    ∃ t, exec (.pmeTurnOff p) s = .next t ∧ SameBut [.hstRegs, .chip] s t ∧ t.chip.l2Ready[p] = true ∧
      ∀ f : Fin 4, portOf f = p → t.get (F.HST_LINK_STAT_PSTATE f.val) = 2 := by
  refine Post.answer (Post.ifTrue hu (Post.sleepLink fun t frame chip up asleep => Post.rdThen (Post.ifFalse ?_ ?_)))
  · rw [chip, hr]
    exact Bool.false_ne_true
  have notReady : ¬ t.portsReady = true := fun h => by
    have ready := t.portsReady_iff.mp h q ((up q hq).trans huq)
    rw [chip] at ready
    have other : s.chip.l2Ready[q] = true := by simpa [Vector.getElem_set, Fin.val_ne_of_ne hq.symm] using ready
    exact absurd (hl.symm.trans other) Bool.false_ne_true
  have done : SameBut [.hstRegs, .chip] s t ∧ t.chip.l2Ready[p] = true ∧
      ∀ f : Fin 4, portOf f = p → t.get (F.HST_LINK_STAT_PSTATE f.val) = 2 := ⟨frame, by rw [chip]; simp, asleep⟩
  exact Post.ite (fun _ => Post.pure done) fun _ => Post.ifFalse notReady (Post.pure done)

/-- Once every port with a link up is in L2/L3 Ready, PME_Turn_Off is a request for DRAIN (R30, R434). -/
theorem exec_pmeTurnOff_drains {s : State} {p : Fin 2} (hu : s.linkUp p = true)
    (ho : s.portsReady = true ∨ ∀ q : Fin 2, q ≠ p → s.linkUp q = false) (hr : s.chip.retaining = false) (hm : s.mode = mIDLE ∨ s.mode = mACTIVE)
    (ht : s.get F.DEV_MODE_STAT_TRANSITION = 0) (h0 : s.get F.DEV_MODE_REQ_TARGET = 0) :
    ∃ t, exec (.pmeTurnOff p) s = .next t ∧ t.mode = mDRAIN ∧ t.get F.DEV_MODE_STAT_PREV_MODE = s.mode ∧ t.get F.DEV_MODE_STAT_CAUSE = 0xC := by
  refine Post.answer (Post.ifTrue hu (Post.sleepLink fun t frame chip up asleep => Post.rdThen (Post.ifFalse ?_ ?_)))
  · rw [chip, hr]
    exact Bool.false_ne_true
  have ready : t.portsReady = true := t.portsReady_iff.mpr fun q huq => by
    rw [chip]
    by_cases e : q = p
    · subst e
      simp
    · have awake := (up q e).symm.trans huq
      rcases ho with h | h
      · simpa [Vector.getElem_set, Fin.val_ne_of_ne (Ne.symm e)] using s.portsReady_iff.mp h q awake
      · exact absurd ((h q e).symm.trans awake) Bool.false_ne_true
  have dev {f : Fld} (hf : f.window = .devRegs) : t.get f = s.get f := frame .devRegs (by decide) f hf
  have mode : t.mode = s.mode := dev rfl
  refine Post.ifFalse (by rw [dev rfl, h0]; decide) (Post.ifTrue ready (Post.ifFalse ?_ (Post.ifTrue ?_ ?_)))
  · rw [State.holdsRequest_settled ((dev rfl).trans ht)]
    exact Bool.false_ne_true
  · rw [mode]
    rcases hm with h | h <;> rw [h] <;> decide
  unfold Machine.takeRequest
  refine Post.rdThen (Post.setThen (Post.emitThen (Post.ifTrue rfl (Post.enterDrain (by decide) fun u entered => ⟨entered.mode, ?_, entered.shown⟩))))
  have before : (t.requested 0 fun c => { c with heldSmb := false }).mode = s.mode := (t.requested_mode 0 _).trans mode
  exact entered.prev.trans ((congrArg (· % 16) before).trans (by rcases hm with h | h <;> rw [h] <;> rfl))

/-- ASPM takes an idle port to L1 (R433). -/
theorem exec_aspmL1Entry_sleeps {s : State} {p : Fin 2} (hu : s.linkUp p = true) (h0 : s.get (F.HST_LINK_STAT_PSTATE (2 * p.val)) = 0)
    (hi : s.insts = []) (hw : ∀ f : Fin 4, portOf f = p → ∀ r ∈ s.fns[f].cqs, r.waiting = []) :
    ∃ t, exec (.aspmL1Entry p) s = .next t ∧ SameBut [.hstRegs] s t ∧
      ∀ f : Fin 4, portOf f = p → t.get (F.HST_LINK_STAT_PSTATE f.val) = 1 := by
  refine Post.answer (Post.ifTrue ⟨hu, h0, ?_, ?_⟩ (Post.powerLink fun _ frame _ asleep => ⟨frame, asleep⟩))
  · rw [hi]
    rfl
  · refine List.all_eq_true.mpr fun f _ => ?_
    by_cases hf : portOf f = p
    · simpa [hf] using hw f hf
    · simp [hf]

/-- Settles O42: one lemma for each command and case. -/
theorem portsTrainFailAndSleep : Obligations.PortsTrainFailAndSleep := by
  unfold Obligations.PortsTrainFailAndSleep
  exact fun s p => ⟨exec_perstNAsserted_resets, exec_perstNReleased_records, exec_perstNReleased_wakes,
    fun _ _ hp hm h1 h5 hw => exec_hstLinkUp_trains hp hm h1 h5 hw, fun _ _ hp => exec_hstLinkUp_held hp, exec_hstLinkDown_fails,
    fun hu => (exec_linkDown_ignores hu).1,
    fun hu => ⟨fun _ hq huq hl hr => exec_pmeTurnOff_waits hu hq huq hl hr, exec_pmeTurnOff_drains hu⟩,
    fun hu => (exec_linkDown_ignores hu).2, exec_aspmL1Entry_sleeps⟩

end Sys2Proof.Machine
end

section
/-! Instructions carried on (R357, R420): how one that waits completes, and what settling leaves once it has. -/

namespace Sys2Proof.Machine

/-! ### Instructions and their rings -/

/-- The instructions in progress and the completion rings. -/
def ringsOf (s : State) : List Inst × (Fin 4 → List ComRing) := (s.insts, fun f => s.fns[f].cqs)

/-- Every part but the instructions and the functions. -/
def allButRings : Nat := 2 ^ 61 - 1 - 2 ^ Part.insts.idx - 2 ^ Part.fns.idx

theorem ringsOf_same {s t : State} (h : Same allButRings s t) : ringsOf t = ringsOf s := by
  have insts : t.insts = s.insts := h .insts rfl
  have fns : t.fns = s.fns := h .fns rfl
  unfold ringsOf
  rw [insts, fns]

theorem ringsOf_signals {K : List Nat} {s t : State} (h : Signals K s t) : ringsOf t = ringsOf s :=
  Prod.ext (h.same .insts rfl) (funext fun f => by
    change t.fns[f].cqs = s.fns[f].cqs
    rw [h.fns f])

theorem State.going.congr {s t : State} {id op : Nat} {i : Inst} (h : s.going id op i) (e : ringsOf t = ringsOf s) : t.going id op i := by
  have insts : t.insts = s.insts := congrArg Prod.fst e
  have cqs : t.fns[i.fn].cqs = s.fns[i.fn].cqs := congrFun (congrArg Prod.snd e) i.fn
  unfold State.going State.inst State.canFinish State.quietBut at h ⊢
  rwa [insts, cqs]

theorem State.going.id_eq {s : State} {id op : Nat} {i : Inst} (h : s.going id op i) : i.id = id := by
  simpa using List.find?_some h.1

/-- A waiting instruction completes, and then nothing waits any more. -/
theorem Post.complete_going {id op code dw0 : Nat} {i : Inst} {s : State} {Q : Unit → State → Prop} (h : s.going id op i)
    (q : ∀ t, t.quiet → Completes i code dw0 s t → Q () t) : Act.Post (Machine.complete id code dw0) s Q := by
  have ⟨hi, _, _, hf, others⟩ := h
  refine Post.complete hi hf fun t ht => q t (fun j hj => ?_) ht
  rw [ht.insts, List.mem_filter, h.id_eq] at hj
  exact others j hj.1 (by simpa using hj.2)

/-- What is left of an instruction that has completed once settling has ended. -/
theorem Completes.settled {i : Inst} {code dw0 : Nat} {s t u : State} (h : Completes i code dw0 s t) (hs : Settles t u) :
    u.finished i code dw0 ∧ SameBut settleParts s u ∧ s.out <+: u.out := by
  refine ⟨h.finished hs, (h.frame.mono (by decide)).trans hs.frame, ?_⟩
  rw [← show t.out = s.out from h.frame .out (by simp)]
  exact hs.out

/-- An instruction that waits for its bay is carried on while it is the first on the bay, and what waits is settled (R420). -/
theorem Post.performBay_again {id op : Nat} {checks : State → Inst → List (Option (Nat × Nat))} {begin_ again : Inst → Act Unit} {i : Inst}
    {s : State} {Q : Unit → State → Prop} (hg : s.going id op i) (hb : s.bayFirst i = true)
    (hm : Act.Post (again i) s fun _ t => Act.Post Machine.settle t Q) : Act.Post (performBay id op checks begin_ again) s Q := by
  obtain ⟨hi, ho, hw, -⟩ := hg
  have known : s.inProgress id op = some i := by simp [State.inProgress, hi, ho, hw]
  unfold performBay
  refine Post.rdThen ?_
  simp only [known]
  exact Post.ifTrue hb (Post.ifFalse (by simp [hw]) (Post.bind hm))

/-! ### Outputs -/

/-- What has left the part when a program has run begins with what had left it before. -/
theorem Post.outGrows {α : Type} {m : Act α} {s : State} {Q : α → State → Prop} (h : Act.Post m s fun a t => s.out <+: t.out → Q a t) :
    Act.Post m s Q := by
  obtain ⟨a, t, r, q⟩ := h
  exact ⟨a, t, r, q (Runs.out_grows r)⟩

/-- A command answers a state for which there is an output such as its program's end has. -/
theorem Post.answer_exists {β : Type} {m : Act Unit} {s : State} {R : State → β → Prop} (h : Act.Post m s fun _ t => ∃ o, R t o) :
    ∃ t o, Machine.answer m s = .next t ∧ R t o := by
  obtain ⟨t, run, o, r⟩ := Post.answer h
  exact ⟨t, o, run, r⟩

theorem SameBut.addOut (s : State) (l : List Output) : SameBut [.out] s { s with out := s.out ++ l } := by
  intro p hp
  cases p <;> first
    | exact absurd hp (by decide)
    | exact fun _ _ => rfl
    | exact fun _ => rfl
    | exact rfl
    | exact ⟨rfl, rfl⟩

/-- A list of outputs leaves the part in its order. -/
theorem Post.forAll_out {α : Type} {l : List α} {o : α → Output} {s : State} {Q : Unit → State → Prop}
    (q : Q () { s with out := s.out ++ l.map o }) : Act.Post (forAll l fun a => Machine.emit (.out (o a))) s Q := by
  induction l generalizing s with
  | nil => exact Post.pure (by simpa using q)
  | cons a l ih => exact Post.emitThen (ih (by simpa [Eff.apply] using q))

/-! ### Settling -/

/-- What settling shows and saves at its end (R363, R402). -/
def settleShows : Act Unit := do
  showCompacting
  forAll fnList (fun f => do
    let s ← rd
    emit (.fn f fun h => { h with posted := h.posted.filter (fun c => s.pendingDisc c) }))
  saveBlocks
  showGate

/-- While no instruction waits, settling sweeps the cache and then shows and saves what has come of it. -/
theorem Post.settle_shows {s : State} {Q : Unit → State → Prop} (hq : s.quiet)
    (h : Act.Post sweepCache s fun _ u => u.insts = s.insts ∧ Act.Post settleShows u Q) :
    Act.Post Machine.settle s Q := by
  have none {p : Inst → Bool} (hp : ∀ j, p j = true → j.stage = .waiting ∨ j.stage = .committed ∨ j.stage = .held) :
      s.insts.filter p = [] := by
    refine List.filter_eq_nil_iff.mpr fun j hj hpj => ?_
    obtain ⟨waits, committed, held⟩ := hq j hj
    exact (hp j hpj).elim waits (Or.elim · committed held)
  unfold Machine.settle
  refine Post.bind (Post.mono h fun _ u ⟨hu, shows⟩ => Post.rdThen ?_)
  rw [hu, none fun j h => by simpa [or_assoc] using Or.inl h]
  refine Post.bind (Post.pure (Post.bind (Post.rdThen ?_)))
  rw [hu, none fun j h => by simpa using Or.inr (Or.inr h)]
  exact Post.pure shows

/-- With an empty write cache there is no digest to extend and no copy to release. -/
theorem Post.sweepCache_empty {s : State} {Q : Unit → State → Prop} (hc : s.cache = [])
    (q : ∀ t, Same (2 ^ Part.cache.idx) s t → Q () t) : Act.Post sweepCache s Q := by
  have digests : Touches 0 (forAll s.strands fun x => extendDigest x.num 0) := .forAll fun _ => .pure ()
  unfold sweepCache extendDigests
  refine Post.bind (Post.rdThen ?_)
  rw [hc]
  refine Post.touches digests fun _ u hu => Post.rdThen ?_
  rw [show u.cache = [] from (hu .cache rfl).trans hc]
  exact Post.emit (q _ ((hu.mono rfl).trans (Eff.same (.cache _) u)))

/-- The bay in which a disc of the table is mounted. -/
def discBay (s : State) (id : Nat) : Option (Option (Fin 4)) := (s.disc id).map Disc.bay

theorem discBay_same {s t : State} (h : Part.discs.same s t) : discBay t = discBay s := by
  unfold discBay State.disc
  rw [show t.discs = s.discs from h]

/-- The volume map, the counts of events, and the bays of discs. -/
def mapView (s : State) : List Extent × (Nat → Nat) × (Nat → Option (Option (Fin 4))) := (s.extents, (countOf · s), discBay s)

theorem mapView_same {s t : State} (he : Part.extents.same s t) (hc : Part.evtRegs.same s t) (hd : Part.discs.same s t) :
    mapView t = mapView s :=
  Prod.ext he (Prod.ext (funext fun n => hc _ (F.EVT_COUNT_CNT_window n)) (discBay_same hd))

/-- Showing which discs are being compacted moves none of them. -/
theorem showCompacting_keeps_map : Keeps mapView showCompacting :=
  .bind .rd fun s => .emit fun u => by
    have moved : discBay ((Eff.discs fun l => l.map fun d =>
        { d with compacting := s.insts.any fun i => i.opcode == opCOMPACT && i.bytesAt 36 8 == d.id }).apply u) = discBay u := by
      funext id
      simp [discBay, State.disc, Eff.apply, List.find?_map, Function.comp_def]
    exact Prod.ext rfl (Prod.ext rfl moved)

/-- Settling leaves the volume map, the counts of events and the bays of discs while nothing waits and the write cache is empty (R331, R377). -/
theorem Post.settle_empty {s : State} {Q : Unit → State → Prop} (hq : s.quiet) (hc : s.cache = [])
    (q : ∀ t, Settles s t → mapView t = mapView s → Q () t) : Act.Post Machine.settle s Q := by
  refine Post.and (R := fun t => mapView t = mapView s) (Post.settle hq q) ?_
  refine Post.settle_shows hq (Post.sweepCache_empty hc fun u hu => ⟨hu .insts rfl, ?_⟩)
  have shows : Keeps mapView settleShows :=
    .bind showCompacting_keeps_map fun _ => .bind (.forAll fun f => .bind .rd fun s => .emit fun _ => rfl) fun _ =>
      .touches (L := partsMask [.nv, .flzRegs]) ((saveBlocks_touches rfl).bind fun _ => showGate_touches rfl) fun _ _ h =>
        mapView_same (h .extents rfl) (h .evtRegs rfl) (h .discs rfl)
  exact Post.keeps shows fun _ t ht => ht.trans (mapView_same (hu .extents rfl) (hu .evtRegs rfl) (hu .discs rfl))

end Sys2Proof.Machine
end

section
/-! Parking a bay whose spindle is at speed (R46, R153, R163). -/

namespace Sys2Proof.Machine

/-! ### STOP -/

/-- The parts that STOP may touch. -/
def stopMask : Nat := partsMask [.motRegs, .calRegs, .motors, .cal]

/-- STOP brakes a motor at speed (R153). -/
theorem Post.stopMotor_brakes {k : Fin 8} {s : State} {Q : Unit → State → Prop} (hk : s.motorState k = mtAT_SPEED)
    (q : ∀ t, t.motorState k = mtBRAKE → Same stopMask s t → Q () t) : Act.Post (stopMotor k) s Q := by
  refine Post.andTouches ?_ (stopMotor_touches k (L := stopMask) rfl)
  refine Post.mono (R := fun _ t => Same stopMask s t → Q () t) ?_ fun _ t (brakes : t.motorState k = mtBRAKE) => q t brakes
  have apart : ∀ k : Fin 8, (F.MOT_STAT_STATE k.val).key ≠ (F.MOT_STAT_BRAKING k.val).key := by decide
  unfold Machine.stopMotor
  refine Post.rdThen ?_
  simp only [hk]
  refine Post.ifFalse (by decide) (Post.ifFalse (by decide) (Post.ifFalse (by decide) (Post.ifFalse (by decide) (Post.emitThen
    (Post.ifTrue (by decide) (Post.setThen (Post.setF ?_)))))))
  exact (State.get_put_ne _ _ (apart k)).trans (State.get_put_self _ _ _)

/-- The fields of MOT_STAT that STOP may set. -/
def statFields (k : Fin 8) : List Fld :=
  [F.MOT_STAT_STATE k.val, F.MOT_STAT_BRAKING k.val, F.MOT_STAT_RESULT k.val, F.MOT_STAT_REVERSE k.val]

/-- STOP to one motor leaves the state of every other. -/
theorem stopMotor_keeps_other {j k : Fin 8} (h : j ≠ k) : Keeps (State.motorState · j) (stopMotor k) := by
  have apart : ∀ j k : Fin 8, j ≠ k → ∀ f ∈ statFields k, (F.MOT_STAT_STATE j.val).key ≠ f.key := by decide
  have set {f : Fld} (hf : f ∈ statFields k) (v : Nat) : Keeps (State.motorState · j) (setF f v) :=
    .setF fun s => State.get_put_ne s v (apart j k h f hf)
  have motor (g : Motor → Motor) : Keeps (State.motorState · j) (emit (.motor k g)) := .emit fun _ => rfl
  have state (st : Nat) : Keeps (State.motorState · j) (setMotor k st) := (set (by simp [statFields]) _).bind fun _ => set (by simp [statFields]) _
  have result (r : Nat) : Keeps (State.motorState · j) (setMotorResult k r) := set (by simp [statFields]) _
  have off : Keeps (State.motorState · j) (gatesOff k) :=
    .bind .rd fun s => .bind (motor _) fun _ => .bind ((motor _).bind fun _ => set (by simp [statFields]) _) fun _ => .ite (state _) (.pure ())
  have aborts (p : CalRun → Bool) : Keeps (State.motorState · j) (abortCal p) :=
    .touches (abortCal_touches p (L := 2 ^ 56 + 2 ^ 16) rfl) fun _ _ same => same.get (F.MOT_STAT_STATE_window _) (by decide) rfl
  unfold stopMotor
  refine .bind .rd fun s => .ite (.pure ()) (.ite (motor _) (.ite (.ite ?_ ?_) (.ite ?_ (.bind (motor _) fun _ => .ite (state _) (.pure ())))))
  · exact (state _).bind fun _ => result _
  · exact (aborts _).bind fun _ => (motor _).bind fun _ => state _
  · exact off.bind fun _ => result _

/-! ### PARKING -/

/-- The parts that a bay's entry into PARKING may touch. -/
def enterParkingParts : List Part := [.calRegs, .bayRegs, .rchRegs, .detectors, .cal] ++ eventParts

/-- The parts of what ends when a bay leaves a state: its calibrations and captures. -/
def leaveMask : Nat := partsMask [.calRegs, .rchRegs, .detectors, .cal]

/-- A bay enters PARKING from every other state, and BAY_STATE_CHANGE is raised (R46, R533). -/
theorem Post.setBay_parking {b : Fin 4} {s : State} {Q : Unit → State → Prop} (hb : s.bayState b.val ≠ bPARKING)
    (q : ∀ t, t.bayState b.val = bPARKING → ringsOf t = ringsOf s → Same (partsMask enterParkingParts) s t → Q () t) :
    Act.Post (setBay b bPARKING) s Q := by
  have shown : (s.put (F.BAY_STAT_STATE b.val) bPARKING).bayState b.val = bPARKING := State.get_put_self _ _ _
  have put : Same (partsMask enterParkingParts) s (s.put (F.BAY_STAT_STATE b.val) bPARKING) :=
    Same.mono (put_same s _ _) (by rw [F.BAY_STAT_STATE_window]; rfl)
  have kept {L : Nat} {u t : State} (h : Same L u t) (hL : L.testBit Part.bayRegs.idx = false) : t.bayState b.val = u.bayState b.val :=
    h.get (F.BAY_STAT_STATE_window _) (by decide) hL
  have ends (detail : Nat) (u : State) (hu : Same leaveMask (s.put (F.BAY_STAT_STATE b.val) bPARKING) u) :
      Act.Post (raiseBay b.val Ev.iBAY_STATE_CHANGE 0 0 detail) u Q :=
    Post.raise fun t _ sig => q t ((kept sig.same rfl).trans ((kept hu rfl).trans shown))
      ((ringsOf_signals sig).trans ((ringsOf_same (hu.mono rfl)).trans rfl)) (put.trans ((hu.mono rfl).trans (sig.same.mono rfl)))
  unfold Machine.setBay
  refine Post.rdThen (Post.ifTrue ⟨hb, rfl⟩ (Post.setThen (Post.ifFalse (by decide) (Post.bind ?_))))
  refine Post.touches (abortBayCal_touches _ _ _ (L := leaveMask) rfl) fun _ u hu => Post.bind ?_
  refine Post.touches (noteUse_touches _ _ _ (L := leaveMask) rfl) fun _ v hv => ?_
  refine Post.ite (fun _ => Post.bind ?_) fun _ => ends _ v (hu.trans hv)
  exact Post.touches (.forAll fun k => endCapture_touches k (L := leaveMask) rfl) fun _ w hw =>
    ends _ w (hu.trans (hv.trans hw))

/-- A bay whose spindle does not rest stays in PARKING. -/
theorem Post.finishPark_turning {b : Fin 4} {s : State} {Q : Unit → State → Prop} (h : s.spindleRests b = false) (q : Q () s) :
    Act.Post (finishPark b) s Q :=
  Post.rdThen (Post.ifFalse (fun ⟨_, rests, _⟩ => by simp [h] at rests) (Post.pure q))

theorem State.spindleRests_braking {s : State} {b : Fin 4} (h : s.motorState (spindleOf b) = mtBRAKE) : s.spindleRests b = false := by
  simp [State.spindleRests, State.motorRests, h]

/-- The parts that parking a bay may touch while its spindle turns. -/
def parkingParts : List Part :=
  [.srvRegs, .motRegs, .stpRegs, .rchRegs, .wrpRegs, .calRegs, .bayRegs, .optRegs, .life, .optics, .motors, .axes, .detectors, .writers, .cal] ++
    eventParts

/-- The parts that retracting the OPUs of a bay and parking its sleds may touch. -/
def retractMask : Nat := partsMask [.srvRegs, .stpRegs, .wrpRegs, .calRegs, .optRegs, .out, .life, .optics, .axes, .writers, .cal]

/-- A READY or READING bay whose spindle is at speed goes to PARKING, where its spindle brakes (R46, R153, R163). -/
theorem Post.parkBay_atSpeed {b : Fin 4} {s : State} {Q : Unit → State → Prop} (hb : s.bayState b.val = bREADY ∨ s.bayState b.val = bREADING)
    (hm : s.motorState (spindleOf b) = mtAT_SPEED)
    (q : ∀ t, t.bayState b.val = bPARKING → ringsOf t = ringsOf s → Same (partsMask parkingParts) s t → Q () t) : Act.Post (parkBay b) s Q := by
  have apart : ∀ b : Fin 4, spindleOf b ≠ shuttleOf b := by decide
  have turns : s.bayState b.val = bSPINNING ∨ s.bayState b.val = bREADY ∨ s.bayState b.val = bWRITING ∨ s.bayState b.val = bREADING :=
    hb.elim (.inr ∘ .inl) (.inr ∘ .inr ∘ .inr)
  unfold Machine.parkBay
  refine Post.rdThen (Post.bind (Post.forAll_pair (Post.stopMotor_brakes hm fun u braking hu => ?_)))
  refine Post.andKeeps (Post.touches (stopMotor_touches _ (L := stopMask) rfl) fun _ v hv still => Post.ifTrue turns (Post.bind ?_))
    (stopMotor_keeps_other (apart b))
  have stopped : Same stopMask s v := hu.trans hv
  have bay : v.bayState b.val = s.bayState b.val := stopped.get (F.BAY_STAT_STATE_window _) (by decide) rfl
  refine Post.setBay_parking (by rw [bay]; rcases hb with h | h <;> rw [h] <;> decide) fun w parking rings hw => ?_
  have retracts : Touches retractMask (forAll (opusOf b) fun k => do
      retract k
      Machine.emit (.optic k fun o => { o with lostAt := none })) :=
    .forAll fun k => (retract_touches k rfl).bind fun _ => Touches.emitM (M := 2 ^ Part.optics.idx) rfl rfl
  refine Post.bind (Post.touches retracts fun _ x hx => Post.bind ?_)
  refine Post.touches (parkSled_touches _ (L := retractMask) rfl) fun _ y hy => Post.bind ?_
  refine Post.touches (parkSled_touches _ (L := retractMask) rfl) fun _ t ht => ?_
  have retracted : Same retractMask w t := hx.trans (hy.trans ht)
  have turning : t.motorState (spindleOf b) = mtBRAKE := by
    rw [← braking, ← still]
    exact (retracted.get (F.MOT_STAT_STATE_window _) (by decide) rfl).trans (hw.get (F.MOT_STAT_STATE_window _) (by decide) rfl)
  refine Post.finishPark_turning (State.spindleRests_braking turning) (q t ?_ ?_ ?_)
  · exact (retracted.get (F.BAY_STAT_STATE_window _) (by decide) rfl).trans parking
  · exact (ringsOf_same (retracted.mono rfl)).trans (rings.trans (ringsOf_same (stopped.mono rfl)))
  · exact (stopped.mono rfl).trans ((hw.mono rfl).trans (retracted.mono rfl))

end Sys2Proof.Machine
end

section
/-! The disc table and the volume map: a disc changed under its number, and the map entry of an extent made anew (R314, R315). -/

namespace Sys2Proof.Machine

/-- What a search finds once those entries that one test picks are changed, when no change moves an entry into what is searched or out of it. -/
theorem find?_map_picked {α : Type} {p q : α → Bool} {g : α → α} (l : List α) (hg : ∀ a, p a = true → q (g a) = q a) :
    (l.map fun a => if p a then g a else a).find? q = (l.find? q).map fun a => if p a then g a else a := by
  rw [List.find?_map]
  congr 2
  funext a
  by_cases h : p a = true <;> simp [h, hg]

/-- A disc of the table is changed under its number. -/
theorem Post.setDisc {n : Nat} {d : Disc} {g : Disc → Disc} {s : State} {Q : Unit → State → Prop} (hd : s.disc n = some d)
    (hg : ∀ y, (g y).id = y.id) (q : ∀ t, t.disc n = some (g d) → Same (2 ^ Part.discs.idx) s t → Q () t) : Act.Post (setDisc n g) s Q := by
  have num : (d.id == n) = true := List.find?_some (p := fun y : Disc => y.id == n) hd
  refine Post.emit (q _ ((find?_map_picked s.discs fun y _ => by rw [hg]).trans ?_) (Eff.same (.discs _) s))
  rw [show s.discs.find? (fun y => y.id == n) = some d from hd, Option.map_some, if_pos num]

theorem State.disc_self {s : State} {n : Nat} {d : Disc} (h : s.disc n = some d) : s.disc d.id = some d := by
  have num : (d.id == n) = true := List.find?_some (p := fun y : Disc => y.id == n) h
  rwa [beq_iff_eq.mp num]

/-- Whether a map entry is that of an extent of a volume. -/
def Extent.maps (vol ext : Nat) (e : Extent) : Bool := e.vol == vol && e.ext == ext

/-- The state with the map entry of an extent at `e`. -/
def State.withExtent (s : State) (vol ext : Nat) (e : Extent) : State :=
  (Eff.extents fun l => if l.any (Extent.maps vol ext) then l.map (fun y => if y.maps vol ext then e else y) else l ++ [e]).apply s

theorem Post.setExtent_const {vol ext : Nat} {e : Extent} {s : State} {Q : Unit → State → Prop} (q : Q () (s.withExtent vol ext e)) :
    Act.Post (setExtent vol ext fun _ => e) s Q := Post.emit q

theorem State.extent_congr {s t : State} (h : t.extents = s.extents) (vol ext : Nat) : t.extent vol ext = s.extent vol ext := by
  unfold State.extent State.extent?
  rw [h]

/-- What a search of the volume map finds once the entry of an extent has been made. -/
theorem State.find?_withExtent (s : State) {vol ext : Nat} {e : Extent} {q : Extent → Bool} (hq : ∀ y, Extent.maps vol ext y = true → q e = q y) :
    (s.withExtent vol ext e).extents.find? q =
      if s.extents.any (Extent.maps vol ext) then (s.extents.find? q).map fun y => if y.maps vol ext then e else y
      else (s.extents.find? q).or (if q e then some e else none) := by
  unfold State.withExtent Eff.apply
  dsimp only
  split
  · exact find?_map_picked s.extents hq
  · rw [List.find?_append, List.find?_singleton]

theorem State.extent_withExtent_self (s : State) {vol ext : Nat} {e : Extent} (he : e.maps vol ext = true) :
    (s.withExtent vol ext e).extent vol ext = e := by
  have found : (s.withExtent vol ext e).extent? vol ext = some e := by
    refine (s.find?_withExtent fun y hy => he.trans hy.symm).trans ?_
    split
    next known =>
      obtain ⟨y, hy⟩ := Option.isSome_iff_exists.mp (List.find?_isSome.mpr (List.any_eq_true.mp known))
      rw [hy, Option.map_some, if_pos (List.find?_some hy)]
    next unknown =>
      have none : s.extents.find? (Extent.maps vol ext) = none := List.find?_eq_none.mpr (by simpa using unknown)
      rw [none, Option.none_or]
  rw [State.extent, found, Option.getD_some]

theorem State.extent_withExtent_ne (s : State) {vol ext n : Nat} {e : Extent} (he : e.maps vol ext = true) (hn : n ≠ ext) :
    (s.withExtent vol ext e).extent vol n = s.extent vol n := by
  have apart (y : Extent) (hy : y.maps vol ext = true) : (y.vol == vol && y.ext == n) = false := by
    simp only [Extent.maps, Bool.and_eq_true, beq_iff_eq] at hy
    simp [hy.2, hn.symm]
  have found : (s.withExtent vol ext e).extent? vol n = s.extent? vol n := by
    refine (s.find?_withExtent fun y hy => (apart e he).trans (apart y hy).symm).trans ?_
    rw [apart e he, if_neg Bool.false_ne_true, Option.or_none]
    split
    · refine (Option.map_congr fun y hy => if_neg fun maps => ?_).trans Option.map_id'
      have hit := List.find?_some hy
      simp [apart y maps] at hit
    · rfl
  rw [State.extent, found, State.extent]

end Sys2Proof.Machine
end

section
/-! MOUNT reads what its disc holds (R68, R71, R84, R319, R395, R396). -/

namespace Sys2Proof.Machine

/-! ### What MOUNT does -/

/-- A MOUNT that waits while its bay reads the wrong side gives up its mount and parks the bay (R84, R395). -/
theorem Post.continueMount_wrongSide {i : Inst} {mem : HostMem} {x : MountFound} {s : State} {Q : Unit → State → Prop}
    (hb : s.bayState i.bay.val = bREADY ∨ s.bayState i.bay.val = bREADING) (hx : x.sideMismatch = true)
    (q : Act.Post (do
      parkBay i.bay
      Machine.complete i.id cDISC_NOT_BOUND 0) ((Eff.bay i.bay fun y => { y with mounting := none }).apply s) Q) :
    Act.Post (continueMount i mem x) s Q := by
  unfold continueMount
  refine Post.rdThen (Post.ifFalse ?_ (Post.ifTrue ⟨.inr hb, by simp [hx]⟩ (Post.emitThen q)))
  rcases hb with h | h <;> rw [h] <;> decide

/-- While its bay reads the right side of a disc, its identity is read (R395). -/
theorem Post.continueMount_ends {i : Inst} {mem : HostMem} {x : MountFound} {s : State} {Q : Unit → State → Prop}
    (hb : s.bayState i.bay.val = bREADY ∨ s.bayState i.bay.val = bREADING) (hx : x.sideMismatch = false)
    (hk : ∃ k ∈ opusOf i.bay, s.get (F.RCH_SPK_STAT_SIDE_MISMATCH k.val) = 0)
    (q : Act.Post (endMount i mem x) s Q) : Act.Post (continueMount i mem x) s Q := by
  have right : ¬ (x.sideMismatch || (opusOf i.bay).all fun k => s.get (F.RCH_SPK_STAT_SIDE_MISMATCH k.val) == 1) = true := by
    obtain ⟨k, ours, reads⟩ := hk
    simp only [hx, Bool.false_or, List.all_eq_true, not_forall]
    exact ⟨k, ours, by simp [reads]⟩
  unfold continueMount
  refine Post.rdThen (Post.ifFalse ?_ (Post.ifFalse (fun h => right h.2) (Post.ifTrue hb q)))
  rcases hb with h | h <;> rw [h] <;> decide

/-- The state once MOUNT has read its disc: nothing is being mounted in the bay, and invalid records are reported (R71). -/
def State.mountRead (s : State) (b : Fin 4) (x : MountFound) : State :=
  let u := (Eff.bay b fun y => { y with mounting := none, readAhead := [] }).apply s
  { u with out := u.out ++ x.invalid.map fun r => .badRecord b.val r.1 r.2 }

theorem State.mountRead_frame (s : State) (b : Fin 4) (x : MountFound) : SameBut [.bays, .out] s (s.mountRead b x) :=
  ((SameBut.refl _ s).eff (e := .bay b fun y => { y with mounting := none, readAhead := [] }) rfl (by simp [Eff.part])).trans
    ((SameBut.addOut _ _).mono (by decide))

/-- What MOUNT attaches: the identity it has read, if any, and whether this part wrote it (R395). -/
def attachedBy (x : MountFound) : Nat × Bool × Bool :=
  (((mountIdentity x).map Prod.fst).getD 0, (mountIdentity x).isSome, ((mountIdentity x).map Prod.snd).getD false)

/-- The state once a disc of no table entry has been attached (R395). -/
def State.mountAttached (s : State) (b : Fin 4) (x : MountFound) : State :=
  (Eff.bay b fun y => { y with attached := some (attachedBy x) }).apply (s.mountRead b x)

theorem State.mountAttached_frame (s : State) (b : Fin 4) (x : MountFound) : SameBut [.bays, .out] s (s.mountAttached b x) :=
  (s.mountRead_frame b x).eff rfl (by simp [Eff.part])

theorem State.mountAttached_bay (s : State) (b : Fin 4) (x : MountFound) :
    (s.mountAttached b x).bays[b].mounting = none ∧ (s.mountAttached b x).bays[b].attached = some (attachedBy x) := by
  have read : (s.mountRead b x).bays[b].mounting = none :=
    congrArg Bay.mounting (apply_bay_self b (fun y => { y with mounting := none, readAhead := [] }) s)
  unfold State.mountAttached
  rw [apply_bay_self]
  exact ⟨read, rfl⟩

/-- The identity is that of no disc of the table: the disc is attached (R395, R396). -/
theorem Post.endMount_attaches {i : Inst} {mem : HostMem} {x : MountFound} {s : State} {Q : Unit → State → Prop} (hm : mem.ok = true)
    (hd : (mountIdentity x).bind (fun y => s.disc y.1) = none)
    (q : Act.Post (do
      writeBuffer i.id (attachedRecord i.bay ((mountIdentity x).map Prod.fst))
      Machine.complete i.id cDISC_NOT_BOUND 0) (s.mountAttached i.bay x) Q) :
    Act.Post (endMount i mem x) s Q := by
  unfold endMount
  refine Post.emitThen (Post.bind (Post.forAll_out (Post.rdThen (Post.ifFalse (by simp [hm]) ?_))))
  split
  next d known => exact absurd (hd.symm.trans known) (by simp)
  next => exact Post.emitThen q

/-- The identity is that of a disc of the table: the disc is mounted (R395). -/
theorem Post.endMount_mounts {i : Inst} {mem : HostMem} {x : MountFound} {s : State} {d : Disc} {Q : Unit → State → Prop} (hm : mem.ok = true)
    (hd : (mountIdentity x).bind (fun y => s.disc y.1) = some d)
    (q : Act.Post (mountDisc i.bay d x) (s.mountRead i.bay x) fun _ t =>
      ∀ u, Same (2 ^ Part.out.idx) t u → s.out ++ x.invalid.map (fun r => .badRecord i.bay.val r.1 r.2) <+: u.out →
        Act.Post (Machine.complete i.id cSUCCESS (d.id % 2 ^ 32)) u Q) :
    Act.Post (endMount i mem x) s Q := by
  unfold endMount
  refine Post.emitThen (Post.bind (Post.forAll_out (Post.rdThen (Post.ifFalse (by simp [hm]) ?_))))
  split
  next y known =>
    cases hd.symm.trans known
    refine Post.bind (Post.outGrows (Post.mono q fun _ t ht grows => Post.rdThen ?_))
    split
    · exact Post.emitThen (ht _ (Eff.same (.out _) t) (grows.trans (List.prefix_append _ _)))
    · exact ht t (Same.refl _ t) grows
  next unknown => exact absurd (hd.symm.trans unknown) (by simp)

/-! ### A map that is rebuilt -/

/-- With the entry of one map sector found, the map takes that entry (R319). -/
theorem Post.rebuildMap_single {vol ext seq : Nat} {b : List Byte} {s : State} {Q : Unit → State → Prop}
    (q : Q () (s.withExtent vol ext (readMapEntry vol ext seq b))) : Act.Post (rebuildMap vol [(ext, seq, b)]) s Q := by
  unfold rebuildMap
  simp only [forAll, List.map_cons, List.map_nil, List.eraseDups_cons, List.filter_nil, List.eraseDups_nil, List.filter_cons, beq_self_eq_true, if_true,
    List.foldl_cons, List.foldl_nil]
  exact Post.bind (Post.setExtent_const (Post.pure q))

/-- The parts that mounting a disc may touch. -/
def mountingParts : List Part := [.requests, .extents, .discs, .writers, .cal] ++ eventParts

/-- A disc of the table has been mounted in a bay, and the map entry of an extent has been made from it (R319, R395). -/
structure MapRebuilt (b : Fin 4) (d : Disc) (ext : Nat) (e : Extent) (s t : State) : Prop where
  rings : ringsOf t = ringsOf s
  frame : SameBut mountingParts s t
  counted : Counted Ev.MAP_RECOVERED s t
  map : t.extents = (s.withExtent d.vol ext e).extents
  bay : discBay t d.id = some (some b)

theorem Post.mountDisc_rebuilds {b : Fin 4} {d : Disc} {x : MountFound} {ext seq : Nat} {bytes : List Byte} {s : State}
    {Q : Unit → State → Prop} (hd : s.disc d.id = some d) (hx : x.imageMissing = true) (hm : x.maps = [(ext, seq, bytes)])
    (q : ∀ t, MapRebuilt b d ext (readMapEntry d.vol ext seq bytes) s t → Q () t) : Act.Post (mountDisc b d x) s Q := by
  have writers {g : Writer → Writer} : Touches (partsMask [.writers]) (forAll (opusOf b) fun k => Machine.emit (.writer k g)) :=
    .forAll fun _ => Touches.emitM (M := 2 ^ Part.writers.idx) rfl rfl
  unfold Machine.mountDisc
  rw [hm]
  refine Post.ifTrue hx (Post.bind (Post.rebuildMap_single (Post.bind (Post.raise fun u raised sig => Post.rdThen ?_))))
  have listed : u.disc d.id = some d := by
    unfold State.disc
    rw [show u.discs = s.discs from sig.same .discs rfl]
    exact hd
  refine Post.bind (Post.setDisc listed (fun _ => rfl) fun v mounted hv => Post.bind (Post.touches writers fun _ w hw => Post.bind ?_))
  refine Post.touches (L := 2 ^ Part.cal.idx) (Touches.emitM (M := 2 ^ Part.cal.idx) rfl rfl) fun _ y hy => ?_
  refine Post.touches (lapseRequests_touches _ (L := 2 ^ Part.requests.idx) rfl) fun _ t ht => q t ?_
  have lapsed : Same (partsMask [.requests, .writers, .cal]) v t := (hw.mono rfl).trans ((hy.mono rfl).trans (ht.mono rfl))
  have rest : Same (partsMask [.requests, .discs, .writers, .cal]) u t := (hv.mono rfl).trans (lapsed.mono rfl)
  exact {
    rings := (ringsOf_same (rest.mono rfl)).trans ((ringsOf_signals sig).trans rfl)
    frame := ((SameBut.refl _ s).eff rfl (by simp [Eff.part, mountingParts])).trans
      ((SameBut.ofMask sig.same (by decide)).trans (.ofMask rest (by decide)))
    counted := raised.1.of (rest.get (F.EVT_COUNT_CNT_window _) (by decide) rfl)
    map := (rest .extents rfl).trans (sig.same .extents rfl)
    bay := (congrFun (discBay_same (lapsed .discs rfl)) d.id).trans (congrArg (Option.map Disc.bay) mounted) }

/-! ### How MOUNT ends -/

/-- On the wrong side of its disc a MOUNT ends with DISC_NOT_BOUND, and its bay parks (R84, R395). -/
theorem exec_mount_wrongSide {s : State} {id : Nat} {i : Inst} {mem : HostMem} {x : MountFound} (hf : s.bayFirst i = true)
    (hg : s.going id opMOUNT i) (hb : s.bayState i.bay.val = bREADY ∨ s.bayState i.bay.val = bREADING) (hx : x.sideMismatch = true)
    (hm : s.motorState (spindleOf i.bay) = mtAT_SPEED) :
    ∃ t, exec (.mount id mem x) s = .next t ∧ SameBut (.srvRegs :: .motRegs :: .stpRegs :: .rchRegs :: .wrpRegs :: .calRegs :: .bayRegs ::
        .optRegs :: .life :: .bays :: .optics :: .motors :: .axes :: .detectors :: .writers :: .cal :: settleParts) s t ∧
      t.finished i cDISC_NOT_BOUND 0 ∧ t.bays[i.bay].mounting = none ∧ t.bayState i.bay.val = bPARKING := by
  refine Post.answer (Post.performBay_again hg hf (Post.continueMount_wrongSide hb hx (Post.bind ?_)))
  refine Post.parkBay_atSpeed (s := (Eff.bay i.bay fun y => { y with mounting := none }).apply s) hb hm fun u parking rings hu => ?_
  rw [hg.id_eq]
  refine Post.complete_going (hg.congr rings) fun v quiet done => Post.settle quiet fun t ht => ?_
  obtain ⟨finished, frame, -⟩ := done.settled ht
  refine ⟨?_, finished, ?_, ?_⟩
  · refine ((SameBut.refl _ s).eff (e := .bay i.bay fun y => { y with mounting := none }) rfl (by simp [Eff.part])).trans ?_
    exact (SameBut.ofMask hu (by decide)).trans (frame.mono (by decide))
  · rw [show t.bays = _ from frame .bays (by decide), show u.bays = _ from hu .bays rfl, apply_bay_self]
  · exact (frame .bayRegs (by decide) _ (F.BAY_STAT_STATE_window _)).trans parking

/-- A MOUNT of a disc that the table does not hold ends with DISC_NOT_BOUND, with the disc attached and its record written (R395, R396). -/
theorem exec_mount_attaches {s : State} {id : Nat} {i : Inst} {mem : HostMem} {x : MountFound} (hh : hostGood mem) (hf : s.bayFirst i = true)
    (hg : s.going id opMOUNT i) (hb : s.bayState i.bay.val = bREADY ∨ s.bayState i.bay.val = bREADING) (hx : x.sideMismatch = false)
    (hk : ∃ k ∈ opusOf i.bay, s.get (F.RCH_SPK_STAT_SIDE_MISMATCH k.val) = 0) (hd : (mountIdentity x).bind (fun y => s.disc y.1) = none) :
    ∃ t o, exec (.mount id mem x) s = .next t ∧ SameBut (.bays :: settleParts) s t ∧ t.finished i cDISC_NOT_BOUND 0 ∧
      t.bays[i.bay].mounting = none ∧ t.bays[i.bay].attached = some (attachedBy x) ∧
      t.out = s.out ++ x.invalid.map (fun r => .badRecord i.bay.val r.1 r.2) ++
        .bytes id (attachedRecord i.bay ((mountIdentity x).map Prod.fst)) :: o := by
  obtain ⟨ok, -⟩ := hh
  refine Post.answer_exists (Post.performBay_again hg hf (Post.continueMount_ends hb hx hk (Post.endMount_attaches ok hd (Post.emitThen ?_))))
  rw [hg.id_eq]
  refine Post.complete_going (hg.congr rfl) fun u quiet done => Post.settle quiet fun t ht => ?_
  obtain ⟨finished, frame, o, grows⟩ := done.settled ht
  obtain ⟨mounting, attached⟩ := s.mountAttached_bay i.bay x
  have bays : t.bays = (s.mountAttached i.bay x).bays := frame .bays (by decide)
  refine ⟨o, SameBut.trans ?_ (frame.mono (by decide)), finished, by rw [bays, mounting], by rw [bays, attached], ?_⟩
  · exact ((s.mountAttached_frame i.bay x).mono (by decide)).eff rfl (by simp [Eff.part, settleParts, eventParts])
  · rw [← grows]
    simp [Eff.apply, State.mountAttached, State.mountRead]

/-- A MOUNT rebuilds the map of a disc whose image is missing, and ends with the disc mounted (R68, R319, R395). -/
theorem exec_mount_rebuilds {s : State} {id : Nat} {i : Inst} {mem : HostMem} {x : MountFound} (hh : hostGood mem) (hf : s.bayFirst i = true)
    (hg : s.going id opMOUNT i) (hb : s.bayState i.bay.val = bREADY ∨ s.bayState i.bay.val = bREADING) (hx : x.sideMismatch = false)
    (hk : ∃ k ∈ opusOf i.bay, s.get (F.RCH_SPK_STAT_SIDE_MISMATCH k.val) = 0) {d : Disc} {ext seq : Nat} {b : List Byte}
    (hd : (mountIdentity x).bind (fun y => s.disc y.1) = some d) (hi : x.imageMissing = true) (hm : x.maps = [(ext, seq, b)])
    (hc : s.cache = []) :
    ∃ t o, exec (.mount id mem x) s = .next t ∧ SameBut (.requests :: .bays :: .writers :: .cal :: settleParts) s t ∧
      t.finished i cSUCCESS (d.id % 2 ^ 32) ∧ (t.disc d.id).any (fun y => y.bay == some i.bay) = true ∧ Counted Ev.MAP_RECOVERED s t ∧
      t.extent d.vol ext = readMapEntry d.vol ext seq b ∧ (∀ e ≠ ext, t.extent d.vol e = s.extent d.vol e) ∧
      t.out = s.out ++ x.invalid.map (fun r => .badRecord i.bay.val r.1 r.2) ++ o := by
  obtain ⟨ok, -⟩ := hh
  obtain ⟨y, -, known⟩ := Option.bind_eq_some_iff.mp hd
  refine Post.answer_exists (Post.performBay_again hg hf (Post.continueMount_ends hb hx hk (Post.endMount_mounts ok hd ?_)))
  refine Post.mountDisc_rebuilds (State.disc_self known) hi hm fun u rebuilt v hv grows => ?_
  rw [hg.id_eq]
  have rings : ringsOf v = ringsOf s := (ringsOf_same (hv.mono rfl)).trans rebuilt.rings
  refine Post.complete_going (hg.congr rings) fun w quiet done => Post.settle_empty quiet ?_ fun t ht view => ?_
  · rw [show w.cache = v.cache from done.frame .cache (by simp), show v.cache = u.cache from hv .cache rfl,
      show u.cache = (s.mountRead i.bay x).cache from rebuilt.frame .cache (by decide)]
    exact hc
  obtain ⟨finished, frame, more⟩ := done.settled ht
  obtain ⟨o, out⟩ := grows.trans more
  have viewed : mapView t = mapView u := view.trans
    ((mapView_same (done.frame .extents (by simp)) (done.frame .evtRegs (by simp)) (done.frame .discs (by simp))).trans
      (mapView_same (hv .extents rfl) (hv .evtRegs rfl) (hv .discs rfl)))
  have map : t.extents = (s.withExtent d.vol ext (readMapEntry d.vol ext seq b)).extents := (congrArg Prod.fst viewed).trans rebuilt.map
  have entry : (readMapEntry d.vol ext seq b).maps d.vol ext = true := by simp [Extent.maps, readMapEntry]
  refine ⟨o, ?_, finished, ?_, ?_, ?_, ?_, out.symm⟩
  · refine ((s.mountRead_frame i.bay x).mono (by decide)).trans ((rebuilt.frame.mono (by decide)).trans (SameBut.trans ?_ (frame.mono (by decide))))
    exact SameBut.ofMask hv (by decide)
  · have bay : discBay t d.id = some (some i.bay) := (congrFun (congrArg (·.2.2) viewed) d.id).trans rebuilt.bay
    obtain ⟨y, hy, mounted⟩ := Option.map_eq_some_iff.mp bay
    simp [hy, mounted]
  · exact rebuilt.counted.of (congrFun (congrArg (·.2.1) viewed) _)
  · rw [State.extent_congr map, State.extent_withExtent_self s entry]
  · intro n hn
    rw [State.extent_congr map, State.extent_withExtent_ne s entry hn]

/-- Settles O60: one lemma for each way in which the MOUNT ends. -/
theorem mountsReadWhatTheDiscHolds : Obligations.MountsReadWhatTheDiscHolds := by
  unfold Obligations.MountsReadWhatTheDiscHolds
  exact fun s id i mem x hh hf hg hb => ⟨fun hx hm _ => exec_mount_wrongSide hf hg hb hx hm, fun hx hk =>
    ⟨exec_mount_attaches hh hf hg hb hx hk, fun d ext seq b hd hi hm hc => exec_mount_rebuilds hh hf hg hb hx hk hd hi hm hc⟩⟩

end Sys2Proof.Machine
end

section
/-! What stands between two spokes: the registers that show what the last ones brought, and whether a command waits for one (R90, R124). -/

namespace Sys2Proof.Machine

/-- The registers that show what the last spokes brought: SPK_STAT but its mismatch of the side, SPK_POS, and the counts of accepted and missed
spokes (R90). -/
def Fld.ofSpoke (f : Fld) : Prop :=
  f.window = .rchRegs ∧ f.addr % 0x10000 ∈ [0x808, 0x80C, 0x818, 0x828] ∧ f.lo % 64 ≠ 9

theorem Fld.ofSpoke_of_key {f g : Fld} (h : f.key = g.key) (hf : f.ofSpoke) : g.ofSpoke := by
  have lo : f.lo % 64 = g.lo % 64 := by unfold Fld.key at h; omega
  obtain ⟨window, block, bit⟩ := hf
  exact ⟨(Fld.window_of_key h) ▸ window, (Fld.addr_of_key h) ▸ block, lo ▸ bit⟩

/-- The registers of the RF inputs lie below the spoke registers of their OPU (R212). -/
theorem not_ofSpoke_input {i c lo w rst : Nat} (h : c < 0x100) : ¬ Fld.ofSpoke ⟨F.rchinBase i + c, lo, w, rst⟩ := by
  rintro ⟨-, block, -⟩
  simp only [F.rchinBase, List.mem_cons, List.not_mem_nil, or_false] at block
  omega

/-- The registers of the joint detector lie above them (R238). -/
theorem not_ofSpoke_detector {k c lo w rst : Nat} (h : 0xA00 ≤ c) (h' : c < 0x1000) : ¬ Fld.ofSpoke ⟨F.rchBase k + c, lo, w, rst⟩ := by
  rintro ⟨-, block, -⟩
  simp only [F.rchBase, List.mem_cons, List.not_mem_nil, or_false] at block
  omega

theorem not_ofSpoke_side (k : Nat) : ¬ (F.RCH_SPK_STAT_SIDE_MISMATCH k).ofSpoke := fun ⟨_, _, bit⟩ => bit rfl

/-- The registers of a spoke stand but for those with a key of `K`, and the sequencer of OPU `k` comes to wait for no spoke that it did not wait for: neither for that
of a pending command nor for one of layer 0 (R124, R125). -/
structure LockStands (K : List Nat) (k : Fin 8) (s t : State) : Prop where
  regs : ∀ f : Fld, f.ofSpoke → f.key ∉ K → t.get f = s.get f
  phase : t.optics[k].phase = s.optics[k].phase ∨ t.optics[k].phase ≠ .pending ∧ t.optics[k].phase ≠ .spokes

variable {K : List Nat} {k : Fin 8}

theorem LockStands.refl (K : List Nat) (k : Fin 8) (s : State) : LockStands K k s s := ⟨fun _ _ _ => rfl, .inl rfl⟩

theorem LockStands.trans {s t u : State} (h : LockStands K k s t) (h' : LockStands K k t u) : LockStands K k s u where
  regs f hf hk := (h'.regs f hf hk).trans (h.regs f hf hk)
  phase := h'.phase.elim (fun e => e ▸ h.phase) .inr

theorem LockStands.mono {K' : List Nat} {s t : State} (h : LockStands K k s t) (hk : ∀ x ∈ K, x ∈ K') : LockStands K' k s t :=
  ⟨fun f hf hn => h.regs f hf fun hm => hn (hk _ hm), h.phase⟩

theorem LockStands.notPending {s t : State} (h : LockStands K k s t) (hs : s.optics[k].phase ≠ .pending) : t.optics[k].phase ≠ .pending :=
  h.phase.elim (fun e => e ▸ hs) And.left

theorem LockStands.notSpokes {s t : State} (h : LockStands K k s t) (hs : s.optics[k].phase ≠ .spokes) : t.optics[k].phase ≠ .spokes :=
  h.phase.elim (fun e => e ▸ hs) And.right

theorem LockStands.put (s : State) {g : Fld} (v : Nat) (h : g.ofSpoke → g.key ∈ K) : LockStands K k s (s.put g v) where
  regs _ hf hk := s.get_put_ne v fun e => hk (e ▸ h (Fld.ofSpoke_of_key e hf))
  phase := .inl rfl

/-- Every part but the registers of the read channel and the optics. -/
def besideLock : Nat := 2 ^ 61 - 1 - 2 ^ Part.rchRegs.idx - 2 ^ Part.optics.idx

theorem LockStands.same {s t : State} (h : Same besideLock s t) : LockStands K k s t :=
  ⟨fun _ hf _ => h.get hf.1 (by decide) rfl, .inl (by rw [show t.optics = s.optics from h .optics rfl])⟩

/-! ### Programs that let it stand -/

/-- From every state the program runs to an answer, and what the spokes brought stands but for the keys of `K`. -/
def LeavesLock {α : Type} (K : List Nat) (k : Fin 8) (m : Act α) : Prop := ∀ s, Act.Post m s fun _ t => LockStands K k s t

namespace LeavesLock

variable {α β : Type} {m : Act α}

theorem pure (a : α) : LeavesLock K k (Pure.pure a : Act α) := fun s => Post.pure (.refl K k s)

theorem rd {f : State → Act β} (h : ∀ s, LeavesLock K k (f s)) : LeavesLock K k (Machine.rd >>= f) := fun s => Post.rdThen (h s s)

theorem bind {f : α → Act β} (h : LeavesLock K k m) (h' : ∀ a, LeavesLock K k (f a)) : LeavesLock K k (m >>= f) :=
  fun s => Post.bind (Post.mono (h s) fun a t ht => Post.mono (h' a t) fun _ _ hu => ht.trans hu)

theorem ite {c : Prop} [Decidable c] {n : Act α} (h : LeavesLock K k m) (h' : LeavesLock K k n) : LeavesLock K k (if c then m else n) :=
  fun s => Post.ite (fun _ => h s) fun _ => h' s

/-- A step that is taken under a condition, and what follows it. -/
theorem optional {c : Prop} [Decidable c] {m : Act Unit} {f : Unit → Act β} (h : LeavesLock K k m) (h' : ∀ a, LeavesLock K k (f a)) :
    LeavesLock K k (if c then m >>= f else f ()) := ite (bind h h') (h' ())

theorem forAll {ι : Type} {l : List ι} {m : ι → Act Unit} (h : ∀ a, LeavesLock K k (m a)) : LeavesLock K k (Machine.forAll l m) := by
  induction l with
  | nil => exact pure ()
  | cons a as ih => exact bind (h a) fun _ => ih

theorem mono {K' : List Nat} (h : LeavesLock K k m) (hk : ∀ x ∈ K, x ∈ K') : LeavesLock K' k m :=
  fun s => Post.mono (h s) fun _ _ ht => ht.mono hk

theorem touches (h : Touches besideLock m) : LeavesLock K k m := fun _ => Post.touches h fun _ _ same => .same same

/-- A field of another window. -/
theorem reg {p : Part} {g : Fld} {v : Nat} (h : g.window = p) (hp : Nat.lor (2 ^ p.idx) besideLock = besideLock) :
    LeavesLock K k (Machine.setF g v) := touches (Touches.setF h hp)

/-- An effect on another part. -/
theorem part (p : Part) {e : Eff} (h : e.mask = 2 ^ p.idx) (hp : Nat.lor (2 ^ p.idx) besideLock = besideLock) :
    LeavesLock K k (Machine.emit e) := touches (Touches.emitM h hp)

theorem setF {g : Fld} {v : Nat} (h : g.ofSpoke → g.key ∈ K) : LeavesLock K k (Machine.setF g v) := fun s => Post.setF (.put s v h)

theorem optic {j : Fin 8} {g : Optic → Optic} (h : ∀ o, (g o).phase = o.phase ∨ (g o).phase ≠ .pending ∧ (g o).phase ≠ .spokes) :
    LeavesLock K k (Machine.emit (.optic j g)) := fun s => Post.emit ⟨fun _ _ _ => rfl, by
  by_cases e : j = k
  · subst e
    rw [apply_optic_self]
    exact h _
  · exact .inl (by rw [apply_optic_ne _ _ e])⟩

/-- The optics change, but no phase does. -/
theorem opticKeeping {j : Fin 8} {g : Optic → Optic} (h : ∀ o, (g o).phase = o.phase) : LeavesLock K k (Machine.emit (.optic j g)) :=
  optic fun o => .inl (h o)

/-- A phase begins that waits for neither spoke. -/
theorem opticTo {j : Fin 8} {g : Optic → Optic} (p : OptPhase) (h : ∀ o, (g o).phase = p) (hp : p ≠ .pending ∧ p ≠ .spokes) :
    LeavesLock K k (Machine.emit (.optic j g)) := optic fun o => .inr (h o ▸ hp)

end LeavesLock

/-! ### Writes, lasers and sequences that end -/

theorem endWrite_leavesLock (j : Fin 8) (n reason : Nat) : LeavesLock K k (endWrite j n reason) := by
  have gate : LeavesLock K k (closeGate j) := .opticKeeping fun _ => rfl
  unfold endWrite
  refine .bind (.rd fun s => .pure _) fun w => .ite (.bind (.part .writers rfl rfl) fun _ =>
    .bind (.reg (F.WRP_STAT_STATE_window _) rfl) fun _ => .optional ?_ fun _ => gate) gate
  exact .touches (abortWriteCal_touches j rfl)

theorem stopWriteNow_leavesLock (j : Fin 8) : LeavesLock K k (stopWriteNow j) := by
  unfold stopWriteNow
  refine .rd fun s => .optional (.touches (sendFrame_touches j _ rfl)) fun _ => ?_
  exact .bind (.part .writers rfl rfl) fun _ => endWrite_leavesLock j _ _

theorem dropLaser_leavesLock (j : Fin 8) : LeavesLock K k (dropLaser j) := by
  unfold dropLaser
  refine .bind (stopWriteNow_leavesLock j) fun _ => .bind (.touches (cutTraining_touches j rfl)) fun _ =>
    .rd fun s => .optional ?_ fun _ => .opticKeeping fun _ => rfl
  exact .part .life rfl rfl

theorem optEnd_leavesLock (j : Fin 8) (result : Nat) : LeavesLock K k (optEnd j result) := by
  unfold optEnd
  refine .bind (.rd fun s => .pure _) fun s => .optional (.touches (freeze_touches j _ _ rfl)) fun _ => ?_
  exact .bind (.reg (F.BAY_OPT_CMD_CMD_window _) rfl) fun _ =>
    .bind (.reg (F.BAY_OPT_STAT_RESULT_window _) rfl) fun _ =>
    .bind (.reg (F.BAY_OPT_STAT_JUMP_window _) rfl) fun _ =>
    .bind (.reg (F.BAY_OPT_STAT_LAYER_JUMP_window _) rfl) fun _ =>
    .bind (.reg (F.BAY_OPT_STAT_PULL_IN_window _) rfl) fun _ => .opticTo .idle (fun _ => rfl) (by decide)

theorem retract_leavesLock (j : Fin 8) : LeavesLock K k (retract j) := by
  unfold retract
  refine .bind (dropLaser_leavesLock j) fun _ => .rd fun s => .ite ?_ (.pure ())
  refine .bind (.rd fun s => .ite (optEnd_leavesLock j _) (.pure ())) fun _ => ?_
  exact .bind (.touches (freeze_touches j _ _ rfl)) fun _ => .bind (.touches (freeze_touches j _ _ rfl)) fun _ =>
    .bind (.reg (F.BAY_OPT_STAT_FOCUS_LOCKED_window _) rfl) fun _ =>
    .bind (.reg (F.BAY_OPT_STAT_ON_TRACK_window _) rfl) fun _ =>
    .bind (.reg (F.BAY_OPT_CMD_CMD_window _) rfl) fun _ => .opticTo .retracting (fun _ => rfl) (by decide)

/-! ### Bays that change their state -/

theorem setBay_leavesLock (b : Fin 4) (st : Nat) : LeavesLock K k (setBay b st) := by
  have side (j : Fin 8) : LeavesLock K k (setF (F.RCH_SPK_STAT_SIDE_MISMATCH j.val) 0) := .setF fun h => absurd h (not_ofSpoke_side _)
  have capture (j : Fin 8) : LeavesLock K k (endCapture j) :=
    .bind (.part .detectors rfl rfl) fun _ => .setF fun h => absurd h (not_ofSpoke_detector (by decide) (by decide))
  unfold setBay
  refine .rd fun s => .ite (.bind (.reg (F.BAY_STAT_STATE_window _) rfl) fun _ => ?_) (.pure ())
  refine .optional (.forAll fun j => .bind (side j) fun _ => .part .spokes rfl rfl) fun _ => ?_
  refine .bind (.touches (abortBayCal_touches _ _ _ rfl)) fun _ => .bind (.touches (noteUse_touches _ _ _ rfl)) fun _ => ?_
  exact .optional (.forAll capture) fun _ => .touches (raiseBay_touches _ _ _ _ _ rfl)

theorem finishPark_leavesLock (b : Fin 4) : LeavesLock K k (finishPark b) := by
  unfold finishPark
  refine .rd fun s => .ite (.ite (.bind ?_ fun _ => setBay_leavesLock b _) (setBay_leavesLock b _)) (.pure ())
  exact .part .bays rfl rfl

theorem parkBay_leavesLock (b : Fin 4) : LeavesLock K k (parkBay b) := by
  unfold parkBay
  refine .rd fun s => .bind (.forAll fun m => .touches (stopMotor_touches m rfl)) fun _ => .ite ?_ (.pure ())
  refine .bind (setBay_leavesLock b _) fun _ => .bind (.forAll fun j => .bind (retract_leavesLock j) fun _ => .opticKeeping fun _ => rfl) fun _ => ?_
  exact .bind (.touches (parkSled_touches _ rfl)) fun _ => .bind (.touches (parkSled_touches _ rfl)) fun _ => finishPark_leavesLock b

theorem parkToFaulted_leavesLock (b : Fin 4) : LeavesLock K k (parkToFaulted b) := by
  have bay (g : Bay → Bay) : LeavesLock K k (emit (.bay b g)) := .part .bays rfl rfl
  unfold parkToFaulted
  exact .rd fun s => .ite (bay _) (.ite (.bind (bay _) fun _ => parkBay_leavesLock b) (setBay_leavesLock b _))

/-! ### Sequences that begin -/

theorem beginPullIn_leavesLock (j : Fin 8) (cmd : Nat) : LeavesLock K k (beginPullIn j cmd) := by
  unfold beginPullIn
  refine .rd fun s => .ite ?_ (.pure ())
  exact .bind (.reg (F.BAY_OPT_CMD_CMD_window _) rfl) fun _ =>
    .bind (.reg (F.BAY_OPT_STAT_PULL_IN_window _) rfl) fun _ =>
    .bind (.touches (freeze_touches j _ _ rfl)) fun _ => .opticTo .velocity (fun _ => rfl) (by decide)

theorem beginJump_leavesLock (j : Fin 8) (dist : Int) (cmd : Nat) : LeavesLock K k (beginJump j dist cmd) := by
  unfold beginJump
  refine .rd fun s => .bind (.reg (F.BAY_OPT_CMD_CMD_window _) rfl) fun _ =>
    .bind (.reg (F.BAY_OPT_STAT_JUMP_window _) rfl) fun _ => .bind (.touches (freeze_touches j _ _ rfl)) fun _ => ?_
  exact .bind (.part .spokes rfl rfl) fun _ => .opticTo .jumpPulse (fun _ => rfl) (by decide)

theorem beginAcquire_leavesLock (j : Fin 8) (layer : Nat) : LeavesLock K k (beginAcquire j layer) := by
  unfold beginAcquire
  refine .rd fun s => .bind (.rd fun s => .opticKeeping fun _ => rfl) fun _ => .bind (.rd fun s => .opticKeeping fun _ => rfl) fun _ => ?_
  exact .bind (.reg (F.BAY_OPT_CMD_CMD_window _) rfl) fun _ =>
    .bind (.reg (F.BAY_OPT_STAT_LAYER_window _) rfl) fun _ =>
    .bind (.touches (freeze_touches j _ _ rfl)) fun _ => .opticTo .sweep (fun _ => rfl) (by decide)

theorem pulledIn_leavesLock (j : Fin 8) : LeavesLock K k (pulledIn j) := by
  unfold pulledIn
  exact .bind (optEnd_leavesLock j _) fun _ => .bind (.reg (F.BAY_OPT_STAT_FAIL_RUN_window _) rfl) fun _ => .opticKeeping fun _ => rfl

theorem jumpLanded_leavesLock (j : Fin 8) (late : Bool) : LeavesLock K k (jumpLanded j late) := by
  unfold jumpLanded
  refine .rd fun s => .bind (.reg (F.BAY_OPT_STAT_JUMP_window _) rfl) fun _ => .optional (m := do
      incStop (F.BAY_JUMP_LATE_CNT_CNT j.val)
      raiseOpu j Ev.iJUMP_LATE) ?_ fun _ => ?_
  · exact .touches ((Touches.incStop (F.BAY_JUMP_LATE_CNT_CNT_window _) rfl).bind fun _ => raiseOpu_touches _ _ _ _ rfl)
  refine .ite (.bind (.touches (freeze_touches j _ _ rfl)) fun _ => .bind ?_ fun _ => .ite (pulledIn_leavesLock j) (.pure ())) (optEnd_leavesLock j _)
  exact .opticTo .settling (fun _ => rfl) (by decide)

/-! ### On track, jumps that land and pull-in -/

theorem clearOnTrack_leavesLock (j : Fin 8) : LeavesLock K k (clearOnTrack j) := by
  unfold clearOnTrack
  refine .rd fun s => .bind (.opticKeeping fun _ => rfl) fun _ => .ite (.bind ?_ fun _ => .opticKeeping fun _ => rfl) (.pure ())
  exact .reg (F.BAY_OPT_STAT_ON_TRACK_window _) rfl

theorem updateOnTrack_leavesLock (j : Fin 8) (good bad : Bool) : LeavesLock K k (updateOnTrack j good bad) := by
  have set : LeavesLock K k (onTrackSet j) :=
    .bind (.reg (F.BAY_OPT_STAT_ON_TRACK_window _) rfl) fun _ =>
      .bind (.reg (F.BAY_OPT_STAT_PULL_IN_window _) rfl) fun _ => .bind (.opticKeeping fun _ => rfl) fun _ =>
      .rd fun s => .ite (pulledIn_leavesLock j) (.pure ())
  unfold updateOnTrack
  exact .rd fun s => .ite (.ite (clearOnTrack_leavesLock j) (.pure ())) (.bind (.opticKeeping fun _ => rfl) fun _ => .ite set (.pure ()))

theorem landJump_leavesLock (j : Fin 8) (good : Bool) (index : Nat) : LeavesLock K k (landJump j good index) := by
  unfold landJump
  refine .rd fun s => ?_
  dsimp only
  split
  · exact .ite (.opticKeeping fun _ => rfl) (.ite (jumpLanded_leavesLock j _) (.pure ()))
  · exact .ite (.bind (.opticKeeping fun _ => rfl) fun _ => .ite (jumpLanded_leavesLock j _) (.pure ())) (.pure ())

theorem pullInSpoke_leavesLock (j : Fin 8) (t : Nat) (pes : Int) : LeavesLock K k (pullInSpoke j t pes) := by
  have phase (p : OptPhase) (hp : p ≠ .pending ∧ p ≠ .spokes) : LeavesLock K k (optPhase j p) := .opticTo p (fun _ => rfl) hp
  unfold pullInSpoke
  refine .rd fun s => .bind (.opticKeeping fun _ => rfl) fun _ => ?_
  split
  · exact .pure ()
  refine .ite (.bind (.touches (freeze_touches j _ _ rfl)) fun _ => ?_) (.pure ())
  refine .ite (.ite (pulledIn_leavesLock j) (phase _ (by decide))) (.ite (.bind ?_ fun _ => beginJump_leavesLock j _ _) (.bind ?_ fun _ => ?_))
  · exact .opticKeeping fun _ => rfl
  · exact phase _ (by decide)
  · exact .touches (requestSeek_touches _ _ rfl)

/-- A sequence that waits for no spoke of layer 0 leaves the lock as it is: LAYER_JUMP begins from such a spoke alone (R125, R127). -/
theorem Post.sequenceSpoke_leavesLock {t layer : Nat} {pes : Int} {s : State} (h : s.optics[k].phase ≠ .spokes) :
    Act.Post (sequenceSpoke k t layer pes) s fun _ u => LockStands K k s u := by
  unfold Machine.sequenceSpoke
  refine Post.rdThen ?_
  dsimp only
  split
  next waits => exact absurd waits h
  next => exact LeavesLock.ite (beginPullIn_leavesLock k _) (.pure ()) s
  next => exact pullInSpoke_leavesLock k t pes s
  next => exact Post.pure (.refl K k s)

/-! ### Landings of a sled, and the bay that follows its drives -/

theorem seekLanded_leavesLock (j : Fin 8) (t : Nat) : LeavesLock K k (seekLanded j t) := by
  have axis (g : Axis → Axis) : LeavesLock K k (emit (.axis (sledOf j) g)) := .part .axes rfl rfl
  have raised (i : Nat) : LeavesLock K k (raiseAxis (sledOf j) i) := .touches (raiseAxis_touches _ _ _ rfl)
  have set {f : Fld} (v : Nat) (h : f.window = .stpRegs) : LeavesLock K k (setF f v) := .touches (Touches.setF h rfl)
  unfold seekLanded
  refine .rd fun s => .bind (set _ (F.STP_LAST_SLIP_SLIP_window _)) fun _ => .bind (set _ (F.STP_POS_POS_window _)) fun _ => ?_
  refine .optional (.touches (Touches.incStop (F.STP_SLIP_CNT_CNT_window _) rfl)) fun _ => ?_
  refine .optional (.bind (set _ (F.STP_STAT_SLIP_window _)) fun _ => raised _) fun _ => ?_
  refine .bind (set _ (F.STP_STAT_STATE_window _)) fun _ => .bind (set _ (F.STP_STAT_RESULT_window _)) fun _ => .bind (axis _) fun _ => ?_
  refine .bind (.touches (startPair_touches _ _ rfl)) fun _ => .bind (.part .spokes rfl rfl) fun _ => ?_
  refine .ite (.bind (.opticKeeping fun _ => rfl) fun _ => .bind (raised _) fun _ => parkToFaulted_leavesLock _) (.ite ?_ ?_)
  · exact .bind (.opticKeeping fun _ => rfl) fun _ => .ite (beginPullIn_leavesLock j _) (.pure ())
  · exact .bind (.opticKeeping fun _ => rfl) fun _ => .touches (requestSeek_touches _ _ rfl)

theorem landingSpoke_leavesLock (j : Fin 8) (t : Option Nat) : LeavesLock K k (landingSpoke j t) := by
  unfold landingSpoke
  refine .bind (.part .axes rfl rfl) fun _ => .rd fun s => ?_
  split
  · exact .ite (seekLanded_leavesLock j _) (.pure ())
  · exact .pure ()

theorem settleBay_leavesLock (b : Fin 4) : LeavesLock K k (settleBay b) := by
  unfold settleBay
  refine .rd fun s => .ite (.ite (.bind ?_ fun _ => .bind (parkBay_leavesLock b) fun _ => ?_) (.optional (setBay_leavesLock b _) fun _ => ?_)) ?_
  · exact .part .bays rfl rfl
  all_goals
    refine .rd fun s => .optional (setBay_leavesLock b _) fun _ => .rd fun s => .ite (.ite (setBay_leavesLock b _) ?_) (.pure ())
    exact .forAll fun j => .rd fun s => .ite (beginAcquire_leavesLock j _) (.pure ())

/-! ### The write gate -/

/-- The parts that the write gate may touch beside its own flag. -/
def gateMask : Nat := partsMask [.evtRegs, .seqRegs, .hstRegs, .wrpRegs, .calRegs, .evq, .out, .chip, .fns, .optics, .writers, .cal, .seqs]

theorem sendStart_leavesLock (j : Fin 8) : LeavesLock K k (sendStart j) := by
  have gate : LeavesLock K k (closeGate j) := .opticKeeping fun _ => rfl
  unfold sendStart
  refine .rd fun s => .bind gate fun _ => .ite (.bind (.touches (wroteBits_touches _ _ _ rfl)) fun _ => .ite ?_ (.pure ())) (.pure ())
  exact .bind (.touches (sendFrame_touches _ _ rfl)) fun _ => .bind (.touches (sendSymbols_touches _ _ _ _ rfl)) fun _ =>
    .bind (.opticKeeping fun _ => rfl) fun _ => .part .writers rfl rfl

/-- The write gate shows its flag; beside it no register of the read channel changes, and nothing of the lock (R87). -/
theorem Post.writeGate {ok : Bool} {s : State} {Q : Unit → State → Prop}
    (q : ∀ t, Same gateMask (s.put (F.RCH_SPK_STAT_WR_GATE_OK k.val) ok.toNat) t →
      LockStands [] k (s.put (F.RCH_SPK_STAT_WR_GATE_OK k.val) ok.toNat) t → Q () t) : Act.Post (writeGate k ok) s Q := by
  unfold Machine.writeGate
  refine Post.rdThen (Post.setThen (Post.andTouches (Post.mono (LeavesLock.bind ?_ (fun _ => ?_) _) fun _ t stands same => q t same stands) ?_))
  · exact .part .writers rfl rfl
  · refine .ite (.ite (sendStart_leavesLock k) (.ite (.bind (stopWriteNow_leavesLock k) fun _ => .ite ?_ (.pure ())) ?_)) (.pure ())
    · exact .touches (raiseOpu_touches _ _ _ _ rfl)
    · exact .opticKeeping fun _ => rfl
  · refine .bind (Touches.emitM (M := 2 ^ Part.writers.idx) rfl rfl) fun _ => .ite (.ite (sendStart_touches k rfl) (.ite ?_ ?_)) (.pure ())
    · exact .bind (stopWriteNow_touches k rfl) fun _ => .ite (raiseOpu_touches _ _ _ _ rfl) (.pure ())
    · exact closeGate_touches k rfl

theorem writeGate_leavesLock (ok : Bool) : LeavesLock [(F.RCH_SPK_STAT_WR_GATE_OK k.val).key] k (writeGate k ok) :=
  fun s => Post.writeGate fun _ _ stands => (LockStands.put s _ fun _ => List.mem_singleton_self _).trans (stands.mono (by simp))

/-! ### Lanes -/

theorem applyHeld_leavesLock (i : Fin 32) : LeavesLock K k (applyHeld i) := by
  have set {c lo w rst : Nat} (v : Nat) (h : c < 0x100) : LeavesLock K k (setF ⟨F.rchinBase i.val + c, lo, w, rst⟩ v) :=
    .setF fun hf => absurd hf (not_ofSpoke_input h)
  have trim (j : Nat) : 0x40 + 0x4 * (j % 16) < 0x100 := by omega
  have change (c : HeldChange) : LeavesLock K k (applyChange i.val c) := by
    cases c with
    | map v => exact set _ (by decide)
    | sub v => exact .bind (set _ (by decide)) fun _ => .bind (set _ (by decide)) fun _ => set _ (by decide)
    | trim j v => 
      unfold applyChange F.RCH_IN_TRIM_OFFSET F.RCH_IN_TRIM_GAIN F.RCH_IN_TRIM_SKEW
      simp only [Nat.add_assoc (F.rchinBase i.val)]
      exact .bind (set _ (trim j)) fun _ => .bind (set _ (trim j)) fun _ => set _ (trim j)
    | polarity b => exact set _ (by decide)
    | pga v => exact .bind (set _ (by decide)) fun _ => .rd fun _ => .part .inputs rfl rfl
  exact .rd fun s => .bind (.forAll change) fun _ => .part .inputs rfl rfl

theorem inputInverted_leavesLock (i : Fin 32) : LeavesLock K k (inputInverted i) := by
  unfold inputInverted holdChange
  refine .bind (.setF fun h => absurd h (not_ofSpoke_input (by decide))) fun _ => .bind (.touches (raiseRf_touches _ _ rfl)) fun _ => ?_
  refine .bind (.part .inputs rfl rfl) fun _ => .rd fun s => ?_
  split
  all_goals exact .ite (applyHeld_leavesLock i) (.pure ())

theorem sparesGone_leavesLock (i : Fin 32) : LeavesLock K k (sparesGone i) := by
  unfold sparesGone reducedRead
  refine .bind (.touches (raiseRf_touches _ _ rfl)) fun _ => .ite (.bind (.rd fun s => .pure _) fun u => ?_) (.pure ())
  exact .bind (.setF fun h => absurd h (not_ofSpoke_detector (by decide) (by decide))) fun _ =>
    .bind (.setF fun h => absurd h (not_ofSpoke_detector (by decide) (by decide))) fun _ => .touches (raise_touches _ _ _ _ rfl)

theorem showBound_leavesLock (i : Nat) : LeavesLock K k (showBound i) := by
  have set {c lo w rst : Nat} (v : Nat) (h : c < 0x100) : LeavesLock K k (setF ⟨F.rchinBase i + c, lo, w, rst⟩ v) :=
    .setF fun hf => absurd hf (not_ofSpoke_input h)
  unfold showBound
  refine .rd fun s => ?_
  split
  all_goals exact .bind (set _ (by decide)) fun _ => set _ (by decide)

theorem bindLane_leavesLock (n : Fin 36) (i : Nat) : LeavesLock K k (bindLane n i) := by
  unfold bindLane
  exact .bind (.reg (F.RCH_LANE_BIND_INPUT_window _) rfl) fun _ =>
    .bind (.reg (F.RCH_LANE_BIND_ENABLE_window _) rfl) fun _ =>
    .bind (.reg (F.RCH_LANE_FREQ_FREQ_window _) rfl) fun _ =>
    .bind (.reg (F.RCH_LANE_STAT_STATE_window _) rfl) fun _ =>
    .bind (.part .lanes rfl rfl) fun _ => showBound_leavesLock i

theorem unbindLane_leavesLock (n : Fin 36) : LeavesLock K k (unbindLane n) := by
  unfold unbindLane
  exact .bind (.rd fun s => .pure _) fun i => .bind (.reg (F.RCH_LANE_BIND_ENABLE_window _) rfl) fun _ =>
    .bind (.reg (F.RCH_LANE_STAT_STATE_window _) rfl) fun _ => showBound_leavesLock i

theorem endTrial_leavesLock (i : Fin 32) : LeavesLock K k (endTrial i) := by
  have ended (d : SingleFault) : LeavesLock K k (endSingle d) := .touches (endSingle_touches _ rfl)
  unfold endTrial
  refine .rd fun s => ?_
  split
  · exact .pure ()
  refine .bind (.reg (F.RCH_LANE_STAT_TRIAL_window _) rfl) fun _ =>
    .bind (.part .inputs rfl rfl) fun _ => ?_
  dsimp only
  split
  · refine .ite (.bind (.touches (takeover_touches _ rfl)) fun _ => ended _) (.bind (unbindLane_leavesLock _) fun _ => ?_)
    exact .bind (bindLane_leavesLock _ _) fun _ => ended _
  · exact .optional (bindLane_leavesLock _ _) fun _ => ended _

theorem bindNext_leavesLock (i : Fin 32) : LeavesLock K k (bindNext i) := by
  have input (g : Input → Input) : LeavesLock K k (emit (.input i g)) := .part .inputs rfl rfl
  have ended (d : SingleFault) : LeavesLock K k (endSingle d) := .touches (endSingle_touches _ rfl)
  have bound (n : Fin 36) : LeavesLock K k (bindLane n i.val) := bindLane_leavesLock n i.val
  unfold bindNext
  refine .rd fun s => ?_
  split
  · exact .pure ()
  · exact endTrial_leavesLock i
  · refine .bind (input _) fun _ => .bind (applyHeld_leavesLock i) fun _ => ?_
    dsimp only
    split
    · exact .bind (bound _) fun _ => .bind (.touches (takeover_touches _ rfl)) fun _ => ended _
    · exact .bind (sparesGone_leavesLock i) fun _ => ended _
  · refine .bind (input _) fun _ => .bind (applyHeld_leavesLock i) fun _ => ?_
    split
    · exact .bind (bound _) fun _ => input _
    · exact .bind (.touches (raiseRf_touches _ _ rfl)) fun _ => .bind (.reg (F.RCH_LANE_STAT_TRIAL_window _) rfl) fun _ =>
        .bind (bound _) fun _ => ended _

theorem spokeLanes_leavesLock (j : Fin 8) : LeavesLock K k (spokeLanes j) := by
  unfold spokeLanes
  refine .rd fun s => .ite (.bind (.part .spokes rfl rfl) fun _ =>
    .bind (inputInverted_leavesLock _) fun _ => ?_) ?_
  all_goals
    refine .bind (.forAll fun spot => bindNext_leavesLock _) fun _ => .forAll fun n => .rd fun s => .ite ?_ (.pure ())
    exact .reg (F.RCH_LANE_STAT_STATE_window _) rfl
end Sys2Proof.Machine
end

section
/-! What a spoke is decoded from, and what it ends with (R78 to R87, R124, R194). -/

namespace Sys2Proof.Machine

variable {k : Fin 8}

/-- A program of which it matters that it leaves the lock as it is. -/
theorem Post.stands (k : Fin 8) {α : Type} {m : Act α} {s : State} {Q : α → State → Prop} (h : LeavesLock [] k m) (q : ∀ a t, LockStands [] k s t → Q a t) :
    Act.Post m s Q := Post.mono (h s) q

/-! ### What the demodulator sees -/

/-- The register fields by which a spoke is looked for and checked (R78 to R80). -/
def sightFields (k : Fin 8) : List Fld :=
  [F.RCH_SPK_STAT_STATE k.val, F.RCH_SPK_PERIOD_PERIOD k.val, F.RCH_SPK_CTL_WIN k.val, F.RCH_SPK_CTL_SYNC_MIN k.val, F.RCH_SPK_CTL_TRK_WIN k.val,
   F.BAY_OPT_STAT_JUMP k.val, F.BAY_OPT_STAT_LAYER_JUMP k.val, F.BAY_OPT_STAT_LAYER k.val, F.MOT_SPEED_RPM (k.val / 2), F.STP_STAT_STATE (sledOf k).val]

/-- All by which a spoke is looked for and checked: those fields, the seek of the sled, and the flywheel with its expected index and track. -/
def sight (k : Fin 8) (s : State) : List Nat × Option Nat × Nat × Nat × Nat :=
  ((sightFields k).map s.get, s.axes[sledOf k].seek, s.spokes[k].lastSync, s.spokes[k].index, s.spokes[k].tExp)

theorem State.spokeState_sight {s t : State} (h : sight k t = sight k s) : t.spokeState k = s.spokeState k := by
  simp only [sight, sightFields, List.map_cons, Prod.mk.injEq, List.cons.injEq] at h
  exact h.1.1

theorem State.pickSync_sight {s t : State} (h : sight k t = sight k s) (x : SpokeRead) : t.pickSync k x = s.pickSync k x := by
  simp only [sight, sightFields, List.map_cons, Prod.mk.injEq, List.cons.injEq] at h
  obtain ⟨⟨state, period, win, least, -, -, -, -, speed, -⟩, -, sync, -⟩ := h
  have hp : t.spokePeriod k = s.spokePeriod k := by
    unfold State.spokePeriod State.spokeState State.geti
    rw [state, period, speed]
  unfold State.pickSync State.spokeInWindow State.spokePred State.spokeState
  rw [hp, state, win, least, sync]

theorem State.viewSpoke_sight {s t : State} (h : sight k t = sight k s) (x : SpokeRead) (c : SpokeCand) : t.viewSpoke k x c = s.viewSpoke k x c := by
  simp only [sight, sightFields, List.map_cons, Prod.mk.injEq, List.cons.injEq] at h
  obtain ⟨⟨-, -, -, -, window, jump, layerJump, layer, -, axis, -⟩, seek, -, index, track⟩ := h
  unfold State.viewSpoke State.seeking State.sledMoves State.axisState State.optLayer
  rw [window, jump, layerJump, layer, axis, seek, index, track]

/-- What the view says of a spoke that passes every check beside index and continuity (R80). -/
theorem State.viewSpoke_others {s : State} {x : SpokeRead} {c : SpokeCand} (h : (s.viewSpoke k x c).others = true) :
    (s.viewSpoke k x c).parity = true ∧ (s.viewSpoke k x c).side = k.val % 2 ∧
    (s.get (F.BAY_OPT_STAT_LAYER_JUMP k.val) = 1 ∨ (s.viewSpoke k x c).layer = s.optLayer k) := by
  simp only [State.viewSpoke, Bool.and_eq_true, Bool.or_eq_true, beq_iff_eq] at h ⊢
  obtain ⟨⟨⟨⟨⟨⟨parity, -⟩, side⟩, layer⟩, -⟩, -⟩, -⟩ := h
  exact ⟨parity, side, layer⟩

theorem State.viewSpoke_range (s : State) (x : SpokeRead) (c : SpokeCand) :
    (s.viewSpoke k x c).index < 2 ^ 10 ∧ (s.viewSpoke k x c).layer < 2 ^ 3 ∧ (s.viewSpoke k x c).zone < 2 ^ 5 :=
  ⟨Nat.mod_lt _ (by decide), Nat.mod_lt _ (by decide), Nat.mod_lt _ (by decide)⟩

/-! ### What is done before a spoke is looked for -/

theorem sight_put {f : Fld} (h : ∀ g ∈ sightFields k, g.key ≠ f.key) (s : State) (v : Nat) : sight k (s.put f v) = sight k s :=
  congrArg (·, _) (List.map_congr_left fun g hg => s.get_put_ne v (h g hg))

theorem gate_not_sight : ∀ k : Fin 8, ∀ f ∈ sightFields k, f.key ≠ (F.RCH_SPK_STAT_WR_GATE_OK k.val).key := by decide

/-- The parts of the state in which what the demodulator sees lies, beside the flywheel. -/
def sightParts : List Part := [.rchRegs, .optRegs, .motRegs, .stpRegs, .axes]

theorem sightFields_window : ∀ k : Fin 8, ∀ f ∈ sightFields k, f.window.idx < 20 ∧ f.window ∈ sightParts := by decide

theorem sight_same {L : Nat} {s t : State} (h : Same L s t) (hL : ∀ p ∈ sightParts, L.testBit p.idx = false)
    (hy : t.spokes[k].lastSync = s.spokes[k].lastSync ∧ t.spokes[k].index = s.spokes[k].index ∧ t.spokes[k].tExp = s.spokes[k].tExp) :
    sight k t = sight k s := by
  obtain ⟨sync, index, track⟩ := hy
  have fields : (sightFields k).map t.get = (sightFields k).map s.get := List.map_congr_left fun f hf =>
    have ⟨low, inside⟩ : f.window.idx < 20 ∧ f.window ∈ sightParts := sightFields_window k f hf
    h.get rfl low (hL _ inside)
  unfold sight
  rw [fields, sync, index, track, show t.axes = s.axes from h .axes (hL _ (by decide))]

theorem writeGate_keeps_sight (ok : Bool) : Keeps (sight k) (writeGate k ok) := fun s =>
  Post.writeGate fun t same _ => by
    rw [← sight_put (gate_not_sight k) s ok.toNat]
    exact sight_same same (by decide) (by rw [show t.spokes = s.spokes from same .spokes rfl]; exact ⟨rfl, rfl, rfl⟩)

theorem noSpindleSample_keeps_sight : Keeps (sight k) (noSpindleSample k) := by
  have spoke : Keeps (sight k) (emit (.spoke k fun c => { c with sampleValid := false })) := .emit fun s =>
    sight_same ((Eff.spoke k _).same s) (by decide : ∀ p ∈ sightParts, (2 ^ Part.spokes.idx).testBit p.idx = false) (by rw [apply_spoke_self]; exact ⟨rfl, rfl, rfl⟩)
  exact .bind spoke fun _ => .bind .rd fun s => .ite (.emit fun _ => rfl) (.pure ())

/-- A spoke that is neither good nor bad counts in no run that sets or clears on track, so that only the runs are shown (R118). -/
theorem updateOnTrack_keeps_sight : Keeps (sight k) (updateOnTrack k false false) := fun _ =>
  Post.rdThen (Post.ite (fun _ => Post.ifFalse Bool.false_ne_true (Post.pure rfl)) fun _ =>
    Post.emitThen (Post.ifFalse (fun ⟨good, _⟩ => Bool.false_ne_true good) (Post.pure rfl)))

/-- What is done before a spoke is looked for in SEARCH or CONFIRM closes the write gate and leaves the rest as the demodulator sees it (R79, R87). -/
structure Unlocked (k : Fin 8) (s t : State) : Prop where
  sight : sight k t = sight k s
  gate : t.get (F.RCH_SPK_STAT_WR_GATE_OK k.val) = 0
  stands : LockStands [(F.RCH_SPK_STAT_WR_GATE_OK k.val).key] k s t

/-- Two fields of an OPU's window differ in their registers or their bits. -/
theorem spokeKey_ne {j c c' lo lo' w w' r r' : Nat} (h : c * 64 + lo % 64 ≠ c' * 64 + lo' % 64) :
    (Fld.mk (F.rchBase j + c) lo w r).key ≠ (Fld.mk (F.rchBase j + c') lo' w' r').key := by
  simp only [Fld.key]
  omega

theorem gate_ofSpoke : ∀ k : Fin 8, (F.RCH_SPK_STAT_WR_GATE_OK k.val).ofSpoke := by unfold Fld.ofSpoke; decide

theorem Post.unlocked {α : Type} {m : Act α} {s : State} {Q : α → State → Prop} (q : ∀ t, Unlocked k s t → Act.Post m t Q) :
    Act.Post (do
      Machine.writeGate k false
      updateOnTrack k false false
      noSpindleSample k
      m) s Q := by
  have spindle : LeavesLock [] k (noSpindleSample k) := .touches (noSpindleSample_touches k rfl)
  refine Post.bind (Post.andKeeps (Post.writeGate fun t _ shut seenT => Post.bind ?_) (writeGate_keeps_sight false))
  refine Post.andKeeps (Post.mono (updateOnTrack_leavesLock (K := []) (k := k) k false false t) fun _ u track seenU => Post.bind ?_) updateOnTrack_keeps_sight
  refine Post.andKeeps (Post.mono (spindle u) fun _ v still seenV => q v ⟨seenV.trans (seenU.trans seenT), ?_, ?_⟩) noSpindleSample_keeps_sight
  · have rest := shut.trans (track.trans still)
    exact (rest.regs _ (gate_ofSpoke k) List.not_mem_nil).trans (State.get_put_self _ _ _)
  · exact (LockStands.put s _ fun _ => List.mem_singleton_self _).trans ((shut.trans (track.trans still)).mono (by simp))

/-! ### Spokes of the right side and layer -/

/-- A spoke of this side and of the layer of the focus loop ends the runs of R84, so that no mismatch is raised. -/
theorem Post.mismatchRuns_agrees {v : SpokeView} {s : State} {Q : Unit → State → Prop} (side : v.side = k.val % 2)
    (layer : s.get (F.BAY_OPT_STAT_LAYER_JUMP k.val) = 1 ∨ v.layer = s.optLayer k) (q : ∀ t, Same (2 ^ Part.spokes.idx) s t → Q () t) :
    Act.Post (mismatchRuns k v) s Q := by
  have self : ∀ k : Fin 8, k = opuTop (bayOf k) ∨ k = opuBottom (bayOf k) := by decide
  have right : (s.get (F.BAY_OPT_STAT_LAYER_JUMP k.val) == 0 && v.layer != s.optLayer k) = false := by
    rcases layer with h | h <;> simp [h]
  have counted (g : Spoke → Spoke) {j : Fin 8} (e : k = j) : ((Eff.spoke k g).apply s).spokes[j] = g s.spokes[k] := by
    subst e
    exact apply_spoke_self k g s
  unfold Machine.mismatchRuns
  refine Post.rdThen (Post.emitThen (Post.rdThen (Post.ifFalse (fun h => ?_) (Post.ifFalse (fun h => ?_) (Post.pure (q _ ((Eff.spoke k _).same s)))))))
  · obtain ⟨top, bottom, -⟩ := h
    rcases self k with e | e
    · rw [counted _ e] at top
      simp [side] at top
    · rw [counted _ e] at bottom
      simp [side] at bottom
  · rw [counted _ rfl] at h
    simp [right] at h

/-! ### What follows a spoke -/

theorem state_ofSpoke : ∀ k : Fin 8, (F.RCH_SPK_STAT_STATE k.val).ofSpoke := by unfold Fld.ofSpoke; decide

/-- What follows a spoke leaves its registers, but a LAYER_JUMP that waited for it begins, in COAST (R85, R124). -/
structure SpokeFollows (k : Fin 8) (s t : State) : Prop where
  stands : LockStands [(F.RCH_SPK_STAT_STATE k.val).key] k s t
  state : t.spokeState k = s.spokeState k ∨ s.optics[k].phase = .pending ∧ t.spokeState k = spkCOAST

theorem LockStands.follows {s t : State} (h : LockStands [] k s t) : SpokeFollows k s t :=
  ⟨h.mono (by simp), .inl (h.regs _ (state_ofSpoke k) List.not_mem_nil)⟩

theorem SpokeFollows.after {s t u : State} (h : SpokeFollows k s t) (h' : LockStands [] k t u) : SpokeFollows k s u :=
  ⟨h.stands.trans (h'.mono (by simp)), by rw [State.spokeState, h'.regs _ (state_ofSpoke k) List.not_mem_nil]; exact h.state⟩

theorem SpokeFollows.before {s t u : State} (h : LockStands [] k s t) (e : t.optics[k].phase = s.optics[k].phase) (h' : SpokeFollows k t u) :
    SpokeFollows k s u :=
  ⟨(h.mono (by simp)).trans h'.stands, by
    rw [← e, show s.spokeState k = t.spokeState k from (h.regs _ (state_ofSpoke k) List.not_mem_nil).symm]
    exact h'.state⟩

theorem Post.beginLayerJump_follows {layer cmd : Nat} {s : State} (h : s.optics[k].phase = .pending) :
    Act.Post (beginLayerJump k layer cmd) s fun _ t => SpokeFollows k s t := by
  have hop : LeavesLock [] k (beginHop k) := .rd fun s => .bind (.touches (freeze_touches k _ _ rfl)) fun _ =>
    .bind (.touches (freeze_touches k _ _ rfl)) fun _ => .bind (.rd fun s => .opticKeeping fun _ => rfl) fun _ =>
    .opticTo .hopHold (fun _ => rfl) (by decide)
  unfold Machine.beginLayerJump
  refine Post.rdThen (Post.ite (fun _ => ?_) fun _ => Post.pure (LockStands.refl [] k s).follows)
  refine Post.bind (Post.stands k (.reg (F.BAY_OPT_CMD_CMD_window _) rfl) fun _ t ht =>
    Post.bind (Post.stands k (.opticKeeping fun _ => rfl) fun _ u hu => Post.ite (fun _ => ?_) fun _ => ?_))
  · exact Post.stands k (.opticTo .layerSpoke (fun _ => rfl) (by decide)) fun _ v hv => (ht.trans (hu.trans hv)).follows
  refine Post.bind (Post.stands k (.reg (F.BAY_OPT_STAT_LAYER_JUMP_window _) rfl) fun _ v hv =>
    Post.setThen (Post.stands k hop fun _ w hw => ⟨?_, .inr ⟨h, ?_⟩⟩))
  · exact ((ht.trans (hu.trans hv)).mono (by simp)).trans ((LockStands.put v _ fun _ => List.mem_singleton_self _).trans (hw.mono (by simp)))
  · exact (hw.regs _ (state_ofSpoke k) List.not_mem_nil).trans (State.get_put_self _ _ _)

theorem Post.startPending_follows {s : State} (h : s.optics[k].phase = .pending) :
    Act.Post (startPending k) s fun _ t => SpokeFollows k s t := by
  have cut : LeavesLock [] k (optCut k rINVALID) := .bind (.rd fun s => .pure _) fun s => .ite (optEnd_leavesLock k _) (.pure ())
  have stands {m : Act Unit} (hm : LeavesLock [] k m) : Act.Post m s fun _ t => SpokeFollows k s t := Post.stands k hm fun _ _ st => st.follows
  unfold Machine.startPending
  refine Post.rdThen (Post.ite (fun _ => Post.ite (fun _ => stands ?_) fun _ => stands ?_) fun _ =>
    Post.ite (fun _ => Post.beginLayerJump_follows h) fun _ => Post.ite (fun _ => stands ?_) fun _ => stands ?_)
  · exact beginAcquire_leavesLock k _
  · exact .bind cut fun _ => .touches (raiseOpu_touches _ _ _ _ rfl)
  · exact beginPullIn_leavesLock k _
  · exact .bind (beginJump_leavesLock k _ _) fun _ => .opticKeeping fun _ => rfl

/-- The lock takes a spoke by its state, and what follows the spoke ends the command (R79, R124). -/
theorem exec_spokeReceived_follows {x : SpokeRead} {s : State} {P : State → Prop} (live : s.channelsLive = true)
    (lock : s.spokeState k = spkSEARCH ∨ s.spokeState k = spkCONFIRM →
      Act.Post (lockSpoke k (s.facing k x)) s fun _ t => ∀ u, SpokeFollows k t u → P u)
    (track : ¬(s.spokeState k = spkSEARCH ∨ s.spokeState k = spkCONFIRM) →
      Act.Post (trackSpoke k (s.facing k x)) s fun _ t => ∀ u, SpokeFollows k t u → P u) : ∃ t, exec (.spokeReceived k x) s = .next t ∧ P t := by
  have begins : exec (.spokeReceived k x) s = answer (do
      receiveSpoke k x
      spokeLanes k) s := if_pos live
  have settles {t v : State} (q : ∀ u, SpokeFollows k t u → P u) (f : SpokeFollows k t v) :
      Act.Post (settleBay (bayOf k)) v fun _ w => Act.Post (spokeLanes k) w fun _ u => P u :=
    Post.stands k (settleBay_leavesLock _) fun _ w hw => Post.stands k (spokeLanes_leavesLock k) fun _ u hu => q u (f.after (hw.trans hu))
  rw [begins]
  refine Post.answer (Post.bind ?_)
  unfold receiveSpoke
  refine Post.rdThen (Post.ite (fun c => Post.bind (Post.mono (lock c) fun _ t q => ?_)) fun c =>
    Post.bind (Post.mono (track c) fun _ t q => ?_))
  all_goals
    refine Post.bind (Post.touches (gateData_touches k _ (L := 2 ^ Part.spokes.idx) rfl) fun _ u gated => ?_)
    have stands : LockStands [] k t u := .same (gated.mono rfl)
    have phase : u.optics[k].phase = t.optics[k].phase := by rw [show u.optics = t.optics from gated .optics rfl]
    refine Post.rdThen (Post.ite (fun waits => Post.bind (Post.mono (Post.startPending_follows waits.1) fun _ v f => ?_)) fun _ => ?_)
    · exact settles q (.before stands phase f)
    · exact settles q stands.follows

end Sys2Proof.Machine
end

section
/-! How a spoke moves the lock: found, confirmed, accepted or missed (R79, R80, R82 to R86). -/

namespace Sys2Proof.Machine

variable {k : Fin 8}

/-! ### What the registers of a spoke show -/

/-- The state with several fields put, one after another. -/
def State.putAll (s : State) (l : List (Fld × Nat)) : State := l.foldl (fun t p => t.put p.1 p.2) s

theorem State.putAll_get_other {l : List (Fld × Nat)} {f : Fld} (h : ∀ p ∈ l, f.key ≠ p.1.key) (s : State) : (s.putAll l).get f = s.get f := by
  induction l generalizing s with
  | nil => rfl
  | cons p l ih => exact (ih (fun q hq => h q (List.mem_cons_of_mem _ hq)) _).trans (s.get_put_ne _ (h p List.mem_cons_self))

theorem State.putAll_optics (l : List (Fld × Nat)) (s : State) : (s.putAll l).optics = s.optics := by
  induction l generalizing s with
  | nil => rfl
  | cons p l ih => exact ih (s.put p.1 p.2)

theorem State.putAll_get {l : List (Fld × Nat)} (h : (l.map fun p => p.1.key).Nodup) {p : Fld × Nat} (hp : p ∈ l) (s : State) :
    (s.putAll l).get p.1 = p.2 % 2 ^ p.1.w := by
  induction l generalizing s with
  | nil => exact absurd hp List.not_mem_nil
  | cons q l ih =>
    obtain ⟨apart, rest⟩ := List.nodup_cons.mp h
    rcases List.mem_cons.mp hp with rfl | hl
    · exact (State.putAll_get_other (fun r hr e => apart (List.mem_map.mpr ⟨r, hr, e.symm⟩)) _).trans (State.get_put_self _ _ _)
    · exact ih rest hl _

/-- The fields in which a spoke shows what it has brought. -/
def shownFields (k : Fin 8) : List Fld :=
  [F.RCH_SPK_STAT_STATE k.val, F.RCH_SPK_STAT_MISS_RUN k.val, F.RCH_SPK_STAT_LAST_INDEX k.val, F.RCH_SPK_POS_TRACK k.val,
   F.RCH_SPK_POS_FLYWHEEL k.val, F.RCH_SPK_POS_LAYER k.val, F.RCH_SPK_POS_ZONE k.val, F.RCH_SPK_ACC_CNT_CNT k.val, F.RCH_SPK_MISS_CNT_CNT k.val]

/-- The fields of a spoke that are listed in `l` hold the values listed with them. -/
def Shows (k : Fin 8) (l : List (Fld × Nat)) (t : State) : Prop := ∀ p ∈ l, p.1 ∈ shownFields k → t.get p.1 = p.2 % 2 ^ p.1.w

theorem Shows.get {l : List (Fld × Nat)} {t : State} (h : Shows k l t) {f : Fld} {n : Nat} (hp : (f, n) ∈ l) (hf : f ∈ shownFields k) :
    t.get f = n % 2 ^ f.w := h (f, n) hp hf

theorem Shows.puts {l m : List (Fld × Nat)} {s t : State} (h : Shows k l s) (apart : ((l ++ m).map fun p => p.1.key).Nodup) (ht : t = s.putAll m) :
    Shows k (l ++ m) t := by
  rw [List.map_append, List.nodup_append] at apart
  obtain ⟨-, later, between⟩ := apart
  subst ht
  intro p hp hf
  rcases List.mem_append.mp hp with old | new
  · refine (State.putAll_get_other (fun q hq => between _ (List.mem_map_of_mem old) _ (List.mem_map_of_mem (f := fun p => p.1.key) hq)) s).trans (h p old hf)
  · exact State.putAll_get later new s

theorem Shows.ofPuts {l : List (Fld × Nat)} (s : State) {t : State} (h : (l.map fun p => p.1.key).Nodup) (ht : t = s.putAll l) : Shows k l t :=
  Shows.puts (l := []) (fun _ hp => absurd hp List.not_mem_nil) h ht

theorem Shows.stands {l : List (Fld × Nat)} {s t : State} (h : Shows k l s) (st : LockStands [(F.RCH_SPK_STAT_WR_GATE_OK k.val).key] k s t) :
    Shows k l t := by
  have kept : ∀ k : Fin 8, ∀ f ∈ shownFields k, f.ofSpoke ∧ f.key ∉ [(F.RCH_SPK_STAT_WR_GATE_OK k.val).key] := by unfold Fld.ofSpoke; decide
  intro p hp hf
  obtain ⟨spoke, other⟩ := kept k p.1 hf
  exact (st.regs _ spoke other).trans (h p hp hf)

theorem LockStands.shows {l : List (Fld × Nat)} {r s t : State} (st : LockStands [(F.RCH_SPK_STAT_WR_GATE_OK k.val).key] k s t)
    (h : (l.map fun p => p.1.key).Nodup) (hs : s = r.putAll l) : Shows k l t := (Shows.ofPuts r h hs).stands st

theorem Shows.follows {l : List (Fld × Nat)} {s t : State} (h : Shows k l s) (f : SpokeFollows k s t) (state : t.spokeState k = s.spokeState k) :
    Shows k l t := by
  have kept : ∀ k : Fin 8, ∀ f ∈ shownFields k, f = F.RCH_SPK_STAT_STATE k.val ∨ f.ofSpoke ∧ f.key ∉ [(F.RCH_SPK_STAT_STATE k.val).key] := by
    unfold Fld.ofSpoke; decide
  intro p hp hf
  refine Eq.trans ?_ (h p hp hf)
  rcases kept k p.1 hf with e | ⟨spoke, other⟩
  · rw [e]
    exact state
  · exact f.stands.regs _ spoke other

/-! ### SEARCH and CONFIRM -/

theorem optEnd_idles (result : Nat) (s : State) : Act.Post (optEnd k result) s fun _ t => t.optics[k].phase = .idle := by
  unfold optEnd
  refine Post.rdThen (Post.ite (fun _ => Post.bind (Post.setF ?_)) fun _ => ?_)
  all_goals exact Post.setThen (Post.setThen (Post.setThen (Post.setThen (Post.setThen (Post.emit (by rw [apply_optic_self]))))))

/-- The C channel returns to SEARCH, and no command waits for a spoke any more (R86, R124). -/
theorem Post.enterSearch {s : State} {Q : Unit → State → Prop}
    (q : ∀ t, t.spokeState k = spkSEARCH → LockStands [(F.RCH_SPK_STAT_STATE k.val).key] k s t → t.optics[k].phase ≠ .pending → Q () t) :
    Act.Post (enterSearch k) s Q := by
  have ends {t : State} (h : LockStands [] k (s.put (F.RCH_SPK_STAT_STATE k.val) spkSEARCH) t) (idle : t.optics[k].phase ≠ .pending) : Q () t :=
    q t ((h.regs _ (state_ofSpoke k) List.not_mem_nil).trans (State.get_put_self _ _ _))
      ((LockStands.put s _ fun _ => List.mem_singleton_self _).trans (h.mono (by simp))) idle
  unfold Machine.enterSearch
  refine Post.setThen (Post.bind (Post.stands k (.part .spokes rfl rfl) fun _ t ht => Post.bind ?_))
  refine Post.stands k (.touches (cutReads_touches k rfl)) fun _ u hu => Post.bind (Post.stands k (clearOnTrack_leavesLock k) fun _ v hv => Post.rdThen ?_)
  have cleared := ht.trans (hu.trans hv)
  split
  next => exact Post.and (Post.stands k (optEnd_leavesLock k _) fun _ w hw idle => ends (cleared.trans hw) (by rw [idle]; decide)) (optEnd_idles _ v)
  next jumps => exact Post.stands k (jumpLanded_leavesLock k true) fun _ w hw => ends (cleared.trans hw) (hw.notPending (by rw [jumps]; decide))
  next lands => exact Post.stands k (jumpLanded_leavesLock k true) fun _ w hw => ends (cleared.trans hw) (hw.notPending (by rw [lands]; decide))
  next other _ _ => exact Post.pure (ends cleared other)

/-- What the first spoke that confirms shows. -/
def confirmed (k : Fin 8) (v : SpokeView) : List (Fld × Nat) := [(F.RCH_SPK_STAT_LAST_INDEX k.val, v.index), (F.RCH_SPK_STAT_STATE k.val, spkCONFIRM)]

/-- In SEARCH a spoke that passes its checks is the first that confirms (R79). -/
theorem Post.lockSpoke_confirms {x : SpokeRead} {c : SpokeCand} {s : State} {Q : Unit → State → Prop} (hs : s.spokeState k = spkSEARCH)
    (found : s.pickSync k x = some c) (others : (s.viewSpoke k x c).others = true) (index : (s.viewSpoke k x c).indexOk = true)
    (cont : (s.viewSpoke k x c).contOk = true) (idle : s.optics[k].phase ≠ .pending)
    (q : ∀ t, Shows k (confirmed k (s.viewSpoke k x c)) t → t.optics[k].phase ≠ .pending → Q () t) :
    Act.Post (lockSpoke k x) s Q := by
  unfold lockSpoke
  refine Post.unlocked fun u hu => Post.rdThen ?_
  have view := State.viewSpoke_sight hu.sight x c
  rw [← view] at others index cont q
  obtain ⟨parity, side, layer⟩ := State.viewSpoke_others others
  have search : (u.spokeState k == spkSEARCH) = true := by rw [State.spokeState_sight hu.sight, hs]; rfl
  have apart : ∀ k : Fin 8, ([F.RCH_SPK_STAT_LAST_INDEX k.val, F.RCH_SPK_STAT_STATE k.val].map Fld.key).Nodup := by decide
  rw [State.pickSync_sight hu.sight, found]
  refine Post.ifTrue parity (Post.bind (Post.mismatchRuns_agrees side layer fun w hw => ?_))
  refine Post.setThen (Post.emitThen (Post.ifTrue search (Post.emitThen (Post.ifTrue ⟨others, index, cont⟩ (Post.emitThen (Post.setThen ?_))))))
  refine Post.ifTrue search (Post.setF (q _ (Shows.ofPuts _ (apart k) rfl) ?_))
  exact (show w.optics = u.optics from hw .optics rfl) ▸ hu.stands.notPending idle

/-- In CONFIRM a spoke without sync ends the attempt (R79), and the write gate stays closed (R87). -/
theorem Post.lockSpoke_loses {x : SpokeRead} {s : State} {Q : Unit → State → Prop} (hs : s.spokeState k = spkCONFIRM) (lost : s.pickSync k x = none)
    (q : ∀ t, t.spokeState k = spkSEARCH → t.get (F.RCH_SPK_STAT_WR_GATE_OK k.val) = 0 → t.optics[k].phase ≠ .pending → Q () t) :
    Act.Post (lockSpoke k x) s Q := by
  unfold lockSpoke
  refine Post.unlocked fun u hu => Post.rdThen ?_
  have confirm : u.spokeState k = spkCONFIRM := by rw [State.spokeState_sight hu.sight, hs]
  rw [State.pickSync_sight hu.sight, lost]
  refine Post.emitThen (Post.ifTrue confirm (Post.enterSearch fun t searches stands idle => q t searches ?_ idle))
  exact (stands.regs _ (gate_ofSpoke k) fun h => spokeKey_ne (by decide) (List.mem_singleton.mp h)).trans hu.gate

/-! ### LOCKED and COAST -/

theorem deliverPes_leavesLock (j : Fin 8) (pes : Option Int) : LeavesLock [] k (deliverPes j pes) := by
  have apart : ∀ j : Fin 8, ¬ (F.RCH_SPK_PES_PES j.val).ofSpoke := by unfold Fld.ofSpoke; decide
  unfold deliverPes
  refine .bind (.part .spokes rfl rfl) fun _ => ?_
  split
  · exact .pure ()
  · exact .bind (.setF fun h => absurd h (apart j)) fun _ => .part .servos rfl rfl

theorem Post.leavesGate (k : Fin 8) {α : Type} {m : Act α} {s : State} {Q : α → State → Prop} (h : LeavesLock [(F.RCH_SPK_STAT_WR_GATE_OK k.val).key] k m)
    (q : ∀ a t, LockStands [(F.RCH_SPK_STAT_WR_GATE_OK k.val).key] k s t → Q a t) : Act.Post m s Q := Post.mono (h s) q

/-- What an accepted spoke shows, after `n` accepted ones and at the period `p` (R79, R80). -/
def accepted (k : Fin 8) (n p : Nat) (v : SpokeView) : List (Fld × Nat) :=
  [(F.RCH_SPK_ACC_CNT_CNT k.val, n + 1), (F.RCH_SPK_PERIOD_PERIOD k.val, p),
   (F.RCH_SPK_STAT_MISS_RUN k.val, 0), (F.RCH_SPK_STAT_LAYER_MISMATCH k.val, 0), (F.RCH_SPK_STAT_LAST_INDEX k.val, v.index),
   (F.RCH_SPK_STAT_STATE k.val, spkLOCKED), (F.RCH_SPK_POS_TRACK k.val, v.track.toNat), (F.RCH_SPK_POS_FLYWHEEL k.val, 0),
   (F.RCH_SPK_POS_SIDE k.val, v.side), (F.RCH_SPK_POS_LAYER k.val, v.layer), (F.RCH_SPK_POS_ZONE k.val, v.zone)]

theorem accepted_apart (k : Fin 8) (n p : Nat) (v : SpokeView) : ((accepted k n p v).map fun p => p.1.key).Nodup := by
  have apart : ∀ k : Fin 8, ([F.RCH_SPK_ACC_CNT_CNT k.val, F.RCH_SPK_PERIOD_PERIOD k.val, F.RCH_SPK_STAT_MISS_RUN k.val,
    F.RCH_SPK_STAT_LAYER_MISMATCH k.val, F.RCH_SPK_STAT_LAST_INDEX k.val, F.RCH_SPK_STAT_STATE k.val, F.RCH_SPK_POS_TRACK k.val,
    F.RCH_SPK_POS_FLYWHEEL k.val, F.RCH_SPK_POS_SIDE k.val, F.RCH_SPK_POS_LAYER k.val, F.RCH_SPK_POS_ZONE k.val].map Fld.key).Nodup := by decide
  exact apart k

theorem Post.acceptSpoke {c : SpokeCand} {v : SpokeView} {s : State} {Q : Unit → State → Prop}
    (steady : s.get (F.BAY_OPT_STAT_LAYER_JUMP k.val) = 0) (idle : s.optics[k].phase ≠ .pending) (waits : s.optics[k].phase ≠ .spokes)
    (q : ∀ p t, Shows k (accepted k (s.get (F.RCH_SPK_ACC_CNT_CNT k.val)) p v) t → t.optics[k].phase ≠ .pending → Q () t) : Act.Post (acceptSpoke k c v) s Q := by
  have jumping : (s.get (F.BAY_OPT_STAT_LAYER_JUMP k.val) == 1) = false := by rw [steady]; rfl
  unfold Machine.acceptSpoke
  refine Post.rdThen ?_
  dsimp only
  rw [jumping]
  refine Post.bind (Post.bind (Post.getF (Post.setF ?_)))
  refine Post.setThen (Post.setThen (Post.setThen (Post.setThen (Post.setThen (Post.setThen (Post.setThen (Post.setThen (Post.setThen
    (Post.setThen (Post.bind ?_))))))))))
  let shown := accepted k (s.get (F.RCH_SPK_ACC_CNT_CNT k.val)) (c.pos - s.spokes[k].lastSync) v
  change Act.Post _ (s.putAll shown) _
  have shows : Shows k shown (s.putAll shown) := Shows.ofPuts s (accepted_apart ..) rfl
  have optics := s.putAll_optics shown
  generalize s.putAll shown = r at shows optics ⊢
  refine Post.leavesGate k (.part .spokes rfl rfl) fun _ y hy => Post.bind ?_
  refine Post.leavesGate k ((deliverPes_leavesLock k _).mono (by simp)) fun _ t ht => Post.bind ?_
  refine Post.leavesGate k (.touches (spindleSpoke_touches _ _ _ rfl)) fun _ u hu => Post.bind ?_
  refine Post.leavesGate k (writeGate_leavesLock _) fun _ z hz => Post.bind ?_
  refine Post.leavesGate k (updateOnTrack_leavesLock k _ _) fun _ w hw => ?_
  have stands := hy.trans (ht.trans (hu.trans (hz.trans hw)))
  rw [← optics] at idle waits
  have ends {x : State} (hx : LockStands [] k w x) : Q () x :=
    have all := stands.trans (hx.mono (by simp))
    q _ x (shows.stands all) (all.notPending idle)
  refine Post.ite (fun _ => Post.stands k (landJump_leavesLock k _ _) fun _ _ => ends) fun _ => ?_
  exact Post.mono (Post.sequenceSpoke_leavesLock (stands.notSpokes waits)) fun _ _ => ends

/-- What the flywheel shows of a spoke that is not accepted (R83). -/
def flown (k : Fin 8) (s : State) : List (Fld × Nat) :=
  [(F.RCH_SPK_STAT_LAST_INDEX k.val, s.spokes[k].index), (F.RCH_SPK_POS_TRACK k.val, s.spokes[k].tExp), (F.RCH_SPK_POS_FLYWHEEL k.val, 1)]

/-- What a missed spoke counts (R79). -/
def missed (k : Fin 8) (s : State) : List (Fld × Nat) :=
  [(F.RCH_SPK_STAT_STATE k.val, spkCOAST), (F.RCH_SPK_MISS_CNT_CNT k.val, s.get (F.RCH_SPK_MISS_CNT_CNT k.val) + 1),
   (F.RCH_SPK_STAT_MISS_RUN k.val, min 15 (s.get (F.RCH_SPK_STAT_MISS_RUN k.val) + 1))]

theorem missed_apart (k : Fin 8) (s : State) : ((flown k s ++ missed k s).map fun p => p.1.key).Nodup := by
  have apart : ∀ k : Fin 8, ([F.RCH_SPK_STAT_LAST_INDEX k.val, F.RCH_SPK_POS_TRACK k.val, F.RCH_SPK_POS_FLYWHEEL k.val, F.RCH_SPK_STAT_STATE k.val,
    F.RCH_SPK_MISS_CNT_CNT k.val, F.RCH_SPK_STAT_MISS_RUN k.val].map Fld.key).Nodup := by decide
  exact apart k

/-- The flywheel and the state of the lock stand apart from the count of missed spokes. -/
theorem missCount_apart : ∀ k : Fin 8, ∀ f ∈ [F.RCH_SPK_STAT_LAST_INDEX k.val, F.RCH_SPK_POS_TRACK k.val, F.RCH_SPK_POS_FLYWHEEL k.val,
    F.RCH_SPK_STAT_STATE k.val], (F.RCH_SPK_MISS_CNT_CNT k.val).key ≠ f.key := by decide

theorem missCount_ofSpoke : ∀ k : Fin 8, (F.RCH_SPK_MISS_CNT_CNT k.val).ofSpoke := by unfold Fld.ofSpoke; decide

/-- A missed spoke is one that the flywheel stands in for, and another counted (R79, R83). -/
theorem Post.coastSpoke_misses {x : SpokeRead} {s : State} {Q : Unit → State → Prop} (steady : s.get (F.BAY_OPT_STAT_LAYER_JUMP k.val) = 0)
    (run : s.get (F.RCH_SPK_STAT_MISS_RUN k.val) + 1 < s.get (F.RCH_SPK_CTL_COAST_MAX k.val)) (q : ∀ t, Shows k (flown k s ++ missed k s) t → Q () t) :
    Act.Post (coastSpoke k x none none) s Q := by
  have jumping : (s.get (F.BAY_OPT_STAT_LAYER_JUMP k.val) == 1) = false := by rw [steady]; rfl
  unfold coastSpoke
  refine Post.rdThen ?_
  dsimp only
  rw [jumping]
  refine Post.setThen (Post.setThen (Post.setThen ?_))
  change Act.Post _ (s.putAll (flown k s)) _
  have shows : Shows k (flown k s) (s.putAll (flown k s)) := Shows.ofPuts s (List.nodup_append.mp ((List.map_append ..) ▸ missed_apart k s)).1 rfl
  have count : (s.putAll (flown k s)).get (F.RCH_SPK_MISS_CNT_CNT k.val) = s.get (F.RCH_SPK_MISS_CNT_CNT k.val) :=
    State.putAll_get_other (fun p hp => missCount_apart k p.1 (List.mem_append_left _ (List.mem_map_of_mem (f := Prod.fst) (l := flown k s) hp))) s
  generalize s.putAll (flown k s) = r at shows count ⊢
  refine Post.bind (Post.stands k (.part .spokes rfl rfl) fun _ t ht => Post.bind ?_)
  refine Post.stands k (.opticKeeping fun _ => rfl) fun _ u hu => Post.bind (Post.stands k (.part .spokes rfl rfl) fun _ v hv => ?_)
  have flies := ht.trans (hu.trans hv)
  have counted : (v.put (F.RCH_SPK_STAT_STATE k.val) spkCOAST).get (F.RCH_SPK_MISS_CNT_CNT k.val) = s.get (F.RCH_SPK_MISS_CNT_CNT k.val) :=
    (v.get_put_ne _ (missCount_apart k _ (by simp))).trans ((flies.regs _ (missCount_ofSpoke k) List.not_mem_nil).trans count)
  refine Post.setThen (Post.ifTrue rfl (Post.bind (Post.bind (Post.getF (Post.setF (Post.setThen (Post.ifFalse Bool.false_ne_true ?_)))))))
  rw [counted]
  change Act.Post _ (v.putAll (missed k s)) _
  replace shows := (shows.stands (flies.mono (by simp))).puts (missed_apart k s) rfl
  generalize v.putAll (missed k s) = r at shows ⊢
  refine Post.bind (Post.leavesGate k ((deliverPes_leavesLock k _).mono (by simp)) fun _ t ht => Post.bind ?_)
  refine Post.leavesGate k (.touches (noSpindleSample_touches k rfl)) fun _ u hu => Post.bind ?_
  refine Post.leavesGate k (writeGate_leavesLock _) fun _ v hv => Post.bind ?_
  refine Post.leavesGate k (updateOnTrack_leavesLock k _ _) fun _ w hw => ?_
  have stands := ht.trans (hu.trans (hv.trans hw))
  refine Post.ite (fun _ => Post.bind (Post.stands k (landJump_leavesLock k _ _) fun _ x hx => ?_)) fun _ => ?_
  all_goals refine Post.bind (Post.stands k (.part .spokes rfl rfl) fun _ y hy => Post.ifFalse (fun h => Nat.not_lt.mpr h.2.2 run) (Post.pure (q y ?_)))
  · exact shows.stands (stands.trans ((hx.trans hy).mono (by simp)))
  · exact shows.stands (stands.trans (hy.mono (by simp)))

/-- A spoke of LOCKED or COAST that passes its checks is accepted (R79, R80). -/
theorem Post.trackSpoke_accepts {x : SpokeRead} {c : SpokeCand} {s : State} {Q : Unit → State → Prop} (found : s.pickSync k x = some c)
    (others : (s.viewSpoke k x c).others = true) (index : (s.viewSpoke k x c).indexOk = true) (cont : (s.viewSpoke k x c).contOk = true)
    (steady : s.get (F.BAY_OPT_STAT_LAYER_JUMP k.val) = 0) (idle : s.optics[k].phase ≠ .pending) (waits : s.optics[k].phase ≠ .spokes)
    (q : ∀ p t, Shows k (accepted k (s.get (F.RCH_SPK_ACC_CNT_CNT k.val)) p (s.viewSpoke k x c)) t → t.optics[k].phase ≠ .pending → Q () t) :
    Act.Post (trackSpoke k x) s Q := by
  obtain ⟨parity, side, layer⟩ := State.viewSpoke_others others
  unfold trackSpoke
  refine Post.rdThen ?_
  rw [found]
  refine Post.ifTrue parity (Post.bind (Post.mismatchRuns_agrees side layer fun w same => Post.ifTrue ⟨others, index, cont⟩ (Post.bind ?_)))
  have count : w.get (F.RCH_SPK_ACC_CNT_CNT k.val) = s.get (F.RCH_SPK_ACC_CNT_CNT k.val) := same.get (F.RCH_SPK_ACC_CNT_CNT_window _) (by decide) rfl
  have optics : w.optics = s.optics := same .optics rfl
  rw [← optics] at idle waits
  rw [← count] at q
  refine Post.acceptSpoke ((same.get (F.BAY_OPT_STAT_LAYER_JUMP_window _) (by decide) rfl).trans steady) idle waits fun p t shows quiet => ?_
  have ends {u : State} (h : LockStands [] k t u) : Q () u := q p u (shows.stands (h.mono (by simp))) (h.notPending quiet)
  have lands {u : State} (h : LockStands [] k t u) (track : Option Nat) :
      Act.Post (if s.axisState (sledOf k) = axLANDING then landingSpoke k track else Pure.pure ()) u Q :=
    Post.ite (fun _ => Post.stands k (landingSpoke_leavesLock k track) fun _ _ st => ends (h.trans st)) fun _ => Post.pure (ends h)
  exact Post.ite (fun _ => Post.bind (Post.stands k (.part .spokes rfl rfl) fun _ _ st => lands st _)) fun _ => lands (LockStands.refl [] k t) _

/-- A spoke of LOCKED or COAST without sync is missed (R79, R83). -/
theorem Post.trackSpoke_misses {x : SpokeRead} {s : State} {Q : Unit → State → Prop} (lost : s.pickSync k x = none)
    (steady : s.get (F.BAY_OPT_STAT_LAYER_JUMP k.val) = 0)
    (run : s.get (F.RCH_SPK_STAT_MISS_RUN k.val) + 1 < s.get (F.RCH_SPK_CTL_COAST_MAX k.val)) (q : ∀ t, Shows k (flown k s ++ missed k s) t → Q () t) :
    Act.Post (trackSpoke k x) s Q := by
  unfold trackSpoke
  refine Post.rdThen ?_
  rw [lost]
  refine Post.bind (Post.coastSpoke_misses steady run fun t shows => Post.ite (fun _ => ?_) fun _ => Post.pure (q t shows))
  exact Post.stands k (landingSpoke_leavesLock k none) fun _ u st => q u (shows.stands (st.mono (by simp)))

end Sys2Proof.Machine
end

section
/-! The lock over a spoke, a lost track, and a landing without spokes (R79, R80, R83, R137, R178): O15. -/

namespace Sys2Proof.Machine

variable {k : Fin 8}

/-! ### A spoke in each state of the lock -/

theorem exec_spokeReceived_confirms {x : SpokeRead} {c : SpokeCand} {s : State} (live : s.channelsLive = true) (idle : s.optics[k].phase ≠ .pending)
    (hs : s.spokeState k = spkSEARCH) (found : s.pickSync k (s.facing k x) = some c) (others : (s.viewSpoke k (s.facing k x) c).others = true)
    (index : (s.viewSpoke k (s.facing k x) c).indexOk = true) (cont : (s.viewSpoke k (s.facing k x) c).contOk = true) :
    ∃ t, exec (.spokeReceived k x) s = .next t ∧ t.get (F.RCH_SPK_STAT_STATE k.val) = spkCONFIRM ∧
      t.get (F.RCH_SPK_STAT_LAST_INDEX k.val) = (s.viewSpoke k (s.facing k x) c).index := by
  refine exec_spokeReceived_follows live (fun _ => ?_) fun h => absurd (.inl hs) h
  refine Post.lockSpoke_confirms hs found others index cont idle fun t shows quiet u f => ?_
  have shows := shows.follows f (f.state.resolve_right fun h => quiet h.1)
  obtain ⟨fits, -, -⟩ := s.viewSpoke_range (k := k) (s.facing k x) c
  refine ⟨shows.get (n := spkCONFIRM) ?_ ?_, (shows.get ?_ ?_).trans (Nat.mod_eq_of_lt fits)⟩
  all_goals simp [confirmed, shownFields]

theorem exec_spokeReceived_loses {x : SpokeRead} {s : State} (live : s.channelsLive = true) (hs : s.spokeState k = spkCONFIRM)
    (lost : s.pickSync k (s.facing k x) = none) :
    ∃ t, exec (.spokeReceived k x) s = .next t ∧ t.get (F.RCH_SPK_STAT_STATE k.val) = spkSEARCH ∧ t.get (F.RCH_SPK_STAT_WR_GATE_OK k.val) = 0 := by
  refine exec_spokeReceived_follows live (fun _ => ?_) fun h => absurd (.inr hs) h
  refine Post.lockSpoke_loses hs lost fun t searches gate quiet u f => ⟨?_, ?_⟩
  · exact (f.state.resolve_right fun h => quiet h.1).trans searches
  · exact (f.stands.regs _ (gate_ofSpoke k) fun h => spokeKey_ne (by decide) (List.mem_singleton.mp h)).trans gate

/-- LOCKED and COAST are neither SEARCH nor CONFIRM (R79). -/
theorem State.tracks_spokes {s : State} (hs : s.spokeState k = spkLOCKED ∨ s.spokeState k = spkCOAST) :
    ¬(s.spokeState k = spkSEARCH ∨ s.spokeState k = spkCONFIRM) := by
  rcases hs with h | h <;> rw [h] <;> decide

theorem exec_spokeReceived_accepts {x : SpokeRead} {c : SpokeCand} {s : State} (live : s.channelsLive = true) (idle : s.optics[k].phase ≠ .pending)
    (waits : s.optics[k].phase ≠ .spokes) (hs : s.spokeState k = spkLOCKED ∨ s.spokeState k = spkCOAST)
    (found : s.pickSync k (s.facing k x) = some c) (others : (s.viewSpoke k (s.facing k x) c).others = true)
    (index : (s.viewSpoke k (s.facing k x) c).indexOk = true) (cont : (s.viewSpoke k (s.facing k x) c).contOk = true)
    (steady : s.get (F.BAY_OPT_STAT_LAYER_JUMP k.val) = 0) :
    ∃ t, exec (.spokeReceived k x) s = .next t ∧ t.get (F.RCH_SPK_STAT_STATE k.val) = spkLOCKED ∧
      t.get (F.RCH_SPK_ACC_CNT_CNT k.val) = (s.get (F.RCH_SPK_ACC_CNT_CNT k.val) + 1) % 2 ^ 64 ∧
      t.get (F.RCH_SPK_STAT_MISS_RUN k.val) = 0 ∧ t.get (F.RCH_SPK_POS_FLYWHEEL k.val) = 0 ∧
      t.get (F.RCH_SPK_STAT_LAST_INDEX k.val) = (s.viewSpoke k (s.facing k x) c).index ∧
      t.get (F.RCH_SPK_POS_TRACK k.val) = (s.viewSpoke k (s.facing k x) c).track.toNat % 2 ^ 18 ∧
      t.get (F.RCH_SPK_POS_LAYER k.val) = (s.viewSpoke k (s.facing k x) c).layer ∧
      t.get (F.RCH_SPK_POS_ZONE k.val) = (s.viewSpoke k (s.facing k x) c).zone := by
  refine exec_spokeReceived_follows live (fun h => absurd h (State.tracks_spokes hs)) fun _ => ?_
  refine Post.trackSpoke_accepts found others index cont steady idle waits fun p t shows quiet u f => ?_
  have shows := shows.follows f (f.state.resolve_right fun h => quiet h.1)
  obtain ⟨fits, layer, zone⟩ := s.viewSpoke_range (k := k) (s.facing k x) c
  refine ⟨shows.get (n := spkLOCKED) ?_ ?_, shows.get ?_ ?_, shows.get (n := 0) ?_ ?_, shows.get (n := 0) ?_ ?_, (shows.get ?_ ?_).trans (Nat.mod_eq_of_lt fits), shows.get ?_ ?_,
    (shows.get ?_ ?_).trans (Nat.mod_eq_of_lt layer), (shows.get ?_ ?_).trans (Nat.mod_eq_of_lt zone)⟩
  all_goals simp [accepted, shownFields]

theorem exec_spokeReceived_misses {x : SpokeRead} {s : State} (live : s.channelsLive = true)
    (hs : s.spokeState k = spkLOCKED ∨ s.spokeState k = spkCOAST) (lost : s.pickSync k (s.facing k x) = none)
    (steady : s.get (F.BAY_OPT_STAT_LAYER_JUMP k.val) = 0)
    (run : s.get (F.RCH_SPK_STAT_MISS_RUN k.val) + 1 < s.get (F.RCH_SPK_CTL_COAST_MAX k.val)) :
    ∃ t, exec (.spokeReceived k x) s = .next t ∧ t.get (F.RCH_SPK_STAT_STATE k.val) = spkCOAST ∧
      t.get (F.RCH_SPK_MISS_CNT_CNT k.val) = (s.get (F.RCH_SPK_MISS_CNT_CNT k.val) + 1) % 2 ^ 64 ∧
      t.get (F.RCH_SPK_STAT_MISS_RUN k.val) = min 15 (s.get (F.RCH_SPK_STAT_MISS_RUN k.val) + 1) ∧
      t.get (F.RCH_SPK_POS_FLYWHEEL k.val) = 1 ∧ t.get (F.RCH_SPK_POS_TRACK k.val) = s.spokes[k].tExp % 2 ^ 18 := by
  refine exec_spokeReceived_follows live (fun h => absurd h (State.tracks_spokes hs)) fun _ => ?_
  refine Post.trackSpoke_misses lost steady run fun t shows u f => ?_
  have coasts : t.spokeState k = spkCOAST :=
    shows.get (f := F.RCH_SPK_STAT_STATE k.val) (n := spkCOAST) (by simp [missed]) (by simp [shownFields])
  have shows := shows.follows f (f.state.elim id fun ⟨_, h⟩ => h.trans coasts.symm)
  refine ⟨shows.get (n := spkCOAST) ?_ ?_, shows.get ?_ ?_, (shows.get ?_ ?_).trans (Nat.mod_eq_of_lt (b := 2 ^ 4) (by omega)), shows.get (n := 1) ?_ ?_, shows.get ?_ ?_⟩
  all_goals simp [flown, missed, shownFields]

/-! ### Lost tracks and landings -/

/-- A PULL_IN that may begin shows that it runs, and for which command (R129, R140). -/
theorem Post.beginPullIn_shows {cmd : Nat} {s : State} {Q : Unit → State → Prop} (turns : s.engineStopped (engineOf k) = false)
    (q : ∀ t, t.get (F.BAY_OPT_STAT_PULL_IN k.val) = 1 → t.get (F.BAY_OPT_CMD_CMD k.val) = cmd % 2 ^ 4 → Q () t) : Act.Post (beginPullIn k cmd) s Q := by
  have apart : ∀ k : Fin 8, (F.BAY_OPT_CMD_CMD k.val).key ≠ (F.BAY_OPT_STAT_PULL_IN k.val).key := by decide
  unfold beginPullIn
  refine Post.rdThen (Post.ifTrue turns (Post.setThen (Post.setThen (Post.bind (Post.touches (freeze_touches k _ _ (L := 2 ^ Part.srvRegs.idx) rfl)
    fun _ t same => Post.emit (q _ ?_ ?_))))))
  · exact (same.get (F.BAY_OPT_STAT_PULL_IN_window _) (by decide) rfl).trans (State.get_put_self _ _ _)
  · exact (same.get (F.BAY_OPT_CMD_CMD_window _) (by decide) rfl).trans ((State.get_put_ne _ _ (apart k)).trans (State.get_put_self _ _ _))

theorem exec_trackLostCount_pullsIn {s : State} (takes : s.drivesTake = true) (turns : s.engineStopped (engineOf k) = false)
    (locked : s.get (F.BAY_OPT_STAT_FOCUS_LOCKED k.val) = 1) (off : s.get (F.BAY_OPT_STAT_ON_TRACK k.val) = 0) (idle : s.optics[k].phase = .idle)
    (stays : s.seeking k = false) (run : 64 ≤ s.optics[k].lostRun.getD 0) :
    ∃ t, exec (.trackLostCount k) s = .next t ∧ SameBut (.srvRegs :: .optRegs :: .optics :: eventParts) s t ∧
      Raised (Ev.bay (k.val / 2) Ev.iTRACK_LOST) 0 (k.val % 2) 0 s t ∧ t.get (F.BAY_OPT_STAT_PULL_IN k.val) = 1 ∧
      t.get (F.BAY_OPT_CMD_CMD k.val) = 3 := by
  have begins : exec (.trackLostCount k) s = answer _ s := if_pos takes
  refine frame_and_mask (execTrackLostCount_touches k s) (begins ▸ Post.answer (Post.ifTrue ⟨locked, off, idle, stays, turns, run⟩ ?_)) (by decide)
  refine Post.bind (Post.raise fun t raised sig => ?_)
  have still : t.engineStopped (engineOf k) = false := by
    unfold State.engineStopped
    rw [sig.same.get (F.SRV_BLK_STAT_ENGINE_FAULT_window _) (by decide) rfl]
    exact turns
  have footprint := beginPullIn_touches k 3 (L := 70368744440320) rfl
  refine Post.andTouches (Post.beginPullIn_shows still fun u pulls command same => ⟨?_, pulls, command⟩) footprint
  exact raised.of (same.get (F.EVT_COUNT_CNT_window _) (by decide) rfl) (same .evq rfl)

theorem Post.showQueue_keeps {a : Fin 16} {s : State} {Q : Unit → State → Prop}
    (q : ∀ t, t.get (F.STP_STAT_STATE a.val) = s.get (F.STP_STAT_STATE a.val) → t.get (F.STP_STAT_RESULT a.val) = s.get (F.STP_STAT_RESULT a.val) → Q () t) :
    Act.Post (showQueue a) s Q := by
  have apart : ∀ a : Fin 16, ∀ f ∈ [F.STP_STAT_STATE a.val, F.STP_STAT_RESULT a.val],
      f.key ≠ (F.STP_STAT_QUEUE a.val).key ∧ f.key ≠ (F.STP_REMAIN_DIST a.val).key := by decide
  have kept (f : Fld) (hf : f ∈ [F.STP_STAT_STATE a.val, F.STP_STAT_RESULT a.val]) (n d : Nat) :
      ((s.put (F.STP_STAT_QUEUE a.val) n).put (F.STP_REMAIN_DIST a.val) d).get f = s.get f :=
    (State.get_put_ne _ _ (apart a f hf).2).trans (State.get_put_ne _ _ (apart a f hf).1)
  unfold showQueue
  refine Post.rdThen (Post.setThen ?_)
  split
  all_goals exact Post.setF (q _ (kept _ (by simp) _ _) (kept _ (by simp) _ _))

/-- An axis whose moves are dropped shows its new state and result (R176, R180). -/
theorem Post.clearAxis_shows {a : Fin 16} {st result : Nat} {s : State} {Q : Unit → State → Prop}
    (q : ∀ t, t.get (F.STP_STAT_STATE a.val) = st % 2 ^ 3 → t.get (F.STP_STAT_RESULT a.val) = result % 2 ^ 3 → Q () t) :
    Act.Post (clearAxis a st result) s Q := by
  have apart : ∀ a : Fin 16, (F.STP_STAT_STATE a.val).key ≠ (F.STP_STAT_RESULT a.val).key := by decide
  unfold clearAxis
  refine Post.emitThen (Post.setThen (Post.setThen (Post.showQueue_keeps fun t state shown => q t ?_ ?_)))
  · exact state.trans ((State.get_put_ne _ _ (apart a)).trans (State.get_put_self _ _ _))
  · exact shown.trans (State.get_put_self _ _ _)

theorem exec_landingTimeout_fails {a : Fin 16} {s : State} (live : s.drivesLive = true) (lands : s.axisState a = axLANDING) (sled : a.val % 4 < 2)
    (seen : 200 ≤ s.axes[a].seen) :
    ∃ t, exec (.landingTimeout a) s = .next t ∧
      SameBut (.srvRegs :: .stpRegs :: .wrpRegs :: .calRegs :: .optRegs :: .life :: .optics :: .axes :: .detectors :: .writers :: .cal :: eventParts) s t ∧
      t.get (F.STP_STAT_STATE a.val) = axIDLE ∧ t.get (F.STP_STAT_RESULT a.val) = rFAILED := by
  have begins : exec (.landingTimeout a) s = answer _ s := if_pos live
  refine frame_and_mask (execLandingTimeout_touches a s) (begins ▸ Post.answer (Post.ifTrue ⟨lands, sled, seen⟩ ?_)) (by decide)
  refine Post.bind (Post.raise fun t _ _ => Post.bind (Post.clearAxis_shows fun u state result => ?_))
  refine Post.touches (loseFocus_touches (opuOfSled a) (L := 261280521591816774) rfl) fun _ v same => ⟨?_, ?_⟩
  · exact (same.get (F.STP_STAT_STATE_window _) (by decide) rfl).trans state
  · exact (same.get (F.STP_STAT_RESULT_window _) (by decide) rfl).trans result

/-- Settles O15: one lemma for each command and state of the lock. -/
theorem spokesMoveTheLock : Obligations.SpokesMoveTheLock := by
  unfold Obligations.SpokesMoveTheLock
  intro s k
  exact ⟨fun _ _ live idle hs found others index cont => exec_spokeReceived_confirms live idle hs found others index cont,
    fun _ live hs lost => exec_spokeReceived_loses live hs lost,
    fun _ _ live idle waits hs found others index cont steady => exec_spokeReceived_accepts live idle waits hs found others index cont steady,
    fun _ live hs lost steady run => exec_spokeReceived_misses live hs lost steady run,
    fun takes turns locked off idle stays run => exec_trackLostCount_pullsIn takes turns locked off idle stays run,
    fun _ live lands sled seen => exec_landingTimeout_fails live lands sled seen⟩

end Sys2Proof.Machine
end

section
/-! ### TRACE and CALIBRATE: a run of another kind holds the element (R270, R416) -/

namespace Sys2Proof.Machine

/-- An instruction of ring 63 of an Admin function, dispatched: CLASS 1, tag 65535, and the operand of its bits 191:160. -/
def adminInst (op operand : Nat) : Inst :=
  { id := 5, fn := 2, sq := 63, cq := 63, desc := BitVec.ofNat 512 (op + 2 ^ 9 + 65535 * 2 ^ 16 + operand * 2 ^ 160), stage := .dispatched,
    cls := 1 }

/-- A state in which one such instruction has been dispatched and its completion ring stands. -/
def State.holding (s : State) (i : Inst) : State :=
  { s with
    insts := [i]
    fns := (Vector.replicate 4 {}).set 2
      { sqs := [{ num := 63, base := 4096, k := 4, cq := 63 }], cqs := [{ num := 63, base := 8192, k := 4 }] } }

/-- Calibration 0 of sub-ADC 0, asked for while calibration 1 of the same sub-ADC runs. -/
def contended : State :=
  { (State.reset.put F.DEV_MODE_STAT_MODE mACTIVE).holding (adminInst opCALIB 0) with cal := { runs := [{ kind := 1, elem := 0 }] } }

/-- CALIBRATE waits for the run that has its element: none of its own begins with the command (R270, R416). -/
theorem exec_calibrate_contended : ∃ t, exec (.calibrate 5) contended = .next t ∧ t.cal.runs = [{ kind := 1, elem := 0 }] :=
  ⟨_, rfl, by decide +kernel⟩

theorem contended_ready : contended.ready 5 opCALIB (adminInst opCALIB 0) := by
  unfold State.ready State.canFinish State.quiet
  and_intros <;> decide +kernel

/-- Refutes O39: the statement rules out only a run of the same calibration on the element. With calibration 1 running on sub-ADC 0, whose
conditions and mode let calibration 0 run, CALIBRATE for calibration 0 of sub-ADC 0 begins no run: its element is another run's (R270). -/
theorem not_tracesAndCalibrationsObeyTheirInstructions : ¬ Obligations.TracesAndCalibrationsObeyTheirInstructions := by
  unfold Obligations.TracesAndCalibrationsObeyTheirInstructions
  intro holds
  obtain ⟨_, calibrates⟩ := holds contended 5 (adminInst opCALIB 0) {}
  obtain ⟨_, attended⟩ := calibrates contended_ready (by decide +kernel) (by decide +kernel) (by decide +kernel) (by decide +kernel)
  obtain ⟨_, unpinned⟩ := attended (by decide +kernel)
  obtain ⟨_, runs⟩ := unpinned (by decide +kernel)
  obtain ⟨t, step, _, begun, _⟩ := runs (by decide +kernel) (by decide +kernel) (by decide +kernel)
  obtain ⟨u, waits, others⟩ := exec_calibrate_contended
  cases step.symm.trans waits
  rw [others] at begun
  exact absurd begun (by decide +kernel)

end Sys2Proof.Machine
end

section
/-! ### RESET of a servo loop whose slot drives a writing laser (R114, R248, R410) -/

namespace Sys2Proof.Machine

/-- Where a program that touches little ends. -/
theorem Post.exec {L : Nat} {m : Act Unit} {s : State} {Q : Unit → State → Prop} (h : Touches L m)
    (q : Same L s (m.exec s) → Q () (m.exec s)) : Act.Post m s Q := by
  obtain ⟨_, t, runs, same⟩ := h s
  cases Runs.exec runs
  exact ⟨(), _, runs, q same⟩

/-- An event raised leaves an instruction that has been dispatched ready. -/
theorem State.ready.raised {K : List Nat} {s t : State} {id op : Nat} {i : Inst} (h : s.ready id op i) (hr : Signals K s t) : t.ready id op i := by
  have insts : t.insts = s.insts := hr.same .insts rfl
  have rings : t.fns[i.fn].cqs = s.fns[i.fn].cqs := by rw [hr.fns i.fn]
  unfold State.ready State.dispatched State.inst State.canFinish State.quiet at *
  rwa [insts, rings]

/-- The end of a reset leaves the writers. -/
theorem Post.endReset_writers {id g code dw0 op : Nat} {i : Inst} {s : State} (h : s.ready id op i) :
    Act.Post (endReset id g code dw0) s fun _ t => t.quiet ∧ ∀ u, Settles t u → u.writers = s.writers := by
  unfold endReset
  refine Post.bind (Post.touches (resetEvent_touches g (L := partsMask [.free]) rfl) fun e t drawn => Post.bind (Post.raise fun u _ raised => ?_))
  have ready : t.ready id op i := h.congr (SameBut.ofMask (l := [.free]) drawn (by decide)) (by decide) (by decide)
  refine Post.mono (Post.complete_ready (ready.raised raised)) fun _ v ⟨quiet, ends⟩ => ⟨quiet, fun w settled => ?_⟩
  exact ((ends w settled).2.1 .writers (by decide)).trans ((raised.same .writers rfl).trans (drawn .writers rfl))

/-- RESET of a servo loop leaves the writers as clearing its slot does, while the engine runs (R410). -/
theorem exec_resetServoLoop_writers {s : State} {id : Nat} {i : Inst} {e : Fin 2} {j : Nat} (h : s.ready id opRESET i) (passes : s.checkReset i = none)
    (loop : i.scope = 5) (he : Fin.ofNat 2 (i.target / 64) = e) (hj : i.target % 64 = j) (running : s.engineStopped e = false) :
    ∃ t, exec (.resetServoLoop id) s = .next t ∧ t.writers = ((clearSlot e j).exec s).writers := by
  have row : ((s.dispatched id opRESET).any fun i => i.scope == 5) = true := by rw [h.1, Option.any_some, loop]; rfl
  have checks : firstFail [s.checkReset i] = none := by rw [passes]; rfl
  refine Post.answer (m := performRow _ _ _ _ _) (Post.rdThen (Post.ifTrue row (Post.perform h.1 checks (Post.rdThen ?_))))
  rw [he, hj]
  refine Post.ifFalse (running ▸ Bool.false_ne_true) (Post.bind (Post.exec (clearSlot_touches e j (L := 37365803160437248) rfl) fun cleared => ?_))
  have ready := h.congr (SameBut.ofMask cleared (l := [.srvRegs, .out, .optics, .servos, .axes, .writers]) (by decide)) (by decide) (by decide)
  exact Post.endReset_writers ready

/-- RESET of the loop of slot 32 of engine 0. -/
def loopReset : Inst := adminInst opRESET (5 + 256 * 32)

/-- The slot sends LEVELS to OPU 0, whose bay writes with the laser on and the write gate open; its loop is reset. -/
def writingLoop : State :=
  { (((State.reset.put F.DEV_MODE_STAT_MODE mACTIVE).put (F.BAY_STAT_STATE 0) bWRITING).put (F.SRV_SLOT_DEST_KIND 0 32) 2).holding loopReset with
    optics := State.reset.optics.set 0 { laser := true, gate := true } }

theorem writingLoop_ready : writingLoop.ready 5 opRESET loopReset := by
  unfold State.ready State.canFinish State.quiet
  and_intros <;> decide +kernel

/-- Clearing the slot sends LEVELS once more, and a laser with its gate open counts them (R248). -/
theorem clearSlot_writingLoop : ((clearSlot 0 32).exec writingLoop).writers[0].drive = (0, 1) := by decide +kernel

theorem exec_resetServoLoop_writingLoop : ∃ t, exec (.resetServoLoop 5) writingLoop = .next t ∧ t.writers[0].drive = (0, 1) := by
  obtain ⟨t, step, writers⟩ := exec_resetServoLoop_writers (e := 0) (j := 32) writingLoop_ready (by decide +kernel) (by decide +kernel)
    (by decide +kernel) (by decide +kernel) (by decide +kernel)
  refine ⟨t, step, ?_⟩
  rw [writers]
  exact clearSlot_writingLoop

/-- Refutes O37: the clause of a servo loop leaves the writers out of what may change. Disabling a slot that sends LEVELS to a laser with its
write gate open sends them once more at 0 (R114, R248), and the writer's count of them grows. -/
theorem not_resetsReturnElementsToService : ¬ Obligations.ResetsReturnElementsToService := by
  unfold Obligations.ResetsReturnElementsToService
  intro holds
  obtain ⟨_, _, _, _, _, loop⟩ := holds writingLoop 5 loopReset writingLoop_ready (by decide +kernel)
  obtain ⟨running, _⟩ := loop 0 32 (by decide +kernel) (by decide +kernel)
  obtain ⟨t, step, same, _⟩ := running (by decide +kernel)
  obtain ⟨u, ends, counted⟩ := exec_resetServoLoop_writingLoop
  cases step.symm.trans ends
  rw [same .writers (by decide)] at counted
  exact absurd counted (by decide +kernel)

end Sys2Proof.Machine
end

section
/-! ### What writes to slots, gain sets, limits and trace buffers leave (R95, R97 to R102, R106, R111, R112) -/

namespace Sys2Proof.Machine

variable {s : State} {m : Master} {e : Fin 2} {j : Fin 64}

/-! ### Fields put one after another -/

/-- Every field listed reads as the value listed with it. -/
def State.reads (t : State) (l : List (Fld × Nat)) : Prop := ∀ p ∈ l, t.get p.1 = p.2 % 2 ^ p.1.w

theorem State.reads.get {l : List (Fld × Nat)} {t : State} (h : t.reads l) {f : Fld} {n : Nat} (hp : (f, n) ∈ l) : t.get f = n % 2 ^ f.w :=
  h (f, n) hp

theorem State.reads_nil (t : State) : t.reads [] := fun _ hp => absurd hp List.not_mem_nil

theorem State.reads_cons {p : Fld × Nat} {l : List (Fld × Nat)} {t : State} :
    t.reads (p :: l) ↔ t.get p.1 = p.2 % 2 ^ p.1.w ∧ t.reads l := List.forall_mem_cons

theorem State.reads_putAll {l : List (Fld × Nat)} (apart : (l.map fun p => p.1.key).Nodup) (s : State) : (s.putAll l).reads l :=
  fun _ hp => State.putAll_get apart hp s

theorem State.reads.subset {l k : List (Fld × Nat)} {t : State} (h : t.reads l) (hk : ∀ p ∈ k, p ∈ l) : t.reads k := fun p hp => h p (hk p hp)

/-- Fields put afterwards leave those read before that stand apart. -/
theorem State.reads.puts {l k : List (Fld × Nat)} {t : State} (h : t.reads l) (apart : ((l ++ k).map fun p => p.1.key).Nodup) :
    (t.putAll k).reads (l ++ k) := by
  rw [List.map_append, List.nodup_append] at apart
  obtain ⟨-, later, between⟩ := apart
  intro p hp
  rcases List.mem_append.mp hp with old | new
  · exact (State.putAll_get_other (fun q hq => between _ (List.mem_map_of_mem old) _ (List.mem_map_of_mem (f := fun p => p.1.key) hq)) t).trans (h p old)
  · exact State.putAll_get later new t

theorem State.putAll_same {l : List (Fld × Nat)} {ps : List Part} (h : ∀ p ∈ l, p.1.window ∈ ps) (s : State) : SameBut ps s (s.putAll l) := by
  induction l generalizing s with
  | nil => exact SameBut.refl _ _
  | cons p l ih => exact ((SameBut.refl _ s).put (h p List.mem_cons_self)).trans (ih (fun q hq => h q (List.mem_cons_of_mem _ hq)) _)

theorem bitsOf_mod (v lo w : Nat) : bitsOf v lo w % 2 ^ w = bitsOf v lo w := Nat.mod_mod _ _

/-! ### SRV_SLOT_CTL (R95, R114) -/

/-- The fields of a slot's control word that stand while it runs, as `v` gives them. -/
def slotSettings (e : Fin 2) (j : Fin 64) (v : Nat) : List (Fld × Nat) :=
  [(F.SRV_SLOT_CTL_RATE e.val j.val, bitsOf v 1 2), (F.SRV_SLOT_CTL_PHASE e.val j.val, bitsOf v 3 6),
   (F.SRV_SLOT_CTL_N_SEC e.val j.val, bitsOf v 9 4), (F.SRV_SLOT_CTL_BUMP e.val j.val, bitsOf v 13 4),
   (F.SRV_SLOT_CTL_INTEG e.val j.val, bitsOf v 20 8)]

/-- Those that may change while it runs. -/
def slotSwitches (e : Fin 2) (j : Fin 64) (v : Nat) : List (Fld × Nat) :=
  [(F.SRV_SLOT_CTL_SW_0 e.val j.val, bitsOf v 17 1), (F.SRV_SLOT_CTL_SW_1 e.val j.val, bitsOf v 18 1),
   (F.SRV_SLOT_CTL_FREEZE e.val j.val, bitsOf v 19 1)]

/-- The fields of a slot's control word. -/
def slotCtlFields (e : Fin 2) (j : Fin 64) : List Fld :=
  [F.SRV_SLOT_CTL_RATE e.val j.val, F.SRV_SLOT_CTL_PHASE e.val j.val, F.SRV_SLOT_CTL_N_SEC e.val j.val, F.SRV_SLOT_CTL_BUMP e.val j.val,
   F.SRV_SLOT_CTL_INTEG e.val j.val, F.SRV_SLOT_CTL_SW_0 e.val j.val, F.SRV_SLOT_CTL_SW_1 e.val j.val, F.SRV_SLOT_CTL_FREEZE e.val j.val]

theorem slotCtlFields_apart : ∀ (e : Fin 2) (j : Fin 64), ((slotCtlFields e j).map Fld.key).Nodup ∧
    ∀ f ∈ slotCtlFields e j, (F.SRV_SLOT_CTL_ENABLE e.val j.val).key ≠ f.key := by decide +kernel

/-- A slot that stays disabled takes every field of its control word. -/
theorem Post.writeSlotCtl_disabled {v : Nat} {Q : Unit → State → Prop} (off : s.get (F.SRV_SLOT_CTL_ENABLE e.val j.val) = 0)
    (stays : bitsOf v 0 1 = 0) (sections : bitsOf v 9 4 ≤ 8)
    (q : ∀ t, SameBut [.srvRegs] s t → t.reads (slotSettings e j v ++ slotSwitches e j v) → t.get (F.SRV_SLOT_CTL_ENABLE e.val j.val) = 0 → Q () t) :
    Act.Post (writeSlotCtl e j.val v) s Q := by
  obtain ⟨apart, enable⟩ := slotCtlFields_apart e j
  have settled {u : State} (hu : SameBut [.srvRegs] s u) (reads : u.reads (slotSettings e j v))
      (still : u.get (F.SRV_SLOT_CTL_ENABLE e.val j.val) = 0) : Q () (u.putAll (slotSwitches e j v)) := by
    refine q _ (hu.trans (State.putAll_same (by simp [slotSwitches]) u)) (reads.puts apart) ?_
    exact (State.putAll_get_other (fun p hp => enable _ (by revert p; simp [slotSwitches, slotCtlFields])) u).trans still
  unfold writeSlotCtl
  refine Post.rdThen (Post.ite (fun same => ?_) fun _ => Post.ifFalse ?_ ?_)
  · simp only [Bool.and_eq_true, beq_iff_eq] at same
    obtain ⟨⟨⟨⟨rate, phase⟩, nSec⟩, bump⟩, integ⟩ := same
    have reads : s.reads (slotSettings e j v) :=
      State.reads_cons.mpr ⟨rate.trans (bitsOf_mod ..).symm, State.reads_cons.mpr ⟨phase.trans (bitsOf_mod ..).symm,
        State.reads_cons.mpr ⟨nSec.trans (bitsOf_mod ..).symm, State.reads_cons.mpr ⟨bump.trans (bitsOf_mod ..).symm,
        State.reads_cons.mpr ⟨integ.trans (bitsOf_mod ..).symm, State.reads_nil s⟩⟩⟩⟩⟩
    refine Post.setThen (Post.setThen (Post.setThen (Post.ifFalse ?_ (Post.ifFalse ?_ (Post.pure (settled (SameBut.refl _ s) reads off))))))
    all_goals omega
  · omega
  · have still : (s.putAll (slotSettings e j v)).get (F.SRV_SLOT_CTL_ENABLE e.val j.val) = 0 :=
      (State.putAll_get_other (fun p hp => enable _ (by revert p; simp [slotSettings, slotCtlFields])) s).trans off
    have settings : ((slotSettings e j v).map fun p => p.1.key).Nodup :=
      List.Nodup.sublist ((List.sublist_append_left _ (slotSwitches e j v)).map _) apart
    have reads := State.reads_putAll settings s
    have same : SameBut [.srvRegs] s (s.putAll (slotSettings e j v)) := State.putAll_same (by simp [slotSettings]) s
    refine Post.setThen (Post.setThen (Post.setThen (Post.setThen (Post.setThen (Post.setThen (Post.setThen (Post.setThen (Post.ifFalse ?_ (Post.ifFalse ?_
      (Post.pure (settled same reads still)))))))))))
    all_goals omega

theorem exec_srvSlotCtlWrite_disabled {v : Word} (may : s.mayWrite m = true) (off : s.get (F.SRV_SLOT_CTL_ENABLE e.val j.val) = 0)
    (stays : bitsOf v.toNat 0 1 = 0) (sections : bitsOf v.toNat 9 4 ≤ 8) :
    ∃ t, exec (.srvSlotCtlWrite m e j v) s = .next t ∧ SameBut [.srvRegs] s t ∧
      t.reads (slotSettings e j v.toNat ++ slotSwitches e j v.toNat) ∧ t.get (F.SRV_SLOT_CTL_ENABLE e.val j.val) = 0 :=
  Post.answer (Post.ifTrue may (Post.writeSlotCtl_disabled off stays sections fun _ same reads off => ⟨same, reads, off⟩))

/-! ### SERVO_REJECT (R115) -/

/-- A write that a slot may not take raises an event of the slot's bay, and does no more. -/
theorem Post.raiseSlot {j i sub : Nat} {Q : Unit → State → Prop}
    (q : ∀ t, SameBut eventParts s t → Raised (Ev.bay (s.slotOwner e.val j).bay.val i) sub (j % 32) 0 s t → Q () t) :
    Act.Post (raiseSlot e j i sub) s Q :=
  Post.rdThen (Post.raise fun t raised signals => q t (SameBut.ofMask signals.same (by decide)) raised)

/-! ### Gain sets (R102) -/

/-- A gain set that no running slot names takes the word, unless it is a reserved one. -/
theorem Post.writeGain_free {g w v : Nat} {Q : Unit → State → Prop}
    (free : s.get (F.SRV_SLOT_CTL_ENABLE e.val j.val) = 0 ∨ s.gsetNamed e.val j.val g = false)
    (q : ∀ t, SameBut [.srvRegs, .calRegs, .cal] s t → (w < 50 ∧ w ≠ 43 → t.get (gainFld e.val j.val g w) = v % 2 ^ 32) → Q () t) :
    Act.Post (writeGain e j.val g w v) s Q := by
  have fits : SameBut [.srvRegs, .calRegs, .cal] s (s.put (gainFld e.val j.val g w) v) := (SameBut.refl _ s).put (by simp)
  have taken : (s.put (gainFld e.val j.val g w) v).get (gainFld e.val j.val g w) = v % 2 ^ 32 := State.get_put_self _ _ _
  unfold writeGain
  refine Post.rdThen (Post.ifFalse ?_ (Post.ite (fun _ => Post.setThen ?_) fun reserved => ?_))
  · rintro ⟨on, named⟩
    simp [on, named] at free
  · refine Post.ite (fun _ => ?_) fun _ => Post.pure (q _ fits fun _ => taken)
    refine Post.bind (Post.touches (abortCal_touches _ (L := partsMask [.calRegs, .cal]) rfl) fun _ u same => Post.emit (q _ ?_ fun _ => ?_))
    · exact (fits.trans ((SameBut.ofMask (l := [.calRegs, .cal]) same rfl).mono (by simp))).eff rfl (by simp [Eff.part])
    · exact (same.get (gainFld_window ..) (by decide) rfl).trans taken
  · exact Post.pure (q _ (SameBut.refl _ s) fun h => absurd h reserved)

theorem exec_gainSetWrite_taken {g : Fin 8} {w : Fin 64} {v : Word} (may : s.mayWrite m = true)
    (free : s.get (F.SRV_SLOT_CTL_ENABLE e.val j.val) = 0 ∨ s.gsetNamed e.val j.val g.val = false) :
    ∃ t, exec (.gainSetWrite m e j g w v) s = .next t ∧ SameBut [.srvRegs, .calRegs, .cal] s t ∧
      (w.val < 50 ∧ w.val ≠ 43 → t.get (gainFld e.val j.val g.val w.val) = v.toNat) :=
  Post.answer (Post.ifTrue may (Post.writeGain_free free fun _ same taken =>
    ⟨same, fun word => (taken word).trans (Nat.mod_eq_of_lt v.isLt)⟩))

theorem exec_gainSetWrite_named {g : Fin 8} {w : Fin 64} {v : Word} (may : s.mayWrite m = true)
    (on : s.get (F.SRV_SLOT_CTL_ENABLE e.val j.val) = 1) (named : s.gsetNamed e.val j.val g.val = true) :
    ∃ t, exec (.gainSetWrite m e j g w v) s = .next t ∧ SameBut eventParts s t ∧
      Raised (Ev.bay (s.slotOwner e.val j.val).bay.val Ev.iSERVO_REJECT) 2 (j.val % 32) 0 s t :=
  Post.answer (Post.ifTrue may (Post.rdThen (Post.ifTrue ⟨on, named⟩ (Post.raiseSlot fun _ same raised => ⟨same, raised⟩))))

/-! ### Limits (R99) -/

/-- The field of a slot's upper or lower limit. -/
def limFld (e : Fin 2) (j : Fin 64) (high : Bool) : Fld := if high then F.SRV_LIM_HI_LIM e.val j.val else F.SRV_LIM_LO_LIM e.val j.val

theorem limFld_window (high : Bool) : (limFld e j high).window = .srvRegs := by cases high <;> simp [limFld]

theorem limFld_width (high : Bool) : (limFld e j high).w = 32 := by cases high <;> rfl

/-- The lower and the upper limit that a write of `v` would leave. -/
def State.limits (s : State) (e : Fin 2) (j : Fin 64) (high : Bool) (v : Nat) : Int × Int :=
  (if high then s.geti (F.SRV_LIM_LO_LIM e.val j.val) else toSigned 32 v, if high then toSigned 32 v else s.geti (F.SRV_LIM_HI_LIM e.val j.val))

theorem exec_slotLimitWrite_taken {high : Bool} {v : Word} (may : s.mayWrite m = true)
    (ordered : (s.limits e j high v.toNat).1 ≤ (s.limits e j high v.toNat).2) :
    ∃ t, exec (.slotLimitWrite m e j high v) s = .next t ∧ SameBut [.srvRegs] s t ∧ t.get (limFld e j high) = v.toNat := by
  refine Post.answer (Post.ifTrue may (Post.rdThen (Post.ifFalse (Int.not_lt.mpr ordered) (Post.setF ⟨?_, ?_⟩))))
  · exact (SameBut.refl _ s).put (List.mem_singleton.mpr (limFld_window high))
  · exact (State.get_put_self s (limFld e j high) _).trans (by rw [limFld_width]; exact Nat.mod_eq_of_lt v.isLt)

theorem exec_slotLimitWrite_crossed {high : Bool} {v : Word} (may : s.mayWrite m = true)
    (crossed : (s.limits e j high v.toNat).2 < (s.limits e j high v.toNat).1) :
    ∃ t, exec (.slotLimitWrite m e j high v) s = .next t ∧ SameBut eventParts s t ∧
      Raised (Ev.bay (s.slotOwner e.val j.val).bay.val Ev.iSERVO_REJECT) 1 (j.val % 32) 0 s t :=
  Post.answer (Post.ifTrue may (Post.rdThen (Post.ifTrue crossed (Post.raiseSlot fun _ same raised => ⟨same, raised⟩))))

/-! ### Following-error faults (R106) -/

theorem State.slotRun_set (s : State) (e : Fin 2) (j : Nat) (r : SlotRun) :
    ((Eff.servo e fun v => { v with slots := (j, r) :: v.slots.filter (fun p => p.1 != j) }).apply s).slotRun e j = r := by
  unfold State.slotRun
  rw [apply_servo_self]
  simp

theorem exec_feFaultClear_resumes (may : s.mayWrite m = true) (fault : s.get (F.SRV_SLOT_STAT_FE_FAULT e.val j.val) = 1) :
    ∃ t, exec (.feFaultClear m e j) s = .next t ∧ SameBut [.srvRegs, .servos] s t ∧ t.get (F.SRV_SLOT_STAT_FE_FAULT e.val j.val) = 0 ∧
      (t.slotRun e j.val).resume = true := by
  refine Post.answer (Post.ifTrue may (Post.rdThen (Post.ifTrue fault (Post.setThen (Post.emit ⟨?_, ?_, ?_⟩)))))
  · exact ((SameBut.refl _ s).put (by simp)).eff rfl (by simp [Eff.part])
  · exact State.get_put_self s _ 0
  · rw [State.slotRun_set]

/-! ### Trace buffers (R111, R112) -/

/-- The settings of a trace buffer that its control word `v` gives. -/
def traceSettings (e : Fin 2) (k : Fin 8) (v : Nat) : List (Fld × Nat) :=
  [(F.SRV_TRC_CTL_SLOT e.val k.val, bitsOf v 2 6), (F.SRV_TRC_CTL_TAP e.val k.val, bitsOf v 8 4), (F.SRV_TRC_CTL_TRIG e.val k.val, bitsOf v 12 4),
   (F.SRV_TRC_CTL_TRIG_BUF e.val k.val, bitsOf v 16 3), (F.SRV_TRC_CTL_DEC e.val k.val, bitsOf v 20 10)]

/-- What a buffer shows once armed. -/
def traceArmed (e : Fin 2) (k : Fin 8) : List (Fld × Nat) :=
  [(F.SRV_TRC_CTL_ARM e.val k.val, 1), (F.SRV_TRC_STAT_STATE e.val k.val, 1), (F.SRV_TRC_STAT_TRIG_OFFSET e.val k.val, 0),
   (F.SRV_TRC_STAT_START e.val k.val, 0), (F.SRV_TRC_PRE_PRE_VALID e.val k.val, 0)]

theorem traceFields_apart (e : Fin 2) (k : Fin 8) (v n : Nat) :
    ((traceSettings e k v ++ traceArmed e k ++ [(F.SRV_TRC_CTL_SW_TRIG e.val k.val, n)]).map fun p => p.1.key).Nodup := by
  have apart : ∀ (e : Fin 2) (k : Fin 8), ([F.SRV_TRC_CTL_SLOT e.val k.val, F.SRV_TRC_CTL_TAP e.val k.val, F.SRV_TRC_CTL_TRIG e.val k.val,
    F.SRV_TRC_CTL_TRIG_BUF e.val k.val, F.SRV_TRC_CTL_DEC e.val k.val, F.SRV_TRC_CTL_ARM e.val k.val, F.SRV_TRC_STAT_STATE e.val k.val,
    F.SRV_TRC_STAT_TRIG_OFFSET e.val k.val, F.SRV_TRC_STAT_START e.val k.val, F.SRV_TRC_PRE_PRE_VALID e.val k.val,
    F.SRV_TRC_CTL_SW_TRIG e.val k.val].map Fld.key).Nodup := by decide +kernel
  exact apart e k

/-- A buffer with its settings `v` armed, and its samples cleared. -/
def State.arms (s : State) (e : Fin 2) (k : Fin 8) (v : Nat) : State :=
  ((Eff.trace (traceOf e k) fun _ => {}).apply ((s.putAll (traceSettings e k v)).putAll (traceArmed e k))).putAll
    [(F.SRV_TRC_CTL_SW_TRIG e.val k.val, bitsOf v 1 1)]

theorem State.arms_same (s : State) (e : Fin 2) (k : Fin 8) (v : Nat) : SameBut [.srvRegs, .traces] s (s.arms e k v) := by
  have settings : SameBut [.srvRegs, .traces] s (s.putAll (traceSettings e k v)) := State.putAll_same (by simp [traceSettings]) s
  exact ((settings.trans (State.putAll_same (by simp [traceArmed]) _)).eff rfl (by simp [Eff.part])).trans (State.putAll_same (by simp) _)

theorem State.arms_cleared (s : State) (e : Fin 2) (k : Fin 8) (v : Nat) : (s.arms e k v).traces[traceOf e k] = {} :=
  apply_trace_self (traceOf e k) (fun _ => {}) ((s.putAll (traceSettings e k v)).putAll (traceArmed e k))

theorem State.reads.trace {l : List (Fld × Nat)} {t : State} (h : t.reads l) (i : Fin 16) (g : Trace → Trace) : ((Eff.trace i g).apply t).reads l :=
  fun p hp => h p hp

theorem traceSettings_read (s : State) (e : Fin 2) (k : Fin 8) (v : Nat) : (s.putAll (traceSettings e k v)).reads (traceSettings e k v) :=
  State.reads_putAll (List.Nodup.sublist ((List.sublist_append_left _ _).map _) (List.append_assoc .. ▸ traceFields_apart e k v 0)) s

theorem State.arms_reads (s : State) (e : Fin 2) (k : Fin 8) (v : Nat) : (s.arms e k v).reads (traceSettings e k v ++ traceArmed e k) := by
  have apart := traceFields_apart e k v (bitsOf v 1 1)
  have armed := (traceSettings_read s e k v).puts (List.Nodup.sublist ((List.sublist_append_left _ _).map _) apart)
  exact ((armed.trace (traceOf e k) fun _ => {}).puts apart).subset fun p hp => List.mem_append_left _ hp

/-- A buffer that does not run is armed with the settings written. -/
theorem exec_srvTrcCtlWrite_arms {k : Fin 8} {v : Word} (may : s.mayWrite m = true)
    (rests : s.get (F.SRV_TRC_STAT_STATE e.val k.val) = 0 ∨ s.get (F.SRV_TRC_STAT_STATE e.val k.val) = 3)
    (was : s.get (F.SRV_TRC_CTL_ARM e.val k.val) = 0) (arm : bitsOf v.toNat 0 1 = 1) (quiet : bitsOf v.toNat 1 1 = 0)
    (keeps : bitsOf v.toNat 20 10 ≠ 0) : exec (.srvTrcCtlWrite m e k v) s = .next (s.arms e k v.toNat) := by
  have stopped : ¬ (s.get (F.SRV_TRC_STAT_STATE e.val k.val) == 1 || s.get (F.SRV_TRC_STAT_STATE e.val k.val) == 2) = true := by
    rcases rests with h | h <;> simp [h]
  have dec : (s.putAll (traceSettings e k v.toNat)).get (F.SRV_TRC_CTL_DEC e.val k.val) ≠ 0 := by
    rw [(traceSettings_read s e k v.toNat).get (f := F.SRV_TRC_CTL_DEC e.val k.val) (n := bitsOf v.toNat 20 10) (by simp [traceSettings])]
    exact (bitsOf_mod ..).symm ▸ keeps
  have runs : Act.Post (do if s.mayWrite m then writeTraceCtl e k v.toNat) s fun _ t => t = s.arms e k v.toNat := by
    refine Post.ifTrue may (Post.rdThen (Post.ifFalse stopped ?_))
    refine Post.setThen (Post.setThen (Post.setThen (Post.setThen (Post.setThen (Post.ifTrue ⟨was, arm⟩ (Post.rdThen (Post.ifFalse dec ?_)))))))
    refine Post.setThen (Post.setThen (Post.setThen (Post.setThen (Post.setThen (Post.emitThen (Post.setThen (Post.ifFalse (by omega) (Post.pure ?_))))))))
    rfl
  obtain ⟨_, step, rfl⟩ := Post.answer runs
  exact step

/-- Settles O16: one lemma for each write, in the order of the clauses. -/
theorem servoWritesTakeEffect : Obligations.ServoWritesTakeEffect := by
  unfold Obligations.ServoWritesTakeEffect
  intro s m e j v may
  refine ⟨fun off stays sections => ?_, fun _ _ free => exec_gainSetWrite_taken may free, fun _ _ on named => exec_gainSetWrite_named may on named,
    fun ordered => exec_slotLimitWrite_taken (high := true) may ordered, fun ordered => exec_slotLimitWrite_taken (high := false) may ordered,
    fun crossed => exec_slotLimitWrite_crossed (high := true) may crossed, fun fault => exec_feFaultClear_resumes may fault,
    fun k rests was arm quiet keeps => ?_⟩
  · obtain ⟨t, step, same, reads, still⟩ := exec_srvSlotCtlWrite_disabled may off stays sections
    have field {f : Fld} {lo w : Nat} (h : (f, bitsOf v.toNat lo w) ∈ slotSettings e j v.toNat ++ slotSwitches e j v.toNat) (wide : f.w = w) :
        t.get f = bitsOf v.toNat lo w := (reads.get h).trans (wide ▸ bitsOf_mod ..)
    refine ⟨t, step, same, ?_, ?_, ?_, ?_, ?_, ?_, ?_, ?_, still⟩
    all_goals exact field (by simp [slotSettings, slotSwitches]) rfl
  · have reads := s.arms_reads e k v.toNat
    have field {f : Fld} {lo w : Nat} (h : (f, bitsOf v.toNat lo w) ∈ traceSettings e k v.toNat ++ traceArmed e k) (wide : f.w = w) :
        (s.arms e k v.toNat).get f = bitsOf v.toNat lo w := (reads.get h).trans (wide ▸ bitsOf_mod ..)
    refine ⟨_, exec_srvTrcCtlWrite_arms may rests was arm quiet keeps, s.arms_same e k v.toNat, reads.get (n := 1) (by simp [traceArmed]),
      reads.get (n := 1) (by simp [traceArmed]), ?_, ?_, ?_, ?_, s.arms_cleared e k v.toNat⟩
    all_goals exact field (by simp [traceSettings]) rfl

end Sys2Proof.Machine
end

section
/-! ### What a frame keeps of a servo engine: its counter, its fault, and the signals taken at the frame's start (R92, R94, R107, R116) -/

namespace Sys2Proof.Machine

/-! ### The view of an engine -/

/-- The focus error among an OPU's derived signals (R116). -/
def headOf (d : List Int) : Int := d.getD 0 0

/-- What an engine holds beyond its registers, as far as a frame's slots leave it: the hold, the ADC means and the focus errors. -/
def servoView (v : Servo) : Bool × Vector AdcInputs 4 × Vector Int 4 := (v.holding, v.adc, v.derived.map headOf)

/-- An engine's frame counter, its fault and cause, and what it holds. -/
structure EngineView where
  frames : Nat
  fault : Nat
  cause : Nat
  servo : Bool × Vector AdcInputs 4 × Vector Int 4

def engineView (e : Fin 2) (s : State) : EngineView where
  frames := s.get (F.SRV_FRAME_CNT_CNT e.val)
  fault := s.get (F.SRV_BLK_STAT_ENGINE_FAULT e.val)
  cause := s.get (F.SRV_BLK_STAT_CAUSE e.val)
  servo := servoView s.servos[e]

/-- A program that keeps the view of an engine. -/
abbrev KeepsEngine {α : Type} (e : Fin 2) (m : Act α) : Prop := Keeps (engineView e) m

/-- The registers at the address of an engine's state word or frame counter. -/
def Fld.ofEngine (f : Fld) : Prop := 0xC000 ≤ f.addr % 0x10000 ∧ f.addr % 0x10000 < 0xC010

/-- Every part but the servo registers and the engines. -/
def allButServo : Nat := 2 ^ 61 - 1 - 2 ^ Part.srvRegs.idx - 2 ^ Part.servos.idx

variable {e : Fin 2}

theorem engineView_put {f : Fld} (h : ¬ f.ofEngine) (v : Nat) (s : State) : engineView e (s.put f v) = engineView e s := by
  have apart {g : Fld} (hg : g.ofEngine) : (s.put f v).get g = s.get g := by
    refine State.get_put_ne s v fun key => h ?_
    have addr : g.addr = f.addr := by simp only [Fld.key] at key; omega
    unfold Fld.ofEngine at hg ⊢
    rwa [← addr]
  have inside : ∀ e : Fin 2, (F.SRV_FRAME_CNT_CNT e.val).ofEngine ∧ (F.SRV_BLK_STAT_ENGINE_FAULT e.val).ofEngine ∧
      (F.SRV_BLK_STAT_CAUSE e.val).ofEngine := by unfold Fld.ofEngine; decide
  obtain ⟨frames, fault, cause⟩ := inside e
  unfold engineView
  rw [apart frames, apart fault, apart cause]
  rfl

theorem engineView_servo {i : Fin 2} {g : Servo → Servo} (h : ∀ v, servoView (g v) = servoView v) (s : State) :
    engineView e ((Eff.servo i g).apply s) = engineView e s := by
  have held : servoView ((Eff.servo i g).apply s).servos[e] = servoView s.servos[e] := by
    by_cases same : i = e
    · subst same
      rw [apply_servo_self, h]
    · rw [apply_servo_ne _ _ same]
  unfold engineView
  rw [held]
  rfl

theorem Keeps.besideServo {α : Type} {m : Act α} (h : Touches allButServo m) : KeepsEngine e m :=
  .touches h fun s t same => by
    have regs {f : Fld} (hf : f.window = .srvRegs) : t.get f = s.get f := same.get hf (by decide) rfl
    unfold engineView
    rw [regs (F.SRV_FRAME_CNT_CNT_window _), regs (F.SRV_BLK_STAT_ENGINE_FAULT_window _), regs (F.SRV_BLK_STAT_CAUSE_window _),
      show t.servos = s.servos from same .servos rfl]

/-- A field of a slot is none of the engine's. -/
theorem Keeps.slotField {a j c lo w r v : Nat} (h : c < 0x100) : KeepsEngine e (Machine.setF ⟨F.srvslotBase a j + c, lo, w, r⟩ v) :=
  .setF (engineView_put (by simp only [Fld.ofEngine, F.srvslotBase]; omega) v)

/-- Nor is one of a trace buffer. -/
theorem Keeps.traceField {a k c lo w r v : Nat} (h : c < 0x20) : KeepsEngine e (Machine.setF ⟨F.srvtrcBase a k + c, lo, w, r⟩ v) :=
  .setF (engineView_put (by simp only [Fld.ofEngine, F.srvtrcBase]; omega) v)

theorem Keeps.sectionField {a j c i v : Nat} : KeepsEngine e (Machine.setF (sectionFld a j c i) v) :=
  .setF (engineView_put (by simp only [Fld.ofEngine, sectionFld]; omega) v)

theorem Keeps.servo {i : Fin 2} {g : Servo → Servo} (h : ∀ v, servoView (g v) = servoView v) : KeepsEngine e (Machine.emit (.servo i g)) :=
  .emit (engineView_servo h)

theorem Keeps.slotRun (i : Fin 2) (j : Nat) (r : SlotRun) : KeepsEngine e (setSlotRun i j r) := .servo fun _ => rfl

/-- A part other than the servo registers and the engines that changes keeps the view. -/
theorem Keeps.optic {k : Fin 8} {g : Optic → Optic} : KeepsEngine e (Machine.emit (.optic k g)) :=
  .besideServo (Touches.emitM (M := 2 ^ Part.optics.idx) rfl rfl)

theorem Keeps.writer {k : Fin 8} {g : Writer → Writer} : KeepsEngine e (Machine.emit (.writer k g)) :=
  .besideServo (Touches.emitM (M := 2 ^ Part.writers.idx) rfl rfl)

theorem Keeps.field {f : Fld} {p : Part} {v : Nat} (h : f.window = p) (hp : Nat.lor (2 ^ p.idx) allButServo = allButServo) :
    KeepsEngine e (Machine.setF f v) :=
  .besideServo (Touches.setF h hp)

/-- A step that is taken or left out, and what follows either way. -/
theorem Keeps.whenThen {β : Type} {v : State → β} {α : Type} {c : Prop} [Decidable c] {m : Act Unit} {f : Unit → Act α} (h : Keeps v m)
    (h' : ∀ a, Keeps v (f a)) : Keeps v (if c then m >>= f else f ()) := .ite (.bind h h') (h' ())

/-! ### Sequences of an OPU -/

theorem freeze_keepsEngine (k : Fin 8) (role : Nat) (b : Bool) : KeepsEngine e (freeze k role b) := .slotField (by decide)

theorem holdCode_keepsEngine (k : Fin 8) (role : Nat) (code : Int) : KeepsEngine e (holdCode k role code) := .slotField (by decide)

theorem restTrim_keepsEngine (k : Fin 8) (role : Nat) : KeepsEngine e (restTrim k role) :=
  .bind (.slotField (by decide)) fun _ => .bind (.slotField (by decide)) fun _ => holdCode_keepsEngine k role 0

theorem cutTraining_keepsEngine (k : Fin 8) : KeepsEngine e (cutTraining k) :=
  .bind .rd fun _ => .ite (.bind .writer fun _ => .bind (freeze_keepsEngine k _ _) fun _ =>
    .bind (.field (F.WRP_WSL_CTL_TRAIN_window _) rfl) fun _ => .field (F.WRP_STAT_STATE_window _) rfl) (.pure ())

theorem dropLaser_keepsEngine (k : Fin 8) : KeepsEngine e (dropLaser k) := by
  unfold dropLaser
  refine .bind (.besideServo (stopWriteNow_touches k rfl)) fun _ => .bind (cutTraining_keepsEngine k) fun _ => .bind .rd fun _ => .ite ?_ .optic
  exact .bind (.besideServo (Touches.emitM (M := 2 ^ Part.life.idx) rfl rfl)) fun _ => .optic

theorem optEnd_keepsEngine (k : Fin 8) (result : Nat) : KeepsEngine e (optEnd k result) := by
  have ends : KeepsEngine e (do
      setF (F.BAY_OPT_CMD_CMD k.val) 0
      setF (F.BAY_OPT_STAT_RESULT k.val) result
      setF (F.BAY_OPT_STAT_JUMP k.val) 0
      setF (F.BAY_OPT_STAT_LAYER_JUMP k.val) 0
      setF (F.BAY_OPT_STAT_PULL_IN k.val) 0
      emit (.optic k fun o => { o with phase := .idle, frames := 0, pulseF := 0, pulseT := 0, inPullIn := false, spoke := none })) :=
    .bind (.field (F.BAY_OPT_CMD_CMD_window _) rfl) fun _ => .bind (.field (F.BAY_OPT_STAT_RESULT_window _) rfl) fun _ =>
    .bind (.field (F.BAY_OPT_STAT_JUMP_window _) rfl) fun _ => .bind (.field (F.BAY_OPT_STAT_LAYER_JUMP_window _) rfl) fun _ =>
    .bind (.field (F.BAY_OPT_STAT_PULL_IN_window _) rfl) fun _ => .optic
  unfold optEnd
  exact .bind .rd fun _ => .ite (.bind (freeze_keepsEngine k _ _) fun _ => ends) ends

theorem optCut_keepsEngine (k : Fin 8) (result : Nat) : KeepsEngine e (optCut k result) :=
  .bind .rd fun _ => .ite (optEnd_keepsEngine k result) (.pure ())

theorem retract_keepsEngine (k : Fin 8) : KeepsEngine e (retract k) := by
  unfold retract
  refine .bind (dropLaser_keepsEngine k) fun _ => .bind .rd fun _ => .ite ?_ (.pure ())
  exact .bind (optCut_keepsEngine k _) fun _ => .bind (freeze_keepsEngine k _ _) fun _ => .bind (freeze_keepsEngine k _ _) fun _ =>
    .bind (.field (F.BAY_OPT_STAT_FOCUS_LOCKED_window _) rfl) fun _ => .bind (.field (F.BAY_OPT_STAT_ON_TRACK_window _) rfl) fun _ =>
    .bind (.field (F.BAY_OPT_CMD_CMD_window _) rfl) fun _ => .optic

theorem loseFocus_keepsEngine (k : Fin 8) : KeepsEngine e (loseFocus k) :=
  .bind .rd fun _ => .bind (.besideServo (stopWriteNow_touches k rfl)) fun _ => .bind (.besideServo (cutReads_touches k rfl)) fun _ =>
    .bind (.besideServo (countFailure_touches k rfl)) fun _ => .bind (optCut_keepsEngine k _) fun _ => .bind (freeze_keepsEngine k _ _) fun _ =>
    .bind (.besideServo (raiseOpu_touches k _ _ _ rfl)) fun _ => .bind (retract_keepsEngine k) fun _ => .optic

theorem acquireFailed_keepsEngine (k : Fin 8) : KeepsEngine e (acquireFailed k) :=
  .bind .rd fun _ => .bind (.besideServo (countFailure_touches k rfl)) fun _ => .bind (optCut_keepsEngine k _) fun _ =>
    .bind (retract_keepsEngine k) fun _ => .optic

theorem beginHop_keepsEngine (k : Fin 8) : KeepsEngine e (beginHop k) :=
  .bind .rd fun _ => .bind (freeze_keepsEngine k _ _) fun _ => .bind (freeze_keepsEngine k _ _) fun _ =>
    .bind (.besideServo (movePresets_touches k _ rfl)) fun _ => .optic

theorem beginLayerJump_keepsEngine (k : Fin 8) (layer cmd : Nat) : KeepsEngine e (beginLayerJump k layer cmd) :=
  .bind .rd fun _ => .ite (.bind (.field (F.BAY_OPT_CMD_CMD_window _) rfl) fun _ => .bind .optic fun _ => .ite .optic
    (.bind (.field (F.BAY_OPT_STAT_LAYER_JUMP_window _) rfl) fun _ => .bind (.field (F.RCH_SPK_STAT_STATE_window _) rfl) fun _ =>
      beginHop_keepsEngine k)) (.pure ())

/-! ### The frame of an OPU -/

theorem laserGuard_keepsEngine (k : Fin 8) (front : Int) : KeepsEngine e (laserGuard k front) :=
  .bind .rd fun _ => .bind .optic fun _ => .ite (.bind (dropLaser_keepsEngine k) fun _ => .bind (.field (F.BAY_OPT_STAT_LASER_TRIP_window _) rfl) fun _ =>
    .besideServo (raiseOpu_touches k _ _ _ rfl)) (.pure ())

theorem focusLock_keepsEngine (k : Fin 8) (fe sum : Int) : KeepsEngine e (focusLock k fe sum) := by
  have lock (v : Nat) : KeepsEngine e (setF (F.BAY_OPT_STAT_FOCUS_LOCKED k.val) v) := .field (F.BAY_OPT_STAT_FOCUS_LOCKED_window _) rfl
  unfold focusLock
  refine .bind .rd fun _ => .bind .optic fun _ => .bind .rd fun _ => .ite (.ite (.bind (lock 0) fun _ => loseFocus_keepsEngine k) (.pure ())) ?_
  exact .ite (.bind (lock 1) fun _ => .optic) (.pure ())

theorem trainEnd_keepsEngine (k : Fin 8) (x : Training) (pass : Bool) : KeepsEngine e (trainEnd k x pass) := by
  have wrp {f : Fld} {v : Nat} (h : f.window = .wrpRegs) : KeepsEngine e (setF f v) := .field h rfl
  have raises (i : Nat) : KeepsEngine e (raiseWrp i k) := .besideServo (raiseWrp_touches i k rfl)
  have corrected (c : Bool) : KeepsEngine e (if c then raiseWrp wrpWSL_CORRECTED k else Pure.pure ()) := .ite (raises _) (.pure ())
  unfold trainEnd
  refine .bind .rd fun _ => .bind .writer fun _ => .bind (freeze_keepsEngine k _ _) fun _ => .bind (wrp (F.WRP_WSL_CTL_TRAIN_window _)) fun _ => .ite ?_ ?_
  · refine .bind (wrp (F.WRP_WSL_STAT_RESULT_window _)) fun _ => .bind (wrp (F.WRP_STAT_STATE_window _)) fun _ =>
      .bind (wrp (F.WRP_STAT_WR_DISABLED_window _)) fun _ => .ite (.bind (dropLaser_keepsEngine k) fun _ => corrected _) (corrected _)
  · exact .bind (wrp (F.WRP_WSL_STAT_RESULT_window _)) fun _ => .bind (wrp (F.WRP_STAT_STATE_window _)) fun _ =>
      .bind (wrp (F.WRP_STAT_WR_DISABLED_window _)) fun _ => .bind (dropLaser_keepsEngine k) fun _ => .bind (raises _) fun _ =>
      .besideServo (setBay_touches _ _ rfl)

theorem noFit_keepsEngine (k : Fin 8) (x : Training) : KeepsEngine e (noFit k x) :=
  .ite (trainEnd_keepsEngine k x false) (.besideServo (beginAttempt_touches k true _ rfl))

theorem testDone_keepsEngine (k : Fin 8) (x : Training) : KeepsEngine e (testDone k x) := by
  have next (y : Training) : KeepsEngine e (nextTest k y) := .besideServo (nextTest_touches k y rfl)
  have wiring (c : Bool × Bool × Bool) (clk : Bool) : KeepsEngine e (setWiring k c clk) := .besideServo (setWiring_touches k c clk rfl)
  have decides (d : Nat) : KeepsEngine e (if d = 2 then noFit k x else trainEnd k x true) := .ite (noFit_keepsEngine k x) (trainEnd_keepsEngine k x true)
  unfold testDone
  refine .bind .rd fun s => ?_
  split
  · exact next _
  · exact .bind (.field (F.WRP_WSL_STAT_DUTY_window _) rfl) fun _ => .ite (.bind (wiring _ _) fun _ => decides _) (decides _)
  · refine .ite (next _) (.bind (.field (F.WRP_WSL_STAT_OBS_window _) rfl) fun _ => .bind (.field (F.WRP_WSL_STAT_DUTY_window _) rfl) fun _ => ?_)
    split
    · exact .bind (wiring _ _) fun _ => next _
    · exact noFit_keepsEngine k x

theorem trainFrame_keepsEngine (k : Fin 8) (front : Int) : KeepsEngine e (trainFrame k front) := by
  unfold trainFrame
  refine .bind .rd fun s => ?_
  split
  · exact .pure ()
  · refine .ite (.bind (.besideServo (sendFrame_touches k _ rfl)) fun _ => .bind (.besideServo (sendSymbols_touches k _ _ _ rfl)) fun _ => ?_) ?_
    all_goals exact .ite .writer (testDone_keepsEngine k _)

theorem sweepFrame_keepsEngine (k : Fin 8) (fe sum : Int) : KeepsEngine e (sweepFrame k fe sum) :=
  .bind .rd fun _ => .ite (.bind (freeze_keepsEngine k _ _) fun _ => .optic) (.ite (acquireFailed_keepsEngine k)
    (.bind (holdCode_keepsEngine k _ _) fun _ => .optic))

theorem hopFrame_keepsEngine (k : Fin 8) (fe sum : Int) : KeepsEngine e (hopFrame k fe sum) := by
  have opt {f : Fld} {v : Nat} (h : f.window = .optRegs) : KeepsEngine e (setF f v) := .field h rfl
  unfold hopFrame
  refine .bind .rd fun s => ?_
  dsimp only
  split
  · exact .ite (.bind (opt (F.BAY_OPT_STAT_FOCUS_LOCKED_window _)) fun _ => .bind (opt (F.BAY_OPT_STAT_ON_TRACK_window _)) fun _ => .optic) (.pure ())
  · exact .ite .optic (.ite .optic .optic)
  · exact .ite (.bind (freeze_keepsEngine k _ _) fun _ => .optic) .optic
  · refine .ite (.bind (opt (F.BAY_OPT_STAT_LAYER_window _)) fun _ => .ite ?_ (beginHop_keepsEngine k)) (.pure ())
    exact .bind (opt (F.BAY_OPT_STAT_LAYER_JUMP_window _)) fun _ => .bind (.field (F.RCH_SPK_STAT_MISS_RUN_window _) rfl) fun _ =>
      .bind (.besideServo (loadLayer_touches k _ rfl)) fun _ => .bind (freeze_keepsEngine k _ _) fun _ => .optic
  · exact .pure ()

theorem jumpFrame_keepsEngine (k : Fin 8) : KeepsEngine e (jumpFrame k) :=
  .bind .rd fun _ => .ite .optic (.ite .optic (.bind (freeze_keepsEngine k _ _) fun _ => .optic))

theorem retractFrame_keepsEngine (k : Fin 8) : KeepsEngine e (retractFrame k) := by
  have loads (codes : Vector Int 4) : KeepsEngine e (loadCodes k codes) := .besideServo (loadCodes_touches k codes rfl)
  unfold retractFrame
  refine .bind .rd fun _ => .bind (loads _) fun _ => .ite ?_ (.pure ())
  exact .bind (holdCode_keepsEngine k _ _) fun _ => .bind (holdCode_keepsEngine k _ _) fun _ => .bind (restTrim_keepsEngine k _) fun _ =>
    .bind (restTrim_keepsEngine k _) fun _ => .ite (.bind (loads _) fun _ => optEnd_keepsEngine k _) (optEnd_keepsEngine k _)

/-! ### Slots in a frame -/

/-- The SA error stands behind the focus error. -/
theorem servoView_setSa (i : Nat) (hi : i < 4) (x : Int) (v : Servo) :
    servoView { v with derived := v.derived.set i (v.derived[i].set 4 x) } = servoView v := by
  have head : headOf (v.derived[i].set 4 x) = headOf v.derived[i] := by simp [headOf]
  unfold servoView
  congr 2
  ext j hj
  simp only [Vector.getElem_map, Vector.getElem_set]
  split
  case isTrue same => subst same; exact head
  case isFalse => rfl

theorem presetStep_keepsEngine (k : Fin 8) (i : Fin 2) (role : Nat) : KeepsEngine e (presetStep k i role) := by
  have limits (lo hi : Int) : KeepsEngine e (do
      setI (F.SRV_LIM_LO_LIM (engineOf k).val (slotOf k role)) (satInt 32 (lo * 65536))
      setI (F.SRV_LIM_HI_LIM (engineOf k).val (slotOf k role)) (satInt 32 (hi * 65536))) :=
    .bind (.slotField (by decide)) fun _ => .slotField (by decide)
  unfold presetStep
  refine .bind .rd fun s => ?_
  refine .ite (.bind (limits _ _) ?rest) (.ite (.bind (limits _ _) ?rest) (.ite (.bind (limits _ _) ?rest) (?rest ())))
  exact fun _ => .whenThen .optic fun _ => .ite (.whenThen (.servo (servoView_setSa _ (by omega) _)) fun _ => .optic) (.pure ())

theorem storeSection_keepsEngine (i j c : Nat) (x y : Int) : KeepsEngine e (storeSection i j c x y) :=
  .bind .rd fun _ => .bind .sectionField fun _ => .bind .sectionField fun _ => .bind .sectionField fun _ => .sectionField

theorem storeSections_keepsEngine (i j integ : Nat) (wind : Bool) (c : Nat) (x : Int) (ys : List Sat) :
    KeepsEngine e (storeSections i j integ wind c x ys) := by
  induction ys generalizing c x with
  | nil => exact .pure ()
  | cons y ys ih => exact .ite (.bind (storeSection_keepsEngine i j c x y.1) fun _ => ih _ _) (ih _ _)

theorem parkBay_keepsEngine (b : Fin 4) : KeepsEngine e (parkBay b) := by
  have sled (a : Fin 16) : KeepsEngine e (parkSled a) := .besideServo (parkSled_touches a rfl)
  unfold parkBay
  refine .bind .rd fun _ => .bind (.forAll fun m => .besideServo (stopMotor_touches m rfl)) fun _ => .ite ?_ (.pure ())
  exact .bind (.besideServo (setBay_touches b _ rfl)) fun _ => .bind (.forAll fun k => .bind (retract_keepsEngine k) fun _ => .optic) fun _ =>
    .bind (sled _) fun _ => .bind (sled _) fun _ => .besideServo (finishPark_touches b rfl)

theorem faultActions_keepsEngine (o : Owner) (act : Nat) (focus : Bool) : KeepsEngine e (faultActions o act focus) := by
  have stops (k : Fin 8) : KeepsEngine e (stopWriteNow k) := .besideServo (stopWriteNow_touches k rfl)
  have aborts (k : Fin 8) : KeepsEngine e (abortMotor k) := .besideServo (abortMotor_touches k rfl)
  have parks : KeepsEngine e (if bitAt act 4 then parkBay o.bay else pure ()) := .ite (parkBay_keepsEngine _) (.pure ())
  cases o with
  | opu k =>
    have retracts := Keeps.whenThen (c := (bitAt act 3 && focus) = true) (retract_keepsEngine k) fun _ => parks
    exact .whenThen (stops k) fun _ => .ite retracts retracts
  | motor k => exact .whenThen (.forAll stops) fun _ => .whenThen (aborts k) fun _ => .ite parks parks
  | axis a => exact .whenThen (.forAll stops) fun _ => .ite (.ite parks parks) (.ite parks parks)

theorem supervise_keepsEngine (i : Fin 2) (j : Nat) (o : Owner) (err : Int) : KeepsEngine e (supervise i j o err) := by
  have raises (n sub : Nat) : KeepsEngine e (raiseSlot i j n sub) := .besideServo (raiseSlot_touches i j n sub rfl)
  unfold supervise
  refine .bind .rd fun s => .bind (.slotField (by decide)) fun _ => .bind (.slotRun i j _) fun _ => .whenThen (raises _ _) fun _ => .ite ?_ (.pure _)
  refine .bind (.slotField (by decide)) fun _ => .bind (raises _ _) fun _ => .bind .rd fun _ => .bind (.slotRun i j _) fun _ => ?_
  refine .bind (faultActions_keepsEngine o _ _) fun _ => .ite ?_ (.pure _)
  split
  · exact .bind (loseFocus_keepsEngine _) fun _ => .pure _
  · exact .pure _

theorem incStop_slot_keepsEngine (i : Fin 2) (j : Nat) : KeepsEngine e (incStop (F.SRV_SAT_CNT_CNT i.val j)) :=
  .bind (.bind .rd fun _ => .pure _) fun _ => .ite (.slotField (by decide)) (.pure ())

theorem execHeld_keepsEngine (s : State) (i : Fin 2) (j : Nat) (q : SlotInputs) : KeepsEngine e (execHeld s i j q) := by
  unfold execHeld
  refine .bind (.slotField (by decide)) fun _ => .bind (.slotField (by decide)) fun _ => .bind (.slotField (by decide)) fun _ =>
    .ite (.bind (incStop_slot_keepsEngine i j) fun _ => ?_) ?_
  all_goals exact .bind (.slotRun i j _) fun _ => .pure _

theorem execOpen_keepsEngine (s : State) (i : Fin 2) (j : Nat) (q : SlotInputs) : KeepsEngine e (execOpen s i j q) := by
  unfold execOpen
  refine .bind (supervise_keepsEngine i j _ _) fun _ => .whenThen (storeSections_keepsEngine _ _ _ _ _ _ _) fun _ => ?_
  refine .bind (.slotField (by decide)) fun _ => .bind (.slotField (by decide)) fun _ => .bind (.slotField (by decide)) fun _ => ?_
  exact .whenThen (incStop_slot_keepsEngine i j) fun _ => .bind .rd fun _ => .bind (.slotRun i j _) fun _ => .bind .rd fun _ => .pure _

theorem execSlot_keepsEngine (s : State) (i : Fin 2) (j : Nat) : KeepsEngine e (execSlot s i j) :=
  .bind .rd fun _ => .bind (.slotField (by decide)) fun _ => .bind (.slotField (by decide)) fun _ => .bind (.slotField (by decide)) fun _ =>
    .ite (execHeld_keepsEngine s i j _) (execOpen_keepsEngine s i j _)

/-! ### Trace samples -/

theorem Keeps.trace {i : Fin 16} {g : Trace → Trace} : KeepsEngine e (Machine.emit (.trace i g)) :=
  .besideServo (Touches.emitM (M := 2 ^ Part.traces.idx) rfl rfl)

theorem showStart_keepsEngine (i : Fin 2) (k : Fin 8) (held : Nat) : KeepsEngine e (showStart i k held) := .bind .rd fun _ => .traceField (by decide)

theorem traceTrigger_keepsEngine (i : Fin 2) (k : Fin 8) : KeepsEngine e (traceTrigger i k) :=
  .bind .rd fun _ => .bind (.traceField (by decide)) fun _ => .bind (.traceField (by decide)) fun _ => .bind (.traceField (by decide)) fun _ =>
    .bind .trace fun _ => .forAll fun _ => .bind .rd fun _ => .ite .trace (.pure ())

theorem traceKeep_keepsEngine (i : Fin 2) (k : Fin 8) (v : Int) : KeepsEngine e (traceKeep i k v) := by
  have counts (s : State) (t : Trace) (pre : Nat) : KeepsEngine e (do
      emit (.trace (traceOf i k) fun t => { t with firstKept := true, left := t.left - 1 })
      showStart i k (min 16384 (s.get (F.SRV_TRC_PRE_PRE_VALID i.val k.val) + (16384 - pre - (t.left - 1))))
      if t.left ≤ 1 then setF (F.SRV_TRC_STAT_STATE i.val k.val) 3) :=
    .bind .trace fun _ => .bind (showStart_keepsEngine i k _) fun _ => .ite (.traceField (by decide)) (.pure ())
  unfold traceKeep
  refine .bind .rd fun s => .bind (.field (traceFld_window ..) rfl) fun _ => .bind .trace fun _ => .ite ?_ (showStart_keepsEngine i k _)
  exact .ite (.bind (.traceField (by decide)) fun _ => counts s _ _) (counts s _ _)

theorem traceSample_keepsEngine (i : Fin 2) (j : Nat) (x : Taps) (k : Fin 8) : KeepsEngine e (traceSample i j x k) := by
  have keeps (v : Int) (c : Prop) [Decidable c] : KeepsEngine e (do
      if c then traceKeep i k v
      emit (.trace (traceOf i k) fun t => { t with n := t.n + 1, prev := v, region := x.region })) :=
    .ite (.bind (traceKeep_keepsEngine i k v) fun _ => .trace) .trace
  unfold traceSample
  exact .bind .rd fun _ => .ite (.ite (.bind (traceTrigger_keepsEngine i k) fun _ => keeps _ _) (keeps _ _)) (.pure ())

theorem frameTrim_keepsEngine (i : Fin 2) (f j : Nat) : KeepsEngine e (frameTrim i f j) := by
  unfold frameTrim
  refine .bind .rd fun s => .ite ?_ (.pure ())
  split
  · exact .ite (presetStep_keepsEngine _ _ _) (.ite (presetStep_keepsEngine _ _ _) (.pure ()))
  · exact .pure ()

theorem frameSlot_keepsEngine (s : State) (i : Fin 2) (f j : Nat) : KeepsEngine e (frameSlot s i f j) :=
  .ite (.bind (execSlot_keepsEngine s i j) fun _ => .forAll fun k => traceSample_keepsEngine i j _ k) (.pure ())

/-! ### The signals of a frame (R94, R116) -/

/-- The focus error that the means of an OPU's inputs give (R116). -/
def focusError (m : AdcInputs) : Int := quotient31 ((m.a + m.c) - (m.b + m.d)) (m.a + m.b + m.c + m.d)

/-- The view of an engine whose OPU `i` has the means `m`. -/
def EngineView.sampled (v : EngineView) (i : Fin 4) (m : AdcInputs) : EngineView :=
  { v with servo := (v.servo.1, v.servo.2.1.set i.val m, v.servo.2.2.set i.val (focusError m)) }

theorem engineView_samples (k : Fin 8) (m : AdcInputs) (d : List Int) (hd : headOf d = focusError m) (s : State) :
    engineView (engineOf k) ((Eff.servo (engineOf k) fun v =>
      { v with adc := v.adc.set (k.val % 4) m, derived := v.derived.set (k.val % 4) d }).apply s) =
      (engineView (engineOf k) s).sampled ⟨k.val % 4, Nat.mod_lt _ (by decide)⟩ m := by
  have heads (v : Vector (List Int) 4) : (v.set (k.val % 4) d).map headOf = (v.map headOf).set (k.val % 4) (focusError m) := by
    rw [Vector.map_set, hd]
  unfold engineView EngineView.sampled
  rw [apply_servo_self]
  unfold servoView
  rw [heads]
  rfl

/-- An OPU's frame takes the means of its inputs and its focus error from them, and keeps the rest of its engine. -/
theorem Post.opticFrame {k : Fin 8} {i : Fin 4} {x : AdcFrame} {s : State} {Q : Unit → State → Prop} (he : engineOf k = e) (hi : k.val % 4 = i.val)
    (q : ∀ t, engineView e t = (engineView e s).sampled i (adcMeans x) → Q () t) : Act.Post (opticFrame k x) s Q := by
  obtain ⟨i, lt⟩ := i
  subst he
  subst hi
  have flag (j : Fin 3) (sum : Int) (ref : Nat) : KeepsEngine (engineOf k) (writtenFlag k j sum ref) :=
    .besideServo (writtenFlag_touches k j sum ref rfl)
  unfold Machine.opticFrame
  refine Post.rdThen (Post.bind (Post.keeps (flag _ _ _) fun _ t ht => Post.bind (Post.keeps (flag _ _ _) fun _ u hu =>
    Post.bind (Post.keeps (flag _ _ _) fun _ w hw => Post.rdThen (Post.emitThen ?_)))))
  refine Post.keeps (v := engineView (engineOf k)) ?_ fun _ r hr => q r (hr.trans ?_)
  · refine .bind (laserGuard_keepsEngine k _) fun _ => .bind .optic fun _ => .bind (trainFrame_keepsEngine k _) fun _ =>
      .bind (.besideServo (countEnergy_touches k _ rfl)) fun _ =>
      .ite (.bind .rd fun _ => .whenThen (.besideServo (stopWriteNow_touches k rfl)) fun _ => ?_) ?_
    all_goals
      beta_reduce
      refine .bind (focusLock_keepsEngine k _ _) fun _ => .bind .optic fun _ => .bind .rd fun s => ?_
      split
      · exact .bind (sweepFrame_keepsEngine k _ _) fun _ => .bind .rd fun _ => .optic
      · exact .ite (.bind .optic fun _ => .bind .rd fun _ => .optic) (.bind .rd fun _ => .optic)
      iterate 4 exact .bind (hopFrame_keepsEngine k _ _) fun _ => .bind .rd fun _ => .optic
      · exact .bind (jumpFrame_keepsEngine k) fun _ => .bind .rd fun _ => .optic
      · exact .bind (retractFrame_keepsEngine k) fun _ => .bind .rd fun _ => .optic
      · exact .ite (.bind (beginLayerJump_keepsEngine k _ _) fun _ => .bind .rd fun _ => .optic) (.bind .rd fun _ => .optic)
      · exact .bind .rd fun _ => .optic
  · rw [← ht, ← hu, ← hw]
    exact engineView_samples k _ _ rfl w

/-- A frame of a running engine takes the signals of its four OPUs (R92, R94, R116). -/
theorem Post.runFrame {x : FrameInputs} {s : State} {Q : Unit → State → Prop}
    (q : ∀ t, engineView e t = ((((engineView e s).sampled 0 (adcMeans x.opu0)).sampled 1 (adcMeans x.opu1)).sampled 2 (adcMeans x.opu2)).sampled 3
      (adcMeans x.opu3) → Q () t) : Act.Post (runFrame e x) s Q := by
  have opu : ∀ (e : Fin 2) (i : Fin 4), engineOf (Fin.ofNat 8 (4 * e.val + i.val)) = e ∧ (Fin.ofNat 8 (4 * e.val + i.val)).val % 4 = i.val := by decide
  unfold Machine.runFrame
  refine Post.rdThen ?_
  refine Post.bind (Post.opticFrame (opu e 0).1 (opu e 0).2 fun t ht => Post.bind (Post.opticFrame (opu e 1).1 (opu e 1).2 fun u hu => ?_))
  refine Post.bind (Post.opticFrame (opu e 2).1 (opu e 2).2 fun v hv => Post.bind (Post.opticFrame (opu e 3).1 (opu e 3).2 fun w hw => ?_))
  rw [hv, hu, ht] at hw
  refine Post.keeps (v := engineView e) ?_ fun _ r hr => q r (hr.trans hw)
  refine .bind (.forAll fun j => frameTrim_keepsEngine e _ j) fun _ => .whenThen (.forAll fun b => .forAll fun m => .besideServo (pwmLoad_touches m rfl))
    fun _ => .bind .rd fun snap => .bind (.forAll fun j => frameSlot_keepsEngine snap e _ j) fun _ => .bind (.servo fun _ => rfl) fun _ =>
    .bind (.besideServo (axesFrame_touches e rfl)) fun _ => .forAll fun j => .besideServo (slotOutput_touches e _ j rfl)

theorem adcMeans_sampled (v : EngineView) (a b c d : AdcInputs) (i : Fin 4) :
    ((((v.sampled 0 a).sampled 1 b).sampled 2 c).sampled 3 d).servo.2.1 = #v[a, b, c, d] ∧
      ((((v.sampled 0 a).sampled 1 b).sampled 2 c).sampled 3 d).servo.2.2[i] = focusError #v[a, b, c, d][i] := by
  constructor
  · ext j hj
    interval_cases j <;> simp [EngineView.sampled]
  · obtain ⟨i, hi⟩ := i
    interval_cases i <;> simp [EngineView.sampled]

/-! ### SERVO_FRAME (R92, R107, R108) -/

theorem clampFlags_keepsEngine (i : Fin 2) :
    KeepsEngine e (forAll (baysOf i) fun b => forAll (opusOf b) fun k => setF (F.BAY_OPT_STAT_ACT_CLAMP k.val) 0) :=
  .forAll fun _ => .forAll fun _ => .field (F.BAY_OPT_STAT_ACT_CLAMP_window _) rfl

theorem eccCount_keepsEngine (i : Fin 2) : KeepsEngine e (incStop (F.SRV_ECC_CNT_CNT i.val)) :=
  have apart : ∀ i : Fin 2, ¬ (F.SRV_ECC_CNT_CNT i.val).ofEngine := by unfold Fld.ofEngine; decide
  .bind (.bind .rd fun _ => .pure _) fun _ => .ite (.setF (engineView_put (apart i) _)) (.pure ())

/-- The end of a frame: the counter goes on, and the rest of the engine stands. -/
theorem Post.countFrame {s : State} {Q : Unit → State → Prop}
    (q : ∀ t, SameBut [.srvRegs] s t → engineView e t = { engineView e s with frames := (s.get (F.SRV_FRAME_CNT_CNT e.val) + 1) % 2 ^ 64 } → Q () t) :
    Act.Post (addWrap (F.SRV_FRAME_CNT_CNT e.val) 1) s Q := by
  have apart : ∀ e : Fin 2, (F.SRV_BLK_STAT_ENGINE_FAULT e.val).key ≠ (F.SRV_FRAME_CNT_CNT e.val).key ∧
      (F.SRV_BLK_STAT_CAUSE e.val).key ≠ (F.SRV_FRAME_CNT_CNT e.val).key := by decide
  obtain ⟨fault, cause⟩ := apart e
  unfold addWrap
  refine Post.bind (Post.getF (Post.setF (q _ ((SameBut.refl _ s).put (by simp)) ?_)))
  unfold engineView
  rw [State.get_put_self, State.get_put_ne _ _ fault, State.get_put_ne _ _ cause]
  rfl

/-- A frame of a stopped engine: the ramp of its fault, the steps of its axes and the counter (R92, R108). -/
theorem exec_servoFrame_stopped {s : State} {x : FrameInputs} (live : s.drivesLive = true) (stopped : s.engineStopped e = true) :
    ∃ t, exec (.servoFrame e x) s = .next t ∧ SameBut [.srvRegs, .stpRegs, .optRegs, .optics, .axes] s t ∧
      t.get (F.SRV_FRAME_CNT_CNT e.val) = (s.get (F.SRV_FRAME_CNT_CNT e.val) + 1) % 2 ^ 64 := by
  have begins : exec (.servoFrame e x) s = answer _ s := if_pos live
  refine begins ▸ Post.answer (Post.bind (Post.andTouches (Post.keeps (clampFlags_keepsEngine (e := e) e) fun _ t ht clamp => Post.ifTrue stopped ?_)
    (Touches.forAll fun b => .forAll fun k => .setF (L := partsMask [.optRegs]) (F.BAY_OPT_STAT_ACT_CLAMP_window _) rfl)))
  refine Post.bind (Post.andTouches (Post.keeps (v := engineView e) (.forAll fun b => .forAll fun k => .besideServo (faultRampFrame_touches k rfl))
    fun _ u hu ramp => Post.bind (Post.andTouches (Post.keeps (v := engineView e) (.besideServo (axesFrame_touches e rfl)) fun _ w hw steps => ?_)
      (axesFrame_touches e (L := partsMask [.stpRegs, .axes]) rfl)))
    (Touches.forAll fun b => .forAll fun k => faultRampFrame_touches k (L := partsMask [.optRegs, .optics]) rfl))
  refine Post.countFrame fun r count view => ⟨?_, ?_⟩
  · exact ((SameBut.ofMask clamp rfl).trans (SameBut.ofMask ramp rfl)).trans ((SameBut.ofMask steps rfl).trans (count.mono (by simp)))
  · have frames := congrArg EngineView.frames (hw.trans (hu.trans ht))
    exact (congrArg EngineView.frames view).trans (congrArg (fun n => (n + 1) % 2 ^ 64) frames)

/-- A frame of a running engine without an uncorrectable error or an overrun (R92, R94, R116). -/
theorem exec_servoFrame_runs {s : State} {x : FrameInputs} (live : s.drivesLive = true) (runs : s.engineStopped e = false)
    (ecc : x.ecc ≠ .uncorrectable) (timely : x.overrun = false) :
    ∃ t, exec (.servoFrame e x) s = .next t ∧
      t.get (F.SRV_FRAME_CNT_CNT e.val) = (s.get (F.SRV_FRAME_CNT_CNT e.val) + 1) % 2 ^ 64 ∧
      t.servos[e].adc = #v[adcMeans x.opu0, adcMeans x.opu1, adcMeans x.opu2, adcMeans x.opu3] ∧
      ∀ i : Fin 4, headOf t.servos[e].derived[i] = focusError #v[adcMeans x.opu0, adcMeans x.opu1, adcMeans x.opu2, adcMeans x.opu3][i] := by
  have begins : exec (.servoFrame e x) s = answer _ s := if_pos live
  have onTime : ¬ x.overrun = true := Bool.eq_false_iff.mp timely
  have frame {u : State} (hu : engineView e u = engineView e s) : Act.Post (do
      runFrame e x
      addWrap (F.SRV_FRAME_CNT_CNT e.val) 1) u fun _ t =>
      t.get (F.SRV_FRAME_CNT_CNT e.val) = (s.get (F.SRV_FRAME_CNT_CNT e.val) + 1) % 2 ^ 64 ∧
      t.servos[e].adc = #v[adcMeans x.opu0, adcMeans x.opu1, adcMeans x.opu2, adcMeans x.opu3] ∧
      ∀ i : Fin 4, headOf t.servos[e].derived[i] = focusError #v[adcMeans x.opu0, adcMeans x.opu1, adcMeans x.opu2, adcMeans x.opu3][i] := by
    refine Post.bind (Post.runFrame fun w hw => Post.countFrame fun t _ ht => ?_)
    rw [hu] at hw
    have frames : w.get (F.SRV_FRAME_CNT_CNT e.val) = s.get (F.SRV_FRAME_CNT_CNT e.val) := congrArg EngineView.frames hw
    have taken : servoView w.servos[e] = _ := congrArg EngineView.servo hw
    have servo : servoView t.servos[e] = servoView w.servos[e] := congrArg EngineView.servo ht
    refine ⟨(congrArg EngineView.frames ht).trans (congrArg (fun n => (n + 1) % 2 ^ 64) frames), ?_, fun i => ?_⟩
    · exact (congrArg (fun v => v.2.1) (servo.trans taken)).trans (adcMeans_sampled _ _ _ _ _ 0).1
    · have head : (t.servos[e].derived.map headOf)[i] = _ :=
        (congrArg (fun v => v.2.2[i]) (servo.trans taken)).trans (adcMeans_sampled _ _ _ _ _ i).2
      simpa using head
  refine begins ▸ Post.answer (Post.bind (Post.keeps (clampFlags_keepsEngine (e := e) e) fun _ t ht => Post.ifFalse (runs ▸ Bool.false_ne_true) ?_))
  refine Post.ite (fun _ => Post.bind (Post.keeps (eccCount_keepsEngine (e := e) e) fun _ u hu => Post.bind ?_)) fun _ =>
    Post.ifFalse ecc (Post.ifFalse onTime (frame ht))
  exact Post.keeps (v := engineView e) (.forAll fun b => .besideServo (raiseBay_touches _ _ _ _ _ rfl)) fun _ w hw =>
    Post.ifFalse ecc (Post.ifFalse onTime (frame (hw.trans (hu.trans ht))))

/-! ### Lasers and write gates that stay off -/

/-- A program that leaves `P` true whatever it was. -/
def Makes {α : Type} (P : State → Prop) (m : Act α) : Prop := ∀ s, Act.Post m s fun _ t => P t

section

variable {P : State → Prop}

theorem Makes.after {α β : Type} {m : Act α} {f : α → Act β} (h : Stays P m) (h' : ∀ a, Makes P (f a)) : Makes P (m >>= f) :=
  fun s => Post.bind (Post.mono (h s) fun a t _ => h' a t)

theorem Makes.bind {α β : Type} {m : Act α} {f : α → Act β} (h : Makes P m) (h' : ∀ a, Stays P (f a)) : Makes P (m >>= f) :=
  fun s => Post.bind (Post.mono (h s) fun a t p => Post.mono (h' a t) fun _ _ hu => hu p)

theorem Makes.forAll {ι : Type} [DecidableEq ι] {m : ι → Act Unit} {l : List ι} {i : ι} (hi : i ∈ l) (h : Makes P (m i)) (hs : ∀ j, Stays P (m j)) :
    Makes P (Machine.forAll l m) := by
  induction l with
  | nil => exact absurd hi List.not_mem_nil
  | cons j l ih =>
    by_cases same : i = j
    · subst same
      exact h.bind fun _ => .forAll hs
    · exact .after (hs j) fun _ => ih ((List.mem_cons.mp hi).resolve_left same)

end

/-- The laser of an OPU is off and its write gate closed. -/
def State.unlit (s : State) (k : Fin 8) : Prop := s.optics[k].laser = false ∧ s.optics[k].gate = false

abbrev StaysUnlit {α : Type} (k : Fin 8) (m : Act α) : Prop := Stays (State.unlit · k) m

variable {k : Fin 8}

theorem Stays.unlitBeside {α : Type} {m : Act α} (h : Touches allButOptics m) : StaysUnlit k m :=
  Stays.touches h fun s t same off => by
    unfold State.unlit
    rwa [show t.optics = s.optics from same .optics rfl]

/-- A change of an OPU that turns neither on. -/
theorem Stays.unlitOptic {j : Fin 8} {g : Optic → Optic} (h : ∀ o, o.laser = false ∧ o.gate = false → (g o).laser = false ∧ (g o).gate = false) :
    StaysUnlit k (Machine.emit (.optic j g)) := by
  refine Stays.emit fun s off => ?_
  unfold State.unlit
  by_cases same : j = k
  · subst same
    rw [apply_optic_self]
    exact h _ off
  · rwa [apply_optic_ne _ _ same]

theorem Stays.unlitField {f : Fld} {p : Part} {v : Nat} (h : f.window = p) (hp : Nat.lor (2 ^ p.idx) allButOptics = allButOptics) :
    StaysUnlit k (Machine.setF f v) := .unlitBeside (Touches.setF h hp)

theorem endWrite_staysUnlit (j : Fin 8) (n reason : Nat) : StaysUnlit k (endWrite j n reason) := by
  have gate : StaysUnlit k (closeGate j) := .unlitOptic fun _ ⟨laser, _⟩ => ⟨laser, rfl⟩
  unfold endWrite
  refine .bind (.rd fun s => .pure _) fun w => .ite (.bind (.unlitBeside (Touches.emitM (M := 2 ^ Part.writers.idx) rfl rfl)) fun _ => ?_) gate
  exact .bind (.unlitField (F.WRP_STAT_STATE_window _) rfl) fun _ =>
    .ite (.bind (.unlitBeside (abortWriteCal_touches j rfl)) fun _ => gate) gate

theorem stopWriteNow_staysUnlit (j : Fin 8) : StaysUnlit k (stopWriteNow j) := by
  unfold stopWriteNow
  refine .rd fun s => .ite (.bind (.unlitBeside (sendFrame_touches j _ rfl)) fun _ => ?_) ?_
  all_goals exact .bind (.unlitBeside (Touches.emitM (M := 2 ^ Part.writers.idx) rfl rfl)) fun _ => endWrite_staysUnlit j _ _

/-- Dropping a laser turns it and its gate off, and none on (R126, R134). -/
theorem dropLaser_unlights (j : Fin 8) : Makes (State.unlit · j) (dropLaser j) ∧ StaysUnlit k (dropLaser j) := by
  have off : Makes (State.unlit · j) (laserOff j) := fun s => Post.emit (by
    show ((Eff.optic j _).apply s).optics[j].laser = false ∧ ((Eff.optic j _).apply s).optics[j].gate = false
    rw [apply_optic_self]
    exact ⟨rfl, rfl⟩)
  have stays {i : Fin 8} : StaysUnlit i (laserOff j) := .unlitOptic fun _ _ => ⟨rfl, rfl⟩
  have life {i : Fin 8} {g : Life → Life} : StaysUnlit i (emit (.life g)) := .unlitBeside (Touches.emitM (M := 2 ^ Part.life.idx) rfl rfl)
  unfold dropLaser
  constructor
  · refine .after (stopWriteNow_staysUnlit j) fun _ => .after (.unlitBeside (cutTraining_touches j rfl)) fun _ s => ?_
    refine Post.rdThen (Post.ite (fun _ => ?_) fun _ => off s)
    exact Makes.after life (fun _ => off) s
  · exact .bind (stopWriteNow_staysUnlit j) fun _ => .bind (.unlitBeside (cutTraining_touches j rfl)) fun _ =>
      .rd fun _ => .ite (.bind life fun _ => stays) stays

theorem optEnd_staysUnlit (j : Fin 8) (result : Nat) : StaysUnlit k (optEnd j result) := by
  unfold optEnd
  refine .bind (.rd fun _ => .pure _) fun _ => .ite (.bind (.unlitBeside (freeze_touches j _ _ rfl)) fun _ => ?_) ?_
  all_goals
    exact .bind (.unlitField (F.BAY_OPT_CMD_CMD_window _) rfl) fun _ => .bind (.unlitField (F.BAY_OPT_STAT_RESULT_window _) rfl) fun _ =>
      .bind (.unlitField (F.BAY_OPT_STAT_JUMP_window _) rfl) fun _ => .bind (.unlitField (F.BAY_OPT_STAT_LAYER_JUMP_window _) rfl) fun _ =>
      .bind (.unlitField (F.BAY_OPT_STAT_PULL_IN_window _) rfl) fun _ => .unlitOptic fun _ h => h

theorem optCut_staysUnlit (j : Fin 8) (result : Nat) : StaysUnlit k (optCut j result) :=
  .bind (.rd fun _ => .pure _) fun _ => .ite (optEnd_staysUnlit j result) (.pure ())

theorem retract_staysUnlit (j : Fin 8) : StaysUnlit k (retract j) := by
  unfold retract
  refine .bind (dropLaser_unlights j).2 fun _ => .rd fun s => .ite (.bind (optCut_staysUnlit j _) fun _ => ?_) (.pure ())
  exact .bind (.unlitBeside (freeze_touches j _ _ rfl)) fun _ => .bind (.unlitBeside (freeze_touches j _ _ rfl)) fun _ =>
    .bind (.unlitField (F.BAY_OPT_STAT_FOCUS_LOCKED_window _) rfl) fun _ => .bind (.unlitField (F.BAY_OPT_STAT_ON_TRACK_window _) rfl) fun _ =>
    .bind (.unlitField (F.BAY_OPT_CMD_CMD_window _) rfl) fun _ => .unlitOptic fun _ h => h

theorem parkBay_staysUnlit (b : Fin 4) : StaysUnlit k (parkBay b) := by
  unfold parkBay
  refine .rd fun s => .bind (.forAll fun m => .unlitBeside (stopMotor_touches m rfl)) fun _ => ?_
  refine .ite (.bind (.unlitBeside (setBay_touches b _ rfl)) fun _ => ?_) (.pure ())
  refine .bind (.forAll fun j => .bind (retract_staysUnlit j) fun _ => .unlitOptic fun _ h => h) fun _ => ?_
  exact .bind (.unlitBeside (parkSled_touches _ rfl)) fun _ => .bind (.unlitBeside (parkSled_touches _ rfl)) fun _ =>
    .unlitBeside (finishPark_touches b rfl)

theorem stopBay_staysUnlit (b : Fin 4) : StaysUnlit k (stopBay b) :=
  (parkBay_staysUnlit b).bind fun _ => .forAll fun a => .rd fun _ => .ite (.unlitBeside (parkSled_touches a rfl)) (.pure ())

theorem enterSafe_staysUnlit (cause : Nat) : StaysUnlit k (enterSafe cause) := by
  unfold enterSafe
  refine .rd fun s => .ite (.bind (.unlitBeside (Touches.emitM (M := 2 ^ Part.chip.idx) rfl rfl)) fun _ => ?_) (.pure ())
  refine .ite (.bind (.unlitField rfl rfl) fun _ => ?_) ?_
  all_goals
    exact .bind (.unlitBeside (Touches.emitM (M := 2 ^ Part.boot.idx) rfl rfl)) fun _ => .bind (.unlitField rfl rfl) fun _ =>
      .bind (.unlitBeside (changeMode_touches _ _ rfl)) fun _ => .bind (.forAll retract_staysUnlit) fun _ => .forAll stopBay_staysUnlit

theorem beginSingle_staysUnlit (f : SingleFault) : StaysUnlit k (beginSingle f) :=
  .rd fun _ => .bind (.unlitBeside (Touches.emitM (M := 2 ^ Part.chip.idx) rfl rfl)) fun _ => .bind (.unlitBeside (raise_touches _ _ _ _ rfl)) fun _ =>
    .ite (.bind (.unlitBeside (raise_touches _ _ _ _ rfl)) fun _ => enterSafe_staysUnlit 7) (.pure ())

/-! ### The fault of an engine (R107, R108) -/

theorem stopBay_keepsEngine (b : Fin 4) : KeepsEngine e (stopBay b) :=
  .bind (parkBay_keepsEngine b) fun _ => .forAll fun a => .bind .rd fun _ => .ite (.besideServo (parkSled_touches a rfl)) (.pure ())

theorem enterSafe_keepsEngine (cause : Nat) : KeepsEngine e (enterSafe cause) := by
  unfold enterSafe
  refine .bind .rd fun s => .ite (.bind (.besideServo (Touches.emitM (M := 2 ^ Part.chip.idx) rfl rfl)) fun _ => ?_) (.pure ())
  refine .ite (.bind (.field rfl rfl) fun _ => ?_) ?_
  all_goals
    exact .bind (.besideServo (Touches.emitM (M := 2 ^ Part.boot.idx) rfl rfl)) fun _ => .bind (.field rfl rfl) fun _ =>
      .bind (.besideServo (changeMode_touches _ _ rfl)) fun _ => .bind (.forAll retract_keepsEngine) fun _ => .forAll stopBay_keepsEngine

theorem beginSingle_keepsEngine (f : SingleFault) : KeepsEngine e (beginSingle f) :=
  .bind .rd fun _ => .bind (.besideServo (Touches.emitM (M := 2 ^ Part.chip.idx) rfl rfl)) fun _ => .bind (.besideServo (raise_touches _ _ _ _ rfl)) fun _ =>
    .ite (.bind (.besideServo (raise_touches _ _ _ _ rfl)) fun _ => enterSafe_keepsEngine 7) (.pure ())

/-- What the fault of an engine stops in one bay: the OPUs, the axes that move, with its event (R108). -/
def faultBay (b : Fin 4) : Act Unit := do
  forAll (opusOf b) (fun k => do
    dropLaser k
    optCut k rABORTED)
  forAll [axisOf b 0, axisOf b 1, axisOf b 2, axisOf b 3] (fun a => do
    emit (.axis a fun x => { x with corr := 0 })
    let s ← rd
    if s.axes[a].queue ≠ [] ∨ s.axisState a = axHOMING then haltAxis a rABORTED)
  raiseBay b.val Ev.iSERVO_ENGINE_FAULT 0 0xFF

theorem faultBay_keepsEngine (b : Fin 4) : KeepsEngine e (faultBay b) :=
  .bind (.forAll fun k => .bind (dropLaser_keepsEngine k) fun _ => optCut_keepsEngine k _) fun _ =>
    .bind (.forAll fun a => .bind (.besideServo (Touches.emitM (M := 2 ^ Part.axes.idx) rfl rfl)) fun _ => .bind .rd fun _ =>
      .ite (.besideServo (haltAxis_touches a _ rfl)) (.pure ())) fun _ => .besideServo (raiseBay_touches _ _ _ _ _ rfl)

/-- It turns off the lasers and the write gates of the bay's OPUs, and turns none on. -/
theorem faultBay_unlights (b : Fin 4) : StaysUnlit k (faultBay b) ∧ (k ∈ opusOf b → Makes (State.unlit · k) (faultBay b)) := by
  have drops (j : Fin 8) : StaysUnlit k (do
      dropLaser j
      optCut j rABORTED) := .bind (dropLaser_unlights j).2 fun _ => optCut_staysUnlit j _
  have rest : StaysUnlit k (do
      forAll [axisOf b 0, axisOf b 1, axisOf b 2, axisOf b 3] (fun a => do
        emit (.axis a fun x => { x with corr := 0 })
        let s ← rd
        if s.axes[a].queue ≠ [] ∨ s.axisState a = axHOMING then haltAxis a rABORTED)
      raiseBay b.val Ev.iSERVO_ENGINE_FAULT 0 0xFF) :=
    .bind (.forAll fun a => .bind (.unlitBeside (Touches.emitM (M := 2 ^ Part.axes.idx) rfl rfl)) fun _ => .rd fun _ =>
      .ite (.unlitBeside (haltAxis_touches a _ rfl)) (.pure ())) fun _ => .unlitBeside (raiseBay_touches _ _ _ _ _ rfl)
  refine ⟨.bind (.forAll drops) fun _ => rest, fun hk => .bind (.forAll hk ?_ drops) fun _ => rest⟩
  exact .bind (dropLaser_unlights (k := k) k).1 fun _ => optCut_staysUnlit k _

/-- The fault turns off the lasers and the write gates of the OPUs that the engine serves (R108). -/
theorem engineFault_unlights {s : State} {b : Fin 4} (cause : Nat) (runs : s.engineStopped e = false) (hb : b ∈ baysOf e) (hk : k ∈ opusOf b) :
    Act.Post (engineFault e cause) s fun _ t => t.unlit k := by
  have bays : Makes (State.unlit · k) (forAll (baysOf e) faultBay) := .forAll hb ((faultBay_unlights b).2 hk) fun c => (faultBay_unlights c).1
  unfold engineFault
  refine Post.rdThen (Post.ifTrue runs (Post.setThen (Post.setThen (bays.bind (fun _ => ?_) _))))
  exact .bind (.unlitBeside (Touches.emitM (M := 2 ^ Part.servos.idx) rfl rfl)) fun _ => beginSingle_staysUnlit _

/-- An engine that has stopped with a cause, its hold begun (R108). -/
def EngineView.faulted (v : EngineView) (cause : Nat) : EngineView := { v with fault := 1, cause := cause % 4, servo := (true, v.servo.2) }

theorem engineFault_stops {s : State} (cause : Nat) (runs : s.engineStopped e = false) :
    Act.Post (engineFault e cause) s fun _ t => engineView e t = (engineView e s).faulted cause := by
  have apart : ∀ e : Fin 2, (F.SRV_BLK_STAT_ENGINE_FAULT e.val).key ≠ (F.SRV_BLK_STAT_CAUSE e.val).key ∧
      (F.SRV_FRAME_CNT_CNT e.val).key ≠ (F.SRV_BLK_STAT_ENGINE_FAULT e.val).key ∧
      (F.SRV_FRAME_CNT_CNT e.val).key ≠ (F.SRV_BLK_STAT_CAUSE e.val).key := by decide
  obtain ⟨fault, frames, frames'⟩ := apart e
  unfold engineFault
  refine Post.rdThen (Post.ifTrue runs (Post.setThen (Post.setThen (Post.bind ?_))))
  refine Post.keeps (v := engineView e) (.forAll faultBay_keepsEngine) fun _ u hu => Post.emitThen ?_
  refine Post.keeps (beginSingle_keepsEngine (e := e) _) fun _ t ht => ht.trans ?_
  have held : engineView e ((Eff.servo e fun v => { v with holding := true }).apply u) =
      { engineView e u with servo := (true, (engineView e u).servo.2) } := by
    unfold engineView
    rw [apply_servo_self]
    rfl
  rw [held, hu]
  unfold engineView
  rw [State.get_put_self, State.get_put_ne _ _ fault, State.get_put_self, State.get_put_ne _ _ frames', State.get_put_ne _ _ frames]
  rfl

/-- What holds at the end of a program for each index, holds there for all. -/
theorem Post.each {ι : Type} {P : ι → State → Prop} {m : Act Unit} {s : State} {Q : Unit → State → Prop}
    (h : Act.Post m s fun a t => (∀ i, P i t) → Q a t) (hp : ∀ i, Act.Post m s fun _ t => P i t) : Act.Post m s Q := by
  obtain ⟨a, t, r, q⟩ := h
  refine ⟨a, t, r, q fun i => ?_⟩
  obtain ⟨_, u, r', p⟩ := hp i
  obtain rfl := Runs.det r r'
  exact p

theorem Post.engineFault {cause : Nat} {s : State} {Q : Unit → State → Prop} (runs : s.engineStopped e = false)
    (q : ∀ t, engineView e t = (engineView e s).faulted cause → (∀ b ∈ baysOf e, ∀ k ∈ opusOf b, t.unlit k) → Q () t) :
    Act.Post (engineFault e cause) s Q := by
  refine Post.each (P := fun k t => ∀ b ∈ baysOf e, k ∈ opusOf b → t.unlit k) ?_ fun k => ?_
  · exact Post.mono (engineFault_stops cause runs) fun _ t view off => q t view fun b hb k hk => off k b hb hk
  · by_cases served : ∃ b ∈ baysOf e, k ∈ opusOf b
    · obtain ⟨b, hb, hk⟩ := served
      exact Post.mono (engineFault_unlights cause runs hb hk) fun _ _ off _ _ _ => off
    · exact Post.mono (engineFault_stops cause runs) fun _ _ _ b hb hk => absurd ⟨b, hb, hk⟩ served

/-- What a frame in which an engine stops leaves (R92, R107, R108). -/
def FrameStops (e : Fin 2) (cause : Nat) (s t : State) : Prop :=
  t.get (F.SRV_FRAME_CNT_CNT e.val) = (s.get (F.SRV_FRAME_CNT_CNT e.val) + 1) % 2 ^ 64 ∧ t.engineStopped e = true ∧
  t.get (F.SRV_BLK_STAT_CAUSE e.val) = cause ∧ t.servos[e].holding = true ∧
  ∀ b ∈ baysOf e, ∀ k ∈ opusOf b, t.optics[k].laser = false ∧ t.optics[k].gate = false

theorem faultFrame_stops {s u : State} {cause : Nat} (runs : s.engineStopped e = false) (hu : engineView e u = engineView e s) (small : cause < 4) :
    Act.Post (do
      engineFault e cause
      addWrap (F.SRV_FRAME_CNT_CNT e.val) 1) u fun _ t => FrameStops e cause s t := by
  have still : u.engineStopped e = false := (congrArg (fun v : EngineView => v.fault == 1) hu).trans runs
  refine Post.bind (Post.engineFault still fun w hw off => Post.countFrame fun t same ht => ?_)
  rw [hu] at hw
  have frames : w.get (F.SRV_FRAME_CNT_CNT e.val) = s.get (F.SRV_FRAME_CNT_CNT e.val) := congrArg EngineView.frames hw
  have optics : t.optics = w.optics := same .optics (by decide)
  rw [hw] at ht
  refine ⟨(congrArg EngineView.frames ht).trans (congrArg (fun n => (n + 1) % 2 ^ 64) frames), congrArg (fun v : EngineView => v.fault == 1) ht,
    (congrArg EngineView.cause ht).trans (Nat.mod_eq_of_lt small), congrArg (fun v : EngineView => v.servo.1) ht, fun b hb k hk => ?_⟩
  rw [optics]
  exact off b hb k hk

/-- An uncorrectable error of its memories, or an overrun, stops an engine (R107, R108). -/
theorem exec_servoFrame_faults {s : State} {x : FrameInputs} (live : s.drivesLive = true) (runs : s.engineStopped e = false)
    (fault : x.ecc = .uncorrectable ∨ x.overrun = true) :
    ∃ t, exec (.servoFrame e x) s = .next t ∧ FrameStops e (if x.ecc = .uncorrectable then 1 else 2) s t := by
  have begins : exec (.servoFrame e x) s = answer _ s := if_pos live
  refine begins ▸ Post.answer (Post.bind (Post.keeps (clampFlags_keepsEngine (e := e) e) fun _ t ht => Post.ifFalse (runs ▸ Bool.false_ne_true) ?_))
  by_cases ecc : x.ecc = .uncorrectable
  · refine Post.ifFalse (by rw [ecc]; decide) (Post.ifTrue ecc ?_)
    rw [if_pos ecc]
    exact faultFrame_stops runs ht (by decide)
  · have late : x.overrun = true := fault.resolve_left ecc
    have cause : (if x.ecc = .uncorrectable then 1 else 2) = 2 := if_neg ecc
    rw [cause]
    refine Post.ite (fun _ => Post.bind (Post.keeps (eccCount_keepsEngine (e := e) e) fun _ u hu => Post.bind ?_)) fun _ =>
      Post.ifFalse ecc (Post.ifTrue late (faultFrame_stops runs ht (by decide)))
    exact Post.keeps (v := engineView e) (.forAll fun b => .besideServo (raiseBay_touches _ _ _ _ _ rfl)) fun _ w hw =>
      Post.ifFalse ecc (Post.ifTrue late (faultFrame_stops runs (hw.trans (hu.trans ht)) (by decide)))

/-! ### The end of the hold (R108) -/

/-- The actuators of an OPU are on the ramp of an engine fault, out of focus. -/
def State.ramping (s : State) (k : Fin 8) : Prop := s.optics[k].phase = .faultRamp ∧ s.get (F.BAY_OPT_STAT_FOCUS_LOCKED k.val) = 0

/-- The ramp of an OPU begins (R108). -/
def beginRetractRamp (k : Fin 8) : Act Unit := do
  emit (.optic k fun o => { o with phase := .faultRamp, frames := 0, base := o.dac, focusClosed := false })
  setF (F.BAY_OPT_STAT_FOCUS_LOCKED k.val) 0
  setF (F.BAY_OPT_STAT_ON_TRACK k.val) 0

theorem beginRetractRamp_ramps (j : Fin 8) : Makes (State.ramping · j) (beginRetractRamp j) ∧ Stays (State.ramping · k) (beginRetractRamp j) := by
  have apart : ∀ j k : Fin 8, (F.BAY_OPT_STAT_FOCUS_LOCKED k.val).key ≠ (F.BAY_OPT_STAT_ON_TRACK j.val).key ∧
      (j ≠ k → (F.BAY_OPT_STAT_FOCUS_LOCKED k.val).key ≠ (F.BAY_OPT_STAT_FOCUS_LOCKED j.val).key) := by decide
  have optics (t : State) (f : Fld) (v : Nat) : (t.put f v).optics = t.optics := rfl
  have own : Makes (State.ramping · j) (beginRetractRamp j) := fun s => Post.emitThen (Post.setThen (Post.setF ⟨by
    rw [optics, optics, apply_optic_self], by
    rw [State.get_put_ne _ _ (apart j j).1, State.get_put_self]
    rfl⟩))
  refine ⟨own, fun s => ?_⟩
  by_cases same : j = k
  · subst same
    exact Post.mono (own s) fun _ _ ramps _ => ramps
  · refine Post.emitThen (Post.setThen (Post.setF fun ⟨phase, focus⟩ => ⟨?_, ?_⟩))
    · rwa [optics, optics, apply_optic_ne _ _ same]
    · rw [State.get_put_ne _ _ (apart j k).1, State.get_put_ne _ _ ((apart j k).2 same)]
      exact focus

/-- What the end of the hold does to one bay of the engine (R108). -/
def endHoldOfBay (b : Fin 4) : Act Unit := do
  forAll (opusOf b) beginRetractRamp
  abortMotor (spindleOf b)
  abortMotor (shuttleOf b)
  parkSled (axisOf b 0)
  parkSled (axisOf b 1)
  setBay b bFAULTED

theorem endHoldOfBay_ramps (b : Fin 4) :
    Stays (State.ramping · k) (endHoldOfBay b) ∧ (k ∈ opusOf b → Makes (State.ramping · k) (endHoldOfBay b)) := by
  have beside {m : Act Unit} (h : Touches (2 ^ 61 - 1 - 2 ^ Part.optRegs.idx - 2 ^ Part.optics.idx) m) : Stays (State.ramping · k) m :=
    .touches h fun s t same ramps => by
      unfold State.ramping
      rwa [show t.optics = s.optics from same .optics rfl, same.get (F.BAY_OPT_STAT_FOCUS_LOCKED_window _) (by decide) rfl]
  have rest : Stays (State.ramping · k) (do
      abortMotor (spindleOf b)
      abortMotor (shuttleOf b)
      parkSled (axisOf b 0)
      parkSled (axisOf b 1)
      setBay b bFAULTED) :=
    .bind (beside (abortMotor_touches _ rfl)) fun _ => .bind (beside (abortMotor_touches _ rfl)) fun _ =>
      .bind (beside (parkSled_touches _ rfl)) fun _ => .bind (beside (parkSled_touches _ rfl)) fun _ => beside (setBay_touches b _ rfl)
  exact ⟨.bind (.forAll fun j => (beginRetractRamp_ramps j).2) fun _ => rest,
    fun hk => .bind (.forAll hk (beginRetractRamp_ramps (k := k) k).1 fun j => (beginRetractRamp_ramps j).2) fun _ => rest⟩

/-- The gates of a motor are off. -/
def State.gatesShut (s : State) (m : Fin 8) : Prop := s.motors[m].gates = false

theorem gatesOff_shuts (i : Fin 8) : Makes (State.gatesShut · i) (gatesOff i) := fun _ => Post.gatesOff fun _ off _ _ => off

/-- Aborting a motor turns its own gates off, and none on. -/
theorem abortMotor_shuts {m : Fin 8} (i : Fin 8) : Makes (State.gatesShut · i) (abortMotor i) ∧ Stays (State.gatesShut · m) (abortMotor i) := by
  have regs {α : Type} {p : Act α} (h : Touches (2 ^ Part.motRegs.idx) p) {n : Fin 8} : Stays (State.gatesShut · n) p :=
    .touches h fun s t same off => by
      unfold State.gatesShut
      rwa [show t.motors = s.motors from same .motors rfl]
  have motor {n : Fin 8} {g : Motor → Motor} (h : ∀ x, x.gates = false → (g x).gates = false) : Stays (State.gatesShut · n) (emit (.motor i g)) :=
    .emit fun s off => by
      unfold State.gatesShut
      by_cases same : i = n
      · subst same
        rw [apply_motor_self]
        exact h _ off
      · rwa [apply_motor_ne _ _ same]
  have shuts : Stays (State.gatesShut · m) (gatesOff i) := by
    unfold gatesOff
    refine .rd fun s => .bind (motor fun _ _ => rfl) fun _ => ?_
    refine .bind (.bind (motor fun _ off => off) fun _ => regs (Touches.setF (F.MOT_STAT_REVERSE_window _) rfl)) fun _ => ?_
    exact .ite (regs (setMotor_touches i _ rfl)) (.pure ())
  have result {n : Fin 8} (r : Nat) : Stays (State.gatesShut · n) (setMotorResult i r) := regs (setMotorResult_touches i r rfl)
  unfold abortMotor
  refine ⟨fun s => Post.rdThen (Post.ite (fun _ => ?_) fun _ => gatesOff_shuts i s), .rd fun _ => .ite (.bind (result _) fun _ => shuts) shuts⟩
  exact Makes.after (result _) (fun _ => gatesOff_shuts i) s

theorem endHoldOfBay_shuts (b : Fin 4) {m : Fin 8} :
    Stays (State.gatesShut · m) (endHoldOfBay b) ∧ Makes (State.gatesShut · (spindleOf b)) (endHoldOfBay b) := by
  have beside {n : Fin 8} {p : Act Unit} (h : Touches (2 ^ 61 - 1 - 2 ^ Part.motors.idx) p) : Stays (State.gatesShut · n) p :=
    .touches h fun s t same off => by
      unfold State.gatesShut
      rwa [show t.motors = s.motors from same .motors rfl]
  have ramps {n : Fin 8} : Stays (State.gatesShut · n) (forAll (opusOf b) beginRetractRamp) :=
    .forAll fun j => .bind (beside (Touches.emitM (M := 2 ^ Part.optics.idx) rfl rfl)) fun _ =>
      .bind (beside (Touches.setF (F.BAY_OPT_STAT_FOCUS_LOCKED_window _) rfl)) fun _ => beside (Touches.setF (F.BAY_OPT_STAT_ON_TRACK_window _) rfl)
  have rest {n : Fin 8} : Stays (State.gatesShut · n) (do
      abortMotor (shuttleOf b)
      parkSled (axisOf b 0)
      parkSled (axisOf b 1)
      setBay b bFAULTED) :=
    .bind (abortMotor_shuts _).2 fun _ => .bind (beside (parkSled_touches _ rfl)) fun _ => .bind (beside (parkSled_touches _ rfl)) fun _ =>
      beside (setBay_touches b _ rfl)
  exact ⟨.bind ramps fun _ => .bind (abortMotor_shuts _).2 fun _ => rest, .after ramps fun _ => .bind (abortMotor_shuts (m := m) _).1 fun _ => rest⟩

/-- A mode that lets a bay fault finds it FAULTED (R46). -/
def State.faultedWhereAdmitted (s : State) (b : Fin 4) : Prop := s.admits bFAULTED = true → s.bayState b.val = bFAULTED

/-- What a program that leaves the modes and the states of the bays keeps. -/
theorem Stays.admitted {c : Fin 4} {α : Type} {m : Act α} (h : Touches (2 ^ 61 - 1 - 2 ^ Part.devRegs.idx - 2 ^ Part.bayRegs.idx) m) :
    Stays (State.faultedWhereAdmitted · c) m :=
  .touches h fun s t same faulted => by
    have mode : t.mode = s.mode := same.get (f := F.DEV_MODE_STAT_MODE) (p := .devRegs) rfl (by decide) rfl
    have bay : t.bayState c.val = s.bayState c.val := same.get (F.BAY_STAT_STATE_window _) (by decide) rfl
    unfold State.faultedWhereAdmitted State.admits at *
    rwa [mode, bay]

theorem setBay_faults {c : Fin 4} (b : Fin 4) :
    Stays (State.faultedWhereAdmitted · c) (setBay b bFAULTED) ∧ Makes (State.faultedWhereAdmitted · b) (setBay b bFAULTED) := by
  have faults (s : State) : (s.put (F.BAY_STAT_STATE b.val) bFAULTED).bayState b.val = bFAULTED := State.get_put_self _ _ _
  have apart : ∀ b c : Fin 4, c ≠ b → (F.BAY_STAT_STATE c.val).key ≠ (F.BAY_STAT_STATE b.val).key := by decide
  have mode (s : State) : (s.put (F.BAY_STAT_STATE b.val) bFAULTED).mode = s.mode := State.get_put_window s _ (by rw [F.BAY_STAT_STATE_window]; decide)
  have put (s : State) (h : s.faultedWhereAdmitted c) : (s.put (F.BAY_STAT_STATE b.val) bFAULTED).faultedWhereAdmitted c := by
    by_cases same : c = b
    · subst same
      exact fun _ => faults s
    · intro admitted
      rw [State.admits, mode] at admitted
      exact (State.get_put_ne s _ (apart b c same)).trans (h admitted)
  have rest {n : Fin 4} (old : Nat) : Stays (State.faultedWhereAdmitted · n) (do
      abortBayCal b.val old bFAULTED
      noteUse b old bFAULTED
      if old = bREADING then forAll [opuTop b, opuBottom b] endCapture
      raiseBay b.val Ev.iBAY_STATE_CHANGE 0 0 (old + 256 * bFAULTED)) := by
    have raises : Stays (State.faultedWhereAdmitted · n) (raiseBay b.val Ev.iBAY_STATE_CHANGE 0 0 (old + 256 * bFAULTED)) :=
      .admitted (raiseBay_touches _ _ _ _ _ rfl)
    exact .bind (.admitted (abortBayCal_touches _ _ _ rfl)) fun _ => .bind (.admitted (noteUse_touches _ _ _ rfl)) fun _ =>
      .ite (.bind (.forAll fun k => .admitted (endCapture_touches k rfl)) fun _ => raises) raises
  unfold setBay
  constructor
  · refine .rd fun s => .ite (.bind (.setF put) fun _ => ?_) (.pure ())
    intro u
    exact Post.ifFalse (by decide) (rest _ u)
  · intro s
    refine Post.rdThen (Post.ite (fun _ => Post.setThen (Post.ifFalse (by decide) ?_)) fun still => Post.pure fun admitted => ?_)
    · exact Post.mono (rest _ _) fun _ _ stays => stays fun _ => faults s
    · by_contra other
      exact still ⟨other, admitted⟩

theorem endHoldOfBay_faults (b : Fin 4) {c : Fin 4} :
    Stays (State.faultedWhereAdmitted · c) (endHoldOfBay b) ∧ Makes (State.faultedWhereAdmitted · b) (endHoldOfBay b) := by
  have ramps {n : Fin 4} : Stays (State.faultedWhereAdmitted · n) (forAll (opusOf b) beginRetractRamp) :=
    .forAll fun j => .bind (.admitted (Touches.emitM (M := 2 ^ Part.optics.idx) rfl rfl)) fun _ =>
      .bind (.admitted (Touches.setF (F.BAY_OPT_STAT_FOCUS_LOCKED_window _) rfl)) fun _ => .admitted (Touches.setF (F.BAY_OPT_STAT_ON_TRACK_window _) rfl)
  have motor {n : Fin 4} (m : Fin 8) : Stays (State.faultedWhereAdmitted · n) (abortMotor m) := .admitted (abortMotor_touches m rfl)
  have sled {n : Fin 4} (a : Fin 16) : Stays (State.faultedWhereAdmitted · n) (parkSled a) := .admitted (parkSled_touches a rfl)
  unfold endHoldOfBay
  constructor
  · exact .bind ramps fun _ => .bind (motor _) fun _ => .bind (motor _) fun _ => .bind (sled _) fun _ => .bind (sled _) fun _ => (setBay_faults b).1
  · exact .after ramps fun _ => .after (motor _) fun _ => .after (motor _) fun _ => .after (sled _) fun _ => .after (sled _) fun _ =>
      (setBay_faults (c := c) b).2

theorem Makes.both {P R : State → Prop} {m : Act Unit} (h : Makes P m) (h' : Makes R m) : Makes (fun t => P t ∧ R t) m :=
  fun s => Post.and (Post.mono (h s) fun _ _ p r => ⟨p, r⟩) (h' s)

theorem Stays.both {P R : State → Prop} {m : Act Unit} (h : Stays P m) (h' : Stays R m) : Stays (fun t => P t ∧ R t) m :=
  fun s => Post.and (R := fun t => R s → R t) (Post.mono (h s) fun _ _ p r ⟨hp, hr⟩ => ⟨p hp, r hr⟩) (h' s)

/-- A bay as the end of its engine's hold leaves it (R108). -/
def State.heldOut (t : State) (b : Fin 4) : Prop :=
  t.faultedWhereAdmitted b ∧ t.gatesShut (spindleOf b) ∧ t.ramping (opuTop b) ∧ t.ramping (opuBottom b)

theorem endHoldOfBay_heldOut (b c : Fin 4) : Makes (State.heldOut · b) (endHoldOfBay b) ∧ Stays (State.heldOut · c) (endHoldOfBay b) := by
  constructor
  · exact (endHoldOfBay_faults (c := c) b).2.both ((endHoldOfBay_shuts (m := spindleOf c) b).2.both
      (((endHoldOfBay_ramps b).2 (by simp [opusOf])).both ((endHoldOfBay_ramps b).2 (by simp [opusOf]))))
  · exact (endHoldOfBay_faults b).1.both ((endHoldOfBay_shuts b).1.both ((endHoldOfBay_ramps b).1.both (endHoldOfBay_ramps b).1))

theorem Stays.heldOutBeside {b : Fin 4} {m : Act Unit}
    (h : Touches (2 ^ 61 - 1 - partsMask [.devRegs, .bayRegs, .optRegs, .optics, .motors]) m) : Stays (State.heldOut · b) m :=
  .touches h fun s t same held => by
    have mode : t.mode = s.mode := same.get (f := F.DEV_MODE_STAT_MODE) (p := .devRegs) rfl (by decide) rfl
    have bay : t.bayState b.val = s.bayState b.val := same.get (F.BAY_STAT_STATE_window _) (by decide) rfl
    have focus (k : Fin 8) : t.get (F.BAY_OPT_STAT_FOCUS_LOCKED k.val) = s.get (F.BAY_OPT_STAT_FOCUS_LOCKED k.val) :=
      same.get (F.BAY_OPT_STAT_FOCUS_LOCKED_window _) (by decide) rfl
    unfold State.heldOut State.faultedWhereAdmitted State.admits State.gatesShut State.ramping at *
    rwa [mode, bay, focus, focus, show t.optics = s.optics from same .optics rfl, show t.motors = s.motors from same .motors rfl]

/-- What the end of the hold does once the engine holds no more (R108). -/
def endHold (e : Fin 2) : Act Unit := do
  forAll (List.range 64) (fun j => do
    let s ← rd
    let kind := s.get (F.SRV_SLOT_DEST_KIND e.val j)
    if kind = 3 ∨ kind = 4 then setF (F.SRV_SLOT_OUT_U e.val j) 0)
  forAll (baysOf e) endHoldOfBay
  degrade (.servoEngine e.val)
  endSingle (.servoEngine e.val)

/-- It leaves the modes and the engines. -/
theorem endHold_touches (e : Fin 2) : Touches (2 ^ 61 - 1 - partsMask [.devRegs, .servos]) (endHold e) := by
  have ramps (k : Fin 8) : Touches (2 ^ 61 - 1 - partsMask [.devRegs, .servos]) (beginRetractRamp k) :=
    .bind (.emitM (M := 2 ^ Part.optics.idx) rfl rfl) fun _ => .bind (.setF (F.BAY_OPT_STAT_FOCUS_LOCKED_window _) rfl) fun _ =>
      .setF (F.BAY_OPT_STAT_ON_TRACK_window _) rfl
  refine .bind (.forAll fun j => .bind .rd fun _ => .ite (.setF (F.SRV_SLOT_OUT_U_window _ _) rfl) (.pure ())) fun _ =>
    .bind (.forAll fun b => ?_) fun _ => .bind (degrade_touches _ rfl) fun _ => endSingle_touches _ rfl
  exact .bind (.forAll ramps) fun _ => .bind (abortMotor_touches _ rfl) fun _ => .bind (abortMotor_touches _ rfl) fun _ =>
    .bind (parkSled_touches _ rfl) fun _ => .bind (parkSled_touches _ rfl) fun _ => setBay_touches b _ rfl

theorem endHold_heldOut {b : Fin 4} (hb : b ∈ baysOf e) : Makes (State.heldOut · b) (endHold e) := by
  refine .after (.forAll fun j => .rd fun _ => .ite (.heldOutBeside (.setF (F.SRV_SLOT_OUT_U_window _ _) rfl)) (.pure ())) fun _ => ?_
  exact .bind (.forAll hb (endHoldOfBay_heldOut b b).1 fun c => (endHoldOfBay_heldOut c b).2) fun _ =>
    .bind (.heldOutBeside (degrade_touches _ rfl)) fun _ => .heldOutBeside (endSingle_touches _ rfl)

/-- The end of the hold leaves the bays of the engine FAULTED and their actuators on the ramp (R108). -/
theorem exec_engineFaultHoldEnd {s : State} (on : mBRINGUP ≤ s.mode) (awake : s.mode ≠ mRETENTION) (holds : s.servos[e].holding = true) :
    ∃ t, exec (.engineFaultHoldEnd e) s = .next t ∧
      SameBut (.srvRegs :: .motRegs :: .stpRegs :: .rchRegs :: .calRegs :: .bayRegs :: .optRegs :: .spokes :: .optics :: .servos :: .motors ::
        .axes :: .detectors :: .cal :: eventParts) s t ∧ t.servos[e].holding = false ∧ t.admits bFAULTED = true ∧ ∀ b ∈ baysOf e, t.heldOut b := by
  have live : s.awake = true := by
    have : mBOOT ≤ s.mode := le_trans (by decide) on
    simp [State.awake, this, awake]
  have begins : exec (.engineFaultHoldEnd e) s = answer _ s := if_pos live
  let idle := (Eff.servo e fun v => { v with holding := false }).apply s
  have ends : Act.Post (endHold e) idle fun _ t => t.servos[e].holding = false ∧ t.admits bFAULTED = true ∧ ∀ b ∈ baysOf e, t.heldOut b := by
    refine Post.each (P := fun b t => b ∈ baysOf e → t.heldOut b) (Post.touches (endHold_touches e) fun _ t same bays => ⟨?_, ?_, bays⟩) fun b => ?_
    · have idles : idle.servos[e] = { s.servos[e] with holding := false } := apply_servo_self e _ s
      rw [show t.servos = idle.servos from same .servos rfl, idles]
    · have mode : t.mode = s.mode := same.get (f := F.DEV_MODE_STAT_MODE) (p := .devRegs) rfl (by decide) rfl
      simp [State.admits, mode, on, awake]
    · by_cases served : b ∈ baysOf e
      · exact Post.mono (endHold_heldOut served idle) fun _ _ held _ => held
      · exact Post.touches (endHold_touches e) fun _ _ _ hb => absurd hb served
  exact frame_and_mask (execEngineFaultHoldEnd_touches e s) (begins ▸ Post.answer (Post.ifTrue holds (Post.emitThen ends))) (by decide)

/-- Settles O17: a frame's four cases and the end of the hold. -/
theorem servoEnginesRunFramesAndEndTheirFaults : Obligations.ServoEnginesRunFramesAndEndTheirFaults := by
  unfold Obligations.ServoEnginesRunFramesAndEndTheirFaults
  refine fun s e => ⟨fun _ live stopped => exec_servoFrame_stopped live stopped, fun _ live runs ecc timely => exec_servoFrame_runs live runs ecc timely,
    fun _ live runs fault => exec_servoFrame_faults live runs fault, fun rests _ => if_neg (by simp [rests]),
    fun on awake holds => ?_⟩
  obtain ⟨t, step, same, idle, admits, bays⟩ := exec_engineFaultHoldEnd on awake holds
  refine ⟨t, step, same, idle, fun b hb => ?_⟩
  obtain ⟨faulted, shut, top, bottom⟩ := bays b hb
  exact ⟨faulted admits, shut, fun k hk => by
    rcases List.mem_pair.mp hk with rfl | rfl
    · exact top
    · exact bottom⟩

end Sys2Proof.Machine
end

section
/-! What a command of the optical sequencer does while it may begin at once: the fields it puts, and what its own sequencer holds (R124 to R131). -/

namespace Sys2Proof.Machine

variable {k : Fin 8}

/-! ### A step of one sequencer -/

/-- The fields of `l` have been put in their order and OPU `k`'s sequencer holds `o`; no other sequencer has changed. -/
structure OpticStep (k : Fin 8) (l : List (Fld × Nat)) (o : Optic) (s t : State) : Prop where
  fields : t.fields = (s.putAll l).fields
  optic : t.optics[k] = o
  others : ∀ j : Fin 8, j ≠ k → t.optics[j] = s.optics[j]

namespace OpticStep

variable {l : List (Fld × Nat)} {o : Optic} {s t : State}

theorem refl (k : Fin 8) (s : State) : OpticStep k [] s.optics[k] s s := ⟨rfl, rfl, fun _ _ => rfl⟩

theorem put (h : OpticStep k l o s t) (f : Fld) (v : Nat) : OpticStep k (l ++ [(f, v)]) o s (t.put f v) where
  fields := by
    show tabSet t.fields _ _ _ = _
    rw [h.fields, State.putAll, State.putAll, List.foldl_append]
    rfl
  optic := h.optic
  others := h.others

theorem puts (h : OpticStep k l o s t) (m : List (Fld × Nat)) : OpticStep k (l ++ m) o s (t.putAll m) := by
  induction m generalizing l t with
  | nil => exact (List.append_nil l).symm ▸ h
  | cons p m ih => exact List.append_assoc l [p] m ▸ ih (h.put p.1 p.2)

theorem eff (h : OpticStep k l o s t) (g : Optic → Optic) : OpticStep k l (g o) s ((Eff.optic k g).apply t) where
  fields := h.fields
  optic := by rw [apply_optic_self, h.optic]
  others j hj := (apply_optic_ne g t hj.symm).trans (h.others j hj)

/-- What a spoke changes stands beside it. -/
theorem spoke (h : OpticStep k l o s t) (j : Fin 8) (g : Spoke → Spoke) : OpticStep k l o s ((Eff.spoke j g).apply t) := ⟨h.fields, h.optic, h.others⟩

theorem reads (h : OpticStep k l o s t) (apart : (l.map fun p => p.1.key).Nodup) : t.reads l := fun p hp => by
  unfold State.get
  rw [h.fields]
  exact State.putAll_get apart hp s

end OpticStep

/-! ### The sequences that commands begin -/

/-- The fields that ACQUIRE puts (R125). -/
def acquireFields (k : Fin 8) : List (Fld × Nat) :=
  [(F.BAY_OPT_CMD_CMD k.val, 1), (F.BAY_OPT_STAT_LAYER k.val, 0), (F.SRV_SLOT_CTL_FREEZE (engineOf k).val (slotOf k 2), 1)]

/-- Those that LAYER_JUMP to another layer puts (R85, R118, R127). -/
def layerJumpFields (k : Fin 8) (cmd : Nat) : List (Fld × Nat) :=
  [(F.BAY_OPT_CMD_CMD k.val, cmd), (F.BAY_OPT_STAT_LAYER_JUMP k.val, 1), (F.RCH_SPK_STAT_STATE k.val, spkCOAST),
   (F.SRV_SLOT_CTL_FREEZE (engineOf k).val (slotOf k 4), 1), (F.SRV_SLOT_CTL_FREEZE (engineOf k).val (slotOf k 2), 1)]

/-- Those that PULL_IN puts (R129). -/
def pullInFields (k : Fin 8) (cmd : Nat) : List (Fld × Nat) :=
  [(F.BAY_OPT_CMD_CMD k.val, cmd), (F.BAY_OPT_STAT_PULL_IN k.val, 1), (F.SRV_SLOT_CTL_FREEZE (engineOf k).val (slotOf k 4), 1)]

/-- Those that JUMP puts (R131). -/
def jumpFields (k : Fin 8) (cmd : Nat) : List (Fld × Nat) :=
  [(F.BAY_OPT_CMD_CMD k.val, cmd), (F.BAY_OPT_STAT_JUMP k.val, 1), (F.SRV_SLOT_CTL_FREEZE (engineOf k).val (slotOf k 4), 1)]

theorem beginFields_apart : ∀ (k : Fin 8), ∀ l ∈ [acquireFields k, layerJumpFields k 2, pullInFields k 3, jumpFields k 4],
    (l.map fun p => p.1.key).Nodup := by decide

variable {s : State} {Q : Unit → State → Prop}

/-- An OPU whose ACQUIRE has begun: the laser at read power, and focus sweeps for layer 0 (R125). -/
structure Optic.Acquires (o : Optic) (layer : Nat) : Prop where
  laser : o.laser = true
  power : o.power = .read
  phase : o.phase = .sweep
  goal : o.goal = layer
  onZero : o.layer = 0

theorem Post.beginAcquire {layer : Nat} (q : ∀ t o, OpticStep k (acquireFields k) o s t → o.Acquires layer → Q () t) :
    Act.Post (beginAcquire k layer) s Q := by
  unfold Machine.beginAcquire
  refine Post.rdThen (Post.bind (Post.rdThen (Post.emit (Post.bind (Post.rdThen (Post.emit ?_))))))
  refine Post.setThen (Post.setThen (Post.bind (Post.setF (Post.emit ?_))))
  exact q _ _ ((((OpticStep.refl k s).eff _).eff _).puts (acquireFields k) |>.eff _) ⟨rfl, rfl, rfl, rfl, rfl⟩

/-- A LAYER_JUMP to another layer begins its first hop (R127). -/
theorem Post.beginLayerJump_hops {layer cmd : Nat} (turns : s.engineStopped (engineOf k) = false) (other : s.optLayer k ≠ layer)
    (q : ∀ t o, OpticStep k (layerJumpFields k cmd) o s t → o.phase = .hopHold → o.layer = layer → Q () t) :
    Act.Post (beginLayerJump k layer cmd) s Q := by
  unfold Machine.beginLayerJump
  refine Post.rdThen (Post.ifTrue turns (Post.setThen (Post.emitThen (Post.ifFalse other (Post.setThen (Post.setThen ?_))))))
  unfold beginHop
  refine Post.rdThen (Post.bind (Post.setF (Post.bind (Post.setF (Post.bind (Post.rdThen (Post.emit (Post.emit ?_))))))))
  exact q _ _ (((((((OpticStep.refl k s).put _ _).eff _).put _ _).put _ _).put _ _).put _ _ |>.eff _ |>.eff _) rfl rfl

/-- A PULL_IN begins by waiting for a low radial velocity (R129). -/
theorem Post.beginPullIn_waits {cmd : Nat} (turns : s.engineStopped (engineOf k) = false)
    (q : ∀ t o, OpticStep k (pullInFields k cmd) o s t → o.phase = .velocity → Q () t) : Act.Post (beginPullIn k cmd) s Q := by
  unfold beginPullIn
  refine Post.rdThen (Post.ifTrue turns (Post.setThen (Post.setThen (Post.bind (Post.setF (Post.emit ?_))))))
  exact q _ _ ((OpticStep.refl k s).puts (pullInFields k cmd) |>.eff _) rfl

/-- A JUMP begins with its kick, the write gate closed and the expected track moved on (R131). -/
theorem Post.beginJump {dist : Int} {cmd : Nat}
    (q : ∀ t o, OpticStep k (jumpFields k cmd) o s t → o.phase = .jumpPulse → o.dist = dist → o.gate = false →
      t.spokes[k].tExp = ((s.spokes[k].tExp : Int) + dist).toNat → Q () t) : Act.Post (beginJump k dist cmd) s Q := by
  unfold Machine.beginJump
  refine Post.rdThen (Post.setThen (Post.setThen (Post.bind (Post.setF (Post.emitThen (Post.emit ?_))))))
  exact q _ _ ((OpticStep.refl k s).puts (jumpFields k cmd) |>.spoke _ _ |>.eff _) rfl rfl rfl (by
    simp only [apply_optic_frame, apply_spoke_self]
    rfl)

end Sys2Proof.Machine
end

section
/-! The commands of the optical sequencer that a free OPU takes (R124 to R131): O13. -/

namespace Sys2Proof.Machine

variable {k : Fin 8} {s : State} {Q : Unit → State → Prop} {cmd layer spoke : Nat}

/-! ### What a command writes, and what lets it begin -/

/-- The fields of BAY_OPT_CMD that a command comes with (R140). -/
def optCmdFields (k : Fin 8) (layer dist : Nat) (atSpoke : Bool) (spoke : Nat) : List (Fld × Nat) :=
  [(F.BAY_OPT_CMD_LAYER k.val, layer), (F.BAY_OPT_CMD_AT_SPOKE k.val, atSpoke.toNat), (F.BAY_OPT_CMD_SPOKE k.val, spoke), (F.BAY_OPT_CMD_DIST k.val, dist)]

/-- A command that OPU `k` takes: the sequencer is free, the command is known, and its laser or its focus is as it must be (R124, R125, R129, R131). -/
structure OptTakes (s : State) (k : Fin 8) (cmd layer : Nat) (dist : Int) : Prop where
  free : OptFree s k
  known : 1 ≤ cmd ∧ cmd ≤ 4
  layer : layer ≤ 7
  dist : cmd = 4 → dist ≠ 0 ∧ dist.natAbs ≤ 64
  laser : cmd = 1 → s.laserAllowed k = true
  focus : cmd = 3 → s.get (F.BAY_OPT_STAT_FOCUS_LOCKED k.val) = 1

theorem optCmdFields_window {dist : Nat} {atSpoke : Bool} : ∀ p ∈ optCmdFields k layer dist atSpoke spoke, p.1.window = .optRegs := by
  simp [optCmdFields, F.BAY_OPT_CMD_LAYER_window, F.BAY_OPT_CMD_AT_SPOKE_window, F.BAY_OPT_CMD_SPOKE_window, F.BAY_OPT_CMD_DIST_window]

theorem State.written_same (s : State) {dist : Nat} {atSpoke : Bool} : SameBut [.optRegs] s (s.putAll (optCmdFields k layer dist atSpoke spoke)) :=
  State.putAll_same (fun p hp => by simp [optCmdFields_window p hp]) s

/-- A write of BAY_OPT_CMD puts its fields before its command is judged (R140). -/
theorem Post.writeOptCmd {dist : Nat} {atSpoke : Bool}
    (q : Act.Post (optCommand k cmd layer (toSigned 8 dist) atSpoke spoke) (s.putAll (optCmdFields k layer dist atSpoke spoke)) Q) :
    Act.Post (Machine.writeOptCmd k cmd layer dist atSpoke spoke) s Q := Post.setThen (Post.setThen (Post.setThen (Post.setThen q)))

/-- The fields by which a command is judged. -/
def judgeFields (k : Fin 8) : List Fld :=
  [F.BAY_OPT_CTL_ENABLE k.val, F.SRV_BLK_STAT_ENGINE_FAULT (engineOf k).val, F.BAY_LASER_LIM_MAX k.val, F.BAY_OPT_STAT_LASER_TRIP k.val,
   F.WRP_WSL_STAT_RESULT k.val, F.BAY_OPT_STAT_FOCUS_LOCKED k.val, F.BAY_OPT_STAT_LAYER k.val]

theorem judgeFields_apart : ∀ k : Fin 8, ∀ f ∈ judgeFields k,
    ∀ g ∈ [F.BAY_OPT_CMD_LAYER k.val, F.BAY_OPT_CMD_AT_SPOKE k.val, F.BAY_OPT_CMD_SPOKE k.val, F.BAY_OPT_CMD_DIST k.val], f.key ≠ g.key := by decide

/-- The fields of the command say nothing of what it is judged by. -/
theorem State.get_judged {f : Fld} (hf : f ∈ judgeFields k) (s : State) (layer dist : Nat) (atSpoke : Bool) (spoke : Nat) :
    (s.putAll (optCmdFields k layer dist atSpoke spoke)).get f = s.get f :=
  State.putAll_get_other (fun _ hp => judgeFields_apart k f hf _ (List.mem_map_of_mem (f := Prod.fst) (l := optCmdFields k layer dist atSpoke spoke) hp)) s

theorem State.engineStopped_written (s : State) (layer dist : Nat) (atSpoke : Bool) (spoke : Nat) :
    (s.putAll (optCmdFields k layer dist atSpoke spoke)).engineStopped (engineOf k) = s.engineStopped (engineOf k) := by
  unfold State.engineStopped
  rw [s.get_judged (by simp [judgeFields])]

theorem OptTakes.written {dist : Int} (h : OptTakes s k cmd layer dist) (a b : Nat) (atSpoke : Bool) (c : Nat) :
    OptTakes (s.putAll (optCmdFields k a b atSpoke c)) k cmd layer dist := by
  obtain ⟨⟨enabled, turns, idle⟩, known, within, reach, laser, focus⟩ := h
  have kept {f : Fld} (hf : f ∈ judgeFields k) := s.get_judged hf a b atSpoke c
  refine ⟨⟨(kept (by simp [judgeFields])).trans enabled, (s.engineStopped_written a b atSpoke c).trans turns, idle⟩, known, within, reach, fun h => ?_,
    fun h => (kept (by simp [judgeFields])).trans (focus h)⟩
  have allowed := laser h
  unfold State.laserAllowed at allowed ⊢
  rwa [kept (by simp [judgeFields]), kept (by simp [judgeFields]), kept (by simp [judgeFields])]

/-! ### A command that is taken -/

/-- The sequence that each of the commands 1 to 4 begins. -/
def optBegins (k : Fin 8) (cmd layer : Nat) (dist : Int) : Act Unit :=
  match cmd with
  | 1 => beginAcquire k layer
  | 2 => beginLayerJump k layer 2
  | 3 => beginPullIn k 3
  | _ => beginJump k dist 4

/-- The fields of a command that waits for its spoke; LAYER_JUMP to another layer shows at once (R118, R124). -/
def waitFields (s : State) (k : Fin 8) (cmd layer : Nat) : List (Fld × Nat) :=
  (F.BAY_OPT_CMD_CMD k.val, cmd) :: if cmd = 2 ∧ layer ≠ s.optLayer k then [(F.BAY_OPT_STAT_LAYER_JUMP k.val, 1)] else []

theorem waitFields_apart (s : State) (k : Fin 8) (cmd layer : Nat) : ((waitFields s k cmd layer).map fun p => p.1.key).Nodup := by
  have apart : ∀ k : Fin 8, (F.BAY_OPT_CMD_CMD k.val).key ≠ (F.BAY_OPT_STAT_LAYER_JUMP k.val).key := by decide
  unfold waitFields
  split <;> simp [apart]

/-- A sequencer whose command waits for its spoke (R124). -/
def Optic.wait (layer : Nat) (dist : Int) (spoke : Nat) (o : Optic) : Optic :=
  { o with phase := .pending, frames := 0, goal := layer, dist := dist, spoke := some spoke }

/-- A command that is taken begins its sequence at once, or waits for its spoke (R124). -/
theorem Post.optCommand_takes {dist : Int} {atSpoke : Bool} (takes : OptTakes s k cmd layer dist)
    (now : atSpoke = false → Act.Post (optBegins k cmd layer dist) s Q)
    (later : atSpoke = true → ∀ t, OpticStep k (waitFields s k cmd layer) (s.optics[k].wait layer dist spoke) s t → SameBut [.optRegs, .optics] s t → Q () t) :
    Act.Post (optCommand k cmd layer dist atSpoke spoke) s Q := by
  obtain ⟨⟨enabled, turns, idle⟩, known, within, reach, laser, focus⟩ := takes
  unfold optCommand
  refine Post.rdThen (Post.ifFalse (by simp [enabled]) (Post.ifFalse (by omega) (Post.ifFalse (by simp [turns]) (Post.ifFalse (by omega)
    (Post.ifFalse (fun busy => busy idle) (Post.ifFalse (fun ⟨h, no⟩ => by simp [laser h] at no) (Post.ifFalse (fun ⟨h, no⟩ => by simp [focus h] at no)
    (Post.ite (fun waits => ?_) fun begins => ?_))))))))
  · have put {u : State} (h : SameBut [.optRegs, .optics] s u) {f : Fld} (hf : f.window = .optRegs) (v : Nat) :
        SameBut [.optRegs, .optics] s (u.put f v) := h.put (by simp [hf])
    have command := put (SameBut.refl _ s) (F.BAY_OPT_CMD_CMD_window k.val) cmd
    refine Post.setThen (Post.ite (fun jumps => Post.setThen (Post.emit (later waits _ ?_ ?_))) fun stays => Post.emit (later waits _ ?_ ?_))
    · rw [waitFields, if_pos jumps]
      exact (((OpticStep.refl k s).put _ _).put _ _).eff _
    · exact (put command (F.BAY_OPT_STAT_LAYER_JUMP_window k.val) 1).eff rfl (by simp [Eff.part])
    · rw [waitFields, if_neg stays]
      exact ((OpticStep.refl k s).put _ _).eff _
    · exact command.eff rfl (by simp [Eff.part])
  · have now := now (Bool.not_eq_true _ ▸ begins)
    obtain rfl | rfl | rfl | rfl : cmd = 1 ∨ cmd = 2 ∨ cmd = 3 ∨ cmd = 4 := by omega
    all_goals exact now

/-! ### Begun at once -/

/-- A command that begins at once begins from its fields (R140). -/
theorem Post.writeOptCmd_begins {dist : Nat} (takes : OptTakes s k cmd layer (toSigned 8 dist))
    (q : Act.Post (optBegins k cmd layer (toSigned 8 dist)) (s.putAll (optCmdFields k layer dist false spoke)) Q) :
    Act.Post (Machine.writeOptCmd k cmd layer dist false spoke) s Q :=
  Post.writeOptCmd (Post.optCommand_takes (takes.written layer dist false spoke) (fun _ => q) nofun)

/-- The frame of what a command begins, with that of its fields. -/
theorem SameBut.begun {l : List Part} {dist : Nat} {atSpoke : Bool} {t : State}
    (same : Same (partsMask l) (s.putAll (optCmdFields k layer dist atSpoke spoke)) t) (reg : Part.optRegs ∈ l) : SameBut l s t :=
  (s.written_same.mono (by simpa using reg)).trans (.ofMask same (Nat.or_self _))

theorem exec_optAcquire_begins {layer : Fin 8} {spoke : BitVec 10} (drives : s.drivesTake = true) (free : OptFree s k) (laser : s.laserAllowed k = true) :
    ∃ t, exec (.optAcquire k layer false spoke) s = .next t ∧ SameBut [.srvRegs, .optRegs, .optics] s t ∧ t.reads (acquireFields k) ∧
      t.optics[k].Acquires layer.val ∧ ∀ j : Fin 8, j ≠ k → t.optics[j] = s.optics[j] := by
  have begins : exec (.optAcquire k layer false spoke) s = answer _ s := if_pos drives
  have takes : OptTakes s k 1 layer.val (toSigned 8 0) := ⟨free, by decide, by omega, by omega, fun _ => laser, by omega⟩
  refine begins ▸ Post.answer (Post.writeOptCmd_begins takes (Post.andTouches ?_
    (beginAcquire_touches k _ (L := partsMask [.srvRegs, .optRegs, .optics]) rfl)))
  refine Post.beginAcquire fun t o step acquires same => ⟨.begun same (by simp), step.reads (beginFields_apart k _ (by simp)), ?_, step.others⟩
  rwa [step.optic]

theorem exec_optLayerJump_begins {layer : Fin 8} {spoke : BitVec 10} (drives : s.drivesTake = true) (free : OptFree s k) (other : s.optLayer k ≠ layer.val) :
    ∃ t, exec (.optLayerJump k layer false spoke) s = .next t ∧ SameBut [.srvRegs, .rchRegs, .optRegs, .optics] s t ∧ t.reads (layerJumpFields k 2) ∧
      t.optics[k].phase = .hopHold ∧ t.optics[k].layer = layer.val ∧ ∀ j : Fin 8, j ≠ k → t.optics[j] = s.optics[j] := by
  have begins : exec (.optLayerJump k layer false spoke) s = answer _ s := if_pos drives
  have takes : OptTakes s k 2 layer.val (toSigned 8 0) := ⟨free, by decide, by omega, by omega, by omega, by omega⟩
  have ⟨_, turns, _⟩ := free
  refine begins ▸ Post.answer (Post.writeOptCmd_begins takes (Post.andTouches ?_
    (beginLayerJump_touches k _ _ (L := partsMask [.srvRegs, .rchRegs, .optRegs, .optics]) rfl)))
  refine Post.beginLayerJump_hops ((s.engineStopped_written ..).trans turns) (by rwa [State.optLayer, s.get_judged (by simp [judgeFields])])
    fun t o step holds onLayer same => ?_
  rw [← step.optic] at holds onLayer
  exact ⟨.begun same (by simp), step.reads (beginFields_apart k _ (by simp)), holds, onLayer, step.others⟩

theorem exec_optPullIn_begins {spoke : BitVec 10} (drives : s.drivesTake = true) (free : OptFree s k)
    (locked : s.get (F.BAY_OPT_STAT_FOCUS_LOCKED k.val) = 1) :
    ∃ t, exec (.optPullIn k false spoke) s = .next t ∧ SameBut [.srvRegs, .optRegs, .optics] s t ∧ t.reads (pullInFields k 3) ∧
      t.optics[k].phase = .velocity ∧ ∀ j : Fin 8, j ≠ k → t.optics[j] = s.optics[j] := by
  have begins : exec (.optPullIn k false spoke) s = answer _ s := if_pos drives
  have takes : OptTakes s k 3 0 (toSigned 8 0) := ⟨free, by decide, by omega, by omega, by omega, fun _ => locked⟩
  have ⟨_, turns, _⟩ := free
  refine begins ▸ Post.answer (Post.writeOptCmd_begins takes (Post.andTouches ?_
    (beginPullIn_touches k _ (L := partsMask [.srvRegs, .optRegs, .optics]) rfl)))
  refine Post.beginPullIn_waits ((s.engineStopped_written ..).trans turns) fun t o step waits same => ?_
  rw [← step.optic] at waits
  exact ⟨.begun same (by simp), step.reads (beginFields_apart k _ (by simp)), waits, step.others⟩

/-- A distance that is not 0 is not 0 when it is read with its sign. -/
theorem toSigned_ne_zero {dist : BitVec 8} (h : dist ≠ 0) : toSigned 8 dist.toNat ≠ 0 := by
  have : dist.toNat ≠ 0 := fun zero => h (BitVec.eq_of_toNat_eq zero)
  have := dist.isLt
  unfold toSigned
  dsimp only
  split <;> omega

theorem exec_optJump_begins {dist : BitVec 8} {spoke : BitVec 10} (drives : s.drivesTake = true) (free : OptFree s k) (moves : dist ≠ 0)
    (reach : (toSigned 8 dist.toNat).natAbs ≤ 64) :
    ∃ t, exec (.optJump k dist false spoke) s = .next t ∧ SameBut [.srvRegs, .optRegs, .spokes, .optics] s t ∧ t.reads (jumpFields k 4) ∧
      t.optics[k].phase = .jumpPulse ∧ t.optics[k].dist = toSigned 8 dist.toNat ∧ t.optics[k].gate = false ∧
      t.spokes[k].tExp = ((s.spokes[k].tExp : Int) + toSigned 8 dist.toNat).toNat ∧ ∀ j : Fin 8, j ≠ k → t.optics[j] = s.optics[j] := by
  have begins : exec (.optJump k dist false spoke) s = answer _ s := if_pos drives
  have takes : OptTakes s k 4 0 (toSigned 8 dist.toNat) := ⟨free, by decide, by omega, fun _ => ⟨toSigned_ne_zero moves, reach⟩, by omega, by omega⟩
  refine begins ▸ Post.answer (Post.writeOptCmd_begins takes (Post.andTouches ?_
    (beginJump_touches k _ _ (L := partsMask [.srvRegs, .optRegs, .spokes, .optics]) rfl)))
  refine Post.beginJump fun t o step kicks far shut track same => ?_
  rw [← step.optic] at kicks far shut
  exact ⟨.begun same (by simp), step.reads (beginFields_apart k _ (by simp)), kicks, far, shut, track, step.others⟩

/-! ### To begin at a spoke -/

/-- A command that waits shows its code and, where it leads to another layer, its jump; the fields it came with stand apart from both (R118, R124). -/
theorem Post.writeOptCmd_waits {dist : Nat} (takes : OptTakes s k cmd layer (toSigned 8 dist))
    (q : ∀ t, SameBut [.optRegs, .optics] s t → t.reads (waitFields s k cmd layer) →
      t.optics[k] = s.optics[k].wait layer (toSigned 8 dist) spoke → Q () t) :
    Act.Post (Machine.writeOptCmd k cmd layer dist true spoke) s Q := by
  refine Post.writeOptCmd (Post.optCommand_takes (takes.written layer dist true spoke) nofun fun _ t step same => ?_)
  have shown : waitFields (s.putAll (optCmdFields k layer dist true spoke)) k cmd layer = waitFields s k cmd layer := by
    unfold waitFields State.optLayer
    rw [s.get_judged (by simp [judgeFields])]
  exact q t ((s.written_same.mono (by simp)).trans same) (shown ▸ step.reads (waitFields_apart ..)) step.optic

theorem exec_optAcquire_waits {layer : Fin 8} {spoke : BitVec 10} (drives : s.drivesTake = true) (free : OptFree s k) (laser : s.laserAllowed k = true) :
    ∃ t, exec (.optAcquire k layer true spoke) s = .next t ∧ SameBut [.optRegs, .optics] s t ∧ t.get (F.BAY_OPT_CMD_CMD k.val) = 1 ∧
      t.optics[k] = s.optics[k].wait layer.val 0 spoke.toNat := by
  have begins : exec (.optAcquire k layer true spoke) s = answer _ s := if_pos drives
  have takes : OptTakes s k 1 layer.val (toSigned 8 0) := ⟨free, by decide, by omega, by omega, fun _ => laser, by omega⟩
  exact begins ▸ Post.answer (Post.writeOptCmd_waits takes fun t same reads waits => ⟨same, reads.get (n := 1) (by simp [waitFields]), waits⟩)

theorem exec_optLayerJump_waits {layer : Fin 8} {spoke : BitVec 10} (drives : s.drivesTake = true) (free : OptFree s k) (other : s.optLayer k ≠ layer.val) :
    ∃ t, exec (.optLayerJump k layer true spoke) s = .next t ∧ SameBut [.optRegs, .optics] s t ∧ t.get (F.BAY_OPT_CMD_CMD k.val) = 2 ∧
      t.get (F.BAY_OPT_STAT_LAYER_JUMP k.val) = 1 ∧ t.optics[k] = s.optics[k].wait layer.val 0 spoke.toNat := by
  have begins : exec (.optLayerJump k layer true spoke) s = answer _ s := if_pos drives
  have takes : OptTakes s k 2 layer.val (toSigned 8 0) := ⟨free, by decide, by omega, by omega, by omega, by omega⟩
  exact begins ▸ Post.answer (Post.writeOptCmd_waits takes fun t same reads waits =>
    ⟨same, reads.get (n := 2) (by simp [waitFields]), reads.get (n := 1) (by simp [waitFields, other.symm]), waits⟩)

/-- Settles O13: one lemma for each command, begun at once and at its spoke. -/
theorem opticalCommandsBegin : Obligations.OpticalCommandsBegin := by
  unfold Obligations.OpticalCommandsBegin
  intro s k drives free
  refine ⟨fun layer spoke laser => ?_, fun layer spoke other => ?_, fun spoke locked => ?_, fun dist spoke moves reach => ?_,
    fun layer spoke laser => ?_, fun layer spoke other => ?_⟩
  · obtain ⟨t, step, same, reads, acquires, others⟩ := exec_optAcquire_begins (layer := layer) (spoke := spoke) drives free laser
    exact ⟨t, step, same, reads.get (n := 1) (by simp [acquireFields]), reads.get (n := 0) (by simp [acquireFields]),
      reads.get (n := 1) (by simp [acquireFields]), acquires.laser, acquires.power, acquires.phase, acquires.goal, acquires.onZero, others⟩
  · obtain ⟨t, step, same, reads, holds, onLayer, others⟩ := exec_optLayerJump_begins (layer := layer) (spoke := spoke) drives free other
    exact ⟨t, step, same, reads.get (n := 2) (by simp [layerJumpFields]), reads.get (n := 1) (by simp [layerJumpFields]),
      reads.get (n := spkCOAST) (by simp [layerJumpFields]), reads.get (n := 1) (by simp [layerJumpFields]),
      reads.get (n := 1) (by simp [layerJumpFields]), holds, onLayer, others⟩
  · obtain ⟨t, step, same, reads, waits, others⟩ := exec_optPullIn_begins (spoke := spoke) drives free locked
    exact ⟨t, step, same, reads.get (n := 3) (by simp [pullInFields]), reads.get (n := 1) (by simp [pullInFields]),
      reads.get (n := 1) (by simp [pullInFields]), waits, others⟩
  · obtain ⟨t, step, same, reads, rest⟩ := exec_optJump_begins (spoke := spoke) drives free moves reach
    exact ⟨t, step, same, reads.get (n := 4) (by simp [jumpFields]), reads.get (n := 1) (by simp [jumpFields]), rest⟩
  · obtain ⟨t, step, same, command, waits⟩ := exec_optAcquire_waits (layer := layer) (spoke := spoke) drives free laser
    exact ⟨t, step, same, command, by rw [waits]; exact ⟨rfl, rfl, rfl, rfl, rfl⟩⟩
  · obtain ⟨t, step, same, command, jumps, waits⟩ := exec_optLayerJump_waits (layer := layer) (spoke := spoke) drives free other
    exact ⟨t, step, same, command, jumps, by rw [waits]; exact ⟨rfl, rfl, rfl⟩⟩

end Sys2Proof.Machine
end

section
/-! How the sequences of an OPU end: RETRACT, losses of focus, failed pull-ins, and the sense of its actuators (R121 to R140): O14. -/

namespace Sys2Proof.Machine

variable {k : Fin 8} {s : State} {Q : Unit → State → Prop}

/-! ### RETRACT -/

theorem engineStopped_view {s t : State} {e : Fin 2} (h : engineView e t = engineView e s) : t.engineStopped e = s.engineStopped e :=
  congrArg (fun v : EngineView => v.fault == 1) h

/-- The fields that RETRACT puts once the laser is off (R126). -/
def retractFields (k : Fin 8) : List (Fld × Nat) :=
  [(F.SRV_SLOT_CTL_FREEZE (engineOf k).val (slotOf k 2), 1), (F.SRV_SLOT_CTL_FREEZE (engineOf k).val (slotOf k 4), 1),
   (F.BAY_OPT_STAT_FOCUS_LOCKED k.val, 0), (F.BAY_OPT_STAT_ON_TRACK k.val, 0), (F.BAY_OPT_CMD_CMD k.val, 5)]

theorem retractFields_apart : ∀ k : Fin 8, ((retractFields k).map fun p => p.1.key).Nodup := by decide

/-- An OPU on the ramp of RETRACT: its laser is off, its write gate closed, and its registers say so (R126). -/
structure State.Retracts (t : State) (k : Fin 8) : Prop where
  unlit : t.unlit k
  phase : t.optics[k].phase = .retracting
  reads : t.reads (retractFields k)

/-- While its engine runs, RETRACT puts an OPU on its ramp whatever it did before (R126). -/
theorem Post.retract (turns : s.engineStopped (engineOf k) = false) (q : ∀ t, t.Retracts k → Q () t) : Act.Post (retract k) s Q := by
  unfold Machine.retract
  refine Post.bind (Post.andKeeps (Post.mono ((dropLaser_unlights (k := k) k).1 s) fun _ t unlit view => ?_) (dropLaser_keepsEngine (e := engineOf k) k))
  refine Post.rdThen (Post.ifTrue ((engineStopped_view view).trans turns) (Post.bind (Post.mono (optCut_staysUnlit (k := k) k _ t) fun _ u cut => ?_)))
  refine Post.bind (Post.setF (Post.bind (Post.setF (Post.setThen (Post.setThen (Post.setThen (Post.emit ?_)))))))
  refine q _ ⟨?_, by rw [apply_optic_self], (((OpticStep.refl k u).puts (retractFields k)).eff _).reads (retractFields_apart k)⟩
  unfold State.unlit
  rw [apply_optic_self]
  exact cut unlit

theorem exec_optRetract_retracts (live : s.drivesLive = true) (enabled : s.get (F.BAY_OPT_CTL_ENABLE k.val) = 1)
    (turns : s.engineStopped (engineOf k) = false) :
    ∃ t, exec (.optRetract k) s = .next t ∧ SameBut [.srvRegs, .wrpRegs, .calRegs, .optRegs, .out, .life, .optics, .writers, .cal] s t ∧
      t.Retracts k := by
  have begins : exec (.optRetract k) s = answer _ s := if_pos live
  have still : (s.putAll (optCmdFields k 0 0 false 0)).engineStopped (engineOf k) = false := (s.engineStopped_written ..).trans turns
  have on := (s.get_judged (k := k) (f := F.BAY_OPT_CTL_ENABLE k.val) (by simp [judgeFields]) 0 0 false 0).trans enabled
  refine begins ▸ Post.answer (Post.writeOptCmd ?_)
  unfold optCommand
  refine Post.rdThen (Post.ifFalse (by simp [on]) (Post.ifFalse (by decide) (Post.ifFalse (by simp [still]) (Post.ifTrue rfl ?_))))
  exact Post.andTouches (Post.retract still fun t retracts same => ⟨.begun same (by simp), retracts⟩) (retract_touches k rfl)

/-- The sequencer of an OPU that is not enabled refuses RETRACT too (R140). -/
theorem exec_optRetract_refused (live : s.drivesLive = true) (off : s.get (F.BAY_OPT_CTL_ENABLE k.val) = 0) :
    ∃ t, exec (.optRetract k) s = .next t ∧ SameBut (.optRegs :: eventParts) s t ∧ t.get (F.BAY_OPT_STAT_RESULT k.val) = rINVALID ∧
      Raised (Ev.bay (k.val / 2) Ev.iCMD_REJECT) 0 (k.val % 2) 0 s t := by
  have begins : exec (.optRetract k) s = answer _ s := if_pos live
  have written : SameBut [.optRegs] s ((s.putAll (optCmdFields k 0 0 false 0)).put (F.BAY_OPT_STAT_RESULT k.val) rINVALID) :=
    s.written_same.put (by simp [F.BAY_OPT_STAT_RESULT_window])
  refine begins ▸ Post.answer (Post.writeOptCmd ?_)
  unfold optCommand
  refine Post.rdThen (Post.ifTrue ((s.get_judged (by simp [judgeFields]) ..).trans off) (Post.setThen (Post.raise fun t raised signals => ⟨?_, ?_, ?_⟩)))
  · exact (written.mono (by simp)).trans (.ofMask signals.same (by decide))
  · exact (signals.same.get (F.BAY_OPT_STAT_RESULT_window _) (by decide) rfl).trans (State.get_put_self _ _ _)
  · exact raised.after written rfl (by decide)

/-! ### Focus that is lost, and sought again -/

theorem exec_focusReacquire_acquires {n : Nat} (drives : s.drivesTake = true) (lost : s.optics[k].lostAt = some n)
    (tries : s.get (F.BAY_OPT_STAT_FAIL_RUN k.val) ≤ s.get (F.BAY_OPT_CTL_RETRIES k.val)) (laser : s.laserAllowed k = true)
    (turns : s.engineStopped (engineOf k) = false) (enabled : s.get (F.BAY_OPT_CTL_ENABLE k.val) = 1)
    (speed : s.motorState (spindleOf (bayOf k)) = mtAT_SPEED) :
    ∃ t, exec (.focusReacquire k) s = .next t ∧ SameBut [.srvRegs, .optRegs, .optics] s t ∧ t.reads (acquireFields k) ∧
      t.optics[k].Acquires s.optics[k].backLayer := by
  have begins : exec (.focusReacquire k) s = answer _ s := if_pos drives
  refine begins ▸ Post.answer (Post.ifTrue ⟨Option.isSome_of_eq_some lost, turns, enabled, speed⟩ (Post.ifFalse (by omega) (Post.ifTrue laser (Post.setThen ?_))))
  refine Post.andTouches (Post.beginAcquire fun t o step acquires same => ⟨?_, step.reads (beginFields_apart k _ (by simp)), by rwa [step.optic]⟩)
    (beginAcquire_touches k _ (L := partsMask [.srvRegs, .optRegs, .optics]) rfl)
  exact ((SameBut.refl _ s).put (by simp [F.BAY_OPT_TARGET_TRACK_window])).trans (.ofMask same (Nat.or_self _))

/-- A loss of focus retracts the OPU and notes when it was (R136). -/
theorem Post.loseFocus (turns : s.engineStopped (engineOf k) = false) (q : ∀ t, t.Retracts k → t.optics[k].lostAt = some s.now → Q () t) :
    Act.Post (loseFocus k) s Q := by
  unfold Machine.loseFocus
  refine Post.rdThen ?_
  have run {m : Act Unit} {f : Unit → Act Unit} {u : State} (keeps : KeepsEngine (engineOf k) m) (running : u.engineStopped (engineOf k) = false)
      (h : ∀ t, t.engineStopped (engineOf k) = false → Act.Post (f ()) t Q) : Act.Post (m >>= f) u Q :=
    Post.bind (Post.keeps keeps fun _ t view => h t ((engineStopped_view view).trans running))
  refine run (.besideServo (stopWriteNow_touches k rfl)) turns fun _ turns => run (.besideServo (cutReads_touches k rfl)) turns fun _ turns => ?_
  refine run (.besideServo (countFailure_touches k rfl)) turns fun _ turns => run (optCut_keepsEngine k _) turns fun _ turns => ?_
  refine run (freeze_keepsEngine k _ _) turns fun _ turns => run (.besideServo (raiseOpu_touches k _ _ _ rfl)) turns fun _ turns => ?_
  refine Post.bind (Post.retract turns fun t retracts => Post.emit (q _ ⟨?_, ?_, retracts.reads⟩ ?_))
  · unfold State.unlit
    rw [apply_optic_self]
    exact retracts.unlit
  · rw [apply_optic_self]
    exact retracts.phase
  · rw [apply_optic_self]

theorem exec_layerHopTimeout_retracts (live : s.drivesLive = true) (turns : s.engineStopped (engineOf k) = false)
    (hops : s.optics[k].phase = .hopHold ∨ s.optics[k].phase = .hopPulse ∨ s.optics[k].phase = .hopCatch ∨ s.optics[k].phase = .hopLock) :
    ∃ t, exec (.layerHopTimeout k) s = .next t ∧
      SameBut (.srvRegs :: .wrpRegs :: .calRegs :: .optRegs :: .life :: .optics :: .detectors :: .writers :: .cal :: eventParts) s t ∧
      t.Retracts k ∧ t.optics[k].lostAt = some s.now := by
  have begins : exec (.layerHopTimeout k) s = answer (hopFailed k) s := by
    refine (if_pos live).trans ?_
    rcases hops with h | h | h | h
    all_goals rw [h]
  refine frame_and_mask (execLayerHopTimeout_touches k s) (begins ▸ Post.answer (Post.bind (Post.clock ?_))) (by decide)
  refine Post.keeps (v := engineView (engineOf k)) (.besideServo (raiseOpu_touches k _ _ _ rfl)) fun _ t view _ now => ?_
  exact Post.loseFocus ((engineStopped_view view).trans turns) fun u retracts lost => ⟨retracts, now ▸ lost⟩

/-! ### Pull-in -/

/-- The fields that the end of a sequence puts (R124, R140). -/
def endFields (k : Fin 8) (result : Nat) : List (Fld × Nat) :=
  [(F.BAY_OPT_CMD_CMD k.val, 0), (F.BAY_OPT_STAT_RESULT k.val, result), (F.BAY_OPT_STAT_JUMP k.val, 0), (F.BAY_OPT_STAT_LAYER_JUMP k.val, 0),
   (F.BAY_OPT_STAT_PULL_IN k.val, 0)]

/-- A sequencer whose sequence has ended (R124). -/
def Optic.ended (o : Optic) : Optic := { o with phase := .idle, frames := 0, pulseF := 0, pulseT := 0, inPullIn := false, spoke := none }

theorem endFields_apart (k : Fin 8) (result : Nat) : ((endFields k result).map fun p => p.1.key).Nodup := by
  have apart : ∀ k : Fin 8, ((endFields k 0).map fun p => p.1.key).Nodup := by decide
  exact apart k

/-- The end of a sequence that holds no tracking pulse unfreezes nothing (R122). -/
theorem Post.optEnd {result : Nat} (steady : s.optics[k].phase ≠ .jumpPulse)
    (q : ∀ t, OpticStep k (endFields k result) s.optics[k].ended s t → SameBut [.optRegs, .optics] s t → Q () t) : Act.Post (optEnd k result) s Q := by
  unfold Machine.optEnd
  refine Post.rdThen (Post.ifFalse steady (Post.setThen (Post.setThen (Post.setThen (Post.setThen (Post.setThen (Post.emit (q _ ?_ ?_))))))))
  · exact ((OpticStep.refl k s).puts (endFields k result)).eff _
  · have windows : ∀ p ∈ endFields k result, p.1.window ∈ [Part.optRegs, .optics] := by
      simp [endFields, F.BAY_OPT_CMD_CMD_window, F.BAY_OPT_STAT_RESULT_window, F.BAY_OPT_STAT_JUMP_window, F.BAY_OPT_STAT_LAYER_JUMP_window,
        F.BAY_OPT_STAT_PULL_IN_window]
    exact (State.putAll_same windows s).eff rfl (by simp [Eff.part])

/-- Counting a failed acquisition leaves the sequence and the count of failed pull-ins (R136). -/
theorem countFailure_keeps : Keeps (fun s => (s.optics[k].phase, s.optics[k].pullFails)) (countFailure k) :=
  .bind .rd fun _ => .ite (.bind (.setF fun _ => rfl) fun _ => .emit fun _ => by rw [apply_optic_self]) (.pure ())

/-- The first pull-in that fails ends the sequence FAILED and is counted (R129). -/
theorem Post.pullInFailed_first (waits : s.optics[k].phase ≠ .jumpPulse) (first : s.optics[k].pullFails = 0)
    (q : ∀ t, SameBut [.optRegs, .optics] s t → t.reads (endFields k rFAILED) → t.optics[k].phase = .idle → t.optics[k].pullFails = 1 → Q () t) :
    Act.Post (pullInFailed k) s Q := by
  unfold pullInFailed
  refine Post.rdThen (Post.ifFalse (by omega) (Post.bind (Post.andKeeps
    (Post.touches (countFailure_touches k (L := partsMask [.optRegs, .optics]) rfl) fun _ u counted view => ?_) countFailure_keeps)))
  obtain ⟨phase, fails⟩ := Prod.mk.inj view
  refine Post.bind (Post.optEnd (phase ▸ waits) fun v step ended => Post.emit ?_)
  have step := step.eff fun o => { o with pullFails := o.pullFails + 1, lostRun := some 0 }
  refine q _ ?_ (step.reads (endFields_apart k _)) ?_ ?_
  · exact ((SameBut.ofMask counted (Nat.or_self _)).trans ended).eff rfl (by simp [Eff.part])
  · rw [step.optic]
    rfl
  · rw [step.optic]
    exact congrArg (· + 1) (fails.trans first)

theorem exec_pullInTimeout_fails (live : s.drivesLive = true) (waits : s.optics[k].phase = .velocity ∨ s.optics[k].phase = .settling)
    (first : s.optics[k].pullFails = 0) :
    ∃ t, exec (.pullInTimeout k) s = .next t ∧ SameBut [.optRegs, .optics] s t ∧ t.reads (endFields k rFAILED) ∧
      t.optics[k].phase = .idle ∧ t.optics[k].pullFails = 1 := by
  have begins : exec (.pullInTimeout k) s = answer (pullInFailed k) s := by
    refine (if_pos live).trans ?_
    rcases waits with h | h
    all_goals rw [h]
  refine begins ▸ Post.answer (Post.pullInFailed_first ?_ first fun t same reads idle count => ⟨same, reads, idle, count⟩)
  rcases waits with h | h
  all_goals
    rw [h]
    decide

/-! ### Laser trips and actuators -/

theorem exec_laserTripClear_clears {m : Master} (may : s.mayWrite m = true) :
    ∃ t, exec (.laserTripClear m k) s = .next t ∧ t = s.put (F.BAY_OPT_STAT_LASER_TRIP k.val) 0 :=
  Post.answer (Post.ifTrue may (Post.setF rfl))

/-- A run of samples that goes on or ends stays below 64 while it stood below 63 (R121). -/
theorem run_below {v : Vector Nat 4} {a : Fin 4} (h : v[a] < 63) (b : Bool) : (v.set a (if b then v[a] + 1 else 0))[a] < 64 := by
  rw [Fin.getElem_fin, Vector.getElem_set_self]
  split <;> omega

theorem exec_actSenseSample_shows {a : Fin 4} {sensed : Int} (live : s.drivesLive = true) (low : s.optics[k].lowRun[a] < 63)
    (high : s.optics[k].highRun[a] < 63) :
    ∃ t, exec (.actSenseSample k a sensed) s = .next t ∧ SameBut [.optRegs, .optics] s t ∧
      t.geti (F.BAY_ACT_SENSE_CODE k.val a.val) = satInt 16 sensed ∧ t.optics[k].dac = s.optics[k].dac := by
  have begins : exec (.actSenseSample k a sensed) s = answer _ s := if_pos live
  refine begins ▸ Post.answer (Post.bind (Post.setF (Post.emitThen (Post.rdThen (Post.ifFalse (fun h => ?_) (Post.ifFalse (fun h => ?_) (Post.pure ?_)))))))
  · rw [apply_optic_self] at h
    exact absurd h.1 (Nat.not_le.mpr (run_below low _))
  · rw [apply_optic_self] at h
    exact absurd h.1 (Nat.not_le.mpr (run_below high _))
  · obtain ⟨least, most⟩ := satInt_range 16 sensed
    refine ⟨((SameBut.refl _ s).put (by simp [F.BAY_ACT_SENSE_CODE_window])).eff rfl (by simp [Eff.part]), ?_, by rw [apply_optic_self]; rfl⟩
    exact State.geti_put_self s (F.BAY_ACT_SENSE_CODE k.val a.val) (Nat.succ_pos 15) least most

/-- Settles O14: one lemma for each command and case. -/
theorem opticalSequencesEnd : Obligations.OpticalSequencesEnd := by
  unfold Obligations.OpticalSequencesEnd
  refine fun s k => ⟨fun live enabled turns => ?_, fun live off => exec_optRetract_refused live off,
    fun n drives lost tries laser turns enabled speed => ?_, fun live turns hops => ?_, fun live _ waits first => ?_,
    fun m may => exec_laserTripClear_clears may, fun a sensed live low high => exec_actSenseSample_shows live low high⟩
  · obtain ⟨t, step, same, ⟨⟨dark, shut⟩, ramps, reads⟩⟩ := exec_optRetract_retracts live enabled turns
    exact ⟨t, step, same, dark, shut, ramps, reads.get (n := 5) (by simp [retractFields]), reads.get (n := 0) (by simp [retractFields]),
      reads.get (n := 0) (by simp [retractFields]), reads.get (n := 1) (by simp [retractFields]), reads.get (n := 1) (by simp [retractFields])⟩
  · obtain ⟨t, step, same, reads, acquires⟩ := exec_focusReacquire_acquires drives lost tries laser turns enabled speed
    exact ⟨t, step, same, acquires.phase, acquires.laser, acquires.goal, acquires.onZero, reads.get (n := 1) (by simp [acquireFields])⟩
  · obtain ⟨t, step, same, ⟨⟨dark, -⟩, ramps, reads⟩, lost⟩ := exec_layerHopTimeout_retracts live turns hops
    exact ⟨t, step, same, dark, ramps, lost, reads.get (n := 0) (by simp [retractFields])⟩
  · obtain ⟨t, step, same, reads, idle, count⟩ := exec_pullInTimeout_fails live waits first
    exact ⟨t, step, same, idle, count, reads.get (n := rFAILED) (by simp [endFields]), reads.get (n := 0) (by simp [endFields])⟩

end Sys2Proof.Machine
end

section
/-! What the commands of a motor put among its registers, and what its unit then holds (R148, R153, R163, R164). -/

namespace Sys2Proof.Machine

variable {k : Fin 8} {s t u : State} {l m : List (Fld × Nat)} {g h : Motor → Motor} {ps qs : List Part} {Q : Unit → State → Prop}

/-! ### Fields put one after another -/

/-- What a table reads at the key last put, by whatever default it is read (R5). -/
theorem tabGet_tabSet_key (r : List (Nat × Nat)) (x v d d' : Nat) : tabGet (tabSet r x v d) x d' = if v = d then d' else v := by
  unfold tabGet tabSet
  split
  · rw [lookup_tabErase_self]; rfl
  · rw [lookup_tabInsert_self _ (lookup_tabErase_self r x)]; rfl

theorem State.get_put_congr {f : Fld} (same : t.get f = s.get f) (x : Fld) (v : Nat) : (t.put x v).get f = (s.put x v).get f := by
  by_cases e : f.key = x.key
  · unfold State.get State.put
    rw [e, tabGet_tabSet_key, tabGet_tabSet_key]
  · rw [State.get_put_ne _ _ e, State.get_put_ne _ _ e, same]

theorem State.putAll_get_congr {f : Fld} (same : t.get f = s.get f) (l : List (Fld × Nat)) : (t.putAll l).get f = (s.putAll l).get f := by
  induction l generalizing s t with
  | nil => exact same
  | cons p l ih => exact ih (State.get_put_congr same p.1 p.2)

theorem State.putAll_append (s : State) (l m : List (Fld × Nat)) : s.putAll (l ++ m) = (s.putAll l).putAll m := List.foldl_append

theorem State.putAll_motors (l : List (Fld × Nat)) (s : State) : (s.putAll l).motors = s.motors := by
  induction l generalizing s with
  | nil => rfl
  | cons p l ih => exact ih (s.put p.1 p.2)

/-- Fields of motor registers at different places differ, whichever motors they belong to (R164). -/
theorem motKey_ne {i j a b x y w v q r : Nat} (apart : (64 * a + x % 64) % 16384 ≠ (64 * b + y % 64) % 16384) :
    (⟨F.motBase i + a, x, w, q⟩ : Fld).key ≠ (⟨F.motBase j + b, y, v, r⟩ : Fld).key := by
  simp only [Fld.key, F.motBase]
  omega

/-! ### A step of one motor -/

/-- From `s` to `t` the fields of `l` have been put among the MOT registers in their order, motor `k` has changed by `g`, and what lies outside `ps`
is as it was. -/
structure MotorStep (ps : List Part) (k : Fin 8) (l : List (Fld × Nat)) (g : Motor → Motor) (s t : State) : Prop where
  own : ∀ p ∈ l, p.1.window = .motRegs
  gets : ∀ f : Fld, f.window = .motRegs → t.get f = (s.putAll l).get f
  motor : t.motors[k] = g s.motors[k]
  same : SameBut ps s t

namespace MotorStep

theorem puts (own : ∀ p ∈ l, p.1.window = .motRegs) (k : Fin 8) (s : State) : MotorStep [.motRegs] k l id s (s.putAll l) :=
  ⟨own, fun _ _ => rfl, by rw [State.putAll_motors]; rfl, State.putAll_same (fun p hp => by simp [own p hp]) s⟩

theorem put {f : Fld} (own : f.window = .motRegs) (k : Fin 8) (v : Nat) (s : State) : MotorStep [.motRegs] k [(f, v)] id s (s.put f v) :=
  puts (l := [(f, v)]) (by simpa using own) k s

theorem eff (k : Fin 8) (g : Motor → Motor) (s : State) : MotorStep [.motors] k [] g s ((Eff.motor k g).apply s) :=
  ⟨by simp, fun _ _ => rfl, apply_motor_self k g s, (SameBut.refl _ s).eff rfl (by simp [Eff.part])⟩

/-- A program that leaves the motors and their registers. -/
theorem beside {L : Nat} (k : Fin 8) (same : Same L s t) (regs : L.testBit Part.motRegs.idx = false) (motors : L.testBit Part.motors.idx = false)
    (within : Nat.lor L (partsMask ps) = partsMask ps) : MotorStep ps k [] id s t :=
  ⟨by simp, same .motRegs regs, congrArg (·[k]) (show t.motors = s.motors from same .motors motors), .ofMask same within⟩

theorem mono (a : MotorStep ps k l g s t) (sub : ∀ p ∈ ps, p ∈ qs) : MotorStep qs k l g s t := ⟨a.own, a.gets, a.motor, a.same.mono sub⟩

theorem trans (a : MotorStep ps k l g s t) (b : MotorStep qs k m h t u) : MotorStep (ps ++ qs) k (l ++ m) (h ∘ g) s u where
  own p hp := (List.mem_append.mp hp).elim (a.own p) (b.own p)
  gets f hf := by rw [b.gets f hf, State.putAll_append, State.putAll_get_congr (a.gets f hf)]
  motor := by rw [b.motor, a.motor]; rfl
  same := (a.same.mono (by simp +contextual)).trans (b.same.mono (by simp +contextual))

/-- What was put last into each field is read there. -/
theorem reads (a : MotorStep ps k l g s t) (apart : (l.map fun p => p.1.key).Nodup) : t.reads l := fun p hp =>
  (a.gets p.1 (a.own p hp)).trans (State.putAll_get apart hp s)

theorem keeps (a : MotorStep ps k l g s t) {f : Fld} (own : f.window = .motRegs) (apart : ∀ p ∈ l, f.key ≠ p.1.key) : t.get f = s.get f :=
  (a.gets f own).trans (State.putAll_get_other apart s)

end MotorStep

/-! ### What a motor's operations put -/

/-- The fields that show the state of a motor (R149, R164). -/
def stateFields (k : Fin 8) (st : Nat) : List (Fld × Nat) :=
  [(F.MOT_STAT_STATE k.val, st), (F.MOT_STAT_BRAKING k.val, if st = mtBRAKE ∨ st = mtHOLD_ZERO ∨ st = mtSOFT_BRAKE then 1 else 0)]

theorem stateFields_own {st : Nat} : ∀ p ∈ stateFields k st, p.1.window = .motRegs := by
  simp [stateFields, F.MOT_STAT_STATE_window, F.MOT_STAT_BRAKING_window]

/-- The fields that gates off puts: the sign of the reference, and the state unless a fault is latched (R148, R149). -/
def offFields (s : State) (k : Fin 8) : List (Fld × Nat) :=
  (F.MOT_STAT_REVERSE k.val, 0) :: if s.motorState k = mtLATCHED then [] else stateFields k (if s.motors[k].atRest then mtOFF else mtCOAST)

/-- A motor with its gates off (R148). -/
def Motor.off (m : Motor) : Motor :=
  { m with gates := false, zeroCurrent := false, target := 0, stopLater := false, caught := false, reverse := false
           starting := false, steady := 0, checkWait := 0, ref := 0 }

theorem Post.motorThen {f : Unit → Act Unit} (q : ∀ t, MotorStep [.motors] k [] g s t → Act.Post (f ()) t Q) :
    Act.Post (Machine.emit (.motor k g) >>= f) s Q := Post.emitThen (q _ (.eff k g s))

theorem Post.fieldThen {x : Fld} {v : Nat} {f : Unit → Act Unit} (own : x.window = .motRegs)
    (q : ∀ t, MotorStep [.motRegs] k [(x, v)] id s t → Act.Post (f ()) t Q) : Act.Post (Machine.setF x v >>= f) s Q :=
  Post.setThen (q _ (.put own k v s))

theorem Post.setMotor {st : Nat} (q : ∀ t, MotorStep [.motRegs] k (stateFields k st) id s t → Q () t) : Act.Post (Machine.setMotor k st) s Q :=
  Post.setThen (Post.setF (q _ (.puts stateFields_own k s)))

theorem Post.setMotorResult {r : Nat} (q : ∀ t, MotorStep [.motRegs] k [(F.MOT_STAT_RESULT k.val, r)] id s t → Q () t) :
    Act.Post (Machine.setMotorResult k r) s Q := Post.setF (q _ (.put (F.MOT_STAT_RESULT_window _) k r s))

theorem Post.setRef {ref : Int} (q : ∀ t, MotorStep [.motors, .motRegs] k [(F.MOT_STAT_REVERSE k.val, if ref < 0 then 1 else 0)]
    ({ · with ref := ref }) s t → Q () t) : Act.Post (Machine.setRef k ref) s Q :=
  Post.emitThen (Post.setF (q _ ((MotorStep.eff k _ s).trans (.put (F.MOT_STAT_REVERSE_window _) k _ _))))

/-- Gates off, as a step of the motor (R148). -/
theorem Post.gatesOff_step (q : ∀ t, MotorStep [.motRegs, .motors] k (offFields s k) Motor.off s t → Q () t) :
    Act.Post (Machine.gatesOff k) s Q := by
  unfold Machine.gatesOff
  refine Post.rdThen (Post.emitThen (Post.bind (Post.setRef fun t ref => Post.ite (fun turns => ?_) fun latched => Post.pure (q _ ?_))))
  · refine Post.setMotor fun u state => q _ ?_
    rw [offFields, if_neg turns]
    exact (((MotorStep.eff k _ s).trans ref).trans state).mono (by decide)
  · rw [offFields, if_pos (not_not.mp latched)]
    exact ((MotorStep.eff k _ s).trans ref).mono (by decide)

/-- The fields of MOT_STAT that gates off may put. -/
def driveFields (k : Fin 8) : List Fld := [F.MOT_STAT_REVERSE k.val, F.MOT_STAT_STATE k.val, F.MOT_STAT_BRAKING k.val]

theorem offFields_drive (s : State) : ∀ p ∈ offFields s k, p.1 ∈ driveFields k := by
  unfold offFields stateFields driveFields
  split <;> simp

/-- Gates off that end what was under way: RESULT may show ABORTED (R163). -/
theorem Post.abortMotor_step (q : ∀ t l, MotorStep [.motRegs, .motors] k l Motor.off s t → (∀ p ∈ l, p.1 ∈ statFields k) → Q () t) :
    Act.Post (Machine.abortMotor k) s Q := by
  unfold Machine.abortMotor
  have off (u : State) : ∀ p ∈ offFields u k, p.1 ∈ statFields k := fun p hp => by
    have drive := offFields_drive u p hp
    simp only [driveFields, List.mem_cons, List.not_mem_nil, or_false] at drive
    rcases drive with h | h | h <;> simp [statFields, h]
  refine Post.rdThen (Post.ite (fun _ => Post.bind (Post.setMotorResult fun t result => Post.gatesOff_step fun u gates => ?_))
    fun _ => Post.gatesOff_step fun u gates => q u _ gates (off s))
  exact q u _ ((result.trans gates).mono (by decide)) fun p hp => (List.mem_append.mp hp).elim (by simp +contextual [statFields]) (off t p)

/-- An event of a motor is raised after effects that leave what events are made of as from the start. -/
theorem Post.raiseMotor_after {i sub : Nat} (same : SameBut ps s t) (now : t.now = s.now) (apart : ∀ p ∈ [Part.evtRegs, .evq, .nv, .life], p ∉ ps)
    (q : ∀ u, MotorStep eventParts k [] id t u → Raised (Ev.bay (k.val % 4) i) sub (k.val / 4) 0 s u → Q () u) :
    Act.Post (Machine.raiseMotor k i sub) t Q :=
  Post.raise fun u raised signals => q u (.beside k signals.same rfl rfl rfl) (raised.after same now apart)

/-- The parts that the beginning of a catch window may touch. -/
def catchParts : List Part := [.motRegs, .calRegs, .motors, .cal]

/-- A catch window begins: the gates switch at zero current (R153). -/
theorem Post.beginCatch (q : ∀ t, MotorStep catchParts k (stateFields k mtCATCH)
    ({ · with gates := true, zeroCurrent := true, catchCounts := 0, stopLater := false }) s t → Q () t) : Act.Post (Machine.beginCatch k) s Q := by
  unfold Machine.beginCatch
  refine Post.bind (Post.touches (abortCal_touches _ (L := partsMask [.calRegs, .cal]) rfl) fun _ u ends => ?_)
  refine Post.emitThen (Post.setMotor fun v state => ?_)
  have ended : MotorStep catchParts k [] id s u := .beside k ends rfl rfl rfl
  exact q v (((ended.trans (.eff k _ u)).trans state).mono (by decide))

end Sys2Proof.Machine
end

section
/-! The commands of the motors, each in the states that take it (R150 to R165): O18. -/

namespace Sys2Proof.Machine

variable {k : Fin 8} {s : State} {Q : Unit → State → Prop}

/-! ### RUN and MOVE -/

/-- What a new target and the catch window that it begins make of a motor (R153). -/
def Motor.caughtFor (target : Int) (m : Motor) : Motor :=
  { m with target := target, steady := 0, gates := true, zeroCurrent := true, catchCounts := 0, stopLater := false }

/-- The fields that a start puts as its catch window begins (R164). -/
def catchFields (k : Fin 8) : List (Fld × Nat) := (F.MOT_STAT_RESULT k.val, 0) :: stateFields k mtCATCH

theorem catchFields_apart : ∀ k : Fin 8, ((catchFields k).map fun p => p.1.key).Nodup := by decide

/-- A new target begins a catch window for a motor that is not under control (R153, R163). -/
theorem Post.motorTarget_catches {target : Int} (idle : s.motorState k = mtOFF ∨ s.motorState k = mtCOAST)
    (q : ∀ t, MotorStep catchParts k (catchFields k) (Motor.caughtFor target) s t → Q () t) :
    Act.Post (motorTarget k target) s Q := by
  unfold motorTarget
  have free : ¬(s.motorState k = mtCATCH ∨ s.motorState k = mtRESYNC ∨ s.motorState k = mtCHECK) := by
    rcases idle with h | h <;> simp [h]
  refine Post.rdThen (Post.ifFalse free (Post.bind (Post.setMotorResult fun t result => ?_)))
  refine Post.emitThen (Post.ifTrue idle (Post.beginCatch fun u begun => q u ?_))
  exact ((result.trans (.eff k _ t)).trans begun).mono (by decide)

/-- The parts that a bay's change of state may touch. -/
def setBayParts : List Part := [.rchRegs, .calRegs, .bayRegs, .spokes, .detectors, .cal] ++ eventParts

/-- A bay that does not write and whose spindle is not at speed can but become SPINNING (R46). -/
theorem Post.settleBay_spins {b : Fin 4} (still : s.bayState b.val ≠ bWRITING) (slow : s.motorState (spindleOf b) ≠ mtAT_SPEED)
    (q : ∀ t, Same (partsMask setBayParts) s t → Q () t) : Act.Post (settleBay b) s Q := by
  unfold settleBay
  have stays (t : State) (same : Same (partsMask setBayParts) s t) :
      ¬(t.bayState b.val = bSPINNING ∧ t.motorState (spindleOf b) = mtAT_SPEED ∧ t.bayHasDisc b = true) := fun ⟨_, fast, _⟩ =>
    slow ((same.get (F.MOT_STAT_STATE_window _) (by decide) rfl).symm.trans fast)
  refine Post.rdThen (Post.ifFalse (fun ⟨writes, _⟩ => still writes) (Post.rdThen (Post.ite (fun _ => Post.bind ?_) fun _ => ?_)))
  · exact Post.touches (setBay_touches b _ (L := partsMask setBayParts) rfl) fun _ t same =>
      Post.rdThen (Post.ifFalse (stays t same) (Post.pure (q t same)))
  · exact Post.rdThen (Post.ifFalse (stays s (.refl _ s)) (Post.pure (q s (.refl _ s))))

/-- A change of speed class leaves the state of the bay (R280). -/
theorem setSpeed_keeps_bayState (b : Fin 4) (cls : Nat) : Keeps (fun s => s.bayState b.val) (setSpeed b cls) := by
  unfold setSpeed
  have apart : ∀ b : Fin 4, (F.BAY_STAT_STATE b.val).key ≠ (F.BAY_STAT_SPEED b.val).key := by decide
  have beside {m : Act Unit} (h : Touches (2 ^ 61 - 1 - 2 ^ Part.bayRegs.idx) m) : Keeps (fun s => s.bayState b.val) m :=
    .touches h fun _ _ same => same.get (F.BAY_STAT_STATE_window _) (by decide) rfl
  refine .bind .rd fun s => .ite (.bind (.setF fun s => State.get_put_ne s _ (apart b)) fun _ => .bind (.forAll fun n => ?_) fun _ => ?_) (.pure ())
  · exact .bind .rd fun _ => .ite (beside (Touches.setF (F.RCH_LANE_FREQ_FREQ_window _) rfl)) (.pure ())
  · exact beside (raiseBay_touches _ _ _ _ _ rfl)

/-- The parts that RUN may touch once its catch window has begun. -/
def runParts : List Part := .lanRegs :: setBayParts

/-- RUN of a spindle that is not under control begins a catch window with its class's speed as target (R153, R163). -/
theorem exec_motRun_catches {c : Fin 4} (drives : s.drivesTake = true) (spindle : k.val < 4) (unshut : s.motorShut k = false)
    (idle : s.motorState k = mtOFF ∨ s.motorState k = mtCOAST) (still : s.bayState (bayOfMotor k).val ≠ bWRITING) :
    ∃ t, exec (.motRun k c) s = .next t ∧ t.reads (catchFields k) ∧
      t.motors[k] = Motor.caughtFor (nominalSpeed c.val) s.motors[k] := by
  have begins : exec (.motRun k c) s = answer _ s := if_pos drives
  have own : spindleOf (bayOfMotor k) = k := Fin.ext (Nat.mod_eq_of_lt spindle)
  have free : s.motorState k ≠ mtCATCH ∧ s.motorState k ≠ mtRESYNC ∧ s.motorState k ≠ mtCHECK := by rcases idle with h | h <;> simp [h]
  have kept : (s.put (F.MOT_CMD_CLASS k.val) c.val).motorState k = s.motorState k := State.get_put_ne s _ (motKey_ne (by decide))
  refine begins ▸ Post.answer (Post.rdThen (Post.setThen (Post.ifFalse (by simp [unshut, spindle]) (Post.bind ?_))))
  refine Post.motorTarget_catches (by rwa [kept]) fun t caught => Post.ifTrue free (Post.bind ?_)
  have turned := (MotorStep.put (F.MOT_CMD_CLASS_window k.val) k c.val s).trans caught
  refine Post.andKeeps (v := fun s => s.bayState (bayOfMotor k).val) ?_ (setSpeed_keeps_bayState _ _)
  refine Post.touches (setSpeed_touches _ _ (L := partsMask runParts) rfl) fun _ u speed bay => ?_
  have catching : u.motorState k = mtCATCH := (speed.get (F.MOT_STAT_STATE_window _) (by decide) rfl).trans
    (caught.reads (catchFields_apart k) |>.get (n := mtCATCH) (by simp [catchFields, stateFields]))
  have stays : t.bayState (bayOfMotor k).val = s.bayState (bayOfMotor k).val := turned.same .bayRegs (by decide) _ (F.BAY_STAT_STATE_window _)
  refine Post.settleBay_spins (by rwa [bay, stays]) (by rw [own, catching]; decide) fun v settled => ?_
  have rest : MotorStep runParts k [] id t v := .beside k (speed.trans (settled.mono rfl)) rfl rfl rfl
  exact ⟨(caught.trans rest).reads (catchFields_apart k), (turned.trans rest).motor⟩

/-- MOVE of a shuttle that is not under control begins a catch window for its profile's cruise speed (R153, R163). -/
theorem exec_motMove_catches {target : Int} (drives : s.drivesTake = true) (shuttle : 4 ≤ k.val) (unshut : s.motorShut k = false)
    (idle : s.motorState k = mtOFF ∨ s.motorState k = mtCOAST) :
    ∃ t, exec (.motMove k target) s = .next t ∧ SameBut catchParts s t ∧ t.reads (catchFields k) ∧ t.motors[k].moveTo = target ∧
      t.motors[k].zeroCurrent = true := by
  have begins : exec (.motMove k target) s = answer _ s := if_pos drives
  have free : s.motorState k ≠ mtCATCH ∧ s.motorState k ≠ mtRESYNC ∧ s.motorState k ≠ mtCHECK := by rcases idle with h | h <;> simp [h]
  have kept : (s.put (F.MOT_CMD_TARGET k.val) (ofSigned 24 target)).motorState k = s.motorState k := State.get_put_ne s _ (motKey_ne (by decide))
  refine begins ▸ Post.answer (Post.rdThen (Post.setThen (Post.ifFalse (by simp [unshut, shuttle]) ?_)))
  refine Post.ifTrue free (Post.emitThen (Post.rdThen ?_))
  refine Post.motorTarget_catches (by rwa [← kept] at idle) fun t caught => ?_
  have moved := ((MotorStep.put (F.MOT_CMD_TARGET_window k.val) k _ s).trans (.eff k _ _)).trans caught
  exact ⟨moved.same.mono (by decide), caught.reads (catchFields_apart k), by rw [moved.motor]; rfl, by rw [moved.motor]; rfl⟩

/-! ### STOP, COAST and CHECK -/

theorem exec_motStop_brakes (live : s.drivesLive = true) (enabled : s.get (F.MOT_CTL_ENABLE k.val) = 1)
    (turns : s.motorState k = mtRAMP ∨ s.motorState k = mtAT_SPEED) :
    ∃ t, exec (.motStop k) s = .next t ∧ SameBut [.motRegs, .motors] s t ∧
      t.reads ((F.MOT_STAT_RESULT k.val, 0) :: stateFields k mtBRAKE) ∧ t.motors[k].target = 0 := by
  have apart : ∀ k : Fin 8, (((F.MOT_STAT_RESULT k.val, 0) :: stateFields k mtBRAKE).map fun p => p.1.key).Nodup := by decide
  have begins : exec (.motStop k) s = answer _ s := if_pos live
  have takes : ¬(s.get (F.MOT_CTL_ENABLE k.val) = 0 ∨ s.motorState k = mtLATCHED) := by
    rcases turns with h | h <;> simp [enabled, h]
  refine begins ▸ Post.answer (Post.rdThen (Post.ifFalse takes (Post.bind (Post.setMotorResult fun t result => ?_))))
  have shown : t.motorState k = s.motorState k := result.keeps (F.MOT_STAT_STATE_window _)
    (List.forall_mem_singleton.mpr (motKey_ne (by decide)))
  unfold stopMotor
  rw [← shown] at turns
  have inMotion : t.motorState k ≠ mtLATCHED ∧ ¬(t.motorState k = mtCATCH ∨ t.motorState k = mtRESYNC) ∧
      ¬(t.motorState k = mtOFF ∨ t.motorState k = mtCOAST) ∧ t.motorState k ≠ mtCHECK := by
    rcases turns with h | h <;> simp [h]
  obtain ⟨unlatched, awaits, driven, checks⟩ := inMotion
  refine Post.rdThen (Post.ifFalse unlatched (Post.ifFalse awaits (Post.ifFalse driven (Post.ifFalse checks (Post.emitThen (Post.ifTrue turns ?_))))))
  refine Post.setMotor fun u brakes => ?_
  have step := (result.trans (.eff k _ t)).trans brakes
  exact ⟨step.same.mono (by decide), step.reads (apart k), by rw [step.motor]; rfl⟩

/-- The fields of a motor that ends with its gates off and a result (R148, R163). -/
def endedFields (s : State) (k : Fin 8) : List (Fld × Nat) := offFields s k ++ [(F.MOT_STAT_RESULT k.val, rDONE)]

/-- A motor at the end of a STOP, or one that COAST lets go, has its gates off and DONE as its result. -/
theorem Post.stopDone_step (q : ∀ t, MotorStep [.motRegs, .motors] k (endedFields s k) Motor.off s t → Q () t) : Act.Post (stopDone k) s Q :=
  Post.bind (Post.gatesOff_step fun _ off => Post.setMotorResult fun u done => q u ((off.trans done).mono (by decide)))

/-- What `MotorStep` says of a motor that was not latched and has ended. -/
theorem MotorStep.ended {ps : List Part} {t : State} (h : MotorStep ps k (endedFields s k) Motor.off s t) (unlatched : s.motorState k ≠ mtLATCHED) :
    t.motors[k].gates = false ∧ t.motorState k = (if s.motors[k].atRest then mtOFF else mtCOAST) ∧ t.get (F.MOT_STAT_RESULT k.val) = rDONE := by
  have apart : ∀ k : Fin 8, ((driveFields k ++ [F.MOT_STAT_RESULT k.val]).map Fld.key).Nodup := by decide
  have reads : t.reads (endedFields s k) := h.reads (by rw [endedFields, offFields, if_neg unlatched]; exact apart k)
  refine ⟨by rw [h.motor]; rfl, ?_, reads.get (n := rDONE) (by simp [endedFields])⟩
  have state := reads.get (f := F.MOT_STAT_STATE k.val) (n := if s.motors[k].atRest then mtOFF else mtCOAST)
    (by simp [endedFields, offFields, unlatched, stateFields])
  refine state.trans ?_
  split <;> rfl

theorem exec_motCoast_ends (live : s.drivesLive = true) (enabled : s.get (F.MOT_CTL_ENABLE k.val) = 1) (unlatched : s.motorState k ≠ mtLATCHED) :
    ∃ t, exec (.motCoast k) s = .next t ∧ MotorStep [.motRegs, .motors] k (endedFields s k) Motor.off s t := by
  have begins : exec (.motCoast k) s = answer _ s := if_pos live
  exact begins ▸ Post.answer (Post.rdThen (Post.ifFalse (by simp [enabled, unlatched]) (Post.stopDone_step fun _ ended => ended)))

theorem exec_motCheck_begins (drives : s.drivesTake = true) (enabled : s.get (F.MOT_CTL_ENABLE k.val) = 1) (off : s.motorState k = mtOFF)
    (rests : s.motors[k].atRest = true) :
    ∃ t, exec (.motCheck k) s = .next t ∧ SameBut [.motRegs, .motors] s t ∧ t.reads ((F.MOT_STAT_RESULT k.val, 0) :: stateFields k mtCHECK) ∧
      t.motors[k].gates = false ∧ t.motors[k].checkStep = 0 := by
  have begins : exec (.motCheck k) s = answer _ s := if_pos drives
  have apart : ∀ k : Fin 8, (((F.MOT_STAT_RESULT k.val, 0) :: stateFields k mtCHECK).map fun p => p.1.key).Nodup := by decide
  have takes : ¬(s.motorState k ≠ mtOFF ∨ s.motors[k].atRest = false) := fun moves =>
    moves.elim (· off) fun moving => absurd (rests.symm.trans moving) (by decide)
  refine begins ▸ Post.answer (Post.rdThen (Post.ifFalse (by simp [enabled]) (Post.ifFalse takes (Post.bind ?_))))
  refine Post.setMotorResult fun t result => Post.emitThen (Post.setMotor fun u checks => ?_)
  have step := (result.trans (.eff k _ t)).trans checks
  exact ⟨step.same.mono (by decide), step.reads (apart k), by rw [step.motor]; rfl, by rw [step.motor]; rfl⟩

/-- A command that a motor does not take shows why, with MOT_CMD_REJECT raised (R165). -/
structure MotorRefuses (k : Fin 8) (r : Nat) (s t : State) : Prop where
  frame : SameBut (.motRegs :: eventParts) s t
  result : t.get (F.MOT_STAT_RESULT k.val) = r % 8
  raised : Raised (Ev.bay (k.val % 4) Ev.iCMD_REJECT) 1 (k.val / 4) 0 s t

theorem Post.motorRefuse {r : Nat} (q : ∀ t, MotorRefuses k r s t → Q () t) : Act.Post (Machine.motorRefuse k r) s Q := by
  have shows := MotorStep.put (F.MOT_STAT_RESULT_window k.val) k r s
  refine Post.bind (Post.setF (Post.raiseMotor_after shows.same rfl (by decide) fun t rest raised => q t ?_))
  exact ⟨(shows.trans rest).same, (shows.trans rest).reads (List.nodup_singleton _) |>.get (n := r) (by simp), raised⟩

theorem exec_motCheck_busy (drives : s.drivesTake = true) (enabled : s.get (F.MOT_CTL_ENABLE k.val) = 1)
    (moves : s.motorState k ≠ mtOFF ∨ s.motors[k].atRest = false) : ∃ t, exec (.motCheck k) s = .next t ∧ MotorRefuses k rBUSY s t := by
  have begins : exec (.motCheck k) s = answer _ s := if_pos drives
  exact begins ▸ Post.answer (Post.rdThen (Post.ifFalse (by simp [enabled]) (Post.ifTrue moves (Post.motorRefuse fun _ refuses => refuses))))

theorem exec_motCheck_invalid (drives : s.drivesTake = true) (off : s.get (F.MOT_CTL_ENABLE k.val) = 0) :
    ∃ t, exec (.motCheck k) s = .next t ∧ MotorRefuses k rINVALID s t := by
  have begins : exec (.motCheck k) s = answer _ s := if_pos drives
  exact begins ▸ Post.answer (Post.rdThen (Post.ifTrue off (Post.motorRefuse fun _ refuses => refuses)))

/-! ### ENABLE -/

/-- The parts that the shunt's calibration may touch beside its register. -/
def shuntParts : List Part := [.calRegs, .cal]

/-- ENABLE averages the shunt offset over the samples (R157, R164). -/
theorem exec_motEnableWrite_on {m : Master} {xs : List Int} (may : s.mayWrite m = true) (off : s.get (F.MOT_CTL_ENABLE k.val) = 0)
    (sampled : xs ≠ []) : ∃ t, exec (.motEnableWrite m k true xs) s = .next t ∧ MotorStep [.motRegs, .calRegs, .cal] k
      [(F.MOT_CTL_ENABLE k.val, 1), (F.MOT_SHUNT_OFS_OFS k.val, (floorDiv xs.sum xs.length).toNat)] id s t := by
  refine Post.answer (Post.ifTrue may (Post.bind (Post.getF (Post.setThen (Post.ifTrue rfl (Post.ifTrue ⟨off, sampled⟩ (Post.setThen ?_)))))))
  refine Post.touches (endCal_touches _ _ _ (L := partsMask shuntParts) rfl) fun _ t ends => ?_
  have puts := (MotorStep.put (F.MOT_CTL_ENABLE_window k.val) k 1 s).trans
    (.put (F.MOT_SHUNT_OFS_OFS_window k.val) k (floorDiv xs.sum xs.length).toNat _)
  have rest : MotorStep shuntParts k [] id _ t := .beside k ends rfl rfl rfl
  exact (puts.trans rest).mono (by decide)

/-- Clearing ENABLE puts the gates off (R164). -/
theorem exec_motEnableWrite_off {m : Master} {xs : List Int} (may : s.mayWrite m = true) :
    ∃ t, exec (.motEnableWrite m k false xs) s = .next t ∧ SameBut [.motRegs, .motors] s t ∧ t.get (F.MOT_CTL_ENABLE k.val) = 0 ∧
      t.motors[k].gates = false := by
  have apart : ∀ k : Fin 8, ∀ f ∈ statFields k, (F.MOT_CTL_ENABLE k.val).key ≠ f.key := by decide
  refine Post.answer (Post.ifTrue may (Post.bind (Post.getF (Post.setThen (Post.ifFalse nofun (Post.abortMotor_step fun t l off shown => ?_))))))
  have step := (MotorStep.put (F.MOT_CTL_ENABLE_window k.val) k 0 s).trans off
  refine ⟨step.same.mono (by decide), ?_, by rw [step.motor]; rfl⟩
  exact (off.keeps (F.MOT_CTL_ENABLE_window _) fun p hp => apart k _ (shown p hp)).trans (State.get_put_self _ _ _)

/-! ### The short of a phase -/

/-- Wherever the drives are clocked a bay can be FAULTED (R29, R46). -/
theorem State.drivesLive_admits (live : s.drivesLive = true) : s.admits bFAULTED = true := by
  unfold State.drivesLive State.drivesTake at live
  unfold State.admits
  simp only [List.contains_eq_mem, List.mem_cons, Bool.or_eq_true, Bool.and_eq_true, beq_iff_eq, decide_eq_true_eq, List.not_mem_nil,
    or_false] at live
  have modes : s.mode = 4 ∨ s.mode = 5 ∨ s.mode = 6 ∨ s.mode = 11 ∨ s.mode = 7 ∨ s.mode = 10 := by tauto
  rcases modes with h | h | h | h | h | h <;> rw [h] <;> rfl

theorem State.admits_same {ps : List Part} {t : State} (same : SameBut ps s t) (dev : .devRegs ∉ ps) (st : Nat) : t.admits st = s.admits st := by
  have mode : t.mode = s.mode := same .devRegs dev F.DEV_MODE_STAT_MODE rfl
  unfold State.admits
  rw [mode]

/-- How every fault of a motor ends: its event, and its bay FAULTED (R46, R162, R163). -/
def motorFaultEnd (k : Fin 8) (i sub : Nat) : Act Unit := do
  raiseMotor k i sub
  setBay (bayOfMotor k) bFAULTED

theorem Post.motorFaultEnd {i sub : Nat} (admits : s.admits bFAULTED = true)
    (q : ∀ t, t.bayState (bayOfMotor k).val = bFAULTED → MotorStep setBayParts k [] id s t → Q () t) :
    Act.Post (Machine.motorFaultEnd k i sub) s Q := by
  refine Post.bind (Post.touches (raiseMotor_touches k i sub (L := partsMask setBayParts) rfl) fun _ t raised => ?_)
  refine Post.andTouches ?_ (setBay_touches (bayOfMotor k) _ (L := partsMask setBayParts) rfl)
  refine Post.mono ((setBay_faults (c := bayOfMotor k) (bayOfMotor k)).2 t) fun _ u faulted same => ?_
  have step : MotorStep setBayParts k [] id s u := .beside k (raised.trans same) rfl rfl rfl
  exact q u (faulted ((State.admits_same step.same (by decide) _).trans admits)) step

/-- The parts that a motor's fault may touch. -/
def motorFaultParts : List Part := .motRegs :: .motors :: setBayParts

/-- A wiring fault latches the motor with its gates off, and its bay is FAULTED (R159, R163). -/
theorem Post.latchMotor {f : Fld} {sub : Nat} (own : f.window = .motRegs)
    (apart : (((f, 1) :: stateFields k mtLATCHED).map fun p => p.1.key).Nodup) (admits : s.admits bFAULTED = true)
    (q : ∀ t, t.bayState (bayOfMotor k).val = bFAULTED → t.reads ((f, 1) :: stateFields k mtLATCHED) → t.motors[k].gates = false →
      SameBut motorFaultParts s t → Q () t) : Act.Post (Machine.latchMotor k f sub) s Q := by
  unfold Machine.latchMotor
  refine Post.bind (Post.abortMotor_step fun t l off _ => Post.setThen (Post.bind (Post.setMotor fun u latched => ?_)))
  have marked := (MotorStep.put own k 1 t).trans latched
  have stands : u.admits bFAULTED = true := (State.admits_same (off.trans marked).same (by decide) _).trans admits
  refine Post.motorFaultEnd stands fun v faulted rest => q v faulted ((marked.trans rest).reads apart) ?_ ?_
  · rw [((off.trans marked).trans rest).motor]
    rfl
  · exact ((off.trans marked).trans rest).same.mono (by decide)

theorem exec_motPhaseShort_latches (live : s.drivesLive = true) (switches : s.motors[k].gates = true) :
    ∃ t, exec (.motPhaseShort k) s = .next t ∧ SameBut motorFaultParts s t ∧ t.reads ((F.MOT_STAT_SHORT k.val, 1) :: stateFields k mtLATCHED) ∧
      t.motors[k].gates = false ∧ t.bayState (bayOfMotor k).val = bFAULTED := by
  have begins : exec (.motPhaseShort k) s = answer _ s := if_pos live
  have apart : ∀ k : Fin 8, (((F.MOT_STAT_SHORT k.val, 1) :: stateFields k mtLATCHED).map fun p => p.1.key).Nodup := by decide
  refine begins ▸ Post.answer (Post.ifTrue switches (Post.latchMotor (F.MOT_STAT_SHORT_window _) (apart k) (State.drivesLive_admits live) ?_))
  exact fun t faulted reads off same => ⟨same, reads, off, faulted⟩

/-- Settles O18: one lemma for each command and case. -/
theorem motorCommandsAreObeyed : Obligations.MotorCommandsAreObeyed := by
  unfold Obligations.MotorCommandsAreObeyed
  refine fun s k => ⟨fun c drives spindle unshut idle still => ?_, fun live enabled turns => ?_, fun live enabled unlatched => ?_,
    fun target drives shuttle unshut idle => ?_, fun drives enabled off rests => ?_, fun drives enabled moves => ?_, fun drives off => ?_,
    fun m xs may off sampled => ?_, fun m xs may => exec_motEnableWrite_off may, fun live switches => ?_⟩
  · obtain ⟨t, step, reads, motor⟩ := exec_motRun_catches drives spindle unshut idle still (c := c)
    refine ⟨t, step, reads.get (n := mtCATCH) (by simp [catchFields, stateFields]), ?_⟩
    rw [motor]
    exact ⟨rfl, rfl, rfl, reads.get (n := 0) (by simp [catchFields])⟩
  · obtain ⟨t, step, same, reads, aims⟩ := exec_motStop_brakes live enabled turns
    exact ⟨t, step, same, reads.get (n := mtBRAKE) (by simp [stateFields]), aims, reads.get (n := 0) (by simp)⟩
  · obtain ⟨t, step, ends⟩ := exec_motCoast_ends live enabled unlatched
    exact ⟨t, step, ends.same, ends.ended unlatched⟩
  · obtain ⟨t, step, same, reads, aims, still⟩ := exec_motMove_catches drives shuttle unshut idle (target := target)
    exact ⟨t, step, same, reads.get (n := mtCATCH) (by simp [catchFields, stateFields]), aims, still, reads.get (n := 0) (by simp [catchFields])⟩
  · obtain ⟨t, step, same, reads, gates, first⟩ := exec_motCheck_begins drives enabled off rests
    exact ⟨t, step, same, reads.get (n := mtCHECK) (by simp [stateFields]), gates, first, reads.get (n := 0) (by simp)⟩
  · obtain ⟨t, step, same, result, raised⟩ := exec_motCheck_busy drives enabled moves
    exact ⟨t, step, same, result, raised⟩
  · obtain ⟨t, step, same, result, raised⟩ := exec_motCheck_invalid drives off
    exact ⟨t, step, same, result, raised⟩
  · obtain ⟨t, step, puts⟩ := exec_motEnableWrite_on may off sampled
    have apart : ∀ k : Fin 8, ([F.MOT_CTL_ENABLE k.val, F.MOT_SHUNT_OFS_OFS k.val].map Fld.key).Nodup := by decide
    have reads := puts.reads (apart k)
    exact ⟨t, step, puts.same, reads.get (n := 1) (by simp), reads.get (f := F.MOT_SHUNT_OFS_OFS k.val) (by simp)⟩
  · obtain ⟨t, step, same, reads, off, faulted⟩ := exec_motPhaseShort_latches live switches
    exact ⟨t, step, same.mono (by decide), reads.get (n := mtLATCHED) (by simp [stateFields]), reads.get (n := 1) (by simp), off, faulted⟩

end Sys2Proof.Machine
end

section
/-! The ends of a motor's starts, brakes and checks, its index pulses and its sample events (R151 to R162). -/

namespace Sys2Proof.Machine

variable {k : Fin 8} {s : State} {Q : Unit → State → Prop}

/-! ### The ramp -/

/-- A motor whose ramp begins at a speed (R153). -/
def Motor.ramped (w : Int) (m : Motor) : Motor :=
  { m with gates := true, zeroCurrent := false, rampRest := 0, steady := 0, reverse := false, caught := false, starting := false, ref := w }

/-- The fields that the ramp puts among those of its motor (R149, R164). -/
def rampFields (k : Fin 8) (w : Int) : List (Fld × Nat) := (F.MOT_STAT_REVERSE k.val, if w < 0 then 1 else 0) :: stateFields k mtRAMP

theorem rampFields_apart (k : Fin 8) (w : Int) : ((rampFields k w).map fun p => p.1.key).Nodup := by
  have apart : ∀ k : Fin 8, ((driveFields k).map Fld.key).Nodup := by decide
  exact apart k

/-- The ramp of a motor with an angle reference begins at its speed (row 3 of R153). -/
theorem Post.beginRamp {w : Int} (angle : s.motors[k].angleRef = true)
    (q : ∀ t, MotorStep [.srvRegs, .motRegs, .motors] k (rampFields k w) (Motor.ramped w) s t → Q () t) : Act.Post (Machine.beginRamp k w) s Q := by
  unfold Machine.beginRamp
  have known : ¬(s.motors[k].angleRef = false ∧ s.observerValid k = true) := fun ⟨none_, _⟩ => absurd (angle.symm.trans none_) (by decide)
  refine Post.rdThen (Post.bind (Post.touches (L := partsMask [.srvRegs]) (.forAll fun j => ?_) fun _ t loops => ?_))
  · exact .ite (.forAll fun c => .forAll fun i => .setF (sectionFld_window _ _ _ _) rfl) (.pure ())
  refine Post.emitThen (Post.ifFalse known (Post.bind (Post.setRef fun u ref => Post.setMotor fun v state => q v ?_)))
  have reset : MotorStep [.srvRegs] k [] id s t := .beside k loops rfl rfl rfl
  exact (((reset.trans (.eff k _ t)).trans ref).trans state).mono (by decide)

theorem exec_catchWindowEnd_ends (live : s.drivesLive = true) (catching : s.motorState k = mtCATCH) (now : s.motors[k].stopLater = false)
    (few : s.motors[k].catchCounts.natAbs < 2) (silent : s.motors[k].bemf < s.get (F.MOT_OBS_BEMF_MIN k.val) * 2 ^ 23)
    (aimless : s.motors[k].target = 0) :
    ∃ t, exec (.catchWindowEnd k) s = .next t ∧ MotorStep [.motRegs, .motors] k (endedFields s k) Motor.off s t := by
  have begins : exec (.catchWindowEnd k) s = answer _ s := if_pos live
  refine begins ▸ Post.answer (Post.ifTrue catching (Post.ifFalse (by rw [now]; decide) (Post.rdThen (Post.ifTrue few ?_))))
  exact Post.ifFalse (Nat.not_le.mpr silent) (Post.ifTrue aimless (Post.stopDone_step fun _ ended => ended))

theorem exec_catchWindowEnd_ramps (live : s.drivesLive = true) (catching : s.motorState k = mtCATCH) (now : s.motors[k].stopLater = false)
    (many : 2 ≤ s.motors[k].catchCounts.natAbs) (forward : 0 ≤ s.motors[k].target) (turns : 0 ≤ s.geti (F.MOT_SPEED_RPM k.val))
    (below : s.geti (F.MOT_SPEED_RPM k.val) ≤ s.motors[k].target) (angle : s.motors[k].angleRef = true) :
    ∃ t, exec (.catchWindowEnd k) s = .next t ∧ MotorStep [.srvRegs, .motRegs, .motors] k (rampFields k (s.geti (F.MOT_SPEED_RPM k.val)))
      (Motor.ramped (s.geti (F.MOT_SPEED_RPM k.val))) s t := by
  have begins : exec (.catchWindowEnd k) s = answer _ s := if_pos live
  refine begins ▸ Post.answer (Post.ifTrue catching (Post.ifFalse (by rw [now]; decide) (Post.rdThen (Post.ifFalse (Nat.not_lt.mpr many) ?_))))
  simp only [if_neg (Int.not_lt.mpr forward)]
  exact Post.ifTrue ⟨turns, by omega⟩ (Post.ifTrue (by rw [angle]; rfl) (Post.beginRamp angle fun _ ramps => ramps))

/-- At the end of zero hold the electrical angle is the field's, 0, and the ramp begins from rest (R153). -/
theorem exec_holdZeroEnd_ramps (live : s.drivesLive = true) (holds : s.motorState k = mtHOLD_ZERO) (rests : s.motors[k].atRest = true)
    (aims : s.motors[k].target ≠ 0) (checked : s.get (F.MOT_WIRING_CHECKED k.val) = 1) :
    ∃ t, exec (.holdZeroEnd k) s = .next t ∧ SameBut [.srvRegs, .motRegs, .motors] s t ∧ t.reads ((F.MOT_ANGLE_ENC k.val, 0) :: rampFields k 0) ∧
      t.motors[k].ref = 0 ∧ t.motors[k].angleRef = true := by
  have begins : exec (.holdZeroEnd k) s = answer _ s := if_pos live
  have apart : ∀ k : Fin 8, ((F.MOT_ANGLE_ENC k.val :: driveFields k).map Fld.key).Nodup := by decide
  refine begins ▸ Post.answer (Post.ifTrue ⟨holds, rests⟩ (Post.fieldThen (k := k) (F.MOT_ANGLE_ENC_window _) fun t zero => ?_))
  refine Post.motorThen fun u referred => Post.ifFalse aims (Post.rdThen ?_)
  have field := zero.trans referred
  have wired : u.get (F.MOT_WIRING_CHECKED k.val) = 1 :=
    (field.keeps (F.MOT_WIRING_CHECKED_window _) (List.forall_mem_singleton.mpr (motKey_ne (by decide)))).trans checked
  have angle : u.motors[k].angleRef = true := by rw [field.motor]; rfl
  refine Post.ifFalse (by rw [wired]; decide) (Post.ifTrue angle (Post.beginRamp angle fun v ramps => ?_))
  have step := field.trans ramps
  exact ⟨step.same.mono (by decide), step.reads (apart k), by rw [step.motor]; rfl, by rw [step.motor]; rfl⟩

/-! ### Reverse braking, wiring steps and index pulses -/

theorem exec_reverseBrakeTimeout_fails (live : s.drivesLive = true) (brakes : s.motorState k = mtBRAKE) (reverse : s.motors[k].reverse = true) :
    ∃ t, exec (.reverseBrakeTimeout k) s = .next t ∧ SameBut (.motRegs :: .motors :: eventParts) s t ∧ t.motors[k].gates = false ∧
      t.reads [(F.MOT_STAT_REVERSE_NOT_STOPPED k.val, 1), (F.MOT_STAT_RESULT k.val, rFAILED)] ∧
      Raised (Ev.bay (k.val % 4) Ev.iREVERSE_NOT_STOPPED) 0 (k.val / 4) 0 s t := by
  have begins : exec (.reverseBrakeTimeout k) s = answer _ s := if_pos live
  have apart : ∀ k : Fin 8, ([F.MOT_STAT_REVERSE_NOT_STOPPED k.val, F.MOT_STAT_RESULT k.val].map Fld.key).Nodup := by decide
  refine begins ▸ Post.answer (Post.ifTrue ⟨brakes, reverse⟩ (Post.emitThen (Post.bind (Post.clock (Post.gatesOff_step fun t off _ now => ?_)))))
  have shows := (MotorStep.put (F.MOT_STAT_REVERSE_NOT_STOPPED_window k.val) k 1 t).trans (.put (F.MOT_STAT_RESULT_window k.val) k rFAILED _)
  have step := ((MotorStep.eff k ({ · with reverse := false }) s).trans off).trans shows
  refine Post.setThen (Post.setThen (Post.raiseMotor_after step.same now (by decide) fun v rest raised => ?_))
  exact ⟨(step.trans rest).same.mono (by decide), by rw [(step.trans rest).motor]; rfl, (shows.trans rest).reads (apart k), raised⟩

/-- A field step of the wiring check that shows a current in every phase adds its encoder counts (R157). -/
theorem exec_wiringStepEnd_counts {x : WiringStep} (live : s.drivesLive = true) (checks : s.motorState k = mtCHECK) (due : s.motors[k].checkWait = 0)
    (inner : s.motors[k].checkStep = 1 ∨ s.motors[k].checkStep = 2) (noIndex : x.index = none)
    (currents : 20 ≤ x.phaseU ∧ 20 ≤ x.phaseV ∧ 20 ≤ x.phaseW) :
    ∃ t, exec (.wiringStepEnd k x) s = .next t ∧ SameBut [.motors] s t ∧ t.motors[k].checkStep = s.motors[k].checkStep + 1 ∧
      t.motors[k].checkMove = s.motors[k].checkMove + x.counts := by
  have begins : exec (.wiringStepEnd k x) s = answer _ s := if_pos live
  refine begins ▸ Post.answer (Post.ifTrue ⟨checks, due⟩ ?_)
  simp only [noIndex]
  refine Post.ifFalse (by omega) (Post.emitThen (Post.ifFalse (by omega) (Post.pure ?_)))
  have step := MotorStep.eff k (fun m => { m with
    checkStep := s.motors[k].checkStep + 1, gates := true
    checkMove := if s.motors[k].checkStep = 0 then 0 else m.checkMove + x.counts
    checkAbs := if s.motors[k].checkStep = 0 then 0 else m.checkAbs + x.counts.natAbs }) s
  refine ⟨step.same, by rw [step.motor], ?_⟩
  rw [step.motor]
  exact if_neg (by omega)

/-- Once INDEX_OFS is known, an index pulse records nothing (R157). -/
theorem Post.recordIndex_known {angle : Nat} (known : s.motors[k].indexDue = false) (q : Q () s) : Act.Post (recordIndex k angle) s Q :=
  Post.rdThen (Post.ifFalse (by rw [known]; decide) (Post.pure q))

/-- The first index of a spindle sets its count to 0 and its angle to INDEX_OFS (R161). -/
theorem exec_encoderIndex_first (live : s.drivesLive = true) (calm : s.motorState k ≠ mtRESYNC) (first : s.motors[k].indexSeen = false)
    (spindle : k.val < 4) (valid : s.get (F.MOT_WIRING_OFS_VALID k.val) = 1) (known : s.motors[k].indexDue = false) :
    ∃ t, exec (.encoderIndex k) s = .next t ∧ SameBut [.motRegs, .motors] s t ∧
      t.reads [(F.MOT_POS_POS k.val, 0), (F.MOT_ANGLE_ENC k.val, s.get (F.MOT_WIRING_INDEX_OFS k.val))] ∧
      t.motors[k].angleRef = true ∧ t.motors[k].indexSeen = true ∧ t.motors[k].sinceIndex = 0 := by
  have begins : exec (.encoderIndex k) s = answer _ s := if_pos live
  have apart : ∀ k : Fin 8, ([F.MOT_POS_POS k.val, F.MOT_ANGLE_ENC k.val].map Fld.key).Nodup := by decide
  refine begins ▸ Post.answer (Post.ifTrue first (Post.motorThen fun t seen => Post.ifTrue spindle ?_))
  refine Post.fieldThen (k := k) (F.MOT_POS_POS_window _) fun u zero => Post.motorThen fun v near => ?_
  have turned := (seen.trans zero).trans near
  have kept {f : Fld} (own : f.window = .motRegs) (ne : f.key ≠ (F.MOT_POS_POS k.val).key) : v.get f = s.get f :=
    turned.keeps own (List.forall_mem_singleton.mpr ne)
  have recorded : v.motors[k].indexDue = false := by rw [turned.motor]; exact known
  refine Post.ite (fun _ => Post.bind (Post.recordIndex_known recorded ?_)) fun _ => ?_
  all_goals
    refine Post.rdThen (Post.ifTrue ((kept (F.MOT_WIRING_OFS_VALID_window _) (motKey_ne (by decide))).trans valid) ?_)
    rw [kept (F.MOT_WIRING_INDEX_OFS_window _) (motKey_ne (by decide))]
    refine Post.fieldThen (k := k) (F.MOT_ANGLE_ENC_window _) fun w angle => Post.motorThen fun x referred => Post.ifFalse ?_ (Post.pure ?_)
    · rwa [State.motorState, kept (F.MOT_STAT_STATE_window _) (motKey_ne (by decide))]
    · have step := (turned.trans angle).trans referred
      exact ⟨step.same.mono (by decide), step.reads (apart k), by rw [step.motor]; rfl, by rw [step.motor]; rfl, by rw [step.motor]; rfl⟩

theorem exec_indexMissing_shows (live : s.drivesLive = true) (unknown : s.get (F.MOT_STAT_NO_INDEX k.val) = 0)
    (far : 2 * countsPerRev k ≤ s.motors[k].sinceIndex) :
    ∃ t, exec (.indexMissing k) s = .next t ∧ SameBut (.motRegs :: eventParts) s t ∧ t.get (F.MOT_STAT_NO_INDEX k.val) = 1 ∧
      Raised (Ev.bay (k.val % 4) Ev.iMOT_INDEX) 0 (k.val / 4) 0 s t := by
  have begins : exec (.indexMissing k) s = answer _ s := if_pos live
  have shows := MotorStep.put (F.MOT_STAT_NO_INDEX_window k.val) k 1 s
  refine begins ▸ Post.answer (Post.ifTrue ⟨unknown, far⟩ (Post.setThen (Post.raiseMotor_after shows.same rfl (by decide) fun t rest raised => ?_)))
  exact ⟨(shows.trans rest).same, (shows.trans rest).reads (List.nodup_singleton _) |>.get (n := 1) (by simp), raised⟩

/-! ### Encoder faults -/

/-- An encoder fault: the motor brakes on its observer or has its gates off, and its bay is FAULTED (R162). -/
theorem Post.encoderFault (admits : s.admits bFAULTED = true)
    (q : ∀ t, t.bayState (bayOfMotor k).val = bFAULTED → t.reads [(F.MOT_STAT_ENC_FAULT k.val, 1), (F.MOT_STAT_RESULT k.val, rFAILED)] →
      SameBut motorFaultParts s t → Q () t) : Act.Post (Machine.encoderFault k) s Q := by
  have apart : ∀ k : Fin 8, ([F.MOT_STAT_ENC_FAULT k.val, F.MOT_STAT_RESULT k.val].map Fld.key).Nodup := by decide
  have beside : ∀ k : Fin 8, ∀ f ∈ [F.MOT_STAT_ENC_FAULT k.val, F.MOT_STAT_RESULT k.val], ∀ x ∈ driveFields k, f.key ≠ x.key := by decide
  unfold Machine.encoderFault
  refine Post.rdThen (Post.setThen (Post.bind (Post.setMotorResult fun t failed => ?_)))
  have shows := (MotorStep.put (F.MOT_STAT_ENC_FAULT_window k.val) k 1 s).trans failed
  have faults {u : State} {l : List (Fld × Nat)} {g : Motor → Motor} (drive : MotorStep [.motRegs, .motors] k l g t u)
      (driven : ∀ p ∈ l, p.1 ∈ driveFields k) : Act.Post (Machine.motorFaultEnd k Ev.iMOT_ENCODER_FAULT 0) u Q := by
    refine Post.motorFaultEnd ((State.admits_same (shows.trans drive).same (by decide) _).trans admits) fun v faulted rest => q v faulted ?_ ?_
    · intro p hp
      have own := shows.own p hp
      have mine : p.1 ∈ [F.MOT_STAT_ENC_FAULT k.val, F.MOT_STAT_RESULT k.val] := List.mem_map_of_mem (f := Prod.fst) hp
      refine ((drive.trans rest).keeps own fun r hr => beside k _ mine _ (driven r ?_)).trans (shows.reads (apart k) p hp)
      simpa using hr
    · exact ((shows.trans drive).trans rest).same.mono (by decide)
  refine Post.ite (fun _ => Post.emitThen (Post.bind (Post.setMotor fun u brakes => ?_))) fun _ => Post.bind (Post.gatesOff_step fun u off => ?_)
  · exact faults (((MotorStep.eff k _ t).trans brakes).mono (by decide)) (by simp [stateFields, driveFields])
  · exact faults off (offFields_drive t)

theorem exec_resyncTimeout_faults (live : s.drivesLive = true) (awaits : s.motorState k = mtRESYNC) :
    ∃ t, exec (.resyncTimeout k) s = .next t ∧ SameBut motorFaultParts s t ∧
      t.reads [(F.MOT_STAT_ENC_FAULT k.val, 1), (F.MOT_STAT_RESULT k.val, rFAILED)] ∧ t.bayState (bayOfMotor k).val = bFAULTED := by
  have begins : exec (.resyncTimeout k) s = answer _ s := if_pos live
  refine begins ▸ Post.answer (Post.ifTrue awaits (Post.encoderFault (State.drivesLive_admits live) fun _ faulted reads same => ?_))
  exact ⟨same, reads, faulted⟩

/-! ### Spindle sample events -/

/-- A sample event of a spindle that stands still and neither starts nor runs: its speed error is scaled by that of class S1 (R151). -/
theorem Post.encoderSample_idle {b : Fin 4} {speed : Int} (starts : s.motorState (spindleOf b) ≠ mtRAMP) (aimless : s.motors[spindleOf b].target = 0)
    (q : ∀ t, SameBut [.servos, .motors] s t → t.motors[spindleOf b].phaseValid = false →
      t.motors[spindleOf b].speedErr = quotient31 (16 * (speed - s.motors[spindleOf b].ref)) (nominalSpeed 0) → Q () t) :
    Act.Post (encoderSample b speed) s Q := by
  unfold encoderSample
  refine Post.rdThen ?_
  simp only [if_pos aimless]
  refine Post.rdThen (Post.emitThen (Post.emitThen (Post.rdThen (Post.ifFalse (fun ⟨ramps, _⟩ => starts ramps) (Post.pure ?_)))))
  have same {e : Eff} (h : e.isReset = false) (hp : e.part ∈ [Part.servos, .motors]) (u : State) : SameBut [.servos, .motors] u (e.apply u) :=
    (SameBut.refl _ u).eff h hp
  refine q _ ((same rfl (by simp [Eff.part]) _).trans (same rfl (by simp [Eff.part]) _)) ?_ ?_ <;> rw [apply_motor_self]

theorem exec_spindleTimedEvent_idle {b : Fin 4} {speed : Int} (live : s.drivesLive = true) (starts : s.motorState (spindleOf b) ≠ mtRAMP)
    (aimless : s.motors[spindleOf b].target = 0) :
    ∃ t, exec (.spindleTimedEvent b speed) s = .next t ∧ SameBut [.servos, .motors] s t ∧ t.motors[spindleOf b].phaseValid = false ∧
      t.motors[spindleOf b].speedErr = quotient31 (16 * (speed - s.motors[spindleOf b].ref)) (nominalSpeed 0) := by
  have begins : exec (.spindleTimedEvent b speed) s = answer _ s := if_pos live
  exact begins ▸ Post.answer (Post.encoderSample_idle starts aimless fun _ same phase error => ⟨same, phase, error⟩)

theorem exec_spindleEncoderEvent_idle {b : Fin 4} {speed : Int} (live : s.drivesLive = true) (slow : s.motorState (spindleOf b) ≠ mtAT_SPEED)
    (starts : s.motorState (spindleOf b) ≠ mtRAMP) (aimless : s.motors[spindleOf b].target = 0) :
    ∃ t, exec (.spindleEncoderEvent b speed) s = .next t ∧ SameBut [.servos, .motors] s t ∧ t.motors[spindleOf b].phaseValid = false ∧
      t.motors[spindleOf b].speedErr = quotient31 (16 * (speed - s.motors[spindleOf b].ref)) (nominalSpeed 0) := by
  have begins : exec (.spindleEncoderEvent b speed) s = answer _ s := if_pos live
  refine begins ▸ Post.answer (Post.rdThen (Post.ifTrue (.inl slow) (Post.bind ?_)))
  refine Post.encoderSample_idle starts aimless fun t same phase error => ?_
  refine Post.emit ⟨same.eff rfl (by simp [Eff.part]), ?_, ?_⟩ <;> rw [apply_motor_self] <;> assumption

end Sys2Proof.Machine
end

section
/-! The count of a motor through its PWM period: only the encoder moves it (R142, R161, R164). -/

namespace Sys2Proof.Machine

variable {i k : Fin 8} {b : Fin 4} {s : State}

/-! ### What leaves the count of a motor -/

/-- A program that leaves the encoder count of motor `k`. -/
abbrev KeepsPos (k : Fin 8) {α : Type} (m : Act α) : Prop := Keeps (State.get · (F.MOT_POS_POS k.val)) m

/-- Every part but the registers of the motors. -/
def allButMot : Nat := 2 ^ 61 - 1 - 2 ^ Part.motRegs.idx

theorem Keeps.besideMot {α : Type} {m : Act α} (h : Touches allButMot m) : KeepsPos k m :=
  .touches h fun _ _ same => same.get (F.MOT_POS_POS_window _) (by decide) rfl

theorem Keeps.motor {g : Motor → Motor} : KeepsPos k (Machine.emit (.motor i g)) := .emit fun _ => rfl

/-- Every other field of the motors' registers stands at another place (R164). -/
theorem Keeps.motField {a lo w r v : Nat} (apart : (64 * 0x2C) % 16384 ≠ (64 * a + lo % 64) % 16384) :
    KeepsPos k (Machine.setF ⟨F.motBase i.val + a, lo, w, r⟩ v) := .setF fun s => State.get_put_ne s v (motKey_ne apart)

theorem setMotor_keepsPos (st : Nat) : KeepsPos k (setMotor i st) := .bind (.motField (by decide)) fun _ => .motField (by decide)

theorem setMotorResult_keepsPos (r : Nat) : KeepsPos k (setMotorResult i r) := .motField (by decide)

theorem setRef_keepsPos (ref : Int) : KeepsPos k (setRef i ref) := .bind .motor fun _ => .motField (by decide)

theorem gatesOff_keepsPos : KeepsPos k (gatesOff i) :=
  .bind .rd fun _ => .bind .motor fun _ => .bind (setRef_keepsPos _) fun _ => .ite (setMotor_keepsPos _) (.pure ())

theorem abortMotor_keepsPos : KeepsPos k (abortMotor i) :=
  .bind .rd fun _ => .ite (.bind (setMotorResult_keepsPos _) fun _ => gatesOff_keepsPos) gatesOff_keepsPos

theorem stopDone_keepsPos : KeepsPos k (stopDone i) := .bind gatesOff_keepsPos fun _ => setMotorResult_keepsPos _

theorem stopMotor_keepsPos : KeepsPos k (stopMotor i) := by
  unfold stopMotor
  refine .bind .rd fun _ => .ite (.pure ()) (.ite .motor (.ite (.ite ?_ ?_) (.ite stopDone_keepsPos ?_)))
  · exact .bind (setMotor_keepsPos _) fun _ => setMotorResult_keepsPos _
  · exact .bind (.besideMot (abortCal_touches _ rfl)) fun _ => .bind .motor fun _ => setMotor_keepsPos _
  · exact .bind .motor fun _ => .ite (setMotor_keepsPos _) (.pure ())

theorem motorFaultEnd_keepsPos (n sub : Nat) : KeepsPos k (motorFaultEnd i n sub) :=
  .bind (.besideMot (raiseMotor_touches _ _ _ rfl)) fun _ => .besideMot (setBay_touches _ _ rfl)

theorem encoderFault_keepsPos : KeepsPos k (encoderFault i) := by
  unfold encoderFault
  refine .bind .rd fun _ => .bind (.motField (by decide)) fun _ => .bind (setMotorResult_keepsPos _) fun _ => .ite ?_ ?_
  · exact .bind .motor fun _ => .bind (setMotor_keepsPos _) fun _ => motorFaultEnd_keepsPos _ _
  · exact .bind gatesOff_keepsPos fun _ => motorFaultEnd_keepsPos _ _

theorem openPhase_keepsPos : KeepsPos k (latchMotor i (F.MOT_STAT_OPEN i.val) 1) :=
  .bind abortMotor_keepsPos fun _ => .bind (.motField (by decide)) fun _ => .bind (setMotor_keepsPos _) fun _ => motorFaultEnd_keepsPos _ _

theorem beginHoldZero_keepsPos : KeepsPos k (beginHoldZero i) := .bind .motor fun _ => setMotor_keepsPos _

theorem beginRamp_keepsPos (w : Int) : KeepsPos k (beginRamp i w) := by
  unfold beginRamp
  have drives : KeepsPos k (do setRef i w; setMotor i mtRAMP) := .bind (setRef_keepsPos _) fun _ => setMotor_keepsPos _
  refine .bind .rd fun _ => .bind (.forAll fun j => ?_) fun _ => .bind .motor fun _ =>
    .ite (.bind (.motField (by decide)) fun _ => .bind .motor fun _ => drives) drives
  exact .ite (.forAll fun c => .forAll fun x => .besideMot (.setF (sectionFld_window _ _ _ _) rfl)) (.pure ())

theorem parkBay_keepsPos (b : Fin 4) : KeepsPos k (parkBay b) := by
  unfold parkBay
  have sled (a : Fin 16) : KeepsPos k (parkSled a) := .besideMot (parkSled_touches a rfl)
  have retracts : Touches allButMot (forAll (opusOf b) fun j => do
      retract j
      emit (.optic j fun o => { o with lostAt := none })) :=
    .forAll fun j => (retract_touches j rfl).bind fun _ => Touches.emitM (M := 2 ^ Part.optics.idx) rfl rfl
  refine .bind .rd fun _ => .bind (.forAll fun _ => stopMotor_keepsPos) fun _ => .ite ?_ (.pure ())
  exact .bind (.besideMot (setBay_touches b _ rfl)) fun _ => .bind (.besideMot retracts) fun _ => .bind (sled _) fun _ =>
    .bind (sled _) fun _ => .besideMot (finishPark_touches b rfl)

theorem settleBay_keepsPos (b : Fin 4) : KeepsPos k (settleBay b) := by
  unfold settleBay
  have bay (st : Nat) : KeepsPos k (setBay b st) := .besideMot (setBay_touches b st rfl)
  have acquires : Touches allButMot (forAll (opusOf b) fun j => do
      let s ← rd
      let o := s.optics[j]
      if s.get (F.BAY_OPT_STAT_FOCUS_LOCKED j.val) = 0 ∧ o.phase = .idle ∧ o.lostAt.isNone ∧ s.laserAllowed j ∧
          s.get (F.BAY_OPT_CTL_ENABLE j.val) = 1 ∧ s.engineStopped (engineOf j) = false then
        beginAcquire j (s.get (F.BAY_OPT_CMD_LAYER j.val))) :=
    .forAll fun j => .bind .rd fun _ => .ite (beginAcquire_touches j _ rfl) (.pure ())
  have parks : KeepsPos k (emit (.bay b fun y => { y with parkLater := false })) := .emit fun _ => rfl
  refine .bind .rd fun _ => .ite (.ite (.bind parks fun _ => .bind (parkBay_keepsPos b) fun _ => ?_) (.ite (.bind (bay _) fun _ => ?_) ?_)) ?_
  all_goals
    refine .bind .rd fun _ => .whenThen (bay _) fun _ => .bind .rd fun _ => .ite (.ite (bay _) (.besideMot acquires)) (.pure ())

/-! ### The parts of a PWM period -/

theorem raiseMotor_keepsPos (n sub : Nat) : KeepsPos k (raiseMotor i n sub) := .besideMot (raiseMotor_touches _ _ _ rfl)

theorem pwmSamples_keepsPos (x : PwmSample) : KeepsPos k (pwmSamples i x) := by
  unfold pwmSamples
  refine .bind .rd fun _ => ?_
  dsimp only
  split
  · exact .bind (.motField (by decide)) fun _ => .bind .motor fun _ => .ite (raiseMotor_keepsPos _ _) (.pure ())
  · exact .bind (.motField (by decide)) fun _ => .bind .motor fun _ => .ite openPhase_keepsPos (.pure ())

theorem pwmObserver_keepsPos (x : PwmSample) : KeepsPos k (pwmObserver i x) := by
  unfold pwmObserver
  have shows (c : Int × Int) (low : Nat) : KeepsPos k (do
      emit (.motor i fun m => { m with iab := c })
      setF (F.MOT_STAT_LOW_SPEED i.val) low) := .bind .motor fun _ => .motField (by decide)
  refine .bind .rd fun _ => .ite ?_ (shows _ _)
  exact .bind (.motField (by decide)) fun _ => .bind (.motField (by decide)) fun _ => .bind .motor fun _ => shows _ _

theorem pwmRamp_keepsPos : KeepsPos k (pwmRamp i) := by
  unfold pwmRamp
  refine .bind .rd fun _ => .bind .motor fun _ => .bind (setRef_keepsPos _) fun _ => .ite ?_ (.pure ())
  exact .besideMot (Touches.setI (F.SRV_SLOT_SP_SP_window _ _) rfl)

theorem syncLost_keepsPos : KeepsPos k (syncLost i) := by
  unfold syncLost
  have resyncs : KeepsPos k (do
      emit (.motor i fun m => { m with zeroCurrent := true, resync := 0, disagree := 0 })
      setMotor i mtRESYNC) := .bind .motor fun _ => setMotor_keepsPos _
  refine .bind .rd fun _ => .bind (.besideMot (.forAll fun j => retract_touches j rfl)) fun _ => ?_
  refine .whenThen (.besideMot (setBay_touches _ _ rfl)) fun _ => .bind (.motField (by decide)) fun _ => ?_
  exact .bind (raiseMotor_keepsPos _ _) fun _ => .ite encoderFault_keepsPos resyncs

theorem pwmPlausible_keepsPos : KeepsPos k (pwmPlausible i) :=
  .bind .rd fun _ => .ite (.bind .motor fun _ => .ite syncLost_keepsPos (.pure ())) .motor

theorem directionShown_keepsPos (ok : Bool) : KeepsPos k (directionShown i ok) := by
  unfold directionShown
  refine .bind .rd fun _ => .ite .motor (.ite (.bind .motor fun _ => encoderFault_keepsPos) ?_)
  refine .bind stopMotor_keepsPos fun _ => .bind (.motField (by decide)) fun _ => .bind (.motField (by decide)) fun _ => ?_
  exact .bind .motor fun _ => raiseMotor_keepsPos _ _

theorem pwmConfirm_keepsPos : KeepsPos k (pwmConfirm i) := by
  unfold pwmConfirm
  refine .bind .rd fun _ => .ite (.ite (directionShown_keepsPos _) ?_) .motor
  split
  · exact .motor
  · exact .ite (directionShown_keepsPos _) (.pure ())

theorem moveDone_keepsPos : KeepsPos k (moveDone i) :=
  .bind .rd fun _ => .bind gatesOff_keepsPos fun _ => .bind (setMotorResult_keepsPos _) fun _ => .ite (directionShown_keepsPos _) (.pure ())

theorem stopAnswered_keepsPos : KeepsPos k (stopAnswered i) := .bind .rd fun _ => .ite (setMotorResult_keepsPos _) (.pure ())

theorem pwmCheck_keepsPos (x : PwmSample) : KeepsPos k (pwmCheck i x) := by
  unfold pwmCheck
  have measured (mean : Int) : KeepsPos k (shuntMeasured i mean) :=
    .bind (.motField (by decide)) fun _ => .besideMot (endCal_touches _ _ _ rfl)
  refine .bind .rd fun _ => .ite (.ite (.ite ?_ .motor) (.ite ?_ .motor)) (.pure ())
  · exact .bind (.motField (by decide)) fun _ => .bind (raiseMotor_keepsPos _ _) fun _ => .motor
  · exact .bind (measured _) fun _ => .motor

theorem pwmState_keepsPos : KeepsPos k (pwmState i) := by
  unfold pwmState
  have parks : KeepsPos k (finishPark (bayOfMotor i)) := .besideMot (finishPark_touches _ rfl)
  have ends {m : Act Unit} (h : KeepsPos k m) : KeepsPos k (m >>= fun _ => finishPark (bayOfMotor i)) := .bind h fun _ => parks
  refine .bind .rd fun _ => .ite
    (.bind pwmRamp_keepsPos fun _ => .bind .rd fun _ => .ite ?reversed (.ite ?stopped (.ite (ends moveDone_keepsPos) ?_)))
    (.ite (.bind pwmRamp_keepsPos fun _ => .ite (.bind gatesOff_keepsPos fun _ => ends stopAnswered_keepsPos) parks)
      (.ite (.bind (setMotor_keepsPos _) fun _ => ends stopAnswered_keepsPos) parks))
  case reversed => exact .ite (ends beginHoldZero_keepsPos) parks
  case stopped => exact .ite (ends stopDone_keepsPos) parks
  exact .ite (.ite (ends (setMotor_keepsPos _)) (.ite (ends (beginRamp_keepsPos _)) (ends beginHoldZero_keepsPos))) parks

/-! ### The encoder's count -/

/-- The count of a spindle after `c` more counts, modulo a revolution (R142, R164). -/
def State.spindleCount (s : State) (k : Fin 8) (c : Int) : Int := (s.geti (F.MOT_POS_POS k.val) + c) % 16384

/-- The counts of a period in the direction of the motor (R142). -/
def State.periodCounts (s : State) (k : Fin 8) (x : PwmSample) : Int :=
  if s.get (F.MOT_WIRING_ENC_INV k.val) = 1 then -x.counts else x.counts

theorem Post.pwmEncoder {x : PwmSample} {Q : Unit → State → Prop} (spindle : k.val < 4)
    (q : ∀ t, t.geti (F.MOT_POS_POS k.val) = s.spindleCount k (s.periodCounts k x) → Q () t) : Act.Post (Machine.pwmEncoder k x) s Q := by
  unfold Machine.pwmEncoder
  refine Post.rdThen (Post.setThen (Post.keeps (v := (State.get · (F.MOT_POS_POS k.val))) ?_ fun _ t kept => q t ?_))
  · refine .bind (.motField (by decide)) fun _ => .bind (.motField (by decide)) fun _ => .bind ?_ fun _ => .motor
    exact .bind (.bind .rd fun _ => .pure _) fun _ => .motField (by decide)
  · have turned : t.geti (F.MOT_POS_POS k.val) = _ := congrArg (toSigned 32) kept
    rw [turned]
    simp only [if_pos spindle, beq_iff_eq]
    have least : 0 ≤ s.spindleCount k (s.periodCounts k x) := Int.emod_nonneg _ (by decide)
    have most : s.spindleCount k (s.periodCounts k x) < 16384 := Int.emod_lt_of_pos _ (by decide)
    exact State.geti_put_self s (F.MOT_POS_POS k.val) (Nat.succ_pos 31) (by change -(2 ^ 31) ≤ _; omega) (by change _ < 2 ^ 31; omega)

theorem exec_pwmPeriod_counts {x : PwmSample} (live : s.drivesLive = true) (spindle : k.val < 4) (due : s.pwmDue k = true) :
    ∃ t, exec (.pwmPeriod k x) s = .next t ∧ t.geti (F.MOT_POS_POS k.val) = s.spindleCount k (s.periodCounts k x) := by
  have begins : exec (.pwmPeriod k x) s = answer _ s := if_pos (by simp [live, due])
  refine begins ▸ Post.answer (Post.bind (Post.pwmEncoder spindle fun t counted => ?_))
  have rest : KeepsPos k (do
      pwmObserver k x
      pwmPlausible k
      pwmConfirm k
      pwmCheck k x
      pwmState k
      if k.val < 4 then settleBay (bayOfMotor k)) :=
    .bind (pwmObserver_keepsPos x) fun _ => .bind pwmPlausible_keepsPos fun _ => .bind pwmConfirm_keepsPos fun _ =>
      .bind (pwmCheck_keepsPos x) fun _ => .bind pwmState_keepsPos fun _ => .ite (settleBay_keepsPos _) (.pure ())
  refine Post.keeps (v := (State.get · (F.MOT_POS_POS k.val))) (.whenThen (pwmSamples_keepsPos x) fun _ => rest) fun _ u kept => ?_
  rw [← counted]
  exact congrArg (toSigned _) kept

/-- Settles O19: one lemma for each end and event. -/
theorem motorStartsAndEndsFollowTheTable : Obligations.MotorStartsAndEndsFollowTheTable := by
  unfold Obligations.MotorStartsAndEndsFollowTheTable
  refine fun s k live => ⟨fun catching now few silent aimless => ?_, fun catching now many forward turns below angle => ?_,
    fun holds rests aims checked => ?_, fun brakes reverse => ?_,
    fun x checks due inner noIndex u v w => exec_wiringStepEnd_counts live checks due inner noIndex ⟨u, v, w⟩,
    fun calm first spindle valid known => ?_, fun unknown far => exec_indexMissing_shows live unknown far, fun awaits => ?_,
    fun x spindle due => exec_pwmPeriod_counts live spindle due,
    fun b v slow starts aimless => ⟨exec_spindleEncoderEvent_idle live slow starts aimless, exec_spindleTimedEvent_idle live starts aimless⟩⟩
  · obtain ⟨t, step, ends⟩ := exec_catchWindowEnd_ends live catching now few silent aimless
    exact ⟨t, step, ends.same, ends.ended (by rw [catching]; decide)⟩
  · obtain ⟨t, step, ramps⟩ := exec_catchWindowEnd_ramps live catching now many forward turns below angle
    refine ⟨t, step, ramps.same, (ramps.reads (rampFields_apart k _)).get (n := mtRAMP) (by simp [rampFields, stateFields]), ?_⟩
    rw [ramps.motor]
    exact ⟨rfl, rfl, rfl⟩
  · obtain ⟨t, step, same, reads, slow, angle⟩ := exec_holdZeroEnd_ramps live holds rests aims checked
    exact ⟨t, step, same, reads.get (n := mtRAMP) (by simp [rampFields, stateFields]), slow, angle, reads.get (n := 0) (by simp)⟩
  · obtain ⟨t, step, same, off, reads, raised⟩ := exec_reverseBrakeTimeout_fails live brakes reverse
    exact ⟨t, step, same, off, reads.get (n := 1) (by simp), reads.get (n := rFAILED) (by simp), raised⟩
  · obtain ⟨t, step, same, reads, angle⟩ := exec_encoderIndex_first live calm first spindle valid known
    exact ⟨t, step, same, reads.get (n := 0) (by simp), reads.get (f := F.MOT_ANGLE_ENC k.val) (by simp), angle⟩
  · obtain ⟨t, step, same, reads, faulted⟩ := exec_resyncTimeout_faults live awaits
    exact ⟨t, step, same.mono (by decide), reads.get (n := 1) (by simp), reads.get (n := rFAILED) (by simp), faulted⟩

end Sys2Proof.Machine
end

section
/-! What the operations of a step axis put among the STP registers, and what the axes then hold (R168 to R180, R184). -/

namespace Sys2Proof.Machine

variable {a i : Fin 16} {s t u : State} {l m : List (Fld × Nat)} {g h : Axis → Axis} {G H : Fin 16 → Axis → Axis} {Q : Unit → State → Prop}

/-! ### Fields and axes -/

theorem State.putAll_axes (l : List (Fld × Nat)) (s : State) : (s.putAll l).axes = s.axes := by
  induction l generalizing s with
  | nil => rfl
  | cons p l ih => exact ih (s.put p.1 p.2)

/-- What becomes of every axis when axis `a` changes by `g` and the others stay. -/
def onAxis (a : Fin 16) (g : Axis → Axis) (i : Fin 16) : Axis → Axis := if i = a then g else id

@[simp] theorem onAxis_self : onAxis a g a = g := if_pos rfl

theorem onAxis_ne (ne : i ≠ a) : onAxis a g i = id := if_neg ne

theorem onAxis_comp : (fun i => onAxis a h i ∘ onAxis a g i) = onAxis a (h ∘ g) := by
  funext i
  unfold onAxis
  split <;> rfl

theorem otherSled_ne (a : Fin 16) : otherSled a ≠ a := by revert a; decide

/-! ### A step of the axes -/

/-- From `s` to `t` the fields of `l` have been put among the STP registers in their order, every axis `i` has changed by `G i`, and nothing else has
changed. -/
structure AxesStep (l : List (Fld × Nat)) (G : Fin 16 → Axis → Axis) (s t : State) : Prop where
  own : ∀ p ∈ l, p.1.window = .stpRegs
  gets : ∀ f : Fld, f.window = .stpRegs → t.get f = (s.putAll l).get f
  axes : ∀ i : Fin 16, t.axes[i] = G i s.axes[i]
  same : SameBut [.stpRegs, .axes] s t

namespace AxesStep

theorem puts (own : ∀ p ∈ l, p.1.window = .stpRegs) (a : Fin 16) (s : State) : AxesStep l (onAxis a id) s (s.putAll l) :=
  ⟨own, fun _ _ => rfl, fun i => by rw [State.putAll_axes, onAxis, ite_self]; rfl, State.putAll_same (fun p hp => by simp [own p hp]) s⟩

theorem put {f : Fld} (own : f.window = .stpRegs) (a : Fin 16) (v : Nat) (s : State) : AxesStep [(f, v)] (onAxis a id) s (s.put f v) :=
  puts (l := [(f, v)]) (by simpa using own) a s

/-- An axis that `h` leaves as it is. -/
theorem refl (still : h s.axes[a] = s.axes[a]) : AxesStep [] (onAxis a h) s s where
  own := by simp
  gets _ _ := rfl
  axes i := by
    by_cases e : i = a
    · rw [e, onAxis_self, still]
    · rw [onAxis_ne e]; rfl
  same := .refl _ s

/-- An effect on an axis, told by any function that does the same to it. -/
theorem effAs (as : h s.axes[a] = g s.axes[a]) : AxesStep [] (onAxis a h) s ((Eff.axis a g).apply s) where
  own := by simp
  gets _ _ := rfl
  axes i := by
    by_cases e : i = a
    · rw [e, onAxis_self, as, apply_axis_self]
    · rw [onAxis_ne e, apply_axis_ne g s (Ne.symm e)]; rfl
  same := (SameBut.refl _ s).eff rfl (by simp [Eff.part])

theorem eff (a : Fin 16) (g : Axis → Axis) (s : State) : AxesStep [] (onAxis a g) s ((Eff.axis a g).apply s) := effAs rfl

theorem trans (x : AxesStep l G s t) (y : AxesStep m H t u) : AxesStep (l ++ m) (fun i => H i ∘ G i) s u where
  own p hp := (List.mem_append.mp hp).elim (x.own p) (y.own p)
  gets f hf := by rw [y.gets f hf, State.putAll_append, State.putAll_get_congr (x.gets f hf)]
  axes i := by rw [y.axes, x.axes]; rfl
  same := x.same.trans y.same

/-- Two steps of the same axis. -/
theorem andThen (x : AxesStep l (onAxis a g) s t) (y : AxesStep m (onAxis a h) t u) : AxesStep (l ++ m) (onAxis a (h ∘ g)) s u :=
  onAxis_comp ▸ x.trans y

/-- What was put last is read in its fields. -/
theorem shows (x : AxesStep (l ++ m) G s t) (apart : (m.map fun p => p.1.key).Nodup) : t.reads m := fun p hp => by
  rw [x.gets p.1 (x.own p (List.mem_append_right l hp)), State.putAll_append]
  exact State.putAll_get apart hp _

/-- A field reads as what was put into it unless another value follows. -/
theorem last {f : Fld} {v : Nat} (x : AxesStep (l ++ (f, v) :: m) G s t) (apart : f.key ∉ m.map fun p => p.1.key) : t.get f = v % 2 ^ f.w := by
  rw [x.gets f (x.own (f, v) (by simp)), State.putAll_append]
  refine (State.putAll_get_other (l := m) (fun _ hp e => apart (e ▸ List.mem_map_of_mem (f := fun p => p.1.key) hp)) _).trans ?_
  exact State.get_put_self _ _ _

theorem keeps (x : AxesStep l G s t) {f : Fld} (own : f.window = .stpRegs) (apart : f.key ∉ l.map fun p => p.1.key) : t.get f = s.get f :=
  (x.gets f own).trans (State.putAll_get_other (fun _ hp e => apart (e ▸ List.mem_map_of_mem (f := fun p => p.1.key) hp)) s)

theorem keepsState (x : AxesStep l G s t) (i : Fin 16) (apart : (F.STP_STAT_STATE i.val).key ∉ l.map fun p => p.1.key) : t.axisState i = s.axisState i :=
  x.keeps (F.STP_STAT_STATE_window _) apart

theorem keepsPos (x : AxesStep l G s t) (i : Fin 16) (apart : (F.STP_POS_POS i.val).key ∉ l.map fun p => p.1.key) : t.axisPos i = s.axisPos i :=
  congrArg (toSigned _) (x.keeps (F.STP_POS_POS_window _) apart)

/-- What the axis of a step holds after it. -/
theorem axis (x : AxesStep l (onAxis a g) s t) : t.axes[a] = g s.axes[a] := by rw [x.axes, onAxis_self]

end AxesStep

theorem Post.axisThen {f : Unit → Act Unit} (q : ∀ t, AxesStep [] (onAxis a g) s t → Act.Post (f ()) t Q) :
    Act.Post (Machine.emit (.axis a g) >>= f) s Q := Post.emitThen (q _ (.eff a g s))

theorem Post.axisFieldThen (a : Fin 16) {x : Fld} {v : Nat} {f : Unit → Act Unit} (own : x.window = .stpRegs)
    (q : ∀ t, AxesStep [(x, v)] (onAxis a id) s t → Act.Post (f ()) t Q) : Act.Post (Machine.setF x v >>= f) s Q :=
  Post.setThen (q _ (.put own a v s))

/-- Fields of STP registers at different places differ, whichever axes they belong to (R184). -/
theorem stpKey_ne {i j a b x y w v q r : Nat} (apart : (64 * a + x % 64) % 16384 ≠ (64 * b + y % 64) % 16384) :
    (⟨F.stpBase i + a, x, w, q⟩ : Fld).key ≠ (⟨F.stpBase j + b, y, v, r⟩ : Fld).key := by
  simp only [Fld.key, F.stpBase]
  omega

/-! ### What an axis's operations put -/

/-- The fields that show the queue of an axis, of length `n`, and the distance left, whose code is `d` (R173, R176). -/
def queueFields (a : Fin 16) (n d : Nat) : List (Fld × Nat) := [(F.STP_STAT_QUEUE a.val, n), (F.STP_REMAIN_DIST a.val, d)]

theorem Post.showQueue_step (q : ∀ t d, AxesStep (queueFields a s.axes[a].queue.length d) (onAxis a id) s t → Q () t) :
    Act.Post (showQueue a) s Q := by
  unfold showQueue
  have shown (d : Nat) := AxesStep.puts (l := queueFields a s.axes[a].queue.length d)
    (by simp [queueFields]) a s
  refine Post.rdThen (Post.setThen ?_)
  split
  all_goals exact Post.setF (q _ _ (shown _))

/-- A direction that DIR takes, and the cycles that its first step waits after a change (R169, R174). -/
def Axis.directed (course : Int) (wait : Nat) (x : Axis) : Axis :=
  if course ≠ 0 ∧ decide (course < 0) ≠ x.back then { x with back := decide (course < 0), setup := wait } else x

theorem Axis.directed_queue (course : Int) (wait : Nat) (x : Axis) : (x.directed course wait).queue = x.queue := by
  unfold Axis.directed
  split <;> rfl

theorem Axis.directed_start (course : Int) (wait : Nat) (x : Axis) : (x.directed course wait).start = x.start := by
  unfold Axis.directed
  split <;> rfl

theorem Post.setDirection_step {course : Int}
    (q : ∀ t, AxesStep [] (onAxis a (Axis.directed course (s.get (F.STP_CTL_DIR_SETUP a.val)))) s t → Q () t) :
    Act.Post (setDirection a course) s Q := by
  unfold setDirection
  exact Post.rdThen (Post.ite (fun turns => Post.emit (q _ (.effAs (if_pos turns)))) fun stays => Post.pure (q _ (.refl (if_neg stays))))

/-- What a profile that begins at `pos` makes of an axis: it keeps its queue. -/
def Axis.BeginsAt (pos : Int) (g : Axis → Axis) : Prop := ∀ x, (g x).queue = x.queue ∧ (g x).start = pos

/-- The fields that a move puts as it begins. -/
def runFields (a : Fin 16) (n d : Nat) : List (Fld × Nat) := (F.STP_STAT_STATE a.val, axRUN) :: queueFields a n d

theorem Post.startMove_step {vs : Nat} {x : Move} {xs : List Move} (queue : s.axes[a].queue = x :: xs)
    (q : ∀ t d g, Axis.BeginsAt (s.axisPos a) g → AxesStep (runFields a s.axes[a].queue.length d) (onAxis a g) s t → Q () t) :
    Act.Post (startMove a vs) s Q := by
  unfold startMove
  refine Post.rdThen ?_
  simp only [queue]
  refine Post.axisThen fun t plans => Post.bind (Post.setDirection_step fun u turns => Post.axisFieldThen a (F.STP_STAT_STATE_window _) fun v runs => ?_)
  refine Post.showQueue_step fun w d shows => ?_
  have step := (plans.andThen turns).andThen runs
  have kept : v.axes[a].queue.length = s.axes[a].queue.length := by
    rw [step.axis]
    exact congrArg List.length (Axis.directed_queue ..)
  rw [kept] at shows
  refine q w d _ ?_ (step.andThen shows)
  exact fun _ => ⟨Axis.directed_queue .., Axis.directed_start ..⟩

theorem Post.beginHome_step
    (q : ∀ t g, Axis.BeginsAt (s.axisPos a) g → AxesStep [(F.STP_STAT_STATE a.val, axHOMING)] (onAxis a g) s t → Q () t) :
    Act.Post (beginHome a) s Q := by
  unfold beginHome
  refine Post.rdThen (Post.axisFieldThen a (F.STP_STAT_STATE_window _) fun t homes => Post.bind (Post.setDirection_step fun u turns => ?_))
  refine Post.emit (q _ _ ?_ ((homes.andThen turns).andThen (.eff a _ u)))
  exact fun _ => ⟨Axis.directed_queue .., rfl⟩

/-- An axis whose steps up to its rest at `rest` have been issued from `pos` on. -/
def Axis.restedAt (rest pos : Int) (x : Axis) : Axis :=
  { x with start := rest, elapsed := 0, frac := 0, setup := 0, back := if rest = pos then x.back else decide (rest < pos) }

/-- The fields that steps up to `rest` put: their count, whose value is `n`, and the position. -/
def stepFields (a : Fin 16) (rest : Int) (n : Nat) : List (Fld × Nat) :=
  [(F.STP_STEP_CNT_CNT a.val, n), (F.STP_POS_POS a.val, ofSigned 32 rest)]

theorem Post.stepTo_step {rest : Int} (q : ∀ t n, AxesStep (stepFields a rest n) (onAxis a (Axis.restedAt rest (s.axisPos a))) s t → Q () t) :
    Act.Post (stepTo a rest) s Q := by
  unfold stepTo
  refine Post.rdThen (Post.bind (Post.bind (Post.getF (Post.setF ?_))))
  have counts := AxesStep.put (F.STP_STEP_CNT_CNT_window a.val) a (s.get (F.STP_STEP_CNT_CNT a.val) + (rest - s.axisPos a).natAbs) s
  refine Post.axisFieldThen a (F.STP_POS_POS_window _) fun t stands =>
    Post.emit (q _ (s.get (F.STP_STEP_CNT_CNT a.val) + (rest - s.axisPos a).natAbs) ?_)
  exact (counts.andThen stands).andThen (.eff a (Axis.restedAt rest (s.axisPos a)) t)

/-- An axis without moves (R176). -/
def Axis.cleared (x : Axis) : Axis := { x with queue := [], profile := none, seek := none, repeated := none, homing := false }

/-- The fields of an axis whose moves are dropped. -/
def clearFields (a : Fin 16) (st result d : Nat) : List (Fld × Nat) :=
  (F.STP_STAT_STATE a.val, st) :: (F.STP_STAT_RESULT a.val, result) :: queueFields a 0 d

/-- The keys of those fields. -/
def clearKeys (a : Fin 16) : List Nat :=
  [F.STP_STAT_STATE a.val, F.STP_STAT_RESULT a.val, F.STP_STAT_QUEUE a.val, F.STP_REMAIN_DIST a.val].map Fld.key

theorem Post.clearAxis_step {st result : Nat} (q : ∀ t d, AxesStep (clearFields a st result d) (onAxis a Axis.cleared) s t → Q () t) :
    Act.Post (clearAxis a st result) s Q := by
  unfold clearAxis
  refine Post.axisThen fun t drops => Post.axisFieldThen a (F.STP_STAT_STATE_window _) fun u state => ?_
  refine Post.axisFieldThen a (F.STP_STAT_RESULT_window _) fun v shown => Post.showQueue_step fun w d queue => q w d ?_
  have step := (drops.andThen state).andThen shown
  rw [step.axis] at queue
  exact step.andThen queue

theorem Post.haltAxis_step {result : Nat}
    (q : ∀ t n d, AxesStep (stepFields a (s.stopPoint a) n ++ clearFields a axIDLE result d)
      (onAxis a (Axis.cleared ∘ Axis.restedAt (s.stopPoint a) (s.axisPos a))) s t → Q () t) : Act.Post (haltAxis a result) s Q :=
  Post.rdThen (Post.bind (Post.stepTo_step fun _ n rests => Post.clearAxis_step fun u d drops => q u n d (rests.andThen drops)))

/-! ### Refusals -/

/-- An event of an axis is raised after effects that leave what events are made of as from the start. -/
theorem Post.raiseAxis_after {ps : List Part} {n sub : Nat} (same : SameBut ps s t) (now : t.now = s.now)
    (apart : ∀ p ∈ [Part.evtRegs, .evq, .nv, .life], p ∉ ps)
    (q : ∀ u, SameBut eventParts t u → Raised (Ev.bay (a.val / 4) n) sub (a.val % 4) 0 s u → Q () u) : Act.Post (raiseAxis a n sub) t Q :=
  Post.raise fun u raised signals => q u (.ofMask signals.same (by decide)) (raised.after same now apart)

/-- A command that an axis refuses shows why, with STEP_CMD_REJECT raised (R184). -/
structure AxisRefuses (a : Fin 16) (r : Nat) (s t : State) : Prop where
  frame : SameBut (.stpRegs :: eventParts) s t
  result : t.get (F.STP_STAT_RESULT a.val) = r % 8
  state : t.axisState a = s.axisState a
  raised : Raised (Ev.bay (a.val / 4) Ev.iCMD_REJECT) 2 (a.val % 4) 0 s t

theorem Post.stepRefuse_after {r : Nat} (same : SameBut [.stpRegs] s t) (now : t.now = s.now) (state : t.axisState a = s.axisState a)
    (q : ∀ u, AxisRefuses a r s u → Q () u) : Act.Post (stepRefuse a r) t Q := by
  have shown : SameBut [.stpRegs] s (t.put (F.STP_STAT_RESULT a.val) r) := same.put (by simp)
  refine Post.setThen (Post.raiseAxis_after shown now (by decide) fun u rest raised => q u ?_)
  have kept (f : Fld) (own : f.window = .stpRegs) : u.get f = (t.put (F.STP_STAT_RESULT a.val) r).get f := rest .stpRegs (by decide) f own
  refine ⟨(shown.mono (by simp)).trans (rest.mono (by decide)), ?_, ?_, raised⟩
  · exact (kept _ (F.STP_STAT_RESULT_window _)).trans (State.get_put_self _ _ _)
  · exact (kept _ (F.STP_STAT_STATE_window _)).trans ((State.get_put_ne _ _ (stpKey_ne (by decide))).trans state)

end Sys2Proof.Machine
end

section
/-! The commands of the step axes (R168 to R180, R184): O20. -/

namespace Sys2Proof.Machine

variable {a : Fin 16} {b : Fin 4} {s t : State} {x y : Move} {xs : List Move} {p q : Int} {blend : Bool} {Q : Unit → State → Prop}

theorem State.pairHead_cons (queue : s.axes[a].queue = x :: xs) : s.pairHead a = x.pair := by
  unfold State.pairHead
  rw [queue]

theorem State.drivesTake_live (drives : s.drivesTake = true) : s.drivesLive = true := by
  unfold State.drivesLive
  rw [drives]
  rfl

theorem State.inPair_single (single : s.pairHead a = false) : s.inPair a = false := by
  simp [State.inPair, single]

/-- At rest no pair move is under way. -/
theorem State.inPair_idle (idle : s.axisState a = axIDLE) : s.inPair a = false := by
  simp [State.inPair, idle]

/-! ### MOVE -/

/-- The fields that MOVE puts before it is judged (R173, R184). -/
def targetFields (a : Fin 16) (p : Int) (blend : Bool) : List (Fld × Nat) :=
  [(F.STP_TARGET_POS a.val, ofSigned 32 p), (F.STP_CMD_BLEND a.val, blend.toNat)]

theorem targetFields_step (a : Fin 16) (p : Int) (blend : Bool) (s : State) :
    AxesStep (targetFields a p blend) (onAxis a id) s (s.putAll (targetFields a p blend)) := .puts (by simp [targetFields]) a s

/-- A move that MOVE refuses. -/
theorem Post.moveRefused {r : Nat} (shows : ∀ t, AxisRefuses a r s t → Q () t) :
    Act.Post (stepRefuse a r) (s.putAll (targetFields a p blend)) Q := by
  have apart : ∀ a : Fin 16, (F.STP_STAT_STATE a.val).key ∉ [F.STP_TARGET_POS a.val, F.STP_CMD_BLEND a.val].map Fld.key := by decide
  exact Post.stepRefuse_after (State.putAll_same (by simp [targetFields]) s) rfl ((targetFields_step a p blend s).keepsState a (apart a)) shows

theorem exec_stpMove_invalid (drives : s.drivesTake = true) (out : s.axisShut a = true ∨ s.axisReach a p = false) :
    ∃ t, exec (.stpMove a p blend) s = .next t ∧ AxisRefuses a rINVALID s t := by
  have begins : exec (.stpMove a p blend) s = answer _ s := if_pos drives
  exact begins ▸ Post.answer (Post.rdThen (Post.setThen (Post.setThen (Post.ifTrue out (Post.moveRefused fun _ refuses => refuses)))))

theorem exec_stpMove_busy (drives : s.drivesTake = true) (unshut : s.axisShut a = false) (reach : s.axisReach a p = true)
    (full : 8 ≤ s.axes[a].queue.length) : ∃ t, exec (.stpMove a p blend) s = .next t ∧ AxisRefuses a rBUSY s t := by
  have begins : exec (.stpMove a p blend) s = answer _ s := if_pos drives
  refine begins ▸ Post.answer (Post.rdThen (Post.setThen (Post.setThen (Post.ifFalse (by simp [unshut, reach]) ?_))))
  exact Post.ifTrue full (Post.moveRefused fun _ refuses => refuses)

/-- An axis whose seek is the one given (R177). -/
def Axis.seeking (k : Option Nat) (x : Axis) : Axis := { x with seek := k }

theorem Post.seekTo_step (next : ∀ t k, AxesStep [] (onAxis a (Axis.seeking k)) s t → Q () t) : Act.Post (seekTo a p) s Q := by
  unfold seekTo
  exact Post.rdThen (Post.ite (fun _ => Post.emit (next _ _ (.eff a _ s))) fun _ => Post.pure (next _ s.axes[a].seek (.refl rfl)))

/-- An axis with one more move in its queue (R173). -/
def Axis.queued (x : Move) (y : Axis) : Axis := { y with queue := y.queue ++ [x] }

/-- A move that joins the empty queue of an idle axis begins (R173). -/
theorem Post.appendMove_starts (idle : s.axisState a = axIDLE) (empty : s.axes[a].queue = []) (single : x.pair = false)
    (next : ∀ t d g, Axis.BeginsAt (s.axisPos a) g → AxesStep (runFields a 1 d) (onAxis a (g ∘ Axis.queued x)) s t → Q () t) :
    Act.Post (appendMove a x) s Q := by
  unfold appendMove
  refine Post.axisThen fun t joins => Post.rdThen ?_
  have queue : t.axes[a].queue = [x] := by rw [joins.axis, empty]; rfl
  have state : t.axisState a = s.axisState a := joins.keepsState a List.not_mem_nil
  refine Post.ifTrue ⟨.inl (state.trans idle), (State.pairHead_cons queue).trans single⟩ (Post.startMove_step queue fun u d g begins runs => ?_)
  rw [queue] at runs
  exact next u d g (joins.keepsPos a List.not_mem_nil ▸ begins) (joins.andThen runs)

theorem exec_stpMove_starts (drives : s.drivesTake = true) (unshut : s.axisShut a = false) (reach : s.axisReach a p = true)
    (idle : s.axisState a = axIDLE) (empty : s.axes[a].queue = []) (homed : a.val % 4 ≠ 3 ∨ s.get (F.STP_STAT_HOMED a.val) = 1) :
    ∃ t, exec (.stpMove a p blend) s = .next t ∧ SameBut [.stpRegs, .axes] s t ∧
      t.reads [(F.STP_STAT_RESULT a.val, 0), (F.STP_STAT_STATE a.val, axRUN), (F.STP_STAT_QUEUE a.val, 1)] ∧
      t.axes[a].queue = [{ target := p, blend := blend }] := by
  have begins : exec (.stpMove a p blend) s = answer _ s := if_pos drives
  have apart : ∀ a : Fin 16,
      ([F.STP_STAT_RESULT a.val, F.STP_STAT_STATE a.val, F.STP_STAT_QUEUE a.val, F.STP_REMAIN_DIST a.val].map Fld.key).Nodup ∧
      (F.STP_STAT_STATE a.val).key ∉ [F.STP_TARGET_POS a.val, F.STP_CMD_BLEND a.val, F.STP_STAT_RESULT a.val].map Fld.key := by decide
  have home : ¬(a.val % 4 = 3 ∧ s.get (F.STP_STAT_HOMED a.val) = 0 ∧ s.axisState a = axIDLE) := by omega
  refine begins ▸ Post.answer (Post.rdThen (Post.setThen (Post.setThen (Post.ifFalse (by simp [unshut, reach]) ?_))))
  refine Post.ifFalse (by rw [empty]; decide) ?_
  refine Post.axisFieldThen a (F.STP_STAT_RESULT_window _) fun t shown => Post.bind (Post.seekTo_step fun u k seeks => ?_)
  have before := (targetFields_step a p blend s).andThen (shown.andThen seeks)
  refine Post.ifFalse home (Post.appendMove_starts ((before.keepsState a (apart a).2).trans idle) ?_ rfl fun v d g starts runs => ⟨?_, ?_, ?_⟩)
  · rw [before.axis]
    exact empty
  · exact (before.andThen runs).same
  · exact (((shown.andThen seeks).andThen runs).shows (l := []) (apart a).1).subset (by simp [runFields, queueFields])
  · rw [(before.andThen runs).axis]
    refine (starts _).1.trans ?_
    exact congrArg (· ++ [_]) empty

/-! ### PAUSE and RESUME -/

/-- An axis that has paused: whether in a HOME, and whether at the end of its move (R176). -/
def Axis.paused (homing ended : Bool) (x : Axis) : Axis :=
  { x with profile := none, homing := homing, queue := if ended then x.queue.tail else x.queue }

theorem Post.pauseOne_step {ended : Bool} (next : ∀ t n d e,
      AxesStep ([(F.STP_STAT_STATE a.val, axPAUSED), (F.STP_STAT_RESULT a.val, rDONE)] ++ stepFields a (s.stopPoint a) n ++
          queueFields a (Axis.paused (s.axisState a == axHOMING) ended s.axes[a]).queue.length d ++ [(F.STP_REMAIN_DIST a.val, e)])
        (onAxis a (Axis.restedAt (s.stopPoint a) (s.axisPos a) ∘ Axis.paused (s.axisState a == axHOMING) ended)) s t → Q () t) :
    Act.Post (pauseOne a ended) s Q := by
  unfold pauseOne
  have apart : ∀ a : Fin 16, (F.STP_POS_POS a.val).key ∉ [F.STP_STAT_STATE a.val, F.STP_STAT_RESULT a.val].map Fld.key := by decide
  refine Post.rdThen (Post.axisFieldThen a (F.STP_STAT_STATE_window _) fun t state => ?_)
  refine Post.axisFieldThen a (F.STP_STAT_RESULT_window _) fun u shown => Post.axisThen fun v pauses => ?_
  have before := (state.andThen shown).andThen pauses
  refine Post.bind (Post.stepTo_step fun w n rests => Post.bind (Post.showQueue_step fun w' d queue => Post.setF ?_))
  rw [before.keepsPos a (apart a)] at rests
  have step := before.andThen rests
  rw [step.axis] at queue
  exact next _ n d _ ((step.andThen queue).andThen (.put (F.STP_REMAIN_DIST_window _) a _ w'))

theorem State.axisCourse_run (runs : s.axisState a = axRUN) (queue : s.axes[a].queue = x :: xs) :
    s.axisCourse a = x.target - s.axes[a].start := by
  unfold State.axisCourse
  rw [if_neg (by rw [runs]; decide), queue]

/-- A move that would not end where its axis comes to rest has something left (R176). -/
theorem State.leftOver_short (runs : s.axisState a = axRUN) (queue : s.axes[a].queue = x :: xs) (short : x.target ≠ s.stopPoint a) :
    s.leftOver a ≠ 0 := by
  unfold State.leftOver
  rw [State.axisCourse_run runs queue]
  omega

theorem exec_stpPause_pauses (live : s.drivesLive = true) (unshut : s.axisShut a = false) (runs : s.axisState a = axRUN)
    (queue : s.axes[a].queue = x :: xs) (single : x.pair = false) (short : x.target ≠ s.stopPoint a) :
    ∃ t, exec (.stpPause a) s = .next t ∧ SameBut [.stpRegs, .axes] s t ∧
      t.axisState a = axPAUSED ∧ t.get (F.STP_STAT_RESULT a.val) = rDONE ∧ t.axes[a].queue = x :: xs ∧ t.axes[a].profile = none ∧
      t.axes[a].start = s.stopPoint a := by
  have begins : exec (.stpPause a) s = answer _ s := if_pos live
  have apart : ∀ a : Fin 16,
      (F.STP_STAT_STATE a.val).key ∉ [F.STP_STAT_RESULT a.val, F.STP_STEP_CNT_CNT a.val, F.STP_POS_POS a.val, F.STP_STAT_QUEUE a.val,
        F.STP_REMAIN_DIST a.val, F.STP_REMAIN_DIST a.val].map Fld.key ∧
      (F.STP_STAT_RESULT a.val).key ∉ [F.STP_STEP_CNT_CNT a.val, F.STP_POS_POS a.val, F.STP_STAT_QUEUE a.val, F.STP_REMAIN_DIST a.val,
        F.STP_REMAIN_DIST a.val].map Fld.key := by decide
  have pair : s.inPair a = false := State.inPair_single ((State.pairHead_cons queue).trans single)
  have takes : ¬(s.axisShut a = true ∨ s.axisState a = axIDLE ∨ s.axisState a = axPAUSED) := by simp [unshut, runs]
  have lasts : (s.axisState a == axRUN && s.leftOver a == 0 && (!s.inPair a || s.leftOver (otherSled a) == 0)) = false := by
    simp [State.leftOver_short runs queue short]
  refine begins ▸ Post.answer (Post.rdThen (Post.ifFalse takes ?_))
  simp only [lasts]
  refine Post.bind (Post.pauseOne_step fun t n d e pauses => Post.ifFalse (by rw [pair]; decide) (Post.pure ⟨pauses.same, ?_, ?_, ?_⟩))
  · exact pauses.last (l := []) (apart a).1
  · exact pauses.last (l := [_]) (apart a).2
  · rw [pauses.axis]
    exact ⟨queue, rfl, rfl⟩

/-- A paused move goes on from rest (R176). -/
theorem exec_stpResume_runs (drives : s.drivesTake = true) (unshut : s.axisShut a = false) (paused : s.axisState a = axPAUSED)
    (queue : s.axes[a].queue = x :: xs) (single : x.pair = false) (moves : s.axes[a].homing = false) :
    ∃ t, exec (.stpResume a) s = .next t ∧ SameBut [.stpRegs, .axes] s t ∧ t.axisState a = axRUN ∧ t.get (F.STP_STAT_RESULT a.val) = 0 ∧
      t.axes[a].start = s.axisPos a := by
  have begins : exec (.stpResume a) s = answer _ s := if_pos drives
  have apart : ∀ a : Fin 16, (F.STP_STAT_STATE a.val).key ∉ [F.STP_STAT_QUEUE a.val, F.STP_REMAIN_DIST a.val].map Fld.key ∧
      (F.STP_STAT_RESULT a.val).key ∉
        [F.STP_STAT_STATE a.val, F.STP_STAT_STATE a.val, F.STP_STAT_QUEUE a.val, F.STP_REMAIN_DIST a.val].map Fld.key ∧
      (F.STP_POS_POS a.val).key ∉ [F.STP_STAT_RESULT a.val, F.STP_STAT_STATE a.val].map Fld.key := by decide
  obtain ⟨stateApart, resultApart, posApart⟩ := apart a
  refine begins ▸ Post.answer (Post.rdThen (Post.ifFalse (by simp [unshut, paused]) ?_))
  refine Post.axisFieldThen a (F.STP_STAT_RESULT_window _) fun t shown => Post.ifFalse (by rw [moves]; decide) ?_
  refine Post.axisFieldThen a (F.STP_STAT_STATE_window _) fun u idle => Post.ifFalse ?_ ?_
  · simp [State.pairHead_cons queue, single]
  have before := shown.andThen idle
  have kept : u.axes[a].queue = x :: xs := by
    rw [before.axis]
    exact queue
  unfold nextMove
  refine Post.rdThen ?_
  rw [kept]
  refine Post.ifFalse (by rw [single]; decide) (Post.startMove_step kept fun v d g starts runs => ⟨(before.andThen runs).same, ?_, ?_, ?_⟩)
  · exact runs.last (l := []) stateApart
  · exact (before.andThen runs).last (l := []) resultApart
  · rw [runs.axis, (starts _).2, before.keepsPos a posApart]

/-- A paused HOME goes on (R176, R180). -/
theorem exec_stpResume_homes (drives : s.drivesTake = true) (unshut : s.axisShut a = false) (paused : s.axisState a = axPAUSED)
    (homes : s.axes[a].homing = true) :
    ∃ t, exec (.stpResume a) s = .next t ∧ SameBut [.stpRegs, .axes] s t ∧
      t.reads [(F.STP_STAT_RESULT a.val, 0), (F.STP_STAT_STATE a.val, axHOMING)] ∧ t.axes[a].queue = s.axes[a].queue := by
  have begins : exec (.stpResume a) s = answer _ s := if_pos drives
  have apart : ∀ a : Fin 16, ([F.STP_STAT_RESULT a.val, F.STP_STAT_STATE a.val].map Fld.key).Nodup := by decide
  refine begins ▸ Post.answer (Post.rdThen (Post.ifFalse (by simp [unshut, paused]) ?_))
  refine Post.axisFieldThen a (F.STP_STAT_RESULT_window _) fun t shown => Post.ifTrue homes (Post.beginHome_step fun u g starts home => ?_)
  have step := shown.andThen home
  refine ⟨step.same, step.shows (l := []) (apart a), ?_⟩
  rw [step.axis]
  exact (starts _).1

/-! ### STOP and HOME -/

/-- The fields that show an axis whose moves are dropped at rest. -/
def haltedFields (a : Fin 16) : List Fld :=
  [F.STP_STEP_CNT_CNT a.val, F.STP_POS_POS a.val, F.STP_STAT_STATE a.val, F.STP_STAT_RESULT a.val, F.STP_STAT_QUEUE a.val, F.STP_REMAIN_DIST a.val]

theorem exec_stpStop_halts (live : s.drivesLive = true) (unshut : s.axisShut a = false) :
    ∃ t, exec (.stpStop a) s = .next t ∧ SameBut [.stpRegs, .axes] s t ∧
      t.reads [(F.STP_STAT_STATE a.val, axIDLE), (F.STP_STAT_RESULT a.val, rDONE), (F.STP_STAT_QUEUE a.val, 0)] ∧ t.axes[a].queue = [] := by
  have begins : exec (.stpStop a) s = answer _ s := if_pos live
  have apart : ∀ a : Fin 16, ((haltedFields a).map Fld.key ++ (haltedFields (otherSled a)).map Fld.key).Nodup := by decide
  refine begins ▸ Post.answer (Post.rdThen (Post.ifFalse (by simp [unshut]) (Post.bind (Post.haltAxis_step fun t n d halts => ?_))))
  refine Post.ite (fun _ => Post.haltAxis_step fun u n' d' other => ?_) fun _ => Post.pure ⟨halts.same, ?_, ?_⟩
  · have both := halts.trans other
    refine ⟨both.same, (both.shows (l := []) (apart a)).subset (by simp [clearFields, queueFields]), ?_⟩
    rw [both.axes, onAxis_ne (otherSled_ne a).symm, onAxis_self]
    rfl
  · exact (halts.shows (l := []) (List.nodup_append.mp (apart a)).1).subset (by simp [clearFields, queueFields])
  · rw [halts.axis]
    rfl

/-- The fields that an axis puts as it comes to rest and keeps its queue. -/
def restFields (a : Fin 16) (rest : Int) (k n d : Nat) : List (Fld × Nat) :=
  stepFields a rest n ++ [(F.STP_STAT_STATE a.val, axIDLE)] ++ queueFields a k d

theorem Post.restAxis_step (next : ∀ t k n d g, AxesStep (restFields a (s.stopPoint a) k n d) (onAxis a g) s t → Q () t) :
    Act.Post (restAxis a) s Q := by
  unfold restAxis
  refine Post.rdThen (Post.bind (Post.stepTo_step fun t n rests => Post.axisFieldThen a (F.STP_STAT_STATE_window _) fun u idle => ?_))
  refine Post.axisThen fun v ends => Post.showQueue_step fun w d queue => ?_
  exact next w _ n d _ (((rests.andThen idle).andThen ends).andThen queue)

theorem exec_stpHome_homes (drives : s.drivesTake = true) (unshut : s.axisShut a = false) (idle : s.axisState a = axIDLE) :
    ∃ t, exec (.stpHome a) s = .next t ∧ SameBut [.stpRegs, .axes] s t ∧ t.axisState a = axHOMING ∧ t.get (F.STP_STAT_RESULT a.val) = 0 := by
  have begins : exec (.stpHome a) s = answer _ s := if_pos drives
  have apart : ∀ a : Fin 16, (F.STP_STAT_RESULT a.val).key ∉ [F.STP_STEP_CNT_CNT a.val, F.STP_POS_POS a.val,
      F.STP_STAT_STATE a.val, F.STP_STAT_QUEUE a.val, F.STP_REMAIN_DIST a.val, F.STP_STAT_STATE a.val].map Fld.key := by decide
  refine begins ▸ Post.answer (Post.rdThen (Post.ifFalse (by simp [unshut]) (Post.axisFieldThen a (F.STP_STAT_RESULT_window _) fun t shown => ?_)))
  refine Post.ifTrue (by rw [idle]; decide) (Post.ifFalse (by rw [State.inPair_idle idle]; decide) ?_)
  refine Post.bind (Post.restAxis_step fun u k n d g rests => ?_)
  refine Post.beginHome_step fun v g' _ homes => ⟨((shown.andThen rests).andThen homes).same, ?_, ?_⟩
  · exact homes.last (l := []) List.not_mem_nil
  · exact ((shown.andThen rests).andThen homes).last (l := []) (apart a)

/-! ### MOVE_PAIR -/

theorem Post.replan_still (rests : s.axisState a ≠ axRUN) (next : Q () s) : Act.Post (replan a) s Q := by
  unfold replan
  refine Post.rdThen ?_
  dsimp only
  split
  · exact Post.pure next
  · exact Post.ifFalse (fun ⟨runs, _⟩ => rests runs) (Post.pure next)

/-- Pair moves that both idle sleds of a bay have come to begin on both (R175). -/
theorem Post.startPair_starts (idle : s.axisState a = axIDLE ∧ s.axisState (otherSled a) = axIDLE)
    (queueA : s.axes[a].queue = [x]) (queueO : s.axes[otherSled a].queue = [y]) (pairs : x.pair = true ∧ y.pair = true)
    (next : ∀ t, SameBut [.stpRegs, .axes] s t → t.axisState a = axRUN → t.axisState (otherSled a) = axRUN → t.axes[a].queue = [x] →
      t.axes[otherSled a].queue = [y] → Q () t) : Act.Post (startPair a none) s Q := by
  have ne : otherSled a ≠ a := otherSled_ne a
  have apart : ∀ a : Fin 16, ([F.STP_STAT_STATE a.val, F.STP_STAT_QUEUE a.val, F.STP_REMAIN_DIST a.val, F.STP_STAT_STATE (otherSled a).val,
      F.STP_STAT_QUEUE (otherSled a).val, F.STP_REMAIN_DIST (otherSled a).val].map Fld.key).Nodup := by decide
  have heads : s.pairHead a = true ∧ s.pairHead (otherSled a) = true := by rwa [State.pairHead_cons queueA, State.pairHead_cons queueO]
  unfold startPair
  refine Post.rdThen (Post.ifTrue ⟨heads.1, heads.2, idle⟩ (Post.bind (Post.startMove_step queueA fun t d g startsA runsA => Post.bind ?_)))
  have keptO : t.axes[otherSled a].queue = [y] := by rw [runsA.axes, onAxis_ne ne]; exact queueO
  refine Post.startMove_step keptO fun u e h startsO runsO => Post.rdThen (Post.axisThen fun v waitsA => Post.axisThen fun w waitsO => Post.pure ?_)
  have runs := (runsA.trans runsO).trans (waitsA.trans waitsO)
  have shown := runs.shows (l := []) (apart a)
  refine next w runs.same (shown.get (n := axRUN) (by simp [runFields])) (shown.get (n := axRUN) (by simp [runFields])) ?_ ?_
  · rw [runs.axes]
    simpa [onAxis_ne ne.symm, (startsA _).1] using queueA
  · rw [runs.axes]
    simpa [onAxis_ne ne, (startsO _).1] using queueO

/-- The fields that MOVE_PAIR puts once both its targets can be reached (R175). -/
def pairFields (a : Fin 16) (p q : Int) (blend : Bool) : List (Fld × Nat) :=
  targetFields a p blend ++
    [(F.STP_TARGET_POS (otherSled a).val, ofSigned 32 q), (F.STP_STAT_RESULT a.val, 0), (F.STP_STAT_RESULT (otherSled a).val, 0)]

theorem exec_stpMovePair_starts (drives : s.drivesTake = true) (top : a = axisOf b 0)
    (unshut : s.axisShut a = false ∧ s.axisShut (otherSled a) = false)
    (reach : s.axisReach a p = true ∧ s.axisReach (otherSled a) q = true) (idle : s.axisState a = axIDLE ∧ s.axisState (otherSled a) = axIDLE)
    (emptyA : s.axes[a].queue = []) (emptyO : s.axes[otherSled a].queue = []) :
    ∃ t, exec (.stpMovePair b p q blend) s = .next t ∧ SameBut [.stpRegs, .axes] s t ∧
      t.axisState a = axRUN ∧ t.axisState (otherSled a) = axRUN ∧ t.axes[a].queue = [{ target := p, blend := blend, pair := true }] ∧
      t.axes[otherSled a].queue = [{ target := q, blend := blend, pair := true }] := by
  have begins : exec (.stpMovePair b p q blend) s = answer (movePair a p q blend) s := top ▸ if_pos drives
  have first : a.val % 4 = 0 := by rw [top]; exact Nat.mul_add_mod 4 b.val 0
  have ne : otherSled a ≠ a := otherSled_ne a
  have apart : ∀ a : Fin 16, ∀ i ∈ [a, otherSled a], (F.STP_STAT_STATE i.val).key ∉
      [F.STP_TARGET_POS a.val, F.STP_CMD_BLEND a.val, F.STP_TARGET_POS (otherSled a).val, F.STP_STAT_RESULT a.val,
        F.STP_STAT_RESULT (otherSled a).val].map Fld.key ++
      [F.STP_STAT_QUEUE a.val, F.STP_REMAIN_DIST a.val, F.STP_STAT_QUEUE (otherSled a).val, F.STP_REMAIN_DIST (otherSled a).val].map Fld.key := by
    decide
  refine begins ▸ Post.answer (Post.rdThen (Post.setThen (Post.setThen (Post.ifFalse (by simp [first, unshut, reach]) ?_))))
  refine Post.ifFalse (by rw [emptyA, emptyO]; decide) (Post.setThen (Post.setThen (Post.setThen ?_)))
  have puts : AxesStep (pairFields a p q blend) (onAxis a id) s (s.putAll (pairFields a p q blend)) := .puts (by simp [pairFields, targetFields]) a s
  refine Post.bind (Post.seekTo_step fun t j seeksA => Post.bind (Post.seekTo_step fun u k seeksO => ?_))
  refine Post.axisThen fun v joinsA => Post.axisThen fun w joinsO => ?_
  have joined := (puts.trans (seeksA.trans seeksO)).trans (joinsA.trans joinsO)
  have still (i : Fin 16) (of : i ∈ [a, otherSled a]) (rests : s.axisState i = axIDLE) : w.axisState i ≠ axRUN := by
    rw [joined.keepsState i fun put => apart a i of (List.mem_append_left _ put), rests]
    decide
  refine Post.bind (Post.replan_still (still a (by simp) idle.1) (Post.bind (Post.replan_still (still _ (by simp) idle.2) ?_)))
  refine Post.bind (Post.showQueue_step fun x d showsA => Post.bind (Post.showQueue_step fun y e showsO => ?_))
  have before := joined.trans (showsA.trans showsO)
  have stays (i : Fin 16) (of : i ∈ [a, otherSled a]) (rests : s.axisState i = axIDLE) : y.axisState i = axIDLE :=
    (before.keepsState i (apart a i of)).trans rests
  refine Post.startPair_starts ⟨stays a (by simp) idle.1, stays _ (by simp) idle.2⟩ (x := { target := p, blend := blend, pair := true })
    (y := { target := q, blend := blend, pair := true }) ?_ ?_ ⟨rfl, rfl⟩ fun z same runsA runsO queueA queueO =>
      ⟨before.same.trans same, runsA, runsO, queueA, queueO⟩
  · rw [before.axes]
    simpa [onAxis_ne ne.symm, Axis.seeking] using emptyA
  · rw [before.axes]
    simpa [onAxis_ne ne, Axis.seeking] using emptyO

/-! ### The limits -/

theorem exec_stepLimit_shows (live : s.drivesLive = true)
    (beyond : (s.axisPos a = s.geti (F.STP_LIM_HI_LIM a.val) ∧ 0 < s.axes[a].corr) ∨
      (s.axisPos a = s.geti (F.STP_LIM_LO_LIM a.val) ∧ s.axes[a].corr < 0)) :
    ∃ t, exec (.stepLimit a) s = .next t ∧ SameBut (.stpRegs :: eventParts) s t ∧ t.get (F.STP_STAT_LIMIT a.val) = 1 ∧
      Raised (Ev.bay (a.val / 4) Ev.iSTEP_LIMIT) 0 (a.val % 4) 0 s t := by
  have begins : exec (.stepLimit a) s = answer _ s := if_pos live
  have shown : SameBut [.stpRegs] s (s.put (F.STP_STAT_LIMIT a.val) 1) := (SameBut.refl _ s).put (by simp)
  refine begins ▸ Post.answer (Post.ifTrue beyond (Post.setThen ?_))
  refine Post.raiseAxis_after shown rfl (by decide) fun t rest raised => ⟨?_, ?_, raised⟩
  · exact (shown.mono (by simp)).trans (rest.mono (by decide))
  · exact (rest .stpRegs (by decide) _ (F.STP_STAT_LIMIT_window _)).trans (State.get_put_self _ _ _)

/-- Settles O20: one lemma for each command and case. -/
theorem stepAxesObeyCommands : Obligations.StepAxesObeyCommands := by
  unfold Obligations.StepAxesObeyCommands
  refine fun s a drives => ⟨fun p blend unshut reach idle empty homed => ?_, fun p blend out => ?_, fun p blend unshut reach full => ?_,
    fun m ms unshut runs queue single short => exec_stpPause_pauses (State.drivesTake_live drives) unshut runs queue single short,
    fun m ms unshut paused queue single moves => exec_stpResume_runs drives unshut paused queue single moves, fun unshut paused homes => ?_,
    fun unshut => ?_, fun unshut idle => exec_stpHome_homes drives unshut idle,
    fun b p q blend top unshutA unshutO reachA reachO idleA idleO emptyA emptyO =>
      exec_stpMovePair_starts drives top ⟨unshutA, unshutO⟩ ⟨reachA, reachO⟩ ⟨idleA, idleO⟩ emptyA emptyO,
    fun beyond => exec_stepLimit_shows (State.drivesTake_live drives) beyond⟩
  · obtain ⟨t, step, same, reads, queue⟩ := exec_stpMove_starts drives unshut reach idle empty homed (blend := blend)
    exact ⟨t, step, same, reads.get (n := axRUN) (by simp), reads.get (n := 0) (by simp), queue, reads.get (n := 1) (by simp)⟩
  · obtain ⟨t, step, refuses⟩ := exec_stpMove_invalid drives out (blend := blend)
    exact ⟨t, step, refuses.frame, refuses.result, refuses.state⟩
  · obtain ⟨t, step, refuses⟩ := exec_stpMove_busy drives unshut reach full (blend := blend)
    exact ⟨t, step, refuses.frame, refuses.result, refuses.raised⟩
  · obtain ⟨t, step, same, reads, queue⟩ := exec_stpResume_homes drives unshut paused homes
    exact ⟨t, step, same, reads.get (n := axHOMING) (by simp), reads.get (n := 0) (by simp), queue⟩
  · obtain ⟨t, step, same, reads, queue⟩ := exec_stpStop_halts (State.drivesTake_live drives) unshut
    exact ⟨t, step, same, reads.get (n := axIDLE) (by simp), reads.get (n := rDONE) (by simp), queue, reads.get (n := 0) (by simp)⟩

end Sys2Proof.Machine
end

section
/-! The ends of homings and of settling, the faults of drivers, and the sensors of the bays (R170 to R185, R533, R573): O21. -/

namespace Sys2Proof.Machine

variable {a : Fin 16} {b : Fin 4} {s t : State} {Q : Unit → State → Prop}

/-! ### The end of a homing -/

theorem Post.startPair_single (single : s.pairHead a = false) (next : Q () s) {junction : Option Nat} : Act.Post (startPair a junction) s Q :=
  Post.rdThen (Post.ifFalse (fun ⟨head, _⟩ => absurd (single.symm.trans head) (by decide)) (Post.pure next))

theorem State.pairHead_nil (empty : s.axes[a].queue = []) : s.pairHead a = false := by
  unfold State.pairHead
  rw [empty]

/-- The parts that the end of parking may touch. -/
def finishParkParts : List Part := .bays :: setBayParts

/-- An axis that has ended its last move, which was no seek, is idle, and its bay may have come to rest (R172, R178). -/
theorem Post.nextMove_ends {junction : Option Nat} (empty : s.axes[a].queue = []) (lands : s.axes[a].seek = none)
    (next : ∀ t d g, AxesStep (clearFields a axIDLE rDONE d) (onAxis a g) s t → ∀ u, Same (partsMask finishParkParts) t u → Q () u) :
    Act.Post (nextMove a junction) s Q := by
  unfold nextMove
  refine Post.rdThen ?_
  rw [empty, lands]
  refine Post.ifFalse nofun (Post.axisFieldThen a (F.STP_STAT_STATE_window _) fun t idle => ?_)
  refine Post.axisFieldThen a (F.STP_STAT_RESULT_window _) fun u done => Post.axisThen fun v ends => ?_
  refine Post.bind (Post.showQueue_step fun w d shows => ?_)
  have step := (idle.andThen done).andThen ends
  have still : v.axes[a].queue = [] := by
    rw [step.axis]
    exact empty
  have left : w.axes[a].queue = [] := by
    rw [shows.axis]
    exact still
  rw [still] at shows
  refine Post.bind (Post.startPair_single (State.pairHead_nil left) ?_)
  exact Post.touches (finishPark_touches _ rfl) fun _ x parks => next w d _ (step.andThen shows) x parks

/-- At its end stop an axis stands at position 0, and is HOMED (R180). -/
theorem exec_moveEnd_homes (live : s.drivesLive = true) (homes : s.axisState a = axHOMING) (empty : s.axes[a].queue = [])
    (lands : s.axes[a].seek = none) :
    ∃ t, exec (.moveEnd a) s = .next t ∧ t.axisState a = axIDLE ∧ t.get (F.STP_STAT_HOMED a.val) = 1 ∧ t.get (F.STP_POS_POS a.val) = 0 ∧
      t.get (F.STP_STAT_RESULT a.val) = rDONE := by
  have begins : exec (.moveEnd a) s = answer _ s := if_pos live
  have apart : ∀ a : Fin 16, (clearKeys a).Nodup ∧
      ∀ f ∈ [F.STP_POS_POS a.val, F.STP_STAT_HOMED a.val], f.key ∉ (F.STP_STAT_STATE a.val).key :: clearKeys a := by decide
  have posHomed : ∀ a : Fin 16, (F.STP_POS_POS a.val).key ≠ (F.STP_STAT_HOMED a.val).key := by decide
  refine begins ▸ Post.answer (Post.ifTrue homes (Post.bind (Post.stepTo_step fun t n steps => ?_)))
  refine Post.axisFieldThen a (F.STP_POS_POS_window _) fun u zero => Post.axisFieldThen a (F.STP_STAT_HOMED_window _) fun v homed => ?_
  refine Post.axisFieldThen a (F.STP_STAT_STATE_window _) fun w idle => Post.axisThen fun x rests => ?_
  have before := (steps.andThen zero).andThen ((homed.andThen idle).andThen rests)
  refine Post.nextMove_ends ?_ ?_ fun y d g ends z parks => ?_
  · rw [before.axis]
    exact empty
  · rw [before.axis]
    exact lands
  have kept {f : Fld} (own : f.window = .stpRegs) : z.get f = y.get f := parks.get own (by decide) rfl
  have shown := ends.shows (l := []) (apart a).1
  have after := (homed.andThen idle).andThen (rests.andThen ends)
  refine ⟨?_, ?_, ?_, ?_⟩
  · exact (kept (F.STP_STAT_STATE_window _)).trans (shown.get (n := axIDLE) (by simp))
  · exact (kept (F.STP_STAT_HOMED_window _)).trans (after.last (l := []) ((apart a).2 _ (by simp)))
  · refine (kept (F.STP_POS_POS_window _)).trans ((zero.andThen after).last (l := []) ?_)
    exact fun put => (List.mem_cons.mp put).elim (posHomed a) ((apart a).2 _ (by simp))
  · exact (kept (F.STP_STAT_RESULT_window _)).trans (shown.get (n := rDONE) (by simp))

/-! ### The end of settling -/

theorem exec_settleExpiry_lands (live : s.drivesLive = true) (settles : s.axisState a = axSETTLE) :
    ∃ t, exec (.settleExpiry a) s = .next t ∧ SameBut [.stpRegs, .axes] s t ∧ t.axisState a = axLANDING ∧ t.axes[a].seen = 0 ∧
      t.axes[a].agree = 0 ∧ t.axes[a].last = none := by
  have begins : exec (.settleExpiry a) s = answer _ s := if_pos live
  refine begins ▸ Post.answer (Post.ifTrue settles (Post.axisFieldThen a (F.STP_STAT_STATE_window _) fun t state => Post.emit ?_))
  have step := state.andThen (.eff a ({ · with seen := 0, agree := 0, last := none }) t)
  refine ⟨step.same, step.last (l := []) List.not_mem_nil, ?_⟩
  rw [step.axis]
  exact ⟨rfl, rfl, rfl⟩

/-! ### Driver faults -/

/-- How a driver's fault ends: its event, and for a sled or the clamp lift the bay FAULTED with focus retracted on both its OPUs (R182). -/
def driverFaultEnd (a : Fin 16) : Act Unit := do
  raiseAxis a Ev.iSTEP_DRV_FAULT
  if a.val % 4 < 3 then
    forAll (opusOf (bayOfAxis a)) retract
    setBay (bayOfAxis a) bFAULTED

/-- The parts that the end of a driver's fault may touch. -/
def driverFaultParts : List Part := [.srvRegs, .wrpRegs, .optRegs, .life, .optics, .writers] ++ setBayParts

theorem Post.driverFaultEnd (admits : s.admits bFAULTED = true)
    (next : ∀ t, (a.val % 4 < 3 → t.bayState (bayOfAxis a).val = bFAULTED) → Same (partsMask driverFaultParts) s t → Q () t) :
    Act.Post (Machine.driverFaultEnd a) s Q := by
  refine Post.bind (Post.touches (raiseAxis_touches a _ _ (L := partsMask driverFaultParts) rfl) fun _ t raised => ?_)
  refine Post.ite (fun _ => Post.bind ?_) fun aux => ?_
  · refine Post.touches (.forAll fun k => retract_touches k (L := partsMask driverFaultParts) rfl) fun _ u retracts => ?_
    refine Post.andTouches ?_ (setBay_touches _ _ (L := partsMask driverFaultParts) rfl)
    refine Post.mono ((setBay_faults (c := bayOfAxis a) (bayOfAxis a)).2 u) fun _ v faulted same => ?_
    have all := (raised.trans retracts).trans same
    exact next v (fun _ => faulted ((State.admits_same (.ofMask all (Nat.or_self _)) (by decide) _).trans admits)) all
  · exact Post.pure (next t (fun sled => absurd sled aux) raised)

/-- The fields that show a driver's fault and the moves that it drops (R182). -/
def faultFields (a : Fin 16) (d : Nat) : List (Fld × Nat) := clearFields a axFAULT rFAILED d ++ [(F.STP_STAT_DRV_FAULT a.val, 1)]

theorem faultFields_own (d : Nat) : ∀ p ∈ faultFields a d, p.1.window = .stpRegs := by simp [faultFields, clearFields, queueFields]

theorem exec_stepDrvFault_faults (live : s.drivesLive = true) (well : s.get (F.STP_STAT_DRV_FAULT a.val) = 0) :
    ∃ t, exec (.stepDrvFault a) s = .next t ∧
      t.reads [(F.STP_STAT_STATE a.val, axFAULT), (F.STP_STAT_RESULT a.val, rFAILED), (F.STP_STAT_DRV_FAULT a.val, 1)] ∧
      (a.val % 4 < 3 → t.bayState (bayOfAxis a).val = bFAULTED) := by
  have begins : exec (.stepDrvFault a) s = answer _ s := if_pos live
  have apart : ∀ a : Fin 16, (clearKeys a ++ [(F.STP_STAT_DRV_FAULT a.val).key] ++ clearKeys (otherSled a)).Nodup := by decide
  refine begins ▸ Post.answer (Post.ifTrue well (Post.axisThen fun t still => Post.bind (Post.clearAxis_step fun u d drops => ?_)))
  refine Post.axisFieldThen a (F.STP_STAT_DRV_FAULT_window _) fun v fault => ?_
  have before : AxesStep (faultFields a d) _ s v := still.andThen (drops.andThen fault)
  have ends {w : State} {l : List (Fld × Nat)} {G : Fin 16 → Axis → Axis} (after : AxesStep l G s w) (shown : w.reads (faultFields a d)) :
      Act.Post (Machine.driverFaultEnd a) w fun _ t =>
        t.reads [(F.STP_STAT_STATE a.val, axFAULT), (F.STP_STAT_RESULT a.val, rFAILED), (F.STP_STAT_DRV_FAULT a.val, 1)] ∧
          (a.val % 4 < 3 → t.bayState (bayOfAxis a).val = bFAULTED) := by
    have admits : w.admits bFAULTED = true := (State.admits_same after.same (by decide) _).trans (State.drivesLive_admits live)
    refine Post.driverFaultEnd admits fun x faulted rest => ⟨?_, faulted⟩
    have still : x.reads (faultFields a d) := fun p hp => (rest.get (faultFields_own d p hp) (by decide) rfl).trans (shown p hp)
    exact still.subset (by simp [faultFields, clearFields])
  refine Post.ite (fun _ => Post.bind (Post.clearAxis_step fun w e other => ends (before.trans other) ?_)) fun _ => ends before ?_
  · exact ((before.trans other).shows (l := []) (apart a)).subset fun p hp => List.mem_append_left _ hp
  · exact before.shows (l := []) (List.nodup_append.mp (apart a)).1

/-! ### Bay sensors -/

/-- A bay's registers after it enters a state: its state, where that is new to it and its mode admits it (R46). -/
theorem Post.setBay_regs {st : Nat}
    (next : ∀ t, (∀ f : Fld, f.window = .bayRegs →
        t.get f = (if s.bayState b.val ≠ st ∧ s.admits st = true then s.put (F.BAY_STAT_STATE b.val) st else s).get f) → Q () t) :
    Act.Post (setBay b st) s Q := by
  have tail : Touches (2 ^ 61 - 1 - 2 ^ Part.bayRegs.idx) (do
      abortBayCal b.val (s.bayState b.val) st
      noteUse b (s.bayState b.val) st
      if s.bayState b.val = bREADING then forAll [opuTop b, opuBottom b] endCapture
      raiseBay b.val Ev.iBAY_STATE_CHANGE 0 0 (s.bayState b.val + 256 * st)) := by
    have raises := raiseBay_touches b.val Ev.iBAY_STATE_CHANGE 0 0 (s.bayState b.val + 256 * st) (L := 2 ^ 61 - 1 - 2 ^ Part.bayRegs.idx) rfl
    exact .bind (abortBayCal_touches _ _ _ rfl) fun _ => .bind (noteUse_touches _ _ _ rfl) fun _ =>
      .ite (.bind (.forAll fun k => endCapture_touches k rfl) fun _ => raises) raises
  have emptied : Touches (2 ^ 61 - 1 - 2 ^ Part.bayRegs.idx) (forAll [opuTop b, opuBottom b] fun k => do
      Machine.setF (F.RCH_SPK_STAT_SIDE_MISMATCH k.val) 0
      Machine.emit (.spoke k fun c => { c with sideRun := 0 })) :=
    .forAll fun k => .bind (.setF (F.RCH_SPK_STAT_SIDE_MISMATCH_window _) rfl) fun _ => Touches.emitM (M := 2 ^ Part.spokes.idx) rfl rfl
  unfold setBay
  refine Post.rdThen (Post.ite (fun enters => Post.setThen ?_) fun stays => Post.pure (next s fun f _ => by rw [if_neg stays]))
  have ends (m : Act Unit) (h : Touches (2 ^ 61 - 1 - 2 ^ Part.bayRegs.idx) m) : Act.Post m (s.put (F.BAY_STAT_STATE b.val) st) Q :=
    Post.touches h fun _ t same => next t fun f own => by rw [if_pos enters, same.get own (by decide) rfl]
  exact Post.ite (fun _ => ends _ (.bind emptied fun _ => tail)) fun _ => ends _ tail

theorem takeSensor_agrees (f : Fld) (x : Bool) : takeSensor f [x, x, x] = setF f x.toNat := if_pos ⟨rfl, rfl⟩

/-- The fields that show the sensors of a bay (R533). -/
def sensorFields (b : Fin 4) (x : BaySensors) : List (Fld × Nat) :=
  [(F.BAY_STAT_DISC_PRESENT b.val, x.disc.toNat), (F.BAY_STAT_TRAY_CLOSED b.val, x.trayClosed.toNat),
   (F.BAY_STAT_CLAMPED b.val, x.clamped.toNat), (F.BAY_STAT_DOOR_CLOSED b.val, x.doorClosed.toNat)]

theorem sensorFields_own (b : Fin 4) (x : BaySensors) : ∀ p ∈ sensorFields b x, p.1.window = .bayRegs := by simp [sensorFields]

theorem sensorFields_apart (b : Fin 4) (x : BaySensors) : ((F.BAY_STAT_STATE b.val).key :: (sensorFields b x).map fun p => p.1.key).Nodup := by
  have apart : ∀ b : Fin 4, ([F.BAY_STAT_STATE b.val, F.BAY_STAT_DISC_PRESENT b.val, F.BAY_STAT_TRAY_CLOSED b.val, F.BAY_STAT_CLAMPED b.val,
      F.BAY_STAT_DOOR_CLOSED b.val].map Fld.key).Nodup := by decide
  exact apart b

/-- A bay that enters a state goes on to show its sensors (R46, R533). -/
theorem State.reads.sensors {x : BaySensors} {c : Prop} [Decidable c] {st : Nat} (shown : s.reads (sensorFields b x))
    (regs : ∀ f : Fld, f.window = .bayRegs → t.get f = (if c then s.put (F.BAY_STAT_STATE b.val) st else s).get f) :
    t.reads (sensorFields b x) := by
  intro p hp
  have ne : p.1.key ≠ (F.BAY_STAT_STATE b.val).key := fun e =>
    (List.nodup_cons.mp (sensorFields_apart b x)).1 (e ▸ List.mem_map_of_mem (f := fun p => p.1.key) hp)
  rw [regs p.1 (sensorFields_own b x p hp), ← shown p hp]
  split
  · exact State.get_put_ne _ _ ne
  · rfl

/-- What the sensors of an EMPTY bay show once a disc is clamped in it (R46). -/
def State.clampedDisc (s : State) (b : Fin 4) : Prop :=
  s.bayState b.val = bEMPTY ∧ (s.get (F.BAY_STAT_CLAMPED b.val) == 1) = true ∧ s.get (F.BAY_STAT_DISC_PRESENT b.val) = 1 ∧ mBRINGUP ≤ s.mode

theorem exec_baySensorSample_takes {x : BaySensors} (awake : s.awake = true) (agree : s.bays[b].samples = [x, x]) :
    ∃ t, exec (.baySensorSample b x) s = .next t ∧
      SameBut (.rchRegs :: .calRegs :: .bayRegs :: .bays :: .spokes :: .detectors :: .cal :: eventParts) s t ∧ t.reads (sensorFields b x) ∧
      (s.bayState b.val = bEMPTY → x.clamped = true → x.disc = true → mBRINGUP ≤ s.mode → t.bayState b.val = bLOADED) := by
  have begins : exec (.baySensorSample b x) s = answer _ s := if_pos awake
  obtain ⟨stateApart, apart⟩ := List.nodup_cons.mp (sensorFields_apart b x)
  refine frame_and_mask (execBaySensorSample_touches b x s) (begins ▸ Post.answer ?_) (by decide)
  rw [agree]
  simp only [List.take_succ_cons, List.map_cons, List.take_zero, List.map_nil, takeSensor_agrees]
  refine Post.emitThen (Post.setThen (Post.setThen (Post.setThen (Post.setThen (Post.rdThen ?_)))))
  generalize taken : (Eff.bay b _).apply s = r
  generalize shows : (((r.put _ _).put _ _).put _ _).put _ _ = u
  have shown : u.reads (sensorFields b x) := shows ▸ State.reads_putAll apart r
  have state : u.bayState b.val = s.bayState b.val := by
    subst shows taken
    exact State.putAll_get_other (l := sensorFields b x) (fun p hp e => stateApart (e ▸ List.mem_map_of_mem (f := fun p => p.1.key) hp)) _
  have mode : u.mode = s.mode := by
    subst shows taken
    exact State.putAll_same (l := sensorFields b x) (ps := [.bayRegs]) (by simp [sensorFields]) _ .devRegs (by decide) F.DEV_MODE_STAT_MODE rfl
  have clamps (empty : s.bayState b.val = bEMPTY) (clamped : x.clamped = true) (disc : x.disc = true) (up : mBRINGUP ≤ s.mode) :
      u.clampedDisc b := by
    refine ⟨state.trans empty, ?_, ?_, mode ▸ up⟩
    · rw [shown.get (f := F.BAY_STAT_CLAMPED b.val) (n := x.clamped.toNat) (by simp [sensorFields]), clamped]; rfl
    · rw [shown.get (f := F.BAY_STAT_DISC_PRESENT b.val) (n := x.disc.toNat) (by simp [sensorFields]), disc]; rfl
  refine Post.ite (fun enters => Post.setBay_regs fun t regs => ⟨shown.sensors regs, fun _ _ _ _ => ?_⟩) fun declines => ?_
  · refine (regs _ (F.BAY_STAT_STATE_window _)).trans ?_
    rw [if_pos ⟨by rw [enters.1]; decide, rfl⟩]
    exact State.get_put_self _ _ _
  · have never {v : State} : s.bayState b.val = bEMPTY → x.clamped = true → x.disc = true → mBRINGUP ≤ s.mode → v.bayState b.val = bLOADED :=
      fun empty clamped disc up => absurd (clamps empty clamped disc up) declines
    exact Post.ite (fun _ => Post.setBay_regs fun t regs => ⟨shown.sensors regs, never⟩) fun _ => Post.pure ⟨shown, never⟩

/-- Settles O21: one lemma for each end, fault and sample. -/
theorem stepMovesEndAndSensorsAreTaken : Obligations.StepMovesEndAndSensorsAreTaken := by
  unfold Obligations.StepMovesEndAndSensorsAreTaken
  refine fun s a => ⟨fun live homes empty lands => exec_moveEnd_homes live homes empty lands,
    fun live settles => exec_settleExpiry_lands live settles, fun live well => ?_, fun b x awake agree => ?_⟩
  · obtain ⟨t, step, reads, faulted⟩ := exec_stepDrvFault_faults live well
    exact ⟨t, step, reads.get (n := 1) (by simp), reads.get (n := axFAULT) (by simp), reads.get (n := rFAILED) (by simp), faulted⟩
  · obtain ⟨t, step, same, reads, loads⟩ := exec_baySensorSample_takes awake agree
    have bit (y : Bool) : y.toNat % 2 ^ 1 = y.toNat := by cases y <;> rfl
    refine ⟨t, step, same, ?_, ?_, ?_, ?_, loads⟩
    · exact (reads.get (f := F.BAY_STAT_DISC_PRESENT b.val) (n := x.disc.toNat) (by simp [sensorFields])).trans (bit _)
    · exact (reads.get (f := F.BAY_STAT_TRAY_CLOSED b.val) (n := x.trayClosed.toNat) (by simp [sensorFields])).trans (bit _)
    · exact (reads.get (f := F.BAY_STAT_CLAMPED b.val) (n := x.clamped.toNat) (by simp [sensorFields])).trans (bit _)
    · exact (reads.get (f := F.BAY_STAT_DOOR_CLOSED b.val) (n := x.doorClosed.toNat) (by simp [sensorFields])).trans (bit _)

end Sys2Proof.Machine
end

section
/-! A change of polarity that is held for an input, and CTL written back as it reads: O22. -/

namespace Sys2Proof.Machine

variable {i : Fin 32} {s : State} {Q : Unit → State → Prop}

/-- An input with one more change held for it (R189). -/
def Input.holding (c : HeldChange) (x : Input) : Input := { x with held := x.held ++ [c] }

/-- The binding of an input stands in the registers of the lanes (R205). -/
theorem State.laneOf_same {ps : List Part} {t : State} (same : SameBut ps s t) (apart : .lanRegs ∉ ps) (n : Nat) : t.laneOf n = s.laneOf n := by
  have kept (f : Fld) (own : f.window = .lanRegs) : t.get f = s.get f := same .lanRegs apart f own
  unfold State.laneOf State.laneInput
  simp only [kept _ (F.RCH_LANE_BIND_ENABLE_window _), kept _ (F.RCH_LANE_BIND_INPUT_window _)]

/-- While an input waits for a lane, a change of it is held until that lane is bound (R189, R211). -/
theorem Post.holdChange_waits {c : HeldChange} (unbound : s.laneOf i.val = none) (waits : s.inputs[i].next.isSome = true)
    (q : Q () ((Eff.input i (Input.holding c)).apply s)) : Act.Post (holdChange i c) s Q := by
  refine Post.emitThen (Post.rdThen ?_)
  split
  next n bound => exact absurd (unbound.symm.trans bound) nofun
  next =>
    refine Post.ifFalse (fun free => ?_) (Post.pure q)
    rw [apply_input_self] at free
    exact absurd (Option.isNone_iff_eq_none.mp free ▸ waits) nofun

/-- POL_INV is compared with what it is to be once the held changes have taken effect: the last held change of polarity decides. -/
theorem State.heldPolarity_last {l : List HeldChange} {b : Bool} (held : s.inputs[i].held = l ++ [.polarity b]) : s.heldPolarity i = b := by
  unfold State.heldPolarity
  rw [held, List.foldl_append]
  rfl

/-- A write to CTL that leaves AGC_TARGET and AGC_RATE, made while the other polarity is held, is held after it (R189, R579). -/
theorem exec_ctlWrite_holds {m : Master} {v : Word} {b : Bool} {l : List HeldChange} (may : s.mayWrite m = true)
    (target : bitsOf v.toNat 4 8 = s.get (F.RCH_IN_CTL_AGC_TARGET i.val)) (rate : bitsOf v.toNat 12 4 = s.get (F.RCH_IN_CTL_AGC_RATE i.val))
    (held : s.inputs[i].held = l ++ [.polarity b]) (other : bitAt v.toNat 2 ≠ b) (waits : s.inputs[i].next.isSome = true)
    (unbound : s.laneOf i.val = none) :
    ∃ t, exec (.rchInputConfigWrite m i 0 v) s = .next t ∧ t.inputs[i].held = s.inputs[i].held ++ [.polarity (bitAt v.toNat 2)] := by
  have begins : exec (.rchInputConfigWrite m i 0 v) s = answer (do if s.mayWrite m then writeInput i 0 v.toNat) s := rfl
  refine begins ▸ Post.answer (Post.ifTrue may (Post.rdThen (Post.ifFalse (by simp [target, rate]) (Post.setThen (Post.setThen ?_)))))
  refine Post.ifTrue (State.heldPolarity_last held ▸ other) (Post.holdChange_waits ?_ waits ?_)
  · exact (State.laneOf_same (((SameBut.refl [.rchRegs] s).put (by simp)).put (by simp)) (by decide) _).trans unbound
  · exact congrArg Input.held (apply_input_self i _ _)

/-- ACTIVE with input 0 waiting for the lane that takes over from lane 0, CTL at its reset value, and POL_INV = 1 held. -/
def State.inverting : State :=
  (Eff.input 0 fun x => { x with held := [.polarity true], next := some (.takeover 0, 0) }).apply (State.reset.put F.DEV_MODE_STAT_MODE mACTIVE)

/-- Refutes O22: CTL written back as it reads, while POL_INV = 1 is held, holds POL_INV = 0 after it, so that more changes than the RCH registers.
The clause on AGC_TARGET and AGC_RATE asks that POL_INV reads as written, and not that no change of it is held. -/
theorem not_readFrontEndFollowsInputsAndLanes : ¬ Obligations.ReadFrontEndFollowsInputsAndLanes := by
  unfold Obligations.ReadFrontEndFollowsInputsAndLanes
  intro h
  obtain ⟨-, -, writes, -⟩ := h State.inverting
  obtain ⟨t, step, frame, -⟩ := (writes .sequencer 0 0x6600 (by decide)).1 (by decide) (by decide) (by decide) (by decide)
  obtain ⟨u, step', held⟩ := exec_ctlWrite_holds (s := State.inverting) (i := 0) (m := .sequencer) (v := 0x6600) (l := []) (by decide) (by decide)
    (by decide) rfl (by decide) rfl (by decide)
  cases step.symm.trans step'
  have same : t.inputs = State.inverting.inputs := frame .inputs (by decide)
  rw [same] at held
  exact absurd held (by decide)

end Sys2Proof.Machine
end

section
/-! Companding of lane outputs, and what a code is reconstructed to (R225): O58. -/

namespace Sys2Proof.Machine

theorem compandIndex_lt (m : Nat) : compandIndex m < 16 := by
  unfold compandIndex
  split_ifs <;> omega

/-- The magnitude that a magnitude is reconstructed to. -/
def reconstruction (m : Nat) : Nat := expandIndex (compandIndex m)

theorem reconstruction_eq (m : Nat) : reconstruction m =
    if m < 120 then 12 * (m / 12) + 6 else if m < 136 then 128 else if m < 160 then 148 else if m < 192 then 176 else if m < 240 then 216
    else if m < 320 then 280 else 400 := by
  unfold reconstruction compandIndex
  split_ifs
  case pos small => exact if_pos (by omega)
  all_goals rfl

theorem reconstruction_mono {m n : Nat} (h : m ≤ n) : reconstruction m ≤ reconstruction n := by
  rw [reconstruction_eq, reconstruction_eq]
  split_ifs <;> omega

/-- A code is its sign's 16 and its magnitude index (R225). -/
theorem compand_toNat (x : Int) : (compand x).toNat = compandIndex x.natAbs + if x < 0 then 16 else 0 := by
  have small := compandIndex_lt x.natAbs
  unfold compand
  rw [BitVec.toNat_ofNat]
  refine Nat.mod_eq_of_lt ?_
  split <;> omega

theorem compand_toNat_mod (x : Int) : (compand x).toNat % 16 = compandIndex x.natAbs := by
  have small := compandIndex_lt x.natAbs
  rw [compand_toNat]
  split <;> omega

theorem compand_sign (x : Int) : 16 ≤ (compand x).toNat ↔ x < 0 := by
  have small := compandIndex_lt x.natAbs
  rw [compand_toNat]
  split <;> omega

theorem getLsbD_four (c : BitVec 5) : c.getLsbD 4 = true ↔ 16 ≤ c.toNat := by
  revert c
  decide

theorem expand_compand (x : Int) : expand (compand x) = if x < 0 then -(reconstruction x.natAbs : Int) else reconstruction x.natAbs := by
  unfold expand
  simp only [compand_toNat_mod, compand_sign]
  rfl

/-- Every magnitude up to 512 lies in the row of its index, which gives its reconstruction and bounds its error (R225). -/
theorem compandTable_row {m : Nat} (h : m ≤ 512) : ∃ r ∈ compandTable, compandIndex m = r.1 ∧ r.2.1 ≤ m ∧ m ≤ r.2.2.1 ∧
    reconstruction m = r.2.2.2.1 ∧ ((m : Int) - reconstruction m).natAbs ≤ r.2.2.2.2 := by
  by_cases small : m < 120
  · refine ⟨(m / 12, 12 * (m / 12), 12 * (m / 12) + 11, 12 * (m / 12) + 6, 6), ?_, if_pos small, ?_⟩
    · exact List.mem_append_left _ (List.mem_map.mpr ⟨m / 12, List.mem_range.mpr (by omega), rfl⟩)
    · rw [reconstruction_eq, if_pos small]
      dsimp only
      omega
  · have row : (compandIndex m, if m < 136 then (120, 135, 128, 8) else if m < 160 then (136, 159, 148, 12) else if m < 192 then (160, 191, 176, 16)
        else if m < 240 then (192, 239, 216, 24) else if m < 320 then (240, 319, 280, 40) else (320, 512, 400, 112)) ∈ compandTable := by
      unfold compandIndex
      rw [if_neg small]
      split_ifs <;> decide
    refine ⟨_, row, rfl, ?_⟩
    rw [reconstruction_eq, if_neg small]
    split_ifs <;> dsimp only <;> omega

/-- Settles O58: by the row of the magnitude, for each sign. -/
theorem samplesAreCompandedByTheTable : Obligations.SamplesAreCompandedByTheTable := by
  unfold Obligations.SamplesAreCompandedByTheTable
  refine ⟨fun x bound => ?_, by decide, fun x y le => ?_⟩
  · obtain ⟨r, row, index, least, greatest, value, error⟩ := compandTable_row bound
    refine ⟨r, row, (compand_toNat_mod x).trans index, (getLsbD_four _).trans (compand_sign x), least, greatest, ?_, ?_⟩
    · rw [expand_compand, value]
    · rw [expand_compand]
      split <;> omega
  · rw [expand_compand, expand_compand]
    split_ifs with negative other
    · have := reconstruction_mono (m := y.natAbs) (n := x.natAbs) (by omega)
      omega
    · omega
    · omega
    · exact_mod_cast reconstruction_mono (m := x.natAbs) (n := y.natAbs) (by omega)

end Sys2Proof.Machine
end

section
/-! Frames in detection by their place: how they are changed, dropped and given to decoders, and programs that find none to act on (R223 to R232). -/

namespace Sys2Proof.Machine

variable {k : Fin 8} {track sector : Nat} {f : FrameWork} {s t : State} {Q : Unit → State → Prop}

/-! ### Frames by their place -/

theorem FrameWork.at_iff : f.at_ k track sector = true ↔ f.opu = k.val ∧ f.track = track ∧ f.sector = sector := by
  simp [FrameWork.at_, and_assoc]

theorem State.frameAt_at (h : s.frameAt k track sector = some f) : f.at_ k track sector = true :=
  List.find?_some (p := fun g : FrameWork => g.at_ k track sector) h

theorem State.frameAt_mem (h : s.frameAt k track sector = some f) : f ∈ s.frames := List.mem_of_find?_eq_some h

/-- A frame that changes where it stands is found changed; the others are as they were. -/
theorem Post.setFrame {g : FrameWork → FrameWork} (stands : ∀ x, x.at_ k track sector = true → (g x).at_ k track sector = true)
    (q : ∀ t, t.frameAt k track sector = (s.frameAt k track sector).map g → (∀ x ∈ t.frames, x ∈ s.frames ∨ ∃ y ∈ s.frames, x = g y) →
      Same (2 ^ Part.frames.idx) s t → t.now = s.now → Q () t) : Act.Post (setFrame k track sector g) s Q := by
  refine Post.emit (q _ ((find?_map_picked s.frames fun x at_ => (stands x at_).trans at_.symm).trans ?_) (fun x found => ?_) (Eff.same (.frames _) s) rfl)
  · exact Option.map_congr fun x found => if_pos (State.frameAt_at found)
  · obtain ⟨y, stood, rfl⟩ := List.mem_map.mp found
    split
    · exact .inr ⟨y, stood, rfl⟩
    · exact .inl stood

/-- A frame that has left detection is found no more. -/
theorem Post.dropFrame (q : ∀ t, t.frameAt k track sector = none → (∀ x ∈ t.frames, x ∈ s.frames) → Same (2 ^ Part.frames.idx) s t → Q () t) :
    Act.Post (dropFrame k track sector) s Q := by
  refine Post.emit (q _ ?_ (fun x found => List.mem_of_mem_filter found) (Eff.same (.frames _) s))
  refine List.find?_eq_none.mpr fun x found at_ => ?_
  have kept := (List.mem_filter.mp found).2
  rw [at_] at kept
  exact absurd kept (by decide)

/-! ### The pool (R230) -/

/-- A frame, whichever decoder works on it. -/
def FrameWork.unassigned (f : FrameWork) : FrameWork := { f with decoder := none }

/-- What the pool leaves as it is when it takes up work: the frames but for their decoders, the decoded sectors and the samples. -/
def State.detected (s : State) : List FrameWork × List SectorCopy × List Retained := (s.frames.map FrameWork.unassigned, s.dram.sectors, s.dram.samples)

theorem assignPool_keeps_detected : Keeps State.detected assignPool := by
  unfold Machine.assignPool
  refine .bind (.forAll fun j => .bind .rd fun s => ?_) fun _ => .bind .rd fun s => .emit fun _ => rfl
  split
  · refine .ite (.emit fun u => ?_) (.pure ())
    unfold State.detected
    simp only [apply_frames_frame, List.map_map]
    refine congrArg (·, _) (List.map_congr_left fun x _ => ?_)
    dsimp only [Function.comp]
    split <;> rfl
  · exact .pure ()

theorem Post.assignPool (q : ∀ t, t.detected = s.detected → Same (partsMask [.frames, .dram]) s t → Q () t) : Act.Post assignPool s Q :=
  Post.andTouches (Post.keeps assignPool_keeps_detected fun _ t detected same => q t detected same) (assignPool_touches rfl)

theorem State.unassigned_frameAt (s : State) (k : Fin 8) (track sector : Nat) : (s.frameAt k track sector).map FrameWork.unassigned =
    (s.detected.1).find? (fun f => f.at_ k track sector) := by
  unfold State.detected State.frameAt
  rw [List.find?_map]
  rfl

theorem State.frameAt_detected (h : t.detected = s.detected) :
    (t.frameAt k track sector).map FrameWork.unassigned = (s.frameAt k track sector).map FrameWork.unassigned := by
  rw [State.unassigned_frameAt, State.unassigned_frameAt, h]

theorem State.frameAt_none_detected (h : t.detected = s.detected) (gone : s.frameAt k track sector = none) : t.frameAt k track sector = none := by
  have same := State.frameAt_detected (k := k) (track := track) (sector := sector) h
  rwa [gone, Option.map_none, Option.map_eq_none_iff] at same

theorem State.frameAt_some_detected (h : t.detected = s.detected) (found : s.frameAt k track sector = some f) :
    ∃ g, t.frameAt k track sector = some g ∧ g.unassigned = f.unassigned := by
  have same := State.frameAt_detected (k := k) (track := track) (sector := sector) h
  rwa [found, Option.map_some, Option.map_eq_some_iff] at same

/-! ### Programs that find nothing to do -/

/-- No frame of the part waits to become a held-over member, and none is to be re-read under spot C, on whose track OPU `k` does not stand
(R224, R232). -/
structure State.Calm (s : State) (k : Fin 8) : Prop where
  centred : s.detectors[k].centred = none
  frames : ∀ g ∈ s.frames, g.waiting = false ∧ g.rung ≠ 5

/-- Spot C is not moved for a re-read while no frame of the OPU is on rung 5 (R232). -/
theorem centreNext_still (centred : s.detectors[k].centred = none) (none5 : ∀ g ∈ s.frames, g.opu = k.val → g.rung ≠ 5) :
    Act.Runs (centreNext k) s () s := by
  have next : s.frames.find? (fun f => f.opu == k.val && f.rung == 5 && !f.fresh && f.captures == 0) = none := by
    refine List.find?_eq_none.mpr fun g member found => ?_
    simp only [Bool.and_eq_true, beq_iff_eq] at found
    exact none5 g member found.1.1.1 found.1.1.2
  unfold Machine.centreNext
  refine Runs.bind (Runs.rd s) ?_
  simp only [next, centred]
  split
  · exact Runs.pure () s
  · exact Runs.pure () s

theorem leaveWaiting_still (none : ∀ g ∈ s.frames, g.opu = k.val → g.waiting = false) : Act.Runs (leaveWaiting k) s () s := by
  have found : s.frames.filter (fun f => f.opu == k.val && f.waiting) = [] := by
    refine List.filter_eq_nil_iff.mpr fun g member waits => ?_
    simp only [Bool.and_eq_true, beq_iff_eq] at waits
    rw [none g member waits.1] at waits
    exact absurd waits.2 (by decide)
  unfold Machine.leaveWaiting
  refine Runs.bind (Runs.rd s) ?_
  rw [found]
  exact Runs.pure () s

/-- The end of a read does nothing to the frames while none waits (R228). -/
theorem endReads_still (none : ∀ g ∈ s.frames, g.waiting = false) : Act.Runs endReads s () s := by
  refine Runs.forAll_still fun j _ => Runs.bind (Runs.rd s) ?_
  split
  · exact leaveWaiting_still fun g member _ => none g member
  · exact Runs.pure () s

theorem Post.runs {α : Type} {m : Act α} {a : α} {Q : α → State → Prop} (h : Act.Runs m s a t) (q : Q a t) : Act.Post m s Q := ⟨a, t, h, q⟩

end Sys2Proof.Machine
end

section
/-! What delivering, poisoning and climbing leave while no frame waits and none is on rung 5 (R223, R232 to R237). -/

namespace Sys2Proof.Machine

variable {ps : List Part} {n : Nat} {k : Fin 8} {f : FrameWork} {s t u : State} {Q : Unit → State → Prop}

theorem rungCount_key (r : Nat) : (F.LDP_RUNG_CNT_CNT r).key ≠ F.LDP_ITER_CNT_CNT.key := by
  simp only [Fld.key, F.LDP_RUNG_CNT_CNT, F.LDP_ITER_CNT_CNT, F.ldpBase]
  omega

/-! ### The course of a decode -/

/-- What holds from `s` on while a frame of OPU `k` is delivered, poisoned or climbs: the frame of the parts `ps`, the local iterations counted, and calm. -/
structure OnCourse (ps : List Part) (n : Nat) (k : Fin 8) (s t : State) : Prop where
  same : SameBut ps s t
  iterations : t.get F.LDP_ITER_CNT_CNT = n
  calm : t.Calm k

/-- The parts that the end of a decode may touch. -/
def decodeParts : List Part := .ldpRegs :: .extents :: .discs :: .frames :: .dram :: eventParts

/-- The parts of them that hold neither frames nor the registers of the pool. -/
def besideFrames : List Part := .extents :: .discs :: .dram :: eventParts

theorem mem_decodeParts_of_besideFrames : ∀ p ∈ besideFrames, p ∈ decodeParts := by decide

theorem State.Calm.same {ps : List Part} (calm : s.Calm k) (same : SameBut ps s t) (apart : .detectors ∉ ps)
    (frames : ∀ g ∈ t.frames, g.waiting = false ∧ g.rung ≠ 5) : t.Calm k where
  centred := by rw [show t.detectors = s.detectors from same .detectors apart]; exact calm.centred
  frames := frames

theorem State.Calm.mono {L : Nat} (calm : s.Calm k) (same : Same L s t) (detectors : L.testBit Part.detectors.idx = false)
    (frames : L.testBit Part.frames.idx = false) : t.Calm k where
  centred := by rw [show t.detectors = s.detectors from same .detectors detectors]; exact calm.centred
  frames := by rw [show t.frames = s.frames from same .frames frames]; exact calm.frames

/-- A guard decides which of two programs keeps what is true. -/
theorem Stays.guard {P : State → Prop} {c : Prop} [Decidable c] {m m' : Act Unit} (h : c → Stays P m) (h' : ¬c → Stays P m') :
    Stays P (if c then m else m') := fun u => Post.ite (fun yes => h yes u) fun no => h' no u

section
variable (within : ∀ p ∈ decodeParts, p ∈ ps)
include within

theorem Stays.beside {m : Act Unit} (h : Touches (partsMask besideFrames) m) : Stays (OnCourse ps n k s) m :=
  .touches h fun _ _ same ⟨frame, iterations, calm⟩ =>
    ⟨frame.trans ((SameBut.ofMask same (Nat.or_self _)).mono fun p hp => within p (mem_decodeParts_of_besideFrames p hp)),
      (same.get (p := .ldpRegs) rfl (by decide) rfl).trans iterations, calm.mono same rfl rfl⟩

/-- A field of the pool other than the count of iterations. -/
theorem Stays.poolField {x : Fld} {v : Nat} (own : x.window = .ldpRegs) (apart : F.LDP_ITER_CNT_CNT.key ≠ x.key) :
    Stays (OnCourse ps n k s) (Machine.setF x v) :=
  .setF fun u ⟨frame, iterations, calm⟩ =>
    ⟨frame.put (own ▸ within _ (by decide)), (State.get_put_ne u v apart).trans iterations, ⟨calm.centred, calm.frames⟩⟩

theorem Stays.poolCount {x : Fld} {v : Nat} (own : x.window = .ldpRegs) (apart : F.LDP_ITER_CNT_CNT.key ≠ x.key) :
    Stays (OnCourse ps n k s) (addWrap x v) := .rd fun _ => .poolField within own apart

theorem setFrame_onCourse {track sector : Nat} {g : FrameWork → FrameWork}
    (calms : ∀ x, x.waiting = false ∧ x.rung ≠ 5 → (g x).waiting = false ∧ (g x).rung ≠ 5) :
    Stays (OnCourse ps n k s) (setFrame k track sector g) :=
  .emit fun u ⟨frame, iterations, calm⟩ => by
    refine ⟨frame.eff rfl (within .frames (by decide)), iterations, ⟨calm.centred, fun x found => ?_⟩⟩
    obtain ⟨y, stood, rfl⟩ := List.mem_map.mp found
    split
    · exact calms y (calm.frames y stood)
    · exact calm.frames y stood

theorem dropFrame_onCourse (track sector : Nat) : Stays (OnCourse ps n k s) (dropFrame k track sector) :=
  .emit fun _ ⟨frame, iterations, calm⟩ =>
    ⟨frame.eff rfl (within .frames (by decide)), iterations, ⟨calm.centred, fun x found => calm.frames x (List.mem_of_mem_filter found)⟩⟩

omit within in
theorem centreNext_onCourse : Stays (OnCourse ps n k s) (centreNext k) := by
  intro u
  by_cases course : OnCourse ps n k s u
  · exact Post.runs (centreNext_still course.calm.centred fun g member _ => (course.calm.frames g member).2) id
  · exact Post.touches (centreNext_touches k (L := 261315705963909702) rfl) fun _ _ _ on => absurd on course

theorem setPoison_onCourse (classes : List Nat) : Stays (OnCourse ps n k s) (setPoison k f classes) :=
  .rd fun _ => .bind (.beside within (storeCopy_touches _ rfl)) fun _ => .bind (.poolCount within rfl (by decide)) fun _ =>
    .beside within (raiseLdp_touches _ _ _ rfl)

theorem poisonFrame_onCourse : Stays (OnCourse ps n k s) (poisonFrame k f) := by
  have ends : Stays (OnCourse ps n k s) (do noteScrub k f .poisoned; dropFrame k f.track f.sector) :=
    .bind (.beside within (noteScrub_touches k f _ rfl)) fun _ => dropFrame_onCourse within _ _
  exact .ite (.bind (setPoison_onCourse within []) fun _ => ends) ends

theorem enterRung_onCourse {r : Nat} (low : r ≤ 3) : Stays (OnCourse ps n k s) (enterRung k f r) := by
  have count : Stays (OnCourse ps n k s) (incStop (F.LDP_RUNG_CNT_CNT (r - 1))) :=
    .rd fun _ => .ite (.poolField within (F.LDP_RUNG_CNT_CNT_window _) (rungCount_key _).symm) (.pure ())
  unfold Machine.enterRung
  refine .bind count fun _ => .bind (setFrame_onCourse within fun x _ => ⟨rfl, by dsimp only; omega⟩) fun _ => ?_
  rw [if_neg (by omega), if_neg (by omega)]
  exact centreNext_onCourse

/-- A misdirected frame tries rung 3 alone (R235). -/
theorem climb_misdirected_onCourse (stray : f.misdirected = true) (fresh : f.rung = 0) : Stays (OnCourse ps n k s) (climb k f) := by
  refine .rd fun u => ?_
  have rung : u.rungAfter k f = some 3 := by rw [State.rungAfter, if_pos stray, if_pos fresh]
  rw [rung]
  have ends (stay : List Nat) : Stays (OnCourse ps n k s) (do
      setFrame k f.track f.sector (fun f => { f with needs := stay })
      enterRung k { f with needs := stay } 3) :=
    .bind (setFrame_onCourse within fun _ calm => calm) fun _ => enterRung_onCourse within le_rfl
  exact .ite (poisonFrame_onCourse within) (.ite (.bind (setPoison_onCourse within _) fun _ => ends _) (ends _))

theorem frameDecoded_onCourse (payload : List Byte) : Stays (OnCourse ps n k s) (frameDecoded k f payload) := by
  have next : Stays (OnCourse ps n k s) (centreNext k) := centreNext_onCourse
  refine .rd fun _ => .bind (.beside within (noteDecoded_touches _ _ rfl)) fun _ => .ite ?_ ?_
  · exact .bind (.beside within (storeCopy_touches _ rfl)) fun _ => .bind (.beside within (noteScrub_touches _ _ _ rfl)) fun _ =>
      .bind (dropFrame_onCourse within _ _) fun _ => next
  · refine .bind (.beside within (storeCopy_touches _ rfl)) fun _ => .bind (.beside within (raiseLdp_touches _ _ _ rfl)) fun _ => .ite ?_ ?_
    · exact .bind (dropFrame_onCourse within _ _) fun _ => next
    · exact .bind (setFrame_onCourse within fun x calm => ⟨calm.1, by simp⟩) fun _ =>
        .bind (climb_misdirected_onCourse within rfl rfl) fun _ => next

/-- Delivering a frame counts it beside the pool only when it was held over or on rung 1 (R204, R224). -/
theorem deliverFrame_onCourse (payload : List Byte) (counts : (f.rung = 0 ∧ f.role = .heldOver) ∨ f.rung = 1 → Part.rchRegs ∈ ps) :
    Stays (OnCourse ps n k s) (deliverFrame k f payload) := by
  have count {x : Fld} (own : x.window = .rchRegs) (listed : Part.rchRegs ∈ ps) : Stays (OnCourse ps n k s) (addWrap x 1) :=
    .rd fun _ => .setF fun u ⟨frame, iterations, calm⟩ =>
      ⟨frame.put (own ▸ listed), (State.get_put_window u _ (by rw [own]; decide)).trans iterations, ⟨calm.centred, calm.frames⟩⟩
  have ends : Stays (OnCourse ps n k s) (do
      if 4 ≤ f.top then markWeak k f.layer f.track f.sector
      frameDecoded k f payload) :=
    .ite (.bind (.beside within (markWeak_touches _ _ _ _ rfl)) fun _ => frameDecoded_onCourse within payload) (frameDecoded_onCourse within payload)
  have aligned : Stays (OnCourse ps n k s) (do
      if f.rung = 1 then addWrap (F.RCH_ALIGN_CNT_CNT k.val) 1
      if 4 ≤ f.top then markWeak k f.layer f.track f.sector
      frameDecoded k f payload) :=
    .guard (fun one => .bind (count (F.RCH_ALIGN_CNT_CNT_window _) (counts (.inr one))) fun _ => ends) fun _ => ends
  exact .bind (.poolCount within rfl (by decide)) fun _ =>
    .guard (fun held => .bind (count (F.RCH_JD_REDEC_OK_CNT_CNT_window _) (counts (.inl held))) fun _ => aligned) fun _ => aligned

end

end Sys2Proof.Machine
end

section
/-! Frames that are delivered, poisoned, or go on to another rung (R19, R223, R232 to R237). -/

namespace Sys2Proof.Machine

variable {k : Fin 8} {track sector : Nat} {f g : FrameWork} {s t u : State} {Q : Unit → State → Prop}

/-- Of the parts of the DRAM controller, its decoded sectors. -/
theorem Same.sectors {L : Nat} (same : Same L s t) (apart : L.testBit Part.dram.idx = false) : t.dram.sectors = s.dram.sectors :=
  have dram : ({ t.dram with mem := [] } : Dram) = { s.dram with mem := [] } := same .dram apart
  (congrArg Dram.sectors dram :)

theorem Same.samples {L : Nat} (same : Same L s t) (apart : L.testBit Part.dram.idx = false) : t.dram.samples = s.dram.samples :=
  have dram : ({ t.dram with mem := [] } : Dram) = { s.dram with mem := [] } := same .dram apart
  (congrArg Dram.samples dram :)

/-- A program that changes no register leaves every field. -/
theorem Same.get_beside {p : Part} (same : Same (2 ^ p.idx) s t) (beside : 20 ≤ p.idx) (x : Fld) : t.get x = s.get x := by
  have low := x.window_idx_lt
  exact same.get rfl low (Nat.testBit_two_pow_of_ne (by omega))

theorem State.frameAt_same {L : Nat} (same : Same L s t) (apart : L.testBit Part.frames.idx = false) :
    t.frameAt k track sector = s.frameAt k track sector := by
  unfold State.frameAt
  rw [show t.frames = s.frames from same .frames apart]

theorem Post.addWrap {x : Fld} {n : Nat} (q : Q () (s.put x (s.get x + n))) : Act.Post (addWrap x n) s Q := Post.rdThen (Post.setF q)

/-- The buffers hold a copy of the sector of a frame. -/
def State.holds (s : State) (f : FrameWork) (p : SectorCopy → Prop) : Prop :=
  ∃ y ∈ s.dram.sectors, y.opu = f.opu ∧ y.track = f.track ∧ y.sector = f.sector ∧ p y

theorem State.holds.congr {p : SectorCopy → Prop} (h : s.holds f p) (same : t.dram.sectors = s.dram.sectors) : t.holds f p := by
  unfold State.holds
  rwa [same]

/-! ### Delivery -/

/-- A frame has been delivered: its codeword is counted, it has left detection, and its payload stands in the buffers (R19, R223). -/
structure Delivered (k : Fin 8) (f : FrameWork) (payload : List Byte) (s t : State) : Prop where
  counted : t.get F.LDP_CW_CNT_CNT = (s.get F.LDP_CW_CNT_CNT + 1) % 2 ^ 64
  gone : t.frameAt k f.track f.sector = none
  stored : t.holds f fun y => y.payload = payload ∧ y.poison = false

theorem frameDecoded_delivers {payload : List Byte} (expected : f.parity = true ∨ f.expects payload = true)
    (counted : s.get F.LDP_CW_CNT_CNT = (u.get F.LDP_CW_CNT_CNT + 1) % 2 ^ 64) :
    Act.Post (frameDecoded k f payload) s fun _ t => Delivered k f payload u t := by
  refine Post.rdThen (Post.bind (Post.touches (noteDecoded_touches f payload (L := 2 ^ Part.dram.idx) rfl) fun _ v noted => ?_))
  refine Post.ifTrue expected (Post.bind (Post.emit (Post.bind (Post.touches (noteScrub_touches k f .decoded (L := 2 ^ Part.discs.idx) rfl)
    fun _ w scrub => Post.bind (Post.dropFrame fun x gone _ drop => Post.touches (centreNext_touches k (L := 261315705963909702) rfl)
    fun _ y moves => ⟨?_, ?_, ?_⟩)))))
  · refine (moves.get (p := .ldpRegs) rfl (by decide) rfl).trans ((drop.get (p := .ldpRegs) rfl (by decide) rfl).trans ?_)
    refine (scrub.get (p := .ldpRegs) rfl (by decide) rfl).trans ((noted.get (p := .ldpRegs) rfl (by decide) rfl).trans counted)
  · exact (State.frameAt_same moves rfl).trans gone
  · refine State.holds.congr (s := w) (State.holds.congr ?_ (scrub.sectors rfl)) ((moves.sectors rfl).trans (drop.sectors rfl))
    exact ⟨_, List.mem_cons_self, rfl, rfl, rfl, rfl, rfl⟩

theorem deliverFrame_delivers {payload : List Byte} (expected : f.parity = true ∨ f.expects payload = true) :
    Act.Post (deliverFrame k f payload) s fun _ t => Delivered k f payload s t := by
  have count {v : State} {x : Fld} (own : x.window = .rchRegs) (counted : v.get F.LDP_CW_CNT_CNT = (s.get F.LDP_CW_CNT_CNT + 1) % 2 ^ 64) :
      (v.put x (v.get x + 1)).get F.LDP_CW_CNT_CNT = (s.get F.LDP_CW_CNT_CNT + 1) % 2 ^ 64 :=
    (State.get_put_window v _ (by rw [own]; decide)).trans counted
  have ends (v : State) (counted : v.get F.LDP_CW_CNT_CNT = (s.get F.LDP_CW_CNT_CNT + 1) % 2 ^ 64) : Act.Post (do
      if 4 ≤ f.top then markWeak k f.layer f.track f.sector
      frameDecoded k f payload) v fun _ t => Delivered k f payload s t :=
    Post.ite (fun _ => Post.bind (Post.touches (markWeak_touches k f.layer f.track f.sector (L := 2 ^ Part.extents.idx) rfl)
      fun _ w weak => frameDecoded_delivers expected ((weak.get (p := .ldpRegs) rfl (by decide) rfl).trans counted)))
      fun _ => frameDecoded_delivers expected counted
  have aligned (v : State) (counted : v.get F.LDP_CW_CNT_CNT = (s.get F.LDP_CW_CNT_CNT + 1) % 2 ^ 64) : Act.Post (do
      if f.rung = 1 then addWrap (F.RCH_ALIGN_CNT_CNT k.val) 1
      if 4 ≤ f.top then markWeak k f.layer f.track f.sector
      frameDecoded k f payload) v fun _ t => Delivered k f payload s t :=
    Post.ite (fun _ => Post.bind (Post.addWrap (ends _ (count (F.RCH_ALIGN_CNT_CNT_window _) counted)))) fun _ => ends v counted
  have counted : (s.put F.LDP_CW_CNT_CNT (s.get F.LDP_CW_CNT_CNT + 1)).get F.LDP_CW_CNT_CNT = (s.get F.LDP_CW_CNT_CNT + 1) % 2 ^ 64 :=
    State.get_put_self _ _ _
  exact Post.bind (Post.addWrap (Post.ite (fun _ => Post.bind (Post.addWrap (aligned _ (count (F.RCH_JD_REDEC_OK_CNT_CNT_window _) counted))))
    fun _ => aligned _ counted))

/-! ### Poison -/

/-- A data sector has been given up: it is counted, its frame has left detection, SECTOR_POISONED is raised, and its copy is poisoned (R236). -/
structure Poisoned (k : Fin 8) (f : FrameWork) (s t : State) : Prop where
  counted : t.get F.LDP_POISON_CNT_CNT = (s.get F.LDP_POISON_CNT_CNT + 1) % 2 ^ 64
  gone : t.frameAt k f.track f.sector = none
  raised : Raised (Ev.ldp ldpPOISONED) 0 k.val (sectorDetail f.vol f.lsa) s t
  stored : t.holds f fun y => y.poison = true

theorem poisonFrame_poisons (data : f.parity = false) : Act.Post (poisonFrame k f) s fun _ t => Poisoned k f s t := by
  refine Post.ifTrue (by rw [data]; rfl) (Post.bind (Post.rdThen (Post.bind (Post.emit (Post.bind (Post.addWrap (Post.raise fun v raised sig => ?_)))))))
  refine Post.bind (Post.touches (noteScrub_touches k f .poisoned (L := 2 ^ Part.discs.idx) rfl) fun _ w scrub => Post.dropFrame fun x gone _ drop => ?_)
  have after := (scrub.mono (M := partsMask [.discs, .frames]) rfl).trans (drop.mono rfl)
  refine ⟨?_, gone, ?_, ?_⟩
  · refine (after.get (p := .ldpRegs) rfl (by decide) rfl).trans ((sig.same.get (p := .ldpRegs) rfl (by decide) rfl).trans ?_)
    exact State.get_put_self _ _ _
  · refine (Raised.from (s := s) raised ?_ rfl rfl rfl rfl).of (after.get (F.EVT_COUNT_CNT_window _) (by decide) rfl) (after .evq rfl)
    exact State.get_put_window _ _ (by rw [F.EVT_COUNT_CNT_window]; decide)
  · refine State.holds.congr ?_ ((after.sectors rfl).trans (sig.same.sectors rfl))
    exact ⟨_, List.mem_cons_self, rfl, rfl, rfl, rfl⟩

/-! ### What decoding leaves of a frame (R223) -/

/-- What a frame is and where it stands on the ladder, without what its global iterations have brought. -/
def FrameWork.task (f : FrameWork) : FrameWork :=
  { f with g := 0, hyp := 0, attempts := 0, best := 0, post := [], llr := [], levels := [], extrinsic := [], hard := [], decoder := none }

theorem State.afterDecode_task (s : State) (f : FrameWork) (pass : List Int × List Int) (x : Attempt) : (s.afterDecode f pass x).task = f.task := by
  unfold State.afterDecode
  dsimp only
  split <;> rfl

theorem State.decodeRest_task (s : State) (k : Fin 8) (n : Nat) (f : FrameWork) (iters : Nat) : (s.decodeRest k n f iters).1.task = f.task := by
  induction n generalizing f iters with
  | zero => rfl
  | succ n ih =>
    rw [State.decodeRest]
    split
    · rfl
    · dsimp only
      split
      · exact s.afterDecode_task f _ _
      · exact (ih _ _).trans (s.afterDecode_task f _ _)

theorem FrameWork.at_task (h : g.task = f.task) : g.at_ k track sector = f.at_ k track sector := by
  change g.task.at_ k track sector = f.task.at_ k track sector
  rw [h]

theorem FrameWork.expects_task (h : g.task = f.task) (payload : List Byte) : g.expects payload = f.expects payload := by
  change g.task.expects payload = f.task.expects payload
  rw [h]

theorem State.holds.ofTask {p : SectorCopy → Prop} (h : s.holds g p) (task : g.task = f.task) : s.holds f p := by
  change s.holds f.task p
  rw [← task]
  exact h

/-! ### Iterations that have been made -/

/-- From `s` to `t` local iterations have been counted, and a frame of OPU `k` has become `g`; nothing else has changed (R223, R238). -/
structure Iterated (k : Fin 8) (track sector n : Nat) (g : FrameWork) (s t : State) : Prop where
  same : SameBut [.ldpRegs, .frames] s t
  counted : Added F.LDP_ITER_CNT_CNT n s t
  fields : ∀ x : Fld, x.key ≠ F.LDP_ITER_CNT_CNT.key → t.get x = s.get x
  clock : t.now = s.now
  frame : t.frameAt k track sector = some g
  calm : t.Calm k

theorem Post.iterate {n : Nat} {m : Act Unit} (calm : s.Calm k) (found : s.frameAt k track sector = some f) (task : g.task = f.task)
    (next : ∀ t, Iterated k track sector n g s t → Act.Post m t Q) : Act.Post (do
      Machine.addWrap F.LDP_ITER_CNT_CNT n
      Machine.setFrame k track sector (fun _ => g)
      m) s Q := by
  have at_ : g.at_ k track sector = true := (FrameWork.at_task task).trans (State.frameAt_at found)
  have calms : g.waiting = false ∧ g.rung ≠ 5 := by
    change g.task.waiting = false ∧ g.task.rung ≠ 5
    rw [task]
    exact calm.frames f (State.frameAt_mem found)
  refine Post.bind (Post.addWrap (Post.bind (Post.setFrame (fun _ _ => at_) fun u stands frames same clock => next u
    ⟨?_, ?_, fun x apart => ?_, clock, ?_, ?_⟩)))
  · exact ((SameBut.refl _ s).put (by decide)).trans (SameBut.ofMask same (by decide))
  · exact (same.get (p := .ldpRegs) rfl (by decide) rfl).trans (State.get_put_self _ _ _)
  · exact (same.get_beside (by decide) x).trans (State.get_put_ne _ _ apart)
  · refine stands.trans ?_
    rw [show (s.put _ _).frameAt k track sector = some f from found]
    rfl
  · refine ⟨?_, fun x member => (frames x member).elim (calm.frames x) ?_⟩
    · rw [show u.detectors = s.detectors from same .detectors rfl]
      exact calm.centred
    · rintro ⟨_, -, rfl⟩
      exact calms

end Sys2Proof.Machine
end

section
/-! The ends of global iterations and of rungs (R223, R224, R230 to R236). -/

namespace Sys2Proof.Machine

variable {k : Fin 8} {track sector n : Nat} {f g : FrameWork} {s t u : State} {Q : Unit → State → Prop}

/-! ### The pool takes up work after a frame has ended -/

theorem State.sectors_detected (h : t.detected = s.detected) : t.dram.sectors = s.dram.sectors := congrArg (·.2.1) h

theorem Delivered.pool {payload : List Byte} (h : Delivered k f payload s t) (detected : u.detected = t.detected)
    (same : Same (partsMask [.frames, .dram]) t u) : Delivered k f payload s u where
  counted := (same.get (p := .ldpRegs) rfl (by decide) rfl).trans h.counted
  gone := State.frameAt_none_detected detected h.gone
  stored := h.stored.congr (State.sectors_detected detected)

theorem Delivered.from {payload : List Byte} (h : Delivered k f payload t u) (same : t.get F.LDP_CW_CNT_CNT = s.get F.LDP_CW_CNT_CNT) :
    Delivered k f payload s u := { h with counted := same ▸ h.counted }

theorem Delivered.ofTask {payload : List Byte} (h : Delivered k g payload s t) (task : g.task = f.task) : Delivered k f payload s t where
  counted := h.counted
  gone := by
    have gone : t.frameAt k g.task.track g.task.sector = none := h.gone
    rwa [task] at gone
  stored := h.stored.ofTask task

theorem Poisoned.pool (h : Poisoned k f s t) (detected : u.detected = t.detected) (same : Same (partsMask [.frames, .dram]) t u) :
    Poisoned k f s u where
  counted := (same.get (p := .ldpRegs) rfl (by decide) rfl).trans h.counted
  gone := State.frameAt_none_detected detected h.gone
  raised := h.raised.of (same.get (F.EVT_COUNT_CNT_window _) (by decide) rfl) (same .evq rfl)
  stored := h.stored.congr (State.sectors_detected detected)

/-- What a decode has left once the pool has taken up work, beside the frames. -/
theorem OnCourse.pool {ps : List Part} (within : ∀ p ∈ decodeParts, p ∈ ps) (h : OnCourse ps n k s t) (same : Same (partsMask [.frames, .dram]) t u) :
    SameBut ps s u ∧ u.get F.LDP_ITER_CNT_CNT = n := by
  refine ⟨h.same.trans ((SameBut.ofMask same (Nat.or_self _)).mono fun p member => within p ?_),
    (same.get (p := .ldpRegs) rfl (by decide) rfl).trans h.iterations⟩
  revert p
  decide

theorem Iterated.onCourse {ps : List Part} (within : ∀ p ∈ decodeParts, p ∈ ps) (h : Iterated k track sector n g s t) :
    OnCourse ps ((s.get F.LDP_ITER_CNT_CNT + n) % 2 ^ 64) k s t := by
  refine ⟨h.same.mono fun p member => within p ?_, h.counted, h.calm⟩
  revert p
  decide

/-- A frame that has decoded keeps its course, and is delivered where its payload is the one expected (R19, R223, R235). -/
theorem deliverFrame_ends {ps : List Part} {payload : List Byte} (within : ∀ p ∈ decodeParts, p ∈ ps)
    (counts : (f.rung = 0 ∧ f.role = .heldOver) ∨ f.rung = 1 → Part.rchRegs ∈ ps) (course : OnCourse ps n k s u) :
    Act.Post (deliverFrame k f payload) u fun _ t =>
      OnCourse ps n k s t ∧ (f.parity = true ∨ f.expects payload = true → Delivered k f payload u t) := by
  by_cases expected : f.parity = true ∨ f.expects payload = true
  · exact Post.and (Post.mono (deliverFrame_delivers expected) fun _ _ delivered on => ⟨on course, fun _ => delivered⟩)
      (deliverFrame_onCourse within payload counts u)
  · exact Post.mono (deliverFrame_onCourse within payload counts u) fun _ t on => ⟨on course, (absurd · expected)⟩

/-! ### DECODE_ITERATION_DONE -/

theorem State.hasWork_fresh (fresh : f.rung = 0) (role : f.role ≠ .heldOver) (more : f.g < s.get F.LDP_CTL_GLOBAL_MAX) : s.hasWork f = true := by
  unfold State.hasWork
  rw [fresh]
  simp [more, role]

/-- Off rung 1 there is no hypothesis to give way to the next. -/
theorem State.afterDecode_off_rung1 (off : f.rung ≠ 1) (pass : List Int × List Int) (x : Attempt) : s.afterDecode f pass x =
    { f with
      attempts := min 255 (f.attempts + if f.g = 0 then 1 else 0), best := min f.best x.unsatisfied
      post := if x.unsatisfied ≤ f.best then x.post else f.post, decoder := none, llr := pass.1, levels := pass.2, extrinsic := x.extrinsic
      hard := x.hard, g := f.g + 1 } := if_neg fun one => off one.1

/-- How a global iteration ends that is not the last of its schedule: what decodes and is expected is delivered, what does not stays in detection (R223). -/
structure IterationEnds (k : Fin 8) (track sector : Nat) (f g : FrameWork) (x : Attempt) (s t : State) : Prop where
  delivers : x.ok = true → f.parity = true ∨ f.expects (hardPayload x.post) = true → Delivered k f (hardPayload x.post) s t
  uncounted : x.ok = false → t.get F.LDP_CW_CNT_CNT = s.get F.LDP_CW_CNT_CNT
  stays : x.ok = false → ∃ y, t.frameAt k track sector = some y ∧ y.unassigned = g.unassigned

theorem exec_decodeIterationDone_ends (live : s.channelsLive = true) (calm : s.Calm k) (found : s.frameAt k track sector = some f) (fresh : f.rung = 0)
    (busy : f.decoder.isSome = true) (role : f.role ≠ .heldOver) (more : f.g + 1 < s.get F.LDP_CTL_GLOBAL_MAX) {pass : List Int × List Int}
    {x : Attempt} (made : s.decodeOnce k f = (pass, x)) :
    ∃ t, exec (.decodeIterationDone k track sector) s = .next t ∧ SameBut decodeParts s t ∧ Added F.LDP_ITER_CNT_CNT x.iterations s t ∧
      IterationEnds k track sector f (s.afterDecode f pass x) x s t := by
  have begins : exec (.decodeIterationDone k track sector) s = answer _ s := if_pos live
  refine begins ▸ Post.answer ?_
  rw [found]
  refine Post.ifTrue busy (Post.ifTrue (State.hasWork_fresh fresh role (by omega)) ?_)
  rw [made]
  dsimp only
  have off : f.rung ≠ 1 := by rw [fresh]; decide
  have task := s.afterDecode_task f pass x
  generalize next : s.afterDecode f pass x = g at *
  have again : s.hasWork g = true := by
    rw [← next, State.afterDecode_off_rung1 off]
    exact State.hasWork_fresh fresh role more
  have uncounted : ¬((g.rung = 0 ∧ g.role = .heldOver) ∨ g.rung = 1) := by
    change ¬((g.task.rung = 0 ∧ g.task.role = .heldOver) ∨ g.task.rung = 1)
    rw [task]
    exact fun counts => counts.elim (fun held => role held.2) off
  have expects (p : f.parity = true ∨ f.expects (hardPayload x.post) = true) : g.parity = true ∨ g.expects (hardPayload x.post) = true := by
    rw [FrameWork.expects_task task]
    change g.task.parity = true ∨ _
    rwa [task]
  have pool (v : State) (course : OnCourse decodeParts ((s.get F.LDP_ITER_CNT_CNT + x.iterations) % 2 ^ 64) k s v)
      (ends : ∀ t, t.detected = v.detected → Same (partsMask [.frames, .dram]) v t → IterationEnds k track sector f g x s t) :
      Act.Post (do endReads; assignPool) v fun _ t =>
        SameBut decodeParts s t ∧ Added F.LDP_ITER_CNT_CNT x.iterations s t ∧ IterationEnds k track sector f g x s t := by
    refine Post.bind (Post.runs (endReads_still fun y member => (course.calm.frames y member).1) (Post.assignPool fun t detected same => ?_))
    obtain ⟨frame, iterations⟩ := course.pool (fun _ => id) same
    exact ⟨frame, iterations, ends t detected same⟩
  refine Post.iterate calm found task fun u iterated => Post.ite (fun ok => ?_) fun fails => Post.ifFalse (by rw [again]; decide) ?_
  · refine Post.bind (Post.mono (deliverFrame_ends (fun _ => id) (absurd · uncounted) (iterated.onCourse fun _ => id)) fun _ v ⟨course, delivers⟩ => ?_)
    have decoded {P : Prop} (no : x.ok = false) : P := absurd (ok.symm.trans no) (by decide)
    refine pool v course fun t detected same => ⟨fun _ expected => ?_, decoded, decoded⟩
    exact (((delivers (expects expected)).ofTask task).from (iterated.fields _ (by decide))).pool detected same
  · refine pool u (iterated.onCourse fun _ => id) fun t detected same => ⟨fun ok => absurd ok fails, fun _ => ?_, fun _ => ?_⟩
    · exact (same.get (p := .ldpRegs) rfl (by decide) rfl).trans (iterated.fields _ (by decide))
    · exact State.frameAt_some_detected detected iterated.frame

end Sys2Proof.Machine
end

section
/-! RUNG_DONE: a sector that decodes on its rung is delivered, and one that does not climbs or is poisoned (R204, R232, R233, R236). -/

namespace Sys2Proof.Machine

variable {k : Fin 8} {track sector n : Nat} {f g : FrameWork} {s t u : State} {Q : Unit → State → Prop}

/-! ### The ladder as a decode finds it -/

theorem Iterated.get (h : Iterated k track sector n g s u) {x : Fld} (apart : x.window ≠ .ldpRegs) : u.get x = s.get x :=
  h.fields x fun key => apart (Fld.window_of_key key)

theorem Iterated.mayLower (h : Iterated k track sector n g s u) (b : Nat) : u.mayLower b = s.mayLower b := by
  have boot : u.boot = s.boot := h.same .boot (by decide)
  have nv : u.nv = s.nv := h.same .nv (by decide)
  have policy (id inst : Nat) : u.policy id inst = s.policy id inst := by unfold State.policy; rw [boot, nv]
  unfold State.mayLower State.speedPin State.speedLow State.speedClass State.speedCeiling
  simp only [policy, h.get (x := F.CAL_CTL_ENABLE) (by decide), h.get (x := F.CAL_THERM_LEVEL) (by decide),
    h.get (x := F.BAY_STAT_SPEED b) (by rw [F.BAY_STAT_SPEED_window]; decide)]

theorem Iterated.nextRung (h : Iterated k track sector n g s u) (again : Bool) (r : Nat) : u.nextRung k again r = s.nextRung k again r := by
  have used : u.rungUsed k = s.rungUsed k := funext fun r => by
    unfold State.rungUsed
    rw [h.mayLower, h.get (x := F.RCH_SYNC_CTL_HYP_MAX k.val) (by rw [F.RCH_SYNC_CTL_HYP_MAX_window]; decide), h.fields F.LDP_CTL_DEEP_GLOBAL (by decide)]
  unfold State.nextRung
  rw [used]

theorem Iterated.ladderMax (h : Iterated k track sector n g s u) (c : Nat) : u.ladderMax c = s.ladderMax c := by
  unfold State.ladderMax
  split <;> exact h.fields _ (by decide)

theorem State.rungAfter_directed (directed : f.misdirected = false) : s.rungAfter k f = s.nextRung k f.again f.rung := by
  rw [State.rungAfter, directed]
  rfl

/-- With no rung after its own, a sector is given up (R233). -/
theorem Post.climb_out (last : s.rungAfter k f = none) (next : Act.Post (poisonFrame k f) s Q) : Act.Post (climb k f) s Q := by
  refine Post.rdThen ?_
  rw [last]
  exact next

/-- A sector that every class needs on the next rung enters it with all of them (R233). -/
theorem Post.climb_up {r : Nat} (rung : s.rungAfter k f = some r) (directed : f.misdirected = false) (top : f.top ≤ r) (needed : f.needs ≠ [])
    (allowed : ∀ c ∈ f.needs, r ≤ s.ladderMax c) (next : Act.Post (do
      Machine.setFrame k f.track f.sector (fun x => { x with needs := f.needs })
      enterRung k f r) s Q) : Act.Post (climb k f) s Q := by
  have stay : f.needs.filter (fun c => decide (max r f.top ≤ s.ladderMax c)) = f.needs :=
    List.filter_eq_self.mpr fun c member => by simpa [Nat.max_eq_left top] using allowed c member
  have out : f.needs.filter (fun c => decide (s.ladderMax c < max r f.top)) = [] :=
    List.filter_eq_nil_iff.mpr fun c member => by simpa [Nat.max_eq_left top] using allowed c member
  refine Post.rdThen ?_
  rw [rung, directed]
  simp only [Bool.false_eq_true, if_false, stay, out]
  refine Post.ifFalse ?_ (Post.ifFalse (fun some => absurd some.1 (by decide)) next)
  rw [List.isEmpty_iff]
  exact needed

/-- A sector has entered rung `r`: the entry is counted, and its frame stands on that rung with the same needs (R232). -/
structure Entered (k : Fin 8) (track sector r : Nat) (needs : List Nat) (s t : State) : Prop where
  rose : Rose (F.LDP_RUNG_CNT_CNT (r - 1)) s t
  stands : ∃ y, t.frameAt k track sector = some y ∧ y.rung = r ∧ y.top = r ∧ y.needs = needs

theorem enterRung_enters {r : Nat} (low : r ≤ 3) (top : f.top ≤ r) (found : s.frameAt k f.track f.sector = some f) : Act.Post (do
      setFrame k f.track f.sector (fun x => { x with needs := f.needs })
      enterRung k f r) s fun _ t => Entered k f.track f.sector r f.needs s t := by
  refine Post.bind (Post.setFrame (fun _ at_ => at_) fun u needs _ same _ => Post.bind (Post.incStop fun v rose _ fields _ => ?_))
  refine Post.bind (Post.setFrame (fun _ at_ => at_) fun w stands _ same' _ => ?_)
  refine Post.ifFalse (by omega) (Post.ifFalse (by omega) (Post.touches (centreNext_touches k (L := 261315705963909702) rfl) fun _ t moves => ⟨?_, ?_⟩))
  · have rest : t.get (F.LDP_RUNG_CNT_CNT (r - 1)) = v.get (F.LDP_RUNG_CNT_CNT (r - 1)) :=
      (moves.get (F.LDP_RUNG_CNT_CNT_window _) (by decide) rfl).trans (same'.get_beside (by decide) _)
    unfold Rose
    rw [rest, rose, same.get_beside (by decide)]
    rfl
  · rw [State.frameAt_same moves rfl, stands, show v.frameAt k f.track f.sector = u.frameAt k f.track f.sector by rw [fields]; rfl, needs, found]
    exact ⟨_, rfl, rfl, Nat.max_eq_right top, rfl⟩

theorem Entered.pool {r : Nat} {needs : List Nat} (h : Entered k track sector r needs s t) (detected : u.detected = t.detected)
    (same : Same (partsMask [.frames, .dram]) t u) : Entered k track sector r needs s u where
  rose := (same.get (F.LDP_RUNG_CNT_CNT_window _) (by decide) rfl).trans h.rose
  stands := by
    obtain ⟨y, found, rung, top, need⟩ := h.stands
    obtain ⟨z, stands, task⟩ := State.frameAt_some_detected detected found
    refine ⟨z, stands, ?_, ?_, ?_⟩
    · exact (congrArg FrameWork.rung task).trans rung
    · exact (congrArg FrameWork.top task).trans top
    · exact (congrArg FrameWork.needs task).trans need

/-! ### RUNG_DONE -/

/-- The parts that the end of a rung may touch. -/
def rungParts : List Part := .rchRegs :: decodeParts

theorem decodeParts_rungParts : ∀ p ∈ decodeParts, p ∈ rungParts := by decide

/-- What the iterations left of a rung come to: they are counted, and a payload that is expected is delivered (R223, R232). -/
structure RungEnds (k : Fin 8) (f : FrameWork) (r : FrameWork × Nat × Option (List Byte)) (s t : State) : Prop where
  frame : SameBut rungParts s t
  counted : Added F.LDP_ITER_CNT_CNT r.2.1 s t
  delivers : ∀ p, r.2.2 = some p → f.expects p = true → Delivered k f p s t

/-- RUNG_DONE, but for what becomes of a sector that has not decoded. -/
theorem exec_rungDone_ends {P : State → Prop} (live : s.channelsLive = true) (calm : s.Calm k) (found : s.frameAt k track sector = some f)
    (ladder : 1 ≤ f.rung) {r : FrameWork × Nat × Option (List Byte)} (made : s.decodeRest k 24 f 0 = r)
    (fails : r.2.2 = none → ∀ u, Iterated k track sector r.2.1 r.1.unassigned s u → Act.Post (climb k r.1.unassigned) u fun _ v =>
      OnCourse rungParts ((s.get F.LDP_ITER_CNT_CNT + r.2.1) % 2 ^ 64) k s v ∧
      ∀ t, t.detected = v.detected → Same (partsMask [.frames, .dram]) v t → P t) :
    ∃ t, exec (.rungDone k track sector) s = .next t ∧ RungEnds k f r s t ∧ (r.2.2 = none → P t) := by
  have begins : exec (.rungDone k track sector) s = answer _ s := if_pos live
  refine begins ▸ Post.answer (Post.bind (Post.runs (endReads_still fun y member => (calm.frames y member).1) (Post.rdThen ?_)))
  rw [found]
  refine Post.ifTrue ladder ?_
  rw [made]
  have task : r.1.task = f.task := made ▸ s.decodeRest_task k 24 f 0
  refine Post.iterate (g := r.1.unassigned) calm found task fun u iterated => ?_
  have course := iterated.onCourse decodeParts_rungParts
  match decoded : r.2.2 with
  | some p =>
    refine Post.bind (Post.mono (deliverFrame_ends decodeParts_rungParts (fun _ => by decide) course) fun _ v ⟨on, delivers⟩ => ?_)
    refine Post.assignPool fun t detected same => ?_
    obtain ⟨frame, iterations⟩ := on.pool decodeParts_rungParts same
    refine ⟨⟨frame, iterations, fun q same_ expected => ?_⟩, nofun⟩
    obtain rfl : p = q := Option.some.inj (decoded.symm.trans same_)
    have delivered := delivers (.inr ((FrameWork.expects_task task p).trans expected))
    exact ((delivered.ofTask task).from (iterated.fields _ (by decide))).pool detected same
  | none =>
    refine Post.bind (Post.mono (fails decoded u iterated) fun _ v ⟨on, ends⟩ => ?_)
    refine Post.assignPool fun t detected same => ?_
    obtain ⟨frame, iterations⟩ := on.pool decodeParts_rungParts same
    exact ⟨⟨frame, iterations, fun q same_ => absurd (decoded.symm.trans same_) nofun⟩, fun _ => ends t detected same⟩

theorem Poisoned.from (h : Poisoned k f u t) (iterated : Iterated k track sector n g s u) : Poisoned k f s t where
  counted := iterated.fields F.LDP_POISON_CNT_CNT (by decide) ▸ h.counted
  gone := h.gone
  raised := h.raised.from (iterated.get (by rw [F.EVT_COUNT_CNT_window]; decide)) (iterated.same .evq (by decide)) iterated.clock
    (iterated.same .nv (by decide)) (iterated.same .life (by decide))
  stored := h.stored

theorem Poisoned.ofTask (h : Poisoned k g s t) (task : g.task = f.task) : Poisoned k f s t where
  counted := h.counted
  gone := by
    have gone : t.frameAt k g.task.track g.task.sector = none := h.gone
    rwa [task] at gone
  raised := by
    have raised : Raised (Ev.ldp ldpPOISONED) 0 k.val (sectorDetail g.task.vol g.task.lsa) s t := h.raised
    rwa [task] at raised
  stored := h.stored.ofTask task

theorem State.rungAfter_task (directed : f.misdirected = false) (task : g.task = f.task) : s.rungAfter k g = s.nextRung k f.again f.rung := by
  change s.rungAfter k g.task = _
  rw [task]
  exact State.rungAfter_directed directed

/-- On the last rung, a sector that does not decode is poisoned (R233, R236). -/
theorem exec_rungDone_poisons (live : s.channelsLive = true) (calm : s.Calm k) (found : s.frameAt k track sector = some f) (ladder : 1 ≤ f.rung)
    (directed : f.misdirected = false) (data : f.parity = false) (last : s.nextRung k f.again f.rung = none)
    {r : FrameWork × Nat × Option (List Byte)} (made : s.decodeRest k 24 f 0 = r) :
    ∃ t, exec (.rungDone k track sector) s = .next t ∧ RungEnds k f r s t ∧ (r.2.2 = none → Poisoned k f s t) := by
  refine exec_rungDone_ends live calm found ladder made fun _ u iterated => ?_
  have task : r.1.unassigned.task = f.task := made ▸ s.decodeRest_task k 24 f 0
  have data' : r.1.unassigned.parity = false := (congrArg FrameWork.parity task).trans data
  refine Post.climb_out ((State.rungAfter_task directed task).trans ((iterated.nextRung _ _).trans last)) ?_
  refine Post.and (Post.mono (poisonFrame_poisons data') fun _ v poisoned on => ⟨on (iterated.onCourse decodeParts_rungParts), fun t detected same => ?_⟩)
    (poisonFrame_onCourse decodeParts_rungParts u)
  exact ((poisoned.ofTask task).from iterated).pool detected same

/-- Where another rung up to 3 is left for every class that needs it, a sector that does not decode enters that rung (R232, R233). -/
theorem exec_rungDone_climbs {rung : Nat} (live : s.channelsLive = true) (calm : s.Calm k) (found : s.frameAt k track sector = some f) (ladder : 1 ≤ f.rung)
    (directed : f.misdirected = false) (next : s.nextRung k f.again f.rung = some rung) (low : rung ≤ 3) (top : f.top ≤ rung) (needed : f.needs ≠ [])
    (allowed : ∀ c ∈ f.needs, rung ≤ s.ladderMax c) {r : FrameWork × Nat × Option (List Byte)} (made : s.decodeRest k 24 f 0 = r) :
    ∃ t, exec (.rungDone k track sector) s = .next t ∧ RungEnds k f r s t ∧ (r.2.2 = none → Entered k track sector rung f.needs s t) := by
  refine exec_rungDone_ends live calm found ladder made fun _ u iterated => ?_
  have task : r.1.unassigned.task = f.task := made ▸ s.decodeRest_task k 24 f 0
  generalize r.1.unassigned = g at *
  have needs : g.needs = f.needs := (congrArg FrameWork.needs task :)
  have tops : g.top = f.top := (congrArg FrameWork.top task :)
  obtain ⟨-, rfl, rfl⟩ := FrameWork.at_iff.mp ((FrameWork.at_task task).trans (State.frameAt_at found))
  refine Post.climb_up ((State.rungAfter_task directed task).trans ((iterated.nextRung _ _).trans next))
    ((congrArg FrameWork.misdirected task :).trans directed) (tops ▸ top) (needs ▸ needed) (fun c member => ?_) ?_
  · rw [iterated.ladderMax]
    exact allowed c (needs ▸ member)
  · have course : Stays (OnCourse rungParts ((s.get F.LDP_ITER_CNT_CNT + r.2.1) % 2 ^ 64) k s) (do
        setFrame k g.track g.sector (fun x => { x with needs := g.needs })
        enterRung k g rung) :=
      .bind (setFrame_onCourse decodeParts_rungParts fun _ calm => calm) fun _ => enterRung_onCourse decodeParts_rungParts low
    refine Post.and (Post.mono (enterRung_enters low (tops ▸ top) iterated.frame) fun _ v entered on =>
      ⟨on (iterated.onCourse decodeParts_rungParts), fun t detected same => ?_⟩) (course u)
    obtain ⟨rose, stands⟩ := entered.pool detected same
    refine ⟨?_, needs ▸ stands⟩
    rwa [Rose, iterated.fields _ (rungCount_key _)] at rose

end Sys2Proof.Machine
end

section
/-! CAPTURE_START: a capture begins in the other half, or stalls (R217, R218, R227). -/

namespace Sys2Proof.Machine

variable {k : Fin 8} {b : Fin 4} {triple : Nat} {f : FrameWork} {s t u : State} {Q : Unit → State → Prop}

/-! ### The bay -/

theorem Post.setBay_still {st : Nat} (there : s.bayState b.val = st) (q : Q () s) : Act.Post (setBay b st) s Q :=
  Post.rdThen (Post.ifFalse (fun enters => enters.1 there) (Post.pure q))

/-- A READY bay, or one that reads, comes to READING without a change to its lanes, spokes and detectors (R46). -/
theorem Post.setBay_reading (state : s.bayState b.val = bREADING ∨ s.bayState b.val = bREADY)
    (q : ∀ t, Same (partsMask (.calRegs :: .bayRegs :: .cal :: eventParts)) s t → t.bayState b.val = bREADING → Q () t) :
    Act.Post (setBay b bREADING) s Q := by
  obtain reading | ready := state
  · exact Post.setBay_still reading (q s (Same.refl _ s) reading)
  · have put := put_same s (F.BAY_STAT_STATE b.val) bREADING
    rw [F.BAY_STAT_STATE_window] at put
    have reads : (s.put (F.BAY_STAT_STATE b.val) bREADING).bayState b.val = bREADING := State.get_put_self _ _ _
    refine Post.rdThen (Post.ifTrue ⟨by rw [ready]; decide, rfl⟩ (Post.setThen (Post.ifFalse (by decide) ?_)))
    refine Post.bind (Post.touches (abortBayCal_touches b.val _ bREADING (L := partsMask [.calRegs, .cal]) rfl) fun _ t aborts => ?_)
    refine Post.bind (Post.touches (noteUse_touches b _ bREADING (L := partsMask [.cal]) rfl) fun _ u notes => ?_)
    refine Post.ifFalse (by rw [ready]; decide) (Post.raise fun v _ sig => q v ?_ ?_)
    · exact ((put.mono rfl).trans (aborts.mono rfl)).trans ((notes.mono rfl).trans (sig.same.mono rfl))
    · have kept {L : Nat} {x y : State} (same : Same L x y) (apart : L.testBit Part.bayRegs.idx = false) : y.bayState b.val = x.bayState b.val :=
        same.get (F.BAY_STAT_STATE_window _) (by decide) apart
      rw [kept sig.same rfl, kept notes rfl, kept aborts rfl, reads]

/-! ### κ coefficients -/

theorem loadKappas_keeps_mode (layer : Nat) : Keeps (fun s => s.get (F.RCH_JD_STAT_MODE k.val)) (loadKappas k layer) := by
  have apart : ∀ k : Fin 8, ∀ x ∈ [F.RCH_JD_KAPPA_I_INNER k.val, F.RCH_JD_KAPPA_I_OUTER k.val, F.RCH_JD_KAPPA_C_INNER k.val,
      F.RCH_JD_KAPPA_C_OUTER k.val, F.RCH_JD_KAPPA_O_INNER k.val, F.RCH_JD_KAPPA_O_OUTER k.val], (F.RCH_JD_STAT_MODE k.val).key ≠ x.key := by decide
  have put {x : Fld} {v : Int} (own : (F.RCH_JD_STAT_MODE k.val).key ≠ x.key) : Keeps (fun s => s.get (F.RCH_JD_STAT_MODE k.val)) (setI x v) :=
    .setF fun u => State.get_put_ne u _ own
  refine .bind (.emit fun _ => rfl) fun _ => .bind .rd fun s => ?_
  split
  · exact .bind (put (apart k _ (by simp))) fun _ => .bind (put (apart k _ (by simp))) fun _ => .bind (put (apart k _ (by simp))) fun _ =>
      .bind (put (apart k _ (by simp))) fun _ => .bind (put (apart k _ (by simp))) fun _ => put (apart k _ (by simp))
  · exact .pure ()

/-! ### A capture that begins -/

/-- The parts that a capture which begins may touch. -/
def captureParts : List Part := .rchRegs :: .calRegs :: .bayRegs :: .spokes :: .detectors :: .frames :: .cal :: .dram :: eventParts

/-- No frame of an OPU is in detection. -/
def State.noFrames (s : State) (k : Fin 8) : Prop := ∀ f ∈ s.frames, f.opu ≠ k.val

/-- Frames that a change leaves as they are leave the state as it is. -/
theorem Runs.frames_still {g : FrameWork → FrameWork} (still : ∀ f ∈ s.frames, g f = f) : Act.Runs (Machine.emit (.frames fun l => l.map g)) s () s := by
  have same : s.frames.map g = s.frames := (List.map_congr_left still).trans (List.map_id' _)
  intro next
  change Prog.run (next ()) { s with frames := s.frames.map g } = _
  rw [same]

theorem holdOver_still (none : s.noFrames k) : Act.Runs (holdOver k triple) s () s :=
  Runs.frames_still fun f member => if_neg fun held => none f member held.1

/-- A detector as a capture of a triple begins to fill a half. -/
def Detector.filling (half : Bool) (triple now : Nat) (d : Detector) : Detector :=
  { d with triple := some triple, last := some triple, half := half, began := now, first := d.last.isNone, second := false, margin := 0 }

/-- A capture of a triple has begun: the detector fills its other half, in which no sample is left, and the bay reads (R217, R227). -/
structure CaptureBegins (k : Fin 8) (triple : Nat) (s t : State) : Prop where
  same : SameBut captureParts s t
  reading : t.bayState (bayOf k).val = bREADING
  detector : t.detectors[k] = s.detectors[k].filling (!s.detectors[k].half) triple s.now
  samples : ∀ r ∈ t.dram.samples, r.opu = k.val → r.half ≠ t.detectors[k].half
  mode : t.get (F.RCH_JD_STAT_MODE k.val) = 1
  others : ∀ j : Fin 8, j ≠ k → t.detectors[j] = s.detectors[j]

theorem CaptureBegins.goesOn (h : CaptureBegins k triple s t) (same : SameBut [.rchRegs, .cal, .frames, .dram] t u)
    (samples : u.dram.samples = t.dram.samples) (mode : u.get (F.RCH_JD_STAT_MODE k.val) = t.get (F.RCH_JD_STAT_MODE k.val)) :
    CaptureBegins k triple s u := by
  have detectors : u.detectors = t.detectors := same .detectors (by decide)
  refine ⟨h.same.trans (same.mono (by decide)), ?_, ?_, ?_, mode.trans h.mode, ?_⟩
  · exact (same .bayRegs (by decide) _ (F.BAY_STAT_STATE_window _)).trans h.reading
  · rw [detectors]; exact h.detector
  · rw [detectors, samples]; exact h.samples
  · rw [detectors]; exact h.others

/-- The state in which OPU `k` has begun to fill a half that no work is pending on: its samples are given up, and the frames that were only kept for
their neighbours (R227). -/
def State.fillHalf (s : State) (k : Fin 8) (half : Bool) (triple now : Nat) : State :=
  State.put ((Eff.frames fun l => l.filter fun f => !(f.opu == k.val && f.half == half && s.frameSpent f)).apply
    ((Eff.dram fun x => { x with samples := x.samples.filter fun r => !(r.opu == k.val && r.half == half) }).apply
      ((Eff.detector k (Detector.filling half triple now)).apply s))) (F.RCH_JD_STAT_MODE k.val) 1

theorem State.fillHalf_detectors (s : State) (k : Fin 8) (half : Bool) (triple now : Nat) :
    (s.fillHalf k half triple now).detectors = ((Eff.detector k (Detector.filling half triple now)).apply s).detectors := rfl

theorem State.fillHalf_samples (s : State) (k : Fin 8) (half : Bool) (triple now : Nat) :
    (s.fillHalf k half triple now).dram.samples = s.dram.samples.filter fun r => !(r.opu == k.val && r.half == half) := rfl

theorem State.fillHalf_begins (same : SameBut captureParts s u) (detectors : u.detectors = s.detectors) (reading : u.bayState (bayOf k).val = bREADING) :
    CaptureBegins k triple s (u.fillHalf k (!s.detectors[k].half) triple s.now) := by
  have self : (u.fillHalf k (!s.detectors[k].half) triple s.now).detectors[k] = s.detectors[k].filling (!s.detectors[k].half) triple s.now := by
    rw [State.fillHalf_detectors, apply_detector_self, detectors]
  refine ⟨?_, ?_, self, fun r member opu half => ?_, State.get_put_self _ _ _, fun j ne => ?_⟩
  · unfold State.fillHalf
    refine ((SameBut.eff (SameBut.eff (SameBut.eff same rfl ?_) rfl ?_) rfl ?_).put ?_) <;> simp [Eff.part, captureParts]
  · unfold State.bayState State.fillHalf
    rw [State.get_put_window _ _ (by rw [F.BAY_STAT_STATE_window, F.RCH_JD_STAT_MODE_window]; decide)]
    simpa only [State.bayState, State.get, apply_frames_frame, apply_dram_frame, apply_detector_frame] using reading
  · rw [State.fillHalf_samples] at member
    have kept : (!(r.opu == k.val && r.half == !s.detectors[k].half)) = true := (List.mem_filter.mp member).2
    rw [half, self, opu] at kept
    simp [Detector.filling] at kept
  · rw [State.fillHalf_detectors, apply_detector_ne _ u ne.symm, detectors]

theorem State.noFrames.nextMargin (none : s.noFrames k) : s.nextMargin k = 0 := by
  have rung6 : s.frames.find? (fun f => f.opu == k.val && f.rung == 6) = Option.none :=
    List.find?_eq_none.mpr fun f member found => none f member (beq_iff_eq.mp (Bool.and_eq_true_iff.mp found).1)
  rw [State.nextMargin, rung6]

theorem State.noFrames.halfPending (none : s.noFrames k) (half : Bool) : s.halfPending k half = false :=
  List.any_eq_false.mpr fun f member pending =>
    none f member (beq_iff_eq.mp (Bool.and_eq_true_iff.mp (Bool.and_eq_true_iff.mp pending).1).1)

/-- The end of a capture's start: spot C stays where it is, and the pool takes up work (R230, R232). -/
theorem CaptureBegins.ends (h : CaptureBegins k triple s t) (centred : s.detectors[k].centred = none) (unheld : t.noFrames k) : Act.Post (do
    centreNext k
    Machine.assignPool) t fun _ u => CaptureBegins k triple s u := by
  refine Post.bind (Post.runs (centreNext_still ?_ fun g member opu => absurd opu (unheld g member)) ?_)
  · rw [h.detector]
    exact centred
  · refine Post.assignPool fun u detected same => h.goesOn ((SameBut.ofMask same (Nat.or_self _)).mono (by decide)) ?_ ?_
    · exact congrArg (·.2.2) detected
    · exact same.get (F.RCH_JD_STAT_MODE_window _) (by decide) rfl

/-- An OPU without frames has none to hold over and none that waits (R224). -/
theorem CaptureBegins.holds (h : CaptureBegins k triple s t) (centred : s.detectors[k].centred = none) (unheld : t.noFrames k) (next : Bool)
    (last : Option Nat) : Act.Post (do
      if next then holdOver k triple
      else if last ≠ some triple then leaveWaiting k
      centreNext k
      Machine.assignPool) t fun _ u => CaptureBegins k triple s u := by
  have ends := h.ends centred unheld
  refine Post.ite (fun _ => Post.bind (Post.runs (holdOver_still unheld) ends)) fun _ => Post.ite (fun _ => ?_) fun _ => ends
  exact Post.bind (Post.runs (leaveWaiting_still fun g member opu => absurd opu (unheld g member)) ends)

/-- The κ coefficients of another layer are loaded first, where they are due (R218). -/
theorem CaptureBegins.loads (h : CaptureBegins k triple s t) (centred : s.detectors[k].centred = none) (unheld : t.noFrames k) (due : Bool)
    (layer : Nat) (next : Bool) (last : Option Nat) : Act.Post (do
      if due then loadKappas k layer
      if next then holdOver k triple
      else if last ≠ some triple then leaveWaiting k
      centreNext k
      Machine.assignPool) t fun _ u => CaptureBegins k triple s u := by
  refine Post.ite (fun _ => Post.bind ?_) fun _ => h.holds centred unheld next last
  refine Post.andTouches (Post.keeps (loadKappas_keeps_mode _) fun _ u mode same => ?_) (loadKappas_touches k _ (L := partsMask [.rchRegs, .cal]) rfl)
  have frames : u.frames = t.frames := same .frames rfl
  exact (h.goesOn ((SameBut.ofMask same (Nat.or_self _)).mono (by decide)) (same.samples rfl) mode).holds centred
    (fun f member => unheld f (frames ▸ member)) next last

/-- A capture of an OPU without frames in detection begins, from READY or READING (R227). -/
theorem exec_captureStart_begins (live : s.channelsLive = true) (enabled : s.get F.LDP_CTL_ENABLE = 1) (bound : s.get (F.RCH_JD_STAT_UNBOUND k.val) = 0)
    (centred : s.detectors[k].centred = none) (waits : ∀ g ∈ s.frames, g.waiting = false)
    (state : s.bayState (bayOf k).val = bREADING ∨ s.bayState (bayOf k).val = bREADY) (unheld : s.noFrames k) :
    ∃ t, exec (.captureStart k triple) s = .next t ∧ CaptureBegins k triple s t := by
  have begins : exec (.captureStart k triple) s = answer _ s := if_pos live
  refine begins ▸ Post.answer (Post.ifTrue ⟨state, enabled⟩ (Post.bind (Post.runs (endReads_still waits) (Post.bind (Post.clock ?_)))))
  refine Post.setBay_reading state fun u same reading _ clock => Post.rdThen ?_
  have frames : u.frames = s.frames := same .frames rfl
  have detectors : u.detectors = s.detectors := same .detectors rfl
  have unbound : u.get (F.RCH_JD_STAT_UNBOUND k.val) = 0 := (same.get (F.RCH_JD_STAT_UNBOUND_window _) (by decide) rfl).trans bound
  have none : u.noFrames k := fun f member => unheld f (frames ▸ member)
  have filled : CaptureBegins k triple s (u.fillHalf k (!s.detectors[k].half) triple s.now) :=
    State.fillHalf_begins ((SameBut.ofMask same (Nat.or_self _)).mono (by decide)) detectors reading
  refine Post.ifFalse (by simp [unbound]) (Post.ifFalse (by rw [none.halfPending]; decide) ?_)
  rw [unbound, none.nextMargin, clock, detectors]
  refine Post.emitThen (Post.emitThen (Post.emitThen (Post.setThen ?_)))
  exact filled.loads centred (fun f member => none f (List.mem_of_mem_filter member)) _ _ _ _

/-! ### A capture that stalls -/

/-- The parts that a capture which stalls may touch. -/
def stallParts : List Part := .rchRegs :: .ldpRegs :: .detectors :: .frames :: .dram :: eventParts

/-- A capture has stalled: nothing is captured, and CAPTURE_STALL is raised and shown (R227). -/
structure CaptureStalls (k : Fin 8) (s t : State) : Prop where
  same : SameBut stallParts s t
  stopped : t.detectors[k].triple = none
  flagged : t.get F.LDP_STAT_STALL = 1
  mode : t.get (F.RCH_JD_STAT_MODE k.val) = 3
  raised : Raised (Ev.ldp ldpCAPTURE_STALL) 0 k.val 0 s t

/-- While work is pending on a frame of the half to be filled, a capture stalls (R227). -/
theorem exec_captureStart_stalls (live : s.channelsLive = true) (enabled : s.get F.LDP_CTL_ENABLE = 1) (bound : s.get (F.RCH_JD_STAT_UNBOUND k.val) = 0)
    (calm : s.Calm k) (reading : s.bayState (bayOf k).val = bREADING) (member : f ∈ s.frames) (opu : f.opu = k.val)
    (half : f.half = !s.detectors[k].half) (pending : s.frameSpent f = false) :
    ∃ t, exec (.captureStart k triple) s = .next t ∧ CaptureStalls k s t := by
  have begins : exec (.captureStart k triple) s = answer _ s := if_pos live
  have waits : ∀ g ∈ s.frames, g.waiting = false := fun g member => (calm.frames g member).1
  have busy : s.halfPending k (!s.detectors[k].half) = true :=
    List.any_eq_true.mpr ⟨f, member, by simp [opu, half, pending]⟩
  refine begins ▸ Post.answer (Post.ifTrue ⟨.inl reading, enabled⟩ (Post.bind (Post.runs (endReads_still waits) (Post.bind ?_))))
  refine Post.setBay_still reading (Post.rdThen (Post.ifFalse (by simp [bound]) (Post.ifTrue busy ?_)))
  refine Post.emitThen (Post.bind (Post.incStop fun u _ _ fields counts => Post.setThen (Post.setThen (Post.bind (Post.raise fun v raised sig => ?_)))))
  rw [F.RCH_JD_STALL_CNT_CNT_window] at counts
  have clock : u.now = s.now := by rw [fields]; rfl
  have stopped : u.detectors[k] = { s.detectors[k] with triple := none } := by
    rw [show u.detectors = _ from counts .detectors rfl]
    exact apply_detector_self k _ s
  have before : SameBut [.rchRegs, .ldpRegs, .detectors] s ((u.put F.LDP_STAT_STALL 1).put (F.RCH_JD_STAT_MODE k.val) 3) :=
    ((((SameBut.refl _ s).eff rfl (by simp [Eff.part])).trans ((SameBut.ofMask (l := [.rchRegs]) counts rfl).mono (by simp))).put (by simp)).put (by simp)
  have detectors : v.detectors = u.detectors := sig.same .detectors rfl
  have frames : v.frames = s.frames := (sig.same .frames rfl).trans (before .frames (by decide))
  refine Post.bind (Post.runs (centreNext_still ?_ fun g found _ => (calm.frames g (frames ▸ found)).2) (Post.assignPool fun t _ same => ?_))
  · rw [detectors, stopped]; exact calm.centred
  · refine ⟨?_, ?_, ?_, ?_, ?_⟩
    · exact ((before.mono (by decide)).trans (SameBut.ofMask sig.same (by decide))).trans ((SameBut.ofMask same (Nat.or_self _)).mono (by decide))
    · rw [show t.detectors = v.detectors from same .detectors rfl, detectors, stopped]
    · refine (same.get (p := .ldpRegs) rfl (by decide) rfl).trans ((sig.same.get (p := .ldpRegs) rfl (by decide) rfl).trans ?_)
      exact (State.get_put_window _ _ (by rw [F.RCH_JD_STAT_MODE_window]; decide)).trans (State.get_put_self _ _ _)
    · refine (same.get (F.RCH_JD_STAT_MODE_window _) (by decide) rfl).trans ((sig.same.get (F.RCH_JD_STAT_MODE_window _) (by decide) rfl).trans ?_)
      exact State.get_put_self _ _ _
    · refine (Raised.from (s := s) raised (before .evtRegs (by decide) _ (F.EVT_COUNT_CNT_window _)) (before .evq (by decide)) clock
        (before .nv (by decide)) (before .life (by decide))).of ?_ (same .evq rfl)
      exact same.get (F.EVT_COUNT_CNT_window _) (by decide) rfl

end Sys2Proof.Machine
end

section
/-! The count of OUTER_REBUILD through what a rebuilt sector may set off: rungs, re-reads and a lower speed class (R232, R234, R274). -/

namespace Sys2Proof.Machine

variable {b : Fin 4} {k : Fin 8}

/-- A program that leaves the count of OUTER_REBUILD. -/
abbrev KeepsRebuilds {α : Type} (m : Act α) : Prop := Keeps (countOf (Ev.ldp ldpOUTER_REBUILD)) m

/-- The events of the bays are others. -/
theorem rebuild_apart {b i : Nat} (bay : b < 4) (index : i < 32) : Ev.ldp ldpOUTER_REBUILD % 512 ≠ Ev.bay b i % 512 := by
  simp only [Ev.bay, Ev.ldp, ldpOUTER_REBUILD]
  omega

theorem raiseBay_keepsRebuilds {b i sub inst detail : Nat} (bay : b < 4) (index : i < 32) : KeepsRebuilds (raiseBay b i sub inst detail) :=
  .count_raise (rebuild_apart bay index)

theorem setBay_keepsRebuilds (b : Fin 4) (st : Nat) : KeepsRebuilds (setBay b st) :=
  setBay_keeps_count b st (rebuild_apart b.isLt (by decide))

/-! ### Speed classes (R274, R276, R280) -/

theorem setSpeed_keepsRebuilds (cls : Nat) : KeepsRebuilds (setSpeed b cls) := by
  refine .bind .rd fun s => .ite (.bind (.count (Touches.setF (F.BAY_STAT_SPEED_window _) rfl)) fun _ => .bind (.count (.forAll fun n => ?_)) fun _ =>
    raiseBay_keepsRebuilds b.isLt (by decide)) (.pure ())
  exact .bind .rd fun _ => .ite (Touches.setF (F.RCH_LANE_FREQ_FREQ_window _) rfl) (.pure ())

theorem parkBay_keepsRebuilds (b : Fin 4) : KeepsRebuilds (parkBay b) := by
  have retracts : Touches allButEvt (forAll (opusOf b) fun j => do
      retract j
      emit (.optic j fun o => { o with lostAt := none })) :=
    .forAll fun j => (retract_touches j rfl).bind fun _ => Touches.emitM (M := 2 ^ Part.optics.idx) rfl rfl
  refine .bind .rd fun _ => .bind (.count (.forAll fun m => stopMotor_touches m rfl)) fun _ => .ite ?_ (.pure ())
  exact .bind (setBay_keepsRebuilds b _) fun _ => .bind (.count retracts) fun _ => .bind (.count (parkSled_touches _ rfl)) fun _ =>
    .bind (.count (parkSled_touches _ rfl)) fun _ => finishPark_keeps_count b (rebuild_apart b.isLt (by decide))

theorem settleBay_keepsRebuilds (b : Fin 4) : KeepsRebuilds (settleBay b) := by
  have bay (st : Nat) : KeepsRebuilds (setBay b st) := setBay_keepsRebuilds b st
  have acquires : Touches allButEvt (forAll (opusOf b) fun j => do
      let s ← rd
      let o := s.optics[j]
      if s.get (F.BAY_OPT_STAT_FOCUS_LOCKED j.val) = 0 ∧ o.phase = .idle ∧ o.lostAt.isNone ∧ s.laserAllowed j ∧
          s.get (F.BAY_OPT_CTL_ENABLE j.val) = 1 ∧ s.engineStopped (engineOf j) = false then
        beginAcquire j (s.get (F.BAY_OPT_CMD_LAYER j.val))) :=
    .forAll fun j => .bind .rd fun _ => .ite (beginAcquire_touches j _ rfl) (.pure ())
  have parks : KeepsRebuilds (emit (.bay b fun y => { y with parkLater := false })) := .emit fun _ => rfl
  refine .bind .rd fun _ => .ite (.ite (.bind parks fun _ => .bind (parkBay_keepsRebuilds b) fun _ => ?_) (.ite (.bind (bay _) fun _ => ?_) ?_)) ?_
  all_goals
    refine .bind .rd fun _ => .whenThen (bay _) fun _ => .bind .rd fun _ => .ite (.ite (bay _) (.count acquires)) (.pure ())

theorem motorRefuse_keepsRebuilds (r : Nat) : KeepsRebuilds (motorRefuse k r) :=
  .bind (.count (setMotorResult_touches k r rfl)) fun _ => raiseBay_keepsRebuilds (by omega) (by decide)

theorem motorTarget_keepsRebuilds (target : Int) : KeepsRebuilds (motorTarget k target) := by
  refine .bind .rd fun s => .ite (motorRefuse_keepsRebuilds _) (.bind (.count (setMotorResult_touches k 0 rfl)) fun _ =>
    .bind (.emit fun _ => rfl) fun _ => .ite (.count (beginCatch_touches k rfl)) (.ite ?_ (.pure ())))
  exact .count (setMotor_touches k _ rfl)

theorem runMotor_keepsRebuilds (cls : Nat) : KeepsRebuilds (runMotor k cls) := by
  refine .bind .rd fun s => .bind (.count (Touches.setF (F.MOT_CMD_CLASS_window _) rfl)) fun _ => .ite (motorRefuse_keepsRebuilds _) ?_
  exact .bind (motorTarget_keepsRebuilds _) fun _ => .whenThen (setSpeed_keepsRebuilds cls) fun _ => settleBay_keepsRebuilds _

theorem takeSpeed_keepsRebuilds (cls : Nat) : KeepsRebuilds (takeSpeed b cls) := by
  refine .bind .rd fun s => .bind (.emit fun _ => rfl) fun _ => .bind (.count (resetWindow_touches b rfl)) fun _ => .ite ?_
    (.ite (runMotor_keepsRebuilds _) (setSpeed_keepsRebuilds _))
  exact .bind (.count (Touches.setF (F.MOT_CMD_CLASS_window _) rfl)) fun _ => .bind (.emit fun _ => rfl) fun _ => setSpeed_keepsRebuilds _

theorem lowerSpeed_keepsRebuilds (b : Fin 4) : KeepsRebuilds (lowerSpeed b) := by
  have clamps : KeepsRebuilds (clampAdapt F.CAL_ADAPT_STAT_SPEED_CLAMP b.val 0) :=
    .bind (.count .getF) fun v => .ite (.bind (.count (Touches.setF (p := .calRegs) rfl rfl)) fun _ => .count_raise (by decide)) (.pure ())
  refine .bind .rd fun s => .ite (.ite (.bind (.count (unclampAdapt_touches _ _ rfl rfl)) fun _ => takeSpeed_keepsRebuilds _) ?_) (.pure ())
  exact .bind (.count (resetWindow_touches b rfl)) fun _ => .ite clamps (.pure ())

/-! ### Re-reads under spot C (R232) -/

theorem optRefuse_keepsRebuilds (result : Nat) : KeepsRebuilds (optRefuse k result) :=
  .bind (.count (Touches.setF (F.BAY_OPT_STAT_RESULT_window _) rfl)) fun _ => raiseBay_keepsRebuilds (by omega) (by decide)

theorem optCommand_keepsRebuilds (cmd layer : Nat) (dist : Int) (atSpoke : Bool) (spoke : Nat) :
    KeepsRebuilds (optCommand k cmd layer dist atSpoke spoke) := by
  have refuses (result : Nat) : KeepsRebuilds (optRefuse k result) := optRefuse_keepsRebuilds result
  have pends : KeepsRebuilds (emit (.optic k fun o =>
      { o with phase := .pending, frames := 0, goal := layer, dist := dist, spoke := some spoke })) := .emit fun _ => rfl
  refine .bind .rd fun s => .ite (refuses _) (.ite (refuses _) (.ite ?_ (.ite (.count (retract_touches k rfl)) (.ite (refuses _) (.ite (refuses _)
    (.ite (refuses _) (.ite ?_ (.ite (.count (beginAcquire_touches k _ rfl)) (.ite (.count (beginLayerJump_touches k _ _ rfl))
    (.ite (.count (beginPullIn_touches k _ rfl)) (.count (beginJump_touches k _ _ rfl))))))))))))
  · exact .count (Touches.setF (F.BAY_OPT_STAT_RESULT_window _) rfl)
  · exact .bind (.count (Touches.setF (F.BAY_OPT_CMD_CMD_window _) rfl)) fun _ =>
      .whenThen (.count (Touches.setF (F.BAY_OPT_STAT_LAYER_JUMP_window _) rfl)) fun _ => pends

theorem readJump_keepsRebuilds (dist : Int) (atSpoke : Option Nat) : KeepsRebuilds (readJump k dist atSpoke) :=
  .bind .rd fun _ => .ite (.bind (.count (Touches.setF (F.BAY_OPT_TARGET_TRACK_window _) rfl)) fun _ => optCommand_keepsRebuilds _ _ _ _ _) (.pure ())

theorem centreNext_keepsRebuilds : KeepsRebuilds (centreNext k) := by
  have moves (g : Detector → Detector) (dist : Int) : KeepsRebuilds (do emit (.detector k g); readJump k dist none) :=
    .bind (.emit fun _ => rfl) fun _ => readJump_keepsRebuilds dist none
  refine .bind .rd fun s => .ite ?_ (.pure ())
  split
  · split
    · exact .ite (moves _ _) (.pure ())
    · exact .pure ()
  · exact .ite (moves _ _) (.pure ())

end Sys2Proof.Machine
end

section
/-! OUTER_REBUILD_DONE: an outer codeword that is rebuilt is counted once, whatever becomes of the frames of its sectors (R233, R234). -/

namespace Sys2Proof.Machine

variable {k : Fin 8} {track sector : Nat} {f : FrameWork} {s : State}

/-- What counts the rebuilds: the counter of the pool, and the count of OUTER_REBUILD (R234). -/
def State.rebuilds (s : State) : Nat × Nat := (s.get F.LDP_OUTER_CNT_CNT, countOf (Ev.ldp ldpOUTER_REBUILD) s)

/-- Every part but the registers of the pool. -/
def allButPool : Nat := 2 ^ 61 - 1 - 2 ^ Part.ldpRegs.idx

theorem Keeps.getF {β : Type} {v : State → β} (x : Fld) : Keeps v (Machine.getF x) := .bind .rd fun _ => .pure _

theorem Keeps.rebuilds {α : Type} {m : Act α} (pool : Touches allButPool m) (count : KeepsRebuilds m) : Keeps State.rebuilds m := by
  intro s
  obtain ⟨a, t, runs, same⟩ := pool s
  obtain ⟨_, u, runs', kept⟩ := count s
  obtain rfl := Runs.det runs runs'
  exact ⟨a, t, runs, Prod.ext (same.get (p := .ldpRegs) rfl (by decide) rfl) kept⟩

theorem Keeps.rebuilds_touches {α : Type} {L : Nat} {m : Act α} (h : Touches L m) (pool : L.testBit Part.ldpRegs.idx = false)
    (events : L.testBit Part.evtRegs.idx = false) : Keeps State.rebuilds m :=
  .touches h fun _ _ same => Prod.ext (same.get (p := .ldpRegs) rfl (by decide) pool) (same.get (F.EVT_COUNT_CNT_window _) (by decide) events)

/-- Another field of the pool is no count of rebuilds. -/
theorem Keeps.rebuilds_poolField {x : Fld} {v : Nat} (own : x.window = .ldpRegs) (apart : F.LDP_OUTER_CNT_CNT.key ≠ x.key) :
    Keeps State.rebuilds (Machine.setF x v) :=
  .setF fun s => Prod.ext (State.get_put_ne s v apart) (State.get_put_window s v (by rw [own, F.EVT_COUNT_CNT_window]; decide))

theorem setFrame_keeps_rebuilds (g : FrameWork → FrameWork) : Keeps State.rebuilds (setFrame k track sector g) := .emit fun _ => rfl

theorem dropFrame_keeps_rebuilds : Keeps State.rebuilds (dropFrame k track sector) := .emit fun _ => rfl

theorem storeCopy_keeps_rebuilds (x : SectorCopy) : Keeps State.rebuilds (storeCopy x) := .emit fun _ => rfl

theorem noteScrub_keeps_rebuilds (how : ScrubEnd) : Keeps State.rebuilds (noteScrub k f how) :=
  .rebuilds_touches (noteScrub_touches k f how (L := 2 ^ Part.discs.idx) rfl) rfl rfl

theorem centreNext_keeps_rebuilds : Keeps State.rebuilds (centreNext k) := .rebuilds (centreNext_touches k rfl) centreNext_keepsRebuilds

theorem setPoison_keeps_rebuilds (classes : List Nat) : Keeps State.rebuilds (setPoison k f classes) :=
  .bind .rd fun _ => .bind (storeCopy_keeps_rebuilds _) fun _ => .bind (.bind (.getF _) fun _ => .rebuilds_poolField rfl (by decide)) fun _ =>
    .rebuilds (raiseLdp_touches _ _ _ rfl) (.count_raise (by decide))

theorem poisonFrame_keeps_rebuilds : Keeps State.rebuilds (poisonFrame k f) :=
  .whenThen (setPoison_keeps_rebuilds []) fun _ => .bind (noteScrub_keeps_rebuilds _) fun _ => dropFrame_keeps_rebuilds

theorem rungCount_key_outer (r : Nat) : F.LDP_OUTER_CNT_CNT.key ≠ (F.LDP_RUNG_CNT_CNT r).key := by
  simp only [Fld.key, F.LDP_RUNG_CNT_CNT, F.LDP_OUTER_CNT_CNT, F.ldpBase]
  omega

theorem enterRung_keeps_rebuilds (r : Nat) : Keeps State.rebuilds (enterRung k f r) := by
  have count : Keeps State.rebuilds (incStop (F.LDP_RUNG_CNT_CNT (r - 1))) :=
    .bind (.getF _) fun _ => .ite (.rebuilds_poolField (F.LDP_RUNG_CNT_CNT_window _) (rungCount_key_outer _)) (.pure ())
  have lowers : Keeps State.rebuilds (lowerSpeed (bayOf k)) := .rebuilds (lowerSpeed_touches _ rfl) (lowerSpeed_keepsRebuilds _)
  exact .bind count fun _ => .bind (setFrame_keeps_rebuilds _) fun _ => .whenThen (.emit fun _ => rfl) fun _ => .whenThen lowers fun _ =>
    centreNext_keeps_rebuilds

theorem climb_keeps_rebuilds : Keeps State.rebuilds (climb k f) := by
  refine .bind .rd fun s => ?_
  split
  · exact poisonFrame_keeps_rebuilds
  · exact .ite poisonFrame_keeps_rebuilds (.whenThen (setPoison_keeps_rebuilds _) fun _ => .bind (setFrame_keeps_rebuilds _) fun _ =>
      enterRung_keeps_rebuilds _)

/-- A sector that takes its rebuilt content, or climbs, is no further rebuild (R234). -/
theorem takeRebuilt_keeps_rebuilds (payload : List Byte) : Keeps State.rebuilds (takeRebuilt k track sector payload) := by
  refine .bind .rd fun s => ?_
  split
  · exact .pure ()
  · refine .ite (.bind (.rebuilds_touches (noteDecoded_touches _ _ (L := 2 ^ Part.dram.idx) rfl) rfl rfl) fun _ => ?_) climb_keeps_rebuilds
    exact .bind (storeCopy_keeps_rebuilds _) fun _ => .bind (noteScrub_keeps_rebuilds _) fun _ => dropFrame_keeps_rebuilds

/-- Of a frame on rung 3 or above, what a rebuild finds when its event comes (R234). -/
theorem exec_outerRebuildDone {j : Fin 4} {d : Disc} {b : Band} {sectors : List (Option (List Byte))} (live : s.channelsLive = true)
    (disc : s.discIn (bayOf k) = some d) (works : bitAt (s.get F.LDP_STAT_OUTER_FAILED) j.val = false) (found : s.frameAt k track sector = some f)
    (high : 3 ≤ f.rung) (band : d.band (bandOf (k.val % 2) f.layer (zoneOf track)) = b)
    (sectors_eq : (b.blockPlaces (b.frameAt (track % bandTracks) sector / (16 + b.parity))).map (s.blockSector k b) = sectors)
    (lacks : sectors.any Option.isNone = true) :
    (∀ l, rebuildBlock b.parity sectors = some l → ∃ t, exec (.outerRebuildDone k j track sector) s = .next t ∧
      t.get F.LDP_OUTER_CNT_CNT = (s.get F.LDP_OUTER_CNT_CNT + 1) % 2 ^ 64 ∧ Counted (Ev.ldp ldpOUTER_REBUILD) s t) ∧
    (rebuildBlock b.parity sectors = none → exec (.outerRebuildDone k j track sector) s = .next s) := by
  have begins : exec (.outerRebuildDone k j track sector) s = answer _ s := if_pos live
  rw [begins, disc, found]
  dsimp only [Option.map_some, Option.getD_some]
  rw [band, sectors_eq, if_pos ⟨works, by simpa using high, lacks⟩]
  refine ⟨fun l rebuilt => ?_, fun beyond => ?_⟩
  · rw [rebuilt]
    refine Post.answer (Post.bind (Post.addWrap (Post.bind (Post.raise fun u raised sig => ?_))))
    have counted : u.get F.LDP_OUTER_CNT_CNT = (s.get F.LDP_OUTER_CNT_CNT + 1) % 2 ^ 64 :=
      (sig.same.get (p := .ldpRegs) rfl (by decide) rfl).trans (State.get_put_self _ _ _)
    have event : Counted (Ev.ldp ldpOUTER_REBUILD) s u :=
      Counted.after raised.1 (State.get_put_window _ _ (by rw [F.EVT_COUNT_CNT_window]; decide))
    refine Post.keeps (.bind (.rebuilds_touches (markWeak_touches k f.layer track sector (L := 2 ^ Part.extents.idx) rfl) rfl rfl) fun _ =>
      .forAll fun q => .ite (takeRebuilt_keeps_rebuilds _) (.pure ())) fun _ t kept => ?_
    obtain ⟨outer, rebuilds⟩ := Prod.ext_iff.mp kept
    exact ⟨outer.trans counted, event.of rebuilds⟩
  · rw [beyond]
    rfl

end Sys2Proof.Machine
end

section
/-! DECODER_FAULT: a decoder with an uncorrectable memory error is failed, and the pool gives its frame to another (R237, R544). -/

namespace Sys2Proof.Machine

variable {x : Fld} {v : Nat} {g : Degraded} {d : SingleFault} {s t u : State} {Q : Unit → State → Prop}

/-- A bit that is set in a field reads as 1 (R544). -/
theorem bitAt_setBit {i w : Nat} (within : i < w) (clear : bitAt v i = false) : bitAt (setBit v i true % 2 ^ w) i = true := by
  have test (n : Nat) : bitAt n i = n.testBit i := by rw [Nat.testBit_eq_decide_div_mod_eq, bitAt, beq_eq_decide]
  have zero : bitsOf v i 1 = 0 := by
    have bit : v / 2 ^ i % 2 ≠ 1 := by simpa [bitAt] using clear
    unfold bitsOf
    omega
  have set : setBit v i true = 2 ^ i + v := by
    rw [setBit, zero, if_pos rfl]
    omega
  rw [test] at clear
  rw [test, set, Nat.testBit_mod_two_pow, Nat.testBit_two_pow_add_eq, clear, decide_eq_true within]
  rfl

/-- An element of the pool has failed: its bit is shown in `x`, and it is recorded as failed; the faults in recovery are `l` (R544, R545). -/
structure ElementFailed (x : Fld) (v : Nat) (g : Degraded) (l : List SingleFault) (ps : List Part) (s t : State) : Prop where
  same : SameBut ps s t
  shown : t.get x = v % 2 ^ x.w
  recovering : t.chip.recovering = l
  degraded : t.chip.degraded.contains g = true

/-- The first fault of an element of the pool is recorded, up to what follows from it (R544, R545). -/
theorem Post.elementFails {i inst : Nat} {m : Act Unit} (own : x.window = .ldpRegs) (idle : s.chip.recovering = [])
    (next : ∀ t, ElementFailed x v g [d] (.ldpRegs :: eventParts) s t → Act.Post m t Q) : Act.Post (do
      Machine.beginSingle d
      Machine.setF x v
      raiseLdp i inst
      Machine.degrade g
      m) s Q := by
  refine Post.bind (Post.beginSingle idle fun a sigA => Post.setThen (Post.bind (Post.raise fun b _ sigB => Post.bind (Post.degrade fun c sigC => ?_))))
  have faultsB : b.faults = ([d], s.chip.degraded) := by
    rw [sigB.faults, show (a.put x v).faults = a.faults from rfl, sigA.faults, State.faults_chip, idle]
    rfl
  have faultsC : c.faults = (b.chip.recovering, if b.chip.degraded.contains g then b.chip.degraded else g :: b.chip.degraded) := sigC.faults
  obtain ⟨recovering, -⟩ := Prod.ext_iff.mp faultsB
  obtain ⟨kept, degraded⟩ := Prod.ext_iff.mp faultsC
  have chip (h : Chip → Chip) (w : State) : SameBut (.ldpRegs :: eventParts) w ((Eff.chip h).apply w) := (SameBut.chip h w).mono (by decide)
  have signals {K : List Nat} {w y : State} (sig : Signals K w y) : SameBut (.ldpRegs :: eventParts) w y := SameBut.ofMask sig.same (by decide)
  refine next c ⟨?_, ?_, kept.trans recovering, ?_⟩
  · exact (((((chip _ s).trans (signals sigA)).put (by rw [own]; exact List.mem_cons_self)).trans (signals sigB)).trans (chip _ b)).trans (signals sigC)
  · exact (sigC.same.get own (by decide) rfl).trans ((sigB.same.get own (by decide) rfl).trans (State.get_put_self _ _ _))
  · change c.chip.degraded = if b.chip.degraded.contains g then b.chip.degraded else g :: b.chip.degraded at degraded
    rw [degraded]
    split
    · assumption
    · exact List.contains_iff_mem.mpr List.mem_cons_self

/-- The recovery of the fault is over at once (R545). -/
theorem Post.elementEnds {ps : List Part} (own : x.window = .ldpRegs) (within : ∀ p ∈ eventParts, p ∈ ps) (failed : ElementFailed x v g [d] ps s t) :
    Act.Post (Machine.endSingle d) t fun _ u => ElementFailed x v g [] ps s u := by
  refine Post.endSingle failed.recovering fun u sig => ?_
  obtain ⟨recovering, degraded⟩ := Prod.ext_iff.mp sig.faults
  refine ⟨?_, ?_, recovering.trans ?_, ?_⟩
  · have chip := (SameBut.chip (fun c => { c with recovering := c.recovering.filter (· != d) }) t).mono (m := eventParts) (by decide)
    exact failed.same.trans ((chip.trans (SameBut.ofMask sig.same (by decide))).mono within)
  · exact (sig.same.get own (by decide) rfl).trans failed.shown
  · change t.chip.recovering.filter (· != d) = []
    rw [failed.recovering]
    simp
  · change u.chip.degraded = t.chip.degraded at degraded
    rw [degraded, failed.degraded]

theorem exec_decoderFault_inner {j : Fin 16} (awake : s.awake = true) (idle : s.chip.recovering = [])
    (works : bitAt (s.get F.LDP_STAT_DEC_FAILED) j.val = false) : ∃ t, exec (.decoderFault false j) s = .next t ∧
      ElementFailed F.LDP_STAT_DEC_FAILED (setBit (s.get F.LDP_STAT_DEC_FAILED) j.val true) (.decoder j.val) []
        (.ldpRegs :: .frames :: .dram :: eventParts) s t := by
  have begins : exec (.decoderFault false j) s = answer _ s := if_pos awake
  refine begins ▸ Post.answer (Post.ifTrue ⟨.inl rfl, works⟩ (Post.elementFails rfl idle fun a failed => Post.ifTrue rfl ?_))
  refine Post.emitThen (Post.bind (Post.assignPool fun b _ same => Post.elementEnds rfl (by decide) ?_))
  have freed (h : List FrameWork → List FrameWork) : Same (2 ^ Part.frames.idx) a ((Eff.frames h).apply a) := Eff.same (.frames h) a
  have after := ((freed _).mono (M := partsMask [.frames, .dram]) rfl).trans same
  refine ⟨(failed.same.mono (by decide)).trans ((SameBut.ofMask after (Nat.or_self _)).mono (by decide)), ?_, ?_, ?_⟩
  · exact (after.get (p := .ldpRegs) rfl (by decide) rfl).trans failed.shown
  · rw [show b.chip = a.chip from after .chip rfl]
    exact failed.recovering
  · rw [show b.chip = a.chip from after .chip rfl]
    exact failed.degraded

theorem exec_decoderFault_outer {j : Fin 16} (awake : s.awake = true) (idle : s.chip.recovering = []) (outer : j.val < 4)
    (works : bitAt (s.get F.LDP_STAT_OUTER_FAILED) j.val = false) : ∃ t, exec (.decoderFault true j) s = .next t ∧
      ElementFailed F.LDP_STAT_OUTER_FAILED (setBit (s.get F.LDP_STAT_OUTER_FAILED) j.val true) (.outer j.val) [] (.ldpRegs :: eventParts) s t := by
  have begins : exec (.decoderFault true j) s = answer _ s := if_pos awake
  refine begins ▸ Post.answer (Post.ifTrue ⟨.inr outer, works⟩ (Post.elementFails rfl idle fun a failed => Post.ifFalse (by decide) ?_))
  exact Post.elementEnds rfl (by decide) failed

end Sys2Proof.Machine
end

section
/-! Detection delivers its frames or poisons them (R223 to R237, R544). -/

namespace Sys2Proof.Machine

variable {k : Fin 8} {track sector : Nat} {f : FrameWork} {s t : State}

/-- An end of an iteration or a rung for a sector that is not in detection does nothing (R223). -/
theorem exec_decodeIterationDone_absent (absent : s.frameAt k track sector = none) : exec (.decodeIterationDone k track sector) s = .next s := by
  change answerWhen s.channelsLive _ s = _
  rw [absent]
  unfold answerWhen
  split <;> rfl

theorem exec_rungDone_absent (absent : s.frameAt k track sector = none) (still : ∀ g ∈ s.frames, g.waiting = false) :
    exec (.rungDone k track sector) s = .next s := by
  change answerWhen s.channelsLive _ s = _
  unfold answerWhen
  split
  · refine Runs.answer (Runs.bind (endReads_still still) (Runs.bind (Runs.rd s) ?_))
    rw [absent]
    exact Runs.pure () s
  · rfl

theorem Delivered.atPlace {payload : List Byte} (h : Delivered k f payload s t) (found : s.frameAt k track sector = some f) :
    t.get F.LDP_CW_CNT_CNT = (s.get F.LDP_CW_CNT_CNT + 1) % 2 ^ 64 ∧ t.frameAt k track sector = none ∧
      ∃ y ∈ t.dram.sectors, y.opu = k.val ∧ y.track = track ∧ y.sector = sector ∧ y.payload = payload ∧ y.poison = false := by
  obtain ⟨counted, gone, stored⟩ := h
  obtain ⟨opu, rfl, rfl⟩ := FrameWork.at_iff.mp (State.frameAt_at found)
  exact ⟨counted, gone, opu ▸ stored⟩

theorem Poisoned.atPlace (h : Poisoned k f s t) (found : s.frameAt k track sector = some f) :
    t.get F.LDP_POISON_CNT_CNT = (s.get F.LDP_POISON_CNT_CNT + 1) % 2 ^ 64 ∧ t.frameAt k track sector = none ∧
      Raised (Ev.ldp ldpPOISONED) 0 k.val (sectorDetail f.vol f.lsa) s t ∧
      ∃ y ∈ t.dram.sectors, y.opu = k.val ∧ y.track = track ∧ y.sector = sector ∧ y.poison = true := by
  obtain ⟨counted, gone, raised, stored⟩ := h
  obtain ⟨opu, rfl, rfl⟩ := FrameWork.at_iff.mp (State.frameAt_at found)
  exact ⟨counted, gone, raised, opu ▸ stored⟩

/-- A frame whose first iterations have not decoded it stands as they left it, whichever decoder takes it next (R223, R230). -/
theorem IterationEnds.left {pass : List Int × List Int} {x : Attempt} (h : IterationEnds k track sector f (s.afterDecode f pass x) x s t)
    (fresh : f.rung = 0) (fails : x.ok = false) : ∃ g, t.frameAt k track sector = some g ∧ g.g = f.g + 1 ∧ g.best = min f.best x.unsatisfied ∧
      g.attempts = min 255 (f.attempts + if f.g = 0 then 1 else 0) ∧ g.extrinsic = x.extrinsic ∧ g.needs = f.needs := by
  obtain ⟨g, found, stands⟩ := h.stays fails
  rw [State.afterDecode_off_rung1 (by rw [fresh]; decide)] at stands
  exact ⟨g, found, congrArg FrameWork.g stands, congrArg FrameWork.best stands, congrArg FrameWork.attempts stands,
    congrArg FrameWork.extrinsic stands, (congrArg FrameWork.needs stands :)⟩

theorem State.Calm.low (centred : s.detectors[k].centred = none) (frames : ∀ g ∈ s.frames, g.waiting = false ∧ g.rung < 5) : s.Calm k :=
  ⟨centred, fun g member => ⟨(frames g member).1, (frames g member).2.ne⟩⟩

/-- Settles O23: each event of detection by what its program does: a capture fills the half or stalls, an iteration or a rung delivers its frame, leaves
it or gives it up, a rebuild is counted once, and a decoder's failure is recorded and over. -/
theorem detectionDeliversOrPoisons : Obligations.DetectionDeliversOrPoisons := by
  unfold Obligations.DetectionDeliversOrPoisons
  refine fun s k => ⟨fun live enabled bound centred frames =>
      ⟨fun triple state unheld => ?begins, fun triple f reading member opu half pending => ?stalls⟩,
    fun track sector absent => ⟨exec_decodeIterationDone_absent absent, exec_rungDone_absent absent⟩,
    fun track sector f live centred frames found fresh busy role more => ?iteration,
    fun track sector f live centred frames found ladder directed data =>
      ⟨fun last => ?poisons, fun n next low top needed allowed => ?climbs⟩,
    fun j track sector d f live disc works found high => ?rebuild,
    fun j awake idle => ⟨fun works => ?inner, fun outer works => ?outer⟩⟩
  case begins =>
    obtain ⟨t, runs, same, reads, detector, samples, mode, others⟩ :=
      exec_captureStart_begins live enabled bound centred (fun g member => (frames g member).1) state unheld
    exact ⟨t, runs, same, reads, detector, samples, mode, others⟩
  case stalls =>
    obtain ⟨t, runs, same, stopped, flagged, mode, raised⟩ :=
      exec_captureStart_stalls live enabled bound (.low centred frames) reading member opu half pending
    exact ⟨t, runs, same, stopped, flagged, mode, raised⟩
  case iteration =>
    obtain ⟨t, runs, same, added, ends⟩ := exec_decodeIterationDone_ends live (.low centred frames) found fresh busy role more rfl
    exact ⟨t, runs, same.mono (by decide), added, fun ok expected => (ends.delivers ok expected).atPlace found,
      fun fails => ⟨ends.uncounted fails, ends.left fresh fails⟩⟩
  case poisons =>
    obtain ⟨t, runs, ends, poisons⟩ := exec_rungDone_poisons live ⟨centred, frames⟩ found ladder directed data last rfl
    refine ⟨t, runs, ends.frame.mono (by decide), ends.counted, fun p decoded expected => ?_, fun fails => (poisons fails).atPlace found⟩
    obtain ⟨counted, gone, -⟩ := (ends.delivers p decoded expected).atPlace found
    exact ⟨counted, gone⟩
  case climbs =>
    obtain ⟨t, runs, ends, climbs⟩ := exec_rungDone_climbs live ⟨centred, frames⟩ found ladder directed next low top needed allowed rfl
    exact ⟨t, runs, ends.frame.mono (by decide), fun fails => ⟨(climbs fails).rose, (climbs fails).stands⟩⟩
  case rebuild =>
    intro b sectors lacks
    exact exec_outerRebuildDone live disc works found high rfl rfl lacks
  case inner =>
    obtain ⟨t, runs, failed⟩ := exec_decoderFault_inner awake idle works
    exact ⟨t, runs, failed.same, failed.shown ▸ bitAt_setBit j.isLt works, failed.degraded⟩
  case outer =>
    obtain ⟨t, runs, failed⟩ := exec_decoderFault_outer awake idle outer works
    exact ⟨t, runs, failed.same, failed.shown ▸ bitAt_setBit outer works, failed.degraded⟩

end Sys2Proof.Machine
end
